-- ==== Sys2Proof/Word.lean ====
section
/-! DEFINITION. The word types and their plainest arithmetic.
Every multi-byte quantity of the part is little-endian (R11), and bit ranges are written [msb:lsb]. -/

namespace Sys2Proof

/-- A byte of a memory. -/
abbrev Byte := BitVec 8

/-- A 64-bit register of node code, or a 64-bit memory word. -/
abbrev W64 := BitVec 64

/-- A 64-bit word with the poison mark that travels with it (R80, R469). -/
structure PWord where
  val : W64 := 0
  poison : Bool := false
  deriving DecidableEq, Repr

end Sys2Proof
end

