-- ==== Sys2Proof/Messages.lean ====
section
/-! DEFINITION. The messages that the part's units exchange (chapter 11), the tokens (chapter 2), and the
fault message (Table 16.1): the operands of many commands, and what waits in the network. -/

namespace Sys2Proof

/-- A token: value, tag, and the poison mark that travels beside it (R39, R40). -/
structure Token where
  val : W64 := 0
  tag : W64 := 0
  poison : Bool := false
  deriving DecidableEq, Repr

/-- A fault message or record as its four 64-bit words (Table 16.1). -/
structure FaultMsg where
  time : Nat := 0
  head : Nat := 0
  addr : Nat := 0
  detail : Nat := 0
  deriving DecidableEq, Repr

/-- The memory request word of Table 11.10. -/
structure MemWord where
  space : Nat := 0
  slot : Nat := 0
  gen : Nat := 0
  vtile : Nat := 0
  off : Nat := 0
  deriving DecidableEq, Repr

/-- An admission request: the spawn word of Table 8.3 with what SPAWN or LAUNCH carries beside it (R227, R228). -/
structure AdmitReq where
  spawn : W64 := 0
  arg : W64 := 0
  ctx : Nat := 0
  iter : Nat := 0
  launch : Bool := false
  trail : Option Nat := none
  notify0 : Nat := 0xFFFFFFFF
  notify1 : Nat := 0xFFFFFFFF
  host : Bool := false
  ringset : Nat := 0
  deriving DecidableEq, Repr

/-- The operations that the release gate's TRAIL_CTRL carries (R276). -/
inductive TrailAction where
  | skip | pass | reset
  deriving DecidableEq, Repr

/-- The lock operations of Table 12.4 (R357). -/
inductive LockOp where
  | acquire | try_ | release | semAcquire | semRelease | cancel | force
  deriving DecidableEq, Repr

/-- A lock request (Table 12.3): OP, the operand word of Table 12.2, and the binding slot. -/
structure LockReq where
  op : LockOp := .acquire
  word : Nat := 0
  slot : Nat := 0
  deriving DecidableEq, Repr

/-- A spoor record without its GAP fields (Table 9.4). -/
structure SpoorRec where
  time : Nat := 0
  handle : Nat := 0xFFFFFFFF
  event : Nat := 0
  part : Nat := 0
  prio : Nat := 0
  unit : Nat := 0
  trail : Option Nat := none
  seq : Nat := 0
  cls : Nat := 0
  status : Nat := 0
  vtile : Nat := 0
  detail : Nat := 0
  deriving DecidableEq, Repr

/-- A response (Table 11.8). -/
inductive Resp where
  | dataWord (w : PWord)
  | dataBytes (bs : List Byte) (poison : Nat)
  | writeAck (lines : Nat)
  | result (w : W64)
  | wait
  | busyRetry (hint : Nat)
  | placeData (unit slot gen : Nat)
  | placeUnbound
  | refused (reason : Nat)
  | fetchData (toks : List Token) (more : Bool)
  | seqData (status seq : Nat)
  | spillData (status accepted : Nat)
  deriving DecidableEq, Repr

/-- What a packet carries, by opcode (Tables 11.6 to 11.9). -/
inductive Body where
  | tokens (gen : Nat) (toks : List Token) (ack : Bool)
  | actTokens (gen : Nat) (toks : List Token) (handle : Nat)
  | readWord (m : MemWord)
  | readLine (m : MemWord)
  | readBulk (m : MemWord)
  | writeWord (m : MemWord) (width : Nat) (data : PWord)
  | aadd (m : MemWord) (width : Nat) (data : W64)
  | lineWrite (line xfer : Nat) (bulk : Bool) (data : List Byte) (poison : Nat)
  | xferLine (line xfer : Nat) (data : List Byte) (poison : Nat) (recv : Option Nat)
  | hostBase (xfer iova : Nat)
  | placeRead (vt : Nat)
  | eventSet (mask : Nat)
  | admission (r : AdmitReq)
  | complete (handle status : Nat)
  | depDec (handle : Nat) (failed : Bool)
  | take (cls vt : Nat)
  | takeCancel (tag : Nat)
  | ctxAlloc
  | ctxRelease (ctx : Nat)
  | ctxNotice (ctx : Nat)
  | seqReq (trail handle : Nat)
  | seqReturn (trail seq : Nat)
  | gateToken (handle : Nat) (tok : Token)
  | gateComplete (handle trail seq status : Nat)
  | trailCtrl (trail : Nat) (a : TrailAction)
  | lockOp (r : LockReq)
  | spill (toks : List (Token × Nat))
  | fetch (key : Nat)
  | reclaim (n : Nat)
  | siftSubmit (desc stand ref : Nat)
  | config (kind : Nat) (words : List Nat)
  | cplPost (rs handle status detail : Nat)
  | spoorEvent (r : SpoorRec)
  | rsp (sub : Nat) (r : Resp)
  | fault (m : FaultMsg)
  | placeInvalidate (first last : Nat)
  | placeInvAck
  | ctxEndAck (ctx count : Nat)
  | activationLost (handle : Nat)
  | orphanNotify (rq part : Nat)
  | replayPurge (rq part : Nat)
  | replayPurgeAck (rq part : Nat)
  | tokenAck (n : Nat)
  deriving DecidableEq, Repr

/-- A packet: class (0 MGMT, 1 TOKEN, 2 REQ, 3 RSP), destination unit, source requester identifier,
partition, tag and contents (Table 11.1). -/
structure Packet where
  cls : Nat := 0
  dest : Nat := 0
  src : Nat := 0
  part : Nat := 0
  tag : Nat := 0
  body : Body := .placeInvAck
  deriving DecidableEq, Repr

/-- Who asks, as a target sees it: requester identifier (R24), partition and tag. -/
structure Rq where
  src : Nat := 0
  part : Nat := 0
  tag : Nat := 0
  deriving DecidableEq, Repr

/-! ### Operands of commands that are no messages -/

/-- A flit of 576 bits: the header in bits [63:0] and the 64-byte payload in bits [575:64], payload byte k at bits
[8k + 7 : 8k] of `payload` (R319). -/
structure Flit where
  header : Nat := 0
  payload : Nat := 0
  deriving DecidableEq, Repr

/-- A probe register (Table 11.17). -/
inductive ProbeReg where
  | sel | matchReg | id
  deriving DecidableEq, Repr

/-- A granted translation: the page, its size, its translation, and the rights (R388, R389). -/
structure AtsGrant where
  page : Nat := 0
  size : Nat := 4096
  addr : Nat := 0
  rd : Bool := true
  wr : Bool := true
  deriving DecidableEq, Repr

/-- What bring-up meets outside the digital part's own state (R503, R505, R507, R515): the straps, a valid reference, the locks of
the core and supervisor PLLs, the first comparator injection, a flash that describes itself and reads, the units that fail
BIST, and an array that can be read. -/
structure BringUp where
  straps : Nat := 0
  refOk : Bool := true
  coreLock : Bool := true
  supLock : Bool := true
  cmpOk : Bool := true
  sfdp : Bool := true
  failed : List Nat := []
  ledgerOk : Bool := true
  deriving DecidableEq, Repr

/-- What an idle scrub reads (R344, R459, R525): a router's class buffer, a word of a stand buffer, or the partition tables. -/
inductive ScrubTarget where
  | buffer (router port cls : Nat)
  | standBuffer (stand word : Nat)
  | partitionTables
  deriving DecidableEq, Repr

/-- An acknowledgement of a context release (R65): a tile's CTX_END_ACK, or the agent's answer to the release notice. -/
inductive CtxAck where
  | tile (unit part ctx count : Nat)
  | agent (src part tag : Nat) (r : Resp)
  deriving DecidableEq, Repr

/-- A requester tag, which a requester numbers anew in each partition (R25). -/
structure ReqTag where
  part : Nat := 0
  tag : Nat := 0
  deriving DecidableEq, Repr

/-- A timer of R340: that of a request, or that of a sender's TOKEN acknowledgements (R588). -/
inductive E2eTimer where
  | request (sub part target tag : Nat)
  | tokenAck
  deriving DecidableEq, Repr

/-- What a configuration read returns (R378, R380, R392, Tables 13.1 to 13.3): the function's identity, which capabilities it has
(their rows in Table 13.3, from 0), the two words of the Basnyk DVSEC, and its MSI-X Table Size. -/
inductive CfgReg where
  | deviceId | classCode | revisionId | interruptPin | capabilities | dvsec | dvsecCounts | msixTableSize
  deriving DecidableEq, Repr

/-- What a configuration request changes (R380, R385, R386, R389 to R393), or what it reads; half 1 names the monitor function of a
bifurcated port. -/
inductive CfgReq where
  | busMaster (on : Bool)
  | vfEnable (on : Bool)
  | ats (on : Bool)
  | pasid (on : Bool)
  | msixEnable (on : Bool)
  | functionMask (on : Bool)
  | cplTimeout (us : Nat)
  | read (half : Nat) (reg : CfgReg)
  | other
  deriving DecidableEq, Repr

/-- How a host access ends (R390): with the data and poison of a read (none of a write), or with UR, CA or another error. -/
inductive HostResult where
  | ok (data : List Byte) (poison : Nat)
  | error
  deriving DecidableEq, Repr

/-- Who reads or writes a register (R15, R33, R382, R383): a function of a port (0 the PF, 1 to 16 the VFs), the monitor
function of a port, the supervisor pair, or the platform controller by MCTP. -/
inductive Accessor where
  | fn (port fn : Nat)
  | monitor (port : Nat)
  | supervisor
  | platform
  deriving DecidableEq, Repr

/-- What a write of a 64-bit register covers: the whole register, or one of its 4-byte halves (R35, R36). -/
inductive RegPart where
  | whole (value : Nat)
  | low (value : Nat)
  | high (value : Nat)
  deriving DecidableEq, Repr

/-- An MCTP message that is refused: the party that sent it, and whether Table 15.4 does not permit that party its command; otherwise a
command code or field of it is reserved (R444). -/
structure BadMctp where
  party : Nat
  forbidden : Bool
  deriving DecidableEq, Repr

/-- Where a request that a register, an MCTP command or the firmware can make comes from (R478, R523, R550): a write of its
register, a party's command (0 the fabric manager, 1 the platform controller) with its value, or the firmware itself. -/
inductive CtrlFrom where
  | register (a : Accessor) (x : RegPart)
  | mctp (party value : Nat)
  | firmware
  deriving DecidableEq, Repr

end Sys2Proof
end

