-- ==== Sys2Proof/Syntax.lean ====
section
/-! DEFINITION. The commands of the part (spec/opcode_table.json): one constructor per row of the table, with the operands that its rule names. -/

namespace Sys2Proof

/-- A command: a register access, a message of the network, an event of a unit, a pin or a clock, or a step that a unit takes. -/
inductive Instr where
  /-- CHIP_RESET (R502). -/
  | chipReset (por : Bool)
  /-- CHIP_RESET_RELEASE (R505). -/
  | chipResetRelease (x : BringUp)
  /-- OPERATIONAL_ENTRY (R522). -/
  | operationalEntry
  /-- SUPERVISOR_RESET (R502). -/
  | supervisorReset
  /-- SUP_RESET_WRITE (R504). -/
  | supResetWrite (a : Accessor) (x : RegPart)
  /-- WATCHDOG_EXPIRY (R513). -/
  | watchdogExpiry
  /-- RECOVERY_IMAGE (R512). -/
  | recoveryImage (image : List Byte)
  /-- REVOKE_KEY (R511). -/
  | revokeKey (party : Nat) (statement key signature : List Byte)
  /-- SECURITY_FLOOR_RAISE (R510). -/
  | securityFloorRaise (party n : Nat)
  /-- FIRMWARE_UPDATE (R539). -/
  | firmwareUpdate (party : Nat) (image : List Byte)
  /-- HOLD_WRITE (R523). -/
  | holdWrite (from_ : CtrlFrom)
  /-- SUP_SRAM_SCRUB (R514). -/
  | supSramScrub (err : Nat)
  /-- REFERENCE_LOSS (R497). -/
  | referenceLoss (portDown : Bool)
  /-- REFERENCE_RETURN (R498). -/
  | referenceReturn
  /-- PLL_UNLOCK (R501). -/
  | pllUnlock (core : Bool)
  /-- PLL_LOCK_ATTEMPT_END (R501). -/
  | pllLockAttemptEnd (core locked : Bool)
  /-- SLICE_START (R525). -/
  | sliceStart (u : Nat) (scrub : Bool) (len : Nat)
  /-- SLICE_END (R528). -/
  | sliceEnd (u : Nat) (pass : Bool)
  /-- SLICE_KERNEL_WAIT_EXPIRY (R526). -/
  | sliceKernelWaitExpiry (u : Nat)
  /-- IFST_PERIOD_END (R527). -/
  | ifstPeriodEnd
  /-- REGISTER_WRITE (R15). -/
  | registerWrite (a : Accessor) (off size value : Nat)
  /-- BAR0_INVALID_ACCESS (R35). -/
  | bar0InvalidAccess (a : Accessor) (off size : Nat) (value : Option Nat)
  /-- FOREST_TIME_LOW_READ (R31). -/
  | forestTimeLowRead (a : Accessor)
  /-- FOREST_TIME_HIGH_READ (R31). -/
  | forestTimeHighRead (a : Accessor)
  /-- TOKEN_ARRIVAL (R50). -/
  | tokenArrival (u src part gen : Nat) (toks : List Token) (ack : Bool) (handle : Option Nat)
  /-- MATCH_TOKEN (R52). -/
  | matchToken (u : Nat)
  /-- MATCH_STICKY_TOKEN (R55). -/
  | matchStickyToken (u : Nat)
  /-- CTX_END (R62). -/
  | ctxEnd (u : Nat)
  /-- CTX_PURGE (R62). -/
  | ctxPurge (u : Nat)
  /-- CONTROL_SCAN_DONE (R308). -/
  | controlScanDone (u : Nat)
  /-- NODE_DISPATCH (R75). -/
  | nodeDispatch (u : Nat)
  /-- PLACE_FILL (R48). -/
  | placeFill (unit src part tag : Nat) (r : Resp)
  /-- PLACE_INVALIDATE (R49). -/
  | placeInvalidate (u part first last : Nat)
  /-- PLACE_READ (R452). -/
  | placeRead (rq : Rq) (vt : Nat)
  /-- ALLOCATE_REQUEST (R64). -/
  | allocateRequest (rq : Rq)
  /-- RELEASE_REQUEST (R65). -/
  | releaseRequest (rq : Rq) (ctx : Nat)
  /-- CTX_RELEASE_ACK (R65). -/
  | ctxReleaseAck (x : CtxAck)
  /-- NOP (R86). -/
  | nop (u : Nat)
  /-- DONE (R102). -/
  | done (u : Nat)
  /-- RET (R108). -/
  | ret (u : Nat)
  /-- RETT (R112). -/
  | rett (u : Nat)
  /-- BR (R110). -/
  | br (u : Nat)
  /-- CALL (R107). -/
  | call (u : Nat)
  /-- CALLR (R107). -/
  | callr (u : Nat)
  /-- JR (R110). -/
  | jr (u : Nat)
  /-- TRAP (R111). -/
  | trap (u : Nat)
  /-- FENCE (R92). -/
  | fence (u : Nat)
  /-- ADD (R88). -/
  | add (u : Nat)
  /-- SUB (R88). -/
  | sub (u : Nat)
  /-- MUL (R88). -/
  | mul (u : Nat)
  /-- MULHU (R88). -/
  | mulhu (u : Nat)
  /-- MULHS (R88). -/
  | mulhs (u : Nat)
  /-- DIVU (R88). -/
  | divu (u : Nat)
  /-- DIVS (R88). -/
  | divs (u : Nat)
  /-- REMU (R88). -/
  | remu (u : Nat)
  /-- AND (R88). -/
  | and (u : Nat)
  /-- OR (R88). -/
  | or (u : Nat)
  /-- XOR (R88). -/
  | xor (u : Nat)
  /-- SHL (R88). -/
  | shl (u : Nat)
  /-- SHR (R88). -/
  | shr (u : Nat)
  /-- SAR (R88). -/
  | sar (u : Nat)
  /-- MINS (R88). -/
  | mins (u : Nat)
  /-- MAXS (R88). -/
  | maxs (u : Nat)
  /-- ADDI (R88). -/
  | addi (u : Nat)
  /-- SUBI (R88). -/
  | subi (u : Nat)
  /-- MULI (R88). -/
  | muli (u : Nat)
  /-- MULHUI (R88). -/
  | mulhui (u : Nat)
  /-- MULHSI (R88). -/
  | mulhsi (u : Nat)
  /-- DIVUI (R88). -/
  | divui (u : Nat)
  /-- DIVSI (R88). -/
  | divsi (u : Nat)
  /-- REMUI (R88). -/
  | remui (u : Nat)
  /-- ANDI (R88). -/
  | andi (u : Nat)
  /-- ORI (R88). -/
  | ori (u : Nat)
  /-- XORI (R88). -/
  | xori (u : Nat)
  /-- SHLI (R88). -/
  | shli (u : Nat)
  /-- SHRI (R88). -/
  | shri (u : Nat)
  /-- SARI (R88). -/
  | sari (u : Nat)
  /-- MINSI (R88). -/
  | minsi (u : Nat)
  /-- MAXSI (R88). -/
  | maxsi (u : Nat)
  /-- CMPEQ (R89). -/
  | cmpeq (u : Nat)
  /-- CMPNE (R89). -/
  | cmpne (u : Nat)
  /-- CMPLTS (R89). -/
  | cmplts (u : Nat)
  /-- CMPLTU (R89). -/
  | cmpltu (u : Nat)
  /-- CMPLES (R89). -/
  | cmples (u : Nat)
  /-- CMPLEU (R89). -/
  | cmpleu (u : Nat)
  /-- PLOG (R89). -/
  | plog (u : Nat)
  /-- MOV (R80). -/
  | mov (u : Nat)
  /-- MOVI (R84). -/
  | movi (u : Nat)
  /-- MOVT (R112). -/
  | movt (u : Nat)
  /-- MOVTW (R112). -/
  | movtw (u : Nat)
  /-- RDSYS (R86). -/
  | rdsys (u : Nat)
  /-- FADD (R90). -/
  | fadd (u : Nat)
  /-- FSUB (R90). -/
  | fsub (u : Nat)
  /-- FMUL (R90). -/
  | fmul (u : Nat)
  /-- FDIV (R90). -/
  | fdiv (u : Nat)
  /-- FMIN (R90). -/
  | fmin (u : Nat)
  /-- FMAX (R90). -/
  | fmax (u : Nat)
  /-- FMA (R90). -/
  | fma (u : Nat)
  /-- FCVT (R90). -/
  | fcvt (u : Nat)
  /-- LD (R91). -/
  | ld (u : Nat)
  /-- LDS (R91). -/
  | lds (u : Nat)
  /-- ST (R91). -/
  | st (u : Nat)
  /-- AADD (R91). -/
  | aadd (u : Nat)
  /-- SEND (R95). -/
  | send (u : Nat)
  /-- SENDS (R95). -/
  | sends (u : Nat)
  /-- SENDR (R95). -/
  | sendr (u : Nat)
  /-- SENDC (R95). -/
  | sendc (u : Nat)
  /-- CTXA (R98). -/
  | ctxa (u : Nat)
  /-- CTXR (R98). -/
  | ctxr (u : Nat)
  /-- SPAWN (R99). -/
  | spawn (u : Nat)
  /-- SPAWN_TRY (R99). -/
  | spawnTry (u : Nat)
  /-- TAKE (R100). -/
  | take (u : Nat)
  /-- COMPLETE (R101). -/
  | complete (u : Nat)
  /-- LOCKSTEP (R103). -/
  | lockstep (u : Nat)
  /-- LACQ (R104). -/
  | lacq (u : Nat)
  /-- LTRY (R104). -/
  | ltry (u : Nat)
  /-- LREL (R104). -/
  | lrel (u : Nat)
  /-- SACQ (R104). -/
  | sacq (u : Nat)
  /-- SREL (R104). -/
  | srel (u : Nat)
  /-- WAITEV (R105). -/
  | waitev (u : Nat)
  /-- WAITEV_TIMEOUT (R105). -/
  | waitevTimeout (u : Nat)
  /-- TAKE_TIMEOUT (R246). -/
  | takeTimeout (u : Nat)
  /-- VBCAST (R586). -/
  | vbcast (u : Nat)
  /-- VEXT (R586). -/
  | vext (u : Nat)
  /-- VINS (R586). -/
  | vins (u : Nat)
  /-- VRED (R586). -/
  | vred (u : Nat)
  /-- RESPONSE_ARRIVAL (R340). -/
  | responseArrival (unit src part tag sub : Nat) (r : Resp)
  /-- MEMORY_RESPONSE (R587). -/
  | memoryResponse (unit src part tag : Nat) (r : Resp)
  /-- BUSY_RETRY_REPEAT (R343). -/
  | busyRetryRepeat (unit sub target : Nat) (tag : ReqTag)
  /-- SPAWN_REPEAT (R252). -/
  | spawnRepeat (unit target : Nat) (tag : ReqTag)
  /-- KERNEL_ENTRY (R139). -/
  | kernelEntry (u : Nat)
  /-- BUNDLE_ISSUE (R122). -/
  | bundleIssue (u : Nat)
  /-- WAITC_PASS (R138). -/
  | waitcPass (u : Nat)
  /-- WAITC_TIMEOUT (R138). -/
  | waitcTimeout (u : Nat)
  /-- KERNEL_END (R140). -/
  | kernelEnd (u : Nat)
  /-- BANK_WAIT_GUARD (R132). -/
  | bankWaitGuard (u : Nat)
  /-- WINDOW_JOB_ACCESS (R186). -/
  | windowJobAccess (u : Nat)
  /-- WINDOW_JOB_END (R185). -/
  | windowJobEnd (u : Nat)
  /-- TRANSFER_START (R188). -/
  | transferStart (u : Nat)
  /-- TRANSFER_LINE (R189). -/
  | transferLine (u : Nat)
  /-- TRANSFER_LINE_LAND (R190). -/
  | transferLineLand (u : Nat) (rq : Rq) (line xfer : Nat) (data : List Byte) (poison : Nat) (recv : Option Nat)
  /-- TRANSFER_COMPLETE (R190). -/
  | transferComplete (u slot : Nat)
  /-- KLB_OPEN (R171). -/
  | klbOpen (file : List Byte)
  /-- KLB_BIND (R171). -/
  | klbBind (handle : Nat) (name : List Byte) (value : Nat)
  /-- KLB_PLACE (R166). -/
  | klbPlace (handle part : Nat)
  /-- KLB_LOAD (R173). -/
  | klbLoad (handle rs : Nat)
  /-- KLB_START (R163). -/
  | klbStart (handle rs : Nat)
  /-- KLB_UNLOAD (R171). -/
  | klbUnload (handle rs : Nat)
  /-- KLB_QUERY (R171). -/
  | klbQuery (handle vt : Nat)
  /-- SIFT_SUBMIT (R202). -/
  | siftSubmit (k : Nat) (rq : Rq) (desc stand ref : Nat)
  /-- SIFT_ADMIT (R203). -/
  | siftAdmit (k : Nat)
  /-- SIFT_SEGMENT (R203). -/
  | siftSegment (k : Nat)
  /-- SIFT_JOB_COMPLETE (R219). -/
  | siftJobComplete (k : Nat)
  /-- ADMIT (R229). -/
  | admitReq (rq : Rq) (req : AdmitReq)
  /-- DECREMENT (R232). -/
  | decrement (rq : Rq) (handle : Nat) (failed : Bool)
  /-- READY_STORE_ENTRY (R236). -/
  | readyStoreEntry (idx : Nat)
  /-- PUSH_DISPATCH (R243). -/
  | pushDispatch (k : Nat)
  /-- TAKE_ARRIVAL (R245). -/
  | takeArrival (k : Nat) (rq : Rq) (cls vt : Nat)
  /-- TAKE_CANCEL (R246). -/
  | takeCancel (k : Nat) (rq : Rq) (takeTag : Nat)
  /-- SIFTER_DISPATCH (R247). -/
  | sifterDispatch (k : Nat)
  /-- ACTIVATION_LOST_REPORT (R241). -/
  | activationLostReport (u part handle : Nat)
  /-- COMPLETION (R248). -/
  | completion (rq : Rq) (handle status : Nat)
  /-- RECORD_FREE (R248). -/
  | recordFree (idx : Nat)
  /-- SEQ_REQ (R263). -/
  | seqReq (rq : Rq) (t handle : Nat)
  /-- SEQ_RETURN (R265). -/
  | seqReturn (rq : Rq) (t seq : Nat)
  /-- GATE_TOKEN (R267). -/
  | gateToken (rq : Rq) (handle : Nat) (tok : Token)
  /-- GATE_COMPLETE (R271). -/
  | gateComplete (rq : Rq) (handle t seq status : Nat)
  /-- GATE_RELEASE (R271). -/
  | gateRelease (t : Nat)
  /-- SKIP (R276). -/
  | skip (rq : Rq) (t : Nat)
  /-- PASS (R276). -/
  | pass (rq : Rq) (t : Nat)
  /-- RESET (R276). -/
  | reset (rq : Rq) (t : Nat)
  /-- SPOOR_EVENT (R281). -/
  | spoorEvent (r : SpoorRec)
  /-- SPOOR_RECORD_WRITE (R284). -/
  | spoorRecordWrite (d : Nat)
  /-- SPOOR_CI_REREAD (R284). -/
  | spoorCiReread (d : Nat)
  /-- SPOOR_STALL_TIMEOUT (R286). -/
  | spoorStallTimeout (d : Nat)
  /-- SP_CTRL_WRITE (R288). -/
  | spCtrlWrite (a : Accessor) (x : RegPart)
  /-- EVICTION_EPISODE (R295). -/
  | evictionEpisode (u : Nat)
  /-- UNFIRE (R298). -/
  | unfire (u : Nat)
  /-- MONITOR_HOLD_OFF_END (R294). -/
  | monitorHoldOffEnd (u : Nat)
  /-- SPILL (R302). -/
  | spill (rq : Rq) (toks : List (Token × Nat))
  /-- SPILL_ANSWER (R296). -/
  | spillAnswer (unit src part tag : Nat) (r : Resp)
  /-- FETCH (R306). -/
  | fetch (rq : Rq) (key : Nat)
  /-- FETCH_DATA (R307). -/
  | fetchData (unit src part tag : Nat) (r : Resp)
  /-- FETCH_BUFFER_INJECT (R307). -/
  | fetchBufferInject (u : Nat)
  /-- REFIRE_FETCH (R299). -/
  | refireFetch (u : Nat)
  /-- CTX_NOTICE (R308). -/
  | ctxNotice (rq : Rq) (ctx : Nat)
  /-- SWEEP (R309). -/
  | sweep (p : Nat)
  /-- RECLAIM (R309). -/
  | reclaim (u : Nat) (rq : Rq) (n : Nat)
  /-- OVERSPILL_ENABLE (R300). -/
  | overspillEnable (rs : Nat)
  /-- OVERSPILL_DISABLE (R300). -/
  | overspillDisable (rs : Nat)
  /-- FLIT_RECEIVE (R336). -/
  | flitReceive (r p : Nat) (down : Bool) (fseq : Nat) (crc : Nat) (f : Flit)
  /-- LINK_NAK (R336). -/
  | linkNak (r p : Nat) (down : Bool) (seq : Nat)
  /-- ROUTER_FORWARD (R332). -/
  | routerForward (r o : Nat)
  /-- CREDIT_RETURN (R327). -/
  | creditReturn (r p cls : Nat) (toUnit : Bool)
  /-- TOKEN_ACK (R588). -/
  | tokenAck (unit src part n : Nat)
  /-- E2E_TIMER_EXPIRY (R340). -/
  | e2eTimerExpiry (unit : Nat) (t : E2eTimer)
  /-- REPLAY_PURGE (R342). -/
  | replayPurge (target src rq part : Nat)
  /-- REPLAY_PURGE_ACK (R342). -/
  | replayPurgeAck (unit target rq part : Nat)
  /-- READ_WORD (R326). -/
  | readWord (u : Nat) (rq : Rq) (m : MemWord)
  /-- READ_LINE (R326). -/
  | readLine (u : Nat) (rq : Rq) (m : MemWord)
  /-- READ_BULK (R326). -/
  | readBulk (u : Nat) (rq : Rq) (m : MemWord)
  /-- WRITE_WORD (R326). -/
  | writeWord (u : Nat) (rq : Rq) (m : MemWord) (width : Nat) (x : PWord)
  /-- AADD_REQUEST (R326). -/
  | aaddRequest (u : Nat) (rq : Rq) (m : MemWord) (width : Nat) (x : W64)
  /-- LINE_WRITE (R323). -/
  | lineWrite (u : Nat) (rq : Rq) (line xfer : Nat) (bulk : Bool) (data : List Byte) (poison : Nat)
  /-- HOST_BASE (R323). -/
  | hostBase (u : Nat) (rq : Rq) (xfer iova : Nat)
  /-- EVENT_SET (R105). -/
  | eventSet (u : Nat) (rq : Rq) (mask : Nat)
  /-- PROBE_SEL_WRITE (R349). -/
  | probeSelWrite (a : Accessor) (k : Nat) (reg : ProbeReg) (x : RegPart)
  /-- CAP_CTRL_WRITE (R348). -/
  | capCtrlWrite (a : Accessor) (x : RegPart)
  /-- ACQUIRE (R357). -/
  | acquire (rq : Rq) (word slot : Nat)
  /-- TRY (R357). -/
  | tryLock (rq : Rq) (word slot : Nat)
  /-- RELEASE (R357). -/
  | release (rq : Rq) (word slot : Nat)
  /-- SEM_ACQUIRE (R357). -/
  | semAcquire (rq : Rq) (word slot : Nat)
  /-- SEM_RELEASE (R357). -/
  | semRelease (rq : Rq) (word slot : Nat)
  /-- CANCEL (R357). -/
  | cancel (rq : Rq) (word slot : Nat)
  /-- FORCE (R365). -/
  | force (rq : Rq) (word slot : Nat)
  /-- LOCK_WAIT_LIMIT (R360). -/
  | lockWaitLimit (rq : Rq)
  /-- ORPHAN_NOTIFY (R363). -/
  | orphanNotify (src rq part : Nat)
  /-- HOST_LINK_UP (R374). -/
  | hostLinkUp (b h : Nat) (cxl flit : Bool) (speed width : Nat)
  /-- HOST_LINK_DOWN (R384). -/
  | hostLinkDown (b h : Nat)
  /-- FUNCTION_LEVEL_RESET (R385). -/
  | functionLevelReset (b f : Nat)
  /-- PF_FUNCTION_LEVEL_RESET (R386). -/
  | pfFunctionLevelReset (b : Nat)
  /-- BUS_MASTER_ENABLE_CLEAR (R385). -/
  | busMasterEnableClear (b f : Nat)
  /-- CONFIGURATION_REQUEST (R506). -/
  | configurationRequest (b f : Nat) (r : CfgReq)
  /-- VENDOR_DEFINED_MESSAGE (R379). -/
  | vendorDefinedMessage (b f : Nat) (type0 fromFm : Bool)
  /-- ATS_TRANSLATION_COMPLETION (R388). -/
  | atsTranslationCompletion (b id : Nat) (grant : Option AtsGrant)
  /-- ATS_INVALIDATION_REQUEST (R389). -/
  | atsInvalidationRequest (b f : Nat) (pasid : Option Nat) (page size itag : Nat)
  /-- HOST_ACCESS_COMPLETION (R390). -/
  | hostAccessCompletion (b id : Nat) (r : HostResult)
  /-- COMPLETION_TIMEOUT (R390). -/
  | completionTimeout (b id : Nat)
  /-- IDE_INTEGRITY_FAILURE (R391). -/
  | ideIntegrityFailure (b stream : Nat)
  /-- IDE_KM (R391). -/
  | ideKm (b index stream : Nat)
  /-- MSIX_UNMASK (R393). -/
  | msixUnmask (b f vec : Nat)
  /-- SQ_PI_WRITE (R398). -/
  | sqPiWrite (b f page value : Nat)
  /-- CQ_CI_WRITE (R398). -/
  | cqCiWrite (b f page value : Nat)
  /-- RING_ENABLE (R400). -/
  | ringEnable (b f page : Nat)
  /-- RING_DISABLE (R402). -/
  | ringDisable (b f page : Nat)
  /-- BAR2_REGISTER_WRITE (R396). -/
  | bar2RegisterWrite (b f page off size value : Nat)
  /-- DESCRIPTOR_FETCH (R427). -/
  | descriptorFetch (rs : Nat)
  /-- RING_NOP (R410). -/
  | ringNop (rs : Nat)
  /-- LAUNCH (R411). -/
  | launch (rs : Nat)
  /-- TOKEN_INJECT (R412). -/
  | tokenInject (rs : Nat)
  /-- DEP_DEC (R413). -/
  | depDec (rs : Nat)
  /-- ACT_ABORT (R414). -/
  | actAbort (rs : Nat)
  /-- CTX_ALLOC (R415). -/
  | ctxAlloc (rs : Nat)
  /-- CTX_RELEASE (R415). -/
  | ctxRelease (rs : Nat)
  /-- SIFT (R416). -/
  | sift (rs : Nat)
  /-- LOCK (R417). -/
  | lock (rs : Nat)
  /-- LOCK_FORCE (R418). -/
  | lockForce (rs : Nat)
  /-- COPY (R419). -/
  | copy (rs : Nat)
  /-- LOAD_CODE (R420). -/
  | loadCode (rs : Nat)
  /-- LOAD_REGS (R420). -/
  | loadRegs (rs : Nat)
  /-- CLASS_CONFIG (R235). -/
  | classConfig (rs : Nat)
  /-- TRAIL_CONFIG (R260). -/
  | trailConfig (rs : Nat)
  /-- TRAIL_CTRL (R276). -/
  | trailCtrl (rs : Nat)
  /-- LOCK_CONFIG (R352). -/
  | lockConfig (rs : Nat)
  /-- TRACE_CONFIG (R421). -/
  | traceConfig (rs : Nat)
  /-- HELD_DESCRIPTOR_REPEAT (R411). -/
  | heldDescriptorRepeat (rs : Nat)
  /-- CPL_POST (R428). -/
  | cplPost (u : Nat) (rq : Rq) (rs handle status detail : Nat)
  /-- MODERATION_TIMER_EXPIRY (R429). -/
  | moderationTimerExpiry (rs : Nat)
  /-- STAGE (R446). -/
  | stage (party kind : Nat) (rec binds : List Byte)
  /-- SIGN (R447). -/
  | sign (party id : Nat) (sigs : List (List Byte))
  /-- COUNTERSIGN (R447). -/
  | countersign (party id : Nat) (sigs : List (List Byte))
  /-- STAGE_PROCESSING (R449). -/
  | stageProcessing
  /-- COMMIT_APPLY (R452). -/
  | commitApply
  /-- QUIESCE_TIMEOUT (R449). -/
  | quiesceTimeout
  /-- PLACE_INV_ACK (R452). -/
  | placeInvAck (u part : Nat)
  /-- PLACE_INV_ACK_TIMEOUT (R452). -/
  | placeInvAckTimeout
  /-- STAGE_TIMEOUT (R448). -/
  | stageTimeout (id : Nat)
  /-- ABORT (R448). -/
  | abort (party id : Nat)
  /-- ARM (R455). -/
  | arm (party part digest : Nat)
  /-- DISARM (R455). -/
  | disarm (party part : Nat)
  /-- QUERY (R444). -/
  | query (party : Nat)
  /-- ENROLL (R441). -/
  | enroll (party : Nat) (key : List Byte) (expects : Nat)
  /-- ENROLL_TIMEOUT (R441). -/
  | enrollTimeout
  /-- CANCEL_REPLACE (R443). -/
  | cancelReplace (party : Nat) (sig : List Byte)
  /-- REPLACE_WAIT_EXPIRY (R442). -/
  | replaceWaitExpiry
  /-- DIRECT_WRITE (R457). -/
  | directWrite (a : Accessor) (pos slot : Nat) (frame : Bool) (x : RegPart)
  /-- GET_MEASUREMENTS (R458). -/
  | getMeasurements (index : Nat)
  /-- FAULT_MESSAGE (R464). -/
  | faultMessage (m : FaultMsg)
  /-- QUARANTINE_FOLLOW_UP (R475). -/
  | quarantineFollowUp
  /-- SAFE_EXIT (R478). -/
  | safeExit (from_ : CtrlFrom)
  /-- SAFE_RETURN (R480). -/
  | safeReturn
  /-- NOTICE_INTERVAL_END (R481). -/
  | noticeIntervalEnd (port fn : Nat)
  /-- ALERT_ACK (R482). -/
  | alertAck
  /-- KIND_TABLE_WRITE (R467). -/
  | kindTableWrite (k cls : Nat) (log notify notifyPc : Bool)
  /-- COLLECTOR_SCRUB (R483). -/
  | collectorScrub
  /-- COLLECTOR_REINIT (R484). -/
  | collectorReinit
  /-- RECORD_ACKNOWLEDGE (R491). -/
  | recordAcknowledge
  /-- CHECKER_MISMATCH (R487). -/
  | checkerMismatch
  /-- DELAY_REGISTER_PARITY_ERROR (R487). -/
  | delayRegisterParityError
  /-- CHECKER_INJECTION (R488). -/
  | checkerInjection (detected : Bool)
  /-- CHECKPOINT (R540). -/
  | checkpoint
  /-- LEDGER_READ (R550). -/
  | ledgerRead (party line count : Nat)
  /-- LEDGER_FLUSH (R550). -/
  | ledgerFlush (from_ : CtrlFrom)
  /-- SET_CALENDAR (R546). -/
  | setCalendar (party secs nanos : Nat)
  /-- LEDGER_STATUS (R550). -/
  | ledgerStatus (party : Nat)
  /-- READ_ADDR_WRITE (R550). -/
  | readAddrWrite (a : Accessor) (x : RegPart)
  /-- POWER_LEVEL_STEP (R572). -/
  | powerLevelStep (pout : Option Nat)
  /-- THERMAL_LEVEL_STEP (R573). -/
  | thermalLevelStep
  /-- PWR_BRAKE (R573). -/
  | pwrBrake (low : Bool)
  /-- SENSOR_READING (R577). -/
  | sensorReading (tj : Int)
  /-- HARDWARE_SHUTDOWN (R577). -/
  | hardwareShutdown
  /-- VR_ALERT (R575). -/
  | vrAlert (status : Option Bool)
  /-- RAIL_CHECK (R569). -/
  | railCheck (out : List Nat)
  /-- VDDIO_1V8_OUT_OF_RANGE (R563). -/
  | vddioOutOfRange (out : Bool)
  /-- VCORE_TRIM (R571). -/
  | vcoreTrim (up down : Bool)
  /-- TOKEN_ACK_SEND (R588). -/
  | tokenAckSend (u src : Nat)
  /-- LINK_ACKNOWLEDGEMENT (R336). -/
  | linkAcknowledgement (r p : Nat) (down : Bool) (seq : Nat)
  /-- POWER_LOSS (R542). -/
  | powerLoss
  /-- REGISTER_READ_CLEAR (R580). -/
  | registerReadClear (a : Accessor) (off size : Nat)
  /-- HOST_SNOOP (R388). -/
  | hostSnoop (b addr : Nat)
  /-- HOST_LINK_ERROR (R373). -/
  | hostLinkError (b h : Nat) (viral : Bool)
  /-- IDLE_SCRUB (R344). -/
  | idleScrub (x : ScrubTarget)
  /-- JTAG_TCK_EDGE (R570). -/
  | jtagTckEdge (rising tms tdi trstLow : Bool) (pinLevels : List Bool)
  /-- DYNAMIC_ADDRESS_ASSIGNMENT (R570). -/
  | dynamicAddressAssignment (static : Option Nat) (addr : Nat)
  /-- MCTP_MESSAGE_INVALID (R444). -/
  | mctpMessageInvalid (m : BadMctp)
  deriving DecidableEq, Repr

end Sys2Proof
end

