-- ==== Sys2Proof/Machine/Bits.lean ====
section
/-! DEFINITION. Bit fields, saturating and wrapping counters, signed readings of bit patterns.
Bit ranges are written [msb:lsb], as the manual's field tables write them. -/

namespace Sys2Proof.Machine

/-- The bits [hi:lo] of a number, as the manual's tables write a field. -/
def bits (w hi lo : Nat) : Nat := (w >>> lo) % 2 ^ (hi - lo + 1)

/-- The bit [i] of a number. -/
def bit (w i : Nat) : Bool := (w >>> i) % 2 == 1

/-- A Bool as the bit it stands for. -/
def b2n (b : Bool) : Nat := if b then 1 else 0

/-- Quotient rounded up. -/
def ceilDiv (a b : Nat) : Nat := (a + b - 1) / b

/-- Fields of `w` bits packed from the lowest bit upward. -/
def packFields (w : Nat) (l : List Nat) : Nat :=
  match l with
  | [] => 0
  | x :: r => x % 2 ^ w + 2 ^ w * packFields w r

/-- One more, saturating at the largest value of `w` bits. -/
def satInc (w n : Nat) : Nat := if n + 1 < 2 ^ w then n + 1 else 2 ^ w - 1

/-- A sum, saturating at the largest value of `w` bits. -/
def satAdd (w n k : Nat) : Nat := if n + k < 2 ^ w then n + k else 2 ^ w - 1

/-- One more, modulo the size of `w` bits. -/
def wrapInc (w n : Nat) : Nat := (n + 1) % 2 ^ w

/-- The signed value of the low `w` bits of a number. -/
def signed (w n : Nat) : Int :=
  let m := n % 2 ^ w
  if m < 2 ^ (w - 1) then (m : Int) else (m : Int) - (2 ^ w : Nat)

/-- An integer narrowed to `w` bits. -/
def narrow (w : Nat) (i : Int) : Nat := (i % (2 ^ w : Nat)).toNat

end Sys2Proof.Machine
end

