-- ==== Sys2Proof/Machine/Float.lean ====
section
/-! DEFINITION. Floating-point arithmetic of R90, on bit patterns as numbers: exact values, one rounding to
nearest with ties to even, subnormal inputs and results flushed, canonical NaN. -/

namespace Sys2Proof.Machine

/-- A format: exponent bits and fraction bits. -/
structure FFmt where
  eb : Nat
  mb : Nat
  deriving DecidableEq, Repr

/-- binary32. -/
def f32 : FFmt := ⟨8, 23⟩
/-- bf16. -/
def bf16 : FFmt := ⟨8, 7⟩
/-- fp16. -/
def fp16 : FFmt := ⟨5, 10⟩

/-- The exponent bias. -/
def FFmt.bias (f : FFmt) : Int := (2 ^ (f.eb - 1) : Nat) - 1
/-- The canonical quiet NaN: 0x7FC0_0000, 0x7FC0 or 0x7E00. -/
def FFmt.nan (f : FFmt) : Nat := (2 ^ f.eb - 1) * 2 ^ f.mb + 2 ^ (f.mb - 1)
/-- Infinity of a sign. -/
def FFmt.inf (f : FFmt) (neg : Bool) : Nat := b2n neg * 2 ^ (f.eb + f.mb) + (2 ^ f.eb - 1) * 2 ^ f.mb
/-- Zero of a sign. -/
def FFmt.zero (f : FFmt) (neg : Bool) : Nat := b2n neg * 2 ^ (f.eb + f.mb)

/-- What a bit pattern stands for: a finite value is m × 2^e. -/
inductive FVal where
  | nan
  | inf (neg : Bool)
  | fin (neg : Bool) (m : Nat) (e : Int)
  deriving DecidableEq, Repr

/-- The value of a bit pattern; a subnormal reads as zero of its sign. -/
def fUnpack (f : FFmt) (n : Nat) : FVal :=
  let neg := bit n (f.eb + f.mb)
  let ex := (n >>> f.mb) % 2 ^ f.eb
  let man := n % 2 ^ f.mb
  if ex = 2 ^ f.eb - 1 then (if man = 0 then .inf neg else .nan)
  else if ex = 0 then .fin neg 0 0
  else .fin neg (man + 2 ^ f.mb) ((ex : Int) - f.bias - f.mb)

/-- The bit pattern nearest to m × 2^e, or to a value just above it when `more`. Ties go to even. A magnitude
below the smallest normal after rounding is flushed, one too large becomes infinity. -/
def fRound (f : FFmt) (neg : Bool) (m : Nat) (e : Int) (more : Bool) : Nat :=
  if m = 0 then f.zero neg
  else
    let len := Nat.log2 m + 1
    let p := f.mb + 1
    let sh := len - p
    let q0 := if len < p then m <<< (p - len) else m >>> sh
    let rem := if len < p then 0 else m % 2 ^ sh
    let half := 2 ^ sh / 2
    let up := decide (0 < sh) && (decide (half < rem) || (decide (rem = half) && (more || decide (q0 % 2 = 1))))
    let q1 := q0 + b2n up
    let carry := decide (q1 = 2 ^ p)
    let q := if carry then 2 ^ f.mb else q1
    let ex : Int := e + (len : Int) - (p : Int) + (b2n carry : Int) + f.mb + f.bias
    if ex ≤ 0 then f.zero neg
    else if ((2 ^ f.eb - 1 : Nat) : Int) ≤ ex then f.inf neg
    else b2n neg * 2 ^ (f.eb + f.mb) + ex.toNat * 2 ^ f.mb + (q - 2 ^ f.mb)

/-- A signed integer times 2^e, rounded; an exact zero takes the sign `zneg`. -/
def fRoundInt (f : FFmt) (i e : Int) (zneg : Bool) : Nat :=
  if i = 0 then f.zero zneg else fRound f (decide (i < 0)) i.natAbs e false

/-- The signed integer of a finite value scaled to exponent `lo`. -/
def fScaled (neg : Bool) (m : Nat) (e lo : Int) : Int :=
  let a : Int := (m <<< (e - lo).toNat : Nat)
  if neg then -a else a

/-- Sum of two values, rounded once. -/
def fAddV (f : FFmt) (a b : FVal) : Nat :=
  match a, b with
  | .nan, _ => f.nan
  | _, .nan => f.nan
  | .inf x, .inf y => if x = y then f.inf x else f.nan
  | .inf x, .fin _ _ _ => f.inf x
  | .fin _ _ _, .inf y => f.inf y
  | .fin n1 m1 e1, .fin n2 m2 e2 =>
    let lo := min e1 e2
    fRoundInt f (fScaled n1 m1 e1 lo + fScaled n2 m2 e2 lo) lo (n1 && n2)

/-- Exact product of two values. -/
def fMulV (a b : FVal) : FVal :=
  match a, b with
  | .nan, _ => .nan
  | _, .nan => .nan
  | .inf x, .inf y => .inf (x != y)
  | .inf x, .fin y m _ => if m = 0 then .nan else .inf (x != y)
  | .fin x m _, .inf y => if m = 0 then .nan else .inf (x != y)
  | .fin x m e, .fin y k d => .fin (x != y) (m * k) (e + d)

/-- A value as a bit pattern, rounded once. -/
def fPack (f : FFmt) (a : FVal) : Nat :=
  match a with
  | .nan => f.nan
  | .inf x => f.inf x
  | .fin x m e => fRound f x m e false

/-- The opposite value. -/
def fNegV (a : FVal) : FVal :=
  match a with
  | .nan => .nan
  | .inf x => .inf (!x)
  | .fin x m e => .fin (!x) m e

/-- FADD on binary32. -/
def fAdd (a b : Nat) : Nat := fAddV f32 (fUnpack f32 a) (fUnpack f32 b)
/-- FSUB on binary32. -/
def fSub (a b : Nat) : Nat := fAddV f32 (fUnpack f32 a) (fNegV (fUnpack f32 b))
/-- FMUL on binary32. -/
def fMul (a b : Nat) : Nat := fPack f32 (fMulV (fUnpack f32 a) (fUnpack f32 b))
/-- FMA: c + a × b with one rounding. -/
def fFma (c a b : Nat) : Nat := fAddV f32 (fUnpack f32 c) (fMulV (fUnpack f32 a) (fUnpack f32 b))

/-- FDIV on binary32. -/
def fDiv (a b : Nat) : Nat :=
  match fUnpack f32 a, fUnpack f32 b with
  | .nan, _ => f32.nan
  | _, .nan => f32.nan
  | .inf _, .inf _ => f32.nan
  | .inf x, .fin y _ _ => f32.inf (x != y)
  | .fin x _ _, .inf y => f32.zero (x != y)
  | .fin x m e, .fin y k d =>
    if k = 0 then (if m = 0 then f32.nan else f32.inf (x != y))
    else if m = 0 then f32.zero (x != y)
    else fRound f32 (x != y) ((m <<< 64) / k) (e - d - 64) (decide ((m <<< 64) % k ≠ 0))

/-- The order of IEEE 754-2019 minimum and maximum: −0 below +0. -/
def fLe (a b : FVal) : Bool :=
  match a, b with
  | .nan, _ => false
  | _, .nan => false
  | .inf x, .inf y => x || !y
  | .inf x, .fin _ _ _ => x
  | .fin _ _ _, .inf y => !y
  | .fin n1 m1 e1, .fin n2 m2 e2 =>
    if m1 = 0 ∧ m2 = 0 then (n1 || !n2)
    else
      let lo := min e1 e2
      decide (fScaled n1 m1 e1 lo ≤ fScaled n2 m2 e2 lo)

/-- FMIN: IEEE minimum; a subnormal operand is flushed first. -/
def fMin (a b : Nat) : Nat :=
  let x := fUnpack f32 a
  let y := fUnpack f32 b
  if x = .nan ∨ y = .nan then f32.nan else fPack f32 (if fLe x y then x else y)
/-- FMAX: IEEE maximum. -/
def fMax (a b : Nat) : Nat :=
  let x := fUnpack f32 a
  let y := fUnpack f32 b
  if x = .nan ∨ y = .nan then f32.nan else fPack f32 (if fLe x y then y else x)

/-- An integer rounded to nearest, ties to even, from m × 2^e. -/
def fToIntMag (m : Nat) (e : Int) : Nat :=
  if 0 ≤ e then m <<< e.toNat
  else
    let sh := (-e).toNat
    let q := m >>> sh
    let rem := m % 2 ^ sh
    let half := 2 ^ sh / 2
    q + b2n (decide (half < rem) || (decide (rem = half) && decide (q % 2 = 1)))

/-- FCVT selector 5: binary32 to int32, saturating; a NaN converts to 0. -/
def fToI32 (a : Nat) : Nat :=
  match fUnpack f32 a with
  | .nan => 0
  | .inf x => if x then 0x80000000 else 0x7FFFFFFF
  | .fin x m e =>
    let v := if 64 ≤ e then 2 ^ 63 else fToIntMag m e
    if x then (if 2 ^ 31 ≤ v then 0x80000000 else narrow 32 (-(v : Int)))
    else (if 2 ^ 31 - 1 ≤ v then 0x7FFFFFFF else v)

/-- FCVT (R90): the conversion of a selector, none for a reserved one. -/
def fCvt (sel a : Nat) : Option Nat :=
  match sel with
  | 0 => some (fPack bf16 (fUnpack f32 a))
  | 1 => some (fPack f32 (fUnpack bf16 (a % 2 ^ 16)))
  | 2 => some (fPack fp16 (fUnpack f32 a))
  | 3 => some (fPack f32 (fUnpack fp16 (a % 2 ^ 16)))
  | 4 => some (fRoundInt f32 (signed 32 a) 0 false)
  | 5 => some (fToI32 (a % 2 ^ 32))
  | _ => none

end Sys2Proof.Machine
end

