-- ==== Sys2Proof/Machine/Sparse.lean ====
section
/-! DEFINITION. Sparse storage: a list of key and value pairs in one canonical form.
Keys rise strictly and no entry holds the value that an unlisted key reads as, so that two equal
memories are equal lists. Memories, tables indexed by a large range and the lock cells use it. -/

namespace Sys2Proof.Machine

/-- A sparse table: pairs of key and value, keys strictly rising. -/
abbrev SMap (α : Type) := List (Nat × α)

/-- The value at key `a`; an unlisted key reads as `d`. -/
def SMap.get {α : Type} (d : α) (m : SMap α) (a : Nat) : α :=
  match m with
  | [] => d
  | (k, v) :: t => if a = k then v else SMap.get d t a

/-- The table with `v` listed at key `a`. -/
def SMap.ins {α : Type} (m : SMap α) (a : Nat) (v : α) : SMap α :=
  match m with
  | [] => [(a, v)]
  | (k, w) :: t => if a = k then (a, v) :: t else if a < k then (a, v) :: (k, w) :: t else (k, w) :: SMap.ins t a v

/-- The table with `v` at key `a`; writing the default removes the entry. -/
def SMap.put {α : Type} [DecidableEq α] (d : α) (m : SMap α) (a : Nat) (v : α) : SMap α :=
  if v = d then List.filter (fun e => e.1 != a) m else SMap.ins m a v

/-- The canonical form: keys strictly above `lo`, strictly rising, and no entry at the default. -/
def SMap.wfFrom {α : Type} [DecidableEq α] (d : α) (lo : Nat) (m : SMap α) : Bool :=
  match m with
  | [] => true
  | (k, v) :: t => decide (lo ≤ k) && decide (v ≠ d) && SMap.wfFrom d (k + 1) t

/-- The canonical form of a sparse table. -/
def SMap.wf {α : Type} [DecidableEq α] (d : α) (m : SMap α) : Bool := SMap.wfFrom d 0 m

/-- The listed keys, rising. -/
def SMap.keys {α : Type} (m : SMap α) : List Nat := m.map Prod.fst

/-- The table without the entries whose key satisfies `p`. -/
def SMap.drop {α : Type} (m : SMap α) (p : Nat → Bool) : SMap α := m.filter (fun e => !(p e.1))

/-- Byte memories read zero where nothing is listed. -/
abbrev ByteMem := SMap Byte

/-- The canonical form of a byte memory. -/
abbrev Memory.wf (m : ByteMem) : Bool := SMap.wf (0 : Byte) m

/-- One byte of a memory. -/
def ByteMem.rd (m : ByteMem) (a : Nat) : Byte := SMap.get 0 m a

/-- One byte written. -/
def ByteMem.wr (m : ByteMem) (a : Nat) (b : Byte) : ByteMem := SMap.put 0 m a b

/-- `n` bytes from address `a`, little-endian, as a number (R11). -/
def ByteMem.rdN (m : ByteMem) (a n : Nat) : Nat :=
  match n with
  | 0 => 0
  | k + 1 => (ByteMem.rd m a).toNat + 256 * ByteMem.rdN m (a + 1) k

/-- `n` bytes from address `a`. -/
def ByteMem.rdBytes (m : ByteMem) (a n : Nat) : List Byte :=
  match n with
  | 0 => []
  | k + 1 => ByteMem.rd m a :: ByteMem.rdBytes m (a + 1) k

/-- The bytes `bs` written from address `a` upward. -/
def ByteMem.wrBytes (m : ByteMem) (a : Nat) (bs : List Byte) : ByteMem :=
  match bs with
  | [] => m
  | b :: t => ByteMem.wrBytes (ByteMem.wr m a b) (a + 1) t

/-- The low `n` bytes of a number, lowest first (R11). -/
def leBytes (n v : Nat) : List Byte :=
  match n with
  | 0 => []
  | k + 1 => BitVec.ofNat 8 v :: leBytes k (v / 256)

/-- A list of bytes, lowest first, as a number. -/
def leNat (bs : List Byte) : Nat :=
  match bs with
  | [] => 0
  | b :: t => b.toNat + 256 * leNat t

/-- The low `n` bytes of `v` written from address `a` upward. -/
def ByteMem.wrN (m : ByteMem) (a n v : Nat) : ByteMem := ByteMem.wrBytes m a (leBytes n v)

/-- The set of marked numbers, as a rising list. -/
abbrev NSet := List Nat

/-- Membership in a set. -/
def NSet.has (x : NSet) (a : Nat) : Bool := List.contains x a

/-- A set with one number more, kept rising. -/
def NSet.add (x : NSet) (a : Nat) : NSet :=
  match x with
  | [] => [a]
  | k :: t => if a = k then k :: t else if a < k then a :: k :: t else k :: NSet.add t a

/-- A set without one number. -/
def NSet.del (x : NSet) (a : Nat) : NSet := List.filter (fun k => k != a) x

end Sys2Proof.Machine
end

