-- ==== Sys2Proof/Machine/Operands.lean ====
section
/-! DEFINITION. The node-code instruction format (R81 to R86): leading bytes, opcodes, operand forms, and the total
decoder from bytes to an instruction, to "illegal", or to "the bytes end too soon". -/

namespace Sys2Proof.Machine

/-- The sixteen integer operations of opcodes 0x10 to 0x1F. -/
inductive AluOp where
  | add | sub | mul | mulhu | mulhs | divu | divs | remu | and | or | xor | shl | shr | sar | mins | maxs
  deriving DecidableEq, Repr

/-- The compares of opcodes 0x30 to 0x35. -/
inductive CmpOp where
  | eq | ne | lts | ltu | les | leu
  deriving DecidableEq, Repr

/-- The float operations of opcodes 0x40 to 0x46. -/
inductive FltOp where
  | fadd | fsub | fmul | fdiv | fmin | fmax | fma
  deriving DecidableEq, Repr

/-- The primary operations of Table 3.4. -/
inductive NOp where
  | nop | done | ret | rett | br | call | callr | jr | trap | fence
  | alu (o : AluOp) | alui (o : AluOp) | cmp (o : CmpOp) | plog
  | mov | movi | movt | movtw | rdsys | flt (o : FltOp) | fcvt
  | ld | lds | st | aadd | send | sends | sendr | sendc | ctxa | ctxr
  | spawn | spawnTry | take | complete | lockstep
  | lacq | ltry | lrel | sacq | srel | waitev
  | vbcast | vext | vins | vred
  deriving DecidableEq, Repr

/-- The operand forms of Table 3.3; `C`-form and the others as named there. -/
inductive Form where
  | n | r1 | r2 | r3 | ri8 | ri16 | m | ma | b | c | cr | p | sx | i8
  deriving DecidableEq, Repr

/-- The bytes of Table 3.2 that lead an instruction, as they have been read: predicate register and the value it
must have, width in bits, vector, immediate-extend, and the register of the trail tag. -/
structure Lead where
  pred : Option (Nat × Bool) := none
  width : Option Nat := none
  vec : Bool := false
  ext : Bool := false
  trail : Option Nat := none
  deriving DecidableEq, Repr

/-- A decoded instruction: operation, length, leading bytes, register fields in byte order, the two high bits of the
first byte of a send or PLOG's operation, immediate (or displacement, offset, selector), and CALL's mask. -/
structure Ins where
  op : NOp := .nop
  len : Nat := 1
  lead : Lead := {}
  a : Nat := 0
  b : Nat := 0
  c : Nat := 0
  x : Nat := 0
  imm : Int := 0
  mask : Nat := 0
  deriving DecidableEq, Repr

/-- What decoding answers. -/
inductive Dec where
  | ok (i : Ins)
  | illegal
  | short
  deriving DecidableEq, Repr

/-- The integer operation of a low opcode nibble. -/
def aluOf (n : Nat) : AluOp :=
  match n with
  | 0 => .add | 1 => .sub | 2 => .mul | 3 => .mulhu | 4 => .mulhs | 5 => .divu | 6 => .divs | 7 => .remu
  | 8 => .and | 9 => .or | 10 => .xor | 11 => .shl | 12 => .shr | 13 => .sar | 14 => .mins | _ => .maxs

/-- Table 3.4: the operation and form of an opcode byte. -/
def opOf (n : Nat) : Option (NOp × Form) :=
  if 0x10 ≤ n ∧ n ≤ 0x1F then some (.alu (aluOf (n - 0x10)), .r3)
  else if 0x20 ≤ n ∧ n ≤ 0x2F then some (.alui (aluOf (n - 0x20)), .ri8)
  else match n with
  | 0x00 => some (.nop, .n) | 0x01 => some (.done, .n) | 0x02 => some (.ret, .n) | 0x03 => some (.rett, .n)
  | 0x04 => some (.br, .b) | 0x05 => some (.call, .c) | 0x06 => some (.callr, .cr) | 0x07 => some (.jr, .r1)
  | 0x08 => some (.trap, .i8) | 0x09 => some (.fence, .n)
  | 0x30 => some (.cmp .eq, .r3) | 0x31 => some (.cmp .ne, .r3) | 0x32 => some (.cmp .lts, .r3)
  | 0x33 => some (.cmp .ltu, .r3) | 0x34 => some (.cmp .les, .r3) | 0x35 => some (.cmp .leu, .r3)
  | 0x36 => some (.plog, .p) | 0x38 => some (.mov, .r2) | 0x39 => some (.movi, .ri16)
  | 0x3A => some (.movt, .r2) | 0x3B => some (.movtw, .r2) | 0x3C => some (.rdsys, .ri8)
  | 0x40 => some (.flt .fadd, .r3) | 0x41 => some (.flt .fsub, .r3) | 0x42 => some (.flt .fmul, .r3)
  | 0x43 => some (.flt .fdiv, .r3) | 0x44 => some (.flt .fmin, .r3) | 0x45 => some (.flt .fmax, .r3)
  | 0x46 => some (.flt .fma, .r3) | 0x47 => some (.fcvt, .ri8)
  | 0x50 => some (.ld, .m) | 0x51 => some (.lds, .m) | 0x52 => some (.st, .m) | 0x53 => some (.aadd, .ma)
  | 0x60 => some (.send, .sx) | 0x61 => some (.sends, .sx) | 0x62 => some (.sendr, .r2)
  | 0x63 => some (.sendc, .r1) | 0x64 => some (.ctxa, .r1) | 0x65 => some (.ctxr, .r2)
  | 0x70 => some (.spawn, .r3) | 0x71 => some (.spawnTry, .r3) | 0x72 => some (.take, .ri8)
  | 0x73 => some (.complete, .r2) | 0x74 => some (.lockstep, .ri16)
  | 0x78 => some (.lacq, .r2) | 0x79 => some (.ltry, .r2) | 0x7A => some (.lrel, .r2)
  | 0x7B => some (.sacq, .r2) | 0x7C => some (.srel, .r2) | 0x7D => some (.waitev, .r3)
  | 0x80 => some (.vbcast, .r2) | 0x81 => some (.vext, .ri8) | 0x82 => some (.vins, .ri8)
  | 0x83 => some (.vred, .ri8)
  | _ => none

/-- The leading bytes that Table 3.4 permits besides the predicate: width, vector, immediate-extend, trail tag. -/
def permits (o : NOp) : Bool × Bool × Bool × Bool :=
  match o with
  | .alu _ => (true, true, false, false)
  | .alui _ => (true, true, true, false)
  | .cmp _ => (true, false, false, false)
  | .mov | .flt _ | .fcvt => (false, true, false, false)
  | .movi | .br | .call => (false, false, true, false)
  | .ld | .st => (true, true, false, false)
  | .lds | .aadd => (true, false, false, false)
  | .send | .sends | .sendr => (false, false, false, true)
  | .vbcast | .vext | .vins | .vred => (true, false, false, false)
  | _ => (false, false, false, false)

/-- Whether the leading bytes are permitted for an operation (R81). -/
def leadOk (o : NOp) (l : Lead) : Bool :=
  let (w, v, e, t) := permits o
  (w || l.width.isNone) && (v || !l.vec) && (e || !l.ext) && (t || l.trail.isNone)

/-- The leading bytes of an instruction: what they say, how many there are, and the bytes from the opcode on. -/
def readLead (bs : List Byte) (l : Lead) (n : Nat) : Option (Lead × Nat × List Byte) :=
  match bs with
  | [] => some (l, n, [])
  | b :: t =>
    let v := b.toNat
    if v = 0xF0 ∨ v = 0xF1 ∨ v = 0xF2 then
      (if l.width.isSome then none
       else readLead t { l with width := some (if v = 0xF0 then 8 else if v = 0xF1 then 16 else 32) } (n + 1))
    else if v = 0xF4 then (if l.vec then none else readLead t { l with vec := true } (n + 1))
    else if v = 0xF5 then (if l.ext then none else readLead t { l with ext := true } (n + 1))
    else if v = 0xF6 then
      (match t with
       | [] => some (l, n, [])
       | r :: t' =>
         if l.trail.isSome ∨ 64 ≤ r.toNat then none
         else readLead t' { l with trail := some r.toNat } (n + 2))
    else if 0xE9 ≤ v ∧ v ≤ 0xEF then
      (if l.pred.isSome then none else readLead t { l with pred := some (v - 0xE8, false) } (n + 1))
    else if 0xF9 ≤ v then
      (if l.pred.isSome then none else readLead t { l with pred := some (v - 0xF8, true) } (n + 1))
    else some (l, n, bs)
termination_by structural bs

/-- The signed value of bytes, lowest first. -/
def leInt (bs : List Byte) : Int := signed (8 * bs.length) (leNat bs)

/-- A g register byte: bits [7:6] zero. -/
def gOk (n : Nat) : Bool := decide (n < 64)
/-- A g register byte that names a written register: not g31 (R82). -/
def gdOk (n : Nat) : Bool := decide (n < 64) && decide (n ≠ 31)
/-- A v register byte: bits [7:5] zero. -/
def vOk (n : Nat) : Bool := decide (n < 32)
/-- A predicate byte that names a written predicate: not p0. -/
def pdOk (n : Nat) : Bool := decide (0 < n) && decide (n < 8)

/-- Lanes of a vector operation on `w` bits (R81, R586). -/
def lanesOf (w : Nat) : Nat := 2048 / w

/-- Whether the register bytes and the selector of an instruction are legal (R82, R85, R586). -/
def fieldsOk (i : Ins) : Bool :=
  let rd := if i.lead.vec then vOk i.a else gdOk i.a
  let rs (n : Nat) := if i.lead.vec then vOk n else gOk n
  let w := i.lead.width.getD 32
  match i.op with
  | .alu _ | .flt _ => rd && rs i.b && rs i.c
  | .alui _ | .mov => rd && rs i.b
  | .fcvt => rd && rs i.b && decide (0 ≤ i.imm) && decide (i.imm < 6)
  | .cmp _ => pdOk i.a && gOk i.b && gOk i.c
  | .plog => pdOk i.a && decide (i.b < 8) && decide (i.c < 8)
  | .movi | .lockstep | .ctxa => gdOk i.a
  | .movt => gdOk i.a && decide (i.b < 8)
  | .movtw => decide (i.a < 8) && gOk i.b
  | .rdsys => gdOk i.a && decide (i.b = 0) && decide (i.imm < 7)
  | .ld | .lds => rd && gOk i.b
  | .st => rs i.a && gOk i.b
  | .aadd => gdOk i.a && gOk i.b && gOk i.c
  | .send | .sends | .sendr | .complete => gOk i.a && gOk i.b
  | .sendc | .jr | .callr => gOk i.a
  | .ctxr | .lacq | .ltry | .lrel | .sacq | .srel | .take => gdOk i.a && gOk i.b
  | .spawn | .spawnTry | .waitev => gdOk i.a && gOk i.b && gOk i.c
  | .vbcast => vOk i.a && gOk i.b
  | .vext => gdOk i.a && vOk i.b && decide (i.imm < lanesOf w)
  | .vins => vOk i.a && gOk i.b && decide (i.imm < lanesOf w)
  | .vred => gdOk i.a && vOk i.b && decide (i.imm < 4) && !(decide (i.imm = 3) && decide (w ≠ 32))
  | .nop | .done | .ret | .rett | .br | .call | .trap | .fence => true

/-- Whether an operation's immediate is unsigned (R84). -/
def unsignedImm (o : NOp) : Bool :=
  match o with
  | .send | .sends | .lockstep | .take | .trap | .rdsys | .fcvt | .vred | .vext | .vins => true
  | _ => false

/-- The immediate of a form, signed or unsigned as R84 says. -/
def immOf (o : NOp) (bs : List Byte) : Int := if unsignedImm o then (leNat bs : Int) else leInt bs

/-- The operand bytes of a form (Table 3.3): how many there are, and the fields; none where the bytes end. The count is
`none` for the reserved displacement size. -/
def readForm (o : NOp) (f : Form) (l : Lead) (bs : List Byte) : Option (Option (Nat × Ins)) :=
  let i : Ins := { op := o, lead := l }
  let at_ (n : Nat) : Nat := (bs.getD n 0).toNat
  let sub (n k : Nat) : List Byte := (bs.drop n).take k
  let need (n : Nat) (r : Ins) : Option (Option (Nat × Ins)) := if bs.length < n then none else some (some (n, r))
  match f with
  | .n => need 0 i
  | .r1 => need 1 { i with a := at_ 0 }
  | .r2 => need 2 { i with a := at_ 0, b := at_ 1 }
  | .r3 => need 3 { i with a := at_ 0, b := at_ 1, c := at_ 2 }
  | .ri8 => let k := if l.ext then 4 else 1
            need (2 + k) { i with a := at_ 0, b := at_ 1, imm := immOf o (sub 2 k) }
  | .ri16 => let k := if l.ext then 8 else 2
             need (1 + k) { i with a := at_ 0, imm := immOf o (sub 1 k) }
  | .m =>
    if bs.length < 2 then none
    else
      let k := at_ 1 / 64
      if k = 3 then some none
      else
        let d := if k = 0 then 0 else if k = 1 then 1 else 4
        need (2 + d) { i with a := at_ 0, b := at_ 1 % 64, imm := if d = 0 then 0 else leInt (sub 2 d) }
  | .ma =>
    if bs.length < 3 then none
    else
      let k := at_ 2 / 64
      if k = 3 then some none
      else
        let d := if k = 0 then 0 else if k = 1 then 1 else 4
        need (3 + d) { i with a := at_ 0, c := at_ 1, b := at_ 2 % 64, imm := if d = 0 then 0 else leInt (sub 3 d) }
  | .b => let k := if l.ext then 4 else 2
          need k { i with imm := leInt (sub 0 k) }
  | .c => let k := if l.ext then 4 else 2
          need (4 + k) { i with mask := leNat (sub 0 4), imm := leInt (sub 4 k) }
  | .cr => need 5 { i with mask := leNat (sub 0 4), a := at_ 4 }
  | .p => if bs.length < 3 then none
          else if (at_ 2 / 8) % 8 ≠ 0 then some none
          else need 3 { i with a := at_ 0, b := at_ 1, c := at_ 2 % 8, x := at_ 2 / 64 }
  | .sx => need 4 { i with a := at_ 0 % 64, x := at_ 0 / 64, b := at_ 1, imm := immOf o (sub 2 2) }
  | .i8 => need 1 { i with imm := immOf o (sub 0 1) }

/-- The instruction that a run of bytes begins with (R81 to R86). -/
def decodeNode (bs : List Byte) : Dec :=
  match readLead bs {} 0 with
  | none => .illegal
  | some (l, n, rest) =>
    match rest with
    | [] => .short
    | opb :: ops =>
      match opOf opb.toNat with
      | none => .illegal
      | some (o, f) =>
        if leadOk o l = false then .illegal
        else
          match readForm o f l ops with
          | none => .short
          | some none => .illegal
          | some (some (k, i)) => if fieldsOk i then .ok { i with len := n + 1 + k } else .illegal

end Sys2Proof.Machine
end

