-- ==== Sys2Proof/Machine/Flags.lean ====
section
/-! DEFINITION. What the integer operations, the compares, the predicate operations and the lane operations
compute (R88, R89, R586). -/

namespace Sys2Proof.Machine

/-- A shift count: the low log2(W) bits of the operand. -/
def shiftCount (w b : Nat) : Nat := b % w

/-- The integer operation on the low `w` bits of two operands; the result is zero-extended (R88). -/
def aluVal (w : Nat) (o : AluOp) (a0 b0 : Nat) : Nat :=
  let a := a0 % 2 ^ w
  let b := b0 % 2 ^ w
  match o with
  | .add => (a + b) % 2 ^ w
  | .sub => (a + 2 ^ w - b) % 2 ^ w
  | .mul => (a * b) % 2 ^ w
  | .mulhu => (a * b) / 2 ^ w
  | .mulhs => narrow w ((signed w a * signed w b) / (2 ^ w : Nat))
  | .divu => if b = 0 then 2 ^ w - 1 else a / b
  | .divs => if b = 0 then 2 ^ w - 1 else narrow w (Int.tdiv (signed w a) (signed w b))
  | .remu => if b = 0 then a else a % b
  | .and => a &&& b
  | .or => a ||| b
  | .xor => a ^^^ b
  | .shl => (a <<< shiftCount w b) % 2 ^ w
  | .shr => a >>> shiftCount w b
  | .sar => narrow w (signed w a >>> shiftCount w b)
  | .mins => if signed w a ≤ signed w b then a else b
  | .maxs => if signed w a ≤ signed w b then b else a

/-- The compare on the low `w` bits of two operands (R89). -/
def cmpVal (w : Nat) (o : CmpOp) (a0 b0 : Nat) : Bool :=
  let a := a0 % 2 ^ w
  let b := b0 % 2 ^ w
  match o with
  | .eq => decide (a = b)
  | .ne => decide (a ≠ b)
  | .lts => decide (signed w a < signed w b)
  | .ltu => decide (a < b)
  | .les => decide (signed w a ≤ signed w b)
  | .leu => decide (a ≤ b)

/-- PLOG: AND, OR, XOR, AND-NOT. -/
def plogVal (op : Nat) (a b : Bool) : Bool :=
  match op with
  | 0 => a && b
  | 1 => a || b
  | 2 => a != b
  | _ => a && !b

/-- The binary32 operation; `d` is the destination's old value, which FMA adds to. -/
def fltVal (o : FltOp) (d a b : Nat) : Nat :=
  match o with
  | .fadd => fAdd a b
  | .fsub => fSub a b
  | .fmul => fMul a b
  | .fdiv => fDiv a b
  | .fmin => fMin a b
  | .fmax => fMax a b
  | .fma => fFma d a b

/-- Lane `i` of `w` bits. -/
def lane (w v i : Nat) : Nat := (v >>> (w * i)) % 2 ^ w

/-- `n` lanes of `w` bits, lane `i` from `f i`, lowest lane first. -/
def lanesFrom (w : Nat) (f : Nat → Nat) (i n : Nat) : Nat :=
  match n with
  | 0 => 0
  | k + 1 => f i % 2 ^ w + 2 ^ w * lanesFrom w f (i + 1) k

/-- All lanes of a vector register of `w`-bit lanes. -/
def vecOf (w : Nat) (f : Nat → Nat) : BitVec 2048 := BitVec.ofNat 2048 (lanesFrom w f 0 (lanesOf w))

/-- The lanes of a vector register, lowest first. -/
def lanesList (w : Nat) (v : BitVec 2048) : List Nat := (List.range (lanesOf w)).map (lane w v.toNat)

/-- One level of the fixed tree of VRED selector 3. -/
def fsumLevel (l : List Nat) : List Nat :=
  match l with
  | a :: b :: t => fAdd a b :: fsumLevel t
  | t => t

/-- `n` levels of the tree. -/
def fsumLevels (n : Nat) (l : List Nat) : List Nat :=
  match n with
  | 0 => l
  | k + 1 => fsumLevels k (fsumLevel l)

/-- VRED (R586): sum, signed minimum, signed maximum, float sum. -/
def vredVal (w sel : Nat) (v : BitVec 2048) : Nat :=
  match sel with
  | 0 => (lanesList w v).sum % 2 ^ w
  | 1 => (lanesList w v).foldl (fun m x => if signed w x < signed w m then x else m) (lane w v.toNat 0)
  | 2 => (lanesList w v).foldl (fun m x => if signed w m < signed w x then x else m) (lane w v.toNat 0)
  | _ => (fsumLevels 6 (lanesList 32 v)).headD 0

end Sys2Proof.Machine
end

