-- ==== Sys2Proof/Machine/Codec.lean ====
section
/-! DEFINITION. The transfer codec (R192 to R195): blocks of 64 values in four groups of 16, at fixed ratios. Blocks
and lines are numbers, byte 0 lowest. Elements: 0 int8, 1 bf16. Ratios: 1 4:3, 2 2:1, 3 4:1. -/

namespace Sys2Proof.Machine

/-- Code width m (Table 6.6). -/
def codeWidth (elem ratio : Nat) : Nat :=
  if elem = 0 then (if ratio = 1 then 5 else 3) else (if ratio = 1 then 11 else if ratio = 2 then 7 else 3)
/-- Header width H. -/
def headWidth (elem : Nat) : Nat := if elem = 0 then 16 else 32
/-- Bytes of a raw block. -/
def rawBlock (elem : Nat) : Nat := if elem = 0 then 64 else 128
/-- Bytes of a compressed block. -/
def packBlock (elem ratio : Nat) : Nat :=
  rawBlock elem * (if ratio = 1 then 3 else if ratio = 2 then 2 else 1) / 4

/-- The int8 code of `x` at shift `k` (R194): ⌊(x + h) / 2^k⌋. -/
def code8 (x : Int) (k : Nat) : Int := (x + (if k = 0 then 0 else (2 ^ (k - 1) : Nat))) / (2 ^ k : Nat)

/-- The smallest shift for which every value of a group has a code of `m` bits. -/
def shift8 (m : Nat) (xs : List Int) : Nat :=
  ((List.range 8).find? (fun k => xs.all (fun x =>
    decide (-((2 ^ (m - 1) : Nat) : Int) ≤ code8 x k) && decide (code8 x k ≤ ((2 ^ (m - 1) : Nat) : Int) - 1)))).getD 7

/-- The largest exponent field of a bf16 group (R193). -/
def maxExp (xs : List Nat) : Nat := xs.foldl (fun m x => max m ((x >>> 7) % 256)) 0

/-- The bf16 code of a value for a group exponent (R193). -/
def code16 (m e x : Nat) : Nat :=
  if e = 255 then 0
  else
    let ex := (x >>> 7) % 256
    let mag := if ex = 0 ∨ e = 0 then 0 else fToIntMag (128 + x % 128) ((ex : Int) - e + m - 9)
    min mag (2 ^ (m - 1) - 1) + 2 ^ (m - 1) * ((x >>> 15) % 2)

/-- The values of group `g` of a raw block. -/
def groupVals (elem raw g : Nat) : List Nat :=
  let w := if elem = 0 then 8 else 16
  (List.range 16).map (fun i => lane w raw (16 * g + i))

/-- A raw block encoded. -/
def encodeBlock (elem ratio raw : Nat) : Nat :=
  let m := codeWidth elem ratio
  let gs := (List.range 4).map (groupVals elem raw)
  if elem = 0 then
    let ks := gs.map (fun g => shift8 m (g.map (signed 8)))
    packFields 4 ks + 2 ^ 16 * packFields m
      ((gs.zip ks).flatMap (fun x => x.1.map (fun v => narrow m (code8 (signed 8 v) x.2))))
  else
    let es := gs.map maxExp
    packFields 8 es + 2 ^ 32 * packFields m ((gs.zip es).flatMap (fun x => x.1.map (code16 m x.2)))

/-- Whether a compressed block is valid (R195). -/
def blockValid (elem ratio b : Nat) : Bool :=
  decide (b / 2 ^ (headWidth elem + 64 * codeWidth elem ratio) = 0)
  && (decide (elem ≠ 0) || (List.range 4).all (fun g => decide ((b >>> (4 * g)) % 16 ≤ 7)))

/-- One int8 value decoded: u × 2^k, saturated (R194). -/
def decode8 (m k u : Nat) : Nat :=
  let v := signed m u * (2 ^ k : Nat)
  narrow 8 (if v < -128 then -128 else if 127 < v then 127 else v)

/-- One bf16 value decoded: ±q × Δ (R193). A product below the smallest normal number is held exactly as a subnormal, not flushed.
A block that no encoder makes can hold a q that bf16 has no room for: R193 gives no result, and it rounds as R90 does (DESIGN CHOICE,
log entry 120). -/
def decode16 (m e c : Nat) : Nat :=
  let q := c % 2 ^ (m - 1)
  let sign := 2 ^ 15 * b2n (bit c (m - 1))
  if e = 255 then 0x7FC0
  else if q * 2 ^ e < 2 ^ (m - 1) ∧ q * 2 ^ (e + 8) % 2 ^ m = 0 then sign + q * 2 ^ (e + 8) / 2 ^ m
  else fRound bf16 (bit c (m - 1)) q ((e : Int) - 125 - m) false

/-- A valid compressed block decoded. -/
def decodeBlock (elem ratio b : Nat) : Nat :=
  let m := codeWidth elem ratio
  let codes := b >>> headWidth elem
  packFields (if elem = 0 then 8 else 16) ((List.range 64).map (fun i =>
    let c := lane m codes i
    if elem = 0 then decode8 m ((b >>> (4 * (i / 16))) % 8) c else decode16 m ((b >>> (8 * (i / 16))) % 256) c))

/-- Raw lines and compressed lines of the smallest run of whole lines on both sides. -/
def codecLines (ratio : Nat) : Nat × Nat :=
  if ratio = 1 then (4, 3) else if ratio = 2 then (2, 1) else if ratio = 3 then (4, 1) else (1, 1)

/-- Blocks of a run, lowest first, each by `f` of the number of blocks after it: input and output block bytes, value and word poison.
A result holds the values, the word poison and the numbers of the invalid blocks. -/
def codecRun (f : Nat → Nat → Nat × Bool) (ib ob n v p : Nat) : Nat × Nat × List Nat :=
  match n with
  | 0 => (0, 0, [])
  | k + 1 =>
    let (rv, rp, rb) := codecRun f ib ob k (v / 2 ^ (8 * ib)) (p / 2 ^ (ib / 8))
    let (x, bad) := f k (v % 2 ^ (8 * ib))
    let poisoned := bad || decide (p % 2 ^ (ib / 8) ≠ 0)
    (x + 2 ^ (8 * ob) * rv, (if poisoned then 2 ^ (ob / 8) - 1 else 0) + 2 ^ (ob / 8) * rp,
     (if bad then [0] else []) ++ rb.map (fun i => i + 1))

/-- A run encoded: raw lines to compressed lines. -/
def encodeRun (elem ratio v p : Nat) : Nat × Nat :=
  let n := 64 * (codecLines ratio).1 / rawBlock elem
  let r := codecRun (fun _ b => (encodeBlock elem ratio b, false)) (rawBlock elem) (packBlock elem ratio) n v p
  (r.1, r.2.1)

/-- A run decoded; an invalid block yields poisoned words whose value is part of `junk` (R195). -/
def decodeRun (elem ratio v p junk : Nat) : Nat × Nat × List Nat :=
  let n := 64 * (codecLines ratio).1 / rawBlock elem
  codecRun (fun k b => if blockValid elem ratio b then (decodeBlock elem ratio b, false)
      else ((junk >>> (8 * rawBlock elem * k)) % 2 ^ (8 * rawBlock elem), true)) (packBlock elem ratio) (rawBlock elem) n v p

end Sys2Proof.Machine
end

