-- ==== Sys2Proof/Config.lean ====
section
/-! DEFINITION. What the spec leaves open: free values without a body, so that no proof can see one. -/

namespace Sys2Proof.Config

/-- A fresh unconstrained number, applied to the counter `freeCtr` of State that each use advances. -/
opaque freeNat : Nat → Nat

/-- The length of the JTAG instruction register, less 2 (R570 gives none; IEEE 1149.1 asks for two bits at least). -/
opaque jtagIrExtra : Nat

/-- What an instruction code selects: 0 BYPASS, 1 IDCODE, 2 SAMPLE/PRELOAD, 3 EXTEST, 4 CLAMP, any other value an instruction of
another kind (R570 gives no codes). -/
opaque jtagInstr : Nat → Nat

/-- The code in force in Test-Logic-Reset, and the 32-bit value that IDCODE captures (R570 gives neither). -/
opaque jtagResetCode : Nat
opaque jtagIdcode : Nat

end Sys2Proof.Config
end

