-- ==== Sys2Proof/Machine/Kinds.lean ====
section
/-! DEFINITION. The fault kinds of Table 16.7 (R494): one name per kind, its code, and its default class. -/

namespace Sys2Proof.Machine

/-- CHECKER_MISMATCH, Safe by default. -/
def Kind.checkerMismatch : Nat := 0x001
/-- CHECKER_LOST, Safe by default. -/
def Kind.checkerLost : Nat := 0x002
/-- FLT_STATE_ERROR, Safe by default. -/
def Kind.fltStateError : Nat := 0x003
/-- FLT_STATE_CORRECTED, Corrected by default. -/
def Kind.fltStateCorrected : Nat := 0x004
/-- FAULT_MESSAGE_INVALID, Corrected by default. -/
def Kind.faultMessageInvalid : Nat := 0x005
/-- SUPERVISOR_SRAM_CORRECTED, Corrected by default. -/
def Kind.supervisorSramCorrected : Nat := 0x006
/-- SUPERVISOR_SRAM_UNCORRECTABLE, Safe by default. -/
def Kind.supervisorSramUncorrectable : Nat := 0x007
/-- REFERENCE_INTERRUPTION, Corrected by default. -/
def Kind.referenceInterruption : Nat := 0x010
/-- CORE_PLL_UNLOCK, Safe by default. -/
def Kind.corePllUnlock : Nat := 0x011
/-- SUPERVISOR_PLL_UNLOCK, Safe by default. -/
def Kind.supervisorPllUnlock : Nat := 0x012
/-- TILE_SELF_TEST_FAILED, Quarantine by default. -/
def Kind.tileSelfTestFailed : Nat := 0x013
/-- UNIT_SELF_TEST_FAILED, Safe by default. -/
def Kind.unitSelfTestFailed : Nat := 0x014
/-- SPARE_ENGAGED, Corrected by default. -/
def Kind.spareEngaged : Nat := 0x015
/-- THICKET_REMOVED, Corrected by default. -/
def Kind.thicketRemoved : Nat := 0x016
/-- FIRMWARE_IMAGE_INVALID, Corrected by default. -/
def Kind.firmwareImageInvalid : Nat := 0x017
/-- FIRMWARE_WATCHDOG, Safe by default. -/
def Kind.firmwareWatchdog : Nat := 0x018
/-- SELF_TEST_DEFERRED, Corrected by default. -/
def Kind.selfTestDeferred : Nat := 0x019
/-- QSPI_ERROR, Corrected by default. -/
def Kind.qspiError : Nat := 0x01A
/-- THERMAL_THROTTLE, Corrected by default. -/
def Kind.thermalThrottle : Nat := 0x020
/-- THERMAL_CRITICAL, Safe by default. -/
def Kind.thermalCritical : Nat := 0x021
/-- POWER_LIMIT_THROTTLE, Corrected by default. -/
def Kind.powerLimitThrottle : Nat := 0x022
/-- VR_FAULT, Safe by default. -/
def Kind.vrFault : Nat := 0x023
/-- PMBUS_ERROR, Corrected by default. -/
def Kind.pmbusError : Nat := 0x024
/-- SUPPLY_OUT_OF_RANGE, Safe by default. -/
def Kind.supplyOutOfRange : Nat := 0x025
/-- MCTP_MESSAGE_INVALID, Corrected by default. -/
def Kind.mctpMessageInvalid : Nat := 0x030
/-- LEDGER_CORRECTED, Corrected by default. -/
def Kind.ledgerCorrected : Nat := 0x040
/-- LEDGER_UNCORRECTABLE, Deferred by default. -/
def Kind.ledgerUncorrectable : Nat := 0x041
/-- LEDGER_WEAR_LIMIT, Corrected by default. -/
def Kind.ledgerWearLimit : Nat := 0x042
/-- LEDGER_WRITE_FAILED, Corrected by default. -/
def Kind.ledgerWriteFailed : Nat := 0x043
/-- FRAME_CORRECTED, Corrected by default. -/
def Kind.frameCorrected : Nat := 0x080
/-- FRAME_UNCORRECTABLE, Deferred by default. -/
def Kind.frameUncorrectable : Nat := 0x081
/-- ISTORE_CORRECTED, Corrected by default. -/
def Kind.istoreCorrected : Nat := 0x082
/-- ISTORE_UNCORRECTABLE, Contain by default. -/
def Kind.istoreUncorrectable : Nat := 0x083
/-- TILE_STATE_UNCORRECTABLE, Quarantine by default. -/
def Kind.tileStateUncorrectable : Nat := 0x084
/-- TOKEN_KIND_INVALID, Contain by default. -/
def Kind.tokenKindInvalid : Nat := 0x0A0
/-- TOKEN_PORT_INVALID, Contain by default. -/
def Kind.tokenPortInvalid : Nat := 0x0A1
/-- NODE_TABLE_INVALID, Contain by default. -/
def Kind.nodeTableInvalid : Nat := 0x0A2
/-- TOKEN_PORT_COLLISION, Contain by default. -/
def Kind.tokenPortCollision : Nat := 0x0A3
/-- STALE_PLACEMENT, Contain by default. -/
def Kind.stalePlacement : Nat := 0x0A4
/-- PARTITION_MISMATCH, Contain by default. -/
def Kind.partitionMismatch : Nat := 0x0A5
/-- TOKEN_UNBOUND_VTILE, Contain by default. -/
def Kind.tokenUnboundVtile : Nat := 0x0A6
/-- STICKY_DUPLICATE, Contain by default. -/
def Kind.stickyDuplicate : Nat := 0x0A7
/-- CONTROL_TOKEN_INVALID, Contain by default. -/
def Kind.controlTokenInvalid : Nat := 0x0A8
/-- CONTEXT_LEFTOVER, Corrected by default. -/
def Kind.contextLeftover : Nat := 0x0A9
/-- CONTEXT_STATE_INVALID, Contain by default. -/
def Kind.contextStateInvalid : Nat := 0x0AA
/-- TOKEN_STORE_UNCORRECTABLE, Contain by default. -/
def Kind.tokenStoreUncorrectable : Nat := 0x0AB
/-- TOKEN_STORE_CORRECTED, Corrected by default. -/
def Kind.tokenStoreCorrected : Nat := 0x0AC
/-- FRAME_WINDOW_VIOLATION, Contain by default. -/
def Kind.frameWindowViolation : Nat := 0x0B0
/-- ADDRESS_UNMAPPED, Contain by default. -/
def Kind.addressUnmapped : Nat := 0x0B1
/-- ILLEGAL_INSTRUCTION, Contain by default. -/
def Kind.illegalInstruction : Nat := 0x0C0
/-- MISALIGNED_ACCESS, Contain by default. -/
def Kind.misalignedAccess : Nat := 0x0C1
/-- POISON_CONSUMED, Contain by default. -/
def Kind.poisonConsumed : Nat := 0x0C2
/-- STACK_UNDERFLOW, Contain by default. -/
def Kind.stackUnderflow : Nat := 0x0C3
/-- TRAP_UNHANDLED, Contain by default. -/
def Kind.trapUnhandled : Nat := 0x0C4
/-- TILE_DOUBLE_FAULT, Quarantine by default. -/
def Kind.tileDoubleFault : Nat := 0x0C5
/-- CODE_BOUNDS, Contain by default. -/
def Kind.codeBounds : Nat := 0x0C6
/-- ATOMIC_TARGET_INVALID, Contain by default. -/
def Kind.atomicTargetInvalid : Nat := 0x0C7
/-- RETRY_EXHAUSTED, Corrected by default. -/
def Kind.retryExhausted : Nat := 0x0C8
/-- TRAIL_TAG_INVALID, Contain by default. -/
def Kind.trailTagInvalid : Nat := 0x0C9
/-- ACTIVATION_HANDLE_INVALID, Contain by default. -/
def Kind.activationHandleInvalid : Nat := 0x0CA
/-- SYLLABLE_ILLEGAL, Contain by default. -/
def Kind.syllableIllegal : Nat := 0x0D0
/-- BUNDLE_SLOT_INVALID, Contain by default. -/
def Kind.bundleSlotInvalid : Nat := 0x0D1
/-- LOOP_NEST_INVALID, Contain by default. -/
def Kind.loopNestInvalid : Nat := 0x0D2
/-- WAITC_TIMEOUT, Contain by default. -/
def Kind.waitcTimeout : Nat := 0x0D3
/-- WINDOW_UNIT_BUSY, Contain by default. -/
def Kind.windowUnitBusy : Nat := 0x0D4
/-- HAZARD_EARLY_READ, Contain by default. -/
def Kind.hazardEarlyRead : Nat := 0x0D5
/-- HAZARD_WRITE_COLLISION, Contain by default. -/
def Kind.hazardWriteCollision : Nat := 0x0D6
/-- HAZARD_BANK_CONFLICT, Contain by default. -/
def Kind.hazardBankConflict : Nat := 0x0D7
/-- WINDOW_DESC_INVALID, Contain by default. -/
def Kind.windowDescInvalid : Nat := 0x0E0
/-- WINDOW_FILTER_LIMIT, Contain by default. -/
def Kind.windowFilterLimit : Nat := 0x0E1
/-- WINDOW_GEOMETRY_INVALID, Contain by default. -/
def Kind.windowGeometryInvalid : Nat := 0x0E2
/-- TRANSFER_DESC_INVALID, Contain by default. -/
def Kind.transferDescInvalid : Nat := 0x0E3
/-- CODEC_BLOCK_INVALID, Deferred by default. -/
def Kind.codecBlockInvalid : Nat := 0x0E4
/-- STAND_BUFFER_CORRECTED, Corrected by default. -/
def Kind.standBufferCorrected : Nat := 0x0E8
/-- STAND_BUFFER_UNCORRECTABLE, Deferred by default. -/
def Kind.standBufferUncorrectable : Nat := 0x0E9
/-- SIFT_DESC_INVALID, Contain by default. -/
def Kind.siftDescInvalid : Nat := 0x0F0
/-- SIFT_LIMIT_EXCEEDED, Contain by default. -/
def Kind.siftLimitExceeded : Nat := 0x0F1
/-- SIFT_ADDRESS_INVALID, Contain by default. -/
def Kind.siftAddressInvalid : Nat := 0x0F2
/-- SIFT_TRUNCATED, Corrected by default. -/
def Kind.siftTruncated : Nat := 0x0F3
/-- SIFT_POISON_CONSUMED, Contain by default. -/
def Kind.siftPoisonConsumed : Nat := 0x0F4
/-- SIFT_STORE_CORRECTED, Corrected by default. -/
def Kind.siftStoreCorrected : Nat := 0x0F5
/-- SIFT_STORE_UNCORRECTABLE, Contain by default. -/
def Kind.siftStoreUncorrectable : Nat := 0x0F6
/-- ACTIVATION_SPEC_INVALID, Contain by default. -/
def Kind.activationSpecInvalid : Nat := 0x100
/-- DEP_TARGET_INVALID, Contain by default. -/
def Kind.depTargetInvalid : Nat := 0x101
/-- DEP_UNDERFLOW, Contain by default. -/
def Kind.depUnderflow : Nat := 0x102
/-- ACTIVATION_TARGET_UNBOUND, Contain by default. -/
def Kind.activationTargetUnbound : Nat := 0x103
/-- ACTIVATION_LOST, Contain by default. -/
def Kind.activationLost : Nat := 0x104
/-- SCHED_STORE_CORRECTED, Corrected by default. -/
def Kind.schedStoreCorrected : Nat := 0x105
/-- SCHED_STORE_UNCORRECTABLE, Contain by default. -/
def Kind.schedStoreUncorrectable : Nat := 0x106
/-- TRAIL_ACCESS_INVALID, Contain by default. -/
def Kind.trailAccessInvalid : Nat := 0x110
/-- TRAIL_OUTPUT_OVERFLOW, Contain by default. -/
def Kind.trailOutputOverflow : Nat := 0x111
/-- TRAIL_HELD, Corrected by default. -/
def Kind.trailHeld : Nat := 0x112
/-- GATE_STORE_CORRECTED, Corrected by default. -/
def Kind.gateStoreCorrected : Nat := 0x113
/-- GATE_STORE_UNCORRECTABLE, Contain by default. -/
def Kind.gateStoreUncorrectable : Nat := 0x114
/-- SPOOR_STALL_TIMEOUT, Corrected by default. -/
def Kind.spoorStallTimeout : Nat := 0x115
/-- SPOOR_WRITE_FAILED, Corrected by default. -/
def Kind.spoorWriteFailed : Nat := 0x116
/-- OVERSPILL_REGION_EXHAUSTED, Contain by default. -/
def Kind.overspillRegionExhausted : Nat := 0x120
/-- OVERSPILL_REGION_ABSENT, Contain by default. -/
def Kind.overspillRegionAbsent : Nat := 0x121
/-- OVERSPILL_REGION_CORRUPT, Contain by default. -/
def Kind.overspillRegionCorrupt : Nat := 0x122
/-- OVERSPILL_HOST_ERROR, Contain by default. -/
def Kind.overspillHostError : Nat := 0x123
/-- OVERSPILL_NO_VICTIM, Contain by default. -/
def Kind.overspillNoVictim : Nat := 0x124
/-- REFIRE_LIST_FULL, Contain by default. -/
def Kind.refireListFull : Nat := 0x125
/-- SPILL_FILTER_PARITY, Corrected by default. -/
def Kind.spillFilterParity : Nat := 0x126
/-- LINK_RETRY, Corrected by default. -/
def Kind.linkRetry : Nat := 0x130
/-- TILE_LINK_DOWN, Quarantine by default. -/
def Kind.tileLinkDown : Nat := 0x131
/-- LINK_DOWN, Safe by default. -/
def Kind.linkDown : Nat := 0x132
/-- NOC_BUFFER_CORRECTED, Corrected by default. -/
def Kind.nocBufferCorrected : Nat := 0x133
/-- NOC_PAYLOAD_POISONED, Deferred by default. -/
def Kind.nocPayloadPoisoned : Nat := 0x134
/-- NOC_PACKET_DROPPED, Corrected by default. -/
def Kind.nocPacketDropped : Nat := 0x135
/-- NOC_TOKEN_DROPPED, Contain by default. -/
def Kind.nocTokenDropped : Nat := 0x136
/-- NOC_MGMT_DROPPED, Safe by default. -/
def Kind.nocMgmtDropped : Nat := 0x137
/-- NOC_HEADER_INVALID, Contain by default. -/
def Kind.nocHeaderInvalid : Nat := 0x138
/-- E2E_TIMEOUT, Contain by default. -/
def Kind.e2eTimeout : Nat := 0x139
/-- REPLAY_CACHE_UNCORRECTABLE, Contain by default. -/
def Kind.replayCacheUncorrectable : Nat := 0x13A
/-- REPLAY_CACHE_CORRECTED, Corrected by default. -/
def Kind.replayCacheCorrected : Nat := 0x13B
/-- LOCK_RIGHTS_VIOLATION, Contain by default. -/
def Kind.lockRightsViolation : Nat := 0x140
/-- LOCK_OP_INVALID, Contain by default. -/
def Kind.lockOpInvalid : Nat := 0x141
/-- LOCK_NOT_OWNER, Contain by default. -/
def Kind.lockNotOwner : Nat := 0x142
/-- LOCK_CELL_ORPHANED, Corrected by default. -/
def Kind.lockCellOrphaned : Nat := 0x143
/-- LOCK_FORCED, Corrected by default. -/
def Kind.lockForced : Nat := 0x144
/-- LOCK_COUNT_OVERFLOW, Contain by default. -/
def Kind.lockCountOverflow : Nat := 0x145
/-- LOCK_STORE_CORRECTED, Corrected by default. -/
def Kind.lockStoreCorrected : Nat := 0x146
/-- LOCK_STORE_UNCORRECTABLE, Contain by default. -/
def Kind.lockStoreUncorrectable : Nat := 0x147
/-- HOST_LINK_DOWN, Contain by default. -/
def Kind.hostLinkDown : Nat := 0x150
/-- HOST_LINK_DEGRADED, Corrected by default. -/
def Kind.hostLinkDegraded : Nat := 0x151
/-- HOST_IDE_FAILURE, Contain by default. -/
def Kind.hostIdeFailure : Nat := 0x152
/-- HOST_TRANSLATION_FAULT, Contain by default. -/
def Kind.hostTranslationFault : Nat := 0x153
/-- HOST_COMPLETION_ERROR, Contain by default. -/
def Kind.hostCompletionError : Nat := 0x154
/-- HOST_LINK_ERROR, Corrected by default. -/
def Kind.hostLinkError : Nat := 0x155
/-- ATC_CORRECTED, Corrected by default. -/
def Kind.atcCorrected : Nat := 0x156
/-- ATC_UNCORRECTABLE, Corrected by default. -/
def Kind.atcUncorrectable : Nat := 0x157
/-- HOST_FUNCTION_RESET, Corrected by default. -/
def Kind.hostFunctionReset : Nat := 0x158
/-- RING_DOORBELL_INVALID, Corrected by default. -/
def Kind.ringDoorbellInvalid : Nat := 0x160
/-- RING_DESC_INVALID, Contain by default. -/
def Kind.ringDescInvalid : Nat := 0x161
/-- RING_SEQ_GAP, Contain by default. -/
def Kind.ringSeqGap : Nat := 0x162
/-- RING_HOST_ERROR, Contain by default. -/
def Kind.ringHostError : Nat := 0x163
/-- RING_CONFIG_INVALID, Corrected by default. -/
def Kind.ringConfigInvalid : Nat := 0x164
/-- RING_BUFFER_CORRECTED, Corrected by default. -/
def Kind.ringBufferCorrected : Nat := 0x165
/-- RING_BUFFER_UNCORRECTABLE, Contain by default. -/
def Kind.ringBufferUncorrectable : Nat := 0x166
/-- CUSTODY_SIGNATURE_INVALID, Corrected by default. -/
def Kind.custodySignatureInvalid : Nat := 0x170
/-- CUSTODY_STAGE_TIMEOUT, Corrected by default. -/
def Kind.custodyStageTimeout : Nat := 0x171
/-- COMMIT_REFUSED, Corrected by default. -/
def Kind.commitRefused : Nat := 0x172
/-- COMMIT_QUIESCE_TIMEOUT, Corrected by default. -/
def Kind.commitQuiesceTimeout : Nat := 0x173
/-- PLACE_INV_TIMEOUT, Quarantine by default. -/
def Kind.placeInvTimeout : Nat := 0x174
/-- DIRECT_WRITE_USED, Corrected by default. -/
def Kind.directWriteUsed : Nat := 0x175
/-- PARTITION_TABLE_UNCORRECTABLE, Safe by default. -/
def Kind.partitionTableUncorrectable : Nat := 0x176
/-- PARTITION_TABLE_CORRECTED, Corrected by default. -/
def Kind.partitionTableCorrected : Nat := 0x177
/-- CUSTODY_KEY_CHANGED, Corrected by default. -/
def Kind.custodyKeyChanged : Nat := 0x178
/-- ARM_REFUSED, Corrected by default. -/
def Kind.armRefused : Nat := 0x179
/-- TILE_REBOUND, Corrected by default. -/
def Kind.tileRebound : Nat := 0x17A
/-- PARTITION_REMOVED, Corrected by default. -/
def Kind.partitionRemoved : Nat := 0x17B

/-- The rows of Table 16.7: code and default class (0 Corrected, 1 Deferred, 2 Contain, 3 Quarantine, 4 Safe). -/
def kindRows1 : List (Nat × Nat) :=
  [(0x001, 4), (0x002, 4), (0x003, 4), (0x004, 0), (0x005, 0), (0x006, 0), (0x007, 4), (0x010, 0),
   (0x011, 4), (0x012, 4), (0x013, 3), (0x014, 4), (0x015, 0), (0x016, 0), (0x017, 0), (0x018, 4),
   (0x019, 0), (0x01A, 0), (0x020, 0), (0x021, 4), (0x022, 0), (0x023, 4), (0x024, 0), (0x025, 4),
   (0x030, 0), (0x040, 0), (0x041, 1), (0x042, 0), (0x043, 0), (0x080, 0), (0x081, 1), (0x082, 0),
   (0x083, 2), (0x084, 3), (0x0A0, 2), (0x0A1, 2), (0x0A2, 2), (0x0A3, 2), (0x0A4, 2), (0x0A5, 2),
   (0x0A6, 2), (0x0A7, 2), (0x0A8, 2), (0x0A9, 0), (0x0AA, 2), (0x0AB, 2), (0x0AC, 0), (0x0B0, 2),
   (0x0B1, 2), (0x0C0, 2), (0x0C1, 2), (0x0C2, 2), (0x0C3, 2), (0x0C4, 2), (0x0C5, 3), (0x0C6, 2),
   (0x0C7, 2), (0x0C8, 0), (0x0C9, 2), (0x0CA, 2), (0x0D0, 2), (0x0D1, 2), (0x0D2, 2), (0x0D3, 2),
   (0x0D4, 2), (0x0D5, 2), (0x0D6, 2), (0x0D7, 2), (0x0E0, 2), (0x0E1, 2), (0x0E2, 2), (0x0E3, 2),
   (0x0E4, 1), (0x0E8, 0), (0x0E9, 1)]

/-- The rest of the rows of Table 16.7. -/
def kindRows2 : List (Nat × Nat) :=
  [(0x0F0, 2), (0x0F1, 2), (0x0F2, 2), (0x0F3, 0), (0x0F4, 2), (0x0F5, 0), (0x0F6, 2), (0x100, 2),
   (0x101, 2), (0x102, 2), (0x103, 2), (0x104, 2), (0x105, 0), (0x106, 2), (0x110, 2), (0x111, 2),
   (0x112, 0), (0x113, 0), (0x114, 2), (0x115, 0), (0x116, 0), (0x120, 2), (0x121, 2), (0x122, 2),
   (0x123, 2), (0x124, 2), (0x125, 2), (0x126, 0), (0x130, 0), (0x131, 3), (0x132, 4), (0x133, 0),
   (0x134, 1), (0x135, 0), (0x136, 2), (0x137, 4), (0x138, 2), (0x139, 2), (0x13A, 2), (0x13B, 0),
   (0x140, 2), (0x141, 2), (0x142, 2), (0x143, 0), (0x144, 0), (0x145, 2), (0x146, 0), (0x147, 2),
   (0x150, 2), (0x151, 0), (0x152, 2), (0x153, 2), (0x154, 2), (0x155, 0), (0x156, 0), (0x157, 0),
   (0x158, 0), (0x160, 0), (0x161, 2), (0x162, 2), (0x163, 2), (0x164, 0), (0x165, 0), (0x166, 2),
   (0x170, 0), (0x171, 0), (0x172, 0), (0x173, 0), (0x174, 3), (0x175, 0), (0x176, 4), (0x177, 0),
   (0x178, 0), (0x179, 0), (0x17A, 0), (0x17B, 0)]

/-- The default class of a kind, none for a code that Table 16.7 does not list. -/
def kindDefault (k : Nat) : Option Nat :=
  match (kindRows1 ++ kindRows2).find? (fun r => r.1 == k) with
  | some r => some r.2
  | none => none

/-- Whether Table 16.7 lists the code. -/
def kindListed (k : Nat) : Bool := (kindDefault k).isSome

end Sys2Proof.Machine
end

