-- ==== Sys2Proof/Machine/Topology.lean ====
section
/-! DEFINITION. The tree's topology (Tables 1.3, 11.12 and 11.13): units, routers and their ports, the way from a unit up to the
root, and the depths of the routers' input buffers. -/

namespace Sys2Proof.Machine

/-- Whether a unit identifier names a tile or a spare tile. -/
def isTile (u : Nat) : Bool := decide (u < 0x110)

/-- Whether a unit identifier names a unit (R23, Table 1.3). -/
def isUnit (u : Nat) : Bool :=
  decide (u < 0x110) || (decide (0x200 ≤ u) && decide (u < 0x240)) || (decide (0x280 ≤ u) && decide (u < 0x290))
  || (decide (0x2C0 ≤ u) && decide (u < 0x2D4)) || (decide (0x300 ≤ u) && decide (u < 0x311))
  || (decide (0x380 ≤ u) && decide (u < 0x384))

/-- The grove of a tile or spare. -/
def groveOf (u : Nat) : Nat := if u < 0x100 then u / 16 else u - 0x100

/-- The stand of a tile or spare (R18). -/
def standOf (u : Nat) : Nat := groveOf u / 4

/-- Whether a unit identifier names a router. -/
def isRouter (u : Nat) : Bool :=
  (decide (0x200 ≤ u) && decide (u < 0x240)) || (decide (0x280 ≤ u) && decide (u < 0x290))
  || (decide (0x2C0 ≤ u) && decide (u < 0x2C4)) || decide (u = 0x300)

/-- The ports of a router (Table 11.13). -/
def routerPorts (r : Nat) : List Nat :=
  if 0x200 ≤ r ∧ r < 0x240 then [0, 1, 2, 3, 7]
  else if 0x280 ≤ r ∧ r < 0x290 then [0, 1, 2, 3, 4, 7]
  else if 0x2C0 ≤ r ∧ r < 0x2C4 then [0, 1, 2, 3, 0x10, 0x11, 0x12, 0x13, 7]
  else if r = 0x300 then [0, 1, 2, 3] ++ (List.range 16).map (fun n => 0x10 + n) ++ [0x20, 0x21]
  else []

/-- The far end of a router port: the router and port there, or the unit. -/
inductive FarEnd where
  | router (r p : Nat)
  | unit (u : Nat)
  deriving DecidableEq, Repr

/-- What lies at a router port. -/
def farEnd (r p : Nat) : FarEnd :=
  if 0x200 ≤ r ∧ r < 0x240 then
    (if p = 7 then .router (0x280 + (r - 0x200) / 4) ((r - 0x200) % 4) else .unit (4 * (r - 0x200) + p))
  else if 0x280 ≤ r ∧ r < 0x290 then
    (if p = 7 then .router (0x2C0 + (r - 0x280) / 4) ((r - 0x280) % 4)
     else if p = 4 then .unit (0x100 + (r - 0x280)) else .router (0x200 + 4 * (r - 0x280) + p) 7)
  else if 0x2C0 ≤ r ∧ r < 0x2C4 then
    (if p = 7 then .router 0x300 (r - 0x2C0)
     else if p < 4 then .router (0x280 + 4 * (r - 0x2C0) + p) 7
     else .unit (0x2C4 + 4 * (p - 0x10) + (r - 0x2C0)))
  else if p < 4 then .router (0x2C0 + p) 7
  else if p = 0x20 then .unit 0x381
  else if p = 0x21 then .unit 0x383
  else .unit (0x301 + (p - 0x10))

/-- The grove of a unit below a grove router, and none for the others. -/
def unitGrove (u : Nat) : Option Nat :=
  if u < 0x110 then some (groveOf u)
  else if 0x200 ≤ u ∧ u < 0x240 then some ((u - 0x200) / 4)
  else if 0x280 ≤ u ∧ u < 0x290 then some (u - 0x280)
  else none

/-- The stand of a unit below a stand router. -/
def unitStand (u : Nat) : Option Nat :=
  match unitGrove u with
  | some g => some (g / 4)
  | none => if 0x2C0 ≤ u ∧ u < 0x2D4 then some (u % 4) else none

/-- The router and port at the upper end of the link of a unit or router below the root. -/
def upperEnd (u : Nat) : Option (Nat × Nat) :=
  if u < 0x100 then some (0x200 + u / 4, u % 4)
  else if u < 0x110 then some (0x280 + (u - 0x100), 4)
  else if 0x200 ≤ u ∧ u < 0x240 then some (0x280 + (u - 0x200) / 4, (u - 0x200) % 4)
  else if 0x280 ≤ u ∧ u < 0x290 then some (0x2C0 + (u - 0x280) / 4, (u - 0x280) % 4)
  else if 0x2C0 ≤ u ∧ u < 0x2C4 then some (0x300, u - 0x2C0)
  else if 0x2C4 ≤ u ∧ u < 0x2D4 then some (0x2C0 + u % 4, 0x10 + (u - 0x2C4) / 4)
  else if 0x301 ≤ u ∧ u ≤ 0x310 then some (0x300, 0x10 + (u - 0x301))
  else if u = 0x381 then some (0x300, 0x20)
  else if u = 0x383 then some (0x300, 0x21)
  else none

/-- The links from a unit up to the root, each by the router and port at its upper end; at most `n` of them. -/
def linksUp (n u : Nat) : List (Nat × Nat) :=
  match n with
  | 0 => []
  | k + 1 => match upperEnd u with
    | some (r, p) => (r, p) :: linksUp k r
    | none => []

/-- The links on the one path between two units: up from the source to the lowest common router, then down (R333). -/
def pathLinks (a b : Nat) : List (Nat × Nat) :=
  let up := linksUp 4 a
  let dn := linksUp 4 b
  up.filter (fun x => !(dn.contains x)) ++ dn.filter (fun x => !(up.contains x))

/-- The depth in flits of a router's input buffer for a class (Table 11.12). -/
def inDepth (r p cls : Nat) : Nat :=
  if 0x200 ≤ r ∧ r < 0x240 then (if cls = 0 then 4 else 8)
  else if 0x280 ≤ r ∧ r < 0x290 then (if cls = 0 then 8 else 16)
  else if 0x2C0 ≤ r ∧ r < 0x2C4 then (if cls = 0 then 16 else 32)
  else if p < 4 then (if cls = 0 then 32 else 64) else (if cls = 0 then 8 else 16)

/-- The key of a router port. -/
def portKey (r p : Nat) : Nat := 64 * r + p

end Sys2Proof.Machine
end

