-- ==== Sys2Proof/Machine/Packets.lean ====
section
/-! DEFINITION. How packets are laid out in flits (R319 to R325): headers (Tables 11.1 to 11.5), opcodes (Tables 11.6 to 11.9), and
the payloads that the specification lays out (R39, R322 to R324, Tables 11.8, 11.10 and 12.3). -/

namespace Sys2Proof.Machine

/-! ### Opcodes -/

/-- The MGMT opcode (Table 11.9; TOKEN_ACK: R588). A tile's report of a lost activation has none in the table. -/
def mgmtOp : Body → Option Nat
  | .fault _ => some 0x01
  | .placeInvalidate _ _ => some 0x02
  | .placeInvAck => some 0x03
  | .ctxEndAck _ _ => some 0x04
  | .orphanNotify _ _ => some 0x0A
  | .replayPurge _ _ => some 0x0B
  | .replayPurgeAck _ _ => some 0x0C
  | .tokenAck _ => some 0x0D
  | _ => none

/-- The REQ opcode of a request (Table 11.7); 0 for a line write. -/
def reqOp : Body → Nat
  | .readWord _ => 0x01
  | .readLine _ => 0x02
  | .readBulk _ => 0x03
  | .writeWord _ _ _ => 0x04
  | .aadd _ _ _ => 0x05
  | .hostBase _ _ => 0x06
  | .placeRead _ => 0x07
  | .eventSet _ => 0x08
  | .admission _ => 0x09
  | .complete _ _ => 0x0A
  | .depDec _ _ => 0x0B
  | .take _ _ => 0x0C
  | .takeCancel _ => 0x0D
  | .ctxAlloc => 0x0E
  | .ctxRelease _ => 0x0F
  | .ctxNotice _ => 0x10
  | .seqReq _ _ => 0x11
  | .seqReturn _ _ => 0x12
  | .gateToken _ _ => 0x13
  | .gateComplete _ _ _ _ => 0x14
  | .trailCtrl _ _ => 0x15
  | .lockOp _ => 0x16
  | .spill _ => 0x17
  | .fetch _ => 0x18
  | .reclaim _ => 0x19
  | .siftSubmit _ _ _ => 0x1A
  | .config _ _ => 0x1B
  | .cplPost _ _ _ _ => 0x1C
  | .spoorEvent _ => 0x1D
  | _ => 0

/-- The RSP opcode (Table 11.8). -/
def rspOp : Resp → Nat
  | .dataWord _ => 0x01
  | .dataBytes bs _ => if bs.length ≤ 64 then 0x02 else 0x03
  | .writeAck _ => 0x04
  | .result _ | .seqData _ _ | .spillData _ _ => 0x05
  | .wait => 0x06
  | .busyRetry _ => 0x07
  | .placeData _ _ _ | .placeUnbound => 0x08
  | .refused _ => 0x09
  | .fetchData _ _ => 0x0A

/-- Flits of a packet: 4 for a DATA_BULK response and a bulk line write, else 1 (R320). -/
def bodyFlits : Body → Nat
  | .lineWrite _ _ true _ _ => 4
  | .rsp _ r => if rspOp r = 3 then 4 else 1
  | _ => 1

/-- The room that a request reserves for its response: 4 flits for READ_BULK, else 1 (R328). -/
def respFlits : Body → Nat
  | .readBulk _ => 4
  | _ => 1

/-! ### Headers -/

/-- POISON of a request: the data word of WRITE_WORD (R324), and the value words of the tokens that a request carries. -/
def reqPoison : Body → Nat
  | .writeWord _ _ d => 2 * b2n d.poison
  | .gateToken _ t => b2n t.poison
  | .spill l => packFields 2 (l.map (fun x => b2n x.1.poison))
  | _ => 0

/-- A line write in the line-write format: LINE, POISON, XFER and BULK (Table 11.3). -/
def lineHeader (line poison xfer : Nat) (bulk : Bool) : Nat :=
  2 ^ 31 + 2 ^ 13 * (line % 2 ^ 18) + 2 ^ 5 * (poison % 256) + 2 ^ 2 * (xfer % 8) + 2 * b2n bulk

/-- The TOKEN fields (Table 11.2). -/
def tokenFields (op gen : Nat) (toks : List Token) (ack : Bool) : Nat :=
  2 ^ 20 * (gen % 2 ^ 12) + 2 ^ 18 * ((toks.length - 1) % 4) + 2 ^ 14 * (packFields 1 (toks.map (fun t => b2n t.poison)) % 16)
  + 2 ^ 10 * op + 2 ^ 9 * b2n ack

/-- POISON of flit `k` of a response (Table 11.4). -/
def rspPoison (k : Nat) : Resp → Nat
  | .dataWord w => b2n w.poison
  | .dataBytes _ p => (p >>> (8 * k)) % 256
  | _ => 0

/-- The RSP fields of flit `k` (Table 11.4): a WRITE_ACK carries only the XFER. -/
def rspFields (tag sub k : Nat) (r : Resp) : Nat :=
  2 ^ 27 * rspOp r + 2 ^ 15 * (if rspOp r = 4 then tag % 8 else tag % 2 ^ 12) + 2 ^ 7 * rspPoison k r + 2 ^ 5 * (sub % 4) + 2 ^ 3 * (k % 4)

/-- The fields of a class in bits [31:0] of the header of flit `k` of a packet. -/
def classFields (p : Packet) (k : Nat) : Nat :=
  match p.body with
  | .tokens gen toks ack => tokenFields 0 gen toks ack
  | .actTokens gen toks _ => tokenFields 1 gen toks false
  | .lineWrite l x b _ po => lineHeader (l + k) (po >>> (8 * k)) x b
  | .xferLine l x _ po _ => lineHeader l po x false
  | .rsp sub r => rspFields p.tag sub k r
  | b => if p.cls = 0 then 2 ^ 26 * (mgmtOp b).getD 0 + 2 ^ 14 * (p.tag % 2 ^ 12)
         else 2 ^ 26 * reqOp b + 2 ^ 14 * (p.tag % 2 ^ 12) + 2 ^ 6 * (reqPoison b % 256)

/-- The header of flit `k` of a packet (Table 11.1). -/
def flitHeader (p : Packet) (k : Nat) : Nat :=
  2 ^ 62 * (p.cls % 4) + 2 ^ 50 * (p.dest % 2 ^ 12) + 2 ^ 36 * (p.src % 2 ^ 14) + 2 ^ 32 * (p.part % 16) + classFields p k

/-- The header of a packet's first flit. -/
def packetHeader (p : Packet) : Nat := flitHeader p 0

/-! ### Payloads -/

/-- A token's 128 bits: the value in [63:0] and the tag in [127:64] (R39). -/
def tokenBits (t : Token) : Nat := t.val.toNat + 2 ^ 64 * t.tag.toNat

/-- The token that 128 bits hold; its poison mark travels in the header. -/
def tokenOf (v : Nat) (poison : Bool) : Token := ⟨BitVec.ofNat 64 v, BitVec.ofNat 64 (v / 2 ^ 64), poison⟩

/-- Tokens at payload bytes 16m to 16m + 15 (R322). -/
def tokenPayload (toks : List Token) : Nat := packFields 128 (toks.map tokenBits)

/-- The memory request word (Table 11.10). -/
def memWordBits (m : MemWord) : Nat :=
  2 ^ 62 * (m.space % 4)
  + (match m.space with
     | 0 => 2 ^ 60 * (m.slot % 4) + 2 ^ 48 * (m.gen % 2 ^ 12) + 2 ^ 38 * (m.vtile % 2 ^ 10) + m.off % 2 ^ 20
     | 1 => m.off % 2 ^ 24
     | _ => m.off % 2 ^ 44)

/-- The request that a memory request word holds: none for the reserved SPACE 3 and for a non-zero bit that Table 11.10 gives as
zero. -/
def memWordOf (v : Nat) : Option MemWord :=
  let m : MemWord := match bits v 63 62 with
    | 0 => { space := 0, slot := bits v 61 60, gen := bits v 59 48, vtile := bits v 47 38, off := bits v 19 0 }
    | 1 => { space := 1, off := bits v 23 0 }
    | k => { space := k, off := bits v 43 0 }
  if bits v 63 62 ≠ 3 ∧ memWordBits m = v % 2 ^ 64 then some m else none

/-- The code of a width in bits, that of the width prefixes (R81, R324); 3 stands for 64 bits (DEDUCED: log entry 17). -/
def widthCode (w : Nat) : Nat := if w = 8 then 0 else if w = 16 then 1 else if w = 32 then 2 else 3

/-- The OP byte of a lock request (Table 12.3). -/
def lockOpCode : LockOp → Nat
  | .acquire => 1
  | .try_ => 2
  | .release => 3
  | .semAcquire => 4
  | .semRelease => 5
  | .cancel => 6
  | .force => 7

/-- The payload of flit `k` of a response, where Table 11.8 lays it out. -/
def rspPayload (k : Nat) : Resp → Option Nat
  | .dataWord w => some w.val.toNat
  | .dataBytes bs _ => some (leNat ((bs.drop (64 * k)).take 64))
  | .writeAck n => some (n % 2 ^ 16)
  | .result w => some w.toNat
  | .wait => some 0
  | .busyRetry h => some (h % 2 ^ 32)
  | .refused r => some (r % 256)
  | _ => none

/-- The payload of flit `k` of a packet, where the specification lays it out; none for the messages whose owning chapters give
only their contents. -/
def bodyPayload (k : Nat) : Body → Option Nat
  | .tokens _ toks _ => some (tokenPayload (toks.take 4))
  | .actTokens _ toks h => some (tokenPayload (toks.take 2) + 2 ^ 256 * (h % 2 ^ 32))
  | .readWord m | .readLine m | .readBulk m => some (memWordBits m)
  | .writeWord m _ d => some (memWordBits m + 2 ^ 64 * d.val.toNat)
  | .aadd m w d => some (memWordBits m + 2 ^ 64 * d.toNat + 2 ^ 128 * widthCode w)
  | .lineWrite _ _ _ d _ => some (leNat ((d.drop (64 * k)).take 64))
  | .xferLine _ _ d _ _ => some (leNat (d.take 64))
  | .lockOp r => some (r.word % 2 ^ 64 + 2 ^ 64 * lockOpCode r.op + 2 ^ 72 * (r.slot % 4))
  | .tokenAck n => some (n % 2 ^ 32)
  | .fault m => some (packFields 64 [m.time, m.head, m.addr, m.detail])
  | .ctxAlloc | .placeInvAck => some 0
  | .rsp _ r => rspPayload k r
  | _ => none

/-- The flits of a packet, in order (R320); none where the specification lays out no payload or names no opcode for it. -/
def packetFlits (p : Packet) : List Flit :=
  if p.cls = 0 ∧ mgmtOp p.body = none then []
  else (List.range (bodyFlits p.body)).filterMap (fun k => (bodyPayload k p.body).map (fun d => ⟨flitHeader p k, d⟩))

/-- The tokens of a TOKEN flit, with their poison marks (Table 11.2, R322). -/
def flitTokens (f : Flit) : List Token :=
  (List.range (bits f.header 19 18 + 1)).map (fun m => tokenOf (bits f.payload (128 * m + 127) (128 * m)) (bit f.header (14 + m)))

/-- The activation handle of an ACT_TOKENS flit (R322). -/
def flitHandle (f : Flit) : Option Nat := if bits f.header 13 10 = 1 then some (bits f.payload 287 256) else none

/-! ### Fields of a flit's header -/

/-- CLASS. -/
def flitCls (f : Flit) : Nat := bits f.header 63 62
/-- DEST. -/
def flitDest (f : Flit) : Nat := bits f.header 61 50
/-- SRC. -/
def flitSrc (f : Flit) : Nat := bits f.header 49 36
/-- PARTITION. -/
def flitPart (f : Flit) : Nat := bits f.header 35 32
/-- BCAST of an MGMT flit. -/
def flitBcast (f : Flit) : Bool := decide (flitCls f = 0) && bit f.header 13
/-- The opcode that a probe compares: 0x3F for a line write (R347). -/
def flitOp (f : Flit) : Nat :=
  match flitCls f with
  | 0 => bits f.header 31 26
  | 1 => bits f.header 13 10
  | 2 => if bit f.header 31 then 0x3F else bits f.header 30 26
  | _ => bits f.header 31 27

/-- Flits of the packet that a flit belongs to: 4 for DATA_BULK and for a line write with BULK set (R320). -/
def flitCount (f : Flit) : Nat :=
  match flitCls f with
  | 2 => if bit f.header 31 && bit f.header 1 then 4 else 1
  | 3 => if flitOp f = 3 then 4 else 1
  | _ => 1

/-- Whether a flit's OPCODE is assigned and every field that Tables 11.2 to 11.5 mark zero is zero (R325). -/
def flitFormOk (f : Flit) : Bool :=
  let h := f.header
  let op := flitOp f
  match flitCls f with
  | 0 => decide (1 ≤ op ∧ op ≤ 0x0D) && decide (bits h 12 0 = 0)
  | 1 => decide (op ≤ 1) && decide (bits h 8 0 = 0)
  | 2 => if bit h 31 then decide (bits h 0 0 = 0) else decide (1 ≤ op ∧ op ≤ 0x1D) && decide (bits h 5 0 = 0)
  | _ => decide (1 ≤ op ∧ op ≤ 0x0A) && decide (bits h 2 0 = 0) && (decide (op = 3) || decide (bits h 4 3 = 0))
         && (decide (op ≠ 4) || decide (bits h 26 18 = 0))

/-- The replay-cache targets (R337). -/
def replayTargets : List Nat := [0x301, 0x302, 0x303, 0x304, 0x305, 0x381, 0x383]

/-- Whether a unit serves an opcode of the REQ class (the Target column of Table 11.7); a line write goes to a memory target. -/
def servesReq (u op : Nat) : Bool :=
  let bridge := decide (u = 0x381) || decide (u = 0x383)
  let mem := isTile u || (decide (0x2CC ≤ u) && decide (u < 0x2D0)) || bridge
  if op = 0x3F ∨ (1 ≤ op ∧ op ≤ 4) then mem
  else if op = 5 then mem && !bridge
  else if op = 6 ∨ op = 0x1C ∨ op = 0x10 ∨ op = 0x17 ∨ op = 0x18 then bridge
  else if op = 7 then decide (u = 0x30A)
  else if op = 8 ∨ op = 0x19 then isTile u
  else if op = 9 ∨ op = 0x0A then decide (u = 0x301)
  else if op = 0x0B then decide (u = 0x302)
  else if op = 0x0C ∨ op = 0x0D then decide (0x2C4 ≤ u) && decide (u < 0x2C8)
  else if op = 0x0E ∨ op = 0x0F then decide (u = 0x303)
  else if 0x11 ≤ op ∧ op ≤ 0x15 then decide (u = 0x305)
  else if op = 0x16 then decide (u = 0x304)
  else if op = 0x1A then decide (0x2C8 ≤ u) && decide (u < 0x2CC)
  else if op = 0x1B then isUnit u
  else if op = 0x1D then decide (u = 0x306)
  else false

/-- Whether a unit receives an opcode of the MGMT class (Table 11.9, R588). -/
def servesMgmt (u op : Nat) : Bool :=
  if op = 1 then decide (u = 0x307)
  else if op = 2 then isTile u
  else if op = 3 then decide (u = 0x30A)
  else if op = 4 then decide (u = 0x303)
  else if op = 0x0A then decide (u = 0x304)
  else if op = 0x0B then replayTargets.contains u
  else decide (op ≤ 0x0D)

/-- Whether the destination unit serves a flit (R325): a TOKEN packet only a tile, a REQ or MGMT packet the unit that its opcode
names. Responses go to any requester. -/
def servesFlit (u : Nat) (f : Flit) : Bool :=
  match flitCls f with
  | 0 => servesMgmt u (flitOp f)
  | 1 => isTile u
  | 2 => servesReq u (flitOp f)
  | _ => true

/-- Whether a flit can be the next of a 4-flit packet after one with header `h`: the same header, but for POISON, with the next FLIT
or LINE (Tables 11.3 and 11.4). -/
def flitFollows (h : Nat) (f : Flit) : Bool :=
  let rest (x : Nat) : Nat := if bits x 63 62 = 3 then x - 2 ^ 7 * bits x 14 7 else x - 2 ^ 5 * bits x 12 5
  let step := if bits h 63 62 = 3 then 2 ^ 3 else 2 ^ 13
  decide (flitCount f = 4) && decide (rest f.header = rest h + step)

end Sys2Proof.Machine
end

