-- ==== Sys2Proof/Machine/State.lean ====
section
/-! DEFINITION. The state of the part as plain data: every register, buffer, queue, counter and mode that the
spec gives it, the messages in the network, and the queue of commands that wait. Each structure cites the table or
rule of spec/ that names it. Field defaults are the reset values of the field tables (R12, R502). -/

namespace Sys2Proof.Machine

/-- The device modes (Table 0.3). -/
inductive Mode where
  | configuration | operational | safe
  deriving DecidableEq, Repr

/-! ### Clearing: identification, forest time, mode (chapters 1 and 17) -/

/-- CLR.GROVE_STATE[g] (Table 1.10), each thicket set as a 4-bit mask. -/
structure Grove where
  sparePos : Nat := 0
  spareFailed : Bool := false
  spareUsed : Bool := false
  lost : Nat := 0
  strapOff : Nat := 0
  fusedOff : Nat := 0
  deriving DecidableEq, Repr

/-- CLR.ACCESS_ERR (Table 1.12). -/
structure AccessErr where
  offset : Nat := 0
  fn : Nat := 0
  port : Nat := 0
  reason : Nat := 0
  overflow : Bool := false
  valid : Bool := false
  deriving DecidableEq, Repr

/-- The CLR block: identification, clocking, forest time with its shadows (keyed by 32 × port + function),
mode and service. -/
structure Clr where
  part : Nat := 0x7256
  speed : Nat := 0x10
  fusedThickets : Nat := 64
  gradeThickets : Nat := 64
  refPort : Nat := 0
  time : Nat := 0
  shadows : SMap (Option Nat) := []
  accessErr : AccessErr := {}
  groves : List Grove := List.replicate 16 {}
  mode : Mode := .configuration
  step : Nat := 1
  hold : Bool := false
  fwSlot : Nat := 0
  fwRunning : Bool := false
  service : Nat := 0
  conditions : List Bool := List.replicate 13 false
  deriving DecidableEq, Repr

/-- The clocks and supplies as the clock controller sees them (R497 to R501): powered, CHIP_RESET_N low, the
selected reference present, the PLLs locked, and for each PLL the lock attempts made and whether its lock was lost while
the reference was present. `shutdown` is the latched hardware shutdown of R577. `sup` counts supervisor-clock time and
`tile` the core cycles in which tiles are not gated (R574), both in units of a core cycle; `lossMode` and `portDown` are
the device mode at a loss of the reference and whether the reference port's link left L0 in it (R499). -/
structure Clocks where
  powered : Bool := true
  inReset : Bool := false
  refPresent : Bool := true
  coreLocked : Bool := true
  supLocked : Bool := true
  coreTries : Nat := 0
  supTries : Nat := 0
  shutdown : Bool := false
  sup : Nat := 0
  tile : Nat := 0
  lossMode : Mode := .configuration
  portDown : Bool := false
  deriving DecidableEq, Repr

/-! ### Fuses, bring-up and self-test (chapter 17) -/

/-- What the fuses hold (R19, R510, R511, R562, R571); no reset changes them: the fused part and speed, the serial number, the
thickets fused off per grove, the four key-hash slots with their revocation mask, the security floor, the debug fuse (open)
and the voltage-ID value in mV. -/
structure Fuses where
  part : Nat := 0x7256
  speed : Nat := 0x10
  serial : Nat := 0
  fusedOff : List Nat := List.replicate 16 0
  keyHash : List Nat := [0, 0, 0, 0]
  revoked : Nat := 0
  floor : Nat := 0
  debug : Bool := false
  vid : Nat := 750
  deriving DecidableEq, Repr

/-- The clock, reset and self-test controller's registers (Table 17.10, Table 19.5) and the working state of bring-up and of
the in-field self-test: what bring-up finds (kept while it waits for the reference), the board record in force, the running
image's body digest and the hash of its SIGN_KEY, a requested supervisor reset, the slices passed in the pass under way and
when a unit's last slice ended, the tiles selected while their kernels run, the units whose slices were skipped in the pass,
the consecutive periods that ended with their pass incomplete, the period's number and start, the period of a unit's last complete
pass, the spares whose pass decides whether they stand in for a position (R529), and whether bring-up has reached Operational
(R524), and what the firmware has written to CKR.IFST_CTRL for the next period (R530). -/
structure Ckr where
  por : Bool := true
  pin : Bool := false
  supResets : Nat := 0
  interruptions : Nat := 0
  pllRetries : Nat := 0
  secVersion : Nat := 0
  rejects : Nat := 0
  straps : Nat := 0
  bistUnits : Nat := 0
  bistClr : Nat := 0
  bistThickets : Nat := 0
  bistGroves : Nat := 0
  bistTiles : List Nat := List.replicate 16 0
  ifstEnable : Bool := true
  maxTiles : Nat := 4
  period : Nat := 0x64
  slices : Nat := 0
  skipped : Nat := 0
  failed : Nat := 0
  plan : BringUp := {}
  bifurcated : Nat := 0
  vrAddr : Nat := 0x40
  imageDigest : Nat := 0
  signKey : Nat := 0
  supRequested : Bool := false
  passed : SMap Nat := []
  lastSlice : SMap Nat := []
  chosen : List (Nat × Nat) := []
  skips : NSet := []
  missed : SMap Nat := []
  periodNo : Nat := 0
  periodFrom : Nat := 0
  passAt : SMap Nat := []
  engage : List (Nat × Nat) := []
  reached : Bool := false
  ifstWritten : Option Nat := none
  deriving DecidableEq, Repr

/-! ### Tokens, tags and the matching store (chapter 2) -/

/-- TIL.BINDING[i] (Table 2.4). -/
structure Binding where
  valid : Bool := false
  part : Nat := 0
  vtile : Nat := 0
  gen : Nat := 0
  ntBase : Nat := 0
  ntCountM1 : Nat := 0
  deriving DecidableEq, Repr

/-- TIL.VT_FRAME[i], in 4 KiB units (Table 2.5). -/
structure VtFrame where
  size : Nat := 0
  base : Nat := 0
  deriving DecidableEq, Repr

/-- A token in the input queue, with the requester identifier of its source. -/
structure QTok where
  tok : Token := {}
  src : Nat := 0
  deriving DecidableEq, Repr

/-- A matching-store or overflow-buffer entry (Table 2.8). `state`: 0 empty, 1 normal, 2 normal poisoned,
3 sticky. `pending` is the mark of R296. `err` is a stored error: 0 none, 1 correctable, 2 uncorrectable. -/
structure MEntry where
  key : Nat := 0
  port : Nat := 0
  state : Nat := 0
  spoison : Bool := false
  val : W64 := 0
  pending : Bool := false
  err : Nat := 0
  deriving DecidableEq, Repr

/-- A fired instance (R57): level, tag with PORT and KIND zero, first instruction, operands in port order. -/
structure FireEntry where
  level : Nat := 0
  tag : W64 := 0
  entry : Nat := 0
  ops : List PWord := []
  deriving DecidableEq, Repr

/-- A control-token scan in progress (R62): CTX_END or CTX_PURGE, the tag, when it ends, the discarded count. -/
structure Scan where
  isEnd : Bool := true
  tag : W64 := 0
  doneAt : Nat := 0
  count : Nat := 0
  deriving DecidableEq, Repr

/-- A CTX_END whose acknowledgement waits for outstanding SPILLs and FETCHes (R308). -/
structure EndWait where
  part : Nat := 0
  ctx : Nat := 0
  count : Nat := 0
  deriving DecidableEq, Repr

/-- A placement-cache entry. -/
structure PlaceEntry where
  part : Nat := 0
  vt : Nat := 0
  unit : Nat := 0
  gen : Nat := 0
  slot : Nat := 0
  deriving DecidableEq, Repr

/-- An outstanding placement read; `void` after an invalidation (R49). -/
structure Fill where
  part : Nat := 0
  vt : Nat := 0
  tag : Nat := 0
  void : Bool := false
  deriving DecidableEq, Repr

/-- A send in the send unit (R96): the token, the address of the send, the handle of a trail-tagged send, and the node that sent it
(its serial number, instance tag, binding slot and bank), which a later record names (R97). -/
structure SendEnt where
  tok : Token := {}
  pc : Nat := 0
  bundle : Bool := false
  trail : Option Nat := none
  serial : Nat := 0
  itag : W64 := 0
  slot : Nat := 0
  trapBank : Bool := false
  deriving DecidableEq, Repr

/-- TOKEN packets counted from one source and not yet acknowledged (R588). -/
structure AckOwed where
  src : Nat := 0
  count : Nat := 0
  since : Nat := 0
  deriving DecidableEq, Repr

/-! ### Node code (chapter 3) -/

/-- TIL.CODE[i] (Table 3.10). -/
structure CodeReg where
  trapValid : Bool := false
  trapEntry : Nat := 0
  sizeM1 : Nat := 0
  base : Nat := 0
  deriving DecidableEq, Repr

/-- TIL.STACK[i] (Table 3.11). -/
structure StackReg where
  top : Nat := 0
  limit : Nat := 0
  deriving DecidableEq, Repr

/-- A vector register: 2,048 bits and one poison mark (R80). -/
structure VReg where
  val : BitVec 2048 := 0
  poison : Bool := false
  deriving DecidableEq, Repr

/-- Why the thread is blocked: the answer of an outstanding request, an event, or a kernel's entry. -/
inductive Block where
  | request (target tag : Nat)
  | waitEv (rd mask : Nat) (limit : Option Nat)
  | take (rd tag : Nat) (limit : Option Nat) (cancelled : Bool)
  | kernel (rd entry lockAt : Nat)
  deriving DecidableEq, Repr

/-- The node-code thread (Table 3.1, Table 3.12). `stack` is the stack cache, most recently pushed first:
frame-window address and word. `pendG` and `pendV` are the registers whose load has not returned. `stopped`:
0 none, 4 excluded. -/
structure Thread where
  running : Bool := false
  slot : Nat := 0
  itag : W64 := 0
  pc : Nat := 0
  serial : Nat := 0
  trapBank : Bool := false
  g : List PWord := List.replicate 64 {}
  p : List Bool := List.replicate 8 false
  t : List W64 := List.replicate 8 0
  depth : Nat := 0
  stack : List (Nat × PWord) := []
  pendG : List Nat := []
  pendV : List Nat := []
  block : Option Block := none
  abandoned : Nat := 0
  deriving DecidableEq, Repr

/-- TIL.ACT_SLOT[n] (Table 8.11). -/
structure ActSlot where
  bslot : Nat := 0
  handle : Nat := 0
  deriving DecidableEq, Repr

/-! ### Lockstep, window jobs and transfers (chapters 4 and 6) -/

/-- A register write in flight (R122): the stream cycle in which it becomes visible, the register file (0 g, 1 v,
2 a, 3 p) and number, the value with its poison, and the bundle that issued it. -/
structure KWrite where
  due : Nat := 0
  file : Nat := 0
  reg : Nat := 0
  val : Nat := 0
  poison : Bool := false
  pc : Nat := 0
  deriving DecidableEq, Repr

/-- A store in flight (R125): the stream cycle in which it writes memory, frame address, bytes, value, poison, bundle. -/
structure KStore where
  due : Nat := 0
  pa : Nat := 0
  len : Nat := 0
  val : Nat := 0
  poison : Bool := false
  pc : Nat := 0
  deriving DecidableEq, Repr

/-- An open counted loop (R133): first byte of the body, the byte after it, trips left, and the trip index. -/
structure KLoop where
  first : Nat := 0
  stop : Nat := 0
  left : Nat := 0
  idx : Nat := 0
  deriving DecidableEq, Repr

/-- A WAITC that holds the stream, and its bundle with it (R138): counter, threshold and since when. -/
structure KHold where
  cnt : Nat := 0
  thr : Nat := 0
  since : Nat := 0
  deriving DecidableEq, Repr

/-- The lockstep kernel of a tile (R122 to R140): its number among those the tile entered, next bundle, last bundle issued, stream
cycle of the next bundle, the LOCKSTEP's address and destination, what is in flight, open loops (innermost first), accumulation chains
of the W unit, the hold, since when a full DMA engine holds it, the held cycles, the exit code, and the stream cycle,
bundle and banks of the accesses made. -/
structure Kernel where
  running : Bool := false
  id : Nat := 0
  pc : Nat := 0
  lastPc : Nat := 0
  cyc : Nat := 0
  lockAt : Nat := 0
  rd : Nat := 0
  writes : List KWrite := []
  stores : List KStore := []
  loops : List KLoop := []
  chain : List Nat := [0, 0, 0, 0]
  hold : Option KHold := none
  xqSince : Option Nat := none
  stalls : Nat := 0
  exit : Option Nat := none
  used : List (Nat × Nat × List Nat) := []
  deriving DecidableEq, Repr

/-- A window job (Table 6.2): its descriptor's fields, the bundle and stream cycle that started it, the descriptor
address, the job cycle of its next access, its duration, and the running sums of 16 pixels of 16 channels with each
pixel's tap count, the bias values, and the bytes that the reads of the present step returned. -/
structure WJob where
  op : Nat := 0
  inT : Nat := 0
  outT : Nat := 0
  c32 : Bool := false
  relu : Bool := false
  countPad : Bool := false
  kh : Nat := 0
  kw : Nat := 0
  sy : Nat := 0
  sx : Nat := 0
  dy : Nat := 0
  dx : Nat := 0
  pt : Nat := 0
  pb : Nat := 0
  pl : Nat := 0
  pr : Nat := 0
  inH : Nat := 0
  inW : Nat := 0
  inC : Nat := 0
  outC : Nat := 0
  inBase : Nat := 0
  inRowP : Nat := 0
  inBlkP : Nat := 0
  outBase : Nat := 0
  outRowP : Nat := 0
  outBlkP : Nat := 0
  wtBase : Nat := 0
  biasBase : Nat := 0
  scale : Nat := 0
  desc : Nat := 0
  pc : Nat := 0
  start : Nat := 0
  next : Nat := 9
  dur : Nat := 0
  acc : List Nat := List.replicate 256 0
  taps : List Nat := List.replicate 16 0
  bias : List Nat := List.replicate 16 0
  got : ByteMem := []
  deriving DecidableEq, Repr

/-- A transfer of the tile DMA engine (Table 6.4): the raw descriptor words as read when the XDMA issued, the XDMA's
bundle address, kernel and descriptor address, its fields once checked, its slot (XFER), the lines moved, the lines landed, and
the raw source lines that await the rest of their codec group. -/
structure Xfer where
  slot : Nat := 0
  bslot : Nat := 0
  part : Nat := 0
  pc : Nat := 0
  kern : Nat := 0
  serial : Nat := 0
  itag : W64 := 0
  desc : Nat := 0
  raw : List Byte := []
  rawPoison : Bool := false
  issuedAt : Nat := 0
  started : Bool := false
  src : Nat := 0
  dst : Nat := 0
  rowBytes : Nat := 0
  rows : Nat := 0
  srcPitch : Nat := 0
  dstPitch : Nat := 0
  ratio : Nat := 0
  dir : Nat := 0
  elem : Nat := 0
  sendCnt : Option Nat := none
  recvCnt : Option Nat := none
  doneEv : Bool := false
  moved : Nat := 0
  landed : Nat := 0
  group : SMap (List Byte × Nat) := []
  failed : Bool := false
  deriving DecidableEq, Repr


/-! ### Stand buffers (chapter 6) -/

/-- A stand buffer: its 16 MiB with poison marks and stored errors per 64-bit word (1 correctable, 2 uncorrectable),
and its registers (Table 6.8). -/
structure Sts where
  mem : ByteMem := []
  poison : NSet := []
  err : SMap Nat := []
  readLines : Nat := 0
  writeLines : Nat := 0
  corrected : Nat := 0
  uncorrected : Nat := 0
  lastLine : Nat := 0
  owner : List Nat := List.replicate 16 0
  valid : List Bool := List.replicate 16 false
  deriving DecidableEq, Repr


/-! ### Sifters (chapter 7) -/

/-- A sifter job (R201 to R204, R219): the number of its submission, the request that submitted it with what names the
submission (an activation handle, or ring set and SEQ), its descriptor address and bytes, the lines read for the segment
under way, the phase (0 descriptor, 1 decode, 2 suppression, 3 crop, 4 outputs done or stopped, 5 result record), the next
row, class pass or box, and the fields of its result record. -/
structure SJob where
  id : Nat := 0
  rq : Rq := {}
  ref : Nat := 0
  desc : Nat := 0
  raw : List Byte := []
  lines : SMap (List Byte × Nat) := []
  phase : Nat := 0
  pos : Nat := 0
  decoded : Nat := 0
  kept : Nat := 0
  candMax : Nat := 0
  flags : Nat := 0
  fault : Option Nat := none
  faultAddr : Nat := 0
  resultOk : Bool := false
  start : Nat := 0
  endAt : Option Nat := none
  deriving DecidableEq, Repr

/-- A sifter: queued jobs, jobs in progress in round-robin order, the job whose segment is under way, its counters
(Table 7.10), and a stored error of the candidate store (1 correctable, 2 uncorrectable). -/
structure Sif where
  queue : List SJob := []
  jobs : List SJob := []
  cur : Option Nat := none
  nextId : Nat := 0
  done : Nat := 0
  faulted : Nat := 0
  corrected : Nat := 0
  uncorrected : Nat := 0
  err : Nat := 0
  deriving DecidableEq, Repr

/-! ### Contexts (chapter 2) -/

/-- A free list of numbers: those returned to its head, the numbers never yet taken, and those returned to its
tail (R64, R226). -/
structure FreeList where
  front : List Nat := []
  next : Nat := 0
  stop : Nat := 0
  back : List Nat := []
  deriving DecidableEq, Repr

/-- A context release in progress (R65, R585). -/
structure Release where
  part : Nat := 0
  ctx : Nat := 0
  rq : Option Rq := none
  tiles : List Nat := []
  agent : Bool := true
  total : Nat := 0
  abandoned : Bool := false
  deriving DecidableEq, Repr

/-- The context pool of one partition: its limit, its free list, and the states of its contexts
(0 FREE, 1 LIVE, 2 DRAINING), R63. -/
structure CtxPart where
  limit : Nat := 0
  free : FreeList := {}
  st : SMap Nat := []
  deriving DecidableEq, Repr

/-- The context pool (unit 0x303). -/
structure CtxPool where
  parts : List CtxPart := List.replicate 16 {}
  releases : List Release := []
  deriving DecidableEq, Repr

/-! ### The scheduler (chapter 8) -/

/-- An activation record (Table 8.1) with its dependence counter and ready time. `state`: Table 8.2. `tile` and `dvt` are the unit and
the virtual tile it was dispatched to; `offered` marks a record offered to a sifter or forwarded to a stand (R243, R247). `err` and
`depErr` are stored errors of the record and of its counter; `gone` marks a record withdrawn until the next chip reset (R257). -/
structure Rec where
  gen : Nat := 0
  state : Nat := 0
  part : Nat := 0
  cls : Nat := 0
  prio : Nat := 0
  tmode : Nat := 0
  vtile : Nat := 0
  ctxMode : Nat := 0
  ctx : Nat := 0
  iter : Nat := 0
  trail : Option Nat := none
  seq : Nat := 0
  notify0 : Nat := 0xFFFFFFFF
  notify1 : Nat := 0xFFFFFFFF
  host : Bool := false
  ringset : Nat := 0
  sendHandle : Bool := false
  failedPred : Bool := false
  startNode : Nat := 0
  arg : W64 := 0
  dep : Nat := 0
  readyAt : Nat := 0
  floor : Nat := 0
  dispatch : Nat := 0
  propagate : Bool := false
  siftStand : Nat := 4
  poolFirst : Nat := 0
  poolCount : Nat := 0
  tile : Nat := 0
  dvt : Nat := 0
  slotted : Bool := false
  failed : Bool := false
  status : Nat := 0
  kind : Option Nat := none
  offered : Bool := false
  effects : Nat := 0
  released : Bool := false
  err : Nat := 0
  depErr : Nat := 0
  gone : Bool := false
  deriving DecidableEq, Repr

/-- SCH.CLASS[c] (Table 8.5). -/
structure WClass where
  valid : Bool := false
  part : Nat := 0
  floor : Nat := 0
  dispatch : Nat := 0
  propagate : Bool := false
  siftStand : Nat := 4
  trail : Nat := 0
  trailValid : Bool := false
  poolCount : Nat := 0
  poolFirst : Nat := 0
  maxInflight : Nat := 0
  deriving DecidableEq, Repr

/-- A ready store: the records that hold an entry, the deferred chain of each level (R237), records forwarded to its stand, stored
errors of the entries by the record that each holds (1 correctable, 2 uncorrectable), and the entries withdrawn (R257). -/
structure RStore where
  ents : List Nat := []
  chains : List (List Nat) := List.replicate 8 []
  forwarded : List (Nat × Nat) := []
  errs : SMap Nat := []
  lost : Nat := 0
  pushes : Nat := 0
  pulls : Nat := 0
  lastPush : Option Nat := none
  deriving DecidableEq, Repr

/-- A TAKE waiting at a stand scheduler (R245), oldest first; `chosen` once a record has been chosen for it. -/
structure TakeWait where
  stand : Nat := 0
  rq : Rq := {}
  cls : Nat := 0
  vt : Nat := 0
  deriving DecidableEq, Repr

/-- An admission that waits for its sequence number (step 8 of Table 8.4). -/
structure AdmitWait where
  rq : Rq := {}
  req : AdmitReq := {}
  idx : Nat := 0
  record : Rec := {}
  fresh : Bool := false
  deriving DecidableEq, Repr

/-- The clearing and stand schedulers and the dependence table. `tags` is the duplicated copy of each record's PARTITION, GENERATION
and STATE (R224). `stores` are the four stands' and then the clearing's. `entering` are READY records not yet in a store; `admitQ` are
requests accepted behind an admission that waits (R229, R330); `retireQ` are released trail items whose effects wait for an earlier
item's (R273); `ctxDue` are the context releases that wait for the gate's tokens, by handle, partition and context; `failQ` are
retirements as failed that the stalling trace holds, by handle and fault kind (R286). -/
structure Sch where
  recs : SMap Rec := []
  tags : SMap (Nat × Nat × Nat) := []
  free : FreeList := { stop := 65536 }
  classes : List WClass := List.replicate 64 {}
  quotas : List Nat := List.replicate 16 0
  stores : List RStore := List.replicate 5 {}
  entering : List Nat := []
  takes : List TakeWait := []
  admitting : Option AdmitWait := none
  admitQ : List (Rq × AdmitReq) := []
  retireQ : List Nat := []
  ctxDue : List (Nat × Nat × Nat) := []
  failQ : List (Nat × Nat) := []
  admitted : Nat := 0
  retired : Nat := 0
  noSpace : Nat := 0
  rights : Nat := 0
  clamped : Nat := 0
  field : Nat := 0
  deriving DecidableEq, Repr

/-! ### Trails and the trace hub (chapter 9) -/

/-- A token held by the gate, with the requester that sent it and a stored error (1 correctable, 2 uncorrectable). -/
structure GateTok where
  tok : Token := {}
  src : Nat := 0
  err : Nat := 0
  deriving DecidableEq, Repr

/-- An outstanding item of a trail (R261 to R271): sequence number, handle, policy (skip) and reservation bound at its
admission, tagged tokens sent so far, those stored, the completion's status once received, whether R269 marked it
failed, and whether it is a released hole (R265). -/
structure Item where
  seq : Nat := 0
  handle : Nat := 0
  skip : Bool := false
  outPer : Nat := 0
  sent : Nat := 0
  toks : List GateTok := []
  done : Option Nat := none
  bad : Bool := false
  hole : Bool := false
  deriving DecidableEq, Repr

/-- TRL.TRAIL_CFG[t] and TRL.TRAIL_STATE[t] (Tables 9.1 and 9.8) with the outstanding items, head first. -/
structure Trail where
  valid : Bool := false
  part : Nat := 0
  skip : Bool := false
  trace : Bool := false
  outPer : Nat := 0
  held : Bool := false
  nextSeq : Nat := 0
  relSeq : Nat := 0
  items : List Item := []
  deriving DecidableEq, Repr

/-- A spoor destination (Tables 9.6 and 9.7), with its indices, the records it queues, the records lost since the last
one written, a re-read of CI in progress and the time of the last, whether ENABLE waits for the first read of CI, and
since when it stalls. -/
structure SpoorDest where
  base : Nat := 0
  stallLimit : Nat := 0x0400
  n : Nat := 7
  port : Nat := 0
  stalling : Bool := false
  enable : Bool := false
  evMask : Nat := 0
  partMask : Nat := 0
  clsLo : Nat := 0
  clsHi : Nat := 0x3F
  trailOnly : Bool := false
  lost : Nat := 0
  pi : Nat := 0
  ci : Nat := 0
  queue : List SpoorRec := []
  gap : Nat := 0
  gapDue : Bool := false
  reading : Bool := false
  lastRead : Option Nat := none
  starting : Bool := false
  stallSince : Option Nat := none
  deriving DecidableEq, Repr

/-- The release gate (unit 0x305) and the trace hub (unit 0x306): trails, store shares, TRL.STAT, emitted token packets
that await acknowledgement with the record of their item, and the destinations. -/
structure Trl where
  trails : SMap Trail := []
  quotas : List Nat := List.replicate 16 0
  released : Nat := 0
  holes : Nat := 0
  full : Nat := 0
  acks : List (Packet × Nat) := []
  ackTimer : Option Nat := none
  dests : List SpoorDest := List.replicate 17 {}
  deriving DecidableEq, Repr

/-! ### Overspill: the tile's side (chapter 10) -/

/-- A tile's spill filter, refire list and fetch buffer (R298, R304, R307), with the stalls that its monitor
counts (R293): since when the matcher has waited for a store entry or held a fired instance. -/
structure Spl where
  filter : NSet := []
  parityErr : Bool := false
  spilled : Nat := 0
  refire : List Nat := []
  fetchBuf : List Token := []
  moreQ : List (Nat × Bool) := []
  misses : Nat := 0
  storeSince : Option Nat := none
  fireSince : Option Nat := none
  ordered : Bool := false
  unfiring : Bool := false
  refused : Bool := false
  holdOff : Option Nat := none
  noVictim : Bool := false
  tested : Bool := false
  fullRaised : Bool := false
  deriving DecidableEq, Repr

/-! ### Outstanding requests and replay caches (R338 to R343) -/

/-- What a requester does with the answer of a request. -/
inductive Use where
  | load (rd width : Nat) (sext vec : Bool)
  | store
  | aadd (rd width : Nat)
  | result (rd : Nat)
  | spawn (rd : Nat) (isTry : Bool)
  | take (rd : Nat)
  | takeCancel (takeTag : Nat)
  | complete (handle : Nat)
  | fill (vt : Nat)
  | trailSend (tok : Token)
  | dmaRead (job line : Nat)
  | dmaWrite (job line : Nat)
  | spill (ents : List Nat) (unfire : Bool)
  | fetch (key : Nat) (refire : Bool)
  | notice (part ctx : Nat)
  | desc (rs slot : Nat)
  | retire (idx : Nat)
  | gateDone (idx : Nat)
  | admitSeq (idx : Nat)
  | copyRead (rs slot line : Nat)
  | copyWrite (rs slot line : Nat)
  | codeRead (rs slot line : Nat)
  | siftRec (idx : Nat)
  | siftRead (job line : Nat)
  | siftWrite (job addr : Nat)
  | siftDone (job : Nat)
  | gateSend (trail : Nat)
  | other
  deriving DecidableEq, Repr

/-- An outstanding request of a requester: unit, sub-requester, partition, target, tag and contents, with its
end-to-end timer (R340) and its BUSY_RETRY repeat (R94, R343). `pc`, `serial`, `itag`, binding `slot` and `trapBank` say which
instruction of which node issued it (R587, Table 16.2). `avoid` is a tag that it does not take again (R48). -/
structure OutReq where
  unit : Nat := 0
  sub : Nat := 0
  part : Nat := 0
  target : Nat := 0
  tag : Nat := 0
  body : Body := .placeInvAck
  use : Use := .other
  waited : Bool := false
  repeats : Nat := 0
  timer : Option Nat := none
  busyAt : Option Nat := none
  busyN : Nat := 0
  againAt : Option Nat := none
  pc : Nat := 0
  serial : Nat := 0
  itag : W64 := 0
  slot : Nat := 0
  trapBank : Bool := false
  avoid : Option Nat := none
  deriving DecidableEq, Repr

/-- A memory request that waits for a placement fill: the virtual tile, and the request with slot and generation
still to be filled in. -/
structure MemWait where
  vt : Nat := 0
  req : OutReq := {}
  deriving DecidableEq, Repr

/-- A replay-cache entry (R339): target unit, requester, partition, tag, and the answer once DONE. `lost` marks
an entry that an uncorrectable error invalidated, `err` a stored correctable error (R341). -/
structure Replay where
  target : Nat := 0
  src : Nat := 0
  part : Nat := 0
  tag : Nat := 0
  done : Option Resp := none
  lost : Bool := false
  err : Nat := 0
  deriving DecidableEq, Repr

/-- A requester whose cached requests wait for purge acknowledgements (R342): the targets still to answer. -/
structure Purge where
  src : Nat := 0
  part : Nat := 0
  await : List Nat := []
  deriving DecidableEq, Repr

/-- A tag counter of a requester for a replay-cache target (R338). -/
structure TagCtr where
  src : Nat := 0
  part : Nat := 0
  target : Nat := 0
  next : Nat := 0
  deriving DecidableEq, Repr

/-! ### Routers, links and probes (chapter 11) -/

/-- One direction of a link (R336): the sender's next number, the unacknowledged flits, the receiver's expected
number, the consecutive failures of one flit, and whether the receiver waits for the resend. -/
structure LinkDir where
  next : Nat := 0
  replay : List (Nat × Flit) := []
  expect : Nat := 0
  fails : Nat := 0
  naked : Bool := false
  resend : List (Nat × Flit) := []
  deriving DecidableEq, Repr

/-- The link at a router port: both directions, its counters and state (Table 11.18). -/
structure Link where
  rx : LinkDir := {}
  tx : LinkDir := {}
  down : Bool := false
  replays : Nat := 0
  crcErrors : Nat := 0
  dups : Nat := 0
  flits : Nat := 0
  deriving DecidableEq, Repr

/-- The sender of a unit towards its router (R327, R336): the next FSEQ, the flits not yet acknowledged, those to resend after a
NAK, the flits that wait for a credit or for room in the replay buffer, and per class the slots of the router's input for which it
holds no credit. -/
structure UpSend where
  next : Nat := 0
  replay : List (Nat × Flit) := []
  resend : List (Nat × Flit) := []
  waiting : List Flit := []
  used : List Nat := [0, 0, 0, 0]
  deriving DecidableEq, Repr

/-- A class buffer of an input (Table 11.12): its flits, the slots for which the sender holds no credit, the freed
slots whose credit has not returned, the outputs that a broadcast at the head has been copied to, and a stored error
of the head flit (0 none, 1 correctable, 3 header, 4 copies of CLASS or PARTITION, 8 + w payload word w), R344. Of a 4-flit packet
whose first flits have left: how many are still to leave, the header of the last that left, and whether the rest is dropped. -/
structure Buf where
  flits : List Flit := []
  used : Nat := 0
  owed : List Nat := []
  sentTo : List Nat := []
  err : Nat := 0
  left : Nat := 0
  prev : Nat := 0
  drop : Bool := false
  deriving DecidableEq, Repr

/-- An output port's arbitration state: class last served, input last served in each class, and the input that
holds a class for a 4-flit packet (R332). -/
structure OutPort where
  lastCls : Nat := 3
  lastIn : List Nat := [0, 0, 0, 0]
  hold : List (Option Nat) := [none, none, none, none]
  deriving DecidableEq, Repr

/-- Probe k (Table 11.17). -/
structure Probe where
  enable : Bool := false
  capture : Nat := 0
  dir : Nat := 0
  port : Nat := 0
  router : Nat := 0x300
  classMask : Nat := 0xF
  partMask : Nat := 0xFFFF
  opValue : Nat := 0
  opMask : Nat := 0
  srcValue : Nat := 0
  srcMask : Nat := 0
  destValue : Nat := 0
  destMask : Nat := 0
  count : Nat := 0
  deriving DecidableEq, Repr

/-- A capture record (Table 11.15). -/
structure CapRec where
  time : Nat := 0
  header : Nat := 0
  payload0 : Nat := 0
  info : Nat := 0
  deriving DecidableEq, Repr

/-- The NOC block (Tables 11.16 to 11.18) and the state of routers, links and buffers. `links` and `outs` are
keyed by 64 × router + port, `bufs` by 4 × that key + class. -/
structure Noc where
  discarded : Nat := 0
  dupRsp : Nat := 0
  repeats : Nat := 3
  timeout : Nat := 0x40
  bufCorrected : Nat := 0
  bufUncorrected : Nat := 0
  dropped : Nat := 0
  e2eTimeouts : Nat := 0
  capEnable : Bool := false
  capMode : Bool := false
  trigEn : Bool := false
  trigProbe : Nat := 0
  post : Nat := 0
  capStopped : Bool := false
  capTriggered : Bool := false
  capWrapped : Bool := false
  capPtr : Nat := 0
  capLost : Nat := 0
  capLeft : Nat := 0
  capNow : Nat := 0
  capCount : Nat := 0
  capMem : SMap CapRec := []
  probes : List Probe := List.replicate 16 {}
  links : SMap Link := []
  bufs : SMap Buf := []
  outs : SMap OutPort := []
  deriving DecidableEq, Repr

/-! ### The lock unit (chapter 12) -/

/-- LCK.GROUP[g] (Table 12.1): MODE (semaphore), ORPHAN (handover-flagged), NODE, HOST, WATCH. -/
structure LockGroup where
  valid : Bool := false
  part : Nat := 0
  mode : Bool := false
  orphan : Bool := false
  node : Bool := false
  host : Bool := false
  watch : Bool := false
  deriving DecidableEq, Repr

/-- LCK.CELL[n] (Table 12.6). `state`: 0 FREE, 1 HELD, 2 ORPHANED. An ORPHANED cell keeps the policy of its group from when it was
orphaned: handover-flagged, or hold (R352). `err` is a stored error. -/
structure LockCell where
  state : Nat := 0
  slot : Nat := 0
  owner : Nat := 0
  count : Nat := 0
  init : Nat := 0
  handover : Bool := false
  err : Nat := 0
  deriving DecidableEq, Repr

/-- An entry of the waiter pool, in arrival order: a waiter with its request, or a watch (R359, R362). -/
structure LockWait where
  cell : Nat := 0
  rq : Rq := {}
  slot : Nat := 0
  units : Nat := 0
  watch : Bool := false
  deadline : Option Nat := none
  err : Nat := 0
  deriving DecidableEq, Repr

/-- The lock unit (unit 0x304) with LCK.STAT, LCK.ERR, the pool's high-water mark, the waiter shares, and the notifications held
during a slice: requester and partition (R367). -/
structure Lck where
  groups : List LockGroup := List.replicate 64 {}
  cells : SMap LockCell := []
  waits : List LockWait := []
  notes : List (Nat × Nat) := []
  quotas : List Nat := List.replicate 16 0
  ops : Nat := 0
  grants : Nat := 0
  hwm : Nat := 0
  corrected : Nat := 0
  uncorrected : Nat := 0
  deriving DecidableEq, Repr

/-! ### Ring sets (chapter 14) -/

/-- A descriptor that a bridge holds: its number in the ring, its 64 bytes, its phase (0 fetched, 1 checked and to be
evaluated, 2 with its unit, 3 held for space), when it is tried again with the repeats made, and of a copy or load the
lines asked for, done, and left in the block under way. -/
structure RDesc where
  k : Nat := 0
  raw : List Byte := []
  phase : Nat := 0
  again : Nat := 0
  busyN : Nat := 0
  next : Nat := 0
  done : Nat := 0
  left : Nat := 0
  deriving DecidableEq, Repr

/-- A write of a doorbell page that a slice of its bridge holds (R432): function, page, offset, size and value. -/
structure BarWrite where
  fn : Nat := 0
  page : Nat := 0
  off : Nat := 0
  size : Nat := 4
  value : Nat := 0
  deriving DecidableEq, Repr

/-- A device ring set (Tables 14.1, 14.7, 14.8): whether a partition holds it, port, function, partition and local number;
the page's registers; the descriptor under evaluation, whether one is being fetched, the long descriptors outstanding, the
64 most recent evaluations (SEQ and status), the retirement entries owed (handle and SEQ), the entries written since the
last signal with the deadline of the moderation time, the entry writes not yet issued, and a stored error of the
descriptor buffer. `state`: 0 DISABLED, 1 ACTIVE, 2 DRAINING, 3 ERROR. -/
structure RingSet where
  alloc : Bool := false
  port : Nat := 0
  fn : Nat := 0
  part : Nat := 0
  loc : Nat := 0
  sqPi : Nat := 0
  cqCi : Nat := 0
  sqCi : Nat := 0
  cqPi : Nat := 0
  sqBase : Nat := 0
  cqBase : Nat := 0
  pasid : Bool := false
  vector : Nat := 1
  cqLog2 : Nat := 4
  sqLog2 : Nat := 4
  modTime : Nat := 0
  modCount : Nat := 1
  seqBase : Nat := 0
  state : Nat := 0
  err : Nat := 0
  owed : Nat := 0
  refused : Bool := false
  nextSeq : Nat := 0
  dups : Nat := 0
  dbStale : Nat := 0
  dbInvalid : Nat := 0
  cur : Option RDesc := none
  fetching : Bool := false
  longs : List RDesc := []
  recent : List (Nat × Nat) := []
  retire : List (Nat × Nat) := []
  pendN : Nat := 0
  deadline : Option Nat := none
  writing : Nat := 0
  bufErr : Nat := 0
  deriving DecidableEq, Repr

/-! ### Host functions and ports (chapter 13) -/

/-- A host function (keyed by 32 × port + function; 0 is the PF, 1 to 16 the VFs): Bus Master Enable, its partition with
the PASID (Table 13.8), ATS and PASID enables, MSI-X enable and function mask, vector count and first pool vector, the
unmasked vectors and the pending ones (R392, R393). -/
structure Fn where
  bme : Bool := false
  part : Option Nat := none
  pasid : Nat := 0
  atsEn : Bool := false
  pasidEn : Bool := false
  msixEn : Bool := false
  fnMask : Bool := false
  vecs : Nat := 0
  vecBase : Nat := 0
  open_ : NSet := []
  pend : NSet := []
  deriving DecidableEq, Repr

/-- How a host access travels (R388): a PCIe or CXL.io memory request, or a CXL.cache request. -/
inductive HostOp where
  | memory
  | rdCurr
  | itoMWr
  | wrCur
  deriving DecidableEq, Repr

/-- What the block sends to the outside, oldest first in `State.sent`: MSI-X messages, management answers, host reads and
writes with their number, translation requests, invalidation completions, configuration and VDM answers, snoop
responses, the values of register reads, measurement blocks, and the status of a register write of the firmware (R15). -/
inductive OutMsg where
  | msix (port fn vec : Nat)
  | mctp (dest : Nat) (words : List Nat)
  | cfg (port fn status : Nat)
  | cfgData (port fn half : Nat) (data : List Nat)
  | hostRead (port id fn : Nat) (pasid : Option Nat) (addr len : Nat) (translated : Bool) (op : HostOp)
  | hostWrite (port id fn : Nat) (pasid : Option Nat) (addr : Nat) (data : List Byte) (poison : Nat)
      (translated : Bool) (op : HostOp) (relaxed : Bool)
  | atsRequest (port id fn pasid iova : Nat)
  | invalDone (port fn itag : Nat)
  | unsupported (port fn : Nat)
  | snoopRsp (port addr : Nat)
  | readData (port fn value : Nat)
  | spdm (index : Nat) (words : List Nat)
  | ideKm (port stream : Nat) (ok : Bool)
  | fwStatus (ok : Bool)
  | proposal (part : Nat) (remove : Bool) (entries : List (List Nat))
  deriving DecidableEq, Repr

/-- What a host access serves: a memory request of a tile or sifter, a descriptor fetch, a completion entry,
a spoor record or the re-read of its CI, and an overspill entry. -/
inductive HUse where
  | mem (rq : Rq) (kind : Nat)
  | desc (rs : Nat)
  | entry (rs : Nat) (irq : Bool)
  | spoor (d : Nat)
  | spoorCi (d : Nat)
  | ovf (b part : Nat) (blk : Nat)
  deriving DecidableEq, Repr

/-- A host access (R387 to R390). `phase`: 0 waits for a translation, 1 waits for a tag (reads, Table 13.1), 2 issued.
`addr` is the address once translated. -/
structure HostAcc where
  id : Nat := 0
  fn : Nat := 0
  part : Nat := 0
  pasid : Option Nat := none
  iova : Nat := 0
  len : Nat := 0
  wr : Bool := false
  data : List Byte := []
  poison : Nat := 0
  relaxed : Bool := false
  use : HUse := .desc 0
  phase : Nat := 0
  translated : Bool := false
  addr : Nat := 0
  ents : List Nat := []
  deadline : Nat := 0
  deriving DecidableEq, Repr

/-- A translation-cache entry (R389): function, PASID, first address and size of the page, its translation, the grants,
a number that names it, and a stored error. -/
structure Atc where
  id : Nat := 0
  fn : Nat := 0
  pasid : Nat := 0
  page : Nat := 0
  size : Nat := 4096
  addr : Nat := 0
  rd : Bool := true
  wr : Bool := true
  err : Nat := 0
  deriving DecidableEq, Repr

/-- An ATS invalidation whose completion waits for accesses that use the removed entries (R389). -/
structure InvWait where
  fn : Nat := 0
  itag : Nat := 0
  accs : List Nat := []
  deriving DecidableEq, Repr

/-- HIF.LINK[h] (Table 13.6), with the rate and width of the last training. -/
structure HLink where
  up : Bool := false
  cxl : Bool := false
  flit : Bool := false
  speed : Nat := 0
  width : Nat := 0
  reversed : Bool := false
  downEvents : Nat := 0
  linkErrors : Nat := 0
  lastSpeed : Nat := 0
  lastWidth : Nat := 0
  deriving DecidableEq, Repr

/-- A host port and its bridge (Tables 13.6, 13.7, 13.9): VF Enable, the translation cache, the host accesses, the host
bases keyed by 8 × (64 × requester + partition) + XFER, and the IDE streams: half 0's link stream, four selective
streams, half 1's link stream (0 not configured, 1 secure, 2 insecure). `cplTimeout` is in microseconds. `copies` are
the copies of the copy engine, by ring set and descriptor, in rotation, with the lines left in the block under way (R419). -/
structure Hif where
  links : List HLink := [{}, {}]
  bifurcated : Bool := false
  monWrites : Nat := 0
  vfEnable : Bool := false
  atc : List Atc := []
  nextAtc : Nat := 0
  hits : Nat := 0
  misses : Nat := 0
  invals : Nat := 0
  cplErrors : Nat := 0
  xlateFaults : Nat := 0
  ideFailures : Nat := 0
  discardedCpl : Nat := 0
  accs : List HostAcc := []
  nextId : Nat := 0
  invWait : List InvWait := []
  bases : SMap Nat := []
  streams : List Nat := [0, 0, 0, 0, 0, 0]
  copies : List (Nat × Nat) := []
  copyLeft : Nat := 0
  latched : List BarWrite := []
  cplTimeout : Nat := 50000
  deriving DecidableEq, Repr


/-! ### Overspill: the agents and monitors (chapter 10) -/

/-- A request that an agent holds: a SPILL with each token's binding generation, a FETCH, or a release notice. -/
inductive OvfReq where
  | spill (rq : Rq) (toks : List (Token × Nat))
  | fetch (rq : Rq) (key : Nat)
  | notice (rq : Rq) (ctx : Nat)
  | sweep (bucket : Nat)
  deriving DecidableEq, Repr

/-- A region during one operation: the lines read or changed (value and word poison) keyed by region offset, those
changed, the counts, the bump index and free list of pool buckets, the slots reclaimed as virtual tile and generation,
and the tokens placed or removed. -/
structure OvfWork where
  lines : SMap (Option (Nat × Nat)) := []
  dirty : NSet := []
  live : Nat := 0
  stale : Nat := 0
  bump : Nat := 0
  free : List Nat := []
  reclaimed : List (Nat × Nat) := []
  placed : Nat := 0
  deriving DecidableEq, Repr

/-- A partition's overspill region and its agent's work (Tables 10.6, 10.7). `state`: 0 DISABLED, 1 ENABLED,
2 EXHAUSTED, 3 FAILED. `limit` is the partition table's SIZE limit as n. `owed` are the contexts whose stale slots are
not all reclaimed. `reading` is the line awaited, `writes` the line writes not yet complete, `result` what follows
them, `held` marks a head that waits for the sweep, and `absent` that
OVERSPILL_REGION_ABSENT has been raised since the region became DISABLED. -/
structure Region where
  state : Nat := 0
  n : Nat := 0
  base : Nat := 0
  limit : Nat := 0
  live : Nat := 0
  stale : Nat := 0
  bump : Nat := 0
  free : List Nat := []
  sweepAt : Nat := 0
  owed : NSet := []
  queue : List OvfReq := []
  busy : Option OvfReq := none
  work : OvfWork := {}
  reading : Option Nat := none
  writes : Nat := 0
  result : Option Resp := none
  held : Bool := false
  absent : Bool := false
  deriving DecidableEq, Repr

/-- A stand's monitor (Table 10.8). -/
structure Monitor where
  storeThresh : Nat := 0x0040
  fireThresh : Nat := 0x1000
  batchM1 : Nat := 0x0F
  refireMark : Nat := 0x200
  retry : Nat := 0x0100
  episodes : Nat := 0
  unfires : Nat := 0
  refused : Nat := 0
  deriving DecidableEq, Repr

/-- SPR.AGENT_STAT[b] and SPR.AGENT_MISS[b]. -/
structure AgentStat where
  spilled : Nat := 0
  fetched : Nat := 0
  misses : Nat := 0
  reclaimed : Nat := 0
  deriving DecidableEq, Repr

/-- The SPR block. -/
structure Spr where
  regions : List Region := List.replicate 16 {}
  monitors : List Monitor := List.replicate 4 {}
  agents : List AgentStat := [{}, {}]
  deriving DecidableEq, Repr

/-! ### Partition tables and custody (chapter 15) -/

/-- A placement of a virtual tile: physical unit, binding slot, generation, and whether R456 suspends it. -/
structure Place where
  unit : Nat := 0
  slot : Nat := 0
  gen : Nat := 0
  suspended : Bool := false
  deriving DecidableEq, Repr

/-- A partition (Table 15.10): its state (0 NONE, 1 ARMED, 2 DISARMED), the committed record of Table 15.1 and binding
list of Table 15.2 as bytes, the stored digest and the custody epoch of the last commit. -/
structure PartState where
  state : Nat := 0
  record : List Byte := []
  binds : List Byte := []
  digest : Nat := 0
  epoch : Nat := 0
  deriving DecidableEq, Repr

/-- A stage (R444 to R449): its contents, what the digest covers, when it was opened, the signatures verified (fabric
manager, platform controller, and of a ROTATE the new key's), and its phase (0 signing, 1 quiescing, 2 applying) with its
place in the order of last signatures, the start of its wait or broadcast, and the tiles it holds (R451). -/
structure Stage where
  id : Nat := 0
  kind : Nat := 0
  part : Nat := 0
  record : List Byte := []
  binds : List Byte := []
  base : Nat := 0
  digest : Nat := 0
  epoch : Nat := 0
  openedAt : Nat := 0
  fmOk : Bool := false
  pcOk : Bool := false
  newOk : Bool := false
  order : Option Nat := none
  phase : Nat := 0
  since : Nat := 0
  held : List Nat := []
  deriving DecidableEq, Repr

/-- An ENROLL that waits for the other party's (R441): the role (0 fabric manager, 1 platform controller), its key, the
hash it expects of the other, and when it came. -/
structure Enroll where
  role : Nat := 0
  key : List Byte := []
  expects : Nat := 0
  at_ : Nat := 0
  deriving DecidableEq, Repr

/-- The commit engine and the custody area (R440): custody state (0 UNPROVISIONED, 1 PROVISIONED, 2 REPLACE_PENDING), both
keys, the epoch, a pending replacement (role, key and end of the wait) with the digest of its stage, an ENROLL waiting, the stages, PRT.LAST, the
partitions, the generation counters by 1,024 × partition + virtual tile (R439), the direct writes since chip reset, the
invalidations not yet acknowledged (tile, and the stage that waits), and a stored error of the tables (1 correctable, 2 uncorrectable, 3 uncorrectable and
reported). -/
structure Prt where
  custody : Nat := 0
  fmk : List Byte := []
  pck : List Byte := []
  epoch : Nat := 0
  replace : Option (Nat × List Byte × Nat) := none
  replaceDigest : Nat := 0
  enroll : Option Enroll := none
  stages : List Stage := []
  nextStage : Nat := 0
  orders : Nat := 0
  lastId : Nat := 0
  lastStatus : Nat := 0
  lastReason : Nat := 0
  commits : Nat := 0
  parts : List PartState := List.replicate 16 {}
  gens : SMap Nat := []
  directWrites : Nat := 0
  debugUsed : Bool := false
  acks : List (Nat × Option Nat) := []
  err : Nat := 0
  deriving DecidableEq, Repr

/-! ### The fault collector (chapter 16) -/

/-- FLT.KIND[k] (Table 16.4). -/
structure KindEntry where
  count : Nat := 0
  notifyPc : Bool := false
  notify : Bool := false
  log : Bool := true
  cls : Nat := 0
  deriving DecidableEq, Repr

/-- FLT.PART_STATUS[p] (Table 16.8). -/
structure PartStatus where
  produced : Nat := 0
  contain : Nat := 0
  quarantine : Nat := 0
  deriving DecidableEq, Repr

/-- A function's vector-0 notices (R481): when the last message was sent, and whether one is deferred. -/
structure Notice where
  last : Option Nat := none
  deferred : Bool := false
  deriving DecidableEq, Repr

/-- The collector's registers (Table 16.8) and working state. `kinds` lists the entries that differ from their
reset value. `notices` is keyed by 32 × port + function. `stateErr` is an error in the duplicated state: 0 none,
1 correctable, 2 uncorrectable or a disagreement, 3 also in the queue indices. -/
structure Flt where
  inbox : List FaultMsg := []
  classes : Nat := 0
  bypass : Bool := false
  lostBit : Bool := false
  summary : List Nat := List.replicate 16 0
  exitResult : Nat := 0
  produced : Nat := 0
  acked : Nat := 0
  lost : Nat := 0
  gap : Bool := false
  faultLevel : Nat := 3
  kinds : SMap (Option KindEntry) := []
  parts : List PartStatus := List.replicate 16 {}
  qrec : SMap FaultMsg := []
  pwin : SMap FaultMsg := []
  notices : SMap Notice := []
  alert : Bool := false
  nocLink : Bool := false
  unitTest : Bool := false
  fltState : Bool := false
  stateErr : Nat := 0
  seenSince : List Nat := []
  returning : Option Nat := none
  reenter : Bool := false
  followUps : List Nat := []
  deriving DecidableEq, Repr

/-- CKR.CHECKER (Table 16.7a), with whether a self-test has passed since the pair's last reset (R489). -/
structure Checker where
  halted : Bool := false
  lost : Bool := false
  mismatch : Bool := false
  position : Nat := 0
  tests : Nat := 0
  passed : Bool := true
  deriving DecidableEq, Repr

/-- An in-field slice in progress (R525): the unit, whether it is a scrub, and when it ends. -/
structure Slice where
  unit : Nat := 0
  scrub : Bool := false
  start : Nat := 0
  endAt : Nat := 0
  deriving DecidableEq, Repr

/-! ### The lifetime ledger (chapter 18) -/

/-- A ring of the array (LDG.RING[r]): next line to be written in each copy, SEQ of its last record, its laps, and whether
its wear has been reported. -/
structure LRing where
  next : Nat := 0
  nextB : Nat := 0
  seq : Nat := 0
  laps : Nat := 0
  worn : Bool := false
  deriving DecidableEq, Repr

/-- A tile's entry (Table 18.4). -/
structure TileLife where
  state : Nat := 0
  corrected : Nat := 0
  active : Nat := 0
  deriving DecidableEq, Repr

/-- The lifetime counters (Table 18.3). `tjMax` is in units of 0.25 °C. -/
structure LCount where
  boots : Nat := 0
  safeEntries : Nat := 0
  poweredS : Nat := 0
  operationalS : Nat := 0
  safeS : Nat := 0
  refs : Nat := 0
  tjMax : Int := 0
  thermalS : List Nat := List.replicate 8 0
  throttleS : Nat := 0
  powerS : Nat := 0
  eventSeq : Nat := 0
  suppressed : Nat := 0
  chain : Nat := 0
  tiles : SMap TileLife := []
  kinds : SMap Nat := []
  deriving DecidableEq, Repr

/-- A record of the ledger whose write has not completed: ring (1 key to 5 event), line type, payload, the parties that wait
for it (0 fabric manager, 1 platform controller, 2 LDG.CTRL), its SEQ once it has started (R534), and the lines still to be
written as copy and bytes. -/
structure LWrite where
  ring : Nat := 5
  type : Nat := 0
  payload : List Byte := []
  waiters : List Nat := []
  seq : Option Nat := none
  left : List (Nat × List Byte) := []
  deriving DecidableEq, Repr

/-- The array by line (absent: 64 zero bytes) with stored errors (1 correctable, 2 uncorrectable) and the lines that no longer
take a write; none of it is cleared by a reset. -/
structure LArray where
  lines : SMap (List Byte) := []
  errs : SMap Nat := []
  stuck : NSet := []
  deriving DecidableEq, Repr

/-- The ledger controller (Table 18.7): the six rings, the live counters with the fraction of a second counted, the events
written in the interval, the kinds recorded since chip reset, the writes not yet completed, EPOCH_BOUND and preferred slot of
the settings record in force and the bound last queued, the latest anchor (UTC seconds and forest time), the read window, and whether bring-up has read
the array or found it out of service. -/
structure Ldg where
  rings : List LRing := List.replicate 6 {}
  cnt : LCount := {}
  sub : Nat := 0
  budget : Nat := 0
  seen : NSet := []
  queue : List LWrite := []
  bound : Nat := 0
  boundQ : Nat := 0
  ckptAt : Nat := 0
  slot : Nat := 0
  worn : Bool := false
  dead : Bool := false
  loaded : Bool := false
  ckptSeq : Nat := 0
  flush : Bool := false
  calendar : Option (Nat × Nat) := none
  readAddr : Nat := 0
  readValid : Bool := false
  readPoison : Bool := false
  readData : List Byte := []
  deriving DecidableEq, Repr

/-! ### The loader (chapter 5) -/

/-- An image handle of the loader (R171): the file, its state (0 OPENED, 1 PLACED, 2 LOADED, 3 STARTED, 4 UNLOADED), the imports
bound, the partition, the folding factor, the thickets used, and the load contexts. -/
structure Image where
  handle : Nat := 0
  file : List Byte := []
  state : Nat := 0
  binds : List (List Byte × Nat) := []
  part : Nat := 0
  fold : Nat := 1
  thickets : List Nat := []
  ctxs : List Nat := []
  deriving DecidableEq, Repr

/-- A result of the loader with its detail record: section, record, virtual tile, physical unit and completion status; none is
all ones (R169). -/
structure KRes where
  code : Nat := 0
  sect : Option Nat := none
  record : Option Nat := none
  vt : Option Nat := none
  unit : Option Nat := none
  status : Option Nat := none
  deriving DecidableEq, Repr

/-- A loader service that has not returned yet: the handle, its service (0 klb_load, 1 klb_start, 2 klb_unload), the ring set and
the partition, the binding entries it handed over, and what it waits for (0 the commit of its placement, 1 its descriptors, 2 a
removal after a failure, 3 the release of its contexts). `staged`: this call committed the bindings. `heard`: the status with which the
awaited proposal closed. Of its descriptors: how many have completed, the SEQ of one whose completion was lost, the BUSY_RETRY
reissues of the present one and the cycle before which it is not sent again (R174). `res`: what it returns once a removal is done. -/
structure KJob where
  handle : Nat := 0
  service : Nat := 0
  rs : Nat := 0
  part : Nat := 0
  want : List (List Nat) := []
  phase : Nat := 0
  ctxs : List Nat := []
  staged : Bool := false
  heard : Option Nat := none
  sent : Nat := 0
  seq : Nat := 0
  lost : Bool := false
  busyN : Nat := 0
  again : Nat := 0
  res : KRes := {}
  deriving DecidableEq, Repr

/-- The loader: its image handles, the services under way, and the result of the last service with its detail record (section, record, virtual
tile, physical unit, completion status; none: all ones) and what the service returns. -/
structure Klb where
  images : List Image := []
  jobs : List KJob := []
  next : Nat := 0
  result : Nat := 0
  detail : List (Option Nat) := []
  values : List Nat := []
  deriving DecidableEq, Repr

/-! ### Board: power, thermal, pins, management buses (chapter 19) -/

/-- The JTAG TAP (R570): its state (0 Test-Logic-Reset, 1 Run-Test/Idle, 2 to 8 Select-DR to Update-DR, 9 to 15 Select-IR to
Update-IR), the instruction in force, the shift registers, the boundary cells in force, and TDO while it is driven. -/
structure Tap where
  state : Nat := 0
  ir : Nat := 0
  irShift : Nat := 0
  dr : List Bool := []
  cells : List Bool := []
  tdo : Option Bool := none
  deriving DecidableEq, Repr

/-- The board-facing state: CKR.POWER, CKR.THERMAL and CKR.SENSE, the 1 ms steps without telemetry, the regulator set point in
mV, the rails out of range at the last check and those out at two, the regulator's fault, whether the thermal cause stands, an
uncorrectable supervisor SRAM word, THERM_N and VDDIO_1V8, the TAP, and the dynamic I3C address. -/
structure Brd where
  tjHot : Bool := false
  railsOut : NSet := []
  railsOnce : NSet := []
  vrFault : Bool := false
  supSramBad : Bool := false
  otherW : Nat := 40
  limitW : Nat := 350
  critC : Nat := 110
  thermC : Nat := 105
  throttleC : Nat := 100
  tj : Int := 0
  powerW : Nat := 0
  powerLvl : Nat := 0
  thermalLvl : Nat := 0
  brake : Bool := false
  noTelemetry : Nat := 0
  vcore : Nat := 750
  thermLow : Bool := false
  vddioOut : Bool := false
  tap : Tap := {}
  i3cDyn : Option Nat := none
  deriving DecidableEq, Repr

/-! ### Stops -/

/-- Why a step stops the machine. No meaning of this model raises one: every stop of the spec is an effect on
State (a fault message, a refusal status, a discarded item), so the type is closed with a single constructor that
a reader can find no use of. -/
inductive Fault where
  /-- An address outside every memory of the part. Nothing raises it: every command of the spec answers such an
  access with a record (R37, R326, R35). Safe. -/
  | noSuchAddress (addr : Nat)
  deriving DecidableEq, Repr

/-- Why a command has no meaning. -/
inductive Refusal where
  /-- Raised by an arm of `exec` whose meaning is not written. Safe: the machine stops. -/
  | notModelled (mnemonic : String)
  deriving DecidableEq, Repr

/-! ### The whole machine -/

/-- A physical tile (chapters 2 to 6, 10). `iqCredits` are the TOKEN-class credits that its thicket router holds, each for four
entries of the input queue (R73). -/
structure Tile where
  bindings : List Binding := List.replicate 4 {}
  vtFrame : List VtFrame := List.replicate 4 {}
  iq : List QTok := []
  iqCredits : Nat := 512
  scan : Option Scan := none
  endWaits : List EndWait := []
  store : SMap MEntry := []
  ovf : SMap MEntry := []
  fq : List FireEntry := []
  held : Option FireEntry := none
  hwmStore : Nat := 0
  hwmSticky : Nat := 0
  hwmOvf : Nat := 0
  hwmIq : Nat := 0
  hwmFq : Nat := 0
  fired : Nat := 0
  arrived : Nat := 0
  pcache : List (Option PlaceEntry) := List.replicate 64 none
  pptr : Nat := 0
  fills : List Fill := []
  pHits : Nat := 0
  pMisses : Nat := 0
  pInval : Nat := 0
  send : List SendEnt := []
  ackPend : List Packet := []
  ackTimer : Option Nat := none
  ackOwed : List AckOwed := []
  code : List CodeReg := List.replicate 4 {}
  stackReg : List StackReg := List.replicate 4 {}
  thread : Thread := {}
  memWait : List MemWait := []
  v : List VReg := List.replicate 32 {}
  event : Nat := 0
  istore : ByteMem := []
  istoreBad : NSet := []
  istoreErr : SMap Nat := []
  frame : ByteMem := []
  framePoison : NSet := []
  frameErr : SMap Nat := []
  stateErr : Bool := false
  excluded : Bool := false
  testing : Bool := false
  actSlot : List (Option ActSlot) := [none, none]
  spl : Spl := {}
  acc : List Nat := [0, 0, 0, 0]
  kern : Kernel := {}
  job : Option WJob := none
  xfers : List Xfer := []
  dmaNext : Nat := 0
  xcnt : List Nat := List.replicate 8 0
  lsDebug : Bool := false
  waitLimit : Nat := 0x004000
  kernels : Nat := 0
  exits : Nat := 0
  stallBank : Nat := 0
  stallExt : Nat := 0
  waitXq : Nat := 0
  waitWaitc : Nat := 0
  jobs : Nat := 0
  xfersDone : Nat := 0
  deriving DecidableEq, Repr

/-- The state of the part. -/
structure State where
  clr : Clr
  clk : Clocks
  flt : Flt
  chk : Checker
  noc : Noc
  ctx : CtxPool
  sch : Sch
  tiles : List Tile
  slices : List Slice
  place : SMap (Option Place)
  sliceMap : SMap (Option Nat)
  homes : List Nat
  traceExport : NSet
  net : List Packet
  ups : SMap UpSend
  outs : List OutReq
  sendWait : List OutReq
  rings : SMap RingSet
  fns : SMap Fn
  hif : List Hif
  brd : Brd
  fuses : Fuses
  ckr : Ckr
  flash : ByteMem
  array : LArray
  ldg : Ldg
  klb : Klb
  sts : List Sts
  sif : List Sif
  lck : Lck
  prt : Prt
  trl : Trl
  spr : Spr
  sent : List OutMsg
  replays : List Replay
  purges : List Purge
  tagCtrs : List TagCtr
  freeCtr : Nat
  pending : List Instr
  deriving DecidableEq, Repr

/-- The machine right after reset: every field at the value the spec states for reset, and at the value that the
assumption log names where it states none (R12, R502). -/
def State.reset : State := {
  clr := {}
  clk := {}
  flt := {}
  chk := {}
  noc := {}
  ctx := {}
  sch := {}
  tiles := List.replicate 272 {}
  slices := []
  place := []
  sliceMap := []
  homes := List.replicate 16 0
  traceExport := []
  net := []
  ups := []
  outs := []
  sendWait := []
  rings := []
  fns := []
  hif := [{}, {}]
  brd := {}
  fuses := {}
  ckr := {}
  flash := []
  array := {}
  ldg := {}
  klb := {}
  sts := List.replicate 4 {}
  sif := List.replicate 4 {}
  lck := {}
  prt := {}
  trl := {}
  spr := {}
  sent := []
  replays := []
  purges := []
  tagCtrs := []
  freeCtr := 0
  pending := [] }

end Sys2Proof.Machine
end

