-- ==== Sys2Proof/Machine/Ops.lean ====
section
/-! DEFINITION. The operations that every family uses: tiles, clocks and modes, raising a fault, sending and
taking packets, outstanding requests, and replay caches. -/

namespace Sys2Proof.Machine

/-- What a command answers. -/
abbrev Answer := Host.Outcome State Fault Refusal

/-! ### Tiles -/

/-- The physical tile or spare with unit identifier `u` (Table 1.3). -/
def tileAt (s : State) (u : Nat) : Tile := s.tiles.getD u {}

/-- The state with tile `u` replaced. -/
def setTile (s : State) (u : Nat) (t : Tile) : State := { s with tiles := s.tiles.set u t }

/-- The state with tile `u` changed by `f`. -/
def modTile (s : State) (u : Nat) (f : Tile → Tile) : State := setTile s u (f (tileAt s u))

/-- Grove `g`'s state. -/
def groveAt (s : State) (g : Nat) : Grove := s.clr.groves.getD g {}

/-- Whether a thicket of a grove is out of service (R19, R21). -/
def thicketOff (g : Grove) (k : Nat) : Bool := bit g.fusedOff k || bit g.strapOff k || bit g.lost k

/-- The tile that serves a position: the spare where it stands in (R20, R333). -/
def steer (s : State) (u : Nat) : Nat :=
  if u < 0x100 ∧ (groveAt s (u / 16)).spareUsed ∧ (groveAt s (u / 16)).sparePos = u % 16 then 0x100 + u / 16 else u

/-- Whether a tile position's physical tile serves: in a thicket in service, not replaced, not excluded (R20, R21). -/
def tileServes (s : State) (u : Nat) : Bool :=
  let g := groveAt s (groveOf u)
  let pos := if u < 0x100 then u % 16 else g.sparePos
  isTile u && !(thicketOff g (pos / 4)) && !(tileAt s u).excluded
  && (if u < 0x100 then decide (steer s u = u) else g.spareUsed)

/-! ### Time, clocks and modes -/

/-- Forest time (R29). -/
def now (s : State) : Nat := s.clr.time

/-- Whether the core clock runs (R28, R497, R501, R577). -/
def clocked (s : State) : Bool :=
  s.clk.powered && !s.clk.inReset && s.clk.refPresent && s.clk.coreLocked && !s.clk.shutdown

/-- Whether the supervisor clock runs. -/
def supClocked (s : State) : Bool :=
  s.clk.powered && !s.clk.inReset && s.clk.refPresent && s.clk.supLocked && !s.clk.shutdown

/-- Whether the firmware runs: its clock, its cores not halted by the comparator, and its image started. -/
def fwRuns (s : State) : Bool := supClocked s && !s.chk.halted && s.clr.fwRunning

/-- Whether the part is in Safe. -/
def inSafe (s : State) : Bool := decide (s.clr.mode = .safe)

/-- Whether the work units are clocked: the core clock runs and the part is not in Safe (R476). -/
def working (s : State) : Bool := clocked s && !inSafe s

/-- Supervisor-clock time, in units of a core cycle. -/
def supNow (s : State) : Nat := s.clk.sup

/-- The applied throttle level (R573): 15 while PWR_BRAKE_N is low, otherwise the larger of the power and thermal levels. -/
def appliedLevel (s : State) : Nat := if s.brd.brake then 15 else max s.brd.powerLvl s.brd.thermalLvl

/-- Whether every tile is clock-gated in this core cycle (R574). -/
def gated (s : State) : Bool := decide (now s % 16 < appliedLevel s)

/-- Time as a tile counts it: the core cycles in which tiles are not gated. -/
def tileNow (s : State) : Nat := s.clk.tile

/-- Time as a unit's own timers count it. -/
def unitNow (s : State) (u : Nat) : Nat := if isTile u then tileNow s else now s

/-- Whether tile `u` takes part: the work units run and it is neither gated, quarantined nor excluded for a
slice. -/
def tileRuns (s : State) (u : Nat) : Bool :=
  working s && !(gated s) && isTile u && !(tileAt s u).excluded && !(tileAt s u).testing

/-- Whether unit `u` is in a self-test or scrub slice, and the cycles left in it (R253). -/
def sliceLeft (s : State) (u : Nat) : Option Nat :=
  match s.slices.find? (fun x => x.unit == u) with
  | some x => some (x.endAt - now s)
  | none => none

/-- Core cycles in a number of microseconds of a clock tied to the reference (R27, Table 1.5). -/
def usToCc (s : State) (us : Nat) : Nat := us * s.clr.speed * 100

/-- A figure of `n` units of `unit` microseconds that is tied to no clock, in core cycles: on a -14 part it is the figure times
8/7, rounded up to whole units as it is stated (R6, R27). -/
def figureCc (s : State) (n unit : Nat) : Nat :=
  usToCc s (unit * (if s.clr.speed = 14 then ceilDiv (8 * n) 7 else n))


/-! ### Requesters and faults -/

/-- A requester identifier: unit in [13:2], sub-requester in [1:0] (R24). -/
def rqId (unit sub : Nat) : Nat := 4 * unit + sub

/-- The word at offset 0x08 of a fault message (Table 16.1). -/
def faultHead (kind reporter subject : Nat) (part : Option Nat) (orphan : Option Nat) : Nat :=
  kind % 1024 + 2 ^ 16 * (reporter % 2 ^ 14) + 2 ^ 32 * (subject % 4096)
  + (match part with
     | some p => 2 ^ 48 * (p % 16) + 2 ^ 52
     | none => 0)
  + (match orphan with
     | some o => 2 ^ 59 + 2 ^ 60 * (o % 4)
     | none => 0)

/-- A unit sends a fault message to the collector; it never waits for an answer (chapter 16, R461, R462). -/
def raiseMsg (s : State) (m : FaultMsg) : State := { s with flt := { s.flt with inbox := s.flt.inbox ++ [m] } }

/-- A fault message of `kind` from requester `reporter` about `subject`. -/
def raiseAbout (s : State) (kind reporter subject : Nat) (part : Option Nat) (addr detail : Nat)
    (orphan : Option Nat) : State :=
  raiseMsg s ⟨now s % 2 ^ 64, faultHead kind reporter subject part orphan, addr, detail⟩

/-- A fault message whose subject is the reporting unit itself. -/
def raise (s : State) (kind reporter : Nat) (part : Option Nat) (addr detail : Nat) : State :=
  raiseAbout s kind reporter (reporter / 4) part addr detail none

/-! ### Packets -/

/-- A unit's sender numbers and keeps one flit where it holds a credit for its class (depth `dep`), has room among 64
unacknowledged flits and resends nothing; otherwise the flit waits (R327, R336). In Safe only MGMT leaves (R345). -/
def upOne (safe : Bool) (dep : Nat → Nat) (x : UpSend) (f : Flit) : UpSend :=
  let c := flitCls f
  if x.resend.isEmpty && decide (x.replay.length < 64) && decide (x.used.getD c 0 < dep c) && !(safe && decide (c ≠ 0)) then
    { x with next := (x.next + 1) % 256, replay := x.replay ++ [(x.next, f)], used := x.used.set c (x.used.getD c 0 + 1) }
  else { x with waiting := x.waiting ++ [f] }

/-- A unit's sender sends what waits and what is new, in the order of each class. -/
def upSend (safe : Bool) (dep : Nat → Nat) (x : UpSend) (fs : List Flit) : UpSend :=
  (x.waiting ++ fs).foldl (upOne safe dep) { x with waiting := [] }

/-- Flits given to a unit's sender. -/
def upPush (s : State) (u : Nat) (fs : List Flit) : SMap UpSend :=
  match upperEnd u with
  | some (r, p) => if fs.isEmpty then s.ups else SMap.put {} s.ups u (upSend (inSafe s) (inDepth r p) (SMap.get {} s.ups u) fs)
  | none => s.ups

/-- A packet enters the network: it waits to arrive, and its flits go to the sender of its source. -/
def sendPkt (s : State) (p : Packet) : State := { s with net := s.net ++ [p], ups := upPush s (p.src / 4) (packetFlits p) }

/-- Whether two packets belong to one ordered flow: one class, one source unit, one destination (R334). -/
def sameFlow (p q : Packet) : Bool :=
  decide (p.cls = q.cls) && decide (p.src / 4 = q.src / 4) && decide (p.dest = q.dest)

/-- The link at a router port. -/
def linkAt (s : State) (r p : Nat) : Link := SMap.get {} s.noc.links (portKey r p)

/-- Whether the link at a router port is down, at either of its ends (R337). -/
def linkCut (s : State) (r p : Nat) : Bool :=
  (linkAt s r p).down || (match farEnd r p with
    | .router q k => (linkAt s q k).down
    | .unit _ => false)

/-- Whether every link between two units is up (R333, R337). -/
def pathUp (s : State) (a b : Nat) : Bool := (pathLinks a b).all (fun x => !(linkCut s x.1 x.2))

/-- Whether a packet may arrive now: no link on its way is down (R337), and when it waits in the network, no older one of its flow
waits ahead (R334). -/
def arrivable (s : State) (p : Packet) : Bool :=
  pathUp s (p.src / 4) (steer s p.dest)
  && (if s.net.contains p then
    (match s.net.find? (fun q => sameFlow p q) with
     | some q => decide (q = p)
     | none => true)
  else true)

/-- The packet leaves the network. -/
def takePkt (s : State) (p : Packet) : State := { s with net := s.net.erase p }

/-- The destination unit drops a packet that it does not serve, raises NOC_HEADER_INVALID and counts it (R325). -/
def dropPkt (s : State) (u : Nat) (p : Packet) : State :=
  let s1 := takePkt s p
  raise { s1 with noc := { s1.noc with dropped := (s1.noc.dropped + 1) % 2 ^ 16 } } Kind.nocHeaderInvalid (rqId u 0) (some p.part) 0
    (packetHeader p)

/-- The TOKEN flits that the routers' inputs between two units hold (R331, Table 11.12). -/
def pathDepth (a b : Nat) : Nat :=
  let up := linksUp 4 a
  let dn := linksUp 4 b
  ((up.filter (fun x => !(dn.contains x))).map (fun x => inDepth x.1 x.2 1)).sum
  + ((dn.filter (fun x => !(up.contains x))).map (fun x => match farEnd x.1 x.2 with
      | .router q k => inDepth q k 1
      | .unit _ => 0)).sum

/-- Whether the network takes one more token packet from a unit to another: TOKEN flits that wait for credits fill the inputs on the
way, and then hold the sender back (R331). -/
def tokenRoom (s : State) (a b : Nat) : Bool :=
  decide ((s.net.filter (fun p => decide (p.cls = 1) && decide (p.src / 4 = a) && decide (p.dest = b))).length < pathDepth a (steer s b))

/-- A target answers a request. -/
def respond (s : State) (target : Nat) (rq : Rq) (r : Resp) : State :=
  sendPkt s { cls := 3, dest := rq.src / 4, src := rqId target 0, part := rq.part, tag := rq.tag,
              body := .rsp (rq.src % 4) r }

/-- A request packet. -/
def reqPkt (target : Nat) (rq : Rq) (b : Body) : Packet :=
  { cls := 2, dest := target, src := rq.src, part := rq.part, tag := rq.tag, body := b }

/-! ### Status codes and result words -/

/-- The result word of Table 3.6. -/
def resultWord (fail : Bool) (value status : Nat) : W64 :=
  BitVec.ofNat 64 (2 ^ 63 * b2n fail + 2 ^ 16 * (value % 2 ^ 32) + status % 256)

/-! ### Replay caches (R339, R341, R342) -/

/-- Whether an entry is that of a request. -/
def Replay.is (e : Replay) (target : Nat) (rq : Rq) : Bool :=
  decide (e.target = target) && decide (e.src = rq.src) && decide (e.part = rq.part) && decide (e.tag = rq.tag)

/-- Whether an entry belongs to a requester of a target. -/
def Replay.of (e : Replay) (target : Nat) (rq : Rq) : Bool :=
  decide (e.target = target) && decide (e.src = rq.src) && decide (e.part = rq.part)

/-- The entries, newest first, of which a target keeps the 16 most recent per requester and partition. -/
def replayTrim (es : List Replay) (target : Nat) (rq : Rq) : List Replay :=
  let mine := (es.filter (fun e => e.of target rq)).take 16
  es.filter (fun e => !(e.of target rq) || mine.contains e)

/-- A new entry, IN_PROGRESS where `done` is none. -/
def replayAdd (s : State) (target : Nat) (rq : Rq) (done : Option Resp) : State :=
  { s with replays := replayTrim ({ target := target, src := rq.src, part := rq.part, tag := rq.tag, done := done }
      :: s.replays) target rq }

/-- The entry of a request changed by `f`. -/
def replayMark (s : State) (target : Nat) (rq : Rq) (f : Replay → Replay) : State :=
  { s with replays := s.replays.map (fun e => if e.is target rq then f e else e) }

/-- The final answer of a request: its entry becomes DONE and the answer is sent. -/
def replayFinish (s : State) (target : Nat) (rq : Rq) (r : Resp) : State :=
  respond (replayMark s target rq (fun e => { e with done := some r })) target rq r

/-- The final answer of a request that changed nothing: it leaves no entry (R339). -/
def replayDrop (s : State) (target : Nat) (rq : Rq) (r : Resp) : State :=
  respond { s with replays := s.replays.filter (fun e => !(e.is target rq)) } target rq r

/-- What the evaluation of a request gives: the state, the answer now (none: WAIT), and whether the target's
state changed, so that an entry is kept (R339). -/
structure Eval where
  st : State
  ans : Option Resp := none
  changed : Bool := true

/-- The lookup of R339: a tag that is present answers from its entry; an absent one is evaluated. -/
def lookupReq (s : State) (target : Nat) (rq : Rq) (eval : State → Eval) : State :=
  match s.replays.find? (fun e => e.is target rq) with
  | some e =>
    if e.lost then respond s target rq (.refused 6)
    else if e.err = 2 then
      respond (raise (replayMark s target rq (fun x => { x with lost := true, done := none }))
        Kind.replayCacheUncorrectable (rqId target 0) (some rq.part) 0 0) target rq (.refused 6)
    else
      let s1 : State := if e.err = 1 then
          raise (replayMark s target rq (fun x => { x with err := 0 }))
            Kind.replayCacheCorrected (rqId target 0) (some rq.part) 0 0
        else s
      (match e.done with
       | some r => respond s1 target rq r
       | none => respond s1 target rq .wait)
  | none =>
    let v := eval s
    match v.ans with
    | some r => respond (if v.changed then replayAdd v.st target rq (some r) else v.st) target rq r
    | none => respond (if v.changed then replayAdd v.st target rq none else v.st) target rq .wait

/-- A cached request reaches a replay-cache target (R339, R253): in a slice it is answered BUSY_RETRY; otherwise
its tag is looked up before any other check. -/
def cachedReq (s : State) (target : Nat) (rq : Rq) (eval : State → Eval) : State :=
  match sliceLeft s target with
  | some left => respond s target rq (.busyRetry (left + 16))
  | none => lookupReq s target rq eval

/-- A request whose opcode is not cached: answered BUSY_RETRY in a slice, otherwise evaluated. -/
def plainReq (s : State) (target : Nat) (rq : Rq) (eval : State → Eval) : State :=
  match sliceLeft s target with
  | some left => respond s target rq (.busyRetry (left + 16))
  | none =>
    let v := eval s
    match v.ans with
    | some r => respond v.st target rq r
    | none => respond v.st target rq .wait

/-- A request arrives at a target: it leaves the network and is served. -/
def arriveReq (s : State) (target : Nat) (rq : Rq) (b : Body) (serve : State → State) : State :=
  if arrivable s (reqPkt target rq b) then serve (takePkt s (reqPkt target rq b)) else s

/-! ### Requests and their tags (R338, R340) -/

/-- Whether Table 11.7 marks the request cached. -/
def cachedOp : Body → Bool
  | .admission _ | .complete _ _ | .depDec _ _ | .ctxAlloc | .ctxRelease _ | .ctxNotice _ | .seqReq _ _
  | .seqReturn _ _ | .trailCtrl _ _ | .lockOp _ | .spill _ | .fetch _ | .cplPost _ _ _ _ => true
  | _ => false

/-- Whether Table 11.7 marks the request never repeated. -/
def neverOp : Body → Bool
  | .aadd _ _ _ | .take _ _ | .gateToken _ _ | .siftSubmit _ _ _ => true
  | _ => false

/-- Whether an outstanding request is one of a requester to a target. -/
def OutReq.to (o : OutReq) (src part target : Nat) : Bool :=
  decide (rqId o.unit o.sub = src) && decide (o.part = part) && decide (o.target = target)

/-- The tag counter of a requester for a target. -/
def tagNext (s : State) (src part target : Nat) : Nat :=
  match s.tagCtrs.find? (fun c => decide (c.src = src) && decide (c.part = part) && decide (c.target = target)) with
  | some c => c.next
  | none => 0

/-- The tag counter advanced, modulo 4,096. -/
def tagBump (s : State) (src part target : Nat) : State :=
  { s with tagCtrs := { src := src, part := part, target := target, next := (tagNext s src part target + 1) % 4096 }
      :: s.tagCtrs.filter (fun c => !(decide (c.src = src) && decide (c.part = part) && decide (c.target = target))) }

/-- The lowest tag that no outstanding request to the target carries and that is not the one to avoid. -/
def freshTag (s : State) (src part target : Nat) (avoid : Option Nat) : Nat :=
  let used := avoid.toList ++ (s.outs.filter (fun o => o.to src part target)).map OutReq.tag
  ((List.range (used.length + 1)).find? (fun n => !(used.contains n))).getD 0

/-- Whether a new cached request may be sent: the tag window of R338 is open and no purge is pending (R342). -/
def windowOpen (s : State) (src part target : Nat) : Bool :=
  (s.outs.filter (fun o => o.to src part target && cachedOp o.body)).all
    (fun o => decide ((tagNext s src part target + 4096 - o.tag) % 4096 < 16))
  && !(s.purges.any (fun p => decide (p.src = src) && decide (p.part = part)))

/-- The end-to-end timeout in cc (R340). -/
def e2eLimit (s : State) : Nat := 256 * s.noc.timeout

/-- The tag of a new request: the counter of a cached one, the slot of a line write, otherwise one that no
outstanding request to the target carries (R338, R323). -/
def sendTag (s : State) (o : OutReq) : Nat :=
  if cachedOp o.body then tagNext s (rqId o.unit o.sub) o.part o.target
  else match o.body with
    | .lineWrite _ x _ _ _ => x
    | .xferLine _ x _ _ _ => x
    | _ => freshTag s (rqId o.unit o.sub) o.part o.target o.avoid

/-- A request leaves and is kept as outstanding. -/
def sendNow (s : State) (o : OutReq) : State :=
  let src := rqId o.unit o.sub
  let tag := sendTag s o
  let s1 := if cachedOp o.body then tagBump s src o.part o.target else s
  sendPkt { s1 with outs := s1.outs ++ [{ o with tag := tag, timer := some (unitNow s o.unit + e2eLimit s) }] }
    { cls := 2, dest := o.target, src := src, part := o.part, tag := tag, body := o.body }

/-- A requester sends a request; a cached one waits while the tag window of its target is closed (R338, R342). -/
def sendReq (s : State) (o : OutReq) : State :=
  if cachedOp o.body && !(windowOpen s (rqId o.unit o.sub) o.part o.target) then
    { s with sendWait := s.sendWait ++ [o] }
  else sendNow s o

/-- The requests that waited for a tag window are sent where it has opened. -/
def flushList (s : State) (l : List OutReq) : State :=
  match l with
  | [] => s
  | o :: r => flushList (sendReq s o) r

/-- The waiting requests are tried again, oldest first. -/
def flushWait (s : State) : State := flushList { s with sendWait := [] } s.sendWait

/-- A posted request: no response, no timer. -/
def sendPosted (s : State) (src target part : Nat) (b : Body) : State :=
  sendPkt s { cls := 2, dest := target, src := src, part := part, tag := 0, body := b }

/-- A management packet. -/
def sendMgmt (s : State) (src target part tag : Nat) (b : Body) : State :=
  sendPkt s { cls := 0, dest := target, src := src, part := part, tag := tag, body := b }

/-- A fresh free value. -/
def freeTake (s : State) : Nat × State := (Config.freeNat s.freeCtr, { s with freeCtr := s.freeCtr + 1 })

/-- The bridge unit that a device ring set belongs to. -/
def ringBridge (s : State) (rs : Nat) : Nat := if (SMap.get {} s.rings rs).port = 0 then 0x381 else 0x383

/-- The placement of a virtual tile of a partition, none where it is unbound or suspended, or where the number is above 1,023 and
names no virtual tile (R48, R456). -/
def placeOf (s : State) (part vt : Nat) : Option Place :=
  if 1024 ≤ vt then none
  else match SMap.get none s.place (1024 * part + vt) with
  | some p => if p.suspended then none else some p
  | none => none

end Sys2Proof.Machine
end

