-- ==== Sys2Proof/Machine/TileMem.lean ====
section
/-! DEFINITION. Frame memory and instruction store of a tile: reads and writes with poison marks and stored errors
(R469, R470), and the tile address windows (R37). -/

namespace Sys2Proof.Machine

/-- The partition of a tile: that of its valid bindings (R46). -/
def tilePart (t : Tile) : Option Nat :=
  match t.bindings.find? (fun b => b.valid) with
  | some b => some b.part
  | none => none

/-- A stored error of one frame word is met by a read or a narrow write (R469). -/
def meetFrameErr (s : State) (u w : Nat) : State :=
  let t := tileAt s u
  match SMap.get 0 t.frameErr w with
  | 0 => s
  | 1 => raise (setTile s u { t with frameErr := SMap.put 0 t.frameErr w 0 })
           Kind.frameCorrected (rqId u 0) (tilePart t) (8 * w) 0
  | _ => raise (setTile s u { t with frameErr := SMap.put 0 t.frameErr w 0, framePoison := NSet.add t.framePoison w })
           Kind.frameUncorrectable (rqId u 0) (tilePart t) (8 * w) 0

/-- Stored errors of `n` words from word `w` are met. -/
def meetFrameErrs (s : State) (u w n : Nat) : State :=
  match n with
  | 0 => s
  | k + 1 => meetFrameErrs (meetFrameErr s u w) u (w + 1) k

/-- The number of 64-bit words that `n` bytes from byte address `pa` touch. -/
def wordsOf (pa n : Nat) : Nat := if n = 0 then 0 else (pa + n - 1) / 8 - pa / 8 + 1

/-- Whether any of `n` words from `w` carries the poison mark. -/
def anyPoison (p : NSet) (w n : Nat) : Bool := p.any (fun x => decide (w ≤ x) && decide (x < w + n))

/-- The poison marks of `n` words from `w`, bit i for word w + i. -/
def poisonBits (p : NSet) (w n : Nat) : Nat :=
  match n with
  | 0 => 0
  | k + 1 => b2n (NSet.has p w) + 2 * poisonBits p (w + 1) k

/-- The bytes, as a number, and the poison of a read of `n` bytes at physical frame address `pa`. -/
def frameRead (s : State) (u pa n : Nat) : State × Nat × Bool :=
  let s1 := meetFrameErrs s u (pa / 8) (wordsOf pa n)
  let t := tileAt s1 u
  (s1, ByteMem.rdN t.frame pa n, anyPoison t.framePoison (pa / 8) (wordsOf pa n))

/-- A write of `n` bytes (at most 8, within one word) at physical frame address `pa` (R469): a whole word replaces the
word and its mark; a narrower one merges and leaves a mark set. -/
def frameWrite (s : State) (u pa n v : Nat) (poison : Bool) : State :=
  let w := pa / 8
  let s1 := if n = 8 then s else meetFrameErr s u w
  modTile s1 u (fun t =>
    let keep := if n = 8 then poison else poison || NSet.has t.framePoison w
    { t with
      frame := ByteMem.wrN t.frame pa n v
      framePoison := if keep then NSet.add t.framePoison w else NSet.del t.framePoison w
      frameErr := SMap.put 0 t.frameErr w 0 })

/-- `k` whole words written from physical frame address `pa`, bit i of `poison` marking word i. -/
def frameWriteWords (s : State) (u pa k v poison : Nat) : State :=
  match k with
  | 0 => s
  | j + 1 => frameWriteWords (frameWrite s u pa 8 (v % 2 ^ 64) (bit poison 0)) u (pa + 8) j (v / 2 ^ 64) (poison / 2)

/-- Where a tile address lies (Table 1.13). -/
inductive Where where
  | own (pa : Nat)
  | remote (vt off : Nat)
  | stand (slice off : Nat)
  | host (iova : Nat)
  | unmapped
  | outside
  deriving DecidableEq, Repr

/-- The window that holds all `n` bytes from a tile address, for the virtual tile at a binding slot (R37). -/
def windowOf (s : State) (t : Tile) (slot addr n : Nat) : Where :=
  let f := t.vtFrame.getD slot {}
  let part := (t.bindings.getD slot {}).part
  if addr < 0x100000 then (if addr + n ≤ 4096 * f.size then .own (4096 * f.base + addr) else .outside)
  else if 0x100000000 ≤ addr ∧ addr < 0x140000000 then
    .remote ((addr - 0x100000000) / 0x100000) (addr % 0x100000)
  else if 0x200000000 ≤ addr ∧ addr < 0x204000000 then
    (match SMap.get none s.sliceMap (64 * part + (addr - 0x200000000) / 0x100000) with
     | some ph => if addr % 0x100000 + n ≤ 0x100000 then .stand ph (addr % 0x100000) else .unmapped
     | none => .unmapped)
  else if 0x100000000000 ≤ addr ∧ addr + n ≤ 0x200000000000 then .host (addr - 0x100000000000)
  else .unmapped

/-- The unit identifier of the home bridge of a partition. -/
def homeUnit (s : State) (part : Nat) : Nat := if s.homes.getD part 0 = 0 then 0x381 else 0x383

/-- The unit of a physical stand-buffer slice. -/
def standUnit (ph : Nat) : Nat := 0x2CC + ph / 16

/-- One fetch of an instruction-store line (R470): a corrected error is repaired, an uncorrectable one marks it bad. -/
def fetchLine (s : State) (u l : Nat) : State × Bool :=
  let t := tileAt s u
  match SMap.get 0 t.istoreErr l with
  | 0 => (s, NSet.has t.istoreBad l)
  | 1 => (raise (setTile s u { t with istoreErr := SMap.put 0 t.istoreErr l 0 })
            Kind.istoreCorrected (rqId u 0) (tilePart t) (64 * l) 0, NSet.has t.istoreBad l)
  | _ => (setTile s u { t with istoreErr := SMap.put 0 t.istoreErr l 0, istoreBad := NSet.add t.istoreBad l }, true)

/-- Fetches of `n` lines from line `l`: the state, and the first bad line. -/
def fetchLines (s : State) (u l n : Nat) : State × Option Nat :=
  match n with
  | 0 => (s, none)
  | k + 1 =>
    let (s1, bad) := fetchLine s u l
    if bad then (s1, some l) else fetchLines s1 u (l + 1) k

end Sys2Proof.Machine
end

