-- ==== Sys2Proof/Machine/Tokens.lean ====
section
/-! DEFINITION. Tokens, the arrival checks, the matching store, control tokens, dispatch and the placement cache
(chapter 2), with the tile's side of the spill filter (R305). -/

namespace Sys2Proof.Machine

/-! ### Tag fields (Table 2.1) -/

/-- PARTITION. -/
def tagPart (t : W64) : Nat := bits t.toNat 63 60
/-- CONTEXT. -/
def tagCtx (t : W64) : Nat := bits t.toNat 59 46
/-- ITERATION. -/
def tagIter (t : W64) : Nat := bits t.toNat 45 30
/-- VTILE. -/
def tagVt (t : W64) : Nat := bits t.toNat 29 20
/-- NODE. -/
def tagNode (t : W64) : Nat := bits t.toNat 19 4
/-- PORT. -/
def tagPort (t : W64) : Nat := bits t.toNat 3 2
/-- KIND. -/
def tagKind (t : W64) : Nat := bits t.toNat 1 0

/-- A tag from its fields. -/
def mkTag (part ctx iter vt node port kind : Nat) : W64 :=
  BitVec.ofNat 64 (2 ^ 60 * (part % 16) + 2 ^ 46 * (ctx % 2 ^ 14) + 2 ^ 30 * (iter % 2 ^ 16) + 2 ^ 20 * (vt % 1024)
    + 16 * (node % 2 ^ 16) + 4 * (port % 4) + kind % 4)

/-- The instance key: tag bits [63:4]. -/
def instKey (t : W64) : Nat := t.toNat >>> 4
/-- A key with its ITERATION positions replaced by `v`. -/
def keyWithIter (k v : Nat) : Nat := k - 2 ^ 26 * bits k 41 26 + 2 ^ 26 * v
/-- The sticky key as a sticky entry holds it: ITERATION positions zero (R69). -/
def stickyKey (k : Nat) : Nat := keyWithIter k 0
/-- The set index of a key (R70). -/
def foldSet (k : Nat) : Nat := (k ^^^ (k >>> 12) ^^^ (k >>> 24) ^^^ (k >>> 36) ^^^ (k >>> 48)) % 4096
/-- The set of an instance key, or of a sticky lookup. -/
def setIndex (k : Nat) (sticky : Bool) : Nat := foldSet (if sticky then keyWithIter k 0xFFFF else k)
/-- The spill-filter bit of an instance key (R304). -/
def filterIndex (k : Nat) : Nat :=
  let x := (k ^^^ (k >>> 16) ^^^ (k >>> 32) ^^^ (k >>> 48)) % 2 ^ 16
  (x ^^^ (x >>> 14)) % 2 ^ 14

/-! ### Queues, occupancy and high-water marks (Tables 2.9, 2.12, 2.13) -/

/-- Sticky entries among the store and the overflow buffer. -/
def stickyCount (t : Tile) : Nat :=
  (t.store.filter (fun e => e.2.state == 3)).length + (t.ovf.filter (fun e => e.2.state == 3)).length

/-- TIL.TOKEN_HWM follows the occupancy. -/
def noteHwm (t : Tile) : Tile :=
  { t with
    hwmStore := max t.hwmStore t.store.length
    hwmSticky := max t.hwmSticky (stickyCount t)
    hwmOvf := max t.hwmOvf t.ovf.length
    hwmIq := max t.hwmIq t.iq.length
    hwmFq := max t.hwmFq t.fq.length }

/-- Whether 4 entries of the input queue are free, as a flit or a local-path send takes them (R73, Table 2.9). -/
def iqRoom (t : Tile) : Bool := decide (t.iq.length + 4 ≤ 2048)

/-- One credit goes back to the thicket router for every 4 free entries that no outstanding credit covers (R73). -/
def giveCredits (t : Tile) : Tile := { t with iqCredits := t.iqCredits + (2048 - t.iq.length - 4 * t.iqCredits) / 4 }

/-- A flit has entered: its credit is used, and the entries that it did not fill are free again (R73). -/
def useCredit (t : Tile) : Tile := giveCredits { t with iqCredits := t.iqCredits - 1 }

/-- Entries of a fire-queue level. -/
def levelCount (t : Tile) (l : Nat) : Nat := (t.fq.filter (fun e => e.level == l)).length

/-- Shared fire-queue entries in use. A level's first 16 instances hold its reserved entries, so the shared ones are what a level
holds above 16, and a dispatch frees a shared entry first (R74 gives which is used first and not which is freed: DESIGN CHOICE, log
entry 115). -/
def sharedUsed (t : Tile) : Nat := ((List.range 8).map (fun l => levelCount t l - 16)).sum

/-- Whether the fire queue can take an instance of a level. -/
def fqRoom (t : Tile) (l : Nat) : Bool := decide (levelCount t l < 16) || decide (sharedUsed t < 896)

/-- A fired instance enters the fire queue, or is held while there is no entry (Table 2.9). -/
def fire (tm : Nat) (t : Tile) (e : FireEntry) : Tile :=
  if fqRoom t e.level then
    noteHwm { t with fq := t.fq ++ [e], fired := (t.fired + 1) % 2 ^ 32, held := none
                     spl := { t.spl with fireSince := none, fullRaised := false } }
  else { t with held := some e, spl := { t.spl with fireSince := some (t.spl.fireSince.getD tm) } }

/-- The held instance enters the fire queue when an entry is free, unless it is being un-fired (R298). -/
def settleHeld (tm : Nat) (t : Tile) : Tile :=
  match t.held with
  | some e => if t.spl.unfiring then t else fire tm t e
  | none => t

/-! ### Arrival (R50, R588) -/

/-- The first arrival check of Table 2.6 that a token fails, as the fault kind it raises. -/
def arrivalCheck (t : Tile) (tok : Token) (part gen : Nat) : Option Nat :=
  let kind := tagKind tok.tag
  let placed := decide (kind < 2) || (decide (kind = 2) && decide (tagNode tok.tag = 1))
  if kind = 3 then some Kind.tokenKindInvalid
  else if !(decide (part = tagPart tok.tag) && decide (tilePart t = some part)) then some Kind.partitionMismatch
  else if !placed then none
  else
    match t.bindings.find? (fun b => b.valid && decide (b.vtile = tagVt tok.tag)) with
    | none => some Kind.stalePlacement
    | some b => if b.gen = gen then none else some Kind.stalePlacement

/-- One arriving token: checked, then queued or dropped with its fault; a dropped start token is reported lost
(R241). -/
def arriveToken (s : State) (u src part gen : Nat) (handle : Option Nat) (tok : Token) : State :=
  let t := tileAt s u
  match arrivalCheck t tok part gen with
  | none => setTile s u (noteHwm { t with iq := t.iq ++ [⟨tok, src⟩], arrived := (t.arrived + 1) % 2 ^ 32 })
  | some k =>
    let s1 := raise s k (rqId u 0) (some part) src tok.tag.toNat
    match handle with
    | some h => sendMgmt s1 (rqId u 3) 0x301 part 0 (.activationLost h)
    | none => s1

/-- The tokens of one packet, in order. -/
def arriveTokens (s : State) (u src part gen : Nat) (handle : Option Nat) (toks : List Token) : State :=
  match toks with
  | [] => s
  | k :: r => arriveTokens (arriveToken s u src part gen handle k) u src part gen handle r

/-- A counted ACK packet is owed an acknowledgement to its source (R588). -/
def oweAck (tm src : Nat) (l : List AckOwed) : List AckOwed :=
  match l with
  | [] => [⟨src, 1, tm⟩]
  | a :: r => if a.src = src then { a with count := a.count + 1 } :: r else a :: oweAck tm src r

/-- TOKEN_ACK_SEND: one TOKEN_ACK covers every ACK packet counted from a source (R588). -/
def tokenAckSend (s : State) (u src : Nat) : State :=
  let t := tileAt s u
  match t.ackOwed.find? (fun a => decide (a.src = src)) with
  | some a =>
    if !(working s) then s
    else sendMgmt (setTile s u { t with ackOwed := t.ackOwed.filter (fun b => !(decide (b.src = src))) })
      (rqId u 0) (src / 4) ((tilePart t).getD 0) 0 (.tokenAck a.count)
  | none => s

/-! ### The matching store (R52 to R56, R69 to R72) -/

/-- A stored error of one entry is met by a lookup (R72): repaired, or the entry is discarded. `loc` is the record's
ADDR. -/
def meetEntryErr (s : State) (u : Nat) (inOvf : Bool) (i : Nat) (e : MEntry) : State :=
  let t := tileAt s u
  let loc := if inOvf then 2 ^ 14 + i else i / 4 + 2 ^ 12 * (i % 4)
  let put (e' : MEntry) : Tile :=
    if inOvf then { t with ovf := SMap.put {} t.ovf i e' } else { t with store := SMap.put {} t.store i e' }
  if e.err = 1 then raise (setTile s u (put { e with err := 0 })) Kind.tokenStoreCorrected (rqId u 0) (tilePart t) loc 0
  else raise (setTile s u (put {})) Kind.tokenStoreUncorrectable (rqId u 0) (tilePart t) loc 0

/-- The stored errors of a list of entries are met. -/
def meetEntryErrs (s : State) (u : Nat) (inOvf : Bool) (es : SMap MEntry) : State :=
  match es with
  | [] => s
  | (i, e) :: r => meetEntryErrs (if e.err = 0 then s else meetEntryErr s u inOvf i e) u inOvf r

/-- A lookup reads two sets and the overflow buffer: their stored errors are met. -/
def meetLookup (s : State) (u set1 set2 : Nat) : State :=
  let inSets (i : Nat) : Bool := decide (i / 4 = set1) || decide (i / 4 = set2)
  let s1 := meetEntryErrs s u false ((tileAt s u).store.filter (fun e => inSets e.1))
  meetEntryErrs s1 u true (tileAt s1 u).ovf

/-- Whether an entry is the partner sought: key, port, sticky or normal, and not PENDING (R296). -/
def entryIs (e : MEntry) (key port : Nat) (sticky : Bool) : Bool :=
  decide (e.key = key) && decide (e.port = port) && !e.pending
  && (if sticky then decide (e.state = 3) else decide (e.state = 1) || decide (e.state = 2))

/-- Where an entry lies. -/
inductive Loc where
  | inSet (i : Nat) (e : MEntry)
  | inOvf (i : Nat) (e : MEntry)
  deriving DecidableEq, Repr

/-- The stored token of a key and port, in its set or the overflow buffer (R71). -/
def findEntry (t : Tile) (key port : Nat) (sticky : Bool) : Option Loc :=
  let set := setIndex key sticky
  match t.store.find? (fun x => decide (x.1 / 4 = set) && entryIs x.2 key port sticky) with
  | some (i, e) => some (.inSet i e)
  | none =>
    match t.ovf.find? (fun x => entryIs x.2 key port sticky) with
    | some (i, e) => some (.inOvf i e)
    | none => none

/-- The value and poison of a stored token. -/
def locWord (l : Loc) : PWord :=
  match l with
  | .inSet _ e => ⟨e.val, e.spoison || decide (e.state = 2)⟩
  | .inOvf _ e => ⟨e.val, e.spoison || decide (e.state = 2)⟩

/-- A stored token leaves. -/
def freeLoc (t : Tile) (l : Loc) : Tile :=
  match l with
  | .inSet i _ => { t with store := SMap.put {} t.store i {} }
  | .inOvf i _ => { t with ovf := SMap.put {} t.ovf i {} }

/-- The lowest empty way of a set, else the lowest empty overflow entry (R71): `some (false, i)` in the store. -/
def findRoom (t : Tile) (set : Nat) : Option (Bool × Nat) :=
  match (List.range 4).find? (fun w => decide ((SMap.get {} t.store (4 * set + w)).state = 0)) with
  | some w => some (false, 4 * set + w)
  | none =>
    match (List.range 64).find? (fun i => decide ((SMap.get {} t.ovf i).state = 0)) with
    | some i => some (true, i)
    | none => none

/-- An entry is stored where there is room. -/
def storeEntry (t : Tile) (set : Nat) (e : MEntry) : Option Tile :=
  match findRoom t set with
  | some (false, i) => some (noteHwm { t with store := SMap.put {} t.store i e })
  | some (true, i) => some (noteHwm { t with ovf := SMap.put {} t.ovf i e })
  | none => none

/-- A node table entry (Table 2.3) as its number. -/
def ntAt (t : Tile) (b : Binding) (node : Nat) : Nat := ByteMem.rdN t.istore (8 * b.ntBase + 8 * node) 8

/-- Arity of a node table entry. -/
def ntArity (w : Nat) : Nat := bits w 9 8 + 1
/-- STICKY_MASK of a node table entry. -/
def ntSticky (w : Nat) : Nat := bits w 16 13

/-- Whether a node table entry describes a node (R45). -/
def ntValid (w : Nat) : Bool :=
  bit w 0 && decide (bits w 63 32 = 0) && decide (bits w 7 1 = 0)
  && decide (ntSticky w < 2 ^ ntArity w) && decide (ntSticky w ≠ 2 ^ ntArity w - 1)

/-- What the node-table checks of R45 say of a token: the entry, or the fault. A token whose virtual tile's binding has gone since it
was queued has no node table; the spec names no fault for it, and it is dropped with NODE_TABLE_INVALID (DESIGN CHOICE, log
entry 114). -/
def nodeLookup (s : State) (u : Nat) (tok : Token) (src : Nat) : State × Option Nat :=
  let t := tileAt s u
  let drop (k addr : Nat) (s : State) : State × Option Nat :=
    (raise s k (rqId u 0) (some (tagPart tok.tag)) addr tok.tag.toNat, none)
  match t.bindings.find? (fun b => b.valid && decide (b.part = tagPart tok.tag) && decide (b.vtile = tagVt tok.tag)) with
  | none => drop Kind.nodeTableInvalid src s
  | some b =>
    if b.ntCountM1 < tagNode tok.tag then drop Kind.nodeTableInvalid src s
    else
      let a := 8 * b.ntBase + 8 * tagNode tok.tag
      let (s1, bad) := fetchLine s u (a / 64)
      if bad then drop Kind.istoreUncorrectable (src + 2 ^ 14 * (64 * (a / 64))) s1
      else
        let w := ntAt t b (tagNode tok.tag)
        if ntValid w then (s1, some w) else drop Kind.nodeTableInvalid src s1

/-- The head token leaves the input queue; the matcher no longer waits for a store entry. -/
def popHead (s : State) (u : Nat) : State :=
  modTile s u (fun t => giveCredits { t with
    iq := t.iq.tail, spl := { t.spl with storeSince := none, noVictim := false, tested := false } })

/-- The matcher waits with the token at the head (Table 2.9). -/
def stallStore (s : State) (u : Nat) : State :=
  modTile s u (fun t => { t with spl := { t.spl with storeSince := some (t.spl.storeSince.getD (now s)) } })

/-- The head token is dropped with a fault. -/
def dropHead (s : State) (u k src : Nat) (tok : Token) : State :=
  popHead (raise s k (rqId u 0) (some (tagPart tok.tag)) src tok.tag.toNat) u

/-- The stored partners of a token on the other ports below the arity, in port order; none where one is missing. -/
def partners (t : Tile) (w key port : Nat) (n : Nat) : Option (List (Nat × Loc)) :=
  match n with
  | 0 => some []
  | q + 1 =>
    match partners t w key port q with
    | none => none
    | some l =>
      if q = port then some l
      else
        let sticky := bit (ntSticky w) q
        match findEntry t (if sticky then stickyKey key else key) q sticky with
        | some x => some (l ++ [(q, x)])
        | none => none

/-- The operand values of a fired node in port order. -/
def operandsOf (port : Nat) (own : PWord) (ps : List (Nat × Loc)) (arity : Nat) : List PWord :=
  (List.range arity).map (fun q =>
    if q = port then own
    else match ps.find? (fun x => x.1 == q) with
      | some x => locWord x.2
      | none => {})

/-- The stored normal partners are consumed; sticky ones stay (R53). -/
def consume (t : Tile) (w : Nat) (ps : List (Nat × Loc)) : Tile :=
  match ps with
  | [] => t
  | (q, l) :: r => consume (if bit (ntSticky w) q then t else freeLoc t l) w r

/-- A normal token that passed the checks fires its node or is stored (R53, R54). -/
def matchNormal (s : State) (u : Nat) (tok : Token) (src w : Nat) : State :=
  let key := instKey tok.tag
  let port := tagPort tok.tag
  let arity := ntArity w
  let s1 := if arity = 1 then s else meetLookup s u (setIndex key false)
    (if ntSticky w = 0 then setIndex key false else setIndex (stickyKey key) true)
  let t := tileAt s1 u
  match partners t w key port arity with
  | some ps =>
    let e : FireEntry := { level := bits w 12 10, tag := BitVec.ofNat 64 (16 * key), entry := 4 * bits w 31 17,
                           ops := operandsOf port ⟨tok.val, tok.poison⟩ ps arity }
    let s2 := popHead s1 u
    setTile s2 u (fire (now s) (consume (tileAt s2 u) w ps) e)
  | none =>
    match findEntry t key port false with
    | some _ => dropHead s1 u Kind.tokenPortCollision src tok
    | none =>
      match storeEntry t (setIndex key false)
          { key := key, port := port, state := if tok.poison then 2 else 1, val := tok.val } with
      | some t' => popHead (setTile s1 u t') u
      | none => stallStore s1 u

/-- The outstanding FETCHes of a tile. -/
def fetchesOut (s : State) (u : Nat) : List Nat :=
  s.outs.filterMap (fun o => if o.unit = u then (match o.use with
    | .fetch k _ => some k
    | _ => none) else none)

/-- A tile sends a FETCH for an instance key to its partition's agent (R305). -/
def sendFetch (s : State) (u part key : Nat) (refire : Bool) : State :=
  sendReq s { unit := u, sub := 3, part := part, target := homeUnit s part, body := .fetch key, use := .fetch key refire }

/-- The filter's parity error, met by a lookup, sets every bit (R304): the filter then holds all 16,384 bits. -/
def meetParity (s : State) (u : Nat) : State :=
  let t := tileAt s u
  if t.spl.parityErr then
    raise (setTile s u { t with spl := { t.spl with parityErr := false, filter := List.range 16384 } })
      Kind.spillFilterParity (rqId u 3) (tilePart t) 0 0
  else s

/-- Whether the fetch buffer of 32 has 4 entries to reserve for one more FETCH, and fewer than 8 are outstanding (R305). -/
def fetchRoom (s : State) (u : Nat) : Bool :=
  let n := (fetchesOut s u).length
  decide (n < 8) && decide ((tileAt s u).spl.fetchBuf.length + 4 * (n + 1) ≤ 32)

/-- The spill-filter test of a normal token (R305): the state, and whether the matcher goes on. -/
def filterTest (s0 : State) (u : Nat) (tok : Token) : State × Bool :=
  let s := meetParity s0 u
  let key := instKey tok.tag
  if !(NSet.has (tileAt s u).spl.filter (filterIndex key)) then (s, true)
  else if (fetchesOut s u).contains key || (tileAt s u).spl.moreQ.any (fun x => decide (x.1 = key)) then (s, true)
  else if !(fetchRoom s u) then (s, false)
  else if !(windowOpen s (rqId u 3) (tagPart tok.tag) (homeUnit s (tagPart tok.tag))) then (s, false)
  else (sendFetch s u (tagPart tok.tag) key false, true)

/-- Whether the matcher of a tile may take the head of its input queue: no scan runs and no instance is held. -/
def matcherFree (s : State) (u : Nat) : Bool :=
  tileRuns s u && (tileAt s u).scan.isNone && (tileAt s u).held.isNone

/-- MATCH_TOKEN: a normal or spill-returned token at the head (R52). -/
def matchToken (s : State) (u : Nat) : State :=
  if !(matcherFree s u) then s
  else
    match (tileAt s u).iq with
    | [] => s
    | h :: _ =>
      let kind := tagKind h.tok.tag
      if kind = 1 ∨ kind = 2 then s
      else
        let (s1, nt) := nodeLookup s u h.tok h.src
        match nt with
        | none => popHead s1 u
        | some w =>
          if ntArity w ≤ tagPort h.tok.tag then dropHead s1 u Kind.tokenPortInvalid h.src h.tok
          else if bit (ntSticky w) (tagPort h.tok.tag) then dropHead s1 u Kind.tokenKindInvalid h.src h.tok
          else if kind = 3 then matchNormal s1 u h.tok h.src w
          else if (tileAt s1 u).spl.tested then matchNormal s1 u h.tok h.src w
          else
            let (s2, go) := filterTest s1 u h.tok
            if go then matchNormal (modTile s2 u (fun t => { t with spl := { t.spl with tested := true } })) u h.tok h.src w else s2

/-- MATCH_STICKY_TOKEN: a sticky token at the head is checked and stored (R55). -/
def matchSticky (s : State) (u : Nat) : State :=
  if !(matcherFree s u) then s
  else
    match (tileAt s u).iq with
    | [] => s
    | h :: _ =>
      if tagKind h.tok.tag ≠ 1 then s
      else
        let (s1, nt) := nodeLookup s u h.tok h.src
        match nt with
        | none => popHead s1 u
        | some w =>
          let port := tagPort h.tok.tag
          if ntArity w ≤ port then dropHead s1 u Kind.tokenPortInvalid h.src h.tok
          else if !(bit (ntSticky w) port) || decide (tagIter h.tok.tag ≠ 0) then
            dropHead s1 u Kind.tokenKindInvalid h.src h.tok
          else
            let key := stickyKey (instKey h.tok.tag)
            let s2 := meetLookup s1 u (setIndex key true) (setIndex key true)
            let t := tileAt s2 u
            match findEntry t key port true with
            | some _ => dropHead s2 u Kind.stickyDuplicate h.src h.tok
            | none =>
              match storeEntry t (setIndex key true)
                  { key := key, port := port, state := 3, spoison := h.tok.poison, val := h.tok.val } with
              | some t' => popHead (setTile s2 u t') u
              | none => stallStore s2 u

/-! ### Control tokens (R61, R62, R308) -/

/-- Whether an entry is discarded by a scan (R61, R62): PENDING entries stay. -/
def scanned (isEnd : Bool) (tag : W64) (e : MEntry) : Bool :=
  let etag := BitVec.ofNat 64 (16 * e.key)
  decide (e.state ≠ 0) && !e.pending && decide (tagCtx etag = tagCtx tag) && decide (tagPart etag = tagPart tag)
  && (isEnd || (decide (e.state ≠ 3) && decide (tagVt etag = tagVt tag)))

/-- A scan reads every set and the overflow buffer: all their stored errors are met (R62, R72). -/
def meetStore (s : State) (u : Nat) : State :=
  let s1 := meetEntryErrs s u false (tileAt s u).store
  meetEntryErrs s1 u true (tileAt s1 u).ovf

/-- A scan empties the store and the overflow buffer of the entries it discards. -/
def scanStart (tm : Nat) (t : Tile) (isEnd : Bool) (tag : W64) : Tile :=
  let gone := (t.store.filter (fun e => scanned isEnd tag e.2)) ++ (t.ovf.filter (fun e => scanned isEnd tag e.2))
  { t with
    store := t.store.filter (fun e => !(scanned isEnd tag e.2))
    ovf := t.ovf.filter (fun e => !(scanned isEnd tag e.2))
    scan := some { isEnd := isEnd, tag := tag, doneAt := tm + 4160,
                   count := (gone.filter (fun e => e.2.state != 3)).length } }

/-- Whether a control token is well formed and comes from a permitted source (Table 2.7). -/
def controlOk (t : Tile) (h : QTok) : Bool :=
  let tag := h.tok.tag
  decide (tagIter tag = 0) && decide (tagPort tag = 0) && decide (h.tok.val = 0)
  && (if tagNode tag = 0 then decide (h.src / 4 = 0x303) && decide (tagVt tag = 0)
      else decide (tagNode tag = 1) && decide (tilePart t = some (tagPart tag))
        && ((isTile (h.src / 4) && decide (h.src % 4 = 0)) || decide (h.src / 4 = 0x381) || decide (h.src / 4 = 0x383)))

/-- A control token at the head: CTX_PURGE where `purge`, otherwise CTX_END and every other opcode. -/
def controlToken (s : State) (u : Nat) (purge : Bool) : State :=
  if !(matcherFree s u) then s
  else
    match (tileAt s u).iq with
    | [] => s
    | h :: _ =>
      if tagKind h.tok.tag ≠ 2 ∨ decide (tagNode h.tok.tag = 1) ≠ purge then s
      else if !(controlOk (tileAt s u) h) then dropHead s u Kind.controlTokenInvalid h.src h.tok
      else
        let s1 := meetStore (popHead s u) u
        setTile s1 u (scanStart (tileNow s) (tileAt s1 u) (!purge) h.tok.tag)

/-- Whether a tile has a SPILL or FETCH outstanding, or one still to be sent for a MORE. -/
def overspillBusy (s : State) (u : Nat) : Bool :=
  !((tileAt s u).spl.moreQ.isEmpty) || s.outs.any (fun o => decide (o.unit = u) && (match o.use with
    | .fetch _ _ => true
    | .spill _ _ => true
    | _ => false))

/-- The CTX_END acknowledgements that no longer wait are sent (R308). -/
def ackEnds (s : State) (u : Nat) (l : List EndWait) : State :=
  match l with
  | [] => s
  | e :: r => ackEnds (sendMgmt s (rqId u 0) 0x303 e.part 0 (.ctxEndAck e.ctx e.count)) u r

/-- CTX_END is acknowledged once every SPILL and FETCH has completed and the fetch buffer is empty. -/
def settleEnds (s : State) (u : Nat) : State :=
  let t := tileAt s u
  if overspillBusy s u || !t.spl.fetchBuf.isEmpty then s
  else ackEnds (setTile s u { t with endWaits := [] }) u t.endWaits

/-- CONTROL_SCAN_DONE: the scan of 4,160 cc ends; a CTX_END joins those that wait for their acknowledgement. -/
def controlScanDone (s : State) (u : Nat) : State :=
  if !(tileRuns s u) then s
  else
    let t := tileAt s u
    match t.scan with
    | none => s
    | some c =>
      if tileNow s < c.doneAt then s
      else
        settleEnds (setTile s u { t with
          scan := none
          endWaits := if c.isEnd then t.endWaits ++ [⟨tagPart c.tag, tagCtx c.tag, c.count⟩] else t.endWaits }) u

/-! ### Dispatch (R57, R75, R79) -/

/-- The oldest entry of the numerically lowest non-empty level, and the queue without it. -/
def takeFire (q : List FireEntry) : Option (FireEntry × List FireEntry) :=
  match (List.range 8).find? (fun l => q.any (fun e => e.level == l)) with
  | none => none
  | some l =>
    match q.find? (fun e => e.level == l) with
    | some e => some (e, q.erase e)
    | none => none

/-- The g registers at dispatch: operands, tag in g4, stack top in g31, zero elsewhere (R79). -/
def dispatchRegs (e : FireEntry) (top : Nat) : List PWord :=
  (List.range 64).map (fun n =>
    if n < 4 then e.ops.getD n {}
    else if n = 4 then ⟨e.tag, false⟩
    else if n = 31 then ⟨BitVec.ofNat 64 top, false⟩
    else {})

/-- The predicates at dispatch: p0 reads 1, the others 0. -/
def dispatchPreds : List Bool := true :: List.replicate 7 false

/-- NODE_DISPATCH: the thread takes the oldest entry of the highest-priority level. An uncorrectable error of the
tile's registers or queues is met here (R471). -/
def nodeDispatch (s : State) (u : Nat) : State :=
  let t := tileAt s u
  if !(tileRuns s u) || t.thread.running then s
  else if t.stateErr then
    raise (setTile s u { t with stateErr := false }) Kind.tileStateUncorrectable (rqId u 0) (tilePart t) 0 0
  else
    match takeFire t.fq with
    | none => s
    | some (e, q) =>
      let slot := (t.bindings.findIdx? (fun b => b.valid && decide (b.part = tagPart e.tag)
        && decide (b.vtile = tagVt e.tag))).getD 0
      let th := t.thread
      setTile s u (settleHeld (now s) { t with
        fq := q
        spl := { t.spl with fireSince := none }
        thread := { th with
          running := true, slot := slot, itag := e.tag, pc := e.entry, serial := th.serial + 1, trapBank := false
          g := dispatchRegs e (t.stackReg.getD slot {}).top, p := dispatchPreds, depth := 0, stack := []
          pendG := [], pendV := [], block := none } })

/-! ### The send unit and the placement cache (R47 to R49, R51, R96) -/

/-- The cache entry of a virtual tile. -/
def pcacheFind (t : Tile) (part vt : Nat) : Option PlaceEntry :=
  match t.pcache.find? (fun e => match e with
    | some x => decide (x.part = part) && decide (x.vt = vt)
    | none => false) with
  | some (some x) => some x
  | _ => none

/-- A placement read for a virtual tile, unless one is outstanding; a reissued one takes another tag than `avoid` (R48). -/
def askPlace (s : State) (u part vt : Nat) (avoid : Option Nat) : State :=
  let t := tileAt s u
  if t.fills.any (fun f => decide (f.part = part) && decide (f.vt = vt)) then s
  else
    let o : OutReq := { unit := u, sub := 3, part := part, target := 0x30A, body := .placeRead vt, use := .fill vt, avoid := avoid }
    sendReq (setTile s u { t with fills := t.fills ++ [{ part := part, vt := vt, tag := sendTag s o }],
                                  pMisses := (t.pMisses + 1) % 2 ^ 24 }) o

/-- A token leaves for another tile, expecting an acknowledgement (R588). -/
def launchToken (s : State) (u : Nat) (e : PlaceEntry) (tok : Token) : State :=
  let pkt : Packet := { cls := 1, dest := e.unit, src := rqId u 0, part := e.part, body := .tokens e.gen [tok] true }
  sendPkt (modTile s u (fun t => { t with
    pHits := (t.pHits + 1) % 2 ^ 32
    ackPend := t.ackPend ++ [pkt]
    ackTimer := some (t.ackTimer.getD (tileNow s + e2eLimit s)) })) pkt

/-- What the head of the send unit does now: the state and whether it left. -/
def sendHead (s : State) (u : Nat) (e : SendEnt) : State × Bool :=
  let t := tileAt s u
  let part := tagPart e.tok.tag
  let vt := tagVt e.tok.tag
  match e.trail with
  | some h =>
    (sendReq s { unit := u, sub := 0, part := part, target := 0x305, body := .gateToken h e.tok,
                 use := .trailSend e.tok, pc := e.pc, serial := e.serial, itag := e.itag, slot := e.slot, trapBank := e.trapBank }, true)
  | none =>
    match t.bindings.find? (fun b => b.valid && decide (b.part = part) && decide (b.vtile = vt)) with
    | some b =>
      if iqRoom t then (arriveToken s u (rqId u 0) part b.gen none e.tok, true) else (s, false)
    | none =>
      match pcacheFind t part vt with
      | some x => if tokenRoom s u x.unit then (launchToken s u x e.tok, true) else (s, false)
      | none => (askPlace s u part vt none, false)

/-- The send unit issues its sends in order until one must wait (R96). -/
def drainList (s : State) (u : Nat) (l : List SendEnt) : State :=
  match l with
  | [] => modTile s u (fun t => { t with send := [] })
  | e :: r =>
    let (s1, went) := sendHead s u e
    if went then drainList s1 u r else modTile s1 u (fun t => { t with send := e :: r })

/-- The send unit issues what it can. -/
def drainSends (s : State) (u : Nat) : State := drainList s u (tileAt s u).send

/-- A token packet has left the network: the tile that sent it sends on where its send unit waited for room (R331). -/
def sendOn (s : State) (u : Nat) : State := if isTile u && tileRuns s u && !((tileAt s u).send.isEmpty) then drainSends s u else s

/-- TOKEN_ARRIVAL: a token packet reaches the tile that serves its destination (R333). It waits in the router while there is no credit
for it or the input queue lacks 4 entries, and it enters also during a slice (R73, R526); a quarantined tile's traffic is dropped
without a fault (R474), and a unit that takes no tokens drops the packet with NOC_HEADER_INVALID (R325). -/
def tokenArrival (s : State) (u src part gen : Nat) (toks : List Token) (ack : Bool) (handle : Option Nat) : State :=
  let body : Body := match handle with
    | some h => .actTokens gen toks h
    | none => .tokens gen toks ack
  let pkt : Packet := { cls := 1, dest := u, src := src, part := part, tag := 0, body := body }
  let ph := steer s u
  if !(working s && isUnit u && arrivable s pkt) then s
  else if !(isTile u) then sendOn (dropPkt s u pkt) (src / 4)
  else if (tileAt s ph).excluded then sendOn (takePkt s pkt) (src / 4)
  else if decide ((tileAt s ph).iqCredits = 0) || !(iqRoom (tileAt s ph)) then s
  else
    let s1 := modTile (arriveTokens (takePkt s pkt) ph src part gen handle toks) ph useCredit
    sendOn (if ack then modTile s1 ph (fun t => { t with ackOwed := oweAck (now s) src t.ackOwed }) else s1) (src / 4)

/-- Slot and generation are written into a waiting memory request. -/
def fillBody (b : Body) (e : PlaceEntry) : Body :=
  let w (m : MemWord) : MemWord := { m with slot := e.slot, gen := e.gen }
  match b with
  | .readWord m => .readWord (w m)
  | .readLine m => .readLine (w m)
  | .readBulk m => .readBulk (w m)
  | .writeWord m n d => .writeWord (w m) n d
  | .aadd m n d => .aadd (w m) n d
  | .lineWrite l x bk d p => .lineWrite (l % 2 ^ 14 + 2 ^ 16 * e.slot) x bk d p
  | .xferLine l x d p r => .xferLine (l % 2 ^ 14 + 2 ^ 16 * e.slot) x d p r
  | b => b

/-- The memory requests that waited for a virtual tile are sent. -/
def sendWaits (s : State) (e : PlaceEntry) (l : List MemWait) : State :=
  match l with
  | [] => s
  | m :: r => sendWaits (sendReq s { m.req with target := e.unit, body := fillBody m.req.body e }) e r

/-- A fill enters the cache at the round-robin pointer; what waited for it goes on. -/
def cacheFill (s : State) (u : Nat) (e : PlaceEntry) : State :=
  let t := tileAt s u
  let mine := t.memWait.filter (fun m => decide (m.vt = e.vt))
  let s1 := setTile s u { t with pcache := t.pcache.set t.pptr (some e), pptr := (t.pptr + 1) % 64
                                 memWait := t.memWait.filter (fun m => !(decide (m.vt = e.vt))) }
  drainSends (sendWaits s1 e mine) u

/-- PLACE_INVALIDATE: matching cache entries go, matching fills become void, then the tile acknowledges (R49). A tile takes MGMT
whatever it does, in a slice, in a gated cycle and in Safe too (R329, R345, R526). -/
def placeInvalidate (s : State) (u part first last : Nat) : State :=
  let p : Packet := { cls := 0, dest := u, src := rqId 0x30A 0, part := part, body := .placeInvalidate first last }
  if !(clocked s && isUnit u && arrivable s p) then s
  else if !(isTile u) then dropPkt s u p
  else
    let hit (p v : Nat) : Bool := decide (p = part) && decide (first ≤ v) && decide (v ≤ last)
    let s1 := modTile (takePkt s p) u (fun t => { t with
      pcache := t.pcache.map (fun e => match e with
        | some x => if hit x.part x.vt then none else some x
        | none => none)
      fills := t.fills.map (fun f => if hit f.part f.vt then { f with void := true } else f)
      pInval := (t.pInval + 1) % 256 })
    sendMgmt s1 (rqId u 3) 0x30A part 0 .placeInvAck

end Sys2Proof.Machine
end

