-- ==== Sys2Proof/Machine/NodeCode.lean ====
section
/-! DEFINITION. Node code (chapter 3): issue and its checks, abandonment, registers, integer, float and lane
operations, loads and stores, calls and the stack cache, traps. -/

namespace Sys2Proof.Machine

/-! ### The thread, records and abandonment -/

/-- The thread of a tile changed by `f`. -/
def modThread (s : State) (u : Nat) (f : Thread → Thread) : State :=
  modTile s u (fun t => { t with thread := f t.thread })

/-- The binding that the running node's virtual tile has. -/
def nodeBinding (t : Tile) : Binding := t.bindings.getD t.thread.slot {}

/-- ADDR of a node-code record (Table 16.2). -/
def nodeAddr (pc slot vt reg file : Nat) (trap : Bool) : Nat :=
  pc % 2 ^ 17 + 2 ^ 17 * b2n trap + 2 ^ 18 * (slot % 4) + 2 ^ 20 * (vt % 1024) + 2 ^ 32 * (reg % 64) + 2 ^ 38 * (file % 4)

/-- What a request or send of the running node notes of it for a later record: address, serial number, instance tag, binding slot and
bank (R97, R587). -/
def threadReq (t : Tile) : OutReq :=
  { part := (nodeBinding t).part, pc := t.thread.pc, serial := t.thread.serial, itag := t.thread.itag, slot := t.thread.slot
    trapBank := t.thread.trapBank }

/-- ADDR of a node-code record about a request of a node, which may have ended since (Table 16.2, R587). -/
def reqAddr (o : OutReq) : Nat := nodeAddr o.pc o.slot (tagVt o.itag) 0 0 o.trapBank

/-- A node-code record about the running node at its present instruction. -/
def nodeRecord (s : State) (u kind reg file : Nat) (detail : Nat) (orphan : Option Nat) : State :=
  let t := tileAt s u
  let b := nodeBinding t
  raiseAbout s kind (rqId u 0) u (some b.part)
    (nodeAddr t.thread.pc t.thread.slot b.vtile reg file t.thread.trapBank) detail orphan

/-- The thread after its node ends: idle, with the stack cache discarded (R102, R114). -/
def endNode (th : Thread) : Thread :=
  { th with running := false, stack := [], depth := 0, trapBank := false, block := none, pendG := [], pendV := [] }

/-- A node is abandoned (R114): its record has ORPHAN set (R473), and the thread goes idle. -/
def abandonAt (s : State) (u kind reg file : Nat) : State :=
  modThread (nodeRecord s u kind reg file (tileAt s u).thread.itag.toNat (some 0)) u
    (fun th => { endNode th with abandoned := (th.abandoned + 1) % 2 ^ 32 })

/-- A node is abandoned for a fault that names no register. -/
def abandon (s : State) (u kind : Nat) : State := abandonAt s u kind 0 0

/-- A g register with its poison. -/
def gReg (s : State) (u r : Nat) : PWord := (tileAt s u).thread.g.getD r {}
/-- A g register's value as a number. -/
def gVal (s : State) (u r : Nat) : Nat := (gReg s u r).val.toNat
/-- A v register. -/
def vReg (s : State) (u r : Nat) : VReg := (tileAt s u).v.getD r {}
/-- A predicate; p0 reads 1. -/
def pReg (s : State) (u p : Nat) : Bool := if p = 0 then true else (tileAt s u).thread.p.getD p false

/-- A g register written. -/
def setG (s : State) (u r : Nat) (v : Nat) (poison : Bool) : State :=
  modThread s u (fun th => { th with g := th.g.set r ⟨BitVec.ofNat 64 v, poison⟩ })
/-- A predicate written; a write of p0 is ignored. -/
def setP (s : State) (u p : Nat) (v : Bool) : State :=
  modThread s u (fun th => { th with p := if p = 0 then th.p else th.p.set p v })
/-- A v register written. -/
def setV (s : State) (u r : Nat) (v : VReg) : State := modTile s u (fun t => { t with v := t.v.set r v })

/-- The thread goes on at the next instruction. -/
def advance (s : State) (u : Nat) (i : Ins) : State := modThread s u (fun th => { th with pc := th.pc + i.len })

/-- The code region of the running node's virtual tile: first byte and the byte after the last (Table 3.10). -/
def codeRegion (t : Tile) (slot : Nat) : Nat × Nat :=
  let c := t.code.getD slot {}
  (256 * c.base, 256 * c.base + 256 * (c.sizeM1 + 1))

/-- Whether an address lies in the code region of the running node. -/
def inRegion (s : State) (u a : Nat) : Bool :=
  let r := codeRegion (tileAt s u) (tileAt s u).thread.slot
  decide (r.1 ≤ a) && decide (a < r.2)

/-- The first poisoned g register of a list, and what follows where there is none (R93). -/
def consumeG (s : State) (u : Nat) (rs : List Nat) (k : State → State) : State :=
  match rs.find? (fun r => (gReg s u r).poison) with
  | some r => abandonAt s u Kind.poisonConsumed r 0
  | none => k s

/-- The first poisoned v register of a list, and what follows where there is none (R93). -/
def consumeV (s : State) (u : Nat) (rs : List Nat) (k : State → State) : State :=
  match rs.find? (fun r => (vReg s u r).poison) with
  | some r => abandonAt s u Kind.poisonConsumed r 1
  | none => k s

/-! ### Issue -/

/-- The g registers that an instruction names. -/
def insG (i : Ins) : List Nat :=
  let regs := match i.op with
    | .ld | .st => if i.lead.vec then [i.b] else [i.a, i.b]
    | .plog | .nop | .done | .rett | .trap | .br | .fence => []
    | .cmp _ => [i.b, i.c]
    | .vbcast | .vins => [i.b]
    | .vext | .vred | .movi | .rdsys | .movt | .lockstep | .ctxa => [i.a]
    | .movtw => [i.b]
    | .call | .callr | .ret => List.range 64
    | .alui _ | .mov | .fcvt => if i.lead.vec then [] else [i.a, i.b]
    | _ => if i.lead.vec then [] else [i.a, i.b, i.c]
  match i.lead.trail with
  | some r => r :: regs
  | none => regs

/-- The v registers that an instruction names. -/
def insV (i : Ins) : List Nat :=
  match i.op with
  | .ld | .st => if i.lead.vec then [i.a] else []
  | .vbcast | .vins => [i.a]
  | .vext | .vred => [i.b]
  | _ => if i.lead.vec then [i.a, i.b, i.c] else []

/-- Whether the interlock holds an instruction: a register it names waits for a load. -/
def interlocked (th : Thread) (i : Ins) : Bool :=
  (insG i).any (fun r => th.pendG.contains r) || (insV i).any (fun r => th.pendV.contains r)

/-- Whether an operation is legal only in the trap bank (R85, R112). -/
def trapOnly (o : NOp) : Bool :=
  match o with
  | .movt | .movtw | .rett => true
  | _ => false

/-- Whether the send at the head of the send unit goes to a virtual tile of the own tile and finds fewer than 4 input-queue entries
free: it stalls the sending node (R51, Table 2.9). -/
def localStall (t : Tile) : Bool :=
  match t.send with
  | e :: _ => e.trail.isNone && !(iqRoom t)
      && t.bindings.any (fun b => b.valid && decide (b.part = tagPart e.tok.tag) && decide (b.vtile = tagVt e.tok.tag))
  | [] => false

/-- Whether the thread may issue: it runs a node, is neither blocked nor stalled by a local-path send, and the tile is clocked. -/
def canIssue (s : State) (u : Nat) : Bool :=
  tileRuns s u && (tileAt s u).thread.running && (tileAt s u).thread.block.isNone && !(localStall (tileAt s u))

/-- One instruction issues (R81 to R87, R110, R470). The command names the operation; where the instruction at the
thread's address is another, the command's event does not occur and nothing changes. -/
def issue (s : State) (u : Nat) (want : NOp → Bool) (run : Ins → State → State) : State :=
  if !(canIssue s u) then s
  else
    let t := tileAt s u
    let pc := t.thread.pc
    let hi := (codeRegion t t.thread.slot).2
    if !(inRegion s u pc) then abandon s u Kind.codeBounds
    else
      let bytes := ByteMem.rdBytes t.istore pc (min 15 (hi - pc))
      match decodeNode bytes with
      | .illegal =>
        (match fetchLines s u (pc / 64) 1 with
         | (s1, some _) => abandon s1 u Kind.istoreUncorrectable
         | (s1, none) => abandon s1 u Kind.illegalInstruction)
      | .short =>
        (match fetchLines s u (pc / 64) 1 with
         | (s1, some _) => abandon s1 u Kind.istoreUncorrectable
         | (s1, none) => abandon s1 u Kind.codeBounds)
      | .ok i =>
        match fetchLines s u (pc / 64) ((pc + i.len - 1) / 64 - pc / 64 + 1) with
        | (s1, some _) => abandon s1 u Kind.istoreUncorrectable
        | (s1, none) =>
          if trapOnly i.op && !t.thread.trapBank then abandon s1 u Kind.illegalInstruction
          else if !(want i.op) then s
          else if (match i.lead.pred with
              | some (p, v) => pReg s1 u p != v
              | none => false) then advance s1 u i
          else if interlocked t.thread i then s
          else run i s1

/-! ### Integer, predicate, float, moves -/

/-- The width of a scalar operation. -/
def scalarW (i : Ins) : Nat := i.lead.width.getD 64
/-- The width of a lane operation. -/
def laneW (i : Ins) : Nat := i.lead.width.getD 32

/-- An integer operation of two registers. -/
def runAlu (u : Nat) (i : Ins) (o : AluOp) (s : State) : State :=
  if i.lead.vec then
    consumeV s u [i.b, i.c] (fun s =>
      let a := (vReg s u i.b).val.toNat
      let b := (vReg s u i.c).val.toNat
      let w := laneW i
      advance (setV s u i.a ⟨vecOf w (fun n => aluVal w o (lane w a n) (lane w b n)), false⟩) u i)
  else
    consumeG s u [i.b, i.c] (fun s =>
      advance (setG s u i.a (aluVal (scalarW i) o (gVal s u i.b) (gVal s u i.c)) false) u i)

/-- An integer operation with an immediate. -/
def runAlui (u : Nat) (i : Ins) (o : AluOp) (s : State) : State :=
  if i.lead.vec then
    consumeV s u [i.b] (fun s =>
      let a := (vReg s u i.b).val.toNat
      let w := laneW i
      advance (setV s u i.a ⟨vecOf w (fun n => aluVal w o (lane w a n) (narrow w i.imm)), false⟩) u i)
  else
    consumeG s u [i.b] (fun s =>
      advance (setG s u i.a (aluVal (scalarW i) o (gVal s u i.b) (narrow 64 i.imm)) false) u i)

/-- A compare into a predicate. -/
def runCmp (u : Nat) (i : Ins) (o : CmpOp) (s : State) : State :=
  consumeG s u [i.b, i.c] (fun s =>
    advance (setP s u i.a (cmpVal (scalarW i) o (gVal s u i.b) (gVal s u i.c))) u i)

/-- A float operation; FMA reads the destination too. -/
def runFlt (u : Nat) (i : Ins) (o : FltOp) (s : State) : State :=
  let srcs := if o = .fma then [i.b, i.c, i.a] else [i.b, i.c]
  if i.lead.vec then
    consumeV s u srcs (fun s =>
      let d := (vReg s u i.a).val.toNat
      let a := (vReg s u i.b).val.toNat
      let b := (vReg s u i.c).val.toNat
      advance (setV s u i.a ⟨vecOf 32 (fun n => fltVal o (lane 32 d n) (lane 32 a n) (lane 32 b n)), false⟩) u i)
  else
    consumeG s u srcs (fun s =>
      advance (setG s u i.a (fltVal o (gVal s u i.a % 2 ^ 32) (gVal s u i.b % 2 ^ 32) (gVal s u i.c % 2 ^ 32)) false) u i)

/-- FCVT. -/
def runFcvt (u : Nat) (i : Ins) (s : State) : State :=
  let f (n : Nat) : Nat := (fCvt i.imm.toNat n).getD 0
  if i.lead.vec then
    consumeV s u [i.b] (fun s =>
      let a := (vReg s u i.b).val.toNat
      advance (setV s u i.a ⟨vecOf 32 (fun n => f (lane 32 a n)), false⟩) u i)
  else consumeG s u [i.b] (fun s => advance (setG s u i.a (f (gVal s u i.b % 2 ^ 32)) false) u i)

/-- MOV copies poison (R80). -/
def runMov (u : Nat) (i : Ins) (s : State) : State :=
  if i.lead.vec then advance (setV s u i.a (vReg s u i.b)) u i
  else advance (setG s u i.a (gVal s u i.b) (gReg s u i.b).poison) u i

/-- What RDSYS reads (Table 3.5). Selector 1 gives the physical unit identifier, so a program on a spare reads the spare's own, although
R20 says that a program cannot tell: of the two the model follows Table 3.5 (DESIGN CHOICE, log entry 121). -/
def sysVal (s : State) (u sel : Nat) : Nat :=
  let t := tileAt s u
  match sel with
  | 0 => now s % 2 ^ 64
  | 1 => u
  | 2 => t.thread.slot
  | 3 => (nodeBinding t).vtile
  | 4 => (nodeBinding t).part
  | 5 => t.fq.length
  | _ => t.thread.depth

/-- VBCAST, VEXT, VINS, VRED (R586). -/
def runVbcast (u : Nat) (i : Ins) (s : State) : State :=
  consumeG s u [i.b] (fun s =>
    let x := gVal s u i.b
    advance (setV s u i.a ⟨vecOf (laneW i) (fun _ => x), false⟩) u i)
/-- VEXT writes one lane, zero-extended. -/
def runVext (u : Nat) (i : Ins) (s : State) : State :=
  consumeV s u [i.b] (fun s =>
    advance (setG s u i.a (lane (laneW i) (vReg s u i.b).val.toNat i.imm.toNat) false) u i)
/-- VINS writes one lane and keeps the others and the poison of vd. -/
def runVins (u : Nat) (i : Ins) (s : State) : State :=
  consumeG s u [i.b] (fun s =>
    let d := vReg s u i.a
    let x := gVal s u i.b
    let w := laneW i
    advance (setV s u i.a ⟨vecOf w (fun n => if n = i.imm.toNat then x else lane w d.val.toNat n), d.poison⟩) u i)
/-- VRED reduces the lanes. -/
def runVred (u : Nat) (i : Ins) (s : State) : State :=
  consumeV s u [i.b] (fun s =>
    advance (setG s u i.a (vredVal (laneW i) i.imm.toNat (vReg s u i.b).val) false) u i)

/-! ### Branches, calls, traps -/

/-- A branch to `target`: taken inside the code region, otherwise CODE_BOUNDS (R110). -/
def jumpTo (s : State) (u target : Nat) : State :=
  if inRegion s u target then modThread s u (fun th => { th with pc := target }) else abandon s u Kind.codeBounds

/-- The address that an offset from the next instruction names (R84). -/
def relTarget (s : State) (u : Nat) (i : Ins) : Nat :=
  narrow 64 (((tileAt s u).thread.pc + i.len : Nat) + i.imm)

/-- A trap: into the trap bank with cause, resume address and detail, or TRAP_UNHANDLED (R111). -/
def enterTrap (s : State) (u cause resume detail : Nat) : State :=
  let t := tileAt s u
  let c := t.code.getD t.thread.slot {}
  if c.trapValid then
    modThread s u (fun th => { th with
      trapBank := true, pc := 4 * c.trapEntry
      t := ((th.t.set 0 (BitVec.ofNat 64 cause)).set 1 (BitVec.ofNat 64 resume)).set 2 (BitVec.ofNat 64 detail) })
  else abandon s u Kind.trapUnhandled

/-- The registers of a CALL mask, in ascending order. -/
def maskRegs (mask : Nat) : List Nat := ((List.range 32).filter (fun j => bit mask j)).map (fun j => 32 + j)

/-- The physical frame address of a stack word. -/
def stackPa (t : Tile) (a : Nat) : Nat := 4096 * (t.vtFrame.getD t.thread.slot {}).base + a

/-- Words of the stack cache are written to their frame-window addresses. -/
def spillWords (s : State) (u : Nat) (ws : List (Nat × PWord)) : State :=
  match ws with
  | [] => s
  | (a, w) :: r => spillWords (frameWrite s u (stackPa (tileAt s u) a) 8 w.val.toNat w.poison) u r

/-- The oldest entries leave the cache in groups of 8 until `n` fit (R109). -/
def makeRoom (s : State) (u n fuel : Nat) : State :=
  match fuel with
  | 0 => s
  | k + 1 =>
    let st := (tileAt s u).thread.stack
    if st.length + n ≤ 32 then s
    else
      let keep := st.take (st.length - 8)
      makeRoom (modThread (spillWords s u (st.drop (st.length - 8)).reverse) u (fun th => { th with stack := keep })) u n k

/-- A frame is pushed, its words listed from the highest address down to the header (R109). -/
def pushFrame (s : State) (u : Nat) (ws : List (Nat × PWord)) : State :=
  if ws.length ≤ 32 then
    modThread (makeRoom s u ws.length 5) u (fun th => { th with stack := ws.reverse ++ th.stack })
  else
    let s1 := spillWords (modThread s u (fun th => { th with stack := [] })) u (tileAt s u).thread.stack
    let direct := ws.take (ws.length - 32)
    modThread (spillWords s1 u direct) u (fun th => { th with stack := (ws.drop (ws.length - 32)).reverse })

/-- The stack frame that CALL pushes: saved registers above the header word of Table 3.7. -/
def callFrame (s : State) (u mask ret base : Nat) : List (Nat × PWord) :=
  let regs := maskRegs mask
  let saved := ((List.range regs.length).map (fun j => (base + 8 * (j + 1), gReg s u (regs.getD j 0)))).reverse
  saved ++ [(base, ⟨BitVec.ofNat 64 (2 ^ 32 * mask + ret % 2 ^ 17), false⟩)]

/-- CALL and CALLR (R107, R111, R113). -/
def doCall (s : State) (u : Nat) (i : Ins) (target : Nat) : State :=
  let t := tileAt s u
  let th := t.thread
  let k := (maskRegs i.mask).length
  let sp := gVal s u 31
  let need := 8 * (k + 1)
  if sp < need + (t.stackReg.getD th.slot {}).limit then enterTrap s u 1 th.pc (k + 1)
  else if !(inRegion s u target) then abandon s u Kind.codeBounds
  else
    let base := sp - need
    let s1 := pushFrame s u (callFrame s u i.mask (th.pc + i.len) base)
    modThread (setG s1 u 31 base false) u (fun th => { th with pc := target, depth := th.depth + k + 1 })

/-- A stack word: from the cache, or from memory. -/
def stackWord (s : State) (u a : Nat) : PWord :=
  let t := tileAt s u
  match t.thread.stack.find? (fun x => decide (x.1 = a)) with
  | some x => x.2
  | none => ⟨BitVec.ofNat 64 (ByteMem.rdN t.frame (stackPa t a) 8), NSet.has t.framePoison (stackPa t a / 8)⟩

/-- Words that a pop needs and that are not cached are read from memory in groups of 8, as far as the stack
holds words; what the pop does not take stays cached (R109). -/
def fillStack (s : State) (u base n : Nat) : State :=
  let t := tileAt s u
  let have_ := t.thread.stack.length
  if n ≤ have_ then s
  else
    let want := min (have_ + 8 * ((n - have_ + 7) / 8)) t.thread.depth
    let addrs := (List.range (want - have_)).map (fun j => base + 8 * (have_ + j))
    let s1 := addrs.foldl (fun s a => meetFrameErr s u (stackPa (tileAt s u) a / 8)) s
    modThread s1 u (fun th => { th with stack := th.stack ++ addrs.map (fun a => (a, stackWord s1 u a)) })

/-- RET (R108). -/
def doRet (s : State) (u : Nat) : State :=
  let sp := gVal s u 31
  if (tileAt s u).thread.depth = 0 then abandon s u Kind.stackUnderflow
  else
    let s1 := fillStack s u sp 1
    let h := stackWord s1 u sp
    if h.poison then abandonAt s1 u Kind.poisonConsumed 31 0
    else
      let regs := maskRegs (bits h.val.toNat 63 32)
      let k := regs.length
      let ret := bits h.val.toNat 16 0
      if !(inRegion s1 u ret) then abandon s1 u Kind.codeBounds
      else
        let s2 := fillStack s1 u sp (k + 1)
        let s3 := (List.range k).foldl (fun a j =>
          let w := stackWord s2 u (sp + 8 * (j + 1))
          setG a u (regs.getD j 0) w.val.toNat w.poison) s2
        modThread (setG s3 u 31 (sp + 8 * (k + 1)) false) u (fun th => { th with
          pc := ret, depth := th.depth - (k + 1), stack := th.stack.drop (k + 1) })

/-! ### Loads and stores (R37, R91, R92) -/

/-- The effective address of a memory form (R83). -/
def effAddr (s : State) (u : Nat) (i : Ins) : Nat := narrow 64 ((gVal s u i.b : Int) + i.imm)

/-- The bytes of an access. -/
def accBytes (i : Ins) : Nat := if i.lead.vec then 256 else scalarW i / 8
/-- The alignment of an access. -/
def accAlign (i : Ins) : Nat := if i.lead.vec then 64 else scalarW i / 8

/-- The first check that a misaligned access of `n` bytes breaks in a remote frame window: the window's own (R37) come
before alignment (R91). -/
def remoteMisaligned (s : State) (part vt off n : Nat) : Nat :=
  match placeOf s part vt with
  | none => Kind.addressUnmapped
  | some p =>
    if 4096 * ((tileAt s (steer s p.unit)).vtFrame.getD p.slot {}).size < off + n then Kind.frameWindowViolation
    else Kind.misalignedAccess

/-- The checks of R37 and then of alignment, in the order of R91, on an access of `n` bytes. -/
def checkAddr (s : State) (u a n align : Nat) (k : Where → State) : State :=
  match windowOf s (tileAt s u) (tileAt s u).thread.slot a n with
  | .unmapped => abandon s u Kind.addressUnmapped
  | .outside => abandon s u Kind.frameWindowViolation
  | .remote vt off =>
    if a % align ≠ 0 then abandon s u (remoteMisaligned s (nodeBinding (tileAt s u)).part vt off n) else k (.remote vt off)
  | w => if a % align ≠ 0 then abandon s u Kind.misalignedAccess else k w

/-- The thread's outstanding loads, stores and AADDs, waiting ones included: at most 8 (Table 3.9). -/
def memOut (s : State) (u : Nat) : Nat :=
  (s.outs.filter (fun o => decide (o.unit = u) && decide (o.sub = 0) && (match o.use with
    | .load _ _ _ _ => true
    | .store => true
    | .aadd _ _ => true
    | _ => false))).length + (tileAt s u).memWait.length

/-- The store slot that a bulk store of the thread holds. -/
def bulkSlot (o : OutReq) : Option Nat :=
  match o.use, o.body with
  | .store, .lineWrite _ x _ _ _ => some x
  | _, _ => none

/-- The lowest store slot that no outstanding bulk store of the thread uses, those that wait for a placement included (R589). -/
def storeSlot (s : State) (u : Nat) : Nat :=
  let used := ((s.outs ++ s.sendWait).filter (fun o => decide (o.unit = u) && decide (o.sub = 0))
    ++ (tileAt s u).memWait.map (fun m => m.req)).filterMap bulkSlot
  ((List.range 8).find? (fun n => !(used.contains n))).getD 0

/-- A memory request of the thread: `mk` gives its contents for the memory request word. It is sent at once, or
waits for the placement of a remote frame window. -/
def issueMem (s : State) (u : Nat) (i : Ins) (w : Where) (use : Use) (mk : MemWord → Body) : State :=
  let t := tileAt s u
  let part := (nodeBinding t).part
  let o : OutReq := { threadReq t with unit := u, use := use }
  let s1 := advance s u i
  match w with
  | .remote vt off =>
    let m : MemWord := { space := 0, vtile := vt, off := off }
    (match pcacheFind t part vt with
     | some e => sendReq (modTile s1 u (fun t => { t with pHits := (t.pHits + 1) % 2 ^ 32 }))
                   { o with target := e.unit, body := fillBody (mk m) e }
     | none => askPlace (modTile s1 u (fun t => { t with memWait := t.memWait ++ [⟨vt, { o with body := mk m }⟩] }))
                 u part vt none)
  | .stand ph off => sendReq s1 { o with target := standUnit ph,
                                         body := mk { space := 1, off := 0x100000 * (ph % 16) + off } }
  | .host iova => sendReq s1 { o with target := homeUnit s part, body := mk { space := 2, off := iova } }
  | _ => s1

/-- A load of own-frame bytes into its register (R80, R91). -/
def loadOwn (s : State) (u : Nat) (i : Ins) (sext : Bool) (pa : Nat) : State :=
  let (s1, v, p) := frameRead s u pa (accBytes i)
  if i.lead.vec then advance (setV s1 u i.a ⟨BitVec.ofNat 2048 v, p⟩) u i
  else advance (setG s1 u i.a (if sext then narrow 64 (signed (scalarW i) v) else v) p) u i

/-- LD and LDS. -/
def runLoad (u : Nat) (i : Ins) (sext : Bool) (s : State) : State :=
  consumeG s u [i.b] (fun s =>
    checkAddr s u (effAddr s u i) (accBytes i) (accAlign i) (fun w =>
      match w with
      | .own pa => loadOwn s u i sext pa
      | w =>
        if 8 ≤ memOut s u then s
        else
          let s1 := modThread s u (fun th => if i.lead.vec then { th with pendV := i.a :: th.pendV }
            else { th with pendG := i.a :: th.pendG })
          issueMem s1 u i w (.load i.a (scalarW i) sext i.lead.vec)
            (fun m => if i.lead.vec then .readBulk m else .readWord m)))

/-- The line of a bulk store for a memory request word (R323): stand lines and remote lines; a host store counts lines
from its base. -/
def bulkLine (m : MemWord) : Nat := if m.space = 2 then 0 else m.off / 64

/-- ST: the data's poison is carried, not consumed (R93). -/
def runStore (u : Nat) (i : Ins) (s : State) : State :=
  consumeG s u [i.b] (fun s =>
    checkAddr s u (effAddr s u i) (accBytes i) (accAlign i) (fun w =>
      match w with
      | .own pa =>
        if i.lead.vec then
          let d := vReg s u i.a
          advance (frameWriteWords s u pa 32 d.val.toNat (if d.poison then 2 ^ 32 - 1 else 0)) u i
        else
          advance (frameWrite s u pa (accBytes i) (gVal s u i.a) (gReg s u i.a).poison) u i
      | w =>
        if 8 ≤ memOut s u then s
        else if i.lead.vec then
          let d := vReg s u i.a
          let slot := storeSlot s u
          let data := leBytes 256 d.val.toNat
          let pz := if d.poison then 2 ^ 32 - 1 else 0
          let s1 := match w with
            | .host iova => sendPosted s (rqId u 0) (homeUnit s (nodeBinding (tileAt s u)).part)
                              (nodeBinding (tileAt s u)).part (.hostBase slot iova)
            | _ => s
          issueMem s1 u i w .store (fun m => .lineWrite (bulkLine m) slot true data pz)
        else
          issueMem s u i w .store (fun m => .writeWord m (scalarW i)
            ⟨BitVec.ofNat 64 (gVal s u i.a % 2 ^ scalarW i), (gReg s u i.a).poison⟩)))

/-- AADD (R91). -/
def runAadd (u : Nat) (i : Ins) (s : State) : State :=
  consumeG s u [i.b, i.c] (fun s =>
    checkAddr s u (effAddr s u i) (accBytes i) (accAlign i) (fun w =>
      match w with
      | .host _ => abandon s u Kind.atomicTargetInvalid
      | .own pa =>
        let n := accBytes i
        let (s1, old, p) := frameRead s u pa n
        let s2 := frameWrite s1 u pa n ((old + gVal s u i.c) % 2 ^ scalarW i) p
        advance (setG s2 u i.a old p) u i
      | w =>
        if 8 ≤ memOut s u then s
        else
          issueMem (modThread s u (fun th => { th with pendG := i.a :: th.pendG })) u i w (.aadd i.a (scalarW i))
            (fun m => .aadd m (scalarW i) (BitVec.ofNat 64 (gVal s u i.c)))))

/-- Whether every earlier store, AADD and send of the thread has been accepted by its target (R92). -/
def allAccepted (s : State) (u : Nat) : Bool :=
  let t := tileAt s u
  t.send.isEmpty && t.ackPend.isEmpty
  && t.memWait.all (fun m => match m.req.use with
      | .load _ _ _ _ => true
      | _ => false)
  && (s.outs ++ s.sendWait).all (fun o => !(decide (o.unit = u) && decide (o.sub = 0)) || (match o.use with
      | .store => false
      | .aadd _ _ => false
      | .trailSend _ => false
      | _ => true))

/-! ### Answers to loads, stores and AADDs (R326, R587) -/

/-- The fault that a refusal of a memory request stands for (R326). -/
def refusedKind (reason : Nat) : Nat :=
  if reason = 3 then Kind.frameWindowViolation
  else if reason = 6 then Kind.e2eTimeout
  else Kind.addressUnmapped

/-- Whether the node that issued a request still runs. -/
def issuerRuns (s : State) (o : OutReq) : Bool :=
  let th := (tileAt s o.unit).thread
  th.running && decide (th.serial = o.serial)

/-- A memory request fails with the record that `rec` makes (with its ORPHAN sub-requester): its node is abandoned where it
still runs; otherwise the fault is recorded alone (R587). -/
def memFailBy (s : State) (o : OutReq) (rec : State → Option Nat → State) : State :=
  if issuerRuns s o then
    modThread (rec s (some 0)) o.unit (fun th => { endNode th with abandoned := (th.abandoned + 1) % 2 ^ 32 })
  else rec s none

/-- A memory request fails with a fault of the node code. -/
def memFail (s : State) (o : OutReq) (kind : Nat) : State :=
  memFailBy s o (fun s orph => raiseAbout s kind (rqId o.unit 0) o.unit (some o.part) (reqAddr o) o.itag.toNat orph)

/-- A load or AADD that the eighth BUSY_RETRY ended writes the refusal to its register, where its node still runs (R94). -/
def memBusy (s : State) (o : OutReq) (w : W64) : State :=
  if !(issuerRuns s o) then s
  else match o.use with
    | .load rd _ _ false | .aadd rd _ =>
      modThread (setG s o.unit rd w.toNat false) o.unit (fun th => { th with pendG := th.pendG.erase rd })
    | .load rd _ _ true => modThread s o.unit (fun th => { th with pendV := th.pendV.erase rd })
    | _ => s

/-- The address bits below a word of a request, which select the bytes of a narrow access. -/
def reqLow (b : Body) : Nat :=
  match b with
  | .readWord m => m.off % 8
  | _ => 0

/-- A word that a load asked for reaches its register, where the issuing node still runs. -/
def memData (s : State) (o : OutReq) (r : Resp) : State :=
  if !(issuerRuns s o) then s
  else
    match o.use, r with
    | .load rd w sext _, .dataWord x =>
      let v := (x.val.toNat >>> (8 * reqLow o.body)) % 2 ^ w
      modThread (setG s o.unit rd (if sext then narrow 64 (signed w v) else v) x.poison) o.unit
        (fun th => { th with pendG := th.pendG.erase rd })
    | .load rd _ _ true, .dataBytes bs pz =>
      modThread (setV s o.unit rd ⟨BitVec.ofNat 2048 (leNat bs), decide (pz ≠ 0)⟩) o.unit
        (fun th => { th with pendV := th.pendV.erase rd })
    | .aadd rd w, .dataWord x =>
      modThread (setG s o.unit rd (x.val.toNat % 2 ^ w) x.poison) o.unit
        (fun th => { th with pendG := th.pendG.erase rd })
    | _, _ => s

end Sys2Proof.Machine
end

