-- ==== Sys2Proof/Machine/NodeService.lean ====
section
/-! DEFINITION. The node-code instructions that ask other units for a service: sends, contexts, activations, locks,
events, LOCKSTEP, and what ends their waits (R92, R95 to R106). -/

namespace Sys2Proof.Machine

/-! ### Sends -/

/-- A send enters the send unit, which holds 8; a full unit stalls the thread (R96). -/
def enterSend (s : State) (u : Nat) (i : Ins) (tag : W64) (v : PWord) : State :=
  let t := tileAt s u
  if 8 ≤ t.send.length then s
  else
    let e : SendEnt := { tok := ⟨v.val, tag, v.poison⟩, pc := t.thread.pc,
                         trail := i.lead.trail.map (fun r => gVal s u r % 2 ^ 32), serial := t.thread.serial
                         itag := t.thread.itag, slot := t.thread.slot, trapBank := t.thread.trapBank }
    drainSends (advance (setTile s u { t with send := t.send ++ [e] }) u i) u

/-- The registers that a send consumes: its tag register and its trail register; the value's poison is copied. -/
def sendRegs (i : Ins) (r : Nat) : List Nat :=
  match i.lead.trail with
  | some h => [r, h]
  | none => [r]

/-- SEND and SENDS: CONTEXT, ITERATION and VTILE from the tag register, NODE and PORT from the instruction (R95). -/
def runSend (u : Nat) (i : Ins) (sticky : Bool) (s : State) : State :=
  consumeG s u (sendRegs i i.b) (fun s =>
    let t := BitVec.ofNat 64 (gVal s u i.b)
    enterSend s u i (mkTag (nodeBinding (tileAt s u)).part (tagCtx t) (if sticky then 0 else tagIter t) (tagVt t)
      i.imm.toNat i.x (b2n sticky)) (gReg s u i.a))

/-- SENDR: the whole tag but PARTITION from a register; a KIND of 2 or 3 is illegal (R95, R85). -/
def runSendr (u : Nat) (i : Ins) (s : State) : State :=
  consumeG s u (sendRegs i i.b) (fun s =>
    let t := BitVec.ofNat 64 (gVal s u i.b)
    if 2 ≤ tagKind t then abandon s u Kind.illegalInstruction
    else enterSend s u i (mkTag (nodeBinding (tileAt s u)).part (tagCtx t) (tagIter t) (tagVt t) (tagNode t)
      (tagPort t) (tagKind t)) (gReg s u i.a))

/-- SENDC: a CTX_PURGE control token. -/
def runSendc (u : Nat) (i : Ins) (s : State) : State :=
  consumeG s u [i.a] (fun s =>
    let t := BitVec.ofNat 64 (gVal s u i.a)
    enterSend s u i (mkTag (nodeBinding (tileAt s u)).part (tagCtx t) 0 (tagVt t) 1 0 2) {})

/-! ### Requests whose result word goes to a register -/

/-- The thread sends a request and is blocked until its answer. While the tag window of R338 is closed it waits. -/
def askAndBlock (s : State) (u : Nat) (i : Ins) (target : Nat) (b : Body) (use : Use) : State :=
  let t := tileAt s u
  let part := (nodeBinding t).part
  if cachedOp b && !(windowOpen s (rqId u 0) part target) then s
  else
    let o : OutReq := { threadReq t with unit := u, target := target, body := b, use := use }
    modThread (sendReq (advance s u i) o) u (fun th => { th with block := some (.request target (sendTag s o)) })

/-- CTXA (R98). -/
def runCtxa (u : Nat) (i : Ins) (s : State) : State := askAndBlock s u i 0x303 .ctxAlloc (.result i.a)
/-- CTXR (R98). -/
def runCtxr (u : Nat) (i : Ins) (s : State) : State :=
  consumeG s u [i.b] (fun s => askAndBlock s u i 0x303 (.ctxRelease (gVal s u i.b)) (.result i.a))

/-- SPAWN and SPAWN_TRY (R99, R228). -/
def runSpawn (u : Nat) (i : Ins) (isTry : Bool) (s : State) : State :=
  let sw := gVal s u i.b
  consumeG s u (if bit sw 56 && !(gReg s u i.b).poison then [i.b, i.c, i.a] else [i.b, i.c]) (fun s =>
    let itag := (tileAt s u).thread.itag
    askAndBlock s u i 0x301 (.admission {
      spawn := BitVec.ofNat 64 sw
      arg := BitVec.ofNat 64 (gVal s u i.c)
      ctx := tagCtx itag
      iter := tagIter itag
      notify0 := if bit sw 56 then gVal s u i.a % 2 ^ 32 else 0xFFFFFFFF }) (.spawn i.a isTry))

/-- TAKE (R100, R245): to the stand scheduler of the tile, with the issuing virtual tile. -/
def runTake (u : Nat) (i : Ins) (s : State) : State :=
  consumeG s u [i.b] (fun s =>
    let t := tileAt s u
    let b := nodeBinding t
    let lim := gVal s u i.b
    let o : OutReq := { threadReq t with unit := u, target := 0x2C4 + standOf u, use := .take i.a
                                         body := .take i.imm.toNat b.vtile }
    modThread (sendReq (advance s u i) o) u (fun th => { th with
      block := some (.take i.a (sendTag s o) (if lim = 0 then none else some (tileNow s + lim)) false) }))

/-- COMPLETE waits until every earlier access has been accepted, then reports the activation (R101). -/
def runComplete (u : Nat) (i : Ins) (s : State) : State :=
  consumeG s u [i.a, i.b] (fun s =>
    let t := tileAt s u
    let part := (nodeBinding t).part
    if !(allAccepted s u) || !(windowOpen s (rqId u 0) part 0x301) then s
    else
      let h := gVal s u i.a % 2 ^ 32
      sendReq (advance s u i) { threadReq t with unit := u, target := 0x301, use := .complete h
                                                 body := .complete h (gVal s u i.b % 256) })

/-- LOCKSTEP waits for the kernel's entry (R103); an entry outside the code region raises CODE_BOUNDS. -/
def runLockstep (u : Nat) (i : Ins) (s : State) : State :=
  let e := 4 * i.imm.toNat
  if !(inRegion s u e) then abandon s u Kind.codeBounds
  else modThread (advance s u i) u (fun th => { th with block := some (.kernel i.a e (tileAt s u).thread.pc) })

/-- A lock operation of the thread on the cell named in ra (R104). -/
def runLock (u : Nat) (i : Ins) (op : LockOp) (s : State) : State :=
  consumeG s u [i.b] (fun s =>
    askAndBlock s u i 0x304 (.lockOp { op := op, word := gVal s u i.b, slot := (tileAt s u).thread.slot }) (.result i.a))

/-! ### Events -/

/-- A blocked WAITEV ends with the selected set bits, which it clears (R105). -/
def wakeEvent (s : State) (u : Nat) : State :=
  let t := tileAt s u
  match t.thread.block with
  | some (.waitEv rd mask _) =>
    if t.event &&& mask = 0 then s
    else
      let hit := t.event &&& mask
      modThread (setG (setTile s u { t with event := t.event - hit }) u rd hit false) u (fun th => { th with block := none })
  | _ => s

/-- EVENT_SET: bits of TIL.EVENT become set, and a WAITEV that selects one ends (R105). -/
def setEvent (s : State) (u mask : Nat) : State :=
  wakeEvent (modTile s u (fun t => { t with event := t.event ||| (mask % 16) })) u

/-- WAITEV (R105): a mask bit above [3] is illegal. -/
def runWaitev (u : Nat) (i : Ins) (s : State) : State :=
  consumeG s u [i.b, i.c] (fun s =>
    let mask := gVal s u i.b % 256
    let lim := gVal s u i.c
    if 16 ≤ mask then abandon s u Kind.illegalInstruction
    else
      wakeEvent (modThread (advance s u i) u (fun th => { th with
        block := some (.waitEv i.a mask (if lim = 0 then none else some (tileNow s + lim))) })) u)

/-- WAITEV_TIMEOUT: the limit passes and rd receives zero. -/
def waitevTimeout (s : State) (u : Nat) : State :=
  match (tileAt s u).thread.block with
  | some (.waitEv rd _ (some lim)) =>
    if !(tileRuns s u) || decide (tileNow s < lim) then s else modThread (setG s u rd 0 false) u (fun th => { th with block := none })
  | _ => s

/-- TAKE_TIMEOUT: the limit passes at the tile and a cancellation is sent (R246). -/
def takeTimeout (s : State) (u : Nat) : State :=
  let t := tileAt s u
  match t.thread.block with
  | some (.take rd tag (some lim) false) =>
    if !(tileRuns s u) || decide (tileNow s < lim) then s
    else
      modThread (sendReq s { unit := u, sub := 0, part := (nodeBinding t).part, target := 0x2C4 + standOf u,
                             body := .takeCancel tag, use := .takeCancel tag }) u
        (fun th => { th with block := some (.take rd tag (some lim) true) })
  | _ => s

/-! ### Ends of waits -/

/-- The thread is no longer blocked on the request with a target and tag; its register takes a word. -/
def unblock (s : State) (o : OutReq) (rd : Nat) (w : W64) : State :=
  if issuerRuns s o then
    modThread (setG s o.unit rd w.toNat false) o.unit (fun th => { th with block := none })
  else s

/-- ACTIVATION_HANDLE_INVALID for a COMPLETE that the scheduler answered invalid (R101, R248). -/
def completeInvalid (s : State) (o : OutReq) : State :=
  raise s Kind.activationHandleInvalid (rqId o.unit 0) (some o.part)
    (reqAddr o) o.itag.toNat

/-- The handle that a COMPLETE or TAKE's result word carries. -/
def resultFail (w : W64) : Bool := bit w.toNat 63
/-- STATUS of a result word. -/
def resultStatus (w : W64) : Nat := w.toNat % 256

/-- A RESULT reaches a tile's request: the result word is written and the thread goes on; a refused SPAWN repeats
every 64 cc with the same tag (R252); a dropped trail-tagged token raises TRAIL_TAG_INVALID (R97). -/
def tileResult (s : State) (o : OutReq) (w : W64) : State :=
  match o.use with
  | .result rd => unblock s o rd w
  | .spawn rd isTry =>
    if resultFail w && !isTry && (decide (resultStatus w = 0x09) || decide (resultStatus w = 0x0A)) then
      { s with outs := s.outs ++ [{ o with timer := none, againAt := some (tileNow s + 64) }] }
    else unblock s o rd w
  | .take rd => unblock s o rd w
  | .takeCancel tag =>
    if resultFail w then s
    else
      (match s.outs.find? (fun x => decide (x.unit = o.unit) && decide (x.target = o.target) && decide (x.tag = tag)
          && (match x.use with
            | .take _ => true
            | _ => false)) with
       | some x =>
         (match x.use with
          | .take rd => unblock { s with outs := s.outs.erase x } x rd (resultWord true 0 0x0B)
          | _ => s)
       | none => s)
  | .complete _ => if resultFail w then completeInvalid s o else s
  | .trailSend tok =>
    if resultFail w then
      raise s Kind.trailTagInvalid (rqId o.unit 0) (some o.part) (reqAddr o) tok.tag.toNat
    else s
  | _ => s

end Sys2Proof.Machine
end

