-- ==== Sys2Proof/Machine/Window.lean ====
section
/-! DEFINITION. Window jobs (chapter 6): the descriptor and its checks, the duration, the frame-memory accesses of a
job in order, and the arithmetic of convolution and pooling. -/

namespace Sys2Proof.Machine

/-! ### Sizes (R175, R177, R178, R182) -/

/-- Bytes of an element type: 0 int8, 1 bf16, 2 fp16, 3 wide. -/
def elemBytes (t : Nat) : Nat := if t = 0 then 1 else if t = 3 then 4 else 2
/-- Channels of a block: B. -/
def WJob.blockC (j : WJob) : Nat := if j.c32 then 32 else 16
/-- Bytes of an input pixel within a channel block. -/
def WJob.inPix (j : WJob) : Nat := j.blockC * elemBytes j.inT
/-- Bytes of an output pixel within a channel block. -/
def WJob.outPix (j : WJob) : Nat := j.blockC * elemBytes j.outT
/-- Whether the job is a convolution. -/
def WJob.conv (j : WJob) : Bool := decide (j.op = 1)

/-- An output dimension of R178, none where it is not valid. -/
def outDim (n pa pb d k st : Nat) : Option Nat :=
  let num : Int := (n : Int) + pa + pb - d * ((k : Int) - 1) - 1
  if num < 0 ∨ st = 0 then none
  else
    let v := num.toNat / st + 1
    if v ≤ 4096 then some v else none

/-- OH. -/
def WJob.oh (j : WJob) : Nat := (outDim j.inH j.pt j.pb j.dy j.kh j.sy).getD 0
/-- OW. -/
def WJob.ow (j : WJob) : Nat := (outDim j.inW j.pl j.pr j.dx j.kw j.sx).getD 0
/-- Groups of 16 output pixels in a row. -/
def WJob.rowGroups (j : WJob) : Nat := ceilDiv j.ow 16
/-- Whether the job adds a bias. -/
def WJob.hasBias (j : WJob) : Bool := j.conv && decide (j.biasBase ≠ 0xFFFFFFFF)

/-- Bytes of the input region. -/
def WJob.inLen (j : WJob) : Nat := (j.inC / j.blockC - 1) * j.inBlkP + (j.inH - 1) * j.inRowP + j.inW * j.inPix
/-- Bytes of the output region. -/
def WJob.outLen (j : WJob) : Nat :=
  (j.outC / j.blockC - 1) * j.outBlkP + (j.oh - 1) * j.outRowP + 16 * j.rowGroups * j.outPix
/-- Bytes of the weight region. -/
def WJob.wtLen (j : WJob) : Nat := 256 * j.kh * j.kw * (j.inC / 16) * (j.outC / 16) * elemBytes j.inT
/-- Bytes of the bias region. -/
def WJob.biasLen (j : WJob) : Nat := 4 * j.outC

/-- Whether the rows of a map overlap: `n` blocks of `h` rows of `rb` bytes at the pitches (R182); a map without rows has none that do. -/
def mapOverlaps (n h rb rowP blkP : Nat) : Bool :=
  decide (h ≠ 0) && ((decide (1 < h) && decide (rowP < rb))
  || (List.range (n - 1)).any (fun k =>
      let d := (k + 1) * blkP
      if rowP = 0 then decide (d < rb)
      else
        let q := d / rowP
        (decide (q ≤ h - 1) && decide (d % rowP < rb)) || (decide (q + 1 ≤ h - 1) && decide (rowP - d % rowP < rb))
        || (decide (h - 1 < q) && decide (d - (h - 1) * rowP < rb))))

/-- The fields of a descriptor of 64 bytes (Table 6.2). -/
def parseJob (d : Nat) : WJob :=
  let b (o n : Nat) : Nat := (d >>> (8 * o)) % 2 ^ (8 * n)
  let ty := b 1 1
  { op := b 0 1, inT := bits ty 1 0, outT := bits ty 3 2, c32 := bit ty 4, relu := bit ty 5, countPad := bit ty 6
    kh := b 2 1, kw := b 3 1, sy := bits (b 4 1) 3 0, sx := bits (b 4 1) 7 4, dy := bits (b 5 1) 3 0, dx := bits (b 5 1) 7 4
    pt := bits (b 6 2) 3 0, pb := bits (b 6 2) 7 4, pl := bits (b 6 2) 11 8, pr := bits (b 6 2) 15 12
    inH := b 8 2, inW := b 10 2, inC := b 12 2, outC := b 14 2
    inBase := b 0x10 4, inRowP := b 0x14 4, inBlkP := b 0x18 4, outBase := b 0x1C 4, outRowP := b 0x20 4, outBlkP := b 0x24 4
    wtBase := b 0x28 4, biasBase := b 0x2C 4, scale := b 0x30 4 }

/-- Check 1 of R182: reserved values, alignments, fields with a required value, overlapping rows. -/
def jobDescOk (j : WJob) (d : Nat) : Bool :=
  let al (x n : Nat) : Bool := decide (x % n = 0)
  [1, 2, 3].contains j.op && decide (j.inT ≠ 3) && !(bit (d >>> 8) 7) && decide (d / 2 ^ (8 * 0x34) = 0)
  && !(j.countPad && decide (j.op ≠ 3))
  && (j.conv || decide (j.outT = j.inT))
  && al j.inBase j.inPix && al j.inRowP 64 && decide (j.inW * j.inPix ≤ j.inRowP) && al j.inBlkP 64
  && al j.outBase 64 && al j.outRowP 64 && al j.outBlkP 64
  && (match outDim j.inW j.pl j.pr j.dx j.kw j.sx with
      | some w => decide (16 * ceilDiv w 16 * j.outPix ≤ j.outRowP)
      | none => true)
  && (if j.conv then al j.wtBase 64 && (decide (j.biasBase = 0xFFFFFFFF) || al j.biasBase 64)
      else decide (j.wtBase = 0) && decide (j.biasBase = 0xFFFFFFFF))
  && ((j.conv && decide (j.outT ≠ 3)) || decide (j.scale = 0))
  && !(mapOverlaps (j.inC / j.blockC) j.inH (j.inW * j.inPix) j.inRowP j.inBlkP)
  && !(mapOverlaps (j.outC / j.blockC) j.oh (16 * j.rowGroups * j.outPix) j.outRowP j.outBlkP)

/-- Check 3 of R182. -/
def jobGeometryOk (j : WJob) : Bool :=
  [j.sy, j.sx, j.dy, j.dx].all (fun x => decide (1 ≤ x) && decide (x ≤ 8))
  && [j.inH, j.inW].all (fun x => decide (1 ≤ x) && decide (x ≤ 4096))
  && [j.inC, j.outC].all (fun x => decide (x % j.blockC = 0) && decide (1 ≤ x) && decide (x ≤ 4096))
  && (j.conv || decide (j.outC = j.inC))
  && (outDim j.inH j.pt j.pb j.dy j.kh j.sy).isSome && (outDim j.inW j.pl j.pr j.dx j.kw j.sx).isSome

/-- Whether two byte ranges meet. -/
def rangesMeet (a la b lb : Nat) : Bool := decide (a < b + lb) && decide (b < a + la)

/-- The first check of R182 that a descriptor fails, as its fault kind; `win` is the frame window's size. -/
def jobCheck (j : WJob) (d win : Nat) : Option Nat :=
  if !(jobDescOk j d) then some Kind.windowDescInvalid
  else if !([j.kh, j.kw].all (fun x => decide (1 ≤ x) && decide (x ≤ 16))) then some Kind.windowFilterLimit
  else if !(jobGeometryOk j) then some Kind.windowGeometryInvalid
  else if !(decide (j.inBase + j.inLen ≤ win) && decide (j.outBase + j.outLen ≤ win)
      && (!j.conv || decide (j.wtBase + j.wtLen ≤ win)) && (!j.hasBias || decide (j.biasBase + j.biasLen ≤ win))) then
    some Kind.frameWindowViolation
  else if rangesMeet j.outBase j.outLen j.inBase j.inLen || (j.conv && rangesMeet j.outBase j.outLen j.wtBase j.wtLen)
      || (j.hasBias && rangesMeet j.outBase j.outLen j.biasBase j.biasLen) then some Kind.windowDescInvalid
  else none

/-! ### Duration and slots (R185, R186) -/

/-- Input reads of a step. -/
def WJob.inReads (j : WJob) : Nat := if j.inT = 0 then j.sx else 2 * j.sx
/-- Weight reads of a step. -/
def WJob.wtReads (j : WJob) : Nat := if j.conv then (if j.inT = 0 then 1 else 2) else 0
/-- P of Table 6.3. -/
def WJob.stepLen (j : WJob) : Nat :=
  if j.conv then (if j.inT = 0 then max 4 (2 * (j.sx + 1)) else max 16 (4 * (j.sx + 1)))
  else (if j.inT = 0 then 2 * j.sx else 4 * j.sx)
/-- Writes per 16 output channels: W_a. -/
def WJob.outWrites (j : WJob) : Nat := if j.outT = 0 then 1 else if j.outT = 3 then 4 else 2
/-- Steps of a group: taps, and for CONV blocks of 16 input channels. -/
def WJob.steps (j : WJob) : Nat := j.kh * j.kw * (if j.conv then j.inC / 16 else 1)
/-- Stream cycles of one group of 16 pixels and 16 output channels. -/
def WJob.groupLen (j : WJob) : Nat := j.steps * j.stepLen + 4 + 2 * (j.outWrites + b2n j.hasBias)
/-- D of Table 6.3. -/
def WJob.duration (j : WJob) : Nat := 8 + j.oh * j.rowGroups * (j.outC / 16) * j.groupLen

/-- What a job does in a slot. -/
inductive JAcc where
  | none
  | input (step n : Nat)
  | weight (step n : Nat)
  | bias
  | write (k : Nat)
  deriving DecidableEq, Repr

/-- The group of a job cycle: its number, and the cycle within it. -/
def WJob.groupAt (j : WJob) (r : Nat) : Nat × Nat := ((r - 9) / j.groupLen, (r - 9) % j.groupLen)

/-- The access of job cycle `r`. -/
def WJob.access (j : WJob) (r : Nat) : JAcc :=
  let w := (j.groupAt r).2
  let body := j.steps * j.stepLen
  if w < body then
    let n := w % j.stepLen / 2
    if w % 2 ≠ 0 then .none
    else if n < j.inReads then .input (w / j.stepLen) n
    else if n < j.inReads + j.wtReads then .weight (w / j.stepLen) (n - j.inReads)
    else .none
  else if w < body + 4 ∨ (w - body) % 2 ≠ 0 then .none
  else
    let n := (w - body - 4) / 2
    if j.hasBias then (if n = 0 then .bias else .write (n - 1)) else .write n

/-- Output row, pixel group and channel group of a group number. -/
def WJob.place (j : WJob) (q : Nat) : Nat × Nat × Nat :=
  let obs := j.outC / 16
  (q / obs / j.rowGroups, q / obs % j.rowGroups, q % obs)

/-- Filter row, filter column and input channel group of a step. -/
def WJob.tap (j : WJob) (ob step : Nat) : Nat × Nat × Nat :=
  if j.conv then
    let ib := j.inC / 16
    (step / ib / j.kw, step / ib % j.kw, step % ib)
  else (step / j.kw, step % j.kw, ob)

/-- The input row of a tap, where it is not padding. -/
def WJob.tapRow (j : WJob) (oy ky : Nat) : Option Nat :=
  let y : Int := (oy * j.sy + ky * j.dy : Nat) - (j.pt : Int)
  if 0 ≤ y ∧ y < j.inH then some y.toNat else none

/-- The input column of output column `ox` at a tap, where it is not padding. -/
def WJob.tapCol (j : WJob) (ox kx : Nat) : Option Nat :=
  let x : Int := (ox * j.sx + kx * j.dx : Nat) - (j.pl : Int)
  if 0 ≤ x ∧ x < j.inW then some x.toNat else none

/-- The bytes of the frame window that input read `n` of a step moves, as first byte and length for each pixel: the reads of a step
move the step's 16 channels of the 16 × SX pixels from the tap of the group's first output pixel on, 256 bytes each, without what
lies in the padding. The spec does not say which bytes a slot moves (DESIGN CHOICE, log entry 118). -/
def WJob.inputSpan (j : WJob) (oy g ob step n : Nat) : List (Nat × Nat) :=
  let (ky, kx, ib) := j.tap ob step
  match j.tapRow oy ky with
  | none => []
  | some y =>
    let px := 16 / elemBytes j.inT
    (List.range px).filterMap (fun i =>
      let x : Int := (16 * g * j.sx + kx * j.dx + px * n + i : Nat) - (j.pl : Int)
      if 0 ≤ x ∧ x < j.inW then
        some (j.inBase + 16 * ib / j.blockC * j.inBlkP + y * j.inRowP + (x.toNat * j.blockC + 16 * ib % j.blockC) * elemBytes j.inT,
              16 * elemBytes j.inT)
      else none)

/-- The bytes of a weight read. -/
def WJob.weightSpan (j : WJob) (ob step n : Nat) : Nat × Nat :=
  (j.wtBase + 256 * elemBytes j.inT * (ob * j.steps + step) + 256 * n, 256)

/-- The output pixels of a write, as pixel number within the group. -/
def WJob.writePixels (j : WJob) (k : Nat) : List Nat :=
  let n := 16 / j.outWrites
  (List.range n).map (fun i => n * k + i)

/-- The frame-window offset of the 16 channels of output pixel `p` of a group. -/
def WJob.outAt (j : WJob) (oy g ob p : Nat) : Nat :=
  j.outBase + 16 * ob / j.blockC * j.outBlkP + oy * j.outRowP + ((16 * g + p) * j.blockC + 16 * ob % j.blockC) * elemBytes j.outT

/-- The bytes of the frame window that job cycle `r` moves, as runs of first byte and length. -/
def WJob.span (j : WJob) (r : Nat) : List (Nat × Nat) :=
  let (oy, g, ob) := j.place (j.groupAt r).1
  match j.access r with
  | .none => []
  | .input st n => j.inputSpan oy g ob st n
  | .weight st n => [j.weightSpan ob st n]
  | .bias => [(j.biasBase + 64 * ob, 64)]
  | .write k => (j.writePixels k).map (fun p => (j.outAt oy g ob p, 16 * elemBytes j.outT))

/-- The 64-byte lines of a run of bytes. -/
def spanLines (x : Nat × Nat) : List Nat :=
  if x.2 = 0 then [] else (List.range ((x.1 + x.2 - 1) / 64 - x.1 / 64 + 1)).map (fun i => x.1 / 64 + i)

/-- The banks that a run of bytes uses (R130). -/
def spanBanks (x : Nat × Nat) : List Nat := (spanLines x).map (fun l => l % 16)

/-- The banks that an access of a job uses: those of the lines it touches, at most five (R186). -/
def jobBanks (l : List (Nat × Nat)) : List Nat :=
  (((l.flatMap spanLines).foldl (fun a x => if a.contains x then a else a ++ [x]) []).take 5).map (fun x => x % 16)

/-! ### Arithmetic (R181) -/

/-- The format of a float element type. -/
def elemFmt (t : Nat) : FFmt := if t = 1 then bf16 else if t = 2 then fp16 else f32

/-- The exact sum of values: NaN and infinities as IEEE 754, otherwise exact. -/
def fSumV (l : List FVal) : FVal :=
  match l with
  | [] => .fin true 0 0
  | a :: r =>
    match a, fSumV r with
    | .nan, _ => .nan
    | _, .nan => .nan
    | .inf x, .inf y => if x = y then .inf x else .nan
    | .inf x, .fin _ _ _ => .inf x
    | .fin _ _ _, .inf y => .inf y
    | .fin n1 m1 e1, .fin n2 m2 e2 =>
      let lo := min e1 e2
      let t := fScaled n1 m1 e1 lo + fScaled n2 m2 e2 lo
      .fin (if t = 0 then n1 && n2 else decide (t < 0)) t.natAbs lo

/-- A lane of WMACH or WMACF: the lane gains the exact sum of products, rounded once (R128). -/
def macFloat (fm : FFmt) (l : Nat) (xs ws : List Nat) : Nat :=
  fAddV f32 (fUnpack f32 l) (fSumV ((xs.zip ws).map (fun p => fMulV (fUnpack fm p.1) (fUnpack fm p.2))))

/-- A lane of WMAC: int32 accumulation of int8 products, modulo 2^32. -/
def macInt (l : Nat) (xs ws : List Nat) : Nat :=
  narrow 32 (signed 32 l + ((xs.zip ws).map (fun p => signed 8 p.1 * signed 8 p.2)).sum)

/-- 16 channels added to an accumulator: four additions of four channels for float input (R181). -/
def macStep (t l : Nat) (xs ws : List Nat) : Nat :=
  if t = 0 then macInt l xs ws
  else (List.range 4).foldl (fun a q => macFloat (elemFmt t) a ((xs.drop (4 * q)).take 4) ((ws.drop (4 * q)).take 4)) l

/-- A float value as an int8, ties to even, saturated; a NaN as for FCVT. -/
def fToI8 (a : Nat) : Nat :=
  let v := signed 32 (fToI32 a)
  narrow 8 (if v < -128 then -128 else if 127 < v then 127 else v)

/-- An fp32 value converted to the output type 0, 1 or 2. -/
def convOut (t a : Nat) : Nat :=
  if t = 0 then fToI8 a else if t = 1 then fPack bf16 (fUnpack f32 a) else fPack fp16 (fUnpack f32 a)

/-- An input element as fp32. -/
def elemF32 (t x : Nat) : Nat :=
  if t = 0 then fRoundInt f32 (signed 8 x) 0 false else fPack f32 (fUnpack (elemFmt t) x)

/-- The result of a convolution from its accumulation and bias. -/
def convResult (j : WJob) (acc bias : Nat) : Nat :=
  let s := if j.inT = 0 then (acc + bias) % 2 ^ 32 else fAdd acc bias
  if j.outT = 3 then
    (if j.relu then (if j.inT = 0 then (if signed 32 s < 0 then 0 else s) else fMax s 0) else s)
  else
    let f := fMul (if j.inT = 0 then fRoundInt f32 (signed 32 s) 0 false else s) j.scale
    convOut j.outT (if j.relu then fMax f 0 else f)

/-- The result of a pooling from its maximum or sum and the number of taps that were not padding. -/
def poolResult (j : WJob) (acc taps : Nat) : Nat :=
  if taps = 0 then 0
  else if j.op = 2 then
    (if j.inT = 0 then (if j.relu ∧ 2 ^ 31 ≤ acc then 0 else acc % 256) else convOut j.inT (if j.relu then fMax acc 0 else acc))
  else
    let sum := if j.inT = 0 then fRoundInt f32 (signed 32 acc) 0 false else acc
    let one := fRoundInt f32 1 0 false
    let n := if j.countPad then j.kh * j.kw else taps
    let f := fMul sum (fDiv one (fRoundInt f32 n 0 false))
    convOut j.inT (if j.relu then fMax f 0 else f)

/-- One tap of a pooling joins the running value: int8 values are held as int32, float ones as fp32. -/
def poolStep (j : WJob) (acc taps x : Nat) : Nat :=
  if j.inT = 0 then
    let v := narrow 32 (signed 8 x)
    if j.op = 2 then (if taps = 0 ∨ signed 32 acc < signed 32 v then v else acc) else (acc + v) % 2 ^ 32
  else
    let v := elemF32 j.inT x
    if j.op = 2 then (if taps = 0 then fMax v v else fMax acc v) else (if taps = 0 then fAdd 0 v else fAdd acc v)

/-! ### A job's accesses (R183, R186) -/

/-- The 16 channels of an input pixel, as the step's reads returned them. -/
def WJob.pixel (j : WJob) (ib y x : Nat) : List Nat :=
  let e := elemBytes j.inT
  let a := j.inBase + 16 * ib / j.blockC * j.inBlkP + y * j.inRowP + (x * j.blockC + 16 * ib % j.blockC) * e
  (List.range 16).map (fun c => ByteMem.rdN j.got (a + c * e) e)

/-- The weights of output channel `o` of a step, as the step's reads returned them. -/
def WJob.weights (j : WJob) (ob step o : Nat) : List Nat :=
  let e := elemBytes j.inT
  (List.range 16).map (fun c => ByteMem.rdN j.got (j.wtBase + e * (256 * (ob * j.steps + step) + 16 * o + c)) e)

/-- A step's taps join the running sums, for the pixels of the group below OW. -/
def WJob.runStep (j : WJob) (oy g ob step : Nat) : WJob :=
  let (ky, kx, ib) := j.tap ob step
  match j.tapRow oy ky with
  | none => j
  | some y =>
    let cols : List (Option (List Nat)) := (List.range 16).map (fun p =>
      if 16 * g + p < j.ow then (j.tapCol (16 * g + p) kx).map (fun x => j.pixel ib y x) else none)
    let ws := (List.range 16).map (fun o => if j.conv then j.weights ob step o else [])
    { j with
      acc := (List.range 256).map (fun n =>
        let old := j.acc.getD n 0
        match cols.getD (n / 16) none with
        | none => old
        | some px => if j.conv then macStep j.inT old px (ws.getD (n % 16) [])
                     else poolStep j old (j.taps.getD (n / 16) 0) (px.getD (n % 16) 0))
      taps := (List.range 16).map (fun p => j.taps.getD p 0 + (if (cols.getD p none).isSome then 1 else 0)) }

/-- The value of an output pixel's 16 channels, lowest channel first. -/
def WJob.pixelOut (j : WJob) (g p : Nat) : Nat :=
  packFields' (8 * elemBytes j.outT) ((List.range 16).map (fun o =>
    if j.ow ≤ 16 * g + p then 0
    else if j.conv then convResult j (j.acc.getD (16 * p + o) 0) (if j.hasBias then j.bias.getD o 0 else 0)
    else poolResult j (j.acc.getD (16 * p + o) 0) (j.taps.getD p 0)))
where
  packFields' (w : Nat) (l : List Nat) : Nat :=
    match l with
    | [] => 0
    | x :: r => x % 2 ^ w + 2 ^ w * packFields' w r

/-- The pixels of a write go to memory. -/
def writeJobPixels (s : State) (u base : Nat) (j : WJob) (oy g ob : Nat) (ps : List Nat) : State :=
  match ps with
  | [] => s
  | p :: r =>
    writeJobPixels (frameWriteWords s u (base + j.outAt oy g ob p) (2 * elemBytes j.outT) (j.pixelOut g p) 0) u base j oy g ob r

/-- The first poisoned word of a run of frame-window bytes. -/
def poisonedIn (t : Tile) (base a n : Nat) : Option Nat :=
  match t.framePoison.find? (fun w => decide ((base + a) / 8 ≤ w) && decide (w < (base + a) / 8 + wordsOf (base + a) n)) with
  | some w => some (8 * w - base)
  | none => none

/-- The stored errors of runs of frame-window bytes are met by their read. -/
def meetSpans (s : State) (u base : Nat) (l : List (Nat × Nat)) : State :=
  l.foldl (fun s x => meetFrameErrs s u ((base + x.1) / 8) (wordsOf (base + x.1) x.2)) s

/-- A job reads runs of frame-window bytes in this cycle (R125, R186): the state, the job with the bytes, and the frame offset of a
poisoned word. -/
def jobRead (s : State) (u base : Nat) (j : WJob) (l : List (Nat × Nat)) : State × WJob × Option Nat :=
  let s1 := meetSpans s u base l
  let t := tileAt s1 u
  (s1, { j with got := l.foldl (fun m x => ByteMem.wrBytes m x.1 (ByteMem.rdBytes t.frame (base + x.1) x.2)) j.got },
   l.findSome? (fun x => poisonedIn t base x.1 x.2))

/-- One access of a job at its cycle `next`: the state, the job after it, and the frame offset of a poisoned word that
stopped it. A step is computed once its last read is in. `base` is the frame window's first byte. -/
def jobAccess (s : State) (u base : Nat) (j : WJob) : State × WJob × Option Nat :=
  let r := j.next
  let (q, w) := j.groupAt r
  let (oy, g, ob) := j.place q
  let j0 : WJob := if w = 0 then { j with acc := List.replicate 256 0, taps := List.replicate 16 0, got := [] } else j
  let (s1, j1, bad) := match j.access r with
    | .input _ _ | .weight _ _ | .bias => jobRead s u base j0 (j.span r)
    | .write k => (writeJobPixels s u base j0 oy g ob (j0.writePixels k), j0, none)
    | .none => (s, j0, none)
  if bad.isSome then (s1, j0, bad)
  else
    let j2 := match j.access r with
      | .input st n => if !j.conv && decide (n + 1 = j.inReads) then { j1.runStep oy g ob st with got := [] } else j1
      | .weight st n => if n + 1 = j.wtReads then { j1.runStep oy g ob st with got := [] } else j1
      | .bias => { j1 with bias := (List.range 16).map (fun o => ByteMem.rdN j1.got (j.biasBase + 64 * ob + 4 * o) 4), got := [] }
      | _ => j1
    (s1, { j2 with next := r + 2 }, none)

end Sys2Proof.Machine
end

