-- ==== Sys2Proof/Machine/Lockstep.lean ====
section
/-! DEFINITION. Lockstep kernels (chapter 4): syllables and bundles, exact latencies as writes in flight, banks,
loops, counters, faults and the debug-mode detector. -/

namespace Sys2Proof.Machine

/-! ### Syllables (R117 to R119) -/

/-- A syllable: its address, unit, operation and operand bits (Table 4.1). -/
structure Syl where
  addr : Nat := 0
  unit : Nat := 0
  op : Nat := 0
  o : Nat := 0
  deriving DecidableEq, Repr

/-- A syllable from its 32 bits. -/
def sylOf (addr w : Nat) : Syl := { addr := addr, unit := bits w 30 28, op := bits w 27 22, o := bits w 21 0 }

/-- Field D, G, or A of FLP: bits [21:16]. -/
def Syl.d (y : Syl) : Nat := bits y.o 21 16
/-- Field A or BASE: bits [15:10]. -/
def Syl.a (y : Syl) : Nat := bits y.o 15 10
/-- Field B or IMM6: bits [9:4]. -/
def Syl.b (y : Syl) : Nat := bits y.o 9 4
/-- E. -/
def Syl.e (y : Syl) : Bool := bit y.o 3
/-- IMM16. -/
def Syl.imm16 (y : Syl) : Nat := bits y.o 15 0
/-- PD, or PN of FE: bits [18:16]. -/
def Syl.pd (y : Syl) : Nat := bits y.o 18 16
/-- CNT. -/
def Syl.cnt (y : Syl) : Nat := bits y.o 15 13
/-- DISP5, signed. -/
def Syl.disp (y : Syl) : Int := signed 5 (bits y.o 9 5)
/-- POST. -/
def Syl.post (y : Syl) : Bool := bit y.o 4

/-- Whether OP is listed and every field keeps R119 (Tables 4.2 and 4.3). -/
def Syl.legal (y : Syl) : Bool :=
  let g := decide (y.d ≠ 31)
  let v (r : Nat) : Bool := decide (r < 32)
  let p := decide (bits y.o 21 19 = 0) && decide (y.pd ≠ 0)
  let fc := decide (bits y.o 12 10 = 0) && decide (y.b = 0)
  match y.unit with
  | 0 =>
    if y.op = 0 then decide (y.d = 0)
    else if 1 ≤ y.op ∧ y.op ≤ 9 then g
    else if y.op = 0x11 ∨ y.op = 0x16 ∨ y.op = 0x17 ∨ y.op = 0x18 ∨ y.op = 0x28 then g
    else if y.op = 0x20 ∨ y.op = 0x21 ∨ y.op = 0x22 then p
    else if y.op = 0x30 then decide (bits y.o 3 0 = 0)
    else if y.op = 0x31 then g && decide (bits y.a 5 2 = 0) && decide (y.b = 0)
    else decide (y.op = 0x38) && decide (bits y.o 21 19 = 0)
  | 1 =>
    if (1 ≤ y.op ∧ y.op ≤ 0x0A) ∨ (0x10 ≤ y.op ∧ y.op ≤ 0x15) then v y.d && v y.a && v y.b
    else if y.op = 0x18 then v y.d && v y.a && decide (y.b ≤ 5)
    else if y.op = 0x20 then v y.d && v y.a && decide (y.b = 0)
    else decide (y.op = 0x21) && v y.d && decide (y.b = 0)
  | 2 =>
    let base := !(y.post && decide (y.a = 31))
    if y.op = 1 ∨ y.op = 2 then v y.d && base
    else if y.op = 3 then g && base
    else decide (y.op = 4) && base
  | 3 =>
    if 1 ≤ y.op ∧ y.op ≤ 3 then decide (y.d < 4) && v y.a && v y.b
    else if y.op = 8 then decide (y.d < 4) && decide (y.a = 0) && decide (y.b = 0)
    else if y.op = 9 then v y.d && decide (y.a < 4) && decide (y.b = 0)
    else decide (y.op = 0x10) && decide (y.d = 0) && decide (y.b = 0)
  | 4 =>
    if y.op = 1 then decide (y.cnt = 0) && fc
    else if y.op = 8 ∨ y.op = 0x10 then fc
    else decide (y.op = 9) && fc && g
  | _ => false

/-- A decoded bundle, or its first format fault with the record's slot (R144 rule 1). -/
inductive Bundle where
  | ok (ys : List Syl) (stop : Nat)
  | bad (kind slot : Nat)
  deriving DecidableEq, Repr

/-- The syllables of a bundle in address order: `hi` ends the code region, `last` is the unit of the syllable before. -/
def decodeBundle (m : ByteMem) (hi addr : Nat) (last : Option Nat) (fuel : Nat) : Bundle :=
  match fuel with
  | 0 => .bad Kind.bundleSlotInvalid 7
  | k + 1 =>
    if hi < addr + 4 then .bad Kind.codeBounds 7
    else
      let w := ByteMem.rdN m addr 4
      let y := sylOf addr w
      if 4 < y.unit then .bad Kind.syllableIllegal y.unit
      else if (match last with
          | some l => decide (y.unit ≤ l)
          | none => false) then .bad Kind.bundleSlotInvalid y.unit
      else if !y.legal then .bad Kind.syllableIllegal y.unit
      else if bit w 31 then .ok [y] (addr + 4)
      else match decodeBundle m hi (addr + 4) (some y.unit) k with
        | .ok ys stop => .ok (y :: ys) stop
        | b => b

/-- The byte after the `n`-th bundle from `addr`, counted by stop syllables; none beyond the region. -/
def bundlesEnd (m : ByteMem) (hi addr n fuel : Nat) : Option Nat :=
  match fuel, n with
  | _, 0 => some addr
  | 0, _ => none
  | k + 1, j + 1 =>
    if hi < addr + 4 then none
    else bundlesEnd m hi (addr + 4) (if bit (ByteMem.rdN m addr 4) 31 then j else j + 1) k

/-! ### The kernel's registers and what is in flight (R122, R123, R125) -/

/-- The kernel of a tile changed by `f`. -/
def modKern (s : State) (u : Nat) (f : Kernel → Kernel) : State := modTile s u (fun t => { t with kern := f t.kern })

/-- A register write takes effect: file 0 g, 1 v, 2 a, 3 p. -/
def writeReg (s : State) (u : Nat) (w : KWrite) : State :=
  match w.file with
  | 0 => setG s u w.reg w.val w.poison
  | 1 => setV s u w.reg ⟨BitVec.ofNat 2048 w.val, w.poison⟩
  | 2 => modTile s u (fun t => { t with acc := t.acc.set w.reg w.val })
  | _ => setP s u w.reg (decide (w.val ≠ 0))

/-- Register writes in order. -/
def writeRegs (s : State) (u : Nat) (l : List KWrite) : State := l.foldl (fun s w => writeReg s u w) s

/-- A write joins those in flight, kept in the order in which they become visible, later issue last (R123). -/
def addWrite (l : List KWrite) (w : KWrite) : List KWrite :=
  l.filter (fun x => decide (x.due ≤ w.due)) ++ w :: l.filter (fun x => decide (w.due < x.due))

/-- A store writes memory: whole words at its frame address. -/
def landStore (s : State) (u : Nat) (x : KStore) : State :=
  frameWriteWords s u x.pa (x.len / 8) x.val (if x.poison then 2 ^ (x.len / 8) - 1 else 0)

/-- What becomes visible up to stream cycle `c` takes effect. -/
def settleKern (s : State) (u c : Nat) : State :=
  let k := (tileAt s u).kern
  let s1 := writeRegs s u (k.writes.filter (fun w => decide (w.due ≤ c)))
  let landed := k.stores.filter (fun x => decide (x.due ≤ c))
  let s2 := landed.foldl (fun s x => landStore s u x) s1
  modKern s2 u (fun k => { k with
    writes := k.writes.filter (fun w => decide (c < w.due))
    stores := k.stores.filter (fun x => decide (c < x.due))
    used := (k.used ++ landed.map (fun x => (x.due, x.pc, spanBanks (x.pa, x.len)))).filter (fun x => decide (c ≤ x.1)) })

/-- Everything in flight takes effect at its cycle. -/
def drainKern (s : State) (u : Nat) : State :=
  let k := (tileAt s u).kern
  settleKern s u ((k.writes.map KWrite.due ++ k.stores.map KStore.due).foldl max 0)

/-! ### Faults of the stream (R143, Table 16.2) -/

/-- ADDR of a lockstep record. -/
def kernAddr (pc slot lockAt reg file : Nat) : Nat :=
  pc % 2 ^ 17 + 2 ^ 17 * (slot % 8) + 2 ^ 20 * (lockAt % 2 ^ 17) + 2 ^ 37 * (reg % 64) + 2 ^ 43 * (file % 4)

/-- Cycles in which a full DMA engine has held the stream up to now (R137). -/
def xqHeld (s : State) (t : Tile) : Nat :=
  match t.kern.xqSince with
  | some x => tileNow s - x
  | none => 0

/-- Cycles in which a WAITC has held the stream up to now (R138). -/
def waitcHeld (s : State) (t : Tile) : Nat :=
  match t.kern.hold with
  | some h => tileNow s - h.since
  | none => 0

/-- What holds the stream ends, and its cycles count, whatever follows (R137, R138). -/
def closeHolds (s : State) (u : Nat) : State :=
  modTile s u (fun t => { t with
    waitXq := (t.waitXq + xqHeld s t) % 2 ^ 32
    waitWaitc := (t.waitWaitc + waitcHeld s t) % 2 ^ 32
    kern := { t.kern with hold := none, xqSince := none, stalls := satAdd 32 t.kern.stalls (xqHeld s t + waitcHeld s t) } })

/-- The kernel stops and its node is abandoned: what earlier bundles issued has taken effect (R143, R114). A window job that still
runs ends with the kernel: it makes no further access, and a0 to a3 read zero as after any job (R184; the spec does not say what
becomes of it: DESIGN CHOICE, log entry 119). -/
def stopKernel (s : State) (u : Nat) : State :=
  modTile (closeHolds s u) u (fun t => { t with
    kern := { lastPc := t.kern.lastPc }
    job := none
    acc := if t.job.isSome then [0, 0, 0, 0] else t.acc
    thread := { endNode t.thread with abandoned := (t.thread.abandoned + 1) % 2 ^ 32 } })

/-- The kernel stops on a fault: what earlier bundles issued takes effect, the record has ORPHAN set, and the node is
abandoned (R143, R473). -/
def kernFault (s0 : State) (u kind pc slot reg file detail : Nat) : State :=
  let s := drainKern s0 u
  let t := tileAt s u
  let k := t.kern
  stopKernel (raiseAbout s kind (rqId u 1) u (some (nodeBinding t).part) (kernAddr pc slot k.lockAt reg file)
    (k.cyc % 2 ^ 32 + detail) (some 0)) u

/-! ### Entry, waits, end (R138 to R140) -/

/-- KERNEL_ENTRY: once the node's earlier accesses have been accepted, the kernel's first bundle issues (R139). -/
def kernelEntry (s : State) (u : Nat) : State :=
  let t := tileAt s u
  match t.thread.block with
  | some (.kernel rd entry at_) =>
    if tileRuns s u && !t.kern.running && allAccepted s u && decide (memOut s u = 0) then
      setTile s u { t with
        kernels := (t.kernels + 1) % 2 ^ 32
        kern := { running := true, id := (t.kernels + 1) % 2 ^ 32, pc := entry, lastPc := entry, lockAt := at_, rd := rd, chain := t.acc } }
    else s
  | _ => s

/-- WAITC_TIMEOUT: the hold reached its limit; the stream stops with WAITC_TIMEOUT, and the held bundle takes no effect (R143). -/
def waitcTimeout (s : State) (u : Nat) : State :=
  let t := tileAt s u
  match t.kern.hold with
  | some h =>
    if tileRuns s u && decide (t.xcnt.getD h.cnt 0 < h.thr) && decide (h.since + 256 * t.waitLimit ≤ tileNow s) then
      kernFault s u Kind.waitcTimeout t.kern.pc 4 0 0 0
    else s
  | none => s

/-- KERNEL_END: after EXIT, the writes in flight become visible, the window job has ended, and node code resumes with
the exit word of Table 4.5. -/
def kernelEnd (s : State) (u : Nat) : State :=
  let t := tileAt s u
  match t.kern.exit with
  | some code =>
    if tileRuns s u && t.kern.running && t.job.isNone then
      let s1 := drainKern s u
      let k := (tileAt s1 u).kern
      let s2 := setG s1 u k.rd (2 ^ 16 * k.stalls + code) false
      modTile s2 u (fun t => { t with
        exits := (t.exits + 1) % 2 ^ 32, kern := { lastPc := k.lastPc }, thread := { t.thread with block := none } })
    else s
  | none => s

/-- BANK_WAIT_GUARD: an access outside the stream has waited 32 cc for its bank; it is served and the stream is held
for one cycle (R132). -/
def bankWaitGuard (s : State) (u : Nat) : State :=
  let t := tileAt s u
  if tileRuns s u && t.kern.running then
    setTile s u { t with stallExt := (t.stallExt + 1) % 2 ^ 32, kern := { t.kern with stalls := satInc 32 t.kern.stalls } }
  else s

/-! ### Banks (R130, R131) -/

/-- Accesses beyond the first on the most heavily used bank. -/
def conflictHold (l : List (List Nat)) : Nat :=
  ((List.range 16).map (fun b => (l.filter (fun x => x.contains b)).length)).foldl max 0 - 1

/-- A bank that two accesses share. -/
def conflictBank (l : List (List Nat)) : Nat :=
  ((List.range 16).find? (fun b => decide (2 ≤ (l.filter (fun x => x.contains b)).length))).getD 0

/-- The accesses already made in stream cycle `c`: bundle and banks. -/
def usedIn (k : Kernel) (c : Nat) : List (Nat × List Nat) := (k.used.filter (fun x => decide (x.1 = c))).map Prod.snd
/-- Their banks. -/
def usedBanks (k : Kernel) (c : Nat) : List (List Nat) := (usedIn k c).map Prod.snd
/-- The bundle whose access in stream cycle `c` uses bank `b`; the issuing bundle where none made one before it. -/
def bankUser (k : Kernel) (c b : Nat) : Nat :=
  match (usedIn k c).find? (fun x => x.2.contains b) with
  | some x => x.1
  | none => k.pc

/-- The stream is held for `n` cycles by bank conflicts. -/
def bankHold (s : State) (u n : Nat) : State :=
  modTile s u (fun t => { t with stallBank := (t.stallBank + n) % 2 ^ 32, kern := { t.kern with stalls := satAdd 32 t.kern.stalls n } })

/-- First byte and length of the frame window of the kernel's virtual tile. -/
def kernWindow (t : Tile) : Nat × Nat :=
  let f := t.vtFrame.getD t.thread.slot {}
  (4096 * f.base, 4096 * f.size)

/-- WINDOW_JOB_ACCESS: the running job makes the access of its next odd slot, once the stream has reached that cycle
(R186). A poisoned word stops the job and the kernel (R183). Of a store and a write of the job that land on one address in one stream
cycle the store takes effect first (R131 serves the earlier-issued access first and does not say which it is: DESIGN CHOICE, log
entry 119). -/
def windowJobAccess (s : State) (u : Nat) : State :=
  let t := tileAt s u
  match t.job with
  | none => s
  | some j =>
    let c := j.start + j.next
    if !(tileRuns s u) || !t.kern.running || decide (j.dur ≤ j.next) || t.kern.hold.isSome
        || (decide (t.kern.cyc < c) && t.kern.exit.isNone) then s
    else
      let s0 := settleKern s u c
      let mine := jobBanks (j.span j.next)
      let s1 := modKern (bankHold s0 u (conflictHold (mine :: usedBanks (tileAt s0 u).kern c))) u
        (fun k => { k with used := k.used ++ [(c, j.pc, mine)] })
      let (s2, j', bad) := jobAccess s1 u (kernWindow t).1 j
      match bad with
      | some o => kernFault s2 u Kind.poisonConsumed j.pc 3 0 0 (2 ^ 32 * o)
      | none => modTile s2 u (fun t => { t with job := some j' })

/-- WINDOW_JOB_END: the duration has elapsed; the W unit is free and a0 to a3 read zero (R184, R185). -/
def windowJobEnd (s : State) (u : Nat) : State :=
  let t := tileAt s u
  match t.job with
  | none => s
  | some j =>
    if tileRuns s u && t.kern.running && decide (j.dur ≤ j.next)
        && (decide (j.start + j.dur ≤ t.kern.cyc) || t.kern.exit.isSome) then
      setTile s u { t with job := none, acc := [0, 0, 0, 0], kern := { t.kern with chain := [0, 0, 0, 0] } }
    else s

/-! ### Issue -/

/-- Whether a syllable executes: its predicate, where its format has one (R120). -/
def Syl.runs (s : State) (u : Nat) (y : Syl) : Bool :=
  if y.unit = 0 ∧ (y.op = 0 ∨ y.op = 0x28 ∨ y.op = 0x30) then true
  else if y.unit = 0 ∧ y.op = 0x38 then pReg s u y.pd
  else pReg s u (bits y.o 2 0)

/-- The registers that a syllable reads and whose poison it consumes: file and number. -/
def Syl.consumes (y : Syl) : List (Nat × Nat) :=
  match y.unit with
  | 0 =>
    if 1 ≤ y.op ∧ y.op ≤ 9 then [(0, y.a), (0, y.b)]
    else if y.op = 0x11 ∨ y.op = 0x16 ∨ y.op = 0x17 ∨ y.op = 0x18 then [(0, y.a)]
    else if y.op = 0x20 ∨ y.op = 0x21 ∨ y.op = 0x22 then [(0, y.a), (0, y.b)]
    else if y.op = 0x30 then [(0, y.d)]
    else []
  | 1 =>
    if y.op = 0x18 then [(1, y.a)]
    else if y.op = 0x20 then []
    else if y.op = 0x21 then [(0, y.a)]
    else if y.op = 0x13 then [(1, y.a), (1, y.b), (1, y.d)]
    else [(1, y.a), (1, y.b)]
  | 2 => [(0, y.a)]
  | 3 => if 1 ≤ y.op ∧ y.op ≤ 3 then [(1, y.a), (1, y.b)] else if y.op = 0x10 then [(0, y.a)] else []
  | _ => if y.op = 9 then [] else [(0, y.d)]

/-- Every register that a syllable reads, those whose poison it copies and the predicates included. -/
def Syl.reads (y : Syl) : List (Nat × Nat) :=
  y.consumes
  ++ (match y.unit with
      | 1 => if y.op = 0x20 then [(1, y.a)] else []
      | 2 => if y.op = 2 then [(1, y.d)] else if y.op = 4 then [(0, y.d)] else []
      | 3 => if y.op = 9 then [(2, y.a)] else []
      | _ => [])
  ++ (if y.unit = 0 ∧ (y.op = 0 ∨ y.op = 0x28 ∨ y.op = 0x30) then []
      else if y.unit = 0 ∧ y.op = 0x38 then [(3, y.pd)] else [(3, bits y.o 2 0)])

/-- Whether a register is poisoned. -/
def regPoison (s : State) (u : Nat) (x : Nat × Nat) : Bool :=
  if x.1 = 0 then (gReg s u x.2).poison else if x.1 = 1 then (vReg s u x.2).poison else false

/-- The access size of an M syllable. -/
def Syl.size (y : Syl) : Nat := if y.op = 1 ∨ y.op = 2 then 256 else 8
/-- The effective address of an M syllable (R126). -/
def Syl.ea (s : State) (u : Nat) (y : Syl) : Nat := narrow 64 ((gVal s u y.a : Int) + y.disp * (y.size : Int))

/-- The address checks of an access in the own frame window (R126, R182). -/
def ownCheck (win a n align : Nat) : Option Nat :=
  if 2 ^ 48 ≤ a then some Kind.addressUnmapped
  else if win < a + n then some Kind.frameWindowViolation
  else if a % align ≠ 0 then some Kind.misalignedAccess
  else none

/-- A fault of one executing syllable: kind, register, file, detail beyond the stream cycle. -/
abbrev SylFault := Option (Nat × Nat × Nat × Nat)

/-- What R144 rules 3 and 4 find in one executing syllable: poison, then addresses, then a busy W unit, then the address of a WJOB's
descriptor (R182). -/
def Syl.fault (s : State) (u : Nat) (y : Syl) : SylFault :=
  let t := tileAt s u
  let win := (kernWindow t).2
  match y.consumes.find? (regPoison s u) with
  | some x => some (Kind.poisonConsumed, x.2, x.1, 0)
  | none =>
    if y.unit = 2 then
      (ownCheck win (y.ea s u) y.size (if y.size = 8 then 8 else 64)).map (fun k => (k, 0, 0, 0))
    else if y.unit = 3 then
      if t.job.isSome then some (Kind.windowUnitBusy, 0, 0, 0)
      else if y.op = 0x10 then
        let a := gVal s u y.a
        (if a % 64 ≠ 0 then some Kind.misalignedAccess else if win < a + 64 then some Kind.frameWindowViolation
         else none).map (fun k => (k, 0, 0, 2 ^ 32 * (a % 2 ^ 32)))
      else none
    else none

/-- What the W unit finds in the descriptor at frame-window offset `a` that a WJOB reads (R182). -/
def descFault (s : State) (u a : Nat) : SylFault :=
  let t := tileAt s u
  let w := kernWindow t
  let d := ByteMem.rdN t.frame (w.1 + a) 64
  (if anyPoison t.framePoison ((w.1 + a) / 8) 8 then some Kind.poisonConsumed else jobCheck (parseJob d) d w.2).map
    (fun k => (k, 0, 0, 2 ^ 32 * (a % 2 ^ 32)))

/-- The first fault of a bundle's executing syllables in slot order (R144). A WJOB that no earlier check stops reads its descriptor,
which meets stored errors (R182). -/
def bundleFault (s : State) (u : Nat) (ys : List Syl) : State × Option (Syl × Nat × Nat × Nat × Nat) :=
  match ys with
  | [] => (s, none)
  | y :: r =>
    match y.fault s u with
    | some x => (s, some (y, x))
    | none =>
      if y.unit = 3 ∧ y.op = 0x10 then
        let a := gVal s u y.a
        let s1 := meetFrameErrs s u (((kernWindow (tileAt s u)).1 + a) / 8) 8
        match descFault s1 u a with
        | some x => (s1, some (y, x))
        | none => bundleFault s1 u r
      else bundleFault s u r

/-- A write that an executing syllable issues: file, register, value, poison, latency (Table 4.4). -/
abbrev SylWrite := Nat × Nat × Nat × Bool × Nat

/-- The S unit's integer operation of an OP. -/
def sOp (op : Nat) : AluOp :=
  match op with
  | 1 => .add
  | 2 => .sub
  | 3 => .and
  | 4 => .or
  | 5 => .xor
  | 6 => .shl
  | 7 => .shr
  | 8 => .sar
  | _ => .mul

/-- The V unit's lane operation of an OP, on 32-bit lanes. -/
def vOp (op d a b : Nat) : Nat :=
  match op with
  | 0x01 => aluVal 32 .add a b
  | 0x02 => aluVal 32 .sub a b
  | 0x03 => aluVal 32 .mul a b
  | 0x04 => aluVal 32 .mins a b
  | 0x05 => aluVal 32 .maxs a b
  | 0x06 => aluVal 32 .and a b
  | 0x07 => aluVal 32 .or a b
  | 0x08 => aluVal 32 .xor a b
  | 0x09 => aluVal 32 .shl a b
  | 0x0A => aluVal 32 .sar a b
  | 0x10 => fAdd a b
  | 0x11 => fSub a b
  | 0x12 => fMul a b
  | 0x13 => fFma d a b
  | 0x14 => fMin a b
  | _ => fMax a b

/-- Latency of a V operation (Table 4.4). -/
def vLatency (op : Nat) : Nat :=
  if op = 0x03 then 4 else if 0x10 ≤ op ∧ op ≤ 0x13 then 5 else if op = 0x18 then 3 else 2

/-- The lanes of a WMAC, WMACH or WMACF result (R128). -/
def wmacLanes (op acc a b : Nat) : Nat :=
  lanesFrom 32 (fun l =>
    let p := l / 4
    let o := l % 4
    if op = 1 then macInt (lane 32 acc l) ((List.range 16).map (fun c => lane 8 a (16 * p + c)))
      ((List.range 16).map (fun c => lane 8 b (16 * o + c)))
    else macFloat (if op = 2 then bf16 else fp16) (lane 32 acc l) ((List.range 4).map (fun c => lane 16 a (4 * p + c)))
      ((List.range 4).map (fun c => lane 16 b (4 * o + c)))) 0 64

/-- The register writes of an executing syllable, but for loads. -/
def Syl.writes (s : State) (u : Nat) (y : Syl) : List SylWrite :=
  let t := tileAt s u
  let vv (r : Nat) : Nat := (vReg s u r).val.toNat
  match y.unit with
  | 0 =>
    if 1 ≤ y.op ∧ y.op ≤ 9 then [(0, y.d, aluVal 64 (sOp y.op) (gVal s u y.a) (gVal s u y.b), false, if y.op = 9 then 3 else 1)]
    else if y.op = 0x11 then [(0, y.d, aluVal 64 .add (gVal s u y.a) (narrow 64 (signed 6 y.b)), false, 1)]
    else if y.op = 0x16 then [(0, y.d, aluVal 64 .shl (gVal s u y.a) y.b, false, 1)]
    else if y.op = 0x17 then [(0, y.d, aluVal 64 .shr (gVal s u y.a) y.b, false, 1)]
    else if y.op = 0x18 then [(0, y.d, aluVal 64 .sar (gVal s u y.a) y.b, false, 1)]
    else if y.op = 0x20 then [(3, y.pd, b2n (cmpVal 64 .eq (gVal s u y.a) (gVal s u y.b)), false, 1)]
    else if y.op = 0x21 then [(3, y.pd, b2n (cmpVal 64 .lts (gVal s u y.a) (gVal s u y.b)), false, 1)]
    else if y.op = 0x22 then [(3, y.pd, b2n (cmpVal 64 .ltu (gVal s u y.a) (gVal s u y.b)), false, 1)]
    else if y.op = 0x28 then [(0, y.d, narrow 64 (signed 16 y.imm16), false, 1)]
    else if y.op = 0x31 then [(0, y.d, (t.kern.loops.getD (bits y.a 1 0) {}).idx, false, 1)]
    else []
  | 1 =>
    if y.op = 0x18 then
      [(1, y.d, lanesFrom 32 (fun i => (fCvt y.b (lane 32 (vv y.a) i)).getD 0) 0 64, false, 3)]
    else if y.op = 0x20 then [(1, y.d, vv y.a, (vReg s u y.a).poison, 2)]
    else if y.op = 0x21 then [(1, y.d, lanesFrom 32 (fun _ => gVal s u y.a) 0 64, false, 2)]
    else [(1, y.d, lanesFrom 32 (fun i => vOp y.op (lane 32 (vv y.d) i) (lane 32 (vv y.a) i) (lane 32 (vv y.b) i)) 0 64, false,
           vLatency y.op)]
  | 2 => if y.post then [(0, y.a, (gVal s u y.a + y.size) % 2 ^ 64, false, 1)] else []
  | 3 =>
    if 1 ≤ y.op ∧ y.op ≤ 3 then [(2, y.d, wmacLanes y.op (t.kern.chain.getD y.d 0) (vv y.a) (vv y.b), false, 4)]
    else if y.op = 8 then [(2, y.d, 0, false, 1)]
    else if y.op = 9 then [(1, y.d, t.acc.getD y.a 0, false, 3)]
    else []
  | _ => if y.op = 9 then [(0, y.d, t.xcnt.getD y.cnt 0, false, 2)] else []

/-- A load's write and the frame bytes it reads; a store's memory write. -/
def Syl.memory (s : State) (u c : Nat) (y : Syl) : State :=
  if y.unit ≠ 2 then s
  else
    let pa := (kernWindow (tileAt s u)).1 + y.ea s u
    if y.op = 1 ∨ y.op = 3 then
      let (s1, v, p) := frameRead s u pa y.size
      let w : KWrite := { due := c + (if y.op = 1 then 6 else 4), file := if y.op = 1 then 1 else 0, reg := y.d, val := v
                          poison := p, pc := (tileAt s u).kern.pc }
      modKern s1 u (fun k => { k with writes := addWrite k.writes w })
    else
      let x : KStore := if y.op = 2 then { due := c + 2, pa := pa, len := 256, val := (vReg s u y.d).val.toNat, poison := (vReg s u y.d).poison }
        else { due := c + 2, pa := pa, len := 8, val := gVal s u y.d, poison := (gReg s u y.d).poison }
      modKern s u (fun k => { k with stores := k.stores ++ [{ x with pc := k.pc }] })

/-- The frame-memory banks that the bundle's own reads use in its issue cycle, with their slots. -/
def readSlots (s : State) (u : Nat) (ys : List Syl) : List (Nat × List Nat) :=
  let base := (kernWindow (tileAt s u)).1
  ys.filterMap (fun y =>
    if y.unit = 2 ∧ (y.op = 1 ∨ y.op = 3) then some (2, spanBanks (base + y.ea s u, y.size))
    else if y.unit = 3 ∧ y.op = 0x10 then some (3, spanBanks (base + gVal s u y.a, 64))
    else none)

/-- The frame-memory banks that the bundle's own reads use in its issue cycle. -/
def readBanks (s : State) (u : Nat) (ys : List Syl) : List (List Nat) := (readSlots s u ys).map Prod.snd

/-- The first hazard of debug mode that a bundle's executing syllables meet (R145, R146): kind, slot, register, file,
detail. Where a bundle has several, an early read comes before a collision and that before a bank conflict, whatever their slots; of
several pending writes to the register read, the earliest due is named; a predicate is file 3; a bank conflict names the slot of the
bundle's own access on the bank, M where it has none there (R145 and Table 16.2 leave these open: DESIGN CHOICE, log entry 117). -/
def debugHazard (s : State) (u c : Nat) (ys : List Syl) (banks : List (List Nat)) : Option (Nat × Nat × Nat × Nat × Nat) :=
  let k := (tileAt s u).kern
  let early := ys.findSome? (fun y =>
    if y.e && !(y.unit == 0 && y.op == 0x38) then none
    else
      (y.reads.findSome? (fun r => (k.writes.find? (fun w => decide (w.file = r.1) && decide (w.reg = r.2))).map (fun w => (r, w)))).map
        (fun x => (Kind.hazardEarlyRead, y.unit, x.1.2, x.1.1, 2 ^ 32 * (x.2.pc % 2 ^ 17) + 2 ^ 49 * ((x.2.due - c) % 256))))
  let news := ys.flatMap (fun y => (y.writes s u ++ (if y.unit = 2 ∧ y.op = 1 then [(1, y.d, 0, false, 6)]
      else if y.unit = 2 ∧ y.op = 3 then [(0, y.d, 0, false, 4)] else [])).map (fun w => (y, w)))
  let clash := news.findSome? (fun x =>
    let same (f r due : Nat) : Bool := decide (f = x.2.1) && decide (r = x.2.2.1) && decide (due = c + x.2.2.2.2.2)
    match k.writes.find? (fun w => same w.file w.reg w.due) with
    | some w => some (Kind.hazardWriteCollision, x.1.unit, x.2.2.1, x.2.1, 2 ^ 32 * (w.pc % 2 ^ 17))
    | none =>
      if news.any (fun z => decide (z.1.unit ≠ x.1.unit ∨ z.2 ≠ x.2) && same z.2.1 z.2.2.1 (c + z.2.2.2.2.2)) then
        some (Kind.hazardWriteCollision, x.1.unit, x.2.2.1, x.2.1, 2 ^ 32 * (k.pc % 2 ^ 17))
      else none)
  match early with
  | some h => some h
  | none => match clash with
    | some h => some h
    | none => if conflictHold banks = 0 then none
              else
                let b := conflictBank banks
                let slot := (((readSlots s u ys).find? (fun x => x.2.contains b)).map Prod.fst).getD 2
                some (Kind.hazardBankConflict, slot, 0, 0, 2 ^ 32 * (bankUser k c b % 2 ^ 17) + 2 ^ 57 * b)

/-- Where the stream goes after the bundle that ends at `n`: loops whose body ends there repeat or end, innermost
first (R133, R134). -/
def loopNext (ls : List KLoop) (n : Nat) : Nat × List KLoop :=
  match ls with
  | [] => (n, [])
  | l :: r =>
    if l.stop ≠ n then (n, l :: r)
    else if 1 < l.left then (l.first, { l with left := l.left - 1, idx := l.idx + 1 } :: r)
    else loopNext r n

/-- The LOOP of a bundle, if it has one. -/
def bundleLoop (ys : List Syl) : Option Syl := ys.find? (fun y => decide (y.unit = 0) && decide (y.op = 0x30))

/-- Whether a LOOP breaks R134: its body's end, `none` where it runs beyond the code region. -/
def loopBad (k : Kernel) (trips : Nat) (stop : Option Nat) : Bool :=
  match stop with
  | none => true
  | some e => (match k.loops with
      | l :: _ => decide (l.stop < e)
      | [] => false) || (decide (trips ≠ 0) && decide (4 ≤ k.loops.length))

/-- A transfer joins the DMA engine, with the descriptor as memory holds it in this cycle (R125, R137). -/
def handTransfer (s : State) (u a : Nat) : State :=
  let t := tileAt s u
  let w := kernWindow t
  let inside := decide (a % 64 = 0) && decide (a + 64 ≤ w.2)
  let s1 := if inside then meetFrameErrs s u ((w.1 + a) / 8) 8 else s
  let t1 := tileAt s1 u
  let used := t1.xfers.map Xfer.slot
  let x : Xfer := {
    slot := ((List.range 8).find? (fun n => !(used.contains n))).getD 0
    bslot := t.thread.slot, part := (nodeBinding t).part, pc := t.kern.pc, kern := t.kern.id, serial := t.thread.serial
    itag := t.thread.itag, desc := a, issuedAt := tileNow s
    raw := if inside then ByteMem.rdBytes t1.frame (w.1 + a) 64 else []
    rawPoison := inside && anyPoison t1.framePoison ((w.1 + a) / 8) 8 }
  setTile s1 u { t1 with xfers := t1.xfers ++ [x] }

/-- What one executing syllable does beside register writes and memory accesses: control, window jobs, transfers and
counters. -/
def Syl.control (s : State) (u c : Nat) (y : Syl) : State :=
  let t := tileAt s u
  if y.unit = 0 ∧ y.op = 0x38 then modKern s u (fun k => { k with exit := some y.imm16 })
  else if y.unit = 3 ∧ 1 ≤ y.op ∧ y.op ≤ 3 then
    let r := wmacLanes y.op (t.kern.chain.getD y.d 0) (vReg s u y.a).val.toNat (vReg s u y.b).val.toNat
    modKern s u (fun k => { k with chain := k.chain.set y.d r })
  else if y.unit = 3 ∧ y.op = 8 then modKern s u (fun k => { k with chain := k.chain.set y.d 0 })
  else if y.unit = 3 ∧ y.op = 0x10 then
    let a := gVal s u y.a
    let j := parseJob (ByteMem.rdN t.frame ((kernWindow t).1 + a) 64)
    setTile s u { t with jobs := (t.jobs + 1) % 2 ^ 32, job := some { j with desc := a, pc := t.kern.pc, start := c, next := 9, dur := j.duration } }
  else if y.unit = 4 ∧ y.op = 1 then handTransfer s u (gVal s u y.d)
  else if y.unit = 4 ∧ y.op = 8 then setTile s u { t with xcnt := t.xcnt.set y.cnt (gVal s u y.d % 2 ^ 32) }
  else s

/-- The effects of a bundle that issues in stream cycle `c`: registers are read as they stand at its start. -/
def runBundle (s : State) (u c : Nat) (ys : List Syl) (stop : Nat) (loopEnd : Option Nat) : State :=
  let k := (tileAt s u).kern
  let news : List KWrite := ys.flatMap (fun y => (y.writes s u).map (fun w =>
    ({ due := c + w.2.2.2.2, file := w.1, reg := w.2.1, val := w.2.2.1, poison := w.2.2.2.1, pc := k.pc } : KWrite)))
  let trips := match bundleLoop ys with
    | some y => gVal s u y.d % 2 ^ 32
    | none => 0
  let s1 := ys.foldl (fun a y => Syl.memory a u c y) s
  let s2 := modKern s1 u (fun k => { k with writes := news.foldl addWrite k.writes })
  let s3 := ys.foldl (fun a y => y.control a u c) s2
  let span := match ys.find? (fun y => decide (y.unit = 0) && decide (y.op = 0)) with
    | some y => y.imm16 + 1
    | none => 1
  let (nx, ls) := match bundleLoop ys, loopEnd with
    | some _, some e => if trips = 0 then loopNext k.loops e else (stop, { first := stop, stop := e, left := trips, idx := 0 } :: k.loops)
    | _, _ => loopNext k.loops stop
  modKern s3 u (fun k => { k with pc := nx, lastPc := k.pc, cyc := c + span, loops := if k.exit.isSome then [] else ls })

/-- A bundle whose format is right and that nothing holds issues in stream cycle `c`, after the checks of R144 rules 2 to 4 and, in
debug mode, the hazards: `all` are its syllables, `stop` its end. -/
def issueBundle (s : State) (u c : Nat) (all : List Syl) (stop : Nat) : State :=
  let ys := all.filter (Syl.runs s u)
  let t := tileAt s u
  let pc := t.kern.pc
  let hi := (codeRegion t t.thread.slot).2
  let loopEnd := match bundleLoop ys with
    | some y => bundlesEnd t.istore hi stop (bits y.o 15 4 + 1) ((hi - stop) / 4 + 1)
    | none => none
  let trips := match bundleLoop ys with
    | some y => gVal s u y.d % 2 ^ 32
    | none => 0
  if (bundleLoop ys).isSome && loopBad t.kern trips loopEnd then kernFault s u Kind.loopNestInvalid pc 0 0 0 0
  else
    match bundleFault s u ys with
    | (s1, some (y, kind, reg, file, d)) => kernFault s1 u kind pc y.unit reg file d
    | (s1, none) =>
      let others := usedBanks t.kern c
      let banks := readBanks s1 u ys ++ others
      match (if t.lsDebug then debugHazard s1 u c ys banks else none) with
      | some (kind, slot, reg, file, d) => kernFault s1 u kind pc slot reg file d
      | none => runBundle (bankHold s1 u (conflictHold banks - conflictHold others)) u c ys stop loopEnd

/-- What an executing X syllable holds the stream for before its bundle issues: an XDMA with 8 transfers outstanding (R137), or a WAITC
whose counter is below its threshold (R138). -/
def holdBundle (s : State) (u : Nat) (ys : List Syl) : Option State :=
  let t := tileAt s u
  match ys.find? (fun y => decide (y.unit = 4)) with
  | some y =>
    let thr := gVal s u y.d % 2 ^ 32
    if y.op = 1 ∧ 8 ≤ t.xfers.length then some (modKern s u (fun k => { k with xqSince := some (k.xqSince.getD (tileNow s)) }))
    else if y.op = 0x10 ∧ t.xcnt.getD y.cnt 0 < thr then
      some (modKern s u (fun k => { k with hold := some { cnt := y.cnt, thr := thr, since := tileNow s } }))
    else none
  | none => none

/-- The bundle at the kernel's address: decoded and fetched (R118, R141, R470), then held or issued. What has held it until now counts. -/
def nextBundle (s : State) (u c : Nat) : State :=
  let t := tileAt s u
  let pc := t.kern.pc
  if !(inRegion s u pc) then kernFault s u Kind.codeBounds pc 7 0 0 0
  else
    match decodeBundle t.istore (codeRegion t t.thread.slot).2 pc none 6 with
    | .bad kind slot =>
      (match fetchLines s u (pc / 64) 1 with
       | (s1, some _) => kernFault s1 u Kind.istoreUncorrectable pc 0 0 0 0
       | (s1, none) => kernFault s1 u kind pc slot 0 0 0)
    | .ok all stop =>
      match fetchLines s u (pc / 64) ((stop - 1) / 64 - pc / 64 + 1) with
      | (s1, some _) => kernFault s1 u Kind.istoreUncorrectable pc 0 0 0 0
      | (s1, none) =>
        match holdBundle s1 u (all.filter (Syl.runs s1 u)) with
        | some s2 => s2
        | none => issueBundle (closeHolds s1 u) u c all stop

/-- Whether the stream may issue its next bundle: the kernel runs, has not met EXIT, is not held by a WAITC, and the window job is done
with the cycles before it. -/
def streamReady (s : State) (u : Nat) : Bool :=
  let t := tileAt s u
  let c := t.kern.cyc
  let jobBehind := match t.job with
    | some j => (decide (j.next < j.dur) && decide (j.start + j.next ≤ c)) || decide (j.start + j.dur ≤ c)
    | none => false
  tileRuns s u && t.kern.running && t.kern.exit.isNone && t.kern.hold.isNone && !jobBehind

/-- BUNDLE_ISSUE: one bundle issues in the kernel's next stream cycle, after the checks of R144. It waits behind a
WAITC, a full DMA engine, and the window job's accesses of earlier cycles. -/
def bundleIssue (s : State) (u : Nat) : State :=
  let c := (tileAt s u).kern.cyc
  if streamReady s u then nextBundle (settleKern s u c) u c else s

/-- WAITC_PASS: the counter has reached the threshold, the hold ends and its cycles count, and the stream resumes with the held
bundle, whose syllables take effect now (R138). -/
def waitcPass (s : State) (u : Nat) : State :=
  let t := tileAt s u
  match t.kern.hold with
  | some h => if tileRuns s u && decide (h.thr ≤ t.xcnt.getD h.cnt 0) then bundleIssue (closeHolds s u) u else s
  | none => s

end Sys2Proof.Machine
end

