-- ==== Sys2Proof/Machine/Dma.lean ====
section
/-! DEFINITION. Transfers of the tile DMA engine (R187 to R191, R195): the descriptor checks, moving lines through the
codec, landing, and completion. -/

namespace Sys2Proof.Machine

/-- Transfer `k` of a tile changed by `f`. -/
def modXfer (s : State) (u k : Nat) (f : Xfer → Xfer) : State :=
  modTile s u (fun t => { t with xfers := t.xfers.map (fun x => if x.slot = k then f x else x) })

/-- The transfer in a slot of a tile. -/
def xferAt (s : State) (u k : Nat) : Option Xfer := (tileAt s u).xfers.find? (fun x => decide (x.slot = k))

/-! ### Sizes (Table 6.4) -/

/-- The ratio that applies: a copy, and a codec at 1:1, leave the lines as they are. -/
def Xfer.codec (x : Xfer) : Nat := if x.dir = 0 then 0 else x.ratio
/-- Raw bytes times the compressed share of a ratio, in quarters. -/
def packedLen (n ratio : Nat) : Nat := if ratio = 1 then n * 3 / 4 else if ratio = 2 then n / 2 else if ratio = 3 then n / 4 else n
/-- Bytes of a source row. -/
def Xfer.srcLen (x : Xfer) : Nat := if x.dir = 2 then packedLen x.rowBytes x.codec else x.rowBytes
/-- Bytes of a destination row. -/
def Xfer.dstLen (x : Xfer) : Nat := if x.dir = 1 then packedLen x.rowBytes x.codec else x.rowBytes
/-- Source lines of a row. -/
def Xfer.srcLines (x : Xfer) : Nat := x.srcLen / 64
/-- Destination lines of a row. -/
def Xfer.dstLines (x : Xfer) : Nat := x.dstLen / 64
/-- Source and destination lines of a codec run. -/
def Xfer.runLines (x : Xfer) : Nat × Nat :=
  let r := codecLines x.codec
  if x.dir = 2 then (r.2, r.1) else r
/-- Line moves of a transfer: counted on whichever side has more lines (R189). -/
def Xfer.moves (x : Xfer) : Nat := max x.srcLines x.dstLines * x.rows
/-- Destination lines of a transfer. -/
def Xfer.dstTotal (x : Xfer) : Nat := x.dstLines * x.rows
/-- The tile address of source line `l`. -/
def Xfer.srcAddr (x : Xfer) (l : Nat) : Nat := x.src + l / x.srcLines * x.srcPitch + 64 * (l % x.srcLines)
/-- The tile address of destination line `l`. -/
def Xfer.dstAddr (x : Xfer) (l : Nat) : Nat := x.dst + l / x.dstLines * x.dstPitch + 64 * (l % x.dstLines)

/-- The fields of a descriptor of 64 bytes (Table 6.4). -/
def parseXfer (x : Xfer) (d : Nat) : Xfer :=
  let b (o n : Nat) : Nat := (d >>> (8 * o)) % 2 ^ (8 * n)
  let en (v : Nat) : Option Nat := if bit v 3 then some (v % 8) else none
  { x with
    src := b 0 8, dst := b 8 8, rowBytes := b 0x10 4, rows := b 0x14 2, srcPitch := b 0x18 4, dstPitch := b 0x1C 4
    ratio := bits (b 0x20 1) 1 0, dir := bits (b 0x20 1) 3 2, elem := bits (b 0x20 1) 5 4
    sendCnt := en (b 0x21 1), recvCnt := en (b 0x22 1), doneEv := bit (b 0x23 1) 0 }

/-- Whether an address lies in the range of the own frame window. -/
def inOwn (a : Nat) : Bool := decide (a < 0x100000)
/-- Whether an address lies in the range of the remote frame windows. -/
def inRemote (a : Nat) : Bool := decide (0x100000000 ≤ a) && decide (a < 0x140000000)

/-- The checks of R188 on a descriptor. -/
def xferDescOk (x : Xfer) (d : Nat) : Bool :=
  let b (o n : Nat) : Nat := (d >>> (8 * o)) % 2 ^ (8 * n)
  decide (x.src % 64 = 0) && decide (x.dst % 64 = 0)
  && decide (64 ≤ x.rowBytes) && decide (x.rowBytes ≤ 1048576) && decide (x.rowBytes % 64 = 0)
  && decide (1 ≤ x.rows) && decide (x.rows ≤ 4096)
  && decide (b 0x16 2 = 0) && decide (d / 2 ^ (8 * 0x24) = 0)
  && decide (b 0x20 1 < 64) && decide (b 0x21 1 < 16) && decide (b 0x22 1 < 16) && decide (b 0x23 1 < 2)
  && decide (x.srcPitch % 64 = 0) && decide (x.dstPitch % 64 = 0)
  && (decide (x.rows = 1) || (decide (x.srcLen ≤ x.srcPitch) && decide (x.dstLen ≤ x.dstPitch)))
  && (inOwn x.src || inOwn x.dst) && !(inRemote x.src)
  && (x.recvCnt.isNone || inOwn x.dst || inRemote x.dst)
  && (match x.dir, x.ratio with
      | 3, _ => false
      | 0, r => decide (r = 0)
      | _, 0 => true
      | _, 3 => decide (x.elem = 1)
      | _, _ => decide (x.elem < 2))
  && decide (x.srcLen % 64 = 0) && decide (x.dstLen % 64 = 0)

/-- The first byte beyond the own frame window that the rows of one side reach. -/
def rowsLeave (base pitch len rows win : Nat) : Option Nat :=
  if !(inOwn base) then none
  else match (List.range rows).find? (fun r => decide (win < base + r * pitch + len)) with
    | some r => some (max (base + r * pitch) win)
    | none => none

/-- The address fault of a transfer's start: kind and failing address (R37, R188). -/
def xferAddrFault (s : State) (u : Nat) (x : Xfer) : Option (Nat × Nat) :=
  let t := tileAt s u
  let one (a pitch len : Nat) : Option (Nat × Nat) :=
    match windowOf s t x.bslot a 1 with
    | .unmapped => some (Kind.addressUnmapped, a)
    | .outside => some (Kind.frameWindowViolation, a)
    | _ => (rowsLeave a pitch len x.rows (4096 * (t.vtFrame.getD x.bslot {}).size)).map (fun b => (Kind.frameWindowViolation, b))
  match one x.src x.srcPitch x.srcLen with
  | some f => some f
  | none => one x.dst x.dstPitch x.dstLen

/-! ### Faults of a transfer (R188, Table 16.2) -/

/-- Outstanding requests of a transfer's slot. -/
def xferOuts (s : State) (u k : Nat) : List OutReq :=
  s.outs.filter (fun o => decide (o.unit = u) && decide (o.sub = 2) && (match o.use with
    | .dmaRead j _ => decide (j = k)
    | .dmaWrite j _ => decide (j = k)
    | _ => false))

/-- A failed transfer whose requests are all answered leaves the engine. -/
def sweepXfer (s : State) (u k : Nat) : State :=
  match xferAt s u k with
  | some x => if x.failed && (xferOuts s u k).isEmpty then
      modTile s u (fun t => { t with xfers := t.xfers.filter (fun y => y.slot != k) }) else s
  | none => s

/-- A record of the DMA engine about a transfer. -/
def xferRecord (s : State) (u : Nat) (x : Xfer) (kind addr : Nat) (orphan : Option Nat) : State :=
  raiseAbout s kind (rqId u 2) u (some x.part) (x.pc % 2 ^ 17) (x.desc % 2 ^ 20 + 2 ^ 20 * ((addr >>> 4) % 2 ^ 44)) orphan

/-- A transfer fails with the record that `rec` makes: it moves nothing further, and the kernel that issued it, where that kernel still
runs, stops under the terms of R143. -/
def xferFaultBy (s : State) (u : Nat) (x : Xfer) (rec : State → Option Nat → State) : State :=
  let t := tileAt s u
  let mine := t.kern.running && decide (t.kern.id = x.kern)
  let s1 := modXfer (if mine then drainKern s u else s) u x.slot (fun y => { y with failed := true, moved := y.moves })
  let s2 := rec s1 (if mine then some 0 else none)
  let s3 := modTile (if mine then stopKernel s2 u else s2) u (fun t => { t with
    memWait := t.memWait.filter (fun m => match m.req.use with
      | .dmaWrite j _ => j != x.slot
      | _ => true) })
  sweepXfer s3 u x.slot

/-- A transfer faults. -/
def xferFault (s : State) (u : Nat) (x : Xfer) (kind addr : Nat) : State :=
  xferFaultBy s u x (fun s orph => xferRecord s u x kind addr orph)

/-- TRANSFER_START: the engine checks the next descriptor in issue order (R187, R188). -/
def transferStart (s : State) (u : Nat) : State :=
  let t := tileAt s u
  if !(tileRuns s u) then s
  else match t.xfers.find? (fun x => !x.started && !x.failed) with
  | none => s
  | some x =>
    if x.raw.isEmpty then xferFault s u x Kind.transferDescInvalid 0
    else if x.rawPoison then xferFault s u x Kind.poisonConsumed 0
    else
      let d := leNat x.raw
      let y := parseXfer x d
      if !(xferDescOk y d) then xferFault s u x Kind.transferDescInvalid 0
      else match xferAddrFault s u y with
        | some (k, a) => xferFault s u x k a
        | none => modXfer s u x.slot (fun _ => { y with started := true })

/-! ### Lines (R189 to R191) -/

/-- The check of a line write of `n` lines at a tile (R326): the REFUSED reason, none where it passes. -/
def tileLineCheck (t : Tile) (part line n : Nat) : Option Nat :=
  let k := line / 2 ^ 16
  let b := t.bindings.getD k {}
  if !(b.valid && decide (b.part = part)) then some 1
  else if 4096 * (t.vtFrame.getD k {}).size < 64 * (line % 2 ^ 14 + n) then some 3
  else none

/-- The physical frame address of an offset in a slot's window. -/
def slotPa (t : Tile) (k off : Nat) : Nat := 4096 * (t.vtFrame.getD k {}).base + off

/-- A destination line counts as written. -/
def xferLanded (s : State) (u k : Nat) : State := sweepXfer (modXfer s u k (fun x => { x with landed := x.landed + 1 })) u k

/-- A transfer line that passed its check is written, and RECV_CNT gains 1 (R190). -/
def writeXferLine (s : State) (u line : Nat) (data : List Byte) (poison : Nat) (recv : Option Nat) : State :=
  let s1 := frameWriteWords s u (slotPa (tileAt s u) (line / 2 ^ 16) (64 * (line % 2 ^ 14))) 8 (leNat data) poison
  match recv with
  | some c => modTile s1 u (fun t => { t with xcnt := t.xcnt.set c ((t.xcnt.getD c 0 + 1) % 2 ^ 32) })
  | none => s1

/-- A line of a transfer inside the own frame is written, or its refusal stops the transfer. -/
def landOwn (s : State) (u part line xfer : Nat) (data : List Byte) (poison : Nat) (recv : Option Nat) : State :=
  match tileLineCheck (tileAt s u) part line 1 with
  | some r =>
    (match xferAt s u xfer with
     | some x => if x.failed then s else xferFault s u x (if r = 3 then Kind.frameWindowViolation else Kind.addressUnmapped) (64 * (line % 2 ^ 14))
     | none => s)
  | none => xferLanded (writeXferLine s u line data poison recv) u xfer

/-- The lines inside the own frame that have moved and are not written yet. -/
def ownLines (s : State) (u : Nat) : List Packet :=
  s.net.filter (fun p => decide (p.cls = 2) && decide (p.dest = u) && decide (p.src = rqId u 2) && (match p.body with
    | .xferLine _ _ _ _ _ => true
    | _ => false))

/-- They are written: each in the cycle after it moved (R189). -/
def landOwnLines (s : State) (u : Nat) : State :=
  (ownLines s u).foldl (fun s p => match p.body with
    | .xferLine line xfer data poison recv => landOwn (takePkt s p) u p.part line xfer data poison recv
    | _ => s) s

/-- The bytes of a list, `n` at a time. -/
def chunks (n k : Nat) (bs : List Byte) : List (List Byte) :=
  match k with
  | 0 => []
  | j + 1 => bs.take n :: chunks n j (bs.drop n)

/-- A destination line leaves for where its address lies. -/
def sendXferLine (s : State) (u : Nat) (x : Xfer) (l : Nat) (data : List Byte) (poison : Nat) : State :=
  let t := tileAt s u
  let a := x.dstAddr l
  let o : OutReq := { unit := u, sub := 2, part := x.part, use := .dmaWrite x.slot l, pc := x.pc, serial := x.serial, itag := x.itag, slot := x.bslot }
  match windowOf s t x.bslot a 64 with
  | .own _ => sendPkt s { cls := 2, dest := u, src := rqId u 2, part := x.part, tag := x.slot,
                          body := .xferLine (2 ^ 16 * x.bslot + a / 64) x.slot data poison x.recvCnt }
  | .remote vt off =>
    let b : Body := .xferLine (off / 64) x.slot data poison x.recvCnt
    (match pcacheFind t x.part vt with
     | some e => sendReq (modTile s u (fun t => { t with pHits := (t.pHits + 1) % 2 ^ 32 })) { o with target := e.unit, body := fillBody b e }
     | none => askPlace (modTile s u (fun t => { t with memWait := t.memWait ++ [⟨vt, { o with body := b }⟩] })) u x.part vt none)
  | .stand ph off => sendReq s { o with target := standUnit ph, body := .lineWrite (2 ^ 14 * (ph % 16) + off / 64) x.slot false data poison }
  | .host iova =>
    let first := l % x.dstLines = 0
    let s1 := if first then sendPosted s (rqId u 2) (homeUnit s x.part) x.part (.hostBase x.slot iova) else s
    sendReq s1 { o with target := homeUnit s x.part, body := .lineWrite (l % x.dstLines) x.slot false data poison }
  | _ => xferFault s u x Kind.addressUnmapped a

/-- The destination lines of a run leave in order. -/
def sendXferLines (s : State) (u : Nat) (x : Xfer) (l : Nat) (ls : List (List Byte)) (poison : Nat) : State :=
  match ls with
  | [] => s
  | d :: r =>
    match xferAt s u x.slot with
    | some y => if y.failed then s
        else sendXferLines (sendXferLine s u x l d (poison % 256)) u x (l + 1) r (poison / 256)
    | none => s

/-- A source line is at hand: once its codec run is complete, the run's destination lines leave. -/
def xferSource (s : State) (u : Nat) (x : Xfer) (l : Nat) (data : List Byte) (poison : Nat) : State :=
  let g := SMap.put ([], 0) x.group l (data, poison)
  let (n, m) := x.runLines
  let run := l / n
  let ls := (List.range n).map (fun i => SMap.get ([], 0) g (run * n + i))
  if ls.any (fun e => e.1.isEmpty) then modXfer s u x.slot (fun y => { y with group := g })
  else
    let s1 := modXfer s u x.slot (fun y => { y with group := SMap.drop g (fun k => decide (k / n = run)) })
    let v := leNat (ls.flatMap Prod.fst)
    let p := packFields 8 (ls.map Prod.snd)
    if x.codec = 0 then sendXferLines s1 u x (run * m) [data] poison
    else if x.dir = 1 then
      let (v', p') := encodeRun x.elem x.ratio v p
      sendXferLines s1 u x (run * m) (chunks 64 m (leBytes (64 * m) v')) p'
    else
      let (junk, s2) := freeTake s1
      let (v', p', bad) := decodeRun x.elem x.ratio v p junk
      let s3 := bad.foldl (fun s i =>
        xferRecord s u x Kind.codecBlockInvalid (x.srcAddr (run * n) + packBlock x.elem x.ratio * i) none) s2
      sendXferLines s3 u x (run * m) (chunks 64 m (leBytes (64 * m) v')) p'

/-- Source line `l` is read: at once from the own frame window, or by READ_LINE from a stand buffer or the host. -/
def xferRead (s : State) (u : Nat) (x : Xfer) (l : Nat) : State :=
  let a := x.srcAddr l
  let o : OutReq := { unit := u, sub := 2, part := x.part, use := .dmaRead x.slot l, pc := x.pc, serial := x.serial, itag := x.itag, slot := x.bslot }
  match windowOf s (tileAt s u) x.bslot a 64 with
  | .own pa =>
    let s1 := meetFrameErrs s u (pa / 8) 8
    let t := tileAt s1 u
    xferSource s1 u x l (ByteMem.rdBytes t.frame pa 64) (poisonBits t.framePoison (pa / 8) 8)
  | .stand ph off => sendReq s { o with target := standUnit ph, body := .readLine { space := 1, off := 0x100000 * (ph % 16) + off } }
  | .host iova => sendReq s { o with target := homeUnit s x.part, body := .readLine { space := 2, off := iova } }
  | _ => xferFault s u x Kind.addressUnmapped a

/-- The transfer whose lines move now: the oldest that has lines left, once it is checked and every older one has moved. -/
def movingXfer (t : Tile) : Option Xfer :=
  match t.xfers.find? (fun x => !(x.started && decide (x.moves ≤ x.moved)) && !x.failed) with
  | some x => if x.started then some x else none
  | none => none

/-- TRANSFER_LINE: the engine moves one line, at most one per core cycle over all its transfers, from 16 cc after the XDMA's issue on;
what moved in an earlier cycle inside the own frame is written by then (R189). -/
def transferLine (s0 : State) (u : Nat) : State :=
  if !(tileRuns s0 u) || decide (tileNow s0 < (tileAt s0 u).dmaNext) then s0
  else
    let s := landOwnLines s0 u
    match movingXfer (tileAt s u) with
    | none => s
    | some x =>
      if tileNow s < x.issuedAt + 16 then s
      else
        let (n, m) := x.runLines
        let k := x.moved
        let y : Xfer := { x with moved := k + 1 }
        let s1 := modTile (modXfer s u x.slot (fun _ => y)) u (fun t => { t with dmaNext := tileNow s + 1 })
        if k % max n m < n then xferRead s1 u y (k / max n m * n + k % max n m) else s1

/-- A transfer's source line arrives from a stand buffer or the host. -/
def xferData (s : State) (o : OutReq) (k l : Nat) (data : List Byte) (poison : Nat) : State :=
  match xferAt s o.unit k with
  | some x => if x.failed then sweepXfer s o.unit k else xferSource s o.unit x l data poison
  | none => s

/-- A request of a transfer fails with the record that `rec` makes: the transfer stops. -/
def xferStop (s : State) (u k : Nat) (rec : State → Xfer → Option Nat → State) : State :=
  match xferAt s u k with
  | some x => if x.failed then sweepXfer s u k else xferFaultBy s u x (fun s orph => rec s x orph)
  | none => s

/-- A line of a transfer is refused (R188, R326, R390). -/
def xferRefused (s : State) (o : OutReq) (k l kind : Nat) (wr : Bool) : State :=
  xferStop s o.unit k (fun s x orph => xferRecord s o.unit x kind (if wr then x.dstAddr l else x.srcAddr l) orph)

/-- TRANSFER_COMPLETE: every destination line has been written and, where remote, acknowledged (R189, R190). -/
def transferComplete (s : State) (u k : Nat) : State :=
  if !(tileRuns s u) then s
  else match xferAt s u k with
  | none => s
  | some x =>
    if !(x.started && !x.failed && decide (x.moves ≤ x.moved) && decide (x.landed = x.dstTotal)) then s
    else
      let s1 := modTile s u (fun t => { t with
        xfers := t.xfers.filter (fun y => y.slot != k)
        xfersDone := (t.xfersDone + 1) % 2 ^ 32
        xcnt := match x.sendCnt with
          | some c => t.xcnt.set c ((t.xcnt.getD c 0 + x.dstTotal) % 2 ^ 32)
          | none => t.xcnt })
      if x.doneEv then setEvent s1 u 4 else s1

end Sys2Proof.Machine
end

