-- ==== Sys2Proof/Machine/Locks.lean ====
section
/-! DEFINITION. The lock unit (chapter 12): groups and rights, the operations of Table 12.4, queues and watches,
orphaning, forced release, and the return from Safe. -/

namespace Sys2Proof.Machine

/-- Group `g`. -/
def lockGroup (s : State) (g : Nat) : LockGroup := s.lck.groups.getD g {}
/-- Cell `n`. -/
def cellAt (s : State) (n : Nat) : LockCell := SMap.get {} s.lck.cells n
/-- Cell `n` replaced. -/
def setCell (s : State) (n : Nat) (c : LockCell) : State :=
  { s with lck := { s.lck with cells := SMap.put {} s.lck.cells n c } }
/-- The waiters of a cell, in arrival order. -/
def waitersOf (s : State) (n : Nat) : List LockWait := s.lck.waits.filter (fun w => decide (w.cell = n) && !w.watch)
/-- The watches on a cell. -/
def watchesOf (s : State) (n : Nat) : List LockWait := s.lck.waits.filter (fun w => decide (w.cell = n) && w.watch)
/-- An entry returns to the pool. -/
def dropWait (s : State) (w : LockWait) : State := { s with lck := { s.lck with waits := s.lck.waits.erase w } }

/-- ADDR of a lock record: cell and OP. -/
def lockAddr (cell op : Nat) : Nat := cell % 4096 + 2 ^ 12 * op
/-- CELL. -/
def lqCell (r : LockReq) : Nat := bits r.word 11 0
/-- AMOUNT. -/
def lqAmount (r : LockReq) : Nat := bits r.word 47 32
/-- WAIT_LIMIT. -/
def lqLimit (r : LockReq) : Nat := bits r.word 31 16
/-- WAKE. -/
def lqWake (r : LockReq) : Bool := bit r.word 15
/-- NOWAIT. -/
def lqNowait (r : LockReq) : Bool := bit r.word 14

/-- The answer of a grant or refusal that ends a wait: it is the request's final answer (R366). -/
def waitAnswer (s : State) (w : LockWait) (fail : Bool) (value status : Nat) : State :=
  replayFinish s 0x304 w.rq (.result (resultWord fail value status))

/-- The VALUE of an answer that ends or turns away a wait: COUNT at a semaphore, zero at a mutex (R356). -/
def waitValue (s : State) (n : Nat) : Nat := if (lockGroup s (n / 64)).mode then (cellAt s n).count else 0

/-- A grant is counted. -/
def countGrant (s : State) : State := { s with lck := { s.lck with grants := (s.lck.grants + 1) % 2 ^ 32 } }

/-- A mutex cell becomes HELD by a requester. -/
def holdCell (s : State) (n src slot : Nat) : State :=
  countGrant (setCell s n { cellAt s n with state := 1, owner := src, slot := slot, handover := false })

/-- A mutex cell becomes ORPHANED under the present policy of its group, with its owner as former owner (R352, R363). -/
def orphanCell (s : State) (n : Nat) : State :=
  setCell s n { cellAt s n with state := 2, handover := (lockGroup s (n / 64)).orphan }

/-- Every watch on a cell is removed and LOCK_WAKE is sent to its tile (R362). -/
def wakeWatches (s : State) (n : Nat) : State :=
  let ws := watchesOf s n
  let s1 : State := { s with lck := { s.lck with waits := s.lck.waits.filter (fun w => !(decide (w.cell = n) && w.watch)) } }
  ws.foldl (fun s w => sendPosted s (rqId 0x304 0) (w.rq.src / 4) w.rq.part (.eventSet 1)) s1

/-- The head waiter of a mutex cell receives it with a status, or the cell becomes FREE and its watches wake. -/
def passCell (s : State) (n status : Nat) : State :=
  match waitersOf s n with
  | w :: _ => waitAnswer (holdCell (dropWait s w) n w.rq.src w.slot) w false 0 status
  | [] => wakeWatches (setCell s n { cellAt s n with state := 0, owner := 0, slot := 0, handover := false }) n

/-- Semaphore waiters are granted from the head for as long as the head's AMOUNT fits (R359). -/
def grantSems (s : State) (n : Nat) (fuel : Nat) : State :=
  match fuel with
  | 0 => s
  | k + 1 =>
    match waitersOf s n with
    | [] => s
    | w :: _ =>
      let c := cellAt s n
      if c.count < w.units then s
      else
        let s1 := countGrant (setCell (dropWait s w) n { c with count := c.count - w.units })
        grantSems (waitAnswer s1 w false (c.count - w.units) 0) n k

/-- Semaphore waiters are granted; where none is left, the watches wake. -/
def serveSems (s : State) (n : Nat) : State :=
  let s1 := grantSems s n (waitersOf s n).length
  if (waitersOf s1 n).isEmpty then wakeWatches s1 n else s1

/-- The waiters of an ORPHANED mutex cell are served (R363 steps 3 and 4). -/
def serveOrphan (s : State) (n : Nat) : State :=
  if (cellAt s n).handover then
    (match waitersOf s n with
     | [] => s
     | _ => passCell s n 4)
  else
    (waitersOf s n).foldl (fun s w => waitAnswer (dropWait s w) w true (waitValue s n) 0x19) s

/-! ### Stored errors (R370) -/

/-- The state of a cell is lost (R370): a mutex cell becomes ORPHANED with OWNER and SLOT all ones and its waiters are served. A
semaphore cell has no owner and its STATE stays 0 (Table 12.6): OWNER and SLOT become all ones, the waiters keep their places, and
COUNT is a free value (log entry 124). -/
def loseCell (s : State) (n : Nat) : State :=
  let c : LockCell := { cellAt s n with err := 0, owner := 2 ^ 14 - 1, slot := 3 }
  if (lockGroup s (n / 64)).mode then
    (let x := freeTake s
     setCell x.2 n { c with count := x.1 % 2 ^ 16 })
  else serveOrphan (orphanCell (setCell s n c) n) n

/-- A stored error of a cell is met. -/
def meetCellErr (s : State) (n : Nat) : State :=
  let c := cellAt s n
  let g := lockGroup s (n / 64)
  let p := if g.valid then some g.part else none
  match c.err with
  | 0 => s
  | 1 => raise (setCell { s with lck := { s.lck with corrected := (s.lck.corrected + 1) % 2 ^ 16 } } n { c with err := 0 })
           Kind.lockStoreCorrected (rqId 0x304 0) p (lockAddr n 0) 0
  | _ => loseCell (raise { s with lck := { s.lck with uncorrected := (s.lck.uncorrected + 1) % 2 ^ 16 } }
           Kind.lockStoreUncorrectable (rqId 0x304 0) p (lockAddr n 0) 0) n

/-- A stored error of a pool entry is met. -/
def meetWaitErr (s : State) (w : LockWait) : State :=
  match w.err with
  | 0 => s
  | 1 => raise { s with lck := { s.lck with corrected := (s.lck.corrected + 1) % 2 ^ 16, waits := s.lck.waits.map (fun x => if x = w then { x with err := 0 } else x) } }
           Kind.lockStoreCorrected (rqId 0x304 0) (some w.rq.part) (lockAddr w.cell 0) 0
  | _ =>
    let s1 := raise (dropWait { s with lck := { s.lck with uncorrected := (s.lck.uncorrected + 1) % 2 ^ 16 } } w)
      Kind.lockStoreUncorrectable (rqId 0x304 0) (some w.rq.part) (lockAddr w.cell 0) w.rq.src
    if w.watch then s1 else waitAnswer s1 w true (waitValue s1 w.cell) 0x19

/-- The stored errors of a cell and of its entries are met. -/
def meetLockErrs (s : State) (n : Nat) : State :=
  let s1 := meetCellErr s n
  (s1.lck.waits.filter (fun w => decide (w.cell = n))).foldl meetWaitErr s1

/-! ### Evaluation (R355 to R357) -/

/-- Whether a requester may use an OP (R355). -/
def lockSource (src : Nat) (o : LockOp) : Bool :=
  let u := src / 4
  let tile := isTile u && decide (src % 4 = 0)
  let host := (decide (u = 0x381) || decide (u = 0x383)) && decide (src % 4 < 2)
  match o with
  | .force => decide (src = rqId 0x308 0)
  | .cancel => host
  | _ => tile || host

/-- Check 4 of R356. -/
def lockFieldsOk (g : LockGroup) (src : Nat) (r : LockReq) : Bool :=
  let sem := decide (r.op = .semAcquire) || decide (r.op = .semRelease)
  let waits := decide (r.op = .acquire) || (decide (r.op = .semAcquire) && !(lqNowait r))
  decide (r.word / 2 ^ 48 = 0) && decide (bits r.word 13 12 = 0) && decide (r.slot < 4)
  && (if sem then decide ((lqAmount r) ≠ 0) else decide ((lqAmount r) = 0))
  && (waits || decide ((lqLimit r) = 0))
  && (!(lqNowait r) || decide (r.op = .semAcquire))
  && (!(lqWake r) || decide (r.op = .try_) || (decide (r.op = .semAcquire) && (lqNowait r)))
  && (match r.op with
      | .acquire | .try_ | .release => !g.mode
      | .semAcquire | .semRelease => g.mode
      | .cancel | .force => decide (r.word / 2 ^ 12 = 0))
  && (!(lqWake r) || (isTile (src / 4) && g.watch))

/-- An answer that changes nothing. -/
def lockNo (s : State) (value status : Nat) : Eval := { st := s, ans := some (.result (resultWord true value status)), changed := false }

/-- An answer that changes state. -/
def lockYes (s : State) (value status : Nat) : Eval := { st := s, ans := some (.result (resultWord false value status)) }

/-- Whether a partition may take one more pool entry. -/
def poolRoom (s : State) (p : Nat) : Bool :=
  decide (s.lck.waits.length < 4096)
  && decide ((s.lck.waits.filter (fun w => decide (w.rq.part = p))).length < s.lck.quotas.getD p 0)

/-- An entry is taken from the pool. -/
def takeWait (s : State) (w : LockWait) : State :=
  { s with lck := { s.lck with waits := s.lck.waits ++ [w], hwm := max s.lck.hwm (s.lck.waits.length + 1) } }

/-- A request joins the tail of the queue, or is answered NO_SPACE (R359). -/
def joinQueue (s : State) (rq : Rq) (r : LockReq) : Eval :=
  if poolRoom s rq.part then
    { st := takeWait s { cell := (lqCell r), rq := rq, slot := r.slot, units := (lqAmount r),
                         deadline := if (lqLimit r) = 0 then none else some (now s + 256 * (lqLimit r)) }
      ans := none }
  else lockNo s (waitValue s (lqCell r)) 0x09

/-- A LOCK_BUSY answer; with WAKE it leaves a watch (R362). -/
def lockBusy (s : State) (rq : Rq) (r : LockReq) (value : Nat) : Eval :=
  if (lqWake r) && !((watchesOf s (lqCell r)).any (fun w => decide (w.rq.src / 4 = rq.src / 4))) && poolRoom s rq.part then
    { st := takeWait s { cell := (lqCell r), rq := rq, watch := true }
      ans := some (.result (resultWord true value 0x18)) }
  else lockNo s value 0x18

/-- The outcome of Table 12.4. -/
def lockOutcome (s : State) (rq : Rq) (r : LockReq) : Eval :=
  let n := (lqCell r)
  let c := cellAt s n
  let g := lockGroup s (n / 64)
  let mine := decide (c.owner = rq.src) && decide (c.slot = r.slot)
  match r.op with
  | .acquire | .try_ =>
    if c.state = 0 then lockYes (holdCell s n rq.src r.slot) 0 0
    else if c.state = 1 then
      (if r.op = .try_ then lockBusy s rq r c.owner
       else if mine then lockNo s 0 0x18
       else joinQueue s rq r)
    else if c.handover then lockYes (holdCell s n rq.src r.slot) 0 4
    else lockNo s 0 0x19
  | .release =>
    if c.state ≠ 0 ∧ mine then lockYes (passCell s n 0) 0 0
    else lockNo (raise s Kind.lockNotOwner (rqId 0x304 0) (some rq.part) (lockAddr n 3) rq.src) 0 0x1A
  | .semAcquire =>
    if (waitersOf s n).isEmpty ∧ (lqAmount r) ≤ c.count then
      lockYes (countGrant (setCell s n { c with count := c.count - (lqAmount r) })) (c.count - (lqAmount r)) 0
    else if (lqNowait r) then lockBusy s rq r c.count
    else joinQueue s rq r
  | .semRelease =>
    if 65535 < c.count + (lqAmount r) then
      lockNo (raise s Kind.lockCountOverflow (rqId 0x304 0) (some rq.part) (lockAddr n 5) rq.src) c.count 0x1B
    else
      let s1 := serveSems (setCell s n { c with count := c.count + (lqAmount r) }) n
      lockYes s1 (cellAt s1 n).count 0
  | .cancel =>
    (match (waitersOf s n).find? (fun w => decide (w.rq.src = rq.src) && decide (w.rq.part = rq.part)) with
     | some w => lockYes (waitAnswer (dropWait s w) w true (waitValue s w.cell) 0x0B) 1 0
     | none => { st := s, ans := some (.result (resultWord false 0 0)), changed := false })
  | .force =>
    let forced (s : State) : Eval := lockYes (raise s Kind.lockForced (rqId 0x304 0) (if g.valid then some g.part else none) (lockAddr n 7) rq.src) 0 0
    if g.mode then
      (let s1 := grantSems (setCell s n { c with count := c.init }) n (waitersOf s n).length
       let s2 := if c.count < c.init ∧ (waitersOf s1 n).isEmpty then wakeWatches s1 n else s1
       if c.count = c.init ∧ (waitersOf s1 n).length = (waitersOf s n).length then
         { st := s, ans := some (.result (resultWord false 0 0)), changed := false }
       else forced s2)
    else if c.state = 0 then { st := s, ans := some (.result (resultWord false 0 0)), changed := false }
    else forced (passCell s n 4)

/-- The evaluation of R356 from its second check on. -/
def lockEval (s0 : State) (rq : Rq) (r : LockReq) : Eval :=
  let s1 := meetLockErrs s0 (lqCell r)
  let s : State := { s1 with lck := { s1.lck with ops := (s1.lck.ops + 1) % 2 ^ 32 } }
  let g := lockGroup s ((lqCell r) / 64)
  let denied (k status : Nat) : Eval := lockNo (raise s k (rqId 0x304 0) (some rq.part) (lockAddr (lqCell r) (lockOpCode r.op)) rq.src) 0 status
  if !(lockSource rq.src r.op) then denied Kind.lockRightsViolation 0x10
  else if !(decide (r.op = .force)) && !(g.valid && decide (g.part = rq.part) && (if isTile (rq.src / 4) then g.node else g.host)) then
    denied Kind.lockRightsViolation 0x10
  else if !(lockFieldsOk g rq.src r) then denied Kind.lockOpInvalid 0x11
  else lockOutcome s rq r

/-- A lock operation arrives (R356, R366): during a slice only the replay-cache lookup is made (R367). -/
def lockRequest (s : State) (rq : Rq) (r : LockReq) : State :=
  if !(working s) then s
  else arriveReq s 0x304 rq (.lockOp r) (fun s =>
    match sliceLeft s 0x304 with
    | some left =>
      if s.replays.any (fun e => e.is 0x304 rq) then lookupReq s 0x304 rq (fun s => lockEval s rq r)
      else respond s 0x304 rq (.busyRetry (left + 16))
    | none => lookupReq s 0x304 rq (fun s => lockEval s rq r))

/-- LOCK_WAIT_LIMIT: a waiter's limit has passed; it is removed and answered TIMEOUT (R360). -/
def lockWaitLimit (s : State) (rq : Rq) : State :=
  if !(working s) || (sliceLeft s 0x304).isSome then s
  else match s.lck.waits.find? (fun w => !w.watch && decide (w.rq = rq)) with
  | none => s
  | some w =>
    match w.deadline with
    | none => s
    | some d =>
      if now s < d then s
      else waitAnswer (dropWait s w) w true (waitValue s w.cell) 0x0B

/-! ### Orphaning (R363) -/

/-- The mutex cells that a requester holds in a partition's groups. -/
def heldCells (s : State) (rq part : Nat) : List Nat :=
  (s.lck.cells.filter (fun x => decide (x.2.state = 1) && decide (x.2.owner = rq)
    && decide ((lockGroup s (x.1 / 64)).part = part) && (lockGroup s (x.1 / 64)).valid)).map Prod.fst

/-- The effects of ORPHAN_NOTIFY for a requester and a partition. -/
def orphan (s : State) (rq part : Nat) : State :=
  let mine (w : LockWait) : Bool := decide (w.rq.src = rq) && decide (w.rq.part = part)
  let s1 : State := { s with lck := { s.lck with waits := s.lck.waits.filter (fun w => !mine w) } }
  let cells := heldCells s1 rq part
  let s2 := cells.foldl serveOrphan (cells.foldl orphanCell s1)
  if cells.isEmpty then s2
  else raise s2 Kind.lockCellOrphaned (rqId 0x304 0) (some part) (lockAddr (cells.headD 0) 0) (rq % 2 ^ 14 + 2 ^ 32 * cells.length)

/-- ORPHAN_NOTIFY arrives; during a slice it is held, to be applied when the slice ends (R367). -/
def orphanNotify (s : State) (src rq part : Nat) : State :=
  let pkt : Packet := { cls := 0, dest := 0x304, src := src, part := part, body := .orphanNotify rq part }
  if !(clocked s && arrivable s pkt) then s
  else
    let s1 := takePkt s pkt
    if (sliceLeft s 0x304).isSome then { s1 with lck := { s1.lck with notes := s1.lck.notes ++ [(rq, part)] } }
    else orphan s1 rq part

/-- The slice of the lock unit has ended: the notifications held during it are applied in their order (R367). -/
def applyNotes (s : State) : State :=
  s.lck.notes.foldl (fun s x => orphan s x.1 x.2) { s with lck := { s.lck with notes := [] } }

/-! ### Groups (R351, R352, R368, R369) -/

/-- Whether no cell of a group is HELD or ORPHANED and nothing waits on or watches it. -/
def groupIdle (s : State) (g : Nat) : Bool :=
  s.lck.cells.all (fun x => decide (x.1 / 64 ≠ g) || decide (x.2.state = 0))
  && s.lck.waits.all (fun w => decide (w.cell / 64 ≠ g))

/-- LCK.GROUP[g] set by the firmware (R351): MODE, ORPHAN, NODE, HOST and WATCH from a value of Table 12.1; none where MODE changes
while the group is in use (R352). -/
def groupSet (s : State) (g v : Nat) : Option State :=
  let x := lockGroup s g
  let y : LockGroup := { x with mode := bit v 58, orphan := bit v 57, node := bit v 56, host := bit v 55, watch := bit v 54 }
  if y.mode ≠ x.mode ∧ !(groupIdle s g) then none else some { s with lck := { s.lck with groups := s.lck.groups.set g y } }

/-- INIT of a cell set by the firmware (R351), and COUNT with it; none while the group is in use (R352). -/
def initSet (s : State) (n v : Nat) : Option State :=
  if groupIdle s (n / 64) then some (setCell s n { cellAt s n with init := bits v 15 0, count := bits v 15 0 }) else none

/-- Whether a partition is quiescent at the lock unit (R369). -/
def lockQuiet (s : State) (p : Nat) : Bool :=
  s.lck.waits.all (fun w => decide (w.rq.part ≠ p))
  && s.lck.cells.all (fun x => decide (x.2.state = 0) || !((lockGroup s (x.1 / 64)).valid && decide ((lockGroup s (x.1 / 64)).part = p)))

/-- A group granted to a partition: its cells FREE with COUNT and INIT zero. -/
def grantGroup (s : State) (g p : Nat) : State :=
  { s with lck := { s.lck with
      groups := s.lck.groups.set g { valid := true, part := p, node := true, host := true, watch := true }
      cells := SMap.drop s.lck.cells (fun n => decide (n / 64 = g)) } }

/-- A group withdrawn. -/
def withdrawGroup (s : State) (g : Nat) : State :=
  { s with lck := { s.lck with groups := s.lck.groups.set g {} } }

/-- The lock unit's return from Safe (R368). -/
def lockSafe (s : State) : State :=
  { s with lck := { s.lck with
      waits := []
      cells := s.lck.cells.foldl (fun m x =>
        let sem := (lockGroup s (x.1 / 64)).mode
        SMap.put {} m x.1 (if sem then { x.2 with count := x.2.init }
          else if x.2.state = 1 then { x.2 with state := 2, handover := (lockGroup s (x.1 / 64)).orphan } else x.2)) [] } }

end Sys2Proof.Machine
end

