-- ==== Sys2Proof/Machine/Msix.lean ====
section
/-! DEFINITION. Host functions and their MSI-X messages (R392, R393), and the vector-0 notices (R481). -/

namespace Sys2Proof.Machine

/-- The key of a function: 32 × port + function number. -/
def fnKey (port fn : Nat) : Nat := 32 * port + fn

/-- A host function. -/
def fnAt (s : State) (port fn : Nat) : Fn := SMap.get {} s.fns (fnKey port fn)

/-- A host function replaced. -/
def setFn (s : State) (port fn : Nat) (f : Fn) : State := { s with fns := SMap.put {} s.fns (fnKey port fn) f }

/-- A host port's bridge. -/
def hifAt (s : State) (b : Nat) : Hif := s.hif.getD b {}

/-- A host port's bridge replaced. -/
def setHif (s : State) (b : Nat) (h : Hif) : State := { s with hif := s.hif.set b h }

/-- A message leaves the part. -/
def emit (s : State) (m : OutMsg) : State := { s with sent := s.sent ++ [m] }

/-- Whether a vector's message may be sent now: enabled, not masked. -/
def vecOpen (f : Fn) (vec : Nat) : Bool := f.msixEn && !f.fnMask && NSet.has f.open_ vec

/-- A vector's message falls due (R393): sent, or its pending bit set; beyond the function's count it is counted. -/
def signalVec (s : State) (port fn vec : Nat) : State :=
  let f := fnAt s port fn
  if (if fn = 0 then 64 else f.vecs) ≤ vec then
    setHif s port { hifAt s port with discardedCpl := ((hifAt s port).discardedCpl + 1) % 2 ^ 16 }
  else if vecOpen f vec && !inSafe s then emit s (.msix port fn vec)
  else setFn s port fn { f with pend := NSet.add f.pend vec }

/-- The pending messages of a function that may now be sent are sent once, lowest vector first. -/
def sendPending (s : State) (port fn : Nat) : State :=
  if inSafe s then s
  else
    let f := fnAt s port fn
    let due := f.pend.filter (fun v => vecOpen f v)
    due.foldl (fun s v => emit s (.msix port fn v)) (setFn s port fn { f with pend := f.pend.filter (fun v => !(vecOpen f v)) })

/-- The functions of both ports. -/
def allFns : List (Nat × Nat) := ((List.range 17).map (fun f => (0, f))) ++ ((List.range 17).map (fun f => (1, f)))

/-- The functions bound to a partition. -/
def fnsOf (s : State) (p : Nat) : List (Nat × Nat) := allFns.filter (fun x => decide ((fnAt s x.1 x.2).part = some p))

/-- A vector-0 notice of a function: at most one message every 16,000 cc (R481). -/
def noticeFn (s : State) (x : Nat × Nat) : State :=
  let k := fnKey x.1 x.2
  let n := SMap.get {} s.flt.notices k
  let due := match n.last with
    | some t => decide (t + 16000 ≤ now s)
    | none => true
  if due then
    signalVec { s with flt := { s.flt with notices := SMap.put {} s.flt.notices k { last := some (now s) } } } x.1 x.2 0
  else { s with flt := { s.flt with notices := SMap.put {} s.flt.notices k { n with deferred := true } } }

/-- NOTICE_INTERVAL_END: a deferred notice is sent at the end of its interval. -/
def noticeEnd (s : State) (port fn : Nat) : State :=
  let n := SMap.get {} s.flt.notices (fnKey port fn)
  match n.deferred, n.last with
  | true, some t =>
    if clocked s && decide (t + 16000 ≤ now s) then
      noticeFn { s with flt := { s.flt with notices := SMap.put {} s.flt.notices (fnKey port fn) { n with deferred := false } } }
        (port, fn)
    else s
  | _, _ => s

/-- Notices of several functions. -/
def noticeAll (s : State) (l : List (Nat × Nat)) : State := l.foldl noticeFn s

end Sys2Proof.Machine
end

