-- ==== Sys2Proof/Machine/HostAccess.lean ====
section
/-! DEFINITION. Host accesses of a bridge (R387 to R390): the function and PASID that carry them, the translation cache,
issue in CXL and PCIe mode, tags, failures, and the memory requests of tiles in the host window. -/

namespace Sys2Proof.Machine

/-- The unit identifier of bridge `b`. -/
def bridgeUnit (b : Nat) : Nat := if b = 0 then 0x381 else 0x383
/-- The bridge with a unit identifier. -/
def bridgeOf (u : Nat) : Option Nat := if u = 0x381 then some 0 else if u = 0x383 then some 1 else none
/-- The link of half `h` of a port. -/
def linkHalf (s : State) (b h : Nat) : HLink := (hifAt s b).links.getD h {}

/-- The function of port `b` bound to a partition, the lowest-numbered where there are two. -/
def partFn (s : State) (b part : Nat) : Option Nat :=
  (List.range 17).find? (fun f => decide ((fnAt s b f).part = some part))

/-- Whether a function's service runs: enabled, with Bus Master Enable set (R385). -/
def fnActive (s : State) (b f : Nat) : Bool := (fnAt s b f).bme && (decide (f = 0) || (hifAt s b).vfEnable)

/-- What starting an access gives: it waits for the host, it is done (a posted write), or it fails with a kind. -/
inductive HStart where
  | pending
  | done
  | failed (kind : Nat)
  deriving DecidableEq, Repr

/-- What an access ends with: data and poison of a read (none of a write), or a failure. -/
inductive HRes where
  | ok (data : List Byte) (poison : Nat)
  | fail (kind : Nat)
  deriving DecidableEq, Repr

/-- The access record with its failure counted (Table 13.9). -/
def countHostFail (s : State) (b kind : Nat) : State :=
  let h := hifAt s b
  setHif s b (if kind = Kind.hostTranslationFault then { h with xlateFaults := (h.xlateFaults + 1) % 2 ^ 16 }
              else { h with cplErrors := (h.cplErrors + 1) % 2 ^ 16 })

/-- The bridge's own record of a failed access (R390, Table 16.2). -/
def hostFault (s : State) (b : Nat) (a : HostAcc) (kind reason : Nat) : State :=
  raise s kind (rqId (bridgeUnit b) 0) (some a.part) (a.iova % 2 ^ 44) (2 * a.fn + 2 ^ 8 * reason)

/-- Non-posted requests of a port that are outstanding. -/
def nonPosted (s : State) (b : Nat) : Nat :=
  ((hifAt s b).accs.filter (fun a => decide (a.phase = 0) || (decide (a.phase = 2) && !a.wr))).length

/-- An access kept among those of its port, replacing the one with its number. -/
def keepAcc (s : State) (b : Nat) (a : HostAcc) : State :=
  let h := hifAt s b
  let rest := h.accs.filter (fun x => x.id != a.id)
  setHif s b { h with accs := rest ++ [a] }

/-- The completion timeout in cc. -/
def cplLimit (s : State) (b : Nat) : Nat := usToCc s (hifAt s b).cplTimeout

/-- Whether an access reaches ring memory, which never travels on CXL.cache (R401). -/
def HUse.ring : HUse → Bool
  | .desc _ | .entry _ _ => true
  | _ => false

/-- Whether an access travels on CXL.cache: in CXL mode, but for ring memory (R388, R401). -/
def onCache (s : State) (b : Nat) (a : HostAcc) : Bool := (linkHalf s b 0).cxl && !a.use.ring

/-- The request that carries an access: RdCurr for reads, ItoMWr for full-line writes and WrCur for partial ones on CXL.cache,
otherwise a memory request (R388). -/
def hostOp (cxl : Bool) (a : HostAcc) : HostOp :=
  if !cxl then .memory
  else if !a.wr then .rdCurr
  else if a.addr % 64 = 0 ∧ a.len % 64 = 0 then .itoMWr else .wrCur

/-- Whether the traffic of half `h` of a port passes: its link stream is not Insecure (R391). -/
def ideOpen (s : State) (b h : Nat) : Bool := decide ((hifAt s b).streams.getD (if h = 0 then 0 else 5) 0 ≠ 2)

/-- The access goes to the host: on CXL.cache in CXL mode, otherwise as a memory request, a write then being posted. -/
def issueAcc (s : State) (b : Nat) (a : HostAcc) : State × HStart :=
  let cxl := onCache s b a
  if a.wr then
    let s1 := emit s (.hostWrite b a.id a.fn a.pasid a.addr a.data a.poison a.translated (hostOp cxl a) a.relaxed)
    if cxl then (keepAcc s1 b { a with phase := 2, deadline := now s + cplLimit s b }, .pending)
    else (setHif s1 b { hifAt s1 b with accs := (hifAt s1 b).accs.filter (fun x => x.id != a.id) }, .done)
  else if 512 ≤ nonPosted s b then (keepAcc s b { a with phase := 1 }, .pending)
  else (keepAcc (emit s (.hostRead b a.id a.fn a.pasid a.addr a.len a.translated (hostOp cxl a))) b
          { a with phase := 2, deadline := now s + cplLimit s b }, .pending)

/-- The PASID field of a translation-cache tag: the PASID, or a value of its own where there is none. -/
def atcPasid (a : HostAcc) : Nat := a.pasid.getD (2 ^ 20)

/-- The cache entry that covers an access. -/
def atcFind (h : Hif) (a : HostAcc) : Option Atc :=
  h.atc.find? (fun e => decide (e.fn = a.fn) && decide (e.pasid = atcPasid a) && decide (e.page ≤ a.iova) && decide (a.iova < e.page + e.size))

/-- A lookup in the translation cache, with a stored error met (R389). -/
def atcLookup (s : State) (b : Nat) (a : HostAcc) : State × Option Atc :=
  let h := hifAt s b
  match atcFind h a with
  | none => (s, none)
  | some e =>
    match e.err with
    | 0 => (s, some e)
    | 1 => (raise (setHif s b { h with atc := h.atc.map (fun x => if x.id = e.id then { x with err := 0 } else x) })
              Kind.atcCorrected (rqId (bridgeUnit b) 0) (some a.part) (a.iova % 2 ^ 44) (2 * a.fn), some e)
    | _ => (raise (setHif s b { h with atc := h.atc.filter (fun x => x.id != e.id) })
              Kind.atcUncorrectable (rqId (bridgeUnit b) 0) (some a.part) (a.iova % 2 ^ 44) (2 * a.fn), none)

/-- An access fails before or after it was issued: it is counted and leaves. -/
def failAcc (s : State) (b : Nat) (a : HostAcc) (kind : Nat) : State :=
  let s1 := countHostFail s b kind
  setHif s1 b { hifAt s1 b with accs := (hifAt s1 b).accs.filter (fun x => x.id != a.id) }

/-- An access with its translation at hand. -/
def useAtc (s : State) (b : Nat) (a : HostAcc) (e : Atc) : State × HStart :=
  if (if a.wr then e.wr else e.rd) then
    issueAcc s b { a with translated := true, addr := e.addr + (a.iova - e.page), ents := [e.id] }
  else (failAcc s b a Kind.hostTranslationFault, .failed Kind.hostTranslationFault)

/-- An access is tried: its function, its stream, its PASID and ATS, then its translation (R385, R388, R391). -/
def tryAcc (s : State) (b : Nat) (a : HostAcc) : State × HStart :=
  let f := fnAt s b a.fn
  let no (k : Nat) : State × HStart := (failAcc s b a k, .failed k)
  if !(fnActive s b a.fn) || !(ideOpen s b 0) then no Kind.hostCompletionError
  else if (onCache s b a && !(f.atsEn && f.pasidEn)) || (a.pasid.isSome && !f.pasidEn) then no Kind.hostTranslationFault
  else if !f.atsEn then issueAcc s b { a with addr := a.iova }
  else
    let (s1, e) := atcLookup s b a
    match e with
    | some e => useAtc (setHif s1 b { hifAt s1 b with hits := ((hifAt s1 b).hits + 1) % 2 ^ 32 }) b a e
    | none =>
      if 512 ≤ nonPosted s1 b then (keepAcc s1 b { a with phase := 1 }, .pending)
      else
        let s2 := setHif s1 b { hifAt s1 b with misses := ((hifAt s1 b).misses + 1) % 2 ^ 16 }
        (keepAcc (emit s2 (.atsRequest b a.id a.fn (atcPasid a) a.iova)) b { a with phase := 0, deadline := now s + cplLimit s b }, .pending)

/-- A new access: it takes a number and is tried. -/
def hostStart (s : State) (b : Nat) (a : HostAcc) : State × HStart :=
  let h := hifAt s b
  tryAcc (setHif s b { h with nextId := h.nextId + 1 }) b { a with id := h.nextId }

/-- A host-window access of a partition at its home bridge: with its bound function and its PASID (R387). -/
def windowStart (s : State) (part : Nat) (a : HostAcc) : State × HStart :=
  let b := s.homes.getD part 0
  match partFn s b part with
  | some f => hostStart s b { a with fn := f, part := part, pasid := some (fnAt s b f).pasid }
  | none => (countHostFail s b Kind.hostCompletionError, .failed Kind.hostCompletionError)

/-! ### Completions -/

/-- The access with a number. -/
def accAt (s : State) (b id : Nat) : Option HostAcc := (hifAt s b).accs.find? (fun a => decide (a.id = id))

/-- An access has ended: an invalidation that waited for it may complete (R389). -/
def accEnded (s : State) (b id : Nat) : State :=
  let h := hifAt s b
  let ws := h.invWait.map (fun w => { w with accs := w.accs.filter (fun x => x != id) })
  let done := ws.filter (fun w => w.accs.isEmpty)
  done.foldl (fun s w => emit s (.invalDone b w.fn w.itag))
    (setHif s b { h with accs := h.accs.filter (fun x => x.id != id), invWait := ws.filter (fun w => !w.accs.isEmpty) })

/-- A translation fills an entry of the 2,048; which one a full cache gives up the spec's pseudo-LRU leaves open. -/
def atcFill (s : State) (b : Nat) (a : HostAcc) (g : AtsGrant) : State × Atc :=
  let (v, s1) := freeTake s
  let h := hifAt s1 b
  let e : Atc := { id := h.nextAtc, fn := a.fn, pasid := atcPasid a, page := g.page, size := g.size, addr := g.addr, rd := g.rd, wr := g.wr }
  let kept := if h.atc.length < 2048 then h.atc else h.atc.eraseIdx (v % 2048)
  ((if h.atc.length < 2048 then setHif s b { hifAt s b with atc := kept ++ [e], nextAtc := h.nextAtc + 1 }
    else setHif s1 b { h with atc := kept ++ [e], nextAtc := h.nextAtc + 1 }), e)

/-- The translation of an access arrives: it is issued, or it fails. -/
def atsAnswer (s : State) (b : Nat) (a : HostAcc) (g : Option AtsGrant) : State × HStart :=
  match g with
  | some g =>
    if (if a.wr then g.wr else g.rd) && decide (g.page ≤ a.iova) && decide (a.iova < g.page + g.size) then
      let (s1, e) := atcFill s b a g
      useAtc s1 b a e
    else (failAcc s b a Kind.hostTranslationFault, .failed Kind.hostTranslationFault)
  | none => (failAcc s b a Kind.hostTranslationFault, .failed Kind.hostTranslationFault)

/-- The access that has waited longest for a tag, where one is free. -/
def nextTagged (s : State) (b : Nat) : Option HostAcc :=
  if nonPosted s b < 512 then (hifAt s b).accs.find? (fun a => decide (a.phase = 1)) else none

/-- A function's translation-cache entries are discarded (R389). -/
def atcDrop (s : State) (b f : Nat) : State :=
  setHif s b { hifAt s b with atc := (hifAt s b).atc.filter (fun e => e.fn != f) }

/-- ATS_INVALIDATION_REQUEST: every matching entry goes; the completion follows the accesses that use one (R389). -/
def atsInvalidate (s : State) (b f : Nat) (pasid : Option Nat) (page size itag : Nat) : State :=
  if !(clocked s && ideOpen s b 0) then s
  else
    let h := hifAt s b
    let hit (e : Atc) : Bool := decide (e.fn = f) && (match pasid with
        | some p => decide (e.pasid = p)
        | none => true) && decide (e.page < page + size) && decide (page < e.page + e.size)
    let gone := (h.atc.filter hit).map Atc.id
    let users := (h.accs.filter (fun a => decide (a.phase = 2) && a.ents.any (fun x => gone.contains x))).map HostAcc.id
    let s1 := setHif s b { h with
      atc := h.atc.filter (fun e => !hit e)
      invals := (h.invals + 1) % 2 ^ 16
      invWait := if users.isEmpty then h.invWait else h.invWait ++ [⟨f, itag, users⟩] }
    if users.isEmpty then emit s1 (.invalDone b f itag) else s1

/-- HOST_SNOOP: every host snoop is answered RspIHitI (R388). -/
def hostSnoop (s : State) (b addr : Nat) : State :=
  if clocked s && ideOpen s b 0 && (linkHalf s b 0).up && (linkHalf s b 0).cxl then emit s (.snoopRsp b addr) else s

/-! ### Memory requests of tiles in the host window (R326, R390) -/

/-- The answer to a memory request: 0 a word, 1 a line, 2 four lines, 3 a write of one line or word, 4 of four lines. -/
def memAnswer (kind : Nat) (data : List Byte) (poison : Nat) : Resp :=
  match kind with
  | 0 => .dataWord ⟨BitVec.ofNat 64 (leNat data), decide (poison ≠ 0)⟩
  | 3 => .writeAck 1
  | 4 => .writeAck 4
  | _ => .dataBytes data poison

/-- A memory request at a bridge ends. In Safe no response leaves; it would be discarded at the return (R345, R346). -/
def memHostDone (s : State) (b : Nat) (a : HostAcc) (rq : Rq) (kind : Nat) (r : HRes) : State :=
  match r with
  | .ok data poison => if inSafe s then s else respond s (bridgeUnit b) rq (memAnswer kind data poison)
  | .fail k => if inSafe s then hostFault s b a k 5 else respond (hostFault s b a k 5) (bridgeUnit b) rq (.refused 5)

/-- A memory request reaches a bridge and starts its host access. -/
def memHost (s : State) (b : Nat) (rq : Rq) (kind iova len : Nat) (data : List Byte) (poison : Nat) : State :=
  let a : HostAcc := { part := rq.part, iova := iova, len := len, wr := decide (3 ≤ kind), data := data, poison := poison,
                       relaxed := decide (rq.src % 4 = 2), use := .mem rq kind }
  if s.homes.getD rq.part 0 ≠ b then
    memHostDone (countHostFail s b Kind.hostCompletionError) b a rq kind (.fail Kind.hostCompletionError)
  else
    let (s1, r) := windowStart s rq.part a
    match r with
    | .pending => s1
    | .done => memHostDone s1 b a rq kind (.ok [] 0)
    | .failed k => memHostDone s1 b { a with fn := (partFn s b rq.part).getD 0 } rq kind (.fail k)

end Sys2Proof.Machine
end

