-- ==== Sys2Proof/Machine/MemTargets.lean ====
section
/-! DEFINITION. Memory requests at their targets (R323, R324, R326, R588): tiles, stand buffers (R199) and bridges. -/

namespace Sys2Proof.Machine

/-! ### Tiles -/

/-- The check of a request-format access of `n` bytes (R326): the REFUSED reason, none where it passes. -/
def tileCheck (t : Tile) (part : Nat) (m : MemWord) (n : Nat) : Option Nat :=
  let b := t.bindings.getD m.slot {}
  if !(b.valid && decide (b.part = part)) then some 1
  else if b.vtile ≠ m.vtile ∨ b.gen ≠ m.gen then some 2
  else if 4096 * (t.vtFrame.getD m.slot {}).size < m.off + n then some 3
  else none

/-- A refusal by a tile; reason 2 also raises STALE_PLACEMENT. -/
def tileRefuse (s : State) (u : Nat) (rq : Rq) (reason : Nat) : State :=
  let s1 := if reason = 2 then raise s Kind.stalePlacement (rqId u 0) (some rq.part) rq.src 0 else s
  respond s1 u rq (.refused reason)

/-- A request arrives at the tile that serves position `u`. A quarantined tile drops it (R474); one in a slice leaves it
waiting in the network (R526). -/
def arriveTile (s : State) (u : Nat) (rq : Rq) (b : Body) (serve : Nat → State → State) : State :=
  let ph := steer s u
  if !(working s) || (tileAt s ph).testing then s
  else arriveReq s u rq b (fun s => if (tileAt s ph).excluded then s else serve ph s)

/-- A checked access of a tile's frame window. -/
def tileAccess (s : State) (u : Nat) (rq : Rq) (m : MemWord) (n : Nat) (k : Nat → State → State) : State :=
  match tileCheck (tileAt s u) rq.part m n with
  | some r => tileRefuse s u rq r
  | none => k (slotPa (tileAt s u) m.slot m.off) s

/-- `n` bytes from the frame, with the poison of each word. -/
def tileRead (s : State) (u pa n : Nat) : State × List Byte × Nat :=
  let s1 := meetFrameErrs s u (pa / 8) (wordsOf pa n)
  let t := tileAt s1 u
  (s1, ByteMem.rdBytes t.frame pa n, poisonBits t.framePoison (pa / 8) (wordsOf pa n))

/-! ### Stand buffers (R199, Table 6.8) -/

/-- Stand buffer `k`. -/
def stsAt (s : State) (k : Nat) : Sts := s.sts.getD k {}
/-- Stand buffer `k` replaced. -/
def setSts (s : State) (k : Nat) (x : Sts) : State := { s with sts := s.sts.set k x }

/-- Whether a partition holds the slice of a byte address. -/
def sliceHeld (x : Sts) (part off : Nat) : Bool :=
  x.valid.getD (off / 0x100000) false && decide (x.owner.getD (off / 0x100000) 0 = part)

/-- A stored error of one word is met (R199). -/
def meetStsErr (s : State) (k w : Nat) : State :=
  let x := stsAt s k
  let line := w / 8
  let addr := line % 2 ^ 18 + 2 ^ 18 * (w / 2 ^ 17)
  let own := if x.valid.getD (w / 2 ^ 17) false then some (x.owner.getD (w / 2 ^ 17) 0) else none
  match SMap.get 0 x.err w with
  | 0 => s
  | 1 => raise (setSts s k { x with err := SMap.put 0 x.err w 0, corrected := (x.corrected + 1) % 2 ^ 16 })
           Kind.standBufferCorrected (rqId (0x2CC + k) 0) own addr 0
  | _ => raise (setSts s k { x with err := SMap.put 0 x.err w 0, poison := NSet.add x.poison w,
                                    uncorrected := (x.uncorrected + 1) % 2 ^ 16, lastLine := line })
           Kind.standBufferUncorrectable (rqId (0x2CC + k) 0) own addr 0

/-- Stored errors of `n` words from word `w` are met. -/
def meetStsErrs (s : State) (k w n : Nat) : State :=
  match n with
  | 0 => s
  | j + 1 => meetStsErrs (meetStsErr s k w) k (w + 1) j

/-- The 64-byte lines that `n` bytes from `a` touch. -/
def linesOf (a n : Nat) : Nat := if n = 0 then 0 else (a + n - 1) / 64 - a / 64 + 1

/-- `n` bytes read from a stand buffer, with the poison of each word. -/
def stsRead (s : State) (k a n : Nat) : State × List Byte × Nat :=
  let s1 := meetStsErrs s k (a / 8) (wordsOf a n)
  let x := stsAt s1 k
  (setSts s1 k { x with readLines := (x.readLines + linesOf a n) % 2 ^ 32 },
   ByteMem.rdBytes x.mem a n, poisonBits x.poison (a / 8) (wordsOf a n))

/-- One word or part of a word written to a stand buffer: a whole word replaces word and mark, a narrower write merges. -/
def stsWriteWord (s : State) (k a : Nat) (bs : List Byte) (poison : Bool) : State :=
  let w := a / 8
  let s1 := if bs.length = 8 then s else meetStsErr s k w
  let x := stsAt s1 k
  let keep := if bs.length = 8 then poison else poison || NSet.has x.poison w
  setSts s1 k { x with
    mem := ByteMem.wrBytes x.mem a bs
    poison := if keep then NSet.add x.poison w else NSet.del x.poison w
    err := SMap.put 0 x.err w 0 }

/-- Whole words written to a stand buffer. -/
def stsWriteWords (s : State) (k a n : Nat) (bs : List Byte) (poison : Nat) : State :=
  match n with
  | 0 => s
  | j + 1 => stsWriteWords (stsWriteWord s k a (bs.take 8) (bit poison 0)) k (a + 8) j (bs.drop 8) (poison / 2)

/-- Lines written are counted. -/
def countWrites (s : State) (k n : Nat) : State :=
  setSts s k { stsAt s k with writeLines := ((stsAt s k).writeLines + n) % 2 ^ 32 }

/-- A request arrives at stand buffer `k` and its slice is checked. -/
def arriveSts (s : State) (k : Nat) (rq : Rq) (b : Body) (off : Nat) (serve : State → State) : State :=
  if !(working s) || (sliceLeft s (0x2CC + k)).isSome then s
  else arriveReq s (0x2CC + k) rq b (fun s =>
    if sliceHeld (stsAt s k) rq.part off then serve s else respond s (0x2CC + k) rq (.refused 4))

/-! ### The commands -/

/-- A packet that its destination does not serve is dropped (R325). -/
def dropReq (s : State) (u : Nat) (rq : Rq) (b : Body) : State :=
  if working s && arrivable s (reqPkt u rq b) then dropPkt s u (reqPkt u rq b) else s

/-- Which memory target a unit is for a memory request word's SPACE: 0 a tile, 1 a stand buffer, 2 a bridge. -/
def memTarget (u space : Nat) : Option Nat :=
  if isTile u ∧ space = 0 then some 0
  else if 0x2CC ≤ u ∧ u < 0x2D0 ∧ space = 1 then some 1
  else if (u = 0x381 ∨ u = 0x383) ∧ space = 2 then some 2
  else none

/-- A read of `n` bytes: READ_WORD reads the aligned word that holds its address. -/
def memRead (s : State) (u : Nat) (rq : Rq) (m : MemWord) (kind n : Nat) (b : Body) : State :=
  match memTarget u m.space with
  | some 0 => arriveTile s u rq b (fun u s =>
      tileAccess s u rq { m with off := m.off / n * n } n (fun pa s =>
        let (s1, bs, p) := tileRead s u pa n
        respond s1 u rq (memAnswer kind bs p)))
  | some 1 => arriveSts s (u - 0x2CC) rq b m.off (fun s =>
      let (s1, bs, p) := stsRead s (u - 0x2CC) (m.off / n * n) n
      respond s1 u rq (memAnswer kind bs p))
  | some 2 => if !(clocked s) || inSafe s then s else arriveReq s u rq b (fun s =>
      memHost s ((bridgeOf u).getD 0) rq kind (m.off / n * n) n [] 0)
  | _ => dropReq s u rq b

/-- READ_WORD. -/
def readWord (s : State) (u : Nat) (rq : Rq) (m : MemWord) : State := memRead s u rq m 0 8 (.readWord m)
/-- READ_LINE. -/
def readLine (s : State) (u : Nat) (rq : Rq) (m : MemWord) : State := memRead s u rq m 1 64 (.readLine m)

/-- READ_BULK: four lines from a 64-byte boundary. -/
def readBulk (s : State) (u : Nat) (rq : Rq) (m : MemWord) : State :=
  let b : Body := .readBulk m
  match memTarget u m.space with
  | some 0 => arriveTile s u rq b (fun u s =>
      tileAccess s u rq m 256 (fun pa s =>
        let (s1, bs, p) := tileRead s u pa 256
        respond s1 u rq (memAnswer 2 bs p)))
  | some 1 => arriveSts s (u - 0x2CC) rq b m.off (fun s =>
      if !(sliceHeld (stsAt s (u - 0x2CC)) rq.part (m.off + 255)) then respond s u rq (.refused 4)
      else
        let (s1, bs, p) := stsRead s (u - 0x2CC) m.off 256
        respond s1 u rq (memAnswer 2 bs p))
  | some 2 => if !(clocked s) || inSafe s then s else arriveReq s u rq b (fun s =>
      memHost s ((bridgeOf u).getD 0) rq 2 m.off 256 [] 0)
  | _ => dropReq s u rq b

/-- WRITE_WORD: `w` bits. -/
def writeWord (s : State) (u : Nat) (rq : Rq) (m : MemWord) (w : Nat) (x : PWord) : State :=
  let b : Body := .writeWord m w x
  let n := w / 8
  match memTarget u m.space with
  | some 0 => arriveTile s u rq b (fun u s =>
      tileAccess s u rq m n (fun pa s => respond (frameWrite s u pa n x.val.toNat x.poison) u rq (.writeAck 1)))
  | some 1 => arriveSts s (u - 0x2CC) rq b m.off (fun s =>
      respond (countWrites (stsWriteWord s (u - 0x2CC) m.off (leBytes n x.val.toNat) x.poison) (u - 0x2CC) 1) u rq (.writeAck 1))
  | some 2 => if !(clocked s) || inSafe s then s else arriveReq s u rq b (fun s =>
      memHost s ((bridgeOf u).getD 0) rq 3 m.off n (leBytes n x.val.toNat) (b2n x.poison))
  | _ => dropReq s u rq b

/-- AADD_REQUEST: the word gains the addend and the old value is answered; poison stays and travels (R91). -/
def aaddRequest (s : State) (u : Nat) (rq : Rq) (m : MemWord) (w : Nat) (x : W64) : State :=
  let b : Body := .aadd m w x
  let n := w / 8
  let old (bs : List Byte) (p : Bool) : Resp := .dataWord ⟨BitVec.ofNat 64 (leNat bs), p⟩
  match memTarget u m.space with
  | some 0 => arriveTile s u rq b (fun u s =>
      tileAccess s u rq m n (fun pa s =>
        let (s1, bs, p) := tileRead s u pa n
        respond (frameWrite s1 u pa n ((leNat bs + x.toNat) % 2 ^ w) (decide (p ≠ 0))) u rq (old bs (decide (p ≠ 0)))))
  | some 1 => arriveSts s (u - 0x2CC) rq b m.off (fun s =>
      let k := u - 0x2CC
      let (s1, bs, p) := stsRead s k m.off n
      let s2 := stsWriteWord s1 k m.off (leBytes n ((leNat bs + x.toNat) % 2 ^ w)) (decide (p ≠ 0))
      respond (countWrites s2 k 1) u rq (old bs (decide (p ≠ 0))))
  | _ => dropReq s u rq b

/-- A write acknowledgement of a bulk or single line write. -/
def ackKind (bulk : Bool) : Nat := if bulk then 4 else 3

/-- LINE_WRITE: one line, or the four of a bulk write (R323, R326). -/
def lineWrite (s : State) (u : Nat) (rq : Rq) (line xfer : Nat) (bulk : Bool) (data : List Byte) (poison : Nat) : State :=
  let b : Body := .lineWrite line xfer bulk data poison
  let n := if bulk then 4 else 1
  if isTile u then
    arriveTile s u rq b (fun u s =>
      match tileLineCheck (tileAt s u) rq.part line n with
      | some r => tileRefuse s u rq r
      | none =>
        let pa := slotPa (tileAt s u) (line / 2 ^ 16) (64 * (line % 2 ^ 14))
        respond (frameWriteWords s u pa (8 * n) (leNat data) poison) u rq (.writeAck n))
  else if 0x2CC ≤ u ∧ u < 0x2D0 then
    arriveSts s (u - 0x2CC) rq b (64 * line) (fun s =>
      if !(sliceHeld (stsAt s (u - 0x2CC)) rq.part (64 * (line + n) - 1)) then respond s u rq (.refused 4)
      else respond (countWrites (stsWriteWords s (u - 0x2CC) (64 * line) (8 * n) data poison) (u - 0x2CC) n) u rq (.writeAck n))
  else match bridgeOf u with
  | some k => if !(clocked s) || inSafe s then s else arriveReq s u rq b (fun s =>
      let base := SMap.get 0 (hifAt s k).bases (8 * (64 * rq.src + rq.part) + xfer)
      memHost s k rq (ackKind bulk) (base + 64 * line) (64 * n) data poison)
  | none => dropReq s u rq b

/-- HOST_BASE: a bridge records the host base of a sender's transfer slot (R323). -/
def hostBase (s : State) (u : Nat) (rq : Rq) (xfer iova : Nat) : State :=
  match bridgeOf u with
  | some k => if !(clocked s) || inSafe s then s else arriveReq s u rq (.hostBase xfer iova) (fun s =>
      setHif s k { hifAt s k with bases := SMap.put 0 (hifAt s k).bases (8 * (64 * rq.src + rq.part) + xfer) iova })
  | none => dropReq s u rq (.hostBase xfer iova)

/-- TRANSFER_LINE_LAND: a transfer line is written at its destination tile, RECV_CNT gains 1, and a remote line is
acknowledged (R190, R323). A line inside the own frame is written in the cycle after it moved, not before (R189). -/
def transferLineLand (s : State) (u : Nat) (rq : Rq) (line xfer : Nat) (data : List Byte) (poison : Nat)
    (recv : Option Nat) : State :=
  let b : Body := .xferLine line xfer data poison recv
  if !(isTile u) then dropReq s u rq b
  else if rq.src / 4 = u ∧ tileNow s < (tileAt s u).dmaNext then s
  else
    arriveTile s u rq b (fun u s =>
      if rq.src / 4 = u then landOwn s u rq.part line xfer data poison recv
      else match tileLineCheck (tileAt s u) rq.part line 1 with
        | some r => tileRefuse s u rq r
        | none => respond (writeXferLine s u line data poison recv) u rq (.writeAck 1))

/-- EVENT_SET reaches a tile (R105). -/
def eventSet (s : State) (u : Nat) (rq : Rq) (mask : Nat) : State :=
  if isTile u then arriveTile s u rq (.eventSet mask) (fun u s => setEvent s u mask) else dropReq s u rq (.eventSet mask)

end Sys2Proof.Machine
end

