-- ==== Sys2Proof/Machine/ContextPool.lean ====
section
/-! DEFINITION. The context pool (unit 0x303): allocation, release, and the acknowledgements that end a release
(R63 to R67, R585). -/

namespace Sys2Proof.Machine

/-- The head of a free list, and the list without it. -/
def FreeList.take (f : FreeList) : Option (Nat × FreeList) :=
  match f.front with
  | x :: r => some (x, { f with front := r })
  | [] =>
    if f.next < f.stop then some (f.next, { f with next := f.next + 1 })
    else match f.back with
      | x :: r => some (x, { f with back := r })
      | [] => none

/-- A number joins the tail. -/
def FreeList.putBack (f : FreeList) (x : Nat) : FreeList := { f with back := f.back ++ [x] }
/-- A number returns to the head. -/
def FreeList.putFront (f : FreeList) (x : Nat) : FreeList := { f with front := x :: f.front }

/-- The pool's state of a partition. -/
def ctxPart (s : State) (p : Nat) : CtxPart := s.ctx.parts.getD p {}

/-- The pool's state of a partition replaced. -/
def setCtxPart (s : State) (p : Nat) (c : CtxPart) : State := { s with ctx := { s.ctx with parts := s.ctx.parts.set p c } }

/-- The state of a context: 0 FREE, 1 LIVE, 2 DRAINING. -/
def ctxState (s : State) (p c : Nat) : Nat := SMap.get 0 (ctxPart s p).st c

/-- The state of a context changed. -/
def setCtxState (s : State) (p c v : Nat) : State :=
  setCtxPart s p { ctxPart s p with st := SMap.put 0 (ctxPart s p).st c v }

/-- The head of a partition's free list becomes LIVE (R64). -/
def allocCtx (s : State) (p : Nat) : Option (Nat × State) :=
  match (ctxPart s p).free.take with
  | some (c, f) => some (c, setCtxState (setCtxPart s p { ctxPart s p with free := f }) p c 1)
  | none => none

/-- An allocation that is undone: FREE again at the head of the list. -/
def undoCtx (s : State) (p c : Nat) : State :=
  let s1 := setCtxState s p c 0
  setCtxPart s1 p { ctxPart s1 p with free := (ctxPart s1 p).free.putFront c }

/-- ALLOCATE_REQUEST (R64). -/
def allocRequest (s : State) (rq : Rq) : State :=
  if !(working s) then s
  else arriveReq s 0x303 rq .ctxAlloc (fun s => cachedReq s 0x303 rq (fun s =>
    match allocCtx s rq.part with
    | some (c, s1) => { st := s1, ans := some (.result (resultWord false c 0)) }
    | none => { st := s, ans := some (.result (resultWord true 0 0x0A)), changed := false }))

/-- The tiles that hold a valid binding of a partition. -/
def boundTiles (s : State) (p : Nat) : List Nat :=
  (List.range 272).filter (fun u => (tileAt s u).bindings.any (fun b => b.valid && decide (b.part = p)))

/-- The generation that the placement tables hold for the partition's first binding on a tile: CTX_END names no virtual tile of its
own, so its packet carries this one (R47, Table 2.7; DEDUCED, log entry 116). -/
def endGen (s : State) (p u : Nat) : Nat :=
  match (tileAt s u).bindings.find? (fun b => b.valid && decide (b.part = p)) with
  | some b => b.gen
  | none => 0

/-- The CTX_END packet of a context to a tile. -/
def endPkt (s : State) (p c u : Nat) : Packet :=
  { cls := 1, dest := u, src := rqId 0x303 0, part := p,
    body := .tokens (endGen s p u) [{ val := 0, tag := mkTag p c 0 0 0 0 2 }] false }

/-- CTX_END to each tile of a list (R65). -/
def sendEnds (s : State) (p c : Nat) (us : List Nat) : State :=
  match us with
  | [] => s
  | u :: r => sendEnds (sendPkt s (endPkt s p c u)) p c r

/-- The release notice to the partition's overspill agent (R65, R308). -/
def sendNotice (s : State) (p c : Nat) : State :=
  sendReq s { unit := 0x303, sub := 0, part := p, target := homeUnit s p, body := .ctxNotice c, use := .notice p c }

/-- Whether a release entry is that of a context. -/
def Release.is (r : Release) (p c : Nat) : Bool := decide (r.part = p) && decide (r.ctx = c)

/-- A release refused (R66). -/
def releaseInvalid (s : State) (rq : Rq) (c : Nat) : Eval :=
  { st := raise s Kind.contextStateInvalid (rqId 0x303 0) (some rq.part) (c % 2 ^ 14) 0
    ans := some (.result (resultWord true 0 0x12)), changed := false }

/-- RELEASE_REQUEST (R65, R66, R585). -/
def releaseRequest (s : State) (rq : Rq) (c : Nat) : State :=
  if !(working s) then s
  else arriveReq s 0x303 rq (.ctxRelease c) (fun s => cachedReq s 0x303 rq (fun s =>
    if c = 0 ∨ (ctxPart s rq.part).limit ≤ c then releaseInvalid s rq c
    else match ctxState s rq.part c with
    | 1 =>
      let us := boundTiles s rq.part
      let s1 := setCtxState s rq.part c 2
      let s2 : State := { s1 with ctx := { s1.ctx with
        releases := s1.ctx.releases ++ [{ part := rq.part, ctx := c, rq := some rq, tiles := us }] } }
      { st := if us.isEmpty then sendNotice s2 rq.part c else sendEnds s2 rq.part c us, ans := none }
    | 2 =>
      if s.ctx.releases.any (fun r => r.is rq.part c && r.abandoned) then
        { st := sendNotice { s with ctx := { s.ctx with releases := s.ctx.releases.map (fun r =>
            if r.is rq.part c then { r with abandoned := false, rq := some rq } else r) } } rq.part c, ans := none }
      else releaseInvalid s rq c
    | _ => releaseInvalid s rq c))

/-- A release completes (R65, R66): the context joins the tail of the free list, the requester is answered, and a
non-zero total raises CONTEXT_LEFTOVER. -/
def finishRelease (s : State) (r : Release) : State :=
  let s1 := setCtxState s r.part r.ctx 0
  let s2 := setCtxPart s1 r.part { ctxPart s1 r.part with free := (ctxPart s1 r.part).free.putBack r.ctx }
  let s3 : State := { s2 with ctx := { s2.ctx with releases := s2.ctx.releases.filter (fun x => !(x.is r.part r.ctx)) } }
  let s4 := match r.rq with
    | some rq => replayFinish s3 0x303 rq (.result (resultWord false r.total 0))
    | none => s3
  if r.total = 0 then s4 else raise s4 Kind.contextLeftover (rqId 0x303 0) (some r.part) (r.ctx % 2 ^ 14) r.total

/-- A tile's CTX_END acknowledgement (or the removal of its bindings, which counts as one): the last one sends the
notice to the agent. -/
def releaseTileAck (s : State) (p c u count : Nat) : State :=
  match s.ctx.releases.find? (fun r => r.is p c && r.tiles.contains u) with
  | none => s
  | some r =>
    let r' : Release := { r with tiles := r.tiles.erase u, total := r.total + count }
    let s1 : State := { s with ctx := { s.ctx with releases := s.ctx.releases.map (fun x => if x = r then r' else x) } }
    if r'.tiles.isEmpty then sendNotice s1 p c else s1

/-- The agent's acknowledgement of the notice: the release completes. -/
def releaseAgentAck (s : State) (p c count : Nat) : State :=
  match s.ctx.releases.find? (fun r => r.is p c && r.tiles.isEmpty && !r.abandoned) with
  | none => s
  | some r => finishRelease s { r with total := r.total + count }

/-- The notice of a release is abandoned (R585): the release completes with TIMEOUT and the context stays DRAINING. -/
def releaseAbandon (s : State) (p c : Nat) : State :=
  match s.ctx.releases.find? (fun r => r.is p c && !r.abandoned) with
  | none => s
  | some r =>
    let s1 : State := { s with ctx := { s.ctx with releases := s.ctx.releases.map (fun x =>
      if x = r then { x with abandoned := true, rq := none } else x) } }
    match r.rq with
    | some rq => replayFinish s1 0x303 rq (.result (resultWord true r.total 0x0B))
    | none => s1

end Sys2Proof.Machine
end

