-- ==== Sys2Proof/Machine/Overspill.lean ====
section
/-! DEFINITION. Overspill (chapter 10): the monitors' orders, eviction and un-firing, fetch-back, and the region with its
agent, whose operations walk host memory line by line. -/

namespace Sys2Proof.Machine

/-! ### The tile's side (R293 to R299, R304 to R308) -/

/-- A tile's overspill state changed by `f`. -/
def modSpl (s : State) (u : Nat) (f : Spl → Spl) : State := modTile s u (fun t => { t with spl := f t.spl })
/-- The monitor of a stand. -/
def monitorAt (s : State) (k : Nat) : Monitor := s.spr.monitors.getD k {}
/-- A monitor replaced. -/
def setMonitor (s : State) (k : Nat) (m : Monitor) : State := { s with spr := { s.spr with monitors := s.spr.monitors.set k m } }

/-- Whether a tile has an entry marked PENDING. -/
def hasPending (t : Tile) : Bool := t.store.any (fun e => e.2.pending) || t.ovf.any (fun e => e.2.pending)

/-- Whether a physical tile is quiescent for overspill (R313). -/
def spillQuiet (s : State) (u : Nat) : Bool :=
  let t := tileAt s u
  decide (t.spl.spilled = 0) && !(hasPending t) && !(overspillBusy s u) && t.spl.refire.isEmpty

/-- The filter clears when nothing of the tile is spilled or under way (R304). -/
def settleFilter (s : State) (u : Nat) : State :=
  if spillQuiet s u then modSpl s u (fun x => { x with filter := [] }) else s

/-- Bits of the filter are set for instance keys. -/
def setFilter (s : State) (u : Nat) (keys : List Nat) : State :=
  modSpl s u (fun x => { x with filter := keys.foldl (fun f k => NSet.add f (filterIndex k)) x.filter })

/-- Whether the monitor may give tile `u` an order: in service, no order outstanding, no hold-off, its monitor not in a
slice (R293, R294). -/
def mayOrder (s : State) (u : Nat) : Bool :=
  let x := (tileAt s u).spl
  tileRuns s u && !x.ordered && (match x.holdOff with
    | some d => decide (d ≤ now s)
    | none => true) && (sliceLeft s (0x2D0 + standOf u)).isNone

/-- An order evicted nothing or was refused: it is counted and the hold-off starts (R294). -/
def fruitless (s : State) (u : Nat) : State :=
  let k := standOf u
  let m := monitorAt s k
  modSpl (setMonitor s k { m with refused := (m.refused + 1) % 2 ^ 16 }) u
    (fun x => { x with ordered := false, refused := false, holdOff := some (now s + 256 * m.retry) })

/-- Candidates of a list of entries: normal, not PENDING, another key than the head's. -/
def victimsIn (m : SMap MEntry) (key : Nat) (p : Nat → Bool) : List (Nat × MEntry) :=
  m.filter (fun e => p e.1 && (decide (e.2.state = 1) || decide (e.2.state = 2)) && !e.2.pending && decide (e.2.key ≠ key)
    && decide (e.2.err < 2))

/-- ITERATION of an instance key. -/
def keyIter (k : Nat) : Nat := bits k 41 26

/-- Entries by ITERATION, greatest first, a tie going to the lowest index. -/
def byIter (l : List (Nat × MEntry)) : List (Nat × MEntry) :=
  l.foldr (fun e acc => acc.filter (fun x => decide (keyIter e.2.key < keyIter x.2.key)) ++ e ::
    acc.filter (fun x => decide (keyIter x.2.key ≤ keyIter e.2.key))) []

/-- The set in which a head token needs a way (R70, R71). -/
def headSet (tag : W64) : Nat := setIndex (instKey tag) (decide (tagKind tag = 1))

/-- The victims of an episode (R295): store entries as their index, overflow entries above 65,536. -/
def victims (t : Tile) (tag : W64) (batch : Nat) : List (Nat × MEntry) :=
  let key := instKey tag
  let one := (byIter (victimsIn t.store key (fun i => decide (i / 4 = headSet tag)))).take 1
  let rest := (byIter (victimsIn t.ovf key (fun _ => true))).map (fun e => (65536 + e.1, e.2))
  (one ++ rest).take batch

/-- An entry of the store or the overflow buffer changed by `f`. -/
def modEntry (t : Tile) (i : Nat) (f : MEntry → MEntry) : Tile :=
  if i < 65536 then { t with store := SMap.put {} t.store i (f (SMap.get {} t.store i)) }
  else { t with ovf := SMap.put {} t.ovf (i - 65536) (f (SMap.get {} t.ovf (i - 65536))) }

/-- The token of an entry with the binding generation of its virtual tile. -/
def entryTok (t : Tile) (e : MEntry) : Token × Nat :=
  let tag := BitVec.ofNat 64 (16 * e.key + 4 * e.port)
  (⟨e.val, tag, e.spoison || decide (e.state = 2)⟩,
   match t.bindings.find? (fun b => b.valid && decide (b.vtile = tagVt tag)) with
   | some b => b.gen
   | none => 0)

/-- Victims leave in SPILLs of up to four tokens, in selection order (R296). -/
def sendSpills (s : State) (u part : Nat) (l : List (Nat × MEntry)) (fuel : Nat) : State :=
  match fuel with
  | 0 => s
  | k + 1 =>
    if l.isEmpty then s
    else
      let t := tileAt s u
      let four := l.take 4
      sendSpills (sendReq s { unit := u, sub := 3, part := part, target := homeUnit s part,
                              body := .spill (four.map (fun e => entryTok t e.2)), use := .spill (four.map Prod.fst) false })
        u part (l.drop 4) k

/-- EVICTION_EPISODE (R294 to R297). -/
def evictionEpisode (s0 : State) (u : Nat) : State :=
  let x := (tileAt s0 u).spl
  let k := standOf u
  let m := monitorAt s0 k
  match x.storeSince, (tileAt s0 u).iq with
  | some t0, h :: _ =>
    if !(mayOrder s0 u) || decide (now s0 < t0 + m.storeThresh) then s0
    else
      let hs := headSet h.tok.tag
      let s := meetLookup (modSpl (setMonitor s0 k { m with episodes := (m.episodes + 1) % 2 ^ 32 }) u
        (fun x => { x with storeSince := some (now s0) })) u hs hs
      let vs := victims (tileAt s u) h.tok.tag (m.batchM1 + 1)
      let part := tagPart h.tok.tag
      if vs.isEmpty then
        let s1 := if x.noVictim then s else
          raise s Kind.overspillNoVictim (rqId u 3) (some part) (hs + 2 ^ 12 * stickyCount (tileAt s u)) h.tok.tag.toNat
        fruitless (modSpl s1 u (fun x => { x with noVictim := true })) u
      else
        let s1 := modTile s u (fun t => vs.foldl (fun t e => modEntry t e.1 (fun y => { y with pending := true })) t)
        let s2 := modSpl (setFilter s1 u (vs.map (fun e => e.2.key))) u (fun x => { x with ordered := true, refused := false })
        sendSpills s2 u part vs vs.length
  | _, _ => s0

/-- The normal ports of a held instance as tokens. -/
def heldToks (t : Tile) (e : FireEntry) : List (Token × Nat) :=
  let key := instKey e.tag
  match t.bindings.find? (fun b => b.valid && decide (b.vtile = tagVt e.tag) && decide (b.part = tagPart e.tag)) with
  | none => []
  | some b =>
    let w := ntAt t b (tagNode e.tag)
    ((List.range e.ops.length).filter (fun p => !(bit (ntSticky w) p))).map (fun p =>
      let o := e.ops.getD p {}
      (⟨o.val, BitVec.ofNat 64 (16 * key + 4 * p), o.poison⟩, b.gen))

/-- UNFIRE (R294, R298). -/
def unfire (s : State) (u : Nat) : State :=
  let t := tileAt s u
  let k := standOf u
  let m := monitorAt s k
  match t.spl.fireSince, t.held with
  | some t0, some e =>
    if !(mayOrder s u) || decide (now s < t0 + m.fireThresh) then s
    else
      let s1 := modSpl (setMonitor s k { m with unfires := (m.unfires + 1) % 2 ^ 16 }) u (fun x => { x with fireSince := some (now s) })
      let part := tagPart e.tag
      if 64 ≤ t.spl.refire.length then
        let s2 := if t.spl.fullRaised then s1 else
          raise s1 Kind.refireListFull (rqId u 3) (some part) (2 ^ 12 * stickyCount t) e.tag.toNat
        fruitless (modSpl s2 u (fun x => { x with fullRaised := true })) u
      else
        let key := instKey e.tag
        let s2 := modSpl (setFilter s1 u [key]) u (fun x => { x with refire := x.refire ++ [key], ordered := true, unfiring := true, refused := false })
        sendReq s2 { unit := u, sub := 3, part := part, target := homeUnit s part, body := .spill (heldToks t e), use := .spill [] true }
  | _, _ => s

/-- MONITOR_HOLD_OFF_END. -/
def holdOffEnd (s : State) (u : Nat) : State :=
  match (tileAt s u).spl.holdOff with
  | some d => if working s && decide (d ≤ now s) then modSpl s u (fun x => { x with holdOff := none }) else s
  | none => s

/-- The contexts whose CTX_END a tile has executed and not yet acknowledged, or whose scan runs. -/
def endedCtx (t : Tile) (part ctx : Nat) : Bool :=
  t.endWaits.any (fun e => decide (e.part = part) && decide (e.ctx = ctx))
  || (match t.scan with
      | some c => c.isEnd && decide (tagPart c.tag = part) && decide (tagCtx c.tag = ctx)
      | none => false)

/-- One more discarded token for a context's acknowledgement (R308). -/
def countEnded (t : Tile) (part ctx : Nat) : Tile :=
  if t.endWaits.any (fun e => decide (e.part = part) && decide (e.ctx = ctx)) then
    { t with endWaits := t.endWaits.map (fun e => if e.part = part ∧ e.ctx = ctx then { e with count := e.count + 1 } else e) }
  else { t with scan := t.scan.map (fun c => { c with count := c.count + 1 }) }

/-- A refused victim returns to matching, or is discarded where its context has ended. -/
def returnEntry (t : Tile) (i : Nat) : Tile :=
  let e := if i < 65536 then SMap.get {} t.store i else SMap.get {} t.ovf (i - 65536)
  let tag := BitVec.ofNat 64 (16 * e.key)
  if endedCtx t (tagPart tag) (tagCtx tag) then countEnded (modEntry t i (fun _ => {})) (tagPart tag) (tagCtx tag)
  else modEntry t i (fun y => { y with pending := false })

/-- Whether a SPILL of a tile is outstanding. -/
def spillsOut (s : State) (u : Nat) : Bool :=
  s.outs.any (fun o => decide (o.unit = u) && (match o.use with
    | .spill _ _ => true
    | _ => false)) || s.sendWait.any (fun o => decide (o.unit = u) && (match o.use with
    | .spill _ _ => true
    | _ => false))

/-- The end of an order: once no SPILL is outstanding; a refused one starts the hold-off. -/
def settleOrder (s : State) (u : Nat) : State :=
  let x := (tileAt s u).spl
  if !x.ordered || spillsOut s u then s
  else if x.refused then fruitless s u
  else modSpl s u (fun x => { x with ordered := false })

/-- A SPILL is acknowledged or refused (R296, R298). -/
def spillAnswer (s : State) (o : OutReq) (ents : List Nat) (isUnfire ok : Bool) (n : Nat) : State :=
  let u := o.unit
  let s1 :=
    if ok then
      let s1 := modTile s u (fun t =>
        let t1 := ents.foldl (fun t i => modEntry t i (fun _ => {})) t
        { t1 with spl := { t1.spl with spilled := t1.spl.spilled + n } })
      if isUnfire then modTile s1 u (fun t => { t with held := none, spl := { t.spl with fireSince := none, unfiring := false, fullRaised := false } }) else s1
    else
      modTile s u (fun t =>
        let t1 := ents.foldl returnEntry t
        let t2 : Tile := { t1 with spl := { t1.spl with
          refused := true, refire := if isUnfire then t1.spl.refire.dropLast else t1.spl.refire
          unfiring := t1.spl.unfiring && !isUnfire } }
        if isUnfire then settleHeld (now s) t2 else t2)
  settleEnds (settleFilter (settleOrder s1 u) u) u

/-- The next FETCH for a MORE is sent once the fetch buffer has room for its tokens (R305, R306). -/
def fetchMore (s : State) (u : Nat) : State :=
  match (tileAt s u).spl.moreQ with
  | [] => s
  | (key, refire) :: r =>
    let part := bits key 59 56
    if fetchRoom s u && windowOpen s (rqId u 3) part (homeUnit s part) then
      sendFetch (modSpl s u (fun x => { x with moreQ := r })) u part key refire
    else s

/-- Fetched tokens enter the fetch buffer; MORE asks again; a refire key leaves once its fetch completes (R299, R306). -/
def fetchAnswer (s : State) (o : OutReq) (key : Nat) (refire : Bool) (toks : List Token) (more : Bool) : State :=
  let u := o.unit
  let s1 := modSpl s u (fun x => { x with
    fetchBuf := x.fetchBuf ++ toks
    misses := if toks.isEmpty then (x.misses + 1) % 2 ^ 32 else x.misses
    moreQ := if more then x.moreQ ++ [(key, refire)] else x.moreQ
    refire := if refire && !more then x.refire.erase key else x.refire })
  if more then fetchMore s1 u else settleEnds (settleFilter s1 u) u

/-- FETCH_BUFFER_INJECT: one token enters the input queue as kind 3, or is discarded for an ended context (R307). -/
def fetchInject (s : State) (u : Nat) : State :=
  let t := tileAt s u
  match t.spl.fetchBuf with
  | [] => s
  | k :: r =>
    if !(tileRuns s u) then s
    else
      let t1 : Tile := { t with spl := { t.spl with fetchBuf := r, spilled := t.spl.spilled - 1 } }
      if endedCtx t (tagPart k.tag) (tagCtx k.tag) then
        settleEnds (settleFilter (fetchMore (setTile s u (countEnded t1 (tagPart k.tag) (tagCtx k.tag))) u) u) u
      else if !(iqRoom t) then s
      else
        let tok : Token := { k with tag := BitVec.ofNat 64 (k.tag.toNat / 4 * 4 + 3) }
        settleEnds (settleFilter (fetchMore (setTile s u (noteHwm { t1 with iq := t1.iq ++ [⟨tok, rqId u 3⟩] })) u) u) u

/-- REFIRE_FETCH (R299). -/
def refireFetch (s : State) (u : Nat) : State :=
  let t := tileAt s u
  match t.spl.refire with
  | [] => s
  | key :: _ =>
    let m := monitorAt s (standOf u)
    let busy := s.outs.any (fun o => decide (o.unit = u) && (match o.use with
      | .fetch _ r => r
      | .spill _ r => r
      | _ => false)) || t.spl.moreQ.any Prod.snd
    match tilePart t with
    | none => s
    | some part =>
      if !(tileRuns s u) || busy || decide (m.refireMark < t.fq.length) || !(fetchRoom s u)
          || !(windowOpen s (rqId u 3) part (homeUnit s part)) then s
      else sendFetch s u part key true

/-- RECLAIM: SPILLED falls by the slots reclaimed (R309). -/
def reclaim (s : State) (u : Nat) (rq : Rq) (n : Nat) : State :=
  if !(working s) || !(isTile u) then s
  else arriveReq s u rq (.reclaim n) (fun s =>
    let ph := steer s u
    settleFilter (modSpl s ph (fun x => { x with spilled := x.spilled - n })) ph)

/-- The tile's return from Safe (R315). -/
def splSafe (t : Tile) : Tile :=
  { t with
    store := t.store.filter (fun e => !e.2.pending)
    ovf := t.ovf.filter (fun e => !e.2.pending)
    spl := { misses := t.spl.misses } }

/-! ### Lines of a region (Tables 10.3 to 10.5) -/

/-- What a walk of the region's lines gives: a value, the line it must read first, damage, no room, or a wait for the
sweep. -/
inductive WRes (α : Type) where
  | ok (a : α) (w : OvfWork)
  | need (off : Nat)
  | corrupt
  | noRoom (w : OvfWork)
  | hold

/-- Two walks in order. -/
def WRes.bind {α β : Type} (x : WRes α) (f : α → OvfWork → WRes β) : WRes β :=
  match x with
  | .ok a w => f a w
  | .need o => .need o
  | .corrupt => .corrupt
  | .noRoom w => .noRoom w
  | .hold => .hold

/-- A field of a line replaced. -/
def putBits (v hi lo x : Nat) : Nat := v - bits v hi lo * 2 ^ lo + x % 2 ^ (hi - lo + 1) * 2 ^ lo

/-- A line of the region: its value and word poison. -/
def getLine (w : OvfWork) (off : Nat) : WRes (Nat × Nat) :=
  match SMap.get none w.lines off with
  | some l => .ok l w
  | none => .need off

/-- A line changed. -/
def putLine (w : OvfWork) (off : Nat) (l : Nat × Nat) : OvfWork :=
  { w with lines := SMap.put none w.lines off (some l), dirty := NSet.add w.dirty off }

/-- Buckets of the pool. -/
def poolCount (n : Nat) : Nat := (2 ^ (n - 1) - 0x20000) / 64
/-- Offset of pool bucket `j`. -/
def poolOff (j : Nat) : Nat := 0x20000 + 64 * j
/-- The home bucket of a key (R301), as an offset. -/
def homeBucket (key n : Nat) : Nat :=
  let c (i : Nat) : Nat := bits key (16 * i + 15) (16 * i)
  let b := (((c 1) ^^^ (bits key 55 48)) <<< 16) ||| ((c 0) ^^^ (c 2))
  2 ^ (n - 1) + 64 * (b % 2 ^ (n - 7))

/-- NEXT of a header. -/
def hdrNext (v : Nat) : Nat := bits v 127 102
/-- VALID bit of a slot. -/
def slotValid (v m : Nat) : Bool := bit v (99 + m)
/-- EPOCH of a slot. -/
def slotEpoch (v m : Nat) : Nat := bits v (48 + 16 * m + 15) (48 + 16 * m)
/-- GEN of a slot. -/
def slotGen (v m : Nat) : Nat := bits v (12 + 12 * m + 11) (12 + 12 * m)
/-- The tag of a slot. -/
def slotTag (v m : Nat) : W64 := BitVec.ofNat 64 (bits v (128 + 128 * m + 127) (128 + 128 * m + 64))
/-- The token of a slot, poisoned where the header or the read says so (R312). -/
def slotTok (l : Nat × Nat) (m : Nat) : Token :=
  ⟨BitVec.ofNat 64 (bits l.1 (128 + 128 * m + 63) (128 + 128 * m)), slotTag l.1 m,
   bit l.1 (96 + m) || bit l.2 (2 + 2 * m) || bit l.2 (3 + 2 * m)⟩

/-- Whether a header is sound (R310). -/
def hdrOk (n : Nat) (l : Nat × Nat) : Bool :=
  decide (bits l.1 11 0 = 0) && decide (hdrNext l.1 ≤ poolCount n) && !(bit l.2 0) && !(bit l.2 1)

/-- The buckets of a chain from an offset. -/
def chainOf (w : OvfWork) (n off fuel : Nat) : WRes (List Nat) :=
  match fuel with
  | 0 => .corrupt
  | k + 1 =>
    (getLine w off).bind (fun l w =>
      if !(hdrOk n l) then .corrupt
      else if hdrNext l.1 = 0 then .ok [off] w
      else (chainOf w n (poolOff (hdrNext l.1 - 1)) k).bind (fun r w => .ok (off :: r) w))

/-- The context table entry of a context: EPOCH and COUNT. -/
def ctxEntry (w : OvfWork) (ctx : Nat) : WRes (Nat × Nat) :=
  (getLine w (8 * ctx / 64 * 64)).bind (fun l w =>
    let lo := 64 * (ctx % 8)
    if bit l.2 (ctx % 8) then .corrupt
    else .ok (bits l.1 (lo + 63) (lo + 48), bits l.1 (lo + 31) lo) w)

/-- The context table entry written. -/
def putCtx (w : OvfWork) (ctx epoch count : Nat) : WRes Unit :=
  let off := 8 * ctx / 64 * 64
  (getLine w off).bind (fun l w =>
    let lo := 64 * (ctx % 8)
    .ok () (putLine w off (putBits (putBits l.1 (lo + 63) (lo + 48) epoch) (lo + 31) lo count, l.2)))

/-- Whether a slot is stale: VALID with another epoch than its context's. -/
def slotStale (w : OvfWork) (v m : Nat) : WRes Bool :=
  if !(slotValid v m) then .ok false w
  else (ctxEntry w (tagCtx (slotTag v m))).bind (fun e w => .ok (decide (e.1 ≠ slotEpoch v m)) w)

/-- The first free or stale slot of a chain: bucket, slot, and whether it is stale. -/
def freeSlotIn (w : OvfWork) (bs : List (Nat × Nat)) : WRes (Option (Nat × Nat × Bool)) :=
  match bs with
  | [] => .ok none w
  | (off, m) :: r =>
    (getLine w off).bind (fun l w =>
      if !(slotValid l.1 m) then .ok (some (off, m, false)) w
      else (slotStale w l.1 m).bind (fun st w => if st then .ok (some (off, m, true)) w else freeSlotIn w r))

/-- The slots of a list of buckets, in order. -/
def slotsOf (bs : List Nat) : List (Nat × Nat) := bs.flatMap (fun b => [(b, 0), (b, 1), (b, 2)])

/-- A token written into a slot of a line. -/
def writeSlot (l : Nat × Nat) (m : Nat) (tok : Token) (gen epoch : Nat) : Nat × Nat :=
  let v := putBits (putBits (putBits (putBits l.1 (99 + m) (99 + m) 1) (96 + m) (96 + m) (b2n tok.poison))
    (48 + 16 * m + 15) (48 + 16 * m) epoch) (12 + 12 * m + 11) (12 + 12 * m) gen
  let v' := putBits (putBits v (128 + 128 * m + 63) (128 + 128 * m) tok.val.toNat) (128 + 128 * m + 127) (128 + 128 * m + 64) (tok.tag.toNat / 4 * 4)
  let p := putBits (putBits l.2 (2 + 2 * m) (2 + 2 * m) 0) (3 + 2 * m) (3 + 2 * m) 0
  (v', p)

/-- A stale slot is reclaimed: STALE falls, and its virtual tile and generation are noted. -/
def noteReclaim (w : OvfWork) (v m : Nat) : OvfWork :=
  { w with stale := w.stale - 1, reclaimed := w.reclaimed ++ [(tagVt (slotTag v m), slotGen v m)] }

/-- One token is inserted (R302). -/
def insertTok (w : OvfWork) (n : Nat) (tok : Token) (gen : Nat) : WRes Unit :=
  let home := homeBucket (instKey tok.tag) n
  let ctx := tagCtx tok.tag
  (chainOf w n home (poolCount n + 2)).bind (fun bs w =>
    (ctxEntry w ctx).bind (fun e w =>
      let done (w : OvfWork) : WRes Unit :=
        (putCtx w ctx e.1 (e.2 + 1)).bind (fun _ w => .ok () { w with live := w.live + 1, placed := w.placed + 1 })
      (freeSlotIn w (slotsOf bs)).bind (fun f w =>
        match f with
        | some (off, m, st) =>
          (getLine w off).bind (fun l w =>
            let w1 := if st then noteReclaim w l.1 m else w
            done (putLine w1 off (writeSlot l m tok gen e.1)))
        | none =>
          let last := bs.getLastD home
          let pick := match w.free with
            | j :: r => some (j, { w with free := r })
            | [] => if w.bump < poolCount n then some (w.bump, { w with bump := w.bump + 1 }) else none
          match pick with
          | none => .noRoom w
          | some (j, w) =>
            (getLine w last).bind (fun l w =>
              let w1 := putLine w last (putBits l.1 127 102 (j + 1), l.2)
              done (putLine w1 (poolOff j) (writeSlot (0, 0) 0 tok gen e.1)))))) 

/-- The tokens of a SPILL are inserted in order. -/
def insertToks (w : OvfWork) (n : Nat) (l : List (Token × Nat)) : WRes Unit :=
  match l with
  | [] => .ok () w
  | (t, g) :: r => (insertTok w n t g).bind (fun _ w => insertToks w n r)

/-- Pool buckets of a chain left with no VALID slot are unlinked and freed. -/
def unlinkEmpty (w : OvfWork) (before : Nat) (bs : List Nat) : WRes Unit :=
  match bs with
  | [] => .ok () w
  | b :: r =>
    (getLine w b).bind (fun l w =>
      if bits l.1 101 99 = 0 then
        (getLine w before).bind (fun pl w =>
          unlinkEmpty { putLine w before (putBits pl.1 127 102 (hdrNext l.1), pl.2) with free := w.free ++ [(b - 0x20000) / 64] } before r)
      else unlinkEmpty w b r)

/-- Live slots of a key are removed, up to `k`; the rest of them only decides MORE (R306). -/
def removeKey (w : OvfWork) (key epoch k : Nat) (bs : List (Nat × Nat)) : WRes (List Token × Bool) :=
  match bs with
  | [] => .ok ([], false) w
  | (off, m) :: r =>
    (getLine w off).bind (fun l w =>
      if slotValid l.1 m && decide (instKey (slotTag l.1 m) = key) && decide (slotEpoch l.1 m = epoch) then
        match k with
        | 0 => .ok ([], true) w
        | j + 1 =>
          (removeKey (putLine { w with live := w.live - 1 } off (putBits l.1 (99 + m) (99 + m) 0, l.2)) key epoch j r).bind
            (fun x w => .ok (slotTok l m :: x.1, x.2) w)
      else removeKey w key epoch k r)

/-- A FETCH (R306). -/
def fetchWalk (w : OvfWork) (n key : Nat) : WRes (List Token × Bool) :=
  let home := homeBucket key n
  let ctx := tagCtx (BitVec.ofNat 64 (16 * key))
  (chainOf w n home (poolCount n + 2)).bind (fun bs w =>
    (ctxEntry w ctx).bind (fun e w =>
      (removeKey w key e.1 4 (slotsOf bs)).bind (fun x w =>
        if x.1.isEmpty then .ok x w
        else if e.2 < x.1.length then .corrupt
        else (putCtx w ctx e.1 (e.2 - x.1.length)).bind (fun _ w =>
          (unlinkEmpty w home bs.tail).bind (fun _ w => .ok x w)))))

/-- Every stale slot of a list is cleared. -/
def clearStale (w : OvfWork) (bs : List (Nat × Nat)) : WRes Unit :=
  match bs with
  | [] => .ok () w
  | (off, m) :: r =>
    (getLine w off).bind (fun l w =>
      (slotStale w l.1 m).bind (fun st w =>
        clearStale (if st then putLine (noteReclaim w l.1 m) off (putBits l.1 (99 + m) (99 + m) 0, l.2) else w) r))

/-- An operation of the agent: its answer. -/
def ovfWalk (r : Region) (w : OvfWork) (q : OvfReq) : WRes Resp :=
  match q with
  | .spill _ toks => (insertToks w r.n toks).bind (fun _ w => .ok (.spillData 0 toks.length) w)
  | .fetch _ key => (fetchWalk w r.n key).bind (fun x w => .ok (.fetchData x.1 x.2) w)
  | .notice _ ctx =>
    (ctxEntry w ctx).bind (fun e w =>
      if e.2 = 0 then .ok (.result (resultWord false 0 0)) w
      else if NSet.has r.owed ctx then .hold
      else (putCtx w ctx ((e.1 + 1) % 65536) 0).bind (fun _ w =>
        .ok (.result (resultWord false e.2 0)) { w with live := w.live - e.2, stale := w.stale + e.2 }))
  | .sweep i =>
    let home := 2 ^ (r.n - 1) + 64 * i
    (chainOf w r.n home (poolCount r.n + 2)).bind (fun bs w =>
      (clearStale w (slotsOf bs)).bind (fun _ w =>
        (unlinkEmpty w home bs.tail).bind (fun _ w => .ok .wait w)))

/-! ### The agent (R300 to R311) -/

/-- A partition's region. -/
def regionAt (s : State) (p : Nat) : Region := s.spr.regions.getD p {}
/-- A region replaced. -/
def setRegion (s : State) (p : Nat) (r : Region) : State := { s with spr := { s.spr with regions := s.spr.regions.set p r } }

/-- The requester of an operation. -/
def ovfRq (q : OvfReq) : Option Rq :=
  match q with
  | .spill rq _ => some rq
  | .fetch rq _ => some rq
  | .notice rq _ => some rq
  | .sweep _ => none

/-- A record of the agent (Table 16.2). -/
def ovfRaise (s : State) (p kind src : Nat) : State :=
  let r := regionAt s p
  raise s kind (rqId (homeUnit s p) 2) (some p) src (r.live % 2 ^ 28 + 2 ^ 28 * (r.stale % 2 ^ 28) + 2 ^ 56 * r.n)

/-- The agent's counters after an operation. -/
def countAgent (s : State) (p : Nat) (q : OvfReq) (w : OvfWork) (a : Resp) : State :=
  let b := s.homes.getD p 0
  let x := s.spr.agents.getD b {}
  let x1 : AgentStat := { x with reclaimed := (x.reclaimed + w.reclaimed.length) % 2 ^ 32 }
  let x2 : AgentStat := match q, a with
    | .spill _ _, _ => { x1 with spilled := (x1.spilled + w.placed) % 2 ^ 32 }
    | .fetch _ _, .fetchData toks _ =>
      { x1 with fetched := (x1.fetched + toks.length) % 2 ^ 32, misses := if toks.isEmpty then (x1.misses + 1) % 2 ^ 32 else x1.misses }
    | _, _ => x1
  { s with spr := { s.spr with agents := s.spr.agents.set b x2 } }

/-- The answer of an operation on a region that cannot serve it: a SPILL is refused, a FETCH returns no token, a notice
is acknowledged with zero. -/
def ovfNone (q : OvfReq) : Resp :=
  match q with
  | .spill _ _ => .spillData 0x14 0
  | .fetch _ _ => .fetchData [] false
  | _ => .result (resultWord false 0 0)

/-- A held operation is answered so; only the one whose walk had begun may have changed the region, and keeps its entry (R339). -/
def ovfRefuse (s : State) (p : Nat) (begun : Option OvfReq) (q : OvfReq) : State :=
  let s1 := countAgent s p q {} (ovfNone q)
  match ovfRq q with
  | some rq => if begun = some q then replayFinish s1 (homeUnit s p) rq (ovfNone q) else replayDrop s1 (homeUnit s p) rq (ovfNone q)
  | none => s

/-- The region becomes FAILED; what its agent holds is refused (Table 10.6). -/
def ovfFail (s : State) (p kind : Nat) : State :=
  let r := regionAt s p
  if r.state = 3 ∨ r.state = 0 then s
  else
    let src := match r.busy with
      | some (.spill rq _) => rq.src
      | some (.fetch rq _) => rq.src
      | _ => 0
    let s1 := ovfRaise s p kind src
    r.queue.foldl (fun s q => ovfRefuse s p r.busy q)
      (setRegion s1 p { r with state := 3, queue := [], busy := none, work := {}, reading := none, writes := 0, result := none, held := false })

/-- The line that the operation needs is read from the host. -/
def ovfRead (s : State) (p off : Nat) : State :=
  let r := regionAt s p
  let s1 := setRegion s p { r with reading := some off }
  match windowStart s1 p { iova := r.base + off, len := 64, use := .ovf (s.homes.getD p 0) p off } with
  | (s2, .failed _) => ovfFail s2 p Kind.overspillHostError
  | (s2, _) => s2

/-- The agent takes the oldest request it holds and begins its walk. -/
def ovfKick (s : State) (p : Nat) : State :=
  let r := regionAt s p
  match r.busy, r.queue with
  | none, q :: _ =>
    if r.held || !(decide (r.state = 1) || decide (r.state = 2)) then s
    else
      let w : OvfWork := { live := r.live, stale := r.stale, bump := r.bump, free := r.free }
      match ovfWalk r w q with
      | .need off => ovfRead (setRegion s p { r with busy := some q, work := w }) p off
      | _ => s
  | _, _ => s

/-- Reclaim notices to the tiles bound with the slot's generation (R309). -/
def sendReclaims (s : State) (p : Nat) (l : List (Nat × Nat)) : State :=
  l.foldl (fun s x => match placeOf s p x.1 with
    | some pl => if pl.gen = x.2 then sendPosted s (rqId (homeUnit s p) 2) pl.unit p (.reclaim 1) else s
    | none => s) s

/-- Whether an operation that ended changed its region; one that changed nothing leaves no entry (R339). -/
def ovfChanged (w : OvfWork) (q : OvfReq) (a : Resp) : Bool :=
  match q, a with
  | .spill _ _, _ => decide (w.placed ≠ 0)
  | .fetch _ _, .fetchData toks _ => !toks.isEmpty
  | .notice _ _, .result v => decide (bits v.toNat 47 16 ≠ 0)
  | _, _ => true

/-- The answer of an operation that ended. -/
def ovfAnswer (s : State) (p : Nat) (rq : Rq) (changed : Bool) (a : Resp) : State :=
  if changed then replayFinish s (homeUnit s p) rq a else replayDrop s (homeUnit s p) rq a

/-- An operation whose line writes are complete ends: the counts take effect, it is answered, and the next one begins. -/
def ovfFinish (s : State) (p : Nat) : State :=
  let r := regionAt s p
  match r.busy, r.result with
  | some q, some a =>
    let w := r.work
    let freed := decide (w.live < r.live) || decide (w.stale < r.stale) || decide (r.free.length < w.free.length)
    let owed := match q with
      | .notice _ ctx => if w.stale > r.stale then NSet.add r.owed ctx else r.owed
      | _ => r.owed
    let done := decide (w.stale = 0)
    let r1 : Region := { r with
      live := w.live, stale := w.stale, bump := w.bump, free := w.free, busy := none, work := {}, reading := none, result := none
      state := if r.state = 2 ∧ freed then 1 else r.state
      owed := if done then [] else owed
      held := r.held && !done
      queue := match q with
        | .sweep _ => r.queue
        | _ => r.queue.tail
      sweepAt := match q with
        | .sweep i => (i + 1) % 2 ^ (r.n - 7)
        | _ => r.sweepAt }
    let s1 := sendReclaims (countAgent (setRegion s p r1) p q w a) p w.reclaimed
    let s2 := match ovfRq q with
      | some rq =>
        (match a with
         | .spillData st _ =>
           if st = 0 then ovfAnswer s1 p rq (ovfChanged w q a) a
           else
             let s2 := if r.state = 2 then s1 else ovfRaise (setRegion s1 p { regionAt s1 p with state := 2 }) p Kind.overspillRegionExhausted rq.src
             ovfAnswer s2 p rq (ovfChanged w q a) a
         | _ => ovfAnswer s1 p rq (ovfChanged w q a) a)
      | none => s1
    ovfKick s2 p
  | _, _ => s

/-- Changed lines are written to the host; the number of writes still awaited is kept. -/
def ovfWrites (s : State) (p : Nat) (l : List Nat) : State :=
  match l with
  | [] => s
  | off :: rest =>
    let r := regionAt s p
    match SMap.get none r.work.lines off with
    | none => ovfWrites s p rest
    | some (v, pz) =>
      match windowStart s p { iova := r.base + off, len := 64, wr := true, data := leBytes 64 v, poison := pz, use := .ovf (s.homes.getD p 0) p off } with
      | (s1, .failed _) => ovfFail s1 p Kind.overspillHostError
      | (s1, .done) => ovfWrites s1 p rest
      | (s1, .pending) => ovfWrites (setRegion s1 p { regionAt s1 p with writes := (regionAt s1 p).writes + 1 }) p rest

/-- An operation's walk has all it needs: its changed lines are written. -/
def ovfCommit (s : State) (p : Nat) (w : OvfWork) (a : Resp) : State :=
  let s1 := ovfWrites (setRegion s p { regionAt s p with work := w, result := some a, reading := none }) p w.dirty
  let r := regionAt s1 p
  if r.state ≠ 3 ∧ r.writes = 0 then ovfFinish s1 p else s1

/-- The walk goes on after a line has been read. -/
def ovfStep (s : State) (p : Nat) : State :=
  let r := regionAt s p
  match r.busy with
  | none => s
  | some q =>
    match ovfWalk r r.work q with
    | .need off => ovfRead s p off
    | .ok a w => ovfCommit s p w a
    | .corrupt => ovfFail s p Kind.overspillRegionCorrupt
    | .hold => setRegion s p { r with busy := none, work := {}, reading := none, held := true }
    | .noRoom w =>
      if r.stale = 0 then ovfCommit s p w (.spillData 0x09 w.placed)
      else setRegion s p { r with busy := none, work := {}, reading := none, held := true }

/-- A host access of an agent ends. -/
def ovfHostDone (s : State) (p off : Nat) (wr : Bool) (res : HRes) : State :=
  let r := regionAt s p
  match res with
  | .fail _ => if r.busy.isSome then ovfFail s p Kind.overspillHostError else s
  | .ok data poison =>
    if wr then
      (if r.result.isSome ∧ 0 < r.writes then
         let s1 := setRegion s p { r with writes := r.writes - 1 }
         if r.writes = 1 then ovfFinish s1 p else s1
       else s)
    else if r.reading = some off then
      ovfStep (setRegion s p { r with reading := none, work := { r.work with lines := SMap.put none r.work.lines off (some (leNat data, poison)) } }) p
    else s

/-- A request reaches the agent: it is queued and waits, or is answered at once where the region cannot serve it. -/
def ovfTake (s : State) (p : Nat) (q : OvfReq) : Eval :=
  let r := regionAt s p
  if r.state = 1 ∨ r.state = 2 then { st := setRegion s p { r with queue := r.queue ++ [q] }, ans := none }
  else
    { st := match q with
        | .spill rq _ =>
          if r.state = 0 ∧ r.absent = false then ovfRaise (setRegion s p { r with absent := true }) p Kind.overspillRegionAbsent rq.src else s
        | _ => countAgent s p q {} (ovfNone q)
      ans := some (ovfNone q), changed := false }

/-- The agent takes a request under its replay cache, and begins it where it runs nothing. -/
def ovfServe (s : State) (rq : Rq) (q : OvfReq) : State :=
  ovfKick (cachedReq s (homeUnit s rq.part) rq (fun s => ovfTake s rq.part q)) rq.part

/-- SPILL. -/
def spill (s : State) (rq : Rq) (toks : List (Token × Nat)) : State :=
  if !(working s) then s
  else
    let u := homeUnit s rq.part
    arriveReq s u rq (.spill toks) (fun s => ovfServe s rq (.spill rq toks))

/-- FETCH. -/
def fetch (s : State) (rq : Rq) (key : Nat) : State :=
  if !(working s) then s
  else
    let u := homeUnit s rq.part
    arriveReq s u rq (.fetch key) (fun s => ovfServe s rq (.fetch rq key))

/-- CTX_NOTICE: during a slice of the bridge it waits in the network (R314). -/
def ctxNotice (s : State) (rq : Rq) (ctx : Nat) : State :=
  let u := homeUnit s rq.part
  if !(working s) || (sliceLeft s u).isSome then s
  else arriveReq s u rq (.ctxNotice ctx) (fun s => ovfServe s rq (.notice rq ctx))

/-- SWEEP: one home bucket and its chain, while STALE is non-zero and nothing of higher priority runs (R309). -/
def sweep (s : State) (p : Nat) : State :=
  let r := regionAt s p
  if !(working s) || (sliceLeft s (homeUnit s p)).isSome || r.busy.isSome || decide (r.stale = 0)
      || !(decide (r.state = 1) || decide (r.state = 2)) || (!r.queue.isEmpty && !r.held) then s
  else
    let q : OvfReq := .sweep r.sweepAt
    let w : OvfWork := { live := r.live, stale := r.stale, bump := r.bump, free := r.free }
    match ovfWalk r w q with
    | .need off => ovfRead (setRegion s p { r with busy := some q, work := w }) p off
    | _ => s

/-- OVERSPILL_CONFIG enabling a region (R300): the status and the state. -/
def ovfEnable (s : State) (p base n : Nat) : State × Nat :=
  let r := regionAt s p
  if !(decide (24 ≤ n) && decide (n ≤ 32) && decide (base < 2 ^ 44) && decide (base % 2 ^ n = 0)) then (s, 0x11)
  else if r.limit < n then (s, 0x14)
  else if r.state ≠ 0 then (s, 0x14)
  else (setRegion s p { limit := r.limit, state := 1, n := n, base := base }, 0)

/-- OVERSPILL_CONFIG disabling a region: empty with no request outstanding, or FAILED (R300, R311). -/
def ovfDisable (s : State) (p : Nat) : State × Nat :=
  let r := regionAt s p
  if r.state = 0 then (s, 0x14)
  else if r.state ≠ 3 ∧ !(decide (r.live = 0) && decide (r.stale = 0) && r.queue.isEmpty && r.busy.isNone) then (s, 0x14)
  else (setRegion s p { limit := r.limit }, 0)

/-- Whether a partition is quiescent at its agent (R313). -/
def regionQuiet (s : State) (p : Nat) : Bool :=
  let r := regionAt s p
  decide (r.live = 0) && decide (r.stale = 0) && r.queue.isEmpty && r.busy.isNone

/-- The agents' and monitors' return from Safe (R315). -/
def sprSafe (s : State) : State :=
  { s with spr := { s.spr with regions := s.spr.regions.map (fun r => { limit := r.limit }) } }

end Sys2Proof.Machine
end

