-- ==== Sys2Proof/Machine/Scheduler.lean ====
section
/-! DEFINITION. Activations (chapter 8): admission, dependence counters, ready stores, push, pull and sifter
dispatch, completion and retirement. -/

namespace Sys2Proof.Machine

/-! ### Records and handles (R224 to R226) -/

/-- Activation record `i`. -/
def recAt (s : State) (i : Nat) : Rec := SMap.get {} s.sch.recs i

/-- Activation record `i` replaced, with its copy in the tag array (R224). -/
def setRec (s : State) (i : Nat) (r : Rec) : State :=
  { s with sch := { s.sch with
      recs := SMap.put {} s.sch.recs i r
      tags := SMap.put (0, 0, 0) s.sch.tags i (r.part, r.gen, r.state) } }
/-- PARTITION of a record as the tag array names it (R257). -/
def tagPartOf (s : State) (i : Nat) : Nat := (SMap.get (0, 0, 0) s.sch.tags i).1

/-- The handle of record `i` (R225). -/
def handleOf (s : State) (i : Nat) : Nat := 2 ^ 16 * (recAt s i).gen + i

/-- The record that a handle names for a partition, where the handle is valid (R225). -/
def liveHandle (s : State) (p h : Nat) : Option Nat :=
  let i := h % 2 ^ 16
  let r := recAt s i
  if h < 2 ^ 32 ∧ r.state ≠ 0 ∧ r.part = p ∧ r.gen = h / 2 ^ 16 ∧ r.gone = false then some i else none

/-- The generation after a record is freed (R224, R225). -/
def nextGen (i g : Nat) : Nat := if i = 0xFFFF then (if 0xFFFE ≤ g then 0 else g + 1) else (g + 1) % 2 ^ 16

/-- Records that are not FREE and satisfy `p`. -/
def countRecs (s : State) (p : Rec → Bool) : Nat := (s.sch.recs.filter (fun x => decide (x.2.state ≠ 0) && p x.2)).length

/-- SCH.CLASS[c]. -/
def classAt (s : State) (c : Nat) : WClass := s.sch.classes.getD c {}

/-- A ready store: stand 0 to 3, or 4 for the clearing. -/
def rstore (s : State) (k : Nat) : RStore := s.sch.stores.getD k {}

/-- A ready store replaced. -/
def setRstore (s : State) (k : Nat) (r : RStore) : State :=
  { s with sch := { s.sch with stores := s.sch.stores.set k r } }

/-- ADDR of a scheduler record: the handle and the class (Table 16.2). -/
def schedAddr (s : State) (i : Nat) : Nat := handleOf s i + 2 ^ 32 * (recAt s i).cls

/-! ### Spoor events (R281, R286) -/

/-- A record leaves for the trace hub. -/
def spoorSend (s : State) (r : SpoorRec) : State := sendPosted s (rqId r.unit 0) 0x306 r.part (.spoorEvent r)

/-- The spoor record of an event about activation record `i`. -/
def spoorOf (s : State) (i event unit status vt detail : Nat) : SpoorRec :=
  let r := recAt s i
  { time := now s, handle := handleOf s i, event := event, part := r.part, prio := r.prio, unit := unit, trail := r.trail
    seq := r.seq, cls := r.cls, status := status, vtile := vt, detail := detail }

/-- An event about record `i` is emitted. -/
def spoor (s : State) (i event unit status vt detail : Nat) : State := spoorSend s (spoorOf s i event unit status vt detail)

/-- Whether a record passes the filters of destination 0 but for trace export (R283). -/
def passesDest0 (d : SpoorDest) (event part cls : Nat) (onTrail : Bool) : Bool :=
  d.enable && bit d.evMask event && decide (d.clsLo ≤ cls) && decide (cls ≤ d.clsHi) && (onTrail || !d.trailOnly) && bit d.partMask part

/-- Whether a stalling destination 0 with a full queue holds a decision whose event passes its filters (R286). -/
def spoorHolds (s : State) (event part cls : Nat) (onTrail : Bool) : Bool :=
  let d := s.trl.dests.getD 0 {}
  d.stalling && decide (256 ≤ d.queue.length) && passesDest0 d event part cls onTrail && NSet.has s.traceExport part

/-- The same for an event about record `i`. -/
def recHeld (s : State) (event i : Nat) : Bool :=
  let r := recAt s i
  spoorHolds s event r.part r.cls r.trail.isSome

/-! ### Targets (R236, R239, R240, R243) -/

/-- The physical tile that serves a placement (R20). -/
def placeTile (s : State) (p : Place) : Nat := steer s p.unit

/-- The virtual tiles that a record may be dispatched to, bound or not. -/
def poolOf (r : Rec) : List Nat :=
  if r.tmode = 0 then [r.vtile] else (List.range r.poolCount).map (fun n => r.poolFirst + n)

/-- The bound virtual tiles of a record's pool with their physical tiles. -/
def boundPool (s : State) (r : Rec) : List (Nat × Nat) :=
  (poolOf r).filterMap (fun v => match placeOf s r.part v with
    | some p => some (v, placeTile s p)
    | none => none)

/-- Whether a waiting stage holds a tile (R451). -/
def commitHeld (s : State) (u : Nat) : Bool := s.prt.stages.any (fun x => decide (x.phase = 1) && x.held.contains u)

/-- The usable targets of a record: bound, on a tile neither excluded nor quarantined, nor held for a commit. -/
def usable (s : State) (r : Rec) : List (Nat × Nat) :=
  (boundPool s r).filter (fun x => !(tileAt s x.2).excluded && !(tileAt s x.2).testing && !(commitHeld s x.2))

/-- The ready store of a READY record (R236). -/
def storeOf (s : State) (r : Rec) : Nat :=
  if r.dispatch = 2 then r.siftStand
  else match boundPool s r with
    | [] => 4
    | (_, u) :: t => if t.all (fun x => decide (standOf x.2 = standOf u)) then standOf u else 4

/-- Records forwarded to the stands for a tile: each holds one of its slots from the clearing's decision on (R244). -/
def forwardedTo (s : State) (u : Nat) : Nat :=
  ((s.sch.stores.flatMap RStore.forwarded).filter (fun x => match placeOf s (recAt s x.1).part x.2 with
    | some p => decide (placeTile s p = u)
    | none => false)).length

/-- Free prefetch slots of a tile (R242, R244). -/
def freeSlots (s : State) (u : Nat) : Nat := ((tileAt s u).actSlot.filter Option.isNone).length - forwardedTo s u

/-- Whether a record's class has room under MAX_INFLIGHT (R239): a record offered to a sifter or forwarded to a stand counts with those
that are DISPATCHED. -/
def inflightOk (s : State) (r : Rec) : Bool :=
  let m := (classAt s r.cls).maxInflight
  decide (m = 0) || decide (countRecs s (fun x => decide (x.cls = r.cls) && (decide (x.state = 3) || x.offered)) < m)

/-- Whether record `i` ranks before record `j` (R238): level, ready time, index. -/
def ranksBefore (s : State) (i j : Nat) : Bool :=
  let a := recAt s i
  let b := recAt s j
  if a.prio ≠ b.prio then decide (a.prio < b.prio)
  else if a.readyAt ≠ b.readyAt then decide (a.readyAt < b.readyAt)
  else decide (i < j)

/-- The best-ranked record of a list. -/
def bestOf (s : State) (l : List Nat) : Option Nat :=
  match l with
  | [] => none
  | i :: t => match bestOf s t with
    | none => some i
    | some j => if ranksBefore s i j then some i else some j

/-- The push target of a record among tiles that `ok` admits: most free slots, then lowest virtual tile (R243). -/
def pushTarget (s : State) (r : Rec) (ok : Nat → Bool) : Option (Nat × Nat) :=
  ((usable s r).filter (fun x => ok x.2 && decide (0 < freeSlots s x.2))).foldl (fun best x =>
    match best with
    | none => some x
    | some b => if freeSlots s b.2 < freeSlots s x.2 then some x else some b) none

/-! ### Store entries -/

/-- The level of the first non-empty deferred chain. -/
def chainLevel (r : RStore) : Option Nat := (List.range 8).find? (fun l => !(r.chains.getD l []).isEmpty)

/-- Entries of a ready store that are not withdrawn. -/
def storeCap (r : RStore) : Nat := 8192 - r.lost

/-- A freed store entry takes the head of the non-empty chain of the lowest level (R237). -/
def refill (r : RStore) : RStore :=
  if storeCap r ≤ r.ents.length then r
  else match chainLevel r with
    | none => r
    | some l => match r.chains.getD l [] with
      | [] => r
      | i :: t => { r with ents := r.ents ++ [i], chains := r.chains.set l t }

/-- A record leaves the stores. -/
def leaveStores (s : State) (i : Nat) : State :=
  { s with sch := { s.sch with
      entering := s.sch.entering.erase i
      stores := s.sch.stores.map (fun r => refill { r with
        ents := r.ents.erase i
        errs := SMap.drop r.errs (fun k => decide (k = i))
        chains := r.chains.map (fun c => c.erase i)
        forwarded := r.forwarded.filter (fun x => x.1 != i) }) } }

/-! ### Retirement (R248) -/

/-- A prefetch slot that holds a handle is freed (R242). -/
def freeSlot (s : State) (u h : Nat) : State :=
  modTile s u (fun t => { t with actSlot := t.actSlot.map (fun x => match x with
    | some a => if a.handle = h then none else some a
    | none => none) })

/-- A decrement is sent to the dependence table; all-ones names none. -/
def sendDecrement (s : State) (i h : Nat) (failed : Bool) : State :=
  if h = 0xFFFFFFFF then s
  else
    let s1 := setRec s i { recAt s i with effects := (recAt s i).effects + 1 }
    sendReq s1 { unit := 0x301, part := (recAt s i).part, target := 0x302, body := .depDec h failed, use := .retire i }

/-- The host completion of a retirement is asked of the ring set's bridge. -/
def sendHostCompletion (s : State) (i : Nat) : State :=
  let r := recAt s i
  if r.host then
    sendReq (setRec s i { r with effects := r.effects + 1 })
      { unit := 0x301, part := r.part, target := ringBridge s r.ringset, use := .retire i,
        body := .cplPost r.ringset (handleOf s i) (if r.failed then 2 else 0)
                (match r.kind with
                 | some k => 2 ^ 31 + 2 ^ 16 * k
                 | none => r.status) }
  else s

/-- The release of a context is requested of the pool for a partition. -/
def askContextRelease (s : State) (p c : Nat) : State :=
  sendReq s { unit := 0x301, part := p, target := 0x303, body := .ctxRelease c, use := .other }

/-- The release of a lent context is requested of the pool; for a trail item, once every token released for it has been
acknowledged (R273). -/
def sendContextRelease (s : State) (i : Nat) : State :=
  let r := recAt s i
  if r.ctxMode ≠ 2 then s
  else if s.trl.acks.any (fun x => x.2 == handleOf s i) then
    { s with sch := { s.sch with ctxDue := s.sch.ctxDue ++ [(handleOf s i, r.part, r.ctx)] } }
  else askContextRelease s r.part r.ctx

/-- The context releases that wait for no token of the gate any more are requested. -/
def contextsDue (s : State) : State :=
  if inSafe s then s else
  let due := s.sch.ctxDue.filter (fun x => !(s.trl.acks.any (fun y => y.2 == x.1)))
  due.foldl (fun s x => askContextRelease s x.2.1 x.2.2)
    { s with sch := { s.sch with ctxDue := s.sch.ctxDue.filter (fun x => s.trl.acks.any (fun y => y.2 == x.1)) } }

/-- The effects of retirement, in order (R248 steps 1 to 3). -/
def retireEffects (s0 : State) (i : Nat) : State :=
  let r := recAt s0 i
  let s := setRec s0 i { r with released := true }
  sendContextRelease (sendHostCompletion (sendDecrement (sendDecrement s i r.notify0 r.failed) i r.notify1 r.failed) i) i

/-- Whether the effects of an item of a trail of a partition have been begun and not all accepted. -/
def trailEffects (s : State) (t : Option Nat) (p : Nat) : Bool :=
  t.isSome && s.sch.recs.any (fun x => decide (x.2.state = 4) && decide (x.2.trail = t) && decide (x.2.part = p) && decide (x.2.effects ≠ 0))

/-- Released items, in order: each begins its effects unless those of an earlier item of its trail are under way or wait (R273). -/
def retireServe (s : State) (l : List Nat) : State :=
  match l with
  | [] => s
  | i :: r =>
    let x := recAt s i
    if trailEffects s x.trail x.part || s.sch.retireQ.any (fun j => decide ((recAt s j).trail = x.trail) && decide ((recAt s j).part = x.part)) then
      retireServe { s with sch := { s.sch with retireQ := s.sch.retireQ ++ [i] } } r
    else retireServe (retireEffects s i) r

/-- The items that waited are looked at again, oldest first. -/
def retireNext (s : State) : State := retireServe { s with sch := { s.sch with retireQ := [] } } s.sch.retireQ

/-- A DISPATCHED record completes (R248): RETIRING, its slot freed; the gate is told of a trail item, otherwise the
effects apply at once. -/
def acceptCompletion (s : State) (i : Nat) (failed : Bool) (status : Nat) (kind : Option Nat) : State :=
  let r := recAt s i
  let h := handleOf s i
  let s0 := spoor (freeSlot s r.tile h) i 5 0x301 (if failed then 2 else 0) r.dvt (kind.getD status)
  let s1 := setRec s0 i { r with state := 4, failed := failed, status := status, kind := kind, slotted := false, offered := false }
  match r.trail with
  | some t => sendReq s1 { unit := 0x301, part := r.part, target := 0x305, use := .gateDone i,
                           body := .gateComplete h t r.seq (if failed then (if status = 0 then 1 else status) else 0) }
  | none => retireEffects s1 i

/-- The scheduler retires a record as failed, with the fault kind of its failure (R241, R249, R251, R424); the stalling trace may hold
the retirement (R286). -/
def retireFailed (s : State) (i kind : Nat) : State :=
  let s1 := leaveStores s i
  if recHeld s1 5 i then { s1 with sch := { s1.sch with failQ := s1.sch.failQ ++ [(handleOf s1 i, kind)] } }
  else acceptCompletion (setRec s1 i { recAt s1 i with state := 3 }) i true 0 (some kind)

/-- Held retirements, each applied where its record still waits for it and the trace holds it no more. -/
def failServe (s : State) (l : List (Nat × Nat)) : State :=
  match l with
  | [] => s
  | (h, kind) :: r =>
    let i := h % 2 ^ 16
    if handleOf s i = h ∧ ((recAt s i).state = 2 ∨ (recAt s i).state = 3) then failServe (retireFailed s i kind) r else failServe s r

/-- The held retirements are looked at again. -/
def failNext (s : State) : State := failServe { s with sch := { s.sch with failQ := [] } } s.sch.failQ

/-- A record becomes READY with the forest time of the cycle (R232); with a failed predecessor and PROPAGATE_FAIL it
completes as failed in the same step (R249); which fault kind a propagated failure carries (R424) the spec leaves open. -/
def makeReady (s : State) (i : Nat) : State :=
  let r := recAt s i
  let s1 := setRec s i { r with state := 2, readyAt := now s }
  if r.failedPred && r.propagate then
    let (k, s2) := freeTake s1
    retireFailed s2 i (k % 1024)
  else { s1 with sch := { s1.sch with entering := s1.sch.entering ++ [i] } }

/-- A dispatched record is lost (R241, R251). -/
def loseRecord (s : State) (i : Nat) : State :=
  if s.sch.failQ.any (fun x => decide (x.1 = handleOf s i)) then s
  else retireFailed (raise s Kind.activationLost (rqId 0x301 0) (some (recAt s i).part) (schedAddr s i) 0) i Kind.activationLost

/-! ### Admission (R227 to R231) -/

/-- A field of the spawn word (Table 8.3). -/
def spawnBits (r : AdmitReq) (hi lo : Nat) : Nat := bits r.spawn.toNat hi lo
/-- CLASS of a spawn word. -/
def spawnClass (r : AdmitReq) : Nat := spawnBits r 5 0
/-- TMODE of a spawn word. -/
def spawnTmode (r : AdmitReq) : Nat := spawnBits r 9 9
/-- VTILE of a spawn word. -/
def spawnVtile (r : AdmitReq) : Nat := spawnBits r 19 10
/-- CTX_MODE of a spawn word. -/
def spawnCtxMode (r : AdmitReq) : Nat := spawnBits r 53 52

/-- The trail of an admission: the class's for a SPAWN with TRAIL, the descriptor's for a LAUNCH. -/
def admitTrail (r : AdmitReq) (c : WClass) : Option Nat :=
  if r.launch then r.trail else if spawnBits r 55 55 = 1 then some c.trail else none

/-- The field checks of step 3. -/
def admitFieldsOk (s : State) (p : Nat) (r : AdmitReq) (c : WClass) : Bool :=
  decide (spawnBits r 63 57 = 0)
  && !(r.launch && (decide (spawnBits r 56 56 = 1) || decide (spawnBits r 55 55 = 1)))
  && decide (spawnCtxMode r ≠ 3)
  && !(decide (spawnTmode r = 1) && decide (spawnVtile r ≠ 0))
  && !(decide (c.dispatch = 2) && !(decide (spawnTmode r = 0) && decide (spawnVtile r = 0)
        && decide (spawnBits r 35 20 = 0) && decide (spawnBits r 54 54 = 0) && decide (spawnCtxMode r = 0)))
  && !(decide (spawnCtxMode r = 0) && decide ((ctxPart s p).limit ≤ r.ctx))
  && !(!r.launch && decide (spawnBits r 55 55 = 1) && !c.trailValid)
  && !(decide (c.dispatch ≠ 2) && decide (spawnTmode r = 1) && decide (c.poolCount = 0))

/-- The record that an admission writes, but for its context and sequence number (Table 8.1). -/
def admitRecord (p : Nat) (r : AdmitReq) (c : WClass) (gen : Nat) : Rec :=
  { gen := gen, state := 1, part := p, cls := spawnClass r, prio := max (spawnBits r 8 6) c.floor
    tmode := spawnTmode r, vtile := if spawnTmode r = 0 then spawnVtile r else 0, ctxMode := spawnCtxMode r
    ctx := r.ctx, iter := if spawnCtxMode r = 0 then r.iter else 0, trail := admitTrail r c
    notify0 := r.notify0, notify1 := r.notify1, host := r.host, ringset := r.ringset
    sendHandle := decide (spawnBits r 54 54 = 1), startNode := spawnBits r 35 20, arg := r.arg
    dep := spawnBits r 51 36, floor := c.floor, dispatch := c.dispatch, propagate := c.propagate
    siftStand := c.siftStand, poolFirst := c.poolFirst, poolCount := c.poolCount }

/-- A refused admission: the counters of SCH.REFUSED and the fault. -/
def admitRefuse (s0 : State) (rq : Rq) (r : AdmitReq) (status step : Nat) (kind : Option Nat) : Eval :=
  let s := spoorSend s0 { time := now s0, event := 2, part := rq.part, prio := spawnBits r 8 6, unit := 0x301, cls := spawnClass r
                          status := status, detail := step
                          trail := admitTrail r (classAt s0 (spawnClass r)) }
  let q := s.sch
  let q1 : Sch :=
    if status = 0x10 then { q with rights := (q.rights + 1) % 2 ^ 16 }
    else if status = 0x11 then { q with field := (q.field + 1) % 2 ^ 16 }
    else if step < 8 ∧ (status = 0x09 ∨ status = 0x0A) then { q with noSpace := (q.noSpace + 1) % 2 ^ 16 }
    else q
  let s1 : State := { s with sch := q1 }
  { st := match kind with
      | some k => raise s1 k (rqId 0x301 0) (some rq.part) (2 ^ 32 * spawnClass r) rq.src
      | none => s1
    ans := some (.result (resultWord true 0 status)), changed := false }

/-- Step 9: the record is written; READY when DEP is 0. The answer carries the handle. -/
def admitWrite (s : State) (i : Nat) (r : Rec) : State :=
  let s1 := spoor (setRec s i r) i 1 0x301 0 0 r.dep
  let s2 : State := { s1 with sch := { s1.sch with admitted := (s1.sch.admitted + 1) % 2 ^ 32 } }
  if r.dep = 0 then makeReady s2 i else s2

/-- The head of a free list, passing over records withdrawn by an error (R257); at most `n` of them. -/
def takeSound (gone : Nat → Bool) (n : Nat) (f : FreeList) : Option (Nat × FreeList) :=
  match f.take with
  | none => none
  | some (i, g) =>
    if gone i then
      (match n with
       | 0 => none
       | m + 1 => takeSound gone m g)
    else some (i, g)

/-- The record that an admission takes, and the free list without it (R226). -/
def freeRecord (s : State) : Option (Nat × FreeList) :=
  takeSound (fun i => (recAt s i).gone) (s.sch.recs.filter (fun x => x.2.gone)).length s.sch.free

/-- Steps 6 to 9 of Table 8.4. With a trail, a sequence number is asked of the gate and the admission waits. -/
def admitTake (s : State) (rq : Rq) (req : AdmitReq) (c : WClass) : Eval :=
  if s.sch.quotas.getD rq.part 0 ≤ countRecs s (fun x => decide (x.part = rq.part)) then admitRefuse s rq req 0x09 6 none
  else match freeRecord s with
    | none => admitRefuse s rq req 0x09 6 none
    | some (i, f) =>
      let fresh := decide (spawnCtxMode req ≠ 0)
      match (if fresh then allocCtx s rq.part else some (req.ctx, s)) with
      | none => admitRefuse s rq req 0x0A 7 none
      | some (ctx, s1) =>
        let r : Rec := { admitRecord rq.part req c (recAt s1 i).gen with ctx := ctx }
        let s2 : State := { s1 with sch := { s1.sch with free := f } }
        match r.trail with
        | none =>
          let s3 := admitWrite s2 i r
          { st := s3, ans := some (.result (resultWord false (2 ^ 16 * r.gen + i) 0)) }
        | some t =>
          let s3 : State := { s2 with sch := { s2.sch with
            admitting := some { rq := rq, req := req, idx := i, record := r, fresh := fresh } } }
          { st := sendReq s3 { unit := 0x301, part := rq.part, target := 0x305, use := .admitSeq i
                               body := .seqReq t (2 ^ 16 * r.gen + i) }
            ans := none }

/-- The admission steps of Table 8.4 from step 2 on. -/
def admitEval (s : State) (rq : Rq) (req : AdmitReq) : Eval :=
  let c := classAt s (spawnClass req)
  if !(c.valid && decide (c.part = rq.part)) then admitRefuse s rq req 0x10 2 (some Kind.activationSpecInvalid)
  else if !(admitFieldsOk s rq.part req c) then admitRefuse s rq req 0x11 3 (some Kind.activationSpecInvalid)
  else if spawnTmode req = 0 ∧ (placeOf s rq.part (spawnVtile req)).isNone then
    admitRefuse s rq req 0x11 4 (some Kind.activationTargetUnbound)
  else
    let s1 : State := if spawnBits req 8 6 < c.floor then
      { s with sch := { s.sch with clamped := (s.sch.clamped + 1) % 2 ^ 16 } } else s
    admitTake s1 rq req c

/-- Whether an admission waits: behind one that waits for its sequence number, or for the trace (R229, R286). -/
def admitHeld (s : State) (rq : Rq) (req : AdmitReq) : Bool :=
  let on := (admitTrail req (classAt s (spawnClass req))).isSome
  s.sch.admitting.isSome || spoorHolds s 1 rq.part (spawnClass req) on || spoorHolds s 2 rq.part (spawnClass req) on

/-- One admission request evaluated. -/
def admitOne (s : State) (rq : Rq) (req : AdmitReq) : State := cachedReq s 0x301 rq (fun s => admitEval s rq req)

/-- Accepted requests, in arrival order, until one waits (R229). -/
def admitServe (s : State) (l : List (Rq × AdmitReq)) : State :=
  match l with
  | [] => { s with sch := { s.sch with admitQ := [] } }
  | (rq, req) :: r =>
    if admitHeld s rq req then { s with sch := { s.sch with admitQ := (rq, req) :: r } }
    else admitServe (admitOne s rq req) r

/-- ADMIT: one admission request at the clearing scheduler; requests are evaluated one at a time in arrival order, and one that cannot
be evaluated yet moves into the scheduler's own queue (R229, R330). In a slice it is answered at once. -/
def admission (s : State) (rq : Rq) (req : AdmitReq) : State :=
  if !(working s) then s
  else arriveReq s 0x301 rq (.admission req) (fun s =>
    if (sliceLeft s 0x301).isSome then admitOne s rq req else admitServe s (s.sch.admitQ ++ [(rq, req)]))

/-- The gate's answer to the sequence request of the waiting admission: step 9, or the undo of steps 6 and 7. -/
def admitSeqAnswer (s : State) (ok : Bool) (status seq : Nat) : State :=
  match s.sch.admitting with
  | none => s
  | some a =>
    let s1 : State := { s with sch := { s.sch with admitting := none } }
    if ok then
      let s2 := replayFinish (admitWrite s1 a.idx { a.record with seq := seq }) 0x301 a.rq
        (.result (resultWord false (2 ^ 16 * a.record.gen + a.idx) 0))
      admitServe s2 s2.sch.admitQ
    else
      let s2 : State := { s1 with sch := { s1.sch with free := s1.sch.free.putFront a.idx } }
      let s3 := (admitRefuse (if a.fresh then undoCtx s2 a.rq.part a.record.ctx else s2) a.rq a.req status 8 none).st
      let s4 := replayDrop s3 0x301 a.rq (.result (resultWord true 0 status))
      admitServe s4 s4.sch.admitQ

/-! ### Dependence counters (R232, R233) -/

/-- A decrement applied: its state, and the status it answers. -/
def decrementApply (s : State) (p src h : Nat) (failed : Bool) : State × Nat :=
  match liveHandle s p h with
  | none => (raise s Kind.depTargetInvalid (rqId 0x302 0) (some p) (h % 2 ^ 32) src, 0x13)
  | some i =>
    let r := recAt s i
    if r.state = 1 then
      let r' : Rec := { r with dep := r.dep - 1, failedPred := r.failedPred || failed }
      let s1 := setRec s i r'
      (if r'.dep = 0 then makeReady s1 i else s1, 0)
    else (raise s Kind.depUnderflow (rqId 0x302 0) (some p) (schedAddr s i) src, 0x14)

/-- DECREMENT: a decrement reaches the dependence table. -/
def decrement (s : State) (rq : Rq) (h : Nat) (failed : Bool) : State :=
  if !(working s) then s
  else arriveReq s 0x302 rq (.depDec h failed) (fun s => cachedReq s 0x302 rq (fun s =>
    let x := decrementApply s rq.part rq.src h failed
    { st := x.1, ans := some (.result (resultWord (decide (x.2 ≠ 0)) 0 x.2)), changed := decide (x.2 = 0) }))

/-! ### Dispatch (R240 to R247) -/

/-- The start tokens of a record for a virtual tile (R240). -/
def startTokens (s : State) (i vt : Nat) : List Token :=
  let r := recAt s i
  let t0 : Token := ⟨r.arg, mkTag r.part r.ctx r.iter vt r.startNode 0 0, false⟩
  if r.sendHandle then
    [t0, ⟨BitVec.ofNat 64 (handleOf s i), mkTag r.part r.ctx r.iter vt r.startNode 1 0, false⟩]
  else [t0]

/-- The start tokens leave for the tile, from a stand scheduler. -/
def sendStart (s : State) (i vt : Nat) : State :=
  match placeOf s (recAt s i).part vt with
  | none => s
  | some p =>
    let u := placeTile s p
    sendPkt s { cls := 1, dest := u, src := rqId (0x2C4 + standOf u) 0, part := (recAt s i).part,
                body := .actTokens p.gen (startTokens s i vt) (handleOf s i) }

/-- A push dispatch to a virtual tile (R242, R244): slot `n` of its tile, SLOT_FILLED, the start tokens. -/
def pushInto (s : State) (k i vt n : Nat) (p : Place) : State :=
  let u := placeTile s p
  let h := handleOf s i
  let s1 := leaveStores s i
  let s2 := setRec s1 i { recAt s1 i with state := 3, tile := u, dvt := vt, slotted := true, offered := false }
  let s3 := modTile s2 u (fun t => { t with actSlot := t.actSlot.set n (some { bslot := p.slot, handle := h }) })
  let s4 := spoor (sendStart (setEvent s3 u 2) i vt) i 4 (0x2C4 + k) 0 vt (u + 2 ^ 14 * n)
  setRstore s4 k { rstore s4 k with pushes := ((rstore s4 k).pushes + 1) % 2 ^ 32, lastPush := some (now s) }

/-- A record joins store `k`: an entry, or the chain of its level (R237). -/
def joinStore (s : State) (k i : Nat) : State :=
  let st := rstore s k
  let l := (recAt s i).prio
  setRstore s k (if decide (st.ents.length < storeCap st) && (st.chains.getD l []).isEmpty then { st with ents := st.ents ++ [i] }
    else { st with chains := st.chains.set l (st.chains.getD l [] ++ [i]) })

/-- A forwarded record whose target is usable no more goes back to its store, where the next choice considers it. -/
def unforward (s : State) (i : Nat) : State :=
  let s1 := leaveStores s i
  joinStore (setRec s1 i { recAt s1 i with offered := false }) (storeOf s1 (recAt s1 i)) i

/-- A record is pushed to a virtual tile into the lowest free slot of its tile (R244); a forwarded one whose target is not usable or
has no free slot any more is given back. -/
def pushTo (s : State) (k i vt : Nat) : State :=
  if recHeld s 4 i then s
  else match placeOf s (recAt s i).part vt with
  | none => unforward s i
  | some p =>
    match (tileAt s (placeTile s p)).actSlot.findIdx? Option.isNone with
    | some n => if (usable s (recAt s i)).any (fun x => decide (x.1 = vt)) then pushInto s k i vt n p else unforward s i
    | none => unforward s i

/-- The unit that holds a ready store. -/
def storeUnit (k : Nat) : Nat := if k = 4 then 0x301 else 0x2C4 + k

/-- The READY records that a dispatch choice of a store considers, of one dispatch kind. -/
def candidates (s : State) (k kind : Nat) : List Nat :=
  (rstore s k).ents.filter (fun i => decide ((recAt s i).dispatch = kind))

/-- The records considered whose target is no longer bound (R251). -/
def unboundOf (s : State) (k : Nat) : Option Nat :=
  bestOf s ((rstore s k).ents.filter (fun i => decide ((recAt s i).dispatch ≠ 2) && (boundPool s (recAt s i)).isEmpty))

/-- A READY record without a bound target is retired as failed (R251). -/
def retireUnbound (s : State) (k i : Nat) : State :=
  retireFailed (raise s Kind.activationTargetUnbound (rqId (storeUnit k) 0)
    (some (recAt s i).part) (schedAddr s i) 0) i Kind.activationTargetUnbound

/-- Whether the stand scheduler is in a slice (R254). -/
def standSlice (s : State) (k : Nat) : Bool := (sliceLeft s (0x2C4 + k)).isSome

/-- PUSH_DISPATCH at stand `k`, or the clearing's choice for `k` = 4, which forwards to the stand of its target. -/
def pushDispatch (s : State) (k : Nat) : State :=
  if !(working s) || decide (4 < k) || (decide (k < 4) && standSlice s k)
      || (decide (k = 4) && (sliceLeft s 0x301).isSome) then s
  else match unboundOf s k with
  | some i => retireUnbound s k i
  | none =>
    if k = 4 then
      let ok (i : Nat) : Option (Nat × Nat) := pushTarget s (recAt s i) (fun u => !(standSlice s (standOf u)))
      match bestOf s ((candidates s 4 0).filter (fun i => inflightOk s (recAt s i) && (ok i).isSome)) with
      | none => s
      | some i => match ok i with
        | none => s
        | some (vt, u) =>
          let s0 := leaveStores s i
          let s1 := setRec s0 i { recAt s0 i with offered := true }
          setRstore s1 (standOf u) { rstore s1 (standOf u) with
            forwarded := (rstore s1 (standOf u)).forwarded ++ [(i, vt)] }
    else if (match (rstore s k).lastPush with
        | some t => decide (now s < t + 2)
        | none => false) then s
    else match (rstore s k).forwarded with
    | (i, vt) :: _ => pushTo s k i vt
    | [] =>
      let ok (i : Nat) : Option (Nat × Nat) := pushTarget s (recAt s i) (fun _ => true)
      match bestOf s ((candidates s k 0).filter (fun i => inflightOk s (recAt s i) && (ok i).isSome)) with
      | none => s
      | some i => match ok i with
        | none => s
        | some (vt, _) => pushTo s k i vt

/-- Whether a TAKE can be served with record `i`: pull, its class, eligible, and the issuing virtual tile usable. -/
def takeFits (s : State) (p cls vt i : Nat) : Bool :=
  let r := recAt s i
  decide (r.dispatch = 1) && decide (r.part = p) && decide (r.cls = cls) && inflightOk s r && !(recHeld s 4 i)
  && (usable s r).any (fun x => decide (x.1 = vt))

/-- The best-ranked record for a TAKE in the stand's store and the clearing's, which answers nothing during its slice (R245, R253). -/
def takeChoice (s : State) (k p cls vt : Nat) : Option Nat :=
  bestOf s (((rstore s k).ents ++ (if (sliceLeft s 0x301).isSome then [] else (rstore s 4).ents)).filter (takeFits s p cls vt))

/-- A record is handed to a TAKE: DISPATCHED, no slot, start tokens to the tile, the handle as the answer (R245). -/
def pullTo (s : State) (k i : Nat) (rq : Rq) (vt : Nat) : State :=
  let s1 := leaveStores s i
  let s2 := setRec s1 i { recAt s1 i with state := 3, tile := rq.src / 4, dvt := vt, slotted := false }
  let s3 := setRstore s2 k { rstore s2 k with pulls := ((rstore s2 k).pulls + 1) % 2 ^ 32 }
  let s4 := spoor (sendStart s3 i vt) i 4 (0x2C4 + k) 0 vt (rq.src / 4 + 2 ^ 12)
  respond s4 (0x2C4 + k) rq (.result (resultWord false (handleOf s i) 0))

/-- TAKE_ARRIVAL (R245). -/
def takeArrival (s : State) (k : Nat) (rq : Rq) (cls vt : Nat) : State :=
  if !(working s) then s
  else arriveReq s (0x2C4 + k) rq (.take cls vt) (fun s =>
    let c := classAt s cls
    if !(decide (cls < 64) && c.valid && decide (c.part = rq.part) && decide (c.dispatch = 1)) then
      respond s (0x2C4 + k) rq (.result (resultWord true 0 0x10))
    else
      match (if standSlice s k then none else takeChoice s k rq.part cls vt) with
      | some i => pullTo s k i rq vt
      | none => respond { s with sch := { s.sch with takes := s.sch.takes ++ [⟨k, rq, cls, vt⟩] } } (0x2C4 + k) rq .wait)

/-- The waiting TAKEs, longest first, are served with the records that have become eligible (R245). -/
def serveTakes (s : State) (l : List TakeWait) : State :=
  match l with
  | [] => s
  | w :: r =>
    if standSlice s w.stand then serveTakes s r
    else match takeChoice s w.stand w.rq.part w.cls w.vt with
      | some i => serveTakes (pullTo { s with sch := { s.sch with takes := s.sch.takes.erase w } } w.stand i w.rq w.vt) r
      | none => serveTakes s r

/-- Every waiting TAKE that can be served is. -/
def settleTakes (s : State) : State := serveTakes s s.sch.takes

/-- READY_STORE_ENTRY: a READY record enters its store or its deferred chain (R236, R237). -/
def readyStoreEntry (s : State) (i : Nat) : State :=
  if !(working s) || !(s.sch.entering.contains i) || recHeld s 3 i then s
  else
    let r := recAt s i
    let k := storeOf s r
    let st := rstore s k
    let direct := decide (st.ents.length < storeCap st) && (st.chains.getD r.prio []).isEmpty
    let s1 : State := { s with sch := { s.sch with entering := s.sch.entering.erase i } }
    settleTakes (spoor (joinStore s1 k i) i 3 (storeUnit k) 0 0 (b2n !direct))

/-- TAKE_CANCEL (R246): a waiting TAKE is cancelled; one already chosen stands. -/
def takeCancel (s : State) (k : Nat) (rq : Rq) (takeTag : Nat) : State :=
  if !(working s) then s
  else arriveReq s (0x2C4 + k) rq (.takeCancel takeTag) (fun s =>
    match s.sch.takes.find? (fun w => decide (w.stand = k) && decide (w.rq.src = rq.src)
        && decide (w.rq.part = rq.part) && decide (w.rq.tag = takeTag)) with
    | some w => respond { s with sch := { s.sch with takes := s.sch.takes.erase w } } (0x2C4 + k) rq
                  (.result (resultWord false 0 0))
    | none => respond s (0x2C4 + k) rq (.result (resultWord true 0 0x14)))

/-! ### Completion (R248) -/

/-- COMPLETION: a completion is accepted for a DISPATCHED record, or answered invalid. A sifter's failure carries its fault
kind in bits [25:16] under bit [31], as R424 lays it out. -/
def completion (s : State) (rq : Rq) (h status : Nat) : State :=
  if !(working s) || (match liveHandle s rq.part h with
      | some i => recHeld s 5 i
      | none => false) then s
  else arriveReq s 0x301 rq (.complete h status) (fun s => cachedReq s 0x301 rq (fun s =>
    match liveHandle s rq.part h with
    | none => { st := s, ans := some (.result (resultWord true 0 0x13)), changed := false }
    | some i =>
      if (recAt s i).state = 3 then
        let s1 := acceptCompletion s i (decide (status ≠ 0)) (status % 256) (if bit status 31 then some (bits status 25 16) else none)
        { st := settleTakes s1, ans := some (.result (resultWord false 0 0)) }
      else { st := s, ans := some (.result (resultWord true 0 0x13)), changed := false }))

/-- ACTIVATION_LOST_REPORT (R241). -/
def activationLostReport (s : State) (u part h : Nat) : State :=
  let pkt : Packet := { cls := 0, dest := 0x301, src := rqId u 3, part := part, body := .activationLost h }
  if !(working s && arrivable s pkt) then s
  else
    let s1 := takePkt s pkt
    match liveHandle s1 part h with
    | some i => if (recAt s1 i).state = 3 then settleTakes (loseRecord s1 i) else s1
    | none => s1

/-- RECORD_FREE (R248 step 4): a RETIRING record whose effects have been accepted is freed. -/
def recordFree (s : State) (i : Nat) : State :=
  let r := recAt s i
  if !(working s) || decide (r.state ≠ 4) || decide (r.effects ≠ 0) || !r.released || recHeld s 0x0B i then s
  else
    let s1 := setRec (spoor s i 0x0B 0x301 0 r.dvt r.gen) i { gen := nextGen i r.gen, gone := r.gone }
    { s1 with sch := { s1.sch with
        free := if r.gone then s1.sch.free else s1.sch.free.putBack i, retired := (s1.sch.retired + 1) % 2 ^ 32 } }

/-- The acceptance of one effect of a retirement; after an item's last one the next item of its trail may begin. -/
def effectAccepted (s : State) (i : Nat) : State := retireNext (setRec s i { recAt s i with effects := (recAt s i).effects - 1 })

/-- The scheduler's return from Safe (R259): every record that is not FREE is discarded in ascending index. -/
def schReset (s : State) : State :=
  let live := s.sch.recs.filter (fun x => decide (x.2.state ≠ 0))
  let s1 := live.foldl (fun s x => setRec s x.1 { gen := nextGen x.1 x.2.gen, gone := x.2.gone }) s
  let f := match s1.sch.admitting with
    | some a => s1.sch.free.putFront a.idx
    | none => s1.sch.free
  { s1 with sch := { s1.sch with
      free := { f with back := f.back ++ (live.filter (fun x => !x.2.gone)).map Prod.fst }
      stores := s1.sch.stores.map (fun r => { pushes := r.pushes, pulls := r.pulls, lost := r.lost })
      entering := [], takes := [], admitting := none, admitQ := [], retireQ := [], ctxDue := [], failQ := [] } }

end Sys2Proof.Machine
end

