-- ==== Sys2Proof/Machine/Sifter.lean ====
section
/-! DEFINITION. The sifter's data path (chapter 7): 16.16 arithmetic, the descriptor and its checks, box decoding,
suppression, and crop-and-resize, as functions of the lines a job has read. -/

namespace Sys2Proof.Machine

/-! ### 16.16 arithmetic (R207, R208) -/

/-- Saturation to 32 bits. -/
def sat32 (i : Int) : Int := if i < -2147483648 then -2147483648 else if 2147483647 < i then 2147483647 else i
/-- The product of two 16.16 values. -/
def fxMul (a b : Int) : Int := sat32 ((a * b + 32768) / 65536)
/-- A saturating sum. -/
def fxAdd (a b : Int) : Int := sat32 (a + b)
/-- A saturating difference. -/
def fxSub (a b : Int) : Int := sat32 (a - b)
/-- An arithmetic shift right. -/
def fxShr (a : Int) (n : Nat) : Int := a / (2 ^ n : Nat)
/-- A value limited to a range. -/
def fxClamp (lo hi a : Int) : Int := if a < lo then lo else if hi < a then hi else a

/-- The largest n below 2^k more than `n` with (2n − 1)^1024 ≤ 2^(17 × 1024 + i). -/
def exp2Search (i n k : Nat) : Nat :=
  match k with
  | 0 => n
  | b + 1 => exp2Search i (if (2 * (n + 2 ^ b) - 1) ^ 1024 ≤ 2 ^ (17408 + i) then n + 2 ^ b else n) b

/-- EXP2_TABLE[i]: 2^(16 + i / 1,024) rounded. -/
def exp2Table (i : Nat) : Nat := exp2Search i 0 17

/-- exp2q (R208). -/
def exp2q (z : Int) : Int :=
  let z := fxClamp (-1048576) 983040 z
  let n := fxShr z 16
  let p : Int := exp2Table ((z % 65536).toNat / 64)
  if 0 ≤ n then sat32 (p * (2 ^ n.toNat : Nat)) else fxShr (p + (2 ^ ((-n).toNat - 1) : Nat)) (-n).toNat

/-- A float as 16.16 (R207). -/
def fixOf (fm : FFmt) (v : Nat) : Int :=
  match fUnpack fm v with
  | .nan => -2147483648
  | .inf neg => if neg then -2147483648 else 2147483647
  | .fin neg m e => sat32 (if neg then -(fToIntMag m (e + 16) : Int) else (fToIntMag m (e + 16) : Int))

/-- An input element as 16.16: 0 int8 with its scale, 1 bf16, 2 fp32, 3 int32. -/
def fixIn (t q v : Nat) : Int :=
  if t = 0 then sat32 (signed 8 v * signed 32 q) else if t = 1 then fixOf bf16 v else if t = 2 then fixOf f32 v else signed 32 v

/-! ### Reading (R221) -/

/-- What an evaluation over the lines read so far gives: a value, a line still to be read, or a fault with its address. -/
inductive SEv (α : Type) where
  | ok (a : α)
  | need (line : Nat)
  | bad (kind addr : Nat)
  deriving DecidableEq, Repr

/-- One evaluation after another. -/
def SEv.then_ {α β : Type} (x : SEv α) (f : α → SEv β) : SEv β :=
  match x with
  | .ok a => f a
  | .need l => .need l
  | .bad k a => .bad k a

/-- An evaluation for each element, in order. -/
def sevList {α β : Type} (l : List α) (f : α → SEv β) : SEv (List β) :=
  match l with
  | [] => .ok []
  | a :: r => (f a).then_ (fun b => (sevList r f).then_ (fun bs => .ok (b :: bs)))

/-- An accumulating evaluation over a list. -/
def sevFold {α β : Type} (l : List α) (b : β) (f : β → α → SEv β) : SEv β :=
  match l with
  | [] => .ok b
  | a :: r => (f b a).then_ (fun b => sevFold r b f)

/-- An accumulating evaluation over a list that stops at its first fault: what was accumulated before it, and the fault (R221). -/
def sevHalt {α β : Type} (l : List α) (b : β) (f : β → α → SEv β) : SEv (β × Option (Nat × Nat)) :=
  match l with
  | [] => .ok (b, none)
  | a :: r =>
    match f b a with
    | .ok b => sevHalt r b f
    | .need n => .need n
    | .bad k x => .ok (b, some (k, x))

/-- The first poisoned word among those that bytes [a, a + n) of a line touch. -/
def firstPoison (p a n : Nat) : Option Nat :=
  (List.range 8).find? (fun w => bit p w && decide (a < 8 * w + 8) && decide (8 * w < a + n))

/-- `n` bytes from tile address `a`, out of the lines read; at most `k` lines. -/
def SJob.bytes (j : SJob) (k a n : Nat) : SEv (List Byte) :=
  match k with
  | 0 => .ok []
  | i + 1 =>
    if n = 0 then .ok []
    else
      let l := a / 64 * 64
      let m := min n (64 - a % 64)
      let e := SMap.get ([], 0) j.lines l
      if e.1.isEmpty then .need l
      else match firstPoison e.2 (a % 64) m with
      | some w => .bad Kind.siftPoisonConsumed (l + 8 * w)
      | none => (j.bytes i (a + m) (n - m)).then_ (fun r => .ok ((e.1.drop (a % 64)).take m ++ r))

/-- `n` bytes (at most 64) from a tile address, as a number. -/
def SJob.num (j : SJob) (a n : Nat) : SEv Nat := (j.bytes 2 a n).then_ (fun bs => .ok (leNat bs))

/-! ### The descriptor (R205, R220, Tables 7.1 to 7.4) -/

/-- A field of `n` bytes at an offset of the descriptor. -/
def SJob.f (j : SJob) (off n : Nat) : Nat := leNat ((j.raw.drop off).take n)
/-- OP. -/
def SJob.op (j : SJob) : Nat := j.f 0 1
/-- Whether the job decodes. -/
def SJob.decodes (j : SJob) : Bool := decide (j.op = 1) || decide (j.op = 3)
/-- Whether the job suppresses. -/
def SJob.suppresses (j : SJob) : Bool := decide (j.op = 2) || decide (j.op = 3)
/-- RESULT. -/
def SJob.result (j : SJob) : Nat := j.f 8 8
/-- Bytes of a decode element. -/
def decBytes (t : Nat) : Nat := if t = 0 then 1 else if t = 1 then 2 else 4
/-- The delta element type. -/
def SJob.dT (j : SJob) : Nat := j.f 0x65 1 % 4
/-- The score element type. -/
def SJob.sT (j : SJob) : Nat := j.f 0x65 1 / 4 % 4
/-- Channels per block of the decode maps. -/
def SJob.dB (j : SJob) : Nat := if bit (j.f 0x65 1) 4 then 32 else 16
/-- FORM. -/
def SJob.form (j : SJob) : Nat := bits (j.f 0x65 1) 6 5
/-- CLIP. -/
def SJob.clip (j : SJob) : Bool := bit (j.f 1 1) 1
/-- The crop element type: 0 int8, 1 bf16, 2 fp16, 3 fp32. -/
def SJob.cT (j : SJob) : Nat := j.f 0x56 1 % 4
/-- Channels per block of the crop maps. -/
def SJob.cB (j : SJob) : Nat := if bit (j.f 0x56 1) 2 then 32 else 16
/-- Bytes of a pixel of one block of the crop maps. -/
def SJob.cPix (j : SJob) : Nat := j.cB * elemBytes j.cT

/-- The bytes of a map: its blocks, rows and columns. -/
def mapLen (chans b blkp h rowp w e : Nat) : Nat := (chans - 1) / b * blkp + (h - 1) * rowp + w * b * e

/-- Whether bytes [a, b) of the descriptor are zero. -/
def SJob.zero (j : SJob) (a b : Nat) : Bool := decide (j.f a (b - a) = 0)

/-- Reserved fields, encodings and alignment: SIFT_DESC_INVALID. -/
def SJob.formOk (j : SJob) : Bool :=
  let flags := j.f 1 1
  let al (off : Nat) : Bool := decide (j.f off 8 % 64 = 0)
  decide (1 ≤ j.op) && decide (j.op ≤ 4) && decide (flags < 4) && (!(bit flags 1) || j.decodes)
  && (bit flags 0 || decide (j.f 2 2 = 0)) && j.zero 4 8 && j.zero 0x10 0x40 && al 8
  && (if j.decodes then
        al 0x40 && al 0x48 && al 0x90 && decide (j.form ≠ 3) && !(bit (j.f 0x65 1) 7)
        && (decide (j.dT = 0) || j.zero 0x70 0x74) && (decide (j.sT = 0) || j.zero 0x74 0x78)
        && (decide (j.form = 0) || (j.zero 0x7C 0x80 && j.zero 0x88 0x90)) && (j.clip || j.zero 0x80 0x88)
        && decide (j.f 0x88 8 % 8 = 0) && j.zero 0x9C 0xC0
      else if j.op = 4 then
        al 0x40 && al 0x60 && al 0x70 && decide (j.f 0x56 1 < 64) && j.zero 0x59 0x5C && j.zero 0x84 0xC0
      else j.zero 0x40 0xC0)
  && (if j.suppresses then
        al 0xC0 && al 0xE0 && decide (j.f 0xE8 8 % 4 = 0) && (decide (j.op = 2) || j.zero 0xC0 0xCC)
        && decide (j.f 0xDA 1 < 2) && j.zero 0xDB 0xDC && j.zero 0xF0 0x100
      else j.zero 0xC0 0x100)

/-- A number in a range. -/
def inRange (lo hi n : Nat) : Bool := decide (lo ≤ n) && decide (n ≤ hi)

/-- Counts, sizes and ranges: SIFT_LIMIT_EXCEEDED. -/
def SJob.limitOk (j : SJob) : Bool :=
  let pos (off : Nat) : Bool := inRange 1 0x7FFFFFFF (j.f off 4)
  decide (j.f 2 2 < 1024)
  && (if j.decodes then
        inRange 1 4096 (j.f 0x60 2) && inRange 1 4096 (j.f 0x62 2) && inRange 1 16 (j.f 0x64 1) && inRange 1 1024 (j.f 0x66 2)
        && decide (j.f 0x64 1 * j.f 0x66 2 ≤ 4096) && pos 0x68 && pos 0x6C && inRange 0 0x7FFFFFFF (j.f 0x80 4)
        && inRange 0 0x7FFFFFFF (j.f 0x84 4) && inRange 1 1048576 (j.f 0x98 4)
      else true)
  && (if j.suppresses then
        (decide (j.op = 3) || inRange 1 1048576 (j.f 0xC8 4)) && inRange 0 0x10000 (j.f 0xCC 4)
        && inRange 0 1023 (j.f 0xD4 2) && inRange (j.f 0xD4 2) 1023 (j.f 0xD6 2) && inRange 1 1024 (j.f 0xD8 2)
        && inRange 1 1048576 (j.f 0xDC 4)
      else true)
  && (if j.op = 4 then
        inRange 1 4096 (j.f 0x50 2) && inRange 1 4096 (j.f 0x52 2) && inRange 1 4096 (j.f 0x54 2)
        && decide (j.f 0x54 2 % j.cB = 0) && decide (j.f 0x52 2 * j.cPix ≤ j.f 0x48 4)
        && inRange 1 64 (j.f 0x57 1) && inRange 1 64 (j.f 0x58 1) && inRange 1 65536 (j.f 0x68 4) && pos 0x6C
        && decide (j.f 0x58 1 * j.cPix ≤ j.f 0x78 4)
        && decide ((j.f 0x54 2 / j.cB - 1) * j.f 0x7C 4 + (j.f 0x57 1 - 1) * j.f 0x78 4 + j.f 0x58 1 * j.cPix ≤ j.f 0x80 4)
      else true)

/-- The window of a tile address that a sifter may use: 1 remote frame, 2 stand buffer, 3 host (R220 step 1). -/
def sifWindow (a : Nat) : Option Nat :=
  if 0x100000000 ≤ a ∧ a < 0x140000000 then some 1
  else if 0x200000000 ≤ a ∧ a < 0x204000000 then some 2
  else if 0x100000000000 ≤ a ∧ a < 0x200000000000 then some 3
  else none

/-- The input regions of a job, base and length. -/
def SJob.inputs (j : SJob) : List (Nat × Nat) :=
  let h := j.f 0x60 2
  let w := j.f 0x62 2
  let a := j.f 0x64 1
  [(j.desc, 256)]
  ++ (if j.decodes then
        [(j.f 0x40 8, mapLen (4 * a) j.dB (j.f 0x54 4) h (j.f 0x50 4) w (decBytes j.dT)),
         (j.f 0x48 8, mapLen (a * j.f 0x66 2) j.dB (j.f 0x5C 4) h (j.f 0x58 4) w (decBytes j.sT))]
        ++ (if j.form = 0 then [(j.f 0x88 8, 8 * a)] else [])
      else [])
  ++ (if j.op = 2 then [(j.f 0xC0 8, 32 * j.f 0xC8 4)] else [])
  ++ (if j.op = 4 then
        [(j.f 0x40 8, mapLen (j.f 0x54 2) j.cB (j.f 0x4C 4) (j.f 0x50 2) (j.f 0x48 4) (j.f 0x52 2) (elemBytes j.cT)),
         (j.f 0x60 8, 32 * j.f 0x68 4)]
      else [])

/-- The output regions of a job, the result record first. -/
def SJob.outputs (j : SJob) : List (Nat × Nat) :=
  [(j.result, 64)]
  ++ (if j.decodes then [(j.f 0x90 8, 32 * j.f 0x98 4)] else [])
  ++ (if j.suppresses then
        [(j.f 0xE0 8, 32 * j.f 0xDC 4)]
        ++ (if j.f 0xE8 8 = 0 then [] else [(j.f 0xE8 8, 4 * (j.f 0xD6 2 - j.f 0xD4 2 + 1))])
      else [])
  ++ (if j.op = 4 then
        [(j.f 0x70 8, (j.f 0x68 4 - 1) * j.f 0x80 4
            + mapLen (j.f 0x54 2) j.cB (j.f 0x7C 4) (j.f 0x57 1) (j.f 0x78 4) (j.f 0x58 1) (elemBytes j.cT))]
      else [])

/-- Whether a region lies in one permitted window. -/
def regionOk (r : Nat × Nat) : Bool := (sifWindow r.1).isSome && decide (sifWindow (r.1 + r.2 - 1) = sifWindow r.1)

/-- Whether some output region meets an input or a later output. -/
def outputsMeet (outs ins : List (Nat × Nat)) : Bool :=
  match outs with
  | [] => false
  | o :: r => (r ++ ins).any (fun x => rangesMeet o.1 o.2 x.1 x.2) || outputsMeet r ins

/-- Whether RESULT is itself acceptable: aligned, in a permitted window, and meeting no input and no other output (R220). -/
def SJob.resultFits (j : SJob) : Bool :=
  decide (j.result % 64 = 0) && regionOk (j.result, 64)
  && !((j.inputs ++ j.outputs.tail).any (fun x => rangesMeet j.result 64 x.1 x.2))

/-- The admission check (R220): the fault kind and its address, none where the job may run. -/
def SJob.check (j : SJob) : Option (Nat × Nat) :=
  if !j.formOk then some (Kind.siftDescInvalid, 0)
  else if !j.limitOk then some (Kind.siftLimitExceeded, 0)
  else match (j.inputs ++ j.outputs).find? (fun r => !(regionOk r)) with
  | some r => some (Kind.siftAddressInvalid, r.1)
  | none => if outputsMeet j.outputs j.inputs then some (Kind.siftDescInvalid, 0) else none

/-! ### Segments -/

/-- What a segment gives: the job after it, what it writes, what it raises without stopping, and the fault that then stops the job. -/
structure SSeg where
  job : SJob
  writes : List (Nat × List Byte) := []
  faults : List (Nat × Nat) := []
  halt : Option (Nat × Nat) := none
  deriving DecidableEq, Repr

/-- A flag of the result record set (Table 7.7). -/
def SSeg.flag (g : SSeg) (n : Nat) : SSeg :=
  if bit g.job.flags n then g else { g with job := { g.job with flags := g.job.flags + 2 ^ n } }
/-- SIFT_TRUNCATED with its flag (R211, R213). -/
def SSeg.truncated (g : SSeg) (n : Nat) : SSeg := { g.flag n with faults := (g.flag n).faults ++ [(Kind.siftTruncated, 0)] }

/-- A box record (Table 7.5). -/
structure SBox where
  x0 : Int := 0
  y0 : Int := 0
  x1 : Int := 0
  y1 : Int := 0
  score : Int := 0
  cls : Nat := 0
  valid : Bool := true
  index : Nat := 0
  deriving DecidableEq, Repr

/-- The 32 bytes of a box record. -/
def SBox.bytes (b : SBox) : List Byte :=
  leBytes 4 (narrow 32 b.x0) ++ leBytes 4 (narrow 32 b.y0) ++ leBytes 4 (narrow 32 b.x1) ++ leBytes 4 (narrow 32 b.y1)
  ++ leBytes 4 (narrow 32 b.score) ++ leBytes 2 b.cls ++ leBytes 2 (b2n b.valid) ++ leBytes 4 b.index ++ leBytes 4 0

/-- A box record read from 32 bytes; none where a reserved byte or flag is set (R206). -/
def boxOf (bs : List Byte) : Option SBox :=
  let w (off n : Nat) : Nat := leNat ((bs.drop off).take n)
  let g (off : Nat) : Int := signed 32 (w off 4)
  if w 0x1C 4 ≠ 0 ∨ 2 ≤ w 0x16 2 then none
  else some { x0 := g 0, y0 := g 4, x1 := g 8, y1 := g 12, score := g 16, cls := w 0x14 2, valid := decide (w 0x16 2 = 1), index := w 0x18 4 }

/-! ### Box decoding (R209 to R211) -/

/-- An element of a decode map at (y, x) and a channel, as 16.16. -/
def SJob.mapVal (j : SJob) (base rowp blkp t q y x ch : Nat) : SEv Int :=
  (j.num (base + ch / j.dB * blkp + y * rowp + (x * j.dB + ch % j.dB) * decBytes t) (decBytes t)).then_ (fun v => .ok (fixIn t q v))

/-- The delta component `c` of anchor `a`. -/
def SJob.delta (j : SJob) (y x a c : Nat) : SEv Int :=
  j.mapVal (j.f 0x40 8) (j.f 0x50 4) (j.f 0x54 4) j.dT (j.f 0x70 4) y x (4 * a + c)

/-- The score of class `c` for anchor `a`. -/
def SJob.score (j : SJob) (y x a c : Nat) : SEv Int :=
  j.mapVal (j.f 0x48 8) (j.f 0x58 4) (j.f 0x5C 4) j.sT (j.f 0x74 4) y x (a * j.f 0x66 2 + c)

/-- Clipping and ordering of a decoded box (R210). -/
def SJob.clipBox (j : SJob) (b : SBox) : SBox :=
  let cw := signed 32 (j.f 0x80 4)
  let ch := signed 32 (j.f 0x84 4)
  let c : SBox := if j.clip then { b with x0 := fxClamp 0 cw b.x0, x1 := fxClamp 0 cw b.x1, y0 := fxClamp 0 ch b.y0, y1 := fxClamp 0 ch b.y1 } else b
  { c with x1 := if c.x1 < c.x0 then c.x0 else c.x1, y1 := if c.y1 < c.y0 then c.y0 else c.y1 }

/-- The box that deltas form (Table 7.6). -/
def SJob.formBox (j : SJob) (y x : Nat) (aw ah d0 d1 d2 d3 : Int) : SBox :=
  let sx := signed 32 (j.f 0x68 4)
  let sy := signed 32 (j.f 0x6C 4)
  let acx := fxAdd (sat32 (x * sx)) (fxShr sx 1)
  let acy := fxAdd (sat32 (y * sy)) (fxShr sy 1)
  let sw := signed 32 (j.f 0x7C 4)
  let up (d : Int) : Int := if d < 0 then 0 else d
  if j.form = 0 then
    let cx := fxAdd acx (fxMul d0 aw)
    let cy := fxAdd acy (fxMul d1 ah)
    let w := fxMul aw (exp2q (fxMul d2 sw))
    let h := fxMul ah (exp2q (fxMul d3 sw))
    let x0 := fxSub cx (fxShr w 1)
    let y0 := fxSub cy (fxShr h 1)
    { x0 := x0, y0 := y0, x1 := fxAdd x0 w, y1 := fxAdd y0 h }
  else if j.form = 1 then
    { x0 := fxSub acx (fxMul (up d0) sx), y0 := fxSub acy (fxMul (up d1) sy)
      x1 := fxAdd acx (fxMul (up d2) sx), y1 := fxAdd acy (fxMul (up d3) sy) }
  else { x0 := d0, y0 := d1, x1 := d2, y1 := d3 }

/-- The records of one anchor at one position (R211). -/
def SJob.anchorRecords (j : SJob) (y x a : Nat) : SEv (List SBox) :=
  (sevList (List.range (j.f 0x66 2)) (fun c => (j.score y x a c).then_ (fun q => .ok (c, q)))).then_ (fun qs =>
    let pass := qs.filter (fun e => decide (signed 32 (j.f 0x78 4) ≤ e.2))
    if pass.isEmpty then .ok []
    else (sevList (List.range 4) (fun c => j.delta y x a c)).then_ (fun d =>
      (if j.form = 0 then sevList [0, 4] (fun o => j.num (j.f 0x88 8 + 8 * a + o) 4) else .ok [0, 0]).then_ (fun an =>
        let b := j.clipBox (j.formBox y x (signed 32 (an.getD 0 0)) (signed 32 (an.getD 1 0))
          (d.getD 0 0) (d.getD 1 0) (d.getD 2 0) (d.getD 3 0))
        .ok (pass.map (fun e => { b with score := e.2, cls := e.1, index := (y * j.f 0x62 2 + x) * j.f 0x64 1 + a })))))

/-- Records written from number `k` on, those below `lim` only. -/
def boxWrites (base lim k : Nat) (l : List SBox) : List (Nat × List Byte) :=
  match l with
  | [] => []
  | b :: r => (if k < lim then [(base + 32 * k, b.bytes)] else []) ++ boxWrites base lim (k + 1) r

/-- One map row of a decode; SIFT_TRUNCATED is raised with the row that first passes OUT_MAX. A fault stops the job at the anchor that
met it, and the records before it are written. -/
def SJob.decodeRow (j : SJob) (y : Nat) : SEv SSeg :=
  (sevHalt (List.range (j.f 0x62 2 * j.f 0x64 1)) ([] : List SBox) (fun recs n =>
      (j.anchorRecords y (n / j.f 0x64 1) (n % j.f 0x64 1)).then_ (fun l => .ok (recs ++ l)))).then_ (fun x =>
    let recs := x.1
    let n := j.decoded + recs.length
    let last := decide (y + 1 = j.f 0x60 2)
    let j' : SJob := { j with
      decoded := n
      pos := if last then 0 else y + 1
      phase := if last then (if j.op = 3 then 2 else 4) else 1 }
    let g : SSeg := { job := j', writes := boxWrites (j.f 0x90 8) (j.f 0x98 4) j.decoded recs, halt := x.2 }
    .ok (if j.f 0x98 4 < n && !(bit j.flags 0) then g.truncated 0 else g))

/-! ### Suppression (R212 to R215) -/

/-- Whether `a` ranks before `b` by SCORE and INDEX (R213). -/
def SBox.before (a b : SBox) : Bool := decide (b.score < a.score) || (decide (a.score = b.score) && decide (a.index < b.index))

/-- A candidate takes its place in a ranked list of candidates that stand later in the input. -/
def rankIn (b : SBox) (l : List SBox) : List SBox :=
  match l with
  | [] => [b]
  | x :: r => if x.before b then x :: rankIn b r else b :: x :: r

/-- Candidates ranked by R213. -/
def rankAll (l : List SBox) : List SBox := l.foldr rankIn []

/-- The area of a box, a negative factor taken as 0. -/
def SBox.area (b : SBox) : Int := (if b.x1 < b.x0 then 0 else b.x1 - b.x0) * (if b.y1 < b.y0 then 0 else b.y1 - b.y0)

/-- iou_exceeds (R214). -/
def iouExceeds (thr : Int) (a b : SBox) : Bool :=
  let iw := max 0 (min a.x1 b.x1 - max a.x0 b.x0)
  let ih := max 0 (min a.y1 b.y1 - max a.y0 b.y0)
  let i := iw * ih
  let u := a.area + b.area - i
  decide (0 < u) && decide (thr * u < i * 65536)

/-- One pass over ranked candidates: at most `m` kept, at most `n` looked at. -/
def nmsPass (thr : Int) (m n : Nat) (l : List SBox) : List SBox :=
  match n, m, l with
  | k + 1, i + 1, b :: r => b :: nmsPass thr i k (r.filter (fun x => !(iouExceeds thr b x)))
  | _, _, _ => []

/-- The records of a suppression's input, the reserved ones met, by position, and the fault that ends the scan. -/
def SJob.scan (j : SJob) (base n : Nat) : SEv ((List SBox × List (Nat × Nat)) × Option (Nat × Nat)) :=
  sevHalt (List.range n) (([], []) : List SBox × List (Nat × Nat)) (fun acc k =>
    (j.bytes 2 (base + 32 * k) 32).then_ (fun bs =>
      match boxOf bs with
      | some b => .ok (acc.1 ++ [b], acc.2)
      | none => .ok (acc.1, acc.2 ++ [(Kind.siftDescInvalid, base + 32 * k)])))

/-- One suppression pass, number `p` (R212, R213, R215). A fault in its input stops the job before anything of the pass is written. -/
def SJob.nms (j : SJob) (p : Nat) : SEv SSeg :=
  let first := j.f 0xD4 2
  let last := j.f 0xD6 2
  let agn := bit (j.f 0xDA 1) 0
  let cls (c : Nat) : Bool := if agn then inRange first last c else decide (c = first + p)
  let base := if j.op = 3 then j.f 0x90 8 else j.f 0xC0 8
  let n := if j.op = 3 then min j.decoded (j.f 0x98 4) else j.f 0xC8 4
  (j.scan base n).then_ (fun y =>
   let x := y.1
   if y.2.isSome then .ok { job := j, faults := x.2, halt := y.2 }
   else
    let cand := rankAll (x.1.filter (fun b => b.valid && cls b.cls && decide (signed 32 (j.f 0xD0 4) ≤ b.score)))
    let kept := nmsPass (signed 32 (j.f 0xCC 4)) (j.f 0xD8 2) 4096 (cand.take 4096)
    let lim := j.f 0xDC 4
    let done := agn || decide (first + p = last)
    let j' : SJob := { j with
      kept := min lim (j.kept + kept.length)
      candMax := max j.candMax cand.length
      pos := p + 1
      phase := if done then 4 else 2 }
    let g0 : SSeg := { job := j', faults := x.2
                       writes := boxWrites (j.f 0xE0 8) lim j.kept kept
                         ++ (if j.f 0xE8 8 = 0 then [] else [(j.f 0xE8 8 + 4 * (if agn then 0 else p), leBytes 4 kept.length)]) }
    let g1 := if 4096 < cand.length then g0.truncated 1 else g0
    .ok (if lim ≤ j.kept + kept.length then g1.flag 2 else g1))

/-! ### Crop-and-resize (R216 to R218) -/

/-- Sample coordinate `i` of `n` between `a` and `b` (R216). -/
def SJob.sample (j : SJob) (a b : Int) (n i : Nat) : Int :=
  let d := fxSub b a
  if !(bit (j.f 0x56 1) 4) then
    fxSub (fxAdd a (fxShr ((2 * i + 1 : Nat) * Int.tdiv d n) 1)) 0x8000
  else if n = 1 then fxAdd a (fxShr d 1)
  else fxAdd a (sat32 (i * Int.tdiv d (n - 1 : Nat)))

/-- The fill value as an element. -/
def SJob.fill (j : SJob) : Nat := if j.cT = 3 then j.f 0x5C 4 else convOut j.cT (j.f 0x5C 4)

/-- An element of the crop's input map. -/
def SJob.pixelAt (j : SJob) (y x ch : Nat) : SEv Nat :=
  let e := elemBytes j.cT
  j.num (j.f 0x40 8 + ch / j.cB * j.f 0x4C 4 + y * j.f 0x48 4 + (x * j.cB + ch % j.cB) * e) e

/-- A quotient rounded to nearest, ties to even. -/
def divEven (a : Int) (d : Nat) : Int :=
  let q := a / (d : Int)
  let r := a - q * d
  if 2 * r < d then q else if (d : Int) < 2 * r then q + 1 else if q % 2 = 0 then q else q + 1

/-- Four neighbours blended (R217 step 3): v00, v01, v10, v11 with the fractions of x and y. -/
def SJob.blend (j : SJob) (fx fy a b c d : Nat) : Nat :=
  if j.cT = 0 then
    let s := signed 8 a * ((65536 - fx) * (65536 - fy) : Nat) + signed 8 b * (fx * (65536 - fy) : Nat)
      + signed 8 c * ((65536 - fx) * fy : Nat) + signed 8 d * (fx * fy : Nat)
    narrow 8 (fxClamp (-128) 127 (divEven s (2 ^ 32)))
  else
    let w (n : Nat) : Nat := fRoundInt f32 n (-16) false
    let v (x : Nat) : Nat := fPack f32 (fUnpack (elemFmt j.cT) x)
    let row (x y : Nat) : Nat := fAdd (fMul (v x) (w (65536 - fx))) (fMul (v y) (w fx))
    let r := fAdd (fMul (row a b) (w (65536 - fy))) (fMul (row c d) (w fy))
    if j.cT = 3 then r else convOut j.cT r

/-- One output element (R217). -/
def SJob.cropElem (j : SJob) (sy sx : Int) (ch : Nat) : SEv Nat :=
  let mx : Int := ((j.f 0x52 2 - 1) * 65536 : Nat)
  let my : Int := ((j.f 0x50 2 - 1) * 65536 : Nat)
  if bit (j.f 0x56 1) 5 && (decide (sx < 0) || decide (mx < sx) || decide (sy < 0) || decide (my < sy)) then .ok j.fill
  else
    let x := (fxClamp 0 mx sx).toNat
    let y := (fxClamp 0 my sy).toNat
    if !(bit (j.f 0x56 1) 3) then j.pixelAt ((y + 0x8000) / 65536) ((x + 0x8000) / 65536) ch
    else
      let x0 := x / 65536
      let y0 := y / 65536
      let x1 := min (x0 + 1) (j.f 0x52 2 - 1)
      let y1 := min (y0 + 1) (j.f 0x50 2 - 1)
      (sevList [(y0, x0), (y0, x1), (y1, x0), (y1, x1)] (fun p => j.pixelAt p.1 p.2 ch)).then_ (fun v =>
        .ok (j.blend (x % 65536) (y % 65536) (v.getD 0 0) (v.getD 1 0) (v.getD 2 0) (v.getD 3 0)))

/-- The outputs of box `b`: each pixel of each block (R218). -/
def SJob.cropBox (j : SJob) (n : Nat) (b : SBox) : SEv (List (Nat × List Byte)) :=
  let e := elemBytes j.cT
  let oh := j.f 0x57 1
  let ow := j.f 0x58 1
  let sc := signed 32 (j.f 0x6C 4)
  let base := j.f 0x70 8 + n * j.f 0x80 4
  sevList (List.range (j.f 0x54 2 / j.cB * oh * ow)) (fun k =>
    let blk := k / (oh * ow)
    let i := k / ow % oh
    let x := k % ow
    let at_ := base + blk * j.f 0x7C 4 + i * j.f 0x78 4 + x * j.cPix
    if !b.valid then .ok (at_, (List.range j.cB).flatMap (fun _ => leBytes e j.fill))
    else
      let sx := j.sample (fxMul b.x0 sc) (fxMul b.x1 sc) ow x
      let sy := j.sample (fxMul b.y0 sc) (fxMul b.y1 sc) oh i
      (sevList (List.range j.cB) (fun c => j.cropElem sy sx (blk * j.cB + c))).then_ (fun vs =>
        .ok (at_, vs.flatMap (leBytes e))))

/-- 16 boxes of a crop, from box `p`; a fault stops the job at the box that met it. -/
def SJob.crop (j : SJob) (p : Nat) : SEv SSeg :=
  let n := min 16 (j.f 0x68 4 - p)
  let j' : SJob := { j with
    pos := p + n
    phase := if p + n = j.f 0x68 4 then 4 else 3 }
  (sevHalt (List.range n) ({ job := j' } : SSeg) (fun g k =>
    let a := j.f 0x60 8 + 32 * (p + k)
    (j.bytes 2 a 32).then_ (fun bs =>
      match boxOf bs with
      | none => .ok { g with faults := g.faults ++ [(Kind.siftDescInvalid, a)] }
      | some b => (j.cropBox (p + k) b).then_ (fun ws =>
          .ok { g with job := { g.job with kept := g.job.kept + 1 }, writes := g.writes ++ ws })))).then_ (fun x => .ok { x.1 with halt := x.2 })

/-- The segment a job is at. -/
def SJob.segment (j : SJob) : SEv SSeg :=
  match j.phase with
  | 1 => j.decodeRow j.pos
  | 2 => j.nms j.pos
  | 3 => j.crop j.pos
  | _ => .ok { job := j }

/-- The 64 bytes of the result record (Table 7.7). -/
def SJob.record (j : SJob) : List Byte :=
  leBytes 1 (b2n j.fault.isSome) ++ leBytes 1 j.flags ++ leBytes 2 (j.fault.getD 0) ++ leBytes 4 j.decoded ++ leBytes 4 j.kept
  ++ leBytes 4 j.candMax ++ leBytes 8 j.start ++ leBytes 8 (j.endAt.getD 0) ++ leBytes 8 (if j.fault.isSome then j.faultAddr else 0)
  ++ leBytes 24 0

end Sys2Proof.Machine
end

