-- ==== Sys2Proof/Machine/SifterJobs.lean ====
section
/-! DEFINITION. Sifter jobs (R201 to R204, R219 to R221, R247): submission, admission, segments with their reads and
writes, and completion. -/

namespace Sys2Proof.Machine

/-- Sifter `k`. -/
def sifAt (s : State) (k : Nat) : Sif := s.sif.getD k {}
/-- Sifter `k` replaced. -/
def setSif (s : State) (k : Nat) (x : Sif) : State := { s with sif := s.sif.set k x }
/-- A job of sifter `k` in progress changed by `f`. -/
def modJob (s : State) (k id : Nat) (f : SJob → SJob) : State :=
  setSif s k { sifAt s k with jobs := (sifAt s k).jobs.map (fun j => if j.id = id then f j else j) }
/-- The unit identifier of sifter `k`. -/
def sifUnit (k : Nat) : Nat := 0x2C8 + k
/-- Jobs of sifter `k`, queued and in progress. -/
def sifLoad (s : State) (k : Nat) : Nat := (sifAt s k).queue.length + (sifAt s k).jobs.length
/-- Whether partition `p` has a job at sifter `k` (PART_BUSY). -/
def sifBusy (s : State) (k p : Nat) : Bool := ((sifAt s k).queue ++ (sifAt s k).jobs).any (fun j => decide (j.rq.part = p))

/-- Whether a sifter has failed bring-up BIST and is out of service (R517). -/
def sifOut (s : State) (k : Nat) : Bool := bit s.ckr.bistUnits (8 + k)

/-- The sifter that a target stand names: itself, or for 4, and for the stand of a failed sifter, the one in service with the
fewest jobs, lowest first (R202, R517). -/
def sifChoice (s : State) (stand : Nat) : Nat :=
  if stand < 4 ∧ sifOut s stand = false then stand
  else
    let l := (List.range 4).filter (fun k => !(sifOut s k))
    l.foldl (fun b k => if sifLoad s k < sifLoad s b then k else b) (l.headD 0)

/-! ### Accesses of a partition outside its tiles -/

/-- The unit and memory request word for a tile address of a partition, none where nothing serves it. -/
def partTarget (s : State) (part addr : Nat) : Option (Nat × MemWord) :=
  match windowOf s { bindings := [{ part := part }] } 0 addr 1 with
  | .remote vt off =>
    (match placeOf s part vt with
     | some p => some (p.unit, { space := 0, slot := p.slot, gen := p.gen, vtile := vt, off := off })
     | none => none)
  | .stand ph off => some (standUnit ph, { space := 1, off := 0x100000 * (ph % 16) + off })
  | .host iova => some (homeUnit s part, { space := 2, off := iova })
  | _ => none

/-- Bytes cut into naturally aligned pieces of 8 bytes, or of 1 where 8 do not fit. -/
def cutWrites (n a : Nat) (bs : List Byte) : List (Nat × List Byte) :=
  match n with
  | 0 => []
  | k + 1 =>
    if bs.isEmpty then []
    else
      let m := if a % 8 = 0 ∧ 8 ≤ bs.length then 8 else if a % 4 = 0 ∧ 4 ≤ bs.length then 4 else 1
      (a, bs.take m) :: cutWrites k (a + m) (bs.drop m)

/-! ### Stops and completion (R219 to R221) -/

/-- A record of a sifter: FAULT_ADDR and the descriptor address (R222). -/
def sifRaise (s : State) (k : Nat) (j : SJob) (kind addr : Nat) : State :=
  raise s kind (rqId (sifUnit k) 0) (some j.rq.part) addr j.desc

/-- A job stops at a fault that has been recorded: no further access; what is written stays. -/
def sifHalt (s : State) (k : Nat) (j : SJob) (kind addr : Nat) : State :=
  let s1 := modJob s k j.id (fun j => { j with phase := 4, fault := some kind, faultAddr := addr, lines := [] })
  if (sifAt s1 k).cur = some j.id then setSif s1 k { sifAt s1 k with cur := none } else s1

/-- A job stops at a fault. -/
def sifStop (s : State) (k : Nat) (j : SJob) (kind addr : Nat) : State := sifHalt (sifRaise s k j kind addr) k j kind addr

/-- Writes of a job leave as WRITE_WORD requests; an address that nothing serves stops the job there. -/
def sifWrites (s : State) (k : Nat) (j : SJob) (l : List (Nat × List Byte)) : State × Bool :=
  match l with
  | [] => (s, true)
  | (a, bs) :: r =>
    match partTarget s j.rq.part a with
    | none => (sifStop s k j Kind.siftAddressInvalid a, false)
    | some (u, m) =>
      sifWrites (sendReq s { unit := sifUnit k, part := j.rq.part, target := u, use := .siftWrite j.id a
                             body := .writeWord m (8 * bs.length) ⟨BitVec.ofNat 64 (leNat bs), false⟩ }) k j r

/-- Writes of byte strings. -/
def sifStores (s : State) (k : Nat) (j : SJob) (l : List (Nat × List Byte)) : State × Bool :=
  sifWrites s k j (l.flatMap (fun w => cutWrites w.2.length w.1 w.2))

/-- Whether writes of a job await their acknowledgement. -/
def sifWriting (s : State) (k id : Nat) : Bool :=
  s.outs.any (fun o => decide (o.unit = sifUnit k) && (match o.use with
    | .siftWrite n _ => decide (n = id)
    | _ => false))

/-- SIFT_DONE is set on the tile that hosts EVENT_VTILE, or its absence is recorded (R219). -/
def sifEvent (s : State) (k : Nat) (j : SJob) : State :=
  if !(bit (j.f 1 1) 0) then s
  else match placeOf s j.rq.part (j.f 2 2) with
  | some p => sendPosted s (rqId (sifUnit k) 0) p.unit j.rq.part (.eventSet 8)
  | none => sifRaise s k j Kind.siftAddressInvalid 0

/-- The job completes: its submitter learns it, then the event, and the job leaves (R219). -/
def sifFinish (s : State) (k : Nat) (j : SJob) : State :=
  let x := sifAt s k
  let s1 := setSif s k { x with
    jobs := x.jobs.filter (fun y => y.id != j.id)
    done := if j.fault.isNone then (x.done + 1) % 2 ^ 32 else x.done
    faulted := if j.fault.isSome then (x.faulted + 1) % 2 ^ 32 else x.faulted }
  let o : OutReq := { unit := sifUnit k, part := j.rq.part, use := .siftDone j.id }
  let s2 := match bridgeOf (j.rq.src / 4) with
    | some b => sendReq s1 { o with target := bridgeUnit b
                                    body := .cplPost (j.ref / 2 ^ 32) (j.ref % 2 ^ 32) (if j.fault.isSome then 3 else 0) (j.fault.getD 0) }
    | none => sendReq s1 { o with target := 0x301
                                  body := .complete j.ref (match j.fault with
                                    | some f => 2 ^ 31 + 2 ^ 16 * f
                                    | none => 0) }
  sifEvent s2 k j

/-- A job whose result record has been acknowledged, or has none, completes. -/
def sifSettle (s : State) (k id : Nat) : State :=
  match (sifAt s k).jobs.find? (fun j => decide (j.id = id)) with
  | some j => if j.phase = 5 ∧ !(sifWriting s k id) then sifFinish s k j else s
  | none => s

/-- A result record that nothing serves: the access is refused like another, and the job completes as faulted without it (R220, R221). -/
def sifNoResult (s : State) (k : Nat) (j : SJob) : State :=
  sifSettle (modJob (sifRaise s k j Kind.siftAddressInvalid j.result) k j.id (fun y =>
    { y with phase := 5, fault := some (y.fault.getD Kind.siftAddressInvalid), faultAddr := if y.fault.isSome then y.faultAddr else j.result })) k j.id

/-- END of a job that is about to write its result record: the time of its last output acknowledgement, a free value where it wrote
nothing (Table 7.7). -/
def sifEndAt (s : State) (j : SJob) : Nat × State :=
  match j.endAt with
  | some t => (t, s)
  | none => freeTake s

/-- SIFT_JOB_COMPLETE: once every output write is acknowledged, the result record is written and the job completes. -/
def siftJobComplete (s : State) (k : Nat) : State :=
  if !(working s) then s
  else match (sifAt s k).jobs.find? (fun j => decide (j.phase = 4) && !(sifWriting s k j.id)) with
  | none => s
  | some j =>
    if !j.resultOk then sifSettle (modJob s k j.id (fun j => { j with phase := 5 })) k j.id
    else if (partTarget s j.rq.part j.result).isNone then sifNoResult s k j
    else
      let (e, s0) := sifEndAt s j
      let j1 : SJob := { j with endAt := some e, phase := 5 }
      sifSettle (sifStores (modJob s0 k j.id (fun _ => j1)) k j1 [(j.result, j1.record)]).1 k j.id

/-! ### Segments (R203) -/

/-- A line that an evaluation needs is asked for, unless it is already. -/
def sifAsk (s : State) (k : Nat) (j : SJob) (l : Nat) : State :=
  if s.outs.any (fun o => decide (o.unit = sifUnit k) && decide (o.use = .siftRead j.id l)) then s
  else match partTarget s j.rq.part l with
  | none => sifStop s k j Kind.siftAddressInvalid l
  | some (u, m) => sendReq s { unit := sifUnit k, part := j.rq.part, target := u, use := .siftRead j.id l, body := .readLine m }

/-- The candidate store's stored error is met by a suppression pass (R221): true where the job stops. -/
def meetSifErr (s : State) (k : Nat) (j : SJob) : State × Bool :=
  let x := sifAt s k
  match x.err with
  | 0 => (s, false)
  | 1 => (sifRaise (setSif s k { x with err := 0, corrected := (x.corrected + 1) % 2 ^ 16 }) k j Kind.siftStoreCorrected 0, false)
  | _ => (sifStop (setSif s k { x with err := 0, uncorrected := (x.uncorrected + 1) % 2 ^ 16 }) k j Kind.siftStoreUncorrectable 0, true)

/-- The segment under way runs as far as the lines at hand allow; at its end the job goes to the back of the round. -/
def sifRun (s : State) (k : Nat) (j : SJob) : State :=
  match j.segment with
  | .need l => sifAsk (setSif s k { sifAt s k with cur := some j.id }) k j l
  | .bad kind a => sifStop s k j kind a
  | .ok g =>
    let (s1, stop) := if j.phase = 2 then meetSifErr s k j else (s, false)
    if stop then s1
    else
      let s2 := g.faults.foldl (fun s f => sifRaise s k j f.1 f.2) s1
      let (s3, ok) := sifStores s2 k j g.writes
      if !ok then s3
      else match g.halt with
      | some (kind, a) => sifStop (modJob s3 k j.id (fun _ => g.job)) k j kind a
      | none =>
        let x := sifAt s3 k
        setSif s3 k { x with cur := none, jobs := x.jobs.filter (fun y => y.id != j.id) ++ [{ g.job with lines := [] }] }

/-- Whether a job may begin a segment: a suppression of its own decode waits for the decode's writes (R212). -/
def sifReady (s : State) (k : Nat) (j : SJob) : Bool :=
  decide (1 ≤ j.phase) && decide (j.phase ≤ 3) && !(decide (j.phase = 2) && decide (j.op = 3) && decide (j.pos = 0) && sifWriting s k j.id)

/-- SIFT_SEGMENT: the sifter runs one segment of the next job in the round; in a slice it holds at the boundary. -/
def siftSegment (s : State) (k : Nat) : State :=
  if !(working s) then s
  else
    let x := sifAt s k
    match x.cur with
    | some id =>
      (match x.jobs.find? (fun j => decide (j.id = id)) with
       | some j => sifRun s k j
       | none => setSif s k { x with cur := none })
    | none =>
      if (sliceLeft s (sifUnit k)).isSome then s
      else match x.jobs.find? (sifReady s k) with
      | some j => sifRun s k j
      | none => s

/-! ### Admission (R203, R204, R220) -/

/-- The lines of a job's descriptor. -/
def SJob.descLines (j : SJob) : List Nat := (List.range 4).map (fun i => j.desc + 64 * i)

/-- The descriptor is at hand: it is checked, and the job begins or stops. -/
def sifCheck (s : State) (k : Nat) (j0 : SJob) : State :=
  match j0.bytes 4 j0.desc 256 with
  | .need l => sifAsk s k j0 l
  | .bad kind a => sifStop s k j0 kind a
  | .ok bs =>
    let j1 : SJob := { j0 with raw := bs, lines := [] }
    let j : SJob := { j1 with resultOk := j1.resultFits }
    let s1 := modJob s k j.id (fun _ => j)
    match j.check with
    | some (kind, a) => sifStop s1 k j kind a
    | none => modJob s1 k j.id (fun j => { j with phase := if j.op = 4 then 3 else if j.op = 2 then 2 else 1 })

/-- SIFT_ADMIT: the oldest queued job whose partition has none in progress is admitted, and its descriptor is fetched. -/
def siftAdmit (s : State) (k : Nat) : State :=
  let x := sifAt s k
  if !(working s) || (sliceLeft s (sifUnit k)).isSome || decide (4 ≤ x.jobs.length) then s
  else match x.queue.find? (fun j => !(x.jobs.any (fun y => decide (y.rq.part = j.rq.part)))) with
  | none => s
  | some j =>
    let j' : SJob := { j with start := now s }
    let s1 := setSif s k { x with queue := x.queue.filter (fun y => y.id != j.id), jobs := x.jobs ++ [j'] }
    if j.desc % 64 ≠ 0 then sifStop s1 k j' Kind.siftDescInvalid 0
    else if !(regionOk (j.desc, 256)) then sifStop s1 k j' Kind.siftAddressInvalid j.desc
    else j'.descLines.foldl (fun s l => match (sifAt s k).jobs.find? (fun y => decide (y.id = j.id)) with
      | some y => if y.phase = 0 then sifAsk s k y l else s
      | none => s) s1

/-! ### Answers to a sifter's requests -/

/-- A line that sifter `k` asked for arrives. -/
def sifData (s : State) (o : OutReq) (id line : Nat) (data : List Byte) (poison : Nat) : State :=
  let k := o.unit - 0x2C8
  match (sifAt s k).jobs.find? (fun j => decide (j.id = id)) with
  | none => s
  | some j =>
    if 4 ≤ j.phase then s
    else
      let j' : SJob := { j with lines := SMap.put ([], 0) j.lines line (data, poison) }
      let s1 := modJob s k id (fun _ => j')
      if j.phase = 0 then (if j'.descLines.all (fun l => !(SMap.get ([], 0) j'.lines l).1.isEmpty) then sifCheck s1 k j' else s1)
      else if (sifAt s1 k).cur = some id then sifRun s1 k j'
      else s1

/-- A write of sifter `k` is acknowledged. -/
def sifAcked (s : State) (o : OutReq) (id : Nat) : State :=
  let k := o.unit - 0x2C8
  sifSettle (modJob s k id (fun j => if j.phase = 5 then j else { j with endAt := some (now s) })) k id

/-- An access of a sifter fails with the record that `rec` makes: the job stops at it (R221). -/
def sifFail (s : State) (o : OutReq) (id kind addr : Nat) (rec : State → SJob → State) : State :=
  let k := o.unit - 0x2C8
  match (sifAt s k).jobs.find? (fun j => decide (j.id = id)) with
  | none => s
  | some j =>
    if j.phase = 5 then
      sifSettle (modJob (rec s j) k id (fun j => { j with fault := some (j.fault.getD kind) })) k id
    else if j.fault.isSome then sifSettle s k id
    else sifHalt (rec s j) k j kind addr

/-- An access of a sifter is refused. -/
def sifRefused (s : State) (o : OutReq) (id kind addr : Nat) : State :=
  sifFail s o id kind addr (fun s j => sifRaise s (o.unit - 0x2C8) j kind addr)

/-! ### Submission (R201, R202, R247) -/

/-- SIFT_SUBMIT: a job is queued, or refused for lack of queue or share. -/
def siftSubmit (s : State) (k : Nat) (rq : Rq) (desc stand ref : Nat) : State :=
  if !(working s) || sifOut s k then s
  else arriveReq s (sifUnit k) rq (.siftSubmit desc stand ref) (fun s =>
    let x := sifAt s k
    let mine := ((x.queue ++ x.jobs).filter (fun j => decide (j.rq.part = rq.part))).length
    if 32 ≤ sifLoad s k ∨ 8 ≤ mine then respond s (sifUnit k) rq (.result (resultWord true 0 0x09))
    else
      respond (setSif s k { x with queue := x.queue ++ [{ id := x.nextId, rq := rq, ref := ref, desc := desc }], nextId := x.nextId + 1 })
        (sifUnit k) rq (.result (resultWord false 0 0)))

/-- SIFTER_DISPATCH: the best eligible sifter record of a store is offered to its sifter as a job (R247). -/
def sifterDispatch (s : State) (k : Nat) : State :=
  let unit := if k = 4 then 0x301 else 0x2C4 + k
  if !(working s) || decide (4 < k) || (sliceLeft s unit).isSome then s
  else match bestOf s ((candidates s k 2).filter (fun i => inflightOk s (recAt s i) && !(recAt s i).offered && !(recHeld s 4 i))) with
  | none => s
  | some i =>
    let r := recAt s i
    sendReq (setRec s i { r with offered := true })
      { unit := unit, part := r.part, target := sifUnit (sifChoice s r.siftStand), use := .siftRec i
        body := .siftSubmit r.arg.toNat r.siftStand (handleOf s i) }

/-- The sifter's answer to an offered record: accepted, it is DISPATCHED; refused, it stays READY (R247). -/
def sifterAnswer (s : State) (o : OutReq) (i : Nat) (ok : Bool) : State :=
  let r := recAt s i
  let named := match o.body with
    | .siftSubmit _ _ h => decide (h = handleOf s i)
    | _ => false
  if r.state ≠ 2 || !r.offered || !named then s
  else if !ok then setRec s i { r with offered := false }
  else
    let s1 := leaveStores s i
    spoor (setRec s1 i { recAt s1 i with state := 3, offered := false, tile := o.target, slotted := false }) i 4
      (if o.unit = 0x301 then 0x2C4 + (o.target - 0x2C8) else o.unit) 0 0 (o.target + 2 ^ 13)

/-- The sifters' return from Safe (R480): every job is discarded without a result record. -/
def sifSafe (s : State) : State :=
  { s with sif := s.sif.map (fun x => { x with queue := [], jobs := [], cur := none }) }

end Sys2Proof.Machine
end

