-- ==== Sys2Proof/Machine/Rings.lean ====
section
/-! DEFINITION. Ring sets (chapter 14): doorbell pages, enabling and disabling, descriptor fetch and the sequence check,
completion entries, moderation, and what discards a ring set's work. -/

namespace Sys2Proof.Machine

/-- Device ring set `rs`. -/
def ringAt (s : State) (rs : Nat) : RingSet := SMap.get {} s.rings rs
/-- A ring set replaced. -/
def setRing (s : State) (rs : Nat) (r : RingSet) : State := { s with rings := SMap.put {} s.rings rs r }
/-- A ring set changed by `f`. -/
def modRing (s : State) (rs : Nat) (f : RingSet → RingSet) : State := setRing s rs (f (ringAt s rs))
/-- The requester identifier of a ring set's function (R24). -/
def ringSrc (r : RingSet) : Nat := rqId (bridgeUnit r.port) (if r.fn = 0 then 0 else 1)
/-- Whether a bridge works: the work units run and it is in no slice (R432, R433). -/
def bridgeRuns (s : State) (b : Nat) : Bool := working s && (sliceLeft s (bridgeUnit b)).isNone
/-- A partition is ARMED (R409, R455). -/
def armed (s : State) (p : Nat) : Bool := decide ((s.prt.parts.getD p {}).state = 1)
/-- The ring set that a doorbell page serves (R381). -/
def pageRing (s : State) (b fn page : Nat) : Option Nat :=
  (s.rings.find? (fun x => x.2.alloc && decide (x.2.port = b) && decide (x.2.fn = fn) && decide (x.2.loc = page))).map Prod.fst

/-! ### Descriptors (R403, R410, Tables 14.2 to 14.4) -/

/-- A field of `n` bytes at an offset of a descriptor. -/
def RDesc.f (d : RDesc) (off n : Nat) : Nat := leNat ((d.raw.drop off).take n)
/-- OPCODE. -/
def RDesc.op (d : RDesc) : Nat := d.f 0 1
/-- SEQ. -/
def RDesc.seq (d : RDesc) : Nat := d.f 4 4
/-- FENCE. -/
def RDesc.fence (d : RDesc) : Bool := bit (d.f 1 1) 0
/-- NOHOLD. -/
def RDesc.nohold (d : RDesc) : Bool := bit (d.f 1 1) 1
/-- IRQ. -/
def RDesc.irq (d : RDesc) : Bool := bit (d.f 1 1) 2
/-- A LAUNCH that asks for a retirement entry. -/
def RDesc.wantsHost (d : RDesc) : Bool := decide (d.op = 2) && bit (d.f 0x1E 1) 0

/-- The body bytes an opcode uses, as offset and size (Table 14.4); none for a reserved opcode. -/
def bodyFields (op : Nat) (count : Nat) : Option (List (Nat × Nat)) :=
  match op with
  | 0x01 | 0x06 => some []
  | 0x02 => some [(0x08, 8), (0x10, 8), (0x18, 2), (0x1A, 2), (0x1C, 2), (0x1E, 1), (0x20, 4), (0x24, 4)]
  | 0x03 => some ((0x08, 1) :: ((List.range 3).filter (fun i => decide (i < count))).map (fun i => (0x10 + 16 * i, 16)))
  | 0x04 => some [(0x08, 4), (0x0C, 1)]
  | 0x05 => some [(0x08, 4), (0x0C, 1)]
  | 0x07 => some [(0x08, 2)]
  | 0x08 => some [(0x08, 8), (0x10, 1)]
  | 0x09 => some [(0x08, 8), (0x10, 1)]
  | 0x0A => some [(0x08, 2)]
  | 0x0B => some [(0x08, 8), (0x10, 8), (0x18, 4)]
  | 0x10 => some [(0x08, 2), (0x0C, 4), (0x10, 4), (0x18, 8)]
  | 0x11 => some [(0x08, 2), (0x0A, 1), (0x0B, 1), (0x10, 8), (0x18, 8), (0x20, 8)]
  | 0x18 => some [(0x08, 1), (0x10, 8)]
  | 0x19 => some [(0x08, 2), (0x10, 8)]
  | 0x1A => some [(0x08, 2), (0x0A, 1)]
  | 0x1B => some [(0x08, 1), (0x09, 1), (0x0A, 1), (0x0B, 1), (0x0C, 1), (0x10, 32)]
  | 0x1C => some [(0x08, 1), (0x09, 1), (0x10, 8)]
  | 0x1D => some [(0x08, 8), (0x10, 8), (0x18, 8)]
  | _ => none

/-- The offset of the first breach of R410: a reserved opcode, a reserved header field, an unused body byte. -/
def RDesc.breach (d : RDesc) : Option Nat :=
  match bodyFields d.op (d.f 8 1) with
  | none => some 0
  | some fs =>
    if 8 ≤ d.f 1 1 then some 1
    else if d.f 2 2 ≠ 0 then some 2
    else ((List.range 56).map (fun i => i + 8)).find? (fun a =>
      decide (d.f a 1 ≠ 0) && !(fs.any (fun f => decide (f.1 ≤ a) && decide (a < f.1 + f.2))))

/-- Whether R409 lets a descriptor be evaluated outside Operational or for a partition that is not armed. -/
def RDesc.always (d : RDesc) : Bool := decide (d.op = 1) || (decide (0x18 ≤ d.op) && decide (d.op ≤ 0x1D))

/-- A ring record (Table 16.2). -/
def ringRaise (s : State) (rs kind k seq : Nat) : State :=
  let r := ringAt s rs
  raise s kind (rqId (bridgeUnit r.port) 0) (some r.part) (rs + 2 ^ 10 * (k % 2 ^ r.sqLog2)) (seq + 2 ^ 32 * r.fn)

/-! ### Completion entries (R422 to R430) -/

/-- FAIL of a status (R424). -/
def statusFails (st : Nat) : Bool := !(decide (st = 0) || decide (st = 1) || decide (st = 4))

/-- The 32 bytes of an entry (Table 14.5). -/
def entryBytes (s : State) (r : RingSet) (seq op status : Nat) (retire : Bool) (value detail : Nat) : List Byte :=
  leBytes 4 seq ++ leBytes 1 op ++ leBytes 1 status
  ++ leBytes 1 (b2n (decide (r.cqPi / 2 ^ r.cqLog2 % 2 = 0)) + 2 * b2n retire + 4 * b2n (statusFails status)) ++ leBytes 1 0
  ++ leBytes 8 value ++ leBytes 4 detail ++ leBytes 4 r.sqCi ++ leBytes 8 (now s)

/-- An entry or message for a ring set that takes none is counted in DISCARDED_CPL. -/
def discardCpl (s : State) (b : Nat) : State :=
  setHif s b { hifAt s b with discardedCpl := ((hifAt s b).discardedCpl + 1) % 2 ^ 16 }

/-- The ring set's MSI-X message. -/
def ringSignal (s : State) (rs : Nat) : State :=
  let r := ringAt s rs
  signalVec (setRing s rs { r with pendN := 0, deadline := none }) r.port r.fn r.vector

/-- An entry has been written: it counts as pending, and the moderation conditions of R429 are tried. -/
def entryWritten (s : State) (rs : Nat) (irq : Bool) : State :=
  let r := ringAt s rs
  let r1 : RingSet := { r with
    writing := r.writing - 1
    pendN := r.pendN + 1
    deadline := some (r.deadline.getD (now s + 1600 * r.modTime)) }
  let s1 := setRing s rs r1
  if r.modCount ≠ 0 ∧ (r.modCount ≤ r1.pendN ∨ r.modTime = 0 ∨ irq = true) then ringSignal s1 rs else s1

/-- A descriptor read or entry write has failed (R430). -/
def ringHostError (s : State) (rs k seq : Nat) : State :=
  let r := ringAt s rs
  ringRaise (setRing s rs { r with state := 3, err := 1 }) rs Kind.ringHostError k seq

/-- A draining ring set with nothing accepted outstanding becomes DISABLED (R402). -/
def ringDrain (s : State) (rs : Nat) : State :=
  let r := ringAt s rs
  if r.state = 2 ∧ r.cur.isNone ∧ r.longs.isEmpty ∧ r.fetching = false ∧ r.writing = 0 then
    setRing s rs { r with state := 0, owed := 0, retire := [] }
  else s

/-- A host access of a ring set by its function, with the partition's PASID where CFG.PASID is 1 (R401). -/
def ringHost (s : State) (r : RingSet) (iova len : Nat) (wr : Bool) (data : List Byte) (use : HUse) : State × HStart :=
  hostStart s r.port { fn := r.fn, part := r.part, pasid := if r.pasid then some (fnAt s r.port r.fn).pasid else none
                       iova := iova, len := len, wr := wr, data := data, use := use }

/-- An entry is written into its reserved slot, or discarded where the ring set takes none. -/
def postEntry (s : State) (rs seq op status : Nat) (retire : Bool) (value detail : Nat) (irq : Bool) : State :=
  let r := ringAt s rs
  if r.state = 0 ∨ r.state = 3 then discardCpl s r.port
  else
    let s1 := setRing s rs { r with cqPi := (r.cqPi + 1) % 2 ^ 32, owed := r.owed - 1, writing := r.writing + 1 }
    match ringHost s1 r (r.cqBase + 32 * (r.cqPi % 2 ^ r.cqLog2)) 32 true (entryBytes s r seq op status retire value detail) (.entry rs irq) with
    | (s2, .pending) => s2
    | (s2, .done) => entryWritten s2 rs irq
    | (s2, .failed _) => ringHostError (modRing s2 rs (fun r => { r with writing := r.writing - 1 })) rs 0 seq

/-- An evaluation's status joins the 64 most recent (R404). -/
def noteRecent (r : RingSet) (seq st : Nat) : RingSet := { r with recent := ((seq, st) :: r.recent).take 64 }

/-! ### The sequence check and the evaluations without effect (R404 to R410, R431) -/

/-- The current descriptor completes without an evaluation of its own. -/
def settleEnd (s : State) (rs : Nat) (d : RDesc) (st detail : Nat) (evald : Bool) : State :=
  let s1 := modRing s rs (fun r =>
    let x : RingSet := { r with cur := none }
    if evald then noteRecent x d.seq st else x)
  postEntry s1 rs d.seq d.op st false 0 detail d.irq

/-- The checks that follow an expected SEQ: R409, R410; otherwise the descriptor awaits its evaluation. -/
def settleFields (s : State) (rs : Nat) (d : RDesc) : State :=
  let r := ringAt s rs
  if !(d.always) && !(decide (s.clr.mode = .operational) && armed s r.part) then settleEnd s rs d 0x16 0 true
  else match d.breach with
  | some a => settleEnd (ringRaise s rs Kind.ringDescInvalid d.k d.seq) rs d 0x11 a true
  | none => modRing s rs (fun r => { r with cur := some { d with phase := 1 }, owed := r.owed + b2n d.wantsHost })

/-- The current descriptor meets a stored error of the buffer, then its SEQ is compared (R404, R431). -/
def settleSeq (s0 : State) (rs : Nat) (d : RDesc) : State :=
  let s := modRing s0 rs (fun r => { r with owed := r.owed + 1, bufErr := 0 })
  let r := ringAt s rs
  let e := (ringAt s0 rs).bufErr
  if 2 ≤ e then settleEnd (modRing (ringRaise s rs Kind.ringBufferUncorrectable d.k d.seq) rs (fun r => { r with err := 2 })) rs d 3 0x166 false
  else
    let s1 := if e = 1 then ringRaise s rs Kind.ringBufferCorrected d.k d.seq else s
    let x := (d.seq + 2 ^ 32 - r.nextSeq) % 2 ^ 32
    if x = 0 then settleFields (modRing s1 rs (fun r => { r with nextSeq := (r.nextSeq + 1) % 2 ^ 32 })) rs d
    else if 2 ^ 31 ≤ x then
      let det := match r.recent.find? (fun e => decide (e.1 = d.seq)) with
        | some e => 256 + e.2
        | none => 0
      settleEnd (modRing s1 rs (fun r => { r with dups := (r.dups + 1) % 2 ^ 16 })) rs d 1 det false
    else settleEnd (modRing (ringRaise s1 rs Kind.ringSeqGap d.k d.seq) rs (fun r => { r with err := 4 })) rs d 0x11 4 false

/-- The descriptor under evaluation goes as far as it may: FENCE waits for every earlier entry (R407), and 16 long
descriptors hold the set (R406). -/
def ringSettle (s : State) (rs : Nat) : State :=
  let r := ringAt s rs
  match r.cur with
  | none => s
  | some d =>
    if !(bridgeRuns s r.port) || decide (r.state ≠ 1) || decide (d.phase ≠ 0) then s
    else if d.fence && !(r.longs.isEmpty && decide (r.writing = 0)) then s
    else if 16 ≤ r.longs.length then s
    else settleSeq s rs d

/-- A descriptor completes: its entry, then what waited for it. -/
def ringComplete (s : State) (rs k st value detail : Nat) : State :=
  let r := ringAt s rs
  match ((match r.cur with
      | some d => [d]
      | none => []) ++ r.longs).find? (fun d => decide (d.k = k)) with
  | none => s
  | some d =>
    let r1 : RingSet := { r with
      cur := match r.cur with
        | some c => if c.k = k then none else some c
        | none => none
      longs := r.longs.filter (fun x => x.k != k)
      owed := if d.wantsHost && statusFails st then r.owed - 1 else r.owed }
    ringSettle (ringDrain (postEntry (setRing s rs (noteRecent r1 d.seq st)) rs d.seq d.op st false value detail d.irq) rs) rs

/-- A descriptor is dropped without an entry (R385, R402). -/
def ringDiscard (s : State) (rs : Nat) : State :=
  modRing s rs (fun r => match r.cur with
    | some d => { r with cur := none, owed := r.owed - (if d.phase = 0 then 0 else 1 + b2n d.wantsHost) }
    | none => r)

/-! ### Fetch (R427, R401) -/

/-- Free completion slots not reserved. -/
def freeSlotsCq (r : RingSet) : Nat := 2 ^ r.cqLog2 - (r.cqPi + 2 ^ 32 - r.cqCi) % 2 ^ 32 - r.owed

/-- A descriptor has been read: it is copied into the bridge, SQ_CI advances, and its checks are made. A poisoned one counts
as a failed read. -/
def ringFetched (s : State) (rs : Nat) (res : HRes) : State :=
  let r := ringAt s rs
  let s1 := setRing s rs { r with fetching := false }
  if r.fetching = false then s
  else if r.state ≠ 1 then ringDrain s1 rs
  else match res with
  | .ok data poison =>
    if poison ≠ 0 then ringHostError s1 rs r.sqCi 0
    else ringSettle (modRing s1 rs (fun x => { x with sqCi := (r.sqCi + 1) % 2 ^ 32, cur := some { k := r.sqCi, raw := data } })) rs
  | .fail _ => ringHostError s1 rs r.sqCi 0

/-- DESCRIPTOR_FETCH: the next descriptor is read once R427 holds. -/
def descriptorFetch (s : State) (rs : Nat) : State :=
  let r := ringAt s rs
  if !(bridgeRuns s r.port) || decide (r.state ≠ 1) || decide (r.sqPi = r.sqCi) || r.cur.isSome || r.fetching
      || decide (16 ≤ r.longs.length) || decide (freeSlotsCq r < 2) then s
  else
    match ringHost (setRing s rs { r with fetching := true }) r (r.sqBase + 64 * (r.sqCi % 2 ^ r.sqLog2)) 64 false [] (.desc rs) with
    | (s1, .failed k) => ringFetched s1 rs (.fail k)
    | (s1, _) => s1

/-! ### Doorbell pages (R395 to R402) -/

/-- A doorbell value refused (R398); its record has no ADDR (R462). -/
def doorbellInvalid (s : State) (rs : Nat) : State :=
  ringRaise (modRing s rs (fun r => { r with dbInvalid := (r.dbInvalid + 1) % 2 ^ 16 })) rs Kind.ringDoorbellInvalid 0 0

/-- A doorbell value behind the current one is counted. -/
def doorbellStale (s : State) (rs : Nat) : State := modRing s rs (fun r => { r with dbStale := (r.dbStale + 1) % 2 ^ 16 })

/-- A write of SQ_PI (R398). -/
def sqPiWrite (s : State) (rs v : Nat) : State :=
  let r := ringAt s rs
  let d := (v + 2 ^ 32 - r.sqPi) % 2 ^ 32
  let free := 2 ^ r.sqLog2 - (r.sqPi + 2 ^ 32 - r.sqCi) % 2 ^ 32
  if r.state = 0 ∨ r.state = 3 ∨ d = 0 then s
  else if d ≤ free then setRing s rs { r with sqPi := v }
  else if 2 ^ 31 ≤ d then doorbellStale s rs
  else doorbellInvalid s rs

/-- A write of CQ_CI (R398). -/
def cqCiWrite (s : State) (rs v : Nat) : State :=
  let r := ringAt s rs
  let d := (v + 2 ^ 32 - r.cqCi) % 2 ^ 32
  let free := (r.cqPi + 2 ^ 32 - r.cqCi) % 2 ^ 32
  if r.state = 0 ∨ r.state = 3 ∨ d = 0 then s
  else if d ≤ free then setRing s rs { r with cqCi := v }
  else if 2 ^ 31 ≤ d then doorbellStale s rs
  else doorbellInvalid s rs

/-- Whether an enable is accepted (R400). -/
def enableOk (s : State) (r : RingSet) : Bool :=
  let vecs := if r.fn = 0 then 64 else (fnAt s r.port r.fn).vecs
  decide (4 ≤ r.sqLog2) && decide (r.sqLog2 ≤ 16) && decide (4 ≤ r.cqLog2) && decide (r.cqLog2 ≤ 16)
  && decide (r.sqBase % 4096 = 0) && decide (r.cqBase % 4096 = 0) && decide (r.sqBase < 2 ^ 44) && decide (r.cqBase < 2 ^ 44)
  && decide (1 ≤ r.vector) && decide (r.vector + 1 ≤ vecs) && (!r.pasid || (fnAt s r.port r.fn).pasidEn)

/-- A write of 1 to CTRL.ENABLE (R400). -/
def ringEnable (s : State) (rs : Nat) : State :=
  let r := ringAt s rs
  if r.state ≠ 0 then s
  else if enableOk s r then
    setRing s rs { r with sqPi := 0, sqCi := 0, cqPi := 0, cqCi := 0, nextSeq := r.seqBase, state := 1, owed := 0, retire := [] }
  else ringRaise (setRing s rs { r with err := 3 }) rs Kind.ringConfigInvalid 0 0

/-- CANCEL for a waiting LOCK (R402). -/
def sendCancel (s : State) (r : RingSet) (d : RDesc) : State :=
  if d.op = 9 then
    sendReq s { unit := bridgeUnit r.port, sub := ringSrc r % 4, part := r.part, target := 0x304, use := .other
                body := .lockOp { op := .cancel, word := d.f 8 8 % 4096 } }
  else s

/-- A write of 0 to CTRL.ENABLE (R402). -/
def ringDisable (s : State) (rs : Nat) : State :=
  let r := ringAt s rs
  if r.state ≠ 1 ∧ r.state ≠ 3 then s
  else
    let s1 := setRing s rs { r with state := 2 }
    let held := match r.cur with
      | some d => decide (d.phase ≠ 2)
      | none => false
    let s2 := if held then ringDiscard s1 rs else s1
    let s3 : State := if held then { s2 with outs := s2.outs.filter (fun o => !(match o.use with
        | .desc x k => decide (x = rs) && decide (some k = r.cur.map RDesc.k)
        | _ => false)) } else s2
    ringDrain (r.longs.foldl (fun s d => sendCancel s r d) s3) rs

/-- The 64-bit word of a doorbell page that holds an offset. -/
def pageWord (r : RingSet) (w : Nat) : Nat :=
  match w with
  | 0 => r.sqPi + 2 ^ 32 * r.cqCi
  | 1 => r.sqCi + 2 ^ 32 * r.cqPi
  | 2 => r.sqBase
  | 3 => r.cqBase
  | 4 => r.sqLog2 + 2 ^ 8 * r.cqLog2 + 2 ^ 16 * r.vector + 2 ^ 27 * b2n r.pasid
  | 5 => r.modCount + 2 ^ 16 * r.modTime
  | 6 => r.seqBase
  | 7 => b2n (decide (r.state = 1) || decide (r.state = 3))
  | 8 => b2n r.refused + 2 ^ 36 * r.owed + 2 ^ 53 * r.longs.length + 2 ^ 58 * r.err + 2 ^ 62 * r.state
  | 9 => r.nextSeq
  | _ => 0

/-- A refused write (R396). -/
def pageRefuse (s : State) (rs : Nat) : State := modRing s rs (fun r => { r with refused := true })

/-- A write of a whole 64-bit word of a page, `half` saying which halves the access covers: 1 low, 2 high, 3 both. -/
def pageWrite (s : State) (rs w half v : Nat) : State :=
  let r := ringAt s rs
  let idle := decide (r.state = 0)
  match w with
  | 0 =>
    let s1 := if half = 2 then s else sqPiWrite s rs (v % 2 ^ 32)
    if half = 1 then s1 else cqCiWrite s1 rs (v / 2 ^ 32)
  | 2 => if !idle || decide (v % 2 ^ 44 % 4096 ≠ 0) then pageRefuse s rs else setRing s rs { r with sqBase := v % 2 ^ 44 }
  | 3 => if !idle || decide (v % 2 ^ 44 % 4096 ≠ 0) then pageRefuse s rs else setRing s rs { r with cqBase := v % 2 ^ 44 }
  | 4 =>
    if half = 2 then s
    else if !idle || !(decide (4 ≤ bits v 4 0) && decide (bits v 4 0 ≤ 16) && decide (4 ≤ bits v 12 8) && decide (bits v 12 8 ≤ 16)) then pageRefuse s rs
    else setRing s rs { r with sqLog2 := bits v 4 0, cqLog2 := bits v 12 8, vector := bits v 26 16, pasid := bit v 27 }
  | 5 => if half = 2 then s else setRing s rs { r with modCount := bits v 15 0, modTime := bits v 31 16 }
  | 6 => if half = 2 then s else if !idle then pageRefuse s rs else setRing s rs { r with seqBase := v % 2 ^ 32 }
  | 7 => if half = 2 then s else if bit v 0 then ringEnable s rs else ringDisable s rs
  | 8 => if half = 2 ∨ !(bit v 0) then s else setRing s rs { r with refused := false }
  | _ => s

/-- A BAR2 write of 4 or 8 bytes, naturally aligned (R395): the other half of the word keeps its value. -/
def pageStore (s : State) (b : Nat) (x : BarWrite) : State :=
  match pageRing s b x.fn x.page with
  | none => s
  | some rs =>
    let old := pageWord (ringAt s rs) (x.off / 8)
    if x.size = 8 ∧ x.off % 8 = 0 then pageWrite s rs (x.off / 8) 3 (x.value % 2 ^ 64)
    else if x.size = 4 ∧ x.off % 8 = 0 then pageWrite s rs (x.off / 8) 1 (x.value % 2 ^ 32 + 2 ^ 32 * (old / 2 ^ 32))
    else if x.size = 4 ∧ x.off % 8 = 4 then pageWrite s rs (x.off / 8) 2 (old % 2 ^ 32 + 2 ^ 32 * (x.value % 2 ^ 32))
    else s

/-- A BAR2 write arrives: discarded in Safe, held in a slice of the bridge with the last value of a register winning, and
otherwise judged (R395, R432, R433). -/
def barWrite (s : State) (b : Nat) (x : BarWrite) : State :=
  if !(working s && ideOpen s b 0) then s
  else if (sliceLeft s (bridgeUnit b)).isSome then
    setHif s b { hifAt s b with latched := (hifAt s b).latched.filter (fun y =>
      !(decide (y.fn = x.fn) && decide (y.page = x.page) && decide (y.off = x.off) && decide (y.size = x.size))) ++ [x] }
  else pageStore s b x

/-- At the end of a bridge's slice the held writes are judged, moderation deadlines move by its length, and what waited goes
on (R432). -/
def bridgeResume (s : State) (b len : Nat) : State :=
  let l := (hifAt s b).latched
  let s1 : State := { setHif s b { hifAt s b with latched := [] } with rings := s.rings.map (fun x =>
    if x.2.port = b then (x.1, { x.2 with deadline := x.2.deadline.map (· + len) }) else x) }
  let s2 := l.foldl (fun s x => pageStore s b x) s1
  s2.rings.foldl (fun s x => ringSettle s x.1) s2

/-- MODERATION_TIMER_EXPIRY (R429). -/
def moderationTimer (s : State) (rs : Nat) : State :=
  let r := ringAt s rs
  match r.deadline with
  | some d => if bridgeRuns s r.port && decide (r.pendN ≠ 0) && decide (r.modCount ≠ 0) && decide (d ≤ now s) then ringSignal s rs else s
  | none => s

/-! ### Retirement and sifter completions (R411, R416, R428) -/

/-- CPL_POST: the entry of a retirement, or of a sifter's job, is written in its reserved slot; one that finds none is
discarded and counted. -/
def cplPost (s : State) (u : Nat) (rq : Rq) (rs handle status detail : Nat) : State :=
  match bridgeOf u with
  | none => s
  | some b =>
    if !(working s) then s
    else arriveReq s u rq (.cplPost rs handle status detail) (fun s => cachedReq s u rq (fun s =>
      let r := ringAt s rs
      let done (s : State) : Eval := { st := s, ans := some (.result (resultWord false 0 0)) }
      if rq.src / 4 = 0x301 then
        (match r.retire.find? (fun x => decide (x.1 = handle)) with
         | some x => done (ringDrain (postEntry (setRing s rs { r with retire := r.retire.erase x }) rs x.2 2 status true handle detail false) rs)
         | none => done (discardCpl s b))
      else
        (match r.longs.find? (fun d => decide (d.op = 8) && decide (d.seq = handle)) with
         | some d => done (ringComplete s rs d.k status 0 detail)
         | none => done s)))

/-! ### Withdrawal and resets (R385, R433) -/

/-- The work of a ring set is discarded without entries, and it becomes DISABLED with its indices zero; its configuration
is kept (R433). -/
def ringClear (r : RingSet) : RingSet :=
  { r with sqPi := 0, cqCi := 0, sqCi := 0, cqPi := 0, state := 0, owed := 0, cur := none, fetching := false, longs := []
           retire := [], pendN := 0, deadline := none, writing := 0 }

/-- A function reset: the reset values of Table 14.1 (R385). -/
def ringReset (r : RingSet) : RingSet :=
  { alloc := r.alloc, port := r.port, fn := r.fn, part := r.part, loc := r.loc, dups := r.dups, dbStale := r.dbStale, dbInvalid := r.dbInvalid }

/-- The copy engine of a bridge forgets the copies that no ring set holds any more. -/
def copyForget (s : State) (b : Nat) : State :=
  let h := hifAt s b
  let live := h.copies.filter (fun x => (ringAt s x.1).longs.any (fun d => decide (d.k = x.2)))
  setHif s b { h with copies := live, copyLeft := if live.head? = h.copies.head? then h.copyLeft else 0 }

/-- Ring sets that satisfy `p` are changed by `f`; requests and accesses made for them no longer have an owner. -/
def ringsApply (s : State) (p : RingSet → Bool) (f : RingSet → RingSet) : State :=
  let hit (rs : Nat) : Bool := p (ringAt s rs)
  let mine (o : OutReq) : Bool := match o.use with
    | .desc rs _ | .copyRead rs _ _ | .copyWrite rs _ _ | .codeRead rs _ _ => hit rs
    | _ => false
  let acc (a : HostAcc) : Bool := match a.use with
    | .desc rs | .entry rs _ => hit rs
    | _ => false
  let s1 : State := { s with
    rings := s.rings.map (fun x => if p x.2 then (x.1, f x.2) else x)
    outs := s.outs.filter (fun o => !(mine o))
    sendWait := s.sendWait.filter (fun o => !(mine o))
    hif := s.hif.map (fun h => { h with accs := h.accs.filter (fun a => !(acc a)) }) }
  copyForget (copyForget s1 0) 1

/-- The rings' return from Safe (R433). -/
def ringsSafe (s : State) : State := ringsApply s (fun _ => true) ringClear

end Sys2Proof.Machine
end

