-- ==== Sys2Proof/Machine/Trails.lean ====
section
/-! DEFINITION. Trails and the spoor trace (chapter 9): sequence numbers, held outputs, release in order, failed items,
and the trace hub with its destinations. -/

namespace Sys2Proof.Machine

/-! ### Trails (R260 to R266) -/

/-- Trail `t`. -/
def trailAt (s : State) (t : Nat) : Trail := SMap.get {} s.trl.trails t
/-- Trail `t` replaced. -/
def setTrail (s : State) (t : Nat) (x : Trail) : State := { s with trl := { s.trl with trails := SMap.put {} s.trl.trails t x } }
/-- Entries of the gate store that a partition has reserved. -/
def gateReserved (s : State) (p : Nat) : Nat :=
  ((s.trl.trails.filter (fun x => decide (x.2.part = p))).map (fun x => (x.2.items.map Item.outPer).sum)).sum
/-- Items outstanding on a partition's trails. -/
def gateItems (s : State) (p : Nat) : Nat :=
  ((s.trl.trails.filter (fun x => decide (x.2.part = p))).map (fun x => x.2.items.length)).sum
/-- Whether a partition is quiescent at the gate (R289). -/
def gateQuiet (s : State) (p : Nat) : Bool := decide (gateReserved s p = 0) && decide (gateItems s p = 0)

/-- ADDR and DETAIL of a gate record (Table 16.2). -/
def gateRaise (s : State) (kind part handle trail seq : Nat) : State :=
  raise s kind (rqId 0x305 0) (some part) (handle % 2 ^ 32) (trail % 2 ^ 12 + 2 ^ 16 * (seq % 2 ^ 16))

/-- Whether a trail is held by a partition; otherwise TRAIL_ACCESS_INVALID (R260). -/
def trailOwned (s : State) (t p : Nat) : Bool := (trailAt s t).valid && decide ((trailAt s t).part = p)

/-- A gate event, emitted only for a trail whose TRACE bit is set (R281). -/
def gateSpoor (s : State) (t : Nat) (it : Item) (event status detail : Nat) : State :=
  if !(trailAt s t).trace then s
  else
    let i := it.handle % 2 ^ 16
    let r := recAt s i
    spoorSend s { time := now s, handle := it.handle, event := event, part := (trailAt s t).part, prio := r.prio, unit := 0x305
                  trail := some t, seq := it.seq, cls := r.cls, status := status, vtile := r.dvt, detail := detail }

/-- Whether the stalling trace holds a gate decision of a trail (R286). -/
def gateHeldBy (s : State) (t event cls : Nat) : Bool :=
  (trailAt s t).trace && spoorHolds s event (trailAt s t).part cls true

/-- A sequence request evaluated (Table 9.2). -/
def seqEval (s : State) (rq : Rq) (t h : Nat) : Eval :=
  let x := trailAt s t
  let full (s : State) : Eval :=
    { st := { s with trl := { s.trl with full := (s.trl.full + 1) % 2 ^ 16 } }, ans := some (.seqData 0x09 0), changed := false }
  if !(trailOwned s t rq.part) then
    { st := gateRaise s Kind.trailAccessInvalid rq.part h t 0, ans := some (.seqData 0x10 0), changed := false }
  else if 256 ≤ x.items.length then full s
  else if s.trl.quotas.getD rq.part 0 < gateReserved s rq.part + x.outPer then full s
  else
    { st := setTrail s t { x with nextSeq := (x.nextSeq + 1) % 65536
                                  items := x.items ++ [{ seq := x.nextSeq, handle := h, skip := x.skip, outPer := x.outPer }] }
      ans := some (.seqData 0 x.nextSeq) }

/-- SEQ_REQ (R263). -/
def seqReq (s : State) (rq : Rq) (t h : Nat) : State :=
  if !(working s) then s
  else arriveReq s 0x305 rq (.seqReq t h) (fun s => cachedReq s 0x305 rq (fun s => seqEval s rq t h))

/-- SEQ_RETURN: the number goes back, or becomes a released hole (R265). -/
def seqReturn (s : State) (rq : Rq) (t seq : Nat) : State :=
  if !(working s) then s
  else arriveReq s 0x305 rq (.seqReturn t seq) (fun s => cachedReq s 0x305 rq (fun s =>
    let x := trailAt s t
    if !(x.items.any (fun i => decide (i.seq = seq) && !i.hole)) then
      { st := s, ans := some (.result (resultWord true 0 0x14)), changed := false }
    else
      let last := decide ((seq + 1) % 65536 = x.nextSeq)
      { st := setTrail s t (if last then { x with nextSeq := seq, items := x.items.filter (fun i => i.seq != seq) }
          else { x with items := x.items.map (fun i => if i.seq = seq then { i with hole := true, outPer := 0, toks := [] } else i) })
        ans := some (.result (resultWord false 0 0)) }))

/-! ### Held outputs (R267 to R269, R272) -/

/-- A token leaves the gate: its destination is resolved at emission, and its acknowledgement is awaited (R272, R273). -/
def gateEmit (s : State) (t : Nat) (it : Item) (g : GateTok) : State :=
  let part := (trailAt s t).part
  match placeOf s part (tagVt g.tok.tag) with
  | none => raise s Kind.tokenUnboundVtile (rqId 0x305 0) (some part) g.src g.tok.tag.toNat
  | some p =>
    let pkt : Packet := { cls := 1, dest := p.unit, src := rqId 0x305 0, part := part, body := .tokens p.gen [g.tok] true }
    sendPkt { s with trl := { s.trl with acks := s.trl.acks ++ [(pkt, it.handle)]
                                         ackTimer := some (s.trl.ackTimer.getD (now s + e2eLimit s)) } } pkt

/-- Tokens leave in arrival order. -/
def gateEmits (s : State) (t : Nat) (it : Item) (l : List GateTok) : State := l.foldl (fun s g => gateEmit s t it g) s

/-- An item of a trail changed by `f`. -/
def modItem (s : State) (t seq : Nat) (f : Item → Item) : State :=
  setTrail s t { trailAt s t with items := (trailAt s t).items.map (fun i => if i.seq = seq then f i else i) }

/-- The stored errors of an item's tokens are met (R269). -/
def meetItem (s : State) (t : Nat) (it : Item) : State :=
  let n1 := it.toks.filter (fun g => g.err == 1)
  let n2 := it.toks.filter (fun g => decide (2 ≤ g.err))
  let part := (trailAt s t).part
  let s1 := n1.foldl (fun s _ => gateRaise s Kind.gateStoreCorrected part it.handle t it.seq) s
  let s2 := n2.foldl (fun s _ => gateRaise s Kind.gateStoreUncorrectable part it.handle t it.seq) s1
  modItem s2 t it.seq (fun i => { i with
    toks := (i.toks.filter (fun g => decide (g.err < 2))).map (fun g => { g with err := 0 }), bad := i.bad || !n2.isEmpty })

/-- The head of a trail. -/
def headItem (s : State) (t : Nat) : Option Item := (trailAt s t).items.head?

/-- A new head whose completion is still awaited lets its stored tokens go (R271). -/
def headReady (s : State) (t : Nat) : State :=
  match headItem s t with
  | none => s
  | some it =>
    if it.done.isSome || it.hole then s
    else
      let s1 := meetItem s t it
      match headItem s1 t with
      | none => s1
      | some it => gateEmits (modItem s1 t it.seq (fun i => { i with toks := [] })) t it it.toks

/-- A tagged send evaluated (R267, R268). -/
def gateTokenEval (s : State) (rq : Rq) (h : Nat) (tok : Token) : Eval :=
  let no : Eval := { st := s, ans := some (.result (resultWord true 0 0x13)), changed := false }
  match liveHandle s rq.part h with
  | none => no
  | some i =>
    match (recAt s i).trail with
    | none => no
    | some t =>
      match (trailAt s t).items.find? (fun x => decide (x.handle = h) && !x.hole) with
      | none => no
      | some it =>
        if it.done.isSome then no
        else if it.outPer ≤ it.sent then
          { st := gateRaise s Kind.trailOutputOverflow rq.part h t it.seq, ans := some (.result (resultWord false 0 0)) }
        else
          let s1 := modItem s t it.seq (fun x => { x with sent := x.sent + 1 })
          if headItem s t = some it ∧ it.toks.isEmpty then
            { st := gateEmit s1 t it ⟨tok, rq.src, 0⟩, ans := some (.result (resultWord false 0 0)) }
          else
            { st := modItem s1 t it.seq (fun x => { x with toks := x.toks ++ [⟨tok, rq.src, 0⟩] })
              ans := some (.result (resultWord false 0 0)) }

/-- GATE_TOKEN: during a slice of the gate it waits in the network (R278). -/
def gateToken (s : State) (rq : Rq) (h : Nat) (tok : Token) : State :=
  if !(working s) || (sliceLeft s 0x305).isSome then s
  else arriveReq s 0x305 rq (.gateToken h tok) (fun s =>
    let v := gateTokenEval s rq h tok
    match v.ans with
    | some r => respond v.st 0x305 rq r
    | none => v.st)

/-- GATE_COMPLETE: an item's completion is received. -/
def gateComplete (s : State) (rq : Rq) (h t seq status : Nat) : State :=
  if !(working s) || (sliceLeft s 0x305).isSome || gateHeldBy s t 6 (recAt s (h % 2 ^ 16)).cls then s
  else arriveReq s 0x305 rq (.gateComplete h t seq status) (fun s =>
    match (trailAt s t).items.find? (fun x => decide (x.handle = h) && decide (x.seq = seq)) with
    | none => respond s 0x305 rq (.result (resultWord true 0 0x13))
    | some it =>
      if it.done.isSome then respond s 0x305 rq (.result (resultWord false 0 0))
      else
        let s1 := gateSpoor (modItem s t seq (fun x => { x with done := some status })) t it 6 status (trailAt s t).relSeq
        respond s1 0x305 rq (.result (resultWord false 0 0)))

/-! ### Release (R271, R275, R276) -/

/-- The head leaves: REL_SEQ advances and the next item becomes head. -/
def popItem (s : State) (t : Nat) : State :=
  let x := trailAt s t
  headReady (setTrail s t { x with items := x.items.tail, relSeq := (x.relSeq + 1) % 65536 }) t

/-- The item's completion goes to the clearing scheduler, as failed where `fail`. -/
def handBack (s : State) (it : Item) (fail : Bool) : State :=
  let i := it.handle % 2 ^ 16
  let r := recAt s i
  retireServe (setRec s i { r with failed := r.failed || fail }) [i]

/-- An item is released as a hole: its stored tokens are discarded (R275). -/
def releaseHole (s : State) (t : Nat) (it : Item) : State :=
  let s1 := gateSpoor s t it 8 2 it.toks.length
  let s2 := popItem (handBack s1 it true) t
  { s2 with trl := { s2.trl with released := (s2.trl.released + 1) % 2 ^ 32, holes := (s2.trl.holes + 1) % 2 ^ 16 } }

/-- An item is released with its stored tokens. -/
def releaseItem (s : State) (t : Nat) (it : Item) (fail : Bool) : State :=
  let s1 := gateEmits s t it it.toks
  let s2 := gateSpoor s1 t it 7 (if fail then 2 else 0) it.toks.length
  let s3 := popItem (handBack s2 it fail) t
  { s3 with trl := { s3.trl with released := (s3.trl.released + 1) % 2 ^ 32 } }

/-- The spoor event with which a completed item will leave the head: RELEASE, HOLE or TRAIL_HELD (R275). -/
def releaseEvent (it : Item) : Nat :=
  if it.done = some 0 && !it.bad && it.toks.all (fun g => decide (g.err < 2)) then 7 else if it.skip then 8 else 9

/-- GATE_RELEASE: the completed head of a trail is released, skipped, or holds the trail (R271, R275), unless the trace holds the
event (R286). -/
def gateRelease (s0 : State) (t : Nat) : State :=
  if !(working s0) || (sliceLeft s0 0x305).isSome || (trailAt s0 t).held then s0
  else match headItem s0 t with
  | none => s0
  | some it0 =>
    if it0.hole then popItem s0 t
    else if it0.done.isNone || gateHeldBy s0 t (releaseEvent it0) (recAt s0 (it0.handle % 2 ^ 16)).cls then s0
    else
      let s := meetItem s0 t it0
      match headItem s t with
      | none => s
      | some it =>
        if it.done = some 0 ∧ it.bad = false then releaseItem s t it false
        else if it.skip then releaseHole s t it
        else
          let stored := ((trailAt s t).items.map (fun i => i.toks.length)).sum
          let s1 := gateRaise (setTrail s t { trailAt s t with held := true }) Kind.trailHeld (trailAt s t).part it.handle t it.seq
          gateSpoor s1 t it 9 2 stored

/-- A TRAIL_CTRL action evaluated (R276). -/
def trailCtrlEval (s : State) (rq : Rq) (t : Nat) (a : TrailAction) : Eval :=
  let x := trailAt s t
  let no (k : Option Nat) (status : Nat) : Eval :=
    { st := match k with
        | some k => gateRaise s k rq.part 0 t 0
        | none => s
      ans := some (.result (resultWord true 0 status)), changed := false }
  let yes (s : State) : Eval := { st := s, ans := some (.result (resultWord false 0 0)) }
  if !(trailOwned s t rq.part) then no (some Kind.trailAccessInvalid) 0x10
  else match a with
  | .reset =>
    if x.items.isEmpty && !x.held then
      yes (gateSpoor (setTrail s t { x with nextSeq := 0, relSeq := 0 }) t { seq := 0, handle := 0xFFFFFFFF } 0x0A 0 2)
    else no none 0x14
  | .skip =>
    (match x.held, headItem s t with
     | true, some it => yes (releaseHole (gateSpoor (setTrail s t { x with held := false }) t it 0x0A 2 0) t it)
     | _, _ => no none 0x14)
  | .pass =>
    (match x.held, headItem s t with
     | true, some it =>
       let s1 := meetItem (gateSpoor (setTrail s t { x with held := false }) t it 0x0A 2 1) t it
       yes (releaseItem s1 t ((headItem s1 t).getD it) true)
     | _, _ => no none 0x14)

/-- Whether the trace holds an action on a trail: its own event, or the release that it brings (R286). -/
def trailCtrlHeld (s : State) (t : Nat) (a : TrailAction) : Bool :=
  let cls := match headItem s t with
    | some it => (recAt s (it.handle % 2 ^ 16)).cls
    | none => 0
  gateHeldBy s t 0x0A cls || (match a with
    | .reset => false
    | .skip => gateHeldBy s t 8 cls
    | .pass => gateHeldBy s t 7 cls)

/-- SKIP, PASS and RESET: TRAIL_CTRL reaches the gate. -/
def trailCtrl (s : State) (rq : Rq) (t : Nat) (a : TrailAction) : State :=
  if !(working s) || ((sliceLeft s 0x305).isNone && trailCtrlHeld s t a) then s
  else arriveReq s 0x305 rq (.trailCtrl t a) (fun s => cachedReq s 0x305 rq (fun s => trailCtrlEval s rq t a))

/-- TRAIL_CONFIG for a partition (R260, R261): the status, and the state. -/
def trailConfig (s : State) (p t : Nat) (skip trace : Bool) (outPer : Nat) : State × Nat :=
  if !(decide (t < 4096) && trailOwned s t p) then (gateRaise s Kind.trailAccessInvalid p 0 t 0, 0x10)
  else if 64 < outPer then (s, 0x11)
  else (setTrail s t { trailAt s t with skip := skip, trace := trace, outPer := outPer }, 0)

/-- TOKEN_ACK at the gate: the oldest packets to the acknowledging tile are accepted, and context releases that waited
for them are requested (R273, R588). -/
def gateAck (s : State) (u n : Nat) : State :=
  let mine := (s.trl.acks.filter (fun x => decide (steer s x.1.dest = u))).take n
  let rest := mine.foldl (fun l x => l.erase x) s.trl.acks
  contextsDue { s with trl := { s.trl with acks := rest, ackTimer := if rest.isEmpty then none else some (now s + e2eLimit s) } }

/-- The gate's acknowledgement timer expires: its outstanding packets count as accepted (R588). -/
def gateAckAll (s : State) : State :=
  contextsDue { s with trl := { s.trl with acks := [], ackTimer := none } }

/-- The gate's return from Safe (R279). -/
def gateSafe (s : State) : State :=
  { s with trl := { s.trl with
      acks := [], ackTimer := none
      trails := s.trl.trails.foldl (fun m x => SMap.put {} m x.1
        { x.2 with held := false, nextSeq := 0, relSeq := 0, items := [] }) [] } }

/-! ### The trace hub (R280 to R288) -/

/-- Destination `d`. -/
def destAt (s : State) (d : Nat) : SpoorDest := s.trl.dests.getD d {}
/-- Destination `d` replaced. -/
def setDest (s : State) (d : Nat) (x : SpoorDest) : State := { s with trl := { s.trl with dests := s.trl.dests.set d x } }

/-- Whether a record goes to destination `d` (R283). -/
def destTakes (s : State) (d : Nat) (r : SpoorRec) : Bool :=
  let x := destAt s d
  x.enable && bit x.evMask r.event && decide (x.clsLo ≤ r.cls) && decide (r.cls ≤ x.clsHi) && (r.trail.isSome || !x.trailOnly)
  && (if d = 0 then bit x.partMask r.part && NSet.has s.traceExport r.part else decide (r.part = d - 1))

/-- A record is lost at a destination (R285, R287). -/
def loseSpoor (x : SpoorDest) : SpoorDest := { x with lost := (x.lost + 1) % 2 ^ 64, gap := satInc 32 x.gap, gapDue := true }

/-- Whether one record is written before another: TIME ascending, then UNIT (R282). -/
def spoorBefore (a b : SpoorRec) : Bool := decide (a.time < b.time) || (decide (a.time = b.time) && decide (a.unit < b.unit))

/-- Whether a record goes before another that came earlier: never before one of its own handle with its TIME, which keeps the events of
a handle in the order of its life. -/
def spoorPrecedes (a b : SpoorRec) : Bool := spoorBefore a b && !(decide (a.time = b.time) && decide (a.handle = b.handle))

/-- A record takes its place in a queue, behind equal ones and behind all up to the last that it may not precede. -/
def spoorInsert (r : SpoorRec) (l : List SpoorRec) : List SpoorRec :=
  let tail := (l.reverse.takeWhile (spoorPrecedes r)).reverse
  l.take (l.length - tail.length) ++ r :: tail

/-- A record joins a destination's queue of 256, or is lost there. -/
def destAccept (s : State) (d : Nat) (r : SpoorRec) : State :=
  let x := destAt s d
  if 256 ≤ x.queue.length then setDest s d (loseSpoor x)
  else
    let q := spoorInsert r x.queue
    setDest s d { x with queue := q
                         stallSince := if x.stalling && decide (256 ≤ q.length) then some (x.stallSince.getD (now s)) else none }

/-- SPOOR_EVENT: the hub takes a record and queues it for each destination whose filters it passes. In Safe no record is
taken. -/
def spoorEvent (s : State) (r : SpoorRec) : State :=
  let pkt : Packet := { cls := 2, dest := 0x306, src := rqId r.unit 0, part := r.part, tag := 0, body := .spoorEvent r }
  let ds := (List.range 17).filter (fun d => destTakes s d r)
  if !(working s) || !(arrivable s pkt) || ds.any (fun d => (destAt s d).stalling && decide (256 ≤ (destAt s d).queue.length)) then s
  else ds.foldl (fun s d => destAccept s d r) (takePkt s pkt)

/-- The bytes of a record (Table 9.4). -/
def spoorBytes (r : SpoorRec) (gap : Option Nat) : List Byte :=
  leBytes 8 r.time ++ leBytes 4 r.handle ++ leBytes 1 r.event
  ++ leBytes 1 (r.part % 16 + 16 * (r.prio % 8) + 128 * b2n gap.isSome) ++ leBytes 2 (r.unit % 4096)
  ++ leBytes 2 (r.trail.getD 0 % 4096 + 2 ^ 15 * b2n r.trail.isSome) ++ leBytes 2 (if r.trail.isSome then r.seq else 0)
  ++ leBytes 1 (r.cls % 64) ++ leBytes 1 r.status ++ leBytes 2 (r.vtile % 1024) ++ leBytes 4 r.detail ++ leBytes 4 (gap.getD 0)

/-- A host access of destination `d`: through the PF of PORT for destination 0, otherwise the partition's home bridge. -/
def destHost (s : State) (d iova : Nat) (wr : Bool) (len : Nat) (data : List Byte) (use : HUse) : State × HStart :=
  let x := destAt s d
  let a : HostAcc := { iova := iova, len := len, wr := wr, data := data, use := use }
  if d = 0 then hostStart s x.port { a with fn := 0, part := (fnAt s x.port 0).part.getD 0 }
  else windowStart s (d - 1) a

/-- A host write error: ENABLE clears, the queued records are lost, SPOOR_WRITE_FAILED (R287). -/
def spoorFail (s : State) (d : Nat) : State :=
  let x := destAt s d
  if !x.enable then s
  else
    let n := x.queue.length
    raise (setDest s d { x with enable := false, queue := [], lost := (x.lost + n) % 2 ^ 64, gap := satAdd 32 x.gap n
                                gapDue := x.gapDue || decide (0 < n), reading := false, starting := false, stallSince := none })
      Kind.spoorWriteFailed (rqId 0x306 0) (if d = 0 then none else some (d - 1)) 0 (2 ^ 32 * d)

/-- Whether a destination's buffer is full (R284). -/
def destFull (x : SpoorDest) : Bool := decide (2 ^ x.n ≤ (x.pi + 2 ^ 32 - x.ci) % 2 ^ 32)

/-- The address of the control line. -/
def ctrlLine (x : SpoorDest) : Nat := x.base + 32 * 2 ^ x.n

/-- Whether a record on its way to the hub is to be written to destination `d` before `r`: a source delivers it in time (R282). -/
def spoorOnWay (s : State) (d : Nat) (r : SpoorRec) : Bool :=
  decide ((destAt s d).queue.length < 256) && s.net.any (fun p => match p.body with
    | .spoorEvent x => destTakes s d x && spoorPrecedes x r
    | _ => false)

/-- SPOOR_RECORD_WRITE: 64 cc after its TIME the oldest queued record of a destination is written, with the producer
index behind it; where the buffer is full it is lost, or it stalls (R282, R284 to R286). -/
def spoorRecordWrite (s : State) (d : Nat) : State :=
  let x := destAt s d
  if !(working s) || !x.enable || x.starting then s
  else match x.queue with
  | [] => s
  | r :: q =>
    if now s < r.time + 64 || spoorOnWay s d r then s
    else if destFull x then (if x.stalling then s else setDest s d { loseSpoor x with queue := q })
    else
      let pi := (x.pi + 1) % 2 ^ 32
      let s1 := setDest s d { x with queue := q, pi := pi, gap := 0, gapDue := false, stallSince := none }
      let (s2, h) := destHost s1 d (x.base + 32 * (x.pi % 2 ^ x.n)) true 32
        (spoorBytes r (if x.gapDue then some x.gap else none)) (.spoor d)
      match h with
      | .failed _ => spoorFail s2 d
      | _ =>
        match destHost s2 d (ctrlLine x) true 4 (leBytes 4 pi) (.spoor d) with
        | (s3, .failed _) => spoorFail s3 d
        | (s3, _) => s3

/-- The consumer index is read. -/
def readCi (s : State) (d : Nat) : State :=
  let x := destAt s d
  match destHost (setDest s d { x with reading := true, lastRead := some (now s) }) d (ctrlLine x + 8) false 4 [] (.spoorCi d) with
  | (s1, .failed _) => spoorFail s1 d
  | (s1, _) => s1

/-- SPOOR_CI_REREAD: a full destination's CI is read again, at most once per 256 cc (R284). -/
def spoorCiReread (s : State) (d : Nat) : State :=
  let x := destAt s d
  let due := match x.lastRead with
    | some t => decide (t + 256 ≤ now s)
    | none => true
  if working s && x.enable && !x.reading && destFull x && due then readCi s d else s

/-- The consumer index has been read: after ENABLE was set, PI starts from it (R288). -/
def spoorCiDone (s : State) (d ci : Nat) : State :=
  let x := destAt s d
  setDest s d { x with ci := ci % 2 ^ 32, pi := if x.starting then ci % 2 ^ 32 else x.pi, reading := false, starting := false }

/-- SPOOR_STALL_TIMEOUT: a stall has lasted STALL_LIMIT × 1,024 cc; the destination becomes lossy (R286). -/
def spoorStallTimeout (s : State) (d : Nat) : State :=
  let x := destAt s d
  match x.stallSince with
  | some t =>
    if working s && x.stalling && decide (t + 1024 * x.stallLimit ≤ now s) then
      raise (setDest s d { x with stalling := false, stallSince := none }) Kind.spoorStallTimeout (rqId 0x306 0) none 0 (2 ^ 32 * d)
    else s
  | none => s

/-- The fields of TRL.SP_CTRL written as a 64-bit value; setting ENABLE starts the destination from the buffer's CI. -/
def spCtrlSet (s : State) (d v : Nat) : State :=
  let x := destAt s d
  let y : SpoorDest := { x with stallLimit := bits v 63 48, n := bits v 8 4, port := bits v 3 3, stalling := bit v 2, enable := bit v 0
                                stallSince := if bit v 2 then x.stallSince else none }
  if y.enable && !x.enable then readCi (setDest s d { y with starting := true }) d
  else setDest s d (if y.enable then y else { y with queue := [], lost := (x.lost + x.queue.length) % 2 ^ 64, starting := false })

/-- Whether a write of TRL.SP_CTRL is accepted (R15, R288): N from 7 to 25, STALL_LIMIT not 0, reserved bits zero, and no
change of N, PORT or MODE while ENABLE is 1. -/
def spCtrlOk (x : SpoorDest) (v : Nat) : Bool :=
  decide (7 ≤ bits v 8 4) && decide (bits v 8 4 ≤ 25) && decide (bits v 63 48 ≠ 0) && decide (bits v 47 9 = 0) && !(bit v 1)
  && (!x.enable || (decide (bits v 8 4 = x.n) && decide (bits v 3 3 = x.port) && decide (bit v 2 = x.stalling)))

/-- The hub's return from Safe: the queued records are dropped and counted (R287). -/
def hubSafe (s : State) : State :=
  { s with trl := { s.trl with dests := s.trl.dests.map (fun x =>
      { x with queue := [], lost := (x.lost + x.queue.length) % 2 ^ 64, gap := satAdd 32 x.gap x.queue.length
               gapDue := true, stallSince := none }) } }

end Sys2Proof.Machine
end

