-- ==== Sys2Proof/Machine/RingWork.lean ====
section
/-! DEFINITION. The submission opcodes (R406 to R421): what each descriptor sends or applies when it is evaluated, its held
and long forms, the copy engine, and the answers that complete it. -/

namespace Sys2Proof.Machine

/-- The descriptor under evaluation where it is checked, due and has an opcode. -/
def evalDesc (s : State) (rs op : Nat) : Option RDesc :=
  let r := ringAt s rs
  match r.cur with
  | some d => if bridgeRuns s r.port && decide (r.state = 1) && decide (d.phase = 1) && decide (d.op = op) && decide (d.again ≤ now s) then some d else none
  | none => none

/-- An evaluation of the current descriptor, where it stands at that opcode. -/
def ringEval (s : State) (rs op : Nat) (f : RingSet → RDesc → State) : State :=
  match evalDesc s rs op with
  | some d => f (ringAt s rs) d
  | none => s

/-- A descriptor applied at a unit at once; a unit in a slice answers BUSY_RETRY, repeated up to 8 times (R432). -/
def atUnit (s : State) (rs : Nat) (d : RDesc) (unit : Nat) (f : State) : State :=
  match sliceLeft s unit with
  | none => f
  | some left =>
    if 8 ≤ d.busyN then ringComplete s rs d.k 8 0 (left + 16)
    else modRing s rs (fun r => { r with cur := some { d with again := now s + left + 16, busyN := d.busyN + 1 } })

/-- The request of a descriptor to its unit leaves; the descriptor awaits the answer. -/
def sendDesc (s : State) (rs : Nat) (r : RingSet) (d : RDesc) (target : Nat) (b : Body) : State :=
  sendReq (modRing s rs (fun r => { r with cur := some { d with phase := 2 } }))
    { unit := bridgeUnit r.port, sub := ringSrc r % 4, part := r.part, target := target, body := b, use := .desc rs d.k }

/-- FIELD_ERROR with the byte offset of the field. -/
def fieldError (s : State) (rs : Nat) (d : RDesc) (off : Nat) : State := ringComplete s rs d.k 0x11 0 off

/-- The first failing check of a list of conditions with their offsets. -/
def firstBad (l : List (Bool × Nat)) : Option Nat := (l.find? (fun x => !x.1)).map Prod.snd

/-- Fields are checked; then the evaluation goes on. -/
def withFields (s : State) (rs : Nat) (d : RDesc) (l : List (Bool × Nat)) (f : State) : State :=
  match firstBad l with
  | some off => fieldError s rs d off
  | none => f

/-! ### Work descriptors (R411 to R420) -/

/-- RING_NOP. -/
def ringNop (s : State) (rs : Nat) : State := ringEval s rs 1 (fun _ d => ringComplete s rs d.k 0 0 0)

/-- LAUNCH (R411). -/
def launch (s : State) (rs : Nat) : State :=
  ringEval s rs 2 (fun r d =>
    let tv := d.f 0x1C 2
    let given := decide (bits (d.f 8 8) 53 52 = 0)
    withFields s rs d [(decide (d.f 0x18 2 < 2 ^ 14) && (given || decide (d.f 0x18 2 = 0)), 0x18), (given || decide (d.f 0x1A 2 = 0), 0x1A),
                       (decide (bits tv 14 12 = 0), 0x1C), (decide (d.f 0x1E 1 < 2), 0x1E)]
      (sendDesc s rs r d 0x301 (.admission {
        spawn := BitVec.ofNat 64 (d.f 8 8), arg := BitVec.ofNat 64 (d.f 0x10 8), ctx := d.f 0x18 2, iter := d.f 0x1A 2
        launch := true, trail := if bit tv 15 then some (tv % 4096) else none
        notify0 := d.f 0x20 4, notify1 := d.f 0x24 4, host := d.wantsHost, ringset := rs })))

/-- Token `i` of a TOKEN_INJECT, with the ring set's partition (R41). -/
def injectToken (r : RingSet) (d : RDesc) (i : Nat) : Token :=
  let t := d.f (0x18 + 16 * i) 8
  ⟨BitVec.ofNat 64 (d.f (0x10 + 16 * i) 8), BitVec.ofNat 64 (2 ^ 60 * r.part + t % 2 ^ 60), false⟩

/-- Whether a token's kind may be injected: normal, sticky, or CTX_PURGE (R412). -/
def injectKindOk (t : Token) : Bool :=
  decide (tagKind t.tag < 2) || (decide (tagKind t.tag = 2) && decide (tagNode t.tag = 1))

/-- The injected tokens leave for their tiles in order. -/
def sendInjects (s : State) (r : RingSet) (l : List Token) : State :=
  match l with
  | [] => s
  | t :: rest =>
    match placeOf s r.part (tagVt t.tag) with
    | some p => sendInjects (sendPkt s { cls := 1, dest := p.unit, src := ringSrc r, part := r.part, body := .tokens p.gen [t] false }) r rest
    | none => sendInjects s r rest

/-- Whether the network takes a ring set's tokens: there is TOKEN credit for each destination (R331, R412). -/
def injectRoom (s : State) (r : RingSet) (l : List Token) : Bool :=
  l.all (fun t => match placeOf s r.part (tagVt t.tag) with
    | some p => tokenRoom s (bridgeUnit r.port) p.unit
    | none => true)

/-- TOKEN_INJECT (R412): every token is checked before any is sent, and the descriptor waits for TOKEN credit. -/
def tokenInject (s : State) (rs : Nat) : State :=
  ringEval s rs 3 (fun r d =>
    let n := d.f 8 1
    let ts := (List.range n).map (injectToken r d)
    withFields s rs d [(decide (1 ≤ n) && decide (n ≤ 3), 8)]
      (match (List.range n).find? (fun i => !(injectKindOk (injectToken r d i))) with
       | some i => fieldError s rs d (0x18 + 16 * i)
       | none =>
         match (List.range n).find? (fun i => (placeOf s r.part (tagVt (injectToken r d i).tag)).isNone) with
         | some i => fieldError (raise s Kind.tokenUnboundVtile (rqId (bridgeUnit r.port) 0) (some r.part) (ringSrc r) (injectToken r d i).tag.toNat) rs d (0x18 + 16 * i)
         | none => if injectRoom s r ts then ringComplete (sendInjects s r ts) rs d.k 0 n 0 else s))

/-- DEP_DEC (R413). -/
def depDec (s : State) (rs : Nat) : State :=
  ringEval s rs 4 (fun r d => withFields s rs d [(decide (d.f 0xC 1 < 2), 0xC)]
    (sendDesc s rs r d 0x302 (.depDec (d.f 8 4) (bit (d.f 0xC 1) 0))))

/-- ACT_ABORT (R414). -/
def actAbort (s : State) (rs : Nat) : State :=
  ringEval s rs 5 (fun r d => atUnit s rs d 0x301
    (match liveHandle s r.part (d.f 8 4) with
     | none => ringComplete s rs d.k 0x13 0 0
     | some i =>
       if (recAt s i).state = 4 then ringComplete s rs d.k 0x14 0 0
       else if recHeld s 5 i then s
       else
         let s1 := leaveStores s i
         let s2 := acceptCompletion (setRec s1 i { recAt s1 i with state := 3 }) i true (d.f 0xC 1) none
         ringComplete (settleTakes s2) rs d.k 0 0 0))

/-- CTX_ALLOC (R415). -/
def ctxAlloc (s : State) (rs : Nat) : State := ringEval s rs 6 (fun r d => sendDesc s rs r d 0x303 .ctxAlloc)

/-- CTX_RELEASE (R415). -/
def ctxRelease (s : State) (rs : Nat) : State :=
  ringEval s rs 7 (fun r d => withFields s rs d [(decide (d.f 8 2 < 2 ^ 14), 8)] (sendDesc s rs r d 0x303 (.ctxRelease (d.f 8 2))))

/-- The submission of a SIFT to the sifter of its stand. -/
def sendSift (s : State) (rs : Nat) (r : RingSet) (d : RDesc) : State :=
  sendDesc s rs r d (sifUnit (sifChoice s (d.f 0x10 1))) (.siftSubmit (d.f 8 8) (d.f 0x10 1) (2 ^ 32 * rs + d.seq))

/-- SIFT (R416). -/
def sift (s : State) (rs : Nat) : State :=
  ringEval s rs 8 (fun r d => withFields s rs d [(decide (d.f 0x10 1 ≤ 4), 0x10)] (sendSift s rs r d))

/-- The lock operation of an OP code (Table 12.3). -/
def lockOpOf (c : Nat) : Option LockOp :=
  match c with
  | 1 => some .acquire | 2 => some .try_ | 3 => some .release | 4 => some .semAcquire | 5 => some .semRelease | 6 => some .cancel
  | _ => none

/-- LOCK (R417). -/
def lockDesc (s : State) (rs : Nat) : State :=
  ringEval s rs 9 (fun r d => match lockOpOf (d.f 0x10 1) with
    | none => fieldError s rs d 0x10
    | some op => sendDesc s rs r d 0x304 (.lockOp { op := op, word := d.f 8 8 }))

/-- A descriptor accepted as long leaves the way to later ones (R406). -/
def makeLong (s : State) (rs : Nat) (d : RDesc) : State :=
  modRing s rs (fun r => { r with cur := none, longs := r.longs ++ [d] })

/-- LOCK_FORCE: the firmware checks the group and issues FORCE (R418). -/
def lockForce (s : State) (rs : Nat) : State :=
  ringEval s rs 0xA (fun r d =>
    if !(fwRuns s) then s
    else withFields s rs d [(decide (d.f 8 2 < 4096), 8)]
      (let g := lockGroup s (d.f 8 2 / 64)
       if !(g.valid && decide (g.part = r.part)) then ringComplete s rs d.k 0x10 0 0
       else
         sendReq (makeLong s rs { d with phase := 2 })
           { unit := 0x308, part := r.part, target := 0x304, use := .desc rs d.k, body := .lockOp { op := .force, word := d.f 8 2 } }))

/-! ### The copy engine (R419) and LOAD_CODE (R420) -/

/-- The long descriptor `k` of a ring set. -/
def longAt (s : State) (rs k : Nat) : Option RDesc := (ringAt s rs).longs.find? (fun d => decide (d.k = k))
/-- A long descriptor changed by `f`. -/
def modLong (s : State) (rs k : Nat) (f : RDesc → RDesc) : State :=
  modRing s rs (fun r => { r with longs := r.longs.map (fun d => if d.k = k then f d else d) })

/-- The record of an access of a copy that a target refused (R419). -/
def copyRecord (s : State) (rs reason addr : Nat) : State :=
  let r := ringAt s rs
  if reason = 5 then s
  else raise s (if reason = 3 then Kind.frameWindowViolation else Kind.addressUnmapped) (rqId (bridgeUnit r.port) 2) (some r.part) addr
    (2 * r.fn + 256 * reason)

/-- A copy or load stops: FAULTED with the reason and the bytes done. -/
def longStop (s : State) (rs : Nat) (d : RDesc) (reason addr : Nat) : State :=
  let b := (ringAt s rs).port
  copyForget (ringComplete (copyRecord s rs reason addr) rs d.k 3 (64 * d.done) reason) b

/-- The REFUSED reason that stands for an address that nothing serves: an unbound virtual tile, or a slice not held. -/
def missReason (a : Nat) : Nat := if 0x200000000 ≤ a ∧ a < 0x204000000 then 4 else 1

/-- The next line of a copy is asked for by the copy engine, the bridge's sub-requester 2 (R24), and whether it was: where nothing
serves its address the copy stops. -/
def copyRead (s0 : State) (rs : Nat) (d : RDesc) : State × Bool :=
  let s := modLong s0 rs d.k (fun d => { d with next := d.next + 1 })
  let r := ringAt s rs
  let a := d.f 8 8 + 64 * d.next
  match partTarget s r.part a with
  | none => (longStop s rs d (missReason a) a, false)
  | some (u, m) =>
    (sendReq s { unit := bridgeUnit r.port, sub := 2, part := r.part, target := u
                 use := .copyRead rs d.k d.next, body := .readLine m }, true)

/-- The copy at the head of the rotation starts its next 4 KiB block; the next copy does where it stops at once. -/
def copyStart (s : State) (b fuel : Nat) : State :=
  match fuel with
  | 0 => s
  | n + 1 =>
    let h := hifAt s b
    if !(bridgeRuns s b) || decide (h.copyLeft ≠ 0) then s
    else match h.copies with
    | [] => s
    | (rs, k) :: _ =>
      match longAt s rs k with
      | none => s
      | some d =>
        match copyRead (setHif s b { h with copyLeft := min 64 (d.f 0x18 4 / 64 - d.next) }) rs d with
        | (s1, true) => s1
        | (s1, false) => copyStart s1 b n

/-- The copy engine goes on, over the copies that it holds (R419). -/
def copyKick (s : State) (b : Nat) : State := copyStart s b 8

/-- COPY: the copy engine takes the copy, of which it holds at most 8 (R419). -/
def copy (s : State) (rs : Nat) : State :=
  ringEval s rs 0xB (fun r d =>
    let src := d.f 8 8
    let dst := d.f 0x10 8
    let len := d.f 0x18 4
    let ok (a : Nat) : Bool := decide (a % 64 = 0) && (sifWindow a).isSome && decide (sifWindow (a + len - 1) = sifWindow a)
    withFields s rs d [(decide (len % 64 = 0) && decide (64 ≤ len) && decide (len ≤ 2 ^ 30), 0x18), (ok src, 8),
                       (ok dst && !(decide (sifWindow src = some 3) && decide (sifWindow dst = some 3)), 0x10)]
      (if 8 ≤ (hifAt s r.port).copies.length then s
       else
         let h := hifAt s r.port
         copyKick (setHif (makeLong s rs { d with phase := 2 }) r.port { h with copies := h.copies ++ [(rs, d.k)] }) r.port))

/-- A line of a copy has been read: it is written at its destination. -/
def copyData (s : State) (rs k l : Nat) (data : List Byte) (poison : Nat) : State :=
  match longAt s rs k with
  | none => s
  | some d =>
    let r := ringAt s rs
    let a := d.f 0x10 8 + 64 * l
    let x := ((hifAt s r.port).copies.findIdx? (fun e => decide (e = (rs, k)))).getD 0
    let o : OutReq := { unit := bridgeUnit r.port, sub := 2, part := r.part, use := .copyWrite rs k l }
    match partTarget s r.part a with
    | none => copyKick (longStop s rs d (missReason a) a) r.port
    | some (u, m) =>
      if m.space = 0 then sendReq s { o with target := u, body := .lineWrite (2 ^ 16 * m.slot + m.off / 64) x false data poison }
      else if m.space = 1 then sendReq s { o with target := u, body := .lineWrite (m.off / 64) x false data poison }
      else
        sendReq (sendPosted s (rqId (bridgeUnit r.port) 2) u r.part (.hostBase x m.off)) { o with target := u, body := .lineWrite 0 x false data poison }

/-- A line of a copy has been written and its next one is read: at a block's end the rotation moves on, at the last line the copy completes. -/
def copyDone (s : State) (rs k : Nat) : State :=
  match longAt s rs k with
  | none => s
  | some d =>
    let b := (ringAt s rs).port
    let h := hifAt s b
    let s1 := modLong s rs k (fun d => { d with done := d.done + 1 })
    let left := h.copyLeft - 1
    if left ≠ 0 then
      match copyRead (setHif s1 b { h with copyLeft := left }) rs { d with done := d.done + 1 } with
      | (s2, true) => s2
      | (s2, false) => copyKick s2 b
    else
      let s2 := setHif s1 b { h with copyLeft := 0, copies := h.copies.filter (fun e => e != (rs, k)) ++ [(rs, k)] }
      if d.done + 1 = d.f 0x18 4 / 64 then copyKick (copyForget (ringComplete s2 rs k 0 (d.f 0x18 4) 0) b) b
      else copyKick s2 b

/-- An access of a copy is refused. -/
def copyRefused (s : State) (rs k reason addr : Nat) : State :=
  match longAt s rs k with
  | none => s
  | some d => let b := (ringAt s rs).port; copyKick (longStop s rs d reason addr) b

/-- The checks of a load descriptor on its tile (R420): the status, 0 where it may be applied. A tile has two prefetch slots: one that is
full suffices for IN_USE (DEDUCED, log entry 133). -/
def loadTileStatus (s : State) (r : RingSet) (u : Nat) : Nat :=
  let t := tileAt s u
  if !(t.bindings.any (fun b => b.valid && decide (b.part = r.part))) then 0x10
  else if t.thread.running || !t.fq.isEmpty || t.actSlot.any Option.isSome then 0x15
  else 0

/-- The host lines of a load. -/
def loadLines (d : RDesc) : Nat := (d.f 0x18 8 % 64 + d.f 0x10 4 + 63) / 64

/-- The next block of a load's lines is asked of the home bridge. -/
def loadKick (s : State) (rs k : Nat) : State :=
  match longAt s rs k with
  | none => s
  | some d =>
    let r := ringAt s rs
    let n := min 64 (loadLines d - d.next)
    ((List.range n).map (· + d.next)).foldl (fun s l =>
        sendReq s { unit := bridgeUnit r.port, sub := 2, part := r.part, target := homeUnit s r.part
                    use := .codeRead rs k l, body := .readLine { space := 2, off := d.f 0x18 8 / 64 * 64 + 64 * l } })
      (modLong s rs k (fun d => { d with next := d.next + n, left := n }))

/-- LOAD_CODE (R420). A tile in a slice keeps the descriptor waiting in the bridge. -/
def loadCode (s : State) (rs : Nat) : State :=
  ringEval s rs 0x10 (fun r d =>
    let off := d.f 0xC 4
    let len := d.f 0x10 4
    let u := steer s (d.f 8 2)
    withFields s rs d [(decide (d.f 8 2 < 0x100), 8), (decide (off % 4 = 0), 0xC),
                       (decide (len % 4 = 0) && decide (4 ≤ len) && decide (off + len ≤ 131072), 0x10), (decide (d.f 0x18 8 + len ≤ 2 ^ 44), 0x18)]
      (let st := loadTileStatus s r u
       if (tileAt s u).testing then s
       else if st ≠ 0 then ringComplete s rs d.k st 0 0
       else loadKick (makeLong s rs { d with phase := 2 }) rs d.k))

/-- The bytes of a load that host line `l` carries: their offset in the store, and themselves. -/
def loadPiece (d : RDesc) (l : Nat) (data : List Byte) : Nat × List Byte :=
  let src := d.f 0x18 8
  let first := src / 64 * 64 + 64 * l
  let a := max first src
  let z := min (first + 64) (src + d.f 0x10 4)
  (d.f 0xC 4 + (a - src), (data.drop (a - first)).take (z - a))

/-- The lines of the instruction store that a load covers whole lose their marks (R470). -/
def clearMarks (t : Tile) (off len : Nat) : Tile :=
  let inside (l : Nat) : Bool := decide (off ≤ 64 * l) && decide (64 * l + 64 ≤ off + len)
  { t with istoreBad := t.istoreBad.filter (fun l => !(inside l)), istoreErr := SMap.drop t.istoreErr inside }

/-- A host line of a load has been read: its bytes enter the instruction store. -/
def loadData (s : State) (rs k l : Nat) (data : List Byte) : State :=
  match longAt s rs k with
  | none => s
  | some d =>
    let (a, bs) := loadPiece d l data
    let s1 := modTile s (steer s (d.f 8 2)) (fun t => { t with istore := ByteMem.wrBytes t.istore a bs })
    let s2 := modLong s1 rs k (fun d => { d with done := d.done + 1, left := d.left - 1 })
    if d.done + 1 = loadLines d then
      ringComplete (modTile s2 (steer s (d.f 8 2)) (fun t => clearMarks t (d.f 0xC 4) (d.f 0x10 4))) rs k 0 (d.f 0x10 4) 0
    else if d.left = 1 then loadKick s2 rs k else s2

/-- A read of a load is refused. -/
def loadRefused (s : State) (rs k reason : Nat) : State :=
  match longAt s rs k with
  | none => s
  | some d => ringComplete s rs k 3 (min (64 * d.done) (d.f 0x10 4)) reason

/-- The checks of Table 5.2 on TIL.CODE. -/
def codeRegOk (v : Nat) : Bool :=
  let base := 256 * bits v 8 0
  let size := 256 * (bits v 24 16 + 1)
  decide (bits v 15 9 = 0) && decide (bits v 47 25 = 0) && decide (base + size ≤ 131072)
  && (!(bit v 63) || (decide (base ≤ 4 * bits v 62 48) && decide (4 * bits v 62 48 < base + size)))

/-- The checks of Table 5.2 on TIL.STACK of a slot. -/
def stackRegOk (t : Tile) (k v : Nat) : Bool :=
  let top := bits v 52 32
  let lim := bits v 19 0
  decide (bits v 63 53 = 0) && decide (bits v 31 20 = 0) && decide (top % 64 = 0) && decide (lim % 64 = 0) && decide (lim ≤ top)
  && decide (top ≤ 4096 * (t.vtFrame.getD k {}).size)

/-- The check of TIL.LS_CTRL (R148). -/
def lsCtrlOk (v : Nat) : Bool := decide (bits v 63 40 = 0) && decide (bits v 15 1 = 0) && decide (bits v 39 16 ≠ 0)

/-- The selected registers of a tile written. -/
def writeTileRegs (t : Tile) (k mask code stack ls : Nat) : Tile :=
  let c : CodeReg := { trapValid := bit code 63, trapEntry := bits code 62 48, sizeM1 := bits code 24 16, base := bits code 8 0 }
  { t with
    code := if bit mask 0 then t.code.set k c else t.code
    stackReg := if bit mask 1 then t.stackReg.set k { top := bits stack 52 32, limit := bits stack 19 0 } else t.stackReg
    waitLimit := if bit mask 2 then bits ls 39 16 else t.waitLimit
    lsDebug := if bit mask 2 then bit ls 0 else t.lsDebug }

/-- LOAD_REGS (R420, Table 5.2). -/
def loadRegs (s : State) (rs : Nat) : State :=
  ringEval s rs 0x11 (fun r d =>
    let u := steer s (d.f 8 2)
    let t := tileAt s u
    let m := d.f 0xB 1
    withFields s rs d [(decide (d.f 8 2 < 0x100), 8), (decide (d.f 0xA 1 < 4), 0xA), (decide (m ≠ 0) && decide (m < 8), 0xB)]
      (if t.testing then s
       else
         let st := loadTileStatus s r u
         if st ≠ 0 then ringComplete s rs d.k st 0 0
         else withFields s rs d [(!(bit m 0) || codeRegOk (d.f 0x10 8), 0x10), (!(bit m 1) || stackRegOk t (d.f 0xA 1) (d.f 0x18 8), 0x18),
                                 (!(bit m 2) || lsCtrlOk (d.f 0x20 8), 0x20)]
           (ringComplete (setTile s u (writeTileRegs t (d.f 0xA 1) m (d.f 0x10 8) (d.f 0x18 8) (d.f 0x20 8))) rs d.k 0 0 0)))

/-! ### Configuration descriptors (R421) -/

/-- The CONFIG word of a class (Table 8.5), VALID, PARTITION and the floor kept. -/
def classWith (c : WClass) (v : Nat) : WClass :=
  { c with dispatch := bits v 55 54, propagate := bit v 53, siftStand := bits v 52 50, trail := bits v 49 38, trailValid := bit v 37
           poolCount := bits v 36 26, poolFirst := bits v 25 16, maxInflight := bits v 15 0 }

/-- CLASS_CONFIG applied for a partition (R235, R421): the state and the status. -/
def classConfig (s : State) (p c v : Nat) : State × Nat :=
  let x := classAt s c
  let y := classWith x v
  if !(decide (c < 64) && x.valid && decide (x.part = p)) then (s, 0x10)
  else if 2 ^ 56 ≤ v ∨ y.dispatch = 3 ∨ 4 < y.siftStand ∨ 1024 < y.poolFirst + y.poolCount then (s, 0x11)
  else if y.trailValid && !(trailOwned s y.trail p) then (s, 0x10)
  else if y ≠ { x with maxInflight := y.maxInflight } ∧ 0 < countRecs s (fun r => decide (r.cls = c)) then (s, 0x15)
  else (settleTakes { s with sch := { s.sch with classes := s.sch.classes.set c y } }, 0)

/-- CLASS_CONFIG. -/
def classConfigDesc (s : State) (rs : Nat) : State :=
  ringEval s rs 0x18 (fun r d => withFields s rs d [(decide (d.f 8 1 < 64), 8)]
    (atUnit s rs d 0x301 (let x := classConfig s r.part (d.f 8 1) (d.f 0x10 8)
                          ringComplete x.1 rs d.k x.2 0 (if x.2 = 0x11 then 0x10 else 0))))

/-- Fields of the trail configuration word (Table 9.1): the policy skips, items are traced, the outputs of an item. -/
def trailWordSkip (v : Nat) : Bool := bit v 58
def trailWordTrace (v : Nat) : Bool := bit v 57
def trailWordOut (v : Nat) : Nat := bits v 56 50
/-- The word names no reserved encoding. -/
def trailWordOk (v : Nat) : Bool := decide (bits v 49 0 = 0) && decide (trailWordOut v ≤ 64)

/-- TRAIL_CONFIG: the word of Table 9.1 with [63:59] zero (R260, R261). -/
def trailConfigDesc (s : State) (rs : Nat) : State :=
  ringEval s rs 0x19 (fun r d =>
    let v := d.f 0x10 8
    withFields s rs d [(decide (d.f 8 2 < 4096), 8), (decide (v < 2 ^ 59) && trailWordOk v, 0x10)]
      (atUnit s rs d 0x305 (let x := trailConfig s r.part (d.f 8 2) (trailWordSkip v) (trailWordTrace v) (trailWordOut v)
                            ringComplete x.1 rs d.k x.2 0 (if x.2 = 0x11 then 0x10 else 0))))

/-- TRAIL_CTRL: the action goes to the gate (R276). -/
def trailCtrlDesc (s : State) (rs : Nat) : State :=
  ringEval s rs 0x1A (fun r d => withFields s rs d [(decide (d.f 8 2 < 4096), 8), (decide (d.f 0xA 1 < 3), 0xA)]
    (sendDesc s rs r d 0x305 (.trailCtrl (d.f 8 2) (if d.f 0xA 1 = 0 then .skip else if d.f 0xA 1 = 1 then .pass else .reset))))

/-- LOCK_CONFIG applied for a partition (R352): the state and the status. -/
def lockConfig (s : State) (p g : Nat) (cfg : Option Nat) (inits : List (Nat × Nat)) : State × Nat :=
  let x := lockGroup s g
  let y : LockGroup := match cfg with
    | some c => { x with mode := bit c 0, orphan := bit c 1, node := bit c 2, host := bit c 3, watch := bit c 4 }
    | none => x
  if !(decide (g < 64) && x.valid && decide (x.part = p)) then (s, 0x10)
  else if (y.mode ≠ x.mode ∨ !inits.isEmpty) ∧ !(groupIdle s g) then (s, 0x15)
  else
    let s1 : State := { s with lck := { s.lck with groups := s.lck.groups.set g y } }
    (inits.foldl (fun s i => setCell s (64 * g + i.1) { cellAt s (64 * g + i.1) with init := i.2, count := i.2 }) s1, 0)

/-- LOCK_CONFIG. -/
def lockConfigDesc (s : State) (rs : Nat) : State :=
  ringEval s rs 0x1B (fun r d =>
    let set := d.f 9 1
    let first := d.f 0xB 1
    let n := d.f 0xC 1
    withFields s rs d [(decide (d.f 8 1 < 64), 8), (decide (set < 4), 9), (decide (d.f 0xA 1 < 32), 0xA),
                       (!(bit set 1) || decide (first < 64), 0xB), (!(bit set 1) || (inRange 1 16 n && decide (first + n ≤ 64)), 0xC)]
      (atUnit s rs d 0x304 (let x := lockConfig s r.part (d.f 8 1) (if bit set 0 then some (d.f 0xA 1) else none)
                              (if bit set 1 then (List.range n).map (fun i => (first + i, d.f (0x10 + 2 * i) 2)) else [])
                            ringComplete x.1 rs d.k x.2 0 0)))

/-- OVERSPILL_CONFIG with an action: 0 disable, 1 enable (R300). -/
def overspillDesc (s : State) (rs action : Nat) : State :=
  ringEval s rs 0x1C (fun r d =>
    if d.f 8 1 ≠ action ∧ d.f 8 1 < 2 then s
    else
      let dis := decide (action = 0)
      withFields s rs d [(decide (d.f 8 1 < 2), 8), (!dis || decide (d.f 9 1 = 0), 9), (!dis || decide (d.f 0x10 8 = 0), 0x10)]
        (let x := if dis then ovfDisable s r.part else ovfEnable s r.part (d.f 0x10 8) (d.f 9 1)
         ringComplete x.1 rs d.k x.2 0 (if x.2 ≠ 0x11 then 0 else if inRange 24 32 (d.f 9 1) then 0x10 else 9)))

/-- TRACE_CONFIG applied for a partition: destination 1 + p (R285, R288, R421). -/
def traceConfig (s : State) (p base ctrl filter : Nat) : State × Nat :=
  let d := 1 + p
  let x := destAt s d
  if !(decide (base < 2 ^ 44) && decide (base % 4096 = 0) && decide (bits ctrl 63 48 = 0) && decide (bits ctrl 47 9 = 0)
        && inRange 7 25 (bits ctrl 8 4) && decide (bits ctrl 3 1 = 0) && decide (bits filter 47 32 = 0) && decide (bits filter 18 0 = 0)) then (s, 0x11)
  else if x.enable && !(decide (base = x.base) && decide (bits ctrl 8 4 = x.n)) then (s, 0x14)
  else
    (spCtrlSet (setDest s d { x with base := base, evMask := bits filter 63 48, clsLo := bits filter 31 26, clsHi := bits filter 25 20
                                     trailOnly := bit filter 19 }) d (ctrl + 2 ^ 48 * x.stallLimit), 0)

/-- TRACE_CONFIG. -/
def traceConfigDesc (s : State) (rs : Nat) : State :=
  ringEval s rs 0x1D (fun r d =>
    let x := traceConfig s r.part (d.f 8 8) (d.f 0x10 8) (d.f 0x18 8)
    ringComplete x.1 rs d.k x.2 0 (if x.2 = 0x11 then 0xFF else 0))

/-! ### Answers (R406, R411, R416, R417, R432) -/

/-- The descriptor a request serves, short or long. -/
def descAt (s : State) (rs k : Nat) : Option RDesc :=
  match (ringAt s rs).cur with
  | some d => if d.k = k then some d else longAt s rs k
  | none => longAt s rs k

/-- WAIT: a LOCK or CTX_RELEASE accepted by its unit becomes long. -/
def ringWait (s : State) (rs k : Nat) : State :=
  let r := ringAt s rs
  match r.cur with
  | some d =>
    if d.k = k ∧ d.phase = 2 ∧ (d.op = 9 ∨ d.op = 7) then
      let s1 := ringDrain (makeLong s rs d) rs
      if r.state = 2 then sendCancel s1 r d else s1
    else s
  | none => s

/-- A LAUNCH or SIFT that its unit had no space for is held and repeated every 256 cc; NOHOLD or a draining ring set ends it
(R402, R411, R416). -/
def ringHold (s : State) (o : OutReq) (rs : Nat) (d : RDesc) (st : Nat) : State :=
  if (ringAt s rs).state = 2 then ringDrain (ringDiscard s rs) rs
  else if d.nohold then ringComplete s rs d.k (if d.op = 8 then 9 else st) 0 0
  else
    let s1 := modRing s rs (fun r => { r with cur := some { d with phase := 3, again := now s + 256 } })
    { s1 with outs := s1.outs ++ [{ o with timer := none, againAt := some (now s + 256) }] }

/-- The result word of a descriptor's unit arrives. -/
def ringResult (s : State) (o : OutReq) (rs k : Nat) (w : W64) : State :=
  match descAt s rs k with
  | none => s
  | some d =>
    let st := resultStatus w
    let v := bits w.toNat 47 16
    let det := if st = 0x11 then 0xFF else 0
    if d.op = 2 then
      (if st = 0 then
         ringComplete (if d.wantsHost then modRing s rs (fun r => { r with retire := r.retire ++ [(v, d.seq)] }) else s) rs k 0 v 0
       else if st = 9 ∨ st = 0xA then ringHold s o rs d st
       else ringComplete s rs k st 0 det)
    else if d.op = 8 then (if st = 0 then ringDrain (makeLong s rs d) rs else ringHold s o rs d st)
    else ringComplete s rs k st (if d.op = 9 ∨ d.op = 7 ∨ (d.op = 6 ∧ st = 0) then v else 0) det

/-- HELD_DESCRIPTOR_REPEAT: a held descriptor's request is repeated, a LAUNCH with its tag (R252, R343). -/
def heldRepeat (s : State) (rs : Nat) : State :=
  let r := ringAt s rs
  match r.cur with
  | none => s
  | some d =>
    if !(bridgeRuns s r.port) || decide (d.phase ≠ 3) || decide (now s < d.again) then s
    else match s.outs.find? (fun o => decide (o.use = .desc rs d.k) && o.againAt.isSome) with
    | none => s
    | some o =>
      let s1 := modRing s rs (fun r => { r with cur := some { d with phase := 2 } })
      let rest := s1.outs.erase o
      if d.op = 8 then sendSift { s1 with outs := rest } rs r d
      else
        sendPkt { s1 with outs := rest ++ [{ o with againAt := none, timer := some (now s + e2eLimit s) }] }
          { cls := 2, dest := o.target, src := rqId o.unit o.sub, part := o.part, tag := o.tag, body := o.body }

end Sys2Proof.Machine
end

