-- ==== Sys2Proof/Machine/Requests.lean ====
section
/-! DEFINITION. What a requester does with its outstanding requests: the matching of responses, repeats, timers and
abandonment, purges, and TOKEN acknowledgements (chapter 11, R94, R252, R338 to R343, R587, R588). -/

namespace Sys2Proof.Machine

/-- The packet of an outstanding request, with its tag. -/
def repeatPkt (o : OutReq) : Packet :=
  { cls := 2, dest := o.target, src := rqId o.unit o.sub, part := o.part, tag := o.tag, body := o.body }

/-- The header of an outstanding request. -/
def reqHeader (o : OutReq) : Nat := packetHeader (repeatPkt o)

/-! ### Abandonment (R340, R341, R585, R587) -/

/-- E2E_TIMEOUT for an abandoned request, with the layout of Table 16.2. -/
def e2eRaise (s : State) (o : OutReq) (reason6 : Bool) (orph : Option Nat) : State :=
  raiseAbout s Kind.e2eTimeout (rqId o.unit o.sub) o.unit (some o.part)
    (o.target % 2 ^ 12 + 2 ^ 19 + 2 ^ 20 * b2n reason6) (reqHeader o) orph

/-- A copy or load whose access was abandoned completes with TIMEOUT and the bytes done. -/
def longTimeout (s : State) (rs k : Nat) : State :=
  match longAt s rs k with
  | none => s
  | some d =>
    let b := (ringAt s rs).port
    let s1 := ringComplete s rs k 0xB (64 * d.done) 0
    if d.op = 0xB then copyKick (copyForget s1 b) b else s1

/-- A placement read ended without a result, or with a void one: it is reissued with a new tag (R48, R49). -/
def reaskPlace (s : State) (o : OutReq) (vt : Nat) : State :=
  let t := tileAt s o.unit
  askPlace (setTile s o.unit { t with fills := t.fills.filter (fun f => !(decide (f.tag = o.tag))), pMisses := (t.pMisses + 2 ^ 24 - 1) % 2 ^ 24 })
    o.unit o.part vt (some o.tag)

/-- How an operation ends whose request was abandoned: with status TIMEOUT under its owning chapter, and with the record of
the abandonment. -/
def abandonUse (s : State) (o : OutReq) (reason6 : Bool) : State :=
  let rec1 (s : State) : State := e2eRaise s o reason6 none
  match o.use with
  | .load _ _ _ _ => memFailBy s o (fun s orph => e2eRaise s o reason6 orph)
  | .store => memFailBy s o (fun s orph => e2eRaise s o reason6 orph)
  | .aadd _ _ => memFailBy s o (fun s orph => e2eRaise s o reason6 orph)
  | .dmaRead k _ => xferStop s o.unit k (fun s _ orph => e2eRaise s o reason6 orph)
  | .dmaWrite k _ => xferStop s o.unit k (fun s _ orph => e2eRaise s o reason6 orph)
  | .siftRead id l => sifFail s o id Kind.e2eTimeout l (fun s _ => rec1 s)
  | .siftWrite id a => sifFail s o id Kind.e2eTimeout a (fun s _ => rec1 s)
  | .result rd => unblock (rec1 s) o rd (resultWord true 0 0x0B)
  | .spawn rd _ => unblock (rec1 s) o rd (resultWord true 0 0x0B)
  | .take rd => unblock (rec1 s) o rd (resultWord true 0 0x0B)
  | .takeCancel tag =>
    modThread (rec1 s) o.unit (fun th => match th.block with
      | some (.take rd t lim _) => if t = tag then { th with block := some (.take rd t lim false) } else th
      | _ => th)
  | .fill vt => reaskPlace (rec1 s) o vt
  | .spill ents isUnfire => spillAnswer (rec1 s) o ents isUnfire false 0
  | .fetch key refire => fetchAnswer (rec1 s) o key refire [] false
  | .notice p c => releaseAbandon (rec1 s) p c
  | .desc rs k => ringComplete (rec1 s) rs k 0xB 0 0
  | .retire i => effectAccepted (rec1 s) i
  | .admitSeq _ => admitSeqAnswer (rec1 s) false 0x0B 0
  | .copyRead rs k _ => longTimeout (rec1 s) rs k
  | .copyWrite rs k _ => longTimeout (rec1 s) rs k
  | .codeRead rs k _ => longTimeout (rec1 s) rs k
  | .siftRec i => sifterAnswer (rec1 s) o i false
  | .complete _ | .trailSend _ | .siftDone _ | .gateDone _ | .gateSend _ | .other => rec1 s

/-- A request that is no longer outstanding is abandoned: it counts, and its operation ends (R340). -/
def abandonReq (s : State) (o : OutReq) (reason6 : Bool) : State :=
  abandonUse { s with noc := { s.noc with e2eTimeouts := (s.noc.e2eTimeouts + 1) % 2 ^ 16 } } o reason6

/-! ### Answers (R326, R333, R341) -/

/-- The value of a result word. -/
def resultValue (w : W64) : Nat := bits w.toNat 47 16

/-- A final answer that is not a RESULT ends an operation that expects one with status FAULTED: the word of a node-code
instruction. -/
def faultedWord (r : Resp) : W64 :=
  resultWord true (match r with
    | .refused k => k
    | _ => 0xFF) 3

/-- The REFUSED reason of an answer, 0xFF for another opcode. -/
def refusedCode : Resp → Nat
  | .refused k => k
  | _ => 0xFF

/-- A placement read returns (R48, R49): the cache is filled, or an unbound send at the head is dropped, and requests that
waited for it fail. -/
def placeAnswer (s : State) (o : OutReq) (vt : Nat) (r : Resp) : State :=
  let u := o.unit
  let t := tileAt s u
  match t.fills.find? (fun f => decide (f.tag = o.tag)) with
  | none => s
  | some f =>
    if f.void then reaskPlace s o vt
    else
      let s1 := setTile s u { t with fills := t.fills.erase f }
      match r with
      | .placeData unit slot gen => cacheFill s1 u { part := o.part, vt := vt, unit := unit, slot := slot, gen := gen }
      | _ =>
        let mine := t.memWait.filter (fun m => decide (m.vt = vt))
        let s2 := modTile s1 u (fun t => { t with memWait := t.memWait.filter (fun m => !(decide (m.vt = vt))) })
        let s3 := mine.foldl (fun s m => match m.req.use with
          | .dmaWrite k l => xferRefused s m.req k l Kind.addressUnmapped true
          | _ => memFail s m.req Kind.addressUnmapped) s2
        match (tileAt s3 u).send with
        | e :: rest =>
          if tagVt e.tok.tag = vt ∧ e.trail = none then
            drainSends (raise (modTile s3 u (fun t => { t with send := rest })) Kind.tokenUnboundVtile (rqId u 0) (some o.part)
              (rqId u 0 + 2 ^ 14 * (e.pc % 2 ^ 17) + 2 ^ 31 * b2n e.bundle) e.tok.tag.toNat) u
          else drainSends s3 u
        | [] => s3

/-- The final answer of a request that is no longer outstanding. -/
def finalAnswer (s : State) (o : OutReq) (r : Resp) : State :=
  match o.use, r with
  | .load _ _ _ _, .refused k => memFail s o (refusedKind k)
  | .store, .refused k => memFail s o (refusedKind k)
  | .aadd _ _, .refused k => memFail s o (refusedKind k)
  | .load _ _ _ _, r => memData s o r
  | .store, _ => s
  | .aadd _ _, r => memData s o r
  | .dmaRead k l, .dataBytes bs p => xferData s o k l bs p
  | .dmaRead k l, r => xferRefused s o k l (refusedKind (refusedCode r)) false
  | .dmaWrite k _, .writeAck _ => xferLanded s o.unit k
  | .dmaWrite k l, r => xferRefused s o k l (refusedKind (refusedCode r)) true
  | .siftRead id l, .dataBytes bs p => sifData s o id l bs p
  | .siftRead id l, _ => sifRefused s o id Kind.siftAddressInvalid l
  | .siftWrite id _, .writeAck _ => sifAcked s o id
  | .siftWrite id a, _ => sifRefused s o id Kind.siftAddressInvalid a
  | .result rd, .result w => unblock s o rd w
  | .result rd, r => unblock s o rd (faultedWord r)
  | .spawn _ _, .result w => tileResult s o w
  | .spawn rd _, r => unblock s o rd (faultedWord r)
  | .take _, .result w => tileResult s o w
  | .take rd, r => unblock s o rd (faultedWord r)
  | .takeCancel _, .result w => tileResult s o w
  | .complete _, .result w => tileResult s o w
  | .trailSend _, .result w => tileResult s o w
  | .fill vt, r => placeAnswer s o vt r
  | .spill ents isUnfire, .spillData st n => spillAnswer s o ents isUnfire (decide (st = 0)) n
  | .spill ents isUnfire, _ => spillAnswer s o ents isUnfire false 0
  | .fetch key refire, .fetchData toks more => fetchAnswer s o key refire toks more
  | .fetch key refire, _ => fetchAnswer s o key refire [] false
  | .notice p c, .result w => releaseAgentAck s p c (resultValue w)
  | .notice p c, _ => releaseAbandon s p c
  | .desc rs k, .result w => ringResult s o rs k w
  | .desc rs k, r => ringComplete s rs k 3 0 (refusedCode r)
  | .retire i, _ => effectAccepted s i
  | .admitSeq _, .seqData st q => admitSeqAnswer s (decide (st = 0)) st q
  | .admitSeq _, _ => admitSeqAnswer s false 3 0
  | .copyRead rs k l, .dataBytes bs p => copyData s rs k l bs p
  | .copyRead rs k l, r => copyRefused s rs k (refusedCode r) (((longAt s rs k).map (fun d => d.f 8 8 + 64 * l)).getD 0)
  | .copyWrite rs k _, .writeAck _ => copyDone s rs k
  | .copyWrite rs k l, r => copyRefused s rs k (refusedCode r) (((longAt s rs k).map (fun d => d.f 0x10 8 + 64 * l)).getD 0)
  | .codeRead rs k l, .dataBytes bs p =>
    if p ≠ 0 then loadRefused s rs k 5 else loadData s rs k l bs
  | .codeRead rs k _, r => loadRefused s rs k (refusedCode r)
  | .siftRec i, .result w => sifterAnswer s o i (!(resultFail w))
  | .siftRec i, _ => sifterAnswer s o i false
  | .takeCancel _, _ => s
  | .complete _, _ => s
  | .trailSend _, _ => s
  | .siftDone _, _ => s
  | .gateDone _, _ => s
  | .gateSend _, _ => s
  | .other, _ => s

/-- Whether an outstanding request is answered by WRITE_ACK. -/
def writes : Body → Bool
  | .writeWord _ _ _ => true
  | .lineWrite _ _ _ _ _ => true
  | .xferLine _ _ _ _ _ => true
  | _ => false

/-- Whether an answer can be one to a request: WRITE_ACK to a write, any other data to a request that is no line write. -/
def fits (b : Body) : Resp → Bool
  | .writeAck _ => writes b
  | .refused _ => true
  | .busyRetry _ => true
  | _ => !(writes b)

/-- The outstanding request that a response answers: by partition, TAG and SUBREQ among the requester's own (R25, R333); where two
targets' requests carry one TAG, the one whose target, or the tile standing in for it, answered. -/
def matchOut (s : State) (unit sub part tag : Nat) (from_ : Nat) (r : Resp) : Option OutReq :=
  let c := s.outs.filter (fun o => decide (o.unit = unit) && decide (o.sub = sub) && decide (o.part = part) && decide (o.tag = tag) && fits o.body r
    && o.busyAt.isNone && o.againAt.isNone)
  match c.find? (fun o => decide (o.target = from_) || decide (steer s o.target = from_)) with
  | some o => some o
  | none => c.head?

/-- A request is refused after its eighth repeat (R94, R253, R432). -/
def busyExhausted (s : State) (o : OutReq) (hint : Nat) : State :=
  let s1 := if isTile o.unit then
      raise s Kind.retryExhausted (rqId o.unit o.sub) (some o.part) (reqAddr o) o.itag.toNat
    else s
  match o.use with
  | .result rd => unblock s1 o rd (resultWord true 0 8)
  | .spawn rd _ => unblock s1 o rd (resultWord true 0 8)
  | .take rd => unblock s1 o rd (resultWord true 0 8)
  | .load _ _ _ _ | .aadd _ _ => memBusy s1 o (resultWord true 0 8)
  | .desc rs k => ringComplete s1 rs k 8 0 hint
  | .dmaRead k l => xferRefused s1 o k l Kind.addressUnmapped false
  | .dmaWrite k l => xferRefused s1 o k l Kind.addressUnmapped true
  | .siftRead id l => sifRefused s1 o id Kind.siftAddressInvalid l
  | .siftWrite id a => sifRefused s1 o id Kind.siftAddressInvalid a
  | .fill vt => reaskPlace s1 o vt
  | .spill ents isUnfire => spillAnswer s1 o ents isUnfire false 0
  | .fetch key refire => fetchAnswer s1 o key refire [] false
  | .notice p c => releaseAbandon s1 p c
  | .retire i => effectAccepted s1 i
  | .admitSeq _ => admitSeqAnswer s1 false 8 0
  | .copyRead rs k _ => copyRefused s1 rs k 5 0
  | .copyWrite rs k _ => copyRefused s1 rs k 5 0
  | .codeRead rs k _ => loadRefused s1 rs k 5
  | .siftRec i => sifterAnswer s1 o i false
  | .store | .takeCancel _ | .complete _ | .trailSend _ | .siftDone _ | .gateDone _ | .gateSend _ | .other => s1

/-- A response is given to the request it answers. -/
def answerReq (s : State) (o : OutReq) (r : Resp) : State :=
  let rest : State := { s with outs := s.outs.erase o }
  match r with
  | .wait =>
    let taking := match o.use with
      | .take _ => true
      | _ => false
    let s1 : State := { s with outs := s.outs.map (fun x => if x = o then
      { x with waited := true, timer := if taking then none else some (unitNow s o.unit + e2eLimit s) } else x) }
    (match o.use with
     | .desc rs k => ringWait s1 rs k
     | _ => s1)
  | .busyRetry hint =>
    if 8 ≤ o.busyN then flushWait (busyExhausted rest o hint)
    else { rest with outs := rest.outs ++ [{ o with timer := none, busyAt := some (unitNow s o.unit + hint), busyN := o.busyN + 1 }] }
  | .refused 6 => flushWait (abandonReq rest o true)
  | r => flushWait (finalAnswer rest o r)

/-- A response packet as it waits in the network. -/
def rspPkt (unit src part tag sub : Nat) (r : Resp) : Packet :=
  { cls := 3, dest := unit, src := src, part := part, tag := tag, body := .rsp sub r }

/-- A response reaches a unit. Where `want` holds of the request that it answers it is given to it; one that answers no
outstanding request is discarded and counted (R340). -/
def takeRsp (s : State) (unit src part tag sub : Nat) (r : Resp) (want : Use → Bool) (stray : Bool) : State :=
  if !(working s && arrivable s (rspPkt unit src part tag sub r)) then s
  else
    let s1 := takePkt s (rspPkt unit src part tag sub r)
    match matchOut s unit sub part tag (src / 4) r with
    | some o => if want o.use then answerReq s1 o r else s
    | none => if stray then { s1 with noc := { s1.noc with dupRsp := (s1.noc.dupRsp + 1) % 2 ^ 32 } } else s

/-- RESPONSE_ARRIVAL. -/
def responseArrival (s : State) (unit src part tag sub : Nat) (r : Resp) : State :=
  takeRsp s unit src part tag sub r (fun _ => true) true

/-- Whether a request is a load, store or AADD of node code. -/
def Use.memory : Use → Bool
  | .load _ _ _ _ | .store | .aadd _ _ => true
  | _ => false

/-- MEMORY_RESPONSE. -/
def memoryResponse (s : State) (unit src part tag : Nat) (r : Resp) : State :=
  takeRsp s unit src part tag 0 r Use.memory false

/-- PLACE_FILL. -/
def placeFill (s : State) (unit src part tag : Nat) (r : Resp) : State :=
  takeRsp s unit src part tag 3 r (fun u => match u with
    | .fill _ => true
    | _ => false) false

/-- SPILL_ANSWER. -/
def spillAnswerArrival (s : State) (unit src part tag : Nat) (r : Resp) : State :=
  takeRsp s unit src part tag 3 r (fun u => match u with
    | .spill _ _ => true
    | _ => false) false

/-- FETCH_DATA. -/
def fetchDataArrival (s : State) (unit src part tag : Nat) (r : Resp) : State :=
  takeRsp s unit src part tag 3 r (fun u => match u with
    | .fetch _ _ => true
    | _ => false) false

/-- CTX_RELEASE_ACK from a tile: its CTX_END_ACK reaches the pool. -/
def ctxEndAckArrival (s : State) (unit part ctx count : Nat) : State :=
  let p : Packet := { cls := 0, dest := 0x303, src := rqId unit 0, part := part, body := .ctxEndAck ctx count }
  if !(working s && arrivable s p) then s
  else releaseTileAck (takePkt s p) part ctx unit count

/-- CTX_RELEASE_ACK from the agent: the answer of the release notice reaches the pool. -/
def noticeAckArrival (s : State) (src part tag : Nat) (r : Resp) : State :=
  takeRsp s 0x303 src part tag 0 r (fun u => match u with
    | .notice _ _ => true
    | _ => false) false

/-! ### Repeats and timers (R94, R252, R340, R343) -/

/-- Whether a requester unit takes part: the work units run, and a tile is in service. -/
def unitRuns (s : State) (u : Nat) : Bool := if isTile u then tileRuns s u else working s

/-- An outstanding request is sent again with the same tag and its timer restarted; `f` notes the repeat. -/
def resend (s : State) (o : OutReq) (f : OutReq → OutReq) : State :=
  sendPkt { s with outs := s.outs.map (fun x => if x = o then f { x with timer := some (unitNow s o.unit + e2eLimit s) } else x) } (repeatPkt o)

/-- The outstanding request of a requester in a partition to a target with a tag (R25). -/
def outAtTag (s : State) (unit sub part target tag : Nat) (p : OutReq → Bool) : Option OutReq :=
  s.outs.find? (fun o => decide (o.unit = unit) && decide (o.sub = sub) && decide (o.part = part) && decide (o.target = target) && decide (o.tag = tag) && p o)

/-- BUSY_RETRY_REPEAT: the hinted delay has passed. -/
def busyRetryRepeat (s : State) (unit sub part target tag : Nat) : State :=
  match outAtTag s unit sub part target tag (fun o => match o.busyAt with
    | some t => decide (t ≤ unitNow s unit)
    | none => false) with
  | some o => if unitRuns s unit then resend s o (fun o => { o with busyAt := none }) else s
  | none => s

/-- SPAWN_REPEAT: a refused SPAWN is repeated every 64 cc. -/
def spawnRepeat (s : State) (unit part target tag : Nat) : State :=
  match outAtTag s unit 0 part target tag (fun o => (match o.use with
      | .spawn _ _ => true
      | _ => false) && (match o.againAt with
      | some t => decide (t ≤ tileNow s)
      | none => false)) with
  | some o => if tileRuns s unit then resend s o (fun o => { o with againAt := none }) else s
  | none => s

/-- The end-to-end timer of a request expires (R340): the request is repeated, or abandoned. -/
def requestTimer (s : State) (unit sub part target tag : Nat) : State :=
  match outAtTag s unit sub part target tag (fun o => match o.timer with
    | some t => decide (t ≤ unitNow s unit)
    | none => false) with
  | none => s
  | some o =>
    if !(unitRuns s unit) then s
    else if !(neverOp o.body) && (o.waited || decide (o.repeats < s.noc.repeats)) then
      resend s o (fun o => if o.waited then o else { o with repeats := o.repeats + 1 })
    else flushWait (abandonReq { s with outs := s.outs.erase o } o false)

/-- No TOKEN_ACK has come for the timeout: E2E_TIMEOUT, and the outstanding packets count as accepted (R588). -/
def ackTimer (s : State) (unit : Nat) : State :=
  let rec1 (s : State) (p : Packet) : State :=
    raise s Kind.e2eTimeout (rqId unit 0) (some p.part) (p.dest % 2 ^ 12 + 2 ^ 18) (packetHeader p)
  if unit = 0x305 then
    (match s.trl.acks, s.trl.ackTimer with
     | p :: _, some t => if working s && decide (t ≤ now s) then gateAckAll (rec1 s p.1) else s
     | _, _ => s)
  else
    match (tileAt s unit).ackPend, (tileAt s unit).ackTimer with
    | p :: _, some t =>
      if tileRuns s unit && decide (t ≤ tileNow s) then modTile (rec1 s p) unit (fun t => { t with ackPend := [], ackTimer := none }) else s
    | _, _ => s

/-- TOKEN_ACK: the oldest packets that a sender has sent to the acknowledging tile are accepted (R588). -/
def tokenAckArrival (s : State) (unit src part n : Nat) : State :=
  let p : Packet := { cls := 0, dest := unit, src := src, part := part, body := .tokenAck n }
  if !(clocked s && isUnit unit && arrivable s p) then s
  else if !(isTile unit || decide (unit = 0x305)) then dropPkt s unit p
  else
    let s1 := takePkt s p
    if unit = 0x305 then gateAck s1 (src / 4) n
    else
      let t := tileAt s1 unit
      let mine := (t.ackPend.filter (fun q => decide (steer s q.dest = src / 4) || decide (q.dest = src / 4))).take n
      let rest := mine.foldl (fun l x => l.erase x) t.ackPend
      setTile s1 unit { t with ackPend := rest, ackTimer := if rest.isEmpty then none else some (tileNow s + e2eLimit s) }

/-! ### Purges (R342) -/

/-- A purge of a requester's cached requests starts: its tag counters restart, its cached requests are no longer
outstanding, and REPLAY_PURGE goes to the seven targets. -/
def startPurge (s : State) (by_ rq part : Nat) : State :=
  let mine (o : OutReq) : Bool := decide (rqId o.unit o.sub = rq) && decide (o.part = part) && cachedOp o.body
  let s1 : State := { s with
    tagCtrs := s.tagCtrs.filter (fun c => !(decide (c.src = rq) && decide (c.part = part)))
    outs := s.outs.filter (fun o => !(mine o))
    sendWait := s.sendWait.filter (fun o => !(mine o))
    purges := s.purges.filter (fun p => !(decide (p.src = rq) && decide (p.part = part))) ++ [{ src := rq, part := part, await := replayTargets }] }
  replayTargets.foldl (fun s u => sendMgmt s (rqId by_ 0) u part 0 (.replayPurge rq part)) s1

/-- REPLAY_PURGE: a target removes the requester's entries and acknowledges. -/
def replayPurge (s : State) (target src rq part : Nat) : State :=
  let p : Packet := { cls := 0, dest := target, src := src, part := part, body := .replayPurge rq part }
  if !(clocked s && isUnit target && arrivable s p) then s
  else if !(replayTargets.contains target) then dropPkt s target p
  else
    let s1 := takePkt s p
    sendMgmt { s1 with replays := s1.replays.filter (fun e => !(decide (e.target = target) && decide (e.src = rq) && decide (e.part = part))) }
      (rqId target 0) (src / 4) part 0 (.replayPurgeAck rq part)

/-- REPLAY_PURGE_ACK: after all seven, the requester sends cached requests again; in Safe none is sent (R345). -/
def replayPurgeAck (s : State) (unit target rq part : Nat) : State :=
  let p : Packet := { cls := 0, dest := unit, src := rqId target 0, part := part, body := .replayPurgeAck rq part }
  if !(clocked s && arrivable s p) then s
  else
    let s1 := takePkt s p
    let s2 : State := { s1 with purges := (s1.purges.map (fun x =>
      if x.src = rq ∧ x.part = part then { x with await := x.await.erase target } else x)).filter (fun x => !x.await.isEmpty) }
    if inSafe s2 then s2 else flushWait s2

end Sys2Proof.Machine
end

