-- ==== Sys2Proof/Machine/Functions.lean ====
section
/-! DEFINITION. Resets of host functions (R385, R386): what stops when a function is reset, unbound, or loses Bus Master
Enable. -/

namespace Sys2Proof.Machine

/-- The sub-requester of a function: 0 the PF, 1 a VF (R24). -/
def fnSub (f : Nat) : Nat := if f = 0 then 0 else 1

/-- The record of a function's reset with ORPHAN set (R495); a function bound to no partition raises nothing. -/
def fnOrphan (s : State) (b f kind : Nat) : State :=
  match (fnAt s b f).part with
  | some p => raiseAbout s kind (rqId (bridgeUnit b) 0) (bridgeUnit b) (some p) 0 (2 * f) (some (fnSub f))
  | none => s

/-- A function's ring sets go back to their reset values, what the bridge holds for them is discarded, its cached requests are
purged, and its translations are discarded (R385, R389). -/
def fnQuit (s : State) (b f : Nat) : State :=
  let s1 := ringsApply s (fun r => r.alloc && decide (r.port = b) && decide (r.fn = f)) ringReset
  let s2 := match (fnAt s b f).part with
    | some p => startPurge s1 (bridgeUnit b) (rqId (bridgeUnit b) (fnSub f)) p
    | none => s1
  atcDrop s2 b f

/-- A function's service stops: its locks are orphaned through the collector, and it quits (R385, R495). -/
def fnStop (s : State) (b f : Nat) : State := fnQuit (fnOrphan s b f Kind.hostFunctionReset) b f

/-- A function's configuration goes back to its reset values; its binding and vectors stay. -/
def fnConfigReset (s : State) (b f : Nat) : State :=
  let x := fnAt s b f
  setFn s b f { part := x.part, pasid := x.pasid, vecs := x.vecs, vecBase := x.vecBase }

/-- A reset of a function: its service stops and its configuration is reset. -/
def fnReset (s : State) (b f : Nat) : State := fnConfigReset (fnStop s b f) b f

/-- A reset of every function of a port, VF Enable cleared. -/
def portReset (s : State) (b : Nat) : State :=
  let s1 := (List.range 17).foldl (fun s f => fnReset s b f) s
  setHif s1 b { hifAt s1 b with vfEnable := false }

end Sys2Proof.Machine
end

