-- ==== Sys2Proof/Machine/HostPorts.lean ====
section
/-! DEFINITION. Host ports (chapter 13): link events, function resets, configuration requests, vendor-defined messages, the
completions of host accesses, IDE, MSI-X masks. -/

namespace Sys2Proof.Machine

/-- The unit identifier of port `b`. -/
def portUnit (b : Nat) : Nat := if b = 0 then 0x380 else 0x382

/-- Whether a port's PHY is released: bring-up is past step 0x04, a service level is reached, and the port and its bridge
passed BIST (R506, R518, R520). -/
def portReleased (s : State) (b : Nat) : Bool :=
  clocked s && decide (s.clr.step ≠ 0x0F) && decide (5 ≤ s.clr.step) && !(s.clr.conditions.getD (3 + b) false)

/-- A half of a port replaced. -/
def setHLink (s : State) (b h : Nat) (l : HLink) : State :=
  setHif s b { hifAt s b with links := (hifAt s b).links.set h l }

/-- Whether half `h` exists: half 1 only on a bifurcated port (R376). -/
def halfOk (s : State) (b h : Nat) : Bool := decide (b < 2) && (decide (h = 0) || (decide (h = 1) && (hifAt s b).bifurcated))

/-! ### Link events (R374, R384) -/

/-- What a training gives: CXL mode only with CXL.cache negotiated at 32 GT/s or above, on the half with the endpoint. -/
def trained (s : State) (b h : Nat) (cxl flit : Bool) (speed width : Nat) : HLink :=
  let l := linkHalf s b h
  { l with
    up := true
    cxl := cxl && decide (h = 0) && decide (5 ≤ speed)
    flit := flit || decide (speed = 6)
    speed := speed
    width := width
    reversed := bit s.ckr.straps 6
    lastSpeed := speed
    lastWidth := width }

/-- HOST_LINK_UP: a link trains. A rate or width below those of its last training is recorded. -/
def hostLinkUp (s : State) (b h : Nat) (cxl flit : Bool) (speed width : Nat) : State :=
  let maxW := if (hifAt s b).bifurcated then 8 else 16
  if !(portReleased s b) || !(halfOk s b h) || decide (speed = 0) || decide (6 < speed) || !([1, 2, 4, 8, 16].contains width) || decide (maxW < width) then s
  else
    let l := linkHalf s b h
    let s1 := setHLink s b h (trained s b h cxl flit speed width)
    if l.lastSpeed ≠ 0 ∧ (speed < l.lastSpeed ∨ width < l.lastWidth) then
      raise s1 Kind.hostLinkDegraded (rqId (portUnit b) 0) none 0 h
    else s1

/-- A link goes down: it is recorded once, and the functions of the link are reset. -/
def linkDown (s : State) (b h : Nat) : State :=
  let l := linkHalf s b h
  if !l.up then s
  else
    let s1 := raise (setHLink s b h { l with
        up := false, cxl := false, flit := false, speed := 0, width := 0, downEvents := (l.downEvents + 1) % 2 ^ 16 })
      Kind.hostLinkDown (rqId (portUnit b) 0) none 0 h
    if h = 0 then portReset s1 b else s1

/-- HOST_LINK_DOWN. -/
def hostLinkDown (s : State) (b h : Nat) : State := if clocked s && halfOk s b h then linkDown s b h else s

/-- HOST_LINK_ERROR: a correctable link error, or a received CXL viral indication (R373). -/
def hostLinkError (s : State) (b h : Nat) (viral : Bool) : State :=
  let l := linkHalf s b h
  if !(clocked s) || !(halfOk s b h) || !l.up || (viral && !l.cxl) then s
  else raise (setHLink s b h { l with linkErrors := (l.linkErrors + 1) % 2 ^ 16 }) Kind.hostLinkError (rqId (portUnit b) 0) none 0 h

/-! ### Function resets (R385, R386) -/

/-- Whether a function is present on its link. -/
def fnPresent (s : State) (b f : Nat) : Bool :=
  clocked s && decide (b < 2) && (linkHalf s b 0).up && (decide (f = 0) || (decide (f ≤ 16) && (hifAt s b).vfEnable))

/-- FUNCTION_LEVEL_RESET of a VF. -/
def flrVf (s : State) (b f : Nat) : State := if fnPresent s b f && decide (f ≠ 0) then fnReset s b f else s

/-- The counters that a PF FLR clears. -/
def hifCountersZero (h : Hif) : Hif :=
  { h with
    links := h.links.map (fun l => { l with downEvents := 0, linkErrors := 0 })
    hits := 0, misses := 0, invals := 0, cplErrors := 0, xlateFaults := 0, ideFailures := 0, discardedCpl := 0 }

/-- PF_FUNCTION_LEVEL_RESET. -/
def flrPf (s : State) (b : Nat) : State :=
  if fnPresent s b 0 then (let s1 := portReset s b; setHif s1 b (hifCountersZero (hifAt s1 b))) else s

/-- Bus Master Enable is cleared: the function's service stops. -/
def bmeClear (s : State) (b f : Nat) : State :=
  if fnPresent s b f && (fnAt s b f).bme then fnStop (setFn s b f { fnAt s b f with bme := false }) b f else s

/-! ### Configuration requests and vendor-defined messages (R379, R380, R506) -/

/-- The ring sets that a function carries. -/
def fnRings (s : State) (b f : Nat) : Nat :=
  (s.rings.filter (fun x => x.2.alloc && decide (x.2.port = b) && decide (x.2.fn = f))).length

/-- The MSI-X table size of a function (R392). -/
def fnVectors (s : State) (b f : Nat) : Nat := if f = 0 then 64 else (fnAt s b f).vecs

/-- What a configuration read returns. The monitor function (half 1) is bound to no partition and has neither ring sets nor MSI-X
(R376, Tables 13.2 and 13.3). The second word of the DVSEC is returned as its two counts: R380 does not place them. -/
def cfgRead (s : State) (b f half : Nat) (reg : CfgReg) : List Nat :=
  let monitor := decide (half = 1)
  match reg with
  | .deviceId => [if monitor then 0x72AF else if f = 0 then s.clr.part else 0x72A0]
  | .classCode => [0x120000]
  | .revisionId => [0x01]
  | .interruptPin => [0]
  | .capabilities => if monitor then [0, 1, 3, 9, 10, 11, 13] else if f = 0 then List.range 14 else [1, 2, 3, 4, 6, 7, 13]
  | .dvsec => [s.clr.part + 2 ^ 16 * (if monitor then 0xFF else ((fnAt s b f).part).getD 0xFF) + 2 ^ 24 * b + 2 ^ 25 * half]
  | .dvsecCounts => if monitor then [0, 0] else [fnRings s b f, fnVectors s b f]
  | .msixTableSize => if monitor then [] else [fnVectors s b f]

/-- The half of a port whose function a configuration request addresses. -/
def cfgHalf : CfgReq → Nat
  | .read h _ => h
  | _ => 0

/-- Whether the function that a configuration request addresses is present: on half 1 only the monitor function of a bifurcated port
(R376). -/
def cfgPresent (s : State) (b f half : Nat) : Bool :=
  if half = 0 then fnPresent s b f else decide (f = 0) && halfOk s b half && (linkHalf s b half).up

/-- The effect of a configuration request on its function. -/
def cfgApply (s : State) (b f : Nat) (r : CfgReq) : State :=
  let x := fnAt s b f
  match r with
  | .busMaster true => setFn s b f { x with bme := true }
  | .busMaster false => bmeClear s b f
  | .vfEnable on =>
    if f ≠ 0 then s
    else if on then setHif s b { hifAt s b with vfEnable := true }
    else
      let s1 := (List.range 16).foldl (fun s k => fnReset s b (k + 1)) s
      setHif s1 b { hifAt s1 b with vfEnable := false }
  | .ats on => let s1 := setFn s b f { x with atsEn := on }; if on then s1 else atcDrop s1 b f
  | .pasid on => setFn s b f { x with pasidEn := on }
  | .msixEnable on => sendPending (setFn s b f { x with msixEn := on }) b f
  | .functionMask on => sendPending (setFn s b f { x with fnMask := on }) b f
  | .cplTimeout us => if 50 ≤ us ∧ us ≤ 64000000 then setHif s b { hifAt s b with cplTimeout := us } else s
  | .read half reg => emit s (.cfgData b f half (cfgRead s b f half reg))
  | .other => s

/-- CONFIGURATION_REQUEST: Request Retry Status (2) until report-only service; then successful (0) with its effect or its data, or
Unsupported Request (1) for a function that is not present. -/
def configurationRequest (s : State) (b f : Nat) (r : CfgReq) : State :=
  if !(clocked s) || !(decide (b < 2)) || !(linkHalf s b (cfgHalf r)).up then s
  else if s.clr.service = 0 then emit s (.cfg b f 2)
  else if !(cfgPresent s b f (cfgHalf r)) then emit s (.cfg b f 1)
  else emit (cfgApply s b f r) (.cfg b f 0)

/-- VENDOR_DEFINED_MESSAGE: one from the fabric manager to the PF of port 0 is accepted, and the command that it carries is a
command of its own; Type 1 to another function is discarded, Type 0 is answered Unsupported Request. -/
def vdm (s : State) (b f : Nat) (type0 fromFm : Bool) : State :=
  if !(clocked s) || !(decide (b < 2)) || !(linkHalf s b 0).up || !(ideOpen s b 0) then s
  else if b = 0 ∧ f = 0 ∧ fromFm then s
  else if type0 then emit s (.unsupported b f)
  else s

/-! ### Completions of host accesses (R388 to R390) -/

/-- What follows the end of an access, by what it serves. -/
def hostDone (s : State) (b : Nat) (a : HostAcc) (res : HRes) : State :=
  match a.use with
  | .mem rq kind => memHostDone s b a rq kind res
  | .desc rs => ringFetched s rs res
  | .entry rs irq =>
    let done := match res with
      | .ok _ _ => entryWritten s rs irq
      | .fail _ => ringHostError (modRing s rs (fun r => { r with writing := r.writing - 1 })) rs 0 0
    ringSettle (ringDrain done rs) rs
  | .spoor d => (match res with
    | .ok _ _ => s
    | .fail _ => spoorFail s d)
  | .spoorCi d => (match res with
    | .ok data poison => if poison = 0 then spoorCiDone s d (leNat data) else spoorFail s d
    | .fail _ => spoorFail s d)
  | .ovf _ p off => ovfHostDone s p off a.wr res

/-- What follows a start. -/
def hostFollow (s : State) (b : Nat) (a : HostAcc) (r : HStart) : State :=
  match r with
  | .pending => s
  | .done => hostDone s b a (.ok [] 0)
  | .failed k => hostDone s b a (.fail k)

/-- The access that waits for a tag takes one that has become free. -/
def retag (s : State) (b : Nat) : State :=
  match nextTagged s b with
  | some a => let x := tryAcc s b a; hostFollow x.1 b a x.2
  | none => s

/-- ATS_TRANSLATION_COMPLETION. -/
def atsCompletion (s : State) (b id : Nat) (g : Option AtsGrant) : State :=
  match accAt s b id with
  | some a => if clocked s && ideOpen s b 0 && decide (a.phase = 0) then (let x := atsAnswer s b a g; retag (hostFollow x.1 b a x.2) b) else s
  | none => s

/-- An access that was issued ends. -/
def accDone (s : State) (b : Nat) (a : HostAcc) (res : HRes) : State :=
  let s1 := match res with
    | .ok _ _ => s
    | .fail k => countHostFail s b k
  retag (hostDone (accEnded s1 b a.id) b a res) b

/-- HOST_ACCESS_COMPLETION: a read returns with data of its length, or an access ends with UR, CA or another error. -/
def hostAccessCompletion (s : State) (b id : Nat) (r : HostResult) : State :=
  match accAt s b id with
  | some a =>
    if clocked s && ideOpen s b 0 && decide (a.phase = 2) then
      match r with
      | .ok data poison => accDone s b a (.ok (if a.wr then [] else (data ++ List.replicate a.len 0).take a.len) (if a.wr then 0 else poison))
      | .error => accDone s b a (.fail Kind.hostCompletionError)
    else s
  | none => s

/-- COMPLETION_TIMEOUT of a translation or of an issued access. -/
def completionTimeout (s : State) (b id : Nat) : State :=
  match accAt s b id with
  | some a =>
    if clocked s && decide (a.phase ≠ 1) && decide (a.deadline ≤ now s) then accDone s b a (.fail Kind.hostCompletionError) else s
  | none => s

/-! ### IDE (R391) and MSI-X masks (R393) -/

/-- IDE_INTEGRITY_FAILURE of a stream: 0 half 0's link stream, 1 to 4 selective, 5 half 1's link stream. A stream that is Insecure discards its traffic: no completion, message, snoop or BAR access comes through, and
what waits runs into its completion timeout. Configuration requests, which carry IDE_KM, still pass (DESIGN CHOICE, log entry 132). -/
def ideFailure (s : State) (b stream : Nat) : State :=
  let h := hifAt s b
  if clocked s && decide (b < 2) && decide (h.streams.getD stream 0 = 1) then
    raise (setHif s b { h with streams := h.streams.set stream 2, ideFailures := (h.ideFailures + 1) % 2 ^ 16 })
      Kind.hostIdeFailure (rqId (portUnit b) 0) none 0 (b2n (decide (stream = 5)))
  else s

/-- IDE_KM through the PF's DOE: PortIndex 0 programs half 0's link stream (0) or a selective stream (1 to 4), PortIndex 1
half 1's link stream (0) of a bifurcated port; any other request is answered with the error response. -/
def ideKm (s : State) (b index stream : Nat) : State :=
  let h := hifAt s b
  let slot := if index = 0 ∧ stream ≤ 4 then some stream else if index = 1 ∧ stream = 0 ∧ h.bifurcated then some 5 else none
  if !(fnPresent s b 0) then s
  else match slot with
  | some k => emit (setHif s b { h with streams := h.streams.set k 1 }) (.ideKm b stream true)
  | none => emit s (.ideKm b stream false)

/-- MSIX_UNMASK: the vector's pending message is sent once, where enable, function mask and mode allow. -/
def msixUnmask (s : State) (b f vec : Nat) : State :=
  if fnPresent s b f && decide (vec < (if f = 0 then 64 else (fnAt s b f).vecs)) then
    sendPending (setFn s b f { fnAt s b f with open_ := NSet.add (fnAt s b f).open_ vec }) b f
  else s

end Sys2Proof.Machine
end

