-- ==== Sys2Proof/Machine/Crypto.lean ====
section
/-! DEFINITION. SHA-384 and the verification of ECDSA P-384 signatures, which the spec names (R153, R446, R447, R510, R544) and
whose definitions stand in FIPS 180-4 and FIPS 186-4 (PRESUMED: taken from those standards). -/

namespace Sys2Proof.Machine

/-- A number from its bytes, highest first. -/
def beNat (bs : List Byte) : Nat := bs.foldl (fun n b => 256 * n + b.toNat) 0

/-- The low `n` bytes of a number, highest first. -/
def beBytes (n v : Nat) : List Byte := (leBytes n v).reverse

/-! ### SHA-384 (FIPS 180-4) -/

/-- The integer root of degree `e` of `n`, built bit by bit from bit `b` down on what `r` already holds. -/
def rootFrom (e n b r : Nat) : Nat :=
  match b with
  | 0 => r
  | c + 1 => rootFrom e n c (if (r + 2 ^ c) ^ e ≤ n then r + 2 ^ c else r)

/-- The first 64 bits of the fractional part of the root of degree `e` of a prime below 512. -/
def rootFraction (e p : Nat) : Nat := rootFrom e (p * 2 ^ (64 * e)) 69 0 % 2 ^ 64

/-- The first eighty primes, by trial division: 409 is the eightieth. -/
def firstPrimes : List Nat :=
  (List.range 410).filter (fun n => decide (2 ≤ n) && (List.range 21).all (fun d => decide (d < 2) || decide (n ≤ d) || decide (n % d ≠ 0)))

/-- The eighty round constants of SHA-384: the cube roots of the first eighty primes (FIPS 180-4, 4.2.3). -/
def roundConstants : List Nat := firstPrimes.map (rootFraction 3)

/-- The initial hash value of SHA-384: the square roots of the ninth to the sixteenth prime (FIPS 180-4, 5.3.4). -/
def hashStart : List Nat := ((firstPrimes.drop 8).take 8).map (rootFraction 2)

/-- Rotation to the right of a 64-bit number. -/
def rotr64 (x n : Nat) : Nat := x >>> n ||| x <<< (64 - n) % 2 ^ 64

/-- Functions of the message schedule and of the rounds. -/
def shaS0 (x : Nat) : Nat := rotr64 x 1 ^^^ rotr64 x 8 ^^^ x >>> 7
def shaS1 (x : Nat) : Nat := rotr64 x 19 ^^^ rotr64 x 61 ^^^ x >>> 6
def shaE0 (x : Nat) : Nat := rotr64 x 28 ^^^ rotr64 x 34 ^^^ rotr64 x 39
def shaE1 (x : Nat) : Nat := rotr64 x 14 ^^^ rotr64 x 18 ^^^ rotr64 x 41

/-- The schedule grown by `n` words; `w` holds the latest first. -/
def shaGrow (w : List Nat) (n : Nat) : List Nat :=
  match n with
  | 0 => w
  | k + 1 => shaGrow ((shaS1 (w.getD 1 0) + w.getD 6 0 + shaS0 (w.getD 14 0) + w.getD 15 0) % 2 ^ 64 :: w) k

/-- One round on the eight working words. -/
def shaRound (v : List Nat) (kw : Nat) : List Nat :=
  let a := v.getD 0 0
  let b := v.getD 1 0
  let c := v.getD 2 0
  let e := v.getD 4 0
  let f := v.getD 5 0
  let g := v.getD 6 0
  let t1 := v.getD 7 0 + shaE1 e + (e &&& f ^^^ (2 ^ 64 - 1 - e) &&& g) + kw
  let t2 := shaE0 a + (a &&& b ^^^ a &&& c ^^^ b &&& c)
  [(t1 + t2) % 2 ^ 64, a, b, c, (v.getD 3 0 + t1) % 2 ^ 64, e, f, g]

/-- The hash value after one 128-byte block. -/
def shaBlock (h : List Nat) (bs : List Byte) : List Nat :=
  let w0 := (List.range 16).map (fun i => beNat ((bs.drop (8 * i)).take 8))
  let w := (shaGrow w0.reverse 64).reverse
  let v := (w.zip roundConstants).foldl (fun v x => shaRound v (x.1 + x.2)) h
  (h.zip v).map (fun x => (x.1 + x.2) % 2 ^ 64)

/-- The hash value after `n` blocks. -/
def shaBlocks (h : List Nat) (bs : List Byte) (n : Nat) : List Nat :=
  match n with
  | 0 => h
  | k + 1 => shaBlocks (shaBlock h (bs.take 128)) (bs.drop 128) k

/-- The padded message. -/
def shaPad (bs : List Byte) : List Byte :=
  let n := bs.length
  bs ++ [0x80] ++ List.replicate ((239 - n % 128) % 128) 0 ++ beBytes 16 (8 * n)

/-- SHA-384 of a byte string, as a number whose bytes stand highest first. -/
def sha384 (bs : List Byte) : Nat :=
  let m := shaPad bs
  (shaBlocks hashStart m (m.length / 128)).take 6 |>.foldl (fun n x => 2 ^ 64 * n + x) 0

/-- The 48 bytes of a digest. -/
def digestBytes (d : Nat) : List Byte := beBytes 48 d

/-! ### ECDSA P-384 (FIPS 186-4) -/

/-- The field prime, the curve coefficient b, the group order and the base point of P-384. -/
def p384 : Nat := 2 ^ 384 - 2 ^ 128 - 2 ^ 96 + 2 ^ 32 - 1
def p384b : Nat := 0xb3312fa7e23ee7e4988e056be3f82d19181d9c6efe8141120314088f5013875ac656398d8a2ed19d2a85c8edd3ec2aef
def p384n : Nat := 0xffffffffffffffffffffffffffffffffffffffffffffffffc7634d81f4372ddf581a0db248b0a77aecec196accc52973
def p384gx : Nat := 0xaa87ca22be8b05378eb1c71ef320ad746e1d3b628ba79b9859f741e082542a385502f25dbf55296c3a545e3872760ab7
def p384gy : Nat := 0x3617de4a96262c6f5d9e98bf9292dc29f8f41dbd289a147ce9da3113b5f0b8c00a60b1ce1d7e819d7a431d7c90ea0e5f

/-- Difference modulo `m`. -/
def subMod (m a b : Nat) : Nat := (a % m + m - b % m) % m

/-- Power modulo `m`, over the low `k` bits of the exponent. -/
def powMod (m a e k : Nat) : Nat :=
  match k with
  | 0 => 1 % m
  | j + 1 => powMod m (a * a % m) (e / 2) j * (if e % 2 = 1 then a else 1) % m

/-- Inverse modulo a prime below 2^384. -/
def invMod (m a : Nat) : Nat := powMod m a (m - 2) 384

/-- A point in Jacobian coordinates; z = 0 is the point at infinity. -/
structure EcPoint where
  x : Nat := 1
  y : Nat := 1
  z : Nat := 0
  deriving DecidableEq, Repr

/-- A point doubled. -/
def ecDouble (a : EcPoint) : EcPoint :=
  if a.z = 0 then a
  else
    let d := a.z * a.z % p384
    let g := a.y * a.y % p384
    let b := a.x * g % p384
    let al := 3 * subMod p384 a.x d * (a.x + d) % p384
    let x := subMod p384 (al * al) (8 * b)
    { x := x, y := subMod p384 (al * subMod p384 (4 * b) x) (8 * g * g), z := subMod p384 ((a.y + a.z) * (a.y + a.z)) (g + d) }

/-- The sum of two points. -/
def ecAdd (a b : EcPoint) : EcPoint :=
  if a.z = 0 then b
  else if b.z = 0 then a
  else
    let za := a.z * a.z % p384
    let zb := b.z * b.z % p384
    let ua := a.x * zb % p384
    let ub := b.x * za % p384
    let sa := a.y * zb * b.z % p384
    let sb := b.y * za * a.z % p384
    if ua = ub then (if sa = sb then ecDouble a else {})
    else
      let h := subMod p384 ub ua
      let r := subMod p384 sb sa
      let hh := h * h % p384
      let hhh := h * hh % p384
      let v := ua * hh % p384
      let x := subMod p384 (r * r) (hhh + 2 * v)
      { x := x, y := subMod p384 (r * subMod p384 v x) (sa * hhh), z := h * a.z * b.z % p384 }

/-- A multiple of a point, over the low `k` bits of the factor. -/
def ecMul (e : Nat) (a : EcPoint) (k : Nat) : EcPoint :=
  match k with
  | 0 => {}
  | j + 1 => ecAdd (ecMul (e / 2) (ecDouble a) j) (if e % 2 = 1 then a else {})

/-- A public key in uncompressed form: 97 bytes, the point on the curve. -/
def ecKey (key : List Byte) : Option EcPoint :=
  let x := beNat ((key.drop 1).take 48)
  let y := beNat ((key.drop 49).take 48)
  if key.length = 97 ∧ key.head? = some 0x04 ∧ x < p384 ∧ y < p384 ∧ y * y % p384 = subMod p384 (x * x * x + p384b) (3 * x) then
    some { x := x, y := y, z := 1 }
  else none

/-- Whether a signature (r then s, 96 bytes) by a key over the digest `e` verifies (R447). -/
def ecdsaOk (key : List Byte) (e : Nat) (sig : List Byte) : Bool :=
  let r := beNat (sig.take 48)
  let s := beNat ((sig.drop 48).take 48)
  match ecKey key with
  | none => false
  | some q =>
    if sig.length ≠ 96 ∨ r = 0 ∨ p384n ≤ r ∨ s = 0 ∨ p384n ≤ s then false
    else
      let w := invMod p384n s
      let a := ecAdd (ecMul (e * w % p384n) { x := p384gx, y := p384gy, z := 1 } 384) (ecMul (r * w % p384n) q 384)
      if a.z = 0 then false
      else
        let zi := invMod p384 a.z
        decide (a.x * zi % p384 * zi % p384 % p384n = r)

/-! ### CRC-32C (polynomial 0x1EDC_6F41; its bit order and complements PRESUMED as iSCSI has them) -/

/-- Eight steps of the shift register, lowest bit first. -/
def crcBits (c n : Nat) : Nat :=
  match n with
  | 0 => c
  | k + 1 => crcBits (if c % 2 = 1 then c / 2 ^^^ 0x82F63B78 else c / 2) k

/-- CRC-32C of a byte string. -/
def crc32c (bs : List Byte) : Nat := bs.foldl (fun c b => crcBits (c ^^^ b.toNat) 8) 0xFFFFFFFF ^^^ 0xFFFFFFFF

/-- The bytes of an ASCII text. -/
def asciiBytes (t : List Nat) : List Byte := t.map (BitVec.ofNat 8)

end Sys2Proof.Machine
end

