-- ==== Sys2Proof/Machine/Ledger.lean ====
section
/-! DEFINITION. The lifetime ledger (chapter 18): the array's rings and lines, record writes, counters, checkpoints, events
with their hash chain, settings, calendar, read-out. -/

namespace Sys2Proof.Machine

/-! ### The array (R532 to R534) -/

/-- First line of copy `c` of ring `r` (Table 18.1). -/
def ringBase (r c : Nat) : Nat :=
  match r, c with
  | 0, 0 => 0x0000
  | 0, _ => 0x0008
  | 1, 0 => 0x0010
  | 1, _ => 0x0110
  | 2, 0 => 0x0210
  | 2, _ => 0x0310
  | 3, 0 => 0x1000
  | 3, _ => 0x3000
  | 4, _ => 0x5000
  | _, _ => 0xD000

/-- Lines of one copy of a ring. -/
def ringLines (r : Nat) : Nat :=
  match r with
  | 0 => 8
  | 1 => 0x100
  | 2 => 0x100
  | 3 => 0x2000
  | 4 => 0x8000
  | _ => 0x3000

/-- Copies of a ring. -/
def ringCopies (r : Nat) : List Nat := if r < 4 then [0, 1] else [0]

/-- Lines of a record of a ring. -/
def recLines (r : Nat) : Nat :=
  match r with
  | 1 => 4
  | 3 => 2
  | 4 => 128
  | _ => 1

/-- The 64 bytes of a line. -/
def arrayLine (s : State) (n : Nat) : List Byte :=
  match SMap.get [] s.array.lines n with
  | [] => List.replicate 64 0
  | l => l

/-- A line holds new bytes. -/
def putArrayLine (s : State) (n : Nat) (bs : List Byte) : State :=
  { s with array := { s.array with
      lines := SMap.put [] s.array.lines n (if bs = List.replicate 64 0 then [] else bs)
      errs := SMap.put 0 s.array.errs n 0 } }

/-- The line of the bad-line map that holds the bit of line `n`: in copy A, or in copy B where A cannot be read (R548). -/
def mapLine (s : State) (n : Nat) : Nat :=
  if SMap.get 0 s.array.errs (0x410 + n / 512) = 2 then 0x490 + n / 512 else 0x410 + n / 512

/-- Whether line `n` is marked bad. -/
def lineBad (s : State) (n : Nat) : Bool := bit ((arrayLine s (mapLine s n)).getD (n % 512 / 8) 0).toNat (n % 8)

/-- The lines marked bad. -/
def badLines (s : State) : List Nat :=
  (s.array.lines.filter (fun x => decide (0x410 ≤ x.1) && decide (x.1 < 0x490))).flatMap (fun x =>
    ((List.range 512).map (fun i => 512 * (x.1 - 0x410) + i)).filter (fun n => lineBad s n))

/-- LDG.RING[r].BAD_LINES. -/
def ringBad (s : State) (r : Nat) : Nat :=
  ((badLines s).filter (fun n => (ringCopies r).any (fun c => decide (ringBase r c ≤ n) && decide (n < ringBase r c + ringLines r)))).length

/-- A ledger record (R553): the line in ADDR. -/
def ldgRaise (s : State) (kind line : Nat) : State := raise s kind (rqId 0x30B 0) none line 0

/-- A ring changed. -/
def ldgRing (s : State) (r : Nat) : LRing := s.ldg.rings.getD r {}
/-- A ring replaced. -/
def setLdgRing (s : State) (r : Nat) (x : LRing) : State := { s with ldg := { s.ldg with rings := s.ldg.rings.set r x } }

/-- A line is marked bad in both copies of the map. -/
def markBad (s : State) (n : Nat) : State :=
  let put (s : State) (l : Nat) : State :=
    let bs := arrayLine s (mapLine s n)
    let i := n % 512 / 8
    putArrayLine s l (bs.set i (bs.getD i 0 ||| BitVec.ofNat 8 (2 ^ (n % 8))))
  put (put s (0x410 + n / 512)) (0x490 + n / 512)

/-- A line is read: a stored error is corrected or reported (R553). The bytes, and whether they are poisoned. -/
def readArrayLine (s : State) (n : Nat) : State × List Byte × Bool :=
  match SMap.get 0 s.array.errs n with
  | 0 => (s, arrayLine s n, false)
  | 1 => (ldgRaise { s with array := { s.array with errs := SMap.put 0 s.array.errs n 0 } } Kind.ledgerCorrected n, arrayLine s n, false)
  | _ => (ldgRaise s Kind.ledgerUncorrectable n, arrayLine s n, true)

/-- The 8-byte header of a line (Table 18.2). -/
def arrayHeader (seq type idx : Nat) (last : Bool) : List Byte := leBytes 6 seq ++ leBytes 1 type ++ leBytes 1 (idx % 128 + 128 * b2n last)

/-- The lines of a record. -/
def recordLines (r seq type : Nat) (payload : List Byte) : List (List Byte) :=
  let n := recLines r
  (List.range n).map (fun i =>
    let p := (payload.drop (56 * i)).take 56
    arrayHeader seq type i (decide (i + 1 = n)) ++ p ++ List.replicate (56 - p.length) 0)

/-! ### Records in force (R533, R534) -/

/-- SEQ of a line. -/
def lineSeq (l : List Byte) : Nat := leNat (l.take 6)
/-- TYPE of a line. -/
def lineType (l : List Byte) : Nat := (l.getD 6 0).toNat
/-- INDEX and LAST of a line. -/
def lineIdx (l : List Byte) : Nat := (l.getD 7 0).toNat

/-- Whether a line can belong to a record of a ring: readable, with a TYPE of the ring. -/
def typeOk (r t : Nat) : Bool := if r = 5 then decide (0x10 ≤ t) && decide (t ≤ 0x13) else decide (t = r + 1)

/-- The usable lines of a copy of a ring, with their line numbers. -/
def copyLines (s : State) (r c : Nat) : SMap (List Byte) :=
  s.array.lines.filter (fun x => decide (ringBase r c ≤ x.1) && decide (x.1 < ringBase r c + ringLines r)
    && decide (SMap.get 0 s.array.errs x.1 < 2) && typeOk r (lineType x.2))

/-- The record with a SEQ among the lines of a copy, where it is valid: its payload. -/
def recordOfSeq (r : Nat) (ls : SMap (List Byte)) (seq : Nat) : Option (List Byte) :=
  let mine := (ls.filter (fun x => decide (lineSeq x.2 = seq))).map Prod.snd
  let n := recLines r
  let at_ (i : Nat) : Option (List Byte) := mine.find? (fun l => decide (lineIdx l = i + 128 * b2n (decide (i + 1 = n))))
  let parts := (List.range n).filterMap at_
  if mine.length = n ∧ parts.length = n ∧ mine.all (fun l => decide (lineType l = lineType (mine.headD []))) then
    some (parts.flatMap (fun l => l.drop 8))
  else none

/-- Larger numbers first, without repeats. -/
def insertSeq (l : List Nat) (x : Nat) : List Nat :=
  match l with
  | [] => [x]
  | y :: t => if x = y then y :: t else if y < x then x :: y :: t else y :: insertSeq t x

/-- The valid record with the highest SEQ of a copy. -/
def arrayRecord (s : State) (r c : Nat) : Option (Nat × List Byte) :=
  let ls := copyLines s r c
  let seqs := (ls.map (fun x => lineSeq x.2)).foldl insertSeq []
  seqs.findSome? (fun q => (recordOfSeq r ls q).map (fun p => (q, p)))

/-- The record in force in a ring: the valid one with the highest SEQ in either copy. -/
def inForce (s : State) (r : Nat) : Option (Nat × List Byte) :=
  match arrayRecord s r 0, (if r < 4 then arrayRecord s r 1 else none) with
  | some a, some b => if a.1 < b.1 then some b else some a
  | some a, none => some a
  | none, b => b

/-- The line after the last one of a record in a copy. -/
def lineAfter (s : State) (r c seq : Nat) : Nat :=
  match ((copyLines s r c).filter (fun x => decide (lineSeq x.2 = seq) && decide (128 ≤ lineIdx x.2))).getLast? with
  | some x => (x.1 + 1 - ringBase r c) % ringLines r
  | none => 0

/-! ### Writing (R534, R548, R549) -/

/-- A record is queued for writing, while the ledger is in service. -/
def queueWrite (s : State) (w : LWrite) : State := if s.ldg.dead then s else { s with ldg := { s.ldg with queue := s.ldg.queue ++ [w] } }

/-- The next good position of a copy of a ring, from `p` on. -/
def goodFrom (s : State) (r c p fuel : Nat) : Option Nat :=
  match fuel with
  | 0 => none
  | k + 1 =>
    let q := p % ringLines r
    if lineBad s (ringBase r c + q) then goodFrom s r c (q + 1) k else some q

/-- Whether a ring's wear is to be reported (R549). -/
def wearCheck (s : State) (r : Nat) : State :=
  let x := ldgRing s r
  if !x.worn && (decide (900000 ≤ x.laps) || decide ((ringCopies r).length * ringLines r < 16 * ringBad s r)) then
    ldgRaise { setLdgRing s r { x with worn := true } with ldg := { (setLdgRing s r { x with worn := true }).ldg with worn := true } }
      Kind.ledgerWearLimit (ringBase r 0)
  else s

/-- Whether both copies of a ring have enough good lines for a record. -/
def ringRoom (s : State) (r : Nat) : Bool :=
  let bad := badLines s
  (ringCopies r).all (fun c => decide (recLines r + (bad.filter (fun n => decide (ringBase r c ≤ n) && decide (n < ringBase r c + ringLines r))).length
    ≤ ringLines r))

/-! ### Counters and checkpoints (R540 to R542) -/

/-- The tile entry of Table 18.4. -/
def tileLifeWord (t : TileLife) : Nat := 2 ^ 61 * (t.state % 8) + 2 ^ 32 * (t.corrected % 2 ^ 29) + t.active % 2 ^ 32

/-- The payload of a checkpoint (Table 18.3). -/
def checkpointBytes (c : LCount) : List Byte :=
  leBytes 4 c.boots ++ leBytes 4 c.safeEntries ++ leBytes 8 c.poweredS ++ leBytes 8 c.operationalS ++ leBytes 8 c.safeS
  ++ leBytes 4 c.refs ++ leBytes 2 (narrow 16 c.tjMax) ++ leBytes 2 0 ++ c.thermalS.flatMap (leBytes 4) ++ leBytes 4 c.throttleS
  ++ leBytes 4 c.powerS ++ leBytes 8 c.eventSeq ++ leBytes 8 c.suppressed ++ digestBytes c.chain ++ List.replicate 112 0
  ++ (List.range 0x110).flatMap (fun u => leBytes 8 (tileLifeWord (SMap.get {} c.tiles u))) ++ List.replicate 128 0
  ++ (List.range 1024).flatMap (fun k => leBytes 4 (SMap.get 0 c.kinds k))

/-- A field of a payload. -/
def payN (bs : List Byte) (off n : Nat) : Nat := leNat ((bs.drop off).take n)

/-- The counters that a checkpoint holds. -/
def checkpointCounts (bs : List Byte) : LCount :=
  { boots := payN bs 0 4, safeEntries := payN bs 4 4, poweredS := payN bs 8 8, operationalS := payN bs 0x10 8, safeS := payN bs 0x18 8
    refs := payN bs 0x20 4, tjMax := signed 16 (payN bs 0x24 2), thermalS := (List.range 8).map (fun b => payN bs (0x28 + 4 * b) 4)
    throttleS := payN bs 0x48 4, powerS := payN bs 0x4C 4, eventSeq := payN bs 0x50 8, suppressed := payN bs 0x58 8
    chain := beNat ((bs.drop 0x60).take 48)
    tiles := (List.range 0x110).foldl (fun m u => let w := payN bs (0x100 + 8 * u) 8
                                                  SMap.put {} m u { state := bits w 63 61, corrected := bits w 60 32, active := bits w 31 0 }) []
    kinds := (List.range 1024).foldl (fun m k => SMap.put 0 m k (payN bs (0xA00 + 4 * k) 4)) [] }

/-- The counters changed. -/
def modCount (s : State) (f : LCount → LCount) : State := { s with ldg := { s.ldg with cnt := f s.ldg.cnt } }

/-- A checkpoint is asked for: one that has not started serves every party that waits for it. -/
def askCheckpoint (s : State) (waiters : List Nat) : State :=
  if s.ldg.dead then s
  else if s.ldg.queue.any (fun w => decide (w.ring = 4) && w.seq.isNone) then
    { s with ldg := { s.ldg with queue := s.ldg.queue.map (fun w => if w.ring = 4 ∧ w.seq = none then { w with waiters := w.waiters ++ waiters } else w) } }
  else queueWrite s { ring := 4, type := 5, waiters := waiters }

/-- CHECKPOINT: every 60 s from the start of the previous one. -/
def checkpoint (s : State) : State :=
  if fwRuns s && s.ldg.loaded && decide (s.ldg.ckptAt + usToCc s 60000000 ≤ supNow s) then askCheckpoint s [] else s

/-- A record starts: its SEQ, and its lines in copy A and then in copy B. A checkpoint takes the counters as they stand. -/
def startWrite (s : State) (w : LWrite) : State × LWrite :=
  let x := ldgRing s w.ring
  let seq := w.seq.getD (x.seq + 1)
  let payload := if w.ring = 4 then checkpointBytes s.ldg.cnt else w.payload
  let ls := recordLines w.ring seq w.type payload
  let s1 := setLdgRing s w.ring { x with seq := max x.seq seq }
  let s2 : State := if w.ring = 4 then { s1 with ldg := { s1.ldg with ckptAt := supNow s, budget := 0 } } else s1
  (s2, { w with seq := some seq, payload := payload, left := (ringCopies w.ring).flatMap (fun c => ls.map (fun l => (c, l))) })

/-- A record has been written whole. -/
def finishWrite (s : State) (w : LWrite) : State :=
  match w.ring with
  | 2 => { s with ldg := { s.ldg with bound := payN w.payload 8 8 } }
  | 4 =>
    let s1 : State := { s with ldg := { s.ldg with ckptSeq := w.seq.getD 0, flush := if w.waiters.contains 2 then false else s.ldg.flush } }
    (w.waiters.filter (fun x => decide (x < 2))).foldl (fun s d => emit s (.mctp d [0])) s1
  | 5 =>
    modCount s (fun c => { c with
      eventSeq := w.seq.getD 0
      chain := sha384 (digestBytes c.chain ++ (recordLines 5 (w.seq.getD 0) w.type w.payload).headD []) })
  | _ => s

/-- One line of a record is written and read back (R548). -/
def writeLine (s : State) (w : LWrite) (c : Nat) (l : List Byte) (rest : List (Nat × List Byte)) : State × Option LWrite :=
  let x := ldgRing s w.ring
  let p := if c = 0 then x.next else x.nextB
  match goodFrom s w.ring c p (ringLines w.ring) with
  | none => (ldgRaise s Kind.ledgerWriteFailed (ringBase w.ring c), none)
  | some q =>
    let n := ringBase w.ring c + q
    if NSet.has s.array.stuck n then (wearCheck (ldgRaise (markBad s n) Kind.ledgerWriteFailed n) w.ring, some w)
    else
      let next := (q + 1) % ringLines w.ring
      let lap := decide (next = 0) || decide (q < p)
      let s1 := putArrayLine s n l
      let x1 : LRing := if c = 0 then { x with next := next, laps := if lap then satInc 20 x.laps else x.laps } else { x with nextB := next }
      (wearCheck (setLdgRing s1 w.ring x1) w.ring, some { w with left := rest })

/-- The controller works on the oldest record: it starts, writes a line, or completes. -/
def ledgerDrain (s : State) : State :=
  if !(supClocked s) || s.ldg.dead then s
  else match s.ldg.queue with
  | [] => s
  | w :: q =>
    let put (s : State) (w : Option LWrite) : State := { s with ldg := { s.ldg with queue := match w with
        | some w => w :: q
        | none => q } }
    match w.left with
    | [] =>
      if ringRoom s w.ring then (let x := startWrite s w; put x.1 (some x.2))
      else put (ldgRaise s Kind.ledgerWriteFailed (ringBase w.ring 0)) none
    | (c, l) :: rest =>
      let (s1, r) := writeLine s w c l rest
      match r with
      | none => put s1 none
      | some w1 => if w1.left.isEmpty then finishWrite (put s1 none) w1 else put s1 (some w1)

/-- A settings record with an EPOCH_BOUND, HOLD and the preferred slot as they stand (R536). -/
def writeSettings (s : State) (bound : Nat) : State :=
  queueWrite { s with ldg := { s.ldg with boundQ := bound } }
    { ring := 2, type := 3, payload := leBytes 1 (b2n s.clr.hold) ++ leBytes 1 s.ldg.slot ++ leBytes 6 0 ++ leBytes 8 bound }

/-- A key record (R535): the change, and the custody state and keys as they stand. -/
def writeKeys (s : State) (change : Nat) : State :=
  let key (k : List Byte) : List Byte := k ++ List.replicate (97 - k.length) 0
  queueWrite s { ring := 1, type := 2
                 payload := leBytes 1 (b2n (decide (s.prt.custody ≠ 0))) ++ leBytes 1 change ++ leBytes 6 0 ++ leBytes 8 s.prt.epoch ++ key s.prt.fmk ++ key s.prt.pck }

/-- A commit record (R538). -/
def writeCommit (s : State) (id kind part : Nat) (remove : Bool) (digest : Nat) : State :=
  queueWrite s { ring := 3, type := 4
                 payload := leBytes 8 s.prt.epoch ++ leBytes 4 id ++ leBytes 1 kind ++ leBytes 1 part ++ leBytes 1 (b2n remove) ++ leBytes 1 0
                   ++ digestBytes digest ++ leBytes 4 s.ldg.cnt.boots }

/-! ### Events (R543, R544) -/

/-- An event line: its first 32 bytes, and BOOT, SPAN and POWERED_S (Table 18.5). -/
def queueEvent (s : State) (type : Nat) (head : List Byte) : State :=
  queueWrite s { ring := 5, type := type
                 payload := head ++ List.replicate (32 - head.length) 0 ++ leBytes 4 s.ldg.cnt.boots ++ leBytes 2 s.ckr.interruptions ++ leBytes 2 0
                   ++ leBytes 8 s.ldg.cnt.poweredS }

/-- CKR.RESET_CAUSE. -/
def resetCause (s : State) : Nat := b2n s.ckr.por + 2 * b2n s.ckr.pin + 2 ^ 32 * s.ckr.supResets

/-- Whether a copied record becomes a fault event (R543). -/
def eventDue (s : State) (kind cls : Nat) (bypass : Bool) : Bool :=
  decide (3 ≤ cls) || bypass || ((decide (cls = 1) || decide (cls = 2)) && decide (s.ldg.budget < 16)) || !(NSet.has s.ldg.seen kind)

/-- The kinds of corrected frame, instruction-store and token-store errors (Table 18.4). -/
def tileCorrectedKinds : List Nat := [Kind.frameCorrected, Kind.istoreCorrected, Kind.tokenStoreCorrected]

/-- A record is copied to the ledger's state (R491). -/
def takeRecord (s : State) (m : FaultMsg) : State :=
  let kind := bits m.head 9 0
  let cls := bits m.head 12 10
  let u := bits m.head 43 32
  let due := eventDue s kind cls (bit m.head 58)
  let s1 := modCount s (fun c => { c with
    kinds := SMap.put 0 c.kinds kind (satInc 32 (SMap.get 0 c.kinds kind))
    tiles := if tileCorrectedKinds.contains kind ∧ isTile u then
        SMap.put {} c.tiles u { SMap.get {} c.tiles u with corrected := satInc 29 (SMap.get {} c.tiles u).corrected } else c.tiles
    suppressed := if due then c.suppressed else satInc 64 c.suppressed })
  if due then
    queueEvent { s1 with ldg := { s1.ldg with
        seen := NSet.add s1.ldg.seen kind, budget := if cls = 1 ∨ cls = 2 then s1.ldg.budget + 1 else s1.ldg.budget } }
      0x10 (leBytes 8 m.time ++ leBytes 8 m.head ++ leBytes 8 m.addr ++ leBytes 8 m.detail)
  else s1

/-- RECORD_ACKNOWLEDGE: the oldest record of the device queue is copied, and ACKED advances (R491). -/
def recordAcknowledge (s : State) : State :=
  let f := s.flt
  if !(fwRuns s) || decide (f.produced = f.acked) then s
  else takeRecord { s with flt := { f with acked := (f.acked + 1) % 2 ^ 32 } } (SMap.get {} f.qrec (f.acked % 1024))

/-! ### Time (R540, R545 to R547) -/

/-- The bin of THERMAL_S for a reading in units of 0.25 °C. -/
def thermalBin (tj : Int) : Nat := ([100, 180, 260, 340, 380, 400, 420].filter (fun (b : Int) => decide (b ≤ tj))).length

/-- A second of supervisor-clock time passes. -/
def ledgerSecond (s : State) : State :=
  let op := decide (s.clr.mode = .operational)
  let s1 := modCount s (fun c => { c with
    poweredS := satInc 64 c.poweredS
    operationalS := if op then satInc 64 c.operationalS else c.operationalS
    safeS := if inSafe s then satInc 64 c.safeS else c.safeS
    thermalS := c.thermalS.set (thermalBin s.brd.tj) (satInc 32 (c.thermalS.getD (thermalBin s.brd.tj) 0))
    throttleS := if 0 < s.brd.thermalLvl then satInc 32 c.throttleS else c.throttleS
    powerS := if 0 < s.brd.powerLvl then satInc 32 c.powerS else c.powerS })
  if op then
    modCount s1 (fun c => { c with tiles := (List.range 0x110).foldl (fun m u =>
      let x := SMap.get {} m u
      let off := if u < 0x100 then thicketOff (groveAt s (u / 16)) (u % 16 / 4) || decide (steer s u ≠ u) else !(groveAt s (u - 0x100)).spareUsed
      if off || (tileAt s u).excluded then m else SMap.put {} m u { x with active := satInc 32 x.active }) c.tiles })
  else s1

/-- A tick of the ledger's second counter. -/
def ledgerTick (s : State) : State :=
  if !(fwRuns s && s.ldg.loaded) then s
  else if usToCc s 1000000 ≤ s.ldg.sub + 1 then ledgerSecond { s with ldg := { s.ldg with sub := 0 } }
  else { s with ldg := { s.ldg with sub := s.ldg.sub + 1 } }

/-- LDG.CALENDAR: VALID and SECONDS (R547). -/
def calendarNow (s : State) : Option Nat := s.ldg.calendar.map (fun a => a.1 + (now s - a.2) / usToCc s 1000000)

/-- SET_CALENDAR from a party: 40 bits of seconds, 30 bits of nanoseconds (R546). -/
def setCalendar (s : State) (party secs nanos : Nat) : State :=
  if !(fwRuns s) then s
  else if 2 ^ 40 ≤ secs ∨ 2 ^ 30 ≤ nanos then emit s (.mctp party [0x11])
  else
    let s1 : State := { s with ldg := { s.ldg with calendar := some (secs, now s) } }
    emit (queueEvent s1 0x12 (leBytes 8 (now s) ++ leBytes 8 secs ++ leBytes 4 nanos ++ leBytes 1 party)) (.mctp party [0])

/-! ### Read-out (R550, R552) -/

/-- LDG.STATUS. -/
def ledgerStatusWord (s : State) : Nat :=
  2 ^ 62 * (if s.ldg.dead then 2 else if s.ldg.worn then 1 else 0)
  + 2 ^ 61 * b2n (s.ldg.queue.any (fun w => decide (w.ring = 4) && w.seq.isSome)) + s.ldg.ckptSeq % 2 ^ 48

/-- LDG.RING[r]. -/
def ledgerRingWord (s : State) (r : Nat) : Nat :=
  let x := ldgRing s r
  2 ^ 44 * x.laps + 2 ^ 28 * ringBad s r + x.next % 2 ^ 16

/-- LEDGER_STATUS from a party. -/
def ledgerStatus (s : State) (party : Nat) : State :=
  if !(fwRuns s) then s
  else emit s (.mctp party ([0, ledgerStatusWord s, s.ldg.cnt.boots, s.ldg.cnt.poweredS] ++ (List.range 6).map (ledgerRingWord s)))

/-- Lines are read one after another: what is returned is, of each, its ECC status (0 good, 1 corrected, 2 uncorrectable) and
its eight words. -/
def readLines (s : State) (l : List Nat) : State × List Nat :=
  l.foldl (fun x n =>
    let st := SMap.get 0 x.1.array.errs n
    let y := readArrayLine x.1 n
    (y.1, x.2 ++ [min st 2] ++ (List.range 8).map (fun w => payN y.2.1 (8 * w) 8))) (s, [])

/-- LEDGER_READ from a party. -/
def ledgerRead (s : State) (party line count : Nat) : State :=
  if !(fwRuns s) then s
  else if 0xFFFF < line ∨ count = 0 ∨ 16 < count ∨ 0xFFFF < line + count - 1 then emit s (.mctp party [0x11])
  else
    let x := readLines s ((List.range count).map (· + line))
    emit x.1 (.mctp party (0 :: x.2))

/-- LEDGER_FLUSH by MCTP (party 0 or 1) or LDG.CTRL.FLUSH (2): a checkpoint that answers on completion. With no ledger in
service the spec states no answer. -/
def ledgerFlush (s : State) (party : Nat) : State :=
  if party < 2 then
    (if !(fwRuns s) then s
     else if s.ldg.dead then (let (v, s1) := freeTake s; emit s1 (.mctp party [v % 256]))
     else askCheckpoint s [party])
  else if fwRuns s && !s.ldg.dead then askCheckpoint { s with ldg := { s.ldg with flush := true } } [2]
  else s

/-- READ_ADDR_WRITE: the line is read into the window. -/
def readAddrWrite (s : State) (v : Nat) : State :=
  if !(supClocked s && clocked s) then s
  else
    let n := v % 2 ^ 16
    let x := readArrayLine s n
    { x.1 with ldg := { x.1.ldg with readAddr := n, readValid := true, readPoison := x.2.2, readData := x.2.1 } }

/-- Measurement block 8 (R551). -/
def ledgerBlock (s : State) : List Byte :=
  let c := s.ldg.cnt
  leBytes 2 1 ++ leBytes 2 0 ++ leBytes 4 c.boots ++ leBytes 8 c.poweredS ++ leBytes 4 c.safeEntries ++ leBytes 4 c.refs
  ++ leBytes 2 (c.tiles.filter (fun x => decide (x.2.state ≠ 0))).length ++ leBytes 6 0 ++ leBytes 8 c.eventSeq ++ leBytes 8 c.suppressed
  ++ digestBytes c.chain

/-! ### Bring-up, resets and power loss (R535 to R537, R540, R542, R544) -/

/-- The event line with the lowest SEQ above `q`. -/
def eventAfter (ls : SMap (List Byte)) (q : Nat) : Option (List Byte) :=
  ls.foldl (fun a x =>
    if lineSeq x.2 ≤ q then a
    else match a with
      | some l => if lineSeq x.2 < lineSeq l then some x.2 else a
      | none => some x.2) none

/-- The chain over the event lines after a SEQ, in order; a line that cannot be read counts as empty (R533, R544). -/
def chainOver (ls : SMap (List Byte)) (c : LCount) (fuel : Nat) : LCount :=
  match fuel with
  | 0 => c
  | k + 1 =>
    match eventAfter ls c.eventSeq with
    | some l => chainOver ls { c with eventSeq := lineSeq l, chain := sha384 (digestBytes c.chain ++ l) } k
    | none => c

/-- The counters of the checkpoint in force, with the chain brought up to date. -/
def countsInForce (s : State) : LCount :=
  let c := match inForce s 4 with
    | some x => checkpointCounts x.2
    | none => {}
  let ls := copyLines s 5 0
  chainOver ls c ls.length

/-- Where a copy of a ring goes on: after its own newest valid record. -/
def copyNext (s : State) (r c : Nat) : Nat :=
  match arrayRecord s r c with
  | none => 0
  | some x => lineAfter s r c x.1

/-- A ring as the array shows it. -/
def ringFrom (s : State) (r : Nat) : LRing :=
  match inForce s r with
  | none => {}
  | some x => { next := copyNext s r 0, nextB := if r < 4 then copyNext s r 1 else 0, seq := x.1
                laps := min (2 ^ 20 - 1) (x.1 * recLines r / ringLines r) }

/-- A record valid in one copy only is written again before the ring's next record (R534). -/
def mendRing (s : State) (r : Nat) : State :=
  match inForce s r with
  | none => s
  | some x =>
    let has (c : Nat) : Bool := match arrayRecord s r c with
      | some y => decide (y.1 = x.1)
      | none => false
    let lines := recordLines r x.1 (r + 1) x.2
    let miss := (ringCopies r).filter (fun c => !(has c))
    if miss.isEmpty then s
    else queueWrite s { ring := r, type := r + 1, payload := x.2, seq := some x.1, left := miss.flatMap (fun c => lines.map (fun l => (c, l))) }

/-- The lines of the rings with a stored error are read: corrected, or reported and counted as empty (R552). -/
def readErrors (s : State) : State :=
  s.array.errs.foldl (fun s x => (readArrayLine s x.1).1) s

/-- Step 0x06 of bring-up: the records in force are read, the epoch is set, and a settings record, a checkpoint and a boot
event are written (R535 to R537, R540, R543, R544). -/
def ledgerBoot (s : State) : State :=
  if s.ldg.dead then { s with ldg := { s.ldg with loaded := true } }
  else
    let s0 := readErrors s
    let rings := (List.range 6).map (ringFrom s0)
    let c := countsInForce s0
    let key := inForce s0 1
    let set := inForce s0 2
    let com := inForce s0 3
    let bound := match set with
      | some x => payN x.2 8 8
      | none => 0
    let epochOf (x : Option (Nat × List Byte)) (off : Nat) : Nat := match x with
      | some x => payN x.2 off 8
      | none => 0
    let epoch := max bound (max (epochOf key 8) (epochOf com 0))
    let custody := match key with
      | some x => payN x.2 0 1 % 2
      | none => 0
    let keyAt (off : Nat) : List Byte := match key with
      | some x => if custody = 1 then (x.2.drop off).take 97 else []
      | none => []
    let s1 : State := { s0 with
      ldg := { s0.ldg with
        rings := rings, cnt := { c with boots := satInc 32 c.boots }, bound := bound, boundQ := bound, loaded := true
        slot := match set with
          | some x => payN x.2 1 1 % 2
          | none => 0
        ckptSeq := match inForce s0 4 with
          | some x => x.1
          | none => 0 }
      prt := { s0.prt with custody := custody, fmk := keyAt 16, pck := keyAt 113, epoch := epoch }
      clr := { s0.clr with hold := match set with
        | some x => bit (payN x.2 0 1) 0
        | none => false } }
    let s2 := [1, 2, 3].foldl mendRing s1
    let s3 := askCheckpoint (writeSettings s2 (epoch + 4096)) []
    queueEvent s3 0x11 (leBytes 8 (now s3) ++ leBytes 8 (resetCause s3) ++ leBytes 1 s3.clr.fwSlot ++ leBytes 1 s3.ckr.secVersion)

/-- Whether the stored epoch bound lets stages and ENROLLs be processed (R537, R552). -/
def epochReady (s : State) : Bool := !s.ldg.dead && s.ldg.loaded && decide (s.prt.epoch < s.ldg.bound)

/-- What a chip reset leaves of the ledger's registers, or power loss of its pending writes. -/
def ledgerReset (s : State) : State := { s with ldg := {} }

end Sys2Proof.Machine
end

