-- ==== Sys2Proof/Machine/Stages.lean ====
section
/-! DEFINITION. Custody stages: closing one, and completing a commit (R442, R447 to R449, R452, R476). -/

namespace Sys2Proof.Machine

/-- The status of a refusal reason (Table 15.6). -/
def reasonStatus (r : Nat) : Nat :=
  match r with
  | 1 | 4 | 5 => 0x11
  | 2 | 7 | 12 => 0x15
  | 3 => 0x09
  | 6 => 0x0B
  | 8 | 9 | 11 => 0x14
  | 10 => 0x16
  | _ => 0

/-- A record of custody (Table 16.2): the STAGE_ID in ADDR and the reason in DETAIL. -/
def custodyRaise (s : State) (kind unit id : Nat) (part : Option Nat) (reason : Nat) : State :=
  raise s kind (rqId unit 0) part id reason

/-- The partition of a stage, none for a key kind. -/
def Stage.partition (st : Stage) : Option Nat := if st.kind = 0 then some st.part else none

/-- A message to both parties. -/
def tellBoth (s : State) (words : List Nat) : State := emit (emit s (.mctp 0 words)) (.mctp 1 words)

/-- A field of `n` bytes of a record. -/
def recF (rec : List Byte) (off n : Nat) : Nat := leNat ((rec.drop off).take n)

/-- The entries of a binding list. -/
def bindEntries (bs : List Byte) : List (List Byte) := (List.range (bs.length / 16)).map (fun i => (bs.drop (16 * i)).take 16)
/-- VTILE. -/
def bVt (e : List Byte) : Nat := recF e 0 2
/-- TILE. -/
def bTile (e : List Byte) : Nat := recF e 2 2
/-- SLOT. -/
def bSlot (e : List Byte) : Nat := recF e 4 1
/-- NT_BASE. -/
def bNtBase (e : List Byte) : Nat := recF e 6 2
/-- NT_COUNT_M1. -/
def bNtCount (e : List Byte) : Nat := recF e 8 2
/-- FRAME_BASE. -/
def bFrame (e : List Byte) : Nat := recF e 0xA 2
/-- FRAME_SIZE. -/
def bSize (e : List Byte) : Nat := recF e 0xC 2

/-- A binding entry as numbers: VTILE, TILE, SLOT, NT_BASE, NT_COUNT_M1, FRAME_BASE, FRAME_SIZE (Table 15.2). -/
def bindNumbers (e : List Byte) : List Nat := [bVt e, bTile e, bSlot e, bNtBase e, bNtCount e, bFrame e, bSize e]

/-- Whether a stage carries the proposal that a loader service waits for: one of its partition that holds every entry the service
handed over, or, for a removal, none of them. -/
def KJob.closes (j : KJob) (st : Stage) : Bool :=
  let now := (bindEntries st.binds).map bindNumbers
  decide (st.kind = 0) && decide (st.part = j.part)
  && (match j.phase with
      | 0 => j.want.all (fun e => now.contains e)
      | 2 => !(j.want.any (fun e => now.contains e))
      | _ => false)

/-- The fabric manager passes the status of a closed stage on to the loader services that wait for it (R170). -/
def klbHear (s : State) (st : Stage) (status : Nat) : State :=
  { s with klb := { s.klb with jobs := s.klb.jobs.map (fun j => if j.closes st then { j with heard := some status } else j) } }

/-- A stage closes with a status and a reason, with a record where one is due; both parties receive the result. -/
def closeStage (s : State) (st : Stage) (status reason : Nat) (kind : Option Nat) : State :=
  let s1 : State := { s with prt := { s.prt with
    stages := s.prt.stages.filter (fun x => decide (x.id ≠ st.id))
    acks := s.prt.acks.filter (fun a => decide (a.2 ≠ some st.id))
    lastId := st.id, lastStatus := status, lastReason := reason } }
  let s2 := match kind with
    | some k => custodyRaise s1 k 0x30A st.id st.partition reason
    | none => s1
  klbHear (tellBoth s2 [status, reason, st.id]) st status

/-- A stage is refused with a reason of Table 15.6. -/
def refuseStage (s : State) (st : Stage) (reason : Nat) : State := closeStage s st (reasonStatus reason) reason (some Kind.commitRefused)

/-- REMOVE of a partition record. -/
def recRemoves (rec : List Byte) : Bool := bit (leNat ((rec.drop 1).take 1)) 0

/-- The new key of a key-kind stage (Table 15.5). -/
def Stage.newKey (st : Stage) : List Byte := (st.record.drop 1).take 97
/-- The rotating or replaced party of a key-kind stage. -/
def Stage.role (st : Stage) : Nat := leNat (st.record.take 1)

/-- A party's key is replaced. -/
def putKey (s : State) (role : Nat) (key : List Byte) : State :=
  { s with prt := if role = 0 then { s.prt with fmk := key } else { s.prt with pck := key } }

/-- Custody changes its state, which is recorded (R443). -/
def custodyState (s : State) (v : Nat) : State :=
  custodyRaise { s with prt := { s.prt with custody := v } } Kind.custodyKeyChanged 0x308 0 none 0

/-- The key records that a change of custody or keys brings: for UNPROVISIONED both keys are erased. -/
def eraseKeys (s : State) : State := { s with prt := { s.prt with fmk := [], pck := [] } }

/-- Step 6 of R449: the digest is stored, the epoch increments, and the ledger takes the commit; a key kind takes its effect
(Table 15.3). -/
def finishCommit (s : State) (st : Stage) : State :=
  let e := s.prt.epoch + 1
  let s0 : State := { s with prt := { s.prt with epoch := e, commits := (s.prt.commits + 1) % 2 ^ 16 } }
  let s1 := match st.kind with
    | 0 =>
      let x : PartState := { s0.prt.parts.getD st.part {} with state := if recRemoves st.record then 0 else 1, digest := st.digest, epoch := e }
      { s0 with prt := { s0.prt with parts := s0.prt.parts.set st.part x } }
    | 1 => writeKeys (putKey s0 st.role st.newKey) 1
    | 2 =>
      let end_ := supNow s0 + usToCc s0 86400000000
      custodyState { s0 with prt := { s0.prt with replace := some (st.role, st.newKey, end_), replaceDigest := st.digest } } 2
    | _ => writeKeys (custodyState (eraseKeys s0) 0) 3
  let s2 := writeCommit s1 st.id st.kind (if st.kind = 0 then st.part else 0) (decide (st.kind = 0) && recRemoves st.record) st.digest
  closeStage s2 st 0 0 none

/-- The stage that is being applied completes: every tile in service has acknowledged, or the part is in Safe, and the epoch
stays clear of its bound, which is raised first where it would not (R452, R537). -/
def settleCommit (s : State) : State :=
  match s.prt.stages.find? (fun x => decide (x.phase = 2)) with
  | none => s
  | some st =>
    if !(inSafe s) && s.prt.acks.any (fun a => decide (a.2 = some st.id) && tileServes s a.1) then s
    else if !s.ldg.dead && decide (s.ldg.bound < s.prt.epoch + 1 + 16) then
      (if s.ldg.boundQ ≤ s.ldg.bound then writeSettings s (s.ldg.bound + 4096) else s)
    else finishCommit s st

/-- At entry into Safe every stage still signing or quiescing closes with a reason; one in apply waits for no
acknowledgement (R476). -/
def closeStages (s : State) (reason : Nat) : State :=
  let l := s.prt.stages.filter (fun x => decide (x.phase < 2))
  l.foldl (fun s st => refuseStage s st reason) s

end Sys2Proof.Machine
end

