-- ==== Sys2Proof/Machine/Proposal.lean ====
section
/-! DEFINITION. Partition records, binding lists, and the checks of a proposal (R436 to R439, R449, Table 15.6), and the
quiescence that each change requires (R450, Table 15.7). -/

namespace Sys2Proof.Machine

/-! ### The record (Table 15.1) and the binding list (Table 15.2) -/

/-- Whether a record's bytes from `a` to before `b` are zero. -/
def recZero (rec : List Byte) (a b : Nat) : Bool := decide (recF rec a (b - a) = 0)
/-- TRACE_EXPORT. -/
def recTrace (rec : List Byte) : Bool := bit (recF rec 1 1) 1
/-- FUNCn of port `b`: the function where VALID. -/
def recFn (rec : List Byte) (b : Nat) : Option Nat :=
  let w := recF rec (0x14 + 2 * b) 2
  if bit w 15 then some (w % 32) else none
/-- VECn of port `b`, in vectors. -/
def recVecs (rec : List Byte) (b : Nat) : Nat :=
  match recFn rec b with
  | some f => if f = 0 then 0 else 16 * recF rec (0x18 + b) 1
  | none => 0
/-- HOME. -/
def recHome (rec : List Byte) : Nat := recF rec 8 1 % 2
/-- The set bits of a mask field of `n` bits. -/
def recBits (rec : List Byte) (off n : Nat) : List Nat := let w := recF rec off (n / 8); (List.range n).filter (fun i => bit w i)
/-- THICKETS. -/
def recThickets (rec : List Byte) : List Nat := recBits rec 0x20 64
/-- LOCK_GROUPS. -/
def recGroups (rec : List Byte) : List Nat := recBits rec 0x28 64
/-- TRAIL_BLOCKS. -/
def recBlocks (rec : List Byte) : List Nat := recBits rec 0x30 64
/-- CLASSES. -/
def recClasses (rec : List Byte) : List Nat := recBits rec 0x38 64
/-- PRIORITY_FLOOR of class `c`, with its reserved bit. -/
def recFloor (rec : List Byte) (c : Nat) : Nat := recF rec (0x40 + c / 2) 1 / (if c % 2 = 0 then 1 else 16) % 16
/-- RING_SETS: the device ring sets, in the order of the partition's own numbers. -/
def recRings (rec : List Byte) : List Nat := recBits rec 0x80 1024
/-- The port of the partition's ring set `i`. -/
def recRingPort (rec : List Byte) (i : Nat) : Nat := recF rec (0x100 + i) 1 % 2
/-- SLICE_MAP of the partition's slice `i`. -/
def recSlice (rec : List Byte) (i : Nat) : Option Nat := let w := recF rec (0x140 + i) 1; if bit w 7 then some (w % 64) else none
/-- The physical slices a record maps. -/
def recSlices (rec : List Byte) : List Nat := (List.range 64).filterMap (recSlice rec)

/-- The committed record of a partition that exists. -/
def partRec (s : State) (p : Nat) : Option (List Byte) :=
  let x := s.prt.parts.getD p {}
  if x.state = 0 then none else some x.record
/-- The committed entries of a partition. -/
def partBinds (s : State) (p : Nat) : List (List Byte) :=
  let x := s.prt.parts.getD p {}
  if x.state = 0 then [] else bindEntries x.binds

/-! ### Fields and bindings (R436 to R438) -/

/-- A number in a range. -/
def within (lo hi n : Nat) : Bool := decide (lo ≤ n) && decide (n ≤ hi)

/-- FUNCn and VECn of a port stay in their ranges. -/
def recFnOk (rec : List Byte) (b : Nat) : Bool :=
  let w := recF rec (0x14 + 2 * b) 2
  let v := recF rec (0x18 + b) 1
  decide (bits w 14 5 = 0) && decide (bits w 4 0 ≤ 16)
  && (match recFn rec b with
      | some f => if f = 0 then decide (v = 0) else within 1 64 v
      | none => decide (v = 0))

/-- The record stays in its ranges (R436). -/
def recOk (rec : List Byte) : Bool :=
  let spill := recF rec 9 1
  let n := (recRings rec).length
  decide (rec.length = 384) && decide (recF rec 0 1 < 16) && decide (recF rec 1 1 < 4) && within 1 16384 (recF rec 2 2)
  && decide (recF rec 4 4 < 2 ^ 20) && decide (recF rec 8 1 < 2) && (decide (spill = 0) || within 24 32 spill)
  && decide (recF rec 0xA 2 ≤ 4096) && decide (recF rec 0xC 4 ≤ 65536) && decide (recF rec 0x10 4 ≤ 65536)
  && recFnOk rec 0 && recFnOk rec 1 && recZero rec 0x1A 0x20 && recZero rec 0x60 0x80
  && (List.range 64).all (fun c => decide (recFloor rec c < 8) && (decide (recFloor rec c = 0) || (recClasses rec).contains c))
  && decide (n ≤ 64)
  && (List.range 64).all (fun i =>
      let w := recF rec (0x100 + i) 1
      decide (bits w 6 1 = 0) && decide (bit w 7 = decide (i < n)))
  && (List.range 64).all (fun i => !(bit (recF rec (0x140 + i) 1) 6))

/-- A binding entry stays in its ranges (R437). -/
def bindOk (e : List Byte) : Bool :=
  decide (bVt e < 1024) && decide (bTile e < 0x100) && decide (bSlot e < 4) && recZero e 5 6 && decide (bNtBase e < 2 ^ 14)
  && decide (bNtCount e < 2 ^ 14) && decide (bFrame e < 256) && within 1 256 (bSize e) && recZero e 0xE 0x10

/-- The content of a key-kind stage: the role, a public key on the curve unless the keys are released, and zeros. -/
def keyContentOk (kind : Nat) (rec : List Byte) : Bool :=
  decide (rec.length = 384) && decide (recF rec 0 1 < 2) && recZero rec 98 384
  && (decide (kind = 3) || (ecKey ((rec.drop 1).take 97)).isSome)

/-- Strictly ascending virtual tiles. -/
def ascending (l : List Nat) : Bool :=
  match l with
  | a :: b :: t => decide (a < b) && ascending (b :: t)
  | _ => true

/-- Whether two frame windows of one tile meet. -/
def framesMeet (a b : List Byte) : Bool :=
  decide (bTile a = bTile b) && decide (bVt a ≠ bVt b) && decide (bFrame a < bFrame b + bSize b) && decide (bFrame b < bFrame a + bSize a)

/-- The binding rules (R437, R438). -/
def bindsOk (rec : List Byte) (es : List (List Byte)) : Bool :=
  ascending (es.map bVt)
  && es.all (fun a =>
      (recThickets rec).contains (bTile a / 4) && decide (bFrame a + bSize a ≤ 256) && decide (8 * (bNtBase a + bNtCount a + 1) ≤ 131072)
      && es.all (fun b => (decide (bVt a = bVt b) || !(decide (bTile a = bTile b) && decide (bSlot a = bSlot b))) && !(framesMeet a b)))

/-! ### Step 2 and step 3 of R449 -/

/-- The records of the other partitions that exist. -/
def otherRecs (s : State) (p : Nat) : List (List Byte) := ((List.range 16).filter (fun q => q != p)).filterMap (partRec s)

/-- Whether two lists share a number. -/
def share (a b : List Nat) : Bool := a.any (fun x => b.contains x)

/-- A granted resource is held by another partition (reason 2). -/
def grantsMeet (rec o : List Byte) : Bool :=
  decide (recF rec 0x20 8 &&& recF o 0x20 8 ≠ 0) || decide (recF rec 0x28 8 &&& recF o 0x28 8 ≠ 0)
  || decide (recF rec 0x30 8 &&& recF o 0x30 8 ≠ 0) || decide (recF rec 0x38 8 &&& recF o 0x38 8 ≠ 0)
  || decide (recF rec 0x80 128 &&& recF o 0x80 128 ≠ 0) || share (recSlices rec) (recSlices o)

/-- An entry would bind a physical tile that a direct write has bound to another partition (R46; reason 2, log entry 125). -/
def boundElsewhere (s : State) (p : Nat) (es : List (List Byte)) : Bool :=
  es.any (fun e => (tileAt s (steer s (bTile e))).bindings.any (fun b => b.valid && decide (b.part ≠ p)))

/-- The device-wide sums hold (reason 3). -/
def sumsOk (all : List (List Byte)) : Bool :=
  let sum (f : List Byte → Nat) : Nat := (all.map f).sum
  decide (sum (fun r => recF r 0xC 4) ≤ 65536) && decide (sum (fun r => recF r 0x10 4) ≤ 65536) && decide (sum (fun r => recF r 0xA 2) ≤ 4096)
  && decide (sum (fun r => recVecs r 0) ≤ 1984) && decide (sum (fun r => recVecs r 1) ≤ 1984)

/-- The function rules hold (reason 5). -/
def fnRulesOk (rec : List Byte) (others : List (List Byte)) : Bool :=
  [0, 1].all (fun b => match recFn rec b with
    | some f => others.all (fun o => decide (recFn o b ≠ some f))
    | none => true)
  && (recFn rec (recHome rec)).isSome
  && (List.range (recRings rec).length).all (fun i => (recFn rec (recRingPort rec i)).isSome)

/-- Every thicket and tile of the proposal is in service, and no suspended entry stays as it is (reason 11, R456). -/
def serviceOk (s : State) (p : Nat) (rec : List Byte) (es : List (List Byte)) : Bool :=
  (recThickets rec).all (fun t => !(thicketOff (groveAt s (t / 4)) (t % 4)))
  && es.all (fun e => tileServes s (steer s (bTile e))
      && !((match SMap.get none s.place (1024 * p + bVt e) with
            | some x => x.suspended
            | none => false) && (partBinds s p).contains e))

/-- A lowered quota, share or context limit is below its current use (reason 7). -/
def lowered (s : State) (p : Nat) (rec : List Byte) : Bool :=
  let old := (partRec s p).getD []
  let used := countRecs s (fun r => decide (r.part = p))
  let waits := (s.lck.waits.filter (fun w => decide (w.rq.part = p))).length
  let less (off n use : Nat) : Bool := decide (recF rec off n < recF old off n) && decide (recF rec off n < use)
  less 0xC 4 used || less 0x10 4 (gateReserved s p) || less 0xA 2 waits
  || less 2 2 ((ctxPart s p).st.filter (fun x => decide (x.2 ≠ 0))).length

/-- The vectors of a port's VFs with the records given: function, first vector and count, placed consecutively (R392). -/
def vecLayout (b : Nat) (recs : List (List Byte)) : List (Nat × Nat × Nat) :=
  let cnt (f : Nat) : Nat := (recs.map (fun r => if recFn r b = some f then recVecs r b else 0)).sum
  ((List.range 16).map (· + 1)).map (fun f => (f, if cnt f = 0 then 0 else 64 + (((List.range f).map cnt).sum), cnt f))

/-- The records in force with a partition's replaced. -/
def recsWith (s : State) (p : Nat) (rec : List Byte) : List (List Byte) := otherRecs s p ++ (if recRemoves rec then [] else [rec])

/-- A VF with MSI-X Enable 1 would see its vectors move or their count change (reason 12). -/
def vecsMove (s : State) (p : Nat) (rec : List Byte) : Bool :=
  [0, 1].any (fun b => (vecLayout b (recsWith s p rec)).any (fun x =>
    let f := fnAt s b x.1
    f.msixEn && !(decide (f.vecBase = x.2.1) && decide (f.vecs = x.2.2))))

/-- The digest that a stage's partition has now, or that of the keys. -/
def baseDigest (s : State) (kind p : Nat) : Nat :=
  if kind = 0 then (s.prt.parts.getD p {}).digest else sha384 (s.prt.fmk ++ s.prt.pck)

/-- Steps 2 and 3 of a partition proposal: the first reason that refuses it. -/
def partCheck (s : State) (st : Stage) : Option Nat :=
  let es := bindEntries st.binds
  let others := otherRecs s st.part
  let rec_ := st.record
  if !(recOk rec_ && es.all bindOk) then some 1
  else if !(bindsOk rec_ es) then some 4
  else if recRemoves rec_ then (if vecsMove s st.part rec_ then some 12 else none)
  else if others.any (grantsMeet rec_) || boundElsewhere s st.part es then some 2
  else if !(sumsOk (rec_ :: others)) then some 3
  else if !(fnRulesOk rec_ others) then some 5
  else if !(serviceOk s st.part rec_ es) then some 11
  else if lowered s st.part rec_ then some 7
  else if vecsMove s st.part rec_ then some 12
  else none

/-- Steps 1 to 3 of R449: the first reason that refuses a stage. -/
def stageCheck (s : State) (st : Stage) : Option Nat :=
  if inSafe s then some 10
  else if baseDigest s st.kind st.part ≠ st.base then some 8
  else if s.prt.epoch ≠ st.epoch then some 9
  else if st.kind = 0 then partCheck s st
  else if keyContentOk st.kind st.record then none else some 1

/-! ### Quiescence (R258, R289, R313, R369, R450, Table 15.7) -/

/-- Whether physical tile `u` is quiescent (R450). -/
def tileQuiet (s : State) (u : Nat) : Bool :=
  let t := tileAt s u
  t.actSlot.all Option.isNone
  && (t.excluded || (!t.thread.running && !t.kern.running)) && t.store.isEmpty && t.ovf.isEmpty && t.iq.isEmpty && t.fq.isEmpty
  && t.held.isNone && spillQuiet s u && t.xfers.isEmpty

/-- The physical tiles of a thicket. -/
def thicketTiles (s : State) (t : Nat) : List Nat := (List.range 4).map (fun k => steer s (4 * t + k))

/-- Whether every tile of a record's thickets is quiescent. -/
def tilesQuiet (s : State) (rec : List Byte) : Bool := (recThickets rec).all (fun t => (thicketTiles s t).all (tileQuiet s))

/-- Whether a ring set is DISABLED. -/
def ringIdle (s : State) (rs : Nat) : Bool := decide ((ringAt s rs).state = 0)

/-- Whether every context of a partition at or above `n` is FREE. -/
def ctxFreeFrom (s : State) (p n : Nat) : Bool := (ctxPart s p).st.all (fun x => decide (x.1 < n) || decide (x.2 = 0))

/-- Whether a sifter job or COPY of a partition is outstanding. -/
def bulkBusy (s : State) (p : Nat) : Bool :=
  (List.range 4).any (fun k => sifBusy s k p)
  || s.rings.any (fun x => x.2.alloc && decide (x.2.part = p) && (x.2.longs.any (fun d => decide (d.op = 0x0B))
      || (match x.2.cur with
          | some d => decide (d.op = 0x0B)
          | none => false)))

/-- Whether a partition is quiescent (R450). -/
def partQuiet (s : State) (p : Nat) : Bool :=
  match partRec s p with
  | none => true
  | some rec =>
    tilesQuiet s rec && decide (countRecs s (fun r => decide (r.part = p)) = 0)
    && s.sch.takes.all (fun w => decide (w.rq.part ≠ p)) && gateQuiet s p && regionQuiet s p && lockQuiet s p
    && (List.range 4).all (fun k => !(sifBusy s k p)) && (recRings rec).all (ringIdle s) && ctxFreeFrom s p 1

/-- The entries of a new list that a commit creates or changes, and the committed ones that it removes or changes. -/
def bindChanges (s : State) (st : Stage) : List (List Byte) × List (List Byte) :=
  let old := partBinds s st.part
  let new := if recRemoves st.record then [] else bindEntries st.binds
  (new.filter (fun e => !(old.contains e)), old.filter (fun e => !(new.contains e)))

/-- The physical tiles whose bindings a stage changes. -/
def stageTiles (s : State) (st : Stage) : List Nat :=
  if st.kind ≠ 0 then []
  else
    let c := bindChanges s st
    ((c.1 ++ c.2).map (fun e => steer s (bTile e))).eraseDups

/-- The resources of a mask that a stage withdraws. -/
def withdrawn (old new : List Nat) : List Nat := old.filter (fun x => !(new.contains x))

/-- The port of a device ring set under a record. -/
def ringPortOf (rec : List Byte) (rs : Nat) : Option Nat := ((recRings rec).findIdx? (fun r => r == rs)).map (recRingPort rec)

/-- The conditions of Table 15.7 for a stage. -/
def stageQuiet (s : State) (st : Stage) : Bool :=
  if st.kind ≠ 0 then true
  else
    let p := st.part
    let new := st.record
    match partRec s p with
    | none => (stageTiles s st).all (tileQuiet s)
    | some old =>
      if recRemoves new then partQuiet s p
      else
        (stageTiles s st).all (tileQuiet s)
        && (withdrawn (recThickets old) (recThickets new)).all (fun t => (thicketTiles s t).all (tileQuiet s))
        && ((List.range 64).all (fun i => (recSlice old i).isNone || decide (recSlice old i = recSlice new i))
            || (tilesQuiet s old && !(bulkBusy s p)))
        && (withdrawn (recGroups old) (recGroups new)).all (groupIdle s)
        && (withdrawn (recBlocks old) (recBlocks new)).all (fun b => (List.range 64).all (fun i =>
              (trailAt s (64 * b + i)).items.isEmpty && !(trailAt s (64 * b + i)).held))
        && (withdrawn (recClasses old) (recClasses new)).all (fun c => decide (countRecs s (fun r => decide (r.cls = c)) = 0))
        && (recRings old).all (fun r => decide (ringPortOf new r = ringPortOf old r) || ringIdle s r)
        && [0, 1].all (fun b => match recFn old b with
              | some f => decide (recFn new b = some f) || s.rings.all (fun x =>
                  !(x.2.alloc && decide (x.2.port = b) && decide (x.2.fn = f)) || decide (x.2.state = 0))
              | none => true)
        && (decide (recF old 2 2 ≤ recF new 2 2) || ctxFreeFrom s p (recF new 2 2))
        && ((decide (recF old 4 4 = recF new 4 4) && decide (recHome old = recHome new) && decide (recF old 9 1 = recF new 9 1))
            || (decide ((regionAt s p).state = 0) && tilesQuiet s old))

end Sys2Proof.Machine
end

