-- ==== Sys2Proof/Machine/Custody.lean ====
section
/-! DEFINITION. Two-party custody and the commit engine (chapter 15): stages, signatures, processing, how a commit takes
effect, invalidation, arming, suspension, enrolment and key replacement, the direct-write window, attestation. -/

namespace Sys2Proof.Machine

/-! ### Invalidation (R49, R452, R456) -/

/-- Contiguous ranges of a rising list. -/
def ranges (l : List Nat) : List (Nat × Nat) :=
  l.foldl (fun out v => match out.getLast? with
    | some x => if x.2 + 1 = v then out.dropLast ++ [(x.1, v)] else out ++ [(v, v)]
    | none => [(v, v)]) []

/-- The tiles in service. -/
def servingTiles (s : State) : List Nat := (List.range 272).filter (tileServes s)

/-- PLACE_INVALIDATE for a range to every tile in service; `who` is the stage that waits for the acknowledgements. -/
def broadcastRange (s : State) (p : Nat) (who : Option Nat) (r : Nat × Nat) : State :=
  (servingTiles s).foldl (fun s u =>
    let s1 : State := { s with prt := { s.prt with acks := s.prt.acks ++ [(u, who)] } }
    sendMgmt s1 (rqId 0x30A 0) u p 0 (.placeInvalidate r.1 r.2)) s

/-- PLACE_INVALIDATE for the virtual tiles of a list, by contiguous ranges. -/
def broadcastInv (s : State) (p : Nat) (who : Option Nat) (vts : List Nat) : State :=
  let sorted := (List.range 1024).filter (fun v => vts.contains v)
  (ranges sorted).foldl (fun s r => broadcastRange s p who r) s

/-! ### Apply (R439, R452 to R454) -/

/-- The next generation of a virtual tile's binding (R439). -/
def nextGenOf (s : State) (p vt : Nat) : Nat := (SMap.get 0 s.prt.gens (1024 * p + vt) + 1) % 4096

/-- Whether a stored token stays when a tile's bindings change: all but a sticky one whose virtual tile is bound there no more
(R59). -/
def keepsEntry (t : Tile) (e : MEntry) : Bool :=
  let tag := BitVec.ofNat 64 (16 * e.key)
  decide (e.state ≠ 3) || t.bindings.any (fun b => b.valid && decide (b.part = tagPart tag) && decide (b.vtile = tagVt tag))

/-- What a tile clears when its set of valid bindings changes (R59, R79, R136, R304, R454). -/
def rebind (t : Tile) (p : Nat) : Tile :=
  { t with
    store := t.store.filter (fun e => keepsEntry t e.2)
    ovf := t.ovf.filter (fun e => keepsEntry t e.2)
    v := List.replicate 32 {}
    acc := [0, 0, 0, 0]
    xcnt := List.replicate 8 0
    spl := { t.spl with filter := [], parityErr := false }
    pcache := t.pcache.map (fun e => match e with
      | some x => if x.part = p then none else some x
      | none => none) }

/-- A committed entry is removed: its slot and its placement. -/
def dropEntry (s : State) (p : Nat) (e : List Byte) : State :=
  let s1 : State := { s with place := SMap.put none s.place (1024 * p + bVt e) none }
  modTile s1 (steer s (bTile e)) (fun t =>
    let b := t.bindings.getD (bSlot e) {}
    if b.part = p ∧ b.vtile = bVt e then
      { t with bindings := t.bindings.set (bSlot e) {}, vtFrame := t.vtFrame.set (bSlot e) {} }
    else t)

/-- An entry is created: a new generation, the slot's binding and frame window, and the placement. -/
def addEntry (s : State) (p : Nat) (e : List Byte) : State :=
  let g := nextGenOf s p (bVt e)
  let x : Place := { unit := bTile e, slot := bSlot e, gen := g }
  let s1 : State := { s with
    place := SMap.put none s.place (1024 * p + bVt e) (some x)
    prt := { s.prt with gens := SMap.put 0 s.prt.gens (1024 * p + bVt e) g } }
  let b : Binding := { valid := true, part := p, vtile := bVt e, gen := g, ntBase := bNtBase e, ntCountM1 := bNtCount e }
  modTile s1 (steer s (bTile e)) (fun t =>
    { t with bindings := t.bindings.set (bSlot e) b, vtFrame := t.vtFrame.set (bSlot e) { size := bSize e, base := bFrame e } })

/-- The bindings of a stage are written, and each tile concerned clears what its new set of bindings clears. -/
def applyBinds (s : State) (st : Stage) : State :=
  let c := bindChanges s st
  let us := stageTiles s st
  let s1 := c.2.foldl (fun s e => dropEntry s st.part e) s
  let s2 := c.1.foldl (fun s e => addEntry s st.part e) s1
  us.foldl (fun s u => modTile s u (fun t => rebind t st.part)) s2

/-- A stand buffer's slice gets an owner, or none. -/
def ownSlice (s : State) (x : Nat) (p : Option Nat) : State :=
  let k := x / 16
  let b := s.sts.getD k {}
  let b1 : Sts := { b with owner := b.owner.set (x % 16) (p.getD 0), valid := b.valid.set (x % 16) p.isSome }
  { s with sts := s.sts.set k b1 }

/-- The slice map of a partition is written. -/
def applySlices (s : State) (p : Nat) (old new : List Byte) : State :=
  let s1 := (recSlices old).foldl (fun s x => ownSlice s x none) s
  let s2 := (recSlices new).foldl (fun s x => ownSlice s x (some p)) s1
  { s2 with sliceMap := (List.range 64).foldl (fun m i => SMap.put none m (64 * p + i) (recSlice new i)) s2.sliceMap }

/-- Classes, trails and lock groups are withdrawn and granted. -/
def applyGrants (s : State) (p : Nat) (old new : List Byte) : State :=
  let cls (s : State) (c : Nat) (x : WClass) : State := { s with sch := { s.sch with classes := s.sch.classes.set c x } }
  let s1 := (withdrawn (recClasses old) (recClasses new)).foldl (fun s c => cls s c { classAt s c with valid := false, part := 0, floor := 0 }) s
  let s2 := (recClasses new).foldl (fun s c => cls s c { classAt s c with valid := true, part := p, floor := recFloor new c }) s1
  let blk (s : State) (b : Nat) (v : Bool) : State :=
    (List.range 64).foldl (fun s i => setTrail s (64 * b + i) { trailAt s (64 * b + i) with valid := v, part := if v then p else 0 }) s
  let s3 := (withdrawn (recBlocks old) (recBlocks new)).foldl (fun s b => blk s b false) s2
  let s4 := (withdrawn (recBlocks new) (recBlocks old)).foldl (fun s b => blk s b true) s3
  let s5 := (withdrawn (recGroups old) (recGroups new)).foldl withdrawGroup s4
  (withdrawn (recGroups new) (recGroups old)).foldl (fun s g => grantGroup s g p) s5

/-- A function is unbound: it acts as R385 does; of a removed partition the commit engine raises PARTITION_REMOVED (R495). -/
def unbindFn (s : State) (id p b f : Nat) (remove : Bool) : State :=
  let s1 := if remove then
      fnQuit (raiseAbout s Kind.partitionRemoved (rqId 0x30A 0) (bridgeUnit b) (some p) id 0 (some (fnSub f))) b f
    else fnStop s b f
  setFn s1 b f { fnAt s1 b f with part := none, pasid := 0 }

/-- The bridges' functions and vectors are assigned (R392). -/
def applyFns (s : State) (st : Stage) (old new : List Byte) : State :=
  let remove := recRemoves st.record
  let p := st.part
  let s1 := [0, 1].foldl (fun s b => match recFn old b with
    | some f => if recFn new b = some f then s else unbindFn s st.id p b f remove
    | none => s) s
  let moved := !(decide (recF old 4 4 = recF new 4 4) && decide (recHome old = recHome new))
  let s2 := [0, 1].foldl (fun s b => match recFn new b with
    | some f =>
      let s1 := setFn s b f { fnAt s b f with part := some p, pasid := recF new 4 4 }
      if moved then atcDrop s1 b f else s1
    | none => s) s1
  [0, 1].foldl (fun s b => (vecLayout b (recsWith s p st.record)).foldl (fun s x =>
    setFn s b x.1 { fnAt s b x.1 with vecs := x.2.2, vecBase := x.2.1 }) s) s2

/-- The ring sets are assigned: a set that stays on its port keeps its registers. -/
def applyRings (s : State) (p : Nat) (old new : List Byte) : State :=
  let s1 := (withdrawn (recRings old) (recRings new)).foldl (fun s rs => setRing s rs {}) s
  ((recRings new).zipIdx).foldl (fun s x =>
    let port := recRingPort new x.2
    let r := ringAt s x.1
    let kept : RingSet := if r.alloc ∧ r.part = p ∧ r.port = port then r else {}
    setRing s x.1 { kept with alloc := true, port := port, fn := (recFn new port).getD 0, part := p, loc := x.2 }) s1

/-- The contexts of a partition under a new limit (R63, Table 15.8). -/
def applyCtx (s : State) (p new : Nat) : State :=
  let c := ctxPart s p
  let f := c.free
  setCtxPart s p
    (if new = 0 then {}
     else if c.limit = 0 then { limit := new, free := { next := 1, stop := new }, st := [(0, 1)] }
     else if c.limit ≤ new then
       { c with limit := new, free := if f.back.isEmpty ∧ f.stop = c.limit then { f with stop := new }
           else { f with back := f.back ++ (List.range (new - c.limit)).map (· + c.limit) } }
     else { c with limit := new, free := { front := f.front.filter (fun x => decide (x < new)), next := f.next, stop := min f.stop new,
                                           back := f.back.filter (fun x => decide (x < new)) } })

/-- Quotas, shares, limits, the home bridge and trace export. -/
def applyLimits (s : State) (p : Nat) (new : List Byte) : State :=
  { s with
    sch := { s.sch with quotas := s.sch.quotas.set p (recF new 0xC 4) }
    trl := { s.trl with quotas := s.trl.quotas.set p (recF new 0x10 4) }
    lck := { s.lck with quotas := s.lck.quotas.set p (recF new 0xA 2) }
    homes := s.homes.set p (recHome new)
    traceExport := if recTrace new then NSet.add s.traceExport p else NSet.del s.traceExport p
    spr := { s.spr with regions := s.spr.regions.set p { regionAt s p with limit := recF new 9 1 } } }

/-- The commit that creates a partition clears its fault window and counters (R491). -/
def newWindow (s : State) (p : Nat) : State :=
  { s with flt := { s.flt with parts := s.flt.parts.set p {}, pwin := SMap.drop s.flt.pwin (fun k => decide (k / 64 = p)) } }

/-- The activations dispatched to a tile and picked by `f` are retired as lost (R251). -/
def retireOn (s : State) (u : Nat) (f : Rec → Bool) : State :=
  ((s.sch.recs.filter (fun x => decide (x.2.state = 3) && decide (x.2.tile = u) && f x.2)).map Prod.fst).foldl loseRecord s

/-- Whether a tile holds a valid binding of a partition. -/
def bindsPart (s : State) (p u : Nat) : Bool := (tileAt s u).bindings.any (fun b => b.valid && decide (b.part = p))

/-- Releases of a partition wait no more for a tile that holds no binding of it (R65). -/
def releasesPass (s : State) (p u : Nat) : State :=
  if bindsPart s p u then s
  else (s.ctx.releases.filter (fun r => decide (r.part = p))).foldl (fun s r => releaseTileAck s p r.ctx u 0) s

/-- What follows the removal of bindings of virtual tiles from a tile. -/
def bindingsGone (s : State) (p u : Nat) (vts : List Nat) : State :=
  let all := !(bindsPart s p u)
  releasesPass (retireOn s u (fun r => decide (r.part = p) && (all || vts.contains r.dvt))) p u

/-- A unit purges the cache entries of a tile's four requesters for a partition (R342). -/
def purgeTile (s : State) (by_ p u : Nat) : State := (List.range 4).foldl (fun s k => startPurge s by_ (rqId u k) p) s

/-- The requesters of a tile are purged, and its locks orphaned through the collector (R342, R454, R495). -/
def reboundTile (s : State) (id p u : Nat) : State :=
  purgeTile (raiseAbout s Kind.tileRebound (rqId 0x30A 0) u (some p) id 0 (some 0)) 0x30A p u

/-- Step 5 of R449 for a partition proposal. -/
def applyPart (s : State) (st : Stage) : State :=
  let p := st.part
  let remove := recRemoves st.record
  let old := (partRec s p).getD []
  let new := if remove then [] else st.record
  let c := bindChanges s st
  let us := stageTiles s st
  let gone := c.2.map bVt
  let vts := (c.1 ++ c.2).map bVt
  let s1 := applySlices (applyBinds s st) p old new
  let s2 := applyRings (applyFns (applyGrants s1 p old new) st old new) p old new
  let s3 := applyLimits (applyCtx s2 p (recF new 2 2)) p new
  let s4 := if remove then setDest s3 (1 + p) {} else if old.isEmpty then newWindow s3 p else s3
  let s5 := us.foldl (fun s u => reboundTile (bindingsGone s p u gone) st.id p u) s4
  let x : PartState := { s5.prt.parts.getD p {} with record := st.record, binds := if remove then [] else st.binds }
  broadcastInv (settleTakes { s5 with prt := { s5.prt with parts := s5.prt.parts.set p x } }) p (some st.id) vts

/-! ### Stages (R444 to R449) -/

/-- An answer to a party. -/
def answer (s : State) (party : Nat) (words : List Nat) : State := emit s (.mctp party words)

/-- A refusal whose status the spec does not state: the status is left open. -/
def answerOpen (s : State) (party : Nat) : State := let (v, s1) := freeTake s; answer s1 party [v % 256, 0]

/-- The stage with an identifier. -/
def stageAt (s : State) (id : Nat) : Option Stage := s.prt.stages.find? (fun x => decide (x.id = id))

/-- A stage replaced. -/
def setStage (s : State) (st : Stage) : State :=
  { s with prt := { s.prt with stages := s.prt.stages.map (fun x => if x.id = st.id then st else x) } }

/-- MAGIC of Table 15.5. -/
def custodyMagic : List Byte := asciiBytes [0x5A, 0x48, 0x43, 0x55, 0x53, 0x54, 0x30, 0x31]

/-- DIGEST of a stage (R446, Table 15.5). -/
def stageDigest (s : State) (id kind part base : Nat) (rec binds : List Byte) : Nat :=
  sha384 (custodyMagic ++ leBytes 8 s.fuses.serial ++ leBytes 8 s.prt.epoch ++ leBytes 4 id ++ leBytes 1 kind
    ++ leBytes 1 (if kind = 0 then part else 0) ++ leBytes 2 (if kind = 0 then binds.length / 16 else 0) ++ digestBytes base ++ rec
    ++ (if kind = 0 then binds else []))

/-- Whether the condition of a key kind holds (Table 15.3). -/
def keyCondition (s : State) (kind : Nat) : Bool :=
  let empty := s.prt.parts.all (fun x => decide (x.state = 0))
  match kind with
  | 2 => decide (s.clr.mode = .configuration) && empty
  | 3 => empty
  | _ => true

/-- STAGE from a party: a kind, a record or key content, and a binding list. -/
def stageOpen (s : State) (party kind : Nat) (rec binds : List Byte) : State :=
  if !(fwRuns s) then s
  else if 3 < kind ∨ rec.length ≠ 384 ∨ binds.length % 16 ≠ 0 ∨ 16 * 1024 < binds.length ∨ (kind ≠ 0 ∧ binds ≠ []) then answer s party [0x11, 1]
  else if party ≠ 0 ∧ kind ≠ 2 then answer s party [0x10, 0]
  else if inSafe s then answer s party [0x16, 10]
  else if s.prt.custody ≠ 1 ∨ !(epochReady s) ∨ !(keyCondition s kind) ∨ s.prt.stages.any (fun x => decide (x.kind ≠ 0)) then answer s party [0x14, 0]
  else
    let p := recF rec 0 1 % 16
    if 4 ≤ s.prt.stages.length ∨ (kind ≠ 0 ∧ s.prt.stages ≠ []) ∨ (kind = 0 ∧ s.prt.stages.any (fun x => decide (x.part = p))) then answer s party [0x09, 0]
    else
      let id := (s.prt.nextStage + 1) % 2 ^ 32
      let base := baseDigest s kind p
      let d := stageDigest s id kind p base rec binds
      let st : Stage := { id := id, kind := kind, part := p, record := rec, binds := binds, base := base, digest := d, epoch := s.prt.epoch
                          openedAt := supNow s }
      answer { s with prt := { s.prt with nextStage := id, stages := s.prt.stages ++ [st] } } party [0, 0, id, d]

/-- The domain string of a party (R447). -/
def custodyDomain (party : Nat) : List Byte :=
  asciiBytes ([0x5A, 0x48, 0x2D, 0x43, 0x55, 0x53, 0x54, 0x4F, 0x44, 0x59, 0x2D] ++ (if party = 0 then [0x46, 0x4D] else [0x50, 0x43]))

/-- Whether a signature by a key of a party over a digest verifies. -/
def custodySigned (party : Nat) (key : List Byte) (digest : Nat) (sig : List Byte) : Bool :=
  ecdsaOk key (sha384 (custodyDomain party ++ digestBytes digest)) sig

/-- A party's current key. -/
def partyKey (s : State) (party : Nat) : List Byte := if party = 0 then s.prt.fmk else s.prt.pck

/-- Whether every signature that a stage requires has been verified (Table 15.3). -/
def stageSigned (st : Stage) : Bool :=
  match st.kind with
  | 1 => st.fmOk && st.pcOk && st.newOk
  | 2 => if st.role = 0 then st.pcOk else st.fmOk
  | _ => st.fmOk && st.pcOk

/-- A stage that has just been signed in full takes its place in the order of processing. -/
def noteSigned (s : State) (st : Stage) : State :=
  if stageSigned st && st.order.isNone then
    setStage { s with prt := { s.prt with orders := s.prt.orders + 1 } } { st with order := some s.prt.orders }
  else setStage s st

/-- One signature of a party over a stage: by its current key, or by the new key of a ROTATE of its own. -/
def oneSignature (s : State) (party id : Nat) (byNew : Bool) (sig : List Byte) : State × Bool :=
  match stageAt s id with
  | none => (s, false)
  | some st =>
    let has := if byNew then st.newOk else if party = 0 then st.fmOk else st.pcOk
    if has then (s, true)
    else if custodySigned party (if byNew then st.newKey else partyKey s party) st.digest sig && (!byNew || (decide (st.kind = 1) && decide (st.role = party))) then
      (noteSigned s (if byNew then { st with newOk := true } else if party = 0 then { st with fmOk := true } else { st with pcOk := true }), true)
    else (custodyRaise s Kind.custodySignatureInvalid 0x308 id st.partition 0, false)

/-- SIGN and COUNTERSIGN: a party's signatures over a stage, by its current key and, for a ROTATE of its own, by the new one. -/
def signStage (s : State) (party id : Nat) (sigs : List (List Byte)) : State :=
  if !(fwRuns s) then s
  else match stageAt s id with
  | none => answer s party [0x14, 0]
  | some _ =>
    match sigs with
    | [a] =>
      let x := oneSignature s party id false a
      if x.2 then answer x.1 party [0, 0] else answerOpen x.1 party
    | [a, b] =>
      let x := oneSignature s party id false a
      let y := oneSignature x.1 party id true b
      if x.2 && y.2 then answer y.1 party [0, 0] else answerOpen y.1 party
    | _ => answer s party [0x11, 0]

/-- STAGE_TIMEOUT: a stage whose signatures have not all been verified 30 s after its STAGE (R448). -/
def stageTimeout (s : State) (id : Nat) : State :=
  match stageAt s id with
  | none => s
  | some st =>
    if supClocked s && st.order.isNone && decide (st.openedAt + usToCc s 30000000 ≤ supNow s) then
      closeStage s st 0x0B 0 (some Kind.custodyStageTimeout)
    else s

/-- ABORT from a party; a stage in apply is not closed. What PRT.LAST.STATUS shows of it the spec does not state. -/
def abortStage (s : State) (party id : Nat) : State :=
  if !(fwRuns s) then s
  else match stageAt s id with
  | none => answer s party [0x14, 0]
  | some st =>
    if st.phase = 2 then answer s party [0x14, 0]
    else
      let (v, s1) := freeTake s
      answer (closeStage s1 st (v % 256) 0 none) party [0, 0]

/-- The fully signed stage whose turn it is, while none is under way (R449). -/
def nextSigned (s : State) : Option Stage :=
  if s.prt.stages.any (fun x => decide (x.phase ≠ 0)) then none
  else
    (s.prt.stages.filter (fun x => x.order.isSome)).foldl (fun best x => match best with
      | some b => if x.order.getD 0 < b.order.getD 0 then some x else some b
      | none => some x) none

/-- STAGE_PROCESSING: steps 1 to 3 of R449, and the wait for quiescence begins (R451). -/
def stageProcessing (s : State) : State :=
  if !(clocked s && supClocked s && epochReady s) then s
  else match nextSigned s with
  | none => s
  | some st =>
    match stageCheck s st with
    | some r => refuseStage s st r
    | none =>
      if keyCondition s st.kind then setStage s { st with phase := 1, since := supNow s, held := stageTiles s st }
      else closeStage s st 0x14 0 (some Kind.commitRefused)

/-- The stage that waits for quiescence. -/
def quiescing (s : State) : Option Stage := s.prt.stages.find? (fun x => decide (x.phase = 1))

/-- COMMIT_APPLY: once quiescent, and with step 2 passed again, the change is applied (R449, R452). -/
def commitApply (s : State) : State :=
  if !(clocked s && supClocked s) then s
  else match quiescing s with
  | none => s
  | some st =>
    if !(stageQuiet s st) then s
    else match stageCheck s st with
    | some r => refuseStage s st r
    | none =>
      let s1 := setStage s { st with phase := 2, since := supNow s }
      settleCommit (if st.kind = 0 then applyPart s1 st else s1)

/-- QUIESCE_TIMEOUT: 1 s has passed without quiescence (R449). -/
def quiesceTimeout (s : State) : State :=
  match quiescing s with
  | none => s
  | some st =>
    if supClocked s && decide (st.since + usToCc s 1000000 ≤ supNow s) && !(stageQuiet s st) then
      closeStage s st 0x0B 6 (some Kind.commitQuiesceTimeout)
    else s

/-- PLACE_INV_ACK: a tile's acknowledgement reaches the commit engine (R452). -/
def placeInvAck (s : State) (u part : Nat) : State :=
  let p : Packet := { cls := 0, dest := 0x30A, src := rqId u 3, part := part, body := .placeInvAck }
  if !(clocked s && arrivable s p) then s
  else
    let s1 := takePkt s p
    match s1.prt.acks.find? (fun a => decide (a.1 = u)) with
    | some a => settleCommit { s1 with prt := { s1.prt with acks := s1.prt.acks.erase a } }
    | none => s1

/-- PLACE_INV_ACK_TIMEOUT: tiles that have not acknowledged 100 µs after the broadcast are quarantined (R452). -/
def placeInvTimeout (s : State) : State :=
  match s.prt.stages.find? (fun x => decide (x.phase = 2)) with
  | none => s
  | some st =>
    let late := ((s.prt.acks.filter (fun a => decide (a.2 = some st.id) && tileServes s a.1)).map Prod.fst).eraseDups
    if !(clocked s && supClocked s) || late.isEmpty || decide (supNow s < st.since + figureCc s 100 1) then s
    else
      let s1 := late.foldl (fun s u => raiseAbout s Kind.placeInvTimeout (rqId 0x30A 0) u (some st.part) st.id 0 none) s
      settleCommit { s1 with prt := { s1.prt with acks := s1.prt.acks.filter (fun a => !(late.contains a.1)) } }

/-- PLACE_READ: the commit engine answers from its placement tables; between the first and last binding write of a commit it
answers none, which one step of `commitApply` holds (R48, R452). -/
def placeRead (s : State) (rq : Rq) (vt : Nat) : State :=
  if !(working s) then s
  else arriveReq s 0x30A rq (.placeRead vt) (fun s =>
    match placeOf s rq.part vt with
    | some p => respond s 0x30A rq (.placeData p.unit p.slot p.gen)
    | none => respond s 0x30A rq .placeUnbound)

/-! ### Arming and suspension (R455, R456) -/

/-- A partition's state changed. -/
def setPartState (s : State) (p v : Nat) : State :=
  { s with prt := { s.prt with parts := s.prt.parts.set p { s.prt.parts.getD p {} with state := v } } }

/-- ARM from the fabric manager with a digest. -/
def arm (s : State) (p digest : Nat) : State :=
  if !(fwRuns s) then s
  else if 16 ≤ p then answer s 0 [0x11, 0]
  else
    let x := s.prt.parts.getD p {}
    if x.state = 2 ∧ x.digest = digest then answer (setPartState s p 1) 0 [0, 0]
    else answer (custodyRaise s Kind.armRefused 0x30A 0 (some p) 0) 0 [0x14, 0]

/-- DISARM from the fabric manager. -/
def disarm (s : State) (p : Nat) : State :=
  if !(fwRuns s) then s
  else if 16 ≤ p then answer s 0 [0x11, 0]
  else if inSafe s then answer s 0 [0x16, 0]
  else if (s.prt.parts.getD p {}).state = 1 then answer (setPartState s p 2) 0 [0, 0]
  else answer s 0 [0x14, 0]

/-- At each return from Safe every partition that exists becomes DISARMED. -/
def disarmAll (s : State) : State :=
  { s with prt := { s.prt with parts := s.prt.parts.map (fun x => if x.state = 1 then { x with state := 2 } else x) } }

/-- The bindings of a physical tile are suspended (R456): VALID is cleared, the virtual tiles are marked, and their placement
is invalidated. -/
def suspendTile (s : State) (u : Nat) : State :=
  let bs := (tileAt s u).bindings.filter (fun b => b.valid)
  let p := (bs.headD {}).part
  let vts := bs.map (fun b => b.vtile)
  if bs.isEmpty then s
  else
    let mark (m : SMap (Option Place)) (v : Nat) : SMap (Option Place) := match SMap.get none m (1024 * p + v) with
      | some x => SMap.put none m (1024 * p + v) (some { x with suspended := true })
      | none => m
    let s1 : State := { s with place := vts.foldl mark s.place }
    let s2 := modTile s1 u (fun t => rebind { t with bindings := t.bindings.map (fun b => { b with valid := false }) } p)
    broadcastInv (releasesPass s2 p u) p none vts

/-! ### Queries (R444) -/

/-- PRT.STAGE[k]. -/
def stageWord (st : Stage) : Nat :=
  2 ^ 63 + 2 ^ 61 * st.phase + 2 ^ 59 * st.kind + 2 ^ 55 * (if st.kind = 0 then st.part else 0) + 2 ^ 54 * b2n st.fmOk + 2 ^ 53 * b2n st.pcOk + st.id

/-- QUERY from a party: custody state, epoch, key hashes, stages and partition states. -/
def query (s : State) (party : Nat) : State :=
  if !(fwRuns s) then s
  else
    let hash (k : List Byte) : Nat := if k = [] then 0 else sha384 k
    answer s party ([0, 0, s.prt.custody, s.prt.epoch, hash s.prt.fmk, hash s.prt.pck] ++ (List.range 4).map (fun k =>
      match s.prt.stages[k]? with
      | some st => stageWord st
      | none => 0) ++ s.prt.parts.map PartState.state)

/-- MCTP_MESSAGE_INVALID: a command from a party that Table 15.4 does not permit is refused with RIGHTS_DENIED; a reserved command
code or field is refused with FIELD_ERROR and recorded (R444). -/
def mctpInvalid (s : State) (m : BadMctp) : State :=
  if !(fwRuns s) then s
  else if m.forbidden then answer s m.party [0x10, 0]
  else answer (raise s Kind.mctpMessageInvalid (rqId 0x30D 0) none 0 0) m.party [0x11, 0]

/-! ### Enrolment and replacement (R441 to R443) -/

/-- Room under the epoch bound is made before a key change outside a stage (R537). -/
def roomForEpoch (s : State) : State :=
  if s.ldg.boundQ < s.prt.epoch + 1 + 16 then writeSettings s (s.ldg.boundQ + 4096) else s

/-- The epoch increments. -/
def bumpEpoch (s : State) : State := { s with prt := { s.prt with epoch := s.prt.epoch + 1 } }

/-- The pair of ENROLLs is discarded. -/
def enrollFail (s : State) : State :=
  custodyRaise { s with prt := { s.prt with enroll := none } } Kind.custodySignatureInvalid 0x308 0 none 0

/-- ENROLL from a party with its key and the hash it expects of the other's (R441). -/
def enroll (s : State) (party : Nat) (key : List Byte) (expects : Nat) : State :=
  if !(fwRuns s) then s
  else if (ecKey key).isNone then answer s party [0x11, 0]
  else if s.prt.custody ≠ 0 ∨ !(epochReady s) then answer s party [0x14, 0]
  else if s.clr.mode ≠ .configuration then answer (if s.prt.enroll.isSome then enrollFail s else s) party [0x14, 0]
  else
    let keep (s : State) : State :=
      answer { s with prt := { s.prt with enroll := some { role := party, key := key, expects := expects, at_ := supNow s } } } party [0, 0]
    match s.prt.enroll with
    | none => keep s
    | some e =>
      if e.role = party then keep s
      else if e.at_ + usToCc s 30000000 < supNow s then answerOpen (enrollFail s) party
      else if sha384 key = e.expects ∧ sha384 e.key = expects then
        let s1 := bumpEpoch (roomForEpoch s)
        let s2 : State := { s1 with prt := { s1.prt with
          enroll := none
          fmk := if party = 0 then key else e.key
          pck := if party = 0 then e.key else key } }
        answer (writeKeys (custodyState s2 1) 0) party [0, 0]
      else answerOpen (enrollFail s) party

/-- ENROLL_TIMEOUT: the second ENROLL has not come within 30 s. -/
def enrollTimeout (s : State) : State :=
  match s.prt.enroll with
  | some e => if supClocked s && decide (e.at_ + usToCc s 30000000 ≤ supNow s) then enrollFail s else s
  | none => s

/-- A pending replacement ends without effect: any reset and any loss of the reference cancel it (R443). -/
def cancelReplace (s : State) : State :=
  if s.prt.custody = 2 then custodyState { s with prt := { s.prt with replace := none } } 1 else s

/-- CANCEL_REPLACE from a party, signed by the key being replaced. -/
def cancelReplaceCmd (s : State) (party : Nat) (sig : List Byte) : State :=
  if !(fwRuns s) then s
  else match s.prt.custody, s.prt.replace with
  | 2, some x =>
    if custodySigned x.1 (partyKey s x.1) s.prt.replaceDigest sig then answer (cancelReplace s) party [0, 0]
    else answerOpen (custodyRaise s Kind.custodySignatureInvalid 0x308 0 none 0) party
  | _, _ => answer s party [0x14, 0]

/-- REPLACE_WAIT_EXPIRY: 86,400 s have passed and the key is replaced (R442). -/
def replaceExpiry (s : State) : State :=
  match s.prt.custody, s.prt.replace with
  | 2, some x =>
    if supClocked s && decide (x.2.2 ≤ supNow s) then
      let s1 := bumpEpoch (roomForEpoch s)
      let s2 := putKey { s1 with prt := { s1.prt with replace := none } } x.1 x.2.1
      writeKeys (custodyState s2 1) 2
    else s
  | _, _ => s

/-! ### The direct-write window (R457) -/

/-- CLR.ACCESS_ERR takes a record, or notes that it lost one (Table 1.12). -/
def logAccess (s : State) (port fn off reason : Nat) : State :=
  let e := s.clr.accessErr
  let e1 : AccessErr := if e.valid then { e with overflow := true }
    else { e with offset := off / 4 % 2 ^ 24, fn := fn, port := port, reason := reason, valid := true }
  { s with clr := { s.clr with accessErr := e1 } }

/-- Whether the window is open. -/
def debugOpen (s : State) : Bool := s.fuses.debug && bit s.ckr.straps 7

/-- An accepted direct write is recorded, with the partition of the binding it leaves, and counted. -/
def directUsed (s : State) (u : Nat) (b : Binding) : State :=
  raiseAbout { s with prt := { s.prt with directWrites := s.prt.directWrites + 1, debugUsed := true } }
    Kind.directWriteUsed (rqId 0x30A 0) u (if b.valid then some b.part else none) 0 0 none

/-- A binding word written directly: the generation comes from the counter of R439, no invalidation is sent, and the commit engine
purges the tile's requesters for the partition that the slot leaves or enters (R342). -/
def directBinding (s : State) (pos i v : Nat) : State :=
  let u := steer s pos
  let old := (tileAt s u).bindings.getD i {}
  let oldKey := 1024 * old.part + old.vtile
  let s1 : State := match old.valid, SMap.get none s.place oldKey with
    | true, some x => if x.unit = pos ∧ x.slot = i then { s with place := SMap.put none s.place oldKey none } else s
    | _, _ => s
  let p := bits v 62 59
  let vt := bits v 58 49
  let g := nextGenOf s p vt
  let b : Binding := if bit v 63 then { valid := true, part := p, vtile := vt, gen := g, ntBase := bits v 36 23, ntCountM1 := bits v 22 9 } else {}
  let s2 := modTile s1 u (fun t => rebind { t with bindings := t.bindings.set i b } (if bit v 63 then p else old.part))
  let s3 := if old.valid then purgeTile s2 0x30A old.part u else s2
  if bit v 63 then
    let x : Place := { unit := pos, slot := i, gen := g }
    let s4 := if old.valid && decide (old.part = p) then s3 else purgeTile s3 0x30A p u
    { s4 with place := SMap.put none s4.place (1024 * p + vt) (some x), prt := { s4.prt with gens := SMap.put 0 s4.prt.gens (1024 * p + vt) g } }
  else s3

/-- A write to the open window of the binding word or the frame word of a slot, none where it is refused under R15: while a stage is
in apply, with a frame size out of range, or with a binding that would break R46. -/
def directSet (s : State) (pos i : Nat) (frame : Bool) (v : Nat) : Option State :=
  let u := steer s pos
  let others := (tileAt s u).bindings.eraseIdx i
  if s.prt.stages.any (fun x => decide (x.phase = 2)) then none
  else if frame then
    if !(within 1 256 (bits v 16 8)) then none
    else some (directUsed (modTile s u (fun t => { t with vtFrame := t.vtFrame.set i { size := bits v 16 8, base := bits v 7 0 } })) u
      ((tileAt s u).bindings.getD i {}))
  else if bit v 63 && others.any (fun b => b.valid && decide (b.part ≠ bits v 62 59)) then none
  else some (directUsed (directBinding s pos i v) u { valid := bit v 63, part := bits v 62 59 })

/-- DIRECT_WRITE by the PF of a port: into a closed window it is discarded and logged with reason 0 (R457). -/
def directWrite (s : State) (port pos i : Nat) (frame : Bool) (v : Nat) : State :=
  if !(clocked s) || !(decide (pos < 0x100) && decide (i < 4)) then s
  else
    let off := 0x03000000 + 0x40 * pos + 0x10 * i + (if frame then 8 else 0)
    if !(debugOpen s) then logAccess s port 0 off 0
    else match directSet s pos i frame v with
    | some t => t
    | none => logAccess s port 0 off 5

/-! ### Attestation (R458) -/

/-- A measurement block (Table 15.9), as raw values and digests. -/
def measurement (s : State) (i : Nat) : State × List Nat :=
  match i with
  | 1 => let (v, s1) := freeTake s; (s1, [v % 2 ^ 384])
  | 2 => (s, [s.ckr.imageDigest, s.clr.fwSlot])
  | 3 => (s, [s.ckr.secVersion])
  | 4 => (s, [s.fuses.part, s.fuses.speed, 0x01, b2n s.fuses.debug, b2n (bit s.ckr.straps 7), s.fuses.revoked])
  | 5 => (s, [sha384 (s.prt.fmk ++ s.prt.pck), s.prt.custody, s.prt.epoch])
  | 6 => (s, [s.prt.directWrites, b2n s.prt.debugUsed])
  | 8 => (s, (ledgerBlock s).map (fun b => b.toNat))
  | _ =>
    let x := s.prt.parts.getD (i - 16) {}
    (s, if 16 ≤ i ∧ i < 32 then [x.state, x.digest, x.epoch] else [])

/-- GET_MEASUREMENTS of a block: the SPDM responder returns it; an index without a block returns nothing. -/
def getMeasurements (s : State) (i : Nat) : State :=
  if !(fwRuns s) then s else (let x := measurement s i; emit x.1 (.spdm i x.2))

end Sys2Proof.Machine
end

