-- ==== Sys2Proof/Machine/Faults.lean ====
section
/-! DEFINITION. The fault collector (chapter 16): the check, the kind table, the reaction classes, records, notices,
Safe from entry to exit, and the collector's and the supervisor pair's protection. -/

namespace Sys2Proof.Machine

/-! ### Fields of a message (Table 16.1) -/

/-- KIND. -/
def mKind (m : FaultMsg) : Nat := bits m.head 9 0
/-- REPORTER. -/
def mReporter (m : FaultMsg) : Nat := bits m.head 29 16
/-- SUBJECT. -/
def mSubject (m : FaultMsg) : Nat := bits m.head 43 32
/-- PARTITION where PVALID is set. -/
def mPart (m : FaultMsg) : Option Nat := if bit m.head 52 then some (bits m.head 51 48) else none
/-- ORPHAN_SUB where ORPHAN is set. -/
def mOrphan (m : FaultMsg) : Option Nat := if bit m.head 59 then some (bits m.head 61 60) else none

/-- The check of R463: a listed kind, the zero fields zero, CLASS, GAP, IN_SAFE and BYPASS clear, a named reporter. -/
def mOk (m : FaultMsg) : Bool :=
  kindListed (mKind m) && decide (bits m.head 15 10 = 0) && decide (bits m.head 31 30 = 0) && decide (bits m.head 47 44 = 0)
  && decide (bits m.head 55 53 = 0) && decide (bits m.head 58 56 = 0) && decide (m.head / 2 ^ 62 = 0)
  && isUnit ((mReporter m) / 4)

/-! ### The kind table (R467, Table 16.4) -/

/-- The reset value of FLT.KIND[k]. -/
def kindReset (k : Nat) : KindEntry :=
  let c := (kindDefault k).getD 0
  { notifyPc := decide (3 ≤ c), notify := decide (2 ≤ c), log := true, cls := c }

/-- FLT.KIND[k]. -/
def kindAt (s : State) (k : Nat) : KindEntry := (SMap.get none s.flt.kinds k).getD (kindReset k)

/-- FLT.KIND[k] replaced; an entry at its reset value is not listed. -/
def setKind (s : State) (k : Nat) (e : KindEntry) : State :=
  { s with flt := { s.flt with kinds := SMap.put none s.flt.kinds k (if e = kindReset k then none else some e) } }

/-- The kinds whose class stays Quarantine or Safe (R467). -/
def floorQuarantine : List Nat :=
  [Kind.tileLinkDown, Kind.placeInvTimeout, Kind.tileSelfTestFailed, Kind.tileStateUncorrectable]

/-- The kinds whose SUBJECT is a tile. -/
def tileSubject (k : Nat) : Bool :=
  (decide (0x080 ≤ k) && decide (k ≤ 0x0A8)) || (decide (0x0AB ≤ k) && decide (k ≤ 0x0E4))
  || (decide (0x124 ≤ k) && decide (k ≤ 0x126)) || [0x013, 0x131, 0x174, 0x17A].contains k

/-- Whether the firmware may give kind `k` class `c` (R467). -/
def kindClassOk (k c : Nat) : Bool :=
  match kindDefault k with
  | none => decide (c = 0)
  | some d =>
    decide (c ≤ 4)
    && (if d = 4 then decide (c = 4)
        else if floorQuarantine.contains k then decide (3 ≤ c)
        else decide (c ≠ 3) || tileSubject k)

/-- KIND_TABLE_WRITE: the supervisor writes CLASS, LOG, NOTIFY and NOTIFY_PC of an entry, or is refused (R467, R15). -/
def kindTableWrite (s : State) (k c : Nat) (log notify notifyPc : Bool) : State :=
  if fwRuns s && clocked s && decide (k < 1024) && kindClassOk k c then
    setKind s k { kindAt s k with cls := c, log := log, notify := notify, notifyPc := notifyPc }
  else s

/-! ### Records (R465, R468, R485, R491) -/

/-- A record: the message with CLASS, GAP, IN_SAFE and BYPASS written (R461). -/
def recordOf (m : FaultMsg) (cls : Nat) (gap safe bypass : Bool) : FaultMsg :=
  { m with head := m.head + 2 ^ 10 * cls + 2 ^ 56 * b2n gap + 2 ^ 57 * b2n safe + 2 ^ 58 * b2n bypass }

/-- A record enters the device queue, or is dropped when 1,024 are unacknowledged (R485). -/
def queueRecord (s : State) (m : FaultMsg) (cls : Nat) (safe bypass : Bool) : State :=
  let f := s.flt
  if 1024 ≤ (f.produced + 2 ^ 32 - f.acked) % 2 ^ 32 then
    { s with flt := { f with lost := (f.lost + 1) % 2 ^ 32, lostBit := true, gap := true } }
  else
    { s with flt := { f with
        qrec := SMap.put {} f.qrec (f.produced % 1024) (recordOf m cls f.gap safe bypass)
        produced := (f.produced + 1) % 2 ^ 32, gap := false } }

/-- A record enters a partition's window, overwriting the slot (R491). -/
def windowRecord (s : State) (m : FaultMsg) (cls : Nat) (safe : Bool) (p : Nat) : State :=
  let f := s.flt
  let ps := f.parts.getD p {}
  { s with flt := { f with
      pwin := SMap.put {} f.pwin (64 * p + ps.produced % 64) (recordOf m cls false safe false)
      parts := f.parts.set p { ps with produced := (ps.produced + 1) % 2 ^ 32 } } }

/-- Windows of several partitions. -/
def windowRecords (s : State) (m : FaultMsg) (cls : Nat) (safe : Bool) (ps : List Nat) : State :=
  ps.foldl (fun s p => windowRecord s m cls safe p) s

/-- The partitions a record is attributed to (R465): PARTITION; for a host-port kind without one, every partition whose
home bridge lies on the reporting port; otherwise none. -/
def attributed (s : State) (m : FaultMsg) : List Nat :=
  match (mPart m) with
  | some p => [p]
  | none =>
    if 0x150 ≤ (mKind m) ∧ (mKind m) ≤ 0x158 then
      let port := if (mReporter m) / 4 < 0x382 then 0 else 1
      (List.range 16).filter (fun p => decide (0 < (ctxPart s p).limit) && decide (s.homes.getD p 0 = port))
    else []

/-- The partitions whose QUARANTINE advances: QUARANTINE counts the tiles of a partition that were quarantined, so the
partition of a tile that this message excludes, and none for a tile already excluded (Table 16.8, R474; DEDUCED, log 134). -/
def quarantined (s : State) (m : FaultMsg) : List Nat :=
  if (tileAt s (mSubject m)).excluded then [] else (tilePart (tileAt s (mSubject m))).toList

/-- CONTAIN or QUARANTINE of the partitions advance. -/
def countParts (s : State) (cls : Nat) (ps : List Nat) : State :=
  { s with flt := { s.flt with parts := ps.foldl (fun l p =>
      let x := l.getD p {}
      l.set p (if cls = 2 then { x with contain := (x.contain + 1) % 2 ^ 16 }
               else if cls = 3 then { x with quarantine := (x.quarantine + 1) % 2 ^ 16 } else x)) s.flt.parts } }

/-- The summary bit of a kind and the status bit of a class are set (step 1 under "Model"), and COUNT advances. -/
def noteKind (s : State) (k cls : Nat) : State :=
  let s1 := setKind s k { kindAt s k with count := ((kindAt s k).count + 1) % 2 ^ 32 }
  { s1 with flt := { s1.flt with
      summary := s1.flt.summary.set (k / 64) (s1.flt.summary.getD (k / 64) 0 ||| 2 ^ (k % 64))
      classes := s1.flt.classes ||| 2 ^ cls } }

/-! ### Quarantine and Safe -/

/-- The exclusion of a tile (R474): it stops, its node is abandoned, its kernel, window job and transfers are
discarded. -/
def excludeTile (t : Tile) : Tile :=
  { t with
    excluded := true
    testing := false
    thread := if t.thread.running then { endNode t.thread with abandoned := (t.thread.abandoned + 1) % 2 ^ 32 } else t.thread
    kern := { running := false, stalls := t.kern.stalls }
    job := none
    xfers := []
    memWait := [] }

/-- An excluded tile waits for no answer any more. -/
def dropOuts (s : State) (u : Nat) : State :=
  { s with outs := s.outs.filter (fun o => decide (o.unit ≠ u)), sendWait := s.sendWait.filter (fun o => decide (o.unit ≠ u)) }

/-- ORPHAN_NOTIFY to the lock unit for a requester and a partition (R363). -/
def sendOrphan (s : State) (rq part : Nat) : State := sendMgmt s (rqId 0x307 0) 0x304 part 0 (.orphanNotify rq part)

/-- The hardware reaction of Quarantine (R474); a second one repeats nothing. -/
def quarantine (s : State) (u : Nat) : State :=
  if (tileAt s u).excluded then s
  else
    let part := (tilePart (tileAt s u)).getD 0
    let s0 := dropOuts (modTile s u excludeTile) u
    let s1 : State := { s0 with slices := s0.slices.filter (fun x => decide (x.unit ≠ u)) }
    sendOrphan { s1 with flt := { s1.flt with followUps := s1.flt.followUps ++ [u] } } (rqId u 0) part

/-- Vector 0 of each function whose MSI-X is enabled and unmasked, at entry into Safe (R476). -/
def safeVectors (s : State) : State :=
  allFns.foldl (fun s x => if vecOpen (fnAt s x.1 x.2) 0 then emit s (.msix x.1 x.2 0) else s) s

/-- Slices end without a result (R525): none runs in Safe. -/
def endSlices (s : State) : State :=
  { s with
    slices := []
    tiles := s.tiles.map (fun t => { t with testing := false })
    hif := s.hif.map (fun h => { h with latched := [] })
    ckr := { s.ckr with chosen := [] } }

/-- Entry into Safe (R476): open stages close with reason 10, the notice flag is set, vector 0 is signalled, and the
mode changes. While the return of R480 runs, the part re-enters Safe at its end. -/
def enterSafe (s : State) : State :=
  if inSafe s then
    (if s.flt.returning.isSome then { s with flt := { s.flt with reenter := true } } else s)
  else
    let s1 := closeStages (safeVectors (applyNotes (endSlices s))) 10
    settleCommit (modCount { s1 with clr := { s1.clr with mode := .safe }, flt := { s1.flt with alert := true } }
      (fun c => { c with safeEntries := satInc 32 c.safeEntries }))

/-- The notices of a kind (R468, R481, R482). -/
def raiseNotices (s : State) (e : KindEntry) (ps : List Nat) : State :=
  let s1 : State := if e.notifyPc then { s with flt := { s.flt with alert := true } } else s
  if e.notify then noticeAll s1 ((0, 0) :: (1, 0) :: (ps.flatMap (fnsOf s1)).filter (fun x => x.2 != 0)) else s1

/-! ### The collector's own state (R483, R484) -/

/-- The collector goes straight to Safe: BYPASS, and FLT_STATE_ERROR recorded with BYPASS set (R484). -/
def bypassSafe (s : State) : State :=
  let s1 := enterSafe { s with flt := { s.flt with bypass := true, fltState := true, seenSince := [] } }
  let m : FaultMsg := ⟨now s % 2 ^ 64, faultHead Kind.fltStateError (rqId 0x307 0) 0x307 none none, 0, 0⟩
  let s2 : State := { s1 with flt := { s1.flt with
    seenSince := [Kind.fltStateError]
    summary := s1.flt.summary.set 0 (s1.flt.summary.getD 0 0 ||| 2 ^ Kind.fltStateError)
    classes := s1.flt.classes ||| 16 } }
  if s.flt.stateErr = 3 then s2 else queueRecord s2 m 4 (inSafe s) true

/-- An access or the scrub meets an error of the duplicated state (R483, R484). -/
def meetFltErr (s : State) : State :=
  match s.flt.stateErr with
  | 0 => s
  | 1 => raise { s with flt := { s.flt with stateErr := 0 } } Kind.fltStateCorrected (rqId 0x307 0) none 0 0
  | _ => if s.flt.fltState then s else bypassSafe s

/-- A message while FLT_STATE is set: recorded with CLASS 4 and BYPASS, no reaction but staying in Safe (R484). -/
def processBypass (s : State) (m : FaultMsg) : State :=
  let s1 := noteKind s (mKind m) 4
  let s2 : State := { s1 with flt := { s1.flt with seenSince := (mKind m) :: s1.flt.seenSince.filter (· != (mKind m)) } }
  if s.flt.stateErr = 3 then { s2 with flt := { s2.flt with lost := (s2.flt.lost + 1) % 2 ^ 32, lostBit := true, gap := true } }
  else queueRecord s2 m 4 (inSafe s) true

/-! ### One message (R464 to R466) -/

/-- The class applied to a message: its entry's, with Quarantine of anything but a tile handled as Contain (R466). -/
def appliedClass (s : State) (m : FaultMsg) : Nat :=
  let c := (kindAt s (mKind m)).cls
  if c = 3 ∧ isTile (mSubject m) = false then 2 else c

/-- The hardware reaction of a class (Table 16.3). -/
def react (s : State) (m : FaultMsg) (cls : Nat) : State :=
  let s1 := if cls = 3 then quarantine s (mSubject m) else if cls = 4 then enterSafe s else s
  match (mOrphan m) with
  | some o => sendOrphan s1 (rqId (mSubject m) o) ((mPart m).getD 0)
  | none => s1

/-- A checked message is processed: status bits, reaction, record, partition windows, notices. -/
def processMsg (s : State) (m : FaultMsg) : State :=
  let e := kindAt s (mKind m)
  let cls := appliedClass s m
  let safe := inSafe s
  let ps := attributed s m
  let s1 := react (noteKind s (mKind m) cls) m cls
  let s2 := if e.log then queueRecord s1 m cls safe false else s1
  let s3 := countParts s2 cls (if cls = 3 then quarantined s m else ps)
  let s4 := if e.log then windowRecords s3 m cls safe ps else s3
  raiseNotices s4 e ps

/-- FAULT_MESSAGE: the collector processes one message (R463, R464, R477, R484). -/
def faultMessage (s : State) (m : FaultMsg) : State :=
  if !(clocked s) then s
  else
    let s1 := meetFltErr { s with flt := { s.flt with inbox := s.flt.inbox.erase m } }
    let m' : FaultMsg := if (mOk m) then m
      else ⟨now s % 2 ^ 64, faultHead Kind.faultMessageInvalid (rqId 0x307 0) 0x307 none none, m.time, m.head⟩
    if s1.flt.fltState then processBypass s1 m' else processMsg s1 m'

/-! ### Safe exit and causes (R478, R479) -/

/-- FLT.CAUSE (Table 16.5): the causes still present, read live. -/
def fltCause (s : State) : Nat :=
  b2n (!s.clk.coreLocked) + 2 * b2n (!s.clk.supLocked) + 4 * b2n s.brd.tjHot
  + 8 * b2n (s.brd.vrFault || !s.brd.railsOut.isEmpty) + 16 * b2n (!s.chk.passed) + 32 * b2n s.flt.nocLink
  + 64 * b2n s.flt.fltState + 128 * b2n s.brd.supSramBad + 256 * b2n s.flt.unitTest

/-- Whether a status or summary bit is still set. -/
def statusSet (s : State) : Bool :=
  decide (s.flt.classes ≠ 0) || s.flt.bypass || s.flt.summary.any (fun w => decide (w ≠ 0))

/-- SAFE_EXIT: a request is accepted or refused (R478). Acceptance starts the return, of at most 2 ms. -/
def safeExit (s : State) : State :=
  if !(clocked s) || !(inSafe s) || s.flt.returning.isSome then s
  else if fltCause s ≠ 0 then { s with flt := { s.flt with exitResult := 3 } }
  else if statusSet s then { s with flt := { s.flt with exitResult := 2 } }
  else { s with flt := { s.flt with exitResult := 1, returning := some (now s + usToCc s 2000), reenter := false } }

/-- ALERT_ACK: the platform controller clears the notice flag (R482). -/
def alertAck (s : State) : State := { s with flt := { s.flt with alert := false } }

/-- ALERT_N is low while the notice flag is set (Table 16.6). -/
def alertLow (s : State) : Bool := s.flt.alert
/-- SAFE_N is low in Safe, the return of R480 included. -/
def safeLow (s : State) : Bool := inSafe s
/-- FAULT_N is low while a class bit at or above FAULT_LEVEL or BYPASS is set, or bring-up has stopped (R561). -/
def faultLow (s : State) : Bool :=
  decide (s.clr.step = 0x0F) ||
  (List.range 5).any (fun c => decide (s.flt.faultLevel ≤ c) && bit s.flt.classes c) || s.flt.bypass

/-! ### Protection (R483, R484, R487 to R489) -/

/-- COLLECTOR_SCRUB. -/
def collectorScrub (s : State) : State := if clocked s then meetFltErr s else s

/-- COLLECTOR_REINIT: both copies are reinitialised; the summary bits are those of the kinds recorded since the
error (R484). -/
def collectorReinit (s : State) : State :=
  if !(fwRuns s && s.flt.fltState) then s
  else
    let sum := s.flt.seenSince.foldl (fun l k => l.set (k / 64) (l.getD (k / 64) 0 ||| 2 ^ (k % 64))) (List.replicate 16 0)
    { s with flt := { s.flt with
        fltState := false, stateErr := 0, kinds := [], summary := sum, seenSince := []
        qrec := [], pwin := [], acked := s.flt.produced, gap := false } }

/-- The pair's comparator halts both cores and raises a Safe-class kind on its own path (R487). -/
def haltPair (s : State) (mismatch : Bool) : State :=
  raise { s with chk := { s.chk with
      halted := true, passed := false
      mismatch := s.chk.mismatch || mismatch, lost := s.chk.lost || !mismatch } }
    (if mismatch then Kind.checkerMismatch else Kind.checkerLost) (rqId 0x308 0) none 0 0

/-- CHECKER_MISMATCH and DELAY_REGISTER_PARITY_ERROR: raised while the pair is not halted. -/
def checkerFault (s : State) (mismatch : Bool) : State :=
  if supClocked s && !s.chk.halted then haltPair s mismatch else s

/-- CHECKER_INJECTION: the 1 ms self-test inverts the next bit; an undetected inversion raises CHECKER_LOST (R488). -/
def checkerInjection (s : State) (detected : Bool) : State :=
  if !(supClocked s) || s.chk.halted then s
  else
    let s1 : State := { s with chk := { s.chk with position := (s.chk.position + 1) % 256 } }
    if detected then { s1 with chk := { s1.chk with tests := (s1.chk.tests + 1) % 2 ^ 32, passed := true } }
    else haltPair s1 false

end Sys2Proof.Machine
end

