-- ==== Sys2Proof/Machine/NetLinks.lean ====
section
/-! DEFINITION. Routers, links, credits and probes (chapter 11): link retry (R336, R337), forwarding (R325, R327,
R332, R333, R344), and the probes with their capture memory (R347 to R349). -/

namespace Sys2Proof.Machine

/-! ### Routing (R333) -/

/-- The output port of a router towards a unit (R333). A position that the spare serves is reached through the grove router (R20). -/
def routePort (s : State) (r d : Nat) : Option Nat :=
  if 0x200 ≤ r ∧ r < 0x240 then some (if d < 0x100 ∧ d / 4 = r - 0x200 ∧ steer s d = d then d % 4 else 7)
  else if 0x280 ≤ r ∧ r < 0x290 then
    let d' := steer s d
    some (if d' = 0x100 + (r - 0x280) then 4
      else if d' < 0x100 ∧ d' / 16 = r - 0x280 then (d' % 16) / 4
      else if 0x200 ≤ d ∧ d < 0x240 ∧ (d - 0x200) / 4 = r - 0x280 then (d - 0x200) % 4 else 7)
  else if 0x2C0 ≤ r ∧ r < 0x2C4 then
    (if unitStand d ≠ some (r - 0x2C0) then some 7
     else match unitGrove d with
      | some g => some (g % 4)
      | none => some (0x10 + (d - 0x2C4) / 4))
  else match unitStand d with
    | some st => some st
    | none => if 0x301 ≤ d ∧ d ≤ 0x310 then some (0x10 + (d - 0x301))
              else if d = 0x381 then some 0x20 else if d = 0x383 then some 0x21 else none

/-- The ports on which a router copies a broadcast: those below which a tile is in service (R333). -/
def bcastPorts (s : State) (r : Nat) : List Nat :=
  (routerPorts r).filter (fun p => p != 7 && decide (p < 0x10) && (match farEnd r p with
    | .unit u => tileServes s u
    | .router _ _ => true))

/-- Whether router `r` lies at or below router `d`. -/
def atOrBelow (r d : Nat) : Bool :=
  decide (r = d) || decide (d = 0x300)
  || (match unitStand r with
      | some st => decide (d = 0x2C0 + st)
      | none => false)
  || (match unitGrove r with
      | some g => decide (d = 0x280 + g)
      | none => false)

/-- The outputs that the head flit of an input must reach. -/
def flitOuts (s : State) (r : Nat) (f : Flit) : List Nat :=
  if flitBcast f && isRouter (flitDest f) && atOrBelow r (flitDest f) then bcastPorts s r
  else match routePort s r (flitDest f) with
    | some p => [p]
    | none => []

/-- The response space in flits that a unit has reserved (R328): that of its outstanding requests, which keep it until the final
response or the abandonment. -/
def reservedFlits (s : State) (u : Nat) : Nat := ((s.outs.filter (fun o => decide (o.unit = u))).map (fun o => respFlits o.body)).sum

/-- Buffer depth of a router input, or of a unit's input, per class (Table 11.12). A tile's TOKEN input has the credits of R73; a
requester's RSP input holds the response space that it has reserved (R327). -/
def bufDepth (s : State) (r p cls : Nat) (toUnit : Bool) : Nat :=
  if toUnit then
    (match farEnd r p with
     | .unit u =>
       if cls = 3 then reservedFlits s u
       else if isTile u then (if cls = 0 then 4 else if cls = 1 then (tileAt s u).iqCredits else 8)
       else if cls = 0 then 8 else 16
     | .router _ _ => 0)
  else inDepth r p cls

/-! ### State access -/

/-- The link at a router port replaced. -/
def setLink (s : State) (r p : Nat) (l : Link) : State :=
  { s with noc := { s.noc with links := SMap.put {} s.noc.links (portKey r p) l } }
/-- The key of an input buffer: of the router port, or of the unit below it. -/
def bufKey (r p cls : Nat) (toUnit : Bool) : Nat := 4 * portKey r p + cls + 2 ^ 20 * b2n toUnit
/-- An input buffer. -/
def bufAt (s : State) (r p cls : Nat) (toUnit : Bool) : Buf := SMap.get {} s.noc.bufs (bufKey r p cls toUnit)
/-- An input buffer replaced. -/
def setBuf (s : State) (r p cls : Nat) (toUnit : Bool) (b : Buf) : State :=
  { s with noc := { s.noc with bufs := SMap.put {} s.noc.bufs (bufKey r p cls toUnit) b } }

/-- ADDR of a network record (Table 16.2). -/
def netAddr (r p cls : Nat) (below : Bool) : Nat := r % 4096 + 2 ^ 12 * (p % 64) + 2 ^ 18 * (cls % 4) + 2 ^ 20 * b2n below

/-- The unit that reports for the receiving end of a link. -/
def receiver (r p : Nat) (down : Bool) : Nat :=
  if down then (match farEnd r p with
    | .unit u => u
    | .router q _ => q) else r

/-! ### Probes (R347, R348) -/

/-- Whether a flit passes a probe's filter. -/
def probePasses (k : Probe) (f : Flit) : Bool :=
  bit k.classMask (flitCls f) && bit k.partMask (flitPart f)
  && decide (flitOp f &&& k.opMask = k.opValue &&& k.opMask)
  && decide (flitSrc f &&& k.srcMask = k.srcValue &&& k.srcMask)
  && decide (flitDest f &&& k.destMask = k.destValue &&& k.destMask)

/-- A capture record is written, or counted as lost: capture stopped, or more than 2 in one cycle (R348). -/
def capture (s : State) (n : Nat) (k : Probe) (f : Flit) : State :=
  let c := s.noc
  let busy := decide (c.capNow = now s) && decide (2 ≤ c.capCount)
  if !c.capEnable then s
  else if c.capStopped || busy then { s with noc := { c with capLost := (c.capLost + 1) % 2 ^ 32 } }
  else
    let pv := decide (k.capture = 2) && NSet.has s.traceExport (flitPart f)
    let r : CapRec := {
      time := now s % 2 ^ 64, header := f.header, payload0 := if pv then bits f.payload 63 0 else 0
      info := k.router + 2 ^ 12 * k.port + 2 ^ 18 * k.dir + 2 ^ 19 * n + 2 ^ 23 * b2n pv }
    let full := decide (c.capPtr = 4095)
    let left := if c.capTriggered then c.capLeft - 1 else c.capLeft
    { s with noc := { c with
        capMem := SMap.put {} c.capMem c.capPtr r
        capPtr := (c.capPtr + 1) % 4096
        capWrapped := c.capWrapped || (full && c.capMode)
        capLeft := left
        capStopped := (full && !c.capMode) || (c.capTriggered && decide (c.capLeft ≤ 1))
        capCount := if c.capNow = now s then c.capCount + 1 else 1
        capNow := now s } }

/-- One probe observes a flit at a router port and direction. -/
def probeSees (s : State) (n r p dir : Nat) (f : Flit) : State :=
  let k := s.noc.probes.getD n {}
  if !(k.enable && decide (k.router = r) && decide (k.port = p) && decide (k.dir = dir) && probePasses k f) then s
  else
    let s1 : State := { s with noc := { s.noc with probes := s.noc.probes.set n { k with count := (k.count + 1) % 2 ^ 64 } } }
    let s2 := if k.capture = 0 then s1 else capture s1 n k f
    if s2.noc.trigEn && decide (s2.noc.trigProbe = n) && !s2.noc.capTriggered && s2.noc.capEnable then
      { s2 with noc := { s2.noc with capTriggered := true, capLeft := s2.noc.post,
                                     capStopped := s2.noc.capStopped || decide (s2.noc.post = 0) } }
    else s2

/-- All sixteen probes observe a flit. -/
def observe (s : State) (r p dir : Nat) (f : Flit) : State :=
  (List.range 16).foldl (fun s n => probeSees s n r p dir f) s

/-! ### Link retry (R336, R337) -/

/-- The direction of a link: down to the unit or router below, or up into the router's port. -/
def dirOf (l : Link) (down : Bool) : LinkDir := if down then l.tx else l.rx
/-- The direction of a link replaced. -/
def setDir (l : Link) (down : Bool) (d : LinkDir) : Link := if down then { l with tx := d } else { l with rx := d }

/-- A link goes down after 8 consecutive failures of one flit (R337). -/
def declareDown (s : State) (r p : Nat) (down : Bool) : State :=
  let s1 := setLink s r p { linkAt s r p with down := true }
  let rep := rqId (receiver r p down) 0
  match farEnd r p with
  | .unit u =>
    if isTile u then raiseAbout s1 Kind.tileLinkDown rep u none (netAddr r p 0 down) 0 none
    else raise { s1 with flt := { s1.flt with nocLink := true } } Kind.linkDown rep none (netAddr r p 0 down) 0
  | .router _ _ => raise { s1 with flt := { s1.flt with nocLink := true } } Kind.linkDown rep none (netAddr r p 0 down) 0

/-- The CRC-32C of a flit on a link: over its header, its payload and its FSEQ (R336). -/
def flitCrc (fseq : Nat) (f : Flit) : Nat := crc32c (leBytes 8 f.header ++ leBytes 64 f.payload ++ leBytes 1 fseq)

/-- The acknowledgement field that a receiver sends in every link cycle (R336): whether it is a NAK, and its sequence number: the
expected FSEQ of a NAK, otherwise the last accepted one. -/
def ackField (d : LinkDir) : Bool × Nat := if d.naked then (true, d.expect) else (false, (d.expect + 255) % 256)

/-- A flit that a unit's input accepts leaves it at once, and its credit is owed; for a tile's TOKEN input the flit's entries come
under R73 (log entry 122). A flit with a bad header, or one that the unit does not serve, is dropped (R325). -/
def unitTakes (s : State) (r p u : Nat) (f : Flit) : State :=
  let cls := flitCls f
  let b := bufAt s r p cls true
  let s1 := setBuf s r p cls true (if isTile u && decide (cls = 1) then { b with used := b.used - 1 } else { b with owed := b.owed ++ [now s + 2] })
  if flitFormOk f && servesFlit u f then s1
  else raise { s1 with noc := { s1.noc with dropped := (s1.noc.dropped + 1) % 2 ^ 16 } } Kind.nocHeaderInvalid (rqId u 0)
    (some (flitPart f)) (netAddr r p cls true) f.header

/-- FLIT_RECEIVE: a receiver checks CRC and FSEQ: it accepts the flit, NAKs, or discards (R336, R337). `crc` is the CRC that travels
beside the flit. -/
def flitReceive (s : State) (r p : Nat) (down : Bool) (fseq crc : Nat) (f : Flit) : State :=
  if !(clocked s) || !((routerPorts r).contains p) || linkCut s r p then s
  else
    let l := linkAt s r p
    let d := dirOf l down
    if crc ≠ flitCrc fseq f then
      if d.naked && decide (fseq ≠ d.expect) then setLink s r p { l with crcErrors := (l.crcErrors + 1) % 2 ^ 16 }
      else
        let d' : LinkDir := { d with naked := true, fails := d.fails + 1 }
        let l' := setDir { l with crcErrors := (l.crcErrors + 1) % 2 ^ 16,
                                  replays := if d.naked then l.replays else (l.replays + 1) % 2 ^ 16 } down d'
        let s1 := setLink s r p l'
        let s2 := if d.naked then s1
          else raise s1 Kind.linkRetry (rqId (receiver r p down) 0) none (netAddr r p 0 down) d.expect
        if 8 ≤ d'.fails then declareDown s2 r p down else s2
    else if fseq = d.expect then
      let d' : LinkDir := { d with expect := (d.expect + 1) % 256, naked := false, fails := 0 }
      let l' := setDir { l with flits := if down then l.flits else (l.flits + 1) % 2 ^ 64 } down d'
      let s1 := setLink s r p l'
      let cls := flitCls f
      if down then
        (match farEnd r p with
         | .unit u => unitTakes s1 r p u f
         | .router _ _ => s1)
      else
        let b := bufAt s1 r p cls false
        observe (setBuf s1 r p cls false { b with flits := b.flits ++ [f] }) r p 0 f
    else if d.naked then s
    else if (d.expect + 256 - fseq) % 256 ≤ 128 then setLink s r p { l with dups := (l.dups + 1) % 2 ^ 16 }
    else s

/-- The unit that sends into a router's input port: the unit below it; none where a router does. -/
def upUnit (r p : Nat) (down : Bool) : Option Nat :=
  if down then none else match farEnd r p with
    | .unit u => some u
    | .router _ _ => none

/-- The unacknowledged flits of a link direction: of the unit below, or of the router that sends. -/
def sentFlits (s : State) (r p : Nat) (down : Bool) : List (Nat × Flit) :=
  match upUnit r p down with
  | some u => (SMap.get {} s.ups u).replay
  | none => (dirOf (linkAt s r p) down).replay

/-- The unacknowledged flits of a link direction, and those to resend, replaced. A unit's sender goes on with what waited. -/
def setSent (s : State) (r p : Nat) (down : Bool) (kept again : List (Nat × Flit)) : State :=
  match upUnit r p down with
  | some u =>
    let x : UpSend := { (SMap.get {} s.ups u) with replay := kept, resend := again }
    { s with ups := SMap.put {} s.ups u (upSend (inSafe s) (inDepth r p) x []) }
  | none => setLink s r p (setDir (linkAt s r p) down { dirOf (linkAt s r p) down with replay := kept, resend := again })

/-- The flits still to resend in a link direction. -/
def againFlits (s : State) (r p : Nat) (down : Bool) : List (Nat × Flit) :=
  match upUnit r p down with
  | some u => (SMap.get {} s.ups u).resend
  | none => (dirOf (linkAt s r p) down).resend

/-- LINK_NAK: the sender resends every unacknowledged flit from the expected one onwards, in order; those before it have arrived
(R336). A sequence number of no unacknowledged flit changes nothing. -/
def linkNak (s : State) (r p : Nat) (down : Bool) (seq : Nat) : State :=
  if !(clocked s) || linkCut s r p || !((sentFlits s r p down).any (fun x => x.1 == seq)) then s
  else
    let kept := (sentFlits s r p down).dropWhile (fun x => x.1 != seq)
    setSent s r p down kept kept

/-- LINK_ACKNOWLEDGEMENT: a cumulative ACK frees the acknowledged flits from the replay buffer (R336). -/
def linkAck (s : State) (r p : Nat) (down : Bool) (seq : Nat) : State :=
  if !(clocked s) || linkCut s r p || !((sentFlits s r p down).any (fun x => x.1 == seq)) then s
  else
    let kept := ((sentFlits s r p down).dropWhile (fun x => x.1 != seq)).tail
    setSent s r p down kept ((againFlits s r p down).filter (fun x => kept.contains x))

/-! ### Forwarding (R325, R327, R332, R344) -/

/-- The link direction and the input buffer that an output port feeds: router, port, and whether it is a unit below. -/
def feeds (r p : Nat) : Nat × Nat × Bool :=
  match farEnd r p with
  | .router q k => (q, k, false)
  | .unit _ => (r, p, true)

/-- Whether an output can send a flit of a class: a credit, room in the replay buffer, no resend pending, link up. -/
def outReady (s : State) (r p cls : Nat) : Bool :=
  let (q, k, un) := feeds r p
  let d := dirOf (linkAt s q k) un
  decide ((bufAt s q k cls un).used < bufDepth s q k cls un) && decide (d.replay.length < 64)
  && d.resend.isEmpty && !(linkCut s q k)

/-- A flit is sent on an output: numbered, kept for replay, a credit used, observed by the output's probes. -/
def sendFlit (s : State) (r p : Nat) (f : Flit) : State :=
  let (q, k, un) := feeds r p
  let cls := flitCls f
  let l := linkAt s q k
  let d := dirOf l un
  let s1 := setLink s q k (setDir l un { d with next := (d.next + 1) % 256, replay := d.replay ++ [(d.next, f)] })
  let b := bufAt s1 q k cls un
  observe (setBuf s1 q k cls un { b with used := b.used + 1 }) r p 1 f

/-- How many flits of its packet are still to leave with the head flit of a buffer, counting it (R320). -/
def headLeft (b : Buf) (f : Flit) : Nat := if b.left ≠ 0 ∧ flitFollows b.prev f then b.left else flitCount f

/-- The head flit of an input leaves its buffer; its credit returns 2 cc later (R327). -/
def popBuf (s : State) (r i cls : Nat) : State :=
  let b := bufAt s r i cls false
  let f := b.flits.headD {}
  setBuf s r i cls false { b with
    flits := b.flits.tail, sentTo := [], err := 0, owed := b.owed ++ [now s + 2]
    left := headLeft b f - 1, prev := f.header, drop := b.drop && decide (headLeft b f ≠ 1) }

/-- A packet is dropped by a router, and counted in NOC.ERR.DROPPED: the head flit leaves, the rest of its packet will follow it, and
no output stays held for it. -/
def dropFlit (s : State) (r i cls kind : Nat) (f : Flit) (part : Option Nat) : State :=
  let b := bufAt s r i cls false
  let s1 := popBuf (setBuf s r i cls false { b with drop := true }) r i cls
  let outs := (routerPorts r).foldl (fun m o =>
    let a := SMap.get {} m (portKey r o)
    SMap.put {} m (portKey r o) (if a.hold.getD cls none = some i then { a with hold := a.hold.set cls none } else a)) s1.noc.outs
  raise { s1 with noc := { s1.noc with dropped := (s1.noc.dropped + 1) % 2 ^ 16, outs := outs } } kind (rqId r 0) part
    (netAddr r i cls false) f.header

/-- Whether the head flit of an input belongs to a 4-flit packet that is being dropped (R344). -/
def dropsOn (s : State) (r i cls : Nat) : Bool :=
  let b := bufAt s r i cls false
  match b.flits with
  | f :: _ => b.drop && decide (b.left ≠ 0) && flitFollows b.prev f
  | [] => false

/-- The header with the poison bit of payload word `w` set; for tokens, the bit of the token that includes the word, where one
does. -/
def poisonWord (f : Flit) (w : Nat) : Flit :=
  let i := match flitCls f with
    | 1 => if w / 2 ≤ bits f.header 19 18 then some (14 + w / 2) else none
    | 2 => some ((if bit f.header 31 then 5 else 6) + w)
    | 3 => some (7 + w)
    | _ => none
  match i with
  | some i => if bit f.header i then f else { f with header := f.header + 2 ^ i }
  | none => f

/-- A stored error of the head flit is met (R344): the state, and whether the flit survives. -/
def meetFlitErr (s : State) (r i cls : Nat) : State × Bool :=
  let b := bufAt s r i cls false
  match b.flits with
  | [] => (s, false)
  | f :: _ =>
    let un (s : State) : State := { s with noc := { s.noc with bufUncorrected := (s.noc.bufUncorrected + 1) % 2 ^ 16 } }
    match b.err with
    | 0 => (s, true)
    | 1 => (raise { setBuf s r i cls false { b with err := 0 } with
              noc := { (setBuf s r i cls false { b with err := 0 }).noc with
                bufCorrected := (s.noc.bufCorrected + 1) % 2 ^ 16 } }
              Kind.nocBufferCorrected (rqId r 0) (some (flitPart f)) (netAddr r i cls false) f.header, true)
    | 3 => (dropFlit (un s) r i cls (if cls = 0 then Kind.nocMgmtDropped else if cls = 1 then Kind.nocTokenDropped
              else Kind.nocPacketDropped) { f with header := 0 } (some (flitPart f)), false)
    | 4 => (dropFlit (un s) r i cls Kind.nocMgmtDropped { f with header := 0 } (some (flitPart f)), false)
    | e => (raise (un (setBuf s r i cls false { b with err := 0, flits := poisonWord f (e % 8) :: b.flits.tail }))
              Kind.nocPayloadPoisoned (rqId r 0) (some (flitPart f)) (netAddr r i cls false) f.header, true)

/-- Whether the header of a flit is one a router passes on: its OPCODE is assigned and its zero fields are zero, its DEST names a
unit, and a broadcast's names a router (R325). -/
def flitOk (s : State) (r : Nat) (f : Flit) : Bool :=
  flitFormOk f && isUnit (flitDest f) && (if flitBcast f then isRouter (flitDest f) else !(flitOuts s r f).isEmpty)

/-- Whether input `i` of a router has a flit of a class for output `o`. -/
def wants (s : State) (r i o cls : Nat) : Bool :=
  let b := bufAt s r i cls false
  match b.flits with
  | [] => false
  | f :: _ => (flitOuts s r f).contains o && !(b.sentTo.contains o)

/-- A list rotated so that what follows the last-served element comes first. -/
def rotateAfter (l : List Nat) (x : Nat) : List Nat :=
  (l.dropWhile (fun y => y != x)).tail ++ l.takeWhile (fun y => y != x) ++ l.filter (fun y => y == x)

/-- The output port's arbitration state. -/
def outAt (s : State) (r o : Nat) : OutPort := SMap.get {} s.noc.outs (portKey r o)

/-- The input that a class is served from: the holder of a 4-flit packet while its next flit is there or still to come, else the next
in rotation (R332). -/
def pickInput (s : State) (r o cls : Nat) : Option Nat :=
  let a := outAt s r o
  let turn := (rotateAfter (routerPorts r) (a.lastIn.getD cls 0)).find? (fun i => wants s r i o cls)
  match a.hold.getD cls none with
  | some i => if wants s r i o cls then some i else if (bufAt s r i cls false).flits.isEmpty then none else turn
  | none => turn

/-- The class and input that an output serves next: MGMT first, then TOKEN, REQ and RSP in rotation (R332). In Safe
only MGMT moves (R345). -/
def pickFlit (s : State) (r o : Nat) : Option (Nat × Nat) :=
  let order := 0 :: (if inSafe s then [] else rotateAfter [1, 2, 3] (outAt s r o).lastCls)
  (order.filterMap (fun c => if outReady s r o c then (pickInput s r o c).map (fun i => (c, i)) else none)).head?

/-- The arbitration state after a class and input were served by a flit with which `left` flits of its packet were still to leave. -/
def servedOut (a : OutPort) (cls i left : Nat) : OutPort :=
  { lastCls := if cls = 0 then a.lastCls else cls
    lastIn := a.lastIn.set cls i
    hold := a.hold.set cls (if 1 < left then some i else none) }

/-- A flit with a bad header at the head of some input is dropped by the router that decodes it (R325). -/
def badHead (s : State) (r : Nat) : Option (Nat × Nat × Flit) :=
  ((routerPorts r).flatMap (fun i => (List.range 4).filterMap (fun c =>
    match (bufAt s r i c false).flits with
    | f :: _ => if flitOk s r f then none else some (i, c, f)
    | [] => none))).head?

/-- An input whose head flit belongs to a packet that is being dropped: it leaves without a record. -/
def cutHead (s : State) (r : Nat) : Option (Nat × Nat) :=
  ((routerPorts r).flatMap (fun i => (List.range 4).filterMap (fun c => if dropsOn s r i c then some (i, c) else none))).head?

/-- ROUTER_FORWARD: an output arbitrates a flit slot and forwards a flit along its route. Flits to resend go first. -/
def routerForward (s : State) (r o : Nat) : State :=
  if !(clocked s) || !((routerPorts r).contains o) then s
  else match cutHead s r, badHead s r with
  | some (i, c), _ => popBuf s r i c
  | none, some (i, c, f) => dropFlit s r i c Kind.nocHeaderInvalid f (some (flitPart f))
  | none, none =>
    let (q, k, un) := feeds r o
    let d := dirOf (linkAt s q k) un
    match d.resend with
    | _ :: rest => setLink s q k (setDir (linkAt s q k) un { d with resend := rest })
    | [] =>
      match pickFlit s r o with
      | none => s
      | some (c, i) =>
        let (s1, alive) := meetFlitErr s r i c
        if !alive then s1
        else
          match (bufAt s1 r i c false).flits with
          | [] => s1
          | f :: _ =>
            let b := bufAt s1 r i c false
            let done := (flitOuts s1 r f).all (fun x => decide (x = o) || b.sentTo.contains x)
            let s2 := sendFlit s1 r o f
            let s3 := if done then popBuf s2 r i c else setBuf s2 r i c false { b with sentTo := o :: b.sentTo }
            { s3 with noc := { s3.noc with outs := SMap.put {} s3.noc.outs (portKey r o) (servedOut (outAt s3 r o) c i (headLeft b f)) } }

/-- CREDIT_RETURN: a credit returns to a sender 2 cc after its slot frees (R327): to the unit below, or to the router that sends. -/
def creditReturn (s : State) (r p cls : Nat) (toUnit : Bool) : State :=
  let b := bufAt s r p cls toUnit
  match b.owed with
  | t :: rest =>
    if clocked s && decide (t ≤ now s) then
      let s1 := setBuf s r p cls toUnit { b with owed := rest, used := b.used - 1 }
      match upUnit r p toUnit with
      | some u =>
        let x := SMap.get {} s1.ups u
        { s1 with ups := SMap.put {} s1.ups u (upSend (inSafe s) (inDepth r p) { x with used := x.used.set cls (x.used.getD cls 0 - 1) } []) }
      | none => s1
    else s
  | [] => s

/-! ### Probe and capture registers (R349) -/

/-- The fields of a probe register written as a 64-bit value (Table 11.17). -/
def probeFields (k : Probe) (reg : ProbeReg) (v : Nat) : Probe :=
  match reg with
  | .sel => { k with enable := bit v 63, capture := bits v 62 61, dir := bits v 60 60, port := bits v 59 54,
                     router := bits v 53 42 }
  | .matchReg => { k with classMask := bits v 63 60, partMask := bits v 59 44, opValue := bits v 43 38, opMask := bits v 37 32 }
  | .id => { k with srcValue := bits v 63 50, srcMask := bits v 49 36, destValue := bits v 35 24, destMask := bits v 23 12 }

/-- Whether a 14-bit requester identifier names a requester (R23, R24, Table 1.4): only tiles and host bridges have
sub-requesters other than 0. -/
def isRequester (r : Nat) : Bool :=
  isUnit (r / 4) && (decide (r % 4 = 0) || isTile (r / 4) || decide (r / 4 = 0x381) || decide (r / 4 = 0x383))

/-- Whether a probe register write is accepted (R349): while ENABLE is 1 only a write that clears ENABLE alone; a
ROUTER and PORT that exist; CAPTURE not 3; a SRC_VALUE and a DEST_VALUE that name a requester and a unit (R23). -/
def probeOk (k : Probe) (reg : ProbeReg) (v : Nat) : Bool :=
  let k' := probeFields k reg v
  (!k.enable || decide ({ k with enable := false } = k'))
  && (decide (reg ≠ .sel) || ((routerPorts k'.router).contains k'.port && decide (k'.capture ≠ 3)))
  && (decide (reg ≠ .id) || (isRequester k'.srcValue && isUnit k'.destValue))

/-- An accepted probe register write; setting ENABLE clears PROBE_COUNT. -/
def probeWrite (s : State) (n : Nat) (reg : ProbeReg) (v : Nat) : State :=
  let k := s.noc.probes.getD n {}
  let k' := probeFields k reg v
  { s with noc := { s.noc with probes := s.noc.probes.set n (if k'.enable && !k.enable then { k' with count := 0 } else k') } }

/-- NOC.CAP_CTRL written; setting ENABLE clears CAP_STAT (Table 11.16). -/
def capCtrlWrite (s : State) (v : Nat) : State :=
  let c := s.noc
  let c1 : Noc := { c with capEnable := bit v 63, capMode := bit v 62, trigEn := bit v 61, trigProbe := bits v 60 57,
                           post := bits v 56 45 }
  { s with noc := if bit v 63 && !c.capEnable then
      { c1 with capStopped := false, capTriggered := false, capWrapped := false, capPtr := 0, capLost := 0, capLeft := 0 }
    else c1 }

/-- The network's return from Safe (R346): every TOKEN, REQ and RSP flit that a buffer, a sender or a replay buffer holds is discarded
and counted, with the packets that wait to arrive; the reserved response space goes with the outstanding requests, and every credit
returns. MGMT flits stay, and numbering continues. -/
def netReset (s : State) : State :=
  let isM (f : Flit) : Bool := decide (flitCls f = 0)
  let others (l : List Flit) : Nat := (l.filter (fun f => !(isM f))).length
  let keep (l : List (Nat × Flit)) : List (Nat × Flit) := l.filter (fun x => isM x.2)
  let keepDir (d : LinkDir) : LinkDir := { d with replay := keep d.replay, resend := keep d.resend }
  let lost := (s.noc.bufs.map (fun b => others b.2.flits)).sum
    + (s.noc.links.map (fun l => others (l.2.rx.replay.map Prod.snd) + others (l.2.tx.replay.map Prod.snd))).sum
    + (s.ups.map (fun x => others (x.2.replay.map Prod.snd) + others x.2.waiting)).sum
    + ((s.net.filter (fun p => decide (p.cls ≠ 0))).map (fun p => bodyFlits p.body)).sum
  { s with
    noc := { s.noc with
      discarded := (s.noc.discarded + lost) % 2 ^ 32
      bufs := s.noc.bufs.filter (fun b => decide (b.1 % 4 = 0))
      links := s.noc.links.map (fun l => (l.1, { l.2 with rx := keepDir l.2.rx, tx := keepDir l.2.tx }))
      outs := s.noc.outs.map (fun o => (o.1, { o.2 with hold := [o.2.hold.getD 0 none, none, none, none] })) }
    ups := s.ups.map (fun x => (x.1, { x.2 with
      replay := keep x.2.replay, resend := keep x.2.resend, waiting := x.2.waiting.filter isM
      used := [x.2.used.getD 0 0, 0, 0, 0] }))
    net := s.net.filter (fun p => decide (p.cls = 0))
    outs := [], sendWait := [], replays := [], purges := [], tagCtrs := [] }

end Sys2Proof.Machine
end

