-- ==== Sys2Proof/Machine/Bringup.lean ====
section
/-! DEFINITION. The reference clock, resets, bring-up, repair, service levels, mode transitions and the return from Safe
(chapter 17, R475, R478 to R480). -/

namespace Sys2Proof.Machine

/-- The requester identifier of the supervisor pair, which runs the boot ROM and the firmware. -/
def fwId : Nat := rqId 0x308 0
/-- That of the clock, reset and self-test controller. -/
def ckrId : Nat := rqId 0x30C 0

/-- CLR.MODE.STEP. -/
def setStep (s : State) (n : Nat) : State := { s with clr := { s.clr with step := n } }

/-! ### Service levels (R517 to R520) -/

/-- Whether a clearing unit, port or bridge failed bring-up BIST. -/
def clrFailed (s : State) (u : Nat) : Bool := bit s.ckr.bistClr (if 0x380 ≤ u then u - 0x380 + 60 else u - 0x300)
/-- Whether a stand unit failed bring-up BIST. -/
def standFailed (s : State) (u : Nat) : Bool := bit s.ckr.bistUnits (u - 0x2C0)

/-- Whether grove `g` has its router and a thicket in service. -/
def groveServes (s : State) (g : Nat) : Bool :=
  !(bit s.ckr.bistGroves g) && (List.range 4).any (fun k => !(thicketOff (groveAt s g) k))

/-- Whether a stand has a usable dispatch path: its router, scheduler and monitor, and a grove that serves. -/
def standServes (s : State) (st : Nat) : Bool :=
  !(standFailed s (0x2C0 + st)) && !(standFailed s (0x2C4 + st)) && !(standFailed s (0x2D0 + st))
  && (List.range 4).any (fun g => groveServes s (4 * st + g))

/-- CLR.SERVICE (Table 17.7). -/
def serviceBits (s : State) : List Bool :=
  [clrFailed s 0x301 || clrFailed s 0x302 || clrFailed s 0x303, clrFailed s 0x304, clrFailed s 0x305,
   clrFailed s 0x380 || clrFailed s 0x381, clrFailed s 0x382 || clrFailed s 0x383,
   !(standServes s 0), !(standServes s 1), !(standServes s 2), !(standServes s 3),
   clrFailed s 0x306, clrFailed s 0x30A, clrFailed s 0x30D, clrFailed s 0x30B || s.ldg.dead]

/-- Whether report-only service is reached (R518). -/
def reportOnly (s : State) : Bool :=
  supClocked s && clocked s && !s.chk.halted
  && [0x300, 0x307, 0x308, 0x309, 0x30C].all (fun u => !(clrFailed s u))
  && (!(clrFailed s 0x380 || clrFailed s 0x381) || !(clrFailed s 0x382 || clrFailed s 0x383))

/-- The level reached: 0 none, 1 report-only, 2 compute (R518, R519). -/
def serviceLevel (s : State) : Nat :=
  let c := serviceBits s
  if !(reportOnly s) then 0
  else if fwRuns s && !(c.getD 0 false) && !(c.getD 1 false) && !(c.getD 2 false) && (List.range 4).any (fun i => !(c.getD (5 + i) true)) then 2
  else 1

/-- The firmware computes the service level again (R520). -/
def refreshService (s : State) : State :=
  { s with clr := { s.clr with service := serviceLevel s, conditions := serviceBits s } }

/-- Whether a unit of CLR.SERVICE is out of service (R517): 9 trace hub, 10 commit engine, 11 management endpoint, 12 ledger. -/
def outOfService (s : State) (i : Nat) : Bool := s.clr.conditions.getD i false

/-- A port is held in reset: its links are down, and its functions are as PERST leaves them. -/
def holdPort (s : State) (b : Nat) : State :=
  portReset (setHif s b { hifAt s b with links := (hifAt s b).links.map (fun l =>
    { l with up := false, cxl := false, flit := false, speed := 0, width := 0 }) }) b

/-- The ports whose bridge failed BIST are held in reset (R518). -/
def holdFailedPorts (s : State) : State :=
  ((List.range 2).filter (fun b => s.clr.conditions.getD (3 + b) false)).foldl holdPort s

/-- Neither service level is reached: both ports are held in reset and STEP shows 0x0F (R520, R561). -/
def stopBringUp (s : State) : State :=
  let s1 := (List.range 2).foldl holdPort s
  setStep { s1 with clr := { s1.clr with service := 0 } } 0x0F

/-- DEV_OK is high from compute service on, but not in Safe (Table 16.6). -/
def devOk (s : State) : Bool := decide (s.clr.service = 2) && !(inSafe s)

/-! ### Fuses and straps (step 0x02; R4, R19, R559 to R561) -/

/-- The number of set bits among the low `n`. -/
def popCount (w n : Nat) : Nat := ((List.range n).filter (fun i => bit w i)).length

/-- STRAP_OFF of a grove: the highest-numbered thickets still in service go until `n` are left. -/
def strapOff (fused n : Nat) : Nat :=
  let inUse := (List.range 4).filter (fun k => !(bit fused k))
  (inUse.drop n).foldl (fun w k => w + 2 ^ k) 0

/-- GRADE as thickets per grove. -/
def gradeThickets (straps : Nat) : Nat :=
  match bits straps 5 4 with
  | 1 => 3
  | 2 => 2
  | _ => 4

/-- Fuses loaded, grade and strap removals applied. -/
def applyFuses (s : State) : State :=
  let gs : List Grove := (List.range 16).map (fun g =>
    let f := s.fuses.fusedOff.getD g 0
    { groveAt s g with fusedOff := f, strapOff := strapOff f (gradeThickets s.ckr.straps) })
  let off (f : Grove → Nat) : Nat := (gs.map (fun g => popCount (f g) 4)).sum
  { s with clr := { s.clr with
      part := s.fuses.part, speed := s.fuses.speed, groves := gs
      fusedThickets := 64 - off Grove.fusedOff
      gradeThickets := 64 - off (fun g => g.fusedOff ||| g.strapOff)
      step := 0x02 } }

/-! ### Board record and firmware images (R507 to R512) -/

/-- Bytes of the flash as a number. -/
def flashN (s : State) (a n : Nat) : Nat := ByteMem.rdN s.flash a n

/-- Whether the board record is in order (R508). -/
def boardOk (s : State) : Bool :=
  decide (flashN s 0 4 = 0x4342485A) && decide (flashN s 4 2 = 1) && decide (flashN s 6 1 < 4) && decide (flashN s 7 1 < 128)
  && decide (350 ≤ flashN s 8 2) && decide (flashN s 8 2 ≤ 750) && decide (flashN s 0xA 50 = 0)
  && decide (flashN s 0x3C 4 = crc32c (ByteMem.rdBytes s.flash 0 60))

/-- Step 0x04: the flash is discovered, the board record or the default record is in force. -/
def readBoard (s : State) : State :=
  let ok := s.ckr.plan.sfdp && boardOk s
  let ports := if ok then flashN s 6 1 else 0
  let s1 : State := { s with
    ckr := { s.ckr with bifurcated := ports, vrAddr := if ok then flashN s 7 1 else 0x40 }
    brd := { s.brd with limitW := if ok then flashN s 8 2 else 350 }
    hif := (List.range 2).map (fun b => { hifAt s b with bifurcated := bit ports b }) }
  let s2 := if ok then s1 else raise s1 Kind.qspiError fwId none 0 0
  setStep { s2 with clr := { s2.clr with service := 1 } } 0x04

/-- An image as the ROM reads it: the header, and the body of LENGTH bytes. -/
structure FwImage where
  header : List Byte := []
  body : List Byte := []

/-- A field of an image's header. -/
def FwImage.f (i : FwImage) (off n : Nat) : Nat := leNat ((i.header.drop off).take n)
/-- SIGN_KEY. -/
def FwImage.key (i : FwImage) : List Byte := (i.header.drop 0x60).take 97
/-- SEC_VERSION. -/
def FwImage.sec (i : FwImage) : Nat := i.f 8 4

/-- The first 512 bytes of an image and the LENGTH bytes behind them. -/
def imageOf (bs : List Byte) : FwImage :=
  let h := bs.take 512
  let n := leNat ((h.drop 0xC).take 4)
  { header := h, body := if n ≤ 458752 then (bs.drop 512).take n else [] }

/-- The image in a slot of the flash. -/
def slotImage (s : State) (slot : Nat) : FwImage :=
  let base := 0x100000 * (slot + 1)
  let n := flashN s (base + 0xC) 4
  { header := ByteMem.rdBytes s.flash base 512, body := if n ≤ 458752 then ByteMem.rdBytes s.flash (base + 512) n else [] }

/-- Whether the header meets Table 17.5. -/
def headerOk (i : FwImage) : Bool :=
  let len := i.f 0xC 4
  decide (i.header.length = 512) && decide (i.f 0 8 = 0x31474D495746485A) && decide (i.sec < 64)
  && decide (len % 64 = 0) && decide (64 ≤ len) && decide (len ≤ 458752)
  && decide (i.f 0x10 4 % 4 = 0) && decide (i.f 0x10 4 < len)
  && decide (i.f 0x14 12 = 0) && decide (i.f 0xC1 63 = 0) && decide (i.f 0x160 160 = 0)

/-- The fused key-hash slots that are intact. -/
def intactSlots (s : State) : List Nat := (List.range 4).filter (fun k => !(bit s.fuses.revoked k))

/-- The slots that hold a hash. -/
def keySlots (s : State) (h : Nat) : List Nat := (intactSlots s).filter (fun k => decide (s.fuses.keyHash.getD k 0 = h))

/-- The first condition of R510 that fails, 1 to 5. -/
def imageFault (s : State) (i : FwImage) : Option Nat :=
  if !(headerOk i) then some 1
  else if (keySlots s (sha384 i.key)).isEmpty then some 2
  else if !(ecdsaOk i.key (sha384 (i.header.take 0x100)) ((i.header.drop 0x100).take 96)) then some 3
  else if i.body.length ≠ i.f 0xC 4 ∨ sha384 i.body ≠ beNat ((i.header.drop 0x30).take 48) then some 4
  else if i.sec < s.fuses.floor then some 5
  else none

/-- FIRMWARE_IMAGE_INVALID with the slot and the first failed condition. -/
def imageRejected (s : State) (slot c : Nat) : State :=
  raise s Kind.firmwareImageInvalid fwId none 0 (slot + 2 ^ 8 * c)

/-- An accepted image starts, both cores in lockstep. `slot`: 1 A, 2 B, 3 recovery. -/
def startImage (s : State) (slot : Nat) (i : FwImage) : State :=
  { s with
    clr := { s.clr with fwSlot := slot, fwRunning := true }
    ckr := { s.ckr with secVersion := i.sec, imageDigest := beNat ((i.header.drop 0x30).take 48), signKey := sha384 i.key } }

/-- The slots are tried in order; each rejected one counts. -/
def trySlots (s : State) (l : List Nat) : State :=
  match l with
  | [] => s
  | k :: r =>
    match imageFault s (slotImage s k) with
    | none => startImage s (k + 1) (slotImage s k)
    | some c => trySlots (imageRejected { s with ckr := { s.ckr with rejects := (s.ckr.rejects + 1) % 256 } } k c) r

/-- The slot that the ledger names as preferred (R512, R552). -/
def preferredSlot (s : State) : Nat :=
  if !s.ckr.plan.ledgerOk || s.ldg.dead then 0
  else match inForce s 2 with
  | some x => payN x.2 1 1 % 2
  | none => 0

/-- Step 0x05: the firmware is loaded from the flash, unless the strap or a QSPI failure leaves only recovery. -/
def loadFirmware (s : State) : State :=
  let s1 := setStep s 0x05
  let k := preferredSlot s
  let s2 := if bit s.ckr.straps 1 || !s.ckr.plan.sfdp then s1 else trySlots s1 [k, 1 - k]
  if s2.clr.fwRunning then s2 else setStep s2 0x0E

/-! ### BIST and repair (R515, R516) -/

/-- The bits of a register for the units of a range that failed. -/
def failedBits (l : List Nat) (base n : Nat) : Nat := ((List.range n).filter (fun i => l.contains (base + i))).foldl (fun w i => w + 2 ^ i) 0

/-- Whether a unit is tested: those of thickets removed by fuse or strap are not. -/
def bistTests (s : State) (u : Nat) : Bool :=
  let off (g k : Nat) : Bool := bit (groveAt s g).fusedOff k || bit (groveAt s g).strapOff k
  if u < 0x100 then !(off (u / 16) (u % 16 / 4))
  else if 0x200 ≤ u ∧ u < 0x240 then !(off ((u - 0x200) / 4) (u % 4))
  else isUnit u

/-- Whether a tile is recorded failed in the ledger. -/
def recordedFailed (s : State) (u : Nat) : Bool := decide ((SMap.get {} s.ldg.cnt.tiles u).state ≠ 0)

/-- A tile is recorded as failed (R541). -/
def recordFailed (s : State) (u st : Nat) : State :=
  if recordedFailed s u then s
  else modCount s (fun c => { c with tiles := SMap.put {} c.tiles u { SMap.get {} c.tiles u with state := st } })

/-- Step 0x07: every unit is tested and the results are shown. -/
def runBist (s : State) : State :=
  let bad := s.ckr.plan.failed.filter (bistTests s)
  let tiles := bad.filter isTile
  let s1 := tiles.foldl (fun s u => recordFailed s u 1) s
  let s2 := if tiles.any (fun u => !(recordedFailed s u)) then askCheckpoint s1 [] else s1
  let row (g : Nat) : Nat :=
    ((List.range 16).filter (fun k => bad.contains (16 * g + k) || recordedFailed s (16 * g + k))).foldl (fun w k => w + 2 ^ k) 0
    + (if bad.contains (0x100 + g) then 2 ^ 16 else 0)
  setStep { s2 with ckr := { s2.ckr with
    bistTiles := (List.range 16).map row
    bistThickets := failedBits bad 0x200 64
    bistGroves := failedBits bad 0x280 16
    bistUnits := failedBits bad 0x2C0 64
    bistClr := failedBits bad 0x300 60 + 2 ^ 60 * failedBits bad 0x380 4 } } 0x07

/-- Thickets that failed routers, and stands without their router, scheduler, buffer or monitor, take out (R516 step 2, R517). -/
def routerLost (s : State) (g : Nat) : Nat :=
  let st := g / 4
  if bit s.ckr.bistGroves g || standFailed s (0x2C0 + st) || standFailed s (0x2C4 + st) || standFailed s (0x2CC + st) || standFailed s (0x2D0 + st) then 15
  else (List.range 4).foldl (fun w k => if bit s.ckr.bistThickets (4 * g + k) then w + 2 ^ k else w) 0

/-- The failed tile positions of thicket `k` of a grove. -/
def failedIn (s : State) (g k : Nat) : List Nat :=
  ((List.range 4).map (fun i => 4 * k + i)).filter (fun p => bit (s.ckr.bistTiles.getD g 0) p || (tileAt s (16 * g + p)).excluded)

/-- A thicket of a grove is removed (R21). -/
def loseThicket (s : State) (g k : Nat) : State :=
  let x := groveAt s g
  { s with clr := { s.clr with groves := s.clr.groves.set g { x with lost := x.lost ||| 2 ^ k } } }

/-- The record of a thicket's removal. -/
def thicketRemoved (s : State) (t : Nat) : State := raiseAbout s Kind.thicketRemoved fwId (0x200 + t) none 0 0 none

/-- The spare of a grove stands in for a position. -/
def spareStands (s : State) (g p : Nat) : State :=
  let x := groveAt s g
  raiseAbout { s with clr := { s.clr with groves := s.clr.groves.set g { x with spareUsed := true, sparePos := p } } }
    Kind.spareEngaged fwId (0x100 + g) none 0 0 none

/-- Repair of one grove (R516). -/
def repairGrove (s : State) (g : Nat) : State :=
  let x := groveAt s g
  let spareBad := bit (s.ckr.bistTiles.getD g 0) 16 || recordedFailed s (0x100 + g) || (tileAt s (0x100 + g)).excluded || bit s.ckr.bistGroves g
  let y : Grove := { x with spareUsed := false, sparePos := 0, spareFailed := spareBad, lost := routerLost s g }
  let s1 : State := { s with clr := { s.clr with groves := s.clr.groves.set g y } }
  let serving := (List.range 4).filter (fun k => !(thicketOff (groveAt s1 g) k))
  let hurt := serving.filter (fun k => !(failedIn s1 g k).isEmpty)
  let mended := if spareBad then none else hurt.find? (fun k => decide ((failedIn s1 g k).length = 1))
  let s2 := match mended with
    | some k => spareStands s1 g ((failedIn s1 g k).headD 0)
    | none => s1
  (hurt.filter (fun k => decide (some k ≠ mended))).foldl (fun s k => thicketRemoved (loseThicket s g k) (4 * g + k)) s2

/-- Every memory is written to zero, with valid check bits and no poison. -/
def zeroMemories (s : State) : State :=
  { s with
    tiles := s.tiles.map (fun t => { t with
      istore := [], istoreBad := [], istoreErr := [], frame := [], framePoison := [], frameErr := [], store := [], ovf := [] })
    sts := s.sts.map (fun x => { x with mem := [], poison := [], err := [] }) }

/-- Step 0x09 configures the bridges' functions: the PFs have their 64 vectors from then on (Table 13.8, R393). -/
def configurePfs (s : State) : State :=
  [0, 1].foldl (fun s b => setFn s b 0 { fnAt s b 0 with vecs := 64 }) s

/-- Steps 0x07 to 0x0A, by the firmware: BIST, repair, the service level, and the regulator's set point. -/
def serviceSteps (s : State) : State :=
  let s1 := runBist s
  let s2 := zeroMemories (setStep ((List.range 16).foldl repairGrove s1) 0x08)
  let s3 := holdFailedPorts (refreshService (setStep { configurePfs s2 with brd := { s2.brd with vcore := s2.fuses.vid } } 0x09))
  if s3.clr.service = 0 then stopBringUp s3 else setStep s3 0x0A

/-- Step 0x06 and on: the firmware has started. -/
def firmwareSteps (s : State) : State :=
  serviceSteps (ledgerBoot (setStep { s with ldg := { s.ldg with dead := s.ldg.dead || !s.ckr.plan.ledgerOk } } 0x06))

/-- Steps 0x02 to 0x0A, once the reference is present and the PLLs are locked. -/
def bringUp (s : State) : State :=
  let s1 := applyFuses s
  if bits s.ckr.straps 5 4 = 3 then stopBringUp s1
  else
    let s2 := checkerInjection (setStep s1 0x03) s.ckr.plan.cmpOk
    if s2.chk.halted then stopBringUp s2
    else
      let s3 := loadFirmware (readBoard s2)
      if s3.clr.fwRunning then firmwareSteps s3 else s3

/-! ### Resets (R502 to R504) -/

/-- What a chip reset clears: everything but the fuses, the array and the flash; what is outside the part, the levels at its
pins and the regulator's voltage among it, stays, and so do the messages that have left it. -/
def chipCleared (s : State) : State :=
  { State.reset with
    fuses := s.fuses, flash := s.flash, array := s.array
    clr := { part := s.fuses.part, speed := s.fuses.speed }
    brd := { brake := s.brd.brake, vddioOut := s.brd.vddioOut, vcore := s.brd.vcore }
    sent := s.sent, freeCtr := s.freeCtr, pending := s.pending }

/-- CHIP_RESET: CHIP_RESET_N is low, or the power-on detector fires and powers the part. -/
def chipReset (s : State) (por : Bool) : State :=
  if !s.clk.powered && !por then s
  else
    let s1 := chipCleared s
    { s1 with
      clk := { inReset := true }
      ckr := { por := por, pin := !por } }

/-- Bring-up goes on where its clocks are there; without a lock after four attempts it stops. -/
def bringUpClocked (s : State) : State :=
  if s.clk.refPresent && s.clk.coreLocked && s.clk.supLocked && decide (s.clr.step = 1) && !s.clk.inReset then bringUp s else s

/-- CHIP_RESET_RELEASE: the straps are sampled; with a valid reference the steps of Table 17.2 run, without one the part waits. -/
def chipResetRelease (s : State) (x : BringUp) : State :=
  if !s.clk.powered || s.clk.shutdown || !(s.clk.inReset || decide (s.clr.step = 1)) then s
  else
    let st := x.straps % 256
    bringUpClocked { s with
      clk := { s.clk with inReset := false, refPresent := x.refOk, coreLocked := x.coreLock, supLocked := x.supLock, coreTries := 0, supTries := 0 }
      clr := { s.clr with step := 1, refPort := st % 2 }
      ckr := { s.ckr with straps := st, plan := x } }

/-- A supervisor reset: the cores and their SRAM are reset, the firmware is reloaded and verified, open stages close. -/
def supReset (s : State) : State :=
  let s1 := settleCommit (closeStages (cancelReplace s) 10)
  let s2 : State := { s1 with
    chk := { s1.chk with halted := false, lost := false, mismatch := false, passed := false }
    brd := { s1.brd with supSramBad := false }
    clr := { s1.clr with fwRunning := false, fwSlot := 0 }
    ckr := { s1.ckr with supResets := (s1.ckr.supResets + 1) % 2 ^ 32, supRequested := false, secVersion := 0, imageDigest := 0, signKey := 0 }
    ldg := { s1.ldg with cnt := if s1.ldg.dead then {} else countsInForce s1, sub := 0, budget := 0, queue := [], boundQ := s1.ldg.bound, flush := false } }
  let s3 := loadFirmware s2
  if s3.clr.fwRunning then setStep s3 s.clr.step else s3

/-- SUPERVISOR_RESET: a requested reset is performed. -/
def supervisorReset (s : State) : State := if supClocked s && s.ckr.supRequested then supReset s else s

/-- SUP_RESET_WRITE by the PF of a port. -/
def supResetWrite (s : State) (port key : Nat) : State :=
  if !(clocked s) then s
  else if inSafe s && decide (key = 0x05E7) then { s with ckr := { s.ckr with supRequested := true } }
  else logAccess s port 0 0x10018 0

/-- WATCHDOG_EXPIRY: FIRMWARE_WATCHDOG, and a supervisor reset. -/
def watchdogExpiry (s : State) : State :=
  if supClocked s && s.clr.fwRunning then supReset (raise s Kind.firmwareWatchdog ckrId none 0 0) else s

/-- SUP_SRAM_SCRUB: 1 a corrected error, 2 an uncorrectable one (R514). -/
def supSramScrub (s : State) (err : Nat) : State :=
  if !(supClocked s) then s
  else match err with
  | 0 => s
  | 1 => raise s Kind.supervisorSramCorrected fwId none 0 0
  | _ => raise { s with brd := { s.brd with supSramBad := true } } Kind.supervisorSramUncorrectable fwId none 0 0

/-! ### Images, keys and settings by MCTP (R510 to R512, R523, R539) -/

/-- RECOVERY_IMAGE: at step 0x0E an image of the platform controller, or of the fabric manager on port 0's PF, is checked and
started. -/
def recoveryImage (s : State) (bs : List Byte) : State :=
  if !(supClocked s) || s.chk.halted || decide (s.clr.step ≠ 0x0E) || s.clr.fwRunning then s
  else
    let i := imageOf bs
    match imageFault s i with
    | some c => imageRejected s 2 c
    | none =>
      let s1 := startImage s 3 i
      if s1.clr.mode = .configuration ∧ s1.ckr.reached = false then firmwareSteps s1 else setStep s1 0x0A

/-- Whether a statement is the revocation statement of a slot (R511). -/
def statementSlot (bs : List Byte) : Option Nat :=
  let k := leNat ((bs.drop 8).take 1)
  if bs.length = 16 ∧ leNat (bs.take 8) = 0x314B4F564552485A ∧ k < 4 ∧ leNat (bs.drop 9) = 0 then some k else none

/-- REVOKE_KEY from a party (R511). -/
def revokeKey (s : State) (party : Nat) (stmt key sig : List Byte) : State :=
  if !(fwRuns s) then s
  else if party ≠ 1 then answer s party [0x10, 0]
  else match statementSlot stmt with
  | none => answer s party [0x11, 0]
  | some k =>
    if (keySlots s (sha384 key)).all (fun j => decide (j = k)) ∨ !(ecdsaOk key (sha384 stmt) sig) then answer s party [0x11, 0]
    else if (intactSlots s).all (fun j => decide (j = k)) ∨ s.fuses.keyHash.getD k 0 = s.ckr.signKey then answer s party [0x14, 0]
    else answer { s with fuses := { s.fuses with revoked := s.fuses.revoked ||| 2 ^ k } } party [0, 0]

/-- SECURITY_FLOOR_RAISE from a party: up to the running SEC_VERSION; the floor is a thermometer count and never falls. -/
def floorRaise (s : State) (party n : Nat) : State :=
  if !(fwRuns s) then s
  else if party ≠ 1 then answer s party [0x10, 0]
  else if 63 < n then answer s party [0x11, 0]
  else if s.ckr.secVersion < n then answer s party [0x14, 0]
  else answer { s with fuses := { s.fuses with floor := max s.fuses.floor n } } party [0, 0]

/-- The slot that FIRMWARE_UPDATE writes: not the running image's; after a recovery image, the one not preferred. -/
def updateSlot (s : State) : Nat :=
  match s.clr.fwSlot with
  | 1 => 1
  | 2 => 0
  | _ => 1 - s.ldg.slot % 2

/-- FIRMWARE_UPDATE from a party (R539). -/
def firmwareUpdate (s : State) (party : Nat) (bs : List Byte) : State :=
  let k := updateSlot s
  if !(fwRuns s) then s
  else if 0x100000 < bs.length then answer s party [0x11, 0]
  else
    let s1 : State := { s with flash := ByteMem.wrBytes s.flash (0x100000 * (k + 1)) bs }
    match imageFault s1 (slotImage s1 k) with
    | some _ => answer s1 party [3, Kind.firmwareImageInvalid]
    | none =>
      let s2 := writeSettings { s1 with ldg := { s1.ldg with slot := k } } s1.ldg.boundQ
      answer (queueEvent s2 0x13 (leBytes 8 (now s2) ++ leBytes 1 k)) party [0, 0]

/-- HOLD_WRITE: a PF (party 2), or a party by MCTP, sets or clears HOLD; the firmware records the change (R523). -/
def holdWrite (s : State) (party : Nat) (on : Bool) : State :=
  let put (s : State) : State :=
    if s.clr.hold = on then s else writeSettings { s with clr := { s.clr with hold := on } } s.ldg.boundQ
  if party < 2 then (if fwRuns s then answer (put s) party [0, 0] else s)
  else if clocked s then put s else s

/-! ### Mode transitions (R521 to R524, R480) -/

/-- OPERATIONAL_ENTRY: R522 holds. -/
def operationalEntry (s : State) : State :=
  if fwRuns s && clocked s && decide (s.clr.mode = .configuration) && decide (s.clr.step = 0x0A) && decide (s.clr.service = 2)
      && !s.clr.hold && decide (s.prt.custody ≠ 0) && decide (fltCause s = 0) then
    setStep { s with clr := { s.clr with mode := .operational }, ckr := { s.ckr with reached := true } } 0x0B
  else s

/-- What a tile keeps over the return from Safe (R480): an excluded one loses its placement cache (R455), its prefetch slots (R259)
and its spill state (R315). -/
def tileSafe (t : Tile) : Tile :=
  if t.excluded then splSafe { t with pcache := List.replicate 64 none, fills := [], actSlot := [none, none] }
  else splSafe { t with
    iq := [], iqCredits := 512, scan := none, endWaits := [], store := [], ovf := [], fq := [], held := none
    pcache := List.replicate 64 none, fills := []
    send := [], ackPend := [], ackTimer := none, ackOwed := []
    thread := { t := t.thread.t, serial := t.thread.serial, abandoned := t.thread.abandoned }
    memWait := [], v := List.replicate 32 {}, event := 0, actSlot := [none, none]
    acc := [0, 0, 0, 0], kern := { stalls := t.kern.stalls }, job := none, xfers := [], xcnt := List.replicate 8 0 }

/-- Every context other than 0 becomes FREE, in ascending order (R480). -/
def ctxSafe (s : State) : State :=
  { s with ctx := { releases := [], parts := s.ctx.parts.map (fun c =>
      if c.limit = 0 then {} else { limit := c.limit, free := { next := 1, stop := c.limit }, st := [(0, 1)] }) } }

/-- The run state that the return discards, unit by unit. -/
def runCleared (s : State) : State :=
  let s1 : State := { s with tiles := s.tiles.map tileSafe }
  lockSafe (hubSafe (gateSafe (netReset (schReset (ctxSafe (sifSafe s1))))))

/-- The states that the return sets: regions and ring sets DISABLED, partitions DISARMED. -/
def unitsSafe (s : State) : State := disarmAll (ringsSafe (sprSafe s))

/-- SAFE_RETURN: the accepted exit completes (R480). A Safe-class message processed meanwhile makes the part enter Safe again. -/
def safeReturn (s : State) : State :=
  if !(clocked s && supClocked s && s.flt.returning.isSome) then s
  else
    let s1 := unitsSafe (runCleared s)
    let s2 : State := { s1 with clr := { s1.clr with mode := .configuration }, flt := { s1.flt with returning := none, reenter := false } }
    let s3 := if !(fwRuns s2) then s2
      else if s2.ckr.reached then setStep (refreshService s2) 0x0A else serviceSteps s2
    let s4 := allFns.foldl (fun s x => sendPending s x.1 x.2) s3
    if s.flt.reenter then enterSafe s4 else s4

/-! ### Failed tiles (R22, R475, R529) -/

/-- A tile is excluded as by steps 1 to 4 of R474, without a record. -/
def excludeQuiet (s : State) (u : Nat) : State :=
  if (tileAt s u).excluded then s
  else
    let p := (tilePart (tileAt s u)).getD 0
    let s1 := dropOuts (modTile s u excludeTile) u
    sendOrphan { s1 with slices := s1.slices.filter (fun x => decide (x.unit ≠ u)) } (rqId u 0) p

/-- A thicket is removed in the field: its other tiles are excluded, their activations retired, their bindings suspended; a spare
under test for one of its positions is no longer needed (R20, R21). -/
def removeThicket (s : State) (t : Nat) : State :=
  let us := (thicketTiles s t).filter (fun u => !(tileAt s u).excluded)
  let s1 := us.foldl excludeQuiet s
  let s2 := us.foldl (fun s u => retireOn s u (fun _ => true)) s1
  let s3 := thicketRemoved (loseThicket s2 (t / 4) (t % 4)) t
  let s3 : State := { s3 with ckr := { s3.ckr with engage := s3.ckr.engage.filter (fun e => decide (e.2 / 4 ≠ t)) } }
  refreshService (us.foldl (fun s u => match tilePart (tileAt s u) with
    | some p => purgeTile (suspendTile s u) 0x30A p u
    | none => s) s3)

/-- Whether a grove's spare can be tested to stand in: unused, healthy, with a complete pass in this or the last period, and
not already chosen. -/
def spareFree (s : State) (g : Nat) : Bool :=
  let x := groveAt s g
  let sp := 0x100 + g
  !x.spareUsed && !x.spareFailed && !(tileAt s sp).excluded && !(s.ckr.engage.any (fun e => decide (e.1 = sp)))
  && (match s.ckr.passAt.find? (fun e => decide (e.1 = sp)) with
      | some e => decide (s.ckr.periodNo ≤ e.2 + 1)
      | none => false)

/-- The spare itself has failed (R22, R529). -/
def spareLost (s : State) (g : Nat) : State :=
  let x := groveAt s g
  let y : State := { s with
    clr := { s.clr with groves := s.clr.groves.set g { x with spareFailed := true, spareUsed := false } }
    ckr := { s.ckr with engage := s.ckr.engage.filter (fun e => decide (e.1 ≠ 0x100 + g)) } }
  if x.spareUsed then removeThicket (askCheckpoint (recordFailed y (0x100 + g) 2) []) (4 * g + x.sparePos / 4)
  else (s.ckr.engage.filter (fun e => decide (e.1 = 0x100 + g))).foldl (fun s e => removeThicket s (e.2 / 4)) y

/-- A quarantined tile is marked failed: its grove's spare is tested to stand in, or its thicket is removed. -/
def markFailed (s : State) (u : Nat) : State :=
  if 0x100 ≤ u then spareLost s (u - 0x100)
  else if thicketOff (groveAt s (u / 16)) (u % 16 / 4) then s
  else if spareFree s (u / 16) then
    { s with ckr := { s.ckr with
        engage := s.ckr.engage ++ [(0x100 + u / 16, u)]
        passed := SMap.put 0 s.ckr.passed (0x100 + u / 16) 0 } }
  else removeThicket s (u / 4)

/-- QUARANTINE_FOLLOW_UP: the firmware completes the oldest quarantine (R475); one made in Safe waits for the return. -/
def quarantineFollowUp (s : State) : State :=
  match s.flt.followUps with
  | [] => s
  | u :: r =>
    if !(fwRuns s && clocked s) || inSafe s then s
    else
      let p := (tilePart (tileAt s u)).getD 0
      let s1 := retireOn (suspendTile { s with flt := { s.flt with followUps := r } } u) u (fun _ => true)
      markFailed (purgeTile s1 0x307 p u) u

/-! ### The reference clock and the PLLs (R497 to R501) -/

/-- REFERENCE_LOSS: every clock stops and the part holds still. `portDown`: the reference port's link leaves L0 meanwhile. -/
def referenceLoss (s : State) (portDown : Bool) : State :=
  if !s.clk.powered || !s.clk.refPresent || s.clk.shutdown then s
  else
    let s1 := cancelReplace s
    { s1 with clk := { s1.clk with refPresent := false, lossMode := s.clr.mode, portDown := portDown } }

/-- The mode's code (Table 17.6). -/
def modeCode : Mode → Nat
  | .configuration => 0
  | .operational => 1
  | .safe => 2

/-- The record of an interruption, its counts, and what the return ends. -/
def afterReturn (s : State) : State :=
  let n := (s.ckr.interruptions + 1) % 2 ^ 32
  let s1 : State := { s with ckr := { s.ckr with interruptions := n }, ldg := { s.ldg with calendar := none } }
  let s2 := modCount s1 (fun c => { c with refs := satInc 32 c.refs })
  let s3 := raise s2 Kind.referenceInterruption ckrId none 0 (n + 2 ^ 32 * modeCode s.clk.lossMode)
  if s.clk.portDown then linkDown s3 s.clr.refPort 0 else s3

/-- REFERENCE_RETURN: the PLLs relock and all clocks resume; before step 0x01 is complete the part starts instead (R503). -/
def referenceReturn (s : State) : State :=
  if !s.clk.powered || s.clk.refPresent || s.clk.shutdown then s
  else
    let s1 : State := { s with clk := { s.clk with refPresent := true } }
    if s.clk.inReset then s1
    else if s.clr.step = 1 then bringUpClocked s1
    else afterReturn s1

/-- PLL_UNLOCK of the core PLL, or of the supervisor PLL. -/
def pllUnlock (s : State) (core : Bool) : State :=
  if !s.clk.powered || s.clk.inReset || !s.clk.refPresent || s.clk.shutdown || decide (s.clr.step = 1) then s
  else if core then (if s.clk.coreLocked then { s with clk := { s.clk with coreLocked := false, coreTries := 0 } } else s)
  else if s.clk.supLocked then { s with clk := { s.clk with supLocked := false, supTries := 0 } }
  else s

/-- What follows a regained lock: bring-up goes on, or the unlock is recorded. -/
def relocked (s : State) (kind : Nat) : State :=
  if s.clr.step = 1 then bringUpClocked s else raise s kind ckrId none 0 0

/-- PLL_LOCK_ATTEMPT_END: of up to four attempts (R501). Four failures at step 0x01 end bring-up without a service level. -/
def pllAttemptEnd (s : State) (core locked : Bool) : State :=
  let c := s.clk
  let tries := if core then c.coreTries else c.supTries
  if !c.powered || c.inReset || !c.refPresent || c.shutdown || (if core then c.coreLocked else c.supLocked) || decide (4 ≤ tries) then s
  else
    let s1 : State := { s with
      ckr := { s.ckr with pllRetries := (s.ckr.pllRetries + 1) % 2 ^ 32 }
      clk := if core then { c with coreTries := tries + 1, coreLocked := locked } else { c with supTries := tries + 1, supLocked := locked } }
    if locked then relocked s1 (if core then Kind.corePllUnlock else Kind.supervisorPllUnlock)
    else if tries + 1 = 4 ∧ s.clr.step = 1 then stopBringUp s1
    else s1

end Sys2Proof.Machine
end

