-- ==== Sys2Proof/Machine/Board.lean ====
section
/-! DEFINITION. The board side (chapter 19): power and thermal levels, rails and regulator, sensors and shutdown, the sideband
outputs, I3C addresses and the JTAG TAP. -/

namespace Sys2Proof.Machine

/-- The thermal and power monitor's requester identifier. -/
def monId : Nat := rqId 0x310 0
/-- The PMBus controller's. -/
def pmbusId : Nat := rqId 0x30F 0

/-! ### Power and thermal levels (R572 to R575) -/

/-- The power level changes; entry from 0 is recorded. -/
def setPowerLevel (s : State) (n : Nat) : State :=
  let s1 : State := { s with brd := { s.brd with powerLvl := n } }
  if s.brd.powerLvl = 0 ∧ n ≠ 0 then raise s1 Kind.powerLimitThrottle fwId none 0 0 else s1

/-- One step against the package power in mW (R572). -/
def powerAgainst (s : State) (mw : Nat) : State :=
  let l := s.brd.powerLvl
  let s1 : State := { s with brd := { s.brd with powerW := mw / 1000 % 1024, noTelemetry := 0 } }
  if s.brd.brake then s1
  else if 1000 * s.brd.limitW < mw then setPowerLevel s1 (min 15 (l + 1))
  else if mw < 950 * s.brd.limitW then setPowerLevel s1 (l - 1)
  else s1

/-- POWER_LEVEL_STEP with the READ_POUT of pages 0 and 1, averaged over the step, in mW; none where the transaction failed with
its repeats (R575). -/
def powerLevelStep (s : State) (pout : Option Nat) : State :=
  if !(fwRuns s) then s
  else match pout with
  | some p => powerAgainst s (p + 1000 * s.brd.otherW)
  | none =>
    let s1 := raise { s with brd := { s.brd with noTelemetry := s.brd.noTelemetry + 1 } } Kind.pmbusError pmbusId none 0 0
    if s.brd.brake = false ∧ 3 ≤ s.brd.noTelemetry then setPowerLevel s1 (min 15 (s.brd.powerLvl + 1)) else s1

/-- THERMAL_LEVEL_STEP against the hottest reading (R573). -/
def thermalLevelStep (s : State) : State :=
  let l := s.brd.thermalLvl
  let n := if 4 * (s.brd.throttleC : Int) ≤ s.brd.tj then min 15 (l + 1)
    else if s.brd.tj < 4 * ((s.brd.throttleC : Int) - 3) then l - 1 else l
  if !(fwRuns s) then s
  else
    let s1 : State := { s with brd := { s.brd with thermalLvl := n } }
    if l = 0 ∧ n ≠ 0 then raise s1 Kind.thermalThrottle fwId none 0 0 else s1

/-- PWR_BRAKE: the level of PWR_BRAKE_N changes (R573). -/
def pwrBrake (s : State) (low : Bool) : State :=
  if s.clk.powered then { s with brd := { s.brd with brake := low } } else s

/-- VR_ALERT: VR_ALERT_N low starts a read of STATUS_WORD: whether it reports an output, overcurrent or overtemperature fault;
none where the transaction failed with its repeats (R575). -/
def vrAlert (s : State) (status : Option Bool) : State :=
  if !(fwRuns s) then s
  else match status with
  | none => raise s Kind.pmbusError pmbusId none 0 0
  | some true =>
    if s.brd.vrFault then s else raise { s with brd := { s.brd with vrFault := true } } Kind.vrFault pmbusId none 0 0
  | some false => { s with brd := { s.brd with vrFault := false } }

/-- VCORE_TRIM: the set point moves by 5 mV up or down, or stays, within 700 to 850 mV; in Safe it is held (R571). -/
def vcoreTrim (s : State) (up down : Bool) : State :=
  let v := s.brd.vcore
  if !(fwRuns s) || inSafe s then s
  else if up ∧ v + 5 ≤ 850 then { s with brd := { s.brd with vcore := v + 5 } }
  else if !up ∧ down ∧ 705 ≤ v then { s with brd := { s.brd with vcore := v - 5 } }
  else s

/-! ### Rails, sensors and shutdown (R563, R569, R576, R577) -/

/-- RAIL_CHECK with the rails out of their range (numbered as Table 19.8 lists them): out at two checks in a row, a rail is
recorded, once while the condition lasts. -/
def railCheck (s : State) (out : List Nat) : State :=
  if !(supClocked s) then s
  else
    let twice := out.filter (fun r => NSet.has s.brd.railsOnce r)
    let new := twice.filter (fun r => !(NSet.has s.brd.railsOut r))
    let set (l : List Nat) : NSet := l.foldl NSet.add []
    new.foldl (fun s _ => raise s Kind.supplyOutOfRange monId none 0 0) { s with brd := { s.brd with railsOnce := set out, railsOut := set twice } }

/-- VDDIO_1V8_OUT_OF_RANGE: the rail leaves or returns to its range. -/
def vddioRange (s : State) (out : Bool) : State := { s with brd := { s.brd with vddioOut := out } }

/-- SENSOR_READING: the hottest reading in 0.25 °C units. -/
def sensorReading (s : State) (tj : Int) : State :=
  if !(supClocked s) then s
  else
    let b := s.brd
    let low := if 4 * (b.thermC : Int) ≤ tj then true else if tj < 4 * ((b.thermC : Int) - 3) then false else b.thermLow
    let hot := if 4 * (b.critC : Int) ≤ tj then true else if tj < 4 * ((b.critC : Int) - 5) then false else b.tjHot
    let s1 : State := { s with brd := { b with tj := tj, thermLow := low, tjHot := hot } }
    if hot && !b.tjHot then raise s1 Kind.thermalCritical monId none 0 0 else s1

/-- HARDWARE_SHUTDOWN: every clock stops and the PLLs are off, until a chip reset or the loss of power. -/
def hardwareShutdown (s : State) : State :=
  if s.clk.powered then { s with clk := { s.clk with shutdown := true, coreLocked := false, supLocked := false } } else s

/-- POWER_LOSS: power is removed. What had not reached the array, the fuses or the flash is lost (R542, R554). -/
def powerLoss (s : State) : State :=
  if !s.clk.powered then s
  else
    let s1 := chipCleared s
    { s1 with clk := { powered := false }, brd := { s1.brd with vcore := 750 }, ckr := {}, clr := { s1.clr with step := 1 } }

/-! ### Outputs (Table 19.6) -/

/-- An output: driven to a level, or high-impedance (none). -/
abbrev Pin := Option Bool

/-- Whether the logic drives the outputs: power, no reset, step 0x01 complete, VDDIO_1V8 in range. -/
def outputsLive (s : State) : Bool := s.clk.powered && !s.clk.inReset && decide (s.clr.step ≠ 1) && !s.brd.vddioOut

/-- DEV_OK, FAULT_N, SAFE_N, ALERT_N, THERM_N. -/
def pinDevOk (s : State) : Pin := if !(outputsLive s) then none else some (devOk s && !s.clk.shutdown)
def pinFaultN (s : State) : Pin := if !(outputsLive s) then none else some (!(faultLow s) && !s.clk.shutdown)
def pinSafeN (s : State) : Pin := if !(outputsLive s) then none else some (!(safeLow s) && !s.clk.shutdown)
def pinAlertN (s : State) : Pin := if !(outputsLive s) then none else some (!(alertLow s) && !s.clk.shutdown)
def pinThermN (s : State) : Pin := if !(outputsLive s) then none else some (!s.brd.thermLow && !s.clk.shutdown)
/-- QSPI_CS_N while the interface is idle; in a hardware shutdown it is high-impedance. -/
def pinQspiCsN (s : State) : Pin := if !(outputsLive s) || s.clk.shutdown then none else some true
/-- TDO: driven in Shift-DR and Shift-IR only. -/
def pinTdo (s : State) : Pin := if !(outputsLive s) then none else s.brd.tap.tdo

/-! ### I3C addresses (R559, R570) -/

/-- The static address. -/
def i3cStatic (s : State) : Nat := 0x64 + bits s.ckr.straps 3 2

/-- DYNAMIC_ADDRESS_ASSIGNMENT: SETDASA to a static address, or ENTDAA (none), assigns a 7-bit address. -/
def assignAddress (s : State) (static : Option Nat) (addr : Nat) : State :=
  let mine := match static with
    | some a => decide (a = i3cStatic s)
    | none => true
  if supClocked s && !(outOfService s 11) && decide (s.clr.step ≠ 1) && mine && decide (addr < 128) then
    { s with brd := { s.brd with i3cDyn := some addr } }
  else s

/-! ### The JTAG TAP (R570; its states and transitions PRESUMED as IEEE 1149.1 has them) -/

/-- The next state on a rising TCK edge: 0 Test-Logic-Reset, 1 Run-Test/Idle, then Select, Capture, Shift, Exit1, Pause, Exit2 and
Update, from 2 for the data registers and from 9 for the instruction register. -/
def tapNext (st : Nat) (tms : Bool) : Nat :=
  match st, tms with
  | 0, true => 0
  | 0, false => 1
  | 1, true => 2
  | 1, false => 1
  | 2, true => 9
  | 2, false => 3
  | 3, true => 5
  | 3, false => 4
  | 4, true => 5
  | 4, false => 4
  | 5, true => 8
  | 5, false => 6
  | 6, true => 7
  | 6, false => 6
  | 7, true => 8
  | 7, false => 4
  | 8, true => 2
  | 8, false => 1
  | 9, true => 0
  | 9, false => 10
  | 10, true => 12
  | 10, false => 11
  | 11, true => 12
  | 11, false => 11
  | 12, true => 15
  | 12, false => 13
  | 13, true => 14
  | 13, false => 13
  | 14, true => 15
  | 14, false => 11
  | 15, true => 2
  | _, true => 0
  | _, false => 1

/-- What an instruction in force selects: an instruction of another kind acts as BYPASS (R570). -/
def tapSelect (ir : Nat) : Nat := if Config.jtagInstr ir ≤ 4 then Config.jtagInstr ir else 0

/-- Test-Logic-Reset. -/
def tapReset (t : Tap) : Tap := { t with state := 0, ir := Config.jtagResetCode, tdo := none }

/-- Capture-DR: IDCODE's value, the levels at the signal balls in Table 19.2's order, or one zero. -/
def tapCapture (t : Tap) (pins : List Bool) : List Bool :=
  match tapSelect t.ir with
  | 1 => (List.range 32).map (fun i => bit Config.jtagIdcode i)
  | 2 | 3 => pins
  | _ => [false]

/-- A rising edge: what the present state captures or shifts, then the next state. -/
def tapRise (t : Tap) (tms tdi : Bool) (pins : List Bool) : Tap :=
  let n := Config.jtagIrExtra + 2
  let t0 : Tap := if t.state = 0 then { t with ir := Config.jtagResetCode } else t
  let t1 := match t.state with
    | 3 => { t with dr := tapCapture t pins }
    | 4 => { t with dr := t.dr.drop 1 ++ [tdi] }
    | 10 => { t with irShift := 1 }
    | 11 => { t with irShift := t.irShift / 2 + (if tdi then 2 ^ (n - 1) else 0) }
    | _ => t0
  let st := tapNext t.state tms
  if st = 0 then { tapReset t1 with tdo := t1.tdo } else { t1 with state := st }

/-- A falling edge: TDO changes, and an update takes effect. -/
def tapFall (t : Tap) : Tap :=
  match t.state with
  | 4 => { t with tdo := t.dr.head? }
  | 11 => { t with tdo := some (bit t.irShift 0) }
  | 8 => { t with tdo := none, cells := if tapSelect t.ir = 2 ∨ tapSelect t.ir = 3 then t.dr else t.cells }
  | 15 => { t with tdo := none, ir := t.irShift }
  | _ => { t with tdo := none }

/-- The levels that EXTEST and CLAMP put on the balls, in place of the logic's. -/
def tapDrives (t : Tap) : Option (List Bool) :=
  if tapSelect t.ir = 3 ∨ tapSelect t.ir = 4 then some t.cells else none

/-- JTAG_TCK_EDGE: a rising or falling edge of TCK with TMS, TDI, TRST_N and the levels at the balls. -/
def jtagEdge (s : State) (rising tms tdi trstLow : Bool) (pins : List Bool) : State :=
  let t := s.brd.tap
  let t1 := if trstLow then tapReset t else if rising then tapRise t tms tdi pins else tapFall t
  if s.clk.powered then { s with brd := { s.brd with tap := t1 } } else s

end Sys2Proof.Machine
end

