-- ==== Sys2Proof/Machine/Registers.lean ====
section
/-! DEFINITION. The BAR0 register map as it reads (chapter 20 and the field tables of the owning chapters): one function per block,
from an 8-byte-aligned offset to the register's word, none where no register lies. -/

namespace Sys2Proof.Machine

/-- The index of an offset in an array of `n` registers at `base` with a stride. -/
def slotOf (off base stride n : Nat) : Option Nat :=
  if base ≤ off ∧ (off - base) % stride = 0 ∧ (off - base) / stride < n then some ((off - base) / stride) else none

/-- The first array that holds an offset: its base, stride and length, with its words. -/
def inArrays (off : Nat) (l : List (Nat × Nat × Nat × (Nat → Nat))) : Option Nat :=
  match l with
  | [] => none
  | (b, st, n, f) :: r => match slotOf off b st n with
    | some i => some (f i)
    | none => inArrays off r

/-- A single register. -/
def one (off : Nat) (v : Nat) : Nat × Nat × Nat × (Nat → Nat) := (off, 8, 1, fun _ => v)

/-! ### CLR, CKR, FLT -/

/-- Thickets in service. -/
def effectiveThickets (s : State) : Nat :=
  ((List.range 16).map (fun g => 4 - popCount ((groveAt s g).fusedOff ||| (groveAt s g).strapOff ||| (groveAt s g).lost) 4)).sum

/-- CLR.PART_ID. -/
def partIdWord (s : State) : Nat := 2 ^ 16 * s.clr.part + 2 ^ 8 * s.clr.speed + 1
/-- CLR.ACTIVE. -/
def activeWord (s : State) : Nat :=
  2 ^ 32 * b2n (decide (effectiveThickets s < s.clr.gradeThickets)) + 2 ^ 16 * effectiveThickets s + 2 ^ 8 * s.clr.gradeThickets + s.clr.fusedThickets
/-- CLR.CLOCK. -/
def clockWord (s : State) : Nat := 2 ^ 17 + 2 ^ 16 * s.clr.refPort + 2 ^ 8 * 8 + s.clr.speed
/-- CLR.ACCESS_ERR. -/
def accessErrWord (s : State) : Nat :=
  let e := s.clr.accessErr
  2 ^ 16 * e.offset + 2 ^ 11 * e.fn + 2 ^ 10 * e.port + 2 ^ 7 * e.reason + 2 * b2n e.overflow + b2n e.valid
/-- CLR.MODE. -/
def modeWord (s : State) : Nat :=
  2 ^ 24 * s.clr.step + 2 ^ 16 * b2n s.clr.hold + 2 ^ 10 * s.clr.fwSlot + 2 ^ 9 * b2n s.clr.fwRunning + 4 * s.clr.service + modeCode s.clr.mode
/-- CLR.SERVICE. -/
def serviceWord (s : State) : Nat := (List.range 13).foldl (fun w i => w + 2 ^ i * b2n (outOfService s i)) 0
/-- CLR.GROVE_STATE[g]. -/
def groveWord (s : State) (g : Nat) : Nat :=
  let x := groveAt s g
  2 ^ 20 * x.sparePos + 2 ^ 17 * b2n x.spareFailed + 2 ^ 16 * b2n x.spareUsed + 2 ^ 8 * x.lost + 2 ^ 4 * x.strapOff + x.fusedOff
/-- CLR.CTX_POOL[p]. -/
def ctxPoolWord (s : State) (p : Nat) : Nat :=
  let c := ctxPart s p
  let count (k : Nat) : Nat := (c.st.filter (fun x => decide (x.2 = k))).length
  2 ^ 30 * c.limit + 2 ^ 15 * count 1 + count 2

/-- The CLR block. -/
def clrWord (s : State) (off : Nat) : Option Nat :=
  inArrays off [one 0 (partIdWord s), one 8 (activeWord s), one 0x20 (clockWord s), one 0x30 (now s % 2 ^ 64), one 0x40 (accessErrWord s),
    one 0x50 (modeWord s), one 0x58 (serviceWord s), (0x100, 8, 16, groveWord s), (0x200, 8, 16, ctxPoolWord s)]

/-- CKR.FW. -/
def fwWord (s : State) : Nat :=
  2 ^ 56 * s.fuses.floor + 2 ^ 48 * s.ckr.secVersion + 2 ^ 40 * s.fuses.revoked + 2 ^ 32 * s.ckr.rejects
/-- CKR.IFST_CTRL; a value that the firmware wrote applies from the next period (R530). -/
def ifstCtrlWord (s : State) : Nat :=
  s.ckr.ifstWritten.getD (2 ^ 63 * b2n s.ckr.ifstEnable + 2 ^ 32 * (s.ckr.maxTiles - 1) + s.ckr.period)
/-- CKR.POWER. -/
def powerWord (s : State) : Nat := 2 ^ 32 * s.brd.otherW + s.brd.limitW
/-- CKR.THERMAL. -/
def thermalWord (s : State) : Nat := 2 ^ 16 * s.brd.critC + 2 ^ 8 * s.brd.thermC + s.brd.throttleC
/-- CKR.SENSE. -/
def senseWord (s : State) : Nat :=
  2 ^ 48 * (s.brd.tj % 2 ^ 16).toNat + 2 ^ 32 * s.brd.powerW + 2 ^ 12 * appliedLevel s + 2 ^ 8 * s.brd.powerLvl + 2 ^ 4 * s.brd.thermalLvl + b2n s.brd.brake
/-- CKR.CHECKER. -/
def checkerWord (s : State) : Nat :=
  2 ^ 63 * b2n s.chk.halted + 2 ^ 62 * b2n s.chk.lost + 2 ^ 61 * b2n s.chk.mismatch + 2 ^ 32 * s.chk.position + s.chk.tests

/-- The CKR block. -/
def ckrWord (s : State) (off : Nat) : Option Nat :=
  inArrays off [one 0 (resetCause s), one 8 (2 ^ 32 * s.ckr.interruptions + s.ckr.pllRetries), one 0x10 (fwWord s), one 0x18 0, one 0x20 s.ckr.bistUnits,
    one 0x28 s.ckr.bistClr, one 0x30 (s.ckr.straps + 2 ^ 8 * b2n (decide (bits s.ckr.straps 5 4 = 3))), one 0x38 s.ckr.bistThickets, one 0x40 s.ckr.bistGroves,
    (0x100, 8, 16, fun g => s.ckr.bistTiles.getD g 0), one 0x200 (ifstCtrlWord s),
    one 0x208 (2 ^ 32 * s.ckr.slices + 2 ^ 16 * s.ckr.skipped + s.ckr.failed), one 0x300 (powerWord s), one 0x308 (thermalWord s), one 0x310 (senseWord s),
    one 0x800 (checkerWord s)]

/-- FLT.STATUS. -/
def statusWord (s : State) : Nat := 2 ^ 9 * b2n s.flt.lostBit + 2 ^ 8 * b2n s.flt.bypass + s.flt.classes
/-- FLT.KIND[k]. -/
def kindWord (s : State) (k : Nat) : Nat :=
  let e := kindAt s k
  2 ^ 32 * e.count + 2 ^ 7 * b2n e.notifyPc + 2 ^ 6 * b2n e.notify + 2 ^ 5 * b2n e.log + e.cls
/-- FLT.PART_STATUS[p]. -/
def partStatusWord (s : State) (p : Nat) : Nat :=
  let x := s.flt.parts.getD p {}
  2 ^ 32 * x.produced + 2 ^ 16 * x.contain + x.quarantine
/-- The words of a record. -/
def recordWord (m : FaultMsg) (i : Nat) : Nat :=
  match i with
  | 0 => m.time
  | 1 => m.head
  | 2 => m.addr
  | _ => m.detail

/-- The FLT block. -/
def fltWord (s : State) (off : Nat) : Option Nat :=
  inArrays off [one 0 (statusWord s), one 8 (fltCause s), one 0x10 0, one 0x18 s.flt.exitResult, one 0x20 (2 ^ 32 * s.flt.produced + s.flt.acked),
    one 0x28 s.flt.lost, one 0x30 s.flt.faultLevel, (0x100, 8, 16, fun i => s.flt.summary.getD i 0), (0x200, 8, 16, partStatusWord s),
    (0x2000, 8, 1024, kindWord s), (0x8000, 8, 4096, fun i => recordWord (SMap.get {} s.flt.qrec (i / 4)) (i % 4)),
    (0x10000, 8, 4096, fun i => recordWord (SMap.get {} s.flt.pwin (i / 4)) (i % 4))]

/-! ### PRT, LDG -/

/-- Word `w` of a digest: its bytes 8w to 8w + 7. -/
def digestWord (d w : Nat) : Nat := leNat (((digestBytes d).drop (8 * w)).take 8)
/-- A hash of a key, zero without one. -/
def keyHashWord (k : List Byte) (w : Nat) : Nat := if k = [] then 0 else digestWord (sha384 k) w
/-- PRT.CUSTODY, with the seconds left of a REPLACE wait. -/
def custodyWord (s : State) : Nat :=
  2 ^ 62 * s.prt.custody + (match s.prt.replace with
    | some x => ceilDiv (x.2.2 - supNow s) (usToCc s 1000000)
    | none => 0) % 2 ^ 32
/-- The SUSPENDED virtual tiles of a partition. -/
def suspendedCount (s : State) (p : Nat) : Nat :=
  (s.place.filter (fun x => decide (x.1 / 1024 = p) && (match x.2 with
    | some y => y.suspended
    | none => false))).length
/-- The registers of PRT.PART[p]. -/
def prtPartWord (s : State) (i : Nat) : Nat :=
  let x := s.prt.parts.getD (i / 8) {}
  match i % 8 with
  | 0 => 2 ^ 62 * x.state + 2 ^ 52 * suspendedCount s (i / 8)
  | 1 => x.epoch
  | w => digestWord x.digest (w - 2)

/-- The PRT block. -/
def prtWord (s : State) (off : Nat) : Option Nat :=
  (inArrays off [one 0 (custodyWord s), one 8 s.prt.epoch, (0x10, 8, 4, fun k => match s.prt.stages[k]? with
      | some st => stageWord st
      | none => 0),
    one 0x30 (2 ^ 32 * s.prt.lastId + 2 ^ 24 * s.prt.lastStatus + 2 ^ 16 * s.prt.lastReason + s.prt.commits),
    (0x80, 8, 6, keyHashWord s.prt.fmk), (0xB0, 8, 6, keyHashWord s.prt.pck), (0x400, 8, 128, prtPartWord s)])
  <|> inArrays off ((List.range 16).map (fun p => (0x1000 + 0x200 * p, 8, 48, fun i => match partRec s p with
      | some r => recF r (8 * i) 8
      | none => 0)))

/-- The direct-write window: the binding and frame words of a position's slots, zero while it is closed (R457). -/
def directWord (s : State) (off : Nat) : Option Nat :=
  match slotOf off 0 8 0x800 with
  | some i =>
    let t := tileAt s (steer s (i / 8))
    let b := t.bindings.getD (i % 8 / 2) {}
    let f := t.vtFrame.getD (i % 8 / 2) {}
    some (if !(debugOpen s) then 0
      else if i % 2 = 0 then 2 ^ 63 * b2n b.valid + 2 ^ 59 * b.part + 2 ^ 49 * b.vtile + 2 ^ 37 * b.gen + 2 ^ 23 * b.ntBase + 2 ^ 9 * b.ntCountM1
      else 2 ^ 8 * f.size + f.base)
  | none => none

/-- The LDG block. -/
def ldgWord (s : State) (off : Nat) : Option Nat :=
  inArrays off [one 0 (ledgerStatusWord s), one 8 (b2n s.ldg.flush), one 0x10 s.ldg.cnt.poweredS, one 0x18 s.ldg.cnt.boots,
    one 0x20 (match calendarNow s with
      | some t => 2 ^ 63 + t % 2 ^ 40
      | none => 0),
    one 0x28 (2 ^ 16 * s.ldg.cnt.boots + s.ckr.interruptions % 2 ^ 16), (0x40, 8, 6, ledgerRingWord s), one 0x100 s.ldg.readAddr,
    one 0x108 (2 * b2n s.ldg.readPoison + b2n s.ldg.readValid), (0x140, 8, 8, fun w => payN s.ldg.readData (8 * w) 8)]

/-! ### LCK, SCH, TRL -/

/-- The waiters, or the watches, of the pool that a test picks. -/
def waitCount (s : State) (watch : Bool) (f : LockWait → Bool) : Nat := (s.lck.waits.filter (fun w => (w.watch == watch) && f w)).length

/-- LCK.CELL[n]. -/
def cellWord (s : State) (n : Nat) : Nat :=
  let c := cellAt s n
  2 ^ 62 * c.state + 2 ^ 60 * c.slot + 2 ^ 46 * c.owner + 2 ^ 45 * b2n (decide (0 < waitCount s true (fun w => decide (w.cell = n))))
  + 2 ^ 32 * waitCount s false (fun w => decide (w.cell = n)) + 2 ^ 16 * c.count + c.init
/-- LCK.GROUP[g]. -/
def groupWord (s : State) (g : Nat) : Nat :=
  let x := lockGroup s g
  2 ^ 63 * b2n x.valid + 2 ^ 59 * x.part + 2 ^ 58 * b2n x.mode + 2 ^ 57 * b2n x.orphan + 2 ^ 56 * b2n x.node + 2 ^ 55 * b2n x.host + 2 ^ 54 * b2n x.watch
/-- LCK.GROUP_USE[g]. -/
def groupUseWord (s : State) (g : Nat) : Nat :=
  let cells (k : Nat) : Nat := ((List.range 64).filter (fun i => decide ((cellAt s (64 * g + i)).state = k))).length
  2 ^ 57 * cells 1 + 2 ^ 50 * cells 2 + 2 ^ 37 * waitCount s false (fun w => decide (w.cell / 64 = g)) + 2 ^ 24 * waitCount s true (fun w => decide (w.cell / 64 = g))
/-- LCK.POOL. -/
def poolWord (s : State) : Nat := 2 ^ 38 * s.lck.hwm + 2 ^ 25 * waitCount s true (fun _ => true) + 2 ^ 12 * waitCount s false (fun _ => true)

/-- The LCK block. -/
def lckWord (s : State) (off : Nat) : Option Nat :=
  inArrays off [one 0 (2 ^ 32 * s.lck.ops + s.lck.grants), one 8 (poolWord s),
    one 0x10 (2 ^ 48 * s.lck.corrected + 2 ^ 32 * s.lck.uncorrected + b2n (sliceLeft s 0x304).isSome),
    (0x100, 8, 64, groupWord s), (0x300, 8, 64, groupUseWord s),
    (0x500, 8, 16, fun p => 2 ^ 51 * s.lck.quotas.getD p 0 + 2 ^ 38 * (s.lck.waits.filter (fun w => decide (w.rq.part = p))).length),
    (0x10000, 8, 4096, cellWord s)]

/-- Records that are not FREE and that a test picks. -/
def recCount (s : State) (f : Rec → Bool) : Nat := (s.sch.recs.filter (fun x => decide (x.2.state ≠ 0) && f x.2)).length
/-- A ready store's deferred records. -/
def deferredCount (s : State) (k : Nat) : Nat := ((s.sch.stores.getD k {}).chains.map List.length).sum
/-- SCH.CLASS[c]. -/
def classWord (s : State) (c : Nat) : Nat :=
  let x := s.sch.classes.getD c {}
  2 ^ 63 * b2n x.valid + 2 ^ 59 * x.part + 2 ^ 56 * x.floor + 2 ^ 54 * x.dispatch + 2 ^ 53 * b2n x.propagate + 2 ^ 50 * x.siftStand + 2 ^ 38 * x.trail
  + 2 ^ 37 * b2n x.trailValid + 2 ^ 26 * x.poolCount + 2 ^ 16 * x.poolFirst + x.maxInflight
/-- The 256 bits of an activation record (Table 8.1). -/
def activationBits (r : Rec) : Nat :=
  2 ^ 240 * (r.gen % 2 ^ 16) + 2 ^ 237 * (r.state % 8) + 2 ^ 233 * (r.part % 16) + 2 ^ 227 * (r.cls % 64) + 2 ^ 224 * (r.prio % 8)
  + 2 ^ 223 * (r.tmode % 2) + 2 ^ 213 * (r.vtile % 1024) + 2 ^ 211 * (r.ctxMode % 4) + 2 ^ 197 * (r.ctx % 2 ^ 14) + 2 ^ 181 * (r.iter % 2 ^ 16)
  + 2 ^ 180 * b2n r.trail.isSome + 2 ^ 168 * (r.trail.getD 0 % 4096) + 2 ^ 136 * (r.notify0 % 2 ^ 32) + 2 ^ 104 * (r.notify1 % 2 ^ 32)
  + 2 ^ 103 * b2n r.host + 2 ^ 93 * (r.ringset % 1024) + 2 ^ 92 * b2n r.sendHandle + 2 ^ 91 * b2n r.failedPred + 2 ^ 64 * (r.startNode % 2 ^ 16)
  + r.arg.toNat
/-- Where the supervisor pair's view of the 2 MiB record store lies among its addresses (R224; DESIGN CHOICE, log entry 123). -/
def recordView : Nat := 0x100000000
/-- The 64-bit word of the record store at a byte offset that is a multiple of 8: record `off / 32`, its low word first. -/
def recordStoreWord (s : State) (off : Nat) : Nat :=
  activationBits (recAt s (off / 32)) / 2 ^ (64 * (off / 8 % 4)) % 2 ^ 64
/-- TAKEs waiting for a stand's pull store, and on the clearing store alike: a TAKE waits at its own stand (R245). -/
def takesAt (s : State) (k : Nat) : Nat := (s.sch.takes.filter (fun t => decide (t.stand = k))).length

/-- The clearing scheduler's registers. PART_USE[p] and CLASS_USE[32 + p] share the offsets 0x400 to 0x47F in Table 8.9; they read
PART_USE, which R230 and R258 need (DESIGN CHOICE, log entry 23). -/
def schWord (s : State) (off : Nat) : Option Nat :=
  inArrays off [one 0 (2 ^ 32 * s.sch.admitted + s.sch.retired), one 8 (2 ^ 48 * s.sch.noSpace + 2 ^ 32 * s.sch.rights + 2 ^ 16 * s.sch.clamped + s.sch.field),
    one 0x10 (2 ^ 47 * deferredCount s 4 + 2 ^ 33 * ((s.sch.stores.getD 4 {}).ents.length) + 2 ^ 17 * s.sch.takes.length + recCount s (fun _ => true)),
    (0x100, 8, 64, classWord s),
    (0x300, 8, 32, fun c => 2 ^ 17 * recCount s (fun r => decide (r.cls = c)) + recCount s (fun r => decide (r.cls = c) && decide (r.state = 3))),
    (0x400, 8, 16, fun p => 2 ^ 47 * s.sch.quotas.getD p 0 + 2 ^ 30 * recCount s (fun r => decide (r.part = p))
      + 2 ^ 14 * (s.sch.takes.filter (fun t => decide (t.rq.part = p))).length)]

/-- A stand scheduler's registers. -/
def standSchWord (s : State) (k off : Nat) : Option Nat :=
  let x := s.sch.stores.getD k {}
  let times := x.ents.map (fun i => (recAt s i).readyAt)
  inArrays off [one 0 (2 ^ 47 * deferredCount s k + 2 ^ 33 * x.ents.length + 2 ^ 25 * takesAt s k), one 8 (2 ^ 32 * x.pushes + x.pulls),
    one 0x10 (times.foldl min (times.headD 0))]

/-- TRL.SP_CTRL of a destination. -/
def spCtrlWord (x : SpoorDest) : Nat :=
  2 ^ 48 * x.stallLimit + 2 ^ 4 * x.n + 8 * x.port + 4 * b2n x.stalling + b2n x.enable
/-- TRL.SP_FILTER of a destination. -/
def spFilterWord (x : SpoorDest) : Nat :=
  2 ^ 48 * x.evMask + 2 ^ 32 * x.partMask + 2 ^ 26 * x.clsLo + 2 ^ 20 * x.clsHi + 2 ^ 19 * b2n x.trailOnly
/-- The four registers of a destination. -/
def spWord (s : State) (i : Nat) : Nat :=
  let x := destAt s (i / 4)
  match i % 4 with
  | 0 => x.base
  | 1 => spCtrlWord x
  | 2 => spFilterWord x
  | _ => x.lost
/-- TRL.TRAIL_CFG[t] and TRL.TRAIL_STATE[t]. -/
def trailWord (s : State) (i : Nat) : Nat :=
  let x := trailAt s (i / 2)
  if i % 2 = 0 then 2 ^ 63 * b2n x.valid + 2 ^ 59 * x.part + 2 ^ 58 * b2n x.skip + 2 ^ 57 * b2n x.trace + 2 ^ 50 * x.outPer
  else 2 ^ 62 * (if x.held then 2 else if x.items = [] then 0 else 1) + 2 ^ 53 * x.items.length + 2 ^ 37 * x.nextSeq + 2 ^ 21 * x.relSeq
    + 2 ^ 6 * (x.items.map (fun i => i.toks.length)).sum

/-- The TRL block. -/
def trlWord (s : State) (off : Nat) : Option Nat :=
  let all := List.range 16
  inArrays off [one 0 (2 ^ 32 * s.trl.released + 2 ^ 16 * s.trl.holes + s.trl.full),
    one 8 (2 ^ 47 * (all.map (gateReserved s)).sum + 2 ^ 30 * (s.trl.trails.map (fun x => (x.2.items.map (fun i => i.toks.length)).sum)).sum),
    (0x100, 8, 16, fun p => 2 ^ 47 * s.trl.quotas.getD p 0 + 2 ^ 30 * gateReserved s p + 2 ^ 17 * min 8191 (gateItems s p)),
    (0x400, 8, 68, spWord s), (0x10000, 8, 8192, trailWord s)]

/-! ### SPR, SIF, STS, NOC, HIF -/

/-- SPR.REGION[p] and SPR.REGION_USE[p]. -/
def regionWord (s : State) (i : Nat) : Nat :=
  let r := regionAt s (i / 2)
  if i % 2 = 0 then 2 ^ 62 * r.state + 2 ^ 53 * r.n + r.base / 2 ^ 24 * 2 ^ 24 else 2 ^ 36 * r.live + 2 ^ 8 * r.stale
/-- SPR.AGENT_STAT[b] and SPR.AGENT_MISS[b]. -/
def agentWord (s : State) (i : Nat) : Nat :=
  let a := s.spr.agents.getD (i / 2) {}
  if i % 2 = 0 then 2 ^ 32 * a.spilled + a.fetched else 2 ^ 32 * a.misses + a.reclaimed
/-- The SPR device registers. -/
def sprWord (s : State) (off : Nat) : Option Nat := inArrays off [(0, 8, 32, regionWord s), (0x100, 8, 4, agentWord s)]
/-- SPR.MON_CTRL. -/
def monCtrlWord (m : Monitor) : Nat :=
  2 ^ 48 * m.storeThresh + 2 ^ 32 * m.fireThresh + 2 ^ 26 * m.batchM1 + 2 ^ 16 * m.refireMark + m.retry
/-- A monitor's registers. -/
def monWord (s : State) (k off : Nat) : Option Nat :=
  let m := s.spr.monitors.getD k {}
  inArrays off [one 0 (monCtrlWord m), one 8 (2 ^ 32 * m.episodes + 2 ^ 16 * m.unfires + m.refused)]
/-- A sifter's registers. -/
def sifWord (s : State) (k off : Nat) : Option Nat :=
  let x := sifAt s k
  let l := x.queue ++ x.jobs
  inArrays off [one 0 (2 ^ 32 * x.done + x.faulted),
    one 8 (2 ^ 16 * l.length + (List.range 16).foldl (fun w p => w + 2 ^ p * b2n (l.any (fun j => decide (j.rq.part = p)))) 0),
    one 0x10 (2 ^ 48 * x.corrected + 2 ^ 32 * x.uncorrected)]
/-- A stand buffer's registers. -/
def stsWord (s : State) (k off : Nat) : Option Nat :=
  let x := stsAt s k
  inArrays off [one 0 (2 ^ 32 * x.readLines + x.writeLines), one 8 (2 ^ 48 * x.corrected + 2 ^ 32 * x.uncorrected + x.lastLine),
    one 0x10 ((List.range 16).foldl (fun w j => w + 2 ^ (4 * j) * x.owner.getD j 0) 0),
    one 0x18 ((List.range 16).foldl (fun w j => w + 2 ^ j * b2n (x.valid.getD j false)) 0)]

/-- NOC.CAP_CTRL. -/
def capCtrlWord (s : State) : Nat :=
  let c := s.noc
  2 ^ 63 * b2n c.capEnable + 2 ^ 62 * b2n c.capMode + 2 ^ 61 * b2n c.trigEn + 2 ^ 57 * c.trigProbe + 2 ^ 45 * c.post
/-- The registers of probe k. -/
def probeWord (s : State) (i : Nat) : Nat :=
  let k := s.noc.probes.getD (i / 4) {}
  match i % 4 with
  | 0 => 2 ^ 63 * b2n k.enable + 2 ^ 61 * k.capture + 2 ^ 60 * k.dir + 2 ^ 54 * k.port + 2 ^ 42 * k.router
  | 1 => 2 ^ 60 * k.classMask + 2 ^ 44 * k.partMask + 2 ^ 38 * k.opValue + 2 ^ 32 * k.opMask
  | 2 => 2 ^ 50 * k.srcValue + 2 ^ 36 * k.srcMask + 2 ^ 24 * k.destValue + 2 ^ 12 * k.destMask
  | _ => k.count
/-- NOC.LINK and NOC.LINK_FLITS of a router's port. -/
def linkWord (l : Link) (down : Bool) (i : Nat) : Nat :=
  if i = 0 then
    2 ^ 62 * (if down then 2 else if l.rx.naked || !l.rx.resend.isEmpty || l.tx.naked || !l.tx.resend.isEmpty then 1 else 0)
    + 2 ^ 32 * l.replays + 2 ^ 16 * l.crcErrors + l.dups
  else l.flits
/-- The link registers, for the ports that Table 11.13 gives a router. -/
def linksWord (s : State) (off : Nat) : Option Nat :=
  match slotOf off 0x10000 8 0x10100 with
  | some i =>
    let u := 0x200 + i / 256
    let n := i % 256 / 2
    if (routerPorts u).contains n then some (linkWord (linkAt s u n) (linkCut s u n) (i % 2)) else none
  | none => none
/-- A word of a capture record. -/
def captureWord (s : State) (i : Nat) : Nat :=
  let r := SMap.get {} s.noc.capMem (i / 4)
  match i % 4 with
  | 0 => r.time
  | 1 => r.header
  | 2 => r.payload0
  | _ => r.info
/-- The NOC block. -/
def nocWord (s : State) (off : Nat) : Option Nat :=
  let c := s.noc
  match inArrays off [one 0 (2 ^ 32 * c.discarded + c.dupRsp), one 8 (2 ^ 16 * c.repeats + c.timeout),
    one 0x10 (2 ^ 48 * c.bufCorrected + 2 ^ 32 * c.bufUncorrected + 2 ^ 16 * c.dropped + c.e2eTimeouts), (0x100, 8, 64, probeWord s),
    one 0x400 (capCtrlWord s),
    one 0x408 (2 ^ 63 * b2n c.capStopped + 2 ^ 62 * b2n c.capTriggered + 2 ^ 61 * b2n c.capWrapped + 2 ^ 49 * c.capPtr + c.capLost),
    (0xC0000, 8, 16384, captureWord s)] with
  | some w => some w
  | none => linksWord s off

/-- HIF.LINK[h]; half 1 reads zero unless the port is bifurcated. -/
def hifLinkWord (s : State) (b h : Nat) : Nat :=
  let l := linkHalf s b h
  let x := hifAt s b
  if h = 1 ∧ x.bifurcated = false then 0
  else 2 ^ 63 * b2n l.up + 2 ^ 62 * b2n l.cxl + 2 ^ 61 * b2n l.flit + 2 ^ 60 * b2n (decide (x.streams.getD (5 * h) 0 = 1)) + 2 ^ 56 * l.speed
    + 2 ^ 51 * l.width + 2 ^ 50 * b2n (bit s.ckr.straps 6) + 2 ^ 16 * l.downEvents + l.linkErrors
/-- HIF.FUNC[f]. -/
def funcWord (s : State) (b f : Nat) : Nat :=
  let x := fnAt s b f
  2 ^ 63 * b2n (fnActive s b f) + (match x.part with
    | some p => 2 ^ 62 + 2 ^ 58 * p + 2 ^ 13 * x.pasid
    | none => 0) + 2 ^ 46 * x.vecs + 2 ^ 35 * x.vecBase + 2 ^ 34 * b2n x.atsEn + 2 ^ 33 * b2n x.pasidEn
/-- HIF.RS_STATE[r] and HIF.RS_STAT[r]. -/
def rsWord (s : State) (b i : Nat) : Nat :=
  let r := ringAt s (i / 2)
  if !(r.alloc && decide (r.port = b)) then 0
  else if i % 2 = 0 then 2 ^ 62 * r.state + 2 ^ 61 + 2 ^ 57 * r.part + 2 ^ 52 * r.fn + 2 ^ 46 * r.loc + r.nextSeq
  else 2 ^ 48 * r.dups + 2 ^ 32 * r.dbStale + 2 ^ 16 * r.dbInvalid + r.longs.length
/-- The HIF block of bridge b. -/
def hifWord (s : State) (b off : Nat) : Option Nat :=
  let x := hifAt s b
  inArrays off [(0, 8, 2, hifLinkWord s b), one 0x10 (2 ^ 63 * b2n x.bifurcated + x.monWrites), (0x100, 8, 17, funcWord s b),
    one 0x200 (2 ^ 32 * x.hits + 2 ^ 16 * x.misses + x.invals),
    one 0x208 (2 ^ 48 * x.cplErrors + 2 ^ 32 * x.xlateFaults + 2 ^ 16 * x.ideFailures + x.discardedCpl), (0x10000, 8, 2048, rsWord s b)]

/-! ### TIL -/

/-- TIL.TOKEN_OCC. -/
def tokenOccWord (t : Tile) : Nat :=
  2 ^ 49 * t.store.length + 2 ^ 34 * stickyCount t + 2 ^ 27 * t.ovf.length + 2 ^ 15 * t.iq.length + 2 ^ 4 * t.fq.length
/-- TIL.TOKEN_HWM. -/
def tokenHwmWord (t : Tile) : Nat :=
  2 ^ 49 * t.hwmStore + 2 ^ 34 * t.hwmSticky + 2 ^ 27 * t.hwmOvf + 2 ^ 15 * t.hwmIq + 2 ^ 4 * t.hwmFq
/-- TIL.NODE_STAT. -/
def nodeStatWord (t : Tile) : Nat :=
  let th := t.thread
  2 ^ 61 * (if t.excluded || t.testing then 4 else if t.kern.running then 3 else if th.block.isSome then 2 else if th.running then 1 else 0)
  + 2 ^ 60 * b2n th.trapBank + 2 ^ 58 * th.slot + 2 ^ 41 * (th.pc % 2 ^ 17) + 2 ^ 32 * min 511 th.depth + th.abandoned
/-- The BINDING and VT_FRAME registers. -/
def bindWord (t : Tile) (i : Nat) : Nat :=
  let b := t.bindings.getD (i / 2) {}
  let f := t.vtFrame.getD (i / 2) {}
  if i % 2 = 0 then 2 ^ 63 * b2n b.valid + 2 ^ 59 * b.part + 2 ^ 49 * b.vtile + 2 ^ 37 * b.gen + 2 ^ 23 * b.ntBase + 2 ^ 9 * b.ntCountM1
  else 2 ^ 8 * f.size + f.base
/-- The CODE and STACK registers. -/
def codeWord (t : Tile) (i : Nat) : Nat :=
  let c := t.code.getD (i / 2) {}
  let k := t.stackReg.getD (i / 2) {}
  if i % 2 = 0 then 2 ^ 63 * b2n c.trapValid + 2 ^ 48 * c.trapEntry + 2 ^ 16 * c.sizeM1 + c.base else 2 ^ 32 * k.top + k.limit
/-- TIL.SPILL. -/
def spillWord (t : Tile) : Nat :=
  let pend (m : SMap MEntry) : Nat := (m.filter (fun e => e.2.pending)).length
  2 ^ 32 * t.spl.spilled + 2 ^ 17 * t.spl.filter.length + 2 ^ 10 * (pend t.store + pend t.ovf) + 2 ^ 3 * t.spl.refire.length
/-- The TIL window of tile u. -/
def tilWord (s : State) (u off : Nat) : Option Nat :=
  let t := tileAt s u
  inArrays off [(0x100, 8, 8, bindWord t), one 0x200 (tokenOccWord t), one 0x208 (tokenHwmWord t), one 0x210 (2 ^ 32 * t.fired + t.arrived),
    one 0x218 (2 ^ 32 * t.pHits + 2 ^ 8 * t.pMisses + t.pInval), (0x300, 8, 8, codeWord t), one 0x340 (nodeStatWord t), one 0x348 t.event,
    one 0x400 (2 ^ 16 * t.waitLimit + b2n t.lsDebug), one 0x408 (2 ^ 32 * t.kernels + t.exits), one 0x410 (2 ^ 32 * t.stallBank + t.stallExt),
    one 0x418 (2 ^ 32 * ((t.waitXq + xqHeld s t) % 2 ^ 32) + (t.waitWaitc + waitcHeld s t) % 2 ^ 32),
    one 0x420 (2 ^ 17 * t.kern.loops.length + (if t.kern.running && t.kern.exit.isNone then t.kern.pc else t.kern.lastPc) % 2 ^ 17),
    (0x440, 8, 8, fun c => t.xcnt.getD c 0), one 0x500 (2 ^ 32 * t.jobs + t.xfersDone),
    (0x600, 8, 2, fun n => match t.actSlot.getD n none with
      | some a => 2 ^ 63 + 2 ^ 32 * a.bslot + a.handle
      | none => 0),
    one 0x700 (spillWord t), one 0x708 (2 ^ 60 * (fetchesOut s u).length + t.spl.misses)]

/-! ### The map (Table 20.1) -/

/-- The tile of a TIL window. -/
def tilWindow (off : Nat) : Option Nat :=
  if 0x01000000 ≤ off ∧ off < 0x02000000 then some ((off - 0x01000000) / 0x10000)
  else if 0x02000000 ≤ off ∧ off < 0x02100000 then some (0x100 + (off - 0x02000000) / 0x10000)
  else none

/-- Whether a TIL window answers nothing: its thicket is removed, or a spare replaces its position (R35, R584). -/
def tilRemoved (s : State) (u : Nat) : Bool :=
  decide (u < 0x100) && (thicketOff (groveAt s (u / 16)) (u % 16 / 4) || decide (steer s u ≠ u))

/-- The word of the register at an 8-byte-aligned BAR0 offset. -/
def bar0Word (s : State) (off : Nat) : Option Nat :=
  if off < 0x10000 then clrWord s off
  else if off < 0x20000 then ckrWord s (off - 0x10000)
  else if off < 0x40000 then fltWord s (off - 0x20000)
  else if off < 0x50000 then prtWord s (off - 0x40000)
  else if off < 0x60000 then ldgWord s (off - 0x50000)
  else if off < 0x80000 then lckWord s (off - 0x60000)
  else if off < 0x90000 then schWord s (off - 0x80000)
  else if off < 0xD0000 then standSchWord s (off / 0x10000 - 9) (off % 0x10000)
  else if 0x100000 ≤ off ∧ off < 0x140000 then trlWord s (off - 0x100000)
  else if 0x140000 ≤ off ∧ off < 0x150000 then sprWord s (off - 0x140000)
  else if 0x150000 ≤ off ∧ off < 0x190000 then (if off < 0x180000 then monWord s (off / 0x10000 - 0x15) (off % 0x10000) else sifWord s 0 (off % 0x10000))
  else if 0x190000 ≤ off ∧ off < 0x1C0000 then sifWord s (off / 0x10000 - 0x18) (off % 0x10000)
  else if 0x1C0000 ≤ off ∧ off < 0x200000 then stsWord s (off / 0x10000 - 0x1C) (off % 0x10000)
  else if 0x200000 ≤ off ∧ off < 0x300000 then nocWord s (off - 0x200000)
  else if 0x300000 ≤ off ∧ off < 0x400000 then hifWord s ((off - 0x300000) / 0x80000) ((off - 0x300000) % 0x80000)
  else if 0x03000000 ≤ off ∧ off < 0x03100000 then directWord s (off - 0x03000000)
  else match tilWindow off with
  | some u => tilWord s u (off % 0x10000)
  | none => none

end Sys2Proof.Machine
end

