-- ==== Sys2Proof/Machine/Access.lean ====
section
/-! DEFINITION. BAR0 accesses (R15, R31, R34 to R36, R382, R383, R582, R584): which access is logged and with which reason,
the registers that a write changes, and the reads that change something. -/

namespace Sys2Proof.Machine

/-- Whether an accessor can make accesses: its link is up and its function present; the firmware runs. -/
def accessorPresent (s : State) (a : Accessor) : Bool :=
  match a with
  | .fn b f => fnPresent s b f && ideOpen s b 0
  | .monitor b => clocked s && decide (b < 2) && (hifAt s b).bifurcated && (linkHalf s b 1).up && ideOpen s b 1
  | .supervisor => fwRuns s
  | .platform => fwRuns s

/-- What a VF may read (Table 13.5), at an 8-byte-aligned offset. -/
def vfReads (s : State) (b f off : Nat) : Bool :=
  let mem (l : List Nat) : Bool := l.contains off
  let part := (fnAt s b f).part
  let own (g : Nat → Bool) : Bool := match part with
    | some p => g p
    | none => false
  mem [0, 8, 0x20, 0x30, 0x50, 0x58] || (slotOf off 0x100 8 16).isSome
  || decide (off = 0x300000 + 0x80000 * b + 0x100 + 8 * f)
  || own (fun p =>
    mem [0x200 + 8 * p, 0x20200 + 8 * p, 0x80400 + 8 * p, 0x100100 + 8 * p, 0x140000 + 16 * p, 0x140008 + 16 * p, 0x60500 + 8 * p]
    || decide (0x30000 + 0x800 * p ≤ off ∧ off < 0x30000 + 0x800 * (p + 1))
    || decide (0x40400 + 0x40 * p ≤ off ∧ off < 0x40400 + 0x40 * (p + 1))
    || decide (0x100400 + 0x20 * (1 + p) ≤ off ∧ off < 0x100400 + 0x20 * (2 + p))
    || (match slotOf off 0x80100 8 64 with
      | some c => (s.sch.classes.getD c {}).valid && decide ((s.sch.classes.getD c {}).part = p)
      | none => false)
    || (match slotOf off 0x80300 8 32 with
      | some c => (s.sch.classes.getD c {}).valid && decide ((s.sch.classes.getD c {}).part = p)
      | none => false)
    || (match slotOf off 0x110000 8 8192 with
      | some i => (trailAt s (i / 2)).valid && decide ((trailAt s (i / 2)).part = p)
      | none => false)
    || (match slotOf off 0x60100 8 64 with
      | some g => (lockGroup s g).valid && decide ((lockGroup s g).part = p)
      | none => false)
    || (match slotOf off 0x60300 8 64 with
      | some g => (lockGroup s g).valid && decide ((lockGroup s g).part = p)
      | none => false)
    || (match slotOf off 0x70000 8 4096 with
      | some n => (lockGroup s (n / 64)).valid && decide ((lockGroup s (n / 64)).part = p)
      | none => false)
    || (match tilWindow off with
      | some u => (tileAt s u).bindings.any (fun x => x.valid && decide (x.part = p))
      | none => false))

/-- The reason with which an access is logged, none for an access that reaches a register (Table 1.12): 1 its size or
alignment, 3 a VF's write or a read outside its view, 2 outside the fault window in Safe, 4 a removed tile window, 0 no
register there. -/
def accessFault (s : State) (a : Accessor) (off size : Nat) (wr : Bool) : Option Nat :=
  let o8 := off / 8 * 8
  let vfBad : Bool := match a with
    | .fn b f => decide (f ≠ 0) && (wr || !(vfReads s b f o8))
    | _ => false
  if !((decide (size = 4) || decide (size = 8)) && decide (off % size = 0)) then some 1
  else if vfBad then some 3
  else if inSafe s && decide (0x40000 ≤ off) then some 2
  else if (match tilWindow off with
    | some u => tilRemoved s u
    | none => false) then some 4
  else if (bar0Word s o8).isNone then some 0
  else none

/-- The port and function of a log entry; the monitor function appears as function 0 (R383). -/
def accessPort (a : Accessor) : Nat × Nat :=
  match a with
  | .fn b f => (b, f)
  | .monitor b => (b, 0)
  | _ => (0, 0)

/-- The function that a read's data returns to; 31 names the monitor function of a port, and port 2 the supervisor pair. -/
def accessFn (a : Accessor) : Nat × Nat :=
  match a with
  | .monitor b => (b, 31)
  | .supervisor => (2, 0)
  | _ => accessPort a

/-- A refused or stray access is logged (R15, R35). -/
def logBy (s : State) (a : Accessor) (off reason : Nat) : State := logAccess s (accessPort a).1 (accessPort a).2 off reason

/-- The words that a write brings to a register: for a field that is written whole the other half keeps its value, and for a
write-1 field it is zero. -/
def written (old off size v : Nat) : Nat × Nat :=
  if size = 8 then (v % 2 ^ 64, v % 2 ^ 64)
  else if off % 8 = 0 then (old / 2 ^ 32 * 2 ^ 32 + v % 2 ^ 32, v % 2 ^ 32)
  else (v % 2 ^ 32 * 2 ^ 32 + old % 2 ^ 32, v % 2 ^ 32 * 2 ^ 32)

/-- CKR.POWER written, none where a field is out of its range (R578). -/
def powerSet (s : State) (v : Nat) : Option State :=
  let o := bits v 47 32
  let l := bits v 9 0
  if decide (o ≤ 200) && decide (350 ≤ l) && decide (l ≤ 750) then some { s with brd := { s.brd with otherW := o, limitW := l } } else none

/-- CKR.THERMAL written, none where a field is out of its range or a threshold not below CRIT_C (R578). -/
def thermalSet (s : State) (v : Nat) : Option State :=
  let c := bits v 23 16
  let t := bits v 15 8
  let h := bits v 7 0
  if decide (106 ≤ c) && decide (c ≤ 112) && decide (85 ≤ t) && decide (t ≤ 112) && decide (85 ≤ h) && decide (h ≤ 105) && decide (t < c) && decide (h < c) then
    some { s with brd := { s.brd with critC := c, thermC := t, throttleC := h } }
  else none

/-- CKR.IFST_CTRL written by the firmware: it applies from the next period (R530). -/
def ifstSet (s : State) (v : Nat) : Option State :=
  if bits v 15 0 = 0 then none
  else some { s with ckr := { s.ckr with ifstWritten := some (2 ^ 63 * bits v 63 63 + 2 ^ 32 * bits v 35 32 + bits v 15 0) } }

/-- SPR.MON_CTRL written (R316). -/
def monCtrlSet (s : State) (k v : Nat) : Option State :=
  let m : Monitor := s.spr.monitors.getD k {}
  if decide (16 ≤ bits v 63 48) && decide (256 ≤ bits v 47 32) && decide (1 ≤ bits v 15 0) then
    let m1 : Monitor := { m with storeThresh := bits v 63 48, fireThresh := bits v 47 32, batchM1 := bits v 31 26, refireMark := bits v 25 16, retry := bits v 15 0 }
    some { s with spr := { s.spr with monitors := s.spr.monitors.set k m1 } }
  else none

/-- NOC.E2E_CTRL written (Table 11.16). -/
def e2eSet (s : State) (v : Nat) : Option State :=
  if decide (bits v 19 16 ≤ 7) && decide (bits v 15 0 ≠ 0) then
    some { s with noc := { s.noc with repeats := bits v 19 16, timeout := bits v 15 0 } }
  else none

/-- Registers of destination 0 written (R288, Table 9.6): 0 SP_BASE, 1 SP_CTRL, 2 SP_FILTER; the reserved bits are ignored. -/
def spoorSet (s : State) (i v : Nat) : Option State :=
  let x := destAt s 0
  match i with
  | 0 => if x.enable || decide (bits v 43 0 % 4096 ≠ 0) then none else some (setDest s 0 { x with base := bits v 43 0 })
  | 1 =>
    let w := 2 ^ 48 * bits v 63 48 + bits v 8 2 * 4 + bits v 0 0
    if spCtrlOk x w then some (spCtrlSet s 0 w) else none
  | 2 =>
    let y : SpoorDest := { x with evMask := bits v 63 48, partMask := bits v 47 32, clsLo := bits v 31 26, clsHi := bits v 25 20, trailOnly := bit v 19 }
    some (setDest s 0 y)
  | _ => some s

/-- A probe register written (R349). -/
def probeSet (s : State) (k i v : Nat) : Option State :=
  let put (r : ProbeReg) : Option State := if probeOk (s.noc.probes.getD k {}) r v then some (probeWrite s k r v) else none
  match i with
  | 0 => put .sel
  | 1 => put .matchReg
  | 2 => put .id
  | _ => some s

/-- A write of FLT's registers (Table 16.8, R490): `v` for the fields written whole and `w` for the bits written as 1. -/
def fltSet (s : State) (off v w : Nat) : Option State :=
  let f := s.flt
  if off = 0 then
    some { s with flt := { f with classes := f.classes &&& (31 - bits w 4 0), bypass := f.bypass && !(bit w 8), lostBit := f.lostBit && !(bit w 9) } }
  else if off = 0x10 then some (if v % 2 ^ 32 = 0x5AFE then safeExit s else s)
  else if off = 0x30 then (if bits v 2 0 ≤ 4 then some { s with flt := { f with faultLevel := bits v 2 0 } } else none)
  else match slotOf off 0x100 8 16 with
  | some i => some { s with flt := { f with summary := f.summary.set i (f.summary.getD i 0 &&& (2 ^ 64 - 1 - w)) } }
  | none => some s

/-- CLR.ACCESS_ERR cleared by bits written as 1; clearing VALID clears the record (Table 1.12). -/
def accessErrSet (s : State) (w : Nat) : State :=
  let e := s.clr.accessErr
  let e1 : AccessErr := { e with overflow := e.overflow && !(bit w 1) }
  let e2 : AccessErr := if bit w 0 then { overflow := e1.overflow } else e1
  { s with clr := { s.clr with accessErr := e2 } }

/-- What an accepted access of the PF writes at an 8-byte-aligned offset; none is a refusal under R15. A register whose access
is RO ignores the write (R583). -/
def pfWrite (s : State) (port off v w : Nat) : Option State :=
  if off = 0x40 then some (accessErrSet s w)
  else if off = 0x50 then some (holdWrite s 2 (bit v 16))
  else if off = 0x10018 then some (supResetWrite s port (v % 2 ^ 32))
  else if off = 0x10300 then powerSet s v
  else if off = 0x10308 then thermalSet s v
  else if 0x20000 ≤ off ∧ off < 0x40000 then fltSet (meetFltErr s) (off - 0x20000) v w
  else if off = 0x50008 then some (if bit w 0 then ledgerFlush s 2 else s)
  else if off = 0x50100 then some (readAddrWrite s v)
  else if off = 0x200008 then e2eSet s v
  else if off = 0x200400 then some (capCtrlWrite s v)
  else match slotOf off 0x100400 8 4 with
  | some i => spoorSet s i v
  | none => match slotOf off 0x150000 0x10000 3 with
    | some k => monCtrlSet s k v
    | none => match slotOf off 0x200100 8 64 with
      | some i => probeSet s (i / 4) (i % 4) v
      | none => match slotOf off 0x03000000 8 0x800 with
        | some i => some (directWrite s port (i / 8) (i % 8 / 2) (decide (i % 2 = 1)) v)
        | none => some s

/-- A destination register 1 to 16 of the trace hub, which a BAR0 write never changes and is logged at (R288). -/
def spoorOther (off : Nat) : Bool := decide (0x100420 ≤ off ∧ off < 0x100400 + 0x20 * 17)

/-- What a write of the supervisor pair changes, none where it is refused under R15: CKR.IFST_CTRL (R530), a lock group's
configuration and a cell's INIT (R351), and the registers that
a BAR0 write changes (Table 1.14), the open direct-write window (R457) among them, but for those whose rule names other writers
(HOLD, SUP_RESET). -/
def supWrite (s : State) (o8 v w : Nat) : Option State :=
  if o8 = 0x10200 then ifstSet s v
  else if 0x60100 ≤ o8 ∧ o8 < 0x60300 then groupSet s ((o8 - 0x60100) / 8) v
  else if 0x70000 ≤ o8 ∧ o8 < 0x78000 then initSet s ((o8 - 0x70000) / 8) v
  else if o8 = 0x50 ∨ o8 = 0x10018 then some s
  else match slotOf o8 0x03000000 8 0x800 with
  | some i => if debugOpen s then directSet s (i / 8) (i % 8 / 2) (decide (i % 2 = 1)) v else none
  | none => pfWrite s 0 o8 v w

/-- A BAR0 write (R34 to R36, R382, R383), or a write of the firmware or of the platform controller where a rule gives it
one. The firmware learns from the status of its write whether it was refused (R15). -/
def bar0Write (s : State) (a : Accessor) (off size v : Nat) : State :=
  let o8 := off / 8 * 8
  let x := written ((bar0Word s o8).getD 0) off size v
  match a with
  | .fn b _ =>
    if !(accessorPresent s a) then s
    else (match accessFault s a off size true with
      | some r => logBy s a off r
      | none => if spoorOther o8 then logBy s a off 0
        else match pfWrite s b o8 x.1 x.2 with
        | some t => t
        | none => logBy s a off 5)
  | .monitor b =>
    if !(accessorPresent s a) then s else setHif s b { hifAt s b with monWrites := ((hifAt s b).monWrites + 1) % 2 ^ 32 }
  | .supervisor =>
    if !(fwRuns s && clocked s) then s
    else match supWrite s o8 x.1 x.2 with
    | some t => emit t (.fwStatus true)
    | none => emit s (.fwStatus false)
  | .platform =>
    if !(fwRuns s && clocked s) then s
    else match (if o8 = 0x10300 then powerSet s x.1 else if o8 = 0x10308 then thermalSet s x.1 else none) with
    | some t => answer t 1 [0, 0]
    | none => answer s 1 [0x11, 0]

/-- A register written as a whole or by a half. -/
def registerWrite (s : State) (a : Accessor) (reg : Nat) (x : RegPart) : State :=
  match x with
  | .whole v => bar0Write s a reg 8 v
  | .low v => bar0Write s a reg 4 v
  | .high v => bar0Write s a (reg + 4) 4 v

/-! ### Reads (R31, R35, R580) -/

/-- The key of a function's FOREST_TIME shadow. -/
def shadowKey (a : Accessor) : Nat := 32 * (accessFn a).1 + (accessFn a).2

/-- Data returns to the reader. -/
def readReturn (s : State) (a : Accessor) (v : Nat) : State := emit s (.readData (accessFn a).1 (accessFn a).2 v)

/-- What a read clears: the RC fields that lie in the bytes read (R580). -/
def readClear (s : State) (off size : Nat) : State :=
  let lo := decide (size = 8) || decide (off % 8 = 0)
  let hi := decide (size = 8) || decide (off % 8 = 4)
  let o8 := off / 8 * 8
  if o8 = 0x60008 then (if hi then { s with lck := { s.lck with hwm := 0 } } else s)
  else match tilWindow off with
  | some u => if o8 % 0x10000 ≠ 0x208 then s else
    modTile s u (fun t =>
      let t1 : Tile := if lo then { t with hwmOvf := 0, hwmIq := 0, hwmFq := 0 } else t
      if hi then { t1 with hwmStore := 0, hwmSticky := 0, hwmOvf := 0 } else t1)
  | none => s

/-- CLR.FOREST_TIME read by halves (R31). -/
def timeLow (s : State) (a : Accessor) : State :=
  let s1 : State := { s with clr := { s.clr with shadows := SMap.put none s.clr.shadows (shadowKey a) (some (now s / 2 ^ 32 % 2 ^ 32)) } }
  readReturn s1 a (now s % 2 ^ 32)

/-- The high half: the shadow, which empties, or the live value. -/
def timeHigh (s : State) (a : Accessor) : State :=
  match SMap.get none s.clr.shadows (shadowKey a) with
  | some v =>
    let s1 : State := { s with clr := { s.clr with shadows := SMap.put none s.clr.shadows (shadowKey a) none } }
    readReturn s1 a v
  | none => readReturn s a (now s / 2 ^ 32 % 2 ^ 32)

/-- A BAR0 read; the supervisor pair sees every block in every mode, and the record store beside them (Table 1.14). -/
def bar0Read (s : State) (a : Accessor) (off size : Nat) : State :=
  match a with
  | .supervisor =>
    if !(fwRuns s && clocked s) then s
    else
      let s1 := if 0x20000 ≤ off ∧ off < 0x40000 then meetFltErr s else s
      let o8 := off / 8 * 8
      let w := if recordView ≤ off ∧ off < recordView + 2 ^ 21 then recordStoreWord s (o8 - recordView) else (bar0Word s1 o8).getD 0
      readReturn (readClear s1 off size) a (if size = 8 then w else w / 2 ^ (8 * (off % 8)) % 2 ^ 32)
  | .platform => s
  | _ =>
    if !(accessorPresent s a) || (match a with
      | .monitor _ => decide (0x40000 ≤ off)
      | _ => false) then s
    else match accessFault s a off size false with
    | some r => readReturn (logBy s a off r) a 0
    | none =>
      if off = 0x30 ∧ size = 4 then timeLow s a
      else if off = 0x34 then timeHigh s a
      else
        let s1 := if 0x20000 ≤ off ∧ off < 0x40000 then meetFltErr s else s
        let w := (bar0Word s1 (off / 8 * 8)).getD 0
        readReturn (readClear s1 off size) a (if size = 8 then w else w / 2 ^ (8 * (off % 8)) % 2 ^ 32)

/-- An access of BAR0, a write with its value or a read. -/
def bar0Access (s : State) (a : Accessor) (off size : Nat) (value : Option Nat) : State :=
  match value with
  | some v => bar0Write s a off size v
  | none => bar0Read s a off size

end Sys2Proof.Machine
end

