-- ==== Sys2Proof/Machine/Loader.lean ====
section
/-! DEFINITION. The Kalbupol loader (chapter 5): the ZIF container and its checks, placement and folding, and the seven
services. A service's command repeated is the same call going on: it waits for the commit of the proposal it handed over, which the
commands of chapter 15 bring, and for its ring set; a load descriptor is sent, evaluated and completed in one step (log entry 126). -/

namespace Sys2Proof.Machine

/-! ### Results (Table 5.11) -/

/-- A service returns. -/
def klbReturn (s : State) (r : KRes) (values : List Nat) : State :=
  { s with klb := { s.klb with
      result := r.code
      detail := [r.sect, r.record, r.vt, r.unit, r.status]
      values := values } }

/-- The first failing check of a list, in order; each entry is whether it holds and its result otherwise. -/
def firstFail (l : List (Bool × KRes)) : Option KRes := (l.find? (fun x => !x.1)).map Prod.snd

/-! ### The container (Tables 5.3 to 5.9) -/

/-- `n` bytes of a file from an offset, as a number. -/
def zN (f : List Byte) (off n : Nat) : Nat := leNat ((f.drop off).take n)

/-- A section table entry (Table 5.4). -/
structure Sect where
  idx : Nat
  kind : Nat
  link : Nat
  fsize : Nat
  foff : Nat
  msize : Nat
  addr : Nat
  deriving DecidableEq, Repr

/-- Section `i` of a file. -/
def sectAt (f : List Byte) (i : Nat) : Sect :=
  let b := zN f 0x10 8 + 32 * i
  { idx := i, kind := zN f b 1, link := zN f (b + 2) 2, fsize := zN f (b + 4) 4, foff := zN f (b + 8) 8, msize := zN f (b + 16) 4, addr := zN f (b + 24) 8 }

/-- The sections of a file. -/
def sects (f : List Byte) : List Sect := (List.range (zN f 8 2)).map (sectAt f)
/-- The sections of a kind. -/
def sectsOf (f : List Byte) (k : Nat) : List Sect := (sects f).filter (fun x => decide (x.kind = k))
/-- A section's contents. -/
def sectBytes (f : List Byte) (x : Sect) : List Byte := (f.drop x.foff).take x.fsize

/-- Virtual thickets of the grid. -/
def zThickets (f : List Byte) : Nat := zN f 0x18 1 * zN f 0x19 1 * zN f 0x1A 1

/-- The header (R151). -/
def zifHeaderOk (f : List Byte) : Bool :=
  decide (64 ≤ f.length) && decide (zN f 0 4 = 0x3146495A) && decide (zN f 4 2 = 0x0100) && decide (zN f 6 2 = 64)
  && within 3 4096 (zN f 8 2) && decide (zN f 0xA 6 = 0) && decide (zN f 0x10 8 % 8 = 0) && decide (64 ≤ zN f 0x10 8)
  && decide (zN f 0x10 8 + 32 * zN f 8 2 ≤ f.length)
  && within 1 16 (zN f 0x18 1) && within 1 16 (zN f 0x19 1) && within 1 16 (zN f 0x1A 1) && decide (zThickets f ≤ 256)
  && decide (zN f 0x1B 1 < 8) && decide (zN f 0x1B 1 ≠ 0) && decide (zN f 0x1C 4 = 0) && decide (zN f 0x34 4 = 1) && decide (zN f 0x38 8 = 0)

/-- One section table entry (R152, R153). -/
def sectOk (f : List Byte) (x : Sect) : Bool :=
  let b := zN f 0x10 8 + 32 * x.idx
  let n := zN f 8 2
  let linkKind := (sectAt f x.link).kind
  decide (zN f (b + 1) 1 = 0) && decide (zN f (b + 0x14) 4 = 0) && decide (x.foff % 8 = 0) && decide (x.foff + x.fsize ≤ f.length)
  && (if x.kind = 4 ∨ x.kind = 5 then decide (x.link < n) && (decide (linkKind = 2) || decide (linkKind = 3)) else decide (x.link = 0))
  && (if x.kind = 3 then decide (x.addr % 64 = 0) else decide (x.addr = 0))
  && (match x.kind with
      | 1 => decide (x.fsize % 32 = 0) && decide (x.msize = 0)
      | 2 => decide (x.msize = x.fsize) && within 4 131072 x.fsize && decide (x.fsize % 4 = 0)
      | 3 => decide (x.fsize ≤ x.msize)
      | 4 => decide (x.fsize % 16 = 0) && decide (x.msize = 0)
      | 5 => decide (x.fsize % 16 = 0) && decide (x.msize = 0)
      | 6 => decide (x.fsize % 32 = 0) && decide (x.fsize ≤ 32 * 1024) && decide (x.msize = 0)
      | 7 => decide (x.fsize % 16 = 0) && decide (x.fsize ≤ 16 * 65536) && decide (x.msize = 0)
      | 8 => decide (x.fsize = 32) && decide (x.msize = 0)
      | 9 => decide (x.msize = 0)
      | 10 => decide (x.fsize = 48) && decide (x.msize = 0) && decide (x.idx + 1 = n) && decide (x.foff + 48 = f.length)
      | _ => false)

/-- Whether no two file ranges overlap. -/
def rangesApart (l : List (Nat × Nat)) : Bool :=
  match l with
  | [] => true
  | x :: r => r.all (fun y => decide (x.1 + x.2 ≤ y.1) || decide (y.1 + y.2 ≤ x.1) || decide (x.2 = 0) || decide (y.2 = 0)) && rangesApart r

/-- The counts of the kinds (Table 5.5). -/
def countsOk (f : List Byte) : Bool :=
  let c (k : Nat) : Nat := (sectsOf f k).length
  decide (c 1 = 1) && decide (1 ≤ c 2) && decide (c 6 ≤ 1) && decide (c 7 ≤ 1) && decide (c 8 ≤ 1) && decide (c 10 = 1)

/-! ### Virtual tiles (Table 5.6) -/

/-- A virtual-tile descriptor. -/
structure VtDesc where
  row : Nat
  vt : Nat
  code : Nat
  data : Nat
  nodes : Nat
  nt : Nat
  trap : Nat
  frame : Nat
  stackTop : Nat
  stack : Nat
  sticky : Nat
  waitc : Nat
  xmask : Nat
  flags : Nat
  deriving DecidableEq, Repr

/-- The bytes of the section of a kind that stands at most once. -/
def onlySect (f : List Byte) (k : Nat) : List Byte := match sectsOf f k with
  | x :: _ => sectBytes f x
  | [] => []

/-- Descriptor `i`. -/
def vtAt (b : List Byte) (i : Nat) : VtDesc :=
  let o := 32 * i
  { row := i, vt := zN b o 2, code := zN b (o + 2) 2, data := zN b (o + 4) 2, nodes := zN b (o + 6) 2, nt := zN b (o + 8) 4, trap := zN b (o + 12) 4
    frame := zN b (o + 16) 2, stackTop := zN b (o + 18) 2, stack := zN b (o + 20) 2, sticky := zN b (o + 22) 2, waitc := zN b (o + 24) 4
    xmask := zN b (o + 28) 1, flags := zN b (o + 29) 1 }

/-- The descriptors of an image. -/
def vtDescs (f : List Byte) : List VtDesc := let b := onlySect f 1; (List.range (b.length / 32)).map (vtAt b)

/-- The field rules of a descriptor. -/
def vtForm (f : List Byte) (v : VtDesc) : Bool :=
  decide (v.code < zN f 8 2) && decide ((sectAt f v.code).kind = 2)
  && (decide (v.data = 0xFFFF) || (decide (v.data < zN f 8 2) && decide ((sectAt f v.data).kind = 3)))
  && within 1 16384 v.nodes && within 1 256 v.frame && decide (v.sticky ≤ 4096) && within 1 0xFFFFFF v.waitc && decide (v.flags < 2)
  && decide (zN (onlySect f 1) (32 * v.row + 30) 2 = 0)

/-- Node table, trap entry, stack region and DATA section of a descriptor (R154, R155). -/
def vtLayout (f : List Byte) (v : VtDesc) : Bool :=
  let n := (sectAt f v.code).msize
  let d := sectAt f v.data
  let lo := 64 * (v.stackTop - v.stack)
  let hi := 64 * v.stackTop
  decide (v.nt % 8 = 0) && decide (v.nt + 8 * v.nodes ≤ n)
  && (decide (v.trap = 0xFFFFFFFF) || (decide (v.trap % 4 = 0) && decide (v.trap < n)))
  && decide (hi ≤ 4096 * v.frame) && decide (v.stack ≤ v.stackTop)
  && (decide (v.data = 0xFFFF) || (decide (d.addr + d.msize ≤ 4096 * v.frame)
      && (decide (d.addr + d.msize ≤ lo) || decide (hi ≤ d.addr) || decide (lo = hi) || decide (d.msize = 0))))

/-- The grid is covered exactly once (R154). -/
def gridOk (f : List Byte) : Bool :=
  let n := 4 * zThickets f
  let vs := (vtDescs f).map VtDesc.vt
  decide (vs.length = n) && vs.all (fun v => decide (v < n)) && (List.range n).all (fun v => vs.contains v)

/-! ### Relocations, patches, imports, tokens -/

/-- A relocation record (Table 5.7), with its section and the section it changes. -/
structure Reloc where
  sect : Nat
  row : Nat
  link : Nat
  off : Nat
  ty : Nat
  target : Nat
  addend : Nat
  spare : Nat
  deriving DecidableEq, Repr

/-- The relocation records of an image. -/
def relocs (f : List Byte) : List Reloc :=
  ((sectsOf f 4).map (fun x => let b := sectBytes f x; (List.range (b.length / 16)).map (fun i =>
    { sect := x.idx, row := i, link := x.link, off := zN b (16 * i) 4, ty := zN b (16 * i + 4) 1, target := zN b (16 * i + 6) 2, addend := zN b (16 * i + 8) 4,
      spare := zN b (16 * i + 5) 1 + zN b (16 * i + 12) 4 }))).flatten

/-- The bytes that a relocation writes. -/
def relocWidth (ty : Nat) : Nat :=
  match ty with
  | 1 => 2
  | 2 => 4
  | _ => 8

/-- A patch record (Table 5.8). -/
structure Patch where
  sect : Nat
  row : Nat
  link : Nat
  off : Nat
  width : Nat
  source : Nat
  index : Nat
  addend : Nat
  deriving DecidableEq, Repr

/-- The patch records of an image. -/
def patches (f : List Byte) : List Patch :=
  ((sectsOf f 5).map (fun x => let b := sectBytes f x; (List.range (b.length / 16)).map (fun i =>
    { sect := x.idx, row := i, link := x.link, off := zN b (16 * i) 4, width := zN b (16 * i + 4) 1, source := zN b (16 * i + 5) 1, index := zN b (16 * i + 6) 2,
      addend := zN b (16 * i + 8) 8 }))).flatten

/-- The bytes that a patch writes. -/
def patchWidth (p : Patch) : Nat := 2 ^ (p.width % 4)

/-- An import: its name's 24 bytes and its kind (R161). -/
def imports (f : List Byte) : List (List Byte × Nat) :=
  let b := onlySect f 6
  (List.range (b.length / 32)).map (fun i => ((b.drop (32 * i)).take 24, zN b (32 * i + 24) 1))

/-- A character of a name. -/
def nameChar (c : Byte) : Bool :=
  let n := c.toNat
  within 65 90 n || within 97 122 n || within 48 57 n || decide (n = 95)

/-- A name: 1 to 24 characters, NUL padding after them. -/
def nameOk (b : List Byte) : Bool :=
  let body := b.takeWhile nameChar
  decide (body ≠ []) && (b.drop body.length).all (fun c => decide (c = 0))

/-- The load contexts and stand-buffer slices that an image requires (R162). -/
def reqContexts (f : List Byte) : Nat := zN (onlySect f 8) 0 1
/-- The slices. -/
def reqSlices (f : List Byte) : Nat := zN (onlySect f 8) 2 2

/-- The start tokens of an image, as value and tag. -/
def zifTokens (f : List Byte) : List (Nat × Nat) :=
  let b := onlySect f 7
  (List.range (b.length / 16)).map (fun i => (zN b (16 * i) 8, zN b (16 * i + 8) 8))

/-- A start token obeys R163. -/
def startOk (f : List Byte) (t : Nat × Nat) : Bool :=
  let tag := BitVec.ofNat 64 t.2
  decide (tagKind tag < 2) && decide (tagPart tag = 0) && decide (tagCtx tag < reqContexts f) && decide (tagVt tag < 4 * zThickets f)

/-- Section index of the first section of a kind. -/
def sectIdx (f : List Byte) (k : Nat) : Option Nat := (sectsOf f k).head?.map Sect.idx

/-- An import entry obeys R161: its name, its kind, its reserved bytes, and no earlier entry of its name. -/
def importOk (f : List Byte) (i : Nat) : Bool :=
  let ib := onlySect f 6
  let name := (ib.drop (32 * i)).take 24
  nameOk name && decide (zN ib (32 * i + 24) 1 ≤ 4) && decide (zN ib (32 * i + 25) 7 = 0)
  && (List.range i).all (fun j => (ib.drop (32 * j)).take 24 != name)

/-- The REQUIRE record obeys R162. -/
def requireOk (f : List Byte) : Bool :=
  let r := onlySect f 8
  decide (reqContexts f ≤ 16) && decide (reqSlices f ≤ 64) && decide (zN r 1 1 = 0) && decide (zN r 4 28 = 0)

/-- The first breach of R161 to R163, with its section and record. -/
def tablesFail (f : List Byte) : Option KRes :=
  match (List.range ((onlySect f 6).length / 32)).find? (fun i => !(importOk f i)) with
  | some i => some { code := 1, sect := sectIdx f 6, record := some i }
  | none =>
    if !(requireOk f) then some { code := 1, sect := sectIdx f 8, record := some 0 }
    else ((List.range (zifTokens f).length).find? (fun i => !(startOk f ((zifTokens f).getD i (0, 0))))).map
      (fun i => { code := 1, sect := sectIdx f 7, record := some i })

/-- The node tables of a CODE section, as offsets of their entries. -/
def nodeEntries (f : List Byte) (c : Nat) : List Nat :=
  (((vtDescs f).filter (fun v => decide (v.code = c))).map (fun v => (v.nt, v.nodes))).eraseDups.foldl
    (fun l x => l ++ ((List.range x.2).map (fun i => x.1 + 8 * i)).filter (fun a => !(l.contains a))) []

/-- A relocation's form: no reserved field or type (R14). -/
def relocForm (x : Reloc) : Bool := within 1 3 x.ty && decide (x.spare = 0)

/-- A relocation obeys R156 to R158. -/
def relocOk (f : List Byte) (x : Reloc) : Bool :=
  let w := relocWidth x.ty
  decide (x.target < zN f 8 2) && decide ((sectAt f x.target).kind = 2) && decide (x.addend < (sectAt f x.target).msize)
  && (decide (x.ty ≠ 1) || decide (x.addend % 4 = 0)) && decide (x.off + w ≤ (sectAt f x.link).msize)
  && (decide ((sectAt f x.link).kind ≠ 2) || (decide (x.target = x.link)
      && ((vtDescs f).filter (fun v => decide (v.code = x.link))).all (fun v => decide (x.off + w ≤ v.nt) || decide (v.nt + 8 * v.nodes ≤ x.off))))

/-- A patch's form: no reserved bit or source, and an index only where the source takes one. -/
def patchForm (x : Patch) : Bool :=
  decide (x.width % 128 < 4) && within 1 5 x.source && (decide (x.source ≤ 2) || decide (x.index = 0))

/-- A patch names something that exists, inside its section, and no SLOT of a CODE section (R159, R160). -/
def patchOk (f : List Byte) (x : Patch) : Bool :=
  decide (x.off + patchWidth x ≤ (sectAt f x.link).msize) && (decide (x.source ≠ 5) || decide ((sectAt f x.link).kind = 3))
  && (decide (x.source ≠ 1) || decide (x.index < (imports f).length)) && (decide (x.source ≠ 2) || decide (x.index < reqContexts f))

/-- The fields that relocations and patches write in a section. -/
def fieldsOf (f : List Byte) (i : Nat) : List (Nat × Nat) :=
  ((relocs f).filter (fun x => decide (x.link = i))).map (fun x => (x.off, relocWidth x.ty))
  ++ ((patches f).filter (fun x => decide (x.link = i))).map (fun x => (x.off, patchWidth x))

/-- The checks of klb_open, in the order of Table 5.12: the first that fails. A PATCH record whose OFFSET or INDEX names nothing gives
KLB_E_PATCH (DESIGN CHOICE, log entry 128). -/
def openCheck (f : List Byte) : Option KRes :=
  if !(zifHeaderOk f) then some { code := 1 }
  else match (sects f).find? (fun x => !(sectOk f x)) with
  | some x => some { code := 1, sect := some x.idx }
  | none =>
    if !(countsOk f) || !(rangesApart ((sects f).map (fun x => (x.foff, x.fsize)))) then some { code := 1 }
    else if leNat (onlySect f 10) ≠ leNat (digestBytes (sha384 (f.take (f.length - 48)))) then some { code := 2 }
    else if !(gridOk f) then some { code := 3 }
    else match (vtDescs f).find? (fun v => !(vtForm f v)) with
    | some v => some { code := 1, record := some v.row, vt := some v.vt }
    | none =>
      match (vtDescs f).find? (fun v => !(vtLayout f v)) with
      | some v => some { code := 9, record := some v.row, vt := some v.vt }
      | none =>
        match tablesFail f with
        | some r => some r
        | none => match (relocs f).find? (fun x => !(relocForm x && relocOk f x)) with
        | some x => some { code := if relocForm x then 10 else 1, sect := some x.sect, record := some x.row }
        | none =>
          match (patches f).find? (fun x => !(patchForm x && patchOk f x)) with
          | some x => some { code := if patchForm x then 11 else 1, sect := some x.sect, record := some x.row }
          | none =>
            match (sects f).find? (fun x => !(rangesApart (fieldsOf f x.idx))) with
            | some x => some { code := 10, sect := some x.idx }
            | none => none

/-! ### Handles -/

/-- An image handle. -/
def imageAt (s : State) (h : Nat) : Option Image := s.klb.images.find? (fun x => decide (x.handle = h))
/-- An image replaced. -/
def setImage (s : State) (x : Image) : State :=
  { s with klb := { s.klb with images := s.klb.images.map (fun y => if y.handle = x.handle then x else y) } }

/-- BUILD_ID, which the loader reports (R151). -/
def buildId (f : List Byte) : Nat := zN f 0x20 16

/-- KLB_OPEN: the file is read and checked; a good one gets a new handle, returned with its BUILD_ID (R151, R171). -/
def klbOpen (s : State) (f : List Byte) : State :=
  match openCheck f with
  | some r => klbReturn s r []
  | none =>
    let x : Image := { handle := s.klb.next, file := f }
    klbReturn { s with klb := { s.klb with images := s.klb.images ++ [x], next := s.klb.next + 1 } } { code := 0 } [s.klb.next, buildId f]

/-- Whether an import's value lies in a partition's grant (R161). -/
def importGranted (s : State) (p kind v : Nat) : Bool :=
  match kind with
  | 2 => decide (v < 4096) && (lockGroup s (v / 64)).valid && decide ((lockGroup s (v / 64)).part = p)
  | 3 => trailOwned s v p
  | 4 => decide (v < 64) && (classAt s v).valid && decide ((classAt s v).part = p)
  | _ => true

/-- The bound value of an import. -/
def boundValue (x : Image) (name : List Byte) : Option Nat := (x.binds.find? (fun b => b.1 == name)).map Prod.snd

/-- A name as an import entry holds it. -/
def padName (n : List Byte) : List Byte := (n ++ List.replicate 24 0).take 24

/-- KLB_BIND (R161, R171): the later value of a name wins. The spec states no result for a name that is
no import. A handle that was never opened is in no state that permits a service: KLB_E_STATE (DESIGN CHOICE, log entry 129). -/
def klbBind (s : State) (h : Nat) (name : List Byte) (v : Nat) : State :=
  match imageAt s h with
  | none => klbReturn s { code := 16 } []
  | some x =>
    if 1 < x.state then klbReturn s { code := 16 } []
    else match (imports x.file).findIdx? (fun i => decide (i.1 = padName name)) with
    | none => let (r, s1) := freeTake s; klbReturn s1 { code := r } []
    | some i =>
      let kind := ((imports x.file).getD i ([], 0)).2
      if decide (kind = 1) && decide (2 ^ 44 ≤ v) then klbReturn s { code := 11, record := some i } []
      else if decide (x.state = 1) && !(importGranted s x.part kind v) then klbReturn s { code := 12, record := some i } []
      else klbReturn (setImage s { x with binds := (padName name, v % 2 ^ 64) :: x.binds.filter (fun b => b.1 != padName name) }) { code := 0 } []

/-! ### Placement (R164 to R168) -/

/-- The fold factors that FOLD_MASK permits. -/
def foldsOf (f : List Byte) : List Nat := [1, 2, 4].filter (fun k => bit (zN f 0x1B 1) (if k = 4 then 2 else k - 1))

/-- The thickets that a factor needs. -/
def thicketsFor (f : List Byte) (k : Nat) : Nat := ceilDiv (zThickets f) k

/-- The members of a fold group in slot order (R164). -/
def foldGroup (f : List Byte) (k q pos : Nat) : List VtDesc :=
  (List.range k).filterMap (fun i => let j := k * q + i
    if j < zThickets f then (vtDescs f).find? (fun v => decide (v.vt = 4 * j + pos)) else none)

/-- The distinct CODE sections of a group, ascending. -/
def groupCodes (f : List Byte) (g : List VtDesc) : List Nat :=
  (List.range (zN f 8 2)).filter (fun i => g.any (fun v => decide (v.code = i)))

/-- A size rounded up to 256 bytes. -/
def round256 (n : Nat) : Nat := ceilDiv n 256 * 256

/-- Counter masks are pairwise disjoint. -/
def masksApart (l : List Nat) : Bool :=
  match l with
  | [] => true
  | x :: r => r.all (fun y => decide (x &&& y = 0)) && masksApart r

/-- The budgets of Table 5.10 on one physical tile: the error, none where all hold. -/
def budgetError (f : List Byte) (g : List VtDesc) : Option Nat :=
  if 256 < (g.map VtDesc.frame).sum then some 5
  else if 131072 < ((groupCodes f g).map (fun i => round256 (sectAt f i).msize)).sum then some 6
  else if 4096 < (g.map VtDesc.sticky).sum then some 7
  else if !(masksApart (g.map VtDesc.xmask)) then some 8
  else none

/-- The first physical tile that breaks a budget under a factor, with the first budget of Table 5.10 that it breaks: which of several the
loader reports is the model's choice (DESIGN CHOICE, log entry 130). -/
def budgetsFail (f : List Byte) (k : Nat) (grant : List Nat) : Option KRes :=
  ((List.range (4 * thicketsFor f k)).filterMap (fun i =>
    (budgetError f (foldGroup f k (i / 4) (i % 4))).map (fun e => ({ code := e, unit := some (4 * grant.getD (i / 4) 0 + i % 4) } : KRes)))).head?

/-- The factor that R166 chooses, or the error it returns. -/
def chooseFold (f : List Byte) (grant : List Nat) : Nat × Option KRes :=
  let fit := (foldsOf f).filter (fun k => decide (thicketsFor f k ≤ grant.length))
  match fit.find? (fun k => (budgetsFail f k grant).isNone) with
  | some k => (k, none)
  | none => (0, some (match fit with
    | k :: _ => (budgetsFail f k grant).getD { code := 4 }
    | [] => { code := 4 }))

/-- The thickets of a partition's grant that are in service, by ascending router. -/
def grantThickets (s : State) (p : Nat) : List Nat :=
  match partRec s p with
  | some r => (recThickets r).filter (fun t => !(thicketOff (groveAt s (t / 4)) (t % 4)))
  | none => []

/-- Whether REQUIRE and the bound imports lie in the grant: the index of an import that does not, or the requirement. -/
def grantError (s : State) (x : Image) (p : Nat) : Option KRes :=
  let slices := match partRec s p with
    | some r => (recSlices r).length
    | none => 0
  if decide (slices < reqSlices x.file) || decide ((ctxPart s p).limit < reqContexts x.file + 1) && decide (reqContexts x.file ≠ 0) then some { code := 12 }
  else ((imports x.file).zipIdx.find? (fun i => match boundValue x i.1.1 with
    | some v => !(importGranted s p i.1.2 v)
    | none => false)).map (fun i => { code := 12, record := some i.2 })

/-- KLB_PLACE (R165, R166, R171, R172). -/
def klbPlace (s : State) (h p : Nat) : State :=
  match imageAt s h with
  | none => klbReturn s { code := 16 } []
  | some x =>
    if x.state ≠ 0 ∨ s.klb.images.any (fun y => decide (y.part = p) && within 1 3 y.state) then klbReturn s { code := 16 } []
    else match grantError s x p with
    | some r => klbReturn s r []
    | none =>
      let g := grantThickets s p
      match chooseFold x.file g with
      | (_, some r) => klbReturn s r []
      | (k, none) => klbReturn (setImage s { x with state := 1, part := p, fold := k, thickets := g.take (thicketsFor x.file k) }) { code := 0 } [k]

/-- The physical position of member position `pos` of placement thicket `q` (R165). -/
def physTile (x : Image) (q pos : Nat) : Nat := 4 * x.thickets.getD q 0 + pos

/-- The instruction-store base of a section in a group (R167). -/
def codeBase (f : List Byte) (g : List VtDesc) (i : Nat) : Nat :=
  (((groupCodes f g).filter (fun j => decide (j < i))).map (fun j => round256 (sectAt f j).msize)).sum

/-- The frame base of a slot, in 4 KiB units (R167). -/
def frameBase (g : List VtDesc) (slot : Nat) : Nat := ((g.take slot).map VtDesc.frame).sum

/-- The groups of a placement: placement thicket and position. -/
def placeGroups (x : Image) : List (Nat × Nat) := (List.range (4 * x.thickets.length)).map (fun i => (i / 4, i % 4))

/-- The binding entries that a placement proposes (R168, Table 15.2), as vt, tile, slot, NT_BASE, NT_COUNT_M1, frame base, frame size. -/
def proposal (x : Image) : List (List Nat) :=
  ((placeGroups x).map (fun qp =>
    let g := foldGroup x.file x.fold qp.1 qp.2
    g.zipIdx.map (fun m => [m.1.vt, physTile x qp.1 qp.2, m.2, (codeBase x.file g m.1.code + m.1.nt) / 8, m.1.nodes - 1, frameBase g m.2, m.1.frame]))).flatten

/-- Whether the partition's committed bindings hold those of the placement. -/
def placementCommitted (s : State) (x : Image) : Bool :=
  let now := (partBinds s x.part).map bindNumbers
  (proposal x).all (fun e => now.contains e)

/-! ### Loading (R155 to R160, R168, R173) -/

/-- Bytes replaced in a list. -/
def putBytes (b : List Byte) (off : Nat) (v : List Byte) : List Byte := b.take off ++ v ++ b.drop (off + v.length)

/-- A section's bytes as loaded, the tail zero. -/
def memBytes (f : List Byte) (x : Sect) : List Byte := sectBytes f x ++ List.replicate (x.msize - x.fsize) 0

/-- The value of a patch source; none for an unbound import. -/
def patchSource (x : Image) (slot : Nat) (p : Patch) : Option Nat :=
  match p.source with
  | 1 => boundValue x ((imports x.file).getD p.index ([], 0)).1
  | 2 => some (x.ctxs.getD p.index 0)
  | 3 => some x.fold
  | 4 => some (4 * x.thickets.length)
  | _ => some slot

/-- Whether a 64-bit value fits its width. -/
def patchFits (p : Patch) (v : Nat) : Bool :=
  let w := 8 * patchWidth p
  if w = 64 then true
  else if bit p.width 7 then decide (-(2 ^ (w - 1) : Int) ≤ signed 64 v) && decide (signed 64 v < (2 ^ (w - 1) : Int))
  else decide (v < 2 ^ w)

/-- A value of a patch, none where it is unbound or does not fit. -/
def patchValue (x : Image) (slot : Nat) (p : Patch) : Option Nat :=
  match patchSource x slot p with
  | none => none
  | some v => let w := (v + p.addend) % 2 ^ 64; if patchFits p w then some w else none

/-- Relocations, then patches, of a section on a tile with its group; a node table's valid entries of a CODE section get the
base added (R156). -/
def relocated (x : Image) (g : List VtDesc) (slot i : Nat) : List Byte :=
  let f := x.file
  let b0 := memBytes f (sectAt f i)
  let b1 := if (sectAt f i).kind ≠ 2 then b0 else (nodeEntries f i).foldl (fun b a =>
    let w := zN b a 4
    if bit w 0 then putBytes b a (leBytes 4 (w % 2 ^ 17 + (bits w 31 17 + codeBase f g i / 4) % 2 ^ 15 * 2 ^ 17)) else b) b0
  let b2 := ((relocs f).filter (fun r => decide (r.link = i))).foldl (fun b r =>
    let v := codeBase f g r.target + r.addend
    putBytes b r.off (leBytes (relocWidth r.ty) (if r.ty = 1 then v / 4 else v))) b1
  ((patches f).filter (fun p => decide (p.link = i))).foldl (fun b p =>
    putBytes b p.off (leBytes (patchWidth p) ((patchValue x slot p).getD 0))) b2

/-- A relocation of a DATA section names a CODE section that its tile does not hold. -/
def relocAbsent (x : Image) (g : List VtDesc) (i : Nat) : Option KRes :=
  ((relocs x.file).find? (fun r => decide (r.link = i) && !((groupCodes x.file g).contains r.target))).map
    (fun r => { code := 10, sect := some r.sect, record := some r.row })

/-- A patch of a section that has no value or does not fit. -/
def patchBad (x : Image) (slot i : Nat) : Option KRes :=
  ((patches x.file).find? (fun p => decide (p.link = i) && (patchValue x slot p).isNone)).map (fun p => { code := 11, sect := some p.sect, record := some p.row })

/-- The first error of relocating and patching a placement. -/
def loadError (x : Image) : Option KRes :=
  ((placeGroups x).filterMap (fun qp =>
    let g := foldGroup x.file x.fold qp.1 qp.2
    (g.zipIdx.filterMap (fun m =>
      let code := patchBad x m.2 m.1.code
      let data := if m.1.data = 0xFFFF then none else (relocAbsent x g m.1.data).orElse (fun _ => patchBad x m.2 m.1.data)
      (code.orElse (fun _ => data)).map (fun r => { r with vt := some m.1.vt, unit := some (physTile x qp.1 qp.2) }))).head?)).head?

/-- A descriptor that the loader sends: LOAD_CODE, LOAD_REGS, a COPY into a virtual tile's frame window, or TOKEN_INJECT. -/
inductive KDesc where
  | code (tile off : Nat) (bytes : List Byte)
  | regs (tile slot code stack ls : Nat)
  | data (vt tile pa : Nat) (bytes : List Byte)
  | inject (toks : List Token)
  deriving DecidableEq, Repr

/-- Its opcode (Table 14.3). -/
def KDesc.op (d : KDesc) : Nat :=
  match d with
  | .code _ _ _ => 0x10
  | .regs _ _ _ _ _ => 0x11
  | .data _ _ _ _ => 0x0B
  | .inject _ => 3

/-- The virtual tile that the detail record of its failure names: of TOKEN_INJECT the first that is not bound. -/
def KDesc.vt (d : KDesc) (s : State) (p : Nat) : Option Nat :=
  match d with
  | .data v _ _ _ => some v
  | .inject l => (l.find? (fun t => (placeOf s p (tagVt t.tag)).isNone)).map (fun t => tagVt t.tag)
  | _ => none

/-- The physical unit that the detail record names. -/
def KDesc.unit (d : KDesc) : Option Nat :=
  match d with
  | .code u _ _ => some u
  | .regs u _ _ _ _ => some u
  | .data _ u _ _ => some u
  | .inject _ => none

/-- VALUE of its entry (Table 14.3). -/
def KDesc.value (d : KDesc) : Nat :=
  match d with
  | .code _ _ b => b.length
  | .regs _ _ _ _ _ => 0
  | .data _ _ _ b => b.length
  | .inject l => l.length

/-- LOAD_CODE and LOAD_REGS of one tile of a placement (R167, R168). -/
def tileDescs (x : Image) (qp : Nat × Nat) : List KDesc :=
  let g := foldGroup x.file x.fold qp.1 qp.2
  let p := physTile x qp.1 qp.2
  let ls := 2 ^ 16 * ((g.map VtDesc.waitc).foldl max 0) + (if g.any (fun v => bit v.flags 0) then 1 else 0)
  (groupCodes x.file g).map (fun i => .code p (codeBase x.file g i) (relocated x g 0 i))
  ++ g.zipIdx.map (fun m =>
    let base := codeBase x.file g m.1.code
    let size := (round256 (sectAt x.file m.1.code).msize) / 256 - 1
    let c := base / 256 + 2 ^ 16 * size + (if m.1.trap = 0xFFFFFFFF then 0 else 2 ^ 63 + 2 ^ 48 * ((base + m.1.trap) / 4))
    .regs p m.2 c (2 ^ 32 * (64 * m.1.stackTop) + 64 * (m.1.stackTop - m.1.stack)) ls)

/-- The COPY descriptors that bring one tile its DATA sections. -/
def dataDescs (x : Image) (qp : Nat × Nat) : List KDesc :=
  let g := foldGroup x.file x.fold qp.1 qp.2
  g.zipIdx.filterMap (fun m =>
    if m.1.data = 0xFFFF then none
    else some (.data m.1.vt (physTile x qp.1 qp.2) (4096 * frameBase g m.2 + (sectAt x.file m.1.data).addr) (relocated x g m.2 m.1.data)))

/-- The load descriptors of an image in order: every code section with its tiles' registers, then every DATA section (R173). -/
def loadDescs (x : Image) : List KDesc :=
  ((placeGroups x).map (tileDescs x)).flatten ++ ((placeGroups x).map (dataDescs x)).flatten

/-- Bytes written to a tile's frame from a physical frame address, a word at a time. -/
def frameLoad (s : State) (u pa : Nat) (b : List Byte) : State :=
  (List.range (ceilDiv b.length 8)).foldl (fun s i =>
    let w := (b.drop (8 * i)).take 8
    frameWrite s u (pa + 8 * i) w.length (leNat w) false) s

/-- The status of a descriptor that writes a tile, 0 where it may be applied: BUSY_RETRY in a slice, TIMEOUT where the tile does not
answer, the checks of R420, and IN_USE where the tile is not quiescent (R173, R450). -/
def loadStatus (s : State) (r : RingSet) (u : Nat) : Nat :=
  if (tileAt s u).testing then 8
  else if u < 0x110 ∧ (tileAt s u).excluded = true then 0x0B
  else if loadTileStatus s r u ≠ 0 then loadTileStatus s r u
  else if tileQuiet s u then 0 else 0x15

/-- The cycles after which a unit in a slice is asked again (R253). -/
def sliceHint (s : State) (u : Nat) : Nat := (sliceLeft s u).getD 0 + 16

/-- A descriptor takes effect at its unit: the state, its status and DETAIL. -/
def loadApply (s : State) (rs : Nat) (d : KDesc) : State × Nat × Nat :=
  let r := ringAt s rs
  let at_ (p : Nat) (f : Nat → State × Nat × Nat) : State × Nat × Nat :=
    let u := steer s p
    match loadStatus s r u with
    | 0 => f u
    | e => (s, e, if e = 8 then sliceHint s u else 0)
  match d with
  | .code p off b => at_ p (fun u => (modTile s u (fun t => clearMarks { t with istore := ByteMem.wrBytes t.istore off b } off b.length), 0, 0))
  | .regs p k c st ls => at_ p (fun u =>
    let bad := firstBad [(codeRegOk c, 0x10), (stackRegOk (tileAt s u) k st, 0x18), (lsCtrlOk ls, 0x20)]
    match bad with
    | some off => (s, 0x11, off)
    | none => (modTile s u (fun t => writeTileRegs t k 7 c st ls), 0, 0))
  | .data v p pa b => at_ p (fun u => match placeOf s r.part v with
    | some _ => (frameLoad s u pa b, 0, 0)
    | none => (copyRecord s rs 1 (2 ^ 32 + 2 ^ 20 * v), 3, 1))
  | .inject l => match l.zipIdx.find? (fun t => (placeOf s r.part (tagVt t.1.tag)).isNone) with
    | some t => (raise s Kind.tokenUnboundVtile (rqId (bridgeUnit r.port) 0) (some r.part) (ringSrc r) t.1.tag.toNat, 0x11, 0x18 + 16 * t.2)
    | none => (sendInjects s r l, 0, 0)

/-- A descriptor with SEQ `q` passes through a ring set: fetched, compared with NEXT_SEQ, evaluated where it is the next, and completed by
its entry (R404, R405, R422). The state, the status and DETAIL. -/
def loadSend (s : State) (rs q : Nat) (d : KDesc) : State × Nat × Nat :=
  let r := ringAt s rs
  let r1 : RingSet := { r with sqPi := (r.sqPi + 1) % 2 ^ 32, sqCi := (r.sqCi + 1) % 2 ^ 32, owed := r.owed + 1 }
  let x := (q + 2 ^ 32 - r.nextSeq) % 2 ^ 32
  let e : State × Nat × Nat :=
    if x = 0 then
      let a := loadApply (setRing s rs { r1 with nextSeq := (r.nextSeq + 1) % 2 ^ 32 }) rs d
      (modRing a.1 rs (fun r => noteRecent r q a.2.1), a.2)
    else if 2 ^ 31 ≤ x then
      (setRing s rs { r1 with dups := (r.dups + 1) % 2 ^ 16 }, 1, match r.recent.find? (fun e => decide (e.1 = q)) with
        | some e => 256 + e.2
        | none => 0)
    else (modRing (ringRaise (setRing s rs r1) rs Kind.ringSeqGap r.sqCi q) rs (fun r => { r with err := 4 }), 0x11, 4)
  (postEntry e.1 rs q d.op e.2.1 false (if e.2.1 = 0 then d.value else 0) e.2.2 false, e.2)

/-- Whether a ring set takes the loader's next descriptor at once: it is ACTIVE with nothing of its own under way (R427). -/
def ringOpen (s : State) (rs : Nat) : Bool :=
  let r := ringAt s rs
  bridgeRuns s r.port && decide (r.state = 1) && decide (r.sqPi = r.sqCi) && r.cur.isNone && !r.fetching && decide (r.longs.length < 16)
  && decide (2 ≤ freeSlotsCq r)

/-- A TOKEN_INJECT waits for TOKEN credit (R412). -/
def KDesc.room (d : KDesc) (s : State) (r : RingSet) : Bool :=
  match d with
  | .inject l => injectRoom s r l
  | _ => true

/-- The loader reads an entry, which frees its completion slot. -/
def entryRead (s : State) (rs : Nat) : State := modRing s rs (fun r => { r with cqCi := (r.cqCi + 1) % 2 ^ 32 })

/-- How a run of descriptors ends: all complete, one waits, or one fails. -/
inductive KStop where
  | done
  | waits
  | fails (r : KRes)
  deriving DecidableEq, Repr

/-- Descriptors are sent one after another, each with its own SEQ. An entry that an ERROR ring set discards is a lost completion: the
descriptor is sent again with its SEQ once the ring set is ACTIVE, and DUPLICATE then is success. BUSY_RETRY is repeated after its hint, up
to 8 times, with a new SEQ, since every evaluation consumes one (R174, R405). -/
def loadRun (s : State) (j : KJob) (l : List KDesc) : State × KJob × KStop :=
  match l with
  | [] => (s, j, .done)
  | d :: rest =>
    if !(ringOpen s j.rs) || !(d.room s (ringAt s j.rs)) || decide (now s < j.again) then (s, j, .waits)
    else
      let q := if j.lost then j.seq else (ringAt s j.rs).nextSeq
      let e := loadSend s j.rs q d
      if (ringAt e.1 j.rs).state ≠ 1 then (e.1, { j with lost := true, seq := q }, .waits)
      else
        let s1 := entryRead e.1 j.rs
        if e.2.1 = 0 ∨ (j.lost = true ∧ e.2.1 = 1) then loadRun s1 { j with sent := j.sent + 1, lost := false, busyN := 0 } rest
        else if e.2.1 = 8 ∧ j.busyN < 8 then (s1, { j with lost := false, busyN := j.busyN + 1, again := now s + e.2.2 }, .waits)
        else (s1, { j with lost := false }, .fails { code := 14, vt := d.vt s j.part, unit := d.unit, status := some e.2.1 })

/-- Why a partition's ring set carries no descriptor of the loader's: the result, none where it does (R169, R402, R409, R430). A ring set
that is not ACTIVE, and a part in Safe, complete no descriptor, so that no status stands in the detail. -/
def ringFails (s : State) (p rs : Nat) : Option KRes :=
  let r := ringAt s rs
  if inSafe s ∨ !(r.alloc && decide (r.part = p) && decide (r.state = 1)) then some { code := 14 }
  else if !(decide (s.clr.mode = .operational) && armed s p) then some { code := 14, status := some 0x16 }
  else none

/-- The same for a call that goes on: a ring set in ERROR after a lost completion is waited for. -/
def callFails (s : State) (j : KJob) : Option KRes :=
  if j.lost && !(inSafe s) && decide ((ringAt s j.rs).state ≠ 1) then none else ringFails s j.part j.rs

/-- The service under way on a handle. -/
def jobOf (s : State) (h service : Nat) : Option KJob := s.klb.jobs.find? (fun j => decide (j.handle = h) && decide (j.service = service))
/-- The services under way without those of a handle. -/
def dropJob (s : State) (h : Nat) : State := { s with klb := { s.klb with jobs := s.klb.jobs.filter (fun j => decide (j.handle ≠ h)) } }
/-- A service goes on waiting. -/
def setJob (s : State) (j : KJob) : State := let t := dropJob s j.handle; { t with klb := { t.klb with jobs := t.klb.jobs ++ [j] } }
/-- A service under way returns. -/
def endJob (s : State) (j : KJob) (r : KRes) : State := klbReturn (dropJob s j.handle) r []

/-- Contexts allocated one by one; those allocated, and whether all were (R162). -/
def allocMany (s : State) (p n : Nat) : State × List Nat :=
  match n with
  | 0 => (s, [])
  | k + 1 => match allocCtx s p with
    | none => (s, [])
    | some (c, s1) => let r := allocMany s1 p k; (r.1, c :: r.2)

/-- The release of a load context begins (R65); one that is not LIVE is refused as the context pool refuses it (R66). -/
def releaseLoad (s : State) (p c : Nat) : State × Bool :=
  if ctxState s p c ≠ 1 then (raise s Kind.contextStateInvalid (rqId 0x303 0) (some p) (c % 2 ^ 14) 0, false)
  else
    let us := boundTiles s p
    let s1 := setCtxState s p c 2
    let s2 : State := { s1 with ctx := { s1.ctx with releases := s1.ctx.releases ++ [{ part := p, ctx := c, rq := none, tiles := us }] } }
    (if us.isEmpty then sendNotice s2 p c else sendEnds s2 p c us, true)

/-- The load contexts released in turn until one is refused. -/
def releaseAll (s : State) (p : Nat) (l : List Nat) : State × Bool :=
  match l with
  | [] => (s, true)
  | c :: r => match releaseLoad s p c with
    | (s1, true) => releaseAll s1 p r
    | (s1, false) => (s1, false)

/-- klb_load fails (R170): its contexts are released, and bindings that this call committed are handed over for removal, whose commit it
waits for. -/
def loadFail (s : State) (j : KJob) (r : KRes) : State :=
  let s1 := if working s then (releaseAll s j.part j.ctxs).1 else s
  if j.staged then setJob (emit s1 (.proposal j.part true j.want)) { j with phase := 2, heard := none, res := r }
  else endJob s1 j r

/-- klb_load relocates, patches, and sends its load descriptors. -/
def klbWrite (s : State) (x : Image) (j : KJob) : State :=
  let x1 : Image := { x with ctxs := j.ctxs }
  match loadError x1 with
  | some r => loadFail s j r
  | none => match loadRun s j ((loadDescs x1).drop j.sent) with
    | (s1, _, .done) => endJob (setImage s1 { x1 with state := 2 }) j { code := 0 }
    | (s1, j1, .waits) => setJob s1 j1
    | (s1, j1, .fails r) => loadFail s1 j1 r

/-- klb_load goes on: the stage of its placement has closed, its descriptors are sent, or the removal has closed. In Safe the wait for the
commit ends with KLB_E_CUSTODY. -/
def klbLoadOn (s : State) (x : Image) (j : KJob) : State :=
  match j.phase with
  | 0 => match j.heard with
    | none => if inSafe s then loadFail s j { code := 13 } else s
    | some e => if e = 0 then klbWrite s x { j with phase := 1, staged := true } else loadFail s j { code := 13 }
  | 2 => match j.heard with
    | none => s
    | some e => endJob s j (if e = 0 then j.res else { code := 13 })
  | _ => match callFails s j with
    | some r => loadFail s j r
    | none => klbWrite s x j

/-- KLB_LOAD on a ring set of the partition: contexts, the commit, code and registers, then data (R170, R171, R173). -/
def klbLoad (s : State) (h rs : Nat) : State :=
  match imageAt s h with
  | none => klbReturn s { code := 16 } []
  | some x =>
    if x.state ≠ 1 then klbReturn s { code := 16 } []
    else if !(clocked s) then s
    else match jobOf s h 0 with
    | some j => klbLoadOn s x j
    | none => match ringFails s x.part rs with
      | some r => klbReturn s r []
      | none =>
        let a := allocMany s x.part (reqContexts x.file)
        let j : KJob := { handle := h, rs := rs, part := x.part, ctxs := a.2, want := proposal x }
        if a.2.length ≠ reqContexts x.file then klbReturn (releaseAll a.1 x.part a.2).1 { code := 15, status := some 0x0A } []
        else if placementCommitted s x then klbWrite a.1 x { j with phase := 1 }
        else setJob (emit a.1 (.proposal x.part false (proposal x))) j

/-! ### Start, unload, query -/

/-- A start token with its context's number and the partition (R41, R163). -/
def startToken (x : Image) (t : Nat × Nat) : Token :=
  let tag := BitVec.ofNat 64 t.2
  ⟨BitVec.ofNat 64 t.1, mkTag x.part (x.ctxs.getD (tagCtx tag) 0) (tagIter tag) (tagVt tag) (tagNode tag) (tagPort tag) (tagKind tag), false⟩

/-- The start tokens in section order, three to a TOKEN_INJECT (R163). -/
def startDescs (x : Image) : List KDesc :=
  let l := (zifTokens x.file).map (startToken x)
  (List.range (ceilDiv l.length 3)).map (fun i => .inject ((l.drop (3 * i)).take 3))

/-- klb_start injects the start tokens that are still to be sent. -/
def klbInject (s : State) (x : Image) (j : KJob) : State :=
  match loadRun s j ((startDescs x).drop j.sent) with
  | (s1, _, .done) => endJob (setImage s1 { x with state := 3 }) j { code := 0 }
  | (s1, j1, .waits) => setJob s1 j1
  | (s1, j1, .fails r) => endJob s1 j1 r

/-- KLB_START (R163, R171). -/
def klbStart (s : State) (h rs : Nat) : State :=
  match imageAt s h with
  | none => klbReturn s { code := 16 } []
  | some x =>
    if x.state ≠ 2 then klbReturn s { code := 16 } []
    else if !(clocked s) then s
    else match jobOf s h 1 with
    | some j => (match callFails s j with
      | some r => endJob s j r
      | none => klbInject s x j)
    | none => match ringFails s x.part rs with
      | some r => klbReturn s r []
      | none => klbInject s x { handle := h, service := 1, rs := rs, part := x.part, phase := 1 }

/-- Whether a release that the loader began is still under way, or was abandoned: none once all have completed. -/
def releaseLeft (s : State) (j : KJob) : Option Release :=
  s.ctx.releases.find? (fun r => decide (r.part = j.part) && j.ctxs.contains r.ctx && r.rq.isNone)

/-- klb_unload goes on: once every release has completed it proposes the removal of the bindings (R65, R171). -/
def klbUnloadOn (s : State) (x : Image) (j : KJob) : State :=
  match releaseLeft s j with
  | some r => if r.abandoned then endJob s j { code := 14, status := some 0x0B } else setJob s j
  | none => endJob (setImage (emit s (.proposal j.part true j.want)) { x with state := 4 }) j { code := 0 }

/-- KLB_UNLOAD (R171): the load contexts are released, then the removal of the bindings is proposed. -/
def klbUnload (s : State) (h rs : Nat) : State :=
  match imageAt s h with
  | none => klbReturn s { code := 16 } []
  | some x =>
    if !(within 2 3 x.state) then klbReturn s { code := 16 } []
    else if !(clocked s) then s
    else match jobOf s h 2 with
    | some j => if inSafe s then endJob s j { code := 14 } else klbUnloadOn s x j
    | none => match ringFails s x.part rs with
      | some r => klbReturn s r []
      | none =>
        let j : KJob := { handle := h, service := 2, rs := rs, part := x.part, ctxs := x.ctxs, want := proposal x, phase := 3 }
        match releaseAll s x.part x.ctxs with
        | (s1, true) => klbUnloadOn s1 x j
        | (s1, false) => klbReturn s1 { code := 14, status := some 0x12 } []

/-- KLB_QUERY: F, slot, physical unit and frame-window base of a virtual tile (R164, R165, R167). The base is returned in bytes
(DESIGN CHOICE, log entry 131). -/
def klbQuery (s : State) (h vt : Nat) : State :=
  match imageAt s h with
  | none => klbReturn s { code := 16 } []
  | some x =>
    if x.state = 0 then klbReturn s { code := 16 } []
    else
      let q := vt / 4 / x.fold
      let slot := vt / 4 % x.fold
      if 4 * zThickets x.file ≤ vt then klbReturn s { code := 3, vt := some vt } []
      else klbReturn s { code := 0 } [x.fold, slot, physTile x q (vt % 4), 4096 * frameBase (foldGroup x.file x.fold q (vt % 4)) slot]

end Sys2Proof.Machine
end

