-- ==== Sys2Proof/Machine/NodeSteps.lean ====
section
/-! DEFINITION. The node-code instructions that move control, predicates and system values (R86, R92, R102, R107, R110 to R113). -/

namespace Sys2Proof.Machine

/-- Instruction `i` stands at the thread's address of tile `u` and issues: the thread may issue, the instruction lies in the code
region and decodes, its lines are fetched (leaving `s1`, which differs from `s` by stored errors that the fetch met), it is legal in
the bank it runs in, its predicate holds, and no register that it names waits for a load (R76, R81, R85, R87, R110, R470). -/
def Issues (s : State) (u : Nat) (i : Ins) (s1 : State) : Prop :=
  let th := (tileAt s u).thread
  canIssue s u = true ∧ inRegion s u th.pc = true
  ∧ decodeNode (ByteMem.rdBytes (tileAt s u).istore th.pc (min 15 ((codeRegion (tileAt s u) th.slot).2 - th.pc))) = .ok i
  ∧ fetchLines s u (th.pc / 64) ((th.pc + i.len - 1) / 64 - th.pc / 64 + 1) = (s1, none)
  ∧ (trapOnly i.op = true → th.trapBank = true)
  ∧ (∀ p v, i.lead.pred = some (p, v) → pReg s1 u p = v)
  ∧ interlocked th i = false

/-- NOP. -/
def runNop (u : Nat) (i : Ins) (s : State) : State := advance s u i

/-- DONE: the node ends at any depth, and its stack cache is discarded (R102). -/
def runDone (u : Nat) (s : State) : State := modThread s u endNode

/-- RETT: back to t1, out of the trap bank (R110, R112). -/
def runRett (u : Nat) (s : State) : State :=
  let a := ((tileAt s u).thread.t.getD 1 0).toNat
  if inRegion s u a then modThread s u (fun th => { th with pc := a, trapBank := false }) else abandon s u Kind.codeBounds

/-- BR. -/
def runBr (u : Nat) (i : Ins) (s : State) : State := jumpTo s u (relTarget s u i)

/-- CALL; in the trap bank a double fault (R113). -/
def runCall (u : Nat) (i : Ins) (s : State) : State :=
  if (tileAt s u).thread.trapBank then abandon s u Kind.tileDoubleFault else doCall s u i (relTarget s u i)

/-- CALLR: the target comes from ra. -/
def runCallr (u : Nat) (i : Ins) (s : State) : State :=
  if (tileAt s u).thread.trapBank then abandon s u Kind.tileDoubleFault
  else consumeG s u [i.a] (fun s => doCall s u i (gVal s u i.a))

/-- JR. -/
def runJr (u : Nat) (i : Ins) (s : State) : State := consumeG s u [i.a] (fun s => jumpTo s u (gVal s u i.a))

/-- TRAP: cause SOFTWARE with the next instruction's address and the code (R111). -/
def runTrap (u : Nat) (i : Ins) (s : State) : State :=
  if (tileAt s u).thread.trapBank then abandon s u Kind.tileDoubleFault
  else enterTrap s u 2 ((tileAt s u).thread.pc + i.len) i.imm.toNat

/-- FENCE stalls until everything earlier has been accepted (R92). -/
def runFence (u : Nat) (i : Ins) (s : State) : State := if allAccepted s u then advance s u i else s

/-- PLOG. -/
def runPlog (u : Nat) (i : Ins) (s : State) : State :=
  advance (setP s u i.a (plogVal i.x (pReg s u i.b) (pReg s u i.c))) u i

/-- MOVI. -/
def runMovi (u : Nat) (i : Ins) (s : State) : State := advance (setG s u i.a (narrow 64 i.imm) false) u i

/-- MOVT. -/
def runMovt (u : Nat) (i : Ins) (s : State) : State :=
  advance (setG s u i.a ((tileAt s u).thread.t.getD i.b 0).toNat false) u i

/-- MOVTW. -/
def runMovtw (u : Nat) (i : Ins) (s : State) : State :=
  consumeG s u [i.b] (fun s => advance (modThread s u (fun th => { th with t := th.t.set i.a (BitVec.ofNat 64 (gVal s u i.b)) })) u i)

/-- RDSYS. -/
def runRdsys (u : Nat) (i : Ins) (s : State) : State := advance (setG s u i.a (sysVal s u i.imm.toNat) false) u i

end Sys2Proof.Machine
end

