-- ==== Sys2Proof/Machine/Slices.lean ====
section
/-! DEFINITION. In-field self-test and scrub slices (R525 to R528, R253, R278, R367, R432), the engagement of a spare that they
decide (R529), and the scrubs in idle cycles (R344, R459, R525). -/

namespace Sys2Proof.Machine

/-- Slices per pass of a unit (Table 17.9); 0 for a unit without slices. -/
def slicesPer (u : Nat) : Nat :=
  if isTile u then 20
  else if u = 0x301 then 8
  else if u = 0x302 ∨ u = 0x304 ∨ u = 0x305 ∨ u = 0x381 ∨ u = 0x383 then 4
  else if 0x2C4 ≤ u ∧ u ≤ 0x2CB then 4
  else if 0x2D0 ≤ u ∧ u ≤ 0x2D3 then 1
  else 0

/-- Whether a unit is tested: in service, or an unused spare that is sound. -/
def sliceDue (s : State) (u : Nat) : Bool :=
  decide (slicesPer u ≠ 0) &&
  (if u < 0x100 then tileServes s u
   else if isTile u then !(groveAt s (u - 0x100)).spareFailed && !(tileAt s u).excluded
   else if u < 0x300 then !(standFailed s u) else !(clrFailed s u))

/-- The clearing units with slices. -/
def clearingUnit (u : Nat) : Bool := [0x301, 0x302, 0x304, 0x305].contains u

/-- The thicket of a tile: that of its position; a spare's is the one it serves. -/
def sliceThicket (s : State) (u : Nat) : Option Nat :=
  if u < 0x100 then some (u / 4)
  else if (groveAt s (u - 0x100)).spareUsed then some (4 * (u - 0x100) + (groveAt s (u - 0x100)).sparePos / 4) else none

/-- Whether the slices under way leave room for one of unit `u` (R525). -/
def sliceRoom (s : State) (u : Nat) : Bool :=
  let l := s.slices.map Slice.unit
  if isTile u then
    decide ((l.filter isTile).length < s.ckr.maxTiles) && (match sliceThicket s u with
      | some t => !(l.any (fun v => isTile v && decide (sliceThicket s v = some t)))
      | none => true)
  else if u < 0x300 then !(l.any (fun v => decide (0x2C0 ≤ v) && decide (v < 0x300) && decide (v % 4 = u % 4)))
  else if clearingUnit u then !(l.any clearingUnit)
  else true

/-- Whether 1 ms has passed since a unit's last slice started (R253, R525; tied to no clock). -/
def sliceSpaced (s : State) (u : Nat) : Bool :=
  match s.ckr.lastSlice.find? (fun x => decide (x.1 = u)) with
  | some x => decide (x.2 + figureCc s 1 1000 ≤ now s)
  | none => true

/-- When a unit's last slice started. -/
def noteSlice (s : State) (u : Nat) : State :=
  { s with ckr := { s.ckr with
      lastSlice := (u, now s) :: s.ckr.lastSlice.filter (fun x => decide (x.1 ≠ u))
      chosen := s.ckr.chosen.filter (fun x => decide (x.1 ≠ u)) } }

/-- SLICE_START: a slice of at most 32,000 cc; a tile whose kernel runs is chosen and waits for its exit (R526). -/
def sliceStart (s : State) (u : Nat) (scrub : Bool) (len : Nat) : State :=
  if !(clocked s && supClocked s) || decide (s.clr.mode ≠ .operational) || !s.ckr.ifstEnable || !(sliceDue s u)
      || (sliceLeft s u).isSome || !(sliceSpaced s u) || !(sliceRoom s u) || decide (len = 0) || decide (32000 < len) then s
  else if isTile u && (tileAt s u).kern.running then
    (if s.ckr.chosen.any (fun x => decide (x.1 = u)) then s
     else { s with ckr := { s.ckr with chosen := s.ckr.chosen ++ [(u, now s)] } })
  else
    let s1 : State := { noteSlice s u with slices := s.slices ++ [{ unit := u, scrub := scrub, start := now s, endAt := now s + len }] }
    if isTile u then modTile s1 u (fun t => { t with testing := true }) else s1

/-- SLICE_KERNEL_WAIT_EXPIRY: the slice is skipped, and tried again no sooner than 1 ms later. -/
def sliceWaitExpiry (s : State) (u : Nat) : State :=
  match s.ckr.chosen.find? (fun x => decide (x.1 = u)) with
  | some x =>
    if clocked s && (tileAt s u).kern.running && decide (x.2 + 160000 ≤ now s) then
      let s1 := noteSlice s u
      { s1 with ckr := { s1.ckr with skipped := (s1.ckr.skipped + 1) % 2 ^ 16, skips := NSet.add s1.ckr.skips u } }
    else s
  | none => s

/-! ### What a slice meets -/

/-- A stored error of an activation record: an uncorrectable one withdraws the entry until the next chip reset, and the tag array names
the partition (R257). -/
def meetRecord (s : State) (u i : Nat) : State :=
  let r := recAt s i
  let p := some (tagPartOf s i)
  match r.err with
  | 0 => s
  | 1 => raise (setRec s i { r with err := 0 }) Kind.schedStoreCorrected (rqId u 0) p (schedAddr s i) 0
  | _ => setRec (leaveStores (raise s Kind.schedStoreUncorrectable (rqId u 0) p (schedAddr s i) 0) i) i { gen := r.gen, gone := true }

/-- A stored error of a dependence counter (R257): an uncorrectable one leaves its value open. -/
def meetCounter (s : State) (i : Nat) : State :=
  let r := recAt s i
  let p := some (tagPartOf s i)
  match r.depErr with
  | 0 => s
  | 1 => raise (setRec s i { r with depErr := 0 }) Kind.schedStoreCorrected (rqId 0x302 0) p (schedAddr s i) 0
  | _ =>
    let (v, s1) := freeTake (raise s Kind.schedStoreUncorrectable (rqId 0x302 0) p (schedAddr s i) 0)
    setRec s1 i { r with depErr := 0, dep := v % 2 ^ 16 }

/-- A stored error of a ready-store entry (R257): an uncorrectable one withdraws the entry, and its record enters a store again. -/
def meetEntry (s : State) (k i : Nat) : State :=
  let st := rstore s k
  let p := some (tagPartOf s i)
  match SMap.get 0 st.errs i with
  | 0 => s
  | 1 => raise (setRstore s k { st with errs := SMap.put 0 st.errs i 0 }) Kind.schedStoreCorrected (rqId (storeUnit k) 0) p (schedAddr s i) 0
  | _ =>
    let s1 := raise s Kind.schedStoreUncorrectable (rqId (storeUnit k) 0) p (schedAddr s i) 0
    let s2 := leaveStores (setRstore s1 k { rstore s1 k with lost := (rstore s1 k).lost + 1 }) i
    { s2 with sch := { s2.sch with entering := s2.sch.entering ++ [i] } }

/-- The stored errors of a ready store are met. -/
def meetStoreEnts (s : State) (k : Nat) : State := ((rstore s k).errs.map Prod.fst).foldl (fun s i => meetEntry s k i) s

/-- A slice of a unit meets the stored errors of its stores. -/
def sliceMeets (s : State) (u : Nat) : State :=
  if u = 0x301 then
    meetStoreEnts (((s.sch.recs.filter (fun x => decide (x.2.err ≠ 0))).map Prod.fst).foldl (fun s i => meetRecord s u i) s) 4
  else if u = 0x302 then ((s.sch.recs.filter (fun x => decide (x.2.depErr ≠ 0))).map Prod.fst).foldl meetCounter s
  else if 0x2C4 ≤ u ∧ u < 0x2C8 then meetStoreEnts s (u - 0x2C4)
  else if u = 0x304 then
    ((s.lck.cells.filter (fun x => decide (x.2.err ≠ 0))).map Prod.fst ++ (s.lck.waits.filter (fun w => decide (w.err ≠ 0))).map LockWait.cell).foldl meetLockErrs s
  else if u = 0x305 then
    s.trl.trails.foldl (fun s x => (x.2.items.filter (fun i => i.toks.any (fun g => decide (g.err ≠ 0)))).foldl (fun s i => meetItem s x.1 i) s) s
  else s

/-! ### The end of a slice (R526 to R529) -/

/-- A pass of a spare that was chosen to stand in decides: it does, while the thicket it is for is in service (R20, R529). -/
def engagePass (s : State) (u : Nat) : State :=
  match s.ckr.engage.find? (fun e => decide (e.1 = u)) with
  | some e =>
    let s1 : State := { s with ckr := { s.ckr with engage := s.ckr.engage.filter (fun x => decide (x.1 ≠ u)) } }
    if thicketOff (groveAt s (u - 0x100)) (e.2 % 16 / 4) then s1 else refreshService (spareStands s1 (u - 0x100) (e.2 % 16))
  | none => s

/-- A slice has passed; the last of a pass completes it. -/
def slicePassed (s : State) (u : Nat) : State :=
  let n := SMap.get 0 s.ckr.passed u + 1
  let s1 : State := { s with ckr := { s.ckr with passed := SMap.put 0 s.ckr.passed u n } }
  if n % slicesPer u = 0 then
    engagePass { s1 with ckr := { s1.ckr with passAt := (u, s1.ckr.periodNo) :: s1.ckr.passAt.filter (fun x => decide (x.1 ≠ u)) } } u
  else s1

/-- A slice has failed (R528). -/
def sliceFailed (s : State) (u : Nat) : State :=
  let s1 : State := { s with ckr := { s.ckr with failed := (s.ckr.failed + 1) % 2 ^ 16 } }
  if isTile u then
    askCheckpoint (recordFailed (raiseAbout s1 Kind.tileSelfTestFailed ckrId u (tilePart (tileAt s u)) 0 0 none) u 2) []
  else raiseAbout { s1 with flt := { s1.flt with unitTest := true } } Kind.unitSelfTestFailed ckrId u none 0 0 none

/-- A tile's wait counters go on after a slice that began at `start`: they held their values meanwhile (R293). -/
def resumeWaits (tm start : Nat) (t : Tile) : Tile :=
  let f (x : Option Nat) : Option Nat := x.map (fun b => b + (tm - max b start))
  { t with spl := { t.spl with storeSince := f t.spl.storeSince, fireSince := f t.spl.fireSince } }

/-- The unit goes on: a tile at the boundary where it was taken, a bridge with the writes it latched, a monitor with the counters of
its stand's tiles. -/
def sliceResume (s : State) (x : Slice) : State :=
  if isTile x.unit then modTile s x.unit (fun t => resumeWaits (now s) x.start { t with testing := false })
  else if 0x2D0 ≤ x.unit ∧ x.unit < 0x2D4 then
    ((List.range 272).filter (fun u => decide (standOf u = x.unit - 0x2D0))).foldl (fun s u => modTile s u (resumeWaits (now s) x.start)) s
  else match bridgeOf x.unit with
  | some b => copyKick (bridgeResume s b (now s - x.start)) b
  | none => s

/-- SLICE_END of a unit, passed or failed. A tile that failed stays taken until its quarantine. -/
def sliceEnd (s : State) (u : Nat) (pass : Bool) : State :=
  match s.slices.find? (fun x => decide (x.unit = u)) with
  | some x =>
    if !(clocked s) || decide (now s < x.endAt) then s
    else
      let s1 : State := { s with slices := s.slices.filter (fun y => decide (y.unit ≠ u)), ckr := { s.ckr with slices := (s.ckr.slices + 1) % 2 ^ 32 } }
      let s2 := if u = 0x304 then applyNotes s1 else s1
      if pass then slicePassed (settleTakes (sliceMeets (sliceResume s2 x) u)) u
      else sliceFailed (if isTile u then s2 else sliceResume s2 x) u
  | none => s

/-- The units that have slices. -/
def slicedUnits : List Nat :=
  List.range 272 ++ (List.range 8).map (fun i => 0x2C4 + i) ++ (List.range 4).map (fun i => 0x2D0 + i)
  ++ [0x301, 0x302, 0x304, 0x305, 0x381, 0x383]

/-- A period ends for one unit: a pass that stayed incomplete over two periods because of skipped slices is recorded (R527). -/
def periodUnit (s : State) (u : Nat) : State :=
  let full := decide (slicesPer u ≤ SMap.get 0 s.ckr.passed u)
  let m := if full ∨ !(NSet.has s.ckr.skips u) then 0 else SMap.get 0 s.ckr.missed u + 1
  let s1 : State := { s with ckr := { s.ckr with missed := SMap.put 0 s.ckr.missed u m } }
  if 2 ≤ m then raiseAbout s1 Kind.selfTestDeferred ckrId u none 0 0 none else s1

/-- The values of CKR.IFST_CTRL that the firmware wrote apply from the next period (R530). -/
def ifstApply (s : State) : State :=
  match s.ckr.ifstWritten with
  | some v => { s with ckr := { s.ckr with ifstEnable := bit v 63, maxTiles := bits v 35 32 + 1, period := bits v 15 0, ifstWritten := none } }
  | none => s

/-- IFST_PERIOD_END: PERIOD × 100 ms of supervisor-clock time have passed; units are judged while ENABLE is 1. -/
def ifstPeriodEnd (s : State) : State :=
  let len := s.ckr.period * usToCc s 100000
  if !(supClocked s && clocked s) || decide (supNow s < s.ckr.periodFrom + len) then s
  else
    let s1 := if s.ckr.ifstEnable then (slicedUnits.filter (sliceDue s)).foldl periodUnit s else s
    ifstApply { s1 with ckr := { s1.ckr with
        passed := s1.ckr.passed.filter (fun x => s1.ckr.engage.any (fun e => decide (e.1 = x.1)))
        skips := [], periodNo := s1.ckr.periodNo + 1, periodFrom := s1.ckr.periodFrom + len } }

/-! ### Scrubs in idle cycles (R344, R459, R525) -/

/-- IDLE_SCRUB of a router buffer's head, of a stand-buffer word, or of the partition tables. -/
def idleScrub (s : State) (x : ScrubTarget) : State :=
  if !(clocked s) then s
  else match x with
  | .buffer r p cls => (meetFlitErr s r p cls).1
  | .standBuffer k w => if working s && decide (k < 4) then meetStsErr s k w else s
  | .partitionTables =>
    match s.prt.err with
    | 0 => s
    | 1 => raise { s with prt := { s.prt with err := 0 } } Kind.partitionTableCorrected (rqId 0x30A 0) none 0 0
    | 2 => raise { s with prt := { s.prt with err := 3 } } Kind.partitionTableUncorrectable (rqId 0x30A 0) none 0 0
    | _ => s

end Sys2Proof.Machine
end

