-- ==== Sys2Proof/Machine/CommandOps.lean ====
section
/-! DEFINITION. What commands of several sources have in common: the paths that a failed endpoint or engine withholds (R517),
the parties of Table 15.4, and the requests that a register, an MCTP command or the firmware can make. -/

namespace Sys2Proof.Machine

/-- The state that a command makes, as it stands after it: the queue is no command's, and the fuses are not this command's, since
only REVOKE_KEY and SECURITY_FLOOR_RAISE blow them (R510, R511). -/
def kept (s t : State) : State := { t with pending := s.pending, fuses := s.fuses }

/-- A command's outcome. -/
def settled (s t : State) : Answer := .next (kept s t)

/-- The outcome of a command that may blow fuses. -/
def blowing (s t : State) : Answer := .next { t with pending := s.pending }

/-- An element of CLR.SERVICE that is out of service withholds its function (R517, Table 17.7). -/
def ifIn (s : State) (element : Nat) (t : State) : State := if outOfService s element then s else t

/-- A command by MCTP reaches the firmware through the management endpoint (R444, R517). -/
def mctpReach (s : State) (t : State) : State := ifIn s 11 t

/-- A custody command reaches the commit engine. -/
def custodyReach (s : State) (t : State) : State := ifIn s 11 (ifIn s 10 t)

/-- A command of one party only: from the other it is refused with RIGHTS_DENIED (R444). -/
def fromParty (s : State) (party want : Nat) (t : State) : State :=
  if party = want then t else if fwRuns s then answer s party [0x10, 0] else s

/-- HOLD_WRITE by a register access, or by MCTP (R523). -/
def holdFrom (s : State) (f : CtrlFrom) : State :=
  match f with
  | .register a x => registerWrite s a 0x50 x
  | .mctp party v => mctpReach s (holdWrite s party (decide (v % 2 = 1)))
  | .firmware => s

/-- SAFE_EXIT by its register, by MCTP, or by the firmware's own decision (R478). The answer to the MCTP command is not stated. -/
def safeExitFrom (s : State) (f : CtrlFrom) : State :=
  match f with
  | .register a x => registerWrite s a 0x20010 x
  | .mctp party _ => mctpReach s (if fwRuns s then answerOpen (safeExit s) party else s)
  | .firmware => if fwRuns s then safeExit s else s

/-- LEDGER_FLUSH by LDG.CTRL or by MCTP (R550). -/
def ledgerFlushFrom (s : State) (f : CtrlFrom) : State :=
  match f with
  | .register a x => registerWrite s a 0x50008 x
  | .mctp party _ => mctpReach s (ledgerFlush s (party % 2))
  | .firmware => s

/-- CTX_RELEASE_ACK: a tile's acknowledgement, or the agent's (R65, R308). -/
def ctxReleaseAck (s : State) (x : CtxAck) : State :=
  match x with
  | .tile unit part ctx count => ctxEndAckArrival s unit part ctx count
  | .agent src part tag r => noticeAckArrival s src part tag r

/-- E2E_TIMER_EXPIRY of a request or of a sender's acknowledgements (R322, R340). -/
def e2eTimer (s : State) (unit : Nat) (t : E2eTimer) : State :=
  match t with
  | .request sub part target tag => requestTimer s unit sub part target tag
  | .tokenAck => ackTimer s unit

/-- A write of a register of probe k (Table 11.17). -/
def probeRegWrite (s : State) (a : Accessor) (k : Nat) (reg : ProbeReg) (x : RegPart) : State :=
  let i := match reg with
    | .sel => 0
    | .matchReg => 1
    | .id => 2
  if k < 16 then registerWrite s a (0x200100 + 0x20 * k + 8 * i) x else s

/-- A write of the direct-write window: the binding, or the frame word, of a position's slot (Table 20.5). -/
def directRegWrite (s : State) (a : Accessor) (pos slot : Nat) (frame : Bool) (x : RegPart) : State :=
  if pos < 256 ∧ slot < 4 then registerWrite s a (0x03000000 + 0x40 * pos + 0x10 * slot + (if frame then 8 else 0)) x else s

end Sys2Proof.Machine
end

