-- ==== Sys2Proof/Machine/BoardCommands.lean ====
section
/-! DEFINITION. The meanings of the commands of balls, power, temperature and test access (chapter 19). -/

namespace Sys2Proof.Machine

/-- POWER_LEVEL_STEP (R572). Each 1 ms the firmware computes package power and adjusts the power level. -/
def execPowerLevelStep (pout : Option Nat) (s : State) : Answer := settled s (powerLevelStep s pout)

/-- THERMAL_LEVEL_STEP (R573). Each 1 ms the thermal level is adjusted against the hottest sensor. -/
def execThermalLevelStep (s : State) : Answer := settled s (thermalLevelStep s)

/-- PWR_BRAKE (R573). PWR_BRAKE_N changes, forcing the applied level to 15 or releasing it. -/
def execPwrBrake (low : Bool) (s : State) : Answer := settled s (pwrBrake s low)

/-- SENSOR_READING (R577). A new hottest reading drives THERM_N and THERMAL_CRITICAL. -/
def execSensorReading (tj : Int) (s : State) : Answer := settled s (sensorReading s tj)

/-- HARDWARE_SHUTDOWN (R577). The 115 °C comparator stops every clock and drives the shutdown output states. -/
def execHardwareShutdown (s : State) : Answer := settled s (hardwareShutdown s)

/-- VR_ALERT (R575). VR_ALERT_N low starts a regulator status read that may raise VR_FAULT. -/
def execVrAlert (status : Option Bool) (s : State) : Answer := settled s (vrAlert s status)

/-- RAIL_CHECK (R569). The 10 µs rail check raises SUPPLY_OUT_OF_RANGE for a rail out of range twice in a row. -/
def execRailCheck (out : List Nat) (s : State) : Answer := settled s (railCheck s out)

/-- VDDIO_1V8_OUT_OF_RANGE (R563). VDDIO_1V8 leaves or returns to its range, and the outputs go high-impedance or resume. -/
def execVddioOutOfRange (out : Bool) (s : State) : Answer := settled s (vddioRange s out)

/-- VCORE_TRIM (R571). Each 100 ms the VDD_CORE set point is trimmed by at most 5 mV. -/
def execVcoreTrim (up down : Bool) (s : State) : Answer := settled s (vcoreTrim s up down)

/-- POWER_LOSS (R542). Power is removed from the part, abruptly or in sequence, and counter increments, event lines and ledger writes not yet completed are lost. -/
def execPowerLoss (s : State) : Answer := settled s (powerLoss s)

/-- JTAG_TCK_EDGE (R570). A TCK edge, together with TMS, TDI or TRST_N, advances the JTAG TAP, which executes BYPASS, IDCODE, SAMPLE/PRELOAD, EXTEST or CLAMP. -/
def execJtagTckEdge (rising tms tdi trstLow : Bool) (pinLevels : List Bool) (s : State) : Answer :=
  settled s (jtagEdge s rising tms tdi trstLow pinLevels)

/-- DYNAMIC_ADDRESS_ASSIGNMENT (R570). An I3C SETDASA or ENTDAA assigns the part's I3C target its dynamic address. -/
def execDynamicAddressAssignment (static : Option Nat) (addr : Nat) (s : State) : Answer := settled s (assignAddress s static addr)

end Sys2Proof.Machine
end

