-- ==== Sys2Proof/Machine/ClockCommands.lean ====
section
/-! DEFINITION. The meanings of the commands of reset, bring-up, clocks and self-test (chapter 17). -/

namespace Sys2Proof.Machine

/-- CHIP_RESET (R502). CHIP_RESET_N is driven low or the power-on detector fires, clearing every on-die unit, register, memory and counter. -/
def execChipReset (por : Bool) (s : State) : Answer := settled s (chipReset s por)

/-- CHIP_RESET_RELEASE (R505). CHIP_RESET_N rises, the straps are sampled, and the bring-up sequence of Table 17.2 starts. -/
def execChipResetRelease (x : BringUp) (s : State) : Answer := settled s (chipResetRelease s x)

/-- OPERATIONAL_ENTRY (R522). The firmware moves the part from Configuration to Operational once compute service is reached, HOLD is clear, custody is provisioned and no cause is present. -/
def execOperationalEntry (s : State) : Answer := settled s (operationalEntry s)

/-- SUPERVISOR_RESET (R502). The supervisor cores and their SRAM are reset, and the firmware is reloaded and verified. -/
def execSupervisorReset (s : State) : Answer := settled s (supervisorReset s)

/-- SUP_RESET_WRITE (R504). A PF writes CKR.SUP_RESET; a write of 0x05E7 in Safe requests a supervisor reset, and any other write is discarded and logged. -/
def execSupResetWrite (a : Accessor) (x : RegPart) (s : State) : Answer := settled s (registerWrite s a 0x10018 x)

/-- WATCHDOG_EXPIRY (R513). The firmware watchdog expires, which raises FIRMWARE_WATCHDOG and performs a supervisor reset. -/
def execWatchdogExpiry (s : State) : Answer := settled s (watchdogExpiry s)

/-- RECOVERY_IMAGE (R512). A recovery firmware image sent over MCTP is checked, placed in SRAM and started. -/
def execRecoveryImage (image : List Byte) (s : State) : Answer := settled s (mctpReach s (recoveryImage s image))

/-- REVOKE_KEY (R511). The platform controller's REVOKE_KEY command blows the revocation fuse of a key-hash slot when every condition holds, and is refused otherwise. -/
def execRevokeKey (party : Nat) (statement key signature : List Byte) (s : State) : Answer :=
  blowing s (mctpReach s (revokeKey s party statement key signature))

/-- SECURITY_FLOOR_RAISE (R510). An MCTP command from the platform controller raises the fused security floor, up to the running image's SEC_VERSION. -/
def execSecurityFloorRaise (party n : Nat) (s : State) : Answer := blowing s (mctpReach s (floorRaise s party n))

/-- FIRMWARE_UPDATE (R539). An MCTP command writes a firmware image to the non-running slot, verifies it, and updates the preferred slot. -/
def execFirmwareUpdate (party : Nat) (image : List Byte) (s : State) : Answer := settled s (mctpReach s (firmwareUpdate s party image))

/-- HOLD_WRITE (R523). A PF write or an MCTP command sets or clears CLR.MODE.HOLD, and the firmware records the change in the ledger. -/
def execHoldWrite (from_ : CtrlFrom) (s : State) : Answer := settled s (holdFrom s from_)

/-- SUP_SRAM_SCRUB (R514). The 10 ms scrub of supervisor SRAM corrects errors, or raises the uncorrectable kind. -/
def execSupSramScrub (err : Nat) (s : State) : Answer := settled s (supSramScrub s err)

/-- REFERENCE_LOSS (R497). The detector declares the selected reference lost and stops every clock, freezing the part. -/
def execReferenceLoss (portDown : Bool) (s : State) : Answer := settled s (referenceLoss s portDown)

/-- REFERENCE_RETURN (R498). The reference is declared present again, the PLLs relock, and all clocks resume in one cycle. -/
def execReferenceReturn (s : State) : Answer := settled s (referenceReturn s)

/-- PLL_UNLOCK (R501). The core or supervisor PLL loses lock while the reference is present, and its clocks stop. -/
def execPllUnlock (core : Bool) (s : State) : Answer := settled s (pllUnlock s core)

/-- PLL_LOCK_ATTEMPT_END (R501). A 50 µs lock attempt ends; on lock the clocks resume and the unlock kind is raised, and after four failures the clocks stay stopped. -/
def execPllLockAttemptEnd (core locked : Bool) (s : State) : Answer := settled s (pllAttemptEnd s core locked)

/-- SLICE_START (R525). The controller starts an in-field self-test or scrub slice of a unit. -/
def execSliceStart (u : Nat) (scrub : Bool) (len : Nat) (s : State) : Answer := settled s (sliceStart s u scrub len)

/-- SLICE_END (R528). An in-field slice ends; the unit resumes, or, on failure, the self-test failure kind is raised. -/
def execSliceEnd (u : Nat) (pass : Bool) (s : State) : Answer := settled s (sliceEnd s u pass)

/-- SLICE_KERNEL_WAIT_EXPIRY (R526). A kernel has not exited within 100 µs of a tile being selected, so the slice is skipped. -/
def execSliceKernelWaitExpiry (u : Nat) (s : State) : Answer := settled s (sliceWaitExpiry s u)

/-- IFST_PERIOD_END (R527). An in-field self-test period ends; a unit whose pass is incomplete for two periods raises SELF_TEST_DEFERRED. -/
def execIfstPeriodEnd (s : State) : Answer := settled s (ifstPeriodEnd s)

end Sys2Proof.Machine
end

