-- ==== Sys2Proof/Machine/CustodyCommands.lean ====
section
/-! DEFINITION. The meanings of the commands of custody and attestation (chapter 15). -/

namespace Sys2Proof.Machine

/-- STAGE (R446). The commit engine opens a stage and returns its STAGE_ID and digest. -/
def execStage (party kind : Nat) (rec binds : List Byte) (s : State) : Answer := settled s (custodyReach s (stageOpen s party kind rec binds))

/-- SIGN (R447). The fabric manager's signature over a stage is verified. -/
def execSign (party id : Nat) (sigs : List (List Byte)) (s : State) : Answer :=
  settled s (custodyReach s (fromParty s party 0 (signStage s 0 id sigs)))

/-- COUNTERSIGN (R447). The platform controller's signature over a stage is verified. -/
def execCountersign (party id : Nat) (sigs : List (List Byte)) (s : State) : Answer :=
  settled s (custodyReach s (fromParty s party 1 (signStage s 1 id sigs)))

/-- STAGE_PROCESSING (R449). A fully signed stage is checked for currency, validity and vectors, and then waits for quiescence. -/
def execStageProcessing (s : State) : Answer := settled s (ifIn s 10 (stageProcessing s))

/-- COMMIT_APPLY (R452). Once quiescent, the commit engine writes the bindings and configuration words and broadcasts PLACE_INVALIDATE. -/
def execCommitApply (s : State) : Answer := settled s (ifIn s 10 (commitApply s))

/-- QUIESCE_TIMEOUT (R449). The 1 s quiescence wait expires and the stage is refused. -/
def execQuiesceTimeout (s : State) : Answer := settled s (ifIn s 10 (quiesceTimeout s))

/-- PLACE_INV_ACK (R452). A tile's invalidation acknowledgement reaches the commit engine; the last one completes the commit. -/
def execPlaceInvAck (u part : Nat) (s : State) : Answer := settled s (ifIn s 10 (placeInvAck s u part))

/-- PLACE_INV_ACK_TIMEOUT (R452). A tile has not acknowledged within 100 µs and is quarantined. -/
def execPlaceInvAckTimeout (s : State) : Answer := settled s (ifIn s 10 (placeInvTimeout s))

/-- STAGE_TIMEOUT (R448). A stage without all its signatures closes after 30 s. -/
def execStageTimeout (id : Nat) (s : State) : Answer := settled s (ifIn s 10 (stageTimeout s id))

/-- ABORT (R448). An open stage is closed. -/
def execAbort (party id : Nat) (s : State) : Answer := settled s (custodyReach s (abortStage s party id))

/-- ARM (R455). A DISARMED partition is armed when the digest matches. -/
def execArm (party part digest : Nat) (s : State) : Answer := settled s (custodyReach s (fromParty s party 0 (arm s part digest)))

/-- DISARM (R455). An ARMED partition becomes DISARMED. -/
def execDisarm (party part : Nat) (s : State) : Answer := settled s (custodyReach s (fromParty s party 0 (disarm s part)))

/-- QUERY (R444). The custody state, stages and partition states are returned. -/
def execQuery (party : Nat) (s : State) : Answer := settled s (custodyReach s (query s party))

/-- ENROLL (R441). A party enrols its custody key; with both matching, custody becomes PROVISIONED. -/
def execEnroll (party : Nat) (key : List Byte) (expects : Nat) (s : State) : Answer := settled s (custodyReach s (enroll s party key expects))

/-- ENROLL_TIMEOUT (R441). The 30 s window for the second ENROLL expires and the first is discarded. -/
def execEnrollTimeout (s : State) : Answer := settled s (enrollTimeout s)

/-- CANCEL_REPLACE (R443). A pending key replacement is cancelled. -/
def execCancelReplace (party : Nat) (sig : List Byte) (s : State) : Answer := settled s (custodyReach s (cancelReplaceCmd s party sig))

/-- REPLACE_WAIT_EXPIRY (R442). The 86,400 s REPLACE wait ends and the key is replaced. -/
def execReplaceWaitExpiry (s : State) : Answer := settled s (replaceExpiry s)

/-- DIRECT_WRITE (R457). A debug direct-window write changes a binding without invalidation, or is refused. -/
def execDirectWrite (a : Accessor) (pos slot : Nat) (frame : Bool) (x : RegPart) (s : State) : Answer :=
  settled s (directRegWrite s a pos slot frame x)

/-- GET_MEASUREMENTS (R458). The SPDM responder returns the measurement blocks. -/
def execGetMeasurements (index : Nat) (s : State) : Answer := settled s (getMeasurements s index)

/-- MCTP_MESSAGE_INVALID (R444). An MCTP message with a reserved command code or field is refused with FIELD_ERROR, and MCTP_MESSAGE_INVALID is raised. -/
def execMctpMessageInvalid (m : BadMctp) (s : State) : Answer := settled s (mctpReach s (mctpInvalid s m))

end Sys2Proof.Machine
end

