-- ==== Sys2Proof/Machine/FaultCommands.lean ====
section
/-! DEFINITION. The meanings of the commands of fault collection and Safe (chapter 16). -/

namespace Sys2Proof.Machine

/-- FAULT_MESSAGE (R464). The fault collector processes a fault message: it checks it, looks up the kind, reacts, records and notifies. -/
def execFaultMessage (m : FaultMsg) (s : State) : Answer := settled s (faultMessage s m)

/-- QUARANTINE_FOLLOW_UP (R475). The firmware suspends the tile's bindings, retires its activations, purges its requesters and marks it failed. -/
def execQuarantineFollowUp (s : State) : Answer := settled s (quarantineFollowUp s)

/-- SAFE_EXIT (R478). A SAFE_EXIT request from FLT.SAFE_EXIT, MCTP or the firmware is accepted or refused. -/
def execSafeExit (from_ : CtrlFrom) (s : State) : Answer := settled s (safeExitFrom s from_)

/-- SAFE_RETURN (R480). The part discards run state and returns from Safe to Configuration. -/
def execSafeReturn (s : State) : Answer := settled s (safeReturn s)

/-- NOTICE_INTERVAL_END (R481). A function's 16,000 cc vector-0 interval ends and a deferred notice is sent. -/
def execNoticeIntervalEnd (port fn : Nat) (s : State) : Answer := settled s (noticeEnd s port fn)

/-- ALERT_ACK (R482). The platform controller clears the notice flag and ALERT_N. -/
def execAlertAck (s : State) : Answer := settled s (mctpReach s (alertAck s))

/-- KIND_TABLE_WRITE (R467). The supervisor writes an FLT.KIND entry within the class limits, or the write is refused. -/
def execKindTableWrite (k cls : Nat) (log notify notifyPc : Bool) (s : State) : Answer := settled s (kindTableWrite s k cls log notify notifyPc)

/-- COLLECTOR_SCRUB (R483). The 1 ms scrub of the collector's duplicated state corrects errors, or triggers the bypass. -/
def execCollectorScrub (s : State) : Answer := settled s (collectorScrub s)

/-- COLLECTOR_REINIT (R484). The firmware reinitialises both copies of the collector state, which clears FLT_STATE. -/
def execCollectorReinit (s : State) : Answer := settled s (collectorReinit s)

/-- RECORD_ACKNOWLEDGE (R491). The firmware copies a device-queue record to the ledger state and advances ACKED. -/
def execRecordAcknowledge (s : State) : Answer := settled s (recordAcknowledge s)

/-- CHECKER_MISMATCH (R487). The comparator finds the main and checker outputs differ and halts both cores. -/
def execCheckerMismatch (s : State) : Answer := settled s (checkerFault s true)

/-- DELAY_REGISTER_PARITY_ERROR (R487). A parity error in a delay register raises CHECKER_LOST and halts the cores. -/
def execDelayRegisterParityError (s : State) : Answer := settled s (checkerFault s false)

/-- CHECKER_INJECTION (R488). The 1 ms comparator self-test inverts one bit and expects to detect it. -/
def execCheckerInjection (detected : Bool) (s : State) : Answer := settled s (checkerInjection s detected)

end Sys2Proof.Machine
end

