-- ==== Sys2Proof/Machine/HostCommands.lean ====
section
/-! DEFINITION. The meanings of the commands of the host ports (chapter 13). -/

namespace Sys2Proof.Machine

/-- HOST_LINK_UP (R374). A host link trains in CXL or PCIe mode, raising HOST_LINK_DEGRADED when it is slower than before. -/
def execHostLinkUp (b h : Nat) (cxl flit : Bool) (speed width : Nat) (s : State) : Answer := settled s (hostLinkUp s b h cxl flit speed width)

/-- HOST_LINK_DOWN (R384). A host link goes down through PERST, hot reset or a loss of training, and its functions are reset. -/
def execHostLinkDown (b h : Nat) (s : State) : Answer := settled s (hostLinkDown s b h)

/-- FUNCTION_LEVEL_RESET (R385). A VF FLR stops the function's service, discards its descriptors and purges its state. -/
def execFunctionLevelReset (b f : Nat) (s : State) : Answer := settled s (flrVf s b f)

/-- PF_FUNCTION_LEVEL_RESET (R386). A PF FLR resets the PF and every VF and clears the port's HIF counters. -/
def execPfFunctionLevelReset (b : Nat) (s : State) : Answer := settled s (flrPf s b)

/-- BUS_MASTER_ENABLE_CLEAR (R385). Clearing a function's Bus Master Enable stops its service. -/
def execBusMasterEnableClear (b f : Nat) (s : State) : Answer := settled s (bmeClear s b f)

/-- CONFIGURATION_REQUEST (R506). A port answers a configuration request, with Request Retry Status until report-only service. -/
def execConfigurationRequest (b f : Nat) (r : CfgReq) (s : State) : Answer := settled s (configurationRequest s b f r)

/-- VENDOR_DEFINED_MESSAGE (R379). A VDM carrying MCTP is accepted by port 0's PF, or is discarded or answered UR. -/
def execVendorDefinedMessage (b f : Nat) (type0 fromFm : Bool) (s : State) : Answer := settled s (vdm s b f type0 fromFm)

/-- ATS_TRANSLATION_COMPLETION (R388). An ATS translation returns, fills the translation cache, and lets the waiting access issue. -/
def execAtsTranslationCompletion (b id : Nat) (grant : Option AtsGrant) (s : State) : Answer := settled s (atsCompletion s b id grant)

/-- ATS_INVALIDATION_REQUEST (R389). The bridge removes matching translation entries and completes the invalidation after the accesses using them. -/
def execAtsInvalidationRequest (b f : Nat) (pasid : Option Nat) (page size itag : Nat) (s : State) : Answer :=
  settled s (atsInvalidate s b f pasid page size itag)

/-- HOST_ACCESS_COMPLETION (R390). A host read or write completes; an error fails the access with the owning chapter's fault. -/
def execHostAccessCompletion (b id : Nat) (r : HostResult) (s : State) : Answer := settled s (hostAccessCompletion s b id r)

/-- COMPLETION_TIMEOUT (R390). A host request's completion timeout expires, which fails the access. -/
def execCompletionTimeout (b id : Nat) (s : State) : Answer := settled s (completionTimeout s b id)

/-- IDE_INTEGRITY_FAILURE (R391). An IDE stream detects an integrity failure and becomes Insecure. -/
def execIdeIntegrityFailure (b stream : Nat) (s : State) : Answer := settled s (ideFailure s b stream)

/-- IDE_KM (R391). IDE_KM through the PF DOE programs the keys of a stream. -/
def execIdeKm (b index stream : Nat) (s : State) : Answer := settled s (ideKm s b index stream)

/-- MSIX_UNMASK (R393). A vector is unmasked and its pending message is sent once. -/
def execMsixUnmask (b f vec : Nat) (s : State) : Answer := settled s (msixUnmask s b f vec)

/-- HOST_SNOOP (R388). A host CXL.cache snoop reaches the bridge, which answers RspIHitI. -/
def execHostSnoop (b addr : Nat) (s : State) : Answer := settled s (hostSnoop s b addr)

/-- HOST_LINK_ERROR (R373). A received CXL viral indication or a correctable link error is recorded as HOST_LINK_ERROR and counted in HIF.LINK.LINK_ERRORS. -/
def execHostLinkError (b h : Nat) (viral : Bool) (s : State) : Answer := settled s (hostLinkError s b h viral)

end Sys2Proof.Machine
end

