-- ==== Sys2Proof/Machine/LedgerCommands.lean ====
section
/-! DEFINITION. The meanings of the commands of the lifetime ledger (chapter 18). -/

namespace Sys2Proof.Machine

/-- CHECKPOINT (R540). The firmware writes a checkpoint of the lifetime counters. -/
def execCheckpoint (s : State) : Answer := settled s (checkpoint s)

/-- LEDGER_READ (R550). Ledger lines are returned with their ECC status. -/
def execLedgerRead (party line count : Nat) (s : State) : Answer := settled s (mctpReach s (ledgerRead s party line count))

/-- LEDGER_FLUSH (R550). A checkpoint is started by MCTP or LDG.CTRL.FLUSH and answered on completion. -/
def execLedgerFlush (from_ : CtrlFrom) (s : State) : Answer := settled s (ledgerFlushFrom s from_)

/-- SET_CALENDAR (R546). A calendar anchor is recorded. -/
def execSetCalendar (party secs nanos : Nat) (s : State) : Answer := settled s (mctpReach s (setCalendar s party secs nanos))

/-- LEDGER_STATUS (R550). The ledger status registers are returned. -/
def execLedgerStatus (party : Nat) (s : State) : Answer := settled s (mctpReach s (ledgerStatus s party))

/-- READ_ADDR_WRITE (R550). A write to LDG.READ_ADDR starts a read of that line into READ_DATA. -/
def execReadAddrWrite (a : Accessor) (x : RegPart) (s : State) : Answer := settled s (registerWrite s a 0x50100 x)

end Sys2Proof.Machine
end

