-- ==== Sys2Proof/Machine/LoaderCommands.lean ====
section
/-! DEFINITION. The meanings of the commands of the loader (chapter 5). -/

namespace Sys2Proof.Machine

/-- KLB_OPEN (R171). The loader reads and checks an image. -/
def execKlbOpen (file : List Byte) (s : State) : Answer := settled s (klbOpen s file)

/-- KLB_BIND (R171). The loader binds an import. -/
def execKlbBind (handle : Nat) (name : List Byte) (value : Nat) (s : State) : Answer := settled s (klbBind s handle name value)

/-- KLB_PLACE (R166). The loader chooses F and computes a placement. -/
def execKlbPlace (handle part : Nat) (s : State) : Answer := settled s (klbPlace s handle part)

/-- KLB_LOAD (R173). The loader stages the commit, relocates, patches and writes code, data and registers. -/
def execKlbLoad (handle rs : Nat) (s : State) : Answer := settled s (klbLoad s handle rs)

/-- KLB_START (R163). The loader injects the start tokens. -/
def execKlbStart (handle rs : Nat) (s : State) : Answer := settled s (klbStart s handle rs)

/-- KLB_UNLOAD (R171). The loader releases the load contexts and proposes removal of the bindings. -/
def execKlbUnload (handle rs : Nat) (s : State) : Answer := settled s (klbUnload s handle rs)

/-- KLB_QUERY (R171). The loader reports the placement of a virtual tile. -/
def execKlbQuery (handle vt : Nat) (s : State) : Answer := settled s (klbQuery s handle vt)

end Sys2Proof.Machine
end

