-- ==== Sys2Proof/Machine/LockCommands.lean ====
section
/-! DEFINITION. The meanings of the commands of the lock unit (chapter 12). -/

namespace Sys2Proof.Machine

/-- ACQUIRE (R357). The lock unit evaluates ACQUIRE: it grants the cell, queues the request, or refuses it. -/
def execAcquire (rq : Rq) (word slot : Nat) (s : State) : Answer := settled s (lockRequest s rq { op := .acquire, word := word, slot := slot })

/-- TRY (R357). The lock unit evaluates TRY: it grants the cell, or answers LOCK_BUSY and may leave a watch. -/
def execTryLock (rq : Rq) (word slot : Nat) (s : State) : Answer := settled s (lockRequest s rq { op := .try_, word := word, slot := slot })

/-- RELEASE (R357). The lock unit releases a mutex to the head waiter or to FREE, waking watches. -/
def execRelease (rq : Rq) (word slot : Nat) (s : State) : Answer := settled s (lockRequest s rq { op := .release, word := word, slot := slot })

/-- SEM_ACQUIRE (R357). The lock unit takes semaphore units, queues the request, or answers LOCK_BUSY. -/
def execSemAcquire (rq : Rq) (word slot : Nat) (s : State) : Answer := settled s (lockRequest s rq { op := .semAcquire, word := word, slot := slot })

/-- SEM_RELEASE (R357). The lock unit adds semaphore units and grants waiters. -/
def execSemRelease (rq : Rq) (word slot : Nat) (s : State) : Answer := settled s (lockRequest s rq { op := .semRelease, word := word, slot := slot })

/-- CANCEL (R357). The lock unit removes a host requester's waiter. -/
def execCancel (rq : Rq) (word slot : Nat) (s : State) : Answer := settled s (lockRequest s rq { op := .cancel, word := word, slot := slot })

/-- FORCE (R365). The supervisor forces a cell to its head waiter or to FREE, or resets a semaphore count. -/
def execForce (rq : Rq) (word slot : Nat) (s : State) : Answer := settled s (lockRequest s rq { op := .force, word := word, slot := slot })

/-- LOCK_WAIT_LIMIT (R360). A waiter's WAIT_LIMIT expires and it is answered TIMEOUT. -/
def execLockWaitLimit (rq : Rq) (s : State) : Answer := settled s (lockWaitLimit s rq)

/-- ORPHAN_NOTIFY (R363). The lock unit removes a requester's waiters and watches and orphans the cells it holds. -/
def execOrphanNotify (src rq part : Nat) (s : State) : Answer := settled s (orphanNotify s src rq part)

end Sys2Proof.Machine
end

