-- ==== Sys2Proof/Machine/NetworkCommands.lean ====
section
/-! DEFINITION. The meanings of the commands of the tree network (chapter 11). -/

namespace Sys2Proof.Machine

/-- FLIT_RECEIVE (R336). A link receiver checks the CRC that came with a flit, and its FSEQ, and accepts a flit, NAKs it or discards it as a duplicate. -/
def execFlitReceive (r p : Nat) (down : Bool) (fseq : Nat) (crc : Nat) (f : Flit) (s : State) : Answer :=
  settled s (flitReceive s r p down fseq crc f)

/-- LINK_NAK (R336). A NAK reaches the link sender, which resends from the expected FSEQ. -/
def execLinkNak (r p : Nat) (down : Bool) (seq : Nat) (s : State) : Answer := settled s (linkNak s r p down seq)

/-- ROUTER_FORWARD (R332). A router output arbitrates a flit slot and forwards a flit along its route. -/
def execRouterForward (r o : Nat) (s : State) : Answer := settled s (routerForward s r o)

/-- CREDIT_RETURN (R327). A credit returns to a link sender for a freed buffer slot. -/
def execCreditReturn (r p cls : Nat) (toUnit : Bool) (s : State) : Answer := settled s (creditReturn s r p cls toUnit)

/-- TOKEN_ACK (R588). A TOKEN_ACK reaches the sender and marks the covered packets accepted. -/
def execTokenAck (unit src part n : Nat) (s : State) : Answer := settled s (tokenAckArrival s unit src part n)

/-- E2E_TIMER_EXPIRY (R340). A requester's end-to-end timer expires, and the request is repeated or abandoned with E2E_TIMEOUT. -/
def execE2eTimerExpiry (unit : Nat) (t : E2eTimer) (s : State) : Answer := settled s (e2eTimer s unit t)

/-- REPLAY_PURGE (R342). A replay-cache target removes a requester's entries and acknowledges. -/
def execReplayPurge (target src rq part : Nat) (s : State) : Answer := settled s (replayPurge s target src rq part)

/-- REPLAY_PURGE_ACK (R342). A purge acknowledgement reaches the requester, which may send cached requests again after all seven arrive. -/
def execReplayPurgeAck (unit target rq part : Nat) (s : State) : Answer := settled s (replayPurgeAck s unit target rq part)

/-- READ_WORD (R326). A target checks and answers a word read. -/
def execReadWord (u : Nat) (rq : Rq) (m : MemWord) (s : State) : Answer := settled s (readWord s u rq m)

/-- READ_LINE (R326). A target checks and answers a line read. -/
def execReadLine (u : Nat) (rq : Rq) (m : MemWord) (s : State) : Answer := settled s (readLine s u rq m)

/-- READ_BULK (R326). A target checks and answers a 256-byte read. -/
def execReadBulk (u : Nat) (rq : Rq) (m : MemWord) (s : State) : Answer := settled s (readBulk s u rq m)

/-- WRITE_WORD (R326). A target checks and performs a word write. -/
def execWriteWord (u : Nat) (rq : Rq) (m : MemWord) (width : Nat) (x : PWord) (s : State) : Answer := settled s (writeWord s u rq m width x)

/-- AADD_REQUEST (R326). A target checks and performs an atomic add. -/
def execAaddRequest (u : Nat) (rq : Rq) (m : MemWord) (width : Nat) (x : W64) (s : State) : Answer := settled s (aaddRequest s u rq m width x)

/-- LINE_WRITE (R323). A target checks and writes a line write, or a bulk line write, and answers WRITE_ACK. -/
def execLineWrite (u : Nat) (rq : Rq) (line xfer : Nat) (bulk : Bool) (data : List Byte) (poison : Nat) (s : State) : Answer :=
  settled s (lineWrite s u rq line xfer bulk data poison)

/-- HOST_BASE (R323). A bridge records the host base of a transfer slot. -/
def execHostBase (u : Nat) (rq : Rq) (xfer iova : Nat) (s : State) : Answer := settled s (hostBase s u rq xfer iova)

/-- EVENT_SET (R105). A tile sets a TIL.EVENT bit and wakes a waiting WAITEV. -/
def execEventSet (u : Nat) (rq : Rq) (mask : Nat) (s : State) : Answer := settled s (eventSet s u rq mask)

/-- PROBE_SEL_WRITE (R349). A write to a probe register is applied, or refused while ENABLE is set; setting ENABLE clears the count. -/
def execProbeSelWrite (a : Accessor) (k : Nat) (reg : ProbeReg) (x : RegPart) (s : State) : Answer := settled s (probeRegWrite s a k reg x)

/-- CAP_CTRL_WRITE (R348). A write to NOC.CAP_CTRL is applied; setting ENABLE clears CAP_STAT. -/
def execCapCtrlWrite (a : Accessor) (x : RegPart) (s : State) : Answer := settled s (registerWrite s a 0x200400 x)

/-- TOKEN_ACK_SEND (R588). A destination sends one TOKEN_ACK covering the ACK packets it has counted from a source, no later than 32 cc after the first of them. -/
def execTokenAckSend (u src : Nat) (s : State) : Answer := settled s (tokenAckSend s u src)

/-- LINK_ACKNOWLEDGEMENT (R336). A cumulative ACK reaches a link sender, which frees the acknowledged flits from its replay buffer. -/
def execLinkAcknowledgement (r p : Nat) (down : Bool) (seq : Nat) (s : State) : Answer := settled s (linkAck s r p down seq)

/-- IDLE_SCRUB (R344). Router buffers, and the other units without slices, are scrubbed in idle cycles, and corrected or uncorrectable errors are raised. -/
def execIdleScrub (x : ScrubTarget) (s : State) : Answer := settled s (idleScrub s x)

end Sys2Proof.Machine
end

