-- ==== Sys2Proof/Machine/NodeCommands.lean ====
section
/-! DEFINITION. The meanings of the commands of node code (chapter 3). -/

namespace Sys2Proof.Machine

/-- NOP (R86). Node-code NOP does nothing. -/
def execNop (u : Nat) (s : State) : Answer := settled s (issue s u (fun o => decide (o = .nop)) (fun i s => runNop u i s))

/-- DONE (R102). DONE ends the node and discards its stack cache. -/
def execDone (u : Nat) (s : State) : Answer := settled s (issue s u (fun o => decide (o = .done)) (fun _ s => runDone u s))

/-- RET (R108). RET pops a frame, restores the saved registers and branches. -/
def execRet (u : Nat) (s : State) : Answer := settled s (issue s u (fun o => decide (o = .ret)) (fun _ s => doRet s u))

/-- RETT (R112). RETT leaves the trap bank and resumes at t1. -/
def execRett (u : Nat) (s : State) : Answer := settled s (issue s u (fun o => decide (o = .rett)) (fun _ s => runRett u s))

/-- BR (R110). BR branches relative to the next instruction, within the code region. -/
def execBr (u : Nat) (s : State) : Answer := settled s (issue s u (fun o => decide (o = .br)) (fun i s => runBr u i s))

/-- CALL (R107). CALL pushes a frame with the masked registers and branches, or traps on the stack limit. -/
def execCall (u : Nat) (s : State) : Answer := settled s (issue s u (fun o => decide (o = .call)) (fun i s => runCall u i s))

/-- CALLR (R107). CALLR calls the target address held in a register. -/
def execCallr (u : Nat) (s : State) : Answer := settled s (issue s u (fun o => decide (o = .callr)) (fun i s => runCallr u i s))

/-- JR (R110). JR jumps to the address held in a register. -/
def execJr (u : Nat) (s : State) : Answer := settled s (issue s u (fun o => decide (o = .jr)) (fun i s => runJr u i s))

/-- TRAP (R111). TRAP enters the trap bank with cause SOFTWARE, or raises TRAP_UNHANDLED. -/
def execTrap (u : Nat) (s : State) : Answer := settled s (issue s u (fun o => decide (o = .trap)) (fun i s => runTrap u i s))

/-- FENCE (R92). FENCE stalls the thread until every earlier store, AADD and send has been accepted by its target. -/
def execFence (u : Nat) (s : State) : Answer := settled s (issue s u (fun o => decide (o = .fence)) (fun i s => runFence u i s))

/-- ADD (R88). Integer add of two registers. -/
def execAdd (u : Nat) (s : State) : Answer := settled s (issue s u (fun o => decide (o = .alu .add)) (fun i s => runAlu u i .add s))

/-- SUB (R88). Integer subtract of two registers. -/
def execSub (u : Nat) (s : State) : Answer := settled s (issue s u (fun o => decide (o = .alu .sub)) (fun i s => runAlu u i .sub s))

/-- MUL (R88). Integer multiply, low half of the product. -/
def execMul (u : Nat) (s : State) : Answer := settled s (issue s u (fun o => decide (o = .alu .mul)) (fun i s => runAlu u i .mul s))

/-- MULHU (R88). Unsigned multiply, high half of the product. -/
def execMulhu (u : Nat) (s : State) : Answer := settled s (issue s u (fun o => decide (o = .alu .mulhu)) (fun i s => runAlu u i .mulhu s))

/-- MULHS (R88). Signed multiply, high half of the product. -/
def execMulhs (u : Nat) (s : State) : Answer := settled s (issue s u (fun o => decide (o = .alu .mulhs)) (fun i s => runAlu u i .mulhs s))

/-- DIVU (R88). Unsigned divide. -/
def execDivu (u : Nat) (s : State) : Answer := settled s (issue s u (fun o => decide (o = .alu .divu)) (fun i s => runAlu u i .divu s))

/-- DIVS (R88). Signed divide. -/
def execDivs (u : Nat) (s : State) : Answer := settled s (issue s u (fun o => decide (o = .alu .divs)) (fun i s => runAlu u i .divs s))

/-- REMU (R88). Unsigned remainder. -/
def execRemu (u : Nat) (s : State) : Answer := settled s (issue s u (fun o => decide (o = .alu .remu)) (fun i s => runAlu u i .remu s))

/-- AND (R88). Bitwise AND. -/
def execAnd (u : Nat) (s : State) : Answer := settled s (issue s u (fun o => decide (o = .alu .and)) (fun i s => runAlu u i .and s))

/-- OR (R88). Bitwise OR. -/
def execOr (u : Nat) (s : State) : Answer := settled s (issue s u (fun o => decide (o = .alu .or)) (fun i s => runAlu u i .or s))

/-- XOR (R88). Bitwise XOR. -/
def execXor (u : Nat) (s : State) : Answer := settled s (issue s u (fun o => decide (o = .alu .xor)) (fun i s => runAlu u i .xor s))

/-- SHL (R88). Shift left. -/
def execShl (u : Nat) (s : State) : Answer := settled s (issue s u (fun o => decide (o = .alu .shl)) (fun i s => runAlu u i .shl s))

/-- SHR (R88). Logical shift right. -/
def execShr (u : Nat) (s : State) : Answer := settled s (issue s u (fun o => decide (o = .alu .shr)) (fun i s => runAlu u i .shr s))

/-- SAR (R88). Arithmetic shift right. -/
def execSar (u : Nat) (s : State) : Answer := settled s (issue s u (fun o => decide (o = .alu .sar)) (fun i s => runAlu u i .sar s))

/-- MINS (R88). Signed minimum. -/
def execMins (u : Nat) (s : State) : Answer := settled s (issue s u (fun o => decide (o = .alu .mins)) (fun i s => runAlu u i .mins s))

/-- MAXS (R88). Signed maximum. -/
def execMaxs (u : Nat) (s : State) : Answer := settled s (issue s u (fun o => decide (o = .alu .maxs)) (fun i s => runAlu u i .maxs s))

/-- ADDI (R88). Add an immediate. -/
def execAddi (u : Nat) (s : State) : Answer := settled s (issue s u (fun o => decide (o = .alui .add)) (fun i s => runAlui u i .add s))

/-- SUBI (R88). Subtract an immediate. -/
def execSubi (u : Nat) (s : State) : Answer := settled s (issue s u (fun o => decide (o = .alui .sub)) (fun i s => runAlui u i .sub s))

/-- MULI (R88). Multiply by an immediate. -/
def execMuli (u : Nat) (s : State) : Answer := settled s (issue s u (fun o => decide (o = .alui .mul)) (fun i s => runAlui u i .mul s))

/-- MULHUI (R88). Unsigned multiply-high by an immediate. -/
def execMulhui (u : Nat) (s : State) : Answer := settled s (issue s u (fun o => decide (o = .alui .mulhu)) (fun i s => runAlui u i .mulhu s))

/-- MULHSI (R88). Signed multiply-high by an immediate. -/
def execMulhsi (u : Nat) (s : State) : Answer := settled s (issue s u (fun o => decide (o = .alui .mulhs)) (fun i s => runAlui u i .mulhs s))

/-- DIVUI (R88). Unsigned divide by an immediate. -/
def execDivui (u : Nat) (s : State) : Answer := settled s (issue s u (fun o => decide (o = .alui .divu)) (fun i s => runAlui u i .divu s))

/-- DIVSI (R88). Signed divide by an immediate. -/
def execDivsi (u : Nat) (s : State) : Answer := settled s (issue s u (fun o => decide (o = .alui .divs)) (fun i s => runAlui u i .divs s))

/-- REMUI (R88). Unsigned remainder by an immediate. -/
def execRemui (u : Nat) (s : State) : Answer := settled s (issue s u (fun o => decide (o = .alui .remu)) (fun i s => runAlui u i .remu s))

/-- ANDI (R88). AND with an immediate. -/
def execAndi (u : Nat) (s : State) : Answer := settled s (issue s u (fun o => decide (o = .alui .and)) (fun i s => runAlui u i .and s))

/-- ORI (R88). OR with an immediate. -/
def execOri (u : Nat) (s : State) : Answer := settled s (issue s u (fun o => decide (o = .alui .or)) (fun i s => runAlui u i .or s))

/-- XORI (R88). XOR with an immediate. -/
def execXori (u : Nat) (s : State) : Answer := settled s (issue s u (fun o => decide (o = .alui .xor)) (fun i s => runAlui u i .xor s))

/-- SHLI (R88). Shift left by an immediate. -/
def execShli (u : Nat) (s : State) : Answer := settled s (issue s u (fun o => decide (o = .alui .shl)) (fun i s => runAlui u i .shl s))

/-- SHRI (R88). Logical shift right by an immediate. -/
def execShri (u : Nat) (s : State) : Answer := settled s (issue s u (fun o => decide (o = .alui .shr)) (fun i s => runAlui u i .shr s))

/-- SARI (R88). Arithmetic shift right by an immediate. -/
def execSari (u : Nat) (s : State) : Answer := settled s (issue s u (fun o => decide (o = .alui .sar)) (fun i s => runAlui u i .sar s))

/-- MINSI (R88). Signed minimum with an immediate. -/
def execMinsi (u : Nat) (s : State) : Answer := settled s (issue s u (fun o => decide (o = .alui .mins)) (fun i s => runAlui u i .mins s))

/-- MAXSI (R88). Signed maximum with an immediate. -/
def execMaxsi (u : Nat) (s : State) : Answer := settled s (issue s u (fun o => decide (o = .alui .maxs)) (fun i s => runAlui u i .maxs s))

/-- CMPEQ (R89). Compare for equality into a predicate. -/
def execCmpeq (u : Nat) (s : State) : Answer := settled s (issue s u (fun o => decide (o = .cmp .eq)) (fun i s => runCmp u i .eq s))

/-- CMPNE (R89). Compare for inequality into a predicate. -/
def execCmpne (u : Nat) (s : State) : Answer := settled s (issue s u (fun o => decide (o = .cmp .ne)) (fun i s => runCmp u i .ne s))

/-- CMPLTS (R89). Signed less-than into a predicate. -/
def execCmplts (u : Nat) (s : State) : Answer := settled s (issue s u (fun o => decide (o = .cmp .lts)) (fun i s => runCmp u i .lts s))

/-- CMPLTU (R89). Unsigned less-than into a predicate. -/
def execCmpltu (u : Nat) (s : State) : Answer := settled s (issue s u (fun o => decide (o = .cmp .ltu)) (fun i s => runCmp u i .ltu s))

/-- CMPLES (R89). Signed less-or-equal into a predicate. -/
def execCmples (u : Nat) (s : State) : Answer := settled s (issue s u (fun o => decide (o = .cmp .les)) (fun i s => runCmp u i .les s))

/-- CMPLEU (R89). Unsigned less-or-equal into a predicate. -/
def execCmpleu (u : Nat) (s : State) : Answer := settled s (issue s u (fun o => decide (o = .cmp .leu)) (fun i s => runCmp u i .leu s))

/-- PLOG (R89). Logic operation on two predicates. -/
def execPlog (u : Nat) (s : State) : Answer := settled s (issue s u (fun o => decide (o = .plog)) (fun i s => runPlog u i s))

/-- MOV (R80). Register copy, with poison copied. -/
def execMov (u : Nat) (s : State) : Answer := settled s (issue s u (fun o => decide (o = .mov)) (fun i s => runMov u i s))

/-- MOVI (R84). Load an immediate into a register. -/
def execMovi (u : Nat) (s : State) : Answer := settled s (issue s u (fun o => decide (o = .movi)) (fun i s => runMovi u i s))

/-- MOVT (R112). Read a trap register inside the trap bank. -/
def execMovt (u : Nat) (s : State) : Answer := settled s (issue s u (fun o => decide (o = .movt)) (fun i s => runMovt u i s))

/-- MOVTW (R112). Write a trap register inside the trap bank. -/
def execMovtw (u : Nat) (s : State) : Answer := settled s (issue s u (fun o => decide (o = .movtw)) (fun i s => runMovtw u i s))

/-- RDSYS (R86). Read the system value that the selector of Table 3.5 names. -/
def execRdsys (u : Nat) (s : State) : Answer := settled s (issue s u (fun o => decide (o = .rdsys)) (fun i s => runRdsys u i s))

/-- FADD (R90). Binary32 add. -/
def execFadd (u : Nat) (s : State) : Answer := settled s (issue s u (fun o => decide (o = .flt .fadd)) (fun i s => runFlt u i .fadd s))

/-- FSUB (R90). Binary32 subtract. -/
def execFsub (u : Nat) (s : State) : Answer := settled s (issue s u (fun o => decide (o = .flt .fsub)) (fun i s => runFlt u i .fsub s))

/-- FMUL (R90). Binary32 multiply. -/
def execFmul (u : Nat) (s : State) : Answer := settled s (issue s u (fun o => decide (o = .flt .fmul)) (fun i s => runFlt u i .fmul s))

/-- FDIV (R90). Binary32 divide. -/
def execFdiv (u : Nat) (s : State) : Answer := settled s (issue s u (fun o => decide (o = .flt .fdiv)) (fun i s => runFlt u i .fdiv s))

/-- FMIN (R90). IEEE minimum. -/
def execFmin (u : Nat) (s : State) : Answer := settled s (issue s u (fun o => decide (o = .flt .fmin)) (fun i s => runFlt u i .fmin s))

/-- FMAX (R90). IEEE maximum. -/
def execFmax (u : Nat) (s : State) : Answer := settled s (issue s u (fun o => decide (o = .flt .fmax)) (fun i s => runFlt u i .fmax s))

/-- FMA (R90). Fused multiply-add with a single rounding. -/
def execFma (u : Nat) (s : State) : Answer := settled s (issue s u (fun o => decide (o = .flt .fma)) (fun i s => runFlt u i .fma s))

/-- FCVT (R90). Format conversion chosen by the selector. -/
def execFcvt (u : Nat) (s : State) : Answer := settled s (issue s u (fun o => decide (o = .fcvt)) (fun i s => runFcvt u i s))

/-- LD (R91). Zero-extending load through the tile address windows. -/
def execLd (u : Nat) (s : State) : Answer := settled s (issue s u (fun o => decide (o = .ld)) (fun i s => runLoad u i false s))

/-- LDS (R91). Sign-extending load. -/
def execLds (u : Nat) (s : State) : Answer := settled s (issue s u (fun o => decide (o = .lds)) (fun i s => runLoad u i true s))

/-- ST (R91). Store with poison carried. -/
def execSt (u : Nat) (s : State) : Answer := settled s (issue s u (fun o => decide (o = .st)) (fun i s => runStore u i s))

/-- AADD (R91). Atomic add to a frame or stand-buffer word that returns the old value. -/
def execAadd (u : Nat) (s : State) : Answer := settled s (issue s u (fun o => decide (o = .aadd)) (fun i s => runAadd u i s))

/-- SEND (R95). Send a normal token, tagged through the trail-tag prefix when it is present. -/
def execSend (u : Nat) (s : State) : Answer := settled s (issue s u (fun o => decide (o = .send)) (fun i s => runSend u i false s))

/-- SENDS (R95). Send a sticky token. -/
def execSends (u : Nat) (s : State) : Answer := settled s (issue s u (fun o => decide (o = .sends)) (fun i s => runSend u i true s))

/-- SENDR (R95). Send a token whose whole tag comes from a register. -/
def execSendr (u : Nat) (s : State) : Answer := settled s (issue s u (fun o => decide (o = .sendr)) (fun i s => runSendr u i s))

/-- SENDC (R95). Send a CTX_PURGE control token. -/
def execSendc (u : Nat) (s : State) : Answer := settled s (issue s u (fun o => decide (o = .sendc)) (fun i s => runSendc u i s))

/-- CTXA (R98). Request a context allocation. -/
def execCtxa (u : Nat) (s : State) : Answer := settled s (issue s u (fun o => decide (o = .ctxa)) (fun i s => runCtxa u i s))

/-- CTXR (R98). Release a context, blocking until the release completes. -/
def execCtxr (u : Nat) (s : State) : Answer := settled s (issue s u (fun o => decide (o = .ctxr)) (fun i s => runCtxr u i s))

/-- SPAWN (R99). Submit an activation, blocking while admission lacks space. -/
def execSpawn (u : Nat) (s : State) : Answer := settled s (issue s u (fun o => decide (o = .spawn)) (fun i s => runSpawn u i false s))

/-- SPAWN_TRY (R99). Submit an activation without blocking. -/
def execSpawnTry (u : Nat) (s : State) : Answer := settled s (issue s u (fun o => decide (o = .spawnTry)) (fun i s => runSpawn u i true s))

/-- TAKE (R100). Block until a pull activation of the class is dispatched to the tile, or until the limit passes. -/
def execTake (u : Nat) (s : State) : Answer := settled s (issue s u (fun o => decide (o = .take)) (fun i s => runTake u i s))

/-- COMPLETE (R101). Report an activation complete once earlier accesses have been accepted. -/
def execComplete (u : Nat) (s : State) : Answer := settled s (issue s u (fun o => decide (o = .complete)) (fun i s => runComplete u i s))

/-- LOCKSTEP (R103). Enter a lockstep kernel at the given entry. -/
def execLockstep (u : Nat) (s : State) : Answer := settled s (issue s u (fun o => decide (o = .lockstep)) (fun i s => runLockstep u i s))

/-- LACQ (R104). Send ACQUIRE for a lock cell and block until the answer. -/
def execLacq (u : Nat) (s : State) : Answer := settled s (issue s u (fun o => decide (o = .lacq)) (fun i s => runLock u i .acquire s))

/-- LTRY (R104). Send TRY for a lock cell. -/
def execLtry (u : Nat) (s : State) : Answer := settled s (issue s u (fun o => decide (o = .ltry)) (fun i s => runLock u i .try_ s))

/-- LREL (R104). Send RELEASE for a lock cell. -/
def execLrel (u : Nat) (s : State) : Answer := settled s (issue s u (fun o => decide (o = .lrel)) (fun i s => runLock u i .release s))

/-- SACQ (R104). Send SEM_ACQUIRE and block until the answer. -/
def execSacq (u : Nat) (s : State) : Answer := settled s (issue s u (fun o => decide (o = .sacq)) (fun i s => runLock u i .semAcquire s))

/-- SREL (R104). Send SEM_RELEASE. -/
def execSrel (u : Nat) (s : State) : Answer := settled s (issue s u (fun o => decide (o = .srel)) (fun i s => runLock u i .semRelease s))

/-- WAITEV (R105). Block until a selected TIL.EVENT bit is set or the limit passes. -/
def execWaitev (u : Nat) (s : State) : Answer := settled s (issue s u (fun o => decide (o = .waitev)) (fun i s => runWaitev u i s))

/-- WAITEV_TIMEOUT (R105). The WAITEV limit expires and rd receives zero. -/
def execWaitevTimeout (u : Nat) (s : State) : Answer := settled s (waitevTimeout s u)

/-- TAKE_TIMEOUT (R246). A TAKE's limit expires at the tile and a cancellation is sent. -/
def execTakeTimeout (u : Nat) (s : State) : Answer := settled s (takeTimeout s u)

/-- VBCAST (R586). Broadcast a g register into every lane. -/
def execVbcast (u : Nat) (s : State) : Answer := settled s (issue s u (fun o => decide (o = .vbcast)) (fun i s => runVbcast u i s))

/-- VEXT (R586). Extract a lane to a g register. -/
def execVext (u : Nat) (s : State) : Answer := settled s (issue s u (fun o => decide (o = .vext)) (fun i s => runVext u i s))

/-- VINS (R586). Insert a g register into a lane. -/
def execVins (u : Nat) (s : State) : Answer := settled s (issue s u (fun o => decide (o = .vins)) (fun i s => runVins u i s))

/-- VRED (R586). Reduce the lanes by sum, minimum, maximum or float sum. -/
def execVred (u : Nat) (s : State) : Answer := settled s (issue s u (fun o => decide (o = .vred)) (fun i s => runVred u i s))

end Sys2Proof.Machine
end

