-- ==== Sys2Proof/Machine/OverspillCommands.lean ====
section
/-! DEFINITION. The meanings of the commands of token pressure and overspill (chapter 10). -/

namespace Sys2Proof.Machine

/-- EVICTION_EPISODE (R295). When STORE_WAIT reaches its threshold, the tile selects victims, marks them PENDING and sends SPILLs. -/
def execEvictionEpisode (u : Nat) (s : State) : Answer := settled s (evictionEpisode s u)

/-- UNFIRE (R298). When FIRE_WAIT reaches its threshold, the tile spills a held fired instance and records it in the refire list. -/
def execUnfire (u : Nat) (s : State) : Answer := settled s (unfire s u)

/-- MONITOR_HOLD_OFF_END (R294). The monitor's hold-off after a fruitless or refused order expires. -/
def execMonitorHoldOffEnd (u : Nat) (s : State) : Answer := settled s (holdOffEnd s u)

/-- SPILL (R302). The overspill agent inserts spilled tokens into the region, or refuses or holds the SPILL. -/
def execSpill (rq : Rq) (toks : List (Token × Nat)) (s : State) : Answer := settled s (spill s rq toks)

/-- SPILL_ANSWER (R296). A SPILL acknowledgement frees its entries, or a refusal returns them to matching. -/
def execSpillAnswer (unit src part tag : Nat) (r : Resp) (s : State) : Answer := settled s (spillAnswerArrival s unit src part tag r)

/-- FETCH (R306). The agent removes up to 4 matching live slots and returns them with MORE. -/
def execFetch (rq : Rq) (key : Nat) (s : State) : Answer := settled s (fetch s rq key)

/-- FETCH_DATA (R307). Fetched tokens reach the tile's fetch buffer; a set MORE bit sends another FETCH. -/
def execFetchData (unit src part tag : Nat) (r : Resp) (s : State) : Answer := settled s (fetchDataArrival s unit src part tag r)

/-- FETCH_BUFFER_INJECT (R307). A fetched token is injected into the input queue as kind 3, or discarded for an ended context. -/
def execFetchBufferInject (u : Nat) (s : State) : Answer := settled s (fetchInject s u)

/-- REFIRE_FETCH (R299). The tile issues a fetch-back for the oldest refire key when the fire queue is low enough. -/
def execRefireFetch (u : Nat) (s : State) : Answer := settled s (refireFetch s u)

/-- CTX_NOTICE (R308). The agent ends a context's epoch on a release notice and acknowledges with the count. -/
def execCtxNotice (rq : Rq) (ctx : Nat) (s : State) : Answer := settled s (ctxNotice s rq ctx)

/-- SWEEP (R309). The agent sweeps buckets to clear stale slots and sends reclaim notices. -/
def execSweep (p : Nat) (s : State) : Answer := settled s (sweep s p)

/-- RECLAIM (R309). A tile lowers SPILLED on a reclaim notice. -/
def execReclaim (u : Nat) (rq : Rq) (n : Nat) (s : State) : Answer := settled s (reclaim s u rq n)

/-- OVERSPILL_ENABLE (R300). OVERSPILL_CONFIG enables a DISABLED region. -/
def execOverspillEnable (rs : Nat) (s : State) : Answer := settled s (overspillDesc s rs 1)

/-- OVERSPILL_DISABLE (R300). OVERSPILL_CONFIG disables an empty region. -/
def execOverspillDisable (rs : Nat) (s : State) : Answer := settled s (overspillDesc s rs 0)

end Sys2Proof.Machine
end

