-- ==== Sys2Proof/Machine/RegisterCommands.lean ====
section
/-! DEFINITION. The meanings of the commands of register accesses (chapters 0, 1, 13 and 20). -/

namespace Sys2Proof.Machine

/-- REGISTER_WRITE (R15). A write to a register without a row of its own is applied, or is refused as a whole and the refusal is recorded on its path. -/
def execRegisterWrite (a : Accessor) (off size value : Nat) (s : State) : Answer := settled s (bar0Write s a off size value)

/-- BAR0_INVALID_ACCESS (R35). A BAR0 access of bad size or alignment, to a reserved range, to a removed tile window or outside the VF view returns zero or is discarded, and is logged in CLR.ACCESS_ERR. -/
def execBar0InvalidAccess (a : Accessor) (off size : Nat) (value : Option Nat) (s : State) : Answer := settled s (bar0Access s a off size value)

/-- FOREST_TIME_LOW_READ (R31). A 4-byte read of the low half of CLR.FOREST_TIME copies the high half into the requesting function's shadow. -/
def execForestTimeLowRead (a : Accessor) (s : State) : Answer := settled s (bar0Read s a 0x30 4)

/-- FOREST_TIME_HIGH_READ (R31). A 4-byte read of the high half of CLR.FOREST_TIME returns and empties the shadow, or returns the live value when the shadow is empty. -/
def execForestTimeHighRead (a : Accessor) (s : State) : Answer := settled s (bar0Read s a 0x34 4)

/-- REGISTER_READ_CLEAR (R580). A read of an RC field, such as TIL.TOKEN_HWM or LCK.POOL.HWM, returns the field and clears it. -/
def execRegisterReadClear (a : Accessor) (off size : Nat) (s : State) : Answer := settled s (bar0Read s a off size)

end Sys2Proof.Machine
end

