-- ==== Sys2Proof/Machine/RingCommands.lean ====
section
/-! DEFINITION. The meanings of the commands of ring sets and descriptors (chapter 14). -/

namespace Sys2Proof.Machine

/-- SQ_PI_WRITE (R398). A doorbell write to SQ_PI announces descriptors, or is ignored or refused. -/
def execSqPiWrite (b f page value : Nat) (s : State) : Answer :=
  settled s (barWrite s b { fn := f, page := page, off := 0, size := 4, value := value })

/-- CQ_CI_WRITE (R398). A write to CQ_CI frees completion slots, or is ignored or refused. -/
def execCqCiWrite (b f page value : Nat) (s : State) : Answer :=
  settled s (barWrite s b { fn := f, page := page, off := 4, size := 4, value := value })

/-- RING_ENABLE (R400). Writing 1 to CTRL.ENABLE enables the ring set, or refuses the enable. -/
def execRingEnable (b f page : Nat) (s : State) : Answer := settled s (barWrite s b { fn := f, page := page, off := 0x38, size := 4, value := 1 })

/-- RING_DISABLE (R402). Writing 0 to CTRL.ENABLE drains the ring set to DISABLED. -/
def execRingDisable (b f page : Nat) (s : State) : Answer := settled s (barWrite s b { fn := f, page := page, off := 0x38, size := 4, value := 0 })

/-- BAR2_REGISTER_WRITE (R396). A write to another doorbell-page register is applied, or refused and REFUSED set. -/
def execBar2RegisterWrite (b f page off size value : Nat) (s : State) : Answer :=
  settled s (barWrite s b { fn := f, page := page, off := off, size := size, value := value })

/-- DESCRIPTOR_FETCH (R427). The bridge fetches the next descriptor of a ring set once the conditions for reservation hold. -/
def execDescriptorFetch (rs : Nat) (s : State) : Answer := settled s (descriptorFetch s rs)

/-- RING_NOP (R410). A NOP descriptor completes at evaluation. -/
def execRingNop (rs : Nat) (s : State) : Answer := settled s (ringNop s rs)

/-- LAUNCH (R411). A LAUNCH descriptor admits an activation, holding on NO_SPACE unless NOHOLD is set. -/
def execLaunch (rs : Nat) (s : State) : Answer := settled s (launch s rs)

/-- TOKEN_INJECT (R412). A TOKEN_INJECT descriptor checks and sends up to 3 tokens. -/
def execTokenInject (rs : Nat) (s : State) : Answer := settled s (tokenInject s rs)

/-- DEP_DEC (R413). A DEP_DEC descriptor decrements a handle. -/
def execDepDec (rs : Nat) (s : State) : Answer := settled s (depDec s rs)

/-- ACT_ABORT (R414). An ACT_ABORT descriptor retires an activation as failed. -/
def execActAbort (rs : Nat) (s : State) : Answer := settled s (actAbort s rs)

/-- CTX_ALLOC (R415). A CTX_ALLOC descriptor allocates a context. -/
def execCtxAlloc (rs : Nat) (s : State) : Answer := settled s (ctxAlloc s rs)

/-- CTX_RELEASE (R415). A CTX_RELEASE descriptor releases a context. -/
def execCtxRelease (rs : Nat) (s : State) : Answer := settled s (ctxRelease s rs)

/-- SIFT (R416). A SIFT descriptor submits a sifter job. -/
def execSift (rs : Nat) (s : State) : Answer := settled s (sift s rs)

/-- LOCK (R417). A LOCK descriptor sends a lock operation and completes with its RESULT. -/
def execLock (rs : Nat) (s : State) : Answer := settled s (lockDesc s rs)

/-- LOCK_FORCE (R418). A LOCK_FORCE descriptor is relayed to the firmware, which checks it and issues FORCE. -/
def execLockForce (rs : Nat) (s : State) : Answer := settled s (lockForce s rs)

/-- COPY (R419). A COPY descriptor moves bytes through the copy engine. -/
def execCopy (rs : Nat) (s : State) : Answer := settled s (copy s rs)

/-- LOAD_CODE (R420). A LOAD_CODE descriptor writes a tile's instruction store. -/
def execLoadCode (rs : Nat) (s : State) : Answer := settled s (loadCode s rs)

/-- LOAD_REGS (R420). A LOAD_REGS descriptor writes a tile's CODE, STACK and LS_CTRL registers. -/
def execLoadRegs (rs : Nat) (s : State) : Answer := settled s (loadRegs s rs)

/-- CLASS_CONFIG (R235). A CLASS_CONFIG descriptor configures a work class. -/
def execClassConfig (rs : Nat) (s : State) : Answer := settled s (classConfigDesc s rs)

/-- TRAIL_CONFIG (R260). A TRAIL_CONFIG descriptor configures a trail. -/
def execTrailConfig (rs : Nat) (s : State) : Answer := settled s (trailConfigDesc s rs)

/-- TRAIL_CTRL (R276). A TRAIL_CTRL descriptor sends a trail action to the gate. -/
def execTrailCtrl (rs : Nat) (s : State) : Answer := settled s (trailCtrlDesc s rs)

/-- LOCK_CONFIG (R352). A LOCK_CONFIG descriptor configures a lock group or its INIT values. -/
def execLockConfig (rs : Nat) (s : State) : Answer := settled s (lockConfigDesc s rs)

/-- TRACE_CONFIG (R421). A TRACE_CONFIG descriptor configures the partition's spoor destination. -/
def execTraceConfig (rs : Nat) (s : State) : Answer := settled s (traceConfigDesc s rs)

/-- HELD_DESCRIPTOR_REPEAT (R411). A descriptor held for space is repeated every 256 cc. -/
def execHeldDescriptorRepeat (rs : Nat) (s : State) : Answer := settled s (heldRepeat s rs)

/-- CPL_POST (R428). The bridge posts a retirement completion entry into its reserved slot. -/
def execCplPost (u : Nat) (rq : Rq) (rs handle status detail : Nat) (s : State) : Answer := settled s (cplPost s u rq rs handle status detail)

/-- MODERATION_TIMER_EXPIRY (R429). A ring set's moderation time passes and it sends its MSI-X message. -/
def execModerationTimerExpiry (rs : Nat) (s : State) : Answer := settled s (moderationTimer s rs)

end Sys2Proof.Machine
end

