-- ==== Sys2Proof/Machine/SchedulerCommands.lean ====
section
/-! DEFINITION. The meanings of the commands of activations (chapter 8). -/

namespace Sys2Proof.Machine

/-- ADMIT (R229). The clearing scheduler applies the admission steps to a request and returns a handle or a refusal. -/
def execAdmitReq (rq : Rq) (req : AdmitReq) (s : State) : Answer := settled s (admission s rq req)

/-- DECREMENT (R232). The dependence table applies a decrement to a handle's counter. -/
def execDecrement (rq : Rq) (handle : Nat) (failed : Bool) (s : State) : Answer := settled s (decrement s rq handle failed)

/-- READY_STORE_ENTRY (R236). A READY record enters a ready store, or its deferred chain. -/
def execReadyStoreEntry (idx : Nat) (s : State) : Answer := settled s (readyStoreEntry s idx)

/-- PUSH_DISPATCH (R243). A stand scheduler pushes the best eligible record into a tile's prefetch slot and sends its start tokens. -/
def execPushDispatch (k : Nat) (s : State) : Answer := settled s (pushDispatch s k)

/-- TAKE_ARRIVAL (R245). A TAKE reaches the stand scheduler, which serves it with a record, makes it wait, or refuses it. -/
def execTakeArrival (k : Nat) (rq : Rq) (cls vt : Nat) (s : State) : Answer := settled s (takeArrival s k rq cls vt)

/-- TAKE_CANCEL (R246). The scheduler cancels a waiting TAKE, unless a dispatch has already been chosen for it. -/
def execTakeCancel (k : Nat) (rq : Rq) (takeTag : Nat) (s : State) : Answer := settled s (takeCancel s k rq takeTag)

/-- SIFTER_DISPATCH (R247). A sifter record is offered to a sifter as a job. -/
def execSifterDispatch (k : Nat) (s : State) : Answer := settled s (sifterDispatch s k)

/-- ACTIVATION_LOST_REPORT (R241). A tile reports a dropped start token, and the scheduler retires the activation as failed. -/
def execActivationLostReport (u part handle : Nat) (s : State) : Answer := settled s (activationLostReport s u part handle)

/-- COMPLETION (R248). The clearing scheduler accepts a completion for a DISPATCHED record, or answers invalid. -/
def execCompletion (rq : Rq) (handle status : Nat) (s : State) : Answer := settled s (completion s rq handle status)

/-- RECORD_FREE (R248). Once its effects have been accepted, the record is freed and its GENERATION incremented. -/
def execRecordFree (idx : Nat) (s : State) : Answer := settled s (recordFree s idx)

end Sys2Proof.Machine
end

