-- ==== Sys2Proof/Machine/SifterCommands.lean ====
section
/-! DEFINITION. The meanings of the commands of the sifters (chapter 7). -/

namespace Sys2Proof.Machine

/-- SIFT_SUBMIT (R202). A sifter job is queued at a sifter, or is refused for lack of queue or share. -/
def execSiftSubmit (k : Nat) (rq : Rq) (desc stand ref : Nat) (s : State) : Answer := settled s (siftSubmit s k rq desc stand ref)

/-- SIFT_ADMIT (R203). The sifter admits a queued job and fetches and checks its descriptor. -/
def execSiftAdmit (k : Nat) (s : State) : Answer := settled s (siftAdmit s k)

/-- SIFT_SEGMENT (R203). The sifter runs one segment of a job in progress, then moves round-robin to the next job. -/
def execSiftSegment (k : Nat) (s : State) : Answer := settled s (siftSegment s k)

/-- SIFT_JOB_COMPLETE (R219). Once every output write is acknowledged, the sifter writes the result record, completes the job and signals SIFT_DONE. -/
def execSiftJobComplete (k : Nat) (s : State) : Answer := settled s (siftJobComplete s k)

end Sys2Proof.Machine
end

