-- ==== Sys2Proof/Machine/TileCommands.lean ====
section
/-! DEFINITION. The meanings of the commands of responses, lockstep kernels, window jobs and transfers (chapters 4, 6 and 11). -/

namespace Sys2Proof.Machine

/-- RESPONSE_ARRIVAL (R340). A response reaches its requester and completes, or restarts the wait of, the matching outstanding request. -/
def execResponseArrival (unit src part tag sub : Nat) (r : Resp) (s : State) : Answer := settled s (responseArrival s unit src part tag sub r)

/-- MEMORY_RESPONSE (R587). A load, store or AADD response, refusal or abandonment reaches the issuing tile. -/
def execMemoryResponse (unit src part tag : Nat) (r : Resp) (s : State) : Answer := settled s (memoryResponse s unit src part tag r)

/-- BUSY_RETRY_REPEAT (R343). After a BUSY_RETRY hint, the requester repeats the request with the same tag, up to 8 times. -/
def execBusyRetryRepeat (unit sub target : Nat) (tag : ReqTag) (s : State) : Answer :=
  settled s (busyRetryRepeat s unit sub tag.part target tag.tag)

/-- SPAWN_REPEAT (R252). A blocked SPAWN repeats its admission request every 64 cc. -/
def execSpawnRepeat (unit target : Nat) (tag : ReqTag) (s : State) : Answer := settled s (spawnRepeat s unit tag.part target tag.tag)

/-- KERNEL_ENTRY (R139). Once the node's earlier accesses have been accepted, the kernel's first bundle issues. -/
def execKernelEntry (u : Nat) (s : State) : Answer := settled s (kernelEntry s u)

/-- BUNDLE_ISSUE (R122). One bundle issues in a stream cycle after the format and fault checks. -/
def execBundleIssue (u : Nat) (s : State) : Answer := settled s (bundleIssue s u)

/-- WAITC_PASS (R138). The counter reaches the WAITC threshold and the stream resumes. -/
def execWaitcPass (u : Nat) (s : State) : Answer := settled s (waitcPass s u)

/-- WAITC_TIMEOUT (R138). A WAITC holds for its limit, the stream stops, and WAITC_TIMEOUT is raised. -/
def execWaitcTimeout (u : Nat) (s : State) : Answer := settled s (waitcTimeout s u)

/-- KERNEL_END (R140). After EXIT, the pending writes and the window job drain, the kernel ends, and node code resumes with the exit word. -/
def execKernelEnd (u : Nat) (s : State) : Answer := settled s (kernelEnd s u)

/-- BANK_WAIT_GUARD (R132). A non-stream access has waited 32 cc for its bank, is served, and holds the stream for one cycle. -/
def execBankWaitGuard (u : Nat) (s : State) : Answer := settled s (bankWaitGuard s u)

/-- WINDOW_JOB_ACCESS (R186). A running window job makes a frame-memory access in an odd slot, and on a poisoned read stops under R183. -/
def execWindowJobAccess (u : Nat) (s : State) : Answer := settled s (windowJobAccess s u)

/-- WINDOW_JOB_END (R185). The window job's duration elapses, the W unit frees, and a0 to a3 read zero. -/
def execWindowJobEnd (u : Nat) (s : State) : Answer := settled s (windowJobEnd s u)

/-- TRANSFER_START (R188). The DMA engine reads and checks a transfer descriptor. -/
def execTransferStart (u : Nat) (s : State) : Answer := settled s (transferStart s u)

/-- TRANSFER_LINE (R189). The DMA engine moves one line of a transfer, through the codec where one is set. -/
def execTransferLine (u : Nat) (s : State) : Answer := settled s (transferLine s u)

/-- TRANSFER_LINE_LAND (R190). A transfer line is written at its destination, which increments RECV_CNT. -/
def execTransferLineLand (u : Nat) (rq : Rq) (line xfer : Nat) (data : List Byte) (poison : Nat) (recv : Option Nat) (s : State) : Answer :=
  settled s (transferLineLand s u rq line xfer data poison recv)

/-- TRANSFER_COMPLETE (R190). A transfer completes; SEND_CNT increments and DMA_DONE is set when asked for. -/
def execTransferComplete (u slot : Nat) (s : State) : Answer := settled s (transferComplete s u slot)

end Sys2Proof.Machine
end

