-- ==== Sys2Proof/Machine/TokenCommands.lean ====
section
/-! DEFINITION. The meanings of the commands of tokens, placement and contexts (chapter 2). -/

namespace Sys2Proof.Machine

/-- TOKEN_ARRIVAL (R50). A token arrives at a tile and passes the arrival checks into the input queue, or is dropped with a fault. -/
def execTokenArrival (u src part gen : Nat) (toks : List Token) (ack : Bool) (handle : Option Nat) (s : State) : Answer :=
  settled s (tokenArrival s u src part gen toks ack handle)

/-- MATCH_TOKEN (R52). The matcher takes a normal or spill-returned token from the head of the input queue and fires its node or stores it. -/
def execMatchToken (u : Nat) (s : State) : Answer := settled s (matchToken s u)

/-- MATCH_STICKY_TOKEN (R55). The matcher takes a sticky token, checks it and stores it. -/
def execMatchStickyToken (u : Nat) (s : State) : Answer := settled s (matchSticky s u)

/-- CTX_END (R62). A CTX_END control token at the head of the input queue starts the scan that discards the context's stored tokens. -/
def execCtxEnd (u : Nat) (s : State) : Answer := settled s (controlToken s u false)

/-- CTX_PURGE (R62). A CTX_PURGE control token at the head of the input queue starts the scan that discards a virtual tile's normal tokens of a context. -/
def execCtxPurge (u : Nat) (s : State) : Answer := settled s (controlToken s u true)

/-- CONTROL_SCAN_DONE (R308). The 4,160 cc control-token scan ends, and CTX_END is acknowledged to the context pool once the outstanding SPILLs and FETCHes have completed. -/
def execControlScanDone (u : Nat) (s : State) : Answer := settled s (controlScanDone s u)

/-- NODE_DISPATCH (R75). The node-code thread takes the oldest entry of the highest-priority fire-queue level and starts the node. -/
def execNodeDispatch (u : Nat) (s : State) : Answer := settled s (nodeDispatch s u)

/-- PLACE_FILL (R48). A placement read returns to the sending tile, which fills its cache, drops the waiting token as unbound, or discards a void fill and reissues it. -/
def execPlaceFill (unit src part tag : Nat) (r : Resp) (s : State) : Answer := settled s (placeFill s unit src part tag r)

/-- PLACE_INVALIDATE (R49). A tile removes matching placement-cache entries, voids outstanding fills and acknowledges. -/
def execPlaceInvalidate (u part first last : Nat) (s : State) : Answer := settled s (placeInvalidate s u part first last)

/-- PLACE_READ (R452). The commit engine answers a placement read from its placement tables. -/
def execPlaceRead (rq : Rq) (vt : Nat) (s : State) : Answer := settled s (ifIn s 10 (placeRead s rq vt))

/-- ALLOCATE_REQUEST (R64). The context pool allocates the head of the partition's free list, or answers NO_CONTEXT. -/
def execAllocateRequest (rq : Rq) (s : State) : Answer := settled s (allocRequest s rq)

/-- RELEASE_REQUEST (R65). The context pool makes a LIVE context DRAINING and sends CTX_END and the release notice, or refuses the release. -/
def execReleaseRequest (rq : Rq) (ctx : Nat) (s : State) : Answer := settled s (releaseRequest s rq ctx)

/-- CTX_RELEASE_ACK (R65). A tile's CTX_END_ACK or the overspill agent's notice acknowledgement reaches the pool; the last one frees the context and completes the release. -/
def execCtxReleaseAck (x : CtxAck) (s : State) : Answer := settled s (ctxReleaseAck s x)

end Sys2Proof.Machine
end

