-- ==== Sys2Proof/Machine/TrailCommands.lean ====
section
/-! DEFINITION. The meanings of the commands of trails and the spoor trace (chapter 9). -/

namespace Sys2Proof.Machine

/-- SEQ_REQ (R263). The release gate answers a sequence request for a trail. -/
def execSeqReq (rq : Rq) (t handle : Nat) (s : State) : Answer := settled s (seqReq s rq t handle)

/-- SEQ_RETURN (R265). The gate takes back a sequence number after an undone admission. -/
def execSeqReturn (rq : Rq) (t seq : Nat) (s : State) : Answer := settled s (seqReturn s rq t seq)

/-- GATE_TOKEN (R267). A trail-tagged token reaches the gate and passes through, is stored, or is dropped. -/
def execGateToken (rq : Rq) (handle : Nat) (tok : Token) (s : State) : Answer := settled s (gateToken s rq handle tok)

/-- GATE_COMPLETE (R271). An item's completion reaches the release gate. -/
def execGateComplete (rq : Rq) (handle t seq status : Nat) (s : State) : Answer := settled s (gateComplete s rq handle t seq status)

/-- GATE_RELEASE (R271). The gate releases the completed head item, applying skip or hold for a failed item. -/
def execGateRelease (t : Nat) (s : State) : Answer := settled s (gateRelease s t)

/-- SKIP (R276). TRAIL_CTRL SKIP releases the held head as a hole. -/
def execSkip (rq : Rq) (t : Nat) (s : State) : Answer := settled s (trailCtrl s rq t .skip)

/-- PASS (R276). TRAIL_CTRL PASS emits the held head's tokens and releases it as failed. -/
def execPass (rq : Rq) (t : Nat) (s : State) : Answer := settled s (trailCtrl s rq t .pass)

/-- RESET (R276). TRAIL_CTRL RESET zeroes an IDLE trail's sequence numbers. -/
def execReset (rq : Rq) (t : Nat) (s : State) : Answer := settled s (trailCtrl s rq t .reset)

/-- SPOOR_EVENT (R281). The trace hub accepts a spoor record from a scheduling unit. -/
def execSpoorEvent (r : SpoorRec) (s : State) : Answer := settled s (ifIn s 9 (spoorEvent s r))

/-- SPOOR_RECORD_WRITE (R284). After its 64 cc hold, the hub filters a record and writes it to each destination, dropping or stalling when a destination is full. -/
def execSpoorRecordWrite (d : Nat) (s : State) : Answer := settled s (ifIn s 9 (spoorRecordWrite s d))

/-- SPOOR_CI_REREAD (R284). The hub reads a full destination's consumer index again. -/
def execSpoorCiReread (d : Nat) (s : State) : Answer := settled s (ifIn s 9 (spoorCiReread s d))

/-- SPOOR_STALL_TIMEOUT (R286). A stalling destination reaches STALL_LIMIT and switches to lossy mode. -/
def execSpoorStallTimeout (d : Nat) (s : State) : Answer := settled s (ifIn s 9 (spoorStallTimeout s d))

/-- SP_CTRL_WRITE (R288). A BAR0 write of destination 0's TRL.SP_CTRL is applied; setting ENABLE resets PI from CI. -/
def execSpCtrlWrite (a : Accessor) (x : RegPart) (s : State) : Answer := settled s (registerWrite s a 0x100408 x)

end Sys2Proof.Machine
end

