-- ==== Sys2Proof/Machine/Dispatch.lean ====
section
/-! DEFINITION. The meaning of each command, by its constructor. -/

namespace Sys2Proof.Machine

open Sys2Proof

/-- One command's effect on everything but the queue. -/
def exec (i : Instr) (s : State) : Host.Outcome State Fault Refusal :=
  match i with
  | .chipReset por => Sys2Proof.Machine.execChipReset por s
  | .chipResetRelease x => Sys2Proof.Machine.execChipResetRelease x s
  | .operationalEntry => Sys2Proof.Machine.execOperationalEntry s
  | .supervisorReset => Sys2Proof.Machine.execSupervisorReset s
  | .supResetWrite a x => Sys2Proof.Machine.execSupResetWrite a x s
  | .watchdogExpiry => Sys2Proof.Machine.execWatchdogExpiry s
  | .recoveryImage image => Sys2Proof.Machine.execRecoveryImage image s
  | .revokeKey party statement key signature => Sys2Proof.Machine.execRevokeKey party statement key signature s
  | .securityFloorRaise party n => Sys2Proof.Machine.execSecurityFloorRaise party n s
  | .firmwareUpdate party image => Sys2Proof.Machine.execFirmwareUpdate party image s
  | .holdWrite from_ => Sys2Proof.Machine.execHoldWrite from_ s
  | .supSramScrub err => Sys2Proof.Machine.execSupSramScrub err s
  | .referenceLoss portDown => Sys2Proof.Machine.execReferenceLoss portDown s
  | .referenceReturn => Sys2Proof.Machine.execReferenceReturn s
  | .pllUnlock core => Sys2Proof.Machine.execPllUnlock core s
  | .pllLockAttemptEnd core locked => Sys2Proof.Machine.execPllLockAttemptEnd core locked s
  | .sliceStart u scrub len => Sys2Proof.Machine.execSliceStart u scrub len s
  | .sliceEnd u pass => Sys2Proof.Machine.execSliceEnd u pass s
  | .sliceKernelWaitExpiry u => Sys2Proof.Machine.execSliceKernelWaitExpiry u s
  | .ifstPeriodEnd => Sys2Proof.Machine.execIfstPeriodEnd s
  | .registerWrite a off size value => Sys2Proof.Machine.execRegisterWrite a off size value s
  | .bar0InvalidAccess a off size value => Sys2Proof.Machine.execBar0InvalidAccess a off size value s
  | .forestTimeLowRead a => Sys2Proof.Machine.execForestTimeLowRead a s
  | .forestTimeHighRead a => Sys2Proof.Machine.execForestTimeHighRead a s
  | .tokenArrival u src part gen toks ack handle => Sys2Proof.Machine.execTokenArrival u src part gen toks ack handle s
  | .matchToken u => Sys2Proof.Machine.execMatchToken u s
  | .matchStickyToken u => Sys2Proof.Machine.execMatchStickyToken u s
  | .ctxEnd u => Sys2Proof.Machine.execCtxEnd u s
  | .ctxPurge u => Sys2Proof.Machine.execCtxPurge u s
  | .controlScanDone u => Sys2Proof.Machine.execControlScanDone u s
  | .nodeDispatch u => Sys2Proof.Machine.execNodeDispatch u s
  | .placeFill unit src part tag r => Sys2Proof.Machine.execPlaceFill unit src part tag r s
  | .placeInvalidate u part first last => Sys2Proof.Machine.execPlaceInvalidate u part first last s
  | .placeRead rq vt => Sys2Proof.Machine.execPlaceRead rq vt s
  | .allocateRequest rq => Sys2Proof.Machine.execAllocateRequest rq s
  | .releaseRequest rq ctx => Sys2Proof.Machine.execReleaseRequest rq ctx s
  | .ctxReleaseAck x => Sys2Proof.Machine.execCtxReleaseAck x s
  | .nop u => Sys2Proof.Machine.execNop u s
  | .done u => Sys2Proof.Machine.execDone u s
  | .ret u => Sys2Proof.Machine.execRet u s
  | .rett u => Sys2Proof.Machine.execRett u s
  | .br u => Sys2Proof.Machine.execBr u s
  | .call u => Sys2Proof.Machine.execCall u s
  | .callr u => Sys2Proof.Machine.execCallr u s
  | .jr u => Sys2Proof.Machine.execJr u s
  | .trap u => Sys2Proof.Machine.execTrap u s
  | .fence u => Sys2Proof.Machine.execFence u s
  | .add u => Sys2Proof.Machine.execAdd u s
  | .sub u => Sys2Proof.Machine.execSub u s
  | .mul u => Sys2Proof.Machine.execMul u s
  | .mulhu u => Sys2Proof.Machine.execMulhu u s
  | .mulhs u => Sys2Proof.Machine.execMulhs u s
  | .divu u => Sys2Proof.Machine.execDivu u s
  | .divs u => Sys2Proof.Machine.execDivs u s
  | .remu u => Sys2Proof.Machine.execRemu u s
  | .and u => Sys2Proof.Machine.execAnd u s
  | .or u => Sys2Proof.Machine.execOr u s
  | .xor u => Sys2Proof.Machine.execXor u s
  | .shl u => Sys2Proof.Machine.execShl u s
  | .shr u => Sys2Proof.Machine.execShr u s
  | .sar u => Sys2Proof.Machine.execSar u s
  | .mins u => Sys2Proof.Machine.execMins u s
  | .maxs u => Sys2Proof.Machine.execMaxs u s
  | .addi u => Sys2Proof.Machine.execAddi u s
  | .subi u => Sys2Proof.Machine.execSubi u s
  | .muli u => Sys2Proof.Machine.execMuli u s
  | .mulhui u => Sys2Proof.Machine.execMulhui u s
  | .mulhsi u => Sys2Proof.Machine.execMulhsi u s
  | .divui u => Sys2Proof.Machine.execDivui u s
  | .divsi u => Sys2Proof.Machine.execDivsi u s
  | .remui u => Sys2Proof.Machine.execRemui u s
  | .andi u => Sys2Proof.Machine.execAndi u s
  | .ori u => Sys2Proof.Machine.execOri u s
  | .xori u => Sys2Proof.Machine.execXori u s
  | .shli u => Sys2Proof.Machine.execShli u s
  | .shri u => Sys2Proof.Machine.execShri u s
  | .sari u => Sys2Proof.Machine.execSari u s
  | .minsi u => Sys2Proof.Machine.execMinsi u s
  | .maxsi u => Sys2Proof.Machine.execMaxsi u s
  | .cmpeq u => Sys2Proof.Machine.execCmpeq u s
  | .cmpne u => Sys2Proof.Machine.execCmpne u s
  | .cmplts u => Sys2Proof.Machine.execCmplts u s
  | .cmpltu u => Sys2Proof.Machine.execCmpltu u s
  | .cmples u => Sys2Proof.Machine.execCmples u s
  | .cmpleu u => Sys2Proof.Machine.execCmpleu u s
  | .plog u => Sys2Proof.Machine.execPlog u s
  | .mov u => Sys2Proof.Machine.execMov u s
  | .movi u => Sys2Proof.Machine.execMovi u s
  | .movt u => Sys2Proof.Machine.execMovt u s
  | .movtw u => Sys2Proof.Machine.execMovtw u s
  | .rdsys u => Sys2Proof.Machine.execRdsys u s
  | .fadd u => Sys2Proof.Machine.execFadd u s
  | .fsub u => Sys2Proof.Machine.execFsub u s
  | .fmul u => Sys2Proof.Machine.execFmul u s
  | .fdiv u => Sys2Proof.Machine.execFdiv u s
  | .fmin u => Sys2Proof.Machine.execFmin u s
  | .fmax u => Sys2Proof.Machine.execFmax u s
  | .fma u => Sys2Proof.Machine.execFma u s
  | .fcvt u => Sys2Proof.Machine.execFcvt u s
  | .ld u => Sys2Proof.Machine.execLd u s
  | .lds u => Sys2Proof.Machine.execLds u s
  | .st u => Sys2Proof.Machine.execSt u s
  | .aadd u => Sys2Proof.Machine.execAadd u s
  | .send u => Sys2Proof.Machine.execSend u s
  | .sends u => Sys2Proof.Machine.execSends u s
  | .sendr u => Sys2Proof.Machine.execSendr u s
  | .sendc u => Sys2Proof.Machine.execSendc u s
  | .ctxa u => Sys2Proof.Machine.execCtxa u s
  | .ctxr u => Sys2Proof.Machine.execCtxr u s
  | .spawn u => Sys2Proof.Machine.execSpawn u s
  | .spawnTry u => Sys2Proof.Machine.execSpawnTry u s
  | .take u => Sys2Proof.Machine.execTake u s
  | .complete u => Sys2Proof.Machine.execComplete u s
  | .lockstep u => Sys2Proof.Machine.execLockstep u s
  | .lacq u => Sys2Proof.Machine.execLacq u s
  | .ltry u => Sys2Proof.Machine.execLtry u s
  | .lrel u => Sys2Proof.Machine.execLrel u s
  | .sacq u => Sys2Proof.Machine.execSacq u s
  | .srel u => Sys2Proof.Machine.execSrel u s
  | .waitev u => Sys2Proof.Machine.execWaitev u s
  | .waitevTimeout u => Sys2Proof.Machine.execWaitevTimeout u s
  | .takeTimeout u => Sys2Proof.Machine.execTakeTimeout u s
  | .vbcast u => Sys2Proof.Machine.execVbcast u s
  | .vext u => Sys2Proof.Machine.execVext u s
  | .vins u => Sys2Proof.Machine.execVins u s
  | .vred u => Sys2Proof.Machine.execVred u s
  | .responseArrival unit src part tag sub r => Sys2Proof.Machine.execResponseArrival unit src part tag sub r s
  | .memoryResponse unit src part tag r => Sys2Proof.Machine.execMemoryResponse unit src part tag r s
  | .busyRetryRepeat unit sub target tag => Sys2Proof.Machine.execBusyRetryRepeat unit sub target tag s
  | .spawnRepeat unit target tag => Sys2Proof.Machine.execSpawnRepeat unit target tag s
  | .kernelEntry u => Sys2Proof.Machine.execKernelEntry u s
  | .bundleIssue u => Sys2Proof.Machine.execBundleIssue u s
  | .waitcPass u => Sys2Proof.Machine.execWaitcPass u s
  | .waitcTimeout u => Sys2Proof.Machine.execWaitcTimeout u s
  | .kernelEnd u => Sys2Proof.Machine.execKernelEnd u s
  | .bankWaitGuard u => Sys2Proof.Machine.execBankWaitGuard u s
  | .windowJobAccess u => Sys2Proof.Machine.execWindowJobAccess u s
  | .windowJobEnd u => Sys2Proof.Machine.execWindowJobEnd u s
  | .transferStart u => Sys2Proof.Machine.execTransferStart u s
  | .transferLine u => Sys2Proof.Machine.execTransferLine u s
  | .transferLineLand u rq line xfer data poison recv => Sys2Proof.Machine.execTransferLineLand u rq line xfer data poison recv s
  | .transferComplete u slot => Sys2Proof.Machine.execTransferComplete u slot s
  | .klbOpen file => Sys2Proof.Machine.execKlbOpen file s
  | .klbBind handle name value => Sys2Proof.Machine.execKlbBind handle name value s
  | .klbPlace handle part => Sys2Proof.Machine.execKlbPlace handle part s
  | .klbLoad handle rs => Sys2Proof.Machine.execKlbLoad handle rs s
  | .klbStart handle rs => Sys2Proof.Machine.execKlbStart handle rs s
  | .klbUnload handle rs => Sys2Proof.Machine.execKlbUnload handle rs s
  | .klbQuery handle vt => Sys2Proof.Machine.execKlbQuery handle vt s
  | .siftSubmit k rq desc stand ref => Sys2Proof.Machine.execSiftSubmit k rq desc stand ref s
  | .siftAdmit k => Sys2Proof.Machine.execSiftAdmit k s
  | .siftSegment k => Sys2Proof.Machine.execSiftSegment k s
  | .siftJobComplete k => Sys2Proof.Machine.execSiftJobComplete k s
  | .admitReq rq req => Sys2Proof.Machine.execAdmitReq rq req s
  | .decrement rq handle failed => Sys2Proof.Machine.execDecrement rq handle failed s
  | .readyStoreEntry idx => Sys2Proof.Machine.execReadyStoreEntry idx s
  | .pushDispatch k => Sys2Proof.Machine.execPushDispatch k s
  | .takeArrival k rq cls vt => Sys2Proof.Machine.execTakeArrival k rq cls vt s
  | .takeCancel k rq takeTag => Sys2Proof.Machine.execTakeCancel k rq takeTag s
  | .sifterDispatch k => Sys2Proof.Machine.execSifterDispatch k s
  | .activationLostReport u part handle => Sys2Proof.Machine.execActivationLostReport u part handle s
  | .completion rq handle status => Sys2Proof.Machine.execCompletion rq handle status s
  | .recordFree idx => Sys2Proof.Machine.execRecordFree idx s
  | .seqReq rq t handle => Sys2Proof.Machine.execSeqReq rq t handle s
  | .seqReturn rq t seq => Sys2Proof.Machine.execSeqReturn rq t seq s
  | .gateToken rq handle tok => Sys2Proof.Machine.execGateToken rq handle tok s
  | .gateComplete rq handle t seq status => Sys2Proof.Machine.execGateComplete rq handle t seq status s
  | .gateRelease t => Sys2Proof.Machine.execGateRelease t s
  | .skip rq t => Sys2Proof.Machine.execSkip rq t s
  | .pass rq t => Sys2Proof.Machine.execPass rq t s
  | .reset rq t => Sys2Proof.Machine.execReset rq t s
  | .spoorEvent r => Sys2Proof.Machine.execSpoorEvent r s
  | .spoorRecordWrite d => Sys2Proof.Machine.execSpoorRecordWrite d s
  | .spoorCiReread d => Sys2Proof.Machine.execSpoorCiReread d s
  | .spoorStallTimeout d => Sys2Proof.Machine.execSpoorStallTimeout d s
  | .spCtrlWrite a x => Sys2Proof.Machine.execSpCtrlWrite a x s
  | .evictionEpisode u => Sys2Proof.Machine.execEvictionEpisode u s
  | .unfire u => Sys2Proof.Machine.execUnfire u s
  | .monitorHoldOffEnd u => Sys2Proof.Machine.execMonitorHoldOffEnd u s
  | .spill rq toks => Sys2Proof.Machine.execSpill rq toks s
  | .spillAnswer unit src part tag r => Sys2Proof.Machine.execSpillAnswer unit src part tag r s
  | .fetch rq key => Sys2Proof.Machine.execFetch rq key s
  | .fetchData unit src part tag r => Sys2Proof.Machine.execFetchData unit src part tag r s
  | .fetchBufferInject u => Sys2Proof.Machine.execFetchBufferInject u s
  | .refireFetch u => Sys2Proof.Machine.execRefireFetch u s
  | .ctxNotice rq ctx => Sys2Proof.Machine.execCtxNotice rq ctx s
  | .sweep p => Sys2Proof.Machine.execSweep p s
  | .reclaim u rq n => Sys2Proof.Machine.execReclaim u rq n s
  | .overspillEnable rs => Sys2Proof.Machine.execOverspillEnable rs s
  | .overspillDisable rs => Sys2Proof.Machine.execOverspillDisable rs s
  | .flitReceive r p down fseq crcOk f => Sys2Proof.Machine.execFlitReceive r p down fseq crcOk f s
  | .linkNak r p down seq => Sys2Proof.Machine.execLinkNak r p down seq s
  | .routerForward r o => Sys2Proof.Machine.execRouterForward r o s
  | .creditReturn r p cls toUnit => Sys2Proof.Machine.execCreditReturn r p cls toUnit s
  | .tokenAck unit src part n => Sys2Proof.Machine.execTokenAck unit src part n s
  | .e2eTimerExpiry unit t => Sys2Proof.Machine.execE2eTimerExpiry unit t s
  | .replayPurge target src rq part => Sys2Proof.Machine.execReplayPurge target src rq part s
  | .replayPurgeAck unit target rq part => Sys2Proof.Machine.execReplayPurgeAck unit target rq part s
  | .readWord u rq m => Sys2Proof.Machine.execReadWord u rq m s
  | .readLine u rq m => Sys2Proof.Machine.execReadLine u rq m s
  | .readBulk u rq m => Sys2Proof.Machine.execReadBulk u rq m s
  | .writeWord u rq m width x => Sys2Proof.Machine.execWriteWord u rq m width x s
  | .aaddRequest u rq m width x => Sys2Proof.Machine.execAaddRequest u rq m width x s
  | .lineWrite u rq line xfer bulk data poison => Sys2Proof.Machine.execLineWrite u rq line xfer bulk data poison s
  | .hostBase u rq xfer iova => Sys2Proof.Machine.execHostBase u rq xfer iova s
  | .eventSet u rq mask => Sys2Proof.Machine.execEventSet u rq mask s
  | .probeSelWrite a k reg x => Sys2Proof.Machine.execProbeSelWrite a k reg x s
  | .capCtrlWrite a x => Sys2Proof.Machine.execCapCtrlWrite a x s
  | .acquire rq word slot => Sys2Proof.Machine.execAcquire rq word slot s
  | .tryLock rq word slot => Sys2Proof.Machine.execTryLock rq word slot s
  | .release rq word slot => Sys2Proof.Machine.execRelease rq word slot s
  | .semAcquire rq word slot => Sys2Proof.Machine.execSemAcquire rq word slot s
  | .semRelease rq word slot => Sys2Proof.Machine.execSemRelease rq word slot s
  | .cancel rq word slot => Sys2Proof.Machine.execCancel rq word slot s
  | .force rq word slot => Sys2Proof.Machine.execForce rq word slot s
  | .lockWaitLimit rq => Sys2Proof.Machine.execLockWaitLimit rq s
  | .orphanNotify src rq part => Sys2Proof.Machine.execOrphanNotify src rq part s
  | .hostLinkUp b h cxl flit speed width => Sys2Proof.Machine.execHostLinkUp b h cxl flit speed width s
  | .hostLinkDown b h => Sys2Proof.Machine.execHostLinkDown b h s
  | .functionLevelReset b f => Sys2Proof.Machine.execFunctionLevelReset b f s
  | .pfFunctionLevelReset b => Sys2Proof.Machine.execPfFunctionLevelReset b s
  | .busMasterEnableClear b f => Sys2Proof.Machine.execBusMasterEnableClear b f s
  | .configurationRequest b f r => Sys2Proof.Machine.execConfigurationRequest b f r s
  | .vendorDefinedMessage b f type0 fromFm => Sys2Proof.Machine.execVendorDefinedMessage b f type0 fromFm s
  | .atsTranslationCompletion b id grant => Sys2Proof.Machine.execAtsTranslationCompletion b id grant s
  | .atsInvalidationRequest b f pasid page size itag => Sys2Proof.Machine.execAtsInvalidationRequest b f pasid page size itag s
  | .hostAccessCompletion b id r => Sys2Proof.Machine.execHostAccessCompletion b id r s
  | .completionTimeout b id => Sys2Proof.Machine.execCompletionTimeout b id s
  | .ideIntegrityFailure b stream => Sys2Proof.Machine.execIdeIntegrityFailure b stream s
  | .ideKm b index stream => Sys2Proof.Machine.execIdeKm b index stream s
  | .msixUnmask b f vec => Sys2Proof.Machine.execMsixUnmask b f vec s
  | .sqPiWrite b f page value => Sys2Proof.Machine.execSqPiWrite b f page value s
  | .cqCiWrite b f page value => Sys2Proof.Machine.execCqCiWrite b f page value s
  | .ringEnable b f page => Sys2Proof.Machine.execRingEnable b f page s
  | .ringDisable b f page => Sys2Proof.Machine.execRingDisable b f page s
  | .bar2RegisterWrite b f page off size value => Sys2Proof.Machine.execBar2RegisterWrite b f page off size value s
  | .descriptorFetch rs => Sys2Proof.Machine.execDescriptorFetch rs s
  | .ringNop rs => Sys2Proof.Machine.execRingNop rs s
  | .launch rs => Sys2Proof.Machine.execLaunch rs s
  | .tokenInject rs => Sys2Proof.Machine.execTokenInject rs s
  | .depDec rs => Sys2Proof.Machine.execDepDec rs s
  | .actAbort rs => Sys2Proof.Machine.execActAbort rs s
  | .ctxAlloc rs => Sys2Proof.Machine.execCtxAlloc rs s
  | .ctxRelease rs => Sys2Proof.Machine.execCtxRelease rs s
  | .sift rs => Sys2Proof.Machine.execSift rs s
  | .lock rs => Sys2Proof.Machine.execLock rs s
  | .lockForce rs => Sys2Proof.Machine.execLockForce rs s
  | .copy rs => Sys2Proof.Machine.execCopy rs s
  | .loadCode rs => Sys2Proof.Machine.execLoadCode rs s
  | .loadRegs rs => Sys2Proof.Machine.execLoadRegs rs s
  | .classConfig rs => Sys2Proof.Machine.execClassConfig rs s
  | .trailConfig rs => Sys2Proof.Machine.execTrailConfig rs s
  | .trailCtrl rs => Sys2Proof.Machine.execTrailCtrl rs s
  | .lockConfig rs => Sys2Proof.Machine.execLockConfig rs s
  | .traceConfig rs => Sys2Proof.Machine.execTraceConfig rs s
  | .heldDescriptorRepeat rs => Sys2Proof.Machine.execHeldDescriptorRepeat rs s
  | .cplPost u rq rs handle status detail => Sys2Proof.Machine.execCplPost u rq rs handle status detail s
  | .moderationTimerExpiry rs => Sys2Proof.Machine.execModerationTimerExpiry rs s
  | .stage party kind rec binds => Sys2Proof.Machine.execStage party kind rec binds s
  | .sign party id sigs => Sys2Proof.Machine.execSign party id sigs s
  | .countersign party id sigs => Sys2Proof.Machine.execCountersign party id sigs s
  | .stageProcessing => Sys2Proof.Machine.execStageProcessing s
  | .commitApply => Sys2Proof.Machine.execCommitApply s
  | .quiesceTimeout => Sys2Proof.Machine.execQuiesceTimeout s
  | .placeInvAck u part => Sys2Proof.Machine.execPlaceInvAck u part s
  | .placeInvAckTimeout => Sys2Proof.Machine.execPlaceInvAckTimeout s
  | .stageTimeout id => Sys2Proof.Machine.execStageTimeout id s
  | .abort party id => Sys2Proof.Machine.execAbort party id s
  | .arm party part digest => Sys2Proof.Machine.execArm party part digest s
  | .disarm party part => Sys2Proof.Machine.execDisarm party part s
  | .query party => Sys2Proof.Machine.execQuery party s
  | .enroll party key expects => Sys2Proof.Machine.execEnroll party key expects s
  | .enrollTimeout => Sys2Proof.Machine.execEnrollTimeout s
  | .cancelReplace party sig => Sys2Proof.Machine.execCancelReplace party sig s
  | .replaceWaitExpiry => Sys2Proof.Machine.execReplaceWaitExpiry s
  | .directWrite a pos slot frame x => Sys2Proof.Machine.execDirectWrite a pos slot frame x s
  | .getMeasurements index => Sys2Proof.Machine.execGetMeasurements index s
  | .faultMessage m => Sys2Proof.Machine.execFaultMessage m s
  | .quarantineFollowUp => Sys2Proof.Machine.execQuarantineFollowUp s
  | .safeExit from_ => Sys2Proof.Machine.execSafeExit from_ s
  | .safeReturn => Sys2Proof.Machine.execSafeReturn s
  | .noticeIntervalEnd port fn => Sys2Proof.Machine.execNoticeIntervalEnd port fn s
  | .alertAck => Sys2Proof.Machine.execAlertAck s
  | .kindTableWrite k cls log notify notifyPc => Sys2Proof.Machine.execKindTableWrite k cls log notify notifyPc s
  | .collectorScrub => Sys2Proof.Machine.execCollectorScrub s
  | .collectorReinit => Sys2Proof.Machine.execCollectorReinit s
  | .recordAcknowledge => Sys2Proof.Machine.execRecordAcknowledge s
  | .checkerMismatch => Sys2Proof.Machine.execCheckerMismatch s
  | .delayRegisterParityError => Sys2Proof.Machine.execDelayRegisterParityError s
  | .checkerInjection detected => Sys2Proof.Machine.execCheckerInjection detected s
  | .checkpoint => Sys2Proof.Machine.execCheckpoint s
  | .ledgerRead party line count => Sys2Proof.Machine.execLedgerRead party line count s
  | .ledgerFlush from_ => Sys2Proof.Machine.execLedgerFlush from_ s
  | .setCalendar party secs nanos => Sys2Proof.Machine.execSetCalendar party secs nanos s
  | .ledgerStatus party => Sys2Proof.Machine.execLedgerStatus party s
  | .readAddrWrite a x => Sys2Proof.Machine.execReadAddrWrite a x s
  | .powerLevelStep pout => Sys2Proof.Machine.execPowerLevelStep pout s
  | .thermalLevelStep => Sys2Proof.Machine.execThermalLevelStep s
  | .pwrBrake low => Sys2Proof.Machine.execPwrBrake low s
  | .sensorReading tj => Sys2Proof.Machine.execSensorReading tj s
  | .hardwareShutdown => Sys2Proof.Machine.execHardwareShutdown s
  | .vrAlert status => Sys2Proof.Machine.execVrAlert status s
  | .railCheck out => Sys2Proof.Machine.execRailCheck out s
  | .vddioOutOfRange out => Sys2Proof.Machine.execVddioOutOfRange out s
  | .vcoreTrim up down => Sys2Proof.Machine.execVcoreTrim up down s
  | .tokenAckSend u src => Sys2Proof.Machine.execTokenAckSend u src s
  | .linkAcknowledgement r p down seq => Sys2Proof.Machine.execLinkAcknowledgement r p down seq s
  | .powerLoss => Sys2Proof.Machine.execPowerLoss s
  | .registerReadClear a off size => Sys2Proof.Machine.execRegisterReadClear a off size s
  | .hostSnoop b addr => Sys2Proof.Machine.execHostSnoop b addr s
  | .hostLinkError b h viral => Sys2Proof.Machine.execHostLinkError b h viral s
  | .idleScrub x => Sys2Proof.Machine.execIdleScrub x s
  | .jtagTckEdge rising tms tdi trstLow pinLevels => Sys2Proof.Machine.execJtagTckEdge rising tms tdi trstLow pinLevels s
  | .dynamicAddressAssignment static addr => Sys2Proof.Machine.execDynamicAddressAssignment static addr s
  | .mctpMessageInvalid party => Sys2Proof.Machine.execMctpMessageInvalid party s

end Sys2Proof.Machine
end

