-- ==== Sys2Proof/Machine/Ticks.lean ====
section
/-! DEFINITION. One core cycle that passes while no command waits (a DESIGN CHOICE): the counters of the clocks advance, and what
units do by themselves without a command of its own goes on. -/

namespace Sys2Proof.Machine

/-- The clocks' counters after one core cycle: forest time (R29), supervisor-clock time, and the cycles in which tiles are not
gated (R574). -/
def clockTick (s : State) : State :=
  { s with
    clr := { s.clr with time := if clocked s then s.clr.time + 1 else s.clr.time }
    clk := { s.clk with
      sup := if supClocked s then s.clk.sup + 1 else s.clk.sup
      tile := if working s && !(gated s) then s.clk.tile + 1 else s.clk.tile } }

/-- The send units with something to send try again, and requests that waited for a tag window leave (R96, R339). -/
def sendTick (s : State) : State :=
  let l := (List.range 272).filter (fun u => !((tileAt s u).send.isEmpty) && tileRuns s u)
  if working s then flushWait (l.foldl drainSends s) else s

/-- Lines that the DMA engines moved inside a frame are written in the cycle after (R189). -/
def dmaTick (s : State) : State :=
  ((List.range 272).filter (fun u => !((tileAt s u).xfers.isEmpty) && tileRuns s u && decide ((tileAt s u).dmaNext ≤ tileNow s))).foldl
    landOwnLines s

/-- What the schedulers held back goes on: admissions, retirements as failed, TAKEs (R229, R245, R286). -/
def schedTick (s : State) : State :=
  if working s then
    let s1 := failNext s
    settleTakes (admitServe s1 s1.sch.admitQ)
  else s

/-- One core cycle. -/
def tick (s : State) : State :=
  let s1 := ledgerDrain (ledgerTick (settleCommit (sendTick (dmaTick (clockTick s)))))
  { schedTick s1 with pending := s.pending, fuses := s.fuses }

end Sys2Proof.Machine
end

