-- ==== Sys2Proof/Safety.lean ====
section
/-! DEFINITION. What a safe run of the block is: every command it takes has an effect on the state, and no command stops it. -/

namespace Sys2Proof

open Sys2Proof.Machine

/-- A step that answers a next state, neither a fault nor a refusal. -/
def StepsSafely (s : State) : Prop := ∃ t, step s = .next t

/-- A run of `n` steps in which every step answers a next state. -/
def RunsSafely (n : Nat) (s : State) : Prop :=
  match n with
  | 0 => True
  | k + 1 => ∃ t, step s = .next t ∧ RunsSafely k t

end Sys2Proof
end

