-- ==== Sys2Proof/WellFormed.lean ====
section
/-! DEFINITION. Well-formed commands: each operand lies in the range that its field or its carrier has. -/

namespace Sys2Proof

/-- A party of the management endpoint: 0 the fabric manager, 1 the platform controller, and 2 a PF where a register serves it. -/
def partyOk (p : Nat) : Bool := decide (p < 2)
/-- A port, its bridge, or a half of a port (R376). -/
def portOk (b : Nat) : Bool := decide (b < 2)
/-- A 12-bit unit identifier (R23). -/
def unitOk (u : Nat) : Bool := decide (u < 2 ^ 12)
/-- A partition (R25). -/
def partOk (p : Nat) : Bool := decide (p < 16)
/-- A requester: a 14-bit identifier and a partition (R24). -/
def rqOk (r : Rq) : Bool := decide (r.src < 2 ^ 14) && decide (r.part < 16)
/-- A function of a port: the PF or a VF (Table 13.2). -/
def fnOk (f : Nat) : Bool := decide (f < 17)
/-- A doorbell page (Table 13.4). -/
def pageOk (n : Nat) : Bool := decide (n < 64)
/-- A device ring set (Table 14.1). -/
def ringOk (r : Nat) : Bool := decide (r < 1024)
/-- The tokens of one packet (R322): 1 to 4, of ACT_TOKENS at most 2, all of one VTILE. -/
def toksOk (act : Bool) (l : List Token) : Bool :=
  decide (1 ≤ l.length ∧ l.length ≤ (if act then 2 else 4))
  && l.all (fun t => decide (t.tag.extractLsb 29 20 = (l.headD {}).tag.extractLsb 29 20))
/-- A flit of 576 bits (R319). -/
def flitOk (f : Flit) : Bool := decide (f.header < 2 ^ 64) && decide (f.payload < 2 ^ 512)
/-- The bytes of a line write: one line, or the four of a bulk write (R323). -/
def dataOk (l : List Byte) : Bool := decide (l.length = 64) || decide (l.length = 256)
/-- A 64-bit value. -/
def wordOk (v : Nat) : Bool := decide (v < 2 ^ 64)
/-- A value of a register or of its half. -/
def partWordOk (x : RegPart) : Bool :=
  match x with
  | .whole v => decide (v < 2 ^ 64)
  | .low v => decide (v < 2 ^ 32)
  | .high v => decide (v < 2 ^ 32)
/-- A trail (R260). -/
def trailOk (t : Nat) : Bool := decide (t < 4096)
/-- A spoor destination (Table 9.6). -/
def destOk (d : Nat) : Bool := decide (d < 17)
/-- The signatures of SIGN and COUNTERSIGN: one, or two for a rotation (R447). -/
def sigsOk (l : List (List Byte)) : Bool := decide (l.length = 1) || decide (l.length = 2)
/-- An accessor names a port and a function that exist. -/
def accessorOk (a : Accessor) : Bool :=
  match a with
  | .fn b f => portOk b && fnOk f
  | .monitor b => portOk b
  | .supervisor => true
  | .platform => true
/-- The source of a request names what exists. -/
def ctrlOk (c : CtrlFrom) : Bool :=
  match c with
  | .register a x => accessorOk a && partWordOk x
  | .mctp p v => partyOk p && wordOk v
  | .firmware => true
/-- The four words of a fault message (Table 16.1). -/
def faultOk (m : FaultMsg) : Bool := wordOk m.time && wordOk m.head && wordOk m.addr && wordOk m.detail

/-- Whether a command is well formed. -/
def Instr.wf (c : Instr) : Bool :=
  match c with
  | .chipReset _ => true
  | .chipResetRelease _ => true
  | .operationalEntry => true
  | .supervisorReset => true
  | .supResetWrite a x => accessorOk a && partWordOk x
  | .watchdogExpiry => true
  | .recoveryImage _ => true
  | .revokeKey party _ _ _ => partyOk party
  | .securityFloorRaise party _ => partyOk party
  | .firmwareUpdate party _ => partyOk party
  | .holdWrite from_ => ctrlOk from_
  | .supSramScrub _ => true
  | .referenceLoss _ => true
  | .referenceReturn => true
  | .pllUnlock _ => true
  | .pllLockAttemptEnd _ _ => true
  | .sliceStart u _ _ => unitOk u
  | .sliceEnd u _ => unitOk u
  | .sliceKernelWaitExpiry u => unitOk u
  | .ifstPeriodEnd => true
  | .registerWrite a _ _ value => accessorOk a && wordOk value
  | .bar0InvalidAccess a _ _ _ => accessorOk a
  | .forestTimeLowRead a => accessorOk a
  | .forestTimeHighRead a => accessorOk a
  | .tokenArrival u _ part _ toks _ h => unitOk u && partOk part && toksOk h.isSome toks
  | .matchToken u => unitOk u
  | .matchStickyToken u => unitOk u
  | .ctxEnd u => unitOk u
  | .ctxPurge u => unitOk u
  | .controlScanDone u => unitOk u
  | .nodeDispatch u => unitOk u
  | .placeFill unit _ part _ _ => unitOk unit && partOk part
  | .placeInvalidate u part _ _ => unitOk u && partOk part
  | .placeRead rq _ => rqOk rq
  | .allocateRequest rq => rqOk rq
  | .releaseRequest rq _ => rqOk rq
  | .ctxReleaseAck _ => true
  | .nop u => unitOk u
  | .done u => unitOk u
  | .ret u => unitOk u
  | .rett u => unitOk u
  | .br u => unitOk u
  | .call u => unitOk u
  | .callr u => unitOk u
  | .jr u => unitOk u
  | .trap u => unitOk u
  | .fence u => unitOk u
  | .add u => unitOk u
  | .sub u => unitOk u
  | .mul u => unitOk u
  | .mulhu u => unitOk u
  | .mulhs u => unitOk u
  | .divu u => unitOk u
  | .divs u => unitOk u
  | .remu u => unitOk u
  | .and u => unitOk u
  | .or u => unitOk u
  | .xor u => unitOk u
  | .shl u => unitOk u
  | .shr u => unitOk u
  | .sar u => unitOk u
  | .mins u => unitOk u
  | .maxs u => unitOk u
  | .addi u => unitOk u
  | .subi u => unitOk u
  | .muli u => unitOk u
  | .mulhui u => unitOk u
  | .mulhsi u => unitOk u
  | .divui u => unitOk u
  | .divsi u => unitOk u
  | .remui u => unitOk u
  | .andi u => unitOk u
  | .ori u => unitOk u
  | .xori u => unitOk u
  | .shli u => unitOk u
  | .shri u => unitOk u
  | .sari u => unitOk u
  | .minsi u => unitOk u
  | .maxsi u => unitOk u
  | .cmpeq u => unitOk u
  | .cmpne u => unitOk u
  | .cmplts u => unitOk u
  | .cmpltu u => unitOk u
  | .cmples u => unitOk u
  | .cmpleu u => unitOk u
  | .plog u => unitOk u
  | .mov u => unitOk u
  | .movi u => unitOk u
  | .movt u => unitOk u
  | .movtw u => unitOk u
  | .rdsys u => unitOk u
  | .fadd u => unitOk u
  | .fsub u => unitOk u
  | .fmul u => unitOk u
  | .fdiv u => unitOk u
  | .fmin u => unitOk u
  | .fmax u => unitOk u
  | .fma u => unitOk u
  | .fcvt u => unitOk u
  | .ld u => unitOk u
  | .lds u => unitOk u
  | .st u => unitOk u
  | .aadd u => unitOk u
  | .send u => unitOk u
  | .sends u => unitOk u
  | .sendr u => unitOk u
  | .sendc u => unitOk u
  | .ctxa u => unitOk u
  | .ctxr u => unitOk u
  | .spawn u => unitOk u
  | .spawnTry u => unitOk u
  | .take u => unitOk u
  | .complete u => unitOk u
  | .lockstep u => unitOk u
  | .lacq u => unitOk u
  | .ltry u => unitOk u
  | .lrel u => unitOk u
  | .sacq u => unitOk u
  | .srel u => unitOk u
  | .waitev u => unitOk u
  | .waitevTimeout u => unitOk u
  | .takeTimeout u => unitOk u
  | .vbcast u => unitOk u
  | .vext u => unitOk u
  | .vins u => unitOk u
  | .vred u => unitOk u
  | .responseArrival unit _ part _ _ _ => unitOk unit && partOk part
  | .memoryResponse unit _ part _ _ => unitOk unit && partOk part
  | .busyRetryRepeat unit _ target tag => unitOk unit && partOk tag.part && unitOk target
  | .spawnRepeat unit target tag => unitOk unit && partOk tag.part && unitOk target
  | .kernelEntry u => unitOk u
  | .bundleIssue u => unitOk u
  | .waitcPass u => unitOk u
  | .waitcTimeout u => unitOk u
  | .kernelEnd u => unitOk u
  | .bankWaitGuard u => unitOk u
  | .windowJobAccess u => unitOk u
  | .windowJobEnd u => unitOk u
  | .transferStart u => unitOk u
  | .transferLine u => unitOk u
  | .transferLineLand u rq _ _ data _ _ => unitOk u && rqOk rq && dataOk data
  | .transferComplete u _ => unitOk u
  | .klbOpen _ => true
  | .klbBind _ _ value => wordOk value
  | .klbPlace _ part => partOk part
  | .klbLoad _ rs => ringOk rs
  | .klbStart _ rs => ringOk rs
  | .klbUnload _ rs => ringOk rs
  | .klbQuery _ _ => true
  | .siftSubmit _ rq _ _ _ => rqOk rq
  | .siftAdmit _ => true
  | .siftSegment _ => true
  | .siftJobComplete _ => true
  | .admitReq rq _ => rqOk rq
  | .decrement rq _ _ => rqOk rq
  | .readyStoreEntry _ => true
  | .pushDispatch _ => true
  | .takeArrival _ rq _ _ => rqOk rq
  | .takeCancel _ rq _ => rqOk rq
  | .sifterDispatch _ => true
  | .activationLostReport u part _ => unitOk u && partOk part
  | .completion rq _ _ => rqOk rq
  | .recordFree _ => true
  | .seqReq rq t _ => rqOk rq && trailOk t
  | .seqReturn rq t _ => rqOk rq && trailOk t
  | .gateToken rq _ _ => rqOk rq
  | .gateComplete rq _ t _ _ => rqOk rq && trailOk t
  | .gateRelease t => trailOk t
  | .skip rq t => rqOk rq && trailOk t
  | .pass rq t => rqOk rq && trailOk t
  | .reset rq t => rqOk rq && trailOk t
  | .spoorEvent _ => true
  | .spoorRecordWrite d => destOk d
  | .spoorCiReread d => destOk d
  | .spoorStallTimeout d => destOk d
  | .spCtrlWrite a x => accessorOk a && partWordOk x
  | .evictionEpisode u => unitOk u
  | .unfire u => unitOk u
  | .monitorHoldOffEnd u => unitOk u
  | .spill rq _ => rqOk rq
  | .spillAnswer unit _ part _ _ => unitOk unit && partOk part
  | .fetch rq _ => rqOk rq
  | .fetchData unit _ part _ _ => unitOk unit && partOk part
  | .fetchBufferInject u => unitOk u
  | .refireFetch u => unitOk u
  | .ctxNotice rq _ => rqOk rq
  | .sweep _ => true
  | .reclaim u rq _ => unitOk u && rqOk rq
  | .overspillEnable rs => ringOk rs
  | .overspillDisable rs => ringOk rs
  | .flitReceive _ _ _ fseq crc f => decide (fseq < 256) && decide (crc < 2 ^ 32) && flitOk f
  | .linkNak _ _ _ seq => decide (seq < 256)
  | .routerForward _ _ => true
  | .creditReturn _ _ _ _ => true
  | .tokenAck unit _ part _ => unitOk unit && partOk part
  | .e2eTimerExpiry unit _ => unitOk unit
  | .replayPurge target _ _ part => unitOk target && partOk part
  | .replayPurgeAck unit target _ part => unitOk unit && unitOk target && partOk part
  | .readWord u rq _ => unitOk u && rqOk rq
  | .readLine u rq _ => unitOk u && rqOk rq
  | .readBulk u rq _ => unitOk u && rqOk rq
  | .writeWord u rq _ _ _ => unitOk u && rqOk rq
  | .aaddRequest u rq _ _ _ => unitOk u && rqOk rq
  | .lineWrite u rq _ _ _ data _ => unitOk u && rqOk rq && dataOk data
  | .hostBase u rq _ _ => unitOk u && rqOk rq
  | .eventSet u rq _ => unitOk u && rqOk rq
  | .probeSelWrite a _ _ x => accessorOk a && partWordOk x
  | .capCtrlWrite a x => accessorOk a && partWordOk x
  | .acquire rq word _ => rqOk rq && wordOk word
  | .tryLock rq word _ => rqOk rq && wordOk word
  | .release rq word _ => rqOk rq && wordOk word
  | .semAcquire rq word _ => rqOk rq && wordOk word
  | .semRelease rq word _ => rqOk rq && wordOk word
  | .cancel rq word _ => rqOk rq && wordOk word
  | .force rq word _ => rqOk rq && wordOk word
  | .lockWaitLimit rq => rqOk rq
  | .orphanNotify _ _ part => partOk part
  | .hostLinkUp b h _ _ _ _ => portOk b && portOk h
  | .hostLinkDown b h => portOk b && portOk h
  | .functionLevelReset b f => portOk b && fnOk f
  | .pfFunctionLevelReset b => portOk b
  | .busMasterEnableClear b f => portOk b && fnOk f
  | .configurationRequest b f _ => portOk b && fnOk f
  | .vendorDefinedMessage b f _ _ => portOk b && fnOk f
  | .atsTranslationCompletion b _ _ => portOk b
  | .atsInvalidationRequest b f _ page _ _ => portOk b && fnOk f && pageOk page
  | .hostAccessCompletion b _ _ => portOk b
  | .completionTimeout b _ => portOk b
  | .ideIntegrityFailure b _ => portOk b
  | .ideKm b _ _ => portOk b
  | .msixUnmask b f _ => portOk b && fnOk f
  | .sqPiWrite b f page value => portOk b && fnOk f && pageOk page && wordOk value
  | .cqCiWrite b f page value => portOk b && fnOk f && pageOk page && wordOk value
  | .ringEnable b f page => portOk b && fnOk f && pageOk page
  | .ringDisable b f page => portOk b && fnOk f && pageOk page
  | .bar2RegisterWrite b f page _ _ value => portOk b && fnOk f && pageOk page && wordOk value
  | .descriptorFetch rs => ringOk rs
  | .ringNop rs => ringOk rs
  | .launch rs => ringOk rs
  | .tokenInject rs => ringOk rs
  | .depDec rs => ringOk rs
  | .actAbort rs => ringOk rs
  | .ctxAlloc rs => ringOk rs
  | .ctxRelease rs => ringOk rs
  | .sift rs => ringOk rs
  | .lock rs => ringOk rs
  | .lockForce rs => ringOk rs
  | .copy rs => ringOk rs
  | .loadCode rs => ringOk rs
  | .loadRegs rs => ringOk rs
  | .classConfig rs => ringOk rs
  | .trailConfig rs => ringOk rs
  | .trailCtrl rs => ringOk rs
  | .lockConfig rs => ringOk rs
  | .traceConfig rs => ringOk rs
  | .heldDescriptorRepeat rs => ringOk rs
  | .cplPost u rq rs _ _ _ => unitOk u && rqOk rq && ringOk rs
  | .moderationTimerExpiry rs => ringOk rs
  | .stage party _ _ _ => partyOk party
  | .sign party _ sigs => partyOk party && sigsOk sigs
  | .countersign party _ sigs => partyOk party && sigsOk sigs
  | .stageProcessing => true
  | .commitApply => true
  | .quiesceTimeout => true
  | .placeInvAck u part => unitOk u && partOk part
  | .placeInvAckTimeout => true
  | .stageTimeout _ => true
  | .abort party _ => partyOk party
  | .arm party part _ => partyOk party && partOk part
  | .disarm party part => partyOk party && partOk part
  | .query party => partyOk party
  | .enroll party _ _ => partyOk party
  | .enrollTimeout => true
  | .cancelReplace party _ => partyOk party
  | .replaceWaitExpiry => true
  | .directWrite a _ _ _ x => accessorOk a && partWordOk x
  | .getMeasurements _ => true
  | .faultMessage m => faultOk m
  | .quarantineFollowUp => true
  | .safeExit from_ => ctrlOk from_
  | .safeReturn => true
  | .noticeIntervalEnd port fn => portOk port && fnOk fn
  | .alertAck => true
  | .kindTableWrite _ _ _ _ _ => true
  | .collectorScrub => true
  | .collectorReinit => true
  | .recordAcknowledge => true
  | .checkerMismatch => true
  | .delayRegisterParityError => true
  | .checkerInjection _ => true
  | .checkpoint => true
  | .ledgerRead party _ _ => partyOk party
  | .ledgerFlush from_ => ctrlOk from_
  | .setCalendar party _ _ => partyOk party
  | .ledgerStatus party => partyOk party
  | .readAddrWrite a x => accessorOk a && partWordOk x
  | .powerLevelStep _ => true
  | .thermalLevelStep => true
  | .pwrBrake _ => true
  | .sensorReading _ => true
  | .hardwareShutdown => true
  | .vrAlert _ => true
  | .railCheck _ => true
  | .vddioOutOfRange _ => true
  | .vcoreTrim _ _ => true
  | .tokenAckSend u _ => unitOk u
  | .linkAcknowledgement _ _ _ _ => true
  | .powerLoss => true
  | .registerReadClear a _ _ => accessorOk a
  | .hostSnoop b _ => portOk b
  | .hostLinkError b h _ => portOk b && portOk h
  | .idleScrub _ => true
  | .jtagTckEdge _ _ _ _ _ => true
  | .dynamicAddressAssignment _ _ => true
  | .mctpMessageInvalid m => partyOk m.party

end Sys2Proof
end

