-- ==== Sys2Proof/Certificates/Slice0/Obligations.lean ====
section
/-! DEFINITION. The statements about the model. Each docstring names the rules of spec/ that it states, or the sections that it
rests on. `Leaves c s P` says that command `c` completes in state `s` and that the state after it has `P`. -/

open Sys2Proof Sys2Proof.Machine

namespace Sys2Proof.Machine

/-- Command `c` answers a next state in `s`, and that state has `P`. -/
def Leaves (c : Instr) (s : State) (P : State → Prop) : Prop := ∃ t, exec c s = .next t ∧ P t

/-- A host access has started, or has ended at once without a failure. -/
abbrev NotFailed (h : HStart) : Prop := h = .pending ∨ h = .done

/-- The fuses of `s` come from `f` by raising the floor and blowing revocation fuses only (R510, R511). -/
def FusesFrom (f : Fuses) (s : State) : Prop :=
  f.floor ≤ s.fuses.floor ∧ (∀ k, bit f.revoked k = true → bit s.fuses.revoked k = true)
  ∧ { s.fuses with floor := f.floor, revoked := f.revoked } = f

/-- Bring-up has ended under running firmware: Configuration, zero memories, and STEP 0x0A where a service level is reached, 0x0F where
none is. -/
def BroughtUp (t : State) : Prop :=
  t.clr.fwRunning = true ∧ t.clr.mode = .configuration ∧ t.clr.step = (if t.clr.service = 0 then 0x0F else 0x0A)
  ∧ (∀ u, (tileAt t u).frame = [] ∧ (tileAt t u).istore = [] ∧ (tileAt t u).store = [] ∧ (tileAt t u).ovf = [])

end Sys2Proof.Machine

/-- One step takes the command at the front of the queue and runs its meaning with the queue's rest. -/
def Obligations.StepRunsFrontCommand : Prop :=
  ∀ (c : Instr) (q : List Instr) (s : State), step { s with pending := c :: q } = exec c { s with pending := q }

/-- An idle step (the model's choice, log entry 1) is one core cycle: forest time counts while the core clock runs, supervisor
time while its clock runs, and tile time while the work units run in a cycle that is not gated (R29, R574). -/
def Obligations.IdleStepCountsTime : Prop :=
  ∀ s : State, s.pending = [] →
    ∃ t, step s = .next t ∧ t.pending = []
      ∧ t.clr.time = s.clr.time + (if clocked s then 1 else 0)
      ∧ t.clk.sup = s.clk.sup + (if supClocked s then 1 else 0)
      ∧ t.clk.tile = s.clk.tile + (if working s ∧ now s % 16 ≥ appliedLevel s then 1 else 0)

/-- No command touches the queue of the commands that wait behind it, and none stops the machine. -/
def Obligations.CommandsCompleteAndKeepTheQueue : Prop :=
  ∀ (c : Instr) (s : State), ∃ t, exec c s = .next t ∧ t.pending = s.pending

/-- Fuses are only blown, step after step: the security floor never falls, a blown revocation fuse is never cleared, and every other
fuse keeps its value (R510, R511, R502). -/
def Obligations.StepKeepsFusesBlown : Prop :=
  ∀ (f : Fuses) (s t : State), FusesFrom f s → step s = .next t → FusesFrom f t

/-- The machine after reset has the fuses that it has. -/
def Sys2Proof.Machine.ResetFuses : Prop := FusesFrom State.reset.fuses State.reset

/-- After reset the part is in Configuration at STEP 0x01 with forest time 0, no service, no partition, no activation, no ring set,
no packet and no command under way (R12, R502, Table 17.6). -/
def Sys2Proof.Machine.ResetStateFields : Prop :=
  core.reset.clr.mode = .configuration ∧ core.reset.clr.step = 0x01 ∧ core.reset.clr.time = 0 ∧ core.reset.clr.service = 0
  ∧ core.reset.clr.fwRunning = false ∧ core.reset.clr.fwSlot = 0
  ∧ core.reset.prt.parts = List.replicate 16 {} ∧ core.reset.prt.gens = [] ∧ core.reset.prt.custody = 0
  ∧ core.reset.sch.recs = [] ∧ core.reset.rings = [] ∧ core.reset.net = [] ∧ core.reset.outs = [] ∧ core.reset.replays = []
  ∧ core.reset.flt.classes = 0 ∧ core.reset.flt.produced = 0 ∧ core.reset.flt.faultLevel = 3
  ∧ core.reset.ckr.ifstEnable = true ∧ core.reset.ckr.maxTiles = 4 ∧ core.reset.ckr.period = 0x64
  ∧ core.reset.noc.repeats = 3 ∧ core.reset.noc.timeout = 0x40 ∧ core.reset.pending = []

/-- The machine after reset: it has the fuses that it has, and every field that the spec gives a reset value holds it (R12, R502, Table 17.6). -/
def Obligations.ResetState : Prop := ResetFuses ∧ ResetStateFields

/-- A chip reset clears every register, memory, queue and cache, and keeps the fuses, the ledger array and the QSPI flash (R502,
Table 17.1); the pin levels and the regulator's voltage are outside the part (log entry 70). -/
def Sys2Proof.Machine.ChipResetClears : Prop :=
  ∀ (s : State) (por : Bool), (s.clk.powered = true ∨ por = true) →
    exec (.chipReset por) s = .next { State.reset with
      fuses := s.fuses, flash := s.flash, array := s.array
      clr := { part := s.fuses.part, speed := s.fuses.speed }
      clk := { inReset := true }
      ckr := { por := por, pin := !por }
      brd := { brake := s.brd.brake, vddioOut := s.brd.vddioOut, vcore := s.brd.vcore }
      sent := s.sent, freeCtr := s.freeCtr, pending := s.pending }

/-- CHIP_RESET_N rises with the clocks there, the strap at flash, an intact flash, no reserved GRADE and the comparator's first
injection passed, so bring-up runs to its end under the firmware (R505, R512, R516, R520): the image of the slot that the ledger names
runs where the ROM accepts it, and the other slot's after a rejected one, which is counted; every tile's memories are zero; the part
is held in Configuration at STEP 0x0A, or without a service level stands at STEP 0x0F. -/
def Sys2Proof.Machine.BringUpRuns : Prop :=
  ∀ (s : State) (x : BringUp) (k : Nat), s.clk.powered = true → s.clk.shutdown = false → s.clk.inReset = true →
    s.chk.halted = false → s.clr.fwRunning = false → s.clr.mode = .configuration →
    x.refOk = true → x.coreLock = true → x.supLock = true → x.cmpOk = true → x.sfdp = true →
    bits (x.straps % 256) 5 4 ≠ 3 → bit (x.straps % 256) 1 = false → preferredSlot { s with ckr := { s.ckr with plan := x } } = k →
    (imageFault s (slotImage s k) = none →
      Leaves (.chipResetRelease x) s (fun t => t.clr.fwSlot = k + 1 ∧ t.ckr.secVersion = (slotImage s k).sec ∧ t.ckr.rejects = s.ckr.rejects
        ∧ BroughtUp t))
    ∧ (∀ c, imageFault s (slotImage s k) = some c → imageFault s (slotImage s (1 - k)) = none →
      Leaves (.chipResetRelease x) s (fun t => t.clr.fwSlot = 1 - k + 1 ∧ t.ckr.secVersion = (slotImage s (1 - k)).sec
        ∧ t.ckr.rejects = (s.ckr.rejects + 1) % 256 ∧ BroughtUp t))

/-- CHIP_RESET_N rises: the straps are sampled. Without a valid reference the part waits at STEP 0x01 (R503). With it, a reserved
GRADE ends at STEP 0x0F without a service level (R561, R520), and the recovery strap at STEP 0x0E in report-only service with no
firmware running (R512). -/
def Sys2Proof.Machine.ResetReleaseBringsUp : Prop :=
  (∀ (s : State) (x : BringUp), s.clk.powered = true → s.clk.shutdown = false → s.clk.inReset = true → x.refOk = false →
    Leaves (.chipResetRelease x) s (fun t => t.ckr.straps = x.straps % 256 ∧ t.clr.refPort = x.straps % 2 ∧ t.clr.step = 0x01
      ∧ clocked t = false ∧ t.tiles = s.tiles))
  ∧ (∀ (s : State) (x : BringUp), s.clk.powered = true → s.clk.shutdown = false → s.clk.inReset = true →
      x.refOk = true → x.coreLock = true → x.supLock = true → bits (x.straps % 256) 5 4 = 3 →
    Leaves (.chipResetRelease x) s (fun t => t.clr.step = 0x0F))
  ∧ (∀ (s : State) (x : BringUp), s.clk.powered = true → s.clk.shutdown = false → s.clk.inReset = true →
      s.clr.fwRunning = false → s.chk.halted = false → x.refOk = true → x.coreLock = true → x.supLock = true → x.cmpOk = true →
      bits (x.straps % 256) 5 4 ≠ 3 → bit (x.straps % 256) 1 = true →
    Leaves (.chipResetRelease x) s (fun t => t.clr.step = 0x0E ∧ t.clr.service = 1 ∧ t.clr.fwRunning = false
      ∧ t.chk.tests = (s.chk.tests + 1) % 2 ^ 32 ∧ clocked t = true))

/-- R522: the firmware moves the part from Configuration to Operational when SERVICE is 2, HOLD is 0, custody is not UNPROVISIONED and
no FLT.CAUSE bit is set; only the mode and STEP change, and where one of the four does not hold nothing does. A return from Safe leaves
the part in Configuration with its service level computed anew. -/
def Obligations.OperationalEntry : Prop :=
  (∀ s : State, fwRuns s = true → clocked s = true → s.clr.mode = .configuration → s.clr.step = 0x0A → s.clr.service = 2 →
    s.clr.hold = false → s.prt.custody ≠ 0 → fltCause s = 0 →
    exec .operationalEntry s = .next { s with
      clr := { s.clr with mode := .operational, step := 0x0B }, ckr := { s.ckr with reached := true } })
  ∧ (∀ s : State, (s.clr.service ≠ 2 ∨ s.clr.hold = true ∨ s.prt.custody = 0 ∨ fltCause s ≠ 0) → exec .operationalEntry s = .next s)
  ∧ (∀ s : State, fwRuns s = true → clocked s = true → s.flt.returning.isSome = true → s.flt.reenter = false → s.ckr.reached = true →
    Leaves .safeReturn s (fun t => t.clr.mode = .configuration ∧ t.clr.service = serviceLevel t))

/-- A supervisor reset, requested by a PF's write of 0x05E7 in Safe (R504, Table 17.1), or made when the watchdog expires, which also
raises FIRMWARE_WATCHDOG (R513): it is counted, the pair's checker flags are cleared, and the device mode and every tile stay. -/
def Sys2Proof.Machine.SupervisorReset : Prop :=
  (∀ (s : State) (b : Nat), clocked s = true → inSafe s = true → accessorPresent s (.fn b 0) = true →
    Leaves (.supResetWrite (.fn b 0) (.whole 0x05E7)) s (fun t => t = { s with ckr := { s.ckr with supRequested := true } }))
  ∧ (∀ s : State, supClocked s = true → s.ckr.supRequested = true →
    Leaves .supervisorReset s (fun t => t.ckr.supResets = (s.ckr.supResets + 1) % 2 ^ 32 ∧ t.ckr.supRequested = false
      ∧ t.chk.halted = false ∧ t.chk.lost = false ∧ t.chk.mismatch = false ∧ t.clr.mode = s.clr.mode ∧ t.tiles = s.tiles))
  ∧ (∀ s : State, supClocked s = true → s.clr.fwRunning = true →
    Leaves .watchdogExpiry s (fun t => t.ckr.supResets = (s.ckr.supResets + 1) % 2 ^ 32
      ∧ t.chk.halted = false ∧ t.clr.mode = s.clr.mode ∧ t.tiles = s.tiles
      ∧ ⟨now s % 2 ^ 64, faultHead 0x018 (rqId 0x30C 0) 0x30C none none, 0, 0⟩ ∈ t.flt.inbox))

/-- Resets: what a chip reset clears and keeps, and what a supervisor reset does (R502, R504, R513, Table 17.1). -/
def Obligations.Resets : Prop := ChipResetClears ∧ SupervisorReset

/-- A recovery image that meets R510 is placed and started from STEP 0x0E; the flash stays as it is (R512). Where bring-up has not yet
reached Operational it goes on and runs to its end; after a supervisor reset of a part that had, the part goes on as it stands (R513). -/
def Sys2Proof.Machine.RecoveryImageStarts : Prop :=
  ∀ (s : State) (bs : List Byte), outOfService s 11 = false → supClocked s = true → s.chk.halted = false → s.clr.step = 0x0E →
    s.clr.fwRunning = false → imageFault s (imageOf bs) = none →
    (s.ckr.reached = false → s.clr.mode = .configuration →
      Leaves (.recoveryImage bs) s (fun t => t.clr.fwSlot = 3 ∧ t.ckr.secVersion = (imageOf bs).sec ∧ t.flash = s.flash ∧ BroughtUp t))
    ∧ (s.ckr.reached = true ∨ s.clr.mode ≠ .configuration →
      Leaves (.recoveryImage bs) s (fun t => t.clr.fwRunning = true ∧ t.clr.fwSlot = 3 ∧ t.clr.mode = s.clr.mode
        ∧ t.ckr.secVersion = (imageOf bs).sec ∧ t.flash = s.flash ∧ t.tiles = s.tiles ∧ t.rings = s.rings))

/-- Bring-up from the release of reset, its early ends, and the start of a recovery image (R503, R505, R512, R520, R561). -/
def Obligations.BringUp : Prop := BringUpRuns ∧ ResetReleaseBringsUp ∧ RecoveryImageStarts

/-- The fuses that commands blow: REVOKE_KEY sets the slot's revocation fuse under the conditions of R511; from the fabric manager it
is refused with RIGHTS_DENIED and blows nothing. SECURITY_FLOOR_RAISE raises the floor up to the running image's SEC_VERSION and never
lowers it (R510). Both change nothing but fuses, and are answered. -/
def Sys2Proof.Machine.FuseCommands : Prop :=
  (∀ (s : State) (stmt key sig : List Byte) (k j : Nat), outOfService s 11 = false → fwRuns s = true →
      statementSlot stmt = some k → j ∈ keySlots s (sha384 key) → j ≠ k → ecdsaOk key (sha384 stmt) sig = true →
      s.fuses.keyHash.getD k 0 ≠ s.ckr.signKey →
    exec (.revokeKey 1 stmt key sig) s = .next { s with
      fuses := { s.fuses with revoked := s.fuses.revoked ||| 2 ^ k }, sent := s.sent ++ [.mctp 1 [0, 0]] })
  ∧ (∀ (s : State) (stmt key sig : List Byte), outOfService s 11 = false → fwRuns s = true →
    exec (.revokeKey 0 stmt key sig) s = .next { s with sent := s.sent ++ [.mctp 0 [0x10, 0]] })
  ∧ (∀ (s : State) (n : Nat), outOfService s 11 = false → fwRuns s = true → n ≤ 63 → n ≤ s.ckr.secVersion →
    exec (.securityFloorRaise 1 n) s = .next { s with
      fuses := { s.fuses with floor := max s.fuses.floor n }, sent := s.sent ++ [.mctp 1 [0, 0]] })
  ∧ (∀ (s : State) (n : Nat), outOfService s 11 = false → fwRuns s = true → n ≤ 63 → s.ckr.secVersion < n →
    exec (.securityFloorRaise 1 n) s = .next { s with sent := s.sent ++ [.mctp 1 [0x14, 0]] })

/-- FIRMWARE_UPDATE writes the slot that the running image does not come from, and nothing else of the flash (R539). HOLD set or
cleared by MCTP changes HOLD (R523). A scrub of supervisor SRAM raises the corrected kind, or the Safe kind and keeps the cause (R514). -/
def Sys2Proof.Machine.FirmwareServices : Prop :=
  (∀ (s : State) (party : Nat) (bs : List Byte), outOfService s 11 = false → fwRuns s = true → bs.length ≤ 0x100000 →
    Leaves (.firmwareUpdate party bs) s (fun t => t.flash = s.flash.wrBytes (0x100000 * (updateSlot s + 1)) bs
      ∧ t.clr = s.clr ∧ t.tiles = s.tiles ∧ t.array = s.array))
  ∧ (∀ (s : State) (party v : Nat), party < 2 → outOfService s 11 = false → fwRuns s = true →
    Leaves (.holdWrite (.mctp party v)) s (fun t => t.clr = { s.clr with hold := decide (v % 2 = 1) }
      ∧ t.sent = s.sent ++ [.mctp party [0, 0]] ∧ t.tiles = s.tiles ∧ t.rings = s.rings))
  ∧ (∀ s : State, supClocked s = true →
    exec (.supSramScrub 1) s = .next (raiseMsg s ⟨now s % 2 ^ 64, faultHead 0x006 (rqId 0x308 0) 0x308 none none, 0, 0⟩))
  ∧ (∀ s : State, supClocked s = true →
    exec (.supSramScrub 2) s = .next (raiseMsg { s with brd := { s.brd with supSramBad := true } }
      ⟨now s % 2 ^ 64, faultHead 0x007 (rqId 0x308 0) 0x308 none none, 0, 0⟩))

/-- The commands that the firmware serves: fuses, updates, HOLD, and the scrub of supervisor SRAM (R510, R511, R514, R523, R539). -/
def Obligations.FirmwareCommands : Prop := FuseCommands ∧ FirmwareServices

/-- The reference and the PLLs (R497 to R499, R501): a loss stops both clocks, the return counts an interruption, keeps forest time and
the device mode, and raises REFERENCE_INTERRUPTION; a lost lock stops that PLL's clocks; each attempt is counted, and a regained lock
raises that PLL's unlock kind. -/
def Obligations.ReferenceAndPlls : Prop :=
  (∀ (s : State) (down : Bool), s.clk.powered = true → s.clk.refPresent = true → s.clk.shutdown = false → s.prt.custody ≠ 2 →
    Leaves (.referenceLoss down) s (fun t => t = { s with clk := { s.clk with refPresent := false, lossMode := s.clr.mode, portDown := down } }
      ∧ clocked t = false ∧ supClocked t = false))
  ∧ (∀ s : State, s.clk.powered = true → s.clk.refPresent = false → s.clk.shutdown = false → s.clk.inReset = false → s.clr.step ≠ 1 →
      s.clk.portDown = false →
    Leaves .referenceReturn s (fun t => t.clk = { s.clk with refPresent := true } ∧ t.clr = s.clr ∧ t.tiles = s.tiles
      ∧ t.ckr.interruptions = (s.ckr.interruptions + 1) % 2 ^ 32
      ∧ t.flt.inbox = s.flt.inbox ++ [⟨now s % 2 ^ 64, faultHead 0x010 (rqId 0x30C 0) 0x30C none none, 0,
          (s.ckr.interruptions + 1) % 2 ^ 32 + 2 ^ 32 * modeCode s.clk.lossMode⟩]))
  ∧ (∀ s : State, s.clk.powered = true → s.clk.inReset = false → s.clk.refPresent = true → s.clk.shutdown = false → s.clr.step ≠ 1 →
      s.clk.coreLocked = true →
    Leaves (.pllUnlock true) s (fun t => t = { s with clk := { s.clk with coreLocked := false, coreTries := 0 } } ∧ clocked t = false))
  ∧ (∀ s : State, s.clk.powered = true → s.clk.inReset = false → s.clk.refPresent = true → s.clk.shutdown = false → s.clr.step ≠ 1 →
      s.clk.supLocked = true →
    Leaves (.pllUnlock false) s (fun t => t = { s with clk := { s.clk with supLocked := false, supTries := 0 } } ∧ supClocked t = false))
  ∧ (∀ s : State, s.clk.powered = true → s.clk.inReset = false → s.clk.refPresent = true → s.clk.shutdown = false → s.clr.step ≠ 1 →
      s.clk.coreLocked = false → s.clk.coreTries < 4 →
    exec (.pllLockAttemptEnd true true) s = .next (raiseMsg
      { s with ckr := { s.ckr with pllRetries := (s.ckr.pllRetries + 1) % 2 ^ 32 }
               clk := { s.clk with coreTries := s.clk.coreTries + 1, coreLocked := true } }
      ⟨now s % 2 ^ 64, faultHead 0x011 (rqId 0x30C 0) 0x30C none none, 0, 0⟩))
  ∧ (∀ s : State, s.clk.powered = true → s.clk.inReset = false → s.clk.refPresent = true → s.clk.shutdown = false → s.clr.step ≠ 1 →
      s.clk.supLocked = false → s.clk.supTries < 4 →
    exec (.pllLockAttemptEnd false false) s = .next
      { s with ckr := { s.ckr with pllRetries := (s.ckr.pllRetries + 1) % 2 ^ 32 }
               clk := { s.clk with supTries := s.clk.supTries + 1, supLocked := false } })

/-- A slice starts in Operational where the limits leave room: a tile is taken out of matching and dispatch, unless its kernel runs,
where it is chosen and the slice waits for the kernel's exit; a kernel that does not exit in 160,000 cc makes the slice skipped (R525,
R526). A period ends and the next begins, with the values of CKR.IFST_CTRL that the firmware has written (R527, R530). -/
def Sys2Proof.Machine.SlicesStart : Prop :=
  (∀ (s : State) (u len : Nat) (scrub : Bool), clocked s = true → supClocked s = true → s.clr.mode = .operational → s.ckr.ifstEnable = true →
      sliceDue s u = true → sliceLeft s u = none → sliceSpaced s u = true → sliceRoom s u = true → 0 < len → len ≤ 32000 →
    (isTile u = true → (tileAt s u).kern.running = false →
      exec (.sliceStart u scrub len) s = .next (modTile { noteSlice s u with
          slices := s.slices ++ [{ unit := u, scrub := scrub, start := now s, endAt := now s + len }] } u
        (fun t => { t with testing := true })))
    ∧ (isTile u = true → (tileAt s u).kern.running = true → s.ckr.chosen.any (fun x => decide (x.1 = u)) = false →
      exec (.sliceStart u scrub len) s = .next { s with ckr := { s.ckr with chosen := s.ckr.chosen ++ [(u, now s)] } })
    ∧ (isTile u = false →
      exec (.sliceStart u scrub len) s = .next { noteSlice s u with
        slices := s.slices ++ [{ unit := u, scrub := scrub, start := now s, endAt := now s + len }] }))
  ∧ (∀ (s : State) (u : Nat) (x : Nat × Nat), s.ckr.chosen.find? (fun y => decide (y.1 = u)) = some x → clocked s = true →
      (tileAt s u).kern.running = true → x.2 + 160000 ≤ now s →
    Leaves (.sliceKernelWaitExpiry u) s (fun t => t.ckr.skipped = (s.ckr.skipped + 1) % 2 ^ 16
      ∧ t.ckr.chosen = s.ckr.chosen.filter (fun y => decide (y.1 ≠ u)) ∧ t.tiles = s.tiles ∧ t.slices = s.slices))
  ∧ (∀ s : State, clocked s = true → supClocked s = true → s.ckr.periodFrom + s.ckr.period * usToCc s 100000 ≤ supNow s →
    Leaves .ifstPeriodEnd s (fun t => t.ckr.periodNo = s.ckr.periodNo + 1
      ∧ t.ckr.periodFrom = s.ckr.periodFrom + s.ckr.period * usToCc s 100000 ∧ t.tiles = s.tiles ∧ t.slices = s.slices
      ∧ (∀ v, s.ckr.ifstWritten = some v → t.ckr.ifstEnable = bit v 63 ∧ t.ckr.maxTiles = bits v 35 32 + 1 ∧ t.ckr.period = bits v 15 0)
      ∧ (s.ckr.ifstWritten = none → t.ckr.ifstEnable = s.ckr.ifstEnable ∧ t.ckr.maxTiles = s.ckr.maxTiles ∧ t.ckr.period = s.ckr.period)
      ∧ (s.ckr.ifstEnable = false → t.flt = s.flt)))

/-- A slice ends once its time is over: it is counted, and a passing one counts in its unit's pass; a tile that passed resumes at the
boundary where it was taken (shown exactly where its pass goes on and no TAKE waits); a tile that fails raises TILE_SELF_TEST_FAILED and
stays taken, any other unit UNIT_SELF_TEST_FAILED with FLT.CAUSE.UNIT_TEST set (R525, R526, R528). -/
def Sys2Proof.Machine.SlicesEnd : Prop :=
  ∀ (s : State) (u : Nat) (x : Slice), clocked s = true → s.slices.find? (fun y => decide (y.unit = u)) = some x → x.endAt ≤ now s →
    (isTile u = true → (SMap.get 0 s.ckr.passed u + 1) % 20 ≠ 0 → s.sch.takes = [] →
      exec (.sliceEnd u true) s = .next (modTile { s with
          slices := s.slices.filter (fun y => decide (y.unit ≠ u))
          ckr := { s.ckr with slices := (s.ckr.slices + 1) % 2 ^ 32, passed := SMap.put 0 s.ckr.passed u (SMap.get 0 s.ckr.passed u + 1) } } u
        (fun t => resumeWaits (now s) x.start { t with testing := false })))
    ∧ (Leaves (.sliceEnd u true) s (fun t => t.slices = s.slices.filter (fun y => decide (y.unit ≠ u))
        ∧ t.ckr.slices = (s.ckr.slices + 1) % 2 ^ 32 ∧ t.ckr.failed = s.ckr.failed))
    ∧ (isTile u = true →
      Leaves (.sliceEnd u false) s (fun t => t.tiles = s.tiles ∧ t.ckr.failed = (s.ckr.failed + 1) % 2 ^ 16
        ∧ t.slices = s.slices.filter (fun y => decide (y.unit ≠ u))
        ∧ t.flt.inbox = s.flt.inbox ++ [⟨now s % 2 ^ 64, faultHead 0x013 (rqId 0x30C 0) u (tilePart (tileAt s u)) none, 0, 0⟩]))
    ∧ (isTile u = false →
      Leaves (.sliceEnd u false) s (fun t => t.flt.unitTest = true ∧ t.ckr.failed = (s.ckr.failed + 1) % 2 ^ 16
        ∧ t.slices = s.slices.filter (fun y => decide (y.unit ≠ u))
        ∧ ⟨now s % 2 ^ 64, faultHead 0x014 (rqId 0x30C 0) u none none, 0, 0⟩ ∈ t.flt.inbox))

/-- In-field self-test: slices start and end, and periods end (R525 to R528, R530). -/
def Obligations.SelfTestSlices : Prop := SlicesStart ∧ SlicesEnd

namespace Sys2Proof.Machine

/-- The command of an integer operation of two registers. -/
def aluCmd (o : AluOp) (u : Nat) : Instr :=
  match o with
  | .add => .add u | .sub => .sub u | .mul => .mul u | .mulhu => .mulhu u | .mulhs => .mulhs u | .divu => .divu u
  | .divs => .divs u | .remu => .remu u | .and => .and u | .or => .or u | .xor => .xor u | .shl => .shl u
  | .shr => .shr u | .sar => .sar u | .mins => .mins u | .maxs => .maxs u

/-- The command of an integer operation with an immediate. -/
def aluiCmd (o : AluOp) (u : Nat) : Instr :=
  match o with
  | .add => .addi u | .sub => .subi u | .mul => .muli u | .mulhu => .mulhui u | .mulhs => .mulhsi u | .divu => .divui u
  | .divs => .divsi u | .remu => .remui u | .and => .andi u | .or => .ori u | .xor => .xori u | .shl => .shli u
  | .shr => .shri u | .sar => .sari u | .mins => .minsi u | .maxs => .maxsi u

/-- The command of a compare. -/
def cmpCmd (o : CmpOp) (u : Nat) : Instr :=
  match o with
  | .eq => .cmpeq u | .ne => .cmpne u | .lts => .cmplts u | .ltu => .cmpltu u | .les => .cmples u | .leu => .cmpleu u

/-- The command of a float operation. -/
def fltCmd (o : FltOp) (u : Nat) : Instr :=
  match o with
  | .fadd => .fadd u | .fsub => .fsub u | .fmul => .fmul u | .fdiv => .fdiv u | .fmin => .fmin u | .fmax => .fmax u
  | .fma => .fma u

/-- No g register of the list is poisoned. -/
abbrev cleanG (s : State) (u : Nat) (rs : List Nat) : Prop := ∀ r ∈ rs, (gReg s u r).poison = false

/-- No v register of the list is poisoned. -/
abbrev cleanV (s : State) (u : Nat) (rs : List Nat) : Prop := ∀ r ∈ rs, (vReg s u r).poison = false

/-- The thread of tile `u` after its instruction, changed by `f`, in the state that the command leaves. -/
def afterThread (s s1 : State) (u : Nat) (f : Thread → Thread) : State := kept s (modThread s1 u f)

/-- The partition of the node that tile `u` runs. -/
def nodePart (s : State) (u : Nat) : Nat := (nodeBinding (tileAt s u)).part

/-- A request of tile `u`'s thread has left for `target` as the newest packet, and the thread waits for its answer. -/
def AskedAndWaits (s t : State) (u target : Nat) (b : Body) : Prop :=
  ∃ tag, (tileAt t u).thread.block = some (.request target tag)
    ∧ t.net = s.net ++ [{ cls := 2, dest := target, src := rqId u 0, part := nodePart s u, tag := tag, body := b }]
    ∧ (∃ o, t.outs = s.outs ++ [o] ∧ o.unit = u ∧ o.sub = 0 ∧ o.target = target ∧ o.tag = tag ∧ o.body = b)

/-- Where an access outside the own frame window goes: the target unit and the memory request word (Table 11.10); none where its
placement is not cached. -/
def requestOf (s : State) (u : Nat) (w : Where) : Option (Nat × MemWord) :=
  match w with
  | .stand ph off => some (0x2CC + ph / 16, { space := 1, off := 0x100000 * (ph % 16) + off })
  | .host iova => some (homeUnit s (nodePart s u), { space := 2, off := iova })
  | .remote vt off =>
    match pcacheFind (tileAt s u) (nodePart s u) vt with
    | some e => some (e.unit, { space := 0, slot := e.slot, gen := e.gen, vtile := vt, off := off })
    | none => none
  | _ => none

/-- The line that a bulk store of 256 bytes names: in a stand buffer, or in the slot of a tile's frame window (R323). -/
def storeLine (m : MemWord) : Nat := if m.space = 0 then m.off / 64 % 2 ^ 14 + 2 ^ 16 * m.slot else m.off / 64

/-- A request of tile `u`'s thread has left as the newest packet; no g register and no byte of the frame changes. -/
def RequestLeft (s t : State) (u target : Nat) (b : Body) : Prop :=
  (∃ tag, t.net = s.net ++ [{ cls := 2, dest := target, src := rqId u 0, part := nodePart s u, tag := tag, body := b }])
  ∧ (tileAt t u).thread.g = (tileAt s u).thread.g ∧ (tileAt t u).frame = (tileAt s u).frame ∧ (∀ w, w ≠ u → tileAt t w = tileAt s w)

/-- The commands of node code that work on registers alone. -/
def registerOnly (u : Nat) (c : Instr) : Prop :=
  (∃ o, c = aluCmd o u) ∨ (∃ o, c = aluiCmd o u) ∨ (∃ o, c = cmpCmd o u) ∨ (∃ o, c = fltCmd o u)
  ∨ c ∈ [.plog u, .fcvt u, .mov u, .movi u, .movt u, .movtw u, .rdsys u, .vbcast u, .vext u, .vins u, .vred u, .nop u, .br u, .jr u,
      .done u, .rett u, .trap u]

end Sys2Proof.Machine

/-- The thirty-two integer instructions complete on operands without poison: scalar forms write the result of W bits, zero-extended
and without poison, to rd, vector forms every lane of vd; then the thread goes on at the next instruction (R80, R86, R88). -/
def Obligations.IntegerInstructions : Prop :=
  ∀ (o : AluOp) (u : Nat) (i : Ins) (s s1 : State), Issues s u i s1 →
    (i.op = .alu o → i.lead.vec = false → cleanG s1 u [i.b, i.c] →
      exec (aluCmd o u) s = .next (kept s (advance (setG s1 u i.a (aluVal (i.lead.width.getD 64) o (gVal s1 u i.b) (gVal s1 u i.c)) false) u i)))
    ∧ (i.op = .alu o → i.lead.vec = true → cleanV s1 u [i.b, i.c] →
      exec (aluCmd o u) s = .next (kept s (advance (setV s1 u i.a ⟨vecOf (i.lead.width.getD 32) (fun n =>
        aluVal (i.lead.width.getD 32) o (lane (i.lead.width.getD 32) (vReg s1 u i.b).val.toNat n)
          (lane (i.lead.width.getD 32) (vReg s1 u i.c).val.toNat n)), false⟩) u i)))
    ∧ (i.op = .alui o → i.lead.vec = false → cleanG s1 u [i.b] →
      exec (aluiCmd o u) s = .next (kept s (advance (setG s1 u i.a (aluVal (i.lead.width.getD 64) o (gVal s1 u i.b) (narrow 64 i.imm)) false) u i)))
    ∧ (i.op = .alui o → i.lead.vec = true → cleanV s1 u [i.b] →
      exec (aluiCmd o u) s = .next (kept s (advance (setV s1 u i.a ⟨vecOf (i.lead.width.getD 32) (fun n =>
        aluVal (i.lead.width.getD 32) o (lane (i.lead.width.getD 32) (vReg s1 u i.b).val.toNat n)
          (narrow (i.lead.width.getD 32) i.imm)), false⟩) u i)))

/-- R88, operation by operation, on words of W bits: sums, differences and products are modular; the high products, quotients and
shifts are those of the bit vectors; a division by zero gives all ones and a remainder by zero the dividend. -/
def Sys2Proof.Machine.IntegerValues : Prop :=
  ∀ (w a b : Nat), 0 < w →
    (BitVec.ofNat w (aluVal w .add a b) = BitVec.ofNat w a + BitVec.ofNat w b)
    ∧ (BitVec.ofNat w (aluVal w .sub a b) = BitVec.ofNat w a - BitVec.ofNat w b)
    ∧ (BitVec.ofNat w (aluVal w .mul a b) = BitVec.ofNat w a * BitVec.ofNat w b)
    ∧ (aluVal w .mulhu a b = (a % 2 ^ w) * (b % 2 ^ w) / 2 ^ w)
    ∧ (BitVec.ofNat w (aluVal w .mulhs a b) = BitVec.ofInt w ((BitVec.ofNat w a).toInt * (BitVec.ofNat w b).toInt / (2 ^ w : Nat)))
    ∧ (BitVec.ofNat w (aluVal w .divu a b) = if BitVec.ofNat w b = 0 then BitVec.allOnes w else BitVec.ofNat w a / BitVec.ofNat w b)
    ∧ (BitVec.ofNat w (aluVal w .divs a b) = if BitVec.ofNat w b = 0 then BitVec.allOnes w else (BitVec.ofNat w a).sdiv (BitVec.ofNat w b))
    ∧ (BitVec.ofNat w (aluVal w .remu a b) = BitVec.ofNat w a % BitVec.ofNat w b)
    ∧ (BitVec.ofNat w (aluVal w .and a b) = BitVec.ofNat w a &&& BitVec.ofNat w b)
    ∧ (BitVec.ofNat w (aluVal w .or a b) = BitVec.ofNat w a ||| BitVec.ofNat w b)
    ∧ (BitVec.ofNat w (aluVal w .xor a b) = BitVec.ofNat w a ^^^ BitVec.ofNat w b)
    ∧ (BitVec.ofNat w (aluVal w .shl a b) = BitVec.ofNat w a <<< (b % 2 ^ w % w))
    ∧ (BitVec.ofNat w (aluVal w .shr a b) = BitVec.ofNat w a >>> (b % 2 ^ w % w))
    ∧ (BitVec.ofNat w (aluVal w .sar a b) = (BitVec.ofNat w a).sshiftRight (b % 2 ^ w % w))
    ∧ (BitVec.ofNat w (aluVal w .mins a b) = if (BitVec.ofNat w a).sle (BitVec.ofNat w b) then BitVec.ofNat w a else BitVec.ofNat w b)
    ∧ (BitVec.ofNat w (aluVal w .maxs a b) = if (BitVec.ofNat w a).sle (BitVec.ofNat w b) then BitVec.ofNat w b else BitVec.ofNat w a)
    ∧ (∀ o : AluOp, aluVal w o a b < 2 ^ w)

/-- No integer operation raises a fault: after one on operands without poison, the fault collector stands as the fetch left it (R88). -/
def Sys2Proof.Machine.IntegerRaisesNothing : Prop :=
  ∀ (o : AluOp) (u : Nat) (i : Ins) (s s1 : State), Issues s u i s1 →
    (i.op = .alu o → (i.lead.vec = false → cleanG s1 u [i.b, i.c]) → (i.lead.vec = true → cleanV s1 u [i.b, i.c]) →
      Leaves (aluCmd o u) s (fun t => t.flt = s1.flt))
    ∧ (i.op = .alui o → (i.lead.vec = false → cleanG s1 u [i.b]) → (i.lead.vec = true → cleanV s1 u [i.b]) →
      Leaves (aluiCmd o u) s (fun t => t.flt = s1.flt))

/-- R88: what each integer operation computes on words of W bits, and that none raises a fault. -/
def Obligations.IntegerResults : Prop := IntegerValues ∧ IntegerRaisesNothing

/-- Compares write 1 or 0 to pd by the low W bits of their operands, and PLOG combines two predicates (R88, R89). -/
def Sys2Proof.Machine.CompareInstructions : Prop :=
  (∀ (o : CmpOp) (u : Nat) (i : Ins) (s s1 : State), Issues s u i s1 → i.op = .cmp o → cleanG s1 u [i.b, i.c] →
    exec (cmpCmd o u) s = .next (kept s (advance (setP s1 u i.a (cmpVal (i.lead.width.getD 64) o (gVal s1 u i.b) (gVal s1 u i.c))) u i)))
  ∧ (∀ (u : Nat) (i : Ins) (s s1 : State), Issues s u i s1 → i.op = .plog →
    exec (.plog u) s = .next (kept s (advance (setP s1 u i.a
      (match i.x with
        | 0 => pReg s1 u i.b && pReg s1 u i.c
        | 1 => pReg s1 u i.b || pReg s1 u i.c
        | 2 => pReg s1 u i.b != pReg s1 u i.c
        | _ => pReg s1 u i.b && !pReg s1 u i.c)) u i)))
  ∧ (∀ (w a b : Nat), 0 < w →
      cmpVal w .eq a b = decide (BitVec.ofNat w a = BitVec.ofNat w b)
      ∧ cmpVal w .ne a b = !decide (BitVec.ofNat w a = BitVec.ofNat w b)
      ∧ cmpVal w .lts a b = (BitVec.ofNat w a).slt (BitVec.ofNat w b)
      ∧ cmpVal w .ltu a b = (BitVec.ofNat w a).ult (BitVec.ofNat w b)
      ∧ cmpVal w .les a b = (BitVec.ofNat w a).sle (BitVec.ofNat w b)
      ∧ cmpVal w .leu a b = (BitVec.ofNat w a).ule (BitVec.ofNat w b))

/-- Float instructions and conversions complete on operands without poison, scalar on bits [31:0] and vector on each 32-bit lane; a
NaN operand gives the canonical NaN of every operation (R90). -/
def Sys2Proof.Machine.FloatInstructions : Prop :=
  (∀ (o : FltOp) (u : Nat) (i : Ins) (s s1 : State), Issues s u i s1 → i.op = .flt o → i.lead.vec = false →
      cleanG s1 u (if o = .fma then [i.b, i.c, i.a] else [i.b, i.c]) →
    exec (fltCmd o u) s = .next (kept s (advance (setG s1 u i.a
      (fltVal o (gVal s1 u i.a % 2 ^ 32) (gVal s1 u i.b % 2 ^ 32) (gVal s1 u i.c % 2 ^ 32)) false) u i)))
  ∧ (∀ (o : FltOp) (u : Nat) (i : Ins) (s s1 : State), Issues s u i s1 → i.op = .flt o → i.lead.vec = true →
      cleanV s1 u (if o = .fma then [i.b, i.c, i.a] else [i.b, i.c]) →
    exec (fltCmd o u) s = .next (kept s (advance (setV s1 u i.a ⟨vecOf 32 (fun n => fltVal o
      (lane 32 (vReg s1 u i.a).val.toNat n) (lane 32 (vReg s1 u i.b).val.toNat n) (lane 32 (vReg s1 u i.c).val.toNat n)), false⟩) u i)))
  ∧ (∀ (u : Nat) (i : Ins) (s s1 : State), Issues s u i s1 → i.op = .fcvt → i.lead.vec = false → cleanG s1 u [i.b] →
    exec (.fcvt u) s = .next (kept s (advance (setG s1 u i.a ((fCvt i.imm.toNat (gVal s1 u i.b % 2 ^ 32)).getD 0) false) u i)))
  ∧ (∀ (u : Nat) (i : Ins) (s s1 : State), Issues s u i s1 → i.op = .fcvt → i.lead.vec = true → cleanV s1 u [i.b] →
    exec (.fcvt u) s = .next (kept s (advance (setV s1 u i.a
      ⟨vecOf 32 (fun n => (fCvt i.imm.toNat (lane 32 (vReg s1 u i.b).val.toNat n)).getD 0), false⟩) u i)))
  ∧ (∀ (o : FltOp) (d a b : Nat), (fUnpack f32 a = .nan ∨ fUnpack f32 b = .nan ∨ (o = .fma ∧ fUnpack f32 d = .nan)) →
      fltVal o d a b = 0x7FC00000)

/-- Compare and floating-point instructions of a node (chapter 3). -/
def Obligations.CompareAndFloatInstructions : Prop := CompareInstructions ∧ FloatInstructions

/-- MOV copies a register with its poison; MOVI, MOVT, MOVTW and RDSYS move an immediate, a trap-bank register, a register into the
trap bank, and a system value; VBCAST, VEXT, VINS and VRED work on lanes (R80, R86, R586). -/
def Obligations.MoveInstructions : Prop :=
  ∀ (u : Nat) (i : Ins) (s s1 : State), Issues s u i s1 →
    (i.op = .mov → i.lead.vec = false →
      exec (.mov u) s = .next (kept s (advance (setG s1 u i.a (gVal s1 u i.b) (gReg s1 u i.b).poison) u i)))
    ∧ (i.op = .mov → i.lead.vec = true →
      exec (.mov u) s = .next (kept s (advance (setV s1 u i.a (vReg s1 u i.b)) u i)))
    ∧ (i.op = .movi → exec (.movi u) s = .next (kept s (advance (setG s1 u i.a (narrow 64 i.imm) false) u i)))
    ∧ (i.op = .movt →
      exec (.movt u) s = .next (kept s (advance (setG s1 u i.a ((tileAt s1 u).thread.t.getD i.b 0).toNat false) u i)))
    ∧ (i.op = .movtw → cleanG s1 u [i.b] →
      exec (.movtw u) s = .next (kept s (advance (modThread s1 u (fun th => { th with t := th.t.set i.a (BitVec.ofNat 64 (gVal s1 u i.b)) })) u i)))
    ∧ (i.op = .rdsys →
      exec (.rdsys u) s = .next (kept s (advance (setG s1 u i.a (match i.imm.toNat with
        | 0 => s1.clr.time % 2 ^ 64
        | 1 => u
        | 2 => (tileAt s1 u).thread.slot
        | 3 => (nodeBinding (tileAt s1 u)).vtile
        | 4 => (nodeBinding (tileAt s1 u)).part
        | 5 => (tileAt s1 u).fq.length
        | _ => (tileAt s1 u).thread.depth) false) u i)))
    ∧ (i.op = .vbcast → cleanG s1 u [i.b] →
      exec (.vbcast u) s = .next (kept s (advance (setV s1 u i.a ⟨vecOf (i.lead.width.getD 32) (fun _ => gVal s1 u i.b), false⟩) u i)))
    ∧ (i.op = .vext → cleanV s1 u [i.b] →
      exec (.vext u) s = .next (kept s (advance (setG s1 u i.a
        (lane (i.lead.width.getD 32) (vReg s1 u i.b).val.toNat i.imm.toNat) false) u i)))
    ∧ (i.op = .vins → cleanG s1 u [i.b] →
      exec (.vins u) s = .next (kept s (advance (setV s1 u i.a ⟨vecOf (i.lead.width.getD 32) (fun n =>
        if n = i.imm.toNat then gVal s1 u i.b else lane (i.lead.width.getD 32) (vReg s1 u i.a).val.toNat n), (vReg s1 u i.a).poison⟩) u i)))
    ∧ (i.op = .vred → cleanV s1 u [i.b] →
      exec (.vred u) s = .next (kept s (advance (setG s1 u i.a (vredVal (i.lead.width.getD 32) i.imm.toNat (vReg s1 u i.b).val) false) u i)))

/-- Control flow of node code: NOP; DONE ends the node and discards its stack cache; branches and jumps go to a target in the code
region; RETT leaves the trap bank to t1; TRAP enters it with cause 2, the next address and the code; FENCE goes on once everything
earlier has been accepted (R87, R92, R102, R110 to R112). -/
def Sys2Proof.Machine.ControlFlow : Prop :=
  ∀ (u : Nat) (i : Ins) (s s1 : State), Issues s u i s1 →
    (i.op = .nop → exec (.nop u) s = .next (kept s (advance s1 u i)))
    ∧ (i.op = .done → exec (.done u) s = .next (afterThread s s1 u (fun th => { th with
        running := false, stack := [], depth := 0, trapBank := false, block := none, pendG := [], pendV := [] })))
    ∧ (i.op = .br → inRegion s1 u (narrow 64 (((tileAt s1 u).thread.pc + i.len : Nat) + i.imm)) = true →
      exec (.br u) s = .next (afterThread s s1 u (fun th => { th with pc := narrow 64 (((tileAt s1 u).thread.pc + i.len : Nat) + i.imm) })))
    ∧ (i.op = .jr → cleanG s1 u [i.a] → inRegion s1 u (gVal s1 u i.a) = true →
      exec (.jr u) s = .next (afterThread s s1 u (fun th => { th with pc := gVal s1 u i.a })))
    ∧ (i.op = .rett → inRegion s1 u ((tileAt s1 u).thread.t.getD 1 0).toNat = true →
      exec (.rett u) s = .next (afterThread s s1 u (fun th => { th with pc := ((tileAt s1 u).thread.t.getD 1 0).toNat, trapBank := false })))
    ∧ (i.op = .trap → (tileAt s1 u).thread.trapBank = false →
        ((tileAt s1 u).code.getD (tileAt s1 u).thread.slot {}).trapValid = true →
      exec (.trap u) s = .next (afterThread s s1 u (fun th => { th with
        trapBank := true, pc := 4 * ((tileAt s1 u).code.getD (tileAt s1 u).thread.slot {}).trapEntry
        t := ((th.t.set 0 2#64).set 1 (BitVec.ofNat 64 ((tileAt s1 u).thread.pc + i.len))).set 2 (BitVec.ofNat 64 i.imm.toNat) })))
    ∧ (i.op = .fence → allAccepted s1 u = true → exec (.fence u) s = .next (kept s (advance s1 u i)))

/-- CALL and CALLR with an empty mask push the header word, lower g31 by 8 and branch; CALL that would cross the stack limit traps with
cause 1, its own address and the words it needed; RET of such a frame returns to the header's address and raises g31 by 8
(R107, R108, R111, Table 3.7). -/
def Sys2Proof.Machine.CallAndReturn : Prop :=
  ∀ (u : Nat) (i : Ins) (s s1 : State), Issues s u i s1 → u < s1.tiles.length → (tileAt s1 u).thread.g.length = 64 →
    (i.op = .call → i.mask = 0 → (tileAt s1 u).thread.trapBank = false → (tileAt s1 u).thread.stack = [] →
        8 + ((tileAt s1 u).stackReg.getD (tileAt s1 u).thread.slot {}).limit ≤ gVal s1 u 31 → inRegion s1 u (relTarget s1 u i) = true →
      Leaves (.call u) s (fun t => gVal t u 31 = gVal s1 u 31 - 8 ∧ (tileAt t u).thread.pc = relTarget s1 u i
        ∧ (tileAt t u).thread.depth = (tileAt s1 u).thread.depth + 1
        ∧ (tileAt t u).thread.stack = [(gVal s1 u 31 - 8, ⟨BitVec.ofNat 64 (((tileAt s1 u).thread.pc + i.len) % 2 ^ 17), false⟩)]
        ∧ (∀ r, r ≠ 31 → gReg t u r = gReg s1 u r) ∧ (tileAt t u).frame = (tileAt s1 u).frame))
    ∧ (i.op = .callr → i.mask = 0 → (tileAt s1 u).thread.trapBank = false → (tileAt s1 u).thread.stack = [] → cleanG s1 u [i.a] →
        8 + ((tileAt s1 u).stackReg.getD (tileAt s1 u).thread.slot {}).limit ≤ gVal s1 u 31 → inRegion s1 u (gVal s1 u i.a) = true →
      Leaves (.callr u) s (fun t => gVal t u 31 = gVal s1 u 31 - 8 ∧ (tileAt t u).thread.pc = gVal s1 u i.a
        ∧ (tileAt t u).thread.depth = (tileAt s1 u).thread.depth + 1))
    ∧ (i.op = .call → (tileAt s1 u).thread.trapBank = false →
        gVal s1 u 31 < 8 * ((maskRegs i.mask).length + 1) + ((tileAt s1 u).stackReg.getD (tileAt s1 u).thread.slot {}).limit →
        ((tileAt s1 u).code.getD (tileAt s1 u).thread.slot {}).trapValid = true →
      exec (.call u) s = .next (afterThread s s1 u (fun th => { th with
        trapBank := true, pc := 4 * ((tileAt s1 u).code.getD (tileAt s1 u).thread.slot {}).trapEntry
        t := ((th.t.set 0 1#64).set 1 (BitVec.ofNat 64 (tileAt s1 u).thread.pc)).set 2 (BitVec.ofNat 64 ((maskRegs i.mask).length + 1)) })))
    ∧ (∀ (ret : Nat), i.op = .ret → (tileAt s1 u).thread.depth = 1 → ret < 2 ^ 17 →
        (tileAt s1 u).thread.stack = [(gVal s1 u 31, ⟨BitVec.ofNat 64 ret, false⟩)] → gVal s1 u 31 + 8 < 2 ^ 64 → inRegion s1 u ret = true →
      Leaves (.ret u) s (fun t => (tileAt t u).thread.pc = ret ∧ gVal t u 31 = gVal s1 u 31 + 8 ∧ (tileAt t u).thread.depth = 0
        ∧ (tileAt t u).thread.stack = [] ∧ (∀ r, r ≠ 31 → gReg t u r = gReg s1 u r)))

/-- Branches, calls and returns of a node (chapter 3). -/
def Obligations.ControlInstructions : Prop := ControlFlow ∧ CallAndReturn

/-- Loads, stores and AADD in the own frame window: a load writes the bytes at the effective address and their poison to its register, a
store writes the register's bytes with its poison, AADD adds and returns the old value (R80, R83, R91, R93). -/
def Obligations.OwnFrameAccesses : Prop :=
  ∀ (u pa : Nat) (i : Ins) (s s1 : State), Issues s u i s1 → cleanG s1 u [i.b] →
      windowOf s1 (tileAt s1 u) (tileAt s1 u).thread.slot (effAddr s1 u i) (accBytes i) = .own pa → effAddr s1 u i % accAlign i = 0 →
    (i.op = .ld → i.lead.vec = false → exec (.ld u) s = .next (kept s (advance (setG (frameRead s1 u pa (scalarW i / 8)).1 u i.a
        (frameRead s1 u pa (scalarW i / 8)).2.1 (frameRead s1 u pa (scalarW i / 8)).2.2) u i)))
    ∧ (i.op = .ld → i.lead.vec = true → exec (.ld u) s = .next (kept s (advance (setV (frameRead s1 u pa 256).1 u i.a
        ⟨BitVec.ofNat 2048 (frameRead s1 u pa 256).2.1, (frameRead s1 u pa 256).2.2⟩) u i)))
    ∧ (i.op = .lds → i.lead.vec = false → exec (.lds u) s = .next (kept s (advance (setG (frameRead s1 u pa (scalarW i / 8)).1 u i.a
        (narrow 64 (signed (scalarW i) (frameRead s1 u pa (scalarW i / 8)).2.1)) (frameRead s1 u pa (scalarW i / 8)).2.2) u i)))
    ∧ (i.op = .st → i.lead.vec = false → exec (.st u) s = .next (kept s (advance
        (frameWrite s1 u pa (scalarW i / 8) (gVal s1 u i.a) (gReg s1 u i.a).poison) u i)))
    ∧ (i.op = .st → i.lead.vec = true → exec (.st u) s = .next (kept s (advance
        (frameWriteWords s1 u pa 32 (vReg s1 u i.a).val.toNat (if (vReg s1 u i.a).poison then 2 ^ 32 - 1 else 0)) u i)))
    ∧ (i.op = .aadd → i.lead.vec = false → cleanG s1 u [i.b, i.c] → exec (.aadd u) s = .next (kept s (advance (setG
        (frameWrite (frameRead s1 u pa (scalarW i / 8)).1 u pa (scalarW i / 8)
          (((frameRead s1 u pa (scalarW i / 8)).2.1 + gVal s1 u i.c) % 2 ^ scalarW i) (frameRead s1 u pa (scalarW i / 8)).2.2) u i.a
        (frameRead s1 u pa (scalarW i / 8)).2.1 (frameRead s1 u pa (scalarW i / 8)).2.2) u i)))

/-- A frame write changes the bytes of the access and no other byte of any frame; a whole word takes the mark of its data, a narrower
one keeps a mark that is set (R469). -/
def Obligations.FrameWriteFrame : Prop :=
  ∀ (s : State) (u pa n v : Nat) (poison : Bool), u < s.tiles.length → n ≤ 8 → Memory.wf (tileAt s u).frame = true →
    (∀ a, (a < pa ∨ pa + n ≤ a) → (tileAt (frameWrite s u pa n v poison) u).frame.rd a = (tileAt s u).frame.rd a)
    ∧ (tileAt (frameWrite s u pa n v poison) u).frame.rdBytes pa n = leBytes n v
    ∧ Memory.wf (tileAt (frameWrite s u pa n v poison) u).frame = true
    ∧ (∀ w, w ≠ u → tileAt (frameWrite s u pa n v poison) w = tileAt s w)

/-- An access outside the own frame window leaves as a request to the unit that holds the address, with the memory request word of
Table 11.10, and changes no frame byte and no register: a stand slice's buffer, the home bridge, or the tile that the placement cache
gives for a remote frame window (R49, R51, R91, R326). -/
def Sys2Proof.Machine.RemoteAccesses : Prop :=
  ∀ (u target : Nat) (m : MemWord) (i : Ins) (s s1 : State), Issues s u i s1 → cleanG s1 u [i.b] → u < s1.tiles.length →
      requestOf s1 u (windowOf s1 (tileAt s1 u) (tileAt s1 u).thread.slot (effAddr s1 u i) (accBytes i)) = some (target, m) →
      effAddr s1 u i % accAlign i = 0 → memOut s1 u < 8 →
    (i.op = .ld → i.lead.vec = false → Leaves (.ld u) s (fun t => RequestLeft s1 t u target (.readWord m) ∧ i.a ∈ (tileAt t u).thread.pendG))
    ∧ (i.op = .ld → i.lead.vec = true → Leaves (.ld u) s (fun t => RequestLeft s1 t u target (.readBulk m) ∧ i.a ∈ (tileAt t u).thread.pendV))
    ∧ (i.op = .lds → i.lead.vec = false → Leaves (.lds u) s (fun t => RequestLeft s1 t u target (.readWord m) ∧ i.a ∈ (tileAt t u).thread.pendG))
    ∧ (i.op = .st → i.lead.vec = false → Leaves (.st u) s (fun t => RequestLeft s1 t u target (.writeWord m (scalarW i)
        ⟨BitVec.ofNat 64 (gVal s1 u i.a % 2 ^ scalarW i), (gReg s1 u i.a).poison⟩)))
    ∧ (i.op = .aadd → i.lead.vec = false → cleanG s1 u [i.b, i.c] → m.space ≠ 2 →
        Leaves (.aadd u) s (fun t => RequestLeft s1 t u target (.aadd m (scalarW i) (BitVec.ofNat 64 (gVal s1 u i.c)))
          ∧ i.a ∈ (tileAt t u).thread.pendG))
    ∧ (i.op = .st → i.lead.vec = true → m.space ≠ 2 → Leaves (.st u) s (fun t => RequestLeft s1 t u target
        (.lineWrite (storeLine m) (storeSlot s1 u) true (leBytes 256 (vReg s1 u i.a).val.toNat) (if (vReg s1 u i.a).poison then 2 ^ 32 - 1 else 0))))
    ∧ (i.op = .st → i.lead.vec = true → m.space = 2 → Leaves (.st u) s (fun t => t.net = s1.net ++
        [{ cls := 2, dest := target, src := rqId u 0, part := nodePart s1 u, tag := 0, body := .hostBase (storeSlot s1 u) m.off },
         { cls := 2, dest := target, src := rqId u 0, part := nodePart s1 u, tag := storeSlot s1 u, body :=
            .lineWrite 0 (storeSlot s1 u) true (leBytes 256 (vReg s1 u i.a).val.toNat) (if (vReg s1 u i.a).poison then 2 ^ 32 - 1 else 0) }]
        ∧ (tileAt t u).frame = (tileAt s1 u).frame ∧ (∀ w, w ≠ u → tileAt t w = tileAt s1 w)))

/-- An access to a remote frame window whose placement is not cached waits for the placement, and the thread goes on at the next
instruction; no frame byte changes (R48, R49, R91). -/
def Sys2Proof.Machine.UncachedAccesses : Prop :=
  ∀ (u vt off : Nat) (c : Instr) (i : Ins) (s s1 : State), Issues s u i s1 → cleanG s1 u [i.b] → u < s1.tiles.length →
      windowOf s1 (tileAt s1 u) (tileAt s1 u).thread.slot (effAddr s1 u i) (accBytes i) = .remote vt off →
      pcacheFind (tileAt s1 u) (nodePart s1 u) vt = none → effAddr s1 u i % accAlign i = 0 → memOut s1 u < 8 →
      ((c = .ld u ∧ i.op = .ld) ∨ (c = .lds u ∧ i.op = .lds) ∨ (c = .st u ∧ i.op = .st) ∨ (c = .aadd u ∧ i.op = .aadd ∧ i.lead.vec = false ∧ cleanG s1 u [i.b, i.c])) →
    Leaves c s (fun t => (∃ m, (tileAt t u).memWait = (tileAt s1 u).memWait ++ [m] ∧ m.vt = vt)
      ∧ (tileAt t u).thread.pc = (tileAt s1 u).thread.pc + i.len
      ∧ (tileAt t u).frame = (tileAt s1 u).frame ∧ (∀ w, w ≠ u → tileAt t w = tileAt s1 w))

/-- The send instructions put their token into the send unit, which then issues what it can: SEND and SENDS take CONTEXT, ITERATION and
VTILE from the tag register and NODE and PORT from the instruction, SENDS clearing ITERATION; SENDR takes everything but PARTITION from
the register; SENDC makes a CTX_PURGE token (R41, R95, R96). -/
def Obligations.SendInstructions : Prop :=
  ∀ (u : Nat) (i : Ins) (s s1 : State), Issues s u i s1 → (tileAt s1 u).send.length < 8 →
    (i.op = .send → cleanG s1 u (sendRegs i i.b) →
      exec (.send u) s = .next (kept s (enterSend s1 u i (mkTag (nodePart s1 u) (tagCtx (BitVec.ofNat 64 (gVal s1 u i.b)))
        (tagIter (BitVec.ofNat 64 (gVal s1 u i.b))) (tagVt (BitVec.ofNat 64 (gVal s1 u i.b))) i.imm.toNat i.x 0) (gReg s1 u i.a))))
    ∧ (i.op = .sends → cleanG s1 u (sendRegs i i.b) →
      exec (.sends u) s = .next (kept s (enterSend s1 u i (mkTag (nodePart s1 u) (tagCtx (BitVec.ofNat 64 (gVal s1 u i.b)))
        0 (tagVt (BitVec.ofNat 64 (gVal s1 u i.b))) i.imm.toNat i.x 1) (gReg s1 u i.a))))
    ∧ (i.op = .sendr → cleanG s1 u (sendRegs i i.b) → tagKind (BitVec.ofNat 64 (gVal s1 u i.b)) < 2 →
      exec (.sendr u) s = .next (kept s (enterSend s1 u i (mkTag (nodePart s1 u) (tagCtx (BitVec.ofNat 64 (gVal s1 u i.b)))
        (tagIter (BitVec.ofNat 64 (gVal s1 u i.b))) (tagVt (BitVec.ofNat 64 (gVal s1 u i.b))) (tagNode (BitVec.ofNat 64 (gVal s1 u i.b)))
        (tagPort (BitVec.ofNat 64 (gVal s1 u i.b))) (tagKind (BitVec.ofNat 64 (gVal s1 u i.b)))) (gReg s1 u i.a))))
    ∧ (i.op = .sendc → cleanG s1 u [i.a] →
      exec (.sendc u) s = .next (kept s (enterSend s1 u i (mkTag (nodePart s1 u) (tagCtx (BitVec.ofNat 64 (gVal s1 u i.a)))
        0 (tagVt (BitVec.ofNat 64 (gVal s1 u i.a))) 1 0 2) {})))
    ∧ (∀ tag v, enterSend s1 u i tag v = drainSends (advance (setTile s1 u { tileAt s1 u with send := (tileAt s1 u).send ++
        [{ tok := ⟨v.val, tag, v.poison⟩, pc := (tileAt s1 u).thread.pc, trail := i.lead.trail.map (fun r => gVal s1 u r % 2 ^ 32)
           serial := (tileAt s1 u).thread.serial, itag := (tileAt s1 u).thread.itag, slot := (tileAt s1 u).thread.slot
           trapBank := (tileAt s1 u).thread.trapBank }] }) u i) u)

/-- The instructions that ask a unit of the clearing for a service send their request and block the thread until its answer: CTXA and
CTXR the context pool, SPAWN and SPAWN_TRY the scheduler, and the lock instructions the lock unit, while the tag window is open
(R98, R99, R104, R338). -/
def Sys2Proof.Machine.ServiceRequests : Prop :=
  ∀ (u : Nat) (i : Ins) (s s1 : State), Issues s u i s1 → u < s1.tiles.length →
    (i.op = .ctxa → windowOpen s1 (rqId u 0) (nodePart s1 u) 0x303 = true →
      Leaves (.ctxa u) s (fun t => AskedAndWaits s1 t u 0x303 .ctxAlloc))
    ∧ (i.op = .ctxr → cleanG s1 u [i.b] → windowOpen s1 (rqId u 0) (nodePart s1 u) 0x303 = true →
      Leaves (.ctxr u) s (fun t => AskedAndWaits s1 t u 0x303 (.ctxRelease (gVal s1 u i.b))))
    ∧ (cleanG s1 u [i.b, i.c] → (bit (gVal s1 u i.b) 56 = true → cleanG s1 u [i.a]) → windowOpen s1 (rqId u 0) (nodePart s1 u) 0x301 = true →
      (i.op = .spawn → Leaves (.spawn u) s (fun t => ∃ req, AskedAndWaits s1 t u 0x301 (.admission req)
        ∧ req.spawn = BitVec.ofNat 64 (gVal s1 u i.b) ∧ req.arg = BitVec.ofNat 64 (gVal s1 u i.c) ∧ req.launch = false))
      ∧ (i.op = .spawnTry → Leaves (.spawnTry u) s (fun t => ∃ req, AskedAndWaits s1 t u 0x301 (.admission req)
        ∧ req.spawn = BitVec.ofNat 64 (gVal s1 u i.b) ∧ req.arg = BitVec.ofNat 64 (gVal s1 u i.c) ∧ req.launch = false)))
    ∧ (cleanG s1 u [i.b] → windowOpen s1 (rqId u 0) (nodePart s1 u) 0x304 = true →
      (i.op = .lacq → Leaves (.lacq u) s (fun t => AskedAndWaits s1 t u 0x304 (.lockOp ⟨.acquire, gVal s1 u i.b, (tileAt s1 u).thread.slot⟩)))
      ∧ (i.op = .ltry → Leaves (.ltry u) s (fun t => AskedAndWaits s1 t u 0x304 (.lockOp ⟨.try_, gVal s1 u i.b, (tileAt s1 u).thread.slot⟩)))
      ∧ (i.op = .lrel → Leaves (.lrel u) s (fun t => AskedAndWaits s1 t u 0x304 (.lockOp ⟨.release, gVal s1 u i.b, (tileAt s1 u).thread.slot⟩)))
      ∧ (i.op = .sacq → Leaves (.sacq u) s (fun t => AskedAndWaits s1 t u 0x304 (.lockOp ⟨.semAcquire, gVal s1 u i.b, (tileAt s1 u).thread.slot⟩)))
      ∧ (i.op = .srel → Leaves (.srel u) s (fun t => AskedAndWaits s1 t u 0x304 (.lockOp ⟨.semRelease, gVal s1 u i.b, (tileAt s1 u).thread.slot⟩))))

/-- The instructions with which a node asks another unit: remote accesses and service requests (chapter 3). -/
def Obligations.RequestsOfNodes : Prop := RemoteAccesses ∧ UncachedAccesses ∧ ServiceRequests

/-- TAKE asks the stand's scheduler and waits up to its limit; COMPLETE reports the activation once everything earlier has been
accepted; LOCKSTEP waits for the kernel's entry; WAITEV waits where no selected event bit is set, and otherwise takes
the selected set bits and clears them; the limits of WAITEV
and TAKE end their waits (R100, R101, R103, R105, R246). -/
def Sys2Proof.Machine.WaitingInstructions : Prop :=
  (∀ (u : Nat) (i : Ins) (s s1 : State), Issues s u i s1 → u < s1.tiles.length →
    (i.op = .take → cleanG s1 u [i.b] →
      Leaves (.take u) s (fun t => ∃ tag, t.net = s1.net ++ [{ cls := 2, dest := 0x2C4 + standOf u, src := rqId u 0, part := nodePart s1 u, tag := tag, body := .take i.imm.toNat (nodeBinding (tileAt s1 u)).vtile }]
        ∧ (tileAt t u).thread.block = some (.take i.a tag (if gVal s1 u i.b = 0 then none else some (tileNow s1 + gVal s1 u i.b)) false)))
    ∧ (i.op = .complete → cleanG s1 u [i.a, i.b] → allAccepted s1 u = true → windowOpen s1 (rqId u 0) (nodePart s1 u) 0x301 = true →
      Leaves (.complete u) s (fun t => ∃ tag, t.net = s1.net ++ [{ cls := 2, dest := 0x301, src := rqId u 0, part := nodePart s1 u, tag := tag, body := .complete (gVal s1 u i.a % 2 ^ 32) (gVal s1 u i.b % 256) }]
        ∧ (tileAt t u).thread.pc = (tileAt s1 u).thread.pc + i.len))
    ∧ (i.op = .lockstep → inRegion s1 u (4 * i.imm.toNat) = true →
      exec (.lockstep u) s = .next (kept s (modThread (advance s1 u i) u (fun th => { th with
        block := some (.kernel i.a (4 * i.imm.toNat) (tileAt s1 u).thread.pc) }))))
    ∧ (i.op = .waitev → cleanG s1 u [i.b, i.c] → gVal s1 u i.b % 256 < 16 → (tileAt s1 u).event &&& (gVal s1 u i.b % 256) = 0 →
      exec (.waitev u) s = .next (kept s (modThread (advance s1 u i) u (fun th => { th with
        block := some (.waitEv i.a (gVal s1 u i.b % 256) (if gVal s1 u i.c = 0 then none else some (tileNow s1 + gVal s1 u i.c))) }))))
    ∧ (i.op = .waitev → cleanG s1 u [i.b, i.c] → gVal s1 u i.b % 256 < 16 → (tileAt s1 u).event &&& (gVal s1 u i.b % 256) ≠ 0 →
        i.a < (tileAt s1 u).thread.g.length →
      Leaves (.waitev u) s (fun t => gReg t u i.a = ⟨BitVec.ofNat 64 ((tileAt s1 u).event &&& (gVal s1 u i.b % 256)), false⟩
        ∧ (tileAt t u).event = (tileAt s1 u).event - ((tileAt s1 u).event &&& (gVal s1 u i.b % 256))
        ∧ (tileAt t u).thread.block = none ∧ (tileAt t u).thread.pc = (tileAt s1 u).thread.pc + i.len)))
  ∧ (∀ (u rd mask lim : Nat) (s : State), tileRuns s u = true → (tileAt s u).thread.block = some (.waitEv rd mask (some lim)) → lim ≤ tileNow s →
    exec (.waitevTimeout u) s = .next (kept s (modThread (setG s u rd 0 false) u (fun th => { th with block := none }))))
  ∧ (∀ (u rd tag lim : Nat) (s : State), tileRuns s u = true → (tileAt s u).thread.block = some (.take rd tag (some lim) false) → lim ≤ tileNow s → u < s.tiles.length →
    Leaves (.takeTimeout u) s (fun t => (∃ tag2, t.net = s.net ++ [{ cls := 2, dest := 0x2C4 + standOf u, src := rqId u 0, part := nodePart s u, tag := tag2, body := .takeCancel tag }])
      ∧ (tileAt t u).thread.block = some (.take rd tag (some lim) true)))

/-- Shown for the integer operations of two registers: one whose predicate is false has no effect but to pass to the next instruction
(R87); one that consumes a poisoned register raises POISON_CONSUMED with ORPHAN set, and its node is abandoned with no register written
(R93, R114). -/
def Sys2Proof.Machine.SkippedAndAbandoned : Prop :=
  (∀ (u : Nat) (i : Ins) (s : State) (o : AluOp) (p : Nat) (v : Bool), i.lead.pred = some (p, v) → pReg s u p = !v → i.op = .alu o →
      canIssue s u = true → inRegion s u (tileAt s u).thread.pc = true →
      decodeNode (ByteMem.rdBytes (tileAt s u).istore (tileAt s u).thread.pc
        (min 15 ((codeRegion (tileAt s u) (tileAt s u).thread.slot).2 - (tileAt s u).thread.pc))) = .ok i →
      fetchLines s u ((tileAt s u).thread.pc / 64) (((tileAt s u).thread.pc + i.len - 1) / 64 - (tileAt s u).thread.pc / 64 + 1) = (s, none) →
    exec (aluCmd o u) s = .next (modThread s u (fun th => { th with pc := th.pc + i.len })))
  ∧ (∀ (u : Nat) (i : Ins) (s s1 : State) (o : AluOp), Issues s u i s1 → i.op = .alu o → i.lead.vec = false → u < s1.tiles.length →
      (gReg s1 u i.b).poison = true →
    Leaves (aluCmd o u) s (fun t => (tileAt t u).thread.running = false ∧ (tileAt t u).thread.g = (tileAt s1 u).thread.g
      ∧ (tileAt t u).thread.abandoned = ((tileAt s1 u).thread.abandoned + 1) % 2 ^ 32
      ∧ ∃ m, t.flt.inbox = s1.flt.inbox ++ [m] ∧ m.head % 1024 = 0x0C2 ∧ m.head / 2 ^ 59 % 2 = 1
        ∧ m.detail = (tileAt s1 u).thread.itag.toNat))

/-- Instructions that wait, and nodes that are skipped or abandoned (chapter 3). -/
def Obligations.WaitsAndNodeEnds : Prop := WaitingInstructions ∧ SkippedAndAbandoned

/-- What the instructions that work on registers alone leave unchanged: every other tile, and of their own tile everything but the
thread, the v registers and the errors of instruction-store lines; outside the tiles only the collector's inbox takes records. -/
def Obligations.RegisterInstructionsFrame : Prop :=
  ∀ (u : Nat) (c : Instr) (s t : State), registerOnly u c → exec c s = .next t →
    ∃ th v ie ib fl, t = { s with
      tiles := s.tiles.set u { tileAt s u with thread := th, v := v, istoreErr := ie, istoreBad := ib }, flt := { s.flt with inbox := fl } }

namespace Sys2Proof.Machine

/-- A request of `rq` reaches a target that serves it now: the work units run, the packet is the oldest of its flow, and the target is
in no slice. -/
abbrev Reaches (s : State) (target : Nat) (rq : Rq) (b : Body) : Prop :=
  working s = true ∧ arrivable s (reqPkt target rq b) = true ∧ sliceLeft s target = none

/-- The same, for a request whose tag the target's replay cache does not hold (R339). -/
abbrev ReachesNew (s : State) (target : Nat) (rq : Rq) (b : Body) : Prop :=
  Reaches s target rq b ∧ s.replays.find? (fun e => e.is target rq) = none

/-- A target's answer to a request, kept in its replay cache (R339). -/
def answeredKept (s : State) (target : Nat) (rq : Rq) (r : Resp) : State := respond (replayAdd s target rq (some r)) target rq r

/-- A response to the outstanding request `o` reaches its requester: the work units run, it is the oldest of its flow, and it answers
`o`. -/
abbrev AnswersTo (s : State) (unit src part tag sub : Nat) (r : Resp) (o : OutReq) : Prop :=
  working s = true ∧ arrivable s (rspPkt unit src part tag sub r) = true ∧ matchOut s unit sub part tag (src / 4) r = some o

/-- `s` when the response has left the network and `o` is no longer outstanding. -/
def ended (s : State) (unit src part tag sub : Nat) (r : Resp) (o : OutReq) : State :=
  { takePkt s (rspPkt unit src part tag sub r) with outs := s.outs.erase o }

/-- Tile `u`'s matcher takes the head `h` of its input queue and reads node table entry `w`, the state then being `s1`. -/
abbrev TakesHead (s : State) (u : Nat) (h : QTok) (rest : List QTok) (s1 : State) (w : Option Nat) : Prop :=
  matcherFree s u = true ∧ (tileAt s u).iq = h :: rest ∧ nodeLookup s u h.tok h.src = (s1, w)

end Sys2Proof.Machine

/-- A token packet whose tile has room is taken, in a self-test slice too: each token that passes the arrival checks of Table 2.6 enters
the input queue of the tile that serves its destination, one that fails a check is dropped and raises that check's kind, and a dropped
start token is reported lost to the scheduler; an ACK packet is owed its acknowledgement. A quarantined tile drops its tokens without a
fault, and a unit that is no tile drops the packet with NOC_HEADER_INVALID (R50, R73, R241, R325, R333, R474, R588). -/
def Obligations.TokenArrival : Prop :=
  (∀ (s : State) (u src part gen : Nat) (toks : List Token) (ack : Bool) (handle : Option Nat) (p : Packet), working s = true →
      p = { cls := 1, dest := u, src := src, part := part, tag := 0, body := (match handle with
        | some h => .actTokens gen toks h
        | none => .tokens gen toks ack) } → arrivable s p = true →
    (u < 0x110 → (tileAt s (steer s u)).excluded = false → (tileAt s (steer s u)).iqCredits ≠ 0 → (tileAt s (steer s u)).iq.length + 4 ≤ 2048 →
      exec (.tokenArrival u src part gen toks ack handle) s = .next (kept s (sendOn (modTile
        (modTile (arriveTokens (takePkt s p) (steer s u) src part gen handle toks) (steer s u) useCredit) (steer s u)
        (fun t => if ack then { t with ackOwed := oweAck (now s) src t.ackOwed } else t)) (src / 4))))
    ∧ (u < 0x110 → (tileAt s (steer s u)).excluded = true →
      exec (.tokenArrival u src part gen toks ack handle) s = .next (kept s (sendOn (takePkt s p) (src / 4))))
    ∧ (isUnit u = true → 0x110 ≤ u →
      exec (.tokenArrival u src part gen toks ack handle) s = .next (kept s (sendOn (dropPkt s u p) (src / 4)))))
  ∧ (∀ (s : State) (u src part gen : Nat) (handle : Option Nat) (k : Token),
      (arrivalCheck (tileAt s u) k part gen = none → arriveToken s u src part gen handle k = setTile s u
        (noteHwm { tileAt s u with iq := (tileAt s u).iq ++ [⟨k, src⟩], arrived := ((tileAt s u).arrived + 1) % 2 ^ 32 }))
      ∧ (∀ kind, arrivalCheck (tileAt s u) k part gen = some kind →
        (arriveToken s u src part gen handle k).tiles = s.tiles
        ∧ (arriveToken s u src part gen handle k).flt.inbox
            = s.flt.inbox ++ [⟨now s % 2 ^ 64, faultHead kind (rqId u 0) (rqId u 0 / 4) (some part) none, src, k.tag.toNat⟩]
        ∧ (arriveToken s u src part gen handle k).net = s.net ++ (match handle with
            | some h => [{ cls := 0, dest := 0x301, src := rqId u 3, part := part, tag := 0, body := .activationLost h }]
            | none => [])))
  ∧ (∀ (t : Tile) (k : Token) (part gen : Nat),
      (tagKind k.tag = 3 → arrivalCheck t k part gen = some 0x0A0)
      ∧ (tagKind k.tag < 3 → (part ≠ tagPart k.tag ∨ tilePart t ≠ some part) → arrivalCheck t k part gen = some 0x0A5)
      ∧ (tagKind k.tag < 2 → part = tagPart k.tag → tilePart t = some part →
          arrivalCheck t k part gen = (match t.bindings.find? (fun b => b.valid && decide (b.vtile = tagVt k.tag)) with
            | some b => if b.gen = gen then none else some 0x0A4
            | none => some 0x0A4))
      ∧ (tagKind k.tag = 2 → tagNode k.tag = 0 → part = tagPart k.tag → tilePart t = some part → arrivalCheck t k part gen = none))

/-- The head of an input queue (R45, R52, R305): a token whose node table entry is missing or does not fit is dropped with the fault of
Table 2.8; one that the spill filter holds back waits; any other is matched. A token of kind 3 came back from overspill and is not
tested again. -/
def Sys2Proof.Machine.MatchToken : Prop :=
  ∀ (s s1 : State) (u : Nat) (h : QTok) (rest : List QTok), tagKind h.tok.tag = 0 ∨ tagKind h.tok.tag = 3 →
    (TakesHead s u h rest s1 none → exec (.matchToken u) s = .next (kept s (popHead s1 u)))
    ∧ (∀ w, TakesHead s u h rest s1 (some w) →
      (ntArity w ≤ tagPort h.tok.tag → exec (.matchToken u) s = .next (kept s (dropHead s1 u 0x0A1 h.src h.tok)))
      ∧ (tagPort h.tok.tag < ntArity w → bit (ntSticky w) (tagPort h.tok.tag) = true →
        exec (.matchToken u) s = .next (kept s (dropHead s1 u 0x0A0 h.src h.tok)))
      ∧ (tagPort h.tok.tag < ntArity w → bit (ntSticky w) (tagPort h.tok.tag) = false →
        (tagKind h.tok.tag = 3 ∨ (tileAt s1 u).spl.tested = true →
          exec (.matchToken u) s = .next (kept s (matchNormal s1 u h.tok h.src w)))
        ∧ (∀ s2, tagKind h.tok.tag = 0 → (tileAt s1 u).spl.tested = false → filterTest s1 u h.tok = (s2, true) →
          exec (.matchToken u) s = .next (kept s (matchNormal
            (modTile s2 u (fun t => { t with spl := { t.spl with tested := true } })) u h.tok h.src w)))
        ∧ (∀ s2, tagKind h.tok.tag = 0 → (tileAt s1 u).spl.tested = false → filterTest s1 u h.tok = (s2, false) →
          exec (.matchToken u) s = .next (kept s s2))))

/-- Matching (R52 to R54, R72, R74), the lookup having met the stored errors of its sets: a token that finds every other operand stored
fires its node into the fire queue, or holds it while the queue is full, and the normal operands leave the store; one that does not is
stored under its instance key, or waits while there is no room; a second token for a stored key and port is dropped with
TOKEN_PORT_COLLISION. -/
def Sys2Proof.Machine.Matching : Prop :=
  ∀ (s m : State) (u src w : Nat) (k : Token), u < s.tiles.length →
      m = (if ntArity w = 1 then s else meetLookup s u (setIndex (instKey k.tag) false)
        (if ntSticky w = 0 then setIndex (instKey k.tag) false else setIndex (stickyKey (instKey k.tag)) true)) →
    (∀ (ps : List (Nat × Loc)) (e : FireEntry), partners (tileAt m u) w (instKey k.tag) (tagPort k.tag) (ntArity w) = some ps →
        e = { level := bits w 12 10, tag := BitVec.ofNat 64 (16 * instKey k.tag), entry := 4 * bits w 31 17, ops := operandsOf (tagPort k.tag) ⟨k.val, k.poison⟩ ps (ntArity w) } →
      (tileAt (matchNormal s u k src w) u).iq = (tileAt m u).iq.tail
      ∧ (tileAt (matchNormal s u k src w) u).store = (consume (tileAt m u) w ps).store
      ∧ (tileAt (matchNormal s u k src w) u).ovf = (consume (tileAt m u) w ps).ovf
      ∧ (fqRoom (tileAt m u) e.level = true → (tileAt (matchNormal s u k src w) u).fq = (tileAt m u).fq ++ [e])
      ∧ (fqRoom (tileAt m u) e.level = false → (tileAt (matchNormal s u k src w) u).fq = (tileAt m u).fq
          ∧ (tileAt (matchNormal s u k src w) u).held = some e)
      ∧ (∀ v, v ≠ u → tileAt (matchNormal s u k src w) v = tileAt m v) ∧ (matchNormal s u k src w).net = s.net)
    ∧ (partners (tileAt m u) w (instKey k.tag) (tagPort k.tag) (ntArity w) = none →
        findEntry (tileAt m u) (instKey k.tag) (tagPort k.tag) false = none →
      (∀ t', storeEntry (tileAt m u) (setIndex (instKey k.tag) false)
          { key := instKey k.tag, port := tagPort k.tag, state := if k.poison then 2 else 1, val := k.val } = some t' →
        matchNormal s u k src w = popHead (setTile m u t') u)
      ∧ (storeEntry (tileAt m u) (setIndex (instKey k.tag) false)
          { key := instKey k.tag, port := tagPort k.tag, state := if k.poison then 2 else 1, val := k.val } = none →
        matchNormal s u k src w = stallStore m u))
    ∧ (∀ l, partners (tileAt m u) w (instKey k.tag) (tagPort k.tag) (ntArity w) = none →
        findEntry (tileAt m u) (instKey k.tag) (tagPort k.tag) false = some l →
      matchNormal s u k src w = dropHead m u 0x0A3 src k)

/-- A sticky token is stored under its sticky key, ITERATION being zero, or waits for room; a second one for the key and port is
dropped with STICKY_DUPLICATE and changes no stored token; one for a port that is not sticky, or with a non-zero ITERATION, is dropped
with TOKEN_KIND_INVALID (R55, R69). -/
def Sys2Proof.Machine.MatchStickyToken : Prop :=
  ∀ (s s1 m : State) (u w : Nat) (h : QTok) (rest : List QTok), TakesHead s u h rest s1 (some w) → tagKind h.tok.tag = 1 →
      tagPort h.tok.tag < ntArity w →
      m = meetLookup s1 u (setIndex (stickyKey (instKey h.tok.tag)) true) (setIndex (stickyKey (instKey h.tok.tag)) true) →
    (bit (ntSticky w) (tagPort h.tok.tag) = false ∨ tagIter h.tok.tag ≠ 0 →
      exec (.matchStickyToken u) s = .next (kept s (dropHead s1 u 0x0A0 h.src h.tok)))
    ∧ (bit (ntSticky w) (tagPort h.tok.tag) = true → tagIter h.tok.tag = 0 →
      (findEntry (tileAt m u) (stickyKey (instKey h.tok.tag)) (tagPort h.tok.tag) true = none →
        (∀ t', storeEntry (tileAt m u) (setIndex (stickyKey (instKey h.tok.tag)) true)
            { key := stickyKey (instKey h.tok.tag), port := tagPort h.tok.tag, state := 3, spoison := h.tok.poison, val := h.tok.val } = some t' →
          exec (.matchStickyToken u) s = .next (kept s (popHead (setTile m u t') u)))
        ∧ (storeEntry (tileAt m u) (setIndex (stickyKey (instKey h.tok.tag)) true)
            { key := stickyKey (instKey h.tok.tag), port := tagPort h.tok.tag, state := 3, spoison := h.tok.poison, val := h.tok.val } = none →
          exec (.matchStickyToken u) s = .next (kept s (stallStore m u))))
      ∧ (∀ l, findEntry (tileAt m u) (stickyKey (instKey h.tok.tag)) (tagPort h.tok.tag) true = some l →
        exec (.matchStickyToken u) s = .next (kept s (dropHead m u 0x0A7 h.src h.tok))))

/-- Matching of a token against the token store and the sticky entries (chapter 2). -/
def Obligations.MatchingOfTokens : Prop := MatchToken ∧ Matching ∧ MatchStickyToken

/-- Control tokens and dispatch (R57, R61, R62, R75, R79, R308): a CTX_PURGE or CTX_END at the head meets the store's errors and starts
a scan of 4,160 cc that discards the context's stored tokens, and one that is malformed or comes from a source not permitted is dropped
with CONTROL_TOKEN_INVALID; the scan's end lets a CTX_END be acknowledged, once no SPILL or FETCH is outstanding; the thread takes the
oldest entry of the highest-priority level with its operands in g0 to g3 and its tag in g4. -/
def Obligations.ScansAndDispatch : Prop :=
  (∀ (s m : State) (u : Nat) (h : QTok) (rest : List QTok) (purge : Bool), matcherFree s u = true → (tileAt s u).iq = h :: rest →
      tagKind h.tok.tag = 2 → decide (tagNode h.tok.tag = 1) = purge → u < s.tiles.length → m = meetStore (popHead s u) u →
    (controlOk (tileAt s u) h = true →
      Leaves (if purge then .ctxPurge u else .ctxEnd u) s (fun t => (tileAt t u).iq = rest
        ∧ (tileAt t u).scan.map (fun x => (x.isEnd, x.tag, x.doneAt)) = some (!purge, h.tok.tag, tileNow s + 4160)
        ∧ (tileAt t u).store = (tileAt m u).store.filter (fun e => !(scanned (!purge) h.tok.tag e.2))
        ∧ (tileAt t u).ovf = (tileAt m u).ovf.filter (fun e => !(scanned (!purge) h.tok.tag e.2))
        ∧ (∀ v, v ≠ u → tileAt t v = tileAt s v)))
    ∧ (controlOk (tileAt s u) h = false →
      exec (if purge then .ctxPurge u else .ctxEnd u) s = .next (kept s (dropHead s u 0x0A8 h.src h.tok))))
  ∧ (∀ (s : State) (u : Nat) (c : Scan) (es : List EndWait), tileRuns s u = true → (tileAt s u).scan = some c → c.doneAt ≤ tileNow s →
      es = (tileAt s u).endWaits ++ (if c.isEnd then [⟨tagPart c.tag, tagCtx c.tag, c.count⟩] else []) → u < s.tiles.length →
    (overspillBusy s u = true ∨ (tileAt s u).spl.fetchBuf ≠ [] →
      exec (.controlScanDone u) s = .next (setTile s u { tileAt s u with scan := none, endWaits := es }))
    ∧ (overspillBusy s u = false → (tileAt s u).spl.fetchBuf = [] →
      Leaves (.controlScanDone u) s (fun t => (tileAt t u).scan = none ∧ (tileAt t u).endWaits = []
        ∧ t.net = s.net ++ es.map (fun e =>
            { cls := 0, dest := 0x303, src := rqId u 0, part := e.part, tag := 0, body := .ctxEndAck e.ctx e.count }))))
  ∧ (∀ (s : State) (u : Nat) (e : FireEntry) (q : List FireEntry), tileRuns s u = true → (tileAt s u).thread.running = false →
      takeFire (tileAt s u).fq = some (e, q) → u < s.tiles.length →
    ((tileAt s u).stateErr = true → Leaves (.nodeDispatch u) s (fun t => t.tiles = (setTile s u { tileAt s u with stateErr := false }).tiles
      ∧ ∃ m, t.flt.inbox = s.flt.inbox ++ [m] ∧ m.head % 1024 = 0x084))
    ∧ ((tileAt s u).stateErr = false → Leaves (.nodeDispatch u) s (fun t =>
      ((tileAt s u).held = none ∨ (tileAt s u).spl.unfiring = true → (tileAt t u).fq = q ∧ (tileAt t u).held = (tileAt s u).held)
      ∧ (∀ x, (tileAt s u).held = some x → (tileAt s u).spl.unfiring = false →
          (fqRoom { tileAt s u with fq := q } x.level = true → (tileAt t u).fq = q ++ [x] ∧ (tileAt t u).held = none)
          ∧ (fqRoom { tileAt s u with fq := q } x.level = false → (tileAt t u).fq = q ∧ (tileAt t u).held = some x))
      ∧ (tileAt t u).thread.running = true ∧ (tileAt t u).thread.pc = e.entry ∧ (tileAt t u).thread.itag = e.tag
      ∧ (∀ n, n < 4 → gReg t u n = e.ops.getD n {}) ∧ gReg t u 4 = ⟨e.tag, false⟩
      ∧ (∀ n, 4 < n → n < 64 → n ≠ 31 → gReg t u n = {}) ∧ (tileAt t u).v = (tileAt s u).v ∧ (tileAt t u).acc = (tileAt s u).acc)))

/-- Placement (R48, R49, R51): a placement read is answered with unit, slot and generation, or with UNBOUND where the virtual tile has
no placement or a suspended one; the answer fills the cache at its pointer, and what waited for it goes on; UNBOUND drops the send at
the head that waited for it and ends every memory request that did; a void fill is discarded and asked for again; an invalidation
empties the matching entries, makes the matching fills void and is acknowledged. One TOKEN_ACK covers every ACK packet counted from a
source (R588). -/
def Sys2Proof.Machine.Placement : Prop :=
  (∀ (s : State) (rq : Rq) (vt : Nat), outOfService s 10 = false → working s = true → arrivable s (reqPkt 0x30A rq (.placeRead vt)) = true →
    exec (.placeRead rq vt) s = .next (respond (takePkt s (reqPkt 0x30A rq (.placeRead vt))) 0x30A rq
      (match placeOf s rq.part vt with
        | some p => .placeData p.unit p.slot p.gen
        | none => .placeUnbound)))
  ∧ (∀ (s : State) (u src part tag vt : Nat) (r : Resp) (o : OutReq) (f : Fill), AnswersTo s u src part tag 3 r o → o.unit = u →
      o.use = .fill vt → u < s.tiles.length → (tileAt s u).fills.find? (fun f => decide (f.tag = o.tag)) = some f →
    (∀ unit slot gen, r = .placeData unit slot gen → f.void = false →
      Leaves (.placeFill u src part tag r) s (fun t =>
        (tileAt t u).pcache = (tileAt s u).pcache.set (tileAt s u).pptr (some { part := o.part, vt := vt, unit := unit, slot := slot, gen := gen })
        ∧ (tileAt t u).pptr = ((tileAt s u).pptr + 1) % 64 ∧ (∀ m ∈ (tileAt t u).memWait, m.vt ≠ vt)
        ∧ ((tileAt s u).memWait = [] → (tileAt s u).send = [] → s.sendWait = [] →
            t.outs = s.outs.erase o ∧ (tileAt t u).fills = (tileAt s u).fills.erase f ∧ t.net = s.net.erase (rspPkt u src part tag 3 r))))
    ∧ (∀ e rest, r = .placeUnbound → f.void = false → (∀ m ∈ (tileAt s u).memWait, m.vt ≠ vt) →
        (tileAt s u).send = e :: rest → tagVt e.tok.tag = vt → e.trail = none →
      exec (.placeFill u src part tag r) s = .next (kept s (flushWait (drainSends (raise
        (setTile (ended s u src part tag 3 r o) u { tileAt s u with fills := (tileAt s u).fills.erase f, send := rest })
        0x0A6 (rqId u 0) (some o.part) (rqId u 0 + 2 ^ 14 * (e.pc % 2 ^ 17) + 2 ^ 31 * b2n e.bundle) e.tok.tag.toNat) u))))
    ∧ (r = .placeUnbound → f.void = false →
      Leaves (.placeFill u src part tag r) s (fun t => (tileAt t u).pcache = (tileAt s u).pcache ∧ (tileAt t u).pptr = (tileAt s u).pptr
        ∧ ((∀ m ∈ (tileAt s u).memWait, m.vt = vt → m.req.use.memory = true) → ∀ m ∈ (tileAt t u).memWait, m.vt ≠ vt)))
    ∧ (∀ unit slot gen, r = .placeData unit slot gen ∨ r = .placeUnbound → f.void = true →
      exec (.placeFill u src part tag r) s = .next (kept s (flushWait (reaskPlace (ended s u src part tag 3 r o) o vt)))))
  ∧ (∀ (s : State) (u part first last : Nat), clocked s = true → u < 0x110 →
      arrivable s { cls := 0, dest := u, src := rqId 0x30A 0, part := part, body := .placeInvalidate first last } = true → u < s.tiles.length →
    Leaves (.placeInvalidate u part first last) s (fun t =>
      (∀ vt, first ≤ vt → vt ≤ last → pcacheFind (tileAt t u) part vt = none)
      ∧ (∀ p vt, ¬(p = part ∧ first ≤ vt ∧ vt ≤ last) → pcacheFind (tileAt t u) p vt = pcacheFind (tileAt s u) p vt)
      ∧ (tileAt t u).fills = (tileAt s u).fills.map (fun f => if f.part = part ∧ first ≤ f.vt ∧ f.vt ≤ last then { f with void := true } else f)
      ∧ { cls := 0, dest := 0x30A, src := rqId u 3, part := part, tag := 0, body := .placeInvAck } ∈ t.net
      ∧ (tileAt t u).store = (tileAt s u).store ∧ (tileAt t u).frame = (tileAt s u).frame ∧ (∀ v, v ≠ u → tileAt t v = tileAt s v)))
  ∧ (∀ (s : State) (u src : Nat) (a : AckOwed), working s = true → (tileAt s u).ackOwed.find? (fun a => decide (a.src = src)) = some a →
    exec (.tokenAckSend u src) s = .next (sendPkt (setTile s u { tileAt s u with ackOwed := (tileAt s u).ackOwed.filter (fun b => !(decide (b.src = src))) })
      { cls := 0, dest := src / 4, src := rqId u 0, part := (tilePart (tileAt s u)).getD 0, tag := 0, body := .tokenAck a.count }))

/-- Contexts (R63 to R66): an allocation makes the head of the partition's free list LIVE and answers its number, or answers NO_CONTEXT
and changes nothing; the release of a LIVE context makes it DRAINING and sends CTX_END to every tile that the partition binds, or the
notice to the agent where it binds none; a release whose notice was abandoned sends it again; any other release is refused with
CONTEXT_STATE_INVALID. The last tile's acknowledgement sends the notice to the agent, and the agent's completes the release: the context
is FREE at the list's tail, and a non-zero total raises CONTEXT_LEFTOVER. -/
def Sys2Proof.Machine.Contexts : Prop :=
  (∀ (s s1 : State) (rq : Rq) (c : Nat), ReachesNew s 0x303 rq .ctxAlloc → allocCtx (takePkt s (reqPkt 0x303 rq .ctxAlloc)) rq.part = some (c, s1) →
    exec (.allocateRequest rq) s = .next (answeredKept s1 0x303 rq (.result (resultWord false c 0))))
  ∧ (∀ (s s1 : State) (p c : Nat), p < s.ctx.parts.length → allocCtx s p = some (c, s1) →
      ctxState s1 p c = 1 ∧ (∃ f, (ctxPart s p).free.take = some (c, f) ∧ (ctxPart s1 p).free = f))
  ∧ (∀ (s : State) (rq : Rq), ReachesNew s 0x303 rq .ctxAlloc → (ctxPart s rq.part).free.take = none →
    exec (.allocateRequest rq) s = .next (respond (takePkt s (reqPkt 0x303 rq .ctxAlloc)) 0x303 rq (.result (resultWord true 0 0x0A))))
  ∧ (∀ (s : State) (rq : Rq) (c : Nat), ReachesNew s 0x303 rq (.ctxRelease c) → rq.part < s.ctx.parts.length →
    (c ≠ 0 → c < (ctxPart s rq.part).limit → ctxState s rq.part c = 1 →
      Leaves (.releaseRequest rq c) s (fun t => t.ctx.parts = (setCtxState s rq.part c 2).ctx.parts
        ∧ t.ctx.releases = s.ctx.releases ++ [{ part := rq.part, ctx := c, rq := some rq, tiles := boundTiles s rq.part }]
        ∧ (∀ u ∈ boundTiles s rq.part, endPkt s rq.part c u ∈ t.net) ∧ t.tiles = s.tiles
        ∧ (boundTiles s rq.part = [] → ∃ o, (o ∈ t.outs ∨ o ∈ t.sendWait) ∧ o.use = .notice rq.part c ∧ o.target = homeUnit s rq.part)))
    ∧ (c ≠ 0 → c < (ctxPart s rq.part).limit → ctxState s rq.part c = 2 → s.ctx.releases.any (fun r => r.is rq.part c && r.abandoned) = true →
      Leaves (.releaseRequest rq c) s (fun t => t.ctx.parts = s.ctx.parts
        ∧ t.ctx.releases = s.ctx.releases.map (fun r => if r.is rq.part c then { r with abandoned := false, rq := some rq } else r)
        ∧ ∃ o, (o ∈ t.outs ∨ o ∈ t.sendWait) ∧ o.use = .notice rq.part c ∧ o.target = homeUnit s rq.part))
    ∧ (c = 0 ∨ (ctxPart s rq.part).limit ≤ c ∨ ctxState s rq.part c = 0
        ∨ (ctxState s rq.part c = 2 ∧ s.ctx.releases.any (fun r => r.is rq.part c && r.abandoned) = false) →
      exec (.releaseRequest rq c) s = .next (respond (raise (takePkt s (reqPkt 0x303 rq (.ctxRelease c))) 0x0AA (rqId 0x303 0)
        (some rq.part) (c % 2 ^ 14) 0) 0x303 rq (.result (resultWord true 0 0x12)))))
  ∧ (∀ (s : State) (u p c n : Nat) (r : Release), working s = true →
      arrivable s { cls := 0, dest := 0x303, src := rqId u 0, part := p, body := .ctxEndAck c n } = true →
      s.ctx.releases.find? (fun r => r.is p c && r.tiles.contains u) = some r →
    Leaves (.ctxReleaseAck (.tile u p c n)) s (fun t => t.ctx.parts = s.ctx.parts
      ∧ t.ctx.releases = s.ctx.releases.map (fun x => if x = r then { r with tiles := r.tiles.erase u, total := r.total + n } else x)
      ∧ (r.tiles.erase u = [] → ∃ o, (o ∈ t.outs ∨ o ∈ t.sendWait) ∧ o.use = .notice p c ∧ o.target = homeUnit s p)))
  ∧ (∀ (s : State) (src p c tag n : Nat) (o : OutReq) (r : Release), AnswersTo s 0x303 src p tag 0 (.result (resultWord false n 0)) o → o.use = .notice p c →
      n < 2 ^ 32 → s.ctx.releases.find? (fun r => r.is p c && r.tiles.isEmpty && !r.abandoned) = some r → p < s.ctx.parts.length →
    Leaves (.ctxReleaseAck (.agent src p tag (.result (resultWord false n 0)))) s (fun t => ctxState t p c = 0
      ∧ (ctxPart t p).free.back = (ctxPart s p).free.back ++ [c] ∧ t.ctx.releases = s.ctx.releases.filter (fun x => !(x.is p c))
      ∧ t.flt.inbox = s.flt.inbox ++ (if r.total + n = 0 then []
          else [⟨now s % 2 ^ 64, faultHead 0x0A9 (rqId 0x303 0) 0x303 (some p) none, c % 2 ^ 14, r.total + n⟩])))

/-- Placement lookups and the context pool (chapters 2 and 8). -/
def Obligations.PlacementAndContexts : Prop := Placement ∧ Contexts

/-- Register writes (R13, R15, R583), by a port's physical function outside Safe: a write of a value that NOC.E2E_CTRL accepts changes its
fields and nothing else, and of one that it refuses changes nothing but the access log, with reason 5; a 1 written to CLR.ACCESS_ERR's
VALID bit clears its record and keeps its OVERFLOW; CLR.FOREST_TIME, read-only, ignores a write; a virtual function's aligned write is
logged with reason 3, and a write of another width or an odd alignment with reason 1, and neither changes anything else. A write that
passes every check has the effect that its register gives it. The firmware learns whether its write was refused, and the monitor
function's writes are counted (R383). -/
def Sys2Proof.Machine.RegisterWrites : Prop :=
  ∀ (s : State) (b v : Nat), accessorPresent s (.fn b 0) = true →
    (inSafe s = false → bits v 19 16 ≤ 7 → bits v 15 0 ≠ 0 →
      exec (.registerWrite (.fn b 0) 0x200008 8 v) s = .next { s with noc := { s.noc with repeats := bits v 19 16, timeout := bits v 15 0 } })
    ∧ (inSafe s = false → (7 < bits v 19 16 ∨ bits v 15 0 = 0) →
      exec (.registerWrite (.fn b 0) 0x200008 8 v) s = .next (logAccess s b 0 0x200008 5))
    ∧ (exec (.registerWrite (.fn b 0) 0x40 8 1) s = .next { s with clr := { s.clr with accessErr := { overflow := s.clr.accessErr.overflow } } })
    ∧ (exec (.registerWrite (.fn b 0) 0x30 8 v) s = .next s)
    ∧ (∀ f off size, f ≠ 0 → (size = 4 ∨ size = 8) → off % size = 0 → accessorPresent s (.fn b f) = true →
      exec (.registerWrite (.fn b f) off size v) s = .next (logAccess s b f off 3))
    ∧ (∀ off size, ((size ≠ 4 ∧ size ≠ 8) ∨ off % size ≠ 0) →
      exec (.registerWrite (.fn b 0) off size v) s = .next (logAccess s b 0 off 1))
    ∧ (∀ off size t, accessFault s (.fn b 0) off size true = none → spoorOther (off / 8 * 8) = false →
        pfWrite s b (off / 8 * 8) (written ((bar0Word s (off / 8 * 8)).getD 0) off size v).1 (written ((bar0Word s (off / 8 * 8)).getD 0) off size v).2 = some t →
      exec (.registerWrite (.fn b 0) off size v) s = .next (kept s t))

/-- The same for the firmware and for a monitor function. -/
def Sys2Proof.Machine.OtherWrites : Prop :=
  (∀ (s : State) (off size v : Nat), fwRuns s = true → clocked s = true →
    (∀ t, supWrite s (off / 8 * 8) (written ((bar0Word s (off / 8 * 8)).getD 0) off size v).1 (written ((bar0Word s (off / 8 * 8)).getD 0) off size v).2 = some t →
      exec (.registerWrite .supervisor off size v) s = .next (kept s (emit t (.fwStatus true))))
    ∧ (supWrite s (off / 8 * 8) (written ((bar0Word s (off / 8 * 8)).getD 0) off size v).1 (written ((bar0Word s (off / 8 * 8)).getD 0) off size v).2 = none →
      exec (.registerWrite .supervisor off size v) s = .next { s with sent := s.sent ++ [.fwStatus false] }))
  ∧ (∀ (s : State) (b off size v : Nat), accessorPresent s (.monitor b) = true →
    exec (.registerWrite (.monitor b) off size v) s = .next (setHif s b { hifAt s b with monWrites := ((hifAt s b).monWrites + 1) % 2 ^ 32 }))

/-- An access that fails a check of Table 1.12 is logged with its reason; a read then returns zero and a write has no other effect
(R34, R35). The log keeps its first record and notes that it lost a later one. -/
def Sys2Proof.Machine.InvalidAccesses : Prop :=
  (∀ (s : State) (b f off size reason v : Nat), accessorPresent s (.fn b f) = true →
    (accessFault s (.fn b f) off size true = some reason →
      exec (.bar0InvalidAccess (.fn b f) off size (some v)) s = .next (logAccess s b f off reason))
    ∧ (accessFault s (.fn b f) off size false = some reason →
      exec (.bar0InvalidAccess (.fn b f) off size none) s = .next { logAccess s b f off reason with sent := s.sent ++ [.readData b f 0] }))
  ∧ (∀ (s : State) (b f off size : Nat) (wr : Bool),
    (((size ≠ 4 ∧ size ≠ 8) ∨ off % size ≠ 0) → accessFault s (.fn b f) off size wr = some 1)
    ∧ ((size = 4 ∨ size = 8) → off % size = 0 → f ≠ 0 → accessFault s (.fn b f) off size true = some 3)
    ∧ ((size = 4 ∨ size = 8) → off % size = 0 → inSafe s = true → 0x40000 ≤ off → accessFault s (.fn b 0) off size wr = some 2))
  ∧ (∀ (s : State) (b f off reason : Nat),
    (s.clr.accessErr.valid = true → logAccess s b f off reason = { s with clr := { s.clr with accessErr := { s.clr.accessErr with overflow := true } } })
    ∧ (s.clr.accessErr.valid = false → (logAccess s b f off reason).clr.accessErr =
      { offset := off / 4 % 2 ^ 24, fn := f, port := b, reason := reason, valid := true, overflow := s.clr.accessErr.overflow }))

/-- BAR0 register writes, and accesses that fail a check (R13, R15, R34, R35, R583). -/
def Obligations.RegisterAccesses : Prop := RegisterWrites ∧ OtherWrites ∧ InvalidAccesses

/-- CLR.FOREST_TIME by halves (R31): a read of the low half returns it and copies the high half into the function's shadow; a read of
the high half returns and empties the shadow, or returns the live value where it is empty. Two registers that clear when read (R580): a
read of the lock pool's high-water half returns it and clears it, and a read of a tile's TIL.TOKEN_HWM returns its four marks and clears
them at that tile only. Any other read that passes the checks returns its bytes of the register and clears what a read clears. -/
def Obligations.ReadsThatChangeState : Prop :=
  (∀ (s : State) (b f : Nat), accessorPresent s (.fn b f) = true →
    exec (.forestTimeLowRead (.fn b f)) s = .next { s with
      clr := { s.clr with shadows := SMap.put none s.clr.shadows (32 * b + f) (some (now s / 2 ^ 32 % 2 ^ 32)) }
      sent := s.sent ++ [.readData b f (now s % 2 ^ 32)] }
    ∧ (∀ v, SMap.get none s.clr.shadows (32 * b + f) = some v →
      exec (.forestTimeHighRead (.fn b f)) s = .next { s with
        clr := { s.clr with shadows := SMap.put none s.clr.shadows (32 * b + f) none }, sent := s.sent ++ [.readData b f v] })
    ∧ (SMap.get none s.clr.shadows (32 * b + f) = none →
      exec (.forestTimeHighRead (.fn b f)) s = .next { s with sent := s.sent ++ [.readData b f (now s / 2 ^ 32 % 2 ^ 32)] }))
  ∧ (∀ (s : State) (b : Nat), accessorPresent s (.fn b 0) = true → inSafe s = false →
    Leaves (.registerReadClear (.fn b 0) 0x6000C 4) s (fun t => t.lck = { s.lck with hwm := 0 } ∧ t.sent = s.sent ++ [.readData b 0 (poolWord s / 2 ^ 32 % 2 ^ 32)]
      ∧ t.tiles = s.tiles))
  ∧ (∀ (s : State) (b u : Nat), accessorPresent s (.fn b 0) = true → inSafe s = false → u < 0x100 → tilRemoved s u = false → u < s.tiles.length →
    Leaves (.registerReadClear (.fn b 0) (0x1000000 + 0x10000 * u + 0x208) 8) s (fun t =>
      t.tiles = s.tiles.set u { tileAt s u with hwmStore := 0, hwmSticky := 0, hwmOvf := 0, hwmIq := 0, hwmFq := 0 } ∧ t.lck = s.lck
      ∧ t.sent = s.sent ++ [.readData b 0 (tokenHwmWord (tileAt s u))]))
  ∧ (∀ (s : State) (b f off size : Nat), accessorPresent s (.fn b f) = true → accessFault s (.fn b f) off size false = none →
      ¬(off = 0x30 ∧ size = 4) → off ≠ 0x34 → (off < 0x20000 ∨ 0x40000 ≤ off) →
    exec (.registerReadClear (.fn b f) off size) s = .next (kept s (readReturn (readClear s off size) (.fn b f)
      (if size = 8 then (bar0Word s (off / 8 * 8)).getD 0 else (bar0Word s (off / 8 * 8)).getD 0 / 2 ^ (8 * (off % 8)) % 2 ^ 32))))

namespace Sys2Proof.Machine

/-- The state in which the outstanding request `o` has been sent again, with its timer restarted and changed by `f`. -/
def sentAgain (s : State) (o : OutReq) (f : OutReq → OutReq) : State :=
  sendPkt { s with outs := s.outs.map (fun x => if x = o then f { x with timer := some (unitNow s o.unit + 256 * s.noc.timeout) } else x) }
    { cls := 2, dest := o.target, src := rqId o.unit o.sub, part := o.part, tag := o.tag, body := o.body }

/-- A kernel runs on tile `u` and may issue now. -/
abbrev KernelIssues (s : State) (u : Nat) : Prop :=
  tileRuns s u = true ∧ (tileAt s u).kern.running = true ∧ (tileAt s u).kern.exit = none ∧ (tileAt s u).kern.hold = none
  ∧ (tileAt s u).job = none ∧ u < s.tiles.length

end Sys2Proof.Machine

/-- Responses (R94, R252, R333, R340, R343, R587): a final answer is given to the operation that waits for it, and requests that waited
for a tag window are tried; a result word reaches the register that its instruction names and unblocks the thread, and a load's word its
register with its poison; WAIT keeps the request outstanding; BUSY_RETRY notes when to repeat it, and at the ninth the operation ends;
REFUSED with reason 6 abandons it; a response that answers nothing is counted and discarded; a repeat sends the same packet again and
restarts the timer. -/
def Obligations.ResponsesAndRepeats : Prop :=
  (∀ (s : State) (unit src part tag sub : Nat) (r : Resp) (o : OutReq), AnswersTo s unit src part tag sub r o →
    (r ≠ .wait → (∀ h, r ≠ .busyRetry h) → r ≠ .refused 6 →
      exec (.responseArrival unit src part tag sub r) s = .next (kept s (flushWait (finalAnswer (ended s unit src part tag sub r o) o r)))
      ∧ (sub = 0 → o.use.memory = true →
        exec (.memoryResponse unit src part tag r) s = .next (kept s (flushWait (finalAnswer (ended s unit src part tag 0 r o) o r)))))
    ∧ (r = .refused 6 → exec (.responseArrival unit src part tag sub r) s
        = .next (kept s (flushWait (abandonReq (ended s unit src part tag sub r o) o true))))
    ∧ (r = .wait → (∀ rs k, o.use ≠ .desc rs k) →
      exec (.responseArrival unit src part tag sub r) s = .next { takePkt s (rspPkt unit src part tag sub r) with
        outs := s.outs.map (fun x => if x = o then { x with waited := true, timer := (match o.use with
          | .take _ => none
          | _ => some (unitNow s o.unit + 256 * s.noc.timeout)) } else x) })
    ∧ (∀ hint, r = .busyRetry hint →
      (o.busyN < 8 → exec (.responseArrival unit src part tag sub r) s = .next { takePkt s (rspPkt unit src part tag sub r) with
        outs := s.outs.erase o ++ [{ o with timer := none, busyAt := some (unitNow s o.unit + hint), busyN := o.busyN + 1 }] })
      ∧ (8 ≤ o.busyN → exec (.responseArrival unit src part tag sub r) s
          = .next (kept s (flushWait (busyExhausted (ended s unit src part tag sub r o) o hint))))))
  ∧ (∀ (s : State) (o : OutReq), issuerRuns s o = true →
    (∀ w rd, o.use = .result rd → finalAnswer s o (.result w) = modThread (setG s o.unit rd w.toNat false) o.unit (fun th => { th with block := none }))
    ∧ (∀ x rd w sext, o.use = .load rd w sext false → finalAnswer s o (.dataWord x) = modThread (setG s o.unit rd
        (if sext then narrow 64 (signed w ((x.val.toNat >>> (8 * reqLow o.body)) % 2 ^ w)) else (x.val.toNat >>> (8 * reqLow o.body)) % 2 ^ w) x.poison) o.unit
        (fun th => { th with pendG := th.pendG.erase rd }))
    ∧ (∀ bs pz rd w sext, o.use = .load rd w sext true → finalAnswer s o (.dataBytes bs pz)
        = modThread (setV s o.unit rd ⟨BitVec.ofNat 2048 (leNat bs), decide (pz ≠ 0)⟩) o.unit (fun th => { th with pendV := th.pendV.erase rd }))
    ∧ (∀ x rd w, o.use = .aadd rd w → finalAnswer s o (.dataWord x)
        = modThread (setG s o.unit rd (x.val.toNat % 2 ^ w) x.poison) o.unit (fun th => { th with pendG := th.pendG.erase rd })))
  ∧ (∀ (s : State) (unit src part tag sub : Nat) (r : Resp), working s = true → arrivable s (rspPkt unit src part tag sub r) = true →
      matchOut s unit sub part tag (src / 4) r = none →
    exec (.responseArrival unit src part tag sub r) s = .next { takePkt s (rspPkt unit src part tag sub r) with
      noc := { s.noc with dupRsp := (s.noc.dupRsp + 1) % 2 ^ 32 } })
  ∧ (∀ (s : State) (unit sub target : Nat) (q : ReqTag) (o : OutReq), unitRuns s unit = true → o.unit = unit →
      outAtTag s unit sub q.part target q.tag (fun o => match o.busyAt with
        | some t => decide (t ≤ unitNow s unit)
        | none => false) = some o →
    exec (.busyRetryRepeat unit sub target q) s = .next (sentAgain s o (fun o => { o with busyAt := none })))
  ∧ (∀ (s : State) (u target : Nat) (q : ReqTag) (o : OutReq), tileRuns s u = true → o.unit = u →
      outAtTag s u 0 q.part target q.tag (fun o => (match o.use with
        | .spawn _ _ => true
        | _ => false) && (match o.againAt with
        | some t => decide (t ≤ tileNow s)
        | none => false)) = some o →
    exec (.spawnRepeat u target q) s = .next (sentAgain s o (fun o => { o with againAt := none })))

/-- A lockstep kernel's entry, waits and end (R132, R138 to R140): entry starts the stream at the instruction's bundle with the lane accumulators
as they stand; a held WAITC's bundle issues once its counter has reached the threshold, the hold's cycles counting as stall cycles, and faults with WAITC_TIMEOUT at its limit, which abandons the
node; the end makes everything in flight visible, writes the exit word of Table 4.5 and unblocks the thread; the bank guard holds the stream for one cycle. -/
def Obligations.KernelEntryAndEnd : Prop :=
  (∀ (s : State) (u rd entry pc : Nat), tileRuns s u = true → (tileAt s u).kern.running = false → allAccepted s u = true → memOut s u = 0 →
      (tileAt s u).thread.block = some (.kernel rd entry pc) →
    exec (.kernelEntry u) s = .next (setTile s u { tileAt s u with
      kernels := ((tileAt s u).kernels + 1) % 2 ^ 32
      kern := { running := true, id := ((tileAt s u).kernels + 1) % 2 ^ 32, pc := entry, lastPc := entry, lockAt := pc, rd := rd, chain := (tileAt s u).acc } }))
  ∧ (∀ (s : State) (u : Nat) (h : KHold), tileRuns s u = true → (tileAt s u).kern.hold = some h → u < s.tiles.length →
    (h.thr ≤ (tileAt s u).xcnt.getD h.cnt 0 → exec (.waitcPass u) s = .next (kept s (bundleIssue (closeHolds s u) u)))
    ∧ (tileAt (closeHolds s u) u).kern.hold = none ∧ (tileAt (closeHolds s u) u).kern.pc = (tileAt s u).kern.pc
    ∧ (tileAt (closeHolds s u) u).waitWaitc = ((tileAt s u).waitWaitc + (tileNow s - h.since)) % 2 ^ 32
    ∧ (tileAt (closeHolds s u) u).thread = (tileAt s u).thread ∧ (tileAt (closeHolds s u) u).xcnt = (tileAt s u).xcnt)
  ∧ (∀ (s : State) (u : Nat) (h : KHold), tileRuns s u = true → (tileAt s u).kern.hold = some h → (tileAt s u).xcnt.getD h.cnt 0 < h.thr →
      h.since + 256 * (tileAt s u).waitLimit ≤ tileNow s → u < s.tiles.length →
    Leaves (.waitcTimeout u) s (fun t => (tileAt t u).kern.running = false ∧ (tileAt t u).thread.running = false ∧ (tileAt t u).job = none
      ∧ (tileAt t u).thread.abandoned = ((tileAt s u).thread.abandoned + 1) % 2 ^ 32
      ∧ ∃ m, t.flt.inbox = (drainKern s u).flt.inbox ++ [m] ∧ m.head % 1024 = Kind.waitcTimeout ∧ m.head / 2 ^ 59 % 2 = 1
        ∧ m.addr % 2 ^ 17 = (tileAt s u).kern.pc % 2 ^ 17 ∧ m.detail % 2 ^ 32 = (tileAt s u).kern.cyc % 2 ^ 32))
  ∧ (∀ (s : State) (u code : Nat), tileRuns s u = true → (tileAt s u).kern.running = true → (tileAt s u).kern.exit = some code →
      (tileAt s u).job = none → u < s.tiles.length →
    exec (.kernelEnd u) s = .next (modTile (setG (drainKern s u) u (tileAt s u).kern.rd (2 ^ 16 * (tileAt s u).kern.stalls + code) false) u (fun t => { t with
      exits := (t.exits + 1) % 2 ^ 32, kern := { lastPc := (tileAt s u).kern.lastPc }, thread := { t.thread with block := none } })))
  ∧ (∀ (s : State) (u : Nat), tileRuns s u = true → (tileAt s u).kern.running = true →
    exec (.bankWaitGuard u) s = .next (setTile s u { tileAt s u with
      stallExt := ((tileAt s u).stallExt + 1) % 2 ^ 32
      kern := { (tileAt s u).kern with stalls := satInc 32 (tileAt s u).kern.stalls } }))

/-- Bundles of one syllable, where nothing is in flight. -/
def Sys2Proof.Machine.BundlesAlone : Prop :=
  ∀ (s : State) (u : Nat), KernelIssues s u → (tileAt s u).kern.writes = [] → (tileAt s u).kern.stores = [] → (tileAt s u).kern.used = [] →
      (tileAt s u).kern.loops = [] → (tileAt s u).kern.xqSince = none → (tileAt s u).lsDebug = false →
      inRegion s u (tileAt s u).kern.pc = true → (tileAt s u).istoreErr = [] → (tileAt s u).istoreBad = [] →
      (tileAt s u).kern.stalls < 2 ^ 32 →
    (∀ y stop, decodeBundle (tileAt s u).istore (codeRegion (tileAt s u) (tileAt s u).thread.slot).2 (tileAt s u).kern.pc none 6 = .ok [y] stop →
        y.runs s u = true → y.fault s u = none → y.unit = 0 → 1 ≤ y.op → y.op ≤ 9 →
      Leaves (.bundleIssue u) s (fun t => (tileAt t u).kern = { (tileAt s u).kern with
          pc := stop, lastPc := (tileAt s u).kern.pc, cyc := (tileAt s u).kern.cyc + 1
          writes := [{ due := (tileAt s u).kern.cyc + (if y.op = 9 then 3 else 1), file := 0, reg := y.d
                       val := aluVal 64 (sOp y.op) (gVal s u y.a) (gVal s u y.b), poison := false, pc := (tileAt s u).kern.pc }] }
        ∧ (tileAt t u).thread = (tileAt s u).thread ∧ (tileAt t u).frame = (tileAt s u).frame ∧ t.net = s.net ∧ (∀ w, w ≠ u → tileAt t w = tileAt s w)))
    ∧ (∀ y stop, decodeBundle (tileAt s u).istore (codeRegion (tileAt s u) (tileAt s u).thread.slot).2 (tileAt s u).kern.pc none 6 = .ok [y] stop →
        y.unit = 0 → y.op = 0 →
      Leaves (.bundleIssue u) s (fun t => (tileAt t u).kern = { (tileAt s u).kern with
          pc := stop, lastPc := (tileAt s u).kern.pc, cyc := (tileAt s u).kern.cyc + y.imm16 + 1 } ∧ (tileAt t u).thread = (tileAt s u).thread))
    ∧ (∀ y stop, decodeBundle (tileAt s u).istore (codeRegion (tileAt s u) (tileAt s u).thread.slot).2 (tileAt s u).kern.pc none 6 = .ok [y] stop →
        y.runs s u = true → y.unit = 0 → y.op = 0x38 →
      Leaves (.bundleIssue u) s (fun t => (tileAt t u).kern.exit = some y.imm16 ∧ (tileAt t u).kern.running = true))
    ∧ (∀ y stop, decodeBundle (tileAt s u).istore (codeRegion (tileAt s u) (tileAt s u).thread.slot).2 (tileAt s u).kern.pc none 6 = .ok [y] stop →
        y.runs s u = true → y.unit = 4 → y.op = 0x10 →
      ((tileAt s u).xcnt.getD y.cnt 0 < gVal s u y.d % 2 ^ 32 → Leaves (.bundleIssue u) s (fun t => (tileAt t u).kern = { (tileAt s u).kern with
        hold := some { cnt := y.cnt, thr := gVal s u y.d % 2 ^ 32, since := tileNow s } }))
      ∧ (gVal s u y.d % 2 ^ 32 ≤ (tileAt s u).xcnt.getD y.cnt 0 → y.fault s u = none →
        Leaves (.bundleIssue u) s (fun t => (tileAt t u).kern = { (tileAt s u).kern with
          pc := stop, lastPc := (tileAt s u).kern.pc, cyc := (tileAt s u).kern.cyc + 1 })))
    ∧ (∀ slot, decodeBundle (tileAt s u).istore (codeRegion (tileAt s u) (tileAt s u).thread.slot).2 (tileAt s u).kern.pc none 6 = .bad Kind.syllableIllegal slot →
      Leaves (.bundleIssue u) s (fun t => (tileAt t u).kern.running = false ∧ (tileAt t u).thread.running = false
        ∧ ∃ m, t.flt.inbox = s.flt.inbox ++ [m] ∧ m.head % 1024 = Kind.syllableIllegal ∧ m.addr / 2 ^ 17 % 8 = slot % 8))

/-- A bundle of one syllable issues where no register write or store is in flight and no loop runs (R119, R121 to R123, R133, R138, R144):
an S-unit integer operation of opcodes 1 to 9 puts its register write in flight for its latency, and the stream goes on after the bundle; a
NOP spans its immediate's cycles and one more; EXIT keeps its code as the stream's end; WAITC below its threshold holds the stream before
its bundle issues, and at or above it lets the stream go on; an illegal syllable stops the kernel with SYLLABLE_ILLEGAL, which names its
slot. Every other bundle issues with what earlier ones wrote visible by its cycle: an address outside the code region, a fetched line with
an uncorrectable error and an illegal format stop the kernel, and a bundle of right format is held or issues. -/
def Obligations.BundleIssue : Prop :=
  (∀ (s : State) (u : Nat), streamReady s u = true →
    exec (.bundleIssue u) s = .next (kept s (nextBundle (settleKern s u (tileAt s u).kern.cyc) u (tileAt s u).kern.cyc)))
  ∧ (∀ (s : State) (u c : Nat),
    (inRegion s u (tileAt s u).kern.pc = false → nextBundle s u c = kernFault s u Kind.codeBounds (tileAt s u).kern.pc 7 0 0 0)
    ∧ (∀ s1 all stop, inRegion s u (tileAt s u).kern.pc = true →
        decodeBundle (tileAt s u).istore (codeRegion (tileAt s u) (tileAt s u).thread.slot).2 (tileAt s u).kern.pc none 6 = .ok all stop →
        fetchLines s u ((tileAt s u).kern.pc / 64) ((stop - 1) / 64 - (tileAt s u).kern.pc / 64 + 1) = (s1, none) →
      (∀ s2, holdBundle s1 u (all.filter (Syl.runs s1 u)) = some s2 → nextBundle s u c = s2)
      ∧ (holdBundle s1 u (all.filter (Syl.runs s1 u)) = none → nextBundle s u c = issueBundle (closeHolds s1 u) u c all stop))
    ∧ (∀ s1 l all stop, inRegion s u (tileAt s u).kern.pc = true →
        decodeBundle (tileAt s u).istore (codeRegion (tileAt s u) (tileAt s u).thread.slot).2 (tileAt s u).kern.pc none 6 = .ok all stop →
        fetchLines s u ((tileAt s u).kern.pc / 64) ((stop - 1) / 64 - (tileAt s u).kern.pc / 64 + 1) = (s1, some l) →
      nextBundle s u c = kernFault s1 u Kind.istoreUncorrectable (tileAt s u).kern.pc 0 0 0 0))
  ∧ BundlesAlone

namespace Sys2Proof.Machine

/-- Tile `u`'s stream has reached job `j`'s next slot: what is visible by that cycle has taken effect, and the slot's banks count. -/
def jobTurn (s : State) (u : Nat) (j : WJob) : State :=
  let s0 := settleKern s u (j.start + j.next)
  modKern (bankHold s0 u (conflictHold (jobBanks (j.span j.next) :: usedBanks (tileAt s0 u).kern (j.start + j.next)))) u
    (fun k => { k with used := k.used ++ [(j.start + j.next, j.pc, jobBanks (j.span j.next))] })

/-- Tile `u` runs job `j`, which has an access left that the stream, held by nothing, has reached. -/
abbrev JobDue (s : State) (u : Nat) (j : WJob) : Prop :=
  tileRuns s u = true ∧ (tileAt s u).kern.running = true ∧ (tileAt s u).job = some j ∧ j.next < j.dur ∧ (tileAt s u).kern.hold = none
  ∧ (j.start + j.next ≤ (tileAt s u).kern.cyc ∨ (tileAt s u).kern.exit ≠ none)

end Sys2Proof.Machine

/-- A window job (R183 to R186): in its slot it makes its access and moves on by two cycles, or a poisoned word stops the kernel with
POISON_CONSUMED at that word's offset; a write slot writes the 16 channels of its output pixels; a bias read takes the 16 bias values that
its bytes hold; a slot without an access changes no byte; a poisoned input, weight or bias is not used. When its duration has elapsed the W
unit is free and a0 to a3 read zero. -/
def Obligations.WindowJobs : Prop :=
  (∀ (s s2 : State) (u : Nat) (j j' : WJob), JobDue s u j →
    (jobAccess (jobTurn s u j) u (kernWindow (tileAt s u)).1 j = (s2, j', none) →
      exec (.windowJobAccess u) s = .next (kept s (modTile s2 u (fun t => { t with job := some j' }))))
    ∧ (∀ o, jobAccess (jobTurn s u j) u (kernWindow (tileAt s u)).1 j = (s2, j', some o) →
      exec (.windowJobAccess u) s = .next (kept s (kernFault s2 u 0x0C2 j.pc 3 0 0 (2 ^ 32 * o)))))
  ∧ (∀ (s : State) (u base : Nat) (j : WJob),
    ((jobAccess s u base j).2.2 = none → (jobAccess s u base j).2.1.next = j.next + 2)
    ∧ (j.access j.next = .none → (jobAccess s u base j).1 = s ∧ (jobAccess s u base j).2.2 = none)
    ∧ (∀ k, j.access j.next = .write k → (jobAccess s u base j).2.2 = none ∧ (jobAccess s u base j).1
        = writeJobPixels s u base j (j.place (j.groupAt j.next).1).1 (j.place (j.groupAt j.next).1).2.1 (j.place (j.groupAt j.next).1).2.2 (j.writePixels k))
    ∧ ((∃ a b, j.access j.next = .input a b ∨ j.access j.next = .weight a b) ∨ j.access j.next = .bias →
        (jobAccess s u base j).2.2 = (j.span j.next).findSome? (fun x => poisonedIn (tileAt (meetSpans s u base (j.span j.next)) u) base x.1 x.2)
        ∧ (jobAccess s u base j).1 = meetSpans s u base (j.span j.next))
    ∧ (j.access j.next = .bias → (jobAccess s u base j).2.2 = none → (jobAccess s u base j).2.1.bias = (List.range 16).map (fun o =>
        ByteMem.rdN (jobRead s u base j (j.span j.next)).2.1.got (j.biasBase + 64 * (j.place (j.groupAt j.next).1).2.2 + 4 * o) 4)))
  ∧ (∀ (s : State) (u : Nat) (j : WJob), tileRuns s u = true → (tileAt s u).kern.running = true → (tileAt s u).job = some j → j.dur ≤ j.next →
      (j.start + j.dur ≤ (tileAt s u).kern.cyc ∨ (tileAt s u).kern.exit ≠ none) →
    exec (.windowJobEnd u) s = .next (setTile s u { tileAt s u with
      job := none, acc := [0, 0, 0, 0], kern := { (tileAt s u).kern with chain := [0, 0, 0, 0] } }))

namespace Sys2Proof.Machine

/-- Transfer `x` of tile `u` moves one line, the engine's only one in this cycle. -/
def lineMoves (s : State) (u : Nat) (x : Xfer) : State :=
  modTile (modXfer s u x.slot (fun _ => { x with moved := x.moved + 1 })) u (fun t => { t with dmaNext := tileNow s + 1 })

/-- The request of transfer `x` for its source line `l`. -/
def lineReq (u : Nat) (x : Xfer) (l target : Nat) (m : MemWord) : OutReq :=
  { unit := u, sub := 2, part := x.part, target := target, body := .readLine m, use := .dmaRead x.slot l, pc := x.pc, serial := x.serial,
    itag := x.itag, slot := x.bslot }

end Sys2Proof.Machine

/-- Transfers (R187 to R190): the oldest unchecked descriptor that passes the checks of R188 starts, and one that fails a check raises its
kind, stops the transfer and, where its kernel still runs, the kernel and its node; a line moves at the earliest 16 cc after the issue and
at most one in a cycle, what moved before inside the own frame being written by then; a source line comes from the own frame at once, from
a stand buffer or the host by READ_LINE; a landing line is written to the frame, counts in RECV_CNT and is acknowledged, or is refused
with the reason of its failing check; completion counts SEND_CNT by the destination lines and sets DMA_DONE where the descriptor asks
for it. -/
def Obligations.Transfers : Prop :=
  (∀ (s : State) (u : Nat) (x : Xfer), tileRuns s u = true → (tileAt s u).xfers.find? (fun x => !x.started && !x.failed) = some x →
    (x.raw ≠ [] → x.rawPoison = false → xferDescOk (parseXfer x (leNat x.raw)) (leNat x.raw) = true →
      (xferAddrFault s u (parseXfer x (leNat x.raw)) = none →
        exec (.transferStart u) s = .next (setTile s u { tileAt s u with
          xfers := (tileAt s u).xfers.map (fun y => if y.slot = x.slot then { parseXfer x (leNat x.raw) with started := true } else y) }))
      ∧ (∀ k a, xferAddrFault s u (parseXfer x (leNat x.raw)) = some (k, a) → exec (.transferStart u) s = .next (kept s (xferFault s u x k a))))
    ∧ (x.raw = [] ∨ (x.rawPoison = false ∧ xferDescOk (parseXfer x (leNat x.raw)) (leNat x.raw) = false) →
      exec (.transferStart u) s = .next (kept s (xferFault s u x Kind.transferDescInvalid 0)))
    ∧ (x.raw ≠ [] → x.rawPoison = true → exec (.transferStart u) s = .next (kept s (xferFault s u x 0x0C2 0))))
  ∧ (∀ (s : State) (u kind addr : Nat) (x : Xfer), u < s.tiles.length →
    ((tileAt s u).kern.running = true → (tileAt s u).kern.id = x.kern →
      (tileAt (xferFault s u x kind addr) u).kern.running = false ∧ (tileAt (xferFault s u x kind addr) u).thread.running = false
      ∧ ∃ m, (xferFault s u x kind addr).flt.inbox = (drainKern s u).flt.inbox ++ [m] ∧ m.head % 1024 = kind % 1024 ∧ m.head / 2 ^ 59 % 2 = 1
        ∧ m.detail % 2 ^ 20 = x.desc % 2 ^ 20)
    ∧ ((tileAt s u).kern.running = false ∨ (tileAt s u).kern.id ≠ x.kern →
      (tileAt (xferFault s u x kind addr) u).kern = (tileAt s u).kern ∧ (tileAt (xferFault s u x kind addr) u).thread = (tileAt s u).thread
      ∧ ∃ m, (xferFault s u x kind addr).flt.inbox = s.flt.inbox ++ [m] ∧ m.head % 1024 = kind % 1024 ∧ m.head / 2 ^ 59 % 2 = 0
        ∧ m.detail % 2 ^ 20 = x.desc % 2 ^ 20)
    ∧ (∀ y, xferAt s u x.slot = some y → xferOuts s u x.slot = [] → xferAt (xferFault s u x kind addr) u x.slot = none))
  ∧ (∀ (s : State) (u : Nat) (x : Xfer), tileRuns s u = true → (tileAt s u).dmaNext ≤ tileNow s →
      movingXfer (tileAt (landOwnLines s u) u) = some x → x.issuedAt + 16 ≤ tileNow s →
    (x.moved % max x.runLines.1 x.runLines.2 < x.runLines.1 →
      exec (.transferLine u) s = .next (kept s (xferRead (lineMoves (landOwnLines s u) u x) u { x with moved := x.moved + 1 }
        (x.moved / max x.runLines.1 x.runLines.2 * x.runLines.1 + x.moved % max x.runLines.1 x.runLines.2))))
    ∧ (x.runLines.1 ≤ x.moved % max x.runLines.1 x.runLines.2 →
      exec (.transferLine u) s = .next (kept s (lineMoves (landOwnLines s u) u x))))
  ∧ (∀ (s : State) (u l : Nat) (x : Xfer),
    (∀ ph off, windowOf s (tileAt s u) x.bslot (x.srcAddr l) 64 = .stand ph off →
      xferRead s u x l = sendReq s (lineReq u x l (0x2CC + ph / 16) { space := 1, off := 0x100000 * (ph % 16) + off }))
    ∧ (∀ iova, windowOf s (tileAt s u) x.bslot (x.srcAddr l) 64 = .host iova →
      xferRead s u x l = sendReq s (lineReq u x l (homeUnit s x.part) { space := 2, off := iova }))
    ∧ (∀ pa m, windowOf s (tileAt s u) x.bslot (x.srcAddr l) 64 = .own pa → m = meetFrameErrs s u (pa / 8) 8 →
      xferRead s u x l = xferSource m u x l (ByteMem.rdBytes (tileAt m u).frame pa 64) (poisonBits (tileAt m u).framePoison (pa / 8) 8)))
  ∧ (∀ (s : State) (u line xfer poison : Nat) (rq : Rq) (data : List Byte) (recv : Option Nat), working s = true → u < 0x110 →
      arrivable s (reqPkt u rq (.xferLine line xfer data poison recv)) = true → (tileAt s (steer s u)).testing = false → (tileAt s (steer s u)).excluded = false →
      steer s u < s.tiles.length →
    (tileLineCheck (tileAt s (steer s u)) rq.part line 1 = none → rq.src / 4 ≠ u → rq.src / 4 ≠ steer s u →
      Leaves (.transferLineLand u rq line xfer data poison recv) s (fun t =>
        (tileAt t (steer s u)).frame = (tileAt (frameWriteWords (takePkt s (reqPkt u rq (.xferLine line xfer data poison recv))) (steer s u) (slotPa (tileAt s (steer s u)) (line / 2 ^ 16) (64 * (line % 2 ^ 14))) 8 (leNat data) poison) (steer s u)).frame
        ∧ (tileAt t (steer s u)).xcnt = (match recv with
            | some c => (tileAt s (steer s u)).xcnt.set c (((tileAt s (steer s u)).xcnt.getD c 0 + 1) % 2 ^ 32)
            | none => (tileAt s (steer s u)).xcnt)
        ∧ { cls := 3, dest := rq.src / 4, src := rqId (steer s u) 0, part := rq.part, tag := rq.tag, body := .rsp (rq.src % 4) (.writeAck 1) } ∈ t.net
        ∧ (∀ w, w ≠ steer s u → tileAt t w = tileAt s w)))
    ∧ (∀ r, tileLineCheck (tileAt s (steer s u)) rq.part line 1 = some r → rq.src / 4 ≠ u → rq.src / 4 ≠ steer s u →
      exec (.transferLineLand u rq line xfer data poison recv) s
        = .next (kept s (tileRefuse (takePkt s (reqPkt u rq (.xferLine line xfer data poison recv))) (steer s u) rq r)))
    ∧ (rq.src / 4 = steer s u → steer s u = u → (tileAt s u).dmaNext ≤ tileNow s →
      exec (.transferLineLand u rq line xfer data poison recv) s
        = .next (kept s (landOwn (takePkt s (reqPkt u rq (.xferLine line xfer data poison recv))) u rq.part line xfer data poison recv))))
  ∧ (∀ (s : State) (u k : Nat) (x : Xfer), tileRuns s u = true → xferAt s u k = some x → x.started = true → x.failed = false → x.moves ≤ x.moved →
      x.landed = x.dstTotal → u < s.tiles.length →
    Leaves (.transferComplete u k) s (fun t => (tileAt t u).xfers = (tileAt s u).xfers.filter (fun y => y.slot != k)
      ∧ (tileAt t u).xfersDone = ((tileAt s u).xfersDone + 1) % 2 ^ 32
      ∧ (tileAt t u).xcnt = (match x.sendCnt with
          | some c => (tileAt s u).xcnt.set c (((tileAt s u).xcnt.getD c 0 + x.dstTotal) % 2 ^ 32)
          | none => (tileAt s u).xcnt)
      ∧ (x.doneEv = true → (tileAt s u).thread.block = none → (tileAt t u).event = (tileAt s u).event ||| 4)
      ∧ (x.doneEv = false → (tileAt t u).event = (tileAt s u).event) ∧ (tileAt t u).frame = (tileAt s u).frame ∧ t.net = s.net))

/-- The loader's opening services (R161, R166, R171, R172): klb_open of a file that passes every check of Table 5.12 gives it a new
handle, returned with its BUILD_ID; a file whose digest differs never opens; klb_bind keeps the later value of a name; klb_place takes a permitted factor for which the grant has
thickets enough and that meets every budget; klb_query answers from the placement (R164, R165). -/
def Sys2Proof.Machine.LoaderOpensAndPlaces : Prop :=
  (∀ (s : State) (f : List Byte), openCheck f = none →
    exec (.klbOpen f) s = .next { s with klb := { s.klb with
      images := s.klb.images ++ [{ handle := s.klb.next, file := f }], next := s.klb.next + 1
      result := 0, detail := [none, none, none, none, none], values := [s.klb.next, buildId f] } })
  ∧ (∀ f : List Byte, leNat (onlySect f 10) ≠ leNat (digestBytes (sha384 (f.take (f.length - 48)))) → openCheck f ≠ none)
  ∧ (∀ (s : State) (f : List Byte) (r : KRes), openCheck f = some r →
    Leaves (.klbOpen f) s (fun t => t.klb.images = s.klb.images ∧ t.klb.next = s.klb.next ∧ t.klb.result = r.code ∧ t.tiles = s.tiles))
  ∧ (∀ (s : State) (h v i : Nat) (name : List Byte) (x : Image), imageAt s h = some x → x.state ≤ 1 →
      (imports x.file).findIdx? (fun e => decide (e.1 = padName name)) = some i →
      (((imports x.file).getD i ([], 0)).2 = 1 → v < 2 ^ 44) →
      (x.state = 1 → importGranted s x.part ((imports x.file).getD i ([], 0)).2 v = true) →
    exec (.klbBind h name v) s = .next (klbReturn (setImage s { x with
      binds := (padName name, v % 2 ^ 64) :: x.binds.filter (fun b => b.1 != padName name) }) { code := 0 } []))
  ∧ (∀ (s : State) (h p k : Nat) (x : Image), imageAt s h = some x → x.state = 0 → (∀ y ∈ s.klb.images, y.part = p → y.state = 0 ∨ 3 < y.state) →
      grantError s x p = none → chooseFold x.file (grantThickets s p) = (k, none) →
    exec (.klbPlace h p) s = .next (klbReturn (setImage s { x with
      state := 1, part := p, fold := k, thickets := (grantThickets s p).take (thicketsFor x.file k) }) { code := 0 } [k]))
  ∧ (∀ (f : List Byte) (g : List Nat) (k : Nat), chooseFold f g = (k, none) →
    k ∈ foldsOf f ∧ thicketsFor f k ≤ g.length ∧ budgetsFail f k g = none)
  ∧ (∀ (s : State) (h vt : Nat) (x : Image), imageAt s h = some x → x.state ≠ 0 → vt < 4 * zThickets x.file →
    exec (.klbQuery h vt) s = .next (klbReturn s { code := 0 } [x.fold, vt / 4 % x.fold, physTile x (vt / 4 / x.fold) (vt % 4),
      4096 * frameBase (foldGroup x.file x.fold (vt / 4 / x.fold) (vt % 4)) (vt / 4 % x.fold)]))

/-- The loader's services on a placed image, first part (R162, R168 to R171, R173): klb_load allocates the load contexts, and where the
bindings of its placement are not committed yet hands over their proposal and waits for its commit; with the commit it relocates, patches
and sends its load descriptors, and the image is LOADED when all have completed; a refused commit ends it with KLB_E_CUSTODY, the
contexts released. -/
def Sys2Proof.Machine.LoaderLoads : Prop :=
  (∀ (s s1 : State) (h rs : Nat) (x : Image) (cs : List Nat) (j : KJob), imageAt s h = some x → x.state = 1 → clocked s = true → jobOf s h 0 = none →
      ringFails s x.part rs = none → allocMany s x.part (reqContexts x.file) = (s1, cs) →
      j = { handle := h, rs := rs, part := x.part, ctxs := cs, want := proposal x } →
    (cs.length = reqContexts x.file → placementCommitted s x = true →
      exec (.klbLoad h rs) s = .next (kept s (klbWrite s1 x { j with phase := 1 })))
    ∧ (cs.length = reqContexts x.file → placementCommitted s x = false →
      exec (.klbLoad h rs) s = .next (kept s (setJob (emit s1 (.proposal x.part false (proposal x))) j)))
    ∧ (cs.length ≠ reqContexts x.file →
      exec (.klbLoad h rs) s = .next (kept s (klbReturn (releaseAll s1 x.part cs).1 { code := 15, status := some 0x0A } []))))
  ∧ (∀ (s : State) (h rs : Nat) (x : Image) (j : KJob), imageAt s h = some x → x.state = 1 → clocked s = true → jobOf s h 0 = some j → j.phase = 0 →
    (j.heard = some 0 → exec (.klbLoad h rs) s = .next (kept s (klbWrite s x { j with phase := 1, staged := true })))
    ∧ (∀ e, j.heard = some e → e ≠ 0 → exec (.klbLoad h rs) s = .next (kept s (loadFail s j { code := 13 })))
    ∧ (j.heard = none → inSafe s = false → exec (.klbLoad h rs) s = .next s))
  ∧ (∀ (s : State) (x : Image) (j : KJob),
    (∀ r, loadError { x with ctxs := j.ctxs } = some r → klbWrite s x j = loadFail s j r)
    ∧ (∀ s1 j1 e, loadError { x with ctxs := j.ctxs } = none → loadRun s j ((loadDescs { x with ctxs := j.ctxs }).drop j.sent) = (s1, j1, e) →
      (e = .done → klbWrite s x j = endJob (setImage s1 { x with ctxs := j.ctxs, state := 2 }) j { code := 0 })
      ∧ (e = .waits → klbWrite s x j = setJob s1 j1)
      ∧ (∀ r, e = .fails r → klbWrite s x j = loadFail s1 j1 r))
    ∧ (∀ r, j.staged = false → working s = true → loadFail s j r = klbReturn (dropJob (releaseAll s j.part j.ctxs).1 j.handle) r []))
  ∧ (∀ (s s1 : State) (j : KJob) (d : KDesc) (l : List KDesc) (e : Nat), ringOpen s j.rs = true → d.room s (ringAt s j.rs) = true → j.again ≤ now s →
      j.lost = false → loadSend s j.rs (ringAt s j.rs).nextSeq d = (s1, 0, e) → (ringAt s1 j.rs).state = 1 →
    loadRun s j (d :: l) = loadRun (entryRead s1 j.rs) { j with sent := j.sent + 1, lost := false, busyN := 0 } l)
  ∧ (∀ (s : State) (rs p off : Nat) (b : List Byte), loadStatus s (ringAt s rs) (steer s p) = 0 →
    loadApply s rs (.code p off b) = (modTile s (steer s p) (fun t => clearMarks { t with istore := ByteMem.wrBytes t.istore off b } off b.length), 0, 0))

/-- Second part (R65, R163, R169, R171): klb_start injects the start tokens, three to a TOKEN_INJECT, and the image is STARTED when all
have completed; klb_unload releases the load contexts and, once every release has completed, proposes the removal of the bindings. A
service on a ring set that carries none of its descriptors returns KLB_E_DEVICE, and one called in a state that does not permit it
KLB_E_STATE; neither changes an image. -/
def Sys2Proof.Machine.LoaderStartsAndUnloads : Prop :=
  (∀ (s : State) (h rs : Nat) (x : Image), imageAt s h = some x → x.state = 2 → clocked s = true → jobOf s h 1 = none → ringFails s x.part rs = none →
    exec (.klbStart h rs) s = .next (kept s (klbInject s x { handle := h, service := 1, rs := rs, part := x.part, phase := 1 })))
  ∧ (∀ (s : State) (h rs : Nat) (x : Image) (j : KJob), imageAt s h = some x → x.state = 2 → clocked s = true → jobOf s h 1 = some j →
      callFails s j = none → exec (.klbStart h rs) s = .next (kept s (klbInject s x j)))
  ∧ (∀ (s s1 : State) (x : Image) (j j1 : KJob), loadRun s j ((startDescs x).drop j.sent) = (s1, j1, .done) →
    klbInject s x j = klbReturn (dropJob (setImage s1 { x with state := 3 }) j.handle) { code := 0 } [])
  ∧ (∀ (s s1 : State) (h rs : Nat) (x : Image) (j : KJob), imageAt s h = some x → (x.state = 2 ∨ x.state = 3) → clocked s = true → jobOf s h 2 = none →
      ringFails s x.part rs = none → releaseAll s x.part x.ctxs = (s1, true) →
      j = { handle := h, service := 2, rs := rs, part := x.part, ctxs := x.ctxs, want := proposal x, phase := 3 } →
    exec (.klbUnload h rs) s = .next (kept s (klbUnloadOn s1 x j))
    ∧ (releaseLeft s1 j = none → klbUnloadOn s1 x j
        = endJob (setImage (emit s1 (.proposal x.part true (proposal x))) { x with state := 4 }) j { code := 0 })
    ∧ (∀ r, releaseLeft s1 j = some r → r.abandoned = false → klbUnloadOn s1 x j = setJob s1 j))
  ∧ (∀ (s : State) (h rs : Nat) (c : Instr) (x : Image), imageAt s h = some x →
      ((c = .klbLoad h rs ∧ x.state ≠ 1) ∨ (c = .klbStart h rs ∧ x.state ≠ 2) ∨ (c = .klbUnload h rs ∧ x.state ≠ 2 ∧ x.state ≠ 3)) →
    Leaves c s (fun t => t.klb.result = 16 ∧ t.klb.images = s.klb.images ∧ t.tiles = s.tiles ∧ t.ctx = s.ctx ∧ t.net = s.net))
  ∧ (∀ (s : State) (h rs : Nat) (c : Instr) (x : Image) (r : KRes), imageAt s h = some x → clocked s = true → ringFails s x.part rs = some r →
      ((c = .klbLoad h rs ∧ x.state = 1 ∧ jobOf s h 0 = none) ∨ (c = .klbStart h rs ∧ x.state = 2 ∧ jobOf s h 1 = none)
        ∨ (c = .klbUnload h rs ∧ x.state = 2 ∧ jobOf s h 2 = none)) →
    exec c s = .next (klbReturn s r []) ∧ r.code = 14)

/-- The kernel loader's services (chapter 5). -/
def Obligations.Loader : Prop := LoaderOpensAndPlaces ∧ LoaderLoads ∧ LoaderStartsAndUnloads

/-- Sifters (R201 to R204, R219 to R221): a submission queues a job, or is refused with NO_SPACE at 32 jobs or 8 of one partition; admission takes the oldest job
whose partition has none in progress and asks for the lines of its descriptor; a segment that lacks a line asks for it, one that meets
a fault stops its job, and one that ends puts its job at the back of the round; a job whose writes are acknowledged leaves, is counted
and is reported to its submitter, and it sets SIFT_DONE on its event's tile. A running segment goes on once its line is at hand. -/
def Obligations.SifterJobs : Prop :=
  (∀ (s : State) (k desc stand ref : Nat) (rq : Rq), working s = true → sifOut s k = false → k < s.sif.length →
      arrivable s (reqPkt (sifUnit k) rq (.siftSubmit desc stand ref)) = true →
    (sifLoad s k < 32 → (((sifAt s k).queue ++ (sifAt s k).jobs).filter (fun j => decide (j.rq.part = rq.part))).length < 8 →
      exec (.siftSubmit k rq desc stand ref) s = .next (respond (setSif (takePkt s (reqPkt (sifUnit k) rq (.siftSubmit desc stand ref))) k { sifAt s k with
        queue := (sifAt s k).queue ++ [{ id := (sifAt s k).nextId, rq := rq, ref := ref, desc := desc }], nextId := (sifAt s k).nextId + 1 })
        (sifUnit k) rq (.result (resultWord false 0 0))))
    ∧ ((32 ≤ sifLoad s k ∨ 8 ≤ (((sifAt s k).queue ++ (sifAt s k).jobs).filter (fun j => decide (j.rq.part = rq.part))).length) →
      exec (.siftSubmit k rq desc stand ref) s = .next (respond (takePkt s (reqPkt (sifUnit k) rq (.siftSubmit desc stand ref))) (sifUnit k) rq
        (.result (resultWord true 0 0x09)))))
  ∧ (∀ (s s1 : State) (k : Nat) (j : SJob), working s = true → sliceLeft s (sifUnit k) = none → (sifAt s k).jobs.length < 4 → k < s.sif.length →
      (sifAt s k).queue.find? (fun j => !((sifAt s k).jobs.any (fun y => decide (y.rq.part = j.rq.part)))) = some j →
      s1 = setSif s k { sifAt s k with queue := (sifAt s k).queue.filter (fun y => y.id != j.id), jobs := (sifAt s k).jobs ++ [{ j with start := now s }] } →
    (j.phase = 0 → j.desc % 64 = 0 → regionOk (j.desc, 256) = true → (∀ l ∈ j.descLines, partTarget s j.rq.part l ≠ none) →
        (∀ y ∈ (sifAt s k).jobs, y.id ≠ j.id) →
      Leaves (.siftAdmit k) s (fun t => sifAt t k = sifAt s1 k ∧ (∀ l ∈ j.descLines, ∃ o ∈ t.outs, o.unit = sifUnit k ∧ o.use = .siftRead j.id l)))
    ∧ (j.desc % 64 ≠ 0 → exec (.siftAdmit k) s = .next (kept s (sifStop s1 k { j with start := now s } Kind.siftDescInvalid 0)))
    ∧ (j.desc % 64 = 0 → regionOk (j.desc, 256) = false →
      exec (.siftAdmit k) s = .next (kept s (sifStop s1 k { j with start := now s } Kind.siftAddressInvalid j.desc))))
  ∧ (∀ (s : State) (k : Nat) (j : SJob), working s = true → k < s.sif.length →
    ((sifAt s k).cur = some j.id → (sifAt s k).jobs.find? (fun y => decide (y.id = j.id)) = some j →
      exec (.siftSegment k) s = .next (kept s (sifRun s k j)))
    ∧ ((sifAt s k).cur = none → sliceLeft s (sifUnit k) = none → (sifAt s k).jobs.find? (sifReady s k) = some j →
      exec (.siftSegment k) s = .next (kept s (sifRun s k j)))
    ∧ (∀ l, j.segment = .need l → sifRun s k j = sifAsk (setSif s k { sifAt s k with cur := some j.id }) k j l)
    ∧ (∀ l u m, partTarget s j.rq.part l = some (u, m) → (∀ o ∈ s.outs, o.unit = sifUnit k → o.use ≠ .siftRead j.id l) →
      sifAsk s k j l = sendReq s { unit := sifUnit k, part := j.rq.part, target := u, use := .siftRead j.id l, body := .readLine m })
    ∧ (∀ g s1 s3, j.segment = .ok g → (if j.phase = 2 then meetSifErr s k j else (s, false)) = (s1, false) →
        sifStores (g.faults.foldl (fun s f => sifRaise s k j f.1 f.2) s1) k j g.writes = (s3, true) →
      (∀ kind a, g.halt = some (kind, a) → sifRun s k j = sifStop (modJob s3 k j.id (fun _ => g.job)) k j kind a)
      ∧ (g.halt = none → sifRun s k j = setSif s3 k { sifAt s3 k with
        cur := none, jobs := (sifAt s3 k).jobs.filter (fun y => y.id != j.id) ++ [{ g.job with lines := [] }] })))
  ∧ (∀ (s : State) (k kind addr : Nat) (j : SJob), k < s.sif.length → j ∈ (sifAt s k).jobs →
    (∀ y ∈ (sifAt (sifStop s k j kind addr) k).jobs, y.id = j.id → y.phase = 4 ∧ y.fault = some kind ∧ y.faultAddr = addr)
    ∧ (sifAt (sifStop s k j kind addr) k).cur ≠ some j.id
    ∧ (sifStop s k j kind addr).flt.inbox = s.flt.inbox
        ++ [⟨now s % 2 ^ 64, faultHead kind (rqId (sifUnit k) 0) (rqId (sifUnit k) 0 / 4) (some j.rq.part) none, addr, j.desc⟩]
    ∧ (sifStop s k j kind addr).tiles = s.tiles)
  ∧ (∀ (s : State) (k : Nat) (j : SJob), working s = true → (sifAt s k).jobs.find? (fun j => decide (j.phase = 4) && !(sifWriting s k j.id)) = some j →
    (j.resultOk = false → exec (.siftJobComplete k) s = .next (kept s (sifSettle (modJob s k j.id (fun j => { j with phase := 5 })) k j.id)))
    ∧ (j.resultOk = true → partTarget s j.rq.part j.result = none → exec (.siftJobComplete k) s = .next (kept s (sifNoResult s k j)))
    ∧ (∀ e s0 j1, j.resultOk = true → partTarget s j.rq.part j.result ≠ none → sifEndAt s j = (e, s0) → j1 = { j with endAt := some e, phase := 5 } →
      exec (.siftJobComplete k) s
        = .next (kept s (sifSettle (sifStores (modJob s0 k j.id (fun _ => j1)) k j1 [(j.result, j1.record)]).1 k j.id))))
  ∧ (∀ (s : State) (k : Nat) (j : SJob), k < s.sif.length →
    (∀ t, t = sifFinish s k j → (sifAt t k).jobs = (sifAt s k).jobs.filter (fun y => y.id != j.id) ∧ t.tiles = s.tiles
      ∧ (j.fault = none → (sifAt t k).done = ((sifAt s k).done + 1) % 2 ^ 32 ∧ (sifAt t k).faulted = (sifAt s k).faulted)
      ∧ (∀ f, j.fault = some f → (sifAt t k).done = (sifAt s k).done ∧ (sifAt t k).faulted = ((sifAt s k).faulted + 1) % 2 ^ 32)
      ∧ (∀ b, bridgeOf (j.rq.src / 4) = some b → ∃ o ∈ t.outs ++ t.sendWait, o.target = bridgeUnit b
          ∧ o.body = .cplPost (j.ref / 2 ^ 32) (j.ref % 2 ^ 32) (if j.fault.isSome then 3 else 0) (j.fault.getD 0))
      ∧ (bridgeOf (j.rq.src / 4) = none → ∃ o ∈ t.outs ++ t.sendWait, o.target = 0x301
          ∧ o.body = .complete j.ref (match j.fault with
            | some f => 2 ^ 31 + 2 ^ 16 * f
            | none => 0))
      ∧ (∀ p, bit (j.f 1 1) 0 = true → placeOf s j.rq.part (j.f 2 2) = some p →
          { cls := 2, dest := p.unit, src := rqId (sifUnit k) 0, part := j.rq.part, tag := 0, body := .eventSet 8 } ∈ t.net)))

namespace Sys2Proof.Machine

/-- The requester of `rq` is answered `r` by `target`: the packet that carries the answer. -/
def rspOf (target : Nat) (rq : Rq) (r : Resp) : Packet :=
  { cls := 3, dest := rq.src / 4, src := rqId target 0, part := rq.part, tag := rq.tag, body := .rsp (rq.src % 4) r }

end Sys2Proof.Machine

/-- Admission (R228 to R231, R263, Table 8.4), one request at a time in arrival order: a request whose class is its partition's, whose
fields and target are good, under its quota, writes a free record with the class's floor applied to its priority, READY where its dependence
count is 0, and answers the record's handle; a fresh context is allocated for it, or the admission refused with NO_CONTEXT; with a trail it
first asks the gate for a sequence number. One that fails steps 2 to 4 is refused with RIGHTS_DENIED or FIELD_ERROR and one over the quota
with NO_SPACE, none of which writes a record or a context. A request that comes while another waits for its number queues behind it. -/
def Obligations.Admissions : Prop :=
  (∀ (s : State) (rq : Rq) (req : AdmitReq), ReachesNew s 0x301 rq (.admission req) → s.sch.admitting.isSome = true →
    exec (.admitReq rq req) s = .next { takePkt s (reqPkt 0x301 rq (.admission req)) with
      sch := { s.sch with admitQ := s.sch.admitQ ++ [(rq, req)] } })
  ∧ (∀ (s : State) (rq : Rq) (req : AdmitReq) (c : WClass), ReachesNew s 0x301 rq (.admission req) → admitHeld s rq req = false → s.sch.admitQ = [] →
      c = classAt s (spawnClass req) →
    (∀ i f ctx s1, c.valid = true → c.part = rq.part → admitFieldsOk s rq.part req c = true →
        (spawnTmode req = 0 → placeOf s rq.part (spawnVtile req) ≠ none) →
        countRecs s (fun x => decide (x.part = rq.part)) < s.sch.quotas.getD rq.part 0 → freeRecord s = some (i, f) →
        (if spawnCtxMode req = 0 then some (req.ctx, s) else allocCtx s rq.part) = some (ctx, s1) →
      (admitTrail req c = none →
        Leaves (.admitReq rq req) s (fun t =>
          (spawnBits req 51 36 ≠ 0 → recAt t i = { admitRecord rq.part req c (recAt s i).gen with ctx := ctx } ∧ t.sch.entering = s.sch.entering)
          ∧ (spawnBits req 51 36 = 0 → recAt t i = { admitRecord rq.part req c (recAt s i).gen with ctx := ctx, state := 2, readyAt := now s }
              ∧ t.sch.entering = s.sch.entering ++ [i])
          ∧ (recAt t i).prio = max (spawnBits req 8 6) c.floor ∧ (recAt t i).arg = req.arg
          ∧ t.sch.free = f ∧ t.sch.admitted = (s.sch.admitted + 1) % 2 ^ 32 ∧ t.ctx = s1.ctx ∧ t.tiles = s.tiles
          ∧ rspOf 0x301 rq (.result (resultWord false (2 ^ 16 * (recAt s i).gen + i) 0)) ∈ t.net))
      ∧ (∀ tr, admitTrail req c = some tr →
        Leaves (.admitReq rq req) s (fun t => t.sch.recs = s.sch.recs ∧ t.sch.free = f ∧ t.ctx = s1.ctx ∧ t.tiles = s.tiles
          ∧ t.sch.admitting.map (fun a => (a.rq, a.idx, a.record.trail)) = some (rq, i, some tr)
          ∧ (∃ o ∈ t.outs ++ t.sendWait, o.target = 0x305 ∧ o.body = .seqReq tr (2 ^ 16 * (recAt s i).gen + i))
          ∧ rspOf 0x301 rq .wait ∈ t.net)))
    ∧ ((c.valid = false ∨ c.part ≠ rq.part) →
      Leaves (.admitReq rq req) s (fun t => t.sch.recs = s.sch.recs ∧ t.sch.free = s.sch.free ∧ t.ctx = s.ctx ∧ t.sch.rights = (s.sch.rights + 1) % 2 ^ 16
        ∧ rspOf 0x301 rq (.result (resultWord true 0 0x10)) ∈ t.net))
    ∧ (c.valid = true → c.part = rq.part →
        (admitFieldsOk s rq.part req c = false ∨ (spawnTmode req = 0 ∧ placeOf s rq.part (spawnVtile req) = none)) →
      Leaves (.admitReq rq req) s (fun t => t.sch.recs = s.sch.recs ∧ t.sch.free = s.sch.free ∧ t.ctx = s.ctx ∧ t.sch.field = (s.sch.field + 1) % 2 ^ 16
        ∧ rspOf 0x301 rq (.result (resultWord true 0 0x11)) ∈ t.net))
    ∧ (c.valid = true → c.part = rq.part → admitFieldsOk s rq.part req c = true →
        (spawnTmode req = 0 → placeOf s rq.part (spawnVtile req) ≠ none) →
      (s.sch.quotas.getD rq.part 0 ≤ countRecs s (fun x => decide (x.part = rq.part)) ∨ freeRecord s = none →
        Leaves (.admitReq rq req) s (fun t => t.sch.recs = s.sch.recs ∧ t.sch.free = s.sch.free ∧ t.ctx = s.ctx ∧ t.sch.noSpace = (s.sch.noSpace + 1) % 2 ^ 16
          ∧ rspOf 0x301 rq (.result (resultWord true 0 0x09)) ∈ t.net))
      ∧ (∀ i f, countRecs s (fun x => decide (x.part = rq.part)) < s.sch.quotas.getD rq.part 0 → freeRecord s = some (i, f) →
          spawnCtxMode req ≠ 0 → allocCtx s rq.part = none →
        Leaves (.admitReq rq req) s (fun t => t.sch.recs = s.sch.recs ∧ t.sch.free = s.sch.free ∧ t.ctx = s.ctx ∧ t.sch.noSpace = (s.sch.noSpace + 1) % 2 ^ 16
          ∧ rspOf 0x301 rq (.result (resultWord true 0 0x0A)) ∈ t.net))))

/-- Dependence counters (R232, R233): a decrement of a WAITING record above 1 lowers its counter; the one that takes it to zero makes it READY with the forest time of
the cycle; one for a record that is not WAITING answers INVALID_STATE, and one for no live handle INVALID_HANDLE; neither changes a
record. A READY record enters the store of its target, or, where the store is full or its level has a chain, the tail of that chain
(R236, R237). -/
def Obligations.DecrementsAndReadyStores : Prop :=
  (∀ (s : State) (rq : Rq) (h i : Nat) (failed : Bool), ReachesNew s 0x302 rq (.depDec h failed) → liveHandle s rq.part h = some i →
    ((recAt s i).state = 1 → 1 < (recAt s i).dep →
      exec (.decrement rq h failed) s = .next (answeredKept (setRec (takePkt s (reqPkt 0x302 rq (.depDec h failed))) i
        { recAt s i with dep := (recAt s i).dep - 1, failedPred := (recAt s i).failedPred || failed }) 0x302 rq (.result (resultWord false 0 0))))
    ∧ ((recAt s i).state = 1 → (recAt s i).dep = 1 → (((recAt s i).failedPred || failed) && (recAt s i).propagate) = false →
      Leaves (.decrement rq h failed) s (fun t => recAt t i = { recAt s i with dep := 0, failedPred := (recAt s i).failedPred || failed, state := 2, readyAt := now s }
        ∧ t.sch.entering = s.sch.entering ++ [i] ∧ t.tiles = s.tiles))
    ∧ ((recAt s i).state = 1 → (recAt s i).dep = 1 → (((recAt s i).failedPred || failed) && (recAt s i).propagate) = true → recHeld s 5 i = false →
      Leaves (.decrement rq h failed) s (fun t => (recAt t i).state = 4 ∧ (recAt t i).failed = true ∧ (recAt t i).gen = (recAt s i).gen))
    ∧ ((recAt s i).state ≠ 1 →
      Leaves (.decrement rq h failed) s (fun t => t.sch = s.sch ∧ rspOf 0x302 rq (.result (resultWord true 0 0x14)) ∈ t.net
        ∧ ∃ m, t.flt.inbox = s.flt.inbox ++ [m] ∧ m.head % 1024 = Kind.depUnderflow)))
  ∧ (∀ (s : State) (rq : Rq) (h : Nat) (failed : Bool), ReachesNew s 0x302 rq (.depDec h failed) → liveHandle s rq.part h = none →
    Leaves (.decrement rq h failed) s (fun t => t.sch = s.sch ∧ rspOf 0x302 rq (.result (resultWord true 0 0x13)) ∈ t.net
      ∧ ∃ m, t.flt.inbox = s.flt.inbox ++ [m] ∧ m.head % 1024 = Kind.depTargetInvalid))
  ∧ (∀ (s : State) (i : Nat) (r : RStore), working s = true → i ∈ s.sch.entering → recHeld s 3 i = false → r = rstore s (storeOf s (recAt s i)) →
    exec (.readyStoreEntry i) s = .next (kept s (settleTakes (spoor
      (joinStore { s with sch := { s.sch with entering := s.sch.entering.erase i } } (storeOf s (recAt s i)) i) i 3 (storeUnit (storeOf s (recAt s i))) 0 0
      (b2n !(decide (r.ents.length < storeCap r) && (r.chains.getD (recAt s i).prio []).isEmpty))))))
  ∧ (∀ (s : State) (i k : Nat), k < s.sch.stores.length →
    ((rstore s k).ents.length < storeCap (rstore s k) → (rstore s k).chains.getD (recAt s i).prio [] = [] →
      joinStore s k i = setRstore s k { rstore s k with ents := (rstore s k).ents ++ [i] })
    ∧ ((storeCap (rstore s k) ≤ (rstore s k).ents.length ∨ (rstore s k).chains.getD (recAt s i).prio [] ≠ []) →
      joinStore s k i = setRstore s k { rstore s k with chains := (rstore s k).chains.set (recAt s i).prio ((rstore s k).chains.getD (recAt s i).prio [] ++ [i]) }))

/-- Dispatch (R238, R240, R242 to R247, R251): a stand scheduler pushes its best eligible record, or the oldest that the clearing forwarded
to it: the record is DISPATCHED, the lowest free prefetch slot holds its handle and its start tokens leave; a forwarded one whose target is
no longer usable goes back; the clearing forwards its choice to the stand of its target; a record without a bound target is retired as
failed; a TAKE is answered with the handle of the record chosen for it, waits where there is none, and is refused with RIGHTS_DENIED for a
class that is not a pull class of its partition; a waiting TAKE is cancelled, one already served is not; a sifter record is offered to its
sifter. -/
def Obligations.Dispatches : Prop :=
  (∀ (s : State) (k : Nat), working s = true → k < 4 → standSlice s k = false →
    (∀ i, unboundOf s k = some i → exec (.pushDispatch k) s = .next (kept s (retireUnbound s k i)))
    ∧ (unboundOf s k = none → (∀ t, (rstore s k).lastPush = some t → t + 2 ≤ now s) →
      (∀ i vt l, (rstore s k).forwarded = (i, vt) :: l → exec (.pushDispatch k) s = .next (kept s (pushTo s k i vt)))
      ∧ (∀ i vt u, (rstore s k).forwarded = [] →
          bestOf s ((candidates s k 0).filter (fun i => inflightOk s (recAt s i) && (pushTarget s (recAt s i) (fun _ => true)).isSome)) = some i →
          pushTarget s (recAt s i) (fun _ => true) = some (vt, u) →
        exec (.pushDispatch k) s = .next (kept s (pushTo s k i vt)))))
  ∧ (∀ (s : State) (i vt u : Nat), working s = true → sliceLeft s 0x301 = none → unboundOf s 4 = none → standOf u < s.sch.stores.length →
      bestOf s ((candidates s 4 0).filter (fun i => inflightOk s (recAt s i)
        && (pushTarget s (recAt s i) (fun u => !(standSlice s (standOf u)))).isSome)) = some i →
      pushTarget s (recAt s i) (fun u => !(standSlice s (standOf u))) = some (vt, u) →
    Leaves (.pushDispatch 4) s (fun t => recAt t i = { recAt s i with offered := true } ∧ t.tiles = s.tiles ∧ t.net = s.net
      ∧ (rstore t (standOf u)).forwarded = (rstore s (standOf u)).forwarded.filter (fun x => x.1 != i) ++ [(i, vt)]))
  ∧ (∀ (s : State) (k i vt n : Nat) (p : Place), k < s.sch.stores.length → recHeld s 4 i = false → placeOf s (recAt s i).part vt = some p →
      placeTile s p < s.tiles.length →
    ((tileAt s (placeTile s p)).actSlot.findIdx? Option.isNone = some n → (usable s (recAt s i)).any (fun x => decide (x.1 = vt)) = true →
      recAt (pushTo s k i vt) i = { recAt s i with state := 3, tile := placeTile s p, dvt := vt, slotted := true, offered := false }
      ∧ (tileAt (pushTo s k i vt) (placeTile s p)).actSlot = (tileAt s (placeTile s p)).actSlot.set n (some { bslot := p.slot, handle := handleOf s i })
      ∧ { cls := 1, dest := placeTile s p, src := rqId (0x2C4 + standOf (placeTile s p)) 0, part := (recAt s i).part, tag := 0
          body := .actTokens p.gen (startTokens s i vt) (handleOf s i) } ∈ (pushTo s k i vt).net
      ∧ (rstore (pushTo s k i vt) k).pushes = ((rstore s k).pushes + 1) % 2 ^ 32
      ∧ (∀ v, v ≠ placeTile s p → tileAt (pushTo s k i vt) v = tileAt s v))
    ∧ ((tileAt s (placeTile s p)).actSlot.findIdx? Option.isNone = none ∨ (usable s (recAt s i)).any (fun x => decide (x.1 = vt)) = false →
      pushTo s k i vt = unforward s i))
  ∧ (∀ (s : State) (k cls vt : Nat) (rq : Rq), working s = true → arrivable s (reqPkt (0x2C4 + k) rq (.take cls vt)) = true →
    (∀ i p, cls < 64 → (classAt s cls).valid = true → (classAt s cls).part = rq.part → (classAt s cls).dispatch = 1 → standSlice s k = false → k < s.sch.stores.length →
        takeChoice s k rq.part cls vt = some i → placeOf s (recAt s i).part vt = some p →
      Leaves (.takeArrival k rq cls vt) s (fun t => recAt t i = { recAt s i with state := 3, tile := rq.src / 4, dvt := vt, slotted := false }
        ∧ rspOf (0x2C4 + k) rq (.result (resultWord false (handleOf s i) 0)) ∈ t.net
        ∧ { cls := 1, dest := placeTile s p, src := rqId (0x2C4 + standOf (placeTile s p)) 0, part := (recAt s i).part, tag := 0
            body := .actTokens p.gen (startTokens s i vt) (handleOf s i) } ∈ t.net
        ∧ t.sch.takes = s.sch.takes ∧ t.tiles = s.tiles))
    ∧ (cls < 64 → (classAt s cls).valid = true → (classAt s cls).part = rq.part → (classAt s cls).dispatch = 1 →
        (standSlice s k = true ∨ takeChoice s k rq.part cls vt = none) →
      exec (.takeArrival k rq cls vt) s = .next (respond { takePkt s (reqPkt (0x2C4 + k) rq (.take cls vt)) with
        sch := { s.sch with takes := s.sch.takes ++ [⟨k, rq, cls, vt⟩] } } (0x2C4 + k) rq .wait))
    ∧ ((64 ≤ cls ∨ (classAt s cls).valid = false ∨ (classAt s cls).part ≠ rq.part ∨ (classAt s cls).dispatch ≠ 1) →
      exec (.takeArrival k rq cls vt) s = .next (respond (takePkt s (reqPkt (0x2C4 + k) rq (.take cls vt))) (0x2C4 + k) rq (.result (resultWord true 0 0x10)))))
  ∧ (∀ (s : State) (k tag : Nat) (rq : Rq), working s = true → arrivable s (reqPkt (0x2C4 + k) rq (.takeCancel tag)) = true →
    (∀ w, s.sch.takes.find? (fun w => decide (w.stand = k) && decide (w.rq.src = rq.src) && decide (w.rq.part = rq.part) && decide (w.rq.tag = tag)) = some w →
      exec (.takeCancel k rq tag) s = .next (respond { takePkt s (reqPkt (0x2C4 + k) rq (.takeCancel tag)) with
        sch := { s.sch with takes := s.sch.takes.erase w } } (0x2C4 + k) rq (.result (resultWord false 0 0))))
    ∧ (s.sch.takes.find? (fun w => decide (w.stand = k) && decide (w.rq.src = rq.src) && decide (w.rq.part = rq.part) && decide (w.rq.tag = tag)) = none →
      exec (.takeCancel k rq tag) s = .next (respond (takePkt s (reqPkt (0x2C4 + k) rq (.takeCancel tag))) (0x2C4 + k) rq (.result (resultWord true 0 0x14)))))
  ∧ (∀ (s : State) (k i : Nat), working s = true → k ≤ 4 → sliceLeft s (storeUnit k) = none →
      bestOf s ((candidates s k 2).filter (fun i => inflightOk s (recAt s i) && !(recAt s i).offered && !(recHeld s 4 i))) = some i →
    Leaves (.sifterDispatch k) s (fun t => recAt t i = { recAt s i with offered := true }
      ∧ (∃ tag, t.net = s.net ++ [{ cls := 2, dest := sifUnit (sifChoice s (recAt s i).siftStand), src := rqId (storeUnit k) 0, part := (recAt s i).part, tag := tag
                                    body := .siftSubmit (recAt s i).arg.toNat (recAt s i).siftStand (handleOf s i) }])
      ∧ t.sch.stores = s.sch.stores))

/-- Completion (R226, R241, R248): a completion of a DISPATCHED record makes it RETIRING, frees its prefetch slot and is answered; one for anything else answers INVALID_HANDLE and
changes no record; a tile's report of a lost start token retires the record as failed; a RETIRING record whose effects have been accepted
is freed with its generation advanced, and its index joins the tail of the free list. -/
def Obligations.Completions : Prop :=
  (∀ (s : State) (rq : Rq) (h status : Nat), ReachesNew s 0x301 rq (.complete h status) →
    (∀ i, liveHandle s rq.part h = some i → (recAt s i).state = 3 → recHeld s 5 i = false →
        (s.sch.takes = [] ∨ ∀ r ∈ s.sch.stores, i ∉ r.ents ∧ ∀ c ∈ r.chains, i ∉ c) →
      Leaves (.completion rq h status) s (fun t => (recAt t i).state = 4 ∧ (recAt t i).failed = decide (status ≠ 0) ∧ (recAt t i).gen = (recAt s i).gen
        ∧ ((recAt s i).tile < s.tiles.length → ∀ a, some a ∈ (tileAt t (recAt s i).tile).actSlot → a.handle ≠ handleOf s i)
        ∧ rspOf 0x301 rq (.result (resultWord false 0 0)) ∈ t.net))
    ∧ ((liveHandle s rq.part h = none ∨ ∃ i, liveHandle s rq.part h = some i ∧ (recAt s i).state ≠ 3 ∧ recHeld s 5 i = false) →
      exec (.completion rq h status) s = .next (respond (takePkt s (reqPkt 0x301 rq (.complete h status))) 0x301 rq (.result (resultWord true 0 0x13)))))
  ∧ (∀ (s : State) (u part h i : Nat), working s = true →
      arrivable s { cls := 0, dest := 0x301, src := rqId u 3, part := part, body := .activationLost h } = true →
      liveHandle s part h = some i → (recAt s i).state = 3 → recHeld s 5 i = false → (∀ x ∈ s.sch.failQ, x.1 ≠ handleOf s i) →
    Leaves (.activationLostReport u part h) s (fun t => (recAt t i).state = 4 ∧ (recAt t i).failed = true ∧ (recAt t i).kind = some Kind.activationLost
      ∧ ∃ m, t.flt.inbox = s.flt.inbox ++ [m] ∧ m.head % 1024 = Kind.activationLost))
  ∧ (∀ (s : State) (i : Nat), working s = true → (recAt s i).state = 4 → (recAt s i).effects = 0 → (recAt s i).released = true →
      recHeld s 0x0B i = false →
    Leaves (.recordFree i) s (fun t => recAt t i = { gen := nextGen i (recAt s i).gen, gone := (recAt s i).gone }
      ∧ t.sch.retired = (s.sch.retired + 1) % 2 ^ 32 ∧ ((recAt s i).gone = false → t.sch.free = s.sch.free.putBack i)
      ∧ (∀ j, j ≠ i → recAt t j = recAt s j) ∧ t.tiles = s.tiles))

/-- The release gate (R260 to R276): a sequence request on a trail of the requester takes the trail's next number, or is refused without one; a number returned while
it is the newest is given back, an older one becomes a hole; a tagged token passes the gate when its item is the head, is stored when it
is not, and beyond OUT_PER_ITEM is dropped; a completion is kept for the release. -/
def Sys2Proof.Machine.TrailItems : Prop :=
  (∀ (s : State) (rq : Rq) (t h : Nat), ReachesNew s 0x305 rq (.seqReq t h) →
    (trailOwned s t rq.part = true → (trailAt s t).items.length < 256 → gateReserved s rq.part + (trailAt s t).outPer ≤ s.trl.quotas.getD rq.part 0 →
      exec (.seqReq rq t h) s = .next (answeredKept (setTrail (takePkt s (reqPkt 0x305 rq (.seqReq t h))) t { trailAt s t with
        nextSeq := ((trailAt s t).nextSeq + 1) % 65536
        items := (trailAt s t).items ++ [{ seq := (trailAt s t).nextSeq, handle := h, skip := (trailAt s t).skip, outPer := (trailAt s t).outPer }] })
        0x305 rq (.seqData 0 (trailAt s t).nextSeq)))
    ∧ (trailOwned s t rq.part = false →
      Leaves (.seqReq rq t h) s (fun s' => s'.trl = s.trl ∧ rspOf 0x305 rq (.seqData 0x10 0) ∈ s'.net
        ∧ ∃ m, s'.flt.inbox = s.flt.inbox ++ [m] ∧ m.head % 1024 = Kind.trailAccessInvalid))
    ∧ (trailOwned s t rq.part = true →
        (256 ≤ (trailAt s t).items.length ∨ s.trl.quotas.getD rq.part 0 < gateReserved s rq.part + (trailAt s t).outPer) →
      Leaves (.seqReq rq t h) s (fun s' => s'.trl = { s.trl with full := (s.trl.full + 1) % 2 ^ 16 } ∧ rspOf 0x305 rq (.seqData 0x09 0) ∈ s'.net)))
  ∧ (∀ (s : State) (rq : Rq) (t q : Nat), ReachesNew s 0x305 rq (.seqReturn t q) → (∀ i ∈ (trailAt s t).items, i.seq = q → i.hole = true) →
    exec (.seqReturn rq t q) s = .next (respond (takePkt s (reqPkt 0x305 rq (.seqReturn t q))) 0x305 rq (.result (resultWord true 0 0x14))))
  ∧ (∀ (s : State) (rq : Rq) (t q : Nat), ReachesNew s 0x305 rq (.seqReturn t q) → (∃ i ∈ (trailAt s t).items, i.seq = q ∧ i.hole = false) →
    ((q + 1) % 65536 = (trailAt s t).nextSeq →
      exec (.seqReturn rq t q) s = .next (answeredKept (setTrail (takePkt s (reqPkt 0x305 rq (.seqReturn t q))) t { trailAt s t with
        nextSeq := q, items := (trailAt s t).items.filter (fun i => i.seq != q) }) 0x305 rq (.result (resultWord false 0 0))))
    ∧ ((q + 1) % 65536 ≠ (trailAt s t).nextSeq →
      exec (.seqReturn rq t q) s = .next (answeredKept (setTrail (takePkt s (reqPkt 0x305 rq (.seqReturn t q))) t { trailAt s t with
        items := (trailAt s t).items.map (fun i => if i.seq = q then { i with hole := true, outPer := 0, toks := [] } else i) })
        0x305 rq (.result (resultWord false 0 0)))))
  ∧ (∀ (s : State) (rq : Rq) (h i t : Nat) (tok : Token) (it : Item), Reaches s 0x305 rq (.gateToken h tok) → liveHandle s rq.part h = some i →
      (recAt s i).trail = some t → (trailAt s t).items.find? (fun x => decide (x.handle = h) && !x.hole) = some it → it.done = none →
    (it.sent < it.outPer → headItem s t = some it → it.toks = [] →
      exec (.gateToken rq h tok) s = .next (kept s (respond (gateEmit (modItem (takePkt s (reqPkt 0x305 rq (.gateToken h tok))) t it.seq
        (fun x => { x with sent := x.sent + 1 })) t it ⟨tok, rq.src, 0⟩) 0x305 rq (.result (resultWord false 0 0)))))
    ∧ (it.sent < it.outPer → headItem s t ≠ some it ∨ it.toks ≠ [] →
      Leaves (.gateToken rq h tok) s (fun s' => s'.net = (takePkt s (reqPkt 0x305 rq (.gateToken h tok))).net ++ [rspOf 0x305 rq (.result (resultWord false 0 0))]
        ∧ (trailAt s' t).items = (trailAt s t).items.map (fun x => if x.seq = it.seq then { x with sent := x.sent + 1, toks := x.toks ++ [⟨tok, rq.src, 0⟩] } else x)))
    ∧ (it.outPer ≤ it.sent →
      Leaves (.gateToken rq h tok) s (fun s' => s'.trl = s.trl ∧ ∃ m, s'.flt.inbox = s.flt.inbox ++ [m] ∧ m.head % 1024 = Kind.trailOutputOverflow)))
  ∧ (∀ (s : State) (rq : Rq) (h : Nat) (tok : Token), Reaches s 0x305 rq (.gateToken h tok) →
      (liveHandle s rq.part h = none ∨ (∃ i, liveHandle s rq.part h = some i ∧ ((recAt s i).trail = none ∨ ∃ t, (recAt s i).trail = some t
        ∧ ∀ it, (trailAt s t).items.find? (fun x => decide (x.handle = h) && !x.hole) = some it → it.done ≠ none))) →
    exec (.gateToken rq h tok) s = .next (respond (takePkt s (reqPkt 0x305 rq (.gateToken h tok))) 0x305 rq (.result (resultWord true 0 0x13))))
  ∧ (∀ (s : State) (t : Nat) (it : Item) (g : GateTok),
    (∀ p pkt, placeOf s (trailAt s t).part (tagVt g.tok.tag) = some p →
        pkt = { cls := 1, dest := p.unit, src := rqId 0x305 0, part := (trailAt s t).part, tag := 0, body := .tokens p.gen [g.tok] true } →
      (gateEmit s t it g).net = s.net ++ [pkt] ∧ (gateEmit s t it g).trl.acks = s.trl.acks ++ [(pkt, it.handle)]
      ∧ (gateEmit s t it g).trl.trails = s.trl.trails)
    ∧ (placeOf s (trailAt s t).part (tagVt g.tok.tag) = none →
      gateEmit s t it g = raise s 0x0A6 (rqId 0x305 0) (some (trailAt s t).part) g.src g.tok.tag.toNat))
  ∧ (∀ (s : State) (rq : Rq) (h t q status : Nat), Reaches s 0x305 rq (.gateComplete h t q status) → gateHeldBy s t 6 (recAt s (h % 2 ^ 16)).cls = false →
    (∀ it, (trailAt s t).items.find? (fun x => decide (x.handle = h) && decide (x.seq = q)) = some it → it.done = none →
      exec (.gateComplete rq h t q status) s = .next (kept s (respond (gateSpoor (modItem (takePkt s (reqPkt 0x305 rq (.gateComplete h t q status))) t q
        (fun x => { x with done := some status })) t it 6 status (trailAt s t).relSeq) 0x305 rq (.result (resultWord false 0 0)))))
    ∧ (∀ it, (trailAt s t).items.find? (fun x => decide (x.handle = h) && decide (x.seq = q)) = some it → it.done ≠ none →
      exec (.gateComplete rq h t q status) s = .next (respond (takePkt s (reqPkt 0x305 rq (.gateComplete h t q status))) 0x305 rq (.result (resultWord false 0 0))))
    ∧ ((trailAt s t).items.find? (fun x => decide (x.handle = h) && decide (x.seq = q)) = none →
      exec (.gateComplete rq h t q status) s = .next (respond (takePkt s (reqPkt 0x305 rq (.gateComplete h t q status))) 0x305 rq (.result (resultWord true 0 0x13)))))

/-- Release in order (R271, R275, R276): the completed head of a trail leaves with its stored tokens and RELEASE_SEQ advances; a failed head is skipped as a hole where the trail says so,
otherwise it holds the trail with TRAIL_HELD; SKIP and PASS release a held head, the one as a hole and the other with its tokens; RESET
zeroes the numbers of an idle trail and is refused for any other. -/
def Sys2Proof.Machine.TrailRelease : Prop :=
  (∀ (s m : State) (t : Nat) (it0 : Item), working s = true → sliceLeft s 0x305 = none → (trailAt s t).held = false → headItem s t = some it0 →
    (it0.hole = true → exec (.gateRelease t) s = .next (kept s (popItem s t)))
    ∧ (it0.hole = false → it0.done ≠ none → gateHeldBy s t (releaseEvent it0) (recAt s (it0.handle % 2 ^ 16)).cls = false → m = meetItem s t it0 →
      ∀ it, headItem m t = some it →
        (it.done = some 0 → it.bad = false → exec (.gateRelease t) s = .next (kept s (releaseItem m t it false)))
        ∧ (it.done ≠ some 0 ∨ it.bad = true → it.skip = true → exec (.gateRelease t) s = .next (kept s (releaseHole m t it)))
        ∧ (it.done ≠ some 0 ∨ it.bad = true → it.skip = false →
          Leaves (.gateRelease t) s (fun s' => (trailAt s' t).held = true ∧ (trailAt s' t).relSeq = (trailAt s t).relSeq ∧ s'.trl.released = s.trl.released
            ∧ ((trailAt s t).trace = false → s'.net = s.net) ∧ ∃ x, s'.flt.inbox = m.flt.inbox ++ [x] ∧ x.head % 1024 = Kind.trailHeld))))
  ∧ (∀ (s : State) (t : Nat) (it : Item) (fail : Bool),
    ((trailAt (releaseItem s t it fail) t).relSeq = ((trailAt s t).relSeq + 1) % 65536
      ∧ (trailAt (releaseItem s t it fail) t).items.map Item.seq = (trailAt s t).items.tail.map Item.seq
      ∧ (releaseItem s t it fail).trl.released = (s.trl.released + 1) % 2 ^ 32 ∧ (releaseItem s t it fail).trl.holes = s.trl.holes
      ∧ ∀ g ∈ it.toks, ∀ p, placeOf s (trailAt s t).part (tagVt g.tok.tag) = some p →
        { cls := 1, dest := p.unit, src := rqId 0x305 0, part := (trailAt s t).part, tag := 0, body := .tokens p.gen [g.tok] true } ∈ (releaseItem s t it fail).net)
    ∧ ((trailAt (releaseHole s t it) t).relSeq = ((trailAt s t).relSeq + 1) % 65536 ∧ (releaseHole s t it).trl.holes = (s.trl.holes + 1) % 2 ^ 16
      ∧ (releaseHole s t it).trl.released = (s.trl.released + 1) % 2 ^ 32)
    ∧ (trailAt (popItem s t) t).relSeq = ((trailAt s t).relSeq + 1) % 65536
    ∧ (trailAt (popItem s t) t).items.map Item.seq = (trailAt s t).items.tail.map Item.seq)
  ∧ (∀ (s : State) (rq : Rq) (t : Nat) (it : Item), trailOwned s t rq.part = true → (trailAt s t).held = true → headItem s t = some it →
    (ReachesNew s 0x305 rq (.trailCtrl t .skip) → trailCtrlHeld s t .skip = false →
      Leaves (.skip rq t) s (fun s' => (trailAt s' t).held = false ∧ (trailAt s' t).relSeq = ((trailAt s t).relSeq + 1) % 65536
        ∧ s'.trl.holes = (s.trl.holes + 1) % 2 ^ 16 ∧ rspOf 0x305 rq (.result (resultWord false 0 0)) ∈ s'.net))
    ∧ (ReachesNew s 0x305 rq (.trailCtrl t .pass) → trailCtrlHeld s t .pass = false →
      Leaves (.pass rq t) s (fun s' => (trailAt s' t).held = false ∧ (trailAt s' t).relSeq = ((trailAt s t).relSeq + 1) % 65536
        ∧ s'.trl.holes = s.trl.holes ∧ rspOf 0x305 rq (.result (resultWord false 0 0)) ∈ s'.net)))
  ∧ (∀ (s : State) (rq : Rq) (t : Nat), ReachesNew s 0x305 rq (.trailCtrl t .reset) → trailOwned s t rq.part = true → trailCtrlHeld s t .reset = false →
    ((trailAt s t).items = [] → (trailAt s t).held = false →
      exec (.reset rq t) s = .next (kept s (answeredKept (gateSpoor (setTrail (takePkt s (reqPkt 0x305 rq (.trailCtrl t .reset))) t { trailAt s t with
        nextSeq := 0, relSeq := 0 }) t { seq := 0, handle := 0xFFFFFFFF } 0x0A 0 2) 0x305 rq (.result (resultWord false 0 0)))))
    ∧ (((trailAt s t).items ≠ [] ∨ (trailAt s t).held = true) →
      exec (.reset rq t) s = .next (respond (takePkt s (reqPkt 0x305 rq (.trailCtrl t .reset))) 0x305 rq (.result (resultWord true 0 0x14)))))
  ∧ (∀ (s : State) (rq : Rq) (t : Nat) (c : Instr) (a : TrailAction),
      ((c = .skip rq t ∧ a = .skip) ∨ (c = .pass rq t ∧ a = .pass) ∨ (c = .reset rq t ∧ a = .reset)) →
      ReachesNew s 0x305 rq (.trailCtrl t a) → trailCtrlHeld s t a = false →
    (trailOwned s t rq.part = false → exec c s = .next (kept s (respond (gateRaise (takePkt s (reqPkt 0x305 rq (.trailCtrl t a))) Kind.trailAccessInvalid rq.part 0 t 0)
      0x305 rq (.result (resultWord true 0 0x10)))))
    ∧ (trailOwned s t rq.part = true → a ≠ .reset → (trailAt s t).held = false →
      exec c s = .next (respond (takePkt s (reqPkt 0x305 rq (.trailCtrl t a))) 0x305 rq (.result (resultWord true 0 0x14)))))

/-- Trails at the release gate: items, tokens and completions, and their release in order (chapter 9). -/
def Obligations.Trails : Prop := TrailItems ∧ TrailRelease

/-- The trace hub (R281 to R288): a record joins the queue of every destination whose filters it passes, or is counted lost where that queue is full; 64 cc after its TIME it is
written behind the producer index, which advances, or is lost where the buffer is full in lossy mode, and a host error stops the
destination; a full destination's consumer index is read again; a stall at its limit becomes lossy with SPOOR_STALL_TIMEOUT; SP_CTRL of destination 0 is written while its ENABLE is 0. -/
def Obligations.TraceHub : Prop :=
  (∀ (s : State) (r : SpoorRec), outOfService s 9 = false → working s = true → s.trl.dests.length = 17 →
      arrivable s { cls := 2, dest := 0x306, src := rqId r.unit 0, part := r.part, tag := 0, body := .spoorEvent r } = true →
      (∀ d, d < 17 → destTakes s d r = true → (destAt s d).stalling = false ∨ (destAt s d).queue.length < 256) →
    Leaves (.spoorEvent r) s (fun t => ∀ d, d < 17 →
      (destTakes s d r = false → destAt t d = destAt s d)
      ∧ (destTakes s d r = true → (destAt s d).queue.length < 256 → (destAt t d).queue = spoorInsert r (destAt s d).queue ∧ (destAt t d).lost = (destAt s d).lost)
      ∧ (destTakes s d r = true → 256 ≤ (destAt s d).queue.length →
          (destAt t d).queue = (destAt s d).queue ∧ (destAt t d).lost = ((destAt s d).lost + 1) % 2 ^ 64 ∧ (destAt t d).gapDue = true)))
  ∧ (∀ (s : State) (d : Nat) (r : SpoorRec) (q : List SpoorRec), outOfService s 9 = false → working s = true → (destAt s d).enable = true →
      (destAt s d).starting = false → (destAt s d).queue = r :: q → r.time + 64 ≤ now s → spoorOnWay s d r = false →
    (destFull (destAt s d) = true → (destAt s d).stalling = false →
      exec (.spoorRecordWrite d) s = .next (setDest s d { destAt s d with
        queue := q, lost := ((destAt s d).lost + 1) % 2 ^ 64, gap := satInc 32 (destAt s d).gap, gapDue := true }))
    ∧ (∀ s2 h, destFull (destAt s d) = false →
        destHost (setDest s d { destAt s d with queue := q, pi := ((destAt s d).pi + 1) % 2 ^ 32, gap := 0, gapDue := false, stallSince := none }) d
          ((destAt s d).base + 32 * ((destAt s d).pi % 2 ^ (destAt s d).n)) true 32 (spoorBytes r (if (destAt s d).gapDue then some (destAt s d).gap else none)) (.spoor d) = (s2, h) →
      (∀ s3 h', NotFailed h → destHost s2 d (ctrlLine (destAt s d)) true 4 (leBytes 4 (((destAt s d).pi + 1) % 2 ^ 32)) (.spoor d) = (s3, h') →
        (NotFailed h' → exec (.spoorRecordWrite d) s = .next (kept s s3))
        ∧ (∀ e, h' = .failed e → exec (.spoorRecordWrite d) s = .next (kept s (spoorFail s3 d))))
      ∧ (∀ e, h = .failed e → exec (.spoorRecordWrite d) s = .next (kept s (spoorFail s2 d)))))
  ∧ (∀ (r : SpoorRec) (gap : Option Nat), (spoorBytes r gap).length = 32)
  ∧ (∀ (s s1 : State) (d : Nat) (h : HStart), outOfService s 9 = false → working s = true → (destAt s d).enable = true → (destAt s d).reading = false →
      destFull (destAt s d) = true → (∀ x, (destAt s d).lastRead = some x → x + 256 ≤ now s) →
      destHost (setDest s d { destAt s d with reading := true, lastRead := some (now s) }) d (ctrlLine (destAt s d) + 8) false 4 [] (.spoorCi d) = (s1, h) →
    (NotFailed h → exec (.spoorCiReread d) s = .next (kept s s1))
    ∧ (∀ e, h = .failed e → exec (.spoorCiReread d) s = .next (kept s (spoorFail s1 d))))
  ∧ (∀ (s : State) (d x : Nat), outOfService s 9 = false → working s = true → (destAt s d).stalling = true → (destAt s d).stallSince = some x →
      x + 1024 * (destAt s d).stallLimit ≤ now s →
    Leaves (.spoorStallTimeout d) s (fun t => t.trl = (setDest s d { destAt s d with stalling := false, stallSince := none }).trl
      ∧ t.flt.inbox = s.flt.inbox ++ [⟨now s % 2 ^ 64, faultHead Kind.spoorStallTimeout (rqId 0x306 0) (rqId 0x306 0 / 4) none none, 0, 2 ^ 32 * d⟩]))
  ∧ (∀ (s : State) (b n port lim : Nat) (stall : Bool), accessorPresent s (.fn b 0) = true → inSafe s = false → (destAt s 0).enable = false →
      7 ≤ n → n ≤ 25 → 0 < lim → lim < 2 ^ 16 → port < 2 →
    exec (.spCtrlWrite (.fn b 0) (.whole (2 ^ 48 * lim + 16 * n + 8 * port + 4 * b2n stall))) s = .next (setDest s 0 { destAt s 0 with
      stallLimit := lim, n := n, port := port, stalling := stall, stallSince := if stall then (destAt s 0).stallSince else none
      queue := [], lost := ((destAt s 0).lost + (destAt s 0).queue.length) % 2 ^ 64, starting := false }))
  ∧ (∀ (s : State) (b v w : Nat), accessorPresent s (.fn b 0) = true → accessFault s (.fn b 0) 0x100408 8 true = none → v < 2 ^ 64 →
      w = 2 ^ 48 * bits v 63 48 + bits v 8 2 * 4 + bits v 0 0 →
    (spCtrlOk (destAt s 0) w = true → exec (.spCtrlWrite (.fn b 0) (.whole v)) s = .next (kept s (spCtrlSet s 0 w)))
    ∧ (spCtrlOk (destAt s 0) w = false → exec (.spCtrlWrite (.fn b 0) (.whole v)) s = .next (logAccess s b 0 0x100408 5)))

namespace Sys2Proof.Machine

/-- What an agent's walk starts from. -/
def agentWork (r : Region) : OvfWork := { live := r.live, stale := r.stale, bump := r.bump, free := r.free }

/-- The agent of partition `p` has begun operation `q` and waits for the line at `off` of its region. -/
def agentBegins (s : State) (p off : Nat) (q : OvfReq) (l : List OvfReq) : State :=
  setRegion s p { regionAt s p with queue := l, busy := some q, reading := some off, work := agentWork (regionAt s p) }

/-- The line that an operation of the agent lacks, where it lacks one. -/
def lineNeeded (x : WRes Resp) : Option Nat := match x with
  | .need off => some off
  | _ => none

/-- The region of partition `p` is enabled, its agent runs nothing, and operation `q` must first read the line at `off`. -/
abbrev AgentFree (s : State) (p off : Nat) (q : OvfReq) : Prop :=
  ((regionAt s p).state = 1 ∨ (regionAt s p).state = 2) ∧ (regionAt s p).busy = none ∧ p < s.spr.regions.length
  ∧ lineNeeded (ovfWalk (regionAt s p) (agentWork (regionAt s p)) q) = some off

/-- The host access with which the agent reads the line at `off`. -/
def agentRead (s : State) (p off : Nat) : HostAcc := { iova := (regionAt s p).base + off, len := 64, use := .ovf (s.homes.getD p 0) p off }

/-- A request of the agent: the command that brings it, the packet's body and the operation. -/
abbrev AgentReq (c : Instr) (b : Body) (q : OvfReq) (rq : Rq) : Prop :=
  (∃ toks, c = .spill rq toks ∧ b = .spill toks ∧ q = .spill rq toks) ∨ (∃ key, c = .fetch rq key ∧ b = .fetch key ∧ q = .fetch rq key)
  ∨ (∃ ctx, c = .ctxNotice rq ctx ∧ b = .ctxNotice ctx ∧ q = .notice rq ctx)

/-- An eviction episode of tile `u` at the head token `h`: the state once its lookup has met the stored errors of the head's set and of
the overflow buffer. -/
def episodeState (s : State) (u : Nat) (h : QTok) : State :=
  meetLookup (modSpl (setMonitor s (standOf u) { monitorAt s (standOf u) with episodes := ((monitorAt s (standOf u)).episodes + 1) % 2 ^ 32 }) u
    (fun x => { x with storeSince := some (now s) })) u (headSet h.tok.tag) (headSet h.tok.tag)

/-- The victims of that episode. -/
def episodeVictims (s : State) (u : Nat) (h : QTok) : List (Nat × MEntry) :=
  victims (tileAt (episodeState s u h) u) h.tok.tag ((monitorAt s (standOf u)).batchM1 + 1)

end Sys2Proof.Machine

/-- Orders of a monitor (R293 to R296, R298): an eviction episode marks its victims PENDING, sets their filter bits and sends each in a
SPILL, at once or when its tag window opens; where it finds none it raises OVERSPILL_NO_VICTIM the first time, counts a refused order and
starts the hold-off. An un-firing records the held instance's key and spills its normal tokens; with a full refire list it raises
REFIRE_LIST_FULL the first time and counts a refused order. The hold-off ends. -/
def Sys2Proof.Machine.Evictions : Prop :=
  (∀ (s m : State) (u t0 : Nat) (h : QTok) (q : List QTok) (vs : List (Nat × MEntry)), mayOrder s u = true → (tileAt s u).spl.storeSince = some t0 →
      (tileAt s u).iq = h :: q → t0 + (monitorAt s (standOf u)).storeThresh ≤ now s → u < s.tiles.length →
      m = episodeState s u h → vs = episodeVictims s u h →
    (vs ≠ [] → Leaves (.evictionEpisode u) s (fun t => (tileAt t u).spl.ordered = true ∧ (tileAt t u).iq = (tileAt m u).iq
      ∧ (∀ v, v ≠ u → tileAt t v = tileAt s v)
      ∧ (∀ e ∈ vs, NSet.has (tileAt t u).spl.filter (filterIndex e.2.key) = true
        ∧ (e.1 < 65536 → (SMap.get {} (tileAt t u).store e.1).pending = true)
        ∧ (65536 ≤ e.1 → (SMap.get {} (tileAt t u).ovf (e.1 - 65536)).pending = true)
        ∧ ∃ toks, entryTok (tileAt m u) e.2 ∈ toks
          ∧ ((∃ tag, { cls := 2, dest := homeUnit s (tagPart h.tok.tag), src := rqId u 3, part := tagPart h.tok.tag, tag := tag, body := .spill toks } ∈ t.net)
            ∨ (∃ x ∈ t.sendWait, x.unit = u ∧ x.sub = 3 ∧ x.part = tagPart h.tok.tag ∧ x.body = .spill toks)))))
    ∧ (vs = [] → Leaves (.evictionEpisode u) s (fun t => (tileAt t u).spl.ordered = false ∧ (tileAt t u).store = (tileAt m u).store ∧ t.net = s.net
      ∧ (tileAt t u).spl.holdOff = some (now s + 256 * (monitorAt s (standOf u)).retry)
      ∧ ((tileAt s u).spl.noVictim = true → t.flt.inbox = m.flt.inbox)
      ∧ ((tileAt s u).spl.noVictim = false → t.flt.inbox = m.flt.inbox ++ [⟨now s % 2 ^ 64,
          faultHead Kind.overspillNoVictim (rqId u 3) (rqId u 3 / 4) (some (tagPart h.tok.tag)) none,
          headSet h.tok.tag + 2 ^ 12 * stickyCount (tileAt m u), h.tok.tag.toNat⟩]))))
  ∧ (∀ (s : State) (u t0 : Nat) (e : FireEntry), mayOrder s u = true → (tileAt s u).spl.fireSince = some t0 → (tileAt s u).held = some e →
      t0 + (monitorAt s (standOf u)).fireThresh ≤ now s → u < s.tiles.length →
    ((tileAt s u).spl.refire.length < 64 →
      Leaves (.unfire u) s (fun t => (tileAt t u).spl.refire = (tileAt s u).spl.refire ++ [instKey e.tag] ∧ (tileAt t u).spl.ordered = true
        ∧ (tileAt t u).spl.unfiring = true ∧ (tileAt t u).held = some e ∧ NSet.has (tileAt t u).spl.filter (filterIndex (instKey e.tag)) = true
        ∧ (windowOpen s (rqId u 3) (tagPart e.tag) (homeUnit s (tagPart e.tag)) = true →
          ∃ tag, t.net = s.net ++ [{ cls := 2, dest := homeUnit s (tagPart e.tag), src := rqId u 3, part := tagPart e.tag, tag := tag, body := .spill (heldToks (tileAt s u) e) }])
        ∧ (windowOpen s (rqId u 3) (tagPart e.tag) (homeUnit s (tagPart e.tag)) = false →
          t.net = s.net ∧ ∃ x, t.sendWait = s.sendWait ++ [x] ∧ x.unit = u ∧ x.body = .spill (heldToks (tileAt s u) e))))
    ∧ (64 ≤ (tileAt s u).spl.refire.length →
      Leaves (.unfire u) s (fun t => (tileAt t u).spl.refire = (tileAt s u).spl.refire ∧ (tileAt t u).spl.ordered = false ∧ (tileAt t u).held = some e
        ∧ t.net = s.net ∧ (tileAt t u).spl.holdOff = some (now s + 256 * (monitorAt s (standOf u)).retry)
        ∧ ((tileAt s u).spl.fullRaised = false → t.flt.inbox = s.flt.inbox ++ [⟨now s % 2 ^ 64,
            faultHead Kind.refireListFull (rqId u 3) (rqId u 3 / 4) (some (tagPart e.tag)) none, 2 ^ 12 * stickyCount (tileAt s u), e.tag.toNat⟩]))))
  ∧ (∀ (s : State) (u d : Nat), working s = true → (tileAt s u).spl.holdOff = some d → d ≤ now s →
    exec (.monitorHoldOffEnd u) s = .next (setTile s u { tileAt s u with spl := { (tileAt s u).spl with holdOff := none } }))

/-- The answer of a SPILL (R296, R298, R304): requests that waited for a tag window are tried, and the answer takes effect: an accepted
SPILL frees its entries and raises SPILLED, and an un-fired instance leaves the matcher; a refused one returns its entries to matching,
and the instance goes on into the fire queue. The last answer of an order ends it, and after a refusal starts the hold-off. -/
def Sys2Proof.Machine.SpillAnswers : Prop :=
  (∀ (s : State) (u src part tag st n : Nat) (o : OutReq) (ents : List Nat) (un : Bool), AnswersTo s u src part tag 3 (.spillData st n) o →
      o.use = .spill ents un →
    exec (.spillAnswer u src part tag (.spillData st n)) s
      = .next (kept s (flushWait (Machine.spillAnswer (ended s u src part tag 3 (.spillData st n) o) o ents un (decide (st = 0)) n))))
  ∧ (∀ (x y : State) (u n : Nat) (o : OutReq) (ents : List Nat) (un : Bool), o.unit = u → u < x.tiles.length →
      y = Machine.spillAnswer x o ents un true n →
    (tileAt y u).spl.spilled = (tileAt x u).spl.spilled + n
    ∧ (∀ i ∈ ents, (i < 65536 → SMap.get {} (tileAt y u).store i = {}) ∧ (65536 ≤ i → SMap.get {} (tileAt y u).ovf (i - 65536) = {}))
    ∧ (un = true → (tileAt y u).held = none ∧ (tileAt y u).spl.unfiring = false)
    ∧ ((tileAt x u).spl.refused = false → spillsOut x u = false → (tileAt y u).spl.ordered = false))
  ∧ (∀ (x y : State) (u n : Nat) (o : OutReq) (ents : List Nat) (un : Bool), o.unit = u → u < x.tiles.length →
      y = Machine.spillAnswer x o ents un false n →
    (tileAt y u).spl.spilled = (tileAt x u).spl.spilled
    ∧ (∀ i ∈ ents, (i < 65536 → (SMap.get {} (tileAt y u).store i).pending = false)
      ∧ (65536 ≤ i → (SMap.get {} (tileAt y u).ovf (i - 65536)).pending = false))
    ∧ (un = true → (tileAt y u).spl.refire = (tileAt x u).spl.refire.dropLast ∧ (tileAt y u).spl.unfiring = false
      ∧ (∀ e, (tileAt x u).held = some e →
        (fqRoom (tileAt x u) e.level = true → (tileAt y u).fq = (tileAt x u).fq ++ [e] ∧ (tileAt y u).held = none)
        ∧ (fqRoom (tileAt x u) e.level = false → (tileAt y u).held = some e)))
    ∧ ((tileAt x u).spl.ordered = true → spillsOut x u = false → (tileAt y u).spl.ordered = false
      ∧ (tileAt y u).spl.holdOff = some (now x + 256 * (monitorAt x (standOf u)).retry)))

/-- Fetch-back (R299, R305 to R307, R309): fetched tokens enter the fetch buffer, and MORE asks again once the buffer has room; a token of
the buffer enters the input queue as kind 3 and lowers SPILLED, or is discarded and counted where its context has ended; the
oldest refire key is fetched once the fire queue is low enough; a reclaim notice lowers SPILLED. -/
def Sys2Proof.Machine.FetchBack : Prop :=
  (∀ (s : State) (u src part tag key : Nat) (o : OutReq) (refire more : Bool) (toks : List Token), AnswersTo s u src part tag 3 (.fetchData toks more) o →
      o.use = .fetch key refire →
    exec (.fetchData u src part tag (.fetchData toks more)) s
      = .next (kept s (flushWait (fetchAnswer (ended s u src part tag 3 (.fetchData toks more) o) o key refire toks more))))
  ∧ (∀ (x y : State) (u key : Nat) (o : OutReq) (refire more : Bool) (toks : List Token), o.unit = u → u < x.tiles.length →
      y = fetchAnswer x o key refire toks more →
    (tileAt y u).spl.fetchBuf = (tileAt x u).spl.fetchBuf ++ toks ∧ (tileAt y u).iq = (tileAt x u).iq
    ∧ (more = false → (tileAt y u).spl.moreQ = (tileAt x u).spl.moreQ
      ∧ (tileAt y u).spl.refire = if refire then (tileAt x u).spl.refire.erase key else (tileAt x u).spl.refire)
    ∧ (∀ x1, more = true → x1 = modSpl x u (fun z => { z with fetchBuf := z.fetchBuf ++ toks }) →
      (fetchRoom x1 u = false → (tileAt y u).spl.moreQ = (tileAt x u).spl.moreQ ++ [(key, refire)] ∧ y.net = x.net)
      ∧ (∀ k r l, fetchRoom x1 u = true → (tileAt x u).spl.moreQ ++ [(key, refire)] = (k, r) :: l →
          windowOpen x (rqId u 3) (bits k 59 56) (homeUnit x (bits k 59 56)) = true →
        (tileAt y u).spl.moreQ = l ∧ ∃ tag, y.net = x.net ++ [{ cls := 2, dest := homeUnit x (bits k 59 56), src := rqId u 3, part := bits k 59 56, tag := tag, body := .fetch k }])))
  ∧ (∀ (s : State) (u : Nat) (k : Token) (r : List Token), tileRuns s u = true → (tileAt s u).spl.fetchBuf = k :: r → u < s.tiles.length →
    (endedCtx (tileAt s u) (tagPart k.tag) (tagCtx k.tag) = false → (tileAt s u).iq.length + 4 ≤ 2048 →
      Leaves (.fetchBufferInject u) s (fun t => (tileAt t u).spl.fetchBuf = r ∧ (tileAt t u).spl.spilled = (tileAt s u).spl.spilled - 1
        ∧ (tileAt t u).iq = (tileAt s u).iq ++ [⟨{ k with tag := BitVec.ofNat 64 (k.tag.toNat / 4 * 4 + 3) }, rqId u 3⟩]
        ∧ ((tileAt s u).spl.moreQ = [] → (tileAt s u).endWaits = [] → t.net = s.net)))
    ∧ (endedCtx (tileAt s u) (tagPart k.tag) (tagCtx k.tag) = true →
      Leaves (.fetchBufferInject u) s (fun t => (tileAt t u).spl.fetchBuf = r ∧ (tileAt t u).spl.spilled = (tileAt s u).spl.spilled - 1
        ∧ (tileAt t u).iq = (tileAt s u).iq
        ∧ (r ≠ [] → (tileAt t u).endWaits = (countEnded (tileAt s u) (tagPart k.tag) (tagCtx k.tag)).endWaits))))
  ∧ (∀ (s : State) (u key part : Nat) (r : List Nat), tileRuns s u = true → (tileAt s u).spl.refire = key :: r → tilePart (tileAt s u) = some part →
      (∀ o ∈ s.outs, o.unit = u → (∀ k, o.use ≠ .fetch k true) ∧ (∀ l, o.use ≠ .spill l true)) → (∀ x ∈ (tileAt s u).spl.moreQ, x.2 = false) →
      (tileAt s u).fq.length ≤ (monitorAt s (standOf u)).refireMark → fetchRoom s u = true →
      windowOpen s (rqId u 3) part (homeUnit s part) = true →
    Leaves (.refireFetch u) s (fun t => t.tiles = s.tiles ∧ ∃ tag, t.net = s.net ++ [{ cls := 2, dest := homeUnit s part, src := rqId u 3, part := part, tag := tag, body := .fetch key }]))
  ∧ (∀ (s : State) (u n : Nat) (rq : Rq), working s = true → u < 0x110 → arrivable s (reqPkt u rq (.reclaim n)) = true → steer s u < s.tiles.length →
    Leaves (.reclaim u rq n) s (fun t => (tileAt t (steer s u)).spl.spilled = (tileAt s (steer s u)).spl.spilled - n
      ∧ (tileAt t (steer s u)).spl.refire = (tileAt s (steer s u)).spl.refire ∧ (∀ v, v ≠ steer s u → tileAt t v = tileAt s v)))

/-- Overspill at the tiles: evictions, un-firings and their answers, and fetching tokens back (chapter 10). -/
def Obligations.OverspillOfTiles : Prop := Evictions ∧ SpillAnswers ∧ FetchBack

/-- The overspill agent (R300 to R309, R311): a request to an agent of an enabled region that runs nothing makes it read the first line
that the operation needs, and the requester waits; while another operation runs, or the agent waits for the sweep, it joins the queue; a
host access that cannot start fails the region. A region that is DISABLED or FAILED refuses a SPILL, DISABLED raising
OVERSPILL_REGION_ABSENT once, and answers a FETCH with no token and a notice with zero. An insertion counts every token that it places; a
FETCH removes at most four tokens, each of its key; the sweep leaves LIVE and lowers STALE by what it reclaims. -/
def Obligations.OverspillAgent : Prop :=
  (∀ (s s2 : State) (rq : Rq) (b : Body) (q : OvfReq) (c : Instr) (off : Nat) (h : HStart), AgentReq c b q rq →
      ReachesNew s (homeUnit s rq.part) rq b → AgentFree s rq.part off q → (regionAt s rq.part).queue = [] → (regionAt s rq.part).held = false →
      windowStart (agentBegins (respond (replayAdd (takePkt s (reqPkt (homeUnit s rq.part) rq b)) (homeUnit s rq.part) rq none) (homeUnit s rq.part) rq .wait)
        rq.part off q [q]) rq.part (agentRead s rq.part off) = (s2, h) →
    (NotFailed h → exec c s = .next (kept s s2))
    ∧ (∀ e, h = .failed e → exec c s = .next (kept s (ovfFail s2 rq.part Kind.overspillHostError))))
  ∧ (∀ (s : State) (rq : Rq) (b : Body) (q : OvfReq) (c : Instr), AgentReq c b q rq → ReachesNew s (homeUnit s rq.part) rq b →
      ((regionAt s rq.part).state = 1 ∨ (regionAt s rq.part).state = 2) → rq.part < s.spr.regions.length →
      ((∃ x, (regionAt s rq.part).busy = some x) ∨ (regionAt s rq.part).held = true) →
    exec c s = .next (kept s (respond (replayAdd (setRegion (takePkt s (reqPkt (homeUnit s rq.part) rq b)) rq.part { regionAt s rq.part with
      queue := (regionAt s rq.part).queue ++ [q] }) (homeUnit s rq.part) rq none) (homeUnit s rq.part) rq .wait)))
  ∧ (∀ (s : State) (rq : Rq), ((regionAt s rq.part).state = 0 ∨ (regionAt s rq.part).state = 3) →
    (∀ toks, ReachesNew s (homeUnit s rq.part) rq (.spill toks) →
      Leaves (.spill rq toks) s (fun t => t.net = (takePkt s (reqPkt (homeUnit s rq.part) rq (.spill toks))).net ++ [rspOf (homeUnit s rq.part) rq (.spillData 0x14 0)]
        ∧ (((regionAt s rq.part).state = 3 ∨ (regionAt s rq.part).absent = true) → t.flt.inbox = s.flt.inbox)
        ∧ ((regionAt s rq.part).state = 0 → (regionAt s rq.part).absent = false →
          (rq.part < s.spr.regions.length → (regionAt t rq.part).absent = true)
          ∧ ∃ m, t.flt.inbox = s.flt.inbox ++ [m] ∧ m.head % 1024 = Kind.overspillRegionAbsent)))
    ∧ (∀ key, ReachesNew s (homeUnit s rq.part) rq (.fetch key) →
      Leaves (.fetch rq key) s (fun t => t.net = (takePkt s (reqPkt (homeUnit s rq.part) rq (.fetch key))).net ++ [rspOf (homeUnit s rq.part) rq (.fetchData [] false)]
        ∧ t.flt.inbox = s.flt.inbox))
    ∧ (∀ ctx, ReachesNew s (homeUnit s rq.part) rq (.ctxNotice ctx) →
      Leaves (.ctxNotice rq ctx) s (fun t => t.net = (takePkt s (reqPkt (homeUnit s rq.part) rq (.ctxNotice ctx))).net ++ [rspOf (homeUnit s rq.part) rq (.result (resultWord false 0 0))]
        ∧ t.flt.inbox = s.flt.inbox)))
  ∧ (∀ (s s2 : State) (p off : Nat) (h : HStart), working s = true → sliceLeft s (homeUnit s p) = none → (regionAt s p).stale ≠ 0 →
      AgentFree s p off (.sweep (regionAt s p).sweepAt) → ((regionAt s p).queue = [] ∨ (regionAt s p).held = true) →
      windowStart (agentBegins s p off (.sweep (regionAt s p).sweepAt) (regionAt s p).queue) p (agentRead s p off) = (s2, h) →
    (NotFailed h → exec (.sweep p) s = .next (kept s s2))
    ∧ (∀ e, h = .failed e → exec (.sweep p) s = .next (kept s (ovfFail s2 p Kind.overspillHostError))))
  ∧ (∀ (w w' : OvfWork) (n : Nat) (l : List (Token × Nat)), insertToks w n l = .ok () w' → w'.live = w.live + l.length ∧ w'.placed = w.placed + l.length)
  ∧ (∀ (r : Region) (w w' : OvfWork) (rq : Rq) (key : Nat) (toks : List Token) (more : Bool), ovfWalk r w (.fetch rq key) = .ok (.fetchData toks more) w' →
      toks.length ≤ 4 ∧ w'.live = w.live - toks.length ∧ (∀ k ∈ toks, instKey k.tag = key))
  ∧ (∀ (r : Region) (w w' : OvfWork) (a : Resp) (i : Nat), ovfWalk r w (.sweep i) = .ok a w' →
      w'.live = w.live ∧ w.reclaimed.length ≤ w'.reclaimed.length ∧ w'.stale = w.stale - (w'.reclaimed.length - w.reclaimed.length))

namespace Sys2Proof.Machine

/-- A memory request reaches tile `ph`, which serves position `u`: the work units run, it is the oldest of its flow, and the tile is
neither quarantined nor in a slice. -/
abbrev TileServes (s : State) (u ph : Nat) (rq : Rq) (b : Body) : Prop :=
  working s = true ∧ u < 0x110 ∧ arrivable s (reqPkt u rq b) = true ∧ ph = steer s u ∧ (tileAt s ph).testing = false
  ∧ (tileAt s ph).excluded = false ∧ ph < s.tiles.length

/-- A memory request reaches stand buffer `k`. -/
abbrev StandTakes (s : State) (k : Nat) (rq : Rq) (b : Body) : Prop :=
  working s = true ∧ k < 4 ∧ sliceLeft s (0x2CC + k) = none ∧ arrivable s (reqPkt (0x2CC + k) rq b) = true ∧ k < s.sts.length

/-- A read command: its packet's body, the form of its answer, the bytes it reads and the offset it reads from: a word and a line are
aligned, a bulk read starts where its offset says (R326). -/
abbrev ReadCommand (c : Instr) (b : Body) (kind n off u : Nat) (rq : Rq) (m : MemWord) : Prop :=
  (c = .readWord u rq m ∧ b = .readWord m ∧ kind = 0 ∧ n = 8 ∧ off = m.off / 8 * 8)
  ∨ (c = .readLine u rq m ∧ b = .readLine m ∧ kind = 1 ∧ n = 64 ∧ off = m.off / 64 * 64)
  ∨ (c = .readBulk u rq m ∧ b = .readBulk m ∧ kind = 2 ∧ n = 256 ∧ off = m.off)

end Sys2Proof.Machine

/-- Memory requests at tiles (R323, R324, R326, R469): READ_WORD, READ_LINE, READ_BULK and AADD that pass the target's checks are answered
with the bytes and poison of their slot's frame window, stored errors met, of which AADD alone changes its own word; WRITE_WORD,
WRITE_LINE and WRITE_BULK that pass write their bytes and are acknowledged. A request that fails a check changes no tile and is refused
with the check's reason, STALE_PLACEMENT being raised for reason 2; a quarantined tile drops it. -/
def Sys2Proof.Machine.TileMemoryRequests : Prop :=
  (∀ (s : State) (u ph kind n off : Nat) (rq : Rq) (m : MemWord) (c : Instr) (b : Body), ReadCommand c b kind n off u rq m → m.space = 0 →
      TileServes s u ph rq b →
    (∀ s1 bs pz, tileCheck (tileAt s ph) rq.part { m with off := off } n = none →
        tileRead (takePkt s (reqPkt u rq b)) ph (slotPa (tileAt s ph) m.slot off) n = (s1, bs, pz) →
      exec c s = .next (kept s (respond s1 ph rq (memAnswer kind bs pz))))
    ∧ (∀ r, tileCheck (tileAt s ph) rq.part { m with off := off } n = some r → exec c s = .next (kept s (tileRefuse (takePkt s (reqPkt u rq b)) ph rq r))))
  ∧ (∀ (s s1 : State) (u pa n pz : Nat) (bs : List Byte), tileRead s u pa n = (s1, bs, pz) →
    bs = ByteMem.rdBytes (tileAt s u).frame pa n ∧ (tileAt s1 u).frame = (tileAt s u).frame ∧ s1.net = s.net
    ∧ ((tileAt s u).frameErr = [] → s1 = s ∧ pz = poisonBits (tileAt s u).framePoison (pa / 8) (wordsOf pa n)))
  ∧ (∀ (s : State) (u ph w : Nat) (rq : Rq) (m : MemWord) (x : W64), m.space = 0 → TileServes s u ph rq (.aadd m w x) →
    (∀ s1 bs pz, tileCheck (tileAt s ph) rq.part m (w / 8) = none →
        tileRead (takePkt s (reqPkt u rq (.aadd m w x))) ph (slotPa (tileAt s ph) m.slot m.off) (w / 8) = (s1, bs, pz) →
      exec (.aaddRequest u rq m w x) s = .next (kept s (respond (frameWrite s1 ph (slotPa (tileAt s ph) m.slot m.off) (w / 8)
          ((leNat bs + x.toNat) % 2 ^ w) (decide (pz ≠ 0))) ph rq (.dataWord ⟨BitVec.ofNat 64 (leNat bs), decide (pz ≠ 0)⟩))))
    ∧ (∀ r, tileCheck (tileAt s ph) rq.part m (w / 8) = some r →
      exec (.aaddRequest u rq m w x) s = .next (kept s (tileRefuse (takePkt s (reqPkt u rq (.aadd m w x))) ph rq r))))
  ∧ (∀ (s : State) (u ph w : Nat) (rq : Rq) (m : MemWord) (x : PWord), m.space = 0 → TileServes s u ph rq (.writeWord m w x) →
    (tileCheck (tileAt s ph) rq.part m (w / 8) = none →
      exec (.writeWord u rq m w x) s = .next (kept s (respond (frameWrite (takePkt s (reqPkt u rq (.writeWord m w x))) ph
        (slotPa (tileAt s ph) m.slot m.off) (w / 8) x.val.toNat x.poison) ph rq (.writeAck 1))))
    ∧ (∀ r, tileCheck (tileAt s ph) rq.part m (w / 8) = some r →
      exec (.writeWord u rq m w x) s = .next (kept s (tileRefuse (takePkt s (reqPkt u rq (.writeWord m w x))) ph rq r))))
  ∧ (∀ (s : State) (u ph line xfer poison n : Nat) (bulk : Bool) (rq : Rq) (data : List Byte), TileServes s u ph rq (.lineWrite line xfer bulk data poison) →
      n = (if bulk then 4 else 1) →
    (tileLineCheck (tileAt s ph) rq.part line n = none →
      exec (.lineWrite u rq line xfer bulk data poison) s = .next (kept s (respond (frameWriteWords (takePkt s (reqPkt u rq (.lineWrite line xfer bulk data poison))) ph
        (slotPa (tileAt s ph) (line / 2 ^ 16) (64 * (line % 2 ^ 14))) (8 * n) (leNat data) poison) ph rq (.writeAck n))))
    ∧ (∀ r, tileLineCheck (tileAt s ph) rq.part line n = some r →
      exec (.lineWrite u rq line xfer bulk data poison) s = .next (kept s (tileRefuse (takePkt s (reqPkt u rq (.lineWrite line xfer bulk data poison))) ph rq r))))
  ∧ (∀ (s : State) (u r : Nat) (rq : Rq), (tileRefuse s u rq r).tiles = s.tiles ∧ (tileRefuse s u rq r).net = s.net ++ [rspOf u rq (.refused r)]
    ∧ (r ≠ 2 → (tileRefuse s u rq r).flt = s.flt)
    ∧ (r = 2 → ∃ g, (tileRefuse s u rq r).flt.inbox = s.flt.inbox ++ [g] ∧ g.head % 1024 = Kind.stalePlacement))
  ∧ (∀ (t : Tile) (part n : Nat) (m : MemWord),
    (((t.bindings.getD m.slot {}).valid = false ∨ (t.bindings.getD m.slot {}).part ≠ part) → tileCheck t part m n = some 1)
    ∧ ((t.bindings.getD m.slot {}).valid = true → (t.bindings.getD m.slot {}).part = part →
      (((t.bindings.getD m.slot {}).gen ≠ m.gen ∨ (t.bindings.getD m.slot {}).vtile ≠ m.vtile) → tileCheck t part m n = some 2)
      ∧ ((t.bindings.getD m.slot {}).gen = m.gen → (t.bindings.getD m.slot {}).vtile = m.vtile →
        tileCheck t part m n = if m.off + n ≤ 4096 * (t.vtFrame.getD m.slot {}).size then none else some 3)))
  ∧ (∀ (s : State) (u kind n off : Nat) (rq : Rq) (m : MemWord) (c : Instr) (b : Body), working s = true → u < 0x110 →
      arrivable s (reqPkt u rq b) = true → (tileAt s (steer s u)).testing = false → (tileAt s (steer s u)).excluded = true →
      ((ReadCommand c b kind n off u rq m ∧ m.space = 0) ∨ (∃ w x, c = .writeWord u rq m w x ∧ b = .writeWord m w x ∧ m.space = 0)
        ∨ (∃ w x, c = .aaddRequest u rq m w x ∧ b = .aadd m w x ∧ m.space = 0)
        ∨ (∃ l x bk d p, c = .lineWrite u rq l x bk d p ∧ b = .lineWrite l x bk d p)) →
    exec c s = .next (kept s (takePkt s (reqPkt u rq b))))

/-- Memory requests at stand buffers (R199, R323, R326): a request on a slice that the requester's partition holds reads, adds to or writes
its bytes with their poison, stored errors met and lines counted; on any other slice, and for a line that leaves its slice, it is refused
with reason 4. -/
def Sys2Proof.Machine.StandRequests : Prop :=
  (∀ (s : State) (k kind n off : Nat) (rq : Rq) (m : MemWord) (c : Instr) (b : Body), ReadCommand c b kind n off (0x2CC + k) rq m → m.space = 1 →
      StandTakes s k rq b →
    (∀ s1 bs pz, sliceHeld (stsAt s k) rq.part m.off = true → (kind = 2 → sliceHeld (stsAt s k) rq.part (m.off + 255) = true) →
        stsRead (takePkt s (reqPkt (0x2CC + k) rq b)) k off n = (s1, bs, pz) →
      exec c s = .next (kept s (respond s1 (0x2CC + k) rq (memAnswer kind bs pz))))
    ∧ ((sliceHeld (stsAt s k) rq.part m.off = false ∨ (kind = 2 ∧ sliceHeld (stsAt s k) rq.part (m.off + 255) = false)) →
      exec c s = .next (kept s (respond (takePkt s (reqPkt (0x2CC + k) rq b)) (0x2CC + k) rq (.refused 4)))))
  ∧ (∀ (s s1 : State) (k a n pz : Nat) (bs : List Byte), stsRead s k a n = (s1, bs, pz) → k < s.sts.length →
    bs = ByteMem.rdBytes (stsAt s k).mem a n ∧ (stsAt s1 k).mem = (stsAt s k).mem
    ∧ (stsAt s1 k).readLines = ((stsAt s k).readLines + linesOf a n) % 2 ^ 32
    ∧ ((stsAt s k).err = [] → pz = poisonBits (stsAt s k).poison (a / 8) (wordsOf a n)))
  ∧ (∀ (s : State) (k w : Nat) (rq : Rq) (m : MemWord) (x : W64), m.space = 1 → StandTakes s k rq (.aadd m w x) →
    (∀ s1 bs pz, sliceHeld (stsAt s k) rq.part m.off = true → stsRead (takePkt s (reqPkt (0x2CC + k) rq (.aadd m w x))) k m.off (w / 8) = (s1, bs, pz) →
      exec (.aaddRequest (0x2CC + k) rq m w x) s = .next (kept s (respond (countWrites (stsWriteWord s1 k m.off
          (leBytes (w / 8) ((leNat bs + x.toNat) % 2 ^ w)) (decide (pz ≠ 0))) k 1) (0x2CC + k) rq (.dataWord ⟨BitVec.ofNat 64 (leNat bs), decide (pz ≠ 0)⟩))))
    ∧ (sliceHeld (stsAt s k) rq.part m.off = false →
      exec (.aaddRequest (0x2CC + k) rq m w x) s = .next (kept s (respond (takePkt s (reqPkt (0x2CC + k) rq (.aadd m w x))) (0x2CC + k) rq (.refused 4)))))
  ∧ (∀ (s : State) (k w : Nat) (rq : Rq) (m : MemWord) (x : PWord), m.space = 1 → StandTakes s k rq (.writeWord m w x) →
    (sliceHeld (stsAt s k) rq.part m.off = true →
      exec (.writeWord (0x2CC + k) rq m w x) s = .next (kept s (respond (countWrites (stsWriteWord (takePkt s (reqPkt (0x2CC + k) rq (.writeWord m w x))) k m.off
        (leBytes (w / 8) x.val.toNat) x.poison) k 1) (0x2CC + k) rq (.writeAck 1))))
    ∧ (sliceHeld (stsAt s k) rq.part m.off = false →
      exec (.writeWord (0x2CC + k) rq m w x) s = .next (kept s (respond (takePkt s (reqPkt (0x2CC + k) rq (.writeWord m w x))) (0x2CC + k) rq (.refused 4)))))
  ∧ (∀ (s : State) (k a : Nat) (bs : List Byte) (p : Bool), k < s.sts.length →
    (stsAt (stsWriteWord s k a bs p) k).mem = ByteMem.wrBytes (stsAt s k).mem a bs
    ∧ (bs.length = 8 → NSet.has (stsAt (stsWriteWord s k a bs p) k).poison (a / 8) = p)
    ∧ (p = true → NSet.has (stsAt (stsWriteWord s k a bs p) k).poison (a / 8) = true)
    ∧ (stsWriteWord s k a bs p).tiles = s.tiles ∧ (∀ j, j ≠ k → stsAt (stsWriteWord s k a bs p) j = stsAt s j))
  ∧ (∀ (s : State) (k line xfer poison n : Nat) (bulk : Bool) (rq : Rq) (data : List Byte), StandTakes s k rq (.lineWrite line xfer bulk data poison) →
      n = (if bulk then 4 else 1) →
    (sliceHeld (stsAt s k) rq.part (64 * line) = true → sliceHeld (stsAt s k) rq.part (64 * (line + n) - 1) = true →
      exec (.lineWrite (0x2CC + k) rq line xfer bulk data poison) s = .next (kept s (respond (countWrites (stsWriteWords
        (takePkt s (reqPkt (0x2CC + k) rq (.lineWrite line xfer bulk data poison))) k (64 * line) (8 * n) data poison) k n) (0x2CC + k) rq (.writeAck n))))
    ∧ ((sliceHeld (stsAt s k) rq.part (64 * line) = false ∨ sliceHeld (stsAt s k) rq.part (64 * (line + n) - 1) = false) →
      exec (.lineWrite (0x2CC + k) rq line xfer bulk data poison) s
        = .next (kept s (respond (takePkt s (reqPkt (0x2CC + k) rq (.lineWrite line xfer bulk data poison))) (0x2CC + k) rq (.refused 4)))))

/-- Memory requests at bridges (R323, R325, R326), and events (R105): a bridge starts the host access of a request in its host window, HOST_BASE
keeps the base of a sender's transfer slot and a line write goes to that base; a unit that serves no such request drops it with
NOC_HEADER_INVALID; an event sets its bits, and ends a WAITEV that selects one of the bits then set. -/
def Sys2Proof.Machine.BridgeRequests : Prop :=
  (∀ (s : State) (u k kind n off : Nat) (rq : Rq) (m : MemWord) (c : Instr) (b : Body), ReadCommand c b kind n off u rq m → m.space = 2 → bridgeOf u = some k →
      working s = true → arrivable s (reqPkt u rq b) = true →
    exec c s = .next (kept s (memHost (takePkt s (reqPkt u rq b)) k rq kind off n [] 0)))
  ∧ (∀ (s : State) (u k w : Nat) (rq : Rq) (m : MemWord) (x : PWord), m.space = 2 → bridgeOf u = some k → working s = true →
      arrivable s (reqPkt u rq (.writeWord m w x)) = true →
    exec (.writeWord u rq m w x) s = .next (kept s (memHost (takePkt s (reqPkt u rq (.writeWord m w x))) k rq 3 m.off (w / 8) (leBytes (w / 8) x.val.toNat) (b2n x.poison))))
  ∧ (∀ (s : State) (u k line xfer poison : Nat) (bulk : Bool) (rq : Rq) (data : List Byte), bridgeOf u = some k → working s = true →
      arrivable s (reqPkt u rq (.lineWrite line xfer bulk data poison)) = true →
    exec (.lineWrite u rq line xfer bulk data poison) s = .next (kept s (memHost (takePkt s (reqPkt u rq (.lineWrite line xfer bulk data poison))) k rq
      (if bulk then 4 else 3) (SMap.get 0 (hifAt s k).bases (8 * (64 * rq.src + rq.part) + xfer) + 64 * line) (64 * (if bulk then 4 else 1)) data poison)))
  ∧ (∀ (s : State) (u k xfer iova : Nat) (rq : Rq), bridgeOf u = some k → working s = true → arrivable s (reqPkt u rq (.hostBase xfer iova)) = true →
    exec (.hostBase u rq xfer iova) s = .next (setHif (takePkt s (reqPkt u rq (.hostBase xfer iova))) k { hifAt s k with
      bases := SMap.put 0 (hifAt s k).bases (8 * (64 * rq.src + rq.part) + xfer) iova }))
  ∧ (∀ (s s1 : State) (k kind iova len poison : Nat) (rq : Rq) (data : List Byte) (h : HStart) (a : HostAcc),
      a = { part := rq.part, iova := iova, len := len, wr := decide (3 ≤ kind), data := data, poison := poison, relaxed := decide (rq.src % 4 = 2), use := .mem rq kind } →
    (s.homes.getD rq.part 0 = k → windowStart s rq.part a = (s1, h) →
      (h = .pending → memHost s k rq kind iova len data poison = s1)
      ∧ (h = .done → memHost s k rq kind iova len data poison = memHostDone s1 k a rq kind (.ok [] 0))
      ∧ (∀ e, h = .failed e → memHost s k rq kind iova len data poison = memHostDone s1 k { a with fn := (partFn s k rq.part).getD 0 } rq kind (.fail e)))
    ∧ (s.homes.getD rq.part 0 ≠ k → inSafe s = false →
      (memHost s k rq kind iova len data poison).net = s.net ++ [rspOf (bridgeUnit k) rq (.refused 5)]))
  ∧ (∀ (s : State) (u kind n off : Nat) (rq : Rq) (m : MemWord) (c : Instr) (b : Body), working s = true → arrivable s (reqPkt u rq b) = true →
      ((ReadCommand c b kind n off u rq m ∧ memTarget u m.space = none) ∨ (∃ w x, c = .writeWord u rq m w x ∧ b = .writeWord m w x ∧ memTarget u m.space = none)
        ∨ (∃ w x, c = .aaddRequest u rq m w x ∧ b = .aadd m w x ∧ (memTarget u m.space = none ∨ memTarget u m.space = some 2))
        ∨ (∃ l x bk d p, c = .lineWrite u rq l x bk d p ∧ b = .lineWrite l x bk d p ∧ 0x110 ≤ u ∧ ¬(0x2CC ≤ u ∧ u < 0x2D0) ∧ bridgeOf u = none)
        ∨ (∃ x v, c = .hostBase u rq x v ∧ b = .hostBase x v ∧ bridgeOf u = none)
        ∨ (∃ mask, c = .eventSet u rq mask ∧ b = .eventSet mask ∧ 0x110 ≤ u)) →
    exec c s = .next (kept s (dropPkt s u (reqPkt u rq b))))
  ∧ (∀ (s : State) (u : Nat) (p : Packet), (dropPkt s u p).tiles = s.tiles ∧ (dropPkt s u p).net = (takePkt s p).net
    ∧ (dropPkt s u p).noc.dropped = (s.noc.dropped + 1) % 2 ^ 16
    ∧ ∃ g, (dropPkt s u p).flt.inbox = s.flt.inbox ++ [g] ∧ g.head % 1024 = Kind.nocHeaderInvalid ∧ g.detail = packetHeader p)
  ∧ (∀ (s : State) (u ph mask all : Nat) (rq : Rq), TileServes s u ph rq (.eventSet mask) → all = (tileAt s ph).event ||| (mask % 16) →
    ((∀ rd mk lim, (tileAt s ph).thread.block = some (.waitEv rd mk lim) → all &&& mk = 0) →
      exec (.eventSet u rq mask) s = .next (kept s (setTile (takePkt s (reqPkt u rq (.eventSet mask))) ph { tileAt s ph with event := all })))
    ∧ (∀ rd mk lim, (tileAt s ph).thread.block = some (.waitEv rd mk lim) → all &&& mk ≠ 0 →
      exec (.eventSet u rq mask) s = .next (kept s (setTile (takePkt s (reqPkt u rq (.eventSet mask))) ph { tileAt s ph with
        event := all - (all &&& mk)
        thread := { (tileAt s ph).thread with g := (tileAt s ph).thread.g.set rd ⟨BitVec.ofNat 64 (all &&& mk), false⟩, block := none } }))))

/-- Memory requests at tiles, stand buffers and bridges (chapter 11). -/
def Obligations.MemoryRequests : Prop := TileMemoryRequests ∧ StandRequests ∧ BridgeRequests

namespace Sys2Proof.Machine

/-- A receiver of the link at port `p` of router `r` works: the core clock runs, the port exists and neither end of the link is down. -/
abbrev LinkUp (s : State) (r p : Nat) : Prop := clocked s = true ∧ p ∈ routerPorts r ∧ linkCut s r p = false

/-- The link direction that output `o` of router `r` feeds. -/
def outDir (s : State) (r o : Nat) : LinkDir := dirOf (linkAt s (feeds r o).1 (feeds r o).2.1) (feeds r o).2.2

/-- A link with one more accepted flit in a direction. -/
def accepted (l : Link) (down : Bool) : Link :=
  setDir { l with flits := if down then l.flits else (l.flits + 1) % 2 ^ 64 } down
    { dirOf l down with expect := ((dirOf l down).expect + 1) % 256, naked := false, fails := 0 }

/-- A link whose receiver has found a bad CRC and NAKs. -/
def crcFailed (l : Link) (down : Bool) : Link :=
  setDir { l with crcErrors := (l.crcErrors + 1) % 2 ^ 16, replays := if (dirOf l down).naked then l.replays else (l.replays + 1) % 2 ^ 16 } down
    { dirOf l down with naked := true, fails := (dirOf l down).fails + 1 }

end Sys2Proof.Machine

/-- A link's receiver (R336, R337): a flit whose CRC-32C agrees and whose FSEQ is the expected one is accepted, into a router's input buffer
or by a unit, which serves it or drops it with NOC_HEADER_INVALID, and the next FSEQ is expected; a bad CRC is counted and NAKed, with
LINK_RETRY the first time, and the eighth failure in a row of one flit declares the link down; a flit already accepted counts as a
duplicate; a receiver that has NAKed ignores every other flit. -/
def Sys2Proof.Machine.LinkReceivers : Prop :=
  (∀ (s : State) (r p : Nat) (f : Flit), LinkUp s r p →
    Leaves (.flitReceive r p false (linkAt s r p).rx.expect (flitCrc (linkAt s r p).rx.expect f) f) s (fun t =>
      (bufAt t r p (flitCls f) false).flits = (bufAt s r p (flitCls f) false).flits ++ [f]
      ∧ linkAt t r p = accepted (linkAt s r p) false ∧ t.flt = s.flt ∧ t.net = s.net))
  ∧ (∀ (s : State) (r p u : Nat) (f : Flit), LinkUp s r p → farEnd r p = .unit u →
    Leaves (.flitReceive r p true (linkAt s r p).tx.expect (flitCrc (linkAt s r p).tx.expect f) f) s (fun t =>
      linkAt t r p = accepted (linkAt s r p) true
      ∧ (isTile u = true → flitCls f = 1 → (bufAt t r p 1 true).used = (bufAt s r p 1 true).used - 1)
      ∧ ((isTile u = false ∨ flitCls f ≠ 1) → (bufAt t r p (flitCls f) true).owed = (bufAt s r p (flitCls f) true).owed ++ [now s + 2])
      ∧ (flitFormOk f = true → servesFlit u f = true → t.flt = s.flt)
      ∧ ((flitFormOk f = false ∨ servesFlit u f = false) → t.noc.dropped = (s.noc.dropped + 1) % 2 ^ 16
        ∧ ∃ m, t.flt.inbox = s.flt.inbox ++ [m] ∧ m.head % 1024 = Kind.nocHeaderInvalid ∧ m.detail = f.header)))
  ∧ (∀ (s : State) (r p fseq crc : Nat) (down : Bool) (f : Flit), LinkUp s r p → crc ≠ flitCrc fseq f →
    ((dirOf (linkAt s r p) down).naked = false → (dirOf (linkAt s r p) down).fails < 7 →
      Leaves (.flitReceive r p down fseq crc f) s (fun t => linkAt t r p = crcFailed (linkAt s r p) down ∧ t.noc.bufs = s.noc.bufs
        ∧ ∃ m, t.flt.inbox = s.flt.inbox ++ [m] ∧ m.head % 1024 = Kind.linkRetry ∧ m.detail = (dirOf (linkAt s r p) down).expect))
    ∧ ((dirOf (linkAt s r p) down).naked = true → fseq ≠ (dirOf (linkAt s r p) down).expect →
      exec (.flitReceive r p down fseq crc f) s = .next (kept s (setLink s r p { linkAt s r p with crcErrors := ((linkAt s r p).crcErrors + 1) % 2 ^ 16 })))
    ∧ ((dirOf (linkAt s r p) down).naked = true → fseq = (dirOf (linkAt s r p) down).expect → (dirOf (linkAt s r p) down).fails < 7 →
      exec (.flitReceive r p down fseq crc f) s = .next (kept s (setLink s r p (crcFailed (linkAt s r p) down))))
    ∧ ((dirOf (linkAt s r p) down).naked = true → fseq = (dirOf (linkAt s r p) down).expect → 7 ≤ (dirOf (linkAt s r p) down).fails →
      Leaves (.flitReceive r p down fseq crc f) s (fun t => linkAt t r p = { crcFailed (linkAt s r p) down with down := true } ∧ linkCut t r p = true
        ∧ ∃ m, t.flt.inbox = s.flt.inbox ++ [m]
          ∧ m.head % 1024 = (match farEnd r p with
            | .unit u => if isTile u then Kind.tileLinkDown else Kind.linkDown
            | .router _ _ => Kind.linkDown))))
  ∧ (∀ (s : State) (r p fseq : Nat) (down : Bool) (f : Flit), LinkUp s r p → fseq ≠ (dirOf (linkAt s r p) down).expect →
    ((dirOf (linkAt s r p) down).naked = true → exec (.flitReceive r p down fseq (flitCrc fseq f) f) s = .next (kept s s))
    ∧ ((dirOf (linkAt s r p) down).naked = false → ((dirOf (linkAt s r p) down).expect + 256 - fseq) % 256 ≤ 128 →
      exec (.flitReceive r p down fseq (flitCrc fseq f) f) s = .next (kept s (setLink s r p { linkAt s r p with dups := ((linkAt s r p).dups + 1) % 2 ^ 16 }))))

/-- A link's sender (R327, R336): a NAK makes it resend every unacknowledged flit from the one named on, an acknowledgement frees its
replay buffer through the flit named, and a sequence number of no unacknowledged flit changes nothing; a returned credit frees one slot,
and a unit's sender goes on with what waited. A unit numbers and keeps a flit where it holds a credit, has room among 64 unacknowledged
flits and resends nothing; otherwise the flit waits. -/
def Sys2Proof.Machine.LinkSenders : Prop :=
  (∀ (s : State) (r p q : Nat) (down : Bool), clocked s = true → linkCut s r p = false →
    ((∃ x ∈ sentFlits s r p down, x.1 = q) →
      exec (.linkNak r p down q) s = .next (kept s (setSent s r p down ((sentFlits s r p down).dropWhile (fun x => x.1 != q))
        ((sentFlits s r p down).dropWhile (fun x => x.1 != q))))
      ∧ exec (.linkAcknowledgement r p down q) s = .next (kept s (setSent s r p down ((sentFlits s r p down).dropWhile (fun x => x.1 != q)).tail
        ((againFlits s r p down).filter (fun x => ((sentFlits s r p down).dropWhile (fun x => x.1 != q)).tail.contains x)))))
    ∧ ((∀ x ∈ sentFlits s r p down, x.1 ≠ q) → exec (.linkNak r p down q) s = .next (kept s s) ∧ exec (.linkAcknowledgement r p down q) s = .next (kept s s)))
  ∧ (∀ (s : State) (r p : Nat) (down : Bool) (l again : List (Nat × Flit)),
    (setSent s r p down l again).noc.bufs = s.noc.bufs
    ∧ (upUnit r p down = none → sentFlits (setSent s r p down l again) r p down = l ∧ againFlits (setSent s r p down l again) r p down = again)
    ∧ (again ≠ [] → sentFlits (setSent s r p down l again) r p down = l ∧ againFlits (setSent s r p down l again) r p down = again)
    ∧ (∃ more, sentFlits (setSent s r p down l again) r p down = l ++ more))
  ∧ (∀ (safe : Bool) (dep : Nat → Nat) (x : UpSend) (f : Flit),
    (x.resend = [] → x.replay.length < 64 → x.used.getD (flitCls f) 0 < dep (flitCls f) → (safe = false ∨ flitCls f = 0) →
      upOne safe dep x f = { x with next := (x.next + 1) % 256, replay := x.replay ++ [(x.next, f)], used := x.used.set (flitCls f) (x.used.getD (flitCls f) 0 + 1) })
    ∧ ((x.resend ≠ [] ∨ 64 ≤ x.replay.length ∨ dep (flitCls f) ≤ x.used.getD (flitCls f) 0 ∨ (safe = true ∧ flitCls f ≠ 0)) →
      upOne safe dep x f = { x with waiting := x.waiting ++ [f] }))
  ∧ (∀ (s : State) (r p cls x : Nat) (toUnit : Bool) (l : List Nat), clocked s = true → (bufAt s r p cls toUnit).owed = x :: l → x ≤ now s →
    (upUnit r p toUnit = none →
      exec (.creditReturn r p cls toUnit) s = .next (kept s (setBuf s r p cls toUnit { bufAt s r p cls toUnit with owed := l, used := (bufAt s r p cls toUnit).used - 1 })))
    ∧ (∀ u, upUnit r p toUnit = some u →
      exec (.creditReturn r p cls toUnit) s = .next (kept s { setBuf s r p cls toUnit { bufAt s r p cls toUnit with owed := l, used := (bufAt s r p cls toUnit).used - 1 } with
        ups := SMap.put {} s.ups u (upSend (inSafe s) (inDepth r p) { (SMap.get {} s.ups u) with
          used := (SMap.get {} s.ups u).used.set cls ((SMap.get {} s.ups u).used.getD cls 0 - 1) } []) })))

/-- Routers (R320, R325, R327, R332, R344, R345): a router sends the flit that its output picks, numbered and kept, with a credit used,
and the flit leaves its input when every output that it must reach has it; flits to resend go first; the head flit of a packet being dropped
leaves, and one with a bad header is dropped with NOC_HEADER_INVALID; an uncorrectable error drops or poisons what it hits. MGMT goes before
the other classes, and in Safe nothing else moves; an output picks only a class that can be sent. -/
def Sys2Proof.Machine.Routers : Prop :=
  (∀ (s s1 : State) (r o i c : Nat) (f : Flit) (l : List Flit) (alive : Bool), clocked s = true → o ∈ routerPorts r → cutHead s r = none → badHead s r = none →
      (outDir s r o).resend = [] → pickFlit s r o = some (c, i) → meetFlitErr s r i c = (s1, alive) →
    (alive = false → exec (.routerForward r o) s = .next (kept s s1))
    ∧ (alive = true → (bufAt s1 r i c false).flits = f :: l → flitCls f = c → i ∈ routerPorts r →
      Leaves (.routerForward r o) s (fun t =>
        (outDir t r o).replay = (outDir s r o).replay ++ [((outDir s r o).next, f)] ∧ (outDir t r o).next = ((outDir s r o).next + 1) % 256
        ∧ (bufAt t (feeds r o).1 (feeds r o).2.1 c (feeds r o).2.2).used = (bufAt s (feeds r o).1 (feeds r o).2.1 c (feeds r o).2.2).used + 1
        ∧ ((∀ x ∈ flitOuts s1 r f, x = o ∨ x ∈ (bufAt s1 r i c false).sentTo) → (bufAt t r i c false).flits = l
          ∧ (bufAt t r i c false).owed = (bufAt s1 r i c false).owed ++ [now s + 2])
        ∧ ((∃ x ∈ flitOuts s1 r f, x ≠ o ∧ x ∉ (bufAt s1 r i c false).sentTo) → (bufAt t r i c false).flits = f :: l
          ∧ (bufAt t r i c false).sentTo = o :: (bufAt s1 r i c false).sentTo)
        ∧ outAt t r o = servedOut (outAt s r o) c i (headLeft (bufAt s1 r i c false) f)
        ∧ t.flt = s1.flt)))
  ∧ (∀ (s : State) (r o : Nat), clocked s = true → o ∈ routerPorts r →
    (∀ i c, cutHead s r = some (i, c) → exec (.routerForward r o) s = .next (kept s (popBuf s r i c)))
    ∧ (∀ i c f, cutHead s r = none → badHead s r = some (i, c, f) →
      exec (.routerForward r o) s = .next (kept s (dropFlit s r i c Kind.nocHeaderInvalid f (some (flitPart f)))))
    ∧ (∀ x l, cutHead s r = none → badHead s r = none → (outDir s r o).resend = x :: l →
      exec (.routerForward r o) s = .next (kept s (setLink s (feeds r o).1 (feeds r o).2.1 (setDir (linkAt s (feeds r o).1 (feeds r o).2.1) (feeds r o).2.2
        { outDir s r o with resend := l })))))
  ∧ (∀ (s : State) (r i c kind : Nat) (f : Flit) (part : Option Nat), i < 64 → c < 4 →
    (bufAt (dropFlit s r i c kind f part) r i c false).flits = (bufAt s r i c false).flits.tail
    ∧ (dropFlit s r i c kind f part).noc.dropped = (s.noc.dropped + 1) % 2 ^ 16
    ∧ (dropFlit s r i c kind f part).noc.links = s.noc.links
    ∧ ∃ m, (dropFlit s r i c kind f part).flt.inbox = s.flt.inbox ++ [m] ∧ m.detail = f.header)
  ∧ (∀ (s : State) (r i c : Nat) (f : Flit) (l : List Flit), (bufAt s r i c false).flits = f :: l →
    ((bufAt s r i c false).err = 0 → meetFlitErr s r i c = (s, true))
    ∧ ((bufAt s r i c false).err = 1 → (meetFlitErr s r i c).2 = true ∧ (bufAt (meetFlitErr s r i c).1 r i c false).flits = f :: l
      ∧ (meetFlitErr s r i c).1.noc.bufCorrected = (s.noc.bufCorrected + 1) % 2 ^ 16)
    ∧ ((bufAt s r i c false).err = 3 ∨ (bufAt s r i c false).err = 4 → (meetFlitErr s r i c).2 = false ∧ (bufAt (meetFlitErr s r i c).1 r i c false).flits = l
      ∧ (meetFlitErr s r i c).1.noc.bufUncorrected = (s.noc.bufUncorrected + 1) % 2 ^ 16)
    ∧ (8 ≤ (bufAt s r i c false).err → (meetFlitErr s r i c).2 = true
      ∧ (bufAt (meetFlitErr s r i c).1 r i c false).flits = poisonWord f ((bufAt s r i c false).err % 8) :: l))
  ∧ (∀ (s : State) (r o c i : Nat), pickFlit s r o = some (c, i) → outReady s r o c = true ∧ pickInput s r o c = some i
    ∧ (c ≠ 0 → inSafe s = false ∧ (outReady s r o 0 = false ∨ pickInput s r o 0 = none)))

/-- Links and routers (chapter 11). -/
def Obligations.LinksAndRouters : Prop := LinkReceivers ∧ LinkSenders ∧ Routers

namespace Sys2Proof.Machine

/-- A management packet to unit `u` reaches it. -/
abbrev MgmtReaches (s : State) (p : Packet) : Prop := clocked s = true ∧ isUnit p.dest = true ∧ arrivable s p = true

/-- The fault message of an abandoned request. -/
def timeoutMsg (s : State) (o : OutReq) (r6 : Bool) : FaultMsg :=
  ⟨now s % 2 ^ 64, faultHead Kind.e2eTimeout (rqId o.unit o.sub) o.unit (some o.part) none, o.target % 2 ^ 12 + 2 ^ 19 + 2 ^ 20 * b2n r6, reqHeader o⟩

/-- The bytes of a 64-bit register at `o` that part `x` of a write covers: offset, size and value. -/
def partWrite (o : Nat) : RegPart → Nat × Nat × Nat
  | .whole v => (o, 8, v)
  | .low v => (o, 4, v)
  | .high v => (o + 4, 4, v)

/-- The value that a register at `o` takes from part `x` of a write. -/
def newWord (s : State) (o : Nat) (x : RegPart) : Nat :=
  (written ((bar0Word s o).getD 0) (partWrite o x).1 (partWrite o x).2.1 (partWrite o x).2.2).1

/-- The offset of a register of probe `k`. -/
def probeOff (k : Nat) (reg : ProbeReg) : Nat := 0x200100 + 0x20 * k + (match reg with
  | .sel => 0
  | .matchReg => 8
  | .id => 16)

end Sys2Proof.Machine

/-- Timers of requests (R340, R341): a request whose timer expires is sent again with the same tag while it may be repeated; otherwise it is
abandoned, with a record and a count, and its operation ends: an instruction that waits for a result gets status TIMEOUT, a memory access
ends its node or raises the record alone, a placement read is asked again. -/
def Sys2Proof.Machine.RequestTimers : Prop :=
  (∀ (s : State) (unit sub part target tag : Nat) (o : OutReq), unitRuns s unit = true → o.unit = unit →
      outAtTag s unit sub part target tag (fun o => match o.timer with
        | some t => decide (t ≤ unitNow s unit)
        | none => false) = some o →
    (neverOp o.body = false → o.waited = false → o.repeats < s.noc.repeats →
      exec (.e2eTimerExpiry unit (.request sub part target tag)) s = .next (sentAgain s o (fun o => { o with repeats := o.repeats + 1 })))
    ∧ (neverOp o.body = false → o.waited = true →
      exec (.e2eTimerExpiry unit (.request sub part target tag)) s = .next (sentAgain s o (fun o => o)))
    ∧ ((neverOp o.body = true ∨ (o.waited = false ∧ s.noc.repeats ≤ o.repeats)) →
      exec (.e2eTimerExpiry unit (.request sub part target tag)) s = .next (kept s (flushWait (abandonReq { s with outs := s.outs.erase o } o false)))))
  ∧ (∀ (s x : State) (o : OutReq) (r6 : Bool), x = { s with noc := { s.noc with e2eTimeouts := (s.noc.e2eTimeouts + 1) % 2 ^ 16 } } →
    (∀ rd, (o.use = .result rd ∨ (∃ b, o.use = .spawn rd b) ∨ o.use = .take rd) →
      abandonReq s o r6 = unblock (raiseMsg x (timeoutMsg s o r6)) o rd (resultWord true 0 0x0B))
    ∧ (o.use.memory = true → issuerRuns s o = false → abandonReq s o r6 = raiseMsg x (timeoutMsg s o r6))
    ∧ (o.use.memory = true → issuerRuns s o = true → o.unit < s.tiles.length →
      (tileAt (abandonReq s o r6) o.unit).thread.running = false
      ∧ (tileAt (abandonReq s o r6) o.unit).thread.abandoned = ((tileAt s o.unit).thread.abandoned + 1) % 2 ^ 32)
    ∧ (∀ vt, o.use = .fill vt → abandonReq s o r6 = reaskPlace (raiseMsg x (timeoutMsg s o r6)) o vt))

/-- Token acknowledgements (R588): a TOKEN_ACK accepts the oldest packets that its receiver, a tile or the release gate, has sent to the
acknowledging tile, and any other unit drops it; when the sender's timer expires, E2E_TIMEOUT is raised and all its packets count as
accepted. -/
def Sys2Proof.Machine.TokenAcks : Prop :=
  (∀ (s : State) (u src part n : Nat) (p : Packet), p = { cls := 0, dest := u, src := src, part := part, tag := 0, body := .tokenAck n } → MgmtReaches s p →
    (u < 0x110 → u < s.tiles.length →
      Leaves (.tokenAck u src part n) s (fun t =>
        (∀ q ∈ (tileAt t u).ackPend, q ∈ (tileAt s u).ackPend)
        ∧ (tileAt t u).ackPend.length + min n ((tileAt s u).ackPend.filter (fun q => decide (steer s q.dest = src / 4) || decide (q.dest = src / 4))).length
            = (tileAt s u).ackPend.length
        ∧ (tileAt t u).ackTimer = (if (tileAt t u).ackPend = [] then none else some (tileNow s + e2eLimit s))
        ∧ (tileAt t u).thread = (tileAt s u).thread ∧ t.flt = s.flt))
    ∧ (u = 0x305 → exec (.tokenAck u src part n) s = .next (kept s (gateAck (takePkt s p) (src / 4) n)))
    ∧ (0x110 ≤ u → u ≠ 0x305 → exec (.tokenAck u src part n) s = .next (kept s (dropPkt s u p))))
  ∧ (∀ (s : State) (u x : Nat) (p : Packet) (l : List Packet), u < 0x110 → tileRuns s u = true → (tileAt s u).ackPend = p :: l → (tileAt s u).ackTimer = some x →
      x ≤ tileNow s → u < s.tiles.length →
    Leaves (.e2eTimerExpiry u .tokenAck) s (fun t => (tileAt t u).ackPend = [] ∧ (tileAt t u).ackTimer = none ∧ t.net = s.net
      ∧ ∃ m, t.flt.inbox = s.flt.inbox ++ [m] ∧ m.head % 1024 = Kind.e2eTimeout ∧ m.detail = packetHeader p))
  ∧ (∀ (s : State) (x : Nat) (p : Packet × Nat) (l : List (Packet × Nat)), working s = true → s.trl.acks = p :: l → s.trl.ackTimer = some x → x ≤ now s →
    exec (.e2eTimerExpiry 0x305 .tokenAck) s = .next (kept s (gateAckAll (raise s Kind.e2eTimeout (rqId 0x305 0) (some p.1.part)
      (p.1.dest % 2 ^ 12 + 2 ^ 18) (packetHeader p.1)))))
  ∧ (∀ (s : State) (u n : Nat), (gateAckAll s).trl.acks = [] ∧ (gateAckAll s).trl.ackTimer = none
    ∧ (gateAck s u n).trl.acks.length + min n (s.trl.acks.filter (fun x => decide (steer s x.1.dest = u))).length = s.trl.acks.length)

/-- Purges (R342, R345): a target removes the requester's entries of the partition and acknowledges, and another unit drops the purge; the
requester notes each acknowledgement, the last of which ends the purge, and outside Safe sends what waited. -/
def Sys2Proof.Machine.Purges : Prop :=
  (∀ (s : State) (target src rq part : Nat) (p : Packet), p = { cls := 0, dest := target, src := src, part := part, tag := 0, body := .replayPurge rq part } →
      MgmtReaches s p →
    (target ∈ replayTargets →
      Leaves (.replayPurge target src rq part) s (fun t => (∀ e ∈ t.replays, e.target = target → e.src = rq → e.part ≠ part)
        ∧ (∀ e ∈ s.replays, (e.target ≠ target ∨ e.src ≠ rq ∨ e.part ≠ part) → e ∈ t.replays)
        ∧ t.net = (takePkt s p).net ++ [{ cls := 0, dest := src / 4, src := rqId target 0, part := part, tag := 0, body := .replayPurgeAck rq part }]))
    ∧ (target ∉ replayTargets → exec (.replayPurge target src rq part) s = .next (kept s (dropPkt s target p))))
  ∧ (∀ (s x : State) (unit target rq part : Nat) (p : Packet), p = { cls := 0, dest := unit, src := rqId target 0, part := part, tag := 0, body := .replayPurgeAck rq part } →
      clocked s = true → arrivable s p = true →
      x = { takePkt s p with purges := (s.purges.map (fun q => if q.src = rq ∧ q.part = part then { q with await := q.await.erase target } else q)).filter (fun q => !q.await.isEmpty) } →
    (inSafe s = true → exec (.replayPurgeAck unit target rq part) s = .next (kept s x))
    ∧ (inSafe s = false → exec (.replayPurgeAck unit target rq part) s = .next (kept s (flushWait x))))
  ∧ (∀ s : State, (s.sendWait = [] → flushWait s = s)
    ∧ (∀ o, s.sendWait = [o] → cachedOp o.body = true →
      (windowOpen s (rqId o.unit o.sub) o.part o.target = true → flushWait s = sendNow { s with sendWait := [] } o)
      ∧ (windowOpen s (rqId o.unit o.sub) o.part o.target = false → flushWait s = s)))

/-- Timers, acknowledgements and purges (chapter 11). -/
def Obligations.TimersAndPurges : Prop := RequestTimers ∧ TokenAcks ∧ Purges

/-- Probes and scrubbing (R344, R348, R349, R459, R466, R525): a write of a probe's register, whole or by halves, that is accepted writes its
fields, and setting ENABLE clears the count; one that changes more than ENABLE while ENABLE is 1, names no router port, unit or requester, or
sets CAPTURE 3 is refused with reason 5; a write of CAP_CTRL sets its fields, and setting ENABLE clears CAP_STAT; the firmware learns the
status of its write. An idle scrub meets the stored error of the flit at the head of a buffer, of a stand buffer's word, or of the partition
tables. -/
def Obligations.ProbesAndScrubs : Prop :=
  (∀ (s : State) (b k : Nat) (reg : ProbeReg) (x : RegPart), k < 16 → accessorPresent s (.fn b 0) = true → inSafe s = false →
    (probeOk (s.noc.probes.getD k {}) reg (newWord s (probeOff k reg) x) = true →
      exec (.probeSelWrite (.fn b 0) k reg x) s = .next (kept s (probeWrite s k reg (newWord s (probeOff k reg) x))))
    ∧ (probeOk (s.noc.probes.getD k {}) reg (newWord s (probeOff k reg) x) = false →
      exec (.probeSelWrite (.fn b 0) k reg x) s = .next (logAccess s b 0 (partWrite (probeOff k reg) x).1 5)))
  ∧ (∀ (s : State) (k : Nat) (reg : ProbeReg) (x : RegPart), k < 16 → fwRuns s = true → clocked s = true →
    (probeOk (s.noc.probes.getD k {}) reg (newWord s (probeOff k reg) x) = true →
      exec (.probeSelWrite .supervisor k reg x) s = .next (kept s (emit (probeWrite s k reg (newWord s (probeOff k reg) x)) (.fwStatus true))))
    ∧ (probeOk (s.noc.probes.getD k {}) reg (newWord s (probeOff k reg) x) = false →
      exec (.probeSelWrite .supervisor k reg x) s = .next (kept s (emit s (.fwStatus false)))))
  ∧ (∀ (s : State) (o v : Nat), o % 8 = 0 → v < 2 ^ 64 → newWord s o (.whole v) = v)
  ∧ (∀ (s : State) (k v : Nat) (reg : ProbeReg), k < s.noc.probes.length →
    ((s.noc.probes.getD k {}).enable = false → reg = .sel → bit v 63 = true →
      (probeWrite s k reg v).noc.probes = s.noc.probes.set k { probeFields (s.noc.probes.getD k {}) .sel v with count := 0 })
    ∧ ((reg ≠ .sel ∨ (s.noc.probes.getD k {}).enable = true ∨ bit v 63 = false) →
      (probeWrite s k reg v).noc.probes = s.noc.probes.set k (probeFields (s.noc.probes.getD k {}) reg v)))
  ∧ (∀ (k : Probe) (v : Nat),
    (k.enable = true → k.classMask ≠ bits v 63 60 → probeOk k .matchReg v = false)
    ∧ (bits v 62 61 = 3 → probeOk k .sel v = false)
    ∧ (bits v 59 54 ∉ routerPorts (bits v 53 42) → probeOk k .sel v = false)
    ∧ (isUnit (bits v 35 24) = false → probeOk k .id v = false)
    ∧ (isUnit (bits v 63 50 / 4) = false → probeOk k .id v = false)
    ∧ (k.enable = false → probeOk k .matchReg v = true))
  ∧ (∀ (s : State) (b : Nat) (x : RegPart), accessorPresent s (.fn b 0) = true → inSafe s = false →
    exec (.capCtrlWrite (.fn b 0) x) s = .next (kept s (Machine.capCtrlWrite s (newWord s 0x200400 x))))
  ∧ (∀ (s : State) (v : Nat), (Machine.capCtrlWrite s v).noc.capEnable = bit v 63 ∧ (Machine.capCtrlWrite s v).noc.capMode = bit v 62
    ∧ (Machine.capCtrlWrite s v).noc.trigEn = bit v 61 ∧ (Machine.capCtrlWrite s v).noc.trigProbe = bits v 60 57 ∧ (Machine.capCtrlWrite s v).noc.post = bits v 56 45
    ∧ (Machine.capCtrlWrite s v).noc.capMem = s.noc.capMem
    ∧ (bit v 63 = true → s.noc.capEnable = false → (Machine.capCtrlWrite s v).noc.capPtr = 0 ∧ (Machine.capCtrlWrite s v).noc.capLost = 0
      ∧ (Machine.capCtrlWrite s v).noc.capStopped = false ∧ (Machine.capCtrlWrite s v).noc.capTriggered = false ∧ (Machine.capCtrlWrite s v).noc.capWrapped = false)
    ∧ ((bit v 63 = false ∨ s.noc.capEnable = true) → (Machine.capCtrlWrite s v).noc.capPtr = s.noc.capPtr ∧ (Machine.capCtrlWrite s v).noc.capLost = s.noc.capLost
      ∧ (Machine.capCtrlWrite s v).noc.capStopped = s.noc.capStopped))
  ∧ (∀ (s : State), clocked s = true →
    (∀ r p cls, exec (.idleScrub (.buffer r p cls)) s = .next (kept s (meetFlitErr s r p cls).1))
    ∧ (s.prt.err = 1 → exec (.idleScrub .partitionTables) s = .next (raise { s with prt := { s.prt with err := 0 } } Kind.partitionTableCorrected (rqId 0x30A 0) none 0 0))
    ∧ (s.prt.err = 2 → exec (.idleScrub .partitionTables) s = .next (raise { s with prt := { s.prt with err := 3 } } Kind.partitionTableUncorrectable (rqId 0x30A 0) none 0 0))
    ∧ (∀ k w, working s = true → k < 4 → k < s.sts.length → SMap.get 0 (stsAt s k).err w = 1 →
      Leaves (.idleScrub (.standBuffer k w)) s (fun t => SMap.get 0 (stsAt t k).err w = 0 ∧ (stsAt t k).mem = (stsAt s k).mem ∧ (stsAt t k).poison = (stsAt s k).poison
        ∧ (stsAt t k).corrected = ((stsAt s k).corrected + 1) % 2 ^ 16 ∧ ∃ m, t.flt.inbox = s.flt.inbox ++ [m] ∧ m.head % 1024 = Kind.standBufferCorrected))
    ∧ (∀ k w, working s = true → k < 4 → k < s.sts.length → 2 ≤ SMap.get 0 (stsAt s k).err w →
      Leaves (.idleScrub (.standBuffer k w)) s (fun t => SMap.get 0 (stsAt t k).err w = 0 ∧ NSet.has (stsAt t k).poison w = true
        ∧ (stsAt t k).uncorrected = ((stsAt s k).uncorrected + 1) % 2 ^ 16 ∧ (stsAt t k).lastLine = w / 8
        ∧ ∃ m, t.flt.inbox = s.flt.inbox ++ [m] ∧ m.head % 1024 = Kind.standBufferUncorrectable)))

namespace Sys2Proof.Machine

/-- The command of a lock operation. -/
def lockCmd (rq : Rq) (r : LockReq) : Instr := match r.op with
  | .acquire => .acquire rq r.word r.slot
  | .try_ => .tryLock rq r.word r.slot
  | .release => .release rq r.word r.slot
  | .semAcquire => .semAcquire rq r.word r.slot
  | .semRelease => .semRelease rq r.word r.slot
  | .cancel => .cancel rq r.word r.slot
  | .force => .force rq r.word r.slot

/-- The state in which a lock operation is evaluated: its cell's and its waiters' stored errors met, and the operation counted. -/
def lockMet (s : State) (r : LockReq) : State :=
  { meetLockErrs s (lqCell r) with lck := { (meetLockErrs s (lqCell r)).lck with ops := ((meetLockErrs s (lqCell r)).lck.ops + 1) % 2 ^ 32 } }

/-- A lock operation that the checks of R356 turn away: its answer changes nothing, and its record is raised. -/
def lockTurned (m : State) (rq : Rq) (r : LockReq) (kind status : Nat) : Eval :=
  { st := raise m kind (rqId 0x304 0) (some rq.part) (lockAddr (lqCell r) (lockOpCode r.op)) rq.src
    ans := some (.result (resultWord true 0 status)), changed := false }

/-- The group's rights for a requester: the group is the requester's partition's and lets its kind of requester in. -/
def lockRights (m : State) (rq : Rq) (r : LockReq) : Bool :=
  (lockGroup m (lqCell r / 64)).valid && decide ((lockGroup m (lqCell r / 64)).part = rq.part)
  && (if isTile (rq.src / 4) then (lockGroup m (lqCell r / 64)).node else (lockGroup m (lqCell r / 64)).host)

/-- A waiter's final answer is in the network. -/
def waiterAnswered (t : State) (w : LockWait) (fail : Bool) (value status : Nat) : Prop := rspOf 0x304 w.rq (.result (resultWord fail value status)) ∈ t.net

/-- The state in which waiter `w` has left the pool with this answer. -/
def waiterLeaves (s : State) (w : LockWait) (fail : Bool) (value status : Nat) : State := waitAnswer (dropWait s w) w fail value status

/-- The answer of a lock operation that leaves state `t`, changed, with this value and status. -/
def lockDone (t : State) (value status : Nat) : Eval := { st := t, ans := some (.result (resultWord false value status)) }

end Sys2Proof.Machine

/-- The evaluation of a lock operation (R355, R356, R366, R367): every one is answered with its result, which the replay cache keeps where the
operation changed state, or waits; during a slice of the lock unit one that the cache does not hold is told to retry. A requester that may
not use the operation or the group is answered RIGHTS_DENIED and a malformed operation FIELD_ERROR, each with its record and no other
effect; every other one has its outcome. -/
def Sys2Proof.Machine.LockRequests : Prop :=
  (∀ (s : State) (rq : Rq) (r : LockReq) (v : Eval), ReachesNew s 0x304 rq (.lockOp r) → v = lockEval (takePkt s (reqPkt 0x304 rq (.lockOp r))) rq r →
    (∀ a, v.ans = some a → v.changed = true → exec (lockCmd rq r) s = .next (kept s (answeredKept v.st 0x304 rq a)))
    ∧ (∀ a, v.ans = some a → v.changed = false → exec (lockCmd rq r) s = .next (kept s (respond v.st 0x304 rq a)))
    ∧ (v.ans = none → v.changed = true → exec (lockCmd rq r) s = .next (kept s (respond (replayAdd v.st 0x304 rq none) 0x304 rq .wait))))
  ∧ (∀ (s : State) (rq : Rq) (r : LockReq) (left : Nat), working s = true → arrivable s (reqPkt 0x304 rq (.lockOp r)) = true → sliceLeft s 0x304 = some left →
      (∀ e ∈ s.replays, e.is 0x304 rq = false) →
    exec (lockCmd rq r) s = .next (kept s (respond (takePkt s (reqPkt 0x304 rq (.lockOp r))) 0x304 rq (.busyRetry (left + 16)))))
  ∧ (∀ (s m : State) (rq : Rq) (r : LockReq), m = lockMet s r →
    (lockSource rq.src r.op = false → lockEval s rq r = lockTurned m rq r Kind.lockRightsViolation 0x10)
    ∧ (lockSource rq.src r.op = true → r.op ≠ .force → lockRights m rq r = false → lockEval s rq r = lockTurned m rq r Kind.lockRightsViolation 0x10)
    ∧ (lockSource rq.src r.op = true → (r.op = .force ∨ lockRights m rq r = true) →
      (lockFieldsOk (lockGroup m (lqCell r / 64)) rq.src r = false → lockEval s rq r = lockTurned m rq r Kind.lockOpInvalid 0x11)
      ∧ (lockFieldsOk (lockGroup m (lqCell r / 64)) rq.src r = true → lockEval s rq r = lockOutcome m rq r)))
  ∧ (∀ (s : State) (r : LockReq), (cellAt s (lqCell r)).err = 0 → (∀ w ∈ s.lck.waits, w.err = 0) →
    lockMet s r = { s with lck := { s.lck with ops := (s.lck.ops + 1) % 2 ^ 32 } })

/-- Mutexes (R357 to R359, R362, Table 12.4): ACQUIRE and TRY of a FREE cell grant it, and of an ORPHANED cell grant it with status
LOCK_ORPHANED or refuse it by the group's policy; ACQUIRE of another's cell joins the tail of its queue, or finds no pool entry, and of
one's own is refused; TRY of a HELD cell answers LOCK_BUSY with the owner, and may leave a watch. RELEASE by the owner passes the cell to
the head waiter, who is answered, or frees it and wakes its watches; by anyone else it is refused with NOT_OWNER and its record. -/
def Sys2Proof.Machine.Mutexes : Prop :=
  ∀ (m : State) (rq : Rq) (r : LockReq) (n : Nat), n = lqCell r →
    ((r.op = .acquire ∨ r.op = .try_) →
      ((cellAt m n).state = 0 → lockOutcome m rq r = lockDone (holdCell m n rq.src r.slot) 0 0)
      ∧ (2 ≤ (cellAt m n).state → (cellAt m n).handover = true → lockOutcome m rq r = lockDone (holdCell m n rq.src r.slot) 0 4)
      ∧ (2 ≤ (cellAt m n).state → (cellAt m n).handover = false → lockOutcome m rq r = lockNo m 0 0x19))
    ∧ (r.op = .acquire → (cellAt m n).state = 1 →
      ((cellAt m n).owner = rq.src → (cellAt m n).slot = r.slot → lockOutcome m rq r = lockNo m 0 0x18)
      ∧ (((cellAt m n).owner ≠ rq.src ∨ (cellAt m n).slot ≠ r.slot) → lockOutcome m rq r = joinQueue m rq r))
    ∧ (r.op = .try_ → (cellAt m n).state = 1 → lockOutcome m rq r = lockBusy m rq r (cellAt m n).owner)
    ∧ (poolRoom m rq.part = true → joinQueue m rq r = { st := takeWait m { cell := n, rq := rq, slot := r.slot, units := lqAmount r, deadline := if lqLimit r = 0 then none else some (now m + 256 * lqLimit r) }, ans := none })
    ∧ (poolRoom m rq.part = false → joinQueue m rq r = lockNo m (waitValue m n) 0x09)
    ∧ (∀ v, (lqWake r = false ∨ poolRoom m rq.part = false ∨ (∃ w ∈ watchesOf m n, w.rq.src / 4 = rq.src / 4)) → lockBusy m rq r v = lockNo m v 0x18)
    ∧ (∀ v, lqWake r = true → poolRoom m rq.part = true → (∀ w ∈ watchesOf m n, w.rq.src / 4 ≠ rq.src / 4) →
      lockBusy m rq r v = { st := takeWait m { cell := n, rq := rq, watch := true }, ans := some (.result (resultWord true v 0x18)) })
    ∧ (r.op = .release → (cellAt m n).state ≠ 0 → (cellAt m n).owner = rq.src → (cellAt m n).slot = r.slot → lockOutcome m rq r = lockDone (passCell m n 0) 0 0)
    ∧ (r.op = .release → ((cellAt m n).state = 0 ∨ (cellAt m n).owner ≠ rq.src ∨ (cellAt m n).slot ≠ r.slot) →
      lockOutcome m rq r = lockNo (raise m Kind.lockNotOwner (rqId 0x304 0) (some rq.part) (lockAddr n 3) rq.src) 0 0x1A)
    ∧ (∀ status,
      (waitersOf m n = [] → (cellAt (passCell m n status) n).state = 0 ∧ (∀ k, k ≠ n → cellAt (passCell m n status) k = cellAt m k)
        ∧ watchesOf (passCell m n status) n = []
        ∧ (∀ w ∈ watchesOf m n, ∃ p ∈ (passCell m n status).net, p.dest = w.rq.src / 4 ∧ p.part = w.rq.part ∧ p.body = .eventSet 1))
      ∧ (∀ w l, waitersOf m n = w :: l → (cellAt (passCell m n status) n).state = 1 ∧ (cellAt (passCell m n status) n).owner = w.rq.src
        ∧ (cellAt (passCell m n status) n).slot = w.slot ∧ (passCell m n status).lck.waits = m.lck.waits.erase w
        ∧ (∀ k, k ≠ n → cellAt (passCell m n status) k = cellAt m k)
        ∧ waiterAnswered (passCell m n status) w false 0 status))

/-- Semaphores, cancelling and forcing (R357, R359, R362, R365): SEM_ACQUIRE takes its units where nobody waits and enough are left, otherwise
joins the queue or, with NOWAIT, answers LOCK_BUSY; SEM_RELEASE adds them and serves the waiters from the head for as long as the head's
AMOUNT fits, and beyond 65,535 is refused with its record; CANCEL ends the requester's oldest wait; FORCE passes or frees a mutex, gives a
semaphore its INIT, and raises LOCK_FORCED, and changes nothing that is free or at INIT with nobody to serve. -/
def Sys2Proof.Machine.Semaphores : Prop :=
  (∀ (m : State) (rq : Rq) (r : LockReq) (n : Nat), n = lqCell r →
    (r.op = .semAcquire →
      (waitersOf m n = [] → lqAmount r ≤ (cellAt m n).count →
        lockOutcome m rq r = lockDone (countGrant (setCell m n { cellAt m n with count := (cellAt m n).count - lqAmount r })) ((cellAt m n).count - lqAmount r) 0)
      ∧ ((waitersOf m n ≠ [] ∨ (cellAt m n).count < lqAmount r) →
        (lqNowait r = true → lockOutcome m rq r = lockBusy m rq r (cellAt m n).count)
        ∧ (lqNowait r = false → lockOutcome m rq r = joinQueue m rq r)))
    ∧ (r.op = .semRelease →
      ((cellAt m n).count + lqAmount r ≤ 65535 → ∀ t, t = serveSems (setCell m n { cellAt m n with count := (cellAt m n).count + lqAmount r }) n →
        lockOutcome m rq r = lockDone t (cellAt t n).count 0)
      ∧ (65535 < (cellAt m n).count + lqAmount r →
        lockOutcome m rq r = lockNo (raise m Kind.lockCountOverflow (rqId 0x304 0) (some rq.part) (lockAddr n 5) rq.src) (cellAt m n).count 0x1B))
    ∧ (r.op = .cancel →
      (∀ w, (waitersOf m n).find? (fun w => decide (w.rq.src = rq.src) && decide (w.rq.part = rq.part)) = some w →
        lockOutcome m rq r = lockDone (waiterLeaves m w true (waitValue m n) 0x0B) 1 0)
      ∧ ((∀ w ∈ waitersOf m n, w.rq.src ≠ rq.src ∨ w.rq.part ≠ rq.part) → lockOutcome m rq r = { st := m, ans := some (.result (resultWord false 0 0)), changed := false }))
    ∧ (r.op = .force → (lockGroup m (n / 64)).mode = false →
      ((cellAt m n).state = 0 → lockOutcome m rq r = { st := m, ans := some (.result (resultWord false 0 0)), changed := false })
      ∧ ((cellAt m n).state ≠ 0 → lockOutcome m rq r = lockDone (raise (passCell m n 4) Kind.lockForced (rqId 0x304 0)
        (if (lockGroup m (n / 64)).valid then some (lockGroup m (n / 64)).part else none) (lockAddr n 7) rq.src) 0 0))
    ∧ (r.op = .force → (lockGroup m (n / 64)).mode = true → waitersOf m n = [] →
      ((cellAt m n).count = (cellAt m n).init → lockOutcome m rq r = { st := m, ans := some (.result (resultWord false 0 0)), changed := false })
      ∧ ((cellAt m n).count ≠ (cellAt m n).init → (cellAt (lockOutcome m rq r).st n).count = (cellAt m n).init
        ∧ (lockOutcome m rq r).ans = some (.result (resultWord false 0 0)) ∧ (lockOutcome m rq r).changed = true
        ∧ (∃ g ∈ (lockOutcome m rq r).st.flt.inbox, g.head % 1024 = Kind.lockForced)
        ∧ ((cellAt m n).count < (cellAt m n).init → watchesOf (lockOutcome m rq r).st n = [])))
    ∧ (∀ x, r.op = .force → (lockGroup m (n / 64)).mode = true → x = grantSems (setCell m n { cellAt m n with count := (cellAt m n).init }) n (waitersOf m n).length →
      ((cellAt m n).count ≠ (cellAt m n).init ∨ (waitersOf x n).length ≠ (waitersOf m n).length) →
      lockOutcome m rq r = lockDone (raise (if (cellAt m n).count < (cellAt m n).init ∧ (waitersOf x n).isEmpty then wakeWatches x n else x) Kind.lockForced (rqId 0x304 0)
        (if (lockGroup m (n / 64)).valid then some (lockGroup m (n / 64)).part else none) (lockAddr n 7) rq.src) 0 0))
  ∧ (∀ (s : State) (n : Nat),
    (waitersOf s n = [] → serveSems s n = wakeWatches s n)
    ∧ (∀ w l, waitersOf s n = w :: l →
      ((cellAt s n).count < w.units → serveSems s n = s)
      ∧ (w.units ≤ (cellAt s n).count → serveSems s n = serveSems (waitAnswer (countGrant (setCell (dropWait s w) n
          { cellAt s n with count := (cellAt s n).count - w.units })) w false ((cellAt s n).count - w.units) 0) n)))
  ∧ (∀ (s : State) (w : LockWait) (fail : Bool) (v st : Nat), (waiterLeaves s w fail v st).lck.waits = s.lck.waits.erase w
    ∧ (waiterLeaves s w fail v st).lck.cells = s.lck.cells ∧ waiterAnswered (waiterLeaves s w fail v st) w fail v st)

/-- Limits and orphans (R360, R363, R367): a waiter whose limit has passed leaves with TIMEOUT; ORPHAN_NOTIFY drops its requester's waiters
and watches and makes each mutex cell that it holds ORPHANED under its group's policy, whose waiters are then served, and raises
LOCK_CELL_ORPHANED with the number of cells; during a slice it is held. Under the policy that hands over, the head waiter gets the cell with
status LOCK_ORPHANED; under the other, every waiter is refused. -/
def Sys2Proof.Machine.LimitsAndOrphans : Prop :=
  (∀ (s : State) (rq : Rq) (w : LockWait) (d : Nat), working s = true → sliceLeft s 0x304 = none →
      s.lck.waits.find? (fun w => !w.watch && decide (w.rq = rq)) = some w → w.deadline = some d → d ≤ now s →
    exec (.lockWaitLimit rq) s = .next (kept s (waiterLeaves s w true (waitValue s w.cell) 0x0B)))
  ∧ (∀ (s : State) (src rq part : Nat) (p : Packet), p = { cls := 0, dest := 0x304, src := src, part := part, tag := 0, body := .orphanNotify rq part } →
      clocked s = true → arrivable s p = true →
    (sliceLeft s 0x304 = none → exec (.orphanNotify src rq part) s = .next (kept s (orphan (takePkt s p) rq part)))
    ∧ (∀ left, sliceLeft s 0x304 = some left →
      exec (.orphanNotify src rq part) s = .next { takePkt s p with lck := { s.lck with notes := s.lck.notes ++ [(rq, part)] } }))
  ∧ (∀ (s s1 : State) (rq part : Nat), s1 = { s with lck := { s.lck with waits := s.lck.waits.filter (fun w => !(decide (w.rq.src = rq) && decide (w.rq.part = part))) } } →
    (heldCells s rq part = [] → orphan s rq part = s1)
    ∧ (∀ n, heldCells s rq part = [n] → orphan s rq part = raise (serveOrphan (orphanCell s1 n) n) Kind.lockCellOrphaned (rqId 0x304 0) (some part)
        (lockAddr n 0) (rq % 2 ^ 14 + 2 ^ 32))
    ∧ (∀ w ∈ (orphan s rq part).lck.waits, w ∈ s1.lck.waits)
    ∧ (∀ n ∈ heldCells s rq part, waitersOf s1 n = [] → cellAt (orphan s rq part) n = { cellAt s n with state := 2, handover := (lockGroup s (n / 64)).orphan }))
  ∧ (∀ (s : State) (n : Nat),
    (waitersOf s n = [] → serveOrphan s n = s)
    ∧ (∀ w l, waitersOf s n = w :: l → (cellAt s n).handover = true → serveOrphan s n = passCell s n 4)
    ∧ ((cellAt s n).handover = false → cellAt (serveOrphan s n) n = cellAt s n
      ∧ ∀ w ∈ waitersOf s n, ∃ v, waiterAnswered (serveOrphan s n) w true v 0x19))

/-- The lock unit (chapter 12). -/
def Obligations.Locks : Prop := LockRequests ∧ Mutexes ∧ Semaphores ∧ LimitsAndOrphans

namespace Sys2Proof.Machine

/-- A host access of bridge `b` that is the only one there: no other waits for a tag, and no invalidation waits for it. -/
abbrev OnlyAccess (s : State) (b : Nat) (a : HostAcc) : Prop :=
  b < 2 ∧ s.hif.length = 2 ∧ (hifAt s b).accs = [a] ∧ (hifAt s b).invWait = []

/-- An ATS invalidation takes an entry: one of the function, and of the PASID where it names one, whose page overlaps the range. -/
abbrev atsHit (f : Nat) (pasid : Option Nat) (page size : Nat) (e : Atc) : Prop :=
  e.fn = f ∧ (∀ p, pasid = some p → e.pasid = p) ∧ e.page < page + size ∧ page < e.page + e.size

/-- A function's state after its reset: its binding and vectors stay. -/
def afterFnReset (x : Fn) : Fn := { part := x.part, pasid := x.pasid, vecs := x.vecs, vecBase := x.vecBase }

/-- Port `b`'s link of half 0 is up, and its stream lets traffic pass. -/
abbrev PortOpen (s : State) (b : Nat) : Prop := clocked s = true ∧ b < 2 ∧ (linkHalf s b 0).up = true ∧ ideOpen s b 0 = true

/-- A host access that bridge `b` holds in phase `ph`, its stream open. -/
abbrev AccessAt (s : State) (b id ph : Nat) (a : HostAcc) : Prop :=
  accAt s b id = some a ∧ clocked s = true ∧ ideOpen s b 0 = true ∧ a.phase = ph

end Sys2Proof.Machine

/-- Host links (R373, R374, R384): a link trains as its partners agree and, slower or narrower than before, raises HOST_LINK_DEGRADED; one
that goes down is counted and recorded, and half 0's takes every function of the port with it; a correctable error, and in CXL mode a
viral indication, is counted and recorded. -/
def Sys2Proof.Machine.HostLinks : Prop :=
  (∀ (s t : State) (b h speed width : Nat) (cxl flit : Bool), portReleased s b = true → halfOk s b h = true → 1 ≤ speed → speed ≤ 6 →
      width ∈ [1, 2, 4, 8, 16] → width ≤ (if (hifAt s b).bifurcated then 8 else 16) →
      t = setHLink s b h { linkHalf s b h with
        up := true, cxl := cxl && decide (h = 0) && decide (5 ≤ speed), flit := flit || decide (speed = 6), speed := speed, width := width
        reversed := bit s.ckr.straps 6, lastSpeed := speed, lastWidth := width } →
    (((linkHalf s b h).lastSpeed = 0 ∨ ((linkHalf s b h).lastSpeed ≤ speed ∧ (linkHalf s b h).lastWidth ≤ width)) →
      exec (.hostLinkUp b h cxl flit speed width) s = .next (kept s t))
    ∧ ((linkHalf s b h).lastSpeed ≠ 0 → (speed < (linkHalf s b h).lastSpeed ∨ width < (linkHalf s b h).lastWidth) →
      exec (.hostLinkUp b h cxl flit speed width) s = .next (kept s (raise t Kind.hostLinkDegraded (rqId (portUnit b) 0) none 0 h))))
  ∧ (∀ (s : State) (b h : Nat), clocked s = true → halfOk s b h = true → (linkHalf s b h).up = true → s.hif.length = 2 → (hifAt s b).links.length = 2 →
    Leaves (.hostLinkDown b h) s (fun t => linkHalf t b h = { linkHalf s b h with
          up := false, cxl := false, flit := false, speed := 0, width := 0, downEvents := ((linkHalf s b h).downEvents + 1) % 2 ^ 16 }
        ∧ (h = 0 → (hifAt t b).vfEnable = false ∧ ∀ f, f ≤ 16 → fnAt t b f = afterFnReset (fnAt s b f))
        ∧ (h = 1 → t.fns = s.fns ∧ t.rings = s.rings)
        ∧ ∃ m l, t.flt.inbox = s.flt.inbox ++ m :: l ∧ m.head % 1024 = Kind.hostLinkDown))
  ∧ (∀ (s : State) (b h : Nat) (viral : Bool), clocked s = true → halfOk s b h = true → (linkHalf s b h).up = true → (viral = true → (linkHalf s b h).cxl = true) →
    exec (.hostLinkError b h viral) s = .next (kept s (raise (setHLink s b h { linkHalf s b h with linkErrors := ((linkHalf s b h).linkErrors + 1) % 2 ^ 16 })
      Kind.hostLinkError (rqId (portUnit b) 0) none 0 h)))

/-- Functions (R380, R385, R386, R388, R389, R391 to R393, R506; what a function reset does to its configuration is the model's reading of
PCIe, log entry 31): a VF FLR resets its function and a PF FLR every function, VF Enable and the counters; Bus Master Enable clears;
configuration requests are answered with Request Retry Status before a service level, with Unsupported Request where no function is, and
otherwise with their data or effect. -/
def Sys2Proof.Machine.HostFunctions : Prop :=
  (∀ (s : State) (b f : Nat), fnPresent s b f = true → s.hif.length = 2 →
    (f ≠ 0 → Leaves (.functionLevelReset b f) s (fun t => fnAt t b f = afterFnReset (fnAt s b f) ∧ (∀ g, g ≤ 16 → g ≠ f → fnAt t b g = fnAt s b g)
        ∧ (∀ e ∈ (hifAt t b).atc, e.fn ≠ f) ∧ (∀ x ∈ t.rings, x.2.alloc = true → x.2.port = b → x.2.fn = f → x.2.state = 0)))
    ∧ (f = 0 → Leaves (.pfFunctionLevelReset b) s (fun t => (∀ g, g ≤ 16 → fnAt t b g = afterFnReset (fnAt s b g)) ∧ (hifAt t b).vfEnable = false
        ∧ (hifAt t b).cplErrors = 0 ∧ (hifAt t b).xlateFaults = 0 ∧ (hifAt t b).ideFailures = 0 ∧ (hifAt t b).discardedCpl = 0
        ∧ (hifAt t b).hits = 0 ∧ (hifAt t b).misses = 0 ∧ (hifAt t b).invals = 0))
    ∧ ((fnAt s b f).bme = true → Leaves (.busMasterEnableClear b f) s (fun t => fnAt t b f = { fnAt s b f with bme := false }
        ∧ (∀ e ∈ (hifAt t b).atc, e.fn ≠ f) ∧ (∀ x ∈ t.rings, x.2.alloc = true → x.2.port = b → x.2.fn = f → x.2.state = 0))))
  ∧ (∀ (s : State) (b f : Nat) (r : CfgReq), clocked s = true → b < 2 → (linkHalf s b (cfgHalf r)).up = true →
    (s.clr.service = 0 → exec (.configurationRequest b f r) s = .next (kept s (emit s (.cfg b f 2))))
    ∧ (s.clr.service ≠ 0 → cfgPresent s b f (cfgHalf r) = false → exec (.configurationRequest b f r) s = .next (kept s (emit s (.cfg b f 1))))
    ∧ (s.clr.service ≠ 0 → cfgPresent s b f (cfgHalf r) = true → exec (.configurationRequest b f r) s = .next (kept s (emit (cfgApply s b f r) (.cfg b f 0)))))
  ∧ (∀ (s : State) (b f : Nat),
    (∀ on, cfgApply s b f (.pasid on) = setFn s b f { fnAt s b f with pasidEn := on })
    ∧ cfgApply s b f (.busMaster true) = setFn s b f { fnAt s b f with bme := true }
    ∧ cfgApply s b f (.ats true) = setFn s b f { fnAt s b f with atsEn := true }
    ∧ ((fnAt (cfgApply s b f (.ats false)) b f).atsEn = false ∧ (b < s.hif.length → ∀ e ∈ (hifAt (cfgApply s b f (.ats false)) b).atc, e.fn ≠ f))
    ∧ (b < s.hif.length → (hifAt (cfgApply s b 0 (.vfEnable true)) b).vfEnable = true ∧ (hifAt (cfgApply s b 0 (.vfEnable false)) b).vfEnable = false)
    ∧ (f ≠ 0 → ∀ on, cfgApply s b f (.vfEnable on) = s)
    ∧ (∀ on, (fnAt (cfgApply s b f (.msixEnable on)) b f).msixEn = on ∧ (fnAt (cfgApply s b f (.functionMask on)) b f).fnMask = on)
    ∧ (∀ us, b < s.hif.length → (hifAt (cfgApply s b f (.cplTimeout us)) b).cplTimeout = if 50 ≤ us ∧ us ≤ 64000000 then us else (hifAt s b).cplTimeout)
    ∧ (∀ half reg, cfgApply s b f (.read half reg) = emit s (.cfgData b f half (cfgRead s b f half reg))))
  ∧ (∀ (s : State) (b f : Nat),
    cfgRead s b 0 0 .deviceId = [s.clr.part] ∧ (f ≠ 0 → cfgRead s b f 0 .deviceId = [0x72A0]) ∧ cfgRead s b 0 1 .deviceId = [0x72AF]
    ∧ (∀ half, cfgRead s b f half .classCode = [0x120000] ∧ cfgRead s b f half .revisionId = [1] ∧ cfgRead s b f half .interruptPin = [0])
    ∧ cfgRead s b 0 0 .msixTableSize = [64] ∧ (f ≠ 0 → cfgRead s b f 0 .msixTableSize = [(fnAt s b f).vecs])
    ∧ (∀ p, (fnAt s b f).part = some p → cfgRead s b f 0 .dvsec = [s.clr.part + 2 ^ 16 * p + 2 ^ 24 * b])
    ∧ ((fnAt s b f).part = none → cfgRead s b f 0 .dvsec = [s.clr.part + 2 ^ 16 * 0xFF + 2 ^ 24 * b])
    ∧ cfgRead s b f 0 .dvsecCounts = [fnRings s b f, if f = 0 then 64 else (fnAt s b f).vecs])

/-- Messages of the ports (R379, R388, R391, R393): a vendor-defined message of the fabric manager to port 0's PF is accepted, and any other is
discarded or, of Type 0, answered Unsupported Request; a host snoop is answered RspIHitI; a secure IDE stream that fails becomes Insecure, with its
count and record, and the PF's DOE programs a stream or answers an error; a vector's pending message is sent once when it is unmasked. -/
def Sys2Proof.Machine.PortMessages : Prop :=
  (∀ (s : State) (b f : Nat) (t0 fm : Bool), PortOpen s b →
    (b = 0 → f = 0 → fm = true → exec (.vendorDefinedMessage b f t0 fm) s = .next (kept s s))
    ∧ ((b ≠ 0 ∨ f ≠ 0 ∨ fm = false) → t0 = true → exec (.vendorDefinedMessage b f t0 fm) s = .next (kept s (emit s (.unsupported b f))))
    ∧ (t0 = false → exec (.vendorDefinedMessage b f t0 fm) s = .next (kept s s)))
  ∧ (∀ (s : State) (b a : Nat), PortOpen s b → (linkHalf s b 0).cxl = true → exec (.hostSnoop b a) s = .next (kept s (emit s (.snoopRsp b a))))
  ∧ (∀ (s : State) (b stream : Nat), clocked s = true → b < 2 → (hifAt s b).streams.getD stream 0 = 1 →
    exec (.ideIntegrityFailure b stream) s = .next (raise (setHif s b { hifAt s b with
        streams := (hifAt s b).streams.set stream 2, ideFailures := ((hifAt s b).ideFailures + 1) % 2 ^ 16 })
      Kind.hostIdeFailure (rqId (portUnit b) 0) none 0 (if stream = 5 then 1 else 0)))
  ∧ (∀ (s : State) (b index stream : Nat), fnPresent s b 0 = true →
    (index = 0 → stream ≤ 4 → exec (.ideKm b index stream) s = .next (emit (setHif s b { hifAt s b with streams := (hifAt s b).streams.set stream 1 }) (.ideKm b stream true)))
    ∧ (index = 1 → stream = 0 → (hifAt s b).bifurcated = true →
      exec (.ideKm b index stream) s = .next (emit (setHif s b { hifAt s b with streams := (hifAt s b).streams.set 5 1 }) (.ideKm b stream true)))
    ∧ ((1 < index ∨ (index = 0 ∧ 4 < stream) ∨ (index = 1 ∧ (stream ≠ 0 ∨ (hifAt s b).bifurcated = false))) →
      exec (.ideKm b index stream) s = .next (emit s (.ideKm b stream false))))
  ∧ (∀ (s : State) (b f vec : Nat), fnPresent s b f = true → vec < (if f = 0 then 64 else (fnAt s b f).vecs) →
    exec (.msixUnmask b f vec) s = .next (kept s (sendPending (setFn s b f { fnAt s b f with open_ := NSet.add (fnAt s b f).open_ vec }) b f)))
  ∧ (∀ (s : State) (b f : Nat), (inSafe s = true → sendPending s b f = s)
    ∧ (inSafe s = false → (sendPending s b f).sent = s.sent ++ ((fnAt s b f).pend.filter (fun v => vecOpen (fnAt s b f) v)).map (fun v => .msix b f v)
      ∧ fnAt (sendPending s b f) b f = { fnAt s b f with pend := (fnAt s b f).pend.filter (fun v => !(vecOpen (fnAt s b f) v)) }))

/-- Host links and functions (chapter 13). -/
def Obligations.HostLinksAndFunctions : Prop := HostLinks ∧ HostFunctions ∧ PortMessages

/-- How a host access goes to the host (R385, R387, R388, R391, R401): not without a running function and an open stream, nor where its mode
or PASID needs what the function has not enabled; without ATS untranslated, with it by the cached translation or by a translation request; a
read waits for a tag where 512 requests are outstanding; a write is posted but on CXL.cache. -/
def Sys2Proof.Machine.AccessStarts : Prop :=
  ∀ (s : State) (b : Nat) (a : HostAcc),
    ((fnActive s b a.fn = false ∨ ideOpen s b 0 = false) → tryAcc s b a = (failAcc s b a Kind.hostCompletionError, .failed Kind.hostCompletionError))
    ∧ (fnActive s b a.fn = true → ideOpen s b 0 = true →
      (((onCache s b a = true ∧ ((fnAt s b a.fn).atsEn = false ∨ (fnAt s b a.fn).pasidEn = false)) ∨ (a.pasid ≠ none ∧ (fnAt s b a.fn).pasidEn = false)) →
        tryAcc s b a = (failAcc s b a Kind.hostTranslationFault, .failed Kind.hostTranslationFault))
      ∧ (onCache s b a = false → (a.pasid = none ∨ (fnAt s b a.fn).pasidEn = true) → (fnAt s b a.fn).atsEn = false → tryAcc s b a = issueAcc s b { a with addr := a.iova })
      ∧ ((fnAt s b a.fn).atsEn = true → (fnAt s b a.fn).pasidEn = true → atcFind (hifAt s b) a = none → nonPosted s b < 512 →
        (tryAcc s b a).2 = .pending ∧ (tryAcc s b a).1.sent = s.sent ++ [.atsRequest b a.id a.fn (a.pasid.getD (2 ^ 20)) a.iova])
      ∧ (∀ e, (fnAt s b a.fn).atsEn = true → (fnAt s b a.fn).pasidEn = true → atcFind (hifAt s b) a = some e → e.err = 0 →
        tryAcc s b a = useAtc (setHif s b { hifAt s b with hits := ((hifAt s b).hits + 1) % 2 ^ 32 }) b a e))
    ∧ (a.wr = false → nonPosted s b < 512 → (issueAcc s b a).2 = .pending
      ∧ (issueAcc s b a).1.sent = s.sent ++ [.hostRead b a.id a.fn a.pasid a.addr a.len a.translated (if onCache s b a then .rdCurr else .memory)])
    ∧ (a.wr = false → 512 ≤ nonPosted s b → issueAcc s b a = (keepAcc s b { a with phase := 1 }, .pending))
    ∧ (a.wr = true → (issueAcc s b a).2 = (if onCache s b a then .pending else .done)
      ∧ (issueAcc s b a).1.sent = s.sent ++ [.hostWrite b a.id a.fn a.pasid a.addr a.data a.poison a.translated
          (if onCache s b a then (if a.addr % 64 = 0 ∧ a.len % 64 = 0 then .itoMWr else .wrCur) else .memory) a.relaxed])
    ∧ (∀ e, (if a.wr then e.wr else e.rd) = true → useAtc s b a e = issueAcc s b { a with translated := true, addr := e.addr + (a.iova - e.page), ents := [e.id] })
    ∧ (∀ e, (if a.wr then e.wr else e.rd) = false → useAtc s b a e = (failAcc s b a Kind.hostTranslationFault, .failed Kind.hostTranslationFault))

/-- How a host access ends (R388 to R390): a translation that grants the access fills the translation cache, of 2,048 entries, and lets the
access go to the host; another fails it. An invalidation takes the entries it matches and is completed, at once or after the accesses
that use one. An access that completes gives its data or its failure to what it serves, and one that times out fails; a memory
request is then answered, or refused with reason 5, counted and recorded. The access that waits longest for a tag then takes it. -/
def Sys2Proof.Machine.AccessEnds : Prop :=
  (∀ (s x : State) (b id : Nat) (a : HostAcc) (g : Option AtsGrant) (h : HStart), AccessAt s b id 0 a → atsAnswer s b a g = (x, h) →
    exec (.atsTranslationCompletion b id g) s = .next (kept s (retag (hostFollow x b a h) b)))
  ∧ (∀ (s : State) (b : Nat) (a : HostAcc),
    (∀ g, (if a.wr then g.wr else g.rd) = true → g.page ≤ a.iova → a.iova < g.page + g.size →
      atsAnswer s b a (some g) = useAtc (atcFill s b a g).1 b a (atcFill s b a g).2)
    ∧ (∀ g, ((if a.wr then g.wr else g.rd) = false ∨ a.iova < g.page ∨ g.page + g.size ≤ a.iova) →
      atsAnswer s b a (some g) = (failAcc s b a Kind.hostTranslationFault, .failed Kind.hostTranslationFault))
    ∧ atsAnswer s b a none = (failAcc s b a Kind.hostTranslationFault, .failed Kind.hostTranslationFault)
    ∧ (∀ g, b < s.hif.length →
      (atcFill s b a g).2 = { id := (hifAt s b).nextAtc, fn := a.fn, pasid := a.pasid.getD (2 ^ 20), page := g.page, size := g.size, addr := g.addr, rd := g.rd, wr := g.wr }
      ∧ ((hifAt s b).atc.length < 2048 → (hifAt (atcFill s b a g).1 b).atc = (hifAt s b).atc ++ [(atcFill s b a g).2])
      ∧ ((hifAt s b).atc.length = 2048 → (hifAt (atcFill s b a g).1 b).atc.length = 2048 ∧ (atcFill s b a g).2 ∈ (hifAt (atcFill s b a g).1 b).atc)))
  ∧ (∀ (s : State) (b f page size itag : Nat) (pasid : Option Nat), clocked s = true → ideOpen s b 0 = true → b < s.hif.length →
    Leaves (.atsInvalidationRequest b f pasid page size itag) s (fun t =>
      (∀ e, e ∈ (hifAt t b).atc ↔ (e ∈ (hifAt s b).atc ∧ ¬ atsHit f pasid page size e))
      ∧ (hifAt t b).invals = ((hifAt s b).invals + 1) % 2 ^ 16 ∧ t.rings = s.rings
      ∧ ((∀ a ∈ (hifAt s b).accs, a.phase = 2 → ∀ e ∈ (hifAt s b).atc, atsHit f pasid page size e → e.id ∉ a.ents) →
        t.sent = s.sent ++ [.invalDone b f itag] ∧ (hifAt t b).invWait = (hifAt s b).invWait)
      ∧ ((∃ a ∈ (hifAt s b).accs, a.phase = 2 ∧ ∃ e ∈ (hifAt s b).atc, atsHit f pasid page size e ∧ e.id ∈ a.ents) →
        t.sent = s.sent ∧ ∃ w, (hifAt t b).invWait = (hifAt s b).invWait ++ [w] ∧ w.fn = f ∧ w.itag = itag
          ∧ ∀ n, n ∈ w.accs ↔ ∃ a ∈ (hifAt s b).accs, a.id = n ∧ a.phase = 2 ∧ ∃ e ∈ (hifAt s b).atc, atsHit f pasid page size e ∧ e.id ∈ a.ents)))
  ∧ (∀ (s : State) (b id : Nat) (a : HostAcc), AccessAt s b id 2 a →
    (∀ data pz, a.wr = false → data.length = a.len → exec (.hostAccessCompletion b id (.ok data pz)) s = .next (kept s (accDone s b a (.ok data pz))))
    ∧ (∀ data pz, a.wr = true → exec (.hostAccessCompletion b id (.ok data pz)) s = .next (kept s (accDone s b a (.ok [] 0))))
    ∧ exec (.hostAccessCompletion b id .error) s = .next (kept s (accDone s b a (.fail Kind.hostCompletionError))))
  ∧ (∀ (s : State) (b id : Nat) (a : HostAcc), accAt s b id = some a → clocked s = true → a.phase ≠ 1 → a.deadline ≤ now s →
    exec (.completionTimeout b id) s = .next (kept s (accDone s b a (.fail Kind.hostCompletionError))))
  ∧ (∀ (s : State) (b : Nat) (a : HostAcc) (rq : Rq) (kind : Nat), OnlyAccess s b a → a.use = .mem rq kind → inSafe s = false →
    (∀ data pz, (hifAt (accDone s b a (.ok data pz)) b).accs = [] ∧ (accDone s b a (.ok data pz)).sent = s.sent ∧ (accDone s b a (.ok data pz)).flt = s.flt
      ∧ (accDone s b a (.ok data pz)).net = s.net ++ [rspOf (bridgeUnit b) rq (memAnswer kind data pz)])
    ∧ (hifAt (accDone s b a (.fail Kind.hostCompletionError)) b).accs = []
    ∧ (hifAt (accDone s b a (.fail Kind.hostCompletionError)) b).cplErrors = ((hifAt s b).cplErrors + 1) % 2 ^ 16
    ∧ (accDone s b a (.fail Kind.hostCompletionError)).net = s.net ++ [rspOf (bridgeUnit b) rq (.refused 5)]
    ∧ ∃ m, (accDone s b a (.fail Kind.hostCompletionError)).flt.inbox = s.flt.inbox ++ [m] ∧ m.head % 1024 = Kind.hostCompletionError ∧ m.addr = a.iova % 2 ^ 44)

/-- Host accesses (chapter 13). -/
def Obligations.HostAccesses : Prop := AccessStarts ∧ AccessEnds

namespace Sys2Proof.Machine

/-- The command that writes `x` to a doorbell page of port `b`. -/
def BarCommand (c : Instr) (b : Nat) (x : BarWrite) : Prop :=
  (c = .sqPiWrite b x.fn x.page x.value ∧ x.off = 0 ∧ x.size = 4) ∨ (c = .cqCiWrite b x.fn x.page x.value ∧ x.off = 4 ∧ x.size = 4)
  ∨ (c = .ringEnable b x.fn x.page ∧ x.off = 0x38 ∧ x.size = 4 ∧ x.value = 1) ∨ (c = .ringDisable b x.fn x.page ∧ x.off = 0x38 ∧ x.size = 4 ∧ x.value = 0)
  ∨ c = .bar2RegisterWrite b x.fn x.page x.off x.size x.value

/-- Ring set `rs` has descriptor `d` at its evaluation, checked and due, with opcode `op`. -/
abbrev RingAtWork (s : State) (rs op : Nat) (d : RDesc) : Prop :=
  bridgeRuns s (ringAt s rs).port = true ∧ (ringAt s rs).state = 1 ∧ (ringAt s rs).cur = some d ∧ d.phase = 1 ∧ d.op = op ∧ d.again ≤ now s

/-- The ring set's function reaches the host without translation: Bus Master Enable is set, its stream is not Insecure, ATS is off
and the set uses no PASID. -/
abbrev RingPosts (s : State) (rs : Nat) : Prop :=
  fnActive s (ringAt s rs).port (ringAt s rs).fn = true ∧ ideOpen s (ringAt s rs).port 0 = true
  ∧ (fnAt s (ringAt s rs).port (ringAt s rs).fn).atsEn = false ∧ (ringAt s rs).pasid = false

/-- The host write of the entry (Table 14.5) that ring set `rs` writes next. -/
def entryWrite (s : State) (rs seq op st : Nat) (retire : Bool) (value detail : Nat) : OutMsg :=
  .hostWrite (ringAt s rs).port (hifAt s (ringAt s rs).port).nextId (ringAt s rs).fn none ((ringAt s rs).cqBase + 32 * ((ringAt s rs).cqPi % 2 ^ (ringAt s rs).cqLog2))
    (entryBytes s (ringAt s rs) seq op st retire value detail) 0 false .memory false

/-- Command `c` completes descriptor `d` of ring set `rs`, in state `x`, with this status, VALUE and DETAIL. -/
def RingDone (c : Instr) (s x : State) (rs : Nat) (d : RDesc) (st value detail : Nat) : Prop :=
  exec c s = .next (kept s (ringComplete x rs d.k st value detail))

/-- Command `c` sends the request of descriptor `d` to its unit. -/
def RingSends (c : Instr) (s : State) (rs : Nat) (d : RDesc) (target : Nat) (b : Body) : Prop :=
  exec c s = .next (kept s (sendDesc s rs (ringAt s rs) d target b))

/-- A slice of the unit that applies the descriptor: it is tried again after the slice, up to 8 times, and then fails with BUSY_RETRY. -/
def RingBusy (c : Instr) (s : State) (rs : Nat) (d : RDesc) (unit : Nat) : Prop :=
  ∀ left, sliceLeft s unit = some left →
    (d.busyN < 8 → exec c s = .next (kept s (setRing s rs { ringAt s rs with cur := some { d with again := now s + left + 16, busyN := d.busyN + 1 } })))
    ∧ (8 ≤ d.busyN → RingDone c s s rs d 8 0 (left + 16))

/-- How far a doorbell value `v` moves an index. -/
def doorbellMove (v old : Nat) : Nat := (v + 2 ^ 32 - old) % 2 ^ 32

/-- Entries of the submission ring that SQ_PI may still announce. -/
def sqRoom (r : RingSet) : Nat := 2 ^ r.sqLog2 - (r.sqPi + 2 ^ 32 - r.sqCi) % 2 ^ 32

/-- Entries of the completion ring that CQ_CI may still free. -/
def cqRoom (r : RingSet) : Nat := (r.cqPi + 2 ^ 32 - r.cqCi) % 2 ^ 32

end Sys2Proof.Machine

/-- Doorbell pages (R395, R396, R398, R400, R402, R432): a write is judged at once, or after the bridge's slice with a register's last value; it
reaches the ring set of its page. SQ_PI and CQ_CI move within their bounds; a value that goes back is counted stale and one that goes
beyond is counted, recorded and otherwise without effect. An enable starts the set with its indices zero, or sets ERR and is recorded;
a disable drops a held descriptor, cancels waiting locks, and leaves the set DISABLED or draining. Configuration registers are written
while the set is DISABLED and otherwise refused. -/
def Sys2Proof.Machine.RingPages : Prop :=
  (∀ (c : Instr) (s : State) (b : Nat) (x : BarWrite), BarCommand c b x → working s = true → ideOpen s b 0 = true →
    (sliceLeft s (bridgeUnit b) = none → exec c s = .next (kept s (pageStore s b x)))
    ∧ (∀ left, sliceLeft s (bridgeUnit b) = some left → exec c s = .next (kept s (setHif s b { hifAt s b with
        latched := (hifAt s b).latched.filter (fun y => !(decide (y.fn = x.fn) && decide (y.page = x.page) && decide (y.off = x.off) && decide (y.size = x.size))) ++ [x] }))))
  ∧ (∀ (s : State) (b rs : Nat) (x : BarWrite),
    (pageRing s b x.fn x.page = none → pageStore s b x = s)
    ∧ (pageRing s b x.fn x.page = some rs →
      (x.off = 0 → x.size = 4 → pageStore s b x = sqPiWrite s rs (x.value % 2 ^ 32))
      ∧ (x.off = 4 → x.size = 4 → pageStore s b x = cqCiWrite s rs (x.value % 2 ^ 32))
      ∧ (x.off = 0 → x.size = 8 → pageStore s b x = cqCiWrite (sqPiWrite s rs (x.value % 2 ^ 32)) rs (x.value % 2 ^ 64 / 2 ^ 32))
      ∧ (x.off = 0x38 → x.size = 4 ∨ x.size = 8 → pageStore s b x = if bit x.value 0 then ringEnable s rs else ringDisable s rs)
      ∧ (x.off = 0x10 → x.size = 8 → pageStore s b x =
          if (ringAt s rs).state = 0 ∧ x.value % 4096 = 0 then setRing s rs { ringAt s rs with sqBase := x.value % 2 ^ 44 } else setRing s rs { ringAt s rs with refused := true })
      ∧ (x.off = 0x18 → x.size = 8 → pageStore s b x =
          if (ringAt s rs).state = 0 ∧ x.value % 4096 = 0 then setRing s rs { ringAt s rs with cqBase := x.value % 2 ^ 44 } else setRing s rs { ringAt s rs with refused := true })
      ∧ (x.off = 0x20 → x.size = 4 ∨ x.size = 8 → pageStore s b x =
          if (ringAt s rs).state = 0 ∧ 4 ≤ bits x.value 4 0 ∧ bits x.value 4 0 ≤ 16 ∧ 4 ≤ bits x.value 12 8 ∧ bits x.value 12 8 ≤ 16 then
            setRing s rs { ringAt s rs with sqLog2 := bits x.value 4 0, cqLog2 := bits x.value 12 8, vector := bits x.value 26 16, pasid := bit x.value 27 }
          else setRing s rs { ringAt s rs with refused := true })
      ∧ (x.off = 0x28 → x.size = 4 ∨ x.size = 8 → pageStore s b x = setRing s rs { ringAt s rs with modCount := bits x.value 15 0, modTime := bits x.value 31 16 })
      ∧ (x.off = 0x30 → x.size = 4 ∨ x.size = 8 → pageStore s b x =
          if (ringAt s rs).state = 0 then setRing s rs { ringAt s rs with seqBase := x.value % 2 ^ 32 } else setRing s rs { ringAt s rs with refused := true })
      ∧ (x.off = 0x40 → x.size = 4 ∨ x.size = 8 → pageStore s b x = if bit x.value 0 then setRing s rs { ringAt s rs with refused := false } else s)
      ∧ (x.size ≠ 4 → x.size ≠ 8 → pageStore s b x = s)))
  ∧ (∀ (s : State) (rs v : Nat),
    (((ringAt s rs).state = 0 ∨ (ringAt s rs).state = 3 ∨ doorbellMove v (ringAt s rs).sqPi = 0) → sqPiWrite s rs v = s)
    ∧ (((ringAt s rs).state = 1 ∨ (ringAt s rs).state = 2) → doorbellMove v (ringAt s rs).sqPi ≠ 0 →
      (doorbellMove v (ringAt s rs).sqPi ≤ sqRoom (ringAt s rs) → sqPiWrite s rs v = setRing s rs { ringAt s rs with sqPi := v })
      ∧ (sqRoom (ringAt s rs) < doorbellMove v (ringAt s rs).sqPi →
        (2 ^ 31 ≤ doorbellMove v (ringAt s rs).sqPi → sqPiWrite s rs v = setRing s rs { ringAt s rs with dbStale := ((ringAt s rs).dbStale + 1) % 2 ^ 16 })
        ∧ (doorbellMove v (ringAt s rs).sqPi < 2 ^ 31 → sqPiWrite s rs v =
            ringRaise (setRing s rs { ringAt s rs with dbInvalid := ((ringAt s rs).dbInvalid + 1) % 2 ^ 16 }) rs Kind.ringDoorbellInvalid 0 0)))
    ∧ (((ringAt s rs).state = 0 ∨ (ringAt s rs).state = 3 ∨ doorbellMove v (ringAt s rs).cqCi = 0) → cqCiWrite s rs v = s)
    ∧ (((ringAt s rs).state = 1 ∨ (ringAt s rs).state = 2) → doorbellMove v (ringAt s rs).cqCi ≠ 0 →
      (doorbellMove v (ringAt s rs).cqCi ≤ cqRoom (ringAt s rs) → cqCiWrite s rs v = setRing s rs { ringAt s rs with cqCi := v })
      ∧ (cqRoom (ringAt s rs) < doorbellMove v (ringAt s rs).cqCi →
        (2 ^ 31 ≤ doorbellMove v (ringAt s rs).cqCi → cqCiWrite s rs v = setRing s rs { ringAt s rs with dbStale := ((ringAt s rs).dbStale + 1) % 2 ^ 16 })
        ∧ (doorbellMove v (ringAt s rs).cqCi < 2 ^ 31 → cqCiWrite s rs v =
            ringRaise (setRing s rs { ringAt s rs with dbInvalid := ((ringAt s rs).dbInvalid + 1) % 2 ^ 16 }) rs Kind.ringDoorbellInvalid 0 0))))
  ∧ (∀ (s : State) (rs : Nat),
    ((ringAt s rs).state ≠ 0 → ringEnable s rs = s)
    ∧ ((ringAt s rs).state = 0 → enableOk s (ringAt s rs) = true → ringEnable s rs = setRing s rs { ringAt s rs with
        sqPi := 0, sqCi := 0, cqPi := 0, cqCi := 0, nextSeq := (ringAt s rs).seqBase, state := 1, owed := 0, retire := [] })
    ∧ ((ringAt s rs).state = 0 → enableOk s (ringAt s rs) = false → ringEnable s rs = ringRaise (setRing s rs { ringAt s rs with err := 3 }) rs Kind.ringConfigInvalid 0 0)
    ∧ (((ringAt s rs).state = 0 ∨ (ringAt s rs).state = 2) → ringDisable s rs = s)
    ∧ (((ringAt s rs).state = 1 ∨ (ringAt s rs).state = 3) → (∀ d, (ringAt s rs).cur = some d → d.phase ≠ 2) →
      ((ringAt s rs).longs = [] → (ringAt s rs).fetching = false → (ringAt s rs).writing = 0 →
        ringAt (ringDisable s rs) rs = { ringAt s rs with cur := none, state := 0, owed := 0, retire := [] } ∧ (ringDisable s rs).net = s.net
        ∧ ∀ k, k ≠ rs → ringAt (ringDisable s rs) k = ringAt s k)
      ∧ (((ringAt s rs).longs ≠ [] ∨ (ringAt s rs).fetching = true ∨ (ringAt s rs).writing ≠ 0) →
        (ringAt (ringDisable s rs) rs).state = 2 ∧ (ringAt (ringDisable s rs) rs).cur = none ∧ (ringAt (ringDisable s rs) rs).longs = (ringAt s rs).longs))
    ∧ (((ringAt s rs).state = 1 ∨ (ringAt s rs).state = 3) → (ringAt s rs).cur = none → (ringAt s rs).longs ≠ [] →
      ringDisable s rs = (ringAt s rs).longs.foldl (fun t d => sendCancel t (ringAt s rs) d) (setRing s rs { ringAt s rs with state := 2 }))
    ∧ (∀ d, d.op = 9 → sendCancel s (ringAt s rs) d = sendReq s { unit := bridgeUnit (ringAt s rs).port, sub := ringSrc (ringAt s rs) % 4, part := (ringAt s rs).part, target := 0x304, use := .other, body := .lockOp { op := .cancel, word := d.f 8 8 % 4096 } })
    ∧ ((ringAt s rs).state = 2 → (ringAt s rs).cur = none → (ringAt s rs).longs = [] → (ringAt s rs).fetching = false → (ringAt s rs).writing = 0 →
      ringDrain s rs = setRing s rs { ringAt s rs with state := 0, owed := 0, retire := [] }))

/-- Fetch and the sequence check (R401, R404, R407, R409, R410, R427, R430, R431): the next descriptor is read from the ring where an entry and
two completion slots are there; one that arrives is copied, SQ_CI advances and it is checked, unless FENCE or 16 long descriptors hold it. The
expected SEQ advances the sequence; one behind it is a duplicate, with the earlier status in DETAIL, and one ahead a gap. A set that is
not ARMED or not Operational gets INVALID_STATE for what needs it; a reserved field gets FIELD_ERROR with its offset. A read that
fails, or comes poisoned, stops the set. -/
def Sys2Proof.Machine.RingFetch : Prop :=
  (∀ (s s1 : State) (rs : Nat) (r : RingSet) (h : HStart), r = ringAt s rs → bridgeRuns s r.port = true → r.state = 1 → r.sqPi ≠ r.sqCi → r.cur = none → r.fetching = false →
      r.longs.length < 16 → 2 ≤ freeSlotsCq r →
      ringHost (setRing s rs { r with fetching := true }) r (r.sqBase + 64 * (r.sqCi % 2 ^ r.sqLog2)) 64 false [] (.desc rs) = (s1, h) →
    ((∀ k, h ≠ .failed k) → exec (.descriptorFetch rs) s = .next (kept s s1))
    ∧ (∀ k, h = .failed k → exec (.descriptorFetch rs) s = .next (kept s (ringFetched s1 rs (.fail k))))
    ∧ (RingPosts s rs → nonPosted s r.port < 512 → h = .pending
      ∧ s1.sent = s.sent ++ [.hostRead r.port (hifAt s r.port).nextId r.fn none (r.sqBase + 64 * (r.sqCi % 2 ^ r.sqLog2)) 64 false .memory]))
  ∧ (∀ (s : State) (rs : Nat) (data : List Byte), (ringAt s rs).fetching = true → (ringAt s rs).state = 1 →
    ringFetched s rs (.ok data 0) = ringSettle (modRing (modRing s rs (fun r => { r with fetching := false })) rs
      (fun x => { x with sqCi := ((ringAt s rs).sqCi + 1) % 2 ^ 32, cur := some { k := (ringAt s rs).sqCi, raw := data } })) rs
    ∧ (∀ res, (∀ d, res ≠ .ok d 0) → ringFetched s rs res = ringHostError (modRing s rs (fun r => { r with fetching := false })) rs (ringAt s rs).sqCi 0))
  ∧ (∀ (s : State) (rs k seq : Nat), ringHostError s rs k seq = ringRaise (setRing s rs { ringAt s rs with state := 3, err := 1 }) rs Kind.ringHostError k seq)
  ∧ (∀ (s : State) (rs : Nat) (d : RDesc), bridgeRuns s (ringAt s rs).port = true → (ringAt s rs).state = 1 → (ringAt s rs).cur = some d → d.phase = 0 →
    (d.fence = true → ((ringAt s rs).longs ≠ [] ∨ (ringAt s rs).writing ≠ 0) → ringSettle s rs = s)
    ∧ (16 ≤ (ringAt s rs).longs.length → ringSettle s rs = s)
    ∧ ((d.fence = false ∨ ((ringAt s rs).longs = [] ∧ (ringAt s rs).writing = 0)) → (ringAt s rs).longs.length < 16 → ringSettle s rs = settleSeq s rs d))
  ∧ (∀ (s m m1 : State) (rs x : Nat) (d : RDesc), m = modRing s rs (fun r => { r with owed := r.owed + 1, bufErr := 0 }) → x = (d.seq + 2 ^ 32 - (ringAt m rs).nextSeq) % 2 ^ 32 →
      m1 = (if (ringAt s rs).bufErr = 1 then ringRaise m rs Kind.ringBufferCorrected d.k d.seq else m) →
    (2 ≤ (ringAt s rs).bufErr → settleSeq s rs d =
      settleEnd (modRing (ringRaise m rs Kind.ringBufferUncorrectable d.k d.seq) rs (fun r => { r with err := 2 })) rs d 3 0x166 false)
    ∧ ((ringAt s rs).bufErr < 2 → x = 0 → settleSeq s rs d = settleFields (modRing m1 rs (fun r => { r with nextSeq := (r.nextSeq + 1) % 2 ^ 32 })) rs d)
    ∧ ((ringAt s rs).bufErr < 2 → 2 ^ 31 ≤ x →
      (∀ e, (ringAt s rs).recent.find? (fun e => decide (e.1 = d.seq)) = some e →
        settleSeq s rs d = settleEnd (modRing m1 rs (fun r => { r with dups := (r.dups + 1) % 2 ^ 16 })) rs d 1 (256 + e.2) false)
      ∧ ((ringAt s rs).recent.find? (fun e => decide (e.1 = d.seq)) = none →
        settleSeq s rs d = settleEnd (modRing m1 rs (fun r => { r with dups := (r.dups + 1) % 2 ^ 16 })) rs d 1 0 false))
    ∧ ((ringAt s rs).bufErr < 2 → 0 < x → x < 2 ^ 31 →
      settleSeq s rs d = settleEnd (modRing (ringRaise m1 rs Kind.ringSeqGap d.k d.seq) rs (fun r => { r with err := 4 })) rs d 0x11 4 false))
  ∧ (∀ (s : State) (rs : Nat) (d : RDesc),
    (d.always = false → (s.clr.mode ≠ .operational ∨ armed s (ringAt s rs).part = false) → settleFields s rs d = settleEnd s rs d 0x16 0 true)
    ∧ ((d.always = true ∨ (s.clr.mode = .operational ∧ armed s (ringAt s rs).part = true)) →
      (∀ a, d.breach = some a → settleFields s rs d = settleEnd (ringRaise s rs Kind.ringDescInvalid d.k d.seq) rs d 0x11 a true)
      ∧ (d.breach = none → settleFields s rs d = setRing s rs { ringAt s rs with cur := some { d with phase := 1 }, owed := (ringAt s rs).owed + b2n d.wantsHost })))

/-- Entries and moderation (R422 to R425, R428, R429): a completed descriptor's entry is written in the next slot, and the set goes on; a
retirement's is written in its reserved slot, and a sifter's answer completes its SIFT; an entry for a set that takes none, or a
retirement that no slot is reserved for, is discarded and counted. The set's message is sent once MOD_COUNT entries are pending, at once for IRQ or
a zero MOD_TIME, or when its time passes. -/
def Sys2Proof.Machine.RingEntries : Prop :=
  (∀ (s : State) (rs k st value detail : Nat) (d : RDesc), RingPosts s rs → ((ringAt s rs).state = 1 ∨ (ringAt s rs).state = 2) → d.k = k →
      ((ringAt s rs).cur = some d ∨ ((ringAt s rs).cur = none ∧ (ringAt s rs).longs.find? (fun d => decide (d.k = k)) = some d)) →
    ∃ t l, t = ringComplete s rs k st value detail ∧ t.sent = s.sent ++ entryWrite s rs d.seq d.op st false value detail :: l
      ∧ (ringAt t rs).cur = none ∧ (∀ e ∈ (ringAt t rs).longs, e.k ≠ k) ∧ (ringAt t rs).cqPi = ((ringAt s rs).cqPi + 1) % 2 ^ 32
      ∧ (ringAt t rs).recent.head? = some (d.seq, st) ∧ t.tiles = s.tiles ∧ t.sch = s.sch ∧ t.net = s.net ∧ t.outs = s.outs)
  ∧ (∀ (s : State) (rs seq op st value detail : Nat) (retire irq : Bool),
    (((ringAt s rs).state = 0 ∨ (ringAt s rs).state = 3) → postEntry s rs seq op st retire value detail irq =
      setHif s (ringAt s rs).port { hifAt s (ringAt s rs).port with discardedCpl := ((hifAt s (ringAt s rs).port).discardedCpl + 1) % 2 ^ 16 })
    ∧ (((ringAt s rs).state = 1 ∨ (ringAt s rs).state = 2) → RingPosts s rs →
      ∃ x, postEntry s rs seq op st retire value detail irq = entryWritten x rs irq ∧ x.sent = s.sent ++ [entryWrite s rs seq op st retire value detail]
        ∧ ringAt x rs = { ringAt s rs with cqPi := ((ringAt s rs).cqPi + 1) % 2 ^ 32, owed := (ringAt s rs).owed - 1, writing := (ringAt s rs).writing + 1 }))
  ∧ (∀ (s m : State) (u rs handle status detail b : Nat) (rq : Rq), bridgeOf u = some b → ReachesNew s u rq (.cplPost rs handle status detail) →
      m = takePkt s (reqPkt u rq (.cplPost rs handle status detail)) →
    (∀ x, rq.src / 4 = 0x301 → (ringAt s rs).retire.find? (fun x => decide (x.1 = handle)) = some x →
      exec (.cplPost u rq rs handle status detail) s = .next (kept s (answeredKept (ringDrain (postEntry (setRing m rs { ringAt s rs with retire := (ringAt s rs).retire.erase x })
        rs x.2 2 status true handle detail false) rs) u rq (.result (resultWord false 0 0)))))
    ∧ (rq.src / 4 = 0x301 → (ringAt s rs).retire.find? (fun x => decide (x.1 = handle)) = none →
      exec (.cplPost u rq rs handle status detail) s = .next (kept s (answeredKept (setHif m b { hifAt s b with discardedCpl := ((hifAt s b).discardedCpl + 1) % 2 ^ 16 })
        u rq (.result (resultWord false 0 0)))))
    ∧ (∀ d, rq.src / 4 ≠ 0x301 → (ringAt s rs).longs.find? (fun d => decide (d.op = 8) && decide (d.seq = handle)) = some d →
      exec (.cplPost u rq rs handle status detail) s = .next (kept s (answeredKept (ringComplete m rs d.k status 0 detail) u rq (.result (resultWord false 0 0)))))
    ∧ (rq.src / 4 ≠ 0x301 → (ringAt s rs).longs.find? (fun d => decide (d.op = 8) && decide (d.seq = handle)) = none →
      exec (.cplPost u rq rs handle status detail) s = .next (kept s (answeredKept m u rq (.result (resultWord false 0 0))))))
  ∧ (∀ (s : State) (rs d : Nat), bridgeRuns s (ringAt s rs).port = true → (ringAt s rs).deadline = some d → d ≤ now s → (ringAt s rs).pendN ≠ 0 → (ringAt s rs).modCount ≠ 0 →
    exec (.moderationTimerExpiry rs) s = .next (kept s (ringSignal s rs)))
  ∧ (∀ (s : State) (rs : Nat), ringSignal s rs = signalVec (setRing s rs { ringAt s rs with pendN := 0, deadline := none }) (ringAt s rs).port (ringAt s rs).fn (ringAt s rs).vector)
  ∧ (∀ (s : State) (b f v : Nat),
    ((if f = 0 then 64 else (fnAt s b f).vecs) ≤ v → signalVec s b f v = setHif s b { hifAt s b with discardedCpl := ((hifAt s b).discardedCpl + 1) % 2 ^ 16 })
    ∧ (v < (if f = 0 then 64 else (fnAt s b f).vecs) →
      (vecOpen (fnAt s b f) v = true → inSafe s = false → signalVec s b f v = emit s (.msix b f v))
      ∧ ((vecOpen (fnAt s b f) v = false ∨ inSafe s = true) → signalVec s b f v = setFn s b f { fnAt s b f with pend := NSet.add (fnAt s b f).pend v })))
  ∧ (∀ (s x : State) (rs : Nat) (irq : Bool), x = setRing s rs { ringAt s rs with
        writing := (ringAt s rs).writing - 1, pendN := (ringAt s rs).pendN + 1, deadline := some ((ringAt s rs).deadline.getD (now s + 1600 * (ringAt s rs).modTime)) } →
    ((ringAt s rs).modCount ≠ 0 → ((ringAt s rs).modCount ≤ (ringAt s rs).pendN + 1 ∨ (ringAt s rs).modTime = 0 ∨ irq = true) → entryWritten s rs irq = ringSignal x rs)
    ∧ (((ringAt s rs).modCount = 0 ∨ ((ringAt s rs).pendN + 1 < (ringAt s rs).modCount ∧ (ringAt s rs).modTime ≠ 0 ∧ irq = false)) → entryWritten s rs irq = x))

/-- Ring sets (chapter 14). -/
def Obligations.RingSets : Prop := RingPages ∧ RingFetch ∧ RingEntries

/-- Descriptors that complete at their evaluation (R410, R412, R414, R420, R421, R432): NOP; TOKEN_INJECT, which checks every token, waits for TOKEN
credit and counts the tokens in VALUE; ACT_ABORT, which retires its activation as failed; LOAD_REGS, which writes the tile's registers; CLASS_CONFIG,
TRAIL_CONFIG, LOCK_CONFIG, TRACE_CONFIG and OVERSPILL_CONFIG, which configure the partition's own class, trail, group, destination or region. A bad
field gives FIELD_ERROR with its offset, another partition's object RIGHTS_DENIED. -/
def Sys2Proof.Machine.DescriptorsCompleted : Prop :=
  (∀ (s : State) (rs : Nat) (d : RDesc), RingAtWork s rs 0x01 d → RingDone (.ringNop rs) s s rs d 0 0 0)
  ∧ (∀ (s : State) (rs : Nat) (d : RDesc) (r : RingSet) (n : Nat), RingAtWork s rs 0x03 d → r = ringAt s rs → n = d.f 8 1 →
    ((n = 0 ∨ 3 < n) → RingDone (.tokenInject rs) s s rs d 0x11 0 8)
    ∧ (1 ≤ n → n ≤ 3 →
      (∀ i, (List.range n).find? (fun i => !(injectKindOk (injectToken r d i))) = some i → RingDone (.tokenInject rs) s s rs d 0x11 0 (0x18 + 16 * i))
      ∧ ((∀ i, i < n → injectKindOk (injectToken r d i) = true) →
        (∀ i, (List.range n).find? (fun i => (placeOf s r.part (tagVt (injectToken r d i).tag)).isNone) = some i →
          RingDone (.tokenInject rs) s (raise s Kind.tokenUnboundVtile (rqId (bridgeUnit r.port) 0) (some r.part) (ringSrc r) (injectToken r d i).tag.toNat) rs d 0x11 0 (0x18 + 16 * i))
        ∧ ((∀ i, i < n → (placeOf s r.part (tagVt (injectToken r d i).tag)).isSome = true) →
          (injectRoom s r ((List.range n).map (injectToken r d)) = true →
            RingDone (.tokenInject rs) s (sendInjects s r ((List.range n).map (injectToken r d))) rs d 0 n 0)
          ∧ (injectRoom s r ((List.range n).map (injectToken r d)) = false → exec (.tokenInject rs) s = .next (kept s s))))))
  ∧ (∀ (s : State) (r : RingSet) (l : List Token), (∀ t ∈ l, (placeOf s r.part (tagVt t.tag)).isSome = true) →
    (sendInjects s r l).net = s.net ++ l.filterMap (fun t => (placeOf s r.part (tagVt t.tag)).map (fun p =>
      { cls := 1, dest := p.unit, src := ringSrc r, part := r.part, body := .tokens p.gen [t] false })))
  ∧ (∀ (s : State) (rs : Nat) (d : RDesc), RingAtWork s rs 0x05 d →
    RingBusy (.actAbort rs) s rs d 0x301
    ∧ (sliceLeft s 0x301 = none →
      (liveHandle s (ringAt s rs).part (d.f 8 4) = none → RingDone (.actAbort rs) s s rs d 0x13 0 0)
      ∧ (∀ i, liveHandle s (ringAt s rs).part (d.f 8 4) = some i →
        ((recAt s i).state = 4 → RingDone (.actAbort rs) s s rs d 0x14 0 0)
        ∧ ((recAt s i).state ≠ 4 → recHeld s 5 i = true → exec (.actAbort rs) s = .next (kept s s))
        ∧ ((recAt s i).state ≠ 4 → recHeld s 5 i = false → RingDone (.actAbort rs) s (settleTakes
            (acceptCompletion (setRec (leaveStores s i) i { recAt (leaveStores s i) i with state := 3 }) i true (d.f 0xC 1) none)) rs d 0 0 0))))
  ∧ (∀ (s : State) (rs : Nat) (d : RDesc) (t : Tile) (u m : Nat), RingAtWork s rs 0x11 d → u = steer s (d.f 8 2) → t = tileAt s u → m = d.f 0xB 1 →
    (∀ off, firstBad [(decide (d.f 8 2 < 0x100), 8), (decide (d.f 0xA 1 < 4), 0xA), (decide (m ≠ 0) && decide (m < 8), 0xB)] = some off → RingDone (.loadRegs rs) s s rs d 0x11 0 off)
    ∧ (d.f 8 2 < 0x100 → d.f 0xA 1 < 4 → m ≠ 0 → m < 8 →
      (t.testing = true → exec (.loadRegs rs) s = .next (kept s s))
      ∧ (t.testing = false → loadTileStatus s (ringAt s rs) u ≠ 0 → RingDone (.loadRegs rs) s s rs d (loadTileStatus s (ringAt s rs) u) 0 0)
      ∧ (t.testing = false → loadTileStatus s (ringAt s rs) u = 0 →
        (∀ off, firstBad [(!(bit m 0) || codeRegOk (d.f 0x10 8), 0x10), (!(bit m 1) || stackRegOk t (d.f 0xA 1) (d.f 0x18 8), 0x18), (!(bit m 2) || lsCtrlOk (d.f 0x20 8), 0x20)] = some off →
          RingDone (.loadRegs rs) s s rs d 0x11 0 off)
        ∧ ((bit m 0 = true → codeRegOk (d.f 0x10 8) = true) → (bit m 1 = true → stackRegOk t (d.f 0xA 1) (d.f 0x18 8) = true) → (bit m 2 = true → lsCtrlOk (d.f 0x20 8) = true) →
          RingDone (.loadRegs rs) s (setTile s u (writeTileRegs t (d.f 0xA 1) m (d.f 0x10 8) (d.f 0x18 8) (d.f 0x20 8))) rs d 0 0 0))))
  ∧ (∀ (s : State) (r : RingSet) (u : Nat),
    ((∀ b ∈ (tileAt s u).bindings, b.valid = false ∨ b.part ≠ r.part) → loadTileStatus s r u = 0x10)
    ∧ (∀ b ∈ (tileAt s u).bindings, b.valid = true → b.part = r.part →
      (((tileAt s u).thread.running = true ∨ (tileAt s u).fq ≠ [] ∨ ∃ a ∈ (tileAt s u).actSlot, a.isSome = true) → loadTileStatus s r u = 0x15)
      ∧ ((tileAt s u).thread.running = false → (tileAt s u).fq = [] → (∀ a ∈ (tileAt s u).actSlot, a = none) → loadTileStatus s r u = 0)))
  ∧ (∀ (t : Tile) (k mask code stack ls : Nat),
    writeTileRegs t k mask code stack ls = { t with
      code := if bit mask 0 then t.code.set k { trapValid := bit code 63, trapEntry := bits code 62 48, sizeM1 := bits code 24 16, base := bits code 8 0 } else t.code
      stackReg := if bit mask 1 then t.stackReg.set k { top := bits stack 52 32, limit := bits stack 19 0 } else t.stackReg
      waitLimit := if bit mask 2 then bits ls 39 16 else t.waitLimit
      lsDebug := if bit mask 2 then bit ls 0 else t.lsDebug })

/-- The configuration descriptors (R235, R260, R261, R285, R300, R352, R421, R432). -/
def Sys2Proof.Machine.ConfigDescriptors : Prop :=
  (∀ (s x : State) (rs st : Nat) (d : RDesc), RingAtWork s rs 0x18 d →
    (64 ≤ d.f 8 1 → RingDone (.classConfig rs) s s rs d 0x11 0 8)
    ∧ (d.f 8 1 < 64 → RingBusy (.classConfig rs) s rs d 0x301)
    ∧ (d.f 8 1 < 64 → sliceLeft s 0x301 = none → classConfig s (ringAt s rs).part (d.f 8 1) (d.f 0x10 8) = (x, st) →
      RingDone (.classConfig rs) s x rs d st 0 (if st = 0x11 then 0x10 else 0)))
  ∧ (∀ (s : State) (p c v : Nat) (y : WClass), y = classWith (classAt s c) v → c < 64 →
    (((classAt s c).valid = false ∨ (classAt s c).part ≠ p) → classConfig s p c v = (s, 0x10))
    ∧ ((classAt s c).valid = true → (classAt s c).part = p →
      ((2 ^ 56 ≤ v ∨ y.dispatch = 3 ∨ 4 < y.siftStand ∨ 1024 < y.poolFirst + y.poolCount) → classConfig s p c v = (s, 0x11))
      ∧ (v < 2 ^ 56 → y.dispatch ≠ 3 → y.siftStand ≤ 4 → y.poolFirst + y.poolCount ≤ 1024 →
        (y.trailValid = true → trailOwned s y.trail p = false → classConfig s p c v = (s, 0x10))
        ∧ ((y.trailValid = true → trailOwned s y.trail p = true) →
          (y ≠ { classAt s c with maxInflight := y.maxInflight } → 0 < countRecs s (fun r => decide (r.cls = c)) → classConfig s p c v = (s, 0x15))
          ∧ ((y = { classAt s c with maxInflight := y.maxInflight } ∨ countRecs s (fun r => decide (r.cls = c)) = 0) →
            classConfig s p c v = (settleTakes { s with sch := { s.sch with classes := s.sch.classes.set c y } }, 0))))))
  ∧ (∀ (s x : State) (rs st : Nat) (d : RDesc), RingAtWork s rs 0x19 d →
    (4096 ≤ d.f 8 2 → RingDone (.trailConfig rs) s s rs d 0x11 0 8)
    ∧ (d.f 8 2 < 4096 → (2 ^ 59 ≤ d.f 0x10 8 ∨ bits (d.f 0x10 8) 49 0 ≠ 0 ∨ 64 < bits (d.f 0x10 8) 56 50) → RingDone (.trailConfig rs) s s rs d 0x11 0 0x10)
    ∧ (d.f 8 2 < 4096 → d.f 0x10 8 < 2 ^ 59 → bits (d.f 0x10 8) 49 0 = 0 → bits (d.f 0x10 8) 56 50 ≤ 64 →
      RingBusy (.trailConfig rs) s rs d 0x305
      ∧ (sliceLeft s 0x305 = none → trailConfig s (ringAt s rs).part (d.f 8 2) (bit (d.f 0x10 8) 58) (bit (d.f 0x10 8) 57) (bits (d.f 0x10 8) 56 50) = (x, st) →
        (st = 0 ∨ st = 0x10) ∧ RingDone (.trailConfig rs) s x rs d st 0 0)))
  ∧ (∀ (s : State) (p t outPer : Nat) (skip trace : Bool), t < 4096 → outPer ≤ 64 →
    (trailOwned s t p = false → trailConfig s p t skip trace outPer = (gateRaise s Kind.trailAccessInvalid p 0 t 0, 0x10))
    ∧ (trailOwned s t p = true → trailConfig s p t skip trace outPer = (setTrail s t { trailAt s t with skip := skip, trace := trace, outPer := outPer }, 0)))
  ∧ (∀ (s x : State) (rs st : Nat) (d : RDesc), RingAtWork s rs 0x1B d →
    (∀ off, firstBad [(decide (d.f 8 1 < 64), 8), (decide (d.f 9 1 < 4), 9), (decide (d.f 0xA 1 < 32), 0xA), (!(bit (d.f 9 1) 1) || decide (d.f 0xB 1 < 64), 0xB), (!(bit (d.f 9 1) 1) || (inRange 1 16 (d.f 0xC 1) && decide (d.f 0xB 1 + d.f 0xC 1 ≤ 64)), 0xC)] = some off →
      RingDone (.lockConfig rs) s s rs d 0x11 0 off)
    ∧ (d.f 8 1 < 64 → d.f 9 1 < 4 → d.f 0xA 1 < 32 → (bit (d.f 9 1) 1 = true → d.f 0xB 1 < 64 ∧ 1 ≤ d.f 0xC 1 ∧ d.f 0xC 1 ≤ 16 ∧ d.f 0xB 1 + d.f 0xC 1 ≤ 64) →
      RingBusy (.lockConfig rs) s rs d 0x304
      ∧ (sliceLeft s 0x304 = none → lockConfig s (ringAt s rs).part (d.f 8 1) (if bit (d.f 9 1) 0 then some (d.f 0xA 1) else none)
          (if bit (d.f 9 1) 1 then (List.range (d.f 0xC 1)).map (fun i => (d.f 0xB 1 + i, d.f (0x10 + 2 * i) 2)) else []) = (x, st) →
        RingDone (.lockConfig rs) s x rs d st 0 0)))
  ∧ (∀ (s : State) (p g c : Nat), g < 64 →
    (∀ cfg inits, ((lockGroup s g).valid = false ∨ (lockGroup s g).part ≠ p) → lockConfig s p g cfg inits = (s, 0x10))
    ∧ ((lockGroup s g).valid = true → (lockGroup s g).part = p →
      (groupIdle s g = false → bit c 0 ≠ (lockGroup s g).mode → ∀ inits, lockConfig s p g (some c) inits = (s, 0x15))
      ∧ (groupIdle s g = false → ∀ cfg i l, lockConfig s p g cfg (i :: l) = (s, 0x15))
      ∧ ((groupIdle s g = true ∨ bit c 0 = (lockGroup s g).mode) → lockConfig s p g (some c) [] = ({ s with lck := { s.lck with groups := s.lck.groups.set g { lockGroup s g with
          mode := bit c 0, orphan := bit c 1, node := bit c 2, host := bit c 3, watch := bit c 4 } } }, 0))
      ∧ (groupIdle s g = true → ∀ n v, (lockConfig s p g none [(n, v)]).2 = 0
        ∧ (lockConfig s p g none [(n, v)]).1.lck.cells = (setCell s (64 * g + n) { cellAt s (64 * g + n) with init := v, count := v }).lck.cells)))
  ∧ (∀ (s x : State) (rs st : Nat) (d : RDesc), RingAtWork s rs 0x1C d →
    (2 ≤ d.f 8 1 → RingDone (.overspillEnable rs) s s rs d 0x11 0 8 ∧ RingDone (.overspillDisable rs) s s rs d 0x11 0 8)
    ∧ (d.f 8 1 = 1 → ovfEnable s (ringAt s rs).part (d.f 0x10 8) (d.f 9 1) = (x, st) →
      RingDone (.overspillEnable rs) s x rs d st 0 (if st ≠ 0x11 then 0 else if inRange 24 32 (d.f 9 1) then 0x10 else 9))
    ∧ (d.f 8 1 = 0 → d.f 9 1 ≠ 0 → RingDone (.overspillDisable rs) s s rs d 0x11 0 9)
    ∧ (d.f 8 1 = 0 → d.f 9 1 = 0 → d.f 0x10 8 ≠ 0 → RingDone (.overspillDisable rs) s s rs d 0x11 0 0x10)
    ∧ (d.f 8 1 = 0 → d.f 9 1 = 0 → d.f 0x10 8 = 0 → ovfDisable s (ringAt s rs).part = (x, st) → (st = 0 ∨ st = 0x14) ∧ RingDone (.overspillDisable rs) s x rs d st 0 0))
  ∧ (∀ (s : State) (p base n : Nat),
    ((n < 24 ∨ 32 < n ∨ 2 ^ 44 ≤ base ∨ base % 2 ^ n ≠ 0) → ovfEnable s p base n = (s, 0x11))
    ∧ (24 ≤ n → n ≤ 32 → base < 2 ^ 44 → base % 2 ^ n = 0 →
      (((regionAt s p).limit < n ∨ (regionAt s p).state ≠ 0) → ovfEnable s p base n = (s, 0x14))
      ∧ (n ≤ (regionAt s p).limit → (regionAt s p).state = 0 → ovfEnable s p base n = (setRegion s p { limit := (regionAt s p).limit, state := 1, n := n, base := base }, 0)))
    ∧ (((regionAt s p).state = 0 ∨ ((regionAt s p).state ≠ 3 ∧ regionQuiet s p = false)) → ovfDisable s p = (s, 0x14))
    ∧ ((regionAt s p).state ≠ 0 → ((regionAt s p).state = 3 ∨ regionQuiet s p = true) → ovfDisable s p = (setRegion s p { limit := (regionAt s p).limit }, 0)))
  ∧ (∀ (s x : State) (rs st : Nat) (d : RDesc), RingAtWork s rs 0x1D d → traceConfig s (ringAt s rs).part (d.f 8 8) (d.f 0x10 8) (d.f 0x18 8) = (x, st) →
    RingDone (.traceConfig rs) s x rs d st 0 (if st = 0x11 then 0xFF else 0))
  ∧ (∀ (s : State) (p base ctrl filter : Nat) (x : SpoorDest), x = destAt s (1 + p) →
    ((2 ^ 44 ≤ base ∨ base % 4096 ≠ 0 ∨ bits ctrl 63 48 ≠ 0 ∨ bits ctrl 47 9 ≠ 0 ∨ bits ctrl 8 4 < 7 ∨ 25 < bits ctrl 8 4 ∨ bits ctrl 3 1 ≠ 0 ∨ bits filter 47 32 ≠ 0 ∨ bits filter 18 0 ≠ 0) →
      traceConfig s p base ctrl filter = (s, 0x11))
    ∧ (base < 2 ^ 44 → base % 4096 = 0 → bits ctrl 63 48 = 0 → bits ctrl 47 9 = 0 → 7 ≤ bits ctrl 8 4 → bits ctrl 8 4 ≤ 25 → bits ctrl 3 1 = 0 → bits filter 47 32 = 0 → bits filter 18 0 = 0 →
      (x.enable = true → (base ≠ x.base ∨ bits ctrl 8 4 ≠ x.n) → traceConfig s p base ctrl filter = (s, 0x14))
      ∧ ((x.enable = false ∨ (base = x.base ∧ bits ctrl 8 4 = x.n)) → traceConfig s p base ctrl filter = (spCtrlSet (setDest s (1 + p) { x with
          base := base, evMask := bits filter 63 48, clsLo := bits filter 31 26, clsHi := bits filter 25 20, trailOnly := bit filter 19 }) (1 + p) (ctrl + 2 ^ 48 * x.stallLimit), 0))))

/-- Descriptors that complete at their evaluation (chapter 14). -/
def Obligations.DescriptorsCompletedAtOnce : Prop := DescriptorsCompleted ∧ ConfigDescriptors

/-- Descriptors that their unit answers (R411, R413, R415 to R418, R276, R252): LAUNCH, DEP_DEC, CTX_ALLOC, CTX_RELEASE, SIFT, LOCK and TRAIL_CTRL send
their request as their function, LOCK_FORCE as the firmware, or wait for their tag window, and await the answer; a held descriptor is sent again, a LAUNCH
with its tag. A LAUNCH that succeeds has the handle in VALUE and may have a retirement entry reserved; without space a LAUNCH or SIFT is held
256 cc, unless NOHOLD. -/
def Sys2Proof.Machine.DescriptorsAsk : Prop :=
  (∀ (s : State) (rs : Nat) (d : RDesc),
    (RingAtWork s rs 0x02 d →
      (∀ off, firstBad [(decide (d.f 0x18 2 < 2 ^ 14) && (decide (bits (d.f 8 8) 53 52 = 0) || decide (d.f 0x18 2 = 0)), 0x18), (decide (bits (d.f 8 8) 53 52 = 0) || decide (d.f 0x1A 2 = 0), 0x1A), (decide (bits (d.f 0x1C 2) 14 12 = 0), 0x1C), (decide (d.f 0x1E 1 < 2), 0x1E)] = some off →
        RingDone (.launch rs) s s rs d 0x11 0 off)
      ∧ (d.f 0x18 2 < 2 ^ 14 → (bits (d.f 8 8) 53 52 = 0 ∨ (d.f 0x18 2 = 0 ∧ d.f 0x1A 2 = 0)) → bits (d.f 0x1C 2) 14 12 = 0 → d.f 0x1E 1 < 2 →
        RingSends (.launch rs) s rs d 0x301 (.admission {
          spawn := BitVec.ofNat 64 (d.f 8 8), arg := BitVec.ofNat 64 (d.f 0x10 8), ctx := d.f 0x18 2, iter := d.f 0x1A 2, launch := true
          trail := if bit (d.f 0x1C 2) 15 then some (d.f 0x1C 2 % 4096) else none
          notify0 := d.f 0x20 4, notify1 := d.f 0x24 4, host := d.wantsHost, ringset := rs })))
    ∧ (RingAtWork s rs 0x04 d →
      (d.f 0xC 1 < 2 → RingSends (.depDec rs) s rs d 0x302 (.depDec (d.f 8 4) (bit (d.f 0xC 1) 0)))
      ∧ (2 ≤ d.f 0xC 1 → RingDone (.depDec rs) s s rs d 0x11 0 0xC))
    ∧ (RingAtWork s rs 0x06 d → RingSends (.ctxAlloc rs) s rs d 0x303 .ctxAlloc)
    ∧ (RingAtWork s rs 0x07 d →
      (d.f 8 2 < 2 ^ 14 → RingSends (.ctxRelease rs) s rs d 0x303 (.ctxRelease (d.f 8 2)))
      ∧ (2 ^ 14 ≤ d.f 8 2 → RingDone (.ctxRelease rs) s s rs d 0x11 0 8))
    ∧ (RingAtWork s rs 0x08 d →
      (d.f 0x10 1 ≤ 4 → RingSends (.sift rs) s rs d (sifUnit (sifChoice s (d.f 0x10 1))) (.siftSubmit (d.f 8 8) (d.f 0x10 1) (2 ^ 32 * rs + d.seq)))
      ∧ (4 < d.f 0x10 1 → RingDone (.sift rs) s s rs d 0x11 0 0x10))
    ∧ (RingAtWork s rs 0x09 d →
      (∀ op, (d.f 0x10 1, op) ∈ [(1, LockOp.acquire), (2, .try_), (3, .release), (4, .semAcquire), (5, .semRelease), (6, .cancel)] →
        RingSends (.lock rs) s rs d 0x304 (.lockOp { op := op, word := d.f 8 8 }))
      ∧ ((d.f 0x10 1 = 0 ∨ 6 < d.f 0x10 1) → RingDone (.lock rs) s s rs d 0x11 0 0x10))
    ∧ (RingAtWork s rs 0x1A d →
      (∀ a, (d.f 0xA 1, a) ∈ [(0, TrailAction.skip), (1, .pass), (2, .reset)] → d.f 8 2 < 4096 → RingSends (.trailCtrl rs) s rs d 0x305 (.trailCtrl (d.f 8 2) a))
      ∧ (4096 ≤ d.f 8 2 → RingDone (.trailCtrl rs) s s rs d 0x11 0 8)
      ∧ (d.f 8 2 < 4096 → 3 ≤ d.f 0xA 1 → RingDone (.trailCtrl rs) s s rs d 0x11 0 0xA))
    ∧ (RingAtWork s rs 0x0A d → fwRuns s = true →
      (4096 ≤ d.f 8 2 → RingDone (.lockForce rs) s s rs d 0x11 0 8)
      ∧ (d.f 8 2 < 4096 → ((lockGroup s (d.f 8 2 / 64)).valid = false ∨ (lockGroup s (d.f 8 2 / 64)).part ≠ (ringAt s rs).part) → RingDone (.lockForce rs) s s rs d 0x10 0 0)
      ∧ (d.f 8 2 < 4096 → (lockGroup s (d.f 8 2 / 64)).valid = true → (lockGroup s (d.f 8 2 / 64)).part = (ringAt s rs).part →
        exec (.lockForce rs) s = .next (kept s (sendReq (setRing s rs { ringAt s rs with cur := none, longs := (ringAt s rs).longs ++ [{ d with phase := 2 }] })
          { unit := 0x308, part := (ringAt s rs).part, target := 0x304, use := .desc rs d.k, body := .lockOp { op := .force, word := d.f 8 2 } })))))
  ∧ (∀ (s : State) (rs target : Nat) (d : RDesc) (b : Body),
    ringAt (sendDesc s rs (ringAt s rs) d target b) rs = { ringAt s rs with cur := some { d with phase := 2 } }
    ∧ ((cachedOp b = false ∨ windowOpen s (ringSrc (ringAt s rs)) (ringAt s rs).part target = true) → ∃ tag, (sendDesc s rs (ringAt s rs) d target b).net =
      s.net ++ [{ cls := 2, dest := target, src := ringSrc (ringAt s rs), part := (ringAt s rs).part, tag := tag, body := b }])
    ∧ (cachedOp b = true → windowOpen s (ringSrc (ringAt s rs)) (ringAt s rs).part target = false → (sendDesc s rs (ringAt s rs) d target b).net = s.net
      ∧ ∃ o, (sendDesc s rs (ringAt s rs) d target b).sendWait = s.sendWait ++ [o] ∧ o.target = target ∧ o.body = b ∧ o.use = .desc rs d.k))
  ∧ (∀ (s : State) (rs : Nat) (d : RDesc) (o : OutReq), bridgeRuns s (ringAt s rs).port = true → (ringAt s rs).cur = some d → d.phase = 3 → d.again ≤ now s →
      s.outs.find? (fun o => decide (o.use = .desc rs d.k) && o.againAt.isSome) = some o →
    (d.op = 8 → exec (.heldDescriptorRepeat rs) s = .next (kept s (sendDesc { setRing s rs { ringAt s rs with cur := some { d with phase := 2 } } with outs := s.outs.erase o }
      rs (ringAt s rs) d (sifUnit (sifChoice { setRing s rs { ringAt s rs with cur := some { d with phase := 2 } } with outs := s.outs.erase o } (d.f 0x10 1)))
      (.siftSubmit (d.f 8 8) (d.f 0x10 1) (2 ^ 32 * rs + d.seq)))))
    ∧ (d.op = 2 → exec (.heldDescriptorRepeat rs) s = .next (kept s (sendPkt { setRing s rs { ringAt s rs with cur := some { d with phase := 2 } } with
          outs := s.outs.erase o ++ [{ o with againAt := none, timer := some (now s + e2eLimit s) }] }
        { cls := 2, dest := o.target, src := rqId o.unit o.sub, part := o.part, tag := o.tag, body := o.body }))))
  ∧ (∀ (s : State) (o : OutReq) (rs k st : Nat) (d : RDesc) (w : W64), descAt s rs k = some d → st = resultStatus w →
    (d.op = 2 → st = 0 → d.wantsHost = false → ringResult s o rs k w = ringComplete s rs k 0 (bits w.toNat 47 16) 0)
    ∧ (d.op = 2 → st = 0 → d.wantsHost = true → ringResult s o rs k w =
      ringComplete (setRing s rs { ringAt s rs with retire := (ringAt s rs).retire ++ [(bits w.toNat 47 16, d.seq)] }) rs k 0 (bits w.toNat 47 16) 0)
    ∧ (((d.op = 2 ∧ (st = 9 ∨ st = 0xA)) ∨ (d.op = 8 ∧ st ≠ 0)) → (ringAt s rs).state ≠ 2 →
      (d.nohold = true → ringResult s o rs k w = ringComplete s rs k (if d.op = 8 then 9 else st) 0 0)
      ∧ (d.nohold = false → (ringAt (ringResult s o rs k w) rs).cur = some { d with phase := 3, again := now s + 256 } ∧ (ringResult s o rs k w).net = s.net))
    ∧ (d.op = 9 → ringResult s o rs k w = ringComplete s rs k st (bits w.toNat 47 16) (if st = 0x11 then 0xFF else 0))
    ∧ (d.op = 4 → ringResult s o rs k w = ringComplete s rs k st 0 (if st = 0x11 then 0xFF else 0)))

/-- COPY and LOAD_CODE (R419, R420): a good COPY becomes long and joins the copy engine, which holds at most 8; the engine reads the copy's next
line, writes it at its destination, and after the last line completes the copy with its bytes; a line that nothing serves ends it
FAULTED. A good LOAD_CODE becomes long and reads its host lines in blocks of 64 at the home bridge; their bytes enter the tile's instruction store. -/
def Sys2Proof.Machine.LongDescriptors : Prop :=
  (∀ (s : State) (rs src dst len : Nat) (d : RDesc) (h : Hif), RingAtWork s rs 0x0B d → src = d.f 8 8 → dst = d.f 0x10 8 → len = d.f 0x18 4 → h = hifAt s (ringAt s rs).port →
    ((len % 64 ≠ 0 ∨ len < 64 ∨ 2 ^ 30 < len) → RingDone (.copy rs) s s rs d 0x11 0 0x18)
    ∧ (len % 64 = 0 → 64 ≤ len → len ≤ 2 ^ 30 →
      ((src % 64 ≠ 0 ∨ sifWindow src = none ∨ sifWindow (src + len - 1) ≠ sifWindow src) → RingDone (.copy rs) s s rs d 0x11 0 8)
      ∧ (src % 64 = 0 → sifWindow src ≠ none → sifWindow (src + len - 1) = sifWindow src →
        ((dst % 64 ≠ 0 ∨ sifWindow dst = none ∨ sifWindow (dst + len - 1) ≠ sifWindow dst ∨ (sifWindow src = some 3 ∧ sifWindow dst = some 3)) → RingDone (.copy rs) s s rs d 0x11 0 0x10)
        ∧ (dst % 64 = 0 → sifWindow dst ≠ none → sifWindow (dst + len - 1) = sifWindow dst → ¬(sifWindow src = some 3 ∧ sifWindow dst = some 3) →
          (8 ≤ h.copies.length → exec (.copy rs) s = .next (kept s s))
          ∧ (h.copies.length < 8 → exec (.copy rs) s = .next (kept s (copyKick (setHif (setRing s rs { ringAt s rs with
              cur := none, longs := (ringAt s rs).longs ++ [{ d with phase := 2 }] }) (ringAt s rs).port { h with copies := h.copies ++ [(rs, d.k)] }) (ringAt s rs).port)))))))
  ∧ (∀ (s : State) (b rs k : Nat) (l : List (Nat × Nat)) (d : RDesc), bridgeRuns s b = true → (hifAt s b).copies = (rs, k) :: l → longAt s rs k = some d → (ringAt s rs).port = b →
    ((hifAt s b).copyLeft ≠ 0 → copyKick s b = s)
    ∧ (∀ x, (hifAt s b).copyLeft = 0 → copyRead (setHif s b { hifAt s b with copyLeft := min 64 (d.f 0x18 4 / 64 - d.next) }) rs d = (x, true) → copyKick s b = x))
  ∧ (∀ (s : State) (rs : Nat) (d : RDesc),
    (∀ u m, partTarget s (ringAt s rs).part (d.f 8 8 + 64 * d.next) = some (u, m) → copyRead s rs d =
      (sendReq (modLong s rs d.k (fun d => { d with next := d.next + 1 })) { unit := bridgeUnit (ringAt s rs).port, sub := 2, part := (ringAt s rs).part, target := u, use := .copyRead rs d.k d.next, body := .readLine m }, true))
    ∧ (partTarget s (ringAt s rs).part (d.f 8 8 + 64 * d.next) = none → (copyRead s rs d).2 = false))
  ∧ (∀ (s : State) (rs k l poison x : Nat) (data : List Byte) (d : RDesc) (o : OutReq), longAt s rs k = some d →
      x = ((hifAt s (ringAt s rs).port).copies.findIdx? (fun e => decide (e = (rs, k)))).getD 0 → o = { unit := bridgeUnit (ringAt s rs).port, sub := 2, part := (ringAt s rs).part, use := .copyWrite rs k l } →
    ∀ u m, partTarget s (ringAt s rs).part (d.f 0x10 8 + 64 * l) = some (u, m) →
      (m.space = 0 → copyData s rs k l data poison = sendReq s { o with target := u, body := .lineWrite (2 ^ 16 * m.slot + m.off / 64) x false data poison })
      ∧ (m.space = 1 → copyData s rs k l data poison = sendReq s { o with target := u, body := .lineWrite (m.off / 64) x false data poison })
      ∧ (1 < m.space → copyData s rs k l data poison = sendReq (sendPosted s (rqId (bridgeUnit (ringAt s rs).port) 2) u (ringAt s rs).part (.hostBase x m.off))
          { o with target := u, body := .lineWrite 0 x false data poison }))
  ∧ (∀ (s : State) (rs k : Nat) (d : RDesc) (h : Hif), longAt s rs k = some d → h = hifAt s (ringAt s rs).port → h.copyLeft = 1 → d.done + 1 = d.f 0x18 4 / 64 →
    copyDone s rs k = copyKick (copyForget (ringComplete (setHif (modLong s rs k (fun d => { d with done := d.done + 1 })) (ringAt s rs).port { h with
      copyLeft := 0, copies := h.copies.filter (fun e => e != (rs, k)) ++ [(rs, k)] }) rs k 0 (d.f 0x18 4) 0) (ringAt s rs).port) (ringAt s rs).port)
  ∧ (∀ (s : State) (rs u : Nat) (d : RDesc), RingAtWork s rs 0x10 d → u = steer s (d.f 8 2) →
    (∀ off, firstBad [(decide (d.f 8 2 < 0x100), 8), (decide (d.f 0xC 4 % 4 = 0), 0xC), (decide (d.f 0x10 4 % 4 = 0) && decide (4 ≤ d.f 0x10 4) && decide (d.f 0xC 4 + d.f 0x10 4 ≤ 131072), 0x10), (decide (d.f 0x18 8 + d.f 0x10 4 ≤ 2 ^ 44), 0x18)] = some off →
      RingDone (.loadCode rs) s s rs d 0x11 0 off)
    ∧ (d.f 8 2 < 0x100 → d.f 0xC 4 % 4 = 0 → d.f 0x10 4 % 4 = 0 → 4 ≤ d.f 0x10 4 → d.f 0xC 4 + d.f 0x10 4 ≤ 131072 → d.f 0x18 8 + d.f 0x10 4 ≤ 2 ^ 44 →
      ((tileAt s u).testing = true → exec (.loadCode rs) s = .next (kept s s))
      ∧ ((tileAt s u).testing = false → loadTileStatus s (ringAt s rs) u ≠ 0 → RingDone (.loadCode rs) s s rs d (loadTileStatus s (ringAt s rs) u) 0 0)
      ∧ ((tileAt s u).testing = false → loadTileStatus s (ringAt s rs) u = 0 → exec (.loadCode rs) s = .next (kept s (loadKick (setRing s rs { ringAt s rs with
          cur := none, longs := (ringAt s rs).longs ++ [{ d with phase := 2 }] }) rs d.k)))))
  ∧ (∀ (s : State) (rs k : Nat) (d : RDesc), longAt s rs k = some d → d.next + 1 = loadLines d → loadKick s rs k =
    sendReq (modLong s rs k (fun d => { d with next := d.next + 1, left := 1 })) { unit := bridgeUnit (ringAt s rs).port, sub := 2, part := (ringAt s rs).part, target := homeUnit s (ringAt s rs).part, use := .codeRead rs k d.next, body := .readLine { space := 2, off := d.f 0x18 8 / 64 * 64 + 64 * d.next } })
  ∧ (∀ (s : State) (rs k l : Nat) (data : List Byte) (d : RDesc), longAt s rs k = some d → d.done + 1 < loadLines d → 1 < d.left → loadData s rs k l data =
    modLong (modTile s (steer s (d.f 8 2)) (fun t => { t with istore := ByteMem.wrBytes t.istore (loadPiece d l data).1 (loadPiece d l data).2 })) rs k
      (fun d => { d with done := d.done + 1, left := d.left - 1 }))

/-- Descriptors that other units serve (chapter 14). -/
def Obligations.DescriptorsSent : Prop := DescriptorsAsk ∧ LongDescriptors

namespace Sys2Proof.Machine

/-- The management endpoint and the commit engine are in service, and the firmware runs. -/
abbrev CustodyServes (s : State) : Prop := outOfService s 11 = false ∧ outOfService s 10 = false ∧ fwRuns s = true

/-- The commit engine is in service and both its clocks run. -/
abbrev CommitRuns (s : State) : Prop := outOfService s 10 = false ∧ clocked s = true ∧ supClocked s = true

/-- One fault message of a kind has been raised. -/
def Raised (s t : State) (kind : Nat) : Prop := ∃ m, t.flt.inbox = s.flt.inbox ++ [m] ∧ m.head % 1024 = kind

/-- A command of a party is answered with these words, in state `x`. -/
def PartyTold (c : Instr) (s x : State) (party : Nat) (words : List Nat) : Prop := exec c s = .next (kept s (answer x party words))

/-- The form of a STAGE: a kind, a record of 384 bytes, and a binding list for a partition only. -/
abbrev StageForm (kind : Nat) (rec binds : List Byte) : Prop :=
  kind ≤ 3 ∧ rec.length = 384 ∧ binds.length % 16 = 0 ∧ binds.length ≤ 16 * 1024 ∧ (kind ≠ 0 → binds = [])

/-- A stage of this kind may be opened: custody is PROVISIONED, the epoch has room, and no key stage is open. -/
abbrev StageReady (s : State) (kind : Nat) : Prop :=
  s.prt.custody = 1 ∧ epochReady s = true ∧ keyCondition s kind = true ∧ ∀ x ∈ s.prt.stages, x.kind = 0

/-- There is room for a stage of this kind and partition: four at most, one for a partition, and a key stage alone. -/
abbrev StageRoom (s : State) (kind p : Nat) : Prop :=
  s.prt.stages.length < 4 ∧ (kind ≠ 0 → s.prt.stages = []) ∧ (kind = 0 → ∀ x ∈ s.prt.stages, x.part ≠ p)

/-- A party's signature flag of a stage. -/
def signedBy (st : Stage) (party : Nat) : Bool := if party = 0 then st.fmOk else st.pcOk

/-- The word that QUERY gives for stage `k`: zero for none. -/
def queryStage (s : State) (k : Nat) : Nat := match s.prt.stages[k]? with
  | some st => stageWord st
  | none => 0

/-- The hash of a custody key, zero where there is none. -/
def keyHash (k : List Byte) : Nat := if k = [] then 0 else sha384 k

end Sys2Proof.Machine

/-- Opening and signing a stage (R444 to R447): STAGE refuses a bad form, a party or state that may not open it, or a full table, and otherwise opens
a stage and answers its STAGE_ID and DIGEST. SIGN is the fabric manager's and COUNTERSIGN the platform controller's, and the other party's is
refused with RIGHTS_DENIED; a signature by the party's key over the digest is noted, one by the new key for its own ROTATE, and one that does not
verify is recorded. The stage that has all it requires takes its place in the order of processing. -/
def Sys2Proof.Machine.StageOpening : Prop :=
  (∀ (s : State) (party kind p : Nat) (rec binds : List Byte), CustodyServes s → p = recF rec 0 1 % 16 →
    (¬StageForm kind rec binds → PartyTold (.stage party kind rec binds) s s party [0x11, 1])
    ∧ (StageForm kind rec binds →
      (party ≠ 0 → kind ≠ 2 → PartyTold (.stage party kind rec binds) s s party [0x10, 0])
      ∧ ((party = 0 ∨ kind = 2) →
        (inSafe s = true → PartyTold (.stage party kind rec binds) s s party [0x16, 10])
        ∧ (inSafe s = false → ¬StageReady s kind → PartyTold (.stage party kind rec binds) s s party [0x14, 0])
        ∧ (inSafe s = false → StageReady s kind → ¬StageRoom s kind p → PartyTold (.stage party kind rec binds) s s party [0x09, 0])
        ∧ (inSafe s = false → StageReady s kind → StageRoom s kind p →
          ∀ id d, id = (s.prt.nextStage + 1) % 2 ^ 32 → d = stageDigest s id kind p (baseDigest s kind p) rec binds →
            PartyTold (.stage party kind rec binds) s { s with prt := { s.prt with
              nextStage := id
              stages := s.prt.stages ++ [{ id := id, kind := kind, part := p, record := rec, binds := binds, base := baseDigest s kind p, digest := d, epoch := s.prt.epoch, openedAt := supNow s }] } }
              party [0, 0, id, d]))))
  ∧ (∀ (s : State) (id : Nat) (sigs : List (List Byte)), CustodyServes s →
    exec (.sign 0 id sigs) s = .next (kept s (signStage s 0 id sigs)) ∧ exec (.countersign 1 id sigs) s = .next (kept s (signStage s 1 id sigs))
    ∧ (∀ party, party ≠ 0 → PartyTold (.sign party id sigs) s s party [0x10, 0])
    ∧ (∀ party, party ≠ 1 → PartyTold (.countersign party id sigs) s s party [0x10, 0]))
  ∧ (∀ (s : State) (party id : Nat) (sigs : List (List Byte)), fwRuns s = true →
    (stageAt s id = none → signStage s party id sigs = answer s party [0x14, 0])
    ∧ (stageAt s id ≠ none → sigs.length ≠ 1 → sigs.length ≠ 2 → signStage s party id sigs = answer s party [0x11, 0])
    ∧ (∀ a x ok, stageAt s id ≠ none → oneSignature s party id false a = (x, ok) →
      (ok = true → signStage s party id [a] = answer x party [0, 0]) ∧ (ok = false → signStage s party id [a] = answerOpen x party)
      ∧ ∀ b y ok2, oneSignature x party id true b = (y, ok2) →
        (ok = true → ok2 = true → signStage s party id [a, b] = answer y party [0, 0])
        ∧ ((ok = false ∨ ok2 = false) → signStage s party id [a, b] = answerOpen y party)))
  ∧ (∀ (s : State) (st : Stage) (party : Nat) (sig : List Byte), stageAt s st.id = some st → party ≤ 1 →
    (signedBy st party = true → oneSignature s party st.id false sig = (s, true))
    ∧ (signedBy st party = false →
      (custodySigned party (partyKey s party) st.digest sig = true →
        (party = 0 → oneSignature s party st.id false sig = (noteSigned s { st with fmOk := true }, true))
        ∧ (party = 1 → oneSignature s party st.id false sig = (noteSigned s { st with pcOk := true }, true)))
      ∧ (custodySigned party (partyKey s party) st.digest sig = false →
        oneSignature s party st.id false sig = (custodyRaise s Kind.custodySignatureInvalid 0x308 st.id st.partition 0, false)))
    ∧ (st.newOk = true → oneSignature s party st.id true sig = (s, true))
    ∧ (st.newOk = false →
      (custodySigned party st.newKey st.digest sig = true → st.kind = 1 → st.role = party → oneSignature s party st.id true sig = (noteSigned s { st with newOk := true }, true))
      ∧ ((custodySigned party st.newKey st.digest sig = false ∨ st.kind ≠ 1 ∨ st.role ≠ party) →
        oneSignature s party st.id true sig = (custodyRaise s Kind.custodySignatureInvalid 0x308 st.id st.partition 0, false))))
  ∧ (∀ (s : State) (st : Stage),
    (stageSigned st = true → st.order = none → noteSigned s st = setStage { s with prt := { s.prt with orders := s.prt.orders + 1 } } { st with order := some s.prt.orders })
    ∧ ((stageSigned st = false ∨ st.order ≠ none) → noteSigned s st = setStage s st)
    ∧ ((st.kind = 0 ∨ st.kind = 3) → stageSigned st = (st.fmOk && st.pcOk))
    ∧ (st.kind = 1 → stageSigned st = (st.fmOk && st.pcOk && st.newOk))
    ∧ (st.kind = 2 → stageSigned st = if st.role = 0 then st.pcOk else st.fmOk))

/-- The checks of a proposal (R436 to R439, R449, Table 15.6): the first that fails gives the reason, and the reason its status. -/
def Sys2Proof.Machine.StageChecks : Prop :=
  (∀ (s : State) (st : Stage),
    (inSafe s = true → stageCheck s st = some 10)
    ∧ (inSafe s = false → baseDigest s st.kind st.part ≠ st.base → stageCheck s st = some 8)
    ∧ (inSafe s = false → baseDigest s st.kind st.part = st.base → s.prt.epoch ≠ st.epoch → stageCheck s st = some 9)
    ∧ (inSafe s = false → baseDigest s st.kind st.part = st.base → s.prt.epoch = st.epoch →
      (st.kind ≠ 0 → stageCheck s st = if keyContentOk st.kind st.record then none else some 1)
      ∧ (st.kind = 0 → recRemoves st.record = true → stageCheck s st = firstBad [(recOk st.record && (bindEntries st.binds).all bindOk, 1), (bindsOk st.record (bindEntries st.binds), 4), (!(vecsMove s st.part st.record), 12)])
      ∧ (st.kind = 0 → recRemoves st.record = false → stageCheck s st = firstBad
          [(recOk st.record && (bindEntries st.binds).all bindOk, 1), (bindsOk st.record (bindEntries st.binds), 4), (!((otherRecs s st.part).any (grantsMeet st.record) || boundElsewhere s st.part (bindEntries st.binds)), 2),
           (sumsOk (st.record :: otherRecs s st.part), 3), (fnRulesOk st.record (otherRecs s st.part), 5), (serviceOk s st.part st.record (bindEntries st.binds), 11), (!(lowered s st.part st.record), 7),
           (!(vecsMove s st.part st.record), 12)])))
  ∧ (∀ (s : State) (st : Stage) (r : Nat), refuseStage s st r = closeStage s st (reasonStatus r) r (some Kind.commitRefused))
  ∧ (∀ r st, (r, st) ∈ [(1, 0x11), (4, 0x11), (5, 0x11), (2, 0x15), (7, 0x15), (12, 0x15), (3, 0x09), (6, 0x0B), (8, 0x14), (9, 0x14), (11, 0x14), (10, 0x16)] → reasonStatus r = st)
  ∧ (∀ (s : State) (st : Stage) (status reason : Nat), ∃ t, t = closeStage s st status reason none
    ∧ t.prt.stages = s.prt.stages.filter (fun x => decide (x.id ≠ st.id)) ∧ t.prt.lastId = st.id ∧ t.prt.lastStatus = status ∧ t.prt.lastReason = reason
    ∧ t.prt.parts = s.prt.parts ∧ t.prt.epoch = s.prt.epoch ∧ t.sent = s.sent ++ [.mctp 0 [status, reason, st.id], .mctp 1 [status, reason, st.id]]
    ∧ ∀ k, (closeStage s st status reason (some k)).prt = t.prt ∧ (closeStage s st status reason (some k)).sent = t.sent ∧ Raised s (closeStage s st status reason (some k)) k)

/-- Processing and timeouts (R448, R449, R452): the oldest fully signed stage, while none is under way, is refused with its first reason, closed
where its key condition fails, or waits for quiescence; once quiescent and checked again it is applied, and completes when every tile in
service has acknowledged; a tile that does not within its time is recorded and no longer waited for. A stage closes when quiescence or its
signatures do not come in time, and on ABORT but in apply. -/
def Sys2Proof.Machine.StageProcessing : Prop :=
  (∀ (s : State) (st : Stage), CommitRuns s → epochReady s = true → nextSigned s = some st →
    (∀ r, stageCheck s st = some r → exec .stageProcessing s = .next (kept s (refuseStage s st r)))
    ∧ (stageCheck s st = none → keyCondition s st.kind = false → exec .stageProcessing s = .next (kept s (closeStage s st 0x14 0 (some Kind.commitRefused))))
    ∧ (stageCheck s st = none → keyCondition s st.kind = true →
      exec .stageProcessing s = .next (kept s (setStage s { st with phase := 1, since := supNow s, held := stageTiles s st }))))
  ∧ (∀ (s : State) (st : Stage), nextSigned s = some st → st ∈ s.prt.stages ∧ st.order ≠ none ∧ (∀ x ∈ s.prt.stages, x.phase = 0 ∧ (x.order ≠ none → st.order.getD 0 ≤ x.order.getD 0)))
  ∧ (∀ (s : State) (st : Stage), CommitRuns s → quiescing s = some st → stageQuiet s st = true →
    (∀ r, stageCheck s st = some r → exec .commitApply s = .next (kept s (refuseStage s st r)))
    ∧ (stageCheck s st = none →
      (st.kind = 0 → exec .commitApply s = .next (kept s (settleCommit (applyPart (setStage s { st with phase := 2, since := supNow s }) st))))
      ∧ (st.kind ≠ 0 → exec .commitApply s = .next (kept s (settleCommit (setStage s { st with phase := 2, since := supNow s }))))))
  ∧ (∀ (s : State) (st : Stage), s.prt.stages.find? (fun x => decide (x.phase = 2)) = some st →
    (inSafe s = false → (∃ a ∈ s.prt.acks, a.2 = some st.id ∧ tileServes s a.1 = true) → settleCommit s = s)
    ∧ ((inSafe s = true ∨ ∀ a ∈ s.prt.acks, a.2 = some st.id → tileServes s a.1 = false) →
      ((s.ldg.dead = true ∨ s.prt.epoch + 17 ≤ s.ldg.bound) → settleCommit s = finishCommit s st)
      ∧ (s.ldg.dead = false → s.ldg.bound < s.prt.epoch + 17 → s.ldg.boundQ ≤ s.ldg.bound → settleCommit s = writeSettings s (s.ldg.bound + 4096))))
  ∧ (∀ (s : State) (u part : Nat) (p : Packet), outOfService s 10 = false → clocked s = true → p = { cls := 0, dest := 0x30A, src := rqId u 3, part := part, body := .placeInvAck } → arrivable s p = true →
    (∀ a, s.prt.acks.find? (fun a => decide (a.1 = u)) = some a →
      exec (.placeInvAck u part) s = .next (kept s (settleCommit { takePkt s p with prt := { s.prt with acks := s.prt.acks.erase a } })))
    ∧ (s.prt.acks.find? (fun a => decide (a.1 = u)) = none → exec (.placeInvAck u part) s = .next (kept s (takePkt s p))))
  ∧ (∀ (s : State) (st : Stage) (late : List Nat), CommitRuns s → s.prt.stages.find? (fun x => decide (x.phase = 2)) = some st →
      late = ((s.prt.acks.filter (fun a => decide (a.2 = some st.id) && tileServes s a.1)).map Prod.fst).eraseDups → late ≠ [] → st.since + figureCc s 100 1 ≤ supNow s →
    ∃ x, x = late.foldl (fun s u => raiseAbout s Kind.placeInvTimeout (rqId 0x30A 0) u (some st.part) st.id 0 none) s
      ∧ exec .placeInvAckTimeout s = .next (kept s (settleCommit { x with prt := { x.prt with acks := s.prt.acks.filter (fun a => !(late.contains a.1)) } })))
  ∧ (∀ (s : State) (st : Stage), outOfService s 10 = false → supClocked s = true →
    (quiescing s = some st → st.since + usToCc s 1000000 ≤ supNow s → stageQuiet s st = false →
      exec .quiesceTimeout s = .next (kept s (closeStage s st 0x0B 6 (some Kind.commitQuiesceTimeout))))
    ∧ (stageAt s st.id = some st → st.order = none → st.openedAt + usToCc s 30000000 ≤ supNow s →
      exec (.stageTimeout st.id) s = .next (kept s (closeStage s st 0x0B 0 (some Kind.custodyStageTimeout)))))
  ∧ (∀ (s : State) (party id : Nat), CustodyServes s →
    (stageAt s id = none → PartyTold (.abort party id) s s party [0x14, 0])
    ∧ (∀ st, stageAt s id = some st → st.phase = 2 → PartyTold (.abort party id) s s party [0x14, 0])
    ∧ (∀ st v x, stageAt s id = some st → st.phase ≠ 2 → freeTake s = (v, x) → PartyTold (.abort party id) s (closeStage x st (v % 256) 0 none) party [0, 0]))

/-- What a commit changes (R439, R442, R443, R452 to R454, R456): a removed entry loses its placement and its slot; a new one gets the next generation,
its slot, its frame window and its placement; a tile whose bindings change loses its vector registers, accumulators, XFER counts and
overspill filter; every tile in service is told of the range. At completion the epoch increments and the partition is ARMED, or EMPTY for a
removal, with the stage's digest; a ROTATE takes its key at once, a REPLACE begins its wait of 86,400 s, a RELEASE erases both keys. -/
def Sys2Proof.Machine.CommitEffects : Prop :=
  (∀ (s : State) (p : Nat) (e : List Byte),
    SMap.get none (dropEntry s p e).place (1024 * p + bVt e) = none
    ∧ SMap.get none (addEntry s p e).place (1024 * p + bVt e) = some { unit := bTile e, slot := bSlot e, gen := nextGenOf s p (bVt e) }
    ∧ SMap.get 0 (addEntry s p e).prt.gens (1024 * p + bVt e) = (SMap.get 0 s.prt.gens (1024 * p + bVt e) + 1) % 4096
    ∧ (addEntry s p e).tiles = s.tiles.set (steer s (bTile e)) { tileAt s (steer s (bTile e)) with
        bindings := (tileAt s (steer s (bTile e))).bindings.set (bSlot e) { valid := true, part := p, vtile := bVt e, gen := nextGenOf s p (bVt e), ntBase := bNtBase e, ntCountM1 := bNtCount e }
        vtFrame := (tileAt s (steer s (bTile e))).vtFrame.set (bSlot e) { size := bSize e, base := bFrame e } })
  ∧ (∀ (t : Tile) (p : Nat), (rebind t p).v = List.replicate 32 {} ∧ (rebind t p).acc = [0, 0, 0, 0] ∧ (rebind t p).xcnt = List.replicate 8 0 ∧ (rebind t p).spl.filter = []
    ∧ (∀ x, some x ∈ (rebind t p).pcache → x.part ≠ p) ∧ (rebind t p).bindings = t.bindings ∧ (rebind t p).istore = t.istore)
  ∧ (∀ (s : State) (p : Nat) (who : Option Nat) (r : Nat × Nat), (broadcastRange s p who r).prt.acks = s.prt.acks ++ (servingTiles s).map (fun u => (u, who))
    ∧ (broadcastRange s p who r).net = s.net ++ (servingTiles s).map (fun u => { cls := 0, dest := u, src := rqId 0x30A 0, part := p, tag := 0, body := .placeInvalidate r.1 r.2 }))
  ∧ (∀ (s : State) (st : Stage), st.part < s.prt.parts.length → ((applyPart s st).prt.parts.getD st.part {}).record = st.record
    ∧ ((applyPart s st).prt.parts.getD st.part {}).binds = if recRemoves st.record then [] else st.binds)
  ∧ (∀ (s t : State) (st : Stage), t = finishCommit s st →
    t.prt.epoch = s.prt.epoch + 1 ∧ t.prt.commits = (s.prt.commits + 1) % 2 ^ 16 ∧ t.prt.stages = s.prt.stages.filter (fun x => decide (x.id ≠ st.id)) ∧ t.prt.lastStatus = 0
    ∧ (st.kind = 0 → t.prt.parts = s.prt.parts.set st.part { s.prt.parts.getD st.part {} with
        state := if recRemoves st.record then 0 else 1, digest := st.digest, epoch := s.prt.epoch + 1 } ∧ t.prt.custody = s.prt.custody)
    ∧ (st.kind ≠ 0 → t.prt.parts = s.prt.parts)
    ∧ (st.kind = 1 → partyKey t st.role = st.newKey ∧ (∀ y, (y = 0 ↔ st.role ≠ 0) → partyKey t y = partyKey s y))
    ∧ (st.kind = 2 → t.prt.custody = 2 ∧ t.prt.replace = some (st.role, st.newKey, supNow s + usToCc s 86400000000) ∧ t.prt.replaceDigest = st.digest)
    ∧ (st.kind = 3 → t.prt.custody = 0 ∧ t.prt.fmk = [] ∧ t.prt.pck = []))

/-- Two-party custody (chapter 15). -/
def Obligations.CustodyStages : Prop := StageOpening ∧ StageChecks ∧ StageProcessing ∧ CommitEffects

/-- Arming, queries, enrolment and replacement (R441 to R444, R455): ARM with the stored digest arms a DISARMED partition, and is otherwise refused with
ARM_REFUSED; DISARM disarms an ARMED one. QUERY answers the custody state. Two ENROLLs that match within 30 s provision custody; a
pair that does not is discarded and recorded. A pending replacement is cancelled by a signature of the key being replaced, and takes
effect at its expiry. A message that is not permitted is refused with RIGHTS_DENIED, one that is malformed with FIELD_ERROR and recorded. -/
def Sys2Proof.Machine.PartyCommands : Prop :=
  (∀ (s : State) (p digest : Nat), CustodyServes s →
    (16 ≤ p → PartyTold (.arm 0 p digest) s s 0 [0x11, 0] ∧ PartyTold (.disarm 0 p) s s 0 [0x11, 0])
    ∧ (p < 16 →
      ((s.prt.parts.getD p {}).state = 2 → (s.prt.parts.getD p {}).digest = digest → PartyTold (.arm 0 p digest) s (setPartState s p 1) 0 [0, 0])
      ∧ (((s.prt.parts.getD p {}).state ≠ 2 ∨ (s.prt.parts.getD p {}).digest ≠ digest) → PartyTold (.arm 0 p digest) s (custodyRaise s Kind.armRefused 0x30A 0 (some p) 0) 0 [0x14, 0])
      ∧ (inSafe s = true → PartyTold (.disarm 0 p) s s 0 [0x16, 0])
      ∧ (inSafe s = false → (s.prt.parts.getD p {}).state = 1 → PartyTold (.disarm 0 p) s (setPartState s p 2) 0 [0, 0])
      ∧ (inSafe s = false → (s.prt.parts.getD p {}).state ≠ 1 → PartyTold (.disarm 0 p) s s 0 [0x14, 0]))
    ∧ (∀ party, party ≠ 0 → PartyTold (.arm party p digest) s s party [0x10, 0] ∧ PartyTold (.disarm party p) s s party [0x10, 0])
    ∧ (∀ v, setPartState s p v = { s with prt := { s.prt with parts := s.prt.parts.set p { s.prt.parts.getD p {} with state := v } } }))
  ∧ (∀ (s : State) (party : Nat), CustodyServes s → PartyTold (.query party) s s party
    ([0, 0, s.prt.custody, s.prt.epoch, keyHash s.prt.fmk, keyHash s.prt.pck] ++ [queryStage s 0, queryStage s 1, queryStage s 2, queryStage s 3] ++ s.prt.parts.map PartState.state))
  ∧ (∀ (s : State) (m : BadMctp), outOfService s 11 = false → fwRuns s = true →
    (m.forbidden = true → PartyTold (.mctpMessageInvalid m) s s m.party [0x10, 0])
    ∧ (m.forbidden = false → PartyTold (.mctpMessageInvalid m) s (raise s Kind.mctpMessageInvalid (rqId 0x30D 0) none 0 0) m.party [0x11, 0]))
  ∧ (∀ (s : State) (party expects : Nat) (key : List Byte), CustodyServes s →
    (ecKey key = none → PartyTold (.enroll party key expects) s s party [0x11, 0])
    ∧ (ecKey key ≠ none → (s.prt.custody ≠ 0 ∨ epochReady s = false) → PartyTold (.enroll party key expects) s s party [0x14, 0])
    ∧ (ecKey key ≠ none → s.prt.custody = 0 → epochReady s = true →
      (s.clr.mode ≠ .configuration →
        (s.prt.enroll = none → PartyTold (.enroll party key expects) s s party [0x14, 0])
        ∧ (s.prt.enroll ≠ none → PartyTold (.enroll party key expects) s (enrollFail s) party [0x14, 0]))
      ∧ (s.clr.mode = .configuration →
        ((∀ e, s.prt.enroll = some e → e.role = party) → PartyTold (.enroll party key expects) s { s with prt := { s.prt with
          enroll := some { role := party, key := key, expects := expects, at_ := supNow s } } } party [0, 0])
        ∧ (∀ e, s.prt.enroll = some e → e.role ≠ party →
          ((e.at_ + usToCc s 30000000 < supNow s ∨ sha384 key ≠ e.expects ∨ sha384 e.key ≠ expects) → exec (.enroll party key expects) s = .next (kept s (answerOpen (enrollFail s) party)))
          ∧ (supNow s ≤ e.at_ + usToCc s 30000000 → sha384 key = e.expects → sha384 e.key = expects →
            Leaves (.enroll party key expects) s (fun t => t.prt.custody = 1 ∧ t.prt.enroll = none ∧ t.prt.epoch = s.prt.epoch + 1
              ∧ t.prt.fmk = (if party = 0 then key else e.key) ∧ t.prt.pck = (if party = 0 then e.key else key) ∧ t.sent = s.sent ++ [.mctp party [0, 0]]
              ∧ ∃ m, m ∈ t.flt.inbox ∧ m.head % 1024 = Kind.custodyKeyChanged))))))
  ∧ (∀ (s : State) (e : Enroll), supClocked s = true → s.prt.enroll = some e → e.at_ + usToCc s 30000000 ≤ supNow s →
    exec .enrollTimeout s = .next (kept s (enrollFail s)))
  ∧ (∀ s : State, enrollFail s = custodyRaise { s with prt := { s.prt with enroll := none } } Kind.custodySignatureInvalid 0x308 0 none 0)
  ∧ (∀ (s : State) (party : Nat) (sig : List Byte), CustodyServes s →
    ((s.prt.custody ≠ 2 ∨ s.prt.replace = none) → PartyTold (.cancelReplace party sig) s s party [0x14, 0])
    ∧ (∀ x, s.prt.custody = 2 → s.prt.replace = some x →
      (custodySigned x.1 (partyKey s x.1) s.prt.replaceDigest sig = true →
        PartyTold (.cancelReplace party sig) s (custodyState { s with prt := { s.prt with replace := none } } 1) party [0, 0])
      ∧ (custodySigned x.1 (partyKey s x.1) s.prt.replaceDigest sig = false →
        exec (.cancelReplace party sig) s = .next (kept s (answerOpen (custodyRaise s Kind.custodySignatureInvalid 0x308 0 none 0) party)))))
  ∧ (∀ (s : State) (v : Nat), custodyState s v = custodyRaise { s with prt := { s.prt with custody := v } } Kind.custodyKeyChanged 0x308 0 none 0)
  ∧ (∀ (s : State) (x : Nat × List Byte × Nat), s.prt.custody = 2 → s.prt.replace = some x → supClocked s = true → x.2.2 ≤ supNow s →
    Leaves .replaceWaitExpiry s (fun t => t.prt.custody = 1 ∧ t.prt.replace = none ∧ partyKey t x.1 = x.2.1 ∧ t.prt.epoch = s.prt.epoch + 1
      ∧ (∀ y, (y = 0 ↔ x.1 ≠ 0) → partyKey t y = partyKey s y)))

/-- The direct-write window and attestation (R46, R342, R439, R457, R458): a write to a closed window is discarded and logged; to an open one it is refused
with reason 5 while a commit is applied, with a frame size out of range or for a second partition on the tile, and otherwise writes the frame word, or the binding with the next generation
and its placement, purging the tile's requesters, and is recorded and counted. The measurement blocks are returned. -/
def Sys2Proof.Machine.DirectAndAttest : Prop :=
  (∀ (s : State) (a : Accessor) (pos i : Nat) (frame : Bool) (x : RegPart), pos < 256 → i < 4 →
    exec (.directWrite a pos i frame x) s = .next (kept s (registerWrite s a (0x03000000 + 0x40 * pos + 0x10 * i + (if frame then 8 else 0)) x)))
  ∧ (∀ (s : State) (b pos i v off : Nat) (frame : Bool), accessorPresent s (.fn b 0) = true → inSafe s = false → pos < 256 → i < 4 → v < 2 ^ 64 →
      off = 0x03000000 + 0x40 * pos + 0x10 * i + (if frame then 8 else 0) →
    (debugOpen s = false → exec (.directWrite (.fn b 0) pos i frame (.whole v)) s = .next (kept s (logAccess s b 0 off 0)))
    ∧ (debugOpen s = true → directSet s pos i frame v = none → exec (.directWrite (.fn b 0) pos i frame (.whole v)) s = .next (kept s (logAccess s b 0 off 5)))
    ∧ (∀ t, debugOpen s = true → directSet s pos i frame v = some t → exec (.directWrite (.fn b 0) pos i frame (.whole v)) s = .next (kept s t)))
  ∧ (∀ (s : State) (pos i v u : Nat) (frame : Bool), u = steer s pos →
    ((∃ x ∈ s.prt.stages, x.phase = 2) → directSet s pos i frame v = none)
    ∧ ((∀ x ∈ s.prt.stages, x.phase ≠ 2) →
      ((bits v 16 8 < 1 ∨ 256 < bits v 16 8) → directSet s pos i true v = none)
      ∧ (1 ≤ bits v 16 8 → bits v 16 8 ≤ 256 → directSet s pos i true v = some (directUsed (setTile s u { tileAt s u with
          vtFrame := (tileAt s u).vtFrame.set i { size := bits v 16 8, base := bits v 7 0 } }) u ((tileAt s u).bindings.getD i {})))
      ∧ (bit v 63 = true → (∃ b ∈ (tileAt s u).bindings.eraseIdx i, b.valid = true ∧ b.part ≠ bits v 62 59) → directSet s pos i false v = none)
      ∧ ((bit v 63 = false ∨ ∀ b ∈ (tileAt s u).bindings.eraseIdx i, b.valid = true → b.part = bits v 62 59) →
        directSet s pos i false v = some (directUsed (directBinding s pos i v) u { valid := bit v 63, part := bits v 62 59 }))))
  ∧ (∀ (s : State) (u : Nat) (b : Binding), (directUsed s u b).prt = { s.prt with directWrites := s.prt.directWrites + 1, debugUsed := true }
    ∧ (directUsed s u b).tiles = s.tiles ∧ Raised s (directUsed s u b) Kind.directWriteUsed)
  ∧ (∀ (s : State) (pos i v : Nat), bit v 63 = true →
    SMap.get none (directBinding s pos i v).place (1024 * bits v 62 59 + bits v 58 49) = some { unit := pos, slot := i, gen := nextGenOf s (bits v 62 59) (bits v 58 49) }
    ∧ SMap.get 0 (directBinding s pos i v).prt.gens (1024 * bits v 62 59 + bits v 58 49) = nextGenOf s (bits v 62 59) (bits v 58 49)
    ∧ (steer s pos < s.tiles.length → (tileAt (directBinding s pos i v) (steer s pos)).bindings = (tileAt s (steer s pos)).bindings.set i
        { valid := true, part := bits v 62 59, vtile := bits v 58 49, gen := nextGenOf s (bits v 62 59) (bits v 58 49), ntBase := bits v 36 23, ntCountM1 := bits v 22 9 }))
  ∧ (∀ s : State, fwRuns s = true →
    (∀ v x, freeTake s = (v, x) → exec (.getMeasurements 1) s = .next (kept s (emit x (.spdm 1 [v % 2 ^ 384]))))
    ∧ exec (.getMeasurements 2) s = .next (kept s (emit s (.spdm 2 [s.ckr.imageDigest, s.clr.fwSlot])))
    ∧ exec (.getMeasurements 3) s = .next (kept s (emit s (.spdm 3 [s.ckr.secVersion])))
    ∧ exec (.getMeasurements 4) s = .next (kept s (emit s (.spdm 4 [s.fuses.part, s.fuses.speed, 0x01, b2n s.fuses.debug, b2n (bit s.ckr.straps 7), s.fuses.revoked])))
    ∧ exec (.getMeasurements 5) s = .next (kept s (emit s (.spdm 5 [sha384 (s.prt.fmk ++ s.prt.pck), s.prt.custody, s.prt.epoch])))
    ∧ exec (.getMeasurements 6) s = .next (kept s (emit s (.spdm 6 [s.prt.directWrites, b2n s.prt.debugUsed])))
    ∧ (∀ p, p < 16 → exec (.getMeasurements (16 + p)) s = .next (kept s (emit s (.spdm (16 + p) [(s.prt.parts.getD p {}).state, (s.prt.parts.getD p {}).digest, (s.prt.parts.getD p {}).epoch])))))

/-- Custody's parties and keys, the direct-write window and attestation (chapter 15). -/
def Obligations.CustodyPartiesAndKeys : Prop := PartyCommands ∧ DirectAndAttest

namespace Sys2Proof.Machine

/-- The message FAULT_MESSAGE_INVALID, which stands for `m` where it fails its check (R463). -/
def invalidFault (s : State) (m : FaultMsg) : FaultMsg :=
  ⟨now s % 2 ^ 64, faultHead Kind.faultMessageInvalid (rqId 0x307 0) 0x307 none none, m.time, m.head⟩

/-- Summary bit `k` set. -/
def withSummary (l : List Nat) (k : Nat) : List Nat := l.set (k / 64) (l.getD (k / 64) 0 ||| 2 ^ (k % 64))

end Sys2Proof.Machine

/-- Processing a message (R463 to R468, R477, R484, R485, R491): the collector takes a message, or FAULT_MESSAGE_INVALID in place of one that
fails its check; it notes the kind and its class, reacts, queues the record where the kind is logged, counts and records it for its partitions,
and notifies. While FLT_STATE is set it is recorded with BYPASS and class 4. A full queue loses the record, and the next one says so. -/
def Sys2Proof.Machine.FaultProcessing : Prop :=
  (∀ (s x : State) (m m' : FaultMsg), clocked s = true → x = meetFltErr { s with flt := { s.flt with inbox := s.flt.inbox.erase m } } → m' = (if mOk m then m else invalidFault s m) →
    (x.flt.fltState = false → exec (.faultMessage m) s = .next (kept s (processMsg x m')))
    ∧ (x.flt.fltState = true → exec (.faultMessage m) s = .next (kept s (processBypass x m'))))
  ∧ (∀ (s a b c d : State) (m : FaultMsg) (e : KindEntry) (cls : Nat) (ps : List Nat), e = kindAt s (mKind m) → cls = appliedClass s m → ps = attributed s m →
      a = react (noteKind s (mKind m) cls) m cls → b = (if e.log then queueRecord a m cls (inSafe s) false else a) →
      c = countParts b cls (if cls = 3 then quarantined s m else ps) → d = (if e.log then windowRecords c m cls (inSafe s) ps else c) →
    processMsg s m = raiseNotices d e ps)
  ∧ (∀ (s : State) (m : FaultMsg),
    ((kindAt s (mKind m)).cls = 3 → isTile (mSubject m) = false → appliedClass s m = 2)
    ∧ (((kindAt s (mKind m)).cls ≠ 3 ∨ isTile (mSubject m) = true) → appliedClass s m = (kindAt s (mKind m)).cls)
    ∧ (∀ p, mPart m = some p → attributed s m = [p])
    ∧ ((tileAt s (mSubject m)).excluded = true → quarantined s m = []))
  ∧ (∀ (s : State) (k cls : Nat), kindAt (noteKind s k cls) k = { kindAt s k with count := ((kindAt s k).count + 1) % 2 ^ 32 }
    ∧ (noteKind s k cls).flt.summary = withSummary s.flt.summary k ∧ (noteKind s k cls).flt.classes = s.flt.classes ||| 2 ^ cls
    ∧ (∀ j, j ≠ k → kindAt (noteKind s k cls) j = kindAt s j))
  ∧ (∀ (s : State) (m : FaultMsg),
    (mOrphan m = none → (∀ c, c < 3 → react s m c = s) ∧ react s m 3 = quarantine s (mSubject m) ∧ react s m 4 = enterSafe s)
    ∧ (∀ o c, mOrphan m = some o → c < 3 → react s m c = sendOrphan s (rqId (mSubject m) o) ((mPart m).getD 0)))
  ∧ (∀ (s : State) (m : FaultMsg) (cls : Nat) (safe bypass : Bool),
    ((s.flt.produced + 2 ^ 32 - s.flt.acked) % 2 ^ 32 < 1024 → queueRecord s m cls safe bypass = { s with flt := { s.flt with
      qrec := SMap.put {} s.flt.qrec (s.flt.produced % 1024) (recordOf m cls s.flt.gap safe bypass), produced := (s.flt.produced + 1) % 2 ^ 32, gap := false } })
    ∧ (1024 ≤ (s.flt.produced + 2 ^ 32 - s.flt.acked) % 2 ^ 32 → queueRecord s m cls safe bypass = { s with flt := { s.flt with
      lost := (s.flt.lost + 1) % 2 ^ 32, lostBit := true, gap := true } })
    ∧ (∀ p, p < s.flt.parts.length → ((windowRecord s m cls safe p).flt.parts.getD p {}).produced = ((s.flt.parts.getD p {}).produced + 1) % 2 ^ 32
      ∧ SMap.get {} (windowRecord s m cls safe p).flt.pwin (64 * p + (s.flt.parts.getD p {}).produced % 64) = recordOf m cls false safe false))
  ∧ (∀ (s : State) (m : FaultMsg), s.flt.stateErr ≠ 3 →
    (processBypass s m).flt.seenSince = mKind m :: s.flt.seenSince.filter (fun k => k != mKind m) ∧ (processBypass s m).clr = s.clr ∧ (processBypass s m).tiles = s.tiles
    ∧ ((s.flt.produced + 2 ^ 32 - s.flt.acked) % 2 ^ 32 < 1024 →
      SMap.get {} (processBypass s m).flt.qrec (s.flt.produced % 1024) = recordOf m 4 s.flt.gap (inSafe s) true))

/-- Reactions and notices (R468, R474 to R477, R480 to R482): Quarantine stops the tile, drops its requests, orphans its locks and leaves the
firmware its follow-up, once; the follow-up suspends the tile's bindings, retires its activations, purges its requesters and marks it failed. Safe
ends every slice, closes the open stages, sets the notice flag and stops work. A function's notice is sent at once where 16,000 cc have passed since its last, and otherwise at the end of that
interval. -/
def Sys2Proof.Machine.Reactions : Prop :=
  (∀ (s : State) (u : Nat), u < s.tiles.length →
    ((tileAt s u).excluded = true → quarantine s u = s)
    ∧ ((tileAt s u).excluded = false → tileAt (quarantine s u) u = excludeTile (tileAt s u) ∧ (quarantine s u).flt.followUps = s.flt.followUps ++ [u]
      ∧ (∀ k, k ≠ u → tileAt (quarantine s u) k = tileAt s k) ∧ (∀ o ∈ (quarantine s u).outs, o.unit ≠ u) ∧ (quarantine s u).clr = s.clr
      ∧ (quarantine s u).net = s.net ++ [{ cls := 0, dest := 0x304, src := rqId 0x307 0, part := (tilePart (tileAt s u)).getD 0, tag := 0, body := .orphanNotify (rqId u 0) ((tilePart (tileAt s u)).getD 0) }]))
  ∧ (∀ t : Tile, (excludeTile t).excluded = true ∧ (excludeTile t).thread.running = false ∧ (excludeTile t).kern.running = false ∧ (excludeTile t).job = none ∧ (excludeTile t).xfers = []
    ∧ (excludeTile t).bindings = t.bindings ∧ (excludeTile t).store = t.store)
  ∧ (∀ (s : State) (u : Nat) (l : List Nat), s.flt.followUps = u :: l → fwRuns s = true → clocked s = true → inSafe s = false →
    exec .quarantineFollowUp s = .next (kept s (markFailed (purgeTile (retireOn (suspendTile { s with flt := { s.flt with followUps := l } } u) u (fun _ => true)) 0x307
      ((tilePart (tileAt s u)).getD 0) u) u)))
  ∧ (∀ (s : State) (u : Nat), (∀ b ∈ (tileAt (suspendTile s u) u).bindings, b.valid = false) ∧ (∀ k, k ≠ u → tileAt (suspendTile s u) k = tileAt s k)
    ∧ (∀ b x, b ∈ (tileAt s u).bindings → b.valid = true → (∀ c ∈ (tileAt s u).bindings, c.valid = true → c.part = b.part) → SMap.get none s.place (1024 * b.part + b.vtile) = some x →
      ∃ y, SMap.get none (suspendTile s u).place (1024 * b.part + b.vtile) = some y ∧ y.suspended = true))
  ∧ (∀ (s : State) (u : Nat), u < 0x100 → thicketOff (groveAt s (u / 16)) (u % 16 / 4) = false →
    (spareFree s (u / 16) = true → (markFailed s u).ckr.engage = s.ckr.engage ++ [(0x100 + u / 16, u)] ∧ (markFailed s u).tiles = s.tiles)
    ∧ (spareFree s (u / 16) = false → markFailed s u = removeThicket s (u / 4)))
  ∧ (∀ s : State, inSafe s = false → (enterSafe s).clr.mode = .safe ∧ (enterSafe s).flt.alert = true ∧ (enterSafe s).slices = [] ∧ working (enterSafe s) = false
    ∧ (∀ x ∈ (enterSafe s).prt.stages, 2 ≤ x.phase) ∧ (enterSafe s).ldg.cnt.safeEntries = satInc 32 s.ldg.cnt.safeEntries ∧ (enterSafe s).flt.returning = s.flt.returning)
  ∧ (∀ s : State, inSafe s = true → (s.flt.returning = none → enterSafe s = s) ∧ (s.flt.returning ≠ none → enterSafe s = { s with flt := { s.flt with reenter := true } }))
  ∧ (∀ (s : State) (port fn t : Nat) (n : Notice), clocked s = true → n = SMap.get {} s.flt.notices (fnKey port fn) → n.deferred = true → n.last = some t → t + 16000 ≤ now s →
    exec (.noticeIntervalEnd port fn) s = .next (kept s (noticeFn { s with flt := { s.flt with notices := SMap.put {} s.flt.notices (fnKey port fn) { n with deferred := false } } } (port, fn))))
  ∧ (∀ (s : State) (port fn : Nat) (n : Notice), n = SMap.get {} s.flt.notices (fnKey port fn) →
    ((∀ t, n.last = some t → t + 16000 ≤ now s) →
      noticeFn s (port, fn) = signalVec { s with flt := { s.flt with notices := SMap.put {} s.flt.notices (fnKey port fn) { last := some (now s) } } } port fn 0)
    ∧ (∀ t, n.last = some t → now s < t + 16000 →
      noticeFn s (port, fn) = { s with flt := { s.flt with notices := SMap.put {} s.flt.notices (fnKey port fn) { n with deferred := true } } }))
  ∧ (∀ (s : State) (e : KindEntry) (ps : List Nat),
    (e.notify = false → e.notifyPc = false → raiseNotices s e ps = s)
    ∧ (e.notify = false → e.notifyPc = true → raiseNotices s e ps = { s with flt := { s.flt with alert := true } })
    ∧ (e.notify = true → e.notifyPc = false → raiseNotices s e ps = noticeAll s ((0, 0) :: (1, 0) :: (ps.flatMap (fnsOf s)).filter (fun x => x.2 != 0))))

/-- Fault messages (chapter 16). -/
def Obligations.FaultMessages : Prop := FaultProcessing ∧ Reactions

/-- Safe and the collector's protection (R467, R478 to R480, R482 to R484, R487, R488, R491): SAFE_EXIT by its register, by MCTP or by the firmware is refused while a
cause or a status bit is present, and otherwise starts the return; the return discards run state and leaves every partition DISARMED and every ring
set and region DISABLED. ALERT_ACK clears the notice flag. A kind-table write within the class limits is made. A stored error of the collector's state
is corrected, or makes the part enter Safe by BYPASS until reinitialisation. The firmware copies the oldest record. A comparator mismatch, a delay register's
parity error and a failed self-test halt the pair. -/
def Obligations.SafeAndProtection : Prop :=
  (∀ s : State,
    (fwRuns s = true → exec (.safeExit .firmware) s = .next (kept s (safeExit s)))
    ∧ (∀ party v, fwRuns s = true → outOfService s 11 = false → exec (.safeExit (.mctp party v)) s = .next (kept s (answerOpen (safeExit s) party)))
    ∧ (∀ b v x, accessorPresent s (.fn b 0) = true → s.flt.stateErr = 0 → (x = .whole v ∨ x = .low v) →
      (v % 2 ^ 32 = 0x5AFE → exec (.safeExit (.register (.fn b 0) x)) s = .next (kept s (safeExit s)))
      ∧ (v % 2 ^ 32 ≠ 0x5AFE → exec (.safeExit (.register (.fn b 0) x)) s = .next (kept s s))))
  ∧ (∀ s : State, clocked s = true → inSafe s = true → s.flt.returning = none →
    (fltCause s = 0 → statusSet s = false → safeExit s = { s with flt := { s.flt with exitResult := 1, returning := some (now s + usToCc s 2000), reenter := false } })
    ∧ (fltCause s ≠ 0 → safeExit s = { s with flt := { s.flt with exitResult := 3 } })
    ∧ (fltCause s = 0 → statusSet s = true → safeExit s = { s with flt := { s.flt with exitResult := 2 } }))
  ∧ (∀ s : State, (inSafe s = false ∨ s.flt.returning ≠ none) → safeExit s = s)
  ∧ (∀ (s a b c d : State), clocked s = true → supClocked s = true → s.flt.returning ≠ none → a = unitsSafe (runCleared s) →
      b = { a with clr := { a.clr with mode := .configuration }, flt := { a.flt with returning := none, reenter := false } } →
      c = (if fwRuns b then (if b.ckr.reached then setStep (refreshService b) 0x0A else serviceSteps b) else b) → d = allFns.foldl (fun s x => sendPending s x.1 x.2) c →
    (s.flt.reenter = false → exec .safeReturn s = .next (kept s d)) ∧ (s.flt.reenter = true → exec .safeReturn s = .next (kept s (enterSafe d))))
  ∧ (∀ s : State, (∀ x ∈ (unitsSafe (runCleared s)).prt.parts, x.state ≠ 1) ∧ (∀ x ∈ (unitsSafe (runCleared s)).rings, x.2.state = 0)
    ∧ (∀ r ∈ (unitsSafe (runCleared s)).spr.regions, r.state = 0) ∧ (unitsSafe (runCleared s)).tiles = s.tiles.map tileSafe
    ∧ (∀ p c, 0 < c → ctxState (unitsSafe (runCleared s)) p c = 0) ∧ (unitsSafe (runCleared s)).lck.waits = [])
  ∧ (∀ t : Tile, (tileSafe t).pcache = List.replicate 64 none ∧ (tileSafe t).actSlot = [none, none]
    ∧ (t.excluded = false → (tileSafe t).thread.running = false ∧ (tileSafe t).kern.running = false ∧ (tileSafe t).store = [] ∧ (tileSafe t).ovf = [] ∧ (tileSafe t).iq = []
      ∧ (tileSafe t).fq = [] ∧ (tileSafe t).xfers = [] ∧ (tileSafe t).v = List.replicate 32 {}))
  ∧ (∀ s : State, outOfService s 11 = false → exec .alertAck s = .next (kept s { s with flt := { s.flt with alert := false } }))
  ∧ (∀ (s : State) (k c : Nat) (log notify pc : Bool),
    (fwRuns s = true → clocked s = true → k < 1024 → kindClassOk k c = true →
      exec (.kindTableWrite k c log notify pc) s = .next (kept s (setKind s k { kindAt s k with cls := c, log := log, notify := notify, notifyPc := pc })))
    ∧ (kindClassOk k c = false → exec (.kindTableWrite k c log notify pc) s = .next (kept s s))
    ∧ (kindDefault k = some 4 → kindClassOk k c = decide (c = 4))
    ∧ (k ∈ floorQuarantine → c < 3 → kindClassOk k c = false) ∧ (kindDefault k = none → c ≠ 0 → kindClassOk k c = false))
  ∧ (∀ s : State, clocked s = true →
    (s.flt.stateErr = 0 → exec .collectorScrub s = .next (kept s s))
    ∧ (s.flt.stateErr = 1 → exec .collectorScrub s = .next (kept s (raise { s with flt := { s.flt with stateErr := 0 } } Kind.fltStateCorrected (rqId 0x307 0) none 0 0)))
    ∧ (2 ≤ s.flt.stateErr → s.flt.fltState = true → exec .collectorScrub s = .next (kept s s))
    ∧ (2 ≤ s.flt.stateErr → s.flt.fltState = false → exec .collectorScrub s = .next (kept s (bypassSafe s))
      ∧ (bypassSafe s).clr.mode = .safe ∧ (bypassSafe s).flt.bypass = true ∧ (bypassSafe s).flt.fltState = true ∧ (bypassSafe s).flt.seenSince = [Kind.fltStateError]
      ∧ bit (bypassSafe s).flt.classes 4 = true))
  ∧ (∀ s : State, fwRuns s = true → s.flt.fltState = true → exec .collectorReinit s = .next (kept s { s with flt := { s.flt with
      fltState := false, stateErr := 0, kinds := [], summary := s.flt.seenSince.foldl withSummary (List.replicate 16 0), seenSince := [], qrec := [], pwin := []
      acked := s.flt.produced, gap := false } }))
  ∧ (∀ s : State, fwRuns s = true → s.flt.produced ≠ s.flt.acked →
    exec .recordAcknowledge s = .next (kept s (takeRecord { s with flt := { s.flt with acked := (s.flt.acked + 1) % 2 ^ 32 } } (SMap.get {} s.flt.qrec (s.flt.acked % 1024)))))
  ∧ (∀ (s : State) (m : FaultMsg) (k c : Nat), k = bits m.head 9 0 → c = bits m.head 12 10 →
    SMap.get 0 (takeRecord s m).ldg.cnt.kinds k = satInc 32 (SMap.get 0 s.ldg.cnt.kinds k)
    ∧ (eventDue s k c (bit m.head 58) = false → (takeRecord s m).ldg.cnt.suppressed = satInc 64 s.ldg.cnt.suppressed ∧ (takeRecord s m).ldg.queue = s.ldg.queue)
    ∧ (eventDue s k c (bit m.head 58) = true → s.ldg.dead = false → ∃ w, (takeRecord s m).ldg.queue = s.ldg.queue ++ [w] ∧ w.ring = 5 ∧ w.type = 0x10
      ∧ w.payload.take 32 = leBytes 8 m.time ++ leBytes 8 m.head ++ leBytes 8 m.addr ++ leBytes 8 m.detail)
    ∧ eventDue s k c (bit m.head 58) = (decide (3 ≤ c) || bit m.head 58 || ((decide (c = 1) || decide (c = 2)) && decide (s.ldg.budget < 16)) || !(NSet.has s.ldg.seen k)))
  ∧ (∀ s : State, supClocked s = true → s.chk.halted = false →
    exec .checkerMismatch s = .next (kept s (raise { s with chk := { s.chk with halted := true, passed := false, mismatch := true } } Kind.checkerMismatch (rqId 0x308 0) none 0 0))
    ∧ exec .delayRegisterParityError s = .next (kept s (raise { s with chk := { s.chk with halted := true, passed := false, lost := true } } Kind.checkerLost (rqId 0x308 0) none 0 0))
    ∧ exec (.checkerInjection true) s = .next (kept s { s with chk := { s.chk with
        position := (s.chk.position + 1) % 256, tests := (s.chk.tests + 1) % 2 ^ 32, passed := true } })
    ∧ exec (.checkerInjection false) s = .next (kept s (raise { s with chk := { s.chk with
        position := (s.chk.position + 1) % 256, halted := true, passed := false, lost := true } } Kind.checkerLost (rqId 0x308 0) none 0 0)))

/-- The ledger (R540, R546, R550, R552): a checkpoint that is due joins the queue, or the one that waits there; a flush, by MCTP or by LDG.CTRL, asks for
one and is answered when it completes. Lines are returned with their ECC status and a request beyond the array is refused. A calendar anchor is kept
and recorded as an event, one out of range refused. The status registers are returned. A write of LDG.READ_ADDR reads its line into the window. -/
def Obligations.LedgerCommands : Prop :=
  (∀ s : State, fwRuns s = true →
    (s.ldg.loaded = true → s.ldg.ckptAt + usToCc s 60000000 ≤ supNow s → exec .checkpoint s = .next (kept s (askCheckpoint s [])))
    ∧ (∀ party v, outOfService s 11 = false →
      (s.ldg.dead = false → exec (.ledgerFlush (.mctp party v)) s = .next (kept s (askCheckpoint s [party % 2])))
      ∧ (s.ldg.dead = true → ∀ n x, freeTake s = (n, x) → exec (.ledgerFlush (.mctp party v)) s = .next (kept s (emit x (.mctp (party % 2) [n % 256])))))
    ∧ (∀ b v x, accessorPresent s (.fn b 0) = true → inSafe s = false → s.ldg.dead = false → (x = .whole v ∨ x = .low v) →
      (bit v 0 = true → exec (.ledgerFlush (.register (.fn b 0) x)) s = .next (kept s (askCheckpoint { s with ldg := { s.ldg with flush := true } } [2])))
      ∧ (bit v 0 = false → exec (.ledgerFlush (.register (.fn b 0) x)) s = .next (kept s s))))
  ∧ (∀ (s : State) (ws : List Nat), s.ldg.dead = false →
    ((∀ w ∈ s.ldg.queue, w.ring ≠ 4 ∨ w.seq ≠ none) → askCheckpoint s ws = { s with ldg := { s.ldg with queue := s.ldg.queue ++ [{ ring := 4, type := 5, waiters := ws }] } })
    ∧ ((∃ w ∈ s.ldg.queue, w.ring = 4 ∧ w.seq = none) → askCheckpoint s ws = { s with ldg := { s.ldg with
        queue := s.ldg.queue.map (fun w => if w.ring = 4 ∧ w.seq = none then { w with waiters := w.waiters ++ ws } else w) } }))
  ∧ (∀ (s : State) (party : Nat), fwRuns s = true → outOfService s 11 = false →
    (∀ line count, (0xFFFF < line ∨ count = 0 ∨ 16 < count ∨ 0xFFFF < line + count - 1) → exec (.ledgerRead party line count) s = .next (kept s (emit s (.mctp party [0x11]))))
    ∧ (∀ line count x l, line ≤ 0xFFFF → 1 ≤ count → count ≤ 16 → line + count - 1 ≤ 0xFFFF → readLines s ((List.range count).map (fun i => i + line)) = (x, l) →
      exec (.ledgerRead party line count) s = .next (kept s (emit x (.mctp party (0 :: l)))) ∧ l.length = 9 * count)
    ∧ (∀ line, line ≤ 0xFFFF → SMap.get 0 s.array.errs line = 0 →
      exec (.ledgerRead party line 1) s = .next (kept s (emit s (.mctp party ([0, 0] ++ (List.range 8).map (fun w => payN (arrayLine s line) (8 * w) 8))))))
    ∧ (∀ secs nanos, (2 ^ 40 ≤ secs ∨ 2 ^ 30 ≤ nanos) → exec (.setCalendar party secs nanos) s = .next (kept s (emit s (.mctp party [0x11]))))
    ∧ (∀ secs nanos, secs < 2 ^ 40 → nanos < 2 ^ 30 → exec (.setCalendar party secs nanos) s = .next (kept s (emit
        (queueEvent { s with ldg := { s.ldg with calendar := some (secs, now s) } } 0x12 (leBytes 8 (now s) ++ leBytes 8 secs ++ leBytes 4 nanos ++ leBytes 1 party)) (.mctp party [0]))))
    ∧ exec (.ledgerStatus party) s = .next (kept s (emit s (.mctp party ([0, ledgerStatusWord s, s.ldg.cnt.boots, s.ldg.cnt.poweredS]
        ++ (List.range 6).map (ledgerRingWord s))))))
  ∧ (∀ (s : State) (n : Nat),
    (SMap.get 0 s.array.errs n = 0 → readArrayLine s n = (s, arrayLine s n, false))
    ∧ (SMap.get 0 s.array.errs n = 1 → readArrayLine s n = (ldgRaise { s with array := { s.array with errs := SMap.put 0 s.array.errs n 0 } } Kind.ledgerCorrected n, arrayLine s n, false))
    ∧ (2 ≤ SMap.get 0 s.array.errs n → readArrayLine s n = (ldgRaise s Kind.ledgerUncorrectable n, arrayLine s n, true)))
  ∧ (∀ (s y : State) (b v : Nat) (x : RegPart) (bs : List Byte) (bad : Bool), accessorPresent s (.fn b 0) = true → inSafe s = false → supClocked s = true → (x = .whole v ∨ x = .low v) →
      readArrayLine s (v % 2 ^ 16) = (y, bs, bad) →
    exec (.readAddrWrite (.fn b 0) x) s = .next (kept s { y with ldg := { y.ldg with readAddr := v % 2 ^ 16, readValid := true, readPoison := bad, readData := bs } }))

/-- Power and temperature (R571 to R575, R577): the package power is the regulator's and the board's other power; while PWR_BRAKE_N is high the power
level rises by one above the limit, falls by one below 95 % of it, and rises where telemetry fails for the fourth time; a failed read is a
PMBUS_ERROR. The thermal level follows the hottest sensor. The level applied is 15 while PWR_BRAKE_N is low, else the larger. A
regulator fault is recorded once. The set point moves by 5 mV within 700 to 850 mV, and is held in Safe. A reading drives THERM_N and
the critical condition, each with its hysteresis. -/
def Sys2Proof.Machine.PowerAndTemperature : Prop :=
  (∀ (s m : State) (p mw l : Nat), fwRuns s = true → mw = p + 1000 * s.brd.otherW → l = s.brd.powerLvl → m = { s with brd := { s.brd with powerW := mw / 1000 % 1024, noTelemetry := 0 } } →
    (s.brd.brake = true → exec (.powerLevelStep (some p)) s = .next (kept s m))
    ∧ (s.brd.brake = false →
      (1000 * s.brd.limitW < mw → l ≠ 0 → exec (.powerLevelStep (some p)) s = .next (kept s { m with brd := { m.brd with powerLvl := min 15 (l + 1) } }))
      ∧ (1000 * s.brd.limitW < mw → l = 0 → exec (.powerLevelStep (some p)) s = .next (kept s (raise { m with brd := { m.brd with powerLvl := 1 } } Kind.powerLimitThrottle fwId none 0 0)))
      ∧ (mw ≤ 1000 * s.brd.limitW → mw < 950 * s.brd.limitW → exec (.powerLevelStep (some p)) s = .next (kept s { m with brd := { m.brd with powerLvl := l - 1 } }))
      ∧ (950 * s.brd.limitW ≤ mw → mw ≤ 1000 * s.brd.limitW → exec (.powerLevelStep (some p)) s = .next (kept s m))))
  ∧ (∀ (s m : State), fwRuns s = true → m = raise { s with brd := { s.brd with noTelemetry := s.brd.noTelemetry + 1 } } Kind.pmbusError pmbusId none 0 0 →
    ((s.brd.brake = true ∨ s.brd.noTelemetry < 3) → exec (.powerLevelStep none) s = .next (kept s m))
    ∧ (s.brd.brake = false → 3 ≤ s.brd.noTelemetry → exec (.powerLevelStep none) s = .next (kept s (setPowerLevel m (min 15 (s.brd.powerLvl + 1))))))
  ∧ (∀ s : State, fwRuns s = true →
    (4 * (s.brd.throttleC : Int) ≤ s.brd.tj → s.brd.thermalLvl = 0 →
      exec .thermalLevelStep s = .next (kept s (raise { s with brd := { s.brd with thermalLvl := 1 } } Kind.thermalThrottle fwId none 0 0)))
    ∧ (4 * (s.brd.throttleC : Int) ≤ s.brd.tj → s.brd.thermalLvl ≠ 0 →
      exec .thermalLevelStep s = .next (kept s { s with brd := { s.brd with thermalLvl := min 15 (s.brd.thermalLvl + 1) } }))
    ∧ (s.brd.tj < 4 * (s.brd.throttleC : Int) → s.brd.tj < 4 * ((s.brd.throttleC : Int) - 3) →
      exec .thermalLevelStep s = .next (kept s { s with brd := { s.brd with thermalLvl := s.brd.thermalLvl - 1 } }))
    ∧ (4 * ((s.brd.throttleC : Int) - 3) ≤ s.brd.tj → s.brd.tj < 4 * (s.brd.throttleC : Int) → exec .thermalLevelStep s = .next (kept s s)))
  ∧ (∀ s : State, fwRuns s = true →
    (s.brd.vrFault = false → exec (.vrAlert (some true)) s = .next (kept s (raise { s with brd := { s.brd with vrFault := true } } Kind.vrFault pmbusId none 0 0)))
    ∧ (s.brd.vrFault = true → exec (.vrAlert (some true)) s = .next (kept s s))
    ∧ exec (.vrAlert (some false)) s = .next (kept s { s with brd := { s.brd with vrFault := false } })
    ∧ exec (.vrAlert none) s = .next (kept s (raise s Kind.pmbusError pmbusId none 0 0))
    ∧ (∀ up down, inSafe s = true → exec (.vcoreTrim up down) s = .next (kept s s))
    ∧ (∀ down, inSafe s = false → s.brd.vcore + 5 ≤ 850 → exec (.vcoreTrim true down) s = .next (kept s { s with brd := { s.brd with vcore := s.brd.vcore + 5 } }))
    ∧ (∀ down, inSafe s = false → 850 < s.brd.vcore + 5 → exec (.vcoreTrim true down) s = .next (kept s s))
    ∧ (inSafe s = false → 705 ≤ s.brd.vcore → exec (.vcoreTrim false true) s = .next (kept s { s with brd := { s.brd with vcore := s.brd.vcore - 5 } }))
    ∧ (inSafe s = false → s.brd.vcore < 705 → exec (.vcoreTrim false true) s = .next (kept s s))
    ∧ (inSafe s = false → exec (.vcoreTrim false false) s = .next (kept s s)))
  ∧ (∀ (s : State) (low : Bool), s.clk.powered = true → exec (.pwrBrake low) s = .next (kept s { s with brd := { s.brd with brake := low } }))
  ∧ (∀ s : State, (s.brd.brake = true → appliedLevel s = 15) ∧ (s.brd.brake = false → appliedLevel s = max s.brd.powerLvl s.brd.thermalLvl))
  ∧ (∀ (s : State) (tj : Int) (low hot : Bool), supClocked s = true →
      low = (if 4 * (s.brd.thermC : Int) ≤ tj then true else if tj < 4 * ((s.brd.thermC : Int) - 3) then false else s.brd.thermLow) →
      hot = (if 4 * (s.brd.critC : Int) ≤ tj then true else if tj < 4 * ((s.brd.critC : Int) - 5) then false else s.brd.tjHot) →
    ((hot = false ∨ s.brd.tjHot = true) → exec (.sensorReading tj) s = .next (kept s { s with brd := { s.brd with tj := tj, thermLow := low, tjHot := hot } }))
    ∧ (hot = true → s.brd.tjHot = false →
      exec (.sensorReading tj) s = .next (kept s (raise { s with brd := { s.brd with tj := tj, thermLow := low, tjHot := hot } } Kind.thermalCritical monId none 0 0))))

/-- The board's pins and the part's ends (R542, R563, R569, R570, R577): a rail out of range at two checks in a row is recorded, once while it
lasts; VDDIO_1V8 out of range makes the outputs high-impedance; the hardware shutdown stops every clock; power removed leaves only the fuses, the
flash and the array, with the board's own levels; the I3C target takes the address that is meant for it. -/
def Sys2Proof.Machine.BoardPins : Prop :=
  (∀ (s : State) (r : Nat), supClocked s = true →
    exec (.railCheck []) s = .next (kept s { s with brd := { s.brd with railsOnce := [], railsOut := [] } })
    ∧ (NSet.has s.brd.railsOnce r = false → exec (.railCheck [r]) s = .next (kept s { s with brd := { s.brd with railsOnce := [r], railsOut := [] } }))
    ∧ (NSet.has s.brd.railsOnce r = true → NSet.has s.brd.railsOut r = true → exec (.railCheck [r]) s = .next (kept s { s with brd := { s.brd with railsOnce := [r], railsOut := [r] } }))
    ∧ (NSet.has s.brd.railsOnce r = true → NSet.has s.brd.railsOut r = false →
      exec (.railCheck [r]) s = .next (kept s (raise { s with brd := { s.brd with railsOnce := [r], railsOut := [r] } } Kind.supplyOutOfRange monId none 0 0))))
  ∧ (∀ (s : State) (out : Bool), exec (.vddioOutOfRange out) s = .next (kept s { s with brd := { s.brd with vddioOut := out } }))
  ∧ (∀ s : State, (s.brd.vddioOut = true → pinDevOk s = none ∧ pinFaultN s = none ∧ pinSafeN s = none ∧ pinAlertN s = none ∧ pinThermN s = none ∧ pinQspiCsN s = none ∧ pinTdo s = none)
    ∧ (outputsLive s = true → pinSafeN s = some (!(inSafe s) && !s.clk.shutdown) ∧ pinAlertN s = some (!s.flt.alert && !s.clk.shutdown) ∧ pinThermN s = some (!s.brd.thermLow && !s.clk.shutdown)))
  ∧ (∀ s : State, s.clk.powered = true →
    exec .hardwareShutdown s = .next (kept s { s with clk := { s.clk with shutdown := true, coreLocked := false, supLocked := false } })
    ∧ Leaves .powerLoss s (fun t => t.fuses = s.fuses ∧ t.flash = s.flash ∧ t.array = s.array ∧ t.clk.powered = false ∧ clocked t = false ∧ supClocked t = false
        ∧ t.ldg = State.reset.ldg ∧ t.tiles = State.reset.tiles ∧ t.prt = State.reset.prt ∧ t.rings = [] ∧ t.net = [] ∧ t.brd.brake = s.brd.brake ∧ t.brd.vddioOut = s.brd.vddioOut))
  ∧ (∀ (s : State) (addr : Nat), supClocked s = true → outOfService s 11 = false → s.clr.step ≠ 1 → addr < 128 →
    exec (.dynamicAddressAssignment (some (0x64 + bits s.ckr.straps 3 2)) addr) s = .next (kept s { s with brd := { s.brd with i3cDyn := some addr } })
    ∧ exec (.dynamicAddressAssignment none addr) s = .next (kept s { s with brd := { s.brd with i3cDyn := some addr } })
    ∧ (∀ a, a ≠ 0x64 + bits s.ckr.straps 3 2 → exec (.dynamicAddressAssignment (some a) addr) s = .next (kept s s)))

/-- The TAP (R570; its states and their transitions are the model's, log entry 44, taken from IEEE 1149.1): TRST_N low resets it; a rising edge captures or
shifts as its state says and follows TMS; a falling edge drives TDO with the shift register's end, and takes an instruction or data at its update.
Nothing but the TAP changes. -/
def Sys2Proof.Machine.TestAccess : Prop :=
  (∀ (s : State) (tms tdi : Bool) (pins : List Bool), s.clk.powered = true →
    (∀ up, exec (.jtagTckEdge up tms tdi true pins) s = .next (kept s { s with brd := { s.brd with tap := tapReset s.brd.tap } }))
    ∧ exec (.jtagTckEdge true tms tdi false pins) s = .next (kept s { s with brd := { s.brd with tap := tapRise s.brd.tap tms tdi pins } })
    ∧ exec (.jtagTckEdge false tms tdi false pins) s = .next (kept s { s with brd := { s.brd with tap := tapFall s.brd.tap } }))
  ∧ (∀ (t : Tap) (tms tdi : Bool) (pins : List Bool),
    (t.state = 3 → tapRise t tms tdi pins = { t with dr := tapCapture t pins, state := if tms then 5 else 4 })
    ∧ (t.state = 4 → tapRise t tms tdi pins = { t with dr := t.dr.drop 1 ++ [tdi], state := if tms then 5 else 4 })
    ∧ (t.state = 10 → tapRise t tms tdi pins = { t with irShift := 1, state := if tms then 12 else 11 })
    ∧ (t.state = 11 → tapRise t tms tdi pins = { t with
        irShift := t.irShift / 2 + (if tdi then 2 ^ (Config.jtagIrExtra + 1) else 0), state := if tms then 12 else 11 })
    ∧ (t.state = 1 → tapRise t tms tdi pins = { t with state := if tms then 2 else 1 })
    ∧ (t.state = 4 → tapFall t = { t with tdo := t.dr.head? }) ∧ (t.state = 11 → tapFall t = { t with tdo := some (bit t.irShift 0) })
    ∧ (t.state = 15 → tapFall t = { t with tdo := none, ir := t.irShift })
    ∧ (t.state = 8 → tapFall t = { t with tdo := none, cells := if tapSelect t.ir = 2 ∨ tapSelect t.ir = 3 then t.dr else t.cells })
    ∧ (t.state = 1 → tapFall t = { t with tdo := none })
    ∧ (tapSelect t.ir = 1 → tapCapture t pins = (List.range 32).map (fun i => bit Config.jtagIdcode i)) ∧ (tapSelect t.ir = 2 → tapCapture t pins = pins)
    ∧ (tapSelect t.ir = 0 → tapCapture t pins = [false]))

/-- Power, temperature, the board's pins, and the test access port (chapter 19). -/
def Obligations.BoardAndTestAccess : Prop := PowerAndTemperature ∧ BoardPins ∧ TestAccess

namespace Sys2Proof.Machine

/-- The fields of a memory request word are in the ranges that Table 11.10 gives its SPACE, and its other fields are zero. -/
abbrev MemWordFits (m : MemWord) : Prop :=
  (m.space = 0 ∧ m.slot < 4 ∧ m.gen < 2 ^ 12 ∧ m.vtile < 2 ^ 10 ∧ m.off < 2 ^ 20)
  ∨ (m.space = 1 ∧ m.slot = 0 ∧ m.gen = 0 ∧ m.vtile = 0 ∧ m.off < 2 ^ 24)
  ∨ (m.space = 2 ∧ m.slot = 0 ∧ m.gen = 0 ∧ m.vtile = 0 ∧ m.off < 2 ^ 44)

end Sys2Proof.Machine

/-- How packets are laid out (R39, R319 to R325, Tables 11.1 to 11.10): a memory request word gives back its request, and none of SPACE 3 is read. The header of
every flit of a packet gives back its class, destination, source and partition, and its opcode, and the flits that the model sends pass the
check of R325. A TOKEN flit gives back its tokens with their poison marks, and an ACT_TOKENS flit its handle as well. -/
def Obligations.PacketEncodings : Prop :=
  (∀ m : MemWord, MemWordFits m → memWordOf (memWordBits m) = some m)
  ∧ (∀ (v : Nat) (m : MemWord), memWordOf v = some m → MemWordFits m ∧ memWordBits m = v % 2 ^ 64)
  ∧ (∀ v : Nat, bits v 63 62 = 3 → memWordOf v = none)
  ∧ (∀ (p : Packet) (k d : Nat), p.cls < 4 → p.dest < 2 ^ 12 → p.src < 2 ^ 14 → p.part < 16 →
    flitHeader p k < 2 ^ 64 ∧ flitCls ⟨flitHeader p k, d⟩ = p.cls ∧ flitDest ⟨flitHeader p k, d⟩ = p.dest ∧ flitSrc ⟨flitHeader p k, d⟩ = p.src ∧ flitPart ⟨flitHeader p k, d⟩ = p.part)
  ∧ (∀ (p : Packet) (k d : Nat),
    (p.cls = 2 → reqOp p.body ≠ 0 → flitOp ⟨flitHeader p k, d⟩ = reqOp p.body ∧ flitFormOk ⟨flitHeader p k, d⟩ = true)
    ∧ (∀ l x b data po, p.cls = 2 → p.body = .lineWrite l x b data po → flitOp ⟨flitHeader p k, d⟩ = 0x3F ∧ flitFormOk ⟨flitHeader p k, d⟩ = true ∧ flitCount ⟨flitHeader p k, d⟩ = if b then 4 else 1)
    ∧ (∀ sub r, p.cls = 3 → p.body = .rsp sub r → k < bodyFlits p.body →
      flitOp ⟨flitHeader p k, d⟩ = rspOp r ∧ flitFormOk ⟨flitHeader p k, d⟩ = true ∧ flitCount ⟨flitHeader p k, d⟩ = bodyFlits p.body)
    ∧ (∀ op, p.cls = 0 → mgmtOp p.body = some op → flitOp ⟨flitHeader p k, d⟩ = op ∧ flitFormOk ⟨flitHeader p k, d⟩ = true ∧ flitBcast ⟨flitHeader p k, d⟩ = false))
  ∧ (∀ (p : Packet) (gen : Nat) (toks : List Token) (ack : Bool), p.cls = 1 → p.body = .tokens gen toks ack → 1 ≤ toks.length → toks.length ≤ 4 →
    ∃ f, packetFlits p = [f] ∧ flitTokens f = toks ∧ flitHandle f = none ∧ flitFormOk f = true)
  ∧ (∀ (p : Packet) (gen handle : Nat) (toks : List Token), p.cls = 1 → p.body = .actTokens gen toks handle → 1 ≤ toks.length → toks.length ≤ 2 → handle < 2 ^ 32 →
    ∃ f, packetFlits p = [f] ∧ flitTokens f = toks ∧ flitHandle f = some handle ∧ flitFormOk f = true)
end

