-- ==== Sys2Proof/Laws/State.lean ====
section
/-! SUPPORT. What the named updates of State leave alone, one lemma for each field, and what they read back. -/

namespace Sys2Proof.Machine

variable (s : State)

/-- A tile that is replaced reads as what replaced it. -/
@[simp] theorem tileAt_setTile_same (u : Nat) (t : Tile) (h : u < s.tiles.length) : tileAt (setTile s u t) u = t := by
  simp [tileAt, setTile, h]

/-- A tile that is changed reads as what it changes to. -/
@[simp] theorem tileAt_modTile_same (u : Nat) (f : Tile → Tile) (h : u < s.tiles.length) : tileAt (modTile s u f) u = f (tileAt s u) := by
  simp [modTile, h]

/-- Another tile reads as before. -/
@[simp] theorem tileAt_setTile_other (u w : Nat) (t : Tile) (h : u ≠ w) : tileAt (setTile s u t) w = tileAt s w := by
  simp [tileAt, setTile, h]

/-- Another tile reads as before a change. -/
@[simp] theorem tileAt_modTile_other (u w : Nat) (f : Tile → Tile) (h : u ≠ w) : tileAt (modTile s u f) w = tileAt s w := by
  simp [modTile, h]

/-- The number of tiles stays. -/
@[simp] theorem setTile_length (u : Nat) (t : Tile) : (setTile s u t).tiles.length = s.tiles.length := by simp [setTile]

/-- The number of tiles stays under a change. -/
@[simp] theorem modTile_length (u : Nat) (f : Tile → Tile) : (modTile s u f).tiles.length = s.tiles.length := by simp [modTile]

/-! `setTile` -/
@[simp] theorem setTile_clr (u : Nat) (t : Tile) : (setTile s u t).clr = s.clr := rfl
@[simp] theorem setTile_clk (u : Nat) (t : Tile) : (setTile s u t).clk = s.clk := rfl
@[simp] theorem setTile_flt (u : Nat) (t : Tile) : (setTile s u t).flt = s.flt := rfl
@[simp] theorem setTile_chk (u : Nat) (t : Tile) : (setTile s u t).chk = s.chk := rfl
@[simp] theorem setTile_noc (u : Nat) (t : Tile) : (setTile s u t).noc = s.noc := rfl
@[simp] theorem setTile_ctx (u : Nat) (t : Tile) : (setTile s u t).ctx = s.ctx := rfl
@[simp] theorem setTile_sch (u : Nat) (t : Tile) : (setTile s u t).sch = s.sch := rfl
@[simp] theorem setTile_slices (u : Nat) (t : Tile) : (setTile s u t).slices = s.slices := rfl
@[simp] theorem setTile_place (u : Nat) (t : Tile) : (setTile s u t).place = s.place := rfl
@[simp] theorem setTile_sliceMap (u : Nat) (t : Tile) : (setTile s u t).sliceMap = s.sliceMap := rfl
@[simp] theorem setTile_homes (u : Nat) (t : Tile) : (setTile s u t).homes = s.homes := rfl
@[simp] theorem setTile_traceExport (u : Nat) (t : Tile) : (setTile s u t).traceExport = s.traceExport := rfl
@[simp] theorem setTile_net (u : Nat) (t : Tile) : (setTile s u t).net = s.net := rfl
@[simp] theorem setTile_outs (u : Nat) (t : Tile) : (setTile s u t).outs = s.outs := rfl
@[simp] theorem setTile_sendWait (u : Nat) (t : Tile) : (setTile s u t).sendWait = s.sendWait := rfl
@[simp] theorem setTile_rings (u : Nat) (t : Tile) : (setTile s u t).rings = s.rings := rfl
@[simp] theorem setTile_fns (u : Nat) (t : Tile) : (setTile s u t).fns = s.fns := rfl
@[simp] theorem setTile_hif (u : Nat) (t : Tile) : (setTile s u t).hif = s.hif := rfl
@[simp] theorem setTile_brd (u : Nat) (t : Tile) : (setTile s u t).brd = s.brd := rfl
@[simp] theorem setTile_fuses (u : Nat) (t : Tile) : (setTile s u t).fuses = s.fuses := rfl
@[simp] theorem setTile_ckr (u : Nat) (t : Tile) : (setTile s u t).ckr = s.ckr := rfl
@[simp] theorem setTile_flash (u : Nat) (t : Tile) : (setTile s u t).flash = s.flash := rfl
@[simp] theorem setTile_array (u : Nat) (t : Tile) : (setTile s u t).array = s.array := rfl
@[simp] theorem setTile_ldg (u : Nat) (t : Tile) : (setTile s u t).ldg = s.ldg := rfl
@[simp] theorem setTile_klb (u : Nat) (t : Tile) : (setTile s u t).klb = s.klb := rfl
@[simp] theorem setTile_ups (u : Nat) (t : Tile) : (setTile s u t).ups = s.ups := rfl
@[simp] theorem setTile_sts (u : Nat) (t : Tile) : (setTile s u t).sts = s.sts := rfl
@[simp] theorem setTile_sif (u : Nat) (t : Tile) : (setTile s u t).sif = s.sif := rfl
@[simp] theorem setTile_lck (u : Nat) (t : Tile) : (setTile s u t).lck = s.lck := rfl
@[simp] theorem setTile_prt (u : Nat) (t : Tile) : (setTile s u t).prt = s.prt := rfl
@[simp] theorem setTile_trl (u : Nat) (t : Tile) : (setTile s u t).trl = s.trl := rfl
@[simp] theorem setTile_spr (u : Nat) (t : Tile) : (setTile s u t).spr = s.spr := rfl
@[simp] theorem setTile_sent (u : Nat) (t : Tile) : (setTile s u t).sent = s.sent := rfl
@[simp] theorem setTile_replays (u : Nat) (t : Tile) : (setTile s u t).replays = s.replays := rfl
@[simp] theorem setTile_purges (u : Nat) (t : Tile) : (setTile s u t).purges = s.purges := rfl
@[simp] theorem setTile_tagCtrs (u : Nat) (t : Tile) : (setTile s u t).tagCtrs = s.tagCtrs := rfl
@[simp] theorem setTile_freeCtr (u : Nat) (t : Tile) : (setTile s u t).freeCtr = s.freeCtr := rfl
@[simp] theorem setTile_pending (u : Nat) (t : Tile) : (setTile s u t).pending = s.pending := rfl

/-! `modTile` -/
@[simp] theorem modTile_clr (u : Nat) (f : Tile → Tile) : (modTile s u f).clr = s.clr := rfl
@[simp] theorem modTile_clk (u : Nat) (f : Tile → Tile) : (modTile s u f).clk = s.clk := rfl
@[simp] theorem modTile_flt (u : Nat) (f : Tile → Tile) : (modTile s u f).flt = s.flt := rfl
@[simp] theorem modTile_chk (u : Nat) (f : Tile → Tile) : (modTile s u f).chk = s.chk := rfl
@[simp] theorem modTile_noc (u : Nat) (f : Tile → Tile) : (modTile s u f).noc = s.noc := rfl
@[simp] theorem modTile_ctx (u : Nat) (f : Tile → Tile) : (modTile s u f).ctx = s.ctx := rfl
@[simp] theorem modTile_sch (u : Nat) (f : Tile → Tile) : (modTile s u f).sch = s.sch := rfl
@[simp] theorem modTile_slices (u : Nat) (f : Tile → Tile) : (modTile s u f).slices = s.slices := rfl
@[simp] theorem modTile_place (u : Nat) (f : Tile → Tile) : (modTile s u f).place = s.place := rfl
@[simp] theorem modTile_sliceMap (u : Nat) (f : Tile → Tile) : (modTile s u f).sliceMap = s.sliceMap := rfl
@[simp] theorem modTile_homes (u : Nat) (f : Tile → Tile) : (modTile s u f).homes = s.homes := rfl
@[simp] theorem modTile_traceExport (u : Nat) (f : Tile → Tile) : (modTile s u f).traceExport = s.traceExport := rfl
@[simp] theorem modTile_net (u : Nat) (f : Tile → Tile) : (modTile s u f).net = s.net := rfl
@[simp] theorem modTile_outs (u : Nat) (f : Tile → Tile) : (modTile s u f).outs = s.outs := rfl
@[simp] theorem modTile_sendWait (u : Nat) (f : Tile → Tile) : (modTile s u f).sendWait = s.sendWait := rfl
@[simp] theorem modTile_rings (u : Nat) (f : Tile → Tile) : (modTile s u f).rings = s.rings := rfl
@[simp] theorem modTile_fns (u : Nat) (f : Tile → Tile) : (modTile s u f).fns = s.fns := rfl
@[simp] theorem modTile_hif (u : Nat) (f : Tile → Tile) : (modTile s u f).hif = s.hif := rfl
@[simp] theorem modTile_brd (u : Nat) (f : Tile → Tile) : (modTile s u f).brd = s.brd := rfl
@[simp] theorem modTile_fuses (u : Nat) (f : Tile → Tile) : (modTile s u f).fuses = s.fuses := rfl
@[simp] theorem modTile_ckr (u : Nat) (f : Tile → Tile) : (modTile s u f).ckr = s.ckr := rfl
@[simp] theorem modTile_flash (u : Nat) (f : Tile → Tile) : (modTile s u f).flash = s.flash := rfl
@[simp] theorem modTile_array (u : Nat) (f : Tile → Tile) : (modTile s u f).array = s.array := rfl
@[simp] theorem modTile_ldg (u : Nat) (f : Tile → Tile) : (modTile s u f).ldg = s.ldg := rfl
@[simp] theorem modTile_klb (u : Nat) (f : Tile → Tile) : (modTile s u f).klb = s.klb := rfl
@[simp] theorem modTile_ups (u : Nat) (f : Tile → Tile) : (modTile s u f).ups = s.ups := rfl
@[simp] theorem modTile_sts (u : Nat) (f : Tile → Tile) : (modTile s u f).sts = s.sts := rfl
@[simp] theorem modTile_sif (u : Nat) (f : Tile → Tile) : (modTile s u f).sif = s.sif := rfl
@[simp] theorem modTile_lck (u : Nat) (f : Tile → Tile) : (modTile s u f).lck = s.lck := rfl
@[simp] theorem modTile_prt (u : Nat) (f : Tile → Tile) : (modTile s u f).prt = s.prt := rfl
@[simp] theorem modTile_trl (u : Nat) (f : Tile → Tile) : (modTile s u f).trl = s.trl := rfl
@[simp] theorem modTile_spr (u : Nat) (f : Tile → Tile) : (modTile s u f).spr = s.spr := rfl
@[simp] theorem modTile_sent (u : Nat) (f : Tile → Tile) : (modTile s u f).sent = s.sent := rfl
@[simp] theorem modTile_replays (u : Nat) (f : Tile → Tile) : (modTile s u f).replays = s.replays := rfl
@[simp] theorem modTile_purges (u : Nat) (f : Tile → Tile) : (modTile s u f).purges = s.purges := rfl
@[simp] theorem modTile_tagCtrs (u : Nat) (f : Tile → Tile) : (modTile s u f).tagCtrs = s.tagCtrs := rfl
@[simp] theorem modTile_freeCtr (u : Nat) (f : Tile → Tile) : (modTile s u f).freeCtr = s.freeCtr := rfl
@[simp] theorem modTile_pending (u : Nat) (f : Tile → Tile) : (modTile s u f).pending = s.pending := rfl

/-! `raiseMsg` -/
@[simp] theorem raiseMsg_clr (m : FaultMsg) : (raiseMsg s m).clr = s.clr := rfl
@[simp] theorem raiseMsg_clk (m : FaultMsg) : (raiseMsg s m).clk = s.clk := rfl
@[simp] theorem raiseMsg_chk (m : FaultMsg) : (raiseMsg s m).chk = s.chk := rfl
@[simp] theorem raiseMsg_noc (m : FaultMsg) : (raiseMsg s m).noc = s.noc := rfl
@[simp] theorem raiseMsg_ctx (m : FaultMsg) : (raiseMsg s m).ctx = s.ctx := rfl
@[simp] theorem raiseMsg_sch (m : FaultMsg) : (raiseMsg s m).sch = s.sch := rfl
@[simp] theorem raiseMsg_tiles (m : FaultMsg) : (raiseMsg s m).tiles = s.tiles := rfl
@[simp] theorem raiseMsg_slices (m : FaultMsg) : (raiseMsg s m).slices = s.slices := rfl
@[simp] theorem raiseMsg_place (m : FaultMsg) : (raiseMsg s m).place = s.place := rfl
@[simp] theorem raiseMsg_sliceMap (m : FaultMsg) : (raiseMsg s m).sliceMap = s.sliceMap := rfl
@[simp] theorem raiseMsg_homes (m : FaultMsg) : (raiseMsg s m).homes = s.homes := rfl
@[simp] theorem raiseMsg_traceExport (m : FaultMsg) : (raiseMsg s m).traceExport = s.traceExport := rfl
@[simp] theorem raiseMsg_net (m : FaultMsg) : (raiseMsg s m).net = s.net := rfl
@[simp] theorem raiseMsg_outs (m : FaultMsg) : (raiseMsg s m).outs = s.outs := rfl
@[simp] theorem raiseMsg_sendWait (m : FaultMsg) : (raiseMsg s m).sendWait = s.sendWait := rfl
@[simp] theorem raiseMsg_rings (m : FaultMsg) : (raiseMsg s m).rings = s.rings := rfl
@[simp] theorem raiseMsg_fns (m : FaultMsg) : (raiseMsg s m).fns = s.fns := rfl
@[simp] theorem raiseMsg_hif (m : FaultMsg) : (raiseMsg s m).hif = s.hif := rfl
@[simp] theorem raiseMsg_brd (m : FaultMsg) : (raiseMsg s m).brd = s.brd := rfl
@[simp] theorem raiseMsg_fuses (m : FaultMsg) : (raiseMsg s m).fuses = s.fuses := rfl
@[simp] theorem raiseMsg_ckr (m : FaultMsg) : (raiseMsg s m).ckr = s.ckr := rfl
@[simp] theorem raiseMsg_flash (m : FaultMsg) : (raiseMsg s m).flash = s.flash := rfl
@[simp] theorem raiseMsg_array (m : FaultMsg) : (raiseMsg s m).array = s.array := rfl
@[simp] theorem raiseMsg_ldg (m : FaultMsg) : (raiseMsg s m).ldg = s.ldg := rfl
@[simp] theorem raiseMsg_klb (m : FaultMsg) : (raiseMsg s m).klb = s.klb := rfl
@[simp] theorem raiseMsg_ups (m : FaultMsg) : (raiseMsg s m).ups = s.ups := rfl
@[simp] theorem raiseMsg_sts (m : FaultMsg) : (raiseMsg s m).sts = s.sts := rfl
@[simp] theorem raiseMsg_sif (m : FaultMsg) : (raiseMsg s m).sif = s.sif := rfl
@[simp] theorem raiseMsg_lck (m : FaultMsg) : (raiseMsg s m).lck = s.lck := rfl
@[simp] theorem raiseMsg_prt (m : FaultMsg) : (raiseMsg s m).prt = s.prt := rfl
@[simp] theorem raiseMsg_trl (m : FaultMsg) : (raiseMsg s m).trl = s.trl := rfl
@[simp] theorem raiseMsg_spr (m : FaultMsg) : (raiseMsg s m).spr = s.spr := rfl
@[simp] theorem raiseMsg_sent (m : FaultMsg) : (raiseMsg s m).sent = s.sent := rfl
@[simp] theorem raiseMsg_replays (m : FaultMsg) : (raiseMsg s m).replays = s.replays := rfl
@[simp] theorem raiseMsg_purges (m : FaultMsg) : (raiseMsg s m).purges = s.purges := rfl
@[simp] theorem raiseMsg_tagCtrs (m : FaultMsg) : (raiseMsg s m).tagCtrs = s.tagCtrs := rfl
@[simp] theorem raiseMsg_freeCtr (m : FaultMsg) : (raiseMsg s m).freeCtr = s.freeCtr := rfl
@[simp] theorem raiseMsg_pending (m : FaultMsg) : (raiseMsg s m).pending = s.pending := rfl

/-! `sendPkt` -/
@[simp] theorem sendPkt_clr (p : Packet) : (sendPkt s p).clr = s.clr := rfl
@[simp] theorem sendPkt_clk (p : Packet) : (sendPkt s p).clk = s.clk := rfl
@[simp] theorem sendPkt_flt (p : Packet) : (sendPkt s p).flt = s.flt := rfl
@[simp] theorem sendPkt_chk (p : Packet) : (sendPkt s p).chk = s.chk := rfl
@[simp] theorem sendPkt_noc (p : Packet) : (sendPkt s p).noc = s.noc := rfl
@[simp] theorem sendPkt_ctx (p : Packet) : (sendPkt s p).ctx = s.ctx := rfl
@[simp] theorem sendPkt_sch (p : Packet) : (sendPkt s p).sch = s.sch := rfl
@[simp] theorem sendPkt_tiles (p : Packet) : (sendPkt s p).tiles = s.tiles := rfl
@[simp] theorem sendPkt_slices (p : Packet) : (sendPkt s p).slices = s.slices := rfl
@[simp] theorem sendPkt_place (p : Packet) : (sendPkt s p).place = s.place := rfl
@[simp] theorem sendPkt_sliceMap (p : Packet) : (sendPkt s p).sliceMap = s.sliceMap := rfl
@[simp] theorem sendPkt_homes (p : Packet) : (sendPkt s p).homes = s.homes := rfl
@[simp] theorem sendPkt_traceExport (p : Packet) : (sendPkt s p).traceExport = s.traceExport := rfl
@[simp] theorem sendPkt_outs (p : Packet) : (sendPkt s p).outs = s.outs := rfl
@[simp] theorem sendPkt_sendWait (p : Packet) : (sendPkt s p).sendWait = s.sendWait := rfl
@[simp] theorem sendPkt_rings (p : Packet) : (sendPkt s p).rings = s.rings := rfl
@[simp] theorem sendPkt_fns (p : Packet) : (sendPkt s p).fns = s.fns := rfl
@[simp] theorem sendPkt_hif (p : Packet) : (sendPkt s p).hif = s.hif := rfl
@[simp] theorem sendPkt_brd (p : Packet) : (sendPkt s p).brd = s.brd := rfl
@[simp] theorem sendPkt_fuses (p : Packet) : (sendPkt s p).fuses = s.fuses := rfl
@[simp] theorem sendPkt_ckr (p : Packet) : (sendPkt s p).ckr = s.ckr := rfl
@[simp] theorem sendPkt_flash (p : Packet) : (sendPkt s p).flash = s.flash := rfl
@[simp] theorem sendPkt_array (p : Packet) : (sendPkt s p).array = s.array := rfl
@[simp] theorem sendPkt_ldg (p : Packet) : (sendPkt s p).ldg = s.ldg := rfl
@[simp] theorem sendPkt_klb (p : Packet) : (sendPkt s p).klb = s.klb := rfl
@[simp] theorem sendPkt_sts (p : Packet) : (sendPkt s p).sts = s.sts := rfl
@[simp] theorem sendPkt_sif (p : Packet) : (sendPkt s p).sif = s.sif := rfl
@[simp] theorem sendPkt_lck (p : Packet) : (sendPkt s p).lck = s.lck := rfl
@[simp] theorem sendPkt_prt (p : Packet) : (sendPkt s p).prt = s.prt := rfl
@[simp] theorem sendPkt_trl (p : Packet) : (sendPkt s p).trl = s.trl := rfl
@[simp] theorem sendPkt_spr (p : Packet) : (sendPkt s p).spr = s.spr := rfl
@[simp] theorem sendPkt_sent (p : Packet) : (sendPkt s p).sent = s.sent := rfl
@[simp] theorem sendPkt_replays (p : Packet) : (sendPkt s p).replays = s.replays := rfl
@[simp] theorem sendPkt_purges (p : Packet) : (sendPkt s p).purges = s.purges := rfl
@[simp] theorem sendPkt_tagCtrs (p : Packet) : (sendPkt s p).tagCtrs = s.tagCtrs := rfl
@[simp] theorem sendPkt_freeCtr (p : Packet) : (sendPkt s p).freeCtr = s.freeCtr := rfl
@[simp] theorem sendPkt_pending (p : Packet) : (sendPkt s p).pending = s.pending := rfl

/-! `takePkt` -/
@[simp] theorem takePkt_clr (p : Packet) : (takePkt s p).clr = s.clr := rfl
@[simp] theorem takePkt_clk (p : Packet) : (takePkt s p).clk = s.clk := rfl
@[simp] theorem takePkt_flt (p : Packet) : (takePkt s p).flt = s.flt := rfl
@[simp] theorem takePkt_chk (p : Packet) : (takePkt s p).chk = s.chk := rfl
@[simp] theorem takePkt_noc (p : Packet) : (takePkt s p).noc = s.noc := rfl
@[simp] theorem takePkt_ctx (p : Packet) : (takePkt s p).ctx = s.ctx := rfl
@[simp] theorem takePkt_sch (p : Packet) : (takePkt s p).sch = s.sch := rfl
@[simp] theorem takePkt_tiles (p : Packet) : (takePkt s p).tiles = s.tiles := rfl
@[simp] theorem takePkt_slices (p : Packet) : (takePkt s p).slices = s.slices := rfl
@[simp] theorem takePkt_place (p : Packet) : (takePkt s p).place = s.place := rfl
@[simp] theorem takePkt_sliceMap (p : Packet) : (takePkt s p).sliceMap = s.sliceMap := rfl
@[simp] theorem takePkt_homes (p : Packet) : (takePkt s p).homes = s.homes := rfl
@[simp] theorem takePkt_traceExport (p : Packet) : (takePkt s p).traceExport = s.traceExport := rfl
@[simp] theorem takePkt_outs (p : Packet) : (takePkt s p).outs = s.outs := rfl
@[simp] theorem takePkt_sendWait (p : Packet) : (takePkt s p).sendWait = s.sendWait := rfl
@[simp] theorem takePkt_rings (p : Packet) : (takePkt s p).rings = s.rings := rfl
@[simp] theorem takePkt_fns (p : Packet) : (takePkt s p).fns = s.fns := rfl
@[simp] theorem takePkt_hif (p : Packet) : (takePkt s p).hif = s.hif := rfl
@[simp] theorem takePkt_brd (p : Packet) : (takePkt s p).brd = s.brd := rfl
@[simp] theorem takePkt_fuses (p : Packet) : (takePkt s p).fuses = s.fuses := rfl
@[simp] theorem takePkt_ckr (p : Packet) : (takePkt s p).ckr = s.ckr := rfl
@[simp] theorem takePkt_flash (p : Packet) : (takePkt s p).flash = s.flash := rfl
@[simp] theorem takePkt_array (p : Packet) : (takePkt s p).array = s.array := rfl
@[simp] theorem takePkt_ldg (p : Packet) : (takePkt s p).ldg = s.ldg := rfl
@[simp] theorem takePkt_klb (p : Packet) : (takePkt s p).klb = s.klb := rfl
@[simp] theorem takePkt_ups (p : Packet) : (takePkt s p).ups = s.ups := rfl
@[simp] theorem takePkt_sts (p : Packet) : (takePkt s p).sts = s.sts := rfl
@[simp] theorem takePkt_sif (p : Packet) : (takePkt s p).sif = s.sif := rfl
@[simp] theorem takePkt_lck (p : Packet) : (takePkt s p).lck = s.lck := rfl
@[simp] theorem takePkt_prt (p : Packet) : (takePkt s p).prt = s.prt := rfl
@[simp] theorem takePkt_trl (p : Packet) : (takePkt s p).trl = s.trl := rfl
@[simp] theorem takePkt_spr (p : Packet) : (takePkt s p).spr = s.spr := rfl
@[simp] theorem takePkt_sent (p : Packet) : (takePkt s p).sent = s.sent := rfl
@[simp] theorem takePkt_replays (p : Packet) : (takePkt s p).replays = s.replays := rfl
@[simp] theorem takePkt_purges (p : Packet) : (takePkt s p).purges = s.purges := rfl
@[simp] theorem takePkt_tagCtrs (p : Packet) : (takePkt s p).tagCtrs = s.tagCtrs := rfl
@[simp] theorem takePkt_freeCtr (p : Packet) : (takePkt s p).freeCtr = s.freeCtr := rfl
@[simp] theorem takePkt_pending (p : Packet) : (takePkt s p).pending = s.pending := rfl

/-! `respond` -/
@[simp] theorem respond_clr (u : Nat) (rq : Rq) (r : Resp) : (respond s u rq r).clr = s.clr := rfl
@[simp] theorem respond_clk (u : Nat) (rq : Rq) (r : Resp) : (respond s u rq r).clk = s.clk := rfl
@[simp] theorem respond_flt (u : Nat) (rq : Rq) (r : Resp) : (respond s u rq r).flt = s.flt := rfl
@[simp] theorem respond_chk (u : Nat) (rq : Rq) (r : Resp) : (respond s u rq r).chk = s.chk := rfl
@[simp] theorem respond_noc (u : Nat) (rq : Rq) (r : Resp) : (respond s u rq r).noc = s.noc := rfl
@[simp] theorem respond_ctx (u : Nat) (rq : Rq) (r : Resp) : (respond s u rq r).ctx = s.ctx := rfl
@[simp] theorem respond_sch (u : Nat) (rq : Rq) (r : Resp) : (respond s u rq r).sch = s.sch := rfl
@[simp] theorem respond_tiles (u : Nat) (rq : Rq) (r : Resp) : (respond s u rq r).tiles = s.tiles := rfl
@[simp] theorem respond_slices (u : Nat) (rq : Rq) (r : Resp) : (respond s u rq r).slices = s.slices := rfl
@[simp] theorem respond_place (u : Nat) (rq : Rq) (r : Resp) : (respond s u rq r).place = s.place := rfl
@[simp] theorem respond_sliceMap (u : Nat) (rq : Rq) (r : Resp) : (respond s u rq r).sliceMap = s.sliceMap := rfl
@[simp] theorem respond_homes (u : Nat) (rq : Rq) (r : Resp) : (respond s u rq r).homes = s.homes := rfl
@[simp] theorem respond_traceExport (u : Nat) (rq : Rq) (r : Resp) : (respond s u rq r).traceExport = s.traceExport := rfl
@[simp] theorem respond_outs (u : Nat) (rq : Rq) (r : Resp) : (respond s u rq r).outs = s.outs := rfl
@[simp] theorem respond_sendWait (u : Nat) (rq : Rq) (r : Resp) : (respond s u rq r).sendWait = s.sendWait := rfl
@[simp] theorem respond_rings (u : Nat) (rq : Rq) (r : Resp) : (respond s u rq r).rings = s.rings := rfl
@[simp] theorem respond_fns (u : Nat) (rq : Rq) (r : Resp) : (respond s u rq r).fns = s.fns := rfl
@[simp] theorem respond_hif (u : Nat) (rq : Rq) (r : Resp) : (respond s u rq r).hif = s.hif := rfl
@[simp] theorem respond_brd (u : Nat) (rq : Rq) (r : Resp) : (respond s u rq r).brd = s.brd := rfl
@[simp] theorem respond_fuses (u : Nat) (rq : Rq) (r : Resp) : (respond s u rq r).fuses = s.fuses := rfl
@[simp] theorem respond_ckr (u : Nat) (rq : Rq) (r : Resp) : (respond s u rq r).ckr = s.ckr := rfl
@[simp] theorem respond_flash (u : Nat) (rq : Rq) (r : Resp) : (respond s u rq r).flash = s.flash := rfl
@[simp] theorem respond_array (u : Nat) (rq : Rq) (r : Resp) : (respond s u rq r).array = s.array := rfl
@[simp] theorem respond_ldg (u : Nat) (rq : Rq) (r : Resp) : (respond s u rq r).ldg = s.ldg := rfl
@[simp] theorem respond_klb (u : Nat) (rq : Rq) (r : Resp) : (respond s u rq r).klb = s.klb := rfl
@[simp] theorem respond_sts (u : Nat) (rq : Rq) (r : Resp) : (respond s u rq r).sts = s.sts := rfl
@[simp] theorem respond_sif (u : Nat) (rq : Rq) (r : Resp) : (respond s u rq r).sif = s.sif := rfl
@[simp] theorem respond_lck (u : Nat) (rq : Rq) (r : Resp) : (respond s u rq r).lck = s.lck := rfl
@[simp] theorem respond_prt (u : Nat) (rq : Rq) (r : Resp) : (respond s u rq r).prt = s.prt := rfl
@[simp] theorem respond_trl (u : Nat) (rq : Rq) (r : Resp) : (respond s u rq r).trl = s.trl := rfl
@[simp] theorem respond_spr (u : Nat) (rq : Rq) (r : Resp) : (respond s u rq r).spr = s.spr := rfl
@[simp] theorem respond_sent (u : Nat) (rq : Rq) (r : Resp) : (respond s u rq r).sent = s.sent := rfl
@[simp] theorem respond_replays (u : Nat) (rq : Rq) (r : Resp) : (respond s u rq r).replays = s.replays := rfl
@[simp] theorem respond_purges (u : Nat) (rq : Rq) (r : Resp) : (respond s u rq r).purges = s.purges := rfl
@[simp] theorem respond_tagCtrs (u : Nat) (rq : Rq) (r : Resp) : (respond s u rq r).tagCtrs = s.tagCtrs := rfl
@[simp] theorem respond_freeCtr (u : Nat) (rq : Rq) (r : Resp) : (respond s u rq r).freeCtr = s.freeCtr := rfl
@[simp] theorem respond_pending (u : Nat) (rq : Rq) (r : Resp) : (respond s u rq r).pending = s.pending := rfl

/-! `replayAdd` -/
@[simp] theorem replayAdd_clr (u : Nat) (rq : Rq) (d : Option Resp) : (replayAdd s u rq d).clr = s.clr := rfl
@[simp] theorem replayAdd_clk (u : Nat) (rq : Rq) (d : Option Resp) : (replayAdd s u rq d).clk = s.clk := rfl
@[simp] theorem replayAdd_flt (u : Nat) (rq : Rq) (d : Option Resp) : (replayAdd s u rq d).flt = s.flt := rfl
@[simp] theorem replayAdd_chk (u : Nat) (rq : Rq) (d : Option Resp) : (replayAdd s u rq d).chk = s.chk := rfl
@[simp] theorem replayAdd_noc (u : Nat) (rq : Rq) (d : Option Resp) : (replayAdd s u rq d).noc = s.noc := rfl
@[simp] theorem replayAdd_ctx (u : Nat) (rq : Rq) (d : Option Resp) : (replayAdd s u rq d).ctx = s.ctx := rfl
@[simp] theorem replayAdd_sch (u : Nat) (rq : Rq) (d : Option Resp) : (replayAdd s u rq d).sch = s.sch := rfl
@[simp] theorem replayAdd_tiles (u : Nat) (rq : Rq) (d : Option Resp) : (replayAdd s u rq d).tiles = s.tiles := rfl
@[simp] theorem replayAdd_slices (u : Nat) (rq : Rq) (d : Option Resp) : (replayAdd s u rq d).slices = s.slices := rfl
@[simp] theorem replayAdd_place (u : Nat) (rq : Rq) (d : Option Resp) : (replayAdd s u rq d).place = s.place := rfl
@[simp] theorem replayAdd_sliceMap (u : Nat) (rq : Rq) (d : Option Resp) : (replayAdd s u rq d).sliceMap = s.sliceMap := rfl
@[simp] theorem replayAdd_homes (u : Nat) (rq : Rq) (d : Option Resp) : (replayAdd s u rq d).homes = s.homes := rfl
@[simp] theorem replayAdd_traceExport (u : Nat) (rq : Rq) (d : Option Resp) : (replayAdd s u rq d).traceExport = s.traceExport := rfl
@[simp] theorem replayAdd_net (u : Nat) (rq : Rq) (d : Option Resp) : (replayAdd s u rq d).net = s.net := rfl
@[simp] theorem replayAdd_outs (u : Nat) (rq : Rq) (d : Option Resp) : (replayAdd s u rq d).outs = s.outs := rfl
@[simp] theorem replayAdd_sendWait (u : Nat) (rq : Rq) (d : Option Resp) : (replayAdd s u rq d).sendWait = s.sendWait := rfl
@[simp] theorem replayAdd_rings (u : Nat) (rq : Rq) (d : Option Resp) : (replayAdd s u rq d).rings = s.rings := rfl
@[simp] theorem replayAdd_fns (u : Nat) (rq : Rq) (d : Option Resp) : (replayAdd s u rq d).fns = s.fns := rfl
@[simp] theorem replayAdd_hif (u : Nat) (rq : Rq) (d : Option Resp) : (replayAdd s u rq d).hif = s.hif := rfl
@[simp] theorem replayAdd_brd (u : Nat) (rq : Rq) (d : Option Resp) : (replayAdd s u rq d).brd = s.brd := rfl
@[simp] theorem replayAdd_fuses (u : Nat) (rq : Rq) (d : Option Resp) : (replayAdd s u rq d).fuses = s.fuses := rfl
@[simp] theorem replayAdd_ckr (u : Nat) (rq : Rq) (d : Option Resp) : (replayAdd s u rq d).ckr = s.ckr := rfl
@[simp] theorem replayAdd_flash (u : Nat) (rq : Rq) (d : Option Resp) : (replayAdd s u rq d).flash = s.flash := rfl
@[simp] theorem replayAdd_array (u : Nat) (rq : Rq) (d : Option Resp) : (replayAdd s u rq d).array = s.array := rfl
@[simp] theorem replayAdd_ldg (u : Nat) (rq : Rq) (d : Option Resp) : (replayAdd s u rq d).ldg = s.ldg := rfl
@[simp] theorem replayAdd_klb (u : Nat) (rq : Rq) (d : Option Resp) : (replayAdd s u rq d).klb = s.klb := rfl
@[simp] theorem replayAdd_ups (u : Nat) (rq : Rq) (d : Option Resp) : (replayAdd s u rq d).ups = s.ups := rfl
@[simp] theorem replayAdd_sts (u : Nat) (rq : Rq) (d : Option Resp) : (replayAdd s u rq d).sts = s.sts := rfl
@[simp] theorem replayAdd_sif (u : Nat) (rq : Rq) (d : Option Resp) : (replayAdd s u rq d).sif = s.sif := rfl
@[simp] theorem replayAdd_lck (u : Nat) (rq : Rq) (d : Option Resp) : (replayAdd s u rq d).lck = s.lck := rfl
@[simp] theorem replayAdd_prt (u : Nat) (rq : Rq) (d : Option Resp) : (replayAdd s u rq d).prt = s.prt := rfl
@[simp] theorem replayAdd_trl (u : Nat) (rq : Rq) (d : Option Resp) : (replayAdd s u rq d).trl = s.trl := rfl
@[simp] theorem replayAdd_spr (u : Nat) (rq : Rq) (d : Option Resp) : (replayAdd s u rq d).spr = s.spr := rfl
@[simp] theorem replayAdd_sent (u : Nat) (rq : Rq) (d : Option Resp) : (replayAdd s u rq d).sent = s.sent := rfl
@[simp] theorem replayAdd_purges (u : Nat) (rq : Rq) (d : Option Resp) : (replayAdd s u rq d).purges = s.purges := rfl
@[simp] theorem replayAdd_tagCtrs (u : Nat) (rq : Rq) (d : Option Resp) : (replayAdd s u rq d).tagCtrs = s.tagCtrs := rfl
@[simp] theorem replayAdd_freeCtr (u : Nat) (rq : Rq) (d : Option Resp) : (replayAdd s u rq d).freeCtr = s.freeCtr := rfl
@[simp] theorem replayAdd_pending (u : Nat) (rq : Rq) (d : Option Resp) : (replayAdd s u rq d).pending = s.pending := rfl

/-! `replayMark` -/
@[simp] theorem replayMark_clr (u : Nat) (rq : Rq) (f : Replay → Replay) : (replayMark s u rq f).clr = s.clr := rfl
@[simp] theorem replayMark_clk (u : Nat) (rq : Rq) (f : Replay → Replay) : (replayMark s u rq f).clk = s.clk := rfl
@[simp] theorem replayMark_flt (u : Nat) (rq : Rq) (f : Replay → Replay) : (replayMark s u rq f).flt = s.flt := rfl
@[simp] theorem replayMark_chk (u : Nat) (rq : Rq) (f : Replay → Replay) : (replayMark s u rq f).chk = s.chk := rfl
@[simp] theorem replayMark_noc (u : Nat) (rq : Rq) (f : Replay → Replay) : (replayMark s u rq f).noc = s.noc := rfl
@[simp] theorem replayMark_ctx (u : Nat) (rq : Rq) (f : Replay → Replay) : (replayMark s u rq f).ctx = s.ctx := rfl
@[simp] theorem replayMark_sch (u : Nat) (rq : Rq) (f : Replay → Replay) : (replayMark s u rq f).sch = s.sch := rfl
@[simp] theorem replayMark_tiles (u : Nat) (rq : Rq) (f : Replay → Replay) : (replayMark s u rq f).tiles = s.tiles := rfl
@[simp] theorem replayMark_slices (u : Nat) (rq : Rq) (f : Replay → Replay) : (replayMark s u rq f).slices = s.slices := rfl
@[simp] theorem replayMark_place (u : Nat) (rq : Rq) (f : Replay → Replay) : (replayMark s u rq f).place = s.place := rfl
@[simp] theorem replayMark_sliceMap (u : Nat) (rq : Rq) (f : Replay → Replay) : (replayMark s u rq f).sliceMap = s.sliceMap := rfl
@[simp] theorem replayMark_homes (u : Nat) (rq : Rq) (f : Replay → Replay) : (replayMark s u rq f).homes = s.homes := rfl
@[simp] theorem replayMark_traceExport (u : Nat) (rq : Rq) (f : Replay → Replay) : (replayMark s u rq f).traceExport = s.traceExport := rfl
@[simp] theorem replayMark_net (u : Nat) (rq : Rq) (f : Replay → Replay) : (replayMark s u rq f).net = s.net := rfl
@[simp] theorem replayMark_outs (u : Nat) (rq : Rq) (f : Replay → Replay) : (replayMark s u rq f).outs = s.outs := rfl
@[simp] theorem replayMark_sendWait (u : Nat) (rq : Rq) (f : Replay → Replay) : (replayMark s u rq f).sendWait = s.sendWait := rfl
@[simp] theorem replayMark_rings (u : Nat) (rq : Rq) (f : Replay → Replay) : (replayMark s u rq f).rings = s.rings := rfl
@[simp] theorem replayMark_fns (u : Nat) (rq : Rq) (f : Replay → Replay) : (replayMark s u rq f).fns = s.fns := rfl
@[simp] theorem replayMark_hif (u : Nat) (rq : Rq) (f : Replay → Replay) : (replayMark s u rq f).hif = s.hif := rfl
@[simp] theorem replayMark_brd (u : Nat) (rq : Rq) (f : Replay → Replay) : (replayMark s u rq f).brd = s.brd := rfl
@[simp] theorem replayMark_fuses (u : Nat) (rq : Rq) (f : Replay → Replay) : (replayMark s u rq f).fuses = s.fuses := rfl
@[simp] theorem replayMark_ckr (u : Nat) (rq : Rq) (f : Replay → Replay) : (replayMark s u rq f).ckr = s.ckr := rfl
@[simp] theorem replayMark_flash (u : Nat) (rq : Rq) (f : Replay → Replay) : (replayMark s u rq f).flash = s.flash := rfl
@[simp] theorem replayMark_array (u : Nat) (rq : Rq) (f : Replay → Replay) : (replayMark s u rq f).array = s.array := rfl
@[simp] theorem replayMark_ldg (u : Nat) (rq : Rq) (f : Replay → Replay) : (replayMark s u rq f).ldg = s.ldg := rfl
@[simp] theorem replayMark_klb (u : Nat) (rq : Rq) (f : Replay → Replay) : (replayMark s u rq f).klb = s.klb := rfl
@[simp] theorem replayMark_ups (u : Nat) (rq : Rq) (f : Replay → Replay) : (replayMark s u rq f).ups = s.ups := rfl
@[simp] theorem replayMark_sts (u : Nat) (rq : Rq) (f : Replay → Replay) : (replayMark s u rq f).sts = s.sts := rfl
@[simp] theorem replayMark_sif (u : Nat) (rq : Rq) (f : Replay → Replay) : (replayMark s u rq f).sif = s.sif := rfl
@[simp] theorem replayMark_lck (u : Nat) (rq : Rq) (f : Replay → Replay) : (replayMark s u rq f).lck = s.lck := rfl
@[simp] theorem replayMark_prt (u : Nat) (rq : Rq) (f : Replay → Replay) : (replayMark s u rq f).prt = s.prt := rfl
@[simp] theorem replayMark_trl (u : Nat) (rq : Rq) (f : Replay → Replay) : (replayMark s u rq f).trl = s.trl := rfl
@[simp] theorem replayMark_spr (u : Nat) (rq : Rq) (f : Replay → Replay) : (replayMark s u rq f).spr = s.spr := rfl
@[simp] theorem replayMark_sent (u : Nat) (rq : Rq) (f : Replay → Replay) : (replayMark s u rq f).sent = s.sent := rfl
@[simp] theorem replayMark_purges (u : Nat) (rq : Rq) (f : Replay → Replay) : (replayMark s u rq f).purges = s.purges := rfl
@[simp] theorem replayMark_tagCtrs (u : Nat) (rq : Rq) (f : Replay → Replay) : (replayMark s u rq f).tagCtrs = s.tagCtrs := rfl
@[simp] theorem replayMark_freeCtr (u : Nat) (rq : Rq) (f : Replay → Replay) : (replayMark s u rq f).freeCtr = s.freeCtr := rfl
@[simp] theorem replayMark_pending (u : Nat) (rq : Rq) (f : Replay → Replay) : (replayMark s u rq f).pending = s.pending := rfl

/-! `emit` -/
@[simp] theorem emit_clr (m : OutMsg) : (emit s m).clr = s.clr := rfl
@[simp] theorem emit_clk (m : OutMsg) : (emit s m).clk = s.clk := rfl
@[simp] theorem emit_flt (m : OutMsg) : (emit s m).flt = s.flt := rfl
@[simp] theorem emit_chk (m : OutMsg) : (emit s m).chk = s.chk := rfl
@[simp] theorem emit_noc (m : OutMsg) : (emit s m).noc = s.noc := rfl
@[simp] theorem emit_ctx (m : OutMsg) : (emit s m).ctx = s.ctx := rfl
@[simp] theorem emit_sch (m : OutMsg) : (emit s m).sch = s.sch := rfl
@[simp] theorem emit_tiles (m : OutMsg) : (emit s m).tiles = s.tiles := rfl
@[simp] theorem emit_slices (m : OutMsg) : (emit s m).slices = s.slices := rfl
@[simp] theorem emit_place (m : OutMsg) : (emit s m).place = s.place := rfl
@[simp] theorem emit_sliceMap (m : OutMsg) : (emit s m).sliceMap = s.sliceMap := rfl
@[simp] theorem emit_homes (m : OutMsg) : (emit s m).homes = s.homes := rfl
@[simp] theorem emit_traceExport (m : OutMsg) : (emit s m).traceExport = s.traceExport := rfl
@[simp] theorem emit_net (m : OutMsg) : (emit s m).net = s.net := rfl
@[simp] theorem emit_outs (m : OutMsg) : (emit s m).outs = s.outs := rfl
@[simp] theorem emit_sendWait (m : OutMsg) : (emit s m).sendWait = s.sendWait := rfl
@[simp] theorem emit_rings (m : OutMsg) : (emit s m).rings = s.rings := rfl
@[simp] theorem emit_fns (m : OutMsg) : (emit s m).fns = s.fns := rfl
@[simp] theorem emit_hif (m : OutMsg) : (emit s m).hif = s.hif := rfl
@[simp] theorem emit_brd (m : OutMsg) : (emit s m).brd = s.brd := rfl
@[simp] theorem emit_fuses (m : OutMsg) : (emit s m).fuses = s.fuses := rfl
@[simp] theorem emit_ckr (m : OutMsg) : (emit s m).ckr = s.ckr := rfl
@[simp] theorem emit_flash (m : OutMsg) : (emit s m).flash = s.flash := rfl
@[simp] theorem emit_array (m : OutMsg) : (emit s m).array = s.array := rfl
@[simp] theorem emit_ldg (m : OutMsg) : (emit s m).ldg = s.ldg := rfl
@[simp] theorem emit_klb (m : OutMsg) : (emit s m).klb = s.klb := rfl
@[simp] theorem emit_ups (m : OutMsg) : (emit s m).ups = s.ups := rfl
@[simp] theorem emit_sts (m : OutMsg) : (emit s m).sts = s.sts := rfl
@[simp] theorem emit_sif (m : OutMsg) : (emit s m).sif = s.sif := rfl
@[simp] theorem emit_lck (m : OutMsg) : (emit s m).lck = s.lck := rfl
@[simp] theorem emit_prt (m : OutMsg) : (emit s m).prt = s.prt := rfl
@[simp] theorem emit_trl (m : OutMsg) : (emit s m).trl = s.trl := rfl
@[simp] theorem emit_spr (m : OutMsg) : (emit s m).spr = s.spr := rfl
@[simp] theorem emit_replays (m : OutMsg) : (emit s m).replays = s.replays := rfl
@[simp] theorem emit_purges (m : OutMsg) : (emit s m).purges = s.purges := rfl
@[simp] theorem emit_tagCtrs (m : OutMsg) : (emit s m).tagCtrs = s.tagCtrs := rfl
@[simp] theorem emit_freeCtr (m : OutMsg) : (emit s m).freeCtr = s.freeCtr := rfl
@[simp] theorem emit_pending (m : OutMsg) : (emit s m).pending = s.pending := rfl

/-! `setHif` -/
@[simp] theorem setHif_clr (b : Nat) (h : Hif) : (setHif s b h).clr = s.clr := rfl
@[simp] theorem setHif_clk (b : Nat) (h : Hif) : (setHif s b h).clk = s.clk := rfl
@[simp] theorem setHif_flt (b : Nat) (h : Hif) : (setHif s b h).flt = s.flt := rfl
@[simp] theorem setHif_chk (b : Nat) (h : Hif) : (setHif s b h).chk = s.chk := rfl
@[simp] theorem setHif_noc (b : Nat) (h : Hif) : (setHif s b h).noc = s.noc := rfl
@[simp] theorem setHif_ctx (b : Nat) (h : Hif) : (setHif s b h).ctx = s.ctx := rfl
@[simp] theorem setHif_sch (b : Nat) (h : Hif) : (setHif s b h).sch = s.sch := rfl
@[simp] theorem setHif_tiles (b : Nat) (h : Hif) : (setHif s b h).tiles = s.tiles := rfl
@[simp] theorem setHif_slices (b : Nat) (h : Hif) : (setHif s b h).slices = s.slices := rfl
@[simp] theorem setHif_place (b : Nat) (h : Hif) : (setHif s b h).place = s.place := rfl
@[simp] theorem setHif_sliceMap (b : Nat) (h : Hif) : (setHif s b h).sliceMap = s.sliceMap := rfl
@[simp] theorem setHif_homes (b : Nat) (h : Hif) : (setHif s b h).homes = s.homes := rfl
@[simp] theorem setHif_traceExport (b : Nat) (h : Hif) : (setHif s b h).traceExport = s.traceExport := rfl
@[simp] theorem setHif_net (b : Nat) (h : Hif) : (setHif s b h).net = s.net := rfl
@[simp] theorem setHif_outs (b : Nat) (h : Hif) : (setHif s b h).outs = s.outs := rfl
@[simp] theorem setHif_sendWait (b : Nat) (h : Hif) : (setHif s b h).sendWait = s.sendWait := rfl
@[simp] theorem setHif_rings (b : Nat) (h : Hif) : (setHif s b h).rings = s.rings := rfl
@[simp] theorem setHif_fns (b : Nat) (h : Hif) : (setHif s b h).fns = s.fns := rfl
@[simp] theorem setHif_brd (b : Nat) (h : Hif) : (setHif s b h).brd = s.brd := rfl
@[simp] theorem setHif_fuses (b : Nat) (h : Hif) : (setHif s b h).fuses = s.fuses := rfl
@[simp] theorem setHif_ckr (b : Nat) (h : Hif) : (setHif s b h).ckr = s.ckr := rfl
@[simp] theorem setHif_flash (b : Nat) (h : Hif) : (setHif s b h).flash = s.flash := rfl
@[simp] theorem setHif_array (b : Nat) (h : Hif) : (setHif s b h).array = s.array := rfl
@[simp] theorem setHif_ldg (b : Nat) (h : Hif) : (setHif s b h).ldg = s.ldg := rfl
@[simp] theorem setHif_klb (b : Nat) (h : Hif) : (setHif s b h).klb = s.klb := rfl
@[simp] theorem setHif_ups (b : Nat) (h : Hif) : (setHif s b h).ups = s.ups := rfl
@[simp] theorem setHif_sts (b : Nat) (h : Hif) : (setHif s b h).sts = s.sts := rfl
@[simp] theorem setHif_sif (b : Nat) (h : Hif) : (setHif s b h).sif = s.sif := rfl
@[simp] theorem setHif_lck (b : Nat) (h : Hif) : (setHif s b h).lck = s.lck := rfl
@[simp] theorem setHif_prt (b : Nat) (h : Hif) : (setHif s b h).prt = s.prt := rfl
@[simp] theorem setHif_trl (b : Nat) (h : Hif) : (setHif s b h).trl = s.trl := rfl
@[simp] theorem setHif_spr (b : Nat) (h : Hif) : (setHif s b h).spr = s.spr := rfl
@[simp] theorem setHif_sent (b : Nat) (h : Hif) : (setHif s b h).sent = s.sent := rfl
@[simp] theorem setHif_replays (b : Nat) (h : Hif) : (setHif s b h).replays = s.replays := rfl
@[simp] theorem setHif_purges (b : Nat) (h : Hif) : (setHif s b h).purges = s.purges := rfl
@[simp] theorem setHif_tagCtrs (b : Nat) (h : Hif) : (setHif s b h).tagCtrs = s.tagCtrs := rfl
@[simp] theorem setHif_freeCtr (b : Nat) (h : Hif) : (setHif s b h).freeCtr = s.freeCtr := rfl
@[simp] theorem setHif_pending (b : Nat) (h : Hif) : (setHif s b h).pending = s.pending := rfl

/-! `setFn` -/
@[simp] theorem setFn_clr (b f : Nat) (x : Fn) : (setFn s b f x).clr = s.clr := rfl
@[simp] theorem setFn_clk (b f : Nat) (x : Fn) : (setFn s b f x).clk = s.clk := rfl
@[simp] theorem setFn_flt (b f : Nat) (x : Fn) : (setFn s b f x).flt = s.flt := rfl
@[simp] theorem setFn_chk (b f : Nat) (x : Fn) : (setFn s b f x).chk = s.chk := rfl
@[simp] theorem setFn_noc (b f : Nat) (x : Fn) : (setFn s b f x).noc = s.noc := rfl
@[simp] theorem setFn_ctx (b f : Nat) (x : Fn) : (setFn s b f x).ctx = s.ctx := rfl
@[simp] theorem setFn_sch (b f : Nat) (x : Fn) : (setFn s b f x).sch = s.sch := rfl
@[simp] theorem setFn_tiles (b f : Nat) (x : Fn) : (setFn s b f x).tiles = s.tiles := rfl
@[simp] theorem setFn_slices (b f : Nat) (x : Fn) : (setFn s b f x).slices = s.slices := rfl
@[simp] theorem setFn_place (b f : Nat) (x : Fn) : (setFn s b f x).place = s.place := rfl
@[simp] theorem setFn_sliceMap (b f : Nat) (x : Fn) : (setFn s b f x).sliceMap = s.sliceMap := rfl
@[simp] theorem setFn_homes (b f : Nat) (x : Fn) : (setFn s b f x).homes = s.homes := rfl
@[simp] theorem setFn_traceExport (b f : Nat) (x : Fn) : (setFn s b f x).traceExport = s.traceExport := rfl
@[simp] theorem setFn_net (b f : Nat) (x : Fn) : (setFn s b f x).net = s.net := rfl
@[simp] theorem setFn_outs (b f : Nat) (x : Fn) : (setFn s b f x).outs = s.outs := rfl
@[simp] theorem setFn_sendWait (b f : Nat) (x : Fn) : (setFn s b f x).sendWait = s.sendWait := rfl
@[simp] theorem setFn_rings (b f : Nat) (x : Fn) : (setFn s b f x).rings = s.rings := rfl
@[simp] theorem setFn_hif (b f : Nat) (x : Fn) : (setFn s b f x).hif = s.hif := rfl
@[simp] theorem setFn_brd (b f : Nat) (x : Fn) : (setFn s b f x).brd = s.brd := rfl
@[simp] theorem setFn_fuses (b f : Nat) (x : Fn) : (setFn s b f x).fuses = s.fuses := rfl
@[simp] theorem setFn_ckr (b f : Nat) (x : Fn) : (setFn s b f x).ckr = s.ckr := rfl
@[simp] theorem setFn_flash (b f : Nat) (x : Fn) : (setFn s b f x).flash = s.flash := rfl
@[simp] theorem setFn_array (b f : Nat) (x : Fn) : (setFn s b f x).array = s.array := rfl
@[simp] theorem setFn_ldg (b f : Nat) (x : Fn) : (setFn s b f x).ldg = s.ldg := rfl
@[simp] theorem setFn_klb (b f : Nat) (x : Fn) : (setFn s b f x).klb = s.klb := rfl
@[simp] theorem setFn_ups (b f : Nat) (x : Fn) : (setFn s b f x).ups = s.ups := rfl
@[simp] theorem setFn_sts (b f : Nat) (x : Fn) : (setFn s b f x).sts = s.sts := rfl
@[simp] theorem setFn_sif (b f : Nat) (x : Fn) : (setFn s b f x).sif = s.sif := rfl
@[simp] theorem setFn_lck (b f : Nat) (x : Fn) : (setFn s b f x).lck = s.lck := rfl
@[simp] theorem setFn_prt (b f : Nat) (x : Fn) : (setFn s b f x).prt = s.prt := rfl
@[simp] theorem setFn_trl (b f : Nat) (x : Fn) : (setFn s b f x).trl = s.trl := rfl
@[simp] theorem setFn_spr (b f : Nat) (x : Fn) : (setFn s b f x).spr = s.spr := rfl
@[simp] theorem setFn_sent (b f : Nat) (x : Fn) : (setFn s b f x).sent = s.sent := rfl
@[simp] theorem setFn_replays (b f : Nat) (x : Fn) : (setFn s b f x).replays = s.replays := rfl
@[simp] theorem setFn_purges (b f : Nat) (x : Fn) : (setFn s b f x).purges = s.purges := rfl
@[simp] theorem setFn_tagCtrs (b f : Nat) (x : Fn) : (setFn s b f x).tagCtrs = s.tagCtrs := rfl
@[simp] theorem setFn_freeCtr (b f : Nat) (x : Fn) : (setFn s b f x).freeCtr = s.freeCtr := rfl
@[simp] theorem setFn_pending (b f : Nat) (x : Fn) : (setFn s b f x).pending = s.pending := rfl

/-! `setRing` -/
@[simp] theorem setRing_clr (rs : Nat) (r : RingSet) : (setRing s rs r).clr = s.clr := rfl
@[simp] theorem setRing_clk (rs : Nat) (r : RingSet) : (setRing s rs r).clk = s.clk := rfl
@[simp] theorem setRing_flt (rs : Nat) (r : RingSet) : (setRing s rs r).flt = s.flt := rfl
@[simp] theorem setRing_chk (rs : Nat) (r : RingSet) : (setRing s rs r).chk = s.chk := rfl
@[simp] theorem setRing_noc (rs : Nat) (r : RingSet) : (setRing s rs r).noc = s.noc := rfl
@[simp] theorem setRing_ctx (rs : Nat) (r : RingSet) : (setRing s rs r).ctx = s.ctx := rfl
@[simp] theorem setRing_sch (rs : Nat) (r : RingSet) : (setRing s rs r).sch = s.sch := rfl
@[simp] theorem setRing_tiles (rs : Nat) (r : RingSet) : (setRing s rs r).tiles = s.tiles := rfl
@[simp] theorem setRing_slices (rs : Nat) (r : RingSet) : (setRing s rs r).slices = s.slices := rfl
@[simp] theorem setRing_place (rs : Nat) (r : RingSet) : (setRing s rs r).place = s.place := rfl
@[simp] theorem setRing_sliceMap (rs : Nat) (r : RingSet) : (setRing s rs r).sliceMap = s.sliceMap := rfl
@[simp] theorem setRing_homes (rs : Nat) (r : RingSet) : (setRing s rs r).homes = s.homes := rfl
@[simp] theorem setRing_traceExport (rs : Nat) (r : RingSet) : (setRing s rs r).traceExport = s.traceExport := rfl
@[simp] theorem setRing_net (rs : Nat) (r : RingSet) : (setRing s rs r).net = s.net := rfl
@[simp] theorem setRing_outs (rs : Nat) (r : RingSet) : (setRing s rs r).outs = s.outs := rfl
@[simp] theorem setRing_sendWait (rs : Nat) (r : RingSet) : (setRing s rs r).sendWait = s.sendWait := rfl
@[simp] theorem setRing_fns (rs : Nat) (r : RingSet) : (setRing s rs r).fns = s.fns := rfl
@[simp] theorem setRing_hif (rs : Nat) (r : RingSet) : (setRing s rs r).hif = s.hif := rfl
@[simp] theorem setRing_brd (rs : Nat) (r : RingSet) : (setRing s rs r).brd = s.brd := rfl
@[simp] theorem setRing_fuses (rs : Nat) (r : RingSet) : (setRing s rs r).fuses = s.fuses := rfl
@[simp] theorem setRing_ckr (rs : Nat) (r : RingSet) : (setRing s rs r).ckr = s.ckr := rfl
@[simp] theorem setRing_flash (rs : Nat) (r : RingSet) : (setRing s rs r).flash = s.flash := rfl
@[simp] theorem setRing_array (rs : Nat) (r : RingSet) : (setRing s rs r).array = s.array := rfl
@[simp] theorem setRing_ldg (rs : Nat) (r : RingSet) : (setRing s rs r).ldg = s.ldg := rfl
@[simp] theorem setRing_klb (rs : Nat) (r : RingSet) : (setRing s rs r).klb = s.klb := rfl
@[simp] theorem setRing_ups (rs : Nat) (r : RingSet) : (setRing s rs r).ups = s.ups := rfl
@[simp] theorem setRing_sts (rs : Nat) (r : RingSet) : (setRing s rs r).sts = s.sts := rfl
@[simp] theorem setRing_sif (rs : Nat) (r : RingSet) : (setRing s rs r).sif = s.sif := rfl
@[simp] theorem setRing_lck (rs : Nat) (r : RingSet) : (setRing s rs r).lck = s.lck := rfl
@[simp] theorem setRing_prt (rs : Nat) (r : RingSet) : (setRing s rs r).prt = s.prt := rfl
@[simp] theorem setRing_trl (rs : Nat) (r : RingSet) : (setRing s rs r).trl = s.trl := rfl
@[simp] theorem setRing_spr (rs : Nat) (r : RingSet) : (setRing s rs r).spr = s.spr := rfl
@[simp] theorem setRing_sent (rs : Nat) (r : RingSet) : (setRing s rs r).sent = s.sent := rfl
@[simp] theorem setRing_replays (rs : Nat) (r : RingSet) : (setRing s rs r).replays = s.replays := rfl
@[simp] theorem setRing_purges (rs : Nat) (r : RingSet) : (setRing s rs r).purges = s.purges := rfl
@[simp] theorem setRing_tagCtrs (rs : Nat) (r : RingSet) : (setRing s rs r).tagCtrs = s.tagCtrs := rfl
@[simp] theorem setRing_freeCtr (rs : Nat) (r : RingSet) : (setRing s rs r).freeCtr = s.freeCtr := rfl
@[simp] theorem setRing_pending (rs : Nat) (r : RingSet) : (setRing s rs r).pending = s.pending := rfl

/-! `setRec` -/
@[simp] theorem setRec_clr (i : Nat) (r : Rec) : (setRec s i r).clr = s.clr := rfl
@[simp] theorem setRec_clk (i : Nat) (r : Rec) : (setRec s i r).clk = s.clk := rfl
@[simp] theorem setRec_flt (i : Nat) (r : Rec) : (setRec s i r).flt = s.flt := rfl
@[simp] theorem setRec_chk (i : Nat) (r : Rec) : (setRec s i r).chk = s.chk := rfl
@[simp] theorem setRec_noc (i : Nat) (r : Rec) : (setRec s i r).noc = s.noc := rfl
@[simp] theorem setRec_ctx (i : Nat) (r : Rec) : (setRec s i r).ctx = s.ctx := rfl
@[simp] theorem setRec_tiles (i : Nat) (r : Rec) : (setRec s i r).tiles = s.tiles := rfl
@[simp] theorem setRec_slices (i : Nat) (r : Rec) : (setRec s i r).slices = s.slices := rfl
@[simp] theorem setRec_place (i : Nat) (r : Rec) : (setRec s i r).place = s.place := rfl
@[simp] theorem setRec_sliceMap (i : Nat) (r : Rec) : (setRec s i r).sliceMap = s.sliceMap := rfl
@[simp] theorem setRec_homes (i : Nat) (r : Rec) : (setRec s i r).homes = s.homes := rfl
@[simp] theorem setRec_traceExport (i : Nat) (r : Rec) : (setRec s i r).traceExport = s.traceExport := rfl
@[simp] theorem setRec_net (i : Nat) (r : Rec) : (setRec s i r).net = s.net := rfl
@[simp] theorem setRec_outs (i : Nat) (r : Rec) : (setRec s i r).outs = s.outs := rfl
@[simp] theorem setRec_sendWait (i : Nat) (r : Rec) : (setRec s i r).sendWait = s.sendWait := rfl
@[simp] theorem setRec_rings (i : Nat) (r : Rec) : (setRec s i r).rings = s.rings := rfl
@[simp] theorem setRec_fns (i : Nat) (r : Rec) : (setRec s i r).fns = s.fns := rfl
@[simp] theorem setRec_hif (i : Nat) (r : Rec) : (setRec s i r).hif = s.hif := rfl
@[simp] theorem setRec_brd (i : Nat) (r : Rec) : (setRec s i r).brd = s.brd := rfl
@[simp] theorem setRec_fuses (i : Nat) (r : Rec) : (setRec s i r).fuses = s.fuses := rfl
@[simp] theorem setRec_ckr (i : Nat) (r : Rec) : (setRec s i r).ckr = s.ckr := rfl
@[simp] theorem setRec_flash (i : Nat) (r : Rec) : (setRec s i r).flash = s.flash := rfl
@[simp] theorem setRec_array (i : Nat) (r : Rec) : (setRec s i r).array = s.array := rfl
@[simp] theorem setRec_ldg (i : Nat) (r : Rec) : (setRec s i r).ldg = s.ldg := rfl
@[simp] theorem setRec_klb (i : Nat) (r : Rec) : (setRec s i r).klb = s.klb := rfl
@[simp] theorem setRec_ups (i : Nat) (r : Rec) : (setRec s i r).ups = s.ups := rfl
@[simp] theorem setRec_sts (i : Nat) (r : Rec) : (setRec s i r).sts = s.sts := rfl
@[simp] theorem setRec_sif (i : Nat) (r : Rec) : (setRec s i r).sif = s.sif := rfl
@[simp] theorem setRec_lck (i : Nat) (r : Rec) : (setRec s i r).lck = s.lck := rfl
@[simp] theorem setRec_prt (i : Nat) (r : Rec) : (setRec s i r).prt = s.prt := rfl
@[simp] theorem setRec_trl (i : Nat) (r : Rec) : (setRec s i r).trl = s.trl := rfl
@[simp] theorem setRec_spr (i : Nat) (r : Rec) : (setRec s i r).spr = s.spr := rfl
@[simp] theorem setRec_sent (i : Nat) (r : Rec) : (setRec s i r).sent = s.sent := rfl
@[simp] theorem setRec_replays (i : Nat) (r : Rec) : (setRec s i r).replays = s.replays := rfl
@[simp] theorem setRec_purges (i : Nat) (r : Rec) : (setRec s i r).purges = s.purges := rfl
@[simp] theorem setRec_tagCtrs (i : Nat) (r : Rec) : (setRec s i r).tagCtrs = s.tagCtrs := rfl
@[simp] theorem setRec_freeCtr (i : Nat) (r : Rec) : (setRec s i r).freeCtr = s.freeCtr := rfl
@[simp] theorem setRec_pending (i : Nat) (r : Rec) : (setRec s i r).pending = s.pending := rfl

/-! `setCell` -/
@[simp] theorem setCell_clr (n : Nat) (c : LockCell) : (setCell s n c).clr = s.clr := rfl
@[simp] theorem setCell_clk (n : Nat) (c : LockCell) : (setCell s n c).clk = s.clk := rfl
@[simp] theorem setCell_flt (n : Nat) (c : LockCell) : (setCell s n c).flt = s.flt := rfl
@[simp] theorem setCell_chk (n : Nat) (c : LockCell) : (setCell s n c).chk = s.chk := rfl
@[simp] theorem setCell_noc (n : Nat) (c : LockCell) : (setCell s n c).noc = s.noc := rfl
@[simp] theorem setCell_ctx (n : Nat) (c : LockCell) : (setCell s n c).ctx = s.ctx := rfl
@[simp] theorem setCell_sch (n : Nat) (c : LockCell) : (setCell s n c).sch = s.sch := rfl
@[simp] theorem setCell_tiles (n : Nat) (c : LockCell) : (setCell s n c).tiles = s.tiles := rfl
@[simp] theorem setCell_slices (n : Nat) (c : LockCell) : (setCell s n c).slices = s.slices := rfl
@[simp] theorem setCell_place (n : Nat) (c : LockCell) : (setCell s n c).place = s.place := rfl
@[simp] theorem setCell_sliceMap (n : Nat) (c : LockCell) : (setCell s n c).sliceMap = s.sliceMap := rfl
@[simp] theorem setCell_homes (n : Nat) (c : LockCell) : (setCell s n c).homes = s.homes := rfl
@[simp] theorem setCell_traceExport (n : Nat) (c : LockCell) : (setCell s n c).traceExport = s.traceExport := rfl
@[simp] theorem setCell_net (n : Nat) (c : LockCell) : (setCell s n c).net = s.net := rfl
@[simp] theorem setCell_outs (n : Nat) (c : LockCell) : (setCell s n c).outs = s.outs := rfl
@[simp] theorem setCell_sendWait (n : Nat) (c : LockCell) : (setCell s n c).sendWait = s.sendWait := rfl
@[simp] theorem setCell_rings (n : Nat) (c : LockCell) : (setCell s n c).rings = s.rings := rfl
@[simp] theorem setCell_fns (n : Nat) (c : LockCell) : (setCell s n c).fns = s.fns := rfl
@[simp] theorem setCell_hif (n : Nat) (c : LockCell) : (setCell s n c).hif = s.hif := rfl
@[simp] theorem setCell_brd (n : Nat) (c : LockCell) : (setCell s n c).brd = s.brd := rfl
@[simp] theorem setCell_fuses (n : Nat) (c : LockCell) : (setCell s n c).fuses = s.fuses := rfl
@[simp] theorem setCell_ckr (n : Nat) (c : LockCell) : (setCell s n c).ckr = s.ckr := rfl
@[simp] theorem setCell_flash (n : Nat) (c : LockCell) : (setCell s n c).flash = s.flash := rfl
@[simp] theorem setCell_array (n : Nat) (c : LockCell) : (setCell s n c).array = s.array := rfl
@[simp] theorem setCell_ldg (n : Nat) (c : LockCell) : (setCell s n c).ldg = s.ldg := rfl
@[simp] theorem setCell_klb (n : Nat) (c : LockCell) : (setCell s n c).klb = s.klb := rfl
@[simp] theorem setCell_ups (n : Nat) (c : LockCell) : (setCell s n c).ups = s.ups := rfl
@[simp] theorem setCell_sts (n : Nat) (c : LockCell) : (setCell s n c).sts = s.sts := rfl
@[simp] theorem setCell_sif (n : Nat) (c : LockCell) : (setCell s n c).sif = s.sif := rfl
@[simp] theorem setCell_prt (n : Nat) (c : LockCell) : (setCell s n c).prt = s.prt := rfl
@[simp] theorem setCell_trl (n : Nat) (c : LockCell) : (setCell s n c).trl = s.trl := rfl
@[simp] theorem setCell_spr (n : Nat) (c : LockCell) : (setCell s n c).spr = s.spr := rfl
@[simp] theorem setCell_sent (n : Nat) (c : LockCell) : (setCell s n c).sent = s.sent := rfl
@[simp] theorem setCell_replays (n : Nat) (c : LockCell) : (setCell s n c).replays = s.replays := rfl
@[simp] theorem setCell_purges (n : Nat) (c : LockCell) : (setCell s n c).purges = s.purges := rfl
@[simp] theorem setCell_tagCtrs (n : Nat) (c : LockCell) : (setCell s n c).tagCtrs = s.tagCtrs := rfl
@[simp] theorem setCell_freeCtr (n : Nat) (c : LockCell) : (setCell s n c).freeCtr = s.freeCtr := rfl
@[simp] theorem setCell_pending (n : Nat) (c : LockCell) : (setCell s n c).pending = s.pending := rfl

/-! `setTrail` -/
@[simp] theorem setTrail_clr (t : Nat) (x : Trail) : (setTrail s t x).clr = s.clr := rfl
@[simp] theorem setTrail_clk (t : Nat) (x : Trail) : (setTrail s t x).clk = s.clk := rfl
@[simp] theorem setTrail_flt (t : Nat) (x : Trail) : (setTrail s t x).flt = s.flt := rfl
@[simp] theorem setTrail_chk (t : Nat) (x : Trail) : (setTrail s t x).chk = s.chk := rfl
@[simp] theorem setTrail_noc (t : Nat) (x : Trail) : (setTrail s t x).noc = s.noc := rfl
@[simp] theorem setTrail_ctx (t : Nat) (x : Trail) : (setTrail s t x).ctx = s.ctx := rfl
@[simp] theorem setTrail_sch (t : Nat) (x : Trail) : (setTrail s t x).sch = s.sch := rfl
@[simp] theorem setTrail_tiles (t : Nat) (x : Trail) : (setTrail s t x).tiles = s.tiles := rfl
@[simp] theorem setTrail_slices (t : Nat) (x : Trail) : (setTrail s t x).slices = s.slices := rfl
@[simp] theorem setTrail_place (t : Nat) (x : Trail) : (setTrail s t x).place = s.place := rfl
@[simp] theorem setTrail_sliceMap (t : Nat) (x : Trail) : (setTrail s t x).sliceMap = s.sliceMap := rfl
@[simp] theorem setTrail_homes (t : Nat) (x : Trail) : (setTrail s t x).homes = s.homes := rfl
@[simp] theorem setTrail_traceExport (t : Nat) (x : Trail) : (setTrail s t x).traceExport = s.traceExport := rfl
@[simp] theorem setTrail_net (t : Nat) (x : Trail) : (setTrail s t x).net = s.net := rfl
@[simp] theorem setTrail_outs (t : Nat) (x : Trail) : (setTrail s t x).outs = s.outs := rfl
@[simp] theorem setTrail_sendWait (t : Nat) (x : Trail) : (setTrail s t x).sendWait = s.sendWait := rfl
@[simp] theorem setTrail_rings (t : Nat) (x : Trail) : (setTrail s t x).rings = s.rings := rfl
@[simp] theorem setTrail_fns (t : Nat) (x : Trail) : (setTrail s t x).fns = s.fns := rfl
@[simp] theorem setTrail_hif (t : Nat) (x : Trail) : (setTrail s t x).hif = s.hif := rfl
@[simp] theorem setTrail_brd (t : Nat) (x : Trail) : (setTrail s t x).brd = s.brd := rfl
@[simp] theorem setTrail_fuses (t : Nat) (x : Trail) : (setTrail s t x).fuses = s.fuses := rfl
@[simp] theorem setTrail_ckr (t : Nat) (x : Trail) : (setTrail s t x).ckr = s.ckr := rfl
@[simp] theorem setTrail_flash (t : Nat) (x : Trail) : (setTrail s t x).flash = s.flash := rfl
@[simp] theorem setTrail_array (t : Nat) (x : Trail) : (setTrail s t x).array = s.array := rfl
@[simp] theorem setTrail_ldg (t : Nat) (x : Trail) : (setTrail s t x).ldg = s.ldg := rfl
@[simp] theorem setTrail_klb (t : Nat) (x : Trail) : (setTrail s t x).klb = s.klb := rfl
@[simp] theorem setTrail_ups (t : Nat) (x : Trail) : (setTrail s t x).ups = s.ups := rfl
@[simp] theorem setTrail_sts (t : Nat) (x : Trail) : (setTrail s t x).sts = s.sts := rfl
@[simp] theorem setTrail_sif (t : Nat) (x : Trail) : (setTrail s t x).sif = s.sif := rfl
@[simp] theorem setTrail_lck (t : Nat) (x : Trail) : (setTrail s t x).lck = s.lck := rfl
@[simp] theorem setTrail_prt (t : Nat) (x : Trail) : (setTrail s t x).prt = s.prt := rfl
@[simp] theorem setTrail_spr (t : Nat) (x : Trail) : (setTrail s t x).spr = s.spr := rfl
@[simp] theorem setTrail_sent (t : Nat) (x : Trail) : (setTrail s t x).sent = s.sent := rfl
@[simp] theorem setTrail_replays (t : Nat) (x : Trail) : (setTrail s t x).replays = s.replays := rfl
@[simp] theorem setTrail_purges (t : Nat) (x : Trail) : (setTrail s t x).purges = s.purges := rfl
@[simp] theorem setTrail_tagCtrs (t : Nat) (x : Trail) : (setTrail s t x).tagCtrs = s.tagCtrs := rfl
@[simp] theorem setTrail_freeCtr (t : Nat) (x : Trail) : (setTrail s t x).freeCtr = s.freeCtr := rfl
@[simp] theorem setTrail_pending (t : Nat) (x : Trail) : (setTrail s t x).pending = s.pending := rfl

/-! `setDest` -/
@[simp] theorem setDest_clr (d : Nat) (x : SpoorDest) : (setDest s d x).clr = s.clr := rfl
@[simp] theorem setDest_clk (d : Nat) (x : SpoorDest) : (setDest s d x).clk = s.clk := rfl
@[simp] theorem setDest_flt (d : Nat) (x : SpoorDest) : (setDest s d x).flt = s.flt := rfl
@[simp] theorem setDest_chk (d : Nat) (x : SpoorDest) : (setDest s d x).chk = s.chk := rfl
@[simp] theorem setDest_noc (d : Nat) (x : SpoorDest) : (setDest s d x).noc = s.noc := rfl
@[simp] theorem setDest_ctx (d : Nat) (x : SpoorDest) : (setDest s d x).ctx = s.ctx := rfl
@[simp] theorem setDest_sch (d : Nat) (x : SpoorDest) : (setDest s d x).sch = s.sch := rfl
@[simp] theorem setDest_tiles (d : Nat) (x : SpoorDest) : (setDest s d x).tiles = s.tiles := rfl
@[simp] theorem setDest_slices (d : Nat) (x : SpoorDest) : (setDest s d x).slices = s.slices := rfl
@[simp] theorem setDest_place (d : Nat) (x : SpoorDest) : (setDest s d x).place = s.place := rfl
@[simp] theorem setDest_sliceMap (d : Nat) (x : SpoorDest) : (setDest s d x).sliceMap = s.sliceMap := rfl
@[simp] theorem setDest_homes (d : Nat) (x : SpoorDest) : (setDest s d x).homes = s.homes := rfl
@[simp] theorem setDest_traceExport (d : Nat) (x : SpoorDest) : (setDest s d x).traceExport = s.traceExport := rfl
@[simp] theorem setDest_net (d : Nat) (x : SpoorDest) : (setDest s d x).net = s.net := rfl
@[simp] theorem setDest_outs (d : Nat) (x : SpoorDest) : (setDest s d x).outs = s.outs := rfl
@[simp] theorem setDest_sendWait (d : Nat) (x : SpoorDest) : (setDest s d x).sendWait = s.sendWait := rfl
@[simp] theorem setDest_rings (d : Nat) (x : SpoorDest) : (setDest s d x).rings = s.rings := rfl
@[simp] theorem setDest_fns (d : Nat) (x : SpoorDest) : (setDest s d x).fns = s.fns := rfl
@[simp] theorem setDest_hif (d : Nat) (x : SpoorDest) : (setDest s d x).hif = s.hif := rfl
@[simp] theorem setDest_brd (d : Nat) (x : SpoorDest) : (setDest s d x).brd = s.brd := rfl
@[simp] theorem setDest_fuses (d : Nat) (x : SpoorDest) : (setDest s d x).fuses = s.fuses := rfl
@[simp] theorem setDest_ckr (d : Nat) (x : SpoorDest) : (setDest s d x).ckr = s.ckr := rfl
@[simp] theorem setDest_flash (d : Nat) (x : SpoorDest) : (setDest s d x).flash = s.flash := rfl
@[simp] theorem setDest_array (d : Nat) (x : SpoorDest) : (setDest s d x).array = s.array := rfl
@[simp] theorem setDest_ldg (d : Nat) (x : SpoorDest) : (setDest s d x).ldg = s.ldg := rfl
@[simp] theorem setDest_klb (d : Nat) (x : SpoorDest) : (setDest s d x).klb = s.klb := rfl
@[simp] theorem setDest_ups (d : Nat) (x : SpoorDest) : (setDest s d x).ups = s.ups := rfl
@[simp] theorem setDest_sts (d : Nat) (x : SpoorDest) : (setDest s d x).sts = s.sts := rfl
@[simp] theorem setDest_sif (d : Nat) (x : SpoorDest) : (setDest s d x).sif = s.sif := rfl
@[simp] theorem setDest_lck (d : Nat) (x : SpoorDest) : (setDest s d x).lck = s.lck := rfl
@[simp] theorem setDest_prt (d : Nat) (x : SpoorDest) : (setDest s d x).prt = s.prt := rfl
@[simp] theorem setDest_spr (d : Nat) (x : SpoorDest) : (setDest s d x).spr = s.spr := rfl
@[simp] theorem setDest_sent (d : Nat) (x : SpoorDest) : (setDest s d x).sent = s.sent := rfl
@[simp] theorem setDest_replays (d : Nat) (x : SpoorDest) : (setDest s d x).replays = s.replays := rfl
@[simp] theorem setDest_purges (d : Nat) (x : SpoorDest) : (setDest s d x).purges = s.purges := rfl
@[simp] theorem setDest_tagCtrs (d : Nat) (x : SpoorDest) : (setDest s d x).tagCtrs = s.tagCtrs := rfl
@[simp] theorem setDest_freeCtr (d : Nat) (x : SpoorDest) : (setDest s d x).freeCtr = s.freeCtr := rfl
@[simp] theorem setDest_pending (d : Nat) (x : SpoorDest) : (setDest s d x).pending = s.pending := rfl

/-! `setSts` -/
@[simp] theorem setSts_clr (k : Nat) (x : Sts) : (setSts s k x).clr = s.clr := rfl
@[simp] theorem setSts_clk (k : Nat) (x : Sts) : (setSts s k x).clk = s.clk := rfl
@[simp] theorem setSts_flt (k : Nat) (x : Sts) : (setSts s k x).flt = s.flt := rfl
@[simp] theorem setSts_chk (k : Nat) (x : Sts) : (setSts s k x).chk = s.chk := rfl
@[simp] theorem setSts_noc (k : Nat) (x : Sts) : (setSts s k x).noc = s.noc := rfl
@[simp] theorem setSts_ctx (k : Nat) (x : Sts) : (setSts s k x).ctx = s.ctx := rfl
@[simp] theorem setSts_sch (k : Nat) (x : Sts) : (setSts s k x).sch = s.sch := rfl
@[simp] theorem setSts_tiles (k : Nat) (x : Sts) : (setSts s k x).tiles = s.tiles := rfl
@[simp] theorem setSts_slices (k : Nat) (x : Sts) : (setSts s k x).slices = s.slices := rfl
@[simp] theorem setSts_place (k : Nat) (x : Sts) : (setSts s k x).place = s.place := rfl
@[simp] theorem setSts_sliceMap (k : Nat) (x : Sts) : (setSts s k x).sliceMap = s.sliceMap := rfl
@[simp] theorem setSts_homes (k : Nat) (x : Sts) : (setSts s k x).homes = s.homes := rfl
@[simp] theorem setSts_traceExport (k : Nat) (x : Sts) : (setSts s k x).traceExport = s.traceExport := rfl
@[simp] theorem setSts_net (k : Nat) (x : Sts) : (setSts s k x).net = s.net := rfl
@[simp] theorem setSts_outs (k : Nat) (x : Sts) : (setSts s k x).outs = s.outs := rfl
@[simp] theorem setSts_sendWait (k : Nat) (x : Sts) : (setSts s k x).sendWait = s.sendWait := rfl
@[simp] theorem setSts_rings (k : Nat) (x : Sts) : (setSts s k x).rings = s.rings := rfl
@[simp] theorem setSts_fns (k : Nat) (x : Sts) : (setSts s k x).fns = s.fns := rfl
@[simp] theorem setSts_hif (k : Nat) (x : Sts) : (setSts s k x).hif = s.hif := rfl
@[simp] theorem setSts_brd (k : Nat) (x : Sts) : (setSts s k x).brd = s.brd := rfl
@[simp] theorem setSts_fuses (k : Nat) (x : Sts) : (setSts s k x).fuses = s.fuses := rfl
@[simp] theorem setSts_ckr (k : Nat) (x : Sts) : (setSts s k x).ckr = s.ckr := rfl
@[simp] theorem setSts_flash (k : Nat) (x : Sts) : (setSts s k x).flash = s.flash := rfl
@[simp] theorem setSts_array (k : Nat) (x : Sts) : (setSts s k x).array = s.array := rfl
@[simp] theorem setSts_ldg (k : Nat) (x : Sts) : (setSts s k x).ldg = s.ldg := rfl
@[simp] theorem setSts_klb (k : Nat) (x : Sts) : (setSts s k x).klb = s.klb := rfl
@[simp] theorem setSts_ups (k : Nat) (x : Sts) : (setSts s k x).ups = s.ups := rfl
@[simp] theorem setSts_sif (k : Nat) (x : Sts) : (setSts s k x).sif = s.sif := rfl
@[simp] theorem setSts_lck (k : Nat) (x : Sts) : (setSts s k x).lck = s.lck := rfl
@[simp] theorem setSts_prt (k : Nat) (x : Sts) : (setSts s k x).prt = s.prt := rfl
@[simp] theorem setSts_trl (k : Nat) (x : Sts) : (setSts s k x).trl = s.trl := rfl
@[simp] theorem setSts_spr (k : Nat) (x : Sts) : (setSts s k x).spr = s.spr := rfl
@[simp] theorem setSts_sent (k : Nat) (x : Sts) : (setSts s k x).sent = s.sent := rfl
@[simp] theorem setSts_replays (k : Nat) (x : Sts) : (setSts s k x).replays = s.replays := rfl
@[simp] theorem setSts_purges (k : Nat) (x : Sts) : (setSts s k x).purges = s.purges := rfl
@[simp] theorem setSts_tagCtrs (k : Nat) (x : Sts) : (setSts s k x).tagCtrs = s.tagCtrs := rfl
@[simp] theorem setSts_freeCtr (k : Nat) (x : Sts) : (setSts s k x).freeCtr = s.freeCtr := rfl
@[simp] theorem setSts_pending (k : Nat) (x : Sts) : (setSts s k x).pending = s.pending := rfl

/-! `setSif` -/
@[simp] theorem setSif_clr (k : Nat) (x : Sif) : (setSif s k x).clr = s.clr := rfl
@[simp] theorem setSif_clk (k : Nat) (x : Sif) : (setSif s k x).clk = s.clk := rfl
@[simp] theorem setSif_flt (k : Nat) (x : Sif) : (setSif s k x).flt = s.flt := rfl
@[simp] theorem setSif_chk (k : Nat) (x : Sif) : (setSif s k x).chk = s.chk := rfl
@[simp] theorem setSif_noc (k : Nat) (x : Sif) : (setSif s k x).noc = s.noc := rfl
@[simp] theorem setSif_ctx (k : Nat) (x : Sif) : (setSif s k x).ctx = s.ctx := rfl
@[simp] theorem setSif_sch (k : Nat) (x : Sif) : (setSif s k x).sch = s.sch := rfl
@[simp] theorem setSif_tiles (k : Nat) (x : Sif) : (setSif s k x).tiles = s.tiles := rfl
@[simp] theorem setSif_slices (k : Nat) (x : Sif) : (setSif s k x).slices = s.slices := rfl
@[simp] theorem setSif_place (k : Nat) (x : Sif) : (setSif s k x).place = s.place := rfl
@[simp] theorem setSif_sliceMap (k : Nat) (x : Sif) : (setSif s k x).sliceMap = s.sliceMap := rfl
@[simp] theorem setSif_homes (k : Nat) (x : Sif) : (setSif s k x).homes = s.homes := rfl
@[simp] theorem setSif_traceExport (k : Nat) (x : Sif) : (setSif s k x).traceExport = s.traceExport := rfl
@[simp] theorem setSif_net (k : Nat) (x : Sif) : (setSif s k x).net = s.net := rfl
@[simp] theorem setSif_outs (k : Nat) (x : Sif) : (setSif s k x).outs = s.outs := rfl
@[simp] theorem setSif_sendWait (k : Nat) (x : Sif) : (setSif s k x).sendWait = s.sendWait := rfl
@[simp] theorem setSif_rings (k : Nat) (x : Sif) : (setSif s k x).rings = s.rings := rfl
@[simp] theorem setSif_fns (k : Nat) (x : Sif) : (setSif s k x).fns = s.fns := rfl
@[simp] theorem setSif_hif (k : Nat) (x : Sif) : (setSif s k x).hif = s.hif := rfl
@[simp] theorem setSif_brd (k : Nat) (x : Sif) : (setSif s k x).brd = s.brd := rfl
@[simp] theorem setSif_fuses (k : Nat) (x : Sif) : (setSif s k x).fuses = s.fuses := rfl
@[simp] theorem setSif_ckr (k : Nat) (x : Sif) : (setSif s k x).ckr = s.ckr := rfl
@[simp] theorem setSif_flash (k : Nat) (x : Sif) : (setSif s k x).flash = s.flash := rfl
@[simp] theorem setSif_array (k : Nat) (x : Sif) : (setSif s k x).array = s.array := rfl
@[simp] theorem setSif_ldg (k : Nat) (x : Sif) : (setSif s k x).ldg = s.ldg := rfl
@[simp] theorem setSif_klb (k : Nat) (x : Sif) : (setSif s k x).klb = s.klb := rfl
@[simp] theorem setSif_ups (k : Nat) (x : Sif) : (setSif s k x).ups = s.ups := rfl
@[simp] theorem setSif_sts (k : Nat) (x : Sif) : (setSif s k x).sts = s.sts := rfl
@[simp] theorem setSif_lck (k : Nat) (x : Sif) : (setSif s k x).lck = s.lck := rfl
@[simp] theorem setSif_prt (k : Nat) (x : Sif) : (setSif s k x).prt = s.prt := rfl
@[simp] theorem setSif_trl (k : Nat) (x : Sif) : (setSif s k x).trl = s.trl := rfl
@[simp] theorem setSif_spr (k : Nat) (x : Sif) : (setSif s k x).spr = s.spr := rfl
@[simp] theorem setSif_sent (k : Nat) (x : Sif) : (setSif s k x).sent = s.sent := rfl
@[simp] theorem setSif_replays (k : Nat) (x : Sif) : (setSif s k x).replays = s.replays := rfl
@[simp] theorem setSif_purges (k : Nat) (x : Sif) : (setSif s k x).purges = s.purges := rfl
@[simp] theorem setSif_tagCtrs (k : Nat) (x : Sif) : (setSif s k x).tagCtrs = s.tagCtrs := rfl
@[simp] theorem setSif_freeCtr (k : Nat) (x : Sif) : (setSif s k x).freeCtr = s.freeCtr := rfl
@[simp] theorem setSif_pending (k : Nat) (x : Sif) : (setSif s k x).pending = s.pending := rfl

/-! `setRegion` -/
@[simp] theorem setRegion_clr (p : Nat) (r : Region) : (setRegion s p r).clr = s.clr := rfl
@[simp] theorem setRegion_clk (p : Nat) (r : Region) : (setRegion s p r).clk = s.clk := rfl
@[simp] theorem setRegion_flt (p : Nat) (r : Region) : (setRegion s p r).flt = s.flt := rfl
@[simp] theorem setRegion_chk (p : Nat) (r : Region) : (setRegion s p r).chk = s.chk := rfl
@[simp] theorem setRegion_noc (p : Nat) (r : Region) : (setRegion s p r).noc = s.noc := rfl
@[simp] theorem setRegion_ctx (p : Nat) (r : Region) : (setRegion s p r).ctx = s.ctx := rfl
@[simp] theorem setRegion_sch (p : Nat) (r : Region) : (setRegion s p r).sch = s.sch := rfl
@[simp] theorem setRegion_tiles (p : Nat) (r : Region) : (setRegion s p r).tiles = s.tiles := rfl
@[simp] theorem setRegion_slices (p : Nat) (r : Region) : (setRegion s p r).slices = s.slices := rfl
@[simp] theorem setRegion_place (p : Nat) (r : Region) : (setRegion s p r).place = s.place := rfl
@[simp] theorem setRegion_sliceMap (p : Nat) (r : Region) : (setRegion s p r).sliceMap = s.sliceMap := rfl
@[simp] theorem setRegion_homes (p : Nat) (r : Region) : (setRegion s p r).homes = s.homes := rfl
@[simp] theorem setRegion_traceExport (p : Nat) (r : Region) : (setRegion s p r).traceExport = s.traceExport := rfl
@[simp] theorem setRegion_net (p : Nat) (r : Region) : (setRegion s p r).net = s.net := rfl
@[simp] theorem setRegion_outs (p : Nat) (r : Region) : (setRegion s p r).outs = s.outs := rfl
@[simp] theorem setRegion_sendWait (p : Nat) (r : Region) : (setRegion s p r).sendWait = s.sendWait := rfl
@[simp] theorem setRegion_rings (p : Nat) (r : Region) : (setRegion s p r).rings = s.rings := rfl
@[simp] theorem setRegion_fns (p : Nat) (r : Region) : (setRegion s p r).fns = s.fns := rfl
@[simp] theorem setRegion_hif (p : Nat) (r : Region) : (setRegion s p r).hif = s.hif := rfl
@[simp] theorem setRegion_brd (p : Nat) (r : Region) : (setRegion s p r).brd = s.brd := rfl
@[simp] theorem setRegion_fuses (p : Nat) (r : Region) : (setRegion s p r).fuses = s.fuses := rfl
@[simp] theorem setRegion_ckr (p : Nat) (r : Region) : (setRegion s p r).ckr = s.ckr := rfl
@[simp] theorem setRegion_flash (p : Nat) (r : Region) : (setRegion s p r).flash = s.flash := rfl
@[simp] theorem setRegion_array (p : Nat) (r : Region) : (setRegion s p r).array = s.array := rfl
@[simp] theorem setRegion_ldg (p : Nat) (r : Region) : (setRegion s p r).ldg = s.ldg := rfl
@[simp] theorem setRegion_klb (p : Nat) (r : Region) : (setRegion s p r).klb = s.klb := rfl
@[simp] theorem setRegion_ups (p : Nat) (r : Region) : (setRegion s p r).ups = s.ups := rfl
@[simp] theorem setRegion_sts (p : Nat) (r : Region) : (setRegion s p r).sts = s.sts := rfl
@[simp] theorem setRegion_sif (p : Nat) (r : Region) : (setRegion s p r).sif = s.sif := rfl
@[simp] theorem setRegion_lck (p : Nat) (r : Region) : (setRegion s p r).lck = s.lck := rfl
@[simp] theorem setRegion_prt (p : Nat) (r : Region) : (setRegion s p r).prt = s.prt := rfl
@[simp] theorem setRegion_trl (p : Nat) (r : Region) : (setRegion s p r).trl = s.trl := rfl
@[simp] theorem setRegion_sent (p : Nat) (r : Region) : (setRegion s p r).sent = s.sent := rfl
@[simp] theorem setRegion_replays (p : Nat) (r : Region) : (setRegion s p r).replays = s.replays := rfl
@[simp] theorem setRegion_purges (p : Nat) (r : Region) : (setRegion s p r).purges = s.purges := rfl
@[simp] theorem setRegion_tagCtrs (p : Nat) (r : Region) : (setRegion s p r).tagCtrs = s.tagCtrs := rfl
@[simp] theorem setRegion_freeCtr (p : Nat) (r : Region) : (setRegion s p r).freeCtr = s.freeCtr := rfl
@[simp] theorem setRegion_pending (p : Nat) (r : Region) : (setRegion s p r).pending = s.pending := rfl

/-! `setMonitor` -/
@[simp] theorem setMonitor_clr (k : Nat) (m : Monitor) : (setMonitor s k m).clr = s.clr := rfl
@[simp] theorem setMonitor_clk (k : Nat) (m : Monitor) : (setMonitor s k m).clk = s.clk := rfl
@[simp] theorem setMonitor_flt (k : Nat) (m : Monitor) : (setMonitor s k m).flt = s.flt := rfl
@[simp] theorem setMonitor_chk (k : Nat) (m : Monitor) : (setMonitor s k m).chk = s.chk := rfl
@[simp] theorem setMonitor_noc (k : Nat) (m : Monitor) : (setMonitor s k m).noc = s.noc := rfl
@[simp] theorem setMonitor_ctx (k : Nat) (m : Monitor) : (setMonitor s k m).ctx = s.ctx := rfl
@[simp] theorem setMonitor_sch (k : Nat) (m : Monitor) : (setMonitor s k m).sch = s.sch := rfl
@[simp] theorem setMonitor_tiles (k : Nat) (m : Monitor) : (setMonitor s k m).tiles = s.tiles := rfl
@[simp] theorem setMonitor_slices (k : Nat) (m : Monitor) : (setMonitor s k m).slices = s.slices := rfl
@[simp] theorem setMonitor_place (k : Nat) (m : Monitor) : (setMonitor s k m).place = s.place := rfl
@[simp] theorem setMonitor_sliceMap (k : Nat) (m : Monitor) : (setMonitor s k m).sliceMap = s.sliceMap := rfl
@[simp] theorem setMonitor_homes (k : Nat) (m : Monitor) : (setMonitor s k m).homes = s.homes := rfl
@[simp] theorem setMonitor_traceExport (k : Nat) (m : Monitor) : (setMonitor s k m).traceExport = s.traceExport := rfl
@[simp] theorem setMonitor_net (k : Nat) (m : Monitor) : (setMonitor s k m).net = s.net := rfl
@[simp] theorem setMonitor_outs (k : Nat) (m : Monitor) : (setMonitor s k m).outs = s.outs := rfl
@[simp] theorem setMonitor_sendWait (k : Nat) (m : Monitor) : (setMonitor s k m).sendWait = s.sendWait := rfl
@[simp] theorem setMonitor_rings (k : Nat) (m : Monitor) : (setMonitor s k m).rings = s.rings := rfl
@[simp] theorem setMonitor_fns (k : Nat) (m : Monitor) : (setMonitor s k m).fns = s.fns := rfl
@[simp] theorem setMonitor_hif (k : Nat) (m : Monitor) : (setMonitor s k m).hif = s.hif := rfl
@[simp] theorem setMonitor_brd (k : Nat) (m : Monitor) : (setMonitor s k m).brd = s.brd := rfl
@[simp] theorem setMonitor_fuses (k : Nat) (m : Monitor) : (setMonitor s k m).fuses = s.fuses := rfl
@[simp] theorem setMonitor_ckr (k : Nat) (m : Monitor) : (setMonitor s k m).ckr = s.ckr := rfl
@[simp] theorem setMonitor_flash (k : Nat) (m : Monitor) : (setMonitor s k m).flash = s.flash := rfl
@[simp] theorem setMonitor_array (k : Nat) (m : Monitor) : (setMonitor s k m).array = s.array := rfl
@[simp] theorem setMonitor_ldg (k : Nat) (m : Monitor) : (setMonitor s k m).ldg = s.ldg := rfl
@[simp] theorem setMonitor_klb (k : Nat) (m : Monitor) : (setMonitor s k m).klb = s.klb := rfl
@[simp] theorem setMonitor_ups (k : Nat) (m : Monitor) : (setMonitor s k m).ups = s.ups := rfl
@[simp] theorem setMonitor_sts (k : Nat) (m : Monitor) : (setMonitor s k m).sts = s.sts := rfl
@[simp] theorem setMonitor_sif (k : Nat) (m : Monitor) : (setMonitor s k m).sif = s.sif := rfl
@[simp] theorem setMonitor_lck (k : Nat) (m : Monitor) : (setMonitor s k m).lck = s.lck := rfl
@[simp] theorem setMonitor_prt (k : Nat) (m : Monitor) : (setMonitor s k m).prt = s.prt := rfl
@[simp] theorem setMonitor_trl (k : Nat) (m : Monitor) : (setMonitor s k m).trl = s.trl := rfl
@[simp] theorem setMonitor_sent (k : Nat) (m : Monitor) : (setMonitor s k m).sent = s.sent := rfl
@[simp] theorem setMonitor_replays (k : Nat) (m : Monitor) : (setMonitor s k m).replays = s.replays := rfl
@[simp] theorem setMonitor_purges (k : Nat) (m : Monitor) : (setMonitor s k m).purges = s.purges := rfl
@[simp] theorem setMonitor_tagCtrs (k : Nat) (m : Monitor) : (setMonitor s k m).tagCtrs = s.tagCtrs := rfl
@[simp] theorem setMonitor_freeCtr (k : Nat) (m : Monitor) : (setMonitor s k m).freeCtr = s.freeCtr := rfl
@[simp] theorem setMonitor_pending (k : Nat) (m : Monitor) : (setMonitor s k m).pending = s.pending := rfl

/-! `setCtxPart` -/
@[simp] theorem setCtxPart_clr (p : Nat) (c : CtxPart) : (setCtxPart s p c).clr = s.clr := rfl
@[simp] theorem setCtxPart_clk (p : Nat) (c : CtxPart) : (setCtxPart s p c).clk = s.clk := rfl
@[simp] theorem setCtxPart_flt (p : Nat) (c : CtxPart) : (setCtxPart s p c).flt = s.flt := rfl
@[simp] theorem setCtxPart_chk (p : Nat) (c : CtxPart) : (setCtxPart s p c).chk = s.chk := rfl
@[simp] theorem setCtxPart_noc (p : Nat) (c : CtxPart) : (setCtxPart s p c).noc = s.noc := rfl
@[simp] theorem setCtxPart_sch (p : Nat) (c : CtxPart) : (setCtxPart s p c).sch = s.sch := rfl
@[simp] theorem setCtxPart_tiles (p : Nat) (c : CtxPart) : (setCtxPart s p c).tiles = s.tiles := rfl
@[simp] theorem setCtxPart_slices (p : Nat) (c : CtxPart) : (setCtxPart s p c).slices = s.slices := rfl
@[simp] theorem setCtxPart_place (p : Nat) (c : CtxPart) : (setCtxPart s p c).place = s.place := rfl
@[simp] theorem setCtxPart_sliceMap (p : Nat) (c : CtxPart) : (setCtxPart s p c).sliceMap = s.sliceMap := rfl
@[simp] theorem setCtxPart_homes (p : Nat) (c : CtxPart) : (setCtxPart s p c).homes = s.homes := rfl
@[simp] theorem setCtxPart_traceExport (p : Nat) (c : CtxPart) : (setCtxPart s p c).traceExport = s.traceExport := rfl
@[simp] theorem setCtxPart_net (p : Nat) (c : CtxPart) : (setCtxPart s p c).net = s.net := rfl
@[simp] theorem setCtxPart_outs (p : Nat) (c : CtxPart) : (setCtxPart s p c).outs = s.outs := rfl
@[simp] theorem setCtxPart_sendWait (p : Nat) (c : CtxPart) : (setCtxPart s p c).sendWait = s.sendWait := rfl
@[simp] theorem setCtxPart_rings (p : Nat) (c : CtxPart) : (setCtxPart s p c).rings = s.rings := rfl
@[simp] theorem setCtxPart_fns (p : Nat) (c : CtxPart) : (setCtxPart s p c).fns = s.fns := rfl
@[simp] theorem setCtxPart_hif (p : Nat) (c : CtxPart) : (setCtxPart s p c).hif = s.hif := rfl
@[simp] theorem setCtxPart_brd (p : Nat) (c : CtxPart) : (setCtxPart s p c).brd = s.brd := rfl
@[simp] theorem setCtxPart_fuses (p : Nat) (c : CtxPart) : (setCtxPart s p c).fuses = s.fuses := rfl
@[simp] theorem setCtxPart_ckr (p : Nat) (c : CtxPart) : (setCtxPart s p c).ckr = s.ckr := rfl
@[simp] theorem setCtxPart_flash (p : Nat) (c : CtxPart) : (setCtxPart s p c).flash = s.flash := rfl
@[simp] theorem setCtxPart_array (p : Nat) (c : CtxPart) : (setCtxPart s p c).array = s.array := rfl
@[simp] theorem setCtxPart_ldg (p : Nat) (c : CtxPart) : (setCtxPart s p c).ldg = s.ldg := rfl
@[simp] theorem setCtxPart_klb (p : Nat) (c : CtxPart) : (setCtxPart s p c).klb = s.klb := rfl
@[simp] theorem setCtxPart_ups (p : Nat) (c : CtxPart) : (setCtxPart s p c).ups = s.ups := rfl
@[simp] theorem setCtxPart_sts (p : Nat) (c : CtxPart) : (setCtxPart s p c).sts = s.sts := rfl
@[simp] theorem setCtxPart_sif (p : Nat) (c : CtxPart) : (setCtxPart s p c).sif = s.sif := rfl
@[simp] theorem setCtxPart_lck (p : Nat) (c : CtxPart) : (setCtxPart s p c).lck = s.lck := rfl
@[simp] theorem setCtxPart_prt (p : Nat) (c : CtxPart) : (setCtxPart s p c).prt = s.prt := rfl
@[simp] theorem setCtxPart_trl (p : Nat) (c : CtxPart) : (setCtxPart s p c).trl = s.trl := rfl
@[simp] theorem setCtxPart_spr (p : Nat) (c : CtxPart) : (setCtxPart s p c).spr = s.spr := rfl
@[simp] theorem setCtxPart_sent (p : Nat) (c : CtxPart) : (setCtxPart s p c).sent = s.sent := rfl
@[simp] theorem setCtxPart_replays (p : Nat) (c : CtxPart) : (setCtxPart s p c).replays = s.replays := rfl
@[simp] theorem setCtxPart_purges (p : Nat) (c : CtxPart) : (setCtxPart s p c).purges = s.purges := rfl
@[simp] theorem setCtxPart_tagCtrs (p : Nat) (c : CtxPart) : (setCtxPart s p c).tagCtrs = s.tagCtrs := rfl
@[simp] theorem setCtxPart_freeCtr (p : Nat) (c : CtxPart) : (setCtxPart s p c).freeCtr = s.freeCtr := rfl
@[simp] theorem setCtxPart_pending (p : Nat) (c : CtxPart) : (setCtxPart s p c).pending = s.pending := rfl

/-! `logAccess` -/
@[simp] theorem logAccess_clk (b f off r : Nat) : (logAccess s b f off r).clk = s.clk := rfl
@[simp] theorem logAccess_flt (b f off r : Nat) : (logAccess s b f off r).flt = s.flt := rfl
@[simp] theorem logAccess_chk (b f off r : Nat) : (logAccess s b f off r).chk = s.chk := rfl
@[simp] theorem logAccess_noc (b f off r : Nat) : (logAccess s b f off r).noc = s.noc := rfl
@[simp] theorem logAccess_ctx (b f off r : Nat) : (logAccess s b f off r).ctx = s.ctx := rfl
@[simp] theorem logAccess_sch (b f off r : Nat) : (logAccess s b f off r).sch = s.sch := rfl
@[simp] theorem logAccess_tiles (b f off r : Nat) : (logAccess s b f off r).tiles = s.tiles := rfl
@[simp] theorem logAccess_slices (b f off r : Nat) : (logAccess s b f off r).slices = s.slices := rfl
@[simp] theorem logAccess_place (b f off r : Nat) : (logAccess s b f off r).place = s.place := rfl
@[simp] theorem logAccess_sliceMap (b f off r : Nat) : (logAccess s b f off r).sliceMap = s.sliceMap := rfl
@[simp] theorem logAccess_homes (b f off r : Nat) : (logAccess s b f off r).homes = s.homes := rfl
@[simp] theorem logAccess_traceExport (b f off r : Nat) : (logAccess s b f off r).traceExport = s.traceExport := rfl
@[simp] theorem logAccess_net (b f off r : Nat) : (logAccess s b f off r).net = s.net := rfl
@[simp] theorem logAccess_outs (b f off r : Nat) : (logAccess s b f off r).outs = s.outs := rfl
@[simp] theorem logAccess_sendWait (b f off r : Nat) : (logAccess s b f off r).sendWait = s.sendWait := rfl
@[simp] theorem logAccess_rings (b f off r : Nat) : (logAccess s b f off r).rings = s.rings := rfl
@[simp] theorem logAccess_fns (b f off r : Nat) : (logAccess s b f off r).fns = s.fns := rfl
@[simp] theorem logAccess_hif (b f off r : Nat) : (logAccess s b f off r).hif = s.hif := rfl
@[simp] theorem logAccess_brd (b f off r : Nat) : (logAccess s b f off r).brd = s.brd := rfl
@[simp] theorem logAccess_fuses (b f off r : Nat) : (logAccess s b f off r).fuses = s.fuses := rfl
@[simp] theorem logAccess_ckr (b f off r : Nat) : (logAccess s b f off r).ckr = s.ckr := rfl
@[simp] theorem logAccess_flash (b f off r : Nat) : (logAccess s b f off r).flash = s.flash := rfl
@[simp] theorem logAccess_array (b f off r : Nat) : (logAccess s b f off r).array = s.array := rfl
@[simp] theorem logAccess_ldg (b f off r : Nat) : (logAccess s b f off r).ldg = s.ldg := rfl
@[simp] theorem logAccess_klb (b f off r : Nat) : (logAccess s b f off r).klb = s.klb := rfl
@[simp] theorem logAccess_ups (b f off r : Nat) : (logAccess s b f off r).ups = s.ups := rfl
@[simp] theorem logAccess_sts (b f off r : Nat) : (logAccess s b f off r).sts = s.sts := rfl
@[simp] theorem logAccess_sif (b f off r : Nat) : (logAccess s b f off r).sif = s.sif := rfl
@[simp] theorem logAccess_lck (b f off r : Nat) : (logAccess s b f off r).lck = s.lck := rfl
@[simp] theorem logAccess_prt (b f off r : Nat) : (logAccess s b f off r).prt = s.prt := rfl
@[simp] theorem logAccess_trl (b f off r : Nat) : (logAccess s b f off r).trl = s.trl := rfl
@[simp] theorem logAccess_spr (b f off r : Nat) : (logAccess s b f off r).spr = s.spr := rfl
@[simp] theorem logAccess_sent (b f off r : Nat) : (logAccess s b f off r).sent = s.sent := rfl
@[simp] theorem logAccess_replays (b f off r : Nat) : (logAccess s b f off r).replays = s.replays := rfl
@[simp] theorem logAccess_purges (b f off r : Nat) : (logAccess s b f off r).purges = s.purges := rfl
@[simp] theorem logAccess_tagCtrs (b f off r : Nat) : (logAccess s b f off r).tagCtrs = s.tagCtrs := rfl
@[simp] theorem logAccess_freeCtr (b f off r : Nat) : (logAccess s b f off r).freeCtr = s.freeCtr := rfl
@[simp] theorem logAccess_pending (b f off r : Nat) : (logAccess s b f off r).pending = s.pending := rfl

/-! `modThread` -/
@[simp] theorem modThread_clr (u : Nat) (f : Thread → Thread) : (modThread s u f).clr = s.clr := rfl
@[simp] theorem modThread_clk (u : Nat) (f : Thread → Thread) : (modThread s u f).clk = s.clk := rfl
@[simp] theorem modThread_flt (u : Nat) (f : Thread → Thread) : (modThread s u f).flt = s.flt := rfl
@[simp] theorem modThread_chk (u : Nat) (f : Thread → Thread) : (modThread s u f).chk = s.chk := rfl
@[simp] theorem modThread_noc (u : Nat) (f : Thread → Thread) : (modThread s u f).noc = s.noc := rfl
@[simp] theorem modThread_ctx (u : Nat) (f : Thread → Thread) : (modThread s u f).ctx = s.ctx := rfl
@[simp] theorem modThread_sch (u : Nat) (f : Thread → Thread) : (modThread s u f).sch = s.sch := rfl
@[simp] theorem modThread_slices (u : Nat) (f : Thread → Thread) : (modThread s u f).slices = s.slices := rfl
@[simp] theorem modThread_place (u : Nat) (f : Thread → Thread) : (modThread s u f).place = s.place := rfl
@[simp] theorem modThread_sliceMap (u : Nat) (f : Thread → Thread) : (modThread s u f).sliceMap = s.sliceMap := rfl
@[simp] theorem modThread_homes (u : Nat) (f : Thread → Thread) : (modThread s u f).homes = s.homes := rfl
@[simp] theorem modThread_traceExport (u : Nat) (f : Thread → Thread) : (modThread s u f).traceExport = s.traceExport := rfl
@[simp] theorem modThread_net (u : Nat) (f : Thread → Thread) : (modThread s u f).net = s.net := rfl
@[simp] theorem modThread_outs (u : Nat) (f : Thread → Thread) : (modThread s u f).outs = s.outs := rfl
@[simp] theorem modThread_sendWait (u : Nat) (f : Thread → Thread) : (modThread s u f).sendWait = s.sendWait := rfl
@[simp] theorem modThread_rings (u : Nat) (f : Thread → Thread) : (modThread s u f).rings = s.rings := rfl
@[simp] theorem modThread_fns (u : Nat) (f : Thread → Thread) : (modThread s u f).fns = s.fns := rfl
@[simp] theorem modThread_hif (u : Nat) (f : Thread → Thread) : (modThread s u f).hif = s.hif := rfl
@[simp] theorem modThread_brd (u : Nat) (f : Thread → Thread) : (modThread s u f).brd = s.brd := rfl
@[simp] theorem modThread_fuses (u : Nat) (f : Thread → Thread) : (modThread s u f).fuses = s.fuses := rfl
@[simp] theorem modThread_ckr (u : Nat) (f : Thread → Thread) : (modThread s u f).ckr = s.ckr := rfl
@[simp] theorem modThread_flash (u : Nat) (f : Thread → Thread) : (modThread s u f).flash = s.flash := rfl
@[simp] theorem modThread_array (u : Nat) (f : Thread → Thread) : (modThread s u f).array = s.array := rfl
@[simp] theorem modThread_ldg (u : Nat) (f : Thread → Thread) : (modThread s u f).ldg = s.ldg := rfl
@[simp] theorem modThread_klb (u : Nat) (f : Thread → Thread) : (modThread s u f).klb = s.klb := rfl
@[simp] theorem modThread_ups (u : Nat) (f : Thread → Thread) : (modThread s u f).ups = s.ups := rfl
@[simp] theorem modThread_sts (u : Nat) (f : Thread → Thread) : (modThread s u f).sts = s.sts := rfl
@[simp] theorem modThread_sif (u : Nat) (f : Thread → Thread) : (modThread s u f).sif = s.sif := rfl
@[simp] theorem modThread_lck (u : Nat) (f : Thread → Thread) : (modThread s u f).lck = s.lck := rfl
@[simp] theorem modThread_prt (u : Nat) (f : Thread → Thread) : (modThread s u f).prt = s.prt := rfl
@[simp] theorem modThread_trl (u : Nat) (f : Thread → Thread) : (modThread s u f).trl = s.trl := rfl
@[simp] theorem modThread_spr (u : Nat) (f : Thread → Thread) : (modThread s u f).spr = s.spr := rfl
@[simp] theorem modThread_sent (u : Nat) (f : Thread → Thread) : (modThread s u f).sent = s.sent := rfl
@[simp] theorem modThread_replays (u : Nat) (f : Thread → Thread) : (modThread s u f).replays = s.replays := rfl
@[simp] theorem modThread_purges (u : Nat) (f : Thread → Thread) : (modThread s u f).purges = s.purges := rfl
@[simp] theorem modThread_tagCtrs (u : Nat) (f : Thread → Thread) : (modThread s u f).tagCtrs = s.tagCtrs := rfl
@[simp] theorem modThread_freeCtr (u : Nat) (f : Thread → Thread) : (modThread s u f).freeCtr = s.freeCtr := rfl
@[simp] theorem modThread_pending (u : Nat) (f : Thread → Thread) : (modThread s u f).pending = s.pending := rfl

/-! `setG` -/
@[simp] theorem setG_clr (u r v : Nat) (x : Bool) : (setG s u r v x).clr = s.clr := rfl
@[simp] theorem setG_clk (u r v : Nat) (x : Bool) : (setG s u r v x).clk = s.clk := rfl
@[simp] theorem setG_flt (u r v : Nat) (x : Bool) : (setG s u r v x).flt = s.flt := rfl
@[simp] theorem setG_chk (u r v : Nat) (x : Bool) : (setG s u r v x).chk = s.chk := rfl
@[simp] theorem setG_noc (u r v : Nat) (x : Bool) : (setG s u r v x).noc = s.noc := rfl
@[simp] theorem setG_ctx (u r v : Nat) (x : Bool) : (setG s u r v x).ctx = s.ctx := rfl
@[simp] theorem setG_sch (u r v : Nat) (x : Bool) : (setG s u r v x).sch = s.sch := rfl
@[simp] theorem setG_slices (u r v : Nat) (x : Bool) : (setG s u r v x).slices = s.slices := rfl
@[simp] theorem setG_place (u r v : Nat) (x : Bool) : (setG s u r v x).place = s.place := rfl
@[simp] theorem setG_sliceMap (u r v : Nat) (x : Bool) : (setG s u r v x).sliceMap = s.sliceMap := rfl
@[simp] theorem setG_homes (u r v : Nat) (x : Bool) : (setG s u r v x).homes = s.homes := rfl
@[simp] theorem setG_traceExport (u r v : Nat) (x : Bool) : (setG s u r v x).traceExport = s.traceExport := rfl
@[simp] theorem setG_net (u r v : Nat) (x : Bool) : (setG s u r v x).net = s.net := rfl
@[simp] theorem setG_outs (u r v : Nat) (x : Bool) : (setG s u r v x).outs = s.outs := rfl
@[simp] theorem setG_sendWait (u r v : Nat) (x : Bool) : (setG s u r v x).sendWait = s.sendWait := rfl
@[simp] theorem setG_rings (u r v : Nat) (x : Bool) : (setG s u r v x).rings = s.rings := rfl
@[simp] theorem setG_fns (u r v : Nat) (x : Bool) : (setG s u r v x).fns = s.fns := rfl
@[simp] theorem setG_hif (u r v : Nat) (x : Bool) : (setG s u r v x).hif = s.hif := rfl
@[simp] theorem setG_brd (u r v : Nat) (x : Bool) : (setG s u r v x).brd = s.brd := rfl
@[simp] theorem setG_fuses (u r v : Nat) (x : Bool) : (setG s u r v x).fuses = s.fuses := rfl
@[simp] theorem setG_ckr (u r v : Nat) (x : Bool) : (setG s u r v x).ckr = s.ckr := rfl
@[simp] theorem setG_flash (u r v : Nat) (x : Bool) : (setG s u r v x).flash = s.flash := rfl
@[simp] theorem setG_array (u r v : Nat) (x : Bool) : (setG s u r v x).array = s.array := rfl
@[simp] theorem setG_ldg (u r v : Nat) (x : Bool) : (setG s u r v x).ldg = s.ldg := rfl
@[simp] theorem setG_klb (u r v : Nat) (x : Bool) : (setG s u r v x).klb = s.klb := rfl
@[simp] theorem setG_ups (u r v : Nat) (x : Bool) : (setG s u r v x).ups = s.ups := rfl
@[simp] theorem setG_sts (u r v : Nat) (x : Bool) : (setG s u r v x).sts = s.sts := rfl
@[simp] theorem setG_sif (u r v : Nat) (x : Bool) : (setG s u r v x).sif = s.sif := rfl
@[simp] theorem setG_lck (u r v : Nat) (x : Bool) : (setG s u r v x).lck = s.lck := rfl
@[simp] theorem setG_prt (u r v : Nat) (x : Bool) : (setG s u r v x).prt = s.prt := rfl
@[simp] theorem setG_trl (u r v : Nat) (x : Bool) : (setG s u r v x).trl = s.trl := rfl
@[simp] theorem setG_spr (u r v : Nat) (x : Bool) : (setG s u r v x).spr = s.spr := rfl
@[simp] theorem setG_sent (u r v : Nat) (x : Bool) : (setG s u r v x).sent = s.sent := rfl
@[simp] theorem setG_replays (u r v : Nat) (x : Bool) : (setG s u r v x).replays = s.replays := rfl
@[simp] theorem setG_purges (u r v : Nat) (x : Bool) : (setG s u r v x).purges = s.purges := rfl
@[simp] theorem setG_tagCtrs (u r v : Nat) (x : Bool) : (setG s u r v x).tagCtrs = s.tagCtrs := rfl
@[simp] theorem setG_freeCtr (u r v : Nat) (x : Bool) : (setG s u r v x).freeCtr = s.freeCtr := rfl
@[simp] theorem setG_pending (u r v : Nat) (x : Bool) : (setG s u r v x).pending = s.pending := rfl

/-! `setP` -/
@[simp] theorem setP_clr (u r : Nat) (x : Bool) : (setP s u r x).clr = s.clr := rfl
@[simp] theorem setP_clk (u r : Nat) (x : Bool) : (setP s u r x).clk = s.clk := rfl
@[simp] theorem setP_flt (u r : Nat) (x : Bool) : (setP s u r x).flt = s.flt := rfl
@[simp] theorem setP_chk (u r : Nat) (x : Bool) : (setP s u r x).chk = s.chk := rfl
@[simp] theorem setP_noc (u r : Nat) (x : Bool) : (setP s u r x).noc = s.noc := rfl
@[simp] theorem setP_ctx (u r : Nat) (x : Bool) : (setP s u r x).ctx = s.ctx := rfl
@[simp] theorem setP_sch (u r : Nat) (x : Bool) : (setP s u r x).sch = s.sch := rfl
@[simp] theorem setP_slices (u r : Nat) (x : Bool) : (setP s u r x).slices = s.slices := rfl
@[simp] theorem setP_place (u r : Nat) (x : Bool) : (setP s u r x).place = s.place := rfl
@[simp] theorem setP_sliceMap (u r : Nat) (x : Bool) : (setP s u r x).sliceMap = s.sliceMap := rfl
@[simp] theorem setP_homes (u r : Nat) (x : Bool) : (setP s u r x).homes = s.homes := rfl
@[simp] theorem setP_traceExport (u r : Nat) (x : Bool) : (setP s u r x).traceExport = s.traceExport := rfl
@[simp] theorem setP_net (u r : Nat) (x : Bool) : (setP s u r x).net = s.net := rfl
@[simp] theorem setP_outs (u r : Nat) (x : Bool) : (setP s u r x).outs = s.outs := rfl
@[simp] theorem setP_sendWait (u r : Nat) (x : Bool) : (setP s u r x).sendWait = s.sendWait := rfl
@[simp] theorem setP_rings (u r : Nat) (x : Bool) : (setP s u r x).rings = s.rings := rfl
@[simp] theorem setP_fns (u r : Nat) (x : Bool) : (setP s u r x).fns = s.fns := rfl
@[simp] theorem setP_hif (u r : Nat) (x : Bool) : (setP s u r x).hif = s.hif := rfl
@[simp] theorem setP_brd (u r : Nat) (x : Bool) : (setP s u r x).brd = s.brd := rfl
@[simp] theorem setP_fuses (u r : Nat) (x : Bool) : (setP s u r x).fuses = s.fuses := rfl
@[simp] theorem setP_ckr (u r : Nat) (x : Bool) : (setP s u r x).ckr = s.ckr := rfl
@[simp] theorem setP_flash (u r : Nat) (x : Bool) : (setP s u r x).flash = s.flash := rfl
@[simp] theorem setP_array (u r : Nat) (x : Bool) : (setP s u r x).array = s.array := rfl
@[simp] theorem setP_ldg (u r : Nat) (x : Bool) : (setP s u r x).ldg = s.ldg := rfl
@[simp] theorem setP_klb (u r : Nat) (x : Bool) : (setP s u r x).klb = s.klb := rfl
@[simp] theorem setP_ups (u r : Nat) (x : Bool) : (setP s u r x).ups = s.ups := rfl
@[simp] theorem setP_sts (u r : Nat) (x : Bool) : (setP s u r x).sts = s.sts := rfl
@[simp] theorem setP_sif (u r : Nat) (x : Bool) : (setP s u r x).sif = s.sif := rfl
@[simp] theorem setP_lck (u r : Nat) (x : Bool) : (setP s u r x).lck = s.lck := rfl
@[simp] theorem setP_prt (u r : Nat) (x : Bool) : (setP s u r x).prt = s.prt := rfl
@[simp] theorem setP_trl (u r : Nat) (x : Bool) : (setP s u r x).trl = s.trl := rfl
@[simp] theorem setP_spr (u r : Nat) (x : Bool) : (setP s u r x).spr = s.spr := rfl
@[simp] theorem setP_sent (u r : Nat) (x : Bool) : (setP s u r x).sent = s.sent := rfl
@[simp] theorem setP_replays (u r : Nat) (x : Bool) : (setP s u r x).replays = s.replays := rfl
@[simp] theorem setP_purges (u r : Nat) (x : Bool) : (setP s u r x).purges = s.purges := rfl
@[simp] theorem setP_tagCtrs (u r : Nat) (x : Bool) : (setP s u r x).tagCtrs = s.tagCtrs := rfl
@[simp] theorem setP_freeCtr (u r : Nat) (x : Bool) : (setP s u r x).freeCtr = s.freeCtr := rfl
@[simp] theorem setP_pending (u r : Nat) (x : Bool) : (setP s u r x).pending = s.pending := rfl

/-! `setV` -/
@[simp] theorem setV_clr (u r : Nat) (x : VReg) : (setV s u r x).clr = s.clr := rfl
@[simp] theorem setV_clk (u r : Nat) (x : VReg) : (setV s u r x).clk = s.clk := rfl
@[simp] theorem setV_flt (u r : Nat) (x : VReg) : (setV s u r x).flt = s.flt := rfl
@[simp] theorem setV_chk (u r : Nat) (x : VReg) : (setV s u r x).chk = s.chk := rfl
@[simp] theorem setV_noc (u r : Nat) (x : VReg) : (setV s u r x).noc = s.noc := rfl
@[simp] theorem setV_ctx (u r : Nat) (x : VReg) : (setV s u r x).ctx = s.ctx := rfl
@[simp] theorem setV_sch (u r : Nat) (x : VReg) : (setV s u r x).sch = s.sch := rfl
@[simp] theorem setV_slices (u r : Nat) (x : VReg) : (setV s u r x).slices = s.slices := rfl
@[simp] theorem setV_place (u r : Nat) (x : VReg) : (setV s u r x).place = s.place := rfl
@[simp] theorem setV_sliceMap (u r : Nat) (x : VReg) : (setV s u r x).sliceMap = s.sliceMap := rfl
@[simp] theorem setV_homes (u r : Nat) (x : VReg) : (setV s u r x).homes = s.homes := rfl
@[simp] theorem setV_traceExport (u r : Nat) (x : VReg) : (setV s u r x).traceExport = s.traceExport := rfl
@[simp] theorem setV_net (u r : Nat) (x : VReg) : (setV s u r x).net = s.net := rfl
@[simp] theorem setV_outs (u r : Nat) (x : VReg) : (setV s u r x).outs = s.outs := rfl
@[simp] theorem setV_sendWait (u r : Nat) (x : VReg) : (setV s u r x).sendWait = s.sendWait := rfl
@[simp] theorem setV_rings (u r : Nat) (x : VReg) : (setV s u r x).rings = s.rings := rfl
@[simp] theorem setV_fns (u r : Nat) (x : VReg) : (setV s u r x).fns = s.fns := rfl
@[simp] theorem setV_hif (u r : Nat) (x : VReg) : (setV s u r x).hif = s.hif := rfl
@[simp] theorem setV_brd (u r : Nat) (x : VReg) : (setV s u r x).brd = s.brd := rfl
@[simp] theorem setV_fuses (u r : Nat) (x : VReg) : (setV s u r x).fuses = s.fuses := rfl
@[simp] theorem setV_ckr (u r : Nat) (x : VReg) : (setV s u r x).ckr = s.ckr := rfl
@[simp] theorem setV_flash (u r : Nat) (x : VReg) : (setV s u r x).flash = s.flash := rfl
@[simp] theorem setV_array (u r : Nat) (x : VReg) : (setV s u r x).array = s.array := rfl
@[simp] theorem setV_ldg (u r : Nat) (x : VReg) : (setV s u r x).ldg = s.ldg := rfl
@[simp] theorem setV_klb (u r : Nat) (x : VReg) : (setV s u r x).klb = s.klb := rfl
@[simp] theorem setV_ups (u r : Nat) (x : VReg) : (setV s u r x).ups = s.ups := rfl
@[simp] theorem setV_sts (u r : Nat) (x : VReg) : (setV s u r x).sts = s.sts := rfl
@[simp] theorem setV_sif (u r : Nat) (x : VReg) : (setV s u r x).sif = s.sif := rfl
@[simp] theorem setV_lck (u r : Nat) (x : VReg) : (setV s u r x).lck = s.lck := rfl
@[simp] theorem setV_prt (u r : Nat) (x : VReg) : (setV s u r x).prt = s.prt := rfl
@[simp] theorem setV_trl (u r : Nat) (x : VReg) : (setV s u r x).trl = s.trl := rfl
@[simp] theorem setV_spr (u r : Nat) (x : VReg) : (setV s u r x).spr = s.spr := rfl
@[simp] theorem setV_sent (u r : Nat) (x : VReg) : (setV s u r x).sent = s.sent := rfl
@[simp] theorem setV_replays (u r : Nat) (x : VReg) : (setV s u r x).replays = s.replays := rfl
@[simp] theorem setV_purges (u r : Nat) (x : VReg) : (setV s u r x).purges = s.purges := rfl
@[simp] theorem setV_tagCtrs (u r : Nat) (x : VReg) : (setV s u r x).tagCtrs = s.tagCtrs := rfl
@[simp] theorem setV_freeCtr (u r : Nat) (x : VReg) : (setV s u r x).freeCtr = s.freeCtr := rfl
@[simp] theorem setV_pending (u r : Nat) (x : VReg) : (setV s u r x).pending = s.pending := rfl

/-! `advance` -/
@[simp] theorem advance_clr (u : Nat) (i : Ins) : (advance s u i).clr = s.clr := rfl
@[simp] theorem advance_clk (u : Nat) (i : Ins) : (advance s u i).clk = s.clk := rfl
@[simp] theorem advance_flt (u : Nat) (i : Ins) : (advance s u i).flt = s.flt := rfl
@[simp] theorem advance_chk (u : Nat) (i : Ins) : (advance s u i).chk = s.chk := rfl
@[simp] theorem advance_noc (u : Nat) (i : Ins) : (advance s u i).noc = s.noc := rfl
@[simp] theorem advance_ctx (u : Nat) (i : Ins) : (advance s u i).ctx = s.ctx := rfl
@[simp] theorem advance_sch (u : Nat) (i : Ins) : (advance s u i).sch = s.sch := rfl
@[simp] theorem advance_slices (u : Nat) (i : Ins) : (advance s u i).slices = s.slices := rfl
@[simp] theorem advance_place (u : Nat) (i : Ins) : (advance s u i).place = s.place := rfl
@[simp] theorem advance_sliceMap (u : Nat) (i : Ins) : (advance s u i).sliceMap = s.sliceMap := rfl
@[simp] theorem advance_homes (u : Nat) (i : Ins) : (advance s u i).homes = s.homes := rfl
@[simp] theorem advance_traceExport (u : Nat) (i : Ins) : (advance s u i).traceExport = s.traceExport := rfl
@[simp] theorem advance_net (u : Nat) (i : Ins) : (advance s u i).net = s.net := rfl
@[simp] theorem advance_outs (u : Nat) (i : Ins) : (advance s u i).outs = s.outs := rfl
@[simp] theorem advance_sendWait (u : Nat) (i : Ins) : (advance s u i).sendWait = s.sendWait := rfl
@[simp] theorem advance_rings (u : Nat) (i : Ins) : (advance s u i).rings = s.rings := rfl
@[simp] theorem advance_fns (u : Nat) (i : Ins) : (advance s u i).fns = s.fns := rfl
@[simp] theorem advance_hif (u : Nat) (i : Ins) : (advance s u i).hif = s.hif := rfl
@[simp] theorem advance_brd (u : Nat) (i : Ins) : (advance s u i).brd = s.brd := rfl
@[simp] theorem advance_fuses (u : Nat) (i : Ins) : (advance s u i).fuses = s.fuses := rfl
@[simp] theorem advance_ckr (u : Nat) (i : Ins) : (advance s u i).ckr = s.ckr := rfl
@[simp] theorem advance_flash (u : Nat) (i : Ins) : (advance s u i).flash = s.flash := rfl
@[simp] theorem advance_array (u : Nat) (i : Ins) : (advance s u i).array = s.array := rfl
@[simp] theorem advance_ldg (u : Nat) (i : Ins) : (advance s u i).ldg = s.ldg := rfl
@[simp] theorem advance_klb (u : Nat) (i : Ins) : (advance s u i).klb = s.klb := rfl
@[simp] theorem advance_ups (u : Nat) (i : Ins) : (advance s u i).ups = s.ups := rfl
@[simp] theorem advance_sts (u : Nat) (i : Ins) : (advance s u i).sts = s.sts := rfl
@[simp] theorem advance_sif (u : Nat) (i : Ins) : (advance s u i).sif = s.sif := rfl
@[simp] theorem advance_lck (u : Nat) (i : Ins) : (advance s u i).lck = s.lck := rfl
@[simp] theorem advance_prt (u : Nat) (i : Ins) : (advance s u i).prt = s.prt := rfl
@[simp] theorem advance_trl (u : Nat) (i : Ins) : (advance s u i).trl = s.trl := rfl
@[simp] theorem advance_spr (u : Nat) (i : Ins) : (advance s u i).spr = s.spr := rfl
@[simp] theorem advance_sent (u : Nat) (i : Ins) : (advance s u i).sent = s.sent := rfl
@[simp] theorem advance_replays (u : Nat) (i : Ins) : (advance s u i).replays = s.replays := rfl
@[simp] theorem advance_purges (u : Nat) (i : Ins) : (advance s u i).purges = s.purges := rfl
@[simp] theorem advance_tagCtrs (u : Nat) (i : Ins) : (advance s u i).tagCtrs = s.tagCtrs := rfl
@[simp] theorem advance_freeCtr (u : Nat) (i : Ins) : (advance s u i).freeCtr = s.freeCtr := rfl
@[simp] theorem advance_pending (u : Nat) (i : Ins) : (advance s u i).pending = s.pending := rfl

end Sys2Proof.Machine
end

