-- ==== Sys2Proof/Laws/Node.lean ====
section
/-! SUPPORT. What a node-code instruction does once it issues, said once for every instruction, and what its fetch leaves alone. -/

namespace Sys2Proof.Machine

/-- An instruction that issues runs its own meaning, on the state that its fetch leaves. -/
theorem issue_runs {s s1 : State} {u : Nat} {i : Ins} (h : Issues s u i s1) (want : NOp → Bool) (run : Ins → State → State)
    (hw : want i.op = true) : issue s u want run = run i s1 := by
  obtain ⟨h1, h2, h3, h4, h5, h6, h7⟩ := h
  have ht : (trapOnly i.op && !(tileAt s u).thread.trapBank) = false := by
    cases hb : trapOnly i.op with
    | false => rfl
    | true => simp [h5 hb]
  have h7' : interlocked (tileAt s u).thread i = false := h7
  unfold issue
  simp only [h1, h2, h3, h4, ht, hw, h7']
  cases hq : i.lead.pred with
  | none => simp
  | some x => simp [h6 x.1 x.2 hq]

/-- A fetch raises the records of the stored errors that it meets, and touches nothing but tiles and the collector's inbox. -/
theorem fetchLine_frame (s : State) (u l : Nat) :
    ∃ ts fl, (fetchLine s u l).1 = { s with tiles := ts, flt := fl } := by
  unfold fetchLine
  dsimp only
  split
  · exact ⟨s.tiles, s.flt, rfl⟩
  · exact ⟨_, _, rfl⟩
  · exact ⟨_, s.flt, rfl⟩

/-- Fetches of several lines touch nothing but tiles and the collector's inbox. -/
theorem fetchLines_frame (n : Nat) (s : State) (u l : Nat) :
    ∃ ts fl, (fetchLines s u l n).1 = { s with tiles := ts, flt := fl } := by
  induction n generalizing s l with
  | zero => exact ⟨s.tiles, s.flt, rfl⟩
  | succ k ih =>
    obtain ⟨ts, fl, e⟩ := fetchLine_frame s u l
    unfold fetchLines
    cases hf : fetchLine s u l with
    | mk s1 bad =>
      rw [hf] at e
      cases bad with
      | true => exact ⟨ts, fl, e⟩
      | false =>
        obtain ⟨ts2, fl2, e2⟩ := ih s1 (l + 1)
        refine ⟨ts2, fl2, ?_⟩
        simp only [Bool.false_eq_true, if_false]
        rw [e2]
        have e' : s1 = { s with tiles := ts, flt := fl } := e
        rw [e']

/-- Operands without poison are consumed without effect. -/
theorem consumeG_clean (s : State) (u : Nat) (rs : List Nat) (k : State → State) (h : ∀ r ∈ rs, (gReg s u r).poison = false) :
    consumeG s u rs k = k s := by
  unfold consumeG
  have : rs.find? (fun r => (gReg s u r).poison) = none := by
    simp only [List.find?_eq_none]
    intro r hr
    simp [h r hr]
  rw [this]

/-- Vector operands without poison are consumed without effect. -/
theorem consumeV_clean (s : State) (u : Nat) (rs : List Nat) (k : State → State) (h : ∀ r ∈ rs, (vReg s u r).poison = false) :
    consumeV s u rs k = k s := by
  unfold consumeV
  have : rs.find? (fun r => (vReg s u r).poison) = none := by
    simp only [List.find?_eq_none]
    intro r hr
    simp [h r hr]
  rw [this]

/-- The registers that an instruction writes read back (the thread's register files hold 64 and 8 registers). -/
@[simp] theorem gReg_setG_same (s : State) (u r v : Nat) (pz : Bool) (hu : u < s.tiles.length) (hr : r < (tileAt s u).thread.g.length) :
    gReg (setG s u r v pz) u r = ⟨BitVec.ofNat 64 v, pz⟩ := by
  simp [gReg, setG, modThread, hu, hr]

/-- Every other g register keeps its value. -/
@[simp] theorem gReg_setG_other (s : State) (u r q v : Nat) (pz : Bool) (hu : u < s.tiles.length) (hr : q ≠ r) :
    gReg (setG s u r v pz) u q = gReg s u q := by
  have : r ≠ q := fun h => hr h.symm
  simp [gReg, setG, modThread, hu, this]

end Sys2Proof.Machine
end

