-- ==== Sys2Proof/Laws/Sparse.lean ====
section
/-! SUPPORT. The laws of the sparse maps that hold every memory of the part: a read after a write, the reads that a write leaves
alone, and the canonical form that every write keeps. -/

namespace Sys2Proof.Machine

variable {α : Type}

@[simp] theorem SMap.get_nil (d : α) (a : Nat) : SMap.get d [] a = d := rfl

/-- A key just listed reads as listed. -/
theorem SMap.get_ins_same (d : α) (m : SMap α) (a : Nat) (v : α) : SMap.get d (SMap.ins m a v) a = v := by
  induction m with
  | nil => simp [SMap.ins, SMap.get]
  | cons e t ih => simp only [SMap.ins]; split <;> (try split) <;> simp_all [SMap.get]

/-- Listing a key leaves the others alone. -/
theorem SMap.get_ins_other (d : α) (m : SMap α) {a b : Nat} (hab : b ≠ a) (v : α) : SMap.get d (SMap.ins m a v) b = SMap.get d m b := by
  induction m with
  | nil => simp [SMap.ins, SMap.get, hab]
  | cons e t ih => simp only [SMap.ins]; split <;> (try split) <;> simp_all [SMap.get]

/-- A key that is dropped reads as the default, every other as before. -/
theorem SMap.get_filter_ne (d : α) (m : SMap α) (a b : Nat) :
    SMap.get d (List.filter (fun e => e.1 != a) m) b = if b = a then d else SMap.get d m b := by
  induction m with
  | nil => simp
  | cons e t ih =>
    obtain ⟨k, w⟩ := e
    by_cases h : k = a
    · subst h
      simp only [List.filter, bne_self_eq_false, ih, SMap.get]
      split <;> simp_all
    · have hk : (k != a) = true := by simpa using h
      simp only [List.filter, hk, SMap.get, ih]
      by_cases h1 : b = k
      · subst h1; simp [h]
      · simp [h1]

variable [DecidableEq α]

/-- The canonical form from a higher bound holds from a lower one. -/
theorem SMap.wfFrom_mono (d : α) {lo lo' : Nat} (h : lo' ≤ lo) (m : SMap α) (hm : SMap.wfFrom d lo m = true) :
    SMap.wfFrom d lo' m = true := by
  cases m with
  | nil => rfl
  | cons e t =>
    obtain ⟨k, v⟩ := e
    simp only [SMap.wfFrom, Bool.and_eq_true, decide_eq_true_eq] at hm ⊢
    exact ⟨⟨by omega, hm.1.2⟩, hm.2⟩

/-- The key just written reads as what was written. -/
theorem SMap.get_put_same (d : α) (m : SMap α) (a : Nat) (v : α) : SMap.get d (SMap.put d m a v) a = v := by
  unfold SMap.put
  split
  · next h => simp [SMap.get_filter_ne, h]
  · exact SMap.get_ins_same d m a v

/-- Every other key reads as before a write. -/
theorem SMap.get_put_other (d : α) (m : SMap α) {a b : Nat} (hab : b ≠ a) (v : α) :
    SMap.get d (SMap.put d m a v) b = SMap.get d m b := by
  unfold SMap.put
  split
  · simp [SMap.get_filter_ne, hab]
  · exact SMap.get_ins_other d m hab v

/-- Keeping some entries keeps the canonical form. -/
theorem SMap.wfFrom_filter (d : α) (m : SMap α) (p : Nat × α → Bool) {lo : Nat} (hm : SMap.wfFrom d lo m = true) :
    SMap.wfFrom d lo (List.filter p m) = true := by
  induction m generalizing lo with
  | nil => rfl
  | cons e t ih =>
    obtain ⟨k, w⟩ := e
    simp only [SMap.wfFrom, Bool.and_eq_true, decide_eq_true_eq] at hm
    by_cases h : p (k, w) = true
    · simp [List.filter, h, SMap.wfFrom, hm.1.1, hm.1.2, ih hm.2]
    · simp only [Bool.not_eq_true] at h
      simpa [List.filter, h] using SMap.wfFrom_mono d (lo := k + 1) (lo' := lo) (by omega) _ (ih hm.2)

/-- A write keeps the canonical form. -/
theorem SMap.wfFrom_put (d : α) (m : SMap α) {lo a : Nat} (ha : lo ≤ a) (v : α) (hm : SMap.wfFrom d lo m = true) :
    SMap.wfFrom d lo (SMap.put d m a v) = true := by
  unfold SMap.put
  split
  · exact SMap.wfFrom_filter d m _ hm
  · next hv =>
    induction m generalizing lo with
    | nil => simp [SMap.ins, SMap.wfFrom, ha, hv]
    | cons e t ih =>
      obtain ⟨k, w⟩ := e
      simp only [SMap.wfFrom, Bool.and_eq_true, decide_eq_true_eq] at hm
      simp only [SMap.ins]
      by_cases h1 : a = k
      · subst h1; simp [SMap.wfFrom, hv, hm.1.1, hm.2]
      · by_cases h2 : a < k
        · have h4 : a + 1 ≤ k := h2
          simp [h1, h2, hv, SMap.wfFrom, ha, h4, hm.1.2, hm.2]
        · have h5 : k + 1 ≤ a := by omega
          simp [h1, h2, SMap.wfFrom, hm.1.1, hm.1.2, ih h5 hm.2]

/-- A write keeps the canonical form of a table. -/
theorem SMap.wf_put (d : α) (m : SMap α) (a : Nat) (v : α) (hm : SMap.wf d m = true) : SMap.wf d (SMap.put d m a v) = true :=
  SMap.wfFrom_put d m (Nat.zero_le a) v hm

/-- Dropping entries keeps the canonical form. -/
theorem SMap.wfFrom_drop (d : α) (m : SMap α) (p : Nat → Bool) {lo : Nat} (hm : SMap.wfFrom d lo m = true) :
    SMap.wfFrom d lo (SMap.drop m p) = true :=
  SMap.wfFrom_filter d m _ hm

/-! Byte memories. -/

/-- The byte just written reads as written. -/
theorem ByteMem.rd_wr_same (m : ByteMem) (a : Nat) (b : Byte) : (m.wr a b).rd a = b := SMap.get_put_same 0 m a b

/-- Every other byte reads as before. -/
theorem ByteMem.rd_wr_other (m : ByteMem) {a c : Nat} (h : c ≠ a) (b : Byte) : (m.wr a b).rd c = m.rd c :=
  SMap.get_put_other 0 m h b

/-- A byte write keeps the canonical form. -/
theorem ByteMem.wf_wr (m : ByteMem) (a : Nat) (b : Byte) (hm : Memory.wf m = true) : Memory.wf (m.wr a b) = true :=
  SMap.wf_put 0 m a b hm

/-- A write of several bytes keeps the canonical form. -/
theorem ByteMem.wf_wrBytes (bs : List Byte) (m : ByteMem) (a : Nat) (hm : Memory.wf m = true) : Memory.wf (m.wrBytes a bs) = true := by
  induction bs generalizing m a with
  | nil => exact hm
  | cons b t ih => exact ih _ _ (ByteMem.wf_wr m a b hm)

/-- A write of several bytes leaves every byte outside them alone. -/
theorem ByteMem.rd_wrBytes_other (bs : List Byte) (m : ByteMem) (a c : Nat) (h : c < a ∨ a + bs.length ≤ c) :
    (m.wrBytes a bs).rd c = m.rd c := by
  induction bs generalizing m a with
  | nil => rfl
  | cons b t ih =>
    simp only [List.length_cons] at h
    rw [ByteMem.wrBytes, ih _ _ (by omega), ByteMem.rd_wr_other m (by omega) b]

/-- The bytes just written read back as written. -/
theorem ByteMem.rdBytes_wrBytes (bs : List Byte) (m : ByteMem) (a : Nat) : (m.wrBytes a bs).rdBytes a bs.length = bs := by
  induction bs generalizing m a with
  | nil => rfl
  | cons b t ih =>
    simp only [List.length_cons, ByteMem.rdBytes, ByteMem.wrBytes, List.cons.injEq]
    exact ⟨by rw [ByteMem.rd_wrBytes_other t _ _ _ (by omega), ByteMem.rd_wr_same m a b], ih _ _⟩

end Sys2Proof.Machine
end

