-- ==== Sys2Proof/Laws/Ops.lean ====
section
/-! SUPPORT. What the operations shared by the commands do, each said once: settling a command, requests and their replay caches,
packets and fault messages, and the memories after reset. -/

namespace Sys2Proof.Machine

/-! ### Settling a command -/

/-- A command that settles completes, with its queue and its fuses as before. -/
theorem settled_next (s t : State) : settled s t = .next (kept s t) := rfl

/-- A settled command leaves its state alone where its effect does. -/
theorem settled_self (s : State) : settled s s = .next s := rfl

/-! ### A request arrives (R334, R339) -/

/-- A request that may arrive leaves the network and is served. -/
theorem arriveReq_served {s : State} {target : Nat} {rq : Rq} {b : Body} (serve : State → State)
    (h : arrivable s (reqPkt target rq b) = true) : arriveReq s target rq b serve = serve (takePkt s (reqPkt target rq b)) := by
  simp [arriveReq, h]

/-- One that waits behind an older packet of its flow changes nothing. -/
theorem arriveReq_held {s : State} {target : Nat} {rq : Rq} {b : Body} (serve : State → State)
    (h : arrivable s (reqPkt target rq b) = false) : arriveReq s target rq b serve = s := by
  simp [arriveReq, h]

/-- A packet that leaves the network changes no slice. -/
@[simp] theorem sliceLeft_takePkt (s : State) (p : Packet) (u : Nat) : sliceLeft (takePkt s p) u = sliceLeft s u := rfl

/-- It changes no replay cache. -/
@[simp] theorem replays_takePkt (s : State) (p : Packet) : (takePkt s p).replays = s.replays := rfl

/-- A cached request with a new tag is evaluated; its answer is sent, and kept where the target's state changed. -/
theorem cachedReq_new {s : State} {target : Nat} {rq : Rq} {eval : State → Eval} {r : Resp}
    (hs : sliceLeft s target = none) (hr : s.replays.find? (fun e => e.is target rq) = none) (ha : (eval s).ans = some r) :
    cachedReq s target rq eval
      = respond (if (eval s).changed then replayAdd (eval s).st target rq (some r) else (eval s).st) target rq r := by
  simp [cachedReq, hs, lookupReq, hr, ha]

/-- One that must wait is answered WAIT. -/
theorem cachedReq_wait {s : State} {target : Nat} {rq : Rq} {eval : State → Eval}
    (hs : sliceLeft s target = none) (hr : s.replays.find? (fun e => e.is target rq) = none) (ha : (eval s).ans = none) :
    cachedReq s target rq eval
      = respond (if (eval s).changed then replayAdd (eval s).st target rq none else (eval s).st) target rq .wait := by
  simp [cachedReq, hs, lookupReq, hr, ha]

/-- One whose tag is kept is answered from its entry and evaluated no second time. -/
theorem cachedReq_repeat {s : State} {target : Nat} {rq : Rq} {eval : State → Eval} {e : Replay}
    (hs : sliceLeft s target = none) (hr : s.replays.find? (fun e => e.is target rq) = some e) (hl : e.lost = false) (he : e.err = 0) :
    cachedReq s target rq eval = respond s target rq (e.done.getD .wait) := by
  cases hd : e.done <;> simp [cachedReq, hs, lookupReq, hr, hl, he, hd]

/-- In a slice every request is answered BUSY_RETRY. -/
theorem cachedReq_busy {s : State} {target : Nat} {rq : Rq} {eval : State → Eval} {n : Nat} (hs : sliceLeft s target = some n) :
    cachedReq s target rq eval = respond s target rq (.busyRetry (n + 16)) := by
  simp [cachedReq, hs]

/-- A request that is not cached is evaluated and answered. -/
theorem plainReq_answer {s : State} {target : Nat} {rq : Rq} {eval : State → Eval} {r : Resp}
    (hs : sliceLeft s target = none) (ha : (eval s).ans = some r) : plainReq s target rq eval = respond (eval s).st target rq r := by
  simp [plainReq, hs, ha]

/-! ### A request leaves (R338, R340) -/

/-- A request that leaves is the newest packet and the newest outstanding request, with its end-to-end timer started; no tile changes. -/
theorem sendNow_spec (s : State) (o : OutReq) :
    (sendNow s o).net = s.net ++ [{ cls := 2, dest := o.target, src := rqId o.unit o.sub, part := o.part, tag := sendTag s o, body := o.body }]
    ∧ (sendNow s o).outs = s.outs ++ [{ o with tag := sendTag s o, timer := some (unitNow s o.unit + e2eLimit s) }]
    ∧ (sendNow s o).tiles = s.tiles := by
  unfold sendNow
  cases cachedOp o.body <;> simp [sendPkt, tagBump]

/-- A request that is not cached leaves at once. -/
theorem sendReq_plain (s : State) (o : OutReq) (h : cachedOp o.body = false) : sendReq s o = sendNow s o := by simp [sendReq, h]

/-! ### Packets and fault messages -/

/-- A packet that is sent is in the network. -/
theorem mem_net_sendPkt (s : State) (p : Packet) : p ∈ (sendPkt s p).net := by simp [sendPkt]

/-- An answer is the newest packet. -/
theorem respond_net (s : State) (target : Nat) (rq : Rq) (r : Resp) : (respond s target rq r).net
    = s.net ++ [{ cls := 3, dest := rq.src / 4, src := rqId target 0, part := rq.part, tag := rq.tag, body := .rsp (rq.src % 4) r }] := rfl

/-- A fault message is the newest of the collector's inbox, and nothing else changes. -/
theorem raise_spec (s : State) (kind reporter : Nat) (part : Option Nat) (addr detail : Nat) : raise s kind reporter part addr detail
    = { s with flt := { s.flt with inbox := s.flt.inbox ++ [⟨now s % 2 ^ 64, faultHead kind reporter (reporter / 4) part none, addr, detail⟩] } } := rfl

/-! ### The memories after reset -/

/-- Every byte memory of a tile has its canonical form after reset. -/
theorem reset_tiles_wf : ∀ t ∈ State.reset.tiles, Memory.wf t.frame = true ∧ Memory.wf t.istore = true := by decide +kernel

/-- So have the flash and the stand buffers. -/
theorem reset_stores_wf : Memory.wf State.reset.flash = true ∧ (∀ x ∈ State.reset.sts, Memory.wf x.mem = true) := by decide +kernel

end Sys2Proof.Machine
end

