-- ==== Sys2Proof/Tests/Slice0.lean ====
section
/-! SUPPORT. Tests. Each `test_` checks one value or one step against the spec's worked cases, or shows an ill-formed command refused.
Each `wit_` applies one clause of an obligation at a concrete state and operands, every hypothesis proved by evaluation: its type is the
instance of the clause, so the hypotheses hold together at that state. -/

namespace Sys2Proof.Tests

open Sys2Proof Sys2Proof.Machine

set_option maxRecDepth 4000
set_option Elab.async false

/-! ### States and data -/

/-- The part in Operational with its clocks, its firmware, and both host links up. -/
def up : State := { State.reset with
  clr := { State.reset.clr with mode := .operational, step := 0x0B, service := 2, fwRunning := true, fwSlot := 1, time := 100000 }
  clk := { State.reset.clk with sup := 100000, tile := 100000 }
  hif := [{ links := [{ up := true, speed := 5, width := 16 }, {}] }, { links := [{ up := true, speed := 5, width := 16 }, {}] }]
  ckr := { State.reset.ckr with reached := true }
  prt := { State.reset.prt with custody := 1 }
  ldg := { State.reset.ldg with loaded := true, bound := 4096, boundQ := 4096 } }

/-- The part before the release of reset. -/
def held : State := { State.reset with clk := { inReset := true } }

/-- The part in Safe. -/
def safe : State := { up with clr := { up.clr with mode := .safe } }

/-- The part in Configuration. -/
def conf : State := { up with clr := { up.clr with mode := .configuration, step := 0x0A } }

/-- Command `c` completes in state `s`. -/
abbrev Completes (c : Instr) (s : State) : Prop := ∃ t, exec c s = .next t

/-- The bytes of an instruction as the decoder reads them, zeros behind them. -/
def insAt (bs : List Byte) : Ins := match decodeNode ((bs ++ List.replicate 15 0).take 15) with
  | .ok i => i
  | _ => {}

/-- Tile 5 runs a node of partition 1 whose next instruction is `bs`; g register n holds 8 n + 8; `f` changes the tile. -/
def node (bs : List Byte) (f : Tile → Tile := id) : State :=
  setTile up 5 (f { tileAt up 5 with
    istore := ByteMem.wrBytes [] 0 bs
    code := [{ sizeM1 := 511, trapValid := true, trapEntry := 0x40 }, {}, {}, {}]
    thread := { running := true, itag := 0x1003000000000000, g := (List.range 64).map (fun n => ⟨BitVec.ofNat 64 (8 * n + 8), false⟩) }
    bindings := [{ valid := true, part := 1, vtile := 3, gen := 1 }, {}, {}, {}]
    vtFrame := [{ size := 256 }, {}, {}, {}]
    stackReg := [{ top := 0x1000, limit := 0x40 }, {}, {}, {}] })

/-- The same with a change of the thread. -/
def nodeTh (bs : List Byte) (f : Thread → Thread) : State := node bs (fun t => { t with thread := f t.thread })

/-- What `Issues` asks of an instruction whose lines hold no error. -/
def issuesOk (s : State) (u : Nat) (i : Ins) : Bool :=
  let th := (tileAt s u).thread
  canIssue s u && inRegion s u th.pc
  && decide (decodeNode (ByteMem.rdBytes (tileAt s u).istore th.pc (min 15 ((codeRegion (tileAt s u) th.slot).2 - th.pc))) = .ok i)
  && (tileAt s u).istoreErr.isEmpty && (tileAt s u).istoreBad.isEmpty && (!trapOnly i.op || th.trapBank)
  && (match i.lead.pred with
    | some (p, v) => decide (pReg s u p = v)
    | none => true)
  && !interlocked th i

/-- Lines without an error are fetched as they are. -/
theorem fetchLines_clean (s : State) (u l n : Nat) (h1 : (tileAt s u).istoreErr = []) (h2 : (tileAt s u).istoreBad = []) :
    fetchLines s u l n = (s, none) := by
  induction n generalizing l with
  | zero => rfl
  | succ k ih =>
    have hb : fetchLine s u l = (s, false) := by simp [fetchLine, h1, h2, NSet.has]
    simp [fetchLines, hb, ih]

/-- The check is what `Issues` asks. -/
theorem issues_of {s : State} {u : Nat} {i : Ins} (h : issuesOk s u i = true) : Issues s u i s := by
  simp only [issuesOk, Bool.and_eq_true, decide_eq_true_eq, Bool.or_eq_true, Bool.not_eq_true', List.isEmpty_iff] at h
  obtain ⟨⟨⟨⟨⟨⟨⟨h1, h2⟩, h3⟩, h4⟩, h5⟩, h6⟩, h7⟩, h8⟩ := h
  refine ⟨h1, h2, h3, fetchLines_clean _ _ _ _ h4 h5, fun ht => ?_, fun p v hp => ?_, h8⟩
  · simpa [ht] using h6
  · rw [hp] at h7; simpa using h7


/-- The value that an operation which does not refuse gives. -/
theorem gives {α : Type} {o : Option α} {d : α} (h : o.isSome = true) : o = some (o.getD d) := by cases o <;> simp_all
/-- An operation that refuses. -/
theorem none_of {α : Type} {o : Option α} (h : o.isNone = true) : o = none := by cases o <;> simp_all
/-- A pair with a known second part. -/
theorem pair_of {α β : Type} {x : α × β} {b : β} (h : x.2 = b) : x = (x.1, b) := Prod.ext rfl h
/-- A triple with a known last part. -/
theorem trip_of {α β γ : Type} {x : α × β × γ} {c : γ} (h : x.2.2 = c) : x = (x.1, x.2.1, c) := Prod.ext rfl (Prod.ext rfl h)

/-- A key pair made for these tests: the public key of d = 7. -/
def keyA : List Byte := leBytes 97 0x8cef12c5da4c66649e8fa732de4ed8305622bd1dd02cc9d9299779ed67d8611a4790168cdbef52ba881be46190c97594e1d0b68fb4050f04b2ebb9556f52058b501c7bfa9dcc582dfa5feafb97e96fadfedf4e23bf8e9ff28847ce65731d3c2804
/-- The public key of d = 11. -/
def keyB : List Byte := leBytes 97 0xbbe0c53881ba5d7d35ffaa6312d5665425a3521bf493ff43fd63c3dfd8eec46f39e0c54a5405856896ab304e230c4c2ed8ddb4553b6f3526d681fb3a6eb649478c3f2d8914fdc95674c33758ed35e97fc5164890c2ee1eda98b9a77de256900904
/-- The header of an image of 64 zero bytes, signed by `keyA`. -/
def imageHeader : List Byte := leBytes 512 0x6fa956a227b128f04be8cac2b0206eff2368bf24621f3ba122ffe2057572ce0ae8e57b597550c922da3b575a9321c3f13969a6e53f5cd6bf137a6765d37aeaae87c96789aaa9a4f5650a8307e3e4dc73e25c691696fd69c37bf4e2b8557ea1d80000000000000000000000000000000000000000000000000000000000000000000000000000000000000000000000000000000000000000000000000000008cef12c5da4c66649e8fa732de4ed8305622bd1dd02cc9d9299779ed67d8611a4790168cdbef52ba881be46190c97594e1d0b68fb4050f04b2ebb9556f52058b501c7bfa9dcc582dfa5feafb97e96fadfedf4e23bf8e9ff28847ce65731d3c2804bedeb6978ebaba4a4c8869036162440c1b287320bce48f3c8b381a70c3f2133ad2c099709326686c637c453b8daa16c50000000000000000000000000000000000000000000000000000000000000000000000400000000331474d495746485a
/-- The image. -/
def image : List Byte := imageHeader ++ List.replicate 64 0
/-- A statement that revokes slot 2 (R511). -/
def stmt2 : List Byte := leBytes 16 0x2314b4f564552485a
/-- Its signature by `keyA`. -/
def stmtSig : List Byte := leBytes 96 0xeef9509bb64ec1f74184d1ede3fb07351f4820e3c5ad206939159836a7c03d075bc8bf15e13ff4b4c741ac81a80a584e3969a6e53f5cd6bf137a6765d37aeaae87c96789aaa9a4f5650a8307e3e4dc73e25c691696fd69c37bf4e2b8557ea1d8
/-- The fabric manager's signature, by `keyA`, over the digest 1. -/
def fmSig : List Byte := leBytes 96 0xbf73d3a45c9193169d03ecafe47a4279774c51c00cb15eddd7061f4b994e8e544469a3f3c81b78c603a8429ebf524bbb3969a6e53f5cd6bf137a6765d37aeaae87c96789aaa9a4f5650a8307e3e4dc73e25c691696fd69c37bf4e2b8557ea1d8
/-- The platform controller's, by `keyB`, over the digest 1. -/
def pcSig : List Byte := leBytes 96 0x51c8767c73b625e75953204f37a33a8446b89fa97d2e96aff69017e8dc8671b290b4779cade9239df3bf5548bd9666953969a6e53f5cd6bf137a6765d37aeaae87c96789aaa9a4f5650a8307e3e4dc73e25c691696fd69c37bf4e2b8557ea1d8
/-- The hashes of the two keys. -/
def hashA : Nat := 0xd7759d5965e5bc63e87c3ce582bb36d7158df6f777e3c85fa24e0a3257e5dfba87102d8c8d17e34ee3d254bec43db915
def hashB : Nat := 0xa73fbfe9d8798f51aefd9d1eb288ee11f7176edb123f320e4f3ebeece08c30fcecaae04845b6e20b16a64dedd91fecc8
/-- A file of one virtual thicket whose four tiles share a CODE section of two nodes, with an import, a load context and a start token. -/
def zif : List Byte := leBytes 536 0x85c6d25585538271dc534a56e4face7ad3fd19b9a5202c2126933c0ad92b9ee3424614ca7ff0161af4a5f97eaf4a54cf000000000000001000000000000000630000000000000000000000000000000000000000000000000000000000010001000000000000000000000000000000000000000000000000000000004553414200000000000000000000000000000000000000000008000100000000000010000000001000400010ffffffff000000000002ffff0001000300000000000010000000001000400010ffffffff000000000002ffff0001000200000000000010000000001000400010ffffffff000000000002ffff0001000100000000000010000000001000400010ffffffff000000000002ffff000100000000000000000000000000000000000000000000000001e8000000300000000a0000000000000000000000000000000000000000000001d800000010000000070000000000000000000000000000000000000000000001b800000020000000080000000000000000000000000000000000000000000001980000002000000006000000000000000000000000000000180000000000000180000000180000000200000000000000000000000000000000000000000000010000000080000000010000000000000000000000010000000000000000000000000000000000000000000000000101010100000000000000400000000000000006004001003146495a
/-- A record of partition 1: VF 1 of port 0, thicket 1, lock group 0, trail block 0, class 1, ring set 5, physical slice 17. -/
def rec1 : List Byte := leBytes 384 0x910000000000000000000000000000000000000000000000000000000000000000000000000000000000000000000000000000000000000000000000000000008000000000000000000000000000000000000000000000000000000000000000000000000000000000000000000000000000000000000000000000000000000000000000000000000000000000000000000000000000000000000000000000000000000000000000000000000000000000000000000000000000000000000000200000000000000000000000000000000000000000000000000000000000000000000000000000000000000000000000000000000000000000000000000000000000000000000000020000000000000001000000000000000100000000000000020000000000000001000080010000004000000040004000000000000000100001
/-- The bindings that the loader proposes for `zif` on thicket 1. -/
def binds1 : List Byte := leBytes 64 0x10000000010000000000070003000000100000000100000000000600020000001000000001000000000005000100000010000000010000000000040000

/-! ### Values that the spec's worked cases give -/

/-- The RELEASE record of chapter 9's worked case. -/
def releaseRec : SpoorRec := { handle := 0x30A16, event := 7, part := 3, prio := 2, unit := 0x305, trail := some 0xC0, seq := 2, cls := 9, vtile := 0x42, detail := 1 }
/-! ### Ill-formed commands, one for each check -/

/-! ### The queue -/

/-- Two event bits are set. -/
def eventTile (t : Tile) : Tile := { t with event := 12 }

/-- The tile in its trap bank, with t1 in the code region. -/
def trapTile (t : Tile) : Tile := { t with thread := { t.thread with trapBank := true, t := [1, 0x20, 3, 4, 5, 6, 7, 8] } }

/-- g2 holds an address of the host window. -/
def hostG (t : Tile) : Tile := { t with thread := { t.thread with g := t.thread.g.set 2 ⟨0x100000001000, false⟩ } }

/-- g2 holds an address in virtual tile 7's frame window, whose placement is cached. -/
def remoteG (t : Tile) : Tile := { t with
  thread := { t.thread with g := t.thread.g.set 2 ⟨0x100700010, false⟩ }
  pcache := t.pcache.set 0 (some { part := 1, vt := 7, unit := 9, slot := 2, gen := 4 }) }

/-- A call of depth 1 has pushed its header. -/
def calledTile (t : Tile) : Tile := { t with thread := { t.thread with depth := 1, stack := [(256, ⟨0x20, false⟩)] } }

/-- g2 is poisoned. -/
def poisonTile (t : Tile) : Tile := { t with thread := { t.thread with g := t.thread.g.set 2 ⟨1, true⟩ } }

/-- A normal token of partition 1, context 1, iteration 2 for node 0 of virtual tile 3. -/
def tok (port kind : Nat) : Token := { val := 7, tag := mkTag 1 1 2 3 0 port kind }

/-- Tile 5 holds partition 1's virtual tile 3, whose node 0 has two operands, the second sticky where `sticky`; its queue is `q`. -/
def matchSt (sticky : Bool) (q : List QTok) (f : Tile → Tile := id) : State :=
  node [] (fun t => f { t with
    istore := ByteMem.wrN [] 512 8 (1 + 256 + 2 ^ 10 * 3 + (if sticky then 2 ^ 14 else 0) + 2 ^ 17 * 0x20)
    bindings := [{ valid := true, part := 1, vtile := 3, gen := 1, ntBase := 64 }, {}, {}, {}]
    iq := q, thread := {} })

/-- The entry of an operand in the token store. -/
def stored (port : Nat) (t : Tile) : Tile :=
  (storeEntry t (setIndex (instKey (tok port 0).tag) false) { key := instKey (tok port 0).tag, port := port, state := 1, val := 9 }).getD t

/-- The entry of a sticky operand. -/
def storedSticky (port : Nat) (t : Tile) : Tile :=
  (storeEntry t (setIndex (stickyKey (instKey (tok port 0).tag)) true)
    { key := stickyKey (instKey (tok port 0).tag), port := port, state := 3, val := 9 }).getD t

/-- The node table entry of that node. -/
def ntWord (sticky : Bool) : Nat := 1 + 256 + 2 ^ 10 * 3 + (if sticky then 2 ^ 14 else 0) + 2 ^ 17 * 0x20

/-- A sticky token for port 1. -/
def stickyTok : Token := { val := 7, tag := mkTag 1 1 0 3 0 1 1 }

/-- A context-end token, or a purge with opcode 1. -/
def ctlTok (purge : Bool) : QTok := if purge then ⟨{ tag := mkTag 1 1 0 3 1 0 2 }, 36⟩ else ⟨{ tag := mkTag 1 1 0 0 0 0 2 }, 4 * 0x303⟩

/-- A fired instance waits in two levels. -/
def firedTile (t : Tile) : Tile := { t with fq := [{ level := 3, tag := 0x10, entry := 0x40 }, { level := 1, tag := (tok 0 0).tag, entry := 0x80, ops := [⟨7, false⟩, ⟨9, true⟩] }] }

/-- A requester of partition 1: tile 9's thread. -/
def rq9 : Rq := { src := 36, part := 1, tag := 3 }

/-- An outstanding request, whose tag is 3. -/
def outSt (o : OutReq) (s : State := up) : State := { s with outs := [o] }

/-- The placement read of tile 5 for virtual tile 7. -/
def fillReq : OutReq := { unit := 5, sub := 3, part := 1, target := 0x30A, tag := 3, body := .placeRead 7, use := .fill 7 }

/-- Partition 1 has 16 contexts, number 5 in state `st`, and binds tiles 5 and 6. -/
def ctxSt (st : Nat) : State :=
  let s := setTile (setTile up 5 { tileAt up 5 with bindings := [{ valid := true, part := 1, vtile := 3, gen := 1 }, {}, {}, {}] })
    6 { tileAt up 6 with bindings := [{ valid := true, part := 1, vtile := 4, gen := 1 }, {}, {}, {}] }
  setCtxState (setCtxPart s 1 { limit := 16, free := { front := [3], next := 6, stop := 16 } }) 1 5 st

/-- A release of context 5 waits for the tiles of a list. -/
def relSt (tiles : List Nat) : State :=
  { ctxSt 2 with ctx := { (ctxSt 2).ctx with releases := [{ part := 1, ctx := 5, rq := some rq9, tiles := tiles }] } }

/-- The notice of the release of context 5. -/
def noticeReq : OutReq := { unit := 0x303, sub := 0, part := 1, target := 0x381, tag := 3, body := .ctxNotice 5, use := .notice 1 5 }

/-- A loaded word of tile 5's node, awaited in g1. -/
def loadReq : OutReq := { unit := 5, sub := 0, part := 1, target := 0x381, tag := 3, body := .readWord { space := 2, off := 0x1002 }, use := .load 1 16 true false, serial := 0 }

/-- A request of the node whose answer is a result word for g1. -/
def resultReq : OutReq := { unit := 5, sub := 0, part := 1, target := 0x305, tag := 3, body := .lockOp {}, use := .result 1, timer := some 200000 }

/-- A SPAWN_TRY's admission request of the node. -/
def spawnReq : OutReq := { unit := 5, sub := 0, part := 1, target := 0x304, tag := 3, body := .admission {}, use := .spawn 1 true, againAt := some 100000 }

/-- The syllable with the given unit, operation, and fields D, A and B; the last of its bundle. -/
def syl (unit op d a b : Nat) : Nat := 2 ^ 31 + 2 ^ 28 * unit + 2 ^ 22 * op + 2 ^ 16 * d + 2 ^ 10 * a + 2 ^ 4 * b

/-- A lockstep kernel runs on tile 5 whose next bundle is the one syllable `w`. -/
def kern (w : Nat) (f : Tile → Tile := id) : State :=
  node [] (fun t => f { t with
    istore := ByteMem.wrN [] 0x40 4 w
    kern := { running := true, pc := 0x40, lastPc := 0x3C, cyc := 20, lockAt := 0x10, rd := 1 } })

/-- A window job at job cycle `r`, whose window is 1 MiB less a page. -/
def wjob (r : Nat) : WJob := { op := 1, kh := 1, kw := 1, sy := 1, sx := 1, dy := 1, dx := 1, inH := 1, inW := 1, inC := 16, outC := 16, inBase := 0, inRowP := 64, outBase := 0x1000, outRowP := 0x400, wtBase := 0x2000, biasBase := 0x40, next := r, dur := 20 }

/-- The kernel with that job. -/
def jobSt (r : Nat) (f : Tile → Tile := id) : State := kern 0 (fun t => f { t with job := some (wjob r), frame := ByteMem.wrN [] 0x44 4 0x41424344 })

/-- The bytes of a transfer descriptor: two rows of 64 bytes from stand-buffer slice 3 to the own frame at 0x1000. -/
def xferBytes : List Byte := leBytes 64 (0x200300040 + 2 ^ 64 * 0x1000 + 2 ^ 128 * 64 + 2 ^ 160 * 2 + 2 ^ 192 * 128 + 2 ^ 224 * 64 + 2 ^ 264 * 8 + 2 ^ 272 * 0)

/-- A transfer of tile 5 with that descriptor. -/
def xfer0 : Xfer := { slot := 2, bslot := 0, part := 1, desc := 0x800, raw := xferBytes, issuedAt := 90000 }

/-- It has started. -/
def xfer1 : Xfer := { parseXfer xfer0 (leNat xferBytes) with started := true }

/-- It is to complete: its lines have moved and landed, and it signals. -/
def xfer2 : Xfer := { xfer1 with moved := 2, landed := 2, sendCnt := some 3, doneEv := true }

/-- Tile 5 with transfers, and partition 1's slice 3 in physical slice 17. -/
def xferSt (xs : List Xfer) : State := { node [] (fun t => { t with xfers := xs }) with sliceMap := [(64 + 3, some 17)] }

/-- Partition 1 as `rec1` and `binds1` describe it, with its ring set 5 ACTIVE. -/
def p1 : State :=
  let s := (List.range 4).foldl (fun s v => setTile s (4 + v) { tileAt s (4 + v) with
    bindings := [{ valid := true, part := 1, vtile := v, gen := 1, ntCountM1 := 1 }, {}, {}, {}], vtFrame := [{ size := 16 }, {}, {}, {}] }) (ctxSt 0)
  { s with
    prt := { s.prt with parts := s.prt.parts.set 1 { state := 1, record := rec1, binds := binds1, digest := 1 } }
    rings := [(5, { alloc := true, port := 0, fn := 1, part := 1, state := 1, sqBase := 0x100000, cqBase := 0x200000 })]
    place := (List.range 4).map (fun v => (1024 + v, some { unit := 4 + v, slot := 0, gen := 1 }))
    fns := [(1, { bme := true, pasidEn := true, part := some 1, vecs := 16, vecBase := 64 })]
    hif := s.hif.map (fun x => { x with vfEnable := true }) }

/-- The loader holds `zif` as handle 0 in a state, placed on thicket 1. -/
def imageSt (st : Nat) (s : State := p1) : State :=
  { s with klb := { s.klb with next := 1, images := [{ handle := 0, file := zif, state := st, part := (if st = 0 then 0 else 1), thickets := (if st = 0 then [] else [1]), ctxs := (if st ≤ 1 then [] else [3]) }] } }

/-- That image. -/
def img (st : Nat) : Image := (imageAt (imageSt st) 0).getD {}

/-- Context 3 of partition 1 is LIVE. -/
def liveSt : State := setCtxState p1 1 3 1

/-- A decode descriptor: one anchor at one position, one class, corner form, int32 maps, threshold 10, in partition 1's slice 0. -/
def siftRaw : List Byte := leBytes 256 (1 + 2 ^ 64 * 0x200002000 + 2 ^ 512 * 0x200000000 + 2 ^ 576 * 0x200000040 + 2 ^ 768 * 1 + 2 ^ 784 * 1
  + 2 ^ 800 * 1 + 2 ^ 808 * 79 + 2 ^ 816 * 1 + 2 ^ 832 * 1 + 2 ^ 864 * 1 + 2 ^ 960 * 10 + 2 ^ 1152 * 0x200001000 + 2 ^ 1216 * 8)

/-- Sifter 2's job for partition 1, and partition 1's slice 0 in physical slice 17. -/
def sjob : SJob := { id := 4, rq := rq9, ref := 0x22, desc := 0x200003000 }

/-- The decode job at its first row, with the lines it has read. -/
def sjob1 (lines : SMap (List Byte × Nat)) : SJob := { sjob with phase := 1, raw := siftRaw, lines := lines }

/-- Sifter 2 with queued jobs and jobs in progress. -/
def sifSt (q js : List SJob) : State :=
  let s : State := { up with sliceMap := [(64, some 17)] }
  setSif s 2 { sifAt s 2 with queue := q, jobs := js, nextId := 5 }

/-- A line of 64 bytes whose first word is `v`. -/
def siftLine (a v : Nat) : Nat × (List Byte × Nat) := (a, (leBytes 64 v, 0))

/-- Partition 1's class 1 in a dispatch kind, its quota of 64 records, and record 9 as `r`. -/
def schSt (disp : Nat) (r : Rec := {}) (f : Sch → Sch := id) : State :=
  { p1 with sch := f { p1.sch with
      classes := p1.sch.classes.set 1 { valid := true, part := 1, floor := 2, dispatch := disp, siftStand := 3 }
      quotas := p1.sch.quotas.set 1 64
      free := { front := [7], next := 20, stop := 65536 }
      recs := SMap.put {} [] 9 r } }

/-- An admission of class 1 with one dependence, for virtual tile 2, and priority 1. -/
def areq : AdmitReq := { spawn := BitVec.ofNat 64 (1 + 2 ^ 6 * 1 + 2 ^ 10 * 2 + 2 ^ 20 * 5 + 2 ^ 36 * 1), arg := 0x77, ctx := 5, iter := 3 }

/-- Record 9, of partition 1 and class 1, in a state, with generation 4, for virtual tile 2. -/
def rec9 (st : Nat) : Rec := { gen := 4, state := st, part := 1, cls := 1, prio := 2, vtile := 2, arg := 0x77, ctx := 5, startNode := 1 }

/-- Its handle. -/
def h9 : Nat := 2 ^ 16 * 4 + 9

/-- Record 9 stands in ready store `k`. -/
def ready9 (k : Nat) (q : Sch) : Sch := { q with stores := q.stores.set k { q.stores.getD k {} with ents := [9] } }

/-- It is entering a store. -/
def entering9 (q : Sch) : Sch := { q with entering := [9] }

/-- Trail 8 of partition 1 as `x`, its quota of 64 entries, and record 9 DISPATCHED on it. -/
def trailSt (x : Trail) : State :=
  let s := schSt 0 { rec9 3 with trail := some 8, tile := 6 }
  { s with trl := { s.trl with trails := [(8, x)], quotas := s.trl.quotas.set 1 64 } }

/-- A valid trail with items. -/
def trail (items : List Item) : Trail := { valid := true, part := 1, outPer := 4, nextSeq := 6, relSeq := 5, items := items }

/-- The item of record 9, number 5. -/
def item9 : Item := { seq := 5, handle := h9, outPer := 2 }

/-- A token for virtual tile 2 of partition 1. -/
def gtok : Token := { val := 9, tag := mkTag 1 5 0 2 0 0 0 }

/-- The trace hub's destination 0 as `d`, function 0 of both ports a bus master, and partition 1 exported. -/
def hubSt (d : SpoorDest) : State :=
  { p1 with
    trl := { p1.trl with dests := p1.trl.dests.set 0 d }
    traceExport := [1]
    fns := [(0, { bme := true }), (1, { bme := true, part := some 1 }), (32, { bme := true })] }

/-- An enabled destination with records waiting. -/
def dest (q : List SpoorRec) : SpoorDest := { base := 0x400000, enable := true, evMask := 0xFFFF, partMask := 0xFFFF, queue := q }

/-- An event of record 9. -/
def srec : SpoorRec := { time := 99000, handle := h9, event := 4, part := 1, unit := 0x2C4, cls := 1 }

/-- Tile 5 with a stored token of another iteration, at its head a token that waits for the store since 1000. -/
def evictSt (full : Bool) : State :=
  matchSt false [⟨tok 0 0, 36⟩] (fun t => { t with
    ovf := (if full then [(3, { key := instKey (mkTag 1 1 9 3 0 1 0), port := 1, state := 1, val := 5 })] else [])
    spl := { t.spl with storeSince := some 1000 } })

/-- A fired instance is held since 1000. -/
def heldSt : State :=
  matchSt false [] (fun t => { t with
    held := some { level := 3, tag := (tok 0 0).tag, entry := 0x80, ops := [⟨7, false⟩, ⟨9, true⟩] }, spl := { t.spl with fireSince := some 1000 } })

/-- A SPILL of tile 5. -/
def spillReq (un : Bool) : OutReq := { unit := 5, sub := 3, part := 1, target := 0x381, tag := 3, body := .spill [], use := .spill (if un then [] else [65539]) un }

/-- A FETCH of tile 5. -/
def fetchReq : OutReq := { unit := 5, sub := 3, part := 1, target := 0x381, tag := 3, body := .fetch 77, use := .fetch 77 false }

/-- Tile 5 has spilled tokens, fetched one, and un-fired key 77. -/
def spilledSt : State := matchSt false [] (fun t => { t with spl := { t.spl with spilled := 9, refire := [77], fetchBuf := [tok 0 0] } })

/-- Partition 1's region is enabled, with stale slots where `stale`. -/
def regionSt (r : Region) : State := setRegion p1 1 r

/-- A region of 16 MiB. -/
def region1 : Region := { state := 1, n := 24, base := 0x4000000, limit := 24 }

/-- Tile 5's overspill requester. -/
def rqSpill : Rq := { src := rqId 5 3, part := 1, tag := 3 }

/-- The line that an operation of region `r` needs first. -/
def needOf (r : Region) (q : OvfReq) : Nat :=
  match ovfWalk r { live := r.live, stale := r.stale, bump := r.bump, free := r.free } q with
  | .need n => n
  | _ => 0

/-- What the agent's first read gives. -/
def readOf (s : State) (q : OvfReq) (l : List OvfReq) : State × HStart :=
  windowStart (agentBegins s 1 (needOf (regionAt s 1) q) q l) 1 (agentRead s 1 (needOf (regionAt s 1) q))

/-- A word of virtual tile 2's frame window in p1: tile 6, slot 0, generation 1. -/
def mw (off : Nat) : MemWord := { space := 0, slot := 0, gen := 1, vtile := 2, off := off }

/-- p1 with bytes in tile 6's frame. -/
def memSt (f : Tile → Tile := id) : State := setTile p1 6 (f { tileAt p1 6 with frame := ByteMem.wrN [] 0x40 8 0x8877665544332211 })

/-- Partition 1 holds slice 2 of stand buffer 1, which holds a word. -/
def stsSt : State := setSts p1 1 { stsAt p1 1 with mem := ByteMem.wrN [] 0x200040 8 0x77, owner := (stsAt p1 1).owner.set 2 1, valid := (stsAt p1 1).valid.set 2 true, err := [] }

/-- A word of that slice. -/
def sw : MemWord := { space := 1, off := 0x200040 }

/-- A flit of class 2 for the part's root, from tile 5, of partition 1. -/
def flit : Flit := { header := 2 ^ 63 + 2 ^ 50 * 0x301 + 2 ^ 36 * 20 + 2 ^ 32 * 1 }

/-- Router 0x201's link to tile 5 (port 1) has state `l`. -/
def linkSt (l : Link) (s : State := p1) : State := setLink s 0x201 1 l

/-- The flit at the head of router 0x201's input buffer of port 1, and a credit to come back to it. -/
def fwdSt : State := setBuf p1 0x201 1 2 false { flits := [flit], used := 1, owed := [99999, 200000] }

/-- A sender with token packets unacknowledged. -/
def ackSt : State := setTile p1 5 { tileAt p1 5 with ackPend := [{ cls := 1, dest := 9, src := 20, part := 1, body := .tokens 1 [gtok] true }], ackTimer := some 100000 }

/-- A timed request. -/
def timedReq (rep : Nat) : OutReq := { resultReq with timer := some 100000, repeats := rep, serial := 7 }

/-- Lock group 0 is partition 1's, for nodes and the host, in mutex mode or not; cell 3 is `c`; the waiters `ws`. -/
def lockSt (sem : Bool) (c : LockCell) (ws : List LockWait := []) : State :=
  { p1 with lck := { p1.lck with
      groups := p1.lck.groups.set 0 { valid := true, part := 1, mode := sem, node := true, host := true, watch := true }
      cells := SMap.put {} [] 3 c, waits := ws, quotas := p1.lck.quotas.set 1 64 } }

/-- Tile 5's node of partition 1 as a lock requester. -/
def rq5 : Rq := { src := 20, part := 1, tag := 8 }

/-- A held mutex of tile 5's slot 0. -/
def held5 : LockCell := { state := 1, slot := 0, owner := 20 }

/-- Tile 9 waits for cell 3. -/
def wait9 : LockWait := { cell := 3, rq := rq9, slot := 0, units := 0, deadline := some 100000 }

/-- A host requester waits for cell 3. -/
def hostWait : LockWait := { cell := 3, rq := { src := 4 * 0x381, part := 1, tag := 3 }, slot := 0 }

/-- p1's bridge 0 with a change, function 1 in the default state but for what p1 gives it. -/
def brSt (f : Hif → Hif) : State := setHif p1 0 (f (hifAt p1 0))

/-- Function 1 changed. -/
def fnSt (f : Fn → Fn) : State := setFn p1 0 1 (f (fnAt p1 0 1))

/-- A read that waits for the host, for tile 9's READ_LINE. -/
def hread : HostAcc := { id := 4, fn := 1, part := 1, pasid := some 7, iova := 0x123440, len := 64, use := .mem rq9 1, phase := 2, deadline := 100000 }

/-- The bridge with that access only, in a phase. -/
def accSt (ph : Nat) : State := brSt (fun x => { x with accs := [{ hread with phase := ph }], atc := [{ id := 1, fn := 1, page := 0x5000, size := 0x1000 }, { id := 2, fn := 2, page := 0x5000, size := 0x1000 }] })

/-- The granted page. -/
def grant : AtsGrant := { page := 0x123000, addr := 0x777000 }

/-- Descriptor 3 of a ring, SEQ 9, with an opcode and body fields at their offsets. -/
def rd (op : Nat) (fs : List (Nat × Nat)) (ph : Nat := 1) : RDesc :=
  { k := 3, phase := ph, raw := leBytes 64 (op + 2 ^ 32 * 9 + (fs.map (fun x => 2 ^ (8 * x.1) * x.2)).sum) }

/-- Ring set 5 of p1 changed, in a state of p1's kind. -/
def ringSt (f : RingSet → RingSet) (s : State := p1) : State := modRing s 5 (fun r => f { r with seqBase := 9, cqPi := 20, cqCi := 19, owed := 1 })

/-- The ring has a descriptor at its evaluation. -/
def workSt (op : Nat) (fs : List (Nat × Nat)) (s : State := p1) : State := ringSt (fun r => { r with cur := some (rd op fs) }) s

/-- p1 with its class, trail and lock group, and record 9 WAITING. -/
def unitSt : State :=
  let s := schSt 0 { rec9 1 with dep := 2 }
  { s with
    trl := { s.trl with trails := [(8, trail [])], quotas := s.trl.quotas.set 1 64 }
    lck := { s.lck with groups := s.lck.groups.set 0 { valid := true, part := 1 } }
    sliceMap := [(64, some 17)]
    spr := { s.spr with regions := s.spr.regions.set 1 { limit := 24 } } }

/-- The descriptor that is read. -/
def rdData : List Byte := (rd 1 []).raw

/-- A read of the next descriptor is under way. -/
def fetchAcc : HostAcc := { id := 4, fn := 1, part := 1, iova := 0x100000, len := 64, use := .desc 5, phase := 2, deadline := 200000 }

/-- The state that waits for it. -/
def fetchSt : State := ringSt (fun r => { r with fetching := true, nextSeq := 9, sqPi := 4, sqCi := 3 }) (brSt (fun x => { x with accs := [fetchAcc] }))

/-- The answer of the clearing scheduler. -/
def rqClr : Rq := { src := 4 * 0x301, part := 1, tag := 3 }

/-- A held LAUNCH's request. -/
def launchReq : OutReq := { unit := 0x381, sub := 1, part := 1, target := 0x301, tag := 3, body := .admission areq, use := .desc 5 3, againAt := some 1 }

/-- Custody provisioned with `keyA` and `keyB`, and stages. -/
def cus (sts : List Stage) (s : State := up) : State := { s with prt := { s.prt with fmk := keyA, pck := keyB, stages := sts, nextStage := 7 } }

/-- A stage that creates partition 1. -/
def stg : Stage := { id := 7, kind := 0, part := 1, record := rec1, binds := binds1, digest := 1 }

/-- It is fully signed. -/
def stgSigned : Stage := { stg with fmOk := true, pcOk := true, order := some 0 }

/-- It waits for quiescence. -/
def stgWait : Stage := { stgSigned with phase := 1, since := 1000 }

/-- It is applied, and waits for acknowledgements. -/
def stgApply : Stage := { stgSigned with phase := 2, since := 1000 }

/-- A rotation of the platform controller's key to `keyA`, fully signed and quiescent. -/
def stgKey : Stage := { id := 7, kind := 1, record := [1] ++ keyA ++ List.replicate 286 0, base := sha384 (keyA ++ keyB), digest := 1, fmOk := true, pcOk := true, newOk := true, order := some 0, phase := 1 }

/-- The partition in a state. -/
def partSt (st : Nat) : State := { cus [] with prt := { (cus []).prt with parts := (cus []).prt.parts.set 1 { state := st, record := rec1, binds := binds1, digest := 1 } } }

/-- The state with an acknowledgement of tile 5 awaited. -/
def ackedSt : State := { cus [stgApply] with prt := { (cus [stgApply]).prt with
  acks := [(5, some 7)], parts := (cus []).prt.parts.set 1 { state := 2, record := rec1, binds := binds1 } } }

/-- Later: the time is `t`. -/
def atTime (t : Nat) (s : State) : State := { s with clr := { s.clr with time := t }, clk := { s.clk with sup := t } }

/-- Custody is not provisioned, in Configuration. -/
def bare (e : Option Enroll) : State := { conf with prt := { conf.prt with custody := 0, enroll := e } }

/-- A replacement of the fabric manager's key by `keyB`. -/
def replSt : State := { cus [] with prt := { (cus []).prt with custody := 2, replace := some (0, keyB, 99000), replaceDigest := 1 } }

/-- The debug window is open. -/
def dbg : State := { up with fuses := { up.fuses with debug := true }, ckr := { up.ckr with straps := 128 } }

/-- A fault message of a kind from the clearing scheduler about a unit. -/
def fmsg (kind subj : Nat) : FaultMsg := { time := 5, head := faultHead kind (rqId 0x301 0) subj none none, addr := 1, detail := 2 }

/-- The collector holds that message. -/
def fltSt (m : FaultMsg) (s : State := p1) : State := { s with flt := { s.flt with inbox := [m] } }

/-- p1 in Safe, its pair running. -/
def safe1 (f : Flt → Flt := id) : State := { p1 with clr := { p1.clr with mode := .safe }, flt := f p1.flt }

/-- The board changed. -/
def brdSt (f : Brd → Brd) : State := { up with brd := f up.brd }

/-- The TAP in a state. -/
def tapSt (n : Nat) : State := brdSt (fun b => { b with tap := { state := n, ir := 3, irShift := 5, dr := [true, false, true] } })

/-! ### Values that the spec's worked cases give -/

/-- The tag of the iteration-7 token of chapter 2's worked case, and its fields. -/
theorem test_tag_fields : mkTag 3 0x12 7 0x5A 0x31 1 0 = 0x30048001C5A00314#64
    ∧ tagPart 0x3004800005A00319#64 = 3 ∧ tagCtx 0x3004800005A00319#64 = 0x12 ∧ tagIter 0x3004800005A00319#64 = 0
    ∧ tagPort 0x3004800005A00319#64 = 2 ∧ tagKind 0x3004800005A00319#64 = 1 := by decide +kernel

/-- Its matching set, and the sticky token's (R70). -/
theorem test_match_sets : setIndex (instKey 0x30048001C5A00310#64) false = 0x20D
    ∧ setIndex (instKey 0x3004800005A00319#64) true = 0xDD2 := by decide +kernel

/-- Words of Table 3.14. -/
theorem test_decode_shli : insAt [0x2B, 6, 0, 3] = { op := .alui .shl, len := 4, a := 6, b := 0, imm := 3 } := by decide +kernel

theorem test_decode_ld : insAt [0x50, 5, 0x86, 0, 0x10, 0, 0] = { op := .ld, len := 7, a := 5, b := 6, imm := 0x1000 } := by decide +kernel

theorem test_decode_movi_ext : insAt [0xF5, 0x39, 8, 0, 0x80, 0xA0, 5, 1, 0, 0, 0]
    = { op := .movi, len := 11, lead := { ext := true }, a := 8, imm := 0x105A08000 } := by decide +kernel

theorem test_decode_send_port : insAt [0x60, 0x48, 7, 0x31, 0] = { op := .send, len := 5, a := 8, b := 7, x := 1, imm := 0x31 } := by decide +kernel

theorem test_decode_predicated : insAt [0xF9, 0x60, 9, 0xA, 0x30, 0]
    = { op := .send, len := 6, lead := { pred := some (1, true) }, a := 9, b := 10, imm := 0x30 } := by decide +kernel

/-- Step 3 of that case: one ADD moves VTILE from 0x010 to 0x05A. -/
theorem test_add_tag : aluVal 64 .add 0x30048001C1000300 0x4A00000 = 0x30048001C5A00300 := by decide +kernel

/-- Bundles of Table 4.10: LOOP g5, LDV v1 with a post-increment of g6, and VFMUL v2, v1, v8 with E set. -/
theorem test_syllable_loop : (sylOf 0x800 0x8C050010).unit = 0 ∧ (sylOf 0x800 0x8C050010).op = 0x30 ∧ (sylOf 0x800 0x8C050010).legal = true := by
  decide +kernel

theorem test_syllable_ldv : (sylOf 0x808 0xA0411810).unit = 2 ∧ (sylOf 0x808 0xA0411810).d = 1 ∧ (sylOf 0x808 0xA0411810).a = 6
    ∧ (sylOf 0x808 0xA0411810).post = true ∧ (sylOf 0x808 0xA0411810).disp = 0 := by decide +kernel

theorem test_syllable_vfmul : (sylOf 0x80C 0x14820488).unit = 1 ∧ (sylOf 0x80C 0x14820488).op = 0x12 ∧ (sylOf 0x80C 0x14820488).d = 2
    ∧ (sylOf 0x80C 0x14820488).a = 1 ∧ (sylOf 0x80C 0x14820488).b = 8 ∧ (sylOf 0x80C 0x14820488).e = true := by decide +kernel

/-- Chapter 6's int8 group at 2:1: values from -20 to 20 take k = 3; 20 and -7 decode as 24 and -8. -/
theorem test_codec_group : shift8 3 [-20, -7, 20] = 3 ∧ code8 20 3 = 3 ∧ code8 (-7) 3 = -1
    ∧ signed 8 (decode8 3 3 3) = 24 ∧ signed 8 (decode8 3 3 7) = -8 := by decide +kernel

/-- Chapter 7's box: the product, the exponential, and boxes P and Q. -/
theorem test_sifter_exp : fxMul 0x8000 0x17154 = 47274 ∧ exp2q 47274 = 108002 ∧ exp2Table 1023 = 130983 := by decide +kernel

theorem test_sifter_iou : iouExceeds 0x8000 { x0 := 0x01ECE5A0, x1 := 0x028B1A60, y0 := 0x01200000, y1 := 0x01600000 }
    { x0 := 0x021C0000, x1 := 0x02BC0000, y0 := 0x01200000, y1 := 0x01600000 } = true := by decide +kernel

/-- Chapter 8's spawn words. -/
theorem test_spawn_words : spawnClass { spawn := 0x0040004004016889#64 } = 9 ∧ spawnVtile { spawn := 0x0040004004016889#64 } = 0x5A
    ∧ spawnTmode { spawn := 0x0160000002000289#64 } = 1 ∧ spawnCtxMode { spawn := 0x0160000002000289#64 } = 2 := by decide +kernel

/-- Its bytes from 0x0C on. -/
theorem test_spoor_record : (spoorBytes releaseRec none).drop 12
    = [7, 0x23, 5, 3, 0xC0, 0x80, 2, 0, 9, 0, 0x42, 0, 1, 0, 0, 0, 0, 0, 0, 0] := by decide +kernel

/-- Chapter 10's filter index and home bucket. -/
theorem test_overspill_places : filterIndex (instKey 0x300488CA05B00500#64) = 0x2B84
    ∧ homeBucket (instKey 0x300488CA05B00500#64) 26 = 0x2D23700 := by decide +kernel

/-- The header of chapter 11's CTX_ALLOC. -/
theorem test_request_header : reqHeader { unit := 0x83, sub := 0, part := 3, target := 0x303, tag := 0x1F, body := .ctxAlloc } = 0x8C0C20C33807C000 := by
  decide +kernel

/-- CLR.ACCESS_ERR after VF1's read of another partition's register (chapter 13) and after a read past an array (chapter 20). -/
theorem test_access_err_vf : accessErrWord (bar0Read { up with
    fns := [(1, { part := some 1 })], hif := up.hif.map (fun x => { x with vfEnable := true }) } (.fn 0 1) 0x210 8) = 0x840981 := by decide +kernel

theorem test_access_err_index : accessErrWord (bar0Read up (.fn 1 0) 0x380188 8) = 0xE00620401 := by decide +kernel

/-- SHA-384 of no byte, as FIPS 180-4 gives it. -/
theorem test_sha384_empty : sha384 [] = 0x38b060a751ac96384cd9327eb1b1e36a21fdb71114be07434c0cc7bf63f6e1da274edebfe76f65fbd51ad2f14898b95b := by
  decide +kernel

/-- R193's value of a code at the least exponent: 2^-127 is a bf16 subnormal and is not flushed. -/
theorem test_codec_subnormal : decode16 3 1 1 = 0x0040 ∧ decode16 3 1 5 = 0x8040 := by decide +kernel

/-- The check value of CRC-32C over the nine digits from 1 on. -/
theorem test_crc32c : crc32c (asciiBytes [0x31, 0x32, 0x33, 0x34, 0x35, 0x36, 0x37, 0x38, 0x39]) = 0xE3069283 := by decide +kernel

/-! ### Ill-formed commands, one for each check -/

theorem test_wf_party : Instr.wf (.query 2) = false := by decide +kernel

theorem test_wf_port : Instr.wf (.hostLinkDown 2 0) = false := by decide +kernel

theorem test_wf_unit : Instr.wf (.add 0x1000) = false := by decide +kernel

theorem test_wf_partition : Instr.wf (.klbPlace 0 16) = false := by decide +kernel

theorem test_wf_requester : Instr.wf (.lockWaitLimit { src := 0x4000, part := 1 }) = false ∧ Instr.wf (.lockWaitLimit { src := 4, part := 16 }) = false := by
  decide +kernel

theorem test_wf_function : Instr.wf (.functionLevelReset 0 17) = false := by decide +kernel

theorem test_wf_page : Instr.wf (.ringEnable 0 1 64) = false := by decide +kernel

theorem test_wf_ring : Instr.wf (.launch 1024) = false := by decide +kernel

theorem test_wf_tokens : Instr.wf (.tokenArrival 5 0 1 1 (List.replicate 5 {}) true none) = false := by decide +kernel

theorem test_wf_line : Instr.wf (.lineWrite 5 {} 0 0 false [0] 0) = false := by decide +kernel

theorem test_wf_word : Instr.wf (.acquire {} (2 ^ 64) 0) = false := by decide +kernel

theorem test_wf_register_part : Instr.wf (.spCtrlWrite .supervisor (.low (2 ^ 32))) = false := by decide +kernel

theorem test_wf_trail : Instr.wf (.gateRelease 4096) = false := by decide +kernel

theorem test_wf_destination : Instr.wf (.spoorRecordWrite 17) = false := by decide +kernel

theorem test_wf_signatures : Instr.wf (.sign 0 7 []) = false := by decide +kernel

theorem test_wf_accessor : Instr.wf (.forestTimeLowRead (.fn 2 0)) = false := by decide +kernel

theorem test_wf_control : Instr.wf (.ledgerFlush (.mctp 2 0)) = false := by decide +kernel

theorem test_wf_fault : Instr.wf (.faultMessage { time := 2 ^ 64 }) = false := by decide +kernel

/-- And a well-formed one. -/
theorem test_wf_good : Instr.wf (.add 5) = true := by decide +kernel

/-! ### The queue -/

/-- With a command in front a step runs it and takes it off the queue; with none it counts a core cycle. -/
theorem test_step_front : ∃ t, step { up with pending := [.alertAck, .commitApply] } = .next t ∧ t.pending = [.commitApply] :=
  ⟨_, rfl, by decide +kernel⟩

theorem test_step_idle : ∃ t, step up = .next t ∧ t.clr.time = 100001 := ⟨_, rfl, by decide +kernel⟩

/-- No word spells a command. -/
theorem test_no_word : decodeTableWord 32 0x10 = none ∧ State.withFetchWord up 32 0x10 = up := ⟨rfl, rfl⟩

/-! ### States of the witnesses -/

/-- Bytes read in two parts. -/
theorem rdBytes_append (m : ByteMem) (a n k : Nat) : m.rdBytes a (n + k) = m.rdBytes a n ++ m.rdBytes (a + n) k := by
  induction n generalizing a with
  | zero => simp [ByteMem.rdBytes]
  | succ n ih => rw [Nat.succ_add, ByteMem.rdBytes, ByteMem.rdBytes, ih, List.cons_append, Nat.add_assoc, Nat.add_comm 1 n]
/-- A number read is the number of the bytes read. -/
theorem rdN_bytes (m : ByteMem) (a n : Nat) : m.rdN a n = leNat (m.rdBytes a n) := by
  induction n generalizing a with
  | zero => rfl
  | succ n ih => simp [ByteMem.rdN, ByteMem.rdBytes, leNat, ih]
/-- A part of the bytes read. -/
theorem rdBytes_part (m : ByteMem) (a n k j : Nat) : m.rdBytes (a + n) k = ((m.rdBytes a (n + k + j)).drop n).take k := by
  have hl : ∀ a n, (m.rdBytes a n).length = n := fun a n => by
    induction n generalizing a with
    | zero => rfl
    | succ n ih => simp [ByteMem.rdBytes, ih]
  rw [rdBytes_append, rdBytes_append, List.append_assoc, List.drop_left' (hl _ _), List.take_left' (hl _ _)]
/-- Bytes that hold zero. -/
theorem rdBytes_zero (m : ByteMem) (a n : Nat) (h : ∀ c, a ≤ c → c < a + n → m.rd c = 0) : m.rdBytes a n = List.replicate n 0 := by
  induction n generalizing a with
  | zero => rfl
  | succ n ih => rw [ByteMem.rdBytes, List.replicate_succ, h a (by omega) (by omega), ih (a + 1) (fun c h1 h2 => h c (by omega) (by omega))]
/-- Reset is held with `keyA`'s hash fused, and the flash holds `image` in slot `k`. -/
def boot (k : Nat) : State := { held with
  fuses := { held.fuses with keyHash := [hashA, 0, 0, 0] }, flash := ByteMem.wrBytes [] (0x100000 * (k + 1)) image }
theorem boot_flash (k : Nat) : (boot k).flash = ByteMem.wrBytes [] (0x100000 * (k + 1)) image := by simp only [boot]
/-- The slot that it was written to holds it. -/
theorem boot_slot (k : Nat) : slotImage (boot k) k = imageOf image := by
  have hl : image.length = 576 := by decide +kernel
  have h : ByteMem.rdBytes (boot k).flash (0x100000 * (k + 1)) 576 = image := by
    have h0 := ByteMem.rdBytes_wrBytes image [] (0x100000 * (k + 1))
    rw [hl] at h0
    rwa [← boot_flash] at h0
  have hp : ∀ n i j, n + i + j = 576 → ByteMem.rdBytes (boot k).flash (0x100000 * (k + 1) + n) i = (image.drop n).take i := fun n i j e => by
    rw [rdBytes_part _ _ n i j, e, h]
  have hn : flashN (boot k) (0x100000 * (k + 1) + 0xC) 4 = 64 := by rw [flashN, rdN_bytes, hp 12 4 560 rfl]; decide +kernel
  have hi : leNat (((image.take 512).drop 0xC).take 4) = 64 := by decide +kernel
  have h0 := hp 0 512 64 rfl
  rw [List.drop_zero, Nat.add_zero] at h0
  simp only [slotImage, imageOf, hn, hi, h0, hp 512 64 0 rfl]
theorem boot_ok (k : Nat) : imageFault (boot k) (slotImage (boot k) k) = none := by
  have e : ∀ i, imageFault (boot k) i = imageFault { held with fuses := { held.fuses with keyHash := [hashA, 0, 0, 0] } } i := fun i => by
    simp only [imageFault, keySlots, intactSlots, boot]; rfl
  rw [boot_slot, e]; decide +kernel
/-- Slot 0 is erased where the image stands in slot 1. -/
theorem boot_empty : imageFault (boot 1) (slotImage (boot 1) 0) = some 1 := by
  have h : ∀ a n, a + n ≤ 0x200000 → ByteMem.rdBytes (boot 1).flash a n = List.replicate n 0 := fun a n ha =>
    rdBytes_zero _ _ _ (fun c _ h2 => by rw [boot]; simp only; rw [ByteMem.rd_wrBytes_other _ _ _ _ (by omega)]; rfl)
  have hn : flashN (boot 1) (0x100000 * (0 + 1) + 0xC) 4 = 0 := by rw [flashN, rdN_bytes, h _ _ (by omega)]; decide +kernel
  simp only [slotImage, hn, h _ _ (show 0x100000 * (0 + 1) + 512 ≤ 0x200000 by omega)]
  decide +kernel
/-- The part waits at STEP 0x0E for a recovery image, after Operational was reached where `b`. -/
def recov (b : Bool) : State := { conf with
  clr := { conf.clr with step := 0x0E, fwRunning := false }, ckr := { conf.ckr with reached := b }
  fuses := { conf.fuses with keyHash := [hashA, 0, 0, 0] } }
theorem recov_ok (b : Bool) : imageFault (recov b) (imageOf image) = none := by cases b <;> decide +kernel
/-- A slice of unit `u` that is over. -/
def slOver (u : Nat) : State := { up with slices := [{ unit := u, start := 1, endAt := 100000 }] }































/-- MOV answers a next state. -/
theorem movs (u : Nat) (s : State) : exec (.mov u) s = .next (kept s (issue s u (fun o => decide (o = .mov)) (fun i s => runMov u i s))) := rfl
/-- g2 holds an address in virtual tile 7's frame window, whose placement is not cached. -/
def uncachedG (t : Tile) : Tile := { t with thread := { t.thread with g := t.thread.g.set 2 ⟨0x100700010, false⟩ } }
/-- Every way of set `n` and the overflow buffer hold other tokens. -/
def fullTile (n : Nat) (t : Tile) : Tile := { t with
  store := (List.range 4).map (fun w => (4 * n + w, { key := 77, port := 1, state := 1 }))
  ovf := (List.range 64).map (fun i => (i, { key := 77, port := 1, state := 1 })) }
/-- The fire queue has no room for level 3. -/
def fullFq (t : Tile) : Tile := { t with fq := List.replicate 912 { level := 3 } }
/-- The spill filter may hold the token's key, with `n` entries in the fetch buffer. -/
def filtTile (n : Nat) (t : Tile) : Tile := { t with spl := { t.spl with
  filter := [filterIndex (instKey (tok 0 0).tag)], fetchBuf := List.replicate n {} } }













/-- A fill of virtual tile 7 is under way for tile 5, void where `v`. -/
def fillSt (v : Bool) (f : Tile → Tile := id) : State :=
  outSt fillReq (matchSt false [] (fun t => f { t with fills := [{ part := 1, vt := 7, tag := 3, void := v }] }))
/-- A send for virtual tile 7 waits at the head. -/
def waitSend (t : Tile) : Tile := { t with send := [{ tok := { tag := mkTag 1 1 0 7 0 0 0 } }] }
/-- The notice of that release was abandoned. -/
def relLost : State := { ctxSt 2 with ctx := { (ctxSt 2).ctx with releases := [{ part := 1, ctx := 5, abandoned := true }] } }







/-- Transfer `x` of the running kernel 4. -/
def kernXfer (k : Nat) (x : Xfer) : State := kern 0 (fun t => { t with kern := { t.kern with id := 4 }, xfers := [{ x with kern := k }] })
/-- A decompression at 2:1, after its run's source line. -/
def xferD : Xfer := { xfer1 with dir := 2, ratio := 2, rowBytes := 128, moved := 1 }









/-- A triple with a known middle part. -/
theorem mid_of {α β γ : Type} {x : α × β × γ} {b : β} (h : x.2.1 = b) : x = (x.1, b, x.2.2) := Prod.ext rfl (Prod.ext h rfl)
/-- `zif` with a patch record whose value does not fit its byte. -/
def badPatch : List Byte := ((zif.set 0xC0 5).set 0xC2 1).set 0x1E1 1
/-- The placed image's klb_load, with its context, in a phase. -/
def ljob (ph : Nat) (h : Option Nat := none) : KJob :=
  { handle := 0, rs := 5, part := 1, ctxs := [3], want := proposal (img 1), phase := ph, heard := h }
/-- A service of the loader is under way. -/
def jobKl (st : Nat) (j : KJob) (s : State := p1) : State := let t := imageSt st s; { t with klb := { t.klb with jobs := [j] } }
/-- Tile 5 runs a node, so that it is not quiescent. -/
def busyP1 : State := modTile p1 5 (fun t => { t with thread := { t.thread with running := true } })
/-- The image with no load context. -/
def imgNoCtx : Image := { img 3 with ctxs := [] }
/-- It is held by the loader. -/
def noCtxSt : State := let s := imageSt 3; { s with klb := { s.klb with images := [imgNoCtx] } }
/-- p1 without its bindings committed. -/
def unboundP1 : State := { p1 with prt := { p1.prt with parts := p1.prt.parts.set 1 { (p1.prt.parts.getD 1 {}) with binds := [] } } }
/-- p1 with no context free. -/
def noFree : State := setCtxPart p1 1 { limit := 16 }
/-- It is not sent again before a later cycle. -/
def ljobLater : KJob := { ljob 1 with again := 200000 }
/-- The segment that a sifter job runs to its end. -/
def segOf (j : SJob) : SSeg := match j.segment with
  | .ok g => g
  | _ => { job := j }
/-- Virtual tile 7 of partition 1 is placed. -/
def sifEv : State := { sifSt [] [sjob] with place := [(1024 + 7, some { unit := 9, slot := 2, gen := 4 })] }



/-- The destination's records may be written, and its control line may not. -/
def ctrlSt : State := let s := { hubSt (dest [srec]) with fns := [(0, { bme := true, atsEn := true })] }
  setHif s 0 { hifAt s 0 with atc := [{ id := 1, fn := 0, pasid := 2 ^ 20, page := 0x400000, size := 0x1000, rd := true, wr := true },
    { id := 2, fn := 0, pasid := 2 ^ 20, page := 0x401000, size := 0x1000, rd := true, wr := false }] }
/-- Record 9 stands in store `k` and is forwarded there. -/
def fwd9 (k : Nat) (q : Sch) : Sch := { q with stores := q.stores.set k { q.stores.getD k {} with forwarded := [(9, 2)] } }
/-- Both prefetch slots of tile 6 are full. -/
def fullSlots (s : State) : State := modTile s 6 (fun t => { t with actSlot := [some { bslot := 0, handle := 1 }, some { bslot := 0, handle := 2 }] })
/-- An admission that asks for a fresh context, and one with a trail. -/
def areqFresh : AdmitReq := { areq with spawn := areq.spawn + 2 ^ 52 }
def areqTrail : AdmitReq := { areq with spawn := areq.spawn + 2 ^ 55 }
/-- One for a virtual tile that is not placed. -/
def areqNowhere : AdmitReq := { areq with spawn := BitVec.ofNat 64 (1 + 2 ^ 6 * 1 + 2 ^ 10 * 9 + 2 ^ 20 * 5 + 2 ^ 36 * 1) }
/-- One that waits for nothing. -/
def areqReady : AdmitReq := { areq with spawn := BitVec.ofNat 64 (1 + 2 ^ 6 * 1 + 2 ^ 10 * 2 + 2 ^ 20 * 5) }
/-- No context of partition 1 is free. -/
def noCtx (s : State) : State := setCtxPart s 1 { limit := 16 }











/-- No tag window of tile 5's overspill requester is open. -/
def fullWin (s : State) : State := { s with outs := (List.range 64).map (fun n => { fetchReq with tag := n, body := .fetch 1, use := .fetch 1 false }) }
/-- The refire list is full. -/
def fullRefire (t : Tile) : Tile := { t with spl := { t.spl with refire := List.replicate 64 5 } }
/-- A held instance of level 1 with a full fire queue. -/
def heldFull : State := modTile heldSt 5 (fun t => { t with fq := List.replicate 912 { level := 3 } })
/-- The held instance. -/
def heldE : FireEntry := { level := 3, tag := (tok 0 0).tag, entry := 0x80, ops := [⟨7, false⟩, ⟨9, true⟩] }
/-- The fetch buffer is full. -/
def fullBuf (s : State) : State := modSpl s 5 (fun z => { z with fetchBuf := List.replicate 32 (tok 0 0) })
/-- The same without its bridge function's bus mastering. -/
def noBme (s : State) : State := { s with fns := [(1, { bme := false, pasidEn := true, part := some 1 })] }
/-- The region's lines for the token: its context's line and its home bucket, whose number is `homeT`. -/
def homeT : Nat := homeBucket (instKey (tok 0 0).tag) 24
def work0 : OvfWork := { lines := [(0, some (0, 0)), (homeT, some (0, 0))] }
/-- What a walk gives, and the work it leaves. -/
def walkVal {α : Type} (x : WRes α) : Option α := match x with
  | .ok a _ => some a
  | _ => none
def walkWork {α : Type} (x : WRes α) : OvfWork := match x with
  | .ok _ w => w
  | _ => {}
theorem walks {α : Type} {x : WRes α} {a : α} (h : walkVal x = some a) : x = .ok a (walkWork x) := by cases x <;> simp_all [walkVal, walkWork]
/-- The token stands in its home bucket; and the same when its context's epoch has gone on. -/
def work1 : OvfWork := walkWork (insertToks work0 24 [(tok 0 0, 1)])
def work2 : OvfWork := { work1 with live := 0, stale := 1, lines := SMap.put none work1.lines 0 (some (2 ^ (64 * 1 + 48), 0)) }
/-- The clearing notice's requester. -/
def rqCtx : Rq := { src := 4 * 0x303, part := 1, tag := 3 }



/-- Tile 6 is quarantined. -/
def exclSt : State := memSt (fun t => { t with excluded := true })
/-- Tile 6 waits for events 0 to 3 in g1. -/
def waitEvSt : State := memSt (fun t => { t with thread := { t.thread with running := true, block := some (.waitEv 1 15 none) } })
/-- The access that a bridge makes for tile 9's line read, and for its word write. -/
def mhAcc : HostAcc := { part := 1, iova := 0x123440, len := 64, use := .mem rq9 1 }
/-- p1 without bus mastering. -/
def noBmeP : State := { p1 with fns := [(1, { bme := false, pasidEn := true, part := some 1 })] }

/-- An admission's flit for the clearing scheduler from tile 5, and a token's flit for tile 5, of partition 1. -/
def aflit : Flit := { header := 2 ^ 63 + 2 ^ 50 * 0x301 + 2 ^ 36 * 20 + 2 ^ 32 * 1 + 2 ^ 26 * 9 }
def tflit : Flit := { header := 2 ^ 62 + 2 ^ 50 * 5 + 2 ^ 36 * 36 + 2 ^ 32 * 1 }
/-- Router 0x201's input buffer of port 1 and class 2 holds a flit. -/
def headSt (b : Buf) : State := setBuf p1 0x201 1 2 false { b with flits := [aflit], used := 1 }
/-- The last flit of a line write whose first flits were dropped. -/
def bulkHead : Nat := 2 ^ 63 + 2 ^ 50 * 0x381 + 2 ^ 36 * 20 + 2 ^ 32 * 1 + 2 ^ 31 + 2
def cutSt : State := setBuf p1 0x201 1 2 false { flits := [{ header := bulkHead + 2 ^ 13 }], used := 1, left := 1, prev := bulkHead, drop := true }
/-- The link up to router 0x281 has a flit to send again. -/
def againSt : State := let x := feeds 0x201 7; setLink p1 x.1 x.2.1 (setDir (linkAt p1 x.1 x.2.1) x.2.2 { resend := [(3, aflit)] })
/-- A router's sender and a unit's with three flits unacknowledged. -/
def kept3 : List (Nat × Flit) := [(3, aflit), (4, aflit), (5, aflit)]
def sentSt : State := linkSt { tx := { next := 6, replay := kept3 } }
def unitSent : State := { p1 with ups := [(5, { next := 6, replay := kept3, used := [0, 0, 3, 0] })] }
/-- Timed requests of other kinds: a load of the running node, one of an ended node, a placement read and an AADD. -/
def timedLoad (ser : Nat) : OutReq := { loadReq with timer := some 100000, repeats := 3, serial := ser }
/-- The gate's packets to tile 9 await their acknowledgements. -/
def gpkt : Packet := { cls := 1, dest := 9, src := rqId 0x305 0, part := 1, body := .tokens 1 [gtok] true }
def gateAcks : State := { p1 with trl := { p1.trl with acks := [(gpkt, 0)], ackTimer := some 100000 } }
/-- Replay entries of tile 5's thread in two partitions. -/
def replSt2 : State := { p1 with replays := [{ target := 0x305, src := 20, part := 1, tag := 3 }, { target := 0x305, src := 20, part := 2, tag := 3 }] }
def purgeSt : State := { p1 with purges := [{ src := 20, part := 1, await := [0x305] }] }



/-- Probe 3 counts. -/
def probing : State := { up with noc := { up.noc with probes := up.noc.probes.set 3 { enable := true } } }
/-- A value of PROBE_SEL that selects port 0x20 of the root. -/
def selVal : Nat := 2 ^ 63 + 2 ^ 54 * 0x20 + 2 ^ 42 * 0x300
/-- Stand buffer 1 with a stored error of word 8. -/
def stsErr (e : Nat) : State := setSts up 1 { stsAt up 1 with err := [(8, e)] }
/-- The stored error of the partition tables. -/
def prtErr (e : Nat) : State := { up with prt := { up.prt with err := e } }
/-- A lock request of cell 3. -/
def lq (op : LockOp) (f : Nat := 0) : LockReq := { op := op, word := 3 + f }
/-- The host's requester, and the fault collector's. -/
def rqHost : Rq := { src := 4 * 0x381, part := 1, tag := 9 }
def rqFlt : Rq := { src := 4 * 0x308, part := 1, tag := 9 }
/-- Tile 9 waits for two units, and watches. -/
def wait2 : LockWait := { wait9 with units := 2 }
def watch9 : LockWait := { cell := 3, rq := rq9, watch := true }
/-- The lock unit is in a slice. -/
def lockSlice : State := { lockSt false held5 [wait9] with slices := [{ unit := 0x304, start := 1, endAt := 100900 }] }
/-- No waiter share is left. -/
def noPool (s : State) : State := { s with lck := { s.lck with quotas := List.replicate 16 0 } }
/-- An ORPHANED cell under either policy. -/
def orphaned (b : Bool) : LockCell := { held5 with state := 2, handover := b }



/-- Half 0 of port 0 in CXL mode, and port 0 bifurcated with both halves up. -/
def cxlSt (s : State := p1) : State := setHLink s 0 0 { linkHalf s 0 0 with cxl := true }
def bifSt : State := brSt (fun x => { x with bifurcated := true, links := [{ up := true, speed := 5, width := 8 }, { up := true, speed := 5, width := 8 }] })
/-- The last training of half 0 was faster. -/
def wasFast : State := setHLink p1 0 0 { linkHalf p1 0 0 with lastSpeed := 6, lastWidth := 16 }
/-- Two entries of the translation cache. -/
def atc2 : List Atc := [{ id := 1, fn := 1, pasid := 7, page := 0x5000, size := 0x1000 }, { id := 2, fn := 2, page := 0x5000, size := 0x1000 }]
/-- Function 1 with ATS enabled; the cache holds an entry of the access's page where `hit`. -/
def atsSt (hit : Bool) : State := setFn (brSt (fun x => { x with atc := if hit then [{ id := 1, fn := 1, pasid := 7, page := 0x123000, size := 0x1000, addr := 0x777000, rd := true, wr := true }] else [] })) 0 1
  { fnAt p1 0 1 with atsEn := true }
/-- Every tag of the port is taken. -/
def fullTags : State := brSt (fun x => { x with accs := (List.range 512).map (fun n => { hread with id := n }) })
/-- A write of a line. -/
def hwrite : HostAcc := { hread with wr := true, data := leBytes 64 5, use := .mem rq9 3 }
/-- An access with a translation entry in use. -/
def usingAtc : State := brSt (fun x => { x with accs := [{ hread with ents := [1] }], atc := atc2 })
/-- The bridge with a write under way on CXL.cache. -/
def wrSt : State := brSt (fun x => { x with accs := [hwrite] })
/-- The entry that a translation gives. -/
def entry1 : Atc := { id := 1, fn := 1, pasid := 7, page := 0x123000, size := 0x1000, addr := 0x777000, rd := true, wr := true }
def noWr : Atc := { entry1 with wr := false }
/-- The translation cache is full. -/
def fullAtc : State := brSt (fun x => { x with atc := (List.range 2048).map (fun n => { id := n + 10, fn := 1, page := 4096 * n }), nextAtc := 3000 })
/-- Function 1 may not master the bus. -/
def noBme0 : State := fnSt (fun f => { f with bme := false })



/-- A write of page 0 of port 0's function 1. -/
def bw (off size v : Nat) : BarWrite := { fn := 1, off := off, size := size, value := v }
/-- Port 0's bridge is in a slice. -/
def bridgeSlice : State := { p1 with slices := [{ unit := 0x381, start := 1, endAt := 100900 }] }
/-- Ring set 5 in a state, with a change. -/
def rst (st : Nat) (f : RingSet → RingSet := id) : State := ringSt (fun r => f { r with state := st })
/-- A LOCK descriptor of cell 3 and a SIFT one, both long. -/
def lockD : RDesc := rd 9 [(8, 3)]
def siftD : RDesc := rd 8 []
/-- The next descriptor may be read. -/
def fetchable (s : State := p1) : State := ringSt (fun r => { r with sqPi := 4, sqCi := 3, nextSeq := 9 }) s
/-- p1 whose function 1 may not master the bus. -/
def noBme1 : State := fnSt (fun f => { f with bme := false })
/-- A descriptor has arrived at its checks. -/
def atHead (d : RDesc) (f : RingSet → RingSet := id) : State := ringSt (fun r => f { r with cur := some { d with phase := 0 }, nextSeq := 9 })
/-- A completion post of the clearing scheduler reaches port 0's bridge, and the ring set as `f` makes it. -/
def rqSift : Rq := { src := 4 * 0x2C8, part := 1, tag := 3 }

/-- Two tokens to inject, for virtual tiles 2 and 3. -/
def inj : List (Nat × Nat) := [(8, 2), (0x10, 7), (0x18, 2 ^ 20 * 2), (0x20, 8), (0x28, 2 ^ 20 * 3 + 1)]
/-- The second a context-control token, and for a virtual tile that is not placed. -/
def injBad : List (Nat × Nat) := [(8, 2), (0x10, 7), (0x18, 2 ^ 20 * 2), (0x20, 8), (0x28, 2 ^ 20 * 3 + 2)]
def injAway : List (Nat × Nat) := [(8, 2), (0x10, 7), (0x18, 2 ^ 20 * 2), (0x20, 8), (0x28, 2 ^ 20 * 9)]
/-- The way from port 0's bridge to tile 7 is full of token packets. -/
def noCredit (s : State) : State := { s with net := List.replicate 600 { cls := 1, dest := 7, src := 4 * 0x381, part := 1, body := .tokens 1 [gtok] false } }
/-- A unit is in a slice. -/
def sliceOf (u : Nat) (s : State) : State := { s with slices := [{ unit := u, start := 1, endAt := 100900 }] }
/-- The registers that LOAD_REGS writes. -/
def lregs : List (Nat × Nat) := [(8, 6), (0xB, 7), (0x10, 2 ^ 16 * 1), (0x18, 2 ^ 32 * 0x1000 + 0x40), (0x20, 2 ^ 16 * 9)]
def lregsBad : List (Nat × Nat) := [(8, 6), (0xB, 7), (0x10, 2 ^ 16 * 1), (0x18, 2 ^ 32 * 0x1000 + 0x40), (0x20, 0)]
/-- No record stands. -/
def noRecs : State := { unitSt with sch := { unitSt.sch with recs := [] } }
/-- Record 9 in a state. -/
def recSt (st : Nat) : State := { unitSt with sch := { unitSt.sch with recs := SMap.put {} [] 9 (rec9 st) } }
/-- Lock group 0 with a held cell. -/
def busyGroup : State := { unitSt with lck := { unitSt.lck with cells := [(3, held5)] } }
/-- Partition 1's region FAILED, ENABLED. -/
def ovfSt (st : Nat) : State := { unitSt with spr := { unitSt.spr with regions := unitSt.spr.regions.set 1 { region1 with state := st } } }
/-- Destination 1 + 1 enabled. -/
def destOn : State := setDest p1 2 (dest [])
/-- A class word with a trail that partition 1 does not hold. -/
def clsTrail : Nat := 2 ^ 38 * 9 + 2 ^ 37
/-- The region is enabled and holds live tokens. -/
def ovfBusy : State := { unitSt with spr := { unitSt.spr with regions := unitSt.spr.regions.set 1 { region1 with live := 3 } } }
/-- The release of record 9's item is held at a full destination. -/
def heldRec : State := { unitSt with traceExport := [1], trl := { unitSt.trl with dests := unitSt.trl.dests.set 0 { dest (List.replicate 256 srec) with stalling := true } } }
/-- A descriptor that has been told eight times to retry, at its evaluation while the unit is in a slice. -/
def busyRd (op : Nat) (fs : List (Nat × Nat)) : RDesc := { rd op fs with busyN := 8 }
def busySt (op : Nat) (fs : List (Nat × Nat)) (u : Nat) : State := ringSt (fun r => { r with cur := some (busyRd op fs) }) (sliceOf u unitSt)

/-- A LAUNCH with a retirement entry and a trail. -/
def lnch : List (Nat × Nat) := [(8, 1 + 2 ^ 10 * 2), (0x10, 7), (0x18, 5), (0x1C, 0x8008), (0x1E, 1), (0x20, 2 ^ 32 - 1), (0x24, 7)]
/-- A held descriptor with its request. -/
def heldDesc (op : Nat) : State := outSt launchReq (ringSt (fun r => { r with cur := some (rd op [] 3) }))
/-- A descriptor that awaits its answer. -/
def sentDesc (op : Nat) (fs : List (Nat × Nat)) : State := ringSt (fun r => { r with cur := some (rd op fs 2) }) unitSt
/-- A COPY from stand-buffer slice 0 to the host window, and one to it, of two lines. -/
def cpy : List (Nat × Nat) := [(8, 0x200000040), (0x10, 0x100000000040), (0x18, 128)]
def cpyIn : List (Nat × Nat) := [(8, 0x100000000040), (0x10, 0x200000040), (0x18, 128)]
def cpyTile : List (Nat × Nat) := [(8, 0x200000040), (0x10, 0x100200040), (0x18, 128)]
/-- The copy engine works on it, with `left` lines outstanding and the first `dn` lines written. -/
def copying (fs : List (Nat × Nat)) (left dn nx : Nat) : State :=
  let s := ringSt (fun r => { r with longs := [{ rd 0x0B fs 2 with next := nx, done := dn }] }) unitSt
  setHif s 0 { hifAt s 0 with copies := [(5, 3)], copyLeft := left }
/-- The engine is full. -/
def fullCopy (s : State) : State := setHif s 0 { hifAt s 0 with copies := List.replicate 8 (5, 9) }
/-- A LOAD_CODE of one word, and of a line and a word. -/
def lcode : List (Nat × Nat) := [(8, 6), (0xC, 0x40), (0x10, 4), (0x18, 0x5000)]
def lcode2 : List (Nat × Nat) := [(8, 6), (0xC, 0x40), (0x10, 68), (0x18, 0x5000)]
def loading (fs : List (Nat × Nat)) (left nx : Nat) : State := ringSt (fun r => { r with longs := [{ rd 0x10 fs 2 with next := nx, left := left }] })
/-- No tag window of the function is open towards the context pool. -/
def noWin : State := { p1 with outs := (List.range 64).map (fun n => { unit := 0x381, sub := ringSrc (ringAt p1 5) % 4, part := 1, target := 0x303, tag := n, body := .ctxAlloc, use := .desc 5 n }) }

/-- A record that removes the partition, and the content of a key stage. -/
def recOff : List Byte := [1, 1] ++ List.replicate 382 0
def keyRec (role : Byte) : List Byte := [role] ++ keyA ++ List.replicate 286 0
/-- A rotation of the fabric manager's key. -/
def stgRot : Stage := { stgKey with record := keyRec 0, fmOk := false, pcOk := false, newOk := false, order := none, phase := 0 }
/-- A release, fully signed, and a replacement. -/
def stgRel : Stage := { id := 7, kind := 3, record := List.replicate 384 0, base := sha384 (keyA ++ keyB), digest := 1, fmOk := true, pcOk := true, order := some 0 }
def stgRepl : Stage := { stgRel with kind := 2, record := keyRec 0 }
/-- A removal. -/
def stgOff : Stage := { stg with record := recOff, binds := [] }
/-- Partition 1 is ARMED, and the release is staged. -/
def relArmed : State := { partSt 1 with prt := { (partSt 1).prt with stages := [stgRel] } }
/-- Custody in Safe, and not provisioned. -/
def cusSafe (l : List Stage) : State := { cus l with clr := { (cus l).clr with mode := .safe } }
def cusOff : State := { cus [] with prt := { (cus []).prt with custody := 0 } }
/-- The ledger's bound is near. -/
def nearBound : State := { cus [stgApply] with ldg := { (cus []).ldg with bound := 10, boundQ := 10 } }
/-- Tile 5's node runs while the commit waits for it. -/
def busyWait : State := setTile (cus [{ stgWait with held := [5] }]) 5 { tileAt up 5 with thread := { running := true } }
/-- A tile with a cached placement of partition 2. -/
def cachedTile : Tile := { pcache := [some { part := 2, vt := 7, unit := 9, slot := 2, gen := 4 }, some { part := 1, vt := 7, unit := 9, slot := 2, gen := 4 }] }

/-- A party in Safe; an open pair of enrolments. -/
def partSafe (st : Nat) : State := { partSt st with clr := { (partSt st).clr with mode := .safe } }
def half1 : Enroll := { role := 1, key := keyB, expects := hashA }
/-- Not provisioned, in Operational, with an enrolment or without. -/
def bareOp (e : Option Enroll) : State := { bare e with clr := { (bare e).clr with mode := .operational } }
/-- Tile 5 has a binding of partition 2 in slot 0, in the debug window. -/
def dbg2 : State := setTile dbg 5 { tileAt dbg 5 with bindings := [{ valid := true, part := 2, vtile := 3, gen := 1 }, {}, {}, {}] }
/-- A commit is applied. -/
def dbgApply : State := { dbg with prt := { dbg.prt with stages := [stgApply] } }
/-- A binding of partition 1's virtual tile 9. -/
def bindVal : Nat := 2 ^ 63 + 2 ^ 59 * 1 + 2 ^ 49 * 9 + 2 ^ 23 * 5
/-- The collector is bypassed; its queue is full. -/
def bypassed (m : FaultMsg) : State := fltSt m { p1 with flt := { p1.flt with fltState := true } }
def fullQueue : State := { p1 with flt := { p1.flt with produced := 1030, acked := 6 } }
/-- A lost request's record: tile 5's thread. -/
def orphanMsg : FaultMsg := { time := 5, head := faultHead 0x160 (rqId 5 0) 5 (some 1) (some 0) }
/-- Tile 6 is quarantined; its follow-up waits. -/
def exclP1 : State := modTile p1 6 (fun t => { t with excluded := true })
def followSt : State := { exclP1 with flt := { p1.flt with followUps := [6] } }
/-- The grove's spare is in use. -/
def spareGone : State := { p1 with ckr := { p1.ckr with engage := [(0x100, 9)] } }
/-- The spare has passed a self-test. -/
def spareTested : State := { p1 with ckr := { p1.ckr with passAt := [(0x100, 0)] } }
/-- A commit whose epoch needs the ledger's next bound. -/
def nearBound1 : State := { cus [stgApply] with ldg := { (cus []).ldg with bound := 10, boundQ := 10 } }
/-- Notices of port 0's function 1. -/
def noticeSt (d : Bool) (t : Nat) : State := { fnSt (fun f => { f with msixEn := true, open_ := [0] }) with flt := { p1.flt with notices := [(1, { deferred := d, last := some t })] } }



/-- A state of Safe on its way back. -/
def returning (re : Bool) : State := safe1 (fun x => { x with returning := some 99000, reenter := re })
/-- A state of the collector's protection. -/
def fltErr (e : Nat) (b : Bool) : State := { up with flt := { up.flt with stateErr := e, fltState := b } }
/-- A record to copy, and the state that holds it. -/
def recM (bypass : Bool) : FaultMsg := { fmsg 0x160 0x301 with head := (fmsg 0x160 0x301).head + 2 ^ 10 * 1 + (if bypass then 2 ^ 58 else 0) }
def recQueue : State := { p1 with flt := { p1.flt with produced := 4, acked := 2, qrec := [(2, recM false)] } }
/-- The kind has been seen, and the event budget is used. -/
def seenKind : State := { p1 with ldg := { p1.ldg with seen := [0x160], budget := 16 } }
/-- A dead ledger; one with a checkpoint waiting; the array with a line and its errors. -/
def deadLdg : State := { up with ldg := { up.ldg with dead := true } }
def ckptWaits : State := { up with ldg := { up.ldg with queue := [{ ring := 4, type := 5, waiters := [1] }] } }
def arr (e : Nat) : State := { up with array := { up.array with lines := [(9, leBytes 64 77)], errs := if e = 0 then [] else [(9, e)] } }



/-- Safe, with the parties' part of it done. -/
def safeBrd (f : Brd → Brd) : State := { brdSt f with clr := (safe1).clr }
/-- Packets: a READ, a line, a response of four words, an acknowledgement's management packet, tokens, and an activation's tokens. -/
def pkRead : Packet := { cls := 2, dest := 0x301, src := 20, part := 1, body := .readWord (mw 0x40) }
def pkLine : Packet := { cls := 2, dest := 0x301, src := 20, part := 1, body := .lineWrite 3 0 true [1, 2, 3] 0 }
def tok2 : List Token := [{ val := 5, tag := 9 }, { val := 6, tag := 10, poison := true }]
def pkToks : Packet := { cls := 1, dest := 5, src := 20, part := 1, body := .tokens 3 tok2 false }
def pkAct : Packet := { cls := 1, dest := 5, src := 20, part := 1, body := .actTokens 3 tok2 0x12345 }

/-! ### Witnesses: IdleStepCountsTime -/

theorem wit_idle (h : Obligations.IdleStepCountsTime) : type_of% (h up _) :=
  h up (by decide +kernel)

/-! ### Witnesses: StepKeepsFusesBlown -/

theorem wit_fuses (h : Obligations.StepKeepsFusesBlown) : type_of% (h up.fuses up (tick up) ⟨by decide, fun _ x => x, rfl⟩ rfl) :=
  h up.fuses up (tick up) ⟨by decide, fun _ x => x, rfl⟩ rfl

/-! ### Witnesses: OperationalEntry -/

theorem wit_operational_entry (h : Obligations.OperationalEntry) : type_of% (h.1 conf _ _ _ _ _ _ _ _) :=
  h.1 conf (by decide +kernel) (by decide +kernel) (by decide +kernel) (by decide +kernel) (by decide +kernel) (by decide +kernel) (by decide +kernel) (by decide +kernel)

theorem wit_operational_held (h : Obligations.OperationalEntry) : type_of% (h.2.1 { conf with clr := { conf.clr with hold := true } } _) :=
  h.2.1 { conf with clr := { conf.clr with hold := true } } (by decide +kernel)

theorem wit_safe_return_service (h : Obligations.OperationalEntry) : type_of% (h.2.2 { up with clr := { up.clr with mode := .safe }, flt := { up.flt with returning := some 99000 } } _ _ _ _ _) :=
  h.2.2 { up with clr := { up.clr with mode := .safe }, flt := { up.flt with returning := some 99000 } } (by decide +kernel) (by decide +kernel) (by decide +kernel) (by decide +kernel) (by decide +kernel)

/-! ### Witnesses: Resets -/

theorem wit_reset_chip (h : Obligations.Resets) : type_of% (h.1 up true _) :=
  h.1 up true (by decide +kernel)

theorem wit_reset_sup_write (h : Obligations.Resets) : type_of% (h.2.1 safe 0 _ _ _) :=
  h.2.1 safe 0 (by decide +kernel) (by decide +kernel) (by decide +kernel)

theorem wit_reset_sup (h : Obligations.Resets) : type_of% (h.2.2.1 { up with ckr := { up.ckr with supRequested := true } } _ _) :=
  h.2.2.1 { up with ckr := { up.ckr with supRequested := true } } (by decide +kernel) (by decide +kernel)

theorem wit_reset_watchdog (h : Obligations.Resets) : type_of% (h.2.2.2 up _ _) :=
  h.2.2.2 up (by decide +kernel) (by decide +kernel)

/-! ### Witnesses: BringUp -/

theorem wit_release_boot (h : Obligations.BringUp) : type_of% ((h.1 (boot 0) {} 0 _ _ _ _ _ _ _ _ _ _ _ _ _ _).1 (boot_ok 0)) :=
  (h.1 (boot 0) {} 0 (by decide +kernel) (by decide +kernel) (by decide +kernel) (by decide +kernel) (by decide +kernel) (by decide +kernel) (by decide +kernel) (by decide +kernel) (by decide +kernel) (by decide +kernel) (by decide +kernel) (by decide +kernel) (by decide +kernel) (by decide +kernel)).1 (boot_ok 0)

theorem wit_release_other_slot (h : Obligations.BringUp) : type_of% ((h.1 (boot 1) {} 0 _ _ _ _ _ _ _ _ _ _ _ _ _ _).2 1 boot_empty (boot_ok 1)) :=
  (h.1 (boot 1) {} 0 (by decide +kernel) (by decide +kernel) (by decide +kernel) (by decide +kernel) (by decide +kernel) (by decide +kernel) (by decide +kernel) (by decide +kernel) (by decide +kernel) (by decide +kernel) (by decide +kernel) (by decide +kernel) (by decide +kernel) (by decide +kernel)).2 1 boot_empty (boot_ok 1)

theorem wit_release_no_ref (h : Obligations.BringUp) : type_of% (h.2.1.1 held { refOk := false } _ _ _ _) :=
  h.2.1.1 held { refOk := false } (by decide +kernel) (by decide +kernel) (by decide +kernel) (by decide +kernel)

theorem wit_release_reserved (h : Obligations.BringUp) : type_of% (h.2.1.2.1 held { straps := 0x30 } _ _ _ _ _ _ _) :=
  h.2.1.2.1 held { straps := 0x30 } (by decide +kernel) (by decide +kernel) (by decide +kernel) (by decide +kernel) (by decide +kernel) (by decide +kernel) (by decide +kernel)

theorem wit_release_recovery (h : Obligations.BringUp) : type_of% (h.2.1.2.2 held { straps := 2 } _ _ _ _ _ _ _ _ _ _ _) :=
  h.2.1.2.2 held { straps := 2 } (by decide +kernel) (by decide +kernel) (by decide +kernel) (by decide +kernel) (by decide +kernel) (by decide +kernel) (by decide +kernel) (by decide +kernel) (by decide +kernel) (by decide +kernel) (by decide +kernel)

theorem wit_recovery_image (h : Obligations.BringUp) : type_of% ((h.2.2 (recov false) image _ _ _ _ _ (recov_ok false)).1 _ _) :=
  (h.2.2 (recov false) image (by decide +kernel) (by decide +kernel) (by decide +kernel) (by decide +kernel) (by decide +kernel) (recov_ok false)).1 (by decide +kernel) (by decide +kernel)

theorem wit_recovery_image_after (h : Obligations.BringUp) : type_of% ((h.2.2 (recov true) image _ _ _ _ _ (recov_ok true)).2 _) :=
  (h.2.2 (recov true) image (by decide +kernel) (by decide +kernel) (by decide +kernel) (by decide +kernel) (by decide +kernel) (recov_ok true)).2 (by decide +kernel)

/-! ### Witnesses: FirmwareCommands -/

theorem wit_revoke_key (h : Obligations.FirmwareCommands) : type_of% (h.1.1 { up with fuses := { up.fuses with keyHash := [hashA, 0, 5, 0] } } stmt2 keyA stmtSig 2 0 _ _ _ _ _ _ _) :=
  h.1.1 { up with fuses := { up.fuses with keyHash := [hashA, 0, 5, 0] } } stmt2 keyA stmtSig 2 0 (by decide +kernel) (by decide +kernel) (by decide +kernel) (by decide +kernel) (by decide +kernel) (by decide +kernel) (by decide +kernel)

theorem wit_revoke_key_refused (h : Obligations.FirmwareCommands) : type_of% (h.1.2.1 up [] [] [] _ _) :=
  h.1.2.1 up [] [] [] (by decide +kernel) (by decide +kernel)

theorem wit_floor_raise (h : Obligations.FirmwareCommands) : type_of% (h.1.2.2.1 { up with ckr := { up.ckr with secVersion := 63 } } 63 _ _ _ _) :=
  h.1.2.2.1 { up with ckr := { up.ckr with secVersion := 63 } } 63 (by decide +kernel) (by decide +kernel) (by decide +kernel) (by decide +kernel)

theorem wit_floor_raise_refused (h : Obligations.FirmwareCommands) : type_of% (h.1.2.2.2 up 63 _ _ _ _) :=
  h.1.2.2.2 up 63 (by decide +kernel) (by decide +kernel) (by decide +kernel) (by decide +kernel)

theorem wit_firmware_update (h : Obligations.FirmwareCommands) : type_of% (h.2.1 up 0 image _ _ _) :=
  h.2.1 up 0 image (by decide +kernel) (by decide +kernel) (by decide +kernel)

theorem wit_hold_write (h : Obligations.FirmwareCommands) : type_of% (h.2.2.1 up 0 1 _ _ _) :=
  h.2.2.1 up 0 1 (by decide +kernel) (by decide +kernel) (by decide +kernel)

theorem wit_sup_scrub_corrected (h : Obligations.FirmwareCommands) : type_of% (h.2.2.2.1 up _) :=
  h.2.2.2.1 up (by decide +kernel)

theorem wit_sup_scrub_bad (h : Obligations.FirmwareCommands) : type_of% (h.2.2.2.2 up _) :=
  h.2.2.2.2 up (by decide +kernel)

/-! ### Witnesses: ReferenceAndPlls -/

theorem wit_reference_loss (h : Obligations.ReferenceAndPlls) : type_of% (h.1 up true _ _ _ _) :=
  h.1 up true (by decide +kernel) (by decide +kernel) (by decide +kernel) (by decide +kernel)

theorem wit_reference_return (h : Obligations.ReferenceAndPlls) : type_of% (h.2.1 { up with clk := { up.clk with refPresent := false } } _ _ _ _ _ _) :=
  h.2.1 { up with clk := { up.clk with refPresent := false } } (by decide +kernel) (by decide +kernel) (by decide +kernel) (by decide +kernel) (by decide +kernel) (by decide +kernel)

theorem wit_pll_unlock_core (h : Obligations.ReferenceAndPlls) : type_of% (h.2.2.1 up _ _ _ _ _ _) :=
  h.2.2.1 up (by decide +kernel) (by decide +kernel) (by decide +kernel) (by decide +kernel) (by decide +kernel) (by decide +kernel)

theorem wit_pll_unlock_sup (h : Obligations.ReferenceAndPlls) : type_of% (h.2.2.2.1 up _ _ _ _ _ _) :=
  h.2.2.2.1 up (by decide +kernel) (by decide +kernel) (by decide +kernel) (by decide +kernel) (by decide +kernel) (by decide +kernel)

theorem wit_pll_attempt_core (h : Obligations.ReferenceAndPlls) : type_of% (h.2.2.2.2.1 { up with clk := { up.clk with coreLocked := false, coreTries := 3 } } _ _ _ _ _ _ _) :=
  h.2.2.2.2.1 { up with clk := { up.clk with coreLocked := false, coreTries := 3 } } (by decide +kernel) (by decide +kernel) (by decide +kernel) (by decide +kernel) (by decide +kernel) (by decide +kernel) (by decide +kernel)

theorem wit_pll_attempt_sup (h : Obligations.ReferenceAndPlls) : type_of% (h.2.2.2.2.2 { up with clk := { up.clk with supLocked := false, supTries := 3 } } _ _ _ _ _ _ _) :=
  h.2.2.2.2.2 { up with clk := { up.clk with supLocked := false, supTries := 3 } } (by decide +kernel) (by decide +kernel) (by decide +kernel) (by decide +kernel) (by decide +kernel) (by decide +kernel) (by decide +kernel)

/-! ### Witnesses: SelfTestSlices -/

theorem wit_slice_start (h : Obligations.SelfTestSlices) : type_of% ((h.1.1 up 0xFF 32000 false _ _ _ _ _ _ _ _ _ _).1 _ _) :=
  (h.1.1 up 0xFF 32000 false (by decide +kernel) (by decide +kernel) (by decide +kernel) (by decide +kernel) (by decide +kernel) (by decide +kernel) (by decide +kernel) (by decide +kernel) (by decide +kernel) (by decide +kernel)).1 (by decide +kernel) (by decide +kernel)

theorem wit_slice_start_kernel (h : Obligations.SelfTestSlices) : type_of% ((h.1.1 (setTile up 0xFF { tileAt up 0xFF with kern := { running := true } }) 0xFF 32000 false _ _ _ _ _ _ _ _ _ _).2.1 _ _ _) :=
  (h.1.1 (setTile up 0xFF { tileAt up 0xFF with kern := { running := true } }) 0xFF 32000 false (by decide +kernel) (by decide +kernel) (by decide +kernel) (by decide +kernel) (by decide +kernel) (by decide +kernel) (by decide +kernel) (by decide +kernel) (by decide +kernel) (by decide +kernel)).2.1 (by decide +kernel) (by decide +kernel) (by decide +kernel)

theorem wit_slice_start_unit (h : Obligations.SelfTestSlices) : type_of% ((h.1.1 up 0x301 1 true _ _ _ _ _ _ _ _ _ _).2.2 _) :=
  (h.1.1 up 0x301 1 true (by decide +kernel) (by decide +kernel) (by decide +kernel) (by decide +kernel) (by decide +kernel) (by decide +kernel) (by decide +kernel) (by decide +kernel) (by decide +kernel) (by decide +kernel)).2.2 (by decide +kernel)

theorem wit_slice_kernel_wait (h : Obligations.SelfTestSlices) : type_of% (h.1.2.1 { setTile { up with clr := { up.clr with time := 160001 } } 3 { tileAt up 3 with kern := { running := true } } with ckr := { up.ckr with chosen := [(3, 1)] } } 3 (3, 1) _ _ _ _) :=
  h.1.2.1 { setTile { up with clr := { up.clr with time := 160001 } } 3 { tileAt up 3 with kern := { running := true } } with ckr := { up.ckr with chosen := [(3, 1)] } } 3 (3, 1) (by decide +kernel) (by decide +kernel) (by decide +kernel) (by decide +kernel)

theorem wit_ifst_period_end (h : Obligations.SelfTestSlices) : type_of% (h.1.2.2 { up with ckr := { up.ckr with ifstEnable := false }, clk := { up.clk with sup := 100 * usToCc up 100000 } } _ _ _) :=
  h.1.2.2 { up with ckr := { up.ckr with ifstEnable := false }, clk := { up.clk with sup := 100 * usToCc up 100000 } } (by decide +kernel) (by decide +kernel) (by decide +kernel)

theorem wit_slice_end (h : Obligations.SelfTestSlices) : type_of% ((h.2 (slOver 5) 5 { unit := 5, start := 1, endAt := 100000 } _ _ _).1 _ _ _) :=
  (h.2 (slOver 5) 5 { unit := 5, start := 1, endAt := 100000 } (by decide +kernel) (by decide +kernel) (by decide +kernel)).1 (by decide +kernel) (by decide +kernel) (by decide +kernel)

theorem wit_slice_end_counts (h : Obligations.SelfTestSlices) : type_of% ((h.2 (slOver 5) 5 { unit := 5, start := 1, endAt := 100000 } _ _ _).2.1) :=
  (h.2 (slOver 5) 5 { unit := 5, start := 1, endAt := 100000 } (by decide +kernel) (by decide +kernel) (by decide +kernel)).2.1

theorem wit_slice_end_failed (h : Obligations.SelfTestSlices) : type_of% ((h.2 (slOver 5) 5 { unit := 5, start := 1, endAt := 100000 } _ _ _).2.2.1 _) :=
  (h.2 (slOver 5) 5 { unit := 5, start := 1, endAt := 100000 } (by decide +kernel) (by decide +kernel) (by decide +kernel)).2.2.1 (by decide +kernel)

theorem wit_slice_end_failed_unit (h : Obligations.SelfTestSlices) : type_of% ((h.2 (slOver 0x301) 0x301 { unit := 0x301, start := 1, endAt := 100000 } _ _ _).2.2.2 _) :=
  (h.2 (slOver 0x301) 0x301 { unit := 0x301, start := 1, endAt := 100000 } (by decide +kernel) (by decide +kernel) (by decide +kernel)).2.2.2 (by decide +kernel)

/-! ### Witnesses: IntegerInstructions -/

theorem wit_alu (h : Obligations.IntegerInstructions) : type_of% ((h .add 5 (insAt [0x10, 1, 2, 3]) (node [0x10, 1, 2, 3]) (node [0x10, 1, 2, 3]) (issues_of _)).1 _ _ _) :=
  (h .add 5 (insAt [0x10, 1, 2, 3]) (node [0x10, 1, 2, 3]) (node [0x10, 1, 2, 3]) (issues_of (by decide +kernel))).1 (by decide +kernel) (by decide +kernel) (by decide +kernel)

theorem wit_alu_vec (h : Obligations.IntegerInstructions) : type_of% ((h .mulhs 5 (insAt [0xF4, 0x14, 1, 2, 3]) (node [0xF4, 0x14, 1, 2, 3]) (node [0xF4, 0x14, 1, 2, 3]) (issues_of _)).2.1 _ _ _) :=
  (h .mulhs 5 (insAt [0xF4, 0x14, 1, 2, 3]) (node [0xF4, 0x14, 1, 2, 3]) (node [0xF4, 0x14, 1, 2, 3]) (issues_of (by decide +kernel))).2.1 (by decide +kernel) (by decide +kernel) (by decide +kernel)

theorem wit_alui (h : Obligations.IntegerInstructions) : type_of% ((h .sub 5 (insAt [0x21, 1, 2, 0x80]) (node [0x21, 1, 2, 0x80]) (node [0x21, 1, 2, 0x80]) (issues_of _)).2.2.1 _ _ _) :=
  (h .sub 5 (insAt [0x21, 1, 2, 0x80]) (node [0x21, 1, 2, 0x80]) (node [0x21, 1, 2, 0x80]) (issues_of (by decide +kernel))).2.2.1 (by decide +kernel) (by decide +kernel) (by decide +kernel)

theorem wit_alui_vec (h : Obligations.IntegerInstructions) : type_of% ((h .sar 5 (insAt [0xF1, 0xF4, 0x2D, 1, 2, 0xFF]) (node [0xF1, 0xF4, 0x2D, 1, 2, 0xFF]) (node [0xF1, 0xF4, 0x2D, 1, 2, 0xFF]) (issues_of _)).2.2.2 _ _ _) :=
  (h .sar 5 (insAt [0xF1, 0xF4, 0x2D, 1, 2, 0xFF]) (node [0xF1, 0xF4, 0x2D, 1, 2, 0xFF]) (node [0xF1, 0xF4, 0x2D, 1, 2, 0xFF]) (issues_of (by decide +kernel))).2.2.2 (by decide +kernel) (by decide +kernel) (by decide +kernel)

/-! ### Witnesses: IntegerResults -/

theorem wit_x_int (h : Obligations.IntegerResults) : type_of% (h.1 1 1 0 _) :=
  h.1 1 1 0 (by decide +kernel)

theorem wit_x_int2 (h : Obligations.IntegerResults) : type_of% (h.1 8 0x80 0xFF _) :=
  h.1 8 0x80 0xFF (by decide +kernel)

theorem wit_x_int3 (h : Obligations.IntegerResults) : type_of% (h.1 64 0x8000000000000000 0 _) :=
  h.1 64 0x8000000000000000 0 (by decide +kernel)

theorem wit_x_int4 (h : Obligations.IntegerResults) : type_of% (h.1 16 7 0xFFFD _) :=
  h.1 16 7 0xFFFD (by decide +kernel)

theorem wit_no_fault (h : Obligations.IntegerResults) : type_of% ((h.2 .divu 5 (insAt [0x15, 1, 2, 3]) (node [0x15, 1, 2, 3]) (node [0x15, 1, 2, 3]) (issues_of _)).1 _ _ _) :=
  (h.2 .divu 5 (insAt [0x15, 1, 2, 3]) (node [0x15, 1, 2, 3]) (node [0x15, 1, 2, 3]) (issues_of (by decide +kernel))).1 (by decide +kernel) (by decide +kernel) (by decide +kernel)

theorem wit_no_fault_vec (h : Obligations.IntegerResults) : type_of% ((h.2 .divs 5 (insAt [0xF4, 0x26, 1, 2, 0xFF]) (node [0xF4, 0x26, 1, 2, 0xFF]) (node [0xF4, 0x26, 1, 2, 0xFF]) (issues_of _)).2 _ _ _) :=
  (h.2 .divs 5 (insAt [0xF4, 0x26, 1, 2, 0xFF]) (node [0xF4, 0x26, 1, 2, 0xFF]) (node [0xF4, 0x26, 1, 2, 0xFF]) (issues_of (by decide +kernel))).2 (by decide +kernel) (by decide +kernel) (by decide +kernel)

/-! ### Witnesses: CompareAndFloatInstructions -/

theorem wit_cmp (h : Obligations.CompareAndFloatInstructions) : type_of% (h.1.1 .ltu 5 (insAt [0x33, 1, 2, 3]) (node [0x33, 1, 2, 3]) (node [0x33, 1, 2, 3]) (issues_of _) _ _) :=
  h.1.1 .ltu 5 (insAt [0x33, 1, 2, 3]) (node [0x33, 1, 2, 3]) (node [0x33, 1, 2, 3]) (issues_of (by decide +kernel)) (by decide +kernel) (by decide +kernel)

theorem wit_plog (h : Obligations.CompareAndFloatInstructions) : type_of% (h.1.2.1 5 (insAt [0x36, 1, 0, 0xC1]) (node [0x36, 1, 0, 0xC1]) (node [0x36, 1, 0, 0xC1]) (issues_of _) _) :=
  h.1.2.1 5 (insAt [0x36, 1, 0, 0xC1]) (node [0x36, 1, 0, 0xC1]) (node [0x36, 1, 0, 0xC1]) (issues_of (by decide +kernel)) (by decide +kernel)

theorem wit_x_cmp (h : Obligations.CompareAndFloatInstructions) : type_of% (h.1.2.2 8 0x80 0x17F _) :=
  h.1.2.2 8 0x80 0x17F (by decide +kernel)

theorem wit_flt (h : Obligations.CompareAndFloatInstructions) : type_of% (h.2.1 .fadd 5 (insAt [0x40, 1, 2, 3]) (node [0x40, 1, 2, 3]) (node [0x40, 1, 2, 3]) (issues_of _) _ _ _) :=
  h.2.1 .fadd 5 (insAt [0x40, 1, 2, 3]) (node [0x40, 1, 2, 3]) (node [0x40, 1, 2, 3]) (issues_of (by decide +kernel)) (by decide +kernel) (by decide +kernel) (by decide +kernel)

theorem wit_flt_vec (h : Obligations.CompareAndFloatInstructions) : type_of% (h.2.2.1 .fma 5 (insAt [0xF4, 0x46, 1, 2, 3]) (node [0xF4, 0x46, 1, 2, 3]) (node [0xF4, 0x46, 1, 2, 3]) (issues_of _) _ _ _) :=
  h.2.2.1 .fma 5 (insAt [0xF4, 0x46, 1, 2, 3]) (node [0xF4, 0x46, 1, 2, 3]) (node [0xF4, 0x46, 1, 2, 3]) (issues_of (by decide +kernel)) (by decide +kernel) (by decide +kernel) (by decide +kernel)

theorem wit_fcvt (h : Obligations.CompareAndFloatInstructions) : type_of% (h.2.2.2.1 5 (insAt [0x47, 1, 2, 0]) (node [0x47, 1, 2, 0]) (node [0x47, 1, 2, 0]) (issues_of _) _ _ _) :=
  h.2.2.2.1 5 (insAt [0x47, 1, 2, 0]) (node [0x47, 1, 2, 0]) (node [0x47, 1, 2, 0]) (issues_of (by decide +kernel)) (by decide +kernel) (by decide +kernel) (by decide +kernel)

theorem wit_fcvt_vec (h : Obligations.CompareAndFloatInstructions) : type_of% (h.2.2.2.2.1 5 (insAt [0xF4, 0x47, 1, 2, 3]) (node [0xF4, 0x47, 1, 2, 3]) (node [0xF4, 0x47, 1, 2, 3]) (issues_of _) _ _ _) :=
  h.2.2.2.2.1 5 (insAt [0xF4, 0x47, 1, 2, 3]) (node [0xF4, 0x47, 1, 2, 3]) (node [0xF4, 0x47, 1, 2, 3]) (issues_of (by decide +kernel)) (by decide +kernel) (by decide +kernel) (by decide +kernel)

theorem wit_x_nan (h : Obligations.CompareAndFloatInstructions) : type_of% (h.2.2.2.2.2 .fma 0x7FC00001 1 0 _) :=
  h.2.2.2.2.2 .fma 0x7FC00001 1 0 (by decide +kernel)

/-! ### Witnesses: MoveInstructions -/

theorem wit_mov (h : Obligations.MoveInstructions) : type_of% ((h 5 (insAt [0x38, 1, 2]) (node [0x38, 1, 2]) (node [0x38, 1, 2]) (issues_of _)).1 _ _) :=
  (h 5 (insAt [0x38, 1, 2]) (node [0x38, 1, 2]) (node [0x38, 1, 2]) (issues_of (by decide +kernel))).1 (by decide +kernel) (by decide +kernel)

theorem wit_mov_vec (h : Obligations.MoveInstructions) : type_of% ((h 5 (insAt [0xF4, 0x38, 1, 2]) (node [0xF4, 0x38, 1, 2]) (node [0xF4, 0x38, 1, 2]) (issues_of _)).2.1 _ _) :=
  (h 5 (insAt [0xF4, 0x38, 1, 2]) (node [0xF4, 0x38, 1, 2]) (node [0xF4, 0x38, 1, 2]) (issues_of (by decide +kernel))).2.1 (by decide +kernel) (by decide +kernel)

theorem wit_movi (h : Obligations.MoveInstructions) : type_of% ((h 5 (insAt [0x39, 1, 0xFF, 0xFF]) (node [0x39, 1, 0xFF, 0xFF]) (node [0x39, 1, 0xFF, 0xFF]) (issues_of _)).2.2.1 _) :=
  (h 5 (insAt [0x39, 1, 0xFF, 0xFF]) (node [0x39, 1, 0xFF, 0xFF]) (node [0x39, 1, 0xFF, 0xFF]) (issues_of (by decide +kernel))).2.2.1 (by decide +kernel)

theorem wit_movt (h : Obligations.MoveInstructions) : type_of% ((h 5 (insAt [0x3A, 1, 2]) (node [0x3A, 1, 2] trapTile) (node [0x3A, 1, 2] trapTile) (issues_of _)).2.2.2.1 _) :=
  (h 5 (insAt [0x3A, 1, 2]) (node [0x3A, 1, 2] trapTile) (node [0x3A, 1, 2] trapTile) (issues_of (by decide +kernel))).2.2.2.1 (by decide +kernel)

theorem wit_movtw (h : Obligations.MoveInstructions) : type_of% ((h 5 (insAt [0x3B, 7, 2]) (node [0x3B, 7, 2] trapTile) (node [0x3B, 7, 2] trapTile) (issues_of _)).2.2.2.2.1 _ _) :=
  (h 5 (insAt [0x3B, 7, 2]) (node [0x3B, 7, 2] trapTile) (node [0x3B, 7, 2] trapTile) (issues_of (by decide +kernel))).2.2.2.2.1 (by decide +kernel) (by decide +kernel)

theorem wit_rdsys (h : Obligations.MoveInstructions) : type_of% ((h 5 (insAt [0x3C, 1, 0, 6]) (node [0x3C, 1, 0, 6]) (node [0x3C, 1, 0, 6]) (issues_of _)).2.2.2.2.2.1 _) :=
  (h 5 (insAt [0x3C, 1, 0, 6]) (node [0x3C, 1, 0, 6]) (node [0x3C, 1, 0, 6]) (issues_of (by decide +kernel))).2.2.2.2.2.1 (by decide +kernel)

theorem wit_rdsys2 (h : Obligations.MoveInstructions) : type_of% ((h 5 (insAt [0x3C, 1, 0, 3]) (node [0x3C, 1, 0, 3]) (node [0x3C, 1, 0, 3]) (issues_of _)).2.2.2.2.2.1 _) :=
  (h 5 (insAt [0x3C, 1, 0, 3]) (node [0x3C, 1, 0, 3]) (node [0x3C, 1, 0, 3]) (issues_of (by decide +kernel))).2.2.2.2.2.1 (by decide +kernel)

theorem wit_vbcast (h : Obligations.MoveInstructions) : type_of% ((h 5 (insAt [0x80, 1, 2]) (node [0x80, 1, 2]) (node [0x80, 1, 2]) (issues_of _)).2.2.2.2.2.2.1 _ _) :=
  (h 5 (insAt [0x80, 1, 2]) (node [0x80, 1, 2]) (node [0x80, 1, 2]) (issues_of (by decide +kernel))).2.2.2.2.2.2.1 (by decide +kernel) (by decide +kernel)

theorem wit_vext (h : Obligations.MoveInstructions) : type_of% ((h 5 (insAt [0x81, 1, 2, 63]) (node [0x81, 1, 2, 63]) (node [0x81, 1, 2, 63]) (issues_of _)).2.2.2.2.2.2.2.1 _ _) :=
  (h 5 (insAt [0x81, 1, 2, 63]) (node [0x81, 1, 2, 63]) (node [0x81, 1, 2, 63]) (issues_of (by decide +kernel))).2.2.2.2.2.2.2.1 (by decide +kernel) (by decide +kernel)

theorem wit_vins (h : Obligations.MoveInstructions) : type_of% ((h 5 (insAt [0x82, 1, 2, 63]) (node [0x82, 1, 2, 63]) (node [0x82, 1, 2, 63]) (issues_of _)).2.2.2.2.2.2.2.2.1 _ _) :=
  (h 5 (insAt [0x82, 1, 2, 63]) (node [0x82, 1, 2, 63]) (node [0x82, 1, 2, 63]) (issues_of (by decide +kernel))).2.2.2.2.2.2.2.2.1 (by decide +kernel) (by decide +kernel)

theorem wit_vred (h : Obligations.MoveInstructions) : type_of% ((h 5 (insAt [0x83, 1, 2, 3]) (node [0x83, 1, 2, 3]) (node [0x83, 1, 2, 3]) (issues_of _)).2.2.2.2.2.2.2.2.2 _ _) :=
  (h 5 (insAt [0x83, 1, 2, 3]) (node [0x83, 1, 2, 3]) (node [0x83, 1, 2, 3]) (issues_of (by decide +kernel))).2.2.2.2.2.2.2.2.2 (by decide +kernel) (by decide +kernel)

/-! ### Witnesses: ControlInstructions -/

theorem wit_nop (h : Obligations.ControlInstructions) : type_of% ((h.1 5 (insAt [0x00]) (node [0x00]) (node [0x00]) (issues_of _)).1 _) :=
  (h.1 5 (insAt [0x00]) (node [0x00]) (node [0x00]) (issues_of (by decide +kernel))).1 (by decide +kernel)

theorem wit_done (h : Obligations.ControlInstructions) : type_of% ((h.1 5 (insAt [0x01]) (node [0x01]) (node [0x01]) (issues_of _)).2.1 _) :=
  (h.1 5 (insAt [0x01]) (node [0x01]) (node [0x01]) (issues_of (by decide +kernel))).2.1 (by decide +kernel)

theorem wit_br (h : Obligations.ControlInstructions) : type_of% ((h.1 5 (insAt [0x04, 0x10, 0]) (node [0x04, 0x10, 0]) (node [0x04, 0x10, 0]) (issues_of _)).2.2.1 _ _) :=
  (h.1 5 (insAt [0x04, 0x10, 0]) (node [0x04, 0x10, 0]) (node [0x04, 0x10, 0]) (issues_of (by decide +kernel))).2.2.1 (by decide +kernel) (by decide +kernel)

theorem wit_jr (h : Obligations.ControlInstructions) : type_of% ((h.1 5 (insAt [0x07, 3]) (node [0x07, 3]) (node [0x07, 3]) (issues_of _)).2.2.2.1 _ _ _) :=
  (h.1 5 (insAt [0x07, 3]) (node [0x07, 3]) (node [0x07, 3]) (issues_of (by decide +kernel))).2.2.2.1 (by decide +kernel) (by decide +kernel) (by decide +kernel)

theorem wit_rett (h : Obligations.ControlInstructions) : type_of% ((h.1 5 (insAt [0x03]) (node [0x03] trapTile) (node [0x03] trapTile) (issues_of _)).2.2.2.2.1 _ _) :=
  (h.1 5 (insAt [0x03]) (node [0x03] trapTile) (node [0x03] trapTile) (issues_of (by decide +kernel))).2.2.2.2.1 (by decide +kernel) (by decide +kernel)

theorem wit_trap (h : Obligations.ControlInstructions) : type_of% ((h.1 5 (insAt [0x08, 7]) (node [0x08, 7]) (node [0x08, 7]) (issues_of _)).2.2.2.2.2.1 _ _ _) :=
  (h.1 5 (insAt [0x08, 7]) (node [0x08, 7]) (node [0x08, 7]) (issues_of (by decide +kernel))).2.2.2.2.2.1 (by decide +kernel) (by decide +kernel) (by decide +kernel)

theorem wit_fence (h : Obligations.ControlInstructions) : type_of% ((h.1 5 (insAt [0x09]) (node [0x09]) (node [0x09]) (issues_of _)).2.2.2.2.2.2 _ _) :=
  (h.1 5 (insAt [0x09]) (node [0x09]) (node [0x09]) (issues_of (by decide +kernel))).2.2.2.2.2.2 (by decide +kernel) (by decide +kernel)

theorem wit_call (h : Obligations.ControlInstructions) : type_of% ((h.2 5 (insAt [0x05, 0, 0, 0, 0, 0x10, 0]) (node [0x05, 0, 0, 0, 0, 0x10, 0]) (node [0x05, 0, 0, 0, 0, 0x10, 0]) (issues_of _) _ _).1 _ _ _ _ _ _) :=
  (h.2 5 (insAt [0x05, 0, 0, 0, 0, 0x10, 0]) (node [0x05, 0, 0, 0, 0, 0x10, 0]) (node [0x05, 0, 0, 0, 0, 0x10, 0]) (issues_of (by decide +kernel)) (by decide +kernel) (by decide +kernel)).1 (by decide +kernel) (by decide +kernel) (by decide +kernel) (by decide +kernel) (by decide +kernel) (by decide +kernel)

theorem wit_callr (h : Obligations.ControlInstructions) : type_of% ((h.2 5 (insAt [0x06, 0, 0, 0, 0, 3]) (node [0x06, 0, 0, 0, 0, 3]) (node [0x06, 0, 0, 0, 0, 3]) (issues_of _) _ _).2.1 _ _ _ _ _ _ _) :=
  (h.2 5 (insAt [0x06, 0, 0, 0, 0, 3]) (node [0x06, 0, 0, 0, 0, 3]) (node [0x06, 0, 0, 0, 0, 3]) (issues_of (by decide +kernel)) (by decide +kernel) (by decide +kernel)).2.1 (by decide +kernel) (by decide +kernel) (by decide +kernel) (by decide +kernel) (by decide +kernel) (by decide +kernel) (by decide +kernel)

theorem wit_call_limit (h : Obligations.ControlInstructions) : type_of% ((h.2 5 (insAt [0x05, 0xFF, 0xFF, 0xFF, 0xFF, 0x10, 0]) (node [0x05, 0xFF, 0xFF, 0xFF, 0xFF, 0x10, 0]) (node [0x05, 0xFF, 0xFF, 0xFF, 0xFF, 0x10, 0]) (issues_of _) _ _).2.2.1 _ _ _ _) :=
  (h.2 5 (insAt [0x05, 0xFF, 0xFF, 0xFF, 0xFF, 0x10, 0]) (node [0x05, 0xFF, 0xFF, 0xFF, 0xFF, 0x10, 0]) (node [0x05, 0xFF, 0xFF, 0xFF, 0xFF, 0x10, 0]) (issues_of (by decide +kernel)) (by decide +kernel) (by decide +kernel)).2.2.1 (by decide +kernel) (by decide +kernel) (by decide +kernel) (by decide +kernel)

theorem wit_ret (h : Obligations.ControlInstructions) : type_of% ((h.2 5 (insAt [0x02]) (node [0x02] calledTile) (node [0x02] calledTile) (issues_of _) _ _).2.2.2 0x20 _ _ _ _ _ _) :=
  (h.2 5 (insAt [0x02]) (node [0x02] calledTile) (node [0x02] calledTile) (issues_of (by decide +kernel)) (by decide +kernel) (by decide +kernel)).2.2.2 0x20 (by decide +kernel) (by decide +kernel) (by decide +kernel) (by decide +kernel) (by decide +kernel) (by decide +kernel)

/-! ### Witnesses: OwnFrameAccesses -/

theorem wit_ld (h : Obligations.OwnFrameAccesses) : type_of% ((h 5 24 (insAt [0x50, 1, 2]) (node [0x50, 1, 2]) (node [0x50, 1, 2]) (issues_of _) _ _ _).1 _ _) :=
  (h 5 24 (insAt [0x50, 1, 2]) (node [0x50, 1, 2]) (node [0x50, 1, 2]) (issues_of (by decide +kernel)) (by decide +kernel) (by decide +kernel) (by decide +kernel)).1 (by decide +kernel) (by decide +kernel)

theorem wit_ld_vec (h : Obligations.OwnFrameAccesses) : type_of% ((h 5 256 (insAt [0xF4, 0x50, 1, 31]) (node [0xF4, 0x50, 1, 31]) (node [0xF4, 0x50, 1, 31]) (issues_of _) _ _ _).2.1 _ _) :=
  (h 5 256 (insAt [0xF4, 0x50, 1, 31]) (node [0xF4, 0x50, 1, 31]) (node [0xF4, 0x50, 1, 31]) (issues_of (by decide +kernel)) (by decide +kernel) (by decide +kernel) (by decide +kernel)).2.1 (by decide +kernel) (by decide +kernel)

theorem wit_lds (h : Obligations.OwnFrameAccesses) : type_of% ((h 5 24 (insAt [0xF0, 0x51, 1, 2]) (node [0xF0, 0x51, 1, 2]) (node [0xF0, 0x51, 1, 2]) (issues_of _) _ _ _).2.2.1 _ _) :=
  (h 5 24 (insAt [0xF0, 0x51, 1, 2]) (node [0xF0, 0x51, 1, 2]) (node [0xF0, 0x51, 1, 2]) (issues_of (by decide +kernel)) (by decide +kernel) (by decide +kernel) (by decide +kernel)).2.2.1 (by decide +kernel) (by decide +kernel)

theorem wit_st (h : Obligations.OwnFrameAccesses) : type_of% ((h 5 24 (insAt [0x52, 1, 2]) (node [0x52, 1, 2]) (node [0x52, 1, 2]) (issues_of _) _ _ _).2.2.2.1 _ _) :=
  (h 5 24 (insAt [0x52, 1, 2]) (node [0x52, 1, 2]) (node [0x52, 1, 2]) (issues_of (by decide +kernel)) (by decide +kernel) (by decide +kernel) (by decide +kernel)).2.2.2.1 (by decide +kernel) (by decide +kernel)

theorem wit_st_vec (h : Obligations.OwnFrameAccesses) : type_of% ((h 5 256 (insAt [0xF4, 0x52, 1, 31]) (node [0xF4, 0x52, 1, 31]) (node [0xF4, 0x52, 1, 31]) (issues_of _) _ _ _).2.2.2.2.1 _ _) :=
  (h 5 256 (insAt [0xF4, 0x52, 1, 31]) (node [0xF4, 0x52, 1, 31]) (node [0xF4, 0x52, 1, 31]) (issues_of (by decide +kernel)) (by decide +kernel) (by decide +kernel) (by decide +kernel)).2.2.2.2.1 (by decide +kernel) (by decide +kernel)

theorem wit_aadd (h : Obligations.OwnFrameAccesses) : type_of% ((h 5 32 (insAt [0x53, 1, 2, 3]) (node [0x53, 1, 2, 3]) (node [0x53, 1, 2, 3]) (issues_of _) _ _ _).2.2.2.2.2 _ _ _) :=
  (h 5 32 (insAt [0x53, 1, 2, 3]) (node [0x53, 1, 2, 3]) (node [0x53, 1, 2, 3]) (issues_of (by decide +kernel)) (by decide +kernel) (by decide +kernel) (by decide +kernel)).2.2.2.2.2 (by decide +kernel) (by decide +kernel) (by decide +kernel)

/-! ### Witnesses: FrameWriteFrame -/

theorem wit_x_frame (h : Obligations.FrameWriteFrame) : type_of% (h (node []) 5 12 4 0xAABBCCDD false _ _ _) :=
  h (node []) 5 12 4 0xAABBCCDD false (by decide +kernel) (by decide +kernel) (by decide +kernel)

theorem wit_x_frame_bytes (h : Obligations.FrameWriteFrame) : type_of% ((h (node []) 5 8 8 0x1122334455667788 true _ _ _).1 7 (Or.inl _)) :=
  (h (node []) 5 8 8 0x1122334455667788 true (by decide +kernel) (by decide +kernel) (by decide +kernel)).1 7 (Or.inl (by decide +kernel))

theorem wit_x_frame_tiles (h : Obligations.FrameWriteFrame) : type_of% ((h (node []) 5 0 1 0xAA false _ _ _).2.2.2 6 _) :=
  (h (node []) 5 0 1 0xAA false (by decide +kernel) (by decide +kernel) (by decide +kernel)).2.2.2 6 (by decide +kernel)

/-! ### Witnesses: SendInstructions -/

theorem wit_send (h : Obligations.SendInstructions) : type_of% ((h 5 (insAt [0x60, 0xC1, 2, 5, 0]) (node [0x60, 0xC1, 2, 5, 0]) (node [0x60, 0xC1, 2, 5, 0]) (issues_of _) _).1 _ _) :=
  (h 5 (insAt [0x60, 0xC1, 2, 5, 0]) (node [0x60, 0xC1, 2, 5, 0]) (node [0x60, 0xC1, 2, 5, 0]) (issues_of (by decide +kernel)) (by decide +kernel)).1 (by decide +kernel) (by decide +kernel)

theorem wit_sends (h : Obligations.SendInstructions) : type_of% ((h 5 (insAt [0x61, 0x01, 2, 5, 0]) (node [0x61, 0x01, 2, 5, 0]) (node [0x61, 0x01, 2, 5, 0]) (issues_of _) _).2.1 _ _) :=
  (h 5 (insAt [0x61, 0x01, 2, 5, 0]) (node [0x61, 0x01, 2, 5, 0]) (node [0x61, 0x01, 2, 5, 0]) (issues_of (by decide +kernel)) (by decide +kernel)).2.1 (by decide +kernel) (by decide +kernel)

theorem wit_sendr (h : Obligations.SendInstructions) : type_of% ((h 5 (insAt [0x62, 1, 2]) (node [0x62, 1, 2]) (node [0x62, 1, 2]) (issues_of _) _).2.2.1 _ _ _) :=
  (h 5 (insAt [0x62, 1, 2]) (node [0x62, 1, 2]) (node [0x62, 1, 2]) (issues_of (by decide +kernel)) (by decide +kernel)).2.2.1 (by decide +kernel) (by decide +kernel) (by decide +kernel)

theorem wit_sendc (h : Obligations.SendInstructions) : type_of% ((h 5 (insAt [0x63, 2]) (node [0x63, 2]) (node [0x63, 2]) (issues_of _) _).2.2.2.1 _ _) :=
  (h 5 (insAt [0x63, 2]) (node [0x63, 2]) (node [0x63, 2]) (issues_of (by decide +kernel)) (by decide +kernel)).2.2.2.1 (by decide +kernel) (by decide +kernel)

theorem wit_x_enter_send (h : Obligations.SendInstructions) : type_of% ((h 5 (insAt [0x60, 0xC1, 2, 5, 0]) (node [0x60, 0xC1, 2, 5, 0]) (node [0x60, 0xC1, 2, 5, 0]) (issues_of _) _).2.2.2.2 0 {}) :=
  (h 5 (insAt [0x60, 0xC1, 2, 5, 0]) (node [0x60, 0xC1, 2, 5, 0]) (node [0x60, 0xC1, 2, 5, 0]) (issues_of (by decide +kernel)) (by decide +kernel)).2.2.2.2 0 {}

/-! ### Witnesses: RequestsOfNodes -/

theorem wit_ld_remote (h : Obligations.RequestsOfNodes) : type_of% ((h.1 5 0x381 { space := 2, off := 0x1000 } (insAt [0x50, 1, 2]) (node [0x50, 1, 2] hostG) (node [0x50, 1, 2] hostG) (issues_of _) _ _ _ _ _).1 _ _) :=
  (h.1 5 0x381 { space := 2, off := 0x1000 } (insAt [0x50, 1, 2]) (node [0x50, 1, 2] hostG) (node [0x50, 1, 2] hostG) (issues_of (by decide +kernel)) (by decide +kernel) (by decide +kernel) (by decide +kernel) (by decide +kernel) (by decide +kernel)).1 (by decide +kernel) (by decide +kernel)

theorem wit_ld_remote_vec (h : Obligations.RequestsOfNodes) : type_of% ((h.1 5 0x381 { space := 2, off := 0x1000 } (insAt [0xF4, 0x50, 1, 2]) (node [0xF4, 0x50, 1, 2] hostG) (node [0xF4, 0x50, 1, 2] hostG) (issues_of _) _ _ _ _ _).2.1 _ _) :=
  (h.1 5 0x381 { space := 2, off := 0x1000 } (insAt [0xF4, 0x50, 1, 2]) (node [0xF4, 0x50, 1, 2] hostG) (node [0xF4, 0x50, 1, 2] hostG) (issues_of (by decide +kernel)) (by decide +kernel) (by decide +kernel) (by decide +kernel) (by decide +kernel) (by decide +kernel)).2.1 (by decide +kernel) (by decide +kernel)

theorem wit_lds_remote (h : Obligations.RequestsOfNodes) : type_of% ((h.1 5 0x381 { space := 2, off := 0x1000 } (insAt [0xF0, 0x51, 1, 2]) (node [0xF0, 0x51, 1, 2] hostG) (node [0xF0, 0x51, 1, 2] hostG) (issues_of _) _ _ _ _ _).2.2.1 _ _) :=
  (h.1 5 0x381 { space := 2, off := 0x1000 } (insAt [0xF0, 0x51, 1, 2]) (node [0xF0, 0x51, 1, 2] hostG) (node [0xF0, 0x51, 1, 2] hostG) (issues_of (by decide +kernel)) (by decide +kernel) (by decide +kernel) (by decide +kernel) (by decide +kernel) (by decide +kernel)).2.2.1 (by decide +kernel) (by decide +kernel)

theorem wit_st_remote (h : Obligations.RequestsOfNodes) : type_of% ((h.1 5 9 { space := 0, slot := 2, gen := 4, vtile := 7, off := 0x10 } (insAt [0x52, 1, 2]) (node [0x52, 1, 2] remoteG) (node [0x52, 1, 2] remoteG) (issues_of _) _ _ _ _ _).2.2.2.1 _ _) :=
  (h.1 5 9 { space := 0, slot := 2, gen := 4, vtile := 7, off := 0x10 } (insAt [0x52, 1, 2]) (node [0x52, 1, 2] remoteG) (node [0x52, 1, 2] remoteG) (issues_of (by decide +kernel)) (by decide +kernel) (by decide +kernel) (by decide +kernel) (by decide +kernel) (by decide +kernel)).2.2.2.1 (by decide +kernel) (by decide +kernel)

theorem wit_aadd_remote (h : Obligations.RequestsOfNodes) : type_of% ((h.1 5 9 { space := 0, slot := 2, gen := 4, vtile := 7, off := 0x10 } (insAt [0x53, 1, 3, 2]) (node [0x53, 1, 3, 2] remoteG) (node [0x53, 1, 3, 2] remoteG) (issues_of _) _ _ _ _ _).2.2.2.2.1 _ _ _ _) :=
  (h.1 5 9 { space := 0, slot := 2, gen := 4, vtile := 7, off := 0x10 } (insAt [0x53, 1, 3, 2]) (node [0x53, 1, 3, 2] remoteG) (node [0x53, 1, 3, 2] remoteG) (issues_of (by decide +kernel)) (by decide +kernel) (by decide +kernel) (by decide +kernel) (by decide +kernel) (by decide +kernel)).2.2.2.2.1 (by decide +kernel) (by decide +kernel) (by decide +kernel) (by decide +kernel)

theorem wit_st_remote_vec (h : Obligations.RequestsOfNodes) : type_of% ((h.1 5 9 { space := 0, slot := 2, gen := 4, vtile := 7, off := 0x100 } (insAt [0xF4, 0x52, 1, 2]) (node [0xF4, 0x52, 1, 2] (fun t => { remoteG t with thread := { (remoteG t).thread with g := t.thread.g.set 2 ⟨0x100700100, false⟩ } })) (node [0xF4, 0x52, 1, 2] (fun t => { remoteG t with thread := { (remoteG t).thread with g := t.thread.g.set 2 ⟨0x100700100, false⟩ } })) (issues_of _) _ _ _ _ _).2.2.2.2.2.1 _ _ _) :=
  (h.1 5 9 { space := 0, slot := 2, gen := 4, vtile := 7, off := 0x100 } (insAt [0xF4, 0x52, 1, 2]) (node [0xF4, 0x52, 1, 2] (fun t => { remoteG t with thread := { (remoteG t).thread with g := t.thread.g.set 2 ⟨0x100700100, false⟩ } })) (node [0xF4, 0x52, 1, 2] (fun t => { remoteG t with thread := { (remoteG t).thread with g := t.thread.g.set 2 ⟨0x100700100, false⟩ } })) (issues_of (by decide +kernel)) (by decide +kernel) (by decide +kernel) (by decide +kernel) (by decide +kernel) (by decide +kernel)).2.2.2.2.2.1 (by decide +kernel) (by decide +kernel) (by decide +kernel)

theorem wit_st_host_vec (h : Obligations.RequestsOfNodes) : type_of% ((h.1 5 0x381 { space := 2, off := 0x1000 } (insAt [0xF4, 0x52, 1, 2]) (node [0xF4, 0x52, 1, 2] hostG) (node [0xF4, 0x52, 1, 2] hostG) (issues_of _) _ _ _ _ _).2.2.2.2.2.2 _ _ _) :=
  (h.1 5 0x381 { space := 2, off := 0x1000 } (insAt [0xF4, 0x52, 1, 2]) (node [0xF4, 0x52, 1, 2] hostG) (node [0xF4, 0x52, 1, 2] hostG) (issues_of (by decide +kernel)) (by decide +kernel) (by decide +kernel) (by decide +kernel) (by decide +kernel) (by decide +kernel)).2.2.2.2.2.2 (by decide +kernel) (by decide +kernel) (by decide +kernel)

theorem wit_ld_uncached (h : Obligations.RequestsOfNodes) : type_of% (h.2.1 5 7 0x10 (.ld 5) (insAt [0x50, 1, 2]) (node [0x50, 1, 2] uncachedG) (node [0x50, 1, 2] uncachedG) (issues_of _) _ _ _ _ _ _ (Or.inl _)) :=
  h.2.1 5 7 0x10 (.ld 5) (insAt [0x50, 1, 2]) (node [0x50, 1, 2] uncachedG) (node [0x50, 1, 2] uncachedG) (issues_of (by decide +kernel)) (by decide +kernel) (by decide +kernel) (by decide +kernel) (by decide +kernel) (by decide +kernel) (by decide +kernel) (Or.inl (by decide +kernel))

theorem wit_aadd_uncached (h : Obligations.RequestsOfNodes) : type_of% (h.2.1 5 7 0x10 (.aadd 5) (insAt [0x53, 1, 3, 2]) (node [0x53, 1, 3, 2] uncachedG) (node [0x53, 1, 3, 2] uncachedG) (issues_of _) _ _ _ _ _ _ (Or.inr (Or.inr (Or.inr _)))) :=
  h.2.1 5 7 0x10 (.aadd 5) (insAt [0x53, 1, 3, 2]) (node [0x53, 1, 3, 2] uncachedG) (node [0x53, 1, 3, 2] uncachedG) (issues_of (by decide +kernel)) (by decide +kernel) (by decide +kernel) (by decide +kernel) (by decide +kernel) (by decide +kernel) (by decide +kernel) (Or.inr (Or.inr (Or.inr (by decide +kernel))))

theorem wit_ctxa (h : Obligations.RequestsOfNodes) : type_of% ((h.2.2 5 (insAt [0x64, 1]) (node [0x64, 1]) (node [0x64, 1]) (issues_of _) _).1 _ _) :=
  (h.2.2 5 (insAt [0x64, 1]) (node [0x64, 1]) (node [0x64, 1]) (issues_of (by decide +kernel)) (by decide +kernel)).1 (by decide +kernel) (by decide +kernel)

theorem wit_ctxr (h : Obligations.RequestsOfNodes) : type_of% ((h.2.2 5 (insAt [0x65, 1, 2]) (node [0x65, 1, 2]) (node [0x65, 1, 2]) (issues_of _) _).2.1 _ _ _) :=
  (h.2.2 5 (insAt [0x65, 1, 2]) (node [0x65, 1, 2]) (node [0x65, 1, 2]) (issues_of (by decide +kernel)) (by decide +kernel)).2.1 (by decide +kernel) (by decide +kernel) (by decide +kernel)

theorem wit_spawn (h : Obligations.RequestsOfNodes) : type_of% (((h.2.2 5 (insAt [0x70, 1, 2, 3]) (node [0x70, 1, 2, 3]) (node [0x70, 1, 2, 3]) (issues_of _) _).2.2.1 _ _ _).1 _) :=
  ((h.2.2 5 (insAt [0x70, 1, 2, 3]) (node [0x70, 1, 2, 3]) (node [0x70, 1, 2, 3]) (issues_of (by decide +kernel)) (by decide +kernel)).2.2.1 (by decide +kernel) (by decide +kernel) (by decide +kernel)).1 (by decide +kernel)

theorem wit_spawn_try (h : Obligations.RequestsOfNodes) : type_of% (((h.2.2 5 (insAt [0x71, 1, 2, 3]) (node [0x71, 1, 2, 3]) (node [0x71, 1, 2, 3]) (issues_of _) _).2.2.1 _ _ _).2 _) :=
  ((h.2.2 5 (insAt [0x71, 1, 2, 3]) (node [0x71, 1, 2, 3]) (node [0x71, 1, 2, 3]) (issues_of (by decide +kernel)) (by decide +kernel)).2.2.1 (by decide +kernel) (by decide +kernel) (by decide +kernel)).2 (by decide +kernel)

theorem wit_lacq (h : Obligations.RequestsOfNodes) : type_of% (((h.2.2 5 (insAt [0x78, 1, 2]) (node [0x78, 1, 2]) (node [0x78, 1, 2]) (issues_of _) _).2.2.2 _ _).1 _) :=
  ((h.2.2 5 (insAt [0x78, 1, 2]) (node [0x78, 1, 2]) (node [0x78, 1, 2]) (issues_of (by decide +kernel)) (by decide +kernel)).2.2.2 (by decide +kernel) (by decide +kernel)).1 (by decide +kernel)

theorem wit_ltry (h : Obligations.RequestsOfNodes) : type_of% (((h.2.2 5 (insAt [0x79, 1, 2]) (node [0x79, 1, 2]) (node [0x79, 1, 2]) (issues_of _) _).2.2.2 _ _).2.1 _) :=
  ((h.2.2 5 (insAt [0x79, 1, 2]) (node [0x79, 1, 2]) (node [0x79, 1, 2]) (issues_of (by decide +kernel)) (by decide +kernel)).2.2.2 (by decide +kernel) (by decide +kernel)).2.1 (by decide +kernel)

theorem wit_lrel (h : Obligations.RequestsOfNodes) : type_of% (((h.2.2 5 (insAt [0x7A, 1, 2]) (node [0x7A, 1, 2]) (node [0x7A, 1, 2]) (issues_of _) _).2.2.2 _ _).2.2.1 _) :=
  ((h.2.2 5 (insAt [0x7A, 1, 2]) (node [0x7A, 1, 2]) (node [0x7A, 1, 2]) (issues_of (by decide +kernel)) (by decide +kernel)).2.2.2 (by decide +kernel) (by decide +kernel)).2.2.1 (by decide +kernel)

theorem wit_sacq (h : Obligations.RequestsOfNodes) : type_of% (((h.2.2 5 (insAt [0x7B, 1, 2]) (node [0x7B, 1, 2]) (node [0x7B, 1, 2]) (issues_of _) _).2.2.2 _ _).2.2.2.1 _) :=
  ((h.2.2 5 (insAt [0x7B, 1, 2]) (node [0x7B, 1, 2]) (node [0x7B, 1, 2]) (issues_of (by decide +kernel)) (by decide +kernel)).2.2.2 (by decide +kernel) (by decide +kernel)).2.2.2.1 (by decide +kernel)

theorem wit_srel (h : Obligations.RequestsOfNodes) : type_of% (((h.2.2 5 (insAt [0x7C, 1, 2]) (node [0x7C, 1, 2]) (node [0x7C, 1, 2]) (issues_of _) _).2.2.2 _ _).2.2.2.2 _) :=
  ((h.2.2 5 (insAt [0x7C, 1, 2]) (node [0x7C, 1, 2]) (node [0x7C, 1, 2]) (issues_of (by decide +kernel)) (by decide +kernel)).2.2.2 (by decide +kernel) (by decide +kernel)).2.2.2.2 (by decide +kernel)

/-! ### Witnesses: WaitsAndNodeEnds -/

theorem wit_take (h : Obligations.WaitsAndNodeEnds) : type_of% ((h.1.1 5 (insAt [0x72, 1, 2, 4]) (node [0x72, 1, 2, 4]) (node [0x72, 1, 2, 4]) (issues_of _) _).1 _ _) :=
  (h.1.1 5 (insAt [0x72, 1, 2, 4]) (node [0x72, 1, 2, 4]) (node [0x72, 1, 2, 4]) (issues_of (by decide +kernel)) (by decide +kernel)).1 (by decide +kernel) (by decide +kernel)

theorem wit_complete (h : Obligations.WaitsAndNodeEnds) : type_of% ((h.1.1 5 (insAt [0x73, 1, 2]) (node [0x73, 1, 2]) (node [0x73, 1, 2]) (issues_of _) _).2.1 _ _ _ _) :=
  (h.1.1 5 (insAt [0x73, 1, 2]) (node [0x73, 1, 2]) (node [0x73, 1, 2]) (issues_of (by decide +kernel)) (by decide +kernel)).2.1 (by decide +kernel) (by decide +kernel) (by decide +kernel) (by decide +kernel)

theorem wit_lockstep (h : Obligations.WaitsAndNodeEnds) : type_of% ((h.1.1 5 (insAt [0x74, 1, 0x10, 0]) (node [0x74, 1, 0x10, 0]) (node [0x74, 1, 0x10, 0]) (issues_of _) _).2.2.1 _ _) :=
  (h.1.1 5 (insAt [0x74, 1, 0x10, 0]) (node [0x74, 1, 0x10, 0]) (node [0x74, 1, 0x10, 0]) (issues_of (by decide +kernel)) (by decide +kernel)).2.2.1 (by decide +kernel) (by decide +kernel)

theorem wit_waitev (h : Obligations.WaitsAndNodeEnds) : type_of% ((h.1.1 5 (insAt [0x7D, 1, 0, 3]) (node [0x7D, 1, 0, 3]) (node [0x7D, 1, 0, 3]) (issues_of _) _).2.2.2.1 _ _ _ _) :=
  (h.1.1 5 (insAt [0x7D, 1, 0, 3]) (node [0x7D, 1, 0, 3]) (node [0x7D, 1, 0, 3]) (issues_of (by decide +kernel)) (by decide +kernel)).2.2.2.1 (by decide +kernel) (by decide +kernel) (by decide +kernel) (by decide +kernel)

theorem wit_waitev_now (h : Obligations.WaitsAndNodeEnds) : type_of% ((h.1.1 5 (insAt [0x7D, 1, 0, 3]) (node [0x7D, 1, 0, 3] eventTile) (node [0x7D, 1, 0, 3] eventTile) (issues_of _) _).2.2.2.2 _ _ _ _ _) :=
  (h.1.1 5 (insAt [0x7D, 1, 0, 3]) (node [0x7D, 1, 0, 3] eventTile) (node [0x7D, 1, 0, 3] eventTile) (issues_of (by decide +kernel)) (by decide +kernel)).2.2.2.2 (by decide +kernel) (by decide +kernel) (by decide +kernel) (by decide +kernel) (by decide +kernel)

theorem wit_waitev_timeout (h : Obligations.WaitsAndNodeEnds) : type_of% (h.1.2.1 5 1 2 100000 (nodeTh [] (fun t => { t with block := some (.waitEv 1 2 (some 100000)) })) _ _ _) :=
  h.1.2.1 5 1 2 100000 (nodeTh [] (fun t => { t with block := some (.waitEv 1 2 (some 100000)) })) (by decide +kernel) (by decide +kernel) (by decide +kernel)

theorem wit_take_timeout (h : Obligations.WaitsAndNodeEnds) : type_of% (h.1.2.2 5 1 7 100000 (nodeTh [] (fun t => { t with block := some (.take 1 7 (some 100000) false) })) _ _ _ _) :=
  h.1.2.2 5 1 7 100000 (nodeTh [] (fun t => { t with block := some (.take 1 7 (some 100000) false) })) (by decide +kernel) (by decide +kernel) (by decide +kernel) (by decide +kernel)

theorem wit_skipped (h : Obligations.WaitsAndNodeEnds) : type_of% (h.2.1 5 (insAt [0xF9, 0x10, 1, 2, 3]) (node [0xF9, 0x10, 1, 2, 3]) .add 1 true _ _ _ _ _ _ (fetchLines_clean _ _ _ _ _ _)) :=
  h.2.1 5 (insAt [0xF9, 0x10, 1, 2, 3]) (node [0xF9, 0x10, 1, 2, 3]) .add 1 true (by decide +kernel) (by decide +kernel) (by decide +kernel) (by decide +kernel) (by decide +kernel) (by decide +kernel) (fetchLines_clean _ _ _ _ (by decide +kernel) (by decide +kernel))

theorem wit_abandoned (h : Obligations.WaitsAndNodeEnds) : type_of% (h.2.2 5 (insAt [0x10, 1, 2, 3]) (node [0x10, 1, 2, 3] poisonTile) (node [0x10, 1, 2, 3] poisonTile) .add (issues_of _) _ _ _ _) :=
  h.2.2 5 (insAt [0x10, 1, 2, 3]) (node [0x10, 1, 2, 3] poisonTile) (node [0x10, 1, 2, 3] poisonTile) .add (issues_of (by decide +kernel)) (by decide +kernel) (by decide +kernel) (by decide +kernel) (by decide +kernel)

/-! ### Witnesses: RegisterInstructionsFrame -/

theorem wit_x_mov_frame (h : Obligations.RegisterInstructionsFrame) : type_of% (h 5 (.mov 5) (node [0x38, 1, 2]) _ (Or.inr (Or.inr (Or.inr (Or.inr _)))) (movs 5 (node [0x38, 1, 2]))) :=
  h 5 (.mov 5) (node [0x38, 1, 2]) _ (Or.inr (Or.inr (Or.inr (Or.inr (by decide +kernel))))) (movs 5 (node [0x38, 1, 2]))

/-! ### Witnesses: TokenArrival -/

theorem wit_tok_arrive (h : Obligations.TokenArrival) : type_of% ((h.1 (matchSt false []) 5 36 1 1 [tok 0 0, tok 1 0] true none { cls := 1, dest := 5, src := 36, part := 1, tag := 0, body := .tokens 1 [tok 0 0, tok 1 0] true } _ rfl _).1 _ _ _ _) :=
  (h.1 (matchSt false []) 5 36 1 1 [tok 0 0, tok 1 0] true none { cls := 1, dest := 5, src := 36, part := 1, tag := 0, body := .tokens 1 [tok 0 0, tok 1 0] true } (by decide +kernel) rfl (by decide +kernel)).1 (by decide +kernel) (by decide +kernel) (by decide +kernel) (by decide +kernel)

theorem wit_tok_arrive_start (h : Obligations.TokenArrival) : type_of% ((h.1 (matchSt false (List.replicate 2044 ⟨tok 0 0, 36⟩)) 5 36 1 1 [tok 0 0] false (some 7) { cls := 1, dest := 5, src := 36, part := 1, tag := 0, body := .actTokens 1 [tok 0 0] 7 } _ rfl _).1 _ _ _ _) :=
  (h.1 (matchSt false (List.replicate 2044 ⟨tok 0 0, 36⟩)) 5 36 1 1 [tok 0 0] false (some 7) { cls := 1, dest := 5, src := 36, part := 1, tag := 0, body := .actTokens 1 [tok 0 0] 7 } (by decide +kernel) rfl (by decide +kernel)).1 (by decide +kernel) (by decide +kernel) (by decide +kernel) (by decide +kernel)

theorem wit_tok_excluded (h : Obligations.TokenArrival) : type_of% ((h.1 (matchSt false [] (fun t => { t with excluded := true })) 5 36 1 1 [tok 0 0] true none { cls := 1, dest := 5, src := 36, part := 1, tag := 0, body := .tokens 1 [tok 0 0] true } _ rfl _).2.1 _ _) :=
  (h.1 (matchSt false [] (fun t => { t with excluded := true })) 5 36 1 1 [tok 0 0] true none { cls := 1, dest := 5, src := 36, part := 1, tag := 0, body := .tokens 1 [tok 0 0] true } (by decide +kernel) rfl (by decide +kernel)).2.1 (by decide +kernel) (by decide +kernel)

theorem wit_tok_no_tile (h : Obligations.TokenArrival) : type_of% ((h.1 (matchSt false []) 0x301 36 1 1 [tok 0 0] false none { cls := 1, dest := 0x301, src := 36, part := 1, tag := 0, body := .tokens 1 [tok 0 0] false } _ rfl _).2.2 _ _) :=
  (h.1 (matchSt false []) 0x301 36 1 1 [tok 0 0] false none { cls := 1, dest := 0x301, src := 36, part := 1, tag := 0, body := .tokens 1 [tok 0 0] false } (by decide +kernel) rfl (by decide +kernel)).2.2 (by decide +kernel) (by decide +kernel)

theorem wit_tok_checked (h : Obligations.TokenArrival) : type_of% ((h.2.1 (matchSt false []) 5 36 1 1 none (tok 0 0)).1 _) :=
  (h.2.1 (matchSt false []) 5 36 1 1 none (tok 0 0)).1 (by decide +kernel)

theorem wit_tok_stale (h : Obligations.TokenArrival) : type_of% ((h.2.1 (matchSt false []) 5 36 1 2 (some 7) (tok 0 0)).2 0x0A4 _) :=
  (h.2.1 (matchSt false []) 5 36 1 2 (some 7) (tok 0 0)).2 0x0A4 (by decide +kernel)

theorem wit_check_kind (h : Obligations.TokenArrival) : type_of% ((h.2.2 (tileAt (matchSt false []) 5) (tok 0 3) 1 1).1 _) :=
  (h.2.2 (tileAt (matchSt false []) 5) (tok 0 3) 1 1).1 (by decide +kernel)

theorem wit_token_part (h : Obligations.TokenArrival) : type_of% ((h.2.2 (tileAt (matchSt false []) 5) (tok 0 0) 2 1).2.1 _ (Or.inl _)) :=
  (h.2.2 (tileAt (matchSt false []) 5) (tok 0 0) 2 1).2.1 (by decide +kernel) (Or.inl (by decide +kernel))

theorem wit_check_gen (h : Obligations.TokenArrival) : type_of% ((h.2.2 (tileAt (matchSt false []) 5) (tok 0 0) 1 2).2.2.1 _ _ _) :=
  (h.2.2 (tileAt (matchSt false []) 5) (tok 0 0) 1 2).2.2.1 (by decide +kernel) (by decide +kernel) (by decide +kernel)

theorem wit_check_control (h : Obligations.TokenArrival) : type_of% ((h.2.2 (tileAt (matchSt false []) 5) (ctlTok false).tok 1 9).2.2.2 _ _ _ _) :=
  (h.2.2 (tileAt (matchSt false []) 5) (ctlTok false).tok 1 9).2.2.2 (by decide +kernel) (by decide +kernel) (by decide +kernel) (by decide +kernel)

/-! ### Witnesses: MatchingOfTokens -/

theorem wit_match_no_binding (h : Obligations.MatchingOfTokens) : type_of% ((h.1 (matchSt false [⟨tok 0 0, 36⟩] (fun t => { t with bindings := [{}, {}, {}, {}] })) (nodeLookup (matchSt false [⟨tok 0 0, 36⟩] (fun t => { t with bindings := [{}, {}, {}, {}] })) 5 (tok 0 0) 36).1 5 ⟨(tok 0 0), 36⟩ [] (Or.inl _)).1 ⟨_, _, pair_of _⟩) :=
  (h.1 (matchSt false [⟨tok 0 0, 36⟩] (fun t => { t with bindings := [{}, {}, {}, {}] })) (nodeLookup (matchSt false [⟨tok 0 0, 36⟩] (fun t => { t with bindings := [{}, {}, {}, {}] })) 5 (tok 0 0) 36).1 5 ⟨(tok 0 0), 36⟩ [] (Or.inl (by decide +kernel))).1 ⟨(by decide +kernel), (by decide +kernel), pair_of (by decide +kernel)⟩

theorem wit_match_port (h : Obligations.MatchingOfTokens) : type_of% (((h.1 (matchSt false [⟨tok 3 0, 36⟩]) (nodeLookup (matchSt false [⟨tok 3 0, 36⟩]) 5 (tok 3 0) 36).1 5 ⟨(tok 3 0), 36⟩ [] (Or.inl _)).2 (ntWord false) ⟨_, _, pair_of _⟩).1 _) :=
  ((h.1 (matchSt false [⟨tok 3 0, 36⟩]) (nodeLookup (matchSt false [⟨tok 3 0, 36⟩]) 5 (tok 3 0) 36).1 5 ⟨(tok 3 0), 36⟩ [] (Or.inl (by decide +kernel))).2 (ntWord false) ⟨(by decide +kernel), (by decide +kernel), pair_of (by decide +kernel)⟩).1 (by decide +kernel)

theorem wit_match_sticky_port (h : Obligations.MatchingOfTokens) : type_of% (((h.1 (matchSt true [⟨tok 1 0, 36⟩]) (nodeLookup (matchSt true [⟨tok 1 0, 36⟩]) 5 (tok 1 0) 36).1 5 ⟨(tok 1 0), 36⟩ [] (Or.inl _)).2 (ntWord true) ⟨_, _, pair_of _⟩).2.1 _ _) :=
  ((h.1 (matchSt true [⟨tok 1 0, 36⟩]) (nodeLookup (matchSt true [⟨tok 1 0, 36⟩]) 5 (tok 1 0) 36).1 5 ⟨(tok 1 0), 36⟩ [] (Or.inl (by decide +kernel))).2 (ntWord true) ⟨(by decide +kernel), (by decide +kernel), pair_of (by decide +kernel)⟩).2.1 (by decide +kernel) (by decide +kernel)

theorem wit_match_returned (h : Obligations.MatchingOfTokens) : type_of% ((((h.1 (matchSt false [⟨tok 0 3, 36⟩]) (nodeLookup (matchSt false [⟨tok 0 3, 36⟩]) 5 (tok 0 3) 36).1 5 ⟨(tok 0 3), 36⟩ [] (Or.inr _)).2 (ntWord false) ⟨_, _, pair_of _⟩).2.2 _ _).1 (Or.inl _)) :=
  (((h.1 (matchSt false [⟨tok 0 3, 36⟩]) (nodeLookup (matchSt false [⟨tok 0 3, 36⟩]) 5 (tok 0 3) 36).1 5 ⟨(tok 0 3), 36⟩ [] (Or.inr (by decide +kernel))).2 (ntWord false) ⟨(by decide +kernel), (by decide +kernel), pair_of (by decide +kernel)⟩).2.2 (by decide +kernel) (by decide +kernel)).1 (Or.inl (by decide +kernel))

theorem wit_match_new (h : Obligations.MatchingOfTokens) : type_of% ((((h.1 (matchSt false [⟨tok 0 0, 36⟩]) (nodeLookup (matchSt false [⟨tok 0 0, 36⟩]) 5 (tok 0 0) 36).1 5 ⟨(tok 0 0), 36⟩ [] (Or.inl _)).2 (ntWord false) ⟨_, _, pair_of _⟩).2.2 _ _).2.1 (filterTest (nodeLookup (matchSt false [⟨tok 0 0, 36⟩]) 5 (tok 0 0) 36).1 5 (tok 0 0)).1 _ _ (pair_of _)) :=
  (((h.1 (matchSt false [⟨tok 0 0, 36⟩]) (nodeLookup (matchSt false [⟨tok 0 0, 36⟩]) 5 (tok 0 0) 36).1 5 ⟨(tok 0 0), 36⟩ [] (Or.inl (by decide +kernel))).2 (ntWord false) ⟨(by decide +kernel), (by decide +kernel), pair_of (by decide +kernel)⟩).2.2 (by decide +kernel) (by decide +kernel)).2.1 (filterTest (nodeLookup (matchSt false [⟨tok 0 0, 36⟩]) 5 (tok 0 0) 36).1 5 (tok 0 0)).1 (by decide +kernel) (by decide +kernel) (pair_of (by decide +kernel))

theorem wit_match_filter_waits (h : Obligations.MatchingOfTokens) : type_of% ((((h.1 (matchSt false [⟨tok 0 0, 36⟩] (filtTile 29)) (nodeLookup (matchSt false [⟨tok 0 0, 36⟩] (filtTile 29)) 5 (tok 0 0) 36).1 5 ⟨(tok 0 0), 36⟩ [] (Or.inl _)).2 (ntWord false) ⟨_, _, pair_of _⟩).2.2 _ _).2.2 (filterTest (nodeLookup (matchSt false [⟨tok 0 0, 36⟩] (filtTile 29)) 5 (tok 0 0) 36).1 5 (tok 0 0)).1 _ _ (pair_of _)) :=
  (((h.1 (matchSt false [⟨tok 0 0, 36⟩] (filtTile 29)) (nodeLookup (matchSt false [⟨tok 0 0, 36⟩] (filtTile 29)) 5 (tok 0 0) 36).1 5 ⟨(tok 0 0), 36⟩ [] (Or.inl (by decide +kernel))).2 (ntWord false) ⟨(by decide +kernel), (by decide +kernel), pair_of (by decide +kernel)⟩).2.2 (by decide +kernel) (by decide +kernel)).2.2 (filterTest (nodeLookup (matchSt false [⟨tok 0 0, 36⟩] (filtTile 29)) 5 (tok 0 0) 36).1 5 (tok 0 0)).1 (by decide +kernel) (by decide +kernel) (pair_of (by decide +kernel))

theorem wit_match_filter_fetches (h : Obligations.MatchingOfTokens) : type_of% ((((h.1 (matchSt false [⟨tok 0 0, 36⟩] (filtTile 28)) (nodeLookup (matchSt false [⟨tok 0 0, 36⟩] (filtTile 28)) 5 (tok 0 0) 36).1 5 ⟨(tok 0 0), 36⟩ [] (Or.inl _)).2 (ntWord false) ⟨_, _, pair_of _⟩).2.2 _ _).2.1 (filterTest (nodeLookup (matchSt false [⟨tok 0 0, 36⟩] (filtTile 28)) 5 (tok 0 0) 36).1 5 (tok 0 0)).1 _ _ (pair_of _)) :=
  (((h.1 (matchSt false [⟨tok 0 0, 36⟩] (filtTile 28)) (nodeLookup (matchSt false [⟨tok 0 0, 36⟩] (filtTile 28)) 5 (tok 0 0) 36).1 5 ⟨(tok 0 0), 36⟩ [] (Or.inl (by decide +kernel))).2 (ntWord false) ⟨(by decide +kernel), (by decide +kernel), pair_of (by decide +kernel)⟩).2.2 (by decide +kernel) (by decide +kernel)).2.1 (filterTest (nodeLookup (matchSt false [⟨tok 0 0, 36⟩] (filtTile 28)) 5 (tok 0 0) 36).1 5 (tok 0 0)).1 (by decide +kernel) (by decide +kernel) (pair_of (by decide +kernel))

theorem wit_match_fire (h : Obligations.MatchingOfTokens) : type_of% (((h.2.1 (matchSt false [⟨tok 0 0, 36⟩, ⟨tok 1 0, 36⟩] (stored 1)) (if ntArity (ntWord false) = 1 then (matchSt false [⟨tok 0 0, 36⟩, ⟨tok 1 0, 36⟩] (stored 1)) else meetLookup (matchSt false [⟨tok 0 0, 36⟩, ⟨tok 1 0, 36⟩] (stored 1)) 5 (setIndex (instKey (tok 0 0).tag) false) (if ntSticky (ntWord false) = 0 then setIndex (instKey (tok 0 0).tag) false else setIndex (stickyKey (instKey (tok 0 0).tag)) true)) 5 36 (ntWord false) (tok 0 0) _ rfl).1 ((partners (tileAt (matchSt false [⟨tok 0 0, 36⟩, ⟨tok 1 0, 36⟩] (stored 1)) 5) (ntWord false) (instKey (tok 0 0).tag) (tagPort (tok 0 0).tag) (ntArity (ntWord false))).getD []) { level := bits (ntWord false) 12 10, tag := BitVec.ofNat 64 (16 * instKey (tok 0 0).tag), entry := 4 * bits (ntWord false) 31 17, ops := operandsOf (tagPort (tok 0 0).tag) ⟨(tok 0 0).val, (tok 0 0).poison⟩ ((partners (tileAt (matchSt false [⟨tok 0 0, 36⟩, ⟨tok 1 0, 36⟩] (stored 1)) 5) (ntWord false) (instKey (tok 0 0).tag) (tagPort (tok 0 0).tag) (ntArity (ntWord false))).getD []) (ntArity (ntWord false)) } _ rfl).2.2.2.1 _) :=
  ((h.2.1 (matchSt false [⟨tok 0 0, 36⟩, ⟨tok 1 0, 36⟩] (stored 1)) (if ntArity (ntWord false) = 1 then (matchSt false [⟨tok 0 0, 36⟩, ⟨tok 1 0, 36⟩] (stored 1)) else meetLookup (matchSt false [⟨tok 0 0, 36⟩, ⟨tok 1 0, 36⟩] (stored 1)) 5 (setIndex (instKey (tok 0 0).tag) false) (if ntSticky (ntWord false) = 0 then setIndex (instKey (tok 0 0).tag) false else setIndex (stickyKey (instKey (tok 0 0).tag)) true)) 5 36 (ntWord false) (tok 0 0) (by decide +kernel) rfl).1 ((partners (tileAt (matchSt false [⟨tok 0 0, 36⟩, ⟨tok 1 0, 36⟩] (stored 1)) 5) (ntWord false) (instKey (tok 0 0).tag) (tagPort (tok 0 0).tag) (ntArity (ntWord false))).getD []) { level := bits (ntWord false) 12 10, tag := BitVec.ofNat 64 (16 * instKey (tok 0 0).tag), entry := 4 * bits (ntWord false) 31 17, ops := operandsOf (tagPort (tok 0 0).tag) ⟨(tok 0 0).val, (tok 0 0).poison⟩ ((partners (tileAt (matchSt false [⟨tok 0 0, 36⟩, ⟨tok 1 0, 36⟩] (stored 1)) 5) (ntWord false) (instKey (tok 0 0).tag) (tagPort (tok 0 0).tag) (ntArity (ntWord false))).getD []) (ntArity (ntWord false)) } (by decide +kernel) rfl).2.2.2.1 (by decide +kernel)

theorem wit_match_fire_tiles (h : Obligations.MatchingOfTokens) : type_of% (((h.2.1 (matchSt false [⟨tok 0 0, 36⟩, ⟨tok 1 0, 36⟩] (stored 1)) (if ntArity (ntWord false) = 1 then (matchSt false [⟨tok 0 0, 36⟩, ⟨tok 1 0, 36⟩] (stored 1)) else meetLookup (matchSt false [⟨tok 0 0, 36⟩, ⟨tok 1 0, 36⟩] (stored 1)) 5 (setIndex (instKey (tok 0 0).tag) false) (if ntSticky (ntWord false) = 0 then setIndex (instKey (tok 0 0).tag) false else setIndex (stickyKey (instKey (tok 0 0).tag)) true)) 5 36 (ntWord false) (tok 0 0) _ rfl).1 ((partners (tileAt (matchSt false [⟨tok 0 0, 36⟩, ⟨tok 1 0, 36⟩] (stored 1)) 5) (ntWord false) (instKey (tok 0 0).tag) (tagPort (tok 0 0).tag) (ntArity (ntWord false))).getD []) { level := bits (ntWord false) 12 10, tag := BitVec.ofNat 64 (16 * instKey (tok 0 0).tag), entry := 4 * bits (ntWord false) 31 17, ops := operandsOf (tagPort (tok 0 0).tag) ⟨(tok 0 0).val, (tok 0 0).poison⟩ ((partners (tileAt (matchSt false [⟨tok 0 0, 36⟩, ⟨tok 1 0, 36⟩] (stored 1)) 5) (ntWord false) (instKey (tok 0 0).tag) (tagPort (tok 0 0).tag) (ntArity (ntWord false))).getD []) (ntArity (ntWord false)) } _ rfl).2.2.2.2.2.1 6 _) :=
  ((h.2.1 (matchSt false [⟨tok 0 0, 36⟩, ⟨tok 1 0, 36⟩] (stored 1)) (if ntArity (ntWord false) = 1 then (matchSt false [⟨tok 0 0, 36⟩, ⟨tok 1 0, 36⟩] (stored 1)) else meetLookup (matchSt false [⟨tok 0 0, 36⟩, ⟨tok 1 0, 36⟩] (stored 1)) 5 (setIndex (instKey (tok 0 0).tag) false) (if ntSticky (ntWord false) = 0 then setIndex (instKey (tok 0 0).tag) false else setIndex (stickyKey (instKey (tok 0 0).tag)) true)) 5 36 (ntWord false) (tok 0 0) (by decide +kernel) rfl).1 ((partners (tileAt (matchSt false [⟨tok 0 0, 36⟩, ⟨tok 1 0, 36⟩] (stored 1)) 5) (ntWord false) (instKey (tok 0 0).tag) (tagPort (tok 0 0).tag) (ntArity (ntWord false))).getD []) { level := bits (ntWord false) 12 10, tag := BitVec.ofNat 64 (16 * instKey (tok 0 0).tag), entry := 4 * bits (ntWord false) 31 17, ops := operandsOf (tagPort (tok 0 0).tag) ⟨(tok 0 0).val, (tok 0 0).poison⟩ ((partners (tileAt (matchSt false [⟨tok 0 0, 36⟩, ⟨tok 1 0, 36⟩] (stored 1)) 5) (ntWord false) (instKey (tok 0 0).tag) (tagPort (tok 0 0).tag) (ntArity (ntWord false))).getD []) (ntArity (ntWord false)) } (by decide +kernel) rfl).2.2.2.2.2.1 6 (by decide +kernel)

theorem wit_match_hold (h : Obligations.MatchingOfTokens) : type_of% (((h.2.1 (matchSt false [⟨tok 0 0, 36⟩] (fun t => fullFq (stored 1 t))) (if ntArity (ntWord false) = 1 then (matchSt false [⟨tok 0 0, 36⟩] (fun t => fullFq (stored 1 t))) else meetLookup (matchSt false [⟨tok 0 0, 36⟩] (fun t => fullFq (stored 1 t))) 5 (setIndex (instKey (tok 0 0).tag) false) (if ntSticky (ntWord false) = 0 then setIndex (instKey (tok 0 0).tag) false else setIndex (stickyKey (instKey (tok 0 0).tag)) true)) 5 36 (ntWord false) (tok 0 0) _ rfl).1 ((partners (tileAt (matchSt false [⟨tok 0 0, 36⟩] (fun t => fullFq (stored 1 t))) 5) (ntWord false) (instKey (tok 0 0).tag) (tagPort (tok 0 0).tag) (ntArity (ntWord false))).getD []) { level := bits (ntWord false) 12 10, tag := BitVec.ofNat 64 (16 * instKey (tok 0 0).tag), entry := 4 * bits (ntWord false) 31 17, ops := operandsOf (tagPort (tok 0 0).tag) ⟨(tok 0 0).val, (tok 0 0).poison⟩ ((partners (tileAt (matchSt false [⟨tok 0 0, 36⟩] (fun t => fullFq (stored 1 t))) 5) (ntWord false) (instKey (tok 0 0).tag) (tagPort (tok 0 0).tag) (ntArity (ntWord false))).getD []) (ntArity (ntWord false)) } _ rfl).2.2.2.2.1 _) :=
  ((h.2.1 (matchSt false [⟨tok 0 0, 36⟩] (fun t => fullFq (stored 1 t))) (if ntArity (ntWord false) = 1 then (matchSt false [⟨tok 0 0, 36⟩] (fun t => fullFq (stored 1 t))) else meetLookup (matchSt false [⟨tok 0 0, 36⟩] (fun t => fullFq (stored 1 t))) 5 (setIndex (instKey (tok 0 0).tag) false) (if ntSticky (ntWord false) = 0 then setIndex (instKey (tok 0 0).tag) false else setIndex (stickyKey (instKey (tok 0 0).tag)) true)) 5 36 (ntWord false) (tok 0 0) (by decide +kernel) rfl).1 ((partners (tileAt (matchSt false [⟨tok 0 0, 36⟩] (fun t => fullFq (stored 1 t))) 5) (ntWord false) (instKey (tok 0 0).tag) (tagPort (tok 0 0).tag) (ntArity (ntWord false))).getD []) { level := bits (ntWord false) 12 10, tag := BitVec.ofNat 64 (16 * instKey (tok 0 0).tag), entry := 4 * bits (ntWord false) 31 17, ops := operandsOf (tagPort (tok 0 0).tag) ⟨(tok 0 0).val, (tok 0 0).poison⟩ ((partners (tileAt (matchSt false [⟨tok 0 0, 36⟩] (fun t => fullFq (stored 1 t))) 5) (ntWord false) (instKey (tok 0 0).tag) (tagPort (tok 0 0).tag) (ntArity (ntWord false))).getD []) (ntArity (ntWord false)) } (by decide +kernel) rfl).2.2.2.2.1 (by decide +kernel)

theorem wit_match_fire_sticky (h : Obligations.MatchingOfTokens) : type_of% (((h.2.1 (matchSt true [⟨tok 0 0, 36⟩] (storedSticky 1)) (if ntArity (ntWord true) = 1 then (matchSt true [⟨tok 0 0, 36⟩] (storedSticky 1)) else meetLookup (matchSt true [⟨tok 0 0, 36⟩] (storedSticky 1)) 5 (setIndex (instKey (tok 0 0).tag) false) (if ntSticky (ntWord true) = 0 then setIndex (instKey (tok 0 0).tag) false else setIndex (stickyKey (instKey (tok 0 0).tag)) true)) 5 36 (ntWord true) (tok 0 0) _ rfl).1 ((partners (tileAt (matchSt true [⟨tok 0 0, 36⟩] (storedSticky 1)) 5) (ntWord true) (instKey (tok 0 0).tag) (tagPort (tok 0 0).tag) (ntArity (ntWord true))).getD []) { level := bits (ntWord true) 12 10, tag := BitVec.ofNat 64 (16 * instKey (tok 0 0).tag), entry := 4 * bits (ntWord true) 31 17, ops := operandsOf (tagPort (tok 0 0).tag) ⟨(tok 0 0).val, (tok 0 0).poison⟩ ((partners (tileAt (matchSt true [⟨tok 0 0, 36⟩] (storedSticky 1)) 5) (ntWord true) (instKey (tok 0 0).tag) (tagPort (tok 0 0).tag) (ntArity (ntWord true))).getD []) (ntArity (ntWord true)) } _ rfl).2.2.2.1 _) :=
  ((h.2.1 (matchSt true [⟨tok 0 0, 36⟩] (storedSticky 1)) (if ntArity (ntWord true) = 1 then (matchSt true [⟨tok 0 0, 36⟩] (storedSticky 1)) else meetLookup (matchSt true [⟨tok 0 0, 36⟩] (storedSticky 1)) 5 (setIndex (instKey (tok 0 0).tag) false) (if ntSticky (ntWord true) = 0 then setIndex (instKey (tok 0 0).tag) false else setIndex (stickyKey (instKey (tok 0 0).tag)) true)) 5 36 (ntWord true) (tok 0 0) (by decide +kernel) rfl).1 ((partners (tileAt (matchSt true [⟨tok 0 0, 36⟩] (storedSticky 1)) 5) (ntWord true) (instKey (tok 0 0).tag) (tagPort (tok 0 0).tag) (ntArity (ntWord true))).getD []) { level := bits (ntWord true) 12 10, tag := BitVec.ofNat 64 (16 * instKey (tok 0 0).tag), entry := 4 * bits (ntWord true) 31 17, ops := operandsOf (tagPort (tok 0 0).tag) ⟨(tok 0 0).val, (tok 0 0).poison⟩ ((partners (tileAt (matchSt true [⟨tok 0 0, 36⟩] (storedSticky 1)) 5) (ntWord true) (instKey (tok 0 0).tag) (tagPort (tok 0 0).tag) (ntArity (ntWord true))).getD []) (ntArity (ntWord true)) } (by decide +kernel) rfl).2.2.2.1 (by decide +kernel)

theorem wit_match_store (h : Obligations.MatchingOfTokens) : type_of% (((h.2.1 (matchSt false [⟨tok 0 0, 36⟩]) (if ntArity (ntWord false) = 1 then (matchSt false [⟨tok 0 0, 36⟩]) else meetLookup (matchSt false [⟨tok 0 0, 36⟩]) 5 (setIndex (instKey (tok 0 0).tag) false) (if ntSticky (ntWord false) = 0 then setIndex (instKey (tok 0 0).tag) false else setIndex (stickyKey (instKey (tok 0 0).tag)) true)) 5 36 (ntWord false) (tok 0 0) _ rfl).2.1 _ _).1 ((storeEntry (tileAt (if ntArity (ntWord false) = 1 then (matchSt false [⟨tok 0 0, 36⟩]) else meetLookup (matchSt false [⟨tok 0 0, 36⟩]) 5 (setIndex (instKey (tok 0 0).tag) false) (if ntSticky (ntWord false) = 0 then setIndex (instKey (tok 0 0).tag) false else setIndex (stickyKey (instKey (tok 0 0).tag)) true)) 5) (setIndex (instKey (tok 0 0).tag) false) { key := instKey (tok 0 0).tag, port := tagPort (tok 0 0).tag, state := if (tok 0 0).poison then 2 else 1, val := (tok 0 0).val }).getD {}) _) :=
  ((h.2.1 (matchSt false [⟨tok 0 0, 36⟩]) (if ntArity (ntWord false) = 1 then (matchSt false [⟨tok 0 0, 36⟩]) else meetLookup (matchSt false [⟨tok 0 0, 36⟩]) 5 (setIndex (instKey (tok 0 0).tag) false) (if ntSticky (ntWord false) = 0 then setIndex (instKey (tok 0 0).tag) false else setIndex (stickyKey (instKey (tok 0 0).tag)) true)) 5 36 (ntWord false) (tok 0 0) (by decide +kernel) rfl).2.1 (by decide +kernel) (by decide +kernel)).1 ((storeEntry (tileAt (if ntArity (ntWord false) = 1 then (matchSt false [⟨tok 0 0, 36⟩]) else meetLookup (matchSt false [⟨tok 0 0, 36⟩]) 5 (setIndex (instKey (tok 0 0).tag) false) (if ntSticky (ntWord false) = 0 then setIndex (instKey (tok 0 0).tag) false else setIndex (stickyKey (instKey (tok 0 0).tag)) true)) 5) (setIndex (instKey (tok 0 0).tag) false) { key := instKey (tok 0 0).tag, port := tagPort (tok 0 0).tag, state := if (tok 0 0).poison then 2 else 1, val := (tok 0 0).val }).getD {}) (by decide +kernel)

theorem wit_match_stall (h : Obligations.MatchingOfTokens) : type_of% (((h.2.1 (matchSt false [⟨tok 0 0, 36⟩] (fullTile (setIndex (instKey (tok 0 0).tag) false))) (if ntArity (ntWord false) = 1 then (matchSt false [⟨tok 0 0, 36⟩] (fullTile (setIndex (instKey (tok 0 0).tag) false))) else meetLookup (matchSt false [⟨tok 0 0, 36⟩] (fullTile (setIndex (instKey (tok 0 0).tag) false))) 5 (setIndex (instKey (tok 0 0).tag) false) (if ntSticky (ntWord false) = 0 then setIndex (instKey (tok 0 0).tag) false else setIndex (stickyKey (instKey (tok 0 0).tag)) true)) 5 36 (ntWord false) (tok 0 0) _ rfl).2.1 _ _).2 _) :=
  ((h.2.1 (matchSt false [⟨tok 0 0, 36⟩] (fullTile (setIndex (instKey (tok 0 0).tag) false))) (if ntArity (ntWord false) = 1 then (matchSt false [⟨tok 0 0, 36⟩] (fullTile (setIndex (instKey (tok 0 0).tag) false))) else meetLookup (matchSt false [⟨tok 0 0, 36⟩] (fullTile (setIndex (instKey (tok 0 0).tag) false))) 5 (setIndex (instKey (tok 0 0).tag) false) (if ntSticky (ntWord false) = 0 then setIndex (instKey (tok 0 0).tag) false else setIndex (stickyKey (instKey (tok 0 0).tag)) true)) 5 36 (ntWord false) (tok 0 0) (by decide +kernel) rfl).2.1 (by decide +kernel) (by decide +kernel)).2 (by decide +kernel)

theorem wit_match_collide (h : Obligations.MatchingOfTokens) : type_of% ((h.2.1 (matchSt false [⟨tok 0 0, 36⟩] (stored 0)) (if ntArity (ntWord false) = 1 then (matchSt false [⟨tok 0 0, 36⟩] (stored 0)) else meetLookup (matchSt false [⟨tok 0 0, 36⟩] (stored 0)) 5 (setIndex (instKey (tok 0 0).tag) false) (if ntSticky (ntWord false) = 0 then setIndex (instKey (tok 0 0).tag) false else setIndex (stickyKey (instKey (tok 0 0).tag)) true)) 5 36 (ntWord false) (tok 0 0) _ rfl).2.2 ((findEntry (tileAt (matchSt false [⟨tok 0 0, 36⟩] (stored 0)) 5) (instKey (tok 0 0).tag) 0 false).getD (.inSet 0 {})) _ _) :=
  (h.2.1 (matchSt false [⟨tok 0 0, 36⟩] (stored 0)) (if ntArity (ntWord false) = 1 then (matchSt false [⟨tok 0 0, 36⟩] (stored 0)) else meetLookup (matchSt false [⟨tok 0 0, 36⟩] (stored 0)) 5 (setIndex (instKey (tok 0 0).tag) false) (if ntSticky (ntWord false) = 0 then setIndex (instKey (tok 0 0).tag) false else setIndex (stickyKey (instKey (tok 0 0).tag)) true)) 5 36 (ntWord false) (tok 0 0) (by decide +kernel) rfl).2.2 ((findEntry (tileAt (matchSt false [⟨tok 0 0, 36⟩] (stored 0)) 5) (instKey (tok 0 0).tag) 0 false).getD (.inSet 0 {})) (by decide +kernel) (by decide +kernel)

theorem wit_sticky_wrong (h : Obligations.MatchingOfTokens) : type_of% ((h.2.2 (matchSt true [⟨tok 1 1, 36⟩]) (nodeLookup (matchSt true [⟨tok 1 1, 36⟩]) 5 (tok 1 1) 36).1 (meetLookup (nodeLookup (matchSt true [⟨tok 1 1, 36⟩]) 5 (tok 1 1) 36).1 5 (setIndex (stickyKey (instKey (tok 1 1).tag)) true) (setIndex (stickyKey (instKey (tok 1 1).tag)) true)) 5 (ntWord true) ⟨(tok 1 1), 36⟩ [] ⟨_, _, pair_of _⟩ _ _ rfl).1 (Or.inr _)) :=
  (h.2.2 (matchSt true [⟨tok 1 1, 36⟩]) (nodeLookup (matchSt true [⟨tok 1 1, 36⟩]) 5 (tok 1 1) 36).1 (meetLookup (nodeLookup (matchSt true [⟨tok 1 1, 36⟩]) 5 (tok 1 1) 36).1 5 (setIndex (stickyKey (instKey (tok 1 1).tag)) true) (setIndex (stickyKey (instKey (tok 1 1).tag)) true)) 5 (ntWord true) ⟨(tok 1 1), 36⟩ [] ⟨(by decide +kernel), (by decide +kernel), pair_of (by decide +kernel)⟩ (by decide +kernel) (by decide +kernel) rfl).1 (Or.inr (by decide +kernel))

theorem wit_sticky_store (h : Obligations.MatchingOfTokens) : type_of% ((((h.2.2 (matchSt true [⟨stickyTok, 36⟩]) (nodeLookup (matchSt true [⟨stickyTok, 36⟩]) 5 stickyTok 36).1 (meetLookup (nodeLookup (matchSt true [⟨stickyTok, 36⟩]) 5 stickyTok 36).1 5 (setIndex (stickyKey (instKey stickyTok.tag)) true) (setIndex (stickyKey (instKey stickyTok.tag)) true)) 5 (ntWord true) ⟨stickyTok, 36⟩ [] ⟨_, _, pair_of _⟩ _ _ rfl).2 _ _).1 _).1 ((storeEntry (tileAt (meetLookup (nodeLookup (matchSt true [⟨stickyTok, 36⟩]) 5 stickyTok 36).1 5 (setIndex (stickyKey (instKey stickyTok.tag)) true) (setIndex (stickyKey (instKey stickyTok.tag)) true)) 5) (setIndex (stickyKey (instKey stickyTok.tag)) true) { key := stickyKey (instKey stickyTok.tag), port := tagPort stickyTok.tag, state := 3, spoison := stickyTok.poison, val := stickyTok.val }).getD {}) _) :=
  (((h.2.2 (matchSt true [⟨stickyTok, 36⟩]) (nodeLookup (matchSt true [⟨stickyTok, 36⟩]) 5 stickyTok 36).1 (meetLookup (nodeLookup (matchSt true [⟨stickyTok, 36⟩]) 5 stickyTok 36).1 5 (setIndex (stickyKey (instKey stickyTok.tag)) true) (setIndex (stickyKey (instKey stickyTok.tag)) true)) 5 (ntWord true) ⟨stickyTok, 36⟩ [] ⟨(by decide +kernel), (by decide +kernel), pair_of (by decide +kernel)⟩ (by decide +kernel) (by decide +kernel) rfl).2 (by decide +kernel) (by decide +kernel)).1 (by decide +kernel)).1 ((storeEntry (tileAt (meetLookup (nodeLookup (matchSt true [⟨stickyTok, 36⟩]) 5 stickyTok 36).1 5 (setIndex (stickyKey (instKey stickyTok.tag)) true) (setIndex (stickyKey (instKey stickyTok.tag)) true)) 5) (setIndex (stickyKey (instKey stickyTok.tag)) true) { key := stickyKey (instKey stickyTok.tag), port := tagPort stickyTok.tag, state := 3, spoison := stickyTok.poison, val := stickyTok.val }).getD {}) (by decide +kernel)

theorem wit_sticky_stall (h : Obligations.MatchingOfTokens) : type_of% ((((h.2.2 (matchSt true [⟨stickyTok, 36⟩] (fullTile (setIndex (stickyKey (instKey stickyTok.tag)) true))) (nodeLookup (matchSt true [⟨stickyTok, 36⟩] (fullTile (setIndex (stickyKey (instKey stickyTok.tag)) true))) 5 stickyTok 36).1 (meetLookup (nodeLookup (matchSt true [⟨stickyTok, 36⟩] (fullTile (setIndex (stickyKey (instKey stickyTok.tag)) true))) 5 stickyTok 36).1 5 (setIndex (stickyKey (instKey stickyTok.tag)) true) (setIndex (stickyKey (instKey stickyTok.tag)) true)) 5 (ntWord true) ⟨stickyTok, 36⟩ [] ⟨_, _, pair_of _⟩ _ _ rfl).2 _ _).1 _).2 _) :=
  (((h.2.2 (matchSt true [⟨stickyTok, 36⟩] (fullTile (setIndex (stickyKey (instKey stickyTok.tag)) true))) (nodeLookup (matchSt true [⟨stickyTok, 36⟩] (fullTile (setIndex (stickyKey (instKey stickyTok.tag)) true))) 5 stickyTok 36).1 (meetLookup (nodeLookup (matchSt true [⟨stickyTok, 36⟩] (fullTile (setIndex (stickyKey (instKey stickyTok.tag)) true))) 5 stickyTok 36).1 5 (setIndex (stickyKey (instKey stickyTok.tag)) true) (setIndex (stickyKey (instKey stickyTok.tag)) true)) 5 (ntWord true) ⟨stickyTok, 36⟩ [] ⟨(by decide +kernel), (by decide +kernel), pair_of (by decide +kernel)⟩ (by decide +kernel) (by decide +kernel) rfl).2 (by decide +kernel) (by decide +kernel)).1 (by decide +kernel)).2 (by decide +kernel)

theorem wit_sticky_dup (h : Obligations.MatchingOfTokens) : type_of% (((h.2.2 (matchSt true [⟨stickyTok, 36⟩] (storedSticky 1)) (nodeLookup (matchSt true [⟨stickyTok, 36⟩] (storedSticky 1)) 5 stickyTok 36).1 (meetLookup (nodeLookup (matchSt true [⟨stickyTok, 36⟩] (storedSticky 1)) 5 stickyTok 36).1 5 (setIndex (stickyKey (instKey stickyTok.tag)) true) (setIndex (stickyKey (instKey stickyTok.tag)) true)) 5 (ntWord true) ⟨stickyTok, 36⟩ [] ⟨_, _, pair_of _⟩ _ _ rfl).2 _ _).2 ((findEntry (tileAt (matchSt true [⟨stickyTok, 36⟩] (storedSticky 1)) 5) (stickyKey (instKey stickyTok.tag)) 1 true).getD (.inSet 0 {})) _) :=
  ((h.2.2 (matchSt true [⟨stickyTok, 36⟩] (storedSticky 1)) (nodeLookup (matchSt true [⟨stickyTok, 36⟩] (storedSticky 1)) 5 stickyTok 36).1 (meetLookup (nodeLookup (matchSt true [⟨stickyTok, 36⟩] (storedSticky 1)) 5 stickyTok 36).1 5 (setIndex (stickyKey (instKey stickyTok.tag)) true) (setIndex (stickyKey (instKey stickyTok.tag)) true)) 5 (ntWord true) ⟨stickyTok, 36⟩ [] ⟨(by decide +kernel), (by decide +kernel), pair_of (by decide +kernel)⟩ (by decide +kernel) (by decide +kernel) rfl).2 (by decide +kernel) (by decide +kernel)).2 ((findEntry (tileAt (matchSt true [⟨stickyTok, 36⟩] (storedSticky 1)) 5) (stickyKey (instKey stickyTok.tag)) 1 true).getD (.inSet 0 {})) (by decide +kernel)

/-! ### Witnesses: ScansAndDispatch -/

theorem wit_ctx_end (h : Obligations.ScansAndDispatch) : type_of% ((h.1 (matchSt false [(ctlTok false), ⟨tok 1 0, 36⟩] (stored 1)) (meetStore (popHead (matchSt false [(ctlTok false), ⟨tok 1 0, 36⟩] (stored 1)) 5) 5) 5 (ctlTok false) [⟨tok 1 0, 36⟩] false _ _ _ _ _ rfl).1 _) :=
  (h.1 (matchSt false [(ctlTok false), ⟨tok 1 0, 36⟩] (stored 1)) (meetStore (popHead (matchSt false [(ctlTok false), ⟨tok 1 0, 36⟩] (stored 1)) 5) 5) 5 (ctlTok false) [⟨tok 1 0, 36⟩] false (by decide +kernel) (by decide +kernel) (by decide +kernel) (by decide +kernel) (by decide +kernel) rfl).1 (by decide +kernel)

theorem wit_ctx_purge (h : Obligations.ScansAndDispatch) : type_of% ((h.1 (matchSt false [(ctlTok true), ⟨tok 1 0, 36⟩] (stored 1)) (meetStore (popHead (matchSt false [(ctlTok true), ⟨tok 1 0, 36⟩] (stored 1)) 5) 5) 5 (ctlTok true) [⟨tok 1 0, 36⟩] true _ _ _ _ _ rfl).1 _) :=
  (h.1 (matchSt false [(ctlTok true), ⟨tok 1 0, 36⟩] (stored 1)) (meetStore (popHead (matchSt false [(ctlTok true), ⟨tok 1 0, 36⟩] (stored 1)) 5) 5) 5 (ctlTok true) [⟨tok 1 0, 36⟩] true (by decide +kernel) (by decide +kernel) (by decide +kernel) (by decide +kernel) (by decide +kernel) rfl).1 (by decide +kernel)

theorem wit_ctx_end_source (h : Obligations.ScansAndDispatch) : type_of% ((h.1 (matchSt false [⟨(ctlTok false).tok, 36⟩]) (meetStore (popHead (matchSt false [⟨(ctlTok false).tok, 36⟩]) 5) 5) 5 ⟨(ctlTok false).tok, 36⟩ [] false _ _ _ _ _ rfl).2 _) :=
  (h.1 (matchSt false [⟨(ctlTok false).tok, 36⟩]) (meetStore (popHead (matchSt false [⟨(ctlTok false).tok, 36⟩]) 5) 5) 5 ⟨(ctlTok false).tok, 36⟩ [] false (by decide +kernel) (by decide +kernel) (by decide +kernel) (by decide +kernel) (by decide +kernel) rfl).2 (by decide +kernel)

theorem wit_scan_done_busy (h : Obligations.ScansAndDispatch) : type_of% ((h.2.1 (matchSt false [] (fun t => { t with scan := some { tag := (ctlTok false).tok.tag, doneAt := 100000, count := 3, isEnd := true }, spl := { t.spl with fetchBuf := [tok 0 0] } })) 5 { tag := (ctlTok false).tok.tag, doneAt := 100000, count := 3, isEnd := true } [⟨1, 1, 3⟩] _ _ _ _ _).1 (Or.inr _)) :=
  (h.2.1 (matchSt false [] (fun t => { t with scan := some { tag := (ctlTok false).tok.tag, doneAt := 100000, count := 3, isEnd := true }, spl := { t.spl with fetchBuf := [tok 0 0] } })) 5 { tag := (ctlTok false).tok.tag, doneAt := 100000, count := 3, isEnd := true } [⟨1, 1, 3⟩] (by decide +kernel) (by decide +kernel) (by decide +kernel) (by decide +kernel) (by decide +kernel)).1 (Or.inr (by decide +kernel))

theorem wit_scan_done (h : Obligations.ScansAndDispatch) : type_of% ((h.2.1 (matchSt false [] (fun t => { t with scan := some { tag := (ctlTok false).tok.tag, doneAt := 100000, count := 3, isEnd := true } })) 5 { tag := (ctlTok false).tok.tag, doneAt := 100000, count := 3, isEnd := true } [⟨1, 1, 3⟩] _ _ _ _ _).2 _ _) :=
  (h.2.1 (matchSt false [] (fun t => { t with scan := some { tag := (ctlTok false).tok.tag, doneAt := 100000, count := 3, isEnd := true } })) 5 { tag := (ctlTok false).tok.tag, doneAt := 100000, count := 3, isEnd := true } [⟨1, 1, 3⟩] (by decide +kernel) (by decide +kernel) (by decide +kernel) (by decide +kernel) (by decide +kernel)).2 (by decide +kernel) (by decide +kernel)

theorem wit_dispatch_err (h : Obligations.ScansAndDispatch) : type_of% ((h.2.2 (matchSt false [] (fun t => { firedTile t with stateErr := true })) 5 { level := 1, tag := (tok 0 0).tag, entry := 0x80, ops := [⟨7, false⟩, ⟨9, true⟩] } [{ level := 3, tag := 0x10, entry := 0x40 }] _ _ _ _).1 _) :=
  (h.2.2 (matchSt false [] (fun t => { firedTile t with stateErr := true })) 5 { level := 1, tag := (tok 0 0).tag, entry := 0x80, ops := [⟨7, false⟩, ⟨9, true⟩] } [{ level := 3, tag := 0x10, entry := 0x40 }] (by decide +kernel) (by decide +kernel) (by decide +kernel) (by decide +kernel)).1 (by decide +kernel)

theorem wit_dispatch (h : Obligations.ScansAndDispatch) : type_of% ((h.2.2 (matchSt false [] firedTile) 5 { level := 1, tag := (tok 0 0).tag, entry := 0x80, ops := [⟨7, false⟩, ⟨9, true⟩] } [{ level := 3, tag := 0x10, entry := 0x40 }] _ _ _ _).2 _) :=
  (h.2.2 (matchSt false [] firedTile) 5 { level := 1, tag := (tok 0 0).tag, entry := 0x80, ops := [⟨7, false⟩, ⟨9, true⟩] } [{ level := 3, tag := 0x10, entry := 0x40 }] (by decide +kernel) (by decide +kernel) (by decide +kernel) (by decide +kernel)).2 (by decide +kernel)

/-! ### Witnesses: PlacementAndContexts -/

theorem wit_place_read (h : Obligations.PlacementAndContexts) : type_of% (h.1.1 { up with place := [(1031, some { unit := 9, slot := 2, gen := 4 })] } rq9 7 _ _ _) :=
  h.1.1 { up with place := [(1031, some { unit := 9, slot := 2, gen := 4 })] } rq9 7 (by decide +kernel) (by decide +kernel) (by decide +kernel)

theorem wit_place_read_none (h : Obligations.PlacementAndContexts) : type_of% (h.1.1 { up with place := [(1031, some { unit := 9, slot := 2, gen := 4, suspended := true })] } rq9 7 _ _ _) :=
  h.1.1 { up with place := [(1031, some { unit := 9, slot := 2, gen := 4, suspended := true })] } rq9 7 (by decide +kernel) (by decide +kernel) (by decide +kernel)

theorem wit_place_inv (h : Obligations.PlacementAndContexts) : type_of% (h.1.2.2.1 (matchSt false [] remoteG) 5 1 7 9 _ _ _) :=
  h.1.2.2.1 (matchSt false [] remoteG) 5 1 7 9 (by decide +kernel) (by decide +kernel) (by decide +kernel)

theorem wit_token_ack_send (h : Obligations.PlacementAndContexts) : type_of% (h.1.2.2.2 (matchSt false [] (fun t => { t with ackOwed := [{ src := 36, count := 3, since := 1 }] })) 5 36 { src := 36, count := 3, since := 1 } _ _) :=
  h.1.2.2.2 (matchSt false [] (fun t => { t with ackOwed := [{ src := 36, count := 3, since := 1 }] })) 5 36 { src := 36, count := 3, since := 1 } (by decide +kernel) (by decide +kernel)

theorem wit_ctx_alloc_req (h : Obligations.PlacementAndContexts) : type_of% (h.2.1 (ctxSt 0) ((allocCtx (takePkt (ctxSt 0) (reqPkt 0x303 rq9 .ctxAlloc)) 1).getD (0, up)).2 rq9 3 _ _) :=
  h.2.1 (ctxSt 0) ((allocCtx (takePkt (ctxSt 0) (reqPkt 0x303 rq9 .ctxAlloc)) 1).getD (0, up)).2 rq9 3 (by decide +kernel) (by decide +kernel)

theorem wit_x_alloc (h : Obligations.PlacementAndContexts) : type_of% (h.2.2.1 (ctxSt 0) ((allocCtx (ctxSt 0) 1).getD (0, up)).2 1 3 _ _) :=
  h.2.2.1 (ctxSt 0) ((allocCtx (ctxSt 0) 1).getD (0, up)).2 1 3 (by decide +kernel) (by decide +kernel)

theorem wit_ctx_alloc_none (h : Obligations.PlacementAndContexts) : type_of% (h.2.2.2.1 up rq9 _ _) :=
  h.2.2.2.1 up rq9 (by decide +kernel) (by decide +kernel)

theorem wit_place_fill (h : Obligations.PlacementAndContexts) : type_of% ((h.1.2.1 (fillSt false) 5 (4 * 0x30A) 1 3 7 (.placeData 9 2 4) fillReq { part := 1, vt := 7, tag := 3, void := false } _ _ _ _ _).1 9 2 4 _ _) :=
  (h.1.2.1 (fillSt false) 5 (4 * 0x30A) 1 3 7 (.placeData 9 2 4) fillReq { part := 1, vt := 7, tag := 3, void := false } (by decide +kernel) (by decide +kernel) (by decide +kernel) (by decide +kernel) (by decide +kernel)).1 9 2 4 (by decide +kernel) (by decide +kernel)

theorem wit_place_fill_unbound (h : Obligations.PlacementAndContexts) : type_of% ((h.1.2.1 (fillSt false waitSend) 5 (4 * 0x30A) 1 3 7 .placeUnbound fillReq { part := 1, vt := 7, tag := 3, void := false } _ _ _ _ _).2.1 { tok := { tag := mkTag 1 1 0 7 0 0 0 } } [] _ _ _ _ _ _) :=
  (h.1.2.1 (fillSt false waitSend) 5 (4 * 0x30A) 1 3 7 .placeUnbound fillReq { part := 1, vt := 7, tag := 3, void := false } (by decide +kernel) (by decide +kernel) (by decide +kernel) (by decide +kernel) (by decide +kernel)).2.1 { tok := { tag := mkTag 1 1 0 7 0 0 0 } } [] (by decide +kernel) (by decide +kernel) (by decide +kernel) (by decide +kernel) (by decide +kernel) (by decide +kernel)

theorem wit_place_fill_unbound_mem (h : Obligations.PlacementAndContexts) : type_of% ((h.1.2.1 (fillSt false) 5 (4 * 0x30A) 1 3 7 .placeUnbound fillReq { part := 1, vt := 7, tag := 3, void := false } _ _ _ _ _).2.2.1 _ _) :=
  (h.1.2.1 (fillSt false) 5 (4 * 0x30A) 1 3 7 .placeUnbound fillReq { part := 1, vt := 7, tag := 3, void := false } (by decide +kernel) (by decide +kernel) (by decide +kernel) (by decide +kernel) (by decide +kernel)).2.2.1 (by decide +kernel) (by decide +kernel)

theorem wit_place_fill_void (h : Obligations.PlacementAndContexts) : type_of% ((h.1.2.1 (fillSt true) 5 (4 * 0x30A) 1 3 7 (.placeData 9 2 4) fillReq { part := 1, vt := 7, tag := 3, void := true } _ _ _ _ _).2.2.2 9 2 4 (Or.inl rfl) _) :=
  (h.1.2.1 (fillSt true) 5 (4 * 0x30A) 1 3 7 (.placeData 9 2 4) fillReq { part := 1, vt := 7, tag := 3, void := true } (by decide +kernel) (by decide +kernel) (by decide +kernel) (by decide +kernel) (by decide +kernel)).2.2.2 9 2 4 (Or.inl rfl) (by decide +kernel)

theorem wit_ctx_release (h : Obligations.PlacementAndContexts) : type_of% ((h.2.2.2.2.1 (ctxSt 1) rq9 5 _ _).1 _ _ _) :=
  (h.2.2.2.2.1 (ctxSt 1) rq9 5 (by decide +kernel) (by decide +kernel)).1 (by decide +kernel) (by decide +kernel) (by decide +kernel)

theorem wit_ctx_release_again (h : Obligations.PlacementAndContexts) : type_of% ((h.2.2.2.2.1 relLost rq9 5 _ _).2.1 _ _ _ _) :=
  (h.2.2.2.2.1 relLost rq9 5 (by decide +kernel) (by decide +kernel)).2.1 (by decide +kernel) (by decide +kernel) (by decide +kernel) (by decide +kernel)

theorem wit_ctx_release_zero (h : Obligations.PlacementAndContexts) : type_of% ((h.2.2.2.2.1 (ctxSt 1) rq9 0 _ _).2.2 (Or.inl _)) :=
  (h.2.2.2.2.1 (ctxSt 1) rq9 0 (by decide +kernel) (by decide +kernel)).2.2 (Or.inl (by decide +kernel))

theorem wit_ctx_release_limit (h : Obligations.PlacementAndContexts) : type_of% ((h.2.2.2.2.1 (ctxSt 1) rq9 16 _ _).2.2 (Or.inr (Or.inl _))) :=
  (h.2.2.2.2.1 (ctxSt 1) rq9 16 (by decide +kernel) (by decide +kernel)).2.2 (Or.inr (Or.inl (by decide +kernel)))

theorem wit_ctx_ack_tile (h : Obligations.PlacementAndContexts) : type_of% (h.2.2.2.2.2.1 (relSt [5, 6]) 5 1 5 9 { part := 1, ctx := 5, rq := some rq9, tiles := [5, 6] } _ _ _) :=
  h.2.2.2.2.2.1 (relSt [5, 6]) 5 1 5 9 { part := 1, ctx := 5, rq := some rq9, tiles := [5, 6] } (by decide +kernel) (by decide +kernel) (by decide +kernel)

theorem wit_ctx_ack_agent (h : Obligations.PlacementAndContexts) : type_of% (h.2.2.2.2.2.2 (outSt noticeReq (relSt [])) (4 * 0x381) 1 5 3 2 noticeReq { part := 1, ctx := 5, rq := some rq9, tiles := [] } _ _ _ _ _) :=
  h.2.2.2.2.2.2 (outSt noticeReq (relSt [])) (4 * 0x381) 1 5 3 2 noticeReq { part := 1, ctx := 5, rq := some rq9, tiles := [] } (by decide +kernel) (by decide +kernel) (by decide +kernel) (by decide +kernel) (by decide +kernel)

/-! ### Witnesses: RegisterAccesses -/

theorem wit_reg_write (h : Obligations.RegisterAccesses) : type_of% ((h.1 up 0 0x12345 _).1 _ _ _) :=
  (h.1 up 0 0x12345 (by decide +kernel)).1 (by decide +kernel) (by decide +kernel) (by decide +kernel)

theorem wit_reg_write_bad (h : Obligations.RegisterAccesses) : type_of% ((h.1 up 0 0xF2345 _).2.1 _ _) :=
  (h.1 up 0 0xF2345 (by decide +kernel)).2.1 (by decide +kernel) (by decide +kernel)

theorem wit_reg_write_err (h : Obligations.RegisterAccesses) : type_of% ((h.1 { up with clr := { up.clr with accessErr := { valid := true, overflow := true, reason := 3 } } } 0 0x12345 _).2.2.1) :=
  (h.1 { up with clr := { up.clr with accessErr := { valid := true, overflow := true, reason := 3 } } } 0 0x12345 (by decide +kernel)).2.2.1

theorem wit_reg_write_ro (h : Obligations.RegisterAccesses) : type_of% ((h.1 up 1 0x12345 _).2.2.2.1) :=
  (h.1 up 1 0x12345 (by decide +kernel)).2.2.2.1

theorem wit_reg_write_vf (h : Obligations.RegisterAccesses) : type_of% ((h.1 { up with hif := up.hif.map (fun x => { x with vfEnable := true }) } 1 0x12345 _).2.2.2.2.1 3 0x200008 8 _ _ _ _) :=
  (h.1 { up with hif := up.hif.map (fun x => { x with vfEnable := true }) } 1 0x12345 (by decide +kernel)).2.2.2.2.1 3 0x200008 8 (by decide +kernel) (by decide +kernel) (by decide +kernel) (by decide +kernel)

theorem wit_reg_write_odd (h : Obligations.RegisterAccesses) : type_of% ((h.1 up 1 0x12345 _).2.2.2.2.2.1 0x200006 4 (Or.inr _)) :=
  (h.1 up 1 0x12345 (by decide +kernel)).2.2.2.2.2.1 0x200006 4 (Or.inr (by decide +kernel))

theorem wit_reg_write_width (h : Obligations.RegisterAccesses) : type_of% ((h.1 up 1 0x12345 _).2.2.2.2.2.1 0x200008 2 (Or.inl _)) :=
  (h.1 up 1 0x12345 (by decide +kernel)).2.2.2.2.2.1 0x200008 2 (Or.inl (by decide +kernel))

theorem wit_reg_write_effect (h : Obligations.RegisterAccesses) : type_of% ((h.1 up 0 0x12345 _).2.2.2.2.2.2 0x200008 8 ((pfWrite up 0 (0x200008 / 8 * 8) (written ((bar0Word up (0x200008 / 8 * 8)).getD 0) 0x200008 8 0x12345).1 (written ((bar0Word up (0x200008 / 8 * 8)).getD 0) 0x200008 8 0x12345).2).getD up) _ _ (gives _)) :=
  (h.1 up 0 0x12345 (by decide +kernel)).2.2.2.2.2.2 0x200008 8 ((pfWrite up 0 (0x200008 / 8 * 8) (written ((bar0Word up (0x200008 / 8 * 8)).getD 0) 0x200008 8 0x12345).1 (written ((bar0Word up (0x200008 / 8 * 8)).getD 0) 0x200008 8 0x12345).2).getD up) (by decide +kernel) (by decide +kernel) (gives (by decide +kernel))

theorem wit_fw_write (h : Obligations.RegisterAccesses) : type_of% ((h.2.1.1 up 0x200008 8 0x12345 _ _).1 ((supWrite up (0x200008 / 8 * 8) (written ((bar0Word up (0x200008 / 8 * 8)).getD 0) 0x200008 8 0x12345).1 (written ((bar0Word up (0x200008 / 8 * 8)).getD 0) 0x200008 8 0x12345).2).getD up) (gives _)) :=
  (h.2.1.1 up 0x200008 8 0x12345 (by decide +kernel) (by decide +kernel)).1 ((supWrite up (0x200008 / 8 * 8) (written ((bar0Word up (0x200008 / 8 * 8)).getD 0) 0x200008 8 0x12345).1 (written ((bar0Word up (0x200008 / 8 * 8)).getD 0) 0x200008 8 0x12345).2).getD up) (gives (by decide +kernel))

theorem wit_fw_write_refused (h : Obligations.RegisterAccesses) : type_of% ((h.2.1.1 up 0x200008 8 0xF2345 _ _).2 (none_of _)) :=
  (h.2.1.1 up 0x200008 8 0xF2345 (by decide +kernel) (by decide +kernel)).2 (none_of (by decide +kernel))

theorem wit_mon_write (h : Obligations.RegisterAccesses) : type_of% (h.2.1.2 { up with hif := up.hif.map (fun x => { x with bifurcated := true, links := [{ up := true }, { up := true }] }) } 1 0x10 8 5 _) :=
  h.2.1.2 { up with hif := up.hif.map (fun x => { x with bifurcated := true, links := [{ up := true }, { up := true }] }) } 1 0x10 8 5 (by decide +kernel)

theorem wit_reg_invalid_write (h : Obligations.RegisterAccesses) : type_of% ((h.2.2.1 up 0 0 0x200004 8 1 5 _).1 _) :=
  (h.2.2.1 up 0 0 0x200004 8 1 5 (by decide +kernel)).1 (by decide +kernel)

theorem wit_reg_invalid_read (h : Obligations.RegisterAccesses) : type_of% ((h.2.2.1 up 0 0 0x40 3 1 5 _).2 _) :=
  (h.2.2.1 up 0 0 0x40 3 1 5 (by decide +kernel)).2 (by decide +kernel)

theorem wit_x_inv_width (h : Obligations.RegisterAccesses) : type_of% ((h.2.2.2.1 safe 0 0 0x200008 2 true).1 (Or.inl _)) :=
  (h.2.2.2.1 safe 0 0 0x200008 2 true).1 (Or.inl (by decide +kernel))

theorem wit_x_inv_vf (h : Obligations.RegisterAccesses) : type_of% ((h.2.2.2.1 up 1 3 0x200008 8 true).2.1 (Or.inr _) _ _) :=
  (h.2.2.2.1 up 1 3 0x200008 8 true).2.1 (Or.inr (by decide +kernel)) (by decide +kernel) (by decide +kernel)

theorem wit_x_inv_safe (h : Obligations.RegisterAccesses) : type_of% ((h.2.2.2.1 safe 0 0 0x40000 8 true).2.2 (Or.inr _) _ _ _) :=
  (h.2.2.2.1 safe 0 0 0x40000 8 true).2.2 (Or.inr (by decide +kernel)) (by decide +kernel) (by decide +kernel) (by decide +kernel)

theorem wit_x_log (h : Obligations.RegisterAccesses) : type_of% ((h.2.2.2.2 up 0 0 0x200008 8).2 _) :=
  (h.2.2.2.2 up 0 0 0x200008 8).2 (by decide +kernel)

theorem wit_x_log_again (h : Obligations.RegisterAccesses) : type_of% ((h.2.2.2.2 { up with clr := { up.clr with accessErr := { valid := true } } } 0 0 0x200008 8).1 _) :=
  (h.2.2.2.2 { up with clr := { up.clr with accessErr := { valid := true } } } 0 0 0x200008 8).1 (by decide +kernel)

/-! ### Witnesses: ReadsThatChangeState -/

theorem wit_time_low (h : Obligations.ReadsThatChangeState) : type_of% ((h.1 up 0 0 _).1) :=
  (h.1 up 0 0 (by decide +kernel)).1

theorem wit_time_high (h : Obligations.ReadsThatChangeState) : type_of% ((h.1 { up with clr := { up.clr with shadows := [(0, some 5)] } } 0 0 _).2.1 5 _) :=
  (h.1 { up with clr := { up.clr with shadows := [(0, some 5)] } } 0 0 (by decide +kernel)).2.1 5 (by decide +kernel)

theorem wit_time_high_empty (h : Obligations.ReadsThatChangeState) : type_of% ((h.1 up 0 0 _).2.2 _) :=
  (h.1 up 0 0 (by decide +kernel)).2.2 (by decide +kernel)

theorem wit_read_clear_pool (h : Obligations.ReadsThatChangeState) : type_of% (h.2.1 { up with lck := { up.lck with hwm := 9 } } 0 _ _) :=
  h.2.1 { up with lck := { up.lck with hwm := 9 } } 0 (by decide +kernel) (by decide +kernel)

theorem wit_read_clear_tile (h : Obligations.ReadsThatChangeState) : type_of% (h.2.2.1 (matchSt false [] (fun t => { t with hwmStore := 3, hwmFq := 9 })) 0 5 _ _ _ _ _) :=
  h.2.2.1 (matchSt false [] (fun t => { t with hwmStore := 3, hwmFq := 9 })) 0 5 (by decide +kernel) (by decide +kernel) (by decide +kernel) (by decide +kernel) (by decide +kernel)

theorem wit_read_plain (h : Obligations.ReadsThatChangeState) : type_of% (h.2.2.2 up 0 0 0x40 8 _ _ _ _ (Or.inl _)) :=
  h.2.2.2 up 0 0 0x40 8 (by decide +kernel) (by decide +kernel) (by decide +kernel) (by decide +kernel) (Or.inl (by decide +kernel))

/-! ### Witnesses: ResponsesAndRepeats -/

theorem wit_rsp_result (h : Obligations.ResponsesAndRepeats) : type_of% ((h.1 (outSt resultReq (node [])) 5 (4 * 0x305) 1 3 0 (.result 9) resultReq _).1 _ (by intro a hh; cases hh) _) :=
  (h.1 (outSt resultReq (node [])) 5 (4 * 0x305) 1 3 0 (.result 9) resultReq (by decide +kernel)).1 (by decide +kernel) (by intro a hh; cases hh) (by decide +kernel)

theorem wit_rsp_memory (h : Obligations.ResponsesAndRepeats) : type_of% (((h.1 (outSt loadReq (node [])) 5 (4 * 0x381) 1 3 0 (.dataWord ⟨0x8765432112345678, false⟩) loadReq _).1 _ (by intro a hh; cases hh) _).2 _ _) :=
  ((h.1 (outSt loadReq (node [])) 5 (4 * 0x381) 1 3 0 (.dataWord ⟨0x8765432112345678, false⟩) loadReq (by decide +kernel)).1 (by decide +kernel) (by intro a hh; cases hh) (by decide +kernel)).2 (by decide +kernel) (by decide +kernel)

theorem wit_rsp_orphan (h : Obligations.ResponsesAndRepeats) : type_of% ((h.1 (outSt resultReq (node [])) 5 (4 * 0x305) 1 3 0 (.refused 6) resultReq _).2.1 rfl) :=
  (h.1 (outSt resultReq (node [])) 5 (4 * 0x305) 1 3 0 (.refused 6) resultReq (by decide +kernel)).2.1 rfl

theorem wit_rsp_wait (h : Obligations.ResponsesAndRepeats) : type_of% ((h.1 (outSt resultReq (node [])) 5 (4 * 0x305) 1 3 0 .wait resultReq _).2.2.1 rfl (by intro a b hh; cases hh)) :=
  (h.1 (outSt resultReq (node [])) 5 (4 * 0x305) 1 3 0 .wait resultReq (by decide +kernel)).2.2.1 rfl (by intro a b hh; cases hh)

theorem wit_rsp_busy (h : Obligations.ResponsesAndRepeats) : type_of% (((h.1 (outSt { resultReq with busyN := 7 } (node [])) 5 (4 * 0x305) 1 3 0 (.busyRetry 64) { resultReq with busyN := 7 } _).2.2.2 64 rfl).1 _) :=
  ((h.1 (outSt { resultReq with busyN := 7 } (node [])) 5 (4 * 0x305) 1 3 0 (.busyRetry 64) { resultReq with busyN := 7 } (by decide +kernel)).2.2.2 64 rfl).1 (by decide +kernel)

theorem wit_rsp_busy_ninth (h : Obligations.ResponsesAndRepeats) : type_of% (((h.1 (outSt { resultReq with busyN := 8 } (node [])) 5 (4 * 0x305) 1 3 0 (.busyRetry 64) { resultReq with busyN := 8 } _).2.2.2 64 rfl).2 _) :=
  ((h.1 (outSt { resultReq with busyN := 8 } (node [])) 5 (4 * 0x305) 1 3 0 (.busyRetry 64) { resultReq with busyN := 8 } (by decide +kernel)).2.2.2 64 rfl).2 (by decide +kernel)

theorem wit_final_result (h : Obligations.ResponsesAndRepeats) : type_of% ((h.2.1 (node []) resultReq _).1 9 1 rfl) :=
  (h.2.1 (node []) resultReq (by decide +kernel)).1 9 1 rfl

theorem wit_final_load (h : Obligations.ResponsesAndRepeats) : type_of% ((h.2.1 (node []) loadReq _).2.1 ⟨0x8765432112345678, false⟩ 1 16 true rfl) :=
  (h.2.1 (node []) loadReq (by decide +kernel)).2.1 ⟨0x8765432112345678, false⟩ 1 16 true rfl

theorem wit_final_load_vec (h : Obligations.ResponsesAndRepeats) : type_of% ((h.2.1 (node []) { loadReq with use := .load 1 64 false true } _).2.2.1 [1, 2] 1 1 64 false rfl) :=
  (h.2.1 (node []) { loadReq with use := .load 1 64 false true } (by decide +kernel)).2.2.1 [1, 2] 1 1 64 false rfl

theorem wit_final_aadd (h : Obligations.ResponsesAndRepeats) : type_of% ((h.2.1 (node []) { loadReq with use := .aadd 1 32 } _).2.2.2 ⟨0x8765432112345678, false⟩ 1 32 rfl) :=
  (h.2.1 (node []) { loadReq with use := .aadd 1 32 } (by decide +kernel)).2.2.2 ⟨0x8765432112345678, false⟩ 1 32 rfl

theorem wit_rsp_none (h : Obligations.ResponsesAndRepeats) : type_of% (h.2.2.1 (node []) 5 (4 * 0x305) 1 3 0 (.result 9) _ _ _) :=
  h.2.2.1 (node []) 5 (4 * 0x305) 1 3 0 (.result 9) (by decide +kernel) (by decide +kernel) (by decide +kernel)

theorem wit_rsp_busy_repeat (h : Obligations.ResponsesAndRepeats) : type_of% (h.2.2.2.1 (outSt { resultReq with timer := none, busyAt := some 100000, busyN := 3 } (node [])) 5 0 0x305 { part := 1, tag := 3 } { resultReq with timer := none, busyAt := some 100000, busyN := 3 } _ _ _) :=
  h.2.2.2.1 (outSt { resultReq with timer := none, busyAt := some 100000, busyN := 3 } (node [])) 5 0 0x305 { part := 1, tag := 3 } { resultReq with timer := none, busyAt := some 100000, busyN := 3 } (by decide +kernel) (by decide +kernel) (by decide +kernel)

theorem wit_rsp_spawn_repeat (h : Obligations.ResponsesAndRepeats) : type_of% (h.2.2.2.2 (outSt spawnReq (node [])) 5 0x304 { part := 1, tag := 3 } spawnReq _ _ _) :=
  h.2.2.2.2 (outSt spawnReq (node [])) 5 0x304 { part := 1, tag := 3 } spawnReq (by decide +kernel) (by decide +kernel) (by decide +kernel)

/-! ### Witnesses: KernelEntryAndEnd -/

theorem wit_kern_entry (h : Obligations.KernelEntryAndEnd) : type_of% (h.1 (nodeTh [] (fun t => { t with block := some (.kernel 1 0x40 0x10) })) 5 1 0x40 0x10 _ _ _ _ _) :=
  h.1 (nodeTh [] (fun t => { t with block := some (.kernel 1 0x40 0x10) })) 5 1 0x40 0x10 (by decide +kernel) (by decide +kernel) (by decide +kernel) (by decide +kernel) (by decide +kernel)

theorem wit_kern_end (h : Obligations.KernelEntryAndEnd) : type_of% (h.2.2.2.1 (kern 0 (fun t => { t with kern := { t.kern with exit := some 7, stalls := 5, writes := [{ due := 30, reg := 2, val := 99 }] } })) 5 7 _ _ _ _ _) :=
  h.2.2.2.1 (kern 0 (fun t => { t with kern := { t.kern with exit := some 7, stalls := 5, writes := [{ due := 30, reg := 2, val := 99 }] } })) 5 7 (by decide +kernel) (by decide +kernel) (by decide +kernel) (by decide +kernel) (by decide +kernel)

theorem wit_kern_guard (h : Obligations.KernelEntryAndEnd) : type_of% (h.2.2.2.2 (kern 0) 5 _ _) :=
  h.2.2.2.2 (kern 0) 5 (by decide +kernel) (by decide +kernel)

theorem wit_kern_waitc (h : Obligations.KernelEntryAndEnd) : type_of% ((h.2.1 (kern 0 (fun t => { t with xcnt := t.xcnt.set 2 9, kern := { t.kern with hold := some { cnt := 2, thr := 9, since := 99000 } } })) 5 { cnt := 2, thr := 9, since := 99000 } _ _ _).1 _) :=
  (h.2.1 (kern 0 (fun t => { t with xcnt := t.xcnt.set 2 9, kern := { t.kern with hold := some { cnt := 2, thr := 9, since := 99000 } } })) 5 { cnt := 2, thr := 9, since := 99000 } (by decide +kernel) (by decide +kernel) (by decide +kernel)).1 (by decide +kernel)

theorem wit_kern_waitc_timeout (h : Obligations.KernelEntryAndEnd) : type_of% (h.2.2.1 (kern 0 (fun t => { t with waitLimit := 3, xcnt := t.xcnt.set 2 8, kern := { t.kern with hold := some { cnt := 2, thr := 9, since := 99232 } } })) 5 { cnt := 2, thr := 9, since := 99232 } _ _ _ _ _) :=
  h.2.2.1 (kern 0 (fun t => { t with waitLimit := 3, xcnt := t.xcnt.set 2 8, kern := { t.kern with hold := some { cnt := 2, thr := 9, since := 99232 } } })) 5 { cnt := 2, thr := 9, since := 99232 } (by decide +kernel) (by decide +kernel) (by decide +kernel) (by decide +kernel) (by decide +kernel)

/-! ### Witnesses: BundleIssue -/

theorem wit_bundle_alu (h : Obligations.BundleIssue) : type_of% ((h.2.2 (kern (syl 0 9 1 2 3)) 5 _ _ _ _ _ _ _ _ _ _ _).1 (sylOf 0x40 (syl 0 9 1 2 3)) 0x44 _ _ _ _ _ _) :=
  (h.2.2 (kern (syl 0 9 1 2 3)) 5 (by decide +kernel) (by decide +kernel) (by decide +kernel) (by decide +kernel) (by decide +kernel) (by decide +kernel) (by decide +kernel) (by decide +kernel) (by decide +kernel) (by decide +kernel) (by decide +kernel)).1 (sylOf 0x40 (syl 0 9 1 2 3)) 0x44 (by decide +kernel) (by decide +kernel) (by decide +kernel) (by decide +kernel) (by decide +kernel) (by decide +kernel)

theorem wit_bundle_nop (h : Obligations.BundleIssue) : type_of% ((h.2.2 (kern (syl 0 0 0 0 5)) 5 _ _ _ _ _ _ _ _ _ _ _).2.1 (sylOf 0x40 (syl 0 0 0 0 5)) 0x44 _ _ _) :=
  (h.2.2 (kern (syl 0 0 0 0 5)) 5 (by decide +kernel) (by decide +kernel) (by decide +kernel) (by decide +kernel) (by decide +kernel) (by decide +kernel) (by decide +kernel) (by decide +kernel) (by decide +kernel) (by decide +kernel) (by decide +kernel)).2.1 (sylOf 0x40 (syl 0 0 0 0 5)) 0x44 (by decide +kernel) (by decide +kernel) (by decide +kernel)

theorem wit_bundle_exit (h : Obligations.BundleIssue) : type_of% ((h.2.2 (kern (syl 0 0x38 0 1 2)) 5 _ _ _ _ _ _ _ _ _ _ _).2.2.1 (sylOf 0x40 (syl 0 0x38 0 1 2)) 0x44 _ _ _ _) :=
  (h.2.2 (kern (syl 0 0x38 0 1 2)) 5 (by decide +kernel) (by decide +kernel) (by decide +kernel) (by decide +kernel) (by decide +kernel) (by decide +kernel) (by decide +kernel) (by decide +kernel) (by decide +kernel) (by decide +kernel) (by decide +kernel)).2.2.1 (sylOf 0x40 (syl 0 0x38 0 1 2)) 0x44 (by decide +kernel) (by decide +kernel) (by decide +kernel) (by decide +kernel)

theorem wit_bundle_waitc (h : Obligations.BundleIssue) : type_of% (((h.2.2 (kern (syl 4 0x10 2 8 0)) 5 _ _ _ _ _ _ _ _ _ _ _).2.2.2.1 (sylOf 0x40 (syl 4 0x10 2 8 0)) 0x44 _ _ _ _).1 _) :=
  ((h.2.2 (kern (syl 4 0x10 2 8 0)) 5 (by decide +kernel) (by decide +kernel) (by decide +kernel) (by decide +kernel) (by decide +kernel) (by decide +kernel) (by decide +kernel) (by decide +kernel) (by decide +kernel) (by decide +kernel) (by decide +kernel)).2.2.2.1 (sylOf 0x40 (syl 4 0x10 2 8 0)) 0x44 (by decide +kernel) (by decide +kernel) (by decide +kernel) (by decide +kernel)).1 (by decide +kernel)

theorem wit_bundle_waitc_pass (h : Obligations.BundleIssue) : type_of% (((h.2.2 (kern (syl 4 0x10 2 8 0) (fun t => { t with xcnt := List.replicate 8 24 })) 5 _ _ _ _ _ _ _ _ _ _ _).2.2.2.1 (sylOf 0x40 (syl 4 0x10 2 8 0)) 0x44 _ _ _ _).2 _ _) :=
  ((h.2.2 (kern (syl 4 0x10 2 8 0) (fun t => { t with xcnt := List.replicate 8 24 })) 5 (by decide +kernel) (by decide +kernel) (by decide +kernel) (by decide +kernel) (by decide +kernel) (by decide +kernel) (by decide +kernel) (by decide +kernel) (by decide +kernel) (by decide +kernel) (by decide +kernel)).2.2.2.1 (sylOf 0x40 (syl 4 0x10 2 8 0)) 0x44 (by decide +kernel) (by decide +kernel) (by decide +kernel) (by decide +kernel)).2 (by decide +kernel) (by decide +kernel)

theorem wit_bundle_illegal (h : Obligations.BundleIssue) : type_of% ((h.2.2 (kern (syl 0 9 31 2 3)) 5 _ _ _ _ _ _ _ _ _ _ _).2.2.2.2 0 _) :=
  (h.2.2 (kern (syl 0 9 31 2 3)) 5 (by decide +kernel) (by decide +kernel) (by decide +kernel) (by decide +kernel) (by decide +kernel) (by decide +kernel) (by decide +kernel) (by decide +kernel) (by decide +kernel) (by decide +kernel) (by decide +kernel)).2.2.2.2 0 (by decide +kernel)

theorem wit_bundle_any (h : Obligations.BundleIssue) : type_of% (h.1 (kern (syl 0 9 1 2 3)) 5 _) :=
  h.1 (kern (syl 0 9 1 2 3)) 5 (by decide +kernel)

theorem wit_bundle_outside (h : Obligations.BundleIssue) : type_of% ((h.2.1 (kern (syl 0 9 1 2 3) (fun t => { t with kern := { t.kern with pc := 0x20000 } })) 5 20).1 _) :=
  (h.2.1 (kern (syl 0 9 1 2 3) (fun t => { t with kern := { t.kern with pc := 0x20000 } })) 5 20).1 (by decide +kernel)

theorem wit_bundle_issues (h : Obligations.BundleIssue) : type_of% (((h.2.1 (kern (syl 0 9 1 2 3)) 5 20).2.1 (kern (syl 0 9 1 2 3)) [(sylOf 0x40 (syl 0 9 1 2 3))] 0x44 _ _ (fetchLines_clean _ _ _ _ rfl rfl)).2 (none_of _)) :=
  ((h.2.1 (kern (syl 0 9 1 2 3)) 5 20).2.1 (kern (syl 0 9 1 2 3)) [(sylOf 0x40 (syl 0 9 1 2 3))] 0x44 (by decide +kernel) (by decide +kernel) (fetchLines_clean _ _ _ _ rfl rfl)).2 (none_of (by decide +kernel))

theorem wit_bundle_holds (h : Obligations.BundleIssue) : type_of% (((h.2.1 (kern (syl 4 0x10 2 8 0)) 5 20).2.1 (kern (syl 4 0x10 2 8 0)) [(sylOf 0x40 (syl 4 0x10 2 8 0))] 0x44 _ _ (fetchLines_clean _ _ _ _ rfl rfl)).1 ((holdBundle (kern (syl 4 0x10 2 8 0)) 5 ([(sylOf 0x40 (syl 4 0x10 2 8 0))].filter (Syl.runs (kern (syl 4 0x10 2 8 0)) 5))).getD up) (gives _)) :=
  ((h.2.1 (kern (syl 4 0x10 2 8 0)) 5 20).2.1 (kern (syl 4 0x10 2 8 0)) [(sylOf 0x40 (syl 4 0x10 2 8 0))] 0x44 (by decide +kernel) (by decide +kernel) (fetchLines_clean _ _ _ _ rfl rfl)).1 ((holdBundle (kern (syl 4 0x10 2 8 0)) 5 ([(sylOf 0x40 (syl 4 0x10 2 8 0))].filter (Syl.runs (kern (syl 4 0x10 2 8 0)) 5))).getD up) (gives (by decide +kernel))

theorem wit_bundle_bad_line (h : Obligations.BundleIssue) : type_of% ((h.2.1 (kern (syl 4 0x10 2 8 0) (fun t => { t with istoreBad := [1] })) 5 20).2.2 (fetchLines (kern (syl 4 0x10 2 8 0) (fun t => { t with istoreBad := [1] })) 5 1 1).1 1 [(sylOf 0x40 (syl 4 0x10 2 8 0))] 0x44 _ _ (pair_of _)) :=
  (h.2.1 (kern (syl 4 0x10 2 8 0) (fun t => { t with istoreBad := [1] })) 5 20).2.2 (fetchLines (kern (syl 4 0x10 2 8 0) (fun t => { t with istoreBad := [1] })) 5 1 1).1 1 [(sylOf 0x40 (syl 4 0x10 2 8 0))] 0x44 (by decide +kernel) (by decide +kernel) (pair_of (by decide +kernel))

/-! ### Witnesses: WindowJobs -/

theorem wit_job_end (h : Obligations.WindowJobs) : type_of% (h.2.2 (jobSt 21) 5 (wjob 21) _ _ _ _ _) :=
  h.2.2 (jobSt 21) 5 (wjob 21) (by decide +kernel) (by decide +kernel) (by decide +kernel) (by decide +kernel) (by decide +kernel)

theorem wit_job_none (h : Obligations.WindowJobs) : type_of% ((h.1 (jobSt 13) (jobAccess (jobTurn (jobSt 13) 5 (wjob 13)) 5 (kernWindow (tileAt (jobSt 13) 5)).1 (wjob 13)).1 5 (wjob 13) (jobAccess (jobTurn (jobSt 13) 5 (wjob 13)) 5 (kernWindow (tileAt (jobSt 13) 5)).1 (wjob 13)).2.1 _).1 (trip_of _)) :=
  (h.1 (jobSt 13) (jobAccess (jobTurn (jobSt 13) 5 (wjob 13)) 5 (kernWindow (tileAt (jobSt 13) 5)).1 (wjob 13)).1 5 (wjob 13) (jobAccess (jobTurn (jobSt 13) 5 (wjob 13)) 5 (kernWindow (tileAt (jobSt 13) 5)).1 (wjob 13)).2.1 (by decide +kernel)).1 (trip_of (by decide +kernel))

theorem wit_job_bias (h : Obligations.WindowJobs) : type_of% ((h.1 (jobSt 17) (jobAccess (jobTurn (jobSt 17) 5 (wjob 17)) 5 (kernWindow (tileAt (jobSt 17) 5)).1 (wjob 17)).1 5 (wjob 17) (jobAccess (jobTurn (jobSt 17) 5 (wjob 17)) 5 (kernWindow (tileAt (jobSt 17) 5)).1 (wjob 17)).2.1 _).1 (trip_of _)) :=
  (h.1 (jobSt 17) (jobAccess (jobTurn (jobSt 17) 5 (wjob 17)) 5 (kernWindow (tileAt (jobSt 17) 5)).1 (wjob 17)).1 5 (wjob 17) (jobAccess (jobTurn (jobSt 17) 5 (wjob 17)) 5 (kernWindow (tileAt (jobSt 17) 5)).1 (wjob 17)).2.1 (by decide +kernel)).1 (trip_of (by decide +kernel))

theorem wit_job_bias_poison (h : Obligations.WindowJobs) : type_of% ((h.1 (jobSt 17 (fun t => { t with framePoison := [9] })) (jobAccess (jobTurn (jobSt 17 (fun t => { t with framePoison := [9] })) 5 (wjob 17)) 5 (kernWindow (tileAt (jobSt 17 (fun t => { t with framePoison := [9] })) 5)).1 (wjob 17)).1 5 (wjob 17) (jobAccess (jobTurn (jobSt 17 (fun t => { t with framePoison := [9] })) 5 (wjob 17)) 5 (kernWindow (tileAt (jobSt 17 (fun t => { t with framePoison := [9] })) 5)).1 (wjob 17)).2.1 _).2 72 (trip_of _)) :=
  (h.1 (jobSt 17 (fun t => { t with framePoison := [9] })) (jobAccess (jobTurn (jobSt 17 (fun t => { t with framePoison := [9] })) 5 (wjob 17)) 5 (kernWindow (tileAt (jobSt 17 (fun t => { t with framePoison := [9] })) 5)).1 (wjob 17)).1 5 (wjob 17) (jobAccess (jobTurn (jobSt 17 (fun t => { t with framePoison := [9] })) 5 (wjob 17)) 5 (kernWindow (tileAt (jobSt 17 (fun t => { t with framePoison := [9] })) 5)).1 (wjob 17)).2.1 (by decide +kernel)).2 72 (trip_of (by decide +kernel))

theorem wit_job_next (h : Obligations.WindowJobs) : type_of% ((h.2.1 (jobSt 13) 5 0 (wjob 13)).1 _) :=
  (h.2.1 (jobSt 13) 5 0 (wjob 13)).1 (by decide +kernel)

theorem wit_job_no_access (h : Obligations.WindowJobs) : type_of% ((h.2.1 (jobSt 13) 5 0 (wjob 13)).2.1 _) :=
  (h.2.1 (jobSt 13) 5 0 (wjob 13)).2.1 (by decide +kernel)

theorem wit_job_write (h : Obligations.WindowJobs) : type_of% ((h.2.1 (jobSt 19) 5 0 (wjob 19)).2.2.1 0 _) :=
  (h.2.1 (jobSt 19) 5 0 (wjob 19)).2.2.1 0 (by decide +kernel)

theorem wit_job_input (h : Obligations.WindowJobs) : type_of% ((h.2.1 (jobSt 0) 5 0 (wjob 0)).2.2.2.1 (Or.inl ⟨0, 0, Or.inl _⟩)) :=
  (h.2.1 (jobSt 0) 5 0 (wjob 0)).2.2.2.1 (Or.inl ⟨0, 0, Or.inl (by decide +kernel)⟩)

theorem wit_job_bias_read (h : Obligations.WindowJobs) : type_of% ((h.2.1 (jobSt 17) 5 0 (wjob 17)).2.2.2.1 (Or.inr _)) :=
  (h.2.1 (jobSt 17) 5 0 (wjob 17)).2.2.2.1 (Or.inr (by decide +kernel))

theorem wit_job_bias_values (h : Obligations.WindowJobs) : type_of% ((h.2.1 (jobSt 17) 5 0 (wjob 17)).2.2.2.2 _ _) :=
  (h.2.1 (jobSt 17) 5 0 (wjob 17)).2.2.2.2 (by decide +kernel) (by decide +kernel)

/-! ### Witnesses: Transfers -/

theorem wit_xfer_start (h : Obligations.Transfers) : type_of% (((h.1 (xferSt [xfer0]) 5 xfer0 _ _).1 _ _ _).1 _) :=
  ((h.1 (xferSt [xfer0]) 5 xfer0 (by decide +kernel) (by decide +kernel)).1 (by decide +kernel) (by decide +kernel) (by decide +kernel)).1 (by decide +kernel)

theorem wit_xfer_start_unmapped (h : Obligations.Transfers) : type_of% (((h.1 (xferSt [{ xfer0 with raw := leBytes 64 (leNat xferBytes + 2 ^ 20) }]) 5 { xfer0 with raw := leBytes 64 (leNat xferBytes + 2 ^ 20) } _ _).1 _ _ _).2 ((xferAddrFault (xferSt [{ xfer0 with raw := leBytes 64 (leNat xferBytes + 2 ^ 20) }]) 5 (parseXfer { xfer0 with raw := leBytes 64 (leNat xferBytes + 2 ^ 20) } (leNat ({ xfer0 with raw := leBytes 64 (leNat xferBytes + 2 ^ 20) } : Xfer).raw))).getD (0, 0)).1 ((xferAddrFault (xferSt [{ xfer0 with raw := leBytes 64 (leNat xferBytes + 2 ^ 20) }]) 5 (parseXfer { xfer0 with raw := leBytes 64 (leNat xferBytes + 2 ^ 20) } (leNat ({ xfer0 with raw := leBytes 64 (leNat xferBytes + 2 ^ 20) } : Xfer).raw))).getD (0, 0)).2 _) :=
  ((h.1 (xferSt [{ xfer0 with raw := leBytes 64 (leNat xferBytes + 2 ^ 20) }]) 5 { xfer0 with raw := leBytes 64 (leNat xferBytes + 2 ^ 20) } (by decide +kernel) (by decide +kernel)).1 (by decide +kernel) (by decide +kernel) (by decide +kernel)).2 ((xferAddrFault (xferSt [{ xfer0 with raw := leBytes 64 (leNat xferBytes + 2 ^ 20) }]) 5 (parseXfer { xfer0 with raw := leBytes 64 (leNat xferBytes + 2 ^ 20) } (leNat ({ xfer0 with raw := leBytes 64 (leNat xferBytes + 2 ^ 20) } : Xfer).raw))).getD (0, 0)).1 ((xferAddrFault (xferSt [{ xfer0 with raw := leBytes 64 (leNat xferBytes + 2 ^ 20) }]) 5 (parseXfer { xfer0 with raw := leBytes 64 (leNat xferBytes + 2 ^ 20) } (leNat ({ xfer0 with raw := leBytes 64 (leNat xferBytes + 2 ^ 20) } : Xfer).raw))).getD (0, 0)).2 (by decide +kernel)

theorem wit_xfer_start_bad (h : Obligations.Transfers) : type_of% ((h.1 (xferSt [{ xfer0 with raw := leBytes 64 7 }]) 5 { xfer0 with raw := leBytes 64 7 } _ _).2.1 (Or.inr _)) :=
  (h.1 (xferSt [{ xfer0 with raw := leBytes 64 7 }]) 5 { xfer0 with raw := leBytes 64 7 } (by decide +kernel) (by decide +kernel)).2.1 (Or.inr (by decide +kernel))

theorem wit_xfer_start_unread (h : Obligations.Transfers) : type_of% ((h.1 (xferSt [{ xfer0 with raw := [] }]) 5 { xfer0 with raw := [] } _ _).2.1 (Or.inl _)) :=
  (h.1 (xferSt [{ xfer0 with raw := [] }]) 5 { xfer0 with raw := [] } (by decide +kernel) (by decide +kernel)).2.1 (Or.inl (by decide +kernel))

theorem wit_xfer_start_poison (h : Obligations.Transfers) : type_of% ((h.1 (xferSt [{ xfer0 with rawPoison := true }]) 5 { xfer0 with rawPoison := true } _ _).2.2 _ _) :=
  (h.1 (xferSt [{ xfer0 with rawPoison := true }]) 5 { xfer0 with rawPoison := true } (by decide +kernel) (by decide +kernel)).2.2 (by decide +kernel) (by decide +kernel)

theorem wit_xfer_fault_kernel (h : Obligations.Transfers) : type_of% ((h.2.1 (kernXfer 4 xfer0) 5 Kind.transferDescInvalid 0 { xfer0 with kern := 4 } _).1 _ _) :=
  (h.2.1 (kernXfer 4 xfer0) 5 Kind.transferDescInvalid 0 { xfer0 with kern := 4 } (by decide +kernel)).1 (by decide +kernel) (by decide +kernel)

theorem wit_xfer_fault_ended (h : Obligations.Transfers) : type_of% ((h.2.1 (kernXfer 3 xfer0) 5 Kind.transferDescInvalid 0 { xfer0 with kern := 3 } _).2.1 (Or.inr _)) :=
  (h.2.1 (kernXfer 3 xfer0) 5 Kind.transferDescInvalid 0 { xfer0 with kern := 3 } (by decide +kernel)).2.1 (Or.inr (by decide +kernel))

theorem wit_xfer_fault_slot (h : Obligations.Transfers) : type_of% ((h.2.1 (kernXfer 3 xfer0) 5 Kind.transferDescInvalid 0 { xfer0 with kern := 3 } _).2.2 { xfer0 with kern := 3 } _ _) :=
  (h.2.1 (kernXfer 3 xfer0) 5 Kind.transferDescInvalid 0 { xfer0 with kern := 3 } (by decide +kernel)).2.2 { xfer0 with kern := 3 } (by decide +kernel) (by decide +kernel)

theorem wit_xfer_line (h : Obligations.Transfers) : type_of% ((h.2.2.1 (xferSt [xfer1]) 5 xfer1 _ _ _ _).1 _) :=
  (h.2.2.1 (xferSt [xfer1]) 5 xfer1 (by decide +kernel) (by decide +kernel) (by decide +kernel) (by decide +kernel)).1 (by decide +kernel)

theorem wit_xfer_line_dst (h : Obligations.Transfers) : type_of% ((h.2.2.1 (xferSt [xferD]) 5 xferD _ _ _ _).2 _) :=
  (h.2.2.1 (xferSt [xferD]) 5 xferD (by decide +kernel) (by decide +kernel) (by decide +kernel) (by decide +kernel)).2 (by decide +kernel)

theorem wit_xfer_read_stand (h : Obligations.Transfers) : type_of% ((h.2.2.2.1 (xferSt [xfer1]) 5 0 xfer1).1 17 0x40 _) :=
  (h.2.2.2.1 (xferSt [xfer1]) 5 0 xfer1).1 17 0x40 (by decide +kernel)

theorem wit_xfer_read_host (h : Obligations.Transfers) : type_of% ((h.2.2.2.1 (xferSt [xfer1]) 5 1 { xfer1 with src := 0x100000000000 }).2.1 0x80 _) :=
  (h.2.2.2.1 (xferSt [xfer1]) 5 1 { xfer1 with src := 0x100000000000 }).2.1 0x80 (by decide +kernel)

theorem wit_xfer_read_own (h : Obligations.Transfers) : type_of% ((h.2.2.2.1 (xferSt [xfer1]) 5 0 { xfer1 with src := 0x40 }).2.2 0x40 _ _ rfl) :=
  (h.2.2.2.1 (xferSt [xfer1]) 5 0 { xfer1 with src := 0x40 }).2.2 0x40 _ (by decide +kernel) rfl

theorem wit_xfer_land (h : Obligations.Transfers) : type_of% ((h.2.2.2.2.1 (xferSt []) 5 0x41 2 0x5A rq9 (leBytes 64 (2 ^ 200 + 77)) (some 3) _ _ _ _ _ _).1 _ _ _) :=
  (h.2.2.2.2.1 (xferSt []) 5 0x41 2 0x5A rq9 (leBytes 64 (2 ^ 200 + 77)) (some 3) (by decide +kernel) (by decide +kernel) (by decide +kernel) (by decide +kernel) (by decide +kernel) (by decide +kernel)).1 (by decide +kernel) (by decide +kernel) (by decide +kernel)

theorem wit_xfer_land_refused (h : Obligations.Transfers) : type_of% ((h.2.2.2.2.1 (xferSt []) 5 0x10041 2 0x5A rq9 (leBytes 64 (2 ^ 200 + 77)) (some 3) _ _ _ _ _ _).2.1 1 _ _ _) :=
  (h.2.2.2.2.1 (xferSt []) 5 0x10041 2 0x5A rq9 (leBytes 64 (2 ^ 200 + 77)) (some 3) (by decide +kernel) (by decide +kernel) (by decide +kernel) (by decide +kernel) (by decide +kernel) (by decide +kernel)).2.1 1 (by decide +kernel) (by decide +kernel) (by decide +kernel)

theorem wit_xfer_land_own (h : Obligations.Transfers) : type_of% ((h.2.2.2.2.1 (xferSt []) 5 0x41 2 0x5A rq5 (leBytes 64 (2 ^ 200 + 77)) (some 3) _ _ _ _ _ _).2.2 _ _ _) :=
  (h.2.2.2.2.1 (xferSt []) 5 0x41 2 0x5A rq5 (leBytes 64 (2 ^ 200 + 77)) (some 3) (by decide +kernel) (by decide +kernel) (by decide +kernel) (by decide +kernel) (by decide +kernel) (by decide +kernel)).2.2 (by decide +kernel) (by decide +kernel) (by decide +kernel)

theorem wit_xfer_complete (h : Obligations.Transfers) : type_of% (h.2.2.2.2.2 (xferSt [xfer2]) 5 2 xfer2 _ _ _ _ _ _ _) :=
  h.2.2.2.2.2 (xferSt [xfer2]) 5 2 xfer2 (by decide +kernel) (by decide +kernel) (by decide +kernel) (by decide +kernel) (by decide +kernel) (by decide +kernel) (by decide +kernel)

/-! ### Witnesses: Loader -/

theorem wit_klb_open (h : Obligations.Loader) : type_of% (h.1.1 up zif _) :=
  h.1.1 up zif (by decide +kernel)

theorem wit_x_klb_digest (h : Obligations.Loader) : type_of% (h.1.2.1 (zif.set 500 1) _) :=
  h.1.2.1 (zif.set 500 1) (by decide +kernel)

theorem wit_klb_open_bad (h : Obligations.Loader) : type_of% (h.1.2.2.1 up (zif.set 500 1) { code := 2 } _) :=
  h.1.2.2.1 up (zif.set 500 1) { code := 2 } (by decide +kernel)

theorem wit_klb_bind (h : Obligations.Loader) : type_of% (h.1.2.2.2.1 (imageSt 0) 0 (2 ^ 64 + 9) 0 [0x42, 0x41, 0x53, 0x45] (img 0) _ _ _ (fun h => absurd h (by decide)) (fun h => absurd h (by decide))) :=
  h.1.2.2.2.1 (imageSt 0) 0 (2 ^ 64 + 9) 0 [0x42, 0x41, 0x53, 0x45] (img 0) (by decide +kernel) (by decide +kernel) (by decide +kernel) (fun h => absurd h (by decide)) (fun h => absurd h (by decide))

theorem wit_klb_place (h : Obligations.Loader) : type_of% (h.1.2.2.2.2.1 (imageSt 0) 0 1 1 (img 0) _ _ _ _ _) :=
  h.1.2.2.2.2.1 (imageSt 0) 0 1 1 (img 0) (by decide +kernel) (by decide +kernel) (by decide +kernel) (by decide +kernel) (by decide +kernel)

theorem wit_x_klb_fold (h : Obligations.Loader) : type_of% (h.1.2.2.2.2.2.1 zif [1] 1 _) :=
  h.1.2.2.2.2.2.1 zif [1] 1 (by decide +kernel)

theorem wit_klb_query (h : Obligations.Loader) : type_of% (h.1.2.2.2.2.2.2 (imageSt 1) 0 3 (img 1) _ _ _) :=
  h.1.2.2.2.2.2.2 (imageSt 1) 0 3 (img 1) (by decide +kernel) (by decide +kernel) (by decide +kernel)

theorem wit_klb_load (h : Obligations.Loader) : type_of% ((h.2.1.1 (imageSt 1) (allocMany (imageSt 1) 1 (reqContexts (img 1).file)).1 0 5 (img 1) (allocMany (imageSt 1) 1 (reqContexts (img 1).file)).2 _ _ _ _ _ _ rfl rfl).1 _ _) :=
  (h.2.1.1 (imageSt 1) (allocMany (imageSt 1) 1 (reqContexts (img 1).file)).1 0 5 (img 1) (allocMany (imageSt 1) 1 (reqContexts (img 1).file)).2 _ (by decide +kernel) (by decide +kernel) (by decide +kernel) (by decide +kernel) (by decide +kernel) rfl rfl).1 (by decide +kernel) (by decide +kernel)

theorem wit_klb_load_proposes (h : Obligations.Loader) : type_of% ((h.2.1.1 (imageSt 1 unboundP1) (allocMany (imageSt 1 unboundP1) 1 (reqContexts (img 1).file)).1 0 5 (img 1) (allocMany (imageSt 1 unboundP1) 1 (reqContexts (img 1).file)).2 _ _ _ _ _ _ rfl rfl).2.1 _ _) :=
  (h.2.1.1 (imageSt 1 unboundP1) (allocMany (imageSt 1 unboundP1) 1 (reqContexts (img 1).file)).1 0 5 (img 1) (allocMany (imageSt 1 unboundP1) 1 (reqContexts (img 1).file)).2 _ (by decide +kernel) (by decide +kernel) (by decide +kernel) (by decide +kernel) (by decide +kernel) rfl rfl).2.1 (by decide +kernel) (by decide +kernel)

theorem wit_klb_load_no_context (h : Obligations.Loader) : type_of% ((h.2.1.1 (imageSt 1 noFree) (allocMany (imageSt 1 noFree) 1 (reqContexts (img 1).file)).1 0 5 (img 1) (allocMany (imageSt 1 noFree) 1 (reqContexts (img 1).file)).2 _ _ _ _ _ _ rfl rfl).2.2 _) :=
  (h.2.1.1 (imageSt 1 noFree) (allocMany (imageSt 1 noFree) 1 (reqContexts (img 1).file)).1 0 5 (img 1) (allocMany (imageSt 1 noFree) 1 (reqContexts (img 1).file)).2 _ (by decide +kernel) (by decide +kernel) (by decide +kernel) (by decide +kernel) (by decide +kernel) rfl rfl).2.2 (by decide +kernel)

theorem wit_klb_load_commits (h : Obligations.Loader) : type_of% ((h.2.1.2.1 (jobKl 1 (ljob 0 (some 0))) 0 5 (img 1) (ljob 0 (some 0)) _ _ _ _ _).1 _) :=
  (h.2.1.2.1 (jobKl 1 (ljob 0 (some 0))) 0 5 (img 1) (ljob 0 (some 0)) (by decide +kernel) (by decide +kernel) (by decide +kernel) (by decide +kernel) (by decide +kernel)).1 (by decide +kernel)

theorem wit_klb_load_custody (h : Obligations.Loader) : type_of% ((h.2.1.2.1 (jobKl 1 (ljob 0 (some 9))) 0 5 (img 1) (ljob 0 (some 9)) _ _ _ _ _).2.1 9 _ _) :=
  (h.2.1.2.1 (jobKl 1 (ljob 0 (some 9))) 0 5 (img 1) (ljob 0 (some 9)) (by decide +kernel) (by decide +kernel) (by decide +kernel) (by decide +kernel) (by decide +kernel)).2.1 9 (by decide +kernel) (by decide +kernel)

theorem wit_klb_load_waits (h : Obligations.Loader) : type_of% ((h.2.1.2.1 (jobKl 1 (ljob 0 none)) 0 5 (img 1) (ljob 0 none) _ _ _ _ _).2.2 _ _) :=
  (h.2.1.2.1 (jobKl 1 (ljob 0 none)) 0 5 (img 1) (ljob 0 none) (by decide +kernel) (by decide +kernel) (by decide +kernel) (by decide +kernel) (by decide +kernel)).2.2 (by decide +kernel) (by decide +kernel)

theorem wit_klb_write_done (h : Obligations.Loader) : type_of% (((h.2.1.2.2.1 (imageSt 1) (img 1) (ljob 1)).2.1 (loadRun (imageSt 1) (ljob 1) ((loadDescs { (img 1) with ctxs := (ljob 1).ctxs }).drop (ljob 1).sent)).1 (loadRun (imageSt 1) (ljob 1) ((loadDescs { (img 1) with ctxs := (ljob 1).ctxs }).drop (ljob 1).sent)).2.1 .done _ (trip_of _)).1 _) :=
  ((h.2.1.2.2.1 (imageSt 1) (img 1) (ljob 1)).2.1 (loadRun (imageSt 1) (ljob 1) ((loadDescs { (img 1) with ctxs := (ljob 1).ctxs }).drop (ljob 1).sent)).1 (loadRun (imageSt 1) (ljob 1) ((loadDescs { (img 1) with ctxs := (ljob 1).ctxs }).drop (ljob 1).sent)).2.1 .done (by decide +kernel) (trip_of (by decide +kernel))).1 (by decide +kernel)

theorem wit_klb_write_fails (h : Obligations.Loader) : type_of% (((h.2.1.2.2.1 (imageSt 1 busyP1) (img 1) (ljob 1)).2.1 (loadRun (imageSt 1 busyP1) (ljob 1) ((loadDescs { (img 1) with ctxs := (ljob 1).ctxs }).drop (ljob 1).sent)).1 (loadRun (imageSt 1 busyP1) (ljob 1) ((loadDescs { (img 1) with ctxs := (ljob 1).ctxs }).drop (ljob 1).sent)).2.1 (loadRun (imageSt 1 busyP1) (ljob 1) ((loadDescs { (img 1) with ctxs := (ljob 1).ctxs }).drop (ljob 1).sent)).2.2 _ rfl).2.2 { code := 14, unit := some 5, status := some 0x15 } _) :=
  ((h.2.1.2.2.1 (imageSt 1 busyP1) (img 1) (ljob 1)).2.1 (loadRun (imageSt 1 busyP1) (ljob 1) ((loadDescs { (img 1) with ctxs := (ljob 1).ctxs }).drop (ljob 1).sent)).1 (loadRun (imageSt 1 busyP1) (ljob 1) ((loadDescs { (img 1) with ctxs := (ljob 1).ctxs }).drop (ljob 1).sent)).2.1 (loadRun (imageSt 1 busyP1) (ljob 1) ((loadDescs { (img 1) with ctxs := (ljob 1).ctxs }).drop (ljob 1).sent)).2.2 (by decide +kernel) rfl).2.2 { code := 14, unit := some 5, status := some 0x15 } (by decide +kernel)

theorem wit_klb_write_waits (h : Obligations.Loader) : type_of% (((h.2.1.2.2.1 (imageSt 1) (img 1) ljobLater).2.1 (loadRun (imageSt 1) ljobLater ((loadDescs { (img 1) with ctxs := ljobLater.ctxs }).drop ljobLater.sent)).1 (loadRun (imageSt 1) ljobLater ((loadDescs { (img 1) with ctxs := ljobLater.ctxs }).drop ljobLater.sent)).2.1 .waits _ (trip_of _)).2.1 _) :=
  ((h.2.1.2.2.1 (imageSt 1) (img 1) ljobLater).2.1 (loadRun (imageSt 1) ljobLater ((loadDescs { (img 1) with ctxs := ljobLater.ctxs }).drop ljobLater.sent)).1 (loadRun (imageSt 1) ljobLater ((loadDescs { (img 1) with ctxs := ljobLater.ctxs }).drop ljobLater.sent)).2.1 .waits (by decide +kernel) (trip_of (by decide +kernel))).2.1 (by decide +kernel)

theorem wit_klb_write_error (h : Obligations.Loader) : type_of% ((h.2.1.2.2.1 (imageSt 1) { img 1 with file := badPatch } (ljob 1)).1 { code := 11, sect := some 4, record := some 0, vt := some 0, unit := some 4 } _) :=
  (h.2.1.2.2.1 (imageSt 1) { img 1 with file := badPatch } (ljob 1)).1 { code := 11, sect := some 4, record := some 0, vt := some 0, unit := some 4 } (by decide +kernel)

theorem wit_klb_fail (h : Obligations.Loader) : type_of% ((h.2.1.2.2.1 (imageSt 1) (img 1) (ljob 1)).2.2 { code := 14 } _ _) :=
  (h.2.1.2.2.1 (imageSt 1) (img 1) (ljob 1)).2.2 { code := 14 } (by decide +kernel) (by decide +kernel)

theorem wit_klb_run_one (h : Obligations.Loader) : type_of% (h.2.1.2.2.2.1 p1 (loadSend p1 5 (ringAt p1 5).nextSeq (.code 5 0 [1, 2, 3])).1 (ljob 1) (.code 5 0 [1, 2, 3]) [] (loadSend p1 5 (ringAt p1 5).nextSeq (.code 5 0 [1, 2, 3])).2.2 _ _ _ _ (mid_of _) _) :=
  h.2.1.2.2.2.1 p1 (loadSend p1 5 (ringAt p1 5).nextSeq (.code 5 0 [1, 2, 3])).1 (ljob 1) (.code 5 0 [1, 2, 3]) [] (loadSend p1 5 (ringAt p1 5).nextSeq (.code 5 0 [1, 2, 3])).2.2 (by decide +kernel) (by decide +kernel) (by decide +kernel) (by decide +kernel) (mid_of (by decide +kernel)) (by decide +kernel)

theorem wit_klb_code (h : Obligations.Loader) : type_of% (h.2.1.2.2.2.2 p1 5 5 0x40 [1, 2, 3] _) :=
  h.2.1.2.2.2.2 p1 5 5 0x40 [1, 2, 3] (by decide +kernel)

theorem wit_klb_start (h : Obligations.Loader) : type_of% (h.2.2.1 (imageSt 2) 0 5 (img 2) _ _ _ _ _) :=
  h.2.2.1 (imageSt 2) 0 5 (img 2) (by decide +kernel) (by decide +kernel) (by decide +kernel) (by decide +kernel) (by decide +kernel)

theorem wit_klb_start_on (h : Obligations.Loader) : type_of% (h.2.2.2.1 (jobKl 2 { handle := 0, service := 1, rs := 5, part := 1, phase := 1 }) 0 5 (img 2) { handle := 0, service := 1, rs := 5, part := 1, phase := 1 } _ _ _ _ _) :=
  h.2.2.2.1 (jobKl 2 { handle := 0, service := 1, rs := 5, part := 1, phase := 1 }) 0 5 (img 2) { handle := 0, service := 1, rs := 5, part := 1, phase := 1 } (by decide +kernel) (by decide +kernel) (by decide +kernel) (by decide +kernel) (by decide +kernel)

theorem wit_klb_inject (h : Obligations.Loader) : type_of% (h.2.2.2.2.1 (imageSt 2) (loadRun (imageSt 2) { handle := 0, service := 1, rs := 5, part := 1, phase := 1 } ((startDescs (img 2)).drop 0)).1 (img 2) { handle := 0, service := 1, rs := 5, part := 1, phase := 1 } (loadRun (imageSt 2) { handle := 0, service := 1, rs := 5, part := 1, phase := 1 } ((startDescs (img 2)).drop 0)).2.1 (trip_of _)) :=
  h.2.2.2.2.1 (imageSt 2) (loadRun (imageSt 2) { handle := 0, service := 1, rs := 5, part := 1, phase := 1 } ((startDescs (img 2)).drop 0)).1 (img 2) { handle := 0, service := 1, rs := 5, part := 1, phase := 1 } (loadRun (imageSt 2) { handle := 0, service := 1, rs := 5, part := 1, phase := 1 } ((startDescs (img 2)).drop 0)).2.1 (trip_of (by decide +kernel))

theorem wit_klb_unload (h : Obligations.Loader) : type_of% ((h.2.2.2.2.2.1 (imageSt 3 liveSt) (releaseAll (imageSt 3 liveSt) 1 [3]).1 0 5 (img 3) _ _ (Or.inr _) _ _ _ (pair_of _) rfl).2.2 { part := 1, ctx := 3, tiles := [4, 5, 6, 7] } _ _) :=
  (h.2.2.2.2.2.1 (imageSt 3 liveSt) (releaseAll (imageSt 3 liveSt) 1 [3]).1 0 5 (img 3) _ (by decide +kernel) (Or.inr (by decide +kernel)) (by decide +kernel) (by decide +kernel) (by decide +kernel) (pair_of (by decide +kernel)) rfl).2.2 { part := 1, ctx := 3, tiles := [4, 5, 6, 7] } (by decide +kernel) (by decide +kernel)

theorem wit_klb_unload_ends (h : Obligations.Loader) : type_of% ((h.2.2.2.2.2.1 noCtxSt noCtxSt 0 5 imgNoCtx _ _ (Or.inr _) _ _ _ rfl rfl).2.1 _) :=
  (h.2.2.2.2.2.1 noCtxSt noCtxSt 0 5 imgNoCtx _ (by decide +kernel) (Or.inr (by decide +kernel)) (by decide +kernel) (by decide +kernel) (by decide +kernel) rfl rfl).2.1 (by decide +kernel)

theorem wit_klb_state (h : Obligations.Loader) : type_of% (h.2.2.2.2.2.2.1 (imageSt 2) 0 5 (.klbLoad 0 5) (img 2) _ (Or.inl ⟨rfl, _⟩)) :=
  h.2.2.2.2.2.2.1 (imageSt 2) 0 5 (.klbLoad 0 5) (img 2) (by decide +kernel) (Or.inl ⟨rfl, (by decide +kernel)⟩)

theorem wit_klb_state_start (h : Obligations.Loader) : type_of% (h.2.2.2.2.2.2.1 (imageSt 1) 0 5 (.klbStart 0 5) (img 1) _ (Or.inr (Or.inl ⟨rfl, _⟩))) :=
  h.2.2.2.2.2.2.1 (imageSt 1) 0 5 (.klbStart 0 5) (img 1) (by decide +kernel) (Or.inr (Or.inl ⟨rfl, (by decide +kernel)⟩))

theorem wit_klb_state_unload (h : Obligations.Loader) : type_of% (h.2.2.2.2.2.2.1 (imageSt 1) 0 5 (.klbUnload 0 5) (img 1) _ (Or.inr (Or.inr ⟨rfl, _, _⟩))) :=
  h.2.2.2.2.2.2.1 (imageSt 1) 0 5 (.klbUnload 0 5) (img 1) (by decide +kernel) (Or.inr (Or.inr ⟨rfl, (by decide +kernel), (by decide +kernel)⟩))

theorem wit_klb_ring_fails (h : Obligations.Loader) : type_of% (h.2.2.2.2.2.2.2 (imageSt 2) 0 6 (.klbStart 0 6) (img 2) { code := 14 } _ _ _ (Or.inr (Or.inl ⟨rfl, _, _⟩))) :=
  h.2.2.2.2.2.2.2 (imageSt 2) 0 6 (.klbStart 0 6) (img 2) { code := 14 } (by decide +kernel) (by decide +kernel) (by decide +kernel) (Or.inr (Or.inl ⟨rfl, (by decide +kernel), (by decide +kernel)⟩))

/-! ### Witnesses: SifterJobs -/

theorem wit_sift_submit (h : Obligations.SifterJobs) : type_of% ((h.1 (sifSt [] []) 2 0x200003000 2 7 rq9 _ _ _ _).1 _ _) :=
  (h.1 (sifSt [] []) 2 0x200003000 2 7 rq9 (by decide +kernel) (by decide +kernel) (by decide +kernel) (by decide +kernel)).1 (by decide +kernel) (by decide +kernel)

theorem wit_sift_submit_full (h : Obligations.SifterJobs) : type_of% ((h.1 (sifSt (List.replicate 8 sjob) []) 2 0x200003000 2 7 rq9 _ _ _ _).2 _) :=
  (h.1 (sifSt (List.replicate 8 sjob) []) 2 0x200003000 2 7 rq9 (by decide +kernel) (by decide +kernel) (by decide +kernel) (by decide +kernel)).2 (by decide +kernel)

theorem wit_sift_admit (h : Obligations.SifterJobs) : type_of% ((h.2.1 (sifSt [sjob] []) (setSif (sifSt [sjob] []) 2 { sifAt (sifSt [sjob] []) 2 with queue := (sifAt (sifSt [sjob] []) 2).queue.filter (fun y => y.id != (sjob : SJob).id), jobs := (sifAt (sifSt [sjob] []) 2).jobs ++ [{ (sjob : SJob) with start := now (sifSt [sjob] []) }] }) 2 sjob _ _ _ _ _ rfl).1 _ _ _ _ _) :=
  (h.2.1 (sifSt [sjob] []) (setSif (sifSt [sjob] []) 2 { sifAt (sifSt [sjob] []) 2 with queue := (sifAt (sifSt [sjob] []) 2).queue.filter (fun y => y.id != (sjob : SJob).id), jobs := (sifAt (sifSt [sjob] []) 2).jobs ++ [{ (sjob : SJob) with start := now (sifSt [sjob] []) }] }) 2 sjob (by decide +kernel) (by decide +kernel) (by decide +kernel) (by decide +kernel) (by decide +kernel) rfl).1 (by decide +kernel) (by decide +kernel) (by decide +kernel) (by decide +kernel) (by decide +kernel)

theorem wit_sift_admit_bad (h : Obligations.SifterJobs) : type_of% ((h.2.1 (sifSt [{ sjob with desc := 0x200003020 }] []) (setSif (sifSt [{ sjob with desc := 0x200003020 }] []) 2 { sifAt (sifSt [{ sjob with desc := 0x200003020 }] []) 2 with queue := (sifAt (sifSt [{ sjob with desc := 0x200003020 }] []) 2).queue.filter (fun y => y.id != ({ sjob with desc := 0x200003020 } : SJob).id), jobs := (sifAt (sifSt [{ sjob with desc := 0x200003020 }] []) 2).jobs ++ [{ ({ sjob with desc := 0x200003020 } : SJob) with start := now (sifSt [{ sjob with desc := 0x200003020 }] []) }] }) 2 { sjob with desc := 0x200003020 } _ _ _ _ _ rfl).2.1 _) :=
  (h.2.1 (sifSt [{ sjob with desc := 0x200003020 }] []) (setSif (sifSt [{ sjob with desc := 0x200003020 }] []) 2 { sifAt (sifSt [{ sjob with desc := 0x200003020 }] []) 2 with queue := (sifAt (sifSt [{ sjob with desc := 0x200003020 }] []) 2).queue.filter (fun y => y.id != ({ sjob with desc := 0x200003020 } : SJob).id), jobs := (sifAt (sifSt [{ sjob with desc := 0x200003020 }] []) 2).jobs ++ [{ ({ sjob with desc := 0x200003020 } : SJob) with start := now (sifSt [{ sjob with desc := 0x200003020 }] []) }] }) 2 { sjob with desc := 0x200003020 } (by decide +kernel) (by decide +kernel) (by decide +kernel) (by decide +kernel) (by decide +kernel) rfl).2.1 (by decide +kernel)

theorem wit_sift_admit_outside (h : Obligations.SifterJobs) : type_of% ((h.2.1 (sifSt [{ sjob with desc := 0x204000000 }] []) (setSif (sifSt [{ sjob with desc := 0x204000000 }] []) 2 { sifAt (sifSt [{ sjob with desc := 0x204000000 }] []) 2 with queue := (sifAt (sifSt [{ sjob with desc := 0x204000000 }] []) 2).queue.filter (fun y => y.id != ({ sjob with desc := 0x204000000 } : SJob).id), jobs := (sifAt (sifSt [{ sjob with desc := 0x204000000 }] []) 2).jobs ++ [{ ({ sjob with desc := 0x204000000 } : SJob) with start := now (sifSt [{ sjob with desc := 0x204000000 }] []) }] }) 2 { sjob with desc := 0x204000000 } _ _ _ _ _ rfl).2.2 _ _) :=
  (h.2.1 (sifSt [{ sjob with desc := 0x204000000 }] []) (setSif (sifSt [{ sjob with desc := 0x204000000 }] []) 2 { sifAt (sifSt [{ sjob with desc := 0x204000000 }] []) 2 with queue := (sifAt (sifSt [{ sjob with desc := 0x204000000 }] []) 2).queue.filter (fun y => y.id != ({ sjob with desc := 0x204000000 } : SJob).id), jobs := (sifAt (sifSt [{ sjob with desc := 0x204000000 }] []) 2).jobs ++ [{ ({ sjob with desc := 0x204000000 } : SJob) with start := now (sifSt [{ sjob with desc := 0x204000000 }] []) }] }) 2 { sjob with desc := 0x204000000 } (by decide +kernel) (by decide +kernel) (by decide +kernel) (by decide +kernel) (by decide +kernel) rfl).2.2 (by decide +kernel) (by decide +kernel)

theorem wit_sift_goes_on (h : Obligations.SifterJobs) : type_of% ((h.2.2.1 (let s := sifSt [] [sjob1 []]; setSif s 2 { sifAt s 2 with cur := some 4 }) 2 (sjob1 []) _ _).1 _ _) :=
  (h.2.2.1 (let s := sifSt [] [sjob1 []]; setSif s 2 { sifAt s 2 with cur := some 4 }) 2 (sjob1 []) (by decide +kernel) (by decide +kernel)).1 (by decide +kernel) (by decide +kernel)

theorem wit_sift_ready (h : Obligations.SifterJobs) : type_of% ((h.2.2.1 (sifSt [] [(sjob1 [])]) 2 (sjob1 []) _ _).2.1 _ _ _) :=
  (h.2.2.1 (sifSt [] [(sjob1 [])]) 2 (sjob1 []) (by decide +kernel) (by decide +kernel)).2.1 (by decide +kernel) (by decide +kernel) (by decide +kernel)

theorem wit_sift_need (h : Obligations.SifterJobs) : type_of% ((h.2.2.1 (sifSt [] [(sjob1 [])]) 2 (sjob1 []) _ _).2.2.1 0x200000040 _) :=
  (h.2.2.1 (sifSt [] [(sjob1 [])]) 2 (sjob1 []) (by decide +kernel) (by decide +kernel)).2.2.1 0x200000040 (by decide +kernel)

theorem wit_sift_ask (h : Obligations.SifterJobs) : type_of% ((h.2.2.1 (sifSt [] [sjob1 []]) 2 (sjob1 []) _ _).2.2.2.1 0x200000040 0x2CD { space := 1, off := 0x100040 } _ _) :=
  (h.2.2.1 (sifSt [] [sjob1 []]) 2 (sjob1 []) (by decide +kernel) (by decide +kernel)).2.2.2.1 0x200000040 0x2CD { space := 1, off := 0x100040 } (by decide +kernel) (by decide +kernel)

theorem wit_sift_row_writes (h : Obligations.SifterJobs) : type_of% (((h.2.2.1 (sifSt [] [(sjob1 [siftLine 0x200000000 5, siftLine 0x200000040 20])]) 2 (sjob1 [siftLine 0x200000000 5, siftLine 0x200000040 20]) _ _).2.2.2.2 (segOf (sjob1 [siftLine 0x200000000 5, siftLine 0x200000040 20])) (sifSt [] [(sjob1 [siftLine 0x200000000 5, siftLine 0x200000040 20])]) (sifStores ((segOf (sjob1 [siftLine 0x200000000 5, siftLine 0x200000040 20])).faults.foldl (fun s f => sifRaise s 2 (sjob1 [siftLine 0x200000000 5, siftLine 0x200000040 20]) f.1 f.2) (sifSt [] [(sjob1 [siftLine 0x200000000 5, siftLine 0x200000040 20])])) 2 (sjob1 [siftLine 0x200000000 5, siftLine 0x200000040 20]) (segOf (sjob1 [siftLine 0x200000000 5, siftLine 0x200000040 20])).writes).1 _ rfl (pair_of _)).2 _) :=
  ((h.2.2.1 (sifSt [] [(sjob1 [siftLine 0x200000000 5, siftLine 0x200000040 20])]) 2 (sjob1 [siftLine 0x200000000 5, siftLine 0x200000040 20]) (by decide +kernel) (by decide +kernel)).2.2.2.2 (segOf (sjob1 [siftLine 0x200000000 5, siftLine 0x200000040 20])) (sifSt [] [(sjob1 [siftLine 0x200000000 5, siftLine 0x200000040 20])]) (sifStores ((segOf (sjob1 [siftLine 0x200000000 5, siftLine 0x200000040 20])).faults.foldl (fun s f => sifRaise s 2 (sjob1 [siftLine 0x200000000 5, siftLine 0x200000040 20]) f.1 f.2) (sifSt [] [(sjob1 [siftLine 0x200000000 5, siftLine 0x200000040 20])])) 2 (sjob1 [siftLine 0x200000000 5, siftLine 0x200000040 20]) (segOf (sjob1 [siftLine 0x200000000 5, siftLine 0x200000040 20])).writes).1 (by decide +kernel) rfl (pair_of (by decide +kernel))).2 (by decide +kernel)

theorem wit_sift_row (h : Obligations.SifterJobs) : type_of% (((h.2.2.1 (sifSt [] [(sjob1 [siftLine 0x200000040 5])]) 2 (sjob1 [siftLine 0x200000040 5]) _ _).2.2.2.2 (segOf (sjob1 [siftLine 0x200000040 5])) (sifSt [] [(sjob1 [siftLine 0x200000040 5])]) (sifStores ((segOf (sjob1 [siftLine 0x200000040 5])).faults.foldl (fun s f => sifRaise s 2 (sjob1 [siftLine 0x200000040 5]) f.1 f.2) (sifSt [] [(sjob1 [siftLine 0x200000040 5])])) 2 (sjob1 [siftLine 0x200000040 5]) (segOf (sjob1 [siftLine 0x200000040 5])).writes).1 _ rfl (pair_of _)).2 _) :=
  ((h.2.2.1 (sifSt [] [(sjob1 [siftLine 0x200000040 5])]) 2 (sjob1 [siftLine 0x200000040 5]) (by decide +kernel) (by decide +kernel)).2.2.2.2 (segOf (sjob1 [siftLine 0x200000040 5])) (sifSt [] [(sjob1 [siftLine 0x200000040 5])]) (sifStores ((segOf (sjob1 [siftLine 0x200000040 5])).faults.foldl (fun s f => sifRaise s 2 (sjob1 [siftLine 0x200000040 5]) f.1 f.2) (sifSt [] [(sjob1 [siftLine 0x200000040 5])])) 2 (sjob1 [siftLine 0x200000040 5]) (segOf (sjob1 [siftLine 0x200000040 5])).writes).1 (by decide +kernel) rfl (pair_of (by decide +kernel))).2 (by decide +kernel)

theorem wit_sift_bad (h : Obligations.SifterJobs) : type_of% (((h.2.2.1 (sifSt [] [(sjob1 [(0x200000040, (leBytes 64 5, 1)), siftLine 0x200000000 5])]) 2 (sjob1 [(0x200000040, (leBytes 64 5, 1)), siftLine 0x200000000 5]) _ _).2.2.2.2 (segOf (sjob1 [(0x200000040, (leBytes 64 5, 1)), siftLine 0x200000000 5])) (sifSt [] [(sjob1 [(0x200000040, (leBytes 64 5, 1)), siftLine 0x200000000 5])]) (sifStores ((segOf (sjob1 [(0x200000040, (leBytes 64 5, 1)), siftLine 0x200000000 5])).faults.foldl (fun s f => sifRaise s 2 (sjob1 [(0x200000040, (leBytes 64 5, 1)), siftLine 0x200000000 5]) f.1 f.2) (sifSt [] [(sjob1 [(0x200000040, (leBytes 64 5, 1)), siftLine 0x200000000 5])])) 2 (sjob1 [(0x200000040, (leBytes 64 5, 1)), siftLine 0x200000000 5]) (segOf (sjob1 [(0x200000040, (leBytes 64 5, 1)), siftLine 0x200000000 5])).writes).1 _ rfl (pair_of _)).1 Kind.siftPoisonConsumed 0x200000040 _) :=
  ((h.2.2.1 (sifSt [] [(sjob1 [(0x200000040, (leBytes 64 5, 1)), siftLine 0x200000000 5])]) 2 (sjob1 [(0x200000040, (leBytes 64 5, 1)), siftLine 0x200000000 5]) (by decide +kernel) (by decide +kernel)).2.2.2.2 (segOf (sjob1 [(0x200000040, (leBytes 64 5, 1)), siftLine 0x200000000 5])) (sifSt [] [(sjob1 [(0x200000040, (leBytes 64 5, 1)), siftLine 0x200000000 5])]) (sifStores ((segOf (sjob1 [(0x200000040, (leBytes 64 5, 1)), siftLine 0x200000000 5])).faults.foldl (fun s f => sifRaise s 2 (sjob1 [(0x200000040, (leBytes 64 5, 1)), siftLine 0x200000000 5]) f.1 f.2) (sifSt [] [(sjob1 [(0x200000040, (leBytes 64 5, 1)), siftLine 0x200000000 5])])) 2 (sjob1 [(0x200000040, (leBytes 64 5, 1)), siftLine 0x200000000 5]) (segOf (sjob1 [(0x200000040, (leBytes 64 5, 1)), siftLine 0x200000000 5])).writes).1 (by decide +kernel) rfl (pair_of (by decide +kernel))).1 Kind.siftPoisonConsumed 0x200000040 (by decide +kernel)

theorem wit_sift_stop (h : Obligations.SifterJobs) : type_of% ((h.2.2.2.1 (sifSt [] [sjob1 []]) 2 Kind.siftPoisonConsumed 0x40 (sjob1 []) _ _).1 { sjob1 [] with phase := 4, fault := some Kind.siftPoisonConsumed, faultAddr := 0x40 } _ _) :=
  (h.2.2.2.1 (sifSt [] [sjob1 []]) 2 Kind.siftPoisonConsumed 0x40 (sjob1 []) (by decide +kernel) (by decide +kernel)).1 { sjob1 [] with phase := 4, fault := some Kind.siftPoisonConsumed, faultAddr := 0x40 } (by decide +kernel) (by decide +kernel)

theorem wit_sift_refused_result (h : Obligations.SifterJobs) : type_of% ((h.2.2.2.2.1 (sifSt [] [{ sjob1 [] with phase := 4, resultOk := false }]) 2 { sjob1 [] with phase := 4, resultOk := false } _ _).1 _) :=
  (h.2.2.2.2.1 (sifSt [] [{ sjob1 [] with phase := 4, resultOk := false }]) 2 { sjob1 [] with phase := 4, resultOk := false } (by decide +kernel) (by decide +kernel)).1 (by decide +kernel)

theorem wit_sift_no_result (h : Obligations.SifterJobs) : type_of% ((h.2.2.2.2.1 (sifSt [] [{ sjob1 [] with phase := 4, resultOk := true, raw := leBytes 256 (leNat siftRaw + 2 ^ 64 * 0x100000) }]) 2 { sjob1 [] with phase := 4, resultOk := true, raw := leBytes 256 (leNat siftRaw + 2 ^ 64 * 0x100000) } _ _).2.1 _ _) :=
  (h.2.2.2.2.1 (sifSt [] [{ sjob1 [] with phase := 4, resultOk := true, raw := leBytes 256 (leNat siftRaw + 2 ^ 64 * 0x100000) }]) 2 { sjob1 [] with phase := 4, resultOk := true, raw := leBytes 256 (leNat siftRaw + 2 ^ 64 * 0x100000) } (by decide +kernel) (by decide +kernel)).2.1 (by decide +kernel) (by decide +kernel)

theorem wit_sift_result (h : Obligations.SifterJobs) : type_of% ((h.2.2.2.2.1 (sifSt [] [{ sjob1 [] with phase := 4, resultOk := true }]) 2 { sjob1 [] with phase := 4, resultOk := true } _ _).2.2 (sifEndAt (sifSt [] [{ sjob1 [] with phase := 4, resultOk := true }]) { sjob1 [] with phase := 4, resultOk := true }).1 (sifEndAt (sifSt [] [{ sjob1 [] with phase := 4, resultOk := true }]) { sjob1 [] with phase := 4, resultOk := true }).2 _ _ _ rfl rfl) :=
  (h.2.2.2.2.1 (sifSt [] [{ sjob1 [] with phase := 4, resultOk := true }]) 2 { sjob1 [] with phase := 4, resultOk := true } (by decide +kernel) (by decide +kernel)).2.2 (sifEndAt (sifSt [] [{ sjob1 [] with phase := 4, resultOk := true }]) { sjob1 [] with phase := 4, resultOk := true }).1 (sifEndAt (sifSt [] [{ sjob1 [] with phase := 4, resultOk := true }]) { sjob1 [] with phase := 4, resultOk := true }).2 _ (by decide +kernel) (by decide +kernel) rfl rfl

theorem wit_sift_finish (h : Obligations.SifterJobs) : type_of% (h.2.2.2.2.2 (sifSt [] [sjob]) 2 sjob _ _ rfl) :=
  h.2.2.2.2.2 (sifSt [] [sjob]) 2 sjob (by decide +kernel) _ rfl

theorem wit_sift_finish_done (h : Obligations.SifterJobs) : type_of% ((h.2.2.2.2.2 (sifSt [] [sjob]) 2 sjob _ _ rfl).2.2.1 _) :=
  (h.2.2.2.2.2 (sifSt [] [sjob]) 2 sjob (by decide +kernel) _ rfl).2.2.1 (by decide +kernel)

theorem wit_sift_finish_failed (h : Obligations.SifterJobs) : type_of% ((h.2.2.2.2.2 (sifSt [] [{ sjob with fault := some 0x120 }]) 2 { sjob with fault := some 0x120 } _ _ rfl).2.2.2.1 0x120 _) :=
  (h.2.2.2.2.2 (sifSt [] [{ sjob with fault := some 0x120 }]) 2 { sjob with fault := some 0x120 } (by decide +kernel) _ rfl).2.2.2.1 0x120 (by decide +kernel)

theorem wit_sift_finish_bridge (h : Obligations.SifterJobs) : type_of% ((h.2.2.2.2.2 (sifSt [] [{ sjob with rq := { src := 4 * 0x381, part := 1, tag := 3 } }]) 2 { sjob with rq := { src := 4 * 0x381, part := 1, tag := 3 } } _ _ rfl).2.2.2.2.1 0 _) :=
  (h.2.2.2.2.2 (sifSt [] [{ sjob with rq := { src := 4 * 0x381, part := 1, tag := 3 } }]) 2 { sjob with rq := { src := 4 * 0x381, part := 1, tag := 3 } } (by decide +kernel) _ rfl).2.2.2.2.1 0 (by decide +kernel)

theorem wit_sift_finish_sched (h : Obligations.SifterJobs) : type_of% ((h.2.2.2.2.2 (sifSt [] [sjob]) 2 sjob _ _ rfl).2.2.2.2.2.1 _) :=
  (h.2.2.2.2.2 (sifSt [] [sjob]) 2 sjob (by decide +kernel) _ rfl).2.2.2.2.2.1 (by decide +kernel)

theorem wit_sift_finish_event (h : Obligations.SifterJobs) : type_of% ((h.2.2.2.2.2 sifEv 2 { sjob with raw := leBytes 256 (2 ^ 8 + 2 ^ 16 * 7) } _ _ rfl).2.2.2.2.2.2 { unit := 9, slot := 2, gen := 4 } _ _) :=
  (h.2.2.2.2.2 sifEv 2 { sjob with raw := leBytes 256 (2 ^ 8 + 2 ^ 16 * 7) } (by decide +kernel) _ rfl).2.2.2.2.2.2 { unit := 9, slot := 2, gen := 4 } (by decide +kernel) (by decide +kernel)

/-! ### Witnesses: Admissions -/

theorem wit_admit_queued (h : Obligations.Admissions) : type_of% (h.1 (schSt 0 {} (fun q => { q with admitting := some { rq := rq9, idx := 3 } })) { rq9 with tag := 4 } areq _ _) :=
  h.1 (schSt 0 {} (fun q => { q with admitting := some { rq := rq9, idx := 3 } })) { rq9 with tag := 4 } areq (by decide +kernel) (by decide +kernel)

theorem wit_admit (h : Obligations.Admissions) : type_of% (((h.2 (schSt 0) rq9 areq _ _ _ _ rfl).1 7 { front := [], next := 20, stop := 65536 } ((if spawnCtxMode areq = 0 then some (areq.ctx, (schSt 0)) else allocCtx (schSt 0) 1).getD (0, up)).1 ((if spawnCtxMode areq = 0 then some (areq.ctx, (schSt 0)) else allocCtx (schSt 0) 1).getD (0, up)).2 _ _ _ _ _ _ (gives (d := (0, up)) _)).1 _) :=
  ((h.2 (schSt 0) rq9 areq _ (by decide +kernel) (by decide +kernel) (by decide +kernel) rfl).1 7 { front := [], next := 20, stop := 65536 } ((if spawnCtxMode areq = 0 then some (areq.ctx, (schSt 0)) else allocCtx (schSt 0) 1).getD (0, up)).1 ((if spawnCtxMode areq = 0 then some (areq.ctx, (schSt 0)) else allocCtx (schSt 0) 1).getD (0, up)).2 (by decide +kernel) (by decide +kernel) (by decide +kernel) (by decide +kernel) (by decide +kernel) (by decide +kernel) (gives (d := (0, up)) (by decide +kernel))).1 (by decide +kernel)

theorem wit_admit_ready (h : Obligations.Admissions) : type_of% (((h.2 (schSt 0) rq9 areqReady _ _ _ _ rfl).1 7 { front := [], next := 20, stop := 65536 } ((if spawnCtxMode areqReady = 0 then some (areqReady.ctx, (schSt 0)) else allocCtx (schSt 0) 1).getD (0, up)).1 ((if spawnCtxMode areqReady = 0 then some (areqReady.ctx, (schSt 0)) else allocCtx (schSt 0) 1).getD (0, up)).2 _ _ _ _ _ _ (gives (d := (0, up)) _)).1 _) :=
  ((h.2 (schSt 0) rq9 areqReady _ (by decide +kernel) (by decide +kernel) (by decide +kernel) rfl).1 7 { front := [], next := 20, stop := 65536 } ((if spawnCtxMode areqReady = 0 then some (areqReady.ctx, (schSt 0)) else allocCtx (schSt 0) 1).getD (0, up)).1 ((if spawnCtxMode areqReady = 0 then some (areqReady.ctx, (schSt 0)) else allocCtx (schSt 0) 1).getD (0, up)).2 (by decide +kernel) (by decide +kernel) (by decide +kernel) (by decide +kernel) (by decide +kernel) (by decide +kernel) (gives (d := (0, up)) (by decide +kernel))).1 (by decide +kernel)

theorem wit_admit_fresh (h : Obligations.Admissions) : type_of% (((h.2 (schSt 0) rq9 areqFresh _ _ _ _ rfl).1 7 { front := [], next := 20, stop := 65536 } ((if spawnCtxMode areqFresh = 0 then some (areqFresh.ctx, (schSt 0)) else allocCtx (schSt 0) 1).getD (0, up)).1 ((if spawnCtxMode areqFresh = 0 then some (areqFresh.ctx, (schSt 0)) else allocCtx (schSt 0) 1).getD (0, up)).2 _ _ _ _ _ _ (gives (d := (0, up)) _)).1 _) :=
  ((h.2 (schSt 0) rq9 areqFresh _ (by decide +kernel) (by decide +kernel) (by decide +kernel) rfl).1 7 { front := [], next := 20, stop := 65536 } ((if spawnCtxMode areqFresh = 0 then some (areqFresh.ctx, (schSt 0)) else allocCtx (schSt 0) 1).getD (0, up)).1 ((if spawnCtxMode areqFresh = 0 then some (areqFresh.ctx, (schSt 0)) else allocCtx (schSt 0) 1).getD (0, up)).2 (by decide +kernel) (by decide +kernel) (by decide +kernel) (by decide +kernel) (by decide +kernel) (by decide +kernel) (gives (d := (0, up)) (by decide +kernel))).1 (by decide +kernel)

theorem wit_admit_trail (h : Obligations.Admissions) : type_of% (((h.2 (schSt 0 {} (fun q => { q with classes := q.classes.set 1 { q.classes.getD 1 {} with trailValid := true, trail := 8 } })) rq9 areqTrail _ _ _ _ rfl).1 7 { front := [], next := 20, stop := 65536 } ((if spawnCtxMode areqTrail = 0 then some (areqTrail.ctx, (schSt 0 {} (fun q => { q with classes := q.classes.set 1 { q.classes.getD 1 {} with trailValid := true, trail := 8 } }))) else allocCtx (schSt 0 {} (fun q => { q with classes := q.classes.set 1 { q.classes.getD 1 {} with trailValid := true, trail := 8 } })) 1).getD (0, up)).1 ((if spawnCtxMode areqTrail = 0 then some (areqTrail.ctx, (schSt 0 {} (fun q => { q with classes := q.classes.set 1 { q.classes.getD 1 {} with trailValid := true, trail := 8 } }))) else allocCtx (schSt 0 {} (fun q => { q with classes := q.classes.set 1 { q.classes.getD 1 {} with trailValid := true, trail := 8 } })) 1).getD (0, up)).2 _ _ _ _ _ _ (gives (d := (0, up)) _)).2 8 _) :=
  ((h.2 (schSt 0 {} (fun q => { q with classes := q.classes.set 1 { q.classes.getD 1 {} with trailValid := true, trail := 8 } })) rq9 areqTrail _ (by decide +kernel) (by decide +kernel) (by decide +kernel) rfl).1 7 { front := [], next := 20, stop := 65536 } ((if spawnCtxMode areqTrail = 0 then some (areqTrail.ctx, (schSt 0 {} (fun q => { q with classes := q.classes.set 1 { q.classes.getD 1 {} with trailValid := true, trail := 8 } }))) else allocCtx (schSt 0 {} (fun q => { q with classes := q.classes.set 1 { q.classes.getD 1 {} with trailValid := true, trail := 8 } })) 1).getD (0, up)).1 ((if spawnCtxMode areqTrail = 0 then some (areqTrail.ctx, (schSt 0 {} (fun q => { q with classes := q.classes.set 1 { q.classes.getD 1 {} with trailValid := true, trail := 8 } }))) else allocCtx (schSt 0 {} (fun q => { q with classes := q.classes.set 1 { q.classes.getD 1 {} with trailValid := true, trail := 8 } })) 1).getD (0, up)).2 (by decide +kernel) (by decide +kernel) (by decide +kernel) (by decide +kernel) (by decide +kernel) (by decide +kernel) (gives (d := (0, up)) (by decide +kernel))).2 8 (by decide +kernel)

theorem wit_admit_rights (h : Obligations.Admissions) : type_of% ((h.2 (schSt 0) { rq9 with part := 2 } areq _ _ _ _ rfl).2.1 (Or.inr _)) :=
  (h.2 (schSt 0) { rq9 with part := 2 } areq _ (by decide +kernel) (by decide +kernel) (by decide +kernel) rfl).2.1 (Or.inr (by decide +kernel))

theorem wit_admit_fields (h : Obligations.Admissions) : type_of% ((h.2 (schSt 0) rq9 { areq with spawn := areq.spawn + 2 ^ 57 } _ _ _ _ rfl).2.2.1 _ _ (Or.inl _)) :=
  (h.2 (schSt 0) rq9 { areq with spawn := areq.spawn + 2 ^ 57 } _ (by decide +kernel) (by decide +kernel) (by decide +kernel) rfl).2.2.1 (by decide +kernel) (by decide +kernel) (Or.inl (by decide +kernel))

theorem wit_admit_nowhere (h : Obligations.Admissions) : type_of% ((h.2 (schSt 0) rq9 areqNowhere _ _ _ _ rfl).2.2.1 _ _ (Or.inr _)) :=
  (h.2 (schSt 0) rq9 areqNowhere _ (by decide +kernel) (by decide +kernel) (by decide +kernel) rfl).2.2.1 (by decide +kernel) (by decide +kernel) (Or.inr (by decide +kernel))

theorem wit_admit_full (h : Obligations.Admissions) : type_of% (((h.2 (schSt 0 {} (fun q => { q with quotas := q.quotas.set 1 0 })) rq9 areq _ _ _ _ rfl).2.2.2 _ _ _ _).1 (Or.inl _)) :=
  ((h.2 (schSt 0 {} (fun q => { q with quotas := q.quotas.set 1 0 })) rq9 areq _ (by decide +kernel) (by decide +kernel) (by decide +kernel) rfl).2.2.2 (by decide +kernel) (by decide +kernel) (by decide +kernel) (by decide +kernel)).1 (Or.inl (by decide +kernel))

theorem wit_admit_no_context (h : Obligations.Admissions) : type_of% (((h.2 (noCtx (schSt 0)) rq9 areqFresh _ _ _ _ rfl).2.2.2 _ _ _ _).2 7 { front := [], next := 20, stop := 65536 } _ _ _ (none_of _)) :=
  ((h.2 (noCtx (schSt 0)) rq9 areqFresh _ (by decide +kernel) (by decide +kernel) (by decide +kernel) rfl).2.2.2 (by decide +kernel) (by decide +kernel) (by decide +kernel) (by decide +kernel)).2 7 { front := [], next := 20, stop := 65536 } (by decide +kernel) (by decide +kernel) (by decide +kernel) (none_of (by decide +kernel))

/-! ### Witnesses: DecrementsAndReadyStores -/

theorem wit_dec (h : Obligations.DecrementsAndReadyStores) : type_of% ((h.1 (schSt 0 { rec9 1 with dep := 3 }) rq9 h9 9 true _ _).1 _ _) :=
  (h.1 (schSt 0 { rec9 1 with dep := 3 }) rq9 h9 9 true (by decide +kernel) (by decide +kernel)).1 (by decide +kernel) (by decide +kernel)

theorem wit_dec_invalid (h : Obligations.DecrementsAndReadyStores) : type_of% (h.2.1 (schSt 0 (rec9 2)) rq9 (h9 + 1) false _ _) :=
  h.2.1 (schSt 0 (rec9 2)) rq9 (h9 + 1) false (by decide +kernel) (by decide +kernel)

theorem wit_dec_last (h : Obligations.DecrementsAndReadyStores) : type_of% ((h.1 (schSt 0 { rec9 1 with dep := 1 }) rq9 h9 9 true _ _).2.1 _ _ _) :=
  (h.1 (schSt 0 { rec9 1 with dep := 1 }) rq9 h9 9 true (by decide +kernel) (by decide +kernel)).2.1 (by decide +kernel) (by decide +kernel) (by decide +kernel)

theorem wit_dec_fails (h : Obligations.DecrementsAndReadyStores) : type_of% ((h.1 (schSt 0 { rec9 1 with dep := 1, propagate := true }) rq9 h9 9 true _ _).2.2.1 _ _ _ _) :=
  (h.1 (schSt 0 { rec9 1 with dep := 1, propagate := true }) rq9 h9 9 true (by decide +kernel) (by decide +kernel)).2.2.1 (by decide +kernel) (by decide +kernel) (by decide +kernel) (by decide +kernel)

theorem wit_dec_underflow (h : Obligations.DecrementsAndReadyStores) : type_of% ((h.1 (schSt 0 (rec9 2)) rq9 h9 9 true _ _).2.2.2 _) :=
  (h.1 (schSt 0 (rec9 2)) rq9 h9 9 true (by decide +kernel) (by decide +kernel)).2.2.2 (by decide +kernel)

theorem wit_store_entry (h : Obligations.DecrementsAndReadyStores) : type_of% (h.2.2.1 (schSt 0 (rec9 2) entering9) 9 _ _ _ _ rfl) :=
  h.2.2.1 (schSt 0 (rec9 2) entering9) 9 _ (by decide +kernel) (by decide +kernel) (by decide +kernel) rfl

theorem wit_store_join (h : Obligations.DecrementsAndReadyStores) : type_of% ((h.2.2.2 (schSt 0 (rec9 2)) 9 0 _).1 _ _) :=
  (h.2.2.2 (schSt 0 (rec9 2)) 9 0 (by decide +kernel)).1 (by decide +kernel) (by decide +kernel)

theorem wit_store_chain (h : Obligations.DecrementsAndReadyStores) : type_of% ((h.2.2.2 (schSt 0 (rec9 2) (fun q => { q with stores := q.stores.set 0 { ents := List.replicate 8192 8 } })) 9 0 _).2 (Or.inl _)) :=
  (h.2.2.2 (schSt 0 (rec9 2) (fun q => { q with stores := q.stores.set 0 { ents := List.replicate 8192 8 } })) 9 0 (by decide +kernel)).2 (Or.inl (by decide +kernel))

/-! ### Witnesses: Dispatches -/

theorem wit_push_unbound (h : Obligations.Dispatches) : type_of% ((h.1 (schSt 0 { rec9 2 with vtile := 9 } (ready9 0)) 0 _ _ _).1 9 _) :=
  (h.1 (schSt 0 { rec9 2 with vtile := 9 } (ready9 0)) 0 (by decide +kernel) (by decide +kernel) (by decide +kernel)).1 9 (by decide +kernel)

theorem wit_push_forwarded (h : Obligations.Dispatches) : type_of% (((h.1 (schSt 0 (rec9 2) (fwd9 0)) 0 _ _ _).2 _ (by intro t ht; cases ht)).1 9 2 [] _) :=
  ((h.1 (schSt 0 (rec9 2) (fwd9 0)) 0 (by decide +kernel) (by decide +kernel) (by decide +kernel)).2 (by decide +kernel) (by intro t ht; cases ht)).1 9 2 [] (by decide +kernel)

theorem wit_push_own (h : Obligations.Dispatches) : type_of% (((h.1 (schSt 0 (rec9 2) (ready9 0)) 0 _ _ _).2 _ (by intro t ht; cases ht)).2 9 2 6 _ _ _) :=
  ((h.1 (schSt 0 (rec9 2) (ready9 0)) 0 (by decide +kernel) (by decide +kernel) (by decide +kernel)).2 (by decide +kernel) (by intro t ht; cases ht)).2 9 2 6 (by decide +kernel) (by decide +kernel) (by decide +kernel)

theorem wit_push_clearing (h : Obligations.Dispatches) : type_of% (h.2.1 (schSt 0 (rec9 2) (ready9 4)) 9 2 6 _ _ _ _ _ _) :=
  h.2.1 (schSt 0 (rec9 2) (ready9 4)) 9 2 6 (by decide +kernel) (by decide +kernel) (by decide +kernel) (by decide +kernel) (by decide +kernel) (by decide +kernel)

theorem wit_push_to (h : Obligations.Dispatches) : type_of% ((h.2.2.1 (schSt 0 (rec9 2) (ready9 0)) 0 9 2 0 { unit := 6, slot := 0, gen := 1 } _ _ _ _).1 _ _) :=
  (h.2.2.1 (schSt 0 (rec9 2) (ready9 0)) 0 9 2 0 { unit := 6, slot := 0, gen := 1 } (by decide +kernel) (by decide +kernel) (by decide +kernel) (by decide +kernel)).1 (by decide +kernel) (by decide +kernel)

theorem wit_push_to_tiles (h : Obligations.Dispatches) : type_of% (((h.2.2.1 (schSt 0 (rec9 2) (ready9 0)) 0 9 2 0 { unit := 6, slot := 0, gen := 1 } _ _ _ _).1 _ _).2.2.2.2 7 _) :=
  ((h.2.2.1 (schSt 0 (rec9 2) (ready9 0)) 0 9 2 0 { unit := 6, slot := 0, gen := 1 } (by decide +kernel) (by decide +kernel) (by decide +kernel) (by decide +kernel)).1 (by decide +kernel) (by decide +kernel)).2.2.2.2 7 (by decide +kernel)

theorem wit_push_back (h : Obligations.Dispatches) : type_of% ((h.2.2.1 (fullSlots (schSt 0 (rec9 2) (fwd9 0))) 0 9 2 0 { unit := 6, slot := 0, gen := 1 } _ _ _ _).2 (Or.inl _)) :=
  (h.2.2.1 (fullSlots (schSt 0 (rec9 2) (fwd9 0))) 0 9 2 0 { unit := 6, slot := 0, gen := 1 } (by decide +kernel) (by decide +kernel) (by decide +kernel) (by decide +kernel)).2 (Or.inl (by decide +kernel))

theorem wit_take_arrival (h : Obligations.Dispatches) : type_of% ((h.2.2.2.1 (schSt 1 { rec9 2 with dispatch := 1 } (ready9 0)) 0 1 2 rq9 _ _).1 9 { unit := 6, slot := 0, gen := 1 } _ _ _ _ _ _ _ _) :=
  (h.2.2.2.1 (schSt 1 { rec9 2 with dispatch := 1 } (ready9 0)) 0 1 2 rq9 (by decide +kernel) (by decide +kernel)).1 9 { unit := 6, slot := 0, gen := 1 } (by decide +kernel) (by decide +kernel) (by decide +kernel) (by decide +kernel) (by decide +kernel) (by decide +kernel) (by decide +kernel) (by decide +kernel)

theorem wit_take_wait (h : Obligations.Dispatches) : type_of% ((h.2.2.2.1 (schSt 1) 0 1 2 rq9 _ _).2.1 _ _ _ _ (Or.inr _)) :=
  (h.2.2.2.1 (schSt 1) 0 1 2 rq9 (by decide +kernel) (by decide +kernel)).2.1 (by decide +kernel) (by decide +kernel) (by decide +kernel) (by decide +kernel) (Or.inr (by decide +kernel))

theorem wit_take_refused (h : Obligations.Dispatches) : type_of% ((h.2.2.2.1 (schSt 0) 0 64 2 rq9 _ _).2.2 (Or.inl _)) :=
  (h.2.2.2.1 (schSt 0) 0 64 2 rq9 (by decide +kernel) (by decide +kernel)).2.2 (Or.inl (by decide +kernel))

theorem wit_take_no_pull (h : Obligations.Dispatches) : type_of% ((h.2.2.2.1 (schSt 0) 0 1 2 rq9 _ _).2.2 (Or.inr (Or.inr (Or.inr _)))) :=
  (h.2.2.2.1 (schSt 0) 0 1 2 rq9 (by decide +kernel) (by decide +kernel)).2.2 (Or.inr (Or.inr (Or.inr (by decide +kernel))))

theorem wit_take_cancel (h : Obligations.Dispatches) : type_of% ((h.2.2.2.2.1 (schSt 1 {} (fun q => { q with takes := [⟨0, rq9, 1, 2⟩] })) 0 3 { rq9 with tag := 4 } _ _).1 ⟨0, rq9, 1, 2⟩ _) :=
  (h.2.2.2.2.1 (schSt 1 {} (fun q => { q with takes := [⟨0, rq9, 1, 2⟩] })) 0 3 { rq9 with tag := 4 } (by decide +kernel) (by decide +kernel)).1 ⟨0, rq9, 1, 2⟩ (by decide +kernel)

theorem wit_take_cancel_none (h : Obligations.Dispatches) : type_of% ((h.2.2.2.2.1 (schSt 1) 0 3 { rq9 with tag := 4 } _ _).2 _) :=
  (h.2.2.2.2.1 (schSt 1) 0 3 { rq9 with tag := 4 } (by decide +kernel) (by decide +kernel)).2 (by decide +kernel)

theorem wit_sift_dispatch (h : Obligations.Dispatches) : type_of% (h.2.2.2.2.2 (schSt 2 { rec9 2 with dispatch := 2, siftStand := 3 } (ready9 3)) 3 9 _ _ _ _) :=
  h.2.2.2.2.2 (schSt 2 { rec9 2 with dispatch := 2, siftStand := 3 } (ready9 3)) 3 9 (by decide +kernel) (by decide +kernel) (by decide +kernel) (by decide +kernel)

/-! ### Witnesses: Completions -/

theorem wit_completion (h : Obligations.Completions) : type_of% ((h.1 (setTile (schSt 0 { rec9 3 with tile := 6, slotted := true, notify0 := h9 + 1 }) 6 { tileAt p1 6 with actSlot := [some { bslot := 0, handle := h9 }, none] }) rq9 h9 1 _).1 9 _ _ _ (Or.inl _)) :=
  (h.1 (setTile (schSt 0 { rec9 3 with tile := 6, slotted := true, notify0 := h9 + 1 }) 6 { tileAt p1 6 with actSlot := [some { bslot := 0, handle := h9 }, none] }) rq9 h9 1 (by decide +kernel)).1 9 (by decide +kernel) (by decide +kernel) (by decide +kernel) (Or.inl (by decide +kernel))

theorem wit_completion_invalid (h : Obligations.Completions) : type_of% ((h.1 (schSt 0 (rec9 2)) rq9 (h9 + 1) 0 _).2 (Or.inl _)) :=
  (h.1 (schSt 0 (rec9 2)) rq9 (h9 + 1) 0 (by decide +kernel)).2 (Or.inl (by decide +kernel))

theorem wit_completion_ready (h : Obligations.Completions) : type_of% ((h.1 (schSt 0 (rec9 2)) rq9 h9 0 _).2 (Or.inr ⟨9, _⟩)) :=
  (h.1 (schSt 0 (rec9 2)) rq9 h9 0 (by decide +kernel)).2 (Or.inr ⟨9, (by decide +kernel)⟩)

theorem wit_act_lost (h : Obligations.Completions) : type_of% (h.2.1 (schSt 0 { rec9 3 with tile := 6 }) 6 1 h9 9 _ _ _ _ _ _) :=
  h.2.1 (schSt 0 { rec9 3 with tile := 6 }) 6 1 h9 9 (by decide +kernel) (by decide +kernel) (by decide +kernel) (by decide +kernel) (by decide +kernel) (by decide +kernel)

theorem wit_record_free (h : Obligations.Completions) : type_of% (h.2.2 (schSt 0 { rec9 4 with released := true }) 9 _ _ _ _ _) :=
  h.2.2 (schSt 0 { rec9 4 with released := true }) 9 (by decide +kernel) (by decide +kernel) (by decide +kernel) (by decide +kernel) (by decide +kernel)

/-! ### Witnesses: Trails -/

theorem wit_seq_req (h : Obligations.Trails) : type_of% ((h.1.1 (trailSt (trail [])) rq9 8 h9 _).1 _ _ _) :=
  (h.1.1 (trailSt (trail [])) rq9 8 h9 (by decide +kernel)).1 (by decide +kernel) (by decide +kernel) (by decide +kernel)

theorem wit_seq_req_denied (h : Obligations.Trails) : type_of% ((h.1.1 (trailSt (trail [])) rq9 9 h9 _).2.1 _) :=
  (h.1.1 (trailSt (trail [])) rq9 9 h9 (by decide +kernel)).2.1 (by decide +kernel)

theorem wit_seq_req_full (h : Obligations.Trails) : type_of% ((h.1.1 (trailSt (trail (List.replicate 256 { outPer := 0 }))) rq9 8 h9 _).2.2 _ (Or.inl _)) :=
  (h.1.1 (trailSt (trail (List.replicate 256 { outPer := 0 }))) rq9 8 h9 (by decide +kernel)).2.2 (by decide +kernel) (Or.inl (by decide +kernel))

theorem wit_seq_return_none (h : Obligations.Trails) : type_of% (h.1.2.1 (trailSt (trail [item9])) rq9 8 4 _ _) :=
  h.1.2.1 (trailSt (trail [item9])) rq9 8 4 (by decide +kernel) (by decide +kernel)

theorem wit_seq_return (h : Obligations.Trails) : type_of% ((h.1.2.2.1 (trailSt (trail [item9])) rq9 8 5 _ _).1 _) :=
  (h.1.2.2.1 (trailSt (trail [item9])) rq9 8 5 (by decide +kernel) (by decide +kernel)).1 (by decide +kernel)

theorem wit_seq_return_hole (h : Obligations.Trails) : type_of% ((h.1.2.2.1 (trailSt { trail [item9] with nextSeq := 7 }) rq9 8 5 _ _).2 _) :=
  (h.1.2.2.1 (trailSt { trail [item9] with nextSeq := 7 }) rq9 8 5 (by decide +kernel) (by decide +kernel)).2 (by decide +kernel)

theorem wit_gate_token (h : Obligations.Trails) : type_of% ((h.1.2.2.2.1 (trailSt (trail [item9])) rq9 h9 9 8 gtok item9 _ _ _ _ _).1 _ _ _) :=
  (h.1.2.2.2.1 (trailSt (trail [item9])) rq9 h9 9 8 gtok item9 (by decide +kernel) (by decide +kernel) (by decide +kernel) (by decide +kernel) (by decide +kernel)).1 (by decide +kernel) (by decide +kernel) (by decide +kernel)

theorem wit_gate_token_stored (h : Obligations.Trails) : type_of% ((h.1.2.2.2.1 (trailSt (trail [{ item9 with seq := 4, handle := 1 }, item9])) rq9 h9 9 8 gtok item9 _ _ _ _ _).2.1 _ (Or.inl _)) :=
  (h.1.2.2.2.1 (trailSt (trail [{ item9 with seq := 4, handle := 1 }, item9])) rq9 h9 9 8 gtok item9 (by decide +kernel) (by decide +kernel) (by decide +kernel) (by decide +kernel) (by decide +kernel)).2.1 (by decide +kernel) (Or.inl (by decide +kernel))

theorem wit_gate_token_behind (h : Obligations.Trails) : type_of% ((h.1.2.2.2.1 (trailSt (trail [{ item9 with toks := [⟨gtok, 36, 0⟩] }])) rq9 h9 9 8 gtok { item9 with toks := [⟨gtok, 36, 0⟩] } _ _ _ _ _).2.1 _ (Or.inr _)) :=
  (h.1.2.2.2.1 (trailSt (trail [{ item9 with toks := [⟨gtok, 36, 0⟩] }])) rq9 h9 9 8 gtok { item9 with toks := [⟨gtok, 36, 0⟩] } (by decide +kernel) (by decide +kernel) (by decide +kernel) (by decide +kernel) (by decide +kernel)).2.1 (by decide +kernel) (Or.inr (by decide +kernel))

theorem wit_gate_token_over (h : Obligations.Trails) : type_of% ((h.1.2.2.2.1 (trailSt (trail [{ item9 with sent := 2 }])) rq9 h9 9 8 gtok { item9 with sent := 2 } _ _ _ _ _).2.2 _) :=
  (h.1.2.2.2.1 (trailSt (trail [{ item9 with sent := 2 }])) rq9 h9 9 8 gtok { item9 with sent := 2 } (by decide +kernel) (by decide +kernel) (by decide +kernel) (by decide +kernel) (by decide +kernel)).2.2 (by decide +kernel)

theorem wit_gate_token_dead (h : Obligations.Trails) : type_of% (h.1.2.2.2.2.1 (trailSt (trail [item9])) rq9 (h9 + 1) gtok _ (Or.inl _)) :=
  h.1.2.2.2.2.1 (trailSt (trail [item9])) rq9 (h9 + 1) gtok (by decide +kernel) (Or.inl (by decide +kernel))

theorem wit_gate_token_no_trail (h : Obligations.Trails) : type_of% (h.1.2.2.2.2.1 (schSt 0 (rec9 3)) rq9 h9 gtok _ (Or.inr ⟨9, _, Or.inl _⟩)) :=
  h.1.2.2.2.2.1 (schSt 0 (rec9 3)) rq9 h9 gtok (by decide +kernel) (Or.inr ⟨9, (by decide +kernel), Or.inl (by decide +kernel)⟩)

theorem wit_gate_emit (h : Obligations.Trails) : type_of% ((h.1.2.2.2.2.2.1 (trailSt (trail [item9])) 8 item9 ⟨gtok, 36, 0⟩).1 { unit := 6, slot := 0, gen := 1 } _ _ rfl) :=
  (h.1.2.2.2.2.2.1 (trailSt (trail [item9])) 8 item9 ⟨gtok, 36, 0⟩).1 { unit := 6, slot := 0, gen := 1 } _ (by decide +kernel) rfl

theorem wit_gate_emit_unbound (h : Obligations.Trails) : type_of% ((h.1.2.2.2.2.2.1 { trailSt (trail [item9]) with place := [] } 8 item9 ⟨gtok, 36, 0⟩).2 _) :=
  (h.1.2.2.2.2.2.1 { trailSt (trail [item9]) with place := [] } 8 item9 ⟨gtok, 36, 0⟩).2 (by decide +kernel)

theorem wit_gate_complete (h : Obligations.Trails) : type_of% ((h.1.2.2.2.2.2.2 (trailSt (trail [item9])) rq9 h9 8 5 7 _ _).1 item9 _ _) :=
  (h.1.2.2.2.2.2.2 (trailSt (trail [item9])) rq9 h9 8 5 7 (by decide +kernel) (by decide +kernel)).1 item9 (by decide +kernel) (by decide +kernel)

theorem wit_gate_complete_again (h : Obligations.Trails) : type_of% ((h.1.2.2.2.2.2.2 (trailSt (trail [{ item9 with done := some 7 }])) rq9 h9 8 5 7 _ _).2.1 { item9 with done := some 7 } _ _) :=
  (h.1.2.2.2.2.2.2 (trailSt (trail [{ item9 with done := some 7 }])) rq9 h9 8 5 7 (by decide +kernel) (by decide +kernel)).2.1 { item9 with done := some 7 } (by decide +kernel) (by decide +kernel)

theorem wit_gate_complete_none (h : Obligations.Trails) : type_of% ((h.1.2.2.2.2.2.2 (trailSt (trail [])) rq9 h9 8 5 7 _ _).2.2 _) :=
  (h.1.2.2.2.2.2.2 (trailSt (trail [])) rq9 h9 8 5 7 (by decide +kernel) (by decide +kernel)).2.2 (by decide +kernel)

theorem wit_gate_release_hole (h : Obligations.Trails) : type_of% ((h.2.1 (trailSt (trail [{ item9 with hole := true }])) up 8 { item9 with hole := true } _ _ _ _).1 _) :=
  (h.2.1 (trailSt (trail [{ item9 with hole := true }])) up 8 { item9 with hole := true } (by decide +kernel) (by decide +kernel) (by decide +kernel) (by decide +kernel)).1 (by decide +kernel)

theorem wit_gate_release (h : Obligations.Trails) : type_of% (((h.2.1 (trailSt (trail [{ item9 with done := some 0, toks := [⟨gtok, 36, 0⟩] }, { seq := 6 }])) (meetItem (trailSt (trail [{ item9 with done := some 0, toks := [⟨gtok, 36, 0⟩] }, { seq := 6 }])) 8 { item9 with done := some 0, toks := [⟨gtok, 36, 0⟩] }) 8 { item9 with done := some 0, toks := [⟨gtok, 36, 0⟩] } _ _ _ _).2 _ _ _ rfl { item9 with done := some 0, toks := [⟨gtok, 36, 0⟩] } _).1 _ _) :=
  ((h.2.1 (trailSt (trail [{ item9 with done := some 0, toks := [⟨gtok, 36, 0⟩] }, { seq := 6 }])) (meetItem (trailSt (trail [{ item9 with done := some 0, toks := [⟨gtok, 36, 0⟩] }, { seq := 6 }])) 8 { item9 with done := some 0, toks := [⟨gtok, 36, 0⟩] }) 8 { item9 with done := some 0, toks := [⟨gtok, 36, 0⟩] } (by decide +kernel) (by decide +kernel) (by decide +kernel) (by decide +kernel)).2 (by decide +kernel) (by decide +kernel) (by decide +kernel) rfl { item9 with done := some 0, toks := [⟨gtok, 36, 0⟩] } (by decide +kernel)).1 (by decide +kernel) (by decide +kernel)

theorem wit_gate_release_skip (h : Obligations.Trails) : type_of% (((h.2.1 (trailSt (trail [{ item9 with done := some 7, skip := true }, { seq := 6 }])) (meetItem (trailSt (trail [{ item9 with done := some 7, skip := true }, { seq := 6 }])) 8 { item9 with done := some 7, skip := true }) 8 { item9 with done := some 7, skip := true } _ _ _ _).2 _ _ _ rfl { item9 with done := some 7, skip := true } _).2.1 (Or.inl _) _) :=
  ((h.2.1 (trailSt (trail [{ item9 with done := some 7, skip := true }, { seq := 6 }])) (meetItem (trailSt (trail [{ item9 with done := some 7, skip := true }, { seq := 6 }])) 8 { item9 with done := some 7, skip := true }) 8 { item9 with done := some 7, skip := true } (by decide +kernel) (by decide +kernel) (by decide +kernel) (by decide +kernel)).2 (by decide +kernel) (by decide +kernel) (by decide +kernel) rfl { item9 with done := some 7, skip := true } (by decide +kernel)).2.1 (Or.inl (by decide +kernel)) (by decide +kernel)

theorem wit_gate_release_held (h : Obligations.Trails) : type_of% (((h.2.1 (trailSt (trail [{ item9 with done := some 7 }, { seq := 6 }])) (meetItem (trailSt (trail [{ item9 with done := some 7 }, { seq := 6 }])) 8 { item9 with done := some 7 }) 8 { item9 with done := some 7 } _ _ _ _).2 _ _ _ rfl { item9 with done := some 7 } _).2.2 (Or.inl _) _) :=
  ((h.2.1 (trailSt (trail [{ item9 with done := some 7 }, { seq := 6 }])) (meetItem (trailSt (trail [{ item9 with done := some 7 }, { seq := 6 }])) 8 { item9 with done := some 7 }) 8 { item9 with done := some 7 } (by decide +kernel) (by decide +kernel) (by decide +kernel) (by decide +kernel)).2 (by decide +kernel) (by decide +kernel) (by decide +kernel) rfl { item9 with done := some 7 } (by decide +kernel)).2.2 (Or.inl (by decide +kernel)) (by decide +kernel)

theorem wit_release_item (h : Obligations.Trails) : type_of% ((h.2.2.1 (trailSt (trail [item9])) 8 { item9 with toks := [⟨gtok, 36, 0⟩] } false).1.2.2.2.2 ⟨gtok, 36, 0⟩ _ { unit := 6, slot := 0, gen := 1 } _) :=
  (h.2.2.1 (trailSt (trail [item9])) 8 { item9 with toks := [⟨gtok, 36, 0⟩] } false).1.2.2.2.2 ⟨gtok, 36, 0⟩ (by decide +kernel) { unit := 6, slot := 0, gen := 1 } (by decide +kernel)

theorem wit_trail_skip (h : Obligations.Trails) : type_of% ((h.2.2.2.1 (trailSt { trail [{ item9 with done := some 7 }] with held := true }) rq9 8 { item9 with done := some 7 } _ _ _).1 _ _) :=
  (h.2.2.2.1 (trailSt { trail [{ item9 with done := some 7 }] with held := true }) rq9 8 { item9 with done := some 7 } (by decide +kernel) (by decide +kernel) (by decide +kernel)).1 (by decide +kernel) (by decide +kernel)

theorem wit_trail_pass (h : Obligations.Trails) : type_of% ((h.2.2.2.1 (trailSt { trail [{ item9 with done := some 7 }] with held := true }) rq9 8 { item9 with done := some 7 } _ _ _).2 _ _) :=
  (h.2.2.2.1 (trailSt { trail [{ item9 with done := some 7 }] with held := true }) rq9 8 { item9 with done := some 7 } (by decide +kernel) (by decide +kernel) (by decide +kernel)).2 (by decide +kernel) (by decide +kernel)

theorem wit_trail_reset (h : Obligations.Trails) : type_of% ((h.2.2.2.2.1 (trailSt (trail [])) rq9 8 _ _ _).1 _ _) :=
  (h.2.2.2.2.1 (trailSt (trail [])) rq9 8 (by decide +kernel) (by decide +kernel) (by decide +kernel)).1 (by decide +kernel) (by decide +kernel)

theorem wit_trail_reset_refused (h : Obligations.Trails) : type_of% ((h.2.2.2.2.1 (trailSt (trail [item9])) rq9 8 _ _ _).2 (Or.inl _)) :=
  (h.2.2.2.2.1 (trailSt (trail [item9])) rq9 8 (by decide +kernel) (by decide +kernel) (by decide +kernel)).2 (Or.inl (by decide +kernel))

theorem wit_trail_ctrl_denied (h : Obligations.Trails) : type_of% ((h.2.2.2.2.2 (trailSt (trail [])) rq9 9 (.skip rq9 9) .skip (Or.inl _) _ _).1 _) :=
  (h.2.2.2.2.2 (trailSt (trail [])) rq9 9 (.skip rq9 9) .skip (Or.inl (by decide +kernel)) (by decide +kernel) (by decide +kernel)).1 (by decide +kernel)

theorem wit_trail_ctrl_unheld (h : Obligations.Trails) : type_of% ((h.2.2.2.2.2 (trailSt (trail [item9])) rq9 8 (.pass rq9 8) .pass (Or.inr (Or.inl _)) _ _).2 _ _ _) :=
  (h.2.2.2.2.2 (trailSt (trail [item9])) rq9 8 (.pass rq9 8) .pass (Or.inr (Or.inl (by decide +kernel))) (by decide +kernel) (by decide +kernel)).2 (by decide +kernel) (by decide +kernel) (by decide +kernel)

/-! ### Witnesses: TraceHub -/

theorem wit_spoor_event (h : Obligations.TraceHub) : type_of% (h.1 (hubSt (dest [{ srec with time := 99500 }])) srec _ _ _ _ _) :=
  h.1 (hubSt (dest [{ srec with time := 99500 }])) srec (by decide +kernel) (by decide +kernel) (by decide +kernel) (by decide +kernel) (by decide +kernel)

theorem wit_spoor_event_full (h : Obligations.TraceHub) : type_of% (h.1 (hubSt (dest (List.replicate 256 srec))) srec _ _ _ _ _) :=
  h.1 (hubSt (dest (List.replicate 256 srec))) srec (by decide +kernel) (by decide +kernel) (by decide +kernel) (by decide +kernel) (by decide +kernel)

theorem wit_spoor_lost (h : Obligations.TraceHub) : type_of% ((h.2.1 (hubSt { dest [srec] with pi := 128 }) 0 srec [] _ _ _ _ _ _ _).1 _ _) :=
  (h.2.1 (hubSt { dest [srec] with pi := 128 }) 0 srec [] (by decide +kernel) (by decide +kernel) (by decide +kernel) (by decide +kernel) (by decide +kernel) (by decide +kernel) (by decide +kernel)).1 (by decide +kernel) (by decide +kernel)

theorem wit_spoor_write (h : Obligations.TraceHub) : type_of% ((((h.2.1 (hubSt (dest [srec])) 0 srec [] _ _ _ _ _ _ _).2 _ _ _ rfl).1 _ _ (Or.inr _) rfl).1 (Or.inr _)) :=
  (((h.2.1 (hubSt (dest [srec])) 0 srec [] (by decide +kernel) (by decide +kernel) (by decide +kernel) (by decide +kernel) (by decide +kernel) (by decide +kernel) (by decide +kernel)).2 _ _ (by decide +kernel) rfl).1 _ _ (Or.inr (by decide +kernel)) rfl).1 (Or.inr (by decide +kernel))

theorem wit_spoor_write_ctrl_fails (h : Obligations.TraceHub) : type_of% ((((h.2.1 ctrlSt 0 srec [] _ _ _ _ _ _ _).2 _ _ _ rfl).1 _ _ (Or.inr _) rfl).2 Kind.hostTranslationFault _) :=
  (((h.2.1 ctrlSt 0 srec [] (by decide +kernel) (by decide +kernel) (by decide +kernel) (by decide +kernel) (by decide +kernel) (by decide +kernel) (by decide +kernel)).2 _ _ (by decide +kernel) rfl).1 _ _ (Or.inr (by decide +kernel)) rfl).2 Kind.hostTranslationFault (by decide +kernel)

theorem wit_spoor_write_fails (h : Obligations.TraceHub) : type_of% (((h.2.1 ({ hubSt (dest [srec]) with fns := [] }) 0 srec [] _ _ _ _ _ _ _).2 _ _ _ rfl).2 Kind.hostCompletionError _) :=
  ((h.2.1 ({ hubSt (dest [srec]) with fns := [] }) 0 srec [] (by decide +kernel) (by decide +kernel) (by decide +kernel) (by decide +kernel) (by decide +kernel) (by decide +kernel) (by decide +kernel)).2 _ _ (by decide +kernel) rfl).2 Kind.hostCompletionError (by decide +kernel)

theorem wit_spoor_ci (h : Obligations.TraceHub) : type_of% ((h.2.2.2.1 (hubSt { dest [srec] with pi := 128 }) _ 0 _ _ _ _ _ _ (by intro x hx; cases hx) rfl).1 (Or.inl _)) :=
  (h.2.2.2.1 (hubSt { dest [srec] with pi := 128 }) _ 0 _ (by decide +kernel) (by decide +kernel) (by decide +kernel) (by decide +kernel) (by decide +kernel) (by intro x hx; cases hx) rfl).1 (Or.inl (by decide +kernel))

theorem wit_spoor_ci_fails (h : Obligations.TraceHub) : type_of% ((h.2.2.2.1 { hubSt { dest [srec] with pi := 128 } with fns := [] } _ 0 _ _ _ _ _ _ (by intro x hx; cases hx) rfl).2 Kind.hostCompletionError _) :=
  (h.2.2.2.1 { hubSt { dest [srec] with pi := 128 } with fns := [] } _ 0 _ (by decide +kernel) (by decide +kernel) (by decide +kernel) (by decide +kernel) (by decide +kernel) (by intro x hx; cases hx) rfl).2 Kind.hostCompletionError (by decide +kernel)

theorem wit_spoor_stall (h : Obligations.TraceHub) : type_of% (h.2.2.2.2.1 (hubSt { dest [srec] with stalling := true, stallLimit := 2, stallSince := some 97952 }) 0 97952 _ _ _ _ _) :=
  h.2.2.2.2.1 (hubSt { dest [srec] with stalling := true, stallLimit := 2, stallSince := some 97952 }) 0 97952 (by decide +kernel) (by decide +kernel) (by decide +kernel) (by decide +kernel) (by decide +kernel)

theorem wit_sp_ctrl (h : Obligations.TraceHub) : type_of% (h.2.2.2.2.2.1 (hubSt { dest [srec] with enable := false }) 0 9 1 0x80 true _ _ _ _ _ _ _ _) :=
  h.2.2.2.2.2.1 (hubSt { dest [srec] with enable := false }) 0 9 1 0x80 true (by decide +kernel) (by decide +kernel) (by decide +kernel) (by decide +kernel) (by decide +kernel) (by decide +kernel) (by decide +kernel) (by decide +kernel)

theorem wit_sp_ctrl_any (h : Obligations.TraceHub) : type_of% ((h.2.2.2.2.2.2 (hubSt { dest [srec] with enable := false }) 0 (2 ^ 48 * 0x80 + 2 ^ 4 * 9) _ _ _ _ rfl).1 _) :=
  (h.2.2.2.2.2.2 (hubSt { dest [srec] with enable := false }) 0 (2 ^ 48 * 0x80 + 2 ^ 4 * 9) _ (by decide +kernel) (by decide +kernel) (by decide +kernel) rfl).1 (by decide +kernel)

theorem wit_sp_ctrl_bad (h : Obligations.TraceHub) : type_of% ((h.2.2.2.2.2.2 (hubSt { dest [srec] with enable := false }) 0 (2 ^ 4 * 9) _ _ _ _ rfl).2 _) :=
  (h.2.2.2.2.2.2 (hubSt { dest [srec] with enable := false }) 0 (2 ^ 4 * 9) _ (by decide +kernel) (by decide +kernel) (by decide +kernel) rfl).2 (by decide +kernel)

/-! ### Witnesses: OverspillOfTiles -/

theorem wit_evict (h : Obligations.OverspillOfTiles) : type_of% ((h.1.1 (evictSt true) _ 5 1000 ⟨tok 0 0, 36⟩ [] _ _ _ _ _ _ rfl rfl).1 _) :=
  (h.1.1 (evictSt true) _ 5 1000 ⟨tok 0 0, 36⟩ [] _ (by decide +kernel) (by decide +kernel) (by decide +kernel) (by decide +kernel) (by decide +kernel) rfl rfl).1 (by decide +kernel)

theorem wit_evict_none (h : Obligations.OverspillOfTiles) : type_of% ((h.1.1 (evictSt false) _ 5 1000 ⟨tok 0 0, 36⟩ [] _ _ _ _ _ _ rfl rfl).2 _) :=
  (h.1.1 (evictSt false) _ 5 1000 ⟨tok 0 0, 36⟩ [] _ (by decide +kernel) (by decide +kernel) (by decide +kernel) (by decide +kernel) (by decide +kernel) rfl rfl).2 (by decide +kernel)

theorem wit_unfire (h : Obligations.OverspillOfTiles) : type_of% ((h.1.2.1 heldSt 5 1000 heldE _ _ _ _ _).1 _) :=
  (h.1.2.1 heldSt 5 1000 heldE (by decide +kernel) (by decide +kernel) (by decide +kernel) (by decide +kernel) (by decide +kernel)).1 (by decide +kernel)

theorem wit_unfire_full (h : Obligations.OverspillOfTiles) : type_of% ((h.1.2.1 (modTile heldSt 5 fullRefire) 5 1000 heldE _ _ _ _ _).2 _) :=
  (h.1.2.1 (modTile heldSt 5 fullRefire) 5 1000 heldE (by decide +kernel) (by decide +kernel) (by decide +kernel) (by decide +kernel) (by decide +kernel)).2 (by decide +kernel)

theorem wit_hold_off_end (h : Obligations.OverspillOfTiles) : type_of% (h.1.2.2 (matchSt false [] (fun t => { t with spl := { t.spl with holdOff := some 100000 } })) 5 100000 _ _ _) :=
  h.1.2.2 (matchSt false [] (fun t => { t with spl := { t.spl with holdOff := some 100000 } })) 5 100000 (by decide +kernel) (by decide +kernel) (by decide +kernel)

theorem wit_spill_answer (h : Obligations.OverspillOfTiles) : type_of% (h.2.1.1 (outSt (spillReq false) (evictSt true)) 5 (4 * 0x381) 1 3 0 1 (spillReq false) [65539] false _ _) :=
  h.2.1.1 (outSt (spillReq false) (evictSt true)) 5 (4 * 0x381) 1 3 0 1 (spillReq false) [65539] false (by decide +kernel) (by decide +kernel)

theorem wit_spill_taken (h : Obligations.OverspillOfTiles) : type_of% ((h.2.1.2.1 (evictSt true) _ 5 2 (spillReq false) [65539, 3] false _ _ rfl).2.1 65539 _) :=
  (h.2.1.2.1 (evictSt true) _ 5 2 (spillReq false) [65539, 3] false (by decide +kernel) (by decide +kernel) rfl).2.1 65539 (by decide +kernel)

theorem wit_spill_taken_store (h : Obligations.OverspillOfTiles) : type_of% ((h.2.1.2.1 (evictSt true) _ 5 2 (spillReq false) [65539, 3] false _ _ rfl).2.1 3 _) :=
  (h.2.1.2.1 (evictSt true) _ 5 2 (spillReq false) [65539, 3] false (by decide +kernel) (by decide +kernel) rfl).2.1 3 (by decide +kernel)

theorem wit_spill_taken_entry (h : Obligations.OverspillOfTiles) : type_of% (((h.2.1.2.1 (evictSt true) _ 5 2 (spillReq false) [65539, 3] false _ _ rfl).2.1 3 _).1 _) :=
  ((h.2.1.2.1 (evictSt true) _ 5 2 (spillReq false) [65539, 3] false (by decide +kernel) (by decide +kernel) rfl).2.1 3 (by decide +kernel)).1 (by decide +kernel)

theorem wit_spill_taken_overflow (h : Obligations.OverspillOfTiles) : type_of% (((h.2.1.2.1 (evictSt true) _ 5 2 (spillReq false) [65539, 3] false _ _ rfl).2.1 65539 _).2 _) :=
  ((h.2.1.2.1 (evictSt true) _ 5 2 (spillReq false) [65539, 3] false (by decide +kernel) (by decide +kernel) rfl).2.1 65539 (by decide +kernel)).2 (by decide +kernel)

theorem wit_unfired (h : Obligations.OverspillOfTiles) : type_of% ((h.2.1.2.1 heldSt _ 5 2 (spillReq true) [] true _ _ rfl).2.2.1 _) :=
  (h.2.1.2.1 heldSt _ 5 2 (spillReq true) [] true (by decide +kernel) (by decide +kernel) rfl).2.2.1 (by decide +kernel)

theorem wit_spill_ends_order (h : Obligations.OverspillOfTiles) : type_of% ((h.2.1.2.1 (evictSt true) _ 5 2 (spillReq false) [65539] false _ _ rfl).2.2.2 _ _) :=
  (h.2.1.2.1 (evictSt true) _ 5 2 (spillReq false) [65539] false (by decide +kernel) (by decide +kernel) rfl).2.2.2 (by decide +kernel) (by decide +kernel)

theorem wit_spill_refused (h : Obligations.OverspillOfTiles) : type_of% (((h.2.1.2.2 (evictSt true) _ 5 2 (spillReq false) [65539, 3] false _ _ rfl).2.1 3 _).1 _) :=
  ((h.2.1.2.2 (evictSt true) _ 5 2 (spillReq false) [65539, 3] false (by decide +kernel) (by decide +kernel) rfl).2.1 3 (by decide +kernel)).1 (by decide +kernel)

theorem wit_spill_refused_overflow (h : Obligations.OverspillOfTiles) : type_of% (((h.2.1.2.2 (evictSt true) _ 5 2 (spillReq false) [65539, 3] false _ _ rfl).2.1 65539 _).2 _) :=
  ((h.2.1.2.2 (evictSt true) _ 5 2 (spillReq false) [65539, 3] false (by decide +kernel) (by decide +kernel) rfl).2.1 65539 (by decide +kernel)).2 (by decide +kernel)

theorem wit_unfire_refused (h : Obligations.OverspillOfTiles) : type_of% (((h.2.1.2.2 heldSt _ 5 2 (spillReq true) [] true _ _ rfl).2.2.1 _).2.2 heldE _) :=
  ((h.2.1.2.2 heldSt _ 5 2 (spillReq true) [] true (by decide +kernel) (by decide +kernel) rfl).2.2.1 (by decide +kernel)).2.2 heldE (by decide +kernel)

theorem wit_unfire_refused_fires (h : Obligations.OverspillOfTiles) : type_of% ((((h.2.1.2.2 heldSt _ 5 2 (spillReq true) [] true _ _ rfl).2.2.1 _).2.2 heldE _).1 _) :=
  (((h.2.1.2.2 heldSt _ 5 2 (spillReq true) [] true (by decide +kernel) (by decide +kernel) rfl).2.2.1 (by decide +kernel)).2.2 heldE (by decide +kernel)).1 (by decide +kernel)

theorem wit_unfire_refused_waits (h : Obligations.OverspillOfTiles) : type_of% ((((h.2.1.2.2 heldFull _ 5 2 (spillReq true) [] true _ _ rfl).2.2.1 _).2.2 heldE _).2 _) :=
  (((h.2.1.2.2 heldFull _ 5 2 (spillReq true) [] true (by decide +kernel) (by decide +kernel) rfl).2.2.1 (by decide +kernel)).2.2 heldE (by decide +kernel)).2 (by decide +kernel)

theorem wit_refusal_ends_order (h : Obligations.OverspillOfTiles) : type_of% ((h.2.1.2.2 (modTile (evictSt true) 5 (fun t => { t with spl := { t.spl with ordered := true } })) _ 5 2 (spillReq false) [65539] false _ _ rfl).2.2.2 _ _) :=
  (h.2.1.2.2 (modTile (evictSt true) 5 (fun t => { t with spl := { t.spl with ordered := true } })) _ 5 2 (spillReq false) [65539] false (by decide +kernel) (by decide +kernel) rfl).2.2.2 (by decide +kernel) (by decide +kernel)

theorem wit_fetch_data (h : Obligations.OverspillOfTiles) : type_of% (h.2.2.1 (outSt fetchReq spilledSt) 5 (4 * 0x381) 1 3 77 fetchReq false true [tok 1 0] _ _) :=
  h.2.2.1 (outSt fetchReq spilledSt) 5 (4 * 0x381) 1 3 77 fetchReq false true [tok 1 0] (by decide +kernel) (by decide +kernel)

theorem wit_fetch_last (h : Obligations.OverspillOfTiles) : type_of% ((h.2.2.2.1 spilledSt _ 5 77 fetchReq false false [tok 1 0] _ _ rfl).2.2.1 _) :=
  (h.2.2.2.1 spilledSt _ 5 77 fetchReq false false [tok 1 0] (by decide +kernel) (by decide +kernel) rfl).2.2.1 (by decide +kernel)

theorem wit_fetch_more (h : Obligations.OverspillOfTiles) : type_of% (((h.2.2.2.1 spilledSt _ 5 77 fetchReq false true [tok 1 0] _ _ rfl).2.2.2 _ _ rfl).2 77 false [] _ _ _) :=
  ((h.2.2.2.1 spilledSt _ 5 77 fetchReq false true [tok 1 0] (by decide +kernel) (by decide +kernel) rfl).2.2.2 _ (by decide +kernel) rfl).2 77 false [] (by decide +kernel) (by decide +kernel) (by decide +kernel)

theorem wit_fetch_more_waits (h : Obligations.OverspillOfTiles) : type_of% (((h.2.2.2.1 (fullBuf spilledSt) _ 5 77 fetchReq false true [tok 1 0] _ _ rfl).2.2.2 _ _ rfl).1 _) :=
  ((h.2.2.2.1 (fullBuf spilledSt) _ 5 77 fetchReq false true [tok 1 0] (by decide +kernel) (by decide +kernel) rfl).2.2.2 _ (by decide +kernel) rfl).1 (by decide +kernel)

theorem wit_fetch_inject (h : Obligations.OverspillOfTiles) : type_of% ((h.2.2.2.2.1 spilledSt 5 (tok 0 0) [] _ _ _).1 _ _) :=
  (h.2.2.2.2.1 spilledSt 5 (tok 0 0) [] (by decide +kernel) (by decide +kernel) (by decide +kernel)).1 (by decide +kernel) (by decide +kernel)

theorem wit_fetch_ended (h : Obligations.OverspillOfTiles) : type_of% ((h.2.2.2.2.1 (modTile spilledSt 5 (fun t => { t with endWaits := [{ part := 1, ctx := 1 }] })) 5 (tok 0 0) [] _ _ _).2 _) :=
  (h.2.2.2.2.1 (modTile spilledSt 5 (fun t => { t with endWaits := [{ part := 1, ctx := 1 }] })) 5 (tok 0 0) [] (by decide +kernel) (by decide +kernel) (by decide +kernel)).2 (by decide +kernel)

theorem wit_refire (h : Obligations.OverspillOfTiles) : type_of% (h.2.2.2.2.2.1 spilledSt 5 77 1 [] _ _ _ (by intro o ho; cases ho) _ _ _ _) :=
  h.2.2.2.2.2.1 spilledSt 5 77 1 [] (by decide +kernel) (by decide +kernel) (by decide +kernel) (by intro o ho; cases ho) (by decide +kernel) (by decide +kernel) (by decide +kernel) (by decide +kernel)

theorem wit_reclaim (h : Obligations.OverspillOfTiles) : type_of% (h.2.2.2.2.2.2 spilledSt 5 4 { src := 4 * 0x381, part := 1, tag := 9 } _ _ _ _) :=
  h.2.2.2.2.2.2 spilledSt 5 4 { src := 4 * 0x381, part := 1, tag := 9 } (by decide +kernel) (by decide +kernel) (by decide +kernel) (by decide +kernel)

/-! ### Witnesses: OverspillAgent -/

theorem wit_agent_spill (h : Obligations.OverspillAgent) : type_of% ((h.1 (regionSt region1) _ rqSpill (.spill [(tok 0 0, 1)]) (.spill rqSpill [(tok 0 0, 1)]) (.spill rqSpill [(tok 0 0, 1)]) (needOf region1 (.spill rqSpill [(tok 0 0, 1)])) _ (.inl ⟨_, rfl, rfl, rfl⟩) _ _ _ _ rfl).1 (Or.inl _)) :=
  (h.1 (regionSt region1) _ rqSpill (.spill [(tok 0 0, 1)]) (.spill rqSpill [(tok 0 0, 1)]) (.spill rqSpill [(tok 0 0, 1)]) (needOf region1 (.spill rqSpill [(tok 0 0, 1)])) _ (.inl ⟨_, rfl, rfl, rfl⟩) (by decide +kernel) (by decide +kernel) (by decide +kernel) (by decide +kernel) rfl).1 (Or.inl (by decide +kernel))

theorem wit_agent_queue_spill (h : Obligations.OverspillAgent) : type_of% (h.2.1 (regionSt { region1 with busy := some (.fetch rqSpill 5) }) rqSpill (.spill [(tok 0 0, 1)]) (.spill rqSpill [(tok 0 0, 1)]) (.spill rqSpill [(tok 0 0, 1)]) (.inl ⟨_, rfl, rfl, rfl⟩) _ _ _ (Or.inl ⟨_, rfl⟩)) :=
  h.2.1 (regionSt { region1 with busy := some (.fetch rqSpill 5) }) rqSpill (.spill [(tok 0 0, 1)]) (.spill rqSpill [(tok 0 0, 1)]) (.spill rqSpill [(tok 0 0, 1)]) (.inl ⟨_, rfl, rfl, rfl⟩) (by decide +kernel) (by decide +kernel) (by decide +kernel) (Or.inl ⟨_, rfl⟩)

theorem wit_agent_fetch (h : Obligations.OverspillAgent) : type_of% ((h.1 (regionSt region1) _ rqSpill (.fetch 77) (.fetch rqSpill 77) (.fetch rqSpill 77) (needOf region1 (.fetch rqSpill 77)) _ (.inr (.inl ⟨_, rfl, rfl, rfl⟩)) _ _ _ _ rfl).1 (Or.inl _)) :=
  (h.1 (regionSt region1) _ rqSpill (.fetch 77) (.fetch rqSpill 77) (.fetch rqSpill 77) (needOf region1 (.fetch rqSpill 77)) _ (.inr (.inl ⟨_, rfl, rfl, rfl⟩)) (by decide +kernel) (by decide +kernel) (by decide +kernel) (by decide +kernel) rfl).1 (Or.inl (by decide +kernel))

theorem wit_agent_queue_fetch (h : Obligations.OverspillAgent) : type_of% (h.2.1 (regionSt { region1 with busy := some (.fetch rqSpill 5) }) rqSpill (.fetch 77) (.fetch rqSpill 77) (.fetch rqSpill 77) (.inr (.inl ⟨_, rfl, rfl, rfl⟩)) _ _ _ (Or.inl ⟨_, rfl⟩)) :=
  h.2.1 (regionSt { region1 with busy := some (.fetch rqSpill 5) }) rqSpill (.fetch 77) (.fetch rqSpill 77) (.fetch rqSpill 77) (.inr (.inl ⟨_, rfl, rfl, rfl⟩)) (by decide +kernel) (by decide +kernel) (by decide +kernel) (Or.inl ⟨_, rfl⟩)

theorem wit_agent_notice (h : Obligations.OverspillAgent) : type_of% ((h.1 (regionSt region1) _ rqCtx (.ctxNotice 5) (.notice rqCtx 5) (.ctxNotice rqCtx 5) (needOf region1 (.notice rqCtx 5)) _ (.inr (.inr ⟨_, rfl, rfl, rfl⟩)) _ _ _ _ rfl).1 (Or.inl _)) :=
  (h.1 (regionSt region1) _ rqCtx (.ctxNotice 5) (.notice rqCtx 5) (.ctxNotice rqCtx 5) (needOf region1 (.notice rqCtx 5)) _ (.inr (.inr ⟨_, rfl, rfl, rfl⟩)) (by decide +kernel) (by decide +kernel) (by decide +kernel) (by decide +kernel) rfl).1 (Or.inl (by decide +kernel))

theorem wit_agent_queue_notice (h : Obligations.OverspillAgent) : type_of% (h.2.1 (regionSt { region1 with busy := some (.fetch rqSpill 5) }) rqCtx (.ctxNotice 5) (.notice rqCtx 5) (.ctxNotice rqCtx 5) (.inr (.inr ⟨_, rfl, rfl, rfl⟩)) _ _ _ (Or.inl ⟨_, rfl⟩)) :=
  h.2.1 (regionSt { region1 with busy := some (.fetch rqSpill 5) }) rqCtx (.ctxNotice 5) (.notice rqCtx 5) (.ctxNotice rqCtx 5) (.inr (.inr ⟨_, rfl, rfl, rfl⟩)) (by decide +kernel) (by decide +kernel) (by decide +kernel) (Or.inl ⟨_, rfl⟩)

theorem wit_agent_fails (h : Obligations.OverspillAgent) : type_of% ((h.1 (noBme (regionSt region1)) _ rqSpill (.fetch 77) (.fetch rqSpill 77) (.fetch rqSpill 77) (needOf region1 (.fetch rqSpill 77)) _ (.inr (.inl ⟨_, rfl, rfl, rfl⟩)) _ _ _ _ rfl).2 Kind.hostCompletionError _) :=
  (h.1 (noBme (regionSt region1)) _ rqSpill (.fetch 77) (.fetch rqSpill 77) (.fetch rqSpill 77) (needOf region1 (.fetch rqSpill 77)) _ (.inr (.inl ⟨_, rfl, rfl, rfl⟩)) (by decide +kernel) (by decide +kernel) (by decide +kernel) (by decide +kernel) rfl).2 Kind.hostCompletionError (by decide +kernel)

theorem wit_agent_held (h : Obligations.OverspillAgent) : type_of% (h.2.1 (regionSt { region1 with held := true }) rqSpill (.fetch 77) (.fetch rqSpill 77) (.fetch rqSpill 77) (.inr (.inl ⟨_, rfl, rfl, rfl⟩)) _ _ _ (Or.inr _)) :=
  h.2.1 (regionSt { region1 with held := true }) rqSpill (.fetch 77) (.fetch rqSpill 77) (.fetch rqSpill 77) (.inr (.inl ⟨_, rfl, rfl, rfl⟩)) (by decide +kernel) (by decide +kernel) (by decide +kernel) (Or.inr (by decide +kernel))

theorem wit_agent_absent (h : Obligations.OverspillAgent) : type_of% ((h.2.2.1 p1 rqSpill (Or.inl _)).1 [(tok 0 0, 1)] _) :=
  (h.2.2.1 p1 rqSpill (Or.inl (by decide +kernel))).1 [(tok 0 0, 1)] (by decide +kernel)

theorem wit_agent_failed (h : Obligations.OverspillAgent) : type_of% ((h.2.2.1 (regionSt { region1 with state := 3 }) rqSpill (Or.inr _)).1 [(tok 0 0, 1)] _) :=
  (h.2.2.1 (regionSt { region1 with state := 3 }) rqSpill (Or.inr (by decide +kernel))).1 [(tok 0 0, 1)] (by decide +kernel)

theorem wit_agent_absent_fetch (h : Obligations.OverspillAgent) : type_of% ((h.2.2.1 p1 rqSpill (Or.inl _)).2.1 77 _) :=
  (h.2.2.1 p1 rqSpill (Or.inl (by decide +kernel))).2.1 77 (by decide +kernel)

theorem wit_agent_absent_notice (h : Obligations.OverspillAgent) : type_of% ((h.2.2.1 p1 rqCtx (Or.inl _)).2.2 5 _) :=
  (h.2.2.1 p1 rqCtx (Or.inl (by decide +kernel))).2.2 5 (by decide +kernel)

theorem wit_agent_sweep (h : Obligations.OverspillAgent) : type_of% ((h.2.2.2.1 (regionSt { region1 with stale := 3, sweepAt := 2 }) _ 1 (needOf { region1 with stale := 3, sweepAt := 2 } (.sweep 2)) _ _ _ _ _ (Or.inl _) rfl).1 (Or.inl _)) :=
  (h.2.2.2.1 (regionSt { region1 with stale := 3, sweepAt := 2 }) _ 1 (needOf { region1 with stale := 3, sweepAt := 2 } (.sweep 2)) _ (by decide +kernel) (by decide +kernel) (by decide +kernel) (by decide +kernel) (Or.inl (by decide +kernel)) rfl).1 (Or.inl (by decide +kernel))

theorem wit_agent_sweep_fails (h : Obligations.OverspillAgent) : type_of% ((h.2.2.2.1 (noBme (regionSt { region1 with stale := 3, sweepAt := 2 })) _ 1 (needOf { region1 with stale := 3, sweepAt := 2 } (.sweep 2)) _ _ _ _ _ (Or.inl _) rfl).2 Kind.hostCompletionError _) :=
  (h.2.2.2.1 (noBme (regionSt { region1 with stale := 3, sweepAt := 2 })) _ 1 (needOf { region1 with stale := 3, sweepAt := 2 } (.sweep 2)) _ (by decide +kernel) (by decide +kernel) (by decide +kernel) (by decide +kernel) (Or.inl (by decide +kernel)) rfl).2 Kind.hostCompletionError (by decide +kernel)

theorem wit_insert (h : Obligations.OverspillAgent) : type_of% (h.2.2.2.2.1 work0 _ 24 [(tok 0 0, 1)] (walks _)) :=
  h.2.2.2.2.1 work0 _ 24 [(tok 0 0, 1)] (walks (by decide +kernel))

theorem wit_fetch_walk (h : Obligations.OverspillAgent) : type_of% ((h.2.2.2.2.2.1 region1 work1 _ rqSpill (instKey (tok 0 0).tag) [tok 0 0] false (walks _)).2.2 (tok 0 0) _) :=
  (h.2.2.2.2.2.1 region1 work1 _ rqSpill (instKey (tok 0 0).tag) [tok 0 0] false (walks (by decide +kernel))).2.2 (tok 0 0) (by decide +kernel)

theorem wit_sweep_walk (h : Obligations.OverspillAgent) : type_of% (h.2.2.2.2.2.2 region1 work2 _ .wait ((homeT - 2 ^ 23) / 64) (walks _)) :=
  h.2.2.2.2.2.2 region1 work2 _ .wait ((homeT - 2 ^ 23) / 64) (walks (by decide +kernel))

/-! ### Witnesses: MemoryRequests -/

theorem wit_read_word (h : Obligations.MemoryRequests) : type_of% ((h.1.1 (memSt) 6 6 0 8 0x40 rq9 (mw 0x40) (.readWord 6 rq9 (mw 0x40)) (.readWord (mw 0x40)) (.inl ⟨rfl, rfl, rfl, rfl, rfl⟩) _ _).1 _ _ _ _ rfl) :=
  (h.1.1 (memSt) 6 6 0 8 0x40 rq9 (mw 0x40) (.readWord 6 rq9 (mw 0x40)) (.readWord (mw 0x40)) (.inl ⟨rfl, rfl, rfl, rfl, rfl⟩) (by decide +kernel) (by decide +kernel)).1 _ _ _ (by decide +kernel) rfl

theorem wit_read_line (h : Obligations.MemoryRequests) : type_of% ((h.1.1 (memSt) 6 6 1 64 0x40 rq9 (mw 0x40) (.readLine 6 rq9 (mw 0x40)) (.readLine (mw 0x40)) (.inr (.inl ⟨rfl, rfl, rfl, rfl, rfl⟩)) _ _).1 _ _ _ _ rfl) :=
  (h.1.1 (memSt) 6 6 1 64 0x40 rq9 (mw 0x40) (.readLine 6 rq9 (mw 0x40)) (.readLine (mw 0x40)) (.inr (.inl ⟨rfl, rfl, rfl, rfl, rfl⟩)) (by decide +kernel) (by decide +kernel)).1 _ _ _ (by decide +kernel) rfl

theorem wit_read_bulk (h : Obligations.MemoryRequests) : type_of% ((h.1.1 (memSt) 6 6 2 256 0x40 rq9 (mw 0x40) (.readBulk 6 rq9 (mw 0x40)) (.readBulk (mw 0x40)) (.inr (.inr ⟨rfl, rfl, rfl, rfl, rfl⟩)) _ _).1 _ _ _ _ rfl) :=
  (h.1.1 (memSt) 6 6 2 256 0x40 rq9 (mw 0x40) (.readBulk 6 rq9 (mw 0x40)) (.readBulk (mw 0x40)) (.inr (.inr ⟨rfl, rfl, rfl, rfl, rfl⟩)) (by decide +kernel) (by decide +kernel)).1 _ _ _ (by decide +kernel) rfl

theorem wit_read_refused (h : Obligations.MemoryRequests) : type_of% ((h.1.1 (memSt) 6 6 0 8 0x40 rq9 { mw 0x40 with gen := 2 } (.readWord 6 rq9 { mw 0x40 with gen := 2 }) (.readWord { mw 0x40 with gen := 2 }) (.inl ⟨rfl, rfl, rfl, rfl, rfl⟩) _ _).2 2 _) :=
  (h.1.1 (memSt) 6 6 0 8 0x40 rq9 { mw 0x40 with gen := 2 } (.readWord 6 rq9 { mw 0x40 with gen := 2 }) (.readWord { mw 0x40 with gen := 2 }) (.inl ⟨rfl, rfl, rfl, rfl, rfl⟩) (by decide +kernel) (by decide +kernel)).2 2 (by decide +kernel)

theorem wit_tile_read (h : Obligations.MemoryRequests) : type_of% ((h.1.2.1 (memSt) _ 6 0x40 8 _ _ rfl).2.2.2 _) :=
  (h.1.2.1 (memSt) _ 6 0x40 8 _ _ rfl).2.2.2 (by decide +kernel)

theorem wit_aadd_req (h : Obligations.MemoryRequests) : type_of% ((h.1.2.2.1 (memSt) 6 6 16 rq9 (mw 0x44) 0xFFFF _ _).1 _ _ _ _ rfl) :=
  (h.1.2.2.1 (memSt) 6 6 16 rq9 (mw 0x44) 0xFFFF (by decide +kernel) (by decide +kernel)).1 _ _ _ (by decide +kernel) rfl

theorem wit_aadd_refused (h : Obligations.MemoryRequests) : type_of% ((h.1.2.2.1 (memSt) 6 6 16 rq9 ({ mw 0x44 with gen := 2 }) 0xFFFF _ _).2 2 _) :=
  (h.1.2.2.1 (memSt) 6 6 16 rq9 ({ mw 0x44 with gen := 2 }) 0xFFFF (by decide +kernel) (by decide +kernel)).2 2 (by decide +kernel)

theorem wit_write_word (h : Obligations.MemoryRequests) : type_of% ((h.1.2.2.2.1 (memSt) 6 6 32 rq9 (mw 0x44) ⟨0xAABBCCDD, true⟩ _ _).1 _) :=
  (h.1.2.2.2.1 (memSt) 6 6 32 rq9 (mw 0x44) ⟨0xAABBCCDD, true⟩ (by decide +kernel) (by decide +kernel)).1 (by decide +kernel)

theorem wit_write_word_refused (h : Obligations.MemoryRequests) : type_of% ((h.1.2.2.2.1 (memSt) 6 6 32 rq9 ({ mw 0x44 with gen := 2 }) ⟨0xAABBCCDD, true⟩ _ _).2 2 _) :=
  (h.1.2.2.2.1 (memSt) 6 6 32 rq9 ({ mw 0x44 with gen := 2 }) ⟨0xAABBCCDD, true⟩ (by decide +kernel) (by decide +kernel)).2 2 (by decide +kernel)

theorem wit_line_write (h : Obligations.MemoryRequests) : type_of% ((h.1.2.2.2.2.1 (memSt) 6 6 1 0x11 1 _ false rq9 (leBytes 64 77) _ rfl).1 _) :=
  (h.1.2.2.2.2.1 (memSt) 6 6 1 0x11 1 _ false rq9 (leBytes 64 77) (by decide +kernel) rfl).1 (by decide +kernel)

theorem wit_line_write_refused (h : Obligations.MemoryRequests) : type_of% ((h.1.2.2.2.2.1 (memSt) 6 6 (2 ^ 16 * 3) 0x11 1 _ false rq9 (leBytes 64 77) _ rfl).2 1 _) :=
  (h.1.2.2.2.2.1 (memSt) 6 6 (2 ^ 16 * 3) 0x11 1 _ false rq9 (leBytes 64 77) (by decide +kernel) rfl).2 1 (by decide +kernel)

theorem wit_tile_refuse (h : Obligations.MemoryRequests) : type_of% ((h.1.2.2.2.2.2.1 (memSt) 6 3 rq9).2.2.1 _) :=
  (h.1.2.2.2.2.2.1 (memSt) 6 3 rq9).2.2.1 (by decide +kernel)

theorem wit_tile_refuse_stale (h : Obligations.MemoryRequests) : type_of% ((h.1.2.2.2.2.2.1 (memSt) 6 2 rq9).2.2.2 _) :=
  (h.1.2.2.2.2.2.1 (memSt) 6 2 rq9).2.2.2 (by decide +kernel)

theorem wit_check_part (h : Obligations.MemoryRequests) : type_of% ((h.1.2.2.2.2.2.2.1 (tileAt (memSt) 6) 2 8 (mw 0x40)).1 (Or.inr _)) :=
  (h.1.2.2.2.2.2.2.1 (tileAt (memSt) 6) 2 8 (mw 0x40)).1 (Or.inr (by decide +kernel))

theorem wit_check_unbound (h : Obligations.MemoryRequests) : type_of% ((h.1.2.2.2.2.2.2.1 (tileAt (memSt) 6) 1 8 { mw 0x40 with slot := 1 }).1 (Or.inl _)) :=
  (h.1.2.2.2.2.2.2.1 (tileAt (memSt) 6) 1 8 { mw 0x40 with slot := 1 }).1 (Or.inl (by decide +kernel))

theorem wit_check_stale (h : Obligations.MemoryRequests) : type_of% (((h.1.2.2.2.2.2.2.1 (tileAt (memSt) 6) 1 8 { mw 0x40 with gen := 2 }).2 _ _).1 (Or.inl _)) :=
  ((h.1.2.2.2.2.2.2.1 (tileAt (memSt) 6) 1 8 { mw 0x40 with gen := 2 }).2 (by decide +kernel) (by decide +kernel)).1 (Or.inl (by decide +kernel))

theorem wit_check_window (h : Obligations.MemoryRequests) : type_of% (((h.1.2.2.2.2.2.2.1 (tileAt (memSt) 6) 1 8 (mw 0x40)).2 _ _).2 _ _) :=
  ((h.1.2.2.2.2.2.2.1 (tileAt (memSt) 6) 1 8 (mw 0x40)).2 (by decide +kernel) (by decide +kernel)).2 (by decide +kernel) (by decide +kernel)

theorem wit_excluded_read (h : Obligations.MemoryRequests) : type_of% (h.1.2.2.2.2.2.2.2 exclSt 6 0 8 0x40 rq9 (mw 0x40) (.readWord 6 rq9 (mw 0x40)) (.readWord (mw 0x40)) _ _ _ _ _ (.inl ⟨(.inl ⟨rfl, rfl, rfl, rfl, rfl⟩), rfl⟩)) :=
  h.1.2.2.2.2.2.2.2 exclSt 6 0 8 0x40 rq9 (mw 0x40) (.readWord 6 rq9 (mw 0x40)) (.readWord (mw 0x40)) (by decide +kernel) (by decide +kernel) (by decide +kernel) (by decide +kernel) (by decide +kernel) (.inl ⟨(.inl ⟨rfl, rfl, rfl, rfl, rfl⟩), rfl⟩)

theorem wit_excluded_write (h : Obligations.MemoryRequests) : type_of% (h.1.2.2.2.2.2.2.2 exclSt 6 0 8 0x40 rq9 (mw 0x40) (.writeWord 6 rq9 (mw 0x40) 32 ⟨1, false⟩) (.writeWord (mw 0x40) 32 ⟨1, false⟩) _ _ _ _ _ (.inr (.inl ⟨32, ⟨1, false⟩, rfl, rfl, rfl⟩))) :=
  h.1.2.2.2.2.2.2.2 exclSt 6 0 8 0x40 rq9 (mw 0x40) (.writeWord 6 rq9 (mw 0x40) 32 ⟨1, false⟩) (.writeWord (mw 0x40) 32 ⟨1, false⟩) (by decide +kernel) (by decide +kernel) (by decide +kernel) (by decide +kernel) (by decide +kernel) (.inr (.inl ⟨32, ⟨1, false⟩, rfl, rfl, rfl⟩))

theorem wit_excluded_aadd (h : Obligations.MemoryRequests) : type_of% (h.1.2.2.2.2.2.2.2 exclSt 6 0 8 0x40 rq9 (mw 0x40) (.aaddRequest 6 rq9 (mw 0x40) 32 1) (.aadd (mw 0x40) 32 1) _ _ _ _ _ (.inr (.inr (.inl ⟨32, 1, rfl, rfl, rfl⟩)))) :=
  h.1.2.2.2.2.2.2.2 exclSt 6 0 8 0x40 rq9 (mw 0x40) (.aaddRequest 6 rq9 (mw 0x40) 32 1) (.aadd (mw 0x40) 32 1) (by decide +kernel) (by decide +kernel) (by decide +kernel) (by decide +kernel) (by decide +kernel) (.inr (.inr (.inl ⟨32, 1, rfl, rfl, rfl⟩)))

theorem wit_excluded_line (h : Obligations.MemoryRequests) : type_of% (h.1.2.2.2.2.2.2.2 exclSt 6 0 8 0x40 rq9 (mw 0x40) (.lineWrite 6 rq9 1 0 false [] 0) (.lineWrite 1 0 false [] 0) _ _ _ _ _ (.inr (.inr (.inr ⟨1, 0, false, [], 0, rfl, rfl⟩)))) :=
  h.1.2.2.2.2.2.2.2 exclSt 6 0 8 0x40 rq9 (mw 0x40) (.lineWrite 6 rq9 1 0 false [] 0) (.lineWrite 1 0 false [] 0) (by decide +kernel) (by decide +kernel) (by decide +kernel) (by decide +kernel) (by decide +kernel) (.inr (.inr (.inr ⟨1, 0, false, [], 0, rfl, rfl⟩)))

theorem wit_sts_read_word (h : Obligations.MemoryRequests) : type_of% ((h.2.1.1 stsSt 1 0 8 (sw.off / 8 * 8) rq9 sw (.readWord (0x2CC + 1) rq9 sw) (.readWord sw) (.inl ⟨rfl, rfl, rfl, rfl, rfl⟩) _ _).1 _ _ _ _ _ rfl) :=
  (h.2.1.1 stsSt 1 0 8 (sw.off / 8 * 8) rq9 sw (.readWord (0x2CC + 1) rq9 sw) (.readWord sw) (.inl ⟨rfl, rfl, rfl, rfl, rfl⟩) (by decide +kernel) (by decide +kernel)).1 _ _ _ (by decide +kernel) (by decide +kernel) rfl

theorem wit_sts_read_line (h : Obligations.MemoryRequests) : type_of% ((h.2.1.1 stsSt 1 1 64 (sw.off / 64 * 64) rq9 sw (.readLine (0x2CC + 1) rq9 sw) (.readLine sw) (.inr (.inl ⟨rfl, rfl, rfl, rfl, rfl⟩)) _ _).1 _ _ _ _ _ rfl) :=
  (h.2.1.1 stsSt 1 1 64 (sw.off / 64 * 64) rq9 sw (.readLine (0x2CC + 1) rq9 sw) (.readLine sw) (.inr (.inl ⟨rfl, rfl, rfl, rfl, rfl⟩)) (by decide +kernel) (by decide +kernel)).1 _ _ _ (by decide +kernel) (by decide +kernel) rfl

theorem wit_sts_read_bulk (h : Obligations.MemoryRequests) : type_of% ((h.2.1.1 stsSt 1 2 256 sw.off rq9 sw (.readBulk (0x2CC + 1) rq9 sw) (.readBulk sw) (.inr (.inr ⟨rfl, rfl, rfl, rfl, rfl⟩)) _ _).1 _ _ _ _ _ rfl) :=
  (h.2.1.1 stsSt 1 2 256 sw.off rq9 sw (.readBulk (0x2CC + 1) rq9 sw) (.readBulk sw) (.inr (.inr ⟨rfl, rfl, rfl, rfl, rfl⟩)) (by decide +kernel) (by decide +kernel)).1 _ _ _ (by decide +kernel) (by decide +kernel) rfl

theorem wit_sts_refused (h : Obligations.MemoryRequests) : type_of% ((h.2.1.1 stsSt 1 0 8 (sw.off / 8 * 8) { rq9 with part := 2 } sw (.readWord (0x2CC + 1) { rq9 with part := 2 } sw) (.readWord sw) (.inl ⟨rfl, rfl, rfl, rfl, rfl⟩) _ _).2 (Or.inl _)) :=
  (h.2.1.1 stsSt 1 0 8 (sw.off / 8 * 8) { rq9 with part := 2 } sw (.readWord (0x2CC + 1) { rq9 with part := 2 } sw) (.readWord sw) (.inl ⟨rfl, rfl, rfl, rfl, rfl⟩) (by decide +kernel) (by decide +kernel)).2 (Or.inl (by decide +kernel))

theorem wit_sts_read (h : Obligations.MemoryRequests) : type_of% ((h.2.1.2.1 stsSt _ 1 0x200040 8 _ _ rfl _).2.2.2 _) :=
  (h.2.1.2.1 stsSt _ 1 0x200040 8 _ _ rfl (by decide +kernel)).2.2.2 (by decide +kernel)

theorem wit_sts_aadd (h : Obligations.MemoryRequests) : type_of% ((h.2.1.2.2.1 stsSt 1 32 rq9 sw 5 _ _).1 _ _ _ _ rfl) :=
  (h.2.1.2.2.1 stsSt 1 32 rq9 sw 5 (by decide +kernel) (by decide +kernel)).1 _ _ _ (by decide +kernel) rfl

theorem wit_sts_aadd_refused (h : Obligations.MemoryRequests) : type_of% ((h.2.1.2.2.1 stsSt 1 32 { rq9 with part := 2 } sw 5 _ _).2 _) :=
  (h.2.1.2.2.1 stsSt 1 32 { rq9 with part := 2 } sw 5 (by decide +kernel) (by decide +kernel)).2 (by decide +kernel)

theorem wit_sts_write (h : Obligations.MemoryRequests) : type_of% ((h.2.1.2.2.2.1 stsSt 1 32 rq9 sw ⟨0x99, false⟩ _ _).1 _) :=
  (h.2.1.2.2.2.1 stsSt 1 32 rq9 sw ⟨0x99, false⟩ (by decide +kernel) (by decide +kernel)).1 (by decide +kernel)

theorem wit_sts_write_refused (h : Obligations.MemoryRequests) : type_of% ((h.2.1.2.2.2.1 stsSt 1 32 { rq9 with part := 2 } sw ⟨0x99, false⟩ _ _).2 _) :=
  (h.2.1.2.2.2.1 stsSt 1 32 { rq9 with part := 2 } sw ⟨0x99, false⟩ (by decide +kernel) (by decide +kernel)).2 (by decide +kernel)

theorem wit_sts_write_word (h : Obligations.MemoryRequests) : type_of% ((h.2.1.2.2.2.2.1 stsSt 1 0x200040 (leBytes 8 5) true _).2.1 _) :=
  (h.2.1.2.2.2.2.1 stsSt 1 0x200040 (leBytes 8 5) true (by decide +kernel)).2.1 (by decide +kernel)

theorem wit_sts_write_poison (h : Obligations.MemoryRequests) : type_of% ((h.2.1.2.2.2.2.1 stsSt 1 0x200040 (leBytes 8 5) true _).2.2.1 _) :=
  (h.2.1.2.2.2.2.1 stsSt 1 0x200040 (leBytes 8 5) true (by decide +kernel)).2.2.1 (by decide +kernel)

theorem wit_sts_write_frame (h : Obligations.MemoryRequests) : type_of% ((h.2.1.2.2.2.2.1 stsSt 1 0x200040 (leBytes 8 5) true _).2.2.2.2 2 _) :=
  (h.2.1.2.2.2.2.1 stsSt 1 0x200040 (leBytes 8 5) true (by decide +kernel)).2.2.2.2 2 (by decide +kernel)

theorem wit_sts_line_write (h : Obligations.MemoryRequests) : type_of% ((h.2.1.2.2.2.2.2 stsSt 1 (0x200040 / 64) 0x11 1 _ false rq9 (leBytes 64 77) _ rfl).1 _ _) :=
  (h.2.1.2.2.2.2.2 stsSt 1 (0x200040 / 64) 0x11 1 _ false rq9 (leBytes 64 77) (by decide +kernel) rfl).1 (by decide +kernel) (by decide +kernel)

theorem wit_sts_line_refused (h : Obligations.MemoryRequests) : type_of% ((h.2.1.2.2.2.2.2 stsSt 1 (0x200040 / 64) 0x11 1 _ false { rq9 with part := 2 } (leBytes 64 77) _ rfl).2 (Or.inl _)) :=
  (h.2.1.2.2.2.2.2 stsSt 1 (0x200040 / 64) 0x11 1 _ false { rq9 with part := 2 } (leBytes 64 77) (by decide +kernel) rfl).2 (Or.inl (by decide +kernel))

theorem wit_host_read_word (h : Obligations.MemoryRequests) : type_of% (h.2.2.1 p1 0x381 0 0 8 1193024 rq9 { space := 2, off := 0x123440 } (.readWord 0x381 rq9 { space := 2, off := 0x123440 }) (.readWord { space := 2, off := 0x123440 }) (.inl ⟨rfl, rfl, rfl, rfl, rfl⟩) _ _ _ _) :=
  h.2.2.1 p1 0x381 0 0 8 1193024 rq9 { space := 2, off := 0x123440 } (.readWord 0x381 rq9 { space := 2, off := 0x123440 }) (.readWord { space := 2, off := 0x123440 }) (.inl ⟨rfl, rfl, rfl, rfl, rfl⟩) (by decide +kernel) (by decide +kernel) (by decide +kernel) (by decide +kernel)

theorem wit_host_read_line (h : Obligations.MemoryRequests) : type_of% (h.2.2.1 p1 0x381 0 1 64 1193024 rq9 { space := 2, off := 0x123440 } (.readLine 0x381 rq9 { space := 2, off := 0x123440 }) (.readLine { space := 2, off := 0x123440 }) (.inr (.inl ⟨rfl, rfl, rfl, rfl, rfl⟩)) _ _ _ _) :=
  h.2.2.1 p1 0x381 0 1 64 1193024 rq9 { space := 2, off := 0x123440 } (.readLine 0x381 rq9 { space := 2, off := 0x123440 }) (.readLine { space := 2, off := 0x123440 }) (.inr (.inl ⟨rfl, rfl, rfl, rfl, rfl⟩)) (by decide +kernel) (by decide +kernel) (by decide +kernel) (by decide +kernel)

theorem wit_host_read_bulk (h : Obligations.MemoryRequests) : type_of% (h.2.2.1 p1 0x381 0 2 256 1193024 rq9 { space := 2, off := 0x123440 } (.readBulk 0x381 rq9 { space := 2, off := 0x123440 }) (.readBulk { space := 2, off := 0x123440 }) (.inr (.inr ⟨rfl, rfl, rfl, rfl, rfl⟩)) _ _ _ _) :=
  h.2.2.1 p1 0x381 0 2 256 1193024 rq9 { space := 2, off := 0x123440 } (.readBulk 0x381 rq9 { space := 2, off := 0x123440 }) (.readBulk { space := 2, off := 0x123440 }) (.inr (.inr ⟨rfl, rfl, rfl, rfl, rfl⟩)) (by decide +kernel) (by decide +kernel) (by decide +kernel) (by decide +kernel)

theorem wit_host_write (h : Obligations.MemoryRequests) : type_of% (h.2.2.2.1 p1 0x381 0 32 rq9 { space := 2, off := 0x123440 } ⟨5, true⟩ _ _ _ _) :=
  h.2.2.2.1 p1 0x381 0 32 rq9 { space := 2, off := 0x123440 } ⟨5, true⟩ (by decide +kernel) (by decide +kernel) (by decide +kernel) (by decide +kernel)

theorem wit_host_line (h : Obligations.MemoryRequests) : type_of% (h.2.2.2.2.1 p1 0x381 0 5 2 0 false rq9 (leBytes 64 1) _ _ _) :=
  h.2.2.2.2.1 p1 0x381 0 5 2 0 false rq9 (leBytes 64 1) (by decide +kernel) (by decide +kernel) (by decide +kernel)

theorem wit_host_base (h : Obligations.MemoryRequests) : type_of% (h.2.2.2.2.2.1 p1 0x381 0 5 0x123450000 rq9 _ _ _) :=
  h.2.2.2.2.2.1 p1 0x381 0 5 0x123450000 rq9 (by decide +kernel) (by decide +kernel) (by decide +kernel)

theorem wit_mem_host (h : Obligations.MemoryRequests) : type_of% (((h.2.2.2.2.2.2.1 p1 _ 0 1 0x123440 64 0 rq9 [] _ _ rfl).1 _ rfl).1 _) :=
  ((h.2.2.2.2.2.2.1 p1 _ 0 1 0x123440 64 0 rq9 [] _ _ rfl).1 (by decide +kernel) rfl).1 (by decide +kernel)

theorem wit_mem_host_fail (h : Obligations.MemoryRequests) : type_of% (((h.2.2.2.2.2.2.1 (noBmeP) _ 0 1 0x123440 64 0 rq9 [] _ _ rfl).1 _ rfl).2.2 Kind.hostCompletionError _) :=
  ((h.2.2.2.2.2.2.1 (noBmeP) _ 0 1 0x123440 64 0 rq9 [] _ _ rfl).1 (by decide +kernel) rfl).2.2 Kind.hostCompletionError (by decide +kernel)

theorem wit_mem_host_done (h : Obligations.MemoryRequests) : type_of% (((h.2.2.2.2.2.2.1 p1 _ 0 3 0x123440 64 0 rq9 [] _ _ rfl).1 _ rfl).2.1 _) :=
  ((h.2.2.2.2.2.2.1 p1 _ 0 3 0x123440 64 0 rq9 [] _ _ rfl).1 (by decide +kernel) rfl).2.1 (by decide +kernel)

theorem wit_mem_host_away (h : Obligations.MemoryRequests) : type_of% ((h.2.2.2.2.2.2.1 p1 p1 1 1 0x123440 64 0 rq9 [] .done _ rfl).2 _ _) :=
  (h.2.2.2.2.2.2.1 p1 p1 1 1 0x123440 64 0 rq9 [] .done _ rfl).2 (by decide +kernel) (by decide +kernel)

theorem wit_drop_read (h : Obligations.MemoryRequests) : type_of% (h.2.2.2.2.2.2.2.1 p1 0x301 0 8 0x123440 rq9 { space := 2, off := 0x123440 } (.readWord 0x301 rq9 { space := 2, off := 0x123440 }) (.readWord { space := 2, off := 0x123440 }) _ _ (.inl ⟨(.inl ⟨rfl, rfl, rfl, rfl, rfl⟩), rfl⟩)) :=
  h.2.2.2.2.2.2.2.1 p1 0x301 0 8 0x123440 rq9 { space := 2, off := 0x123440 } (.readWord 0x301 rq9 { space := 2, off := 0x123440 }) (.readWord { space := 2, off := 0x123440 }) (by decide +kernel) (by decide +kernel) (.inl ⟨(.inl ⟨rfl, rfl, rfl, rfl, rfl⟩), rfl⟩)

theorem wit_drop_write (h : Obligations.MemoryRequests) : type_of% (h.2.2.2.2.2.2.2.1 p1 0x301 0 8 0x123440 rq9 { space := 2, off := 0x123440 } (.writeWord 0x301 rq9 { space := 2, off := 0x123440 } 32 ⟨1, false⟩) (.writeWord { space := 2, off := 0x123440 } 32 ⟨1, false⟩) _ _ (.inr (.inl ⟨32, ⟨1, false⟩, rfl, rfl, rfl⟩))) :=
  h.2.2.2.2.2.2.2.1 p1 0x301 0 8 0x123440 rq9 { space := 2, off := 0x123440 } (.writeWord 0x301 rq9 { space := 2, off := 0x123440 } 32 ⟨1, false⟩) (.writeWord { space := 2, off := 0x123440 } 32 ⟨1, false⟩) (by decide +kernel) (by decide +kernel) (.inr (.inl ⟨32, ⟨1, false⟩, rfl, rfl, rfl⟩))

theorem wit_drop_aadd (h : Obligations.MemoryRequests) : type_of% (h.2.2.2.2.2.2.2.1 p1 0x301 0 8 0x123440 rq9 { space := 2, off := 0x123440 } (.aaddRequest 0x301 rq9 { space := 2, off := 0x123440 } 32 1) (.aadd { space := 2, off := 0x123440 } 32 1) _ _ (.inr (.inr (.inl ⟨32, 1, rfl, rfl, .inl rfl⟩)))) :=
  h.2.2.2.2.2.2.2.1 p1 0x301 0 8 0x123440 rq9 { space := 2, off := 0x123440 } (.aaddRequest 0x301 rq9 { space := 2, off := 0x123440 } 32 1) (.aadd { space := 2, off := 0x123440 } 32 1) (by decide +kernel) (by decide +kernel) (.inr (.inr (.inl ⟨32, 1, rfl, rfl, .inl rfl⟩)))

theorem wit_drop_line (h : Obligations.MemoryRequests) : type_of% (h.2.2.2.2.2.2.2.1 p1 0x301 0 8 0x123440 rq9 { space := 2, off := 0x123440 } (.lineWrite 0x301 rq9 1 0 false [] 0) (.lineWrite 1 0 false [] 0) _ _ (.inr (.inr (.inr (.inl ⟨1, 0, false, [], 0, rfl, rfl, _, _, rfl⟩))))) :=
  h.2.2.2.2.2.2.2.1 p1 0x301 0 8 0x123440 rq9 { space := 2, off := 0x123440 } (.lineWrite 0x301 rq9 1 0 false [] 0) (.lineWrite 1 0 false [] 0) (by decide +kernel) (by decide +kernel) (.inr (.inr (.inr (.inl ⟨1, 0, false, [], 0, rfl, rfl, (by decide +kernel), (by decide +kernel), rfl⟩))))

theorem wit_drop_base (h : Obligations.MemoryRequests) : type_of% (h.2.2.2.2.2.2.2.1 p1 0x301 0 8 0x123440 rq9 { space := 2, off := 0x123440 } (.hostBase 0x301 rq9 1 0) (.hostBase 1 0) _ _ (.inr (.inr (.inr (.inr (.inl ⟨1, 0, rfl, rfl, rfl⟩)))))) :=
  h.2.2.2.2.2.2.2.1 p1 0x301 0 8 0x123440 rq9 { space := 2, off := 0x123440 } (.hostBase 0x301 rq9 1 0) (.hostBase 1 0) (by decide +kernel) (by decide +kernel) (.inr (.inr (.inr (.inr (.inl ⟨1, 0, rfl, rfl, rfl⟩)))))

theorem wit_drop_event (h : Obligations.MemoryRequests) : type_of% (h.2.2.2.2.2.2.2.1 p1 0x301 0 8 0x123440 rq9 { space := 2, off := 0x123440 } (.eventSet 0x301 rq9 3) (.eventSet 3) _ _ (.inr (.inr (.inr (.inr (.inr ⟨3, rfl, rfl, _⟩)))))) :=
  h.2.2.2.2.2.2.2.1 p1 0x301 0 8 0x123440 rq9 { space := 2, off := 0x123440 } (.eventSet 0x301 rq9 3) (.eventSet 3) (by decide +kernel) (by decide +kernel) (.inr (.inr (.inr (.inr (.inr ⟨3, rfl, rfl, (by decide +kernel)⟩)))))

theorem wit_event_set (h : Obligations.MemoryRequests) : type_of% ((h.2.2.2.2.2.2.2.2.2 (memSt) 6 6 5 _ { src := rqId 0x2C8 0, part := 1 } _ rfl).1 (by intro a b c hb; cases hb)) :=
  (h.2.2.2.2.2.2.2.2.2 (memSt) 6 6 5 _ { src := rqId 0x2C8 0, part := 1 } (by decide +kernel) rfl).1 (by intro a b c hb; cases hb)

theorem wit_event_wakes (h : Obligations.MemoryRequests) : type_of% ((h.2.2.2.2.2.2.2.2.2 waitEvSt 6 6 5 _ { src := rqId 0x2C8 0, part := 1 } _ rfl).2 1 15 none _ _) :=
  (h.2.2.2.2.2.2.2.2.2 waitEvSt 6 6 5 _ { src := rqId 0x2C8 0, part := 1 } (by decide +kernel) rfl).2 1 15 none (by decide +kernel) (by decide +kernel)

/-! ### Witnesses: LinksAndRouters -/

theorem wit_flit_to_router (h : Obligations.LinksAndRouters) : type_of% (h.1.1 (linkSt { rx := { expect := 255, naked := true } }) 0x201 1 aflit _) :=
  h.1.1 (linkSt { rx := { expect := 255, naked := true } }) 0x201 1 aflit (by decide +kernel)

theorem wit_flit_to_unit (h : Obligations.LinksAndRouters) : type_of% (h.1.2.1 (linkSt { tx := { expect := 255 } }) 0x201 1 5 tflit _ _) :=
  h.1.2.1 (linkSt { tx := { expect := 255 } }) 0x201 1 5 tflit (by decide +kernel) (by decide +kernel)

theorem wit_flit_bad (h : Obligations.LinksAndRouters) : type_of% ((h.1.2.2.1 (linkSt { rx := { expect := 3 } }) 0x201 1 3 0 false aflit _ _).1 _ _) :=
  (h.1.2.2.1 (linkSt { rx := { expect := 3 } }) 0x201 1 3 0 false aflit (by decide +kernel) (by decide +kernel)).1 (by decide +kernel) (by decide +kernel)

theorem wit_flit_bad_again (h : Obligations.LinksAndRouters) : type_of% ((h.1.2.2.1 (linkSt { rx := { expect := 3, naked := true, fails := 1 } }) 0x201 1 4 0 false aflit _ _).2.1 _ _) :=
  (h.1.2.2.1 (linkSt { rx := { expect := 3, naked := true, fails := 1 } }) 0x201 1 4 0 false aflit (by decide +kernel) (by decide +kernel)).2.1 (by decide +kernel) (by decide +kernel)

theorem wit_flit_bad_same (h : Obligations.LinksAndRouters) : type_of% ((h.1.2.2.1 (linkSt { rx := { expect := 3, naked := true, fails := 6 } }) 0x201 1 3 0 false aflit _ _).2.2.1 _ _ _) :=
  (h.1.2.2.1 (linkSt { rx := { expect := 3, naked := true, fails := 6 } }) 0x201 1 3 0 false aflit (by decide +kernel) (by decide +kernel)).2.2.1 (by decide +kernel) (by decide +kernel) (by decide +kernel)

theorem wit_link_down (h : Obligations.LinksAndRouters) : type_of% ((h.1.2.2.1 (linkSt { rx := { expect := 3, naked := true, fails := 7 } }) 0x201 1 3 0 false aflit _ _).2.2.2 _ _ _) :=
  (h.1.2.2.1 (linkSt { rx := { expect := 3, naked := true, fails := 7 } }) 0x201 1 3 0 false aflit (by decide +kernel) (by decide +kernel)).2.2.2 (by decide +kernel) (by decide +kernel) (by decide +kernel)

theorem wit_flit_ignored (h : Obligations.LinksAndRouters) : type_of% ((h.1.2.2.2 (linkSt { rx := { expect := 3, naked := true } }) 0x201 1 4 false aflit _ _).1 _) :=
  (h.1.2.2.2 (linkSt { rx := { expect := 3, naked := true } }) 0x201 1 4 false aflit (by decide +kernel) (by decide +kernel)).1 (by decide +kernel)

theorem wit_flit_duplicate (h : Obligations.LinksAndRouters) : type_of% ((h.1.2.2.2 (linkSt { rx := { expect := 3 } }) 0x201 1 2 false aflit _ _).2 _ _) :=
  (h.1.2.2.2 (linkSt { rx := { expect := 3 } }) 0x201 1 2 false aflit (by decide +kernel) (by decide +kernel)).2 (by decide +kernel) (by decide +kernel)

theorem wit_link_nak (h : Obligations.LinksAndRouters) : type_of% ((h.2.1.1 sentSt 0x201 1 4 true _ _).1 _) :=
  (h.2.1.1 sentSt 0x201 1 4 true (by decide +kernel) (by decide +kernel)).1 (by decide +kernel)

theorem wit_link_nak_unit (h : Obligations.LinksAndRouters) : type_of% ((h.2.1.1 unitSent 0x201 1 4 false _ _).1 _) :=
  (h.2.1.1 unitSent 0x201 1 4 false (by decide +kernel) (by decide +kernel)).1 (by decide +kernel)

theorem wit_link_ack_other (h : Obligations.LinksAndRouters) : type_of% ((h.2.1.1 sentSt 0x201 1 9 true _ _).2 _) :=
  (h.2.1.1 sentSt 0x201 1 9 true (by decide +kernel) (by decide +kernel)).2 (by decide +kernel)

theorem wit_sent_router (h : Obligations.LinksAndRouters) : type_of% ((h.2.1.2.1 sentSt 0x201 1 true kept3 []).2.1 _) :=
  (h.2.1.2.1 sentSt 0x201 1 true kept3 []).2.1 (by decide +kernel)

theorem wit_sent_again (h : Obligations.LinksAndRouters) : type_of% ((h.2.1.2.1 unitSent 0x201 1 false kept3 kept3).2.2.1 _) :=
  (h.2.1.2.1 unitSent 0x201 1 false kept3 kept3).2.2.1 (by decide +kernel)

theorem wit_sender_numbers (h : Obligations.LinksAndRouters) : type_of% ((h.2.1.2.2.1 false (inDepth 0x201 1) { used := [0, 0, 2, 0] } aflit).1 _ _ _ (Or.inl _)) :=
  (h.2.1.2.2.1 false (inDepth 0x201 1) { used := [0, 0, 2, 0] } aflit).1 (by decide +kernel) (by decide +kernel) (by decide +kernel) (Or.inl (by decide +kernel))

theorem wit_sender_waits (h : Obligations.LinksAndRouters) : type_of% ((h.2.1.2.2.1 true (inDepth 0x201 1) { used := [0, 0, 2, 0] } aflit).2 (Or.inr (Or.inr (Or.inr _)))) :=
  (h.2.1.2.2.1 true (inDepth 0x201 1) { used := [0, 0, 2, 0] } aflit).2 (Or.inr (Or.inr (Or.inr (by decide +kernel))))

theorem wit_sender_waits_again (h : Obligations.LinksAndRouters) : type_of% ((h.2.1.2.2.1 false (inDepth 0x201 1) { resend := kept3 } aflit).2 (Or.inl _)) :=
  (h.2.1.2.2.1 false (inDepth 0x201 1) { resend := kept3 } aflit).2 (Or.inl (by decide +kernel))

theorem wit_sender_waits_credit (h : Obligations.LinksAndRouters) : type_of% ((h.2.1.2.2.1 false (inDepth 0x201 1) { used := [0, 0, 8, 0] } aflit).2 (Or.inr (Or.inr (Or.inl _)))) :=
  (h.2.1.2.2.1 false (inDepth 0x201 1) { used := [0, 0, 8, 0] } aflit).2 (Or.inr (Or.inr (Or.inl (by decide +kernel))))

theorem wit_credit (h : Obligations.LinksAndRouters) : type_of% ((h.2.1.2.2.2 (setBuf p1 0x201 7 2 false { used := 1, owed := [99999, 200000] }) 0x201 7 2 99999 false [200000] _ _ _).1 _) :=
  (h.2.1.2.2.2 (setBuf p1 0x201 7 2 false { used := 1, owed := [99999, 200000] }) 0x201 7 2 99999 false [200000] (by decide +kernel) (by decide +kernel) (by decide +kernel)).1 (by decide +kernel)

theorem wit_credit_unit (h : Obligations.LinksAndRouters) : type_of% ((h.2.1.2.2.2 (setBuf unitSent 0x201 1 2 false { used := 1, owed := [99999, 200000] }) 0x201 1 2 99999 false [200000] _ _ _).2 5 _) :=
  (h.2.1.2.2.2 (setBuf unitSent 0x201 1 2 false { used := 1, owed := [99999, 200000] }) 0x201 1 2 99999 false [200000] (by decide +kernel) (by decide +kernel) (by decide +kernel)).2 5 (by decide +kernel)

theorem wit_forward (h : Obligations.LinksAndRouters) : type_of% ((h.2.2.1 (headSt {}) _ 0x201 7 1 2 aflit [] _ _ _ _ _ _ _ rfl).2 _ _ _ _) :=
  (h.2.2.1 (headSt {}) _ 0x201 7 1 2 aflit [] _ (by decide +kernel) (by decide +kernel) (by decide +kernel) (by decide +kernel) (by decide +kernel) (by decide +kernel) rfl).2 (by decide +kernel) (by decide +kernel) (by decide +kernel) (by decide +kernel)

theorem wit_forward_lost (h : Obligations.LinksAndRouters) : type_of% ((h.2.2.1 (headSt { err := 3 }) _ 0x201 7 1 2 aflit [] _ _ _ _ _ _ _ rfl).1 _) :=
  (h.2.2.1 (headSt { err := 3 }) _ 0x201 7 1 2 aflit [] _ (by decide +kernel) (by decide +kernel) (by decide +kernel) (by decide +kernel) (by decide +kernel) (by decide +kernel) rfl).1 (by decide +kernel)

theorem wit_forward_cut (h : Obligations.LinksAndRouters) : type_of% ((h.2.2.2.1 cutSt 0x201 7 _ _).1 1 2 _) :=
  (h.2.2.2.1 cutSt 0x201 7 (by decide +kernel) (by decide +kernel)).1 1 2 (by decide +kernel)

theorem wit_forward_bad (h : Obligations.LinksAndRouters) : type_of% ((h.2.2.2.1 (setBuf p1 0x201 1 2 false { flits := [flit], used := 1 }) 0x201 7 _ _).2.1 1 2 flit _ _) :=
  (h.2.2.2.1 (setBuf p1 0x201 1 2 false { flits := [flit], used := 1 }) 0x201 7 (by decide +kernel) (by decide +kernel)).2.1 1 2 flit (by decide +kernel) (by decide +kernel)

theorem wit_forward_again (h : Obligations.LinksAndRouters) : type_of% ((h.2.2.2.1 againSt 0x201 7 _ _).2.2 (3, aflit) [] _ _ _) :=
  (h.2.2.2.1 againSt 0x201 7 (by decide +kernel) (by decide +kernel)).2.2 (3, aflit) [] (by decide +kernel) (by decide +kernel) (by decide +kernel)

theorem wit_drop_flit (h : Obligations.LinksAndRouters) : type_of% (h.2.2.2.2.1 (headSt {}) 0x201 1 2 Kind.nocHeaderInvalid aflit (some 1) _ _) :=
  h.2.2.2.2.1 (headSt {}) 0x201 1 2 Kind.nocHeaderInvalid aflit (some 1) (by decide +kernel) (by decide +kernel)

theorem wit_flit_sound (h : Obligations.LinksAndRouters) : type_of% ((h.2.2.2.2.2.1 (headSt {}) 0x201 1 2 aflit [] _).1 _) :=
  (h.2.2.2.2.2.1 (headSt {}) 0x201 1 2 aflit [] (by decide +kernel)).1 (by decide +kernel)

theorem wit_flit_corrected (h : Obligations.LinksAndRouters) : type_of% ((h.2.2.2.2.2.1 (headSt { err := 1 }) 0x201 1 2 aflit [] _).2.1 _) :=
  (h.2.2.2.2.2.1 (headSt { err := 1 }) 0x201 1 2 aflit [] (by decide +kernel)).2.1 (by decide +kernel)

theorem wit_flit_lost (h : Obligations.LinksAndRouters) : type_of% ((h.2.2.2.2.2.1 (headSt { err := 3 }) 0x201 1 2 aflit [] _).2.2.1 (Or.inl _)) :=
  (h.2.2.2.2.2.1 (headSt { err := 3 }) 0x201 1 2 aflit [] (by decide +kernel)).2.2.1 (Or.inl (by decide +kernel))

theorem wit_flit_poisoned (h : Obligations.LinksAndRouters) : type_of% ((h.2.2.2.2.2.1 (headSt { err := 9 }) 0x201 1 2 aflit [] _).2.2.2 _) :=
  (h.2.2.2.2.2.1 (headSt { err := 9 }) 0x201 1 2 aflit [] (by decide +kernel)).2.2.2 (by decide +kernel)

theorem wit_flit_picked (h : Obligations.LinksAndRouters) : type_of% ((h.2.2.2.2.2.2 (headSt {}) 0x201 7 2 1 _).2.2 _) :=
  (h.2.2.2.2.2.2 (headSt {}) 0x201 7 2 1 (by decide +kernel)).2.2 (by decide +kernel)

/-! ### Witnesses: TimersAndPurges -/

theorem wit_e2e_repeat (h : Obligations.TimersAndPurges) : type_of% ((h.1.1 (outSt (timedReq 2) p1) 5 0 1 0x305 3 (timedReq 2) _ _ _).1 _ _ _) :=
  (h.1.1 (outSt (timedReq 2) p1) 5 0 1 0x305 3 (timedReq 2) (by decide +kernel) (by decide +kernel) (by decide +kernel)).1 (by decide +kernel) (by decide +kernel) (by decide +kernel)

theorem wit_e2e_waited (h : Obligations.TimersAndPurges) : type_of% ((h.1.1 (outSt { timedReq 2 with waited := true } p1) 5 0 1 0x305 3 { timedReq 2 with waited := true } _ _ _).2.1 _ _) :=
  (h.1.1 (outSt { timedReq 2 with waited := true } p1) 5 0 1 0x305 3 { timedReq 2 with waited := true } (by decide +kernel) (by decide +kernel) (by decide +kernel)).2.1 (by decide +kernel) (by decide +kernel)

theorem wit_e2e_last (h : Obligations.TimersAndPurges) : type_of% ((h.1.1 (outSt (timedReq 3) p1) 5 0 1 0x305 3 (timedReq 3) _ _ _).2.2 (Or.inr _)) :=
  (h.1.1 (outSt (timedReq 3) p1) 5 0 1 0x305 3 (timedReq 3) (by decide +kernel) (by decide +kernel) (by decide +kernel)).2.2 (Or.inr (by decide +kernel))

theorem wit_e2e_never (h : Obligations.TimersAndPurges) : type_of% ((h.1.1 (outSt { timedReq 0 with body := .take 1 2 } p1) 5 0 1 0x305 3 { timedReq 0 with body := .take 1 2 } _ _ _).2.2 (Or.inl _)) :=
  (h.1.1 (outSt { timedReq 0 with body := .take 1 2 } p1) 5 0 1 0x305 3 { timedReq 0 with body := .take 1 2 } (by decide +kernel) (by decide +kernel) (by decide +kernel)).2.2 (Or.inl (by decide +kernel))

theorem wit_abandon_result (h : Obligations.TimersAndPurges) : type_of% ((h.1.2 (node []) _ resultReq false rfl).1 1 (Or.inl _)) :=
  (h.1.2 (node []) _ resultReq false rfl).1 1 (Or.inl (by decide +kernel))

theorem wit_abandon_spawn (h : Obligations.TimersAndPurges) : type_of% ((h.1.2 (node []) _ spawnReq false rfl).1 1 (Or.inr (Or.inl ⟨true, rfl⟩))) :=
  (h.1.2 (node []) _ spawnReq false rfl).1 1 (Or.inr (Or.inl ⟨true, rfl⟩))

theorem wit_abandon_take (h : Obligations.TimersAndPurges) : type_of% ((h.1.2 (node []) _ { resultReq with use := .take 1 } false rfl).1 1 (Or.inr (Or.inr _))) :=
  (h.1.2 (node []) _ { resultReq with use := .take 1 } false rfl).1 1 (Or.inr (Or.inr (by decide +kernel)))

theorem wit_abandon_orphan (h : Obligations.TimersAndPurges) : type_of% ((h.1.2 (node []) _ (timedLoad 9) false rfl).2.1 _ _) :=
  (h.1.2 (node []) _ (timedLoad 9) false rfl).2.1 (by decide +kernel) (by decide +kernel)

theorem wit_abandon_load (h : Obligations.TimersAndPurges) : type_of% ((h.1.2 (node []) _ (timedLoad 0) false rfl).2.2.1 _ _ _) :=
  (h.1.2 (node []) _ (timedLoad 0) false rfl).2.2.1 (by decide +kernel) (by decide +kernel) (by decide +kernel)

theorem wit_abandon_fill (h : Obligations.TimersAndPurges) : type_of% ((h.1.2 (node []) _ fillReq false rfl).2.2.2 7 _) :=
  (h.1.2 (node []) _ fillReq false rfl).2.2.2 7 (by decide +kernel)

theorem wit_token_ack (h : Obligations.TimersAndPurges) : type_of% ((h.2.1.1 ackSt 5 36 1 1 _ rfl _).1 _ _) :=
  (h.2.1.1 ackSt 5 36 1 1 _ rfl (by decide +kernel)).1 (by decide +kernel) (by decide +kernel)

theorem wit_token_ack_gate (h : Obligations.TimersAndPurges) : type_of% ((h.2.1.1 gateAcks 0x305 36 1 1 _ rfl _).2.1 _) :=
  (h.2.1.1 gateAcks 0x305 36 1 1 _ rfl (by decide +kernel)).2.1 (by decide +kernel)

theorem wit_token_ack_other (h : Obligations.TimersAndPurges) : type_of% ((h.2.1.1 p1 0x301 36 1 1 _ rfl _).2.2 _ _) :=
  (h.2.1.1 p1 0x301 36 1 1 _ rfl (by decide +kernel)).2.2 (by decide +kernel) (by decide +kernel)

theorem wit_e2e_tokens (h : Obligations.TimersAndPurges) : type_of% (h.2.1.2.1 ackSt 5 100000 { cls := 1, dest := 9, src := 20, part := 1, body := .tokens 1 [gtok] true } [] _ _ _ _ _ _) :=
  h.2.1.2.1 ackSt 5 100000 { cls := 1, dest := 9, src := 20, part := 1, body := .tokens 1 [gtok] true } [] (by decide +kernel) (by decide +kernel) (by decide +kernel) (by decide +kernel) (by decide +kernel) (by decide +kernel)

theorem wit_e2e_gate (h : Obligations.TimersAndPurges) : type_of% (h.2.1.2.2.1 gateAcks 100000 (gpkt, 0) [] _ _ _ _) :=
  h.2.1.2.2.1 gateAcks 100000 (gpkt, 0) [] (by decide +kernel) (by decide +kernel) (by decide +kernel) (by decide +kernel)

theorem wit_purge (h : Obligations.TimersAndPurges) : type_of% ((h.2.2.1 replSt2 0x305 20 20 1 _ rfl _).1 _) :=
  (h.2.2.1 replSt2 0x305 20 20 1 _ rfl (by decide +kernel)).1 (by decide +kernel)

theorem wit_purge_other (h : Obligations.TimersAndPurges) : type_of% ((h.2.2.1 replSt2 0x306 20 20 1 _ rfl _).2 _) :=
  (h.2.2.1 replSt2 0x306 20 20 1 _ rfl (by decide +kernel)).2 (by decide +kernel)

theorem wit_purge_ack (h : Obligations.TimersAndPurges) : type_of% ((h.2.2.2.1 purgeSt _ 5 0x305 20 1 _ rfl _ _ rfl).2 _) :=
  (h.2.2.2.1 purgeSt _ 5 0x305 20 1 _ rfl (by decide +kernel) (by decide +kernel) rfl).2 (by decide +kernel)

theorem wit_purge_ack_safe (h : Obligations.TimersAndPurges) : type_of% ((h.2.2.2.1 { purgeSt with clr := { purgeSt.clr with mode := .safe } } _ 5 0x305 20 1 _ rfl _ _ rfl).1 _) :=
  (h.2.2.2.1 { purgeSt with clr := { purgeSt.clr with mode := .safe } } _ 5 0x305 20 1 _ rfl (by decide +kernel) (by decide +kernel) rfl).1 (by decide +kernel)

theorem wit_flush_none (h : Obligations.TimersAndPurges) : type_of% ((h.2.2.2.2 p1).1 _) :=
  (h.2.2.2.2 p1).1 (by decide +kernel)

theorem wit_flush_one (h : Obligations.TimersAndPurges) : type_of% (((h.2.2.2.2 { p1 with sendWait := [resultReq] }).2 resultReq _ _).1 _) :=
  ((h.2.2.2.2 { p1 with sendWait := [resultReq] }).2 resultReq (by decide +kernel) (by decide +kernel)).1 (by decide +kernel)

theorem wit_flush_closed (h : Obligations.TimersAndPurges) : type_of% (((h.2.2.2.2 { p1 with sendWait := [resultReq], outs := (List.range 64).map (fun n => { resultReq with tag := n }) }).2 resultReq _ _).2 _) :=
  ((h.2.2.2.2 { p1 with sendWait := [resultReq], outs := (List.range 64).map (fun n => { resultReq with tag := n }) }).2 resultReq (by decide +kernel) (by decide +kernel)).2 (by decide +kernel)

/-! ### Witnesses: ProbesAndScrubs -/

theorem wit_probe_sel (h : Obligations.ProbesAndScrubs) : type_of% ((h.1 up 0 3 .sel (.whole selVal) _ _ _).1 _) :=
  (h.1 up 0 3 .sel (.whole selVal) (by decide +kernel) (by decide +kernel) (by decide +kernel)).1 (by decide +kernel)

theorem wit_probe_refused (h : Obligations.ProbesAndScrubs) : type_of% ((h.1 probing 0 3 .sel (.whole selVal) _ _ _).2 _) :=
  (h.1 probing 0 3 .sel (.whole selVal) (by decide +kernel) (by decide +kernel) (by decide +kernel)).2 (by decide +kernel)

theorem wit_probe_high (h : Obligations.ProbesAndScrubs) : type_of% ((h.1 up 0 3 .sel (.high (selVal / 2 ^ 32)) _ _ _).1 _) :=
  (h.1 up 0 3 .sel (.high (selVal / 2 ^ 32)) (by decide +kernel) (by decide +kernel) (by decide +kernel)).1 (by decide +kernel)

theorem wit_probe_fw (h : Obligations.ProbesAndScrubs) : type_of% ((h.2.1 up 3 .sel (.whole selVal) _ _ _).1 _) :=
  (h.2.1 up 3 .sel (.whole selVal) (by decide +kernel) (by decide +kernel) (by decide +kernel)).1 (by decide +kernel)

theorem wit_probe_fw_refused (h : Obligations.ProbesAndScrubs) : type_of% ((h.2.1 up 3 .sel (.whole 0) _ _ _).2 _) :=
  (h.2.1 up 3 .sel (.whole 0) (by decide +kernel) (by decide +kernel) (by decide +kernel)).2 (by decide +kernel)

theorem wit_probe_whole (h : Obligations.ProbesAndScrubs) : type_of% (h.2.2.1 up 0x200300 selVal _ _) :=
  h.2.2.1 up 0x200300 selVal (by decide +kernel) (by decide +kernel)

theorem wit_probe_enable (h : Obligations.ProbesAndScrubs) : type_of% ((h.2.2.2.1 up 3 selVal .sel _).1 _ rfl _) :=
  (h.2.2.2.1 up 3 selVal .sel (by decide +kernel)).1 (by decide +kernel) rfl (by decide +kernel)

theorem wit_probe_fields (h : Obligations.ProbesAndScrubs) : type_of% ((h.2.2.2.1 up 3 5 .matchReg _).2 (Or.inl _)) :=
  (h.2.2.2.1 up 3 5 .matchReg (by decide +kernel)).2 (Or.inl (by decide +kernel))

theorem wit_probe_keeps_class (h : Obligations.ProbesAndScrubs) : type_of% ((h.2.2.2.2.1 { enable := true, classMask := 3 } 0).1 _ _) :=
  (h.2.2.2.2.1 { enable := true, classMask := 3 } 0).1 (by decide +kernel) (by decide +kernel)

theorem wit_probe_capture3 (h : Obligations.ProbesAndScrubs) : type_of% ((h.2.2.2.2.1 {} (2 ^ 61 * 3)).2.1 _) :=
  (h.2.2.2.2.1 {} (2 ^ 61 * 3)).2.1 (by decide +kernel)

theorem wit_probe_port (h : Obligations.ProbesAndScrubs) : type_of% ((h.2.2.2.2.1 {} (2 ^ 54 * 9 + 2 ^ 42 * 0x300)).2.2.1 _) :=
  (h.2.2.2.2.1 {} (2 ^ 54 * 9 + 2 ^ 42 * 0x300)).2.2.1 (by decide +kernel)

theorem wit_probe_dest (h : Obligations.ProbesAndScrubs) : type_of% ((h.2.2.2.2.1 {} (2 ^ 24 * 0x1FF)).2.2.2.1 _) :=
  (h.2.2.2.2.1 {} (2 ^ 24 * 0x1FF)).2.2.2.1 (by decide +kernel)

theorem wit_probe_src (h : Obligations.ProbesAndScrubs) : type_of% ((h.2.2.2.2.1 {} (2 ^ 52 * 0x1FF)).2.2.2.2.1 _) :=
  (h.2.2.2.2.1 {} (2 ^ 52 * 0x1FF)).2.2.2.2.1 (by decide +kernel)

theorem wit_probe_match (h : Obligations.ProbesAndScrubs) : type_of% ((h.2.2.2.2.1 {} 77).2.2.2.2.2 _) :=
  (h.2.2.2.2.1 {} 77).2.2.2.2.2 (by decide +kernel)

theorem wit_cap_ctrl (h : Obligations.ProbesAndScrubs) : type_of% (h.2.2.2.2.2.1 up 0 (.whole (2 ^ 63)) _ _) :=
  h.2.2.2.2.2.1 up 0 (.whole (2 ^ 63)) (by decide +kernel) (by decide +kernel)

theorem wit_cap_enable (h : Obligations.ProbesAndScrubs) : type_of% ((h.2.2.2.2.2.2.1 up (2 ^ 63)).2.2.2.2.2.2.1 _ _) :=
  (h.2.2.2.2.2.2.1 up (2 ^ 63)).2.2.2.2.2.2.1 (by decide +kernel) (by decide +kernel)

theorem wit_cap_keep (h : Obligations.ProbesAndScrubs) : type_of% ((h.2.2.2.2.2.2.1 up 5).2.2.2.2.2.2.2 (Or.inl _)) :=
  (h.2.2.2.2.2.2.1 up 5).2.2.2.2.2.2.2 (Or.inl (by decide +kernel))

theorem wit_scrub (h : Obligations.ProbesAndScrubs) : type_of% ((h.2.2.2.2.2.2.2 up _).1 0x201 1 2) :=
  (h.2.2.2.2.2.2.2 up (by decide +kernel)).1 0x201 1 2

theorem wit_scrub_prt (h : Obligations.ProbesAndScrubs) : type_of% ((h.2.2.2.2.2.2.2 (prtErr 1) _).2.1 _) :=
  (h.2.2.2.2.2.2.2 (prtErr 1) (by decide +kernel)).2.1 (by decide +kernel)

theorem wit_scrub_prt_lost (h : Obligations.ProbesAndScrubs) : type_of% ((h.2.2.2.2.2.2.2 (prtErr 2) _).2.2.1 _) :=
  (h.2.2.2.2.2.2.2 (prtErr 2) (by decide +kernel)).2.2.1 (by decide +kernel)

theorem wit_scrub_sts (h : Obligations.ProbesAndScrubs) : type_of% ((h.2.2.2.2.2.2.2 (stsErr 1) _).2.2.2.1 1 8 _ _ _ _) :=
  (h.2.2.2.2.2.2.2 (stsErr 1) (by decide +kernel)).2.2.2.1 1 8 (by decide +kernel) (by decide +kernel) (by decide +kernel) (by decide +kernel)

theorem wit_scrub_sts_lost (h : Obligations.ProbesAndScrubs) : type_of% ((h.2.2.2.2.2.2.2 (stsErr 2) _).2.2.2.2 1 8 _ _ _ _) :=
  (h.2.2.2.2.2.2.2 (stsErr 2) (by decide +kernel)).2.2.2.2 1 8 (by decide +kernel) (by decide +kernel) (by decide +kernel) (by decide +kernel)

/-! ### Witnesses: Locks -/

theorem wit_lock_acquire (h : Obligations.Locks) : type_of% ((h.1.1 (lockSt false {}) rq5 (lq .acquire) _ _ rfl).1 _ (gives (d := .wait) _) _) :=
  (h.1.1 (lockSt false {}) rq5 (lq .acquire) _ (by decide +kernel) rfl).1 _ (gives (d := .wait) (by decide +kernel)) (by decide +kernel)

theorem wit_lock_try (h : Obligations.Locks) : type_of% ((h.1.1 (lockSt false {}) rq5 (lq .try_) _ _ rfl).1 _ (gives (d := .wait) _) _) :=
  (h.1.1 (lockSt false {}) rq5 (lq .try_) _ (by decide +kernel) rfl).1 _ (gives (d := .wait) (by decide +kernel)) (by decide +kernel)

theorem wit_lock_release (h : Obligations.Locks) : type_of% ((h.1.1 (lockSt false held5) rq5 (lq .release) _ _ rfl).1 _ (gives (d := .wait) _) _) :=
  (h.1.1 (lockSt false held5) rq5 (lq .release) _ (by decide +kernel) rfl).1 _ (gives (d := .wait) (by decide +kernel)) (by decide +kernel)

theorem wit_sem_acquire (h : Obligations.Locks) : type_of% ((h.1.1 (lockSt true { count := 5 }) rq5 (lq .semAcquire (2 ^ 32)) _ _ rfl).1 _ (gives (d := .wait) _) _) :=
  (h.1.1 (lockSt true { count := 5 }) rq5 (lq .semAcquire (2 ^ 32)) _ (by decide +kernel) rfl).1 _ (gives (d := .wait) (by decide +kernel)) (by decide +kernel)

theorem wit_sem_release (h : Obligations.Locks) : type_of% ((h.1.1 (lockSt true { count := 5 }) rq5 (lq .semRelease (2 ^ 32)) _ _ rfl).1 _ (gives (d := .wait) _) _) :=
  (h.1.1 (lockSt true { count := 5 }) rq5 (lq .semRelease (2 ^ 32)) _ (by decide +kernel) rfl).1 _ (gives (d := .wait) (by decide +kernel)) (by decide +kernel)

theorem wit_lock_cancel (h : Obligations.Locks) : type_of% ((h.1.1 (lockSt false held5 [hostWait]) rqHost (lq .cancel) _ _ rfl).1 _ (gives (d := .wait) _) _) :=
  (h.1.1 (lockSt false held5 [hostWait]) rqHost (lq .cancel) _ (by decide +kernel) rfl).1 _ (gives (d := .wait) (by decide +kernel)) (by decide +kernel)

theorem wit_lock_force (h : Obligations.Locks) : type_of% ((h.1.1 (lockSt false held5) rqFlt (lq .force) _ _ rfl).1 _ (gives (d := .wait) _) _) :=
  (h.1.1 (lockSt false held5) rqFlt (lq .force) _ (by decide +kernel) rfl).1 _ (gives (d := .wait) (by decide +kernel)) (by decide +kernel)

theorem wit_lock_busy (h : Obligations.Locks) : type_of% ((h.1.1 (lockSt false held5) rq9 (lq .try_) _ _ rfl).2.1 _ (gives (d := .wait) _) _) :=
  (h.1.1 (lockSt false held5) rq9 (lq .try_) _ (by decide +kernel) rfl).2.1 _ (gives (d := .wait) (by decide +kernel)) (by decide +kernel)

theorem wit_lock_wait (h : Obligations.Locks) : type_of% ((h.1.1 (lockSt false held5) rq9 (lq .acquire) _ _ rfl).2.2 _ _) :=
  (h.1.1 (lockSt false held5) rq9 (lq .acquire) _ (by decide +kernel) rfl).2.2 (by decide +kernel) (by decide +kernel)

theorem wit_lock_slice (h : Obligations.Locks) : type_of% (h.1.2.1 lockSlice { rq9 with tag := 4 } (lq .acquire) _ _ _ rfl (by intro e he; cases he)) :=
  h.1.2.1 lockSlice { rq9 with tag := 4 } (lq .acquire) _ (by decide +kernel) (by decide +kernel) rfl (by intro e he; cases he)

theorem wit_lock_source (h : Obligations.Locks) : type_of% ((h.1.2.2.1 (lockSt false {}) _ rq5 (lq .force) rfl).1 _) :=
  (h.1.2.2.1 (lockSt false {}) _ rq5 (lq .force) rfl).1 (by decide +kernel)

theorem wit_lock_rights (h : Obligations.Locks) : type_of% ((h.1.2.2.1 (lockSt false {}) _ { rq5 with part := 2 } (lq .acquire) rfl).2.1 _ _ _) :=
  (h.1.2.2.1 (lockSt false {}) _ { rq5 with part := 2 } (lq .acquire) rfl).2.1 (by decide +kernel) (by decide +kernel) (by decide +kernel)

theorem wit_lock_fields (h : Obligations.Locks) : type_of% (((h.1.2.2.1 (lockSt false {}) _ rq5 (lq .acquire (2 ^ 12)) rfl).2.2 _ (Or.inr _)).1 _) :=
  ((h.1.2.2.1 (lockSt false {}) _ rq5 (lq .acquire (2 ^ 12)) rfl).2.2 (by decide +kernel) (Or.inr (by decide +kernel))).1 (by decide +kernel)

theorem wit_lock_outcome (h : Obligations.Locks) : type_of% (((h.1.2.2.1 (lockSt false {}) _ rq5 (lq .acquire) rfl).2.2 _ (Or.inr _)).2 _) :=
  ((h.1.2.2.1 (lockSt false {}) _ rq5 (lq .acquire) rfl).2.2 (by decide +kernel) (Or.inr (by decide +kernel))).2 (by decide +kernel)

theorem wit_lock_met (h : Obligations.Locks) : type_of% (h.1.2.2.2 (lockSt false held5 [wait9]) (lq .acquire) _ _) :=
  h.1.2.2.2 (lockSt false held5 [wait9]) (lq .acquire) (by decide +kernel) (by decide +kernel)

theorem wit_mutex_free (h : Obligations.Locks) : type_of% (((h.2.1 (lockSt false {}) rq5 (lq .acquire) _ rfl).1 (Or.inl _)).1 _) :=
  ((h.2.1 (lockSt false {}) rq5 (lq .acquire) _ rfl).1 (Or.inl (by decide +kernel))).1 (by decide +kernel)

theorem wit_mutex_free_try (h : Obligations.Locks) : type_of% (((h.2.1 (lockSt false {}) rq5 (lq .try_) _ rfl).1 (Or.inr _)).1 _) :=
  ((h.2.1 (lockSt false {}) rq5 (lq .try_) _ rfl).1 (Or.inr (by decide +kernel))).1 (by decide +kernel)

theorem wit_mutex_orphan (h : Obligations.Locks) : type_of% (((h.2.1 (lockSt false (orphaned true)) rq9 (lq .acquire) _ rfl).1 (Or.inl _)).2.1 _ _) :=
  ((h.2.1 (lockSt false (orphaned true)) rq9 (lq .acquire) _ rfl).1 (Or.inl (by decide +kernel))).2.1 (by decide +kernel) (by decide +kernel)

theorem wit_mutex_orphan_kept (h : Obligations.Locks) : type_of% (((h.2.1 (lockSt false (orphaned false)) rq9 (lq .acquire) _ rfl).1 (Or.inl _)).2.2 _ _) :=
  ((h.2.1 (lockSt false (orphaned false)) rq9 (lq .acquire) _ rfl).1 (Or.inl (by decide +kernel))).2.2 (by decide +kernel) (by decide +kernel)

theorem wit_mutex_own (h : Obligations.Locks) : type_of% (((h.2.1 (lockSt false held5) rq5 (lq .acquire) _ rfl).2.1 _ _).1 _ _) :=
  ((h.2.1 (lockSt false held5) rq5 (lq .acquire) _ rfl).2.1 (by decide +kernel) (by decide +kernel)).1 (by decide +kernel) (by decide +kernel)

theorem wit_mutex_joins (h : Obligations.Locks) : type_of% (((h.2.1 (lockSt false held5) rq9 (lq .acquire) _ rfl).2.1 _ _).2 (Or.inl _)) :=
  ((h.2.1 (lockSt false held5) rq9 (lq .acquire) _ rfl).2.1 (by decide +kernel) (by decide +kernel)).2 (Or.inl (by decide +kernel))

theorem wit_mutex_try (h : Obligations.Locks) : type_of% ((h.2.1 (lockSt false held5) rq9 (lq .try_) _ rfl).2.2.1 _ _) :=
  (h.2.1 (lockSt false held5) rq9 (lq .try_) _ rfl).2.2.1 (by decide +kernel) (by decide +kernel)

theorem wit_pool_room (h : Obligations.Locks) : type_of% ((h.2.1 (lockSt false held5) rq9 (lq .acquire (2 ^ 16 * 7)) _ rfl).2.2.2.1 _) :=
  (h.2.1 (lockSt false held5) rq9 (lq .acquire (2 ^ 16 * 7)) _ rfl).2.2.2.1 (by decide +kernel)

theorem wit_pool_full (h : Obligations.Locks) : type_of% ((h.2.1 (noPool (lockSt false held5)) rq9 (lq .acquire) _ rfl).2.2.2.2.1 _) :=
  (h.2.1 (noPool (lockSt false held5)) rq9 (lq .acquire) _ rfl).2.2.2.2.1 (by decide +kernel)

theorem wit_busy_plain (h : Obligations.Locks) : type_of% ((h.2.1 (lockSt false held5) rq9 (lq .try_) _ rfl).2.2.2.2.2.1 20 (Or.inl _)) :=
  (h.2.1 (lockSt false held5) rq9 (lq .try_) _ rfl).2.2.2.2.2.1 20 (Or.inl (by decide +kernel))

theorem wit_busy_full (h : Obligations.Locks) : type_of% ((h.2.1 (noPool (lockSt false held5)) rq9 (lq .try_ (2 ^ 15)) _ rfl).2.2.2.2.2.1 20 (Or.inr (Or.inl _))) :=
  (h.2.1 (noPool (lockSt false held5)) rq9 (lq .try_ (2 ^ 15)) _ rfl).2.2.2.2.2.1 20 (Or.inr (Or.inl (by decide +kernel)))

theorem wit_busy_watched (h : Obligations.Locks) : type_of% ((h.2.1 (lockSt false held5 [watch9]) rq9 (lq .try_ (2 ^ 15)) _ rfl).2.2.2.2.2.1 20 (Or.inr (Or.inr ⟨watch9, _, _⟩))) :=
  (h.2.1 (lockSt false held5 [watch9]) rq9 (lq .try_ (2 ^ 15)) _ rfl).2.2.2.2.2.1 20 (Or.inr (Or.inr ⟨watch9, (by decide +kernel), (by decide +kernel)⟩))

theorem wit_busy_watch (h : Obligations.Locks) : type_of% ((h.2.1 (lockSt false held5) rq9 (lq .try_ (2 ^ 15)) _ rfl).2.2.2.2.2.2.1 20 _ _ _) :=
  (h.2.1 (lockSt false held5) rq9 (lq .try_ (2 ^ 15)) _ rfl).2.2.2.2.2.2.1 20 (by decide +kernel) (by decide +kernel) (by decide +kernel)

theorem wit_release (h : Obligations.Locks) : type_of% ((h.2.1 (lockSt false held5 [wait9]) rq5 (lq .release) _ rfl).2.2.2.2.2.2.2.1 _ _ _ _) :=
  (h.2.1 (lockSt false held5 [wait9]) rq5 (lq .release) _ rfl).2.2.2.2.2.2.2.1 (by decide +kernel) (by decide +kernel) (by decide +kernel) (by decide +kernel)

theorem wit_release_other (h : Obligations.Locks) : type_of% ((h.2.1 (lockSt false held5) rq9 (lq .release) _ rfl).2.2.2.2.2.2.2.2.1 _ (Or.inr (Or.inl _))) :=
  (h.2.1 (lockSt false held5) rq9 (lq .release) _ rfl).2.2.2.2.2.2.2.2.1 (by decide +kernel) (Or.inr (Or.inl (by decide +kernel)))

theorem wit_release_free (h : Obligations.Locks) : type_of% ((h.2.1 (lockSt false {}) rq9 (lq .release) _ rfl).2.2.2.2.2.2.2.2.1 _ (Or.inl _)) :=
  (h.2.1 (lockSt false {}) rq9 (lq .release) _ rfl).2.2.2.2.2.2.2.2.1 (by decide +kernel) (Or.inl (by decide +kernel))

theorem wit_pass_free (h : Obligations.Locks) : type_of% (((h.2.1 (lockSt false held5 [watch9]) rq5 (lq .release) _ rfl).2.2.2.2.2.2.2.2.2 0).1 _) :=
  ((h.2.1 (lockSt false held5 [watch9]) rq5 (lq .release) _ rfl).2.2.2.2.2.2.2.2.2 0).1 (by decide +kernel)

theorem wit_pass_watch (h : Obligations.Locks) : type_of% ((((h.2.1 (lockSt false held5 [watch9]) rq5 (lq .release) _ rfl).2.2.2.2.2.2.2.2.2 0).1 _).2.2.2 watch9 _) :=
  (((h.2.1 (lockSt false held5 [watch9]) rq5 (lq .release) _ rfl).2.2.2.2.2.2.2.2.2 0).1 (by decide +kernel)).2.2.2 watch9 (by decide +kernel)

theorem wit_pass_head (h : Obligations.Locks) : type_of% (((h.2.1 (lockSt false held5 [wait9]) rq5 (lq .release) _ rfl).2.2.2.2.2.2.2.2.2 0).2 wait9 [] _) :=
  ((h.2.1 (lockSt false held5 [wait9]) rq5 (lq .release) _ rfl).2.2.2.2.2.2.2.2.2 0).2 wait9 [] (by decide +kernel)

theorem wit_sem_takes (h : Obligations.Locks) : type_of% (((h.2.2.1.1 (lockSt true { count := 5 } []) rq5 (lq .semAcquire (2 ^ 32 * 5)) _ rfl).1 _).1 _ _) :=
  ((h.2.2.1.1 (lockSt true { count := 5 } []) rq5 (lq .semAcquire (2 ^ 32 * 5)) _ rfl).1 (by decide +kernel)).1 (by decide +kernel) (by decide +kernel)

theorem wit_sem_busy (h : Obligations.Locks) : type_of% ((((h.2.2.1.1 (lockSt true { count := 4 } []) rq5 (lq .semAcquire (2 ^ 32 * 5 + 2 ^ 14)) _ rfl).1 _).2 (Or.inr _)).1 _) :=
  (((h.2.2.1.1 (lockSt true { count := 4 } []) rq5 (lq .semAcquire (2 ^ 32 * 5 + 2 ^ 14)) _ rfl).1 (by decide +kernel)).2 (Or.inr (by decide +kernel))).1 (by decide +kernel)

theorem wit_sem_joins (h : Obligations.Locks) : type_of% ((((h.2.2.1.1 (lockSt true { count := 4 } []) rq5 (lq .semAcquire (2 ^ 32 * 5)) _ rfl).1 _).2 (Or.inr _)).2 _) :=
  (((h.2.2.1.1 (lockSt true { count := 4 } []) rq5 (lq .semAcquire (2 ^ 32 * 5)) _ rfl).1 (by decide +kernel)).2 (Or.inr (by decide +kernel))).2 (by decide +kernel)

theorem wit_sem_joins_behind (h : Obligations.Locks) : type_of% ((((h.2.2.1.1 (lockSt true { count := 9 } [wait2]) rq5 (lq .semAcquire (2 ^ 32 * 5)) _ rfl).1 _).2 (Or.inl _)).2 _) :=
  (((h.2.2.1.1 (lockSt true { count := 9 } [wait2]) rq5 (lq .semAcquire (2 ^ 32 * 5)) _ rfl).1 (by decide +kernel)).2 (Or.inl (by decide +kernel))).2 (by decide +kernel)

theorem wit_sem_gives (h : Obligations.Locks) : type_of% (((h.2.2.1.1 (lockSt true { count := 65530 } []) rq5 (lq .semRelease (2 ^ 32 * 5)) _ rfl).2.1 _).1 _ _ rfl) :=
  ((h.2.2.1.1 (lockSt true { count := 65530 } []) rq5 (lq .semRelease (2 ^ 32 * 5)) _ rfl).2.1 (by decide +kernel)).1 (by decide +kernel) _ rfl

theorem wit_sem_over (h : Obligations.Locks) : type_of% (((h.2.2.1.1 (lockSt true { count := 65530 } []) rq5 (lq .semRelease (2 ^ 32 * 6)) _ rfl).2.1 _).2 _) :=
  ((h.2.2.1.1 (lockSt true { count := 65530 } []) rq5 (lq .semRelease (2 ^ 32 * 6)) _ rfl).2.1 (by decide +kernel)).2 (by decide +kernel)

theorem wit_cancel_wait (h : Obligations.Locks) : type_of% (((h.2.2.1.1 (lockSt false held5 [hostWait]) rqHost (lq .cancel) _ rfl).2.2.1 _).1 hostWait _) :=
  ((h.2.2.1.1 (lockSt false held5 [hostWait]) rqHost (lq .cancel) _ rfl).2.2.1 (by decide +kernel)).1 hostWait (by decide +kernel)

theorem wit_cancel_none (h : Obligations.Locks) : type_of% (((h.2.2.1.1 (lockSt false held5 [wait9]) rqHost (lq .cancel) _ rfl).2.2.1 _).2 _) :=
  ((h.2.2.1.1 (lockSt false held5 [wait9]) rqHost (lq .cancel) _ rfl).2.2.1 (by decide +kernel)).2 (by decide +kernel)

theorem wit_force_free (h : Obligations.Locks) : type_of% (((h.2.2.1.1 (lockSt false {}) rqFlt (lq .force) _ rfl).2.2.2.1 _ _).1 _) :=
  ((h.2.2.1.1 (lockSt false {}) rqFlt (lq .force) _ rfl).2.2.2.1 (by decide +kernel) (by decide +kernel)).1 (by decide +kernel)

theorem wit_force_held (h : Obligations.Locks) : type_of% (((h.2.2.1.1 (lockSt false held5 [wait9]) rqFlt (lq .force) _ rfl).2.2.2.1 _ _).2 _) :=
  ((h.2.2.1.1 (lockSt false held5 [wait9]) rqFlt (lq .force) _ rfl).2.2.2.1 (by decide +kernel) (by decide +kernel)).2 (by decide +kernel)

theorem wit_force_init (h : Obligations.Locks) : type_of% (((h.2.2.1.1 (lockSt true { count := 0 } []) rqFlt (lq .force) _ rfl).2.2.2.2.1 _ _ _).1 _) :=
  ((h.2.2.1.1 (lockSt true { count := 0 } []) rqFlt (lq .force) _ rfl).2.2.2.2.1 (by decide +kernel) (by decide +kernel) (by decide +kernel)).1 (by decide +kernel)

theorem wit_force_sem (h : Obligations.Locks) : type_of% (((h.2.2.1.1 (lockSt true { count := 5, init := 7 } [watch9]) rqFlt (lq .force) _ rfl).2.2.2.2.1 _ _ _).2 _) :=
  ((h.2.2.1.1 (lockSt true { count := 5, init := 7 } [watch9]) rqFlt (lq .force) _ rfl).2.2.2.2.1 (by decide +kernel) (by decide +kernel) (by decide +kernel)).2 (by decide +kernel)

theorem wit_force_sem_watch (h : Obligations.Locks) : type_of% ((((h.2.2.1.1 (lockSt true { count := 5, init := 7 } [watch9]) rqFlt (lq .force) _ rfl).2.2.2.2.1 _ _ _).2 _).2.2.2.2 _) :=
  (((h.2.2.1.1 (lockSt true { count := 5, init := 7 } [watch9]) rqFlt (lq .force) _ rfl).2.2.2.2.1 (by decide +kernel) (by decide +kernel) (by decide +kernel)).2 (by decide +kernel)).2.2.2.2 (by decide +kernel)

theorem wit_force_sem_waiters (h : Obligations.Locks) : type_of% ((h.2.2.1.1 (lockSt true { count := 1, init := 7 } [wait2]) rqFlt (lq .force) _ rfl).2.2.2.2.2 _ _ _ rfl (Or.inl _)) :=
  (h.2.2.1.1 (lockSt true { count := 1, init := 7 } [wait2]) rqFlt (lq .force) _ rfl).2.2.2.2.2 _ (by decide +kernel) (by decide +kernel) rfl (Or.inl (by decide +kernel))

theorem wit_serve_none (h : Obligations.Locks) : type_of% ((h.2.2.1.2.1 (lockSt true { count := 5 } []) 3).1 _) :=
  (h.2.2.1.2.1 (lockSt true { count := 5 } []) 3).1 (by decide +kernel)

theorem wit_serve_short (h : Obligations.Locks) : type_of% (((h.2.2.1.2.1 (lockSt true { count := 1 } [wait2]) 3).2 wait2 [] _).1 _) :=
  ((h.2.2.1.2.1 (lockSt true { count := 1 } [wait2]) 3).2 wait2 [] (by decide +kernel)).1 (by decide +kernel)

theorem wit_serve_head (h : Obligations.Locks) : type_of% (((h.2.2.1.2.1 (lockSt true { count := 5 } [wait2]) 3).2 wait2 [] _).2 _) :=
  ((h.2.2.1.2.1 (lockSt true { count := 5 } [wait2]) 3).2 wait2 [] (by decide +kernel)).2 (by decide +kernel)

theorem wit_lock_limit (h : Obligations.Locks) : type_of% (h.2.2.2.1 (lockSt false held5 [wait9]) rq9 wait9 100000 _ _ _ _ _) :=
  h.2.2.2.1 (lockSt false held5 [wait9]) rq9 wait9 100000 (by decide +kernel) (by decide +kernel) (by decide +kernel) (by decide +kernel) (by decide +kernel)

theorem wit_orphan_notify (h : Obligations.Locks) : type_of% ((h.2.2.2.2.1 (lockSt false held5) 20 20 1 _ rfl _ _).1 _) :=
  (h.2.2.2.2.1 (lockSt false held5) 20 20 1 _ rfl (by decide +kernel) (by decide +kernel)).1 (by decide +kernel)

theorem wit_orphan_notify_slice (h : Obligations.Locks) : type_of% ((h.2.2.2.2.1 lockSlice 20 20 1 _ rfl _ _).2 _ rfl) :=
  (h.2.2.2.2.1 lockSlice 20 20 1 _ rfl (by decide +kernel) (by decide +kernel)).2 _ rfl

theorem wit_orphan_none (h : Obligations.Locks) : type_of% ((h.2.2.2.2.2.1 (lockSt false held5 [wait9]) _ 36 1 rfl).1 _) :=
  (h.2.2.2.2.2.1 (lockSt false held5 [wait9]) _ 36 1 rfl).1 (by decide +kernel)

theorem wit_orphan_cell (h : Obligations.Locks) : type_of% ((h.2.2.2.2.2.1 (lockSt false held5 [wait9]) _ 20 1 rfl).2.1 3 _) :=
  (h.2.2.2.2.2.1 (lockSt false held5 [wait9]) _ 20 1 rfl).2.1 3 (by decide +kernel)

theorem wit_orphan_waits (h : Obligations.Locks) : type_of% ((h.2.2.2.2.2.1 (lockSt false held5 [{ wait9 with cell := 4 }]) _ 20 1 rfl).2.2.1 { wait9 with cell := 4 } _) :=
  (h.2.2.2.2.2.1 (lockSt false held5 [{ wait9 with cell := 4 }]) _ 20 1 rfl).2.2.1 { wait9 with cell := 4 } (by decide +kernel)

theorem wit_orphan_alone (h : Obligations.Locks) : type_of% ((h.2.2.2.2.2.1 (lockSt false held5) _ 20 1 rfl).2.2.2 3 _ _) :=
  (h.2.2.2.2.2.1 (lockSt false held5) _ 20 1 rfl).2.2.2 3 (by decide +kernel) (by decide +kernel)

theorem wit_serve_orphan_none (h : Obligations.Locks) : type_of% ((h.2.2.2.2.2.2 (lockSt false (orphaned true)) 3).1 _) :=
  (h.2.2.2.2.2.2 (lockSt false (orphaned true)) 3).1 (by decide +kernel)

theorem wit_serve_orphan_hands (h : Obligations.Locks) : type_of% ((h.2.2.2.2.2.2 (lockSt false (orphaned true) [wait9]) 3).2.1 wait9 [] _ _) :=
  (h.2.2.2.2.2.2 (lockSt false (orphaned true) [wait9]) 3).2.1 wait9 [] (by decide +kernel) (by decide +kernel)

theorem wit_serve_orphan_keeps (h : Obligations.Locks) : type_of% ((h.2.2.2.2.2.2 (lockSt false (orphaned false) [wait9]) 3).2.2 _) :=
  (h.2.2.2.2.2.2 (lockSt false (orphaned false) [wait9]) 3).2.2 (by decide +kernel)

theorem wit_serve_orphan_refuses (h : Obligations.Locks) : type_of% (((h.2.2.2.2.2.2 (lockSt false (orphaned false) [wait9]) 3).2.2 _).2 wait9 _) :=
  ((h.2.2.2.2.2.2 (lockSt false (orphaned false) [wait9]) 3).2.2 (by decide +kernel)).2 wait9 (by decide +kernel)

theorem wit_pass_free_others (h : Obligations.Locks) : type_of% ((((h.2.1 (lockSt false held5) rq5 (lq .release) _ rfl).2.2.2.2.2.2.2.2.2 0).1 _).2.1 4 _) :=
  (((h.2.1 (lockSt false held5) rq5 (lq .release) _ rfl).2.2.2.2.2.2.2.2.2 0).1 (by decide +kernel)).2.1 4 (by decide +kernel)

theorem wit_pass_head_others (h : Obligations.Locks) : type_of% ((((h.2.1 (lockSt false held5 [wait9]) rq5 (lq .release) _ rfl).2.2.2.2.2.2.2.2.2 0).2 wait9 [] _).2.2.2.2.1 4 _) :=
  (((h.2.1 (lockSt false held5 [wait9]) rq5 (lq .release) _ rfl).2.2.2.2.2.2.2.2.2 0).2 wait9 [] (by decide +kernel)).2.2.2.2.1 4 (by decide +kernel)

/-! ### Witnesses: HostLinksAndFunctions -/

theorem wit_link_up (h : Obligations.HostLinksAndFunctions) : type_of% ((h.1.1 p1 _ 0 0 5 16 true false _ _ _ _ _ _ rfl).1 (Or.inl _)) :=
  (h.1.1 p1 _ 0 0 5 16 true false (by decide +kernel) (by decide +kernel) (by decide +kernel) (by decide +kernel) (by decide +kernel) (by decide +kernel) rfl).1 (Or.inl (by decide +kernel))

theorem wit_link_degraded (h : Obligations.HostLinksAndFunctions) : type_of% ((h.1.1 wasFast _ 0 0 5 16 true false _ _ _ _ _ _ rfl).2 _ (Or.inl _)) :=
  (h.1.1 wasFast _ 0 0 5 16 true false (by decide +kernel) (by decide +kernel) (by decide +kernel) (by decide +kernel) (by decide +kernel) (by decide +kernel) rfl).2 (by decide +kernel) (Or.inl (by decide +kernel))

theorem wit_link_down_0 (h : Obligations.HostLinksAndFunctions) : type_of% (h.1.2.1 p1 0 0 _ _ _ _ _) :=
  h.1.2.1 p1 0 0 (by decide +kernel) (by decide +kernel) (by decide +kernel) (by decide +kernel) (by decide +kernel)

theorem wit_link_down_1 (h : Obligations.HostLinksAndFunctions) : type_of% (h.1.2.1 bifSt 0 1 _ _ _ _ _) :=
  h.1.2.1 bifSt 0 1 (by decide +kernel) (by decide +kernel) (by decide +kernel) (by decide +kernel) (by decide +kernel)

theorem wit_link_error (h : Obligations.HostLinksAndFunctions) : type_of% (h.1.2.2 p1 0 0 false _ _ _ _) :=
  h.1.2.2 p1 0 0 false (by decide +kernel) (by decide +kernel) (by decide +kernel) (by decide +kernel)

theorem wit_link_viral (h : Obligations.HostLinksAndFunctions) : type_of% (h.1.2.2 (cxlSt) 0 0 true _ _ _ _) :=
  h.1.2.2 (cxlSt) 0 0 true (by decide +kernel) (by decide +kernel) (by decide +kernel) (by decide +kernel)

theorem wit_flr (h : Obligations.HostLinksAndFunctions) : type_of% ((h.2.1.1 p1 0 1 _ _).1 _) :=
  (h.2.1.1 p1 0 1 (by decide +kernel) (by decide +kernel)).1 (by decide +kernel)

theorem wit_pf_flr (h : Obligations.HostLinksAndFunctions) : type_of% ((h.2.1.1 (brSt (fun x => { x with cplErrors := 4 })) 0 0 _ _).2.1 _) :=
  (h.2.1.1 (brSt (fun x => { x with cplErrors := 4 })) 0 0 (by decide +kernel) (by decide +kernel)).2.1 (by decide +kernel)

theorem wit_bme_clear (h : Obligations.HostLinksAndFunctions) : type_of% ((h.2.1.1 p1 0 1 _ _).2.2 _) :=
  (h.2.1.1 p1 0 1 (by decide +kernel) (by decide +kernel)).2.2 (by decide +kernel)

theorem wit_cfg_rrs (h : Obligations.HostLinksAndFunctions) : type_of% ((h.2.1.2.1 { p1 with clr := { p1.clr with service := 0 } } 0 1 .other _ _ _).1 _) :=
  (h.2.1.2.1 { p1 with clr := { p1.clr with service := 0 } } 0 1 .other (by decide +kernel) (by decide +kernel) (by decide +kernel)).1 (by decide +kernel)

theorem wit_cfg_ur (h : Obligations.HostLinksAndFunctions) : type_of% ((h.2.1.2.1 p1 0 17 (.read 0 .deviceId) _ _ _).2.1 _ _) :=
  (h.2.1.2.1 p1 0 17 (.read 0 .deviceId) (by decide +kernel) (by decide +kernel) (by decide +kernel)).2.1 (by decide +kernel) (by decide +kernel)

theorem wit_cfg (h : Obligations.HostLinksAndFunctions) : type_of% ((h.2.1.2.1 p1 0 1 (.read 0 .deviceId) _ _ _).2.2 _ _) :=
  (h.2.1.2.1 p1 0 1 (.read 0 .deviceId) (by decide +kernel) (by decide +kernel) (by decide +kernel)).2.2 (by decide +kernel) (by decide +kernel)

theorem wit_cfg_monitor (h : Obligations.HostLinksAndFunctions) : type_of% ((h.2.1.2.1 bifSt 0 0 (.read 1 .deviceId) _ _ _).2.2 _ _) :=
  (h.2.1.2.1 bifSt 0 0 (.read 1 .deviceId) (by decide +kernel) (by decide +kernel) (by decide +kernel)).2.2 (by decide +kernel) (by decide +kernel)

theorem wit_cfg_ats_off (h : Obligations.HostLinksAndFunctions) : type_of% ((h.2.1.2.2.1 (brSt (fun x => { x with atc := atc2 })) 0 1).2.2.2.1.2 _ { id := 2, fn := 2, page := 0x5000, size := 0x1000 } _) :=
  (h.2.1.2.2.1 (brSt (fun x => { x with atc := atc2 })) 0 1).2.2.2.1.2 (by decide +kernel) { id := 2, fn := 2, page := 0x5000, size := 0x1000 } (by decide +kernel)

theorem wit_cfg_vf (h : Obligations.HostLinksAndFunctions) : type_of% ((h.2.1.2.2.1 p1 0 0).2.2.2.2.1 _) :=
  (h.2.1.2.2.1 p1 0 0).2.2.2.2.1 (by decide +kernel)

theorem wit_cfg_vf_no (h : Obligations.HostLinksAndFunctions) : type_of% ((h.2.1.2.2.1 p1 0 1).2.2.2.2.2.1 _ true) :=
  (h.2.1.2.2.1 p1 0 1).2.2.2.2.2.1 (by decide +kernel) true

theorem wit_cfg_timeout (h : Obligations.HostLinksAndFunctions) : type_of% ((h.2.1.2.2.1 p1 0 1).2.2.2.2.2.2.2.1 49 _) :=
  (h.2.1.2.2.1 p1 0 1).2.2.2.2.2.2.2.1 49 (by decide +kernel)

theorem wit_cfg_vf_id (h : Obligations.HostLinksAndFunctions) : type_of% ((h.2.1.2.2.2 p1 0 1).2.1 _) :=
  (h.2.1.2.2.2 p1 0 1).2.1 (by decide +kernel)

theorem wit_cfg_vf_vecs (h : Obligations.HostLinksAndFunctions) : type_of% ((h.2.1.2.2.2 p1 0 1).2.2.2.2.2.1 _) :=
  (h.2.1.2.2.2 p1 0 1).2.2.2.2.2.1 (by decide +kernel)

theorem wit_cfg_bound (h : Obligations.HostLinksAndFunctions) : type_of% ((h.2.1.2.2.2 p1 0 1).2.2.2.2.2.2.1 1 _) :=
  (h.2.1.2.2.2 p1 0 1).2.2.2.2.2.2.1 1 (by decide +kernel)

theorem wit_cfg_unbound (h : Obligations.HostLinksAndFunctions) : type_of% ((h.2.1.2.2.2 p1 0 2).2.2.2.2.2.2.2.1 _) :=
  (h.2.1.2.2.2 p1 0 2).2.2.2.2.2.2.2.1 (by decide +kernel)

theorem wit_vdm (h : Obligations.HostLinksAndFunctions) : type_of% ((h.2.2.1 p1 0 0 true true _).1 _ _ _) :=
  (h.2.2.1 p1 0 0 true true (by decide +kernel)).1 (by decide +kernel) (by decide +kernel) (by decide +kernel)

theorem wit_vdm_unsupported (h : Obligations.HostLinksAndFunctions) : type_of% ((h.2.2.1 p1 0 1 true true _).2.1 (Or.inr (Or.inl _)) _) :=
  (h.2.2.1 p1 0 1 true true (by decide +kernel)).2.1 (Or.inr (Or.inl (by decide +kernel))) (by decide +kernel)

theorem wit_vdm_dropped (h : Obligations.HostLinksAndFunctions) : type_of% ((h.2.2.1 p1 0 0 false true _).2.2 _) :=
  (h.2.2.1 p1 0 0 false true (by decide +kernel)).2.2 (by decide +kernel)

theorem wit_snoop (h : Obligations.HostLinksAndFunctions) : type_of% (h.2.2.2.1 (cxlSt) 0 0x1000 _ _) :=
  h.2.2.2.1 (cxlSt) 0 0x1000 (by decide +kernel) (by decide +kernel)

theorem wit_ide_failure (h : Obligations.HostLinksAndFunctions) : type_of% (h.2.2.2.2.1 (brSt (fun x => { x with streams := [1, 0, 0, 0, 0, 1] })) 0 5 _ _ _) :=
  h.2.2.2.2.1 (brSt (fun x => { x with streams := [1, 0, 0, 0, 0, 1] })) 0 5 (by decide +kernel) (by decide +kernel) (by decide +kernel)

theorem wit_ide_km (h : Obligations.HostLinksAndFunctions) : type_of% ((h.2.2.2.2.2.1 p1 0 0 4 _).1 _ _) :=
  (h.2.2.2.2.2.1 p1 0 0 4 (by decide +kernel)).1 (by decide +kernel) (by decide +kernel)

theorem wit_ide_km_half (h : Obligations.HostLinksAndFunctions) : type_of% ((h.2.2.2.2.2.1 bifSt 0 1 0 _).2.1 _ _ _) :=
  (h.2.2.2.2.2.1 bifSt 0 1 0 (by decide +kernel)).2.1 (by decide +kernel) (by decide +kernel) (by decide +kernel)

theorem wit_ide_km_bad (h : Obligations.HostLinksAndFunctions) : type_of% ((h.2.2.2.2.2.1 p1 0 0 5 _).2.2 (Or.inr (Or.inl _))) :=
  (h.2.2.2.2.2.1 p1 0 0 5 (by decide +kernel)).2.2 (Or.inr (Or.inl (by decide +kernel)))

theorem wit_ide_km_port (h : Obligations.HostLinksAndFunctions) : type_of% ((h.2.2.2.2.2.1 p1 0 2 0 _).2.2 (Or.inl _)) :=
  (h.2.2.2.2.2.1 p1 0 2 0 (by decide +kernel)).2.2 (Or.inl (by decide +kernel))

theorem wit_ide_km_whole (h : Obligations.HostLinksAndFunctions) : type_of% ((h.2.2.2.2.2.1 p1 0 1 0 _).2.2 (Or.inr (Or.inr _))) :=
  (h.2.2.2.2.2.1 p1 0 1 0 (by decide +kernel)).2.2 (Or.inr (Or.inr (by decide +kernel)))

theorem wit_unmask (h : Obligations.HostLinksAndFunctions) : type_of% (h.2.2.2.2.2.2.1 (fnSt (fun f => { f with msixEn := true, pend := [3] })) 0 1 3 _ _) :=
  h.2.2.2.2.2.2.1 (fnSt (fun f => { f with msixEn := true, pend := [3] })) 0 1 3 (by decide +kernel) (by decide +kernel)

theorem wit_pending (h : Obligations.HostLinksAndFunctions) : type_of% ((h.2.2.2.2.2.2.2 (fnSt (fun f => { f with msixEn := true, pend := [3], open_ := [3] })) 0 1).2 _) :=
  (h.2.2.2.2.2.2.2 (fnSt (fun f => { f with msixEn := true, pend := [3], open_ := [3] })) 0 1).2 (by decide +kernel)

theorem wit_pending_safe (h : Obligations.HostLinksAndFunctions) : type_of% ((h.2.2.2.2.2.2.2 safe 0 1).1 _) :=
  (h.2.2.2.2.2.2.2 safe 0 1).1 (by decide +kernel)

/-! ### Witnesses: HostAccesses -/

theorem wit_start_inactive (h : Obligations.HostAccesses) : type_of% ((h.1 (noBme0) 0 hread).1 (Or.inl _)) :=
  (h.1 (noBme0) 0 hread).1 (Or.inl (by decide +kernel))

theorem wit_start_insecure (h : Obligations.HostAccesses) : type_of% ((h.1 (brSt (fun x => { x with streams := [2, 0, 0, 0, 0, 0] })) 0 hread).1 (Or.inr _)) :=
  (h.1 (brSt (fun x => { x with streams := [2, 0, 0, 0, 0, 0] })) 0 hread).1 (Or.inr (by decide +kernel))

theorem wit_start_no_pasid (h : Obligations.HostAccesses) : type_of% (((h.1 (fnSt (fun f => { f with pasidEn := false })) 0 hread).2.1 _ _).1 (Or.inr _)) :=
  ((h.1 (fnSt (fun f => { f with pasidEn := false })) 0 hread).2.1 (by decide +kernel) (by decide +kernel)).1 (Or.inr (by decide +kernel))

theorem wit_start_no_ats (h : Obligations.HostAccesses) : type_of% (((h.1 (cxlSt) 0 hread).2.1 _ _).1 (Or.inl _)) :=
  ((h.1 (cxlSt) 0 hread).2.1 (by decide +kernel) (by decide +kernel)).1 (Or.inl (by decide +kernel))

theorem wit_start_plain (h : Obligations.HostAccesses) : type_of% (((h.1 p1 0 hread).2.1 _ _).2.1 _ (Or.inr _) _) :=
  ((h.1 p1 0 hread).2.1 (by decide +kernel) (by decide +kernel)).2.1 (by decide +kernel) (Or.inr (by decide +kernel)) (by decide +kernel)

theorem wit_start_asks (h : Obligations.HostAccesses) : type_of% (((h.1 (atsSt false) 0 hread).2.1 _ _).2.2.1 _ _ _ _) :=
  ((h.1 (atsSt false) 0 hread).2.1 (by decide +kernel) (by decide +kernel)).2.2.1 (by decide +kernel) (by decide +kernel) (by decide +kernel) (by decide +kernel)

theorem wit_start_cached (h : Obligations.HostAccesses) : type_of% (((h.1 (atsSt true) 0 hread).2.1 _ _).2.2.2 entry1 _ _ _ _) :=
  ((h.1 (atsSt true) 0 hread).2.1 (by decide +kernel) (by decide +kernel)).2.2.2 entry1 (by decide +kernel) (by decide +kernel) (by decide +kernel) (by decide +kernel)

theorem wit_issue_read (h : Obligations.HostAccesses) : type_of% ((h.1 p1 0 hread).2.2.1 _ _) :=
  (h.1 p1 0 hread).2.2.1 (by decide +kernel) (by decide +kernel)

theorem wit_issue_waits (h : Obligations.HostAccesses) : type_of% ((h.1 fullTags 0 hread).2.2.2.1 _ _) :=
  (h.1 fullTags 0 hread).2.2.2.1 (by decide +kernel) (by decide +kernel)

theorem wit_issue_write (h : Obligations.HostAccesses) : type_of% ((h.1 p1 0 hwrite).2.2.2.2.1 _) :=
  (h.1 p1 0 hwrite).2.2.2.2.1 (by decide +kernel)

theorem wit_use_granted (h : Obligations.HostAccesses) : type_of% ((h.1 p1 0 hread).2.2.2.2.2.1 entry1 _) :=
  (h.1 p1 0 hread).2.2.2.2.2.1 entry1 (by decide +kernel)

theorem wit_use_refused (h : Obligations.HostAccesses) : type_of% ((h.1 p1 0 hwrite).2.2.2.2.2.2 noWr _) :=
  (h.1 p1 0 hwrite).2.2.2.2.2.2 noWr (by decide +kernel)

theorem wit_ats_completion (h : Obligations.HostAccesses) : type_of% (h.2.1 (accSt 0) _ 0 4 { hread with phase := 0 } (some grant) _ _ rfl) :=
  h.2.1 (accSt 0) _ 0 4 { hread with phase := 0 } (some grant) _ (by decide +kernel) rfl

theorem wit_ats_grant (h : Obligations.HostAccesses) : type_of% ((h.2.2.1 (accSt 0) 0 { hread with phase := 0 }).1 grant _ _ _) :=
  (h.2.2.1 (accSt 0) 0 { hread with phase := 0 }).1 grant (by decide +kernel) (by decide +kernel) (by decide +kernel)

theorem wit_ats_other_page (h : Obligations.HostAccesses) : type_of% ((h.2.2.1 (accSt 0) 0 { hread with phase := 0 }).2.1 { grant with page := 0 } (Or.inr (Or.inr _))) :=
  (h.2.2.1 (accSt 0) 0 { hread with phase := 0 }).2.1 { grant with page := 0 } (Or.inr (Or.inr (by decide +kernel)))

theorem wit_ats_no_right (h : Obligations.HostAccesses) : type_of% ((h.2.2.1 (accSt 0) 0 { hread with phase := 0 }).2.1 { grant with rd := false } (Or.inl _)) :=
  (h.2.2.1 (accSt 0) 0 { hread with phase := 0 }).2.1 { grant with rd := false } (Or.inl (by decide +kernel))

theorem wit_ats_fill (h : Obligations.HostAccesses) : type_of% (((h.2.2.1 (accSt 0) 0 hread).2.2.2 grant _).2.1 _) :=
  ((h.2.2.1 (accSt 0) 0 hread).2.2.2 grant (by decide +kernel)).2.1 (by decide +kernel)

theorem wit_ats_full (h : Obligations.HostAccesses) : type_of% (((h.2.2.1 fullAtc 0 hread).2.2.2 grant _).2.2 _) :=
  ((h.2.2.1 fullAtc 0 hread).2.2.2 grant (by decide +kernel)).2.2 (by decide +kernel)

theorem wit_ats_invalidate (h : Obligations.HostAccesses) : type_of% (h.2.2.2.1 (brSt (fun x => { x with atc := atc2 })) 0 1 0x5800 0x100 9 (some 7) _ _ _) :=
  h.2.2.2.1 (brSt (fun x => { x with atc := atc2 })) 0 1 0x5800 0x100 9 (some 7) (by decide +kernel) (by decide +kernel) (by decide +kernel)

theorem wit_ats_invalidate_used (h : Obligations.HostAccesses) : type_of% (h.2.2.2.1 usingAtc 0 1 0x5800 0x100 9 none _ _ _) :=
  h.2.2.2.1 usingAtc 0 1 0x5800 0x100 9 none (by decide +kernel) (by decide +kernel) (by decide +kernel)

theorem wit_host_data (h : Obligations.HostAccesses) : type_of% ((h.2.2.2.2.1 (accSt 2) 0 4 hread _).1 (leBytes 64 0x99) 0 _ _) :=
  (h.2.2.2.2.1 (accSt 2) 0 4 hread (by decide +kernel)).1 (leBytes 64 0x99) 0 (by decide +kernel) (by decide +kernel)

theorem wit_host_written (h : Obligations.HostAccesses) : type_of% ((h.2.2.2.2.1 wrSt 0 4 hwrite _).2.1 [] 0 _) :=
  (h.2.2.2.2.1 wrSt 0 4 hwrite (by decide +kernel)).2.1 [] 0 (by decide +kernel)

theorem wit_host_timeout (h : Obligations.HostAccesses) : type_of% (h.2.2.2.2.2.1 (accSt 2) 0 4 hread _ _ _ _) :=
  h.2.2.2.2.2.1 (accSt 2) 0 4 hread (by decide +kernel) (by decide +kernel) (by decide +kernel) (by decide +kernel)

theorem wit_host_answers (h : Obligations.HostAccesses) : type_of% (h.2.2.2.2.2.2 (accSt 2) 0 hread rq9 1 _ _ _) :=
  h.2.2.2.2.2.2 (accSt 2) 0 hread rq9 1 (by decide +kernel) (by decide +kernel) (by decide +kernel)

/-! ### Witnesses: RingSets -/

theorem wit_page_sq (h : Obligations.RingSets) : type_of% ((h.1.1 (.sqPiWrite 0 1 0 4) p1 0 (bw 0 4 4) (.inl ⟨rfl, rfl, rfl⟩) _ _).1 _) :=
  (h.1.1 (.sqPiWrite 0 1 0 4) p1 0 (bw 0 4 4) (.inl ⟨rfl, rfl, rfl⟩) (by decide +kernel) (by decide +kernel)).1 (by decide +kernel)

theorem wit_page_cq (h : Obligations.RingSets) : type_of% ((h.1.1 (.cqCiWrite 0 1 0 20) p1 0 (bw 4 4 20) (.inr (.inl ⟨rfl, rfl, rfl⟩)) _ _).1 _) :=
  (h.1.1 (.cqCiWrite 0 1 0 20) p1 0 (bw 4 4 20) (.inr (.inl ⟨rfl, rfl, rfl⟩)) (by decide +kernel) (by decide +kernel)).1 (by decide +kernel)

theorem wit_page_enable (h : Obligations.RingSets) : type_of% ((h.1.1 (.ringEnable 0 1 0) p1 0 (bw 0x38 4 1) (.inr (.inr (.inl ⟨rfl, rfl, rfl, rfl⟩))) _ _).1 _) :=
  (h.1.1 (.ringEnable 0 1 0) p1 0 (bw 0x38 4 1) (.inr (.inr (.inl ⟨rfl, rfl, rfl, rfl⟩))) (by decide +kernel) (by decide +kernel)).1 (by decide +kernel)

theorem wit_page_disable (h : Obligations.RingSets) : type_of% ((h.1.1 (.ringDisable 0 1 0) p1 0 (bw 0x38 4 0) (.inr (.inr (.inr (.inl ⟨rfl, rfl, rfl, rfl⟩)))) _ _).1 _) :=
  (h.1.1 (.ringDisable 0 1 0) p1 0 (bw 0x38 4 0) (.inr (.inr (.inr (.inl ⟨rfl, rfl, rfl, rfl⟩)))) (by decide +kernel) (by decide +kernel)).1 (by decide +kernel)

theorem wit_page_reg (h : Obligations.RingSets) : type_of% ((h.1.1 (.bar2RegisterWrite 0 1 0 0x28 4 5) p1 0 (bw 0x28 4 5) (.inr (.inr (.inr (.inr rfl)))) _ _).1 _) :=
  (h.1.1 (.bar2RegisterWrite 0 1 0 0x28 4 5) p1 0 (bw 0x28 4 5) (.inr (.inr (.inr (.inr rfl)))) (by decide +kernel) (by decide +kernel)).1 (by decide +kernel)

theorem wit_page_slice (h : Obligations.RingSets) : type_of% ((h.1.1 (.sqPiWrite 0 1 0 4) bridgeSlice 0 (bw 0 4 4) (.inl ⟨rfl, rfl, rfl⟩) _ _).2 _ rfl) :=
  (h.1.1 (.sqPiWrite 0 1 0 4) bridgeSlice 0 (bw 0 4 4) (.inl ⟨rfl, rfl, rfl⟩) (by decide +kernel) (by decide +kernel)).2 _ rfl

theorem wit_page_none (h : Obligations.RingSets) : type_of% ((h.1.2.1 p1 0 5 { bw 0 4 4 with page := 9 }).1 _) :=
  (h.1.2.1 p1 0 5 { bw 0 4 4 with page := 9 }).1 (by decide +kernel)

theorem wit_page_sq_pi (h : Obligations.RingSets) : type_of% (((h.1.2.1 p1 0 5 (bw 0 4 4)).2 _).1 _ _) :=
  ((h.1.2.1 p1 0 5 (bw 0 4 4)).2 (by decide +kernel)).1 (by decide +kernel) (by decide +kernel)

theorem wit_page_cq_ci (h : Obligations.RingSets) : type_of% (((h.1.2.1 p1 0 5 (bw 4 4 4)).2 _).2.1 _ _) :=
  ((h.1.2.1 p1 0 5 (bw 4 4 4)).2 (by decide +kernel)).2.1 (by decide +kernel) (by decide +kernel)

theorem wit_page_both (h : Obligations.RingSets) : type_of% (((h.1.2.1 p1 0 5 (bw 0 8 4)).2 _).2.2.1 _ _) :=
  ((h.1.2.1 p1 0 5 (bw 0 8 4)).2 (by decide +kernel)).2.2.1 (by decide +kernel) (by decide +kernel)

theorem wit_page_ctrl (h : Obligations.RingSets) : type_of% (((h.1.2.1 p1 0 5 (bw 0x38 4 1)).2 _).2.2.2.1 _ (Or.inl _)) :=
  ((h.1.2.1 p1 0 5 (bw 0x38 4 1)).2 (by decide +kernel)).2.2.2.1 (by decide +kernel) (Or.inl (by decide +kernel))

theorem wit_page_sq_base (h : Obligations.RingSets) : type_of% (((h.1.2.1 (rst 0) 0 5 (bw 0x10 8 0x7000)).2 _).2.2.2.2.1 _ _) :=
  ((h.1.2.1 (rst 0) 0 5 (bw 0x10 8 0x7000)).2 (by decide +kernel)).2.2.2.2.1 (by decide +kernel) (by decide +kernel)

theorem wit_page_cq_base (h : Obligations.RingSets) : type_of% (((h.1.2.1 (rst 0) 0 5 (bw 0x18 8 0x7001)).2 _).2.2.2.2.2.1 _ _) :=
  ((h.1.2.1 (rst 0) 0 5 (bw 0x18 8 0x7001)).2 (by decide +kernel)).2.2.2.2.2.1 (by decide +kernel) (by decide +kernel)

theorem wit_page_config (h : Obligations.RingSets) : type_of% (((h.1.2.1 (rst 0) 0 5 (bw 0x20 8 0x10404)).2 _).2.2.2.2.2.2.1 _ (Or.inr _)) :=
  ((h.1.2.1 (rst 0) 0 5 (bw 0x20 8 0x10404)).2 (by decide +kernel)).2.2.2.2.2.2.1 (by decide +kernel) (Or.inr (by decide +kernel))

theorem wit_page_mod (h : Obligations.RingSets) : type_of% (((h.1.2.1 p1 0 5 (bw 0x28 4 5)).2 _).2.2.2.2.2.2.2.1 _ (Or.inl _)) :=
  ((h.1.2.1 p1 0 5 (bw 0x28 4 5)).2 (by decide +kernel)).2.2.2.2.2.2.2.1 (by decide +kernel) (Or.inl (by decide +kernel))

theorem wit_page_seq_base (h : Obligations.RingSets) : type_of% (((h.1.2.1 p1 0 5 (bw 0x30 4 5)).2 _).2.2.2.2.2.2.2.2.1 _ (Or.inl _)) :=
  ((h.1.2.1 p1 0 5 (bw 0x30 4 5)).2 (by decide +kernel)).2.2.2.2.2.2.2.2.1 (by decide +kernel) (Or.inl (by decide +kernel))

theorem wit_page_status (h : Obligations.RingSets) : type_of% (((h.1.2.1 p1 0 5 (bw 0x40 4 1)).2 _).2.2.2.2.2.2.2.2.2.1 _ (Or.inl _)) :=
  ((h.1.2.1 p1 0 5 (bw 0x40 4 1)).2 (by decide +kernel)).2.2.2.2.2.2.2.2.2.1 (by decide +kernel) (Or.inl (by decide +kernel))

theorem wit_page_bytes (h : Obligations.RingSets) : type_of% (((h.1.2.1 p1 0 5 (bw 0x28 2 5)).2 _).2.2.2.2.2.2.2.2.2.2 _ _) :=
  ((h.1.2.1 p1 0 5 (bw 0x28 2 5)).2 (by decide +kernel)).2.2.2.2.2.2.2.2.2.2 (by decide +kernel) (by decide +kernel)

theorem wit_sq_off (h : Obligations.RingSets) : type_of% ((h.1.2.2.1 (rst 0) 5 4).1 (Or.inl _)) :=
  (h.1.2.2.1 (rst 0) 5 4).1 (Or.inl (by decide +kernel))

theorem wit_sq_same (h : Obligations.RingSets) : type_of% ((h.1.2.2.1 p1 5 0).1 (Or.inr (Or.inr _))) :=
  (h.1.2.2.1 p1 5 0).1 (Or.inr (Or.inr (by decide +kernel)))

theorem wit_sq_move (h : Obligations.RingSets) : type_of% (((h.1.2.2.1 p1 5 16).2.1 (Or.inl _) _).1 _) :=
  ((h.1.2.2.1 p1 5 16).2.1 (Or.inl (by decide +kernel)) (by decide +kernel)).1 (by decide +kernel)

theorem wit_sq_back (h : Obligations.RingSets) : type_of% ((((h.1.2.2.1 (rst 1 (fun r => { r with sqPi := 5, sqCi := 5 })) 5 4).2.1 (Or.inl _) _).2 _).1 _) :=
  (((h.1.2.2.1 (rst 1 (fun r => { r with sqPi := 5, sqCi := 5 })) 5 4).2.1 (Or.inl (by decide +kernel)) (by decide +kernel)).2 (by decide +kernel)).1 (by decide +kernel)

theorem wit_sq_beyond (h : Obligations.RingSets) : type_of% ((((h.1.2.2.1 p1 5 17).2.1 (Or.inl _) _).2 _).2 _) :=
  (((h.1.2.2.1 p1 5 17).2.1 (Or.inl (by decide +kernel)) (by decide +kernel)).2 (by decide +kernel)).2 (by decide +kernel)

theorem wit_cq_off (h : Obligations.RingSets) : type_of% ((h.1.2.2.1 (rst 3) 5 4).2.2.1 (Or.inr (Or.inl _))) :=
  (h.1.2.2.1 (rst 3) 5 4).2.2.1 (Or.inr (Or.inl (by decide +kernel)))

theorem wit_cq_move (h : Obligations.RingSets) : type_of% (((h.1.2.2.1 (rst 2) 5 20).2.2.2 (Or.inr _) _).1 _) :=
  ((h.1.2.2.1 (rst 2) 5 20).2.2.2 (Or.inr (by decide +kernel)) (by decide +kernel)).1 (by decide +kernel)

theorem wit_cq_back (h : Obligations.RingSets) : type_of% ((((h.1.2.2.1 (rst 1) 5 18).2.2.2 (Or.inl _) _).2 _).1 _) :=
  (((h.1.2.2.1 (rst 1) 5 18).2.2.2 (Or.inl (by decide +kernel)) (by decide +kernel)).2 (by decide +kernel)).1 (by decide +kernel)

theorem wit_cq_beyond (h : Obligations.RingSets) : type_of% ((((h.1.2.2.1 (rst 1) 5 21).2.2.2 (Or.inl _) _).2 _).2 _) :=
  (((h.1.2.2.1 (rst 1) 5 21).2.2.2 (Or.inl (by decide +kernel)) (by decide +kernel)).2 (by decide +kernel)).2 (by decide +kernel)

theorem wit_enable_on (h : Obligations.RingSets) : type_of% ((h.1.2.2.2 p1 5).1 _) :=
  (h.1.2.2.2 p1 5).1 (by decide +kernel)

theorem wit_enable (h : Obligations.RingSets) : type_of% ((h.1.2.2.2 (rst 0) 5).2.1 _ _) :=
  (h.1.2.2.2 (rst 0) 5).2.1 (by decide +kernel) (by decide +kernel)

theorem wit_enable_bad (h : Obligations.RingSets) : type_of% ((h.1.2.2.2 (rst 0 (fun r => { r with vector := 16 })) 5).2.2.1 _ _) :=
  (h.1.2.2.2 (rst 0 (fun r => { r with vector := 16 })) 5).2.2.1 (by decide +kernel) (by decide +kernel)

theorem wit_disable_off (h : Obligations.RingSets) : type_of% ((h.1.2.2.2 (rst 0) 5).2.2.2.1 (Or.inl _)) :=
  (h.1.2.2.2 (rst 0) 5).2.2.2.1 (Or.inl (by decide +kernel))

theorem wit_disable (h : Obligations.RingSets) : type_of% ((((h.1.2.2.2 p1 5).2.2.2.2.1 (Or.inl _) (by intro d hd; cases hd)).1 _ _ _).2.2 6 _) :=
  (((h.1.2.2.2 p1 5).2.2.2.2.1 (Or.inl (by decide +kernel)) (by intro d hd; cases hd)).1 (by decide +kernel) (by decide +kernel) (by decide +kernel)).2.2 6 (by decide +kernel)

theorem wit_disable_err (h : Obligations.RingSets) : type_of% (((h.1.2.2.2 (rst 3) 5).2.2.2.2.1 (Or.inr _) (by intro d hd; cases hd)).1 _ _ _) :=
  ((h.1.2.2.2 (rst 3) 5).2.2.2.2.1 (Or.inr (by decide +kernel)) (by intro d hd; cases hd)).1 (by decide +kernel) (by decide +kernel) (by decide +kernel)

theorem wit_disable_drains (h : Obligations.RingSets) : type_of% (((h.1.2.2.2 (rst 1 (fun r => { r with writing := 1 })) 5).2.2.2.2.1 (Or.inl _) (by intro d hd; cases hd)).2 (Or.inr (Or.inr _))) :=
  ((h.1.2.2.2 (rst 1 (fun r => { r with writing := 1 })) 5).2.2.2.2.1 (Or.inl (by decide +kernel)) (by intro d hd; cases hd)).2 (Or.inr (Or.inr (by decide +kernel)))

theorem wit_disable_fetching (h : Obligations.RingSets) : type_of% (((h.1.2.2.2 (rst 1 (fun r => { r with fetching := true })) 5).2.2.2.2.1 (Or.inl _) (by intro d hd; cases hd)).2 (Or.inr (Or.inl _))) :=
  ((h.1.2.2.2 (rst 1 (fun r => { r with fetching := true })) 5).2.2.2.2.1 (Or.inl (by decide +kernel)) (by intro d hd; cases hd)).2 (Or.inr (Or.inl (by decide +kernel)))

theorem wit_disable_cancels (h : Obligations.RingSets) : type_of% ((h.1.2.2.2 (rst 1 (fun r => { r with longs := [lockD] })) 5).2.2.2.2.2.1 (Or.inl _) _ _) :=
  (h.1.2.2.2 (rst 1 (fun r => { r with longs := [lockD] })) 5).2.2.2.2.2.1 (Or.inl (by decide +kernel)) (by decide +kernel) (by decide +kernel)

theorem wit_cancel_of_lock (h : Obligations.RingSets) : type_of% ((h.1.2.2.2 p1 5).2.2.2.2.2.2.1 lockD _) :=
  (h.1.2.2.2 p1 5).2.2.2.2.2.2.1 lockD (by decide +kernel)

theorem wit_drained (h : Obligations.RingSets) : type_of% ((h.1.2.2.2 (rst 2) 5).2.2.2.2.2.2.2 _ _ _ _ _) :=
  (h.1.2.2.2 (rst 2) 5).2.2.2.2.2.2.2 (by decide +kernel) (by decide +kernel) (by decide +kernel) (by decide +kernel) (by decide +kernel)

theorem wit_fetch (h : Obligations.RingSets) : type_of% ((h.2.1.1 fetchable _ 5 _ _ rfl _ _ _ _ _ _ _ rfl).1 (by intro k hk; cases hk)) :=
  (h.2.1.1 fetchable _ 5 _ _ rfl (by decide +kernel) (by decide +kernel) (by decide +kernel) (by decide +kernel) (by decide +kernel) (by decide +kernel) (by decide +kernel) rfl).1 (by intro k hk; cases hk)

theorem wit_fetch_fails (h : Obligations.RingSets) : type_of% ((h.2.1.1 (fetchable noBme1) _ 5 _ _ rfl _ _ _ _ _ _ _ rfl).2.1 Kind.hostCompletionError _) :=
  (h.2.1.1 (fetchable noBme1) _ 5 _ _ rfl (by decide +kernel) (by decide +kernel) (by decide +kernel) (by decide +kernel) (by decide +kernel) (by decide +kernel) (by decide +kernel) rfl).2.1 Kind.hostCompletionError (by decide +kernel)

theorem wit_fetch_reads (h : Obligations.RingSets) : type_of% ((h.2.1.1 fetchable _ 5 _ _ rfl _ _ _ _ _ _ _ rfl).2.2 _ _) :=
  (h.2.1.1 fetchable _ 5 _ _ rfl (by decide +kernel) (by decide +kernel) (by decide +kernel) (by decide +kernel) (by decide +kernel) (by decide +kernel) (by decide +kernel) rfl).2.2 (by decide +kernel) (by decide +kernel)

theorem wit_fetched (h : Obligations.RingSets) : type_of% ((h.2.1.2.1 fetchSt 5 rdData _ _).1) :=
  (h.2.1.2.1 fetchSt 5 rdData (by decide +kernel) (by decide +kernel)).1

theorem wit_fetch_error (h : Obligations.RingSets) : type_of% ((h.2.1.2.1 fetchSt 5 rdData _ _).2 (.fail Kind.hostCompletionError) (by intro d hd; cases hd)) :=
  (h.2.1.2.1 fetchSt 5 rdData (by decide +kernel) (by decide +kernel)).2 (.fail Kind.hostCompletionError) (by intro d hd; cases hd)

theorem wit_settle_fence (h : Obligations.RingSets) : type_of% ((h.2.1.2.2.2.1 (atHead (rd (1 + 2 ^ 8) []) (fun r => { r with longs := [siftD] })) 5 { (rd (1 + 2 ^ 8) []) with phase := 0 } _ _ _ _).1 _ (Or.inl _)) :=
  (h.2.1.2.2.2.1 (atHead (rd (1 + 2 ^ 8) []) (fun r => { r with longs := [siftD] })) 5 { (rd (1 + 2 ^ 8) []) with phase := 0 } (by decide +kernel) (by decide +kernel) (by decide +kernel) (by decide +kernel)).1 (by decide +kernel) (Or.inl (by decide +kernel))

theorem wit_settle_fence_writes (h : Obligations.RingSets) : type_of% ((h.2.1.2.2.2.1 (atHead (rd (1 + 2 ^ 8) []) (fun r => { r with writing := 1 })) 5 { (rd (1 + 2 ^ 8) []) with phase := 0 } _ _ _ _).1 _ (Or.inr _)) :=
  (h.2.1.2.2.2.1 (atHead (rd (1 + 2 ^ 8) []) (fun r => { r with writing := 1 })) 5 { (rd (1 + 2 ^ 8) []) with phase := 0 } (by decide +kernel) (by decide +kernel) (by decide +kernel) (by decide +kernel)).1 (by decide +kernel) (Or.inr (by decide +kernel))

theorem wit_settle_full (h : Obligations.RingSets) : type_of% ((h.2.1.2.2.2.1 (atHead (rd 1 []) (fun r => { r with longs := List.replicate 16 siftD })) 5 { (rd 1 []) with phase := 0 } _ _ _ _).2.1 _) :=
  (h.2.1.2.2.2.1 (atHead (rd 1 []) (fun r => { r with longs := List.replicate 16 siftD })) 5 { (rd 1 []) with phase := 0 } (by decide +kernel) (by decide +kernel) (by decide +kernel) (by decide +kernel)).2.1 (by decide +kernel)

theorem wit_settle (h : Obligations.RingSets) : type_of% ((h.2.1.2.2.2.1 (atHead (rd 1 []) id) 5 { (rd 1 []) with phase := 0 } _ _ _ _).2.2 (Or.inl _) _) :=
  (h.2.1.2.2.2.1 (atHead (rd 1 []) id) 5 { (rd 1 []) with phase := 0 } (by decide +kernel) (by decide +kernel) (by decide +kernel) (by decide +kernel)).2.2 (Or.inl (by decide +kernel)) (by decide +kernel)

theorem wit_settle_fenced (h : Obligations.RingSets) : type_of% ((h.2.1.2.2.2.1 (atHead (rd (1 + 2 ^ 8) []) id) 5 { (rd (1 + 2 ^ 8) []) with phase := 0 } _ _ _ _).2.2 (Or.inr _) _) :=
  (h.2.1.2.2.2.1 (atHead (rd (1 + 2 ^ 8) []) id) 5 { (rd (1 + 2 ^ 8) []) with phase := 0 } (by decide +kernel) (by decide +kernel) (by decide +kernel) (by decide +kernel)).2.2 (Or.inr (by decide +kernel)) (by decide +kernel)

theorem wit_seq_lost (h : Obligations.RingSets) : type_of% ((h.2.1.2.2.2.2.1 (atHead (rd 1 []) (fun r => { r with bufErr := 2 })) _ _ 5 _ { rd 1 [] with phase := 0 } rfl rfl rfl).1 _) :=
  (h.2.1.2.2.2.2.1 (atHead (rd 1 []) (fun r => { r with bufErr := 2 })) _ _ 5 _ { rd 1 [] with phase := 0 } rfl rfl rfl).1 (by decide +kernel)

theorem wit_seq_next (h : Obligations.RingSets) : type_of% ((h.2.1.2.2.2.2.1 (atHead (rd 1 []) (fun r => { r with nextSeq := 9 })) _ _ 5 _ { rd 1 [] with phase := 0 } rfl rfl rfl).2.1 _ _) :=
  (h.2.1.2.2.2.2.1 (atHead (rd 1 []) (fun r => { r with nextSeq := 9 })) _ _ 5 _ { rd 1 [] with phase := 0 } rfl rfl rfl).2.1 (by decide +kernel) (by decide +kernel)

theorem wit_seq_next_corrected (h : Obligations.RingSets) : type_of% ((h.2.1.2.2.2.2.1 (atHead (rd 1 []) (fun r => { r with nextSeq := 9, bufErr := 1 })) _ _ 5 _ { rd 1 [] with phase := 0 } rfl rfl rfl).2.1 _ _) :=
  (h.2.1.2.2.2.2.1 (atHead (rd 1 []) (fun r => { r with nextSeq := 9, bufErr := 1 })) _ _ 5 _ { rd 1 [] with phase := 0 } rfl rfl rfl).2.1 (by decide +kernel) (by decide +kernel)

theorem wit_seq_dup (h : Obligations.RingSets) : type_of% (((h.2.1.2.2.2.2.1 (atHead (rd 1 []) (fun r => { r with nextSeq := 10, recent := [(9, 0x16)] })) _ _ 5 _ { rd 1 [] with phase := 0 } rfl rfl rfl).2.2.1 _ _).1 (9, 0x16) _) :=
  ((h.2.1.2.2.2.2.1 (atHead (rd 1 []) (fun r => { r with nextSeq := 10, recent := [(9, 0x16)] })) _ _ 5 _ { rd 1 [] with phase := 0 } rfl rfl rfl).2.2.1 (by decide +kernel) (by decide +kernel)).1 (9, 0x16) (by decide +kernel)

theorem wit_seq_dup_old (h : Obligations.RingSets) : type_of% (((h.2.1.2.2.2.2.1 (atHead (rd 1 []) (fun r => { r with nextSeq := 10 })) _ _ 5 _ { rd 1 [] with phase := 0 } rfl rfl rfl).2.2.1 _ _).2 _) :=
  ((h.2.1.2.2.2.2.1 (atHead (rd 1 []) (fun r => { r with nextSeq := 10 })) _ _ 5 _ { rd 1 [] with phase := 0 } rfl rfl rfl).2.2.1 (by decide +kernel) (by decide +kernel)).2 (by decide +kernel)

theorem wit_seq_gap (h : Obligations.RingSets) : type_of% ((h.2.1.2.2.2.2.1 (atHead (rd 1 []) (fun r => { r with nextSeq := 8 })) _ _ 5 _ { rd 1 [] with phase := 0 } rfl rfl rfl).2.2.2 _ _ _) :=
  (h.2.1.2.2.2.2.1 (atHead (rd 1 []) (fun r => { r with nextSeq := 8 })) _ _ 5 _ { rd 1 [] with phase := 0 } rfl rfl rfl).2.2.2 (by decide +kernel) (by decide +kernel) (by decide +kernel)

theorem wit_fields_mode (h : Obligations.RingSets) : type_of% ((h.2.1.2.2.2.2.2 (ringSt id conf) 5 (rd 2 [])).1 _ (Or.inl _)) :=
  (h.2.1.2.2.2.2.2 (ringSt id conf) 5 (rd 2 [])).1 (by decide +kernel) (Or.inl (by decide +kernel))

theorem wit_fields_unarmed (h : Obligations.RingSets) : type_of% ((h.2.1.2.2.2.2.2 (ringSt id { p1 with prt := { p1.prt with parts := [] } }) 5 (rd 2 [])).1 _ (Or.inr _)) :=
  (h.2.1.2.2.2.2.2 (ringSt id { p1 with prt := { p1.prt with parts := [] } }) 5 (rd 2 [])).1 (by decide +kernel) (Or.inr (by decide +kernel))

theorem wit_fields_bad (h : Obligations.RingSets) : type_of% (((h.2.1.2.2.2.2.2 p1 5 (rd 1 [(9, 1)])).2 (Or.inl _)).1 9 _) :=
  ((h.2.1.2.2.2.2.2 p1 5 (rd 1 [(9, 1)])).2 (Or.inl (by decide +kernel))).1 9 (by decide +kernel)

theorem wit_fields_reserved (h : Obligations.RingSets) : type_of% (((h.2.1.2.2.2.2.2 p1 5 (rd 0x7F [])).2 (Or.inr _)).1 0 _) :=
  ((h.2.1.2.2.2.2.2 p1 5 (rd 0x7F [])).2 (Or.inr (by decide +kernel))).1 0 (by decide +kernel)

theorem wit_fields_good (h : Obligations.RingSets) : type_of% (((h.2.1.2.2.2.2.2 p1 5 (rd 1 [])).2 (Or.inl _)).2 _) :=
  ((h.2.1.2.2.2.2.2 p1 5 (rd 1 [])).2 (Or.inl (by decide +kernel))).2 (by decide +kernel)

theorem wit_read_complete (h : Obligations.RingSets) : type_of% (h.2.2.1 (rst 1 (fun r => { r with cur := some (rd 1 []) })) 5 3 0 0 0 (rd 1 []) _ (Or.inl _) _ (Or.inl _)) :=
  h.2.2.1 (rst 1 (fun r => { r with cur := some (rd 1 []) })) 5 3 0 0 0 (rd 1 []) (by decide +kernel) (Or.inl (by decide +kernel)) (by decide +kernel) (Or.inl (by decide +kernel))

theorem wit_complete_long (h : Obligations.RingSets) : type_of% (h.2.2.1 (rst 2 (fun r => { r with longs := [siftD] })) 5 3 0 0 0 siftD _ (Or.inr _) _ (Or.inr _)) :=
  h.2.2.1 (rst 2 (fun r => { r with longs := [siftD] })) 5 3 0 0 0 siftD (by decide +kernel) (Or.inr (by decide +kernel)) (by decide +kernel) (Or.inr (by decide +kernel))

theorem wit_entry_none (h : Obligations.RingSets) : type_of% ((h.2.2.2.1 (rst 0) 5 9 1 0 0 0 false false).1 (Or.inl _)) :=
  (h.2.2.2.1 (rst 0) 5 9 1 0 0 0 false false).1 (Or.inl (by decide +kernel))

theorem wit_entry_err (h : Obligations.RingSets) : type_of% ((h.2.2.2.1 (rst 3) 5 9 1 0 0 0 false false).1 (Or.inr _)) :=
  (h.2.2.2.1 (rst 3) 5 9 1 0 0 0 false false).1 (Or.inr (by decide +kernel))

theorem wit_entry (h : Obligations.RingSets) : type_of% ((h.2.2.2.1 (rst 1) 5 9 1 0 0 0 true false).2 (Or.inl _) _) :=
  (h.2.2.2.1 (rst 1) 5 9 1 0 0 0 true false).2 (Or.inl (by decide +kernel)) (by decide +kernel)

theorem wit_post_retire (h : Obligations.RingSets) : type_of% ((h.2.2.2.2.1 (rst 1 (fun r => { r with retire := [(77, 9)] })) _ 0x381 5 77 0 3 0 rqClr _ _ rfl).1 (77, 9) _ _) :=
  (h.2.2.2.2.1 (rst 1 (fun r => { r with retire := [(77, 9)] })) _ 0x381 5 77 0 3 0 rqClr (by decide +kernel) (by decide +kernel) rfl).1 (77, 9) (by decide +kernel) (by decide +kernel)

theorem wit_post_unknown (h : Obligations.RingSets) : type_of% ((h.2.2.2.2.1 (rst 1 (fun r => { r with retire := [] })) _ 0x381 5 77 0 3 0 rqClr _ _ rfl).2.1 _ _) :=
  (h.2.2.2.2.1 (rst 1 (fun r => { r with retire := [] })) _ 0x381 5 77 0 3 0 rqClr (by decide +kernel) (by decide +kernel) rfl).2.1 (by decide +kernel) (by decide +kernel)

theorem wit_post_sift (h : Obligations.RingSets) : type_of% ((h.2.2.2.2.1 (rst 1 (fun r => { r with longs := [{ rd 8 [] with raw := leBytes 64 (8 + 2 ^ 32 * 77) }] })) _ 0x381 5 77 0 3 0 rqSift _ _ rfl).2.2.1 { rd 8 [] with raw := leBytes 64 (8 + 2 ^ 32 * 77) } _ _) :=
  (h.2.2.2.2.1 (rst 1 (fun r => { r with longs := [{ rd 8 [] with raw := leBytes 64 (8 + 2 ^ 32 * 77) }] })) _ 0x381 5 77 0 3 0 rqSift (by decide +kernel) (by decide +kernel) rfl).2.2.1 { rd 8 [] with raw := leBytes 64 (8 + 2 ^ 32 * 77) } (by decide +kernel) (by decide +kernel)

theorem wit_post_sift_gone (h : Obligations.RingSets) : type_of% ((h.2.2.2.2.1 (rst 1 (fun r => { r with longs := [] })) _ 0x381 5 77 0 3 0 rqSift _ _ rfl).2.2.2 _ _) :=
  (h.2.2.2.2.1 (rst 1 (fun r => { r with longs := [] })) _ 0x381 5 77 0 3 0 rqSift (by decide +kernel) (by decide +kernel) rfl).2.2.2 (by decide +kernel) (by decide +kernel)

theorem wit_mod_timer (h : Obligations.RingSets) : type_of% (h.2.2.2.2.2.1 (rst 1 (fun r => { r with pendN := 2, modCount := 4, deadline := some 100000 })) 5 100000 _ _ _ _ _) :=
  h.2.2.2.2.2.1 (rst 1 (fun r => { r with pendN := 2, modCount := 4, deadline := some 100000 })) 5 100000 (by decide +kernel) (by decide +kernel) (by decide +kernel) (by decide +kernel) (by decide +kernel)

theorem wit_vector_none (h : Obligations.RingSets) : type_of% ((h.2.2.2.2.2.2.2.1 p1 0 1 16).1 _) :=
  (h.2.2.2.2.2.2.2.1 p1 0 1 16).1 (by decide +kernel)

theorem wit_vector_sent (h : Obligations.RingSets) : type_of% (((h.2.2.2.2.2.2.2.1 (fnSt (fun f => { f with msixEn := true, open_ := [3] })) 0 1 3).2 _).1 _ _) :=
  ((h.2.2.2.2.2.2.2.1 (fnSt (fun f => { f with msixEn := true, open_ := [3] })) 0 1 3).2 (by decide +kernel)).1 (by decide +kernel) (by decide +kernel)

theorem wit_vector_masked (h : Obligations.RingSets) : type_of% (((h.2.2.2.2.2.2.2.1 p1 0 1 3).2 _).2 (Or.inl _)) :=
  ((h.2.2.2.2.2.2.2.1 p1 0 1 3).2 (by decide +kernel)).2 (Or.inl (by decide +kernel))

theorem wit_entry_signals (h : Obligations.RingSets) : type_of% ((h.2.2.2.2.2.2.2.2 (rst 1 (fun r => { r with writing := 1, modCount := 4, modTime := 10 })) _ 5 true rfl).1 _ (Or.inr (Or.inr _))) :=
  (h.2.2.2.2.2.2.2.2 (rst 1 (fun r => { r with writing := 1, modCount := 4, modTime := 10 })) _ 5 true rfl).1 (by decide +kernel) (Or.inr (Or.inr (by decide +kernel)))

theorem wit_entry_counts (h : Obligations.RingSets) : type_of% ((h.2.2.2.2.2.2.2.2 (rst 1 (fun r => { r with writing := 1, modCount := 1 })) _ 5 false rfl).1 _ (Or.inl _)) :=
  (h.2.2.2.2.2.2.2.2 (rst 1 (fun r => { r with writing := 1, modCount := 1 })) _ 5 false rfl).1 (by decide +kernel) (Or.inl (by decide +kernel))

theorem wit_entry_waits (h : Obligations.RingSets) : type_of% ((h.2.2.2.2.2.2.2.2 (rst 1 (fun r => { r with writing := 1, modCount := 4, modTime := 10 })) _ 5 false rfl).2 (Or.inr _)) :=
  (h.2.2.2.2.2.2.2.2 (rst 1 (fun r => { r with writing := 1, modCount := 4, modTime := 10 })) _ 5 false rfl).2 (Or.inr (by decide +kernel))

theorem wit_entry_never (h : Obligations.RingSets) : type_of% ((h.2.2.2.2.2.2.2.2 (rst 1 (fun r => { r with writing := 1, modCount := 0 })) _ 5 true rfl).2 (Or.inl _)) :=
  (h.2.2.2.2.2.2.2.2 (rst 1 (fun r => { r with writing := 1, modCount := 0 })) _ 5 true rfl).2 (Or.inl (by decide +kernel))

/-! ### Witnesses: DescriptorsCompletedAtOnce -/

theorem wit_d_nop (h : Obligations.DescriptorsCompletedAtOnce) : type_of% (h.1.1 (workSt 1 [] p1) 5 (rd 1 []) _) :=
  h.1.1 (workSt 1 [] p1) 5 (rd 1 []) (by decide +kernel)

theorem wit_d_inject_count (h : Obligations.DescriptorsCompletedAtOnce) : type_of% ((h.1.2.1 (workSt 3 [(8, 4)] p1) 5 (rd 3 [(8, 4)]) _ _ _ rfl rfl).1 (Or.inr _)) :=
  (h.1.2.1 (workSt 3 [(8, 4)] p1) 5 (rd 3 [(8, 4)]) _ _ (by decide +kernel) rfl rfl).1 (Or.inr (by decide +kernel))

theorem wit_d_inject_none (h : Obligations.DescriptorsCompletedAtOnce) : type_of% ((h.1.2.1 (workSt 3 [] p1) 5 (rd 3 []) _ _ _ rfl rfl).1 (Or.inl _)) :=
  (h.1.2.1 (workSt 3 [] p1) 5 (rd 3 []) _ _ (by decide +kernel) rfl rfl).1 (Or.inl (by decide +kernel))

theorem wit_d_inject_kind (h : Obligations.DescriptorsCompletedAtOnce) : type_of% (((h.1.2.1 (workSt 3 injBad p1) 5 (rd 3 injBad) _ _ _ rfl rfl).2 _ _).1 1 _) :=
  ((h.1.2.1 (workSt 3 injBad p1) 5 (rd 3 injBad) _ _ (by decide +kernel) rfl rfl).2 (by decide +kernel) (by decide +kernel)).1 1 (by decide +kernel)

theorem wit_d_inject_away (h : Obligations.DescriptorsCompletedAtOnce) : type_of% ((((h.1.2.1 (workSt 3 injAway p1) 5 (rd 3 injAway) _ _ _ rfl rfl).2 _ _).2 _).1 1 _) :=
  (((h.1.2.1 (workSt 3 injAway p1) 5 (rd 3 injAway) _ _ (by decide +kernel) rfl rfl).2 (by decide +kernel) (by decide +kernel)).2 (by decide +kernel)).1 1 (by decide +kernel)

theorem wit_d_inject (h : Obligations.DescriptorsCompletedAtOnce) : type_of% (((((h.1.2.1 (workSt 3 inj p1) 5 (rd 3 inj) _ _ _ rfl rfl).2 _ _).2 _).2 _).1 _) :=
  ((((h.1.2.1 (workSt 3 inj p1) 5 (rd 3 inj) _ _ (by decide +kernel) rfl rfl).2 (by decide +kernel) (by decide +kernel)).2 (by decide +kernel)).2 (by decide +kernel)).1 (by decide +kernel)

theorem wit_d_inject_waits (h : Obligations.DescriptorsCompletedAtOnce) : type_of% (((((h.1.2.1 (workSt 3 inj (noCredit p1)) 5 (rd 3 inj) _ _ _ rfl rfl).2 _ _).2 _).2 _).2 _) :=
  ((((h.1.2.1 (workSt 3 inj (noCredit p1)) 5 (rd 3 inj) _ _ (by decide +kernel) rfl rfl).2 (by decide +kernel) (by decide +kernel)).2 (by decide +kernel)).2 (by decide +kernel)).2 (by decide +kernel)

theorem wit_d_injects (h : Obligations.DescriptorsCompletedAtOnce) : type_of% (h.1.2.2.1 p1 (ringAt p1 5) [gtok] _) :=
  h.1.2.2.1 p1 (ringAt p1 5) [gtok] (by decide +kernel)

theorem wit_d_abort_slice (h : Obligations.DescriptorsCompletedAtOnce) : type_of% (((h.1.2.2.2.1 (workSt 5 [(8, h9)] (sliceOf 0x301 unitSt)) 5 (rd 5 [(8, h9)]) _).1 _ rfl).1 _) :=
  ((h.1.2.2.2.1 (workSt 5 [(8, h9)] (sliceOf 0x301 unitSt)) 5 (rd 5 [(8, h9)]) (by decide +kernel)).1 _ rfl).1 (by decide +kernel)

theorem wit_d_abort_busy (h : Obligations.DescriptorsCompletedAtOnce) : type_of% (((h.1.2.2.2.1 (busySt 5 [(8, h9)] 0x301) 5 (busyRd 5 [(8, h9)]) _).1 _ rfl).2 _) :=
  ((h.1.2.2.2.1 (busySt 5 [(8, h9)] 0x301) 5 (busyRd 5 [(8, h9)]) (by decide +kernel)).1 _ rfl).2 (by decide +kernel)

theorem wit_d_abort_unknown (h : Obligations.DescriptorsCompletedAtOnce) : type_of% (((h.1.2.2.2.1 (workSt 5 [(8, 5)] unitSt) 5 (rd 5 [(8, 5)]) _).2 _).1 _) :=
  ((h.1.2.2.2.1 (workSt 5 [(8, 5)] unitSt) 5 (rd 5 [(8, 5)]) (by decide +kernel)).2 (by decide +kernel)).1 (by decide +kernel)

theorem wit_d_abort_done (h : Obligations.DescriptorsCompletedAtOnce) : type_of% ((((h.1.2.2.2.1 (workSt 5 [(8, h9)] (recSt 4)) 5 (rd 5 [(8, h9)]) _).2 _).2 9 _).1 _) :=
  (((h.1.2.2.2.1 (workSt 5 [(8, h9)] (recSt 4)) 5 (rd 5 [(8, h9)]) (by decide +kernel)).2 (by decide +kernel)).2 9 (by decide +kernel)).1 (by decide +kernel)

theorem wit_d_abort (h : Obligations.DescriptorsCompletedAtOnce) : type_of% ((((h.1.2.2.2.1 (workSt 5 [(8, h9), (0xC, 7)] unitSt) 5 (rd 5 [(8, h9), (0xC, 7)]) _).2 _).2 9 _).2.2 _ _) :=
  (((h.1.2.2.2.1 (workSt 5 [(8, h9), (0xC, 7)] unitSt) 5 (rd 5 [(8, h9), (0xC, 7)]) (by decide +kernel)).2 (by decide +kernel)).2 9 (by decide +kernel)).2.2 (by decide +kernel) (by decide +kernel)

theorem wit_d_abort_held (h : Obligations.DescriptorsCompletedAtOnce) : type_of% ((((h.1.2.2.2.1 (workSt 5 [(8, h9)] heldRec) 5 (rd 5 [(8, h9)]) _).2 _).2 9 _).2.1 _ _) :=
  (((h.1.2.2.2.1 (workSt 5 [(8, h9)] heldRec) 5 (rd 5 [(8, h9)]) (by decide +kernel)).2 (by decide +kernel)).2 9 (by decide +kernel)).2.1 (by decide +kernel) (by decide +kernel)

theorem wit_d_regs_field (h : Obligations.DescriptorsCompletedAtOnce) : type_of% ((h.1.2.2.2.2.1 (workSt 17 [(8, 6), (0xB, 8)] p1) 5 (rd 17 [(8, 6), (0xB, 8)]) _ _ _ _ rfl rfl rfl).1 0xB _) :=
  (h.1.2.2.2.2.1 (workSt 17 [(8, 6), (0xB, 8)] p1) 5 (rd 17 [(8, 6), (0xB, 8)]) _ _ _ (by decide +kernel) rfl rfl rfl).1 0xB (by decide +kernel)

theorem wit_d_regs_testing (h : Obligations.DescriptorsCompletedAtOnce) : type_of% (((h.1.2.2.2.2.1 (workSt 17 lregs (modTile p1 6 (fun t => { t with testing := true }))) 5 (rd 17 lregs) _ _ _ _ rfl rfl rfl).2 _ _ _ _).1 _) :=
  ((h.1.2.2.2.2.1 (workSt 17 lregs (modTile p1 6 (fun t => { t with testing := true }))) 5 (rd 17 lregs) _ _ _ (by decide +kernel) rfl rfl rfl).2 (by decide +kernel) (by decide +kernel) (by decide +kernel) (by decide +kernel)).1 (by decide +kernel)

theorem wit_d_regs_busy (h : Obligations.DescriptorsCompletedAtOnce) : type_of% (((h.1.2.2.2.2.1 (workSt 17 lregs (modTile p1 6 (fun t => { t with thread := { t.thread with running := true } }))) 5 (rd 17 lregs) _ _ _ _ rfl rfl rfl).2 _ _ _ _).2.1 _ _) :=
  ((h.1.2.2.2.2.1 (workSt 17 lregs (modTile p1 6 (fun t => { t with thread := { t.thread with running := true } }))) 5 (rd 17 lregs) _ _ _ (by decide +kernel) rfl rfl rfl).2 (by decide +kernel) (by decide +kernel) (by decide +kernel) (by decide +kernel)).2.1 (by decide +kernel) (by decide +kernel)

theorem wit_d_regs_value (h : Obligations.DescriptorsCompletedAtOnce) : type_of% ((((h.1.2.2.2.2.1 (workSt 17 lregsBad p1) 5 (rd 17 lregsBad) _ _ _ _ rfl rfl rfl).2 _ _ _ _).2.2 _ _).1 0x20 _) :=
  (((h.1.2.2.2.2.1 (workSt 17 lregsBad p1) 5 (rd 17 lregsBad) _ _ _ (by decide +kernel) rfl rfl rfl).2 (by decide +kernel) (by decide +kernel) (by decide +kernel) (by decide +kernel)).2.2 (by decide +kernel) (by decide +kernel)).1 0x20 (by decide +kernel)

theorem wit_d_regs (h : Obligations.DescriptorsCompletedAtOnce) : type_of% ((((h.1.2.2.2.2.1 (workSt 17 lregs p1) 5 (rd 17 lregs) _ _ _ _ rfl rfl rfl).2 _ _ _ _).2.2 _ _).2 _ _ _) :=
  (((h.1.2.2.2.2.1 (workSt 17 lregs p1) 5 (rd 17 lregs) _ _ _ (by decide +kernel) rfl rfl rfl).2 (by decide +kernel) (by decide +kernel) (by decide +kernel) (by decide +kernel)).2.2 (by decide +kernel) (by decide +kernel)).2 (by decide +kernel) (by decide +kernel) (by decide +kernel)

theorem wit_regs_other (h : Obligations.DescriptorsCompletedAtOnce) : type_of% ((h.1.2.2.2.2.2.1 p1 (ringAt p1 5) 9).1 _) :=
  (h.1.2.2.2.2.2.1 p1 (ringAt p1 5) 9).1 (by decide +kernel)

theorem wit_regs_in_use (h : Obligations.DescriptorsCompletedAtOnce) : type_of% (((h.1.2.2.2.2.2.1 (modTile p1 6 (fun t => { t with thread := { t.thread with running := true } })) (ringAt p1 5) 6).2 { valid := true, part := 1, vtile := 2, gen := 1, ntCountM1 := 1 } _ _ _).1 (Or.inl _)) :=
  ((h.1.2.2.2.2.2.1 (modTile p1 6 (fun t => { t with thread := { t.thread with running := true } })) (ringAt p1 5) 6).2 { valid := true, part := 1, vtile := 2, gen := 1, ntCountM1 := 1 } (by decide +kernel) (by decide +kernel) (by decide +kernel)).1 (Or.inl (by decide +kernel))

theorem wit_regs_free (h : Obligations.DescriptorsCompletedAtOnce) : type_of% (((h.1.2.2.2.2.2.1 p1 (ringAt p1 5) 6).2 { valid := true, part := 1, vtile := 2, gen := 1, ntCountM1 := 1 } _ _ _).2 _ _ _) :=
  ((h.1.2.2.2.2.2.1 p1 (ringAt p1 5) 6).2 { valid := true, part := 1, vtile := 2, gen := 1, ntCountM1 := 1 } (by decide +kernel) (by decide +kernel) (by decide +kernel)).2 (by decide +kernel) (by decide +kernel) (by decide +kernel)

theorem wit_d_class_field (h : Obligations.DescriptorsCompletedAtOnce) : type_of% ((h.2.1 (workSt 0x18 [(8, 64)] unitSt) p1 5 0 (rd 0x18 [(8, 64)]) _).1 _) :=
  (h.2.1 (workSt 0x18 [(8, 64)] unitSt) p1 5 0 (rd 0x18 [(8, 64)]) (by decide +kernel)).1 (by decide +kernel)

theorem wit_d_class_slice (h : Obligations.DescriptorsCompletedAtOnce) : type_of% (((h.2.1 (workSt 0x18 [(8, 1)] (sliceOf 0x301 unitSt)) p1 5 0 (rd 0x18 [(8, 1)]) _).2.1 _ _ rfl).1 _) :=
  ((h.2.1 (workSt 0x18 [(8, 1)] (sliceOf 0x301 unitSt)) p1 5 0 (rd 0x18 [(8, 1)]) (by decide +kernel)).2.1 (by decide +kernel) _ rfl).1 (by decide +kernel)

theorem wit_d_class (h : Obligations.DescriptorsCompletedAtOnce) : type_of% ((h.2.1 (workSt 0x18 [(8, 1), (0x10, 3)] noRecs) _ 5 _ (rd 0x18 [(8, 1), (0x10, 3)]) _).2.2 _ _ rfl) :=
  (h.2.1 (workSt 0x18 [(8, 1), (0x10, 3)] noRecs) _ 5 _ (rd 0x18 [(8, 1), (0x10, 3)]) (by decide +kernel)).2.2 (by decide +kernel) (by decide +kernel) rfl

theorem wit_class_denied (h : Obligations.DescriptorsCompletedAtOnce) : type_of% ((h.2.2.1 unitSt 1 2 3 _ rfl _).1 (Or.inl _)) :=
  (h.2.2.1 unitSt 1 2 3 _ rfl (by decide +kernel)).1 (Or.inl (by decide +kernel))

theorem wit_class_other (h : Obligations.DescriptorsCompletedAtOnce) : type_of% ((h.2.2.1 unitSt 2 1 3 _ rfl _).1 (Or.inr _)) :=
  (h.2.2.1 unitSt 2 1 3 _ rfl (by decide +kernel)).1 (Or.inr (by decide +kernel))

theorem wit_class_field (h : Obligations.DescriptorsCompletedAtOnce) : type_of% (((h.2.2.1 unitSt 1 1 (2 ^ 56) _ rfl _).2 _ _).1 (Or.inl _)) :=
  ((h.2.2.1 unitSt 1 1 (2 ^ 56) _ rfl (by decide +kernel)).2 (by decide +kernel) (by decide +kernel)).1 (Or.inl (by decide +kernel))

theorem wit_class_in_use (h : Obligations.DescriptorsCompletedAtOnce) : type_of% (((((h.2.2.1 unitSt 1 1 3 _ rfl _).2 _ _).2 _ _ _ _).2 _).1 _ _) :=
  ((((h.2.2.1 unitSt 1 1 3 _ rfl (by decide +kernel)).2 (by decide +kernel) (by decide +kernel)).2 (by decide +kernel) (by decide +kernel) (by decide +kernel) (by decide +kernel)).2 (by decide +kernel)).1 (by decide +kernel) (by decide +kernel)

theorem wit_class_set (h : Obligations.DescriptorsCompletedAtOnce) : type_of% (((((h.2.2.1 noRecs 1 1 3 _ rfl _).2 _ _).2 _ _ _ _).2 _).2 (Or.inr _)) :=
  ((((h.2.2.1 noRecs 1 1 3 _ rfl (by decide +kernel)).2 (by decide +kernel) (by decide +kernel)).2 (by decide +kernel) (by decide +kernel) (by decide +kernel) (by decide +kernel)).2 (by decide +kernel)).2 (Or.inr (by decide +kernel))

theorem wit_class_trail (h : Obligations.DescriptorsCompletedAtOnce) : type_of% ((((h.2.2.1 noRecs 1 1 clsTrail _ rfl _).2 _ _).2 _ _ _ _).1 _ _) :=
  (((h.2.2.1 noRecs 1 1 clsTrail _ rfl (by decide +kernel)).2 (by decide +kernel) (by decide +kernel)).2 (by decide +kernel) (by decide +kernel) (by decide +kernel) (by decide +kernel)).1 (by decide +kernel) (by decide +kernel)

theorem wit_d_trail_index (h : Obligations.DescriptorsCompletedAtOnce) : type_of% ((h.2.2.2.1 (workSt 0x19 [(8, 4096)] unitSt) p1 5 0 (rd 0x19 [(8, 4096)]) _).1 _) :=
  (h.2.2.2.1 (workSt 0x19 [(8, 4096)] unitSt) p1 5 0 (rd 0x19 [(8, 4096)]) (by decide +kernel)).1 (by decide +kernel)

theorem wit_d_trail_field (h : Obligations.DescriptorsCompletedAtOnce) : type_of% ((h.2.2.2.1 (workSt 0x19 [(8, 8), (0x10, 1)] unitSt) p1 5 0 (rd 0x19 [(8, 8), (0x10, 1)]) _).2.1 _ (Or.inr (Or.inl _))) :=
  (h.2.2.2.1 (workSt 0x19 [(8, 8), (0x10, 1)] unitSt) p1 5 0 (rd 0x19 [(8, 8), (0x10, 1)]) (by decide +kernel)).2.1 (by decide +kernel) (Or.inr (Or.inl (by decide +kernel)))

theorem wit_d_trail_slice (h : Obligations.DescriptorsCompletedAtOnce) : type_of% ((((h.2.2.2.1 (workSt 0x19 [(8, 8), (0x10, 2 ^ 58 + 2 ^ 50 * 4)] (sliceOf 0x305 unitSt)) p1 5 0 (rd 0x19 [(8, 8), (0x10, 2 ^ 58 + 2 ^ 50 * 4)]) _).2.2 _ _ _ _).1 _ rfl).1 _) :=
  (((h.2.2.2.1 (workSt 0x19 [(8, 8), (0x10, 2 ^ 58 + 2 ^ 50 * 4)] (sliceOf 0x305 unitSt)) p1 5 0 (rd 0x19 [(8, 8), (0x10, 2 ^ 58 + 2 ^ 50 * 4)]) (by decide +kernel)).2.2 (by decide +kernel) (by decide +kernel) (by decide +kernel) (by decide +kernel)).1 _ rfl).1 (by decide +kernel)

theorem wit_d_trail (h : Obligations.DescriptorsCompletedAtOnce) : type_of% (((h.2.2.2.1 (workSt 0x19 [(8, 8), (0x10, 2 ^ 58 + 2 ^ 50 * 4)] unitSt) _ 5 _ (rd 0x19 [(8, 8), (0x10, 2 ^ 58 + 2 ^ 50 * 4)]) _).2.2 _ _ _ _).2 _ rfl) :=
  ((h.2.2.2.1 (workSt 0x19 [(8, 8), (0x10, 2 ^ 58 + 2 ^ 50 * 4)] unitSt) _ 5 _ (rd 0x19 [(8, 8), (0x10, 2 ^ 58 + 2 ^ 50 * 4)]) (by decide +kernel)).2.2 (by decide +kernel) (by decide +kernel) (by decide +kernel) (by decide +kernel)).2 (by decide +kernel) rfl

theorem wit_trail_denied (h : Obligations.DescriptorsCompletedAtOnce) : type_of% ((h.2.2.2.2.1 unitSt 1 9 4 true false _ _).1 _) :=
  (h.2.2.2.2.1 unitSt 1 9 4 true false (by decide +kernel) (by decide +kernel)).1 (by decide +kernel)

theorem wit_trail_set (h : Obligations.DescriptorsCompletedAtOnce) : type_of% ((h.2.2.2.2.1 unitSt 1 8 4 true false _ _).2 _) :=
  (h.2.2.2.2.1 unitSt 1 8 4 true false (by decide +kernel) (by decide +kernel)).2 (by decide +kernel)

theorem wit_d_lock_field (h : Obligations.DescriptorsCompletedAtOnce) : type_of% ((h.2.2.2.2.2.1 (workSt 0x1B [(8, 64)] unitSt) p1 5 0 (rd 0x1B [(8, 64)]) _).1 8 _) :=
  (h.2.2.2.2.2.1 (workSt 0x1B [(8, 64)] unitSt) p1 5 0 (rd 0x1B [(8, 64)]) (by decide +kernel)).1 8 (by decide +kernel)

theorem wit_d_lock_count (h : Obligations.DescriptorsCompletedAtOnce) : type_of% ((h.2.2.2.2.2.1 (workSt 0x1B [(8, 0), (9, 2), (0xB, 50), (0xC, 15)] unitSt) p1 5 0 (rd 0x1B [(8, 0), (9, 2), (0xB, 50), (0xC, 15)]) _).1 0xC _) :=
  (h.2.2.2.2.2.1 (workSt 0x1B [(8, 0), (9, 2), (0xB, 50), (0xC, 15)] unitSt) p1 5 0 (rd 0x1B [(8, 0), (9, 2), (0xB, 50), (0xC, 15)]) (by decide +kernel)).1 0xC (by decide +kernel)

theorem wit_d_lock_slice (h : Obligations.DescriptorsCompletedAtOnce) : type_of% ((((h.2.2.2.2.2.1 (workSt 0x1B [(8, 0), (9, 1), (0xA, 0x1C)] (sliceOf 0x304 unitSt)) p1 5 0 (rd 0x1B [(8, 0), (9, 1), (0xA, 0x1C)]) _).2 _ _ _ _).1 _ rfl).1 _) :=
  (((h.2.2.2.2.2.1 (workSt 0x1B [(8, 0), (9, 1), (0xA, 0x1C)] (sliceOf 0x304 unitSt)) p1 5 0 (rd 0x1B [(8, 0), (9, 1), (0xA, 0x1C)]) (by decide +kernel)).2 (by decide +kernel) (by decide +kernel) (by decide +kernel) (by decide +kernel)).1 _ rfl).1 (by decide +kernel)

theorem wit_d_lock (h : Obligations.DescriptorsCompletedAtOnce) : type_of% (((h.2.2.2.2.2.1 (workSt 0x1B [(8, 0), (9, 1), (0xA, 0x1C)] unitSt) _ 5 _ (rd 0x1B [(8, 0), (9, 1), (0xA, 0x1C)]) _).2 _ _ _ _).2 _ rfl) :=
  ((h.2.2.2.2.2.1 (workSt 0x1B [(8, 0), (9, 1), (0xA, 0x1C)] unitSt) _ 5 _ (rd 0x1B [(8, 0), (9, 1), (0xA, 0x1C)]) (by decide +kernel)).2 (by decide +kernel) (by decide +kernel) (by decide +kernel) (by decide +kernel)).2 (by decide +kernel) rfl

theorem wit_group_other (h : Obligations.DescriptorsCompletedAtOnce) : type_of% ((h.2.2.2.2.2.2.1 unitSt 2 0 1 _).1 none [] (Or.inr _)) :=
  (h.2.2.2.2.2.2.1 unitSt 2 0 1 (by decide +kernel)).1 none [] (Or.inr (by decide +kernel))

theorem wit_group_none (h : Obligations.DescriptorsCompletedAtOnce) : type_of% ((h.2.2.2.2.2.2.1 unitSt 1 2 1 _).1 none [] (Or.inl _)) :=
  (h.2.2.2.2.2.2.1 unitSt 1 2 1 (by decide +kernel)).1 none [] (Or.inl (by decide +kernel))

theorem wit_group_mode (h : Obligations.DescriptorsCompletedAtOnce) : type_of% (((h.2.2.2.2.2.2.1 busyGroup 1 0 1 _).2 _ _).1 _ _ []) :=
  ((h.2.2.2.2.2.2.1 busyGroup 1 0 1 (by decide +kernel)).2 (by decide +kernel) (by decide +kernel)).1 (by decide +kernel) (by decide +kernel) []

theorem wit_group_busy (h : Obligations.DescriptorsCompletedAtOnce) : type_of% (((h.2.2.2.2.2.2.1 busyGroup 1 0 1 _).2 _ _).2.1 _ none (3, 5) []) :=
  ((h.2.2.2.2.2.2.1 busyGroup 1 0 1 (by decide +kernel)).2 (by decide +kernel) (by decide +kernel)).2.1 (by decide +kernel) none (3, 5) []

theorem wit_group_config (h : Obligations.DescriptorsCompletedAtOnce) : type_of% (((h.2.2.2.2.2.2.1 unitSt 1 0 0x1D _).2 _ _).2.2.1 (Or.inl _)) :=
  ((h.2.2.2.2.2.2.1 unitSt 1 0 0x1D (by decide +kernel)).2 (by decide +kernel) (by decide +kernel)).2.2.1 (Or.inl (by decide +kernel))

theorem wit_group_config_busy (h : Obligations.DescriptorsCompletedAtOnce) : type_of% (((h.2.2.2.2.2.2.1 busyGroup 1 0 0x1C _).2 _ _).2.2.1 (Or.inr _)) :=
  ((h.2.2.2.2.2.2.1 busyGroup 1 0 0x1C (by decide +kernel)).2 (by decide +kernel) (by decide +kernel)).2.2.1 (Or.inr (by decide +kernel))

theorem wit_group_init (h : Obligations.DescriptorsCompletedAtOnce) : type_of% (((h.2.2.2.2.2.2.1 unitSt 1 0 0x1D _).2 _ _).2.2.2 _ 3 5) :=
  ((h.2.2.2.2.2.2.1 unitSt 1 0 0x1D (by decide +kernel)).2 (by decide +kernel) (by decide +kernel)).2.2.2 (by decide +kernel) 3 5

theorem wit_d_ovf_field (h : Obligations.DescriptorsCompletedAtOnce) : type_of% ((h.2.2.2.2.2.2.2.1 (workSt 0x1C [(8, 2)] unitSt) p1 5 0 (rd 0x1C [(8, 2)]) _).1 _) :=
  (h.2.2.2.2.2.2.2.1 (workSt 0x1C [(8, 2)] unitSt) p1 5 0 (rd 0x1C [(8, 2)]) (by decide +kernel)).1 (by decide +kernel)

theorem wit_d_ovf_on (h : Obligations.DescriptorsCompletedAtOnce) : type_of% ((h.2.2.2.2.2.2.2.1 (workSt 0x1C [(8, 1), (9, 24), (0x10, 2 ^ 24)] unitSt) _ 5 _ (rd 0x1C [(8, 1), (9, 24), (0x10, 2 ^ 24)]) _).2.1 _ rfl) :=
  (h.2.2.2.2.2.2.2.1 (workSt 0x1C [(8, 1), (9, 24), (0x10, 2 ^ 24)] unitSt) _ 5 _ (rd 0x1C [(8, 1), (9, 24), (0x10, 2 ^ 24)]) (by decide +kernel)).2.1 (by decide +kernel) rfl

theorem wit_d_ovf_size (h : Obligations.DescriptorsCompletedAtOnce) : type_of% ((h.2.2.2.2.2.2.2.1 (workSt 0x1C [(9, 24)] unitSt) p1 5 0 (rd 0x1C [(9, 24)]) _).2.2.1 _ _) :=
  (h.2.2.2.2.2.2.2.1 (workSt 0x1C [(9, 24)] unitSt) p1 5 0 (rd 0x1C [(9, 24)]) (by decide +kernel)).2.2.1 (by decide +kernel) (by decide +kernel)

theorem wit_d_ovf_base (h : Obligations.DescriptorsCompletedAtOnce) : type_of% ((h.2.2.2.2.2.2.2.1 (workSt 0x1C [(0x10, 2 ^ 24)] unitSt) p1 5 0 (rd 0x1C [(0x10, 2 ^ 24)]) _).2.2.2.1 _ _ _) :=
  (h.2.2.2.2.2.2.2.1 (workSt 0x1C [(0x10, 2 ^ 24)] unitSt) p1 5 0 (rd 0x1C [(0x10, 2 ^ 24)]) (by decide +kernel)).2.2.2.1 (by decide +kernel) (by decide +kernel) (by decide +kernel)

theorem wit_d_ovf_off (h : Obligations.DescriptorsCompletedAtOnce) : type_of% ((h.2.2.2.2.2.2.2.1 (workSt 0x1C [] (ovfSt 3)) _ 5 _ (rd 0x1C []) _).2.2.2.2 _ _ _ rfl) :=
  (h.2.2.2.2.2.2.2.1 (workSt 0x1C [] (ovfSt 3)) _ 5 _ (rd 0x1C []) (by decide +kernel)).2.2.2.2 (by decide +kernel) (by decide +kernel) (by decide +kernel) rfl

theorem wit_ovf_field (h : Obligations.DescriptorsCompletedAtOnce) : type_of% ((h.2.2.2.2.2.2.2.2.1 unitSt 1 (2 ^ 24) 23).1 (Or.inl _)) :=
  (h.2.2.2.2.2.2.2.2.1 unitSt 1 (2 ^ 24) 23).1 (Or.inl (by decide +kernel))

theorem wit_ovf_align (h : Obligations.DescriptorsCompletedAtOnce) : type_of% ((h.2.2.2.2.2.2.2.2.1 unitSt 1 (2 ^ 24 + 4096) 24).1 (Or.inr (Or.inr (Or.inr _)))) :=
  (h.2.2.2.2.2.2.2.2.1 unitSt 1 (2 ^ 24 + 4096) 24).1 (Or.inr (Or.inr (Or.inr (by decide +kernel))))

theorem wit_ovf_limit (h : Obligations.DescriptorsCompletedAtOnce) : type_of% (((h.2.2.2.2.2.2.2.2.1 unitSt 1 (2 ^ 25) 25).2.1 _ _ _ _).1 (Or.inl _)) :=
  ((h.2.2.2.2.2.2.2.2.1 unitSt 1 (2 ^ 25) 25).2.1 (by decide +kernel) (by decide +kernel) (by decide +kernel) (by decide +kernel)).1 (Or.inl (by decide +kernel))

theorem wit_ovf_again (h : Obligations.DescriptorsCompletedAtOnce) : type_of% (((h.2.2.2.2.2.2.2.2.1 (ovfSt 1) 1 (2 ^ 24) 24).2.1 _ _ _ _).1 (Or.inr _)) :=
  ((h.2.2.2.2.2.2.2.2.1 (ovfSt 1) 1 (2 ^ 24) 24).2.1 (by decide +kernel) (by decide +kernel) (by decide +kernel) (by decide +kernel)).1 (Or.inr (by decide +kernel))

theorem wit_ovf_on (h : Obligations.DescriptorsCompletedAtOnce) : type_of% (((h.2.2.2.2.2.2.2.2.1 unitSt 1 (2 ^ 24) 24).2.1 _ _ _ _).2 _ _) :=
  ((h.2.2.2.2.2.2.2.2.1 unitSt 1 (2 ^ 24) 24).2.1 (by decide +kernel) (by decide +kernel) (by decide +kernel) (by decide +kernel)).2 (by decide +kernel) (by decide +kernel)

theorem wit_ovf_off_no (h : Obligations.DescriptorsCompletedAtOnce) : type_of% ((h.2.2.2.2.2.2.2.2.1 unitSt 1 0 0).2.2.1 (Or.inl _)) :=
  (h.2.2.2.2.2.2.2.2.1 unitSt 1 0 0).2.2.1 (Or.inl (by decide +kernel))

theorem wit_ovf_off_busy (h : Obligations.DescriptorsCompletedAtOnce) : type_of% ((h.2.2.2.2.2.2.2.2.1 (ovfBusy) 1 0 0).2.2.1 (Or.inr _)) :=
  (h.2.2.2.2.2.2.2.2.1 (ovfBusy) 1 0 0).2.2.1 (Or.inr (by decide +kernel))

theorem wit_ovf_off (h : Obligations.DescriptorsCompletedAtOnce) : type_of% ((h.2.2.2.2.2.2.2.2.1 (ovfSt 3) 1 0 0).2.2.2 _ (Or.inl _)) :=
  (h.2.2.2.2.2.2.2.2.1 (ovfSt 3) 1 0 0).2.2.2 (by decide +kernel) (Or.inl (by decide +kernel))

theorem wit_d_trace (h : Obligations.DescriptorsCompletedAtOnce) : type_of% (h.2.2.2.2.2.2.2.2.2.1 (workSt 0x1D [(8, 0x3000), (0x10, 9 * 16), (0x18, 2 ^ 48 * 0xFF + 2 ^ 20 * 63 + 2 ^ 19)]) _ 5 _ (rd 0x1D [(8, 0x3000), (0x10, 9 * 16), (0x18, 2 ^ 48 * 0xFF + 2 ^ 20 * 63 + 2 ^ 19)]) _ (pair_of (b := 0) _)) :=
  h.2.2.2.2.2.2.2.2.2.1 (workSt 0x1D [(8, 0x3000), (0x10, 9 * 16), (0x18, 2 ^ 48 * 0xFF + 2 ^ 20 * 63 + 2 ^ 19)]) _ 5 _ (rd 0x1D [(8, 0x3000), (0x10, 9 * 16), (0x18, 2 ^ 48 * 0xFF + 2 ^ 20 * 63 + 2 ^ 19)]) (by decide +kernel) (pair_of (b := 0) (by decide +kernel))

theorem wit_trace_field (h : Obligations.DescriptorsCompletedAtOnce) : type_of% ((h.2.2.2.2.2.2.2.2.2.2 p1 1 0x3001 (9 * 16) 0 _ rfl).1 (Or.inr (Or.inl _))) :=
  (h.2.2.2.2.2.2.2.2.2.2 p1 1 0x3001 (9 * 16) 0 _ rfl).1 (Or.inr (Or.inl (by decide +kernel)))

theorem wit_trace_size (h : Obligations.DescriptorsCompletedAtOnce) : type_of% ((h.2.2.2.2.2.2.2.2.2.2 p1 1 0x3000 (6 * 16) 0 _ rfl).1 (Or.inr (Or.inr (Or.inr (Or.inr (Or.inl _)))))) :=
  (h.2.2.2.2.2.2.2.2.2.2 p1 1 0x3000 (6 * 16) 0 _ rfl).1 (Or.inr (Or.inr (Or.inr (Or.inr (Or.inl (by decide +kernel))))))

theorem wit_trace_enabled (h : Obligations.DescriptorsCompletedAtOnce) : type_of% (((h.2.2.2.2.2.2.2.2.2.2 destOn 1 0x3000 (9 * 16) 0 _ rfl).2 _ _ _ _ _ _ _ _ _).1 _ (Or.inl _)) :=
  ((h.2.2.2.2.2.2.2.2.2.2 destOn 1 0x3000 (9 * 16) 0 _ rfl).2 (by decide +kernel) (by decide +kernel) (by decide +kernel) (by decide +kernel) (by decide +kernel) (by decide +kernel) (by decide +kernel) (by decide +kernel) (by decide +kernel)).1 (by decide +kernel) (Or.inl (by decide +kernel))

theorem wit_trace_set (h : Obligations.DescriptorsCompletedAtOnce) : type_of% (((h.2.2.2.2.2.2.2.2.2.2 p1 1 0x3000 (9 * 16) (2 ^ 48 * 0xFF) _ rfl).2 _ _ _ _ _ _ _ _ _).2 (Or.inl _)) :=
  ((h.2.2.2.2.2.2.2.2.2.2 p1 1 0x3000 (9 * 16) (2 ^ 48 * 0xFF) _ rfl).2 (by decide +kernel) (by decide +kernel) (by decide +kernel) (by decide +kernel) (by decide +kernel) (by decide +kernel) (by decide +kernel) (by decide +kernel) (by decide +kernel)).2 (Or.inl (by decide +kernel))

theorem wit_d_trail_busy (h : Obligations.DescriptorsCompletedAtOnce) : type_of% ((((h.2.2.2.1 (busySt 0x19 [(8, 8), (0x10, 2 ^ 58 + 2 ^ 50 * 4)] 0x305) p1 5 0 (busyRd 0x19 [(8, 8), (0x10, 2 ^ 58 + 2 ^ 50 * 4)]) _).2.2 _ _ _ _).1 _ rfl).2 _) :=
  (((h.2.2.2.1 (busySt 0x19 [(8, 8), (0x10, 2 ^ 58 + 2 ^ 50 * 4)] 0x305) p1 5 0 (busyRd 0x19 [(8, 8), (0x10, 2 ^ 58 + 2 ^ 50 * 4)]) (by decide +kernel)).2.2 (by decide +kernel) (by decide +kernel) (by decide +kernel) (by decide +kernel)).1 _ rfl).2 (by decide +kernel)

theorem wit_d_lock_busy (h : Obligations.DescriptorsCompletedAtOnce) : type_of% ((((h.2.2.2.2.2.1 (busySt 0x1B [(8, 0), (9, 1), (0xA, 0x1C)] 0x304) p1 5 0 (busyRd 0x1B [(8, 0), (9, 1), (0xA, 0x1C)]) _).2 _ _ _ _).1 _ rfl).2 _) :=
  (((h.2.2.2.2.2.1 (busySt 0x1B [(8, 0), (9, 1), (0xA, 0x1C)] 0x304) p1 5 0 (busyRd 0x1B [(8, 0), (9, 1), (0xA, 0x1C)]) (by decide +kernel)).2 (by decide +kernel) (by decide +kernel) (by decide +kernel) (by decide +kernel)).1 _ rfl).2 (by decide +kernel)

theorem wit_d_class_busy (h : Obligations.DescriptorsCompletedAtOnce) : type_of% (((h.2.1 (busySt 0x18 [(8, 1)] 0x301) p1 5 0 (busyRd 0x18 [(8, 1)]) _).2.1 _ _ rfl).2 _) :=
  ((h.2.1 (busySt 0x18 [(8, 1)] 0x301) p1 5 0 (busyRd 0x18 [(8, 1)]) (by decide +kernel)).2.1 (by decide +kernel) _ rfl).2 (by decide +kernel)

/-! ### Witnesses: DescriptorsSent -/

theorem wit_s_launch_field (h : Obligations.DescriptorsSent) : type_of% (((h.1.1 (workSt 2 [(0x1E, 2)] p1) 5 (rd 2 [(0x1E, 2)])).1 _).1 0x1E _) :=
  ((h.1.1 (workSt 2 [(0x1E, 2)] p1) 5 (rd 2 [(0x1E, 2)])).1 (by decide +kernel)).1 0x1E (by decide +kernel)

theorem wit_s_launch (h : Obligations.DescriptorsSent) : type_of% (((h.1.1 (workSt 2 lnch p1) 5 (rd 2 lnch)).1 _).2 _ (Or.inl _) _ _) :=
  ((h.1.1 (workSt 2 lnch p1) 5 (rd 2 lnch)).1 (by decide +kernel)).2 (by decide +kernel) (Or.inl (by decide +kernel)) (by decide +kernel) (by decide +kernel)

theorem wit_s_launch_fresh (h : Obligations.DescriptorsSent) : type_of% (((h.1.1 (workSt 2 [(8, 2 ^ 52)] p1) 5 (rd 2 [(8, 2 ^ 52)])).1 _).2 _ (Or.inr _) _ _) :=
  ((h.1.1 (workSt 2 [(8, 2 ^ 52)] p1) 5 (rd 2 [(8, 2 ^ 52)])).1 (by decide +kernel)).2 (by decide +kernel) (Or.inr (by decide +kernel)) (by decide +kernel) (by decide +kernel)

theorem wit_s_dep (h : Obligations.DescriptorsSent) : type_of% (((h.1.1 (workSt 4 [(8, h9), (0xC, 1)] p1) 5 (rd 4 [(8, h9), (0xC, 1)])).2.1 _).1 _) :=
  ((h.1.1 (workSt 4 [(8, h9), (0xC, 1)] p1) 5 (rd 4 [(8, h9), (0xC, 1)])).2.1 (by decide +kernel)).1 (by decide +kernel)

theorem wit_s_dep_field (h : Obligations.DescriptorsSent) : type_of% (((h.1.1 (workSt 4 [(8, h9), (0xC, 2)] p1) 5 (rd 4 [(8, h9), (0xC, 2)])).2.1 _).2 _) :=
  ((h.1.1 (workSt 4 [(8, h9), (0xC, 2)] p1) 5 (rd 4 [(8, h9), (0xC, 2)])).2.1 (by decide +kernel)).2 (by decide +kernel)

theorem wit_s_ctx_alloc (h : Obligations.DescriptorsSent) : type_of% ((h.1.1 (workSt 6 [] p1) 5 (rd 6 [])).2.2.1 _) :=
  (h.1.1 (workSt 6 [] p1) 5 (rd 6 [])).2.2.1 (by decide +kernel)

theorem wit_s_ctx_release (h : Obligations.DescriptorsSent) : type_of% (((h.1.1 (workSt 7 [(8, 5)] p1) 5 (rd 7 [(8, 5)])).2.2.2.1 _).1 _) :=
  ((h.1.1 (workSt 7 [(8, 5)] p1) 5 (rd 7 [(8, 5)])).2.2.2.1 (by decide +kernel)).1 (by decide +kernel)

theorem wit_s_ctx_field (h : Obligations.DescriptorsSent) : type_of% (((h.1.1 (workSt 7 [(8, 2 ^ 14)] p1) 5 (rd 7 [(8, 2 ^ 14)])).2.2.2.1 _).2 _) :=
  ((h.1.1 (workSt 7 [(8, 2 ^ 14)] p1) 5 (rd 7 [(8, 2 ^ 14)])).2.2.2.1 (by decide +kernel)).2 (by decide +kernel)

theorem wit_s_sift (h : Obligations.DescriptorsSent) : type_of% (((h.1.1 (workSt 8 [(8, 0x200003000), (0x10, 4)] p1) 5 (rd 8 [(8, 0x200003000), (0x10, 4)])).2.2.2.2.1 _).1 _) :=
  ((h.1.1 (workSt 8 [(8, 0x200003000), (0x10, 4)] p1) 5 (rd 8 [(8, 0x200003000), (0x10, 4)])).2.2.2.2.1 (by decide +kernel)).1 (by decide +kernel)

theorem wit_s_sift_field (h : Obligations.DescriptorsSent) : type_of% (((h.1.1 (workSt 8 [(0x10, 5)] p1) 5 (rd 8 [(0x10, 5)])).2.2.2.2.1 _).2 _) :=
  ((h.1.1 (workSt 8 [(0x10, 5)] p1) 5 (rd 8 [(0x10, 5)])).2.2.2.2.1 (by decide +kernel)).2 (by decide +kernel)

theorem wit_s_lock (h : Obligations.DescriptorsSent) : type_of% (((h.1.1 (workSt 9 [(8, 3), (0x10, 2)] p1) 5 (rd 9 [(8, 3), (0x10, 2)])).2.2.2.2.2.1 _).1 .try_ _) :=
  ((h.1.1 (workSt 9 [(8, 3), (0x10, 2)] p1) 5 (rd 9 [(8, 3), (0x10, 2)])).2.2.2.2.2.1 (by decide +kernel)).1 .try_ (by decide +kernel)

theorem wit_s_lock_none (h : Obligations.DescriptorsSent) : type_of% (((h.1.1 (workSt 9 [(8, 3)] p1) 5 (rd 9 [(8, 3)])).2.2.2.2.2.1 _).2 (Or.inl _)) :=
  ((h.1.1 (workSt 9 [(8, 3)] p1) 5 (rd 9 [(8, 3)])).2.2.2.2.2.1 (by decide +kernel)).2 (Or.inl (by decide +kernel))

theorem wit_s_lock_force (h : Obligations.DescriptorsSent) : type_of% (((h.1.1 (workSt 9 [(8, 3), (0x10, 7)] p1) 5 (rd 9 [(8, 3), (0x10, 7)])).2.2.2.2.2.1 _).2 (Or.inr _)) :=
  ((h.1.1 (workSt 9 [(8, 3), (0x10, 7)] p1) 5 (rd 9 [(8, 3), (0x10, 7)])).2.2.2.2.2.1 (by decide +kernel)).2 (Or.inr (by decide +kernel))

theorem wit_s_trail (h : Obligations.DescriptorsSent) : type_of% (((h.1.1 (workSt 0x1A [(8, 8), (0xA, 1)] p1) 5 (rd 0x1A [(8, 8), (0xA, 1)])).2.2.2.2.2.2.1 _).1 .pass _ _) :=
  ((h.1.1 (workSt 0x1A [(8, 8), (0xA, 1)] p1) 5 (rd 0x1A [(8, 8), (0xA, 1)])).2.2.2.2.2.2.1 (by decide +kernel)).1 .pass (by decide +kernel) (by decide +kernel)

theorem wit_s_trail_index (h : Obligations.DescriptorsSent) : type_of% (((h.1.1 (workSt 0x1A [(8, 4096)] p1) 5 (rd 0x1A [(8, 4096)])).2.2.2.2.2.2.1 _).2.1 _) :=
  ((h.1.1 (workSt 0x1A [(8, 4096)] p1) 5 (rd 0x1A [(8, 4096)])).2.2.2.2.2.2.1 (by decide +kernel)).2.1 (by decide +kernel)

theorem wit_s_trail_field (h : Obligations.DescriptorsSent) : type_of% (((h.1.1 (workSt 0x1A [(8, 8), (0xA, 3)] p1) 5 (rd 0x1A [(8, 8), (0xA, 3)])).2.2.2.2.2.2.1 _).2.2 _ _) :=
  ((h.1.1 (workSt 0x1A [(8, 8), (0xA, 3)] p1) 5 (rd 0x1A [(8, 8), (0xA, 3)])).2.2.2.2.2.2.1 (by decide +kernel)).2.2 (by decide +kernel) (by decide +kernel)

theorem wit_s_force_field (h : Obligations.DescriptorsSent) : type_of% (((h.1.1 (workSt 0x0A [(8, 4096)] p1) 5 (rd 0x0A [(8, 4096)])).2.2.2.2.2.2.2 _ _).1 _) :=
  ((h.1.1 (workSt 0x0A [(8, 4096)] p1) 5 (rd 0x0A [(8, 4096)])).2.2.2.2.2.2.2 (by decide +kernel) (by decide +kernel)).1 (by decide +kernel)

theorem wit_s_force_denied (h : Obligations.DescriptorsSent) : type_of% (((h.1.1 (workSt 0x0A [(8, 200)] unitSt) 5 (rd 0x0A [(8, 200)])).2.2.2.2.2.2.2 _ _).2.1 _ (Or.inl _)) :=
  ((h.1.1 (workSt 0x0A [(8, 200)] unitSt) 5 (rd 0x0A [(8, 200)])).2.2.2.2.2.2.2 (by decide +kernel) (by decide +kernel)).2.1 (by decide +kernel) (Or.inl (by decide +kernel))

theorem wit_s_force (h : Obligations.DescriptorsSent) : type_of% (((h.1.1 (workSt 0x0A [(8, 3)] unitSt) 5 (rd 0x0A [(8, 3)])).2.2.2.2.2.2.2 _ _).2.2 _ _ _) :=
  ((h.1.1 (workSt 0x0A [(8, 3)] unitSt) 5 (rd 0x0A [(8, 3)])).2.2.2.2.2.2.2 (by decide +kernel) (by decide +kernel)).2.2 (by decide +kernel) (by decide +kernel) (by decide +kernel)

theorem wit_s_sends (h : Obligations.DescriptorsSent) : type_of% ((h.1.2.1 p1 5 0x303 (rd 6 []) .ctxAlloc).2.1 (Or.inr _)) :=
  (h.1.2.1 p1 5 0x303 (rd 6 []) .ctxAlloc).2.1 (Or.inr (by decide +kernel))

theorem wit_s_sends_take (h : Obligations.DescriptorsSent) : type_of% ((h.1.2.1 p1 5 0x301 (rd 6 []) (.readLine {})).2.1 (Or.inl _)) :=
  (h.1.2.1 p1 5 0x301 (rd 6 []) (.readLine {})).2.1 (Or.inl (by decide +kernel))

theorem wit_s_waits (h : Obligations.DescriptorsSent) : type_of% ((h.1.2.1 noWin 5 0x303 (rd 6 []) .ctxAlloc).2.2 _ _) :=
  (h.1.2.1 noWin 5 0x303 (rd 6 []) .ctxAlloc).2.2 (by decide +kernel) (by decide +kernel)

theorem wit_s_repeat_sift (h : Obligations.DescriptorsSent) : type_of% ((h.1.2.2.1 (heldDesc 8) 5 (rd 8 [] 3) launchReq _ _ _ _ _).1 _) :=
  (h.1.2.2.1 (heldDesc 8) 5 (rd 8 [] 3) launchReq (by decide +kernel) (by decide +kernel) (by decide +kernel) (by decide +kernel) (by decide +kernel)).1 (by decide +kernel)

theorem wit_s_repeat_launch (h : Obligations.DescriptorsSent) : type_of% ((h.1.2.2.1 (heldDesc 2) 5 (rd 2 [] 3) launchReq _ _ _ _ _).2 _) :=
  (h.1.2.2.1 (heldDesc 2) 5 (rd 2 [] 3) launchReq (by decide +kernel) (by decide +kernel) (by decide +kernel) (by decide +kernel) (by decide +kernel)).2 (by decide +kernel)

theorem wit_s_launched (h : Obligations.DescriptorsSent) : type_of% ((h.1.2.2.2 (sentDesc 2 []) launchReq 5 3 0 (rd 2 [] 2) (resultWord false 9 0) _ _).1 _ _ _) :=
  (h.1.2.2.2 (sentDesc 2 []) launchReq 5 3 0 (rd 2 [] 2) (resultWord false 9 0) (by decide +kernel) (by decide +kernel)).1 (by decide +kernel) (by decide +kernel) (by decide +kernel)

theorem wit_s_launched_host (h : Obligations.DescriptorsSent) : type_of% ((h.1.2.2.2 (sentDesc 2 [(0x1E, 1)]) launchReq 5 3 0 (rd 2 [(0x1E, 1)] 2) (resultWord false 9 0) _ _).2.1 _ _ _) :=
  (h.1.2.2.2 (sentDesc 2 [(0x1E, 1)]) launchReq 5 3 0 (rd 2 [(0x1E, 1)] 2) (resultWord false 9 0) (by decide +kernel) (by decide +kernel)).2.1 (by decide +kernel) (by decide +kernel) (by decide +kernel)

theorem wit_s_launch_nohold (h : Obligations.DescriptorsSent) : type_of% (((h.1.2.2.2 (sentDesc (2 + 2 ^ 9) []) launchReq 5 3 9 (rd (2 + 2 ^ 9) [] 2) (resultWord true 0 9) _ _).2.2.1 (Or.inl _) _).1 _) :=
  ((h.1.2.2.2 (sentDesc (2 + 2 ^ 9) []) launchReq 5 3 9 (rd (2 + 2 ^ 9) [] 2) (resultWord true 0 9) (by decide +kernel) (by decide +kernel)).2.2.1 (Or.inl (by decide +kernel)) (by decide +kernel)).1 (by decide +kernel)

theorem wit_s_launch_held (h : Obligations.DescriptorsSent) : type_of% (((h.1.2.2.2 (sentDesc 2 []) launchReq 5 3 9 (rd 2 [] 2) (resultWord true 0 9) _ _).2.2.1 (Or.inl _) _).2 _) :=
  ((h.1.2.2.2 (sentDesc 2 []) launchReq 5 3 9 (rd 2 [] 2) (resultWord true 0 9) (by decide +kernel) (by decide +kernel)).2.2.1 (Or.inl (by decide +kernel)) (by decide +kernel)).2 (by decide +kernel)

theorem wit_s_sift_held (h : Obligations.DescriptorsSent) : type_of% (((h.1.2.2.2 (sentDesc 8 []) launchReq 5 3 9 (rd 8 [] 2) (resultWord true 0 9) _ _).2.2.1 (Or.inr _) _).2 _) :=
  ((h.1.2.2.2 (sentDesc 8 []) launchReq 5 3 9 (rd 8 [] 2) (resultWord true 0 9) (by decide +kernel) (by decide +kernel)).2.2.1 (Or.inr (by decide +kernel)) (by decide +kernel)).2 (by decide +kernel)

theorem wit_s_locked (h : Obligations.DescriptorsSent) : type_of% ((h.1.2.2.2 (sentDesc 9 []) launchReq 5 3 0 (rd 9 [] 2) (resultWord false 5 0) _ _).2.2.2.1 _) :=
  (h.1.2.2.2 (sentDesc 9 []) launchReq 5 3 0 (rd 9 [] 2) (resultWord false 5 0) (by decide +kernel) (by decide +kernel)).2.2.2.1 (by decide +kernel)

theorem wit_s_decremented (h : Obligations.DescriptorsSent) : type_of% ((h.1.2.2.2 (sentDesc 4 []) launchReq 5 3 0 (rd 4 [] 2) (resultWord false 0 0) _ _).2.2.2.2 _) :=
  (h.1.2.2.2 (sentDesc 4 []) launchReq 5 3 0 (rd 4 [] 2) (resultWord false 0 0) (by decide +kernel) (by decide +kernel)).2.2.2.2 (by decide +kernel)

theorem wit_c_len (h : Obligations.DescriptorsSent) : type_of% ((h.2.1 (workSt 0x0B [(0x18, 65)] unitSt) 5 _ _ _ (rd 0x0B [(0x18, 65)]) _ _ rfl rfl rfl rfl).1 (Or.inl _)) :=
  (h.2.1 (workSt 0x0B [(0x18, 65)] unitSt) 5 _ _ _ (rd 0x0B [(0x18, 65)]) _ (by decide +kernel) rfl rfl rfl rfl).1 (Or.inl (by decide +kernel))

theorem wit_c_none (h : Obligations.DescriptorsSent) : type_of% ((h.2.1 (workSt 0x0B [] unitSt) 5 _ _ _ (rd 0x0B []) _ _ rfl rfl rfl rfl).1 (Or.inr (Or.inl _))) :=
  (h.2.1 (workSt 0x0B [] unitSt) 5 _ _ _ (rd 0x0B []) _ (by decide +kernel) rfl rfl rfl rfl).1 (Or.inr (Or.inl (by decide +kernel)))

theorem wit_c_src (h : Obligations.DescriptorsSent) : type_of% (((h.2.1 (workSt 0x0B [(8, 0x200000041), (0x18, 64)] unitSt) 5 _ _ _ (rd 0x0B [(8, 0x200000041), (0x18, 64)]) _ _ rfl rfl rfl rfl).2 _ _ _).1 (Or.inl _)) :=
  ((h.2.1 (workSt 0x0B [(8, 0x200000041), (0x18, 64)] unitSt) 5 _ _ _ (rd 0x0B [(8, 0x200000041), (0x18, 64)]) _ (by decide +kernel) rfl rfl rfl rfl).2 (by decide +kernel) (by decide +kernel) (by decide +kernel)).1 (Or.inl (by decide +kernel))

theorem wit_c_dst (h : Obligations.DescriptorsSent) : type_of% ((((h.2.1 (workSt 0x0B [(8, 0x200000040), (0x10, 0x100000000041), (0x18, 64)] unitSt) 5 _ _ _ (rd 0x0B [(8, 0x200000040), (0x10, 0x100000000041), (0x18, 64)]) _ _ rfl rfl rfl rfl).2 _ _ _).2 _ _ _).1 (Or.inl _)) :=
  (((h.2.1 (workSt 0x0B [(8, 0x200000040), (0x10, 0x100000000041), (0x18, 64)] unitSt) 5 _ _ _ (rd 0x0B [(8, 0x200000040), (0x10, 0x100000000041), (0x18, 64)]) _ (by decide +kernel) rfl rfl rfl rfl).2 (by decide +kernel) (by decide +kernel) (by decide +kernel)).2 (by decide +kernel) (by decide +kernel) (by decide +kernel)).1 (Or.inl (by decide +kernel))

theorem wit_c_host (h : Obligations.DescriptorsSent) : type_of% ((((h.2.1 (workSt 0x0B [(8, 0x100000000040), (0x10, 0x100000000040), (0x18, 64)] unitSt) 5 _ _ _ (rd 0x0B [(8, 0x100000000040), (0x10, 0x100000000040), (0x18, 64)]) _ _ rfl rfl rfl rfl).2 _ _ _).2 _ _ _).1 (Or.inr (Or.inr (Or.inr _)))) :=
  (((h.2.1 (workSt 0x0B [(8, 0x100000000040), (0x10, 0x100000000040), (0x18, 64)] unitSt) 5 _ _ _ (rd 0x0B [(8, 0x100000000040), (0x10, 0x100000000040), (0x18, 64)]) _ (by decide +kernel) rfl rfl rfl rfl).2 (by decide +kernel) (by decide +kernel) (by decide +kernel)).2 (by decide +kernel) (by decide +kernel) (by decide +kernel)).1 (Or.inr (Or.inr (Or.inr (by decide +kernel))))

theorem wit_c_full (h : Obligations.DescriptorsSent) : type_of% (((((h.2.1 (workSt 0x0B cpy (fullCopy unitSt)) 5 _ _ _ (rd 0x0B cpy) _ _ rfl rfl rfl rfl).2 _ _ _).2 _ _ _).2 _ _ _ _).1 _) :=
  ((((h.2.1 (workSt 0x0B cpy (fullCopy unitSt)) 5 _ _ _ (rd 0x0B cpy) _ (by decide +kernel) rfl rfl rfl rfl).2 (by decide +kernel) (by decide +kernel) (by decide +kernel)).2 (by decide +kernel) (by decide +kernel) (by decide +kernel)).2 (by decide +kernel) (by decide +kernel) (by decide +kernel) (by decide +kernel)).1 (by decide +kernel)

theorem wit_c_starts (h : Obligations.DescriptorsSent) : type_of% (((((h.2.1 (workSt 0x0B cpy unitSt) 5 _ _ _ (rd 0x0B cpy) _ _ rfl rfl rfl rfl).2 _ _ _).2 _ _ _).2 _ _ _ _).2 _) :=
  ((((h.2.1 (workSt 0x0B cpy unitSt) 5 _ _ _ (rd 0x0B cpy) _ (by decide +kernel) rfl rfl rfl rfl).2 (by decide +kernel) (by decide +kernel) (by decide +kernel)).2 (by decide +kernel) (by decide +kernel) (by decide +kernel)).2 (by decide +kernel) (by decide +kernel) (by decide +kernel) (by decide +kernel)).2 (by decide +kernel)

theorem wit_c_waits (h : Obligations.DescriptorsSent) : type_of% ((h.2.2.1 (copying cpy 1 0 1) 0 5 3 [] { rd 0x0B cpy 2 with next := 1, done := 0 } _ _ _ _).1 _) :=
  (h.2.2.1 (copying cpy 1 0 1) 0 5 3 [] { rd 0x0B cpy 2 with next := 1, done := 0 } (by decide +kernel) (by decide +kernel) (by decide +kernel) (by decide +kernel)).1 (by decide +kernel)

theorem wit_c_kick (h : Obligations.DescriptorsSent) : type_of% ((h.2.2.1 (copying cpy 0 0 0) 0 5 3 [] { rd 0x0B cpy 2 with next := 0, done := 0 } _ _ _ _).2 _ _ (pair_of _)) :=
  (h.2.2.1 (copying cpy 0 0 0) 0 5 3 [] { rd 0x0B cpy 2 with next := 0, done := 0 } (by decide +kernel) (by decide +kernel) (by decide +kernel) (by decide +kernel)).2 _ (by decide +kernel) (pair_of (by decide +kernel))

theorem wit_c_read (h : Obligations.DescriptorsSent) : type_of% ((h.2.2.2.1 (copying cpy 1 0 0) 5 (rd 0x0B cpy 2)).1 0x2CD { space := 1, off := 0x100040 } _) :=
  (h.2.2.2.1 (copying cpy 1 0 0) 5 (rd 0x0B cpy 2)).1 0x2CD { space := 1, off := 0x100040 } (by decide +kernel)

theorem wit_c_read_none (h : Obligations.DescriptorsSent) : type_of% ((h.2.2.2.1 (copying [(8, 0x200400040)] 1 0 0) 5 (rd 0x0B [(8, 0x200400040)] 2)).2 _) :=
  (h.2.2.2.1 (copying [(8, 0x200400040)] 1 0 0) 5 (rd 0x0B [(8, 0x200400040)] 2)).2 (by decide +kernel)

theorem wit_c_to_tile (h : Obligations.DescriptorsSent) : type_of% ((h.2.2.2.2.1 (copying cpyTile 1 0 1) 5 3 0 0 _ (leBytes 64 5) { rd 0x0B cpyTile 2 with next := 1 } _ _ rfl rfl 6 { space := 0, slot := 0, gen := 1, vtile := 2, off := 0x40 } _).1 _) :=
  (h.2.2.2.2.1 (copying cpyTile 1 0 1) 5 3 0 0 _ (leBytes 64 5) { rd 0x0B cpyTile 2 with next := 1 } _ (by decide +kernel) rfl rfl 6 { space := 0, slot := 0, gen := 1, vtile := 2, off := 0x40 } (by decide +kernel)).1 (by decide +kernel)

theorem wit_c_to_stand (h : Obligations.DescriptorsSent) : type_of% ((h.2.2.2.2.1 (copying cpyIn 1 0 1) 5 3 0 0 _ (leBytes 64 5) { rd 0x0B cpyIn 2 with next := 1 } _ _ rfl rfl 0x2CD { space := 1, off := 0x100040 } _).2.1 _) :=
  (h.2.2.2.2.1 (copying cpyIn 1 0 1) 5 3 0 0 _ (leBytes 64 5) { rd 0x0B cpyIn 2 with next := 1 } _ (by decide +kernel) rfl rfl 0x2CD { space := 1, off := 0x100040 } (by decide +kernel)).2.1 (by decide +kernel)

theorem wit_c_to_host (h : Obligations.DescriptorsSent) : type_of% ((h.2.2.2.2.1 (copying cpy 1 0 1) 5 3 0 0 _ (leBytes 64 5) { rd 0x0B cpy 2 with next := 1 } _ _ rfl rfl (homeUnit p1 1) { space := 2, off := 0x40 } _).2.2 _) :=
  (h.2.2.2.2.1 (copying cpy 1 0 1) 5 3 0 0 _ (leBytes 64 5) { rd 0x0B cpy 2 with next := 1 } _ (by decide +kernel) rfl rfl (homeUnit p1 1) { space := 2, off := 0x40 } (by decide +kernel)).2.2 (by decide +kernel)

theorem wit_c_done (h : Obligations.DescriptorsSent) : type_of% (h.2.2.2.2.2.1 (copying cpy 1 1 2) 5 3 { rd 0x0B cpy 2 with next := 2, done := 1 } _ _ rfl _ _) :=
  h.2.2.2.2.2.1 (copying cpy 1 1 2) 5 3 { rd 0x0B cpy 2 with next := 2, done := 1 } _ (by decide +kernel) rfl (by decide +kernel) (by decide +kernel)

theorem wit_l_field (h : Obligations.DescriptorsSent) : type_of% ((h.2.2.2.2.2.2.1 (workSt 0x10 [(8, 6), (0xC, 2)] p1) 5 _ (rd 0x10 [(8, 6), (0xC, 2)]) _ rfl).1 0xC _) :=
  (h.2.2.2.2.2.2.1 (workSt 0x10 [(8, 6), (0xC, 2)] p1) 5 _ (rd 0x10 [(8, 6), (0xC, 2)]) (by decide +kernel) rfl).1 0xC (by decide +kernel)

theorem wit_l_testing (h : Obligations.DescriptorsSent) : type_of% (((h.2.2.2.2.2.2.1 (workSt 0x10 lcode (modTile p1 6 (fun t => { t with testing := true }))) 5 _ (rd 0x10 lcode) _ rfl).2 _ _ _ _ _ _).1 _) :=
  ((h.2.2.2.2.2.2.1 (workSt 0x10 lcode (modTile p1 6 (fun t => { t with testing := true }))) 5 _ (rd 0x10 lcode) (by decide +kernel) rfl).2 (by decide +kernel) (by decide +kernel) (by decide +kernel) (by decide +kernel) (by decide +kernel) (by decide +kernel)).1 (by decide +kernel)

theorem wit_l_busy (h : Obligations.DescriptorsSent) : type_of% (((h.2.2.2.2.2.2.1 (workSt 0x10 lcode (modTile p1 6 (fun t => { t with thread := { t.thread with running := true } }))) 5 _ (rd 0x10 lcode) _ rfl).2 _ _ _ _ _ _).2.1 _ _) :=
  ((h.2.2.2.2.2.2.1 (workSt 0x10 lcode (modTile p1 6 (fun t => { t with thread := { t.thread with running := true } }))) 5 _ (rd 0x10 lcode) (by decide +kernel) rfl).2 (by decide +kernel) (by decide +kernel) (by decide +kernel) (by decide +kernel) (by decide +kernel) (by decide +kernel)).2.1 (by decide +kernel) (by decide +kernel)

theorem wit_l_starts (h : Obligations.DescriptorsSent) : type_of% (((h.2.2.2.2.2.2.1 (workSt 0x10 lcode p1) 5 _ (rd 0x10 lcode) _ rfl).2 _ _ _ _ _ _).2.2 _ _) :=
  ((h.2.2.2.2.2.2.1 (workSt 0x10 lcode p1) 5 _ (rd 0x10 lcode) (by decide +kernel) rfl).2 (by decide +kernel) (by decide +kernel) (by decide +kernel) (by decide +kernel) (by decide +kernel) (by decide +kernel)).2.2 (by decide +kernel) (by decide +kernel)

theorem wit_l_kick (h : Obligations.DescriptorsSent) : type_of% (h.2.2.2.2.2.2.2.1 (loading lcode 0 0) 5 3 (rd 0x10 lcode 2) _ _) :=
  h.2.2.2.2.2.2.2.1 (loading lcode 0 0) 5 3 (rd 0x10 lcode 2) (by decide +kernel) (by decide +kernel)

theorem wit_l_data (h : Obligations.DescriptorsSent) : type_of% (h.2.2.2.2.2.2.2.2 (loading lcode2 2 2) 5 3 0 (leBytes 64 7) { rd 0x10 lcode2 2 with next := 2, left := 2 } _ _ _) :=
  h.2.2.2.2.2.2.2.2 (loading lcode2 2 2) 5 3 0 (leBytes 64 7) { rd 0x10 lcode2 2 with next := 2, left := 2 } (by decide +kernel) (by decide +kernel) (by decide +kernel)

/-! ### Witnesses: CustodyStages -/

theorem wit_st_form (h : Obligations.CustodyStages) : type_of% ((h.1.1 (cus []) 0 4 _ rec1 binds1 _ rfl).1 _) :=
  (h.1.1 (cus []) 0 4 _ rec1 binds1 (by decide +kernel) rfl).1 (by decide +kernel)

theorem wit_st_party (h : Obligations.CustodyStages) : type_of% (((h.1.1 (cus []) 1 0 _ rec1 binds1 _ rfl).2 _).1 _ _) :=
  ((h.1.1 (cus []) 1 0 _ rec1 binds1 (by decide +kernel) rfl).2 (by decide +kernel)).1 (by decide +kernel) (by decide +kernel)

theorem wit_st_safe (h : Obligations.CustodyStages) : type_of% ((((h.1.1 (cusSafe []) 0 0 _ rec1 binds1 _ rfl).2 _).2 (Or.inl _)).1 _) :=
  (((h.1.1 (cusSafe []) 0 0 _ rec1 binds1 (by decide +kernel) rfl).2 (by decide +kernel)).2 (Or.inl (by decide +kernel))).1 (by decide +kernel)

theorem wit_st_off (h : Obligations.CustodyStages) : type_of% ((((h.1.1 cusOff 0 0 _ rec1 binds1 _ rfl).2 _).2 (Or.inl _)).2.1 _ _) :=
  (((h.1.1 cusOff 0 0 _ rec1 binds1 (by decide +kernel) rfl).2 (by decide +kernel)).2 (Or.inl (by decide +kernel))).2.1 (by decide +kernel) (by decide +kernel)

theorem wit_st_full (h : Obligations.CustodyStages) : type_of% ((((h.1.1 (cus [stg]) 0 0 _ rec1 binds1 _ rfl).2 _).2 (Or.inl _)).2.2.1 _ _ _) :=
  (((h.1.1 (cus [stg]) 0 0 _ rec1 binds1 (by decide +kernel) rfl).2 (by decide +kernel)).2 (Or.inl (by decide +kernel))).2.2.1 (by decide +kernel) (by decide +kernel) (by decide +kernel)

theorem wit_st_open (h : Obligations.CustodyStages) : type_of% ((((h.1.1 (cus []) 0 0 _ rec1 binds1 _ rfl).2 _).2 (Or.inl _)).2.2.2 _ _ _ _ _ rfl rfl) :=
  (((h.1.1 (cus []) 0 0 _ rec1 binds1 (by decide +kernel) rfl).2 (by decide +kernel)).2 (Or.inl (by decide +kernel))).2.2.2 (by decide +kernel) (by decide +kernel) (by decide +kernel) _ _ rfl rfl

theorem wit_st_open_replace (h : Obligations.CustodyStages) : type_of% ((((h.1.1 { cus [] with clr := { (cus []).clr with mode := .configuration } } 1 2 _ (keyRec 0) [] _ rfl).2 _).2 (Or.inr _)).2.2.2 _ _ _ _ _ rfl rfl) :=
  (((h.1.1 { cus [] with clr := { (cus []).clr with mode := .configuration } } 1 2 _ (keyRec 0) [] (by decide +kernel) rfl).2 (by decide +kernel)).2 (Or.inr (by decide +kernel))).2.2.2 (by decide +kernel) (by decide +kernel) (by decide +kernel) _ _ rfl rfl

theorem wit_sg_fm (h : Obligations.CustodyStages) : type_of% ((h.1.2.1 (cus [stg]) 7 [fmSig] _).1) :=
  (h.1.2.1 (cus [stg]) 7 [fmSig] (by decide +kernel)).1

theorem wit_sg_sign_other (h : Obligations.CustodyStages) : type_of% ((h.1.2.1 (cus [stg]) 7 [fmSig] _).2.2.1 1 _) :=
  (h.1.2.1 (cus [stg]) 7 [fmSig] (by decide +kernel)).2.2.1 1 (by decide +kernel)

theorem wit_sg_counter_other (h : Obligations.CustodyStages) : type_of% ((h.1.2.1 (cus [stg]) 7 [fmSig] _).2.2.2 0 _) :=
  (h.1.2.1 (cus [stg]) 7 [fmSig] (by decide +kernel)).2.2.2 0 (by decide +kernel)

theorem wit_sg_none (h : Obligations.CustodyStages) : type_of% ((h.1.2.2.1 (cus []) 0 7 [fmSig] _).1 _) :=
  (h.1.2.2.1 (cus []) 0 7 [fmSig] (by decide +kernel)).1 (by decide +kernel)

theorem wit_sg_count (h : Obligations.CustodyStages) : type_of% ((h.1.2.2.1 (cus [stg]) 0 7 [] _).2.1 _ _ _) :=
  (h.1.2.2.1 (cus [stg]) 0 7 [] (by decide +kernel)).2.1 (by decide +kernel) (by decide +kernel) (by decide +kernel)

theorem wit_sg_one (h : Obligations.CustodyStages) : type_of% (((h.1.2.2.1 (cus [{ stg with fmOk := true }]) 0 7 [] _).2.2 fmSig _ true _ (pair_of _)).1 _) :=
  ((h.1.2.2.1 (cus [{ stg with fmOk := true }]) 0 7 [] (by decide +kernel)).2.2 fmSig _ true (by decide +kernel) (pair_of (by decide +kernel))).1 (by decide +kernel)

theorem wit_sg_one_bad (h : Obligations.CustodyStages) : type_of% (((h.1.2.2.1 (cus [stg]) 0 7 [] _).2.2 [] _ false _ (pair_of _)).2.1 _) :=
  ((h.1.2.2.1 (cus [stg]) 0 7 [] (by decide +kernel)).2.2 [] _ false (by decide +kernel) (pair_of (by decide +kernel))).2.1 (by decide +kernel)

theorem wit_sg_two (h : Obligations.CustodyStages) : type_of% ((((h.1.2.2.1 (cus [{ stgRot with fmOk := true, newOk := true }]) 0 7 [] _).2.2 fmSig _ true _ (pair_of _)).2.2 fmSig _ true (pair_of _)).1 _ _) :=
  (((h.1.2.2.1 (cus [{ stgRot with fmOk := true, newOk := true }]) 0 7 [] (by decide +kernel)).2.2 fmSig _ true (by decide +kernel) (pair_of (by decide +kernel))).2.2 fmSig _ true (pair_of (by decide +kernel))).1 (by decide +kernel) (by decide +kernel)

theorem wit_sg_two_bad (h : Obligations.CustodyStages) : type_of% ((((h.1.2.2.1 (cus [{ stgRot with fmOk := true }]) 0 7 [] _).2.2 fmSig _ true _ (pair_of _)).2.2 [] _ false (pair_of _)).2 (Or.inr _)) :=
  (((h.1.2.2.1 (cus [{ stgRot with fmOk := true }]) 0 7 [] (by decide +kernel)).2.2 fmSig _ true (by decide +kernel) (pair_of (by decide +kernel))).2.2 [] _ false (pair_of (by decide +kernel))).2 (Or.inr (by decide +kernel))

theorem wit_sg_again (h : Obligations.CustodyStages) : type_of% ((h.1.2.2.2.1 (cus [{ stg with fmOk := true }]) { stg with fmOk := true } 0 fmSig _ _).1 _) :=
  (h.1.2.2.2.1 (cus [{ stg with fmOk := true }]) { stg with fmOk := true } 0 fmSig (by decide +kernel) (by decide +kernel)).1 (by decide +kernel)

theorem wit_sg_by_fm (h : Obligations.CustodyStages) : type_of% ((((h.1.2.2.2.1 (cus [stg]) stg 0 fmSig _ _).2.1 _).1 _).1 _) :=
  (((h.1.2.2.2.1 (cus [stg]) stg 0 fmSig (by decide +kernel) (by decide +kernel)).2.1 (by decide +kernel)).1 (by decide +kernel)).1 (by decide +kernel)

theorem wit_sg_by_pc (h : Obligations.CustodyStages) : type_of% ((((h.1.2.2.2.1 (cus [stg]) stg 1 pcSig _ _).2.1 _).1 _).2 _) :=
  (((h.1.2.2.2.1 (cus [stg]) stg 1 pcSig (by decide +kernel) (by decide +kernel)).2.1 (by decide +kernel)).1 (by decide +kernel)).2 (by decide +kernel)

theorem wit_sg_bad (h : Obligations.CustodyStages) : type_of% (((h.1.2.2.2.1 (cus [stg]) stg 0 pcSig _ _).2.1 _).2 _) :=
  ((h.1.2.2.2.1 (cus [stg]) stg 0 pcSig (by decide +kernel) (by decide +kernel)).2.1 (by decide +kernel)).2 (by decide +kernel)

theorem wit_sg_new_again (h : Obligations.CustodyStages) : type_of% ((h.1.2.2.2.1 (cus [{ stgRot with newOk := true }]) { stgRot with newOk := true } 0 [] _ _).2.2.1 _) :=
  (h.1.2.2.2.1 (cus [{ stgRot with newOk := true }]) { stgRot with newOk := true } 0 [] (by decide +kernel) (by decide +kernel)).2.2.1 (by decide +kernel)

theorem wit_sg_new (h : Obligations.CustodyStages) : type_of% (((h.1.2.2.2.1 (cus [stgRot]) stgRot 0 fmSig _ _).2.2.2 _).1 _ _ _) :=
  ((h.1.2.2.2.1 (cus [stgRot]) stgRot 0 fmSig (by decide +kernel) (by decide +kernel)).2.2.2 (by decide +kernel)).1 (by decide +kernel) (by decide +kernel) (by decide +kernel)

theorem wit_sg_new_bad (h : Obligations.CustodyStages) : type_of% (((h.1.2.2.2.1 (cus [stgRot]) stgRot 0 [] _ _).2.2.2 _).2 (Or.inl _)) :=
  ((h.1.2.2.2.1 (cus [stgRot]) stgRot 0 [] (by decide +kernel) (by decide +kernel)).2.2.2 (by decide +kernel)).2 (Or.inl (by decide +kernel))

theorem wit_sg_new_role (h : Obligations.CustodyStages) : type_of% (((h.1.2.2.2.1 (cus [stgRot]) stgRot 1 [] _ _).2.2.2 _).2 (Or.inr (Or.inr _))) :=
  ((h.1.2.2.2.1 (cus [stgRot]) stgRot 1 [] (by decide +kernel) (by decide +kernel)).2.2.2 (by decide +kernel)).2 (Or.inr (Or.inr (by decide +kernel)))

theorem wit_sg_order (h : Obligations.CustodyStages) : type_of% ((h.1.2.2.2.2 (cus [stg]) { stg with fmOk := true, pcOk := true }).1 _ _) :=
  (h.1.2.2.2.2 (cus [stg]) { stg with fmOk := true, pcOk := true }).1 (by decide +kernel) (by decide +kernel)

theorem wit_sg_no_order (h : Obligations.CustodyStages) : type_of% ((h.1.2.2.2.2 (cus [stg]) stg).2.1 (Or.inl _)) :=
  (h.1.2.2.2.2 (cus [stg]) stg).2.1 (Or.inl (by decide +kernel))

theorem wit_sg_needs_two (h : Obligations.CustodyStages) : type_of% ((h.1.2.2.2.2 up stg).2.2.1 (Or.inl _)) :=
  (h.1.2.2.2.2 up stg).2.2.1 (Or.inl (by decide +kernel))

theorem wit_sg_needs_new (h : Obligations.CustodyStages) : type_of% ((h.1.2.2.2.2 up stgRot).2.2.2.1 _) :=
  (h.1.2.2.2.2 up stgRot).2.2.2.1 (by decide +kernel)

theorem wit_sg_needs_one (h : Obligations.CustodyStages) : type_of% ((h.1.2.2.2.2 up stgRepl).2.2.2.2 _) :=
  (h.1.2.2.2.2 up stgRepl).2.2.2.2 (by decide +kernel)

theorem wit_ck_safe (h : Obligations.CustodyStages) : type_of% ((h.2.1.1 (cusSafe [stg]) stg).1 _) :=
  (h.2.1.1 (cusSafe [stg]) stg).1 (by decide +kernel)

theorem wit_ck_base (h : Obligations.CustodyStages) : type_of% ((h.2.1.1 (cus []) { stg with base := 1 }).2.1 _ _) :=
  (h.2.1.1 (cus []) { stg with base := 1 }).2.1 (by decide +kernel) (by decide +kernel)

theorem wit_ck_epoch (h : Obligations.CustodyStages) : type_of% ((h.2.1.1 (cus []) { stg with epoch := 3 }).2.2.1 _ _ _) :=
  (h.2.1.1 (cus []) { stg with epoch := 3 }).2.2.1 (by decide +kernel) (by decide +kernel) (by decide +kernel)

theorem wit_ck_key (h : Obligations.CustodyStages) : type_of% (((h.2.1.1 (cus []) stgRot).2.2.2 _ _ _).1 _) :=
  ((h.2.1.1 (cus []) stgRot).2.2.2 (by decide +kernel) (by decide +kernel) (by decide +kernel)).1 (by decide +kernel)

theorem wit_ck_removal (h : Obligations.CustodyStages) : type_of% (((h.2.1.1 (cus []) stgOff).2.2.2 _ _ _).2.1 _ _) :=
  ((h.2.1.1 (cus []) stgOff).2.2.2 (by decide +kernel) (by decide +kernel) (by decide +kernel)).2.1 (by decide +kernel) (by decide +kernel)

theorem wit_ck_create (h : Obligations.CustodyStages) : type_of% (((h.2.1.1 (cus []) stg).2.2.2 _ _ _).2.2 _ _) :=
  ((h.2.1.1 (cus []) stg).2.2.2 (by decide +kernel) (by decide +kernel) (by decide +kernel)).2.2 (by decide +kernel) (by decide +kernel)

theorem wit_ck_reason (h : Obligations.CustodyStages) : type_of% (h.2.1.2.2.1 12 0x15 _) :=
  h.2.1.2.2.1 12 0x15 (by decide +kernel)

theorem wit_pr_refused (h : Obligations.CustodyStages) : type_of% ((h.2.2.1.1 (cus [{ stgSigned with epoch := 3 }]) { stgSigned with epoch := 3 } _ _ _).1 9 _) :=
  (h.2.2.1.1 (cus [{ stgSigned with epoch := 3 }]) { stgSigned with epoch := 3 } (by decide +kernel) (by decide +kernel) (by decide +kernel)).1 9 (by decide +kernel)

theorem wit_pr_key (h : Obligations.CustodyStages) : type_of% ((h.2.2.1.1 relArmed stgRel _ _ _).2.1 _ _) :=
  (h.2.2.1.1 relArmed stgRel (by decide +kernel) (by decide +kernel) (by decide +kernel)).2.1 (by decide +kernel) (by decide +kernel)

theorem wit_pr_waits (h : Obligations.CustodyStages) : type_of% ((h.2.2.1.1 (cus [stgSigned]) stgSigned _ _ _).2.2 _ _) :=
  (h.2.2.1.1 (cus [stgSigned]) stgSigned (by decide +kernel) (by decide +kernel) (by decide +kernel)).2.2 (by decide +kernel) (by decide +kernel)

theorem wit_pr_next (h : Obligations.CustodyStages) : type_of% (((h.2.2.1.2.1 (cus [stgSigned]) stgSigned _).2.2 stgSigned _).2 _) :=
  ((h.2.2.1.2.1 (cus [stgSigned]) stgSigned (by decide +kernel)).2.2 stgSigned (by decide +kernel)).2 (by decide +kernel)

theorem wit_pr_apply_refused (h : Obligations.CustodyStages) : type_of% ((h.2.2.1.2.2.1 (cus [{ stgWait with epoch := 3 }]) { stgWait with epoch := 3 } _ _ _).1 9 _) :=
  (h.2.2.1.2.2.1 (cus [{ stgWait with epoch := 3 }]) { stgWait with epoch := 3 } (by decide +kernel) (by decide +kernel) (by decide +kernel)).1 9 (by decide +kernel)

theorem wit_pr_apply (h : Obligations.CustodyStages) : type_of% (((h.2.2.1.2.2.1 (cus [stgWait]) stgWait _ _ _).2 _).1 _) :=
  ((h.2.2.1.2.2.1 (cus [stgWait]) stgWait (by decide +kernel) (by decide +kernel) (by decide +kernel)).2 (by decide +kernel)).1 (by decide +kernel)

theorem wit_pr_apply_key (h : Obligations.CustodyStages) : type_of% (((h.2.2.1.2.2.1 (cus [stgKey]) stgKey _ _ _).2 _).2 _) :=
  ((h.2.2.1.2.2.1 (cus [stgKey]) stgKey (by decide +kernel) (by decide +kernel) (by decide +kernel)).2 (by decide +kernel)).2 (by decide +kernel)

theorem wit_pr_settle_waits (h : Obligations.CustodyStages) : type_of% ((h.2.2.1.2.2.2.1 ackedSt stgApply _).1 _ ⟨(5, some 7), _, _, _⟩) :=
  (h.2.2.1.2.2.2.1 ackedSt stgApply (by decide +kernel)).1 (by decide +kernel) ⟨(5, some 7), (by decide +kernel), (by decide +kernel), (by decide +kernel)⟩

theorem wit_pr_settle (h : Obligations.CustodyStages) : type_of% (((h.2.2.1.2.2.2.1 (cus [stgApply]) stgApply _).2 (Or.inr _)).1 (Or.inr _)) :=
  ((h.2.2.1.2.2.2.1 (cus [stgApply]) stgApply (by decide +kernel)).2 (Or.inr (by decide +kernel))).1 (Or.inr (by decide +kernel))

theorem wit_pr_settle_bound (h : Obligations.CustodyStages) : type_of% (((h.2.2.1.2.2.2.1 nearBound stgApply _).2 (Or.inr _)).2 _ _ _) :=
  ((h.2.2.1.2.2.2.1 nearBound stgApply (by decide +kernel)).2 (Or.inr (by decide +kernel))).2 (by decide +kernel) (by decide +kernel) (by decide +kernel)

theorem wit_pr_ack (h : Obligations.CustodyStages) : type_of% ((h.2.2.1.2.2.2.2.1 ackedSt 5 1 _ _ _ rfl _).1 (5, some 7) _) :=
  (h.2.2.1.2.2.2.2.1 ackedSt 5 1 _ (by decide +kernel) (by decide +kernel) rfl (by decide +kernel)).1 (5, some 7) (by decide +kernel)

theorem wit_pr_ack_stray (h : Obligations.CustodyStages) : type_of% ((h.2.2.1.2.2.2.2.1 ackedSt 6 1 _ _ _ rfl _).2 _) :=
  (h.2.2.1.2.2.2.2.1 ackedSt 6 1 _ (by decide +kernel) (by decide +kernel) rfl (by decide +kernel)).2 (by decide +kernel)

theorem wit_pr_ack_late (h : Obligations.CustodyStages) : type_of% (h.2.2.1.2.2.2.2.2.1 (atTime 300000 ackedSt) stgApply _ _ _ rfl _ _) :=
  h.2.2.1.2.2.2.2.2.1 (atTime 300000 ackedSt) stgApply _ (by decide +kernel) (by decide +kernel) rfl (by decide +kernel) (by decide +kernel)

theorem wit_pr_quiesce (h : Obligations.CustodyStages) : type_of% ((h.2.2.1.2.2.2.2.2.2.1 (atTime 5000000000 busyWait) { stgWait with held := [5] } _ _).1 _ _ _) :=
  (h.2.2.1.2.2.2.2.2.2.1 (atTime 5000000000 busyWait) { stgWait with held := [5] } (by decide +kernel) (by decide +kernel)).1 (by decide +kernel) (by decide +kernel) (by decide +kernel)

theorem wit_pr_stage_time (h : Obligations.CustodyStages) : type_of% ((h.2.2.1.2.2.2.2.2.2.1 (atTime 50000000000 (cus [stg])) stg _ _).2 _ _ _) :=
  (h.2.2.1.2.2.2.2.2.2.1 (atTime 50000000000 (cus [stg])) stg (by decide +kernel) (by decide +kernel)).2 (by decide +kernel) (by decide +kernel) (by decide +kernel)

theorem wit_ab_none (h : Obligations.CustodyStages) : type_of% ((h.2.2.1.2.2.2.2.2.2.2 (cus []) 1 7 _).1 _) :=
  (h.2.2.1.2.2.2.2.2.2.2 (cus []) 1 7 (by decide +kernel)).1 (by decide +kernel)

theorem wit_ab_apply (h : Obligations.CustodyStages) : type_of% ((h.2.2.1.2.2.2.2.2.2.2 (cus [stgApply]) 1 7 _).2.1 stgApply _ _) :=
  (h.2.2.1.2.2.2.2.2.2.2 (cus [stgApply]) 1 7 (by decide +kernel)).2.1 stgApply (by decide +kernel) (by decide +kernel)

theorem wit_ab_abort (h : Obligations.CustodyStages) : type_of% ((h.2.2.1.2.2.2.2.2.2.2 (cus [stg]) 1 7 _).2.2 stg _ _ _ _ rfl) :=
  (h.2.2.1.2.2.2.2.2.2.2 (cus [stg]) 1 7 (by decide +kernel)).2.2 stg _ _ (by decide +kernel) (by decide +kernel) rfl

theorem wit_ef_cache (h : Obligations.CustodyStages) : type_of% ((h.2.2.2.2.1 cachedTile 1).2.2.2.2.1 { part := 2, vt := 7, unit := 9, slot := 2, gen := 4 } _) :=
  (h.2.2.2.2.1 cachedTile 1).2.2.2.2.1 { part := 2, vt := 7, unit := 9, slot := 2, gen := 4 } (by decide +kernel)

theorem wit_ef_apply (h : Obligations.CustodyStages) : type_of% (h.2.2.2.2.2.2.1 (cus [stgWait]) stgWait _) :=
  h.2.2.2.2.2.2.1 (cus [stgWait]) stgWait (by decide +kernel)

theorem wit_ef_part (h : Obligations.CustodyStages) : type_of% ((h.2.2.2.2.2.2.2 (cus [stgApply]) _ stgApply rfl).2.2.2.2.1 _) :=
  (h.2.2.2.2.2.2.2 (cus [stgApply]) _ stgApply rfl).2.2.2.2.1 (by decide +kernel)

theorem wit_ef_others (h : Obligations.CustodyStages) : type_of% ((h.2.2.2.2.2.2.2 (cus [stgKey]) _ stgKey rfl).2.2.2.2.2.1 _) :=
  (h.2.2.2.2.2.2.2 (cus [stgKey]) _ stgKey rfl).2.2.2.2.2.1 (by decide +kernel)

theorem wit_ef_rotate (h : Obligations.CustodyStages) : type_of% (((h.2.2.2.2.2.2.2 (cus [stgKey]) _ stgKey rfl).2.2.2.2.2.2.1 _).2 0 _) :=
  ((h.2.2.2.2.2.2.2 (cus [stgKey]) _ stgKey rfl).2.2.2.2.2.2.1 (by decide +kernel)).2 0 (by decide +kernel)

theorem wit_ef_replace (h : Obligations.CustodyStages) : type_of% ((h.2.2.2.2.2.2.2 (cus [stgRepl]) _ stgRepl rfl).2.2.2.2.2.2.2.1 _) :=
  (h.2.2.2.2.2.2.2 (cus [stgRepl]) _ stgRepl rfl).2.2.2.2.2.2.2.1 (by decide +kernel)

theorem wit_ef_release (h : Obligations.CustodyStages) : type_of% ((h.2.2.2.2.2.2.2 (cus [stgRel]) _ stgRel rfl).2.2.2.2.2.2.2.2 _) :=
  (h.2.2.2.2.2.2.2 (cus [stgRel]) _ stgRel rfl).2.2.2.2.2.2.2.2 (by decide +kernel)

/-! ### Witnesses: CustodyPartiesAndKeys -/

theorem wit_pa_range (h : Obligations.CustodyPartiesAndKeys) : type_of% ((h.1.1 (partSt 2) 16 1 _).1 _) :=
  (h.1.1 (partSt 2) 16 1 (by decide +kernel)).1 (by decide +kernel)

theorem wit_pa_arm (h : Obligations.CustodyPartiesAndKeys) : type_of% (((h.1.1 (partSt 2) 1 1 _).2.1 _).1 _ _) :=
  ((h.1.1 (partSt 2) 1 1 (by decide +kernel)).2.1 (by decide +kernel)).1 (by decide +kernel) (by decide +kernel)

theorem wit_pa_arm_digest (h : Obligations.CustodyPartiesAndKeys) : type_of% (((h.1.1 (partSt 2) 1 2 _).2.1 _).2.1 (Or.inr _)) :=
  ((h.1.1 (partSt 2) 1 2 (by decide +kernel)).2.1 (by decide +kernel)).2.1 (Or.inr (by decide +kernel))

theorem wit_pa_arm_state (h : Obligations.CustodyPartiesAndKeys) : type_of% (((h.1.1 (partSt 1) 1 1 _).2.1 _).2.1 (Or.inl _)) :=
  ((h.1.1 (partSt 1) 1 1 (by decide +kernel)).2.1 (by decide +kernel)).2.1 (Or.inl (by decide +kernel))

theorem wit_pa_disarm_safe (h : Obligations.CustodyPartiesAndKeys) : type_of% (((h.1.1 (partSafe 1) 1 1 _).2.1 _).2.2.1 _) :=
  ((h.1.1 (partSafe 1) 1 1 (by decide +kernel)).2.1 (by decide +kernel)).2.2.1 (by decide +kernel)

theorem wit_pa_disarm (h : Obligations.CustodyPartiesAndKeys) : type_of% (((h.1.1 (partSt 1) 1 1 _).2.1 _).2.2.2.1 _ _) :=
  ((h.1.1 (partSt 1) 1 1 (by decide +kernel)).2.1 (by decide +kernel)).2.2.2.1 (by decide +kernel) (by decide +kernel)

theorem wit_pa_disarm_state (h : Obligations.CustodyPartiesAndKeys) : type_of% (((h.1.1 (partSt 2) 1 1 _).2.1 _).2.2.2.2 _ _) :=
  ((h.1.1 (partSt 2) 1 1 (by decide +kernel)).2.1 (by decide +kernel)).2.2.2.2 (by decide +kernel) (by decide +kernel)

theorem wit_pa_other (h : Obligations.CustodyPartiesAndKeys) : type_of% ((h.1.1 (partSt 2) 1 1 _).2.2.1 1 _) :=
  (h.1.1 (partSt 2) 1 1 (by decide +kernel)).2.2.1 1 (by decide +kernel)

theorem wit_pa_query (h : Obligations.CustodyPartiesAndKeys) : type_of% (h.1.2.1 (partSt 1) 1 _) :=
  h.1.2.1 (partSt 1) 1 (by decide +kernel)

theorem wit_pa_forbidden (h : Obligations.CustodyPartiesAndKeys) : type_of% ((h.1.2.2.1 (partSt 1) { party := 1, forbidden := true } _ _).1 _) :=
  (h.1.2.2.1 (partSt 1) { party := 1, forbidden := true } (by decide +kernel) (by decide +kernel)).1 (by decide +kernel)

theorem wit_pa_invalid (h : Obligations.CustodyPartiesAndKeys) : type_of% ((h.1.2.2.1 (partSt 1) { party := 1, forbidden := false } _ _).2 _) :=
  (h.1.2.2.1 (partSt 1) { party := 1, forbidden := false } (by decide +kernel) (by decide +kernel)).2 (by decide +kernel)

theorem wit_en_key (h : Obligations.CustodyPartiesAndKeys) : type_of% ((h.1.2.2.2.1 (bare none) 0 hashB [] _).1 _) :=
  (h.1.2.2.2.1 (bare none) 0 hashB [] (by decide +kernel)).1 (by decide +kernel)

theorem wit_en_custody (h : Obligations.CustodyPartiesAndKeys) : type_of% ((h.1.2.2.2.1 (cus []) 0 hashB keyA _).2.1 _ (Or.inl _)) :=
  (h.1.2.2.2.1 (cus []) 0 hashB keyA (by decide +kernel)).2.1 (by decide +kernel) (Or.inl (by decide +kernel))

theorem wit_en_mode (h : Obligations.CustodyPartiesAndKeys) : type_of% ((((h.1.2.2.2.1 (bareOp none) 0 hashB keyA _).2.2 _ _ _).1 _).1 _) :=
  (((h.1.2.2.2.1 (bareOp none) 0 hashB keyA (by decide +kernel)).2.2 (by decide +kernel) (by decide +kernel) (by decide +kernel)).1 (by decide +kernel)).1 (by decide +kernel)

theorem wit_en_mode_pair (h : Obligations.CustodyPartiesAndKeys) : type_of% ((((h.1.2.2.2.1 (bareOp (some half1)) 0 hashB keyA _).2.2 _ _ _).1 _).2 _) :=
  (((h.1.2.2.2.1 (bareOp (some half1)) 0 hashB keyA (by decide +kernel)).2.2 (by decide +kernel) (by decide +kernel) (by decide +kernel)).1 (by decide +kernel)).2 (by decide +kernel)

theorem wit_en_first (h : Obligations.CustodyPartiesAndKeys) : type_of% ((((h.1.2.2.2.1 (bare none) 0 hashB keyA _).2.2 _ _ _).2 _).1 (by intro e he; cases he)) :=
  (((h.1.2.2.2.1 (bare none) 0 hashB keyA (by decide +kernel)).2.2 (by decide +kernel) (by decide +kernel) (by decide +kernel)).2 (by decide +kernel)).1 (by intro e he; cases he)

theorem wit_en_mismatch (h : Obligations.CustodyPartiesAndKeys) : type_of% (((((h.1.2.2.2.1 (bare (some half1)) 0 5 keyA _).2.2 _ _ _).2 _).2 half1 _ _).1 (Or.inr (Or.inr _))) :=
  ((((h.1.2.2.2.1 (bare (some half1)) 0 5 keyA (by decide +kernel)).2.2 (by decide +kernel) (by decide +kernel) (by decide +kernel)).2 (by decide +kernel)).2 half1 (by decide +kernel) (by decide +kernel)).1 (Or.inr (Or.inr (by decide +kernel)))

theorem wit_en_pair (h : Obligations.CustodyPartiesAndKeys) : type_of% (((((h.1.2.2.2.1 (bare (some half1)) 0 hashB keyA _).2.2 _ _ _).2 _).2 half1 _ _).2 _ _ _) :=
  ((((h.1.2.2.2.1 (bare (some half1)) 0 hashB keyA (by decide +kernel)).2.2 (by decide +kernel) (by decide +kernel) (by decide +kernel)).2 (by decide +kernel)).2 half1 (by decide +kernel) (by decide +kernel)).2 (by decide +kernel) (by decide +kernel) (by decide +kernel)

theorem wit_en_timeout (h : Obligations.CustodyPartiesAndKeys) : type_of% (h.1.2.2.2.2.1 (atTime 50000000000 (bare (some half1))) half1 _ _ _) :=
  h.1.2.2.2.2.1 (atTime 50000000000 (bare (some half1))) half1 (by decide +kernel) (by decide +kernel) (by decide +kernel)

theorem wit_cr_none (h : Obligations.CustodyPartiesAndKeys) : type_of% ((h.1.2.2.2.2.2.2.1 (cus []) 1 [] _).1 (Or.inl _)) :=
  (h.1.2.2.2.2.2.2.1 (cus []) 1 [] (by decide +kernel)).1 (Or.inl (by decide +kernel))

theorem wit_cr_good (h : Obligations.CustodyPartiesAndKeys) : type_of% (((h.1.2.2.2.2.2.2.1 replSt 1 fmSig _).2 (0, keyB, 99000) _ _).1 _) :=
  ((h.1.2.2.2.2.2.2.1 replSt 1 fmSig (by decide +kernel)).2 (0, keyB, 99000) (by decide +kernel) (by decide +kernel)).1 (by decide +kernel)

theorem wit_cr_bad (h : Obligations.CustodyPartiesAndKeys) : type_of% (((h.1.2.2.2.2.2.2.1 replSt 1 [] _).2 (0, keyB, 99000) _ _).2 _) :=
  ((h.1.2.2.2.2.2.2.1 replSt 1 [] (by decide +kernel)).2 (0, keyB, 99000) (by decide +kernel) (by decide +kernel)).2 (by decide +kernel)

theorem wit_cr_expiry (h : Obligations.CustodyPartiesAndKeys) : type_of% (h.1.2.2.2.2.2.2.2.2 replSt (0, keyB, 99000) _ _ _ _) :=
  h.1.2.2.2.2.2.2.2.2 replSt (0, keyB, 99000) (by decide +kernel) (by decide +kernel) (by decide +kernel) (by decide +kernel)

theorem wit_dw (h : Obligations.CustodyPartiesAndKeys) : type_of% (h.2.1 dbg .supervisor 5 1 true (.whole 5) _ _) :=
  h.2.1 dbg .supervisor 5 1 true (.whole 5) (by decide +kernel) (by decide +kernel)

theorem wit_dw_closed (h : Obligations.CustodyPartiesAndKeys) : type_of% ((h.2.2.1 up 0 5 1 0x1007 _ true _ _ _ _ _ rfl).1 _) :=
  (h.2.2.1 up 0 5 1 0x1007 _ true (by decide +kernel) (by decide +kernel) (by decide +kernel) (by decide +kernel) (by decide +kernel) rfl).1 (by decide +kernel)

theorem wit_dw_refused (h : Obligations.CustodyPartiesAndKeys) : type_of% ((h.2.2.1 dbg 0 5 1 0x7 _ true _ _ _ _ _ rfl).2.1 _ _) :=
  (h.2.2.1 dbg 0 5 1 0x7 _ true (by decide +kernel) (by decide +kernel) (by decide +kernel) (by decide +kernel) (by decide +kernel) rfl).2.1 (by decide +kernel) (by decide +kernel)

theorem wit_dw_set (h : Obligations.CustodyPartiesAndKeys) : type_of% ((h.2.2.1 dbg 0 5 1 0x1007 _ true _ _ _ _ _ rfl).2.2 _ _ (gives (d := up) _)) :=
  (h.2.2.1 dbg 0 5 1 0x1007 _ true (by decide +kernel) (by decide +kernel) (by decide +kernel) (by decide +kernel) (by decide +kernel) rfl).2.2 _ (by decide +kernel) (gives (d := up) (by decide +kernel))

theorem wit_dw_apply (h : Obligations.CustodyPartiesAndKeys) : type_of% ((h.2.2.2.1 dbgApply 5 1 5 _ true rfl).1 ⟨stgApply, _, _⟩) :=
  (h.2.2.2.1 dbgApply 5 1 5 _ true rfl).1 ⟨stgApply, (by decide +kernel), (by decide +kernel)⟩

theorem wit_dw_size (h : Obligations.CustodyPartiesAndKeys) : type_of% (((h.2.2.2.1 dbg 5 1 5 _ true rfl).2 _).1 (Or.inl _)) :=
  ((h.2.2.2.1 dbg 5 1 5 _ true rfl).2 (by decide +kernel)).1 (Or.inl (by decide +kernel))

theorem wit_dw_frame (h : Obligations.CustodyPartiesAndKeys) : type_of% (((h.2.2.2.1 dbg 5 1 0x1007 _ true rfl).2 _).2.1 _ _) :=
  ((h.2.2.2.1 dbg 5 1 0x1007 _ true rfl).2 (by decide +kernel)).2.1 (by decide +kernel) (by decide +kernel)

theorem wit_dw_second (h : Obligations.CustodyPartiesAndKeys) : type_of% (((h.2.2.2.1 dbg2 5 1 bindVal _ false rfl).2 _).2.2.1 _ _) :=
  ((h.2.2.2.1 dbg2 5 1 bindVal _ false rfl).2 (by decide +kernel)).2.2.1 (by decide +kernel) (by decide +kernel)

theorem wit_dw_bind (h : Obligations.CustodyPartiesAndKeys) : type_of% (((h.2.2.2.1 dbg 5 1 bindVal _ false rfl).2 _).2.2.2 (Or.inr _)) :=
  ((h.2.2.2.1 dbg 5 1 bindVal _ false rfl).2 (by decide +kernel)).2.2.2 (Or.inr (by decide +kernel))

theorem wit_dw_unbind (h : Obligations.CustodyPartiesAndKeys) : type_of% (((h.2.2.2.1 dbg2 5 1 0 _ false rfl).2 _).2.2.2 (Or.inl _)) :=
  ((h.2.2.2.1 dbg2 5 1 0 _ false rfl).2 (by decide +kernel)).2.2.2 (Or.inl (by decide +kernel))

theorem wit_dw_place (h : Obligations.CustodyPartiesAndKeys) : type_of% ((h.2.2.2.2.2.1 dbg 5 1 bindVal _).2.2 _) :=
  (h.2.2.2.2.2.1 dbg 5 1 bindVal (by decide +kernel)).2.2 (by decide +kernel)

theorem wit_me_1 (h : Obligations.CustodyPartiesAndKeys) : type_of% ((h.2.2.2.2.2.2 (cus []) _).1 _ _ rfl) :=
  (h.2.2.2.2.2.2 (cus []) (by decide +kernel)).1 _ _ rfl

theorem wit_me_2 (h : Obligations.CustodyPartiesAndKeys) : type_of% ((h.2.2.2.2.2.2 (cus []) _).2.1) :=
  (h.2.2.2.2.2.2 (cus []) (by decide +kernel)).2.1

theorem wit_me_p (h : Obligations.CustodyPartiesAndKeys) : type_of% ((h.2.2.2.2.2.2 (partSt 1) _).2.2.2.2.2.2 1 _) :=
  (h.2.2.2.2.2.2 (partSt 1) (by decide +kernel)).2.2.2.2.2.2 1 (by decide +kernel)

/-! ### Witnesses: FaultMessages -/

theorem wit_fm (h : Obligations.FaultMessages) : type_of% ((h.1.1 (fltSt (fmsg 0x160 0x301)) _ (fmsg 0x160 0x301) _ _ rfl rfl).1 _) :=
  (h.1.1 (fltSt (fmsg 0x160 0x301)) _ (fmsg 0x160 0x301) _ (by decide +kernel) rfl rfl).1 (by decide +kernel)

theorem wit_fm_invalid (h : Obligations.FaultMessages) : type_of% ((h.1.1 (fltSt (fmsg 0x008 0x301)) _ (fmsg 0x008 0x301) _ _ rfl rfl).1 _) :=
  (h.1.1 (fltSt (fmsg 0x008 0x301)) _ (fmsg 0x008 0x301) _ (by decide +kernel) rfl rfl).1 (by decide +kernel)

theorem wit_fm_bypass (h : Obligations.FaultMessages) : type_of% ((h.1.1 (bypassed (fmsg 0x160 0x301)) _ (fmsg 0x160 0x301) _ _ rfl rfl).2 _) :=
  (h.1.1 (bypassed (fmsg 0x160 0x301)) _ (fmsg 0x160 0x301) _ (by decide +kernel) rfl rfl).2 (by decide +kernel)

theorem wit_fm_process (h : Obligations.FaultMessages) : type_of% (h.1.2.1 p1 _ _ _ _ (fmsg 0x160 0x301) _ _ _ rfl rfl rfl rfl rfl rfl rfl) :=
  h.1.2.1 p1 _ _ _ _ (fmsg 0x160 0x301) _ _ _ rfl rfl rfl rfl rfl rfl rfl

theorem wit_fm_class (h : Obligations.FaultMessages) : type_of% ((h.1.2.2.1 p1 (fmsg 0x013 0x301)).1 _ _) :=
  (h.1.2.2.1 p1 (fmsg 0x013 0x301)).1 (by decide +kernel) (by decide +kernel)

theorem wit_fm_class_kept (h : Obligations.FaultMessages) : type_of% ((h.1.2.2.1 p1 (fmsg 0x013 6)).2.1 (Or.inr _)) :=
  (h.1.2.2.1 p1 (fmsg 0x013 6)).2.1 (Or.inr (by decide +kernel))

theorem wit_fm_class_other (h : Obligations.FaultMessages) : type_of% ((h.1.2.2.1 p1 (fmsg 0x160 0x301)).2.1 (Or.inl _)) :=
  (h.1.2.2.1 p1 (fmsg 0x160 0x301)).2.1 (Or.inl (by decide +kernel))

theorem wit_fm_part (h : Obligations.FaultMessages) : type_of% ((h.1.2.2.1 p1 orphanMsg).2.2.1 1 _) :=
  (h.1.2.2.1 p1 orphanMsg).2.2.1 1 (by decide +kernel)

theorem wit_fm_quarantined (h : Obligations.FaultMessages) : type_of% ((h.1.2.2.1 exclP1 (fmsg 0x013 6)).2.2.2 _) :=
  (h.1.2.2.1 exclP1 (fmsg 0x013 6)).2.2.2 (by decide +kernel)

theorem wit_fm_kinds (h : Obligations.FaultMessages) : type_of% ((h.1.2.2.2.1 p1 3 1).2.2.2 4 _) :=
  (h.1.2.2.2.1 p1 3 1).2.2.2 4 (by decide +kernel)

theorem wit_fm_plain (h : Obligations.FaultMessages) : type_of% (((h.1.2.2.2.2.1 p1 (fmsg 0x160 0x301)).1 _).1 2 _) :=
  ((h.1.2.2.2.2.1 p1 (fmsg 0x160 0x301)).1 (by decide +kernel)).1 2 (by decide +kernel)

theorem wit_fm_orphan (h : Obligations.FaultMessages) : type_of% ((h.1.2.2.2.2.1 p1 orphanMsg).2 0 1 _ _) :=
  (h.1.2.2.2.2.1 p1 orphanMsg).2 0 1 (by decide +kernel) (by decide +kernel)

theorem wit_fm_queue (h : Obligations.FaultMessages) : type_of% ((h.1.2.2.2.2.2.1 p1 (fmsg 0x160 0x301) 1 false false).1 _) :=
  (h.1.2.2.2.2.2.1 p1 (fmsg 0x160 0x301) 1 false false).1 (by decide +kernel)

theorem wit_fm_full (h : Obligations.FaultMessages) : type_of% ((h.1.2.2.2.2.2.1 fullQueue (fmsg 0x160 0x301) 1 false false).2.1 _) :=
  (h.1.2.2.2.2.2.1 fullQueue (fmsg 0x160 0x301) 1 false false).2.1 (by decide +kernel)

theorem wit_fm_window (h : Obligations.FaultMessages) : type_of% ((h.1.2.2.2.2.2.1 p1 (fmsg 0x160 0x301) 1 false false).2.2 1 _) :=
  (h.1.2.2.2.2.2.1 p1 (fmsg 0x160 0x301) 1 false false).2.2 1 (by decide +kernel)

theorem wit_fm_bypassed (h : Obligations.FaultMessages) : type_of% ((h.1.2.2.2.2.2.2 p1 (fmsg 0x160 0x301) _).2.2.2 _) :=
  (h.1.2.2.2.2.2.2 p1 (fmsg 0x160 0x301) (by decide +kernel)).2.2.2 (by decide +kernel)

theorem wit_qu_again (h : Obligations.FaultMessages) : type_of% ((h.2.1 exclP1 6 _).1 _) :=
  (h.2.1 exclP1 6 (by decide +kernel)).1 (by decide +kernel)

theorem wit_qu_others (h : Obligations.FaultMessages) : type_of% (((h.2.1 p1 6 _).2 _).2.2.1 7 _) :=
  ((h.2.1 p1 6 (by decide +kernel)).2 (by decide +kernel)).2.2.1 7 (by decide +kernel)

theorem wit_qu_outs (h : Obligations.FaultMessages) : type_of% (((h.2.1 (outSt { loadReq with unit := 9 } p1) 6 _).2 _).2.2.2.1 { loadReq with unit := 9 } _) :=
  ((h.2.1 (outSt { loadReq with unit := 9 } p1) 6 (by decide +kernel)).2 (by decide +kernel)).2.2.2.1 { loadReq with unit := 9 } (by decide +kernel)

theorem wit_qu_follow (h : Obligations.FaultMessages) : type_of% (h.2.2.2.1 followSt 6 [] _ _ _ _) :=
  h.2.2.2.1 followSt 6 [] (by decide +kernel) (by decide +kernel) (by decide +kernel) (by decide +kernel)

theorem wit_su_unbound (h : Obligations.FaultMessages) : type_of% ((h.2.2.2.2.1 p1 6).1 { valid := false } _) :=
  (h.2.2.2.2.1 p1 6).1 { valid := false } (by decide +kernel)

theorem wit_su_others (h : Obligations.FaultMessages) : type_of% ((h.2.2.2.2.1 p1 6).2.1 7 _) :=
  (h.2.2.2.2.1 p1 6).2.1 7 (by decide +kernel)

theorem wit_su_place (h : Obligations.FaultMessages) : type_of% ((h.2.2.2.2.1 p1 6).2.2 { valid := true, part := 1, vtile := 2, gen := 1, ntCountM1 := 1 } { unit := 6, slot := 0, gen := 1 } _ _ _ _) :=
  (h.2.2.2.2.1 p1 6).2.2 { valid := true, part := 1, vtile := 2, gen := 1, ntCountM1 := 1 } { unit := 6, slot := 0, gen := 1 } (by decide +kernel) (by decide +kernel) (by decide +kernel) (by decide +kernel)

theorem wit_mf_spare (h : Obligations.FaultMessages) : type_of% ((h.2.2.2.2.2.1 spareTested 6 _ _).1 _) :=
  (h.2.2.2.2.2.1 spareTested 6 (by decide +kernel) (by decide +kernel)).1 (by decide +kernel)

theorem wit_mf_thicket (h : Obligations.FaultMessages) : type_of% ((h.2.2.2.2.2.1 spareGone 6 _ _).2 _) :=
  (h.2.2.2.2.2.1 spareGone 6 (by decide +kernel) (by decide +kernel)).2 (by decide +kernel)

theorem wit_sa (h : Obligations.FaultMessages) : type_of% ((h.2.2.2.2.2.2.1 nearBound1 _).2.2.2.2.1 stgApply _) :=
  (h.2.2.2.2.2.2.1 nearBound1 (by decide +kernel)).2.2.2.2.1 stgApply (by decide +kernel)

theorem wit_sa_again (h : Obligations.FaultMessages) : type_of% ((h.2.2.2.2.2.2.2.1 safe _).1 _) :=
  (h.2.2.2.2.2.2.2.1 safe (by decide +kernel)).1 (by decide +kernel)

theorem wit_sa_returning (h : Obligations.FaultMessages) : type_of% ((h.2.2.2.2.2.2.2.1 { safe with flt := { safe.flt with returning := some 5 } } _).2 _) :=
  (h.2.2.2.2.2.2.2.1 { safe with flt := { safe.flt with returning := some 5 } } (by decide +kernel)).2 (by decide +kernel)

theorem wit_no_end (h : Obligations.FaultMessages) : type_of% (h.2.2.2.2.2.2.2.2.1 (noticeSt true 84000) 0 1 84000 _ _ rfl _ _ _) :=
  h.2.2.2.2.2.2.2.2.1 (noticeSt true 84000) 0 1 84000 _ (by decide +kernel) rfl (by decide +kernel) (by decide +kernel) (by decide +kernel)

theorem wit_no_now (h : Obligations.FaultMessages) : type_of% ((h.2.2.2.2.2.2.2.2.2.1 p1 0 1 _ rfl).1 (by intro t ht; cases ht)) :=
  (h.2.2.2.2.2.2.2.2.2.1 p1 0 1 _ rfl).1 (by intro t ht; cases ht)

theorem wit_no_later (h : Obligations.FaultMessages) : type_of% ((h.2.2.2.2.2.2.2.2.2.1 (noticeSt false 99000) 0 1 _ rfl).2 99000 _ _) :=
  (h.2.2.2.2.2.2.2.2.2.1 (noticeSt false 99000) 0 1 _ rfl).2 99000 (by decide +kernel) (by decide +kernel)

theorem wit_no_none (h : Obligations.FaultMessages) : type_of% ((h.2.2.2.2.2.2.2.2.2.2 p1 { notify := false, notifyPc := false } [1]).1 _ _) :=
  (h.2.2.2.2.2.2.2.2.2.2 p1 { notify := false, notifyPc := false } [1]).1 (by decide +kernel) (by decide +kernel)

theorem wit_no_alert (h : Obligations.FaultMessages) : type_of% ((h.2.2.2.2.2.2.2.2.2.2 p1 { notify := false, notifyPc := true } [1]).2.1 _ _) :=
  (h.2.2.2.2.2.2.2.2.2.2 p1 { notify := false, notifyPc := true } [1]).2.1 (by decide +kernel) (by decide +kernel)

theorem wit_no_host (h : Obligations.FaultMessages) : type_of% ((h.2.2.2.2.2.2.2.2.2.2 p1 { notify := true, notifyPc := false } [1]).2.2 _ _) :=
  (h.2.2.2.2.2.2.2.2.2.2 p1 { notify := true, notifyPc := false } [1]).2.2 (by decide +kernel) (by decide +kernel)

/-! ### Witnesses: SafeAndProtection -/

theorem wit_se_fw (h : Obligations.SafeAndProtection) : type_of% ((h.1 (safe1)).1 _) :=
  (h.1 (safe1)).1 (by decide +kernel)

theorem wit_se_mctp (h : Obligations.SafeAndProtection) : type_of% ((h.1 (safe1)).2.1 1 0 _ _) :=
  (h.1 (safe1)).2.1 1 0 (by decide +kernel) (by decide +kernel)

theorem wit_se_reg (h : Obligations.SafeAndProtection) : type_of% (((h.1 (safe1)).2.2 0 0x5AFE (.low 0x5AFE) _ _ (Or.inr _)).1 _) :=
  ((h.1 (safe1)).2.2 0 0x5AFE (.low 0x5AFE) (by decide +kernel) (by decide +kernel) (Or.inr (by decide +kernel))).1 (by decide +kernel)

theorem wit_se_reg_other (h : Obligations.SafeAndProtection) : type_of% (((h.1 (safe1)).2.2 0 5 (.whole 5) _ _ (Or.inl _)).2 _) :=
  ((h.1 (safe1)).2.2 0 5 (.whole 5) (by decide +kernel) (by decide +kernel) (Or.inl (by decide +kernel))).2 (by decide +kernel)

theorem wit_se_starts (h : Obligations.SafeAndProtection) : type_of% ((h.2.1 (safe1) _ _ _).1 _ _) :=
  (h.2.1 (safe1) (by decide +kernel) (by decide +kernel) (by decide +kernel)).1 (by decide +kernel) (by decide +kernel)

theorem wit_se_cause (h : Obligations.SafeAndProtection) : type_of% ((h.2.1 { safe1 with brd := { up.brd with tjHot := true } } _ _ _).2.1 _) :=
  (h.2.1 { safe1 with brd := { up.brd with tjHot := true } } (by decide +kernel) (by decide +kernel) (by decide +kernel)).2.1 (by decide +kernel)

theorem wit_se_status (h : Obligations.SafeAndProtection) : type_of% ((h.2.1 (safe1 (fun x => { x with classes := 4 })) _ _ _).2.2 _ _) :=
  (h.2.1 (safe1 (fun x => { x with classes := 4 })) (by decide +kernel) (by decide +kernel) (by decide +kernel)).2.2 (by decide +kernel) (by decide +kernel)

theorem wit_se_not (h : Obligations.SafeAndProtection) : type_of% (h.2.2.1 up (Or.inl _)) :=
  h.2.2.1 up (Or.inl (by decide +kernel))

theorem wit_se_already (h : Obligations.SafeAndProtection) : type_of% (h.2.2.1 (returning false) (Or.inr _)) :=
  h.2.2.1 (returning false) (Or.inr (by decide +kernel))

theorem wit_sr (h : Obligations.SafeAndProtection) : type_of% ((h.2.2.2.1 (returning false) _ _ _ _ _ _ _ rfl rfl rfl rfl).1 _) :=
  (h.2.2.2.1 (returning false) _ _ _ _ (by decide +kernel) (by decide +kernel) (by decide +kernel) rfl rfl rfl rfl).1 (by decide +kernel)

theorem wit_sr_again (h : Obligations.SafeAndProtection) : type_of% ((h.2.2.2.1 (returning true) _ _ _ _ _ _ _ rfl rfl rfl rfl).2 _) :=
  (h.2.2.2.1 (returning true) _ _ _ _ (by decide +kernel) (by decide +kernel) (by decide +kernel) rfl rfl rfl rfl).2 (by decide +kernel)

theorem wit_sr_parts (h : Obligations.SafeAndProtection) : type_of% ((h.2.2.2.2.1 p1).1 { state := 0 } _) :=
  (h.2.2.2.2.1 p1).1 { state := 0 } (by decide +kernel)

theorem wit_sr_rings (h : Obligations.SafeAndProtection) : type_of% ((h.2.2.2.2.1 p1).2.1 (((unitsSafe (runCleared p1)).rings).headD (0, {})) _) :=
  (h.2.2.2.2.1 p1).2.1 (((unitsSafe (runCleared p1)).rings).headD (0, {})) (by decide +kernel)

theorem wit_sr_regions (h : Obligations.SafeAndProtection) : type_of% ((h.2.2.2.2.1 p1).2.2.1 {} _) :=
  (h.2.2.2.2.1 p1).2.2.1 {} (by decide +kernel)

theorem wit_sr_ctx (h : Obligations.SafeAndProtection) : type_of% ((h.2.2.2.2.1 liveSt).2.2.2.2.1 1 3 _) :=
  (h.2.2.2.2.1 liveSt).2.2.2.2.1 1 3 (by decide +kernel)

theorem wit_sr_tile (h : Obligations.SafeAndProtection) : type_of% ((h.2.2.2.2.2.1 (tileAt p1 6)).2.2 _) :=
  (h.2.2.2.2.2.1 (tileAt p1 6)).2.2 (by decide +kernel)

theorem wit_alert (h : Obligations.SafeAndProtection) : type_of% (h.2.2.2.2.2.2.1 { up with flt := { up.flt with alert := true } } _) :=
  h.2.2.2.2.2.2.1 { up with flt := { up.flt with alert := true } } (by decide +kernel)

theorem wit_kind_write (h : Obligations.SafeAndProtection) : type_of% ((h.2.2.2.2.2.2.2.1 up 0x160 1 true false true).1 _ _ _ _) :=
  (h.2.2.2.2.2.2.2.1 up 0x160 1 true false true).1 (by decide +kernel) (by decide +kernel) (by decide +kernel) (by decide +kernel)

theorem wit_kind_write_no (h : Obligations.SafeAndProtection) : type_of% ((h.2.2.2.2.2.2.2.1 up 0x176 1 true false true).2.1 _) :=
  (h.2.2.2.2.2.2.2.1 up 0x176 1 true false true).2.1 (by decide +kernel)

theorem wit_kind_safe (h : Obligations.SafeAndProtection) : type_of% ((h.2.2.2.2.2.2.2.1 up 0x176 1 true false true).2.2.1 _) :=
  (h.2.2.2.2.2.2.2.1 up 0x176 1 true false true).2.2.1 (by decide +kernel)

theorem wit_kind_floor (h : Obligations.SafeAndProtection) : type_of% ((h.2.2.2.2.2.2.2.1 up (floorQuarantine.headD 0) 2 true false true).2.2.2.1 _ _) :=
  (h.2.2.2.2.2.2.2.1 up (floorQuarantine.headD 0) 2 true false true).2.2.2.1 (by decide +kernel) (by decide +kernel)

theorem wit_kind_unlisted (h : Obligations.SafeAndProtection) : type_of% ((h.2.2.2.2.2.2.2.1 up 0x008 2 true false true).2.2.2.2 _ _) :=
  (h.2.2.2.2.2.2.2.1 up 0x008 2 true false true).2.2.2.2 (by decide +kernel) (by decide +kernel)

theorem wit_cs_ok (h : Obligations.SafeAndProtection) : type_of% ((h.2.2.2.2.2.2.2.2.1 up _).1 _) :=
  (h.2.2.2.2.2.2.2.2.1 up (by decide +kernel)).1 (by decide +kernel)

theorem wit_cs_one (h : Obligations.SafeAndProtection) : type_of% ((h.2.2.2.2.2.2.2.2.1 (fltErr 1 false) _).2.1 _) :=
  (h.2.2.2.2.2.2.2.2.1 (fltErr 1 false) (by decide +kernel)).2.1 (by decide +kernel)

theorem wit_cs_known (h : Obligations.SafeAndProtection) : type_of% ((h.2.2.2.2.2.2.2.2.1 (fltErr 3 true) _).2.2.1 _ _) :=
  (h.2.2.2.2.2.2.2.2.1 (fltErr 3 true) (by decide +kernel)).2.2.1 (by decide +kernel) (by decide +kernel)

theorem wit_cs_bypass (h : Obligations.SafeAndProtection) : type_of% ((h.2.2.2.2.2.2.2.2.1 (fltErr 2 false) _).2.2.2 _ _) :=
  (h.2.2.2.2.2.2.2.2.1 (fltErr 2 false) (by decide +kernel)).2.2.2 (by decide +kernel) (by decide +kernel)

theorem wit_reinit (h : Obligations.SafeAndProtection) : type_of% (h.2.2.2.2.2.2.2.2.2.1 (fltErr 3 true) _ _) :=
  h.2.2.2.2.2.2.2.2.2.1 (fltErr 3 true) (by decide +kernel) (by decide +kernel)

theorem wit_rec_ack (h : Obligations.SafeAndProtection) : type_of% (h.2.2.2.2.2.2.2.2.2.2.1 recQueue _ _) :=
  h.2.2.2.2.2.2.2.2.2.2.1 recQueue (by decide +kernel) (by decide +kernel)

theorem wit_rec_suppressed (h : Obligations.SafeAndProtection) : type_of% ((h.2.2.2.2.2.2.2.2.2.2.2.1 seenKind (recM false) _ _ rfl rfl).2.1 _) :=
  (h.2.2.2.2.2.2.2.2.2.2.2.1 seenKind (recM false) _ _ rfl rfl).2.1 (by decide +kernel)

theorem wit_rec_event (h : Obligations.SafeAndProtection) : type_of% ((h.2.2.2.2.2.2.2.2.2.2.2.1 p1 (recM true) _ _ rfl rfl).2.2.1 _ _) :=
  (h.2.2.2.2.2.2.2.2.2.2.2.1 p1 (recM true) _ _ rfl rfl).2.2.1 (by decide +kernel) (by decide +kernel)

theorem wit_chk (h : Obligations.SafeAndProtection) : type_of% (h.2.2.2.2.2.2.2.2.2.2.2.2 { up with chk := { up.chk with position := 255 } } _ _) :=
  h.2.2.2.2.2.2.2.2.2.2.2.2 { up with chk := { up.chk with position := 255 } } (by decide +kernel) (by decide +kernel)

/-! ### Witnesses: LedgerCommands -/

theorem wit_ckpt (h : Obligations.LedgerCommands) : type_of% ((h.1 (atTime 100000000000 up) _).1 _ _) :=
  (h.1 (atTime 100000000000 up) (by decide +kernel)).1 (by decide +kernel) (by decide +kernel)

theorem wit_flush (h : Obligations.LedgerCommands) : type_of% (((h.1 up _).2.1 1 9 _).1 _) :=
  ((h.1 up (by decide +kernel)).2.1 1 9 (by decide +kernel)).1 (by decide +kernel)

theorem wit_flush_dead (h : Obligations.LedgerCommands) : type_of% (((h.1 deadLdg _).2.1 1 9 _).2 _ _ _ rfl) :=
  ((h.1 deadLdg (by decide +kernel)).2.1 1 9 (by decide +kernel)).2 (by decide +kernel) _ _ rfl

theorem wit_flush_reg (h : Obligations.LedgerCommands) : type_of% (((h.1 up _).2.2 0 1 (.whole 1) _ _ _ (Or.inl _)).1 _) :=
  ((h.1 up (by decide +kernel)).2.2 0 1 (.whole 1) (by decide +kernel) (by decide +kernel) (by decide +kernel) (Or.inl (by decide +kernel))).1 (by decide +kernel)

theorem wit_flush_reg_not (h : Obligations.LedgerCommands) : type_of% (((h.1 up _).2.2 0 2 (.low 2) _ _ _ (Or.inr _)).2 _) :=
  ((h.1 up (by decide +kernel)).2.2 0 2 (.low 2) (by decide +kernel) (by decide +kernel) (by decide +kernel) (Or.inr (by decide +kernel))).2 (by decide +kernel)

theorem wit_ask (h : Obligations.LedgerCommands) : type_of% ((h.2.1 up [1] _).1 _) :=
  (h.2.1 up [1] (by decide +kernel)).1 (by decide +kernel)

theorem wit_ask_joins (h : Obligations.LedgerCommands) : type_of% ((h.2.1 ckptWaits [2] _).2 ⟨{ ring := 4, type := 5, waiters := [1] }, _, _, _⟩) :=
  (h.2.1 ckptWaits [2] (by decide +kernel)).2 ⟨{ ring := 4, type := 5, waiters := [1] }, (by decide +kernel), (by decide +kernel), (by decide +kernel)⟩

theorem wit_read_beyond (h : Obligations.LedgerCommands) : type_of% ((h.2.2.1 (arr 0) 1 _ _).1 0xFFFF 2 (Or.inr (Or.inr (Or.inr _)))) :=
  (h.2.2.1 (arr 0) 1 (by decide +kernel) (by decide +kernel)).1 0xFFFF 2 (Or.inr (Or.inr (Or.inr (by decide +kernel))))

theorem wit_read_none (h : Obligations.LedgerCommands) : type_of% ((h.2.2.1 (arr 0) 1 _ _).1 0 0 (Or.inr (Or.inl _))) :=
  (h.2.2.1 (arr 0) 1 (by decide +kernel) (by decide +kernel)).1 0 0 (Or.inr (Or.inl (by decide +kernel)))

theorem wit_read (h : Obligations.LedgerCommands) : type_of% ((h.2.2.1 (arr 0) 1 _ _).2.1 8 2 _ _ _ _ _ _ rfl) :=
  (h.2.2.1 (arr 0) 1 (by decide +kernel) (by decide +kernel)).2.1 8 2 _ _ (by decide +kernel) (by decide +kernel) (by decide +kernel) (by decide +kernel) rfl

theorem wit_read_one (h : Obligations.LedgerCommands) : type_of% ((h.2.2.1 (arr 0) 1 _ _).2.2.1 9 _ _) :=
  (h.2.2.1 (arr 0) 1 (by decide +kernel) (by decide +kernel)).2.2.1 9 (by decide +kernel) (by decide +kernel)

theorem wit_cal_beyond (h : Obligations.LedgerCommands) : type_of% ((h.2.2.1 (arr 0) 1 _ _).2.2.2.1 1 (2 ^ 30) (Or.inr _)) :=
  (h.2.2.1 (arr 0) 1 (by decide +kernel) (by decide +kernel)).2.2.2.1 1 (2 ^ 30) (Or.inr (by decide +kernel))

theorem wit_cal (h : Obligations.LedgerCommands) : type_of% ((h.2.2.1 (arr 0) 1 _ _).2.2.2.2.1 1700000000 5 _ _) :=
  (h.2.2.1 (arr 0) 1 (by decide +kernel) (by decide +kernel)).2.2.2.2.1 1700000000 5 (by decide +kernel) (by decide +kernel)

theorem wit_line (h : Obligations.LedgerCommands) : type_of% ((h.2.2.2.1 (arr 0) 9).1 _) :=
  (h.2.2.2.1 (arr 0) 9).1 (by decide +kernel)

theorem wit_line_one (h : Obligations.LedgerCommands) : type_of% ((h.2.2.2.1 (arr 1) 9).2.1 _) :=
  (h.2.2.2.1 (arr 1) 9).2.1 (by decide +kernel)

theorem wit_line_two (h : Obligations.LedgerCommands) : type_of% ((h.2.2.2.1 (arr 2) 9).2.2 _) :=
  (h.2.2.2.1 (arr 2) 9).2.2 (by decide +kernel)

theorem wit_read_addr (h : Obligations.LedgerCommands) : type_of% (h.2.2.2.2 (arr 0) _ 0 0x10009 (.whole 0x10009) _ _ _ _ _ (Or.inl _) rfl) :=
  h.2.2.2.2 (arr 0) _ 0 0x10009 (.whole 0x10009) _ _ (by decide +kernel) (by decide +kernel) (by decide +kernel) (Or.inl (by decide +kernel)) rfl

/-! ### Witnesses: BoardAndTestAccess -/

theorem wit_power_braked (h : Obligations.BoardAndTestAccess) : type_of% ((h.1.1 (brdSt (fun b => { b with brake := true })) _ 330000 370000 0 _ _ _ rfl).1 _) :=
  (h.1.1 (brdSt (fun b => { b with brake := true })) _ 330000 370000 0 (by decide +kernel) (by decide +kernel) (by decide +kernel) rfl).1 (by decide +kernel)

theorem wit_power_up (h : Obligations.BoardAndTestAccess) : type_of% (((h.1.1 (brdSt (fun b => { b with powerLvl := 15 })) _ 330000 370000 15 _ _ _ rfl).2 _).1 _ _) :=
  ((h.1.1 (brdSt (fun b => { b with powerLvl := 15 })) _ 330000 370000 15 (by decide +kernel) (by decide +kernel) (by decide +kernel) rfl).2 (by decide +kernel)).1 (by decide +kernel) (by decide +kernel)

theorem wit_power_first (h : Obligations.BoardAndTestAccess) : type_of% (((h.1.1 up _ 330000 370000 0 _ _ _ rfl).2 _).2.1 _ _) :=
  ((h.1.1 up _ 330000 370000 0 (by decide +kernel) (by decide +kernel) (by decide +kernel) rfl).2 (by decide +kernel)).2.1 (by decide +kernel) (by decide +kernel)

theorem wit_power_down (h : Obligations.BoardAndTestAccess) : type_of% (((h.1.1 (brdSt (fun b => { b with powerLvl := 3 })) _ 200000 240000 3 _ _ _ rfl).2 _).2.2.1 _ _) :=
  ((h.1.1 (brdSt (fun b => { b with powerLvl := 3 })) _ 200000 240000 3 (by decide +kernel) (by decide +kernel) (by decide +kernel) rfl).2 (by decide +kernel)).2.2.1 (by decide +kernel) (by decide +kernel)

theorem wit_power_steady (h : Obligations.BoardAndTestAccess) : type_of% (((h.1.1 (brdSt (fun b => { b with powerLvl := 3 })) _ 310000 350000 3 _ _ _ rfl).2 _).2.2.2 _ _) :=
  ((h.1.1 (brdSt (fun b => { b with powerLvl := 3 })) _ 310000 350000 3 (by decide +kernel) (by decide +kernel) (by decide +kernel) rfl).2 (by decide +kernel)).2.2.2 (by decide +kernel) (by decide +kernel)

theorem wit_power_untold (h : Obligations.BoardAndTestAccess) : type_of% ((h.1.2.1 (brdSt (fun b => { b with noTelemetry := 2 })) _ _ rfl).1 (Or.inr _)) :=
  (h.1.2.1 (brdSt (fun b => { b with noTelemetry := 2 })) _ (by decide +kernel) rfl).1 (Or.inr (by decide +kernel))

theorem wit_power_blind (h : Obligations.BoardAndTestAccess) : type_of% ((h.1.2.1 (brdSt (fun b => { b with noTelemetry := 3, powerLvl := 15 })) _ _ rfl).2 _ _) :=
  (h.1.2.1 (brdSt (fun b => { b with noTelemetry := 3, powerLvl := 15 })) _ (by decide +kernel) rfl).2 (by decide +kernel) (by decide +kernel)

theorem wit_thermal_first (h : Obligations.BoardAndTestAccess) : type_of% ((h.1.2.2.1 (brdSt (fun b => { b with tj := 400 })) _).1 _ _) :=
  (h.1.2.2.1 (brdSt (fun b => { b with tj := 400 })) (by decide +kernel)).1 (by decide +kernel) (by decide +kernel)

theorem wit_thermal_up (h : Obligations.BoardAndTestAccess) : type_of% ((h.1.2.2.1 (brdSt (fun b => { b with tj := 400, thermalLvl := 15 })) _).2.1 _ _) :=
  (h.1.2.2.1 (brdSt (fun b => { b with tj := 400, thermalLvl := 15 })) (by decide +kernel)).2.1 (by decide +kernel) (by decide +kernel)

theorem wit_thermal_down (h : Obligations.BoardAndTestAccess) : type_of% ((h.1.2.2.1 (brdSt (fun b => { b with tj := 387, thermalLvl := 4 })) _).2.2.1 _ _) :=
  (h.1.2.2.1 (brdSt (fun b => { b with tj := 387, thermalLvl := 4 })) (by decide +kernel)).2.2.1 (by decide +kernel) (by decide +kernel)

theorem wit_thermal_steady (h : Obligations.BoardAndTestAccess) : type_of% ((h.1.2.2.1 (brdSt (fun b => { b with tj := 388, thermalLvl := 4 })) _).2.2.2 _ _) :=
  (h.1.2.2.1 (brdSt (fun b => { b with tj := 388, thermalLvl := 4 })) (by decide +kernel)).2.2.2 (by decide +kernel) (by decide +kernel)

theorem wit_vr_alert (h : Obligations.BoardAndTestAccess) : type_of% ((h.1.2.2.2.1 up _).1 _) :=
  (h.1.2.2.2.1 up (by decide +kernel)).1 (by decide +kernel)

theorem wit_vr_again (h : Obligations.BoardAndTestAccess) : type_of% ((h.1.2.2.2.1 (brdSt (fun b => { b with vrFault := true })) _).2.1 _) :=
  (h.1.2.2.2.1 (brdSt (fun b => { b with vrFault := true })) (by decide +kernel)).2.1 (by decide +kernel)

theorem wit_vr_clear (h : Obligations.BoardAndTestAccess) : type_of% ((h.1.2.2.2.1 (brdSt (fun b => { b with vrFault := true })) _).2.2.1) :=
  (h.1.2.2.2.1 (brdSt (fun b => { b with vrFault := true })) (by decide +kernel)).2.2.1

theorem wit_vr_unread (h : Obligations.BoardAndTestAccess) : type_of% ((h.1.2.2.2.1 up _).2.2.2.1) :=
  (h.1.2.2.2.1 up (by decide +kernel)).2.2.2.1

theorem wit_vcore_safe (h : Obligations.BoardAndTestAccess) : type_of% ((h.1.2.2.2.1 (safeBrd id) _).2.2.2.2.1 true false _) :=
  (h.1.2.2.2.1 (safeBrd id) (by decide +kernel)).2.2.2.2.1 true false (by decide +kernel)

theorem wit_vcore_up (h : Obligations.BoardAndTestAccess) : type_of% ((h.1.2.2.2.1 (brdSt (fun b => { b with vcore := 845 })) _).2.2.2.2.2.1 true _ _) :=
  (h.1.2.2.2.1 (brdSt (fun b => { b with vcore := 845 })) (by decide +kernel)).2.2.2.2.2.1 true (by decide +kernel) (by decide +kernel)

theorem wit_vcore_top (h : Obligations.BoardAndTestAccess) : type_of% ((h.1.2.2.2.1 (brdSt (fun b => { b with vcore := 846 })) _).2.2.2.2.2.2.1 false _ _) :=
  (h.1.2.2.2.1 (brdSt (fun b => { b with vcore := 846 })) (by decide +kernel)).2.2.2.2.2.2.1 false (by decide +kernel) (by decide +kernel)

theorem wit_vcore_down (h : Obligations.BoardAndTestAccess) : type_of% ((h.1.2.2.2.1 (brdSt (fun b => { b with vcore := 705 })) _).2.2.2.2.2.2.2.1 _ _) :=
  (h.1.2.2.2.1 (brdSt (fun b => { b with vcore := 705 })) (by decide +kernel)).2.2.2.2.2.2.2.1 (by decide +kernel) (by decide +kernel)

theorem wit_vcore_bottom (h : Obligations.BoardAndTestAccess) : type_of% ((h.1.2.2.2.1 (brdSt (fun b => { b with vcore := 704 })) _).2.2.2.2.2.2.2.2.1 _ _) :=
  (h.1.2.2.2.1 (brdSt (fun b => { b with vcore := 704 })) (by decide +kernel)).2.2.2.2.2.2.2.2.1 (by decide +kernel) (by decide +kernel)

theorem wit_vcore_held (h : Obligations.BoardAndTestAccess) : type_of% ((h.1.2.2.2.1 up _).2.2.2.2.2.2.2.2.2 _) :=
  (h.1.2.2.2.1 up (by decide +kernel)).2.2.2.2.2.2.2.2.2 (by decide +kernel)

theorem wit_brake (h : Obligations.BoardAndTestAccess) : type_of% (h.1.2.2.2.2.1 up true _) :=
  h.1.2.2.2.2.1 up true (by decide +kernel)

theorem wit_level_brake (h : Obligations.BoardAndTestAccess) : type_of% ((h.1.2.2.2.2.2.1 (brdSt (fun b => { b with brake := true }))).1 _) :=
  (h.1.2.2.2.2.2.1 (brdSt (fun b => { b with brake := true }))).1 (by decide +kernel)

theorem wit_level (h : Obligations.BoardAndTestAccess) : type_of% ((h.1.2.2.2.2.2.1 (brdSt (fun b => { b with powerLvl := 3, thermalLvl := 5 }))).2 _) :=
  (h.1.2.2.2.2.2.1 (brdSt (fun b => { b with powerLvl := 3, thermalLvl := 5 }))).2 (by decide +kernel)

theorem wit_sensor (h : Obligations.BoardAndTestAccess) : type_of% ((h.1.2.2.2.2.2.2 up 439 true false _ _ _).1 (Or.inl _)) :=
  (h.1.2.2.2.2.2.2 up 439 true false (by decide +kernel) (by decide +kernel) (by decide +kernel)).1 (Or.inl (by decide +kernel))

theorem wit_sensor_critical (h : Obligations.BoardAndTestAccess) : type_of% ((h.1.2.2.2.2.2.2 up 440 true true _ _ _).2 _ _) :=
  (h.1.2.2.2.2.2.2 up 440 true true (by decide +kernel) (by decide +kernel) (by decide +kernel)).2 (by decide +kernel) (by decide +kernel)

theorem wit_rails_in (h : Obligations.BoardAndTestAccess) : type_of% ((h.2.1.1 (brdSt (fun b => { b with railsOnce := [2] })) 2 _).1) :=
  (h.2.1.1 (brdSt (fun b => { b with railsOnce := [2] })) 2 (by decide +kernel)).1

theorem wit_rail_once (h : Obligations.BoardAndTestAccess) : type_of% ((h.2.1.1 up 2 _).2.1 _) :=
  (h.2.1.1 up 2 (by decide +kernel)).2.1 (by decide +kernel)

theorem wit_rail_known (h : Obligations.BoardAndTestAccess) : type_of% ((h.2.1.1 (brdSt (fun b => { b with railsOnce := [2], railsOut := [2] })) 2 _).2.2.1 _ _) :=
  (h.2.1.1 (brdSt (fun b => { b with railsOnce := [2], railsOut := [2] })) 2 (by decide +kernel)).2.2.1 (by decide +kernel) (by decide +kernel)

theorem wit_rail_twice (h : Obligations.BoardAndTestAccess) : type_of% ((h.2.1.1 (brdSt (fun b => { b with railsOnce := [2] })) 2 _).2.2.2 _ _) :=
  (h.2.1.1 (brdSt (fun b => { b with railsOnce := [2] })) 2 (by decide +kernel)).2.2.2 (by decide +kernel) (by decide +kernel)

theorem wit_vddio (h : Obligations.BoardAndTestAccess) : type_of% (h.2.1.2.1 up true) :=
  h.2.1.2.1 up true

theorem wit_pins_out (h : Obligations.BoardAndTestAccess) : type_of% ((h.2.1.2.2.1 (brdSt (fun b => { b with vddioOut := true }))).1 _) :=
  (h.2.1.2.2.1 (brdSt (fun b => { b with vddioOut := true }))).1 (by decide +kernel)

theorem wit_pins_live (h : Obligations.BoardAndTestAccess) : type_of% ((h.2.1.2.2.1 up).2 _) :=
  (h.2.1.2.2.1 up).2 (by decide +kernel)

theorem wit_shutdown (h : Obligations.BoardAndTestAccess) : type_of% ((h.2.1.2.2.2.1 p1 _).1) :=
  (h.2.1.2.2.2.1 p1 (by decide +kernel)).1

theorem wit_power_loss (h : Obligations.BoardAndTestAccess) : type_of% ((h.2.1.2.2.2.1 p1 _).2) :=
  (h.2.1.2.2.2.1 p1 (by decide +kernel)).2

theorem wit_i3c (h : Obligations.BoardAndTestAccess) : type_of% ((h.2.1.2.2.2.2 up 0x33 _ _ _ _).1) :=
  (h.2.1.2.2.2.2 up 0x33 (by decide +kernel) (by decide +kernel) (by decide +kernel) (by decide +kernel)).1

theorem wit_i3c_all (h : Obligations.BoardAndTestAccess) : type_of% ((h.2.1.2.2.2.2 up 0x33 _ _ _ _).2.1) :=
  (h.2.1.2.2.2.2 up 0x33 (by decide +kernel) (by decide +kernel) (by decide +kernel) (by decide +kernel)).2.1

theorem wit_i3c_other (h : Obligations.BoardAndTestAccess) : type_of% ((h.2.1.2.2.2.2 up 0x33 _ _ _ _).2.2 0x30 _) :=
  (h.2.1.2.2.2.2 up 0x33 (by decide +kernel) (by decide +kernel) (by decide +kernel) (by decide +kernel)).2.2 0x30 (by decide +kernel)

theorem wit_tap_reset (h : Obligations.BoardAndTestAccess) : type_of% ((h.2.2.1 (tapSt 4) true false [] _).1 true) :=
  (h.2.2.1 (tapSt 4) true false [] (by decide +kernel)).1 true

theorem wit_tap_rise (h : Obligations.BoardAndTestAccess) : type_of% ((h.2.2.1 (tapSt 4) true false [] _).2.1) :=
  (h.2.2.1 (tapSt 4) true false [] (by decide +kernel)).2.1

theorem wit_tap_fall (h : Obligations.BoardAndTestAccess) : type_of% ((h.2.2.1 (tapSt 4) true false [] _).2.2) :=
  (h.2.2.1 (tapSt 4) true false [] (by decide +kernel)).2.2

theorem wit_tap_capture_dr (h : Obligations.BoardAndTestAccess) : type_of% ((h.2.2.2 (tapSt 3).brd.tap true true [true]).1 _) :=
  (h.2.2.2 (tapSt 3).brd.tap true true [true]).1 (by decide +kernel)

theorem wit_tap_shift_dr (h : Obligations.BoardAndTestAccess) : type_of% ((h.2.2.2 (tapSt 4).brd.tap true true [true]).2.1 _) :=
  (h.2.2.2 (tapSt 4).brd.tap true true [true]).2.1 (by decide +kernel)

theorem wit_tap_capture_ir (h : Obligations.BoardAndTestAccess) : type_of% ((h.2.2.2 (tapSt 10).brd.tap true true [true]).2.2.1 _) :=
  (h.2.2.2 (tapSt 10).brd.tap true true [true]).2.2.1 (by decide +kernel)

theorem wit_tap_shift_ir (h : Obligations.BoardAndTestAccess) : type_of% ((h.2.2.2 (tapSt 11).brd.tap true true [true]).2.2.2.1 _) :=
  (h.2.2.2 (tapSt 11).brd.tap true true [true]).2.2.2.1 (by decide +kernel)

theorem wit_tap_idle (h : Obligations.BoardAndTestAccess) : type_of% ((h.2.2.2 (tapSt 1).brd.tap true true [true]).2.2.2.2.1 _) :=
  (h.2.2.2 (tapSt 1).brd.tap true true [true]).2.2.2.2.1 (by decide +kernel)

theorem wit_tap_out_dr (h : Obligations.BoardAndTestAccess) : type_of% ((h.2.2.2 (tapSt 4).brd.tap true true [true]).2.2.2.2.2.1 _) :=
  (h.2.2.2 (tapSt 4).brd.tap true true [true]).2.2.2.2.2.1 (by decide +kernel)

theorem wit_tap_out_ir (h : Obligations.BoardAndTestAccess) : type_of% ((h.2.2.2 (tapSt 11).brd.tap true true [true]).2.2.2.2.2.2.1 _) :=
  (h.2.2.2 (tapSt 11).brd.tap true true [true]).2.2.2.2.2.2.1 (by decide +kernel)

theorem wit_tap_update_ir (h : Obligations.BoardAndTestAccess) : type_of% ((h.2.2.2 (tapSt 15).brd.tap true true [true]).2.2.2.2.2.2.2.1 _) :=
  (h.2.2.2 (tapSt 15).brd.tap true true [true]).2.2.2.2.2.2.2.1 (by decide +kernel)

theorem wit_tap_update_dr (h : Obligations.BoardAndTestAccess) : type_of% ((h.2.2.2 (tapSt 8).brd.tap true true [true]).2.2.2.2.2.2.2.2.1 _) :=
  (h.2.2.2 (tapSt 8).brd.tap true true [true]).2.2.2.2.2.2.2.2.1 (by decide +kernel)

theorem wit_tap_quiet (h : Obligations.BoardAndTestAccess) : type_of% ((h.2.2.2 (tapSt 1).brd.tap true true [true]).2.2.2.2.2.2.2.2.2.1 _) :=
  (h.2.2.2 (tapSt 1).brd.tap true true [true]).2.2.2.2.2.2.2.2.2.1 (by decide +kernel)

/-- The instruction codes are free values (log entry 44): the witness takes the one condition on them. -/
theorem wit_tap_idcode (h : Obligations.BoardAndTestAccess) (e : tapSelect (tapSt 3).brd.tap.ir = 1) :
    type_of% ((h.2.2.2 (tapSt 3).brd.tap true true [true]).2.2.2.2.2.2.2.2.2.2.1 e) :=
  (h.2.2.2 (tapSt 3).brd.tap true true [true]).2.2.2.2.2.2.2.2.2.2.1 e
/-- The instruction codes are free values (log entry 44): the witness takes the one condition on them. -/
theorem wit_tap_sample (h : Obligations.BoardAndTestAccess) (e : tapSelect (tapSt 3).brd.tap.ir = 2) :
    type_of% ((h.2.2.2 (tapSt 3).brd.tap true true [true]).2.2.2.2.2.2.2.2.2.2.2.1 e) :=
  (h.2.2.2 (tapSt 3).brd.tap true true [true]).2.2.2.2.2.2.2.2.2.2.2.1 e
/-- The instruction codes are free values (log entry 44): the witness takes the one condition on them. -/
theorem wit_tap_bypass (h : Obligations.BoardAndTestAccess) (e : tapSelect (tapSt 3).brd.tap.ir = 0) :
    type_of% ((h.2.2.2 (tapSt 3).brd.tap true true [true]).2.2.2.2.2.2.2.2.2.2.2.2 e) :=
  (h.2.2.2 (tapSt 3).brd.tap true true [true]).2.2.2.2.2.2.2.2.2.2.2.2 e

/-! ### Witnesses: PacketEncodings -/

theorem wit_memword (h : Obligations.PacketEncodings) : type_of% (h.1 (mw 0x40) _) :=
  h.1 (mw 0x40) (by decide +kernel)

theorem wit_memword_host (h : Obligations.PacketEncodings) : type_of% (h.1 sw _) :=
  h.1 sw (by decide +kernel)

theorem wit_memword_read (h : Obligations.PacketEncodings) : type_of% (h.2.1 (memWordBits (mw 0x40)) (mw 0x40) _) :=
  h.2.1 (memWordBits (mw 0x40)) (mw 0x40) (by decide +kernel)

theorem wit_memword_none (h : Obligations.PacketEncodings) : type_of% (h.2.2.1 (2 ^ 63 + 2 ^ 62) _) :=
  h.2.2.1 (2 ^ 63 + 2 ^ 62) (by decide +kernel)

theorem wit_head_all (h : Obligations.PacketEncodings) : type_of% (h.2.2.2.1 pkRead 0 0 _ _ _ _) :=
  h.2.2.2.1 pkRead 0 0 (by decide +kernel) (by decide +kernel) (by decide +kernel) (by decide +kernel)

theorem wit_head_req (h : Obligations.PacketEncodings) : type_of% ((h.2.2.2.2.1 pkRead 0 0).1 _ _) :=
  (h.2.2.2.2.1 pkRead 0 0).1 (by decide +kernel) (by decide +kernel)

theorem wit_head_line (h : Obligations.PacketEncodings) : type_of% ((h.2.2.2.2.1 pkLine 0 0).2.1 3 0 true [1, 2, 3] 0 _ _) :=
  (h.2.2.2.2.1 pkLine 0 0).2.1 3 0 true [1, 2, 3] 0 (by decide +kernel) (by decide +kernel)

theorem wit_head_rsp (h : Obligations.PacketEncodings) : type_of% ((h.2.2.2.2.1 { pkRead with cls := 3, body := .rsp 1 (.dataWord {}) } 0 0).2.2.1 1 (.dataWord {}) _ _ _) :=
  (h.2.2.2.2.1 { pkRead with cls := 3, body := .rsp 1 (.dataWord {}) } 0 0).2.2.1 1 (.dataWord {}) (by decide +kernel) (by decide +kernel) (by decide +kernel)

theorem wit_head_mgmt (h : Obligations.PacketEncodings) : type_of% ((h.2.2.2.2.1 { pkRead with cls := 0, body := .placeInvAck } 0 0).2.2.2 3 _ _) :=
  (h.2.2.2.2.1 { pkRead with cls := 0, body := .placeInvAck } 0 0).2.2.2 3 (by decide +kernel) (by decide +kernel)

theorem wit_toks_flit (h : Obligations.PacketEncodings) : type_of% (h.2.2.2.2.2.1 pkToks 3 tok2 false _ _ _ _) :=
  h.2.2.2.2.2.1 pkToks 3 tok2 false (by decide +kernel) (by decide +kernel) (by decide +kernel) (by decide +kernel)

theorem wit_act_flit (h : Obligations.PacketEncodings) : type_of% (h.2.2.2.2.2.2 pkAct 3 0x12345 tok2 _ _ _ _ _) :=
  h.2.2.2.2.2.2 pkAct 3 0x12345 tok2 (by decide +kernel) (by decide +kernel) (by decide +kernel) (by decide +kernel) (by decide +kernel)

end Sys2Proof.Tests
end

section
/-! PROOF. BAR0 accesses (R13, R15, R34, R35): how a write and a read that an accessor makes turn out, said once for each case of
the checks of Table 1.12, and the words that reach a register. -/

namespace Sys2Proof.Machine

/-! ### The words of a write -/

/-- A field that lies in the low `n` bits reads the same from them. -/
theorem bits_mod_two_pow {hi lo n : Nat} (hl : lo ≤ hi) (hn : hi < n) (v : Nat) : bits (v % 2 ^ n) hi lo = bits v hi lo := by
  unfold bits
  apply Nat.eq_of_testBit_eq
  intro i
  simp only [Nat.testBit_mod_two_pow, Nat.testBit_shiftRight]
  by_cases hi' : i < hi - lo + 1
  · have : lo + i < n := by omega
    simp [this]
  · simp [hi']

/-- The words that a write brings to the register that holds its offset. -/
abbrev broughtWords (s : State) (off size v : Nat) : Nat × Nat := written ((bar0Word s (off / 8 * 8)).getD 0) off size v

/-- A write of eight bytes brings the value as a whole. -/
theorem broughtWords_whole (s : State) (off v : Nat) : broughtWords s off 8 v = (v % 2 ^ 64, v % 2 ^ 64) := by simp [written]

/-! ### The checks of an access (Table 1.12) -/

section Checks
variable (s : State) (b off size : Nat) (wr : Bool)

/-- The first check is that of size and alignment, whoever makes the access. -/
theorem accessFault_of_bad_form (a : Accessor) (h : (size ≠ 4 ∧ size ≠ 8) ∨ off % size ≠ 0) :
    accessFault s a off size wr = some 1 := by
  have hform : (!((decide (size = 4) || decide (size = 8)) && decide (off % size = 0))) = true := by
    rcases h with ⟨h4, h8⟩ | h0
    · simp [h4, h8]
    · simp [h0]
  simp only [accessFault, hform, if_true]

variable {off size}

/-- A well-formed access passes the check of size and alignment. -/
theorem form_ok (hs : size = 4 ∨ size = 8) (ha : off % size = 0) :
    (!((decide (size = 4) || decide (size = 8)) && decide (off % size = 0))) = false := by
  rcases hs with h | h <;> simp [h] at ha ⊢ <;> exact ha

/-- A virtual function writes nothing. -/
theorem accessFault_of_virtual_write {f : Nat} (hs : size = 4 ∨ size = 8) (ha : off % size = 0) (hf : f ≠ 0) :
    accessFault s (.fn b f) off size true = some 3 := by
  simp [accessFault, form_ok hs ha, hf]

/-- In Safe the physical function reaches no register behind the fault window. -/
theorem accessFault_of_safe (hs : size = 4 ∨ size = 8) (ha : off % size = 0) (hsafe : inSafe s = true) (ho : 0x40000 ≤ off) :
    accessFault s (.fn b 0) off size wr = some 2 := by
  simp [accessFault, form_ok hs ha, hsafe, ho]

/-- The physical function reaches a register that lies outside the TIL windows, and that Safe does not close. -/
theorem accessFault_none_of_register (hs : size = 4 ∨ size = 8) (ha : off % size = 0) (hsafe : inSafe s = false ∨ off < 0x40000)
    (ht : tilWindow off = none) (hr : (bar0Word s (off / 8 * 8)).isSome = true) :
    accessFault s (.fn b 0) off size wr = none := by
  have hopen : (inSafe s && decide (0x40000 ≤ off)) = false := by
    rcases hsafe with h | h
    · simp [h]
    · have : ¬ 0x40000 ≤ off := by omega
      simp [this]
  have hreg : (bar0Word s (off / 8 * 8)).isNone = false := by
    cases hw : bar0Word s (off / 8 * 8) with
    | none => simp [hw] at hr
    | some w => rfl
  simp [accessFault, form_ok hs ha, hopen, ht, hreg]

end Checks

/-! ### How a write and a read end -/

section Outcomes
variable {s : State} {b f off size v : Nat}

/-- REGISTER_WRITE is a BAR0 write. -/
theorem exec_registerWrite (a : Accessor) : exec (.registerWrite a off size v) s = .next (kept s (bar0Write s a off size v)) := rfl

/-- BAR0_INVALID_ACCESS is a BAR0 access. -/
theorem exec_bar0InvalidAccess (a : Accessor) (x : Option Nat) :
    exec (.bar0InvalidAccess a off size x) s = .next (kept s (bar0Access s a off size x)) := rfl

/-- A logged access touches neither the queue nor the fuses, so settling it changes nothing. -/
@[simp] theorem kept_logAccess (r : Nat) : kept s (logAccess s b f off r) = logAccess s b f off r := rfl

/-- A write that fails a check is logged with the reason, and does nothing else. -/
theorem bar0Write_of_fault {r : Nat} (hp : accessorPresent s (.fn b f) = true) (hr : accessFault s (.fn b f) off size true = some r) :
    bar0Write s (.fn b f) off size v = logAccess s b f off r := by
  simp [bar0Write, hp, hr, logBy, accessPort]

/-- A read that fails a check is logged with the reason and returns zero. -/
theorem bar0Read_of_fault {r : Nat} (hp : accessorPresent s (.fn b f) = true) (hr : accessFault s (.fn b f) off size false = some r) :
    bar0Read s (.fn b f) off size = emit (logAccess s b f off r) (.readData b f 0) := by
  simp [bar0Read, hp, hr, logBy, accessPort, accessFn, readReturn]

/-- A write that passes the checks does what its register gives it; one that the register refuses is logged with reason 5. -/
theorem bar0Write_of_register (hp : accessorPresent s (.fn b f) = true) (hr : accessFault s (.fn b f) off size true = none)
    (hd : spoorOther (off / 8 * 8) = false) :
    bar0Write s (.fn b f) off size v =
      (pfWrite s b (off / 8 * 8) (broughtWords s off size v).1 (broughtWords s off size v).2).getD (logAccess s b f off 5) := by
  cases hw : pfWrite s b (off / 8 * 8) (broughtWords s off size v).1 (broughtWords s off size v).2 <;>
    simp [bar0Write, hp, hr, hd, hw, logBy, accessPort]

/-- A write of a register of eight bytes brings it the value as a whole. -/
theorem bar0Write_whole (hp : accessorPresent s (.fn b 0) = true) (hoff : off / 8 * 8 = off) (hsafe : inSafe s = false ∨ off < 0x40000)
    (ht : tilWindow off = none) (hw : (bar0Word s off).isSome = true) (hd : spoorOther off = false) :
    bar0Write s (.fn b 0) off 8 v = (pfWrite s b off (v % 2 ^ 64) (v % 2 ^ 64)).getD (logAccess s b 0 off 5) := by
  have hr : accessFault s (.fn b 0) off 8 true = none :=
    accessFault_none_of_register s b true (.inr rfl) (by omega) hsafe ht (by rw [hoff]; exact hw)
  rw [bar0Write_of_register hp hr (by rw [hoff]; exact hd), broughtWords_whole, hoff]

/-! ### A write by the firmware and by a monitor function -/

/-- The firmware's write that its register takes has its effect, and its status says so. -/
theorem bar0Write_supervisor_accepted {t : State} (hf : fwRuns s = true) (hc : clocked s = true)
    (ht : supWrite s (off / 8 * 8) (broughtWords s off size v).1 (broughtWords s off size v).2 = some t) :
    bar0Write s .supervisor off size v = emit t (.fwStatus true) := by
  simp [bar0Write, hf, hc, ht]

/-- The firmware's write that its register refuses has no effect but its status. -/
theorem bar0Write_supervisor_refused (hf : fwRuns s = true) (hc : clocked s = true)
    (ht : supWrite s (off / 8 * 8) (broughtWords s off size v).1 (broughtWords s off size v).2 = none) :
    bar0Write s .supervisor off size v = emit s (.fwStatus false) := by
  simp [bar0Write, hf, hc, ht]

/-- A monitor function's write is counted and has no other effect. -/
theorem bar0Write_monitor (hp : accessorPresent s (.monitor b) = true) :
    bar0Write s (.monitor b) off size v = setHif s b { hifAt s b with monWrites := ((hifAt s b).monWrites + 1) % 2 ^ 32 } := by
  simp [bar0Write, hp]

end Outcomes

/-! ### Three registers of the physical function -/

section Registers
variable (s : State) (b : Nat)

/-- NOC.E2E_CTRL is a register. -/
theorem bar0Word_e2eCtrl : (bar0Word s 0x200008).isSome = true := by
  simp [bar0Word, nocWord, inArrays, one, slotOf]

/-- CLR.ACCESS_ERR is a register. -/
theorem bar0Word_accessErr : (bar0Word s 0x40).isSome = true := by
  simp [bar0Word, clrWord, inArrays, one, slotOf]

/-- CLR.FOREST_TIME is a register. -/
theorem bar0Word_forestTime : (bar0Word s 0x30).isSome = true := by
  simp [bar0Word, clrWord, inArrays, one, slotOf]

variable {s b}

/-- A write of NOC.E2E_CTRL changes its two fields, or is refused. -/
theorem bar0Write_e2eCtrl (hp : accessorPresent s (.fn b 0) = true) (hsafe : inSafe s = false) (v : Nat) :
    bar0Write s (.fn b 0) 0x200008 8 v = (e2eSet s v).getD (logAccess s b 0 0x200008 5) := by
  rw [bar0Write_whole hp rfl (.inl hsafe) rfl (bar0Word_e2eCtrl s) rfl]
  have hset : pfWrite s b 0x200008 (v % 2 ^ 64) (v % 2 ^ 64) = e2eSet s (v % 2 ^ 64) := by simp [pfWrite]
  have hfields : e2eSet s (v % 2 ^ 64) = e2eSet s v := by
    unfold e2eSet
    rw [bits_mod_two_pow (by decide) (by decide), bits_mod_two_pow (by decide) (by decide)]
  rw [hset, hfields]

/-- A write of CLR.ACCESS_ERR clears what it writes as 1, in every mode. -/
theorem bar0Write_accessErr (hp : accessorPresent s (.fn b 0) = true) (v : Nat) :
    bar0Write s (.fn b 0) 0x40 8 v = accessErrSet s (v % 2 ^ 64) := by
  rw [bar0Write_whole hp rfl (.inr (by decide)) rfl (bar0Word_accessErr s) rfl]
  simp [pfWrite]

/-- CLR.FOREST_TIME ignores a write. -/
theorem bar0Write_forestTime (hp : accessorPresent s (.fn b 0) = true) (v : Nat) : bar0Write s (.fn b 0) 0x30 8 v = s := by
  rw [bar0Write_whole hp rfl (.inr (by decide)) rfl (bar0Word_forestTime s) rfl]
  simp [pfWrite, slotOf]

/-- A 1 in VALID's place clears the record and keeps OVERFLOW. -/
theorem accessErrSet_valid : accessErrSet s 1 = { s with clr := { s.clr with accessErr := { overflow := s.clr.accessErr.overflow } } } := by
  simp [accessErrSet, bit]

end Registers

/-! ### The access log -/

section Log
variable {s : State} {b f off r : Nat}

/-- A full log keeps its record and notes the loss. -/
theorem logAccess_of_valid (h : s.clr.accessErr.valid = true) :
    logAccess s b f off r = { s with clr := { s.clr with accessErr := { s.clr.accessErr with overflow := true } } } := by
  simp [logAccess, h]

/-- An empty log takes the record. -/
theorem logAccess_of_empty (h : s.clr.accessErr.valid = false) : (logAccess s b f off r).clr.accessErr =
    { offset := off / 4 % 2 ^ 24, fn := f, port := b, reason := r, valid := true, overflow := s.clr.accessErr.overflow } := by
  simp [logAccess, h]

end Log

end Sys2Proof.Machine
end

section
/-! PROOF. The state after reset, and the register accesses of chapters 0 and 1. -/

namespace Sys2Proof.Machine

/-! ### The state after reset -/

/-- Every part's fuses come from themselves: nothing is blown yet. -/
theorem fusesFrom_self (s : State) : FusesFrom s.fuses s := ⟨Nat.le_refl _, fun _ h => h, rfl⟩

/-- Each field of the block's reset state is the reset value of its field table. -/
theorem resetStateFields : ResetStateFields := by
  unfold ResetStateFields
  and_intros <;> rfl

/-! ### Register accesses -/

/-- The write of NOC.E2E_CTRL that is accepted and the one that is refused, the two registers of the CLR block, the two checks that
fail before a register is reached, and the write that passes them all. -/
theorem registerWrites : RegisterWrites := by
  intro s b v hp
  refine ⟨fun hsafe hrep htime => ?accepted, fun hsafe hbad => ?refused, ?accessErr, ?forestTime,
    fun f off size hf hs ha hpf => ?virtual, fun off size hform => ?badForm, fun off size t hr hd ht => ?effect⟩
  case accepted =>
    have hset : e2eSet s v = some { s with noc := { s.noc with repeats := bits v 19 16, timeout := bits v 15 0 } } := by
      simp [e2eSet, hrep, htime]
    rw [exec_registerWrite, bar0Write_e2eCtrl hp hsafe, hset]
    rfl
  case refused =>
    have hset : e2eSet s v = none := by
      rcases hbad with h | h
      · simp [e2eSet, Nat.not_le.mpr h]
      · simp [e2eSet, h]
    rw [exec_registerWrite, bar0Write_e2eCtrl hp hsafe, hset, Option.getD_none, kept_logAccess]
  case accessErr =>
    rw [exec_registerWrite, bar0Write_accessErr hp, Nat.mod_eq_of_lt (by decide), accessErrSet_valid]
    rfl
  case forestTime =>
    rw [exec_registerWrite, bar0Write_forestTime hp]
    rfl
  case virtual => rw [exec_registerWrite, bar0Write_of_fault hpf (accessFault_of_virtual_write s b hs ha hf), kept_logAccess]
  case badForm => rw [exec_registerWrite, bar0Write_of_fault hp (accessFault_of_bad_form s off size true _ hform), kept_logAccess]
  case effect => rw [exec_registerWrite, bar0Write_of_register hp hr hd, ht, Option.getD_some]

/-- The firmware's write in its two outcomes, and the monitor function's. -/
theorem otherWrites : OtherWrites := by
  refine ⟨fun s off size v hf hc => ⟨fun t ht => ?accepted, fun ht => ?refused⟩, fun s b off size v hp => ?monitor⟩
  case accepted => rw [exec_registerWrite, bar0Write_supervisor_accepted hf hc ht]
  case refused =>
    rw [exec_registerWrite, bar0Write_supervisor_refused hf hc ht]
    rfl
  case monitor =>
    rw [exec_registerWrite, bar0Write_monitor hp]
    rfl

/-- An access that fails a check, the checks that have a case of their own, and the log in its two states. -/
theorem invalidAccesses : InvalidAccesses := by
  refine ⟨fun s b f off size reason v hp => ⟨fun hr => ?write, fun hr => ?read⟩,
    fun s b f off size wr => ⟨accessFault_of_bad_form s off size wr _, accessFault_of_virtual_write s b, accessFault_of_safe s b wr⟩,
    fun s b f off reason => ⟨logAccess_of_valid, logAccess_of_empty⟩⟩
  case write => rw [exec_bar0InvalidAccess, bar0Access, bar0Write_of_fault hp hr, kept_logAccess]
  case read =>
    rw [exec_bar0InvalidAccess, bar0Access, bar0Read_of_fault hp hr]
    rfl

/-- Settles O5: the reset state reads as the record of reset values, and its fuses are its own. -/
theorem resetState : Obligations.ResetState := ⟨fusesFrom_self State.reset, resetStateFields⟩

/-- Settles O27, from how a write and a read end in each case of the checks. -/
theorem registerAccesses : Obligations.RegisterAccesses := ⟨registerWrites, otherWrites, invalidAccesses⟩

end Sys2Proof.Machine
end

section
/-! PROOF. What a core cycle leaves of the clocks: none of the activities that go on in it by themselves touches the time counters or the
clocks, said once for each operation, up to the schedulers and the ledger's controller (log entry 1, R29). -/

namespace Sys2Proof.Machine

/-- Block CLR, which holds forest time, and the clocks with their counters are as before. -/
@[simp] abbrev SameClocks (s t : State) : Prop := t.clr = s.clr ∧ t.clk = s.clk

/-- The relation of two successive effects. -/
theorem SameClocks.trans {s t x : State} (h : SameClocks s t) (h' : SameClocks t x) : SameClocks s x :=
  ⟨h'.1.trans h.1, h'.2.trans h.2⟩

/-- What each step of a fold keeps, the fold keeps. -/
theorem foldl_clocks {α : Type} (s : State) {f : State → α → State} (h : ∀ t a, SameClocks t (f t a)) (l : List α) :
    SameClocks s (l.foldl f s) :=
  List.foldlRecOn l f (motive := SameClocks s) ⟨rfl, rfl⟩ (fun t ht a _ => ht.trans (h t a))

variable (s : State) (u : Nat)

/-! ### Fault messages, packets and requests -/

@[simp] theorem raiseAbout_clocks (kind reporter subject : Nat) (part : Option Nat) (addr detail : Nat) (orphan : Option Nat) :
    SameClocks s (raiseAbout s kind reporter subject part addr detail orphan) := ⟨rfl, rfl⟩

@[simp] theorem raise_clocks (kind reporter : Nat) (part : Option Nat) (addr detail : Nat) :
    SameClocks s (raise s kind reporter part addr detail) := ⟨rfl, rfl⟩

@[simp] theorem tagBump_clocks (src part target : Nat) : SameClocks s (tagBump s src part target) := ⟨rfl, rfl⟩

@[simp] theorem sendNow_clocks (o : OutReq) : SameClocks s (sendNow s o) := by
  unfold sendNow
  split <;> simp

@[simp] theorem sendReq_clocks (o : OutReq) : SameClocks s (sendReq s o) := by
  unfold sendReq
  split <;> simp

@[simp] theorem flushList_clocks (l : List OutReq) : SameClocks s (flushList s l) := by
  induction l generalizing s with
  | nil => exact ⟨rfl, rfl⟩
  | cons o r ih => exact (sendReq_clocks s o).trans (ih _)

@[simp] theorem flushWait_clocks : SameClocks s (flushWait s) := by simp [flushWait]

/-! ### The send units (R96) -/

@[simp] theorem arriveToken_clocks (src part gen : Nat) (handle : Option Nat) (tok : Token) :
    SameClocks s (arriveToken s u src part gen handle tok) := by
  dsimp only [arriveToken]
  split
  · simp
  · cases handle <;> simp [sendMgmt]

@[simp] theorem launchToken_clocks (e : PlaceEntry) (tok : Token) : SameClocks s (launchToken s u e tok) := by simp [launchToken]

@[simp] theorem askPlace_clocks (part vt : Nat) (avoid : Option Nat) : SameClocks s (askPlace s u part vt avoid) := by
  dsimp only [askPlace]
  split <;> simp

@[simp] theorem sendHead_clocks (e : SendEnt) : SameClocks s (sendHead s u e).1 := by
  dsimp only [sendHead]
  split
  · simp
  · split
    · split <;> simp
    · split
      · split <;> simp
      · simp

@[simp] theorem drainList_clocks (l : List SendEnt) : SameClocks s (drainList s u l) := by
  induction l generalizing s with
  | nil => simp [drainList]
  | cons e r ih =>
    have hhead := sendHead_clocks s u e
    dsimp only [drainList]
    split
    · exact hhead.trans (ih _)
    · exact hhead

@[simp] theorem drainSends_clocks : SameClocks s (drainSends s u) := by simp [drainSends]

theorem sendTick_clocks : SameClocks s (sendTick s) := by
  dsimp only [sendTick]
  split
  · exact (foldl_clocks s drainSends_clocks _).trans (flushWait_clocks _)
  · exact ⟨rfl, rfl⟩

/-! ### Frames, kernels and transfers (R143, R189) -/

@[simp] theorem writeReg_clocks (w : KWrite) : SameClocks s (writeReg s u w) := by
  unfold writeReg
  split <;> simp

@[simp] theorem writeRegs_clocks (l : List KWrite) : SameClocks s (writeRegs s u l) := foldl_clocks s (fun t => writeReg_clocks t u) l

@[simp] theorem meetFrameErr_clocks (w : Nat) : SameClocks s (meetFrameErr s u w) := by
  dsimp only [meetFrameErr]
  split <;> simp

@[simp] theorem frameWrite_clocks (pa n v : Nat) (poison : Bool) : SameClocks s (frameWrite s u pa n v poison) := by
  dsimp only [frameWrite]
  split <;> simp

@[simp] theorem frameWriteWords_clocks (pa k v poison : Nat) : SameClocks s (frameWriteWords s u pa k v poison) := by
  induction k generalizing s pa v poison with
  | zero => exact ⟨rfl, rfl⟩
  | succ j ih => exact (frameWrite_clocks s u pa 8 _ _).trans (ih ..)

@[simp] theorem landStore_clocks (x : KStore) : SameClocks s (landStore s u x) := by simp [landStore]

@[simp] theorem settleKern_clocks (c : Nat) : SameClocks s (settleKern s u c) :=
  (writeRegs_clocks s u _).trans (foldl_clocks _ (fun t => landStore_clocks t u) _)

@[simp] theorem drainKern_clocks : SameClocks s (drainKern s u) := settleKern_clocks s u _

@[simp] theorem stopKernel_clocks : SameClocks s (stopKernel s u) := ⟨rfl, rfl⟩

@[simp] theorem modXfer_clocks (k : Nat) (f : Xfer → Xfer) : SameClocks s (modXfer s u k f) := ⟨rfl, rfl⟩

@[simp] theorem sweepXfer_clocks (k : Nat) : SameClocks s (sweepXfer s u k) := by
  unfold sweepXfer
  split
  · split <;> simp
  · simp

/-- A transfer that fails keeps the clocks where the making of its record does. -/
theorem xferFaultBy_clocks (x : Xfer) {rec : State → Option Nat → State} (h : ∀ t orphan, SameClocks t (rec t orphan)) :
    SameClocks s (xferFaultBy s u x rec) := by
  cases hmine : (tileAt s u).kern.running && decide ((tileAt s u).kern.id = x.kern) <;> simp [xferFaultBy, hmine, h]

@[simp] theorem xferFault_clocks (x : Xfer) (kind addr : Nat) : SameClocks s (xferFault s u x kind addr) :=
  xferFaultBy_clocks s u x (fun t _ => raiseAbout_clocks t ..)

@[simp] theorem xferLanded_clocks (k : Nat) : SameClocks s (xferLanded s u k) := by simp [xferLanded]

@[simp] theorem writeXferLine_clocks (line : Nat) (data : List Byte) (poison : Nat) (recv : Option Nat) :
    SameClocks s (writeXferLine s u line data poison recv) := by
  cases recv <;> simp [writeXferLine]

@[simp] theorem landOwn_clocks (part line xfer : Nat) (data : List Byte) (poison : Nat) (recv : Option Nat) :
    SameClocks s (landOwn s u part line xfer data poison recv) := by
  unfold landOwn
  split
  · split
    · split <;> simp
    · simp
  · simp

@[simp] theorem landOwnLines_clocks : SameClocks s (landOwnLines s u) := by
  refine foldl_clocks s (fun t p => ?_) _
  split <;> simp

theorem dmaTick_clocks : SameClocks s (dmaTick s) := foldl_clocks s landOwnLines_clocks _

/-! ### Custody's commit and the ledger (R452, R548) -/

@[simp] theorem queueWrite_clocks (w : LWrite) : SameClocks s (queueWrite s w) := by
  unfold queueWrite
  split <;> simp

@[simp] theorem writeSettings_clocks (bound : Nat) : SameClocks s (writeSettings s bound) := by simp [writeSettings]

@[simp] theorem writeKeys_clocks (change : Nat) : SameClocks s (writeKeys s change) := by simp [writeKeys]

@[simp] theorem writeCommit_clocks (id kind part : Nat) (remove : Bool) (digest : Nat) :
    SameClocks s (writeCommit s id kind part remove digest) := by simp [writeCommit]

@[simp] theorem closeStage_clocks (st : Stage) (status reason : Nat) (kind : Option Nat) :
    SameClocks s (closeStage s st status reason kind) := by
  cases kind <;> simp [closeStage, custodyRaise, tellBoth, klbHear]

@[simp] theorem finishCommit_clocks (st : Stage) : SameClocks s (finishCommit s st) := by
  dsimp only [finishCommit]
  split <;> simp [putKey, eraseKeys, custodyState, custodyRaise]

theorem settleCommit_clocks : SameClocks s (settleCommit s) := by
  unfold settleCommit
  split
  · simp
  · split
    · simp
    · split
      · split <;> simp
      · simp

@[simp] theorem ledgerSecond_clocks : SameClocks s (ledgerSecond s) := by
  dsimp only [ledgerSecond]
  split <;> simp [modCount]

theorem ledgerTick_clocks : SameClocks s (ledgerTick s) := by
  unfold ledgerTick
  split
  · simp
  · split <;> simp

@[simp] theorem startWrite_clocks (w : LWrite) : SameClocks s (startWrite s w).1 := by
  dsimp only [startWrite]
  split <;> simp [setLdgRing]

@[simp] theorem wearCheck_clocks (r : Nat) : SameClocks s (wearCheck s r) := by
  dsimp only [wearCheck]
  split <;> simp [ldgRaise, setLdgRing]

@[simp] theorem writeLine_clocks (w : LWrite) (c : Nat) (l : List Byte) (rest : List (Nat × List Byte)) :
    SameClocks s (writeLine s w c l rest).1 := by
  dsimp only [writeLine]
  split
  · simp [ldgRaise]
  · split <;> simp [ldgRaise, markBad, putArrayLine, setLdgRing]

@[simp] theorem finishWrite_clocks (w : LWrite) : SameClocks s (finishWrite s w) := by
  unfold finishWrite
  split
  · simp
  · exact foldl_clocks _ (fun t _ => ⟨emit_clr t _, emit_clk t _⟩) _
  · simp [modCount]
  · simp

theorem ledgerDrain_clocks : SameClocks s (ledgerDrain s) := by
  dsimp only [ledgerDrain]
  split
  · simp
  · split
    · simp
    · split
      · split <;> simp [ldgRaise]
      · split
        · simp
        · split <;> simp

/-! ### The schedulers (R229, R245, R286) -/

@[simp] theorem leaveStores_clocks (i : Nat) : SameClocks s (leaveStores s i) := ⟨rfl, rfl⟩

@[simp] theorem spoorSend_clocks (r : SpoorRec) : SameClocks s (spoorSend s r) := ⟨rfl, rfl⟩

@[simp] theorem spoor_clocks (i event unit status vt detail : Nat) : SameClocks s (spoor s i event unit status vt detail) := ⟨rfl, rfl⟩

@[simp] theorem sendContextRelease_clocks (i : Nat) : SameClocks s (sendContextRelease s i) := by
  dsimp only [sendContextRelease]
  split
  · simp
  · split <;> simp [askContextRelease]

@[simp] theorem sendHostCompletion_clocks (i : Nat) : SameClocks s (sendHostCompletion s i) := by
  dsimp only [sendHostCompletion]
  split <;> simp

@[simp] theorem sendDecrement_clocks (i h : Nat) (failed : Bool) : SameClocks s (sendDecrement s i h failed) := by
  dsimp only [sendDecrement]
  split <;> simp

@[simp] theorem retireEffects_clocks (i : Nat) : SameClocks s (retireEffects s i) := by simp [retireEffects]

@[simp] theorem acceptCompletion_clocks (i : Nat) (failed : Bool) (status : Nat) (kind : Option Nat) :
    SameClocks s (acceptCompletion s i failed status kind) := by
  dsimp only [acceptCompletion]
  split <;> simp [freeSlot]

@[simp] theorem retireFailed_clocks (i kind : Nat) : SameClocks s (retireFailed s i kind) := by
  dsimp only [retireFailed]
  split <;> simp

@[simp] theorem failServe_clocks (l : List (Nat × Nat)) : SameClocks s (failServe s l) := by
  induction l generalizing s with
  | nil => exact ⟨rfl, rfl⟩
  | cons x r ih =>
    obtain ⟨h, kind⟩ := x
    dsimp only [failServe]
    split
    · exact (retireFailed_clocks s (h % 2 ^ 16) kind).trans (ih _)
    · exact ih s

@[simp] theorem failNext_clocks : SameClocks s (failNext s) := by simp [failNext]

@[simp] theorem sendStart_clocks (i vt : Nat) : SameClocks s (sendStart s i vt) := by
  unfold sendStart
  split <;> simp

@[simp] theorem pullTo_clocks (k i : Nat) (rq : Rq) (vt : Nat) : SameClocks s (pullTo s k i rq vt) := by simp [pullTo, setRstore]

@[simp] theorem serveTakes_clocks (l : List TakeWait) : SameClocks s (serveTakes s l) := by
  induction l generalizing s with
  | nil => exact ⟨rfl, rfl⟩
  | cons w r ih =>
    unfold serveTakes
    split
    · exact ih s
    · split
      · refine SameClocks.trans ?_ (ih _)
        simp
      · exact ih s

@[simp] theorem settleTakes_clocks : SameClocks s (settleTakes s) := serveTakes_clocks s _

@[simp] theorem makeReady_clocks (i : Nat) : SameClocks s (makeReady s i) := by
  dsimp only [makeReady]
  split <;> simp [freeTake]

@[simp] theorem admitWrite_clocks (i : Nat) (r : Rec) : SameClocks s (admitWrite s i r) := by
  unfold admitWrite
  split <;> simp

@[simp] theorem admitRefuse_clocks (rq : Rq) (r : AdmitReq) (status step : Nat) (kind : Option Nat) :
    SameClocks s (admitRefuse s rq r status step kind).st := by
  cases kind <;> simp [admitRefuse]

/-- The context pool's part of an admission. -/
theorem allocCtx_clocks {s t : State} {p c : Nat} (h : allocCtx s p = some (c, t)) : SameClocks s t := by
  unfold allocCtx at h
  split at h
  · obtain ⟨-, rfl⟩ := Prod.mk.inj (Option.some.inj h)
    exact ⟨rfl, rfl⟩
  · cases h

@[simp] theorem admitTake_clocks (rq : Rq) (req : AdmitReq) (c : WClass) : SameClocks s (admitTake s rq req c).st := by
  dsimp only [admitTake]
  split
  · simp
  · split
    · simp
    · split
      · simp
      · next ctx s1 hctx =>
        have hpool : SameClocks s s1 := by
          split at hctx
          · exact allocCtx_clocks hctx
          · cases hctx
            exact ⟨rfl, rfl⟩
        refine hpool.trans ?_
        split <;> simp

@[simp] theorem admitEval_clocks (rq : Rq) (req : AdmitReq) : SameClocks s (admitEval s rq req).st := by
  dsimp only [admitEval]
  split
  · simp
  · split
    · simp
    · split
      · simp
      · split <;> simp

/-- A request that is looked up keeps the clocks where its evaluation does. -/
theorem lookupReq_clocks (target : Nat) (rq : Rq) {eval : State → Eval} (h : SameClocks s (eval s).st) :
    SameClocks s (lookupReq s target rq eval) := by
  dsimp only [lookupReq]
  split
  · split
    · simp
    · split
      · simp
      · split <;> split <;> simp
  · split <;> split <;> simp [h]

@[simp] theorem admitOne_clocks (rq : Rq) (req : AdmitReq) : SameClocks s (admitOne s rq req) := by
  unfold admitOne cachedReq
  split
  · simp
  · exact lookupReq_clocks s _ rq (admitEval_clocks s rq req)

@[simp] theorem admitServe_clocks (l : List (Rq × AdmitReq)) : SameClocks s (admitServe s l) := by
  induction l generalizing s with
  | nil => exact ⟨rfl, rfl⟩
  | cons x r ih =>
    unfold admitServe
    split
    · exact ⟨rfl, rfl⟩
    · exact (admitOne_clocks s _ _).trans (ih _)

theorem schedTick_clocks : SameClocks s (schedTick s) := by
  dsimp only [schedTick]
  split <;> simp

end Sys2Proof.Machine
end

section
/-! PROOF. An idle step (log entry 1): what it counts (R29, R574). -/

namespace Sys2Proof.Machine

/-- In a core cycle the clocks' counters change as the clocks count it, and by nothing else. -/
theorem tick_clocks (s : State) : SameClocks (clockTick s) (tick s) :=
  (dmaTick_clocks _).trans <| (sendTick_clocks _).trans <| (settleCommit_clocks _).trans <| (ledgerTick_clocks _).trans <|
    (ledgerDrain_clocks _).trans (schedTick_clocks _)

/-- A step with no command waiting is a core cycle. -/
theorem step_of_idle {s : State} (h : s.pending = []) : step s = .next (tick s) := by simp [step, h]

/-- Forest time after a cycle. -/
theorem clockTick_time (s : State) : (clockTick s).clr.time = s.clr.time + (if clocked s then 1 else 0) := by
  simp [clockTick, add_ite]

/-- Supervisor time after a cycle. -/
theorem clockTick_sup (s : State) : (clockTick s).clk.sup = s.clk.sup + (if supClocked s then 1 else 0) := by
  simp [clockTick, add_ite]

/-- Tile time after a cycle: a cycle is gated while forest time modulo 16 lies below the applied level. -/
theorem clockTick_tile (s : State) :
    (clockTick s).clk.tile = s.clk.tile + (if working s ∧ now s % 16 ≥ appliedLevel s then 1 else 0) := by
  have hruns : (working s && !(gated s)) = true ↔ working s ∧ now s % 16 ≥ appliedLevel s := by simp [gated]
  simp only [clockTick, hruns, add_ite, Nat.add_zero]

/-- Settles O2, from what a cycle's activities leave of the clocks. -/
theorem idleStepCountsTime : Obligations.IdleStepCountsTime := by
  intro s hidle
  obtain ⟨hclr, hclk⟩ := tick_clocks s
  refine ⟨tick s, step_of_idle hidle, hidle, ?_, ?_, ?_⟩
  · rw [hclr, clockTick_time]
  · rw [hclk, clockTick_sup]
  · rw [hclk, clockTick_tile]

end Sys2Proof.Machine
end

section
/-! PROOF. BAR0 reads (R31, R35, R580): what a read that passes the checks returns and clears, and the registers that a read changes. -/

namespace Sys2Proof.Machine

section Reads
variable {s : State} {b f off size : Nat}

/-! ### How a read ends -/

/-- REGISTER_READ_CLEAR is a BAR0 read. -/
theorem exec_registerReadClear (a : Accessor) : exec (.registerReadClear a off size) s = .next (kept s (bar0Read s a off size)) := rfl

/-- FOREST_TIME_LOW_READ is a BAR0 read of four bytes. -/
theorem exec_forestTimeLowRead (a : Accessor) : exec (.forestTimeLowRead a) s = .next (kept s (bar0Read s a 0x30 4)) := rfl

/-- So is FOREST_TIME_HIGH_READ. -/
theorem exec_forestTimeHighRead (a : Accessor) : exec (.forestTimeHighRead a) s = .next (kept s (bar0Read s a 0x34 4)) := rfl

/-- The bytes that a read of `size` bytes at `off` returns of the register that holds its offset. -/
abbrev bytesRead (s : State) (off size : Nat) : Nat :=
  if size = 8 then (bar0Word s (off / 8 * 8)).getD 0 else (bar0Word s (off / 8 * 8)).getD 0 / 2 ^ (8 * (off % 8)) % 2 ^ 32

/-- A read of a register outside forest time and the fault collector returns its bytes and clears what a read clears. -/
theorem bar0Read_of_register (hp : accessorPresent s (.fn b f) = true) (hr : accessFault s (.fn b f) off size false = none)
    (hlow : ¬(off = 0x30 ∧ size = 4)) (hhigh : off ≠ 0x34) (hflt : off < 0x20000 ∨ 0x40000 ≤ off) :
    bar0Read s (.fn b f) off size = readReturn (readClear s off size) (.fn b f) (bytesRead s off size) := by
  have hclosed : ¬(0x20000 ≤ off ∧ off < 0x40000) := by omega
  simp only [bar0Read, hp, hr, hlow, hhigh, hclosed, if_false, Bool.not_true, Bool.or_self, Bool.false_eq_true]

/-! ### Forest time by halves (R31) -/

/-- Every function may read forest time, by a half, in every mode. -/
theorem accessFault_forestTime (hoff : off / 8 * 8 = 0x30) (ha : off % 4 = 0) : accessFault s (.fn b f) off 4 false = none := by
  have hview : vfReads s b f 0x30 = true := by simp [vfReads]
  have hopen : ¬ 0x40000 ≤ off := by omega
  have hwin : tilWindow off = none := by rw [tilWindow, if_neg (by omega), if_neg (by omega)]
  have hreg : (bar0Word s 0x30).isNone = false := by
    rw [← Option.not_isSome, bar0Word_forestTime s]
    rfl
  simp [accessFault, ha, hoff, hview, hopen, hwin, hreg]

/-- A read of the low half returns it and keeps the high half in the function's shadow. -/
theorem bar0Read_timeLow (hp : accessorPresent s (.fn b f) = true) : bar0Read s (.fn b f) 0x30 4 = timeLow s (.fn b f) := by
  have hr : accessFault s (.fn b f) 0x30 4 false = none := accessFault_forestTime rfl rfl
  simp [bar0Read, hp, hr]

/-- A read of the high half returns the shadow or the live value. -/
theorem bar0Read_timeHigh (hp : accessorPresent s (.fn b f) = true) : bar0Read s (.fn b f) 0x34 4 = timeHigh s (.fn b f) := by
  have hr : accessFault s (.fn b f) 0x34 4 false = none := accessFault_forestTime rfl rfl
  simp [bar0Read, hp, hr]

/-- A shadow that holds a value is returned and emptied. -/
theorem timeHigh_of_shadow {v : Nat} (hv : SMap.get none s.clr.shadows (32 * b + f) = some v) : timeHigh s (.fn b f) =
    readReturn { s with clr := { s.clr with shadows := SMap.put none s.clr.shadows (32 * b + f) none } } (.fn b f) v := by
  have hshadow : SMap.get none s.clr.shadows (shadowKey (.fn b f)) = some v := hv
  rw [timeHigh, hshadow]
  rfl

/-- For an empty shadow the live value is returned. -/
theorem timeHigh_of_empty (hv : SMap.get none s.clr.shadows (32 * b + f) = none) :
    timeHigh s (.fn b f) = readReturn s (.fn b f) (now s / 2 ^ 32 % 2 ^ 32) := by
  have hshadow : SMap.get none s.clr.shadows (shadowKey (.fn b f)) = none := hv
  rw [timeHigh, hshadow]

/-! ### Two registers that clear when read (R580) -/

/-- LCK.POOL is a register. -/
theorem bar0Word_pool (s : State) : bar0Word s 0x60008 = some (poolWord s) := by
  simp [bar0Word, lckWord, inArrays, one, slotOf]

/-- The read of LCK.POOL's high half clears the high-water mark. -/
theorem readClear_pool (s : State) : readClear s 0x6000C 4 = { s with lck := { s.lck with hwm := 0 } } := by
  simp [readClear]

/-- The read of LCK.POOL's high half returns it and clears the high-water mark. -/
theorem bar0Read_poolHigh (hp : accessorPresent s (.fn b 0) = true) (hsafe : inSafe s = false) : bar0Read s (.fn b 0) 0x6000C 4 =
    readReturn { s with lck := { s.lck with hwm := 0 } } (.fn b 0) (poolWord s / 2 ^ 32 % 2 ^ 32) := by
  have hr : accessFault s (.fn b 0) 0x6000C 4 false = none :=
    accessFault_none_of_register s b false (.inl rfl) rfl (.inl hsafe) rfl (by simp [bar0Word_pool])
  rw [bar0Read_of_register hp hr (by decide) (by decide) (.inr (by decide)), readClear_pool]
  simp [bytesRead, bar0Word_pool]

/-- A tile's marks of TIL.TOKEN_HWM start again. -/
def clearedMarks (t : Tile) : Tile := { t with hwmStore := 0, hwmSticky := 0, hwmOvf := 0, hwmIq := 0, hwmFq := 0 }

end Reads

section TokenHwm
variable {u off : Nat} (hu : u < 0x100) (hoff : off = 0x1000000 + 0x10000 * u + 0x208)
include hu hoff

/-- TIL.TOKEN_HWM of tile `u` lies in that tile's window. -/
theorem tilWindow_tokenHwm : tilWindow off = some u := by
  have hidx : (off - 0x1000000) / 0x10000 = u := by omega
  rw [tilWindow, if_pos (by omega), hidx]

/-- TIL.TOKEN_HWM is a register. -/
theorem bar0Word_tokenHwm (s : State) : bar0Word s off = some (tokenHwmWord (tileAt s u)) := by
  have hbehind : ∀ n ≤ 0x400000, ¬ off < n := by omega
  have hdirect : ¬ 0x3000000 ≤ off := by omega
  have hreg : off % 0x10000 = 0x208 := by omega
  have hword : tilWord s u 0x208 = some (tokenHwmWord (tileAt s u)) := by simp [tilWord, inArrays, one, slotOf]
  simp only [bar0Word, hbehind, hdirect, tilWindow_tokenHwm hu hoff, hreg, hword, and_false, false_and, if_false, Nat.reduceLeDiff]

/-- The physical function reads TIL.TOKEN_HWM of a tile whose window answers. -/
theorem accessFault_tokenHwm {s : State} (b : Nat) (hsafe : inSafe s = false) (hwin : tilRemoved s u = false) :
    accessFault s (.fn b 0) off 8 false = none := by
  have ha : off % 8 = 0 := by omega
  have ho8 : off / 8 * 8 = off := by omega
  simp [accessFault, ha, hsafe, ho8, tilWindow_tokenHwm hu hoff, hwin, bar0Word_tokenHwm hu hoff]

/-- The read of TIL.TOKEN_HWM as a whole clears the marks of its tile. -/
theorem readClear_tokenHwm (s : State) : readClear s off 8 = modTile s u clearedMarks := by
  have ho8 : off / 8 * 8 = off := by omega
  have hpool : off ≠ 0x60008 := by omega
  have hreg : off % 0x10000 = 0x208 := by omega
  simp only [readClear, ho8, hpool, tilWindow_tokenHwm hu hoff, hreg, if_false]
  rfl

/-- The read of TIL.TOKEN_HWM returns the marks and clears them at its tile. -/
theorem bar0Read_tokenHwm {s : State} {b : Nat} (hp : accessorPresent s (.fn b 0) = true) (hsafe : inSafe s = false)
    (hwin : tilRemoved s u = false) :
    bar0Read s (.fn b 0) off 8 = readReturn (modTile s u clearedMarks) (.fn b 0) (tokenHwmWord (tileAt s u)) := by
  have ho8 : off / 8 * 8 = off := by omega
  rw [bar0Read_of_register hp (accessFault_tokenHwm hu hoff b hsafe hwin) (by omega) (by omega) (.inr (by omega)),
    readClear_tokenHwm hu hoff, bytesRead, if_pos rfl, ho8, bar0Word_tokenHwm hu hoff, Option.getD_some]

end TokenHwm

/-- Settles O28, from what a BAR0 read returns and clears. -/
theorem readsThatChangeState : Obligations.ReadsThatChangeState := by
  refine ⟨fun s b f hp => ⟨?low, fun v hv => ?high, fun hv => ?live⟩, fun s b hp hsafe => ?pool,
    fun s b u hp hsafe hu hwin _ => ?marks, fun s b f off size hp hr hlow hhigh hflt => ?other⟩
  case low =>
    rw [exec_forestTimeLowRead, bar0Read_timeLow hp]
    rfl
  case high =>
    rw [exec_forestTimeHighRead, bar0Read_timeHigh hp, timeHigh_of_shadow hv]
    rfl
  case live =>
    rw [exec_forestTimeHighRead, bar0Read_timeHigh hp, timeHigh_of_empty hv]
    rfl
  case pool =>
    refine ⟨_, exec_registerReadClear _, ?_⟩
    rw [bar0Read_poolHigh hp hsafe]
    exact ⟨rfl, rfl, rfl⟩
  case marks =>
    refine ⟨_, exec_registerReadClear _, ?_⟩
    rw [bar0Read_tokenHwm hu rfl hp hsafe hwin]
    exact ⟨rfl, rfl, rfl⟩
  case other => rw [exec_registerReadClear, bar0Read_of_register hp hr hlow hhigh hflt]

end Sys2Proof.Machine
end

section
/-! PROOF. How packets are laid out (R39, R319 to R325): the fields that a flit's header and payload give back, said once for a bit
field of a sum and of packed fields, then for the headers of each class. -/

namespace Sys2Proof.Machine

/-! ### Bit fields -/

/-- A field is a quotient's remainder. -/
theorem bits_eq_div_mod (v hi lo : Nat) : bits v hi lo = v / 2 ^ lo % 2 ^ (hi - lo + 1) := by
  rw [bits, Nat.shiftRight_eq_div_pow]

/-- A bit is a field of one bit. -/
theorem bit_eq_decide_bits (v i : Nat) : bit v i = decide (bits v i i = 1) := by
  simp only [bit, bits, Nat.sub_self, Nat.zero_add, Nat.pow_one]
  rfl

/-- A field in the low `n` bits does not see what stands above them. -/
theorem bits_mul_add {hi lo n : Nat} (hl : lo ≤ hi) (hn : hi < n) (a v : Nat) : bits (2 ^ n * a + v) hi lo = bits v hi lo := by
  rw [← bits_mod_two_pow hl hn, Nat.mul_add_mod, bits_mod_two_pow hl hn]

/-- A bit of a field is a bit of the word. -/
theorem bits_bits {hi lo i : Nat} (h : lo + i ≤ hi) (v : Nat) : bits (bits v hi lo) i i = bits v (lo + i) (lo + i) := by
  rw [bits_eq_div_mod v hi lo, bits_mod_two_pow (Nat.le_refl i) (by omega)]
  simp only [bits_eq_div_mod, Nat.sub_self, Nat.div_div_eq_div_mul, ← Nat.pow_add]

/-- Packed fields give back each of them. -/
theorem packFields_field (w : Nat) (l : List Nat) (m : Nat) : packFields w l / 2 ^ (w * m) % 2 ^ w = l.getD m 0 % 2 ^ w := by
  induction l generalizing m with
  | nil => simp [packFields]
  | cons x r ih =>
    cases m with
    | zero => simp [packFields]
    | succ n =>
      have hx : (x % 2 ^ w + 2 ^ w * packFields w r) / 2 ^ w = packFields w r := by
        rw [Nat.add_mul_div_left _ _ (Nat.two_pow_pos w), Nat.div_eq_of_lt (Nat.mod_lt _ (Nat.two_pow_pos w)), Nat.zero_add]
      rw [packFields, Nat.mul_succ, Nat.add_comm (w * n), Nat.pow_add, ← Nat.div_div_eq_div_mul, hx, ih, List.getD_cons_succ]

/-- Packed fields stay in their bits. -/
theorem packFields_lt (w : Nat) (l : List Nat) : packFields w l < 2 ^ (w * l.length) := by
  induction l with
  | nil => simp [packFields]
  | cons x r ih =>
    have hx := Nat.mod_lt x (Nat.two_pow_pos w)
    calc packFields w (x :: r) < 2 ^ w * (packFields w r + 1) := by rw [packFields, Nat.mul_add]; omega
      _ ≤ 2 ^ w * 2 ^ (w * r.length) := Nat.mul_le_mul_left _ ih
      _ = 2 ^ (w * (x :: r).length) := by rw [← Nat.pow_add, List.length_cons, Nat.mul_succ, Nat.add_comm]

/-! ### The memory request word (Table 11.10) -/

/-- The request word of a request in range gives it back. -/
theorem memWordOf_memWordBits (m : MemWord) (h : MemWordFits m) : memWordOf (memWordBits m) = some m := by
  obtain ⟨space, slot, gen, vtile, off⟩ := m
  rcases h with ⟨hs, h1, h2, h3, h4⟩ | ⟨hs, h1, h2, h3, h4⟩ | ⟨hs, h1, h2, h3, h4⟩ <;> simp only at hs h1 h2 h3 h4 <;> subst hs
  · have hb : memWordBits ⟨0, slot, gen, vtile, off⟩ = 2 ^ 60 * slot + 2 ^ 48 * gen + 2 ^ 38 * vtile + off := by
      simp only [memWordBits]; omega
    have h63 : bits (memWordBits ⟨0, slot, gen, vtile, off⟩) 63 62 = 0 := by rw [hb, bits_eq_div_mod]; omega
    have hm : (⟨0, bits (memWordBits ⟨0, slot, gen, vtile, off⟩) 61 60, bits (memWordBits ⟨0, slot, gen, vtile, off⟩) 59 48,
        bits (memWordBits ⟨0, slot, gen, vtile, off⟩) 47 38, bits (memWordBits ⟨0, slot, gen, vtile, off⟩) 19 0⟩ : MemWord)
        = ⟨0, slot, gen, vtile, off⟩ := by
      rw [hb]
      simp only [bits_eq_div_mod, MemWord.mk.injEq, true_and]
      omega
    simp only [memWordOf, h63, hm]
    rw [if_pos ⟨by decide, by omega⟩]
  · subst h1 h2 h3
    have hb : memWordBits ⟨1, 0, 0, 0, off⟩ = 2 ^ 62 + off := by simp only [memWordBits]; omega
    have h63 : bits (memWordBits ⟨1, 0, 0, 0, off⟩) 63 62 = 1 := by rw [hb, bits_eq_div_mod]; omega
    have hm : bits (memWordBits ⟨1, 0, 0, 0, off⟩) 23 0 = off := by rw [hb, bits_eq_div_mod]; omega
    simp only [memWordOf, h63, hm]
    rw [if_pos ⟨by decide, by omega⟩]
  · subst h1 h2 h3
    have hb : memWordBits ⟨2, 0, 0, 0, off⟩ = 2 ^ 63 + off := by simp only [memWordBits]; omega
    have h63 : bits (memWordBits ⟨2, 0, 0, 0, off⟩) 63 62 = 2 := by rw [hb, bits_eq_div_mod]; omega
    have hm : bits (memWordBits ⟨2, 0, 0, 0, off⟩) 43 0 = off := by rw [hb, bits_eq_div_mod]; omega
    simp only [memWordOf, h63, hm]
    rw [if_pos ⟨by decide, by omega⟩]

/-- No word of SPACE 3 is read. -/
theorem memWordOf_reserved {v : Nat} (h : bits v 63 62 = 3) : memWordOf v = none := by simp [memWordOf, h]

/-- A field of `n` bits is below 2 to the `n`. -/
theorem bits_lt (v hi lo : Nat) : bits v hi lo < 2 ^ (hi - lo + 1) := Nat.mod_lt _ (Nat.two_pow_pos _)

/-- A request that is read is in range, and its word is the one read. -/
theorem memWordOf_some {v : Nat} {m : MemWord} (h : memWordOf v = some m) : MemWordFits m ∧ memWordBits m = v % 2 ^ 64 := by
  have hlt : bits v 63 62 < 4 := bits_lt v 63 62
  simp only [memWordOf, Option.ite_none_right_eq_some, Option.some.injEq] at h
  obtain ⟨⟨h3, hw⟩, rfl⟩ := h
  refine ⟨?_, hw⟩
  split
  · exact .inl ⟨rfl, bits_lt v 61 60, bits_lt v 59 48, bits_lt v 47 38, bits_lt v 19 0⟩
  · exact .inr (.inl ⟨rfl, rfl, rfl, rfl, bits_lt v 23 0⟩)
  · next h0 h1 =>
      have hne0 : bits v 63 62 ≠ 0 := h0
      have hne1 : bits v 63 62 ≠ 1 := h1
      have hspace : bits v 63 62 = 2 := by omega
      exact .inr (.inr ⟨hspace, rfl, rfl, rfl, bits_lt v 43 0⟩)

/-! ### The fields of each class lie below the header's route -/

/-- Every request opcode of Table 11.7 is at most 0x1D. -/
theorem reqOp_le (b : Body) : reqOp b ≤ 0x1D := by cases b <;> simp [reqOp]

/-- Every MGMT opcode of Table 11.9 is assigned. -/
theorem mgmtOp_range {b : Body} {op : Nat} (h : mgmtOp b = some op) : 1 ≤ op ∧ op ≤ 0x0D := by
  cases b <;> simp [mgmtOp] at h <;> omega

/-- Every response opcode of Table 11.8 is assigned. -/
theorem rspOp_range (r : Resp) : 1 ≤ rspOp r ∧ rspOp r ≤ 0x0A := by
  cases r <;> simp only [rspOp] <;> (try split) <;> omega

theorem b2n_le (b : Bool) : b2n b ≤ 1 := by cases b <;> simp [b2n]

theorem tokenFields_lt (op gen : Nat) (toks : List Token) (ack : Bool) (h : op ≤ 1) : tokenFields op gen toks ack < 2 ^ 32 := by
  have := b2n_le ack
  unfold tokenFields
  omega

theorem lineHeader_lt (line poison xfer : Nat) (bulk : Bool) : lineHeader line poison xfer bulk < 2 ^ 32 := by
  have := b2n_le bulk
  unfold lineHeader
  omega

theorem rspPoison_lt (k : Nat) (r : Resp) : rspPoison k r < 256 := by
  cases r with
  | dataWord w => have := b2n_le w.poison; simp only [rspPoison]; omega
  | dataBytes bs p => exact Nat.mod_lt _ (by decide)
  | _ => exact (by decide : 0 < 256)

/-- The TAG field of a response's header: a WRITE_ACK carries only the XFER. -/
theorem rspTag_lt (tag : Nat) (r : Resp) : (if rspOp r = 4 then tag % 8 else tag % 2 ^ 12) < 2 ^ 12 := by split <;> omega

theorem rspFields_lt (tag sub k : Nat) (r : Resp) : rspFields tag sub k r < 2 ^ 32 := by
  have := rspOp_range r
  have := rspPoison_lt k r
  have := rspTag_lt tag r
  unfold rspFields
  omega

/-- The fields of a class fit below PARTITION. -/
theorem classFields_lt (p : Packet) (k : Nat) : classFields p k < 2 ^ 32 := by
  unfold classFields
  split
  · exact tokenFields_lt _ _ _ _ (by decide)
  · exact tokenFields_lt _ _ _ _ (by decide)
  · exact lineHeader_lt _ _ _ _
  · exact lineHeader_lt _ _ _ _
  · exact rspFields_lt _ _ _ _
  · split
    · have : (mgmtOp p.body).getD 0 ≤ 0x0D := by
        cases h : mgmtOp p.body with
        | none => simp
        | some op => exact (mgmtOp_range h).2
      omega
    · have := reqOp_le p.body
      omega

/-! ### The header of a flit (Table 11.1) -/

section Header
variable (p : Packet) (k d : Nat)

/-- CLASS, DEST, SRC and PARTITION, the header's upper half. -/
def routeFields : Nat := 2 ^ 30 * (p.cls % 4) + 2 ^ 18 * (p.dest % 2 ^ 12) + 2 ^ 4 * (p.src % 2 ^ 14) + p.part % 16

theorem flitHeader_eq : flitHeader p k = 2 ^ 32 * routeFields p + classFields p k := by
  unfold flitHeader routeFields
  omega

theorem flitHeader_lt : flitHeader p k < 2 ^ 64 := by
  have := classFields_lt p k
  unfold flitHeader
  omega

/-- A field of the lower half belongs to the class. -/
theorem bits_flitHeader {hi lo : Nat} (hl : lo ≤ hi) (hn : hi < 32) : bits (flitHeader p k) hi lo = bits (classFields p k) hi lo := by
  rw [flitHeader_eq, bits_mul_add hl hn]

theorem bit_flitHeader {i : Nat} (hi : i < 32) : bit (flitHeader p k) i = bit (classFields p k) i := by
  rw [bit_eq_decide_bits, bit_eq_decide_bits, bits_flitHeader p k (Nat.le_refl i) hi]

theorem flitCls_flitHeader : flitCls ⟨flitHeader p k, d⟩ = p.cls % 4 := by
  have := classFields_lt p k
  simp only [flitCls, flitHeader, bits_eq_div_mod]
  omega

theorem flitDest_flitHeader : flitDest ⟨flitHeader p k, d⟩ = p.dest % 2 ^ 12 := by
  have := classFields_lt p k
  simp only [flitDest, flitHeader, bits_eq_div_mod]
  omega

theorem flitSrc_flitHeader : flitSrc ⟨flitHeader p k, d⟩ = p.src % 2 ^ 14 := by
  have := classFields_lt p k
  simp only [flitSrc, flitHeader, bits_eq_div_mod]
  omega

theorem flitPart_flitHeader : flitPart ⟨flitHeader p k, d⟩ = p.part % 16 := by
  have := classFields_lt p k
  simp only [flitPart, flitHeader, bits_eq_div_mod]
  omega

end Header

/-! ### The opcode and the form of a flit (R325, Tables 11.2 to 11.5) -/

section Forms
variable {p : Packet} (k d : Nat)

theorem classFields_req (hc : p.cls = 2) (h : reqOp p.body ≠ 0) :
    classFields p k = 2 ^ 26 * reqOp p.body + 2 ^ 14 * (p.tag % 2 ^ 12) + 2 ^ 6 * (reqPoison p.body % 256) := by
  unfold classFields
  split
  case h_6 => rw [if_neg (by omega)]
  all_goals (next hb => rw [hb] at h; exact absurd rfl h)

theorem classFields_mgmt {op : Nat} (hc : p.cls = 0) (h : mgmtOp p.body = some op) :
    classFields p k = 2 ^ 26 * op + 2 ^ 14 * (p.tag % 2 ^ 12) := by
  unfold classFields
  split
  case h_6 => rw [if_pos hc, h, Option.getD_some]
  all_goals (next hb => rw [hb] at h; cases h)

/-- A request's flit gives back its opcode and has the form of Table 11.3. -/
theorem flit_req (hc : p.cls = 2) (h : reqOp p.body ≠ 0) :
    flitOp ⟨flitHeader p k, d⟩ = reqOp p.body ∧ flitFormOk ⟨flitHeader p k, d⟩ = true := by
  have hle := reqOp_le p.body
  have hcls : flitCls ⟨flitHeader p k, d⟩ = 2 := by rw [flitCls_flitHeader, hc]
  have h31 : bit (flitHeader p k) 31 = false := by
    rw [bit_flitHeader p k (by decide), classFields_req k hc h, bit_eq_decide_bits, bits_eq_div_mod, decide_eq_false_iff_not]
    omega
  have hop : flitOp ⟨flitHeader p k, d⟩ = reqOp p.body := by
    simp only [flitOp, hcls, h31, Bool.false_eq_true, if_false]
    rw [bits_flitHeader p k (by decide) (by decide), classFields_req k hc h, bits_eq_div_mod]
    omega
  have hzero : bits (flitHeader p k) 5 0 = 0 := by
    rw [bits_flitHeader p k (by decide) (by decide), classFields_req k hc h, bits_eq_div_mod]
    omega
  refine ⟨hop, ?_⟩
  simp only [flitFormOk, hcls, hop, h31, hzero, Bool.false_eq_true, if_false, Bool.and_eq_true, decide_eq_true_eq]
  exact ⟨⟨Nat.pos_of_ne_zero h, hle⟩, trivial⟩

/-- A management flit gives back its opcode, has the form of Table 11.5, and is no broadcast. -/
theorem flit_mgmt {op : Nat} (hc : p.cls = 0) (h : mgmtOp p.body = some op) :
    flitOp ⟨flitHeader p k, d⟩ = op ∧ flitFormOk ⟨flitHeader p k, d⟩ = true ∧ flitBcast ⟨flitHeader p k, d⟩ = false := by
  have hr := mgmtOp_range h
  have hcls : flitCls ⟨flitHeader p k, d⟩ = 0 := by rw [flitCls_flitHeader, hc]
  have hop : flitOp ⟨flitHeader p k, d⟩ = op := by
    simp only [flitOp, hcls]
    rw [bits_flitHeader p k (by decide) (by decide), classFields_mgmt k hc h, bits_eq_div_mod]
    omega
  have hzero : bits (flitHeader p k) 12 0 = 0 := by
    rw [bits_flitHeader p k (by decide) (by decide), classFields_mgmt k hc h, bits_eq_div_mod]
    omega
  have h13 : bit (flitHeader p k) 13 = false := by
    rw [bit_flitHeader p k (by decide), classFields_mgmt k hc h, bit_eq_decide_bits, bits_eq_div_mod, decide_eq_false_iff_not]
    omega
  refine ⟨hop, ?_, ?_⟩
  · simp only [flitFormOk, hcls, hop, hzero, Bool.and_eq_true, decide_eq_true_eq]
    exact ⟨hr, trivial⟩
  · simp only [flitBcast, h13, Bool.and_false]

/-- A line write's flit has opcode 0x3F and the form of its format, and tells its packet's flits. -/
theorem flit_lineWrite {l x po : Nat} {b : Bool} {data : List Byte} (hc : p.cls = 2) (h : p.body = .lineWrite l x b data po) :
    flitOp ⟨flitHeader p k, d⟩ = 0x3F ∧ flitFormOk ⟨flitHeader p k, d⟩ = true ∧ flitCount ⟨flitHeader p k, d⟩ = if b then 4 else 1 := by
  have hf : classFields p k = lineHeader (l + k) (po >>> (8 * k)) x b := by rw [classFields, h]
  have hb := b2n_le b
  have hcls : flitCls ⟨flitHeader p k, d⟩ = 2 := by rw [flitCls_flitHeader, hc]
  have h31 : bit (flitHeader p k) 31 = true := by
    rw [bit_flitHeader p k (by decide), hf, bit_eq_decide_bits, bits_eq_div_mod, decide_eq_true_eq, lineHeader]
    omega
  have h1 : bit (flitHeader p k) 1 = b := by
    rw [bit_flitHeader p k (by decide), hf, bit_eq_decide_bits, bits_eq_div_mod, lineHeader]
    cases b <;> simp only [b2n, Bool.false_eq_true, if_false, if_true, decide_eq_true_eq, decide_eq_false_iff_not] <;> omega
  have hzero : bits (flitHeader p k) 0 0 = 0 := by
    rw [bits_flitHeader p k (by decide) (by decide), hf, bits_eq_div_mod, lineHeader]
    omega
  refine ⟨?_, ?_, ?_⟩
  · simp only [flitOp, hcls, h31, if_true]
  · simp only [flitFormOk, hcls, h31, hzero, if_true, decide_true]
  · simp only [flitCount, hcls, h31, h1, Bool.true_and]

/-- A response's flit gives back its opcode, has the form of Table 11.4, and tells its packet's flits. -/
theorem flit_rsp {sub : Nat} {r : Resp} (hc : p.cls = 3) (h : p.body = .rsp sub r) (hk : k < bodyFlits p.body) :
    flitOp ⟨flitHeader p k, d⟩ = rspOp r ∧ flitFormOk ⟨flitHeader p k, d⟩ = true
    ∧ flitCount ⟨flitHeader p k, d⟩ = bodyFlits p.body := by
  have hf : classFields p k = rspFields p.tag sub k r := by rw [classFields, h]
  have hr := rspOp_range r
  have hp := rspPoison_lt k r
  have ht := rspTag_lt p.tag r
  have hflits : bodyFlits p.body = if rspOp r = 3 then 4 else 1 := by rw [h]; rfl
  have hcls : flitCls ⟨flitHeader p k, d⟩ = 3 := by rw [flitCls_flitHeader, hc]
  have hop : flitOp ⟨flitHeader p k, d⟩ = rspOp r := by
    simp only [flitOp, hcls]
    rw [bits_flitHeader p k (by decide) (by decide), hf, bits_eq_div_mod, rspFields]
    omega
  have hzero : bits (flitHeader p k) 2 0 = 0 := by
    rw [bits_flitHeader p k (by decide) (by decide), hf, bits_eq_div_mod, rspFields]
    omega
  have hflit : rspOp r = 3 ∨ bits (flitHeader p k) 4 3 = 0 := by
    by_cases h3 : rspOp r = 3
    · exact .inl h3
    · rw [hflits, if_neg h3] at hk
      rw [bits_flitHeader p k (by decide) (by decide), hf, bits_eq_div_mod, rspFields]
      omega
  have hack : rspOp r ≠ 4 ∨ bits (flitHeader p k) 26 18 = 0 := by
    by_cases h4 : rspOp r = 4
    · rw [bits_flitHeader p k (by decide) (by decide), hf, bits_eq_div_mod, rspFields, if_pos h4]
      omega
    · exact .inl h4
  refine ⟨hop, ?_, ?_⟩
  · simp only [flitFormOk, hcls, hop, hzero, Bool.and_eq_true, Bool.or_eq_true, decide_eq_true_eq]
    exact ⟨⟨⟨hr, trivial⟩, hflit⟩, hack⟩
  · simp only [flitCount, hcls, hop, hflits]

end Forms

/-! ### Tokens (R39, R322, Table 11.2) -/

/-- The 128 bits of a token, with its poison mark, give it back. -/
theorem tokenOf_tokenBits (t : Token) : tokenOf (tokenBits t) t.poison = t := by
  have hv := t.val.isLt
  have hval : BitVec.ofNat 64 (tokenBits t) = t.val := by
    apply BitVec.eq_of_toNat_eq
    rw [BitVec.toNat_ofNat, tokenBits]
    omega
  have htag : BitVec.ofNat 64 (tokenBits t / 2 ^ 64) = t.tag := by
    have ht := t.tag.isLt
    apply BitVec.eq_of_toNat_eq
    rw [BitVec.toNat_ofNat, tokenBits]
    omega
  rw [tokenOf, hval, htag]

theorem tokenBits_lt (t : Token) : tokenBits t < 2 ^ 128 := by
  have hv := t.val.isLt
  have ht := t.tag.isLt
  unfold tokenBits
  omega

/-- Payload bytes 16m to 16m + 15 hold token m. -/
theorem bits_tokenPayload {toks : List Token} {m : Nat} (hm : m < toks.length) :
    bits (tokenPayload toks) (128 * m + 127) (128 * m) = tokenBits toks[m] := by
  rw [bits_eq_div_mod, show 128 * m + 127 - 128 * m + 1 = 128 by omega, tokenPayload, packFields_field]
  have hfield : (toks.map tokenBits).getD m 0 = tokenBits toks[m] := by simp [hm]
  rw [hfield, Nat.mod_eq_of_lt (tokenBits_lt _)]

/-- Two tokens stand below the handle of an ACT_TOKENS flit. -/
theorem tokenPayload_lt {toks : List Token} (h : toks.length ≤ 2) : tokenPayload toks < 2 ^ 256 := by
  refine Nat.lt_of_lt_of_le (packFields_lt 128 _) (Nat.pow_le_pow_right (by decide) ?_)
  rw [List.length_map]
  omega

/-- POISON bit m is the mark of token m. -/
theorem bit_tokenPoison {toks : List Token} {m : Nat} (hm : m < toks.length) (h4 : m < 4) :
    bits (packFields 1 (toks.map (fun t => b2n t.poison)) % 16) m m = b2n toks[m].poison := by
  have hle := b2n_le toks[m].poison
  have hfield := packFields_field 1 (toks.map (fun t => b2n t.poison)) m
  rw [show (16 : Nat) = 2 ^ 4 from rfl, bits_mod_two_pow (Nat.le_refl m) h4, bits_eq_div_mod, Nat.sub_self]
  rw [Nat.one_mul] at hfield
  rw [hfield]
  simp [hm]
  omega

section Tokens
variable {p : Packet} {op gen : Nat} {toks : List Token} {ack : Bool} (d : Nat)

/-- The fields of a TOKEN flit's header. -/
theorem tokenFields_read (hf : classFields p 0 = tokenFields op gen toks ack) (hop : op ≤ 1) (h1 : 1 ≤ toks.length) (h4 : toks.length ≤ 4) :
    bits (flitHeader p 0) 19 18 + 1 = toks.length ∧ bits (flitHeader p 0) 13 10 = op ∧ bits (flitHeader p 0) 8 0 = 0
    ∧ bits (flitHeader p 0) 17 14 = packFields 1 (toks.map (fun t => b2n t.poison)) % 16 := by
  have hb := b2n_le ack
  simp only [bits_flitHeader p 0 (by decide : 18 ≤ 19) (by decide), bits_flitHeader p 0 (by decide : 10 ≤ 13) (by decide),
    bits_flitHeader p 0 (by decide : 0 ≤ 8) (by decide), bits_flitHeader p 0 (by decide : 14 ≤ 17) (by decide), hf, bits_eq_div_mod,
    tokenFields]
  omega

/-- A TOKEN flit has the form of Table 11.2. -/
theorem flitFormOk_tokens (hc : p.cls = 1) (hf : classFields p 0 = tokenFields op gen toks ack) (hop : op ≤ 1) (h1 : 1 ≤ toks.length)
    (h4 : toks.length ≤ 4) : flitFormOk ⟨flitHeader p 0, d⟩ = true := by
  obtain ⟨_, ho, hz, _⟩ := tokenFields_read hf hop h1 h4
  have hcls : flitCls ⟨flitHeader p 0, d⟩ = 1 := by rw [flitCls_flitHeader, hc]
  have hfop : flitOp ⟨flitHeader p 0, d⟩ = op := by simp only [flitOp, hcls, ho]
  simp only [flitFormOk, hcls, hfop, hz, hop, decide_true, Bool.and_self]

/-- A flit whose header is that of a TOKEN packet and whose payload holds its tokens gives them back. -/
theorem flitTokens_read (hf : classFields p 0 = tokenFields op gen toks ack) (hop : op ≤ 1) (h1 : 1 ≤ toks.length) (h4 : toks.length ≤ 4)
    (hd : ∀ m (hm : m < toks.length), bits d (128 * m + 127) (128 * m) = tokenBits toks[m]) :
    flitTokens ⟨flitHeader p 0, d⟩ = toks := by
  obtain ⟨hcount, _, _, hpoison⟩ := tokenFields_read hf hop h1 h4
  rw [flitTokens, hcount]
  apply List.ext_getElem
  · simp
  intro m _ hm
  have hbit : bit (flitHeader p 0) (14 + m) = toks[m].poison := by
    rw [bit_eq_decide_bits, ← bits_bits (by omega : 14 + m ≤ 17), hpoison, bit_tokenPoison hm (by omega)]
    cases toks[m].poison <;> rfl
  simp only [List.getElem_map, List.getElem_range, hd m hm, hbit, tokenOf_tokenBits]

end Tokens

/-- The one flit of a TOKEN packet. -/
theorem packetFlits_one {p : Packet} {d : Nat} (hc : p.cls ≠ 0) (hn : bodyFlits p.body = 1) (hd : bodyPayload 0 p.body = some d) :
    packetFlits p = [⟨flitHeader p 0, d⟩] := by
  rw [packetFlits, if_neg (fun h => hc h.1), hn]
  simp [List.range_one, hd]

/-- A TOKENS flit gives back its tokens. -/
theorem packetFlits_tokens {p : Packet} {gen : Nat} {toks : List Token} {ack : Bool} (hc : p.cls = 1) (hb : p.body = .tokens gen toks ack)
    (h1 : 1 ≤ toks.length) (h4 : toks.length ≤ 4) :
    ∃ f, packetFlits p = [f] ∧ flitTokens f = toks ∧ flitHandle f = none ∧ flitFormOk f = true := by
  have hf : classFields p 0 = tokenFields 0 gen toks ack := by rw [classFields, hb]
  have hd : bodyPayload 0 p.body = some (tokenPayload toks) := by rw [hb, bodyPayload, List.take_of_length_le h4]
  obtain ⟨_, hop, _, _⟩ := tokenFields_read hf (by decide) h1 h4
  exact ⟨_, packetFlits_one (by omega) (by rw [hb]; rfl) hd, flitTokens_read _ hf (by decide) h1 h4 (fun _ hm => bits_tokenPayload hm),
    by simp [flitHandle, hop], flitFormOk_tokens _ hc hf (by decide) h1 h4⟩

/-- An ACT_TOKENS flit gives back its tokens and its handle. -/
theorem packetFlits_actTokens {p : Packet} {gen handle : Nat} {toks : List Token} (hc : p.cls = 1) (hb : p.body = .actTokens gen toks handle)
    (h1 : 1 ≤ toks.length) (h2 : toks.length ≤ 2) (hh : handle < 2 ^ 32) :
    ∃ f, packetFlits p = [f] ∧ flitTokens f = toks ∧ flitHandle f = some handle ∧ flitFormOk f = true := by
  have h4 : toks.length ≤ 4 := by omega
  have hf : classFields p 0 = tokenFields 1 gen toks false := by rw [classFields, hb]
  have hd : bodyPayload 0 p.body = some (2 ^ 256 * handle + tokenPayload toks) := by
    rw [hb, bodyPayload, List.take_of_length_le h2, Nat.mod_eq_of_lt hh, Nat.add_comm]
  have hlt := tokenPayload_lt h2
  obtain ⟨_, hop, _, _⟩ := tokenFields_read hf (by decide) h1 h4
  refine ⟨_, packetFlits_one (by omega) (by rw [hb]; rfl) hd, flitTokens_read _ hf (by decide) h1 h4 (fun m hm => ?_), ?_,
    flitFormOk_tokens _ hc hf (by decide) h1 h4⟩
  · rw [bits_mul_add (by omega) (by omega), bits_tokenPayload hm]
  · have hbits : bits (2 ^ 256 * handle + tokenPayload toks) 287 256 = handle := by
      rw [bits_eq_div_mod]
      omega
    rw [flitHandle, if_pos hop, hbits]

/-- Settles O60: what each word, header and payload gives back. -/
theorem packetEncodings : Obligations.PacketEncodings := by
  refine ⟨memWordOf_memWordBits, fun _ _ => memWordOf_some, fun _ => memWordOf_reserved, fun p k d hc hd hs hp => ?_,
    fun p k d => ⟨flit_req k d, fun _ _ _ _ _ => flit_lineWrite k d, fun _ _ => flit_rsp k d, fun _ => flit_mgmt k d⟩,
    fun _ _ _ _ => packetFlits_tokens, fun _ _ _ _ => packetFlits_actTokens⟩
  rw [flitCls_flitHeader, flitDest_flitHeader, flitSrc_flitHeader, flitPart_flitHeader, Nat.mod_eq_of_lt hc, Nat.mod_eq_of_lt hd,
    Nat.mod_eq_of_lt hs, Nat.mod_eq_of_lt hp]
  exact ⟨flitHeader_lt p k, rfl, rfl, rfl, rfl⟩

end Sys2Proof.Machine
end

section
/-! PROOF. Matching (R45, R52 to R55, R69 to R74, R305): what each operation on the matching store leaves of a tile, and how the head of an
input queue is taken. -/

namespace Sys2Proof.Machine

/-- A tile written back as it is changes nothing. -/
theorem setTile_self (s : State) (u : Nat) : setTile s u (tileAt s u) = s := by
  have htiles : s.tiles.set u (s.tiles.getD u {}) = s.tiles := by
    apply List.ext_getElem?
    intro v
    rw [List.getElem?_set]
    split
    · next h =>
      subst h
      split
      · next hlt => simp [hlt]
      · next hlt => simp [hlt]
    · rfl
  rw [setTile, tileAt, htiles]

/-! ### Stored errors that a lookup meets (R72) -/

/-- Meeting stored errors changes tile `u`'s store and overflow buffer and the collector's inbox, and nothing else. -/
abbrev MetErrors (s : State) (u : Nat) (t : State) : Prop :=
  ∃ st ov fl, t = { setTile s u { tileAt s u with store := st, ovf := ov } with flt := fl }

theorem MetErrors.refl (s : State) (u : Nat) : MetErrors s u s :=
  ⟨(tileAt s u).store, (tileAt s u).ovf, s.flt, congrArg (fun t : State => { t with flt := s.flt }) (setTile_self s u).symm⟩

theorem MetErrors.trans {s t x : State} {u : Nat} (hu : u < s.tiles.length) (h : MetErrors s u t) (h' : MetErrors t u x) : MetErrors s u x := by
  obtain ⟨st, ov, fl, rfl⟩ := h
  obtain ⟨st', ov', fl', rfl⟩ := h'
  exact ⟨st', ov', fl', by simp [setTile, tileAt, hu]⟩

section Met
variable {s t : State} {u : Nat}

theorem MetErrors.length (h : MetErrors s u t) : t.tiles.length = s.tiles.length := by
  obtain ⟨st, ov, fl, rfl⟩ := h
  exact setTile_length s u _

theorem MetErrors.net (h : MetErrors s u t) : t.net = s.net := by
  obtain ⟨st, ov, fl, rfl⟩ := h
  rfl

theorem MetErrors.other (h : MetErrors s u t) {v : Nat} (hv : v ≠ u) : tileAt t v = tileAt s v := by
  obtain ⟨st, ov, fl, rfl⟩ := h
  exact tileAt_setTile_other s u v _ (Ne.symm hv)

/-- The met tile keeps all but its stored tokens. -/
theorem MetErrors.tile (h : MetErrors s u t) (hu : u < s.tiles.length) :
    tileAt t u = { tileAt s u with store := (tileAt t u).store, ovf := (tileAt t u).ovf } := by
  obtain ⟨st, ov, fl, rfl⟩ := h
  have : tileAt { setTile s u { tileAt s u with store := st, ovf := ov } with flt := fl } u = { tileAt s u with store := st, ovf := ov } :=
    tileAt_setTile_same s u _ hu
  rw [this]

end Met

theorem meetEntryErr_met (s : State) (u : Nat) (inOvf : Bool) (i : Nat) (e : MEntry) : MetErrors s u (meetEntryErr s u inOvf i e) := by
  unfold meetEntryErr
  cases inOvf <;> dsimp only <;> split <;> exact ⟨_, _, _, rfl⟩

theorem meetEntryErrs_met (es : SMap MEntry) (s : State) (u : Nat) (inOvf : Bool) (hu : u < s.tiles.length) :
    MetErrors s u (meetEntryErrs s u inOvf es) := by
  induction es generalizing s with
  | nil => exact .refl _ _
  | cons x r ih =>
    obtain ⟨i, e⟩ := x
    rw [meetEntryErrs]
    by_cases he : e.err = 0
    · rw [if_pos he]
      exact ih s hu
    · rw [if_neg he]
      have h := meetEntryErr_met s u inOvf i e
      exact h.trans hu (ih _ (by rw [h.length]; exact hu))

theorem meetLookup_met (s : State) (u set1 set2 : Nat) (hu : u < s.tiles.length) : MetErrors s u (meetLookup s u set1 set2) := by
  have h := meetEntryErrs_met ((tileAt s u).store.filter (fun e => decide (e.1 / 4 = set1) || decide (e.1 / 4 = set2))) s u false hu
  exact h.trans hu (meetEntryErrs_met _ _ u true (by rw [h.length]; exact hu))

theorem meetStore_met (s : State) (u : Nat) (hu : u < s.tiles.length) : MetErrors s u (meetStore s u) := by
  have h := meetEntryErrs_met (tileAt s u).store s u false hu
  exact h.trans hu (meetEntryErrs_met _ _ u true (by rw [h.length]; exact hu))

/-! ### The stored partners (R53) -/

/-- Consumption takes tokens from the store and the overflow buffer, and depends on nothing else of the tile. -/
theorem consume_eq (w : Nat) (ps : List (Nat × Loc)) (t t' : Tile) (hs : t'.store = t.store) (ho : t'.ovf = t.ovf) :
    consume t' w ps = { t' with store := (consume t w ps).store, ovf := (consume t w ps).ovf } := by
  induction ps generalizing t t' with
  | nil => simp [consume, ← hs, ← ho]
  | cons x r ih =>
    obtain ⟨q, l⟩ := x
    simp only [consume]
    cases bit (ntSticky w) q with
    | true => exact ih t t' hs ho
    | false => cases l <;> exact ih _ _ (by simp [freeLoc, hs, ho]) (by simp [freeLoc, hs, ho])

/-! ### The head of the queue -/

theorem popHead_tile (s : State) (u : Nat) (hu : u < s.tiles.length) : tileAt (popHead s u) u = giveCredits { tileAt s u with
    iq := (tileAt s u).iq.tail, spl := { (tileAt s u).spl with storeSince := none, noVictim := false, tested := false } } := by
  simp [popHead, hu]

/-- Room of a level depends on the queue alone. -/
theorem fqRoom_congr {t t' : Tile} (h : t'.fq = t.fq) (l : Nat) : fqRoom t' l = fqRoom t l := by
  have hc : levelCount t' = levelCount t := by funext l; rw [levelCount, levelCount, h]
  rw [fqRoom, fqRoom, sharedUsed, sharedUsed, hc]

/-- An entry enters a queue that has room. -/
theorem fire_of_room {tm : Nat} {t : Tile} {e : FireEntry} (h : fqRoom t e.level = true) : fire tm t e
    = noteHwm { t with fq := t.fq ++ [e], fired := (t.fired + 1) % 2 ^ 32, held := none
                       spl := { t.spl with fireSince := none, fullRaised := false } } := by simp [fire, h]

/-- It is held while the queue is full. -/
theorem fire_of_full {tm : Nat} {t : Tile} {e : FireEntry} (h : fqRoom t e.level = false) : fire tm t e
    = { t with held := some e, spl := { t.spl with fireSince := some (t.spl.fireSince.getD tm) } } := by simp [fire, h]

/-- Firing touches the fire queue, the held entry, their counters and marks. -/
theorem fire_keeps (tm : Nat) (t : Tile) (e : FireEntry) :
    (fire tm t e).iq = t.iq ∧ (fire tm t e).store = t.store ∧ (fire tm t e).ovf = t.ovf := by
  cases h : fqRoom t e.level with
  | true => rw [fire_of_room h]; exact ⟨rfl, rfl, rfl⟩
  | false => rw [fire_of_full h]; exact ⟨rfl, rfl, rfl⟩

/-! ### Matching of a normal token (R53, R54) -/

section Normal
variable {s m : State} {u src w : Nat} {k : Token}

/-- The state in which a token's partners are sought. -/
def metFor (s : State) (u w : Nat) (k : Token) : State :=
  if ntArity w = 1 then s else meetLookup s u (setIndex (instKey k.tag) false)
    (if ntSticky w = 0 then setIndex (instKey k.tag) false else setIndex (stickyKey (instKey k.tag)) true)

theorem metFor_met (hu : u < s.tiles.length) : MetErrors s u (metFor s u w k) := by
  unfold metFor
  split
  · exact .refl _ _
  · exact meetLookup_met s u _ _ hu

/-- The entry that a token completes. -/
def firedEntry (w : Nat) (k : Token) (ps : List (Nat × Loc)) : FireEntry :=
  { level := bits w 12 10, tag := BitVec.ofNat 64 (16 * instKey k.tag), entry := 4 * bits w 31 17
    ops := operandsOf (tagPort k.tag) ⟨k.val, k.poison⟩ ps (ntArity w) }

/-- The entry under which a token waits for its partners. -/
def waitingEntry (k : Token) : MEntry :=
  { key := instKey k.tag, port := tagPort k.tag, state := if k.poison then 2 else 1, val := k.val }

/-- A token that finds its partners fires. -/
theorem matchNormal_fires (hm : m = metFor s u w k) {ps : List (Nat × Loc)}
    (hp : partners (tileAt m u) w (instKey k.tag) (tagPort k.tag) (ntArity w) = some ps) :
    matchNormal s u k src w
      = setTile (popHead m u) u (fire (now s) (consume (tileAt (popHead m u) u) w ps) (firedEntry w k ps)) := by
  subst hm
  simp only [metFor] at hp
  simp only [matchNormal, hp, metFor]
  rfl

/-- A second token for a stored key and port is dropped. -/
theorem matchNormal_collides (hm : m = metFor s u w k)
    (hp : partners (tileAt m u) w (instKey k.tag) (tagPort k.tag) (ntArity w) = none) {l : Loc}
    (hf : findEntry (tileAt m u) (instKey k.tag) (tagPort k.tag) false = some l) :
    matchNormal s u k src w = dropHead m u Kind.tokenPortCollision src k := by
  subst hm
  simp only [metFor] at hp hf
  simp only [matchNormal, hp, hf, metFor]

/-- A token that lacks a partner is stored, or waits for room. -/
theorem matchNormal_stores (hm : m = metFor s u w k)
    (hp : partners (tileAt m u) w (instKey k.tag) (tagPort k.tag) (ntArity w) = none)
    (hf : findEntry (tileAt m u) (instKey k.tag) (tagPort k.tag) false = none) :
    matchNormal s u k src w = match storeEntry (tileAt m u) (setIndex (instKey k.tag) false) (waitingEntry k) with
      | some t' => popHead (setTile m u t') u
      | none => stallStore m u := by
  subst hm
  simp only [metFor] at hp hf
  simp only [matchNormal, hp, hf, metFor, waitingEntry] <;> rfl

end Normal

/-- Firing, storing and the collision, in the state that the lookup of the partners leaves. -/
theorem matching : Matching := by
  intro s m u src w k hu hm
  have hmet : MetErrors s u m := hm ▸ metFor_met hu
  have hum : u < m.tiles.length := hmet.length ▸ hu
  refine ⟨fun ps e hp he => ?fires, fun hp hf => ⟨fun t' ht => ?stored, fun ht => ?waits⟩, fun l hp hf => matchNormal_collides hm hp hf⟩
  case fires =>
    change e = firedEntry w k ps at he
    have hpop := popHead_tile m u hum
    have hcons := consume_eq w ps (tileAt m u) (tileAt (popHead m u) u) (by rw [hpop]; rfl) (by rw [hpop]; rfl)
    have hfq : (consume (tileAt (popHead m u) u) w ps).fq = (tileAt m u).fq := by rw [hcons, hpop]; rfl
    obtain ⟨hiq, hst, hov⟩ := fire_keeps (now s) (consume (tileAt (popHead m u) u) w ps) e
    have hlen : u < (popHead m u).tiles.length := by rw [popHead, modTile_length]; exact hum
    rw [matchNormal_fires hm hp, ← he, tileAt_setTile_same _ _ _ hlen]
    refine ⟨?_, ?_, ?_, fun hr => ?_, fun hr => ?_, fun v hv => ?_, ?_⟩
    · rw [hiq, hcons, hpop]; rfl
    · rw [hst, hcons]
    · rw [hov, hcons]
    · rw [← fqRoom_congr hfq] at hr
      rw [fire_of_room hr, ← hfq]
      rfl
    · rw [← fqRoom_congr hfq] at hr
      rw [fire_of_full hr, ← hfq]
      exact ⟨rfl, rfl⟩
    · rw [tileAt_setTile_other _ _ _ _ (Ne.symm hv), popHead, tileAt_modTile_other _ _ _ _ (Ne.symm hv)]
    · rw [setTile_net, popHead, modTile_net, hmet.net]
  case stored =>
    rw [matchNormal_stores hm hp hf]
    simp only [waitingEntry, ht]
  case waits =>
    rw [matchNormal_stores hm hp hf]
    simp only [waitingEntry, ht]

/-! ### The head is taken (R45, R52, R305) -/

section Head
variable {s s1 : State} {u w : Nat} {h : QTok} {rest : List QTok}

theorem exec_matchToken (s : State) (u : Nat) : exec (.matchToken u) s = .next (kept s (matchToken s u)) := rfl

/-- A token without a fitting node table entry is dropped. -/
theorem matchToken_of_missing (hk : tagKind h.tok.tag = 0 ∨ tagKind h.tok.tag = 3) (ht : TakesHead s u h rest s1 none) :
    matchToken s u = popHead s1 u := by
  obtain ⟨hfree, hiq, hnode⟩ := ht
  have hkind : ¬(tagKind h.tok.tag = 1 ∨ tagKind h.tok.tag = 2) := by omega
  simp [matchToken, hfree, hiq, hkind, hnode]

/-- The checks that a token with a node table entry meets, in their order. -/
theorem matchToken_of_found (hk : tagKind h.tok.tag = 0 ∨ tagKind h.tok.tag = 3) (ht : TakesHead s u h rest s1 (some w)) :
    matchToken s u =
      if ntArity w ≤ tagPort h.tok.tag then dropHead s1 u Kind.tokenPortInvalid h.src h.tok
      else if bit (ntSticky w) (tagPort h.tok.tag) then dropHead s1 u Kind.tokenKindInvalid h.src h.tok
      else if tagKind h.tok.tag = 3 ∨ (tileAt s1 u).spl.tested = true then matchNormal s1 u h.tok h.src w
      else if (filterTest s1 u h.tok).2 then matchNormal
        (modTile (filterTest s1 u h.tok).1 u (fun t => { t with spl := { t.spl with tested := true } })) u h.tok h.src w
      else (filterTest s1 u h.tok).1 := by
  obtain ⟨hfree, hiq, hnode⟩ := ht
  have hkind : ¬(tagKind h.tok.tag = 1 ∨ tagKind h.tok.tag = 2) := by omega
  simp only [matchToken, hfree, hiq, hkind, hnode, Bool.not_true, Bool.false_eq_true, if_false, ite_or]

/-- The checks that a sticky token with a node table entry meets, in their order. -/
theorem matchSticky_of_found (hk : tagKind h.tok.tag = 1) (ht : TakesHead s u h rest s1 (some w)) (hport : tagPort h.tok.tag < ntArity w) :
    matchSticky s u =
      if bit (ntSticky w) (tagPort h.tok.tag) = false ∨ tagIter h.tok.tag ≠ 0 then dropHead s1 u Kind.tokenKindInvalid h.src h.tok
      else
        let key := stickyKey (instKey h.tok.tag)
        let m := meetLookup s1 u (setIndex key true) (setIndex key true)
        match findEntry (tileAt m u) key (tagPort h.tok.tag) true with
        | some _ => dropHead m u Kind.stickyDuplicate h.src h.tok
        | none =>
          match storeEntry (tileAt m u) (setIndex key true)
              { key := key, port := tagPort h.tok.tag, state := 3, spoison := h.tok.poison, val := h.tok.val } with
          | some t' => popHead (setTile m u t') u
          | none => stallStore m u := by
  obtain ⟨hfree, hiq, hnode⟩ := ht
  simp only [matchSticky, hfree, hiq, hk, hnode, Nat.not_le.mpr hport, Bool.not_true, Bool.false_eq_true, if_false, ne_eq, not_true,
    Bool.or_eq_true, Bool.not_eq_true', decide_eq_true_eq] <;> rfl

end Head

/-- The checks of a token at the head, in the order in which they are met. -/
theorem matchTokenHead : MatchToken := by
  intro s s1 u h rest hk
  refine ⟨fun ht => by rw [exec_matchToken, matchToken_of_missing hk ht], fun w ht => ?_⟩
  rw [exec_matchToken, matchToken_of_found hk ht]
  refine ⟨fun hp => ?port, fun hp hs => ?kind, fun hp hs => ⟨fun hgo => ?tested, fun s2 hk0 hnt hf => ?passes, fun s2 hk0 hnt hf => ?waits⟩⟩
  case port => rw [if_pos hp]; rfl
  case kind => rw [if_neg (Nat.not_le.mpr hp), if_pos hs]; rfl
  all_goals rw [if_neg (Nat.not_le.mpr hp), if_neg (by simp [hs])]
  case tested => rw [if_pos hgo]
  all_goals rw [if_neg (by simp [hk0, hnt]), hf]
  case passes => rfl
  case waits => rfl

/-- The kind of the port, the duplicate, and the storing of a sticky token. -/
theorem matchStickyToken : MatchStickyToken := by
  intro s s1 m u w h rest ht hk hport hm
  have hexec : exec (.matchStickyToken u) s = .next (kept s (matchSticky s u)) := rfl
  rw [hexec, matchSticky_of_found hk ht hport]
  refine ⟨fun hbad => ?kind, fun hs hi => ?_⟩
  case kind => rw [if_pos hbad]; rfl
  rw [if_neg (by simp [hs, hi])]
  simp only [← hm]
  exact ⟨fun hf => ⟨fun t' ht' => by simp only [hf, ht'], fun ht' => by simp only [hf, ht']⟩, fun l hl => by simp only [hl]; rfl⟩

/-- Settles O24, from how a head is taken and what matching makes of it. -/
theorem matchingOfTokens : Obligations.MatchingOfTokens := ⟨matchTokenHead, matching, matchStickyToken⟩

end Sys2Proof.Machine
end

section
/-! PROOF. Instructions that send tokens (R41, R95, R96): the command of an instruction that issues settles the instruction's meaning,
and each send enters its token. -/

namespace Sys2Proof.Machine

/-! ### An instruction runs -/

section Issue
variable {s s1 : State} {u : Nat} {i : Ins}

/-- The command of an instruction that issues settles what the instruction's own meaning makes of the fetched state. -/
theorem settled_issue {want : NOp → Bool} {run : Ins → State → State} (h : Issues s u i s1) (hw : want i.op = true) :
    settled s (issue s u want run) = .next (kept s (run i s1)) := by
  rw [issue_runs h want run hw, settled_next]

theorem exec_send (h : Issues s u i s1) (hop : i.op = .send) : exec (.send u) s = .next (kept s (runSend u i false s1)) :=
  settled_issue h (by simp [hop])

theorem exec_sends (h : Issues s u i s1) (hop : i.op = .sends) : exec (.sends u) s = .next (kept s (runSend u i true s1)) :=
  settled_issue h (by simp [hop])

theorem exec_sendr (h : Issues s u i s1) (hop : i.op = .sendr) : exec (.sendr u) s = .next (kept s (runSendr u i s1)) :=
  settled_issue h (by simp [hop])

theorem exec_sendc (h : Issues s u i s1) (hop : i.op = .sendc) : exec (.sendc u) s = .next (kept s (runSendc u i s1)) :=
  settled_issue h (by simp [hop])

/-- A send unit with room takes the token and issues what it can. -/
theorem enterSend_of_room (hroom : (tileAt s u).send.length < 8) (tag : W64) (v : PWord) : enterSend s u i tag v
    = drainSends (advance (setTile s u { tileAt s u with send := (tileAt s u).send ++
        [{ tok := ⟨v.val, tag, v.poison⟩, pc := (tileAt s u).thread.pc, trail := i.lead.trail.map (fun r => gVal s u r % 2 ^ 32)
           serial := (tileAt s u).thread.serial, itag := (tileAt s u).thread.itag, slot := (tileAt s u).thread.slot
           trapBank := (tileAt s u).thread.trapBank }] }) u i) u := by
  simp [enterSend, Nat.not_le.mpr hroom]

end Issue

/-- Settles O19: each send enters its token, once its registers are consumed without poison. -/
theorem sendInstructions : Obligations.SendInstructions := by
  intro u i s s1 h hroom
  refine ⟨fun hop hg => ?send, fun hop hg => ?sends, fun hop hg hk => ?sendr, fun hop hg => ?sendc, enterSend_of_room hroom⟩
  case send =>
    rw [exec_send h hop, runSend, consumeG_clean _ _ _ _ hg]
    rfl
  case sends =>
    rw [exec_sends h hop, runSend, consumeG_clean _ _ _ _ hg]
    rfl
  case sendr =>
    rw [exec_sendr h hop, runSendr, consumeG_clean _ _ _ _ hg]
    simp only [Nat.not_le.mpr hk, if_false]
    rfl
  case sendc =>
    rw [exec_sendc h hop, runSendc, consumeG_clean _ _ _ _ hg]
    rfl

end Sys2Proof.Machine
end

section
/-! PROOF. Requests of nodes (R48, R49, R51, R91, R98, R99, R104, R326, R338): what a request that leaves changes, said once for the
memory requests of loads, stores and AADDs, once for those that wait for a placement, and once for the requests that block the thread. -/

namespace Sys2Proof.Machine

variable {s s1 : State} {u : Nat} {i : Ins}

/-! ### The checks of an address (R91) -/

/-- The window of a memory instruction's access. -/
def accWindow (s : State) (u : Nat) (i : Ins) : Where :=
  windowOf s (tileAt s u) (tileAt s u).thread.slot (effAddr s u i) (accBytes i)

/-- A window that lies elsewhere than in the own frame, and somewhere. -/
def Where.elsewhere (w : Where) : Bool :=
  match w with
  | .remote _ _ | .stand _ _ | .host _ => true
  | _ => false

/-- An aligned access elsewhere passes the checks. -/
theorem checkAddr_elsewhere (k : Where → State) (ha : effAddr s u i % accAlign i = 0) (hw : (accWindow s u i).elsewhere = true) :
    checkAddr s u (effAddr s u i) (accBytes i) (accAlign i) k = k (accWindow s u i) := by
  unfold checkAddr
  rw [← accWindow]
  cases h : accWindow s u i with
  | remote vt off => simp [ha]
  | stand ph off => simp [ha]
  | host iova => simp [ha]
  | _ => rw [h] at hw; cases hw

/-- A window that has a target lies elsewhere. -/
theorem elsewhere_of_requestOf {w : Where} {x : Nat × MemWord} (h : requestOf s u w = some x) : w.elsewhere = true := by
  cases w <;> simp [requestOf, Where.elsewhere] at h ⊢

/-- The host window is the one whose requests have SPACE 2. -/
theorem requestOf_space {w : Where} {target : Nat} {m : MemWord} (h : requestOf s u w = some (target, m)) :
    m.space = 2 ↔ ∃ iova, w = .host iova := by
  cases w with
  | remote vt off =>
    simp only [requestOf] at h
    split at h
    · cases h; simp
    · cases h
  | stand ph off => cases h; simp
  | host iova => cases h; simp
  | _ => cases h

/-! ### The thread goes on -/

/-- What stays of a state from which tile `u`'s thread has issued a request: the other tiles, and of its own the registers and the frame;
the thread stands at the next instruction. -/
structure WentOn (s t : State) (u : Nat) (i : Ins) : Prop where
  other : ∀ v, v ≠ u → tileAt t v = tileAt s v
  frame : (tileAt t u).frame = (tileAt s u).frame
  thread : (tileAt t u).thread = { (tileAt s u).thread with pc := (tileAt s u).thread.pc + i.len }

/-- A change of the advanced tile that touches neither its thread nor its frame. -/
theorem wentOn_modTile (hu : u < s.tiles.length) {f : Tile → Tile} (hf : ∀ t, (f t).thread = t.thread ∧ (f t).frame = t.frame) :
    WentOn s (modTile (advance s u i) u f) u i := by
  have hlen : u < (advance s u i).tiles.length := by simpa [advance, modThread] using hu
  refine ⟨fun v hv => ?_, ?_, ?_⟩
  · simp [advance, modThread, Ne.symm hv]
  · rw [tileAt_modTile_same _ _ _ hlen, (hf _).2]
    simp [advance, modThread, hu]
  · rw [tileAt_modTile_same _ _ _ hlen, (hf _).1]
    simp [advance, modThread, hu]

theorem wentOn_advance (hu : u < s.tiles.length) : WentOn s (advance s u i) u i := by
  refine ⟨fun v hv => ?_, ?_, ?_⟩
  · simp [advance, modThread, Ne.symm hv]
  all_goals simp [advance, modThread, hu]

/-- What leaves the tiles alone keeps it so. -/
theorem WentOn.of_tiles {t x : State} (h : WentOn s t u i) (hx : x.tiles = t.tiles) : WentOn s x u i := by
  have hat (v : Nat) : tileAt x v = tileAt t v := by simp only [tileAt, hx]
  exact ⟨fun v hv => (hat v).trans (h.other v hv), by rw [hat, h.frame], by rw [hat, h.thread]⟩

/-! ### A memory request leaves (R49, R326) -/

/-- The memory request of the running node to a target. -/
def memReq (s : State) (u : Nat) (use : Use) (target : Nat) (b : Body) : OutReq :=
  { threadReq (tileAt s u) with unit := u, use := use, target := target, body := b }

/-- `B` gives the contents that `mk` gives once the placement of a remote frame window is filled in. -/
abbrev Fills (mk B : MemWord → Body) : Prop :=
  (∀ m, m.space ≠ 0 → mk m = B m)
  ∧ ∀ (e : PlaceEntry) (vt off : Nat), fillBody (mk { space := 0, vtile := vt, off := off }) e
      = B { space := 0, slot := e.slot, gen := e.gen, vtile := vt, off := off }

/-- A memory request whose target is known is sent by the thread that has gone on. -/
theorem issueMem_sends {w : Where} (use : Use) {mk B : MemWord → Body} {target : Nat} {m : MemWord} (hu : u < s.tiles.length)
    (hr : requestOf s u w = some (target, m)) (hB : Fills mk B) :
    ∃ t, issueMem s u i w use mk = sendReq t (memReq s u use target (B m)) ∧ t.net = s.net ∧ WentOn s t u i := by
  obtain ⟨hfill, hfill0⟩ := hB
  cases w with
  | stand ph off =>
    cases hr
    refine ⟨advance s u i, ?_, rfl, wentOn_advance hu⟩
    rw [← hfill { space := 1, off := 0x100000 * (ph % 16) + off } (Nat.succ_ne_zero 0)]
    rfl
  | host iova =>
    cases hr
    refine ⟨advance s u i, ?_, rfl, wentOn_advance hu⟩
    rw [← hfill { space := 2, off := iova } (Nat.succ_ne_zero 1)]
    rfl
  | remote vt off =>
    simp only [requestOf] at hr
    cases hp : pcacheFind (tileAt s u) (nodePart s u) vt with
    | none =>
      rw [hp] at hr
      cases hr
    | some e =>
      rw [hp] at hr
      cases hr
      refine ⟨modTile (advance s u i) u (fun t => { t with pHits := (t.pHits + 1) % 2 ^ 32 }), ?_, rfl,
        wentOn_modTile hu (fun _ => ⟨rfl, rfl⟩)⟩
      have hp' : pcacheFind (tileAt s u) (nodeBinding (tileAt s u)).part vt = some e := hp
      rw [← hfill0 e vt off]
      simp only [issueMem, hp']
      rfl
  | _ => cases hr

/-- A memory request that is not cached leaves as the newest packet. -/
theorem issueMem_leaves {w : Where} (use : Use) {mk B : MemWord → Body} {target : Nat} {m : MemWord} (hu : u < s.tiles.length)
    (hr : requestOf s u w = some (target, m)) (hB : Fills mk B) (hc : cachedOp (B m) = false) :
    (∃ tag, (∀ l x b d p, B m = .lineWrite l x b d p → tag = x) ∧ (issueMem s u i w use mk).net = s.net ++
        [{ cls := 2, dest := target, src := rqId u 0, part := nodePart s u, tag := tag, body := B m }])
    ∧ WentOn s (issueMem s u i w use mk) u i := by
  obtain ⟨t, hsend, hnet, hwent⟩ := issueMem_sends (i := i) use hu hr hB
  obtain ⟨hsnet, _, hstiles⟩ := sendNow_spec t (memReq s u use target (B m))
  rw [hsend, sendReq_plain t _ hc]
  refine ⟨⟨_, fun l x b d p h => ?_, by rw [hsnet, hnet]; rfl⟩, hwent.of_tiles hstiles⟩
  have hbody : (memReq s u use target (B m)).body = .lineWrite l x b d p := h
  simp only [sendTag, hbody, cachedOp, Bool.false_eq_true, if_false]

/-- The thread notes the register that a load writes. -/
def pend (i : Ins) (th : Thread) : Thread :=
  if i.lead.vec then { th with pendV := i.a :: th.pendV } else { th with pendG := i.a :: th.pendG }

/-- The marks of a waiting load touch nothing that a request reads. -/
theorem pend_keeps (i : Ins) (th : Thread) : (pend i th).g = th.g ∧ (pend i th).slot = th.slot ∧ (pend i th).pc = th.pc := by
  unfold pend
  split <;> exact ⟨rfl, rfl, rfl⟩

section Noted
variable {f : Thread → Thread} (hf : ∀ th, (f th).g = th.g ∧ (f th).slot = th.slot ∧ (f th).pc = th.pc)

theorem modThread_tile (f : Thread → Thread) (hu : u < s.tiles.length) :
    tileAt (modThread s u f) u = { tileAt s u with thread := f (tileAt s u).thread } := by simp [modThread, hu]

theorem modThread_other (f : Thread → Thread) {v : Nat} (hv : v ≠ u) : tileAt (modThread s u f) v = tileAt s v := by
  simp [modThread, Ne.symm hv]

include hf

/-- The node keeps its partition. -/
theorem nodePart_modThread (hu : u < s.tiles.length) : nodePart (modThread s u f) u = nodePart s u := by
  simp only [nodePart, nodeBinding, modThread_tile f hu, (hf _).2.1]

/-- Its requests go to the same target. -/
theorem requestOf_modThread (hu : u < s.tiles.length) (w : Where) : requestOf (modThread s u f) u w = requestOf s u w := by
  cases w with
  | host iova => simp only [requestOf, nodePart_modThread hf hu]; rfl
  | remote vt off => simp only [requestOf, nodePart_modThread hf hu, modThread_tile f hu]; rfl
  | _ => rfl

/-- A memory request that leaves after the thread has noted its register. -/
theorem issueMem_requestLeft {w : Where} (use : Use) {mk B : MemWord → Body} {target : Nat} {m : MemWord} (hu : u < s.tiles.length)
    (hr : requestOf s u w = some (target, m)) (hB : Fills mk B) (hc : cachedOp (B m) = false) :
    RequestLeft s (issueMem (modThread s u f) u i w use mk) u target (B m)
    ∧ (tileAt (issueMem (modThread s u f) u i w use mk) u).thread
        = { f (tileAt s u).thread with pc := (tileAt s u).thread.pc + i.len } := by
  rw [← requestOf_modThread hf hu w] at hr
  obtain ⟨⟨tag, _, hnet⟩, hwent⟩ := issueMem_leaves (i := i) use (by simpa [modThread] using hu) hr hB hc
  rw [nodePart_modThread hf hu] at hnet
  refine ⟨⟨⟨tag, hnet⟩, ?_, ?_, fun v hv => ?_⟩, ?_⟩
  · rw [hwent.thread, modThread_tile f hu]
    exact (hf _).1
  · rw [hwent.frame, modThread_tile f hu]
  · rw [hwent.other v hv, modThread_other f hv]
  · rw [hwent.thread, modThread_tile f hu, (hf _).2.2]

end Noted

/-! ### A memory request waits for its placement (R48, R49) -/

/-- What a request that waits for a placement leaves: it waits, the thread has gone on, and no frame byte changes. -/
abbrev WaitsFor (s t : State) (u : Nat) (i : Ins) (vt : Nat) : Prop :=
  (∃ m, (tileAt t u).memWait = (tileAt s u).memWait ++ [m] ∧ m.vt = vt)
  ∧ (tileAt t u).thread.pc = (tileAt s u).thread.pc + i.len
  ∧ (tileAt t u).frame = (tileAt s u).frame ∧ (∀ w, w ≠ u → tileAt t w = tileAt s w)

/-- Asking for a placement changes of the tiles only the own fills and their count. -/
theorem askPlace_tiles (s : State) (u part vt : Nat) (avoid : Option Nat) :
    ∃ fl n, (askPlace s u part vt avoid).tiles = s.tiles ∨ (askPlace s u part vt avoid).tiles
      = (setTile s u { tileAt s u with fills := fl, pMisses := n }).tiles := by
  unfold askPlace
  dsimp only
  split
  · exact ⟨[], 0, .inl rfl⟩
  · exact ⟨_, _, .inr (by rw [sendReq_plain _ _ rfl, (sendNow_spec _ _).2.2])⟩

/-- A tile that asks for a placement keeps all but its fills. -/
theorem askPlace_tile (part vt : Nat) (avoid : Option Nat) (hu : u < s.tiles.length) :
    (∃ fl n, tileAt (askPlace s u part vt avoid) u = { tileAt s u with fills := fl, pMisses := n })
    ∧ ∀ v, v ≠ u → tileAt (askPlace s u part vt avoid) v = tileAt s v := by
  obtain ⟨fl, n, h | h⟩ := askPlace_tiles s u part vt avoid
  · have hat (v : Nat) : tileAt (askPlace s u part vt avoid) v = tileAt s v := by simp only [tileAt, h]
    exact ⟨⟨(tileAt s u).fills, (tileAt s u).pMisses, hat u⟩, fun v _ => hat v⟩
  · have hat (v : Nat) : tileAt (askPlace s u part vt avoid) v
        = tileAt (setTile s u { tileAt s u with fills := fl, pMisses := n }) v := by simp only [tileAt, h]
    exact ⟨⟨fl, n, by rw [hat, tileAt_setTile_same _ _ _ hu]⟩, fun v hv => by rw [hat, tileAt_setTile_other _ _ _ _ (Ne.symm hv)]⟩

/-- A memory request of the running node that waits for the placement of a virtual tile. -/
def placeWait (s : State) (u vt : Nat) (use : Use) (b : Body) : MemWait :=
  ⟨vt, { threadReq (tileAt s u) with unit := u, use := use, body := b }⟩

/-- The state in which it waits. -/
def noteWait (s : State) (u : Nat) (m : MemWait) : State := modTile s u (fun t => { t with memWait := t.memWait ++ [m] })

/-- A memory request to a remote frame window without a cached placement waits, and asks for the placement. -/
theorem issueMem_uncached (use : Use) (mk : MemWord → Body) {vt off : Nat} (hp : pcacheFind (tileAt s u) (nodePart s u) vt = none) :
    issueMem s u i (.remote vt off) use mk = askPlace
      (noteWait (advance s u i) u (placeWait s u vt use (mk { space := 0, vtile := vt, off := off }))) u (nodePart s u) vt none := by
  have hp' : pcacheFind (tileAt s u) (nodeBinding (tileAt s u)).part vt = none := hp
  simp only [issueMem, hp']
  rfl

/-- So it leaves what `WaitsFor` says, also after the thread has noted the register that it loads. -/
theorem issueMem_waits {f : Thread → Thread} (hf : ∀ th, (f th).g = th.g ∧ (f th).slot = th.slot ∧ (f th).pc = th.pc) (use : Use)
    (mk : MemWord → Body) {vt off : Nat} (hu : u < s.tiles.length) (hp : pcacheFind (tileAt s u) (nodePart s u) vt = none) :
    WaitsFor s (issueMem (modThread s u f) u i (.remote vt off) use mk) u i vt := by
  have hp' : pcacheFind (tileAt (modThread s u f) u) (nodePart (modThread s u f) u) vt = none := by
    rw [nodePart_modThread hf hu, modThread_tile f hu]
    exact hp
  have hum : u < (modThread s u f).tiles.length := by simpa [modThread] using hu
  have hlen : u < (advance (modThread s u f) u i).tiles.length := by simpa [advance, modThread] using hu
  have hwent := wentOn_advance (i := i) hum
  have hmem : (tileAt (advance (modThread s u f) u i) u).memWait = (tileAt s u).memWait := by simp [advance, modThread, hu]
  rw [issueMem_uncached use mk hp']
  generalize hm : placeWait (modThread s u f) u vt use (mk { space := 0, vtile := vt, off := off }) = m
  obtain ⟨⟨fl, n, htile⟩, hother⟩ := askPlace_tile (s := noteWait (advance (modThread s u f) u i) u m)
    (nodePart (modThread s u f) u) vt none (by simpa [noteWait] using hlen)
  rw [noteWait, tileAt_modTile_same _ _ _ hlen] at htile
  rw [noteWait] at hother ⊢
  refine ⟨⟨m, by rw [htile, hmem], by rw [← hm]; rfl⟩, ?_, ?_, fun w hw => ?_⟩
  · rw [htile]
    exact (congrArg Thread.pc hwent.thread).trans (by rw [modThread_tile f hu, (hf _).2.2])
  · rw [htile]
    exact hwent.frame.trans (by rw [modThread_tile f hu])
  · rw [hother w hw, tileAt_modTile_other _ _ _ _ (Ne.symm hw), hwent.other w hw, modThread_other f hw]

/-! ### What a load, a store and an AADD ask for elsewhere -/

section Elsewhere
variable (hg : cleanG s u [i.b]) (ha : effAddr s u i % accAlign i = 0) (hm : memOut s u < 8) (hw : (accWindow s u i).elsewhere = true)
include hg ha hm hw

/-- A load elsewhere issues its request. -/
theorem runLoad_elsewhere (sext : Bool) : runLoad u i sext s = issueMem (modThread s u (pend i)) u i (accWindow s u i)
    (.load i.a (scalarW i) sext i.lead.vec) (fun m => if i.lead.vec then .readBulk m else .readWord m) := by
  have hm' : ¬ 8 ≤ memOut s u := Nat.not_le.mpr hm
  rw [runLoad, consumeG_clean _ _ _ _ hg, checkAddr_elsewhere _ ha hw]
  cases h : accWindow s u i with
  | remote vt off => exact if_neg hm'
  | stand ph off => exact if_neg hm'
  | host iova => exact if_neg hm'
  | _ => rw [h] at hw; cases hw

omit hw in
/-- A load whose target is known: its request leaves, and its register waits. -/
theorem runLoad_leaves (sext : Bool) {target : Nat} {m : MemWord} (hu : u < s.tiles.length)
    (hr : requestOf s u (accWindow s u i) = some (target, m)) :
    RequestLeft s (runLoad u i sext s) u target (if i.lead.vec then .readBulk m else .readWord m)
    ∧ (if i.lead.vec then i.a ∈ (tileAt (runLoad u i sext s) u).thread.pendV else i.a ∈ (tileAt (runLoad u i sext s) u).thread.pendG) := by
  rw [runLoad_elsewhere hg ha hm (elsewhere_of_requestOf hr)]
  obtain ⟨hleft, hth⟩ := issueMem_requestLeft (i := i) (pend_keeps i) (.load i.a (scalarW i) sext i.lead.vec)
    (mk := fun m => if i.lead.vec then .readBulk m else .readWord m) (B := fun m => if i.lead.vec then .readBulk m else .readWord m) hu hr
    ⟨fun _ _ => rfl, fun _ _ _ => by cases i.lead.vec <;> rfl⟩ (by cases i.lead.vec <;> rfl)
  refine ⟨hleft, ?_⟩
  rw [hth]
  cases hv : i.lead.vec <;> simp [pend, hv]

/-- A scalar store elsewhere issues its request. -/
theorem runStore_scalar_elsewhere (hv : i.lead.vec = false) : runStore u i s = issueMem s u i (accWindow s u i) .store
    (fun m => .writeWord m (scalarW i) ⟨BitVec.ofNat 64 (gVal s u i.a % 2 ^ scalarW i), (gReg s u i.a).poison⟩) := by
  have hm' : ¬ 8 ≤ memOut s u := Nat.not_le.mpr hm
  rw [runStore, consumeG_clean _ _ _ _ hg, checkAddr_elsewhere _ ha hw]
  cases h : accWindow s u i with
  | remote vt off => simp only [hm', if_false, hv, Bool.false_eq_true]
  | stand ph off => simp only [hm', if_false, hv, Bool.false_eq_true]
  | host iova => simp only [hm', if_false, hv, Bool.false_eq_true]
  | _ => rw [h] at hw; cases hw

/-- The contents of a bulk store's request before its placement is known. -/
def bulkBody (s : State) (u : Nat) (i : Ins) (line : MemWord → Nat) (m : MemWord) : Body :=
  .lineWrite (line m) (storeSlot s u) true (leBytes 256 (vReg s u i.a).val.toNat) (if (vReg s u i.a).poison then 2 ^ 32 - 1 else 0)

/-- A bulk store elsewhere than in the host window issues its request. -/
theorem runStore_bulk_elsewhere (hv : i.lead.vec = true) (hh : ∀ iova, accWindow s u i ≠ .host iova) :
    runStore u i s = issueMem s u i (accWindow s u i) .store (bulkBody s u i bulkLine) := by
  have hm' : ¬ 8 ≤ memOut s u := Nat.not_le.mpr hm
  rw [runStore, consumeG_clean _ _ _ _ hg, checkAddr_elsewhere _ ha hw]
  cases h : accWindow s u i with
  | remote vt off => simp only [hm', if_false, hv, if_true]; rfl
  | stand ph off => simp only [hm', if_false, hv, if_true]; rfl
  | host iova => exact absurd h (hh iova)
  | _ => rw [h] at hw; cases hw

omit hw in
/-- A bulk store in the host window posts its base address first (R323). -/
theorem runStore_bulk_host (hv : i.lead.vec = true) {iova : Nat} (hh : accWindow s u i = .host iova) : runStore u i s
    = issueMem (sendPosted s (rqId u 0) (homeUnit s (nodePart s u)) (nodePart s u) (.hostBase (storeSlot s u) iova)) u i (.host iova) .store
        (bulkBody s u i bulkLine) := by
  have hm' : ¬ 8 ≤ memOut s u := Nat.not_le.mpr hm
  rw [runStore, consumeG_clean _ _ _ _ hg, checkAddr_elsewhere _ ha (by rw [hh]; rfl)]
  simp only [hh, hm', if_false, hv, if_true]
  rfl

omit hg in
/-- An AADD elsewhere than in the host window issues its request. -/
theorem runAadd_elsewhere (hg2 : cleanG s u [i.b, i.c]) (hh : ∀ iova, accWindow s u i ≠ .host iova) : runAadd u i s
    = issueMem (modThread s u (fun th => { th with pendG := i.a :: th.pendG })) u i (accWindow s u i) (.aadd i.a (scalarW i))
        (fun m => .aadd m (scalarW i) (BitVec.ofNat 64 (gVal s u i.c))) := by
  have hm' : ¬ 8 ≤ memOut s u := Nat.not_le.mpr hm
  rw [runAadd, consumeG_clean _ _ _ _ hg2, checkAddr_elsewhere _ ha hw]
  cases h : accWindow s u i with
  | remote vt off => exact if_neg hm'
  | stand ph off => exact if_neg hm'
  | host iova => exact absurd h (hh iova)
  | _ => rw [h] at hw; cases hw

end Elsewhere

/-! ### The commands of memory instructions -/

theorem exec_ld (h : Issues s u i s1) (hop : i.op = .ld) : exec (.ld u) s = .next (kept s (runLoad u i false s1)) :=
  settled_issue h (by simp [hop])

theorem exec_lds (h : Issues s u i s1) (hop : i.op = .lds) : exec (.lds u) s = .next (kept s (runLoad u i true s1)) :=
  settled_issue h (by simp [hop])

theorem exec_st (h : Issues s u i s1) (hop : i.op = .st) : exec (.st u) s = .next (kept s (runStore u i s1)) :=
  settled_issue h (by simp [hop])

theorem exec_aadd (h : Issues s u i s1) (hop : i.op = .aadd) : exec (.aadd u) s = .next (kept s (runAadd u i s1)) :=
  settled_issue h (by simp [hop])

/-- A thread that is not changed has nothing to note. -/
theorem modThread_id (s : State) (u : Nat) : modThread s u (fun th => th) = s := setTile_self s u

/-- Each access whose target is known, through its request. -/
theorem remoteAccesses : RemoteAccesses := by
  intro u target m i s s1 h hg hu hr ha hm
  change requestOf s1 u (accWindow s1 u i) = some (target, m) at hr
  have hw := elsewhere_of_requestOf hr
  refine ⟨fun hop hv => ?ld, fun hop hv => ?ldv, fun hop hv => ?lds, fun hop hv => ?st, fun hop hv hg2 hsp => ?aadd,
    fun hop hv hsp => ?stv, fun hop hv hsp => ?sthost⟩
  case ld =>
    obtain ⟨hleft, hpend⟩ := runLoad_leaves hg ha hm false hu hr
    rw [if_neg (by simp [hv])] at hleft hpend
    exact ⟨_, exec_ld h hop, hleft, hpend⟩
  case ldv =>
    obtain ⟨hleft, hpend⟩ := runLoad_leaves hg ha hm false hu hr
    rw [if_pos hv] at hleft hpend
    exact ⟨_, exec_ld h hop, hleft, hpend⟩
  case lds =>
    obtain ⟨hleft, hpend⟩ := runLoad_leaves hg ha hm true hu hr
    rw [if_neg (by simp [hv])] at hleft hpend
    exact ⟨_, exec_lds h hop, hleft, hpend⟩
  case st =>
    refine ⟨_, exec_st h hop, ?_⟩
    rw [runStore_scalar_elsewhere hg ha hm hw hv]
    have hleft := issueMem_requestLeft (i := i) (f := fun th => th) (fun _ => ⟨rfl, rfl, rfl⟩) .store
      (mk := fun m => .writeWord m (scalarW i) ⟨BitVec.ofNat 64 (gVal s1 u i.a % 2 ^ scalarW i), (gReg s1 u i.a).poison⟩)
      hu hr ⟨fun _ _ => rfl, fun _ _ _ => rfl⟩ rfl
    rw [modThread_id] at hleft
    exact hleft.1
  case aadd =>
    have hh : ∀ iova, accWindow s1 u i ≠ .host iova := fun iova he => hsp ((requestOf_space hr).mpr ⟨iova, he⟩)
    refine ⟨_, exec_aadd h hop, ?_⟩
    rw [runAadd_elsewhere ha hm hw hg2 hh]
    obtain ⟨hleft, hth⟩ := issueMem_requestLeft (i := i) (f := fun th => { th with pendG := i.a :: th.pendG }) (fun _ => ⟨rfl, rfl, rfl⟩)
      (.aadd i.a (scalarW i)) (mk := fun m => .aadd m (scalarW i) (BitVec.ofNat 64 (gVal s1 u i.c))) hu hr
      ⟨fun _ _ => rfl, fun _ _ _ => rfl⟩ rfl
    have hmem : i.a ∈ (tileAt (issueMem (modThread s1 u (fun th => { th with pendG := i.a :: th.pendG })) u i (accWindow s1 u i)
        (.aadd i.a (scalarW i)) (fun m => .aadd m (scalarW i) (BitVec.ofNat 64 (gVal s1 u i.c)))) u).thread.pendG := by
      rw [hth]
      exact List.mem_cons_self
    exact ⟨hleft, hmem⟩
  case stv =>
    have hh : ∀ iova, accWindow s1 u i ≠ .host iova := fun iova he => hsp ((requestOf_space hr).mpr ⟨iova, he⟩)
    refine ⟨_, exec_st h hop, ?_⟩
    rw [runStore_bulk_elsewhere hg ha hm hw hv hh]
    have hfills : Fills (bulkBody s1 u i bulkLine) (bulkBody s1 u i (fun m => if m.space = 2 then 0 else storeLine m)) := by
      refine ⟨fun m h0 => ?_, fun _ _ _ => rfl⟩
      simp only [bulkBody, bulkLine, storeLine, if_neg h0]
    have hleft := issueMem_requestLeft (i := i) (f := fun th => th) (fun _ => ⟨rfl, rfl, rfl⟩) .store hu hr hfills rfl
    rw [modThread_id, bulkBody, if_neg hsp] at hleft
    exact hleft.1
  case sthost =>
    obtain ⟨iova, hh⟩ := (requestOf_space hr).mp hsp
    have hr' : requestOf s1 u (.host iova) = some (target, m) := by rw [← hh]; exact hr
    cases hr'
    refine ⟨_, exec_st h hop, ?_⟩
    rw [runStore_bulk_host hg ha hm hv hh]
    obtain ⟨⟨tag, htag, hnet⟩, hwent⟩ := issueMem_leaves (i := i)
      (s := sendPosted s1 (rqId u 0) (homeUnit s1 (nodePart s1 u)) (nodePart s1 u) (.hostBase (storeSlot s1 u) iova)) .store
      (w := .host iova) (mk := bulkBody s1 u i bulkLine) (B := bulkBody s1 u i (fun m => if m.space = 2 then 0 else storeLine m)) hu rfl
      ⟨fun m h0 => by simp only [bulkBody, bulkLine, storeLine, if_neg h0], fun _ _ _ => rfl⟩ rfl
    rw [htag _ _ _ _ _ rfl] at hnet
    exact ⟨hnet.trans (List.append_assoc _ _ _), hwent.frame, hwent.other⟩

/-- Each access whose placement is not cached, through its wait. -/
theorem uncachedAccesses : UncachedAccesses := by
  intro u vt off c i s s1 h hg hu hwin hp ha hm hc
  change accWindow s1 u i = .remote vt off at hwin
  have hw : (accWindow s1 u i).elsewhere = true := by rw [hwin]; rfl
  have hh : ∀ iova, accWindow s1 u i ≠ .host iova := fun iova he => by rw [hwin] at he; cases he
  have hnote := pend_keeps i
  rcases hc with ⟨rfl, hop⟩ | ⟨rfl, hop⟩ | ⟨rfl, hop⟩ | ⟨rfl, hop, hv, hg2⟩
  · refine ⟨_, exec_ld h hop, ?_⟩
    rw [runLoad_elsewhere hg ha hm hw, hwin]
    exact issueMem_waits hnote _ _ hu hp
  · refine ⟨_, exec_lds h hop, ?_⟩
    rw [runLoad_elsewhere hg ha hm hw, hwin]
    exact issueMem_waits hnote _ _ hu hp
  · refine ⟨_, exec_st h hop, ?_⟩
    have hwait (mk : MemWord → Body) := issueMem_waits (i := i) (f := fun th => th) (off := off) (fun _ => ⟨rfl, rfl, rfl⟩) .store mk hu hp
    simp only [modThread_id] at hwait
    cases hv : i.lead.vec with
    | true =>
      rw [runStore_bulk_elsewhere hg ha hm hw hv hh, hwin]
      exact hwait _
    | false =>
      rw [runStore_scalar_elsewhere hg ha hm hw hv, hwin]
      exact hwait _
  · refine ⟨_, exec_aadd h hop, ?_⟩
    rw [runAadd_elsewhere ha hm hw hg2 hh, hwin]
    exact issueMem_waits (f := fun th => { th with pendG := i.a :: th.pendG }) (fun _ => ⟨rfl, rfl, rfl⟩) (.aadd i.a (scalarW i))
      (fun m => .aadd m (scalarW i) (BitVec.ofNat 64 (gVal s1 u i.c))) hu hp

/-! ### Requests that block the thread (R98, R99, R104, R338) -/

/-- A request whose window is open leaves, and the thread waits for its answer. -/
theorem askAndBlock_waits {target : Nat} {b : Body} (use : Use) (hu : u < s.tiles.length)
    (hw : windowOpen s (rqId u 0) (nodePart s u) target = true) : AskedAndWaits s (askAndBlock s u i target b use) u target b := by
  have hw' : windowOpen s (rqId u 0) (nodeBinding (tileAt s u)).part target = true := hw
  let o := memReq s u use target b
  have hopen : windowOpen (advance s u i) (rqId o.unit o.sub) o.part o.target = true := hw
  have hsend : sendReq (advance s u i) o = sendNow (advance s u i) o := by simp [sendReq, hopen]
  have heq : askAndBlock s u i target b use
      = modThread (sendNow (advance s u i) o) u (fun th => { th with block := some (.request target (sendTag s o)) }) := by
    rw [← hsend]
    simp only [askAndBlock, hw', Bool.not_true, Bool.and_false, Bool.false_eq_true, if_false]
    rfl
  obtain ⟨hnet, houts, htiles⟩ := sendNow_spec (advance s u i) o
  have htag : sendTag (advance s u i) o = sendTag s o := rfl
  rw [htag] at hnet houts
  rw [heq]
  refine ⟨sendTag s o, ?_, hnet, ⟨_, houts, rfl, rfl, rfl, rfl, rfl⟩⟩
  rw [modThread_tile _ (by rw [htiles]; simpa [advance, modThread] using hu)]

theorem exec_ctxa (h : Issues s u i s1) (hop : i.op = .ctxa) : exec (.ctxa u) s = .next (kept s (runCtxa u i s1)) :=
  settled_issue h (by simp [hop])

theorem exec_ctxr (h : Issues s u i s1) (hop : i.op = .ctxr) : exec (.ctxr u) s = .next (kept s (runCtxr u i s1)) :=
  settled_issue h (by simp [hop])

theorem exec_spawn (h : Issues s u i s1) (hop : i.op = .spawn) : exec (.spawn u) s = .next (kept s (runSpawn u i false s1)) :=
  settled_issue h (by simp [hop])

theorem exec_spawnTry (h : Issues s u i s1) (hop : i.op = .spawnTry) : exec (.spawnTry u) s = .next (kept s (runSpawn u i true s1)) :=
  settled_issue h (by simp [hop])

/-- A lock operation on a register without poison asks the lock unit. -/
theorem runLock_waits (op : LockOp) (hu : u < s.tiles.length) (hg : cleanG s u [i.b])
    (hw : windowOpen s (rqId u 0) (nodePart s u) 0x304 = true) :
    AskedAndWaits s (runLock u i op s) u 0x304 (.lockOp ⟨op, gVal s u i.b, (tileAt s u).thread.slot⟩) := by
  rw [runLock, consumeG_clean _ _ _ _ hg]
  exact askAndBlock_waits _ hu hw

/-- A spawn on registers without poison asks the scheduler. -/
theorem runSpawn_waits (isTry : Bool) (hu : u < s.tiles.length) (hg : cleanG s u [i.b, i.c])
    (hn : bit (gVal s u i.b) 56 = true → cleanG s u [i.a]) (hw : windowOpen s (rqId u 0) (nodePart s u) 0x301 = true) :
    ∃ req, AskedAndWaits s (runSpawn u i isTry s) u 0x301 (.admission req)
      ∧ req.spawn = BitVec.ofNat 64 (gVal s u i.b) ∧ req.arg = BitVec.ofNat 64 (gVal s u i.c) ∧ req.launch = false := by
  have hclean : cleanG s u (if bit (gVal s u i.b) 56 && !(gReg s u i.b).poison then [i.b, i.c, i.a] else [i.b, i.c]) := by
    split
    · next hb =>
      have h56 : bit (gVal s u i.b) 56 = true := (Bool.and_eq_true_iff.mp hb).1
      intro r hr
      rcases List.mem_cons.mp hr with h | hr
      · exact hg r (by simp [h])
      rcases List.mem_cons.mp hr with h | hr
      · exact hg r (by simp [h])
      · exact hn h56 r hr
    · exact hg
  rw [runSpawn, consumeG_clean _ _ _ _ hclean]
  exact ⟨_, askAndBlock_waits _ hu hw, rfl, rfl, rfl⟩

/-- Each service request, once its registers are consumed without poison. -/
theorem serviceRequests : ServiceRequests := by
  intro u i s s1 h hu
  refine ⟨fun hop hw => ⟨_, exec_ctxa h hop, askAndBlock_waits _ hu hw⟩, fun hop hg hw => ⟨_, exec_ctxr h hop, ?_⟩,
    fun hg hn hw => ⟨fun hop => ⟨_, exec_spawn h hop, runSpawn_waits false hu hg hn hw⟩,
      fun hop => ⟨_, exec_spawnTry h hop, runSpawn_waits true hu hg hn hw⟩⟩,
    fun hg hw => ⟨fun hop => ⟨_, settled_issue h (by simp [hop]), runLock_waits .acquire hu hg hw⟩,
      fun hop => ⟨_, settled_issue h (by simp [hop]), runLock_waits .try_ hu hg hw⟩,
      fun hop => ⟨_, settled_issue h (by simp [hop]), runLock_waits .release hu hg hw⟩,
      fun hop => ⟨_, settled_issue h (by simp [hop]), runLock_waits .semAcquire hu hg hw⟩,
      fun hop => ⟨_, settled_issue h (by simp [hop]), runLock_waits .semRelease hu hg hw⟩⟩⟩
  rw [runCtxr, consumeG_clean _ _ _ _ hg]
  exact askAndBlock_waits _ hu hw

/-- Settles O20: the accesses whose target is known, those that wait for a placement, and the service requests. -/
theorem requestsOfNodes : Obligations.RequestsOfNodes := ⟨remoteAccesses, uncachedAccesses, serviceRequests⟩

end Sys2Proof.Machine
end

section
/-! PROOF. The arrival of tokens (R50, R73, R241, R325, R333, R474, R588): how a token packet is taken, how one of its tokens is, and the
checks of Table 2.6. -/

namespace Sys2Proof.Machine

/-! ### The packet (R73, R325, R474) -/

/-- The packet that an arrival takes. -/
def tokenPkt (u src part gen : Nat) (toks : List Token) (ack : Bool) (handle : Option Nat) : Packet :=
  { cls := 1, dest := u, src := src, part := part, tag := 0
    body := (match handle with
      | some h => .actTokens gen toks h
      | none => .tokens gen toks ack) }

section Arrival
variable {s : State} {u src part gen : Nat} {toks : List Token} {ack : Bool} {handle : Option Nat}

/-- The position of a tile is a unit. -/
theorem isUnit_of_tile (hu : u < 0x110) : isUnit u = true ∧ isTile u = true := by
  simp [isUnit, isTile, hu]

variable (hw : working s = true) (ha : arrivable s (tokenPkt u src part gen toks ack handle) = true)
include hw ha

/-- Where the work units run, a packet that is the oldest of its flow reaches its unit. -/
theorem tokenArrival_reaches (hu : isUnit u = true) : tokenArrival s u src part gen toks ack handle =
    if !(isTile u) then sendOn (dropPkt s u (tokenPkt u src part gen toks ack handle)) (src / 4)
    else if (tileAt s (steer s u)).excluded then sendOn (takePkt s (tokenPkt u src part gen toks ack handle)) (src / 4)
    else if decide ((tileAt s (steer s u)).iqCredits = 0) || !(iqRoom (tileAt s (steer s u))) then s
    else
      let s1 := modTile (arriveTokens (takePkt s (tokenPkt u src part gen toks ack handle)) (steer s u) src part gen handle toks)
        (steer s u) useCredit
      sendOn (if ack then modTile s1 (steer s u) (fun t => { t with ackOwed := oweAck (now s) src t.ackOwed }) else s1) (src / 4) := by
  unfold tokenArrival
  cases handle <;> simp only [tokenPkt] at ha <;> simp only [hw, hu, ha, tokenPkt] <;> rfl

/-- A unit that is no tile drops it. -/
theorem tokenArrival_of_no_tile (hu : isUnit u = true) (ht : 0x110 ≤ u) :
    tokenArrival s u src part gen toks ack handle = sendOn (dropPkt s u (tokenPkt u src part gen toks ack handle)) (src / 4) := by
  have hno : isTile u = false := by simp [isTile, ht]
  rw [tokenArrival_reaches hw ha hu, hno]
  rfl

/-- A quarantined tile takes it and drops its tokens. -/
theorem tokenArrival_of_excluded (hu : u < 0x110) (hx : (tileAt s (steer s u)).excluded = true) :
    tokenArrival s u src part gen toks ack handle = sendOn (takePkt s (tokenPkt u src part gen toks ack handle)) (src / 4) := by
  obtain ⟨hunit, htile⟩ := isUnit_of_tile hu
  rw [tokenArrival_reaches hw ha hunit, htile, hx]
  rfl

/-- A tile with a credit and room takes its tokens, and owes the acknowledgement of an ACK packet. -/
theorem tokenArrival_of_room (hu : u < 0x110) (hx : (tileAt s (steer s u)).excluded = false) (hc : (tileAt s (steer s u)).iqCredits ≠ 0)
    (hr : (tileAt s (steer s u)).iq.length + 4 ≤ 2048) : tokenArrival s u src part gen toks ack handle =
      sendOn (modTile (modTile (arriveTokens (takePkt s (tokenPkt u src part gen toks ack handle)) (steer s u) src part gen handle toks)
        (steer s u) useCredit) (steer s u) (fun t => if ack then { t with ackOwed := oweAck (now s) src t.ackOwed } else t)) (src / 4) := by
  obtain ⟨hunit, htile⟩ := isUnit_of_tile hu
  have hroom : iqRoom (tileAt s (steer s u)) = true := decide_eq_true hr
  rw [tokenArrival_reaches hw ha hunit, htile, hx, hroom]
  simp only [hc, decide_false, Bool.not_true, Bool.or_self, Bool.false_eq_true, if_false]
  cases ack with
  | true => rfl
  | false => exact congrArg (sendOn · (src / 4)) (setTile_self _ _).symm

end Arrival

/-! ### One token (R50, R241) -/

section One
variable {s : State} {u src part gen : Nat} {k : Token}

/-- A token that passes the checks enters the input queue. -/
theorem arriveToken_of_pass (handle : Option Nat) (h : arrivalCheck (tileAt s u) k part gen = none) :
    arriveToken s u src part gen handle k = setTile s u
      (noteHwm { tileAt s u with iq := (tileAt s u).iq ++ [⟨k, src⟩], arrived := ((tileAt s u).arrived + 1) % 2 ^ 32 }) := by
  simp only [arriveToken, h]

/-- One that fails a check is dropped with its fault, and a start token is reported lost. -/
theorem arriveToken_of_fail {kind : Nat} (handle : Option Nat) (h : arrivalCheck (tileAt s u) k part gen = some kind) :
    arriveToken s u src part gen handle k = match handle with
      | some x => sendMgmt (raise s kind (rqId u 0) (some part) src k.tag.toNat) (rqId u 3) 0x301 part 0 (.activationLost x)
      | none => raise s kind (rqId u 0) (some part) src k.tag.toNat := by
  simp only [arriveToken, h] <;> rfl

end One

/-! ### The checks (Table 2.6) -/

section Checks
variable {t : Tile} {k : Token} {part gen : Nat}

theorem arrivalCheck_of_kind (h : tagKind k.tag = 3) : arrivalCheck t k part gen = some Kind.tokenKindInvalid := by
  simp [arrivalCheck, h]

theorem arrivalCheck_of_partition (hk : tagKind k.tag < 3) (h : part ≠ tagPart k.tag ∨ tilePart t ≠ some part) :
    arrivalCheck t k part gen = some Kind.partitionMismatch := by
  have hk3 : tagKind k.tag ≠ 3 := Nat.ne_of_lt hk
  have hp : (decide (part = tagPart k.tag) && decide (tilePart t = some part)) = false := by
    rcases h with h | h <;> simp [h]
  simp only [arrivalCheck, hk3, hp, if_false, Bool.not_false, if_true]

variable (hp : part = tagPart k.tag) (ht : tilePart t = some part)
include hp ht

/-- A normal or sticky token needs a binding of the packet's generation. -/
theorem arrivalCheck_of_placed (hk : tagKind k.tag < 2) : arrivalCheck t k part gen =
    match t.bindings.find? (fun b => b.valid && decide (b.vtile = tagVt k.tag)) with
    | some b => if b.gen = gen then none else some Kind.stalePlacement
    | none => some Kind.stalePlacement := by
  have hk3 : tagKind k.tag ≠ 3 := by omega
  have hpart : (decide (part = tagPart k.tag) && decide (tilePart t = some part)) = true := by simp [← hp, ht]
  simp only [arrivalCheck, hk3, hpart, hk, if_false, Bool.not_true, Bool.false_eq_true, decide_true, Bool.true_or]
  cases t.bindings.find? (fun b => b.valid && decide (b.vtile = tagVt k.tag)) <;> rfl

/-- A CTX_END names no virtual tile. -/
theorem arrivalCheck_of_ctxEnd (hk : tagKind k.tag = 2) (hn : tagNode k.tag = 0) : arrivalCheck t k part gen = none := by
  have hpart : (decide (part = tagPart k.tag) && decide (tilePart t = some part)) = true := by simp [← hp, ht]
  simp [arrivalCheck, hk, hn, hpart]

end Checks

/-- Settles O23: the packet's three fates, a token's two, and the checks. -/
theorem tokenArrival_holds : Obligations.TokenArrival := by
  refine ⟨fun s u src part gen toks ack handle p hw hp ha => ?packet,
    fun s u src part gen handle k => ⟨arriveToken_of_pass handle, fun kind h => ?failed⟩,
    fun t k part gen => ⟨arrivalCheck_of_kind, arrivalCheck_of_partition, fun hk hp ht => ?placed,
      fun hk hn hp ht => arrivalCheck_of_ctxEnd hp ht hk hn⟩⟩
  case packet =>
    have hexec : exec (.tokenArrival u src part gen toks ack handle) s
      = .next (kept s (tokenArrival s u src part gen toks ack handle)) := rfl
    have hpkt : p = tokenPkt u src part gen toks ack handle := by subst hp; cases handle <;> rfl
    subst hpkt
    rw [hexec]
    exact ⟨fun hu hx hc hr => by rw [tokenArrival_of_room hw ha hu hx hc hr], fun hu hx => by rw [tokenArrival_of_excluded hw ha hu hx],
      fun hu ht => by rw [tokenArrival_of_no_tile hw ha hu ht]⟩
  case failed =>
    rw [arriveToken_of_fail handle h]
    cases handle with
    | none => exact ⟨rfl, rfl, (List.append_nil _).symm⟩
    | some x => exact ⟨rfl, rfl, rfl⟩
  case placed =>
    rw [arrivalCheck_of_placed hp ht hk]
    cases t.bindings.find? (fun b => b.valid && decide (b.vtile = tagVt k.tag)) <;> rfl

end Sys2Proof.Machine
end

section
/-! PROOF. Control tokens, their scans, and dispatch (R57, R61, R62, R75, R79, R308). -/

namespace Sys2Proof.Machine

variable {s : State} {u : Nat}

/-! ### A control token at the head (R61, R62) -/

/-- The command of a control token, by its opcode. -/
theorem exec_controlToken (s : State) (u : Nat) (purge : Bool) :
    exec (if purge then .ctxPurge u else .ctxEnd u) s = .next (kept s (controlToken s u purge)) := by cases purge <;> rfl

/-- A control token at the head is scanned for, or dropped. -/
theorem controlToken_of_head {h : QTok} {rest : List QTok} {purge : Bool} (hfree : matcherFree s u = true) (hiq : (tileAt s u).iq = h :: rest)
    (hk : tagKind h.tok.tag = 2) (hp : decide (tagNode h.tok.tag = 1) = purge) : controlToken s u purge =
      if controlOk (tileAt s u) h then setTile (meetStore (popHead s u) u) u
        (scanStart (tileNow s) (tileAt (meetStore (popHead s u) u) u) (!purge) h.tok.tag)
      else dropHead s u Kind.controlTokenInvalid h.src h.tok := by
  have hmine : ¬(tagKind h.tok.tag ≠ 2 ∨ decide (tagNode h.tok.tag = 1) ≠ purge) := by simp [hk, hp]
  simp only [controlToken, hfree, hiq, hmine, Bool.not_true, Bool.false_eq_true, if_false]
  cases controlOk (tileAt s u) h <;> rfl

/-- What the start of a scan leaves of the tiles. -/
theorem scanStart_leaves {h : QTok} {rest : List QTok} (isEnd : Bool) (hiq : (tileAt s u).iq = h :: rest) (hu : u < s.tiles.length) {m : State}
    (hm : m = meetStore (popHead s u) u) (tag : W64) :
    (tileAt (setTile m u (scanStart (tileNow s) (tileAt m u) isEnd tag)) u) = scanStart (tileNow s) (tileAt m u) isEnd tag
    ∧ (tileAt m u).iq = rest
    ∧ ∀ v, v ≠ u → tileAt (setTile m u (scanStart (tileNow s) (tileAt m u) isEnd tag)) v = tileAt s v := by
  have hup : u < (popHead s u).tiles.length := by simpa [popHead] using hu
  have hmet : MetErrors (popHead s u) u m := hm ▸ meetStore_met (popHead s u) u hup
  refine ⟨tileAt_setTile_same _ _ _ (hmet.length ▸ hup), ?_, fun v hv => ?_⟩
  · rw [hmet.tile hup, popHead_tile s u hu, hiq]
    rfl
  · rw [tileAt_setTile_other _ _ _ _ (Ne.symm hv), hmet.other hv, popHead, tileAt_modTile_other _ _ _ _ (Ne.symm hv)]

/-! ### The scan's end (R308) -/

/-- What a tile awaits of its overspill agent lies in the tile's spill state and the outstanding requests. -/
theorem overspillBusy_setTile {t : Tile} (hu : u < s.tiles.length) (h : t.spl = (tileAt s u).spl) :
    overspillBusy (setTile s u t) u = overspillBusy s u := by
  unfold overspillBusy
  rw [tileAt_setTile_same _ _ _ hu, h]
  rfl

/-- CTX_END is acknowledged where nothing is awaited of the agent. -/
theorem settleEnds_setTile {t : Tile} (hu : u < s.tiles.length) (h : t.spl = (tileAt s u).spl) : settleEnds (setTile s u t) u =
    if overspillBusy s u || !t.spl.fetchBuf.isEmpty then setTile s u t else ackEnds (setTile s u { t with endWaits := [] }) u t.endWaits := by
  unfold settleEnds
  rw [overspillBusy_setTile hu h, tileAt_setTile_same _ _ _ hu]
  simp only [setTile, List.set_set]

/-- Each acknowledgement is a packet to the context pool. -/
theorem ackEnds_spec (l : List EndWait) (s : State) (u : Nat) : (ackEnds s u l).tiles = s.tiles ∧ (ackEnds s u l).net = s.net ++ l.map
    (fun e => { cls := 0, dest := 0x303, src := rqId u 0, part := e.part, tag := 0, body := .ctxEndAck e.ctx e.count }) := by
  induction l generalizing s with
  | nil => exact ⟨rfl, (List.append_nil _).symm⟩
  | cons e r ih =>
    obtain ⟨htiles, hnet⟩ := ih (sendMgmt s (rqId u 0) 0x303 e.part 0 (.ctxEndAck e.ctx e.count))
    refine ⟨htiles, hnet.trans ?_⟩
    rw [List.map_cons, List.append_cons]
    rfl

/-- A scan whose time has passed ends, and what may be acknowledged is. -/
theorem controlScanDone_of_done {c : Scan} (hr : tileRuns s u = true) (hs : (tileAt s u).scan = some c) (ht : c.doneAt ≤ tileNow s) :
    controlScanDone s u = settleEnds (setTile s u { tileAt s u with
      scan := none, endWaits := (tileAt s u).endWaits ++ (if c.isEnd then [⟨tagPart c.tag, tagCtx c.tag, c.count⟩] else []) }) u := by
  simp only [controlScanDone, hr, hs, Nat.not_lt.mpr ht, Bool.not_true, Bool.false_eq_true, if_false]
  cases c.isEnd <;> simp

/-! ### Dispatch (R57, R75, R79) -/

/-- The tile whose thread starts the node of a fired entry. -/
def startNode (t : Tile) (e : FireEntry) (q : List FireEntry) : Tile :=
  let slot := (t.bindings.findIdx? (fun b => b.valid && decide (b.part = tagPart e.tag) && decide (b.vtile = tagVt e.tag))).getD 0
  { t with
    fq := q
    spl := { t.spl with fireSince := none }
    thread := { t.thread with
      running := true, slot := slot, itag := e.tag, pc := e.entry, serial := t.thread.serial + 1, trapBank := false
      g := dispatchRegs e (t.stackReg.getD slot {}).top, p := dispatchPreds, depth := 0, stack := [], pendG := [], pendV := [], block := none } }

theorem exec_nodeDispatch (s : State) (u : Nat) : exec (.nodeDispatch u) s = .next (kept s (nodeDispatch s u)) := rfl

/-- An idle thread of a tile with a stored error meets it. -/
theorem nodeDispatch_of_error (hr : tileRuns s u = true) (hi : (tileAt s u).thread.running = false) (he : (tileAt s u).stateErr = true) :
    nodeDispatch s u = raise (setTile s u { tileAt s u with stateErr := false }) Kind.tileStateUncorrectable (rqId u 0)
      (tilePart (tileAt s u)) 0 0 := by
  unfold nodeDispatch
  dsimp only
  rw [if_neg (by simp [hr, hi]), if_pos he]

/-- It starts the entry that the fire queue gives. -/
theorem nodeDispatch_of_entry {e : FireEntry} {q : List FireEntry} (hr : tileRuns s u = true) (hi : (tileAt s u).thread.running = false)
    (he : (tileAt s u).stateErr = false) (hq : takeFire (tileAt s u).fq = some (e, q)) :
    nodeDispatch s u = setTile s u (settleHeld (now s) (startNode (tileAt s u) e q)) := by
  unfold nodeDispatch
  dsimp only
  rw [if_neg (by simp [hr, hi]), if_neg (by simp [he]), hq]
  rfl

/-- The kind of a fault message stands in its lowest bits. -/
theorem faultHead_kind (kind reporter subject : Nat) (part orphan : Option Nat) :
    faultHead kind reporter subject part orphan % 1024 = kind % 1024 := by
  unfold faultHead
  cases part <;> cases orphan <;> dsimp only <;> omega

/-- The held entry touches the fire queue, itself, their counters and marks. -/
theorem settleHeld_keeps (tm : Nat) (t : Tile) : (settleHeld tm t).thread = t.thread ∧ (settleHeld tm t).v = t.v
    ∧ (settleHeld tm t).acc = t.acc := by
  unfold settleHeld
  cases t.held with
  | none => exact ⟨rfl, rfl, rfl⟩
  | some x =>
    dsimp only
    split
    · exact ⟨rfl, rfl, rfl⟩
    · cases h : fqRoom t x.level with
      | true => rw [fire_of_room h]; exact ⟨rfl, rfl, rfl⟩
      | false => rw [fire_of_full h]; exact ⟨rfl, rfl, rfl⟩

/-- Without a held entry, or while it is being un-fired, nothing enters the fire queue. -/
theorem settleHeld_of_idle {tm : Nat} {t : Tile} (h : t.held = none ∨ t.spl.unfiring = true) : settleHeld tm t = t := by
  unfold settleHeld
  cases hx : t.held with
  | none => rfl
  | some x =>
    rcases h with h | h
    · rw [hx] at h; cases h
    · simp only [h, if_true]

/-- A held entry is tried again. -/
theorem settleHeld_of_held {tm : Nat} {t : Tile} {x : FireEntry} (hx : t.held = some x) (hn : t.spl.unfiring = false) :
    settleHeld tm t = fire tm t x := by
  simp only [settleHeld, hx, hn, Bool.false_eq_true, if_false]

/-- The g registers at dispatch, one by one. -/
theorem dispatchRegs_getD (e : FireEntry) (top n : Nat) (hn : n < 64) : (dispatchRegs e top).getD n {} =
    if n < 4 then e.ops.getD n {} else if n = 4 then ⟨e.tag, false⟩ else if n = 31 then ⟨BitVec.ofNat 64 top, false⟩ else {} := by
  simp only [dispatchRegs, List.getD_eq_getElem?_getD, List.getElem?_map, List.getElem?_range hn, Option.map_some, Option.getD_some]

/-- Settles O25: a control token's scan or drop, the scan's end, and the dispatch of the oldest entry. -/
theorem scansAndDispatch : Obligations.ScansAndDispatch := by
  refine ⟨fun s m u h rest purge hfree hiq hk hp hu hm => ⟨fun hok => ?scan, fun hbad => ?drop⟩,
    fun s u c es hr hs ht hes hu => ⟨fun hbusy => ?waits, fun hidle hbuf => ?acks⟩,
    fun s u e q hr hi hq hu => ⟨fun herr => ?error, fun herr => ?dispatch⟩⟩
  case scan =>
    refine ⟨_, exec_controlToken s u purge, ?_⟩
    rw [controlToken_of_head hfree hiq hk hp, if_pos hok, ← hm]
    obtain ⟨htile, hrest, hother⟩ := scanStart_leaves (!purge) hiq hu hm h.tok.tag
    exact ⟨(congrArg Tile.iq htile).trans hrest, congrArg (fun t : Tile => t.scan.map (fun x => (x.isEnd, x.tag, x.doneAt))) htile,
      congrArg Tile.store htile, congrArg Tile.ovf htile, hother⟩
  case drop =>
    rw [exec_controlToken, controlToken_of_head hfree hiq hk hp, if_neg (by simp [hbad])]
    rfl
  case waits =>
    have hexec : exec (.controlScanDone u) s = .next (kept s (controlScanDone s u)) := rfl
    have hbusy' : (overspillBusy s u || !(tileAt s u).spl.fetchBuf.isEmpty) = true := by
      rcases hbusy with h | h
      · rw [h, Bool.true_or]
      · cases hb : (tileAt s u).spl.fetchBuf with
        | nil => exact absurd hb h
        | cons => exact Bool.or_true _
    rw [hexec, controlScanDone_of_done hr hs ht, ← hes, settleEnds_setTile hu (t := { tileAt s u with scan := none, endWaits := es }) rfl, if_pos hbusy']
    rfl
  case acks =>
    refine ⟨kept s (controlScanDone s u), rfl, ?_⟩
    rw [controlScanDone_of_done hr hs ht, ← hes, settleEnds_setTile hu (t := { tileAt s u with scan := none, endWaits := es }) rfl, if_neg (by simp [hidle, hbuf])]
    obtain ⟨htiles, hnet⟩ := ackEnds_spec es (setTile s u { tileAt s u with scan := none, endWaits := [] }) u
    have htile := tileAt_setTile_same s u { tileAt s u with scan := none, endWaits := [] } hu
    rw [tileAt, ← htiles, ← tileAt] at htile
    exact ⟨congrArg Tile.scan htile, congrArg Tile.endWaits htile, hnet⟩
  case error =>
    refine ⟨_, exec_nodeDispatch s u, ?_⟩
    rw [nodeDispatch_of_error hr hi herr]
    refine ⟨rfl, _, rfl, ?_⟩
    rw [faultHead_kind]
    rfl
  case dispatch =>
    refine ⟨_, exec_nodeDispatch s u, ?_⟩
    rw [nodeDispatch_of_entry hr hi herr hq]
    have htile : tileAt (kept s (setTile s u (settleHeld (now s) (startNode (tileAt s u) e q)))) u
        = settleHeld (now s) (startNode (tileAt s u) e q) := tileAt_setTile_same s u _ hu
    generalize kept s (setTile s u (settleHeld (now s) (startNode (tileAt s u) e q))) = t at htile
    obtain ⟨hth, hv, hacc⟩ := settleHeld_keeps (now s) (startNode (tileAt s u) e q)
    have hthread : (tileAt t u).thread = (startNode (tileAt s u) e q).thread := by rw [htile, hth]
    have hreg (n : Nat) (hn : n < 64) := (congrArg (fun th : Thread => th.g.getD n {}) hthread).trans (dispatchRegs_getD e _ n hn)
    have hroom_eq (l : Nat) : fqRoom (startNode (tileAt s u) e q) l = fqRoom { tileAt s u with fq := q } l := fqRoom_congr rfl l
    refine ⟨fun hno => ?_, fun x hx hun => ⟨fun hroom => ?_, fun hfull => ?_⟩, by rw [hthread]; rfl, by rw [hthread]; rfl,
      by rw [hthread]; rfl, fun n hn => (hreg n (by omega)).trans (if_pos hn), hreg 4 (by decide), fun n h4 h64 h31 => ?_,
      by rw [htile, hv]; rfl, by rw [htile, hacc]; rfl⟩
    · rw [htile, settleHeld_of_idle (t := startNode (tileAt s u) e q) hno]
      exact ⟨rfl, rfl⟩
    · rw [htile, settleHeld_of_held (t := startNode (tileAt s u) e q) hx hun, fire_of_room ((hroom_eq _).trans hroom)]
      exact ⟨rfl, rfl⟩
    · rw [htile, settleHeld_of_held (t := startNode (tileAt s u) e q) hx hun, fire_of_full ((hroom_eq _).trans hfull)]
      exact ⟨rfl, rfl⟩
    · refine (hreg n h64).trans ?_
      rw [if_neg (by omega), if_neg (by omega), if_neg h31]

end Sys2Proof.Machine
end

section
/-! PROOF. The kernel loader's services (R161 to R173, Tables 5.11 and 5.12): what each service does, said once for each of its cases, and how a
run of descriptors goes on. -/

namespace Sys2Proof.Machine

/-! ### Opening, binding, placing, querying (R161, R164 to R166, R171, R172) -/

/-- What a service returns reads back, and it changes nothing but the loader's own block. -/
theorem klbReturn_spec (s : State) (r : KRes) (vs : List Nat) : klbReturn s r vs = { s with klb := { s.klb with
    result := r.code, detail := [r.sect, r.record, r.vt, r.unit, r.status], values := vs } } := rfl

/-- A service's return touches neither the queue nor the fuses. -/
theorem kept_klbReturn (s : State) (r : KRes) (vs : List Nat) : kept s (klbReturn s r vs) = klbReturn s r vs := rfl

theorem exec_klbOpen (s : State) (f : List Byte) : exec (.klbOpen f) s = .next (kept s (klbOpen s f)) := rfl
theorem exec_klbBind (s : State) (h v : Nat) (name : List Byte) : exec (.klbBind h name v) s = .next (kept s (klbBind s h name v)) := rfl
theorem exec_klbPlace (s : State) (h p : Nat) : exec (.klbPlace h p) s = .next (kept s (klbPlace s h p)) := rfl
theorem exec_klbLoad (s : State) (h rs : Nat) : exec (.klbLoad h rs) s = .next (kept s (klbLoad s h rs)) := rfl
theorem exec_klbStart (s : State) (h rs : Nat) : exec (.klbStart h rs) s = .next (kept s (klbStart s h rs)) := rfl
theorem exec_klbUnload (s : State) (h rs : Nat) : exec (.klbUnload h rs) s = .next (kept s (klbUnload s h rs)) := rfl
theorem exec_klbQuery (s : State) (h vt : Nat) : exec (.klbQuery h vt) s = .next (kept s (klbQuery s h vt)) := rfl

/-- A good file gets a new handle. -/
theorem klbOpen_of_good {s : State} {f : List Byte} (h : openCheck f = none) : klbOpen s f = klbReturn
    { s with klb := { s.klb with images := s.klb.images ++ [{ handle := s.klb.next, file := f }], next := s.klb.next + 1 } } { code := 0 }
    [s.klb.next, buildId f] := by
  unfold klbOpen
  generalize openCheck f = r at h
  subst h
  rfl

/-- A bad one is refused with the check's result. -/
theorem klbOpen_of_bad {s : State} {f : List Byte} {r : KRes} (h : openCheck f = some r) : klbOpen s f = klbReturn s r [] := by
  unfold klbOpen
  generalize openCheck f = c at h
  subst h
  rfl

/-- The digest is the fourth check of Table 5.12: a file that fails it fails that or an earlier one. -/
theorem openCheck_of_digest {f : List Byte} (h : leNat (onlySect f 10) ≠ leNat (digestBytes (sha384 (f.take (f.length - 48))))) :
    openCheck f ≠ none := by
  unfold openCheck
  simp only [if_pos h]
  split
  · exact Option.some_ne_none _
  split
  · exact Option.some_ne_none _
  split
  · exact Option.some_ne_none _
  · exact Option.some_ne_none _

section Image
variable {s : State} {h : Nat} {x : Image}

/-- A name that is an import is bound to the later value. -/
theorem klbBind_of_import {name : List Byte} {v i : Nat} (hx : imageAt s h = some x) (hst : x.state ≤ 1)
    (hi : (imports x.file).findIdx? (fun e => decide (e.1 = padName name)) = some i)
    (h1 : ((imports x.file).getD i ([], 0)).2 = 1 → v < 2 ^ 44)
    (hg : x.state = 1 → importGranted s x.part ((imports x.file).getD i ([], 0)).2 v = true) :
    klbBind s h name v = klbReturn (setImage s { x with
      binds := (padName name, v % 2 ^ 64) :: x.binds.filter (fun b => b.1 != padName name) }) { code := 0 } [] := by
  have hwide : (decide (((imports x.file).getD i ([], 0)).2 = 1) && decide (2 ^ 44 ≤ v)) = false := by
    rw [Bool.and_eq_false_iff, decide_eq_false_iff_not, decide_eq_false_iff_not, Nat.not_le]
    exact or_iff_not_imp_left.mpr (fun hn => h1 (not_not.mp hn))
  have hgrant : (decide (x.state = 1) && !(importGranted s x.part ((imports x.file).getD i ([], 0)).2 v)) = false := by
    rw [Bool.and_eq_false_iff, decide_eq_false_iff_not, Bool.not_eq_false']
    exact or_iff_not_imp_left.mpr (fun hn => hg (not_not.mp hn))
  unfold klbBind
  simp only [hx, Nat.not_lt.mpr hst, hi, hwide, hgrant, if_false, Bool.false_eq_true]

/-- An image is placed by the factor that fits the grant. -/
theorem klbPlace_of_fit {p k : Nat} (hx : imageAt s h = some x) (hst : x.state = 0)
    (hfree : ∀ y ∈ s.klb.images, y.part = p → y.state = 0 ∨ 3 < y.state) (hg : grantError s x p = none)
    (hk : chooseFold x.file (grantThickets s p) = (k, none)) : klbPlace s h p = klbReturn (setImage s { x with
      state := 1, part := p, fold := k, thickets := (grantThickets s p).take (thicketsFor x.file k) }) { code := 0 } [k] := by
  have hnone : ¬(x.state ≠ 0 ∨ s.klb.images.any (fun y => decide (y.part = p) && within 1 3 y.state) = true) := by
    simp only [hst, ne_eq, not_true, false_or, List.any_eq_true, not_exists, not_and, Bool.and_eq_true, decide_eq_true_eq, within]
    intro y hy hp
    have := hfree y hy hp
    omega
  unfold klbPlace
  simp only [hx, hnone, hg, hk, if_false]

/-- A placed image answers queries for its virtual tiles. -/
theorem klbQuery_of_placed {vt : Nat} (hx : imageAt s h = some x) (hst : x.state ≠ 0) (hvt : vt < 4 * zThickets x.file) :
    klbQuery s h vt = klbReturn s { code := 0 } [x.fold, vt / 4 % x.fold, physTile x (vt / 4 / x.fold) (vt % 4),
      4096 * frameBase (foldGroup x.file x.fold (vt / 4 / x.fold) (vt % 4)) (vt / 4 % x.fold)] := by
  simp only [klbQuery, hx, hst, Nat.not_le.mpr hvt, if_false]

end Image

/-- The factor that is chosen is permitted, has thickets enough, and meets every budget. -/
theorem chooseFold_fits {f : List Byte} {g : List Nat} {k : Nat} (h : chooseFold f g = (k, none)) :
    k ∈ foldsOf f ∧ thicketsFor f k ≤ g.length ∧ budgetsFail f k g = none := by
  unfold chooseFold at h
  dsimp only at h
  split at h
  · next k' hfind =>
    cases h
    obtain ⟨hfold, hfit⟩ := List.mem_filter.mp (List.mem_of_find?_eq_some hfind)
    have hbudget := List.find?_some hfind
    exact ⟨hfold, of_decide_eq_true hfit, Option.isNone_iff_eq_none.mp hbudget⟩
  · cases h

/-- Opening in its two outcomes, the digest, and the services of an image that is open or placed. -/
theorem loaderOpensAndPlaces : LoaderOpensAndPlaces := by
  refine ⟨fun s f hf => ?good, fun f => openCheck_of_digest, fun s f r hr => ⟨_, exec_klbOpen s f, ?bad⟩,
    fun s h v i name x hx hst hi h1 hg => ?bind, fun s h p k x hx hst hfree hg hk => ?place, fun f g k => chooseFold_fits,
    fun s h vt x hx hst hvt => ?query⟩
  case good =>
    rw [exec_klbOpen, klbOpen_of_good hf]
    rfl
  case bad =>
    rw [klbOpen_of_bad hr]
    exact ⟨rfl, rfl, rfl, rfl⟩
  case bind =>
    rw [exec_klbBind, klbBind_of_import hx hst hi h1 hg]
    rfl
  case place =>
    rw [exec_klbPlace, klbPlace_of_fit hx hst hfree hg hk]
    rfl
  case query =>
    rw [exec_klbQuery, klbQuery_of_placed hx hst hvt]
    rfl

/-! ### Loading (R162, R168 to R171, R173) -/

section Load
variable {s : State} {h rs : Nat} {x : Image}

/-- A first call on a ring set that carries its descriptors allocates the load contexts and goes on to the commit. -/
theorem klbLoad_first (hx : imageAt s h = some x) (hst : x.state = 1) (hc : clocked s = true) (hj : jobOf s h 0 = none)
    (hr : ringFails s x.part rs = none) {s1 : State} {cs : List Nat} (ha : allocMany s x.part (reqContexts x.file) = (s1, cs)) :
    klbLoad s h rs =
      let j : KJob := { handle := h, rs := rs, part := x.part, ctxs := cs, want := proposal x }
      if cs.length ≠ reqContexts x.file then klbReturn (releaseAll s1 x.part cs).1 { code := 15, status := some 0x0A } []
      else if placementCommitted s x then klbWrite s1 x { j with phase := 1 }
      else setJob (emit s1 (.proposal x.part false (proposal x))) j := by
  simp only [klbLoad, hx, hst, hc, hj, hr, ha, ne_eq, not_true, if_false, Bool.not_true, Bool.false_eq_true]

/-- A call that goes on is the job's. -/
theorem klbLoad_again {j : KJob} (hx : imageAt s h = some x) (hst : x.state = 1) (hc : clocked s = true) (hj : jobOf s h 0 = some j) :
    klbLoad s h rs = klbLoadOn s x j := by
  simp only [klbLoad, hx, hst, hc, hj, ne_eq, not_true, if_false, Bool.not_true, Bool.false_eq_true]

/-- A job that waits for the commit goes on by how its proposal closed. -/
theorem klbLoadOn_of_commit {j : KJob} (hp : j.phase = 0) : klbLoadOn s x j = match j.heard with
    | none => if inSafe s then loadFail s j { code := 13 } else s
    | some e => if e = 0 then klbWrite s x { j with phase := 1, staged := true } else loadFail s j { code := 13 } := by
  simp only [klbLoadOn, hp] <;> rfl

/-- A placement that cannot be relocated or patched fails. -/
theorem klbWrite_of_error {j : KJob} {r : KRes} (h : loadError { x with ctxs := j.ctxs } = some r) : klbWrite s x j = loadFail s j r := by
  simp only [klbWrite, h]

/-- Otherwise its descriptors are sent, and the job ends, waits or fails with them. -/
theorem klbWrite_of_run {j j1 : KJob} {s1 : State} {e : KStop} (h : loadError { x with ctxs := j.ctxs } = none)
    (hrun : loadRun s j ((loadDescs { x with ctxs := j.ctxs }).drop j.sent) = (s1, j1, e)) : klbWrite s x j = match e with
      | .done => endJob (setImage s1 { x with ctxs := j.ctxs, state := 2 }) j { code := 0 }
      | .waits => setJob s1 j1
      | .fails r => loadFail s1 j1 r := by
  simp only [klbWrite, h, hrun]
  cases e <;> rfl

/-- A failed load whose bindings it has not committed releases its contexts and returns. -/
theorem loadFail_unstaged {j : KJob} (r : KRes) (hst : j.staged = false) (hw : working s = true) :
    loadFail s j r = klbReturn (dropJob (releaseAll s j.part j.ctxs).1 j.handle) r [] := by
  simp only [loadFail, hst, hw, Bool.false_eq_true, if_false, if_true, endJob]

/-- A descriptor that completes is followed by the next. -/
theorem loadRun_step {j : KJob} {d : KDesc} {l : List KDesc} {s1 : State} {e : Nat} (ho : ringOpen s j.rs = true)
    (hroom : d.room s (ringAt s j.rs) = true) (hagain : j.again ≤ now s) (hl : j.lost = false)
    (hs : loadSend s j.rs (ringAt s j.rs).nextSeq d = (s1, 0, e)) (ha : (ringAt s1 j.rs).state = 1) :
    loadRun s j (d :: l) = loadRun (entryRead s1 j.rs) { j with sent := j.sent + 1, lost := false, busyN := 0 } l := by
  rw [loadRun]
  simp only [ho, hroom, Nat.not_lt.mpr hagain, hl, hs, ha, Bool.not_true, Bool.or_self, decide_false, Bool.false_eq_true, if_false, ne_eq,
    not_true, true_or, if_true]

/-- LOAD_CODE writes the instruction store of the tile that serves its position. -/
theorem loadApply_code {p off : Nat} {b : List Byte} (h0 : loadStatus s (ringAt s rs) (steer s p) = 0) : loadApply s rs (.code p off b)
    = (modTile s (steer s p) (fun t => clearMarks { t with istore := ByteMem.wrBytes t.istore off b } off b.length), 0, 0) := by
  simp only [loadApply, h0]

end Load

/-- klb_load: its first call, its wait for the commit, its descriptors and its failure. -/
theorem loaderLoads : LoaderLoads := by
  refine ⟨fun s s1 h rs x cs j hx hst hc hj hr ha hjob => ?first, fun s h rs x j hx hst hc hj hp => ?again, fun s x j =>
    ⟨fun r => klbWrite_of_error, fun s1 j1 e herr hrun => ?run, fun r => loadFail_unstaged r⟩,
    fun s s1 j d l e => loadRun_step, fun s rs p off b => loadApply_code⟩
  case first =>
    subst hjob
    rw [exec_klbLoad, klbLoad_first hx hst hc hj hr ha]
    refine ⟨fun hlen hcom => ?_, fun hlen hcom => ?_, fun hlen => ?_⟩
    · simp only [hlen, hcom, ne_eq, not_true, if_false, if_true]
    · simp only [hlen, hcom, ne_eq, not_true, if_false, Bool.false_eq_true]
    · simp only [hlen, ne_eq, not_false_eq_true, if_true]
  case again =>
    rw [exec_klbLoad, klbLoad_again hx hst hc hj, klbLoadOn_of_commit hp]
    refine ⟨fun hh => ?_, fun e hh he => ?_, fun hh hsafe => ?_⟩
    · simp only [hh, if_true]
    · simp only [hh, he, if_false]
    · simp only [hh, hsafe, Bool.false_eq_true, if_false]
      rfl
  case run =>
    rw [klbWrite_of_run herr hrun]
    exact ⟨fun he => by subst he; rfl, fun he => by subst he; rfl, fun r he => by subst he; rfl⟩

/-! ### Starting and unloading (R65, R163, R169, R171) -/

section Start
variable {s : State} {h rs : Nat} {x : Image}

/-- A first call on a ring set that carries its descriptors injects the start tokens. -/
theorem klbStart_first (hx : imageAt s h = some x) (hst : x.state = 2) (hc : clocked s = true) (hj : jobOf s h 1 = none)
    (hr : ringFails s x.part rs = none) :
    klbStart s h rs = klbInject s x { handle := h, service := 1, rs := rs, part := x.part, phase := 1 } := by
  simp only [klbStart, hx, hst, hc, hj, hr, ne_eq, not_true, if_false, Bool.not_true, Bool.false_eq_true]

/-- A call that goes on injects the rest. -/
theorem klbStart_again {j : KJob} (hx : imageAt s h = some x) (hst : x.state = 2) (hc : clocked s = true) (hj : jobOf s h 1 = some j)
    (hf : callFails s j = none) : klbStart s h rs = klbInject s x j := by
  simp only [klbStart, hx, hst, hc, hj, hf, ne_eq, not_true, if_false, Bool.not_true, Bool.false_eq_true]

/-- When all start tokens are in, the image is STARTED. -/
theorem klbInject_of_done {j j1 : KJob} {s1 : State} (hrun : loadRun s j ((startDescs x).drop j.sent) = (s1, j1, .done)) :
    klbInject s x j = klbReturn (dropJob (setImage s1 { x with state := 3 }) j.handle) { code := 0 } [] := by
  simp only [klbInject, hrun, endJob]

/-- A first call of klb_unload releases the load contexts. -/
theorem klbUnload_first {s1 : State} (hx : imageAt s h = some x) (hst : x.state = 2 ∨ x.state = 3) (hc : clocked s = true)
    (hj : jobOf s h 2 = none) (hr : ringFails s x.part rs = none) (ha : releaseAll s x.part x.ctxs = (s1, true)) : klbUnload s h rs
      = klbUnloadOn s1 x { handle := h, service := 2, rs := rs, part := x.part, ctxs := x.ctxs, want := proposal x, phase := 3 } := by
  have hin : within 2 3 x.state = true := by rcases hst with hst | hst <;> rw [hst] <;> rfl
  simp only [klbUnload, hx, hin, hc, hj, hr, ha, if_false, Bool.not_true, Bool.false_eq_true]

/-- Once no release is left, the removal of the bindings is proposed. -/
theorem klbUnloadOn_of_released {j : KJob} (hl : releaseLeft s j = none) : klbUnloadOn s x j
    = endJob (setImage (emit s (.proposal j.part true j.want)) { x with state := 4 }) j { code := 0 } := by
  simp only [klbUnloadOn, hl]

/-- While one is under way, the job waits. -/
theorem klbUnloadOn_of_left {j : KJob} {r : Release} (hl : releaseLeft s j = some r) (ha : r.abandoned = false) :
    klbUnloadOn s x j = setJob s j := by
  simp only [klbUnloadOn, hl, ha, Bool.false_eq_true, if_false]

/-- The services under way on an image, with the state that each permits and its number among the loader's jobs. -/
theorem klb_of_state (c : Instr) (hx : imageAt s h = some x)
    (hc : (c = .klbLoad h rs ∧ x.state ≠ 1) ∨ (c = .klbStart h rs ∧ x.state ≠ 2) ∨ (c = .klbUnload h rs ∧ x.state ≠ 2 ∧ x.state ≠ 3)) :
    exec c s = .next (klbReturn s { code := 16 } []) := by
  rcases hc with ⟨rfl, hst⟩ | ⟨rfl, hst⟩ | ⟨rfl, h2, h3⟩
  · have heq : klbLoad s h rs = klbReturn s { code := 16 } [] := by simp only [klbLoad, hx, hst, ne_eq, not_false_eq_true, if_true]
    rw [exec_klbLoad, heq, kept_klbReturn]
  · have heq : klbStart s h rs = klbReturn s { code := 16 } [] := by simp only [klbStart, hx, hst, ne_eq, not_false_eq_true, if_true]
    rw [exec_klbStart, heq, kept_klbReturn]
  · have hout : within 2 3 x.state = false := by
      simp only [within, Bool.and_eq_false_iff, decide_eq_false_iff_not]
      omega
    have heq : klbUnload s h rs = klbReturn s { code := 16 } [] := by simp only [klbUnload, hx, hout, Bool.not_false, if_true]
    rw [exec_klbUnload, heq, kept_klbReturn]

/-- A ring set that carries none of a service's descriptors ends it with its result. -/
theorem klb_of_ringFails (c : Instr) {r : KRes} (hx : imageAt s h = some x) (hck : clocked s = true) (hr : ringFails s x.part rs = some r)
    (hc : (c = .klbLoad h rs ∧ x.state = 1 ∧ jobOf s h 0 = none) ∨ (c = .klbStart h rs ∧ x.state = 2 ∧ jobOf s h 1 = none)
      ∨ (c = .klbUnload h rs ∧ x.state = 2 ∧ jobOf s h 2 = none)) : exec c s = .next (klbReturn s r []) := by
  rcases hc with ⟨rfl, hst, hj⟩ | ⟨rfl, hst, hj⟩ | ⟨rfl, hst, hj⟩
  · have heq : klbLoad s h rs = klbReturn s r [] := by
      simp only [klbLoad, hx, hst, hck, hj, hr, ne_eq, not_true, if_false, Bool.not_true, Bool.false_eq_true]
    rw [exec_klbLoad, heq, kept_klbReturn]
  · have heq : klbStart s h rs = klbReturn s r [] := by
      simp only [klbStart, hx, hst, hck, hj, hr, ne_eq, not_true, if_false, Bool.not_true, Bool.false_eq_true]
    rw [exec_klbStart, heq, kept_klbReturn]
  · have hin : within 2 3 x.state = true := by rw [hst]; rfl
    have heq : klbUnload s h rs = klbReturn s r [] := by
      simp only [klbUnload, hx, hin, hck, hj, hr, if_false, Bool.not_true, Bool.false_eq_true]
    rw [exec_klbUnload, heq, kept_klbReturn]

/-- Every such result is KLB_E_DEVICE. -/
theorem ringFails_code {p : Nat} {r : KRes} (h : ringFails s p rs = some r) : r.code = 14 := by
  simp only [ringFails] at h
  split at h
  · cases h; rfl
  split at h
  · cases h; rfl
  · cases h

end Start

/-- klb_start, klb_unload, and the services that neither state nor ring set permits. -/
theorem loaderStartsAndUnloads : LoaderStartsAndUnloads := by
  refine ⟨fun s h rs x hx hst hc hj hr => ?start, fun s h rs x j hx hst hc hj hf => ?again, fun s s1 x j j1 => klbInject_of_done,
    fun s s1 h rs x j hx hst hc hj hr ha hjob => ⟨?unload, fun hl => ?released, fun r => klbUnloadOn_of_left⟩,
    fun s h rs c x hx hc => ⟨_, klb_of_state c hx hc, rfl, rfl, rfl, rfl, rfl⟩,
    fun s h rs c x r hx hck hr hc => ⟨klb_of_ringFails c hx hck hr hc, ringFails_code hr⟩⟩
  case start => rw [exec_klbStart, klbStart_first hx hst hc hj hr]
  case again => rw [exec_klbStart, klbStart_again hx hst hc hj hf]
  case unload => rw [exec_klbUnload, klbUnload_first hx hst hc hj hr ha, hjob]
  case released => rw [klbUnloadOn_of_released hl, hjob]

/-- Settles O34: the loader's services in the order of their chapter. -/
theorem loader : Obligations.Loader := ⟨loaderOpensAndPlaces, loaderLoads, loaderStartsAndUnloads⟩

end Sys2Proof.Machine
end

section
/-! PROOF. What leaves a tile's placement cache alone (R48, R49): sends, requests that leave, and a transfer that stops. -/

namespace Sys2Proof.Machine

/-- A tile's placement cache and its pointer are as before, and nothing new waits for a placement. -/
abbrev SameCache (t t' : Tile) : Prop := t'.pcache = t.pcache ∧ t'.pptr = t.pptr ∧ t'.memWait ⊆ t.memWait

/-- The same of every tile. -/
def CachesKept (s x : State) : Prop := ∀ v, SameCache (tileAt s v) (tileAt x v)

theorem CachesKept.refl (s : State) : CachesKept s s := fun _ => ⟨rfl, rfl, fun _ h => h⟩

theorem CachesKept.trans {s t x : State} (h : CachesKept s t) (h' : CachesKept t x) : CachesKept s x := fun v =>
  have ⟨hc, hp, hw⟩ := h v
  have ⟨hc', hp', hw'⟩ := h' v
  ⟨hc'.trans hc, hp'.trans hp, fun _ hm => hw (hw' hm)⟩

/-- An effect that changes no tile. -/
theorem CachesKept.of_tiles {s t x : State} (h : CachesKept s t) (hx : x.tiles = t.tiles) : CachesKept s x := fun v => by
  rw [show tileAt x v = tileAt t v by simp only [tileAt, hx]]
  exact h v

/-- One that replaces a tile. -/
theorem cachesKept_setTile (s : State) (u : Nat) {t : Tile} (h : SameCache (tileAt s u) t) : CachesKept s (setTile s u t) := fun v => by
  by_cases hv : u = v
  · subst hv
    by_cases hu : u < s.tiles.length
    · rwa [tileAt_setTile_same _ _ _ hu]
    · rw [setTile, List.set_eq_of_length_le (Nat.le_of_not_lt hu)]
      exact CachesKept.refl s u
  · rw [tileAt_setTile_other _ _ _ _ hv]
    exact CachesKept.refl s v

/-- One that replaces a tile and changes no other. -/
theorem cachesKept_of_setTile {s x : State} {u : Nat} {t : Tile} (hx : x.tiles = (setTile s u t).tiles) (h : SameCache (tileAt s u) t) :
    CachesKept s x :=
  (cachesKept_setTile s u h).of_tiles hx

/-- One that changes a tile. -/
theorem cachesKept_modTile (s : State) (u : Nat) {f : Tile → Tile} (h : ∀ t, SameCache t (f t)) : CachesKept s (modTile s u f) :=
  cachesKept_setTile s u (h _)

/-- What each step of a fold keeps, the fold keeps. -/
theorem cachesKept_foldl {α : Type} (s : State) {f : State → α → State} (h : ∀ t a, CachesKept t (f t a)) (l : List α) :
    CachesKept s (l.foldl f s) :=
  List.foldlRecOn l f (motive := CachesKept s) (CachesKept.refl s) (fun t ht a _ => ht.trans (h t a))

variable (s : State) (u : Nat)

/-! ### Requests that leave (R338) -/

/-- A request that leaves, or waits for the tag window, changes no tile. -/
@[simp] theorem sendReq_tiles (o : OutReq) : (sendReq s o).tiles = s.tiles := by
  unfold sendReq
  split
  · rfl
  · exact (sendNow_spec s o).2.2

@[simp] theorem flushList_tiles (l : List OutReq) : (flushList s l).tiles = s.tiles := by
  induction l generalizing s with
  | nil => rfl
  | cons o r ih => rw [flushList, ih, sendReq_tiles]

@[simp] theorem flushWait_tiles : (flushWait s).tiles = s.tiles := flushList_tiles _ _

/-- Requests that a placement lets go change no tile. -/
@[simp] theorem sendWaits_tiles (e : PlaceEntry) (l : List MemWait) : (sendWaits s e l).tiles = s.tiles := by
  induction l generalizing s with
  | nil => rfl
  | cons m r ih => rw [sendWaits, ih, sendReq_tiles]

/-! ### Sends (R96) -/

theorem arriveToken_caches (src part gen : Nat) (handle : Option Nat) (k : Token) :
    CachesKept s (arriveToken s u src part gen handle k) := by
  dsimp only [arriveToken]
  split
  · exact cachesKept_setTile s u ⟨rfl, rfl, fun _ h => h⟩
  · cases handle <;> exact (CachesKept.refl s).of_tiles rfl

theorem launchToken_caches (e : PlaceEntry) (k : Token) : CachesKept s (launchToken s u e k) :=
  cachesKept_of_setTile rfl ⟨rfl, rfl, fun _ h => h⟩

theorem askPlace_caches (part vt : Nat) (avoid : Option Nat) : CachesKept s (askPlace s u part vt avoid) := by
  obtain ⟨fl, n, h | h⟩ := askPlace_tiles s u part vt avoid
  · exact (CachesKept.refl s).of_tiles h
  · exact cachesKept_of_setTile h ⟨rfl, rfl, fun _ h => h⟩

theorem sendHead_caches (e : SendEnt) : CachesKept s (sendHead s u e).1 := by
  dsimp only [sendHead]
  split
  · exact (CachesKept.refl s).of_tiles (sendReq_tiles _ _)
  · split
    · split
      · exact arriveToken_caches s u _ _ _ _ _
      · exact CachesKept.refl s
    · split
      · split
        · exact launchToken_caches s u _ _
        · exact CachesKept.refl s
      · exact askPlace_caches s u _ _ _

theorem drainSends_caches : CachesKept s (drainSends s u) := by
  have hdrain (l : List SendEnt) (x : State) : CachesKept x (drainList x u l) := by
    induction l generalizing x with
    | nil => exact cachesKept_modTile x u (fun _ => ⟨rfl, rfl, fun _ h => h⟩)
    | cons e r ih =>
      have hhead := sendHead_caches x u e
      dsimp only [drainList]
      split
      · exact hhead.trans (ih _)
      · exact hhead.trans (cachesKept_modTile _ u (fun _ => ⟨rfl, rfl, fun _ h => h⟩))
  exact hdrain _ s

/-! ### A transfer that stops (R143, R188) -/

theorem writeReg_caches (w : KWrite) : CachesKept s (writeReg s u w) := by
  unfold writeReg
  split <;> exact cachesKept_modTile s u (fun _ => ⟨rfl, rfl, fun _ h => h⟩)

theorem meetFrameErr_caches (w : Nat) : CachesKept s (meetFrameErr s u w) := by
  dsimp only [meetFrameErr]
  split
  · exact CachesKept.refl s
  · exact cachesKept_of_setTile rfl ⟨rfl, rfl, fun _ h => h⟩
  · exact cachesKept_of_setTile rfl ⟨rfl, rfl, fun _ h => h⟩

theorem frameWrite_caches (pa n v : Nat) (poison : Bool) : CachesKept s (frameWrite s u pa n v poison) := by
  dsimp only [frameWrite]
  refine CachesKept.trans ?_ (cachesKept_modTile _ u (fun _ => ⟨rfl, rfl, fun _ h => h⟩))
  split
  · exact CachesKept.refl s
  · exact meetFrameErr_caches s u _

theorem landStore_caches (x : KStore) : CachesKept s (landStore s u x) := by
  have hwords (k pa v poison : Nat) (y : State) : CachesKept y (frameWriteWords y u pa k v poison) := by
    induction k generalizing y pa v poison with
    | zero => exact CachesKept.refl y
    | succ j ih => exact (frameWrite_caches y u pa 8 _ _).trans (ih _ _ _ _)
  exact hwords _ _ _ _ s

theorem drainKern_caches : CachesKept s (drainKern s u) := by
  dsimp only [drainKern, settleKern, writeRegs]
  refine CachesKept.trans ?_ (cachesKept_modTile _ u (fun _ => ⟨rfl, rfl, fun _ h => h⟩))
  refine CachesKept.trans ?_ (cachesKept_foldl _ (fun t => landStore_caches t u) _)
  exact cachesKept_foldl s (fun t => writeReg_caches t u) _

theorem stopKernel_caches : CachesKept s (stopKernel s u) := by
  refine CachesKept.trans (t := closeHolds s u) ?_ ?_
  · exact cachesKept_modTile s u (fun _ => ⟨rfl, rfl, fun _ h => h⟩)
  · exact cachesKept_modTile _ u (fun _ => ⟨rfl, rfl, fun _ h => h⟩)

theorem sweepXfer_caches (k : Nat) : CachesKept s (sweepXfer s u k) := by
  unfold sweepXfer
  split
  · split
    · exact cachesKept_modTile s u (fun _ => ⟨rfl, rfl, fun _ h => h⟩)
    · exact CachesKept.refl s
  · exact CachesKept.refl s

/-- A transfer that fails drops what its lines wait for, and touches no placement. -/
theorem xferFaultBy_caches (x : Xfer) {rec : State → Option Nat → State} (hrec : ∀ t orphan, (rec t orphan).tiles = t.tiles) :
    CachesKept s (xferFaultBy s u x rec) := by
  dsimp only [xferFaultBy]
  refine CachesKept.trans ?_ (sweepXfer_caches _ u _)
  refine CachesKept.trans ?_ (cachesKept_modTile _ u (fun t => ⟨rfl, rfl, List.filter_subset_self _⟩))
  have hrun (y : State) (o : Option Nat) (h : CachesKept s y) : CachesKept s (rec y o) := h.of_tiles (hrec y o)
  have hmark (y : State) : CachesKept y (modXfer y u x.slot (fun z => { z with failed := true, moved := z.moves })) :=
    cachesKept_modTile y u (fun _ => ⟨rfl, rfl, fun _ h => h⟩)
  split
  · exact (hrun _ _ ((drainKern_caches s u).trans (hmark _))).trans (stopKernel_caches _ u)
  · exact hrun _ _ (hmark s)

theorem xferRefused_caches (o : OutReq) (k l kind : Nat) (wr : Bool) : CachesKept s (xferRefused s o k l kind wr) := by
  unfold xferRefused xferStop
  split
  · split
    · exact sweepXfer_caches s _ k
    · exact xferFaultBy_caches s _ _ (fun _ _ => rfl)
  · exact CachesKept.refl s

/-- A memory request that fails abandons at most its node. -/
theorem memFail_caches (o : OutReq) (kind : Nat) : CachesKept s (memFail s o kind) := by
  unfold memFail memFailBy
  split
  · exact ((CachesKept.refl s).of_tiles rfl).trans (cachesKept_modTile _ _ (fun _ => ⟨rfl, rfl, fun _ h => h⟩))
  · exact (CachesKept.refl s).of_tiles rfl

end Sys2Proof.Machine
end

section
/-! PROOF. Placement lookups (R48, R49, R51, R588): a placement read, the answer that fills a tile's cache, an invalidation and an
acknowledgement. -/

namespace Sys2Proof.Machine

variable {s : State} {u vt : Nat} {o : OutReq} {f : Fill} {r : Resp}

/-! ### Queues with nothing in them -/

/-- A tile written twice holds what was written last. -/
theorem setTile_setTile (s : State) (u : Nat) (t t' : Tile) : setTile (setTile s u t) u t' = setTile s u t' := by
  simp only [setTile, List.set_set]

/-- A send unit with nothing to send sends nothing. -/
theorem drainSends_of_empty (h : (tileAt s u).send = []) : drainSends s u = s := by
  have hsame : { tileAt s u with send := [] } = tileAt s u := by rw [← h]
  rw [drainSends, h, drainList, modTile, hsame, setTile_self]

/-- With no request that waits for a tag window none leaves. -/
theorem flushWait_of_empty (h : s.sendWait = []) : flushWait s = s := by
  have hsame : { s with sendWait := [] } = s := by rw [← h]
  rw [flushWait, h, flushList, hsame]

/-- What leaves of the waiting requests changes no tile. -/
theorem tileAt_flushWait (s : State) (u : Nat) : tileAt (flushWait s) u = tileAt s u := by rw [tileAt, flushWait_tiles, tileAt]

/-- A command's end changes no tile. -/
theorem tileAt_kept (s t : State) (u : Nat) : tileAt (kept s t) u = tileAt t u := rfl

/-! ### The answer of a placement read (R48, R49) -/

/-- The final answer of a placement read meets its fill. -/
theorem finalAnswer_fill (s : State) (huse : o.use = .fill vt) (r : Resp) : finalAnswer s o r = placeAnswer s o vt r := by
  unfold finalAnswer
  rw [huse]

/-- An answer of the placement tables ends the read and meets the fill that asked for it. -/
theorem placeFill_of_answer {src part tag : Nat} (h : AnswersTo s u src part tag 3 r o) (huse : o.use = .fill vt)
    (hr : (∃ unit slot gen, r = .placeData unit slot gen) ∨ r = .placeUnbound) :
    placeFill s u src part tag r = flushWait (placeAnswer (ended s u src part tag 3 r o) o vt r) := by
  obtain ⟨hw, ha, ho⟩ := h
  have htaken : placeFill s u src part tag r = answerReq (takePkt s (rspPkt u src part tag 3 r)) o r := by
    simp [placeFill, takeRsp, hw, ha, ho, huse]
  rw [htaken, ended, ← finalAnswer_fill _ huse]
  obtain ⟨unit, slot, gen, rfl⟩ | rfl := hr <;> rfl

/-- The tile of the read without its fill. -/
def filled (t : Tile) (f : Fill) : Tile := { t with fills := t.fills.erase f }

section Fill
variable (hf : (tileAt s o.unit).fills.find? (fun f => decide (f.tag = o.tag)) = some f)
include hf

/-- A void fill is discarded and asked for again. -/
theorem placeAnswer_of_void (hv : f.void = true) : placeAnswer s o vt r = reaskPlace s o vt := by
  simp only [placeAnswer, hf, hv, if_true]

/-- A placement fills the cache. -/
theorem placeAnswer_of_data (hv : f.void = false) (unit slot gen : Nat) : placeAnswer s o vt (.placeData unit slot gen)
    = cacheFill (setTile s o.unit (filled (tileAt s o.unit) f)) o.unit { part := o.part, vt := vt, unit := unit, slot := slot, gen := gen } := by
  simp only [placeAnswer, hf, hv] <;> rfl

end Fill

/-- A cache that takes a placement holds it at its pointer, and no request waits for it any more. -/
theorem cacheFill_tile (e : PlaceEntry) (hu : u < s.tiles.length) :
    (tileAt (cacheFill s u e) u).pcache = (tileAt s u).pcache.set (tileAt s u).pptr (some e)
    ∧ (tileAt (cacheFill s u e) u).pptr = ((tileAt s u).pptr + 1) % 64 ∧ ∀ m ∈ (tileAt (cacheFill s u e) u).memWait, m.vt ≠ e.vt := by
  dsimp only [cacheFill]
  refine ⟨((drainSends_caches _ u) u).1.trans ?_, ((drainSends_caches _ u) u).2.1.trans ?_, fun m hm => ?_⟩
  · simp [tileAt, setTile, hu]
  · simp [tileAt, setTile, hu]
  · have hm' := ((drainSends_caches _ u) u).2.2 hm
    simp [tileAt, setTile, hu] at hm'
    exact hm'.2

/-- Where nothing waits, it changes the cache alone. -/
theorem cacheFill_of_empty (e : PlaceEntry) (hu : u < s.tiles.length) (hw : (tileAt s u).memWait = []) (hs : (tileAt s u).send = []) :
    ∃ c k, cacheFill s u e = setTile s u { tileAt s u with pcache := c, pptr := k, memWait := [] } := by
  have hwait : cacheFill s u e = drainSends (setTile s u { tileAt s u with
      pcache := (tileAt s u).pcache.set (tileAt s u).pptr (some e), pptr := ((tileAt s u).pptr + 1) % 64, memWait := [] }) u := by
    simp only [cacheFill, hw, List.filter_nil, sendWaits]
  refine ⟨_, _, hwait.trans (drainSends_of_empty ?_)⟩
  rw [tileAt_setTile_same _ _ _ hu]
  exact hs

/-! ### UNBOUND (R51) -/

/-- A request that waited for a placement ends with ADDRESS_UNMAPPED. -/
def failWait (s : State) (m : MemWait) : State :=
  match m.req.use with
  | .dmaWrite k l => xferRefused s m.req k l Kind.addressUnmapped true
  | _ => memFail s m.req Kind.addressUnmapped

/-- UNBOUND ends every request that waited for the virtual tile. -/
def endWaiting (s : State) (u vt : Nat) : State :=
  ((tileAt s u).memWait.filter (fun m => decide (m.vt = vt))).foldl failWait
    (modTile s u (fun t => { t with memWait := t.memWait.filter (fun m => !(decide (m.vt = vt))) }))

/-- The send at the head that waited for it is dropped with TOKEN_UNBOUND_VTILE. -/
def dropUnbound (s : State) (o : OutReq) (vt : Nat) : State :=
  match (tileAt s o.unit).send with
  | e :: rest =>
    if tagVt e.tok.tag = vt ∧ e.trail = none then
      drainSends (raise (modTile s o.unit (fun t => { t with send := rest })) Kind.tokenUnboundVtile (rqId o.unit 0) (some o.part)
        (rqId o.unit 0 + 2 ^ 14 * (e.pc % 2 ^ 17) + 2 ^ 31 * b2n e.bundle) e.tok.tag.toNat) o.unit
    else drainSends s o.unit
  | [] => s

/-- The head that waited for the virtual tile. -/
theorem dropUnbound_of_head {e : SendEnt} {rest : List SendEnt} (hs : (tileAt s o.unit).send = e :: rest)
    (he : tagVt e.tok.tag = vt ∧ e.trail = none) : dropUnbound s o vt
      = drainSends (raise (modTile s o.unit (fun t => { t with send := rest })) Kind.tokenUnboundVtile (rqId o.unit 0) (some o.part)
        (rqId o.unit 0 + 2 ^ 14 * (e.pc % 2 ^ 17) + 2 ^ 31 * b2n e.bundle) e.tok.tag.toNat) o.unit := by
  rw [dropUnbound, hs]
  exact if_pos he

theorem failWait_caches (s : State) (m : MemWait) : CachesKept s (failWait s m) := by
  unfold failWait
  split
  · exact xferRefused_caches s _ _ _ _ _
  · exact memFail_caches s _ _

theorem endWaiting_caches (s : State) (u vt : Nat) : CachesKept s (endWaiting s u vt) :=
  CachesKept.trans (t := modTile s u (fun t => { t with memWait := t.memWait.filter (fun m => !(decide (m.vt = vt))) }))
    (cachesKept_modTile s u (fun _ => ⟨rfl, rfl, List.filter_subset_self _⟩)) (cachesKept_foldl _ failWait_caches _)

/-- No request waits for the virtual tile any more. -/
theorem endWaiting_waits (hu : u < s.tiles.length) : ∀ m ∈ (tileAt (endWaiting s u vt) u).memWait, m.vt ≠ vt := fun m hm => by
  have hm' := (cachesKept_foldl _ failWait_caches _ u).2.2 hm
  rw [tileAt_modTile_same _ _ _ hu] at hm'
  simpa using (List.mem_filter.mp hm').2

/-- With no request that waits it changes nothing. -/
theorem endWaiting_of_none (h : ∀ m ∈ (tileAt s u).memWait, m.vt ≠ vt) : endWaiting s u vt = s := by
  have hmine : (tileAt s u).memWait.filter (fun m => decide (m.vt = vt)) = [] := by simpa using h
  have hrest : (tileAt s u).memWait.filter (fun m => !(decide (m.vt = vt))) = (tileAt s u).memWait := by simpa using h
  rw [endWaiting, hmine, modTile, hrest, List.foldl_nil, setTile_self]

theorem dropUnbound_caches (s : State) (o : OutReq) (vt : Nat) : CachesKept s (dropUnbound s o vt) := by
  unfold dropUnbound
  split
  · split
    · refine CachesKept.trans ?_ (drainSends_caches _ _)
      exact cachesKept_of_setTile rfl ⟨rfl, rfl, fun _ h => h⟩
    · exact drainSends_caches s _
  · exact CachesKept.refl s

/-- UNBOUND ends what waited for the virtual tile. -/
theorem placeAnswer_of_unbound (hf : (tileAt s o.unit).fills.find? (fun f => decide (f.tag = o.tag)) = some f) (hu : o.unit < s.tiles.length)
    (hv : f.void = false) : placeAnswer s o vt .placeUnbound
      = dropUnbound (endWaiting (setTile s o.unit (filled (tileAt s o.unit) f)) o.unit vt) o vt := by
  have hw : (tileAt (setTile s o.unit (filled (tileAt s o.unit) f)) o.unit).memWait = (tileAt s o.unit).memWait := by
    rw [tileAt_setTile_same _ _ _ hu]
    rfl
  simp only [placeAnswer, hf, hv, dropUnbound, endWaiting, hw] <;> rfl

/-! ### An invalidation (R49) -/

/-- Whether an invalidation of a partition's virtual tiles meets a placement. -/
def invalidates (part first last p v : Nat) : Bool := decide (p = part) && decide (first ≤ v) && decide (v ≤ last)

/-- What an invalidation leaves of a cache entry. -/
def keptEntry (part first last : Nat) (e : Option PlaceEntry) : Option PlaceEntry :=
  match e with
  | some x => if invalidates part first last x.part x.vt then none else some x
  | none => none

/-- A tile whose matching entries are empty and whose matching fills are void. -/
def invalidated (t : Tile) (part first last : Nat) : Tile :=
  { t with
    pcache := t.pcache.map (keptEntry part first last)
    fills := t.fills.map (fun f => if invalidates part first last f.part f.vt then { f with void := true } else f)
    pInval := (t.pInval + 1) % 256 }

/-- What a cache gives for a virtual tile: the first entry that names it. -/
theorem pcacheFind_cons (t : Tile) (e : Option PlaceEntry) (l : List (Option PlaceEntry)) (p v : Nat) :
    pcacheFind { t with pcache := e :: l } p v
      = match e with
        | some x => if x.part = p ∧ x.vt = v then some x else pcacheFind { t with pcache := l } p v
        | none => pcacheFind { t with pcache := l } p v := by
  cases e with
  | none => rfl
  | some x => by_cases h : x.part = p ∧ x.vt = v <;> simp [pcacheFind, h]

/-- An invalidation takes the placements that it meets, and no other. -/
theorem pcacheFind_invalidated (t : Tile) (part first last p v : Nat) : pcacheFind (invalidated t part first last) p v
    = if invalidates part first last p v then none else pcacheFind t p v := by
  have hlist (l : List (Option PlaceEntry)) : pcacheFind { t with pcache := l.map (keptEntry part first last) } p v
      = if invalidates part first last p v then none else pcacheFind { t with pcache := l } p v := by
    induction l with
    | nil => simp [pcacheFind]
    | cons e l ih =>
      rw [List.map_cons, pcacheFind_cons, pcacheFind_cons, ih]
      cases e with
      | none => rfl
      | some x =>
        by_cases hx : x.part = p ∧ x.vt = v
        · obtain ⟨rfl, rfl⟩ := hx
          by_cases hit : invalidates part first last x.part x.vt = true <;> simp [keptEntry, hit]
        · by_cases hit : invalidates part first last x.part x.vt = true <;> simp [keptEntry, hit, hx]
  exact hlist t.pcache

/-- At a tile it changes the cache and the fills, and is acknowledged. -/
theorem placeInvalidate_of_tile {part first last : Nat} (hc : clocked s = true) (hu : u < 0x110)
    (ha : arrivable s { cls := 0, dest := u, src := rqId 0x30A 0, part := part, body := .placeInvalidate first last } = true) :
    placeInvalidate s u part first last = sendMgmt (setTile
      (takePkt s { cls := 0, dest := u, src := rqId 0x30A 0, part := part, body := .placeInvalidate first last }) u
      (invalidated (tileAt s u) part first last)) (rqId u 3) 0x30A part 0 .placeInvAck := by
  obtain ⟨hunit, htile⟩ := isUnit_of_tile hu
  simp only [placeInvalidate, hc, ha, hunit, htile, Bool.and_self, Bool.not_true, Bool.false_eq_true, if_false] <;> rfl

/-- A packet counted from a source is acknowledged. -/
theorem tokenAckSend_of_owed {src : Nat} {a : AckOwed} (hw : working s = true)
    (h : (tileAt s u).ackOwed.find? (fun a => decide (a.src = src)) = some a) : tokenAckSend s u src
      = sendPkt (setTile s u { tileAt s u with ackOwed := (tileAt s u).ackOwed.filter (fun b => !(decide (b.src = src))) })
        { cls := 0, dest := src / 4, src := rqId u 0, part := (tilePart (tileAt s u)).getD 0, tag := 0, body := .tokenAck a.count } := by
  simp only [tokenAckSend, h, hw, Bool.not_true, Bool.false_eq_true, if_false] <;> rfl

/-- A placement read is answered from the placement tables. -/
theorem placeRead_answers {rq : Rq} (hw : working s = true) (ha : arrivable s (reqPkt 0x30A rq (.placeRead vt)) = true) :
    placeRead s rq vt = respond (takePkt s (reqPkt 0x30A rq (.placeRead vt))) 0x30A rq
      (match placeOf s rq.part vt with
      | some p => .placeData p.unit p.slot p.gen
      | none => .placeUnbound) := by
  simp only [placeRead, hw, Bool.not_true, Bool.false_eq_true, if_false, arriveReq_served _ ha]
  rw [show placeOf (takePkt s (reqPkt 0x30A rq (.placeRead vt))) rq.part vt = placeOf s rq.part vt from rfl]
  cases placeOf s rq.part vt <;> rfl

/-! ### A placement read ends -/

section Ends
variable {src part tag : Nat}

/-- The state in which a placement read has ended and its fill has left the tile. -/
def placed (s : State) (src part tag : Nat) (r : Resp) (o : OutReq) (f : Fill) : State :=
  setTile (ended s o.unit src part tag 3 r o) o.unit (filled (tileAt s o.unit) f)

theorem placed_tile (hu : o.unit < s.tiles.length) : tileAt (placed s src part tag r o f) o.unit = filled (tileAt s o.unit) f :=
  tileAt_setTile_same _ _ _ hu

theorem placed_length (hu : o.unit < s.tiles.length) : o.unit < (placed s src part tag r o f).tiles.length := by
  simpa [placed, ended] using hu

theorem placed_caches : CachesKept s (placed s src part tag r o f) := cachesKept_of_setTile rfl ⟨rfl, rfl, fun _ h => h⟩

variable (hans : AnswersTo s o.unit src part tag 3 r o) (huse : o.use = .fill vt)
  (hf : (tileAt s o.unit).fills.find? (fun f => decide (f.tag = o.tag)) = some f)
include hans huse hf

theorem placeFill_of_void (hr : (∃ unit slot gen, r = .placeData unit slot gen) ∨ r = .placeUnbound) (hv : f.void = true) :
    placeFill s o.unit src part tag r = flushWait (reaskPlace (ended s o.unit src part tag 3 r o) o vt) := by
  rw [placeFill_of_answer hans huse hr, placeAnswer_of_void (s := ended s o.unit src part tag 3 r o) hf hv]

theorem placeFill_of_data {unit slot gen : Nat} (hr : r = .placeData unit slot gen) (hv : f.void = false) :
    placeFill s o.unit src part tag r = flushWait (cacheFill (placed s src part tag r o f) o.unit
      { part := o.part, vt := vt, unit := unit, slot := slot, gen := gen }) := by
  rw [placeFill_of_answer hans huse (.inl ⟨unit, slot, gen, hr⟩)]
  subst hr
  rw [placeAnswer_of_data (s := ended s o.unit src part tag 3 (.placeData unit slot gen) o) hf hv]
  rfl

theorem placeFill_of_unbound (hr : r = .placeUnbound) (hu : o.unit < s.tiles.length) (hv : f.void = false) :
    placeFill s o.unit src part tag r = flushWait (dropUnbound (endWaiting (placed s src part tag r o f) o.unit vt) o vt) := by
  rw [placeFill_of_answer hans huse (.inr hr)]
  subst hr
  rw [placeAnswer_of_unbound (s := ended s o.unit src part tag 3 .placeUnbound o) hf hu hv]
  rfl

end Ends

theorem exec_placeFill (s : State) (u src part tag : Nat) (r : Resp) :
    exec (.placeFill u src part tag r) s = .next (kept s (placeFill s u src part tag r)) := rfl

/-- Placement lookups, each clause from the operation's own lemma. -/
theorem placement : Placement := by
  refine ⟨fun s rq vt hin hw ha => ?read, fun s u src part tag vt r o f hans hou huse hu hf => ⟨?data, ?head, ?unbound, ?void⟩,
    fun s u part first last hc hu ha hlen => ?inval, fun s u src a hw h => ?ack⟩
  case read =>
    rw [show exec (.placeRead rq vt) s = .next (kept s (ifIn s 10 (placeRead s rq vt))) from rfl, ifIn, hin, placeRead_answers hw ha]
    rfl
  case data =>
    intro unit slot gen hr hv
    subst hou
    obtain ⟨hcache, hptr, hwait⟩ := cacheFill_tile { part := o.part, vt := vt, unit := unit, slot := slot, gen := gen }
      (placed_length (src := src) (part := part) (tag := tag) (r := r) (f := f) hu)
    rw [placed_tile hu] at hcache hptr
    refine ⟨_, by rw [exec_placeFill, placeFill_of_data hans huse hf hr hv], ?_⟩
    beta_reduce
    rw [tileAt_kept, tileAt_flushWait]
    refine ⟨hcache, hptr, hwait, fun hw hs hq => ?_⟩
    obtain ⟨c, k, hfill⟩ := cacheFill_of_empty { part := o.part, vt := vt, unit := unit, slot := slot, gen := gen }
      (placed_length (src := src) (part := part) (tag := tag) (r := r) (f := f) hu) (by rwa [placed_tile hu]) (by rwa [placed_tile hu])
    rw [hfill, flushWait_of_empty (by exact hq), tileAt_setTile_same _ _ _ (placed_length hu), placed_tile hu]
    exact ⟨rfl, rfl, rfl⟩
  case head =>
    intro e rest hr hv hw hs hvt htr
    subst hou
    rw [exec_placeFill, placeFill_of_unbound hans huse hf hr hu hv, endWaiting_of_none (by rwa [placed_tile hu]),
      dropUnbound_of_head (e := e) (rest := rest) (by rwa [placed_tile hu]) ⟨hvt, htr⟩, modTile, placed_tile hu, placed, setTile_setTile]
    rfl
  case unbound =>
    intro hr hv
    subst hou
    have hdrop := dropUnbound_caches (endWaiting (placed s src part tag r o f) o.unit vt) o vt o.unit
    obtain ⟨hcache, hptr, -⟩ := (placed_caches.trans (endWaiting_caches (placed s src part tag r o f) o.unit vt)) o.unit
    refine ⟨_, by rw [exec_placeFill, placeFill_of_unbound hans huse hf hr hu hv], ?_⟩
    beta_reduce
    rw [tileAt_kept, tileAt_flushWait]
    exact ⟨hdrop.1.trans hcache, hdrop.2.1.trans hptr, fun _ m hm => endWaiting_waits (placed_length hu) m (hdrop.2.2 hm)⟩
  case void =>
    intro unit slot gen hr hv
    subst hou
    rw [exec_placeFill, placeFill_of_void hans huse hf (hr.imp_left (fun h => ⟨unit, slot, gen, h⟩)) hv]
  case inval =>
    have hat := tileAt_setTile_same (takePkt s { cls := 0, dest := u, src := rqId 0x30A 0, part := part, body := .placeInvalidate first last })
      u (invalidated (tileAt s u) part first last) hlen
    refine ⟨_, by rw [show exec (.placeInvalidate u part first last) s = .next (kept s (placeInvalidate s u part first last)) from rfl,
      placeInvalidate_of_tile hc hu ha], ?_⟩
    beta_reduce
    rw [tileAt_kept, sendMgmt, show ∀ x p v, tileAt (sendPkt x p) v = tileAt x v from fun _ _ _ => rfl, hat]
    refine ⟨fun vt hl hh => ?_, fun p vt hn => ?_, ?_, mem_net_sendPkt _ _, rfl, rfl, fun v hv => ?_⟩
    · rw [pcacheFind_invalidated]
      simp [invalidates, hl, hh]
    · rw [pcacheFind_invalidated, if_neg]
      simpa [invalidates, and_assoc] using hn
    · simp [invalidated, invalidates, and_assoc]
    · exact tileAt_setTile_other _ _ _ _ (Ne.symm hv)
  case ack =>
    rw [show exec (.tokenAckSend u src) s = .next (kept s (tokenAckSend s u src)) from rfl, tokenAckSend_of_owed hw h]
    rfl

end Sys2Proof.Machine
end

section
/-! PROOF. The context pool (R63 to R66): allocation, release, and what completes one. -/

namespace Sys2Proof.Machine

variable {s : State} {rq : Rq} {p c : Nat}

/-! ### A partition's contexts -/

/-- A partition's part of the pool, and its contexts' states, are those of the pool. -/
theorem ctxPart_congr {t : State} (h : t.ctx = s.ctx) : ctxPart t p = ctxPart s p := by rw [ctxPart, h, ctxPart]

theorem ctxState_congr {t : State} (h : t.ctx = s.ctx) : ctxState t p c = ctxState s p c := by rw [ctxState, ctxPart_congr h, ctxState]

theorem kept_ctx (s t : State) : (kept s t).ctx = t.ctx := rfl

/-- A partition's part of the pool reads as what replaced it. -/
theorem ctxPart_setCtxPart (x : CtxPart) (hp : p < s.ctx.parts.length) : ctxPart (setCtxPart s p x) p = x := by
  simp [ctxPart, setCtxPart, hp]

theorem setCtxPart_length (s : State) (p : Nat) (x : CtxPart) : (setCtxPart s p x).ctx.parts.length = s.ctx.parts.length := by
  simp [setCtxPart]

/-- A context is in the state that it was put in, and the free list stays. -/
theorem setCtxState_part (v : Nat) (hp : p < s.ctx.parts.length) :
    ctxState (setCtxState s p c v) p c = v ∧ (ctxPart (setCtxState s p c v) p).free = (ctxPart s p).free := by
  rw [ctxState, setCtxState, ctxPart_setCtxPart _ hp]
  exact ⟨SMap.get_put_same .., rfl⟩

/-- An allocation makes the head of the free list LIVE. -/
theorem allocCtx_live {t : State} (hp : p < s.ctx.parts.length) (h : allocCtx s p = some (c, t)) :
    ctxState t p c = 1 ∧ ∃ f, (ctxPart s p).free.take = some (c, f) ∧ (ctxPart t p).free = f := by
  unfold allocCtx at h
  split at h
  · next d f hf =>
    obtain ⟨rfl, rfl⟩ := Prod.mk.inj (Option.some.inj h)
    obtain ⟨hst, hfree⟩ := setCtxState_part (s := setCtxPart s p { ctxPart s p with free := f }) (c := d) 1 (by rwa [setCtxPart_length])
    exact ⟨hst, f, hf, by rw [hfree, ctxPart_setCtxPart _ hp]⟩
  · cases h

/-- It changes the pool alone. -/
theorem allocCtx_pool {t : State} (h : allocCtx s p = some (c, t)) : ∃ x, t = { s with ctx := x } := by
  unfold allocCtx at h
  split at h
  · obtain ⟨-, rfl⟩ := Prod.mk.inj (Option.some.inj h)
    exact ⟨_, rfl⟩
  · cases h

/-! ### Notices and CTX_END (R65) -/

/-- A request that leaves, or waits for the tag window, touches neither the pool nor the collector's inbox. -/
theorem sendReq_pool (s : State) (o : OutReq) : (sendReq s o).ctx = s.ctx ∧ (sendReq s o).flt = s.flt := by
  unfold sendReq
  split
  · exact ⟨rfl, rfl⟩
  · unfold sendNow
    split <;> exact ⟨rfl, rfl⟩

theorem flushWait_pool (s : State) : (flushWait s).ctx = s.ctx ∧ (flushWait s).flt = s.flt := by
  have hlist (l : List OutReq) (x : State) : (flushList x l).ctx = x.ctx ∧ (flushList x l).flt = x.flt := by
    induction l generalizing x with
    | nil => exact ⟨rfl, rfl⟩
    | cons o r ih =>
      obtain ⟨hctx, hflt⟩ := ih (sendReq x o)
      exact ⟨hctx.trans (sendReq_pool x o).1, hflt.trans (sendReq_pool x o).2⟩
  exact hlist s.sendWait _

/-- The release notice to a partition's agent is outstanding, or waits for the tag window. -/
abbrev NoticeLeft (s t : State) (p c : Nat) : Prop := ∃ o, (o ∈ t.outs ∨ o ∈ t.sendWait) ∧ o.use = .notice p c ∧ o.target = homeUnit s p

theorem sendNotice_left (s : State) (p c : Nat) : NoticeLeft s (sendNotice s p c) p c := by
  unfold sendNotice sendReq
  split
  · exact ⟨_, .inr (List.mem_append_right _ (List.mem_singleton_self _)), rfl, rfl⟩
  · rw [NoticeLeft, (sendNow_spec _ _).2.1]
    exact ⟨_, .inl (List.mem_append_right _ (List.mem_singleton_self _)), rfl, rfl⟩

theorem sendNotice_keeps (s : State) (p c : Nat) : (sendNotice s p c).ctx = s.ctx ∧ (sendNotice s p c).tiles = s.tiles :=
  ⟨(sendReq_pool _ _).1, sendReq_tiles _ _⟩

/-- CTX_END leaves for each tile of a list, and nothing else changes. -/
theorem sendEnds_spec (s : State) (p c : Nat) (us : List Nat) : (sendEnds s p c us).net = s.net ++ us.map (endPkt s p c)
    ∧ (sendEnds s p c us).ctx = s.ctx ∧ (sendEnds s p c us).tiles = s.tiles := by
  induction us generalizing s with
  | nil => exact ⟨(List.append_nil _).symm, rfl, rfl⟩
  | cons u r ih =>
    obtain ⟨hnet, hctx, htiles⟩ := ih (sendPkt s (endPkt s p c u))
    exact ⟨hnet.trans (List.append_assoc s.net [endPkt s p c u] (r.map (endPkt s p c))), hctx, htiles⟩

/-! ### Releases (R65, R66, R585) -/

/-- The pool with the release of a LIVE context begun. -/
def releasing (s : State) (rq : Rq) (c : Nat) : State :=
  let x := setCtxState s rq.part c 2
  { x with ctx := { x.ctx with releases := x.ctx.releases ++ [{ part := rq.part, ctx := c, rq := some rq, tiles := boundTiles s rq.part }] } }

/-- The pool with an abandoned release taken up again. -/
def releasingAgain (s : State) (rq : Rq) (c : Nat) : State :=
  { s with ctx := { s.ctx with releases := s.ctx.releases.map (fun r =>
      if r.is rq.part c then { r with abandoned := false, rq := some rq } else r) } }

/-- The release of a LIVE context with its first packets sent: CTX_END to every bound tile, or the notice where there is none. -/
def releaseBegun (s : State) (rq : Rq) (c : Nat) : State :=
  if (boundTiles s rq.part).isEmpty then sendNotice (releasing s rq c) rq.part c
  else sendEnds (releasing s rq c) rq.part c (boundTiles s rq.part)

theorem releaseBegun_spec (s : State) (rq : Rq) (c : Nat) : (releaseBegun s rq c).ctx = (releasing s rq c).ctx
    ∧ (releaseBegun s rq c).tiles = s.tiles ∧ (∀ u ∈ boundTiles s rq.part, endPkt s rq.part c u ∈ (releaseBegun s rq c).net)
    ∧ (boundTiles s rq.part = [] → NoticeLeft s (releaseBegun s rq c) rq.part c) := by
  unfold releaseBegun
  split
  · next hb =>
    obtain ⟨hctx, htiles⟩ := sendNotice_keeps (releasing s rq c) rq.part c
    have hnone := List.isEmpty_iff.mp hb
    exact ⟨hctx, htiles, by simp [hnone], fun _ => sendNotice_left (releasing s rq c) rq.part c⟩
  · next hb =>
    obtain ⟨hnet, hctx, htiles⟩ := sendEnds_spec (releasing s rq c) rq.part c (boundTiles s rq.part)
    refine ⟨hctx, htiles, fun u hu => ?_, fun hnone => absurd (List.isEmpty_iff.mpr hnone) hb⟩
    rw [hnet]
    exact List.mem_append_right _ (List.mem_map_of_mem (f := endPkt (releasing s rq c) rq.part c) hu)

/-- What a release request does to the pool. -/
def releaseEval (rq : Rq) (c : Nat) (s : State) : Eval :=
  if c = 0 ∨ (ctxPart s rq.part).limit ≤ c then releaseInvalid s rq c
  else match ctxState s rq.part c with
  | 1 =>
    { st := releaseBegun s rq c, ans := none }
  | 2 =>
    if s.ctx.releases.any (fun r => r.is rq.part c && r.abandoned) then { st := sendNotice (releasingAgain s rq c) rq.part c, ans := none }
    else releaseInvalid s rq c
  | _ => releaseInvalid s rq c

/-- A release request that reaches the pool is looked up and evaluated. -/
theorem releaseRequest_served (h : ReachesNew s 0x303 rq (.ctxRelease c)) :
    releaseRequest s rq c = cachedReq (takePkt s (reqPkt 0x303 rq (.ctxRelease c))) 0x303 rq (releaseEval rq c) := by
  obtain ⟨⟨hw, ha, -⟩, -⟩ := h
  rw [releaseRequest, hw, arriveReq_served _ ha]
  rfl

/-- One that the pool refuses is answered CONTEXT_STATE_INVALID. -/
theorem releaseRequest_refused (h : ReachesNew s 0x303 rq (.ctxRelease c))
    (he : releaseEval rq c (takePkt s (reqPkt 0x303 rq (.ctxRelease c))) = releaseInvalid (takePkt s (reqPkt 0x303 rq (.ctxRelease c))) rq c) :
    releaseRequest s rq c = respond (raise (takePkt s (reqPkt 0x303 rq (.ctxRelease c))) 0x0AA (rqId 0x303 0)
      (some rq.part) (c % 2 ^ 14) 0) 0x303 rq (.result (resultWord true 0 0x12)) := by
  obtain ⟨⟨-, -, hs⟩, hr⟩ := id h
  rw [releaseRequest_served h, cachedReq_new (s := takePkt s _) hs hr (by rw [he]; rfl), he]
  rfl

/-- One that it takes up is answered WAIT. -/
theorem releaseRequest_waits (h : ReachesNew s 0x303 rq (.ctxRelease c)) {t : State}
    (he : releaseEval rq c (takePkt s (reqPkt 0x303 rq (.ctxRelease c))) = { st := t, ans := none }) :
    releaseRequest s rq c = respond (replayAdd t 0x303 rq none) 0x303 rq .wait := by
  obtain ⟨⟨-, -, hs⟩, hr⟩ := id h
  rw [releaseRequest_served h, cachedReq_wait (s := takePkt s _) hs hr (by rw [he]), he]
  rfl

theorem releaseEval_of_live (h0 : c ≠ 0) (hl : c < (ctxPart s rq.part).limit) (hst : ctxState s rq.part c = 1) : releaseEval rq c s
    = { st := releaseBegun s rq c, ans := none } := by
  rw [releaseEval, if_neg (by omega), hst]
  rfl

theorem releaseEval_of_abandoned (h0 : c ≠ 0) (hl : c < (ctxPart s rq.part).limit) (hst : ctxState s rq.part c = 2)
    (hab : s.ctx.releases.any (fun r => r.is rq.part c && r.abandoned) = true) :
    releaseEval rq c s = { st := sendNotice (releasingAgain s rq c) rq.part c, ans := none } := by
  rw [releaseEval, if_neg (by omega), hst]
  exact if_pos hab

theorem releaseEval_of_invalid (h : c = 0 ∨ (ctxPart s rq.part).limit ≤ c ∨ ctxState s rq.part c = 0
    ∨ (ctxState s rq.part c = 2 ∧ s.ctx.releases.any (fun r => r.is rq.part c && r.abandoned) = false)) :
    releaseEval rq c s = releaseInvalid s rq c := by
  by_cases hc : c = 0 ∨ (ctxPart s rq.part).limit ≤ c
  · exact if_pos hc
  · rw [releaseEval, if_neg hc]
    obtain h | h | hst | ⟨hst, hab⟩ := h
    · exact absurd (.inl h) hc
    · exact absurd (.inr h) hc
    · rw [hst]
      rfl
    · rw [hst]
      exact if_neg (by rw [hab]; decide)

/-! ### What completes a release (R65, R66) -/

/-- The pool with a tile's acknowledgement counted. -/
def tileCounted (s : State) (u n : Nat) (r : Release) : State :=
  { s with ctx := { s.ctx with releases := s.ctx.releases.map (fun x =>
      if x = r then { r with tiles := r.tiles.erase u, total := r.total + n } else x) } }

/-- The same, with the notice sent after the last of the tiles. -/
def tileAcked (s : State) (p c u n : Nat) (r : Release) : State :=
  if (r.tiles.erase u).isEmpty then sendNotice (tileCounted s u n r) p c else tileCounted s u n r

theorem tileAcked_spec (s : State) (p c u n : Nat) (r : Release) : (tileAcked s p c u n r).ctx = (tileCounted s u n r).ctx
    ∧ (r.tiles.erase u = [] → NoticeLeft s (tileAcked s p c u n r) p c) := by
  unfold tileAcked
  split
  · exact ⟨(sendNotice_keeps _ _ _).1, fun _ => sendNotice_left (tileCounted s u n r) p c⟩
  · next hmore => exact ⟨rfl, fun hnone => absurd (List.isEmpty_iff.mpr hnone) hmore⟩

/-- A tile's acknowledgement that reaches the pool is counted. -/
theorem ctxEndAckArrival_of_release {u n : Nat} {r : Release} (hw : working s = true)
    (ha : arrivable s { cls := 0, dest := 0x303, src := rqId u 0, part := p, body := .ctxEndAck c n } = true)
    (hr : s.ctx.releases.find? (fun r => r.is p c && r.tiles.contains u) = some r) : ctxEndAckArrival s u p c n
      = tileAcked (takePkt s { cls := 0, dest := 0x303, src := rqId u 0, part := p, body := .ctxEndAck c n }) p c u n r := by
  simp only [ctxEndAckArrival, hw, ha, Bool.and_self, Bool.not_true, Bool.false_eq_true, if_false, releaseTileAck, takePkt_ctx, hr] <;> rfl

/-- A result word gives back its value. -/
theorem resultValue_resultWord {n : Nat} (hn : n < 2 ^ 32) : resultValue (resultWord false n 0) = n := by
  simp only [resultValue, resultWord, bits, b2n, BitVec.toNat_ofNat, Nat.shiftRight_eq_div_pow]
  simp
  omega

/-- The pool with a context FREE again at the list's tail and its release gone. -/
def freed (s : State) (r : Release) : State :=
  let x := setCtxState s r.part r.ctx 0
  let y := setCtxPart x r.part { ctxPart x r.part with free := (ctxPart x r.part).free.putBack r.ctx }
  { y with ctx := { y.ctx with releases := y.ctx.releases.filter (fun x => !(x.is r.part r.ctx)) } }

/-- A release that is complete frees its context at the list's tail; a total that is not zero raises CONTEXT_LEFTOVER. -/
theorem finishRelease_spec (r : Release) (hp : r.part < s.ctx.parts.length) :
    ctxState (finishRelease s r) r.part r.ctx = 0
    ∧ (ctxPart (finishRelease s r) r.part).free.back = (ctxPart s r.part).free.back ++ [r.ctx]
    ∧ (finishRelease s r).ctx.releases = s.ctx.releases.filter (fun x => !(x.is r.part r.ctx))
    ∧ (finishRelease s r).flt.inbox = s.flt.inbox ++ (if r.total = 0 then []
        else [⟨now s % 2 ^ 64, faultHead 0x0A9 (rqId 0x303 0) 0x303 (some r.part) none, r.ctx % 2 ^ 14, r.total⟩]) := by
  have hpool : (finishRelease s r).ctx = (freed s r).ctx ∧ (finishRelease s r).flt.inbox = s.flt.inbox ++ (if r.total = 0 then []
      else [⟨now s % 2 ^ 64, faultHead 0x0A9 (rqId 0x303 0) 0x303 (some r.part) none, r.ctx % 2 ^ 14, r.total⟩]) := by
    unfold finishRelease
    by_cases h0 : r.total = 0
    · cases r.rq <;> simp only [h0, if_true, List.append_nil] <;> exact ⟨rfl, rfl⟩
    · cases r.rq <;> simp only [h0, if_false] <;> exact ⟨rfl, rfl⟩
  obtain ⟨hctx, hin⟩ := hpool
  obtain ⟨hst, hfree⟩ := setCtxState_part (c := r.ctx) 0 hp
  have hpart : ctxPart (finishRelease s r) r.part = ctxPart (freed s r) r.part := by rw [ctxPart, hctx, ctxPart]
  have hback : ctxPart (freed s r) r.part = { ctxPart (setCtxState s r.part r.ctx 0) r.part with
      free := (ctxPart (setCtxState s r.part r.ctx 0) r.part).free.putBack r.ctx } :=
    ctxPart_setCtxPart _ (by rwa [setCtxState, setCtxPart_length])
  refine ⟨?_, ?_, by rw [hctx]; rfl, hin⟩
  · rw [ctxState, hpart, hback]
    exact hst
  · rw [hpart, hback, hfree]
    rfl

/-- The agent's acknowledgement ends the notice and completes the release. -/
theorem noticeAck_finishes {src tag n : Nat} {o : OutReq} {r : Release}
    (hans : AnswersTo s 0x303 src p tag 0 (.result (resultWord false n 0)) o) (huse : o.use = .notice p c) (hn : n < 2 ^ 32)
    (hr : s.ctx.releases.find? (fun r => r.is p c && r.tiles.isEmpty && !r.abandoned) = some r) :
    noticeAckArrival s src p tag (.result (resultWord false n 0)) = flushWait
      (finishRelease (ended s 0x303 src p tag 0 (.result (resultWord false n 0)) o) { r with total := r.total + n }) := by
  obtain ⟨hw, ha, ho⟩ := hans
  have htaken : noticeAckArrival s src p tag (.result (resultWord false n 0))
      = flushWait (finalAnswer (ended s 0x303 src p tag 0 (.result (resultWord false n 0)) o) o (.result (resultWord false n 0))) := by
    simp only [noticeAckArrival, takeRsp, hw, ha, ho, huse] <;> rfl
  have hack : finalAnswer (ended s 0x303 src p tag 0 (.result (resultWord false n 0)) o) o (.result (resultWord false n 0))
      = releaseAgentAck (ended s 0x303 src p tag 0 (.result (resultWord false n 0)) o) p c (resultValue (resultWord false n 0)) := by
    unfold finalAnswer
    rw [huse]
  rw [htaken, hack, resultValue_resultWord hn, releaseAgentAck, show (ended s _ src p tag 0 _ o).ctx = s.ctx from rfl, hr]

/-- An allocation is answered with the context's number. -/
theorem allocRequest_of_free (h : ReachesNew s 0x303 rq .ctxAlloc) {t : State}
    (ht : allocCtx (takePkt s (reqPkt 0x303 rq .ctxAlloc)) rq.part = some (c, t)) :
    allocRequest s rq = answeredKept t 0x303 rq (.result (resultWord false c 0)) := by
  obtain ⟨⟨hw, ha, hs⟩, hr⟩ := h
  rw [allocRequest, hw, arriveReq_served _ ha]
  exact (cachedReq_new (s := takePkt s _) hs hr (by rw [ht])).trans (by rw [ht]; rfl)

/-- With no context free it is answered NO_CONTEXT. -/
theorem allocRequest_of_none (h : ReachesNew s 0x303 rq .ctxAlloc) (hf : (ctxPart s rq.part).free.take = none) :
    allocRequest s rq = respond (takePkt s (reqPkt 0x303 rq .ctxAlloc)) 0x303 rq (.result (resultWord true 0 0x0A)) := by
  obtain ⟨⟨hw, ha, hs⟩, hr⟩ := h
  have hnone : allocCtx (takePkt s (reqPkt 0x303 rq .ctxAlloc)) rq.part = none := by
    rw [allocCtx, show ctxPart (takePkt s _) rq.part = ctxPart s rq.part from rfl, hf]
  rw [allocRequest, hw, arriveReq_served _ ha]
  exact (cachedReq_new (s := takePkt s _) hs hr (by rw [hnone])).trans (by rw [hnone]; rfl)

/-- The state after a release request that is answered WAIT: the pool's is `t`. -/
def waiting (s t : State) (rq : Rq) : State := kept s (respond (replayAdd t 0x303 rq none) 0x303 rq .wait)

/-- The answer WAIT leaves the pool, the tiles and the requests alone, and joins the packets. -/
theorem waiting_keeps (s t : State) (rq : Rq) : (waiting s t rq).ctx = t.ctx ∧ (waiting s t rq).tiles = t.tiles
    ∧ (waiting s t rq).outs = t.outs ∧ (waiting s t rq).sendWait = t.sendWait ∧ t.net ⊆ (waiting s t rq).net :=
  ⟨rfl, rfl, rfl, rfl, List.subset_append_left _ _⟩

theorem exec_releaseRequest (s : State) (rq : Rq) (c : Nat) : exec (.releaseRequest rq c) s = .next (kept s (releaseRequest s rq c)) := rfl
theorem exec_allocateRequest (s : State) (rq : Rq) : exec (.allocateRequest rq) s = .next (kept s (allocRequest s rq)) := rfl

/-- The context pool, each clause from the operation's own lemma. -/
theorem contexts : Contexts := by
  refine ⟨fun s t rq c h ht => ?alloc, fun s t p c hp h => allocCtx_live hp h, fun s rq h hf => ?none, fun s rq c h hp => ⟨?live, ?again, ?bad⟩,
    fun s u p c n r hw ha hr => ?tile, fun s src p c tag n o r hans huse hn hr hp => ?agent⟩
  case alloc =>
    obtain ⟨x, rfl⟩ := allocCtx_pool ht
    rw [exec_allocateRequest, allocRequest_of_free h ht]
    rfl
  case none =>
    rw [exec_allocateRequest, allocRequest_of_none h hf]
    rfl
  case live =>
    intro h0 hl hst
    have he := releaseEval_of_live (s := takePkt s (reqPkt 0x303 rq (.ctxRelease c))) h0 hl hst
    refine ⟨waiting s _ rq, by rw [exec_releaseRequest, releaseRequest_waits h he, waiting], ?_⟩
    obtain ⟨hctx, htiles, houts, hwait, hnet⟩ := waiting_keeps s (releaseBegun (takePkt s (reqPkt 0x303 rq (.ctxRelease c))) rq c) rq
    obtain ⟨hbegun, hsame, hends, hnotice⟩ := releaseBegun_spec (takePkt s (reqPkt 0x303 rq (.ctxRelease c))) rq c
    rw [hbegun] at hctx
    refine ⟨by rw [hctx]; rfl, by rw [hctx]; rfl, fun u hu => hnet (hends u hu), htiles.trans hsame, fun hb => ?_⟩
    rw [houts, hwait]
    exact hnotice hb
  case again =>
    intro h0 hl hst hab
    have he := releaseEval_of_abandoned (s := takePkt s (reqPkt 0x303 rq (.ctxRelease c))) h0 hl hst hab
    refine ⟨waiting s _ rq, by rw [exec_releaseRequest, releaseRequest_waits h he, waiting], ?_⟩
    obtain ⟨hctx, -, houts, hwait, -⟩ := waiting_keeps s (sendNotice (releasingAgain (takePkt s (reqPkt 0x303 rq (.ctxRelease c))) rq c) rq.part c) rq
    rw [(sendNotice_keeps _ _ _).1] at hctx
    refine ⟨by rw [hctx]; rfl, by rw [hctx]; rfl, ?_⟩
    rw [houts, hwait]
    exact sendNotice_left (releasingAgain (takePkt s (reqPkt 0x303 rq (.ctxRelease c))) rq c) rq.part c
  case bad =>
    intro hbad
    rw [exec_releaseRequest, releaseRequest_refused h (releaseEval_of_invalid hbad)]
    rfl
  case tile =>
    refine ⟨_, by rw [show exec (.ctxReleaseAck (.tile u p c n)) s = .next (kept s (ctxEndAckArrival s u p c n)) from rfl,
      ctxEndAckArrival_of_release hw ha hr], ?_⟩
    obtain ⟨hctx, hleft⟩ := tileAcked_spec (takePkt s { cls := 0, dest := 0x303, src := rqId u 0, part := p, body := .ctxEndAck c n }) p c u n r
    exact ⟨(congrArg CtxPool.parts hctx :), (congrArg CtxPool.releases hctx :), hleft⟩
  case agent =>
    obtain ⟨hpool, hflt⟩ := flushWait_pool (finishRelease (ended s 0x303 src p tag 0 (.result (resultWord false n 0)) o)
      { r with total := r.total + n })
    have his := List.find?_some hr
    simp only [Release.is, Bool.and_eq_true, decide_eq_true_eq] at his
    obtain ⟨⟨⟨rfl, rfl⟩, -⟩, -⟩ := his
    obtain ⟨hst, hback, hrel, hin⟩ := finishRelease_spec (s := ended s 0x303 src r.part tag 0 (.result (resultWord false n 0)) o)
      { r with total := r.total + n } hp
    refine ⟨_, by rw [show exec (.ctxReleaseAck (.agent src r.part tag (.result (resultWord false n 0)))) s
      = .next (kept s (noticeAckArrival s src r.part tag (.result (resultWord false n 0)))) from rfl,
      noticeAck_finishes hans huse hn hr], ?_⟩
    beta_reduce
    rw [ctxState_congr (kept_ctx s _), ctxPart_congr (kept_ctx s _), kept_ctx, ctxState_congr hpool, ctxPart_congr hpool, hpool, hrel,
      show ∀ x, (kept s x).flt = x.flt from fun _ => rfl, hflt, hin]
    exact ⟨hst, hback, rfl, rfl⟩

/-- Settles O26: the placement caches and the context pool, from the lemmas about each operation. -/
theorem placementAndContexts : Obligations.PlacementAndContexts := ⟨placement, contexts⟩

end Sys2Proof.Machine
end

section
/-! PROOF. What the integer operations and the compares compute (R88, R89): the model's readings of low bits are those of the bit vectors. -/

namespace Sys2Proof.Machine

section Words
variable {w : Nat}

/-- The bits above a word's width do not reach it. -/
theorem ofNat_mod_width (n : Nat) : BitVec.ofNat w (n % 2 ^ w) = BitVec.ofNat w n :=
  BitVec.eq_of_toNat_eq (by simp)

/-- The signed reading of the low bits is the bit vector's. -/
theorem signed_eq_toInt (hw : 0 < w) (n : Nat) : signed w n = (BitVec.ofNat w n).toInt := by
  obtain ⟨k, rfl⟩ := Nat.exists_eq_succ_of_ne_zero hw.ne'
  have hsize : 2 ^ (k + 1) = 2 * 2 ^ k := Nat.pow_succ'
  rw [signed, BitVec.toInt_eq_toNat_cond, BitVec.toNat_ofNat]
  simp only [Nat.succ_eq_add_one, Nat.add_sub_cancel]
  split <;> split <;> omega

/-- So is the signed reading of an operand that was cut to the width. -/
theorem signed_mod_width (hw : 0 < w) (n : Nat) : signed w (n % 2 ^ w) = (BitVec.ofNat w n).toInt := by
  rw [signed_eq_toInt hw, ofNat_mod_width]

/-- Narrowing is the bit vector of an integer. -/
theorem narrow_eq_toNat (i : Int) : narrow w i = (BitVec.ofInt w i).toNat := (BitVec.toNat_ofInt i).symm

theorem ofNat_narrow (i : Int) : BitVec.ofNat w (narrow w i) = BitVec.ofInt w i := by
  rw [narrow_eq_toNat, BitVec.ofNat_toNat, BitVec.setWidth_eq]

theorem narrow_lt (i : Int) : narrow w i < 2 ^ w := by
  rw [narrow_eq_toNat]
  exact BitVec.isLt _

/-- The word that a number below the word's size makes. -/
theorem ofNat_eq_of_toNat {n : Nat} {x : BitVec w} (h : n = x.toNat) : BitVec.ofNat w n = x := by
  rw [h, BitVec.ofNat_toNat, BitVec.setWidth_eq]

/-- A word is zero where its low bits are. -/
theorem ofNat_eq_zero_iff (n : Nat) : BitVec.ofNat w n = 0 ↔ n % 2 ^ w = 0 := by
  rw [← BitVec.toNat_inj]
  simp

/-- The quotient of two words, rounded toward zero, is the bit vectors'. -/
theorem ofInt_tdiv (x y : BitVec w) : BitVec.ofInt w (x.toInt.tdiv y.toInt) = x.sdiv y :=
  BitVec.eq_of_toInt_eq (by rw [BitVec.toInt_ofInt, BitVec.toInt_sdiv])

theorem ofNat_allOnes : BitVec.ofNat w (2 ^ w - 1) = BitVec.allOnes w := ofNat_eq_of_toNat BitVec.toNat_allOnes.symm

end Words

/-- Every result of an integer operation fits its width (R88). -/
theorem aluVal_lt {w : Nat} (o : AluOp) (a b : Nat) : aluVal w o a b < 2 ^ w := by
  have hsize : 0 < 2 ^ w := Nat.two_pow_pos w
  have ha : a % 2 ^ w < 2 ^ w := Nat.mod_lt _ hsize
  have hb : b % 2 ^ w < 2 ^ w := Nat.mod_lt _ hsize
  cases o with
  | add => exact Nat.mod_lt _ hsize
  | sub => exact Nat.mod_lt _ hsize
  | mul => exact Nat.mod_lt _ hsize
  | shl => exact Nat.mod_lt _ hsize
  | mulhu => exact Nat.div_lt_of_lt_mul (Nat.mul_lt_mul'' ha hb)
  | mulhs => exact narrow_lt _
  | sar => exact narrow_lt _
  | and => exact Nat.and_lt_two_pow _ hb
  | or => exact Nat.or_lt_two_pow ha hb
  | xor => exact Nat.xor_lt_two_pow ha hb
  | shr => exact Nat.lt_of_le_of_lt (Nat.shiftRight_le _ _) ha
  | divu =>
    simp only [aluVal]
    split
    · omega
    · exact Nat.lt_of_le_of_lt (Nat.div_le_self _ _) ha
  | divs =>
    simp only [aluVal]
    split
    · omega
    · exact narrow_lt _
  | remu =>
    simp only [aluVal]
    split
    · exact ha
    · exact Nat.lt_of_le_of_lt (Nat.mod_le _ _) ha
  | mins => simp only [aluVal]; split <;> assumption
  | maxs => simp only [aluVal]; split <;> assumption

theorem integerValues : IntegerValues := by
  intro w a b hw
  have hb : b % 2 ^ w < 2 ^ w := Nat.mod_lt _ (Nat.two_pow_pos w)
  refine ⟨?add, ?sub, ?mul, rfl, ?mulhs, ?divu, ?divs, ?remu, ?and, ?or, ?xor, ?shl, ?shr, ?sar, ?mins, ?maxs, fun o => aluVal_lt o a b⟩
  case add => rw [aluVal, ofNat_mod_width, BitVec.ofNat_add, ofNat_mod_width, ofNat_mod_width]
  case mul => rw [aluVal, ofNat_mod_width, BitVec.ofNat_mul, ofNat_mod_width, ofNat_mod_width]
  case sub =>
    rw [aluVal, ofNat_mod_width, BitVec.ofNat_sub_ofNat, Nat.add_comm (a % 2 ^ w), Nat.sub_add_comm hb.le, BitVec.ofNat_add,
      BitVec.ofNat_add, ofNat_mod_width]
  case mulhs => rw [aluVal, ofNat_narrow, signed_mod_width hw, signed_mod_width hw]
  case divu =>
    simp only [aluVal, ofNat_eq_zero_iff]
    split
    · exact ofNat_allOnes
    · exact ofNat_eq_of_toNat (by simp)
  case divs =>
    simp only [aluVal, ofNat_eq_zero_iff]
    split
    · exact ofNat_allOnes
    · rw [ofNat_narrow, signed_mod_width hw, signed_mod_width hw, ofInt_tdiv]
  case remu =>
    refine ofNat_eq_of_toNat ?_
    simp only [aluVal, BitVec.toNat_umod, BitVec.toNat_ofNat]
    split
    · next h => rw [h, Nat.mod_zero]
    · rfl
  case and => rw [aluVal, BitVec.ofNat_and, ofNat_mod_width, ofNat_mod_width]
  case or => rw [aluVal, BitVec.ofNat_or, ofNat_mod_width, ofNat_mod_width]
  case xor => rw [aluVal, BitVec.ofNat_xor, ofNat_mod_width, ofNat_mod_width]
  case shl => exact ofNat_eq_of_toNat (by simp [aluVal, shiftCount])
  case shr => exact ofNat_eq_of_toNat (by simp [aluVal, shiftCount])
  case sar => rw [aluVal, ofNat_narrow, signed_mod_width hw, shiftCount, BitVec.sshiftRight]
  case mins =>
    simp only [aluVal, signed_mod_width hw, BitVec.sle_iff_toInt_le]
    split <;> exact ofNat_mod_width _
  case maxs =>
    simp only [aluVal, signed_mod_width hw, BitVec.sle_iff_toInt_le]
    split <;> exact ofNat_mod_width _

end Sys2Proof.Machine
end

section
/-! PROOF. The instructions that work on registers alone (R80, R86 to R90, R110 to R114): the command of each settles what issues, and what
an instruction that issues leaves unchanged. -/

namespace Sys2Proof.Machine

variable {s s1 : State} {u : Nat} {i : Ins}

/-! ### The commands -/

theorem exec_aluCmd (o : AluOp) (u : Nat) (s : State) :
    exec (aluCmd o u) s = settled s (issue s u (fun x => decide (x = .alu o)) (fun i s => runAlu u i o s)) := by
  cases o <;> rfl

theorem exec_aluiCmd (o : AluOp) (u : Nat) (s : State) :
    exec (aluiCmd o u) s = settled s (issue s u (fun x => decide (x = .alui o)) (fun i s => runAlui u i o s)) := by
  cases o <;> rfl

theorem exec_cmpCmd (o : CmpOp) (u : Nat) (s : State) :
    exec (cmpCmd o u) s = settled s (issue s u (fun x => decide (x = .cmp o)) (fun i s => runCmp u i o s)) := by
  cases o <;> rfl

theorem exec_fltCmd (o : FltOp) (u : Nat) (s : State) :
    exec (fltCmd o u) s = settled s (issue s u (fun x => decide (x = .flt o)) (fun i s => runFlt u i o s)) := by
  cases o <;> rfl

/-! ### What stays unchanged -/

/-- From `s` to `t` nothing changes but tile `u`'s thread, its v registers, the errors of its instruction-store lines, and the collector's
inbox. -/
def OnlyRegisters (s : State) (u : Nat) (t : State) : Prop :=
  ∃ th v ie ib fl, t = { s with
    tiles := s.tiles.set u { tileAt s u with thread := th, v := v, istoreErr := ie, istoreBad := ib }, flt := { s.flt with inbox := fl } }

theorem OnlyRegisters.trans {t x : State} (h : OnlyRegisters s u t) (h' : OnlyRegisters t u x) : OnlyRegisters s u x := by
  obtain ⟨th, v, ie, ib, fl, rfl⟩ := h
  obtain ⟨th', v', ie', ib', fl', rfl⟩ := h'
  refine ⟨th', v', ie', ib', fl', ?_⟩
  by_cases hu : u < s.tiles.length
  · simp [tileAt, hu]
  · have hset (l : List Tile) (t : Tile) (hl : l.length = s.tiles.length) : l.set u t = l := List.set_eq_of_length_le (by omega)
    simp [hset]

/-- A change of the own tile in what instructions on registers may change. -/
theorem onlyRegisters_setTile (th : Thread) (v : List VReg) (ie : SMap Nat) (ib : NSet) :
    OnlyRegisters s u (setTile s u { tileAt s u with thread := th, v := v, istoreErr := ie, istoreBad := ib }) := ⟨th, v, ie, ib, s.flt.inbox, rfl⟩

theorem OnlyRegisters.refl (s : State) (u : Nat) : OnlyRegisters s u s := by
  have h := onlyRegisters_setTile (s := s) (u := u) (tileAt s u).thread (tileAt s u).v (tileAt s u).istoreErr (tileAt s u).istoreBad
  rwa [setTile_self] at h

/-- A change of the thread. -/
theorem onlyRegisters_modThread (s : State) (u : Nat) (f : Thread → Thread) : OnlyRegisters s u (modThread s u f) :=
  onlyRegisters_setTile _ _ _ _

/-- A further step of the thread to the next instruction. -/
theorem OnlyRegisters.advance {t : State} (h : OnlyRegisters s u t) (i : Ins) : OnlyRegisters s u (advance t u i) :=
  h.trans (onlyRegisters_modThread t u _)

/-- A write of a register of the thread, which then goes on. -/
theorem onlyRegisters_write (s : State) (u : Nat) (f : Thread → Thread) (i : Ins) : OnlyRegisters s u (Machine.advance (modThread s u f) u i) :=
  (onlyRegisters_modThread s u f).advance i

/-- A write of a v register, after which the thread goes on. -/
theorem onlyRegisters_writeV (s : State) (u r : Nat) (x : VReg) (i : Ins) : OnlyRegisters s u (advance (setV s u r x) u i) :=
  OnlyRegisters.advance (onlyRegisters_setTile _ _ _ _) i

/-- A fault message. -/
theorem onlyRegisters_raiseMsg (s : State) (u : Nat) (m : FaultMsg) : OnlyRegisters s u (raiseMsg s m) :=
  ⟨(tileAt s u).thread, (tileAt s u).v, (tileAt s u).istoreErr, (tileAt s u).istoreBad, s.flt.inbox ++ [m],
    (congrArg (fun t : State => raiseMsg t m) (setTile_self s u)).symm⟩

/-- A node that is abandoned leaves its record and an idle thread. -/
theorem onlyRegisters_abandonAt (s : State) (u kind reg file : Nat) : OnlyRegisters s u (abandonAt s u kind reg file) :=
  (onlyRegisters_raiseMsg s u _).trans (onlyRegisters_modThread _ u _)

theorem OnlyRegisters.ite {c : Prop} {_ : Decidable c} {t x : State} (ht : OnlyRegisters s u t) (hx : OnlyRegisters s u x) :
    OnlyRegisters s u (if c then t else x) := by
  split
  · exact ht
  · exact hx

theorem consumeG_onlyRegisters (rs : List Nat) {k : State → State} (hk : OnlyRegisters s u (k s)) : OnlyRegisters s u (consumeG s u rs k) := by
  unfold consumeG
  split
  · exact onlyRegisters_abandonAt s u _ _ _
  · exact hk

theorem consumeV_onlyRegisters (rs : List Nat) {k : State → State} (hk : OnlyRegisters s u (k s)) : OnlyRegisters s u (consumeV s u rs k) := by
  unfold consumeV
  split
  · exact onlyRegisters_abandonAt s u _ _ _
  · exact hk

theorem fetchLine_onlyRegisters (s : State) (u l : Nat) : OnlyRegisters s u (fetchLine s u l).1 := by
  unfold fetchLine
  dsimp only
  split
  · exact OnlyRegisters.refl s u
  · exact OnlyRegisters.trans (onlyRegisters_setTile _ _ _ _) (onlyRegisters_raiseMsg _ u _)
  · exact onlyRegisters_setTile _ _ _ _

theorem fetchLines_onlyRegisters (n : Nat) (s : State) (u l : Nat) : OnlyRegisters s u (fetchLines s u l n).1 := by
  induction n generalizing s l with
  | zero => exact OnlyRegisters.refl s u
  | succ k ih =>
    have hline := fetchLine_onlyRegisters s u l
    rw [fetchLines]
    dsimp only
    split
    · exact hline
    · exact hline.trans (ih _ _)

/-- What an instruction does once it issues bounds what its command does. -/
theorem issue_onlyRegisters (want : NOp → Bool) {run : Ins → State → State} (h : ∀ i s, OnlyRegisters s u (run i s)) :
    OnlyRegisters s u (issue s u want run) := by
  have hfetch {l n : Nat} {s1 : State} {bad : Option Nat} (hf : fetchLines s u l n = (s1, bad)) : OnlyRegisters s u s1 := by
    have := fetchLines_onlyRegisters n s u l
    rwa [hf] at this
  have habandon {l n : Nat} {s1 : State} {bad : Option Nat} (hf : fetchLines s u l n = (s1, bad)) (kind : Nat) :
      OnlyRegisters s u (abandon s1 u kind) := (hfetch hf).trans (onlyRegisters_abandonAt s1 u kind 0 0)
  unfold issue
  refine .ite (.refl s u) (.ite (onlyRegisters_abandonAt s u _ 0 0) ?_)
  dsimp only
  split
  · split <;> next hf => exact habandon hf _
  · split <;> next hf => exact habandon hf _
  · split
    · next hf => exact habandon hf _
    · next hf =>
      exact .ite (habandon hf _) (.ite (.refl s u) (.ite ((hfetch hf).trans (onlyRegisters_modThread _ u _)) (.ite (.refl s u) ((hfetch hf).trans (h _ _)))))

/-! ### The meanings -/

theorem runAlu_onlyRegisters (o : AluOp) (i : Ins) (s : State) : OnlyRegisters s u (runAlu u i o s) :=
  .ite (consumeV_onlyRegisters _ (onlyRegisters_writeV s u _ _ i)) (consumeG_onlyRegisters _ (onlyRegisters_write s u _ i))

theorem runAlui_onlyRegisters (o : AluOp) (i : Ins) (s : State) : OnlyRegisters s u (runAlui u i o s) :=
  .ite (consumeV_onlyRegisters _ (onlyRegisters_writeV s u _ _ i)) (consumeG_onlyRegisters _ (onlyRegisters_write s u _ i))

theorem runFlt_onlyRegisters (o : FltOp) (i : Ins) (s : State) : OnlyRegisters s u (runFlt u i o s) :=
  .ite (consumeV_onlyRegisters _ (onlyRegisters_writeV s u _ _ i)) (consumeG_onlyRegisters _ (onlyRegisters_write s u _ i))

theorem runFcvt_onlyRegisters (i : Ins) (s : State) : OnlyRegisters s u (runFcvt u i s) :=
  .ite (consumeV_onlyRegisters _ (onlyRegisters_writeV s u _ _ i)) (consumeG_onlyRegisters _ (onlyRegisters_write s u _ i))

theorem runMov_onlyRegisters (i : Ins) (s : State) : OnlyRegisters s u (runMov u i s) :=
  .ite (onlyRegisters_writeV s u _ _ i) (onlyRegisters_write s u _ i)

theorem jumpTo_onlyRegisters (s : State) (u target : Nat) : OnlyRegisters s u (jumpTo s u target) :=
  .ite (onlyRegisters_modThread s u _) (onlyRegisters_abandonAt s u _ 0 0)

theorem runRett_onlyRegisters (s : State) (u : Nat) : OnlyRegisters s u (runRett u s) :=
  .ite (onlyRegisters_modThread s u _) (onlyRegisters_abandonAt s u _ 0 0)

theorem runTrap_onlyRegisters (i : Ins) (s : State) : OnlyRegisters s u (runTrap u i s) :=
  .ite (onlyRegisters_abandonAt s u _ 0 0) (.ite (onlyRegisters_modThread s u _) (onlyRegisters_abandonAt s u _ 0 0))

/-- The commands of node code that work on registers alone issue an instruction whose meaning changes nothing else. -/
theorem exec_of_registerOnly {c : Instr} (h : registerOnly u c) (s : State) :
    ∃ want run, exec c s = settled s (issue s u want run) ∧ ∀ i s, OnlyRegisters s u (run i s) := by
  have hwrite (rs : List Nat) (i : Ins) (s : State) (f : State → Thread → Thread) :
      OnlyRegisters s u (consumeG s u rs (fun s => advance (modThread s u (f s)) u i)) :=
    consumeG_onlyRegisters rs (onlyRegisters_write s u _ i)
  have hlanes (rs : List Nat) (i : Ins) (s : State) (r : Nat) (x : State → VReg) :
      OnlyRegisters s u (consumeG s u rs (fun s => advance (setV s u r (x s)) u i)) :=
    consumeG_onlyRegisters rs (onlyRegisters_writeV s u _ _ i)
  have hreduce (rs : List Nat) (i : Ins) (s : State) (f : State → Thread → Thread) :
      OnlyRegisters s u (consumeV s u rs (fun s => advance (modThread s u (f s)) u i)) :=
    consumeV_onlyRegisters rs (onlyRegisters_write s u _ i)
  obtain ⟨o, rfl⟩ | ⟨o, rfl⟩ | ⟨o, rfl⟩ | ⟨o, rfl⟩ | hc := h
  · exact ⟨_, _, exec_aluCmd o u s, runAlu_onlyRegisters o⟩
  · exact ⟨_, _, exec_aluiCmd o u s, runAlui_onlyRegisters o⟩
  · exact ⟨_, _, exec_cmpCmd o u s, fun i s => hwrite _ i s _⟩
  · exact ⟨_, _, exec_fltCmd o u s, runFlt_onlyRegisters o⟩
  simp only [List.mem_cons, List.not_mem_nil, or_false] at hc
  rcases hc with rfl | rfl | rfl | rfl | rfl | rfl | rfl | rfl | rfl | rfl | rfl | rfl | rfl | rfl | rfl | rfl | rfl
  · exact ⟨_, _, rfl, fun i s => onlyRegisters_write s u _ i⟩
  · exact ⟨_, _, rfl, runFcvt_onlyRegisters⟩
  · exact ⟨_, _, rfl, runMov_onlyRegisters⟩
  · exact ⟨_, _, rfl, fun i s => onlyRegisters_write s u _ i⟩
  · exact ⟨_, _, rfl, fun i s => onlyRegisters_write s u _ i⟩
  · exact ⟨_, _, rfl, fun i s => hwrite _ i s _⟩
  · exact ⟨_, _, rfl, fun i s => onlyRegisters_write s u _ i⟩
  · exact ⟨_, _, rfl, fun i s => hlanes _ i s _ _⟩
  · exact ⟨_, _, rfl, fun i s => hreduce _ i s _⟩
  · exact ⟨_, _, rfl, fun i s => hlanes _ i s _ _⟩
  · exact ⟨_, _, rfl, fun i s => hreduce _ i s _⟩
  · exact ⟨_, _, rfl, fun i s => (OnlyRegisters.refl s u).advance i⟩
  · exact ⟨_, _, rfl, fun _ s => jumpTo_onlyRegisters s u _⟩
  · exact ⟨_, _, rfl, fun _ s => consumeG_onlyRegisters _ (jumpTo_onlyRegisters s u _)⟩
  · exact ⟨_, _, rfl, fun _ s => onlyRegisters_modThread s u _⟩
  · exact ⟨_, _, rfl, fun _ s => runRett_onlyRegisters s u⟩
  · exact ⟨_, _, rfl, runTrap_onlyRegisters⟩

/-- Settles O22: a command on registers settles an issue, and whatever it issues keeps to the thread and what the fetch meets. -/
theorem registerInstructionsFrame : Obligations.RegisterInstructionsFrame := by
  intro u c s t hc ht
  obtain ⟨want, run, hexec, hrun⟩ := exec_of_registerOnly hc s
  obtain ⟨th, v, ie, ib, fl, hissue⟩ := issue_onlyRegisters (s := s) want hrun
  rw [hexec, settled_next] at ht
  injection ht with ht
  exact ⟨th, v, ie, ib, fl, by rw [← ht, hissue]; rfl⟩

end Sys2Proof.Machine
end

section
/-! PROOF. Integer, compare, float, move and read instructions (R80, R86, R88 to R90, R586): each runs its own meaning on operands without
poison. -/

namespace Sys2Proof.Machine

variable {s s1 : State} {u : Nat} {i : Ins}

/-! ### Integer instructions (R88) -/

theorem exec_alu {o : AluOp} (h : Issues s u i s1) (hop : i.op = .alu o) : exec (aluCmd o u) s = .next (kept s (runAlu u i o s1)) :=
  (exec_aluCmd o u s).trans (settled_issue h (by simp [hop]))

theorem exec_alui {o : AluOp} (h : Issues s u i s1) (hop : i.op = .alui o) : exec (aluiCmd o u) s = .next (kept s (runAlui u i o s1)) :=
  (exec_aluiCmd o u s).trans (settled_issue h (by simp [hop]))

theorem runAlu_scalar (o : AluOp) (hv : i.lead.vec = false) (hg : cleanG s u [i.b, i.c]) : runAlu u i o s
    = advance (setG s u i.a (aluVal (scalarW i) o (gVal s u i.b) (gVal s u i.c)) false) u i := by
  simp only [runAlu, hv, Bool.false_eq_true, if_false, consumeG_clean _ _ _ _ hg]

theorem runAlu_lanes (o : AluOp) (hv : i.lead.vec = true) (hg : cleanV s u [i.b, i.c]) : runAlu u i o s
    = advance (setV s u i.a ⟨vecOf (laneW i) (fun n => aluVal (laneW i) o (lane (laneW i) (vReg s u i.b).val.toNat n)
        (lane (laneW i) (vReg s u i.c).val.toNat n)), false⟩) u i := by
  simp only [runAlu, hv, if_true, consumeV_clean _ _ _ _ hg]

theorem runAlui_scalar (o : AluOp) (hv : i.lead.vec = false) (hg : cleanG s u [i.b]) : runAlui u i o s
    = advance (setG s u i.a (aluVal (scalarW i) o (gVal s u i.b) (narrow 64 i.imm)) false) u i := by
  simp only [runAlui, hv, Bool.false_eq_true, if_false, consumeG_clean _ _ _ _ hg]

theorem runAlui_lanes (o : AluOp) (hv : i.lead.vec = true) (hg : cleanV s u [i.b]) : runAlui u i o s
    = advance (setV s u i.a ⟨vecOf (laneW i) (fun n => aluVal (laneW i) o (lane (laneW i) (vReg s u i.b).val.toNat n)
        (narrow (laneW i) i.imm)), false⟩) u i := by
  simp only [runAlui, hv, if_true, consumeV_clean _ _ _ _ hg]

/-- Settles O12: each form runs on operands that are consumed without effect. -/
theorem integerInstructions : Obligations.IntegerInstructions := by
  intro o u i s s1 h
  refine ⟨fun hop hv hg => ?_, fun hop hv hg => ?_, fun hop hv hg => ?_, fun hop hv hg => ?_⟩
  · rw [exec_alu h hop, runAlu_scalar o hv hg]; rfl
  · rw [exec_alu h hop, runAlu_lanes o hv hg]; rfl
  · rw [exec_alui h hop, runAlui_scalar o hv hg]; rfl
  · rw [exec_alui h hop, runAlui_lanes o hv hg]; rfl

/-- On operands without poison neither form raises a fault. -/
theorem runAlu_flt (o : AluOp) (hg : i.lead.vec = false → cleanG s u [i.b, i.c]) (hv : i.lead.vec = true → cleanV s u [i.b, i.c]) :
    (runAlu u i o s).flt = s.flt := by
  cases hvec : i.lead.vec with
  | false => rw [runAlu_scalar o hvec (hg hvec)]; rfl
  | true => rw [runAlu_lanes o hvec (hv hvec)]; rfl

theorem runAlui_flt (o : AluOp) (hg : i.lead.vec = false → cleanG s u [i.b]) (hv : i.lead.vec = true → cleanV s u [i.b]) :
    (runAlui u i o s).flt = s.flt := by
  cases hvec : i.lead.vec with
  | false => rw [runAlui_scalar o hvec (hg hvec)]; rfl
  | true => rw [runAlui_lanes o hvec (hv hvec)]; rfl

theorem integerRaisesNothing : IntegerRaisesNothing := fun o _ _ _ _ h =>
  ⟨fun hop hg hv => ⟨_, exec_alu h hop, runAlu_flt o hg hv⟩, fun hop hg hv => ⟨_, exec_alui h hop, runAlui_flt o hg hv⟩⟩

/-- Settles O13: the results as those of bit vectors, and no fault from any of them. -/
theorem integerResults : Obligations.IntegerResults := ⟨integerValues, integerRaisesNothing⟩

/-! ### Compares and predicates (R89) -/

theorem exec_cmp {o : CmpOp} (h : Issues s u i s1) (hop : i.op = .cmp o) : exec (cmpCmd o u) s = .next (kept s (runCmp u i o s1)) :=
  (exec_cmpCmd o u s).trans (settled_issue h (by simp [hop]))

theorem exec_plog (h : Issues s u i s1) (hop : i.op = .plog) : exec (.plog u) s = .next (kept s (runPlog u i s1)) :=
  settled_issue h (by simp [hop])

theorem compareInstructions : CompareInstructions := by
  refine ⟨fun o u i s s1 h hop hg => ?_, fun u i s s1 h hop => exec_plog h hop, fun w a b hw => ?_⟩
  · rw [exec_cmp h hop, runCmp, consumeG_clean _ _ _ _ hg]
    rfl
  · simp only [cmpVal, signed_mod_width hw, BitVec.slt_eq_decide, BitVec.sle_eq_decide, BitVec.ult_eq_decide, BitVec.ule_eq_decide,
      BitVec.toNat_ofNat, ← BitVec.toNat_inj, decide_not, and_self]

/-! ### Float instructions (R90) -/

theorem exec_flt {o : FltOp} (h : Issues s u i s1) (hop : i.op = .flt o) : exec (fltCmd o u) s = .next (kept s (runFlt u i o s1)) :=
  (exec_fltCmd o u s).trans (settled_issue h (by simp [hop]))

theorem exec_fcvt (h : Issues s u i s1) (hop : i.op = .fcvt) : exec (.fcvt u) s = .next (kept s (runFcvt u i s1)) :=
  settled_issue h (by simp [hop])

/-- A sum, a product and an opposite with a NaN are NaN. -/
theorem fAddV_nan {f : FFmt} {x y : FVal} (h : x = .nan ∨ y = .nan) : fAddV f x y = f.nan := by
  obtain rfl | rfl := h
  · rfl
  · cases x <;> rfl

theorem fMulV_nan {x y : FVal} (h : x = .nan ∨ y = .nan) : fMulV x y = .nan := by
  obtain rfl | rfl := h
  · rfl
  · cases x <;> rfl

theorem fDiv_nan {a b : Nat} (h : fUnpack f32 a = .nan ∨ fUnpack f32 b = .nan) : fDiv a b = f32.nan := by
  unfold fDiv
  obtain h | h := h
  · rw [h]
  · rw [h]
    cases fUnpack f32 a <;> rfl

/-- A NaN operand gives the canonical NaN of binary32. -/
theorem fltVal_nan {o : FltOp} {d a b : Nat} (h : fUnpack f32 a = .nan ∨ fUnpack f32 b = .nan ∨ (o = .fma ∧ fUnpack f32 d = .nan)) :
    fltVal o d a b = f32.nan := by
  have hab (ho : o ≠ .fma) : fUnpack f32 a = .nan ∨ fUnpack f32 b = .nan := by
    obtain h | h | ⟨h, -⟩ := h
    · exact .inl h
    · exact .inr h
    · exact absurd h ho
  cases o with
  | fadd => exact fAddV_nan (hab nofun)
  | fsub => exact fAddV_nan ((hab nofun).imp_right (fun h => by rw [h]; rfl))
  | fmul => exact congrArg (fPack f32) (fMulV_nan (hab nofun))
  | fdiv => exact fDiv_nan (hab nofun)
  | fmin => exact if_pos (hab nofun)
  | fmax => exact if_pos (hab nofun)
  | fma =>
    obtain h | h | ⟨-, h⟩ := h
    · exact fAddV_nan (.inr (fMulV_nan (.inl h)))
    · exact fAddV_nan (.inr (fMulV_nan (.inr h)))
    · exact fAddV_nan (.inl h)

theorem floatInstructions : FloatInstructions := by
  refine ⟨fun o u i s s1 h hop hv hg => ?_, fun o u i s s1 h hop hv hg => ?_, fun u i s s1 h hop hv hg => ?_,
    fun u i s s1 h hop hv hg => ?_, fun _ _ _ _ h => fltVal_nan h⟩
  · rw [exec_flt h hop]
    simp only [runFlt, hv, Bool.false_eq_true, if_false, consumeG_clean _ _ _ _ hg]
  · rw [exec_flt h hop]
    simp only [runFlt, hv, if_true, consumeV_clean _ _ _ _ hg]
  · rw [exec_fcvt h hop]
    simp only [runFcvt, hv, Bool.false_eq_true, if_false, consumeG_clean _ _ _ _ hg]
  · rw [exec_fcvt h hop]
    simp only [runFcvt, hv, if_true, consumeV_clean _ _ _ _ hg]

/-- Settles O14: the compares and the predicate logic, and the float operations with their NaNs. -/
theorem compareAndFloatInstructions : Obligations.CompareAndFloatInstructions := ⟨compareInstructions, floatInstructions⟩

/-! ### Moves, reads and lanes (R80, R86, R586) -/

theorem exec_mov (h : Issues s u i s1) (hop : i.op = .mov) : exec (.mov u) s = .next (kept s (runMov u i s1)) :=
  settled_issue h (by simp [hop])

theorem exec_movi (h : Issues s u i s1) (hop : i.op = .movi) : exec (.movi u) s = .next (kept s (runMovi u i s1)) :=
  settled_issue h (by simp [hop])

theorem exec_movt (h : Issues s u i s1) (hop : i.op = .movt) : exec (.movt u) s = .next (kept s (runMovt u i s1)) :=
  settled_issue h (by simp [hop])

theorem exec_movtw (h : Issues s u i s1) (hop : i.op = .movtw) : exec (.movtw u) s = .next (kept s (runMovtw u i s1)) :=
  settled_issue h (by simp [hop])

theorem exec_rdsys (h : Issues s u i s1) (hop : i.op = .rdsys) : exec (.rdsys u) s = .next (kept s (runRdsys u i s1)) :=
  settled_issue h (by simp [hop])

theorem exec_vbcast (h : Issues s u i s1) (hop : i.op = .vbcast) : exec (.vbcast u) s = .next (kept s (runVbcast u i s1)) :=
  settled_issue h (by simp [hop])

theorem exec_vext (h : Issues s u i s1) (hop : i.op = .vext) : exec (.vext u) s = .next (kept s (runVext u i s1)) :=
  settled_issue h (by simp [hop])

theorem exec_vins (h : Issues s u i s1) (hop : i.op = .vins) : exec (.vins u) s = .next (kept s (runVins u i s1)) :=
  settled_issue h (by simp [hop])

theorem exec_vred (h : Issues s u i s1) (hop : i.op = .vred) : exec (.vred u) s = .next (kept s (runVred u i s1)) :=
  settled_issue h (by simp [hop])

/-- Settles O15: each instruction's own meaning, on operands that are consumed without effect. -/
theorem moveInstructions : Obligations.MoveInstructions := by
  intro u i s s1 h
  refine ⟨fun hop hv => ?mov, fun hop hv => ?movV, fun hop => exec_movi h hop, fun hop => exec_movt h hop, fun hop hg => ?movtw,
    fun hop => exec_rdsys h hop, fun hop hg => ?vbcast, fun hop hg => ?vext, fun hop hg => ?vins, fun hop hg => ?vred⟩
  case mov =>
    rw [exec_mov h hop]
    simp only [runMov, hv, Bool.false_eq_true, if_false]
  case movV =>
    rw [exec_mov h hop]
    simp only [runMov, hv, if_true]
  case movtw => rw [exec_movtw h hop, runMovtw, consumeG_clean _ _ _ _ hg]
  case vbcast => rw [exec_vbcast h hop, runVbcast, consumeG_clean _ _ _ _ hg]; rfl
  case vext => rw [exec_vext h hop, runVext, consumeV_clean _ _ _ _ hg]; rfl
  case vins => rw [exec_vins h hop, runVins, consumeG_clean _ _ _ _ hg]; rfl
  case vred => rw [exec_vred h hop, runVred, consumeV_clean _ _ _ _ hg]; rfl

end Sys2Proof.Machine
end

section
/-! PROOF. Branches, calls and returns (R87, R92, R102, R107 to R112, Table 3.7): a frame that is pushed on an empty stack cache and a frame of
the header word alone that is popped, each said once as a change of the thread. -/

namespace Sys2Proof.Machine

variable {s s1 : State} {u : Nat} {i : Ins}

/-! ### The commands -/

theorem exec_done (h : Issues s u i s1) (hop : i.op = .done) : exec (.done u) s = .next (kept s (runDone u s1)) :=
  settled_issue (run := fun _ s => runDone u s) h (by simp [hop])

theorem exec_br (h : Issues s u i s1) (hop : i.op = .br) : exec (.br u) s = .next (kept s (runBr u i s1)) :=
  settled_issue h (by simp [hop])

theorem exec_jr (h : Issues s u i s1) (hop : i.op = .jr) : exec (.jr u) s = .next (kept s (runJr u i s1)) :=
  settled_issue h (by simp [hop])

theorem exec_rett (h : Issues s u i s1) (hop : i.op = .rett) : exec (.rett u) s = .next (kept s (runRett u s1)) :=
  settled_issue (run := fun _ s => runRett u s) h (by simp [hop])

theorem exec_trap (h : Issues s u i s1) (hop : i.op = .trap) : exec (.trap u) s = .next (kept s (runTrap u i s1)) :=
  settled_issue h (by simp [hop])

theorem exec_fence (h : Issues s u i s1) (hop : i.op = .fence) : exec (.fence u) s = .next (kept s (runFence u i s1)) :=
  settled_issue h (by simp [hop])

theorem exec_call (h : Issues s u i s1) (hop : i.op = .call) : exec (.call u) s = .next (kept s (runCall u i s1)) :=
  settled_issue h (by simp [hop])

theorem exec_callr (h : Issues s u i s1) (hop : i.op = .callr) : exec (.callr u) s = .next (kept s (runCallr u i s1)) :=
  settled_issue h (by simp [hop])

theorem exec_ret (h : Issues s u i s1) (hop : i.op = .ret) : exec (.ret u) s = .next (kept s (doRet s1 u)) :=
  settled_issue (run := fun _ s => doRet s u) h (by simp [hop])

/-! ### Branches and traps (R110, R111) -/

/-- A branch inside the code region is taken. -/
theorem jumpTo_inside {target : Nat} (h : inRegion s u target = true) : jumpTo s u target = modThread s u (fun th => { th with pc := target }) :=
  if_pos h

/-- A trap with a valid entry enters the trap bank. -/
theorem enterTrap_of_valid (cause resume detail : Nat) (h : ((tileAt s u).code.getD (tileAt s u).thread.slot {}).trapValid = true) :
    enterTrap s u cause resume detail = modThread s u (fun th => { th with
      trapBank := true, pc := 4 * ((tileAt s u).code.getD (tileAt s u).thread.slot {}).trapEntry
      t := ((th.t.set 0 (BitVec.ofNat 64 cause)).set 1 (BitVec.ofNat 64 resume)).set 2 (BitVec.ofNat 64 detail) }) :=
  if_pos h

theorem controlFlow : ControlFlow := by
  intro u i s s1 h
  refine ⟨fun hop => settled_issue h (by simp [hop]), fun hop => exec_done h hop, fun hop hin => ?br, fun hop hg hin => ?jr, fun hop hin => ?rett,
    fun hop hbank hvalid => ?trap, fun hop hall => ?fence⟩
  case br =>
    rw [exec_br h hop, runBr, jumpTo_inside (target := relTarget s1 u i) hin]
    rfl
  case jr =>
    rw [exec_jr h hop, runJr, consumeG_clean _ _ _ _ hg, jumpTo_inside hin]
    rfl
  case rett =>
    rw [exec_rett h hop, show runRett u s1 = _ from if_pos hin]
    rfl
  case trap =>
    rw [exec_trap h hop, runTrap, if_neg (by simp [hbank]), enterTrap_of_valid _ _ _ hvalid]
    rfl
  case fence => rw [exec_fence h hop, runFence, if_pos hall]

/-! ### Calls (R107, R111) -/

/-- An empty mask saves no register. -/
theorem maskRegs_zero : maskRegs 0 = [] := by decide

/-- Two changes of a thread are one. -/
theorem modThread_modThread (f g : Thread → Thread) (hu : u < s.tiles.length) :
    modThread (modThread s u f) u g = modThread s u (fun th => g (f th)) := by
  rw [modThread, modTile, modThread_tile f hu, modThread, modTile, setTile_setTile, modThread, modTile]

/-- The thread that a call with an empty mask leaves: the header word at `base`, to which g31 points, and the branch to `target`. -/
def calledThread (ret base target : Nat) (th : Thread) : Thread :=
  { th with
    g := th.g.set 31 ⟨BitVec.ofNat 64 base, false⟩, stack := (base, ⟨BitVec.ofNat 64 (ret % 2 ^ 17), false⟩) :: th.stack
    pc := target, depth := th.depth + 1 }

/-- A call with an empty mask and an empty stack cache changes the thread alone. -/
theorem doCall_of_empty {target : Nat} (hu : u < s.tiles.length) (hmask : i.mask = 0) (hstack : (tileAt s u).thread.stack = [])
    (hroom : 8 + ((tileAt s u).stackReg.getD (tileAt s u).thread.slot {}).limit ≤ gVal s u 31) (hin : inRegion s u target = true) :
    doCall s u i target = modThread s u (calledThread ((tileAt s u).thread.pc + i.len) (gVal s u 31 - 8) target) := by
  have hpush (x : Nat × PWord) : pushFrame s u [x] = modThread s u (fun th => { th with stack := x :: th.stack }) := by
    simp [pushFrame, makeRoom, hstack]
  simp only [doCall, hmask, maskRegs_zero, List.length_nil, Nat.zero_add, Nat.mul_one, if_neg (Nat.not_lt.mpr hroom), hin, Bool.not_true,
    Bool.false_eq_true, if_false, callFrame, List.range_zero, List.map_nil, List.reverse_nil, List.nil_append, Nat.mul_zero, hpush, setG,
    Nat.add_zero]
  rw [modThread_modThread _ _ hu, modThread_modThread _ _ hu]
  rfl

/-- What such a call leaves of the tile. -/
theorem doCall_leaves {target : Nat} (hu : u < s.tiles.length) (hlen : (tileAt s u).thread.g.length = 64) (hmask : i.mask = 0)
    (hstack : (tileAt s u).thread.stack = [])
    (hroom : 8 + ((tileAt s u).stackReg.getD (tileAt s u).thread.slot {}).limit ≤ gVal s u 31) (hin : inRegion s u target = true) :
    gVal (doCall s u i target) u 31 = gVal s u 31 - 8 ∧ (tileAt (doCall s u i target) u).thread.pc = target
    ∧ (tileAt (doCall s u i target) u).thread.depth = (tileAt s u).thread.depth + 1
    ∧ (tileAt (doCall s u i target) u).thread.stack
        = [(gVal s u 31 - 8, ⟨BitVec.ofNat 64 (((tileAt s u).thread.pc + i.len) % 2 ^ 17), false⟩)]
    ∧ (∀ r, r ≠ 31 → gReg (doCall s u i target) u r = gReg s u r) ∧ (tileAt (doCall s u i target) u).frame = (tileAt s u).frame := by
  have hsp : gVal s u 31 < 2 ^ 64 := BitVec.isLt _
  rw [doCall_of_empty hu hmask hstack hroom hin]
  simp only [gVal, gReg, modThread_tile _ hu, calledThread, hstack]
  refine ⟨?_, trivial, trivial, trivial, fun r hr => ?_, trivial⟩
  · rw [List.getD_eq_getElem?_getD, List.getElem?_set_self (by omega), Option.getD_some, BitVec.toNat_ofNat]
    exact Nat.mod_eq_of_lt (by simp only [gVal, gReg] at hsp; omega)
  · rw [List.getD_eq_getElem?_getD, List.getElem?_set_ne (Ne.symm hr), List.getD_eq_getElem?_getD]

/-! ### Returns (R108) -/

/-- A stack cache that holds the words a pop needs is not filled. -/
theorem fillStack_of_cached {base n : Nat} (h : n ≤ (tileAt s u).thread.stack.length) : fillStack s u base n = s := if_pos h

/-- The thread that a return to `ret` from a frame of its header word alone leaves, with g31 at `sp`. -/
def returnedThread (ret sp : Nat) (th : Thread) : Thread :=
  { th with g := th.g.set 31 ⟨BitVec.ofNat 64 sp, false⟩, pc := ret, depth := th.depth - 1, stack := th.stack.drop 1 }

/-- A return from a frame whose header word is cached and saved no register changes the thread alone. -/
theorem doRet_of_header {ret : Nat} (hu : u < s.tiles.length) (hdepth : (tileAt s u).thread.depth ≠ 0) (hret : ret < 2 ^ 17)
    (hstack : (tileAt s u).thread.stack = [(gVal s u 31, ⟨BitVec.ofNat 64 ret, false⟩)]) (hin : inRegion s u ret = true) :
    doRet s u = modThread s u (returnedThread ret (gVal s u 31 + 8)) := by
  have hfill : fillStack s u (gVal s u 31) 1 = s := fillStack_of_cached (by simp [hstack])
  have hword : stackWord s u (gVal s u 31) = ⟨BitVec.ofNat 64 ret, false⟩ := by simp [stackWord, hstack]
  have hval : (BitVec.ofNat 64 ret).toNat = ret := by simp only [BitVec.toNat_ofNat]; omega
  have hmask : bits ret 63 32 = 0 := by rw [bits_eq_div_mod]; omega
  have haddr : bits ret 16 0 = ret := by rw [bits_eq_div_mod]; omega
  simp only [doRet, if_neg hdepth, hfill, hword, hval, hmask, haddr, maskRegs_zero, List.length_nil, Nat.zero_add, Nat.mul_one, hin,
    Bool.not_true, Bool.false_eq_true, if_false, List.range_zero, List.foldl_nil, setG]
  rw [modThread_modThread _ _ hu]
  rfl

theorem callAndReturn : CallAndReturn := by
  intro u i s s1 h hu hlen
  refine ⟨fun hop hmask hbank hstack hroom hin => ⟨_, exec_call h hop, ?call⟩,
    fun hop hmask hbank hstack hg hroom hin => ⟨_, exec_callr h hop, ?callr⟩, fun hop hbank hlimit hvalid => ?limit,
    fun ret hop hdepth hret hstack hsp hin => ⟨_, exec_ret h hop, ?ret⟩⟩
  case call =>
    rw [runCall, if_neg (by simp [hbank])]
    exact doCall_leaves hu hlen hmask hstack hroom hin
  case callr =>
    rw [runCallr, if_neg (by simp [hbank]), consumeG_clean _ _ _ _ hg]
    obtain ⟨hg31, hpc, hdepth, -⟩ := doCall_leaves hu hlen hmask hstack hroom hin
    exact ⟨hg31, hpc, hdepth⟩
  case limit =>
    rw [exec_call h hop, runCall, if_neg (by simp [hbank]), doCall, if_pos hlimit, enterTrap_of_valid _ _ _ hvalid]
    rfl
  case ret =>
    rw [doRet_of_header hu (by omega) hret hstack hin]
    simp only [gVal, gReg, tileAt_kept, modThread_tile _ hu, returnedThread, hdepth, hstack]
    refine ⟨trivial, ?_, trivial, rfl, fun r hr => ?_⟩
    · rw [List.getD_eq_getElem?_getD, List.getElem?_set_self (by omega), Option.getD_some, BitVec.toNat_ofNat]
      exact Nat.mod_eq_of_lt hsp
    · rw [List.getD_eq_getElem?_getD, List.getElem?_set_ne (Ne.symm hr), List.getD_eq_getElem?_getD]

/-- Settles O16: control flow within the code region and the trap bank, and frames of the header word alone. -/
theorem controlInstructions : Obligations.ControlInstructions := ⟨controlFlow, callAndReturn⟩

end Sys2Proof.Machine
end

section
/-! PROOF. Loads, stores and atomic adds of the own frame (R80, R83, R91, R93). -/

namespace Sys2Proof.Machine

variable {s s1 : State} {u pa : Nat} {i : Ins}

/-- An aligned access of the own frame window passes the checks. -/
theorem checkAddr_own (k : Where → State) (hw : accWindow s u i = .own pa) (ha : effAddr s u i % accAlign i = 0) :
    checkAddr s u (effAddr s u i) (accBytes i) (accAlign i) k = k (.own pa) := by
  unfold checkAddr
  rw [← accWindow, hw]
  simp [ha]

section Own
variable (hg : cleanG s u [i.b]) (hw : accWindow s u i = .own pa) (ha : effAddr s u i % accAlign i = 0)
include hw ha

/-- An AADD of the own frame reads, adds and writes, and its register takes the old value. -/
theorem runAadd_own (hg2 : cleanG s u [i.b, i.c]) : runAadd u i s = advance (setG
    (frameWrite (frameRead s u pa (accBytes i)).1 u pa (accBytes i) (((frameRead s u pa (accBytes i)).2.1 + gVal s u i.c) % 2 ^ scalarW i)
      (frameRead s u pa (accBytes i)).2.2) u i.a (frameRead s u pa (accBytes i)).2.1 (frameRead s u pa (accBytes i)).2.2) u i := by
  rw [runAadd, consumeG_clean _ _ _ _ hg2, checkAddr_own _ hw ha]

include hg

/-- A load of the own frame writes what it reads, extended where it is a scalar. -/
theorem runLoad_own (sext : Bool) : runLoad u i sext s =
    if i.lead.vec then
      advance (setV (frameRead s u pa (accBytes i)).1 u i.a
        ⟨BitVec.ofNat 2048 (frameRead s u pa (accBytes i)).2.1, (frameRead s u pa (accBytes i)).2.2⟩) u i
    else
      advance (setG (frameRead s u pa (accBytes i)).1 u i.a
        (if sext then narrow 64 (signed (scalarW i) (frameRead s u pa (accBytes i)).2.1) else (frameRead s u pa (accBytes i)).2.1)
        (frameRead s u pa (accBytes i)).2.2) u i := by
  rw [runLoad, consumeG_clean _ _ _ _ hg, checkAddr_own _ hw ha]
  rfl

/-- A store of the own frame writes its register's bytes with their poison. -/
theorem runStore_own : runStore u i s =
    if i.lead.vec then
      advance (frameWriteWords s u pa 32 (vReg s u i.a).val.toNat (if (vReg s u i.a).poison then 2 ^ 32 - 1 else 0)) u i
    else advance (frameWrite s u pa (accBytes i) (gVal s u i.a) (gReg s u i.a).poison) u i := by
  rw [runStore, consumeG_clean _ _ _ _ hg, checkAddr_own _ hw ha]

end Own

/-- Settles O17: each access of the own frame, once its address passes the checks. -/
theorem ownFrameAccesses : Obligations.OwnFrameAccesses := by
  intro u pa i s s1 h hg hwin ha
  change accWindow s1 u i = .own pa at hwin
  have hbytes (hv : i.lead.vec = false) : accBytes i = scalarW i / 8 := if_neg (by simp [hv])
  have hbulk (hv : i.lead.vec = true) : accBytes i = 256 := if_pos hv
  refine ⟨fun hop hv => ?ld, fun hop hv => ?ldv, fun hop hv => ?lds, fun hop hv => ?st, fun hop hv => ?stv, fun hop hv hg2 => ?aadd⟩
  case ld => rw [exec_ld h hop, runLoad_own hg hwin ha, if_neg (by simp [hv]), hbytes hv, if_neg Bool.false_ne_true]
  case ldv => rw [exec_ld h hop, runLoad_own hg hwin ha, if_pos hv, hbulk hv]
  case lds => rw [exec_lds h hop, runLoad_own hg hwin ha, if_neg (by simp [hv]), hbytes hv, if_pos rfl]
  case st => rw [exec_st h hop, runStore_own hg hwin ha, hbytes hv, if_neg (by simp [hv])]
  case stv => rw [exec_st h hop, runStore_own hg hwin ha, if_pos hv]
  case aadd => rw [exec_aadd h hop, runAadd_own hwin ha hg2, hbytes hv]

end Sys2Proof.Machine
end

section
/-! PROOF. Instructions that wait, and nodes that are skipped or abandoned (R87, R93, R100, R101, R103, R105, R114, R246). -/

namespace Sys2Proof.Machine

variable {s s1 : State} {u : Nat} {i : Ins}

/-! ### The commands -/

theorem exec_take (h : Issues s u i s1) (hop : i.op = .take) : exec (.take u) s = .next (kept s (runTake u i s1)) :=
  settled_issue h (by simp [hop])

theorem exec_complete (h : Issues s u i s1) (hop : i.op = .complete) : exec (.complete u) s = .next (kept s (runComplete u i s1)) :=
  settled_issue h (by simp [hop])

theorem exec_lockstep (h : Issues s u i s1) (hop : i.op = .lockstep) : exec (.lockstep u) s = .next (kept s (runLockstep u i s1)) :=
  settled_issue h (by simp [hop])

theorem exec_waitev (h : Issues s u i s1) (hop : i.op = .waitev) : exec (.waitev u) s = .next (kept s (runWaitev u i s1)) :=
  settled_issue h (by simp [hop])

/-! ### TAKE and COMPLETE (R100, R101, R246) -/

/-- A request that is not cached leaves for its target with the tag that its thread notes, and the thread waits in block `b`. -/
theorem sendReq_waits (s : State) (o : OutReq) (b : Block) (hc : cachedOp o.body = false) (hu : u < s.tiles.length) :
    (modThread (sendReq s o) u (fun th => { th with block := some b })).net
        = s.net ++ [{ cls := 2, dest := o.target, src := rqId o.unit o.sub, part := o.part, tag := sendTag s o, body := o.body }]
    ∧ (tileAt (modThread (sendReq s o) u (fun th => { th with block := some b })) u).thread.block = some b := by
  obtain ⟨hnet, -, htiles⟩ := sendNow_spec s o
  rw [sendReq_plain s o hc]
  exact ⟨hnet, by rw [modThread_tile _ (by rw [htiles]; exact hu)]⟩

/-- The thread that goes on leaves the number of tiles. -/
theorem advance_length (s : State) (u : Nat) (i : Ins) : (advance s u i).tiles.length = s.tiles.length := modTile_length s u _

/-- A thread that goes on stands at the next instruction. -/
theorem advance_tile (hu : u < s.tiles.length) : tileAt (advance s u i) u
    = { tileAt s u with thread := { (tileAt s u).thread with pc := (tileAt s u).thread.pc + i.len } } := modThread_tile _ hu

/-- The report of a COMPLETE. -/
def completeReq (s : State) (u : Nat) (i : Ins) : OutReq :=
  { threadReq (tileAt s u) with
    unit := u, target := 0x301, use := .complete (gVal s u i.a % 2 ^ 32), body := .complete (gVal s u i.a % 2 ^ 32) (gVal s u i.b % 256) }

/-- A request whose tag window is open leaves at once. -/
theorem sendReq_open {o : OutReq} (h : windowOpen s (rqId o.unit o.sub) o.part o.target = true) : sendReq s o = sendNow s o := by
  simp [sendReq, h]

/-- The cancellation that a TAKE's limit sends. -/
def cancelReq (s : State) (u tag : Nat) : OutReq :=
  { unit := u, sub := 0, part := nodePart s u, target := 0x2C4 + standOf u, body := .takeCancel tag, use := .takeCancel tag }

theorem takeTimeout_of_late {rd tag lim : Nat} (hrun : tileRuns s u = true) (hblock : (tileAt s u).thread.block = some (.take rd tag (some lim) false))
    (hlim : lim ≤ tileNow s) : takeTimeout s u
    = modThread (sendReq s (cancelReq s u tag)) u (fun th => { th with block := some (.take rd tag (some lim) true) }) := by
  simp only [takeTimeout, hblock, hrun, Bool.not_true, Bool.false_or, decide_eq_true_eq, if_neg (Nat.not_lt.mpr hlim)]
  rfl

/-! ### WAITEV (R105) -/

/-- A wait whose selected bits are clear goes on. -/
theorem wakeEvent_of_clear {rd mask : Nat} {lim : Option Nat} (hblock : (tileAt s u).thread.block = some (.waitEv rd mask lim))
    (hclear : (tileAt s u).event &&& mask = 0) : wakeEvent s u = s := by
  simp only [wakeEvent, hblock, hclear, if_true]

/-- A wait of which a selected bit is set takes the set bits. -/
def woken (t : Tile) (rd mask : Nat) : Tile :=
  { t with
    event := t.event - (t.event &&& mask)
    thread := { t.thread with g := t.thread.g.set rd ⟨BitVec.ofNat 64 (t.event &&& mask), false⟩, block := none } }

theorem wakeEvent_of_set {rd mask : Nat} {lim : Option Nat} (hu : u < s.tiles.length)
    (hblock : (tileAt s u).thread.block = some (.waitEv rd mask lim)) (hset : (tileAt s u).event &&& mask ≠ 0) :
    wakeEvent s u = setTile s u (woken (tileAt s u) rd mask) := by
  have hlen (t : Tile) : u < (setTile s u t).tiles.length := by rw [setTile_length]; exact hu
  simp only [wakeEvent, hblock, if_neg hset, setG]
  rw [modThread_modThread _ _ (hlen _), modThread, modTile, tileAt_setTile_same _ _ _ hu, setTile_setTile]
  rfl

/-- The state in which WAITEV waits. -/
def waitingEv (s : State) (u : Nat) (i : Ins) : State := modThread (advance s u i) u (fun th => { th with
  block := some (.waitEv i.a (gVal s u i.b % 256) (if gVal s u i.c = 0 then none else some (tileNow s + gVal s u i.c))) })

theorem waitingEv_tile (hu : u < s.tiles.length) : tileAt (waitingEv s u i) u = { tileAt s u with thread := { (tileAt s u).thread with
    pc := (tileAt s u).thread.pc + i.len
    block := some (.waitEv i.a (gVal s u i.b % 256) (if gVal s u i.c = 0 then none else some (tileNow s + gVal s u i.c))) } } := by
  rw [waitingEv, modThread_tile _ (by rw [advance_length]; exact hu), advance_tile hu]

/-- WAITEV with a mask of the four event bits waits, unless one of its bits is set. -/
theorem runWaitev_legal (hg : cleanG s u [i.b, i.c]) (hmask : gVal s u i.b % 256 < 16) : runWaitev u i s = wakeEvent (waitingEv s u i) u := by
  rw [runWaitev, consumeG_clean _ _ _ _ hg]
  exact if_neg (Nat.not_le.mpr hmask)

theorem waitevTimeout_of_late {rd mask lim : Nat} (hrun : tileRuns s u = true)
    (hblock : (tileAt s u).thread.block = some (.waitEv rd mask (some lim))) (hlim : lim ≤ tileNow s) :
    waitevTimeout s u = modThread (setG s u rd 0 false) u (fun th => { th with block := none }) := by
  simp only [waitevTimeout, hblock, hrun, Bool.not_true, Bool.false_or, decide_eq_true_eq, if_neg (Nat.not_lt.mpr hlim)]

theorem waitingInstructions : WaitingInstructions := by
  refine ⟨fun u i s s1 h hu => ⟨fun hop hg => ⟨_, exec_take h hop, ?take⟩, fun hop hg hall hwin => ⟨_, exec_complete h hop, ?complete⟩,
    fun hop hin => ?lockstep, fun hop hg hmask hclear => ?clear, fun hop hg hmask hset ha => ⟨_, exec_waitev h hop, ?set⟩⟩,
    fun u rd mask lim s hrun hblock hlim => ?evLimit, fun u rd tag lim s hrun hblock hlim hu => ⟨_, settled_next _ _, ?takeLimit⟩⟩
  case take =>
    rw [runTake, consumeG_clean _ _ _ _ hg]
    exact ⟨_, sendReq_waits (advance s1 u i) _ _ rfl (by rw [advance_length]; exact hu)⟩
  case complete =>
    have hwin' : windowOpen s1 (rqId u 0) (nodeBinding (tileAt s1 u)).part 0x301 = true := hwin
    rw [runComplete, consumeG_clean _ _ _ _ hg]
    simp only [hall, hwin', Bool.not_true, Bool.or_self, Bool.false_eq_true, if_false]
    obtain ⟨hnet, -, htiles⟩ := sendNow_spec (advance s1 u i) (completeReq s1 u i)
    have hsend : sendReq (advance s1 u i) (completeReq s1 u i) = sendNow (advance s1 u i) (completeReq s1 u i) := sendReq_open hwin
    refine ⟨_, (congrArg State.net hsend).trans hnet, ?_⟩
    have htile : tileAt (sendReq (advance s1 u i) (completeReq s1 u i)) u = tileAt (advance s1 u i) u := by rw [hsend, tileAt, htiles, tileAt]
    exact (congrArg (fun t : Tile => t.thread.pc) htile).trans (by rw [advance_tile hu])
  case lockstep => rw [exec_lockstep h hop, runLockstep]; simp [hin]
  case clear =>
    rw [exec_waitev h hop, runWaitev_legal hg hmask, wakeEvent_of_clear (by rw [waitingEv_tile hu]) (by rw [waitingEv_tile hu]; exact hclear)]
    rfl
  case set =>
    have hlen : u < (waitingEv s1 u i).tiles.length := by rw [waitingEv, modThread, modTile_length, advance_length]; exact hu
    rw [runWaitev_legal hg hmask, wakeEvent_of_set hlen (by rw [waitingEv_tile hu]) (by rw [waitingEv_tile hu]; exact hset)]
    simp only [gReg, tileAt_kept, tileAt_setTile_same _ _ _ hlen, waitingEv_tile hu, woken]
    refine ⟨?_, trivial, trivial, trivial⟩
    rw [List.getD_eq_getElem?_getD, List.getElem?_set_self ha, Option.getD_some]
  case evLimit =>
    rw [← waitevTimeout_of_late hrun hblock hlim]
    rfl
  case takeLimit =>
    rw [takeTimeout_of_late hrun hblock hlim]
    obtain ⟨hnet, hwait⟩ := sendReq_waits s (cancelReq s u tag) (.take rd tag (some lim) true) rfl hu
    exact ⟨⟨_, hnet⟩, hwait⟩

/-! ### Skipped and abandoned nodes (R87, R93, R114) -/

/-- An instruction whose predicate is false only passes. -/
theorem issue_skips (want : NOp → Bool) (run : Ins → State → State) {p : Nat} {v : Bool} (hpred : i.lead.pred = some (p, v))
    (hp : pReg s u p = !v) (hw : want i.op = true) (htrap : trapOnly i.op = false) (hissue : canIssue s u = true)
    (hin : inRegion s u (tileAt s u).thread.pc = true)
    (hdec : decodeNode (ByteMem.rdBytes (tileAt s u).istore (tileAt s u).thread.pc
      (min 15 ((codeRegion (tileAt s u) (tileAt s u).thread.slot).2 - (tileAt s u).thread.pc))) = .ok i)
    (hfetch : fetchLines s u ((tileAt s u).thread.pc / 64) (((tileAt s u).thread.pc + i.len - 1) / 64 - (tileAt s u).thread.pc / 64 + 1) = (s, none)) :
    issue s u want run = advance s u i := by
  simp [issue, hissue, hin, hdec, hfetch, htrap, hw, hpred, hp]

/-- A record with a sub-requester that is left without an answer has ORPHAN set (Table 16.1). -/
theorem faultHead_orphan (kind reporter subject : Nat) (part : Option Nat) (o : Nat) :
    faultHead kind reporter subject part (some o) / 2 ^ 59 % 2 = 1 := by
  unfold faultHead
  cases part <;> simp only <;> omega

/-- The record of a node that is abandoned at its present instruction (R114, Table 16.2). -/
def abandonMsg (s : State) (u kind reg file : Nat) : FaultMsg :=
  ⟨now s % 2 ^ 64, faultHead kind (rqId u 0) u (some (nodePart s u)) (some 0),
    nodeAddr (tileAt s u).thread.pc (tileAt s u).thread.slot (nodeBinding (tileAt s u)).vtile reg file (tileAt s u).thread.trapBank,
    (tileAt s u).thread.itag.toNat⟩

/-- What a node that is abandoned leaves: an idle thread that keeps its registers and counts, and a record with ORPHAN set. -/
theorem abandonAt_leaves (kind reg file : Nat) (hu : u < s.tiles.length) :
    (tileAt (abandonAt s u kind reg file) u).thread
        = { endNode (tileAt s u).thread with abandoned := ((tileAt s u).thread.abandoned + 1) % 2 ^ 32 }
    ∧ ∃ m, (abandonAt s u kind reg file).flt.inbox = s.flt.inbox ++ [m] ∧ m.head % 1024 = kind % 1024 ∧ m.head / 2 ^ 59 % 2 = 1
      ∧ m.detail = (tileAt s u).thread.itag.toNat := by
  have hhead : (abandonMsg s u kind reg file).head = faultHead kind (rqId u 0) u (some (nodePart s u)) (some 0) := rfl
  refine ⟨?_, abandonMsg s u kind reg file, rfl, by rw [hhead, faultHead_kind], by rw [hhead, faultHead_orphan], rfl⟩
  rw [abandonAt, modThread_tile]
  · rfl
  · exact hu

/-- A poisoned first operand abandons the node. -/
theorem consumeG_poisoned {r : Nat} (rs : List Nat) (k : State → State) (h : (gReg s u r).poison = true) :
    consumeG s u (r :: rs) k = abandonAt s u Kind.poisonConsumed r 0 := by
  have hfind : (r :: rs).find? (fun r => (gReg s u r).poison) = some r := List.find?_cons_of_pos h
  rw [consumeG, hfind]

theorem skippedAndAbandoned : SkippedAndAbandoned := by
  refine ⟨fun u i s o p v hpred hp hop hissue hin hdec hfetch => ?skip, fun u i s s1 o h hop hv hu hpoison => ⟨_, exec_alu h hop, ?abandon⟩⟩
  case skip =>
    rw [exec_aluCmd, issue_skips _ _ hpred hp (by simp [hop]) (by rw [hop]; rfl) hissue hin hdec hfetch]
    rfl
  case abandon =>
    have hrun : runAlu u i o s1 = abandonAt s1 u Kind.poisonConsumed i.b 0 := by
      rw [runAlu, if_neg (by simp [hv]), consumeG_poisoned _ _ hpoison]
    obtain ⟨hth, m, hbox, hkind, horphan, hdetail⟩ := abandonAt_leaves Kind.poisonConsumed i.b 0 hu
    rw [hrun]
    beta_reduce
    rw [tileAt_kept, hth]
    exact ⟨rfl, rfl, rfl, m, hbox, hkind, horphan, hdetail⟩

/-- Settles O21: the waits and their ends, and the nodes that are skipped or abandoned. -/
theorem waitsAndNodeEnds : Obligations.WaitsAndNodeEnds := ⟨waitingInstructions, skippedAndAbandoned⟩

end Sys2Proof.Machine
end

section
/-! PROOF. Responses and repeats (R94, R252, R326, R333, R340, R343, R587): what an answer does to the request that it answers, said once for
each form of answer, and what the final answers of node code write. -/

namespace Sys2Proof.Machine

variable {s : State} {unit src part tag sub : Nat} {r : Resp} {o : OutReq}

/-! ### A response reaches its request (R333, R340) -/

theorem exec_responseArrival (s : State) (unit src part tag sub : Nat) (r : Resp) :
    exec (.responseArrival unit src part tag sub r) s = .next (kept s (responseArrival s unit src part tag sub r)) := rfl

theorem exec_memoryResponse (s : State) (unit src part tag : Nat) (r : Resp) :
    exec (.memoryResponse unit src part tag r) s = .next (kept s (memoryResponse s unit src part tag r)) := rfl

/-- A response that answers a wanted request is given to it. -/
theorem takeRsp_of_answer {want : Use → Bool} (stray : Bool) (h : AnswersTo s unit src part tag sub r o) (hwant : want o.use = true) :
    takeRsp s unit src part tag sub r want stray = answerReq (takePkt s (rspPkt unit src part tag sub r)) o r := by
  obtain ⟨hw, ha, ho⟩ := h
  simp only [takeRsp, hw, ha, ho, hwant, Bool.and_self, Bool.not_true, Bool.false_eq_true, if_false, if_true]

/-- One that answers nothing is counted and discarded. -/
theorem takeRsp_of_stray (want : Use → Bool) (hw : working s = true) (ha : arrivable s (rspPkt unit src part tag sub r) = true)
    (ho : matchOut s unit sub part tag (src / 4) r = none) : takeRsp s unit src part tag sub r want true
    = { takePkt s (rspPkt unit src part tag sub r) with noc := { s.noc with dupRsp := (s.noc.dupRsp + 1) % 2 ^ 32 } } := by
  simp only [takeRsp, hw, ha, ho, Bool.and_self, Bool.not_true, Bool.false_eq_true, if_false, if_true]
  rfl

/-- A final answer ends the request. -/
theorem answerReq_final (hwait : r ≠ .wait) (hbusy : ∀ h, r ≠ .busyRetry h) (habandon : r ≠ .refused 6) :
    answerReq s o r = flushWait (finalAnswer { s with outs := s.outs.erase o } o r) := by
  unfold answerReq
  split
  · exact absurd rfl hwait
  · exact absurd rfl (hbusy _)
  · exact absurd rfl habandon
  · rfl

/-- The end-to-end timer of a request that was told to wait; a TAKE waits without one (R246, R340). -/
def waitTimer (s : State) (o : OutReq) : Option Nat :=
  match o.use with
  | .take _ => none
  | _ => some (unitNow s o.unit + 256 * s.noc.timeout)

/-- A request that is told to wait stays outstanding. -/
theorem answerReq_wait (hdesc : ∀ rs k, o.use ≠ .desc rs k) : answerReq s o .wait
    = { s with outs := s.outs.map (fun x => if x = o then { x with waited := true, timer := waitTimer s o } else x) } := by
  cases huse : o.use
  case desc rs k => exact absurd huse (hdesc rs k)
  all_goals
    simp only [answerReq, waitTimer, huse]
    rfl

/-- A busy target is asked again after its hint, up to eight times (R94). -/
theorem answerReq_busy {hint : Nat} (h : o.busyN < 8) : answerReq s o (.busyRetry hint) = { s with
    outs := s.outs.erase o ++ [{ o with timer := none, busyAt := some (unitNow s o.unit + hint), busyN := o.busyN + 1 }] } :=
  if_neg (Nat.not_le.mpr h)

theorem answerReq_exhausted {hint : Nat} (h : 8 ≤ o.busyN) :
    answerReq s o (.busyRetry hint) = flushWait (busyExhausted { s with outs := s.outs.erase o } o hint) := if_pos h

/-- Every response that answers a request is given to it. -/
theorem exec_of_answer (h : AnswersTo s unit src part tag sub r o) : exec (.responseArrival unit src part tag sub r) s
    = .next (kept s (answerReq (takePkt s (rspPkt unit src part tag sub r)) o r)) := by
  rw [exec_responseArrival, responseArrival, takeRsp_of_answer true h rfl]

/-! ### Final answers of node code (R326, R587) -/

/-- A result word goes to the register of its instruction. -/
theorem finalAnswer_unblocks {rd : Nat} (huse : o.use = .result rd) (w : W64) : finalAnswer s o (.result w) = unblock s o rd w := by
  unfold finalAnswer
  rw [huse]

/-- Data go to the register of a load or of an AADD. -/
theorem finalAnswer_data (huse : (∃ rd w sext vec, o.use = .load rd w sext vec) ∨ ∃ rd w, o.use = .aadd rd w)
    (hr : (∃ x, r = .dataWord x) ∨ ∃ bs pz, r = .dataBytes bs pz) : finalAnswer s o r = memData s o r := by
  unfold finalAnswer
  obtain ⟨rd, w, sext, vec, huse⟩ | ⟨rd, w, huse⟩ := huse <;> rw [huse] <;> obtain ⟨x, rfl⟩ | ⟨bs, pz, rfl⟩ := hr <;> rfl

section Final
variable (hrun : issuerRuns s o = true)
include hrun

theorem unblock_of_running (rd : Nat) (w : W64) :
    unblock s o rd w = modThread (setG s o.unit rd w.toNat false) o.unit (fun th => { th with block := none }) := if_pos hrun

theorem memData_word {rd w : Nat} {sext vec : Bool} (huse : o.use = .load rd w sext vec) (x : PWord) : memData s o (.dataWord x)
    = modThread (setG s o.unit rd (if sext then narrow 64 (signed w ((x.val.toNat >>> (8 * reqLow o.body)) % 2 ^ w))
        else (x.val.toNat >>> (8 * reqLow o.body)) % 2 ^ w) x.poison) o.unit (fun th => { th with pendG := th.pendG.erase rd }) := by
  unfold memData
  rw [if_neg (by simp [hrun]), huse]

theorem memData_bulk {rd w : Nat} {sext : Bool} (huse : o.use = .load rd w sext true) (bs : List Byte) (pz : Nat) :
    memData s o (.dataBytes bs pz) = modThread (setV s o.unit rd ⟨BitVec.ofNat 2048 (leNat bs), decide (pz ≠ 0)⟩) o.unit
      (fun th => { th with pendV := th.pendV.erase rd }) := by
  unfold memData
  rw [if_neg (by simp [hrun]), huse]

theorem memData_aadd {rd w : Nat} (huse : o.use = .aadd rd w) (x : PWord) : memData s o (.dataWord x)
    = modThread (setG s o.unit rd (x.val.toNat % 2 ^ w) x.poison) o.unit (fun th => { th with pendG := th.pendG.erase rd }) := by
  unfold memData
  rw [if_neg (by simp [hrun]), huse]

end Final

/-! ### Repeats (R94, R252) -/

/-- Whether a request that was held busy is due for its repeat. -/
def busyDue (s : State) (unit : Nat) (o : OutReq) : Bool :=
  match o.busyAt with
  | some t => decide (t ≤ unitNow s unit)
  | none => false

/-- Whether a refused SPAWN is due for its repeat. -/
def spawnDue (s : State) (o : OutReq) : Bool :=
  (match o.use with
    | .spawn _ _ => true
    | _ => false) && (match o.againAt with
    | some t => decide (t ≤ tileNow s)
    | none => false)

theorem busyRetryRepeat_of_due {target : Nat} (hrun : unitRuns s unit = true)
    (hdue : outAtTag s unit sub part target tag (busyDue s unit) = some o) :
    busyRetryRepeat s unit sub part target tag = resend s o (fun o => { o with busyAt := none }) := by
  have heq : busyRetryRepeat s unit sub part target tag = (match outAtTag s unit sub part target tag (busyDue s unit) with
    | some o => if unitRuns s unit then resend s o (fun o => { o with busyAt := none }) else s
    | none => s) := rfl
  rw [heq, hdue]
  exact if_pos hrun

theorem spawnRepeat_of_due {target : Nat} (hrun : tileRuns s unit = true) (hdue : outAtTag s unit 0 part target tag (spawnDue s) = some o) :
    spawnRepeat s unit part target tag = resend s o (fun o => { o with againAt := none }) := by
  have heq : spawnRepeat s unit part target tag = (match outAtTag s unit 0 part target tag (spawnDue s) with
    | some o => if tileRuns s unit then resend s o (fun o => { o with againAt := none }) else s
    | none => s) := rfl
  rw [heq, hdue]
  exact if_pos hrun

/-- Settles O29: each form of answer through the request that it is given to, and the repeats that are due. -/
theorem responsesAndRepeats : Obligations.ResponsesAndRepeats := by
  refine ⟨fun s unit src part tag sub r o h => ⟨fun hwait hbusy habandon => ⟨?final, fun hsub hmem => ?memory⟩, fun hr => ?abandoned,
      fun hr hdesc => ?wait, fun hint hr => ⟨fun hn => ?busy, fun hn => ?exhausted⟩⟩,
    fun s o hrun => ⟨fun w rd huse => ?result, fun x rd w sext huse => ?word, fun bs pz rd w sext huse => ?bulk, fun x rd w huse => ?aadd⟩,
    fun s unit src part tag sub r hw ha ho => ?stray, fun s unit sub target q o hrun _ hdue => ?busyRepeat,
    fun s u target q o hrun _ hdue => ?spawnRepeat⟩
  case final =>
    rw [exec_of_answer h, answerReq_final hwait hbusy habandon]
    rfl
  case memory =>
    subst hsub
    rw [exec_memoryResponse, memoryResponse, takeRsp_of_answer false h hmem, answerReq_final hwait hbusy habandon]
    rfl
  case abandoned =>
    subst hr
    exact exec_of_answer h
  case wait =>
    subst hr
    rw [exec_of_answer h, answerReq_wait hdesc]
    rfl
  case busy =>
    subst hr
    rw [exec_of_answer h, answerReq_busy hn]
    rfl
  case exhausted =>
    subst hr
    rw [exec_of_answer h, answerReq_exhausted hn]
    rfl
  case result => rw [finalAnswer_unblocks huse, unblock_of_running hrun]
  case word => rw [finalAnswer_data (.inl ⟨_, _, _, _, huse⟩) (.inl ⟨x, rfl⟩), memData_word hrun huse]
  case bulk => rw [finalAnswer_data (.inl ⟨_, _, _, _, huse⟩) (.inr ⟨bs, pz, rfl⟩), memData_bulk hrun huse]
  case aadd => rw [finalAnswer_data (.inr ⟨_, _, huse⟩) (.inl ⟨x, rfl⟩), memData_aadd hrun huse]
  case stray =>
    rw [exec_responseArrival, responseArrival, takeRsp_of_stray _ hw ha ho]
    rfl
  case busyRepeat =>
    exact congrArg (fun t => Host.Outcome.next (kept s t)) (busyRetryRepeat_of_due hrun hdue)
  case spawnRepeat =>
    exact congrArg (fun t => Host.Outcome.next (kept s t)) (spawnRepeat_of_due hrun hdue)

end Sys2Proof.Machine
end

section
/-! PROOF. Memory requests at tiles (R323, R324, R326, R469, R474): how a request arrives, what its check answers, and what a read leaves. -/

namespace Sys2Proof.Machine

variable {s : State} {u ph kind n off w : Nat} {rq : Rq} {m : MemWord} {c : Instr} {b : Body}

/-! ### The targets of Table 11.10 -/

theorem memTarget_tile (hu : u < 0x110) (hsp : m.space = 0) : memTarget u m.space = some 0 := by simp [memTarget, isTile, hu, hsp]

/-- A bridge's unit identifier and number. -/
theorem bridgeOf_eq {k : Nat} (h : bridgeOf u = some k) : u = 0x381 ∨ u = 0x383 := by
  unfold bridgeOf at h
  split at h
  · next hu => exact .inl hu
  split at h
  · next hu => exact .inr hu
  · cases h

theorem memTarget_bridge {k : Nat} (h : bridgeOf u = some k) (hsp : m.space = 2) : memTarget u m.space = some 2 := by
  obtain rfl | rfl := bridgeOf_eq h <;> simp [memTarget, isTile, hsp]

/-! ### A request arrives at a tile -/

/-- A tile that serves a request takes its packet and evaluates it. -/
theorem arriveTile_served (h : TileServes s u ph rq b) (serve : Nat → State → State) :
    arriveTile s u rq b serve = serve ph (takePkt s (reqPkt u rq b)) := by
  obtain ⟨hw, -, ha, rfl, htest, hex, -⟩ := h
  have hex' : (tileAt (takePkt s (reqPkt u rq b)) (steer s u)).excluded = false := hex
  simp only [arriveTile, hw, htest, arriveReq_served _ ha, hex', Bool.not_true, Bool.or_self, Bool.false_eq_true, if_false]

/-- A quarantined tile drops it (R474). -/
theorem arriveTile_excluded (hw : working s = true) (ha : arrivable s (reqPkt u rq b) = true) (htest : (tileAt s (steer s u)).testing = false)
    (hex : (tileAt s (steer s u)).excluded = true) (serve : Nat → State → State) : arriveTile s u rq b serve = takePkt s (reqPkt u rq b) := by
  have hex' : (tileAt (takePkt s (reqPkt u rq b)) (steer s u)).excluded = true := hex
  simp only [arriveTile, hw, htest, arriveReq_served _ ha, hex', Bool.not_true, Bool.or_self, Bool.false_eq_true, if_false, if_true]

theorem tileAccess_pass (h : tileCheck (tileAt s u) rq.part m n = none) (k : Nat → State → State) :
    tileAccess s u rq m n k = k (slotPa (tileAt s u) m.slot m.off) s := by rw [tileAccess, h]

theorem tileAccess_refused {r : Nat} (h : tileCheck (tileAt s u) rq.part m n = some r) (k : Nat → State → State) :
    tileAccess s u rq m n k = tileRefuse s u rq r := by rw [tileAccess, h]

/-! ### The check (R326) -/

/-- A slot that is not bound, or bound for another partition, refuses with reason 1. -/
theorem tileCheck_unbound {t : Tile} {part : Nat} (h : (t.bindings.getD m.slot {}).valid = false ∨ (t.bindings.getD m.slot {}).part ≠ part) :
    tileCheck t part m n = some 1 := by
  refine if_pos ?_
  obtain h | h := h
  · rw [h]; rfl
  · rw [decide_eq_false h, Bool.and_false, Bool.not_false]

/-- A slot bound for the partition is compared with the request's generation and virtual tile, and then with its window. -/
theorem tileCheck_bound {t : Tile} {part : Nat} (hv : (t.bindings.getD m.slot {}).valid = true) (hp : (t.bindings.getD m.slot {}).part = part) :
    tileCheck t part m n = if (t.bindings.getD m.slot {}).vtile ≠ m.vtile ∨ (t.bindings.getD m.slot {}).gen ≠ m.gen then some 2
      else if 4096 * (t.vtFrame.getD m.slot {}).size < m.off + n then some 3 else none :=
  if_neg (by simp only [hv, hp, decide_true, Bool.and_self, Bool.not_true, Bool.false_eq_true, not_false_eq_true])

/-! ### Reads (R326, R469) -/

/-- What a read of a tile answers. -/
def answerRead (s : State) (u : Nat) (rq : Rq) (kind n pa : Nat) : State :=
  respond (tileRead s u pa n).1 u rq (memAnswer kind (tileRead s u pa n).2.1 (tileRead s u pa n).2.2)

theorem answerRead_eq {s1 : State} {bs : List Byte} {pz pa : Nat} (h : tileRead s u pa n = (s1, bs, pz)) :
    answerRead s u rq kind n pa = respond s1 u rq (memAnswer kind bs pz) := by rw [answerRead, h]

/-- The three reads at a tile check their window and answer what they read. -/
theorem exec_read_tile (hc : ReadCommand c b kind n off u rq m) (hsp : m.space = 0) (hu : u < 0x110) : exec c s
    = .next (kept s (arriveTile s u rq b (fun u s => tileAccess s u rq { m with off := off } n (fun pa s => answerRead s u rq kind n pa)))) := by
  have ht := memTarget_tile (m := m) hu hsp
  obtain ⟨rfl, rfl, rfl, rfl, rfl⟩ | ⟨rfl, rfl, rfl, rfl, rfl⟩ | ⟨rfl, rfl, rfl, rfl, rfl⟩ := hc
  · rw [show exec (.readWord u rq m) s = .next (kept s (memRead s u rq m 0 8 (.readWord m))) from rfl, memRead, ht]
    rfl
  · rw [show exec (.readLine u rq m) s = .next (kept s (memRead s u rq m 1 64 (.readLine m))) from rfl, memRead, ht]
    rfl
  · rw [show exec (.readBulk u rq m) s = .next (kept s (readBulk s u rq m)) from rfl, readBulk, ht]
    rfl

/-- What meeting a stored error leaves: the frame's bytes and the network; without one, everything. -/
theorem meetFrameErr_keeps (s : State) (u w : Nat) : (tileAt (meetFrameErr s u w) u).frame = (tileAt s u).frame ∧ (meetFrameErr s u w).net = s.net
    ∧ ((tileAt s u).frameErr = [] → meetFrameErr s u w = s) := by
  have hframe {t : Tile} (ht : t.frame = (tileAt s u).frame) : (tileAt (setTile s u t) u).frame = (tileAt s u).frame := by
    by_cases hu : u < s.tiles.length
    · rw [tileAt_setTile_same _ _ _ hu, ht]
    · rw [tileAt, setTile, List.set_eq_of_length_le (by omega), tileAt]
  have hnone (he : (tileAt s u).frameErr = []) : SMap.get 0 (tileAt s u).frameErr w = 0 := by rw [he]; rfl
  unfold meetFrameErr
  dsimp only
  split
  · exact ⟨rfl, rfl, fun _ => rfl⟩
  · next herr => exact ⟨hframe rfl, rfl, fun he => by rw [hnone he] at herr; cases herr⟩
  · next herr _ => exact ⟨hframe rfl, rfl, fun he => absurd (hnone he) herr⟩

theorem meetFrameErrs_keeps (n : Nat) (s : State) (u w : Nat) : (tileAt (meetFrameErrs s u w n) u).frame = (tileAt s u).frame
    ∧ (meetFrameErrs s u w n).net = s.net ∧ ((tileAt s u).frameErr = [] → meetFrameErrs s u w n = s) := by
  induction n generalizing s w with
  | zero => exact ⟨rfl, rfl, fun _ => rfl⟩
  | succ k ih =>
    obtain ⟨hframe, hnet, hsame⟩ := meetFrameErr_keeps s u w
    obtain ⟨hframes, hnets, hsames⟩ := ih (meetFrameErr s u w) (w + 1)
    rw [meetFrameErrs]
    refine ⟨hframes.trans hframe, hnets.trans hnet, fun he => ?_⟩
    rw [hsame he] at hsames ⊢
    exact hsames he

/-! ### Refusals (R326) -/

theorem tileRefuse_spec (s : State) (u r : Nat) (rq : Rq) : (tileRefuse s u rq r).tiles = s.tiles
    ∧ (tileRefuse s u rq r).net = s.net ++ [rspOf u rq (.refused r)] ∧ (r ≠ 2 → (tileRefuse s u rq r).flt = s.flt)
    ∧ (r = 2 → ∃ g, (tileRefuse s u rq r).flt.inbox = s.flt.inbox ++ [g] ∧ g.head % 1024 = Kind.stalePlacement) := by
  unfold tileRefuse
  split
  · next hr =>
    have hhead := faultHead_kind Kind.stalePlacement (rqId u 0) (rqId u 0 / 4) (some rq.part) none
    exact ⟨rfl, rfl, fun h => absurd hr h, fun _ => ⟨_, rfl, hhead⟩⟩
  · next hr => exact ⟨rfl, rfl, fun _ => rfl, fun h => absurd h hr⟩

/-! ### The writes -/

theorem exec_writeWord_tile (x : PWord) (hsp : m.space = 0) (hu : u < 0x110) : exec (.writeWord u rq m w x) s
    = .next (kept s (arriveTile s u rq (.writeWord m w x) (fun u s => tileAccess s u rq m (w / 8) (fun pa s =>
        respond (frameWrite s u pa (w / 8) x.val.toNat x.poison) u rq (.writeAck 1))))) := by
  rw [show exec (.writeWord u rq m w x) s = .next (kept s (writeWord s u rq m w x)) from rfl, writeWord, memTarget_tile hu hsp]
  rfl

/-- What an AADD at a tile answers: the word gains the addend, and the old value is answered (R91). -/
def answerAadd (s : State) (u : Nat) (rq : Rq) (w : Nat) (x : W64) (pa : Nat) : State :=
  respond (frameWrite (tileRead s u pa (w / 8)).1 u pa (w / 8) ((leNat (tileRead s u pa (w / 8)).2.1 + x.toNat) % 2 ^ w)
    (decide ((tileRead s u pa (w / 8)).2.2 ≠ 0))) u rq
    (.dataWord ⟨BitVec.ofNat 64 (leNat (tileRead s u pa (w / 8)).2.1), decide ((tileRead s u pa (w / 8)).2.2 ≠ 0)⟩)

theorem answerAadd_eq {s1 : State} {bs : List Byte} {pz pa : Nat} {x : W64} (h : tileRead s u pa (w / 8) = (s1, bs, pz)) : answerAadd s u rq w x pa
    = respond (frameWrite s1 u pa (w / 8) ((leNat bs + x.toNat) % 2 ^ w) (decide (pz ≠ 0))) u rq
        (.dataWord ⟨BitVec.ofNat 64 (leNat bs), decide (pz ≠ 0)⟩) := by rw [answerAadd, h]

theorem exec_aadd_tile (x : W64) (hsp : m.space = 0) (hu : u < 0x110) : exec (.aaddRequest u rq m w x) s
    = .next (kept s (arriveTile s u rq (.aadd m w x) (fun u s => tileAccess s u rq m (w / 8) (fun pa s => answerAadd s u rq w x pa)))) := by
  rw [show exec (.aaddRequest u rq m w x) s = .next (kept s (aaddRequest s u rq m w x)) from rfl, aaddRequest, memTarget_tile hu hsp]
  rfl

/-- A line write at a tile: the lines where they pass, and the refusal where they do not. -/
def serveLines (rq : Rq) (line n : Nat) (data : List Byte) (poison u : Nat) (s : State) : State :=
  match tileLineCheck (tileAt s u) rq.part line n with
  | some r => tileRefuse s u rq r
  | none => respond (frameWriteWords s u (slotPa (tileAt s u) (line / 2 ^ 16) (64 * (line % 2 ^ 14))) (8 * n) (leNat data) poison) u rq (.writeAck n)

theorem serveLines_pass {line : Nat} (h : tileLineCheck (tileAt s u) rq.part line n = none) (data : List Byte) (poison : Nat) :
    serveLines rq line n data poison u s = respond (frameWriteWords s u (slotPa (tileAt s u) (line / 2 ^ 16) (64 * (line % 2 ^ 14))) (8 * n)
      (leNat data) poison) u rq (.writeAck n) := by rw [serveLines, h]

theorem serveLines_refused {line r : Nat} (h : tileLineCheck (tileAt s u) rq.part line n = some r) (data : List Byte) (poison : Nat) :
    serveLines rq line n data poison u s = tileRefuse s u rq r := by rw [serveLines, h]

theorem exec_lineWrite_tile (line xfer poison : Nat) (bulk : Bool) (data : List Byte) (hu : u < 0x110) :
    exec (.lineWrite u rq line xfer bulk data poison) s = .next (kept s (arriveTile s u rq (.lineWrite line xfer bulk data poison)
      (serveLines rq line (if bulk then 4 else 1) data poison))) := by
  rw [show exec (.lineWrite u rq line xfer bulk data poison) s = .next (kept s (lineWrite s u rq line xfer bulk data poison)) from rfl, lineWrite,
    if_pos (show isTile u = true from decide_eq_true hu)]
  rfl

theorem tileMemoryRequests : TileMemoryRequests := by
  refine ⟨fun s u ph kind n off rq m c b hc hsp h => ⟨fun s1 bs pz hk hread => ?read, fun r hk => ?readRefused⟩,
    fun s s1 u pa n pz bs hread => ?bytes, fun s u ph w rq m x hsp h => ⟨fun s1 bs pz hk hread => ?aadd, fun r hk => ?aaddRefused⟩,
    fun s u ph w rq m x hsp h => ⟨fun hk => ?write, fun r hk => ?writeRefused⟩,
    fun s u ph line xfer poison n bulk rq data h hn => ⟨fun hk => ?line, fun r hk => ?lineRefused⟩,
    fun s u r rq => tileRefuse_spec s u r rq,
    fun t part n m => ⟨tileCheck_unbound, fun hv hp => ⟨fun hbad => ?stale, fun hg hvt => ?window⟩⟩,
    fun s u kind n off rq m c b hw hu ha htest hex hc => ?excluded⟩
  case read =>
    rw [exec_read_tile hc hsp h.2.1, arriveTile_served h, tileAccess_pass (s := takePkt s (reqPkt u rq b)) hk]
    exact congrArg (fun t => Host.Outcome.next (kept s t)) (answerRead_eq hread)
  case readRefused => rw [exec_read_tile hc hsp h.2.1, arriveTile_served h, tileAccess_refused (s := takePkt s (reqPkt u rq b)) hk]
  case bytes =>
    obtain ⟨hframe, hnet, hsame⟩ := meetFrameErrs_keeps (wordsOf pa n) s u (pa / 8)
    cases hread
    exact ⟨by rw [hframe], hframe, hnet, fun he => ⟨hsame he, by rw [hsame he]⟩⟩
  case aadd =>
    rw [exec_aadd_tile x hsp h.2.1, arriveTile_served h, tileAccess_pass (s := takePkt s (reqPkt u rq (.aadd m w x))) hk]
    exact congrArg (fun t => Host.Outcome.next (kept s t)) (answerAadd_eq hread)
  case aaddRefused => rw [exec_aadd_tile x hsp h.2.1, arriveTile_served h, tileAccess_refused (s := takePkt s (reqPkt u rq (.aadd m w x))) hk]
  case write =>
    rw [exec_writeWord_tile x hsp h.2.1, arriveTile_served h, tileAccess_pass (s := takePkt s (reqPkt u rq (.writeWord m w x))) hk]
    rfl
  case writeRefused =>
    rw [exec_writeWord_tile x hsp h.2.1, arriveTile_served h, tileAccess_refused (s := takePkt s (reqPkt u rq (.writeWord m w x))) hk]
  case line =>
    subst hn
    rw [exec_lineWrite_tile line xfer poison bulk data h.2.1, arriveTile_served h,
      serveLines_pass (s := takePkt s (reqPkt u rq (.lineWrite line xfer bulk data poison))) hk]
    rfl
  case lineRefused =>
    subst hn
    rw [exec_lineWrite_tile line xfer poison bulk data h.2.1, arriveTile_served h,
      serveLines_refused (s := takePkt s (reqPkt u rq (.lineWrite line xfer bulk data poison))) hk]
  case stale => rw [tileCheck_bound hv hp, if_pos hbad.symm]
  case window =>
    rw [tileCheck_bound hv hp, if_neg (by simp only [hg, hvt, ne_eq, not_true, or_self, not_false_eq_true])]
    by_cases hfit : m.off + n ≤ 4096 * (t.vtFrame.getD m.slot {}).size
    · rw [if_neg (Nat.not_lt.mpr hfit), if_pos hfit]
    · rw [if_pos (Nat.not_le.mp hfit), if_neg hfit]
  case excluded =>
    obtain ⟨hc, hsp⟩ | ⟨w, x, rfl, rfl, hsp⟩ | ⟨w, x, rfl, rfl, hsp⟩ | ⟨l, x, bk, d, p, rfl, rfl⟩ := hc
    · rw [exec_read_tile hc hsp hu, arriveTile_excluded hw ha htest hex]
    · rw [exec_writeWord_tile x hsp hu, arriveTile_excluded hw ha htest hex]
    · rw [exec_aadd_tile x hsp hu, arriveTile_excluded hw ha htest hex]
    · rw [exec_lineWrite_tile l x p bk d hu, arriveTile_excluded hw ha htest hex]

end Sys2Proof.Machine
end

section
/-! PROOF. Memory requests at stand buffers (R199, R323, R326): how a request arrives at its slice, and what reads and writes leave of the
buffer. -/

namespace Sys2Proof.Machine

/-! ### Sets of marked words -/

/-- A number added to a set is in it. -/
theorem NSet.has_add (x : NSet) (a : Nat) : NSet.has (NSet.add x a) a = true := by
  unfold NSet.has
  induction x with
  | nil => simp [NSet.add]
  | cons k t ih =>
    rw [NSet.add]
    split
    · next h => simp [h]
    split
    · simp
    · simp only [List.contains_cons, ih, Bool.or_true]

/-- A number removed is not. -/
theorem NSet.has_del (x : NSet) (a : Nat) : NSet.has (NSet.del x a) a = false := by simp [NSet.has, NSet.del]

variable {s : State} {k kind n off w : Nat} {rq : Rq} {m : MemWord} {c : Instr} {b : Body}

/-! ### A request arrives at its slice -/

theorem memTarget_stand (hk : k < 4) (hsp : m.space = 1) : memTarget (0x2CC + k) m.space = some 1 := by
  have hu : ¬ 0x2CC + k < 0x110 := by omega
  have hb : 0x2CC ≤ 0x2CC + k ∧ 0x2CC + k < 0x2D0 := by omega
  simp [memTarget, isTile, hu, hb, hsp]

/-- A stand buffer's number from its unit identifier. -/
theorem standNumber (k : Nat) : 0x2CC + k - 0x2CC = k := by omega

/-- A packet that leaves the network changes no buffer. -/
theorem stsAt_takePkt (s : State) (p : Packet) (k : Nat) : stsAt (takePkt s p) k = stsAt s k := rfl

section Arrives
variable (h : StandTakes s k rq b)
include h

theorem arriveSts_held (hheld : sliceHeld (stsAt s k) rq.part off = true) (serve : State → State) :
    arriveSts s k rq b off serve = serve (takePkt s (reqPkt (0x2CC + k) rq b)) := by
  obtain ⟨hw, -, hslice, ha, -⟩ := h
  rw [arriveSts, if_neg (by simp [hw, hslice]), arriveReq_served _ ha]
  exact if_pos hheld

theorem arriveSts_refused (hheld : sliceHeld (stsAt s k) rq.part off = false) (serve : State → State) :
    arriveSts s k rq b off serve = respond (takePkt s (reqPkt (0x2CC + k) rq b)) (0x2CC + k) rq (.refused 4) := by
  obtain ⟨hw, -, hslice, ha, -⟩ := h
  rw [arriveSts, if_neg (by simp [hw, hslice]), arriveReq_served _ ha]
  exact if_neg (ne_true_of_eq_false hheld)

end Arrives

/-! ### What stays of a buffer -/

theorem stsAt_setSts_same (x : Sts) (hk : k < s.sts.length) : stsAt (setSts s k x) k = x := by simp [stsAt, setSts, hk]

theorem stsAt_setSts_other (x : Sts) {j : Nat} (hj : j ≠ k) : stsAt (setSts s k x) j = stsAt s j := by simp [stsAt, setSts, Ne.symm hj]

theorem setSts_length (s : State) (k : Nat) (x : Sts) : (setSts s k x).sts.length = s.sts.length := by simp [setSts]

/-- What meeting stored errors leaves: the bytes and the counted lines of buffer `k`, the other buffers and the tiles; without an error, the
whole state. -/
structure StsKept (s t : State) (k : Nat) : Prop where
  mem : (stsAt t k).mem = (stsAt s k).mem
  reads : (stsAt t k).readLines = (stsAt s k).readLines
  same : (stsAt s k).err = [] → t = s
  other : ∀ j, j ≠ k → stsAt t j = stsAt s j
  tiles : t.tiles = s.tiles
  length : t.sts.length = s.sts.length

theorem StsKept.refl (s : State) (k : Nat) : StsKept s s k := ⟨rfl, rfl, fun _ => rfl, fun _ _ => rfl, rfl, rfl⟩

theorem StsKept.trans {t x : State} (h : StsKept s t k) (h' : StsKept t x k) : StsKept s x k where
  mem := h'.mem.trans h.mem
  reads := h'.reads.trans h.reads
  same he := by
    have ht := h.same he
    rw [← ht]
    exact h'.same (by rw [ht]; exact he)
  other j hj := (h'.other j hj).trans (h.other j hj)
  tiles := h'.tiles.trans h.tiles
  length := h'.length.trans h.length

/-- A met error is a changed buffer and a record. -/
theorem stsKept_met {x : Sts} (hk : k < s.sts.length) (hm : x.mem = (stsAt s k).mem) (hr : x.readLines = (stsAt s k).readLines)
    (he : (stsAt s k).err ≠ []) (kind reporter : Nat) (part : Option Nat) (addr detail : Nat) :
    StsKept s (raise (setSts s k x) kind reporter part addr detail) k where
  mem := (congrArg Sts.mem (stsAt_setSts_same x hk)).trans hm
  reads := (congrArg Sts.readLines (stsAt_setSts_same x hk)).trans hr
  same h := absurd h he
  other _ hj := stsAt_setSts_other x hj
  tiles := rfl
  length := setSts_length s k x

theorem meetStsErr_kept (hk : k < s.sts.length) (w : Nat) : StsKept s (meetStsErr s k w) k := by
  have hsome {v : Nat} (hget : SMap.get 0 (stsAt s k).err w = v) (hv : v ≠ 0) : (stsAt s k).err ≠ [] := fun he => by
    rw [he] at hget
    exact hv hget.symm
  unfold meetStsErr
  dsimp only
  split
  · exact StsKept.refl s k
  · next hget => exact stsKept_met hk (by rfl) (by rfl) (hsome hget Nat.one_ne_zero) _ _ _ _ _
  · next hget _ => exact stsKept_met hk (by rfl) (by rfl) (hsome rfl hget) _ _ _ _ _

theorem meetStsErrs_kept (n : Nat) {s : State} (hk : k < s.sts.length) (w : Nat) : StsKept s (meetStsErrs s k w n) k := by
  induction n generalizing s w with
  | zero => exact StsKept.refl s k
  | succ j ih =>
    have hone := meetStsErr_kept hk w
    exact hone.trans (ih (by rw [hone.length]; exact hk) (w + 1))

/-- A read gives the buffer's bytes and marks and counts its lines. -/
theorem stsRead_spec (hk : k < s.sts.length) (a n : Nat) :
    (stsRead s k a n).2.1 = ByteMem.rdBytes (stsAt s k).mem a n ∧ (stsAt (stsRead s k a n).1 k).mem = (stsAt s k).mem
    ∧ (stsAt (stsRead s k a n).1 k).readLines = ((stsAt s k).readLines + linesOf a n) % 2 ^ 32
    ∧ ((stsAt s k).err = [] → (stsRead s k a n).2.2 = poisonBits (stsAt s k).poison (a / 8) (wordsOf a n)) := by
  have hmet := meetStsErrs_kept (wordsOf a n) hk (a / 8)
  have hat (x : Sts) : stsAt (setSts (meetStsErrs s k (a / 8) (wordsOf a n)) k x) k = x := stsAt_setSts_same x (by rw [hmet.length]; exact hk)
  simp only [stsRead, hat, hmet.mem, hmet.reads]
  exact ⟨trivial, trivial, trivial, fun he => by rw [hmet.same he]⟩

/-- A write of a word or a part of one. -/
theorem stsWriteWord_spec (hk : k < s.sts.length) (a : Nat) (bs : List Byte) (p : Bool) :
    (stsAt (stsWriteWord s k a bs p) k).mem = ByteMem.wrBytes (stsAt s k).mem a bs
    ∧ (bs.length = 8 → NSet.has (stsAt (stsWriteWord s k a bs p) k).poison (a / 8) = p)
    ∧ (p = true → NSet.has (stsAt (stsWriteWord s k a bs p) k).poison (a / 8) = true)
    ∧ (stsWriteWord s k a bs p).tiles = s.tiles ∧ ∀ j, j ≠ k → stsAt (stsWriteWord s k a bs p) j = stsAt s j := by
  have hmet : StsKept s (if bs.length = 8 then s else meetStsErr s k (a / 8)) k := by
    split
    · exact StsKept.refl s k
    · exact meetStsErr_kept hk (a / 8)
  have hlen : k < (if bs.length = 8 then s else meetStsErr s k (a / 8)).sts.length := by rw [hmet.length]; exact hk
  refine ⟨?mem, fun h8 => ?whole, fun hp => ?part, hmet.tiles, fun j hj => (stsAt_setSts_other _ hj).trans (hmet.other j hj)⟩
  all_goals simp only [stsWriteWord, stsAt_setSts_same _ hlen]
  case mem => rw [hmet.mem]
  case whole =>
    cases p with
    | true => simp only [h8, if_true, NSet.has_add]
    | false => simp only [h8, if_true, Bool.false_eq_true, if_false, NSet.has_del]
  case part => simp only [hp, Bool.true_or, ite_self, if_true, NSet.has_add]

/-! ### The commands -/

/-- What a read of a stand buffer answers. -/
def answerStsRead (s : State) (k : Nat) (rq : Rq) (kind n off : Nat) : State :=
  respond (stsRead s k off n).1 (0x2CC + k) rq (memAnswer kind (stsRead s k off n).2.1 (stsRead s k off n).2.2)

theorem answerStsRead_eq {s1 : State} {bs : List Byte} {pz : Nat} (h : stsRead s k off n = (s1, bs, pz)) :
    answerStsRead s k rq kind n off = respond s1 (0x2CC + k) rq (memAnswer kind bs pz) := by rw [answerStsRead, h]

/-- The three reads at a stand buffer; a bulk read asks for its last byte's slice too. -/
theorem exec_read_stand (hc : ReadCommand c b kind n off (0x2CC + k) rq m) (hsp : m.space = 1) (hk : k < 4) : exec c s
    = .next (kept s (arriveSts s k rq b m.off (fun s =>
        if kind = 2 ∧ sliceHeld (stsAt s k) rq.part (m.off + 255) = false then respond s (0x2CC + k) rq (.refused 4)
        else answerStsRead s k rq kind n off))) := by
  have ht := memTarget_stand (m := m) hk hsp
  obtain ⟨rfl, rfl, rfl, rfl, rfl⟩ | ⟨rfl, rfl, rfl, rfl, rfl⟩ | ⟨rfl, rfl, rfl, rfl, rfl⟩ := hc
  · rw [show exec (.readWord (0x2CC + k) rq m) s = .next (kept s (memRead s (0x2CC + k) rq m 0 8 (.readWord m))) from rfl, memRead, ht]
    simp only [standNumber, OfNat.zero_ne_ofNat, false_and, if_false]
    rfl
  · rw [show exec (.readLine (0x2CC + k) rq m) s = .next (kept s (memRead s (0x2CC + k) rq m 1 64 (.readLine m))) from rfl, memRead, ht]
    simp only [standNumber, OfNat.one_ne_ofNat, false_and, if_false]
    rfl
  · rw [show exec (.readBulk (0x2CC + k) rq m) s = .next (kept s (readBulk s (0x2CC + k) rq m)) from rfl, readBulk, ht]
    simp only [standNumber, true_and, Bool.not_eq_true']
    rfl

theorem exec_writeWord_stand (x : PWord) (hsp : m.space = 1) (hk : k < 4) : exec (.writeWord (0x2CC + k) rq m w x) s
    = .next (kept s (arriveSts s k rq (.writeWord m w x) m.off (fun s =>
        respond (countWrites (stsWriteWord s k m.off (leBytes (w / 8) x.val.toNat) x.poison) k 1) (0x2CC + k) rq (.writeAck 1)))) := by
  rw [show exec (.writeWord (0x2CC + k) rq m w x) s = .next (kept s (writeWord s (0x2CC + k) rq m w x)) from rfl, writeWord,
    memTarget_stand hk hsp]
  simp only [standNumber]

/-- What an AADD at a stand buffer answers. -/
def answerStsAadd (s : State) (k : Nat) (rq : Rq) (w : Nat) (x : W64) (off : Nat) : State :=
  respond (countWrites (stsWriteWord (stsRead s k off (w / 8)).1 k off (leBytes (w / 8) ((leNat (stsRead s k off (w / 8)).2.1 + x.toNat) % 2 ^ w))
    (decide ((stsRead s k off (w / 8)).2.2 ≠ 0))) k 1) (0x2CC + k) rq
    (.dataWord ⟨BitVec.ofNat 64 (leNat (stsRead s k off (w / 8)).2.1), decide ((stsRead s k off (w / 8)).2.2 ≠ 0)⟩)

theorem answerStsAadd_eq {s1 : State} {bs : List Byte} {pz : Nat} {x : W64} (h : stsRead s k off (w / 8) = (s1, bs, pz)) :
    answerStsAadd s k rq w x off = respond (countWrites (stsWriteWord s1 k off (leBytes (w / 8) ((leNat bs + x.toNat) % 2 ^ w)) (decide (pz ≠ 0))) k 1)
      (0x2CC + k) rq (.dataWord ⟨BitVec.ofNat 64 (leNat bs), decide (pz ≠ 0)⟩) := by rw [answerStsAadd, h]

theorem exec_aadd_stand (x : W64) (hsp : m.space = 1) (hk : k < 4) : exec (.aaddRequest (0x2CC + k) rq m w x) s
    = .next (kept s (arriveSts s k rq (.aadd m w x) m.off (fun s => answerStsAadd s k rq w x m.off))) := by
  rw [show exec (.aaddRequest (0x2CC + k) rq m w x) s = .next (kept s (aaddRequest s (0x2CC + k) rq m w x)) from rfl, aaddRequest,
    memTarget_stand hk hsp]
  simp only [standNumber]
  rfl

/-- A line write at a stand buffer: the lines within a slice, and the refusal of those that leave it. -/
def serveStsLines (k : Nat) (rq : Rq) (line n : Nat) (data : List Byte) (poison : Nat) (s : State) : State :=
  if sliceHeld (stsAt s k) rq.part (64 * (line + n) - 1) then
    respond (countWrites (stsWriteWords s k (64 * line) (8 * n) data poison) k n) (0x2CC + k) rq (.writeAck n)
  else respond s (0x2CC + k) rq (.refused 4)

theorem exec_lineWrite_stand (line xfer poison : Nat) (bulk : Bool) (data : List Byte) (hk : k < 4) :
    exec (.lineWrite (0x2CC + k) rq line xfer bulk data poison) s = .next (kept s (arriveSts s k rq (.lineWrite line xfer bulk data poison) (64 * line)
      (serveStsLines k rq line (if bulk then 4 else 1) data poison))) := by
  have hu : ¬ isTile (0x2CC + k) = true := by simp only [isTile, decide_eq_true_eq]; omega
  have hb : 0x2CC ≤ 0x2CC + k ∧ 0x2CC + k < 0x2D0 := by omega
  have hserve : serveStsLines k rq line (if bulk then 4 else 1) data poison = (fun s =>
      if !(sliceHeld (stsAt s k) rq.part (64 * (line + (if bulk then 4 else 1)) - 1)) then respond s (0x2CC + k) rq (.refused 4)
      else respond (countWrites (stsWriteWords s k (64 * line) (8 * (if bulk then 4 else 1)) data poison) k (if bulk then 4 else 1)) (0x2CC + k) rq
        (.writeAck (if bulk then 4 else 1))) := funext fun s => by
    unfold serveStsLines
    cases sliceHeld (stsAt s k) rq.part (64 * (line + (if bulk then 4 else 1)) - 1) <;> rfl
  rw [show exec (.lineWrite (0x2CC + k) rq line xfer bulk data poison) s = .next (kept s (lineWrite s (0x2CC + k) rq line xfer bulk data poison)) from rfl,
    lineWrite, if_neg hu, if_pos hb, standNumber, hserve]

theorem standRequests : StandRequests := by
  refine ⟨fun s k kind n off rq m c b hc hsp h => ⟨fun s1 bs pz hheld hlast hread => ?read, fun hbad => ?readRefused⟩,
    fun s s1 k a n pz bs hread hk => ?bytes, fun s k w rq m x hsp h => ⟨fun s1 bs pz hheld hread => ?aadd, fun hheld => ?aaddRefused⟩,
    fun s k w rq m x hsp h => ⟨fun hheld => ?write, fun hheld => ?writeRefused⟩, fun s k a bs p hk => stsWriteWord_spec hk a bs p,
    fun s k line xfer poison n bulk rq data h hn => ⟨fun hheld hlast => ?line, fun hbad => ?lineRefused⟩⟩
  case read =>
    rw [exec_read_stand hc hsp h.2.1, arriveSts_held h hheld, stsAt_takePkt,
      if_neg (fun ⟨hkind, hno⟩ => Bool.false_ne_true (hno.symm.trans (hlast hkind)))]
    exact congrArg (fun t => Host.Outcome.next (kept s t)) (answerStsRead_eq hread)
  case readRefused =>
    rw [exec_read_stand hc hsp h.2.1]
    cases hheld : sliceHeld (stsAt s k) rq.part m.off with
    | false => rw [arriveSts_refused h hheld]
    | true =>
      rw [hheld] at hbad
      rw [arriveSts_held h hheld, stsAt_takePkt, if_pos (hbad.resolve_left nofun)]
  case bytes =>
    have hspec := stsRead_spec hk a n
    rw [hread] at hspec
    exact hspec
  case aadd =>
    rw [exec_aadd_stand x hsp h.2.1, arriveSts_held h hheld]
    exact congrArg (fun t => Host.Outcome.next (kept s t)) (answerStsAadd_eq hread)
  case aaddRefused => rw [exec_aadd_stand x hsp h.2.1, arriveSts_refused h hheld]
  case write => rw [exec_writeWord_stand x hsp h.2.1, arriveSts_held h hheld]
  case writeRefused => rw [exec_writeWord_stand x hsp h.2.1, arriveSts_refused h hheld]
  case line =>
    subst hn
    rw [exec_lineWrite_stand line xfer poison bulk data h.2.1, arriveSts_held h hheld]
    exact congrArg (fun t => Host.Outcome.next (kept s t)) (if_pos hlast)
  case lineRefused =>
    subst hn
    rw [exec_lineWrite_stand line xfer poison bulk data h.2.1]
    cases hheld : sliceHeld (stsAt s k) rq.part (64 * line) with
    | false => rw [arriveSts_refused h hheld]
    | true =>
      rw [hheld] at hbad
      rw [arriveSts_held h hheld]
      exact congrArg (fun t => Host.Outcome.next (kept s t)) (if_neg (ne_true_of_eq_false (hbad.resolve_left nofun)))

end Sys2Proof.Machine
end

section
/-! PROOF. Memory requests at bridges (R323, R325, R326), requests that their target does not serve, and events (R105). -/

namespace Sys2Proof.Machine

variable {s : State} {u k kind n off w : Nat} {rq : Rq} {m : MemWord} {c : Instr} {b : Body}

/-! ### A request arrives at a bridge -/

/-- A bridge takes requests as the other work units do: while the core clock runs, outside Safe. -/
theorem arriveBridge_served (hw : working s = true) (ha : arrivable s (reqPkt u rq b) = true) (serve : State → State) :
    (if !(clocked s) || inSafe s then s else arriveReq s u rq b serve) = serve (takePkt s (reqPkt u rq b)) := by
  obtain ⟨hclk, hsafe⟩ : clocked s = true ∧ inSafe s = false := by simpa [working] using hw
  simp only [hclk, hsafe, Bool.not_true, Bool.or_self, Bool.false_eq_true, if_false, arriveReq_served _ ha]

/-- The three reads at a bridge. -/
theorem exec_read_bridge (hc : ReadCommand c b kind n off u rq m) (hsp : m.space = 2) (hk : bridgeOf u = some k) (hw : working s = true)
    (ha : arrivable s (reqPkt u rq b) = true) : exec c s = .next (kept s (memHost (takePkt s (reqPkt u rq b)) k rq kind off n [] 0)) := by
  have ht := memTarget_bridge hk hsp
  obtain ⟨rfl, rfl, rfl, rfl, rfl⟩ | ⟨rfl, rfl, rfl, rfl, rfl⟩ | ⟨rfl, rfl, rfl, rfl, rfl⟩ := hc
  · rw [show exec (.readWord u rq m) s = .next (kept s (memRead s u rq m 0 8 (.readWord m))) from rfl, memRead, ht]
    simp only [arriveBridge_served hw ha, hk, Option.getD_some]
  · rw [show exec (.readLine u rq m) s = .next (kept s (memRead s u rq m 1 64 (.readLine m))) from rfl, memRead, ht]
    simp only [arriveBridge_served hw ha, hk, Option.getD_some]
  · rw [show exec (.readBulk u rq m) s = .next (kept s (readBulk s u rq m)) from rfl, readBulk, ht]
    simp only [arriveBridge_served hw ha, hk, Option.getD_some]

theorem exec_writeWord_bridge (x : PWord) (hsp : m.space = 2) (hk : bridgeOf u = some k) (hw : working s = true)
    (ha : arrivable s (reqPkt u rq (.writeWord m w x)) = true) : exec (.writeWord u rq m w x) s
    = .next (kept s (memHost (takePkt s (reqPkt u rq (.writeWord m w x))) k rq 3 m.off (w / 8) (leBytes (w / 8) x.val.toNat) (b2n x.poison))) := by
  rw [show exec (.writeWord u rq m w x) s = .next (kept s (writeWord s u rq m w x)) from rfl, writeWord, memTarget_bridge hk hsp]
  simp only [arriveBridge_served hw ha, hk, Option.getD_some]

/-- No unit above the tiles is one. -/
theorem not_isTile (hu : 0x110 ≤ u) : ¬ isTile u = true := by simpa [isTile] using hu

theorem exec_lineWrite_bridge (line xfer poison : Nat) (bulk : Bool) (data : List Byte) (hk : bridgeOf u = some k) (hw : working s = true)
    (ha : arrivable s (reqPkt u rq (.lineWrite line xfer bulk data poison)) = true) : exec (.lineWrite u rq line xfer bulk data poison) s
    = .next (kept s (memHost (takePkt s (reqPkt u rq (.lineWrite line xfer bulk data poison))) k rq (if bulk then 4 else 3)
      (SMap.get 0 (hifAt s k).bases (8 * (64 * rq.src + rq.part) + xfer) + 64 * line) (64 * (if bulk then 4 else 1)) data poison)) := by
  obtain ⟨hu, hs⟩ : 0x110 ≤ u ∧ ¬ (0x2CC ≤ u ∧ u < 0x2D0) := by obtain rfl | rfl := bridgeOf_eq hk <;> decide
  rw [show exec (.lineWrite u rq line xfer bulk data poison) s = .next (kept s (lineWrite s u rq line xfer bulk data poison)) from rfl,
    lineWrite, if_neg (not_isTile hu), if_neg hs, hk]
  exact congrArg (fun t => Host.Outcome.next (kept s t)) (arriveBridge_served hw ha _)

/-- HOST_BASE keeps the base of the sender's transfer slot. -/
theorem exec_hostBase_bridge (xfer iova : Nat) (hk : bridgeOf u = some k) (hw : working s = true)
    (ha : arrivable s (reqPkt u rq (.hostBase xfer iova)) = true) : exec (.hostBase u rq xfer iova) s
    = .next (setHif (takePkt s (reqPkt u rq (.hostBase xfer iova))) k { hifAt s k with
        bases := SMap.put 0 (hifAt s k).bases (8 * (64 * rq.src + rq.part) + xfer) iova }) := by
  rw [show exec (.hostBase u rq xfer iova) s = .next (kept s (hostBase s u rq xfer iova)) from rfl, hostBase, hk]
  exact congrArg (fun t => Host.Outcome.next (kept s t)) (arriveBridge_served hw ha _)

/-! ### Host accesses (R326, R390) -/

/-- Outside Safe a failed access is refused with reason 5. -/
theorem memHostDone_fail_net {a : HostAcc} {e : Nat} (hsafe : inSafe s = false) :
    (memHostDone s k a rq kind (.fail e)).net = s.net ++ [rspOf (bridgeUnit k) rq (.refused 5)] := by
  simp only [memHostDone, hsafe, Bool.false_eq_true, if_false]
  rfl

/-- The access of a memory request. -/
def memAcc (rq : Rq) (kind iova len : Nat) (data : List Byte) (poison : Nat) : HostAcc :=
  { part := rq.part, iova := iova, len := len, wr := decide (3 ≤ kind), data := data, poison := poison,
    relaxed := decide (rq.src % 4 = 2), use := .mem rq kind }

/-- What the bridge makes of the start of an access, from the state `s` to `s1`. -/
def memStarted (s s1 : State) (k kind : Nat) (rq : Rq) (a : HostAcc) : HStart → State
  | .pending => s1
  | .done => memHostDone s1 k a rq kind (.ok [] 0)
  | .failed e => memHostDone s1 k { a with fn := (partFn s k rq.part).getD 0 } rq kind (.fail e)

/-- At the partition's home bridge the access starts in the host window. -/
theorem memHost_home {s1 : State} {h : HStart} {iova len poison : Nat} {data : List Byte} (hk : s.homes.getD rq.part 0 = k)
    (hstart : windowStart s rq.part (memAcc rq kind iova len data poison) = (s1, h)) :
    memHost s k rq kind iova len data poison = memStarted s s1 k kind rq (memAcc rq kind iova len data poison) h := by
  rw [memAcc] at hstart
  rw [memHost, if_neg (not_not_intro hk), hstart]
  cases h <;> rfl

/-- At the other bridge it fails. -/
theorem memHost_away_net {iova len poison : Nat} {data : List Byte} (hk : s.homes.getD rq.part 0 ≠ k) (hsafe : inSafe s = false) :
    (memHost s k rq kind iova len data poison).net = s.net ++ [rspOf (bridgeUnit k) rq (.refused 5)] := by
  rw [memHost, if_pos hk]
  exact memHostDone_fail_net (s := countHostFail s k Kind.hostCompletionError) hsafe

/-! ### Requests that their target does not serve (R325) -/

theorem dropReq_served (hw : working s = true) (ha : arrivable s (reqPkt u rq b) = true) : dropReq s u rq b = dropPkt s u (reqPkt u rq b) := by
  rw [dropReq, hw, ha]
  rfl

theorem exec_read_none (hc : ReadCommand c b kind n off u rq m) (ht : memTarget u m.space = none) : exec c s = .next (kept s (dropReq s u rq b)) := by
  obtain ⟨rfl, rfl, -⟩ | ⟨rfl, rfl, -⟩ | ⟨rfl, rfl, -⟩ := hc
  · rw [show exec (.readWord u rq m) s = .next (kept s (memRead s u rq m 0 8 (.readWord m))) from rfl, memRead, ht]
  · rw [show exec (.readLine u rq m) s = .next (kept s (memRead s u rq m 1 64 (.readLine m))) from rfl, memRead, ht]
  · rw [show exec (.readBulk u rq m) s = .next (kept s (readBulk s u rq m)) from rfl, readBulk, ht]

theorem exec_writeWord_none (x : PWord) (ht : memTarget u m.space = none) :
    exec (.writeWord u rq m w x) s = .next (kept s (dropReq s u rq (.writeWord m w x))) := by
  rw [show exec (.writeWord u rq m w x) s = .next (kept s (writeWord s u rq m w x)) from rfl, writeWord, ht]

/-- Bridges serve no AADD. -/
theorem exec_aadd_none (x : W64) (ht : memTarget u m.space = none ∨ memTarget u m.space = some 2) :
    exec (.aaddRequest u rq m w x) s = .next (kept s (dropReq s u rq (.aadd m w x))) := by
  rw [show exec (.aaddRequest u rq m w x) s = .next (kept s (aaddRequest s u rq m w x)) from rfl, aaddRequest]
  obtain ht | ht := ht
  · rw [ht]
  · rw [ht]
    rfl

theorem exec_lineWrite_none {line xfer poison : Nat} {bulk : Bool} {data : List Byte} (hu : 0x110 ≤ u) (hs : ¬ (0x2CC ≤ u ∧ u < 0x2D0))
    (hb : bridgeOf u = none) :
    exec (.lineWrite u rq line xfer bulk data poison) s = .next (kept s (dropReq s u rq (.lineWrite line xfer bulk data poison))) := by
  rw [show exec (.lineWrite u rq line xfer bulk data poison) s = .next (kept s (lineWrite s u rq line xfer bulk data poison)) from rfl,
    lineWrite, if_neg (not_isTile hu), if_neg hs, hb]

theorem exec_hostBase_none {x v : Nat} (hb : bridgeOf u = none) : exec (.hostBase u rq x v) s = .next (kept s (dropReq s u rq (.hostBase x v))) := by
  rw [show exec (.hostBase u rq x v) s = .next (kept s (hostBase s u rq x v)) from rfl, hostBase, hb]

theorem exec_eventSet_none {mask : Nat} (hu : 0x110 ≤ u) : exec (.eventSet u rq mask) s = .next (kept s (dropReq s u rq (.eventSet mask))) := by
  rw [show exec (.eventSet u rq mask) s = .next (kept s (eventSet s u rq mask)) from rfl, eventSet, if_neg (not_isTile hu)]

/-! ### Events at a tile (R105) -/

theorem exec_eventSet_tile {ph mask : Nat} (h : TileServes s u ph rq (.eventSet mask)) :
    exec (.eventSet u rq mask) s = .next (kept s (setEvent (takePkt s (reqPkt u rq (.eventSet mask))) ph mask)) := by
  rw [show exec (.eventSet u rq mask) s = .next (kept s (eventSet s u rq mask)) from rfl, eventSet,
    if_pos (show isTile u = true from decide_eq_true h.2.1), arriveTile_served h]

/-- A thread that waits for none of the set bits goes on as it is. -/
theorem wakeEvent_unselected (h : ∀ rd mask lim, (tileAt s u).thread.block = some (.waitEv rd mask lim) → (tileAt s u).event &&& mask = 0) :
    wakeEvent s u = s := by
  unfold wakeEvent
  dsimp only
  split
  · next hblock => exact if_pos (h _ _ _ hblock)
  · rfl

/-- Bits that no wait selects are set. -/
theorem setEvent_unselected {mask : Nat} (hu : u < s.tiles.length)
    (h : ∀ rd mk lim, (tileAt s u).thread.block = some (.waitEv rd mk lim) → ((tileAt s u).event ||| (mask % 16)) &&& mk = 0) :
    setEvent s u mask = setTile s u { tileAt s u with event := (tileAt s u).event ||| (mask % 16) } :=
  wakeEvent_unselected (s := setTile s u { tileAt s u with event := (tileAt s u).event ||| (mask % 16) })
    (by rw [tileAt_setTile_same _ _ _ hu]; exact h)

/-- Bits that a wait selects end it. -/
theorem setEvent_selected {mask rd mk : Nat} {lim : Option Nat} (hu : u < s.tiles.length)
    (hblock : (tileAt s u).thread.block = some (.waitEv rd mk lim)) (hset : ((tileAt s u).event ||| (mask % 16)) &&& mk ≠ 0) :
    setEvent s u mask = setTile s u (woken { tileAt s u with event := (tileAt s u).event ||| (mask % 16) } rd mk) := by
  have hat := tileAt_setTile_same s u { tileAt s u with event := (tileAt s u).event ||| (mask % 16) } hu
  rw [setEvent, modTile, wakeEvent_of_set (by rw [setTile_length]; exact hu) (by rw [hat]; exact hblock) (by rw [hat]; exact hset), hat,
    setTile_setTile]

/-! ### The statement -/

theorem bridgeRequests : BridgeRequests := by
  refine ⟨fun s u k kind n off rq m c b hc hsp hk hw ha => exec_read_bridge hc hsp hk hw ha,
    fun s u k w rq m x hsp hk hw ha => exec_writeWord_bridge x hsp hk hw ha,
    fun s u k line xfer poison bulk rq data hk hw ha => exec_lineWrite_bridge line xfer poison bulk data hk hw ha,
    fun s u k xfer iova rq hk hw ha => exec_hostBase_bridge xfer iova hk hw ha,
    fun s s1 k kind iova len poison rq data h a hacc => ⟨fun hk hstart => ?home, fun hk hsafe => memHost_away_net hk hsafe⟩,
    fun s u kind n off rq m c b hw ha hc => ?drop, fun s u p => ?dropped,
    fun s u ph mask all rq h hall => ⟨fun hno => ?unselected, fun rd mk lim hblock hset => ?selected⟩⟩
  case home =>
    subst hacc
    rw [memHost_home hk hstart]
    exact ⟨fun hp => by rw [hp]; rfl, fun hd => by rw [hd]; rfl, fun e he => by rw [he]; rfl⟩
  case drop =>
    rw [← dropReq_served hw ha]
    obtain ⟨hc, ht⟩ | ⟨w, x, rfl, rfl, ht⟩ | ⟨w, x, rfl, rfl, ht⟩ | ⟨l, x, bk, d, p, rfl, rfl, hu, hs, hb⟩ | ⟨x, v, rfl, rfl, hb⟩
      | ⟨mask, rfl, rfl, hu⟩ := hc
    · exact exec_read_none hc ht
    · exact exec_writeWord_none x ht
    · exact exec_aadd_none x ht
    · exact exec_lineWrite_none hu hs hb
    · exact exec_hostBase_none hb
    · exact exec_eventSet_none hu
  case dropped =>
    have hhead := faultHead_kind Kind.nocHeaderInvalid (rqId u 0) (rqId u 0 / 4) (some p.part) none
    exact ⟨rfl, rfl, rfl, _, rfl, hhead, rfl⟩
  case unselected =>
    subst hall
    obtain ⟨-, -, -, -, -, -, hlen⟩ := id h
    rw [exec_eventSet_tile h, setEvent_unselected (s := takePkt s (reqPkt u rq (.eventSet mask))) hlen hno]
    rfl
  case selected =>
    subst hall
    obtain ⟨-, -, -, -, -, -, hlen⟩ := id h
    rw [exec_eventSet_tile h, setEvent_selected (s := takePkt s (reqPkt u rq (.eventSet mask))) hlen hblock hset]
    rfl

/-- Settles O44: its three parts, of the tiles, the stand buffers and the bridges. -/
theorem memoryRequests : Obligations.MemoryRequests := ⟨tileMemoryRequests, standRequests, bridgeRequests⟩

end Sys2Proof.Machine
end

section
/-! PROOF. Lockstep kernels (R122, R125, R132, R138 to R140, R143, Table 16.2): what a kernel's writes and stores that take effect change of
the part, what a stream that stops on a fault leaves, and a kernel's entry, waits and end. -/

namespace Sys2Proof.Machine

variable {s t x : State} {u : Nat}

/-! ### What takes effect (R122, R125) -/

/-- From `s` to `t` nothing changes but tile `u`'s registers and frame memory and what its kernel has in flight. -/
def Landed (s : State) (u : Nat) (t : State) : Prop :=
  ∃ g p v acc fr po er ws st us, t = setTile s u { tileAt s u with
    thread := { (tileAt s u).thread with g := g, p := p }, v := v, acc := acc, frame := fr, framePoison := po, frameErr := er
    kern := { (tileAt s u).kern with writes := ws, stores := st, used := us } }

theorem Landed.refl (s : State) (u : Nat) : Landed s u s := ⟨_, _, _, _, _, _, _, _, _, _, (setTile_self s u).symm⟩

theorem Landed.trans (h : Landed s u t) (h' : Landed t u x) : Landed s u x := by
  obtain ⟨g, p, v, acc, fr, po, er, ws, st, us, rfl⟩ := h
  obtain ⟨g', p', v', acc', fr', po', er', ws', st', us', rfl⟩ := h'
  refine ⟨g', p', v', acc', fr', po', er', ws', st', us', ?_⟩
  by_cases hu : u < s.tiles.length
  · simp [setTile, tileAt, hu]
  · have hset (l : List Tile) (y : Tile) (hl : l.length = s.tiles.length) : l.set u y = l := List.set_eq_of_length_le (by omega)
    simp [setTile, hset]

/-- What each effect of a list lands, they all land. -/
theorem landed_foldl {α : Type} {f : State → α → State} (h : ∀ y a, Landed y u (f y a)) (l : List α) (s : State) :
    Landed s u (l.foldl f s) :=
  List.foldlRecOn l f (motive := Landed s u) (Landed.refl s u) (fun y hy a _ => hy.trans (h y a))

theorem writeReg_landed (s : State) (u : Nat) (w : KWrite) : Landed s u (writeReg s u w) := by
  unfold writeReg
  split <;> exact ⟨_, _, _, _, _, _, _, _, _, _, rfl⟩

/-- Whole words that are written meet no stored error (R469). -/
theorem frameWriteWords_landed (k : Nat) (s : State) (u pa v poison : Nat) : Landed s u (frameWriteWords s u pa k v poison) := by
  induction k generalizing s pa v poison with
  | zero => exact Landed.refl s u
  | succ j ih => exact Landed.trans ⟨_, _, _, _, _, _, _, _, _, _, rfl⟩ (ih _ _ _ _)

theorem landStore_landed (s : State) (u : Nat) (x : KStore) : Landed s u (landStore s u x) := frameWriteWords_landed _ s u _ _ _

theorem settleKern_landed (s : State) (u c : Nat) : Landed s u (settleKern s u c) := by
  have hwrites := landed_foldl (fun y => writeReg_landed y u) ((tileAt s u).kern.writes.filter (fun w => decide (w.due ≤ c))) s
  have hstores (y : State) := landed_foldl (fun y x => landStore_landed y u x) ((tileAt s u).kern.stores.filter (fun x => decide (x.due ≤ c))) y
  exact (hwrites.trans (hstores _)).trans ⟨_, _, _, _, _, _, _, _, _, _, rfl⟩

theorem drainKern_landed (s : State) (u : Nat) : Landed s u (drainKern s u) := settleKern_landed s u _

section
variable (h : Landed s u t)
include h

theorem Landed.flt : t.flt = s.flt := by
  obtain ⟨g, p, v, acc, fr, po, er, ws, st, us, rfl⟩ := h
  rfl

theorem Landed.length : t.tiles.length = s.tiles.length := by
  obtain ⟨g, p, v, acc, fr, po, er, ws, st, us, rfl⟩ := h
  exact setTile_length s u _

theorem Landed.queueAndFuses : t.pending = s.pending ∧ t.fuses = s.fuses := by
  obtain ⟨g, p, v, acc, fr, po, er, ws, st, us, rfl⟩ := h
  exact ⟨rfl, rfl⟩

/-- The kernel counts on, and its node has abandoned no other. -/
theorem Landed.counts (hu : u < s.tiles.length) : (tileAt t u).kern.cyc = (tileAt s u).kern.cyc
    ∧ (tileAt t u).kern.rd = (tileAt s u).kern.rd ∧ (tileAt t u).kern.stalls = (tileAt s u).kern.stalls
    ∧ (tileAt t u).kern.lastPc = (tileAt s u).kern.lastPc ∧ (tileAt t u).thread.abandoned = (tileAt s u).thread.abandoned := by
  obtain ⟨g, p, v, acc, fr, po, er, ws, st, us, rfl⟩ := h
  rw [tileAt_setTile_same s u _ hu]
  exact ⟨rfl, rfl, rfl, rfl, rfl⟩

end

/-- Where nothing is in flight, nothing takes effect. -/
theorem settleKern_of_nothing (c : Nat) (hw : (tileAt s u).kern.writes = []) (hs : (tileAt s u).kern.stores = [])
    (hused : (tileAt s u).kern.used = []) : settleKern s u c = s := by
  have hk : { (tileAt s u).kern with writes := [], stores := [], used := [] } = (tileAt s u).kern := by rw [← hw, ← hs, ← hused]
  have hself := setTile_self s u
  simpa [settleKern, writeRegs, hw, hs, hused, modKern, modTile, hk] using hself

/-! ### A stream that stops on a fault (R114, R143) -/

theorem kernAddr_pc (pc slot lockAt reg file : Nat) : kernAddr pc slot lockAt reg file % 2 ^ 17 = pc % 2 ^ 17 := by
  unfold kernAddr
  omega

theorem kernAddr_slot (pc slot lockAt reg file : Nat) : kernAddr pc slot lockAt reg file / 2 ^ 17 % 8 = slot % 8 := by
  unfold kernAddr
  omega

/-- In `t` tile `u`'s stream has stopped at bundle `pc` with a fault of `kind` in `slot`: kernel, node and window job have ended, the node
counts as abandoned, and the newest record, with ORPHAN set, names bundle, slot and stream cycle. -/
structure StreamStopped (s : State) (u kind pc slot detail : Nat) (t : State) : Prop where
  kern : (tileAt t u).kern.running = false
  thread : (tileAt t u).thread.running = false
  job : (tileAt t u).job = none
  abandoned : (tileAt t u).thread.abandoned = ((tileAt s u).thread.abandoned + 1) % 2 ^ 32
  record : ∃ m, t.flt.inbox = s.flt.inbox ++ [m] ∧ m.head % 1024 = kind % 1024 ∧ m.head / 2 ^ 59 % 2 = 1 ∧ m.addr % 2 ^ 17 = pc % 2 ^ 17
    ∧ m.addr / 2 ^ 17 % 8 = slot % 8 ∧ m.detail = (tileAt s u).kern.cyc % 2 ^ 32 + detail

theorem closeHolds_tile (hu : u < s.tiles.length) : tileAt (closeHolds s u) u = { tileAt s u with
    waitXq := ((tileAt s u).waitXq + xqHeld s (tileAt s u)) % 2 ^ 32
    waitWaitc := ((tileAt s u).waitWaitc + waitcHeld s (tileAt s u)) % 2 ^ 32
    kern := { (tileAt s u).kern with
      hold := none, xqSince := none, stalls := satAdd 32 (tileAt s u).kern.stalls (xqHeld s (tileAt s u) + waitcHeld s (tileAt s u)) } } :=
  tileAt_modTile_same s u _ hu

theorem stopKernel_tile (hu : u < s.tiles.length) : (tileAt (stopKernel s u) u).kern = { lastPc := (tileAt s u).kern.lastPc }
    ∧ (tileAt (stopKernel s u) u).job = none
    ∧ (tileAt (stopKernel s u) u).thread = { endNode (tileAt s u).thread with abandoned := ((tileAt s u).thread.abandoned + 1) % 2 ^ 32 } := by
  have hlen : u < (closeHolds s u).tiles.length := by simpa [closeHolds] using hu
  rw [stopKernel, tileAt_modTile_same _ u _ hlen, closeHolds_tile hu]
  exact ⟨rfl, rfl, rfl⟩

/-- The record of a stream's fault (Table 16.2). -/
def streamMsg (s : State) (u kind pc slot reg file detail : Nat) : FaultMsg :=
  ⟨now s % 2 ^ 64, faultHead kind (rqId u 1) u (some (nodeBinding (tileAt s u)).part) (some 0),
    kernAddr pc slot (tileAt s u).kern.lockAt reg file, (tileAt s u).kern.cyc % 2 ^ 32 + detail⟩

theorem kernFault_eq (s : State) (u kind pc slot reg file detail : Nat) : kernFault s u kind pc slot reg file detail
    = stopKernel (raiseMsg (drainKern s u) (streamMsg (drainKern s u) u kind pc slot reg file detail)) u := rfl

theorem kernFault_stops (kind pc slot reg file detail : Nat) (hu : u < s.tiles.length) :
    StreamStopped s u kind pc slot detail (kernFault s u kind pc slot reg file detail) := by
  rw [kernFault_eq]
  have hlanded := drainKern_landed s u
  generalize drainKern s u = d at hlanded
  generalize hm : streamMsg d u kind pc slot reg file detail = m
  obtain ⟨hcyc, -, -, -, habandoned⟩ := hlanded.counts hu
  obtain ⟨hkern, hjob, hthread⟩ := stopKernel_tile (s := raiseMsg d m) (u := u) (hlanded.length.symm ▸ hu)
  have htile : tileAt (raiseMsg d m) u = tileAt d u := rfl
  have hbox : (stopKernel (raiseMsg d m) u).flt.inbox = d.flt.inbox ++ [m] := rfl
  refine ⟨by rw [hkern], by rw [hthread]; rfl, hjob, by rw [hthread, htile, habandoned], m, by rw [hbox, hlanded.flt], ?_⟩
  subst hm
  simp only [streamMsg, faultHead_kind, faultHead_orphan, kernAddr_pc, kernAddr_slot, hcyc, and_self]

/-! ### Entry, waits and end (R132, R138 to R140) -/

theorem settled_of_eq (h : t = x) : settled s t = .next (kept s x) := by rw [h, settled]

/-- A command completes with its effect where that touches neither the queue nor the fuses. -/
theorem settled_of_keeps (h : t = x) (hkeeps : x.pending = s.pending ∧ x.fuses = s.fuses) : settled s t = .next x := by
  rw [h, settled, kept, ← hkeeps.1, ← hkeeps.2]

theorem waitcPass_issues {h : KHold} (hruns : tileRuns s u = true) (hhold : (tileAt s u).kern.hold = some h)
    (hthr : h.thr ≤ (tileAt s u).xcnt.getD h.cnt 0) : waitcPass s u = bundleIssue (closeHolds s u) u := by
  rw [waitcPass, hhold]
  exact if_pos (by simp only [hruns, hthr, decide_true, Bool.and_self])

theorem waitcTimeout_faults {h : KHold} (hruns : tileRuns s u = true) (hhold : (tileAt s u).kern.hold = some h)
    (hthr : (tileAt s u).xcnt.getD h.cnt 0 < h.thr) (hlimit : h.since + 256 * (tileAt s u).waitLimit ≤ tileNow s) :
    waitcTimeout s u = kernFault s u Kind.waitcTimeout (tileAt s u).kern.pc 4 0 0 0 := by
  rw [waitcTimeout, hhold]
  exact if_pos (by simp only [hruns, hthr, hlimit, decide_true, Bool.and_self])

/-- Settles O30: the entry, the two ends of a hold, the kernel's end and the guard, each from the conditions of its command. -/
theorem kernelEntryAndEnd : Obligations.KernelEntryAndEnd := by
  refine ⟨?entry, ?pass, ?timeout, ?ends, ?guard⟩
  case entry =>
    intro s u rd entry pc hruns hidle haccepted hmem hblock
    refine settled_of_keeps ?_ ⟨rfl, rfl⟩
    rw [kernelEntry, hblock]
    exact if_pos (by simp [hruns, hidle, haccepted, hmem])
  case pass =>
    intro s u h hruns hhold hu
    rw [closeHolds_tile hu]
    have hcycles : waitcHeld s (tileAt s u) = tileNow s - h.since := by rw [waitcHeld, hhold]
    exact ⟨fun hthr => settled_of_eq (waitcPass_issues hruns hhold hthr), rfl, rfl, by rw [hcycles], rfl, rfl⟩
  case timeout =>
    intro s u h hruns hhold hthr hlimit hu
    obtain ⟨hkern, hthread, hjob, habandoned, m, hbox, hkind, horphan, hpc, -, hcyc⟩ :=
      kernFault_stops Kind.waitcTimeout (tileAt s u).kern.pc 4 0 0 0 hu
    rw [← (drainKern_landed s u).flt] at hbox
    exact ⟨_, settled_of_eq (waitcTimeout_faults hruns hhold hthr hlimit), hkern, hthread, hjob, habandoned, m, hbox, hkind, horphan, hpc,
      by omega⟩
  case ends =>
    intro s u code hruns hrunning hexit hjob hu
    have hlanded := drainKern_landed s u
    obtain ⟨-, hrd, hstalls, hlast, -⟩ := hlanded.counts hu
    refine settled_of_keeps ?_ hlanded.queueAndFuses
    rw [kernelEnd, hexit, ← hrd, ← hstalls, ← hlast]
    exact if_pos (by simp [hruns, hrunning, hjob])
  case guard =>
    intro s u hruns hrunning
    exact settled_of_keeps (if_pos (by simp [hruns, hrunning])) ⟨rfl, rfl⟩

end Sys2Proof.Machine
end

section
/-! PROOF. Bundles of lockstep kernels (R118 to R123, R133, R138, R144): how the next bundle turns out, and the bundles of one syllable of a
stream that has nothing in flight. -/

namespace Sys2Proof.Machine

variable {s t : State} {u c stop : Nat} {y : Syl}

/-! ### The next bundle (R141, R144, R470) -/

/-- A stream that is ready issues its next bundle. -/
theorem exec_bundleIssue (h : streamReady s u = true) : exec (.bundleIssue u) s
    = .next (kept s (nextBundle (settleKern s u (tileAt s u).kern.cyc) u (tileAt s u).kern.cyc)) :=
  settled_of_eq (if_pos h)

section Decoded
variable {s1 : State} {all : List Syl} (hin : inRegion s u (tileAt s u).kern.pc = true)
  (hdec : decodeBundle (tileAt s u).istore (codeRegion (tileAt s u) (tileAt s u).thread.slot).2 (tileAt s u).kern.pc none 6 = .ok all stop)
include hin hdec

theorem nextBundle_of_badLine {l : Nat} (hfetch : fetchLines s u ((tileAt s u).kern.pc / 64)
      ((stop - 1) / 64 - (tileAt s u).kern.pc / 64 + 1) = (s1, some l)) :
    nextBundle s u c = kernFault s1 u Kind.istoreUncorrectable (tileAt s u).kern.pc 0 0 0 0 := by
  simp [nextBundle, hin, hdec, hfetch]

variable (hfetch : fetchLines s u ((tileAt s u).kern.pc / 64) ((stop - 1) / 64 - (tileAt s u).kern.pc / 64 + 1) = (s1, none))
include hfetch

theorem nextBundle_of_held {s2 : State} (hhold : holdBundle s1 u (all.filter (Syl.runs s1 u)) = some s2) : nextBundle s u c = s2 := by
  simp [nextBundle, hin, hdec, hfetch, hhold]

theorem nextBundle_of_free (hhold : holdBundle s1 u (all.filter (Syl.runs s1 u)) = none) :
    nextBundle s u c = issueBundle (closeHolds s1 u) u c all stop := by
  simp [nextBundle, hin, hdec, hfetch, hhold]

end Decoded

/-- Instruction-store lines without errors are fetched as they are (R470). -/
theorem fetchLines_of_noErrors (n : Nat) {l : Nat} (herr : (tileAt s u).istoreErr = []) (hbad : (tileAt s u).istoreBad = []) :
    fetchLines s u l n = (s, none) := by
  induction n generalizing l with
  | zero => rfl
  | succ k ih =>
    have hline : fetchLine s u l = (s, false) := by simp [fetchLine, herr, hbad, NSet.has]
    simp [fetchLines, hline, ih]

/-! ### What holds or stops a bundle of one syllable (R137, R138, R144) -/

theorem holdBundle_of_otherUnit (h : y.unit ≠ 4) : holdBundle s u [y] = none := by
  simp [holdBundle, h]

theorem holdBundle_of_waitc (hunit : y.unit = 4) (hop : y.op = 0x10) : holdBundle s u [y]
    = if (tileAt s u).xcnt.getD y.cnt 0 < gVal s u y.d % 2 ^ 32 then
        some (modKern s u (fun k => { k with hold := some { cnt := y.cnt, thr := gVal s u y.d % 2 ^ 32, since := tileNow s } }))
      else none := by
  simp [holdBundle, hunit, hop]

/-- A syllable that is not of the M or W unit faults only on the poison that it consumes (R144). -/
theorem fault_of_noAccess (hunit : y.unit ≠ 2 ∧ y.unit ≠ 3) :
    y.fault s u = (y.consumes.find? (regPoison s u)).map (fun x => (Kind.poisonConsumed, x.2, x.1, 0)) := by
  unfold Syl.fault
  cases y.consumes.find? (regPoison s u) with
  | some x => rfl
  | none => simp only [if_neg hunit.1, if_neg hunit.2, Option.map_none]

/-! ### Counts of held cycles -/

/-- From `s` to `t` nothing changes but tile `u`'s counts of held cycles. -/
def Recounted (s : State) (u : Nat) (t : State) : Prop :=
  ∃ a b n, t = setTile s u { tileAt s u with waitXq := a, waitWaitc := b, stallBank := n }

theorem Recounted.trans {x : State} (hu : u < s.tiles.length) (h : Recounted s u t) (h' : Recounted t u x) : Recounted s u x := by
  obtain ⟨a, b, n, rfl⟩ := h
  obtain ⟨a', b', n', rfl⟩ := h'
  exact ⟨a', b', n', by simp [setTile, tileAt, hu]⟩

section Recounting
variable (h : Recounted s u t)
include h

theorem Recounted.net : t.net = s.net := by
  obtain ⟨a, b, n, rfl⟩ := h
  rfl

theorem Recounted.length : t.tiles.length = s.tiles.length := by
  obtain ⟨a, b, n, rfl⟩ := h
  exact setTile_length s u _

theorem Recounted.other {w : Nat} (hw : w ≠ u) : tileAt t w = tileAt s w := by
  obtain ⟨a, b, n, rfl⟩ := h
  exact tileAt_setTile_other s u w _ hw.symm

variable (hu : u < s.tiles.length)
include hu

theorem Recounted.keeps : (tileAt t u).kern = (tileAt s u).kern ∧ (tileAt t u).thread = (tileAt s u).thread
    ∧ (tileAt t u).frame = (tileAt s u).frame ∧ (tileAt t u).lsDebug = (tileAt s u).lsDebug := by
  obtain ⟨a, b, n, rfl⟩ := h
  rw [tileAt_setTile_same s u _ hu]
  exact ⟨rfl, rfl, rfl, rfl⟩

theorem Recounted.runs : y.runs t u = y.runs s u := by
  obtain ⟨a, b, n, rfl⟩ := h
  simp only [Syl.runs, pReg, tileAt_setTile_same s u _ hu]

theorem Recounted.fault (hunit : y.unit ≠ 2 ∧ y.unit ≠ 3) : y.fault t u = y.fault s u := by
  obtain ⟨a, b, n, rfl⟩ := h
  rw [fault_of_noAccess hunit, fault_of_noAccess hunit]
  congr 2
  funext r
  simp only [regPoison, gReg, vReg, tileAt_setTile_same s u _ hu]

theorem Recounted.writes : y.writes t u = y.writes s u := by
  obtain ⟨a, b, n, rfl⟩ := h
  simp only [Syl.writes, vReg, gVal, gReg, tileAt_setTile_same s u _ hu]

end Recounting

/-- A hold that has counted no cycle adds none to the stall cycles. -/
theorem satAdd_zero {w n : Nat} (h : n < 2 ^ w) : satAdd w n 0 = n := if_pos h

theorem closeHolds_recounted (hhold : (tileAt s u).kern.hold = none) (hxq : (tileAt s u).kern.xqSince = none)
    (hstalls : (tileAt s u).kern.stalls < 2 ^ 32) : Recounted s u (closeHolds s u) := by
  have hk : { (tileAt s u).kern with hold := none, xqSince := none } = (tileAt s u).kern := by rw [← hhold, ← hxq]
  refine ⟨(tileAt s u).waitXq % 2 ^ 32, (tileAt s u).waitWaitc % 2 ^ 32, (tileAt s u).stallBank, ?_⟩
  simp only [closeHolds, modTile, xqHeld, waitcHeld, hhold, hxq, Nat.add_zero, satAdd_zero hstalls, hk]

theorem bankHold_recounted (hstalls : (tileAt s u).kern.stalls < 2 ^ 32) : Recounted s u (bankHold s u 0) := by
  refine ⟨(tileAt s u).waitXq, (tileAt s u).waitWaitc, (tileAt s u).stallBank % 2 ^ 32, ?_⟩
  simp only [bankHold, modTile, Nat.add_zero, satAdd_zero hstalls]

/-! ### The kernel of a tile -/

theorem modKern_length (s : State) (u : Nat) (f : Kernel → Kernel) : (modKern s u f).tiles.length = s.tiles.length := modTile_length s u _

theorem modKern_tile (f : Kernel → Kernel) (hu : u < s.tiles.length) :
    tileAt (modKern s u f) u = { tileAt s u with kern := f (tileAt s u).kern } := tileAt_modTile_same s u _ hu

theorem modKern_kern (f : Kernel → Kernel) (hu : u < s.tiles.length) : (tileAt (modKern s u f) u).kern = f (tileAt s u).kern :=
  congrArg Tile.kern (modKern_tile f hu)

theorem modKern_other (f : Kernel → Kernel) {w : Nat} (hw : w ≠ u) : tileAt (modKern s u f) w = tileAt s w :=
  tileAt_modTile_other s u w _ hw.symm

/-! ### One syllable issues (R119 to R123) -/

/-- A syllable without a fault that is no WJOB leaves nothing else for the bundle's checks to meet. -/
theorem bundleFault_of_one (hfault : y.fault t u = none) (hunit : y.unit ≠ 3) : bundleFault t u [y] = (t, none) := by
  obtain ⟨descriptor, h⟩ : ∃ descriptor, bundleFault t u [y] = (match y.fault t u with
    | some x => (t, some (y, x))
    | none => if y.unit = 3 ∧ y.op = 0x10 then descriptor else (t, none)) := ⟨_, rfl⟩
  rw [h, hfault]
  exact if_neg (fun hjob => hunit hjob.1)

/-- A syllable that is not of the M or W unit and no LOOP, and that no check stops, issues as it is: it uses no bank (R130). -/
theorem issueBundle_of_one (hrun : y.runs t u = true) (hfault : y.fault t u = none) (hdebug : (tileAt t u).lsDebug = false)
    (hunit : y.unit ≠ 2 ∧ y.unit ≠ 3) (hloop : ¬(y.unit = 0 ∧ y.op = 0x30)) :
    issueBundle t u c [y] stop = runBundle (bankHold t u 0) u c [y] stop none := by
  have hone : bundleLoop [y] = none := by simpa [bundleLoop] using hloop
  have hnone := bundleFault_of_one hfault hunit.2
  have hbanks : readBanks t u [y] = [] := by simp [readBanks, readSlots, hunit.1, hunit.2]
  have hfilter : [y].filter (Syl.runs t u) = [y] := List.filter_cons_of_pos hrun
  have hhold (l : List (List Nat)) : conflictHold ([] ++ l) - conflictHold l = 0 := Nat.sub_self _
  simp only [issueBundle, hfilter, hone, hnone, hbanks, hdebug, hhold, Option.isSome_none, Bool.false_and, Bool.false_eq_true, if_false]

/-- The register writes that a syllable of stream cycle `c` puts in flight. -/
def Syl.inFlight (s : State) (u c : Nat) (y : Syl) : List KWrite :=
  (y.writes s u).map (fun w => ({ due := c + w.2.2.2.2, file := w.1, reg := w.2.1, val := w.2.2.1, poison := w.2.2.2.1
                                  pc := (tileAt s u).kern.pc } : KWrite))

/-- The stream cycles that a bundle of one syllable spans (R122). -/
def Syl.span (y : Syl) : Nat := if y.unit = 0 ∧ y.op = 0 then y.imm16 + 1 else 1

/-- Outside loops a syllable that is no memory access and no LOOP puts its writes in flight and controls the stream, which goes on after
the bundle. -/
theorem runBundle_of_one (hunit : y.unit ≠ 2) (hloop : ¬(y.unit = 0 ∧ y.op = 0x30)) (hloops : (tileAt t u).kern.loops = []) :
    runBundle t u c [y] stop none
      = modKern (y.control (modKern t u (fun k => { k with writes := (y.inFlight t u c).foldl addWrite k.writes })) u c) u (fun k => { k with
          pc := stop, lastPc := k.pc, cyc := c + y.span, loops := [] }) := by
  have hone : bundleLoop [y] = none := by simpa [bundleLoop] using hloop
  have hmem : Syl.memory t u c y = t := if_pos hunit
  simp only [runBundle, hone, hmem, hloops, loopNext, List.foldl_cons, List.foldl_nil, List.flatMap_cons, List.flatMap_nil, List.append_nil,
    ite_self, Syl.inFlight, Syl.span]
  by_cases hnop : y.unit = 0 ∧ y.op = 0
  · simp [hnop]
  · have hfind : [y].find? (fun y => decide (y.unit = 0) && decide (y.op = 0)) = none := by simpa using hnop
    simp only [hfind, if_neg hnop]

/-- A kernel that runs on tile `u`, may issue its next bundle and has nothing in flight, no open loop and clean code. -/
structure StreamQuiet (s : State) (u : Nat) : Prop where
  issues : KernelIssues s u
  writes : (tileAt s u).kern.writes = []
  stores : (tileAt s u).kern.stores = []
  used : (tileAt s u).kern.used = []
  loops : (tileAt s u).kern.loops = []
  xq : (tileAt s u).kern.xqSince = none
  debug : (tileAt s u).lsDebug = false
  inside : inRegion s u (tileAt s u).kern.pc = true
  lines : (tileAt s u).istoreErr = [] ∧ (tileAt s u).istoreBad = []
  stalls : (tileAt s u).kern.stalls < 2 ^ 32

section Quiet
variable (h : StreamQuiet s u)
include h

theorem StreamQuiet.issuesNext : exec (.bundleIssue u) s = .next (kept s (nextBundle s u (tileAt s u).kern.cyc)) := by
  obtain ⟨hruns, hrunning, hexit, hhold, hjob, -⟩ := h.issues
  rw [exec_bundleIssue (by simp [streamReady, hruns, hrunning, hexit, hhold, hjob]), settleKern_of_nothing _ h.writes h.stores h.used]

variable (hdec : decodeBundle (tileAt s u).istore (codeRegion (tileAt s u) (tileAt s u).thread.slot).2 (tileAt s u).kern.pc none 6 = .ok [y] stop)
  (hrun : y.runs s u = true)
include hdec hrun

theorem StreamQuiet.holds {s2 : State} (hhold : holdBundle s u [y] = some s2) : exec (.bundleIssue u) s = .next (kept s s2) := by
  have hfilter : [y].filter (Syl.runs s u) = [y] := List.filter_cons_of_pos hrun
  rw [h.issuesNext, nextBundle_of_held h.inside hdec (fetchLines_of_noErrors _ h.lines.1 h.lines.2) (by rw [hfilter, hhold])]

variable (hhold : holdBundle s u [y] = none) (hfault : y.fault s u = none) (hunit : y.unit ≠ 2 ∧ y.unit ≠ 3)
  (hloop : ¬(y.unit = 0 ∧ y.op = 0x30))
include hhold hfault hunit hloop

/-- A syllable that nothing holds or stops runs, whatever the counts of held cycles. -/
theorem StreamQuiet.runs : ∃ t, Recounted s u t
    ∧ exec (.bundleIssue u) s = .next (kept s (runBundle t u (tileAt s u).kern.cyc [y] stop none)) := by
  obtain ⟨-, -, -, hkhold, -, hu⟩ := h.issues
  have hfilter : [y].filter (Syl.runs s u) = [y] := List.filter_cons_of_pos hrun
  have hclosed := closeHolds_recounted hkhold h.xq h.stalls
  obtain ⟨hkern, -, -, hdebug⟩ := hclosed.keeps hu
  refine ⟨_, hclosed.trans hu (bankHold_recounted (by rw [hkern]; exact h.stalls)), ?_⟩
  rw [h.issuesNext, nextBundle_of_free h.inside hdec (fetchLines_of_noErrors _ h.lines.1 h.lines.2) (by rw [hfilter, hhold]),
    issueBundle_of_one (by rw [hclosed.runs hu, hrun]) (by rw [hclosed.fault hu hunit, hfault]) (by rw [hdebug, h.debug]) hunit hloop]

/-- One that does not control the stream puts its writes in flight, and the stream goes on after the bundle. -/
theorem StreamQuiet.goesOn (hcontrol : ∀ x, y.control x u (tileAt s u).kern.cyc = x) :
    Leaves (.bundleIssue u) s (fun t => (tileAt t u).kern = { (tileAt s u).kern with
        pc := stop, lastPc := (tileAt s u).kern.pc, cyc := (tileAt s u).kern.cyc + y.span
        writes := (y.inFlight s u (tileAt s u).kern.cyc).foldl addWrite (tileAt s u).kern.writes }
      ∧ (tileAt t u).thread = (tileAt s u).thread ∧ (tileAt t u).frame = (tileAt s u).frame ∧ t.net = s.net
      ∧ (∀ w, w ≠ u → tileAt t w = tileAt s w)) := by
  obtain ⟨-, -, -, -, -, hu⟩ := h.issues
  obtain ⟨t, ht, hexec⟩ := h.runs hdec hrun hhold hfault hunit hloop
  obtain ⟨hkern, hthread, hframe, -⟩ := ht.keeps hu
  have hlen : u < t.tiles.length := ht.length.symm ▸ hu
  rw [runBundle_of_one hunit.1 hloop (by rw [hkern, h.loops]), hcontrol] at hexec
  have hwrites : y.inFlight t u (tileAt s u).kern.cyc = y.inFlight s u (tileAt s u).kern.cyc := by
    rw [Syl.inFlight, ht.writes hu, hkern, Syl.inFlight]
  refine ⟨_, hexec, ?_⟩
  beta_reduce
  rw [tileAt_kept, modKern_tile _ (by rwa [modKern_length]), modKern_tile _ hlen, hkern, hthread, hframe, hwrites]
  refine ⟨by rw [← h.loops], rfl, rfl, ht.net, fun w hw => ?_⟩
  rw [tileAt_kept, modKern_other _ hw, modKern_other _ hw, ht.other hw]

end Quiet

/-- A syllable of the S or X unit but for EXIT, XDMA, CSET and CRD controls nothing once it issues. -/
theorem control_of_plain (hexit : ¬(y.unit = 0 ∧ y.op = 0x38)) (hunit : y.unit ≠ 3) (htransfer : y.unit = 4 → y.op = 0x10) :
    y.control s u c = s := by
  have hxdma : ¬(y.unit = 4 ∧ y.op = 1) := fun h => by have := htransfer h.1; omega
  have hcset : ¬(y.unit = 4 ∧ y.op = 8) := fun h => by have := htransfer h.1; omega
  simp only [Syl.control, hexit, hunit, hxdma, hcset, false_and, if_false]

theorem control_of_exit (hunit : y.unit = 0) (hop : y.op = 0x38) :
    y.control s u c = modKern s u (fun k => { k with exit := some y.imm16 }) := if_pos ⟨hunit, hop⟩

/-! ### The statement -/

/-- An integer operation of the S unit puts its result in flight for its latency (R121, R122, Table 4.4). -/
theorem inFlight_of_integer (hunit : y.unit = 0) (h1 : 1 ≤ y.op) (h9 : y.op ≤ 9) : y.inFlight s u c
    = [{ due := c + (if y.op = 9 then 3 else 1), file := 0, reg := y.d, val := aluVal 64 (sOp y.op) (gVal s u y.a) (gVal s u y.b)
         poison := false, pc := (tileAt s u).kern.pc }] := by
  simp [Syl.inFlight, Syl.writes, hunit, h1, h9]

theorem inFlight_of_none (h : y.writes s u = []) : y.inFlight s u c = [] := by rw [Syl.inFlight, h, List.map_nil]

/-- A bundle of one syllable, in each of the five cases. -/
theorem bundlesAlone : BundlesAlone := by
  intro s u hissues hwrites hstores hused hloops hxq hdebug hin herr hbad hstalls
  have hquiet : StreamQuiet s u := ⟨hissues, hwrites, hstores, hused, hloops, hxq, hdebug, hin, ⟨herr, hbad⟩, hstalls⟩
  obtain ⟨-, hrunning, -, -, -, hu⟩ := hissues
  refine ⟨?integer, ?nop, ?exit, ?waitc, ?illegal⟩
  case integer =>
    intro y stop hdec hrun hfault hunit h1 h9
    have h := hquiet.goesOn hdec hrun (holdBundle_of_otherUnit (by omega)) hfault (by omega) (by omega)
      (fun x => control_of_plain (by omega) (by omega) (by omega))
    have hspan : y.span = 1 := if_neg (by omega)
    rwa [hspan, inFlight_of_integer hunit h1 h9, hwrites] at h
  case nop =>
    intro y stop hdec hunit hop
    have hrun : y.runs s u = true := if_pos ⟨hunit, .inl hop⟩
    have hfault : y.fault s u = none := by simp [fault_of_noAccess, hunit, Syl.consumes, hop]
    obtain ⟨t, hexec, hkern, hthread, -⟩ := hquiet.goesOn hdec hrun (holdBundle_of_otherUnit (by omega)) hfault (by omega) (by omega)
      (fun x => control_of_plain (by omega) (by omega) (by omega))
    have hspan : y.span = y.imm16 + 1 := if_pos ⟨hunit, hop⟩
    rw [hspan, inFlight_of_none (by simp [Syl.writes, hunit, hop])] at hkern
    exact ⟨t, hexec, hkern, hthread⟩
  case exit =>
    intro y stop hdec hrun hunit hop
    have hfault : y.fault s u = none := by simp [fault_of_noAccess, hunit, Syl.consumes, hop]
    obtain ⟨t, ht, hexec⟩ := hquiet.runs hdec hrun (holdBundle_of_otherUnit (by omega)) hfault (by omega) (by omega)
    obtain ⟨hkern, -⟩ := ht.keeps hu
    have hlen : u < t.tiles.length := ht.length.symm ▸ hu
    rw [runBundle_of_one (by omega) (by omega) (by rw [hkern, hloops]), control_of_exit hunit hop] at hexec
    refine ⟨_, hexec, ?_⟩
    beta_reduce
    rw [tileAt_kept, modKern_kern _ (by simpa only [modKern_length] using hlen), modKern_kern _ (by rwa [modKern_length]), modKern_kern _ hlen,
      hkern]
    exact ⟨rfl, hrunning⟩
  case waitc =>
    intro y stop hdec hrun hunit hop
    refine ⟨fun hbelow => ?held, fun hreached hfault => ?passes⟩
    case held =>
      refine ⟨_, hquiet.holds hdec hrun ((holdBundle_of_waitc hunit hop).trans (if_pos hbelow)), ?_⟩
      beta_reduce
      rw [tileAt_kept, modKern_kern _ hu]
    case passes =>
      have hfree : holdBundle s u [y] = none := (holdBundle_of_waitc hunit hop).trans (if_neg (by omega))
      obtain ⟨t, hexec, hkern, -⟩ := hquiet.goesOn hdec hrun hfree hfault (by omega) (by omega)
        (fun x => control_of_plain (by omega) (by omega) (fun _ => hop))
      have hspan : y.span = 1 := if_neg (by omega)
      rw [hspan, inFlight_of_none (by simp [Syl.writes, hunit, hop])] at hkern
      exact ⟨t, hexec, hkern⟩
  case illegal =>
    intro slot hdec
    have hnext : nextBundle s u (tileAt s u).kern.cyc = kernFault s u Kind.syllableIllegal (tileAt s u).kern.pc slot 0 0 0 := by
      simp [nextBundle, hin, hdec, fetchLines_of_noErrors _ herr hbad]
    obtain ⟨hkern, hthread, -, -, m, hbox, hkind, -, -, hslot, -⟩ := kernFault_stops Kind.syllableIllegal (tileAt s u).kern.pc slot 0 0 0 hu
    exact ⟨_, hquiet.issuesNext.trans (settled_of_eq hnext), hkern, hthread, m, hbox, hkind, hslot⟩

/-- Settles O31: the next bundle by its checks, and the bundles of one syllable by the syllable. -/
theorem bundleIssues : Obligations.BundleIssue := by
  refine ⟨fun s u => exec_bundleIssue, fun s u c => ⟨?outside, ?fetched, ?badLine⟩, bundlesAlone⟩
  case outside => exact fun hout => by simp [nextBundle, hout]
  case fetched =>
    intro s1 all stop hin hdec hfetch
    exact ⟨fun s2 hhold => nextBundle_of_held hin hdec hfetch hhold, fun hhold => nextBundle_of_free hin hdec hfetch hhold⟩
  case badLine => exact fun s1 l all stop hin hdec hfetch => nextBundle_of_badLine hin hdec hfetch

end Sys2Proof.Machine
end

section
/-! PROOF. Window jobs (R183 to R186): what the access of a slot does, said once for each kind of access, how the command makes it, and
the job's end. -/

namespace Sys2Proof.Machine

variable {s s2 : State} {u base k : Nat} {j j' : WJob}

/-! ### The access of a slot (R183, R186) -/

/-- The job at the start of a slot: a group's first cycle clears the running sums. -/
def groupStart (j : WJob) : WJob :=
  if (j.groupAt j.next).2 = 0 then { j with acc := List.replicate 256 0, taps := List.replicate 16 0, got := [] } else j

/-- A bias read or a write comes after the group's steps, so it clears nothing. -/
theorem groupStart_of_late (h : j.access j.next = .bias ∨ ∃ k, j.access j.next = .write k) : groupStart j = j := by
  refine if_neg fun hfirst => ?_
  have haccess : j.access j.next = .none ∨ (∃ a b, j.access j.next = .input a b) ∨ ∃ a b, j.access j.next = .weight a b := by
    simp only [WJob.access, hfirst]
    split
    · split
      · exact .inl rfl
      split
      · exact .inr (.inl ⟨_, _, rfl⟩)
      split
      · exact .inr (.inr ⟨_, _, rfl⟩)
      · exact .inl rfl
    · rw [if_pos (by omega)]
      exact .inl rfl
  obtain hn | ⟨a, b, hn⟩ | ⟨a, b, hn⟩ := haccess <;> simp [hn] at h

/-- The slot reads: an input, a weight or a bias. -/
abbrev SlotReads (j : WJob) : Prop :=
  (∃ a b, j.access j.next = .input a b ∨ j.access j.next = .weight a b) ∨ j.access j.next = .bias

/-- What a slot's access makes of the state and the job, and the poisoned word that it meets. -/
def slotDoes (s : State) (u base : Nat) (j : WJob) : State × WJob × Option Nat :=
  match j.access j.next with
  | .input _ _ | .weight _ _ | .bias => jobRead s u base (groupStart j) (j.span j.next)
  | .write k => (writeJobPixels s u base (groupStart j) (j.place (j.groupAt j.next).1).1 (j.place (j.groupAt j.next).1).2.1
      (j.place (j.groupAt j.next).1).2.2 ((groupStart j).writePixels k), groupStart j, none)
  | .none => (s, groupStart j, none)

/-- What the job `j'` that job `j`'s slot leaves computes: a step once its last read is in, and the bias values of a bias read. -/
def slotComputes (j j' : WJob) : WJob :=
  match j.access j.next with
  | .input st n => if !j.conv && decide (n + 1 = j.inReads) then
      { j'.runStep (j.place (j.groupAt j.next).1).1 (j.place (j.groupAt j.next).1).2.1 (j.place (j.groupAt j.next).1).2.2 st with got := [] }
    else j'
  | .weight st n => if n + 1 = j.wtReads then
      { j'.runStep (j.place (j.groupAt j.next).1).1 (j.place (j.groupAt j.next).1).2.1 (j.place (j.groupAt j.next).1).2.2 st with got := [] }
    else j'
  | .bias => { j' with
      bias := (List.range 16).map (fun o => ByteMem.rdN j'.got (j.biasBase + 64 * (j.place (j.groupAt j.next).1).2.2 + 4 * o) 4), got := [] }
  | _ => j'

/-- A slot that meets no poison computes and moves on; one that does stops the job where it is. -/
theorem jobAccess_eq (s : State) (u base : Nat) (j : WJob) : jobAccess s u base j =
    if (slotDoes s u base j).2.2.isSome then ((slotDoes s u base j).1, groupStart j, (slotDoes s u base j).2.2)
    else ((slotDoes s u base j).1, { slotComputes j (slotDoes s u base j).2.1 with next := j.next + 2 }, none) := rfl

theorem jobAccess_state (s : State) (u base : Nat) (j : WJob) : (jobAccess s u base j).1 = (slotDoes s u base j).1 := by
  rw [jobAccess_eq]
  split <;> rfl

theorem jobAccess_poison (s : State) (u base : Nat) (j : WJob) : (jobAccess s u base j).2.2 = (slotDoes s u base j).2.2 := by
  rw [jobAccess_eq]
  split
  · rfl
  · next hclean => exact (Option.not_isSome_iff_eq_none.mp hclean).symm

theorem jobAccess_clean (h : (jobAccess s u base j).2.2 = none) :
    (jobAccess s u base j).2.1 = { slotComputes j (slotDoes s u base j).2.1 with next := j.next + 2 } := by
  rw [jobAccess_poison] at h
  rw [jobAccess_eq, h]
  rfl

theorem slotDoes_of_none (h : j.access j.next = .none) : slotDoes s u base j = (s, groupStart j, none) := by
  rw [slotDoes, h]

theorem slotDoes_of_write (h : j.access j.next = .write k) : slotDoes s u base j
    = (writeJobPixels s u base j (j.place (j.groupAt j.next).1).1 (j.place (j.groupAt j.next).1).2.1 (j.place (j.groupAt j.next).1).2.2
        (j.writePixels k), j, none) := by
  rw [slotDoes, h, groupStart_of_late (.inr ⟨k, h⟩)]

theorem slotDoes_of_read (h : SlotReads j) : slotDoes s u base j = jobRead s u base (groupStart j) (j.span j.next) := by
  obtain ⟨a, b, h | h⟩ | h := h <;> rw [slotDoes, h]

theorem slotComputes_of_bias (h : j.access j.next = .bias) : (slotComputes j j').bias = (List.range 16).map (fun o =>
    ByteMem.rdN j'.got (j.biasBase + 64 * (j.place (j.groupAt j.next).1).2.2 + 4 * o) 4) := by
  rw [slotComputes, h]

/-! ### The commands -/

section Due
variable (h : JobDue s u j)
include h

/-- Nothing that holds a job back holds a due one. -/
theorem JobDue.unheld : (!(tileRuns s u) || !(tileAt s u).kern.running || decide (j.dur ≤ j.next) || (tileAt s u).kern.hold.isSome
    || (decide ((tileAt s u).kern.cyc < j.start + j.next) && (tileAt s u).kern.exit.isNone)) = false := by
  obtain ⟨hruns, hkern, -, hleft, hhold, hreached⟩ := h
  rw [hruns, hkern, hhold, decide_eq_false (Nat.not_le.mpr hleft)]
  obtain hcyc | hexit := hreached
  · rw [decide_eq_false (Nat.not_lt.mpr hcyc)]
    rfl
  · rw [Option.isNone_eq_false_iff.mpr (Option.isSome_iff_ne_none.mpr hexit), Bool.and_false]
    rfl

/-- A due slot whose access meets no poison moves the job on. -/
theorem windowJobAccess_clean (hacc : jobAccess (jobTurn s u j) u (kernWindow (tileAt s u)).1 j = (s2, j', none)) :
    windowJobAccess s u = modTile s2 u (fun t => { t with job := some j' }) := by
  have ⟨_, _, hjob, _⟩ := h
  unfold jobTurn at hacc
  simp only [windowJobAccess, hjob, h.unheld, Bool.false_eq_true, if_false, hacc]

/-- One that meets poison stops the kernel. -/
theorem windowJobAccess_poisoned {o : Nat} (hacc : jobAccess (jobTurn s u j) u (kernWindow (tileAt s u)).1 j = (s2, j', some o)) :
    windowJobAccess s u = kernFault s2 u Kind.poisonConsumed j.pc 3 0 0 (2 ^ 32 * o) := by
  have ⟨_, _, hjob, _⟩ := h
  unfold jobTurn at hacc
  simp only [windowJobAccess, hjob, h.unheld, Bool.false_eq_true, if_false, hacc]

end Due

/-- Settles O32: each slot by its kind of access, the command by what the access meets, and the job's end. -/
theorem windowJobs : Obligations.WindowJobs := by
  refine ⟨fun s s2 u j j' hdue => ⟨fun hacc => ?moves, fun o hacc => ?stops⟩,
    fun s u base j => ⟨fun hclean => ?next, fun hacc => ?none, fun k hacc => ?write, fun hacc => ?read, fun hacc hclean => ?bias⟩, ?ends⟩
  case moves => exact settled_of_eq (windowJobAccess_clean hdue hacc)
  case stops => exact settled_of_eq (windowJobAccess_poisoned hdue hacc)
  case next => rw [jobAccess_clean hclean]
  case none =>
    rw [jobAccess_state, jobAccess_poison, slotDoes_of_none hacc]
    exact ⟨rfl, rfl⟩
  case write =>
    rw [jobAccess_state, jobAccess_poison, slotDoes_of_write hacc]
    exact ⟨rfl, rfl⟩
  case read =>
    rw [jobAccess_state, jobAccess_poison, slotDoes_of_read hacc]
    exact ⟨rfl, rfl⟩
  case bias =>
    rw [jobAccess_clean hclean, slotDoes_of_read (.inr hacc), groupStart_of_late (.inl hacc)]
    exact slotComputes_of_bias hacc
  case ends =>
    intro s u j hruns hkern hjob hleft hreached
    refine settled_of_keeps ?_ ⟨rfl, rfl⟩
    rw [windowJobEnd, hjob]
    exact if_pos (by simpa [hruns, hkern, hleft, Option.isSome_iff_ne_none] using hreached)

end Sys2Proof.Machine
end

section
/-! PROOF. Transfers (R187 to R190): the start of a transfer, what one that stops leaves, how a line moves, is read and lands, and
completion. -/

namespace Sys2Proof.Machine

variable {s t : State} {u k ph kind addr : Nat} {x : Xfer}

/-! ### The start (R187, R188) -/

section Start
variable (hruns : tileRuns s u = true) (hx : (tileAt s u).xfers.find? (fun x => !x.started && !x.failed) = some x)
include hruns hx

theorem transferStart_unread (hraw : x.raw = []) : transferStart s u = xferFault s u x Kind.transferDescInvalid 0 := by
  simp [transferStart, hruns, hx, hraw]

theorem transferStart_poisoned (hraw : x.raw ≠ []) (hpoison : x.rawPoison = true) :
    transferStart s u = xferFault s u x Kind.poisonConsumed 0 := by
  simp [transferStart, hruns, hx, hraw, hpoison]

theorem transferStart_bad (hpoison : x.rawPoison = false) (hbad : xferDescOk (parseXfer x (leNat x.raw)) (leNat x.raw) = false) :
    transferStart s u = xferFault s u x Kind.transferDescInvalid 0 := by
  simp [transferStart, hruns, hx, hpoison, hbad]

variable (hraw : x.raw ≠ []) (hpoison : x.rawPoison = false) (hok : xferDescOk (parseXfer x (leNat x.raw)) (leNat x.raw) = true)
include hraw hpoison hok

theorem transferStart_unmapped (haddr : xferAddrFault s u (parseXfer x (leNat x.raw)) = some (kind, addr)) :
    transferStart s u = xferFault s u x kind addr := by
  simp [transferStart, hruns, hx, hraw, hpoison, hok, haddr]

theorem transferStart_starts (haddr : xferAddrFault s u (parseXfer x (leNat x.raw)) = none) :
    transferStart s u = modXfer s u x.slot (fun _ => { parseXfer x (leNat x.raw) with started := true }) := by
  simp [transferStart, hruns, hx, hraw, hpoison, hok, haddr]

end Start

/-! ### A transfer that stops (R143, R188) -/

/-- The transfer of a slot has failed and moves nothing further. -/
def failXfer (s : State) (u k : Nat) : State := modXfer s u k (fun y => { y with failed := true, moved := y.moves })

/-- The record of a transfer's fault (Table 16.2). -/
def xferMsg (s : State) (u : Nat) (x : Xfer) (kind addr : Nat) (orphan : Option Nat) : FaultMsg :=
  ⟨now s % 2 ^ 64, faultHead kind (rqId u 2) u (some x.part) orphan, x.pc % 2 ^ 17, x.desc % 2 ^ 20 + 2 ^ 20 * ((addr >>> 4) % 2 ^ 44)⟩

/-- A record that leaves nothing without an answer has ORPHAN clear (Table 16.1). -/
theorem faultHead_noOrphan (kind reporter subject : Nat) (part : Option Nat) :
    faultHead kind reporter subject part none / 2 ^ 59 % 2 = 0 := by
  unfold faultHead
  cases part <;> simp only <;> omega

/-- A transfer that fails, with its record. -/
def failRecorded (s : State) (u : Nat) (x : Xfer) (kind addr : Nat) (orphan : Option Nat) : State :=
  raiseMsg (failXfer s u x.slot) (xferMsg (failXfer s u x.slot) u x kind addr orphan)

/-- What is left of a failed transfer: its lines wait for no placement, and it leaves the engine once its requests are answered. -/
def leaveEngine (s : State) (u k : Nat) : State :=
  sweepXfer (modTile s u (fun t => { t with
    memWait := t.memWait.filter (fun m => match m.req.use with
      | .dmaWrite j _ => j != k
      | _ => true) })) u k

/-- Where the kernel that issued the transfer still runs, it stops (R143). -/
theorem xferFault_running (hkern : (tileAt s u).kern.running = true) (hid : (tileAt s u).kern.id = x.kern) :
    xferFault s u x kind addr = leaveEngine (stopKernel (failRecorded (drainKern s u) u x kind addr (some 0)) u) u x.slot := by
  simp only [xferFault, xferFaultBy, hkern, hid, decide_true, Bool.and_self, if_true]
  rfl

/-- Where it runs no more, the transfer alone stops. -/
theorem xferFault_ended (h : (tileAt s u).kern.running = false ∨ (tileAt s u).kern.id ≠ x.kern) :
    xferFault s u x kind addr = leaveEngine (failRecorded s u x kind addr none) u x.slot := by
  have hmine : ((tileAt s u).kern.running && decide ((tileAt s u).kern.id = x.kern)) = false := by
    obtain h | h := h <;> simp [h]
  simp only [xferFault, xferFaultBy, hmine, Bool.false_eq_true, if_false]
  rfl

/-- The record is the newest of the collector's inbox, with ORPHAN as it is told. -/
theorem failRecorded_record (s : State) (u : Nat) (x : Xfer) (kind addr : Nat) (orphan : Option Nat) :
    ∃ m, (failRecorded s u x kind addr orphan).flt.inbox = s.flt.inbox ++ [m] ∧ m.head % 1024 = kind % 1024
      ∧ m.head / 2 ^ 59 % 2 = b2n orphan.isSome ∧ m.detail % 2 ^ 20 = x.desc % 2 ^ 20 := by
  refine ⟨xferMsg (failXfer s u x.slot) u x kind addr orphan, rfl, ?_, ?_, ?_⟩
  · simp only [xferMsg, faultHead_kind]
  · cases orphan <;> simp only [xferMsg, faultHead_orphan, faultHead_noOrphan] <;> rfl
  · simp only [xferMsg, Nat.add_mul_mod_self_left, Nat.mod_mod]

theorem failRecorded_tiles (orphan : Option Nat) : (failRecorded s u x kind addr orphan).tiles = (failXfer s u x.slot).tiles := rfl

theorem failRecorded_length (orphan : Option Nat) : (failRecorded s u x kind addr orphan).tiles.length = s.tiles.length := by
  rw [failRecorded_tiles, failXfer, modXfer, modTile_length]

theorem failRecorded_tile (orphan : Option Nat) (hu : u < s.tiles.length) : tileAt (failRecorded s u x kind addr orphan) u = { tileAt s u with
    xfers := (tileAt s u).xfers.map (fun y => if y.slot = x.slot then { y with failed := true, moved := y.moves } else y) } := by
  rw [tileAt, failRecorded_tiles]
  exact tileAt_modTile_same s u _ hu

theorem stopKernel_length : (stopKernel s u).tiles.length = s.tiles.length := by simp [stopKernel, closeHolds]

theorem stopKernel_xfers (hu : u < s.tiles.length) : (tileAt (stopKernel s u) u).xfers = (tileAt s u).xfers := by
  have hlen : u < (closeHolds s u).tiles.length := by simpa [closeHolds] using hu
  rw [stopKernel, tileAt_modTile_same _ u _ hlen, closeHolds_tile hu]

/-- What a failed transfer leaves behind is neither of the thread, nor of the kernel, nor of the collector. -/
theorem leaveEngine_keeps (hu : u < s.tiles.length) : (tileAt (leaveEngine s u k) u).kern = (tileAt s u).kern
    ∧ (tileAt (leaveEngine s u k) u).thread = (tileAt s u).thread ∧ (leaveEngine s u k).flt = s.flt := by
  have hat (f : Tile → Tile) := tileAt_modTile_same s u f hu
  unfold leaveEngine sweepXfer
  split
  · split
    · rw [tileAt_modTile_same _ _ _ (by rw [modTile_length]; exact hu), hat]
      exact ⟨rfl, rfl, rfl⟩
    · rw [hat]
      exact ⟨rfl, rfl, rfl⟩
  · rw [hat]
    exact ⟨rfl, rfl, rfl⟩

/-- Every transfer in slot `k` has failed. -/
abbrev SlotFailed (t : Tile) (k : Nat) : Prop := ∀ y ∈ t.xfers, y.slot = k → y.failed = true

theorem failRecorded_fails (orphan : Option Nat) (hu : u < s.tiles.length) :
    SlotFailed (tileAt (failRecorded s u x kind addr orphan) u) x.slot := by
  rw [failRecorded_tile orphan hu]
  intro y hy hslot
  obtain ⟨z, -, rfl⟩ := List.mem_map.mp hy
  by_cases hz : z.slot = x.slot
  · simp only [if_pos hz]
  · exact absurd (by rwa [if_neg hz] at hslot) hz

/-- A failed transfer without requests that await an answer leaves its slot empty. -/
theorem leaveEngine_empties (hu : u < s.tiles.length) (hfailed : SlotFailed (tileAt s u) k) (houts : xferOuts s u k = []) :
    xferAt (leaveEngine s u k) u k = none := by
  unfold leaveEngine
  generalize hd : modTile s u _ = d
  have hlen : u < d.tiles.length := by rw [← hd, modTile_length]; exact hu
  have hxfers : (tileAt d u).xfers = (tileAt s u).xfers := by rw [← hd, tileAt_modTile_same _ _ _ hu]
  have houts' : xferOuts d u k = [] := by rw [← houts, ← hd]; rfl
  unfold sweepXfer
  split
  · next y hat =>
    have hmem : y ∈ (tileAt s u).xfers := hxfers ▸ List.mem_of_find?_eq_some hat
    have hfail := hfailed y hmem (of_decide_eq_true (List.find?_some hat :))
    rw [if_pos (by rw [hfail, houts']; rfl), xferAt, tileAt_modTile_same _ _ _ hlen]
    simp [List.find?_eq_none]
  · next hat => exact hat

theorem Landed.outs (h : Landed s u t) : t.outs = s.outs := by
  obtain ⟨g, p, v, acc, fr, po, er, ws, st, us, rfl⟩ := h
  rfl

/-- A transfer that stops with its kernel ends kernel and node, and its record has ORPHAN set. -/
theorem xferFault_stops_kernel (hu : u < s.tiles.length) (hkern : (tileAt s u).kern.running = true) (hid : (tileAt s u).kern.id = x.kern) :
    (tileAt (xferFault s u x kind addr) u).kern.running = false ∧ (tileAt (xferFault s u x kind addr) u).thread.running = false
    ∧ ∃ m, (xferFault s u x kind addr).flt.inbox = (drainKern s u).flt.inbox ++ [m] ∧ m.head % 1024 = kind % 1024 ∧ m.head / 2 ^ 59 % 2 = 1
      ∧ m.detail % 2 ^ 20 = x.desc % 2 ^ 20 := by
  have hlen : u < (failRecorded (drainKern s u) u x kind addr (some 0)).tiles.length := by
    rw [failRecorded_length, (drainKern_landed s u).length]
    exact hu
  obtain ⟨hk, -, ht⟩ := stopKernel_tile hlen
  obtain ⟨hkern', hthread, hflt⟩ := leaveEngine_keeps (k := x.slot) (stopKernel_length.symm ▸ hlen)
  rw [xferFault_running hkern hid, hkern', hthread, hflt, hk, ht]
  exact ⟨rfl, rfl, failRecorded_record ..⟩

/-- One whose kernel has ended touches neither kernel nor thread, and its record has ORPHAN clear. -/
theorem xferFault_spares_kernel (hu : u < s.tiles.length) (h : (tileAt s u).kern.running = false ∨ (tileAt s u).kern.id ≠ x.kern) :
    (tileAt (xferFault s u x kind addr) u).kern = (tileAt s u).kern ∧ (tileAt (xferFault s u x kind addr) u).thread = (tileAt s u).thread
    ∧ ∃ m, (xferFault s u x kind addr).flt.inbox = s.flt.inbox ++ [m] ∧ m.head % 1024 = kind % 1024 ∧ m.head / 2 ^ 59 % 2 = 0
      ∧ m.detail % 2 ^ 20 = x.desc % 2 ^ 20 := by
  obtain ⟨hkern, hthread, hflt⟩ := leaveEngine_keeps (s := failRecorded s u x kind addr none) (k := x.slot)
    ((failRecorded_length none).symm ▸ hu)
  rw [xferFault_ended h, hkern, hthread, hflt, failRecorded_tile none hu]
  exact ⟨rfl, rfl, failRecorded_record ..⟩

/-- A transfer that stops with no request unanswered frees its slot at once. -/
theorem xferFault_empties (hu : u < s.tiles.length) (houts : xferOuts s u x.slot = []) :
    xferAt (xferFault s u x kind addr) u x.slot = none := by
  by_cases hmine : (tileAt s u).kern.running = true ∧ (tileAt s u).kern.id = x.kern
  · have hland := drainKern_landed s u
    have hlen : u < (drainKern s u).tiles.length := hland.length.symm ▸ hu
    have hlen' : u < (failRecorded (drainKern s u) u x kind addr (some 0)).tiles.length := (failRecorded_length _).symm ▸ hlen
    rw [xferFault_running hmine.1 hmine.2]
    refine leaveEngine_empties (stopKernel_length.symm ▸ hlen') ?_ ?_
    · rw [SlotFailed, stopKernel_xfers hlen']
      exact failRecorded_fails _ hlen
    · rw [← houts, xferOuts, xferOuts, ← hland.outs]
      rfl
  · rw [xferFault_ended (by simpa [or_iff_not_imp_left] using hmine)]
    exact leaveEngine_empties ((failRecorded_length none).symm ▸ hu) (failRecorded_fails none hu) houts

/-! ### Lines (R189) -/

/-- A line that is due moves: a source line of its codec run is read, and beyond those only the engine's turn is taken. -/
theorem transferLine_due (hruns : tileRuns s u = true) (hturn : (tileAt s u).dmaNext ≤ tileNow s)
    (hx : movingXfer (tileAt (landOwnLines s u) u) = some x) (hissued : x.issuedAt + 16 ≤ tileNow s) : transferLine s u =
      if x.moved % max x.runLines.1 x.runLines.2 < x.runLines.1 then
        xferRead (lineMoves (landOwnLines s u) u x) u { x with moved := x.moved + 1 }
          (x.moved / max x.runLines.1 x.runLines.2 * x.runLines.1 + x.moved % max x.runLines.1 x.runLines.2)
      else lineMoves (landOwnLines s u) u x := by
  have hnow : tileNow (landOwnLines s u) = tileNow s := congrArg Clocks.tile (landOwnLines_clocks s u).2
  unfold transferLine
  rw [if_neg (by simp [hruns, hturn])]
  simp only [hx]
  rw [if_neg (by omega)]
  rfl

theorem xferRead_own {l pa : Nat} (h : windowOf s (tileAt s u) x.bslot (x.srcAddr l) 64 = .own pa) : xferRead s u x l
    = xferSource (meetFrameErrs s u (pa / 8) 8) u x l (ByteMem.rdBytes (tileAt (meetFrameErrs s u (pa / 8) 8) u).frame pa 64)
        (poisonBits (tileAt (meetFrameErrs s u (pa / 8) 8) u).framePoison (pa / 8) 8) := by
  simp only [xferRead, h]

theorem xferRead_stand {l slice off : Nat} (h : windowOf s (tileAt s u) x.bslot (x.srcAddr l) 64 = .stand slice off) : xferRead s u x l
    = sendReq s (lineReq u x l (0x2CC + slice / 16) { space := 1, off := 0x100000 * (slice % 16) + off }) := by
  simp only [xferRead, h]
  rfl

theorem xferRead_host {l iova : Nat} (h : windowOf s (tileAt s u) x.bslot (x.srcAddr l) 64 = .host iova) : xferRead s u x l
    = sendReq s (lineReq u x l (homeUnit s x.part) { space := 2, off := iova }) := by
  simp only [xferRead, h]
  rfl

/-! ### Landing (R190, R326) -/

/-- A transfer counter gains `n` where one is named (R190). -/
def countLines (l : List Nat) (cnt : Option Nat) (n : Nat) : List Nat :=
  match cnt with
  | some c => l.set c ((l.getD c 0 + n) % 2 ^ 32)
  | none => l

theorem Landed.xcnt (h : Landed s u t) (hu : u < s.tiles.length) : (tileAt t u).xcnt = (tileAt s u).xcnt := by
  obtain ⟨g, p, v, acc, fr, po, er, ws, st, us, rfl⟩ := h
  rw [tileAt_setTile_same _ _ _ hu]

theorem Landed.other {w : Nat} (h : Landed s u t) (hw : w ≠ u) : tileAt t w = tileAt s w := by
  obtain ⟨g, p, v, acc, fr, po, er, ws, st, us, rfl⟩ := h
  exact tileAt_setTile_other _ _ _ _ hw.symm

variable {line xfer poison : Nat} {data : List Byte} {recv : Option Nat} {rq : Rq}

/-- A line that lands writes its words, counts where its transfer asks for it, and touches no other tile. -/
theorem writeXferLine_spec (hu : u < s.tiles.length) :
    (tileAt (writeXferLine s u line data poison recv) u).frame
      = (tileAt (frameWriteWords s u (slotPa (tileAt s u) (line / 2 ^ 16) (64 * (line % 2 ^ 14))) 8 (leNat data) poison) u).frame
    ∧ (tileAt (writeXferLine s u line data poison recv) u).xcnt = countLines (tileAt s u).xcnt recv 1
    ∧ ∀ w, w ≠ u → tileAt (writeXferLine s u line data poison recv) w = tileAt s w := by
  have hland := frameWriteWords_landed 8 s u (slotPa (tileAt s u) (line / 2 ^ 16) (64 * (line % 2 ^ 14))) (leNat data) poison
  unfold writeXferLine
  dsimp only
  generalize frameWriteWords s u (slotPa (tileAt s u) (line / 2 ^ 16) (64 * (line % 2 ^ 14))) 8 (leNat data) poison = f at hland
  cases recv with
  | none => exact ⟨rfl, hland.xcnt hu, fun w hw => hland.other hw⟩
  | some c =>
    dsimp only
    rw [tileAt_modTile_same _ _ _ (by rw [hland.length]; exact hu)]
    refine ⟨rfl, ?_, fun w hw => ?_⟩
    · rw [← hland.xcnt hu]
      rfl
    · rw [tileAt_modTile_other _ _ _ _ hw.symm, hland.other hw]

section Lands
variable (h : TileServes s u ph rq (.xferLine line xfer data poison recv))
include h

/-- A line from elsewhere that passes the check is written and acknowledged. -/
theorem transferLineLand_lands (hcheck : tileLineCheck (tileAt s ph) rq.part line 1 = none) (hfar : rq.src / 4 ≠ u) (hfar' : rq.src / 4 ≠ ph) :
    transferLineLand s u rq line xfer data poison recv
      = respond (writeXferLine (takePkt s (reqPkt u rq (.xferLine line xfer data poison recv))) ph line data poison recv) ph rq (.writeAck 1) := by
  have htile : isTile u = true := decide_eq_true h.2.1
  have hcheck' : tileLineCheck (tileAt (takePkt s (reqPkt u rq (.xferLine line xfer data poison recv))) ph) rq.part line 1 = none := hcheck
  simp only [transferLineLand, htile, hfar, arriveTile_served h, hfar', hcheck', Bool.not_true, Bool.false_eq_true, false_and, if_false]

/-- One that fails it is refused. -/
theorem transferLineLand_refused {r : Nat} (hcheck : tileLineCheck (tileAt s ph) rq.part line 1 = some r) (hfar : rq.src / 4 ≠ u)
    (hfar' : rq.src / 4 ≠ ph) : transferLineLand s u rq line xfer data poison recv
      = tileRefuse (takePkt s (reqPkt u rq (.xferLine line xfer data poison recv))) ph rq r := by
  have htile : isTile u = true := decide_eq_true h.2.1
  have hcheck' : tileLineCheck (tileAt (takePkt s (reqPkt u rq (.xferLine line xfer data poison recv))) ph) rq.part line 1 = some r := hcheck
  simp only [transferLineLand, htile, hfar, arriveTile_served h, hfar', hcheck', Bool.not_true, Bool.false_eq_true, false_and, if_false]

/-- A line inside the own frame is written by its engine, from the cycle after it moved. -/
theorem transferLineLand_own (hown : rq.src / 4 = ph) (hturn : (tileAt s u).dmaNext ≤ tileNow s) :
    transferLineLand s u rq line xfer data poison recv
      = landOwn (takePkt s (reqPkt u rq (.xferLine line xfer data poison recv))) ph rq.part line xfer data poison recv := by
  have htile : isTile u = true := decide_eq_true h.2.1
  simp only [transferLineLand, htile, arriveTile_served h, hown, Nat.not_lt.mpr hturn, Bool.not_true, Bool.false_eq_true, and_false, if_false,
    if_true]

end Lands

/-! ### Completion (R189, R190) -/

/-- Tile `t` after the transfer in slot `k` has completed. -/
def retireXfer (t : Tile) (k : Nat) (x : Xfer) : Tile :=
  { t with
    xfers := t.xfers.filter (fun y => y.slot != k)
    xfersDone := (t.xfersDone + 1) % 2 ^ 32
    xcnt := countLines t.xcnt x.sendCnt x.dstTotal }

theorem transferComplete_retires (hruns : tileRuns s u = true) (hx : xferAt s u k = some x) (hstarted : x.started = true)
    (hfailed : x.failed = false) (hmoved : x.moves ≤ x.moved) (hlanded : x.landed = x.dstTotal) : transferComplete s u k
      = if x.doneEv then setEvent (setTile s u (retireXfer (tileAt s u) k x)) u 4 else setTile s u (retireXfer (tileAt s u) k x) := by
  simp only [transferComplete, hruns, hx, hstarted, hfailed, hmoved, hlanded, Bool.not_true, Bool.not_false, Bool.and_self, decide_true,
    Bool.false_eq_true, if_false]
  rfl

/-- An event touches the event register and the thread that it wakes. -/
theorem setEvent_touches (mask : Nat) (hu : u < s.tiles.length) :
    ∃ e th, setEvent s u mask = setTile s u { tileAt s u with event := e, thread := th } := by
  by_cases h : ∃ rd mk lim, (tileAt s u).thread.block = some (.waitEv rd mk lim) ∧ ((tileAt s u).event ||| (mask % 16)) &&& mk ≠ 0
  · obtain ⟨rd, mk, lim, hblock, hset⟩ := h
    exact ⟨_, _, setEvent_selected hu hblock hset⟩
  · simp only [not_exists, not_and, not_not] at h
    exact ⟨_, _, setEvent_unselected hu h⟩

/-- A completed transfer retires; its event and the thread that it wakes may change beside that (R105, R190). -/
theorem transferComplete_leaves (hruns : tileRuns s u = true) (hx : xferAt s u k = some x) (hstarted : x.started = true)
    (hfailed : x.failed = false) (hmoved : x.moves ≤ x.moved) (hlanded : x.landed = x.dstTotal) (hu : u < s.tiles.length) :
    ∃ e th, transferComplete s u k = setTile s u { retireXfer (tileAt s u) k x with event := e, thread := th }
      ∧ (x.doneEv = true → (tileAt s u).thread.block = none → e = (tileAt s u).event ||| 4)
      ∧ (x.doneEv = false → e = (tileAt s u).event) := by
  rw [transferComplete_retires hruns hx hstarted hfailed hmoved hlanded]
  have hlen : u < (setTile s u (retireXfer (tileAt s u) k x)).tiles.length := by rw [setTile_length]; exact hu
  have hat := tileAt_setTile_same s u (retireXfer (tileAt s u) k x) hu
  cases hev : x.doneEv
  · exact ⟨(tileAt s u).event, (tileAt s u).thread, rfl, fun h => absurd h Bool.false_ne_true, fun _ => rfl⟩
  by_cases hblock : (tileAt s u).thread.block = none
  · have hnone : (retireXfer (tileAt s u) k x).thread.block = none := hblock
    rw [if_pos rfl, setEvent_unselected hlen (by rw [hat, hnone]; exact fun _ _ _ h => nomatch h), hat, setTile_setTile]
    exact ⟨(tileAt s u).event ||| 4, (tileAt s u).thread, rfl, fun _ _ => rfl, fun h => nomatch h⟩
  · obtain ⟨e, th, hset⟩ := setEvent_touches 4 hlen
    rw [if_pos rfl, hset, hat, setTile_setTile]
    exact ⟨e, th, rfl, fun _ h => absurd h hblock, fun h => nomatch h⟩

/-! ### The statement -/

/-- Settles O33: the start by its checks, a fault by whether the kernel still runs, and the lines' moves, reads, landings and completion. -/
theorem transfers : Obligations.Transfers := by
  refine ⟨fun s u x hruns hx => ⟨fun hraw hpoison hok => ⟨fun haddr => ?starts, fun kind addr haddr => ?unmapped⟩, fun hbad => ?bad,
      fun hraw hpoison => ?poisoned⟩,
    fun s u kind addr x hu => ⟨xferFault_stops_kernel hu, xferFault_spares_kernel hu, fun _ _ houts => xferFault_empties hu houts⟩,
    fun s u x hruns hturn hx hissued => ⟨fun hsource => ?reads, fun hpast => ?moves⟩,
    fun s u l x => ⟨fun _ _ => xferRead_stand, fun _ => xferRead_host, fun pa m hown hm => ?own⟩,
    fun s u line xfer poison rq data recv hw hu ha htest hex hlen => ⟨fun hcheck hfar hfar' => ?lands, fun r hcheck hfar hfar' => ?refused,
      fun hsrc hsteer hturn => ?ownLine⟩, ?completes⟩
  case starts => exact settled_of_keeps (transferStart_starts hruns hx hraw hpoison hok haddr) ⟨rfl, rfl⟩
  case unmapped => exact settled_of_eq (transferStart_unmapped hruns hx hraw hpoison hok haddr)
  case bad =>
    obtain hraw | ⟨hpoison, hbad⟩ := hbad
    · exact settled_of_eq (transferStart_unread hruns hx hraw)
    · exact settled_of_eq (transferStart_bad hruns hx hpoison hbad)
  case poisoned => exact settled_of_eq (transferStart_poisoned hruns hx hraw hpoison)
  case reads => exact settled_of_eq ((transferLine_due hruns hturn hx hissued).trans (if_pos hsource))
  case moves => exact settled_of_eq ((transferLine_due hruns hturn hx hissued).trans (if_neg (Nat.not_lt.mpr hpast)))
  case own =>
    rw [hm]
    exact xferRead_own hown
  case lands =>
    obtain ⟨hframe, hcount, hother⟩ := writeXferLine_spec (line := line) (data := data) (poison := poison) (recv := recv)
      (s := takePkt s (reqPkt u rq (.xferLine line xfer data poison recv))) hlen
    exact ⟨_, settled_of_eq (transferLineLand_lands ⟨hw, hu, ha, rfl, htest, hex, hlen⟩ hcheck hfar hfar'), hframe, hcount,
      mem_net_sendPkt _ _, hother⟩
  case refused => exact settled_of_eq (transferLineLand_refused ⟨hw, hu, ha, rfl, htest, hex, hlen⟩ hcheck hfar hfar')
  case ownLine =>
    have hland := transferLineLand_own (s := s) (line := line) (xfer := xfer) (data := data) (poison := poison) (recv := recv)
      ⟨hw, hu, ha, rfl, htest, hex, hlen⟩ hsrc hturn
    rw [hsteer] at hland
    exact settled_of_eq hland
  case completes =>
    intro s u k x hruns hx hstarted hfailed hmoved hlanded hu
    obtain ⟨e, th, hdone, hset, hkeep⟩ := transferComplete_leaves hruns hx hstarted hfailed hmoved hlanded hu
    refine ⟨_, settled_of_eq hdone, ?_⟩
    have htile (y : Tile) : tileAt (kept s (setTile s u y)) u = y := tileAt_setTile_same s u y hu
    beta_reduce
    rw [htile]
    exact ⟨rfl, rfl, rfl, hset, hkeep, rfl, rfl⟩

end Sys2Proof.Machine
end

section
/-! PROOF. Sifter jobs (R201 to R204, R219 to R221): what a stop and an end leave of the sifter, how lines are asked for, and what each
command of a sifter comes to in each of its cases. -/

namespace Sys2Proof.Machine

variable {s s1 s3 : State} {k l kind addr desc stand ref : Nat} {j : SJob} {rq : Rq}

theorem sifAt_setSif_same (x : Sif) (hk : k < s.sif.length) : sifAt (setSif s k x) k = x := by simp [sifAt, setSif, hk]

/-- A sifter reads its own state alone. -/
theorem sifAt_of_sif {t : State} (h : t.sif = s.sif) (k : Nat) : sifAt t k = sifAt s k := by rw [sifAt, sifAt, h]

/-! ### Requests that leave a sifter (R338) -/

/-- A request that leaves, or waits for the tag window, is kept, and changes nothing outside the network and the requests. -/
theorem sendReq_touches (s : State) (o : OutReq) : ∃ outs wait net ups tags,
    sendReq s o = { s with outs := outs, sendWait := wait, net := net, ups := ups, tagCtrs := tags }
    ∧ ∃ p ∈ outs ++ wait, p.target = o.target ∧ p.body = o.body := by
  by_cases hopen : (cachedOp o.body && !(windowOpen s (rqId o.unit o.sub) o.part o.target)) = true
  · rw [sendReq, if_pos hopen]
    exact ⟨s.outs, _, s.net, s.ups, s.tagCtrs, rfl, o, by simp, rfl, rfl⟩
  · rw [sendReq, if_neg hopen]
    unfold sendNow
    split <;> exact ⟨_, _, _, _, _, rfl, _, List.mem_append_left _ (List.mem_append_right _ (List.mem_singleton_self _)), rfl, rfl⟩

@[simp] theorem sendReq_sif (s : State) (o : OutReq) : (sendReq s o).sif = s.sif := by
  obtain ⟨_, _, _, _, _, h, -⟩ := sendReq_touches s o
  rw [h]

@[simp] theorem placeOf_sendReq (s : State) (o : OutReq) (p vt : Nat) : placeOf (sendReq s o) p vt = placeOf s p vt := by
  obtain ⟨_, _, _, _, _, h, -⟩ := sendReq_touches s o
  rw [h]
  rfl

@[simp] theorem partTarget_sendReq (s : State) (o : OutReq) (p a : Nat) : partTarget (sendReq s o) p a = partTarget s p a := by
  obtain ⟨_, _, _, _, _, h, -⟩ := sendReq_touches s o
  rw [h]
  rfl

/-! ### Lines (R203) -/

/-- Sifter `k` has asked for line `l` of job `id`. -/
abbrev LineAsked (s : State) (k id l : Nat) : Prop := ∃ o ∈ s.outs, o.unit = sifUnit k ∧ o.use = .siftRead id l

/-- The request of sifter `k` for line `l` of job `j`. -/
abbrev sifLineReq (k : Nat) (j : SJob) (l target : Nat) (m : MemWord) : OutReq :=
  { unit := sifUnit k, part := j.rq.part, target := target, use := .siftRead j.id l, body := .readLine m }

/-- The search of a sifter's requests for a line. -/
theorem any_lineAsked : s.outs.any (fun o => decide (o.unit = sifUnit k) && decide (o.use = .siftRead j.id l)) = true
    ↔ LineAsked s k j.id l := by simp [LineAsked]

theorem sifAsk_again (h : LineAsked s k j.id l) : sifAsk s k j l = s := if_pos (any_lineAsked.mpr h)

theorem sifAsk_new {u : Nat} {m : MemWord} (h : ¬ LineAsked s k j.id l) (htarget : partTarget s j.rq.part l = some (u, m)) :
    sifAsk s k j l = sendReq s (sifLineReq k j l u m) := by
  rw [sifAsk, if_neg (mt any_lineAsked.mp h), htarget]

/-- What asking for lines keeps: the sifters, where the tile addresses lie, and the requests made before. -/
structure AskKept (s t : State) : Prop where
  sif : t.sif = s.sif
  targets : ∀ p a, partTarget t p a = partTarget s p a
  outs : s.outs ⊆ t.outs

theorem AskKept.refl (s : State) : AskKept s s := ⟨rfl, fun _ _ => rfl, fun _ h => h⟩

theorem AskKept.trans {t x : State} (h : AskKept s t) (h' : AskKept t x) : AskKept s x :=
  ⟨h'.sif.trans h.sif, fun p a => (h'.targets p a).trans (h.targets p a), fun _ ho => h'.outs (h.outs ho)⟩

theorem LineAsked.kept {t : State} {id : Nat} (h : LineAsked s k id l) (hkept : AskKept s t) : LineAsked t k id l := by
  obtain ⟨o, ho, hline⟩ := h
  exact ⟨o, hkept.outs ho, hline⟩

/-- A line of a served address has been asked for once it is asked for. -/
theorem sifAsk_asks (h : partTarget s j.rq.part l ≠ none) : AskKept s (sifAsk s k j l) ∧ LineAsked (sifAsk s k j l) k j.id l := by
  by_cases hasked : LineAsked s k j.id l
  · rw [sifAsk_again hasked]
    exact ⟨.refl s, hasked⟩
  · obtain ⟨⟨u, m⟩, htarget⟩ := Option.ne_none_iff_exists'.mp h
    have houts : (sendReq s (sifLineReq k j l u m)).outs = _ :=
      (congrArg State.outs (sendReq_plain s _ rfl)).trans (sendNow_spec s _).2.1
    rw [sifAsk_new hasked htarget]
    refine ⟨⟨sendReq_sif s _, partTarget_sendReq s _, ?_⟩, ?_⟩
    · rw [houts]
      exact List.subset_append_left _ _
    · rw [LineAsked, houts]
      exact ⟨_, List.mem_append_right _ (List.mem_singleton_self _), rfl, rfl⟩

/-- Asking for one line after another, by steps that ask as long as the sifters are as they were. -/
theorem foldl_asks {f : State → Nat → State} (hf : ∀ t, t.sif = s.sif → ∀ l, f t l = sifAsk t k j l) (ls : List Nat)
    (hserved : ∀ l ∈ ls, partTarget s j.rq.part l ≠ none) : AskKept s (ls.foldl f s) ∧ ∀ l ∈ ls, LineAsked (ls.foldl f s) k j.id l := by
  induction ls generalizing s with
  | nil => exact ⟨.refl s, nofun⟩
  | cons a r ih =>
    obtain ⟨ha, hr⟩ := List.forall_mem_cons.mp hserved
    obtain ⟨hkept, hasked⟩ := sifAsk_asks (k := k) ha
    rw [List.foldl_cons, hf s rfl a]
    obtain ⟨hrest, hlines⟩ := ih (fun t ht => hf t (ht.trans hkept.sif)) (fun l hl => by rw [hkept.targets]; exact hr l hl)
    exact ⟨hkept.trans hrest, List.forall_mem_cons.mpr ⟨hasked.kept hrest, hlines⟩⟩

/-! ### Submission (R201, R202) -/

/-- The jobs of a partition at sifter `k`, queued and in progress. -/
abbrev sifShare (s : State) (k p : Nat) : Nat := (((sifAt s k).queue ++ (sifAt s k).jobs).filter (fun j => decide (j.rq.part = p))).length

section Submission
variable (hw : working s = true) (hout : sifOut s k = false) (ha : arrivable s (reqPkt (sifUnit k) rq (.siftSubmit desc stand ref)) = true)
include hw hout ha

theorem siftSubmit_queues (hload : sifLoad s k < 32) (hshare : sifShare s k rq.part < 8) : siftSubmit s k rq desc stand ref
    = respond (setSif (takePkt s (reqPkt (sifUnit k) rq (.siftSubmit desc stand ref))) k { sifAt s k with
        queue := (sifAt s k).queue ++ [{ id := (sifAt s k).nextId, rq := rq, ref := ref, desc := desc }], nextId := (sifAt s k).nextId + 1 })
        (sifUnit k) rq (.result (resultWord false 0 0)) := by
  rw [siftSubmit, if_neg (by simp [hw, hout]), arriveReq_served _ ha]
  exact if_neg (not_or.mpr ⟨Nat.not_le.mpr hload, Nat.not_le.mpr hshare⟩)

theorem siftSubmit_full (hfull : 32 ≤ sifLoad s k ∨ 8 ≤ sifShare s k rq.part) : siftSubmit s k rq desc stand ref
    = respond (takePkt s (reqPkt (sifUnit k) rq (.siftSubmit desc stand ref))) (sifUnit k) rq (.result (resultWord true 0 0x09)) := by
  rw [siftSubmit, if_neg (by simp [hw, hout]), arriveReq_served _ ha]
  exact if_pos hfull

end Submission

/-! ### Admission (R203, R220) -/

/-- Sifter `k` with job `j` taken from its queue into progress. -/
abbrev admitJob (s : State) (k : Nat) (j : SJob) : State :=
  setSif s k { sifAt s k with
    queue := (sifAt s k).queue.filter (fun y => y.id != j.id), jobs := (sifAt s k).jobs ++ [{ j with start := now s }] }

section Admission
variable (hw : working s = true) (hslice : sliceLeft s (sifUnit k) = none) (hroom : (sifAt s k).jobs.length < 4)
  (hj : (sifAt s k).queue.find? (fun j => !((sifAt s k).jobs.any (fun y => decide (y.rq.part = j.rq.part)))) = some j)
include hw hslice hroom hj

theorem siftAdmit_misaligned (hdesc : j.desc % 64 ≠ 0) :
    siftAdmit s k = sifStop (admitJob s k j) k { j with start := now s } Kind.siftDescInvalid 0 := by
  simp [siftAdmit, hw, hslice, hroom, hj, hdesc]

theorem siftAdmit_outside (hdesc : j.desc % 64 = 0) (hregion : regionOk (j.desc, 256) = false) :
    siftAdmit s k = sifStop (admitJob s k j) k { j with start := now s } Kind.siftAddressInvalid j.desc := by
  simp [siftAdmit, hw, hslice, hroom, hj, hdesc, hregion]

theorem siftAdmit_asks (hk : k < s.sif.length) (hphase : j.phase = 0) (hdesc : j.desc % 64 = 0) (hregion : regionOk (j.desc, 256) = true)
    (hserved : ∀ l ∈ j.descLines, partTarget s j.rq.part l ≠ none) (hnew : ∀ y ∈ (sifAt s k).jobs, y.id ≠ j.id) :
    (siftAdmit s k).sif = (admitJob s k j).sif ∧ ∀ l ∈ j.descLines, LineAsked (siftAdmit s k) k j.id l := by
  have hfind (t : State) (ht : t.sif = (admitJob s k j).sif) :
      (sifAt t k).jobs.find? (fun y => decide (y.id = j.id)) = some { j with start := now s } := by
    rw [sifAt_of_sif ht, sifAt_setSif_same _ hk]
    rw [List.find?_append, List.find?_eq_none.mpr (by simpa using hnew)]
    simp
  rw [siftAdmit, if_neg (by simp [hw, hslice, hroom])]
  simp only [hj, hdesc, hregion, ne_eq, not_true_eq_false, Bool.not_true, Bool.false_eq_true, if_false]
  refine And.imp AskKept.sif id (foldl_asks (j := { j with start := now s }) (fun t ht l => ?_) j.descLines hserved)
  rw [hfind t ht]
  exact if_pos hphase

end Admission

/-! ### Segments (R203, R221) -/

theorem siftSegment_goes_on (hw : working s = true) (hcur : (sifAt s k).cur = some j.id)
    (hj : (sifAt s k).jobs.find? (fun y => decide (y.id = j.id)) = some j) : siftSegment s k = sifRun s k j := by
  simp [siftSegment, hw, hcur, hj]

theorem siftSegment_begins (hw : working s = true) (hcur : (sifAt s k).cur = none) (hslice : sliceLeft s (sifUnit k) = none)
    (hj : (sifAt s k).jobs.find? (sifReady s k) = some j) : siftSegment s k = sifRun s k j := by
  simp [siftSegment, hw, hcur, hslice, hj]

theorem sifRun_needs (h : j.segment = .need l) : sifRun s k j = sifAsk (setSif s k { sifAt s k with cur := some j.id }) k j l := by
  rw [sifRun, h]

section Run
variable {g : SSeg} (hseg : j.segment = .ok g) (herr : (if j.phase = 2 then meetSifErr s k j else (s, false)) = (s1, false))
  (hstores : sifStores (g.faults.foldl (fun s f => sifRaise s k j f.1 f.2) s1) k j g.writes = (s3, true))
include hseg herr hstores

theorem sifRun_halts (hhalt : g.halt = some (kind, addr)) : sifRun s k j = sifStop (modJob s3 k j.id (fun _ => g.job)) k j kind addr := by
  simp [sifRun, hseg, herr, hstores, hhalt]

theorem sifRun_ends (hhalt : g.halt = none) : sifRun s k j = setSif s3 k { sifAt s3 k with
    cur := none, jobs := (sifAt s3 k).jobs.filter (fun y => y.id != j.id) ++ [{ g.job with lines := [] }] } := by
  simp [sifRun, hseg, herr, hstores, hhalt]

end Run

/-! ### A job that stops (R221, R222) -/

/-- The job as a fault leaves it. -/
abbrev haltedJob (kind addr : Nat) (j : SJob) : SJob := { j with phase := 4, fault := some kind, faultAddr := addr, lines := [] }

theorem sifAt_modJob (hk : k < s.sif.length) (id : Nat) (f : SJob → SJob) : sifAt (modJob s k id f) k
    = { sifAt s k with jobs := (sifAt s k).jobs.map (fun y => if y.id = id then f y else y) } := sifAt_setSif_same _ hk

/-- The later of two replacements of a sifter stands. -/
theorem setSif_setSif (s : State) (k : Nat) (x y : Sif) : setSif (setSif s k x) k y = setSif s k y := by simp [setSif]

/-- A stop records its fault, marks the job, and ends the segment that the job has under way. -/
theorem sifStop_spec (kind addr : Nat) (j : SJob) (hk : k < s.sif.length) : sifStop s k j kind addr
    = setSif (sifRaise s k j kind addr) k { sifAt s k with
        jobs := (sifAt s k).jobs.map (fun y => if y.id = j.id then haltedJob kind addr y else y)
        cur := if (sifAt s k).cur = some j.id then none else (sifAt s k).cur } := by
  have hat := sifAt_modJob (s := sifRaise s k j kind addr) hk j.id (haltedJob kind addr)
  rw [sifStop, sifHalt, hat]
  by_cases hcur : (sifAt s k).cur = some j.id
  · rw [if_pos hcur]
    exact (if_pos hcur).trans (setSif_setSif _ _ _ _)
  · rw [if_neg hcur]
    exact if_neg hcur

/-! ### Completion (R219) -/

section Completion
variable (hw : working s = true) (hj : (sifAt s k).jobs.find? (fun j => decide (j.phase = 4) && !(sifWriting s k j.id)) = some j)
include hw hj

theorem siftJobComplete_refused (hok : j.resultOk = false) :
    siftJobComplete s k = sifSettle (modJob s k j.id (fun j => { j with phase := 5 })) k j.id := by
  simp [siftJobComplete, hw, hj, hok]

theorem siftJobComplete_unserved (hok : j.resultOk = true) (htarget : partTarget s j.rq.part j.result = none) :
    siftJobComplete s k = sifNoResult s k j := by
  simp [siftJobComplete, hw, hj, hok, htarget]

theorem siftJobComplete_writes {e : Nat} {s0 : State} {j1 : SJob} (hok : j.resultOk = true) (htarget : partTarget s j.rq.part j.result ≠ none)
    (hend : sifEndAt s j = (e, s0)) (hj1 : j1 = { j with endAt := some e, phase := 5 }) : siftJobComplete s k
    = sifSettle (sifStores (modJob s0 k j.id (fun _ => j1)) k j1 [(j.result, j1.record)]).1 k j.id := by
  simp [siftJobComplete, hw, hj, hok, htarget, hend, hj1]

end Completion

/-- Sifter `k` without job `j`, which it has counted. -/
abbrev leaveJob (s : State) (k : Nat) (j : SJob) : State :=
  setSif s k { sifAt s k with
    jobs := (sifAt s k).jobs.filter (fun y => y.id != j.id)
    done := if j.fault.isNone then ((sifAt s k).done + 1) % 2 ^ 32 else (sifAt s k).done
    faulted := if j.fault.isSome then ((sifAt s k).faulted + 1) % 2 ^ 32 else (sifAt s k).faulted }

/-- What a finished job's submitter is told: the bridge of a ring job posts a completion, the scheduler completes an activation. -/
structure ReportOf (j : SJob) (target : Nat) (body : Body) : Prop where
  ring : ∀ b, bridgeOf (j.rq.src / 4) = some b → target = bridgeUnit b
    ∧ body = .cplPost (j.ref / 2 ^ 32) (j.ref % 2 ^ 32) (if j.fault.isSome then 3 else 0) (j.fault.getD 0)
  activation : bridgeOf (j.rq.src / 4) = none → target = 0x301
    ∧ body = .complete j.ref (match j.fault with
      | some f => 2 ^ 31 + 2 ^ 16 * f
      | none => 0)

/-- The job leaves, its report goes out, and then its event. -/
theorem sifFinish_spec (s : State) (k : Nat) (j : SJob) :
    ∃ o, ReportOf j o.target o.body ∧ sifFinish s k j = sifEvent (sendReq (leaveJob s k j) o) k j := by
  unfold sifFinish
  cases hbridge : bridgeOf (j.rq.src / 4) with
  | some b =>
    refine ⟨_, ⟨fun b' hb => ?_, fun hb => nomatch hbridge.symm.trans hb⟩, rfl⟩
    obtain rfl := Option.some.inj (hbridge.symm.trans hb)
    exact ⟨rfl, rfl⟩
  | none => exact ⟨_, ⟨fun _ hb => (nomatch hbridge.symm.trans hb), fun _ => ⟨rfl, rfl⟩⟩, rfl⟩

/-- A job's event is a packet to a tile, a fault message, or nothing. -/
theorem sifEvent_touches (s : State) (k : Nat) (j : SJob) : ∃ flt net ups, sifEvent s k j = { s with flt := flt, net := net, ups := ups } := by
  unfold sifEvent
  split
  · exact ⟨s.flt, s.net, s.ups, rfl⟩
  · split
    · exact ⟨s.flt, _, _, rfl⟩
    · exact ⟨_, s.net, s.ups, rfl⟩

/-- SIFT_DONE goes to the tile that hosts the event's virtual tile. -/
theorem sifEvent_sets {p : Place} (hwants : bit (j.f 1 1) 0 = true) (hplace : placeOf s j.rq.part (j.f 2 2) = some p) :
    { cls := 2, dest := p.unit, src := rqId (sifUnit k) 0, part := j.rq.part, tag := 0, body := .eventSet 8 } ∈ (sifEvent s k j).net := by
  rw [sifEvent, if_neg (by simp [hwants]), hplace]
  exact mem_net_sendPkt _ _

/-- What a finished job leaves of its sifter, the requests and the tiles. -/
theorem sifFinish_leaves (s : State) (k : Nat) (j : SJob) : (sifFinish s k j).sif = (leaveJob s k j).sif ∧ (sifFinish s k j).tiles = s.tiles
    ∧ ∃ p ∈ (sifFinish s k j).outs ++ (sifFinish s k j).sendWait, ReportOf j p.target p.body := by
  obtain ⟨o, hreport, hfinish⟩ := sifFinish_spec s k j
  obtain ⟨_, _, _, hevent⟩ := sifEvent_touches (sendReq (leaveJob s k j) o) k j
  obtain ⟨_, _, _, _, _, hsend, p, hp, htarget, hbody⟩ := sendReq_touches (leaveJob s k j) o
  rw [hfinish, hevent, hsend]
  exact ⟨rfl, rfl, p, hp, by rwa [htarget, hbody]⟩

theorem sifFinish_event {p : Place} (hwants : bit (j.f 1 1) 0 = true) (hplace : placeOf s j.rq.part (j.f 2 2) = some p) :
    { cls := 2, dest := p.unit, src := rqId (sifUnit k) 0, part := j.rq.part, tag := 0, body := .eventSet 8 } ∈ (sifFinish s k j).net := by
  obtain ⟨o, -, hfinish⟩ := sifFinish_spec s k j
  rw [hfinish]
  exact sifEvent_sets hwants ((placeOf_sendReq _ o _ _).trans hplace)

/-! ### The statement -/

/-- Settles O35: each command by its cases, and a stop and an end by what they leave of their sifter. -/
theorem sifterJobs : Obligations.SifterJobs := by
  refine ⟨fun s k desc stand ref rq hw hout hk ha => ⟨fun hload hshare => ?queues, fun hfull => ?full⟩,
    fun s s1 k j hw hslice hroom hk hj hs1 => ⟨fun hphase hdesc hregion hserved hnew => ?admits, fun hdesc => ?misaligned,
      fun hdesc hregion => ?outside⟩,
    fun s k j hw hk => ⟨fun hcur hj => settled_of_eq (siftSegment_goes_on hw hcur hj),
      fun hcur hslice hj => settled_of_eq (siftSegment_begins hw hcur hslice hj), fun l => sifRun_needs, fun l u m htarget hnew => ?asks,
      fun g s1 s3 hseg herr hstores => ⟨fun _ _ => sifRun_halts hseg herr hstores, sifRun_ends hseg herr hstores⟩⟩,
    fun s k kind addr j hk hj => ?stops,
    fun s k j hw hj => ⟨fun hok => settled_of_eq (siftJobComplete_refused hw hj hok),
      fun hok htarget => settled_of_eq (siftJobComplete_unserved hw hj hok htarget),
      fun e s0 j1 hok htarget hend hj1 => settled_of_eq (siftJobComplete_writes hw hj hok htarget hend hj1)⟩,
    fun s k j hk t ht => ?finishes⟩
  case queues => exact settled_of_keeps (siftSubmit_queues hw hout ha hload hshare) ⟨rfl, rfl⟩
  case full => exact settled_of_keeps (siftSubmit_full hw hout ha hfull) ⟨rfl, rfl⟩
  case admits =>
    obtain ⟨hsif, hlines⟩ := siftAdmit_asks hw hslice hroom hj hk hphase hdesc hregion hserved hnew
    subst hs1
    exact ⟨_, settled_next s _, sifAt_of_sif hsif k, hlines⟩
  case misaligned =>
    subst hs1
    exact settled_of_eq (siftAdmit_misaligned hw hslice hroom hj hdesc)
  case outside =>
    subst hs1
    exact settled_of_eq (siftAdmit_outside hw hslice hroom hj hdesc hregion)
  case asks => exact sifAsk_new (fun ⟨o, ho, hunit, huse⟩ => hnew o ho hunit huse) htarget
  case stops =>
    rw [sifStop_spec kind addr j hk]
    have hat (x : Sif) : sifAt (setSif (sifRaise s k j kind addr) k x) k = x := sifAt_setSif_same x hk
    refine ⟨fun y hy hid => ?_, ?_, rfl, rfl⟩
    · rw [hat] at hy
      obtain ⟨z, -, rfl⟩ := List.mem_map.mp hy
      by_cases hz : z.id = j.id
      · simp [hz]
      · simp [hz] at hid
    · rw [hat]
      by_cases hcur : (sifAt s k).cur = some j.id <;> simp [hcur]
  case finishes =>
    obtain ⟨hsif, htiles, p, hp, hreport⟩ := sifFinish_leaves s k j
    have hat := (sifAt_of_sif hsif k).trans (sifAt_setSif_same _ hk)
    subst ht
    rw [hat]
    refine ⟨rfl, htiles, fun hfault => by simp [hfault], fun f hfault => by simp [hfault], fun b hb => ⟨p, hp, hreport.ring b hb⟩,
      fun hb => ⟨p, hp, hreport.activation hb⟩, fun q => sifFinish_event⟩

end Sys2Proof.Machine
end

section
/-! PROOF. The schedulers' records and stores (R224, R232, R236, R248, R286): what each operation leaves of them, and how a cached
request ends, said once. -/

namespace Sys2Proof.Machine

variable {s t : State} {i j : Nat}

/-- A command that settles leaves what its effect leaves. -/
theorem leaves_of_eq {c : Instr} {P : State → Prop} (hexec : exec c s = .next (kept s t)) (h : P (kept s t)) : Leaves c s P := ⟨_, hexec, h⟩

/-! ### Records -/

/-- A record that is written reads as written, and the others as before. -/
@[simp] theorem recAt_setRec_same (s : State) (i : Nat) (r : Rec) : recAt (setRec s i r) i = r := SMap.get_put_same ..

theorem recAt_setRec_other (h : j ≠ i) (r : Rec) : recAt (setRec s i r) j = recAt s j := SMap.get_put_other _ _ h _

/-- A record is read from the record store alone. -/
theorem recAt_of_recs (h : t.sch.recs = s.sch.recs) (i : Nat) : recAt t i = recAt s i := by rw [recAt, recAt, h]

/-- What it holds besides the records stays. -/
@[simp] theorem setRec_entering (s : State) (i : Nat) (r : Rec) : (setRec s i r).sch.entering = s.sch.entering := by rw [setRec]
@[simp] theorem setRec_stores (s : State) (i : Nat) (r : Rec) : (setRec s i r).sch.stores = s.sch.stores := by rw [setRec]
@[simp] theorem setRec_free (s : State) (i : Nat) (r : Rec) : (setRec s i r).sch.free = s.sch.free := by rw [setRec]
@[simp] theorem setRec_takes (s : State) (i : Nat) (r : Rec) : (setRec s i r).sch.takes = s.sch.takes := by rw [setRec]
@[simp] theorem setRec_admitted (s : State) (i : Nat) (r : Rec) : (setRec s i r).sch.admitted = s.sch.admitted := by rw [setRec]

@[simp] theorem kept_sch (s t : State) : (kept s t).sch = t.sch := rfl
@[simp] theorem kept_tiles (s t : State) : (kept s t).tiles = t.tiles := rfl
@[simp] theorem kept_net (s t : State) : (kept s t).net = t.net := rfl
@[simp] theorem answeredKept_sch (s : State) (target : Nat) (rq : Rq) (r : Resp) : (answeredKept s target rq r).sch = s.sch := rfl

@[simp] theorem recAt_kept (s t : State) (i : Nat) : recAt (kept s t) i = recAt t i := rfl
@[simp] theorem recAt_takePkt (s : State) (p : Packet) (i : Nat) : recAt (takePkt s p) i = recAt s i := rfl
@[simp] theorem recAt_sendPkt (s : State) (p : Packet) (i : Nat) : recAt (sendPkt s p) i = recAt s i := rfl
@[simp] theorem recAt_respond (s : State) (target : Nat) (rq : Rq) (r : Resp) (i : Nat) : recAt (respond s target rq r) i = recAt s i := rfl
@[simp] theorem recAt_leaveStores (s : State) (j i : Nat) : recAt (leaveStores s j) i = recAt s i := rfl
@[simp] theorem recAt_spoor (s : State) (j event unit status vt detail i : Nat) :
    recAt (spoor s j event unit status vt detail) i = recAt s i := rfl

@[simp] theorem recAt_answeredKept (s : State) (target : Nat) (rq : Rq) (r : Resp) (i : Nat) : recAt (answeredKept s target rq r) i = recAt s i := rfl

/-- A request that leaves, or waits for the tag window, changes no scheduler, gate or destination. -/
@[simp] theorem sendReq_sch (s : State) (o : OutReq) : (sendReq s o).sch = s.sch := by
  obtain ⟨_, _, _, _, _, h, -⟩ := sendReq_touches s o
  rw [h]

theorem sendReq_left (s : State) (o : OutReq) :
    ∃ p ∈ (sendReq s o).outs ++ (sendReq s o).sendWait, p.target = o.target ∧ p.body = o.body := by
  obtain ⟨_, _, _, _, _, h, hleft⟩ := sendReq_touches s o
  rw [h]
  exact hleft

@[simp] theorem recAt_sendReq (s : State) (o : OutReq) (i : Nat) : recAt (sendReq s o) i = recAt s i := recAt_of_recs (by simp) i

/-- Whether the trace holds an event depends on the trace alone. -/
theorem spoorHolds_congr (htrl : t.trl = s.trl) (hexport : t.traceExport = s.traceExport) : spoorHolds t = spoorHolds s := by
  funext event part cls on
  simp only [spoorHolds, htrl, hexport]

/-- For an event about a record it depends also on the record's partition, class and trail. -/
theorem recHeld_congr {r : Rec} (event : Nat) (htrl : t.trl = s.trl) (hexport : t.traceExport = s.traceExport) (hrec : recAt t i = r)
    (hpart : r.part = (recAt s i).part) (hcls : r.cls = (recAt s i).cls) (htrail : r.trail = (recAt s i).trail) :
    recHeld t event i = recHeld s event i := by
  rw [recHeld, recHeld, spoorHolds_congr htrl hexport, hrec, hpart, hcls, htrail]

/-! ### Cached requests (R339) -/

section Cached
variable {target : Nat} {rq : Rq} {eval : State → Eval} {r : Resp}

/-- A request with a new tag that changes its target's state is answered, and the answer kept. -/
theorem cachedReq_kept (hs : sliceLeft s target = none) (hr : s.replays.find? (fun e => e.is target rq) = none)
    (he : eval s = { st := t, ans := some r }) : cachedReq s target rq eval = answeredKept t target rq r := by
  rw [cachedReq_new hs hr (congrArg Eval.ans he), he]
  rfl

/-- One that changes nothing is answered. -/
theorem cachedReq_unchanged (hs : sliceLeft s target = none) (hr : s.replays.find? (fun e => e.is target rq) = none)
    (he : eval s = { st := t, ans := some r, changed := false }) : cachedReq s target rq eval = respond t target rq r := by
  rw [cachedReq_new hs hr (congrArg Eval.ans he), he]
  rfl

/-- The answer is in the network. -/
theorem rspOf_mem_respond (s : State) (target : Nat) (rq : Rq) (r : Resp) : rspOf target rq r ∈ (respond s target rq r).net :=
  List.mem_append_right _ (List.mem_singleton_self _)

end Cached

/-- A fault message that is raised is the newest of the collector's inbox and names its kind. -/
theorem raise_inbox (s : State) (kind reporter : Nat) (part : Option Nat) (addr detail : Nat) :
    ∃ m, (raise s kind reporter part addr detail).flt.inbox = s.flt.inbox ++ [m] ∧ m.head % 1024 = kind % 1024 :=
  ⟨_, congrArg (fun x => x.flt.inbox) (raise_spec s kind reporter part addr detail), faultHead_kind kind reporter (reporter / 4) part none⟩

/-! ### Retirement (R248, R249) -/

/-- The record of an effect of its retirement keeps all but the count of its effects. -/
theorem recAt_sendDecrement (s : State) (i h : Nat) (failed : Bool) :
    ∃ n, recAt (sendDecrement s i h failed) i = { recAt s i with effects := n } := by
  unfold sendDecrement
  split
  · exact ⟨_, rfl⟩
  · exact ⟨_, by rw [recAt_sendReq, recAt_setRec_same]⟩

theorem recAt_sendHostCompletion (s : State) (i : Nat) : ∃ n, recAt (sendHostCompletion s i) i = { recAt s i with effects := n } := by
  dsimp only [sendHostCompletion]
  split
  · exact ⟨_, by rw [recAt_sendReq, recAt_setRec_same]⟩
  · exact ⟨_, rfl⟩

theorem recAt_sendContextRelease (s : State) (i j : Nat) : recAt (sendContextRelease s i) j = recAt s j := by
  dsimp only [sendContextRelease]
  split
  · rfl
  · split
    · rfl
    · exact recAt_sendReq ..

/-- A record whose effects begin is released, and keeps all but their count. -/
theorem recAt_retireEffects (s : State) (i : Nat) : ∃ n, recAt (retireEffects s i) i = { recAt s i with released := true, effects := n } := by
  obtain ⟨a, ha⟩ := recAt_sendDecrement (setRec s i { recAt s i with released := true }) i (recAt s i).notify0 (recAt s i).failed
  obtain ⟨b, hb⟩ := recAt_sendDecrement (sendDecrement (setRec s i { recAt s i with released := true }) i (recAt s i).notify0 (recAt s i).failed)
    i (recAt s i).notify1 (recAt s i).failed
  obtain ⟨c, hc⟩ := recAt_sendHostCompletion (sendDecrement (sendDecrement (setRec s i { recAt s i with released := true }) i (recAt s i).notify0
    (recAt s i).failed) i (recAt s i).notify1 (recAt s i).failed) i
  exact ⟨c, by rw [retireEffects, recAt_sendContextRelease, hc, hb, ha, recAt_setRec_same]⟩

/-- A record that completes is RETIRING, with its generation as before. -/
theorem recAt_acceptCompletion (s : State) (i : Nat) (failed : Bool) (status : Nat) (kind : Option Nat) :
    (recAt (acceptCompletion s i failed status kind) i).state = 4 ∧ (recAt (acceptCompletion s i failed status kind) i).failed = failed
    ∧ (recAt (acceptCompletion s i failed status kind) i).gen = (recAt s i).gen := by
  dsimp only [acceptCompletion]
  split
  · rw [recAt_sendReq, recAt_setRec_same]
    exact ⟨rfl, rfl, rfl⟩
  · generalize hx : setRec _ i _ = x
    obtain ⟨n, hn⟩ := recAt_retireEffects x i
    rw [hn, ← hx, recAt_setRec_same]
    exact ⟨rfl, rfl, rfl⟩

/-- A retirement that the trace does not hold. -/
theorem recAt_retireFailed (kind : Nat) (h : recHeld s 5 i = false) : (recAt (retireFailed s i kind) i).state = 4
    ∧ (recAt (retireFailed s i kind) i).failed = true ∧ (recAt (retireFailed s i kind) i).gen = (recAt s i).gen := by
  have heq : retireFailed s i kind
      = acceptCompletion (setRec (leaveStores s i) i { recAt s i with state := 3 }) i true 0 (some kind) :=
    if_neg (by rw [show recHeld (leaveStores s i) 5 i = recHeld s 5 i from rfl, h]; decide)
  rw [heq]
  obtain ⟨hstate, hfailed, hgen⟩ := recAt_acceptCompletion (setRec (leaveStores s i) i { recAt s i with state := 3 }) i true 0 (some kind)
  exact ⟨hstate, hfailed, hgen.trans (by rw [recAt_setRec_same])⟩

/-! ### A record becomes READY (R232, R249) -/

/-- Record `i` is READY with the forest time of the cycle. -/
def readied (s : State) (i : Nat) : State := setRec s i { recAt s i with state := 2, readyAt := now s }

theorem recAt_readied (s : State) (i : Nat) : recAt (readied s i) i = { recAt s i with state := 2, readyAt := now s } := recAt_setRec_same s i _

/-- It has also joined the records that enter a store. -/
def entered (s : State) (i : Nat) : State := { readied s i with sch := { (readied s i).sch with entering := s.sch.entering ++ [i] } }

theorem entered_entering (s : State) (i : Nat) : (entered s i).sch.entering = s.sch.entering ++ [i] := by rw [entered]

theorem recAt_entered (s : State) (i : Nat) : recAt (entered s i) i = { recAt s i with state := 2, readyAt := now s } :=
  recAt_readied s i

theorem makeReady_enters (h : ((recAt s i).failedPred && (recAt s i).propagate) = false) : makeReady s i = entered s i := by
  dsimp only [makeReady]
  rw [h]
  rfl

/-- With a failed predecessor and PROPAGATE_FAIL it is retired as failed, where the trace does not hold the retirement. -/
theorem makeReady_fails (h : ((recAt s i).failedPred && (recAt s i).propagate) = true) (hfree : recHeld s 5 i = false) :
    (recAt (makeReady s i) i).state = 4 ∧ (recAt (makeReady s i) i).failed = true ∧ (recAt (makeReady s i) i).gen = (recAt s i).gen := by
  have heq : makeReady s i = retireFailed { readied s i with freeCtr := s.freeCtr + 1 } i (Config.freeNat s.freeCtr % 1024) := by
    dsimp only [makeReady]
    rw [h]
    rfl
  have hrec : recAt { readied s i with freeCtr := s.freeCtr + 1 } i = { recAt s i with state := 2, readyAt := now s } := recAt_readied s i
  have hheld := (recHeld_congr (s := s) 5 (by simp [readied]) (by simp [readied]) hrec rfl rfl rfl).trans hfree
  obtain ⟨hstate, hfailed, hgen⟩ := recAt_retireFailed (Config.freeNat s.freeCtr % 1024) hheld
  rw [heq]
  exact ⟨hstate, hfailed, hgen.trans (congrArg Rec.gen hrec :)⟩

end Sys2Proof.Machine
end

section
/-! PROOF. Dependence counters and ready stores (R232, R233, R236, R237). -/

namespace Sys2Proof.Machine

variable {s : State} {rq : Rq} {h i : Nat} {failed : Bool}

theorem exec_decrement (s : State) (rq : Rq) (h : Nat) (failed : Bool) :
    exec (.decrement rq h failed) s = .next (kept s (decrement s rq h failed)) := rfl

/-! ### Decrements -/

/-- The record of a decrement that is applied. -/
abbrev decremented (r : Rec) (failed : Bool) : Rec := { r with dep := r.dep - 1, failedPred := r.failedPred || failed }

section Apply
variable {p src : Nat} (hlive : liveHandle s p h = some i)
include hlive

theorem decrementApply_lowers (hstate : (recAt s i).state = 1) (hdep : 1 < (recAt s i).dep) :
    decrementApply s p src h failed = (setRec s i (decremented (recAt s i) failed), 0) := by
  have hleft : ¬ (recAt s i).dep - 1 = 0 := by omega
  simp only [decrementApply, hlive]
  rw [if_pos hstate, if_neg hleft]

theorem decrementApply_readies (hstate : (recAt s i).state = 1) (hdep : (recAt s i).dep = 1) :
    decrementApply s p src h failed = (makeReady (setRec s i (decremented (recAt s i) failed)) i, 0) := by
  have hlast : (recAt s i).dep - 1 = 0 := by omega
  simp only [decrementApply, hlive]
  rw [if_pos hstate, if_pos hlast]

theorem decrementApply_underflow (hstate : (recAt s i).state ≠ 1) : decrementApply s p src h failed
    = (raise s Kind.depUnderflow (rqId 0x302 0) (some p) (schedAddr s i) src, 0x14) := by
  simp only [decrementApply, hlive, hstate, if_false]

end Apply

theorem decrementApply_invalid {p src : Nat} (hlive : liveHandle s p h = none) : decrementApply s p src h failed
    = (raise s Kind.depTargetInvalid (rqId 0x302 0) (some p) (h % 2 ^ 32) src, 0x13) := by simp only [decrementApply, hlive]

/-- The state in which a decrement is applied: its request has left the network. -/
abbrev decTaken (s : State) (rq : Rq) (h : Nat) (failed : Bool) : State := takePkt s (reqPkt 0x302 rq (.depDec h failed))

/-- The record's counter is lowered. -/
abbrev decLowered (s : State) (rq : Rq) (h : Nat) (failed : Bool) (i : Nat) : State :=
  setRec (decTaken s rq h failed) i (decremented (recAt s i) failed)

section Served
variable (hnew : ReachesNew s 0x302 rq (.depDec h failed)) {t : State}
include hnew

/-- A decrement that is applied is answered, and its answer kept. -/
theorem decrement_applied (happly : decrementApply (decTaken s rq h failed) rq.part rq.src h failed = (t, 0)) :
    decrement s rq h failed = answeredKept t 0x302 rq (.result (resultWord false 0 0)) := by
  obtain ⟨⟨hw, ha, hs⟩, hr⟩ := hnew
  rw [decrement, hw, arriveReq_served _ ha]
  exact cachedReq_kept (s := takePkt s _) hs hr (by rw [happly]; rfl)

/-- One that is refused is answered with its status. -/
theorem decrement_refused {st : Nat} (hst : st ≠ 0) (happly : decrementApply (decTaken s rq h failed) rq.part rq.src h failed = (t, st)) :
    decrement s rq h failed = respond t 0x302 rq (.result (resultWord true 0 st)) := by
  obtain ⟨⟨hw, ha, hs⟩, hr⟩ := hnew
  rw [decrement, hw, arriveReq_served _ ha]
  exact cachedReq_unchanged (s := takePkt s _) hs hr (by rw [happly]; simp only [hst, ne_eq, not_false_eq_true, decide_true, decide_false])

/-- The last decrement makes its record READY, or fails it. -/
theorem decrement_readies (hlive : liveHandle s rq.part h = some i) (hstate : (recAt s i).state = 1) (hdep : (recAt s i).dep = 1) :
    decrement s rq h failed = answeredKept (makeReady (decLowered s rq h failed i) i) 0x302 rq (.result (resultWord false 0 0)) :=
  decrement_applied hnew (decrementApply_readies (s := decTaken s rq h failed) hlive hstate hdep)

/-- A refusal with a fault message changes no record, is answered, and is the collector's newest message. -/
theorem leaves_decrementRefused {kind addr st : Nat} (hkind : kind % 1024 = kind) (hst : st ≠ 0)
    (happly : decrementApply (decTaken s rq h failed) rq.part rq.src h failed
      = (raise (decTaken s rq h failed) kind (rqId 0x302 0) (some rq.part) addr rq.src, st)) :
    Leaves (.decrement rq h failed) s (fun t => t.sch = s.sch ∧ rspOf 0x302 rq (.result (resultWord true 0 st)) ∈ t.net
      ∧ ∃ m, t.flt.inbox = s.flt.inbox ++ [m] ∧ m.head % 1024 = kind) := by
  refine leaves_of_eq (by rw [exec_decrement, decrement_refused hnew hst happly]) ?_
  obtain ⟨m, hm, hhead⟩ := raise_inbox (decTaken s rq h failed) kind (rqId 0x302 0) (some rq.part) addr rq.src
  exact ⟨rfl, rspOf_mem_respond .., m, hm, hhead.trans hkind⟩

end Served

/-! ### Ready stores -/

theorem joinStore_enters {k : Nat} (hroom : (rstore s k).ents.length < storeCap (rstore s k))
    (hchain : (rstore s k).chains.getD (recAt s i).prio [] = []) :
    joinStore s k i = setRstore s k { rstore s k with ents := (rstore s k).ents ++ [i] } := by
  have hdirect : (decide ((rstore s k).ents.length < storeCap (rstore s k)) && ((rstore s k).chains.getD (recAt s i).prio []).isEmpty) = true := by
    rw [hchain, decide_eq_true hroom]
    rfl
  exact congrArg (setRstore s k) (if_pos hdirect)

theorem joinStore_chains {k : Nat} (h : storeCap (rstore s k) ≤ (rstore s k).ents.length ∨ (rstore s k).chains.getD (recAt s i).prio [] ≠ []) :
    joinStore s k i = setRstore s k { rstore s k with
      chains := (rstore s k).chains.set (recAt s i).prio ((rstore s k).chains.getD (recAt s i).prio [] ++ [i]) } := by
  have hfull : ¬ ((rstore s k).ents.length < storeCap (rstore s k) ∧ (rstore s k).chains.getD (recAt s i).prio [] = []) :=
    fun ⟨hroom, hchain⟩ => h.elim (Nat.not_le.mpr hroom) (· hchain)
  rw [joinStore, if_neg (by simpa only [Bool.and_eq_true, decide_eq_true_eq, List.isEmpty_iff] using hfull)]

/-- Settles O37: each outcome of a decrement through what it applies, and each way into a store through the operation's own lemma. -/
theorem decrementsAndReadyStores : Obligations.DecrementsAndReadyStores := by
  refine ⟨fun s rq h i failed hnew hlive => ⟨fun hstate hdep => ?lowers, fun hstate hdep hgood => ?readies, fun hstate hdep hbad hfree => ?fails,
      fun hstate => leaves_decrementRefused hnew (by decide) (by decide) (decrementApply_underflow (s := decTaken s rq h failed) hlive hstate)⟩,
    fun s rq h failed hnew hlive => ?nowhere, fun s i r hw hentering hfree hr => ?enters, fun s i k _ => ⟨joinStore_enters, joinStore_chains⟩⟩
  case lowers =>
    rw [exec_decrement, decrement_applied hnew (decrementApply_lowers (s := decTaken s rq h failed) hlive hstate hdep)]
    rfl
  case readies =>
    have hready : makeReady (decLowered s rq h failed i) i = entered (decLowered s rq h failed i) i :=
      makeReady_enters (by rw [recAt_setRec_same]; exact hgood)
    refine leaves_of_eq (by rw [exec_decrement, decrement_readies hnew hlive hstate hdep, hready]) ?_
    simp only [recAt_kept, recAt_answeredKept, recAt_entered, recAt_setRec_same]
    refine ⟨by rw [hdep]; rfl, ?_, by simp [answeredKept, entered, readied]⟩
    rw [kept_sch, answeredKept_sch, entered_entering, setRec_entering, takePkt_sch]
  case fails =>
    have hrec : recAt (decLowered s rq h failed i) i = decremented (recAt s i) failed := recAt_setRec_same ..
    obtain ⟨hretiring, hfailed, hgen⟩ := makeReady_fails (s := decLowered s rq h failed i) (by rw [hrec]; exact hbad)
      ((recHeld_congr (s := s) 5 (by simp) (by simp) hrec rfl rfl rfl).trans hfree)
    refine leaves_of_eq (by rw [exec_decrement, decrement_readies hnew hlive hstate hdep]) ?_
    simp only [recAt_kept, recAt_answeredKept]
    exact ⟨hretiring, hfailed, hgen.trans (congrArg Rec.gen hrec :)⟩
  case nowhere => exact leaves_decrementRefused hnew (by decide) (by decide) (decrementApply_invalid (s := decTaken s rq h failed) hlive)
  case enters =>
    subst hr
    rw [show exec (.readyStoreEntry i) s = .next (kept s (readyStoreEntry s i)) from rfl, readyStoreEntry, if_neg (by simp [hw, hentering, hfree])]

end Sys2Proof.Machine
end

section
/-! PROOF. Admission (R228 to R231, R263, Table 8.4): what each step of the table comes to, and the record that an admission writes. -/

namespace Sys2Proof.Machine

variable {s t x s1 : State} {rq : Rq} {req : AdmitReq} {c : WClass} {i ctx : Nat} {f : FreeList}

theorem exec_admitReq (s : State) (rq : Rq) (req : AdmitReq) : exec (.admitReq rq req) s = .next (kept s (admission s rq req)) := rfl

/-! ### What the steps leave (Table 8.4) -/

/-- Only the count of clamped priorities and the network have changed. -/
structure OnlyClamped (s x : State) : Prop where
  recs : x.sch.recs = s.sch.recs
  free : x.sch.free = s.sch.free
  entering : x.sch.entering = s.sch.entering
  quotas : x.sch.quotas = s.sch.quotas
  admitted : x.sch.admitted = s.sch.admitted
  noSpace : x.sch.noSpace = s.sch.noSpace
  ctx : x.ctx = s.ctx
  tiles : x.tiles = s.tiles
  time : now x = now s

theorem OnlyClamped.countRecs (h : OnlyClamped s x) (p : Rec → Bool) : countRecs x p = countRecs s p := by
  simp only [Machine.countRecs, h.recs]

theorem OnlyClamped.freeRecord (h : OnlyClamped s x) : freeRecord x = freeRecord s := by
  simp only [Machine.freeRecord, recAt, h.recs, h.free]

/-- A refusal writes no record and takes no context. -/
theorem admitRefuse_keeps (s : State) (rq : Rq) (req : AdmitReq) (status step : Nat) (kind : Option Nat) :
    (admitRefuse s rq req status step kind).st.sch.recs = s.sch.recs ∧ (admitRefuse s rq req status step kind).st.sch.free = s.sch.free
    ∧ (admitRefuse s rq req status step kind).st.ctx = s.ctx := by
  cases kind <;> refine ⟨?_, ?_, rfl⟩ <;> dsimp only [admitRefuse, raise_spec] <;> split_ifs <;> rfl

/-! ### A request comes to its turn (R229) -/

/-- The scheduler's queue is empty. -/
def queueEmptied (s : State) : State := { s with sch := { s.sch with admitQ := [] } }

@[simp] theorem recAt_queueEmptied (s : State) (i : Nat) : recAt (queueEmptied s) i = recAt s i := rfl

/-- The state after an admission that is answered with `r`. -/
def admitDone (s t : State) (rq : Rq) (r : Resp) : State := kept s (queueEmptied (answeredKept t 0x301 rq r))

@[simp] theorem recAt_admitDone (s t : State) (rq : Rq) (r : Resp) (i : Nat) : recAt (admitDone s t rq r) i = recAt t i := recAt_of_recs (by
  simp [admitDone, kept, queueEmptied]) i

theorem admitDone_keeps (s t : State) (rq : Rq) (r : Resp) : (admitDone s t rq r).sch = { t.sch with admitQ := [] } ∧ (admitDone s t rq r).ctx = t.ctx
    ∧ (admitDone s t rq r).tiles = t.tiles := by simp [admitDone, kept, queueEmptied, answeredKept]

theorem rspOf_mem_admitDone (s t : State) (rq : Rq) (r : Resp) : rspOf 0x301 rq r ∈ (admitDone s t rq r).net := rspOf_mem_respond (replayAdd t 0x301 rq (some r)) ..

/-- The state after an admission that is answered WAIT. -/
def admitWaiting (s t : State) (rq : Rq) : State := kept s (queueEmptied (respond (replayAdd t 0x301 rq none) 0x301 rq .wait))

theorem admitWaiting_keeps (s t : State) (rq : Rq) : (admitWaiting s t rq).sch = { t.sch with admitQ := [] } ∧ (admitWaiting s t rq).ctx = t.ctx
    ∧ (admitWaiting s t rq).tiles = t.tiles ∧ (admitWaiting s t rq).outs ++ (admitWaiting s t rq).sendWait = t.outs ++ t.sendWait := by
  simp [admitWaiting, kept, queueEmptied]

theorem rspOf_mem_admitWaiting (s t : State) (rq : Rq) : rspOf 0x301 rq .wait ∈ (admitWaiting s t rq).net := rspOf_mem_respond (replayAdd t 0x301 rq none) ..

/-- The request has left the network. -/
abbrev admTaken (s : State) (rq : Rq) (req : AdmitReq) : State := takePkt s (reqPkt 0x301 rq (.admission req))

section Turn
variable (hnew : ReachesNew s 0x301 rq (.admission req))
include hnew

/-- A request joins the end of the scheduler's queue, which is served. -/
theorem admission_served : admission s rq req = admitServe (admTaken s rq req) (s.sch.admitQ ++ [(rq, req)]) := by
  obtain ⟨⟨hw, ha, hs⟩, -⟩ := hnew
  rw [admission, hw, arriveReq_served _ ha, sliceLeft_takePkt, hs]
  rfl

/-- While an admission waits for its number, every request waits behind it. -/
theorem admission_queues (hwaits : s.sch.admitting.isSome = true) : admission s rq req
    = { admTaken s rq req with sch := { s.sch with admitQ := s.sch.admitQ ++ [(rq, req)] } } := by
  have hheld (a : Rq) (b : AdmitReq) : admitHeld (admTaken s rq req) a b = true := by simp [admitHeld, hwaits]
  rw [admission_served hnew]
  cases s.sch.admitQ with
  | nil => exact if_pos (hheld ..)
  | cons y l => exact if_pos (hheld ..)

variable (hheld : admitHeld s rq req = false) (hq : s.sch.admitQ = [])
include hheld hq

/-- One that need not wait is looked up and evaluated. -/
theorem admission_evaluated : admission s rq req
    = queueEmptied (cachedReq (admTaken s rq req) 0x301 rq (fun s => admitEval s rq req)) := by
  rw [admission_served hnew, hq]
  exact if_neg (by rw [show admitHeld (admTaken s rq req) rq req = admitHeld s rq req from rfl, hheld]; decide)

/-- The admission is answered, and its answer kept. -/
theorem leaves_admitted {P : State → Prop} {r : Resp} (he : admitEval (admTaken s rq req) rq req = { st := t, ans := some r })
    (h : P (admitDone s t rq r)) : Leaves (.admitReq rq req) s P := by
  obtain ⟨⟨-, -, hs⟩, hr⟩ := id hnew
  exact leaves_of_eq (by rw [exec_admitReq, admission_evaluated hnew hheld hq, cachedReq_kept (s := takePkt s _) hs hr he]) h

/-- The admission waits for its number. -/
theorem leaves_admitWaits {P : State → Prop} (he : admitEval (admTaken s rq req) rq req = { st := t, ans := none })
    (h : P (admitWaiting s t rq)) : Leaves (.admitReq rq req) s P := by
  obtain ⟨⟨-, -, hs⟩, hr⟩ := id hnew
  refine leaves_of_eq ?_ h
  rw [exec_admitReq, admission_evaluated hnew hheld hq, cachedReq_wait (s := takePkt s _) hs hr (congrArg Eval.ans he), he]
  rfl

/-- A refused one is answered with its status; the records, the free list and the contexts stay, and one of the counters counts it. -/
theorem leaves_admitRefused {status step n : Nat} {kind : Option Nat} (count : Sch → Nat)
    (he : admitEval (admTaken s rq req) rq req = admitRefuse x rq req status step kind) (hclamped : OnlyClamped s x)
    (hcount : count { (admitRefuse x rq req status step kind).st.sch with admitQ := [] } = n) :
    Leaves (.admitReq rq req) s (fun t => t.sch.recs = s.sch.recs ∧ t.sch.free = s.sch.free ∧ t.ctx = s.ctx ∧ count t.sch = n
      ∧ rspOf 0x301 rq (.result (resultWord true 0 status)) ∈ t.net) := by
  obtain ⟨⟨-, -, hs⟩, hr⟩ := id hnew
  obtain ⟨hrecs, hfree, hctx⟩ := admitRefuse_keeps x rq req status step kind
  refine leaves_of_eq (by rw [exec_admitReq, admission_evaluated hnew hheld hq, cachedReq_unchanged (s := takePkt s _) hs hr he]) ?_
  exact ⟨hrecs.trans hclamped.recs, hfree.trans hclamped.free, hctx.trans hclamped.ctx, hcount, rspOf_mem_respond ..⟩

end Turn

/-! ### The steps of Table 8.4 -/

/-- The state with a clamped priority counted (step 5). -/
def clampCounted (s : State) (req : AdmitReq) (c : WClass) : State :=
  if spawnBits req 8 6 < c.floor then { s with sch := { s.sch with clamped := (s.sch.clamped + 1) % 2 ^ 16 } } else s

theorem clampCounted_only (s : State) (rq : Rq) (req : AdmitReq) (c : WClass) : OnlyClamped s (clampCounted (admTaken s rq req) req c) := by
  unfold clampCounted
  split <;> exact ⟨rfl, rfl, rfl, rfl, rfl, rfl, rfl, rfl, rfl⟩

theorem OnlyClamped.taken (s : State) (rq : Rq) (req : AdmitReq) : OnlyClamped s (admTaken s rq req) := ⟨rfl, rfl, rfl, rfl, rfl, rfl, rfl, rfl, rfl⟩

section Steps
variable (hc : c = classAt s (spawnClass req))
include hc

theorem admitEval_rights (h : c.valid = false ∨ c.part ≠ rq.part) :
    admitEval s rq req = admitRefuse s rq req 0x10 2 (some Kind.activationSpecInvalid) := by
  subst hc
  exact if_pos (by simpa using h)

variable (hvalid : c.valid = true) (hpart : c.part = rq.part)
include hvalid hpart

theorem admitEval_fields (h : admitFieldsOk s rq.part req c = false) :
    admitEval s rq req = admitRefuse s rq req 0x11 3 (some Kind.activationSpecInvalid) := by
  subst hc
  simp [admitEval, hvalid, hpart, h]

variable (hok : admitFieldsOk s rq.part req c = true)
include hok

theorem admitEval_unbound (hmode : spawnTmode req = 0) (hplace : placeOf s rq.part (spawnVtile req) = none) :
    admitEval s rq req = admitRefuse s rq req 0x11 4 (some Kind.activationTargetUnbound) := by
  subst hc
  simp [admitEval, hvalid, hpart, hok, hmode, hplace]

theorem admitEval_takes (hbound : spawnTmode req = 0 → placeOf s rq.part (spawnVtile req) ≠ none) :
    admitEval s rq req = admitTake (clampCounted s req c) rq req c := by
  subst hc
  have hplace : ¬ (spawnTmode req = 0 ∧ (placeOf s rq.part (spawnVtile req)).isNone = true) :=
    fun ⟨hmode, hnone⟩ => hbound hmode (Option.isNone_iff_eq_none.mp hnone)
  simp only [admitEval, hvalid, hpart, hok, hplace, decide_true, Bool.and_self, Bool.not_true, Bool.false_eq_true, if_false]
  rfl

end Steps

/-- Step 6 without a record to take. -/
theorem admitTake_full (h : s.sch.quotas.getD rq.part 0 ≤ countRecs s (fun x => decide (x.part = rq.part)) ∨ freeRecord s = none) :
    admitTake s rq req c = admitRefuse s rq req 0x09 6 none := by
  rw [admitTake]
  split
  · rfl
  · next hroom => rw [h.resolve_left hroom]

/-- The record of an admission, with its context. -/
def admitted (rq : Rq) (req : AdmitReq) (c : WClass) (gen ctx : Nat) : Rec := { admitRecord rq.part req c gen with ctx := ctx }

/-- The context pool is that of `s1`. -/
def withPool (s s1 : State) : State := { s with ctx := s1.ctx }

/-- The record has been taken from the free list. -/
def recordTaken (s : State) (f : FreeList) : State := { s with sch := { s.sch with free := f } }

/-- The admission waits for the gate's number. -/
def admitAwaits (s : State) (rq : Rq) (req : AdmitReq) (i : Nat) (r : Rec) : State :=
  { s with sch := { s.sch with admitting := some { rq := rq, req := req, idx := i, record := r, fresh := decide (spawnCtxMode req ≠ 0) } } }

/-- The gate is asked by `o` for the number of an admission that waits for it. -/
def admitAsks (s : State) (rq : Rq) (req : AdmitReq) (i : Nat) (r : Rec) (o : OutReq) : State := sendReq (admitAwaits s rq req i r) o

theorem admitAsks_spec (s : State) (rq : Rq) (req : AdmitReq) (i : Nat) (r : Rec) (o : OutReq) :
    (admitAsks s rq req i r o).sch = (admitAwaits s rq req i r).sch ∧ (admitAsks s rq req i r o).ctx = s.ctx
    ∧ (admitAsks s rq req i r o).tiles = s.tiles
    ∧ ∃ p ∈ (admitAsks s rq req i r o).outs ++ (admitAsks s rq req i r o).sendWait, p.target = o.target ∧ p.body = o.body :=
  ⟨sendReq_sch .., (sendReq_pool ..).1, sendReq_tiles .., sendReq_left ..⟩

section Taken
variable (hroom : countRecs s (fun x => decide (x.part = rq.part)) < s.sch.quotas.getD rq.part 0) (hfree : freeRecord s = some (i, f))
include hroom hfree

/-- Step 7 without a free context. -/
theorem admitTake_noContext (hmode : spawnCtxMode req ≠ 0) (halloc : allocCtx s rq.part = none) :
    admitTake s rq req c = admitRefuse s rq req 0x0A 7 none := by
  rw [admitTake, if_neg (Nat.not_le.mpr hroom), hfree]
  simp [hmode, halloc]

variable (hctx : (if decide (spawnCtxMode req ≠ 0) = true then allocCtx s rq.part else some (req.ctx, s)) = some (ctx, s1))
include hctx

variable {gen : Nat} (hgen : (recAt s1 i).gen = gen)
include hgen

/-- Step 9 without a trail. -/
theorem admitTake_writes (htrail : admitTrail req c = none) : admitTake s rq req c =
    { st := admitWrite (recordTaken s1 f) i (admitted rq req c gen ctx)
      ans := some (.result (resultWord false (2 ^ 16 * gen + i) 0)) } := by
  subst hgen
  have hrec : (admitted rq req c (recAt s1 i).gen ctx).trail = none := htrail
  rw [admitTake, if_neg (Nat.not_le.mpr hroom), hfree]
  dsimp only
  rw [hctx]
  dsimp only
  split
  · rfl
  · next h => exact nomatch hrec.symm.trans h

/-- Step 8: with a trail, its number is asked of the gate. -/
theorem admitTake_asks {tr : Nat} (htrail : admitTrail req c = some tr) : admitTake s rq req c =
    { st := admitAsks (recordTaken s1 f) rq req i (admitted rq req c gen ctx) { unit := 0x301, part := rq.part, target := 0x305, use := .admitSeq i, body := .seqReq tr (2 ^ 16 * gen + i) }
      ans := none } := by
  subst hgen
  have hrec : (admitted rq req c (recAt s1 i).gen ctx).trail = some tr := htrail
  rw [admitTake, if_neg (Nat.not_le.mpr hroom), hfree]
  dsimp only
  rw [hctx]
  dsimp only
  split
  · next h => exact nomatch hrec.symm.trans h
  · next h =>
    cases hrec.symm.trans h
    rfl

end Taken

/-- The context of an admission comes from the pool alone: the requester's, or a fresh one. -/
theorem admitContext_of (hpool : x.ctx = s.ctx)
    (h : (if spawnCtxMode req = 0 then some (req.ctx, s) else allocCtx s rq.part) = some (ctx, s1)) :
    (if decide (spawnCtxMode req ≠ 0) = true then allocCtx x rq.part else some (req.ctx, x)) = some (ctx, withPool x s1) := by
  by_cases hmode : spawnCtxMode req = 0
  · rw [if_pos hmode] at h
    obtain ⟨rfl, rfl⟩ := Prod.mk.inj (Option.some.inj h)
    rw [if_neg (by simp [hmode]), withPool, ← hpool]
  · rw [if_neg hmode] at h
    rw [if_pos (decide_eq_true hmode)]
    unfold allocCtx at h ⊢
    rw [ctxPart_congr hpool]
    split at h
    · next d g hg =>
      obtain ⟨rfl, rfl⟩ := Prod.mk.inj (Option.some.inj h)
      simp only [withPool, setCtxState, setCtxPart, ctxPart, hpool]
    · cases h

theorem allocCtx_none_of {p : Nat} (hpool : x.ctx = s.ctx) (h : allocCtx s p = none) : allocCtx x p = none := by
  unfold allocCtx at h ⊢
  rw [ctxPart_congr hpool]
  split at h
  · cases h
  · rfl

/-! ### The record of an admission (step 9) -/

/-- The record has been written, and the admission counted. -/
def admWritten (s : State) (i : Nat) (r : Rec) : State :=
  let y := spoor (setRec s i r) i 1 0x301 0 0 r.dep
  { y with sch := { y.sch with admitted := (y.sch.admitted + 1) % 2 ^ 32 } }

theorem recAt_admWritten (s : State) (i : Nat) (r : Rec) : recAt (admWritten s i r) i = r := recAt_setRec_same s i r

/-- What an admission without a failed predecessor leaves: its record, which enters a store where it waits for nothing. -/
theorem admitWrite_spec (s : State) (i : Nat) (r : Rec) (hpred : r.failedPred = false) :
    (r.dep ≠ 0 → recAt (admitWrite s i r) i = r ∧ (admitWrite s i r).sch.entering = s.sch.entering)
    ∧ (r.dep = 0 → recAt (admitWrite s i r) i = { r with state := 2, readyAt := now s }
        ∧ (admitWrite s i r).sch.entering = s.sch.entering ++ [i])
    ∧ (recAt (admitWrite s i r) i).prio = r.prio ∧ (recAt (admitWrite s i r) i).arg = r.arg
    ∧ (admitWrite s i r).sch.free = s.sch.free ∧ (admitWrite s i r).sch.admitted = (s.sch.admitted + 1) % 2 ^ 32
    ∧ (admitWrite s i r).ctx = s.ctx ∧ (admitWrite s i r).tiles = s.tiles := by
  by_cases hdep : r.dep = 0
  · have heq : admitWrite s i r = entered (admWritten s i r) i :=
      (if_pos hdep).trans (makeReady_enters (s := admWritten s i r) (by rw [recAt_admWritten, hpred]; rfl))
    have hrec : recAt (entered (admWritten s i r) i) i = { r with state := 2, readyAt := now s } := by
      rw [recAt_entered, recAt_admWritten]
      rfl
    rw [heq]
    refine ⟨absurd hdep, fun _ => ⟨hrec, ?_⟩, (congrArg Rec.prio hrec :), (congrArg Rec.arg hrec :), ?_, ?_, ?_, ?_⟩
    all_goals simp [entered, readied, admWritten, spoor, spoorSend, sendPosted]
  · have heq : admitWrite s i r = admWritten s i r := if_neg hdep
    rw [heq]
    have hrec := recAt_admWritten s i r
    refine ⟨fun _ => ⟨hrec, ?_⟩, fun h => absurd h hdep, congrArg Rec.prio hrec, congrArg Rec.arg hrec, ?_, ?_, ?_, ?_⟩
    all_goals simp [admWritten, spoor, spoorSend, sendPosted]

/-- Settles O36: each refusal through the step that refuses, and each admission through the record that it writes or the number that it asks
for. -/
theorem admissions : Obligations.Admissions := by
  refine ⟨fun s rq req hnew hwaits => ?queues, fun s rq req c hnew hheld hq hc => ⟨fun i f ctx s1 hvalid hpart hok hbound hroom hfree hctx => ?good,
    fun hright => ?rights, fun hvalid hpart hbad => ?fields, fun hvalid hpart hok hbound => ⟨fun hfull => ?full, fun i f hroom hfree hmode halloc => ?noContext⟩⟩⟩
  case queues =>
    rw [exec_admitReq, admission_queues hnew hwaits]
    rfl
  case rights =>
    exact leaves_admitRefused hnew hheld hq Sch.rights (admitEval_rights (s := admTaken s rq req) hc hright) (.taken s rq req) rfl
  case fields =>
    by_cases hok : admitFieldsOk s rq.part req c = true
    · obtain ⟨hmode, hplace⟩ := hbad.resolve_left (by simp [hok])
      exact leaves_admitRefused hnew hheld hq Sch.field (admitEval_unbound (s := admTaken s rq req) hc hvalid hpart hok hmode hplace) (.taken s rq req) rfl
    · exact leaves_admitRefused hnew hheld hq Sch.field
        (admitEval_fields (s := admTaken s rq req) hc hvalid hpart (Bool.eq_false_iff.mpr hok)) (.taken s rq req) rfl
  all_goals
    have htakes := admitEval_takes (s := admTaken s rq req) hc hvalid hpart hok hbound
    have hclamped := clampCounted_only s rq req c
  case full =>
    rw [← hclamped.quotas, ← hclamped.countRecs, ← hclamped.freeRecord] at hfull
    exact leaves_admitRefused hnew hheld hq Sch.noSpace (htakes.trans (admitTake_full hfull)) hclamped
      (congrArg (fun n => (n + 1) % 2 ^ 16) hclamped.noSpace)
  all_goals
    rw [← hclamped.quotas, ← hclamped.countRecs] at hroom
    rw [← hclamped.freeRecord] at hfree
  case noContext =>
    exact leaves_admitRefused hnew hheld hq Sch.noSpace
      (htakes.trans (admitTake_noContext hroom hfree hmode (allocCtx_none_of hclamped.ctx halloc))) hclamped
      (congrArg (fun n => (n + 1) % 2 ^ 16) hclamped.noSpace)
  case good =>
    have hcontext := admitContext_of hclamped.ctx hctx
    generalize clampCounted (admTaken s rq req) req c = x at htakes hclamped hroom hfree hcontext
    have hgen : (recAt (withPool x s1) i).gen = (recAt s i).gen := congrArg Rec.gen (recAt_of_recs hclamped.recs i)
    generalize (recAt s i).gen = gen at hgen ⊢
    refine ⟨fun htrail => ?plain, fun tr htrail => ?trail⟩
    case plain =>
      have heval := htakes.trans (admitTake_writes hroom hfree hcontext hgen htrail)
      obtain ⟨hwaits, hready, hprio, harg, hlist, hcount, hpool, htiles⟩ :=
        admitWrite_spec (recordTaken (withPool x s1) f) i (admitted rq req c gen ctx) rfl
      generalize admitWrite (recordTaken (withPool x s1) f) i (admitted rq req c gen ctx) = y at heval hwaits hready hprio harg hlist hcount hpool htiles
      refine leaves_admitted hnew hheld hq heval ?_
      obtain ⟨hsch, hctx, htile⟩ := admitDone_keeps s y rq (.result (resultWord false (2 ^ 16 * gen + i) 0))
      simp only [recAt_admitDone, hsch, hctx, htile]
      refine ⟨fun hdep => ?_, fun hdep => ?_, hprio, harg, hlist, hcount.trans (congrArg (fun n => (n + 1) % 2 ^ 32) hclamped.admitted), hpool,
        htiles.trans hclamped.tiles, rspOf_mem_admitDone ..⟩
      · obtain ⟨hrec, hentering⟩ := hwaits hdep
        exact ⟨hrec, hentering.trans hclamped.entering⟩
      · obtain ⟨hrec, hentering⟩ := hready hdep
        have htime : now (recordTaken (withPool x s1) f) = now s := hclamped.time
        rw [htime] at hrec
        exact ⟨hrec, hentering.trans (congrArg (· ++ [i]) hclamped.entering)⟩
    case trail =>
      have heval := htakes.trans (admitTake_asks hroom hfree hcontext hgen htrail)
      obtain ⟨hsch, hpool, htiles, hleft⟩ := admitAsks_spec (recordTaken (withPool x s1) f) rq req i (admitted rq req c gen ctx)
        { unit := 0x301, part := rq.part, target := 0x305, use := .admitSeq i, body := .seqReq tr (2 ^ 16 * gen + i) }
      generalize admitAsks (recordTaken (withPool x s1) f) rq req i (admitted rq req c gen ctx) _ = y at heval hsch hpool htiles hleft
      refine leaves_admitWaits hnew hheld hq heval ?_
      obtain ⟨hsame, hctx, htile, hrequests⟩ := admitWaiting_keeps s y rq
      simp only [hsame, hctx, htile, hrequests, hsch, hpool, htiles]
      exact ⟨hclamped.recs, rfl, rfl, hclamped.tiles, congrArg (fun z => some (rq, i, z)) htrail, hleft, rspOf_mem_admitWaiting ..⟩

end Sys2Proof.Machine
end

section
/-! PROOF. Dispatch (R238, R240, R242 to R247, R251): the start tokens of a dispatch, what a push, a pull and an offer change, and the
choice that each command makes. -/

namespace Sys2Proof.Machine

variable {s t : State} {i k u vt : Nat} {p : Place}

/-! ### Ready stores -/

theorem rstore_setRstore (r : RStore) (hk : k < s.sch.stores.length) : rstore (setRstore s k r) k = r := by
  simp [rstore, setRstore, hk]

@[simp] theorem setRstore_net (s : State) (k : Nat) (r : RStore) : (setRstore s k r).net = s.net := rfl
@[simp] theorem setRstore_recs (s : State) (k : Nat) (r : RStore) : (setRstore s k r).sch.recs = s.sch.recs := rfl
@[simp] theorem tileAt_setRstore (s : State) (k : Nat) (r : RStore) (v : Nat) : tileAt (setRstore s k r) v = tileAt s v := rfl

/-- A freed entry that is filled again keeps what was forwarded and the count of pushes. -/
theorem refill_keeps (r : RStore) : (refill r).forwarded = r.forwarded ∧ (refill r).pushes = r.pushes := by
  unfold refill
  split
  · exact ⟨rfl, rfl⟩
  · split
    · exact ⟨rfl, rfl⟩
    · split <;> exact ⟨rfl, rfl⟩

/-- A record that leaves the stores is forwarded to none. -/
theorem rstore_leaveStores (i : Nat) (hk : k < s.sch.stores.length) :
    (rstore (leaveStores s i) k).forwarded = (rstore s k).forwarded.filter (fun x => x.1 != i)
    ∧ (rstore (leaveStores s i) k).pushes = (rstore s k).pushes := by
  simp only [rstore, leaveStores, List.getD_eq_getElem?_getD, List.getElem?_map, List.getElem?_eq_getElem hk, Option.map_some, Option.getD_some]
  exact refill_keeps _

/-! ### Events of a tile -/

/-- An event changes its tile alone, and no prefetch slot. -/
theorem setEvent_spec (mask : Nat) (hu : u < s.tiles.length) : (∃ l, setEvent s u mask = { s with tiles := l })
    ∧ (tileAt (setEvent s u mask) u).actSlot = (tileAt s u).actSlot ∧ ∀ v, v ≠ u → tileAt (setEvent s u mask) v = tileAt s v := by
  have hset : (tileAt (modTile s u (fun t => { t with event := t.event ||| (mask % 16) })) u).actSlot = (tileAt s u).actSlot := by
    rw [tileAt_modTile_same _ _ _ hu]
  unfold setEvent
  generalize hx : modTile s u (fun t => { t with event := t.event ||| (mask % 16) }) = x at hset
  have hstays : (∃ l, x = { s with tiles := l }) ∧ (tileAt x u).actSlot = (tileAt s u).actSlot ∧ ∀ v, v ≠ u → tileAt x v = tileAt s v :=
    ⟨⟨_, hx.symm⟩, hset, fun v hv => by rw [← hx, tileAt_modTile_other _ _ _ _ hv.symm]⟩
  cases hblock : (tileAt x u).thread.block with
  | none =>
    rw [wakeEvent, hblock]
    exact hstays
  | some b =>
    cases b with
    | waitEv rd m lim =>
      by_cases hclear : (tileAt x u).event &&& m = 0
      · rw [wakeEvent_of_clear hblock hclear]
        exact hstays
      · have hlen : u < x.tiles.length := by rw [← hx, modTile_length]; exact hu
        obtain ⟨⟨l, hl⟩, hslot, hother⟩ := hstays
        rw [wakeEvent_of_set hlen hblock hclear, tileAt_setTile_same _ _ _ hlen]
        exact ⟨⟨x.tiles.set u (woken (tileAt x u) rd m), by rw [hl]; rfl⟩, hslot,
          fun v hv => by rw [tileAt_setTile_other _ _ _ _ hv.symm, hother v hv]⟩
    | _ =>
      rw [wakeEvent, hblock]
      exact hstays

/-! ### Start tokens (R240) -/

/-- The packet of a record's start tokens for a virtual tile that is placed at `p`. -/
abbrev startPkt (s : State) (i vt : Nat) (p : Place) : Packet :=
  { cls := 1, dest := placeTile s p, src := rqId (0x2C4 + standOf (placeTile s p)) 0, part := (recAt s i).part, tag := 0
    body := .actTokens p.gen (startTokens s i vt) (handleOf s i) }

/-- A dispatch marks the record in no field that the start tokens show. -/
theorem sendStart_dispatched {st tile dvt : Nat} {slotted offered : Bool} (hplace : t.place = s.place) (hclr : t.clr = s.clr)
    (hrec : recAt t i = { recAt s i with state := st, tile := tile, dvt := dvt, slotted := slotted, offered := offered })
    (hp : placeOf s (recAt s i).part vt = some p) : sendStart t i vt = sendPkt t (startPkt s i vt p) := by
  have hp' : placeOf t (recAt t i).part vt = some p := by
    rw [hrec, ← hp, placeOf, hplace, placeOf]
  have hgroves : groveAt t = groveAt s := by
    funext g
    rw [groveAt, hclr, groveAt]
  have hu : placeTile t p = placeTile s p := by rw [placeTile, steer, hgroves, placeTile, steer]
  have hh : handleOf t i = handleOf s i := by simp only [handleOf, hrec]
  have htoks : startTokens t i vt = startTokens s i vt := by simp only [startTokens, hh, hrec]
  have hpart : (recAt t i).part = (recAt s i).part := by rw [hrec]
  rw [sendStart, hp']
  dsimp only
  rw [hu, hh, htoks, hpart]

/-! ### A push (R242, R244) -/

/-- The record of a push to tile `u`. -/
abbrev pushedRec (s : State) (i u vt : Nat) : Rec := { recAt s i with state := 3, tile := u, dvt := vt, slotted := true, offered := false }

/-- The slot of a push is filled, before the event and the tokens. -/
def slotFilled (s : State) (i vt n : Nat) (p : Place) : State :=
  modTile (setRec (leaveStores s i) i (pushedRec s i (placeTile s p) vt)) (placeTile s p)
    (fun t => { t with actSlot := t.actSlot.set n (some { bslot := p.slot, handle := handleOf s i }) })

/-- The record is dispatched, and the start tokens have not left. -/
def pushed (s : State) (i vt n : Nat) (p : Place) : State := setEvent (slotFilled s i vt n p) (placeTile s p) 2

/-- What a push has changed when its tokens leave. -/
theorem pushed_spec (n : Nat) (hu : placeTile s p < s.tiles.length) :
    (∃ l, pushed s i vt n p = { slotFilled s i vt n p with tiles := l })
    ∧ (tileAt (pushed s i vt n p) (placeTile s p)).actSlot
        = (tileAt s (placeTile s p)).actSlot.set n (some { bslot := p.slot, handle := handleOf s i })
    ∧ ∀ v, v ≠ placeTile s p → tileAt (pushed s i vt n p) v = tileAt s v := by
  have hlen : placeTile s p < (setRec (leaveStores s i) i (pushedRec s i (placeTile s p) vt)).tiles.length := hu
  obtain ⟨hl, hslot, hother⟩ := setEvent_spec (s := slotFilled s i vt n p) 2 (hlen.trans_eq (modTile_length ..).symm)
  refine ⟨hl, hslot.trans ?_, fun v hv => (hother v hv).trans ?_⟩
  · rw [slotFilled, tileAt_modTile_same _ _ _ hlen]
    rfl
  · rw [slotFilled, tileAt_modTile_other _ _ _ _ hv.symm]
    rfl

/-- The start tokens of a push have left, and the trace has its event. -/
def pushSent (s : State) (k i vt n : Nat) (p : Place) : State :=
  spoor (sendPkt (pushed s i vt n p) (startPkt s i vt p)) i 4 (0x2C4 + k) 0 vt (placeTile s p + 2 ^ 14 * n)

/-- The push is counted at its stand. -/
theorem pushInto_eq (k n : Nat) (hu : placeTile s p < s.tiles.length) (hp : placeOf s (recAt s i).part vt = some p) :
    pushInto s k i vt n p = setRstore (pushSent s k i vt n p) k { rstore (pushSent s k i vt n p) k with
      pushes := ((rstore (pushSent s k i vt n p) k).pushes + 1) % 2 ^ 32, lastPush := some (now s) } := by
  obtain ⟨⟨l, hl⟩, -, -⟩ := pushed_spec (i := i) (vt := vt) n hu
  have hstart : sendStart (pushed s i vt n p) i vt = sendPkt (pushed s i vt n p) (startPkt s i vt p) := by
    refine sendStart_dispatched (st := 3) (tile := placeTile s p) (dvt := vt) (slotted := true) (offered := false) ?_ ?_ ?_ hp
    all_goals rw [hl]
    · rfl
    · rfl
    · exact recAt_setRec_same (leaveStores s i) i _
  rw [pushSent, ← hstart]
  rfl

/-- What a push changes: its record, a slot of its tile, the network, and the stand's count. -/
theorem pushInto_spec (n : Nat) (hk : k < s.sch.stores.length) (hu : placeTile s p < s.tiles.length)
    (hp : placeOf s (recAt s i).part vt = some p) : recAt (pushInto s k i vt n p) i = pushedRec s i (placeTile s p) vt
    ∧ (tileAt (pushInto s k i vt n p) (placeTile s p)).actSlot
        = (tileAt s (placeTile s p)).actSlot.set n (some { bslot := p.slot, handle := handleOf s i })
    ∧ startPkt s i vt p ∈ (pushInto s k i vt n p).net
    ∧ (rstore (pushInto s k i vt n p) k).pushes = ((rstore s k).pushes + 1) % 2 ^ 32
    ∧ ∀ v, v ≠ placeTile s p → tileAt (pushInto s k i vt n p) v = tileAt s v := by
  obtain ⟨⟨l, hl⟩, hslot, hother⟩ := pushed_spec (i := i) (vt := vt) n hu
  have hstores : (pushSent s k i vt n p).sch.stores = (leaveStores s i).sch.stores := by
    rw [pushSent, hl]
    simp [spoor, spoorSend, sendPosted, slotFilled]
  have hlen : k < (pushSent s k i vt n p).sch.stores.length := by
    rw [hstores]
    exact hk.trans_eq (List.length_map ..).symm
  have hpushes : (rstore (pushSent s k i vt n p) k).pushes = (rstore s k).pushes := by
    rw [rstore, hstores]
    exact (rstore_leaveStores i hk).2
  have htile (v : Nat) : tileAt (pushSent s k i vt n p) v = tileAt (pushed s i vt n p) v := by
    simp [pushSent, spoor, spoorSend, sendPosted, tileAt]
  have hrecs : (pushSent s k i vt n p).sch.recs = (setRec (leaveStores s i) i (pushedRec s i (placeTile s p) vt)).sch.recs := by
    rw [pushSent, hl]
    simp [spoor, spoorSend, sendPosted, slotFilled]
  rw [pushInto_eq k n hu hp]
  simp only [tileAt_setRstore, setRstore_net, htile, rstore_setRstore _ hlen, hpushes]
  exact ⟨(recAt_of_recs ((setRstore_recs ..).trans hrecs) i).trans (recAt_setRec_same ..), hslot, List.mem_append_left _ (mem_net_sendPkt ..),
    trivial, hother⟩

theorem pushTo_pushes (k : Nat) {n : Nat} (hfree : recHeld s 4 i = false) (hp : placeOf s (recAt s i).part vt = some p)
    (hslot : (tileAt s (placeTile s p)).actSlot.findIdx? Option.isNone = some n)
    (husable : (usable s (recAt s i)).any (fun x => decide (x.1 = vt)) = true) : pushTo s k i vt = pushInto s k i vt n p := by
  simp only [pushTo, hfree, Bool.false_eq_true, if_false, hp, hslot, husable, if_true]

theorem pushTo_gives_back (k : Nat) (hfree : recHeld s 4 i = false) (hp : placeOf s (recAt s i).part vt = some p)
    (h : (tileAt s (placeTile s p)).actSlot.findIdx? Option.isNone = none ∨ (usable s (recAt s i)).any (fun x => decide (x.1 = vt)) = false) :
    pushTo s k i vt = unforward s i := by
  simp only [pushTo, hfree, Bool.false_eq_true, if_false, hp]
  cases hslot : (tileAt s (placeTile s p)).actSlot.findIdx? Option.isNone with
  | none => rfl
  | some n => exact if_neg (by simp [h.resolve_left (by simp [hslot])])

/-! ### The commands -/

theorem exec_pushDispatch (s : State) (k : Nat) : exec (.pushDispatch k) s = .next (kept s (pushDispatch s k)) := rfl
theorem exec_takeArrival (s : State) (k : Nat) (rq : Rq) (cls vt : Nat) :
    exec (.takeArrival k rq cls vt) s = .next (kept s (takeArrival s k rq cls vt)) := rfl
theorem exec_takeCancel (s : State) (k : Nat) (rq : Rq) (tag : Nat) :
    exec (.takeCancel k rq tag) s = .next (kept s (takeCancel s k rq tag)) := rfl
theorem exec_sifterDispatch (s : State) (k : Nat) : exec (.sifterDispatch k) s = .next (kept s (sifterDispatch s k)) := rfl

/-! ### The choices of PUSH_DISPATCH (R238, R243, R251) -/

section Stand
variable (hw : working s = true) (hk : k < 4) (hs : standSlice s k = false)
include hw hk hs

theorem pushDispatch_unbound (hu : unboundOf s k = some i) : pushDispatch s k = retireUnbound s k i := by
  rw [pushDispatch, if_neg (by simp [hw, hs]; omega), hu]

variable (hu : unboundOf s k = none) (hpause : ∀ t, (rstore s k).lastPush = some t → t + 2 ≤ now s)
include hu hpause

theorem pushDispatch_forwarded {l : List (Nat × Nat)} (hf : (rstore s k).forwarded = (i, vt) :: l) : pushDispatch s k = pushTo s k i vt := by
  rw [pushDispatch, if_neg (by simp [hw, hs]; omega), hu]
  dsimp only
  rw [if_neg (by omega)]
  cases hlast : (rstore s k).lastPush with
  | none => simp [hf]
  | some t =>
    have hlate : ¬ now s < t + 2 := Nat.not_lt.mpr (hpause t hlast)
    simp [hf, hlate]

theorem pushDispatch_own (hf : (rstore s k).forwarded = [])
    (hbest : bestOf s ((candidates s k 0).filter (fun i => inflightOk s (recAt s i) && (pushTarget s (recAt s i) (fun _ => true)).isSome)) = some i)
    (htarget : pushTarget s (recAt s i) (fun _ => true) = some (vt, u)) : pushDispatch s k = pushTo s k i vt := by
  rw [pushDispatch, if_neg (by simp [hw, hs]; omega), hu]
  dsimp only
  rw [if_neg (by omega)]
  cases hlast : (rstore s k).lastPush with
  | none => simp [hf, hbest, htarget]
  | some t =>
    have hlate : ¬ now s < t + 2 := Nat.not_lt.mpr (hpause t hlast)
    simp [hf, hbest, htarget, hlate]

end Stand

/-- Record `i` is forwarded to the stand of tile `u`. -/
def forwardOn (s : State) (i vt u : Nat) : State :=
  let x := setRec (leaveStores s i) i { recAt s i with offered := true }
  setRstore x (standOf u) { rstore x (standOf u) with forwarded := (rstore x (standOf u)).forwarded ++ [(i, vt)] }

theorem pushDispatch_clearing (hw : working s = true) (hs : sliceLeft s 0x301 = none) (hu : unboundOf s 4 = none)
    (hbest : bestOf s ((candidates s 4 0).filter (fun i => inflightOk s (recAt s i)
      && (pushTarget s (recAt s i) (fun u => !(standSlice s (standOf u)))).isSome)) = some i)
    (htarget : pushTarget s (recAt s i) (fun u => !(standSlice s (standOf u))) = some (vt, u)) : pushDispatch s 4 = forwardOn s i vt u := by
  rw [pushDispatch, if_neg (by simp [hw, hs]), hu]
  dsimp only
  rw [if_pos rfl, hbest]
  dsimp only
  rw [htarget]
  rfl

theorem forwardOn_spec (vt : Nat) (hu : standOf u < s.sch.stores.length) : recAt (forwardOn s i vt u) i = { recAt s i with offered := true }
    ∧ (forwardOn s i vt u).tiles = s.tiles ∧ (forwardOn s i vt u).net = s.net
    ∧ (rstore (forwardOn s i vt u) (standOf u)).forwarded = (rstore s (standOf u)).forwarded.filter (fun x => x.1 != i) ++ [(i, vt)] := by
  have hlen : standOf u < (setRec (leaveStores s i) i { recAt s i with offered := true }).sch.stores.length := by
    rw [setRec_stores]
    exact hu.trans_eq (List.length_map ..).symm
  have hstore : rstore (setRec (leaveStores s i) i { recAt s i with offered := true }) (standOf u) = rstore (leaveStores s i) (standOf u) := by
    rw [rstore, setRec_stores, rstore]
  refine ⟨(recAt_of_recs (setRstore_recs ..) i).trans (recAt_setRec_same ..), by simp [forwardOn, setRstore, leaveStores],
    by simp [forwardOn, leaveStores], ?_⟩
  rw [forwardOn, rstore_setRstore _ hlen, hstore, (rstore_leaveStores i hu).1]

/-! ### TAKE (R245, R246) -/

section Take
variable {rq : Rq} {cls : Nat}

/-- A TAKE has left the network. -/
abbrev takeTaken (s : State) (k : Nat) (rq : Rq) (cls vt : Nat) : State := takePkt s (reqPkt (0x2C4 + k) rq (.take cls vt))

/-- Whether a class is a pull class of a partition. -/
def pullClass (s : State) (cls p : Nat) : Bool :=
  decide (cls < 64) && (classAt s cls).valid && decide ((classAt s cls).part = p) && decide ((classAt s cls).dispatch = 1)

/-- Rank depends on the records alone, and so does the best-ranked record of a list. -/
theorem ranksBefore_congr (h : t.sch.recs = s.sch.recs) : ranksBefore t = ranksBefore s := by
  have hrec : recAt t = recAt s := funext (recAt_of_recs h)
  funext i j
  rw [ranksBefore, hrec, ranksBefore]

theorem bestOf_congr (h : t.sch.recs = s.sch.recs) (l : List Nat) : bestOf t l = bestOf s l := by
  induction l with
  | nil => rfl
  | cons i l ih => rw [bestOf, ih, ranksBefore_congr h, bestOf]

theorem takeChoice_takePkt (s : State) (q : Packet) (k p cls vt : Nat) : takeChoice (takePkt s q) k p cls vt = takeChoice s k p cls vt :=
  bestOf_congr (s := s) (t := takePkt s q) rfl _

section Arrival
variable (hw : working s = true) (ha : arrivable s (reqPkt (0x2C4 + k) rq (.take cls vt)) = true)
include hw ha

theorem takeArrival_refused (h : pullClass s cls rq.part = false) :
    takeArrival s k rq cls vt = respond (takeTaken s k rq cls vt) (0x2C4 + k) rq (.result (resultWord true 0 0x10)) := by
  rw [takeArrival, hw, arriveReq_served _ ha]
  exact if_pos (congrArg (!·) h)

variable (h : pullClass s cls rq.part = true)
include h

theorem takeArrival_served (hs : standSlice s k = false) (hi : takeChoice s k rq.part cls vt = some i) :
    takeArrival s k rq cls vt = pullTo (takeTaken s k rq cls vt) k i rq vt := by
  have hchoice : (if standSlice (takeTaken s k rq cls vt) k then none else takeChoice (takeTaken s k rq cls vt) k rq.part cls vt) = some i :=
    (if_neg (by rw [show standSlice (takeTaken s k rq cls vt) k = standSlice s k from rfl, hs]; decide)).trans ((takeChoice_takePkt ..).trans hi)
  rw [takeArrival, hw, arriveReq_served _ ha]
  refine (if_neg (by rw [h]; decide : ¬ (!pullClass s cls rq.part) = true)).trans ?_
  dsimp only
  rw [hchoice]

theorem takeArrival_waits (hnone : standSlice s k = true ∨ takeChoice s k rq.part cls vt = none) : takeArrival s k rq cls vt
    = respond { takeTaken s k rq cls vt with sch := { s.sch with takes := s.sch.takes ++ [⟨k, rq, cls, vt⟩] } } (0x2C4 + k) rq .wait := by
  have hchoice : (if standSlice (takeTaken s k rq cls vt) k then none else takeChoice (takeTaken s k rq cls vt) k rq.part cls vt) = none := by
    split
    · rfl
    · next hs => exact (takeChoice_takePkt ..).trans (hnone.resolve_left hs)
  rw [takeArrival, hw, arriveReq_served _ ha]
  refine (if_neg (by rw [h]; decide : ¬ (!pullClass s cls rq.part) = true)).trans ?_
  dsimp only
  rw [hchoice]
  rfl

end Arrival

/-- The record of a pull by a requester. -/
abbrev pulledRec (s : State) (i : Nat) (rq : Rq) (vt : Nat) : Rec := { recAt s i with state := 3, tile := rq.src / 4, dvt := vt, slotted := false }

/-- The record of a pull has been dispatched, and its start tokens have not left. -/
def pulled (s : State) (k i : Nat) (rq : Rq) (vt : Nat) : State :=
  let x := setRec (leaveStores s i) i (pulledRec s i rq vt)
  setRstore x k { rstore x k with pulls := ((rstore x k).pulls + 1) % 2 ^ 32 }

theorem recAt_pulled (s : State) (k i : Nat) (rq : Rq) (vt : Nat) : recAt (pulled s k i rq vt) i = pulledRec s i rq vt :=
  (recAt_of_recs (setRstore_recs ..) i).trans (recAt_setRec_same ..)

/-- A pull dispatches its record without a slot: the start tokens leave, and the TAKE is answered with the handle. -/
theorem pullTo_eq (k : Nat) (rq : Rq) (hp : placeOf s (recAt s i).part vt = some p) : pullTo s k i rq vt = respond
    (spoor (sendPkt (pulled s k i rq vt) (startPkt s i vt p)) i 4 (0x2C4 + k) 0 vt (rq.src / 4 + 2 ^ 12)) (0x2C4 + k) rq
    (.result (resultWord false (handleOf s i) 0)) := by
  have hrec := recAt_pulled s k i rq vt
  have hstart : sendStart (pulled s k i rq vt) i vt = sendPkt (pulled s k i rq vt) (startPkt s i vt p) :=
    sendStart_dispatched (offered := (recAt s i).offered) rfl rfl hrec hp
  rw [← hstart]
  rfl

theorem pullTo_spec (k : Nat) (rq : Rq) (hp : placeOf s (recAt s i).part vt = some p) : recAt (pullTo s k i rq vt) i = pulledRec s i rq vt
    ∧ rspOf (0x2C4 + k) rq (.result (resultWord false (handleOf s i) 0)) ∈ (pullTo s k i rq vt).net ∧ startPkt s i vt p ∈ (pullTo s k i rq vt).net
    ∧ (pullTo s k i rq vt).sch.takes = s.sch.takes ∧ (pullTo s k i rq vt).tiles = s.tiles := by
  rw [pullTo_eq k rq hp]
  refine ⟨by simp only [recAt_respond, recAt_spoor, recAt_sendPkt, recAt_pulled], rspOf_mem_respond ..,
    List.mem_append_left _ (List.mem_append_left _ (mem_net_sendPkt ..)), ?_, ?_⟩
  all_goals simp [spoor, spoorSend, sendPosted, pulled, setRstore, leaveStores]

/-- A waiting TAKE that a cancellation names. -/
def takeNamed (s : State) (k : Nat) (rq : Rq) (tag : Nat) : Option TakeWait := s.sch.takes.find? (fun w =>
  decide (w.stand = k) && decide (w.rq.src = rq.src) && decide (w.rq.part = rq.part) && decide (w.rq.tag = tag))

section Cancel
variable {tag : Nat} (hw : working s = true) (ha : arrivable s (reqPkt (0x2C4 + k) rq (.takeCancel tag)) = true)
include hw ha

theorem takeCancel_found {w : TakeWait} (h : takeNamed s k rq tag = some w) : takeCancel s k rq tag
    = respond { takePkt s (reqPkt (0x2C4 + k) rq (.takeCancel tag)) with sch := { s.sch with takes := s.sch.takes.erase w } } (0x2C4 + k) rq
      (.result (resultWord false 0 0)) := by
  rw [takeCancel, hw, arriveReq_served _ ha, takePkt_sch]
  rw [takeNamed] at h
  rw [h]
  rfl

theorem takeCancel_none (h : takeNamed s k rq tag = none) : takeCancel s k rq tag
    = respond (takePkt s (reqPkt (0x2C4 + k) rq (.takeCancel tag))) (0x2C4 + k) rq (.result (resultWord true 0 0x14)) := by
  rw [takeCancel, hw, arriveReq_served _ ha, takePkt_sch]
  rw [takeNamed] at h
  rw [h]
  rfl

end Cancel

end Take

/-! ### SIFTER_DISPATCH (R247) -/

/-- The offer of a record to the sifter of its stand. -/
abbrev offerReq (s : State) (k i : Nat) : OutReq :=
  { unit := storeUnit k, part := (recAt s i).part, target := sifUnit (sifChoice s (recAt s i).siftStand), use := .siftRec i
    body := .siftSubmit (recAt s i).arg.toNat (recAt s i).siftStand (handleOf s i) }

/-- Record `i` is offered to its sifter from store `k`. -/
def offered (s : State) (k i : Nat) : State := sendReq (setRec s i { recAt s i with offered := true }) (offerReq s k i)

theorem sifterDispatch_offers (hw : working s = true) (hk : k ≤ 4) (hs : sliceLeft s (storeUnit k) = none)
    (hbest : bestOf s ((candidates s k 2).filter (fun i => inflightOk s (recAt s i) && !(recAt s i).offered && !(recHeld s 4 i))) = some i) :
    sifterDispatch s k = offered s k i := by
  rw [sifterDispatch]
  refine (if_neg ?_).trans ?_
  · rw [show sliceLeft s (if k = 4 then 0x301 else 0x2C4 + k) = none from hs]
    simp [hw, hk]
  · rw [hbest]
    rfl

theorem offered_spec (s : State) (k i : Nat) : recAt (offered s k i) i = { recAt s i with offered := true }
    ∧ (∃ tag, (offered s k i).net = s.net ++ [{ cls := 2, dest := sifUnit (sifChoice s (recAt s i).siftStand), src := rqId (storeUnit k) 0
                                                part := (recAt s i).part, tag := tag
                                                body := .siftSubmit (recAt s i).arg.toNat (recAt s i).siftStand (handleOf s i) }])
    ∧ (offered s k i).sch.stores = s.sch.stores := by
  refine ⟨by rw [offered, recAt_sendReq, recAt_setRec_same], ?_, by rw [offered, sendReq_sch, setRec_stores]⟩
  rw [offered, sendReq_plain _ _ rfl, (sendNow_spec ..).1]
  exact ⟨_, rfl⟩

/-- Settles O38: the choice of each command through the scheduler's own lemmas, and what a push, a pull and an offer leave through the
operation that makes them. -/
theorem dispatches : Obligations.Dispatches := by
  refine ⟨fun s k hw hk hs => ⟨fun i hi => ?unbound, fun hbound hpause => ⟨fun i vt l hf => ?forwarded, fun i vt u hf hbest htarget => ?own⟩⟩,
    fun s i vt u hw hs hbound hu hbest htarget => ?clearing,
    fun s k i vt n p hk hfree hp hu => ⟨fun hslot husable => ?pushes, pushTo_gives_back k hfree hp⟩,
    fun s k cls vt rq hw ha => ⟨fun i p hcls hvalid hpart hpull hs hk hi hp => ?served, fun hcls hvalid hpart hpull hnone => ?waits, fun hbad => ?refused⟩,
    fun s k tag rq hw ha => ⟨fun w hfind => ?cancels, fun hfind => ?late⟩, fun s k i hw hk hs hbest => ?sifter⟩
  case unbound => rw [exec_pushDispatch, pushDispatch_unbound hw hk hs hi]
  case forwarded => rw [exec_pushDispatch, pushDispatch_forwarded hw hk hs hbound hpause hf]
  case own => rw [exec_pushDispatch, pushDispatch_own hw hk hs hbound hpause hf hbest htarget]
  case clearing =>
    refine leaves_of_eq (by rw [exec_pushDispatch, pushDispatch_clearing hw hs hbound hbest htarget]) ?_
    simp only [recAt_kept, kept_net, kept_tiles, show rstore (kept s (forwardOn s i vt u)) = rstore (forwardOn s i vt u) from rfl]
    exact forwardOn_spec vt hu
  case pushes =>
    rw [pushTo_pushes k hfree hp hslot husable]
    exact pushInto_spec n hk hu hp
  case served =>
    have hclass : pullClass s cls rq.part = true := by simp [pullClass, hcls, hvalid, hpart, hpull]
    refine leaves_of_eq (by rw [exec_takeArrival, takeArrival_served hw ha hclass hs hi]) ?_
    obtain ⟨hrec, hanswer, htokens, htakes, htiles⟩ := pullTo_spec (s := takeTaken s k rq cls vt) k rq hp
    exact ⟨hrec, hanswer, htokens, htakes, htiles⟩
  case waits =>
    have hclass : pullClass s cls rq.part = true := by simp [pullClass, hcls, hvalid, hpart, hpull]
    rw [exec_takeArrival, takeArrival_waits hw ha hclass hnone]
    rfl
  case refused =>
    have hclass : pullClass s cls rq.part = false := by
      simp only [pullClass, Bool.and_eq_false_iff, decide_eq_false_iff_not, Nat.not_lt]
      tauto
    rw [exec_takeArrival, takeArrival_refused hw ha hclass]
    rfl
  case cancels =>
    rw [exec_takeCancel, takeCancel_found hw ha hfind]
    rfl
  case late =>
    rw [exec_takeCancel, takeCancel_none hw ha hfind]
    rfl
  case sifter =>
    refine leaves_of_eq (by rw [exec_sifterDispatch, sifterDispatch_offers hw hk hs hbest]) ?_
    simp only [recAt_kept, kept_net, kept_sch]
    exact offered_spec s k i

end Sys2Proof.Machine
end

section
/-! PROOF. Completions (R241, R248): why a report of a lost activation does not always leave its record RETIRING. -/

namespace Sys2Proof.Machine

/-- Record 9 of partition 1, DISPATCHED, of generation 4 and of the pull class 1, for virtual tile 2. -/
def lostRec : Rec := { gen := 4, state := 3, part := 1, cls := 1, vtile := 2, dispatch := 1 }

/-- The TAKE of tile 9 that waits at stand 0 for class 1 at virtual tile 2. -/
def lostTake : TakeWait := { stand := 0, rq := { src := 36, part := 1, tag := 3 }, cls := 1, vt := 2 }

/-- Record 9 is DISPATCHED and yet listed twice in the ready store of stand 0, where a TAKE of its class waits. -/
def twiceListed : State := { State.reset with
  place := [(1024 + 2, some { unit := 6, slot := 0, gen := 1 })]
  sch := { State.reset.sch with recs := [(9, lostRec)], stores := State.reset.sch.stores.set 0 { ents := [9, 9] }, takes := [lostTake] } }

/-- The report takes the record out of the store once; the waiting TAKE is then served with its other entry, and the record is
DISPATCHED again. -/
theorem lostReport_twiceListed : (recAt (activationLostReport twiceListed 6 1 (2 ^ 16 * 4 + 9)) 9).state = 3 := by decide +kernel

/-- Refutes O39: a record that a ready store lists twice is handed to a waiting TAKE after the report of its loss. -/
theorem not_completions : ¬ Obligations.Completions := by
  unfold Obligations.Completions
  rintro ⟨-, hlost, -⟩
  obtain ⟨t, hexec, hstate, -⟩ := hlost twiceListed 6 1 (2 ^ 16 * 4 + 9) 9 (by decide +kernel) (by decide +kernel) (by decide +kernel)
    (by decide +kernel) (by decide +kernel) (by decide +kernel)
  have ht : kept twiceListed (activationLostReport twiceListed 6 1 (2 ^ 16 * 4 + 9)) = t := Host.Outcome.next.inj hexec
  rw [← ht, recAt_kept, lostReport_twiceListed] at hstate
  exact absurd hstate (by decide)

end Sys2Proof.Machine
end

section
/-! PROOF. Descriptors that complete at their evaluation (R410, R412, R414, R420, R421, R432): the evaluation of a ring set's descriptor said
once, then what each opcode's checks and effects come to. -/

namespace Sys2Proof.Machine

variable {s x : State} {rs op : Nat} {d : RDesc}

/-! ### The evaluation of a descriptor (R406, R410) -/

/-- A ring set at work evaluates its descriptor. -/
theorem ringEval_atWork (h : RingAtWork s rs op d) (f : RingSet → RDesc → State) : ringEval s rs op f = f (ringAt s rs) d := by
  obtain ⟨hruns, hstate, hcur, hphase, hop, hagain⟩ := h
  simp [ringEval, evalDesc, hruns, hstate, hcur, hphase, hop, hagain]

/-- The command of an opcode does what the evaluation comes to. -/
theorem exec_of_eval {c : Instr} {f : RingSet → RDesc → State} (hexec : exec c s = settled s (ringEval s rs op f)) (h : RingAtWork s rs op d)
    (hx : f (ringAt s rs) d = x) : exec c s = .next (kept s x) := by
  rw [hexec, ringEval_atWork h, hx, settled_next]

/-- The first failing check of a list is its head's or one of its tail. -/
@[simp] theorem firstBad_nil : firstBad [] = none := rfl
@[simp] theorem firstBad_cons (ok : Bool) (off : Nat) (l : List (Bool × Nat)) : firstBad ((ok, off) :: l) = if ok then firstBad l else some off := by
  cases ok <;> rfl

/-- A field that fails its check ends the descriptor with its offset. -/
theorem withFields_bad {l : List (Bool × Nat)} {off : Nat} (f : State) (h : firstBad l = some off) :
    withFields s rs d l f = ringComplete s rs d.k 0x11 0 off := by simp only [withFields, h, fieldError]

theorem withFields_good {l : List (Bool × Nat)} (f : State) (h : firstBad l = none) : withFields s rs d l f = f := by simp only [withFields, h]

/-- A command whose descriptor has a bad field completes it with FIELD_ERROR. -/
theorem ringDone_of_bad {c : Instr} {l : RingSet → RDesc → List (Bool × Nat)} {g : RingSet → RDesc → State} {off : Nat}
    (hexec : exec c s = settled s (ringEval s rs op (fun r d => withFields s rs d (l r d) (g r d)))) (h : RingAtWork s rs op d)
    (hbad : firstBad (l (ringAt s rs) d) = some off) : RingDone c s s rs d 0x11 0 off :=
  exec_of_eval hexec h (withFields_bad _ hbad)

/-- One whose fields are good goes on. -/
theorem exec_of_good {c : Instr} {l : RingSet → RDesc → List (Bool × Nat)} {g : RingSet → RDesc → State}
    (hexec : exec c s = settled s (ringEval s rs op (fun r d => withFields s rs d (l r d) (g r d)))) (h : RingAtWork s rs op d)
    (hgood : firstBad (l (ringAt s rs) d) = none) (hx : g (ringAt s rs) d = x) : exec c s = .next (kept s x) :=
  exec_of_eval hexec h ((withFields_good _ hgood).trans hx)

/-- A check that is made only where a bit asks for it. -/
theorem asked_ok {b c : Bool} (h : b = true → c = true) : (!b || c) = true := by
  cases b with
  | false => rfl
  | true => exact h rfl

/-- Where the unit is in no slice, the descriptor is applied. -/
theorem atUnit_free {unit : Nat} (f : State) (h : sliceLeft s unit = none) : atUnit s rs d unit f = f := by simp only [atUnit, h]

/-- In a slice of the unit it is tried again later, up to eight times. -/
theorem atUnit_busy {unit left : Nat} (f : State) (h : sliceLeft s unit = some left) (hn : d.busyN < 8) : atUnit s rs d unit f
    = setRing s rs { ringAt s rs with cur := some { d with again := now s + left + 16, busyN := d.busyN + 1 } } := by
  simp only [atUnit, h, if_neg (Nat.not_le.mpr hn), modRing]

theorem atUnit_exhausted {unit left : Nat} (f : State) (h : sliceLeft s unit = some left) (hn : 8 ≤ d.busyN) :
    atUnit s rs d unit f = ringComplete s rs d.k 8 0 (left + 16) := by simp only [atUnit, h, if_pos hn]

/-- A descriptor that is applied at a unit waits for the unit's slice. -/
theorem ringBusy_of_atUnit {c : Instr} {f : RingSet → RDesc → State} {unit : Nat} {g : State}
    (hexec : exec c s = settled s (ringEval s rs op f)) (h : RingAtWork s rs op d) (hf : f (ringAt s rs) d = atUnit s rs d unit g) :
    RingBusy c s rs d unit :=
  fun _ hleft => ⟨fun hn => exec_of_eval hexec h (hf.trans (atUnit_busy g hleft hn)), fun hn => exec_of_eval hexec h (hf.trans (atUnit_exhausted g hleft hn))⟩

/-! ### TOKEN_INJECT (R412) -/

/-- The tokens of an injection are in the network, in order. -/
theorem sendInjects_net (r : RingSet) (l : List Token) (h : ∀ t ∈ l, (placeOf s r.part (tagVt t.tag)).isSome = true) :
    (sendInjects s r l).net = s.net ++ l.filterMap (fun t => (placeOf s r.part (tagVt t.tag)).map (fun p =>
      { cls := 1, dest := p.unit, src := ringSrc r, part := r.part, body := .tokens p.gen [t] false })) := by
  induction l generalizing s with
  | nil => exact (List.append_nil _).symm
  | cons t l ih =>
    obtain ⟨ht, hl⟩ := List.forall_mem_cons.mp h
    obtain ⟨p, hp⟩ := Option.isSome_iff_exists.mp ht
    simp only [sendInjects, hp, List.filterMap_cons, Option.map_some]
    exact (ih (s := sendPkt s _) hl).trans (List.append_assoc s.net [_] _)

section Inject
variable {i : Nat} (h : RingAtWork s rs 0x03 d)

theorem injectKinds_none {r : RingSet} {n : Nat} (hkinds : ∀ i, i < n → injectKindOk (injectToken r d i) = true) :
    (List.range n).find? (fun i => !(injectKindOk (injectToken r d i))) = none := by
  rw [List.find?_eq_none]
  intro i hi
  simp [hkinds i (List.mem_range.mp hi)]

theorem injectPlaces_none {r : RingSet} {n : Nat} (hplaced : ∀ i, i < n → (placeOf s r.part (tagVt (injectToken r d i).tag)).isSome = true) :
    (List.range n).find? (fun i => (placeOf s r.part (tagVt (injectToken r d i).tag)).isNone) = none := by
  rw [List.find?_eq_none]
  intro i hi
  rw [← Option.not_isSome, hplaced i (List.mem_range.mp hi)]
  simp

include h

theorem tokenInject_count (hbad : d.f 8 1 = 0 ∨ 3 < d.f 8 1) : RingDone (.tokenInject rs) s s rs d 0x11 0 8 := by
  have hcount : (decide (1 ≤ d.f 8 1) && decide (d.f 8 1 ≤ 3)) = false := by
    simp only [Bool.and_eq_false_iff, decide_eq_false_iff_not]
    omega
  exact ringDone_of_bad rfl h (by simp only [firstBad_cons, hcount]; rfl)

variable (hlo : 1 ≤ d.f 8 1) (hhi : d.f 8 1 ≤ 3)
include hlo hhi

theorem tokenInject_kind (hfind : (List.range (d.f 8 1)).find? (fun i => !(injectKindOk (injectToken (ringAt s rs) d i))) = some i) :
    RingDone (.tokenInject rs) s s rs d 0x11 0 (0x18 + 16 * i) :=
  exec_of_good rfl h (by simp [hlo, hhi]) (by simp only [hfind, fieldError])

variable (hkinds : ∀ i, i < d.f 8 1 → injectKindOk (injectToken (ringAt s rs) d i) = true)
include hkinds

theorem tokenInject_unbound
    (hfind : (List.range (d.f 8 1)).find? (fun i => (placeOf s (ringAt s rs).part (tagVt (injectToken (ringAt s rs) d i).tag)).isNone) = some i) :
    RingDone (.tokenInject rs) s (raise s Kind.tokenUnboundVtile (rqId (bridgeUnit (ringAt s rs).port) 0) (some (ringAt s rs).part)
      (ringSrc (ringAt s rs)) (injectToken (ringAt s rs) d i).tag.toNat) rs d 0x11 0 (0x18 + 16 * i) :=
  exec_of_good rfl h (by simp [hlo, hhi]) (by simp only [injectKinds_none hkinds, hfind, fieldError])

variable (hplaced : ∀ i, i < d.f 8 1 → (placeOf s (ringAt s rs).part (tagVt (injectToken (ringAt s rs) d i).tag)).isSome = true)
include hplaced

/-- With every token checked, the tokens leave where there is TOKEN credit. -/
theorem tokenInject_sends (hroom : injectRoom s (ringAt s rs) ((List.range (d.f 8 1)).map (injectToken (ringAt s rs) d)) = true) :
    RingDone (.tokenInject rs) s (sendInjects s (ringAt s rs) ((List.range (d.f 8 1)).map (injectToken (ringAt s rs) d))) rs d 0 (d.f 8 1) 0 :=
  exec_of_good rfl h (by simp [hlo, hhi]) (by simp only [injectKinds_none hkinds, injectPlaces_none hplaced, hroom, if_true])

/-- Otherwise the descriptor waits. -/
theorem tokenInject_waits (hroom : injectRoom s (ringAt s rs) ((List.range (d.f 8 1)).map (injectToken (ringAt s rs) d)) = false) :
    exec (.tokenInject rs) s = .next (kept s s) :=
  exec_of_good rfl h (by simp [hlo, hhi]) (by simp [injectKinds_none hkinds, injectPlaces_none hplaced, hroom])

end Inject

/-! ### ACT_ABORT (R414) -/

section Abort
variable {i : Nat} (h : RingAtWork s rs 0x05 d) (hslice : sliceLeft s 0x301 = none)
include h

theorem actAbort_busy : RingBusy (.actAbort rs) s rs d 0x301 := ringBusy_of_atUnit rfl h rfl

include hslice

theorem actAbort_unknown (hlive : liveHandle s (ringAt s rs).part (d.f 8 4) = none) : RingDone (.actAbort rs) s s rs d 0x13 0 0 :=
  exec_of_eval rfl h ((atUnit_free _ hslice).trans (by simp only [hlive]))

variable (hlive : liveHandle s (ringAt s rs).part (d.f 8 4) = some i)
include hlive

theorem actAbort_retiring (hst : (recAt s i).state = 4) : RingDone (.actAbort rs) s s rs d 0x14 0 0 :=
  exec_of_eval rfl h ((atUnit_free _ hslice).trans (by simp only [hlive, if_pos hst]))

variable (hst : (recAt s i).state ≠ 4)
include hst

theorem actAbort_waits (hheld : recHeld s 5 i = true) : exec (.actAbort rs) s = .next (kept s s) :=
  exec_of_eval rfl h ((atUnit_free _ hslice).trans (by simp only [hlive, if_neg hst, if_pos hheld]))

theorem actAbort_retires (hheld : recHeld s 5 i = false) : RingDone (.actAbort rs) s (settleTakes
    (acceptCompletion (setRec (leaveStores s i) i { recAt (leaveStores s i) i with state := 3 }) i true (d.f 0xC 1) none)) rs d 0 0 0 :=
  exec_of_eval rfl h ((atUnit_free _ hslice).trans (by simp only [hlive, if_neg hst, hheld, Bool.false_eq_true, if_false]))

end Abort

/-! ### LOAD_REGS (R420) -/

/-- A tile that no binding of the ring set's partition names refuses its loads. -/
theorem loadTileStatus_other {r : RingSet} {u : Nat} (h : ∀ b ∈ (tileAt s u).bindings, b.valid = false ∨ b.part ≠ r.part) :
    loadTileStatus s r u = 0x10 := by
  have hnone : (tileAt s u).bindings.any (fun b => b.valid && decide (b.part = r.part)) = false := by
    rw [List.any_eq_false]
    intro b hb
    rcases h b hb with hv | hp
    · simp [hv]
    · simp [hp]
  simp [loadTileStatus, hnone]

/-- A tile of the partition takes a load while it is not in use. -/
theorem loadTileStatus_bound {r : RingSet} {u : Nat} {b : Binding} (hb : b ∈ (tileAt s u).bindings) (hv : b.valid = true) (hp : b.part = r.part) :
    loadTileStatus s r u
      = if (tileAt s u).thread.running || !(tileAt s u).fq.isEmpty || (tileAt s u).actSlot.any Option.isSome then 0x15 else 0 := by
  have hany : (tileAt s u).bindings.any (fun b => b.valid && decide (b.part = r.part)) = true :=
    List.any_eq_true.mpr ⟨b, hb, by simp [hv, hp]⟩
  simp [loadTileStatus, hany]

theorem inUse_iff (t : Tile) : (t.thread.running || !t.fq.isEmpty || t.actSlot.any Option.isSome) = true
    ↔ t.thread.running = true ∨ t.fq ≠ [] ∨ ∃ a ∈ t.actSlot, a.isSome = true := by
  simp [or_assoc]

section LoadRegs
variable {u m : Nat} {t : Tile} (h : RingAtWork s rs 0x11 d) (hu : u = steer s (d.f 8 2)) (ht : t = tileAt s u) (hm : m = d.f 0xB 1)
include h hu ht hm

theorem loadRegs_bad {off : Nat}
    (hbad : firstBad [(decide (d.f 8 2 < 0x100), 8), (decide (d.f 0xA 1 < 4), 0xA), (decide (m ≠ 0) && decide (m < 8), 0xB)] = some off) :
    RingDone (.loadRegs rs) s s rs d 0x11 0 off := by
  subst hu ht hm
  exact ringDone_of_bad rfl h hbad

variable (hd : d.f 8 2 < 0x100) (hk : d.f 0xA 1 < 4) (hm0 : m ≠ 0) (hm8 : m < 8)
include hd hk hm0 hm8

theorem loadRegs_testing (htest : t.testing = true) : exec (.loadRegs rs) s = .next (kept s s) := by
  subst hu ht hm
  exact exec_of_good rfl h (by simp [hd, hk, hm0, hm8]) (by simp only [htest, if_true])

variable (htest : t.testing = false)
include htest

theorem loadRegs_refused (hst : loadTileStatus s (ringAt s rs) u ≠ 0) :
    RingDone (.loadRegs rs) s s rs d (loadTileStatus s (ringAt s rs) u) 0 0 := by
  subst hu ht hm
  exact exec_of_good rfl h (by simp [hd, hk, hm0, hm8]) (by simp only [htest, Bool.false_eq_true, if_false, if_pos hst])

variable (hst : loadTileStatus s (ringAt s rs) u = 0)
include hst

/-- A tile that may be loaded has its register values checked. -/
theorem loadRegs_checked {y : State} (hy : withFields s rs d [(!(bit m 0) || codeRegOk (d.f 0x10 8), 0x10), (!(bit m 1) || stackRegOk t (d.f 0xA 1) (d.f 0x18 8), 0x18),
      (!(bit m 2) || lsCtrlOk (d.f 0x20 8), 0x20)]
      (ringComplete (setTile s u (writeTileRegs t (d.f 0xA 1) m (d.f 0x10 8) (d.f 0x18 8) (d.f 0x20 8))) rs d.k 0 0 0) = y) :
    exec (.loadRegs rs) s = .next (kept s y) := by
  subst hu ht hm
  refine exec_of_good rfl h (by simp [hd, hk, hm0, hm8]) (Eq.trans ?_ hy)
  simp only [htest, hst, Bool.false_eq_true, if_false, ne_eq, not_true_eq_false]

theorem loadRegs_writes (hcode : bit m 0 = true → codeRegOk (d.f 0x10 8) = true) (hstack : bit m 1 = true → stackRegOk t (d.f 0xA 1) (d.f 0x18 8) = true)
    (hls : bit m 2 = true → lsCtrlOk (d.f 0x20 8) = true) :
    RingDone (.loadRegs rs) s (setTile s u (writeTileRegs t (d.f 0xA 1) m (d.f 0x10 8) (d.f 0x18 8) (d.f 0x20 8))) rs d 0 0 0 :=
  loadRegs_checked h hu ht hm hd hk hm0 hm8 htest hst (withFields_good _ (by simp [asked_ok hcode, asked_ok hstack, asked_ok hls]))

end LoadRegs

theorem descriptorsCompleted : DescriptorsCompleted := by
  refine ⟨fun s rs d h => exec_of_eval rfl h rfl, ?_, fun s r l h => sendInjects_net r l h, ?_, ?_, ?_, fun _ _ _ _ _ _ => rfl⟩
  · intro s rs d r n h hr hn
    subst hr hn
    exact ⟨tokenInject_count h, fun hlo hhi => ⟨fun i => tokenInject_kind h hlo hhi, fun hkinds =>
      ⟨fun i => tokenInject_unbound h hlo hhi hkinds, fun hplaced =>
        ⟨tokenInject_sends h hlo hhi hkinds hplaced, tokenInject_waits h hlo hhi hkinds hplaced⟩⟩⟩⟩
  · intro s rs d h
    exact ⟨actAbort_busy h, fun hslice => ⟨actAbort_unknown h hslice, fun i hlive =>
      ⟨actAbort_retiring h hslice hlive, actAbort_waits h hslice hlive, actAbort_retires h hslice hlive⟩⟩⟩
  · intro s rs d t u m h hu ht hm
    refine ⟨fun off => loadRegs_bad h hu ht hm, fun hd hk hm0 hm8 => ⟨loadRegs_testing h hu ht hm hd hk hm0 hm8,
      loadRegs_refused h hu ht hm hd hk hm0 hm8, fun htest hst => ⟨fun off hbad => ?_, loadRegs_writes h hu ht hm hd hk hm0 hm8 htest hst⟩⟩⟩
    exact loadRegs_checked h hu ht hm hd hk hm0 hm8 htest hst (withFields_bad _ hbad)
  · intro s r u
    refine ⟨loadTileStatus_other, fun b hb hv hp => ⟨fun huse => ?_, fun hrun hfq hslot => ?_⟩⟩
    · rw [loadTileStatus_bound hb hv hp, if_pos ((inUse_iff _).mpr huse)]
    · have hfree : ¬(((tileAt s u).thread.running || !(tileAt s u).fq.isEmpty || (tileAt s u).actSlot.any Option.isSome) = true) := by
        rw [inUse_iff]
        rintro (hr | hq | ⟨a, ha, hsome⟩)
        · simp [hrun] at hr
        · exact hq hfq
        · simp [hslot a ha] at hsome
      rw [loadTileStatus_bound hb hv hp, if_neg hfree]

end Sys2Proof.Machine
end

section
/-! PROOF. The configuration descriptors (R235, R260, R261, R285, R300, R352, R421, R432): what each object's configuration does, and the
descriptor that asks for it. -/

namespace Sys2Proof.Machine

variable {s x : State} {rs st : Nat} {d : RDesc}

/-! ### CLASS_CONFIG (R235, R421) -/

theorem classDesc_bad (h : RingAtWork s rs 0x18 d) (hc : 64 ≤ d.f 8 1) : RingDone (.classConfig rs) s s rs d 0x11 0 8 :=
  ringDone_of_bad rfl h (by simp [Nat.not_lt.mpr hc])

theorem classDesc_busy (h : RingAtWork s rs 0x18 d) (hc : d.f 8 1 < 64) : RingBusy (.classConfig rs) s rs d 0x301 :=
  ringBusy_of_atUnit rfl h (withFields_good _ (by simp [hc]))

theorem classDesc_applies (h : RingAtWork s rs 0x18 d) (hc : d.f 8 1 < 64) (hslice : sliceLeft s 0x301 = none)
    (hx : classConfig s (ringAt s rs).part (d.f 8 1) (d.f 0x10 8) = (x, st)) :
    RingDone (.classConfig rs) s x rs d st 0 (if st = 0x11 then 0x10 else 0) :=
  exec_of_good rfl h (by simp [hc]) ((atUnit_free _ hslice).trans (by simp only [hx]))

section Class
variable {p c v : Nat} {y : WClass}

theorem classConfig_foreign (h : (classAt s c).valid = false ∨ (classAt s c).part ≠ p) : classConfig s p c v = (s, 0x10) := by
  have hnot : (decide (c < 64) && (classAt s c).valid && decide ((classAt s c).part = p)) = false := by
    rcases h with h | h <;> simp [h]
  simp only [classConfig, hnot]
  rfl

variable (hy : y = classWith (classAt s c) v) (hc : c < 64)
include hy hc

variable (hv : (classAt s c).valid = true) (hp : (classAt s c).part = p)
include hv hp

/-- A class of the partition has its new word checked, then its trail, then its use. -/
theorem classConfig_own : classConfig s p c v =
    if 2 ^ 56 ≤ v ∨ y.dispatch = 3 ∨ 4 < y.siftStand ∨ 1024 < y.poolFirst + y.poolCount then (s, 0x11)
    else if y.trailValid && !(trailOwned s y.trail p) then (s, 0x10)
    else if y ≠ { classAt s c with maxInflight := y.maxInflight } ∧ 0 < countRecs s (fun r => decide (r.cls = c)) then (s, 0x15)
    else (settleTakes { s with sch := { s.sch with classes := s.sch.classes.set c y } }, 0) := by
  subst hy
  have howned : (!(decide (c < 64) && (classAt s c).valid && decide ((classAt s c).part = p))) = false := by simp [hc, hv, hp]
  simp only [classConfig, howned, Bool.false_eq_true, if_false]

variable (hok : ¬(2 ^ 56 ≤ v ∨ y.dispatch = 3 ∨ 4 < y.siftStand ∨ 1024 < y.poolFirst + y.poolCount))
include hok

theorem classConfig_trail (htv : y.trailValid = true) (ht : trailOwned s y.trail p = false) : classConfig s p c v = (s, 0x10) := by
  rw [classConfig_own hy hc hv hp, if_neg hok, if_pos (by simp [htv, ht])]

theorem classConfig_set (ht : y.trailValid = true → trailOwned s y.trail p = true) : classConfig s p c v =
    if y ≠ { classAt s c with maxInflight := y.maxInflight } ∧ 0 < countRecs s (fun r => decide (r.cls = c)) then (s, 0x15)
    else (settleTakes { s with sch := { s.sch with classes := s.sch.classes.set c y } }, 0) := by
  have htrail : ¬((y.trailValid && !(trailOwned s y.trail p)) = true) := by
    cases htv : y.trailValid with
    | false => simp
    | true => simp [ht htv]
  rw [classConfig_own hy hc hv hp, if_neg hok, if_neg htrail]

end Class

/-! ### TRAIL_CONFIG (R260, R261) -/

theorem trailConfig_foreign {p t outPer : Nat} {skip trace : Bool} (ho : trailOwned s t p = false) :
    trailConfig s p t skip trace outPer = (gateRaise s Kind.trailAccessInvalid p 0 t 0, 0x10) := by simp [trailConfig, ho]

theorem trailConfig_own {p t outPer : Nat} {skip trace : Bool} (ht : t < 4096) (hout : outPer ≤ 64) (ho : trailOwned s t p = true) :
    trailConfig s p t skip trace outPer = (setTrail s t { trailAt s t with skip := skip, trace := trace, outPer := outPer }, 0) := by
  simp [trailConfig, ho, ht, hout]

/-- With its fields checked, a trail configuration succeeds or is refused for its trail. -/
theorem trailConfig_status {p t outPer : Nat} {skip trace : Bool} (ht : t < 4096) (hout : outPer ≤ 64)
    (hx : trailConfig s p t skip trace outPer = (x, st)) : st = 0 ∨ st = 0x10 := by
  cases ho : trailOwned s t p with
  | false =>
    rw [trailConfig_foreign ho] at hx
    exact .inr (Prod.mk.inj hx).2.symm
  | true =>
    rw [trailConfig_own ht hout ho] at hx
    exact .inl (Prod.mk.inj hx).2.symm

/-- The field checks of a trail configuration. -/
theorem trailFields_good (ht : d.f 8 2 < 4096) (hv : d.f 0x10 8 < 2 ^ 59) (hlow : bits (d.f 0x10 8) 49 0 = 0) (hout : bits (d.f 0x10 8) 56 50 ≤ 64) :
    firstBad [(decide (d.f 8 2 < 4096), 8), (decide (d.f 0x10 8 < 2 ^ 59) && trailWordOk (d.f 0x10 8), 0x10)] = none := by
  simp only [firstBad_cons, trailWordOk, trailWordOut, ht, hv, hlow, hout]
  rfl

section TrailDesc
variable (h : RingAtWork s rs 0x19 d)
include h

theorem trailDesc_number (ht : 4096 ≤ d.f 8 2) : RingDone (.trailConfig rs) s s rs d 0x11 0 8 :=
  ringDone_of_bad rfl h (by simp [Nat.not_lt.mpr ht])

variable (ht : d.f 8 2 < 4096)
include ht

theorem trailDesc_word (hw : 2 ^ 59 ≤ d.f 0x10 8 ∨ bits (d.f 0x10 8) 49 0 ≠ 0 ∨ 64 < bits (d.f 0x10 8) 56 50) :
    RingDone (.trailConfig rs) s s rs d 0x11 0 0x10 := by
  have hword : (decide (d.f 0x10 8 < 2 ^ 59) && trailWordOk (d.f 0x10 8)) = false := by
    simp only [trailWordOk, Bool.and_eq_false_iff, decide_eq_false_iff_not]
    unfold trailWordOut
    omega
  exact ringDone_of_bad rfl h (by simp only [firstBad_cons, ht, hword]; rfl)

variable (hv : d.f 0x10 8 < 2 ^ 59) (hlow : bits (d.f 0x10 8) 49 0 = 0) (hout : bits (d.f 0x10 8) 56 50 ≤ 64)
include hv hlow hout

theorem trailDesc_busy : RingBusy (.trailConfig rs) s rs d 0x305 :=
  ringBusy_of_atUnit rfl h (withFields_good _ (trailFields_good ht hv hlow hout))

theorem trailDesc_applies (hslice : sliceLeft s 0x305 = none)
    (hx : trailConfig s (ringAt s rs).part (d.f 8 2) (bit (d.f 0x10 8) 58) (bit (d.f 0x10 8) 57) (bits (d.f 0x10 8) 56 50) = (x, st)) :
    (st = 0 ∨ st = 0x10) ∧ RingDone (.trailConfig rs) s x rs d st 0 0 := by
  have hst := trailConfig_status ht hout hx
  have hdet : st ≠ 0x11 := by omega
  refine ⟨hst, exec_of_good rfl h (trailFields_good ht hv hlow hout) ((atUnit_free _ hslice).trans ?_)⟩
  simp only [trailWordSkip, trailWordTrace, trailWordOut, hx, if_neg hdet]

end TrailDesc

/-! ### LOCK_CONFIG (R352) -/

/-- A group with its settings of Table 12.1. -/
def groupWith (g : LockGroup) : Option Nat → LockGroup
  | some c => { g with mode := bit c 0, orphan := bit c 1, node := bit c 2, host := bit c 3, watch := bit c 4 }
  | none => g

/-- The cells of a group that are given initial values. -/
def initCells (s : State) (g : Nat) (inits : List (Nat × Nat)) : State :=
  inits.foldl (fun s i => setCell s (64 * g + i.1) { cellAt s (64 * g + i.1) with init := i.2, count := i.2 }) s

section LockGroup
variable {p g : Nat} {cfg : Option Nat} {inits : List (Nat × Nat)}

theorem lockConfig_foreign (h : (lockGroup s g).valid = false ∨ (lockGroup s g).part ≠ p) : lockConfig s p g cfg inits = (s, 0x10) := by
  have hnot : (decide (g < 64) && (lockGroup s g).valid && decide ((lockGroup s g).part = p)) = false := by
    rcases h with h | h <;> simp [h]
  simp only [lockConfig, hnot]
  rfl

variable (hg : g < 64) (hv : (lockGroup s g).valid = true) (hp : (lockGroup s g).part = p)
include hg hv hp

/-- A group of the partition is configured unless it is in use and its mode or its values would change. -/
theorem lockConfig_own : lockConfig s p g cfg inits =
    if ((groupWith (lockGroup s g) cfg).mode ≠ (lockGroup s g).mode ∨ !inits.isEmpty) ∧ !(groupIdle s g) then (s, 0x15)
    else (initCells { s with lck := { s.lck with groups := s.lck.groups.set g (groupWith (lockGroup s g) cfg) } } g inits, 0) := by
  have howned : (!(decide (g < 64) && (lockGroup s g).valid && decide ((lockGroup s g).part = p))) = false := by simp [hg, hv, hp]
  cases cfg <;> simp only [lockConfig, howned, Bool.false_eq_true, if_false] <;> rfl

theorem lockConfig_inUse (huse : groupIdle s g = false) (hchange : (groupWith (lockGroup s g) cfg).mode ≠ (lockGroup s g).mode ∨ inits ≠ []) :
    lockConfig s p g cfg inits = (s, 0x15) := by
  rw [lockConfig_own hg hv hp, if_pos ⟨hchange.imp_right (by simp), by simp [huse]⟩]

theorem lockConfig_sets (hfree : groupIdle s g = true ∨ ((groupWith (lockGroup s g) cfg).mode = (lockGroup s g).mode ∧ inits = [])) :
    lockConfig s p g cfg inits
      = (initCells { s with lck := { s.lck with groups := s.lck.groups.set g (groupWith (lockGroup s g) cfg) } } g inits, 0) := by
  rw [lockConfig_own hg hv hp, if_neg]
  rintro ⟨hchange, huse⟩
  rcases hfree with hidle | ⟨hmode, hnil⟩
  · simp [hidle] at huse
  · simp [hmode, hnil] at hchange

end LockGroup

section LockDesc
variable (h : RingAtWork s rs 0x1B d)
  (hgood : firstBad [(decide (d.f 8 1 < 64), 8), (decide (d.f 9 1 < 4), 9), (decide (d.f 0xA 1 < 32), 0xA), (!(bit (d.f 9 1) 1) || decide (d.f 0xB 1 < 64), 0xB),
    (!(bit (d.f 9 1) 1) || (inRange 1 16 (d.f 0xC 1) && decide (d.f 0xB 1 + d.f 0xC 1 ≤ 64)), 0xC)] = none)
include h hgood

theorem lockDesc_busy : RingBusy (.lockConfig rs) s rs d 0x304 := ringBusy_of_atUnit rfl h (withFields_good _ hgood)

theorem lockDesc_applies (hslice : sliceLeft s 0x304 = none)
    (hx : lockConfig s (ringAt s rs).part (d.f 8 1) (if bit (d.f 9 1) 0 then some (d.f 0xA 1) else none)
      (if bit (d.f 9 1) 1 then (List.range (d.f 0xC 1)).map (fun i => (d.f 0xB 1 + i, d.f (0x10 + 2 * i) 2)) else []) = (x, st)) :
    RingDone (.lockConfig rs) s x rs d st 0 0 :=
  exec_of_good rfl h hgood ((atUnit_free _ hslice).trans (by simp only [hx]))

end LockDesc

/-! ### OVERSPILL_CONFIG (R300) -/

theorem enableDesc_bad (h : RingAtWork s rs 0x1C d) (ha : 2 ≤ d.f 8 1) : RingDone (.overspillEnable rs) s s rs d 0x11 0 8 := by
  refine exec_of_eval rfl h ((if_neg (by omega)).trans (withFields_bad _ ?_))
  simp [Nat.not_lt.mpr ha]

theorem disableDesc_bad (h : RingAtWork s rs 0x1C d) (ha : 2 ≤ d.f 8 1) : RingDone (.overspillDisable rs) s s rs d 0x11 0 8 := by
  refine exec_of_eval rfl h ((if_neg (by omega)).trans (withFields_bad _ ?_))
  simp [Nat.not_lt.mpr ha]

theorem enableDesc_applies (h : RingAtWork s rs 0x1C d) (ha : d.f 8 1 = 1) (hx : ovfEnable s (ringAt s rs).part (d.f 0x10 8) (d.f 9 1) = (x, st)) :
    RingDone (.overspillEnable rs) s x rs d st 0 (if st ≠ 0x11 then 0 else if inRange 24 32 (d.f 9 1) then 0x10 else 9) := by
  refine exec_of_eval rfl h ((if_neg (by omega)).trans ((withFields_good _ ?_).trans ?_))
  · simp [ha]
  · simp [hx]

section Disable
variable (h : RingAtWork s rs 0x1C d) (ha : d.f 8 1 = 0)
include h ha

theorem disableDesc_size (hn : d.f 9 1 ≠ 0) : RingDone (.overspillDisable rs) s s rs d 0x11 0 9 := by
  refine exec_of_eval rfl h ((if_neg (by omega)).trans (withFields_bad _ ?_))
  simp [ha, hn]

theorem disableDesc_base (hn : d.f 9 1 = 0) (hb : d.f 0x10 8 ≠ 0) : RingDone (.overspillDisable rs) s s rs d 0x11 0 0x10 := by
  refine exec_of_eval rfl h ((if_neg (by omega)).trans (withFields_bad _ ?_))
  simp [ha, hn, hb]

theorem disableDesc_applies (hn : d.f 9 1 = 0) (hb : d.f 0x10 8 = 0) (hst : st ≠ 0x11) (hx : ovfDisable s (ringAt s rs).part = (x, st)) :
    RingDone (.overspillDisable rs) s x rs d st 0 0 := by
  refine exec_of_eval rfl h ((if_neg (by omega)).trans ((withFields_good _ ?_).trans ?_))
  · simp [ha, hn, hb]
  · simp [hx, hst]

end Disable

theorem ovfEnable_bad {p base n : Nat} (h : n < 24 ∨ 32 < n ∨ 2 ^ 44 ≤ base ∨ base % 2 ^ n ≠ 0) : ovfEnable s p base n = (s, 0x11) := by
  have hbad : (decide (24 ≤ n) && decide (n ≤ 32) && decide (base < 2 ^ 44) && decide (base % 2 ^ n = 0)) = false := by
    simp only [Bool.and_eq_false_iff, decide_eq_false_iff_not]
    omega
  simp only [ovfEnable, hbad]
  rfl

/-- A well-formed region is enabled where it may be that large and is disabled. -/
theorem ovfEnable_good {p base n : Nat} (hlo : 24 ≤ n) (hhi : n ≤ 32) (hb : base < 2 ^ 44) (ha : base % 2 ^ n = 0) : ovfEnable s p base n =
    if (regionAt s p).limit < n then (s, 0x14) else if (regionAt s p).state ≠ 0 then (s, 0x14)
    else (setRegion s p { limit := (regionAt s p).limit, state := 1, n := n, base := base }, 0) := by
  simp only [ovfEnable, hlo, hhi, hb, ha, decide_true, Bool.and_self, Bool.not_true, Bool.false_eq_true, if_false]

theorem ovfEnable_refused {p base n : Nat} (hlo : 24 ≤ n) (hhi : n ≤ 32) (hb : base < 2 ^ 44) (ha : base % 2 ^ n = 0)
    (h : (regionAt s p).limit < n ∨ (regionAt s p).state ≠ 0) : ovfEnable s p base n = (s, 0x14) := by
  rw [ovfEnable_good hlo hhi hb ha]
  rcases h with h | h
  · rw [if_pos h]
  · rw [if_pos h, ite_self]

/-- A region is disabled where it is enabled and quiescent, or failed. -/
theorem ovfDisable_eq (s : State) (p : Nat) : ovfDisable s p =
    if (regionAt s p).state = 0 then (s, 0x14) else if (regionAt s p).state ≠ 3 ∧ !(regionQuiet s p) then (s, 0x14)
    else (setRegion s p { limit := (regionAt s p).limit }, 0) := rfl

theorem ovfDisable_refused {p : Nat} (h : (regionAt s p).state = 0 ∨ ((regionAt s p).state ≠ 3 ∧ regionQuiet s p = false)) :
    ovfDisable s p = (s, 0x14) := by
  rw [ovfDisable_eq]
  rcases h with h | ⟨hst, hbusy⟩
  · rw [if_pos h]
  · rw [if_pos (show (regionAt s p).state ≠ 3 ∧ (!regionQuiet s p) = true from ⟨hst, by simp [hbusy]⟩), ite_self]

theorem ovfDisable_done {p : Nat} (hst : (regionAt s p).state ≠ 0) (h : (regionAt s p).state = 3 ∨ regionQuiet s p = true) :
    ovfDisable s p = (setRegion s p { limit := (regionAt s p).limit }, 0) := by
  rw [ovfDisable_eq, if_neg hst, if_neg]
  rintro ⟨hfail, hbusy⟩
  rcases h with h | h
  · exact hfail h
  · simp [h] at hbusy

/-- A region's disabling succeeds or is refused for its state. -/
theorem ovfDisable_status {p : Nat} (hx : ovfDisable s p = (x, st)) : st = 0 ∨ st = 0x14 := by
  have hst : (ovfDisable s p).2 = st := by rw [hx]
  rw [ovfDisable_eq] at hst
  split at hst
  · exact .inr hst.symm
  · split at hst
    · exact .inr hst.symm
    · exact .inl hst.symm

/-! ### TRACE_CONFIG (R285, R288, R421) -/

section Trace
variable {p base ctrl filter : Nat} {y : SpoorDest}

theorem traceConfig_bad (h : 2 ^ 44 ≤ base ∨ base % 4096 ≠ 0 ∨ bits ctrl 63 48 ≠ 0 ∨ bits ctrl 47 9 ≠ 0 ∨ bits ctrl 8 4 < 7 ∨ 25 < bits ctrl 8 4
    ∨ bits ctrl 3 1 ≠ 0 ∨ bits filter 47 32 ≠ 0 ∨ bits filter 18 0 ≠ 0) : traceConfig s p base ctrl filter = (s, 0x11) := by
  have hbad : (decide (base < 2 ^ 44) && decide (base % 4096 = 0) && decide (bits ctrl 63 48 = 0) && decide (bits ctrl 47 9 = 0)
      && inRange 7 25 (bits ctrl 8 4) && decide (bits ctrl 3 1 = 0) && decide (bits filter 47 32 = 0) && decide (bits filter 18 0 = 0)) = false := by
    simp only [inRange, Bool.and_eq_false_iff, decide_eq_false_iff_not]
    omega
  simp only [traceConfig, hbad]
  rfl

variable (hy : y = destAt s (1 + p)) (hb : base < 2 ^ 44) (ha : base % 4096 = 0) (h1 : bits ctrl 63 48 = 0) (h2 : bits ctrl 47 9 = 0) (hlo : 7 ≤ bits ctrl 8 4)
  (hhi : bits ctrl 8 4 ≤ 25) (h3 : bits ctrl 3 1 = 0) (h4 : bits filter 47 32 = 0) (h5 : bits filter 18 0 = 0)
include hy hb ha h1 h2 hlo hhi h3 h4 h5

/-- With good words the destination is configured, unless it is enabled and its buffer would move. -/
theorem traceConfig_good : traceConfig s p base ctrl filter =
    if y.enable && !(decide (base = y.base) && decide (bits ctrl 8 4 = y.n)) then (s, 0x14)
    else (spCtrlSet (setDest s (1 + p) { y with
      base := base, evMask := bits filter 63 48, clsLo := bits filter 31 26, clsHi := bits filter 25 20, trailOnly := bit filter 19 })
      (1 + p) (ctrl + 2 ^ 48 * y.stallLimit), 0) := by
  subst hy
  simp only [traceConfig, inRange, hb, ha, h1, h2, hlo, hhi, h3, h4, h5, decide_true, Bool.and_self, Bool.not_true, Bool.false_eq_true, if_false]

theorem traceConfig_enabled (hen : y.enable = true) (hmove : base ≠ y.base ∨ bits ctrl 8 4 ≠ y.n) : traceConfig s p base ctrl filter = (s, 0x14) := by
  rw [traceConfig_good hy hb ha h1 h2 hlo hhi h3 h4 h5, if_pos]
  rcases hmove with h | h <;> simp [hen, h]

theorem traceConfig_sets (hfree : y.enable = false ∨ (base = y.base ∧ bits ctrl 8 4 = y.n)) : traceConfig s p base ctrl filter =
    (spCtrlSet (setDest s (1 + p) { y with
      base := base, evMask := bits filter 63 48, clsLo := bits filter 31 26, clsHi := bits filter 25 20, trailOnly := bit filter 19 })
      (1 + p) (ctrl + 2 ^ 48 * y.stallLimit), 0) := by
  rw [traceConfig_good hy hb ha h1 h2 hlo hhi h3 h4 h5, if_neg]
  rcases hfree with hoff | ⟨hbase, hn⟩
  · simp [hoff]
  · simp [hbase, hn]

end Trace

theorem configDescriptors : ConfigDescriptors := by
  refine ⟨fun s x rs st d h => ⟨classDesc_bad h, classDesc_busy h, classDesc_applies h⟩, ?_,
    fun s x rs st d h => ⟨trailDesc_number h, trailDesc_word h, fun ht hv hlow hout =>
      ⟨trailDesc_busy h ht hv hlow hout, trailDesc_applies h ht hv hlow hout⟩⟩,
    fun s p t outPer skip trace ht hout => ⟨trailConfig_foreign, trailConfig_own ht hout⟩, ?_, ?_, ?_, ?_, ?_, ?_⟩
  · intro s p c v y hy hc
    refine ⟨classConfig_foreign, fun hv hp => ⟨fun hbad => ?_, fun hw hdis hsift hpool => ?_⟩⟩
    · rw [classConfig_own hy hc hv hp, if_pos hbad]
    · have hok : ¬(2 ^ 56 ≤ v ∨ y.dispatch = 3 ∨ 4 < y.siftStand ∨ 1024 < y.poolFirst + y.poolCount) := by omega
      refine ⟨classConfig_trail hy hc hv hp hok, fun ht => ⟨fun hne huse => ?_, fun hfree => ?_⟩⟩
      · rw [classConfig_set hy hc hv hp hok ht, if_pos ⟨hne, huse⟩]
      · rw [classConfig_set hy hc hv hp hok ht, if_neg]
        rintro ⟨hne, huse⟩
        rcases hfree with hsame | hnone
        · exact hne hsame
        · omega
  · intro s x rs st d h
    refine ⟨fun off hbad => ringDone_of_bad rfl h hbad, fun hg hset hcfg hinit => ?_⟩
    have hgood : firstBad [(decide (d.f 8 1 < 64), 8), (decide (d.f 9 1 < 4), 9), (decide (d.f 0xA 1 < 32), 0xA), (!(bit (d.f 9 1) 1) || decide (d.f 0xB 1 < 64), 0xB),
        (!(bit (d.f 9 1) 1) || (inRange 1 16 (d.f 0xC 1) && decide (d.f 0xB 1 + d.f 0xC 1 ≤ 64)), 0xC)] = none := by
      cases hb : bit (d.f 9 1) 1 with
      | false => simp [hg, hset, hcfg]
      | true => simp [hg, hset, hcfg, hinit hb, inRange]
    exact ⟨lockDesc_busy h hgood, lockDesc_applies h hgood⟩
  · intro s p g c hg
    refine ⟨fun cfg inits => lockConfig_foreign, fun hv hp => ⟨fun huse hmode inits => lockConfig_inUse hg hv hp huse (.inl hmode),
      fun huse cfg i l => lockConfig_inUse hg hv hp huse (.inr (List.cons_ne_nil i l)),
      fun hfree => lockConfig_sets hg hv hp (hfree.imp_right fun hmode => ⟨hmode, rfl⟩), fun hidle n v => ?_⟩⟩
    rw [lockConfig_sets hg hv hp (.inl hidle)]
    exact ⟨rfl, rfl⟩
  · intro s x rs st d h
    refine ⟨fun ha => ⟨enableDesc_bad h ha, disableDesc_bad h ha⟩, enableDesc_applies h, disableDesc_size h, disableDesc_base h, fun ha hn hb hx => ?_⟩
    have hst := ovfDisable_status hx
    exact ⟨hst, disableDesc_applies h ha hn hb (by omega) hx⟩
  · intro s p base n
    refine ⟨ovfEnable_bad, fun hlo hhi hb ha => ⟨ovfEnable_refused hlo hhi hb ha, fun hlim hst => ?_⟩, ovfDisable_refused, ovfDisable_done⟩
    rw [ovfEnable_good hlo hhi hb ha, if_neg (Nat.not_lt.mpr hlim), if_neg (not_not.mpr hst)]
  · intro s x rs st d h hx
    exact exec_of_eval rfl h (by simp only [hx])
  · intro s p base ctrl filter y hy
    exact ⟨traceConfig_bad, fun hb ha h1 h2 hlo hhi h3 h4 h5 =>
      ⟨traceConfig_enabled hy hb ha h1 h2 hlo hhi h3 h4 h5, traceConfig_sets hy hb ha h1 h2 hlo hhi h3 h4 h5⟩⟩

end Sys2Proof.Machine

/-- Settles O52: each descriptor's evaluation comes to its checks and the effect of its opcode. -/
theorem descriptorsCompletedAtOnce : Obligations.DescriptorsCompletedAtOnce :=
  ⟨Sys2Proof.Machine.descriptorsCompleted, Sys2Proof.Machine.configDescriptors⟩
end

section
/-! PROOF. Descriptors that other units serve (R411, R413, R415 to R420, R252, R276): the request that a descriptor sends, its answer, and the
long descriptors of the copy engine and of the loader. -/

namespace Sys2Proof.Machine

variable {s x : State} {rs k : Nat} {d : RDesc}

/-! ### Ring sets and their changes -/

@[simp] theorem ringAt_setRing (s : State) (rs : Nat) (r : RingSet) : ringAt (setRing s rs r) rs = r := SMap.get_put_same ..

@[simp] theorem ringAt_sendReq (s : State) (o : OutReq) (rs : Nat) : ringAt (sendReq s o) rs = ringAt s rs := by
  obtain ⟨_, _, _, _, _, h, -⟩ := sendReq_touches s o
  rw [h]
  rfl

@[simp] theorem windowOpen_setRing (rs : Nat) (r : RingSet) (src p target : Nat) : windowOpen (setRing s rs r) src p target = windowOpen s src p target := rfl
@[simp] theorem partTarget_setRing (rs : Nat) (r : RingSet) (p a : Nat) : partTarget (setRing s rs r) p a = partTarget s p a := rfl
@[simp] theorem homeUnit_setRing (rs : Nat) (r : RingSet) (p : Nat) : homeUnit (setRing s rs r) p = homeUnit s p := rfl

/-- A change of a long descriptor leaves its ring set's port and partition. -/
@[simp] theorem ringAt_modLong (f : RDesc → RDesc) : ringAt (modLong s rs k f) rs
    = { ringAt s rs with longs := (ringAt s rs).longs.map (fun d => if d.k = k then f d else d) } := by simp [modLong, modRing]
@[simp] theorem partTarget_modLong (f : RDesc → RDesc) (p a : Nat) : partTarget (modLong s rs k f) p a = partTarget s p a := rfl

/-- A ring set's requests name its function as their source (R24). -/
@[simp] theorem rqId_ringSrc (r : RingSet) : rqId (bridgeUnit r.port) (ringSrc r % 4) = ringSrc r := by
  simp only [ringSrc, rqId]
  split <;> omega

/-! ### A descriptor's request (R406) -/

/-- The request of a descriptor. -/
def descReq (s : State) (rs : Nat) (d : RDesc) (target : Nat) (b : Body) : OutReq :=
  { unit := bridgeUnit (ringAt s rs).port, sub := ringSrc (ringAt s rs) % 4, part := (ringAt s rs).part, target := target, body := b, use := .desc rs d.k }

section Send
variable (s rs d) (target : Nat) (b : Body)

/-- The ring set's descriptor awaits its answer. -/
def awaiting : State := setRing s rs { ringAt s rs with cur := some { d with phase := 2 } }

theorem sendDesc_eq : sendDesc s rs (ringAt s rs) d target b = sendReq (awaiting s rs d) (descReq s rs d target b) := rfl

theorem sendDesc_ring : ringAt (sendDesc s rs (ringAt s rs) d target b) rs = { ringAt s rs with cur := some { d with phase := 2 } } := by
  rw [sendDesc_eq, ringAt_sendReq, awaiting, ringAt_setRing]

/-- A request whose tag window is open is in the network. -/
theorem sendReq_net_of_open {o : OutReq} (h : cachedOp o.body = false ∨ windowOpen s (rqId o.unit o.sub) o.part o.target = true) :
    (sendReq s o).net = s.net ++ [{ cls := 2, dest := o.target, src := rqId o.unit o.sub, part := o.part, tag := sendTag s o, body := o.body }] := by
  obtain ⟨hnet, -, -⟩ := sendNow_spec s o
  rcases h with h | h
  · rw [sendReq_plain s o h, hnet]
  · rw [sendReq_open h, hnet]

/-- One whose window is closed waits. -/
theorem sendReq_of_closed {o : OutReq} (hc : cachedOp o.body = true) (h : windowOpen s (rqId o.unit o.sub) o.part o.target = false) :
    sendReq s o = { s with sendWait := s.sendWait ++ [o] } := by simp [sendReq, hc, h]

theorem sendDesc_net (h : cachedOp b = false ∨ windowOpen s (ringSrc (ringAt s rs)) (ringAt s rs).part target = true) :
    ∃ tag, (sendDesc s rs (ringAt s rs) d target b).net
      = s.net ++ [{ cls := 2, dest := target, src := ringSrc (ringAt s rs), part := (ringAt s rs).part, tag := tag, body := b }] := by
  have hopen : cachedOp (descReq s rs d target b).body = false
      ∨ windowOpen (awaiting s rs d) (rqId (bridgeUnit (ringAt s rs).port) (ringSrc (ringAt s rs) % 4)) (ringAt s rs).part target = true := by
    rw [awaiting, windowOpen_setRing, rqId_ringSrc]
    exact h
  rw [sendDesc_eq, sendReq_net_of_open _ hopen, awaiting, setRing_net]
  simp only [descReq, rqId_ringSrc]
  exact ⟨_, rfl⟩

theorem sendDesc_waits (hc : cachedOp b = true) (h : windowOpen s (ringSrc (ringAt s rs)) (ringAt s rs).part target = false) :
    (sendDesc s rs (ringAt s rs) d target b).net = s.net
    ∧ ∃ o : OutReq, (sendDesc s rs (ringAt s rs) d target b).sendWait = s.sendWait ++ [o] ∧ o.target = target ∧ o.body = b ∧ o.use = .desc rs d.k := by
  have hclosed : windowOpen (awaiting s rs d) (rqId (bridgeUnit (ringAt s rs).port) (ringSrc (ringAt s rs) % 4)) (ringAt s rs).part target = false := by
    rw [awaiting, windowOpen_setRing, rqId_ringSrc, h]
  rw [sendDesc_eq, sendReq_of_closed _ (o := descReq s rs d target b) hc hclosed]
  exact ⟨rfl, descReq s rs d target b, rfl, rfl, rfl, rfl⟩

end Send

/-! ### The descriptors that ask (R411 to R418, R276) -/

theorem launch_sends (h : RingAtWork s rs 0x02 d) (hctx : d.f 0x18 2 < 2 ^ 14) (hgiven : bits (d.f 8 8) 53 52 = 0 ∨ (d.f 0x18 2 = 0 ∧ d.f 0x1A 2 = 0))
    (htrail : bits (d.f 0x1C 2) 14 12 = 0) (hhost : d.f 0x1E 1 < 2) : RingSends (.launch rs) s rs d 0x301 (.admission {
      spawn := BitVec.ofNat 64 (d.f 8 8), arg := BitVec.ofNat 64 (d.f 0x10 8), ctx := d.f 0x18 2, iter := d.f 0x1A 2, launch := true
      trail := if bit (d.f 0x1C 2) 15 then some (d.f 0x1C 2 % 4096) else none
      notify0 := d.f 0x20 4, notify1 := d.f 0x24 4, host := d.wantsHost, ringset := rs }) := by
  refine exec_of_good rfl h ?_ rfl
  rcases hgiven with hg | ⟨hc, hi⟩
  · simpa [hg, htrail, hhost] using hctx
  · simp [hc, hi, htrail, hhost]

theorem lockOpOf_named {c : Nat} {op : LockOp}
    (h : (c, op) ∈ [(1, LockOp.acquire), (2, .try_), (3, .release), (4, .semAcquire), (5, .semRelease), (6, .cancel)]) : lockOpOf c = some op := by
  simp only [List.mem_cons, Prod.mk.injEq, List.not_mem_nil, or_false] at h
  rcases h with ⟨rfl, rfl⟩ | ⟨rfl, rfl⟩ | ⟨rfl, rfl⟩ | ⟨rfl, rfl⟩ | ⟨rfl, rfl⟩ | ⟨rfl, rfl⟩ <;> rfl

theorem lockOpOf_none {c : Nat} (h : c = 0 ∨ 6 < c) : lockOpOf c = none := by
  rcases h with rfl | h
  · rfl
  · obtain ⟨n, rfl⟩ := Nat.exists_eq_add_of_lt h
    rw [Nat.add_right_comm, Nat.add_comm]
    rfl

/-- The action of a TRAIL_CTRL (R276). -/
def trailActionOf (c : Nat) : TrailAction := if c = 0 then .skip else if c = 1 then .pass else .reset

theorem trailActionOf_named {c : Nat} {a : TrailAction} (h : (c, a) ∈ [(0, TrailAction.skip), (1, .pass), (2, .reset)]) :
    c < 3 ∧ trailActionOf c = a := by
  simp only [List.mem_cons, Prod.mk.injEq, List.not_mem_nil, or_false] at h
  rcases h with ⟨rfl, rfl⟩ | ⟨rfl, rfl⟩ | ⟨rfl, rfl⟩ <;> exact ⟨by omega, rfl⟩

theorem trailCtrl_sends (h : RingAtWork s rs 0x1A d) {a : TrailAction} (ha : (d.f 0xA 1, a) ∈ [(0, TrailAction.skip), (1, .pass), (2, .reset)])
    (ht : d.f 8 2 < 4096) : RingSends (.trailCtrl rs) s rs d 0x305 (.trailCtrl (d.f 8 2) a) := by
  obtain ⟨hlt, rfl⟩ := trailActionOf_named ha
  exact exec_of_good rfl h (by simp [ht, hlt]) rfl

section Force
variable (h : RingAtWork s rs 0x0A d) (hfw : fwRuns s = true)
include h hfw

theorem lockForce_bad (hc : 4096 ≤ d.f 8 2) : RingDone (.lockForce rs) s s rs d 0x11 0 8 := by
  refine exec_of_eval rfl h ((if_neg (by simp [hfw])).trans (withFields_bad _ ?_))
  simp [Nat.not_lt.mpr hc]

variable (hc : d.f 8 2 < 4096)
include hc

theorem lockForce_foreign (hg : (lockGroup s (d.f 8 2 / 64)).valid = false ∨ (lockGroup s (d.f 8 2 / 64)).part ≠ (ringAt s rs).part) :
    RingDone (.lockForce rs) s s rs d 0x10 0 0 := by
  refine exec_of_eval rfl h ((if_neg (by simp [hfw])).trans ((withFields_good _ (by simp [hc])).trans (if_pos ?_)))
  rcases hg with hg | hg <;> simp [hg]

theorem lockForce_sends (hv : (lockGroup s (d.f 8 2 / 64)).valid = true) (hp : (lockGroup s (d.f 8 2 / 64)).part = (ringAt s rs).part) :
    exec (.lockForce rs) s = .next (kept s (sendReq (setRing s rs { ringAt s rs with cur := none, longs := (ringAt s rs).longs ++ [{ d with phase := 2 }] })
      { unit := 0x308, part := (ringAt s rs).part, target := 0x304, use := .desc rs d.k, body := .lockOp { op := .force, word := d.f 8 2 } })) := by
  refine exec_of_eval rfl h ((if_neg (by simp [hfw])).trans ((withFields_good _ (by simp [hc])).trans (if_neg ?_)))
  simp [hv, hp]

end Force

/-! ### Repeats and answers (R252, R411, R416, R417) -/

section Repeat
variable {o : OutReq} (hruns : bridgeRuns s (ringAt s rs).port = true) (hcur : (ringAt s rs).cur = some d) (hphase : d.phase = 3) (hdue : d.again ≤ now s)
  (ho : s.outs.find? (fun o => decide (o.use = .desc rs d.k) && o.againAt.isSome) = some o)
include hruns hcur hphase hdue ho

/-- A held descriptor that is due is sent again: a SIFT as a new request, a LAUNCH with its tag. -/
theorem heldRepeat_due : heldRepeat s rs =
    if d.op = 8 then sendSift { setRing s rs { ringAt s rs with cur := some { d with phase := 2 } } with outs := s.outs.erase o } rs (ringAt s rs) d
    else sendPkt { setRing s rs { ringAt s rs with cur := some { d with phase := 2 } } with
          outs := s.outs.erase o ++ [{ o with againAt := none, timer := some (now s + e2eLimit s) }] }
        { cls := 2, dest := o.target, src := rqId o.unit o.sub, part := o.part, tag := o.tag, body := o.body } := by
  have hgo : (!(bridgeRuns s (ringAt s rs).port) || decide (d.phase ≠ 3) || decide (now s < d.again)) = false := by
    simp [hruns, hphase, Nat.not_lt.mpr hdue]
  simp only [heldRepeat, hcur, hgo, Bool.false_eq_true, if_false, ho]
  rfl

end Repeat

section Answer
variable {o : OutReq} {st : Nat} {w : W64}

/-- The descriptor that an answer serves has the answer's number. -/
theorem descAt_number (h : descAt s rs k = some d) : d.k = k := by
  have hlong : longAt s rs k = some d → d.k = k := fun hl => by simpa using List.find?_some hl
  unfold descAt at h
  split at h
  · split at h
    · next hk => exact Option.some.inj h ▸ hk
    · exact hlong h
  · exact hlong h

variable (hd : descAt s rs k = some d) (hst : st = resultStatus w)
include hd hst

theorem ringResult_launched (hop : d.op = 2) (h0 : st = 0) : ringResult s o rs k w =
    ringComplete (if d.wantsHost then setRing s rs { ringAt s rs with retire := (ringAt s rs).retire ++ [(bits w.toNat 47 16, d.seq)] } else s)
      rs k 0 (bits w.toNat 47 16) 0 := by
  simp only [ringResult, hd, ← hst, hop, h0, if_true]
  rfl

theorem ringResult_held (h : (d.op = 2 ∧ (st = 9 ∨ st = 0xA)) ∨ (d.op = 8 ∧ st ≠ 0)) : ringResult s o rs k w = ringHold s o rs d st := by
  rcases h with ⟨hop, hfull⟩ | ⟨hop, hne⟩
  · have hne : st ≠ 0 := by omega
    simp only [ringResult, hd, ← hst, hop, if_true, if_neg hne, if_pos hfull]
  · simp only [ringResult, hd, ← hst, hop, show ¬(8 = 2) by decide, if_false, if_true, if_neg hne]

theorem ringResult_lock (hop : d.op = 9) : ringResult s o rs k w = ringComplete s rs k st (bits w.toNat 47 16) (if st = 0x11 then 0xFF else 0) := by
  simp [ringResult, hd, ← hst, hop]

theorem ringResult_decrement (hop : d.op = 4) : ringResult s o rs k w = ringComplete s rs k st 0 (if st = 0x11 then 0xFF else 0) := by
  simp [ringResult, hd, ← hst, hop]

end Answer

/-- Unless it may not be held, a descriptor is held for 256 cc. -/
theorem ringHold_holds {o : OutReq} {st : Nat} (hdrain : (ringAt s rs).state ≠ 2) (hhold : d.nohold = false) :
    (ringAt (ringHold s o rs d st) rs).cur = some { d with phase := 3, again := now s + 256 } ∧ (ringHold s o rs d st).net = s.net := by
  simp only [ringHold, if_neg hdrain, hhold, Bool.false_eq_true, if_false]
  refine ⟨?_, rfl⟩
  exact congrArg RingSet.cur (ringAt_setRing s rs _)

theorem ringHold_ends {o : OutReq} {st : Nat} (hdrain : (ringAt s rs).state ≠ 2) (hhold : d.nohold = true) :
    ringHold s o rs d st = ringComplete s rs d.k (if d.op = 8 then 9 else st) 0 0 := by simp only [ringHold, if_neg hdrain, hhold, if_true]

theorem descriptorsAsk : DescriptorsAsk := by
  refine ⟨fun s rs d => ⟨fun h => ⟨fun off hbad => ringDone_of_bad rfl h hbad, launch_sends h⟩, fun h => ⟨fun hc => ?_, fun hc => ?_⟩,
    fun h => exec_of_eval rfl h rfl, fun h => ⟨fun hc => ?_, fun hc => ?_⟩, fun h => ⟨fun hc => ?_, fun hc => ?_⟩,
    fun h => ⟨fun op hop => ?_, fun hc => ?_⟩, fun h => ⟨fun a => trailCtrl_sends h, fun hc => ?_, fun ht hc => ?_⟩,
    fun h hfw => ⟨lockForce_bad h hfw, lockForce_foreign h hfw, lockForce_sends h hfw⟩⟩,
    fun s rs target d b => ⟨sendDesc_ring s rs d target b, sendDesc_net s rs d target b, sendDesc_waits s rs d target b⟩, ?_, ?_⟩
  · exact exec_of_good rfl h (by simp [hc]) rfl
  · exact ringDone_of_bad rfl h (by simp [Nat.not_lt.mpr hc])
  · exact exec_of_good rfl h (by simpa using hc) rfl
  · exact ringDone_of_bad rfl h (by simpa using hc)
  · exact exec_of_good rfl h (by simp [hc]) rfl
  · exact ringDone_of_bad rfl h (by simp [Nat.not_le.mpr hc])
  · exact exec_of_eval rfl h (by simp only [lockOpOf_named hop])
  · exact exec_of_eval rfl h (by simp only [lockOpOf_none hc, fieldError])
  · exact ringDone_of_bad rfl h (by simp [Nat.not_lt.mpr hc])
  · exact ringDone_of_bad rfl h (by simp [ht, Nat.not_lt.mpr hc])
  · intro s rs d o hruns hcur hphase hdue ho
    have hagain : exec (.heldDescriptorRepeat rs) s = .next (kept s (heldRepeat s rs)) := rfl
    rw [hagain, heldRepeat_due hruns hcur hphase hdue ho]
    refine ⟨fun hop => ?_, fun hop => ?_⟩
    · rw [if_pos hop]
      rfl
    · rw [if_neg (by omega)]
  · intro s o rs k st d w hd hst
    refine ⟨fun hop h0 hhost => ?_, fun hop h0 hhost => ?_, fun hfull hdrain => ?_, ringResult_lock hd hst, ringResult_decrement hd hst⟩
    · rw [ringResult_launched hd hst hop h0, hhost]
      rfl
    · rw [ringResult_launched hd hst hop h0, hhost, if_pos rfl]
    · rw [ringResult_held hd hst hfull]
      refine ⟨fun hhold => ?_, ringHold_holds hdrain⟩
      rw [ringHold_ends hdrain hhold, descAt_number hd]

end Sys2Proof.Machine
end

section
/-! PROOF. The long descriptors (R419, R420): the copy engine's lines and the loader's. -/

namespace Sys2Proof.Machine

variable {s : State} {rs k : Nat} {d : RDesc}

/-! ### COPY and the copy engine (R419) -/

/-- A region of a copy is aligned and in one window. -/
def copyRegion (a len : Nat) : Bool := decide (a % 64 = 0) && (sifWindow a).isSome && decide (sifWindow (a + len - 1) = sifWindow a)

theorem copyRegion_bad {a len : Nat} (h : a % 64 ≠ 0 ∨ sifWindow a = none ∨ sifWindow (a + len - 1) ≠ sifWindow a) : copyRegion a len = false := by
  rcases h with h | h | h <;> simp [copyRegion, h]

theorem copyRegion_good {a len : Nat} (ha : a % 64 = 0) (hw : sifWindow a ≠ none) (hz : sifWindow (a + len - 1) = sifWindow a) :
    copyRegion a len = true := by simp [copyRegion, ha, hz, Option.isSome_iff_ne_none, hw]

section Copy
variable (h : RingAtWork s rs 0x0B d)
include h

theorem copy_length (hlen : d.f 0x18 4 % 64 ≠ 0 ∨ d.f 0x18 4 < 64 ∨ 2 ^ 30 < d.f 0x18 4) : RingDone (.copy rs) s s rs d 0x11 0 0x18 := by
  have hbad : (decide (d.f 0x18 4 % 64 = 0) && decide (64 ≤ d.f 0x18 4) && decide (d.f 0x18 4 ≤ 2 ^ 30)) = false := by
    simp only [Bool.and_eq_false_iff, decide_eq_false_iff_not]
    omega
  exact ringDone_of_bad rfl h (by simp only [firstBad_cons, hbad]; rfl)

variable (hmod : d.f 0x18 4 % 64 = 0) (hlo : 64 ≤ d.f 0x18 4) (hhi : d.f 0x18 4 ≤ 2 ^ 30)
include hmod hlo hhi

theorem copy_source (hsrc : copyRegion (d.f 8 8) (d.f 0x18 4) = false) : RingDone (.copy rs) s s rs d 0x11 0 8 := by
  unfold copyRegion at hsrc
  exact ringDone_of_bad rfl h (by simp only [firstBad_cons, hmod, hlo, hhi, hsrc]; rfl)

variable (hsrc : copyRegion (d.f 8 8) (d.f 0x18 4) = true)
include hsrc

theorem copy_destination (hdst : (copyRegion (d.f 0x10 8) (d.f 0x18 4) && !(decide (sifWindow (d.f 8 8) = some 3) && decide (sifWindow (d.f 0x10 8) = some 3))) = false) :
    RingDone (.copy rs) s s rs d 0x11 0 0x10 := by
  unfold copyRegion at hsrc hdst
  exact ringDone_of_bad rfl h (by simp only [firstBad_cons, hmod, hlo, hhi, hsrc, hdst]; rfl)

variable (hdst : (copyRegion (d.f 0x10 8) (d.f 0x18 4) && !(decide (sifWindow (d.f 8 8) = some 3) && decide (sifWindow (d.f 0x10 8) = some 3))) = true)
include hdst

/-- A good copy joins the copy engine, which holds at most 8. -/
theorem copy_joins {y : State} (hy : (if 8 ≤ (hifAt s (ringAt s rs).port).copies.length then s
      else copyKick (setHif (makeLong s rs { d with phase := 2 }) (ringAt s rs).port { hifAt s (ringAt s rs).port with
        copies := (hifAt s (ringAt s rs).port).copies ++ [(rs, d.k)] }) (ringAt s rs).port) = y) : exec (.copy rs) s = .next (kept s y) := by
  unfold copyRegion at hsrc hdst
  exact exec_of_good rfl h (by simp only [firstBad_cons, hmod, hlo, hhi, hsrc, hdst]; rfl) hy

end Copy

theorem copyStart_succ (s : State) (b n : Nat) : copyStart s b (n + 1) =
    if !(bridgeRuns s b) || decide ((hifAt s b).copyLeft ≠ 0) then s
    else match (hifAt s b).copies with
    | [] => s
    | (rs, k) :: _ =>
      match longAt s rs k with
      | none => s
      | some d =>
        match copyRead (setHif s b { hifAt s b with copyLeft := min 64 (d.f 0x18 4 / 64 - d.next) }) rs d with
        | (s1, true) => s1
        | (s1, false) => copyStart s1 b n := rfl

theorem copyKick_busy {b : Nat} (h : (hifAt s b).copyLeft ≠ 0) : copyKick s b = s :=
  (copyStart_succ s b 7).trans (if_pos (by simp [h]))

/-- The engine starts the copy at the head of its rotation. -/
theorem copyKick_starts {x : State} {b : Nat} {l : List (Nat × Nat)} (hruns : bridgeRuns s b = true) (hcopies : (hifAt s b).copies = (rs, k) :: l)
    (hlong : longAt s rs k = some d) (hleft : (hifAt s b).copyLeft = 0)
    (hread : copyRead (setHif s b { hifAt s b with copyLeft := min 64 (d.f 0x18 4 / 64 - d.next) }) rs d = (x, true)) : copyKick s b = x := by
  refine (copyStart_succ s b 7).trans ((if_neg (by simp [hruns, hleft])).trans ?_)
  simp only [hcopies] at hread
  simp only [hcopies, hlong, hread]

theorem copyRead_asks {u : Nat} {m : MemWord} (h : partTarget s (ringAt s rs).part (d.f 8 8 + 64 * d.next) = some (u, m)) : copyRead s rs d =
    (sendReq (modLong s rs d.k (fun d => { d with next := d.next + 1 }))
      { unit := bridgeUnit (ringAt s rs).port, sub := 2, part := (ringAt s rs).part, target := u, use := .copyRead rs d.k d.next, body := .readLine m }, true) := by
  simp only [copyRead, ringAt_modLong, partTarget_modLong, h]

theorem copyRead_stops (h : partTarget s (ringAt s rs).part (d.f 8 8 + 64 * d.next) = none) : (copyRead s rs d).2 = false := by
  simp only [copyRead, ringAt_modLong, partTarget_modLong, h]

section Data
variable {l poison x u : Nat} {data : List Byte} {m : MemWord} {o : OutReq} (hlong : longAt s rs k = some d)
  (hx : x = ((hifAt s (ringAt s rs).port).copies.findIdx? (fun e => decide (e = (rs, k)))).getD 0)
  (ho : o = { unit := bridgeUnit (ringAt s rs).port, sub := 2, part := (ringAt s rs).part, use := .copyWrite rs k l })
  (hto : partTarget s (ringAt s rs).part (d.f 0x10 8 + 64 * l) = some (u, m))
include hlong hx ho hto

/-- A line that has been read is written where its destination lies: a frame, a stand's buffer, or the host. -/
theorem copyData_writes : copyData s rs k l data poison =
    if m.space = 0 then sendReq s { o with target := u, body := .lineWrite (2 ^ 16 * m.slot + m.off / 64) x false data poison }
    else if m.space = 1 then sendReq s { o with target := u, body := .lineWrite (m.off / 64) x false data poison }
    else sendReq (sendPosted s (rqId (bridgeUnit (ringAt s rs).port) 2) u (ringAt s rs).part (.hostBase x m.off))
      { o with target := u, body := .lineWrite 0 x false data poison } := by
  subst hx ho
  simp only [copyData, hlong, hto]

end Data

/-- The last line of a copy completes it. -/
theorem copyDone_last {h : Hif} (hlong : longAt s rs k = some d) (hh : h = hifAt s (ringAt s rs).port) (hleft : h.copyLeft = 1)
    (hlast : d.done + 1 = d.f 0x18 4 / 64) : copyDone s rs k = copyKick (copyForget (ringComplete (setHif
      (modLong s rs k (fun d => { d with done := d.done + 1 })) (ringAt s rs).port { h with
        copyLeft := 0, copies := h.copies.filter (fun e => e != (rs, k)) ++ [(rs, k)] }) rs k 0 (d.f 0x18 4) 0) (ringAt s rs).port) (ringAt s rs).port := by
  subst hh
  simp only [copyDone, hlong, hleft, Nat.sub_self, ne_eq, not_true_eq_false, if_false, if_pos hlast]

/-! ### LOAD_CODE (R420) -/

section Load
variable {u : Nat} (h : RingAtWork s rs 0x10 d) (hu : u = steer s (d.f 8 2))
  (hgood : firstBad [(decide (d.f 8 2 < 0x100), 8), (decide (d.f 0xC 4 % 4 = 0), 0xC),
    (decide (d.f 0x10 4 % 4 = 0) && decide (4 ≤ d.f 0x10 4) && decide (d.f 0xC 4 + d.f 0x10 4 ≤ 131072), 0x10), (decide (d.f 0x18 8 + d.f 0x10 4 ≤ 2 ^ 44), 0x18)] = none)
include h hu hgood

theorem loadCode_waits (htest : (tileAt s u).testing = true) : exec (.loadCode rs) s = .next (kept s s) := by
  subst hu
  exact exec_of_good rfl h hgood (if_pos htest)

variable (htest : (tileAt s u).testing = false)
include htest

theorem loadCode_refused (hst : loadTileStatus s (ringAt s rs) u ≠ 0) :
    RingDone (.loadCode rs) s s rs d (loadTileStatus s (ringAt s rs) u) 0 0 := by
  subst hu
  exact exec_of_good rfl h hgood ((if_neg (by simp [htest])).trans (if_pos hst))

theorem loadCode_starts (hst : loadTileStatus s (ringAt s rs) u = 0) :
    exec (.loadCode rs) s = .next (kept s (loadKick (setRing s rs { ringAt s rs with
      cur := none, longs := (ringAt s rs).longs ++ [{ d with phase := 2 }] }) rs d.k)) := by
  subst hu
  exact exec_of_good rfl h hgood ((if_neg (by simp [htest])).trans (if_neg (not_not.mpr hst)))

end Load

/-- A block of one line asks for that line. -/
theorem loadKick_last (hlong : longAt s rs k = some d) (hlast : d.next + 1 = loadLines d) : loadKick s rs k =
    sendReq (modLong s rs k (fun d => { d with next := d.next + 1, left := 1 }))
      { unit := bridgeUnit (ringAt s rs).port, sub := 2, part := (ringAt s rs).part, target := homeUnit s (ringAt s rs).part,
        use := .codeRead rs k d.next, body := .readLine { space := 2, off := d.f 0x18 8 / 64 * 64 + 64 * d.next } } := by
  have hone : min 64 (loadLines d - d.next) = 1 := by omega
  simp only [loadKick, hlong, hone, List.range_one, List.map_cons, List.map_nil, Nat.zero_add, List.foldl_cons, List.foldl_nil]
  rfl

/-- A line within a block enters the tile's instruction store. -/
theorem loadData_within {l : Nat} {data : List Byte} (hlong : longAt s rs k = some d) (hmore : d.done + 1 < loadLines d) (hleft : 1 < d.left) :
    loadData s rs k l data = modLong (modTile s (steer s (d.f 8 2)) (fun t => { t with
      istore := ByteMem.wrBytes t.istore (loadPiece d l data).1 (loadPiece d l data).2 })) rs k (fun d => { d with done := d.done + 1, left := d.left - 1 }) := by
  simp only [loadData, hlong, if_neg (Nat.ne_of_lt hmore), if_neg (Nat.ne_of_gt hleft)]

theorem longDescriptors : LongDescriptors := by
  refine ⟨?_, fun s b rs k l d hruns hcopies hlong _ => ⟨copyKick_busy, fun x => copyKick_starts hruns hcopies hlong⟩,
    fun s rs d => ⟨fun u m => copyRead_asks, copyRead_stops⟩, ?_, fun s rs k d h => copyDone_last, ?_, fun s rs k d => loadKick_last,
    fun s rs k l data d => loadData_within⟩
  · intro s rs src dst len d hif h hsrc hdst hlen hhif
    subst hsrc hdst hlen hhif
    refine ⟨copy_length h, fun hmod hlo hhi => ⟨fun hbad => copy_source h hmod hlo hhi (copyRegion_bad hbad), fun ha hw hz => ?_⟩⟩
    have hs := copyRegion_good ha hw hz
    refine ⟨fun hbad => copy_destination h hmod hlo hhi hs ?_, fun hda hdw hdz hnot => ?_⟩
    · rcases hbad with hd | hd | hd | ⟨h3, h3'⟩
      · simp [copyRegion_bad (.inl hd)]
      · simp [copyRegion_bad (.inr (.inl hd))]
      · simp [copyRegion_bad (.inr (.inr hd))]
      · simp [h3, h3']
    · have hd : (copyRegion (d.f 0x10 8) (d.f 0x18 4) && !(decide (sifWindow (d.f 8 8) = some 3) && decide (sifWindow (d.f 0x10 8) = some 3))) = true := by
        simpa [copyRegion_good hda hdw hdz] using not_and_or.mp hnot
      exact ⟨fun hfull => copy_joins h hmod hlo hhi hs hd (if_pos hfull), fun hroom => copy_joins h hmod hlo hhi hs hd (if_neg (Nat.not_le.mpr hroom))⟩
  · intro s rs k l poison x data d o hlong hx ho u m hto
    rw [copyData_writes hlong hx ho hto]
    refine ⟨fun h0 => if_pos h0, fun h1 => ?_, fun h2 => ?_⟩
    · rw [if_neg (by omega), if_pos h1]
    · rw [if_neg (by omega), if_neg (by omega)]
  · intro s rs u d h hu
    refine ⟨fun off hbad => ringDone_of_bad rfl h hbad, fun ht hoff hmod hlen hend hsrc => ?_⟩
    have hgood : firstBad [(decide (d.f 8 2 < 0x100), 8), (decide (d.f 0xC 4 % 4 = 0), 0xC),
        (decide (d.f 0x10 4 % 4 = 0) && decide (4 ≤ d.f 0x10 4) && decide (d.f 0xC 4 + d.f 0x10 4 ≤ 131072), 0x10), (decide (d.f 0x18 8 + d.f 0x10 4 ≤ 2 ^ 44), 0x18)]
        = none := by
      simp only [firstBad_cons, ht, hoff, hmod, hlen, hend, hsrc]
      rfl
    exact ⟨loadCode_waits h hu hgood, loadCode_refused h hu hgood, loadCode_starts h hu hgood⟩

end Sys2Proof.Machine

/-- Settles O53: each descriptor sends its unit's request or goes its long way, line by line. -/
theorem descriptorsSent : Obligations.DescriptorsSent := ⟨Sys2Proof.Machine.descriptorsAsk, Sys2Proof.Machine.longDescriptors⟩
end

section
/-! PROOF. Trails at the release gate (R260 to R276): what the gate's own operations leave of a trail and of the network, said once, and
the commands that bring it requests. -/

namespace Sys2Proof.Machine

variable {s s' s1 : State} {t : Nat} {it : Item} {g : GateTok} {rq : Rq}

/-! ### Trails and items -/

@[simp] theorem trailAt_setTrail (s : State) (t : Nat) (x : Trail) : trailAt (setTrail s t x) t = x := SMap.get_put_same ..

theorem trailAt_of_trails (h : s'.trl.trails = s.trl.trails) (t : Nat) : trailAt s' t = trailAt s t := by rw [trailAt, trailAt, h]


/-- A change of the items with one number changes no other field of their trail. -/
theorem trailAt_modItem (s : State) (t seq : Nat) (f : Item → Item) : trailAt (modItem s t seq f) t
    = { trailAt s t with items := (trailAt s t).items.map (fun i => if i.seq = seq then f i else i) } := trailAt_setTrail ..

/-- Where it keeps the numbers, the items stand in their order. -/
theorem map_seq_modified {f : Item → Item} (hf : ∀ i, (f i).seq = i.seq) (seq : Nat) (l : List Item) :
    (l.map (fun i => if i.seq = seq then f i else i)).map Item.seq = l.map Item.seq := by
  rw [List.map_map]
  refine List.map_congr_left fun i _ => ?_
  by_cases h : i.seq = seq
  · rw [Function.comp_apply, if_pos h, hf]
  · rw [Function.comp_apply, if_neg h]

/-! ### What the gate keeps while it sends (R269, R271, R272) -/

/-- From `s` to `s'` trail `t` keeps its items in order, whatever becomes of their contents, and its other fields; no release is counted,
no placement changes, and packets only join the network. -/
structure GateKeeps (t : Nat) (s s' : State) : Prop where
  trail : ∃ l, trailAt s' t = { trailAt s t with items := l } ∧ l.map Item.seq = (trailAt s t).items.map Item.seq
  released : s'.trl.released = s.trl.released
  holes : s'.trl.holes = s.trl.holes
  place : s'.place = s.place
  net : s.net ⊆ s'.net

theorem GateKeeps.of_trails (htrails : s'.trl.trails = s.trl.trails) (hreleased : s'.trl.released = s.trl.released) (hholes : s'.trl.holes = s.trl.holes)
    (hplace : s'.place = s.place) (hnet : s.net ⊆ s'.net) : GateKeeps t s s' :=
  ⟨⟨(trailAt s t).items, trailAt_of_trails htrails t, rfl⟩, hreleased, hholes, hplace, hnet⟩

theorem GateKeeps.of_trl (htrl : s'.trl = s.trl) (hplace : s'.place = s.place) (hnet : s.net ⊆ s'.net) : GateKeeps t s s' :=
  .of_trails (by rw [htrl]) (by rw [htrl]) (by rw [htrl]) hplace hnet

theorem GateKeeps.refl (t : Nat) (s : State) : GateKeeps t s s := .of_trl rfl rfl (List.Subset.refl _)

theorem GateKeeps.trans (h1 : GateKeeps t s s1) (h2 : GateKeeps t s1 s') : GateKeeps t s s' := by
  obtain ⟨⟨l1, htrail1, hseq1⟩, hreleased1, hholes1, hplace1, hnet1⟩ := h1
  obtain ⟨⟨l2, htrail2, hseq2⟩, hreleased2, hholes2, hplace2, hnet2⟩ := h2
  rw [htrail1] at htrail2 hseq2
  exact ⟨⟨l2, htrail2, hseq2.trans hseq1⟩, hreleased2.trans hreleased1, hholes2.trans hholes1, hplace2.trans hplace1,
    List.Subset.trans hnet1 hnet2⟩

theorem GateKeeps.part_eq (h : GateKeeps t s s') : (trailAt s' t).part = (trailAt s t).part := by
  obtain ⟨l, htrail, -⟩ := h.trail
  rw [htrail]

/-- Placements are read alike. -/
theorem GateKeeps.placeOf_eq (h : GateKeeps t s s') : placeOf s' = placeOf s := by
  funext p vt
  rw [placeOf, h.place, placeOf]

theorem modItem_keeps {f : Item → Item} (hf : ∀ i, (f i).seq = i.seq) (s : State) (t seq : Nat) : GateKeeps t s (modItem s t seq f) :=
  ⟨⟨_, trailAt_modItem .., map_seq_modified hf ..⟩, rfl, rfl, rfl, List.Subset.refl _⟩

theorem withFlt_keeps (t : Nat) (s : State) (flt : Flt) : GateKeeps t s { s with flt := flt } := .of_trl rfl rfl (List.Subset.refl _)

theorem withSch_keeps (t : Nat) (s : State) (sch : Sch) : GateKeeps t s { s with sch := sch } := .of_trl rfl rfl (List.Subset.refl _)

theorem sendPkt_keeps (t : Nat) (s : State) (p : Packet) : GateKeeps t s (sendPkt s p) := .of_trl rfl rfl (List.subset_append_left ..)

theorem gateSpoor_trl (s : State) (t : Nat) (it : Item) (event status detail : Nat) : (gateSpoor s t it event status detail).trl = s.trl := by
  rw [gateSpoor]
  split <;> rfl

theorem gateSpoor_flt (s : State) (t : Nat) (it : Item) (event status detail : Nat) : (gateSpoor s t it event status detail).flt = s.flt := by
  rw [gateSpoor]
  split <;> rfl

theorem gateSpoor_untraced (h : (trailAt s t).trace = false) (it : Item) (event status detail : Nat) : gateSpoor s t it event status detail = s :=
  if_pos (by rw [h]; rfl)

theorem gateSpoor_keeps (t : Nat) (s : State) (it : Item) (event status detail : Nat) : GateKeeps t s (gateSpoor s t it event status detail) := by
  rw [gateSpoor]
  split
  · exact .refl t s
  · exact sendPkt_keeps t s _

/-- Faults that the gate raises change the collector's inbox alone. -/
theorem gateRaises_touches (kind part h t seq : Nat) (l : List GateTok) (s : State) :
    ∃ flt, l.foldl (fun s _ => gateRaise s kind part h t seq) s = { s with flt := flt } := by
  induction l generalizing s with
  | nil => exact ⟨s.flt, rfl⟩
  | cons _ l ih => exact ih _

/-- Item `i` when the stored errors of item `it` are met: tokens with an uncorrectable error are gone, and it is marked for them. -/
def metItem (it i : Item) : Item := { i with
  toks := (i.toks.filter (fun g => decide (g.err < 2))).map (fun g => { g with err := 0 })
  bad := i.bad || !(it.toks.filter (fun g => decide (2 ≤ g.err))).isEmpty }

theorem metItem_seq (it i : Item) : (metItem it i).seq = i.seq := rfl

/-- Stored errors change the collector's inbox and the contents of the item alone. -/
theorem meetItem_touches (s : State) (t : Nat) (it : Item) : ∃ flt, meetItem s t it = modItem { s with flt := flt } t it.seq (metItem it) := by
  obtain ⟨flt1, h1⟩ := gateRaises_touches Kind.gateStoreCorrected (trailAt s t).part it.handle t it.seq (it.toks.filter (fun g => g.err == 1)) s
  obtain ⟨flt2, h2⟩ := gateRaises_touches Kind.gateStoreUncorrectable (trailAt s t).part it.handle t it.seq
    (it.toks.filter (fun g => decide (2 ≤ g.err))) { s with flt := flt1 }
  refine ⟨flt2, ?_⟩
  dsimp only [meetItem]
  rw [h1, h2]
  rfl

theorem meetItem_keeps (s : State) (t : Nat) (it : Item) : GateKeeps t s (meetItem s t it) := by
  obtain ⟨flt, h⟩ := meetItem_touches s t it
  rw [h]
  exact (withFlt_keeps t s flt).trans (modItem_keeps (metItem_seq it) ..)

theorem meetItem_net (s : State) (t : Nat) (it : Item) : (meetItem s t it).net = s.net := by
  obtain ⟨flt, h⟩ := meetItem_touches s t it
  rw [h]
  rfl

/-- The packet with which a token leaves the gate for its placement. -/
abbrev gatePkt (s : State) (t : Nat) (g : GateTok) (p : Place) : Packet :=
  { cls := 1, dest := p.unit, src := rqId 0x305 0, part := (trailAt s t).part, tag := 0, body := .tokens p.gen [g.tok] true }

/-- A token with a placement leaves for it, and its acknowledgement is awaited. -/
theorem gateEmit_sends {p : Place} (hp : placeOf s (trailAt s t).part (tagVt g.tok.tag) = some p) (it : Item) :
    gateEmit s t it g = sendPkt { s with trl := { s.trl with acks := s.trl.acks ++ [(gatePkt s t g p, it.handle)],
                                                             ackTimer := some (s.trl.ackTimer.getD (now s + e2eLimit s)) } } (gatePkt s t g p) := by
  simp only [gateEmit, hp]

/-- One without a placement is dropped with TOKEN_UNBOUND_VTILE. -/
theorem gateEmit_unbound (hp : placeOf s (trailAt s t).part (tagVt g.tok.tag) = none) (it : Item) :
    gateEmit s t it g = raise s Kind.tokenUnboundVtile (rqId 0x305 0) (some (trailAt s t).part) g.src g.tok.tag.toNat := by
  simp only [gateEmit, hp]

theorem gateEmit_keeps (s : State) (t : Nat) (it : Item) (g : GateTok) : GateKeeps t s (gateEmit s t it g) := by
  cases hp : placeOf s (trailAt s t).part (tagVt g.tok.tag) with
  | none =>
    rw [gateEmit_unbound hp]
    exact withFlt_keeps ..
  | some p =>
    rw [gateEmit_sends hp]
    exact .of_trails rfl rfl rfl rfl (List.subset_append_left ..)

theorem gateEmits_keeps (s : State) (t : Nat) (it : Item) (l : List GateTok) : GateKeeps t s (gateEmits s t it l) := by
  induction l generalizing s with
  | nil => exact .refl t s
  | cons g l ih => exact (gateEmit_keeps s t it g).trans (ih _)

/-- Each token with a placement has left. -/
theorem gatePkt_mem_gateEmits {p : Place} {l : List GateTok} (hg : g ∈ l) (hp : placeOf s (trailAt s t).part (tagVt g.tok.tag) = some p)
    (it : Item) : gatePkt s t g p ∈ (gateEmits s t it l).net := by
  induction l generalizing s with
  | nil => cases hg
  | cons a l ih =>
    have hkeeps := gateEmit_keeps s t it a
    rcases List.mem_cons.mp hg with rfl | hg
    · refine (gateEmits_keeps (gateEmit s t it g) t it l).net ?_
      rw [gateEmit_sends hp]
      exact mem_net_sendPkt ..
    · have hmem := ih (s := gateEmit s t it a) hg (by rw [hkeeps.placeOf_eq, hkeeps.part_eq]; exact hp)
      rwa [gatePkt, hkeeps.part_eq] at hmem

theorem headReady_keeps (s : State) (t : Nat) : GateKeeps t s (headReady s t) := by
  rw [headReady]
  split
  · exact .refl t s
  · split
    · exact .refl t s
    · dsimp only
      split
      · exact meetItem_keeps ..
      · exact (meetItem_keeps ..).trans ((modItem_keeps (f := fun i => { i with toks := [] }) (fun _ => rfl) ..).trans (gateEmits_keeps ..))

/-! ### A record goes back to the clearing scheduler (R248, R273) -/

theorem sendReq_keeps (t : Nat) (s : State) (o : OutReq) : GateKeeps t s (sendReq s o) := by
  obtain ⟨_, _, _, _, _, h, -⟩ := sendReq_touches s o
  refine .of_trl (by rw [h]) (by rw [h]) ?_
  rw [sendReq]
  split
  · exact List.Subset.refl _
  · rw [(sendNow_spec s o).1]
    exact List.subset_append_left ..

theorem setRec_keeps (t : Nat) (s : State) (i : Nat) (r : Rec) : GateKeeps t s (setRec s i r) := withSch_keeps ..

theorem sendDecrement_keeps (t : Nat) (s : State) (i h : Nat) (failed : Bool) : GateKeeps t s (sendDecrement s i h failed) := by
  rw [sendDecrement]
  split
  · exact .refl t s
  · exact (setRec_keeps ..).trans (sendReq_keeps ..)

theorem sendHostCompletion_keeps (t : Nat) (s : State) (i : Nat) : GateKeeps t s (sendHostCompletion s i) := by
  rw [sendHostCompletion]
  split
  · exact (setRec_keeps ..).trans (sendReq_keeps ..)
  · exact .refl t s

theorem sendContextRelease_keeps (t : Nat) (s : State) (i : Nat) : GateKeeps t s (sendContextRelease s i) := by
  dsimp only [sendContextRelease]
  split
  · exact .refl t s
  · split
    · exact withSch_keeps ..
    · exact sendReq_keeps ..

theorem retireEffects_keeps (t : Nat) (s : State) (i : Nat) : GateKeeps t s (retireEffects s i) :=
  (setRec_keeps ..).trans ((sendDecrement_keeps ..).trans ((sendDecrement_keeps ..).trans
    ((sendHostCompletion_keeps ..).trans (sendContextRelease_keeps ..))))

theorem retireServe_keeps (t : Nat) (s : State) (l : List Nat) : GateKeeps t s (retireServe s l) := by
  induction l generalizing s with
  | nil => exact .refl t s
  | cons i l ih =>
    rw [retireServe]
    split
    · exact (withSch_keeps ..).trans (ih _)
    · exact (retireEffects_keeps ..).trans (ih _)

theorem handBack_keeps (t : Nat) (s : State) (it : Item) (fail : Bool) : GateKeeps t s (handBack s it fail) :=
  (setRec_keeps ..).trans (retireServe_keeps ..)

/-! ### The head leaves (R271, R275) -/

/-- The head of trail `t` has left, and the next one has not yet let its tokens go. -/
def headPopped (s : State) (t : Nat) : State :=
  setTrail s t { trailAt s t with items := (trailAt s t).items.tail, relSeq := ((trailAt s t).relSeq + 1) % 65536 }

theorem trailAt_headPopped (s : State) (t : Nat) : trailAt (headPopped s t) t
    = { trailAt s t with items := (trailAt s t).items.tail, relSeq := ((trailAt s t).relSeq + 1) % 65536 } := trailAt_setTrail ..

/-- The head leaves alike whatever became of the items' contents. -/
theorem GateKeeps.popped (h : GateKeeps t s s') : GateKeeps t (headPopped s t) (headPopped s' t) := by
  obtain ⟨⟨l, htrail, hseq⟩, hreleased, hholes, hplace, hnet⟩ := h
  refine ⟨⟨l.tail, ?_, ?_⟩, hreleased, hholes, hplace, hnet⟩
  · rw [trailAt_headPopped, trailAt_headPopped, htrail]
  · rw [trailAt_headPopped, List.map_tail, List.map_tail, hseq]

theorem popItem_keeps (h : GateKeeps t s s') : GateKeeps t (headPopped s t) (popItem s' t) := h.popped.trans (headReady_keeps ..)

/-- From `s` to `s'` the head of trail `t` leaves: RELEASE_SEQ advances, the items behind it stay in order, and the trail's other fields
stay. -/
abbrev HeadLeft (t : Nat) (s s' : State) : Prop := ∃ l, l.map Item.seq = (trailAt s t).items.tail.map Item.seq
  ∧ trailAt s' t = { trailAt s t with items := l, relSeq := ((trailAt s t).relSeq + 1) % 65536 }

theorem GateKeeps.headLeft (h : GateKeeps t (headPopped s t) s') : HeadLeft t s s' := by
  obtain ⟨l, htrail, hseq⟩ := h.trail
  rw [trailAt_headPopped] at htrail hseq
  exact ⟨l, hseq, htrail⟩

theorem popItem_headLeft (s : State) (t : Nat) : HeadLeft t s (popItem s t) := (popItem_keeps (.refl t s)).headLeft

/-- The item that is released as a hole leaves, and is counted as released and as a hole. -/
theorem releaseHole_spec (s : State) (t : Nat) (it : Item) : HeadLeft t s (releaseHole s t it)
    ∧ (releaseHole s t it).trl.holes = (s.trl.holes + 1) % 2 ^ 16 ∧ (releaseHole s t it).trl.released = (s.trl.released + 1) % 2 ^ 32 := by
  have h := popItem_keeps ((gateSpoor_keeps t s it 8 2 it.toks.length).trans (handBack_keeps t _ it true))
  dsimp only [releaseHole]
  generalize popItem _ t = x at h ⊢
  rw [h.holes, h.released]
  exact ⟨h.headLeft, rfl, rfl⟩

/-- The item that is released with its tokens leaves, is counted as released, and its tokens have gone. -/
theorem releaseItem_spec (s : State) (t : Nat) (it : Item) (fail : Bool) : HeadLeft t s (releaseItem s t it fail)
    ∧ (releaseItem s t it fail).trl.holes = s.trl.holes ∧ (releaseItem s t it fail).trl.released = (s.trl.released + 1) % 2 ^ 32
    ∧ ∀ g ∈ it.toks, ∀ p, placeOf s (trailAt s t).part (tagVt g.tok.tag) = some p → gatePkt s t g p ∈ (releaseItem s t it fail).net := by
  have hback := (gateSpoor_keeps t (gateEmits s t it it.toks) it 7 (if fail then 2 else 0) it.toks.length).trans (handBack_keeps t _ it fail)
  have h := popItem_keeps ((gateEmits_keeps s t it it.toks).trans hback)
  have hnet := (popItem_keeps hback).net
  dsimp only [releaseItem]
  generalize popItem _ t = x at h hnet ⊢
  rw [h.holes, h.released]
  exact ⟨h.headLeft, rfl, rfl, fun g hg p hp => hnet (gatePkt_mem_gateEmits hg hp it)⟩

end Sys2Proof.Machine
end

section
/-! PROOF. Items, tokens and completions at the release gate (R260, R263, R265, R267, R268, R271): each request by its cases. -/

namespace Sys2Proof.Machine

variable {s s' : State} {rq : Rq} {t h q status : Nat} {tok : Token} {it : Item}

theorem exec_seqReq (s : State) (rq : Rq) (t h : Nat) : exec (.seqReq rq t h) s = .next (kept s (seqReq s rq t h)) := rfl
theorem exec_seqReturn (s : State) (rq : Rq) (t q : Nat) : exec (.seqReturn rq t q) s = .next (kept s (seqReturn s rq t q)) := rfl
theorem exec_gateToken (s : State) (rq : Rq) (h : Nat) (tok : Token) : exec (.gateToken rq h tok) s = .next (kept s (gateToken s rq h tok)) := rfl
theorem exec_gateComplete (s : State) (rq : Rq) (h t q status : Nat) :
    exec (.gateComplete rq h t q status) s = .next (kept s (gateComplete s rq h t q status)) := rfl

/-! ### A cached request arrives (R339) -/

section Cached
variable {target : Nat} {b : Body} {r : Resp} {eval : State → Eval} (hnew : ReachesNew s target rq b)
include hnew

/-- One that changes its target is answered, and its answer kept. -/
theorem arrivingReq_kept (he : eval (takePkt s (reqPkt target rq b)) = { st := s', ans := some r }) :
    arriveReq s target rq b (fun s => cachedReq s target rq eval) = answeredKept s' target rq r := by
  obtain ⟨⟨-, ha, hs⟩, hr⟩ := hnew
  rw [arriveReq_served _ ha]
  exact cachedReq_kept (s := takePkt s _) hs hr he

/-- One that changes nothing is answered. -/
theorem arrivingReq_unchanged (he : eval (takePkt s (reqPkt target rq b)) = { st := s', ans := some r, changed := false }) :
    arriveReq s target rq b (fun s => cachedReq s target rq eval) = respond s' target rq r := by
  obtain ⟨⟨-, ha, hs⟩, hr⟩ := hnew
  rw [arriveReq_served _ ha]
  exact cachedReq_unchanged (s := takePkt s _) hs hr he

end Cached

/-- Nothing of a trail changes while a packet is taken, an answer sent or a command settled. -/
@[simp] theorem trailAt_takePkt (s : State) (p : Packet) (t : Nat) : trailAt (takePkt s p) t = trailAt s t := rfl
@[simp] theorem trailAt_respond (s : State) (target : Nat) (rq : Rq) (r : Resp) (t : Nat) : trailAt (respond s target rq r) t = trailAt s t := rfl
@[simp] theorem trailAt_kept (s s' : State) (t : Nat) : trailAt (kept s s') t = trailAt s' t := rfl

/-! ### Sequence numbers (R263, R265) -/

/-- A trail whose next number the record of handle `h` takes. -/
abbrev numbered (x : Trail) (h : Nat) : Trail := { x with
  nextSeq := (x.nextSeq + 1) % 65536, items := x.items ++ [{ seq := x.nextSeq, handle := h, skip := x.skip, outPer := x.outPer }] }

theorem seqEval_numbers (ho : trailOwned s t rq.part = true) (hroom : (trailAt s t).items.length < 256)
    (hquota : gateReserved s rq.part + (trailAt s t).outPer ≤ s.trl.quotas.getD rq.part 0) :
    seqEval s rq t h = { st := setTrail s t (numbered (trailAt s t) h), ans := some (.seqData 0 (trailAt s t).nextSeq) } := by
  simp only [seqEval, ho, if_neg (Nat.not_le.mpr hroom), if_neg (Nat.not_lt.mpr hquota)]
  rfl

theorem seqEval_foreign (ho : trailOwned s t rq.part = false) : seqEval s rq t h =
    { st := gateRaise s Kind.trailAccessInvalid rq.part h t 0, ans := some (.seqData 0x10 0), changed := false } := by
  simp only [seqEval, ho]
  rfl

theorem seqEval_full (ho : trailOwned s t rq.part = true)
    (hfull : 256 ≤ (trailAt s t).items.length ∨ s.trl.quotas.getD rq.part 0 < gateReserved s rq.part + (trailAt s t).outPer) :
    seqEval s rq t h = { st := { s with trl := { s.trl with full := (s.trl.full + 1) % 2 ^ 16 } }, ans := some (.seqData 0x09 0), changed := false } := by
  by_cases hitems : 256 ≤ (trailAt s t).items.length
  · simp only [seqEval, ho, if_pos hitems]
    rfl
  · simp only [seqEval, ho, if_neg hitems, if_pos (hfull.resolve_left hitems)]
    rfl

theorem seqReq_arrives (hw : working s = true) :
    seqReq s rq t h = arriveReq s 0x305 rq (.seqReq t h) (fun s => cachedReq s 0x305 rq (fun s => seqEval s rq t h)) := if_neg (by simp [hw])

/-- A number returned: the newest is given back, an older one becomes a hole. -/
def seqGivenBack (x : Trail) (q : Nat) : Trail :=
  if decide ((q + 1) % 65536 = x.nextSeq) then { x with nextSeq := q, items := x.items.filter (fun i => i.seq != q) }
  else { x with items := x.items.map (fun i => if i.seq = q then { i with hole := true, outPer := 0, toks := [] } else i) }

section Return
variable (hnew : ReachesNew s 0x305 rq (.seqReturn t q))
include hnew

theorem seqReturn_refused (hnone : ∀ i ∈ (trailAt s t).items, i.seq = q → i.hole = true) : seqReturn s rq t q
    = respond (takePkt s (reqPkt 0x305 rq (.seqReturn t q))) 0x305 rq (.result (resultWord true 0 0x14)) := by
  have hany : (trailAt s t).items.any (fun i => decide (i.seq = q) && !i.hole) = false := by simpa using hnone
  rw [seqReturn, if_neg (by simp [hnew.1.1])]
  exact arrivingReq_unchanged hnew (by simp only [trailAt_takePkt, hany]; rfl)

theorem seqReturn_takes_back (hsome : ∃ i ∈ (trailAt s t).items, i.seq = q ∧ i.hole = false) : seqReturn s rq t q
    = answeredKept (setTrail (takePkt s (reqPkt 0x305 rq (.seqReturn t q))) t (seqGivenBack (trailAt s t) q)) 0x305 rq (.result (resultWord false 0 0)) := by
  have hany : (trailAt s t).items.any (fun i => decide (i.seq = q) && !i.hole) = true := by simpa using hsome
  rw [seqReturn, if_neg (by simp [hnew.1.1])]
  exact arrivingReq_kept hnew (by simp only [trailAt_takePkt, hany]; rfl)

end Return

/-! ### Tokens (R267, R268) -/

theorem gateToken_arrives (hreach : Reaches s 0x305 rq (.gateToken h tok)) {r : Resp} {changed : Bool}
    (he : gateTokenEval (takePkt s (reqPkt 0x305 rq (.gateToken h tok))) rq h tok = { st := s', ans := some r, changed := changed }) :
    gateToken s rq h tok = respond s' 0x305 rq r := by
  obtain ⟨hw, ha, hs⟩ := hreach
  rw [gateToken, if_neg (by simp [hw, hs]), arriveReq_served _ ha]
  dsimp only
  rw [he]

/-- The item with one more token sent. -/
abbrev tokenCounted (s : State) (t seq : Nat) : State := modItem s t seq (fun x => { x with sent := x.sent + 1 })

section Item
variable {i : Nat} (hlive : liveHandle s rq.part h = some i) (htrail : (recAt s i).trail = some t)
    (hfind : (trailAt s t).items.find? (fun x => decide (x.handle = h) && !x.hole) = some it) (hdone : it.done = none)
include hlive htrail hfind hdone

theorem gateTokenEval_overflows (hover : it.outPer ≤ it.sent) : gateTokenEval s rq h tok
    = { st := gateRaise s Kind.trailOutputOverflow rq.part h t it.seq, ans := some (.result (resultWord false 0 0)) } := by
  simp only [gateTokenEval, hlive, htrail, hfind, hdone, Option.isSome_none, Bool.false_eq_true, if_false, if_pos hover]

theorem gateTokenEval_passes (hroom : it.sent < it.outPer) (hhead : headItem s t = some it) (hempty : it.toks = []) : gateTokenEval s rq h tok
    = { st := gateEmit (tokenCounted s t it.seq) t it ⟨tok, rq.src, 0⟩, ans := some (.result (resultWord false 0 0)) } := by
  have hpass : headItem s t = some it ∧ it.toks.isEmpty := ⟨hhead, by rw [hempty]; rfl⟩
  simp only [gateTokenEval, hlive, htrail, hfind, hdone, Option.isSome_none, Bool.false_eq_true, if_false, if_neg (Nat.not_le.mpr hroom), if_pos hpass]

theorem gateTokenEval_stores (hroom : it.sent < it.outPer) (hbehind : headItem s t ≠ some it ∨ it.toks ≠ []) : gateTokenEval s rq h tok
    = { st := modItem (tokenCounted s t it.seq) t it.seq (fun x => { x with toks := x.toks ++ [⟨tok, rq.src, 0⟩] })
        ans := some (.result (resultWord false 0 0)) } := by
  have hstore : ¬ (headItem s t = some it ∧ it.toks.isEmpty) := fun ⟨hhead, hempty⟩ => hbehind.elim (· hhead) (· (List.isEmpty_iff.mp hempty))
  simp only [gateTokenEval, hlive, htrail, hfind, hdone, Option.isSome_none, Bool.false_eq_true, if_false, if_neg (Nat.not_le.mpr hroom), if_neg hstore]

end Item

/-- A token of no live handle, of a record on no trail, or of no item that awaits its completion has no item. -/
theorem gateTokenEval_refused (hnone : liveHandle s rq.part h = none ∨ (∃ i, liveHandle s rq.part h = some i ∧ ((recAt s i).trail = none ∨
      ∃ t, (recAt s i).trail = some t ∧ ∀ it, (trailAt s t).items.find? (fun x => decide (x.handle = h) && !x.hole) = some it → it.done ≠ none))) :
    gateTokenEval s rq h tok = { st := s, ans := some (.result (resultWord true 0 0x13)), changed := false } := by
  rcases hnone with hdead | ⟨i, hlive, htrail | ⟨t, htrail, hitem⟩⟩
  · simp only [gateTokenEval, hdead]
  · simp only [gateTokenEval, hlive, htrail]
  · cases hfind : (trailAt s t).items.find? (fun x => decide (x.handle = h) && !x.hole) with
    | none => simp only [gateTokenEval, hlive, htrail, hfind]
    | some it => simp only [gateTokenEval, hlive, htrail, hfind, if_pos (Option.isSome_iff_ne_none.mpr (hitem it hfind))]

/-- Two changes of the items with one number are one change. -/
theorem items_modItem_modItem {f g : Item → Item} (hf : ∀ i, (f i).seq = i.seq) (s : State) (t seq : Nat) :
    (trailAt (modItem (modItem s t seq f) t seq g) t).items = (trailAt s t).items.map (fun i => if i.seq = seq then g (f i) else i) := by
  rw [trailAt_modItem, trailAt_modItem, List.map_map]
  refine List.map_congr_left fun i _ => ?_
  by_cases hi : i.seq = seq
  · simp only [Function.comp_apply, if_pos hi, if_pos ((hf i).trans hi)]
  · simp only [Function.comp_apply, if_neg hi]

/-! ### Completions (R271) -/

section Complete
variable (hreach : Reaches s 0x305 rq (.gateComplete h t q status)) (hfree : gateHeldBy s t 6 (recAt s (h % 2 ^ 16)).cls = false)
include hreach hfree

/-- The completion of an item that still waits for it is kept; one that comes again is answered as the first. -/
theorem gateComplete_found (hfind : (trailAt s t).items.find? (fun x => decide (x.handle = h) && decide (x.seq = q)) = some it) :
    gateComplete s rq h t q status = respond (if it.done.isSome then takePkt s (reqPkt 0x305 rq (.gateComplete h t q status))
      else gateSpoor (modItem (takePkt s (reqPkt 0x305 rq (.gateComplete h t q status))) t q (fun x => { x with done := some status })) t it 6 status
        (trailAt s t).relSeq) 0x305 rq (.result (resultWord false 0 0)) := by
  obtain ⟨hw, ha, hs⟩ := hreach
  rw [gateComplete, hw, hs, hfree, if_neg (by decide), arriveReq_served _ ha]
  simp only [trailAt_takePkt, hfind]
  split <;> rfl

theorem gateComplete_unknown (hfind : (trailAt s t).items.find? (fun x => decide (x.handle = h) && decide (x.seq = q)) = none) :
    gateComplete s rq h t q status = respond (takePkt s (reqPkt 0x305 rq (.gateComplete h t q status))) 0x305 rq (.result (resultWord true 0 0x13)) := by
  obtain ⟨hw, ha, hs⟩ := hreach
  rw [gateComplete, hw, hs, hfree, if_neg (by decide), arriveReq_served _ ha]
  simp only [trailAt_takePkt, hfind]

end Complete

/-- A fault of the gate is the newest message of the collector's inbox. -/
theorem gateRaise_inbox (s : State) (kind part handle trail seq : Nat) :
    ∃ m, (gateRaise s kind part handle trail seq).flt.inbox = s.flt.inbox ++ [m] ∧ m.head % 1024 = kind % 1024 := raise_inbox ..

theorem trailItems : TrailItems := by
  refine ⟨fun s rq t h hnew => ⟨fun ho hroom hquota => ?numbers, fun ho => ?foreign, fun ho hfull => ?full⟩,
    fun s rq t q hnew hnone => by rw [exec_seqReturn, seqReturn_refused hnew hnone]; rfl,
    fun s rq t q hnew hsome => ⟨fun hlast => ?newest, fun hlast => ?older⟩,
    fun s rq h i t tok it hreach hlive htrail hfind hdone => ⟨fun hroom hhead hempty => ?passes, fun hroom hbehind => ?stores, fun hover => ?drops⟩,
    fun s rq h tok hreach hnone => ?noItem,
    fun s t it g => ⟨fun p pkt hp hpkt => ?sends, fun hp => gateEmit_unbound hp it⟩,
    fun s rq h t q status hreach hfree => ⟨fun it hfind hdone => ?completes, fun it hfind hdone => ?again, fun hfind => ?unknown⟩⟩
  case numbers =>
    rw [exec_seqReq, seqReq_arrives hnew.1.1, arrivingReq_kept hnew (seqEval_numbers (s := takePkt s _) ho hroom hquota)]
    rfl
  case foreign =>
    refine leaves_of_eq (by rw [exec_seqReq, seqReq_arrives hnew.1.1, arrivingReq_unchanged hnew (seqEval_foreign (s := takePkt s _) ho)]) ?_
    exact ⟨rfl, rspOf_mem_respond .., gateRaise_inbox (takePkt s _) Kind.trailAccessInvalid rq.part h t 0⟩
  case full =>
    refine leaves_of_eq (by rw [exec_seqReq, seqReq_arrives hnew.1.1, arrivingReq_unchanged hnew (seqEval_full (s := takePkt s _) ho hfull)]) ?_
    exact ⟨rfl, rspOf_mem_respond ..⟩
  case newest =>
    rw [exec_seqReturn, seqReturn_takes_back hnew hsome, seqGivenBack, if_pos (decide_eq_true hlast)]
    rfl
  case older =>
    rw [exec_seqReturn, seqReturn_takes_back hnew hsome, seqGivenBack, if_neg (by simpa using hlast)]
    rfl
  case passes => rw [exec_gateToken, gateToken_arrives hreach (gateTokenEval_passes (s := takePkt s _) hlive htrail hfind hdone hroom hhead hempty)]
  case stores =>
    refine leaves_of_eq (by rw [exec_gateToken, gateToken_arrives hreach
      (gateTokenEval_stores (s := takePkt s _) hlive htrail hfind hdone hroom hbehind)]) ?_
    refine ⟨rfl, ?_⟩
    rw [trailAt_kept, trailAt_respond, items_modItem_modItem (f := fun x => { x with sent := x.sent + 1 }) (fun _ => rfl)]
    rfl
  case drops =>
    refine leaves_of_eq (by rw [exec_gateToken, gateToken_arrives hreach
      (gateTokenEval_overflows (s := takePkt s _) hlive htrail hfind hdone hover)]) ?_
    exact ⟨rfl, gateRaise_inbox (takePkt s _) Kind.trailOutputOverflow rq.part h t it.seq⟩
  case noItem =>
    rw [exec_gateToken, gateToken_arrives hreach (gateTokenEval_refused (s := takePkt s _) hnone)]
    rfl
  case sends =>
    subst hpkt
    rw [gateEmit_sends hp]
    exact ⟨rfl, rfl, rfl⟩
  case completes => rw [exec_gateComplete, gateComplete_found hreach hfree hfind, if_neg (by simp [hdone])]
  case again =>
    rw [exec_gateComplete, gateComplete_found hreach hfree hfind, if_pos (Option.isSome_iff_ne_none.mpr hdone)]
    rfl
  case unknown =>
    rw [exec_gateComplete, gateComplete_unknown hreach hfree hfind]
    rfl

end Sys2Proof.Machine
end

section
/-! PROOF. Release in order (R271, R275, R276): the head of a trail by its completion, and the actions of TRAIL_CTRL. -/

namespace Sys2Proof.Machine

variable {s : State} {t : Nat} {it it0 : Item} {rq : Rq} {a : TrailAction}

theorem exec_gateRelease (s : State) (t : Nat) : exec (.gateRelease t) s = .next (kept s (gateRelease s t)) := rfl
theorem exec_skip (s : State) (rq : Rq) (t : Nat) : exec (.skip rq t) s = .next (kept s (trailCtrl s rq t .skip)) := rfl
theorem exec_pass (s : State) (rq : Rq) (t : Nat) : exec (.pass rq t) s = .next (kept s (trailCtrl s rq t .pass)) := rfl
theorem exec_reset (s : State) (rq : Rq) (t : Nat) : exec (.reset rq t) s = .next (kept s (trailCtrl s rq t .reset)) := rfl

/-! ### GATE_RELEASE (R271, R275) -/

/-- The state in which the head `it` of trail `t` holds it. -/
def trailHeldAt (s : State) (t : Nat) (it : Item) : State :=
  gateRaise (setTrail s t { trailAt s t with held := true }) Kind.trailHeld (trailAt s t).part it.handle t it.seq

theorem trailAt_trailHeldAt (s : State) (t : Nat) (it : Item) : trailAt (trailHeldAt s t it) t = { trailAt s t with held := true } :=
  trailAt_setTrail ..

section Release
variable (hw : working s = true) (hs : sliceLeft s 0x305 = none) (hfree : (trailAt s t).held = false) (hhead0 : headItem s t = some it0)
include hw hs hfree hhead0

theorem gateRelease_hole (hhole : it0.hole = true) : gateRelease s t = popItem s t := by
  simp only [gateRelease, hw, hs, hfree, hhead0, hhole]
  rfl

variable (hhole : it0.hole = false) (hdone : it0.done ≠ none)
    (htrace : gateHeldBy s t (releaseEvent it0) (recAt s (it0.handle % 2 ^ 16)).cls = false) (hhead : headItem (meetItem s t it0) t = some it)
include hhole hdone htrace hhead

/-- A completed head leaves with its tokens, is skipped as a hole, or holds its trail, by what its completion and its stored errors make
of it. -/
theorem gateRelease_done : gateRelease s t =
    if it.done = some 0 ∧ it.bad = false then releaseItem (meetItem s t it0) t it false
    else if it.skip then releaseHole (meetItem s t it0) t it
    else gateSpoor (trailHeldAt (meetItem s t it0) t it) t it 9 2
      ((trailAt (meetItem s t it0) t).items.map (fun i => i.toks.length)).sum := by
  have hready : ¬ ((it0.done.isNone || gateHeldBy s t (releaseEvent it0) (recAt s (it0.handle % 2 ^ 16)).cls) = true) := by
    rw [htrace, Bool.or_false, Option.isNone_iff_eq_none]
    exact hdone
  rw [gateRelease, hw, hs, hfree, if_neg (by decide), hhead0]
  dsimp only
  rw [hhole, if_neg (by decide), if_neg hready, hhead]
  rfl

end Release

/-! ### TRAIL_CTRL (R276) -/

/-- An action that the trace does not hold reaches the gate. -/
theorem trailCtrl_arrives (hnew : ReachesNew s 0x305 rq (.trailCtrl t a)) (hfree : trailCtrlHeld s t a = false) : trailCtrl s rq t a
    = arriveReq s 0x305 rq (.trailCtrl t a) (fun s => cachedReq s 0x305 rq (fun s => trailCtrlEval s rq t a)) := by
  rw [trailCtrl, hnew.1.1, hfree, Bool.and_false]
  exact if_neg (by decide)

theorem trailCtrlEval_foreign (ho : trailOwned s t rq.part = false) (a : TrailAction) : trailCtrlEval s rq t a
    = { st := gateRaise s Kind.trailAccessInvalid rq.part 0 t 0, ans := some (.result (resultWord true 0 0x10)), changed := false } := by
  simp only [trailCtrlEval, ho]
  rfl

section Owned
variable (ho : trailOwned s t rq.part = true)
include ho

/-- SKIP and PASS release a trail that is held, and no other. -/
theorem trailCtrlEval_unheld (hfree : (trailAt s t).held = false) (ha : a ≠ .reset) : trailCtrlEval s rq t a
    = { st := s, ans := some (.result (resultWord true 0 0x14)), changed := false } := by
  cases a with
  | reset => exact absurd rfl ha
  | skip | pass =>
    simp only [trailCtrlEval, ho, hfree]
    rfl

/-- Trail `t` is not held any more, and the trace has the action's event. -/
def trailFreed (s : State) (t : Nat) (it : Item) (detail : Nat) : State :=
  gateSpoor (setTrail s t { trailAt s t with held := false }) t it 0x0A 2 detail

theorem trailCtrlEval_skips (hheld : (trailAt s t).held = true) (hhead : headItem s t = some it) : trailCtrlEval s rq t .skip
    = { st := releaseHole (trailFreed s t it 0) t it, ans := some (.result (resultWord false 0 0)) } := by
  simp only [trailCtrlEval, ho, hheld, hhead]
  rfl

theorem trailCtrlEval_passes (hheld : (trailAt s t).held = true) (hhead : headItem s t = some it) : trailCtrlEval s rq t .pass
    = { st := releaseItem (meetItem (trailFreed s t it 1) t it) t ((headItem (meetItem (trailFreed s t it 1) t it) t).getD it) true
        ans := some (.result (resultWord false 0 0)) } := by
  simp only [trailCtrlEval, ho, hheld, hhead]
  rfl

theorem trailCtrlEval_resets (hidle : (trailAt s t).items = []) (hfree : (trailAt s t).held = false) : trailCtrlEval s rq t .reset
    = { st := gateSpoor (setTrail s t { trailAt s t with nextSeq := 0, relSeq := 0 }) t { seq := 0, handle := 0xFFFFFFFF } 0x0A 0 2
        ans := some (.result (resultWord false 0 0)) } := by
  simp only [trailCtrlEval, ho, hidle, hfree]
  rfl

theorem trailCtrlEval_busy (hbusy : (trailAt s t).items ≠ [] ∨ (trailAt s t).held = true) : trailCtrlEval s rq t .reset
    = { st := s, ans := some (.result (resultWord true 0 0x14)), changed := false } := by
  have hidle : ((trailAt s t).items.isEmpty && !(trailAt s t).held) = false := by
    rcases hbusy with hitems | hheld
    · rw [List.isEmpty_eq_false_iff.mpr hitems, Bool.false_and]
    · rw [hheld, Bool.not_true, Bool.and_false]
  simp only [trailCtrlEval, ho, hidle]
  rfl

end Owned

theorem trailFreed_trl (s : State) (t : Nat) (it : Item) (detail : Nat) :
    (trailFreed s t it detail).trl = (setTrail s t { trailAt s t with held := false }).trl := gateSpoor_trl ..

theorem trailAt_trailFreed (s : State) (t : Nat) (it : Item) (detail : Nat) :
    trailAt (trailFreed s t it detail) t = { trailAt s t with held := false } :=
  (trailAt_of_trails (congrArg Trl.trails (trailFreed_trl ..)) t).trans (trailAt_setTrail ..)

theorem trailFreed_holes (s : State) (t : Nat) (it : Item) (detail : Nat) : (trailFreed s t it detail).trl.holes = s.trl.holes := by
  rw [trailFreed_trl]
  rfl

/-- The head of a trail that was freed leaves it free. -/
theorem HeadLeft.freed {s1 s' : State} {detail : Nat} (h : HeadLeft t s1 s') (hkeeps : GateKeeps t (trailFreed s t it detail) s1) :
    (trailAt s' t).held = false ∧ (trailAt s' t).relSeq = ((trailAt s t).relSeq + 1) % 65536 := by
  obtain ⟨l, -, htrail⟩ := h
  obtain ⟨l1, htrail1, -⟩ := hkeeps.trail
  rw [htrail, htrail1, trailAt_trailFreed]
  exact ⟨rfl, rfl⟩

/-! ### The statement -/

/-- A head that failed, on a trail that does not skip, holds it. -/
theorem leaves_trailHeld (hw : working s = true) (hs : sliceLeft s 0x305 = none) (hfree : (trailAt s t).held = false)
    (hhead0 : headItem s t = some it0) (hhole : it0.hole = false) (hdone : it0.done ≠ none)
    (htrace : gateHeldBy s t (releaseEvent it0) (recAt s (it0.handle % 2 ^ 16)).cls = false) (hhead : headItem (meetItem s t it0) t = some it)
    (hbad : it.done ≠ some 0 ∨ it.bad = true) (hskip : it.skip = false) :
    Leaves (.gateRelease t) s (fun s' => (trailAt s' t).held = true ∧ (trailAt s' t).relSeq = (trailAt s t).relSeq ∧ s'.trl.released = s.trl.released
      ∧ ((trailAt s t).trace = false → s'.net = s.net) ∧ ∃ x, s'.flt.inbox = (meetItem s t it0).flt.inbox ++ [x] ∧ x.head % 1024 = Kind.trailHeld) := by
  have hnot : ¬ (it.done = some 0 ∧ it.bad = false) := fun ⟨hok, hgood⟩ => hbad.elim (· hok) (by simp [hgood])
  have hkeeps := meetItem_keeps s t it0
  have hnet := meetItem_net s t it0
  refine leaves_of_eq (by rw [exec_gateRelease, gateRelease_done hw hs hfree hhead0 hhole hdone htrace hhead, if_neg hnot, hskip,
    if_neg Bool.false_ne_true]) ?_
  generalize meetItem s t it0 = m at hkeeps hnet ⊢
  generalize ((trailAt m t).items.map (fun i => i.toks.length)).sum = stored
  obtain ⟨l, htrail, -⟩ := hkeeps.trail
  have hheld : trailAt (trailHeldAt m t it) t = { trailAt s t with items := l, held := true } := by rw [trailAt_trailHeldAt, htrail]
  have htrl : (gateSpoor (trailHeldAt m t it) t it 9 2 stored).trl = (trailHeldAt m t it).trl := gateSpoor_trl ..
  rw [trailAt_kept, trailAt_of_trails (congrArg Trl.trails htrl), hheld]
  refine ⟨rfl, rfl, (congrArg Trl.released htrl).trans hkeeps.released, fun htrace => ?_, ?_⟩
  · rw [gateSpoor_untraced (by rw [hheld]; exact htrace)]
    exact hnet
  · obtain ⟨x, hx, hkind⟩ := gateRaise_inbox (setTrail m t { trailAt m t with held := true }) Kind.trailHeld (trailAt m t).part it.handle t it.seq
    exact ⟨x, (congrArg Flt.inbox (gateSpoor_flt ..)).trans hx, hkind⟩

theorem trailRelease : TrailRelease := by
  refine ⟨fun s m t it0 hw hs hfree hhead0 => ⟨fun hhole => ?hole, fun hhole hdone htrace hm it hhead => ?done⟩,
    fun s t it fail => ⟨?item, ?released, ?popped⟩,
    fun s rq t it ho hheld hhead => ⟨fun hnew hfree => ?skip, fun hnew hfree => ?pass⟩,
    fun s rq t hnew ho hfree => ⟨fun hidle hheld => ?reset, fun hbusy => ?busy⟩,
    fun s rq t c a hc hnew hfree => ?refused⟩
  case hole => rw [exec_gateRelease, gateRelease_hole hw hs hfree hhead0 hhole]
  case done =>
    subst hm
    have heq := gateRelease_done hw hs hfree hhead0 hhole hdone htrace hhead
    refine ⟨fun hok hgood => ?_, fun hbad hskip => ?_, leaves_trailHeld hw hs hfree hhead0 hhole hdone htrace hhead⟩
    · rw [exec_gateRelease, heq, if_pos ⟨hok, hgood⟩]
    · rw [exec_gateRelease, heq, if_neg (fun ⟨hok, hgood⟩ => hbad.elim (· hok) (by simp [hgood])), if_pos hskip]
  case item =>
    obtain ⟨⟨l, hseq, htrail⟩, hholes, hreleased, htoks⟩ := releaseItem_spec s t it fail
    rw [htrail]
    exact ⟨rfl, hseq, hreleased, hholes, htoks⟩
  case released =>
    obtain ⟨⟨l, -, htrail⟩, hholes, hreleased⟩ := releaseHole_spec s t it
    rw [htrail]
    exact ⟨rfl, hholes, hreleased⟩
  case popped =>
    obtain ⟨l, hseq, htrail⟩ := popItem_headLeft s t
    rw [htrail]
    exact ⟨rfl, hseq⟩
  case skip =>
    refine leaves_of_eq (by rw [exec_skip, trailCtrl_arrives hnew hfree,
      arrivingReq_kept hnew (trailCtrlEval_skips (s := takePkt s _) ho hheld hhead)]) ?_
    generalize hp : takePkt s (reqPkt 0x305 rq (.trailCtrl t .skip)) = p
    obtain ⟨hleft, hholes, -⟩ := releaseHole_spec (trailFreed p t it 0) t it
    obtain ⟨hfreed, hrel⟩ := hleft.freed (.refl t _)
    rw [trailFreed_holes] at hholes
    generalize releaseHole _ t it = s' at hfreed hrel hholes ⊢
    subst hp
    exact ⟨hfreed, hrel, hholes, rspOf_mem_respond ..⟩
  case pass =>
    refine leaves_of_eq (by rw [exec_pass, trailCtrl_arrives hnew hfree,
      arrivingReq_kept hnew (trailCtrlEval_passes (s := takePkt s _) ho hheld hhead)]) ?_
    generalize hp : takePkt s (reqPkt 0x305 rq (.trailCtrl t .pass)) = p
    have hkeeps := meetItem_keeps (trailFreed p t it 1) t it
    obtain ⟨hleft, hholes, -⟩ := releaseItem_spec (meetItem (trailFreed p t it 1) t it) t ((headItem (meetItem (trailFreed p t it 1) t it) t).getD it) true
    obtain ⟨hfreed, hrel⟩ := hleft.freed hkeeps
    rw [hkeeps.holes, trailFreed_holes] at hholes
    generalize releaseItem _ t _ true = s' at hfreed hrel hholes ⊢
    subst hp
    exact ⟨hfreed, hrel, hholes, rspOf_mem_respond ..⟩
  case reset =>
    rw [exec_reset, trailCtrl_arrives hnew hfree, arrivingReq_kept hnew (trailCtrlEval_resets (s := takePkt s _) ho hidle hheld)]
    rfl
  case busy =>
    rw [exec_reset, trailCtrl_arrives hnew hfree, arrivingReq_unchanged hnew (trailCtrlEval_busy (s := takePkt s _) ho hbusy)]
    rfl
  case refused =>
    have hexec : exec c s = .next (kept s (trailCtrl s rq t a)) := by rcases hc with ⟨rfl, rfl⟩ | ⟨rfl, rfl⟩ | ⟨rfl, rfl⟩ <;> rfl
    refine ⟨fun ho => ?_, fun ho hreset hheld => ?_⟩
    · rw [hexec, trailCtrl_arrives hnew hfree, arrivingReq_unchanged hnew (trailCtrlEval_foreign (s := takePkt s _) ho a)]
    · rw [hexec, trailCtrl_arrives hnew hfree, arrivingReq_unchanged hnew (trailCtrlEval_unheld (s := takePkt s _) ho hheld hreset)]
      rfl

/-- Settles O40: the gate's requests by their cases, and a release by what it leaves of its trail. -/
theorem trails : Obligations.Trails := ⟨trailItems, trailRelease⟩

end Sys2Proof.Machine
end

section
/-! PROOF. The trace hub (R281 to R288): what a record leaves of the destinations, the writes and reads of their buffers in host memory, and
TRL.SP_CTRL of destination 0. -/

namespace Sys2Proof.Machine

variable {s : State} {d b : Nat} {r : SpoorRec} {q : List SpoorRec} {h : HStart}

/-- The hub's commands run while its element is in service (R517). -/
theorem exec_spoorEvent (hon : outOfService s 9 = false) (r : SpoorRec) : exec (.spoorEvent r) s = .next (kept s (spoorEvent s r)) :=
  congrArg (fun x => Host.Outcome.next (kept s x)) (if_neg (by rw [hon]; decide))

theorem exec_spoorRecordWrite (hon : outOfService s 9 = false) (d : Nat) : exec (.spoorRecordWrite d) s = .next (kept s (spoorRecordWrite s d)) :=
  congrArg (fun x => Host.Outcome.next (kept s x)) (if_neg (by rw [hon]; decide))

theorem exec_spoorCiReread (hon : outOfService s 9 = false) (d : Nat) : exec (.spoorCiReread d) s = .next (kept s (spoorCiReread s d)) :=
  congrArg (fun x => Host.Outcome.next (kept s x)) (if_neg (by rw [hon]; decide))

theorem exec_spoorStallTimeout (hon : outOfService s 9 = false) (d : Nat) : exec (.spoorStallTimeout d) s = .next (kept s (spoorStallTimeout s d)) :=
  congrArg (fun x => Host.Outcome.next (kept s x)) (if_neg (by rw [hon]; decide))

theorem exec_spCtrlWrite (s : State) (a : Accessor) (v : Nat) :
    exec (.spCtrlWrite a (.whole v)) s = .next (kept s (bar0Write s a 0x100408 8 v)) := rfl

/-! ### Destinations -/

theorem destAt_setDest_same (hd : d < s.trl.dests.length) (x : SpoorDest) : destAt (setDest s d x) d = x := by simp [destAt, setDest, hd]

theorem destAt_setDest_other {e : Nat} (h : d ≠ e) (x : SpoorDest) : destAt (setDest s d x) e = destAt s e := by
  simp [destAt, setDest, List.getElem?_set_ne h]

theorem setDest_dests_length (s : State) (d : Nat) (x : SpoorDest) : (setDest s d x).trl.dests.length = s.trl.dests.length := List.length_set

/-! ### A record arrives (R282, R283) -/

/-- A destination that a record of its filters reaches at `time`: it queues the record, or has lost it. -/
def spoorTaken (time : Nat) (x : SpoorDest) (r : SpoorRec) : SpoorDest :=
  if 256 ≤ x.queue.length then loseSpoor x
  else { x with
    queue := spoorInsert r x.queue
    stallSince := if x.stalling && decide (256 ≤ (spoorInsert r x.queue).length) then some (x.stallSince.getD time) else none }

theorem destAccept_eq (s : State) (d : Nat) (r : SpoorRec) : destAccept s d r = setDest s d (spoorTaken (now s) (destAt s d) r) := by
  rw [destAccept, spoorTaken]
  split <;> rfl

theorem spoorTaken_queued {time : Nat} {x : SpoorDest} (hroom : x.queue.length < 256) :
    (spoorTaken time x r).queue = spoorInsert r x.queue ∧ (spoorTaken time x r).lost = x.lost := by
  rw [spoorTaken, if_neg (Nat.not_le.mpr hroom)]
  exact ⟨rfl, rfl⟩

theorem spoorTaken_lost {time : Nat} {x : SpoorDest} (hfull : 256 ≤ x.queue.length) : (spoorTaken time x r).queue = x.queue
    ∧ (spoorTaken time x r).lost = (x.lost + 1) % 2 ^ 64 ∧ (spoorTaken time x r).gapDue = true := by
  rw [spoorTaken, if_pos hfull]
  exact ⟨rfl, rfl, rfl⟩

/-- A record that several destinations take reaches each of them once, and no other. -/
theorem destAt_accepted {l : List Nat} (hd : d < s.trl.dests.length) (hl : l.Nodup) :
    destAt (l.foldl (fun s d => destAccept s d r) s) d = if d ∈ l then spoorTaken (now s) (destAt s d) r else destAt s d := by
  induction l generalizing s with
  | nil => simp
  | cons e l ih =>
    obtain ⟨he, hl⟩ := List.nodup_cons.mp hl
    rw [List.foldl_cons, destAccept_eq, ih (by rw [setDest_dests_length]; exact hd) hl]
    by_cases hde : d = e
    · subst hde
      rw [if_neg he, if_pos (List.mem_cons_self ..), destAt_setDest_same hd]
    · rw [destAt_setDest_other (Ne.symm hde)]
      simp only [List.mem_cons, hde, false_or]
      rfl

/-- The destinations that take a record. -/
abbrev takers (s : State) (r : SpoorRec) : List Nat := (List.range 17).filter (fun d => destTakes s d r)

/-- The packet that brings a record to the hub. -/
abbrev recordPkt (r : SpoorRec) : Packet := { cls := 2, dest := 0x306, src := rqId r.unit 0, part := r.part, tag := 0, body := .spoorEvent r }

/-- Where no stalling destination of a record is full, the hub takes it. -/
theorem spoorEvent_taken (hw : working s = true) (ha : arrivable s (recordPkt r) = true)
    (hroom : ∀ d, d < 17 → destTakes s d r = true → (destAt s d).stalling = false ∨ (destAt s d).queue.length < 256) :
    spoorEvent s r = (takers s r).foldl (fun s d => destAccept s d r) (takePkt s (recordPkt r)) := by
  have hnone : (takers s r).any (fun d => (destAt s d).stalling && decide (256 ≤ (destAt s d).queue.length)) = false := by
    rw [List.any_eq_false]
    intro d hd
    obtain ⟨hlt, htakes⟩ := List.mem_filter.mp hd
    rcases hroom d (List.mem_range.mp hlt) htakes with hlossy | hroom
    · simp [hlossy]
    · simp [hroom]
  dsimp only [spoorEvent]
  rw [hw, ha, hnone]
  exact if_neg (by decide)

/-! ### A record is written (R284 to R287) -/

/-- What follows a host access of destination `d` whose start gave `x`: `k` where it did not fail, otherwise the destination stops. -/
def orSpoorFail (d : Nat) (x : State × HStart) (k : State → State) : State :=
  match x.2 with
  | .failed _ => spoorFail x.1 d
  | .pending | .done => k x.1

theorem orSpoorFail_failed (d : Nat) (s : State) (e : Nat) (k : State → State) : orSpoorFail d (s, .failed e) k = spoorFail s d := rfl

theorem orSpoorFail_started (hok : NotFailed h) (d : Nat) (s : State) (k : State → State) : orSpoorFail d (s, h) k = k s := by
  rcases hok with rfl | rfl <;> rfl

/-- What a destination holds when its oldest record is written: the producer index has advanced. -/
abbrev recordOut (x : SpoorDest) (q : List SpoorRec) : SpoorDest := { x with
  queue := q, pi := (x.pi + 1) % 2 ^ 32, gap := 0, gapDue := false, stallSince := none }

section Write
variable (hw : working s = true) (hen : (destAt s d).enable = true) (hstart : (destAt s d).starting = false) (hq : (destAt s d).queue = r :: q)
    (hdue : r.time + 64 ≤ now s) (hway : spoorOnWay s d r = false)
include hw hen hstart hq hdue hway

theorem spoorRecordWrite_full (hfull : destFull (destAt s d) = true) (hlossy : (destAt s d).stalling = false) :
    spoorRecordWrite s d = setDest s d { loseSpoor (destAt s d) with queue := q } := by
  simp [spoorRecordWrite, hw, hen, hstart, hq, hway, Nat.not_lt.mpr hdue, hfull, hlossy]

/-- The record is written in the buffer, and then the index in the control line. -/
theorem spoorRecordWrite_writes (hroom : destFull (destAt s d) = false) : spoorRecordWrite s d =
    orSpoorFail d (destHost (setDest s d (recordOut (destAt s d) q)) d ((destAt s d).base + 32 * ((destAt s d).pi % 2 ^ (destAt s d).n)) true 32
      (spoorBytes r (if (destAt s d).gapDue then some (destAt s d).gap else none)) (.spoor d))
    (fun s2 => orSpoorFail d (destHost s2 d (ctrlLine (destAt s d)) true 4 (leBytes 4 (((destAt s d).pi + 1) % 2 ^ 32)) (.spoor d)) id) := by
  have hon : ¬ ((!(working s) || !(destAt s d).enable || (destAt s d).starting) = true) := by simp [hw, hen, hstart]
  have hgo : ¬ ((decide (now s < r.time + 64) || spoorOnWay s d r) = true) := by simp [hway, hdue]
  rw [spoorRecordWrite]
  dsimp only
  rw [if_neg hon, hq]
  dsimp only [recordOut]
  rw [if_neg hgo, hroom, if_neg Bool.false_ne_true]
  generalize destHost (setDest s d _) d _ _ _ _ _ = x
  obtain ⟨s2, h⟩ := x
  cases h with
  | failed e => rfl
  | pending | done =>
    dsimp only [orSpoorFail]
    generalize destHost s2 d _ _ _ _ _ = y
    obtain ⟨s3, h'⟩ := y
    cases h' <;> rfl

end Write

/-- Every record takes 32 bytes of a buffer. -/
theorem spoorBytes_length (r : SpoorRec) (gap : Option Nat) : (spoorBytes r gap).length = 32 := by
  simp [spoorBytes, leBytes]

/-! ### The consumer index (R284, R286, R288) -/

theorem readCi_eq (s : State) (d : Nat) : readCi s d = orSpoorFail d (destHost (setDest s d { destAt s d with
    reading := true, lastRead := some (now s) }) d (ctrlLine (destAt s d) + 8) false 4 [] (.spoorCi d)) id := by
  rw [readCi]
  dsimp only [orSpoorFail]
  generalize destHost (setDest s d _) d _ _ _ _ _ = x
  obtain ⟨s1, h⟩ := x
  cases h <;> rfl

/-- The index of a full destination is read where its last read is due to be repeated. -/
theorem spoorCiReread_reads (hw : working s = true) (hen : (destAt s d).enable = true) (hidle : (destAt s d).reading = false)
    (hfull : destFull (destAt s d) = true) (hdue : ∀ x, (destAt s d).lastRead = some x → x + 256 ≤ now s) : spoorCiReread s d = readCi s d := by
  cases hlast : (destAt s d).lastRead with
  | none => simp [spoorCiReread, hw, hen, hidle, hfull, hlast]
  | some x => simp [spoorCiReread, hw, hen, hidle, hfull, hlast, hdue x hlast]

theorem spoorStallTimeout_expires {x : Nat} (hw : working s = true) (hstall : (destAt s d).stalling = true) (hsince : (destAt s d).stallSince = some x)
    (hdue : x + 1024 * (destAt s d).stallLimit ≤ now s) : spoorStallTimeout s d
    = raise (setDest s d { destAt s d with stalling := false, stallSince := none }) Kind.spoorStallTimeout (rqId 0x306 0) none 0 (2 ^ 32 * d) := by
  simp only [spoorStallTimeout, hsince, hw, hstall, hdue, decide_true, Bool.and_self, if_true]

/-! ### TRL.SP_CTRL (R15, R288) -/

/-- The fields of TRL.SP_CTRL in a value written to it; the others are ignored. -/
abbrev spCtrlFields (v : Nat) : Nat := 2 ^ 48 * bits v 63 48 + bits v 8 2 * 4 + bits v 0 0

theorem pfWrite_spCtrl (s : State) (b v w : Nat) : pfWrite s b 0x100408 v w
    = if spCtrlOk (destAt s 0) (spCtrlFields v) then some (spCtrlSet s 0 (spCtrlFields v)) else none := rfl

/-- A write of TRL.SP_CTRL that reaches it sets its fields, or is refused and logged. -/
theorem bar0Write_spCtrl (hp : accessorPresent s (.fn b 0) = true) (hr : accessFault s (.fn b 0) 0x100408 8 true = none) {v : Nat} (hv : v < 2 ^ 64) :
    bar0Write s (.fn b 0) 0x100408 8 v
      = if spCtrlOk (destAt s 0) (spCtrlFields v) then spCtrlSet s 0 (spCtrlFields v) else logAccess s b 0 0x100408 5 := by
  rw [bar0Write_of_register hp hr rfl, broughtWords_whole, Nat.mod_eq_of_lt hv, pfWrite_spCtrl]
  split <;> rfl

/-- TRL.SP_CTRL is a register. -/
theorem bar0Word_spCtrl (s : State) : (bar0Word s 0x100408).isSome = true := by simp [bar0Word, trlWord, inArrays, one, slotOf]

section Disabled
variable {n port lim : Nat} {stall : Bool}

/-- A value of TRL.SP_CTRL with ENABLE 0. -/
abbrev spCtrlOff (n port lim : Nat) (stall : Bool) : Nat := 2 ^ 48 * lim + 16 * n + 8 * port + 4 * b2n stall

variable (hlo : 7 ≤ n) (hhi : n ≤ 25) (hlim0 : 0 < lim) (hlim : lim < 2 ^ 16) (hport : port < 2)
include hlo hhi hlim0 hlim hport

/-- Its fields read as written. -/
theorem spCtrlOff_bits : spCtrlOff n port lim stall < 2 ^ 64 ∧ bits (spCtrlOff n port lim stall) 63 48 = lim
    ∧ bits (spCtrlOff n port lim stall) 47 9 = 0 ∧ bits (spCtrlOff n port lim stall) 8 4 = n ∧ bits (spCtrlOff n port lim stall) 8 2 = 4 * n + 2 * port + b2n stall
    ∧ bits (spCtrlOff n port lim stall) 3 3 = port ∧ bits (spCtrlOff n port lim stall) 2 2 = b2n stall
    ∧ bits (spCtrlOff n port lim stall) 1 1 = 0 ∧ bits (spCtrlOff n port lim stall) 0 0 = 0 := by
  have hstall : b2n stall < 2 := by cases stall <;> decide
  simp only [spCtrlOff, bits_eq_div_mod]
  omega

/-- They are all its fields. -/
theorem spCtrlFields_off : spCtrlFields (spCtrlOff n port lim stall) = spCtrlOff n port lim stall := by
  obtain ⟨-, hlimit, -, -, hlow, -, -, -, henable⟩ := spCtrlOff_bits hlo hhi hlim0 hlim hport (stall := stall)
  rw [spCtrlFields, hlimit, hlow, henable, spCtrlOff]
  omega

/-- A destination that is disabled takes it. -/
theorem spCtrlOk_off {x : SpoorDest} (hoff : x.enable = false) : spCtrlOk x (spCtrlOff n port lim stall) = true := by
  obtain ⟨-, hlimit, hzero, hn, -, -, -, hres, -⟩ := spCtrlOff_bits hlo hhi hlim0 hlim hport (stall := stall)
  simp [spCtrlOk, bit_eq_decide_bits, hlimit, hzero, hn, hres, hoff, hlo, hhi, Nat.ne_of_gt hlim0]

/-- It has its fields, and the records that it queued are lost. -/
theorem spCtrlSet_off (hoff : (destAt s 0).enable = false) : spCtrlSet s 0 (spCtrlOff n port lim stall) = setDest s 0 { destAt s 0 with
    stallLimit := lim, n := n, port := port, stalling := stall, stallSince := if stall then (destAt s 0).stallSince else none
    queue := [], lost := ((destAt s 0).lost + (destAt s 0).queue.length) % 2 ^ 64, starting := false } := by
  obtain ⟨-, hlimit, -, hn, -, hport', hmode, -, henable⟩ := spCtrlOff_bits hlo hhi hlim0 hlim hport (stall := stall)
  have hstall : bit (spCtrlOff n port lim stall) 2 = stall := by rw [bit_eq_decide_bits, hmode]; cases stall <;> rfl
  have hen : bit (spCtrlOff n port lim stall) 0 = (destAt s 0).enable := by rw [bit_eq_decide_bits, henable, hoff]; rfl
  simp only [spCtrlSet, hlimit, hn, hport', hstall, hen]
  rw [hoff]
  rfl

end Disabled

/-! ### The statement -/

/-- Settles O41: a record by what each destination makes of it, the hub's host accesses by how they start, and TRL.SP_CTRL by its fields. -/
theorem traceHub : Obligations.TraceHub := by
  refine ⟨fun s r hon hw hlen ha hroom => ?event, fun s d r q hon hw hen hstart hq hdue hway => ⟨fun hfull hlossy => ?lost, fun s2 h hroom hrecord => ?written⟩,
    spoorBytes_length, fun s s1 d h hon hw hen hidle hfull hdue hread => ?reread, fun s d x hon hw hstall hsince hdue => ?timeout,
    fun s b n port lim stall hp hsafe hoff hlo hhi hlim0 hlim hport => ?disabled, fun s b v w hp hr hv hfields => ?fields⟩
  case event =>
    refine leaves_of_eq (by rw [exec_spoorEvent hon, spoorEvent_taken hw ha hroom]) fun d hd => ?_
    have hat : destAt (kept s ((takers s r).foldl (fun s d => destAccept s d r) (takePkt s (recordPkt r)))) d
        = if d ∈ takers s r then spoorTaken (now s) (destAt s d) r else destAt s d :=
      destAt_accepted (s := takePkt s _) (hd.trans_eq hlen.symm) (List.nodup_range.filter _)
    have hmem : d ∈ takers s r ↔ destTakes s d r = true := by rw [List.mem_filter, List.mem_range, and_iff_right hd]
    rw [hat]
    refine ⟨fun hnot => if_neg (by rw [hmem, hnot]; decide), fun htakes hroom => ?_, fun htakes hfull => ?_⟩
    · rw [if_pos (hmem.mpr htakes)]
      exact spoorTaken_queued hroom
    · rw [if_pos (hmem.mpr htakes)]
      exact spoorTaken_lost hfull
  case lost =>
    rw [exec_spoorRecordWrite hon, spoorRecordWrite_full hw hen hstart hq hdue hway hfull hlossy]
    rfl
  case written =>
    have heq := spoorRecordWrite_writes hw hen hstart hq hdue hway hroom
    rw [hrecord] at heq
    rw [exec_spoorRecordWrite hon, heq]
    refine ⟨fun s3 h' hok hindex => ?_, fun e he => by rw [he, orSpoorFail_failed]⟩
    rw [orSpoorFail_started hok, hindex]
    exact ⟨fun hok' => by rw [orSpoorFail_started hok', id], fun e he => by rw [he, orSpoorFail_failed]⟩
  case reread =>
    rw [exec_spoorCiReread hon, spoorCiReread_reads hw hen hidle hfull hdue, readCi_eq, hread]
    exact ⟨fun hok => by rw [orSpoorFail_started hok, id], fun e he => by rw [he, orSpoorFail_failed]⟩
  case timeout =>
    refine leaves_of_eq (by rw [exec_spoorStallTimeout hon, spoorStallTimeout_expires hw hstall hsince hdue]) ⟨rfl, rfl⟩
  case disabled =>
    obtain ⟨hv, -⟩ := spCtrlOff_bits hlo hhi hlim0 hlim hport (stall := stall)
    have hr := accessFault_none_of_register (off := 0x100408) (size := 8) s b true (.inr rfl) rfl (.inl hsafe) rfl (bar0Word_spCtrl s)
    rw [exec_spCtrlWrite, bar0Write_spCtrl hp hr hv, spCtrlFields_off hlo hhi hlim0 hlim hport, if_pos (spCtrlOk_off hlo hhi hlim0 hlim hport hoff),
      spCtrlSet_off hlo hhi hlim0 hlim hport hoff]
    rfl
  case fields =>
    subst hfields
    rw [exec_spCtrlWrite, bar0Write_spCtrl hp hr hv]
    exact ⟨fun hok => by rw [if_pos hok], fun hbad => by rw [if_neg (by rw [hbad]; decide), kept_logAccess]⟩

end Sys2Proof.Machine
end

section
/-! PROOF. The walks of an overspill agent (R301, R302, R306, R309): what each part of a walk leaves of the counts of its region. -/

namespace Sys2Proof.Machine

variable {w w' : OvfWork}

/-! ### Two walks in order -/

/-- Two walks in order end where both do. -/
theorem WRes.bind_ok {α β : Type} {x : WRes α} {f : α → OvfWork → WRes β} {b : β} (h : x.bind f = .ok b w') :
    ∃ a w, x = .ok a w ∧ f a w = .ok b w' := by
  cases x with
  | ok a w => exact ⟨a, w, rfl, h⟩
  | need _ | corrupt | noRoom _ | hold => cases h

/-- Where the first leaves the lines and counts alone, the second starts from them. -/
theorem WRes.bind_ok_of_reads {α β : Type} {x : WRes α} {f : α → OvfWork → WRes β} {b : β} (hx : ∀ a v, x = .ok a v → v = w)
    (h : x.bind f = .ok b w') : ∃ a, f a w = .ok b w' := by
  obtain ⟨a, v, hav, hf⟩ := WRes.bind_ok h
  exact ⟨a, hx a v hav ▸ hf⟩

/-! ### Parts of a walk that read -/

theorem getLine_reads (w : OvfWork) (off : Nat) (l : Nat × Nat) (v : OvfWork) (h : getLine w off = .ok l v) : v = w := by
  unfold getLine at h
  split at h
  · cases h; rfl
  · cases h

theorem chainOf_reads (w : OvfWork) (n off fuel : Nat) (bs : List Nat) (v : OvfWork) (h : chainOf w n off fuel = .ok bs v) : v = w := by
  induction fuel generalizing off bs v with
  | zero => cases h
  | succ k ih =>
    obtain ⟨l, h⟩ := WRes.bind_ok_of_reads (getLine_reads w off) h
    split at h
    · cases h
    split at h
    · cases h; rfl
    · obtain ⟨r, h⟩ := WRes.bind_ok_of_reads (ih _) h
      cases h; rfl

theorem ctxEntry_reads (w : OvfWork) (ctx : Nat) (e : Nat × Nat) (v : OvfWork) (h : ctxEntry w ctx = .ok e v) : v = w := by
  obtain ⟨l, h⟩ := WRes.bind_ok_of_reads (getLine_reads w _) h
  split at h
  · cases h
  · cases h; rfl

theorem slotStale_reads (w : OvfWork) (x m : Nat) (st : Bool) (v : OvfWork) (h : slotStale w x m = .ok st v) : v = w := by
  unfold slotStale at h
  split at h
  · cases h; rfl
  · obtain ⟨e, h⟩ := WRes.bind_ok_of_reads (ctxEntry_reads w _) h
    cases h; rfl

theorem freeSlotIn_reads (w : OvfWork) (bs : List (Nat × Nat)) (f : Option (Nat × Nat × Bool)) (v : OvfWork)
    (h : freeSlotIn w bs = .ok f v) : v = w := by
  induction bs generalizing f v with
  | nil => cases h; rfl
  | cons b r ih =>
    obtain ⟨l, h⟩ := WRes.bind_ok_of_reads (getLine_reads w b.1) h
    split at h
    · cases h; rfl
    · obtain ⟨st, h⟩ := WRes.bind_ok_of_reads (slotStale_reads w l.1 b.2) h
      cases st with
      | true => cases h; rfl
      | false => exact ih f v h

/-! ### Parts of a walk that write lines -/

/-- The walk has changed lines and the pool's free buckets at most. -/
abbrev SameCounts (w w' : OvfWork) : Prop :=
  w'.live = w.live ∧ w'.stale = w.stale ∧ w'.placed = w.placed ∧ w'.reclaimed = w.reclaimed

theorem SameCounts.trans {w'' : OvfWork} (h : SameCounts w w') (h' : SameCounts w' w'') : SameCounts w w'' :=
  have ⟨hl, hs, hp, hr⟩ := h
  have ⟨hl', hs', hp', hr'⟩ := h'
  ⟨hl'.trans hl, hs'.trans hs, hp'.trans hp, hr'.trans hr⟩

theorem putCtx_counts {ctx epoch count : Nat} (h : putCtx w ctx epoch count = .ok () w') : SameCounts w w' := by
  obtain ⟨l, h⟩ := WRes.bind_ok_of_reads (getLine_reads w _) h
  cases h
  exact ⟨rfl, rfl, rfl, rfl⟩

theorem unlinkEmpty_counts {before : Nat} {bs : List Nat} (h : unlinkEmpty w before bs = .ok () w') : SameCounts w w' := by
  induction bs generalizing w before with
  | nil => cases h; exact ⟨rfl, rfl, rfl, rfl⟩
  | cons b r ih =>
    obtain ⟨l, h⟩ := WRes.bind_ok_of_reads (getLine_reads w b) h
    split at h
    · obtain ⟨pl, h⟩ := WRes.bind_ok_of_reads (getLine_reads w before) h
      exact (ih h :)
    · exact ih h

/-! ### Insertion (R302) -/

/-- A token that is placed is counted in its context's entry and in LIVE. -/
theorem countPlaced {ctx epoch count : Nat}
    (h : (putCtx w ctx epoch count).bind (fun _ w => .ok () { w with live := w.live + 1, placed := w.placed + 1 }) = .ok () w') :
    w'.live = w.live + 1 ∧ w'.placed = w.placed + 1 := by
  obtain ⟨_, v, hput, h⟩ := WRes.bind_ok h
  obtain ⟨hlive, -, hplaced, -⟩ := putCtx_counts hput
  cases h
  exact ⟨congrArg (· + 1) hlive, congrArg (· + 1) hplaced⟩

theorem insertTok_counts {n gen : Nat} {k : Token} (h : insertTok w n k gen = .ok () w') :
    w'.live = w.live + 1 ∧ w'.placed = w.placed + 1 := by
  obtain ⟨bs, h⟩ := WRes.bind_ok_of_reads (chainOf_reads w _ _ _) h
  obtain ⟨e, h⟩ := WRes.bind_ok_of_reads (ctxEntry_reads w _) h
  obtain ⟨f, h⟩ := WRes.bind_ok_of_reads (freeSlotIn_reads w _) h
  cases f with
  | some x =>
    obtain ⟨off, m, st⟩ := x
    obtain ⟨l, h⟩ := WRes.bind_ok_of_reads (getLine_reads w off) h
    cases st with
    | true | false => exact (countPlaced h :)
  | none =>
    dsimp only at h
    split at h
    · cases h
    · next j v hpick =>
      have ⟨hlive, hplaced⟩ : v.live = w.live ∧ v.placed = w.placed := by
        split at hpick
        · cases hpick; exact ⟨rfl, rfl⟩
        · split at hpick <;> cases hpick
          exact ⟨rfl, rfl⟩
      obtain ⟨l, h⟩ := WRes.bind_ok_of_reads (getLine_reads v _) h
      rw [← hlive, ← hplaced]
      exact (countPlaced h :)

theorem insertToks_counts {n : Nat} {l : List (Token × Nat)} (h : insertToks w n l = .ok () w') :
    w'.live = w.live + l.length ∧ w'.placed = w.placed + l.length := by
  induction l generalizing w with
  | nil => cases h; exact ⟨rfl, rfl⟩
  | cons x r ih =>
    obtain ⟨_, v, hone, hrest⟩ := WRes.bind_ok h
    obtain ⟨hlive, hplaced⟩ := insertTok_counts hone
    obtain ⟨hlive', hplaced'⟩ := ih hrest
    rw [List.length_cons]
    omega

/-! ### Removal (R306) -/

/-- At most `k` slots are removed, each of the key, and LIVE falls with each. -/
theorem removeKey_counts {key epoch k : Nat} {bs : List (Nat × Nat)} {x : List Token × Bool} (h : removeKey w key epoch k bs = .ok x w') :
    x.1.length ≤ k ∧ w'.live = w.live - x.1.length ∧ ∀ t ∈ x.1, instKey t.tag = key := by
  induction bs generalizing w k x with
  | nil => cases h; simp
  | cons b r ih =>
    obtain ⟨l, h⟩ := WRes.bind_ok_of_reads (getLine_reads w b.1) h
    split at h
    · next hmine =>
      have hkey : instKey (slotTag l.1 b.2) = key := by simp_all
      cases k with
      | zero => cases h; simp
      | succ j =>
        obtain ⟨y, v, hy, h⟩ := WRes.bind_ok h
        cases h
        obtain ⟨hlen, hlive, hkeys⟩ := ih hy
        have hlive : w'.live = w.live - 1 - y.1.length := hlive
        refine ⟨Nat.succ_le_succ hlen, ?_, List.forall_mem_cons.mpr ⟨hkey, hkeys⟩⟩
        rw [List.length_cons]
        omega
    · exact ih h

theorem fetchWalk_counts {n key : Nat} {x : List Token × Bool} (h : fetchWalk w n key = .ok x w') :
    x.1.length ≤ 4 ∧ w'.live = w.live - x.1.length ∧ ∀ t ∈ x.1, instKey t.tag = key := by
  obtain ⟨bs, h⟩ := WRes.bind_ok_of_reads (chainOf_reads w _ _ _) h
  obtain ⟨e, h⟩ := WRes.bind_ok_of_reads (ctxEntry_reads w _) h
  obtain ⟨y, v, hremove, h⟩ := WRes.bind_ok h
  have hcounts := removeKey_counts hremove
  split at h
  · cases h; exact hcounts
  split at h
  · cases h
  · obtain ⟨_, v1, hput, h⟩ := WRes.bind_ok h
    obtain ⟨_, v2, hunlink, h⟩ := WRes.bind_ok h
    obtain ⟨hlive, -⟩ := (putCtx_counts hput).trans (unlinkEmpty_counts hunlink)
    cases h
    rwa [← hlive] at hcounts

/-! ### The sweep (R309) -/

/-- Each slot that is cleared is reclaimed, and STALE falls with it. -/
theorem clearStale_counts {bs : List (Nat × Nat)} (h : clearStale w bs = .ok () w') : w'.live = w.live
    ∧ w.reclaimed.length ≤ w'.reclaimed.length ∧ w'.stale = w.stale - (w'.reclaimed.length - w.reclaimed.length) := by
  induction bs generalizing w with
  | nil => cases h; simp
  | cons b r ih =>
    obtain ⟨l, h⟩ := WRes.bind_ok_of_reads (getLine_reads w b.1) h
    obtain ⟨st, h⟩ := WRes.bind_ok_of_reads (slotStale_reads w l.1 b.2) h
    obtain ⟨hlive, hlen, hstale⟩ := ih h
    cases st with
    | false => exact ⟨hlive, hlen, hstale⟩
    | true =>
      have hone : (noteReclaim w l.1 b.2).reclaimed.length = w.reclaimed.length + 1 := List.length_append
      simp only [if_true, putLine, hone] at hlive hlen hstale
      simp only [noteReclaim] at hlive hstale
      exact ⟨hlive, by omega, by omega⟩

theorem sweepWalk_counts {r : Region} {i : Nat} {a : Resp} (h : ovfWalk r w (.sweep i) = .ok a w') : w'.live = w.live
    ∧ w.reclaimed.length ≤ w'.reclaimed.length ∧ w'.stale = w.stale - (w'.reclaimed.length - w.reclaimed.length) := by
  obtain ⟨bs, h⟩ := WRes.bind_ok_of_reads (chainOf_reads w _ _ _) h
  obtain ⟨_, v1, hclear, h⟩ := WRes.bind_ok h
  obtain ⟨_, v2, hunlink, h⟩ := WRes.bind_ok h
  obtain ⟨hlive, hstale, -, hreclaimed⟩ := unlinkEmpty_counts hunlink
  cases h
  rw [hlive, hstale, hreclaimed]
  exact clearStale_counts hclear

end Sys2Proof.Machine
end

section
/-! PROOF. The overspill agents (R300 to R309, R311): how a request reaches its agent, what the agent makes of it, and the walks that it and the
sweep begin. -/

namespace Sys2Proof.Machine

variable {s s2 : State} {p off : Nat} {q : OvfReq} {rq : Rq} {b : Body} {c : Instr} {h : HStart}

/-! ### Regions -/

theorem regionAt_setRegion (hp : p < s.spr.regions.length) (r : Region) : regionAt (setRegion s p r) p = r := by simp [regionAt, setRegion, hp]

theorem setRegion_setRegion (s : State) (p : Nat) (r r' : Region) : setRegion (setRegion s p r) p r' = setRegion s p r' := by
  simp [setRegion]

/-! ### A walk begins (R302, R306, R309) -/

/-- The line is read from the host, or the region fails where the access cannot start. -/
theorem ovfRead_of_start (hstart : windowStart (setRegion s p { regionAt s p with reading := some off }) p (agentRead s p off) = (s2, h)) :
    (NotFailed h → ovfRead s p off = s2) ∧ (∀ e, h = .failed e → ovfRead s p off = ovfFail s2 p Kind.overspillHostError) := by
  have hread : ovfRead s p off = (match windowStart (setRegion s p { regionAt s p with reading := some off }) p (agentRead s p off) with
      | (s2, .failed _) => ovfFail s2 p Kind.overspillHostError
      | (s2, _) => s2) := rfl
  rw [hread, hstart]
  exact ⟨fun hok => by rcases hok with rfl | rfl <;> rfl, fun e he => by rw [he]⟩

/-- An agent that is given an operation reads the line that its walk lacks. -/
theorem ovfRead_of_begin (hp : p < s.spr.regions.length)
    (hstart : windowStart (agentBegins s p off q (regionAt s p).queue) p (agentRead s p off) = (s2, h)) :
    (NotFailed h → ovfRead (setRegion s p { regionAt s p with busy := some q, work := agentWork (regionAt s p) }) p off = s2)
    ∧ (∀ e, h = .failed e → ovfRead (setRegion s p { regionAt s p with busy := some q, work := agentWork (regionAt s p) }) p off
      = ovfFail s2 p Kind.overspillHostError) := by
  refine ovfRead_of_start ?_
  rw [← hstart]
  simp only [agentRead, agentBegins, regionAt_setRegion hp, setRegion_setRegion, setRegion_homes]

/-- What a walk that lacks a line answers. -/
theorem walk_of_lineNeeded {x : WRes Resp} (hneed : lineNeeded x = some off) : x = .need off := by
  cases x with
  | need o => exact congrArg WRes.need (Option.some.inj hneed)
  | ok _ _ | corrupt | noRoom _ | hold => cases hneed

/-- An agent that runs nothing begins the oldest request that it holds. -/
theorem ovfKick_begins {l : List OvfReq} (hfree : AgentFree s p off q) (hq : (regionAt s p).queue = q :: l) (hheld : (regionAt s p).held = false) :
    ovfKick s p = ovfRead (setRegion s p { regionAt s p with busy := some q, work := agentWork (regionAt s p) }) p off := by
  obtain ⟨hstate, hbusy, -, hneed⟩ := hfree
  have hon : (decide ((regionAt s p).state = 1) || decide ((regionAt s p).state = 2)) = true := by simpa using hstate
  have hwalk := walk_of_lineNeeded hneed
  unfold agentWork at hwalk
  unfold ovfKick agentWork
  simp only [hbusy, hq, hheld, hon, hwalk, Bool.not_true, Bool.or_false, Bool.false_eq_true, if_false]

/-- One that runs an operation, that waits for the sweep or whose region is not enabled begins none. -/
theorem ovfKick_rests (hrest : (∃ x, (regionAt s p).busy = some x) ∨ (regionAt s p).held = true
    ∨ ¬ ((regionAt s p).state = 1 ∨ (regionAt s p).state = 2)) : ovfKick s p = s := by
  unfold ovfKick
  dsimp only
  split
  · next hbusy _ =>
    refine if_pos ?_
    rcases hrest with ⟨x, hx⟩ | hheld | hoff
    · rw [hx] at hbusy; cases hbusy
    · simp [hheld]
    · simpa using Or.inr hoff
  · rfl

/-- The sweep begins where the agent runs nothing and nothing that it could run waits. -/
theorem sweep_begins (hw : working s = true) (hslice : sliceLeft s (homeUnit s p) = none) (hstale : (regionAt s p).stale ≠ 0)
    (hfree : AgentFree s p off (.sweep (regionAt s p).sweepAt)) (hq : (regionAt s p).queue = [] ∨ (regionAt s p).held = true) :
    sweep s p = ovfRead (setRegion s p { regionAt s p with busy := some (.sweep (regionAt s p).sweepAt), work := agentWork (regionAt s p) }) p off := by
  obtain ⟨hstate, hbusy, -, hneed⟩ := hfree
  have hon : (decide ((regionAt s p).state = 1) || decide ((regionAt s p).state = 2)) = true := by simpa using hstate
  have hwalk := walk_of_lineNeeded hneed
  have hidle : (!(regionAt s p).queue.isEmpty && !(regionAt s p).held) = false := by
    rcases hq with hq | hheld
    · simp [hq]
    · simp [hheld]
  unfold agentWork at hwalk
  unfold sweep agentWork
  simp only [hw, hslice, hbusy, hstale, hon, hidle, hwalk, Option.isSome_none, decide_false, Bool.not_true, Bool.or_false, Bool.false_eq_true,
    if_false]

/-! ### A request is taken (R300, R303, R311) -/

/-- The agent of an enabled region queues it. -/
theorem ovfTake_queues (hstate : (regionAt s p).state = 1 ∨ (regionAt s p).state = 2) (q : OvfReq) :
    ovfTake s p q = { st := setRegion s p { regionAt s p with queue := (regionAt s p).queue ++ [q] }, ans := none } := if_pos hstate

/-- What a request leaves of a region that cannot serve it: a SPILL raises the absence of a DISABLED one, once. -/
def refusedAt (s : State) (p : Nat) (q : OvfReq) : State :=
  match q with
  | .spill rq _ =>
    if (regionAt s p).state = 0 ∧ (regionAt s p).absent = false then
      ovfRaise (setRegion s p { regionAt s p with absent := true }) p Kind.overspillRegionAbsent rq.src
    else s
  | _ => countAgent s p q {} (ovfNone q)

theorem ovfTake_refuses (hstate : (regionAt s p).state = 0 ∨ (regionAt s p).state = 3) (q : OvfReq) :
    ovfTake s p q = { st := refusedAt s p q, ans := some (ovfNone q), changed := false } := by
  have hoff : ¬ ((regionAt s p).state = 1 ∨ (regionAt s p).state = 2) := by omega
  exact if_neg hoff

/-- The region stays as it is, but for the mark that its absence has been raised. -/
theorem regionAt_refusedAt (s : State) (p : Nat) (q : OvfReq) : (regionAt (refusedAt s p q) p).state = (regionAt s p).state := by
  unfold refusedAt
  split
  · split
    · change (regionAt (setRegion s p { regionAt s p with absent := true }) p).state = _
      by_cases hp : p < s.spr.regions.length
      · rw [regionAt_setRegion hp]
      · rw [setRegion, List.set_eq_of_length_le (Nat.le_of_not_lt hp)]
    · rfl
  · rfl

theorem refusedAt_net (s : State) (p : Nat) (q : OvfReq) : (refusedAt s p q).net = s.net := by
  unfold refusedAt
  split
  · split <;> rfl
  · rfl

/-- A request that reaches its agent is served there. -/
theorem exec_agentReq (hreq : AgentReq c b q rq) (hreach : Reaches s (homeUnit s rq.part) rq b) :
    exec c s = .next (kept s (ovfServe (takePkt s (reqPkt (homeUnit s rq.part) rq b)) rq q)) := by
  obtain ⟨hw, ha, hslice⟩ := hreach
  obtain ⟨toks, rfl, rfl, rfl⟩ | ⟨key, rfl, rfl, rfl⟩ | ⟨ctx, rfl, rfl, rfl⟩ := hreq
  · have hexec : exec (.spill rq toks) s = .next (kept s (spill s rq toks)) := rfl
    rw [hexec, spill, if_neg (by simp [hw]), arriveReq_served _ ha]
  · have hexec : exec (.fetch rq key) s = .next (kept s (fetch s rq key)) := rfl
    rw [hexec, fetch, if_neg (by simp [hw]), arriveReq_served _ ha]
  · have hexec : exec (.ctxNotice rq ctx) s = .next (kept s (ctxNotice s rq ctx)) := rfl
    rw [hexec, ctxNotice, if_neg (by simp [hw, hslice]), arriveReq_served _ ha]

/-- The agent has queued a request, which waits. -/
def queuedAt (s : State) (rq : Rq) (q : OvfReq) : State :=
  respond (replayAdd (setRegion s rq.part { regionAt s rq.part with queue := (regionAt s rq.part).queue ++ [q] }) (homeUnit s rq.part) rq none)
    (homeUnit s rq.part) rq .wait

theorem regionAt_queuedAt (hp : rq.part < s.spr.regions.length) :
    regionAt (queuedAt s rq q) rq.part = { regionAt s rq.part with queue := (regionAt s rq.part).queue ++ [q] } := regionAt_setRegion hp _

/-- Its walk does not depend on the queue. -/
theorem AgentFree.queued (hfree : AgentFree s rq.part off q) : AgentFree (queuedAt s rq q) rq.part off q := by
  obtain ⟨hstate, hbusy, hp, hneed⟩ := hfree
  have hwalk (r : Region) (w : OvfWork) (l : List OvfReq) : ovfWalk { r with queue := l } w q = ovfWalk r w q := by cases q <;> rfl
  refine ⟨?_, ?_, ?_, ?_⟩
  · rwa [regionAt_queuedAt hp]
  · rwa [regionAt_queuedAt hp]
  · exact hp.trans_eq (List.length_set ..).symm
  · rw [regionAt_queuedAt hp, hwalk]
    exact hneed

theorem agentBegins_queuedAt (hp : rq.part < s.spr.regions.length) (l : List OvfReq) : agentBegins (queuedAt s rq q) rq.part off q l
    = agentBegins (respond (replayAdd s (homeUnit s rq.part) rq none) (homeUnit s rq.part) rq .wait) rq.part off q l := by
  have hqueued : queuedAt s rq q = setRegion (respond (replayAdd s (homeUnit s rq.part) rq none) (homeUnit s rq.part) rq .wait) rq.part
      { regionAt s rq.part with queue := (regionAt s rq.part).queue ++ [q] } := rfl
  rw [agentBegins, regionAt_queuedAt hp, hqueued, setRegion_setRegion]
  rfl

/-- An agent that was free begins the request that it has queued. -/
theorem ovfKick_queuedAt (hfree : AgentFree s rq.part off q) (hq : (regionAt s rq.part).queue = []) (hheld : (regionAt s rq.part).held = false)
    (hstart : windowStart (agentBegins (respond (replayAdd s (homeUnit s rq.part) rq none) (homeUnit s rq.part) rq .wait) rq.part off q [q]) rq.part
      (agentRead s rq.part off) = (s2, h)) :
    (NotFailed h → ovfKick (queuedAt s rq q) rq.part = s2)
    ∧ (∀ e, h = .failed e → ovfKick (queuedAt s rq q) rq.part = ovfFail s2 rq.part Kind.overspillHostError) := by
  obtain ⟨-, -, hp, -⟩ := id hfree
  have hfree' := hfree.queued
  obtain ⟨-, -, hp', -⟩ := id hfree'
  have hat := regionAt_queuedAt (q := q) hp
  have hqueue : (regionAt (queuedAt s rq q) rq.part).queue = [q] := by
    rw [hat]
    exact congrArg (· ++ [q]) hq
  have hread : agentRead (queuedAt s rq q) rq.part off = agentRead s rq.part off := by
    rw [agentRead, hat]
    rfl
  rw [ovfKick_begins hfree' hqueue (by rw [hat]; exact hheld)]
  exact ovfRead_of_begin hp' (by rw [hqueue, agentBegins_queuedAt hp, hread, hstart])

section Serve
variable (hslice : sliceLeft s (homeUnit s rq.part) = none) (hnew : s.replays.find? (fun e => e.is (homeUnit s rq.part) rq) = none)
include hslice hnew

/-- A request that is new to the agent of an enabled region joins its queue, and the agent goes on. -/
theorem ovfServe_queues (hstate : (regionAt s rq.part).state = 1 ∨ (regionAt s rq.part).state = 2) (q : OvfReq) :
    ovfServe s rq q = ovfKick (queuedAt s rq q) rq.part := by
  have htake := ovfTake_queues hstate q
  rw [ovfServe, cachedReq_wait hslice hnew (congrArg Eval.ans htake), htake]
  rfl

/-- One that the region cannot serve is answered at once. -/
theorem ovfServe_refuses (hstate : (regionAt s rq.part).state = 0 ∨ (regionAt s rq.part).state = 3) (q : OvfReq) :
    ovfServe s rq q = respond (refusedAt s rq.part q) (homeUnit s rq.part) rq (ovfNone q) := by
  rw [ovfServe, cachedReq_unchanged hslice hnew (ovfTake_refuses hstate q)]
  have hsame : (regionAt (respond (refusedAt s rq.part q) (homeUnit s rq.part) rq (ovfNone q)) rq.part).state = (regionAt s rq.part).state :=
    regionAt_refusedAt s rq.part q
  exact ovfKick_rests (.inr (.inr (by omega)))

end Serve

theorem exec_agentQueues (hreq : AgentReq c b q rq) (hreach : ReachesNew s (homeUnit s rq.part) rq b)
    (hstate : (regionAt s rq.part).state = 1 ∨ (regionAt s rq.part).state = 2) :
    exec c s = .next (kept s (ovfKick (queuedAt (takePkt s (reqPkt (homeUnit s rq.part) rq b)) rq q) rq.part)) := by
  obtain ⟨hreach, hnew⟩ := hreach
  obtain ⟨-, -, hslice⟩ := id hreach
  rw [exec_agentReq hreq hreach, ovfServe_queues (s := takePkt s _) hslice hnew hstate]

theorem exec_agentRefuses (hreq : AgentReq c b q rq) (hreach : ReachesNew s (homeUnit s rq.part) rq b)
    (hstate : (regionAt s rq.part).state = 0 ∨ (regionAt s rq.part).state = 3) : exec c s
    = .next (kept s (respond (refusedAt (takePkt s (reqPkt (homeUnit s rq.part) rq b)) rq.part q) (homeUnit s rq.part) rq (ovfNone q))) := by
  obtain ⟨hreach, hnew⟩ := hreach
  obtain ⟨-, -, hslice⟩ := id hreach
  rw [exec_agentReq hreq hreach, ovfServe_refuses (s := takePkt s _) hslice hnew hstate]
  rfl

/-- A refused SPILL raises the absence of a region that is DISABLED, and marks it raised. -/
theorem refusedAt_spill_raises (toks : List (Token × Nat)) (hoff : (regionAt s p).state = 0) (hnot : (regionAt s p).absent = false) :
    refusedAt s p (.spill rq toks) = ovfRaise (setRegion s p { regionAt s p with absent := true }) p Kind.overspillRegionAbsent rq.src :=
  if_pos ⟨hoff, hnot⟩

/-- Otherwise it raises nothing. -/
theorem refusedAt_spill_again (toks : List (Token × Nat)) (h : (regionAt s p).state = 3 ∨ (regionAt s p).absent = true) :
    refusedAt s p (.spill rq toks) = s := by
  refine if_neg fun ⟨hoff, hnot⟩ => ?_
  rcases h with h | h
  · omega
  · rw [h] at hnot; cases hnot

/-! ### The statement -/

/-- Settles O43: the requests that find the agent free, those that wait in its queue, those that no region can serve, the sweep, and the counts
of the walks. -/
theorem overspillAgent : Obligations.OverspillAgent := by
  refine ⟨fun s s2 rq b q c off h hreq hreach hfree hq hheld hstart => ?begins, fun s rq b q c hreq hreach hstate hp hbusy => ?queued,
    fun s rq hoff => ⟨fun toks hreach => ?spill, fun key hreach => ?fetch, fun ctx hreach => ?notice⟩,
    fun s s2 p off h hw hslice hstale hfree hq hstart => ?sweep,
    fun w w' n l hwalk => insertToks_counts hwalk, fun r w w' rq key toks more hwalk => ?removed, fun r w w' a i hwalk => sweepWalk_counts hwalk⟩
  case begins =>
    obtain ⟨hstate, -⟩ := id hfree
    obtain ⟨hstarts, hfails⟩ := ovfKick_queuedAt (s := takePkt s (reqPkt (homeUnit s rq.part) rq b)) hfree hq hheld hstart
    rw [exec_agentQueues hreq hreach hstate]
    exact ⟨fun hok => by rw [hstarts hok], fun e he => by rw [hfails e he]⟩
  case queued =>
    rw [exec_agentQueues hreq hreach hstate, ovfKick_rests]
    · rfl
    rw [regionAt_queuedAt (s := takePkt s _) hp]
    exact hbusy.imp_right .inl
  case spill =>
    refine leaves_of_eq (exec_agentRefuses (.inl ⟨toks, rfl, rfl, rfl⟩) hreach hoff) ⟨?_, fun hagain => ?_, fun hstate hnot => ⟨fun hp => ?_, ?_⟩⟩
    · rw [kept_net, respond_net, refusedAt_net]
      rfl
    · rw [refusedAt_spill_again (s := takePkt s _) toks hagain]
      rfl
    · rw [refusedAt_spill_raises (s := takePkt s _) toks hstate hnot]
      exact congrArg Region.absent (regionAt_setRegion (s := takePkt s _) hp _)
    · rw [refusedAt_spill_raises (s := takePkt s _) toks hstate hnot]
      exact raise_inbox _ Kind.overspillRegionAbsent _ _ _ _
  case fetch =>
    exact leaves_of_eq (exec_agentRefuses (.inr (.inl ⟨key, rfl, rfl, rfl⟩)) hreach hoff) ⟨rfl, rfl⟩
  case notice =>
    exact leaves_of_eq (exec_agentRefuses (.inr (.inr ⟨ctx, rfl, rfl, rfl⟩)) hreach hoff) ⟨rfl, rfl⟩
  case sweep =>
    obtain ⟨-, -, hp, -⟩ := id hfree
    have hexec : exec (.sweep p) s = .next (kept s (Machine.sweep s p)) := rfl
    rw [hexec, sweep_begins hw hslice hstale hfree hq]
    obtain ⟨hstarts, hfails⟩ := ovfRead_of_begin hp hstart
    exact ⟨fun hok => by rw [hstarts hok], fun e he => by rw [hfails e he]⟩
  case removed =>
    obtain ⟨x, v, hfetch, hanswer⟩ := WRes.bind_ok hwalk
    cases hanswer
    exact fetchWalk_counts hfetch

end Sys2Proof.Machine
end

section
/-! PROOF. Overspill at a tile (R293 to R299, R304 to R309): what the operations on a tile's overspill state change of it, said once for the
commands that share them. -/

namespace Sys2Proof.Machine

variable {s : State} {u : Nat}

/-! ### A tile's overspill state -/

theorem tileAt_modSpl_same (hu : u < s.tiles.length) (f : Spl → Spl) : tileAt (modSpl s u f) u = { tileAt s u with spl := f (tileAt s u).spl } :=
  tileAt_modTile_same s u _ hu

theorem tileAt_modSpl_other {v : Nat} (hv : v ≠ u) (f : Spl → Spl) : tileAt (modSpl s u f) v = tileAt s v :=
  tileAt_modTile_other s u v _ (Ne.symm hv)

theorem modSpl_length (s : State) (u : Nat) (f : Spl → Spl) : (modSpl s u f).tiles.length = s.tiles.length := modTile_length s u _

/-- A tile is read from the tiles alone. -/
theorem tileAt_of_tiles {t : State} (h : t.tiles = s.tiles) (v : Nat) : tileAt t v = tileAt s v := by rw [tileAt, h, tileAt]

/-- A monitor that keeps its settings keeps its hold-off. -/
theorem monitorAt_setMonitor_retry {k : Nat} {m : Monitor} (hm : m.retry = (monitorAt s k).retry) :
    (monitorAt (setMonitor s k m) k).retry = (monitorAt s k).retry := by
  by_cases hk : k < s.spr.monitors.length
  · have hat : monitorAt (setMonitor s k m) k = m := by simp [monitorAt, setMonitor, hk]
    rw [hat, hm]
  · rw [setMonitor, List.set_eq_of_length_le (Nat.le_of_not_lt hk)]

/-! ### The end of an order (R294) -/

/-- The spill state of a tile whose order was fruitless: its hold-off has begun. -/
theorem fruitless_tile (hu : u < s.tiles.length) : tileAt (fruitless s u) u = { tileAt s u with spl := { (tileAt s u).spl with
    ordered := false, refused := false, holdOff := some (now s + 256 * (monitorAt s (standOf u)).retry) } } :=
  tileAt_modSpl_same (s := setMonitor s (standOf u) _) hu _

theorem fruitless_length (s : State) (u : Nat) : (fruitless s u).tiles.length = s.tiles.length := modSpl_length _ u _

/-- An order of which no SPILL is outstanding has ended. -/
theorem settleOrder_ends (hu : u < s.tiles.length) (hrefused : (tileAt s u).spl.refused = false) (hout : spillsOut s u = false) :
    (tileAt (settleOrder s u) u).spl.ordered = false := by
  cases hordered : (tileAt s u).spl.ordered with
  | false =>
    have hself : settleOrder s u = s := if_pos (by simp [hordered])
    rw [hself, hordered]
  | true =>
    have hends : settleOrder s u = modSpl s u (fun x => { x with ordered := false }) := by simp [settleOrder, hordered, hrefused, hout]
    rw [hends, tileAt_modSpl_same hu]

/-- After a refusal the hold-off begins. -/
theorem settleOrder_refused (hordered : (tileAt s u).spl.ordered = true) (hrefused : (tileAt s u).spl.refused = true)
    (hout : spillsOut s u = false) : settleOrder s u = fruitless s u := by
  simp [settleOrder, hordered, hrefused, hout]

/-- What the end of an order leaves of the tile. -/
theorem settleOrder_tile (hu : u < s.tiles.length) : (settleOrder s u).tiles.length = s.tiles.length ∧ ∃ o r d,
    tileAt (settleOrder s u) u = { tileAt s u with spl := { (tileAt s u).spl with ordered := o, refused := r, holdOff := d } } := by
  unfold settleOrder
  dsimp only
  split
  · exact ⟨rfl, (tileAt s u).spl.ordered, (tileAt s u).spl.refused, (tileAt s u).spl.holdOff, rfl⟩
  split
  · exact ⟨fruitless_length s u, _, _, _, fruitless_tile hu⟩
  · exact ⟨modSpl_length s u _, _, _, _, tileAt_modSpl_same hu _⟩

/-! ### The filter clears and CTX_END is acknowledged (R304, R308) -/

theorem settleFilter_tile (hu : u < s.tiles.length) : (settleFilter s u).tiles.length = s.tiles.length ∧ (settleFilter s u).net = s.net
    ∧ ∃ f, tileAt (settleFilter s u) u = { tileAt s u with spl := { (tileAt s u).spl with filter := f } } := by
  unfold settleFilter
  split
  · exact ⟨modSpl_length s u _, rfl, _, tileAt_modSpl_same hu _⟩
  · exact ⟨rfl, rfl, (tileAt s u).spl.filter, rfl⟩

/-- A tile that awaits tokens, or has them in its fetch buffer, acknowledges nothing. -/
theorem settleEnds_waits (hbuf : (tileAt s u).spl.fetchBuf ≠ []) : settleEnds s u = s := by
  refine if_pos ?_
  simp [hbuf]

theorem settleEnds_tile (hu : u < s.tiles.length) : ∃ e, tileAt (settleEnds s u) u = { tileAt s u with endWaits := e } := by
  unfold settleEnds
  dsimp only
  split
  · exact ⟨(tileAt s u).endWaits, rfl⟩
  · refine ⟨[], ?_⟩
    rw [tileAt_of_tiles (ackEnds_spec _ _ u).1, tileAt_setTile_same s u _ hu]

/-- With no CTX_END to acknowledge none is. -/
theorem settleEnds_net (hends : (tileAt s u).endWaits = []) : (settleEnds s u).net = s.net := by
  unfold settleEnds
  dsimp only
  split
  · rfl
  · rw [hends]
    rfl

/-- What follows the end of a SPILL or a FETCH leaves of the tile. -/
theorem settleSpill_tile (hu : u < s.tiles.length) : ∃ f e, tileAt (settleEnds (settleFilter s u) u) u
    = { tileAt s u with spl := { (tileAt s u).spl with filter := f }, endWaits := e } := by
  obtain ⟨hlen, -, f, hf⟩ := settleFilter_tile hu
  obtain ⟨e, he⟩ := settleEnds_tile (s := settleFilter s u) (hlen ▸ hu)
  exact ⟨f, e, by rw [he, hf]⟩

/-! ### Stored entries by their index (R296) -/

/-- The entry of an index: of the store, or above 65,536 of the overflow buffer. -/
def entryAt (t : Tile) (i : Nat) : MEntry := if i < 65536 then SMap.get {} t.store i else SMap.get {} t.ovf (i - 65536)

theorem entryAt_store {i : Nat} (t : Tile) (hi : i < 65536) : entryAt t i = SMap.get {} t.store i := if_pos hi

theorem entryAt_ovf {i : Nat} (t : Tile) (hi : 65536 ≤ i) : entryAt t i = SMap.get {} t.ovf (i - 65536) := if_neg (Nat.not_lt.mpr hi)

/-- Entries are read from the store and the overflow buffer alone. -/
theorem entryAt_congr {t t' : Tile} (hs : t'.store = t.store) (ho : t'.ovf = t.ovf) (i : Nat) : entryAt t' i = entryAt t i := by
  rw [entryAt, hs, ho, entryAt]

theorem entryAt_modEntry_same (t : Tile) (i : Nat) (f : MEntry → MEntry) : entryAt (modEntry t i f) i = f (entryAt t i) := by
  unfold entryAt modEntry
  split
  · exact SMap.get_put_same ..
  · exact SMap.get_put_same ..

theorem entryAt_modEntry_other (t : Tile) {i j : Nat} (hij : j ≠ i) (f : MEntry → MEntry) : entryAt (modEntry t i f) j = entryAt t j := by
  unfold entryAt modEntry
  by_cases hi : i < 65536
  · rw [if_pos hi]
    split
    · exact SMap.get_put_other _ _ hij _
    · rfl
  · rw [if_neg hi]
    split
    · rfl
    · exact SMap.get_put_other _ _ (by omega) _

/-- It changes stored tokens alone. -/
theorem modEntry_stored (t : Tile) (i : Nat) (f : MEntry → MEntry) : ∃ st ov, modEntry t i f = { t with store := st, ovf := ov } := by
  unfold modEntry
  split
  · exact ⟨_, t.ovf, rfl⟩
  · exact ⟨t.store, _, rfl⟩

theorem foldl_modEntry_stored {α : Type} (ix : α → Nat) (f : MEntry → MEntry) (l : List α) (t : Tile) :
    ∃ st ov, l.foldl (fun t a => modEntry t (ix a) f) t = { t with store := st, ovf := ov } := by
  induction l generalizing t with
  | nil => exact ⟨t.store, t.ovf, rfl⟩
  | cons a r ih =>
    obtain ⟨st, ov, hone⟩ := modEntry_stored t (ix a) f
    obtain ⟨st', ov', hrest⟩ := ih (modEntry t (ix a) f)
    rw [List.foldl_cons, hrest, hone]
    exact ⟨st', ov', rfl⟩

/-- What each step of a fold makes of its own entry, and keeps of every entry, holds after it of the entry of each element. -/
theorem entryAt_foldl {α : Type} {P : MEntry → Prop} {g : Tile → α → Tile} {ix : α → Nat} (hmakes : ∀ t a, P (entryAt (g t a) (ix a)))
    (hkeeps : ∀ t a i, P (entryAt t i) → P (entryAt (g t a) i)) (l : List α) (t : Tile) : ∀ a ∈ l, P (entryAt (l.foldl g t) (ix a)) := by
  have hfold (l : List α) (t : Tile) (i : Nat) (hi : P (entryAt t i)) : P (entryAt (l.foldl g t) i) :=
    List.foldlRecOn l g (motive := fun t => P (entryAt t i)) hi (fun t ht a _ => hkeeps t a i ht)
  induction l generalizing t with
  | nil => exact fun a ha => absurd ha List.not_mem_nil
  | cons b r ih =>
    intro a ha
    rcases List.mem_cons.mp ha with rfl | ha
    · exact hfold r _ _ (hmakes t a)
    · exact ih _ a ha

/-- A change of an entry whose outcome has `P` makes it so and keeps it so. -/
theorem entryAt_foldl_modEntry {α : Type} {P : MEntry → Prop} {f : MEntry → MEntry} (ix : α → Nat) (hf : ∀ e, P (f e)) (l : List α) (t : Tile) :
    ∀ a ∈ l, P (entryAt (l.foldl (fun t a => modEntry t (ix a) f) t) (ix a)) := by
  refine entryAt_foldl (fun t a => ?_) (fun t a i hi => ?_) l t
  · rw [entryAt_modEntry_same]
    exact hf _
  · by_cases hia : i = ix a
    · rw [hia, entryAt_modEntry_same]
      exact hf _
    · rwa [entryAt_modEntry_other t hia]

end Sys2Proof.Machine
end

section
/-! PROOF. The answer of a SPILL (R296, R298, R304): what an acknowledgement and a refusal leave of the tile. -/

namespace Sys2Proof.Machine

variable {x : State} {u n : Nat} {o : OutReq} {ents : List Nat} {un : Bool}

/-! ### The answer reaches its request -/

theorem exec_spillAnswer {s : State} {src part tag st : Nat} (h : AnswersTo s u src part tag 3 (.spillData st n) o) (huse : o.use = .spill ents un) :
    exec (.spillAnswer u src part tag (.spillData st n)) s
      = .next (kept s (flushWait (Machine.spillAnswer (ended s u src part tag 3 (.spillData st n) o) o ents un (decide (st = 0)) n))) := by
  have hexec : exec (.spillAnswer u src part tag (.spillData st n)) s = .next (kept s (spillAnswerArrival s u src part tag (.spillData st n))) := rfl
  have hfinal (y : State) : finalAnswer y o (.spillData st n) = Machine.spillAnswer y o ents un (decide (st = 0)) n := by
    unfold finalAnswer
    rw [huse]
  rw [hexec, spillAnswerArrival, takeRsp_of_answer false h (by rw [huse]), answerReq_final (by simp) (by simp) (by simp), hfinal]
  rfl

/-- What follows an answer leaves of the tile that it has changed, and when its order has ended. -/
theorem settleAnswer_tile {t : Tile} (hu : u < x.tiles.length) : ∃ f e d r o,
    tileAt (settleEnds (settleFilter (settleOrder (setTile x u t) u) u) u) u
      = { t with spl := { t.spl with filter := f, ordered := o, refused := r, holdOff := d }, endWaits := e }
    ∧ (t.spl.refused = false → spillsOut x u = false → o = false)
    ∧ (t.spl.ordered = true → t.spl.refused = true → spillsOut x u = false →
      o = false ∧ d = some (now x + 256 * (monitorAt x (standOf u)).retry)) := by
  have hu' : u < (setTile x u t).tiles.length := (setTile_length x u t).symm ▸ hu
  have hat := tileAt_setTile_same x u t hu
  obtain ⟨hlen, o, r, d, horder⟩ := settleOrder_tile hu'
  obtain ⟨f, e, htail⟩ := settleSpill_tile (s := settleOrder (setTile x u t) u) (hlen.symm ▸ hu')
  refine ⟨f, e, d, r, o, ?_, fun hrefused hout => ?_, fun hordered hrefused hout => ?_⟩
  · rw [htail, horder, hat]
  · have hends := settleOrder_ends hu' (by rw [hat]; exact hrefused) hout
    rwa [horder] at hends
  · have hends := settleOrder_refused (s := setTile x u t) (by rw [hat]; exact hordered) (by rw [hat]; exact hrefused) hout
    have hfruitless := horder.symm.trans ((congrArg (fun s => tileAt s u) hends).trans (fruitless_tile hu'))
    have hspl := congrArg Tile.spl hfruitless
    exact ⟨congrArg Spl.ordered hspl, congrArg Spl.holdOff hspl⟩

/-! ### An acknowledgement (R296) -/

/-- The tile of an acknowledged SPILL: its entries are empty, and SPILLED has risen by the tokens that were placed. -/
def spilledTile (t : Tile) (ents : List Nat) (n : Nat) : Tile :=
  let t1 := ents.foldl (fun t i => modEntry t i (fun _ => {})) t
  { t1 with spl := { t1.spl with spilled := t1.spl.spilled + n } }

/-- The matcher without the entry that it un-fired. -/
def unfiredTile (t : Tile) : Tile := { t with held := none, spl := { t.spl with fireSince := none, unfiring := false, fullRaised := false } }

theorem spilledTile_eq (t : Tile) (ents : List Nat) (n : Nat) : ∃ st ov,
    spilledTile t ents n = { t with store := st, ovf := ov, spl := { t.spl with spilled := t.spl.spilled + n } } := by
  obtain ⟨st, ov, h⟩ := foldl_modEntry_stored (fun i => i) (fun _ => {}) ents t
  exact ⟨st, ov, by rw [spilledTile, h]⟩

theorem entryAt_spilledTile (t : Tile) (n : Nat) : ∀ i ∈ ents, entryAt (spilledTile t ents n) i = {} :=
  entryAt_foldl_modEntry (P := fun e => e = {}) (fun i => i) (fun _ => rfl) ents t

theorem spillAnswer_accepted (hx : o.unit = u) (hu : u < x.tiles.length) : Machine.spillAnswer x o ents un true n
    = settleEnds (settleFilter (settleOrder (setTile x u (if un then unfiredTile (spilledTile (tileAt x u) ents n)
        else spilledTile (tileAt x u) ents n)) u) u) u := by
  subst hx
  cases un with
  | false => rfl
  | true =>
    have htwice : modTile (modTile x o.unit (spilledTile · ents n)) o.unit unfiredTile
        = setTile x o.unit (unfiredTile (spilledTile (tileAt x o.unit) ents n)) := by
      rw [modTile, tileAt_modTile_same _ _ _ hu]
      simp only [modTile, setTile, List.set_set]
    exact congrArg (fun s => settleEnds (settleFilter (settleOrder s o.unit) o.unit) o.unit) htwice

/-- What an acknowledged SPILL leaves of its tile. -/
theorem spillAccepted {y : State} (hx : o.unit = u) (hu : u < x.tiles.length) (hy : y = Machine.spillAnswer x o ents un true n) :
    (tileAt y u).spl.spilled = (tileAt x u).spl.spilled + n ∧ (∀ i ∈ ents, entryAt (tileAt y u) i = {})
    ∧ (un = true → (tileAt y u).held = none ∧ (tileAt y u).spl.unfiring = false)
    ∧ ((tileAt x u).spl.refused = false → spillsOut x u = false → (tileAt y u).spl.ordered = false) := by
  rw [spillAnswer_accepted hx hu] at hy
  subst hy
  obtain ⟨f, e, d, r, od, htile, hends, -⟩ := settleAnswer_tile hu
    (t := if un then unfiredTile (spilledTile (tileAt x u) ents n) else spilledTile (tileAt x u) ents n)
  have hentries := entryAt_spilledTile (ents := ents) (tileAt x u) n
  obtain ⟨st, ov, htaken⟩ := spilledTile_eq (tileAt x u) ents n
  have hspilled : (spilledTile (tileAt x u) ents n).spl.spilled = (tileAt x u).spl.spilled + n := by rw [htaken]
  have hrefused : (spilledTile (tileAt x u) ents n).spl.refused = (tileAt x u).spl.refused := by rw [htaken]
  rw [htile]
  cases un with
  | false => exact ⟨hspilled, hentries, fun h => absurd h Bool.false_ne_true, fun h hout => hends (hrefused.trans h) hout⟩
  | true => exact ⟨hspilled, hentries, fun _ => ⟨rfl, rfl⟩, fun h hout => hends (hrefused.trans h) hout⟩

/-! ### A refusal (R296, R298) -/

/-- A discarded token is counted outside the stored entries. -/
theorem countEnded_keeps (t : Tile) (part ctx : Nat) : ∃ e c, countEnded t part ctx = { t with endWaits := e, scan := c } := by
  unfold countEnded
  split
  · exact ⟨_, t.scan, rfl⟩
  · exact ⟨t.endWaits, _, rfl⟩

/-- The tag of the token in an entry, its port aside. -/
def entryTag (t : Tile) (i : Nat) : W64 := BitVec.ofNat 64 (16 * (entryAt t i).key)

/-- A refused victim is matched again, or its entry is empty. -/
theorem returnEntry_eq (t : Tile) (i : Nat) : ∃ f e c, (∀ x : MEntry, (f x).pending = false)
    ∧ returnEntry t i = { modEntry t i f with endWaits := e, scan := c } := by
  have heq : returnEntry t i = if endedCtx t (tagPart (entryTag t i)) (tagCtx (entryTag t i))
      then countEnded (modEntry t i (fun _ => {})) (tagPart (entryTag t i)) (tagCtx (entryTag t i))
      else modEntry t i (fun y => { y with pending := false }) := rfl
  rw [heq]
  split
  · obtain ⟨e, c, hcount⟩ := countEnded_keeps (modEntry t i (fun _ => {})) (tagPart (entryTag t i)) (tagCtx (entryTag t i))
    exact ⟨fun _ => {}, e, c, fun _ => rfl, hcount⟩
  · exact ⟨fun y => { y with pending := false }, _, _, fun _ => rfl, rfl⟩

theorem foldl_returnEntry_keeps (ents : List Nat) (t : Tile) :
    ∃ st ov e c, ents.foldl returnEntry t = { t with store := st, ovf := ov, endWaits := e, scan := c } := by
  induction ents generalizing t with
  | nil => exact ⟨t.store, t.ovf, t.endWaits, t.scan, rfl⟩
  | cons i r ih =>
    obtain ⟨f, e, c, -, hone⟩ := returnEntry_eq t i
    obtain ⟨st, ov, hmod⟩ := modEntry_stored t i f
    obtain ⟨st', ov', e', c', hrest⟩ := ih (returnEntry t i)
    rw [List.foldl_cons, hrest, hone, hmod]
    exact ⟨st', ov', e', c', rfl⟩

theorem entryAt_foldl_returnEntry (ents : List Nat) (t : Tile) : ∀ i ∈ ents, (entryAt (ents.foldl returnEntry t) i).pending = false := by
  have hone (t : Tile) (i : Nat) : ∃ f : MEntry → MEntry, (∀ x, (f x).pending = false)
      ∧ ∀ j, entryAt (returnEntry t i) j = entryAt (modEntry t i f) j := by
    obtain ⟨f, e, c, hf, hret⟩ := returnEntry_eq t i
    exact ⟨f, hf, fun j => by rw [hret]; rfl⟩
  refine entryAt_foldl (P := fun e => e.pending = false) (ix := fun i => i) (fun t i => ?_) (fun t i j hj => ?_) ents t
  · obtain ⟨f, hf, hat⟩ := hone t i
    rw [hat, entryAt_modEntry_same]
    exact hf _
  · obtain ⟨f, hf, hat⟩ := hone t i
    rw [hat]
    by_cases hij : j = i
    · rw [hij, entryAt_modEntry_same]
      exact hf _
    · rwa [entryAt_modEntry_other t hij]

/-- The tile whose refused victims have returned, and its refire list without the key of a refused un-firing. -/
def refusedTile (t : Tile) (ents : List Nat) (un : Bool) : Tile :=
  let t1 := ents.foldl returnEntry t
  { t1 with spl := { t1.spl with
    refused := true, refire := if un then t1.spl.refire.dropLast else t1.spl.refire, unfiring := t1.spl.unfiring && !un } }

theorem refusedTile_eq (t : Tile) (ents : List Nat) (un : Bool) : ∃ st ov e c, refusedTile t ents un = { t with
    store := st, ovf := ov, endWaits := e, scan := c
    spl := { t.spl with refused := true, refire := if un then t.spl.refire.dropLast else t.spl.refire, unfiring := t.spl.unfiring && !un } } := by
  obtain ⟨st, ov, e, c, h⟩ := foldl_returnEntry_keeps ents t
  exact ⟨st, ov, e, c, by rw [refusedTile, h]⟩

/-- The held entry touches no stored token, and of the spill state the marks of its own stall. -/
theorem settleHeld_spl (tm : Nat) (t : Tile) : (settleHeld tm t).store = t.store ∧ (settleHeld tm t).ovf = t.ovf
    ∧ ∃ since raised, (settleHeld tm t).spl = { t.spl with fireSince := since, fullRaised := raised } := by
  unfold settleHeld
  cases t.held with
  | none => exact ⟨rfl, rfl, t.spl.fireSince, t.spl.fullRaised, rfl⟩
  | some x =>
    dsimp only
    split
    · exact ⟨rfl, rfl, t.spl.fireSince, t.spl.fullRaised, rfl⟩
    · cases h : fqRoom t x.level with
      | true => rw [fire_of_room h]; exact ⟨rfl, rfl, none, false, rfl⟩
      | false => rw [fire_of_full h]; exact ⟨rfl, rfl, _, t.spl.fullRaised, rfl⟩

/-- The tile of a refused SPILL: a held entry whose un-firing was refused goes on. -/
def returnedTile (tm : Nat) (t : Tile) (ents : List Nat) (un : Bool) : Tile :=
  if un then settleHeld tm (refusedTile t ents un) else refusedTile t ents un

section Returned
variable (tm : Nat) (t : Tile) (ents : List Nat) (un : Bool)

theorem returnedTile_spl : ∃ since raised, (returnedTile tm t ents un).spl = { t.spl with
    refused := true, refire := if un then t.spl.refire.dropLast else t.spl.refire, unfiring := t.spl.unfiring && !un
    fireSince := since, fullRaised := raised } := by
  obtain ⟨st, ov, e, c, hrefused⟩ := refusedTile_eq t ents un
  cases un with
  | true =>
    obtain ⟨-, -, since, raised, hspl⟩ := settleHeld_spl tm (refusedTile t ents true)
    rw [congrArg Tile.spl hrefused] at hspl
    exact ⟨since, raised, hspl⟩
  | false => exact ⟨t.spl.fireSince, t.spl.fullRaised, congrArg Tile.spl hrefused⟩

theorem entryAt_returnedTile : ∀ i ∈ ents, (entryAt (returnedTile tm t ents un) i).pending = false := by
  have hentries : ∀ i ∈ ents, (entryAt (refusedTile t ents un) i).pending = false := entryAt_foldl_returnEntry ents t
  unfold returnedTile
  split
  · obtain ⟨hst, hov, -⟩ := settleHeld_spl tm (refusedTile t ents un)
    exact fun i hi => (entryAt_congr hst hov i).symm ▸ hentries i hi
  · exact hentries

/-- The held entry goes into the fire queue, or is held on while the queue is full. -/
theorem returnedTile_held {z : FireEntry} (hz : t.held = some z) :
    (fqRoom t z.level = true → (returnedTile tm t ents true).fq = t.fq ++ [z] ∧ (returnedTile tm t ents true).held = none)
    ∧ (fqRoom t z.level = false → (returnedTile tm t ents true).held = some z) := by
  obtain ⟨st, ov, e, c, hrefused⟩ := refusedTile_eq t ents true
  have hfq : (refusedTile t ents true).fq = t.fq := by rw [hrefused]
  have hheld : (refusedTile t ents true).held = some z := by rw [hrefused, ← hz]
  have hunfiring : (refusedTile t ents true).spl.unfiring = false := by rw [hrefused]; exact Bool.and_false _
  rw [returnedTile, if_pos rfl, settleHeld_of_held hheld hunfiring, ← fqRoom_congr hfq, ← hfq]
  exact ⟨fun hroom => by rw [fire_of_room hroom]; exact ⟨rfl, rfl⟩, fun hfull => by rw [fire_of_full hfull]⟩

end Returned

theorem spillAnswer_refused (hx : o.unit = u) : Machine.spillAnswer x o ents un false n
    = settleEnds (settleFilter (settleOrder (setTile x u (returnedTile (now x) (tileAt x u) ents un)) u) u) u := by
  subst hx
  rfl

/-- What a refused SPILL leaves of its tile. -/
theorem spillRefused {y : State} (hx : o.unit = u) (hu : u < x.tiles.length) (hy : y = Machine.spillAnswer x o ents un false n) :
    (tileAt y u).spl.spilled = (tileAt x u).spl.spilled ∧ (∀ i ∈ ents, (entryAt (tileAt y u) i).pending = false)
    ∧ (un = true → (tileAt y u).spl.refire = (tileAt x u).spl.refire.dropLast ∧ (tileAt y u).spl.unfiring = false
      ∧ ∀ e, (tileAt x u).held = some e →
        (fqRoom (tileAt x u) e.level = true → (tileAt y u).fq = (tileAt x u).fq ++ [e] ∧ (tileAt y u).held = none)
        ∧ (fqRoom (tileAt x u) e.level = false → (tileAt y u).held = some e))
    ∧ ((tileAt x u).spl.ordered = true → spillsOut x u = false → (tileAt y u).spl.ordered = false
      ∧ (tileAt y u).spl.holdOff = some (now x + 256 * (monitorAt x (standOf u)).retry)) := by
  rw [spillAnswer_refused hx] at hy
  subst hy
  obtain ⟨f, e, d, r, od, htile, -, hends⟩ := settleAnswer_tile hu (t := returnedTile (now x) (tileAt x u) ents un)
  obtain ⟨since, raised, hspl⟩ := returnedTile_spl (now x) (tileAt x u) ents un
  have hentries := entryAt_returnedTile (now x) (tileAt x u) ents un
  rw [hspl] at htile hends
  rw [htile]
  refine ⟨rfl, hentries, fun hun => ?_, fun hordered hout => hends hordered rfl hout⟩
  subst hun
  exact ⟨rfl, Bool.and_false _, fun z hz => returnedTile_held (now x) (tileAt x u) ents hz⟩

/-- The answers of SPILLs, by what each leaves of its tile. -/
theorem spillAnswers : SpillAnswers := by
  refine ⟨fun s u src part tag st n o ents un h huse => exec_spillAnswer h huse, fun x y u n o ents un hx hu hy => ?accepted,
    fun x y u n o ents un hx hu hy => ?refused⟩
  case accepted =>
    obtain ⟨hspilled, hentries, hunfired, hends⟩ := spillAccepted hx hu hy
    exact ⟨hspilled, fun i hi => ⟨fun h => entryAt_store _ h ▸ hentries i hi, fun h => entryAt_ovf _ h ▸ hentries i hi⟩, hunfired, hends⟩
  case refused =>
    obtain ⟨hspilled, hentries, hunfired, hends⟩ := spillRefused hx hu hy
    exact ⟨hspilled, fun i hi => ⟨fun h => entryAt_store _ h ▸ hentries i hi, fun h => entryAt_ovf _ h ▸ hentries i hi⟩, hunfired, hends⟩

end Sys2Proof.Machine
end

section
/-! PROOF. Fetching tokens back (R299, R305 to R309): what an answer leaves of the fetch buffer, the next FETCH, and the tokens that enter the
input queue. -/

namespace Sys2Proof.Machine

variable {s x : State} {u key part : Nat} {o : OutReq} {refire more : Bool} {toks : List Token}

/-! ### FETCH requests (R305) -/

/-- A FETCH whose tag window is open is in the network. -/
theorem sendFetch_net (hopen : windowOpen s (rqId u 3) part (homeUnit s part) = true) : ∃ tag, (sendFetch s u part key refire).net
    = s.net ++ [{ cls := 2, dest := homeUnit s part, src := rqId u 3, part := part, tag := tag, body := .fetch key }] :=
  ⟨_, sendReq_net_of_open s (.inr hopen)⟩

theorem sendFetch_tiles (s : State) (u part key : Nat) (refire : Bool) : (sendFetch s u part key refire).tiles = s.tiles := sendReq_tiles s _

/-- The tile with the FETCHes that a MORE still asks for replaced. -/
def moreLeft (t : Tile) (l : List (Nat × Bool)) : Tile := { t with spl := { t.spl with moreQ := l } }

/-- Without room in the fetch buffer no FETCH is sent. -/
theorem fetchMore_waits (hroom : fetchRoom s u = false) : fetchMore s u = s := by
  unfold fetchMore
  split
  · rfl
  · exact if_neg (by simp [hroom])

theorem fetchMore_of_none (hmore : (tileAt s u).spl.moreQ = []) : fetchMore s u = s := by
  unfold fetchMore
  rw [hmore]

theorem fetchMore_sends {l : List (Nat × Bool)} (hmore : (tileAt s u).spl.moreQ = (key, refire) :: l) (hroom : fetchRoom s u = true)
    (hopen : windowOpen s (rqId u 3) (bits key 59 56) (homeUnit s (bits key 59 56)) = true) :
    fetchMore s u = sendFetch (modSpl s u (fun x => { x with moreQ := l })) u (bits key 59 56) key refire := by
  unfold fetchMore
  rw [hmore]
  exact if_pos (by simp [hroom, hopen])

/-- It takes the oldest that is asked for from the list at most. -/
theorem fetchMore_tile (hu : u < s.tiles.length) :
    (fetchMore s u).tiles.length = s.tiles.length ∧ ∃ l, tileAt (fetchMore s u) u = moreLeft (tileAt s u) l := by
  unfold fetchMore
  split
  · exact ⟨rfl, (tileAt s u).spl.moreQ, rfl⟩
  · next k r l hmore =>
    dsimp only
    split
    · refine ⟨(congrArg List.length (sendFetch_tiles _ _ _ _ _)).trans (modSpl_length s u _), l, ?_⟩
      rw [tileAt_of_tiles (sendFetch_tiles _ _ _ _ _), tileAt_modSpl_same hu]
      rfl
    · exact ⟨rfl, (tileAt s u).spl.moreQ, rfl⟩

/-! ### The answer of a FETCH (R306) -/

theorem exec_fetchData {src tag : Nat} (h : AnswersTo s u src part tag 3 (.fetchData toks more) o) (huse : o.use = .fetch key refire) :
    exec (.fetchData u src part tag (.fetchData toks more)) s
      = .next (kept s (flushWait (fetchAnswer (ended s u src part tag 3 (.fetchData toks more) o) o key refire toks more))) := by
  have hexec : exec (.fetchData u src part tag (.fetchData toks more)) s
      = .next (kept s (fetchDataArrival s u src part tag (.fetchData toks more))) := rfl
  have hfinal (y : State) : finalAnswer y o (.fetchData toks more) = fetchAnswer y o key refire toks more := by
    unfold finalAnswer
    rw [huse]
  rw [hexec, fetchDataArrival, takeRsp_of_answer false h (by rw [huse]), answerReq_final (by simp) (by simp) (by simp), hfinal]
  rfl

/-- The spill state of a tile whose FETCH is answered. -/
def fetchedSpl (key : Nat) (refire more : Bool) (toks : List Token) (x : Spl) : Spl := { x with
  fetchBuf := x.fetchBuf ++ toks
  misses := if toks.isEmpty then (x.misses + 1) % 2 ^ 32 else x.misses
  moreQ := if more then x.moreQ ++ [(key, refire)] else x.moreQ
  refire := if refire && !more then x.refire.erase key else x.refire }

theorem fetchAnswer_last (hx : o.unit = u) : fetchAnswer x o key refire toks false
    = settleEnds (settleFilter (modSpl x u (fetchedSpl key refire false toks)) u) u := by
  subst hx
  rfl

theorem fetchAnswer_more (hx : o.unit = u) : fetchAnswer x o key refire toks true = fetchMore (modSpl x u (fetchedSpl key refire true toks)) u := by
  subst hx
  rfl

section Answer
variable (hu : u < x.tiles.length)
include hu

/-- Room in the fetch buffer does not depend on what a MORE still asks for. -/
theorem fetchRoom_fetched : fetchRoom (modSpl x u (fetchedSpl key refire true toks)) u
    = fetchRoom (modSpl x u (fun z => { z with fetchBuf := z.fetchBuf ++ toks })) u := by
  unfold fetchRoom
  rw [tileAt_modSpl_same hu, tileAt_modSpl_same hu]
  rfl

/-- What the answer of a FETCH leaves of its tile. -/
theorem fetchAnswer_tile (hx : o.unit = u) : ∃ f e l, tileAt (fetchAnswer x o key refire toks more) u
      = { tileAt x u with
          spl := { fetchedSpl key refire more toks (tileAt x u).spl with filter := f, moreQ := l }, endWaits := e }
    ∧ (more = false → l = (tileAt x u).spl.moreQ) := by
  have hlen : u < (modSpl x u (fetchedSpl key refire more toks)).tiles.length := (modSpl_length x u _).symm ▸ hu
  have hat := tileAt_modSpl_same hu (fetchedSpl key refire more toks)
  cases more with
  | false =>
    obtain ⟨f, e, htile⟩ := settleSpill_tile hlen
    exact ⟨f, e, (tileAt x u).spl.moreQ, by rw [fetchAnswer_last hx, htile, hat]; rfl, fun _ => rfl⟩
  | true =>
    obtain ⟨-, l, htile⟩ := fetchMore_tile hlen
    exact ⟨(tileAt x u).spl.filter, (tileAt x u).endWaits, l, by rw [fetchAnswer_more hx, htile, hat]; rfl, fun h => absurd h.symm Bool.false_ne_true⟩

/-- A MORE is asked for later where the fetch buffer lacks room. -/
theorem fetchAnswer_waits (hx : o.unit = u) (hroom : fetchRoom (modSpl x u (fun z => { z with fetchBuf := z.fetchBuf ++ toks })) u = false) :
    (tileAt (fetchAnswer x o key refire toks true) u).spl.moreQ = (tileAt x u).spl.moreQ ++ [(key, refire)]
    ∧ (fetchAnswer x o key refire toks true).net = x.net := by
  rw [fetchAnswer_more hx, fetchMore_waits ((fetchRoom_fetched hu).trans hroom), tileAt_modSpl_same hu]
  exact ⟨rfl, rfl⟩

/-- With room the oldest MORE is asked for. -/
theorem fetchAnswer_asks {k : Nat} {r : Bool} {l : List (Nat × Bool)} (hx : o.unit = u)
    (hroom : fetchRoom (modSpl x u (fun z => { z with fetchBuf := z.fetchBuf ++ toks })) u = true)
    (hmore : (tileAt x u).spl.moreQ ++ [(key, refire)] = (k, r) :: l)
    (hopen : windowOpen x (rqId u 3) (bits k 59 56) (homeUnit x (bits k 59 56)) = true) :
    (tileAt (fetchAnswer x o key refire toks true) u).spl.moreQ = l ∧ ∃ tag, (fetchAnswer x o key refire toks true).net = x.net
      ++ [{ cls := 2, dest := homeUnit x (bits k 59 56), src := rqId u 3, part := bits k 59 56, tag := tag, body := .fetch k }] := by
  have hat := tileAt_modSpl_same hu (fetchedSpl key refire true toks)
  have hasked : (tileAt (modSpl x u (fetchedSpl key refire true toks)) u).spl.moreQ = (k, r) :: l := by
    rw [hat]
    exact hmore
  rw [fetchAnswer_more hx, fetchMore_sends hasked ((fetchRoom_fetched hu).trans hroom) hopen]
  refine ⟨?_, sendFetch_net (s := modSpl (modSpl x u _) u _) hopen⟩
  rw [tileAt_of_tiles (sendFetch_tiles _ _ _ _ _), tileAt_modSpl_same ((modSpl_length x u _).symm ▸ hu)]

end Answer

/-! ### A token of the fetch buffer (R307) -/

/-- The tile without the token `k` at the head of its fetch buffer. -/
def bufTaken (t : Tile) (r : List Token) : Tile := { t with spl := { t.spl with fetchBuf := r, spilled := t.spl.spilled - 1 } }

section Inject
variable {k : Token} {r : List Token} (hruns : tileRuns s u = true) (hbuf : (tileAt s u).spl.fetchBuf = k :: r)
include hruns hbuf

theorem fetchInject_queues (hlive : endedCtx (tileAt s u) (tagPart k.tag) (tagCtx k.tag) = false) (hroom : iqRoom (tileAt s u) = true) :
    fetchInject s u = settleEnds (settleFilter (fetchMore (setTile s u (noteHwm { bufTaken (tileAt s u) r with
      iq := (tileAt s u).iq ++ [⟨{ k with tag := BitVec.ofNat 64 (k.tag.toNat / 4 * 4 + 3) }, rqId u 3⟩] })) u) u) u := by
  unfold fetchInject
  dsimp only
  rw [hbuf]
  dsimp only
  rw [if_neg (by simp [hruns]), if_neg (by simp [hlive]), if_neg (by simp [hroom])]
  rfl

theorem fetchInject_discards (hended : endedCtx (tileAt s u) (tagPart k.tag) (tagCtx k.tag) = true) : fetchInject s u
    = settleEnds (settleFilter (fetchMore (setTile s u (countEnded (bufTaken (tileAt s u) r) (tagPart k.tag) (tagCtx k.tag))) u) u) u := by
  unfold fetchInject
  dsimp only
  rw [hbuf]
  dsimp only
  rw [if_neg (by simp [hruns]), if_pos hended]
  rfl

end Inject

/-- What follows an injection leaves of the tile that it has changed. -/
theorem settleInject {t : Tile} (hu : u < s.tiles.length) : ∃ f e l,
    tileAt (settleEnds (settleFilter (fetchMore (setTile s u t) u) u) u) u
      = { t with spl := { t.spl with filter := f, moreQ := l }, endWaits := e }
    ∧ (t.spl.fetchBuf ≠ [] → e = t.endWaits)
    ∧ (t.spl.moreQ = [] → t.endWaits = [] → (settleEnds (settleFilter (fetchMore (setTile s u t) u) u) u).net = s.net) := by
  have hu' : u < (setTile s u t).tiles.length := (setTile_length s u t).symm ▸ hu
  have hat := tileAt_setTile_same s u t hu
  obtain ⟨hlen, l, hmore⟩ := fetchMore_tile hu'
  obtain ⟨hlen', hnet, f, hfilter⟩ := settleFilter_tile (s := fetchMore (setTile s u t) u) (hlen.symm ▸ hu')
  obtain ⟨e, hends⟩ := settleEnds_tile (s := settleFilter (fetchMore (setTile s u t) u) u) ((hlen'.trans hlen).symm ▸ hu')
  rw [hmore, hat] at hfilter
  rw [hfilter] at hends
  refine ⟨f, e, l, hends, fun hbuf => ?_, fun hidle hnone => ?_⟩
  · have hwaits := settleEnds_waits (s := settleFilter (fetchMore (setTile s u t) u) u) (u := u) (by rw [hfilter]; exact hbuf)
    rw [hwaits, hfilter] at hends
    exact (congrArg Tile.endWaits hends).symm
  · rw [settleEnds_net (by rw [hfilter]; exact hnone), hnet, fetchMore_of_none (by rw [hat]; exact hidle), setTile_net]

/-- The acknowledgements that wait count it where one of them is its context's. -/
theorem countEnded_endWaits (t : Tile) (part ctx : Nat) : (countEnded t part ctx).endWaits
    = if t.endWaits.any (fun e => decide (e.part = part) && decide (e.ctx = ctx))
      then t.endWaits.map (fun e => if e.part = part ∧ e.ctx = ctx then { e with count := e.count + 1 } else e) else t.endWaits := by
  unfold countEnded
  split <;> rfl

/-- A discarded token is counted for its context's acknowledgement, whatever else the tile holds. -/
theorem countEnded_bufTaken (t : Tile) (r : List Token) (part ctx : Nat) : ∃ c, countEnded (bufTaken t r) part ctx
    = { bufTaken t r with endWaits := (countEnded t part ctx).endWaits, scan := c } := by
  have hends : (countEnded (bufTaken t r) part ctx).endWaits = (countEnded t part ctx).endWaits :=
    (countEnded_endWaits (bufTaken t r) part ctx).trans (countEnded_endWaits t part ctx).symm
  obtain ⟨e, c, hcount⟩ := countEnded_keeps (bufTaken t r) part ctx
  rw [← hends, hcount]
  exact ⟨c, rfl⟩

/-! ### The refire list and reclaim notices (R299, R309) -/

theorem refireFetch_sends {r : List Nat} (hruns : tileRuns s u = true) (hkeys : (tileAt s u).spl.refire = key :: r)
    (hpart : tilePart (tileAt s u) = some part)
    (hidle : ∀ o ∈ s.outs, o.unit = u → (∀ k, o.use ≠ .fetch k true) ∧ (∀ l, o.use ≠ .spill l true))
    (hmore : ∀ z ∈ (tileAt s u).spl.moreQ, z.2 = false) (hmark : (tileAt s u).fq.length ≤ (monitorAt s (standOf u)).refireMark)
    (hroom : fetchRoom s u = true)
    (hopen : windowOpen s (rqId u 3) part (homeUnit s part) = true) : refireFetch s u = sendFetch s u part key true := by
  have hlist : (tileAt s u).spl.moreQ.any Prod.snd = false := by simpa [List.any_eq_false] using hmore
  unfold refireFetch
  dsimp only
  rw [hkeys]
  dsimp only
  rw [hpart]
  dsimp only
  refine if_neg ?_
  simp only [hruns, hroom, hopen, hlist, decide_eq_false (Nat.not_lt.mpr hmark), Bool.not_true, Bool.false_or, Bool.or_false, List.any_eq_true]
  rintro ⟨o, ho, hbusy⟩
  obtain ⟨hmine, huse⟩ := (Bool.and_eq_true ..).mp hbusy
  obtain ⟨hfetch, hspill⟩ := hidle o ho (of_decide_eq_true hmine)
  split at huse
  · next hr => exact hfetch _ (huse ▸ hr)
  · next hr => exact hspill _ (huse ▸ hr)
  · cases huse

theorem reclaim_arrives {rq : Rq} {n : Nat} (hw : working s = true) (hu : u < 0x110) (ha : arrivable s (reqPkt u rq (.reclaim n)) = true) :
    reclaim s u rq n = settleFilter (modSpl (takePkt s (reqPkt u rq (.reclaim n))) (steer s u) (fun x => { x with spilled := x.spilled - n })) (steer s u) := by
  rw [reclaim, if_neg (by simp [hw, isTile, hu]), arriveReq_served _ ha]
  rfl

theorem settleFilter_other {v : Nat} (hv : v ≠ u) : tileAt (settleFilter s u) v = tileAt s v := by
  unfold settleFilter
  split
  · exact tileAt_modSpl_other hv _
  · rfl

/-- Answers of FETCHes, injected tokens, refire keys and reclaim notices. -/
theorem fetchBack : FetchBack := by
  refine ⟨fun s u src part tag key o refire more toks h huse => exec_fetchData h huse, fun x y u key o refire more toks hx hu hy => ?answer,
    fun s u k r hruns hbuf hu => ⟨fun hlive hroom => ?queues, fun hended => ?discards⟩,
    fun s u key part r hruns hkeys hpart hidle hmore hmark hroom hopen => ?refire, fun s u n rq hw htile ha hu => ?reclaim⟩
  case answer =>
    subst hy
    obtain ⟨f, e, l, htile, hl⟩ := fetchAnswer_tile hu hx (key := key) (refire := refire) (more := more) (toks := toks)
    refine ⟨by rw [htile]; rfl, by rw [htile], fun hlast => ?_, fun x1 hmore hx1 => ?_⟩
    · rw [htile, hl hlast]
      subst hlast
      simp [fetchedSpl]
    · subst hmore hx1
      exact ⟨fetchAnswer_waits hu hx, fun k r l hroom hasked hopen => fetchAnswer_asks hu hx hroom hasked hopen⟩
  case queues =>
    have hexec : exec (.fetchBufferInject u) s = .next (kept s (fetchInject s u)) := rfl
    have hiq : iqRoom (tileAt s u) = true := decide_eq_true hroom
    refine leaves_of_eq (by rw [hexec, fetchInject_queues hruns hbuf hlive hiq]) ?_
    obtain ⟨f, e, l, htile, -, hnet⟩ := settleInject hu (t := noteHwm { bufTaken (tileAt s u) r with
      iq := (tileAt s u).iq ++ [⟨{ k with tag := BitVec.ofNat 64 (k.tag.toNat / 4 * 4 + 3) }, rqId u 3⟩] })
    rw [tileAt_kept, htile]
    exact ⟨rfl, rfl, rfl, hnet⟩
  case discards =>
    have hexec : exec (.fetchBufferInject u) s = .next (kept s (fetchInject s u)) := rfl
    refine leaves_of_eq (by rw [hexec, fetchInject_discards hruns hbuf hended]) ?_
    obtain ⟨c, hcount⟩ := countEnded_bufTaken (tileAt s u) r (tagPart k.tag) (tagCtx k.tag)
    obtain ⟨f, e, l, htile, hends, -⟩ := settleInject hu (t := countEnded (bufTaken (tileAt s u) r) (tagPart k.tag) (tagCtx k.tag))
    rw [tileAt_kept, htile]
    rw [hcount] at hends ⊢
    exact ⟨rfl, rfl, rfl, hends⟩
  case refire =>
    have hexec : exec (.refireFetch u) s = .next (kept s (refireFetch s u)) := rfl
    refine leaves_of_eq (by rw [hexec, refireFetch_sends hruns hkeys hpart hidle hmore hmark hroom hopen]) ⟨?_, sendFetch_net hopen⟩
    exact sendFetch_tiles s u part key true
  case reclaim =>
    have hexec : exec (.reclaim u rq n) s = .next (kept s (Machine.reclaim s u rq n)) := rfl
    refine leaves_of_eq (by rw [hexec, reclaim_arrives hw htile ha]) ?_
    have hat := tileAt_modSpl_same (s := takePkt s (reqPkt u rq (.reclaim n))) hu (fun x => { x with spilled := x.spilled - n })
    obtain ⟨-, -, f, hfilter⟩ := settleFilter_tile (s := modSpl (takePkt s (reqPkt u rq (.reclaim n))) (steer s u) (fun x => { x with
      spilled := x.spilled - n })) (by rw [modSpl_length]; exact hu)
    rw [tileAt_kept, hfilter, hat]
    refine ⟨rfl, rfl, fun v hv => ?_⟩
    rw [tileAt_kept, settleFilter_other hv, tileAt_modSpl_other hv]
    rfl

end Sys2Proof.Machine
end

section
/-! PROOF. The orders of a monitor (R293 to R298): the victims of an eviction episode and their SPILLs, un-firing, and orders without effect. -/

namespace Sys2Proof.Machine

variable {s m : State} {u part : Nat}

/-! ### The spill filter (R304) -/

/-- A number that a set holds it holds on. -/
theorem NSet.has_add_of_has {x : NSet} {a : Nat} (h : NSet.has x a = true) (b : Nat) : NSet.has (NSet.add x b) a = true := by
  unfold NSet.has at h ⊢
  induction x with
  | nil => cases h
  | cons k t ih =>
    rw [NSet.add]
    split
    · exact h
    split
    · simp only [List.contains_cons, Bool.or_eq_true] at h ⊢
      exact .inr h
    · simp only [List.contains_cons, Bool.or_eq_true] at h ⊢
      exact h.imp_right ih

/-- The filter holds the bits of the keys for which they are set. -/
theorem has_foldl_filter (keys : List Nat) (x : NSet) :
    ∀ k ∈ keys, NSet.has (keys.foldl (fun f k => NSet.add f (filterIndex k)) x) (filterIndex k) = true := by
  have hkeeps (l : List Nat) (x : NSet) (a : Nat) (h : NSet.has x a = true) :
      NSet.has (l.foldl (fun f k => NSet.add f (filterIndex k)) x) a = true :=
    List.foldlRecOn l _ (motive := fun f => NSet.has f a = true) h (fun f hf k _ => NSet.has_add_of_has hf _)
  induction keys generalizing x with
  | nil => exact fun k hk => absurd hk List.not_mem_nil
  | cons a r ih =>
    intro k hk
    rcases List.mem_cons.mp hk with rfl | hk
    · exact hkeeps r _ _ (NSet.has_add x _)
    · exact ih _ k hk

/-! ### SPILLs leave (R296) -/

/-- A SPILL of `toks` from tile `u` is in the network, or waits for its tag window. -/
abbrev SpillLeft (t : State) (u dest part : Nat) (toks : List (Token × Nat)) : Prop :=
  (∃ tag, { cls := 2, dest := dest, src := rqId u 3, part := part, tag := tag, body := .spill toks } ∈ t.net)
  ∨ (∃ x ∈ t.sendWait, x.unit = u ∧ x.sub = 3 ∧ x.part = part ∧ x.body = .spill toks)

@[simp] theorem kept_sendWait (s t : State) : (kept s t).sendWait = t.sendWait := rfl

/-- A request that leaves takes nothing from the network, from the requests that wait, or from the home bridges. -/
theorem sendReq_grows (s : State) (o : OutReq) :
    (∀ p ∈ s.net, p ∈ (sendReq s o).net) ∧ (∀ x ∈ s.sendWait, x ∈ (sendReq s o).sendWait) ∧ (sendReq s o).homes = s.homes := by
  unfold sendReq
  split
  · exact ⟨fun _ h => h, fun _ h => List.mem_append_left _ h, rfl⟩
  · unfold sendNow
    split <;> exact ⟨fun _ h => List.mem_append_left _ h, fun _ h => h, rfl⟩

theorem sendReq_spill_left (o : OutReq) {toks : List (Token × Nat)} (hsub : o.sub = 3) (hbody : o.body = .spill toks) :
    SpillLeft (sendReq s o) o.unit o.target o.part toks := by
  cases hopen : windowOpen s (rqId o.unit o.sub) o.part o.target with
  | true =>
    refine .inl ⟨sendTag s o, ?_⟩
    rw [sendReq_net_of_open s (.inr hopen), hsub, hbody]
    exact List.mem_append_right _ (List.mem_singleton_self _)
  | false =>
    refine .inr ⟨o, ?_, rfl, hsub, rfl, hbody⟩
    rw [sendReq_of_closed s (by rw [hbody]; rfl) hopen]
    exact List.mem_append_right _ (List.mem_singleton_self _)

/-- The SPILL of up to four victims. -/
def spillOf (s : State) (u part : Nat) (four : List (Nat × MEntry)) : OutReq :=
  { unit := u, sub := 3, part := part, target := homeUnit s part, body := .spill (four.map (fun e => entryTok (tileAt s u) e.2))
    use := .spill (four.map Prod.fst) false }

theorem sendSpills_step (s : State) (u part : Nat) (e : Nat × MEntry) (l : List (Nat × MEntry)) (fuel : Nat) :
    sendSpills s u part (e :: l) (fuel + 1) = sendSpills (sendReq s (spillOf s u part ((e :: l).take 4))) u part ((e :: l).drop 4) fuel := rfl

theorem sendSpills_nil (s : State) (u part fuel : Nat) : sendSpills s u part [] fuel = s := by cases fuel <;> rfl

/-- SPILLs that leave change no tile, and take nothing from the network or from the requests that wait. -/
theorem sendSpills_grows (l : List (Nat × MEntry)) (fuel : Nat) (s : State) : (sendSpills s u part l fuel).tiles = s.tiles
    ∧ (∀ p ∈ s.net, p ∈ (sendSpills s u part l fuel).net) ∧ (∀ x ∈ s.sendWait, x ∈ (sendSpills s u part l fuel).sendWait) := by
  induction fuel generalizing s l with
  | zero => exact ⟨rfl, fun _ h => h, fun _ h => h⟩
  | succ k ih =>
    cases l with
    | nil => rw [sendSpills_nil]; exact ⟨rfl, fun _ h => h, fun _ h => h⟩
    | cons e l =>
      rw [sendSpills_step]
      obtain ⟨hnet, hwait, -⟩ := sendReq_grows s (spillOf s u part ((e :: l).take 4))
      obtain ⟨htiles, hnet', hwait'⟩ := ih ((e :: l).drop 4) (sendReq s (spillOf s u part ((e :: l).take 4)))
      exact ⟨htiles.trans (sendReq_tiles _ _), fun p hp => hnet' p (hnet p hp), fun x hx => hwait' x (hwait x hx)⟩

/-- The token of every victim leaves in a SPILL. -/
theorem sendSpills_left (l : List (Nat × MEntry)) (fuel : Nat) (s : State) (hfuel : l.length ≤ fuel) :
    ∀ e ∈ l, ∃ toks, entryTok (tileAt s u) e.2 ∈ toks ∧ SpillLeft (sendSpills s u part l fuel) u (homeUnit s part) part toks := by
  induction fuel generalizing s l with
  | zero => exact fun e he => absurd he (List.eq_nil_of_length_eq_zero (Nat.le_zero.mp hfuel) ▸ List.not_mem_nil)
  | succ k ih =>
    cases l with
    | nil => exact fun e he => absurd he List.not_mem_nil
    | cons a l =>
      intro e he
      rw [sendSpills_step]
      obtain ⟨-, hnet, hwait⟩ := sendSpills_grows (u := u) (part := part) ((a :: l).drop 4) k (sendReq s (spillOf s u part ((a :: l).take 4)))
      obtain ⟨-, -, hhomes⟩ := sendReq_grows s (spillOf s u part ((a :: l).take 4))
      rw [← List.take_append_drop 4 (a :: l), List.mem_append] at he
      rcases he with he | he
      · refine ⟨_, List.mem_map_of_mem (f := fun e => entryTok (tileAt s u) e.2) he, ?_⟩
        exact (sendReq_spill_left (spillOf s u part ((a :: l).take 4)) rfl rfl).imp
          (fun ⟨tag, h⟩ => ⟨tag, hnet _ h⟩) (fun ⟨x, h, hx⟩ => ⟨x, hwait _ h, hx⟩)
      · have hrest := ih ((a :: l).drop 4) (sendReq s (spillOf s u part ((a :: l).take 4))) (by simp at hfuel ⊢; omega) e he
        rwa [tileAt_of_tiles (sendReq_tiles _ _), homeUnit, hhomes] at hrest

/-! ### An order without effect (R294) -/

/-- A record of tile `u`'s hardware agent that is raised once for each continuous stall. -/
def raiseOnce (known : Bool) (m : State) (u kind part addr detail : Nat) : State :=
  if known then m else raise m kind (rqId u 3) (some part) addr detail

/-- An order without effect: its record is raised where it is new, `f` marks it raised, and the hold-off begins. -/
theorem fruitless_raiseOnce (known : Bool) (kind part addr detail : Nat) (f : Spl → Spl) (hu : u < m.tiles.length) {t : State}
    (ht : t = fruitless (modSpl (raiseOnce known m u kind part addr detail) u f) u) :
    tileAt t u = { tileAt m u with spl := { f (tileAt m u).spl with
      ordered := false, refused := false, holdOff := some (now m + 256 * (monitorAt m (standOf u)).retry) } }
    ∧ t.net = m.net ∧ (known = true → t.flt.inbox = m.flt.inbox)
    ∧ (known = false → t.flt.inbox = m.flt.inbox ++ [⟨now m % 2 ^ 64, faultHead kind (rqId u 3) (rqId u 3 / 4) (some part) none, addr, detail⟩]) := by
  subst ht
  have htile (x : State) (hx : u < x.tiles.length) : tileAt (fruitless (modSpl x u f) u) u = { tileAt x u with spl := { f (tileAt x u).spl with
      ordered := false, refused := false, holdOff := some (now x + 256 * (monitorAt x (standOf u)).retry) } } := by
    rw [fruitless_tile ((modSpl_length x u f).symm ▸ hx), tileAt_modSpl_same hx]
    rfl
  cases known with
  | true => exact ⟨htile m hu, rfl, fun _ => rfl, fun h => absurd h.symm Bool.false_ne_true⟩
  | false => exact ⟨htile (raise m kind (rqId u 3) (some part) addr detail) hu, rfl, fun h => absurd h Bool.false_ne_true, fun _ => rfl⟩

/-! ### An eviction episode (R295 to R297) -/

/-- The victims are marked PENDING and their filter bits are set, and an order is outstanding. -/
def victimsMarked (m : State) (u : Nat) (vs : List (Nat × MEntry)) : State :=
  modSpl (setFilter (modTile m u (fun t => vs.foldl (fun t e => modEntry t e.1 (fun y => { y with pending := true })) t)) u (vs.map (fun e => e.2.key))) u
    (fun x => { x with ordered := true, refused := false })

/-- The episode has found no victim, which is raised where it is not known. -/
def noVictim (m : State) (u : Nat) (h : QTok) (known : Bool) : State :=
  modSpl (raiseOnce known m u Kind.overspillNoVictim (tagPart h.tok.tag) (headSet h.tok.tag + 2 ^ 12 * stickyCount (tileAt m u)) h.tok.tag.toNat) u
    (fun x => { x with noVictim := true })

theorem exec_evictionEpisode (s : State) (u : Nat) : exec (.evictionEpisode u) s = .next (kept s (evictionEpisode s u)) := rfl

section Episode
variable {t0 : Nat} {h : QTok} {q : List QTok} (hmay : mayOrder s u = true) (hsince : (tileAt s u).spl.storeSince = some t0)
    (hiq : (tileAt s u).iq = h :: q) (hdue : t0 + (monitorAt s (standOf u)).storeThresh ≤ now s)
include hmay hsince hiq hdue

/-- An episode that is due looks for its victims. -/
theorem evictionEpisode_due : evictionEpisode s u = if (episodeVictims s u h).isEmpty
    then fruitless (noVictim (episodeState s u h) u h (tileAt s u).spl.noVictim) u
    else sendSpills (victimsMarked (episodeState s u h) u (episodeVictims s u h)) u (tagPart h.tok.tag) (episodeVictims s u h)
      (episodeVictims s u h).length := by
  unfold evictionEpisode
  dsimp only
  rw [hsince, hiq]
  dsimp only
  rw [if_neg (by simp [hmay, hdue])]
  rfl

end Episode

/-- What an episode has changed before it looks for victims: the counters of its monitor and tile, and entries with stored errors. -/
theorem episodeState_keeps (h : QTok) (hu : u < s.tiles.length) : (episodeState s u h).tiles.length = s.tiles.length
    ∧ (episodeState s u h).net = s.net ∧ (episodeState s u h).homes = s.homes ∧ now (episodeState s u h) = now s
    ∧ (monitorAt (episodeState s u h) (standOf u)).retry = (monitorAt s (standOf u)).retry
    ∧ ∀ v, v ≠ u → tileAt (episodeState s u h) v = tileAt s v := by
  have hlen (k : Monitor) (f : Spl → Spl) : (modSpl (setMonitor s (standOf u) k) u f).tiles.length = s.tiles.length := modSpl_length _ u f
  have hmet : MetErrors _ u (episodeState s u h) := meetLookup_met _ u (headSet h.tok.tag) (headSet h.tok.tag) ((hlen _ _).symm ▸ hu)
  have hother (v : Nat) (hv : v ≠ u) : tileAt (episodeState s u h) v = tileAt s v := by rw [hmet.other hv, tileAt_modSpl_other hv]; rfl
  refine ⟨hmet.length.trans (hlen _ _), hmet.net, ?_⟩
  obtain ⟨st, ov, fl, hm⟩ := hmet
  refine ⟨by rw [hm]; rfl, by rw [hm]; rfl, ?_, hother⟩
  rw [hm]
  exact monitorAt_setMonitor_retry rfl

theorem victimsMarked_tile (vs : List (Nat × MEntry)) (hu : u < m.tiles.length) : tileAt (victimsMarked m u vs) u
    = { vs.foldl (fun t e => modEntry t e.1 (fun y => { y with pending := true })) (tileAt m u) with spl := { (tileAt m u).spl with
        filter := (vs.map (fun e => e.2.key)).foldl (fun f k => NSet.add f (filterIndex k)) (tileAt m u).spl.filter
        ordered := true, refused := false } } := by
  obtain ⟨st, ov, hmarked⟩ := foldl_modEntry_stored Prod.fst (fun y => { y with pending := true }) vs (tileAt m u)
  simp only [victimsMarked, setFilter, modSpl, modTile, setTile_length, tileAt_setTile_same, hu, hmarked]

theorem victimsMarked_other (vs : List (Nat × MEntry)) {v : Nat} (hv : v ≠ u) : tileAt (victimsMarked m u vs) v = tileAt m v := by
  rw [victimsMarked, tileAt_modSpl_other hv, setFilter, tileAt_modSpl_other hv, tileAt_modTile_other _ _ _ _ (Ne.symm hv)]

/-- What an episode leaves of its tile and of its victims. -/
theorem sendSpills_marked {dest : Nat} (vs : List (Nat × MEntry)) (hu : u < m.tiles.length) {t : State} (hdest : homeUnit m part = dest)
    (ht : t = sendSpills (victimsMarked m u vs) u part vs vs.length) :
    (tileAt t u).spl.ordered = true ∧ (tileAt t u).iq = (tileAt m u).iq ∧ (∀ v, v ≠ u → tileAt t v = tileAt m v)
    ∧ ∀ e ∈ vs, NSet.has (tileAt t u).spl.filter (filterIndex e.2.key) = true ∧ (entryAt (tileAt t u) e.1).pending = true
      ∧ ∃ toks, entryTok (tileAt m u) e.2 ∈ toks ∧ SpillLeft t u dest part toks := by
  obtain ⟨htiles, -, -⟩ := sendSpills_grows (u := u) (part := part) vs vs.length (victimsMarked m u vs)
  rw [← ht] at htiles
  have htile := (tileAt_of_tiles htiles u).trans (victimsMarked_tile vs hu)
  obtain ⟨st, ov, hmarked⟩ := foldl_modEntry_stored Prod.fst (fun y => { y with pending := true }) vs (tileAt m u)
  have hpending := entryAt_foldl_modEntry (P := fun e => e.pending = true) (f := fun y => { y with pending := true }) Prod.fst (fun _ => rfl) vs (tileAt m u)
  rw [hmarked] at htile hpending
  have hentry (e : MEntry) : entryTok (tileAt (victimsMarked m u vs) u) e = entryTok (tileAt m u) e := by
    rw [← tileAt_of_tiles htiles u, htile]
    rfl
  have hleft := sendSpills_left (u := u) (part := part) vs vs.length (victimsMarked m u vs) le_rfl
  refine ⟨by rw [htile], by rw [htile], fun v hv => (tileAt_of_tiles htiles v).trans (victimsMarked_other vs hv), fun e he => ⟨?_, ?_, ?_⟩⟩
  · rw [htile]
    exact has_foldl_filter (vs.map (fun e => e.2.key)) _ _ (List.mem_map_of_mem he)
  · rw [htile]
    exact hpending e he
  · obtain ⟨toks, hmem, hsent⟩ := hleft e he
    rw [hentry] at hmem
    subst ht hdest
    exact ⟨toks, hmem, hsent⟩

/-! ### An un-firing (R298) -/

/-- An un-firing that is due is counted. -/
def unfireDue (s : State) (u : Nat) : State :=
  modSpl (setMonitor s (standOf u) { monitorAt s (standOf u) with unfires := ((monitorAt s (standOf u)).unfires + 1) % 2 ^ 16 }) u
    (fun x => { x with fireSince := some (now s) })

/-- The refire list is full, which is raised where it is not known. -/
def refireFull (s : State) (u : Nat) (e : FireEntry) : State :=
  modSpl (raiseOnce (tileAt s u).spl.fullRaised (unfireDue s u) u Kind.refireListFull (tagPart e.tag) (2 ^ 12 * stickyCount (tileAt s u)) e.tag.toNat) u
    (fun x => { x with fullRaised := true })

/-- The key of the held entry is kept for its fetch back, and an order is outstanding. -/
def unfireOrdered (s : State) (u : Nat) (e : FireEntry) : State :=
  modSpl (setFilter (unfireDue s u) u [instKey e.tag]) u (fun x => { x with
    refire := x.refire ++ [instKey e.tag], ordered := true, unfiring := true, refused := false })

/-- The SPILL of the held entry's normal tokens. -/
def unfireSpill (s : State) (u : Nat) (e : FireEntry) : OutReq :=
  { unit := u, sub := 3, part := tagPart e.tag, target := homeUnit s (tagPart e.tag), body := .spill (heldToks (tileAt s u) e), use := .spill [] true }

theorem unfire_due {t0 : Nat} {e : FireEntry} (hmay : mayOrder s u = true) (hsince : (tileAt s u).spl.fireSince = some t0)
    (hheld : (tileAt s u).held = some e) (hdue : t0 + (monitorAt s (standOf u)).fireThresh ≤ now s) :
    unfire s u = if 64 ≤ (tileAt s u).spl.refire.length then fruitless (refireFull s u e) u
      else sendReq (unfireOrdered s u e) (unfireSpill s u e) := by
  unfold unfire
  dsimp only
  rw [hsince, hheld]
  dsimp only
  rw [if_neg (by simp [hmay, hdue])]
  rfl

theorem unfireDue_tile (hu : u < s.tiles.length) :
    tileAt (unfireDue s u) u = { tileAt s u with spl := { (tileAt s u).spl with fireSince := some (now s) } } := tileAt_modSpl_same (s := setMonitor s _ _) hu _

theorem unfireDue_length (s : State) (u : Nat) : (unfireDue s u).tiles.length = s.tiles.length := modSpl_length _ u _

theorem unfireOrdered_tile (e : FireEntry) (hu : u < s.tiles.length) : tileAt (unfireOrdered s u e) u = { tileAt s u with spl := { (tileAt s u).spl with
    fireSince := some (now s), filter := NSet.add (tileAt s u).spl.filter (filterIndex (instKey e.tag))
    refire := (tileAt s u).spl.refire ++ [instKey e.tag], ordered := true, unfiring := true, refused := false } } := by
  have hlen : u < (unfireDue s u).tiles.length := (unfireDue_length s u).symm ▸ hu
  rw [unfireOrdered, setFilter, tileAt_modSpl_same ((modSpl_length _ u _).symm ▸ hlen), tileAt_modSpl_same hlen, unfireDue_tile hu]
  rfl

/-! ### The hold-off (R294) -/

theorem holdOffEnd_due {d : Nat} (hw : working s = true) (hd : (tileAt s u).spl.holdOff = some d) (hdue : d ≤ now s) :
    holdOffEnd s u = modSpl s u (fun x => { x with holdOff := none }) := by
  unfold holdOffEnd
  rw [hd]
  exact if_pos (by simp [hw, hdue])

/-! ### The statement -/

/-- Orders of a monitor: with victims and without, an un-firing and one without room, and the end of the hold-off. -/
theorem evictions : Evictions := by
  refine ⟨fun s m u t0 h q vs hmay hsince hiq hdue hu hm hvs => ⟨fun hsome => ?evicts, fun hnone => ?fruitless⟩,
    fun s u t0 e hmay hsince hheld hdue hu => ⟨fun hroom => ?unfires, fun hfull => ?full⟩, fun s u d hw hd hdue => ?holdOff⟩
  case evicts =>
    subst hm hvs
    obtain ⟨hlen, -, hhomes, -, -, hother⟩ := episodeState_keeps h hu
    have hepisode := evictionEpisode_due hmay hsince hiq hdue
    rw [if_neg (by simpa using hsome)] at hepisode
    refine leaves_of_eq (by rw [exec_evictionEpisode, hepisode]) ?_
    obtain ⟨hordered, hiq', hothers, hvictims⟩ := sendSpills_marked (dest := homeUnit s (tagPart h.tok.tag)) (episodeVictims s u h)
      (hlen.symm ▸ hu : u < (episodeState s u h).tiles.length) (by rw [homeUnit, hhomes, homeUnit]) rfl
    simp only [tileAt_kept, kept_net, kept_sendWait]
    refine ⟨hordered, hiq', fun v hv => (hothers v hv).trans (hother v hv), fun e he => ?_⟩
    obtain ⟨hfilter, hpending, hsent⟩ := hvictims e he
    exact ⟨hfilter, fun hi => (congrArg MEntry.pending (entryAt_store _ hi)).symm.trans hpending,
      fun hi => (congrArg MEntry.pending (entryAt_ovf _ hi)).symm.trans hpending, hsent⟩
  case fruitless =>
    subst hm hvs
    obtain ⟨hlen, hnet, -, hnow, hretry, -⟩ := episodeState_keeps h hu
    have hepisode := evictionEpisode_due hmay hsince hiq hdue
    rw [if_pos (by simpa using hnone)] at hepisode
    refine leaves_of_eq (by rw [exec_evictionEpisode, hepisode]) ?_
    obtain ⟨htile, hsame, hknown, hnew⟩ := fruitless_raiseOnce (tileAt s u).spl.noVictim Kind.overspillNoVictim (tagPart h.tok.tag)
      (headSet h.tok.tag + 2 ^ 12 * stickyCount (tileAt (episodeState s u h) u)) h.tok.tag.toNat (fun x => { x with noVictim := true })
      (hlen.symm ▸ hu : u < (episodeState s u h).tiles.length) rfl
    rw [hnow] at htile hnew
    rw [hretry] at htile
    rw [tileAt_kept, noVictim, htile]
    exact ⟨rfl, rfl, hsame.trans hnet, rfl, hknown, hnew⟩
  case unfires =>
    have hexec : exec (.unfire u) s = .next (kept s (Machine.unfire s u)) := rfl
    refine leaves_of_eq (by rw [hexec, unfire_due hmay hsince hheld hdue, if_neg (Nat.not_le.mpr hroom)]) ?_
    have htile := (tileAt_of_tiles (sendReq_tiles (unfireOrdered s u e) (unfireSpill s u e)) u).trans (unfireOrdered_tile e hu)
    rw [tileAt_kept, htile]
    refine ⟨rfl, rfl, rfl, hheld, NSet.has_add _ _, fun hopen => ?_, fun hclosed => ?_⟩
    · exact ⟨_, sendReq_net_of_open (unfireOrdered s u e) (o := unfireSpill s u e) (.inr hopen)⟩
    · rw [sendReq_of_closed (unfireOrdered s u e) (o := unfireSpill s u e) rfl hclosed]
      exact ⟨rfl, _, rfl, rfl, rfl⟩
  case full =>
    have hexec : exec (.unfire u) s = .next (kept s (Machine.unfire s u)) := rfl
    refine leaves_of_eq (by rw [hexec, unfire_due hmay hsince hheld hdue, if_pos hfull]) ?_
    obtain ⟨htile, hsame, -, hnew⟩ := fruitless_raiseOnce (tileAt s u).spl.fullRaised Kind.refireListFull (tagPart e.tag)
      (2 ^ 12 * stickyCount (tileAt s u)) e.tag.toNat (fun x => { x with fullRaised := true })
      ((unfireDue_length s u).symm ▸ hu : u < (unfireDue s u).tiles.length) rfl
    have hretry : (monitorAt (unfireDue s u) (standOf u)).retry = (monitorAt s (standOf u)).retry := monitorAt_setMonitor_retry rfl
    rw [unfireDue_tile hu, hretry] at htile
    rw [tileAt_kept, refireFull, htile]
    exact ⟨rfl, rfl, hheld, hsame, rfl, hnew⟩
  case holdOff =>
    have hexec : exec (.monitorHoldOffEnd u) s = .next (kept s (holdOffEnd s u)) := rfl
    rw [hexec, holdOffEnd_due hw hd hdue]
    rfl

/-- Settles O42: the orders of a monitor, the answers of SPILLs, and the tokens that are fetched back. -/
theorem overspillOfTiles : Obligations.OverspillOfTiles := ⟨evictions, spillAnswers, fetchBack⟩

end Sys2Proof.Machine
end

section
/-! PROOF. End-to-end timers (R340, R341): a request whose timer has expired is repeated or abandoned, and how its operation then ends. -/

namespace Sys2Proof.Machine

variable {s : State} {o : OutReq} {unit sub part target tag : Nat}

/-- Whether the timer of a request has expired. -/
def timerDue (s : State) (unit : Nat) (o : OutReq) : Bool :=
  match o.timer with
  | some t => decide (t ≤ unitNow s unit)
  | none => false

/-- What becomes of a request whose timer has expired. -/
theorem requestTimer_of_due (hrun : unitRuns s unit = true) (hdue : outAtTag s unit sub part target tag (timerDue s unit) = some o) :
    requestTimer s unit sub part target tag = if (!(neverOp o.body) && (o.waited || decide (o.repeats < s.noc.repeats))) = true
      then resend s o (fun o => if o.waited then o else { o with repeats := o.repeats + 1 })
      else flushWait (abandonReq { s with outs := s.outs.erase o } o false) := by
  have heq : requestTimer s unit sub part target tag = (match outAtTag s unit sub part target tag (timerDue s unit) with
    | none => s
    | some o =>
      if !(unitRuns s unit) then s
      else if !(neverOp o.body) && (o.waited || decide (o.repeats < s.noc.repeats)) then
        resend s o (fun o => if o.waited then o else { o with repeats := o.repeats + 1 })
      else flushWait (abandonReq { s with outs := s.outs.erase o } o false)) := rfl
  rw [heq, hdue]
  exact if_neg (by rw [hrun]; exact Bool.false_ne_true)

/-- A repeat notes what it notes of the request itself, with its timer restarted. -/
theorem resend_eq_sentAgain {f g : OutReq → OutReq} (h : f { o with timer := some (unitNow s o.unit + e2eLimit s) }
    = g { o with timer := some (unitNow s o.unit + e2eLimit s) }) : resend s o f = sentAgain s o g := by
  have hmap : s.outs.map (fun x => if x = o then f { x with timer := some (unitNow s o.unit + e2eLimit s) } else x)
      = s.outs.map (fun x => if x = o then g { x with timer := some (unitNow s o.unit + 256 * s.noc.timeout) } else x) := by
    refine List.map_congr_left fun x _ => ?_
    split
    · next hx => rw [hx]; exact h
    · rfl
  rw [resend, hmap]
  rfl

/-- The state in which an abandoned request is counted. -/
abbrev timeoutCounted (s : State) : State := { s with noc := { s.noc with e2eTimeouts := (s.noc.e2eTimeouts + 1) % 2 ^ 16 } }

/-- The end of an operation of node code that waits for a result. -/
theorem abandonReq_result {rd : Nat} (huse : o.use = .result rd ∨ (∃ b, o.use = .spawn rd b) ∨ o.use = .take rd) (r6 : Bool) :
    abandonReq s o r6 = unblock (raiseMsg (timeoutCounted s) (timeoutMsg s o r6)) o rd (resultWord true 0 0x0B) := by
  rcases huse with huse | ⟨b, huse⟩ | huse <;> simp only [abandonReq, abandonUse, huse] <;> rfl

/-- The end of a load, store or AADD. -/
theorem abandonReq_memory (huse : o.use.memory = true) (r6 : Bool) :
    abandonReq s o r6 = memFailBy (timeoutCounted s) o (fun t orphan => e2eRaise t o r6 orphan) := by
  rw [abandonReq, abandonUse]
  unfold Use.memory at huse
  split at huse
  · next h => simp only [h]
  · next h => simp only [h]
  · next h => simp only [h]
  · cases huse

/-- A placement read is asked again. -/
theorem abandonReq_fill {vt : Nat} (huse : o.use = .fill vt) (r6 : Bool) :
    abandonReq s o r6 = reaskPlace (raiseMsg (timeoutCounted s) (timeoutMsg s o r6)) o vt := by
  simp only [abandonReq, abandonUse, huse]
  rfl

/-- A memory request whose node still runs ends it, whatever record it makes. -/
theorem memFailBy_running {rec : State → Option Nat → State} (hrun : issuerRuns s o = true) (hrec : (rec s (some 0)).tiles = s.tiles)
    (hu : o.unit < s.tiles.length) : (tileAt (memFailBy s o rec) o.unit).thread.running = false
      ∧ (tileAt (memFailBy s o rec) o.unit).thread.abandoned = ((tileAt s o.unit).thread.abandoned + 1) % 2 ^ 32 := by
  rw [memFailBy, if_pos hrun, modThread_tile _ (by rw [hrec]; exact hu), tileAt_of_tiles hrec]
  exact ⟨rfl, rfl⟩

theorem requestTimers : RequestTimers := by
  refine ⟨fun s unit sub part target tag o hrun _ hdue => ⟨fun hnever hwaited hrep => ?again, fun hnever hwaited => ?waited, fun hend => ?abandoned⟩,
    fun s x o r6 hx => ⟨fun rd huse => ?result, fun huse hrun => ?ended, fun huse hrun hu => ?running, fun vt huse => ?fill⟩⟩
  case again =>
    have h := requestTimer_of_due hrun hdue
    rw [if_pos (by simp [hnever, hrep]), resend_eq_sentAgain (g := fun o => { o with repeats := o.repeats + 1 }) (by simp [hwaited])] at h
    exact congrArg (fun t => Host.Outcome.next (kept s t)) h
  case waited =>
    have h := requestTimer_of_due hrun hdue
    rw [if_pos (by simp [hnever, hwaited]), resend_eq_sentAgain (g := fun o => o) (by simp [hwaited])] at h
    exact congrArg (fun t => Host.Outcome.next (kept s t)) h
  case abandoned =>
    have h := requestTimer_of_due hrun hdue
    rw [if_neg (by
      rcases hend with h | ⟨hwaited, hrep⟩
      · simp [h]
      · simp [hwaited, Nat.not_lt.mpr hrep])] at h
    exact congrArg (fun t => Host.Outcome.next (kept s t)) h
  case result => rw [hx, abandonReq_result huse]
  case ended =>
    rw [hx, abandonReq_memory huse, memFailBy, if_neg (by rw [show issuerRuns (timeoutCounted s) o = issuerRuns s o from rfl, hrun]; exact Bool.false_ne_true)]
    rfl
  case running =>
    rw [abandonReq_memory huse]
    exact memFailBy_running (s := timeoutCounted s) hrun rfl hu
  case fill => rw [hx, abandonReq_fill huse]

end Sys2Proof.Machine
end

section
/-! PROOF. Token acknowledgements (R588): what a sender keeps of the packets that it has sent, at a tile and at the release gate. -/

namespace Sys2Proof.Machine

variable {s : State} {u src part n : Nat}

/-- Elements taken out of a list that holds them in order leave it shorter by as many. -/
theorem length_foldl_erase {α : Type} [BEq α] [LawfulBEq α] {m l : List α} (h : m.Sublist l) :
    (m.foldl (fun l x => l.erase x) l).length + m.length = l.length := by
  have hperm := (List.subperm_append_diff_self_of_count_le (fun x _ => h.count_le x)).length_eq
  have hdiff : m.foldl (fun l x => l.erase x) l = l.diff m := (List.diff_eq_foldl l m).symm
  rw [List.length_append] at hperm
  rw [hdiff]
  omega

theorem mem_of_mem_foldl_erase {α : Type} [BEq α] [LawfulBEq α] {m l : List α} {a : α} (h : a ∈ m.foldl (fun l x => l.erase x) l) : a ∈ l := by
  have hdiff : m.foldl (fun l x => l.erase x) l = l.diff m := (List.diff_eq_foldl l m).symm
  rw [hdiff] at h
  exact List.diff_subset _ _ h

/-- The oldest `n` elements that are chosen leave a list: their number. -/
theorem length_foldl_erase_take {α : Type} [BEq α] [LawfulBEq α] (l : List α) (p : α → Bool) (n : Nat) :
    (((l.filter p).take n).foldl (fun l x => l.erase x) l).length + min n (l.filter p).length = l.length := by
  rw [← List.length_take]
  exact length_foldl_erase ((List.take_sublist n _).trans List.filter_sublist)

/-- A fault message that is raised is the newest of the collector's inbox, names its kind and carries its detail. -/
theorem raise_message (s : State) (kind reporter : Nat) (part : Option Nat) (addr detail : Nat) :
    ∃ m, (raise s kind reporter part addr detail).flt.inbox = s.flt.inbox ++ [m] ∧ m.head % 1024 = kind % 1024 ∧ m.detail = detail :=
  ⟨_, congrArg (fun x => x.flt.inbox) (raise_spec s kind reporter part addr detail), faultHead_kind kind reporter (reporter / 4) part none, rfl⟩

/-! ### The release gate -/

theorem foldl_askContextRelease_trl (l : List (Nat × Nat × Nat)) (s : State) :
    (l.foldl (fun s x => askContextRelease s x.2.1 x.2.2) s).trl = s.trl := by
  induction l generalizing s with
  | nil => rfl
  | cons x l ih =>
    obtain ⟨_, _, _, _, _, h, -⟩ := sendReq_touches s { unit := 0x301, part := x.2.1, target := 0x303, body := .ctxRelease x.2.2, use := .other }
    rw [List.foldl_cons, ih, askContextRelease, h]

/-- Context releases that are due leave the gate alone. -/
theorem contextsDue_trl (s : State) : (contextsDue s).trl = s.trl := by
  rw [contextsDue]
  split
  · rfl
  · exact foldl_askContextRelease_trl _ _

theorem gateAckAll_empties (s : State) : (gateAckAll s).trl.acks = [] ∧ (gateAckAll s).trl.ackTimer = none := by
  rw [gateAckAll, contextsDue_trl]
  exact ⟨rfl, rfl⟩

theorem gateAck_accepts (s : State) (u n : Nat) :
    (gateAck s u n).trl.acks.length + min n (s.trl.acks.filter (fun x => decide (steer s x.1.dest = u))).length = s.trl.acks.length := by
  rw [gateAck, contextsDue_trl]
  exact length_foldl_erase_take s.trl.acks (fun x => decide (steer s x.1.dest = u)) n

/-! ### TOKEN_ACK arrives -/

/-- A TOKEN_ACK packet. -/
abbrev ackPkt (u src part n : Nat) : Packet := { cls := 0, dest := u, src := src, part := part, tag := 0, body := .tokenAck n }

/-- The packets of a tile that stay unacknowledged when tile `v` accepts `n` of them. -/
abbrev unacked (s : State) (u v n : Nat) : List Packet :=
  (((tileAt s u).ackPend.filter (fun q => decide (steer s q.dest = v) || decide (q.dest = v))).take n).foldl (fun l x => l.erase x) (tileAt s u).ackPend

/-- The tile whose packets tile `v` has accepted. -/
abbrev acknowledged (s : State) (u v n : Nat) : Tile := { tileAt s u with
  ackPend := unacked s u v n
  ackTimer := if (unacked s u v n).isEmpty then none else some (tileNow s + e2eLimit s) }

theorem exec_tokenAck (s : State) (u src part n : Nat) : exec (.tokenAck u src part n) s = .next (kept s (tokenAckArrival s u src part n)) := rfl

section Arrival
variable (h : MgmtReaches s (ackPkt u src part n))
include h

theorem mgmt_reaches : ¬(!(clocked s && isUnit u && arrivable s (ackPkt u src part n))) = true := by
  obtain ⟨hc, hunit, ha⟩ := h
  rw [hc, hunit, ha]
  exact Bool.false_ne_true

/-- At a tile. -/
theorem tokenAckArrival_tile (hu : u < 0x110) :
    tokenAckArrival s u src part n = setTile (takePkt s (ackPkt u src part n)) u (acknowledged s u (src / 4) n) := by
  have hgate : u ≠ 0x305 := by omega
  refine (if_neg (mgmt_reaches h)).trans ((if_neg ?_).trans (if_neg hgate))
  rw [(isUnit_of_tile hu).2]
  exact Bool.false_ne_true

/-- At the release gate. -/
theorem tokenAckArrival_gate (hu : u = 0x305) : tokenAckArrival s u src part n = gateAck (takePkt s (ackPkt u src part n)) (src / 4) n := by
  refine (if_neg (mgmt_reaches h)).trans ((if_neg ?_).trans (if_pos hu))
  rw [hu]
  exact Bool.false_ne_true

/-- At any other unit. -/
theorem tokenAckArrival_other (htile : 0x110 ≤ u) (hgate : u ≠ 0x305) : tokenAckArrival s u src part n = dropPkt s u (ackPkt u src part n) := by
  refine (if_neg (mgmt_reaches h)).trans (if_pos ?_)
  simp [isTile, Nat.not_lt.mpr htile, hgate]

end Arrival

/-! ### The sender's timer -/

theorem exec_ackTimer (s : State) (u : Nat) : exec (.e2eTimerExpiry u .tokenAck) s = .next (kept s (ackTimer s u)) := rfl

/-- The timer of a tile has expired. -/
theorem ackTimer_tile {x : Nat} {p : Packet} {l : List Packet} (hu : u < 0x110) (hrun : tileRuns s u = true) (hpend : (tileAt s u).ackPend = p :: l)
    (htimer : (tileAt s u).ackTimer = some x) (hdue : x ≤ tileNow s) : ackTimer s u
      = modTile (raise s Kind.e2eTimeout (rqId u 0) (some p.part) (p.dest % 2 ^ 12 + 2 ^ 18) (packetHeader p)) u
        (fun t => { t with ackPend := [], ackTimer := none }) := by
  have hgate : u ≠ 0x305 := by omega
  simp only [ackTimer, hgate, hpend, htimer, hrun, hdue, if_false, if_true, decide_true, Bool.and_self]

/-- The gate's timer has expired. -/
theorem ackTimer_gate {x : Nat} {p : Packet × Nat} {l : List (Packet × Nat)} (hw : working s = true) (hacks : s.trl.acks = p :: l)
    (htimer : s.trl.ackTimer = some x) (hdue : x ≤ now s) : ackTimer s 0x305
      = gateAckAll (raise s Kind.e2eTimeout (rqId 0x305 0) (some p.1.part) (p.1.dest % 2 ^ 12 + 2 ^ 18) (packetHeader p.1)) := by
  simp only [ackTimer, hacks, htimer, hw, hdue, if_true, decide_true, Bool.and_self]

theorem tokenAcks : TokenAcks := by
  refine ⟨fun s u src part n p hp h => ?arrives, fun s u x p l hu hrun hpend htimer hdue hlen => ?tile, fun s x p l hw hacks htimer hdue => ?gate,
    fun s u n => ⟨(gateAckAll_empties s).1, (gateAckAll_empties s).2, gateAck_accepts s u n⟩⟩
  case arrives =>
    subst hp
    refine ⟨fun hu hlen => leaves_of_eq (by rw [exec_tokenAck, tokenAckArrival_tile h hu]) ?_, fun hu => ?_, fun htile hgate => ?_⟩
    · rw [tileAt_kept, tileAt_setTile_same (takePkt s _) u _ hlen]
      refine ⟨fun q hq => mem_of_mem_foldl_erase hq, length_foldl_erase_take _ _ n, ?_, rfl, rfl⟩
      simp only [List.isEmpty_iff]
    · rw [exec_tokenAck, tokenAckArrival_gate h hu]
    · rw [exec_tokenAck, tokenAckArrival_other h htile hgate]
  case tile =>
    refine leaves_of_eq (by rw [exec_ackTimer, ackTimer_tile hu hrun hpend htimer hdue]) ?_
    rw [tileAt_kept, tileAt_modTile_same (raise s _ _ _ _ _) u _ hlen]
    exact ⟨rfl, rfl, rfl, raise_message ..⟩
  case gate => rw [exec_ackTimer, ackTimer_gate hw hacks htimer hdue]

end Sys2Proof.Machine
end

section
/-! PROOF. Purges (R342, R345): what a target and a requester make of a purge, and the requests that waited for its end. -/

namespace Sys2Proof.Machine

variable {s : State} {target src rq part unit : Nat}

theorem exec_replayPurge (s : State) (target src rq part : Nat) :
    exec (.replayPurge target src rq part) s = .next (kept s (replayPurge s target src rq part)) := rfl

theorem exec_replayPurgeAck (s : State) (unit target rq part : Nat) :
    exec (.replayPurgeAck unit target rq part) s = .next (kept s (replayPurgeAck s unit target rq part)) := rfl

/-- Whether an entry is one that the purge removes. -/
abbrev purged (target rq part : Nat) (e : Replay) : Bool := decide (e.target = target) && decide (e.src = rq) && decide (e.part = part)

section Purge
variable {p : Packet} (hp : p = { cls := 0, dest := target, src := src, part := part, tag := 0, body := .replayPurge rq part }) (h : MgmtReaches s p)
include hp h

theorem purge_reaches : ¬(!(clocked s && isUnit target && arrivable s
    { cls := 0, dest := target, src := src, part := part, tag := 0, body := .replayPurge rq part })) = true := by
  subst hp
  obtain ⟨hc, hunit, ha⟩ := h
  rw [hc, hunit, ha]
  exact Bool.false_ne_true

/-- A replay-cache target removes the entries and acknowledges. -/
theorem replayPurge_target (ht : target ∈ replayTargets) : replayPurge s target src rq part
    = sendMgmt { takePkt s p with replays := s.replays.filter (fun e => !(purged target rq part e)) } (rqId target 0) (src / 4) part 0
      (.replayPurgeAck rq part) := by
  have hserves : ¬(!(replayTargets.contains target)) = true := by simp [ht]
  subst hp
  exact (if_neg (purge_reaches rfl h)).trans (if_neg hserves)

/-- Another unit drops the purge. -/
theorem replayPurge_other (ht : target ∉ replayTargets) : replayPurge s target src rq part = dropPkt s target p := by
  have hserves : (!(replayTargets.contains target)) = true := by simp [ht]
  subst hp
  exact (if_neg (purge_reaches rfl h)).trans (if_pos hserves)

end Purge

/-- The requester notes an acknowledgement. -/
theorem replayPurgeAck_noted {p : Packet} (hp : p = { cls := 0, dest := unit, src := rqId target 0, part := part, tag := 0, body := .replayPurgeAck rq part })
    (hc : clocked s = true) (ha : arrivable s p = true) {x : State} (hx : x = { takePkt s p with purges := (s.purges.map (fun q =>
      if q.src = rq ∧ q.part = part then { q with await := q.await.erase target } else q)).filter (fun q => !q.await.isEmpty) }) :
    replayPurgeAck s unit target rq part = if inSafe s then x else flushWait x := by
  subst hp hx
  refine if_neg ?_
  rw [hc, ha]
  exact Bool.false_ne_true

/-- The one request that waits is tried again. -/
theorem flushWait_of_one {o : OutReq} (h : s.sendWait = [o]) : flushWait s = sendReq { s with sendWait := [] } o := by rw [flushWait, h]; rfl

theorem purges : Purges := by
  refine ⟨fun s target src rq part p hp h => ⟨fun ht => ?target, fun ht => ?other⟩, fun s x unit target rq part p hp hc ha hx => ⟨fun hs => ?safe, fun hs => ?ends⟩,
    fun s => ⟨flushWait_of_empty, fun o ho hcached => ⟨fun hopen => ?opened, fun hclosed => ?closed⟩⟩⟩
  case target =>
    refine leaves_of_eq (by rw [exec_replayPurge, replayPurge_target hp h ht]) ⟨?_, ?_, rfl⟩
    · intro e he htarget hsrc hpart
      have hstays := (List.mem_filter.mp he).2
      simp [htarget, hsrc, hpart] at hstays
    · intro e he hne
      refine List.mem_filter.mpr ⟨he, ?_⟩
      rcases hne with h | h | h <;> simp [h]
  case other => rw [exec_replayPurge, replayPurge_other hp h ht]
  case safe => rw [exec_replayPurgeAck, replayPurgeAck_noted hp hc ha hx, if_pos hs]
  case ends => rw [exec_replayPurgeAck, replayPurgeAck_noted hp hc ha hx, hs]; rfl
  case opened =>
    rw [flushWait_of_one ho]
    exact sendReq_open (s := { s with sendWait := [] }) hopen
  case closed =>
    rw [flushWait_of_one ho, sendReq_of_closed { s with sendWait := [] } hcached hclosed, List.nil_append, ← ho]

/-- Settles O46: a timer that expires by what becomes of its request, an acknowledgement and a purge by the unit that they reach. -/
theorem timersAndPurges : Obligations.TimersAndPurges := ⟨requestTimers, tokenAcks, purges⟩

end Sys2Proof.Machine
end

section
/-! PROOF. Probes and the capture buffer (R348, R349): the register writes that reach them, and what they change. -/

namespace Sys2Proof.Machine

variable {s : State} {b k off v : Nat} {reg : ProbeReg}

/-! ### Registers of the network written by parts -/

theorem newWord_whole (s : State) (o : Nat) (hv : v < 2 ^ 64) : newWord s o (.whole v) = v := by
  simp only [newWord, partWrite, written, if_true]
  exact Nat.mod_eq_of_lt hv

/-- A write of a register is a BAR0 write of the part. -/
theorem registerWrite_part (s : State) (a : Accessor) (off : Nat) (x : RegPart) :
    registerWrite s a off x = bar0Write s a (partWrite off x).1 (partWrite off x).2.1 (partWrite off x).2.2 := by cases x <;> rfl

section Parts
variable (hoff : off % 8 = 0)
include hoff

/-- Every part of a register lies in its eight bytes. -/
theorem partWrite_inside (x : RegPart) : (partWrite off x).1 / 8 * 8 = off := by cases x <;> dsimp only [partWrite] <;> omega

/-- Every part of a register is well formed as an access. -/
theorem partWrite_form (x : RegPart) : ((partWrite off x).2.1 = 4 ∨ (partWrite off x).2.1 = 8) ∧ (partWrite off x).1 % (partWrite off x).2.1 = 0 := by
  cases x <;> dsimp only [partWrite] <;> omega

/-- The word that a part brings to its register. -/
theorem broughtWords_part (x : RegPart) :
    (broughtWords s (partWrite off x).1 (partWrite off x).2.1 (partWrite off x).2.2).1 = newWord s off x := by
  rw [broughtWords, partWrite_inside hoff, newWord]

/-- A write of the physical function to a register of the network that is set to what is written, or refuses it. -/
theorem registerWrite_network (hlo : 0x200000 ≤ off) (hhi : off < 0x300000) (hp : accessorPresent s (.fn b 0) = true) (hsafe : inSafe s = false)
    (hreg : (bar0Word s off).isSome = true) {set : Nat → Option State} (hset : ∀ v w, pfWrite s b off v w = set v) (x : RegPart) :
    registerWrite s (.fn b 0) off x = (set (newWord s off x)).getD (logAccess s b 0 (partWrite off x).1 5) := by
  have hin := partWrite_inside hoff x
  obtain ⟨hsize, halign⟩ := partWrite_form hoff x
  have htil : tilWindow (partWrite off x).1 = none := by
    rw [tilWindow, if_neg (by omega), if_neg (by omega)]
  have hspoor : spoorOther off = false := decide_eq_false (by omega)
  have hpass := accessFault_none_of_register s b true hsize halign (.inl hsafe) htil (by rw [hin]; exact hreg)
  rw [registerWrite_part, bar0Write_of_register hp hpass (by rw [hin]; exact hspoor), hin, hset, broughtWords_part hoff]

end Parts

/-! ### The registers of a probe -/

/-- Register `j` of the probes, in the network's block. -/
theorem nocWord_probe {j : Nat} (hj : j < 64) (s : State) : nocWord s (0x100 + 8 * j) = some (probeWord s j) := by
  have hslot : slotOf (0x100 + 8 * j) 0x100 8 64 = some j := by
    rw [slotOf, if_pos (by omega)]
    congr 1
    omega
  have hfirst (n : Nat) (hn : n < 0x100) : slotOf (0x100 + 8 * j) n 8 1 = none := if_neg (by omega)
  simp only [nocWord, inArrays, one, hfirst, hslot, Nat.reduceLT]

section ProbeRegister
variable {j : Nat} (hj : j < 64) (hoff : off = 0x200100 + 8 * j)
include hj hoff

/-- Register `j` of the probes is a register. -/
theorem bar0Word_probe (s : State) : bar0Word s off = some (probeWord s j) := by
  have hbehind : ∀ n ≤ 0x200000, ¬ off < n := by omega
  have hnoc : 0x200000 ≤ off ∧ off < 0x300000 := by omega
  have hin : off - 0x200000 = 0x100 + 8 * j := by omega
  simp only [bar0Word, hbehind, hnoc, hin, nocWord_probe hj, and_false, and_self, if_false, if_true, Nat.reduceLeDiff]

/-- The physical function's write of register `j` of the probes. -/
theorem pfWrite_probe (s : State) (b v w : Nat) : pfWrite s b off v w = probeSet s (j / 4) (j % 4) v := by
  have hflt : ¬(0x20000 ≤ off ∧ off < 0x40000) := by omega
  have hne (n : Nat) (hn : n < 0x200100 ∨ 0x200300 ≤ n) : off ≠ n := by omega
  have hspoor : slotOf off 0x100400 8 4 = none := if_neg (by omega)
  have hmon : slotOf off 0x150000 0x10000 3 = none := if_neg (by omega)
  have hslot : slotOf off 0x200100 8 64 = some j := by
    rw [slotOf, if_pos (by omega)]
    congr 1
    omega
  simp only [pfWrite, hne, hflt, hspoor, hmon, hslot, if_false, Nat.reduceLT, Nat.reduceLeDiff, or_false, or_true]

/-- The firmware's write of it. -/
theorem supWrite_probe (s : State) (v w : Nat) : supWrite s off v w = probeSet s (j / 4) (j % 4) v := by
  have hifst : off ≠ 0x10200 := by omega
  have hgroup : ¬(0x60100 ≤ off ∧ off < 0x60300) := by omega
  have hinit : ¬(0x70000 ≤ off ∧ off < 0x78000) := by omega
  have hother : ¬(off = 0x50 ∨ off = 0x10018) := by omega
  have hdirect : slotOf off 0x03000000 8 0x800 = none := if_neg (by omega)
  rw [supWrite, if_neg hifst, if_neg hgroup, if_neg hinit, if_neg hother, hdirect]
  exact pfWrite_probe hj hoff s 0 v w

end ProbeRegister

/-- The number of a probe's register among those of all probes. -/
def probeIndex (k : Nat) (reg : ProbeReg) : Nat := 4 * k + (match reg with
  | .sel => 0
  | .matchReg => 1
  | .id => 2)

theorem probeIndex_lt (hk : k < 16) (reg : ProbeReg) : probeIndex k reg < 64 := by cases reg <;> simp only [probeIndex] <;> omega

theorem probeOff_index (k : Nat) (reg : ProbeReg) : probeOff k reg = 0x200100 + 8 * probeIndex k reg := by
  cases reg <;> simp only [probeOff, probeIndex] <;> omega

/-- A probe's register is set where the value is accepted. -/
theorem probeSet_index (s : State) (k : Nat) (reg : ProbeReg) (v : Nat) : probeSet s (probeIndex k reg / 4) (probeIndex k reg % 4) v
    = if probeOk (s.noc.probes.getD k {}) reg v then some (probeWrite s k reg v) else none := by
  cases reg with
  | sel => rw [probeIndex, show (4 * k + 0) / 4 = k by omega, show (4 * k + 0) % 4 = 0 by omega]; rfl
  | matchReg => rw [probeIndex, show (4 * k + 1) / 4 = k by omega, show (4 * k + 1) % 4 = 1 by omega]; rfl
  | id => rw [probeIndex, show (4 * k + 2) / 4 = k by omega, show (4 * k + 2) % 4 = 2 by omega]; rfl

section Probe
variable (hk : k < 16)
include hk

/-- PROBE_SEL_WRITE is a register write. -/
theorem exec_probeSelWrite (s : State) (a : Accessor) (reg : ProbeReg) (x : RegPart) :
    exec (.probeSelWrite a k reg x) s = .next (kept s (registerWrite s a (probeOff k reg) x)) := by
  have hwrite : probeRegWrite s a k reg x = registerWrite s a (probeOff k reg) x := by
    cases reg <;> exact if_pos hk
  exact congrArg (fun t => Host.Outcome.next (kept s t)) hwrite

/-- The physical function's write of a probe's register. -/
theorem registerWrite_probe (hp : accessorPresent s (.fn b 0) = true) (hsafe : inSafe s = false) (reg : ProbeReg) (x : RegPart) :
    registerWrite s (.fn b 0) (probeOff k reg) x
      = if probeOk (s.noc.probes.getD k {}) reg (newWord s (probeOff k reg) x) then probeWrite s k reg (newWord s (probeOff k reg) x)
        else logAccess s b 0 (partWrite (probeOff k reg) x).1 5 := by
  have hlt := probeIndex_lt hk reg
  have hoff := probeOff_index k reg
  have hset (v w : Nat) := (pfWrite_probe hlt hoff s b v w).trans (probeSet_index s k reg v)
  rw [registerWrite_network (by omega) (by omega) (by omega) hp hsafe (by rw [bar0Word_probe hlt hoff]; rfl) hset]
  split <;> rfl

/-- The firmware's write of a probe's register. -/
theorem registerWrite_probe_firmware (hf : fwRuns s = true) (hc : clocked s = true) (reg : ProbeReg) (x : RegPart) :
    registerWrite s .supervisor (probeOff k reg) x
      = if probeOk (s.noc.probes.getD k {}) reg (newWord s (probeOff k reg) x)
        then emit (probeWrite s k reg (newWord s (probeOff k reg) x)) (.fwStatus true) else emit s (.fwStatus false) := by
  have hlt := probeIndex_lt hk reg
  have hoff := probeOff_index k reg
  have halign : probeOff k reg % 8 = 0 := by omega
  have hset (v w : Nat) := (supWrite_probe hlt hoff s v w).trans (probeSet_index s k reg v)
  rw [registerWrite_part]
  split
  · next hok => exact bar0Write_supervisor_accepted hf hc (by rw [partWrite_inside halign, hset, broughtWords_part halign, if_pos hok])
  · next hok => exact bar0Write_supervisor_refused hf hc (by rw [partWrite_inside halign, hset, broughtWords_part halign, if_neg hok])

end Probe

/-! ### What an accepted write changes -/

/-- Setting ENABLE clears the count. -/
theorem probeWrite_enables (hen : (s.noc.probes.getD k {}).enable = false) (hv : bit v 63 = true) :
    (probeWrite s k .sel v).noc.probes = s.noc.probes.set k { probeFields (s.noc.probes.getD k {}) .sel v with count := 0 } := by
  have henables : ((probeFields (s.noc.probes.getD k {}) .sel v).enable && !(s.noc.probes.getD k {}).enable) = true := by
    rw [hen]
    exact (Bool.and_true _).trans hv
  simp only [probeWrite, henables, if_true]

/-- Any other write sets its fields alone. -/
theorem probeWrite_sets (h : reg ≠ .sel ∨ (s.noc.probes.getD k {}).enable = true ∨ bit v 63 = false) :
    (probeWrite s k reg v).noc.probes = s.noc.probes.set k (probeFields (s.noc.probes.getD k {}) reg v) := by
  have hstays : ((probeFields (s.noc.probes.getD k {}) reg v).enable && !(s.noc.probes.getD k {}).enable) = false := by
    cases reg with
    | sel =>
      rcases h with h | h | h
      · exact absurd rfl h
      · rw [h, Bool.not_true, Bool.and_false]
      · simp only [probeFields, h, Bool.false_and]
    | matchReg => exact Bool.and_not_self _
    | id => exact Bool.and_not_self _
  simp only [probeWrite, hstays, Bool.false_eq_true, if_false]

/-- Which writes a probe accepts. -/
theorem probeOk_cases (k : Probe) (v : Nat) :
    (k.enable = true → k.classMask ≠ bits v 63 60 → probeOk k .matchReg v = false)
    ∧ (bits v 62 61 = 3 → probeOk k .sel v = false)
    ∧ (bits v 59 54 ∉ routerPorts (bits v 53 42) → probeOk k .sel v = false)
    ∧ (isUnit (bits v 35 24) = false → probeOk k .id v = false)
    ∧ (isUnit (bits v 63 50 / 4) = false → probeOk k .id v = false)
    ∧ (k.enable = false → probeOk k .matchReg v = true) := by
  refine ⟨fun hen hcls => ?_, fun hcap => ?_, fun hport => ?_, fun hdest => ?_, fun hsrc => ?_, fun hen => ?_⟩
  · have hother : { k with enable := false } ≠ probeFields k .matchReg v := fun h => hcls (congrArg Probe.classMask h)
    simp [probeOk, hen, hother]
  · simp [probeOk, probeFields, hcap]
  · simp [probeOk, probeFields, hport]
  · simp [probeOk, probeFields, hdest]
  · simp [probeOk, probeFields, isRequester, hsrc]
  · simp [probeOk, hen]

/-! ### NOC.CAP_CTRL -/

theorem exec_capCtrlWrite (s : State) (a : Accessor) (x : RegPart) :
    exec (.capCtrlWrite a x) s = .next (kept s (registerWrite s a 0x200400 x)) := rfl

/-- A write of NOC.CAP_CTRL is always accepted. -/
theorem registerWrite_capCtrl (hp : accessorPresent s (.fn b 0) = true) (hsafe : inSafe s = false) (x : RegPart) :
    registerWrite s (.fn b 0) 0x200400 x = Machine.capCtrlWrite s (newWord s 0x200400 x) := by
  have hreg : (bar0Word s 0x200400).isSome = true := by simp [bar0Word, nocWord, inArrays, one, slotOf]
  have hset (v w : Nat) : pfWrite s b 0x200400 v w = some (Machine.capCtrlWrite s v) := rfl
  rw [registerWrite_network (by decide) (by decide) (by decide) hp hsafe hreg hset, Option.getD_some]

/-- The fields of NOC.CAP_CTRL after a write, and those of NOC.CAP_STAT, which setting ENABLE clears. -/
theorem capCtrlWrite_fields (s : State) (v : Nat) : (Machine.capCtrlWrite s v).noc.capEnable = bit v 63 ∧ (Machine.capCtrlWrite s v).noc.capMode = bit v 62
    ∧ (Machine.capCtrlWrite s v).noc.trigEn = bit v 61 ∧ (Machine.capCtrlWrite s v).noc.trigProbe = bits v 60 57 ∧ (Machine.capCtrlWrite s v).noc.post = bits v 56 45
    ∧ (Machine.capCtrlWrite s v).noc.capMem = s.noc.capMem
    ∧ (bit v 63 = true → s.noc.capEnable = false → (Machine.capCtrlWrite s v).noc.capPtr = 0 ∧ (Machine.capCtrlWrite s v).noc.capLost = 0
      ∧ (Machine.capCtrlWrite s v).noc.capStopped = false ∧ (Machine.capCtrlWrite s v).noc.capTriggered = false ∧ (Machine.capCtrlWrite s v).noc.capWrapped = false)
    ∧ ((bit v 63 = false ∨ s.noc.capEnable = true) → (Machine.capCtrlWrite s v).noc.capPtr = s.noc.capPtr ∧ (Machine.capCtrlWrite s v).noc.capLost = s.noc.capLost
      ∧ (Machine.capCtrlWrite s v).noc.capStopped = s.noc.capStopped) := by
  by_cases h : (bit v 63 && !s.noc.capEnable) = true
  · have hset : ¬(bit v 63 = false ∨ s.noc.capEnable = true) := by
      rw [Bool.and_eq_true, Bool.not_eq_true'] at h
      simp [h.1, h.2]
    dsimp only [Machine.capCtrlWrite]
    rw [if_pos h]
    exact ⟨rfl, rfl, rfl, rfl, rfl, rfl, fun _ _ => ⟨rfl, rfl, rfl, rfl, rfl⟩, fun hkeep => absurd hkeep hset⟩
  · dsimp only [Machine.capCtrlWrite]
    rw [if_neg h]
    exact ⟨rfl, rfl, rfl, rfl, rfl, rfl, fun hv hen => absurd (by rw [hv, hen]; rfl) h, fun _ => ⟨rfl, rfl, rfl⟩⟩

end Sys2Proof.Machine
end

section
/-! PROOF. Idle scrubs (R344, R459, R466, R525), and the statement of probes and scrubs. -/

namespace Sys2Proof.Machine

variable {s : State} {k w : Nat}

theorem exec_idleScrub (s : State) (x : ScrubTarget) : exec (.idleScrub x) s = .next (kept s (idleScrub s x)) := rfl

section Scrubs
variable (hc : clocked s = true)
include hc

theorem scrub_works : ¬(!(clocked s)) = true := by
  rw [hc]
  exact Bool.false_ne_true

theorem idleScrub_buffer (r p cls : Nat) : idleScrub s (.buffer r p cls) = (meetFlitErr s r p cls).1 := if_neg (scrub_works hc)

theorem idleScrub_stand (hw : working s = true) (hk : k < 4) : idleScrub s (.standBuffer k w) = meetStsErr s k w := by
  have hstand : (working s && decide (k < 4)) = true := by
    rw [hw, decide_eq_true hk]
    rfl
  exact (if_neg (scrub_works hc)).trans (if_pos hstand)

theorem idleScrub_tables_corrected (he : s.prt.err = 1) : idleScrub s .partitionTables
    = raise { s with prt := { s.prt with err := 0 } } Kind.partitionTableCorrected (rqId 0x30A 0) none 0 0 := by
  rw [idleScrub, if_neg (scrub_works hc)]
  simp only [he]

/-- An uncorrectable error of the tables is kept as reported (3). -/
theorem idleScrub_tables_uncorrectable (he : s.prt.err = 2) : idleScrub s .partitionTables
    = raise { s with prt := { s.prt with err := 3 } } Kind.partitionTableUncorrectable (rqId 0x30A 0) none 0 0 := by
  rw [idleScrub, if_neg (scrub_works hc)]
  simp only [he]

end Scrubs

/-- A corrected word of a stand buffer. -/
theorem meetStsErr_corrected (hk : k < s.sts.length) (he : SMap.get 0 (stsAt s k).err w = 1) :
    SMap.get 0 (stsAt (meetStsErr s k w) k).err w = 0 ∧ (stsAt (meetStsErr s k w) k).mem = (stsAt s k).mem
    ∧ (stsAt (meetStsErr s k w) k).poison = (stsAt s k).poison ∧ (stsAt (meetStsErr s k w) k).corrected = ((stsAt s k).corrected + 1) % 2 ^ 16
    ∧ ∃ m, (meetStsErr s k w).flt.inbox = s.flt.inbox ++ [m] ∧ m.head % 1024 = Kind.standBufferCorrected := by
  have hat (x : Sts) (kind reporter : Nat) (part : Option Nat) (addr detail : Nat) :
      stsAt (raise (setSts s k x) kind reporter part addr detail) k = x := stsAt_setSts_same x hk
  obtain ⟨own, addr, hmet⟩ : ∃ own addr, meetStsErr s k w = raise (setSts s k { stsAt s k with
      err := SMap.put 0 (stsAt s k).err w 0, corrected := ((stsAt s k).corrected + 1) % 2 ^ 16 })
      Kind.standBufferCorrected (rqId (0x2CC + k) 0) own addr 0 := ⟨_, _, by simp only [meetStsErr, he]; rfl⟩
  rw [hmet, hat]
  exact ⟨SMap.get_put_same 0 (stsAt s k).err w 0, rfl, rfl, rfl, raise_inbox ..⟩

/-- An uncorrectable word of a stand buffer. -/
theorem meetStsErr_uncorrectable (hk : k < s.sts.length) (he : 2 ≤ SMap.get 0 (stsAt s k).err w) :
    SMap.get 0 (stsAt (meetStsErr s k w) k).err w = 0 ∧ NSet.has (stsAt (meetStsErr s k w) k).poison w = true
    ∧ (stsAt (meetStsErr s k w) k).uncorrected = ((stsAt s k).uncorrected + 1) % 2 ^ 16 ∧ (stsAt (meetStsErr s k w) k).lastLine = w / 8
    ∧ ∃ m, (meetStsErr s k w).flt.inbox = s.flt.inbox ++ [m] ∧ m.head % 1024 = Kind.standBufferUncorrectable := by
  have hat (x : Sts) (kind reporter : Nat) (part : Option Nat) (addr detail : Nat) :
      stsAt (raise (setSts s k x) kind reporter part addr detail) k = x := stsAt_setSts_same x hk
  obtain ⟨e, he⟩ : ∃ e, SMap.get 0 (stsAt s k).err w = e + 2 := ⟨_, (Nat.sub_add_cancel he).symm⟩
  obtain ⟨own, addr, hmet⟩ : ∃ own addr, meetStsErr s k w = raise (setSts s k { stsAt s k with
      err := SMap.put 0 (stsAt s k).err w 0, poison := NSet.add (stsAt s k).poison w
      uncorrected := ((stsAt s k).uncorrected + 1) % 2 ^ 16, lastLine := w / 8 })
      Kind.standBufferUncorrectable (rqId (0x2CC + k) 0) own addr 0 := ⟨_, _, by simp only [meetStsErr, he]; rfl⟩
  rw [hmet, hat]
  exact ⟨SMap.get_put_same 0 (stsAt s k).err w 0, NSet.has_add .., rfl, rfl, raise_inbox ..⟩

/-- Settles O47: a write of a probe or of NOC.CAP_CTRL through the access that makes it, and a scrub by what it meets. -/
theorem probesAndScrubs : Obligations.ProbesAndScrubs := by
  refine ⟨fun s b k reg x hk hp hsafe => ⟨fun hok => ?written, fun hok => ?refused⟩, fun s k reg x hk hf hc => ⟨fun hok => ?firmware, fun hok => ?told⟩,
    fun s o v _ hv => newWord_whole s o hv, fun s k v reg _ => ⟨fun hen hsel hv => hsel ▸ probeWrite_enables hen hv, probeWrite_sets⟩, probeOk_cases,
    fun s b x hp hsafe => ?capture, capCtrlWrite_fields,
    fun s hc => ⟨fun r p cls => ?buffer, fun he => ?corrected, fun he => ?uncorrectable, fun k w hw hk hlen he => ?stand, fun k w hw hk hlen he => ?standLost⟩⟩
  case written => rw [exec_probeSelWrite hk, registerWrite_probe hk hp hsafe, if_pos hok]
  case refused =>
    rw [exec_probeSelWrite hk, registerWrite_probe hk hp hsafe, hok]
    rfl
  case firmware => rw [exec_probeSelWrite hk, registerWrite_probe_firmware hk hf hc, if_pos hok]
  case told =>
    rw [exec_probeSelWrite hk, registerWrite_probe_firmware hk hf hc, hok]
    rfl
  case capture => rw [exec_capCtrlWrite, registerWrite_capCtrl hp hsafe]
  case buffer => rw [exec_idleScrub, idleScrub_buffer hc]
  case corrected =>
    rw [exec_idleScrub, idleScrub_tables_corrected hc he]
    rfl
  case uncorrectable =>
    rw [exec_idleScrub, idleScrub_tables_uncorrectable hc he]
    rfl
  case stand => exact leaves_of_eq (by rw [exec_idleScrub, idleScrub_stand hc hw hk]) (meetStsErr_corrected hlen he)
  case standLost => exact leaves_of_eq (by rw [exec_idleScrub, idleScrub_stand hc hw hk]) (meetStsErr_uncorrectable hlen he)

end Sys2Proof.Machine
end

section
/-! PROOF. Links and buffers of the network: what the updates of a link, of a buffer and of the probes leave, said once, and which buffers are
one another's (R320, R327, R347, R348). -/

namespace Sys2Proof.Machine

variable {s t : State} {r p c : Nat}

/-! ### Links and buffers -/

theorem linkAt_setLink_same (s : State) (r p : Nat) (l : Link) : linkAt (setLink s r p l) r p = l := SMap.get_put_same ..

theorem linkAt_of_links (h : t.noc.links = s.noc.links) (r p : Nat) : linkAt t r p = linkAt s r p := by rw [linkAt, h, linkAt]

theorem bufAt_setBuf_same (s : State) (r p c : Nat) (toUnit : Bool) (b : Buf) : bufAt (setBuf s r p c toUnit b) r p c toUnit = b := SMap.get_put_same ..

theorem bufAt_setBuf_other {r' p' c' : Nat} {toUnit toUnit' : Bool} (h : bufKey r' p' c' toUnit' ≠ bufKey r p c toUnit) (s : State) (b : Buf) :
    bufAt (setBuf s r p c toUnit b) r' p' c' toUnit' = bufAt s r' p' c' toUnit' := SMap.get_put_other _ _ h _

theorem bufAt_of_bufs (h : t.noc.bufs = s.noc.bufs) (r p c : Nat) (toUnit : Bool) : bufAt t r p c toUnit = bufAt s r p c toUnit := by
  rw [bufAt, h, bufAt]

/-- A buffer that keeps its credits in use leaves every buffer's as they were. -/
theorem used_setBuf {toUnit : Bool} {b : Buf} (hb : b.used = (bufAt s r p c toUnit).used) (r' p' c' : Nat) (toUnit' : Bool) :
    (bufAt (setBuf s r p c toUnit b) r' p' c' toUnit').used = (bufAt s r' p' c' toUnit').used := by
  by_cases hkey : bufKey r' p' c' toUnit' = bufKey r p c toUnit
  · rw [bufAt, hkey, setBuf, SMap.get_put_same, hb, bufAt, bufAt, hkey]
  · rw [bufAt_setBuf_other hkey]

theorem dirOf_setDir (l : Link) (down : Bool) (d : LinkDir) : dirOf (setDir l down d) down = d := by cases down <;> rfl

/-! ### Observation (R347, R348) -/

/-- What observation by the probes leaves: all but the probes and the capture memory. -/
def Observed (s t : State) : Prop :=
  ∃ n : Noc, t = { s with noc := n } ∧ n.bufs = s.noc.bufs ∧ n.links = s.noc.links ∧ n.outs = s.noc.outs

theorem Observed.refl (s : State) : Observed s s := ⟨s.noc, rfl, rfl, rfl, rfl⟩

theorem Observed.trans {x : State} (h : Observed s t) (h' : Observed t x) : Observed s x := by
  obtain ⟨n, rfl, hbufs, hlinks, houts⟩ := h
  obtain ⟨n', rfl, hbufs', hlinks', houts'⟩ := h'
  exact ⟨n', rfl, hbufs'.trans hbufs, hlinks'.trans hlinks, houts'.trans houts⟩

theorem Observed.bufs (h : Observed s t) : t.noc.bufs = s.noc.bufs := by
  obtain ⟨n, rfl, hbufs, -, -⟩ := h
  exact hbufs

theorem Observed.links (h : Observed s t) : t.noc.links = s.noc.links := by
  obtain ⟨n, rfl, -, hlinks, -⟩ := h
  exact hlinks

theorem Observed.outs (h : Observed s t) : t.noc.outs = s.noc.outs := by
  obtain ⟨n, rfl, -, -, houts⟩ := h
  exact houts

theorem Observed.rest (h : Observed s t) : t.flt = s.flt ∧ t.net = s.net ∧ t.clr = s.clr := by
  obtain ⟨n, rfl, -, -, -⟩ := h
  exact ⟨rfl, rfl, rfl⟩

theorem capture_observed (s : State) (n : Nat) (k : Probe) (f : Flit) : Observed s (capture s n k f) := by
  dsimp only [capture]
  split
  · exact .refl s
  split <;> exact ⟨_, rfl, rfl, rfl, rfl⟩

/-- The capture memory stops behind the flit that triggers it. -/
def triggered (s : State) (n : Nat) : State :=
  if s.noc.trigEn && decide (s.noc.trigProbe = n) && !s.noc.capTriggered && s.noc.capEnable then
    { s with noc := { s.noc with capTriggered := true, capLeft := s.noc.post, capStopped := s.noc.capStopped || decide (s.noc.post = 0) } }
  else s

theorem triggered_observed (s : State) (n : Nat) : Observed s (triggered s n) := by
  rw [triggered]
  split
  · exact ⟨_, rfl, rfl, rfl, rfl⟩
  · exact .refl s

theorem probeSees_observed (s : State) (n r p dir : Nat) (f : Flit) : Observed s (probeSees s n r p dir f) := by
  have hcaptures (t : State) (k : Probe) : Observed t (if k.capture = 0 then t else capture t n k f) := by
    split
    · exact .refl t
    · exact capture_observed t n k f
  obtain ⟨k', hsees⟩ : ∃ k', probeSees s n r p dir f
      = if !((s.noc.probes.getD n {}).enable && decide ((s.noc.probes.getD n {}).router = r) && decide ((s.noc.probes.getD n {}).port = p)
            && decide ((s.noc.probes.getD n {}).dir = dir) && probePasses (s.noc.probes.getD n {}) f) then s
        else triggered (if (s.noc.probes.getD n {}).capture = 0 then { s with noc := { s.noc with probes := s.noc.probes.set n k' } }
          else capture { s with noc := { s.noc with probes := s.noc.probes.set n k' } } n (s.noc.probes.getD n {}) f) n := ⟨_, rfl⟩
  have hcounts : Observed s { s with noc := { s.noc with probes := s.noc.probes.set n k' } } := ⟨_, rfl, rfl, rfl, rfl⟩
  rw [hsees]
  split
  · exact .refl s
  · exact (hcounts.trans (hcaptures _ _)).trans (triggered_observed _ n)

theorem observe_observed (s : State) (r p dir : Nat) (f : Flit) : Observed s (observe s r p dir f) :=
  List.foldlRecOn (motive := Observed s) _ _ (.refl s) (fun _ h n _ => h.trans (probeSees_observed _ n r p dir f))

/-! ### The ports of the routers (Table 11.13) -/

theorem port_lt (h : p ∈ routerPorts r) : p < 64 := by
  unfold routerPorts at h
  split at h
  · revert p; decide
  split at h
  · revert p; decide
  split at h
  · revert p; decide
  split at h
  · revert p; decide
  · cases h

theorem router_of_port (h : p ∈ routerPorts r) : (0x200 ≤ r ∧ r < 0x240) ∨ (0x280 ≤ r ∧ r < 0x290) ∨ (0x2C0 ≤ r ∧ r < 0x2C4) ∨ r = 0x300 := by
  by_contra hno
  rw [routerPorts, if_neg (by omega), if_neg (by omega), if_neg (by omega), if_neg (by omega)] at h
  cases h

/-- What lies at a port of a router is not that router. -/
theorem farEnd_other {q k : Nat} (h : p ∈ routerPorts r) (hfar : farEnd r p = .router q k) : q ≠ r ∧ k < 64 := by
  have hp := port_lt h
  have hr := router_of_port h
  unfold farEnd at hfar
  split_ifs at hfar <;> injection hfar <;> omega

/-- The buffer that an output feeds is none of its router's inputs. -/
theorem feeds_no_input {o i : Nat} (ho : o ∈ routerPorts r) (hi : i ∈ routerPorts r) :
    bufKey r i c false ≠ bufKey (feeds r o).1 (feeds r o).2.1 c (feeds r o).2.2 := by
  have hport := port_lt hi
  cases hfar : farEnd r o with
  | unit u =>
    simp only [feeds, hfar, bufKey, portKey, b2n, Bool.false_eq_true, if_true, if_false]
    omega
  | router q k =>
    obtain ⟨hq, hk⟩ := farEnd_other ho hfar
    simp only [feeds, hfar, bufKey, portKey, b2n]
    omega

end Sys2Proof.Machine
end

section
/-! PROOF. A link's receiver (R336, R337): each command by its check of the CRC and of the sequence number. -/

namespace Sys2Proof.Machine

variable {s : State} {r p u fseq crc : Nat} {down : Bool} {f : Flit}

theorem exec_flitReceive (s : State) (r p fseq crc : Nat) (down : Bool) (f : Flit) :
    exec (.flitReceive r p down fseq crc f) s = .next (kept s (flitReceive s r p down fseq crc f)) := rfl

/-! ### A unit takes a flit (R325, R327) -/

/-- The state in which the slot of a flit that a unit takes is free again. -/
def slotFreed (s : State) (r p u : Nat) (f : Flit) : State :=
  setBuf s r p (flitCls f) true (if isTile u && decide (flitCls f = 1) then { bufAt s r p (flitCls f) true with used := (bufAt s r p (flitCls f) true).used - 1 }
    else { bufAt s r p (flitCls f) true with owed := (bufAt s r p (flitCls f) true).owed ++ [now s + 2] })

/-- The entries of a TOKEN flit at a tile come under its own credits. -/
theorem slotFreed_token (ht : isTile u = true) (hcls : flitCls f = 1) : (bufAt (slotFreed s r p u f) r p 1 true).used = (bufAt s r p 1 true).used - 1 := by
  rw [slotFreed, ht, hcls, bufAt_setBuf_same]
  rfl

/-- Any other flit's credit is owed. -/
theorem slotFreed_owed (h : isTile u = false ∨ flitCls f ≠ 1) :
    (bufAt (slotFreed s r p u f) r p (flitCls f) true).owed = (bufAt s r p (flitCls f) true).owed ++ [now s + 2] := by
  have hno : ¬(isTile u && decide (flitCls f = 1)) = true := by rcases h with h | h <;> simp [h]
  rw [slotFreed, bufAt_setBuf_same, if_neg hno]

theorem unitTakes_served (hform : flitFormOk f = true) (hserves : servesFlit u f = true) : unitTakes s r p u f = slotFreed s r p u f :=
  if_pos (by rw [hform, hserves]; rfl)

theorem unitTakes_drops (h : flitFormOk f = false ∨ servesFlit u f = false) : unitTakes s r p u f
    = raise { slotFreed s r p u f with noc := { (slotFreed s r p u f).noc with dropped := (s.noc.dropped + 1) % 2 ^ 16 } } Kind.nocHeaderInvalid (rqId u 0)
      (some (flitPart f)) (netAddr r p (flitCls f) true) f.header :=
  if_neg (by rcases h with h | h <;> simp [h])

/-- Whether the flit is served or dropped, its slot is free again and the links stay. -/
theorem unitTakes_keeps (s : State) (r p u : Nat) (f : Flit) :
    (unitTakes s r p u f).noc.bufs = (slotFreed s r p u f).noc.bufs ∧ (unitTakes s r p u f).noc.links = s.noc.links := by
  by_cases h : (flitFormOk f && servesFlit u f) = true
  · rw [Bool.and_eq_true] at h
    rw [unitTakes_served h.1 h.2]
    exact ⟨rfl, rfl⟩
  · rw [unitTakes_drops (by rw [Bool.not_eq_true, Bool.and_eq_false_iff] at h; exact h)]
    exact ⟨rfl, rfl⟩

/-! ### A link goes down (R337) -/

/-- The kind of a link's loss, by what lies below it. -/
def downKind (r p : Nat) : Nat :=
  match farEnd r p with
  | .unit u => if isTile u then Kind.tileLinkDown else Kind.linkDown
  | .router _ _ => Kind.linkDown

theorem linkCut_of_down (h : (linkAt s r p).down = true) : linkCut s r p = true := by
  rw [linkCut, h]
  rfl

theorem declareDown_spec (s : State) (r p : Nat) (down : Bool) : linkAt (declareDown s r p down) r p = { linkAt s r p with down := true }
    ∧ ∃ m, (declareDown s r p down).flt.inbox = s.flt.inbox ++ [m] ∧ m.head % 1024 = downKind r p := by
  cases hfar : farEnd r p with
  | router q k =>
    simp only [declareDown, downKind, hfar]
    exact ⟨linkAt_setLink_same .., raise_inbox ..⟩
  | unit u =>
    by_cases htile : isTile u = true
    · simp only [declareDown, downKind, hfar, htile, if_true]
      have hhead := faultHead_kind Kind.tileLinkDown (rqId (receiver r p down) 0) u none none
      exact ⟨linkAt_setLink_same .., _, rfl, hhead⟩
    · simp only [declareDown, downKind, hfar, htile]
      exact ⟨linkAt_setLink_same .., raise_inbox ..⟩

/-! ### The receiver's checks (R336) -/

section Receiver
variable (h : LinkUp s r p)
include h

theorem link_works : ¬(!(clocked s) || !((routerPorts r).contains p) || linkCut s r p) = true := by
  obtain ⟨hclock, hport, hcut⟩ := h
  simp [hclock, hport, hcut]

/-- The expected flit at a router's input joins its buffer and is observed. -/
theorem flitReceive_router : flitReceive s r p false (linkAt s r p).rx.expect (flitCrc (linkAt s r p).rx.expect f) f
    = observe (setBuf (setLink s r p (accepted (linkAt s r p) false)) r p (flitCls f) false
      { bufAt s r p (flitCls f) false with flits := (bufAt s r p (flitCls f) false).flits ++ [f] }) r p 0 f :=
  (if_neg (link_works h)).trans ((if_neg (not_not_intro rfl)).trans (if_pos rfl))

/-- The expected flit at a unit is taken. -/
theorem flitReceive_unit (hfar : farEnd r p = .unit u) :
    flitReceive s r p true (linkAt s r p).tx.expect (flitCrc (linkAt s r p).tx.expect f) f
      = unitTakes (setLink s r p (accepted (linkAt s r p) true)) r p u f := by
  refine (if_neg (link_works h)).trans ((if_neg (not_not_intro rfl)).trans ((if_pos rfl).trans ?_))
  simp only [hfar, if_true]
  rfl

section Bad
variable (hcrc : crc ≠ flitCrc fseq f)
include hcrc

/-- A flit with a bad CRC that is not the one NAKed is only counted. -/
theorem flitReceive_bad_other (hnaked : (dirOf (linkAt s r p) down).naked = true) (hseq : fseq ≠ (dirOf (linkAt s r p) down).expect) :
    flitReceive s r p down fseq crc f = setLink s r p { linkAt s r p with crcErrors := ((linkAt s r p).crcErrors + 1) % 2 ^ 16 } :=
  (if_neg (link_works h)).trans ((if_pos hcrc).trans (if_pos (by rw [hnaked, decide_eq_true hseq]; rfl)))

/-- The first bad CRC is NAKed with a record. -/
theorem flitReceive_bad_first (hnaked : (dirOf (linkAt s r p) down).naked = false) (hfails : (dirOf (linkAt s r p) down).fails < 7) :
    flitReceive s r p down fseq crc f = raise (setLink s r p (crcFailed (linkAt s r p) down)) Kind.linkRetry (rqId (receiver r p down) 0) none
      (netAddr r p 0 down) (dirOf (linkAt s r p) down).expect := by
  refine (if_neg (link_works h)).trans ((if_pos hcrc).trans ((if_neg ?_).trans ((if_neg ?_).trans (if_neg ?_))))
  · rw [hnaked]
    exact Bool.false_ne_true
  · exact Nat.not_le.mpr (Nat.succ_lt_succ hfails)
  · rw [hnaked]
    exact Bool.false_ne_true

/-- The same flit again, below the eighth failure. -/
theorem flitReceive_bad_again (hnaked : (dirOf (linkAt s r p) down).naked = true) (hseq : fseq = (dirOf (linkAt s r p) down).expect)
    (hfails : (dirOf (linkAt s r p) down).fails < 7) : flitReceive s r p down fseq crc f = setLink s r p (crcFailed (linkAt s r p) down) := by
  refine (if_neg (link_works h)).trans ((if_pos hcrc).trans ((if_neg ?_).trans ((if_neg ?_).trans (if_pos hnaked))))
  · simp [hseq]
  · exact Nat.not_le.mpr (Nat.succ_lt_succ hfails)

/-- The same flit's eighth failure. -/
theorem flitReceive_bad_eighth (hnaked : (dirOf (linkAt s r p) down).naked = true) (hseq : fseq = (dirOf (linkAt s r p) down).expect)
    (hfails : 7 ≤ (dirOf (linkAt s r p) down).fails) :
    flitReceive s r p down fseq crc f = declareDown (setLink s r p (crcFailed (linkAt s r p) down)) r p down := by
  refine (if_neg (link_works h)).trans ((if_pos hcrc).trans ((if_neg ?_).trans ((if_pos (Nat.succ_le_succ hfails)).trans ?_)))
  · simp [hseq]
  · exact congrArg (fun x => declareDown x r p down) (if_pos hnaked)

end Bad

section Sound
variable (hseq : fseq ≠ (dirOf (linkAt s r p) down).expect)
include hseq

/-- A receiver that has NAKed ignores every other flit. -/
theorem flitReceive_ignored (hnaked : (dirOf (linkAt s r p) down).naked = true) : flitReceive s r p down fseq (flitCrc fseq f) f = s :=
  (if_neg (link_works h)).trans ((if_neg (not_not_intro rfl)).trans ((if_neg hseq).trans (if_pos hnaked)))

/-- A flit that was accepted before counts as a duplicate. -/
theorem flitReceive_duplicate (hnaked : (dirOf (linkAt s r p) down).naked = false)
    (hold : ((dirOf (linkAt s r p) down).expect + 256 - fseq) % 256 ≤ 128) :
    flitReceive s r p down fseq (flitCrc fseq f) f = setLink s r p { linkAt s r p with dups := ((linkAt s r p).dups + 1) % 2 ^ 16 } := by
  have hready : ¬ (dirOf (linkAt s r p) down).naked = true := by
    rw [hnaked]
    exact Bool.false_ne_true
  exact (if_neg (link_works h)).trans ((if_neg (not_not_intro rfl)).trans ((if_neg hseq).trans ((if_neg hready).trans (if_pos hold))))

end Sound

end Receiver

theorem linkReceivers : LinkReceivers := by
  refine ⟨fun s r p f h => ?router, fun s r p u f h hfar => ?unit, fun s r p fseq crc down f h hcrc => ⟨fun hnaked hfails => ?first,
      fun hnaked hseq => ?other, fun hnaked hseq hfails => ?again, fun hnaked hseq hfails => ?eighth⟩,
    fun s r p fseq down f h hseq => ⟨fun hnaked => ?ignored, fun hnaked hold => ?duplicate⟩⟩
  case router =>
    refine leaves_of_eq (by rw [exec_flitReceive, flitReceive_router h]) ?_
    generalize hx : setBuf (setLink s r p (accepted (linkAt s r p) false)) r p (flitCls f) false
      { bufAt s r p (flitCls f) false with flits := (bufAt s r p (flitCls f) false).flits ++ [f] } = x
    have hobs := observe_observed x r p 0 f
    generalize observe x r p 0 f = y at hobs ⊢
    obtain ⟨hflt, hnet, -⟩ := hobs.rest
    refine ⟨?_, ?_, hflt.trans (by rw [← hx]; rfl), hnet.trans (by rw [← hx]; rfl)⟩
    · refine (congrArg Buf.flits (bufAt_of_bufs hobs.bufs r p (flitCls f) false)).trans ?_
      rw [← hx, bufAt_setBuf_same]
    · refine (linkAt_of_links hobs.links r p).trans ?_
      rw [← hx]
      exact linkAt_setLink_same s r p _
  case unit =>
    refine leaves_of_eq (by rw [exec_flitReceive, flitReceive_unit h hfar]) ?_
    obtain ⟨hbufs, hlinks⟩ := unitTakes_keeps (setLink s r p (accepted (linkAt s r p) true)) r p u f
    refine ⟨(linkAt_of_links hlinks r p).trans (linkAt_setLink_same ..), fun htile hcls => ?_, fun hother => ?_, fun hform hserves => ?_, fun hdrop => ?_⟩
    · exact (congrArg Buf.used (bufAt_of_bufs hbufs r p 1 true)).trans (slotFreed_token htile hcls)
    · exact (congrArg Buf.owed (bufAt_of_bufs hbufs r p (flitCls f) true)).trans (slotFreed_owed hother)
    · rw [unitTakes_served hform hserves]
      rfl
    · rw [unitTakes_drops hdrop]
      exact ⟨rfl, raise_message ..⟩
  case first =>
    refine leaves_of_eq (by rw [exec_flitReceive, flitReceive_bad_first h hcrc hnaked hfails]) ?_
    exact ⟨linkAt_setLink_same .., rfl, raise_message ..⟩
  case other => rw [exec_flitReceive, flitReceive_bad_other h hcrc hnaked hseq]
  case again => rw [exec_flitReceive, flitReceive_bad_again h hcrc hnaked hseq hfails]
  case eighth =>
    refine leaves_of_eq (by rw [exec_flitReceive, flitReceive_bad_eighth h hcrc hnaked hseq hfails]) ?_
    obtain ⟨hlink, hraise⟩ := declareDown_spec (setLink s r p (crcFailed (linkAt s r p) down)) r p down
    rw [linkAt_setLink_same] at hlink
    generalize declareDown (setLink s r p (crcFailed (linkAt s r p) down)) r p down = x at hlink hraise ⊢
    have hcut : linkCut x r p = true := linkCut_of_down (by rw [hlink])
    exact ⟨hlink, hcut, hraise⟩
  case ignored => rw [exec_flitReceive, flitReceive_ignored h hseq hnaked]
  case duplicate => rw [exec_flitReceive, flitReceive_duplicate h hseq hnaked hold]

end Sys2Proof.Machine
end

section
/-! PROOF. A link's sender (R327, R336): what it keeps and resends, the credits that return to it, and what a unit's sender numbers. -/

namespace Sys2Proof.Machine

variable {s : State} {r p q : Nat} {down safe : Bool} {dep : Nat → Nat} {x : UpSend} {f : Flit}

/-! ### A unit's sender (R327, R345) -/

/-- Whether a unit's sender can send a flit now. -/
abbrev upReady (safe : Bool) (dep : Nat → Nat) (x : UpSend) (f : Flit) : Prop :=
  x.resend = [] ∧ x.replay.length < 64 ∧ x.used.getD (flitCls f) 0 < dep (flitCls f) ∧ (safe = false ∨ flitCls f = 0)

theorem upReady_iff : (x.resend.isEmpty && decide (x.replay.length < 64) && decide (x.used.getD (flitCls f) 0 < dep (flitCls f))
    && !(safe && decide (flitCls f ≠ 0))) = true ↔ upReady safe dep x f := by
  simp only [Bool.and_eq_true, List.isEmpty_iff, decide_eq_true_eq, Bool.not_eq_true', Bool.and_eq_false_iff, decide_eq_false_iff_not, not_not, and_assoc]

/-- A flit that can be sent is numbered and kept. -/
theorem upOne_numbers (h : upReady safe dep x f) : upOne safe dep x f = { x with next := (x.next + 1) % 256, replay := x.replay ++ [(x.next, f)]
                                                                                 used := x.used.set (flitCls f) (x.used.getD (flitCls f) 0 + 1) } :=
  if_pos (upReady_iff.mpr h)

/-- Any other waits. -/
theorem upOne_waits (h : ¬ upReady safe dep x f) : upOne safe dep x f = { x with waiting := x.waiting ++ [f] } :=
  if_neg (fun hready => h (upReady_iff.mp hready))

/-- Whatever flits a sender is given, it keeps its flits to resend and its unacknowledged flits, and while it resends it adds none to them. -/
structure UpKeeps (x y : UpSend) : Prop where
  resend : y.resend = x.resend
  replay : ∃ more, y.replay = x.replay ++ more
  same : x.resend ≠ [] → y.replay = x.replay

theorem upOne_keeps (safe : Bool) (dep : Nat → Nat) (x : UpSend) (f : Flit) : UpKeeps x (upOne safe dep x f) := by
  by_cases h : upReady safe dep x f
  · rw [upOne_numbers h]
    exact ⟨rfl, ⟨_, rfl⟩, fun hresend => absurd h.1 hresend⟩
  · rw [upOne_waits h]
    exact ⟨rfl, ⟨[], (List.append_nil _).symm⟩, fun _ => rfl⟩

theorem UpKeeps.trans {y z : UpSend} (h : UpKeeps x y) (h' : UpKeeps y z) : UpKeeps x z := by
  obtain ⟨more, hmore⟩ := h.replay
  obtain ⟨more', hmore'⟩ := h'.replay
  exact ⟨h'.resend.trans h.resend, ⟨more ++ more', by rw [hmore', hmore, List.append_assoc]⟩,
    fun hresend => (h'.same (by rw [h.resend]; exact hresend)).trans (h.same hresend)⟩

theorem upSend_keeps (safe : Bool) (dep : Nat → Nat) (x : UpSend) (fs : List Flit) : UpKeeps x (upSend safe dep x fs) :=
  List.foldlRecOn (motive := UpKeeps x) _ _ ⟨rfl, ⟨[], (List.append_nil _).symm⟩, fun _ => rfl⟩ (fun _ h f _ => h.trans (upOne_keeps safe dep _ f))

/-! ### The sender of a link direction (R336) -/

/-- Where a router sends, its unacknowledged flits and those to resend are replaced. -/
theorem setSent_router (l again : List (Nat × Flit)) (hup : upUnit r p down = none) :
    sentFlits (setSent s r p down l again) r p down = l ∧ againFlits (setSent s r p down l again) r p down = again := by
  simp only [sentFlits, againFlits, setSent, hup, linkAt_setLink_same, dirOf_setDir, and_self]

/-- Where a unit sends, they are those of its sender, which goes on with what waited. -/
theorem setSent_unit {u : Nat} (l again : List (Nat × Flit)) (hup : upUnit r p down = some u) :
    ∃ y, UpKeeps { SMap.get {} s.ups u with replay := l, resend := again } y
      ∧ sentFlits (setSent s r p down l again) r p down = y.replay ∧ againFlits (setSent s r p down l again) r p down = y.resend := by
  refine ⟨_, upSend_keeps (inSafe s) (inDepth r p) _ [], ?_⟩
  simp only [sentFlits, againFlits, setSent, hup, SMap.get_put_same, and_self]

theorem setSent_bufs (s : State) (r p : Nat) (down : Bool) (l again : List (Nat × Flit)) : (setSent s r p down l again).noc.bufs = s.noc.bufs := by
  rw [setSent]
  split <;> rfl

/-- What is set stays while flits are to be resent. -/
theorem setSent_resends (l : List (Nat × Flit)) {again : List (Nat × Flit)} (h : again ≠ []) :
    sentFlits (setSent s r p down l again) r p down = l ∧ againFlits (setSent s r p down l again) r p down = again := by
  cases hup : upUnit r p down with
  | none => exact setSent_router l again hup
  | some u =>
    obtain ⟨y, hkeeps, hsent, hagain⟩ := setSent_unit l again hup
    exact ⟨hsent.trans (hkeeps.same h), hagain.trans hkeeps.resend⟩

/-- The unacknowledged flits begin with those that are set. -/
theorem setSent_begins (s : State) (r p : Nat) (down : Bool) (l again : List (Nat × Flit)) :
    ∃ more, sentFlits (setSent s r p down l again) r p down = l ++ more := by
  cases hup : upUnit r p down with
  | none => exact ⟨[], (setSent_router l again hup).1.trans (List.append_nil l).symm⟩
  | some u =>
    obtain ⟨y, hkeeps, hsent, -⟩ := setSent_unit l again hup
    obtain ⟨more, hmore⟩ := hkeeps.replay
    exact ⟨more, hsent.trans hmore⟩

theorem exec_linkNak (s : State) (r p : Nat) (down : Bool) (q : Nat) : exec (.linkNak r p down q) s = .next (kept s (Machine.linkNak s r p down q)) := rfl

theorem exec_linkAcknowledgement (s : State) (r p : Nat) (down : Bool) (q : Nat) :
    exec (.linkAcknowledgement r p down q) s = .next (kept s (linkAck s r p down q)) := rfl

section Answer
variable (hclock : clocked s = true) (hcut : linkCut s r p = false)

section Known
variable (hsent : ∃ x ∈ sentFlits s r p down, x.1 = q)
include hclock hcut hsent

theorem answer_known : ¬(!(clocked s) || linkCut s r p || !((sentFlits s r p down).any (fun x => x.1 == q))) = true := by
  have hany : (sentFlits s r p down).any (fun x => x.1 == q) = true := by
    obtain ⟨x, hx, hq⟩ := hsent
    exact List.any_eq_true.mpr ⟨x, hx, beq_iff_eq.mpr hq⟩
  rw [hclock, hcut, hany]
  exact Bool.false_ne_true

theorem linkNak_known : Machine.linkNak s r p down q = setSent s r p down ((sentFlits s r p down).dropWhile (fun x => x.1 != q))
    ((sentFlits s r p down).dropWhile (fun x => x.1 != q)) := if_neg (answer_known hclock hcut hsent)

theorem linkAck_known : linkAck s r p down q = setSent s r p down ((sentFlits s r p down).dropWhile (fun x => x.1 != q)).tail
    ((againFlits s r p down).filter (fun x => ((sentFlits s r p down).dropWhile (fun x => x.1 != q)).tail.contains x)) :=
  if_neg (answer_known hclock hcut hsent)

end Known

section Unknown
variable (hsent : ∀ x ∈ sentFlits s r p down, x.1 ≠ q)
include hsent

theorem answer_unknown : (!(clocked s) || linkCut s r p || !((sentFlits s r p down).any (fun x => x.1 == q))) = true := by
  have hany : (sentFlits s r p down).any (fun x => x.1 == q) = false :=
    List.any_eq_false.mpr (fun x hx hq => hsent x hx (beq_iff_eq.mp hq))
  rw [hany]
  exact Bool.or_true _

theorem linkNak_unknown : Machine.linkNak s r p down q = s := if_pos (answer_unknown hsent)

theorem linkAck_unknown : linkAck s r p down q = s := if_pos (answer_unknown hsent)

end Unknown

end Answer

/-! ### Credits (R327) -/

section Credit
variable {c t : Nat} {toUnit : Bool} {l : List Nat}

theorem exec_creditReturn (s : State) (r p c : Nat) (toUnit : Bool) : exec (.creditReturn r p c toUnit) s = .next (kept s (creditReturn s r p c toUnit)) := rfl

/-- The state in which the oldest credit that is owed for a buffer has returned to its sender. -/
abbrev credited (s : State) (r p c : Nat) (toUnit : Bool) (l : List Nat) : State :=
  setBuf s r p c toUnit { bufAt s r p c toUnit with owed := l, used := (bufAt s r p c toUnit).used - 1 }

variable (hclock : clocked s = true) (howed : (bufAt s r p c toUnit).owed = t :: l) (hdue : t ≤ now s)
include hclock howed hdue

theorem creditReturn_router (hup : upUnit r p toUnit = none) : creditReturn s r p c toUnit = credited s r p c toUnit l := by
  simp only [creditReturn, howed, hclock, decide_eq_true hdue, Bool.and_self, if_true, hup]

theorem creditReturn_unit {u : Nat} (hup : upUnit r p toUnit = some u) : creditReturn s r p c toUnit = { credited s r p c toUnit l with
    ups := SMap.put {} s.ups u (upSend (inSafe s) (inDepth r p) { (SMap.get {} s.ups u) with
      used := (SMap.get {} s.ups u).used.set c ((SMap.get {} s.ups u).used.getD c 0 - 1) } []) } := by
  simp only [creditReturn, howed, hclock, decide_eq_true hdue, Bool.and_self, if_true, hup]
  rfl

end Credit

theorem linkSenders : LinkSenders := by
  refine ⟨fun s r p q down hclock hcut => ⟨fun hsent => ⟨?nak, ?ack⟩, fun hsent => ⟨?nakOther, ?ackOther⟩⟩,
    fun s r p down l again => ⟨setSent_bufs .., setSent_router l again, setSent_resends l, setSent_begins ..⟩,
    fun safe dep x f => ⟨fun hresend hroom hcredit hsafe => upOne_numbers ⟨hresend, hroom, hcredit, hsafe⟩, fun h => upOne_waits fun hready => ?waits⟩,
    fun s r p c t toUnit l hclock howed hdue => ⟨fun hup => ?router, fun u hup => ?unit⟩⟩
  case nak => rw [exec_linkNak, linkNak_known hclock hcut hsent]
  case ack => rw [exec_linkAcknowledgement, linkAck_known hclock hcut hsent]
  case nakOther => rw [exec_linkNak, linkNak_unknown hsent]
  case ackOther => rw [exec_linkAcknowledgement, linkAck_unknown hsent]
  case waits =>
    obtain ⟨hresend, hroom, hcredit, hsafe⟩ := hready
    rcases h with h | h | h | ⟨hin, hcls⟩
    · exact h hresend
    · exact absurd hroom (Nat.not_lt.mpr h)
    · exact absurd hcredit (Nat.not_lt.mpr h)
    · rcases hsafe with hout | hmgmt
      · exact absurd (hin.symm.trans hout) (by decide)
      · exact hcls hmgmt
  case router => rw [exec_creditReturn, creditReturn_router hclock howed hdue hup]
  case unit => rw [exec_creditReturn, creditReturn_unit hclock howed hdue hup]

end Sys2Proof.Machine
end

section
/-! PROOF. A router (R320, R325, R327, R332, R344, R345): what each of its operations leaves of buffers, links and outputs, which flit an output
picks, and how it goes on its way. -/

namespace Sys2Proof.Machine

variable {s s1 : State} {r o i c : Nat} {f : Flit} {l : List Flit}

/-! ### The head flit of an input leaves (R320, R327, R344) -/

/-- An input without its head flit. -/
def popped (s : State) (r i c : Nat) : Buf :=
  let b := bufAt s r i c false
  let f := b.flits.headD {}
  { b with flits := b.flits.tail, sentTo := [], err := 0, owed := b.owed ++ [now s + 2], left := headLeft b f - 1, prev := f.header
           drop := b.drop && decide (headLeft b f ≠ 1) }

theorem popBuf_eq (s : State) (r i c : Nat) : popBuf s r i c = setBuf s r i c false (popped s r i c) := rfl

/-- A dropped packet's flit leaves its input, and one more is counted. -/
theorem dropFlit_spec (s : State) (r i c kind : Nat) (f : Flit) (part : Option Nat) :
    (bufAt (dropFlit s r i c kind f part) r i c false).flits = (bufAt s r i c false).flits.tail
    ∧ (dropFlit s r i c kind f part).noc.dropped = (s.noc.dropped + 1) % 2 ^ 16
    ∧ (dropFlit s r i c kind f part).noc.links = s.noc.links
    ∧ (dropFlit s r i c kind f part).noc.bufUncorrected = s.noc.bufUncorrected := by
  refine ⟨?_, rfl, rfl, rfl⟩
  have hbufs : (dropFlit s r i c kind f part).noc.bufs
    = (popBuf (setBuf s r i c false { bufAt s r i c false with drop := true }) r i c).noc.bufs := rfl
  rw [bufAt_of_bufs hbufs, popBuf_eq, bufAt_setBuf_same, popped, bufAt_setBuf_same]

theorem dropFlit_message (s : State) (r i c kind : Nat) (f : Flit) (part : Option Nat) :
    ∃ m, (dropFlit s r i c kind f part).flt.inbox = s.flt.inbox ++ [m] ∧ m.detail = f.header := by
  obtain ⟨m, hinbox, -, hdetail⟩ := raise_message s kind (rqId r 0) part (netAddr r i c false) f.header
  exact ⟨m, hinbox, hdetail⟩

/-! ### A stored error of the head flit (R344) -/

/-- The state in which a correctable error of the head flit is corrected and counted. -/
def errCorrected (s : State) (r i c : Nat) : State :=
  { setBuf s r i c false { bufAt s r i c false with err := 0 } with
    noc := { (setBuf s r i c false { bufAt s r i c false with err := 0 }).noc with bufCorrected := (s.noc.bufCorrected + 1) % 2 ^ 16 } }

/-- One more uncorrectable error of a buffer is counted. -/
def errCounted (s : State) : State := { s with noc := { s.noc with bufUncorrected := (s.noc.bufUncorrected + 1) % 2 ^ 16 } }

section Met
variable (hflits : (bufAt s r i c false).flits = f :: l)
include hflits

theorem meetFlitErr_none (herr : (bufAt s r i c false).err = 0) : meetFlitErr s r i c = (s, true) := by
  simp only [meetFlitErr, hflits, herr]

theorem meetFlitErr_corrected (herr : (bufAt s r i c false).err = 1) : meetFlitErr s r i c
    = (raise (errCorrected s r i c) Kind.nocBufferCorrected (rqId r 0) (some (flitPart f)) (netAddr r i c false) f.header, true) := by
  simp only [meetFlitErr, hflits, herr, errCorrected]

/-- An error of the header, or of the copies of CLASS or PARTITION, takes the packet. -/
theorem meetFlitErr_dropped (herr : (bufAt s r i c false).err = 3 ∨ (bufAt s r i c false).err = 4) :
    ∃ kind, meetFlitErr s r i c = (dropFlit (errCounted s) r i c kind { f with header := 0 } (some (flitPart f)), false) := by
  rcases herr with herr | herr <;> simp only [meetFlitErr, hflits, herr] <;> exact ⟨_, rfl⟩

/-- Any other error poisons a payload word. -/
theorem meetFlitErr_poisoned (h0 : (bufAt s r i c false).err ≠ 0) (h1 : (bufAt s r i c false).err ≠ 1) (h3 : (bufAt s r i c false).err ≠ 3)
    (h4 : (bufAt s r i c false).err ≠ 4) : meetFlitErr s r i c
    = (raise (errCounted (setBuf s r i c false { bufAt s r i c false with err := 0, flits := poisonWord f ((bufAt s r i c false).err % 8) :: l }))
        Kind.nocPayloadPoisoned (rqId r 0) (some (flitPart f)) (netAddr r i c false) f.header, true) := by
  simp only [meetFlitErr, hflits, errCounted, List.tail_cons]

end Met

/-- What a stored error leaves when its flit survives: the links, the outputs' turns, the time, and every buffer's credits. -/
structure FlitSurvives (s s1 : State) : Prop where
  links : s1.noc.links = s.noc.links
  outs : s1.noc.outs = s.noc.outs
  time : now s1 = now s
  used : ∀ r p c toUnit, (bufAt s1 r p c toUnit).used = (bufAt s r p c toUnit).used

theorem meetFlitErr_survives (h : meetFlitErr s r i c = (s1, true)) : FlitSurvives s s1 := by
  cases hflits : (bufAt s r i c false).flits with
  | nil => simp [meetFlitErr, hflits] at h
  | cons f l =>
    by_cases h0 : (bufAt s r i c false).err = 0
    · rw [meetFlitErr_none hflits h0] at h
      cases h
      exact ⟨rfl, rfl, rfl, fun _ _ _ _ => rfl⟩
    by_cases h1 : (bufAt s r i c false).err = 1
    · rw [meetFlitErr_corrected hflits h1] at h
      cases h
      exact ⟨rfl, rfl, rfl, used_setBuf (b := { bufAt s r i c false with err := 0 }) rfl⟩
    by_cases h34 : (bufAt s r i c false).err = 3 ∨ (bufAt s r i c false).err = 4
    · obtain ⟨kind, hmet⟩ := meetFlitErr_dropped hflits h34
      exact absurd (congrArg Prod.snd (hmet.symm.trans h)) Bool.false_ne_true
    · rw [not_or] at h34
      rw [meetFlitErr_poisoned hflits h0 h1 h34.1 h34.2] at h
      cases h
      exact ⟨rfl, rfl, rfl, used_setBuf (b := { bufAt s r i c false with
        err := 0, flits := poisonWord f ((bufAt s r i c false).err % 8) :: l }) rfl⟩

/-! ### A flit is sent on an output (R327, R336) -/

/-- The state in which an output has numbered and kept a flit, and used a credit for it. -/
def sentOut (s : State) (r o : Nat) (f : Flit) : State :=
  setBuf (setLink s (feeds r o).1 (feeds r o).2.1 (setDir (linkAt s (feeds r o).1 (feeds r o).2.1) (feeds r o).2.2
      { outDir s r o with next := ((outDir s r o).next + 1) % 256, replay := (outDir s r o).replay ++ [((outDir s r o).next, f)] }))
    (feeds r o).1 (feeds r o).2.1 (flitCls f) (feeds r o).2.2
    { bufAt s (feeds r o).1 (feeds r o).2.1 (flitCls f) (feeds r o).2.2 with
      used := (bufAt s (feeds r o).1 (feeds r o).2.1 (flitCls f) (feeds r o).2.2).used + 1 }

theorem sendFlit_observed (s : State) (r o : Nat) (f : Flit) : Observed (sentOut s r o f) (sendFlit s r o f) := observe_observed (sentOut s r o f) r o 1 f

/-- What sending a flit of class `c` on an output leaves, where input `i` is another buffer than the one it feeds. -/
structure FlitSent (s t : State) (r o i c : Nat) (f : Flit) : Prop where
  replay : (outDir t r o).replay = (outDir s r o).replay ++ [((outDir s r o).next, f)]
  next : (outDir t r o).next = ((outDir s r o).next + 1) % 256
  used : (bufAt t (feeds r o).1 (feeds r o).2.1 c (feeds r o).2.2).used = (bufAt s (feeds r o).1 (feeds r o).2.1 c (feeds r o).2.2).used + 1
  input : bufAt t r i c false = bufAt s r i c false
  outs : t.noc.outs = s.noc.outs
  time : now t = now s
  faults : t.flt = s.flt

theorem sendFlit_sent (s : State) (ho : o ∈ routerPorts r) (hi : i ∈ routerPorts r) (hcls : flitCls f = c) :
    FlitSent s (sendFlit s r o f) r o i c f := by
  have hobs := sendFlit_observed s r o f
  generalize sendFlit s r o f = t at hobs
  obtain ⟨hflt, -, hclr⟩ := hobs.rest
  have hdir : outDir t r o = { outDir s r o with
      next := ((outDir s r o).next + 1) % 256, replay := (outDir s r o).replay ++ [((outDir s r o).next, f)] } := by
    have hlink : linkAt (sentOut s r o f) (feeds r o).1 (feeds r o).2.1 = setDir (linkAt s (feeds r o).1 (feeds r o).2.1) (feeds r o).2.2
      { outDir s r o with next := ((outDir s r o).next + 1) % 256, replay := (outDir s r o).replay ++ [((outDir s r o).next, f)] } :=
      linkAt_setLink_same s _ _ _
    rw [outDir, linkAt_of_links hobs.links, hlink, dirOf_setDir]
  refine ⟨by rw [hdir], by rw [hdir], ?used, ?input, hobs.outs, congrArg (fun x => x.time) hclr, hflt⟩
  case used => rw [bufAt_of_bufs hobs.bufs, ← hcls, sentOut, bufAt_setBuf_same]
  case input =>
    rw [bufAt_of_bufs hobs.bufs, sentOut, bufAt_setBuf_other (hcls ▸ feeds_no_input ho hi)]
    rfl

/-! ### The flit that an output picks (R332, R345) -/

/-- An output picks a class that can be sent and an input that has a flit of it; MGMT goes before the other classes, and in Safe it goes
alone. -/
theorem pickFlit_spec (h : pickFlit s r o = some (c, i)) : outReady s r o c = true ∧ pickInput s r o c = some i
    ∧ (c ≠ 0 → inSafe s = false ∧ (outReady s r o 0 = false ∨ pickInput s r o 0 = none)) := by
  have hserved (c' : Nat) (x : Nat × Nat) :
      (if outReady s r o c' then (pickInput s r o c').map (fun i => (c', i)) else none) = some x →
        outReady s r o c' = true ∧ pickInput s r o c' = some x.2 ∧ c' = x.1 := by
    intro hx
    obtain ⟨hready, hx⟩ := Option.ite_none_right_eq_some.mp hx
    obtain ⟨j, hj, rfl⟩ := Option.map_eq_some_iff.mp hx
    exact ⟨hready, hj, rfl⟩
  rw [pickFlit, List.head?_filterMap, List.findSome?_cons] at h
  cases hmgmt : (if outReady s r o 0 then (pickInput s r o 0).map (fun i => (0, i)) else none : Option (Nat × Nat)) with
  | some x =>
    obtain rfl : x = (c, i) := by simpa [hmgmt] using h
    obtain ⟨hready, hpick, rfl⟩ := hserved 0 _ hmgmt
    exact ⟨hready, hpick, fun hc => absurd rfl hc⟩
  | none =>
    rw [hmgmt] at h
    obtain ⟨c', hc', hx⟩ := List.exists_of_findSome?_eq_some h
    obtain ⟨hready, hpick, rfl⟩ := hserved c' _ hx
    refine ⟨hready, hpick, fun _ => ⟨?_, ?_⟩⟩
    · cases hsafe : inSafe s with
      | false => rfl
      | true => simp [hsafe] at hc'
    · cases hno : outReady s r o 0 with
      | false => exact .inl rfl
      | true => exact .inr (by simpa [hno] using hmgmt)

/-! ### Forwarding -/

/-- An output's turn goes on behind the input and class that it has served. -/
def servedAt (s : State) (r o i c left : Nat) : State :=
  { s with noc := { s.noc with outs := SMap.put {} s.noc.outs (portKey r o) (servedOut (outAt s r o) c i left) } }

/-- A flit that every output has leaves its input; any other stays there, marked as sent on this output. -/
def inputServed (s t : State) (r o i c : Nat) (f : Flit) : State :=
  if (flitOuts s r f).all (fun x => decide (x = o) || (bufAt s r i c false).sentTo.contains x) then popBuf t r i c
  else setBuf t r i c false { bufAt s r i c false with sentTo := o :: (bufAt s r i c false).sentTo }

theorem exec_routerForward (s : State) (r o : Nat) : exec (.routerForward r o) s = .next (kept s (routerForward s r o)) := rfl

section Router
variable (hclock : clocked s = true) (ho : o ∈ routerPorts r)
include hclock ho

theorem router_works : ¬(!(clocked s) || !((routerPorts r).contains o)) = true := by
  rw [hclock, List.contains_iff_mem.mpr ho]
  exact Bool.false_ne_true

theorem routerForward_cut (hcut : cutHead s r = some (i, c)) : routerForward s r o = popBuf s r i c := by
  rw [routerForward, if_neg (router_works hclock ho), hcut]

section Whole
variable (hcut : cutHead s r = none)
include hcut

theorem routerForward_bad (hbad : badHead s r = some (i, c, f)) :
    routerForward s r o = dropFlit s r i c Kind.nocHeaderInvalid f (some (flitPart f)) := by
  rw [routerForward, if_neg (router_works hclock ho), hcut, hbad]

section Sound
variable (hbad : badHead s r = none)
include hbad

/-- Flits to resend go first. -/
theorem routerForward_again {x : Nat × Flit} {l : List (Nat × Flit)} (hagain : (outDir s r o).resend = x :: l) :
    routerForward s r o = setLink s (feeds r o).1 (feeds r o).2.1 (setDir (linkAt s (feeds r o).1 (feeds r o).2.1) (feeds r o).2.2
      { outDir s r o with resend := l }) := by
  rw [outDir] at hagain
  simp only [routerForward, if_neg (router_works hclock ho), hcut, hbad, hagain, outDir]

section Picks
variable (hagain : (outDir s r o).resend = []) (hpick : pickFlit s r o = some (c, i))
include hagain hpick

theorem routerForward_lost (hmet : meetFlitErr s r i c = (s1, false)) : routerForward s r o = s1 := by
  rw [outDir] at hagain
  simp only [routerForward, if_neg (router_works hclock ho), hcut, hbad, hagain, hpick, hmet, Bool.not_false, if_true]

theorem routerForward_sends (hmet : meetFlitErr s r i c = (s1, true)) (hflits : (bufAt s1 r i c false).flits = f :: l) :
    routerForward s r o = servedAt (inputServed s1 (sendFlit s1 r o f) r o i c f) r o i c (headLeft (bufAt s1 r i c false) f) := by
  rw [outDir] at hagain
  simp only [routerForward, if_neg (router_works hclock ho), hcut, hbad, hagain, hpick, hmet, hflits, Bool.not_true, Bool.false_eq_true, if_false,
    servedAt, inputServed]

end Picks

end Sound

end Whole

end Router

/-- What serving an input leaves as it was: links, outputs' turns, fault messages, and every buffer's credits. -/
theorem inputServed_keeps {t : State} (hinput : bufAt t r i c false = bufAt s r i c false) :
    (inputServed s t r o i c f).noc.links = t.noc.links ∧ (inputServed s t r o i c f).noc.outs = t.noc.outs
    ∧ (inputServed s t r o i c f).flt = t.flt
    ∧ ∀ r' p' c' toUnit, (bufAt (inputServed s t r o i c f) r' p' c' toUnit).used = (bufAt t r' p' c' toUnit).used := by
  have hsame : (bufAt s r i c false).used = (bufAt t r i c false).used := by rw [hinput]
  rw [inputServed]
  split
  · exact ⟨rfl, rfl, rfl, used_setBuf (b := popped t r i c) rfl⟩
  · exact ⟨rfl, rfl, rfl, used_setBuf (b := { bufAt s r i c false with sentTo := o :: (bufAt s r i c false).sentTo }) hsame⟩

theorem inputServed_last {t : State} (hinput : bufAt t r i c false = bufAt s r i c false)
    (hall : ∀ x ∈ flitOuts s r f, x = o ∨ x ∈ (bufAt s r i c false).sentTo) :
    (bufAt (inputServed s t r o i c f) r i c false).flits = (bufAt s r i c false).flits.tail
    ∧ (bufAt (inputServed s t r o i c f) r i c false).owed = (bufAt s r i c false).owed ++ [now t + 2] := by
  have hdone : (flitOuts s r f).all (fun x => decide (x = o) || (bufAt s r i c false).sentTo.contains x) = true := by simpa using hall
  rw [inputServed, if_pos hdone, popBuf_eq, bufAt_setBuf_same, popped, hinput]
  exact ⟨rfl, rfl⟩

theorem inputServed_more {t : State} (hmore : ∃ x ∈ flitOuts s r f, x ≠ o ∧ x ∉ (bufAt s r i c false).sentTo) :
    (bufAt (inputServed s t r o i c f) r i c false).flits = (bufAt s r i c false).flits
    ∧ (bufAt (inputServed s t r o i c f) r i c false).sentTo = o :: (bufAt s r i c false).sentTo := by
  have hnot : ¬(flitOuts s r f).all (fun x => decide (x = o) || (bufAt s r i c false).sentTo.contains x) = true := by simpa using hmore
  rw [inputServed, if_neg hnot, bufAt_setBuf_same]
  exact ⟨rfl, rfl⟩

theorem routers : Routers := by
  refine ⟨fun s s1 r o i c f l alive hclock ho hcut hbad hagain hpick hmet => ⟨fun halive => ?lost, fun halive hflits hcls hi => ?sends⟩,
    fun s r o hclock ho => ⟨fun i c hcut => ?cut, fun i c f hcut hbad => ?bad, fun x l hcut hbad hagain => ?again⟩,
    fun s r i c kind f part _ _ => ?drop,
    fun s r i c f l hflits => ⟨meetFlitErr_none hflits, fun herr => ?corrected, fun herr => ?dropped, fun herr => ?poisoned⟩,
    fun s r o c i => pickFlit_spec⟩
  case lost =>
    subst halive
    rw [exec_routerForward, routerForward_lost hclock ho hcut hbad hagain hpick hmet]
  case sends =>
    subst halive
    refine leaves_of_eq (by rw [exec_routerForward, routerForward_sends hclock ho hcut hbad hagain hpick hmet hflits]) ?_
    have hlives := meetFlitErr_survives hmet
    have hsent := sendFlit_sent s1 ho hi hcls
    generalize sendFlit s1 r o f = t at hsent
    obtain ⟨hlinks, houts, hfaults, hused⟩ := inputServed_keeps (o := o) (f := f) hsent.input
    have hlast := inputServed_last (o := o) (f := f) hsent.input
    have hmore := inputServed_more (t := t) (s := s1) (r := r) (o := o) (i := i) (c := c) (f := f)
    generalize inputServed s1 t r o i c f = x at hlinks houts hfaults hused hlast hmore
    have hdir : outDir (kept s (servedAt x r o i c (headLeft (bufAt s1 r i c false) f))) r o = outDir t r o :=
      congrArg (fun y => dirOf y (feeds r o).2.2) (linkAt_of_links hlinks _ _)
    have hdir1 : outDir s1 r o = outDir s r o := congrArg (fun y => dirOf y (feeds r o).2.2) (linkAt_of_links hlives.links _ _)
    have hturn : outAt x r o = outAt s r o := by rw [outAt, houts, hsent.outs, hlives.outs, outAt]
    rw [hdir, ← hdir1]
    refine ⟨hsent.replay, hsent.next, ?_, fun hall => ?_, fun hsome => ?_, ?_, hfaults.trans hsent.faults⟩
    · exact (hused ..).trans (hsent.used.trans (congrArg (· + 1) (hlives.used ..)))
    · obtain ⟨hleft, howed⟩ := hlast hall
      rw [hflits] at hleft
      rw [hsent.time, hlives.time] at howed
      exact ⟨hleft, howed⟩
    · obtain ⟨hleft, hto⟩ := hmore hsome
      exact ⟨hleft.trans hflits, hto⟩
    · rw [← hturn]
      exact SMap.get_put_same ..
  case cut => rw [exec_routerForward, routerForward_cut hclock ho hcut]
  case bad => rw [exec_routerForward, routerForward_bad hclock ho hcut hbad]
  case again => rw [exec_routerForward, routerForward_again hclock ho hcut hbad hagain]
  case drop =>
    obtain ⟨hflits, hdropped, hlinks, -⟩ := dropFlit_spec s r i c kind f part
    exact ⟨hflits, hdropped, hlinks, dropFlit_message ..⟩
  case corrected =>
    rw [meetFlitErr_corrected hflits herr]
    exact ⟨rfl, (congrArg Buf.flits (bufAt_setBuf_same s r i c false { bufAt s r i c false with err := 0 })).trans hflits, rfl⟩
  case dropped =>
    obtain ⟨kind, hmet⟩ := meetFlitErr_dropped hflits herr
    obtain ⟨hleft, -, -, hcount⟩ := dropFlit_spec (errCounted s) r i c kind { f with header := 0 } (some (flitPart f))
    rw [hmet]
    exact ⟨rfl, hleft.trans (congrArg List.tail hflits), hcount⟩
  case poisoned =>
    rw [meetFlitErr_poisoned hflits (by omega) (by omega) (by omega) (by omega)]
    exact ⟨rfl, congrArg Buf.flits (bufAt_setBuf_same s r i c false
      { bufAt s r i c false with err := 0, flits := poisonWord f ((bufAt s r i c false).err % 8) :: l })⟩

/-- Settles O45: the receivers and the senders of the links, and the routers. -/
theorem linksAndRouters : Obligations.LinksAndRouters := ⟨linkReceivers, linkSenders, routers⟩

end Sys2Proof.Machine
end

section
/-! PROOF. What every command and every step keeps: the queue of the commands that wait, and the fuses but for those that two commands
blow (R502, R510, R511). -/

namespace Sys2Proof.Machine

/-! ### How fuses are blown -/

/-- Fuses blown after fuses were blown: both together come from the first. -/
theorem FusesFrom.trans {f : Fuses} {s t : State} (h : FusesFrom f s) (h' : FusesFrom s.fuses t) : FusesFrom f t := by
  obtain ⟨hfloor, hrev, hrest⟩ := h
  obtain ⟨hfloor', hrev', hrest'⟩ := h'
  refine ⟨hfloor.trans hfloor', fun k hk => hrev' k (hrev k hk), ?_⟩
  rw [← hrest'] at hrest
  exact hrest

/-- A settled command leaves the fuses as they are. -/
theorem fusesFrom_kept (s t : State) : FusesFrom s.fuses (kept s t) := fusesFrom_self s

/-- A revocation fuse that is blown stays blown when another is. -/
theorem bit_or_left {a : Nat} (b : Nat) {k : Nat} (h : bit a k = true) : bit (a ||| b) k = true := by
  simp only [bit, Nat.shiftRight_or_distrib, beq_iff_eq, ← Nat.and_one_is_mod, Nat.and_or_distrib_right] at h ⊢
  rw [h]
  rcases Nat.mod_two_eq_zero_or_one (b >>> k) with hb | hb <;> rw [Nat.and_one_is_mod, hb] <;> rfl

/-- A blown revocation fuse (R511). -/
theorem fusesFrom_revoked {s t : State} (k : Nat) (h : t.fuses = { s.fuses with revoked := s.fuses.revoked ||| 2 ^ k }) :
    FusesFrom s.fuses t := by
  rw [FusesFrom, h]
  exact ⟨Nat.le_refl _, fun _ hj => bit_or_left _ hj, rfl⟩

/-- A raised floor (R510). -/
theorem fusesFrom_floor {s t : State} (n : Nat) (h : t.fuses = { s.fuses with floor := max s.fuses.floor n }) : FusesFrom s.fuses t := by
  rw [FusesFrom, h]
  exact ⟨Nat.le_max_left _ _, fun _ hj => hj, rfl⟩

/-- An endpoint out of service withholds the command; otherwise it acts. -/
theorem fusesFrom_mctpReach {s t : State} (h : FusesFrom s.fuses t) : FusesFrom s.fuses (mctpReach s t) := by
  unfold mctpReach ifIn
  split
  · exact fusesFrom_self s
  · exact h

/-- REVOKE_KEY blows one revocation fuse, or none. -/
theorem fusesFrom_revokeKey (s : State) (party : Nat) (stmt key sig : List Byte) : FusesFrom s.fuses (revokeKey s party stmt key sig) := by
  unfold revokeKey
  split
  · exact fusesFrom_self s
  split
  · exact fusesFrom_self s
  split
  · exact fusesFrom_self s
  next k _ =>
    split
    · exact fusesFrom_self s
    split
    · exact fusesFrom_self s
    · exact fusesFrom_revoked k rfl

/-- SECURITY_FLOOR_RAISE raises the floor, or leaves it. -/
theorem fusesFrom_floorRaise (s : State) (party n : Nat) : FusesFrom s.fuses (floorRaise s party n) := by
  unfold floorRaise
  repeat' split
  case isFalse.isFalse.isFalse.isFalse => exact fusesFrom_floor n rfl
  all_goals exact fusesFrom_self s

/-! ### Every command, every step -/

/-- Every command completes with the queue as it was and the fuses as they were, but for those that REVOKE_KEY and
SECURITY_FLOOR_RAISE blow. -/
theorem exec_completes (c : Instr) (s : State) : ∃ t, exec c s = .next t ∧ t.pending = s.pending ∧ FusesFrom s.fuses t := by
  cases c with
  | revokeKey party stmt key sig => exact ⟨_, rfl, rfl, fusesFrom_mctpReach (fusesFrom_revokeKey s party stmt key sig)⟩
  | securityFloorRaise party n => exact ⟨_, rfl, rfl, fusesFrom_mctpReach (fusesFrom_floorRaise s party n)⟩
  | _ => exact ⟨_, rfl, rfl, fusesFrom_kept s _⟩

/-- A step keeps the fuses but for those that its command blows. -/
theorem fusesFrom_step {s t : State} (h : step s = .next t) : FusesFrom s.fuses t := by
  cases hq : s.pending with
  | nil =>
    rw [step_of_idle hq] at h
    cases h
    exact fusesFrom_self s
  | cons c q =>
    obtain ⟨x, hx, -, hfuses⟩ := exec_completes c { s with pending := q }
    rw [step, hq] at h
    cases hx.symm.trans h
    exact hfuses

/-- Settles O4: each step comes from the one before it by blowing fuses only. -/
theorem stepKeepsFusesBlown : Obligations.StepKeepsFusesBlown := fun _ _ _ h hstep => h.trans (fusesFrom_step hstep)

/-- Settles O3: every command settles, and none touches the queue. -/
theorem commandsCompleteAndKeepTheQueue : Obligations.CommandsCompleteAndKeepTheQueue := fun c s =>
  (exec_completes c s).imp fun _ ⟨hexec, hpending, _⟩ => ⟨hexec, hpending⟩

/-- Settles O1: the front command is the one that a step runs. -/
theorem stepRunsFrontCommand : Obligations.StepRunsFrontCommand := fun _ _ _ => rfl

end Sys2Proof.Machine
end

section
/-! PROOF. Entry into Operational and the return from Safe (R478 to R480, R522): what the return from Safe leaves of the clearing, the
clocks and the service level. -/

namespace Sys2Proof.Machine

/-! ### What the return from Safe leaves alone (R480) -/

/-- The registers that decide the service level and whether the firmware runs are the same. -/
structure SameControl (s t : State) : Prop where
  clr : t.clr = s.clr
  clk : t.clk = s.clk
  chk : t.chk = s.chk
  ckr : t.ckr = s.ckr
  ldg : t.ldg = s.ldg

variable {s t x : State}

theorem SameControl.trans (h : SameControl s t) (h' : SameControl t x) : SameControl s x :=
  ⟨h'.clr.trans h.clr, h'.clk.trans h.clk, h'.chk.trans h.chk, h'.ckr.trans h.ckr, h'.ldg.trans h.ldg⟩

/-- Discarding the records one by one changes the schedulers only. -/
theorem foldl_setRec_sch (l : List (Nat × Rec)) (f : Nat × Rec → Rec) (s : State) :
    ∃ sch, l.foldl (fun s x => setRec s x.1 (f x)) s = { s with sch := sch } := by
  induction l generalizing s with
  | nil => exact ⟨s.sch, rfl⟩
  | cons y l ih =>
    obtain ⟨sch, h⟩ := ih (setRec s y.1 (f y))
    exact ⟨sch, h⟩

/-- The scheduler's return from Safe changes the schedulers only. -/
theorem schReset_sch (s : State) : ∃ sch, schReset s = { s with sch := sch } := by
  obtain ⟨sch, h⟩ := foldl_setRec_sch (s.sch.recs.filter (fun x => decide (x.2.state ≠ 0)))
    (fun x => { gen := nextGen x.1 x.2.gen, gone := x.2.gone }) s
  simp only [schReset, h]
  exact ⟨_, rfl⟩

/-- Discarding run state leaves the control registers alone, unit by unit. -/
theorem runCleared_control (s : State) : SameControl s (runCleared s) := by
  have htiles : SameControl s { s with tiles := s.tiles.map tileSafe } := ⟨rfl, rfl, rfl, rfl, rfl⟩
  have hsif (s : State) : SameControl s (sifSafe s) := by unfold sifSafe; exact ⟨rfl, rfl, rfl, rfl, rfl⟩
  have hctx (s : State) : SameControl s (ctxSafe s) := by unfold ctxSafe; exact ⟨rfl, rfl, rfl, rfl, rfl⟩
  have hsch (s : State) : SameControl s (schReset s) := by
    obtain ⟨sch, h⟩ := schReset_sch s
    rw [h]
    exact ⟨rfl, rfl, rfl, rfl, rfl⟩
  have hnet (s : State) : SameControl s (netReset s) := by unfold netReset; exact ⟨rfl, rfl, rfl, rfl, rfl⟩
  have hgate (s : State) : SameControl s (gateSafe s) := by unfold gateSafe; exact ⟨rfl, rfl, rfl, rfl, rfl⟩
  have hhub (s : State) : SameControl s (hubSafe s) := by unfold hubSafe; exact ⟨rfl, rfl, rfl, rfl, rfl⟩
  have hlock (s : State) : SameControl s (lockSafe s) := by unfold lockSafe; exact ⟨rfl, rfl, rfl, rfl, rfl⟩
  exact htiles.trans ((hsif _).trans ((hctx _).trans ((hsch _).trans ((hnet _).trans ((hgate _).trans ((hhub _).trans (hlock _)))))))

/-- What the bridges hold for copies is theirs alone. -/
theorem copyForget_control (s : State) (b : Nat) : SameControl s (copyForget s b) := by
  unfold copyForget setHif
  exact ⟨rfl, rfl, rfl, rfl, rfl⟩

/-- A change of ring sets leaves the control registers alone. -/
theorem ringsApply_control (s : State) (p : RingSet → Bool) (f : RingSet → RingSet) : SameControl s (ringsApply s p f) := by
  unfold ringsApply
  refine SameControl.trans ?_ ((copyForget_control _ 0).trans (copyForget_control _ 1))
  exact ⟨rfl, rfl, rfl, rfl, rfl⟩

/-- Setting regions, ring sets and partitions leaves the control registers alone. -/
theorem unitsSafe_control (s : State) : SameControl s (unitsSafe s) := by
  have hspr : SameControl s (sprSafe s) := by unfold sprSafe; exact ⟨rfl, rfl, rfl, rfl, rfl⟩
  have hdisarm (s : State) : SameControl s (disarmAll s) := by unfold disarmAll; exact ⟨rfl, rfl, rfl, rfl, rfl⟩
  exact hspr.trans ((ringsApply_control _ _ _).trans (hdisarm _))

/-! ### Pending messages (R393) -/

/-- Sending messages changes what has been sent only. -/
theorem foldl_emit_sent {α : Type} (l : List α) (f : α → OutMsg) (s : State) :
    l.foldl (fun s v => emit s (f v)) s = { s with sent := s.sent ++ l.map f } := by
  induction l generalizing s with
  | nil => simp
  | cons v l ih =>
    rw [List.foldl_cons, ih]
    simp [emit]

/-- The pending messages of a function change its pending bits and what has been sent. -/
theorem sendPending_fns (s : State) (b f : Nat) : ∃ fns sent, sendPending s b f = { s with fns := fns, sent := sent } := by
  unfold sendPending
  split
  · exact ⟨s.fns, s.sent, rfl⟩
  · simp only [foldl_emit_sent]
    exact ⟨_, _, rfl⟩

/-- The same for the functions of a list. -/
theorem sendPendings_fns (l : List (Nat × Nat)) (s : State) :
    ∃ fns sent, l.foldl (fun s x => sendPending s x.1 x.2) s = { s with fns := fns, sent := sent } := by
  induction l generalizing s with
  | nil => exact ⟨s.fns, s.sent, rfl⟩
  | cons x l ih =>
    obtain ⟨fns, sent, h⟩ := sendPending_fns s x.1 x.2
    obtain ⟨fns', sent', h'⟩ := ih (sendPending s x.1 x.2)
    exact ⟨fns', sent', by rw [List.foldl_cons, h', h]⟩

/-! ### The statement -/

/-- The state that a return from Safe reaches in Configuration, before its messages leave. -/
def returned (s : State) : State :=
  let x := unitsSafe (runCleared s)
  { x with clr := { x.clr with mode := .configuration }, flt := { x.flt with returning := none, reenter := false } }

/-- The firmware runs after the return where it ran before, and bring-up has reached Operational where it had. -/
theorem returned_firmware (s : State) : fwRuns (returned s) = fwRuns s ∧ (returned s).ckr = s.ckr := by
  obtain ⟨hclr, hclk, hchk, hckr, -⟩ := (runCleared_control s).trans (unitsSafe_control _)
  refine ⟨?_, hckr⟩
  simp only [returned, fwRuns, supClocked, hclr, hclk, hchk]

/-- A return that nothing interrupts, of a part that had reached Operational, ends at STEP 0x0A with its service level computed anew. -/
theorem safeReturn_reached (hfw : fwRuns s = true) (hclock : clocked s = true) (hret : s.flt.returning.isSome = true)
    (hre : s.flt.reenter = false) (hreached : s.ckr.reached = true) :
    safeReturn s = allFns.foldl (fun s x => sendPending s x.1 x.2) (setStep (refreshService (returned s)) 0x0A) := by
  obtain ⟨hfw', hckr⟩ := returned_firmware s
  have hsup : supClocked s = true := by
    simp only [fwRuns, Bool.and_eq_true] at hfw
    exact hfw.1.1
  have hfw2 : fwRuns (returned s) = true := hfw'.trans hfw
  have hreached2 : (returned s).ckr.reached = true := by rw [hckr, hreached]
  unfold safeReturn
  rw [if_neg (by simp [hclock, hsup, hret])]
  change (if s.flt.reenter then _ else allFns.foldl _ (if !(fwRuns (returned s)) then _ else if (returned s).ckr.reached then _ else _)) = _
  rw [hre, hfw2, hreached2]
  rfl

/-- Where one of R522's conditions does not hold the part does not enter Operational. -/
theorem operationalEntry_held (h : s.clr.service ≠ 2 ∨ s.clr.hold = true ∨ s.prt.custody = 0 ∨ fltCause s ≠ 0) : operationalEntry s = s := by
  unfold operationalEntry
  rcases h with h | h | h | h <;> simp [h]

/-- Settles O6: the guards of the entry, and the service level that the return computes. -/
theorem operationalEntry_holds : Obligations.OperationalEntry := by
  refine ⟨fun s hfw hclock hmode hstep hservice hhold hcustody hcause => ?_, fun s h => ?_, fun s hfw hclock hret hre hreached => ?_⟩
  · refine settled_of_keeps ?_ ⟨rfl, rfl⟩
    simp [operationalEntry, hfw, hclock, hmode, hstep, hservice, hhold, hcustody, hcause, setStep]
  · exact settled_of_keeps (operationalEntry_held h) ⟨rfl, rfl⟩
  · obtain ⟨fns, sent, h⟩ := sendPendings_fns allFns (setStep (refreshService (returned s)) 0x0A)
    refine ⟨_, settled_of_eq ((safeReturn_reached hfw hclock hret hre hreached).trans h), rfl, rfl⟩

end Sys2Proof.Machine
end

section
/-! PROOF. What custody and the ledger write: their own registers, the loader's services, fault messages and messages to the parties
(R448, R452, R476, R534, R540), said once for each of their operations. -/

namespace Sys2Proof.Machine

/-- `t` is `s` after custody and the ledger have done something: only their registers, the loader services that hear of it, fault
messages and messages that leave the part are new. -/
def Recorded (s t : State) : Prop := ∃ prt ldg klb ms outs, t = { s with
  prt := prt, ldg := ldg, klb := klb, flt := { s.flt with inbox := s.flt.inbox ++ ms }, sent := s.sent ++ outs }

namespace Recorded

variable {s t x : State}

theorem refl (s : State) : Recorded s s := ⟨s.prt, s.ldg, s.klb, [], [], by simp⟩

theorem trans (h : Recorded s t) (h' : Recorded t x) : Recorded s x := by
  obtain ⟨_, _, _, ms, outs, rfl⟩ := h
  obtain ⟨prt, ldg, klb, ms', outs', rfl⟩ := h'
  exact ⟨prt, ldg, klb, ms ++ ms', outs ++ outs', by simp⟩

theorem foldl {α : Type} {f : State → α → State} (h : ∀ y a, Recorded y (f y a)) (l : List α) (s : State) : Recorded s (l.foldl f s) := by
  induction l generalizing s with
  | nil => exact refl s
  | cons a l ih => exact (h s a).trans (ih _)

/-- The registers of custody change. -/
theorem prt (s : State) (p : Prt) : Recorded s { s with prt := p } := ⟨p, s.ldg, s.klb, [], [], by simp⟩

/-- Those of the ledger change. -/
theorem ldg (s : State) (l : Ldg) : Recorded s { s with ldg := l } := ⟨s.prt, l, s.klb, [], [], by simp⟩

theorem emit (s : State) (m : OutMsg) : Recorded s (Machine.emit s m) := ⟨s.prt, s.ldg, s.klb, [], [m], by simp [Machine.emit]⟩

theorem raiseAbout (s : State) (kind reporter subject : Nat) (part : Option Nat) (addr detail : Nat) (orphan : Option Nat) :
    Recorded s (Machine.raiseAbout s kind reporter subject part addr detail orphan) :=
  ⟨s.prt, s.ldg, s.klb, [_], [], by rw [List.append_nil]; rfl⟩

theorem raise (s : State) (kind reporter : Nat) (part : Option Nat) (addr detail : Nat) :
    Recorded s (Machine.raise s kind reporter part addr detail) := raiseAbout s kind reporter _ part addr detail none

/-! ### The ledger -/

theorem queueWrite (s : State) (w : LWrite) : Recorded s (Machine.queueWrite s w) := by
  unfold Machine.queueWrite
  split
  · exact refl s
  · exact ldg s _

theorem modCount (s : State) (f : LCount → LCount) : Recorded s (Machine.modCount s f) := ldg s _

theorem askCheckpoint (s : State) (ws : List Nat) : Recorded s (Machine.askCheckpoint s ws) := by
  unfold Machine.askCheckpoint
  split
  · exact refl s
  split
  · exact ldg s _
  · exact queueWrite s _

theorem writeSettings (s : State) (bound : Nat) : Recorded s (Machine.writeSettings s bound) := (ldg s _).trans (queueWrite _ _)

theorem writeKeys (s : State) (change : Nat) : Recorded s (Machine.writeKeys s change) := queueWrite s _

theorem writeCommit (s : State) (id kind part : Nat) (remove : Bool) (digest : Nat) :
    Recorded s (Machine.writeCommit s id kind part remove digest) := queueWrite s _

theorem queueEvent (s : State) (type : Nat) (head : List Byte) : Recorded s (Machine.queueEvent s type head) := queueWrite s _

theorem recordFailed (s : State) (u st : Nat) : Recorded s (Machine.recordFailed s u st) := by
  unfold Machine.recordFailed
  split
  · exact refl s
  · exact modCount s _

/-! ### Custody -/

theorem custodyState (s : State) (v : Nat) : Recorded s (Machine.custodyState s v) := (prt s _).trans (raise _ _ _ _ _ _)

theorem cancelReplace (s : State) : Recorded s (Machine.cancelReplace s) := by
  unfold Machine.cancelReplace
  split
  · exact (prt s _).trans (custodyState _ _)
  · exact refl s

theorem klbHear (s : State) (st : Stage) (status : Nat) : Recorded s (Machine.klbHear s st status) :=
  ⟨s.prt, s.ldg, _, [], [], by rw [List.append_nil, List.append_nil]; rfl⟩

theorem closeStage (s : State) (st : Stage) (status reason : Nat) (kind : Option Nat) :
    Recorded s (Machine.closeStage s st status reason kind) := by
  unfold Machine.closeStage
  refine trans ?_ (trans ((emit _ _).trans (emit _ _)) (klbHear _ st status))
  cases kind with
  | none => exact prt s _
  | some k => exact (prt s _).trans (raise _ _ _ _ _ _)

theorem refuseStage (s : State) (st : Stage) (reason : Nat) : Recorded s (Machine.refuseStage s st reason) := closeStage s st _ _ _

theorem closeStages (s : State) (reason : Nat) : Recorded s (Machine.closeStages s reason) := foldl (fun y st => refuseStage y st reason) _ s

theorem finishCommit (s : State) (st : Stage) : Recorded s (Machine.finishCommit s st) := by
  unfold Machine.finishCommit
  refine trans ?_ ((writeCommit _ _ _ _ _ _).trans (closeStage _ _ _ _ _))
  split
  · exact prt s _
  · exact (prt s _).trans (writeKeys _ _)
  · exact (prt s _).trans (custodyState _ _)
  · exact (prt s _).trans ((custodyState _ _).trans (writeKeys _ _))

theorem settleCommit (s : State) : Recorded s (Machine.settleCommit s) := by
  unfold Machine.settleCommit
  split
  · exact refl s
  split
  · exact refl s
  split
  · split
    · exact writeSettings s _
    · exact refl s
  · exact finishCommit s _

end Recorded

end Sys2Proof.Machine
end

section
/-! PROOF. Resets (R502, R504, R512, R513): what the reload of the firmware changes, and what a chip reset and a supervisor reset leave. -/

namespace Sys2Proof.Machine

variable {s t x : State}

/-! ### The images are tried (R510, R512) -/

/-- `t` is `s` after images of the flash have been tried: the running image and STEP, what the controller keeps of the image, the
count of rejected ones, and fault messages are all that is new. -/
def ImagesTried (s t : State) : Prop := ∃ slot run step rejects sec digest key ms, t = { s with
  clr := { s.clr with fwSlot := slot, fwRunning := run, step := step }
  ckr := { s.ckr with rejects := rejects, secVersion := sec, imageDigest := digest, signKey := key }
  flt := { s.flt with inbox := s.flt.inbox ++ ms } }

theorem ImagesTried.refl (s : State) : ImagesTried s s := ⟨_, _, _, _, _, _, _, [], by rw [List.append_nil]⟩

theorem ImagesTried.trans (h : ImagesTried s t) (h' : ImagesTried t x) : ImagesTried s x := by
  obtain ⟨_, _, _, _, _, _, _, ms, rfl⟩ := h
  obtain ⟨_, _, _, _, _, _, _, ms', rfl⟩ := h'
  exact ⟨_, _, _, _, _, _, _, ms ++ ms', by rw [← List.append_assoc]⟩

theorem setStep_tried (s : State) (n : Nat) : ImagesTried s (setStep s n) := ⟨_, _, n, _, _, _, _, [], by rw [List.append_nil]; rfl⟩

theorem startImage_tried (s : State) (slot : Nat) (i : FwImage) : ImagesTried s (startImage s slot i) :=
  ⟨slot, true, _, _, _, _, _, [], by rw [List.append_nil]; rfl⟩

/-- The state in which the image of slot `k` has been rejected: it is counted and recorded. -/
def slotRejected (s : State) (k c : Nat) : State := imageRejected { s with ckr := { s.ckr with rejects := (s.ckr.rejects + 1) % 256 } } k c

theorem slotRejected_tried (s : State) (k c : Nat) : ImagesTried s (slotRejected s k c) := ⟨_, _, _, _, _, _, _, [_], rfl⟩

/-- A slot whose image the ROM accepts is the one that runs. -/
theorem trySlots_of_accepted {k : Nat} (l : List Nat) (h : imageFault s (slotImage s k) = none) :
    trySlots s (k :: l) = startImage s (k + 1) (slotImage s k) := by
  delta trySlots
  simp only [trySlots._f, h]

/-- After a rejected image the next slot is tried. -/
theorem trySlots_of_rejected {k c : Nat} (l : List Nat) (h : imageFault s (slotImage s k) = some c) :
    trySlots s (k :: l) = trySlots (slotRejected s k c) l := by
  delta trySlots
  simp only [trySlots._f, h]
  rfl

theorem trySlots_nil (s : State) : trySlots s [] = s := by
  delta trySlots
  rfl

theorem trySlots_tried (l : List Nat) (s : State) : ImagesTried s (trySlots s l) := by
  induction l generalizing s with
  | nil =>
    rw [trySlots_nil]
    exact .refl s
  | cons k l ih =>
    cases h : imageFault s (slotImage s k) with
    | none =>
      rw [trySlots_of_accepted l h]
      exact startImage_tried s _ _
    | some c =>
      rw [trySlots_of_rejected l h]
      exact (slotRejected_tried s k c).trans (ih _)

/-- Where no image runs the part waits for a recovery image (R512). -/
theorem ImagesTried.waits (h : ImagesTried s t) : ImagesTried s (if t.clr.fwRunning then t else setStep t 0x0E) := by
  split
  · exact h
  · exact h.trans (setStep_tried t _)

theorem loadFirmware_tried (s : State) : ImagesTried s (loadFirmware s) := by
  unfold loadFirmware
  apply ImagesTried.waits
  split
  · exact setStep_tried s _
  · exact (setStep_tried s _).trans (trySlots_tried _ _)

/-! ### The supervisor reset (R502, R513) -/

/-- A supervisor reset of the part: what it counts, the checker's flags, and what stays. -/
structure SupervisorWasReset (s t : State) : Prop where
  counted : t.ckr.supResets = (s.ckr.supResets + 1) % 2 ^ 32
  served : t.ckr.supRequested = false
  running : t.chk.halted = false
  found : t.chk.lost = false
  matching : t.chk.mismatch = false
  mode : t.clr.mode = s.clr.mode
  tiles : t.tiles = s.tiles
  messages : s.flt.inbox <+: t.flt.inbox

/-- The reset closes the open stages, clears the pair, and reloads the firmware. -/
theorem supReset_reset (s : State) : SupervisorWasReset s (supReset s) := by
  have hclosed : Recorded s (settleCommit (closeStages (cancelReplace s) 10)) :=
    (Recorded.cancelReplace s).trans ((Recorded.closeStages _ 10).trans (Recorded.settleCommit _))
  unfold supReset
  generalize settleCommit (closeStages (cancelReplace s) 10) = y at hclosed
  obtain ⟨prt, ldg, klb, ms, outs, rfl⟩ := hclosed
  dsimp only
  generalize hpair : loadFirmware _ = z
  have htried := hpair ▸ loadFirmware_tried _
  have hend : ImagesTried z (if z.clr.fwRunning then setStep z s.clr.step else z) := by
    split
    · exact setStep_tried z _
    · exact .refl z
  obtain ⟨_, _, _, _, _, _, _, ms', h⟩ := htried.trans hend
  rw [h]
  exact ⟨rfl, rfl, rfl, rfl, rfl, rfl, rfl, (List.prefix_append _ _).trans (List.prefix_append _ _)⟩

/-- CKR.SUP_RESET is a register. -/
theorem bar0Word_supReset (s : State) : (bar0Word s 0x10018).isSome = true := by
  simp [bar0Word, ckrWord, inArrays, one, slotOf]

/-- The physical function's write of the key in Safe requests a supervisor reset. -/
theorem registerWrite_supReset {b : Nat} (hclock : clocked s = true) (hsafe : inSafe s = true) (hp : accessorPresent s (.fn b 0) = true) :
    registerWrite s (.fn b 0) 0x10018 (.whole 0x05E7) = { s with ckr := { s.ckr with supRequested := true } } := by
  rw [registerWrite, bar0Write_whole hp rfl (.inr (by decide)) rfl (bar0Word_supReset s) rfl]
  simp [pfWrite, supResetWrite, hclock, hsafe]

/-! ### The statement -/

theorem chipResetClears : ChipResetClears := by
  intro s por hpower
  have hguard : ¬(!s.clk.powered && !por) = true := by rcases hpower with h | h <;> simp [h]
  exact settled_of_keeps (if_neg hguard) ⟨rfl, rfl⟩

theorem supervisorReset_holds : SupervisorReset := by
  refine ⟨fun s b hclock hsafe hp => ?_, fun s hclock hrequest => ?_, fun s hclock hrun => ?_⟩
  · exact ⟨_, settled_of_keeps (registerWrite_supReset hclock hsafe hp) ⟨rfl, rfl⟩, rfl⟩
  · have hreset := supReset_reset s
    refine ⟨_, settled_of_eq (if_pos (by simp [hclock, hrequest])), ?_⟩
    exact ⟨hreset.counted, hreset.served, hreset.running, hreset.found, hreset.matching, hreset.mode, hreset.tiles⟩
  · have hreset := supReset_reset (raise s Kind.firmwareWatchdog ckrId none 0 0)
    refine ⟨_, settled_of_eq (if_pos (by simp [hclock, hrun])), ?_⟩
    exact ⟨hreset.counted, hreset.running, hreset.mode, hreset.tiles, hreset.messages.subset (List.mem_append_right _ (List.mem_singleton.mpr rfl))⟩

/-- Settles O7: the cleared state of a chip reset, and what a supervisor reset leaves. -/
theorem resets : Obligations.Resets := ⟨chipResetClears, supervisorReset_holds⟩

end Sys2Proof.Machine
end

section
/-! PROOF. What resets of host functions and ports change (R385, R386, R389): the bridges, the functions, the ring sets and requests that
go with them, and fault messages, said once for each operation. -/

namespace Sys2Proof.Machine

/-- `t` is `s` after functions or ports have been reset: bridges, functions, ring sets, requests and purges change, and packets and
fault messages are added. -/
def PortWork (s t : State) : Prop := ∃ rings outs sendWait hif tagCtrs purges net ups fns ms, t = { s with
  rings := rings, outs := outs, sendWait := sendWait, hif := hif, tagCtrs := tagCtrs, purges := purges
  net := s.net ++ net, ups := ups, fns := fns, flt := { s.flt with inbox := s.flt.inbox ++ ms } }

namespace PortWork

variable {s t x : State}

theorem refl (s : State) : PortWork s s := ⟨_, _, _, _, _, _, [], _, _, [], by rw [List.append_nil, List.append_nil]⟩

theorem trans (h : PortWork s t) (h' : PortWork t x) : PortWork s x := by
  obtain ⟨_, _, _, _, _, _, net, _, _, ms, rfl⟩ := h
  obtain ⟨_, _, _, _, _, _, net', _, _, ms', rfl⟩ := h'
  exact ⟨_, _, _, _, _, _, net ++ net', _, _, ms ++ ms', by rw [← List.append_assoc, ← List.append_assoc]⟩

theorem foldl {α : Type} {f : State → α → State} (h : ∀ y a, PortWork y (f y a)) (l : List α) (s : State) : PortWork s (l.foldl f s) := by
  induction l generalizing s with
  | nil => exact refl s
  | cons a l ih => exact (h s a).trans (ih _)

theorem setHif (s : State) (b : Nat) (h : Hif) : PortWork s (Machine.setHif s b h) :=
  ⟨_, _, _, _, _, _, [], _, _, [], by rw [List.append_nil, List.append_nil]; rfl⟩

theorem setFn (s : State) (b f : Nat) (x : Fn) : PortWork s (Machine.setFn s b f x) :=
  ⟨_, _, _, _, _, _, [], _, _, [], by rw [List.append_nil, List.append_nil]; rfl⟩

theorem sendMgmt (s : State) (src target part tag : Nat) (b : Body) : PortWork s (Machine.sendMgmt s src target part tag b) :=
  ⟨_, _, _, _, _, _, [_], _, _, [], by rw [List.append_nil]; rfl⟩

theorem raiseAbout (s : State) (kind reporter subject : Nat) (part : Option Nat) (addr detail : Nat) (orphan : Option Nat) :
    PortWork s (Machine.raiseAbout s kind reporter subject part addr detail orphan) :=
  ⟨_, _, _, _, _, _, [], _, _, [_], by rw [List.append_nil]; rfl⟩

theorem raise (s : State) (kind reporter : Nat) (part : Option Nat) (addr detail : Nat) :
    PortWork s (Machine.raise s kind reporter part addr detail) := raiseAbout s kind reporter _ part addr detail none

theorem ringsApply (s : State) (p : RingSet → Bool) (f : RingSet → RingSet) : PortWork s (Machine.ringsApply s p f) := by
  unfold Machine.ringsApply
  refine trans ?_ ((setHif _ _ _).trans (setHif _ _ _))
  exact ⟨_, _, _, _, _, _, [], _, _, [], by rw [List.append_nil, List.append_nil]⟩

theorem startPurge (s : State) (unit rq part : Nat) : PortWork s (Machine.startPurge s unit rq part) := by
  unfold Machine.startPurge
  refine trans ?_ (foldl (fun y u => sendMgmt y _ u part 0 _) _ _)
  exact ⟨_, _, _, _, _, _, [], _, _, [], by rw [List.append_nil, List.append_nil]⟩

theorem fnOrphan (s : State) (b f kind : Nat) : PortWork s (Machine.fnOrphan s b f kind) := by
  unfold Machine.fnOrphan
  split
  · exact raiseAbout _ _ _ _ _ _ _ _
  · exact refl s

theorem fnQuit (s : State) (b f : Nat) : PortWork s (Machine.fnQuit s b f) := by
  unfold Machine.fnQuit
  refine trans ?_ (setHif _ _ _)
  split
  · exact (ringsApply s _ _).trans (startPurge _ _ _ _)
  · exact ringsApply s _ _

theorem fnStop (s : State) (b f : Nat) : PortWork s (Machine.fnStop s b f) := (fnOrphan s b f _).trans (fnQuit _ b f)

theorem fnReset (s : State) (b f : Nat) : PortWork s (Machine.fnReset s b f) := (fnStop s b f).trans (setFn _ _ _ _)

theorem portReset (s : State) (b : Nat) : PortWork s (Machine.portReset s b) :=
  (foldl (fun y f => fnReset y b f) _ s).trans (setHif _ _ _)

theorem holdPort (s : State) (b : Nat) : PortWork s (Machine.holdPort s b) := (setHif s _ _).trans (portReset _ b)

theorem linkDown (s : State) (b h : Nat) : PortWork s (Machine.linkDown s b h) := by
  have hdown (l : HLink) (kind rq : Nat) : PortWork s (Machine.raise (setHLink s b h l) kind rq none 0 h) :=
    (setHif s _ _).trans (raise _ _ _ _ _ _)
  unfold Machine.linkDown
  dsimp only
  split
  · exact refl s
  split
  · exact (hdown _ _ _).trans (portReset _ b)
  · exact hdown _ _ _

end PortWork

end Sys2Proof.Machine
end

section
/-! PROOF. Bring-up (R503, R505, R510, R512, R515, R516, R520, R561): what each of its steps leaves of the running image and of the tiles, and
how it ends. -/

namespace Sys2Proof.Machine

variable {s t x : State}

/-! ### What the steps of the firmware leave alone -/

/-- The running image, the device mode, the count of rejected images and the flash are as they were. -/
structure KeepsImage (s t : State) : Prop where
  slot : t.clr.fwSlot = s.clr.fwSlot
  running : t.clr.fwRunning = s.clr.fwRunning
  mode : t.clr.mode = s.clr.mode
  version : t.ckr.secVersion = s.ckr.secVersion
  rejects : t.ckr.rejects = s.ckr.rejects
  flash : t.flash = s.flash

namespace KeepsImage

theorem refl (s : State) : KeepsImage s s := ⟨rfl, rfl, rfl, rfl, rfl, rfl⟩

theorem trans (h : KeepsImage s t) (h' : KeepsImage t x) : KeepsImage s x :=
  ⟨h'.slot.trans h.slot, h'.running.trans h.running, h'.mode.trans h.mode, h'.version.trans h.version, h'.rejects.trans h.rejects,
    h'.flash.trans h.flash⟩

theorem foldl {α : Type} {f : State → α → State} (h : ∀ y a, KeepsImage y (f y a)) (l : List α) (s : State) : KeepsImage s (l.foldl f s) := by
  induction l generalizing s with
  | nil => exact refl s
  | cons a l ih => exact (h s a).trans (ih _)

end KeepsImage

theorem Recorded.image (h : Recorded s t) : KeepsImage s t := by
  obtain ⟨_, _, _, _, _, rfl⟩ := h
  exact ⟨rfl, rfl, rfl, rfl, rfl, rfl⟩

theorem PortWork.image (h : PortWork s t) : KeepsImage s t := by
  obtain ⟨_, _, _, _, _, _, _, _, _, _, rfl⟩ := h
  exact ⟨rfl, rfl, rfl, rfl, rfl, rfl⟩

theorem setStep_image (s : State) (n : Nat) : KeepsImage s (setStep s n) := ⟨rfl, rfl, rfl, rfl, rfl, rfl⟩

/-! ### The ledger at step 0x06 (R552) -/

/-- A line that is read changes the array's stored errors and the fault messages only. -/
theorem readArrayLine_state (s : State) (n : Nat) :
    ∃ a ms, (readArrayLine s n).1 = { s with array := a, flt := { s.flt with inbox := s.flt.inbox ++ ms } } := by
  unfold readArrayLine
  split
  · exact ⟨s.array, [], by rw [List.append_nil]⟩
  · exact ⟨_, [_], rfl⟩
  · exact ⟨s.array, [_], rfl⟩

theorem readArrayLine_image (s : State) (n : Nat) : KeepsImage s (readArrayLine s n).1 := by
  obtain ⟨_, _, h⟩ := readArrayLine_state s n
  rw [h]
  exact ⟨rfl, rfl, rfl, rfl, rfl, rfl⟩

theorem readErrors_image (s : State) : KeepsImage s (readErrors s) := .foldl (fun y (e : Nat × Nat) => readArrayLine_image y e.1) _ s

theorem mendRing_recorded (s : State) (r : Nat) : Recorded s (mendRing s r) := by
  unfold mendRing
  split
  · exact .refl s
  · dsimp only
    split
    · exact .refl s
    · exact .queueWrite s _

theorem ledgerBoot_image (s : State) : KeepsImage s (ledgerBoot s) := by
  unfold ledgerBoot
  split
  · exact ⟨rfl, rfl, rfl, rfl, rfl, rfl⟩
  · refine (readErrors_image s).trans ?_
    refine KeepsImage.trans ?_ (Recorded.trans (.foldl mendRing_recorded [1, 2, 3] _)
      ((Recorded.writeSettings _ _).trans ((Recorded.askCheckpoint _ _).trans (.queueEvent _ _ _)))).image
    exact ⟨rfl, rfl, rfl, rfl, rfl, rfl⟩

/-! ### BIST and repair (R515, R516) -/

theorem runBist_image (s : State) : KeepsImage s (runBist s) := by
  unfold runBist
  refine KeepsImage.trans ?_ (setStep_image _ _)
  have htested (l : List Nat) (b : Bool) : Recorded s
      (if b then askCheckpoint (l.foldl (fun s u => recordFailed s u 1) s) [] else l.foldl (fun s u => recordFailed s u 1) s) := by
    have hfailed := Recorded.foldl (fun y u => .recordFailed y u 1) l s
    split
    · exact hfailed.trans (.askCheckpoint _ _)
    · exact hfailed
  exact (htested _ _).image.trans ⟨rfl, rfl, rfl, rfl, rfl, rfl⟩

theorem spareStands_image (s : State) (g p : Nat) : KeepsImage s (spareStands s g p) := ⟨rfl, rfl, rfl, rfl, rfl, rfl⟩

theorem thicketRemoved_image (s : State) (g k n : Nat) : KeepsImage s (thicketRemoved (loseThicket s g k) n) := ⟨rfl, rfl, rfl, rfl, rfl, rfl⟩

theorem repairGrove_image (s : State) (g : Nat) : KeepsImage s (repairGrove s g) := by
  unfold repairGrove
  refine KeepsImage.trans ?_ (.foldl (fun y k => thicketRemoved_image y g k _) _ _)
  split
  · refine KeepsImage.trans ?_ (spareStands_image _ _ _)
    exact ⟨rfl, rfl, rfl, rfl, rfl, rfl⟩
  · exact ⟨rfl, rfl, rfl, rfl, rfl, rfl⟩

/-- The repaired part, its memories zeroed, at STEP 0x08. -/
def repaired (s : State) : State := zeroMemories (setStep ((List.range 16).foldl repairGrove (runBist s)) 0x08)

theorem zeroMemories_image (s : State) : KeepsImage s (zeroMemories s) := by
  unfold zeroMemories
  exact ⟨rfl, rfl, rfl, rfl, rfl, rfl⟩

theorem repaired_image (s : State) : KeepsImage s (repaired s) :=
  (runBist_image s).trans ((KeepsImage.foldl repairGrove_image _ _).trans ((setStep_image _ _).trans (zeroMemories_image _)))

/-- Every tile's memories are zero (R515). -/
def MemoriesZero (s : State) : Prop := ∀ u, (tileAt s u).frame = [] ∧ (tileAt s u).istore = [] ∧ (tileAt s u).store = [] ∧ (tileAt s u).ovf = []

theorem zeroMemories_zero (s : State) : MemoriesZero (zeroMemories s) := by
  intro u
  simp only [tileAt, zeroMemories, List.getD_eq_getElem?_getD, List.getElem?_map]
  cases s.tiles[u]? <;> exact ⟨rfl, rfl, rfl, rfl⟩

/-! ### Service levels (R518 to R520) -/

/-- A port held in reset. -/
theorem holdPorts_work (l : List Nat) (s : State) : PortWork s (l.foldl holdPort s) := .foldl .holdPort l s

/-- Bring-up that ends without a service level keeps the image and the tiles. -/
theorem stopBringUp_ends (s : State) : KeepsImage s (stopBringUp s) ∧ (stopBringUp s).tiles = s.tiles ∧ (stopBringUp s).clr.step = 0x0F
    ∧ (stopBringUp s).clr.service = 0 := by
  unfold stopBringUp
  obtain ⟨_, _, _, _, _, _, _, _, _, _, h⟩ := holdPorts_work (List.range 2) s
  rw [h]
  exact ⟨⟨rfl, rfl, rfl, rfl, rfl, rfl⟩, rfl, rfl, rfl⟩

/-- The part at STEP 0x09, with its service level. -/
def levelled (s : State) : State :=
  holdFailedPorts (refreshService (setStep { configurePfs (repaired s) with brd := { (repaired s).brd with vcore := (repaired s).fuses.vid } } 0x09))

theorem levelled_keeps (s : State) : KeepsImage (repaired s) (levelled s) ∧ (levelled s).tiles = (repaired s).tiles := by
  unfold levelled holdFailedPorts
  generalize repaired s = y
  obtain ⟨_, _, _, _, _, _, _, _, _, _, h⟩ := holdPorts_work
    ((List.range 2).filter (fun b => (refreshService (setStep { configurePfs y with brd := { y.brd with vcore := y.fuses.vid } } 0x09)).clr.conditions.getD (3 + b) false))
    (refreshService (setStep { configurePfs y with brd := { y.brd with vcore := y.fuses.vid } } 0x09))
  rw [h]
  exact ⟨⟨rfl, rfl, rfl, rfl, rfl, rfl⟩, rfl⟩

theorem serviceSteps_eq (s : State) :
    serviceSteps s = if (levelled s).clr.service = 0 then stopBringUp (levelled s) else setStep (levelled s) 0x0A := rfl

/-- BIST, repair and the service level end with the image that ran, zero memories, and STEP as the service level gives it. -/
theorem serviceSteps_ends (s : State) : KeepsImage s (serviceSteps s) ∧ MemoriesZero (serviceSteps s)
    ∧ (serviceSteps s).clr.step = (if (serviceSteps s).clr.service = 0 then 0x0F else 0x0A) := by
  obtain ⟨hlevel, htiles⟩ := levelled_keeps s
  have himage := (repaired_image s).trans hlevel
  have hzero : MemoriesZero (levelled s) := by
    intro u
    rw [tileAt, htiles]
    exact zeroMemories_zero _ u
  rw [serviceSteps_eq]
  by_cases hservice : (levelled s).clr.service = 0
  · obtain ⟨hstop, htiles', hstep, hlevel'⟩ := stopBringUp_ends (levelled s)
    rw [if_pos hservice]
    refine ⟨himage.trans hstop, fun u => ?_, by rw [hstep, if_pos hlevel']⟩
    rw [tileAt, htiles']
    exact hzero u
  · rw [if_neg hservice]
    exact ⟨himage.trans (setStep_image _ _), hzero, (if_neg hservice).symm⟩

/-- Once the firmware runs in Configuration, bring-up runs to its end and keeps its image. -/
theorem firmwareSteps_ends (hrun : s.clr.fwRunning = true) (hmode : s.clr.mode = .configuration) :
    KeepsImage s (firmwareSteps s) ∧ BroughtUp (firmwareSteps s) := by
  obtain ⟨hkeeps, hzero, hstep⟩ := serviceSteps_ends
    (ledgerBoot (setStep { s with ldg := { s.ldg with dead := s.ldg.dead || !s.ckr.plan.ledgerOk } } 0x06))
  have himage : KeepsImage s (firmwareSteps s) := by
    refine KeepsImage.trans ?_ ((ledgerBoot_image _).trans hkeeps)
    exact ⟨rfl, rfl, rfl, rfl, rfl, rfl⟩
  exact ⟨himage, himage.running.trans hrun, himage.mode.trans hmode, hstep, hzero⟩

end Sys2Proof.Machine
end

section
/-! PROOF. How bring-up ends (R503, R505, R510, R512, R513, R520, R561): the image that the ROM starts, and the cases of the release of reset and
of a recovery image. -/

namespace Sys2Proof.Machine

variable {s t : State} {i : FwImage} {k c : Nat}

/-! ### The image that the ROM starts (R510, R512) -/

/-- The checks of an image rest on the fuses only. -/
theorem imageFault_congr (h : t.fuses = s.fuses) (i : FwImage) : imageFault t i = imageFault s i := by
  unfold imageFault keySlots intactSlots
  rw [h]

/-- The image in a slot is the flash's. -/
theorem slotImage_congr (h : t.flash = s.flash) (k : Nat) : slotImage t k = slotImage s k := by
  unfold slotImage flashN
  rw [h]

/-- The preferred slot is the ledger's, where bring-up finds it. -/
theorem preferredSlot_congr (hplan : t.ckr.plan = s.ckr.plan) (hldg : t.ldg = s.ldg) (harray : t.array = s.array) :
    preferredSlot t = preferredSlot s := by
  simp only [preferredSlot, inForce, arrayRecord, copyLines, hplan, hldg, harray]

/-- An image of the flash runs, found in state `y`, after `n` images have been rejected in all. -/
structure ImageRuns (s : State) (k n : Nat) (y : State) : Prop where
  running : y.clr.fwRunning = true
  slot : y.clr.fwSlot = k + 1
  version : y.ckr.secVersion = (slotImage s k).sec
  rejects : y.ckr.rejects = n
  mode : y.clr.mode = s.clr.mode

theorem startImage_runs (hflash : t.flash = s.flash) (hmode : t.clr.mode = s.clr.mode) (k : Nat) :
    ImageRuns s k t.ckr.rejects (startImage t (k + 1) (slotImage t k)) :=
  ⟨rfl, rfl, congrArg FwImage.sec (slotImage_congr hflash k), rfl, hmode⟩

section Load
variable (hstrap : bit s.ckr.straps 1 = false) (hsfdp : s.ckr.plan.sfdp = true)
include hstrap hsfdp

/-- With the strap at flash and an intact flash both slots are tried, the preferred one first. -/
theorem loadFirmware_tries {y : State} (hy : trySlots (setStep s 0x05) [preferredSlot s, 1 - preferredSlot s] = y)
    (hrun : y.clr.fwRunning = true) : loadFirmware s = y := by
  have hflash : ¬(bit s.ckr.straps 1 || !s.ckr.plan.sfdp) = true := by simp [hstrap, hsfdp]
  unfold loadFirmware
  dsimp only
  rw [if_neg hflash, hy, if_pos hrun]

/-- The preferred slot's image runs where the ROM accepts it. -/
theorem loadFirmware_preferred (hk : preferredSlot s = k) (hok : imageFault s (slotImage s k) = none) :
    ImageRuns s k s.ckr.rejects (loadFirmware s) := by
  have hok' : imageFault (setStep s 0x05) (slotImage (setStep s 0x05) k) = none := by
    rw [imageFault_congr (t := setStep s 0x05) (s := s) rfl, slotImage_congr (t := setStep s 0x05) (s := s) rfl, hok]
  rw [loadFirmware_tries hstrap hsfdp (by rw [hk, trySlots_of_accepted _ hok']) rfl]
  exact startImage_runs (s := s) (t := setStep s 0x05) rfl rfl k

/-- The other slot's runs after a rejected one, which is counted. -/
theorem loadFirmware_other (hk : preferredSlot s = k) (hbad : imageFault s (slotImage s k) = some c)
    (hok : imageFault s (slotImage s (1 - k)) = none) : ImageRuns s (1 - k) ((s.ckr.rejects + 1) % 256) (loadFirmware s) := by
  have hbad' : imageFault (setStep s 0x05) (slotImage (setStep s 0x05) k) = some c := by
    rw [imageFault_congr (t := setStep s 0x05) (s := s) rfl, slotImage_congr (t := setStep s 0x05) (s := s) rfl, hbad]
  have hok' : imageFault (slotRejected (setStep s 0x05) k c) (slotImage (slotRejected (setStep s 0x05) k c) (1 - k)) = none := by
    rw [imageFault_congr (t := slotRejected (setStep s 0x05) k c) (s := s) rfl, slotImage_congr (t := slotRejected (setStep s 0x05) k c) (s := s) rfl, hok]
  rw [loadFirmware_tries hstrap hsfdp (by rw [hk, trySlots_of_rejected _ hbad', trySlots_of_accepted _ hok']) rfl]
  exact startImage_runs (s := s) (t := slotRejected (setStep s 0x05) k c) rfl rfl (1 - k)

end Load

/-- Under the recovery strap the part waits at STEP 0x0E. -/
theorem loadFirmware_recovery (hstrap : bit s.ckr.straps 1 = true) (hrun : s.clr.fwRunning = false) :
    loadFirmware s = setStep (setStep s 0x05) 0x0E := by
  have hflash : (bit s.ckr.straps 1 || !s.ckr.plan.sfdp) = true := by simp [hstrap]
  have hnone : ¬(setStep s 0x05).clr.fwRunning = true := by simp [setStep, hrun]
  unfold loadFirmware
  dsimp only
  rw [if_pos hflash, if_neg hnone]

/-! ### From the release of reset to the image (R503, R505, R508) -/

/-- The part as its reset is released: the straps sampled, what bring-up finds noted. -/
def released (s : State) (x : BringUp) : State := { s with
  clk := { s.clk with inReset := false, refPresent := x.refOk, coreLocked := x.coreLock, supLocked := x.supLock, coreTries := 0, supTries := 0 }
  clr := { s.clr with step := 1, refPort := x.straps % 256 % 2 }
  ckr := { s.ckr with straps := x.straps % 256, plan := x } }

theorem exec_chipResetRelease {x : BringUp} (hpower : s.clk.powered = true) (hup : s.clk.shutdown = false) (hreset : s.clk.inReset = true) :
    exec (.chipResetRelease x) s = .next (kept s (bringUpClocked (released s x))) :=
  settled_of_eq (if_neg (by simp [hpower, hup, hreset]))

/-- What the steps before the firmware find: the board's record is read, and the rest that the firmware's load looks at is as it was. -/
structure Boarded (s y : State) : Prop where
  fuses : y.fuses = s.fuses
  flash : y.flash = s.flash
  array : y.array = s.array
  ldg : y.ldg = s.ldg
  clk : y.clk = s.clk
  chk : y.chk = s.chk
  mode : y.clr.mode = s.clr.mode
  running : y.clr.fwRunning = s.clr.fwRunning
  rejects : y.ckr.rejects = s.ckr.rejects
  straps : y.ckr.straps = s.ckr.straps
  plan : y.ckr.plan = s.ckr.plan
  service : y.clr.service = 1

theorem readBoard_boarded (s : State) : Boarded s (readBoard s) := by
  unfold readBoard
  dsimp only
  cases s.ckr.plan.sfdp && boardOk s <;> exact ⟨rfl, rfl, rfl, rfl, rfl, rfl, rfl, rfl, rfl, rfl, rfl, rfl⟩

/-- An injection that the comparator detects is counted (R488). -/
theorem checkerInjection_detected (hclock : supClocked s = true) (hhalt : s.chk.halted = false) : checkerInjection s true
    = { s with chk := { s.chk with position := (s.chk.position + 1) % 256, tests := (s.chk.tests + 1) % 2 ^ 32, passed := true } } := by
  rw [checkerInjection, if_neg (by simp [hclock, hhalt]), if_pos rfl]

/-- The part with its fuses loaded and the comparator's first injection passed. -/
def injected (s : State) : State := { setStep (applyFuses s) 0x03 with
  chk := { s.chk with position := (s.chk.position + 1) % 256, tests := (s.chk.tests + 1) % 2 ^ 32, passed := true } }

/-- A reserved GRADE ends bring-up (R561). -/
theorem bringUp_reserved {x : BringUp} (href : x.refOk = true) (hcore : x.coreLock = true) (hsup : x.supLock = true)
    (hgrade : bits (x.straps % 256) 5 4 = 3) : bringUpClocked (released s x) = stopBringUp (applyFuses (released s x)) := by
  unfold bringUpClocked
  rw [if_pos (by simp [released, href, hcore, hsup]), bringUp, if_pos (show bits (released s x).ckr.straps 5 4 = 3 from hgrade)]

section Release
variable {x : BringUp} (hpower : s.clk.powered = true) (hup : s.clk.shutdown = false)
include hpower hup

/-- With its clocks there, a sound GRADE and a sound comparator, bring-up loads the firmware, which goes on where it runs. -/
theorem bringUp_loads (href : x.refOk = true) (hcore : x.coreLock = true) (hsup : x.supLock = true) (hcmp : x.cmpOk = true)
    (hgrade : bits (x.straps % 256) 5 4 ≠ 3) (hhalt : s.chk.halted = false) {y : State}
    (hy : loadFirmware (readBoard (injected (released s x))) = y) :
    bringUpClocked (released s x) = if y.clr.fwRunning then firmwareSteps y else y := by
  have hclock : supClocked (released s x) = true := by simp [supClocked, released, hpower, hup, href, hsup]
  have hinject : checkerInjection (setStep (applyFuses (released s x)) 0x03) (released s x).ckr.plan.cmpOk = injected (released s x) := by
    rw [show (released s x).ckr.plan.cmpOk = true from hcmp]
    exact checkerInjection_detected (s := setStep (applyFuses (released s x)) 0x03) hclock hhalt
  unfold bringUpClocked
  rw [if_pos (by simp [released, href, hcore, hsup])]
  unfold bringUp
  dsimp only
  rw [if_neg (show bits (released s x).ckr.straps 5 4 ≠ 3 from hgrade), hinject, hy]
  exact if_neg (by rw [show (injected (released s x)).chk.halted = s.chk.halted from rfl, hhalt]; decide)

end Release

/-! ### The statements -/

theorem bringUpRuns : BringUpRuns := by
  intro s x k hpower hup hreset hhalt hrun hmode href hcore hsup hcmp hsfdp hgrade hstrap hk
  have hb := readBoard_boarded (injected (released s x))
  generalize hboard : readBoard (injected (released s x)) = y at hb
  have hstrap' : bit y.ckr.straps 1 = false := by rw [hb.straps]; exact hstrap
  have hsfdp' : y.ckr.plan.sfdp = true := by rw [hb.plan]; exact hsfdp
  have hk' : preferredSlot y = k := by
    rw [← hk]
    exact preferredSlot_congr hb.plan hb.ldg hb.array
  have himage (j : Nat) : slotImage y j = slotImage s j := slotImage_congr hb.flash j
  have hfault (j : Nat) : imageFault y (slotImage y j) = imageFault s (slotImage s j) := by
    rw [himage, imageFault_congr hb.fuses]
    rfl
  have hends {j n : Nat} (h : ImageRuns y j n (loadFirmware y)) : Leaves (.chipResetRelease x) s (fun t => t.clr.fwSlot = j + 1
      ∧ t.ckr.secVersion = (slotImage s j).sec ∧ t.ckr.rejects = n ∧ BroughtUp t) := by
    have hload := bringUp_loads hpower hup href hcore hsup hcmp hgrade hhalt (congrArg loadFirmware hboard)
    rw [if_pos h.running] at hload
    obtain ⟨hkeeps, hended⟩ := firmwareSteps_ends h.running (h.mode.trans (hb.mode.trans hmode))
    refine ⟨_, (exec_chipResetRelease hpower hup hreset).trans (congrArg (fun z => Host.Outcome.next (kept s z)) hload), ?_, ?_, ?_, hended⟩
    · exact hkeeps.slot.trans h.slot
    · exact hkeeps.version.trans (h.version.trans (congrArg FwImage.sec (himage j)))
    · exact hkeeps.rejects.trans h.rejects
  have hrejects : y.ckr.rejects = s.ckr.rejects := hb.rejects
  refine ⟨fun hok => ?_, fun c hbad hok => ?_⟩
  · rw [← hrejects]
    exact hends (loadFirmware_preferred hstrap' hsfdp' hk' ((hfault k).trans hok))
  · rw [← hrejects]
    exact hends (loadFirmware_other hstrap' hsfdp' hk' ((hfault k).trans hbad) ((hfault (1 - k)).trans hok))

theorem resetReleaseBringsUp : ResetReleaseBringsUp := by
  refine ⟨fun s x hpower hup hreset href => ?_, fun s x hpower hup hreset href hcore hsup hgrade => ?_,
    fun s x hpower hup hreset hrun hhalt href hcore hsup hcmp hgrade hstrap => ?_⟩
  · have hwaits : bringUpClocked (released s x) = released s x := if_neg (by simp [released, href])
    refine ⟨_, (exec_chipResetRelease hpower hup hreset).trans (congrArg (fun z => Host.Outcome.next (kept s z)) hwaits), rfl, ?_, rfl, ?_, rfl⟩
    · exact Nat.mod_mod_of_dvd _ (by decide)
    · simp [clocked, kept, released, href]
  · have hstops := bringUp_reserved (s := s) href hcore hsup hgrade
    obtain ⟨-, -, hstep, -⟩ := stopBringUp_ends (applyFuses (released s x))
    exact ⟨_, (exec_chipResetRelease hpower hup hreset).trans (congrArg (fun z => Host.Outcome.next (kept s z)) hstops), hstep⟩
  · have hb := readBoard_boarded (injected (released s x))
    generalize hboard : readBoard (injected (released s x)) = y at hb
    have hrun' : y.clr.fwRunning = false := hb.running.trans hrun
    have hload := bringUp_loads hpower hup href hcore hsup hcmp hgrade hhalt
      ((congrArg loadFirmware hboard).trans (loadFirmware_recovery (by rw [hb.straps]; exact hstrap) hrun'))
    rw [if_neg (by simp [setStep, hrun'])] at hload
    refine ⟨_, (exec_chipResetRelease hpower hup hreset).trans (congrArg (fun z => Host.Outcome.next (kept s z)) hload), rfl, hb.service, hrun', ?_, ?_⟩
    · exact congrArg Checker.tests hb.chk
    · have hclk : y.clk = (released s x).clk := hb.clk
      simp [clocked, kept, setStep, hclk, released, hpower, hup, href, hcore]

theorem recoveryImageStarts : RecoveryImageStarts := by
  intro s bs hmctp hclock hhalt hstep hrun hok
  have hguard : ¬(!(supClocked s) || s.chk.halted || decide (s.clr.step ≠ 0x0E) || s.clr.fwRunning) = true := by
    simp [hclock, hhalt, hstep, hrun]
  have hreach (z : State) (hz : (if (startImage s 3 (imageOf bs)).clr.mode = .configuration ∧ (startImage s 3 (imageOf bs)).ckr.reached = false
      then firmwareSteps (startImage s 3 (imageOf bs)) else setStep (startImage s 3 (imageOf bs)) 0x0A) = z) :
      exec (.recoveryImage bs) s = .next (kept s z) := by
    refine settled_of_eq ((if_neg (by simp [hmctp])).trans ?_)
    rw [recoveryImage, if_neg hguard]
    dsimp only
    rw [hok]
    exact hz
  refine ⟨fun hreached hmode => ?_, fun hgoes => ?_⟩
  · obtain ⟨hkeeps, hended⟩ := firmwareSteps_ends (s := startImage s 3 (imageOf bs)) rfl hmode
    exact ⟨_, hreach _ (if_pos ⟨hmode, hreached⟩), hkeeps.slot, hkeeps.version, hkeeps.flash, hended⟩
  · have hnot : ¬(s.clr.mode = .configuration ∧ s.ckr.reached = false) := by
      rintro ⟨hmode, hreached⟩
      rcases hgoes with h | h
      · rw [hreached] at h
        cases h
      · exact h hmode
    exact ⟨_, hreach _ (if_neg hnot), rfl, rfl, rfl, rfl, rfl, rfl, rfl⟩

/-- Settles O8: the image that is started, and the steps that the firmware then makes. -/
theorem bringUp_holds : Obligations.BringUp := ⟨bringUpRuns, resetReleaseBringsUp, recoveryImageStarts⟩

end Sys2Proof.Machine
end

section
/-! PROOF. The commands that the firmware serves (R510, R511, R514, R523, R539). -/

namespace Sys2Proof.Machine

variable {s t : State}

/-- An endpoint in service lets a command through (R517). -/
theorem mctpReach_inService (h : outOfService s 11 = false) (t : State) : mctpReach s t = t := if_neg (by simp [h])

/-- So does a commit engine in service behind it. -/
theorem custodyReach_inService (h : outOfService s 11 = false) (h' : outOfService s 10 = false) (t : State) : custodyReach s t = t :=
  (if_neg (by simp [h])).trans (if_neg (by simp [h']))

/-- An image of a sound length is written, whatever becomes of it, and only records and answers follow. -/
theorem firmwareUpdate_writes (hfw : fwRuns s = true) {bs : List Byte} (hlen : bs.length ≤ 0x100000) (party : Nat) :
    Recorded { s with flash := ByteMem.wrBytes s.flash (0x100000 * (updateSlot s + 1)) bs } (firmwareUpdate s party bs) := by
  unfold firmwareUpdate
  dsimp only
  rw [if_neg (by simp [hfw]), if_neg (by omega)]
  split
  · exact Recorded.emit _ _
  · exact ((((Recorded.ldg _ _).trans (Recorded.writeSettings _ _)).trans (Recorded.queueEvent _ _ _))).trans (Recorded.emit _ _)

section Serving
variable (hserve : outOfService s 11 = false) (hfw : fwRuns s = true)
include hserve hfw

theorem exec_revokeKey {stmt key sig : List Byte} {k j : Nat} (hslot : statementSlot stmt = some k) (hj : j ∈ keySlots s (sha384 key)) (hjk : j ≠ k)
    (hsig : ecdsaOk key (sha384 stmt) sig = true) (hother : s.fuses.keyHash.getD k 0 ≠ s.ckr.signKey) :
    exec (.revokeKey 1 stmt key sig) s = .next { s with
      fuses := { s.fuses with revoked := s.fuses.revoked ||| 2 ^ k }, sent := s.sent ++ [.mctp 1 [0, 0]] } := by
  have hintact : j ∈ intactSlots s := (List.mem_filter.mp hj).1
  have hkey : ¬((keySlots s (sha384 key)).all (fun j => decide (j = k)) = true ∨ (!ecdsaOk key (sha384 stmt) sig) = true) := by
    simpa [hsig] using ⟨j, hj, hjk⟩
  have hleft : ¬((intactSlots s).all (fun j => decide (j = k)) = true ∨ s.fuses.keyHash.getD k 0 = s.ckr.signKey) := by
    simp only [hother, or_false, List.all_eq_true, decide_eq_true_eq]
    exact fun h => hjk (h j hintact)
  have hrevoke : revokeKey s 1 stmt key sig
      = answer { s with fuses := { s.fuses with revoked := s.fuses.revoked ||| 2 ^ k } } 1 [0, 0] := by
    rw [revokeKey, if_neg (by simp [hfw]), if_neg (by decide), hslot]
    dsimp only
    rw [if_neg hkey, if_neg hleft]
  change blowing s (mctpReach s _) = _
  rw [mctpReach_inService hserve, hrevoke]
  rfl

theorem exec_revokeKey_refused (stmt key sig : List Byte) :
    exec (.revokeKey 0 stmt key sig) s = .next { s with sent := s.sent ++ [.mctp 0 [0x10, 0]] } := by
  change blowing s (mctpReach s _) = _
  rw [mctpReach_inService hserve, revokeKey, if_neg (by simp [hfw]), if_pos (by decide)]
  rfl

theorem exec_floorRaise {n : Nat} (hn : n ≤ 63) (hsec : n ≤ s.ckr.secVersion) : exec (.securityFloorRaise 1 n) s = .next { s with
    fuses := { s.fuses with floor := max s.fuses.floor n }, sent := s.sent ++ [.mctp 1 [0, 0]] } := by
  change blowing s (mctpReach s _) = _
  rw [mctpReach_inService hserve, floorRaise, if_neg (by simp [hfw]), if_neg (by decide), if_neg (by omega), if_neg (by omega)]
  rfl

theorem exec_floorRaise_refused {n : Nat} (hn : n ≤ 63) (hsec : s.ckr.secVersion < n) :
    exec (.securityFloorRaise 1 n) s = .next { s with sent := s.sent ++ [.mctp 1 [0x14, 0]] } := by
  change blowing s (mctpReach s _) = _
  rw [mctpReach_inService hserve, floorRaise, if_neg (by simp [hfw]), if_neg (by decide), if_neg (by omega), if_pos hsec]
  rfl

theorem exec_firmwareUpdate {bs : List Byte} (hlen : bs.length ≤ 0x100000) (party : Nat) : Leaves (.firmwareUpdate party bs) s (fun t =>
    t.flash = s.flash.wrBytes (0x100000 * (updateSlot s + 1)) bs ∧ t.clr = s.clr ∧ t.tiles = s.tiles ∧ t.array = s.array) := by
  obtain ⟨_, _, _, _, _, h⟩ := firmwareUpdate_writes hfw hlen party
  refine ⟨_, settled_of_eq ((mctpReach_inService hserve _).trans h), ?_⟩
  exact ⟨rfl, rfl, rfl, rfl⟩

/-- HOLD as it is asked for, and its record. -/
theorem exec_holdWrite {party : Nat} (hparty : party < 2) (v : Nat) : Leaves (.holdWrite (.mctp party v)) s (fun t =>
    t.clr = { s.clr with hold := decide (v % 2 = 1) } ∧ t.sent = s.sent ++ [.mctp party [0, 0]] ∧ t.tiles = s.tiles ∧ t.rings = s.rings) := by
  have hput : holdWrite s party (decide (v % 2 = 1)) = answer (if s.clr.hold = decide (v % 2 = 1) then s
      else writeSettings { s with clr := { s.clr with hold := decide (v % 2 = 1) } } s.ldg.boundQ) party [0, 0] := by
    rw [holdWrite, if_pos hparty, if_pos hfw]
  refine ⟨_, settled_of_eq ((mctpReach_inService hserve _).trans hput), ?_⟩
  by_cases hsame : s.clr.hold = decide (v % 2 = 1)
  · rw [if_pos hsame, ← hsame]
    exact ⟨rfl, rfl, rfl, rfl⟩
  · rw [if_neg hsame, writeSettings, queueWrite]
    cases s.ldg.dead
    · rw [if_neg (by simp)]
      exact ⟨rfl, rfl, rfl, rfl⟩
    · rw [if_pos rfl]
      exact ⟨rfl, rfl, rfl, rfl⟩

end Serving

/-- Settles O9: each command's one path under the conditions that the statement gives. -/
theorem firmwareCommands : Obligations.FirmwareCommands := by
  refine ⟨⟨fun s stmt key sig k j hserve hfw hslot hj hjk hsig hother => exec_revokeKey hserve hfw hslot hj hjk hsig hother,
      fun s stmt key sig hserve hfw => exec_revokeKey_refused hserve hfw stmt key sig,
      fun s n hserve hfw hn hsec => exec_floorRaise hserve hfw hn hsec,
      fun s n hserve hfw hn hsec => exec_floorRaise_refused hserve hfw hn hsec⟩,
    fun s party bs hserve hfw hlen => exec_firmwareUpdate hserve hfw hlen party,
    fun s party v hparty hserve hfw => exec_holdWrite hserve hfw hparty v, fun s hclock => ?_, fun s hclock => ?_⟩
  · exact settled_of_keeps (if_neg (by simp [hclock])) ⟨rfl, rfl⟩
  · exact settled_of_keeps (if_neg (by simp [hclock])) ⟨rfl, rfl⟩

end Sys2Proof.Machine
end

section
/-! PROOF. The reference clock and the PLLs' lock (R497 to R499, R501). -/

namespace Sys2Proof.Machine

variable {s : State}

/-- A loss with no key being replaced changes the clocks only. -/
theorem referenceLoss_stops (down : Bool) (hpower : s.clk.powered = true) (href : s.clk.refPresent = true) (hup : s.clk.shutdown = false)
    (hcustody : s.prt.custody ≠ 2) : referenceLoss s down
      = { s with clk := { s.clk with refPresent := false, lossMode := s.clr.mode, portDown := down } } := by
  have hkeep : cancelReplace s = s := if_neg hcustody
  rw [referenceLoss, if_neg (by simp [hpower, href, hup]), hkeep]

/-- A return after bring-up's first step, with the port's link up, is recorded. -/
theorem referenceReturn_records (hpower : s.clk.powered = true) (href : s.clk.refPresent = false) (hup : s.clk.shutdown = false)
    (hreset : s.clk.inReset = false) (hstep : s.clr.step ≠ 1) (hport : s.clk.portDown = false) : ∃ ldg, referenceReturn s
      = raise { s with clk := { s.clk with refPresent := true }, ckr := { s.ckr with interruptions := (s.ckr.interruptions + 1) % 2 ^ 32 }, ldg := ldg }
          Kind.referenceInterruption ckrId none 0 ((s.ckr.interruptions + 1) % 2 ^ 32 + 2 ^ 32 * modeCode s.clk.lossMode) := by
  have hafter : referenceReturn s = afterReturn { s with clk := { s.clk with refPresent := true } } :=
    (if_neg (by simp [hpower, href, hup])).trans ((if_neg (by simp [hreset])).trans (if_neg hstep))
  rw [hafter, afterReturn]
  dsimp only
  rw [if_neg (by simp [hport])]
  exact ⟨_, rfl⟩

/-- Settles O10: each event's one path, once its conditions are met. -/
theorem referenceAndPlls : Obligations.ReferenceAndPlls := by
  refine ⟨fun s down hpower href hup hcustody => ?_, fun s hpower href hup hreset hstep hport => ?_,
    fun s hpower hreset href hup hstep hlocked => ?_, fun s hpower hreset href hup hstep hlocked => ?_,
    fun s hpower hreset href hup hstep hlocked htries => ?_, fun s hpower hreset href hup hstep hlocked htries => ?_⟩
  · refine ⟨_, settled_of_eq (referenceLoss_stops down hpower href hup hcustody), rfl, ?_, ?_⟩
    · simp [clocked, kept]
    · simp [supClocked, kept]
  · obtain ⟨ldg, h⟩ := referenceReturn_records hpower href hup hreset hstep hport
    exact ⟨_, settled_of_eq h, rfl, rfl, rfl, rfl, rfl⟩
  · have h : pllUnlock s true = { s with clk := { s.clk with coreLocked := false, coreTries := 0 } } := by
      rw [pllUnlock, if_neg (by simp [hpower, hreset, href, hup, hstep]), if_pos rfl, if_pos hlocked]
    exact ⟨_, settled_of_eq h, rfl, by simp [clocked, kept]⟩
  · have h : pllUnlock s false = { s with clk := { s.clk with supLocked := false, supTries := 0 } } := by
      rw [pllUnlock, if_neg (by simp [hpower, hreset, href, hup, hstep]), if_neg (by decide), if_pos hlocked]
    exact ⟨_, settled_of_eq h, rfl, by simp [supClocked, kept]⟩
  · have hguard : ¬(!s.clk.powered || s.clk.inReset || !s.clk.refPresent || s.clk.shutdown || (if true then s.clk.coreLocked else s.clk.supLocked)
        || decide (4 ≤ if true then s.clk.coreTries else s.clk.supTries)) = true := by
      simp [hpower, hreset, href, hup, hlocked, htries]
    exact settled_of_keeps ((if_neg hguard).trans ((if_pos rfl).trans (if_neg hstep))) ⟨rfl, rfl⟩
  · have hguard : ¬(!s.clk.powered || s.clk.inReset || !s.clk.refPresent || s.clk.shutdown || (if false then s.clk.coreLocked else s.clk.supLocked)
        || decide (4 ≤ if false then s.clk.coreTries else s.clk.supTries)) = true := by
      simp [hpower, hreset, href, hup, hlocked, htries]
    exact settled_of_keeps ((if_neg hguard).trans ((if_neg (by decide)).trans (if_neg fun h => hstep h.2))) ⟨rfl, rfl⟩

end Sys2Proof.Machine
end

section
/-! PROOF. In-field self-test (R525 to R530). What the end of a slice lets go on leaves the clearing, the clocks, the self-test controller,
the slices and custody as they are: that is said once for each operation, as it is for the clocks. -/

namespace Sys2Proof.Machine

/-- `t` has the clearing, the clocks, the self-test controller, the slices and custody of `s`. -/
@[simp] abbrev SameFrame (s t : State) : Prop :=
  t.clr = s.clr ∧ t.clk = s.clk ∧ t.ckr = s.ckr ∧ t.slices = s.slices ∧ t.prt = s.prt

theorem SameFrame.refl (s : State) : SameFrame s s := ⟨rfl, rfl, rfl, rfl, rfl⟩

theorem SameFrame.trans {s t x : State} (h : SameFrame s t) (h' : SameFrame t x) : SameFrame s x := by
  obtain ⟨hclr, hclk, hckr, hslices, hprt⟩ := h
  obtain ⟨hclr', hclk', hckr', hslices', hprt'⟩ := h'
  exact ⟨hclr'.trans hclr, hclk'.trans hclk, hckr'.trans hckr, hslices'.trans hslices, hprt'.trans hprt⟩

theorem foldl_frame {α : Type} (s : State) {f : State → α → State} (h : ∀ t a, SameFrame t (f t a)) (l : List α) :
    SameFrame s (l.foldl f s) :=
  List.foldlRecOn l f (motive := SameFrame s) (SameFrame.refl s) (fun t ht a _ => ht.trans (h t a))

section Frame
variable (s : State)

/-! ### Messages and requests -/

@[simp] theorem raise_frame (kind reporter : Nat) (part : Option Nat) (addr detail : Nat) :
    SameFrame s (raise s kind reporter part addr detail) := ⟨rfl, rfl, rfl, rfl, rfl⟩

@[simp] theorem sendPosted_frame (src target part : Nat) (b : Body) : SameFrame s (sendPosted s src target part b) := ⟨rfl, rfl, rfl, rfl, rfl⟩

@[simp] theorem replayFinish_frame (target : Nat) (rq : Rq) (r : Resp) : SameFrame s (replayFinish s target rq r) := ⟨rfl, rfl, rfl, rfl, rfl⟩

@[simp] theorem sendNow_frame (o : OutReq) : SameFrame s (sendNow s o) := by
  unfold sendNow tagBump
  split <;> simp

@[simp] theorem sendReq_frame (o : OutReq) : SameFrame s (sendReq s o) := by
  unfold sendReq
  split
  · exact SameFrame.refl s
  · simp

/-! ### The lock unit -/

@[simp] theorem dropWait_frame (w : LockWait) : SameFrame s (dropWait s w) := ⟨rfl, rfl, rfl, rfl, rfl⟩

@[simp] theorem orphanCell_frame (n : Nat) : SameFrame s (orphanCell s n) := ⟨rfl, rfl, rfl, rfl, rfl⟩

@[simp] theorem wakeWatches_frame (n : Nat) : SameFrame s (wakeWatches s n) := by
  unfold wakeWatches
  exact SameFrame.trans (SameFrame.refl s) (foldl_frame _ (fun t w => sendPosted_frame t _ _ _ _) _)

@[simp] theorem passCell_frame (n status : Nat) : SameFrame s (passCell s n status) := by
  unfold passCell
  split
  · unfold waitAnswer
    refine SameFrame.trans ?_ (replayFinish_frame _ _ _ _)
    exact SameFrame.refl s
  · refine SameFrame.trans ?_ (wakeWatches_frame _ n)
    exact SameFrame.refl s

@[simp] theorem serveOrphan_frame (n : Nat) : SameFrame s (serveOrphan s n) := by
  unfold serveOrphan
  split
  · split
    · exact SameFrame.refl s
    · exact passCell_frame s n 4
  · exact foldl_frame s (fun t w => replayFinish_frame (dropWait t w) _ _ _) _

@[simp] theorem loseCell_frame (n : Nat) : SameFrame s (loseCell s n) := by
  unfold loseCell
  dsimp only
  split
  · simp [freeTake]
  · refine SameFrame.trans ?_ (serveOrphan_frame _ n)
    refine SameFrame.trans ?_ (orphanCell_frame _ n)
    simp

@[simp] theorem meetCellErr_frame (n : Nat) : SameFrame s (meetCellErr s n) := by
  unfold meetCellErr
  dsimp only
  split
  · exact SameFrame.refl s
  · exact SameFrame.refl s
  · exact SameFrame.trans (SameFrame.refl s) (loseCell_frame _ n)

@[simp] theorem meetWaitErr_frame (w : LockWait) : SameFrame s (meetWaitErr s w) := by
  unfold meetWaitErr
  dsimp only
  split
  · exact SameFrame.refl s
  · exact SameFrame.refl s
  · split <;> exact SameFrame.refl s

@[simp] theorem meetLockErrs_frame (n : Nat) : SameFrame s (meetLockErrs s n) :=
  (meetCellErr_frame s n).trans (foldl_frame _ meetWaitErr_frame _)

@[simp] theorem orphan_frame (rq part : Nat) : SameFrame s (orphan s rq part) := by
  unfold orphan
  dsimp only
  have hcells (t : State) (l : List Nat) : SameFrame t (l.foldl serveOrphan (l.foldl orphanCell t)) :=
    (foldl_frame t orphanCell_frame l).trans (foldl_frame _ serveOrphan_frame l)
  split
  · refine SameFrame.trans ?_ (hcells _ _)
    exact SameFrame.refl s
  · refine SameFrame.trans ?_ (raise_frame _ _ _ _ _ _)
    refine SameFrame.trans ?_ (hcells _ _)
    exact SameFrame.refl s

@[simp] theorem applyNotes_frame : SameFrame s (applyNotes s) := by
  unfold applyNotes
  refine SameFrame.trans ?_ (foldl_frame _ (fun t (x : Nat × Nat) => orphan_frame t x.1 x.2) _)
  exact SameFrame.refl s

/-! ### The schedulers and the gate -/

@[simp] theorem leaveStores_frame (i : Nat) : SameFrame s (leaveStores s i) := ⟨rfl, rfl, rfl, rfl, rfl⟩

@[simp] theorem sendStart_frame (i vt : Nat) : SameFrame s (sendStart s i vt) := by
  unfold sendStart
  split <;> simp

@[simp] theorem pullTo_frame (k i : Nat) (rq : Rq) (vt : Nat) : SameFrame s (pullTo s k i rq vt) := by
  simp [pullTo, setRstore, spoor, spoorSend]

@[simp] theorem serveTakes_frame (l : List TakeWait) : SameFrame s (serveTakes s l) := by
  induction l generalizing s with
  | nil => exact SameFrame.refl s
  | cons w r ih =>
    unfold serveTakes
    split
    · exact ih s
    · split
      · refine SameFrame.trans ?_ (ih _)
        simp
      · exact ih s

@[simp] theorem settleTakes_frame : SameFrame s (settleTakes s) := serveTakes_frame s _

@[simp] theorem meetRecord_frame (u i : Nat) : SameFrame s (meetRecord s u i) := by
  unfold meetRecord
  dsimp only
  split <;> exact SameFrame.refl s

@[simp] theorem meetCounter_frame (i : Nat) : SameFrame s (meetCounter s i) := by
  unfold meetCounter
  dsimp only
  split <;> exact SameFrame.refl s

@[simp] theorem meetEntry_frame (k i : Nat) : SameFrame s (meetEntry s k i) := by
  unfold meetEntry
  dsimp only
  split <;> exact SameFrame.refl s

@[simp] theorem meetStoreEnts_frame (k : Nat) : SameFrame s (meetStoreEnts s k) := foldl_frame s (fun t i => meetEntry_frame t k i) _

@[simp] theorem meetItem_frame (t : Nat) (it : Item) : SameFrame s (meetItem s t it) := by
  unfold meetItem
  exact ((foldl_frame s (fun x _ => raise_frame x _ _ _ _ _) _).trans (foldl_frame _ (fun x _ => raise_frame x _ _ _ _ _) _)).trans (SameFrame.refl _)

@[simp] theorem sliceMeets_frame (u : Nat) : SameFrame s (sliceMeets s u) := by
  unfold sliceMeets
  split
  · exact (foldl_frame s (fun t i => meetRecord_frame t u i) _).trans (meetStoreEnts_frame _ 4)
  split
  · exact foldl_frame s meetCounter_frame _
  split
  · exact meetStoreEnts_frame s _
  split
  · exact foldl_frame s meetLockErrs_frame _
  split
  · exact foldl_frame s (fun t (x : Nat × Trail) => foldl_frame t (fun y i => meetItem_frame y x.1 i) _) _
  · exact SameFrame.refl s

/-! ### The host accesses of a ring set -/

@[simp] theorem countHostFail_frame (b kind : Nat) : SameFrame s (countHostFail s b kind) := ⟨rfl, rfl, rfl, rfl, rfl⟩

@[simp] theorem keepAcc_frame (b : Nat) (a : HostAcc) : SameFrame s (keepAcc s b a) := ⟨rfl, rfl, rfl, rfl, rfl⟩

@[simp] theorem failAcc_frame (b : Nat) (a : HostAcc) (kind : Nat) : SameFrame s (failAcc s b a kind) := ⟨rfl, rfl, rfl, rfl, rfl⟩

@[simp] theorem issueAcc_frame (b : Nat) (a : HostAcc) : SameFrame s (issueAcc s b a).1 := by
  unfold issueAcc
  dsimp only
  split
  · split <;> simp
  · split <;> simp

@[simp] theorem atcLookup_frame (b : Nat) (a : HostAcc) : SameFrame s (atcLookup s b a).1 := by
  unfold atcLookup
  dsimp only
  split
  · exact SameFrame.refl s
  · split <;> simp

@[simp] theorem useAtc_frame (b : Nat) (a : HostAcc) (e : Atc) : SameFrame s (useAtc s b a e).1 := by
  unfold useAtc
  generalize (if a.wr then e.wr else e.rd) = allowed
  cases allowed
  · exact failAcc_frame s b a _
  · exact issueAcc_frame s b _

@[simp] theorem tryAcc_frame (b : Nat) (a : HostAcc) : SameFrame s (tryAcc s b a).1 := by
  have hlook := atcLookup_frame s b a
  unfold tryAcc
  dsimp only
  split
  · exact SameFrame.refl s
  split
  · exact SameFrame.refl s
  split
  · exact issueAcc_frame s b _
  generalize atcLookup s b a = q at hlook
  obtain ⟨y, e⟩ := q
  cases e with
  | some e =>
    refine SameFrame.trans (t := setHif y b { hifAt y b with hits := ((hifAt y b).hits + 1) % 2 ^ 32 }) ?_ (useAtc_frame _ b a e)
    exact hlook.trans (SameFrame.refl y)
  | none =>
    dsimp only
    split
    · exact hlook.trans (SameFrame.refl y)
    · exact hlook.trans (SameFrame.refl y)

@[simp] theorem ringHost_frame (r : RingSet) (iova len : Nat) (wr : Bool) (data : List Byte) (use : HUse) :
    SameFrame s (ringHost s r iova len wr data use).1 := by
  unfold ringHost hostStart
  refine SameFrame.trans ?_ (tryAcc_frame _ _ _)
  exact SameFrame.refl s

/-! ### The ring sets -/

@[simp] theorem signalVec_frame (port fn vec : Nat) : SameFrame s (signalVec s port fn vec) := by
  unfold signalVec
  dsimp only
  generalize (if fn = 0 then 64 else (fnAt s port fn).vecs) = n
  split
  · simp
  split <;> simp

@[simp] theorem ringSignal_frame (rs : Nat) : SameFrame s (ringSignal s rs) := by simp [ringSignal]

@[simp] theorem ringRaise_frame (rs kind k seq : Nat) : SameFrame s (ringRaise s rs kind k seq) := ⟨rfl, rfl, rfl, rfl, rfl⟩

@[simp] theorem modRing_frame (rs : Nat) (f : RingSet → RingSet) : SameFrame s (modRing s rs f) := ⟨rfl, rfl, rfl, rfl, rfl⟩

@[simp] theorem entryWritten_frame (rs : Nat) (irq : Bool) : SameFrame s (entryWritten s rs irq) := by
  unfold entryWritten
  dsimp only
  split <;> simp

@[simp] theorem ringHostError_frame (rs k seq : Nat) : SameFrame s (ringHostError s rs k seq) := ⟨rfl, rfl, rfl, rfl, rfl⟩

@[simp] theorem ringDrain_frame (rs : Nat) : SameFrame s (ringDrain s rs) := by
  unfold ringDrain
  dsimp only
  split <;> exact SameFrame.refl s

@[simp] theorem postEntry_frame (rs seq op status : Nat) (retire : Bool) (value detail : Nat) (irq : Bool) :
    SameFrame s (postEntry s rs seq op status retire value detail irq) := by
  unfold postEntry
  dsimp only
  split
  · exact SameFrame.refl s
  · generalize hq : ringHost _ _ _ _ _ _ _ = q
    have hhost : SameFrame s q.1 := by
      rw [← hq]
      exact (SameFrame.refl s).trans (ringHost_frame (setRing s rs _) _ _ _ _ _ _)
    obtain ⟨y, r⟩ := q
    cases r with
    | pending => exact hhost
    | done => exact hhost.trans (entryWritten_frame y rs irq)
    | failed kind => exact hhost.trans (SameFrame.refl y)

@[simp] theorem settleEnd_frame (rs : Nat) (d : RDesc) (st detail : Nat) (evald : Bool) : SameFrame s (settleEnd s rs d st detail evald) :=
  (SameFrame.refl s).trans (postEntry_frame (modRing s rs _) _ _ _ _ _ _ _ _)

@[simp] theorem settleFields_frame (rs : Nat) (d : RDesc) : SameFrame s (settleFields s rs d) := by
  unfold settleFields
  dsimp only
  split
  · simp
  split <;> simp

@[simp] theorem settleSeq_frame (rs : Nat) (d : RDesc) : SameFrame s (settleSeq s rs d) := by
  have hnote : SameFrame s (modRing s rs (fun r => { r with owed := r.owed + 1, bufErr := 0 })) := SameFrame.refl s
  unfold settleSeq
  dsimp only
  generalize modRing s rs _ = y at hnote
  split
  · exact hnote.trans (by simp)
  · have hmet : SameFrame s (if (ringAt s rs).bufErr = 1 then ringRaise y rs Kind.ringBufferCorrected d.k d.seq else y) := by
      split
      · exact hnote
      · exact hnote
    generalize (if (ringAt s rs).bufErr = 1 then _ else _) = z at hmet
    split
    · exact hmet.trans (by simp)
    · split
      · exact hmet.trans (by simp)
      · exact hmet.trans (by simp)

@[simp] theorem ringSettle_frame (rs : Nat) : SameFrame s (ringSettle s rs) := by
  unfold ringSettle
  dsimp only
  split
  · exact SameFrame.refl s
  split
  · exact SameFrame.refl s
  split
  · exact SameFrame.refl s
  split
  · exact SameFrame.refl s
  · exact settleSeq_frame s rs _

@[simp] theorem ringComplete_frame (rs k st value detail : Nat) : SameFrame s (ringComplete s rs k st value detail) := by
  unfold ringComplete
  dsimp only
  generalize List.find? _ _ = o
  cases o with
  | none => exact SameFrame.refl s
  | some d =>
    exact ((SameFrame.refl s).trans (postEntry_frame (setRing s rs _) _ _ _ _ _ _ _ _)).trans ((ringDrain_frame _ rs).trans (ringSettle_frame _ rs))

/-! ### Doorbell pages -/

@[simp] theorem sqPiWrite_frame (rs v : Nat) : SameFrame s (sqPiWrite s rs v) := by
  unfold sqPiWrite
  dsimp only
  repeat' split
  all_goals exact SameFrame.refl s

@[simp] theorem cqCiWrite_frame (rs v : Nat) : SameFrame s (cqCiWrite s rs v) := by
  unfold cqCiWrite
  dsimp only
  repeat' split
  all_goals exact SameFrame.refl s

@[simp] theorem ringEnable_frame (rs : Nat) : SameFrame s (ringEnable s rs) := by
  unfold ringEnable
  dsimp only
  repeat' split
  all_goals exact SameFrame.refl s

@[simp] theorem sendCancel_frame (r : RingSet) (d : RDesc) : SameFrame s (sendCancel s r d) := by
  unfold sendCancel
  split <;> simp

@[simp] theorem ringDisable_frame (rs : Nat) : SameFrame s (ringDisable s rs) := by
  unfold ringDisable
  dsimp only
  split
  · exact SameFrame.refl s
  · refine SameFrame.trans ?_ (ringDrain_frame _ rs)
    refine SameFrame.trans ?_ (foldl_frame _ (fun t d => sendCancel_frame t _ d) _)
    cases (ringAt s rs).cur with
    | none => exact SameFrame.refl s
    | some d =>
      by_cases hphase : d.phase = 2 <;>
        simp only [hphase, ne_eq, not_true_eq_false, not_false_eq_true, decide_true, decide_false, if_true, Bool.false_eq_true, if_false]
      · exact SameFrame.refl s
      · exact SameFrame.refl s

@[simp] theorem pageWrite_frame (rs w half v : Nat) : SameFrame s (pageWrite s rs w half v) := by
  unfold pageWrite
  dsimp only
  split
  · have hpi : SameFrame s (if half = 2 then s else sqPiWrite s rs (v % 2 ^ 32)) := by split <;> simp
    generalize (if half = 2 then s else _) = y at hpi
    split
    · exact hpi
    · exact hpi.trans (by simp)
  case h_7 =>
    repeat' split
    all_goals simp
  all_goals
    repeat' split
    all_goals exact SameFrame.refl s

@[simp] theorem pageStore_frame (b : Nat) (x : BarWrite) : SameFrame s (pageStore s b x) := by
  unfold pageStore
  dsimp only
  split
  · exact SameFrame.refl s
  · repeat' split
    all_goals simp

/-! ### The copy engine, and what goes on after a slice -/

@[simp] theorem copyForget_frame (b : Nat) : SameFrame s (copyForget s b) := ⟨rfl, rfl, rfl, rfl, rfl⟩

@[simp] theorem longStop_frame (rs : Nat) (d : RDesc) (reason addr : Nat) : SameFrame s (longStop s rs d reason addr) := by
  have hrecord : SameFrame s (copyRecord s rs reason addr) := by
    unfold copyRecord
    dsimp only
    split <;> simp
  exact hrecord.trans ((ringComplete_frame _ _ _ _ _ _).trans (copyForget_frame _ _))

@[simp] theorem copyRead_frame (rs : Nat) (d : RDesc) : SameFrame s (copyRead s rs d).1 := by
  unfold copyRead modLong
  dsimp only
  split
  · exact (modRing_frame s rs _).trans (longStop_frame _ _ _ _ _)
  · exact (modRing_frame s rs _).trans (sendReq_frame _ _)

@[simp] theorem copyStart_frame (b fuel : Nat) : SameFrame s (copyStart s b fuel) := by
  induction fuel generalizing s with
  | zero => exact SameFrame.refl s
  | succ n ih =>
    unfold copyStart
    dsimp only
    split
    · exact SameFrame.refl s
    split
    · exact SameFrame.refl s
    split
    · exact SameFrame.refl s
    · generalize hq : copyRead _ _ _ = q
      have hread : SameFrame s q.1 := by
        rw [← hq]
        exact (SameFrame.refl s).trans (copyRead_frame (setHif s b _) _ _)
      obtain ⟨y, c⟩ := q
      cases c
      · exact hread.trans (ih y)
      · exact hread

@[simp] theorem bridgeResume_frame (b len : Nat) : SameFrame s (bridgeResume s b len) := by
  unfold bridgeResume
  dsimp only
  refine SameFrame.trans ?_ (foldl_frame _ (fun t (x : Nat × RingSet) => ringSettle_frame t x.1) _)
  exact SameFrame.trans (SameFrame.refl s) (foldl_frame _ (fun t (x : BarWrite) => pageStore_frame t b x) _)

@[simp] theorem sliceResume_frame (x : Slice) : SameFrame s (sliceResume s x) := by
  unfold sliceResume
  split
  · simp
  split
  · exact foldl_frame s (fun t u => by simp) _
  split
  · exact (bridgeResume_frame s _ _).trans (copyStart_frame _ _ 8)
  · exact SameFrame.refl s

end Frame

end Sys2Proof.Machine
end

section
/-! PROOF. The slices and periods of in-field self-test (R525 to R530). -/

namespace Sys2Proof.Machine

variable {s : State} {u : Nat}

/-! ### The start of a slice, and the wait for a kernel (R525, R526) -/

/-- A slice that may start takes its tile, unless the tile's kernel runs. -/
theorem sliceStart_open {len : Nat} (scrub : Bool) (hclock : clocked s = true) (hsup : supClocked s = true) (hmode : s.clr.mode = .operational)
    (hon : s.ckr.ifstEnable = true) (hdue : sliceDue s u = true) (hleft : sliceLeft s u = none) (hspaced : sliceSpaced s u = true)
    (hroom : sliceRoom s u = true) (hpos : 0 < len) (hlen : len ≤ 32000) : sliceStart s u scrub len
      = if isTile u && (tileAt s u).kern.running then
          (if s.ckr.chosen.any (fun x => decide (x.1 = u)) then s
           else { s with ckr := { s.ckr with chosen := s.ckr.chosen ++ [(u, now s)] } })
        else
          let s1 : State := { noteSlice s u with slices := s.slices ++ [{ unit := u, scrub := scrub, start := now s, endAt := now s + len }] }
          if isTile u then modTile s1 u (fun t => { t with testing := true }) else s1 := by
  have hguard : ¬(!(clocked s && supClocked s) || decide (s.clr.mode ≠ .operational) || !s.ckr.ifstEnable || !(sliceDue s u)
      || (sliceLeft s u).isSome || !(sliceSpaced s u) || !(sliceRoom s u) || decide (len = 0) || decide (32000 < len)) = true := by
    simp [hclock, hsup, hmode, hon, hdue, hleft, hspaced, hroom]
    omega
  exact if_neg hguard

/-- A kernel that did not exit in time makes its tile's slice skipped. -/
theorem sliceWaitExpiry_skips {x : Nat × Nat} (hchosen : s.ckr.chosen.find? (fun y => decide (y.1 = u)) = some x) (hclock : clocked s = true)
    (hkern : (tileAt s u).kern.running = true) (hlate : x.2 + 160000 ≤ now s) : sliceWaitExpiry s u
      = { noteSlice s u with ckr := { (noteSlice s u).ckr with
          skipped := ((noteSlice s u).ckr.skipped + 1) % 2 ^ 16, skips := NSet.add (noteSlice s u).ckr.skips u } } := by
  unfold sliceWaitExpiry
  rw [hchosen]
  exact if_pos (by simp [hclock, hkern, hlate])

/-! ### The end of a period (R527, R530) -/

/-- What judging the units at a period's end changes: the counts of missed periods and fault messages. -/
def Judged (s t : State) : Prop := ∃ missed ms, t = { s with
  ckr := { s.ckr with missed := missed }, flt := { s.flt with inbox := s.flt.inbox ++ ms } }

theorem Judged.refl (s : State) : Judged s s := ⟨s.ckr.missed, [], by simp⟩

theorem Judged.trans {s t x : State} (h : Judged s t) (h' : Judged t x) : Judged s x := by
  obtain ⟨_, ms, rfl⟩ := h
  obtain ⟨missed, ms', rfl⟩ := h'
  exact ⟨missed, ms ++ ms', by simp⟩

theorem periodUnit_judged (s : State) (u : Nat) : Judged s (periodUnit s u) := by
  unfold periodUnit
  dsimp only
  generalize (if decide (slicesPer u ≤ SMap.get 0 s.ckr.passed u) = true ∨ (!(NSet.has s.ckr.skips u)) = true then 0
    else SMap.get 0 s.ckr.missed u + 1) = m
  split
  · exact ⟨_, [_], rfl⟩
  · exact ⟨_, [], by rw [List.append_nil]⟩

theorem foldl_periodUnit_judged (s : State) (l : List Nat) : Judged s (l.foldl periodUnit s) :=
  List.foldlRecOn l periodUnit (motive := Judged s) (Judged.refl s) (fun t ht a _ => ht.trans (periodUnit_judged t a))

/-- The part after its units have been judged, where ENABLE is 1. -/
def judged (s : State) : State := if s.ckr.ifstEnable then (slicedUnits.filter (sliceDue s)).foldl periodUnit s else s

theorem judged_judged (s : State) : Judged s (judged s) := by
  unfold judged
  split
  · exact foldl_periodUnit_judged s _
  · exact Judged.refl s

/-- The next period begins. -/
def periodBegun (s : State) (len : Nat) : State := { s with ckr := { s.ckr with
  passed := s.ckr.passed.filter (fun x => s.ckr.engage.any (fun e => decide (e.1 = x.1)))
  skips := [], periodNo := s.ckr.periodNo + 1, periodFrom := s.ckr.periodFrom + len } }

theorem ifstPeriodEnd_over (hclock : clocked s = true) (hsup : supClocked s = true)
    (hover : s.ckr.periodFrom + s.ckr.period * usToCc s 100000 ≤ supNow s) :
    ifstPeriodEnd s = ifstApply (periodBegun (judged s) (s.ckr.period * usToCc s 100000)) :=
  if_neg (by simp [hclock, hsup, hover])

theorem exec_ifstPeriodEnd (hclock : clocked s = true) (hsup : supClocked s = true)
    (hover : s.ckr.periodFrom + s.ckr.period * usToCc s 100000 ≤ supNow s) :
    Leaves .ifstPeriodEnd s (fun t => t.ckr.periodNo = s.ckr.periodNo + 1
      ∧ t.ckr.periodFrom = s.ckr.periodFrom + s.ckr.period * usToCc s 100000 ∧ t.tiles = s.tiles ∧ t.slices = s.slices
      ∧ (∀ v, s.ckr.ifstWritten = some v → t.ckr.ifstEnable = bit v 63 ∧ t.ckr.maxTiles = bits v 35 32 + 1 ∧ t.ckr.period = bits v 15 0)
      ∧ (s.ckr.ifstWritten = none → t.ckr.ifstEnable = s.ckr.ifstEnable ∧ t.ckr.maxTiles = s.ckr.maxTiles ∧ t.ckr.period = s.ckr.period)
      ∧ (s.ckr.ifstEnable = false → t.flt = s.flt)) := by
  have hend := ifstPeriodEnd_over hclock hsup hover
  have hoff : s.ckr.ifstEnable = false → judged s = s := fun h => if_neg (by simp [h])
  obtain ⟨missed, ms, hj⟩ := judged_judged s
  generalize judged s = y at hj hoff hend
  have hwritten : y.ckr.ifstWritten = s.ckr.ifstWritten := by rw [hj]

  cases hw : s.ckr.ifstWritten with
  | none =>
    have happly (z : State) (h : z.ckr.ifstWritten = none) : ifstApply z = z := by rw [ifstApply, h]
    rw [happly (periodBegun y _) (hwritten.trans hw)] at hend
    refine ⟨_, settled_of_eq hend, ?_⟩
    have hflt (h : s.ckr.ifstEnable = false) : y.flt = s.flt := by rw [hoff h]
    subst hj
    exact ⟨rfl, rfl, rfl, rfl, fun v hv => (by cases hv), fun _ => ⟨rfl, rfl, rfl⟩, hflt⟩
  | some v =>
    have happly (z : State) (h : z.ckr.ifstWritten = some v) : ifstApply z = { z with ckr := { z.ckr with
        ifstEnable := bit v 63, maxTiles := bits v 35 32 + 1, period := bits v 15 0, ifstWritten := none } } := by rw [ifstApply, h]
    rw [happly (periodBegun y _) (hwritten.trans hw)] at hend
    refine ⟨_, settled_of_eq hend, ?_⟩
    have hflt (h : s.ckr.ifstEnable = false) : y.flt = s.flt := by rw [hoff h]
    subst hj
    refine ⟨rfl, rfl, rfl, rfl, fun v' hv => ?_, fun h => (by cases h), hflt⟩
    cases hv
    exact ⟨rfl, rfl, rfl⟩

theorem slicesStart : SlicesStart := by
  refine ⟨fun s u len scrub hclock hsup hmode hon hdue hleft hspaced hroom hpos hlen => ?_, fun s u x hchosen hclock hkern hlate => ?_,
    fun s hclock hsup hover => exec_ifstPeriodEnd hclock hsup hover⟩
  · have hopen := sliceStart_open scrub hclock hsup hmode hon hdue hleft hspaced hroom hpos hlen
    refine ⟨fun htile hkern => ?_, fun htile hkern hnot => ?_, fun htile => ?_⟩
    · rw [if_neg (by simp [hkern])] at hopen
      exact settled_of_keeps (hopen.trans (if_pos htile)) ⟨rfl, rfl⟩
    · rw [if_pos (by simp [htile, hkern]), if_neg (by simp [hnot])] at hopen
      exact settled_of_keeps hopen ⟨rfl, rfl⟩
    · rw [if_neg (by simp [htile])] at hopen
      exact settled_of_keeps (hopen.trans (if_neg (by simp [htile]))) ⟨rfl, rfl⟩
  · exact ⟨_, settled_of_eq (sliceWaitExpiry_skips hchosen hclock hkern hlate), rfl, rfl, rfl, rfl⟩

/-! ### The end of a slice (R526, R528) -/

/-- The slice of a unit is over, and counted. -/
def sliceOver (s : State) (u : Nat) : State :=
  { s with slices := s.slices.filter (fun y => decide (y.unit ≠ u)), ckr := { s.ckr with slices := (s.ckr.slices + 1) % 2 ^ 32 } }

/-- The lock unit applies what it held during its own slice. -/
def noted (s : State) (u : Nat) : State := if u = 0x304 then applyNotes s else s

theorem noted_frame (s : State) (u : Nat) : SameFrame s (noted s u) := by
  unfold noted
  split
  · exact applyNotes_frame s
  · exact SameFrame.refl s

theorem noted_tile (h : isTile u = true) : noted s u = s := by
  have hlt : u < 0x110 := by simpa [isTile] using h
  exact if_neg (by omega)

section Over
variable {x : Slice} (hclock : clocked s = true) (hfind : s.slices.find? (fun y => decide (y.unit = u)) = some x) (hover : x.endAt ≤ now s)
include hclock hfind hover

theorem sliceEnd_pass : sliceEnd s u true = slicePassed (settleTakes (sliceMeets (sliceResume (noted (sliceOver s u) u) x) u)) u := by
  unfold sliceEnd
  rw [hfind]
  dsimp only
  rw [if_neg (by simp [hclock, hover])]
  rfl

theorem sliceEnd_fail : sliceEnd s u false
    = sliceFailed (if isTile u then noted (sliceOver s u) u else sliceResume (noted (sliceOver s u) u) x) u := by
  unfold sliceEnd
  rw [hfind]
  dsimp only
  rw [if_neg (by simp [hclock, hover])]
  rfl

end Over

/-- A slice of a tile meets none of the stores that slices check. -/
theorem sliceMeets_tile (h : isTile u = true) : sliceMeets s u = s := by
  have hlt : u < 0x110 := by simpa [isTile] using h
  unfold sliceMeets
  rw [if_neg (by omega), if_neg (by omega), if_neg (by omega), if_neg (by omega), if_neg (by omega)]

/-- A passing slice within a pass counts in it. -/
theorem slicePassed_within (h : (SMap.get 0 s.ckr.passed u + 1) % slicesPer u ≠ 0) : slicePassed s u
    = { s with ckr := { s.ckr with passed := SMap.put 0 s.ckr.passed u (SMap.get 0 s.ckr.passed u + 1) } } := if_neg h

/-- Whether a pass is complete or not, the slices' and failures' counts stay. -/
theorem slicePassed_counts (s : State) (u : Nat) : (slicePassed s u).slices = s.slices ∧ (slicePassed s u).ckr.slices = s.ckr.slices
    ∧ (slicePassed s u).ckr.failed = s.ckr.failed := by
  unfold slicePassed
  dsimp only
  split
  · unfold engagePass
    dsimp only
    split
    · split
      · exact ⟨rfl, rfl, rfl⟩
      · exact ⟨rfl, rfl, rfl⟩
    · exact ⟨rfl, rfl, rfl⟩
  · exact ⟨rfl, rfl, rfl⟩

/-- Asking for a checkpoint changes the ledger only. -/
theorem askCheckpoint_ldg (s : State) (ws : List Nat) : ∃ ldg, askCheckpoint s ws = { s with ldg := ldg } := by
  unfold askCheckpoint queueWrite
  repeat' split
  · exact ⟨s.ldg, rfl⟩
  · exact ⟨_, rfl⟩
  · exact ⟨_, rfl⟩

/-- So does the record of a failed tile. -/
theorem recordFailed_ldg (s : State) (u st : Nat) : ∃ ldg, recordFailed s u st = { s with ldg := ldg } := by
  unfold recordFailed
  split
  · exact ⟨s.ldg, rfl⟩
  · exact ⟨_, rfl⟩

/-- A tile's failure is counted, recorded and kept in the ledger. -/
theorem sliceFailed_tile (h : isTile u = true) : ∃ ldg, sliceFailed s u
    = { raiseAbout { s with ckr := { s.ckr with failed := (s.ckr.failed + 1) % 2 ^ 16 } } Kind.tileSelfTestFailed ckrId u
        (tilePart (tileAt s u)) 0 0 none with ldg := ldg } := by
  unfold sliceFailed
  rw [if_pos h]
  generalize raiseAbout _ _ _ _ _ _ _ _ = y
  obtain ⟨ldg, hrec⟩ := recordFailed_ldg y u 2
  obtain ⟨ldg', hask⟩ := askCheckpoint_ldg { y with ldg := ldg } []
  exact ⟨ldg', by rw [hrec, hask]⟩

theorem slicesEnd : SlicesEnd := by
  intro s u x hclock hfind hover
  have hunit : x.unit = u := by simpa using List.find?_some hfind
  refine ⟨fun htile hpass htakes => ?_, ?_, fun htile => ?_, fun htile => ?_⟩
  · have hresume : sliceResume (sliceOver s u) x
        = modTile (sliceOver s u) u (fun t => resumeWaits (now s) x.start { t with testing := false }) := by
      unfold sliceResume
      rw [hunit, if_pos htile]
      rfl
    have hnone (y : State) (h : y.sch.takes = []) : settleTakes y = y := by rw [settleTakes, h, serveTakes]
    have hper : slicesPer u = 20 := if_pos htile
    refine settled_of_keeps ((sliceEnd_pass hclock hfind hover).trans ?_) ⟨rfl, rfl⟩
    rw [noted_tile htile, hresume, sliceMeets_tile htile, hnone (modTile (sliceOver s u) u _) htakes, slicePassed_within (by rw [hper]; exact hpass)]
    rfl
  · have hkeeps : SameFrame (sliceOver s u) (settleTakes (sliceMeets (sliceResume (noted (sliceOver s u) u) x) u)) :=
      (noted_frame _ u).trans ((sliceResume_frame _ x).trans ((sliceMeets_frame _ u).trans (settleTakes_frame _)))
    refine ⟨_, settled_of_eq (sliceEnd_pass hclock hfind hover), ?_⟩
    generalize settleTakes _ = y at hkeeps
    obtain ⟨-, -, hckr, hslices, -⟩ := hkeeps
    obtain ⟨hs, hn, hf⟩ := slicePassed_counts y u
    refine ⟨hs.trans hslices, hn.trans (congrArg Ckr.slices hckr), hf.trans ?_⟩
    rw [hckr]
    rfl
  · obtain ⟨ldg, hfail⟩ := sliceFailed_tile (s := sliceOver s u) htile
    have hend := sliceEnd_fail hclock hfind hover
    rw [if_pos htile, noted_tile htile, hfail] at hend
    exact ⟨_, settled_of_eq hend, rfl, rfl, rfl, rfl⟩
  · have hkeeps : SameFrame (sliceOver s u) (sliceResume (noted (sliceOver s u) u) x) := (noted_frame _ u).trans (sliceResume_frame _ x)
    have hend := sliceEnd_fail hclock hfind hover
    rw [if_neg (by simp [htile])] at hend
    generalize sliceResume _ x = y at hkeeps hend
    obtain ⟨hclr, -, hckr, hslices, -⟩ := hkeeps
    rw [sliceFailed, if_neg (by simp [htile])] at hend
    refine ⟨_, settled_of_eq hend, rfl, ?_, hslices, ?_⟩
    · change (y.ckr.failed + 1) % 2 ^ 16 = _
      rw [hckr]
      rfl
    · have hnow : now s = now y := congrArg Clr.time hclr.symm
      rw [hnow]
      exact List.mem_append_right _ (List.mem_singleton_self _)

/-- Settles O11: the slices that start, those that end, and the periods. -/
theorem selfTestSlices : Obligations.SelfTestSlices := ⟨slicesStart, slicesEnd⟩

end Sys2Proof.Machine
end

section
/-! PROOF. The lock unit (chapter 12): what its operations do to cells, queues and watches, then Table 12.4, limits and orphans. -/

namespace Sys2Proof.Machine

variable {s m : State} {n k : Nat} {w : LockWait} {l : List LockWait}

/-! ### Cells, queues and watches -/

@[simp] theorem cellAt_setCell (s : State) (n : Nat) (c : LockCell) : cellAt (setCell s n c) n = c := SMap.get_put_same ..

theorem cellAt_setCell_other (h : k ≠ n) (c : LockCell) : cellAt (setCell s n c) k = cellAt s k := SMap.get_put_other _ _ h _

/-- Cells are read from the cells alone, groups from the groups, queues from the pool. -/
theorem cellAt_congr {t : State} (h : t.lck.cells = s.lck.cells) (n : Nat) : cellAt t n = cellAt s n := by rw [cellAt, h, cellAt]

theorem waitersOf_congr {t : State} (h : t.lck.waits = s.lck.waits) (n : Nat) : waitersOf t n = waitersOf s n := by
  rw [waitersOf, h, waitersOf]

/-- What is taken out of a list leaves the part that it belongs to. -/
theorem filter_erase_of_pos {α : Type} [DecidableEq α] {p : α → Bool} {a : α} (h : p a = true) (l : List α) :
    (l.erase a).filter p = (l.filter p).erase a := by
  induction l with
  | nil => rfl
  | cons b l ih =>
    by_cases hb : b = a
    · rw [hb, List.erase_cons_head, List.filter_cons_of_pos h, List.erase_cons_head]
    · rw [List.erase_cons_tail (by simpa using hb)]
      by_cases hp : p b = true
      · rw [List.filter_cons_of_pos hp, List.filter_cons_of_pos hp, List.erase_cons_tail (by simpa using hb), ih]
      · rw [List.filter_cons_of_neg hp, List.filter_cons_of_neg hp, ih]

theorem mem_waitersOf : w ∈ waitersOf s n ↔ w ∈ s.lck.waits ∧ w.cell = n ∧ w.watch = false := by simp [waitersOf]

/-- A waiter that leaves the pool leaves the queue of its cell. -/
theorem waitersOf_dropWait (h : w ∈ waitersOf s n) : waitersOf (dropWait s w) n = (waitersOf s n).erase w := by
  obtain ⟨-, hcell, hwatch⟩ := mem_waitersOf.mp h
  exact filter_erase_of_pos (p := fun x : LockWait => decide (x.cell = n) && !x.watch) (by simp [hcell, hwatch]) _

/-- A queue shrinks with the pool. -/
theorem waitersOf_nil_of_subset {t : State} (hsub : ∀ w ∈ t.lck.waits, w ∈ s.lck.waits) (h : waitersOf s n = []) : waitersOf t n = [] := by
  rw [List.eq_nil_iff_forall_not_mem] at h ⊢
  intro w hw
  obtain ⟨hmem, hrest⟩ := mem_waitersOf.mp hw
  exact h w (mem_waitersOf.mpr ⟨hsub w hmem, hrest⟩)

/-! ### Answers and wake-ups -/

@[simp] theorem waitAnswer_lck (s : State) (w : LockWait) (fail : Bool) (v st : Nat) : (waitAnswer s w fail v st).lck = s.lck := rfl

theorem waitAnswer_net (s : State) (w : LockWait) (fail : Bool) (v st : Nat) :
    (waitAnswer s w fail v st).net = s.net ++ [rspOf 0x304 w.rq (.result (resultWord fail v st))] := rfl

theorem waiterAnswered_waitAnswer (s : State) (w : LockWait) (fail : Bool) (v st : Nat) : waiterAnswered (waitAnswer s w fail v st) w fail v st :=
  List.mem_append_right _ (List.mem_singleton_self _)

/-- The packet of LOCK_WAKE. -/
def wakePkt (w : LockWait) : Packet := { cls := 2, dest := w.rq.src / 4, src := rqId 0x304 0, part := w.rq.part, tag := 0, body := .eventSet 1 }

theorem foldl_wake (ws : List LockWait) (s : State) :
    (ws.foldl (fun s w => sendPosted s (rqId 0x304 0) (w.rq.src / 4) w.rq.part (.eventSet 1)) s).lck = s.lck
    ∧ (ws.foldl (fun s w => sendPosted s (rqId 0x304 0) (w.rq.src / 4) w.rq.part (.eventSet 1)) s).net = s.net ++ ws.map wakePkt := by
  induction ws generalizing s with
  | nil => exact ⟨rfl, by simp⟩
  | cons w ws ih =>
    obtain ⟨hlck, hnet⟩ := ih (sendPosted s (rqId 0x304 0) (w.rq.src / 4) w.rq.part (.eventSet 1))
    refine ⟨hlck, hnet.trans ?_⟩
    rw [List.map_cons, List.append_cons]
    rfl

/-- The watches of the cell leave the pool; cells and groups stay. -/
theorem wakeWatches_lck (s : State) (n : Nat) :
    (wakeWatches s n).lck = { s.lck with waits := s.lck.waits.filter (fun w => !(decide (w.cell = n) && w.watch)) } := (foldl_wake _ _).1

theorem wakeWatches_net (s : State) (n : Nat) : (wakeWatches s n).net = s.net ++ (watchesOf s n).map wakePkt := (foldl_wake _ _).2

theorem watchesOf_wakeWatches (s : State) (n : Nat) : watchesOf (wakeWatches s n) n = [] := by
  rw [watchesOf, wakeWatches_lck, List.filter_filter, List.filter_eq_nil_iff]
  intro w _
  simp

theorem wakeWatches_flt (s : State) (n : Nat) : (wakeWatches s n).flt = s.flt := by
  unfold wakeWatches
  exact List.foldlRecOn _ _ (motive := fun t : State => t.flt = s.flt) rfl (fun _ h _ _ => h)

/-! ### A mutex passes on (R358) -/

theorem passCell_free (h : waitersOf s n = []) (status : Nat) : passCell s n status
    = wakeWatches (setCell s n { cellAt s n with state := 0, owner := 0, slot := 0, handover := false }) n := by rw [passCell, h]

theorem passCell_head (h : waitersOf s n = w :: l) (status : Nat) : passCell s n status
    = waitAnswer (holdCell (dropWait s w) n w.rq.src w.slot) w false 0 status := by rw [passCell, h]

@[simp] theorem cellAt_holdCell (s : State) (n src slot : Nat) :
    cellAt (holdCell s n src slot) n = { cellAt s n with state := 1, owner := src, slot := slot, handover := false } :=
  (cellAt_congr (s := setCell s n { cellAt s n with state := 1, owner := src, slot := slot, handover := false }) rfl n).trans (cellAt_setCell s n _)

theorem cellAt_holdCell_other (h : k ≠ n) (src slot : Nat) : cellAt (holdCell s n src slot) k = cellAt s k :=
  (cellAt_congr (s := setCell s n { cellAt s n with state := 1, owner := src, slot := slot, handover := false }) rfl k).trans
    (cellAt_setCell_other h _)

theorem cellAt_wakeWatches (s : State) (n k : Nat) : cellAt (wakeWatches s n) k = cellAt s k := cellAt_congr (by rw [wakeWatches_lck]) k

theorem passCell_other (h : k ≠ n) (status : Nat) : cellAt (passCell s n status) k = cellAt s k := by
  cases hq : waitersOf s n with
  | nil => rw [passCell_free hq, cellAt_wakeWatches, cellAt_setCell_other h]
  | cons w l =>
    rw [passCell_head hq]
    exact cellAt_holdCell_other (s := dropWait s w) h _ _

theorem passCell_waits_subset (s : State) (n status : Nat) : ∀ w ∈ (passCell s n status).lck.waits, w ∈ s.lck.waits := by
  cases hq : waitersOf s n with
  | nil =>
    rw [passCell_free hq, wakeWatches_lck]
    exact fun w hw => List.mem_of_mem_filter hw
  | cons w l =>
    rw [passCell_head hq]
    exact fun w' hw => List.mem_of_mem_erase hw

/-! ### The waiters of an orphaned cell are served (R363) -/

/-- Every waiter of a list leaves with LOCK_ORPHANED_REFUSED. -/
def refuseAll (s : State) (l : List LockWait) : State := l.foldl (fun s w => waitAnswer (dropWait s w) w true (waitValue s n) 0x19) s

theorem serveOrphan_nil (h : waitersOf s n = []) : serveOrphan s n = s := by
  unfold serveOrphan
  rw [h]
  split <;> rfl

theorem serveOrphan_head (h : waitersOf s n = w :: l) (hover : (cellAt s n).handover = true) : serveOrphan s n = passCell s n 4 := by
  unfold serveOrphan
  rw [if_pos hover, h]

theorem serveOrphan_refuses (hover : (cellAt s n).handover = false) : serveOrphan s n = refuseAll (n := n) s (waitersOf s n) := by
  unfold serveOrphan
  rw [if_neg (by simp [hover])]
  rfl

theorem refuseAll_cells (s : State) (l : List LockWait) : (refuseAll (n := n) s l).lck.cells = s.lck.cells :=
  List.foldlRecOn l _ (motive := fun t : State => t.lck.cells = s.lck.cells) rfl (fun _ h _ _ => h)

theorem refuseAll_waits_subset (s : State) (l : List LockWait) : ∀ w ∈ (refuseAll (n := n) s l).lck.waits, w ∈ s.lck.waits :=
  List.foldlRecOn l _ (motive := fun t : State => ∀ w ∈ t.lck.waits, w ∈ s.lck.waits) (fun _ hw => hw) (fun _ h _ _ w hw => h w (List.mem_of_mem_erase hw))

/-- What is in the network when waiters are refused stays there. -/
theorem refuseAll_net (s : State) (l : List LockWait) {p : Packet} (hp : p ∈ s.net) : p ∈ (refuseAll (n := n) s l).net :=
  List.foldlRecOn l _ (motive := fun t : State => p ∈ t.net) hp (fun _ h _ _ => List.mem_append_left _ h)

theorem refuseAll_answers (s : State) (l : List LockWait) : ∀ w ∈ l, ∃ v, waiterAnswered (refuseAll (n := n) s l) w true v 0x19 := by
  induction l generalizing s with
  | nil => exact fun w hw => absurd hw List.not_mem_nil
  | cons x l ih =>
    intro w hw
    rcases List.mem_cons.mp hw with rfl | hrest
    · exact ⟨waitValue s n, refuseAll_net _ l (waiterAnswered_waitAnswer (dropWait s w) w true _ _)⟩
    · exact ih _ w hrest

theorem serveOrphan_waits_subset (s : State) (n : Nat) : ∀ w ∈ (serveOrphan s n).lck.waits, w ∈ s.lck.waits := by
  cases hover : (cellAt s n).handover with
  | false =>
    rw [serveOrphan_refuses hover]
    exact refuseAll_waits_subset s _
  | true =>
    cases hq : waitersOf s n with
    | nil =>
      rw [serveOrphan_nil hq]
      exact fun _ h => h
    | cons w l =>
      rw [serveOrphan_head hq hover]
      exact passCell_waits_subset s n 4

theorem serveOrphan_other (h : k ≠ n) : cellAt (serveOrphan s n) k = cellAt s k := by
  cases hover : (cellAt s n).handover with
  | false =>
    rw [serveOrphan_refuses hover]
    exact cellAt_congr (refuseAll_cells s _) k
  | true =>
    cases hq : waitersOf s n with
    | nil => rw [serveOrphan_nil hq]
    | cons w l => rw [serveOrphan_head hq hover, passCell_other h]

/-! ### Semaphores (R359) -/

/-- The head waiter of a semaphore takes its units. -/
def grantHead (s : State) (n : Nat) (w : LockWait) : State :=
  waitAnswer (countGrant (setCell (dropWait s w) n { cellAt s n with count := (cellAt s n).count - w.units })) w false ((cellAt s n).count - w.units) 0

theorem waitersOf_grantHead (h : waitersOf s n = w :: l) : waitersOf (grantHead s n w) n = l := by
  have hmem : w ∈ waitersOf s n := by rw [h]; exact List.mem_cons_self
  have hwaits : (grantHead s n w).lck.waits = (dropWait s w).lck.waits := by
    rw [grantHead, waitAnswer_lck]
    rfl
  rw [waitersOf_congr hwaits, waitersOf_dropWait hmem, h, List.erase_cons_head]

theorem grantSems_nil (h : waitersOf s n = []) (fuel : Nat) : grantSems s n fuel = s := by
  cases fuel with
  | zero => rfl
  | succ f => rw [grantSems, h]

theorem grantSems_short (h : waitersOf s n = w :: l) (hshort : (cellAt s n).count < w.units) (fuel : Nat) : grantSems s n fuel = s := by
  cases fuel with
  | zero => rfl
  | succ f =>
    rw [grantSems, h]
    exact if_pos hshort

theorem grantSems_fits (h : waitersOf s n = w :: l) (hfits : w.units ≤ (cellAt s n).count) (fuel : Nat) :
    grantSems s n (fuel + 1) = grantSems (grantHead s n w) n fuel := by
  rw [grantSems, h]
  exact if_neg (by omega)

theorem serveSems_nil (h : waitersOf s n = []) : serveSems s n = wakeWatches s n := by
  unfold serveSems
  rw [grantSems_nil h]
  exact if_pos (by rw [h]; rfl)

theorem serveSems_short (h : waitersOf s n = w :: l) (hshort : (cellAt s n).count < w.units) : serveSems s n = s := by
  unfold serveSems
  rw [grantSems_short h hshort]
  exact if_neg (by rw [h]; exact Bool.false_ne_true)

theorem serveSems_fits (h : waitersOf s n = w :: l) (hfits : w.units ≤ (cellAt s n).count) : serveSems s n = serveSems (grantHead s n w) n := by
  unfold serveSems
  rw [show (waitersOf s n).length = l.length + 1 by rw [h]; rfl, grantSems_fits h hfits, waitersOf_grantHead h]

/-! ### Requests (R355, R356, R366, R367) -/

theorem exec_lockCmd (s : State) (rq : Rq) (r : LockReq) : exec (lockCmd rq r) s = settled s (lockRequest s rq r) := by
  obtain ⟨op, word, slot⟩ := r
  cases op <;> rfl

theorem lockRequest_new {rq : Rq} {r : LockReq} (h : ReachesNew s 0x304 rq (.lockOp r)) :
    lockRequest s rq r = cachedReq (takePkt s (reqPkt 0x304 rq (.lockOp r))) 0x304 rq (fun s => lockEval s rq r) := by
  obtain ⟨⟨hwork, harr, hslice⟩, -⟩ := h
  unfold lockRequest
  rw [if_neg (by simp [hwork]), arriveReq_served _ harr]
  simp only [cachedReq, sliceLeft_takePkt, hslice]

end Sys2Proof.Machine
end

section
/-! PROOF. The lock unit's statements: requests (R355, R356, R366, R367), Table 12.4 (R357 to R359, R362, R365), limits and orphans (R360,
R363). -/

namespace Sys2Proof.Machine

variable {s m : State} {n k : Nat} {w : LockWait} {l : List LockWait} {rq : Rq} {r : LockReq}

/-! ### Requests -/

theorem lockEval_turned_source (h : lockSource rq.src r.op = false) : lockEval s rq r = lockTurned (lockMet s r) rq r Kind.lockRightsViolation 0x10 :=
  if_pos (by simp [h])

section Allowed
variable (hsource : lockSource rq.src r.op = true)
include hsource

theorem lockEval_turned_rights (hforce : r.op ≠ .force) (hrights : lockRights (lockMet s r) rq r = false) :
    lockEval s rq r = lockTurned (lockMet s r) rq r Kind.lockRightsViolation 0x10 := by
  have hno : (!(decide (r.op = .force)) && !(lockRights (lockMet s r) rq r)) = true := by simp [hforce, hrights]
  exact (if_neg (by simp [hsource])).trans (if_pos hno)

theorem lockEval_fields (hrights : r.op = .force ∨ lockRights (lockMet s r) rq r = true) :
    lockEval s rq r = if !(lockFieldsOk (lockGroup (lockMet s r) (lqCell r / 64)) rq.src r)
      then lockTurned (lockMet s r) rq r Kind.lockOpInvalid 0x11 else lockOutcome (lockMet s r) rq r := by
  have hyes : ¬(!(decide (r.op = .force)) && !(lockRights (lockMet s r) rq r)) = true := by
    rcases hrights with h | h <;> simp [h]
  exact (if_neg (by simp [hsource])).trans (if_neg hyes)

end Allowed

/-- Where no stored error is met, only the operation's count changes. -/
theorem lockMet_clean (hcell : (cellAt s (lqCell r)).err = 0) (hwaits : ∀ w ∈ s.lck.waits, w.err = 0) :
    lockMet s r = { s with lck := { s.lck with ops := (s.lck.ops + 1) % 2 ^ 32 } } := by
  have hmeet : meetCellErr s (lqCell r) = s := by
    unfold meetCellErr
    dsimp only
    rw [hcell]
    rfl
  have hentry (w : LockWait) (h : w.err = 0) : meetWaitErr s w = s := by
    unfold meetWaitErr
    rw [h]
    rfl
  have hall : (s.lck.waits.filter (fun w => decide (w.cell = lqCell r))).foldl meetWaitErr s = s := by
    refine List.foldlRecOn _ _ (motive := fun t => t = s) rfl fun t ht w hw => ?_
    rw [ht, hentry w (hwaits w (List.mem_of_mem_filter hw))]
  unfold lockMet meetLockErrs
  rw [hmeet, hall]

theorem lockRequest_slice {left : Nat} (hwork : working s = true) (harr : arrivable s (reqPkt 0x304 rq (.lockOp r)) = true)
    (hslice : sliceLeft s 0x304 = some left) (hnew : ∀ e ∈ s.replays, e.is 0x304 rq = false) :
    lockRequest s rq r = respond (takePkt s (reqPkt 0x304 rq (.lockOp r))) 0x304 rq (.busyRetry (left + 16)) := by
  have hnot : ¬ s.replays.any (fun e => e.is 0x304 rq) = true := by simpa using hnew
  unfold lockRequest
  rw [if_neg (by simp [hwork]), arriveReq_served _ harr]
  simp only [sliceLeft_takePkt, hslice]
  exact if_neg hnot

theorem lockRequests : LockRequests := by
  refine ⟨fun s rq r v hreach hv => ?_, fun s rq r left hwork harr hslice hnew => ?_, fun s m rq r hm => ?_,
    fun s r hcell hwaits => lockMet_clean hcell hwaits⟩
  · have hreq := lockRequest_new hreach
    obtain ⟨⟨-, -, hslice⟩, hnew⟩ := hreach
    rw [exec_lockCmd, hreq, settled]
    generalize htaken : takePkt s (reqPkt 0x304 rq (.lockOp r)) = t at hv
    have hslice' : sliceLeft t 0x304 = none := by rw [← htaken]; exact hslice
    have hnew' : t.replays.find? (fun e => e.is 0x304 rq) = none := by rw [← htaken]; exact hnew
    subst hv
    refine ⟨fun a ha hc => ?_, fun a ha hc => ?_, fun ha hc => ?_⟩
    · rw [cachedReq_new (eval := fun s => lockEval s rq r) hslice' hnew' ha, if_pos hc]
      rfl
    · rw [cachedReq_new (eval := fun s => lockEval s rq r) hslice' hnew' ha, if_neg (by simp [hc])]
    · rw [cachedReq_wait (eval := fun s => lockEval s rq r) hslice' hnew' ha, if_pos hc]
  · rw [exec_lockCmd, lockRequest_slice hwork harr hslice hnew]
    rfl
  · subst hm
    refine ⟨lockEval_turned_source, lockEval_turned_rights, fun hsource hrights => ⟨fun hbad => ?_, fun hok => ?_⟩⟩
    · rw [lockEval_fields hsource hrights, if_pos (by simp [hbad])]
    · rw [lockEval_fields hsource hrights, if_neg (by simp [hok])]

/-! ### Mutexes -/

theorem joinQueue_room (h : poolRoom m rq.part = true) : joinQueue m rq r = { st := takeWait m { cell := lqCell r, rq := rq, slot := r.slot, units := lqAmount r, deadline := if lqLimit r = 0 then none else some (now m + 256 * lqLimit r) }, ans := none } :=
  if_pos h

theorem joinQueue_full (h : poolRoom m rq.part = false) : joinQueue m rq r = lockNo m (waitValue m (lqCell r)) 0x09 :=
  if_neg (by simp [h])

theorem lockBusy_plain (v : Nat) (h : lqWake r = false ∨ poolRoom m rq.part = false ∨ ∃ w ∈ watchesOf m (lqCell r), w.rq.src / 4 = rq.src / 4) :
    lockBusy m rq r v = lockNo m v 0x18 := by
  refine if_neg ?_
  rcases h with h | h | ⟨w, hw, hsrc⟩
  · simp [h]
  · simp [h]
  · have hany : (watchesOf m (lqCell r)).any (fun w => decide (w.rq.src / 4 = rq.src / 4)) = true :=
      List.any_eq_true.mpr ⟨w, hw, decide_eq_true hsrc⟩
    simp [hany]

theorem lockBusy_watch (v : Nat) (hwake : lqWake r = true) (hroom : poolRoom m rq.part = true)
    (hnone : ∀ w ∈ watchesOf m (lqCell r), w.rq.src / 4 ≠ rq.src / 4) :
    lockBusy m rq r v = { st := takeWait m { cell := lqCell r, rq := rq, watch := true }, ans := some (.result (resultWord true v 0x18)) } := by
  have hany : (watchesOf m (lqCell r)).any (fun w => decide (w.rq.src / 4 = rq.src / 4)) = false := by simpa using hnone
  exact if_pos (by simp [hwake, hroom, hany])

/-- A mutex with nobody waiting becomes FREE, and its watches wake. -/
theorem passCell_frees (status : Nat) (h : waitersOf m n = []) : (cellAt (passCell m n status) n).state = 0
    ∧ (∀ k, k ≠ n → cellAt (passCell m n status) k = cellAt m k) ∧ watchesOf (passCell m n status) n = []
    ∧ (∀ w ∈ watchesOf m n, ∃ p ∈ (passCell m n status).net, p.dest = w.rq.src / 4 ∧ p.part = w.rq.part ∧ p.body = .eventSet 1) := by
  refine ⟨?_, fun k hk => passCell_other hk status, ?_, fun w hw => ⟨wakePkt w, ?_, rfl, rfl, rfl⟩⟩
  · rw [passCell_free h, cellAt_wakeWatches, cellAt_setCell]
  · rw [passCell_free h, watchesOf_wakeWatches]
  · rw [passCell_free h, wakeWatches_net]
    exact List.mem_append_right _ (List.mem_map_of_mem hw)

/-- One with waiters goes to the head of its queue. -/
theorem passCell_hands (status : Nat) (h : waitersOf m n = w :: l) : (cellAt (passCell m n status) n).state = 1
    ∧ (cellAt (passCell m n status) n).owner = w.rq.src ∧ (cellAt (passCell m n status) n).slot = w.slot
    ∧ (passCell m n status).lck.waits = m.lck.waits.erase w ∧ (∀ k, k ≠ n → cellAt (passCell m n status) k = cellAt m k)
    ∧ waiterAnswered (passCell m n status) w false 0 status := by
  have hcell : cellAt (passCell m n status) n = cellAt (holdCell (dropWait m w) n w.rq.src w.slot) n := by
    rw [passCell_head h]
    exact cellAt_congr rfl n
  rw [hcell, cellAt_holdCell]
  refine ⟨rfl, rfl, rfl, ?_, fun k hk => passCell_other hk status, ?_⟩
  · rw [passCell_head h]
    rfl
  · rw [passCell_head h]
    exact waiterAnswered_waitAnswer _ w false 0 status

section Outcome

/-- ACQUIRE and TRY by the state of the cell. -/
theorem lockOutcome_take (hop : r.op = .acquire ∨ r.op = .try_) : lockOutcome m rq r =
    if (cellAt m (lqCell r)).state = 0 then lockDone (holdCell m (lqCell r) rq.src r.slot) 0 0
    else if (cellAt m (lqCell r)).state = 1 then
      (if r.op = .try_ then lockBusy m rq r (cellAt m (lqCell r)).owner
       else if decide ((cellAt m (lqCell r)).owner = rq.src) && decide ((cellAt m (lqCell r)).slot = r.slot) then lockNo m 0 0x18
       else joinQueue m rq r)
    else if (cellAt m (lqCell r)).handover then lockDone (holdCell m (lqCell r) rq.src r.slot) 0 4
    else lockNo m 0 0x19 := by
  obtain ⟨op, word, slot⟩ := r
  rcases hop with rfl | rfl <;> rfl

theorem lockOutcome_release (hop : r.op = .release) : lockOutcome m rq r =
    if (cellAt m (lqCell r)).state ≠ 0 ∧ (decide ((cellAt m (lqCell r)).owner = rq.src) && decide ((cellAt m (lqCell r)).slot = r.slot)) = true
    then lockDone (passCell m (lqCell r) 0) 0 0
    else lockNo (raise m Kind.lockNotOwner (rqId 0x304 0) (some rq.part) (lockAddr (lqCell r) 3) rq.src) 0 0x1A := by
  obtain ⟨op, word, slot⟩ := r
  cases hop
  rfl

theorem lockOutcome_semAcquire (hop : r.op = .semAcquire) : lockOutcome m rq r =
    if (waitersOf m (lqCell r)).isEmpty = true ∧ lqAmount r ≤ (cellAt m (lqCell r)).count then
      lockDone (countGrant (setCell m (lqCell r) { cellAt m (lqCell r) with count := (cellAt m (lqCell r)).count - lqAmount r }))
        ((cellAt m (lqCell r)).count - lqAmount r) 0
    else if lqNowait r then lockBusy m rq r (cellAt m (lqCell r)).count else joinQueue m rq r := by
  obtain ⟨op, word, slot⟩ := r
  cases hop
  rfl

theorem lockOutcome_semRelease (hop : r.op = .semRelease) : lockOutcome m rq r =
    if 65535 < (cellAt m (lqCell r)).count + lqAmount r then
      lockNo (raise m Kind.lockCountOverflow (rqId 0x304 0) (some rq.part) (lockAddr (lqCell r) 5) rq.src) (cellAt m (lqCell r)).count 0x1B
    else lockDone (serveSems (setCell m (lqCell r) { cellAt m (lqCell r) with count := (cellAt m (lqCell r)).count + lqAmount r }) (lqCell r))
      (cellAt (serveSems (setCell m (lqCell r) { cellAt m (lqCell r) with count := (cellAt m (lqCell r)).count + lqAmount r }) (lqCell r)) (lqCell r)).count 0 := by
  obtain ⟨op, word, slot⟩ := r
  cases hop
  rfl

theorem lockOutcome_cancel (hop : r.op = .cancel) : lockOutcome m rq r =
    match (waitersOf m (lqCell r)).find? (fun w => decide (w.rq.src = rq.src) && decide (w.rq.part = rq.part)) with
    | some w => lockDone (waiterLeaves m w true (waitValue m w.cell) 0x0B) 1 0
    | none => { st := m, ans := some (.result (resultWord false 0 0)), changed := false } := by
  obtain ⟨op, word, slot⟩ := r
  cases hop
  rfl

/-- The record of a forced cell, and the answer. -/
def lockForcedEnd (m : State) (rq : Rq) (n : Nat) (t : State) : Eval :=
  lockDone (raise t Kind.lockForced (rqId 0x304 0) (if (lockGroup m (n / 64)).valid then some (lockGroup m (n / 64)).part else none) (lockAddr n 7) rq.src) 0 0

/-- A new value of a cell changes no queue. -/
theorem waitersOf_setCell (s : State) (n k : Nat) (c : LockCell) : waitersOf (setCell s n c) k = waitersOf s k := rfl

/-- A forced semaphore at INIT, its waiters served as far as it goes. -/
def forcedSem (m : State) (n : Nat) : State := grantSems (setCell m n { cellAt m n with count := (cellAt m n).init }) n (waitersOf m n).length

theorem lockOutcome_force (hop : r.op = .force) : lockOutcome m rq r =
    if (lockGroup m (lqCell r / 64)).mode then
      (if (cellAt m (lqCell r)).count = (cellAt m (lqCell r)).init
            ∧ (waitersOf (forcedSem m (lqCell r)) (lqCell r)).length = (waitersOf m (lqCell r)).length then
         { st := m, ans := some (.result (resultWord false 0 0)), changed := false }
       else lockForcedEnd m rq (lqCell r) (if (cellAt m (lqCell r)).count < (cellAt m (lqCell r)).init
            ∧ (waitersOf (forcedSem m (lqCell r)) (lqCell r)).isEmpty = true then wakeWatches (forcedSem m (lqCell r)) (lqCell r) else forcedSem m (lqCell r)))
    else if (cellAt m (lqCell r)).state = 0 then { st := m, ans := some (.result (resultWord false 0 0)), changed := false }
    else lockForcedEnd m rq (lqCell r) (passCell m (lqCell r) 4) := by
  obtain ⟨op, word, slot⟩ := r
  cases hop
  rfl

end Outcome

theorem mutexes : Mutexes := by
  rintro m rq r _ rfl
  refine ⟨fun hop => ⟨fun h0 => ?_, fun h2 hover => ?_, fun h2 hover => ?_⟩, fun hop h1 => ⟨fun howner hslot => ?_, fun hother => ?_⟩, fun hop h1 => ?_,
    joinQueue_room, joinQueue_full, fun v h => lockBusy_plain v h, fun v => lockBusy_watch v, fun hop h0 howner hslot => ?_, fun hop hnot => ?_,
    fun status => ⟨passCell_frees status, fun w l => passCell_hands status⟩⟩
  · rw [lockOutcome_take hop, if_pos h0]
  · rw [lockOutcome_take hop, if_neg (by omega), if_neg (by omega), if_pos hover]
  · rw [lockOutcome_take hop, if_neg (by omega), if_neg (by omega), if_neg (by simp [hover])]
  · rw [lockOutcome_take (.inl hop), if_neg (by omega), if_pos h1, if_neg (by simp [hop]), if_pos (by simp [howner, hslot])]
  · rw [lockOutcome_take (.inl hop), if_neg (by omega), if_pos h1, if_neg (by simp [hop]),
      if_neg (by simpa [imp_iff_not_or] using hother)]
  · rw [lockOutcome_take (.inr hop), if_neg (by omega), if_pos h1, if_pos hop]
  · rw [lockOutcome_release hop, if_pos ⟨h0, by simp [howner, hslot]⟩]
  · rw [lockOutcome_release hop, if_neg]
    rintro ⟨h0, hmine⟩
    simp only [Bool.and_eq_true, decide_eq_true_eq] at hmine
    obtain ⟨howner, hslot⟩ := hmine
    rcases hnot with h | h | h
    · exact h0 h
    · exact h howner
    · exact h hslot

/-! ### Semaphores, cancelling and forcing -/

theorem semaphores : Semaphores := by
  refine ⟨?_, fun s n => ⟨serveSems_nil, fun w l h => ⟨serveSems_short h, serveSems_fits h⟩⟩,
    fun s w fail v st => ⟨rfl, rfl, waiterAnswered_waitAnswer (dropWait s w) w fail v st⟩⟩
  rintro m rq r _ rfl
  refine ⟨fun hop => ⟨fun hq hfits => ?_, fun hnot => ?_⟩, fun hop => ⟨fun hfits t ht => ?_, fun hover => ?_⟩,
    fun hop => ⟨fun w hw => ?_, fun hnone => ?_⟩, fun hop hmode => ⟨fun h0 => ?_, fun h0 => ?_⟩, fun hop hmode hq => ⟨fun hsame => ?_, fun hdiff => ?_⟩,
    fun x hop hmode hx hserves => ?_⟩
  · rw [lockOutcome_semAcquire hop, if_pos ⟨by rw [hq]; rfl, hfits⟩]
  · have hwaits : ¬((waitersOf m (lqCell r)).isEmpty = true ∧ lqAmount r ≤ (cellAt m (lqCell r)).count) := by
      rintro ⟨hempty, hle⟩
      rcases hnot with h | h
      · exact h (List.isEmpty_iff.mp hempty)
      · omega
    rw [lockOutcome_semAcquire hop, if_neg hwaits]
    exact ⟨fun h => if_pos h, fun h => if_neg (by simp [h])⟩
  · rw [lockOutcome_semRelease hop, if_neg (by omega), ht]
  · rw [lockOutcome_semRelease hop, if_pos hover]
  · have hcell : w.cell = lqCell r := (mem_waitersOf.mp (List.mem_of_find?_eq_some hw)).2.1
    rw [lockOutcome_cancel hop, hw]
    dsimp only
    rw [hcell]
  · have hno : (waitersOf m (lqCell r)).find? (fun w => decide (w.rq.src = rq.src) && decide (w.rq.part = rq.part)) = none := by
      simpa [List.find?_eq_none, imp_iff_not_or] using hnone
    rw [lockOutcome_cancel hop, hno]
  · rw [lockOutcome_force hop, if_neg (by simp [hmode]), if_pos h0]
  · rw [lockOutcome_force hop, if_neg (by simp [hmode]), if_neg h0]
    rfl
  · have hx : forcedSem m (lqCell r) = setCell m (lqCell r) { cellAt m (lqCell r) with count := (cellAt m (lqCell r)).init } := by
      rw [forcedSem, hq]
      rfl
    rw [lockOutcome_force hop, if_pos hmode, if_pos ⟨hsame, by rw [hx]; rfl⟩]
  · have hx : forcedSem m (lqCell r) = setCell m (lqCell r) { cellAt m (lqCell r) with count := (cellAt m (lqCell r)).init } := by
      rw [forcedSem, hq]
      rfl
    rw [lockOutcome_force hop, if_pos hmode, if_neg fun h => hdiff h.1, hx, waitersOf_setCell, hq]
    generalize hy : setCell m (lqCell r) { cellAt m (lqCell r) with count := (cellAt m (lqCell r)).init } = y
    have hcell : cellAt y (lqCell r) = { cellAt m (lqCell r) with count := (cellAt m (lqCell r)).init } := by rw [← hy, cellAt_setCell]
    refine ⟨?_, rfl, rfl, ⟨_, List.mem_append_right _ (List.mem_singleton_self _), ?_⟩, fun hless => ?_⟩
    · change (cellAt (if _ then _ else _) (lqCell r)).count = _
      split
      · rw [cellAt_wakeWatches, hcell]
      · rw [hcell]
    · dsimp only
      rw [faultHead_kind]
      rfl
    · rw [if_pos ⟨hless, rfl⟩]
      exact watchesOf_wakeWatches y _
  · have hdiff : ¬((cellAt m (lqCell r)).count = (cellAt m (lqCell r)).init
        ∧ (waitersOf (forcedSem m (lqCell r)) (lqCell r)).length = (waitersOf m (lqCell r)).length) := by
      rw [forcedSem, ← hx]
      rintro ⟨hcount, hlen⟩
      rcases hserves with h | h
      · exact h hcount
      · exact h hlen
    rw [lockOutcome_force hop, if_pos hmode, if_neg hdiff, forcedSem, ← hx]
    rfl

/-! ### Limits and orphans -/

theorem lockWaitLimit_passed {d : Nat} (hwork : working s = true) (hslice : sliceLeft s 0x304 = none)
    (hfind : s.lck.waits.find? (fun w => !w.watch && decide (w.rq = rq)) = some w) (hlimit : w.deadline = some d) (hpast : d ≤ now s) :
    lockWaitLimit s rq = waiterLeaves s w true (waitValue s w.cell) 0x0B := by
  unfold lockWaitLimit
  rw [if_neg (by simp [hwork, hslice]), hfind]
  dsimp only
  rw [hlimit]
  exact if_neg (by omega)

/-- A cell that loses its owner (R363). -/
def orphaned (s : State) (n : Nat) : LockCell := { cellAt s n with state := 2, handover := (lockGroup s (n / 64)).orphan }

/-- Cells orphaned, and their waiters served. -/
def orphansServed (s : State) (l : List Nat) : State := l.foldl serveOrphan (l.foldl orphanCell s)

@[simp] theorem cellAt_orphanCell (s : State) (n : Nat) : cellAt (orphanCell s n) n = orphaned s n := cellAt_setCell ..

theorem orphaned_orphanCell (s : State) (n k : Nat) : orphaned (orphanCell s n) k = orphaned s k := by
  by_cases h : k = n
  · subst h
    rw [orphaned, cellAt_orphanCell]
    rfl
  · rw [orphaned, show cellAt (orphanCell s n) k = cellAt s k from cellAt_setCell_other h _]
    rfl

theorem orphanCells_keep (l : List Nat) (s : State) (h : cellAt s n = orphaned s n) :
    cellAt (l.foldl orphanCell s) n = cellAt s n := by
  induction l generalizing s with
  | nil => rfl
  | cons a l ih =>
    have hcell : cellAt (orphanCell s a) n = cellAt s n := by
      by_cases ha : n = a
      · subst ha
        rw [cellAt_orphanCell, h]
      · exact cellAt_setCell_other ha _
    rw [List.foldl_cons, ih _ (by rw [hcell, orphaned_orphanCell, h]), hcell]

/-- Each cell of the list is orphaned, however often it stands there. -/
theorem orphanCells_cell {l : List Nat} (s : State) (h : n ∈ l) : cellAt (l.foldl orphanCell s) n = orphaned s n := by
  induction l generalizing s with
  | nil => exact absurd h List.not_mem_nil
  | cons a l ih =>
    rw [List.foldl_cons]
    by_cases ha : n = a
    · subst ha
      rw [orphanCells_keep l _ (by rw [cellAt_orphanCell, orphaned_orphanCell]), cellAt_orphanCell]
    · rw [ih _ ((List.mem_cons.mp h).resolve_left ha), orphaned_orphanCell]

theorem orphanCells_waits (l : List Nat) (s : State) : (l.foldl orphanCell s).lck.waits = s.lck.waits :=
  List.foldlRecOn l _ (motive := fun t : State => t.lck.waits = s.lck.waits) rfl (fun _ h _ _ => h)

theorem orphansServed_waits_subset (s : State) (l : List Nat) : ∀ w ∈ (orphansServed s l).lck.waits, w ∈ s.lck.waits := by
  refine List.foldlRecOn l _ (motive := fun t : State => ∀ w ∈ t.lck.waits, w ∈ s.lck.waits) ?_
    (fun t h a _ w hw => h w (serveOrphan_waits_subset t a w hw))
  rw [orphanCells_waits]
  exact fun _ hw => hw

/-- A cell that nobody waits for is orphaned and stays so. -/
theorem orphansServed_cell {l : List Nat} (h : n ∈ l) (hq : waitersOf s n = []) : cellAt (orphansServed s l) n = orphaned s n := by
  have hkeep : cellAt (orphansServed s l) n = orphaned s n ∧ waitersOf (orphansServed s l) n = [] := by
    refine List.foldlRecOn l _ (motive := fun t : State => cellAt t n = orphaned s n ∧ waitersOf t n = []) ?_ ?_
    · exact ⟨orphanCells_cell s h, by rw [waitersOf_congr (orphanCells_waits l s), hq]⟩
    · rintro t ⟨hcell, hnone⟩ a -
      refine ⟨?_, waitersOf_nil_of_subset (serveOrphan_waits_subset t a) hnone⟩
      by_cases ha : n = a
      · subst ha
        rw [serveOrphan_nil hnone, hcell]
      · rw [serveOrphan_other ha, hcell]
  exact hkeep.1

/-- ORPHAN_NOTIFY once the requester's waits have left the pool. -/
theorem orphan_eq (rq part : Nat) {s1 : State} (h : s1 = { s with lck := { s.lck with
      waits := s.lck.waits.filter (fun w => !(decide (w.rq.src = rq) && decide (w.rq.part = part))) } }) :
    orphan s rq part = if (heldCells s rq part).isEmpty then orphansServed s1 (heldCells s rq part)
      else raise (orphansServed s1 (heldCells s rq part)) Kind.lockCellOrphaned (rqId 0x304 0) (some part)
        (lockAddr ((heldCells s rq part).headD 0) 0) (rq % 2 ^ 14 + 2 ^ 32 * (heldCells s rq part).length) := by
  subst h
  rfl

/-- Whether a record follows or not, the cells and the pool are as the serving leaves them. -/
theorem orphan_lck (rq part : Nat) {s1 : State} (h : s1 = { s with lck := { s.lck with
      waits := s.lck.waits.filter (fun w => !(decide (w.rq.src = rq) && decide (w.rq.part = part))) } }) :
    (orphan s rq part).lck = (orphansServed s1 (heldCells s rq part)).lck := by
  rw [orphan_eq rq part h]
  split <;> rfl

theorem orphanNotify_arrives {src rq part : Nat} {p : Packet}
    (hp : p = { cls := 0, dest := 0x304, src := src, part := part, tag := 0, body := .orphanNotify rq part })
    (hclock : clocked s = true) (harr : arrivable s p = true) : orphanNotify s src rq part
      = if (sliceLeft s 0x304).isSome then { takePkt s p with lck := { s.lck with notes := s.lck.notes ++ [(rq, part)] } }
        else orphan (takePkt s p) rq part := by
  subst hp
  exact if_neg (by simp [hclock, harr])

theorem limitsAndOrphans : LimitsAndOrphans := by
  refine ⟨fun s rq w d hwork hslice hfind hlimit hpast => settled_of_eq (lockWaitLimit_passed hwork hslice hfind hlimit hpast),
    fun s src rq part p hp hclock harr => ⟨fun hslice => ?_, fun left hslice => ?_⟩,
    fun s s1 rq part hs1 => ⟨fun hnone => ?_, fun n hone => ?_, fun w hw => ?_, fun n hn hq => ?_⟩,
    fun s n => ⟨serveOrphan_nil, fun w l => serveOrphan_head, fun hover => ?_⟩⟩
  · exact settled_of_eq ((orphanNotify_arrives hp hclock harr).trans (if_neg (by simp [hslice])))
  · exact settled_of_keeps ((orphanNotify_arrives hp hclock harr).trans (if_pos (by simp [hslice]))) ⟨rfl, rfl⟩
  · rw [orphan_eq rq part hs1, hnone]
    rfl
  · rw [orphan_eq rq part hs1, hone]
    rfl
  · rw [orphan_lck rq part hs1] at hw
    exact orphansServed_waits_subset s1 _ w hw
  · rw [cellAt_congr (congrArg Lck.cells (orphan_lck rq part hs1)), orphansServed_cell hn hq, hs1]
    rfl
  · rw [serveOrphan_refuses hover]
    exact ⟨cellAt_congr (refuseAll_cells s _) n, refuseAll_answers s _⟩

/-- Settles O48: requests, mutexes, semaphores, and limits with orphans. -/
theorem locks : Obligations.Locks := ⟨lockRequests, mutexes, semaphores, limitsAndOrphans⟩

end Sys2Proof.Machine
end

section
/-! PROOF. The ledger's commands (R540, R546, R550, R552). -/

namespace Sys2Proof.Machine

variable {s y : State} {b off v n : Nat} {x : RegPart}

/-! ### A register of the clearing's blocks written by the physical function -/

/-- The write does what its register gives it; one that the register refuses is logged with reason 5. -/
theorem registerWrite_physical (hoff : off % 8 = 0) (hhi : off < 0x300000) (hp : accessorPresent s (.fn b 0) = true)
    (hsafe : inSafe s = false ∨ off + 8 ≤ 0x40000) (hspoor : spoorOther off = false) (hreg : (bar0Word s off).isSome = true) (x : RegPart) :
    registerWrite s (.fn b 0) off x
      = (pfWrite s b off (newWord s off x) (broughtWords s (partWrite off x).1 (partWrite off x).2.1 (partWrite off x).2.2).2).getD
          (logAccess s b 0 (partWrite off x).1 5) := by
  have hin := partWrite_inside hoff x
  obtain ⟨hsize, halign⟩ := partWrite_form hoff x
  have htil : tilWindow (partWrite off x).1 = none := by
    rw [tilWindow, if_neg (by omega), if_neg (by omega)]
  have hopen : inSafe s = false ∨ (partWrite off x).1 < 0x40000 := hsafe.imp id (fun h => by omega)
  have hpass := accessFault_none_of_register s b true hsize halign hopen htil (by rw [hin]; exact hreg)
  rw [registerWrite_part, bar0Write_of_register hp hpass (by rw [hin]; exact hspoor), hin, broughtWords_part hoff]

/-- The low bits of a register that is written whole, or by its low half, are those that are written. -/
theorem newWord_low {k : Nat} (hk : k ≤ 32) (hoff : off % 8 = 0) (hx : x = .whole v ∨ x = .low v) : newWord s off x % 2 ^ k = v % 2 ^ k := by
  have hdvd : (2 : Nat) ^ k ∣ 2 ^ 32 := Nat.pow_dvd_pow 2 hk
  have hdvd' : (2 : Nat) ^ k ∣ 2 ^ 64 := Nat.pow_dvd_pow 2 (by omega)
  rcases hx with rfl | rfl
  · simp only [newWord, partWrite, written, if_true]
    exact Nat.mod_mod_of_dvd v hdvd'
  · simp only [newWord, partWrite, written, hoff, if_true, Nat.reduceEqDiff, if_false]
    rw [Nat.add_mod, Nat.mod_eq_zero_of_dvd (Dvd.dvd.mul_left hdvd _), Nat.zero_add, Nat.mod_mod, Nat.mod_mod_of_dvd v hdvd]

/-- So are those of the bits that it brings. -/
theorem broughtBits_low {k : Nat} (hk : k ≤ 32) (hoff : off % 8 = 0) (hx : x = .whole v ∨ x = .low v) :
    (broughtWords s (partWrite off x).1 (partWrite off x).2.1 (partWrite off x).2.2).2 % 2 ^ k = v % 2 ^ k := by
  rcases hx with rfl | rfl
  · simp only [partWrite, written, if_true]
    exact Nat.mod_mod_of_dvd v (Nat.pow_dvd_pow 2 (by omega))
  · simp only [partWrite, written, hoff, if_true, Nat.reduceEqDiff, if_false]
    exact Nat.mod_mod_of_dvd v (Nat.pow_dvd_pow 2 hk)

theorem present_clocked (hp : accessorPresent s (.fn b 0) = true) : clocked s = true := by
  simp only [accessorPresent, fnPresent, Bool.and_eq_true] at hp
  exact hp.1.1.1.1

/-- Bit 0 is a number's remainder by 2. -/
theorem bit_zero_congr {v w : Nat} (h : v % 2 ^ 1 = w % 2 ^ 1) : bit v 0 = bit w 0 := by
  simp only [bit, Nat.shiftRight_zero]
  rw [show v % 2 = w % 2 from h]

/-! ### Checkpoints and flushes (R540, R550) -/

theorem registerWrite_ledgerCtrl (hp : accessorPresent s (.fn b 0) = true) (hsafe : inSafe s = false) (hx : x = .whole v ∨ x = .low v) :
    registerWrite s (.fn b 0) 0x50008 x = if bit v 0 then ledgerFlush s 2 else s := by
  have hreg : (bar0Word s 0x50008).isSome = true := by simp [bar0Word, ldgWord, inArrays, one, slotOf]
  have hset (a w : Nat) : pfWrite s b 0x50008 a w = some (if bit w 0 then ledgerFlush s 2 else s) := rfl
  rw [registerWrite_physical (by decide) (by decide) hp (.inl hsafe) rfl hreg, hset, Option.getD_some,
    bit_zero_congr (broughtBits_low (by decide) (by decide) hx)]

theorem ledgerFlush_party (hfw : fwRuns s = true) (party : Nat) : ledgerFlush s (party % 2)
    = if s.ldg.dead then emit (freeTake s).2 (.mctp (party % 2) [(freeTake s).1 % 256]) else askCheckpoint s [party % 2] := by
  rw [ledgerFlush, if_pos (Nat.mod_lt _ (by decide)), if_neg (by simp [hfw])]

theorem ledgerFlush_register (hfw : fwRuns s = true) (hlive : s.ldg.dead = false) :
    ledgerFlush s 2 = askCheckpoint { s with ldg := { s.ldg with flush := true } } [2] := by
  rw [ledgerFlush, if_neg (by decide), if_pos (by simp [hfw, hlive])]

/-- A checkpoint is queued where none waits. -/
theorem askCheckpoint_queues (hlive : s.ldg.dead = false) (hnone : ∀ w ∈ s.ldg.queue, w.ring ≠ 4 ∨ w.seq ≠ none) (ws : List Nat) :
    askCheckpoint s ws = { s with ldg := { s.ldg with queue := s.ldg.queue ++ [{ ring := 4, type := 5, waiters := ws }] } } := by
  have hany : ¬ s.ldg.queue.any (fun w => decide (w.ring = 4) && w.seq.isNone) = true := by
    simp only [List.any_eq_true, Bool.and_eq_true, decide_eq_true_eq, Option.isNone_iff_eq_none]
    rintro ⟨w, hw, h4, hseq⟩
    exact (hnone w hw).elim (fun h => h h4) (fun h => h hseq)
  rw [askCheckpoint, if_neg (by simp [hlive]), if_neg hany, queueWrite, if_neg (by simp [hlive])]

/-- One that waits serves the new party too. -/
theorem askCheckpoint_joins (hlive : s.ldg.dead = false) (hwaits : ∃ w ∈ s.ldg.queue, w.ring = 4 ∧ w.seq = none) (ws : List Nat) :
    askCheckpoint s ws = { s with ldg := { s.ldg with
      queue := s.ldg.queue.map (fun w => if w.ring = 4 ∧ w.seq = none then { w with waiters := w.waiters ++ ws } else w) } } := by
  obtain ⟨w, hw, h4, hseq⟩ := hwaits
  have hany : s.ldg.queue.any (fun w => decide (w.ring = 4) && w.seq.isNone) = true :=
    List.any_eq_true.mpr ⟨w, hw, by simp [h4, hseq]⟩
  rw [askCheckpoint, if_neg (by simp [hlive]), if_pos hany]

/-! ### Lines read (R550, R553) -/

theorem readArrayLine_good (h : SMap.get 0 s.array.errs n = 0) : readArrayLine s n = (s, arrayLine s n, false) := by
  unfold readArrayLine
  rw [h]
  rfl

theorem readArrayLine_corrected (h : SMap.get 0 s.array.errs n = 1) : readArrayLine s n
    = (ldgRaise { s with array := { s.array with errs := SMap.put 0 s.array.errs n 0 } } Kind.ledgerCorrected n, arrayLine s n, false) := by
  unfold readArrayLine
  rw [h]
  rfl

theorem readArrayLine_bad (h : 2 ≤ SMap.get 0 s.array.errs n) : readArrayLine s n = (ldgRaise s Kind.ledgerUncorrectable n, arrayLine s n, true) := by
  unfold readArrayLine
  split
  · omega
  · omega
  · rfl

/-- Each line gives nine values. -/
theorem readLines_length (l : List Nat) (s : State) (a : List Nat) :
    (l.foldl (fun x n => ((readArrayLine x.1 n).1, x.2 ++ [min (SMap.get 0 x.1.array.errs n) 2]
      ++ (List.range 8).map (fun w => payN (readArrayLine x.1 n).2.1 (8 * w) 8))) (s, a)).2.length = a.length + 9 * l.length := by
  induction l generalizing s a with
  | nil => rfl
  | cons n l ih =>
    rw [List.foldl_cons, ih]
    simp only [List.length_append, List.length_cons, List.length_nil, List.length_map, List.length_range]
    omega

theorem registerWrite_readAddr (hp : accessorPresent s (.fn b 0) = true) (hsafe : inSafe s = false) (hsup : supClocked s = true)
    (hx : x = .whole v ∨ x = .low v) {bs : List Byte} {bad : Bool} (hread : readArrayLine s (v % 2 ^ 16) = (y, bs, bad)) :
    registerWrite s (.fn b 0) 0x50100 x = { y with ldg := { y.ldg with readAddr := v % 2 ^ 16, readValid := true, readPoison := bad, readData := bs } } := by
  have hreg : (bar0Word s 0x50100).isSome = true := by simp [bar0Word, ldgWord, inArrays, one, slotOf]
  have hset (a w : Nat) : pfWrite s b 0x50100 a w = some (readAddrWrite s a) := rfl
  have haddr : newWord s 0x50100 x % 2 ^ 16 = v % 2 ^ 16 := newWord_low (by decide) (by decide) hx
  rw [registerWrite_physical (by decide) (by decide) hp (.inl hsafe) rfl hreg, hset, Option.getD_some, readAddrWrite,
    if_neg (by simp [hsup, present_clocked hp]), haddr]
  dsimp only
  rw [hread]

/-! ### The statement -/

/-- A command of a party while the firmware runs. -/
theorem exec_ledgerRead_refused (hfw : fwRuns s = true) (hserve : outOfService s 11 = false) (party : Nat) {line count : Nat}
    (h : 0xFFFF < line ∨ count = 0 ∨ 16 < count ∨ 0xFFFF < line + count - 1) :
    exec (.ledgerRead party line count) s = .next (kept s (emit s (.mctp party [0x11]))) :=
  settled_of_eq ((mctpReach_inService hserve _).trans ((if_neg (by simp [hfw])).trans (if_pos h)))

theorem exec_ledgerRead_lines (hfw : fwRuns s = true) (hserve : outOfService s 11 = false) (party : Nat) {line count : Nat} {l : List Nat}
    (hline : line ≤ 0xFFFF) (hpos : 1 ≤ count) (hcount : count ≤ 16) (hend : line + count - 1 ≤ 0xFFFF)
    (hread : readLines s ((List.range count).map (fun i => i + line)) = (y, l)) :
    exec (.ledgerRead party line count) s = .next (kept s (emit y (.mctp party (0 :: l)))) := by
  have hbounds : ¬(0xFFFF < line ∨ count = 0 ∨ 16 < count ∨ 0xFFFF < line + count - 1) := by omega
  refine settled_of_eq ((mctpReach_inService hserve _).trans ?_)
  rw [ledgerRead, if_neg (by simp [hfw]), if_neg hbounds]
  dsimp only
  rw [hread]

theorem readLines_one (h : SMap.get 0 s.array.errs n = 0) : readLines s ((List.range 1).map (fun i => i + n))
    = (s, 0 :: (List.range 8).map (fun w => payN (arrayLine s n) (8 * w) 8)) := by
  have hlist : (List.range 1).map (fun i => i + n) = [n] := by simp
  rw [hlist, readLines, List.foldl_cons, List.foldl_nil]
  dsimp only
  rw [readArrayLine_good h, h]
  rfl

/-- Settles O58: checkpoints, lines, the calendar and the window. -/
theorem ledgerCommands : Obligations.LedgerCommands := by
  refine ⟨fun s hfw => ⟨fun hloaded hdue => ?_, fun party v hserve => ⟨fun hlive => ?_, fun hdead n x hfree => ?_⟩,
      fun b v x hp hsafe hlive hx => ⟨fun hset => ?_, fun hclear => ?_⟩⟩,
    fun s ws hlive => ⟨fun hnone => askCheckpoint_queues hlive hnone ws, fun hwaits => askCheckpoint_joins hlive hwaits ws⟩,
    fun s party hfw hserve => ⟨fun line count h => exec_ledgerRead_refused hfw hserve party h, fun line count x l hline hpos hcount hend hread => ⟨?_, ?_⟩,
      fun line hline hgood => ?_, fun secs nanos hbad => ?_, fun secs nanos hsecs hnanos => ?_, ?_⟩,
    fun s n => ⟨readArrayLine_good, readArrayLine_corrected, readArrayLine_bad⟩,
    fun s y b v x bs bad hp hsafe hsup hx hread => settled_of_eq (registerWrite_readAddr hp hsafe hsup hx hread)⟩
  · exact settled_of_eq (if_pos (by simp [hfw, hloaded, hdue]))
  · refine settled_of_eq ((mctpReach_inService hserve _).trans ?_)
    rw [ledgerFlush_party hfw, if_neg (by simp [hlive])]
  · refine settled_of_eq ((mctpReach_inService hserve _).trans ?_)
    rw [ledgerFlush_party hfw, if_pos hdead, hfree]
  · refine settled_of_eq ((registerWrite_ledgerCtrl hp hsafe hx).trans ?_)
    rw [if_pos hset, ledgerFlush_register hfw hlive]
  · refine settled_of_eq ((registerWrite_ledgerCtrl hp hsafe hx).trans ?_)
    rw [if_neg (by simp [hclear])]
  · exact exec_ledgerRead_lines hfw hserve party hline hpos hcount hend hread
  · have hlen := readLines_length ((List.range count).map (fun i => i + line)) s []
    rw [show l = (readLines s ((List.range count).map (fun i => i + line))).2 by rw [hread]]
    exact hlen.trans (by simp)
  · exact exec_ledgerRead_lines hfw hserve party hline (by decide) (by decide) (by omega) (readLines_one hgood)
  · refine settled_of_eq ((mctpReach_inService hserve _).trans ?_)
    rw [Machine.setCalendar, if_neg (by simp [hfw]), if_pos hbad]
  · refine settled_of_eq ((mctpReach_inService hserve _).trans ?_)
    rw [Machine.setCalendar, if_neg (by simp [hfw]), if_neg (by omega)]
  · refine settled_of_eq ((mctpReach_inService hserve _).trans ?_)
    rw [Machine.ledgerStatus, if_neg (by simp [hfw])]

end Sys2Proof.Machine
end

section
/-! PROOF. The board (chapter 19): power and temperature, the pins and the part's ends, and the test access port. -/

namespace Sys2Proof.Machine

variable {s m : State}

/-! ### Power and temperature (R571 to R575, R577) -/

section Steps
variable (hfw : fwRuns s = true)
include hfw

/-- One step of the power level against the package power. -/
theorem exec_powerLevelStep_reading (p : Nat) : exec (.powerLevelStep (some p)) s = .next (kept s (powerAgainst s (p + 1000 * s.brd.otherW))) :=
  settled_of_eq (if_neg (by simp [hfw]))

/-- A step without telemetry. -/
theorem exec_powerLevelStep_none : exec (.powerLevelStep none) s = .next (kept s
    (if s.brd.brake = false ∧ 3 ≤ s.brd.noTelemetry then
      setPowerLevel (raise { s with brd := { s.brd with noTelemetry := s.brd.noTelemetry + 1 } } Kind.pmbusError pmbusId none 0 0) (min 15 (s.brd.powerLvl + 1))
    else raise { s with brd := { s.brd with noTelemetry := s.brd.noTelemetry + 1 } } Kind.pmbusError pmbusId none 0 0)) :=
  settled_of_eq (if_neg (by simp [hfw]))

/-- One step of the thermal level to level `n`. -/
theorem exec_thermalLevelStep {n : Nat} (hn : n = if 4 * (s.brd.throttleC : Int) ≤ s.brd.tj then min 15 (s.brd.thermalLvl + 1)
      else if s.brd.tj < 4 * ((s.brd.throttleC : Int) - 3) then s.brd.thermalLvl - 1 else s.brd.thermalLvl) :
    exec .thermalLevelStep s = .next (kept s (if s.brd.thermalLvl = 0 ∧ n ≠ 0
      then raise { s with brd := { s.brd with thermalLvl := n } } Kind.thermalThrottle fwId none 0 0
      else { s with brd := { s.brd with thermalLvl := n } })) := by
  subst hn
  exact settled_of_eq (if_neg (by simp [hfw]))

/-- The set point's step outside Safe. -/
theorem exec_vcoreTrim (hsafe : inSafe s = false) (up down : Bool) : exec (.vcoreTrim up down) s = .next (kept s
    (if up = true ∧ s.brd.vcore + 5 ≤ 850 then { s with brd := { s.brd with vcore := s.brd.vcore + 5 } }
     else if (!up) = true ∧ down = true ∧ 705 ≤ s.brd.vcore then { s with brd := { s.brd with vcore := s.brd.vcore - 5 } } else s)) :=
  settled_of_eq (if_neg (by simp [hfw, hsafe]))

theorem exec_vrAlert (status : Option Bool) : exec (.vrAlert status) s = .next (kept s (match status with
    | none => raise s Kind.pmbusError pmbusId none 0 0
    | some true => if s.brd.vrFault then s else raise { s with brd := { s.brd with vrFault := true } } Kind.vrFault pmbusId none 0 0
    | some false => { s with brd := { s.brd with vrFault := false } })) := by
  cases status with
  | none => exact settled_of_eq (if_neg (by simp [hfw]))
  | some fault => cases fault <;> exact settled_of_eq (if_neg (by simp [hfw]))

end Steps

theorem powerSteps (p mw l : Nat) (hfw : fwRuns s = true) (hmw : mw = p + 1000 * s.brd.otherW) (hl : l = s.brd.powerLvl)
    (hm : m = { s with brd := { s.brd with powerW := mw / 1000 % 1024, noTelemetry := 0 } }) :
    (s.brd.brake = true → exec (.powerLevelStep (some p)) s = .next (kept s m))
    ∧ (s.brd.brake = false →
      (1000 * s.brd.limitW < mw → l ≠ 0 → exec (.powerLevelStep (some p)) s = .next (kept s { m with brd := { m.brd with powerLvl := min 15 (l + 1) } }))
      ∧ (1000 * s.brd.limitW < mw → l = 0 → exec (.powerLevelStep (some p)) s = .next (kept s (raise { m with brd := { m.brd with powerLvl := 1 } } Kind.powerLimitThrottle fwId none 0 0)))
      ∧ (mw ≤ 1000 * s.brd.limitW → mw < 950 * s.brd.limitW → exec (.powerLevelStep (some p)) s = .next (kept s { m with brd := { m.brd with powerLvl := l - 1 } }))
      ∧ (950 * s.brd.limitW ≤ mw → mw ≤ 1000 * s.brd.limitW → exec (.powerLevelStep (some p)) s = .next (kept s m))) := by
  have hagainst : powerAgainst s mw = if s.brd.brake then m
      else if 1000 * s.brd.limitW < mw then setPowerLevel m (min 15 (l + 1)) else if mw < 950 * s.brd.limitW then setPowerLevel m (l - 1) else m := by
    subst hm hl
    rfl
  have hlevel : m.brd.powerLvl = l := by rw [hm, hl]
  rw [exec_powerLevelStep_reading hfw, ← hmw, hagainst]
  refine ⟨fun h => by rw [if_pos h], fun h => ?_⟩
  rw [if_neg (by simp [h])]
  refine ⟨fun hover hup => ?_, fun hover hzero => ?_, fun hunder hlow => ?_, fun hlow hunder => ?_⟩
  · rw [if_pos hover, setPowerLevel, if_neg (by omega)]
  · subst hzero
    rw [if_pos hover, setPowerLevel, if_pos (by omega)]
    rfl
  · rw [if_neg (by omega), if_pos hlow, setPowerLevel, if_neg (by omega)]
  · rw [if_neg (by omega), if_neg (by omega)]

theorem powerAndTemperature : PowerAndTemperature := by
  refine ⟨fun s m p mw l hfw hmw hl hm => powerSteps p mw l hfw hmw hl hm, fun s m hfw hm => ⟨fun h => ?_, fun hbrake hlost => ?_⟩,
    fun s hfw => ⟨fun hhot h0 => ?_, fun hhot h0 => ?_, fun hcool hcold => ?_, fun hlow hhigh => ?_⟩,
    fun s hfw => ⟨fun h => ?_, fun h => ?_, exec_vrAlert hfw _, exec_vrAlert hfw _, fun up down hsafe => ?_, fun down hsafe hroom => ?_,
      fun down hsafe hroom => ?_, fun hsafe hroom => ?_, fun hsafe hroom => ?_, fun hsafe => ?_⟩,
    fun s low hpower => settled_of_eq (if_pos hpower), fun s => ⟨fun h => if_pos h, fun h => if_neg (by simp [h])⟩,
    fun s tj low hot hclock hlow hhot => ⟨fun h => ?_, fun hnew hold => ?_⟩⟩
  · rw [exec_powerLevelStep_none hfw, if_neg, hm]
    rintro ⟨hbrake, hlost⟩
    rcases h with h | h
    · rw [hbrake] at h
      cases h
    · omega
  · rw [exec_powerLevelStep_none hfw, if_pos ⟨hbrake, hlost⟩, hm]
  · rw [exec_thermalLevelStep hfw (if_pos hhot).symm, if_pos (by omega), h0]
    rfl
  · rw [exec_thermalLevelStep hfw (if_pos hhot).symm, if_neg (by omega)]
  · rw [exec_thermalLevelStep hfw ((if_neg (by omega)).trans (if_pos hcold)).symm, if_neg (by omega)]
  · rw [exec_thermalLevelStep hfw ((if_neg (by omega)).trans (if_neg (by omega))).symm, if_neg (by omega)]
  · rw [exec_vrAlert hfw]
    dsimp only
    rw [if_neg (by simp [h])]
  · rw [exec_vrAlert hfw]
    dsimp only
    rw [if_pos h]
  · exact settled_of_eq (if_pos (by simp [hsafe]))
  · rw [exec_vcoreTrim hfw hsafe, if_pos ⟨rfl, hroom⟩]
  · rw [exec_vcoreTrim hfw hsafe, if_neg (by omega), if_neg (by simp)]
  · rw [exec_vcoreTrim hfw hsafe, if_neg (by simp), if_pos ⟨rfl, rfl, hroom⟩]
  · rw [exec_vcoreTrim hfw hsafe, if_neg (by simp), if_neg (by omega)]
  · rw [exec_vcoreTrim hfw hsafe, if_neg (by simp), if_neg (by simp)]
  · subst hlow hhot
    refine settled_of_eq ((if_neg (by simp [hclock])).trans (if_neg ?_))
    rcases h with h | h
    · rw [h]
      exact Bool.false_ne_true
    · rw [h]
      simp
  · subst hlow hhot
    exact settled_of_eq ((if_neg (by simp [hclock])).trans (if_pos (by rw [hnew, hold]; rfl)))

/-! ### The pins and the part's ends (R542, R563, R569, R570, R577) -/

/-- A rail check records the rails that are out for the second time and were not yet. -/
theorem exec_railCheck (hclock : supClocked s = true) (r : Nat) : exec (.railCheck [r]) s = .next (kept s
    (([r].filter (fun r => NSet.has s.brd.railsOnce r)).filter (fun r => !(NSet.has s.brd.railsOut r)) |>.foldl
      (fun s _ => raise s Kind.supplyOutOfRange monId none 0 0)
      { s with brd := { s.brd with railsOnce := [r], railsOut := ([r].filter (fun r => NSet.has s.brd.railsOnce r)).foldl NSet.add [] } })) :=
  settled_of_eq (if_neg (by simp [hclock]))

theorem boardPins : BoardPins := by
  refine ⟨fun s r hclock => ⟨settled_of_eq (if_neg (by simp [hclock])), fun h => ?_, fun h hout => ?_, fun h hin => ?_⟩, fun s out => rfl,
    fun s => ⟨fun h => ?_, fun h => ?_⟩, fun s hpower => ⟨settled_of_eq (if_pos hpower), ?_⟩,
    fun s addr hclock hserve hstep haddr => ⟨settled_of_eq (if_pos ?_), settled_of_eq (if_pos ?_), fun a ha => settled_of_eq (if_neg ?_)⟩⟩
  · rw [exec_railCheck hclock, List.filter_cons_of_neg (by simp [h])]
    rfl
  · rw [exec_railCheck hclock, List.filter_cons_of_pos h, List.filter_nil, List.filter_cons_of_neg (by simp [hout])]
    rfl
  · rw [exec_railCheck hclock, List.filter_cons_of_pos h, List.filter_nil, List.filter_cons_of_pos (by simp [hin])]
    rfl
  · have hdark : outputsLive s = false := by simp [outputsLive, h]
    simp [pinDevOk, pinFaultN, pinSafeN, pinAlertN, pinThermN, pinQspiCsN, pinTdo, hdark]
  · simp [pinSafeN, pinAlertN, pinThermN, h, safeLow, alertLow]
  · refine ⟨_, settled_of_eq (if_neg (by simp [hpower])), rfl, rfl, rfl, rfl, ?_, ?_, rfl, rfl, rfl, rfl, rfl, rfl, rfl⟩
    · simp [clocked, kept]
    · simp [supClocked, kept]
  · simp [hclock, hserve, hstep, haddr, i3cStatic]
  · simp [hclock, hserve, hstep, haddr]
  · simp [i3cStatic, ha]

/-! ### The TAP (R570) -/

theorem exec_jtagTckEdge (hpower : s.clk.powered = true) (up tms tdi trstLow : Bool) (pins : List Bool) :
    exec (.jtagTckEdge up tms tdi trstLow pins) s = .next (kept s { s with brd := { s.brd with
      tap := if trstLow then tapReset s.brd.tap else if up then tapRise s.brd.tap tms tdi pins else tapFall s.brd.tap } }) :=
  settled_of_eq (if_pos hpower)

theorem testAccess : TestAccess := by
  refine ⟨fun s tms tdi pins hpower => ⟨fun up => exec_jtagTckEdge hpower up tms tdi true pins, exec_jtagTckEdge hpower true tms tdi false pins,
    exec_jtagTckEdge hpower false tms tdi false pins⟩, fun t tms tdi pins => ⟨?_, ?_, ?_, ?_, ?_, ?_, ?_, ?_, ?_, ?_, ?_, ?_, ?_⟩⟩
  all_goals intro h
  case refine_1 => cases tms <;> simp [tapRise, tapNext, h]
  case refine_2 => cases tms <;> simp [tapRise, tapNext, h]
  case refine_3 => cases tms <;> simp [tapRise, tapNext, h]
  case refine_4 => cases tms <;> simp [tapRise, tapNext, h]
  case refine_5 => cases tms <;> simp [tapRise, tapNext, h]
  case refine_11 => simp [tapCapture, h]
  case refine_12 => simp [tapCapture, h]
  case refine_13 => simp [tapCapture, h]
  all_goals simp [tapFall, h]

/-- Settles O59: power and temperature, the pins, and the TAP. -/
theorem boardAndTestAccess : Obligations.BoardAndTestAccess := ⟨powerAndTemperature, boardPins, testAccess⟩

end Sys2Proof.Machine
end

section
/-! PROOF. What a commit leaves of the custody tables (R452 to R454): all that it does beside the bindings themselves keeps them as they
are. -/

namespace Sys2Proof.Machine

theorem PortWork.frame {s t : State} (h : PortWork s t) : SameFrame s t := by
  obtain ⟨_, _, _, _, _, _, _, _, _, _, rfl⟩ := h
  exact SameFrame.refl s

section Frame
variable (s : State)

@[simp] theorem sendContextRelease_frame (i : Nat) : SameFrame s (sendContextRelease s i) := by
  unfold sendContextRelease askContextRelease
  dsimp only
  split
  · exact SameFrame.refl s
  split
  · exact SameFrame.refl s
  · exact sendReq_frame s _

@[simp] theorem sendHostCompletion_frame (i : Nat) : SameFrame s (sendHostCompletion s i) := by
  unfold sendHostCompletion
  dsimp only
  split <;> simp

@[simp] theorem sendDecrement_frame (i h : Nat) (failed : Bool) : SameFrame s (sendDecrement s i h failed) := by
  unfold sendDecrement
  dsimp only
  split <;> simp

@[simp] theorem acceptCompletion_frame (i : Nat) (failed : Bool) (status : Nat) (kind : Option Nat) :
    SameFrame s (acceptCompletion s i failed status kind) := by
  unfold acceptCompletion
  dsimp only
  split
  · simp [spoor, spoorSend, freeSlot]
  · simp [retireEffects, spoor, spoorSend, freeSlot]

@[simp] theorem loseRecord_frame (i : Nat) : SameFrame s (loseRecord s i) := by
  unfold loseRecord retireFailed
  dsimp only
  split
  · exact SameFrame.refl s
  split
  · exact SameFrame.refl s
  · refine SameFrame.trans ?_ (acceptCompletion_frame _ _ _ _ _)
    exact SameFrame.refl s

@[simp] theorem retireOn_frame (u : Nat) (f : Rec → Bool) : SameFrame s (retireOn s u f) := foldl_frame s loseRecord_frame _

@[simp] theorem releaseTileAck_frame (p c u count : Nat) : SameFrame s (releaseTileAck s p c u count) := by
  unfold releaseTileAck
  dsimp only
  split
  · exact SameFrame.refl s
  split
  · unfold sendNotice
    refine SameFrame.trans ?_ (sendReq_frame _ _)
    exact SameFrame.refl s
  · exact SameFrame.refl s

@[simp] theorem releasesPass_frame (p u : Nat) : SameFrame s (releasesPass s p u) := by
  unfold releasesPass
  split
  · exact SameFrame.refl s
  · exact foldl_frame s (fun t (r : Release) => releaseTileAck_frame t p r.ctx u 0) _

@[simp] theorem purgeTile_frame (unit p u : Nat) : SameFrame s (purgeTile s unit p u) :=
  foldl_frame s (fun t (k : Nat) => (PortWork.startPurge t unit (rqId u k) p).frame) _

@[simp] theorem reboundTile_frame (id p u : Nat) : SameFrame s (reboundTile s id p u) := by
  refine SameFrame.trans ?_ (purgeTile_frame _ _ _ _)
  exact SameFrame.refl s

@[simp] theorem bindingsGone_frame (p u : Nat) (vts : List Nat) : SameFrame s (bindingsGone s p u vts) :=
  (retireOn_frame s u _).trans (releasesPass_frame _ p u)

/-! ### The grants of a record -/

theorem ownSlice_frame (x : Nat) (p : Option Nat) : SameFrame s (ownSlice s x p) := by
  unfold ownSlice
  exact SameFrame.refl s

theorem withdrawGroup_frame (g : Nat) : SameFrame s (withdrawGroup s g) := by
  unfold withdrawGroup
  exact SameFrame.refl s

theorem grantGroup_frame (g p : Nat) : SameFrame s (grantGroup s g p) := by
  unfold grantGroup
  exact SameFrame.refl s

theorem withSched_frame (y : Sch) : SameFrame s { s with sch := y } := SameFrame.refl s

theorem setTrail_frame (n : Nat) (y : Trail) : SameFrame s (setTrail s n y) := by
  unfold setTrail
  exact SameFrame.refl s

@[simp] theorem applySlices_frame (p : Nat) (old new : List Byte) : SameFrame s (applySlices s p old new) := by
  have h := (foldl_frame s (fun t (x : Nat) => ownSlice_frame t x none) (recSlices old)).trans
    (foldl_frame _ (fun t (x : Nat) => ownSlice_frame t x (some p)) (recSlices new))
  unfold applySlices
  exact h.trans (SameFrame.refl _)

@[simp] theorem applyGrants_frame (p : Nat) (old new : List Byte) : SameFrame s (applyGrants s p old new) := by
  have hblk (v : Bool) (t : State) (b : Nat) : SameFrame t ((List.range 64).foldl
      (fun s i => setTrail s (64 * b + i) { trailAt s (64 * b + i) with valid := v, part := if v then p else 0 }) t) :=
    foldl_frame t (fun y i => setTrail_frame y _ _) _
  unfold applyGrants
  dsimp only
  refine SameFrame.trans ?_ (foldl_frame _ (fun t (g : Nat) => grantGroup_frame t g p) _)
  refine SameFrame.trans ?_ (foldl_frame _ withdrawGroup_frame _)
  refine SameFrame.trans ?_ (foldl_frame _ (hblk true) _)
  refine SameFrame.trans ?_ (foldl_frame _ (hblk false) _)
  refine SameFrame.trans ?_ (foldl_frame _ (fun t (c : Nat) => withSched_frame t _) _)
  exact foldl_frame s (fun t (c : Nat) => withSched_frame t _) _

@[simp] theorem unbindFn_frame (id p b f : Nat) (remove : Bool) : SameFrame s (unbindFn s id p b f remove) := by
  unfold unbindFn
  cases remove
  · exact ((PortWork.fnStop s b f).trans (PortWork.setFn _ b f _)).frame
  · exact ((PortWork.raiseAbout s _ _ _ _ _ _ _).trans ((PortWork.fnQuit _ b f).trans (PortWork.setFn _ b f _))).frame

theorem setFn_frame (b f : Nat) (y : Fn) : SameFrame s (setFn s b f y) := (PortWork.setFn s b f y).frame

@[simp] theorem atcDrop_frame (b f : Nat) : SameFrame s (atcDrop s b f) := by
  unfold atcDrop
  exact SameFrame.refl s

@[simp] theorem setRing_frame (rs : Nat) (y : RingSet) : SameFrame s (setRing s rs y) := by
  unfold setRing
  exact SameFrame.refl s

@[simp] theorem applyFns_frame (st : Stage) (old new : List Byte) : SameFrame s (applyFns s st old new) := by
  unfold applyFns
  dsimp only
  refine SameFrame.trans ?_ (foldl_frame _ (fun t (b : Nat) => foldl_frame t (fun y (x : Nat × Nat × Nat) => setFn_frame y _ _ _) _) _)
  refine SameFrame.trans ?_ (foldl_frame _ (fun t (b : Nat) => ?bind) _)
  case bind =>
    split
    · split
      · exact (setFn_frame t _ _ _).trans (atcDrop_frame _ _ _)
      · exact setFn_frame t _ _ _
    · exact SameFrame.refl t
  refine foldl_frame s (fun t (b : Nat) => ?_) _
  split
  · split
    · exact SameFrame.refl t
    · exact unbindFn_frame t _ _ _ _ _
  · exact SameFrame.refl t

@[simp] theorem applyRings_frame (p : Nat) (old new : List Byte) : SameFrame s (applyRings s p old new) := by
  unfold applyRings
  exact (foldl_frame s (fun t (rs : Nat) => setRing_frame t _ _) _).trans (foldl_frame _ (fun t (x : Nat × Nat) => setRing_frame t _ _) _)

@[simp] theorem applyCtx_frame (p n : Nat) : SameFrame s (applyCtx s p n) := by
  unfold applyCtx setCtxPart
  dsimp only
  exact ⟨rfl, rfl, rfl, rfl, rfl⟩

@[simp] theorem applyLimits_frame (p : Nat) (new : List Byte) : SameFrame s (applyLimits s p new) := by
  unfold applyLimits
  exact ⟨rfl, rfl, rfl, rfl, rfl⟩

@[simp] theorem newWindow_frame (p : Nat) : SameFrame s (newWindow s p) := by
  unfold newWindow
  exact SameFrame.refl s

@[simp] theorem setDest_frame (i : Nat) (y : SpoorDest) : SameFrame s (setDest s i y) := by
  unfold setDest
  exact SameFrame.refl s

/-- What a commit does after the bindings are written, before the tiles that lost some are purged. -/
theorem applyRest_frame (st : Stage) (p : Nat) (old new : List Byte) :
    SameFrame s (applyLimits (applyCtx (applyRings (applyFns (applyGrants (applySlices s p old new) p old new) st old new) p old new) p (recF new 2 2)) p new) :=
  (applySlices_frame s p old new).trans <| (applyGrants_frame _ p old new).trans <| (applyFns_frame _ st old new).trans <|
    (applyRings_frame _ p old new).trans <| (applyCtx_frame _ p _).trans (applyLimits_frame _ p new)

end Frame

/-! ### The bindings, and the message that follows -/

variable {s t : State}

theorem modTile_parts (s : State) (u : Nat) (f : Tile → Tile) : (modTile s u f).prt = s.prt := by
  unfold modTile setTile
  rfl

theorem dropEntry_parts (s : State) (p : Nat) (e : List Byte) : (dropEntry s p e).prt.parts = s.prt.parts := by
  unfold dropEntry
  rw [modTile_parts]

theorem addEntry_parts (s : State) (p : Nat) (e : List Byte) : (addEntry s p e).prt.parts = s.prt.parts := by
  unfold addEntry
  rw [modTile_parts]

theorem foldl_parts {α : Type} {f : State → α → State} (h : ∀ t a, (f t a).prt.parts = t.prt.parts) (l : List α) (t : State) :
    (l.foldl f t).prt.parts = t.prt.parts :=
  List.foldlRecOn l f (motive := fun y : State => y.prt.parts = t.prt.parts) rfl (fun y hy a _ => (h y a).trans hy)

/-- Writing bindings leaves the partitions' records. -/
theorem applyBinds_parts (s : State) (st : Stage) : (applyBinds s st).prt.parts = s.prt.parts := by
  unfold applyBinds
  dsimp only
  rw [foldl_parts (fun t (u : Nat) => by rw [modTile_parts]), foldl_parts (fun t e => addEntry_parts t st.part e),
    foldl_parts (fun t e => dropEntry_parts t st.part e)]

/-- PLACE_INVALIDATE of a range to a tile. -/
def invalidatePkt (p : Nat) (r : Nat × Nat) (u : Nat) : Packet :=
  { cls := 0, dest := u, src := rqId 0x30A 0, part := p, tag := 0, body := .placeInvalidate r.1 r.2 }

theorem broadcastRange_sends (s : State) (p : Nat) (who : Option Nat) (r : Nat × Nat) :
    (broadcastRange s p who r).prt = { s.prt with acks := s.prt.acks ++ (servingTiles s).map (fun u => (u, who)) }
    ∧ (broadcastRange s p who r).net = s.net ++ (servingTiles s).map (invalidatePkt p r) := by
  unfold broadcastRange
  dsimp only
  generalize servingTiles s = l
  induction l generalizing s with
  | nil => simp
  | cons u l ih =>
    obtain ⟨hprt, hnet⟩ := ih (sendMgmt { s with prt := { s.prt with acks := s.prt.acks ++ [(u, who)] } } (rqId 0x30A 0) u p 0 (.placeInvalidate r.1 r.2))
    rw [List.foldl_cons, hprt, hnet]
    simp [sendMgmt, sendPkt, invalidatePkt]

theorem broadcastInv_parts (s : State) (p : Nat) (who : Option Nat) (vts : List Nat) : (broadcastInv s p who vts).prt.parts = s.prt.parts := by
  unfold broadcastInv
  dsimp only
  refine foldl_parts (fun t (r : Nat × Nat) => ?_) _ s
  rw [(broadcastRange_sends t p who r).1]

/-- A partition's commit writes the stage's record and binding list in its place. -/
theorem applyPart_parts (s : State) (st : Stage) : (applyPart s st).prt.parts = s.prt.parts.set st.part
    { s.prt.parts.getD st.part {} with record := st.record, binds := if recRemoves st.record then [] else st.binds } := by
  have hrest := applyRest_frame (applyBinds s st) st st.part ((partRec s st.part).getD []) (if recRemoves st.record then [] else st.record)
  unfold applyPart
  dsimp only
  rw [broadcastInv_parts]
  generalize applyLimits _ _ _ = x at hrest ⊢
  have hwindow : SameFrame x (if recRemoves st.record = true then setDest x (1 + st.part) {}
      else if ((partRec s st.part).getD []).isEmpty = true then newWindow x st.part else x) := by
    split
    · exact setDest_frame x _ _
    · split
      · exact newWindow_frame x _
      · exact SameFrame.refl x
  have htiles := foldl_frame (if recRemoves st.record = true then setDest x (1 + st.part) {}
      else if ((partRec s st.part).getD []).isEmpty = true then newWindow x st.part else x)
    (fun t (u : Nat) => (bindingsGone_frame t st.part u ((bindChanges s st).2.map bVt)).trans (reboundTile_frame _ st.id st.part u)) (stageTiles s st)
  generalize List.foldl _ _ _ = y at htiles ⊢
  have hparts : y.prt.parts = s.prt.parts := by
    rw [(hrest.trans (hwindow.trans htiles)).2.2.2.2, applyBinds_parts]
  rw [(settleTakes_frame _).2.2.2.2, hparts]

end Sys2Proof.Machine
end

section
/-! PROOF. What reaches the commit engine (R444), and the clause of O54 that fails. -/

namespace Sys2Proof.Machine

/-! ### What reaches the commit engine -/

/-- An element in service takes what reaches it. -/
theorem ifIn_inService {s : State} {e : Nat} (h : outOfService s e = false) (t : State) : ifIn s e t = t := if_neg (by simp [h])

/-- A custody command of either party, while all that it passes is in service. -/
theorem custodyCommand {s t x : State} (hserve : CustodyServes s) (h : t = x) : settled s (custodyReach s t) = .next (kept s x) :=
  settled_of_eq ((custodyReach_inService hserve.1 hserve.2.1 _).trans h)

/-- A command of one party, from it. -/
theorem fromParty_own (s : State) (party : Nat) (t : State) : fromParty s party party t = t := if_pos rfl

/-- From the other it is refused with RIGHTS_DENIED. -/
theorem fromParty_other {s : State} (hfw : fwRuns s = true) {party want : Nat} (h : party ≠ want) (t : State) :
    fromParty s party want t = answer s party [0x10, 0] := (if_neg h).trans (if_pos hfw)

/-- A command of the commit engine alone. -/
theorem commitCommand {s t x : State} (h10 : outOfService s 10 = false) (h : t = x) : settled s (ifIn s 10 t) = .next (kept s x) :=
  settled_of_eq ((ifIn_inService h10 _).trans h)

/-- A fault message names its kind in ten bits. -/
theorem Raised.lt {s t : State} {k : Nat} (h : Raised s t k) : k < 1024 := by
  obtain ⟨m, _, hm⟩ := h
  omega

end Sys2Proof.Machine

open Sys2Proof.Machine in
/-- Refutes O54: the clause on a closing stage's record takes every number for a fault kind, and KIND of a message has ten bits. A stage of
the reset state, closed with the number 1024, raises a message whose KIND is 0. -/
theorem not_custodyStages : ¬ Obligations.CustodyStages := by
  rintro ⟨_, hchecks, _⟩
  obtain ⟨_, _, _, hclose⟩ := hchecks
  obtain ⟨t, _, _, _, _, _, _, _, _, hkind⟩ := hclose State.reset {} 0 0
  obtain ⟨_, _, hraised⟩ := hkind 1024
  exact absurd hraised.lt (by decide)
end

section
/-! PROOF. Custody's parties and keys (R441 to R444, R455): arming, queries, enrolment, replacement. -/

namespace Sys2Proof.Machine

variable {s : State}

/-! ### Records that wait for the ledger -/

/-- A record that is queued changes the ledger's registers and nothing else. -/
theorem queueWrite_ledger (s : State) (w : LWrite) : ∃ l, queueWrite s w = { s with ldg := l } := by
  unfold queueWrite
  split
  · exact ⟨s.ldg, rfl⟩
  · exact ⟨_, rfl⟩

theorem writeKeys_ledger (s : State) (change : Nat) : ∃ l, writeKeys s change = { s with ldg := l } := queueWrite_ledger s _

theorem roomForEpoch_ledger (s : State) : ∃ l, roomForEpoch s = { s with ldg := l } := by
  unfold roomForEpoch
  split
  · obtain ⟨l, h⟩ := queueWrite_ledger { s with ldg := { s.ldg with boundQ := s.ldg.boundQ + 4096 } } { ring := 2, type := 3, payload := leBytes 1 (b2n s.clr.hold) ++ leBytes 1 s.ldg.slot ++ leBytes 6 0 ++ leBytes 8 (s.ldg.boundQ + 4096) }
    exact ⟨l, h⟩
  · exact ⟨s.ldg, rfl⟩

/-! ### ARM and DISARM -/

section Arm
variable (hfw : fwRuns s = true) {p : Nat}
include hfw

theorem arm_noPartition (hp : 16 ≤ p) (digest : Nat) : arm s p digest = answer s 0 [0x11, 0] := (if_neg (by simp [hfw])).trans (if_pos hp)

theorem disarm_noPartition (hp : 16 ≤ p) : disarm s p = answer s 0 [0x11, 0] := (if_neg (by simp [hfw])).trans (if_pos hp)

variable (hp : p < 16)
include hp

theorem arm_matches {digest : Nat} (hstate : (s.prt.parts.getD p {}).state = 2) (hdigest : (s.prt.parts.getD p {}).digest = digest) :
    arm s p digest = answer (setPartState s p 1) 0 [0, 0] := by
  unfold arm
  rw [if_neg (by simp [hfw]), if_neg (by omega)]
  exact if_pos ⟨hstate, hdigest⟩

theorem arm_refused {digest : Nat} (h : (s.prt.parts.getD p {}).state ≠ 2 ∨ (s.prt.parts.getD p {}).digest ≠ digest) :
    arm s p digest = answer (custodyRaise s Kind.armRefused 0x30A 0 (some p) 0) 0 [0x14, 0] := by
  unfold arm
  rw [if_neg (by simp [hfw]), if_neg (by omega)]
  exact if_neg (by tauto)

theorem disarm_safe (hsafe : inSafe s = true) : disarm s p = answer s 0 [0x16, 0] := by
  unfold disarm
  rw [if_neg (by simp [hfw]), if_neg (by omega), if_pos hsafe]

theorem disarm_armed (hsafe : inSafe s = false) (h : (s.prt.parts.getD p {}).state = 1) : disarm s p = answer (setPartState s p 2) 0 [0, 0] := by
  unfold disarm
  rw [if_neg (by simp [hfw]), if_neg (by omega), if_neg (by simp [hsafe]), if_pos h]

theorem disarm_refused (hsafe : inSafe s = false) (h : (s.prt.parts.getD p {}).state ≠ 1) : disarm s p = answer s 0 [0x14, 0] := by
  unfold disarm
  rw [if_neg (by simp [hfw]), if_neg (by omega), if_neg (by simp [hsafe]), if_neg h]

end Arm

/-- ARM and DISARM: the fabric manager's commands. -/
theorem armCommands (hserve : CustodyServes s) (p digest : Nat) :
    (16 ≤ p → PartyTold (.arm 0 p digest) s s 0 [0x11, 0] ∧ PartyTold (.disarm 0 p) s s 0 [0x11, 0])
    ∧ (p < 16 →
      ((s.prt.parts.getD p {}).state = 2 → (s.prt.parts.getD p {}).digest = digest → PartyTold (.arm 0 p digest) s (setPartState s p 1) 0 [0, 0])
      ∧ (((s.prt.parts.getD p {}).state ≠ 2 ∨ (s.prt.parts.getD p {}).digest ≠ digest) → PartyTold (.arm 0 p digest) s (custodyRaise s Kind.armRefused 0x30A 0 (some p) 0) 0 [0x14, 0])
      ∧ (inSafe s = true → PartyTold (.disarm 0 p) s s 0 [0x16, 0])
      ∧ (inSafe s = false → (s.prt.parts.getD p {}).state = 1 → PartyTold (.disarm 0 p) s (setPartState s p 2) 0 [0, 0])
      ∧ (inSafe s = false → (s.prt.parts.getD p {}).state ≠ 1 → PartyTold (.disarm 0 p) s s 0 [0x14, 0]))
    ∧ ∀ party, party ≠ 0 → PartyTold (.arm party p digest) s s party [0x10, 0] ∧ PartyTold (.disarm party p) s s party [0x10, 0] := by
  obtain ⟨_, _, hfw⟩ := id hserve
  have harm {t : State} (h : arm s p digest = t) : exec (.arm 0 p digest) s = .next (kept s t) := custodyCommand hserve ((fromParty_own s 0 _).trans h)
  have hdisarm {t : State} (h : disarm s p = t) : exec (.disarm 0 p) s = .next (kept s t) := custodyCommand hserve ((fromParty_own s 0 _).trans h)
  refine ⟨fun hp => ⟨harm (arm_noPartition hfw hp _), hdisarm (disarm_noPartition hfw hp)⟩, fun hp => ⟨fun hst hd => harm (arm_matches hfw hp hst hd),
    fun h => harm (arm_refused hfw hp h), fun h => hdisarm (disarm_safe hfw hp h), fun h hst => hdisarm (disarm_armed hfw hp h hst),
    fun h hst => hdisarm (disarm_refused hfw hp h hst)⟩, fun party hparty => ⟨?_, ?_⟩⟩
  · exact custodyCommand hserve (fromParty_other hfw hparty _)
  · exact custodyCommand hserve (fromParty_other hfw hparty _)

/-! ### QUERY and malformed messages -/

theorem exec_query (hserve : CustodyServes s) (party : Nat) : PartyTold (.query party) s s party
    ([0, 0, s.prt.custody, s.prt.epoch, keyHash s.prt.fmk, keyHash s.prt.pck] ++ [queryStage s 0, queryStage s 1, queryStage s 2, queryStage s 3] ++ s.prt.parts.map PartState.state) := by
  refine custodyCommand hserve ?_
  unfold query
  rw [if_neg (by simp [hserve.2.2])]
  rfl

theorem exec_mctpInvalid (h11 : outOfService s 11 = false) (hfw : fwRuns s = true) (m : BadMctp) :
    (m.forbidden = true → PartyTold (.mctpMessageInvalid m) s s m.party [0x10, 0])
    ∧ (m.forbidden = false → PartyTold (.mctpMessageInvalid m) s (raise s Kind.mctpMessageInvalid (rqId 0x30D 0) none 0 0) m.party [0x11, 0]) := by
  refine ⟨fun h => ?_, fun h => ?_⟩
  · refine settled_of_eq ((mctpReach_inService h11 _).trans ?_)
    exact (if_neg (by simp [hfw])).trans (if_pos h)
  · refine settled_of_eq ((mctpReach_inService h11 _).trans ?_)
    exact (if_neg (by simp [hfw])).trans (if_neg (by simp [h]))

/-! ### Enrolment -/

section Enroll
variable (hfw : fwRuns s = true) {key : List Byte}
include hfw

theorem enroll_badKey (hkey : ecKey key = none) (party expects : Nat) : enroll s party key expects = answer s party [0x11, 0] := by
  unfold enroll
  rw [if_neg (by simp [hfw]), if_pos (by simp [hkey])]

variable (hkey : ecKey key ≠ none) (party expects : Nat)
include hkey

theorem enroll_notOpen (h : s.prt.custody ≠ 0 ∨ epochReady s = false) : enroll s party key expects = answer s party [0x14, 0] := by
  unfold enroll
  rw [if_neg (by simp [hfw]), if_neg (by simpa using hkey), if_pos (by simpa using h)]

variable (hcustody : s.prt.custody = 0) (hready : epochReady s = true)
include hcustody hready

theorem enroll_mode (hmode : s.clr.mode ≠ .configuration) :
    enroll s party key expects = answer (if s.prt.enroll.isSome then enrollFail s else s) party [0x14, 0] := by
  unfold enroll
  rw [if_neg (by simp [hfw]), if_neg (by simpa using hkey), if_neg (by simp [hcustody, hready]), if_pos hmode]

variable (hmode : s.clr.mode = .configuration)
include hmode

/-- The first ENROLL of a pair is kept, and so is a later one of its own party. -/
theorem enroll_first (h : ∀ e, s.prt.enroll = some e → e.role = party) : enroll s party key expects = answer { s with prt := { s.prt with
    enroll := some { role := party, key := key, expects := expects, at_ := supNow s } } } party [0, 0] := by
  unfold enroll
  rw [if_neg (by simp [hfw]), if_neg (by simpa using hkey), if_neg (by simp [hcustody, hready]), if_neg (by simp [hmode])]
  dsimp only
  cases he : s.prt.enroll with
  | none => rfl
  | some e => exact if_pos (h e he)

/-- The other party's ENROLL is too late, or does not match. -/
theorem enroll_fails {e : Enroll} (he : s.prt.enroll = some e) (hrole : e.role ≠ party)
    (h : e.at_ + usToCc s 30000000 < supNow s ∨ sha384 key ≠ e.expects ∨ sha384 e.key ≠ expects) :
    enroll s party key expects = answerOpen (enrollFail s) party := by
  unfold enroll
  rw [if_neg (by simp [hfw]), if_neg (by simpa using hkey), if_neg (by simp [hcustody, hready]), if_neg (by simp [hmode]), he]
  dsimp only
  rw [if_neg hrole]
  by_cases hlate : e.at_ + usToCc s 30000000 < supNow s
  · exact if_pos hlate
  · exact (if_neg hlate).trans (if_neg (by tauto))

/-- A pair that matches within 30 s provisions custody. -/
theorem enroll_matches {e : Enroll} (he : s.prt.enroll = some e) (hrole : e.role ≠ party) (htime : supNow s ≤ e.at_ + usToCc s 30000000)
    (h : sha384 key = e.expects) (h' : sha384 e.key = expects) : ∃ l' m, m.head % 1024 = Kind.custodyKeyChanged
      ∧ enroll s party key expects = { s with
          prt := { s.prt with
            epoch := s.prt.epoch + 1, enroll := none, custody := 1
            fmk := if party = 0 then key else e.key
            pck := if party = 0 then e.key else key }
          ldg := l', flt := { s.flt with inbox := s.flt.inbox ++ [m] }, sent := s.sent ++ [.mctp party [0, 0]] } := by
  unfold enroll
  rw [if_neg (by simp [hfw]), if_neg (by simpa using hkey), if_neg (by simp [hcustody, hready]), if_neg (by simp [hmode]), he]
  dsimp only
  rw [if_neg hrole, if_neg (by omega), if_pos ⟨h, h'⟩]
  obtain ⟨l, hl⟩ := roomForEpoch_ledger s
  rw [hl]
  generalize hx : custodyState _ 1 = x
  obtain ⟨l', hl'⟩ := writeKeys_ledger x 0
  rw [hl', ← hx]
  refine ⟨l', ⟨now s % 2 ^ 64, faultHead Kind.custodyKeyChanged (rqId 0x308 0) (rqId 0x308 0 / 4) none none, 0, 0⟩, ?_, ?_⟩
  · dsimp only
    rw [faultHead_kind]
    rfl
  unfold answer emit custodyState custodyRaise raise raiseAbout raiseMsg bumpEpoch
  rfl

end Enroll

/-- ENROLL in each of its cases. -/
theorem enrollCommand (hserve : CustodyServes s) (party expects : Nat) (key : List Byte) :
    (ecKey key = none → PartyTold (.enroll party key expects) s s party [0x11, 0])
    ∧ (ecKey key ≠ none → (s.prt.custody ≠ 0 ∨ epochReady s = false) → PartyTold (.enroll party key expects) s s party [0x14, 0])
    ∧ (ecKey key ≠ none → s.prt.custody = 0 → epochReady s = true →
      (s.clr.mode ≠ .configuration →
        (s.prt.enroll = none → PartyTold (.enroll party key expects) s s party [0x14, 0])
        ∧ (s.prt.enroll ≠ none → PartyTold (.enroll party key expects) s (enrollFail s) party [0x14, 0]))
      ∧ (s.clr.mode = .configuration →
        ((∀ e, s.prt.enroll = some e → e.role = party) → PartyTold (.enroll party key expects) s { s with prt := { s.prt with
          enroll := some { role := party, key := key, expects := expects, at_ := supNow s } } } party [0, 0])
        ∧ (∀ e, s.prt.enroll = some e → e.role ≠ party →
          ((e.at_ + usToCc s 30000000 < supNow s ∨ sha384 key ≠ e.expects ∨ sha384 e.key ≠ expects) → exec (.enroll party key expects) s = .next (kept s (answerOpen (enrollFail s) party)))
          ∧ (supNow s ≤ e.at_ + usToCc s 30000000 → sha384 key = e.expects → sha384 e.key = expects →
            Leaves (.enroll party key expects) s (fun t => t.prt.custody = 1 ∧ t.prt.enroll = none ∧ t.prt.epoch = s.prt.epoch + 1
              ∧ t.prt.fmk = (if party = 0 then key else e.key) ∧ t.prt.pck = (if party = 0 then e.key else key) ∧ t.sent = s.sent ++ [.mctp party [0, 0]]
              ∧ ∃ m, m ∈ t.flt.inbox ∧ m.head % 1024 = Kind.custodyKeyChanged))))) := by
  obtain ⟨_, _, hfw⟩ := id hserve
  refine ⟨fun hkey => custodyCommand hserve (enroll_badKey hfw hkey party expects), fun hkey h => custodyCommand hserve (enroll_notOpen hfw hkey party expects h),
    fun hkey hcustody hready => ⟨fun hmode => ⟨fun he => ?_, fun he => ?_⟩, fun hmode => ⟨fun h => ?_, fun e he hrole => ⟨fun h => ?_, fun htime h h' => ?_⟩⟩⟩⟩
  · refine custodyCommand hserve ((enroll_mode hfw hkey party expects hcustody hready hmode).trans ?_)
    rw [if_neg (by simp [he])]
  · refine custodyCommand hserve ((enroll_mode hfw hkey party expects hcustody hready hmode).trans ?_)
    rw [if_pos (Option.isSome_iff_ne_none.mpr he)]
  · exact custodyCommand hserve (enroll_first hfw hkey party expects hcustody hready hmode h)
  · exact custodyCommand hserve (enroll_fails hfw hkey party expects hcustody hready hmode he hrole h)
  · obtain ⟨l, m, hm, ht⟩ := enroll_matches hfw hkey party expects hcustody hready hmode he hrole htime h h'
    refine ⟨_, custodyCommand hserve ht, rfl, rfl, rfl, rfl, rfl, rfl, m, ?_, hm⟩
    exact List.mem_append_right _ (List.mem_singleton_self m)

theorem exec_enrollTimeout {e : Enroll} (hclk : supClocked s = true) (he : s.prt.enroll = some e) (htime : e.at_ + usToCc s 30000000 ≤ supNow s) :
    exec .enrollTimeout s = .next (kept s (enrollFail s)) := by
  refine settled_of_eq ?_
  unfold enrollTimeout
  rw [he]
  exact if_pos (by simp [hclk, htime])

/-! ### Replacement -/

theorem cancelReplace_pending (h : s.prt.custody = 2) : cancelReplace s = custodyState { s with prt := { s.prt with replace := none } } 1 := if_pos h

theorem cancelReplaceCommand (hserve : CustodyServes s) (party : Nat) (sig : List Byte) :
    ((s.prt.custody ≠ 2 ∨ s.prt.replace = none) → PartyTold (.cancelReplace party sig) s s party [0x14, 0])
    ∧ (∀ x, s.prt.custody = 2 → s.prt.replace = some x →
      (custodySigned x.1 (partyKey s x.1) s.prt.replaceDigest sig = true →
        PartyTold (.cancelReplace party sig) s (custodyState { s with prt := { s.prt with replace := none } } 1) party [0, 0])
      ∧ (custodySigned x.1 (partyKey s x.1) s.prt.replaceDigest sig = false →
        exec (.cancelReplace party sig) s = .next (kept s (answerOpen (custodyRaise s Kind.custodySignatureInvalid 0x308 0 none 0) party)))) := by
  have hfw : ¬ (!(fwRuns s)) = true := by simp [hserve.2.2]
  refine ⟨fun h => custodyCommand hserve ?_, fun x hcustody hreplace => ⟨fun hok => custodyCommand hserve ?_, fun hbad => custodyCommand hserve ?_⟩⟩
  · unfold cancelReplaceCmd
    rw [if_neg hfw]
    split
    · next hc hr => simp [hc, hr] at h
    · rfl
  · unfold cancelReplaceCmd
    rw [if_neg hfw, hreplace, ← cancelReplace_pending hcustody, hcustody]
    exact if_pos hok
  · unfold cancelReplaceCmd
    rw [if_neg hfw, hcustody, hreplace]
    exact if_neg (by simp [hbad])

/-- At the end of its wait a replacement takes effect, and its records wait for the ledger and the collector. -/
theorem replaceExpiry_expires {x : Nat × List Byte × Nat} (hcustody : s.prt.custody = 2) (hreplace : s.prt.replace = some x) (hclk : supClocked s = true)
    (htime : x.2.2 ≤ supNow s) : ∃ l m, replaceExpiry s = { s with
      prt := (putKey (bumpEpoch { s with prt := { s.prt with replace := none, custody := 1 } }) x.1 x.2.1).prt
      ldg := l, flt := { s.flt with inbox := s.flt.inbox ++ [m] } } := by
  unfold replaceExpiry
  rw [hcustody, hreplace]
  obtain ⟨l, hl⟩ := roomForEpoch_ledger s
  generalize hy : custodyState (putKey { bumpEpoch (roomForEpoch s) with prt := { (bumpEpoch (roomForEpoch s)).prt with replace := none } } x.1 x.2.1) 1 = y
  obtain ⟨l', hl'⟩ := writeKeys_ledger y 2
  refine ⟨l', ⟨now s % 2 ^ 64, faultHead Kind.custodyKeyChanged (rqId 0x308 0) (rqId 0x308 0 / 4) none none, 0, 0⟩, (if_pos (by simp [hclk, htime])).trans ?_⟩
  dsimp only
  rw [hy, hl', ← hy, hl]
  unfold custodyState custodyRaise raise raiseAbout raiseMsg bumpEpoch putKey
  split <;> rfl

theorem partyKey_putKey (s : State) (role : Nat) (key : List Byte) : partyKey (putKey s role key) role = key := by
  unfold partyKey putKey
  split
  · rfl
  · rfl

/-- The other party's key stays. -/
theorem partyKey_putKey_other (s : State) {role y : Nat} (h : y = 0 ↔ role ≠ 0) (key : List Byte) : partyKey (putKey s role key) y = partyKey s y := by
  unfold partyKey putKey
  by_cases hy : y = 0
  · rw [if_pos hy, if_pos hy, if_neg (h.mp hy)]
  · rw [if_neg hy, if_neg hy, if_pos (by tauto)]

theorem putKey_keeps (s : State) (role : Nat) (key : List Byte) : (putKey s role key).prt.custody = s.prt.custody
    ∧ (putKey s role key).prt.replace = s.prt.replace ∧ (putKey s role key).prt.epoch = s.prt.epoch := by
  unfold putKey
  split
  · exact ⟨rfl, rfl, rfl⟩
  · exact ⟨rfl, rfl, rfl⟩

/-- The replaced party's key, and no other, is the new one. -/
theorem exec_replaceWaitExpiry {x : Nat × List Byte × Nat} (hcustody : s.prt.custody = 2) (hreplace : s.prt.replace = some x) (hclk : supClocked s = true)
    (htime : x.2.2 ≤ supNow s) : Leaves .replaceWaitExpiry s (fun t => t.prt.custody = 1 ∧ t.prt.replace = none ∧ partyKey t x.1 = x.2.1 ∧ t.prt.epoch = s.prt.epoch + 1
      ∧ (∀ y, (y = 0 ↔ x.1 ≠ 0) → partyKey t y = partyKey s y)) := by
  obtain ⟨l, m, ht⟩ := replaceExpiry_expires hcustody hreplace hclk htime
  obtain ⟨hc, hr, he⟩ := putKey_keeps (bumpEpoch { s with prt := { s.prt with replace := none, custody := 1 } }) x.1 x.2.1
  exact ⟨_, settled_of_eq ht, hc, hr, partyKey_putKey _ x.1 x.2.1, he, fun y hy => partyKey_putKey_other _ hy x.2.1⟩

theorem partyCommands_holds : PartyCommands := by
  refine ⟨fun s p digest hserve => ?_, fun s party hserve => exec_query hserve party, fun s m h11 hfw => exec_mctpInvalid h11 hfw m,
    fun s party expects key hserve => enrollCommand hserve party expects key, fun s e hclk he htime => exec_enrollTimeout hclk he htime, fun s => rfl,
    fun s party sig hserve => cancelReplaceCommand hserve party sig, fun s v => rfl, fun s x hc hr hclk htime => exec_replaceWaitExpiry hc hr hclk htime⟩
  obtain ⟨hnone, hpart, hother⟩ := armCommands hserve p digest
  exact ⟨hnone, hpart, hother, fun v => rfl⟩

end Sys2Proof.Machine
end

section
/-! PROOF. The direct-write window and attestation (R46, R342, R439, R457, R458). -/

namespace Sys2Proof.Machine

variable {s : State}

/-! ### The window's registers -/

section Window
variable {k off : Nat} (hk : k < 0x800) (hoff : off = 0x03000000 + 8 * k)
include hk hoff

theorem slotOf_direct : slotOf off 0x03000000 8 0x800 = some k := by
  rw [slotOf, if_pos (by omega)]
  congr 1
  omega

/-- The words of the window are registers. -/
theorem bar0Word_direct (s : State) : (bar0Word s off).isSome = true := by
  have hslot : slotOf (off - 0x03000000) 0 8 0x800 = some k := by
    rw [slotOf, if_pos (by omega)]
    congr 1
    omega
  unfold bar0Word
  rw [if_neg (by omega), if_neg (by omega), if_neg (by omega), if_neg (by omega), if_neg (by omega), if_neg (by omega), if_neg (by omega),
    if_neg (by omega), if_neg (by omega), if_neg (by omega), if_neg (by omega), if_neg (by omega), if_neg (by omega), if_neg (by omega),
    if_neg (by omega), if_pos (by omega), directWord, hslot]
  rfl

/-- The physical function's write of word `k` of the window. -/
theorem pfWrite_direct (s : State) (b v w : Nat) :
    pfWrite s b off v w = some (directWrite s b (k / 8) (k % 8 / 2) (decide (k % 2 = 1)) v) := by
  have hflt : ¬(0x20000 ≤ off ∧ off < 0x40000) := by omega
  have hne (n : Nat) (hn : n < 0x03000000) : off ≠ n := by omega
  have hspoor : slotOf off 0x100400 8 4 = none := if_neg (by omega)
  have hmon : slotOf off 0x150000 0x10000 3 = none := if_neg (by omega)
  have hprobe : slotOf off 0x200100 8 64 = none := if_neg (by omega)
  simp only [pfWrite, hne, hflt, hspoor, hmon, hprobe, slotOf_direct hk hoff, if_false, Nat.reduceLT]

theorem bar0Write_direct {b v : Nat} (hp : accessorPresent s (.fn b 0) = true) (hsafe : inSafe s = false) (hv : v < 2 ^ 64) :
    bar0Write s (.fn b 0) off 8 v = directWrite s b (k / 8) (k % 8 / 2) (decide (k % 2 = 1)) v := by
  have htil : tilWindow off = none := by
    rw [tilWindow, if_neg (by omega), if_neg (by omega)]
  have hspoor : spoorOther off = false := by
    simp only [spoorOther, decide_eq_false_iff_not]
    omega
  rw [bar0Write_whole hp (by omega) (.inl hsafe) htil (bar0Word_direct hk hoff s) hspoor, pfWrite_direct hk hoff, Nat.mod_eq_of_lt hv]
  rfl

end Window

/-- A direct write of the physical function in one of its three outcomes. -/
theorem exec_directWrite {b pos i v off : Nat} {frame : Bool} (hp : accessorPresent s (.fn b 0) = true) (hsafe : inSafe s = false) (hpos : pos < 256)
    (hi : i < 4) (hv : v < 2 ^ 64) (hoff : off = 0x03000000 + 0x40 * pos + 0x10 * i + (if frame then 8 else 0)) :
    exec (.directWrite (.fn b 0) pos i frame (.whole v)) s = .next (kept s (if debugOpen s then (directSet s pos i frame v).getD (logAccess s b 0 off 5)
      else logAccess s b 0 off 0)) := by
  have hword (n : Nat) (hn : n = 2 * i + (if frame then 1 else 0)) : (8 * pos + n) / 8 = pos ∧ (8 * pos + n) % 8 / 2 = i
      ∧ decide ((8 * pos + n) % 2 = 1) = frame := by
    cases frame
    · simp only [Bool.false_eq_true, if_false] at hn
      exact ⟨by omega, by omega, decide_eq_false (by omega)⟩
    · simp only [if_true] at hn
      exact ⟨by omega, by omega, decide_eq_true (by omega)⟩
  obtain ⟨hdiv, hslot, hframe⟩ := hword _ rfl
  have hk : 8 * pos + (2 * i + (if frame then 1 else 0)) < 0x800 := by split <;> omega
  have hat : off = 0x03000000 + 8 * (8 * pos + (2 * i + (if frame then 1 else 0))) := by
    rw [hoff]
    split <;> omega
  refine settled_of_eq ((if_pos ⟨hpos, hi⟩).trans ?_)
  rw [registerWrite, ← hoff, bar0Write_direct hk hat hp hsafe hv, hdiv, hslot, hframe]
  unfold directWrite
  rw [if_neg (by simp [present_clocked hp, hpos, hi]), ← hoff]
  cases hopen : debugOpen s with
  | false => rfl
  | true =>
    dsimp only
    rw [if_neg (by simp), if_pos rfl]
    cases directSet s pos i frame v <;> rfl

/-! ### What an accepted write changes -/

section Set
variable (pos i v : Nat)

theorem applying_iff : s.prt.stages.any (fun x => decide (x.phase = 2)) = true ↔ ∃ x ∈ s.prt.stages, x.phase = 2 := by simp

theorem directSet_applying (frame : Bool) (h : ∃ x ∈ s.prt.stages, x.phase = 2) : directSet s pos i frame v = none :=
  if_pos (applying_iff.mpr h)

variable (h : ∀ x ∈ s.prt.stages, x.phase ≠ 2)
include h

theorem directSet_frame : directSet s pos i true v = if !(within 1 256 (bits v 16 8)) then none
    else some (directUsed (modTile s (steer s pos) (fun t => { t with vtFrame := t.vtFrame.set i { size := bits v 16 8, base := bits v 7 0 } })) (steer s pos)
      ((tileAt s (steer s pos)).bindings.getD i {})) := by
  unfold directSet
  rw [if_neg (by simpa using h)]
  rfl

theorem directSet_binding : directSet s pos i false v
    = if bit v 63 && ((tileAt s (steer s pos)).bindings.eraseIdx i).any (fun b => b.valid && decide (b.part ≠ bits v 62 59)) then none
      else some (directUsed (directBinding s pos i v) (steer s pos) { valid := bit v 63, part := bits v 62 59 }) := by
  unfold directSet
  rw [if_neg (by simpa using h)]
  rfl

end Set

/-- What a write to the open window of a binding or frame word comes to. -/
theorem directSet_cases (s : State) (pos i v u : Nat) (frame : Bool) (hu : u = steer s pos) :
    ((∃ x ∈ s.prt.stages, x.phase = 2) → directSet s pos i frame v = none)
    ∧ ((∀ x ∈ s.prt.stages, x.phase ≠ 2) →
      ((bits v 16 8 < 1 ∨ 256 < bits v 16 8) → directSet s pos i true v = none)
      ∧ (1 ≤ bits v 16 8 → bits v 16 8 ≤ 256 → directSet s pos i true v = some (directUsed (setTile s u { tileAt s u with
          vtFrame := (tileAt s u).vtFrame.set i { size := bits v 16 8, base := bits v 7 0 } }) u ((tileAt s u).bindings.getD i {})))
      ∧ (bit v 63 = true → (∃ b ∈ (tileAt s u).bindings.eraseIdx i, b.valid = true ∧ b.part ≠ bits v 62 59) → directSet s pos i false v = none)
      ∧ ((bit v 63 = false ∨ ∀ b ∈ (tileAt s u).bindings.eraseIdx i, b.valid = true → b.part = bits v 62 59) →
        directSet s pos i false v = some (directUsed (directBinding s pos i v) u { valid := bit v 63, part := bits v 62 59 }))) := by
  subst hu
  refine ⟨directSet_applying pos i v frame, fun h => ⟨fun hsize => ?_, fun hlo hhi => ?_, fun hbit hclash => ?_, fun hfree => ?_⟩⟩
  · rw [directSet_frame pos i v h, if_pos]
    simp only [within, Bool.not_eq_true', Bool.and_eq_false_iff, decide_eq_false_iff_not]
    omega
  · rw [directSet_frame pos i v h, if_neg (by simp [within, hlo, hhi])]
    rfl
  · obtain ⟨b, hb, hvalid, hpart⟩ := hclash
    have hany : ((tileAt s (steer s pos)).bindings.eraseIdx i).any (fun b => b.valid && decide (b.part ≠ bits v 62 59)) = true :=
      List.any_eq_true.mpr ⟨b, hb, by simp [hvalid, hpart]⟩
    rw [directSet_binding pos i v h, if_pos (by rw [hbit, hany]; rfl)]
  · rw [directSet_binding pos i v h, if_neg]
    simp only [Bool.and_eq_true, List.any_eq_true, decide_eq_true_eq, not_and, not_exists]
    intro hbit b hb hvalid
    obtain hno | hall := hfree
    · simp [hno] at hbit
    · exact not_not.mpr (hall b hb hvalid)

theorem directUsed_records (s : State) (u : Nat) (b : Binding) : (directUsed s u b).prt = { s.prt with directWrites := s.prt.directWrites + 1, debugUsed := true }
    ∧ (directUsed s u b).tiles = s.tiles ∧ Raised s (directUsed s u b) Kind.directWriteUsed := by
  refine ⟨rfl, rfl, _, rfl, ?_⟩
  dsimp only
  rw [faultHead_kind]
  rfl

/-- A purge of a tile's requesters leaves the tiles, the custody tables and the placement. -/
theorem purgeTile_keeps (s : State) (by_ p u : Nat) : (purgeTile s by_ p u).tiles = s.tiles ∧ (purgeTile s by_ p u).prt = s.prt
    ∧ (purgeTile s by_ p u).place = s.place := by
  have h : PortWork s (purgeTile s by_ p u) := PortWork.foldl (fun t k => PortWork.startPurge t by_ (rqId u k) p) _ s
  obtain ⟨_, _, _, _, _, _, _, _, _, _, ht⟩ := h
  rw [ht]
  exact ⟨rfl, rfl, rfl⟩

/-- The state as a slot's old binding leaves the placement. -/
def unplaced (s : State) (old : Binding) (pos i : Nat) : State :=
  match old.valid, SMap.get none s.place (1024 * old.part + old.vtile) with
  | true, some x => if x.unit = pos ∧ x.slot = i then { s with place := SMap.put none s.place (1024 * old.part + old.vtile) none } else s
  | _, _ => s

theorem unplaced_keeps (s : State) (old : Binding) (pos i : Nat) : (unplaced s old pos i).tiles = s.tiles ∧ (unplaced s old pos i).prt = s.prt := by
  unfold unplaced
  split
  · split
    · exact ⟨rfl, rfl⟩
    · exact ⟨rfl, rfl⟩
  · exact ⟨rfl, rfl⟩

/-- The state with the purge for the partition that a slot leaves, and then for another that it enters. -/
def purgedFor (s : State) (old : Binding) (p u : Nat) : State :=
  let s1 := if old.valid then purgeTile s 0x30A old.part u else s
  if old.valid && decide (old.part = p) then s1 else purgeTile s1 0x30A p u

theorem purgedFor_keeps (s : State) (old : Binding) (p u : Nat) : (purgedFor s old p u).tiles = s.tiles ∧ (purgedFor s old p u).prt = s.prt := by
  have hleft : (if old.valid then purgeTile s 0x30A old.part u else s).tiles = s.tiles ∧ (if old.valid then purgeTile s 0x30A old.part u else s).prt = s.prt := by
    split
    · obtain ⟨ht, hp, _⟩ := purgeTile_keeps s 0x30A old.part u
      exact ⟨ht, hp⟩
    · exact ⟨rfl, rfl⟩
  unfold purgedFor
  dsimp only
  split
  · exact hleft
  · obtain ⟨ht, hp, _⟩ := purgeTile_keeps (if old.valid then purgeTile s 0x30A old.part u else s) 0x30A p u
    exact ⟨ht.trans hleft.1, hp.trans hleft.2⟩

/-- The binding that a valid word gives, with its generation. -/
def wordBinding (s : State) (v : Nat) : Binding :=
  { valid := true, part := bits v 62 59, vtile := bits v 58 49, gen := nextGenOf s (bits v 62 59) (bits v 58 49), ntBase := bits v 36 23, ntCountM1 := bits v 22 9 }

/-- The state once the slot is written and the purges are begun. -/
def slotWritten (s : State) (pos i v : Nat) : State :=
  purgedFor (modTile (unplaced s ((tileAt s (steer s pos)).bindings.getD i {}) pos i) (steer s pos)
    (fun t => rebind { t with bindings := t.bindings.set i (wordBinding s v) } (bits v 62 59))) ((tileAt s (steer s pos)).bindings.getD i {}) (bits v 62 59) (steer s pos)

theorem directBinding_word (s : State) (pos i : Nat) {v : Nat} (hbit : bit v 63 = true) : directBinding s pos i v = { slotWritten s pos i v with
    place := SMap.put none (slotWritten s pos i v).place (1024 * bits v 62 59 + bits v 58 49) (some { unit := pos, slot := i, gen := nextGenOf s (bits v 62 59) (bits v 58 49) })
    prt := { (slotWritten s pos i v).prt with gens := SMap.put 0 (slotWritten s pos i v).prt.gens (1024 * bits v 62 59 + bits v 58 49) (nextGenOf s (bits v 62 59) (bits v 58 49)) } } := by
  unfold directBinding
  simp only [hbit, if_true]
  rfl

/-- A valid binding written directly: the slot's binding with the next generation, and its placement. -/
theorem directBinding_valid (s : State) (pos i v : Nat) (hbit : bit v 63 = true) :
    SMap.get none (directBinding s pos i v).place (1024 * bits v 62 59 + bits v 58 49) = some { unit := pos, slot := i, gen := nextGenOf s (bits v 62 59) (bits v 58 49) }
    ∧ SMap.get 0 (directBinding s pos i v).prt.gens (1024 * bits v 62 59 + bits v 58 49) = nextGenOf s (bits v 62 59) (bits v 58 49)
    ∧ (steer s pos < s.tiles.length → (tileAt (directBinding s pos i v) (steer s pos)).bindings = (tileAt s (steer s pos)).bindings.set i
        { valid := true, part := bits v 62 59, vtile := bits v 58 49, gen := nextGenOf s (bits v 62 59) (bits v 58 49), ntBase := bits v 36 23, ntCountM1 := bits v 22 9 }) := by
  rw [directBinding_word s pos i hbit]
  dsimp only
  refine ⟨SMap.get_put_same _ _ _ _, SMap.get_put_same _ _ _ _, fun hu => ?_⟩
  obtain ⟨hold, _⟩ := unplaced_keeps s ((tileAt s (steer s pos)).bindings.getD i {}) pos i
  have htile (x : State) (hx : x.tiles = s.tiles) : tileAt x (steer s pos) = tileAt s (steer s pos) := congrArg (fun l => l.getD (steer s pos) {}) hx
  have hwritten : (slotWritten s pos i v).tiles = _ := (purgedFor_keeps _ _ _ _).1
  change ((slotWritten s pos i v).tiles.getD (steer s pos) {}).bindings = _
  rw [hwritten]
  change (tileAt (modTile (unplaced s ((tileAt s (steer s pos)).bindings.getD i {}) pos i) (steer s pos) _) (steer s pos)).bindings = _
  rw [tileAt_modTile_same _ _ _ (by rw [hold]; exact hu), htile _ hold]
  rfl

/-! ### The measurement blocks -/

theorem exec_getMeasurements (hfw : fwRuns s = true) (i : Nat) :
    exec (.getMeasurements i) s = .next (kept s (emit (measurement s i).1 (.spdm i (measurement s i).2))) := settled_of_eq (if_neg (by simp [hfw]))

theorem measurement_partition {p : Nat} (hp : p < 16) :
    measurement s (16 + p) = (s, [(s.prt.parts.getD p {}).state, (s.prt.parts.getD p {}).digest, (s.prt.parts.getD p {}).epoch]) := by
  have hsub : 16 + p - 16 = p := by omega
  unfold measurement
  split <;> try omega
  dsimp only
  rw [hsub, if_pos (by omega)]

theorem directAndAttest_holds : DirectAndAttest := by
  refine ⟨fun s a pos i frame x hpos hi => settled_of_eq (if_pos ⟨hpos, hi⟩), fun s b pos i v off frame hp hsafe hpos hi hv hoff => ⟨fun hopen => ?_, fun hopen hset => ?_, fun t hopen hset => ?_⟩,
    directSet_cases, directUsed_records, directBinding_valid, fun s hfw => ⟨fun v x hfree => ?_, exec_getMeasurements hfw 2, exec_getMeasurements hfw 3, exec_getMeasurements hfw 4, exec_getMeasurements hfw 5,
      exec_getMeasurements hfw 6, fun p hp => ?_⟩⟩
  · rw [exec_directWrite hp hsafe hpos hi hv hoff, if_neg (by simp [hopen])]
  · rw [exec_directWrite hp hsafe hpos hi hv hoff, if_pos hopen, hset]
    rfl
  · rw [exec_directWrite hp hsafe hpos hi hv hoff, if_pos hopen, hset]
    rfl
  · rw [exec_getMeasurements hfw 1, measurement, hfree]
  · rw [exec_getMeasurements hfw, measurement_partition hp]

/-- Settles O55: the parties' commands and keys, the direct-write window and attestation. -/
theorem custodyPartiesAndKeys : Obligations.CustodyPartiesAndKeys := ⟨partyCommands_holds, directAndAttest_holds⟩

end Sys2Proof.Machine
end

section
/-! PROOF. Entry into Safe (R363, R447, R448, R452, R476): the lock unit's work on the notes of an orphan, stages that close, a commit that
completes. -/

namespace Sys2Proof.Machine

/-! ### The lock unit -/

/-- `t` is `s` after the lock unit has served its cells: its own state, the requests it has answered, packets and fault messages
are new. -/
def LockWork (s t : State) : Prop := ∃ lck net ups replays ms, t = { s with
  lck := lck, net := net, ups := ups, replays := replays, flt := { s.flt with inbox := s.flt.inbox ++ ms } }

namespace LockWork

variable {s t x : State}

theorem refl (s : State) : LockWork s s := ⟨_, _, _, _, [], by rw [List.append_nil]⟩

theorem trans (h : LockWork s t) (h' : LockWork t x) : LockWork s x := by
  obtain ⟨_, _, _, _, ms, rfl⟩ := h
  obtain ⟨lck, net, ups, replays, ms', rfl⟩ := h'
  exact ⟨lck, net, ups, replays, ms ++ ms', by rw [List.append_assoc]⟩

theorem foldl {α : Type} {f : State → α → State} (h : ∀ y a, LockWork y (f y a)) (l : List α) (s : State) : LockWork s (l.foldl f s) := by
  induction l generalizing s with
  | nil => exact refl s
  | cons a l ih => exact (h s a).trans (ih _)

/-- The lock unit's own state changes. -/
theorem lck (s : State) (y : Lck) : LockWork s { s with lck := y } := ⟨_, _, _, _, [], by rw [List.append_nil]⟩

theorem sendPkt (s : State) (p : Packet) : LockWork s (Machine.sendPkt s p) := ⟨_, _, _, _, [], by rw [List.append_nil]; rfl⟩

theorem raise (s : State) (kind reporter : Nat) (part : Option Nat) (addr detail : Nat) :
    LockWork s (Machine.raise s kind reporter part addr detail) := ⟨_, _, _, _, [_], rfl⟩

theorem setCell (s : State) (n : Nat) (c : LockCell) : LockWork s (Machine.setCell s n c) := lck s _

theorem replayFinish (s : State) (target : Nat) (rq : Rq) (r : Resp) : LockWork s (Machine.replayFinish s target rq r) := by
  refine trans ?_ (sendPkt _ _)
  exact ⟨_, _, _, _, [], by rw [List.append_nil]; rfl⟩

theorem wakeWatches (s : State) (n : Nat) : LockWork s (Machine.wakeWatches s n) := by
  unfold Machine.wakeWatches
  exact (lck s _).trans (foldl (fun y w => sendPkt y _) _ _)

theorem passCell (s : State) (n status : Nat) : LockWork s (Machine.passCell s n status) := by
  unfold Machine.passCell
  split
  · exact (lck s _).trans ((setCell _ n _).trans ((lck _ _).trans (replayFinish _ _ _ _)))
  · exact (setCell s n _).trans (wakeWatches _ n)

theorem serveOrphan (s : State) (n : Nat) : LockWork s (Machine.serveOrphan s n) := by
  unfold Machine.serveOrphan
  split
  · split
    · exact refl s
    · exact passCell s n 4
  · exact foldl (fun y w => (lck y _).trans (replayFinish _ _ _ _)) _ s

theorem orphan (s : State) (rq part : Nat) : LockWork s (Machine.orphan s rq part) := by
  have hcells (t : State) (l : List Nat) : LockWork t (l.foldl Machine.serveOrphan (l.foldl orphanCell t)) :=
    (foldl (fun y n => setCell y n _) l t).trans (foldl serveOrphan l _)
  unfold Machine.orphan
  dsimp only
  split
  · exact (lck s _).trans (hcells _ _)
  · exact ((lck s _).trans (hcells _ _)).trans (raise _ _ _ _ _ _)

theorem applyNotes (s : State) : LockWork s (Machine.applyNotes s) := (lck s _).trans (foldl (fun y (x : Nat × Nat) => orphan y x.1 x.2) _ _)

end LockWork

/-! ### Closing a stage -/

section Close
variable (s : State) (st : Stage) (status reason : Nat) (kind : Option Nat)

/-- The custody tables as a closing stage leaves them. -/
theorem closeStage_prt : (closeStage s st status reason kind).prt = { s.prt with
    stages := s.prt.stages.filter (fun x => decide (x.id ≠ st.id))
    acks := s.prt.acks.filter (fun a => decide (a.2 ≠ some st.id))
    lastId := st.id, lastStatus := status, lastReason := reason } := by
  unfold closeStage klbHear tellBoth
  cases kind with
  | none => rfl
  | some k =>
    unfold custodyRaise raise
    rfl

theorem closeStage_ldg : (closeStage s st status reason kind).ldg = s.ldg := by
  unfold closeStage klbHear tellBoth
  cases kind with
  | none => rfl
  | some k =>
    unfold custodyRaise raise
    rfl

/-- Once a list of stages has been refused, the stages that stay are of other numbers. -/
theorem refuseStages_stays (l : List Stage) {x : Stage} (h : x ∈ (l.foldl (fun s st => refuseStage s st reason) s).prt.stages) :
    x ∈ s.prt.stages ∧ ∀ y ∈ l, x.id ≠ y.id := by
  induction l generalizing s with
  | nil => exact ⟨h, fun y hy => absurd hy List.not_mem_nil⟩
  | cons y l ih =>
    obtain ⟨hx, hl⟩ := ih (refuseStage s y reason) h
    rw [refuseStage, closeStage_prt] at hx
    obtain ⟨hmem, hid⟩ := List.mem_filter.mp hx
    exact ⟨hmem, List.forall_mem_cons.mpr ⟨of_decide_eq_true hid, hl⟩⟩

theorem closeStages_ldg : (closeStages s reason).ldg = s.ldg :=
  List.foldlRecOn _ _ (motive := fun y : State => y.ldg = s.ldg) rfl (fun y hy st _ => (closeStage_ldg y st _ _ _).trans hy)

/-- At entry into Safe only stages in apply stay. -/
theorem closeStages_stays {x : Stage} (h : x ∈ (closeStages s reason).prt.stages) : 2 ≤ x.phase := by
  obtain ⟨hx, hother⟩ := refuseStages_stays s reason _ h
  by_contra hlow
  exact hother x (List.mem_filter.mpr ⟨hx, decide_eq_true (by omega)⟩) rfl

end Close

/-! ### Completing a commit -/

/-- The state with the effect of a stage's kind, before the commit's record and its answer. -/
def commitEffect (s : State) (st : Stage) : State :=
  let s0 : State := { s with prt := { s.prt with epoch := s.prt.epoch + 1, commits := (s.prt.commits + 1) % 2 ^ 16 } }
  match st.kind with
  | 0 =>
    let x : PartState := { s0.prt.parts.getD st.part {} with state := if recRemoves st.record then 0 else 1, digest := st.digest, epoch := s.prt.epoch + 1 }
    { s0 with prt := { s0.prt with parts := s0.prt.parts.set st.part x } }
  | 1 => writeKeys (putKey s0 st.role st.newKey) 1
  | 2 => custodyState { s0 with prt := { s0.prt with
      replace := some (st.role, st.newKey, supNow s0 + usToCc s0 86400000000), replaceDigest := st.digest } } 2
  | _ => writeKeys (custodyState (eraseKeys s0) 0) 3

theorem finishCommit_eq (s : State) (st : Stage) : finishCommit s st = closeStage (writeCommit (commitEffect s st) st.id st.kind (if st.kind = 0 then st.part else 0)
    (decide (st.kind = 0) && recRemoves st.record) st.digest) st 0 0 none := rfl

/-- A record that is queued leaves the ledger's counts. -/
theorem queueWrite_keeps (s : State) (w : LWrite) : (queueWrite s w).prt = s.prt ∧ (queueWrite s w).ldg.cnt = s.ldg.cnt := by
  unfold queueWrite
  split
  · exact ⟨rfl, rfl⟩
  · exact ⟨rfl, rfl⟩

theorem writeKeys_keeps (s : State) (change : Nat) : (writeKeys s change).prt = s.prt ∧ (writeKeys s change).ldg.cnt = s.ldg.cnt := queueWrite_keeps s _

theorem writeSettings_keeps (s : State) (bound : Nat) : (writeSettings s bound).prt = s.prt ∧ (writeSettings s bound).ldg.cnt = s.ldg.cnt := by
  obtain ⟨hprt, hcnt⟩ := queueWrite_keeps { s with ldg := { s.ldg with boundQ := bound } }
    { ring := 2, type := 3, payload := leBytes 1 (b2n s.clr.hold) ++ leBytes 1 s.ldg.slot ++ leBytes 6 0 ++ leBytes 8 bound }
  exact ⟨hprt, hcnt⟩

theorem commitEffect_keeps (s : State) (st : Stage) : (commitEffect s st).prt.stages = s.prt.stages ∧ (commitEffect s st).ldg.cnt = s.ldg.cnt := by
  unfold commitEffect
  split
  · exact ⟨rfl, rfl⟩
  · rw [(writeKeys_keeps _ _).1, (writeKeys_keeps _ _).2]
    unfold putKey
    split
    · exact ⟨rfl, rfl⟩
    · exact ⟨rfl, rfl⟩
  · exact ⟨rfl, rfl⟩
  · rw [(writeKeys_keeps _ _).1, (writeKeys_keeps _ _).2]
    exact ⟨rfl, rfl⟩

theorem finishCommit_keeps (s : State) (st : Stage) :
    (finishCommit s st).prt.stages = s.prt.stages.filter (fun x => decide (x.id ≠ st.id)) ∧ (finishCommit s st).ldg.cnt = s.ldg.cnt := by
  obtain ⟨hstages, hcnt⟩ := commitEffect_keeps s st
  obtain ⟨hprt, hcnt'⟩ := queueWrite_keeps (commitEffect s st) { ring := 3, type := 4
                                                                 payload := leBytes 8 (commitEffect s st).prt.epoch ++ leBytes 4 st.id ++ leBytes 1 st.kind ++ leBytes 1 (if st.kind = 0 then st.part else 0) ++ leBytes 1 (b2n (decide (st.kind = 0) && recRemoves st.record)) ++ leBytes 1 0
                                                                   ++ digestBytes st.digest ++ leBytes 4 (commitEffect s st).ldg.cnt.boots }
  have hwrite : (writeCommit (commitEffect s st) st.id st.kind (if st.kind = 0 then st.part else 0) (decide (st.kind = 0) && recRemoves st.record) st.digest).prt.stages = s.prt.stages :=
    (congrArg Prt.stages hprt).trans hstages
  rw [finishCommit_eq, closeStage_prt, closeStage_ldg]
  dsimp only
  rw [hwrite]
  exact ⟨rfl, hcnt'.trans hcnt⟩

/-- A commit that completes, or makes room first, opens no stage and counts nothing in the ledger's counts. -/
theorem settleCommit_keeps (s : State) : (∀ x ∈ (settleCommit s).prt.stages, x ∈ s.prt.stages) ∧ (settleCommit s).ldg.cnt = s.ldg.cnt := by
  unfold settleCommit
  split
  · exact ⟨fun x h => h, rfl⟩
  split
  · exact ⟨fun x h => h, rfl⟩
  split
  · split
    · obtain ⟨hprt, hcnt⟩ := writeSettings_keeps s (s.ldg.bound + 4096)
      exact ⟨fun x h => by rwa [hprt] at h, hcnt⟩
    · exact ⟨fun x h => h, rfl⟩
  · next st _ _ _ =>
    obtain ⟨hstages, hcnt⟩ := finishCommit_keeps s st
    exact ⟨fun x h => by rw [hstages] at h; exact List.mem_of_mem_filter h, hcnt⟩

/-! ### Safe -/

theorem safeVectors_emits (s : State) : ∃ outs, safeVectors s = { s with sent := s.sent ++ outs } := by
  refine List.foldlRecOn allFns _ (motive := fun y : State => ∃ outs, y = { s with sent := s.sent ++ outs }) ⟨[], by rw [List.append_nil]⟩ ?_
  rintro y ⟨outs, rfl⟩ x _
  split
  · exact ⟨outs ++ [.msix x.1 x.2 0], by rw [← List.append_assoc]; rfl⟩
  · exact ⟨outs, rfl⟩

/-- Entry into Safe: slices end, the lock unit's notes are applied, stages close, the mode changes; what else is new are records and
messages. -/
theorem enterSafe_enters {s : State} (h : inSafe s = false) : ∃ lck net ups replays prt ldg klb ms sent, enterSafe s = { s with
      slices := [], tiles := s.tiles.map (fun t => { t with testing := false }), hif := s.hif.map (fun h => { h with latched := [] })
      ckr := { s.ckr with chosen := [] }, lck := lck, net := net, ups := ups, replays := replays, prt := prt, ldg := ldg, klb := klb, sent := sent
      clr := { s.clr with mode := .safe }, flt := { s.flt with alert := true, inbox := s.flt.inbox ++ ms } }
    ∧ ldg.cnt.safeEntries = satInc 32 s.ldg.cnt.safeEntries ∧ ∀ x ∈ prt.stages, 2 ≤ x.phase := by
  obtain ⟨lck, net, ups, replays, ms, hnotes⟩ := LockWork.applyNotes (endSlices s)
  obtain ⟨outs, hvec⟩ := safeVectors_emits (applyNotes (endSlices s))
  generalize hy : safeVectors (applyNotes (endSlices s)) = y at hvec
  obtain ⟨prt, ldg, klb, ms', outs', hclose⟩ := Recorded.closeStages y 10
  have hldg : (closeStages y 10).ldg = s.ldg := by
    rw [closeStages_ldg, hvec, hnotes]
    rfl
  generalize hz : closeStages y 10 = z at hclose hldg
  have hstages : ∀ x ∈ z.prt.stages, 2 ≤ x.phase := fun x hx => closeStages_stays y 10 (by rw [hz]; exact hx)
  have henter : enterSafe s = settleCommit (modCount { z with clr := { z.clr with mode := .safe }, flt := { z.flt with alert := true } }
      (fun c => { c with safeEntries := satInc 32 c.safeEntries })) := by
    rw [enterSafe, if_neg (by simp [h]), hy, hz]
  generalize hw : modCount { z with clr := { z.clr with mode := .safe }, flt := { z.flt with alert := true } }
      (fun c => { c with safeEntries := satInc 32 c.safeEntries }) = w at henter
  have hcnt : w.ldg.cnt.safeEntries = satInc 32 s.ldg.cnt.safeEntries := by
    rw [← hw, ← hldg]
    rfl
  have hwst : w.prt.stages = z.prt.stages := by
    rw [← hw]
    rfl
  obtain ⟨hsub, hcnt'⟩ := settleCommit_keeps w
  obtain ⟨prt', ldg', klb', ms'', outs'', hsettle⟩ := Recorded.settleCommit w
  refine ⟨lck, net, ups, replays, prt', ldg', klb', ms ++ ms' ++ ms'', s.sent ++ outs ++ outs' ++ outs'', ?_, ?_, fun x hx => ?_⟩
  · rw [henter, hsettle, ← hw, hclose, hvec, hnotes]
    unfold modCount endSlices
    simp only [List.append_assoc]
  · rw [hsettle] at hcnt'
    exact (congrArg LCount.safeEntries hcnt').trans hcnt
  · rw [hsettle] at hsub
    exact hstages x (hwst ▸ hsub x hx)

end Sys2Proof.Machine
end

section
/-! PROOF. Safe, its exit, and the collector's protection (R467, R478 to R480, R482 to R484, R487, R488, R491). -/

namespace Sys2Proof.Machine

variable {s : State}

/-! ### SAFE_EXIT (R478) -/

theorem registerWrite_safeExit {b v : Nat} {x : RegPart} (hp : accessorPresent s (.fn b 0) = true) (herr : s.flt.stateErr = 0)
    (hx : x = .whole v ∨ x = .low v) : registerWrite s (.fn b 0) 0x20010 x = if v % 2 ^ 32 = 0x5AFE then safeExit s else s := by
  have hreg : (bar0Word s 0x20010).isSome = true := by simp [bar0Word, fltWord, inArrays, one, slotOf]
  have hmeet : meetFltErr s = s := by
    unfold meetFltErr
    rw [herr]
    rfl
  have hset (a w : Nat) : pfWrite s b 0x20010 a w = some (if a % 2 ^ 32 = 0x5AFE then safeExit (meetFltErr s) else meetFltErr s) := rfl
  rw [registerWrite_physical (by decide) (by decide) hp (.inr (by decide)) rfl hreg, hset, Option.getD_some, newWord_low (by decide) (by decide) hx, hmeet]

section Exit
variable (hclk : clocked s = true) (hsafe : inSafe s = true) (hret : s.flt.returning = none)
include hclk hsafe hret

theorem safeExit_judged : safeExit s = if fltCause s ≠ 0 then { s with flt := { s.flt with exitResult := 3 } }
    else if statusSet s then { s with flt := { s.flt with exitResult := 2 } }
    else { s with flt := { s.flt with exitResult := 1, returning := some (now s + usToCc s 2000), reenter := false } } :=
  if_neg (by simp [hclk, hsafe, hret])

end Exit

theorem safeExit_noEffect (h : inSafe s = false ∨ s.flt.returning ≠ none) : safeExit s = s := by
  refine if_pos ?_
  obtain h | h := h
  · simp [h]
  · simp [Option.isSome_iff_ne_none.mpr h]

/-- SAFE_EXIT by its three ways. -/
theorem safeExitCommands (s : State) :
    (fwRuns s = true → exec (.safeExit .firmware) s = .next (kept s (safeExit s)))
    ∧ (∀ party v, fwRuns s = true → outOfService s 11 = false → exec (.safeExit (.mctp party v)) s = .next (kept s (answerOpen (safeExit s) party)))
    ∧ (∀ b v x, accessorPresent s (.fn b 0) = true → s.flt.stateErr = 0 → (x = .whole v ∨ x = .low v) →
      (v % 2 ^ 32 = 0x5AFE → exec (.safeExit (.register (.fn b 0) x)) s = .next (kept s (safeExit s)))
      ∧ (v % 2 ^ 32 ≠ 0x5AFE → exec (.safeExit (.register (.fn b 0) x)) s = .next (kept s s))) := by
  refine ⟨fun hfw => settled_of_eq (if_pos hfw), fun party v hfw h11 => settled_of_eq ((mctpReach_inService h11 _).trans (if_pos hfw)),
    fun b v x hp herr hx => ⟨fun h => settled_of_eq ?_, fun h => settled_of_eq ?_⟩⟩
  · exact (registerWrite_safeExit hp herr hx).trans (if_pos h)
  · exact (registerWrite_safeExit hp herr hx).trans (if_neg h)

/-! ### The return from Safe (R480) -/

/-- The scheduler's return from Safe changes its own state and nothing else. -/
theorem schReset_sched (s : State) : ∃ y, schReset s = { s with sch := y } := by
  have hfold (l : List (Nat × Rec)) : ∃ y, l.foldl (fun s x => setRec s x.1 { gen := nextGen x.1 x.2.gen, gone := x.2.gone }) s = { s with sch := y } := by
    refine List.foldlRecOn l _ (motive := fun t : State => ∃ y, t = { s with sch := y }) ⟨s.sch, rfl⟩ ?_
    rintro t ⟨y, rfl⟩ x _
    exact ⟨_, rfl⟩
  obtain ⟨y, hy⟩ := hfold (s.sch.recs.filter (fun x => decide (x.2.state ≠ 0)))
  unfold schReset
  dsimp only
  rw [hy]
  exact ⟨_, rfl⟩

/-- What the return discards of the units' state. -/
theorem runCleared_clears (s : State) : (runCleared s).tiles = s.tiles.map tileSafe ∧ (runCleared s).lck.waits = [] ∧ (runCleared s).ctx = (ctxSafe s).ctx := by
  obtain ⟨y, hy⟩ := schReset_sched (ctxSafe (sifSafe { s with tiles := s.tiles.map tileSafe }))
  unfold runCleared
  dsimp only
  rw [hy]
  exact ⟨rfl, rfl, rfl⟩

theorem copyForget_rings (s : State) (b : Nat) : (copyForget s b).rings = s.rings := by
  unfold copyForget setHif
  rfl

theorem ringsSafe_rings (s : State) : (ringsSafe s).rings = s.rings.map (fun x => (x.1, ringClear x.2)) := by
  unfold ringsSafe ringsApply
  dsimp only
  rw [copyForget_rings, copyForget_rings]
  rfl

theorem unitsSafe_keeps (s : State) : (unitsSafe s).tiles = s.tiles ∧ (unitsSafe s).lck = s.lck ∧ (unitsSafe s).ctx = s.ctx
    ∧ (unitsSafe s).spr = (sprSafe s).spr ∧ (unitsSafe s).rings = (ringsSafe (sprSafe s)).rings := by
  have hring : PortWork (sprSafe s) (ringsSafe (sprSafe s)) := PortWork.ringsApply _ _ _
  unfold unitsSafe disarmAll
  generalize ringsSafe (sprSafe s) = x at hring
  obtain ⟨_, _, _, _, _, _, _, _, _, _, rfl⟩ := hring
  exact ⟨rfl, rfl, rfl, rfl, rfl⟩

/-- No partition stays ARMED. -/
theorem disarmAll_disarms (s : State) {x : PartState} (h : x ∈ (disarmAll s).prt.parts) : x.state ≠ 1 := by
  obtain ⟨y, _, rfl⟩ := List.mem_map.mp h
  split
  · exact (by decide : (2 : Nat) ≠ 1)
  · assumption

/-- Of every context but 0 the return leaves none. -/
theorem ctxSafe_state (s : State) (p : Nat) {c : Nat} (hc : 0 < c) : ctxState (ctxSafe s) p c = 0 := by
  have hzero (x : CtxPart) (h : x.st = [] ∨ x.st = [(0, 1)]) : SMap.get 0 x.st c = 0 := by
    obtain h | h := h <;> rw [h]
    · rfl
    · exact if_neg (by omega)
  refine hzero _ ?_
  unfold ctxPart ctxSafe
  dsimp only
  rw [List.getD_eq_getElem?_getD, List.getElem?_map]
  cases s.ctx.parts[p]? with
  | none => exact .inl rfl
  | some x =>
    dsimp only [Option.map_some, Option.getD_some]
    split
    · exact .inl rfl
    · exact .inr rfl

theorem unitsSafe_runCleared (s : State) : (∀ x ∈ (unitsSafe (runCleared s)).prt.parts, x.state ≠ 1) ∧ (∀ x ∈ (unitsSafe (runCleared s)).rings, x.2.state = 0)
    ∧ (∀ r ∈ (unitsSafe (runCleared s)).spr.regions, r.state = 0) ∧ (unitsSafe (runCleared s)).tiles = s.tiles.map tileSafe
    ∧ (∀ p c, 0 < c → ctxState (unitsSafe (runCleared s)) p c = 0) ∧ (unitsSafe (runCleared s)).lck.waits = [] := by
  obtain ⟨htiles, hwaits, hctx⟩ := runCleared_clears s
  obtain ⟨hutiles, hulck, huctx, huspr, hurings⟩ := unitsSafe_keeps (runCleared s)
  refine ⟨fun x hx => disarmAll_disarms _ hx, fun x hx => ?_, fun r hr => ?_, hutiles.trans htiles, fun p c hc => ?_, (congrArg Lck.waits hulck).trans hwaits⟩
  · rw [hurings, ringsSafe_rings] at hx
    obtain ⟨y, _, rfl⟩ := List.mem_map.mp hx
    rfl
  · rw [huspr] at hr
    obtain ⟨y, _, rfl⟩ := List.mem_map.mp hr
    rfl
  · rw [ctxState, ctxPart, huctx, hctx]
    exact ctxSafe_state s p hc

theorem tileSafe_clears (t : Tile) : (tileSafe t).pcache = List.replicate 64 none ∧ (tileSafe t).actSlot = [none, none]
    ∧ (t.excluded = false → (tileSafe t).thread.running = false ∧ (tileSafe t).kern.running = false ∧ (tileSafe t).store = [] ∧ (tileSafe t).ovf = [] ∧ (tileSafe t).iq = []
      ∧ (tileSafe t).fq = [] ∧ (tileSafe t).xfers = [] ∧ (tileSafe t).v = List.replicate 32 {}) := by
  unfold tileSafe
  cases t.excluded with
  | true => exact ⟨rfl, rfl, fun h => absurd h (by decide)⟩
  | false => exact ⟨rfl, rfl, fun _ => ⟨rfl, rfl, rfl, rfl, rfl, rfl, rfl, rfl⟩⟩

/-- The state at the end of the return: back in Configuration, with what bring-up has still to do. -/
def backFromSafe (s : State) : State :=
  let b : State := { unitsSafe (runCleared s) with clr := { (unitsSafe (runCleared s)).clr with mode := .configuration }, flt := { (unitsSafe (runCleared s)).flt with returning := none, reenter := false } }
  allFns.foldl (fun s x => sendPending s x.1 x.2) (if fwRuns b then (if b.ckr.reached then setStep (refreshService b) 0x0A else serviceSteps b) else b)

theorem safeReturn_returns (hclk : clocked s = true) (hsup : supClocked s = true) (hret : s.flt.returning ≠ none) :
    safeReturn s = if s.flt.reenter then enterSafe (backFromSafe s) else backFromSafe s := by
  have hflip (c : Bool) (x y : State) : (if !c then x else y) = if c then y else x := by cases c <;> rfl
  unfold safeReturn backFromSafe
  rw [if_neg (by simp [hclk, hsup, Option.isSome_iff_ne_none.mpr hret])]
  dsimp only
  rw [hflip]

/-- SAFE_RETURN, with its parts named. -/
theorem safeReturnCommand (s a b c d : State) (hclk : clocked s = true) (hsup : supClocked s = true) (hret : s.flt.returning ≠ none) (ha : a = unitsSafe (runCleared s))
    (hb : b = { a with clr := { a.clr with mode := .configuration }, flt := { a.flt with returning := none, reenter := false } })
    (hc : c = (if fwRuns b then (if b.ckr.reached then setStep (refreshService b) 0x0A else serviceSteps b) else b)) (hd : d = allFns.foldl (fun s x => sendPending s x.1 x.2) c) :
    (s.flt.reenter = false → exec .safeReturn s = .next (kept s d)) ∧ (s.flt.reenter = true → exec .safeReturn s = .next (kept s (enterSafe d))) := by
  have hreturns := safeReturn_returns hclk hsup hret
  have hback : backFromSafe s = d := by
    rw [hd, hc, hb, ha]
    rfl
  rw [hback] at hreturns
  exact ⟨fun h => settled_of_eq (hreturns.trans (if_neg (by simp [h]))), fun h => settled_of_eq (hreturns.trans (if_pos h))⟩

/-! ### The kind table (R467) -/

theorem kindClassOk_safe {k : Nat} (h : kindDefault k = some 4) (c : Nat) : kindClassOk k c = decide (c = 4) := by
  unfold kindClassOk
  rw [h]
  dsimp only
  rw [if_pos rfl, Bool.and_eq_right_iff_imp]
  intro hc
  have : c = 4 := of_decide_eq_true hc
  exact decide_eq_true (by omega)

theorem kindClassOk_unlisted {k : Nat} (h : kindDefault k = none) {c : Nat} (hc : c ≠ 0) : kindClassOk k c = false := by
  unfold kindClassOk
  rw [h]
  exact decide_eq_false hc

/-- The four kinds of R467 keep a class of Quarantine or above. -/
theorem kindClassOk_floor {k : Nat} (h : k ∈ floorQuarantine) {c : Nat} (hc : c < 3) : kindClassOk k c = false := by
  have hlisted : ∀ k ∈ floorQuarantine, (kindDefault k).isSome = true := by decide
  obtain ⟨d, hd⟩ := Option.isSome_iff_exists.mp (hlisted k h)
  unfold kindClassOk
  rw [hd]
  dsimp only
  rw [Bool.and_eq_false_iff]
  right
  split
  · exact decide_eq_false (by omega)
  · rw [if_pos (List.contains_iff_mem.mpr h)]
    exact decide_eq_false (by omega)

theorem kindTableWrite_accepts {k c : Nat} (hfw : fwRuns s = true) (hclk : clocked s = true) (hk : k < 1024) (hok : kindClassOk k c = true) (log notify pc : Bool) :
    kindTableWrite s k c log notify pc = setKind s k { kindAt s k with cls := c, log := log, notify := notify, notifyPc := pc } := by
  unfold kindTableWrite
  rw [if_pos (by simp [hfw, hclk, hk, hok])]

theorem kindTableWrite_refuses {k c : Nat} (h : kindClassOk k c = false) (log notify pc : Bool) : kindTableWrite s k c log notify pc = s := by
  unfold kindTableWrite
  rw [if_neg (by simp [h])]

theorem kindTable (s : State) (k c : Nat) (log notify pc : Bool) :
    (fwRuns s = true → clocked s = true → k < 1024 → kindClassOk k c = true →
      exec (.kindTableWrite k c log notify pc) s = .next (kept s (setKind s k { kindAt s k with cls := c, log := log, notify := notify, notifyPc := pc })))
    ∧ (kindClassOk k c = false → exec (.kindTableWrite k c log notify pc) s = .next (kept s s))
    ∧ (kindDefault k = some 4 → kindClassOk k c = decide (c = 4))
    ∧ (k ∈ floorQuarantine → c < 3 → kindClassOk k c = false) ∧ (kindDefault k = none → c ≠ 0 → kindClassOk k c = false) :=
  ⟨fun hfw hclk hk hok => settled_of_eq (kindTableWrite_accepts hfw hclk hk hok log notify pc), fun h => settled_of_eq (kindTableWrite_refuses h log notify pc), fun h => kindClassOk_safe h c,
    fun h hc => kindClassOk_floor h hc, fun h hc => kindClassOk_unlisted h hc⟩

/-! ### The collector's own state (R483, R484) -/

/-- Records of the device queue that the firmware has not taken. -/
def pendingRecords (s : State) : Nat := (s.flt.produced + 2 ^ 32 - s.flt.acked) % 2 ^ 32

theorem queueRecord_full (h : 1024 ≤ pendingRecords s) (m : FaultMsg) (cls : Nat) (safe bypass : Bool) :
    queueRecord s m cls safe bypass = { s with flt := { s.flt with lost := (s.flt.lost + 1) % 2 ^ 32, lostBit := true, gap := true } } := if_pos h

theorem queueRecord_queues (h : pendingRecords s < 1024) (m : FaultMsg) (cls : Nat) (safe bypass : Bool) : queueRecord s m cls safe bypass = { s with flt := { s.flt with
    qrec := SMap.put {} s.flt.qrec (s.flt.produced % 1024) (recordOf m cls s.flt.gap safe bypass), produced := (s.flt.produced + 1) % 2 ^ 32, gap := false } } :=
  if_neg (Nat.not_le.mpr h)

/-- A record that is queued, or lost, changes only the queue. -/
theorem queueRecord_keeps (s : State) (m : FaultMsg) (cls : Nat) (safe bypass : Bool) : (queueRecord s m cls safe bypass).clr = s.clr
    ∧ (queueRecord s m cls safe bypass).tiles = s.tiles ∧ (queueRecord s m cls safe bypass).flt.bypass = s.flt.bypass ∧ (queueRecord s m cls safe bypass).flt.fltState = s.flt.fltState
    ∧ (queueRecord s m cls safe bypass).flt.seenSince = s.flt.seenSince ∧ (queueRecord s m cls safe bypass).flt.classes = s.flt.classes := by
  obtain h | h := Nat.lt_or_ge (pendingRecords s) 1024
  · rw [queueRecord_queues h]
    exact ⟨rfl, rfl, rfl, rfl, rfl, rfl⟩
  · rw [queueRecord_full h]
    exact ⟨rfl, rfl, rfl, rfl, rfl, rfl⟩

/-- Entry into Safe, or staying there, leaves the collector's bits. -/
theorem enterSafe_flags (s : State) : (enterSafe s).clr.mode = .safe ∧ (enterSafe s).flt.bypass = s.flt.bypass ∧ (enterSafe s).flt.fltState = s.flt.fltState := by
  cases hsafe : inSafe s with
  | false =>
    obtain ⟨_, _, _, _, _, _, _, _, _, h, _⟩ := enterSafe_enters hsafe
    rw [h]
    exact ⟨rfl, rfl, rfl⟩
  | true =>
    have hmode : s.clr.mode = .safe := of_decide_eq_true hsafe
    unfold enterSafe
    rw [if_pos hsafe]
    split
    · exact ⟨hmode, rfl, rfl⟩
    · exact ⟨hmode, rfl, rfl⟩

/-- The bit of class Safe once it is set. -/
theorem bit_or_safe (n : Nat) : bit (n ||| 16) 4 = true := by
  have h : Nat.testBit (n ||| 16) 4 = true := by rw [Nat.testBit_or, show Nat.testBit 16 4 = true from rfl, Bool.or_true]
  simpa [bit, Nat.testBit, Nat.and_comm, Nat.one_and_eq_mod_two] using h

theorem bypassSafe_effect (s : State) : (bypassSafe s).clr.mode = .safe ∧ (bypassSafe s).flt.bypass = true ∧ (bypassSafe s).flt.fltState = true
    ∧ (bypassSafe s).flt.seenSince = [Kind.fltStateError] ∧ bit (bypassSafe s).flt.classes 4 = true := by
  obtain ⟨hmode, hbypass, hstate⟩ := enterSafe_flags { s with flt := { s.flt with bypass := true, fltState := true, seenSince := [] } }
  unfold bypassSafe
  dsimp only
  split
  · exact ⟨hmode, hbypass, hstate, rfl, bit_or_safe _⟩
  · obtain ⟨h1, _, h2, h3, h4, h5⟩ := queueRecord_keeps { enterSafe { s with flt := { s.flt with bypass := true, fltState := true, seenSince := [] } } with
      flt := { (enterSafe { s with flt := { s.flt with bypass := true, fltState := true, seenSince := [] } }).flt with
        seenSince := [Kind.fltStateError]
        summary := (enterSafe { s with flt := { s.flt with bypass := true, fltState := true, seenSince := [] } }).flt.summary.set 0
          ((enterSafe { s with flt := { s.flt with bypass := true, fltState := true, seenSince := [] } }).flt.summary.getD 0 0 ||| 2 ^ Kind.fltStateError)
        classes := (enterSafe { s with flt := { s.flt with bypass := true, fltState := true, seenSince := [] } }).flt.classes ||| 16 } }
      ⟨now s % 2 ^ 64, faultHead Kind.fltStateError (rqId 0x307 0) 0x307 none none, 0, 0⟩ 4 (inSafe s) true
    exact ⟨(congrArg Clr.mode h1).trans hmode, h2.trans hbypass, h3.trans hstate, h4, (congrArg (bit · 4) h5).trans (bit_or_safe _)⟩

theorem collectorScrub_cases (hclk : clocked s = true) :
    (s.flt.stateErr = 0 → exec .collectorScrub s = .next (kept s s))
    ∧ (s.flt.stateErr = 1 → exec .collectorScrub s = .next (kept s (raise { s with flt := { s.flt with stateErr := 0 } } Kind.fltStateCorrected (rqId 0x307 0) none 0 0)))
    ∧ (2 ≤ s.flt.stateErr → s.flt.fltState = true → exec .collectorScrub s = .next (kept s s))
    ∧ (2 ≤ s.flt.stateErr → s.flt.fltState = false → exec .collectorScrub s = .next (kept s (bypassSafe s))) := by
  have hmeet {t : State} (h : meetFltErr s = t) : exec .collectorScrub s = .next (kept s t) := settled_of_eq ((if_pos hclk).trans h)
  have hbad (h : 2 ≤ s.flt.stateErr) : meetFltErr s = if s.flt.fltState then s else bypassSafe s := by
    unfold meetFltErr
    split
    · omega
    · omega
    · rfl
  refine ⟨fun h => hmeet ?_, fun h => hmeet ?_, fun h hst => hmeet ((hbad h).trans (if_pos hst)), fun h hst => hmeet ((hbad h).trans (if_neg (by simp [hst])))⟩
  · unfold meetFltErr
    rw [h]
    rfl
  · unfold meetFltErr
    rw [h]
    rfl

/-! ### Records taken (R485, R543) -/

section Take
variable (s) (m : FaultMsg)

/-- The counts that a record taken advances. -/
theorem takeRecord_counts : SMap.get 0 (takeRecord s m).ldg.cnt.kinds (bits m.head 9 0) = satInc 32 (SMap.get 0 s.ldg.cnt.kinds (bits m.head 9 0)) := by
  unfold takeRecord
  dsimp only
  split
  · rw [queueEvent, (queueWrite_keeps _ _).2]
    exact SMap.get_put_same _ _ _ _
  · exact SMap.get_put_same _ _ _ _

theorem takeRecord_suppressed (h : eventDue s (bits m.head 9 0) (bits m.head 12 10) (bit m.head 58) = false) :
    (takeRecord s m).ldg.cnt.suppressed = satInc 64 s.ldg.cnt.suppressed ∧ (takeRecord s m).ldg.queue = s.ldg.queue := by
  unfold takeRecord
  dsimp only
  rw [h]
  exact ⟨rfl, rfl⟩

/-- The event of a record begins with its four words. -/
theorem takeRecord_event (h : eventDue s (bits m.head 9 0) (bits m.head 12 10) (bit m.head 58) = true) (hlive : s.ldg.dead = false) :
    ∃ w, (takeRecord s m).ldg.queue = s.ldg.queue ++ [w] ∧ w.ring = 5 ∧ w.type = 0x10
      ∧ w.payload.take 32 = leBytes 8 m.time ++ leBytes 8 m.head ++ leBytes 8 m.addr ++ leBytes 8 m.detail := by
  have hlen : (leBytes 8 m.time ++ leBytes 8 m.head ++ leBytes 8 m.addr ++ leBytes 8 m.detail).length = 32 := by simp [leBytes]
  unfold takeRecord queueEvent queueWrite
  dsimp only
  rw [h, if_pos rfl, if_neg (by rw [modCount]; simp [hlive])]
  refine ⟨_, rfl, rfl, rfl, ?_⟩
  dsimp only
  generalize leBytes 8 m.time ++ leBytes 8 m.head ++ leBytes 8 m.addr ++ leBytes 8 m.detail = head at hlen ⊢
  simp only [List.append_assoc]
  exact List.take_left' hlen

end Take

/-! ### The supervisor pair (R487, R488) -/

theorem checkerCommands (hclk : supClocked s = true) (hrun : s.chk.halted = false) :
    exec .checkerMismatch s = .next (kept s (raise { s with chk := { s.chk with halted := true, passed := false, mismatch := true } } Kind.checkerMismatch (rqId 0x308 0) none 0 0))
    ∧ exec .delayRegisterParityError s = .next (kept s (raise { s with chk := { s.chk with halted := true, passed := false, lost := true } } Kind.checkerLost (rqId 0x308 0) none 0 0))
    ∧ exec (.checkerInjection true) s = .next (kept s { s with chk := { s.chk with
        position := (s.chk.position + 1) % 256, tests := (s.chk.tests + 1) % 2 ^ 32, passed := true } })
    ∧ exec (.checkerInjection false) s = .next (kept s (raise { s with chk := { s.chk with
        position := (s.chk.position + 1) % 256, halted := true, passed := false, lost := true } } Kind.checkerLost (rqId 0x308 0) none 0 0)) := by
  refine ⟨settled_of_eq ?_, settled_of_eq ?_, settled_of_eq (if_neg (by simp [hclk, hrun])), settled_of_eq ?_⟩
  · refine (if_pos (by simp [hclk, hrun])).trans ?_
    simp [haltPair]
  · refine (if_pos (by simp [hclk, hrun])).trans ?_
    simp [haltPair]
  · refine (if_neg (by simp [hclk, hrun])).trans ?_
    simp [haltPair]

/-- Settles O57: Safe and its exit, and the protection of the collector and of the supervisor. -/
theorem safeAndProtection : Obligations.SafeAndProtection := by
  refine ⟨safeExitCommands, fun s hclk hsafe hret => ⟨fun hcause hstatus => ?_, fun hcause => ?_, fun hcause hstatus => ?_⟩, fun s h => safeExit_noEffect h,
    safeReturnCommand, unitsSafe_runCleared, tileSafe_clears, fun s h11 => settled_of_eq (mctpReach_inService h11 _), kindTable,
    fun s hclk => ?_, fun s hfw hst => settled_of_eq (if_neg (by simp [hfw, hst])), fun s hfw hne => settled_of_eq (if_neg (by simp [hfw, hne])),
    fun s m k c hk hc => ?_, fun s hclk hrun => checkerCommands hclk hrun⟩
  · rw [safeExit_judged hclk hsafe hret, if_neg (by simp [hcause]), if_neg (by simp [hstatus])]
  · rw [safeExit_judged hclk hsafe hret, if_pos hcause]
  · rw [safeExit_judged hclk hsafe hret, if_neg (by simp [hcause]), if_pos hstatus]
  · obtain ⟨h0, h1, h2, h3⟩ := collectorScrub_cases hclk
    exact ⟨h0, h1, h2, fun hbad hst => ⟨h3 hbad hst, bypassSafe_effect s⟩⟩
  · subst hk hc
    exact ⟨takeRecord_counts s m, takeRecord_suppressed s m, takeRecord_event s m, rfl⟩

end Sys2Proof.Machine
end

section
/-! PROOF. Fault messages (R463 to R468, R474 to R477, R480 to R482, R484, R485, R491). -/

namespace Sys2Proof.Machine

variable {s : State}

/-! ### A message that is taken -/

theorem faultMessage_taken {x : State} {m m' : FaultMsg} (hclk : clocked s = true) (hx : x = meetFltErr { s with flt := { s.flt with inbox := s.flt.inbox.erase m } })
    (hm : m' = (if mOk m then m else invalidFault s m)) : faultMessage s m = if x.flt.fltState then processBypass x m' else processMsg x m' := by
  subst hx hm
  unfold faultMessage
  rw [if_neg (by simp [hclk])]
  rfl

theorem appliedClass_cases (s : State) (m : FaultMsg) :
    ((kindAt s (mKind m)).cls = 3 → isTile (mSubject m) = false → appliedClass s m = 2)
    ∧ (((kindAt s (mKind m)).cls ≠ 3 ∨ isTile (mSubject m) = true) → appliedClass s m = (kindAt s (mKind m)).cls)
    ∧ (∀ p, mPart m = some p → attributed s m = [p])
    ∧ ((tileAt s (mSubject m)).excluded = true → quarantined s m = []) := by
  refine ⟨fun hc ht => if_pos ⟨hc, ht⟩, fun h => if_neg ?_, fun p hp => ?_, fun h => if_pos h⟩
  · rintro ⟨hc, ht⟩
    obtain h | h := h
    · exact h hc
    · rw [ht] at h
      exact absurd h (by decide)
  · unfold attributed
    rw [hp]

/-! ### The kind table -/

theorem kindAt_setKind_same (s : State) (k : Nat) (e : KindEntry) : kindAt (setKind s k e) k = e := by
  have h : SMap.get none (setKind s k e).flt.kinds k = if e = kindReset k then none else some e := SMap.get_put_same _ _ _ _
  unfold kindAt
  rw [h]
  split
  · next he => exact he.symm
  · rfl

theorem kindAt_setKind_other (s : State) (e : KindEntry) {j k : Nat} (h : j ≠ k) : kindAt (setKind s k e) j = kindAt s j :=
  congrArg (fun x => Option.getD x (kindReset j)) (SMap.get_put_other _ _ h _)

theorem noteKind_effect (s : State) (k cls : Nat) : kindAt (noteKind s k cls) k = { kindAt s k with count := ((kindAt s k).count + 1) % 2 ^ 32 }
    ∧ (noteKind s k cls).flt.summary = withSummary s.flt.summary k ∧ (noteKind s k cls).flt.classes = s.flt.classes ||| 2 ^ cls
    ∧ (∀ j, j ≠ k → kindAt (noteKind s k cls) j = kindAt s j) :=
  ⟨kindAt_setKind_same s k _, rfl, rfl, fun _ h => kindAt_setKind_other s _ h⟩

/-- Noting a kind leaves the device queue. -/
theorem noteKind_keeps (s : State) (k cls : Nat) : (noteKind s k cls).clr = s.clr ∧ (noteKind s k cls).tiles = s.tiles ∧ (noteKind s k cls).flt.seenSince = s.flt.seenSince
    ∧ (noteKind s k cls).flt.gap = s.flt.gap ∧ (noteKind s k cls).flt.produced = s.flt.produced ∧ (noteKind s k cls).flt.acked = s.flt.acked := by
  unfold noteKind setKind
  exact ⟨rfl, rfl, rfl, rfl, rfl, rfl⟩

theorem react_cases (s : State) (m : FaultMsg) :
    (mOrphan m = none → (∀ c, c < 3 → react s m c = s) ∧ react s m 3 = quarantine s (mSubject m) ∧ react s m 4 = enterSafe s)
    ∧ (∀ o c, mOrphan m = some o → c < 3 → react s m c = sendOrphan s (rqId (mSubject m) o) ((mPart m).getD 0)) := by
  refine ⟨fun h => ⟨fun c hc => ?_, ?_, ?_⟩, fun o c h hc => ?_⟩ <;> unfold react <;> rw [h]
  · dsimp only
    rw [if_neg (by omega), if_neg (by omega)]
  · rfl
  · rfl
  · dsimp only
    rw [if_neg (by omega), if_neg (by omega)]

/-! ### Records -/

theorem windowRecord_effect (s : State) (m : FaultMsg) (cls : Nat) (safe : Bool) {p : Nat} (hp : p < s.flt.parts.length) :
    ((windowRecord s m cls safe p).flt.parts.getD p {}).produced = ((s.flt.parts.getD p {}).produced + 1) % 2 ^ 32
      ∧ SMap.get {} (windowRecord s m cls safe p).flt.pwin (64 * p + (s.flt.parts.getD p {}).produced % 64) = recordOf m cls false safe false := by
  refine ⟨?_, SMap.get_put_same _ _ _ _⟩
  unfold windowRecord
  dsimp only
  rw [List.getD_eq_getElem?_getD, List.getElem?_set_self hp]
  rfl

/-- A message while FLT_STATE is set. -/
theorem processBypass_effect (s : State) (m : FaultMsg) (herr : s.flt.stateErr ≠ 3) :
    (processBypass s m).flt.seenSince = mKind m :: s.flt.seenSince.filter (fun k => k != mKind m) ∧ (processBypass s m).clr = s.clr ∧ (processBypass s m).tiles = s.tiles
    ∧ ((s.flt.produced + 2 ^ 32 - s.flt.acked) % 2 ^ 32 < 1024 →
      SMap.get {} (processBypass s m).flt.qrec (s.flt.produced % 1024) = recordOf m 4 s.flt.gap (inSafe s) true) := by
  obtain ⟨hclr, htiles, hseen, hgap, hproduced, hacked⟩ := noteKind_keeps s (mKind m) 4
  have hmsg : processBypass s m = queueRecord { noteKind s (mKind m) 4 with flt := { (noteKind s (mKind m) 4).flt with
      seenSince := mKind m :: (noteKind s (mKind m) 4).flt.seenSince.filter (fun k => k != mKind m) } } m 4 (inSafe s) true := if_neg herr
  generalize noteKind s (mKind m) 4 = x at *
  obtain ⟨hqclr, hqtiles, _, _, hqseen, _⟩ := queueRecord_keeps { x with flt := { x.flt with seenSince := mKind m :: x.flt.seenSince.filter (fun k => k != mKind m) } } m 4 (inSafe s) true
  rw [hmsg]
  refine ⟨hqseen.trans ?_, hqclr.trans hclr, hqtiles.trans htiles, fun hroom => ?_⟩
  · dsimp only
    rw [hseen]
  · rw [queueRecord_queues (by rw [pendingRecords]; dsimp only; rw [hproduced, hacked]; exact hroom)]
    dsimp only
    rw [hproduced, hgap]
    exact SMap.get_put_same _ _ _ _

theorem faultProcessing_holds : FaultProcessing := by
  refine ⟨fun s x m m' hclk hx hm => ⟨fun h => settled_of_eq ?_, fun h => settled_of_eq ?_⟩, fun s a b c d m e cls ps he hcls hps ha hb hc hd => ?_, appliedClass_cases, noteKind_effect, react_cases,
    fun s m cls safe bypass => ⟨fun h => queueRecord_queues h m cls safe bypass, fun h => queueRecord_full h m cls safe bypass, fun p hp => windowRecord_effect s m cls safe hp⟩,
    processBypass_effect⟩
  · exact (faultMessage_taken hclk hx hm).trans (if_neg (by simp [h]))
  · exact (faultMessage_taken hclk hx hm).trans (if_pos h)
  · subst hd hc hb ha hps hcls he
    rfl

/-! ### Quarantine (R474, R475) -/

theorem excludeTile_effect (t : Tile) : (excludeTile t).excluded = true ∧ (excludeTile t).thread.running = false ∧ (excludeTile t).kern.running = false ∧ (excludeTile t).job = none
    ∧ (excludeTile t).xfers = [] ∧ (excludeTile t).bindings = t.bindings ∧ (excludeTile t).store = t.store := by
  refine ⟨rfl, ?_, rfl, rfl, rfl, rfl, rfl⟩
  cases h : t.thread.running with
  | true => simp [excludeTile, h, endNode]
  | false => simp [excludeTile, h]

theorem quarantine_excludes {u : Nat} (h : (tileAt s u).excluded = false) : ∃ ups, quarantine s u = { s with
    tiles := s.tiles.set u (excludeTile (tileAt s u))
    outs := s.outs.filter (fun o => decide (o.unit ≠ u)), sendWait := s.sendWait.filter (fun o => decide (o.unit ≠ u))
    slices := s.slices.filter (fun x => decide (x.unit ≠ u)), flt := { s.flt with followUps := s.flt.followUps ++ [u] }, ups := ups
    net := s.net ++ [{ cls := 0, dest := 0x304, src := rqId 0x307 0, part := (tilePart (tileAt s u)).getD 0, tag := 0, body := .orphanNotify (rqId u 0) ((tilePart (tileAt s u)).getD 0) }] } := by
  unfold quarantine
  rw [if_neg (by simp [h])]
  exact ⟨_, rfl⟩

theorem quarantine_effect (s : State) (u : Nat) (hu : u < s.tiles.length) :
    ((tileAt s u).excluded = true → quarantine s u = s)
    ∧ ((tileAt s u).excluded = false → tileAt (quarantine s u) u = excludeTile (tileAt s u) ∧ (quarantine s u).flt.followUps = s.flt.followUps ++ [u]
      ∧ (∀ k, k ≠ u → tileAt (quarantine s u) k = tileAt s k) ∧ (∀ o ∈ (quarantine s u).outs, o.unit ≠ u) ∧ (quarantine s u).clr = s.clr
      ∧ (quarantine s u).net = s.net ++ [{ cls := 0, dest := 0x304, src := rqId 0x307 0, part := (tilePart (tileAt s u)).getD 0, tag := 0, body := .orphanNotify (rqId u 0) ((tilePart (tileAt s u)).getD 0) }]) := by
  refine ⟨fun h => if_pos h, fun h => ?_⟩
  obtain ⟨ups, hq⟩ := quarantine_excludes h
  rw [hq]
  refine ⟨tileAt_setTile_same s u _ hu, rfl, fun k hk => tileAt_setTile_other s u k _ hk.symm, fun o ho => ?_, rfl, rfl⟩
  exact of_decide_eq_true (List.mem_filter.mp ho).2

theorem exec_quarantineFollowUp {u : Nat} {l : List Nat} (h : s.flt.followUps = u :: l) (hfw : fwRuns s = true) (hclk : clocked s = true) (hsafe : inSafe s = false) :
    exec .quarantineFollowUp s = .next (kept s (markFailed (purgeTile (retireOn (suspendTile { s with flt := { s.flt with followUps := l } } u) u (fun _ => true)) 0x307
      ((tilePart (tileAt s u)).getD 0) u) u)) := by
  refine settled_of_eq ?_
  unfold quarantineFollowUp
  rw [h]
  exact if_neg (by simp [hfw, hclk, hsafe])

/-! ### A tile whose bindings are suspended -/

/-- `t` has the tiles and the placement of `s`. -/
def SamePlaces (s t : State) : Prop := t.tiles = s.tiles ∧ t.place = s.place

namespace SamePlaces

variable {s t x : State}

theorem refl (s : State) : SamePlaces s s := ⟨rfl, rfl⟩

theorem trans (h : SamePlaces s t) (h' : SamePlaces t x) : SamePlaces s x := ⟨h'.1.trans h.1, h'.2.trans h.2⟩

theorem foldl {α : Type} {f : State → α → State} (h : ∀ y a, SamePlaces y (f y a)) (l : List α) (s : State) : SamePlaces s (l.foldl f s) :=
  List.foldlRecOn l f (motive := SamePlaces s) (refl s) (fun y hy a _ => hy.trans (h y a))

theorem sendReq (s : State) (o : OutReq) : SamePlaces s (Machine.sendReq s o) := by
  unfold Machine.sendReq
  split
  · exact ⟨rfl, rfl⟩
  · unfold Machine.sendNow tagBump
    dsimp only
    split
    · exact ⟨rfl, rfl⟩
    · exact ⟨rfl, rfl⟩

theorem releaseTileAck (s : State) (p c u count : Nat) : SamePlaces s (Machine.releaseTileAck s p c u count) := by
  unfold Machine.releaseTileAck
  dsimp only
  split
  · exact refl s
  · split
    · exact trans (t := { s with ctx := _ }) ⟨rfl, rfl⟩ (sendReq _ _)
    · exact ⟨rfl, rfl⟩

theorem releasesPass (s : State) (p u : Nat) : SamePlaces s (Machine.releasesPass s p u) := by
  unfold Machine.releasesPass
  split
  · exact refl s
  · exact foldl (fun y r => releaseTileAck y p _ u 0) _ s

theorem sendMgmt (s : State) (src target part tag : Nat) (b : Body) : SamePlaces s (Machine.sendMgmt s src target part tag b) := by
  unfold Machine.sendMgmt sendPkt
  exact ⟨rfl, rfl⟩

theorem broadcastRange (s : State) (p : Nat) (who : Option Nat) (r : Nat × Nat) : SamePlaces s (Machine.broadcastRange s p who r) := by
  unfold Machine.broadcastRange
  dsimp only
  refine foldl (fun y u => ?_) _ s
  refine trans ?_ (sendMgmt _ _ _ _ _ _)
  exact ⟨rfl, rfl⟩

theorem broadcastInv (s : State) (p : Nat) (who : Option Nat) (vts : List Nat) : SamePlaces s (Machine.broadcastInv s p who vts) := by
  unfold Machine.broadcastInv
  exact foldl (fun y r => broadcastRange y p who r) _ s

end SamePlaces

/-- The placement with a virtual tile's entry marked as suspended. -/
def markSuspended (p : Nat) (m : SMap (Option Place)) (v : Nat) : SMap (Option Place) :=
  match SMap.get none m (1024 * p + v) with
  | some x => SMap.put none m (1024 * p + v) (some { x with suspended := true })
  | none => m

/-- A mark keeps an entry that is marked, and adds none. -/
theorem markSuspended_keeps {p : Nat} {m : SMap (Option Place)} {k : Nat} (v : Nat) {y : Place} (h : SMap.get none m k = some y) :
    ∃ z, SMap.get none (markSuspended p m v) k = some z ∧ (y.suspended = true ∨ k = 1024 * p + v → z.suspended = true) := by
  unfold markSuspended
  by_cases hk : k = 1024 * p + v
  · subst hk
    rw [h]
    exact ⟨_, SMap.get_put_same _ _ _ _, fun _ => rfl⟩
  · refine ⟨y, ?_, fun hor => hor.resolve_right hk⟩
    split
    · rw [SMap.get_put_other _ _ hk _, h]
    · exact h

theorem markSuspended_all {p : Nat} {l : List Nat} {m : SMap (Option Place)} {v : Nat} {y : Place} (h : SMap.get none m (1024 * p + v) = some y)
    (hv : y.suspended = true ∨ v ∈ l) : ∃ z, SMap.get none (l.foldl (markSuspended p) m) (1024 * p + v) = some z ∧ z.suspended = true := by
  induction l generalizing m y with
  | nil => exact ⟨y, h, hv.resolve_right List.not_mem_nil⟩
  | cons w l ih =>
    obtain ⟨z, hz, hmark⟩ := markSuspended_keeps (p := p) w h
    refine ih hz ?_
    obtain hs | hmem := hv
    · exact .inl (hmark (.inl hs))
    · obtain rfl | hl := List.mem_cons.mp hmem
      · exact .inl (hmark (.inr rfl))
      · exact .inr hl

/-- The valid bindings of a tile. -/
def validBindings (s : State) (u : Nat) : List Binding := (tileAt s u).bindings.filter (fun b => b.valid)

/-- The partition of a tile's first valid binding. -/
def boundPart (s : State) (u : Nat) : Nat := ((validBindings s u).headD {}).part

theorem suspendTile_none {u : Nat} (h : validBindings s u = []) : suspendTile s u = s := by
  unfold suspendTile
  exact if_pos (List.isEmpty_iff.mpr h)

/-- The tiles and the placement as a suspension leaves them. -/
theorem suspendTile_marks {u : Nat} (h : validBindings s u ≠ []) : (suspendTile s u).tiles = s.tiles.set u (rebind { tileAt s u with
      bindings := (tileAt s u).bindings.map (fun b => { b with valid := false }) } (boundPart s u))
    ∧ (suspendTile s u).place = ((validBindings s u).map (fun b => b.vtile)).foldl (markSuspended (boundPart s u)) s.place := by
  have hne : ¬ (List.filter (fun b => b.valid) (tileAt s u).bindings).isEmpty = true := fun he => h (List.isEmpty_iff.mp he)
  unfold suspendTile
  dsimp only
  rw [if_neg hne]
  obtain ⟨htiles, hplace⟩ := (SamePlaces.releasesPass _ _ _).trans (SamePlaces.broadcastInv _ _ none _)
  exact ⟨htiles.trans rfl, hplace.trans rfl⟩

theorem suspendTile_effect (s : State) (u : Nat) : (∀ b ∈ (tileAt (suspendTile s u) u).bindings, b.valid = false) ∧ (∀ k, k ≠ u → tileAt (suspendTile s u) k = tileAt s k)
    ∧ (∀ b x, b ∈ (tileAt s u).bindings → b.valid = true → (∀ c ∈ (tileAt s u).bindings, c.valid = true → c.part = b.part) → SMap.get none s.place (1024 * b.part + b.vtile) = some x →
      ∃ y, SMap.get none (suspendTile s u).place (1024 * b.part + b.vtile) = some y ∧ y.suspended = true) := by
  have hmem {b : Binding} (hb : b ∈ (tileAt s u).bindings) (hvalid : b.valid = true) : b ∈ validBindings s u := List.mem_filter.mpr ⟨hb, hvalid⟩
  by_cases hnone : validBindings s u = []
  · rw [suspendTile_none hnone]
    have hbad {b : Binding} (hb : b ∈ (tileAt s u).bindings) : b.valid = false := by
      by_contra hvalid
      exact absurd (hmem hb (by simpa using hvalid)) (by simp [hnone])
    exact ⟨fun b hb => hbad hb, fun k _ => rfl, fun b x hb hvalid => by simp [hbad hb] at hvalid⟩
  · obtain ⟨htiles, hplace⟩ := suspendTile_marks hnone
    have htile (k : Nat) : tileAt (suspendTile s u) k = tileAt (setTile s u (rebind { tileAt s u with
        bindings := (tileAt s u).bindings.map (fun b => { b with valid := false }) } (boundPart s u))) k := congrArg (fun l => l.getD k {}) htiles
    have hlt : u < s.tiles.length := by
      by_contra hout
      have hdefault : tileAt s u = {} := by rw [tileAt, List.getD_eq_default _ _ (by omega)]
      exact hnone (by rw [validBindings, hdefault]; rfl)
    refine ⟨fun b hb => ?_, fun k hk => (htile k).trans (tileAt_setTile_other s u k _ hk.symm), fun b x hb hvalid hpart hx => ?_⟩
    · rw [htile, tileAt_setTile_same s u _ hlt] at hb
      obtain ⟨c, _, rfl⟩ := List.mem_map.mp hb
      rfl
    · have hhead : boundPart s u = b.part := by
        obtain ⟨c, l, hl⟩ := List.exists_cons_of_ne_nil hnone
        have hc : c ∈ validBindings s u := by rw [hl]; exact List.mem_cons_self
        obtain ⟨hcb, hcv⟩ := List.mem_filter.mp hc
        rw [boundPart, hl]
        exact hpart c hcb hcv
      rw [hplace, hhead]
      exact markSuspended_all hx (.inr (List.mem_map.mpr ⟨b, hmem hb hvalid, rfl⟩))

/-! ### A failed tile, Safe, notices -/

theorem markFailed_effect (s : State) (u : Nat) (hu : u < 0x100) (hin : thicketOff (groveAt s (u / 16)) (u % 16 / 4) = false) :
    (spareFree s (u / 16) = true → (markFailed s u).ckr.engage = s.ckr.engage ++ [(0x100 + u / 16, u)] ∧ (markFailed s u).tiles = s.tiles)
    ∧ (spareFree s (u / 16) = false → markFailed s u = removeThicket s (u / 4)) := by
  have hmark : markFailed s u = if spareFree s (u / 16) then { s with ckr := { s.ckr with
        engage := s.ckr.engage ++ [(0x100 + u / 16, u)]
        passed := SMap.put 0 s.ckr.passed (0x100 + u / 16) 0 } } else removeThicket s (u / 4) :=
    (if_neg (by omega)).trans (if_neg (by simp [hin]))
  refine ⟨fun h => ?_, fun h => hmark.trans (if_neg (by simp [h]))⟩
  rw [hmark, if_pos h]
  exact ⟨rfl, rfl⟩

theorem enterSafe_effect (s : State) (h : inSafe s = false) : (enterSafe s).clr.mode = .safe ∧ (enterSafe s).flt.alert = true ∧ (enterSafe s).slices = [] ∧ working (enterSafe s) = false
    ∧ (∀ x ∈ (enterSafe s).prt.stages, 2 ≤ x.phase) ∧ (enterSafe s).ldg.cnt.safeEntries = satInc 32 s.ldg.cnt.safeEntries ∧ (enterSafe s).flt.returning = s.flt.returning := by
  obtain ⟨_, _, _, _, _, _, _, _, _, henter, hcnt, hstages⟩ := enterSafe_enters h
  rw [henter]
  refine ⟨rfl, rfl, rfl, ?_, hstages, hcnt, rfl⟩
  simp [working, inSafe]

theorem enterSafe_inSafe (s : State) (h : inSafe s = true) : (s.flt.returning = none → enterSafe s = s)
    ∧ (s.flt.returning ≠ none → enterSafe s = { s with flt := { s.flt with reenter := true } }) :=
  ⟨fun hr => (if_pos h).trans (if_neg (by simp [hr])), fun hr => (if_pos h).trans (if_pos (Option.isSome_iff_ne_none.mpr hr))⟩

theorem noticeFn_cases (s : State) (port fn : Nat) (n : Notice) (hn : n = SMap.get {} s.flt.notices (fnKey port fn)) :
    ((∀ t, n.last = some t → t + 16000 ≤ now s) →
      noticeFn s (port, fn) = signalVec { s with flt := { s.flt with notices := SMap.put {} s.flt.notices (fnKey port fn) { last := some (now s) } } } port fn 0)
    ∧ (∀ t, n.last = some t → now s < t + 16000 →
      noticeFn s (port, fn) = { s with flt := { s.flt with notices := SMap.put {} s.flt.notices (fnKey port fn) { n with deferred := true } } }) := by
  subst hn
  unfold noticeFn
  dsimp only
  cases hlast : (SMap.get {} s.flt.notices (fnKey port fn)).last with
  | none => exact ⟨fun _ => if_pos rfl, fun t h => absurd h (by simp)⟩
  | some t =>
    refine ⟨fun h => if_pos (decide_eq_true (h t rfl)), fun t' ht hlate => ?_⟩
    obtain rfl := Option.some.inj ht
    exact if_neg (by simpa using hlate)

theorem exec_noticeIntervalEnd {port fn t : Nat} {n : Notice} (hclk : clocked s = true) (hn : n = SMap.get {} s.flt.notices (fnKey port fn)) (hdef : n.deferred = true)
    (hlast : n.last = some t) (htime : t + 16000 ≤ now s) : exec (.noticeIntervalEnd port fn) s
      = .next (kept s (noticeFn { s with flt := { s.flt with notices := SMap.put {} s.flt.notices (fnKey port fn) { n with deferred := false } } } (port, fn))) := by
  subst hn
  refine settled_of_eq ?_
  unfold noticeEnd
  dsimp only
  rw [hdef, hlast]
  exact if_pos (by simp [hclk, htime])

theorem raiseNotices_cases (s : State) (e : KindEntry) (ps : List Nat) :
    (e.notify = false → e.notifyPc = false → raiseNotices s e ps = s)
    ∧ (e.notify = false → e.notifyPc = true → raiseNotices s e ps = { s with flt := { s.flt with alert := true } })
    ∧ (e.notify = true → e.notifyPc = false → raiseNotices s e ps = noticeAll s ((0, 0) :: (1, 0) :: (ps.flatMap (fnsOf s)).filter (fun x => x.2 != 0))) := by
  refine ⟨fun h hpc => ?_, fun h hpc => ?_, fun h hpc => ?_⟩ <;> unfold raiseNotices <;> rw [h, hpc] <;> rfl

theorem reactions_holds : Reactions :=
  ⟨quarantine_effect, excludeTile_effect, fun _ _ _ h hfw hclk hsafe => exec_quarantineFollowUp h hfw hclk hsafe, suspendTile_effect, markFailed_effect, enterSafe_effect,
    enterSafe_inSafe, fun _ _ _ _ _ hclk hn hdef hlast htime => exec_noticeIntervalEnd hclk hn hdef hlast htime, noticeFn_cases, raiseNotices_cases⟩

/-- Settles O56: the processing of a message, and the reactions and notices. -/
theorem faultMessages : Obligations.FaultMessages := ⟨faultProcessing_holds, reactions_holds⟩

end Sys2Proof.Machine
end

section
/-! PROOF. Host links and functions (R373, R374, R380, R384 to R386, R389, R392, R506; log entry 31): what a function's reset leaves. -/

namespace Sys2Proof.Machine

variable {s t x : State} {b f : Nat}

/-! ### The tables of the ports -/

theorem fnAt_setFn_same (s : State) (b f : Nat) (y : Fn) : fnAt (setFn s b f y) b f = y := SMap.get_put_same _ _ _ _

theorem fnAt_setFn_other (s : State) {b f g : Nat} (h : g ≠ f) (y : Fn) : fnAt (setFn s b f y) b g = fnAt s b g :=
  SMap.get_put_other _ _ (by unfold fnKey; omega) _

theorem hifAt_setHif_same (s : State) {b : Nat} (h : b < s.hif.length) (y : Hif) : hifAt (setHif s b y) b = y := by
  rw [hifAt, setHif, List.getD_eq_getElem?_getD, List.getElem?_set_self h]
  rfl

theorem hifAt_setHif_other (s : State) {b k : Nat} (h : k ≠ b) (y : Hif) : hifAt (setHif s b y) k = hifAt s k := by
  rw [hifAt, hifAt, setHif, List.getD_eq_getElem?_getD, List.getElem?_set_ne h.symm, List.getD_eq_getElem?_getD]

/-- A port beyond the table reads as its default, whatever is written. -/
theorem hifAt_setHif_beyond (s : State) {b : Nat} (h : s.hif.length ≤ b) (y : Hif) : hifAt (setHif s b y) b = hifAt s b := by
  rw [hifAt, hifAt, setHif, List.set_eq_of_length_le h]

theorem fnAt_setHif (s : State) (k : Nat) (y : Hif) (b g : Nat) : fnAt (setHif s k y) b g = fnAt s b g := rfl

theorem setHif_length (s : State) (b : Nat) (y : Hif) : (setHif s b y).hif.length = s.hif.length := List.length_set

/-- A bridge's registers with other accesses, copies and translations. -/
def Hif.sameLinks (h h' : Hif) : Prop := ∃ accs copies left atc, h' = { h with accs := accs, copies := copies, copyLeft := left, atc := atc }

/-- `t` has the functions of `s`, and its ports but for their accesses, copies and translations. -/
def FnWork (s t : State) : Prop := t.fns = s.fns ∧ t.hif.length = s.hif.length ∧ ∀ k, (hifAt s k).sameLinks (hifAt t k)

namespace FnWork

theorem refl (s : State) : FnWork s s := ⟨rfl, rfl, fun _ => ⟨_, _, _, _, rfl⟩⟩

theorem trans (h : FnWork s t) (h' : FnWork t x) : FnWork s x := by
  obtain ⟨hfns, hlen, hhif⟩ := h
  obtain ⟨hfns', hlen', hhif'⟩ := h'
  refine ⟨hfns'.trans hfns, hlen'.trans hlen, fun k => ?_⟩
  obtain ⟨_, _, _, _, hk⟩ := hhif k
  obtain ⟨accs, copies, left, atc, hk'⟩ := hhif' k
  exact ⟨accs, copies, left, atc, by rw [hk', hk]⟩

theorem of_eq (hfns : t.fns = s.fns) (hhif : t.hif = s.hif) : FnWork s t :=
  ⟨hfns, congrArg List.length hhif, fun k => ⟨(hifAt s k).accs, (hifAt s k).copies, (hifAt s k).copyLeft, (hifAt s k).atc, congrArg (fun l => l.getD k {}) hhif⟩⟩

theorem setHif {y : Hif} (h : (hifAt s b).sameLinks y) : FnWork s (Machine.setHif s b y) := by
  refine ⟨rfl, setHif_length s b y, fun k => ?_⟩
  by_cases hk : k = b
  · subst hk
    obtain hlt | hge := Nat.lt_or_ge k s.hif.length
    · rw [hifAt_setHif_same s hlt]
      exact h
    · rw [hifAt_setHif_beyond s hge]
      exact ⟨_, _, _, _, rfl⟩
  · rw [hifAt_setHif_other s hk]
    exact ⟨_, _, _, _, rfl⟩

theorem copyForget (s : State) (b : Nat) : FnWork s (Machine.copyForget s b) := by
  unfold Machine.copyForget
  exact setHif ⟨_, _, _, _, rfl⟩

theorem atcDrop (s : State) (b f : Nat) : FnWork s (Machine.atcDrop s b f) := by
  unfold Machine.atcDrop
  exact setHif ⟨_, _, _, _, rfl⟩

theorem ringsApply (s : State) (p : RingSet → Bool) (g : RingSet → RingSet) : FnWork s (Machine.ringsApply s p g) := by
  unfold Machine.ringsApply
  refine trans ?_ ((copyForget _ 0).trans (copyForget _ 1))
  refine ⟨rfl, List.length_map _, fun k => ?_⟩
  unfold hifAt
  dsimp only
  rw [List.getD_eq_getElem?_getD, List.getD_eq_getElem?_getD, List.getElem?_map]
  cases s.hif[k]? with
  | none => exact ⟨_, _, _, _, rfl⟩
  | some h => exact ⟨_, h.copies, h.copyLeft, h.atc, rfl⟩

end FnWork

theorem startPurge_keeps (s : State) (unit rq part : Nat) : (startPurge s unit rq part).fns = s.fns ∧ (startPurge s unit rq part).hif = s.hif
    ∧ (startPurge s unit rq part).rings = s.rings := by
  unfold startPurge
  refine List.foldlRecOn _ _ (motive := fun y : State => y.fns = s.fns ∧ y.hif = s.hif ∧ y.rings = s.rings) ⟨rfl, rfl, rfl⟩ ?_
  intro y hy u _
  exact hy

theorem ringsApply_rings (s : State) (p : RingSet → Bool) (g : RingSet → RingSet) :
    (ringsApply s p g).rings = s.rings.map (fun x => if p x.2 then (x.1, g x.2) else x) := by
  unfold ringsApply
  dsimp only
  rw [copyForget_rings, copyForget_rings]

/-! ### A function quits (R385) -/

/-- The ring sets of a function. -/
def ringOf (b f : Nat) (r : RingSet) : Bool := r.alloc && decide (r.port = b) && decide (r.fn = f)

/-- The state of a function that quits before its translations go. -/
def quitting (s : State) (b f : Nat) : State :=
  match (fnAt s b f).part with
  | some p => startPurge (ringsApply s (ringOf b f) ringReset) (bridgeUnit b) (rqId (bridgeUnit b) (fnSub f)) p
  | none => ringsApply s (ringOf b f) ringReset

theorem fnQuit_eq (s : State) (b f : Nat) : fnQuit s b f = atcDrop (quitting s b f) b f := rfl

theorem quitting_work (s : State) (b f : Nat) : FnWork s (quitting s b f)
    ∧ (quitting s b f).rings = s.rings.map (fun x => if ringOf b f x.2 then (x.1, ringReset x.2) else x) := by
  unfold quitting
  split
  · next p _ =>
    obtain ⟨hfns, hhif, hrings⟩ := startPurge_keeps (ringsApply s (ringOf b f) ringReset) (bridgeUnit b) (rqId (bridgeUnit b) (fnSub f)) p
    exact ⟨(FnWork.ringsApply s _ _).trans (FnWork.of_eq hfns hhif), hrings.trans (ringsApply_rings s _ _)⟩
  · exact ⟨FnWork.ringsApply s _ _, ringsApply_rings s _ _⟩

/-- No ring set of a function that quits stays in use. -/
def FnSilent (t : State) (b f : Nat) : Prop :=
  (∀ e ∈ (hifAt t b).atc, e.fn ≠ f) ∧ ∀ x ∈ t.rings, x.2.alloc = true → x.2.port = b → x.2.fn = f → x.2.state = 0

theorem ringReset_silences {l : List (Nat × RingSet)} {x : Nat × RingSet} (hx : x ∈ l.map (fun x => if ringOf b f x.2 then (x.1, ringReset x.2) else x))
    (halloc : x.2.alloc = true) (hport : x.2.port = b) (hfn : x.2.fn = f) : x.2.state = 0 := by
  obtain ⟨y, _, rfl⟩ := List.mem_map.mp hx
  by_cases hy : ringOf b f y.2 = true
  · rw [if_pos hy]
    rfl
  · rw [if_neg hy] at halloc hport hfn
    exact absurd (by simp [ringOf, halloc, hport, hfn]) hy

theorem fnQuit_effect (s : State) (f : Nat) (hb : b < s.hif.length) : FnWork s (fnQuit s b f) ∧ FnSilent (fnQuit s b f) b f := by
  obtain ⟨hwork, hrings⟩ := quitting_work s b f
  rw [fnQuit_eq]
  refine ⟨hwork.trans (FnWork.atcDrop _ b f), fun e he => ?_, fun x hx halloc hport hfn => ?_⟩
  · rw [atcDrop, hifAt_setHif_same _ (by rw [hwork.2.1]; exact hb)] at he
    simpa using (List.mem_filter.mp he).2
  · exact ringReset_silences (hrings ▸ hx : x ∈ _) halloc hport hfn

theorem fnOrphan_work (s : State) (b f kind : Nat) : FnWork s (fnOrphan s b f kind) := by
  unfold fnOrphan
  split
  · exact FnWork.of_eq rfl rfl
  · exact FnWork.refl s

theorem fnStop_effect (s : State) (f : Nat) (hb : b < s.hif.length) : FnWork s (fnStop s b f) ∧ FnSilent (fnStop s b f) b f := by
  have horphan := fnOrphan_work s b f Kind.hostFunctionReset
  obtain ⟨hwork, hsilent⟩ := fnQuit_effect (fnOrphan s b f Kind.hostFunctionReset) f (b := b) (by rw [horphan.2.1]; exact hb)
  exact ⟨horphan.trans hwork, hsilent⟩

/-! ### Resets (R385, R386) -/

/-- Ports and functions after resets of functions: the functions of `l` are reset, and the ports keep their links and registers. -/
def FnsReset (s t : State) (b : Nat) (l : List Nat) : Prop :=
  t.hif.length = s.hif.length ∧ (∀ k, (hifAt s k).sameLinks (hifAt t k)) ∧ ∀ g, fnAt t b g = if g ∈ l then afterFnReset (fnAt s b g) else fnAt s b g

theorem fnReset_resets (s : State) (f : Nat) (hb : b < s.hif.length) : FnsReset s (fnReset s b f) b [f] ∧ FnSilent (fnReset s b f) b f := by
  obtain ⟨⟨hfns, hlen, hhif⟩, hsilent⟩ := fnStop_effect s f hb
  have hat (g : Nat) : fnAt (fnStop s b f) b g = fnAt s b g := congrArg (fun m => SMap.get ({} : Fn) m (fnKey b g)) hfns
  refine ⟨⟨hlen, hhif, fun g => ?_⟩, hsilent⟩
  by_cases hg : g = f
  · subst hg
    rw [if_pos List.mem_cons_self, fnReset, fnConfigReset, fnAt_setFn_same, hat]
    rfl
  · rw [if_neg (by simp [hg]), fnReset, fnConfigReset, fnAt_setFn_other _ hg, hat]

theorem fnsReset_fold (l : List Nat) (s : State) (hb : b < s.hif.length) : FnsReset s (l.foldl (fun s f => fnReset s b f) s) b l := by
  induction l generalizing s with
  | nil => exact ⟨rfl, fun _ => ⟨_, _, _, _, rfl⟩, fun g => (if_neg List.not_mem_nil).symm⟩
  | cons f l ih =>
    obtain ⟨⟨hlen, hhif, hfns⟩, _⟩ := fnReset_resets s f hb
    obtain ⟨hlen', hhif', hfns'⟩ := ih (fnReset s b f) (by rw [hlen]; exact hb)
    refine ⟨hlen'.trans hlen, fun k => ?_, fun g => ?_⟩
    · obtain ⟨_, _, _, _, hk⟩ := hhif k
      obtain ⟨accs, copies, left, atc, hk'⟩ := hhif' k
      exact ⟨accs, copies, left, atc, by rw [List.foldl_cons, hk', hk]⟩
    · rw [List.foldl_cons, hfns', hfns]
      by_cases hgf : g = f
      · subst hgf
        simp only [List.mem_cons, true_or, if_true, List.not_mem_nil, or_false]
        split
        · rfl
        · rfl
      · simp [hgf]

/-- A port's reset: every function, and VF Enable. -/
theorem portReset_resets (s : State) (hb : b < s.hif.length) : (portReset s b).hif.length = s.hif.length ∧ (∀ g, g ≤ 16 → fnAt (portReset s b) b g = afterFnReset (fnAt s b g))
    ∧ ∃ accs copies left atc, hifAt (portReset s b) b = { hifAt s b with accs := accs, copies := copies, copyLeft := left, atc := atc, vfEnable := false } := by
  obtain ⟨hlen, hhif, hfns⟩ := fnsReset_fold (List.range 17) s hb
  refine ⟨(setHif_length _ _ _).trans hlen, fun g hg => ?_, ?_⟩
  · rw [portReset, fnAt_setHif, hfns, if_pos (List.mem_range.mpr (by omega))]
  obtain ⟨accs, copies, left, atc, h⟩ := hhif b
  refine ⟨accs, copies, left, atc, ?_⟩
  rw [portReset, hifAt_setHif_same _ (by rw [hlen]; exact hb), h]

end Sys2Proof.Machine
end

section
/-! PROOF. Host links, functions and the messages of the ports (R373, R374, R379, R380, R384 to R386, R388, R389, R391 to R393, R506). -/

namespace Sys2Proof.Machine

variable {s : State} {b h f : Nat}

/-! ### Links -/

section Train
variable {speed width : Nat}

/-- A training that its partners agree on is made, and recorded where it is below the last. -/
theorem hostLinkUp_trains (hrel : portReleased s b = true) (hhalf : halfOk s b h = true) (hlo : 1 ≤ speed) (hhi : speed ≤ 6) (hw : width ∈ [1, 2, 4, 8, 16])
    (hmax : width ≤ (if (hifAt s b).bifurcated then 8 else 16)) (cxl flit : Bool) : hostLinkUp s b h cxl flit speed width
      = if (linkHalf s b h).lastSpeed ≠ 0 ∧ (speed < (linkHalf s b h).lastSpeed ∨ width < (linkHalf s b h).lastWidth) then
          raise (setHLink s b h (trained s b h cxl flit speed width)) Kind.hostLinkDegraded (rqId (portUnit b) 0) none 0 h
        else setHLink s b h (trained s b h cxl flit speed width) := by
  have hwidth : [1, 2, 4, 8, 16].contains width = true := List.contains_iff_mem.mpr hw
  have hspeed0 : decide (speed = 0) = false := decide_eq_false (by omega)
  have hspeed6 : decide (6 < speed) = false := decide_eq_false (by omega)
  have hfits : decide ((if (hifAt s b).bifurcated then 8 else 16) < width) = false := decide_eq_false (Nat.not_lt.mpr hmax)
  refine if_neg ?_
  rw [hrel, hhalf, hspeed0, hspeed6, hwidth, hfits]
  decide

end Train

theorem halfOk_lt (hhalf : halfOk s b h = true) : b < 2 ∧ h < 2 := by
  simp only [halfOk, Bool.and_eq_true, Bool.or_eq_true, decide_eq_true_eq] at hhalf
  omega

theorem linkHalf_setHLink (hb : b < s.hif.length) (hh : h < (hifAt s b).links.length) (l : HLink) : linkHalf (setHLink s b h l) b h = l := by
  rw [linkHalf, setHLink, hifAt_setHif_same s hb, List.getD_eq_getElem?_getD, List.getElem?_set_self hh]
  rfl

/-- A link as it is when it has gone down. -/
def downLink (l : HLink) : HLink :=
  { l with up := false, cxl := false, flit := false, speed := 0, width := 0, downEvents := (l.downEvents + 1) % 2 ^ 16 }

/-- The state with a link down and the record of it. -/
def downRecorded (s : State) (b h : Nat) : State :=
  raise (setHLink s b h (downLink (linkHalf s b h))) Kind.hostLinkDown (rqId (portUnit b) 0) none 0 h

theorem exec_hostLinkDown (hclk : clocked s = true) (hhalf : halfOk s b h = true) (hup : (linkHalf s b h).up = true) :
    exec (.hostLinkDown b h) s = .next (kept s (if h = 0 then portReset (downRecorded s b h) b else downRecorded s b h)) := by
  have hhost : hostLinkDown s b h = linkDown s b h := if_pos (by simp [hclk, hhalf])
  have hdown : linkDown s b h = if h = 0 then portReset (downRecorded s b h) b else downRecorded s b h := if_neg (by simp [hup])
  exact settled_of_eq (hhost.trans hdown)

theorem hifAt_kept (s t : State) (b : Nat) : hifAt (kept s t) b = hifAt t b := rfl

theorem linkHalf_kept (s t : State) (b h : Nat) : linkHalf (kept s t) b h = linkHalf t b h := rfl

theorem rings_kept (s t : State) : (kept s t).rings = t.rings := rfl

theorem inbox_kept (s t : State) : (kept s t).flt.inbox = t.flt.inbox := rfl

theorem fnAt_kept (s t : State) (b f : Nat) : fnAt (kept s t) b f = fnAt t b f := rfl

theorem fnAt_downRecorded (s : State) (b h f : Nat) : fnAt (downRecorded s b h) b f = fnAt s b f := rfl

/-- The message that a link gone down raises. -/
theorem downRecorded_raises (s : State) (b h : Nat) : ∃ m, (downRecorded s b h).flt.inbox = s.flt.inbox ++ [m] ∧ m.head % 1024 = Kind.hostLinkDown := by
  refine ⟨_, rfl, ?_⟩
  dsimp only
  rw [faultHead_kind]
  rfl

theorem hostLinkDown_effect (hclk : clocked s = true) (hhalf : halfOk s b h = true) (hup : (linkHalf s b h).up = true) (hlen : s.hif.length = 2)
    (hlinks : (hifAt s b).links.length = 2) : Leaves (.hostLinkDown b h) s (fun t => linkHalf t b h = downLink (linkHalf s b h)
        ∧ (h = 0 → (hifAt t b).vfEnable = false ∧ ∀ f, f ≤ 16 → fnAt t b f = afterFnReset (fnAt s b f))
        ∧ (h = 1 → t.fns = s.fns ∧ t.rings = s.rings)
        ∧ ∃ m l, t.flt.inbox = s.flt.inbox ++ m :: l ∧ m.head % 1024 = Kind.hostLinkDown) := by
  obtain ⟨hb2, hh2⟩ := halfOk_lt hhalf
  have hb : b < s.hif.length := by omega
  have hlink : linkHalf (downRecorded s b h) b h = downLink (linkHalf s b h) := linkHalf_setHLink hb (by omega) _
  have hdlen : (downRecorded s b h).hif.length = s.hif.length := setHif_length s b _
  obtain ⟨m, hm, hkind⟩ := downRecorded_raises s b h
  have hexec := exec_hostLinkDown hclk hhalf hup
  by_cases h0 : h = 0
  · subst h0
    rw [if_pos rfl] at hexec
    obtain ⟨_, hfns, accs, copies, left, atc, hhif⟩ := portReset_resets (downRecorded s b 0) (b := b) (by omega)
    obtain ⟨_, _, _, _, _, _, _, _, _, ms, hwork⟩ := PortWork.portReset (downRecorded s b 0) b
    refine ⟨_, hexec, ?_, fun _ => ⟨?_, fun f hf => ?_⟩, fun h1 => absurd h1 (by decide), m, ms, ?_, hkind⟩
    · rw [linkHalf_kept]
      exact (congrArg (fun y : Hif => y.links.getD 0 {}) hhif).trans hlink
    · rw [hifAt_kept, hhif]
    · rw [fnAt_kept, hfns f hf, fnAt_downRecorded]
    · have hin : (portReset (downRecorded s b 0) b).flt.inbox = (downRecorded s b 0).flt.inbox ++ ms := congrArg (fun y : State => y.flt.inbox) hwork
      rw [inbox_kept, hin, hm, List.append_assoc]
      rfl
  · rw [if_neg h0] at hexec
    exact ⟨_, hexec, hlink, fun h1 => absurd h1 h0, fun _ => ⟨rfl, rfl⟩, m, [], hm, hkind⟩

theorem exec_hostLinkError (hclk : clocked s = true) (hhalf : halfOk s b h = true) (hup : (linkHalf s b h).up = true) (viral : Bool)
    (hviral : viral = true → (linkHalf s b h).cxl = true) :
    exec (.hostLinkError b h viral) s = .next (kept s (raise (setHLink s b h { linkHalf s b h with linkErrors := ((linkHalf s b h).linkErrors + 1) % 2 ^ 16 })
      Kind.hostLinkError (rqId (portUnit b) 0) none 0 h)) := by
  refine settled_of_eq (if_neg ?_)
  cases viral with
  | false => simp [hclk, hhalf, hup]
  | true => simp [hclk, hhalf, hup, hviral rfl]

theorem hostLinks_holds : HostLinks := by
  refine ⟨fun s t b h speed width cxl flit hrel hhalf hlo hhi hw hmax ht => ⟨fun hsame => settled_of_eq ?_, fun hlast hbelow => settled_of_eq ?_⟩,
    fun s b h hclk hhalf hup hlen hlinks => hostLinkDown_effect hclk hhalf hup hlen hlinks, fun s b h viral hclk hhalf hup hviral => exec_hostLinkError hclk hhalf hup viral hviral⟩
  · rw [hostLinkUp_trains hrel hhalf hlo hhi hw hmax, if_neg (by omega), ht]
    rfl
  · rw [hostLinkUp_trains hrel hhalf hlo hhi hw hmax, if_pos ⟨hlast, hbelow⟩, ht]
    rfl

/-! ### Function resets -/

theorem fnPresent_lt (h : fnPresent s b f = true) : b < 2 ∧ f ≤ 16 := by
  simp only [fnPresent, Bool.and_eq_true, Bool.or_eq_true, decide_eq_true_eq] at h
  omega

theorem functionResets (hp : fnPresent s b f = true) (hlen : s.hif.length = 2) :
    (f ≠ 0 → Leaves (.functionLevelReset b f) s (fun t => fnAt t b f = afterFnReset (fnAt s b f) ∧ (∀ g, g ≤ 16 → g ≠ f → fnAt t b g = fnAt s b g)
        ∧ (∀ e ∈ (hifAt t b).atc, e.fn ≠ f) ∧ (∀ x ∈ t.rings, x.2.alloc = true → x.2.port = b → x.2.fn = f → x.2.state = 0)))
    ∧ (f = 0 → Leaves (.pfFunctionLevelReset b) s (fun t => (∀ g, g ≤ 16 → fnAt t b g = afterFnReset (fnAt s b g)) ∧ (hifAt t b).vfEnable = false
        ∧ (hifAt t b).cplErrors = 0 ∧ (hifAt t b).xlateFaults = 0 ∧ (hifAt t b).ideFailures = 0 ∧ (hifAt t b).discardedCpl = 0
        ∧ (hifAt t b).hits = 0 ∧ (hifAt t b).misses = 0 ∧ (hifAt t b).invals = 0))
    ∧ ((fnAt s b f).bme = true → Leaves (.busMasterEnableClear b f) s (fun t => fnAt t b f = { fnAt s b f with bme := false }
        ∧ (∀ e ∈ (hifAt t b).atc, e.fn ≠ f) ∧ (∀ x ∈ t.rings, x.2.alloc = true → x.2.port = b → x.2.fn = f → x.2.state = 0))) := by
  have hb : b < s.hif.length := by have := fnPresent_lt hp; omega
  refine ⟨fun hf => ?_, fun hf => ?_, fun hbme => ?_⟩
  · obtain ⟨⟨_, _, hfns⟩, hatc, hrings⟩ := fnReset_resets s f hb
    refine ⟨_, settled_of_eq (if_pos (by simp [hp, hf])), ?_⟩
    beta_reduce
    simp only [fnAt_kept, hifAt_kept, rings_kept]
    exact ⟨(hfns f).trans (if_pos List.mem_cons_self), fun g _ hg => (hfns g).trans (if_neg (by simp [hg])), hatc, hrings⟩
  · subst hf
    obtain ⟨hplen, hfns, accs, copies, left, atc, hhif⟩ := portReset_resets s hb
    have hzero : hifAt (setHif (portReset s b) b (hifCountersZero (hifAt (portReset s b) b))) b
        = hifCountersZero { hifAt s b with accs := accs, copies := copies, copyLeft := left, atc := atc, vfEnable := false } := by
      rw [hifAt_setHif_same _ (by omega), hhif]
    refine ⟨_, settled_of_eq (if_pos hp), fun g hg => ?_, ?_⟩
    · rw [fnAt_kept, fnAt_setHif, hfns g hg]
    rw [hifAt_kept, hzero]
    exact ⟨rfl, rfl, rfl, rfl, rfl, rfl, rfl, rfl⟩
  · obtain ⟨⟨hfns, _, _⟩, hatc, hrings⟩ := fnStop_effect (setFn s b f { fnAt s b f with bme := false }) f hb
    refine ⟨_, settled_of_eq (if_pos (by simp [hp, hbme])), ?_⟩
    beta_reduce
    simp only [fnAt_kept, hifAt_kept, rings_kept]
    refine ⟨?_, hatc, hrings⟩
    exact (congrArg (fun m => SMap.get ({} : Fn) m (fnKey b f)) hfns).trans (fnAt_setFn_same s b f _)

/-! ### Configuration requests -/

theorem configurationRequests (r : CfgReq) (hclk : clocked s = true) (hb : b < 2) (hup : (linkHalf s b (cfgHalf r)).up = true) :
    (s.clr.service = 0 → exec (.configurationRequest b f r) s = .next (kept s (emit s (.cfg b f 2))))
    ∧ (s.clr.service ≠ 0 → cfgPresent s b f (cfgHalf r) = false → exec (.configurationRequest b f r) s = .next (kept s (emit s (.cfg b f 1))))
    ∧ (s.clr.service ≠ 0 → cfgPresent s b f (cfgHalf r) = true → exec (.configurationRequest b f r) s = .next (kept s (emit (cfgApply s b f r) (.cfg b f 0)))) := by
  have hpass : ¬ (!(clocked s) || !(decide (b < 2)) || !(linkHalf s b (cfgHalf r)).up) = true := by simp [hclk, hb, hup]
  refine ⟨fun h => settled_of_eq ?_, fun h hp => settled_of_eq ?_, fun h hp => settled_of_eq ?_⟩ <;> unfold configurationRequest <;> rw [if_neg hpass]
  · rw [if_pos h]
  · rw [if_neg h, if_pos (by simp [hp])]
  · rw [if_neg h, if_neg (by simp [hp])]

/-- Pending messages that are sent leave the functions but for what is pending, and the ports. -/
theorem sendPending_fn (s : State) (b f : Nat) : ∃ l, fnAt (sendPending s b f) b f = { fnAt s b f with pend := l } := by
  unfold sendPending
  split
  · exact ⟨_, rfl⟩
  · have hemit (l : List Nat) (t : State) : (l.foldl (fun s v => emit s (.msix b f v)) t).fns = t.fns :=
      List.foldlRecOn l _ (motive := fun y : State => y.fns = t.fns) rfl (fun y hy _ _ => hy)
    refine ⟨(fnAt s b f).pend.filter (fun v => !(vecOpen (fnAt s b f) v)), ?_⟩
    dsimp only
    exact (congrArg (fun m => SMap.get ({} : Fn) m (fnKey b f)) (hemit _ _)).trans (fnAt_setFn_same s b f _)

theorem cfgApply_cases (s : State) (b f : Nat) :
    (∀ on, cfgApply s b f (.pasid on) = setFn s b f { fnAt s b f with pasidEn := on })
    ∧ cfgApply s b f (.busMaster true) = setFn s b f { fnAt s b f with bme := true }
    ∧ cfgApply s b f (.ats true) = setFn s b f { fnAt s b f with atsEn := true }
    ∧ ((fnAt (cfgApply s b f (.ats false)) b f).atsEn = false ∧ (b < s.hif.length → ∀ e ∈ (hifAt (cfgApply s b f (.ats false)) b).atc, e.fn ≠ f))
    ∧ (b < s.hif.length → (hifAt (cfgApply s b 0 (.vfEnable true)) b).vfEnable = true ∧ (hifAt (cfgApply s b 0 (.vfEnable false)) b).vfEnable = false)
    ∧ (f ≠ 0 → ∀ on, cfgApply s b f (.vfEnable on) = s)
    ∧ (∀ on, (fnAt (cfgApply s b f (.msixEnable on)) b f).msixEn = on ∧ (fnAt (cfgApply s b f (.functionMask on)) b f).fnMask = on)
    ∧ (∀ us, b < s.hif.length → (hifAt (cfgApply s b f (.cplTimeout us)) b).cplTimeout = if 50 ≤ us ∧ us ≤ 64000000 then us else (hifAt s b).cplTimeout)
    ∧ (∀ half reg, cfgApply s b f (.read half reg) = emit s (.cfgData b f half (cfgRead s b f half reg))) := by
  refine ⟨fun on => rfl, rfl, rfl, ⟨?_, fun hb e he => ?_⟩, fun hb => ⟨?_, ?_⟩, fun hf on => if_pos hf, fun on => ⟨?_, ?_⟩, fun us hb => ?_, fun half reg => rfl⟩
  · have hats : cfgApply s b f (.ats false) = atcDrop (setFn s b f { fnAt s b f with atsEn := false }) b f := rfl
    rw [hats, atcDrop, fnAt_setHif, fnAt_setFn_same]
  · have hats : cfgApply s b f (.ats false) = atcDrop (setFn s b f { fnAt s b f with atsEn := false }) b f := rfl
    rw [hats, atcDrop, hifAt_setHif_same (setFn s b f { fnAt s b f with atsEn := false }) hb] at he
    simpa using (List.mem_filter.mp he).2
  · have hon : cfgApply s b 0 (.vfEnable true) = setHif s b { hifAt s b with vfEnable := true } := rfl
    rw [hon, hifAt_setHif_same s hb]
  · obtain ⟨hlen, _, _⟩ := fnsReset_fold ((List.range 16).map (· + 1)) s hb
    rw [List.foldl_map] at hlen
    have hoff : cfgApply s b 0 (.vfEnable false) = setHif ((List.range 16).foldl (fun s k => fnReset s b (k + 1)) s) b
        { hifAt ((List.range 16).foldl (fun s k => fnReset s b (k + 1)) s) b with vfEnable := false } := rfl
    rw [hoff, hifAt_setHif_same _ (by omega)]
  · obtain ⟨l, hl⟩ := sendPending_fn (setFn s b f { fnAt s b f with msixEn := on }) b f
    have hset : cfgApply s b f (.msixEnable on) = sendPending (setFn s b f { fnAt s b f with msixEn := on }) b f := rfl
    rw [hset, hl, fnAt_setFn_same]
  · obtain ⟨l, hl⟩ := sendPending_fn (setFn s b f { fnAt s b f with fnMask := on }) b f
    have hset : cfgApply s b f (.functionMask on) = sendPending (setFn s b f { fnAt s b f with fnMask := on }) b f := rfl
    rw [hset, hl, fnAt_setFn_same]
  · unfold cfgApply
    dsimp only
    split
    · rw [hifAt_setHif_same s hb]
    · rfl

theorem cfgRead_cases (s : State) (b f : Nat) :
    cfgRead s b 0 0 .deviceId = [s.clr.part] ∧ (f ≠ 0 → cfgRead s b f 0 .deviceId = [0x72A0]) ∧ cfgRead s b 0 1 .deviceId = [0x72AF]
    ∧ (∀ half, cfgRead s b f half .classCode = [0x120000] ∧ cfgRead s b f half .revisionId = [1] ∧ cfgRead s b f half .interruptPin = [0])
    ∧ cfgRead s b 0 0 .msixTableSize = [64] ∧ (f ≠ 0 → cfgRead s b f 0 .msixTableSize = [(fnAt s b f).vecs])
    ∧ (∀ p, (fnAt s b f).part = some p → cfgRead s b f 0 .dvsec = [s.clr.part + 2 ^ 16 * p + 2 ^ 24 * b])
    ∧ ((fnAt s b f).part = none → cfgRead s b f 0 .dvsec = [s.clr.part + 2 ^ 16 * 0xFF + 2 ^ 24 * b])
    ∧ cfgRead s b f 0 .dvsecCounts = [fnRings s b f, if f = 0 then 64 else (fnAt s b f).vecs] := by
  refine ⟨rfl, fun hf => ?_, rfl, fun half => ⟨rfl, rfl, rfl⟩, rfl, fun hf => ?_, fun p hp => ?_, fun hp => ?_, rfl⟩
  · simp [cfgRead, hf]
  · simp [cfgRead, fnVectors, hf]
  · simp [cfgRead, hp]
  · simp [cfgRead, hp]

theorem hostFunctions_holds : HostFunctions :=
  ⟨fun _ _ _ hp hlen => functionResets hp hlen, fun _ _ _ r hclk hb hup => configurationRequests r hclk hb hup, cfgApply_cases, cfgRead_cases⟩

/-! ### Messages of the ports -/

theorem vendorMessages (t0 fm : Bool) (hopen : PortOpen s b) :
    (b = 0 → f = 0 → fm = true → exec (.vendorDefinedMessage b f t0 fm) s = .next (kept s s))
    ∧ ((b ≠ 0 ∨ f ≠ 0 ∨ fm = false) → t0 = true → exec (.vendorDefinedMessage b f t0 fm) s = .next (kept s (emit s (.unsupported b f))))
    ∧ (t0 = false → exec (.vendorDefinedMessage b f t0 fm) s = .next (kept s s)) := by
  obtain ⟨hclk, hb, hup, hide⟩ := hopen
  have hvdm {x : State} (h : (if b = 0 ∧ f = 0 ∧ fm = true then s else if t0 = true then emit s (.unsupported b f) else s) = x) :
      exec (.vendorDefinedMessage b f t0 fm) s = .next (kept s x) :=
    settled_of_eq ((if_neg (by simp [hclk, hb, hup, hide])).trans h)
  refine ⟨fun h0 hf hfm => hvdm (if_pos ⟨h0, hf, hfm⟩), fun hother ht => hvdm ((if_neg ?_).trans (if_pos ht)), fun ht => hvdm ?_⟩
  · rintro ⟨h0, hf, hfm⟩
    simp [h0, hf, hfm] at hother
  · split
    · rfl
    · exact if_neg (by simp [ht])

theorem exec_ideIntegrityFailure {stream : Nat} (hclk : clocked s = true) (hb : b < 2) (hsecure : (hifAt s b).streams.getD stream 0 = 1) :
    exec (.ideIntegrityFailure b stream) s = .next (raise (setHif s b { hifAt s b with
        streams := (hifAt s b).streams.set stream 2, ideFailures := ((hifAt s b).ideFailures + 1) % 2 ^ 16 })
      Kind.hostIdeFailure (rqId (portUnit b) 0) none 0 (if stream = 5 then 1 else 0)) := by
  refine settled_of_keeps ((if_pos (by rw [hclk, decide_eq_true hb, decide_eq_true hsecure]; rfl)).trans ?_) ⟨rfl, rfl⟩
  by_cases h5 : stream = 5
  · subst h5
    rfl
  · simp [h5, b2n]

/-- IDE_KM with the slot that its request names. -/
theorem ideKm_slot (hp : fnPresent s b 0 = true) (index stream : Nat) : ideKm s b index stream
    = match (if index = 0 ∧ stream ≤ 4 then some stream else if index = 1 ∧ stream = 0 ∧ (hifAt s b).bifurcated then some 5 else none) with
      | some k => emit (setHif s b { hifAt s b with streams := (hifAt s b).streams.set k 1 }) (.ideKm b stream true)
      | none => emit s (.ideKm b stream false) := if_neg (by simp [hp])

theorem ideKmCommands (hp : fnPresent s b 0 = true) (index stream : Nat) :
    (index = 0 → stream ≤ 4 → exec (.ideKm b index stream) s = .next (emit (setHif s b { hifAt s b with streams := (hifAt s b).streams.set stream 1 }) (.ideKm b stream true)))
    ∧ (index = 1 → stream = 0 → (hifAt s b).bifurcated = true →
      exec (.ideKm b index stream) s = .next (emit (setHif s b { hifAt s b with streams := (hifAt s b).streams.set 5 1 }) (.ideKm b stream true)))
    ∧ ((1 < index ∨ (index = 0 ∧ 4 < stream) ∨ (index = 1 ∧ (stream ≠ 0 ∨ (hifAt s b).bifurcated = false))) →
      exec (.ideKm b index stream) s = .next (emit s (.ideKm b stream false))) := by
  refine ⟨fun h0 h4 => settled_of_keeps ?_ ⟨rfl, rfl⟩, fun h1 h0 hbif => settled_of_keeps ?_ ⟨rfl, rfl⟩, fun hbad => settled_of_keeps ?_ ⟨rfl, rfl⟩⟩
  · rw [ideKm_slot hp, if_pos ⟨h0, h4⟩]
  · rw [ideKm_slot hp, if_neg (by omega), if_pos ⟨h1, h0, hbif⟩]
  · have hone : ¬(index = 1 ∧ stream = 0 ∧ (hifAt s b).bifurcated = true) := by
      rintro ⟨h1, h0, hbif⟩
      simp [h1, h0, hbif] at hbad
    rw [ideKm_slot hp, if_neg (by omega), if_neg hone]

theorem sendPending_cases (s : State) (b f : Nat) : (inSafe s = true → sendPending s b f = s)
    ∧ (inSafe s = false → (sendPending s b f).sent = s.sent ++ ((fnAt s b f).pend.filter (fun v => vecOpen (fnAt s b f) v)).map (fun v => .msix b f v)
      ∧ fnAt (sendPending s b f) b f = { fnAt s b f with pend := (fnAt s b f).pend.filter (fun v => !(vecOpen (fnAt s b f) v)) }) := by
  have hemit (l : List Nat) (t : State) : l.foldl (fun s v => emit s (.msix b f v)) t = { t with sent := t.sent ++ l.map (fun v => .msix b f v) } := by
    induction l generalizing t with
    | nil => simp
    | cons v l ih =>
      rw [List.foldl_cons, ih]
      simp [emit]
  refine ⟨fun h => if_pos h, fun h => ?_⟩
  unfold sendPending
  rw [if_neg (by simp [h])]
  dsimp only
  rw [hemit]
  exact ⟨rfl, fnAt_setFn_same s b f _⟩

theorem portMessages_holds : PortMessages := by
  refine ⟨fun s b f t0 fm hopen => vendorMessages t0 fm hopen, fun s b a hopen hcxl => settled_of_eq (if_pos ?_), fun s b stream hclk hb hsecure => exec_ideIntegrityFailure hclk hb hsecure,
    fun s b index stream hp => ideKmCommands hp index stream, fun s b f vec hp hvec => settled_of_eq (if_pos ?_), sendPending_cases⟩
  · obtain ⟨hclk, _, hup, hide⟩ := hopen
    simp [hclk, hup, hide, hcxl]
  · rw [hp, decide_eq_true hvec]
    rfl

/-- Settles O49: host links, functions, and the messages of the ports. -/
theorem hostLinksAndFunctions : Obligations.HostLinksAndFunctions := ⟨hostLinks_holds, hostFunctions_holds, portMessages_holds⟩

end Sys2Proof.Machine
end

section
/-! PROOF. Host accesses (R385, R387 to R391, R401): how an access goes to the host, and how it ends. -/

namespace Sys2Proof.Machine

variable {s : State} {b : Nat} {a : HostAcc}

/-! ### Going to the host -/

theorem hostOp_read (cxl : Bool) (h : a.wr = false) : hostOp cxl a = if cxl then .rdCurr else .memory := by
  unfold hostOp
  rw [h]
  cases cxl <;> rfl

theorem hostOp_write (cxl : Bool) (h : a.wr = true) : hostOp cxl a = if cxl then (if a.addr % 64 = 0 ∧ a.len % 64 = 0 then .itoMWr else .wrCur) else .memory := by
  unfold hostOp
  rw [h]
  cases cxl <;> rfl

/-- A read with a free tag. -/
theorem issueAcc_read (hrd : a.wr = false) (hroom : nonPosted s b < 512) : issueAcc s b a
    = (keepAcc (emit s (.hostRead b a.id a.fn a.pasid a.addr a.len a.translated (if onCache s b a then .rdCurr else .memory))) b
        { a with phase := 2, deadline := now s + cplLimit s b }, .pending) := by
  unfold issueAcc
  dsimp only
  rw [if_neg (by simp [hrd]), if_neg (by omega), hostOp_read _ hrd]

/-- A read without one waits. -/
theorem issueAcc_waits (hrd : a.wr = false) (hfull : 512 ≤ nonPosted s b) : issueAcc s b a = (keepAcc s b { a with phase := 1 }, .pending) := by
  unfold issueAcc
  dsimp only
  rw [if_neg (by simp [hrd]), if_pos hfull]

theorem issueAcc_write (hwr : a.wr = true) : (issueAcc s b a).2 = (if onCache s b a then .pending else .done)
    ∧ (issueAcc s b a).1.sent = s.sent ++ [.hostWrite b a.id a.fn a.pasid a.addr a.data a.poison a.translated
        (if onCache s b a then (if a.addr % 64 = 0 ∧ a.len % 64 = 0 then .itoMWr else .wrCur) else .memory) a.relaxed] := by
  unfold issueAcc
  dsimp only
  rw [if_pos hwr, hostOp_write _ hwr]
  cases onCache s b a with
  | false => exact ⟨rfl, rfl⟩
  | true => exact ⟨rfl, rfl⟩

theorem useAtc_grants {e : Atc} (h : (if a.wr then e.wr else e.rd) = true) :
    useAtc s b a e = issueAcc s b { a with translated := true, addr := e.addr + (a.iova - e.page), ents := [e.id] } := if_pos h

theorem useAtc_refuses {e : Atc} (h : (if a.wr then e.wr else e.rd) = false) :
    useAtc s b a e = (failAcc s b a Kind.hostTranslationFault, .failed Kind.hostTranslationFault) := if_neg (by simp [h])

theorem tryAcc_closed (h : fnActive s b a.fn = false ∨ ideOpen s b 0 = false) :
    tryAcc s b a = (failAcc s b a Kind.hostCompletionError, .failed Kind.hostCompletionError) := by
  refine if_pos ?_
  obtain h | h := h <;> simp [h]

section Try
variable (hfn : fnActive s b a.fn = true) (hide : ideOpen s b 0 = true)
include hfn hide

/-- What a mode or a PASID needs is not enabled. -/
theorem tryAcc_unable (h : (onCache s b a = true ∧ ((fnAt s b a.fn).atsEn = false ∨ (fnAt s b a.fn).pasidEn = false)) ∨ (a.pasid ≠ none ∧ (fnAt s b a.fn).pasidEn = false)) :
    tryAcc s b a = (failAcc s b a Kind.hostTranslationFault, .failed Kind.hostTranslationFault) := by
  unfold tryAcc
  dsimp only
  rw [if_neg (by simp [hfn, hide]), if_pos]
  obtain ⟨hcache, hno | hno⟩ | ⟨hpasid, hno⟩ := h
  · simp [hcache, hno]
  · simp [hcache, hno]
  · simp [Option.isSome_iff_ne_none.mpr hpasid, hno]

theorem tryAcc_untranslated (hcache : onCache s b a = false) (hpasid : a.pasid = none ∨ (fnAt s b a.fn).pasidEn = true) (hats : (fnAt s b a.fn).atsEn = false) :
    tryAcc s b a = issueAcc s b { a with addr := a.iova } := by
  unfold tryAcc
  dsimp only
  rw [if_neg (by simp [hfn, hide]), if_neg, if_pos (by simp [hats])]
  obtain h | h := hpasid <;> simp [hcache, h]

variable (hats : (fnAt s b a.fn).atsEn = true) (hen : (fnAt s b a.fn).pasidEn = true)
include hats hen

/-- With ATS and PASID the translation cache is looked up. -/
theorem tryAcc_translates : tryAcc s b a = match (atcLookup s b a).2 with
    | some e => useAtc (setHif (atcLookup s b a).1 b { hifAt (atcLookup s b a).1 b with hits := ((hifAt (atcLookup s b a).1 b).hits + 1) % 2 ^ 32 }) b a e
    | none =>
      if 512 ≤ nonPosted (atcLookup s b a).1 b then (keepAcc (atcLookup s b a).1 b { a with phase := 1 }, .pending)
      else (keepAcc (emit (setHif (atcLookup s b a).1 b { hifAt (atcLookup s b a).1 b with misses := ((hifAt (atcLookup s b a).1 b).misses + 1) % 2 ^ 16 })
          (.atsRequest b a.id a.fn (atcPasid a) a.iova)) b { a with phase := 0, deadline := now s + cplLimit s b }, .pending) := by
  unfold tryAcc
  dsimp only
  exact (if_neg (by simp [hfn, hide])).trans ((if_neg (by simp [hats, hen])).trans (if_neg (by simp [hats])))

theorem tryAcc_miss (hmiss : atcFind (hifAt s b) a = none) (hroom : nonPosted s b < 512) :
    (tryAcc s b a).2 = .pending ∧ (tryAcc s b a).1.sent = s.sent ++ [.atsRequest b a.id a.fn (a.pasid.getD (2 ^ 20)) a.iova] := by
  have hlook : atcLookup s b a = (s, none) := by
    unfold atcLookup
    dsimp only
    rw [hmiss]
  rw [tryAcc_translates hfn hide hats hen, hlook]
  dsimp only
  rw [if_neg (by omega)]
  exact ⟨rfl, rfl⟩

theorem tryAcc_hit {e : Atc} (hhit : atcFind (hifAt s b) a = some e) (herr : e.err = 0) :
    tryAcc s b a = useAtc (setHif s b { hifAt s b with hits := ((hifAt s b).hits + 1) % 2 ^ 32 }) b a e := by
  have hlook : atcLookup s b a = (s, some e) := by
    unfold atcLookup
    dsimp only
    rw [hhit]
    dsimp only
    rw [herr]
    rfl
  rw [tryAcc_translates hfn hide hats hen, hlook]

end Try

theorem accessStarts_holds : AccessStarts := by
  refine fun s b a => ⟨tryAcc_closed, fun hfn hide => ⟨tryAcc_unable hfn hide, tryAcc_untranslated hfn hide, fun hats hen => tryAcc_miss hfn hide hats hen, fun e hats hen => tryAcc_hit hfn hide hats hen⟩,
    fun hrd hroom => ?_, issueAcc_waits, issueAcc_write, fun e => useAtc_grants, fun e => useAtc_refuses⟩
  rw [issueAcc_read hrd hroom]
  exact ⟨rfl, rfl⟩

/-! ### Translations -/

theorem atsAnswer_refused : atsAnswer s b a none = (failAcc s b a Kind.hostTranslationFault, .failed Kind.hostTranslationFault) := rfl

section Grant
variable (g : AtsGrant)

theorem atsAnswer_grants (hgrant : (if a.wr then g.wr else g.rd) = true) (hlo : g.page ≤ a.iova) (hhi : a.iova < g.page + g.size) :
    atsAnswer s b a (some g) = useAtc (atcFill s b a g).1 b a (atcFill s b a g).2 := by
  unfold atsAnswer
  dsimp only
  rw [if_pos (by simp [hgrant, hlo, hhi])]

theorem atsAnswer_fails (h : (if a.wr then g.wr else g.rd) = false ∨ a.iova < g.page ∨ g.page + g.size ≤ a.iova) :
    atsAnswer s b a (some g) = (failAcc s b a Kind.hostTranslationFault, .failed Kind.hostTranslationFault) := by
  refine if_neg ?_
  simp only [Bool.and_eq_true, decide_eq_true_eq, not_and, not_lt]
  obtain h | h | h := h
  · simp [h]
  · omega
  · exact fun _ => h

/-- The entry that a translation fills. -/
def grantEntry (s : State) (b : Nat) (a : HostAcc) (g : AtsGrant) : Atc :=
  { id := (hifAt s b).nextAtc, fn := a.fn, pasid := a.pasid.getD (2 ^ 20), page := g.page, size := g.size, addr := g.addr, rd := g.rd, wr := g.wr }

theorem atcFill_entry : (atcFill s b a g).2 = grantEntry s b a g := rfl

theorem atcFill_room (hb : b < s.hif.length) (h : (hifAt s b).atc.length < 2048) : (hifAt (atcFill s b a g).1 b).atc = (hifAt s b).atc ++ [grantEntry s b a g] := by
  have hfill : (atcFill s b a g).1 = setHif s b { hifAt s b with atc := (if (hifAt s b).atc.length < 2048 then (hifAt s b).atc else (hifAt s b).atc.eraseIdx ((freeTake s).1 % 2048)) ++ [grantEntry s b a g]
                                                                 nextAtc := (hifAt s b).nextAtc + 1 } := if_pos h
  rw [hfill, hifAt_setHif_same s hb, if_pos h]

theorem atcFill_full (hb : b < s.hif.length) (h : (hifAt s b).atc.length = 2048) :
    (hifAt (atcFill s b a g).1 b).atc.length = 2048 ∧ grantEntry s b a g ∈ (hifAt (atcFill s b a g).1 b).atc := by
  have hnot : ¬ (hifAt s b).atc.length < 2048 := by omega
  have hfill : (atcFill s b a g).1 = setHif (freeTake s).2 b { hifAt s b with atc := (if (hifAt s b).atc.length < 2048 then (hifAt s b).atc else (hifAt s b).atc.eraseIdx ((freeTake s).1 % 2048)) ++ [grantEntry s b a g]
                                                                              nextAtc := (hifAt s b).nextAtc + 1 } := if_neg hnot
  have hlt : (freeTake s).1 % 2048 < (hifAt s b).atc.length := by rw [h]; exact Nat.mod_lt _ (by omega)
  rw [hfill, hifAt_setHif_same (freeTake s).2 hb, if_neg hnot]
  refine ⟨?_, List.mem_append_right _ (List.mem_singleton_self _)⟩
  rw [List.length_append, List.length_eraseIdx_of_lt hlt, h]
  rfl

end Grant

/-! ### Invalidations -/

section Invalidate
variable (f page size itag : Nat) (pasid : Option Nat)

/-- Whether an invalidation takes an entry, as the bridge judges it. -/
def atsTakes (f page size : Nat) (pasid : Option Nat) (e : Atc) : Bool :=
  decide (e.fn = f) && (match pasid with
    | some p => decide (e.pasid = p)
    | none => true) && decide (e.page < page + size) && decide (page < e.page + e.size)

theorem atsTakes_iff (e : Atc) : atsTakes f page size pasid e = true ↔ atsHit f pasid page size e := by
  unfold atsTakes
  cases pasid with
  | none => simp [and_assoc]
  | some p => simp [and_assoc]

/-- The numbers of the accesses that use an entry which an invalidation takes. -/
def atsUsers (s : State) (b f page size : Nat) (pasid : Option Nat) : List Nat :=
  ((hifAt s b).accs.filter (fun a => decide (a.phase = 2)
    && a.ents.any (fun x => (((hifAt s b).atc.filter (atsTakes f page size pasid)).map Atc.id).contains x))).map HostAcc.id

theorem mem_atsUsers (n : Nat) : n ∈ atsUsers s b f page size pasid
    ↔ ∃ a ∈ (hifAt s b).accs, a.id = n ∧ a.phase = 2 ∧ ∃ e ∈ (hifAt s b).atc, atsHit f pasid page size e ∧ e.id ∈ a.ents := by
  simp only [atsUsers, List.mem_map, List.mem_filter, Bool.and_eq_true, decide_eq_true_eq, List.any_eq_true, List.contains_iff_mem, ← atsTakes_iff]
  constructor
  · rintro ⟨a, ⟨ha, hphase, _, hx, e, ⟨he, hhit⟩, rfl⟩, hid⟩
    exact ⟨a, ha, hid, hphase, e, he, hhit, hx⟩
  · rintro ⟨a, ha, hid, hphase, e, he, hhit, hx⟩
    exact ⟨a, ⟨ha, hphase, e.id, hx, e, ⟨he, hhit⟩, rfl⟩, hid⟩

/-- The bridge as an invalidation leaves it. -/
def invalidatedHif (s : State) (b f page size itag : Nat) (pasid : Option Nat) : Hif :=
  { hifAt s b with
    atc := (hifAt s b).atc.filter (fun e => !(atsTakes f page size pasid e))
    invals := ((hifAt s b).invals + 1) % 2 ^ 16
    invWait := if (atsUsers s b f page size pasid).isEmpty then (hifAt s b).invWait else (hifAt s b).invWait ++ [⟨f, itag, atsUsers s b f page size pasid⟩] }

theorem atsInvalidate_eq (hclk : clocked s = true) (hide : ideOpen s b 0 = true) : atsInvalidate s b f pasid page size itag
    = if (atsUsers s b f page size pasid).isEmpty then emit (setHif s b (invalidatedHif s b f page size itag pasid)) (.invalDone b f itag)
      else setHif s b (invalidatedHif s b f page size itag pasid) := if_neg (by simp [hclk, hide])

theorem atsInvalidation (hclk : clocked s = true) (hide : ideOpen s b 0 = true) (hb : b < s.hif.length) :
    Leaves (.atsInvalidationRequest b f pasid page size itag) s (fun t =>
      (∀ e, e ∈ (hifAt t b).atc ↔ (e ∈ (hifAt s b).atc ∧ ¬ atsHit f pasid page size e))
      ∧ (hifAt t b).invals = ((hifAt s b).invals + 1) % 2 ^ 16 ∧ t.rings = s.rings
      ∧ ((∀ a ∈ (hifAt s b).accs, a.phase = 2 → ∀ e ∈ (hifAt s b).atc, atsHit f pasid page size e → e.id ∉ a.ents) →
        t.sent = s.sent ++ [.invalDone b f itag] ∧ (hifAt t b).invWait = (hifAt s b).invWait)
      ∧ ((∃ a ∈ (hifAt s b).accs, a.phase = 2 ∧ ∃ e ∈ (hifAt s b).atc, atsHit f pasid page size e ∧ e.id ∈ a.ents) →
        t.sent = s.sent ∧ ∃ w, (hifAt t b).invWait = (hifAt s b).invWait ++ [w] ∧ w.fn = f ∧ w.itag = itag
          ∧ ∀ n, n ∈ w.accs ↔ ∃ a ∈ (hifAt s b).accs, a.id = n ∧ a.phase = 2 ∧ ∃ e ∈ (hifAt s b).atc, atsHit f pasid page size e ∧ e.id ∈ a.ents)) := by
  have hatc (e : Atc) : e ∈ (invalidatedHif s b f page size itag pasid).atc ↔ (e ∈ (hifAt s b).atc ∧ ¬ atsHit f pasid page size e) := by
    rw [← atsTakes_iff]
    simp [invalidatedHif]
  have hexec {x : State} (h : atsInvalidate s b f pasid page size itag = x) : exec (.atsInvalidationRequest b f pasid page size itag) s = .next (kept s x) := settled_of_eq h
  have heq := atsInvalidate_eq f page size itag pasid hclk hide
  have hsame := hifAt_setHif_same s hb (invalidatedHif s b f page size itag pasid)
  have husers := mem_atsUsers (s := s) (b := b) f page size pasid
  cases hnone : (atsUsers s b f page size pasid).isEmpty with
  | true =>
    have hwait : (invalidatedHif s b f page size itag pasid).invWait = (hifAt s b).invWait := if_pos hnone
    rw [if_pos hnone] at heq
    refine ⟨_, hexec heq, ?_⟩
    beta_reduce
    simp only [hifAt_kept]
    have hemit : hifAt (emit (setHif s b (invalidatedHif s b f page size itag pasid)) (.invalDone b f itag)) b = invalidatedHif s b f page size itag pasid := hsame
    rw [hemit]
    refine ⟨hatc, rfl, rfl, fun _ => ⟨rfl, hwait⟩, fun ⟨a, ha, hphase, hex⟩ => ?_⟩
    have hmem := (husers a.id).mpr ⟨a, ha, rfl, hphase, hex⟩
    rw [List.isEmpty_iff.mp hnone] at hmem
    exact absurd hmem List.not_mem_nil
  | false =>
    have hne : ¬ (atsUsers s b f page size pasid).isEmpty = true := by simp [hnone]
    have hwait : (invalidatedHif s b f page size itag pasid).invWait = (hifAt s b).invWait ++ [⟨f, itag, atsUsers s b f page size pasid⟩] := if_neg hne
    rw [if_neg hne] at heq
    refine ⟨_, hexec heq, ?_⟩
    beta_reduce
    simp only [hifAt_kept]
    rw [hsame]
    refine ⟨hatc, rfl, rfl, fun hfree => ?_, fun _ => ⟨rfl, _, hwait, rfl, rfl, husers⟩⟩
    obtain ⟨n, hn⟩ := List.exists_mem_of_ne_nil _ (fun h => hne (List.isEmpty_iff.mpr h))
    obtain ⟨a, ha, _, hphase, e, he, hhit, hin⟩ := (husers n).mp hn
    exact absurd hin (hfree a ha hphase e he hhit)

end Invalidate

/-! ### Completions -/

section Complete
variable {id : Nat}

theorem exec_atsCompletion {x : State} {g : Option AtsGrant} {r : HStart} (hacc : AccessAt s b id 0 a) (hans : atsAnswer s b a g = (x, r)) :
    exec (.atsTranslationCompletion b id g) s = .next (kept s (retag (hostFollow x b a r) b)) := by
  obtain ⟨hat, hclk, hide, hphase⟩ := hacc
  refine settled_of_eq ?_
  unfold atsCompletion
  rw [hat]
  dsimp only
  rw [if_pos (by simp [hclk, hide, hphase]), hans]

theorem hostAccessCompletion_eq (hacc : AccessAt s b id 2 a) (r : HostResult) : hostAccessCompletion s b id r = match r with
      | .ok data poison => accDone s b a (.ok (if a.wr then [] else (data ++ List.replicate a.len 0).take a.len) (if a.wr then 0 else poison))
      | .error => accDone s b a (.fail Kind.hostCompletionError) := by
  obtain ⟨hat, hclk, hide, hphase⟩ := hacc
  unfold hostAccessCompletion
  rw [hat]
  exact if_pos (by simp [hclk, hide, hphase])

theorem hostCompletions (hacc : AccessAt s b id 2 a) :
    (∀ data pz, a.wr = false → data.length = a.len → exec (.hostAccessCompletion b id (.ok data pz)) s = .next (kept s (accDone s b a (.ok data pz))))
    ∧ (∀ data pz, a.wr = true → exec (.hostAccessCompletion b id (.ok data pz)) s = .next (kept s (accDone s b a (.ok [] 0))))
    ∧ exec (.hostAccessCompletion b id .error) s = .next (kept s (accDone s b a (.fail Kind.hostCompletionError))) := by
  refine ⟨fun data pz hrd hlen => settled_of_eq ?_, fun data pz hwr => settled_of_eq ?_, settled_of_eq (hostAccessCompletion_eq hacc _)⟩
  · rw [hostAccessCompletion_eq hacc]
    dsimp only
    rw [if_neg (by simp [hrd]), if_neg (by simp [hrd]), List.take_left' hlen]
  · rw [hostAccessCompletion_eq hacc]
    dsimp only
    rw [if_pos hwr, if_pos hwr]

theorem exec_completionTimeout (hat : accAt s b id = some a) (hclk : clocked s = true) (hphase : a.phase ≠ 1) (htime : a.deadline ≤ now s) :
    exec (.completionTimeout b id) s = .next (kept s (accDone s b a (.fail Kind.hostCompletionError))) := by
  refine settled_of_eq ?_
  unfold completionTimeout
  rw [hat]
  exact if_pos (by simp [hclk, hphase, htime])

end Complete

/-! ### A memory request's answer -/

/-- No access waits for a tag where none is held. -/
theorem retag_idle {t : State} (h : (hifAt t b).accs = []) : retag t b = t := by
  have hnext : nextTagged t b = none := by
    unfold nextTagged
    rw [h]
    split <;> rfl
  unfold retag
  rw [hnext]

section Only
variable {rq : Rq} {kind : Nat} (honly : OnlyAccess s b a)
include honly

/-- The only access of a bridge ends. -/
theorem accEnded_only : accEnded s b a.id = setHif s b { hifAt s b with accs := [], invWait := [] } := by
  obtain ⟨_, _, haccs, hwait⟩ := honly
  unfold accEnded
  dsimp only
  rw [haccs, hwait]
  simp

variable (huse : a.use = .mem rq kind) (hsafe : inSafe s = false)
include huse hsafe

theorem accDone_ok (data : List Byte) (pz : Nat) : accDone s b a (.ok data pz)
    = respond (setHif s b { hifAt s b with accs := [], invWait := [] }) (bridgeUnit b) rq (memAnswer kind data pz) := by
  obtain ⟨hb, hlen, _, _⟩ := id honly
  have hdone : hostDone (setHif s b { hifAt s b with accs := [], invWait := [] }) b a (.ok data pz)
      = respond (setHif s b { hifAt s b with accs := [], invWait := [] }) (bridgeUnit b) rq (memAnswer kind data pz) := by
    unfold hostDone
    rw [huse]
    exact if_neg (by rw [show inSafe (setHif s b _) = inSafe s from rfl, hsafe]; decide)
  unfold accDone
  dsimp only
  rw [accEnded_only honly, hdone]
  refine retag_idle ?_
  have hat : hifAt (respond (setHif s b { hifAt s b with accs := [], invWait := [] }) (bridgeUnit b) rq (memAnswer kind data pz)) b
      = hifAt (setHif s b { hifAt s b with accs := [], invWait := [] }) b := rfl
  rw [hat, hifAt_setHif_same s (by omega)]

end Only

/-- The state with a failed completion counted. -/
theorem countHostFail_counts (hb : b < s.hif.length) :
    hifAt (countHostFail s b Kind.hostCompletionError) b = { hifAt s b with cplErrors := ((hifAt s b).cplErrors + 1) % 2 ^ 16 } := by
  unfold countHostFail
  rw [hifAt_setHif_same s hb]
  exact if_neg (by decide)

theorem countHostFail_only {kind : Nat} (honly : OnlyAccess s b a) : OnlyAccess (countHostFail s b kind) b a := by
  obtain ⟨hb, hlen, haccs, hwait⟩ := honly
  have hat : (hifAt (countHostFail s b kind) b).accs = (hifAt s b).accs ∧ (hifAt (countHostFail s b kind) b).invWait = (hifAt s b).invWait := by
    unfold countHostFail
    rw [hifAt_setHif_same s (by omega)]
    split
    · exact ⟨rfl, rfl⟩
    · exact ⟨rfl, rfl⟩
  exact ⟨hb, (setHif_length s b _).trans hlen, hat.1.trans haccs, hat.2.trans hwait⟩

theorem accDone_fail {rq : Rq} {kind : Nat} (honly : OnlyAccess s b a) (huse : a.use = .mem rq kind) (hsafe : inSafe s = false) : accDone s b a (.fail Kind.hostCompletionError)
    = respond (hostFault (setHif (countHostFail s b Kind.hostCompletionError) b { hifAt (countHostFail s b Kind.hostCompletionError) b with accs := [], invWait := [] }) b a Kind.hostCompletionError 5)
        (bridgeUnit b) rq (.refused 5) := by
  have honly' : OnlyAccess (countHostFail s b Kind.hostCompletionError) b a := countHostFail_only honly
  have hsafe' : inSafe (countHostFail s b Kind.hostCompletionError) = false := hsafe
  obtain ⟨hb, hlen, _, _⟩ := id honly'
  generalize hx : countHostFail s b Kind.hostCompletionError = x at honly' hsafe' hlen
  have hdone : hostDone (setHif x b { hifAt x b with accs := [], invWait := [] }) b a (.fail Kind.hostCompletionError)
      = respond (hostFault (setHif x b { hifAt x b with accs := [], invWait := [] }) b a Kind.hostCompletionError 5) (bridgeUnit b) rq (.refused 5) := by
    unfold hostDone
    rw [huse]
    exact if_neg (by rw [show inSafe (setHif x b _) = inSafe x from rfl, hsafe']; decide)
  unfold accDone
  dsimp only
  rw [hx, accEnded_only honly', hdone]
  refine retag_idle ?_
  have hat : hifAt (respond (hostFault (setHif x b { hifAt x b with accs := [], invWait := [] }) b a Kind.hostCompletionError 5) (bridgeUnit b) rq (.refused 5)) b
      = hifAt (setHif x b { hifAt x b with accs := [], invWait := [] }) b := rfl
  rw [hat, hifAt_setHif_same x (by omega)]

theorem memoryEnds {rq : Rq} {kind : Nat} (honly : OnlyAccess s b a) (huse : a.use = .mem rq kind) (hsafe : inSafe s = false) :
    (∀ data pz, (hifAt (accDone s b a (.ok data pz)) b).accs = [] ∧ (accDone s b a (.ok data pz)).sent = s.sent ∧ (accDone s b a (.ok data pz)).flt = s.flt
      ∧ (accDone s b a (.ok data pz)).net = s.net ++ [rspOf (bridgeUnit b) rq (memAnswer kind data pz)])
    ∧ (hifAt (accDone s b a (.fail Kind.hostCompletionError)) b).accs = []
    ∧ (hifAt (accDone s b a (.fail Kind.hostCompletionError)) b).cplErrors = ((hifAt s b).cplErrors + 1) % 2 ^ 16
    ∧ (accDone s b a (.fail Kind.hostCompletionError)).net = s.net ++ [rspOf (bridgeUnit b) rq (.refused 5)]
    ∧ ∃ m, (accDone s b a (.fail Kind.hostCompletionError)).flt.inbox = s.flt.inbox ++ [m] ∧ m.head % 1024 = Kind.hostCompletionError ∧ m.addr = a.iova % 2 ^ 44 := by
  obtain ⟨hb, hlen, _, _⟩ := id honly
  have hbl : b < s.hif.length := by omega
  have hhif (x : State) (r : Resp) : hifAt (respond x (bridgeUnit b) rq r) b = hifAt x b := rfl
  have hfault (x : State) (k : Nat) : hifAt (hostFault x b a k 5) b = hifAt x b := rfl
  have hcounted : b < (countHostFail s b Kind.hostCompletionError).hif.length := by
    rw [countHostFail, setHif_length]
    exact hbl
  refine ⟨fun data pz => ?_, ?_⟩
  · rw [accDone_ok honly huse hsafe, hhif, hifAt_setHif_same s hbl]
    exact ⟨rfl, rfl, rfl, rfl⟩
  · rw [accDone_fail honly huse hsafe, hhif, hfault, hifAt_setHif_same _ hcounted, countHostFail_counts hbl]
    refine ⟨rfl, rfl, rfl, _, rfl, ?_, rfl⟩
    dsimp only
    rw [faultHead_kind]
    rfl

theorem accessEnds_holds : AccessEnds :=
  ⟨fun _ _ _ _ _ _ _ hacc hans => exec_atsCompletion hacc hans,
    fun _ _ _ => ⟨fun g hgrant hlo hhi => atsAnswer_grants g hgrant hlo hhi, fun g h => atsAnswer_fails g h, atsAnswer_refused,
      fun g hb => ⟨atcFill_entry g, fun h => atcFill_room g hb h, fun h => atcFill_full g hb h⟩⟩,
    fun _ _ f page size itag pasid hclk hide hb => atsInvalidation f page size itag pasid hclk hide hb, fun _ _ _ _ hacc => hostCompletions hacc,
    fun _ _ _ _ hat hclk hphase htime => exec_completionTimeout hat hclk hphase htime, fun _ _ _ _ _ honly huse hsafe => memoryEnds honly huse hsafe⟩

/-- Settles O50: how an access goes to the host, and how it ends. -/
theorem hostAccesses : Obligations.HostAccesses := ⟨accessStarts_holds, accessEnds_holds⟩

end Sys2Proof.Machine
end

section
/-! PROOF. Doorbell pages (R395 to R402, R432): a write reaches its ring set, and what the page's registers do with it. -/

namespace Sys2Proof.Machine

variable {s : State} {b rs : Nat} {x : BarWrite}

/-! ### A write arrives (R395, R432) -/

theorem barWrite_judged (hwork : working s = true) (hide : ideOpen s b 0 = true) (hslice : sliceLeft s (bridgeUnit b) = none) :
    barWrite s b x = pageStore s b x := by
  unfold barWrite
  rw [if_neg (by simp [hwork, hide]), if_neg (by simp [hslice])]

theorem barWrite_held {left : Nat} (hwork : working s = true) (hide : ideOpen s b 0 = true) (hslice : sliceLeft s (bridgeUnit b) = some left) :
    barWrite s b x = setHif s b { hifAt s b with
        latched := (hifAt s b).latched.filter (fun y => !(decide (y.fn = x.fn) && decide (y.page = x.page) && decide (y.off = x.off) && decide (y.size = x.size))) ++ [x] } := by
  unfold barWrite
  rw [if_neg (by simp [hwork, hide]), if_pos (by simp [hslice])]

/-- The commands that write a doorbell page differ in the register they name. -/
theorem exec_barCommand {c : Instr} (h : BarCommand c b x) : exec c s = .next (kept s (barWrite s b x)) := by
  obtain ⟨fn, page, off, size, value⟩ := x
  obtain ⟨rfl, hoff, hsize⟩ | ⟨rfl, hoff, hsize⟩ | ⟨rfl, hoff, hsize, hval⟩ | ⟨rfl, hoff, hsize, hval⟩ | rfl := h
  · dsimp only at hoff hsize
    subst hoff hsize
    rfl
  · dsimp only at hoff hsize
    subst hoff hsize
    rfl
  · dsimp only at hoff hsize hval
    subst hoff hsize hval
    rfl
  · dsimp only at hoff hsize hval
    subst hoff hsize hval
    rfl
  · rfl

/-! ### The word of a page (R395, R396) -/

theorem pageStore_absent (h : pageRing s b x.fn x.page = none) : pageStore s b x = s := by
  unfold pageStore
  rw [h]

section Page
variable (hpage : pageRing s b x.fn x.page = some rs)
include hpage

theorem pageStore_whole (hoff : x.off % 8 = 0) (hsize : x.size = 8) : pageStore s b x = pageWrite s rs (x.off / 8) 3 (x.value % 2 ^ 64) := by
  unfold pageStore
  rw [hpage]
  exact if_pos ⟨hsize, hoff⟩

theorem pageStore_low (hoff : x.off % 8 = 0) (hsize : x.size = 4) : pageStore s b x
    = pageWrite s rs (x.off / 8) 1 (x.value % 2 ^ 32 + 2 ^ 32 * (pageWord (ringAt s rs) (x.off / 8) / 2 ^ 32)) := by
  unfold pageStore
  rw [hpage]
  dsimp only
  rw [if_neg (by omega), if_pos ⟨hsize, hoff⟩]

theorem pageStore_high (hoff : x.off % 8 = 4) (hsize : x.size = 4) : pageStore s b x
    = pageWrite s rs (x.off / 8) 2 (pageWord (ringAt s rs) (x.off / 8) % 2 ^ 32 + 2 ^ 32 * (x.value % 2 ^ 32)) := by
  unfold pageStore
  rw [hpage]
  dsimp only
  rw [if_neg (by omega), if_neg (by omega), if_pos ⟨hsize, hoff⟩]

theorem pageStore_size (h4 : x.size ≠ 4) (h8 : x.size ≠ 8) : pageStore s b x = s := by
  unfold pageStore
  rw [hpage]
  dsimp only
  rw [if_neg (by omega), if_neg (by omega), if_neg (by omega)]

/-- A write of a word's low half, or of both, brings its value there. -/
theorem pageStore_word (hoff : x.off % 8 = 0) (hsize : x.size = 4 ∨ x.size = 8) :
    ∃ half v, half ≠ 2 ∧ v % 2 ^ 32 = x.value % 2 ^ 32 ∧ pageStore s b x = pageWrite s rs (x.off / 8) half v := by
  obtain h4 | h8 := hsize
  · exact ⟨1, _, by decide, by rw [Nat.add_mul_mod_self_left, Nat.mod_mod], pageStore_low hpage hoff h4⟩
  · exact ⟨3, _, by decide, Nat.mod_mod_of_dvd _ (Nat.pow_dvd_pow 2 (by decide)), pageStore_whole hpage hoff h8⟩

end Page

/-- Values with the same low half have the same fields there. -/
theorem bits_congr_low {v w hi lo : Nat} (hl : lo ≤ hi) (hn : hi < 32) (h : v % 2 ^ 32 = w % 2 ^ 32) : bits v hi lo = bits w hi lo := by
  rw [← bits_mod_two_pow hl hn v, h, bits_mod_two_pow hl hn]

theorem bit_congr_low {v w i : Nat} (hi : i < 32) (h : v % 2 ^ 32 = w % 2 ^ 32) : bit v i = bit w i := by
  rw [bit_eq_decide_bits, bit_eq_decide_bits, bits_congr_low (Nat.le_refl i) hi h]

/-! ### The registers of a page (R396, R398, Table 14.1) -/

section Word
variable {half v : Nat}

theorem whole_mod {k : Nat} (hk : k ≤ 64) (v : Nat) : v % 2 ^ 64 % 2 ^ k = v % 2 ^ k := Nat.mod_mod_of_dvd v (Nat.pow_dvd_pow 2 hk)

/-- A ring base is taken modulo 2^44, which leaves its alignment. -/
theorem aligned_mod (v : Nat) : v % 2 ^ 44 % 4096 = v % 4096 := Nat.mod_mod_of_dvd v (Nat.pow_dvd_pow 2 (show 12 ≤ 44 by decide))

theorem pageWrite_sqBase : pageWrite s rs 2 half v = if (ringAt s rs).state = 0 ∧ v % 4096 = 0 then setRing s rs { ringAt s rs with sqBase := v % 2 ^ 44 }
    else setRing s rs { ringAt s rs with refused := true } := by
  change (if !decide ((ringAt s rs).state = 0) || decide (v % 2 ^ 44 % 4096 ≠ 0) then pageRefuse s rs else setRing s rs { ringAt s rs with sqBase := v % 2 ^ 44 }) = _
  rw [aligned_mod]
  by_cases hidle : (ringAt s rs).state = 0 ∧ v % 4096 = 0
  · rw [if_neg (by simp [hidle]), if_pos hidle]
  · rw [if_pos (by simpa [-not_and, not_and_or] using hidle), if_neg hidle]
    rfl

theorem pageWrite_cqBase : pageWrite s rs 3 half v = if (ringAt s rs).state = 0 ∧ v % 4096 = 0 then setRing s rs { ringAt s rs with cqBase := v % 2 ^ 44 }
    else setRing s rs { ringAt s rs with refused := true } := by
  change (if !decide ((ringAt s rs).state = 0) || decide (v % 2 ^ 44 % 4096 ≠ 0) then pageRefuse s rs else setRing s rs { ringAt s rs with cqBase := v % 2 ^ 44 }) = _
  rw [aligned_mod]
  by_cases hidle : (ringAt s rs).state = 0 ∧ v % 4096 = 0
  · rw [if_neg (by simp [hidle]), if_pos hidle]
  · rw [if_pos (by simpa [-not_and, not_and_or] using hidle), if_neg hidle]
    rfl

variable (hhalf : half ≠ 2)
include hhalf

theorem pageWrite_cfg : pageWrite s rs 4 half v
    = if (ringAt s rs).state = 0 ∧ 4 ≤ bits v 4 0 ∧ bits v 4 0 ≤ 16 ∧ 4 ≤ bits v 12 8 ∧ bits v 12 8 ≤ 16 then
        setRing s rs { ringAt s rs with sqLog2 := bits v 4 0, cqLog2 := bits v 12 8, vector := bits v 26 16, pasid := bit v 27 }
      else setRing s rs { ringAt s rs with refused := true } := by
  refine (if_neg hhalf).trans ?_
  by_cases hok : (ringAt s rs).state = 0 ∧ 4 ≤ bits v 4 0 ∧ bits v 4 0 ≤ 16 ∧ 4 ≤ bits v 12 8 ∧ bits v 12 8 ≤ 16
  · rw [if_neg (by simp [hok]), if_pos hok]
  · rw [if_pos, if_neg hok]
    · rfl
    · simp only [Bool.or_eq_true, Bool.not_eq_true', decide_eq_false_iff_not, Bool.and_eq_false_iff]
      omega

theorem pageWrite_mod : pageWrite s rs 5 half v = setRing s rs { ringAt s rs with modCount := bits v 15 0, modTime := bits v 31 16 } := by
  unfold pageWrite
  exact if_neg hhalf

theorem pageWrite_seq : pageWrite s rs 6 half v
    = if (ringAt s rs).state = 0 then setRing s rs { ringAt s rs with seqBase := v % 2 ^ 32 } else setRing s rs { ringAt s rs with refused := true } := by
  refine (if_neg hhalf).trans ?_
  by_cases hidle : (ringAt s rs).state = 0
  · rw [if_neg (by simp [hidle]), if_pos hidle]
  · rw [if_pos (by simp [hidle]), if_neg hidle]
    rfl

theorem pageWrite_ctrl : pageWrite s rs 7 half v = if bit v 0 then ringEnable s rs else ringDisable s rs := by
  unfold pageWrite
  exact if_neg hhalf

theorem pageWrite_status : pageWrite s rs 8 half v = if bit v 0 then setRing s rs { ringAt s rs with refused := false } else s := by
  unfold pageWrite
  cases hbit : bit v 0 with
  | false => exact if_pos (.inr (by simp))
  | true => exact if_neg (by simp [hhalf])

end Word

theorem pageWrite_doorbell (half v : Nat) : pageWrite s rs 0 half v = if half = 1 then (if half = 2 then s else sqPiWrite s rs (v % 2 ^ 32))
    else cqCiWrite (if half = 2 then s else sqPiWrite s rs (v % 2 ^ 32)) rs (v / 2 ^ 32) := rfl

theorem pageWrite_doorbellLow (v : Nat) : pageWrite s rs 0 1 v = sqPiWrite s rs (v % 2 ^ 32) := by
  rw [pageWrite_doorbell, if_pos rfl, if_neg (by decide)]

theorem pageWrite_doorbellHigh (v : Nat) : pageWrite s rs 0 2 v = cqCiWrite s rs (v / 2 ^ 32) := by
  rw [pageWrite_doorbell, if_neg (by decide), if_pos rfl]

theorem pageWrite_doorbells (v : Nat) : pageWrite s rs 0 3 v = cqCiWrite (sqPiWrite s rs (v % 2 ^ 32)) rs (v / 2 ^ 32) := by
  rw [pageWrite_doorbell, if_neg (by decide), if_neg (by decide)]

section Store
variable (hpage : pageRing s b x.fn x.page = some rs)
include hpage

theorem pageStore_sqPi (hoff : x.off = 0) (hsize : x.size = 4) : pageStore s b x = sqPiWrite s rs (x.value % 2 ^ 32) := by
  rw [pageStore_low hpage (by omega) hsize, hoff, pageWrite_doorbellLow, Nat.add_mul_mod_self_left, Nat.mod_mod]

theorem pageStore_cqCi (hoff : x.off = 4) (hsize : x.size = 4) : pageStore s b x = cqCiWrite s rs (x.value % 2 ^ 32) := by
  rw [pageStore_high hpage (by omega) hsize, hoff, pageWrite_doorbellHigh, Nat.add_mul_div_left _ _ (Nat.two_pow_pos 32),
    Nat.div_eq_of_lt (Nat.mod_lt _ (Nat.two_pow_pos 32)), Nat.zero_add]

theorem pageStore_doorbells (hoff : x.off = 0) (hsize : x.size = 8) :
    pageStore s b x = cqCiWrite (sqPiWrite s rs (x.value % 2 ^ 32)) rs (x.value % 2 ^ 64 / 2 ^ 32) := by
  rw [pageStore_whole hpage (by omega) hsize, hoff, pageWrite_doorbells, Nat.mod_mod_of_dvd _ (Nat.pow_dvd_pow 2 (show 32 ≤ 64 by decide))]

theorem pageStore_sqBase (hoff : x.off = 0x10) (hsize : x.size = 8) : pageStore s b x
    = if (ringAt s rs).state = 0 ∧ x.value % 4096 = 0 then setRing s rs { ringAt s rs with sqBase := x.value % 2 ^ 44 } else setRing s rs { ringAt s rs with refused := true } := by
  rw [pageStore_whole hpage (by omega) hsize, hoff, pageWrite_sqBase, whole_mod (by decide),
    show x.value % 2 ^ 64 % 4096 = x.value % 4096 from whole_mod (k := 12) (by decide) _]

theorem pageStore_cqBase (hoff : x.off = 0x18) (hsize : x.size = 8) : pageStore s b x
    = if (ringAt s rs).state = 0 ∧ x.value % 4096 = 0 then setRing s rs { ringAt s rs with cqBase := x.value % 2 ^ 44 } else setRing s rs { ringAt s rs with refused := true } := by
  rw [pageStore_whole hpage (by omega) hsize, hoff, pageWrite_cqBase, whole_mod (by decide),
    show x.value % 2 ^ 64 % 4096 = x.value % 4096 from whole_mod (k := 12) (by decide) _]

variable (hsize : x.size = 4 ∨ x.size = 8)
include hsize

theorem pageStore_cfg (hoff : x.off = 0x20) : pageStore s b x
    = if (ringAt s rs).state = 0 ∧ 4 ≤ bits x.value 4 0 ∧ bits x.value 4 0 ≤ 16 ∧ 4 ≤ bits x.value 12 8 ∧ bits x.value 12 8 ≤ 16 then
        setRing s rs { ringAt s rs with sqLog2 := bits x.value 4 0, cqLog2 := bits x.value 12 8, vector := bits x.value 26 16, pasid := bit x.value 27 }
      else setRing s rs { ringAt s rs with refused := true } := by
  obtain ⟨half, v, hhalf, hlow, hstore⟩ := pageStore_word hpage (by omega) hsize
  rw [hstore, hoff, pageWrite_cfg hhalf, bits_congr_low (by decide) (by decide) hlow, bits_congr_low (hi := 12) (by decide) (by decide) hlow,
    bits_congr_low (hi := 26) (by decide) (by decide) hlow, bit_congr_low (by decide) hlow]

theorem pageStore_mod (hoff : x.off = 0x28) :
    pageStore s b x = setRing s rs { ringAt s rs with modCount := bits x.value 15 0, modTime := bits x.value 31 16 } := by
  obtain ⟨half, v, hhalf, hlow, hstore⟩ := pageStore_word hpage (by omega) hsize
  rw [hstore, hoff, pageWrite_mod hhalf, bits_congr_low (hi := 15) (by decide) (by decide) hlow, bits_congr_low (hi := 31) (by decide) (by decide) hlow]

theorem pageStore_seq (hoff : x.off = 0x30) : pageStore s b x
    = if (ringAt s rs).state = 0 then setRing s rs { ringAt s rs with seqBase := x.value % 2 ^ 32 } else setRing s rs { ringAt s rs with refused := true } := by
  obtain ⟨half, v, hhalf, hlow, hstore⟩ := pageStore_word hpage (by omega) hsize
  rw [hstore, hoff, pageWrite_seq hhalf, hlow]

theorem pageStore_ctrl (hoff : x.off = 0x38) : pageStore s b x = if bit x.value 0 then ringEnable s rs else ringDisable s rs := by
  obtain ⟨half, v, hhalf, hlow, hstore⟩ := pageStore_word hpage (by omega) hsize
  rw [hstore, hoff, pageWrite_ctrl hhalf, bit_congr_low (by decide) hlow]

theorem pageStore_status (hoff : x.off = 0x40) : pageStore s b x = if bit x.value 0 then setRing s rs { ringAt s rs with refused := false } else s := by
  obtain ⟨half, v, hhalf, hlow, hstore⟩ := pageStore_word hpage (by omega) hsize
  rw [hstore, hoff, pageWrite_status hhalf, bit_congr_low (by decide) hlow]

end Store

/-! ### Doorbells (R398) -/

section Doorbell
variable {v : Nat}

theorem sqPiWrite_idle (h : (ringAt s rs).state = 0 ∨ (ringAt s rs).state = 3 ∨ doorbellMove v (ringAt s rs).sqPi = 0) : sqPiWrite s rs v = s := if_pos h

theorem cqCiWrite_idle (h : (ringAt s rs).state = 0 ∨ (ringAt s rs).state = 3 ∨ doorbellMove v (ringAt s rs).cqCi = 0) : cqCiWrite s rs v = s := if_pos h

/-- A ring set that takes entries is neither DISABLED nor stopped. -/
theorem not_idle {n k : Nat} (hstate : n = 1 ∨ n = 2) (hmove : k ≠ 0) : ¬ (n = 0 ∨ n = 3 ∨ k = 0) := by omega

variable (hstate : (ringAt s rs).state = 1 ∨ (ringAt s rs).state = 2)
include hstate

theorem sqPiWrite_moves (hmove : doorbellMove v (ringAt s rs).sqPi ≠ 0) :
    (doorbellMove v (ringAt s rs).sqPi ≤ sqRoom (ringAt s rs) → sqPiWrite s rs v = setRing s rs { ringAt s rs with sqPi := v })
    ∧ (sqRoom (ringAt s rs) < doorbellMove v (ringAt s rs).sqPi →
      (2 ^ 31 ≤ doorbellMove v (ringAt s rs).sqPi → sqPiWrite s rs v = setRing s rs { ringAt s rs with dbStale := ((ringAt s rs).dbStale + 1) % 2 ^ 16 })
      ∧ (doorbellMove v (ringAt s rs).sqPi < 2 ^ 31 → sqPiWrite s rs v =
          ringRaise (setRing s rs { ringAt s rs with dbInvalid := ((ringAt s rs).dbInvalid + 1) % 2 ^ 16 }) rs Kind.ringDoorbellInvalid 0 0)) :=
  ⟨fun h => (if_neg (not_idle hstate hmove)).trans (if_pos h), fun h => ⟨
    fun hback => (if_neg (not_idle hstate hmove)).trans ((if_neg (Nat.not_le.mpr h)).trans (if_pos hback)),
    fun hahead => (if_neg (not_idle hstate hmove)).trans ((if_neg (Nat.not_le.mpr h)).trans (if_neg (Nat.not_le.mpr hahead)))⟩⟩

theorem cqCiWrite_moves (hmove : doorbellMove v (ringAt s rs).cqCi ≠ 0) :
    (doorbellMove v (ringAt s rs).cqCi ≤ cqRoom (ringAt s rs) → cqCiWrite s rs v = setRing s rs { ringAt s rs with cqCi := v })
    ∧ (cqRoom (ringAt s rs) < doorbellMove v (ringAt s rs).cqCi →
      (2 ^ 31 ≤ doorbellMove v (ringAt s rs).cqCi → cqCiWrite s rs v = setRing s rs { ringAt s rs with dbStale := ((ringAt s rs).dbStale + 1) % 2 ^ 16 })
      ∧ (doorbellMove v (ringAt s rs).cqCi < 2 ^ 31 → cqCiWrite s rs v =
          ringRaise (setRing s rs { ringAt s rs with dbInvalid := ((ringAt s rs).dbInvalid + 1) % 2 ^ 16 }) rs Kind.ringDoorbellInvalid 0 0)) :=
  ⟨fun h => (if_neg (not_idle hstate hmove)).trans (if_pos h), fun h => ⟨
    fun hback => (if_neg (not_idle hstate hmove)).trans ((if_neg (Nat.not_le.mpr h)).trans (if_pos hback)),
    fun hahead => (if_neg (not_idle hstate hmove)).trans ((if_neg (Nat.not_le.mpr h)).trans (if_neg (Nat.not_le.mpr hahead)))⟩⟩

end Doorbell

/-! ### Enabling and disabling (R400, R402) -/

theorem ringEnable_running (h : (ringAt s rs).state ≠ 0) : ringEnable s rs = s := if_pos h

theorem ringEnable_starts (h0 : (ringAt s rs).state = 0) (hok : enableOk s (ringAt s rs) = true) : ringEnable s rs
    = setRing s rs { ringAt s rs with sqPi := 0, sqCi := 0, cqPi := 0, cqCi := 0, nextSeq := (ringAt s rs).seqBase, state := 1, owed := 0, retire := [] } :=
  (if_neg (not_not_intro h0)).trans (if_pos hok)

theorem ringEnable_refused (h0 : (ringAt s rs).state = 0) (hok : enableOk s (ringAt s rs) = false) : ringEnable s rs
    = ringRaise (setRing s rs { ringAt s rs with err := 3 }) rs Kind.ringConfigInvalid 0 0 :=
  (if_neg (not_not_intro h0)).trans (if_neg (by simp [hok]))

theorem ringDrain_busy (h : ¬ ((ringAt s rs).state = 2 ∧ (ringAt s rs).cur = none ∧ (ringAt s rs).longs = [] ∧ (ringAt s rs).fetching = false ∧ (ringAt s rs).writing = 0)) :
    ringDrain s rs = s := if_neg (by simpa using h)

theorem ringDrain_done (hstate : (ringAt s rs).state = 2) (hcur : (ringAt s rs).cur = none) (hlongs : (ringAt s rs).longs = []) (hfetch : (ringAt s rs).fetching = false)
    (hwrite : (ringAt s rs).writing = 0) : ringDrain s rs = setRing s rs { ringAt s rs with state := 0, owed := 0, retire := [] } :=
  if_pos (by simp [hstate, hcur, hlongs, hfetch, hwrite])

theorem sendCancel_lock (r : RingSet) {d : RDesc} (h : d.op = 9) : sendCancel s r d = sendReq s
    { unit := bridgeUnit r.port, sub := ringSrc r % 4, part := r.part, target := 0x304, use := .other, body := .lockOp { op := .cancel, word := d.f 8 8 % 4096 } } :=
  if_pos h

@[simp] theorem ringAt_sendCancel (s : State) (r : RingSet) (d : RDesc) (k : Nat) : ringAt (sendCancel s r d) k = ringAt s k := by
  unfold sendCancel
  split
  · exact ringAt_sendReq s _ k
  · rfl

/-- The CANCELs of a disable change no ring set. -/
theorem ringAt_sendCancels (r : RingSet) (k : Nat) (l : List RDesc) (s : State) : ringAt (l.foldl (fun (t : State) d => sendCancel t r d) s) k = ringAt s k := by
  induction l generalizing s with
  | nil => rfl
  | cons d l ih => rw [List.foldl_cons, ih, ringAt_sendCancel]

/-- A ring set other than the one replaced. -/
theorem ringAt_setRing_other {k : Nat} (s : State) (r : RingSet) (h : k ≠ rs) : ringAt (setRing s rs r) k = ringAt s k := SMap.get_put_other ({} : RingSet) s.rings h r

/-- A ring set's state while it drains, before its CANCELs: a held descriptor is dropped with its request. -/
def ringDrops (s : State) (rs : Nat) : State :=
  let s1 := setRing s rs { ringAt s rs with state := 2 }
  match (ringAt s rs).cur with
  | none => s1
  | some d =>
    if d.phase = 2 then s1
    else
      let s2 := ringDiscard s1 rs
      { s2 with outs := s2.outs.filter (fun o => !(match o.use with
        | .desc x k => decide (x = rs) && decide (some k = (ringAt s rs).cur.map RDesc.k)
        | _ => false)) }

theorem ringDisable_stopped (h : (ringAt s rs).state = 0 ∨ (ringAt s rs).state = 2) : ringDisable s rs = s := if_pos (by omega)

theorem ringDisable_drains (h : (ringAt s rs).state = 1 ∨ (ringAt s rs).state = 3) :
    ringDisable s rs = ringDrain ((ringAt s rs).longs.foldl (fun (t : State) d => sendCancel t (ringAt s rs) d) (ringDrops s rs)) rs := by
  unfold ringDisable ringDrops
  dsimp only
  rw [if_neg (by omega)]
  cases hcur : (ringAt s rs).cur with
  | none => rfl
  | some d =>
    dsimp only
    by_cases hphase : d.phase = 2
    · rw [if_pos hphase, if_neg (by simp [hphase]), if_neg (by simp [hphase])]
    · rw [if_neg hphase, if_pos (by simp [hphase]), if_pos (by simp [hphase])] <;> rfl

section Disable
variable (hheld : ∀ d, (ringAt s rs).cur = some d → d.phase ≠ 2)
include hheld

theorem ringDrops_ring : ∃ n, ringAt (ringDrops s rs) rs = { ringAt s rs with state := 2, cur := none, owed := n } := by
  have hset := ringAt_setRing s rs { ringAt s rs with state := 2 }
  unfold ringDrops
  dsimp only
  split
  · next hcur => exact ⟨(ringAt s rs).owed, by rw [hset, ← hcur]⟩
  · next d hcur =>
    rw [if_neg (hheld d hcur)]
    refine ⟨(ringAt s rs).owed - (if d.phase = 0 then 0 else 1 + b2n d.wantsHost), ?_⟩
    change ringAt (ringDiscard (setRing s rs { ringAt s rs with state := 2 }) rs) rs = _
    rw [ringDiscard, modRing, ringAt_setRing, hset]
    dsimp only
    rw [hcur]

omit hheld in
theorem ringDrops_keeps : (ringDrops s rs).net = s.net ∧ ∀ k, k ≠ rs → ringAt (ringDrops s rs) k = ringAt s k := by
  have hset (k : Nat) (hk : k ≠ rs) := ringAt_setRing_other s { ringAt s rs with state := 2 } hk
  unfold ringDrops
  dsimp only
  split
  · exact ⟨rfl, hset⟩
  split
  · exact ⟨rfl, hset⟩
  · exact ⟨rfl, fun k hk => (ringAt_setRing_other _ _ hk).trans (hset k hk)⟩

variable (h : (ringAt s rs).state = 1 ∨ (ringAt s rs).state = 3)
include h

theorem ringDisable_idle (hlongs : (ringAt s rs).longs = []) (hfetch : (ringAt s rs).fetching = false) (hwrite : (ringAt s rs).writing = 0) :
    ringAt (ringDisable s rs) rs = { ringAt s rs with cur := none, state := 0, owed := 0, retire := [] } ∧ (ringDisable s rs).net = s.net
    ∧ ∀ k, k ≠ rs → ringAt (ringDisable s rs) k = ringAt s k := by
  obtain ⟨n, hring⟩ := ringDrops_ring hheld
  obtain ⟨hnet, hother⟩ := ringDrops_keeps (s := s) (rs := rs)
  rw [ringDisable_drains h, hlongs, List.foldl_nil, ringDrain_done (by rw [hring]) (by rw [hring]) (by rw [hring]; exact hlongs) (by rw [hring]; exact hfetch) (by rw [hring]; exact hwrite)]
  refine ⟨?_, hnet, fun k hk => (ringAt_setRing_other _ _ hk).trans (hother k hk)⟩
  rw [ringAt_setRing, hring]

theorem ringDisable_draining (hbusy : (ringAt s rs).longs ≠ [] ∨ (ringAt s rs).fetching = true ∨ (ringAt s rs).writing ≠ 0) :
    (ringAt (ringDisable s rs) rs).state = 2 ∧ (ringAt (ringDisable s rs) rs).cur = none ∧ (ringAt (ringDisable s rs) rs).longs = (ringAt s rs).longs := by
  obtain ⟨n, hring⟩ := ringDrops_ring hheld
  have hcancels := (ringAt_sendCancels (ringAt s rs) rs (ringAt s rs).longs (ringDrops s rs)).trans hring
  rw [ringDisable_drains h, ringDrain_busy, hcancels]
  · exact ⟨rfl, rfl, rfl⟩
  · rw [hcancels]
    rintro ⟨-, -, hlongs, hfetch, hwrite⟩
    obtain hb | hb | hb := hbusy
    · exact hb hlongs
    · exact Bool.false_ne_true (hfetch.symm.trans hb)
    · exact hb hwrite

end Disable

theorem ringDisable_cancels (h : (ringAt s rs).state = 1 ∨ (ringAt s rs).state = 3) (hcur : (ringAt s rs).cur = none) (hlongs : (ringAt s rs).longs ≠ []) : ringDisable s rs
    = (ringAt s rs).longs.foldl (fun t d => sendCancel t (ringAt s rs) d) (setRing s rs { ringAt s rs with state := 2 }) := by
  have hdrops : ringDrops s rs = setRing s rs { ringAt s rs with state := 2 } := by
    unfold ringDrops
    rw [hcur]
  rw [ringDisable_drains h, hdrops, ringDrain_busy]
  rw [ringAt_sendCancels, ringAt_setRing]
  exact fun hdone => hlongs hdone.2.2.1

theorem ringPages_holds : RingPages := by
  refine ⟨fun c s b x hc hwork hide => ⟨fun hslice => ?_, fun left hslice => ?_⟩, fun s b rs x => ⟨pageStore_absent, fun hpage => ⟨
      pageStore_sqPi hpage, pageStore_cqCi hpage, pageStore_doorbells hpage, fun hoff hsize => pageStore_ctrl hpage hsize hoff, pageStore_sqBase hpage, pageStore_cqBase hpage,
      fun hoff hsize => pageStore_cfg hpage hsize hoff, fun hoff hsize => pageStore_mod hpage hsize hoff, fun hoff hsize => pageStore_seq hpage hsize hoff,
      fun hoff hsize => pageStore_status hpage hsize hoff, pageStore_size hpage⟩⟩,
    fun s rs v => ⟨sqPiWrite_idle, sqPiWrite_moves, cqCiWrite_idle, cqCiWrite_moves⟩,
    fun s rs => ⟨ringEnable_running, ringEnable_starts, ringEnable_refused, ringDisable_stopped,
      fun h hheld => ⟨ringDisable_idle hheld h, ringDisable_draining hheld h⟩, ringDisable_cancels, fun d => sendCancel_lock _, ringDrain_done⟩⟩
  · rw [exec_barCommand hc, barWrite_judged hwork hide hslice]
  · rw [exec_barCommand hc, barWrite_held hwork hide hslice]

end Sys2Proof.Machine
end

section
/-! PROOF. Descriptor fetch and the sequence check (R401, R404, R407, R409, R410, R427, R430, R431). -/

namespace Sys2Proof.Machine

variable {s : State} {rs : Nat}

/-! ### Accesses to ring memory without translation (R388, R401) -/

section Access
variable {r : RingSet} {iova len : Nat} {data : List Byte} {use : HUse}

/-- The access that a ring set makes without translation, as it goes to the host. -/
def ringAccess (s : State) (r : RingSet) (iova len : Nat) (wr : Bool) (data : List Byte) (use : HUse) : HostAcc :=
  { fn := r.fn, part := r.part, pasid := none, iova := iova, len := len, wr := wr, data := data, use := use, id := (hifAt s r.port).nextId, addr := iova }

/-- The state once an access of port `b` has its number. -/
def withNumber (s : State) (b : Nat) : State := setHif s b { hifAt s b with nextId := (hifAt s b).nextId + 1 }

theorem hifAt_withNumber (s : State) (b : Nat) : hifAt (withNumber s b) b = { hifAt s b with nextId := (hifAt s b).nextId + 1 }
    ∨ hifAt (withNumber s b) b = hifAt s b := by
  obtain h | h := Nat.lt_or_ge b s.hif.length
  · exact .inl (hifAt_setHif_same s h _)
  · exact .inr (hifAt_setHif_beyond s h _)

/-- Taking a number changes nothing that an access is tried by. -/
theorem withNumber_keeps (s : State) (b f : Nat) : fnActive (withNumber s b) b f = fnActive s b f ∧ ideOpen (withNumber s b) b 0 = ideOpen s b 0
    ∧ nonPosted (withNumber s b) b = nonPosted s b := by
  obtain h | h := hifAt_withNumber s b
  · exact ⟨by rw [fnActive, h]; rfl, by rw [ideOpen, h]; rfl, by rw [nonPosted, h]; rfl⟩
  · exact ⟨by rw [fnActive, h]; rfl, by rw [ideOpen, h]; rfl, by rw [nonPosted, h]; rfl⟩

theorem onCache_ring {b : Nat} {a : HostAcc} (h : a.use.ring = true) : onCache s b a = false := by simp [onCache, h]

/-- A write that does not travel on CXL.cache leaves as a memory write, with nothing kept of it. -/
theorem issueAcc_posted {b : Nat} {a : HostAcc} (hwr : a.wr = true) (hcache : onCache s b a = false) : issueAcc s b a
    = (setHif (emit s (.hostWrite b a.id a.fn a.pasid a.addr a.data a.poison a.translated .memory a.relaxed)) b
        { hifAt s b with accs := (hifAt s b).accs.filter (fun x => x.id != a.id) }, .done) := by
  unfold issueAcc
  dsimp only
  rw [if_pos hwr, hcache]
  rfl

theorem ringHost_untranslated (wr : Bool) (huse : use.ring = true) (hfn : fnActive s r.port r.fn = true) (hide : ideOpen s r.port 0 = true)
    (hats : (fnAt s r.port r.fn).atsEn = false) (hpasid : r.pasid = false) :
    ringHost s r iova len wr data use = issueAcc (withNumber s r.port) r.port (ringAccess s r iova len wr data use) := by
  obtain ⟨hactive, hopen, -⟩ := withNumber_keeps s r.port r.fn
  unfold ringHost
  rw [hpasid]
  exact tryAcc_untranslated (hactive.trans hfn) (hopen.trans hide) (onCache_ring huse) (.inl rfl) hats

theorem ringHost_read (huse : use.ring = true) (hfn : fnActive s r.port r.fn = true) (hide : ideOpen s r.port 0 = true)
    (hats : (fnAt s r.port r.fn).atsEn = false) (hpasid : r.pasid = false) (hroom : nonPosted s r.port < 512) :
    (ringHost s r iova len false data use).2 = .pending
    ∧ (ringHost s r iova len false data use).1.sent = s.sent ++ [.hostRead r.port (hifAt s r.port).nextId r.fn none iova len false .memory] := by
  obtain ⟨-, -, hcount⟩ := withNumber_keeps s r.port r.fn
  have hcache : onCache (withNumber s r.port) r.port (ringAccess s r iova len false data use) = false := onCache_ring huse
  rw [ringHost_untranslated false huse hfn hide hats hpasid, issueAcc_read rfl (by rw [hcount]; exact hroom), hcache]
  exact ⟨rfl, rfl⟩

/-- A write of ring memory is posted: it is done once it leaves, and its ring sets and its function stay. -/
theorem ringHost_write (huse : use.ring = true) (hfn : fnActive s r.port r.fn = true) (hide : ideOpen s r.port 0 = true)
    (hats : (fnAt s r.port r.fn).atsEn = false) (hpasid : r.pasid = false) :
    ∃ h, ringHost s r iova len true data use
      = ({ s with sent := s.sent ++ [.hostWrite r.port (hifAt s r.port).nextId r.fn none iova data 0 false .memory false], hif := h }, .done) := by
  have hcache : onCache (withNumber s r.port) r.port (ringAccess s r iova len true data use) = false := onCache_ring huse
  rw [ringHost_untranslated true huse hfn hide hats hpasid, issueAcc_posted rfl hcache]
  exact ⟨_, rfl⟩

end Access

/-! ### Fetch (R427, R430) -/

/-- What a fetch goes on with: the failure of its read, or the read under way. -/
def fetchStarted (rs : Nat) (x : State × HStart) : State :=
  match x with
  | (s1, .failed k) => ringFetched s1 rs (.fail k)
  | (s1, _) => s1

theorem descriptorFetch_reads (hruns : bridgeRuns s (ringAt s rs).port = true) (hstate : (ringAt s rs).state = 1)
    (hany : (ringAt s rs).sqPi ≠ (ringAt s rs).sqCi) (hcur : (ringAt s rs).cur = none) (hfetch : (ringAt s rs).fetching = false) (hlongs : (ringAt s rs).longs.length < 16)
    (hslots : 2 ≤ freeSlotsCq (ringAt s rs)) : descriptorFetch s rs = fetchStarted rs (ringHost (setRing s rs { ringAt s rs with fetching := true }) (ringAt s rs)
      ((ringAt s rs).sqBase + 64 * ((ringAt s rs).sqCi % 2 ^ (ringAt s rs).sqLog2)) 64 false [] (.desc rs)) := by
  refine if_neg ?_
  have hfull : ¬ 16 ≤ (ringAt s rs).longs.length := by omega
  have hnone : ¬ freeSlotsCq (ringAt s rs) < 2 := by omega
  simp [hruns, hstate, hcur, hfetch, hany, hfull, hnone]

section Fetched
variable (hfetch : (ringAt s rs).fetching = true) (hstate : (ringAt s rs).state = 1)
include hfetch hstate

theorem ringFetched_copies (data : List Byte) : ringFetched s rs (.ok data 0) = ringSettle (modRing (modRing s rs (fun r => { r with fetching := false })) rs
    (fun x => { x with sqCi := ((ringAt s rs).sqCi + 1) % 2 ^ 32, cur := some { k := (ringAt s rs).sqCi, raw := data } })) rs := by
  unfold ringFetched
  dsimp only
  rw [if_neg (by simp [hfetch]), if_neg (not_not_intro hstate)]
  exact if_neg (not_not_intro rfl)

theorem ringFetched_stops {res : HRes} (hres : ∀ d, res ≠ .ok d 0) :
    ringFetched s rs res = ringHostError (modRing s rs (fun r => { r with fetching := false })) rs (ringAt s rs).sqCi 0 := by
  unfold ringFetched
  dsimp only
  rw [if_neg (by simp [hfetch]), if_neg (not_not_intro hstate)]
  cases res with
  | fail k => rfl
  | ok data poison => exact if_pos fun h0 => hres data (by rw [h0])

end Fetched

/-! ### The descriptor is checked (R404, R407, R409, R410, R431) -/

section Settle
variable {d : RDesc}

theorem ringSettle_none (h : (ringAt s rs).cur = none) : ringSettle s rs = s := by
  unfold ringSettle
  dsimp only
  rw [h]

section Due
variable (hruns : bridgeRuns s (ringAt s rs).port = true) (hstate : (ringAt s rs).state = 1) (hcur : (ringAt s rs).cur = some d) (hphase : d.phase = 0)
include hruns hstate hcur hphase

theorem ringSettle_due : ringSettle s rs = if d.fence && !((ringAt s rs).longs.isEmpty && decide ((ringAt s rs).writing = 0)) then s
    else if 16 ≤ (ringAt s rs).longs.length then s else settleSeq s rs d := by
  unfold ringSettle
  dsimp only
  rw [hcur]
  exact if_neg (by simp [hruns, hstate, hphase])

theorem ringSettle_fenced (hfence : d.fence = true) (hbusy : (ringAt s rs).longs ≠ [] ∨ (ringAt s rs).writing ≠ 0) : ringSettle s rs = s := by
  rw [ringSettle_due hruns hstate hcur hphase, if_pos]
  obtain h | h := hbusy <;> simp [hfence, h]

theorem ringSettle_full (hfull : 16 ≤ (ringAt s rs).longs.length) : ringSettle s rs = s := by
  rw [ringSettle_due hruns hstate hcur hphase, if_pos hfull, ite_self]

theorem ringSettle_goes (hfree : d.fence = false ∨ ((ringAt s rs).longs = [] ∧ (ringAt s rs).writing = 0)) (hroom : (ringAt s rs).longs.length < 16) :
    ringSettle s rs = settleSeq s rs d := by
  rw [ringSettle_due hruns hstate hcur hphase, if_neg, if_neg (Nat.not_le.mpr hroom)]
  obtain h | ⟨h, h0⟩ := hfree
  · simp [h]
  · simp [h, h0]

end Due

/-- The state when a descriptor's slot has been reserved. -/
def settleStart (s : State) (rs : Nat) : State := modRing s rs (fun r => { r with owed := r.owed + 1, bufErr := 0 })

/-- The same, once a corrected error of the buffer has been recorded. -/
def settleMet (s : State) (rs : Nat) (d : RDesc) : State :=
  if (ringAt s rs).bufErr = 1 then ringRaise (settleStart s rs) rs Kind.ringBufferCorrected d.k d.seq else settleStart s rs

/-- How far a descriptor's SEQ is ahead of the one expected. -/
def settleAhead (s : State) (rs : Nat) (d : RDesc) : Nat := (d.seq + 2 ^ 32 - (ringAt (settleStart s rs) rs).nextSeq) % 2 ^ 32

theorem settleSeq_lost (h : 2 ≤ (ringAt s rs).bufErr) : settleSeq s rs d
    = settleEnd (modRing (ringRaise (settleStart s rs) rs Kind.ringBufferUncorrectable d.k d.seq) rs (fun r => { r with err := 2 })) rs d 3 0x166 false := if_pos h

section Compare
variable (hbuf : (ringAt s rs).bufErr < 2)
include hbuf

theorem settleSeq_expected (h : settleAhead s rs d = 0) :
    settleSeq s rs d = settleFields (modRing (settleMet s rs d) rs (fun r => { r with nextSeq := (r.nextSeq + 1) % 2 ^ 32 })) rs d :=
  (if_neg (Nat.not_le.mpr hbuf)).trans (if_pos h)

theorem settleSeq_behind (h : 2 ^ 31 ≤ settleAhead s rs d) : settleSeq s rs d
    = settleEnd (modRing (settleMet s rs d) rs (fun r => { r with dups := (r.dups + 1) % 2 ^ 16 })) rs d 1
        (match (ringAt (settleStart s rs) rs).recent.find? (fun e => decide (e.1 = d.seq)) with
          | some e => 256 + e.2
          | none => 0) false :=
  (if_neg (Nat.not_le.mpr hbuf)).trans ((if_neg (fun h0 => absurd (h.trans (Nat.le_of_eq h0)) (by decide))).trans (if_pos h))

theorem settleSeq_ahead (h0 : 0 < settleAhead s rs d) (h : settleAhead s rs d < 2 ^ 31) : settleSeq s rs d
    = settleEnd (modRing (ringRaise (settleMet s rs d) rs Kind.ringSeqGap d.k d.seq) rs (fun r => { r with err := 4 })) rs d 0x11 4 false :=
  (if_neg (Nat.not_le.mpr hbuf)).trans ((if_neg (Nat.ne_of_gt h0)).trans (if_neg (Nat.not_le.mpr h)))

end Compare

theorem settleStart_recent : (ringAt (settleStart s rs) rs).recent = (ringAt s rs).recent := by
  rw [settleStart, modRing, ringAt_setRing]

theorem settleFields_refused (halways : d.always = false) (h : s.clr.mode ≠ .operational ∨ armed s (ringAt s rs).part = false) :
    settleFields s rs d = settleEnd s rs d 0x16 0 true := by
  refine if_pos ?_
  obtain h | h := h <;> simp [halways, h]

section Fields
variable (hmay : d.always = true ∨ (s.clr.mode = .operational ∧ armed s (ringAt s rs).part = true))
include hmay

theorem settleFields_eq : settleFields s rs d = match d.breach with
    | some a => settleEnd (ringRaise s rs Kind.ringDescInvalid d.k d.seq) rs d 0x11 a true
    | none => setRing s rs { ringAt s rs with cur := some { d with phase := 1 }, owed := (ringAt s rs).owed + b2n d.wantsHost } := by
  unfold settleFields
  dsimp only
  rw [if_neg]
  · rfl
  · obtain h | ⟨h, h'⟩ := hmay
    · simp [h]
    · simp [h, h']

theorem settleFields_breach {a : Nat} (h : d.breach = some a) : settleFields s rs d = settleEnd (ringRaise s rs Kind.ringDescInvalid d.k d.seq) rs d 0x11 a true := by
  rw [settleFields_eq hmay, h]

theorem settleFields_good (h : d.breach = none) :
    settleFields s rs d = setRing s rs { ringAt s rs with cur := some { d with phase := 1 }, owed := (ringAt s rs).owed + b2n d.wantsHost } := by
  rw [settleFields_eq hmay, h]

end Fields
end Settle

theorem ringFetch_holds : RingFetch := by
  refine ⟨?_, fun s rs data hfetch hstate => ⟨ringFetched_copies hfetch hstate data, fun res => ringFetched_stops hfetch hstate⟩, fun _ _ _ _ => rfl,
    fun s rs d hruns hstate hcur hphase => ⟨ringSettle_fenced hruns hstate hcur hphase, ringSettle_full hruns hstate hcur hphase, ringSettle_goes hruns hstate hcur hphase⟩, ?_,
    fun s rs d => ⟨settleFields_refused, fun hmay => ⟨fun a => settleFields_breach hmay, settleFields_good hmay⟩⟩⟩
  · rintro s s1 rs r h rfl hruns hstate hany hcur hfetch hlongs hslots hread
    have hexec : exec (.descriptorFetch rs) s = .next (kept s (descriptorFetch s rs)) := rfl
    rw [hexec, descriptorFetch_reads hruns hstate hany hcur hfetch hlongs hslots, hread]
    refine ⟨fun hgoes => ?_, ?_, fun ⟨hfn, hide, hats, hpasid⟩ hroom => ?_⟩
    · cases h with
      | failed k => exact absurd rfl (hgoes k)
      | pending => rfl
      | done => rfl
    · rintro k rfl
      rfl
    · obtain ⟨hpend, hsent⟩ := ringHost_read (s := setRing s rs { ringAt s rs with fetching := true }) (r := ringAt s rs)
        (iova := (ringAt s rs).sqBase + 64 * ((ringAt s rs).sqCi % 2 ^ (ringAt s rs).sqLog2)) (len := 64) (data := []) (use := .desc rs) rfl hfn hide hats hpasid hroom
      rw [hread] at hpend hsent
      exact ⟨hpend, hsent⟩
  · rintro s m m1 rs x d rfl rfl rfl
    refine ⟨settleSeq_lost, settleSeq_expected, fun hbuf hbehind => ⟨fun e he => ?_, fun hnone => ?_⟩, fun hbuf h0 h => settleSeq_ahead hbuf h0 h⟩
    · rw [settleSeq_behind hbuf hbehind, settleStart_recent, he]
      rfl
    · rw [settleSeq_behind hbuf hbehind, settleStart_recent, hnone]
      rfl

end Sys2Proof.Machine
end

section
/-! PROOF. Completion entries, retirements and moderation (R411, R416, R422 to R429). -/

namespace Sys2Proof.Machine

variable {s x : State} {rs : Nat}

/-! ### Messages and moderation (R393, R429) -/

section Signal
variable {b f v : Nat}

theorem signalVec_beyond (h : (if f = 0 then 64 else (fnAt s b f).vecs) ≤ v) :
    signalVec s b f v = setHif s b { hifAt s b with discardedCpl := ((hifAt s b).discardedCpl + 1) % 2 ^ 16 } := if_pos h

section Within
variable (h : v < (if f = 0 then 64 else (fnAt s b f).vecs))
include h

theorem signalVec_sends (hopen : vecOpen (fnAt s b f) v = true) (hsafe : inSafe s = false) : signalVec s b f v = emit s (.msix b f v) :=
  (if_neg (Nat.not_le.mpr h)).trans (if_pos (by simp [hopen, hsafe]))

theorem signalVec_pends (hheld : vecOpen (fnAt s b f) v = false ∨ inSafe s = true) :
    signalVec s b f v = setFn s b f { fnAt s b f with pend := NSet.add (fnAt s b f).pend v } := by
  refine (if_neg (Nat.not_le.mpr h)).trans (if_neg ?_)
  obtain hheld | hheld := hheld <;> simp [hheld]

end Within
end Signal

/-- A ring set once an entry of it has been written. -/
def entryCounted (s : State) (rs : Nat) : State := setRing s rs { ringAt s rs with
  writing := (ringAt s rs).writing - 1, pendN := (ringAt s rs).pendN + 1, deadline := some ((ringAt s rs).deadline.getD (now s + 1600 * (ringAt s rs).modTime)) }

theorem entryWritten_eq (irq : Bool) : entryWritten s rs irq
    = if (ringAt s rs).modCount ≠ 0 ∧ ((ringAt s rs).modCount ≤ (ringAt s rs).pendN + 1 ∨ (ringAt s rs).modTime = 0 ∨ irq = true)
      then ringSignal (entryCounted s rs) rs else entryCounted s rs := rfl

theorem entryWritten_waits {irq : Bool}
    (h : (ringAt s rs).modCount = 0 ∨ ((ringAt s rs).pendN + 1 < (ringAt s rs).modCount ∧ (ringAt s rs).modTime ≠ 0 ∧ irq = false)) :
    entryWritten s rs irq = entryCounted s rs := by
  refine if_neg ?_
  rintro ⟨hcount, hdue⟩
  obtain h0 | ⟨hpend, htime, rfl⟩ := h
  · exact hcount h0
  · obtain hdue | hdue | hdue := hdue
    · exact absurd hpend (Nat.not_lt.mpr hdue)
    · exact htime hdue
    · exact Bool.false_ne_true hdue

theorem moderationTimer_due {d : Nat} (hruns : bridgeRuns s (ringAt s rs).port = true) (hdl : (ringAt s rs).deadline = some d) (hd : d ≤ now s)
    (hpend : (ringAt s rs).pendN ≠ 0) (hcount : (ringAt s rs).modCount ≠ 0) : moderationTimer s rs = ringSignal s rs := by
  unfold moderationTimer
  dsimp only
  rw [hdl]
  exact if_pos (by simp [hruns, hpend, hcount, hd])

/-! ### An entry is written (R422, R425) -/

/-- What the bookkeeping after an entry's write leaves alone: `t` differs from `s` by messages sent, the bridge, the functions, and
ring set `rs`'s counts. -/
structure EntryKept (rs : Nat) (s t : State) : Prop where
  sent : ∃ l, t.sent = s.sent ++ l
  cur : (ringAt t rs).cur = (ringAt s rs).cur
  longs : (ringAt t rs).longs = (ringAt s rs).longs
  cqPi : (ringAt t rs).cqPi = (ringAt s rs).cqPi
  recent : (ringAt t rs).recent = (ringAt s rs).recent
  units : t.tiles = s.tiles ∧ t.sch = s.sch ∧ t.net = s.net ∧ t.outs = s.outs

theorem EntryKept.refl (rs : Nat) (s : State) : EntryKept rs s s := ⟨⟨[], (List.append_nil _).symm⟩, rfl, rfl, rfl, rfl, rfl, rfl, rfl, rfl⟩

theorem EntryKept.trans {t u : State} (h : EntryKept rs s t) (k : EntryKept rs t u) : EntryKept rs s u := by
  obtain ⟨l, hl⟩ := h.sent
  obtain ⟨m, hm⟩ := k.sent
  obtain ⟨htiles, hsch, hnet, houts⟩ := h.units
  obtain ⟨ktiles, ksch, knet, kouts⟩ := k.units
  exact ⟨⟨l ++ m, by rw [hm, hl, List.append_assoc]⟩, k.cur.trans h.cur, k.longs.trans h.longs, k.cqPi.trans h.cqPi, k.recent.trans h.recent,
    ktiles.trans htiles, ksch.trans hsch, knet.trans hnet, kouts.trans houts⟩

/-- A change of the ring set's other fields. -/
theorem EntryKept.of_setRing {r : RingSet} (hcur : r.cur = (ringAt s rs).cur) (hlongs : r.longs = (ringAt s rs).longs) (hcqPi : r.cqPi = (ringAt s rs).cqPi)
    (hrecent : r.recent = (ringAt s rs).recent) : EntryKept rs s (setRing s rs r) :=
  ⟨⟨[], (List.append_nil _).symm⟩, by rw [ringAt_setRing, hcur], by rw [ringAt_setRing, hlongs], by rw [ringAt_setRing, hcqPi], by rw [ringAt_setRing, hrecent], rfl, rfl, rfl, rfl⟩

theorem signalVec_kept (b f v : Nat) : EntryKept rs s (signalVec s b f v) := by
  obtain h | h := Nat.lt_or_ge v (if f = 0 then 64 else (fnAt s b f).vecs)
  · by_cases hopen : vecOpen (fnAt s b f) v = true ∧ inSafe s = false
    · rw [signalVec_sends h hopen.1 hopen.2]
      exact ⟨⟨[_], rfl⟩, rfl, rfl, rfl, rfl, rfl, rfl, rfl, rfl⟩
    · rw [signalVec_pends h (by simpa [-not_and, not_and_or] using hopen)]
      exact ⟨⟨[], (List.append_nil _).symm⟩, rfl, rfl, rfl, rfl, rfl, rfl, rfl, rfl⟩
  · rw [signalVec_beyond h]
    exact ⟨⟨[], (List.append_nil _).symm⟩, rfl, rfl, rfl, rfl, rfl, rfl, rfl, rfl⟩

theorem entryWritten_kept (irq : Bool) : EntryKept rs s (entryWritten s rs irq) := by
  have hcounted : EntryKept rs s (entryCounted s rs) := .of_setRing rfl rfl rfl rfl
  rw [entryWritten_eq]
  split
  · have hset : EntryKept rs (entryCounted s rs) (setRing (entryCounted s rs) rs { ringAt (entryCounted s rs) rs with pendN := 0, deadline := none }) := .of_setRing rfl rfl rfl rfl
    exact (hcounted.trans hset).trans (signalVec_kept _ _ _)
  · exact hcounted

theorem ringDrain_kept : EntryKept rs s (ringDrain s rs) := by
  unfold ringDrain
  dsimp only
  split
  · exact .of_setRing rfl rfl rfl rfl
  · exact .refl rs s

section Post
variable {seq op st value detail : Nat} {retire irq : Bool}

theorem postEntry_discards (h : (ringAt s rs).state = 0 ∨ (ringAt s rs).state = 3) : postEntry s rs seq op st retire value detail irq
    = setHif s (ringAt s rs).port { hifAt s (ringAt s rs).port with discardedCpl := ((hifAt s (ringAt s rs).port).discardedCpl + 1) % 2 ^ 16 } := if_pos h

/-- The entry's write leaves the bridge at once. -/
theorem postEntry_writes (hstate : (ringAt s rs).state = 1 ∨ (ringAt s rs).state = 2) (hposts : RingPosts s rs) :
    ∃ x, postEntry s rs seq op st retire value detail irq = entryWritten x rs irq ∧ x.sent = s.sent ++ [entryWrite s rs seq op st retire value detail]
      ∧ ringAt x rs = { ringAt s rs with cqPi := ((ringAt s rs).cqPi + 1) % 2 ^ 32, owed := (ringAt s rs).owed - 1, writing := (ringAt s rs).writing + 1 }
      ∧ x.tiles = s.tiles ∧ x.sch = s.sch ∧ x.net = s.net ∧ x.outs = s.outs := by
  obtain ⟨hfn, hide, hats, hpasid⟩ := hposts
  obtain ⟨h, hwrite⟩ := ringHost_write (s := setRing s rs { ringAt s rs with cqPi := ((ringAt s rs).cqPi + 1) % 2 ^ 32, owed := (ringAt s rs).owed - 1, writing := (ringAt s rs).writing + 1 })
    (r := ringAt s rs) (iova := (ringAt s rs).cqBase + 32 * ((ringAt s rs).cqPi % 2 ^ (ringAt s rs).cqLog2)) (len := 32)
    (data := entryBytes s (ringAt s rs) seq op st retire value detail) (use := .entry rs irq) rfl hfn hide hats hpasid
  unfold postEntry
  dsimp only
  rw [if_neg (by omega), hwrite]
  exact ⟨_, rfl, rfl, ringAt_setRing s rs _, rfl, rfl, rfl, rfl⟩

end Post

/-! ### A descriptor completes (R404, R406, R425) -/

section Complete
variable {k st value detail : Nat} {d : RDesc}

/-- Ring set `rs` when its descriptor `d` has been taken out. -/
def ringTaken (s : State) (rs : Nat) (d : RDesc) (st : Nat) : State :=
  setRing s rs (noteRecent { ringAt s rs with
    cur := none
    longs := (ringAt s rs).longs.filter (fun x => x.k != d.k)
    owed := if d.wantsHost && statusFails st then (ringAt s rs).owed - 1 else (ringAt s rs).owed } d.seq st)

theorem ringComplete_takes (hk : d.k = k)
    (hfind : (ringAt s rs).cur = some d ∨ ((ringAt s rs).cur = none ∧ (ringAt s rs).longs.find? (fun d => decide (d.k = k)) = some d)) : ringComplete s rs k st value detail
      = ringSettle (ringDrain (postEntry (ringTaken s rs d st) rs d.seq d.op st false value detail d.irq) rs) rs := by
  subst hk
  unfold ringComplete ringTaken
  dsimp only
  obtain hcur | ⟨hcur, hlong⟩ := hfind
  · rw [hcur]
    dsimp only
    rw [List.singleton_append, List.find?_cons_of_pos (by simp)]
    dsimp only
    rw [if_pos rfl]
  · rw [hcur]
    dsimp only
    rw [List.nil_append, hlong]

theorem ringComplete_writes (hposts : RingPosts s rs) (hstate : (ringAt s rs).state = 1 ∨ (ringAt s rs).state = 2) (hk : d.k = k)
    (hfind : (ringAt s rs).cur = some d ∨ ((ringAt s rs).cur = none ∧ (ringAt s rs).longs.find? (fun d => decide (d.k = k)) = some d)) :
    ∃ t l, t = ringComplete s rs k st value detail ∧ t.sent = s.sent ++ entryWrite s rs d.seq d.op st false value detail :: l
      ∧ (ringAt t rs).cur = none ∧ (∀ e ∈ (ringAt t rs).longs, e.k ≠ k) ∧ (ringAt t rs).cqPi = ((ringAt s rs).cqPi + 1) % 2 ^ 32
      ∧ (ringAt t rs).recent.head? = some (d.seq, st) ∧ t.tiles = s.tiles ∧ t.sch = s.sch ∧ t.net = s.net ∧ t.outs = s.outs := by
  have hring := ringAt_setRing s rs (noteRecent { ringAt s rs with
    cur := none
    longs := (ringAt s rs).longs.filter (fun x => x.k != d.k)
    owed := if d.wantsHost && statusFails st then (ringAt s rs).owed - 1 else (ringAt s rs).owed } d.seq st)
  change ringAt (ringTaken s rs d st) rs = _ at hring
  have hopens : RingPosts (ringTaken s rs d st) rs := by
    unfold RingPosts
    rw [hring]
    exact hposts
  have hentry : entryWrite (ringTaken s rs d st) rs d.seq d.op st false value detail = entryWrite s rs d.seq d.op st false value detail := by
    unfold entryWrite
    rw [hring]
    rfl
  obtain ⟨x, hpost, hsent, hx, hunits⟩ := postEntry_writes (s := ringTaken s rs d st) (rs := rs) (seq := d.seq) (op := d.op) (st := st) (value := value) (detail := detail)
    (retire := false) (irq := d.irq) (by rw [hring]; exact hstate) hopens
  rw [hring] at hx
  rw [hentry] at hsent
  have hkept : EntryKept rs x (ringDrain (postEntry (ringTaken s rs d st) rs d.seq d.op st false value detail d.irq) rs) := by
    rw [hpost]
    exact (entryWritten_kept d.irq).trans ringDrain_kept
  rw [ringComplete_takes hk hfind, ringSettle_none (by rw [hkept.cur, hx]; rfl)]
  generalize ringDrain (postEntry (ringTaken s rs d st) rs d.seq d.op st false value detail d.irq) rs = t at hkept
  obtain ⟨⟨l, hl⟩, hcur, hlongs, hcqPi, hrecent, htiles, hsch, hnet, houts⟩ := hkept
  obtain ⟨xtiles, xsch, xnet, xouts⟩ := hunits
  refine ⟨t, l, rfl, ?_, ?_, ?_, ?_, ?_, htiles.trans xtiles, hsch.trans xsch, hnet.trans xnet, houts.trans xouts⟩
  · rw [hl, hsent, List.append_assoc]
    rfl
  · rw [hcur, hx]
    rfl
  · rw [hlongs, hx, ← hk]
    intro e he
    simpa using (List.mem_filter.mp he).2
  · rw [hcqPi, hx]
    rfl
  · rw [hrecent, hx]
    rfl

end Complete

/-! ### Retirement and sifter completions (R411, R416, R428) -/

section Cpl
variable {u handle status detail b : Nat} {rq : Rq}

/-- What a completion does to its ring set. -/
def cplEffect (s : State) (b rs : Nat) (retirement : Bool) (handle status detail : Nat) : State :=
  if retirement then
    (match (ringAt s rs).retire.find? (fun x => decide (x.1 = handle)) with
    | some x => ringDrain (postEntry (setRing s rs { ringAt s rs with retire := (ringAt s rs).retire.erase x }) rs x.2 2 status true handle detail false) rs
    | none => discardCpl s b)
  else
    (match (ringAt s rs).longs.find? (fun d => decide (d.op = 8) && decide (d.seq = handle)) with
    | some d => ringComplete s rs d.k status 0 detail
    | none => s)

/-- A completion that arrives is answered, and does what it says. -/
theorem exec_cplPost (hb : bridgeOf u = some b) (h : ReachesNew s u rq (.cplPost rs handle status detail)) :
    exec (.cplPost u rq rs handle status detail) s = .next (kept s (answeredKept
      (cplEffect (takePkt s (reqPkt u rq (.cplPost rs handle status detail))) b rs (decide (rq.src / 4 = 0x301)) handle status detail) u rq (.result (resultWord false 0 0)))) := by
  obtain ⟨⟨hwork, harrives, hslice⟩, hnew⟩ := h
  have hexec : exec (.cplPost u rq rs handle status detail) s = .next (kept s (cplPost s u rq rs handle status detail)) := rfl
  rw [hexec]
  unfold cplPost
  rw [hb]
  dsimp only
  rw [if_neg (by simp [hwork]), arriveReq_served _ harrives,
    cachedReq_kept (s := takePkt s _) (t := cplEffect (takePkt s (reqPkt u rq (.cplPost rs handle status detail))) b rs (decide (rq.src / 4 = 0x301)) handle status detail)
      (r := .result (resultWord false 0 0)) (by rw [sliceLeft_takePkt]; exact hslice) hnew]
  unfold cplEffect
  by_cases hsrc : rq.src / 4 = 0x301
  · rw [if_pos hsrc, if_pos (by simp [hsrc])]
    dsimp only
    cases (ringAt (takePkt s (reqPkt u rq (.cplPost rs handle status detail))) rs).retire.find? (fun x => decide (x.1 = handle)) with
    | none => rfl
    | some x => rfl
  · rw [if_neg hsrc, if_neg (by simp [hsrc])]
    cases (ringAt (takePkt s (reqPkt u rq (.cplPost rs handle status detail))) rs).longs.find? (fun d => decide (d.op = 8) && decide (d.seq = handle)) with
    | none => rfl
    | some d => rfl

theorem cplEffect_retires {x : Nat × Nat} (h : (ringAt s rs).retire.find? (fun x => decide (x.1 = handle)) = some x) : cplEffect s b rs true handle status detail
    = ringDrain (postEntry (setRing s rs { ringAt s rs with retire := (ringAt s rs).retire.erase x }) rs x.2 2 status true handle detail false) rs := by
  unfold cplEffect
  rw [h]
  rfl

theorem cplEffect_unreserved (h : (ringAt s rs).retire.find? (fun x => decide (x.1 = handle)) = none) :
    cplEffect s b rs true handle status detail = discardCpl s b := by
  unfold cplEffect
  rw [h]
  rfl

theorem cplEffect_sifts {d : RDesc} (h : (ringAt s rs).longs.find? (fun d => decide (d.op = 8) && decide (d.seq = handle)) = some d) :
    cplEffect s b rs false handle status detail = ringComplete s rs d.k status 0 detail := by
  unfold cplEffect
  rw [h]
  rfl

theorem cplEffect_unknown (h : (ringAt s rs).longs.find? (fun d => decide (d.op = 8) && decide (d.seq = handle)) = none) :
    cplEffect s b rs false handle status detail = s := by
  unfold cplEffect
  rw [h]
  rfl

end Cpl

theorem ringEntries_holds : RingEntries := by
  refine ⟨fun s rs k st value detail d hposts hstate hk hfind => ringComplete_writes hposts hstate hk hfind, fun s rs seq op st value detail retire irq => ⟨postEntry_discards,
      fun hstate hposts => ?_⟩, ?_,
    fun s rs d hruns hdl hd hpend hcount => ?_, fun _ _ => rfl, fun s b f v => ⟨signalVec_beyond, fun h => ⟨signalVec_sends h, signalVec_pends h⟩⟩, ?_⟩
  · obtain ⟨x, hpost, hsent, hring, -⟩ := postEntry_writes (seq := seq) (op := op) (st := st) (value := value) (detail := detail) (retire := retire) (irq := irq) hstate hposts
    exact ⟨x, hpost, hsent, hring⟩
  · rintro s m u rs handle status detail b rq hb hnew rfl
    rw [exec_cplPost hb hnew]
    refine ⟨fun x hsrc hfind => ?_, fun hsrc hfind => ?_, fun d hsrc hfind => ?_, fun hsrc hfind => ?_⟩
    · rw [decide_eq_true hsrc, cplEffect_retires (s := takePkt s _) hfind]
      rfl
    · rw [decide_eq_true hsrc, cplEffect_unreserved (s := takePkt s _) hfind]
      rfl
    · rw [decide_eq_false hsrc, cplEffect_sifts (s := takePkt s _) hfind]
    · rw [decide_eq_false hsrc, cplEffect_unknown (s := takePkt s _) hfind]
  · have hexec : exec (.moderationTimerExpiry rs) s = .next (kept s (moderationTimer s rs)) := rfl
    rw [hexec, moderationTimer_due hruns hdl hd hpend hcount]
  · rintro s x rs irq rfl
    exact ⟨fun hcount hdue => if_pos ⟨hcount, hdue⟩, entryWritten_waits⟩

/-- Settles O51: doorbell pages, the fetch of descriptors with its checks, and entries with their moderation. -/
theorem ringSets : Obligations.RingSets := ⟨ringPages_holds, ringFetch_holds, ringEntries_holds⟩

end Sys2Proof.Machine
end
